-- ==== Sys2Proof/Word.lean ====
section
/-! DEFINITION. The words of the part: register words (R3), addresses of the carry network (R15), TIME values (R270). -/

namespace Sys2Proof

/-- A register word: 32 bits, little-endian (R3). -/
abbrev Word := BitVec 32
/-- A byte of memory. -/
abbrev Byte := BitVec 8
/-- An address of the carry network's 48-bit map (R15). -/
abbrev Addr := BitVec 48
/-- A value of TIME, in ticks (R8, R270), or any other 64-bit quantity. -/
abbrev DWord := BitVec 64

end Sys2Proof
end

