-- ==== Sys2Proof/Syntax/Operands.lean ====
section
/-! DEFINITION. The operands of commands that State holds as well: who made a request, the functions of the common stop
protocol, the beads of the fabric. -/

namespace Sys2Proof

/-- Who made a request: the ledger's origin code, and the NI that carried it, 0xFF for none (R441, R442). -/
structure Who where
  origin : BitVec 8
  ni : BitVec 8
  deriving DecidableEq, Repr

/-- The functions that follow the common stop protocol of R36: queue controllers, NIs, lane quads, host DMA channels,
store channels, sequencer cores, the record controller and the Beam map. -/
inductive Func where
  | queue (q : Nat)
  | ni (n : Nat)
  | quad (q : Nat)
  | dma (c : Nat)
  | channel (c : Nat)
  | core (n : Nat)
  | record
  | beam
  deriving DecidableEq, Repr

/-- One digit's four rails, RAIL3 to RAIL0 (R41). -/
abbrev Rails := BitVec 4
/-- The value of a digit. -/
abbrev Digit := BitVec 2

/-- A logic cell named by logical rod, tile row and cell (R40). -/
structure CellId where
  rod : Nat
  row : Nat
  cell : Nat
  deriving DecidableEq, Repr

/-- The outputs of the fabric from which a consumer takes a bead. -/
inductive BeadSource where
  /-- a cell's holding stage (R48) -/
  | cell (c : CellId)
  /-- an arbitration cell's grant channel (R52) -/
  | arbiter (rod row arb : Nat)
  /-- P, ST or CASC_OUT of a reckoner (R55) -/
  | reckonerP (rod k : Nat)
  | reckonerST (rod k : Nat)
  | reckonerCasc (rod k : Nat)
  /-- the tap of fabric trigger input n (R89) -/
  | fti (n : Nat)
  /-- the input channel of a pin station (R83) -/
  | pin (p : Nat)
  /-- the read channel RD of a block-memory port, and its status channel RS (R94) -/
  | memRd (rod mem port : Nat)
  | memRs (rod mem port : Nat)
  /-- the channels CD, CC, CE and LV of a queue (R106) -/
  | queueData (q : Nat)
  | queueControl (q : Nat)
  | queueEvent (q : Nat)
  | queueLevel (q : Nat)
  /-- IR, TQ, UQ or EV channel of a fabric NI, 0 to 3 (R227) -/
  | niChannel (ni chan : Nat)
  /-- the ICP result channel ICP_R (R168) -/
  | icpResult
  /-- the fabric event channel (R35) -/
  | eventChannel
  deriving DecidableEq, Repr

/-- The input channels of the fabric: what takes beads. -/
inductive BeadSink where
  /-- the input of a cell's holding stage; its digits are ports A to D as 0 to 3, or the data inputs of its chain, and
  select digits S0 to S2 as 64 to 66 (R44, R53) -/
  | cell (c : CellId)
  /-- request channel r of an arbitration cell (R52) -/
  | request (rod row arb r : Nat)
  /-- channels REQ and WD of a block-memory port (R94) -/
  | memReq (rod mem port : Nat)
  | memData (rod mem port : Nat)
  /-- ports A, D, B, C, OP of a reckoner, 0 to 4 (R55, R140) -/
  | reckoner (rod k port : Nat)
  /-- channels PD, PC and FL of a queue (R106) -/
  | queueData (q : Nat)
  | queueControl (q : Nat)
  | queueFlush (q : Nat)
  /-- the output channel of a pin station (R83) -/
  | pin (p : Nat)
  /-- fabric trigger output n (R88) -/
  | fto (n : Nat)
  /-- IQ and TR of a fabric NI, 0 and 1 (R227) -/
  | niChannel (ni chan : Nat)
  /-- ICP_CMD and ICP_D (R168) -/
  | icpCommand
  | icpData
  deriving DecidableEq, Repr

/-- Rails that an upset raises beside the one a digit drives (R43): the digit's number in its channel, and the rails. -/
abbrev Upset := List (Nat × Rails)

/-- The outputs of the hard blocks of a rod, which a source code may select (R17, R71): what is beside its own rod is
named without it; ni is the rod's fabric NI of its belt (R227). -/
inductive RodOutput where
  | grant (row arb : Nat)
  | memRd (mem port : Nat)
  | memRs (mem port : Nat)
  | reckonerP (k : Nat)
  | reckonerST (k : Nat)
  | queueData (j : Nat)
  | queueControl (j : Nat)
  | queueEvent (j : Nat)
  | queueLevel (j : Nat)
  /-- the station of the rod's north (false) or south (true) pin -/
  | pin (south : Bool)
  | fti (n : Nat)
  | ni (belt chan : Nat)
  | icpResult
  | eventChannel
  deriving DecidableEq, Repr

/-- What an ECC check of a stored word or row found (R98, R331, R374): nothing; one wrong bit, which was corrected; or
wrong bits that cannot be corrected, flip naming the data bits stored wrong. -/
inductive EccFinding where
  | clean
  | corrected (bit : Nat)
  | uncorrectable (flip : Nat)
  deriving DecidableEq, Repr

/-- How one attempt of a PMBus transaction of the voltage loop ends (R67, R68): with data, with a NACK, with data whose PEC
does not match, or with the bus held low. -/
inductive PmbResult where
  | data (v : Nat)
  | nack
  | pec (v : Nat)
  | busLow
  deriving DecidableEq, Repr

/-- A volume header on a drive (R347). -/
structure VolumeHeader where
  drives : Nat
  index : Nat
  stripes : Nat
  volume : BitVec 64
  deriving DecidableEq, Repr

/-- A catalogue entry (R352). -/
structure CatEntry where
  seq : Nat
  record : Nat
  channel : Nat
  flags : Nat
  failed : Nat
  first : Nat
  bytes : Nat
  startAt : Nat
  closeAt : Nat
  stripes : Nat
  deriving DecidableEq, Repr

/-- What a drive that has been inserted holds: its volume header, when it is good, and the good entries of its catalogue
(R347, R348, R352). -/
structure Media where
  header : Option VolumeHeader
  entries : List CatEntry
  deriving DecidableEq, Repr

/-- What an attach ends with (R345): link speed, width, cache, LBA size and namespace bytes, or R344 is not met. -/
inductive AttachResult where
  | ready (gen width : Nat) (vwc lba4k : Bool) (bytes : Nat) (media : Option Media)
  | failed (cause : Nat)
  deriving DecidableEq, Repr

/-- What a lane's line carries (R314, R322): a 64b/66b block as it is received, its sync header and its 64 bits with the
first in bit 0; octets in the order that the coding's standard defines, of a block's payload or of 8b/10b characters; or 64
unframed bits, the first in bit 0. -/
inductive LineWord where
  | block (header : BitVec 2) (bits : BitVec 64)
  | octets (xs : List Byte)
  | bits (b : BitVec 64)
  deriving DecidableEq, Repr

/-- What a lane finds at a release tick (R320): a complete extended multiblock, none, or a fifth one held. -/
inductive Multiblock where
  | complete (line : List LineWord)
  | none
  | fifth
  deriving DecidableEq, Repr

/-- The windows of R360: PF0's CSR, HBM and fabric BARs, and PF1's DBG window. -/
inductive BarWindow where
  | csr | hbm | fabric | debug
  deriving DecidableEq, Repr

/-- What a host request asks of a BAR (R357, R361). -/
inductive BarKind where
  | read
  | write (data : List Byte) (be : List Bool)
  | fetchAdd (operand : DWord)
  /-- a request with locked semantics, a Swap or a CAS: not supported -/
  | unsupported
  deriving DecidableEq, Repr

/-- A host BAR request: its PCI Express tag, the window, the offset in it, and its length in bytes less one. -/
structure BarRequest where
  tag : Nat
  window : BarWindow
  offset : Nat
  len : Nat
  kind : BarKind
  deriving DecidableEq, Repr

/-- A configuration request (R359, R363, R370). -/
inductive HostConfig where
  /-- a write of PF0's Bus Master Enable -/
  | busMaster (on : Bool)
  /-- a write of PF0's MSI-X Enable and Function Mask -/
  | msix (enable mask : Bool)
  /-- a write of PF0's Device Control: max payload and max read request size, in bytes -/
  | sizes (payload read : Nat)
  /-- a write of PF0's power state: D3hot, or D0 -/
  | power (d3 : Bool)
  /-- a read of a dword of PF0's or PF1's configuration space -/
  | read (pf offset : Nat)
  /-- any other write -/
  | other
  deriving DecidableEq, Repr

/-- A PCI Express completion from the host (R365): data, or an error by its DETAIL code. -/
inductive HostAnswer where
  | data (bytes : List Byte)
  | unsupported
  | abort
  | poisoned
  deriving DecidableEq, Repr

/-- The read-modify-write operations of RV32A (R373). -/
inductive Amo where
  | swap | add | xor | and | or | min | max | minu | maxu
  deriving DecidableEq, Repr

/-- What a core does at an address of its TCMs, the boot ROM or the shared SRAM (R373, R374). A load, LR, SC or AMO
names the register it fills. -/
inductive LocalAccess where
  | fetch
  | load (bytes : Nat) (signed : Bool) (rd : Nat)
  | store (bytes : Nat) (data : Word)
  | lr (rd : Nat)
  | sc (rd : Nat) (data : Word)
  | amo (op : Amo) (rd : Nat) (data : Word)
  deriving DecidableEq, Repr

/-- What one instruction of a core did to its registers and CSRs, and the pc after it (R425). What an instruction does
is RV32IMAC's matter, which the spec does not lay down. -/
structure CoreStep where
  x : List (Nat × Word)
  csrs : List (Nat × Word)
  pc : Word
  deriving DecidableEq, Repr

/-- What the comparators of a core see of one instruction (R429): its address, the address after it, and its load (false)
or store (true) with the address and the data. -/
structure Insn where
  pc : Word
  next : Word
  access : Option (Bool × Word × Word)
  deriving DecidableEq, Repr

/-- Why a core is to halt (R425): a write of CORE_RC.HALT, or an EBREAK it executes at an address. -/
inductive HaltBy where
  | request (who : Who)
  | ebreak (pc : Word)
  deriving DecidableEq, Repr

/-- The units of R398 that have FIFOs. -/
inductive Periph where
  | i2c (u : Nat)
  | spi (u : Nat)
  | uart (u : Nat)
  | pmb
  deriving DecidableEq, Repr

/-- What a peripheral's work comes to on its wires (R398, R412): a step of an I2C read, the end of an I2C transfer, of an
SPI frame, of a UART byte, or of a PMBus transaction. -/
inductive PeriphEnd where
  | i2cBytes (u : Nat) (data : List Byte)
  | i2cDone (u : Nat)
  | i2cNack (u : Nat)
  | i2cArbLost (u : Nat)
  | i2cTimeout (u : Nat)
  | spiFrame (u : Nat) (data : Word)
  | uartByte (u : Nat)
  | pmbDone (data : List Byte)
  | pmbNack
  | pmbPec (data : List Byte)
  | pmbBusLow
  deriving DecidableEq, Repr

/-- What an outside I2C controller does to an addressed target (R398): it writes bytes, or reads a number of them. -/
inductive TargetUse where
  | write (data : List Byte)
  | read (count : Nat)
  deriving DecidableEq, Repr

/-- What comes from the source of a load (R126, R143): the next word from flash or JTAG, the next word of a store slot,
an error of the source, or its end. -/
inductive StreamWord where
  | word (w : Word)
  | store
  | error
  | ended
  deriving DecidableEq, Repr

/-- What the scrub of a frame finds (R155): nothing, one wrong bit of a quarter, or wrong bits that cannot be corrected,
which flip names; same says that the source in external flash still holds the image the frame was loaded from. -/
inductive FrameFinding where
  | clean
  | single
  | double (flip : BitVec 4096) (same : Bool)
  deriving DecidableEq, Repr

/-- What a slice, or the test of a spare, finds in a physical rod (R178, R180): the part that is faulty by its cause, 0 for
none; its faulty tile rows, 0 to 99; and the spare rows that block memories need. -/
structure SliceResult where
  cause : Nat
  rows : List Nat
  spares : List (Nat × Nat)
  deriving DecidableEq, Repr

/-- How the pre-copy of a roving step ends (R186, R187): copied; a write to the spare failed; or copied after a frame of
the source read with a double-bit error. -/
inductive PreCopy where
  | copied
  | writeFails
  | double (frame : Nat) (flip : BitVec 4096) (same : Bool)
  deriving DecidableEq, Repr

end Sys2Proof
end

