-- ==== Sys2Proof/Syntax/Packet.lean ====
section
/-! DEFINITION. Packets and units of the carry network as commands carry them (R203 to R208), the units' requests, and
what ECC and control checks find. -/

namespace Sys2Proof

/-- The commands of R206; every other code is reserved. -/
inductive Cmd where
  | rd | wr | wrp | fadd | cfg | evt | rspData | rspOk | rspErr
  | reserved (code : Nat)
  deriving DecidableEq, Repr

/-- The code of a command (R206). -/
def Cmd.code : Cmd → Nat
  | .rd => 1
  | .wr => 2
  | .wrp => 3
  | .fadd => 4
  | .cfg => 5
  | .evt => 6
  | .rspData => 8
  | .rspOk => 9
  | .rspErr => 10
  | .reserved n => n

/-- A packet: the fields of its header (R205), its virtual network and priority, and its data bytes from ADDR on (one
for each byte of ADDR to ADDR + LEN of a write, or of the data a response returns). -/
structure Packet where
  cmd : Cmd
  src : Nat
  dest : Nat
  tag : Nat
  record : BitVec 16
  err : Nat
  attr : BitVec 8
  addr : Nat
  len : Nat
  beFirst : BitVec 64
  beLast : BitVec 64
  operand : DWord
  injTime : Word
  route : BitVec 48
  vn : Nat
  prio : Nat
  data : List Byte
  /-- the target stored a poison check code with the data (R334) -/
  poison : Bool
  deriving DecidableEq, Repr

/-- Who, behind an NI, waits for the response of a request. -/
inductive Use where
  /-- nothing further hangs on it -/
  | none
  /-- user logic, on IR (R229), with the RSP_PRIO its header asks for (R208, R228) -/
  | fabric (rspPrio : Nat)
  /-- a host BAR or window access, by its PCI Express tag (R361) -/
  | host (tag : Nat)
  /-- DMA channel c, descriptor d (R367) -/
  | dma (c d : Nat)
  /-- an aperture or far-window access of core n (R375) -/
  | core (n : Nat)
  /-- a core's FENCE (R375) -/
  | coreFence (n : Nat)
  /-- a debug memory port: 4 the port of NI 0x9A, n the port of core n (R425, R433) -/
  | debug (port : Nat)
  /-- the configuration engine: a host fetch or a readback transfer (R126, R171) -/
  | engine
  /-- a transmit chunk of a lane (R313) -/
  | laneTx (lane chunk : Nat)
  /-- a memory request of drive d (R345) -/
  | drive (d : Nat)
  /-- a drain marker (R284) -/
  | marker
  deriving DecidableEq, Repr

/-- A request as a unit hands it to its NI (R228, R375, R361): an URGENT request asks for U class (R233); tag is chosen
by user logic of a fabric NI only. -/
structure Request where
  cmd : Cmd
  addr : Nat
  len : Nat
  be : List Bool
  operand : DWord
  data : List Byte
  dbg : Bool
  mgmt : Bool
  urgent : Bool
  tag : Nat
  use : Use
  deriving DecidableEq, Repr

/-- What the end-to-end ECC of a packet finds at its destination (R222). -/
inductive PacketEcc where
  | clean
  | corrected (words : Nat)
  | badHeader
  | badData
  deriving DecidableEq, Repr

/-- What a check of control bits or of word 0 finds (R203, R205). -/
inductive Finding where
  | clean | corrected | uncorrectable
  deriving DecidableEq, Repr

/-- What an access to HBM finds in one of the words it touches (R334, R336): the word, counted from the first, the finding,
and whether the bank has a spare for the word's row. -/
structure WordFinding where
  word : Nat
  found : EccFinding
  spare : Bool
  deriving DecidableEq, Repr

/-- A unit (R200, R203, R204): its control bits, its payload, and the wires of payload and ECC, 0 to 575, that have come
to differ from what its source sent. -/
structure FlowUnit where
  vn : Nat
  head : Bool
  tail : Bool
  prio : Nat
  aged : Bool
  payload : BitVec 512
  flips : List Nat
  deriving DecidableEq, Repr

end Sys2Proof
end

