-- ==== Sys2Proof/Syntax/Part.lean ====
section
/-! DEFINITION. The three variants of the part (R1) and what tells two parts of one variant apart. -/

namespace Sys2Proof

/-- The variants of R1: HZT-3128-F, HZT-3128-N, HZT-1664-M. -/
inductive Variant where
  | F | N | M
  deriving DecidableEq, Repr

/-- The part as built: its variant and its silicon stepping (DEV.ID.STEP). -/
structure Part where
  variant : Variant
  stepping : BitVec 4
  deriving DecidableEq, Repr

end Sys2Proof
end

