-- ==== Sys2Proof/Syntax/Reg.lean ====
section
/-! DEFINITION. The control and status registers of the part, one name per register table of the spec
(BLOCK_REGISTER as the spec writes BLOCK.REGISTER); a repeated register is one name and an instance number. -/

namespace Sys2Proof

/-- One name per register of the spec's register tables (R3). -/
inductive Reg where
  | DEV_ID | DEV_CAPS | DEV_ABSENT_LOG | DEV_ABSENT_ORIGIN | DEV_STATUS | DEV_CTRL | DEV_RESET_CAUSE
  | DEV_FRESET | DEV_EVT_PEND | DEV_EVT_HOST_MASK | DEV_EVT_FAB_MASK | DEV_EVT_ACK | DEV_EVT_CORE_MASK
  | DEV_EVT_VECMAP | DEV_XS_CTRL | DEV_XS_STATUS | DEV_XS_LOG | DEV_XS_LOG_TIME_LO | DEV_XS_LOG_TIME_HI
  | DEV_XS_ISLAND_CLK | DEV_XS_QUAD_CLK | DEV_XS_STATE | DEV_XS_CNT
  | PWR_RATE_CTRL | PWR_RATE_SEL | PWR_RATE_VALUE | PWR_RATE_MIN | PWR_RATE_MAX | PWR_VLOOP_CTRL
  | PWR_VLOOP_TARGET | PWR_VLOOP_LIMITS | PWR_VLOOP_STEP | PWR_VLOOP_STATUS | PWR_VLOOP_VOUT | PWR_STATE_CTRL
  | PWR_STATE_STATUS | PWR_REGION_CTRL | PWR_QUAD_CTRL | PWR_REGION_STATUS | PWR_QUAD_STATUS | PWR_STATUS
  | PWR_SUPPLY | PWR_TEMP | PWR_TEMP_CFG | PWR_WAKE_EN | PWR_WAKE_CAUSE
  | CFG_CONT_STATUS | CFG_CONT_SEG | CFG_CONT_DRIVERS | CFG_DRV_REFUSE | CFG_STATUS | CFG_CAUSE
  | CFG_FAIL_OFFSET | CFG_LOADED | CFG_CMD | CFG_LOAD_CTRL | CFG_SRC_TIMEOUT | CFG_FETCH_ADDR_LO
  | CFG_FETCH_ADDR_HI | CFG_FETCH_LEN | CFG_PROG_LEN | CFG_DIGEST_LO | CFG_DIGEST_HI | CFG_BUILD_LO
  | CFG_BUILD_HI | CFG_WINDOW_DROPS | CFG_SCRUB_CTRL | CFG_SCRUB_STAT | CFG_SCRUB_LAST | CFG_SCRUB_PASSES
  | CFG_STREAM | CFG_SPAN_CMD | CFG_SPAN_DRAIN | CFG_ICP_STATUS | CFG_SPAN_STATUS | CFG_SPAN_SINK
  | CFG_RB_CTRL | CFG_RB_FAR | CFG_RB_COUNT | CFG_RB_ADDR_LO | CFG_RB_ADDR_HI | CFG_RB_STATUS | CFG_RB_DATA
  | CFG_CAP_CTRL | CFG_CAP_TIME_LO | CFG_CAP_TIME_HI | CFG_CAP_STATUS | CFG_CAP_AT_LO | CFG_CAP_AT_HI
  | QUEUE_CTRL | QUEUE_STATUS | QUEUE_CONFIG | QUEUE_STALE_CFG | QUEUE_MAX_PKT | QUEUE_LEVEL | QUEUE_PKTS
  | QUEUE_OPEN | QUEUE_RD_PTR | QUEUE_CM_PTR | QUEUE_WR_PTR | QUEUE_WORDS_IN_LO | QUEUE_WORDS_IN_HI
  | QUEUE_WORDS_OUT_LO | QUEUE_WORDS_OUT_HI | QUEUE_PKT_ERR | QUEUE_FLUSH_CNT | QUEUE_REC_PKTS
  | QUEUE_REC_DISCARD | QUEUE_ECC | QUEUE_LATE
  | REPAIR_STATUS | REPAIR_PUST_TIME | REPAIR_ROVE_MODE | REPAIR_ROVE_TIMING | REPAIR_WEAR_CFG | REPAIR_CMD
  | REPAIR_STEP_STATUS | REPAIR_STEP_PAUSE | REPAIR_STEP_COUNT | REPAIR_STEP_EXC | REPAIR_RETIRED
  | REPAIR_BG_CTRL | REPAIR_BG_STAT | REPAIR_BG_FAIL | REPAIR_GROUP_STATUS | REPAIR_ROD_STATUS
  | REPAIR_MON_COUNT
  | CN_ID | CN_PORT_EN | CN_VC_SPLIT | CN_ARB_WEIGHT | CN_AGE_CFG | CN_STATUS | CN_CTRL_ERR | CN_AGED
  | CN_U_ROUTES_LO | CN_U_ROUTES_HI | CN_SPARE_SET | CN_LINK_STATUS | CN_LINK_PARGRP | CN_LINK_MAP
  | CN_LINK_CFG | CN_HOLD_CTRL | CN_HOLD_STATUS | CN_HOLD_LAST | CN_ERRLOG_INFO | CN_ERRLOG_TIME_LO
  | CN_ERRLOG_TIME_HI
  | NI_ID | NI_CTRL | NI_STATUS | NI_RT_CTRL | NI_RT_INDEX | NI_RT_DATA_LO | NI_RT_DATA_HI | NI_RT_STATUS
  | NI_REG_CTRL | NI_REG_STATUS | NI_U_STATUS | NI_TIMER | NI_TGT_TIMER | NI_TXN | NI_ERR_CNT | NI_ECC_CNT
  | NI_DISCARD | NI_TGT_ERR | NI_FENCE_CTRL | NI_FENCE_STATUS | NI_PROXY_CNT | NI_DEAD_CNT | NI_DROP_RPT
  | NI_ERRLOG_INFO | NI_ERRLOG_ADDR_LO | NI_ERRLOG_ADDR_HI | NI_ERRLOG_TIME_LO | NI_ERRLOG_TIME_HI
  | NI_STAT_CTRL | NI_STAT_UNITS_LO | NI_STAT_UNITS_HI | NI_STAT_BYTES_LO | NI_STAT_BYTES_HI
  | NI_STAT_LAT_MAX | NI_STAT_HIST
  | TIME_NOW_LO | TIME_NOW_HI | TIME_STATUS | TIME_SYNC_CTRL | TIME_LOAD_LO | TIME_LOAD_HI
  | TIME_SYNC_LAST_LO | TIME_SYNC_LAST_HI | TIME_EPOCH_LO | TIME_EPOCH_HI | TIME_CMP_CTRL | TIME_CMP_VAL_LO
  | TIME_CMP_VAL_HI | TIME_CMP_PERIOD | TIME_TIM_CTRL | TIME_TIM_PERIOD | TIME_TIM_PHASE | TIME_TIM_COUNT
  | BEAM_CTRL | BEAM_STATUS | BEAM_SW_EVT | BEAM_ROUTE | BEAM_DST_CNT | BEAM_SRC_CNT
  | RECORD_CTRL | RECORD_STATUS | RECORD_CMD | RECORD_NUMBER | RECORD_DRAIN_TO | RECORD_MAINT_LIMIT
  | RECORD_LEN_LO | RECORD_LEN_HI | RECORD_PART_EN_LO | RECORD_PART_EN_HI | RECORD_PART_DONE_LO
  | RECORD_PART_DONE_HI | RECORD_LAGGARD_LO | RECORD_LAGGARD_HI | RECORD_FW_DRAINED | RECORD_EVT_CNT
  | RECORD_START_AT_LO | RECORD_START_AT_HI | RECORD_CLOSE_AT_LO | RECORD_CLOSE_AT_HI | RECORD_CLOSED_AT_LO
  | RECORD_CLOSED_AT_HI | RECORD_NI_DOMAIN | RECORD_LATE_CNT
  | TALLY_CTRL | TALLY_STATUS | TALLY_TIME_LO | TALLY_TIME_HI | TALLY_SEL | TALLY_SHADOW_LO | TALLY_SHADOW_HI
  | TALLY_SHADOW_SEQ
  | TBUS_REF_CTRL | TBUS_RX_FIFO | TBUS_RX_TIME_LO | TBUS_RX_TIME_HI | TBUS_RX_STAT | TBUS_LINE_CTRL
  | TBUS_LINE_TIMING | TBUS_LINE_STATUS | TBUS_GOV_IMG | TBUS_GOV_FW | TBUS_TX_DATA | TBUS_MATCH
  | TBUS_CNT_TX | TBUS_CNT_EXC
  | LANE_QUAD_CTRL | LANE_QUAD_STATUS | LANE_QUAD_CFG | LANE_JESD_CFG | LANE_SYSREF_CFG | LANE_LEMC
  | LANE_TX_PIPE | LANE_TX_GUARD | LANE_ALERT_CTRL | LANE_ALERT_ADDR_LO | LANE_ALERT_ADDR_HI
  | LANE_RX_BASE_LO | LANE_RX_BASE_HI | LANE_TX_BASE_LO | LANE_TX_BASE_HI | LANE_RX_SIZE | LANE_TX_SIZE
  | LANE_TX_ANALOG | LANE_TEST_CTRL | LANE_LANE_STATUS | LANE_RX_START_LO | LANE_RX_START_HI
  | LANE_TX_START_LO | LANE_TX_START_HI | LANE_RX_BYTES_LO | LANE_RX_BYTES_HI | LANE_RX_DROP | LANE_ERR_CNT
  | LANE_TX_PTR | LANE_EYE_CTRL | LANE_EYE_RESULT
  | HBM_STATUS | HBM_CTRL | HBM_TEMP | HBM_PC_ECC | HBM_PC_ERR_ADDR_LO | HBM_PC_ERR_ADDR_HI | HBM_PC_DROP
  | HBM_RING_BASE_LO | HBM_RING_BASE_HI | HBM_RING_SIZE | HBM_RING_CTRL | HBM_RING_CAP_END_LO
  | HBM_RING_CAP_END_HI | HBM_RING_CAP_TIME_LO | HBM_RING_CAP_TIME_HI | HBM_RING_CAP_FILL_LO
  | HBM_RING_CAP_FILL_HI | HBM_RING_CAP_INFO | HBM_RING_REC_BYTES_LO | HBM_RING_REC_BYTES_HI
  | HBM_RING_PC_END
  | STORE_STATUS | STORE_CMD | STORE_CFG | STORE_QMEM_LO | STORE_QMEM_HI | STORE_CMD_TIMEOUT | STORE_CAT_SEQ
  | STORE_STRIPES | STORE_DRV_STATUS | STORE_DRV_ERR | STORE_CH_CTRL | STORE_CH_STATUS | STORE_CH_CFG
  | STORE_CH_RING_LO | STORE_CH_RING_HI | STORE_CH_MIRROR_LO | STORE_CH_MIRROR_HI | STORE_CH_RING_SIZE
  | STORE_CH_PROD | STORE_CH_CONS | STORE_CH_PART_FIRST | STORE_CH_PART_STRIPES | STORE_CH_PB_SEQ
  | STORE_CH_REC_BYTES_LO | STORE_CH_REC_BYTES_HI | STORE_CH_LOST
  | HOST_LINK_STATUS | HOST_STATUS | HOST_BAR_CTRL | HOST_BAR_ERR | HOST_BAR_ERR_INFO | HOST_BAR_ERR_ADDR_LO
  | HOST_BAR_ERR_ADDR_HI | HOST_DMA_CTRL | HOST_LINK_CNT | HOST_WIN_ERR | HOST_XLAT_INDEX | HOST_XLAT_DATA_LO
  | HOST_XLAT_DATA_HI | HOST_CH_CTRL | HOST_CH_STATUS | HOST_CH_RING_LO | HOST_CH_RING_HI | HOST_CH_RING_SIZE
  | HOST_CH_HEAD | HOST_CH_TAIL | HOST_CH_IRQ | HOST_CH_BYTES_LO | HOST_CH_BYTES_HI | HOST_CH_ERR
  | SEQ_BOOT_STATUS | SEQ_DOORBELL | SEQ_MEM_ECC | SEQ_CORE_CTRL | SEQ_CORE_STATUS | SEQ_CORE_PC
  | SEQ_FAR_BASE_LO | SEQ_FAR_BASE_HI | SEQ_FAR_CTRL | SEQ_FAULT | SEQ_FAULT_ADDR_LO | SEQ_FAULT_ADDR_HI
  | SEQ_EVT | SEQ_IC_EN_LO | SEQ_IC_EN_HI | SEQ_IC_PEND_LO | SEQ_IC_PEND_HI | SEQ_IC_PRIO | SEQ_IC_THRESH
  | SEQ_IC_CLAIM | SEQ_MTIMECMP_LO | SEQ_MTIMECMP_HI | SEQ_GUARD_STATUS | SEQ_GUARD_POLICY | SEQ_GUARD_BREACH
  | SEQ_POWER_CEIL | SEQ_POWER_NOW | SEQ_GUARD_PINS
  | WDOG_CTRL | WDOG_LOAD | WDOG_WARN | WDOG_GRACE | WDOG_KICK | WDOG_COUNT | WDOG_STATUS
  | PIN_STATUS | PIN_CONFLICT | PIN_EXTL_STATUS | PIN_BANK_STATUS | PIN_EXTL_CFG | PIN_GPIO_OUT | PIN_GPIO_OE
  | PIN_GPIO_IN | PIN_GPIO_SET | PIN_GPIO_CLR | PIN_PAD | PIN_STN_STAT
  | I2C_CTRL | I2C_CMD | I2C_TXDATA | I2C_RXDATA | I2C_STATUS
  | SPI_CTRL | SPI_TXDATA | SPI_RXDATA | SPI_STATUS
  | UART_CTRL | UART_BAUD | UART_TXDATA | UART_RXDATA | UART_STATUS
  | PMB_CTRL | PMB_CMD | PMB_TXDATA | PMB_RXDATA | PMB_STATUS
  | PT_CTRL | PT_CMP_LO | PT_CMP_HI | PT_PERIOD | PT_CAP_LO | PT_CAP_HI | PT_STATUS
  | DBG_AUTH | DBG_CTRL | DBG_STATUS | DBG_CORE_RC | DBG_CORE_REG_SEL | DBG_CORE_REG_DATA | DBG_CORE_MEM_ADDR
  | DBG_CORE_MEM_DATA | DBG_CMP_CTRL | DBG_CMP_A | DBG_CMP_B | DBG_XT_CTRL | DBG_XT_FIRE | DBG_XT_CLEAR
  | DBG_XT_STATUS | DBG_MEM_ADDR_LO | DBG_MEM_ADDR_HI | DBG_MEM_DATA | DBG_MEM_CTRL | DBG_TRACE_CTRL
  | DBG_TRACE_STATUS | DBG_STIM_EN | DBG_STIM_STALL | DBG_STIM
  | LEDGER_STATUS | LEDGER_HEAD_SEQ | LEDGER_COMMIT_SEQ | LEDGER_OLDEST_SEQ | LEDGER_RD_SEQ
  | LEDGER_RD_STATUS | LEDGER_LOST | LEDGER_BAD_PAGES | LEDGER_RD_DATA
  deriving DecidableEq, Repr

end Sys2Proof
end

