-- ==== Sys2Proof/Syntax.lean ====
section
/-! DEFINITION. The commands: one constructor for each row of the table of operations and events, in the table's order, those
without operands last. Who asked, where a command names one, is a Who; a register write names its value. A command that
stands for a happening carries as operands what the spec leaves to the happening: what a check finds, how long it took, what
came over a wire. -/

namespace Sys2Proof

/-- The commands of the part. -/
inductive Instr where
  /-- PORST_RELEASE: release of PORST_N samples BOOT_SRC and CFG_PULL and starts the start-up sequence (R125). -/
  | porstRelease (bootSrc : BitVec 2) (cfgPull : Bool)
  /-- POR: PORST_N low resets everything (R30). -/
  | por (drains : Bool)
  /-- SYS_RESET: a SYS_RESET resets every region but always-on and restarts configuration from the boot-header
    phase (R30), as a write of DEV.CTRL asks for it. -/
  | sysReset (who : Who)
  /-- FUNCTION_RESET: DEV.FRESET GO fences, aborts and resets one instance of a hard function, or is refused
    (R33). -/
  | functionReset (who : Who) (block inst : Nat)
  /-- DBG_RESET: TRST#, or a write of DBG.CTRL.DBG_RESET that is not refused, returns the debug domain to its reset
    values (R414). -/
  | dbgReset (who : Option Who)
  /-- FLR: a function level reset of PF0 or PF1 (R371). -/
  | flr (pf : Nat)
  /-- DMA_ENABLE: a write of DMA_CTRL.EN = 1 re-enables host DMA and reopens the fences of NIs 0x90 and 0x91
    (R371). -/
  | dmaEnable (who : Who)
  /-- REGISTER_WRITE: a write to a register with no row of its own acts by its access type, journaling and refusal
    rules (R5, R6, R28). -/
  | registerWrite (who : Who) (off : Nat) (data : Word)
  /-- RUN: CTRL.RUN written 1 moves a function from STOPPED to RUN, applying settings written while stopped (R37,
    R38). -/
  | runFunc (who : Who) (f : Func)
  /-- STOP: CTRL.RUN written 0 moves a function to STOPPING, or is refused when a dependant runs (R37). -/
  | stopFunc (who : Who) (f : Func)
  /-- HELD_WORK_FINISHED: a STOPPING function that has finished its held work becomes STOPPED (R37). -/
  | heldWorkFinished (f : Func)
  /-- STOP_TIMEOUT: expiry of STOP_TIMEOUT completes remaining work ABORTED and leaves the function STOPPED
    (R37). -/
  | stopTimeout (f : Func)
  /-- EVT_ACK: a write to DEV.EVT_ACK re-arms host messages of event groups and resends for those still pending
    (R35). -/
  | evtAck (data : Word)
  /-- BEAD_ACCEPT: a holding stage whose input is complete and whose output is clear becomes FULL (R48); an input
    of a hard block takes, or its arrival latch captures, a complete bead (R50, R264). upset is what an upset
    raises on its digits (R43). -/
  | beadAccept (b : BeadSink) (upset : Upset)
  /-- BEAD_CONSUMED: every consumer of an output has acknowledged its bead; the stage becomes EMPTY and returns to
    spacer (R46, R48). -/
  | beadConsumed (x : BeadSource)
  /-- ARBITRATION_GRANT: an arbitration cell grants one waiting request bead (R52); where both wait, first names
    the request that the arrival favoured. Requests 0 and 1 are digits 0 and 1 of the upset. -/
  | arbitrationGrant (rod row a : Nat) (first : Bool) (upset : Upset)
  /-- RECKONER_OPERATION: a reckoner takes one bead from each enabled port and computes P, ACC, ST and CASC_OUT
    (R56); its 76 input digits are numbered as R140 has them. -/
  | reckonerOperation (rod k : Nat) (upset : Upset)
  /-- INITIAL_STATE_RELEASE: once every rod in reach reports spacer, stages take their initial states and their
    gates open at a Beam tick (R49). -/
  | initialStateRelease (wait : Nat)
  /-- RATE_WINDOW: a rate monitor ends its counting window and reports its rate (R64). -/
  | rateWindow (m rate : Nat)
  /-- VLOOP_ENABLE: VLOOP_CTRL is written, and a loop that starts reads VOUT_MODE and READ_VOUT (R66); heard says
    how the attempts of its bus transactions end, in order (R67, R68). -/
  | vloopEnable (who : Who) (data : Word) (heard : List PmbResult)
  /-- VLOOP_INTERVAL: the loop reads the rate, steps the command and sends it when it changed (R66); heard says how
    the attempts of its VOUT_COMMAND, STATUS_WORD and READ_VOUT transactions end, in order (R67, R68). -/
  | vloopInterval (heard : List PmbResult)
  /-- CONTENTION: a second enabled driver on a segment is masked (R78); rods lists the enabled driver points. -/
  | contention (seg : Nat) (rods : List Nat)
  /-- CONTENTION_SCRUB_DONE: the priority scrub ends and the guard grants the remaining driver (R79); x is what it
    found. -/
  | contentionScrubDone (seg : Nat) (x : FrameFinding)
  /-- PIN_OUTPUT_BEAD: a pin station takes an output bead and drives the pad immediately or at a qualifying edge
    (R84). -/
  | pinOutputBead (p : Nat) (upset : Upset)
  /-- PIN_INPUT_CHANGE: a filtered pad change or sample is offered as an input bead, counting overruns and lost
    changes (R85): wait ticks from now the level outside the pad is as given. -/
  | pinInputChange (p : Nat) (level : Bool) (wait : Nat)
  /-- FTO_BEAD: a nonzero bead on a fabric trigger output enters the Beam (R88). -/
  | ftoBead (n : Nat) (upset : Upset)
  /-- READ: a block-memory port READ consumes a REQ bead and produces an RD bead (R95); x is what the row's check
    finds. -/
  | readRow (rod m port : Nat) (upset : Upset) (x : EccFinding)
  /-- WRITE: a block-memory port WRITE consumes REQ and WD beads and updates the row (R95). -/
  | writeRow (rod m port : Nat) (upset : Upset) (x : EccFinding)
  /-- READ_WRITE: a block-memory READ_WRITE writes the word and returns its old value (R95). -/
  | readWrite (rod m port : Nat) (upset : Upset) (x : EccFinding)
  /-- NOP: a block-memory NOP consumes its REQ bead and does nothing else (R95). -/
  | nopPort (rod m port : Nat) (upset : Upset)
  /-- ROW_SCRUB: a block memory scrubs one row per interval (R100). -/
  | rowScrub (rod m : Nat) (x : EccFinding)
  /-- PRODUCER_WORD: a queue accepts a producer word, committing the packet on LAST (R107, R108); x is what the
    check of its row finds; PD's digits are numbered from 0, PC's is 36. -/
  | producerWord (q : Nat) (upset : Upset) (x : EccFinding)
  /-- CONSUMER_WORD: the committed word at RD_PTR is driven on CD and CC, and the consumer takes it when it
    acknowledges (R107); x is what the check of its row finds. -/
  | consumerWord (q : Nat) (x : EccFinding)
  /-- FLUSH_BEAD: a nonzero bead on FL requests a flush of the queue (R112). -/
  | flushBead (q : Nat) (upset : Upset)
  /-- FLUSH: a write of QUEUE.CTRL.FLUSH requests a flush (R112). -/
  | flush (q : Nat)
  /-- FLUSH_TAKES_EFFECT: the pending flush meets the consumer's packet boundary (R112). -/
  | flushTakesEffect (q : Nat)
  /-- STALE: the stale timer reaches STALE_UNITS and the queue sends STALE (R113). -/
  | stale (q : Nat)
  /-- LOAD: CMD LOAD starts a full load or a slot or area write from LOAD_CTRL, or is refused (R151). -/
  | loadCmd (who : Who)
  /-- ABORT_LOAD: CMD ABORT_LOAD ends the running load with cause ABORTED (R135). -/
  | abortLoad (who : Who)
  /-- STREAM_DONE: CMD STREAM_DONE ends a host-window stream (R127). -/
  | streamDone (who : Who)
  /-- STREAM: a write to CFG.STREAM appends its bytes to a host-window load, or is dropped (R127). -/
  | stream (w : Word)
  /-- STREAM_WORD: a stream word arrives at the loader and is checked before use (R143). -/
  | streamWord (x : StreamWord)
  /-- FAR: a write of the FAR stream register sets the next frame address (R134, R136). -/
  | far (v : Word)
  /-- BURST: a BURST command writes frames of data to configuration memory (R133, R136). -/
  | burst (data : List Word)
  /-- SKIP_WORDS: a NOP command skips its following words (R133). -/
  | skipWords (data : List Word)
  /-- END: the END word and the CRC word after it: the final CRC, digest and coverage checks (R130, R143). -/
  | endWord (crc : Word)
  /-- IDCHK: a write of IDCHK checks the die ID against the device (R134). -/
  | idchk (v : Word)
  /-- CRC: a write of the CRC stream register checks the running CRC (R134). -/
  | crc (v : Word)
  /-- SPAN: a write of the SPAN stream register checks the partial image's span (R134, R165). -/
  | span (v : Word)
  /-- SPAN_TABLE: a write of SPAN_TABLE declares one span, or is refused (R157, R158). -/
  | spanTable (ws : List Word)
  /-- PIN_ISO: a write of PIN_ISO sets the pin isolation states (R160). -/
  | pinIso (ws : List Word)
  /-- BEAM_MAP: a write of BEAM_MAP places the fabric taps and sets the fixed Beam routes (R280). -/
  | beamMap (ws : List Word)
  /-- GUARD_TBUS: a write of GUARD_TBUS loads the image trigger governors (R383). -/
  | guardTbus (ws : List Word)
  /-- GUARD_LANE: a write of GUARD_LANE loads the lane transmit guards (R383). -/
  | guardLane (ws : List Word)
  /-- GUARD_PINS: a write of GUARD_PINS loads the protected-pin mask (R383). -/
  | guardPins (ws : List Word)
  /-- GUARD_POWER: a write of GUARD_POWER loads the image power ceiling (R383). -/
  | guardPower (v : Word)
  /-- GUARD_POLICY: a write of GUARD_POLICY loads the breach policy and host lock (R383, R387). -/
  | guardPolicy (v : Word)
  /-- GUARD_LOCK: a write of GUARD_LOCK arms the guard lock for the START tick (R134). -/
  | guardLock (v : Word)
  /-- START: CMD START as the last word pair before END, END and the CRC word: once the checks have passed, the
    START event enters the Beam (R135, R149). -/
  | startWord (crc : Word)
  /-- FABRIC_RESET: CMD FABRIC_RESET returns the fabric to its initial states by the sequence of R49, or waits
    (R30, R31). -/
  | fabricReset (who : Who)
  /-- FRAME_SCRUB: the scrubber reads and checks one frame, correcting single-bit errors and reloading the frame
    after a double-bit error (R155, R156). -/
  | frameScrub (x : FrameFinding)
  /-- SPAN_LOAD: SPAN_CMD LOAD starts a partial load of a span, or is refused (R164, R165). -/
  | spanLoad (who : Who) (n : Nat)
  /-- ISOLATE: SPAN_CMD ISOLATE begins draining and isolating a running span, or is refused (R164). -/
  | isolate (who : Who) (n : Nat)
  /-- RELEASE: SPAN_CMD RELEASE releases an isolated span, or is refused (R164). -/
  | release (who : Who) (n : Nat)
  /-- RESET: SPAN_CMD RESET gives a span's stages their initial states, rewriting an INCOMPLETE span first, or is
    refused (R164, R167). -/
  | spanReset (who : Who) (n : Nat) (same : Bool)
  /-- ISOLATION_TICK: after the drain the span is isolated at a Beam tick (R161, R166 step 3). -/
  | isolationTick (n : Nat)
  /-- SPAN_DRAIN_TIMEOUT: SPAN_DRAIN.US elapses and unfinished work is fenced with DRAIN_TIMEOUT (R162). -/
  | spanDrainTimeout (n : Nat)
  /-- SPAN_SETTLED: all rods of an isolated span report settled and the span is gated (R161). -/
  | spanSettled (n wait : Nat)
  /-- SPAN_RELEASE_TICK: at the release Beam tick the span's stages, queues, pins and fences are released
    (R166). -/
  | spanReleaseTick (n : Nat)
  /-- SPAN_RUNNING: all span rods report after release and the span is RUNNING (R166). -/
  | spanRunning (n wait : Nat)
  /-- ICP_CMD: a bead on ICP_CMD requests a span operation and yields one ICP_R bead (R168). -/
  | icpCmd (upset : Upset)
  /-- ICP_D: a bead on ICP_D supplies a stream word, or is discarded and counted (R168). -/
  | icpD (upset : Upset)
  /-- READBACK: CMD READBACK starts reading out or restoring frames, or is refused (R171, R172, R176). -/
  | readback (who : Who)
  /-- RB_DATA: an access to RB_DATA: a read (none) removes a readback word, a write appends a restore word (R171,
    R176). -/
  | rbData (data : Option Word)
  /-- FREEZE: CMD FREEZE arms capture in its mode, or is refused (R173, R174). -/
  | freeze (who : Who)
  /-- CAPTURE_SETTLED: every rod reports settled and capture becomes FROZEN (R174). -/
  | captureSettled (wait : Nat)
  /-- THAW: CMD THAW ends a capture or cancels an arm, or is refused (R174). -/
  | thaw (who : Who)
  /-- SELF_TEST_SLICE_DONE: a self-test slice ends and marks its physical rod good or FAILED by what it found
    (R180). The first slice brings the readings of the replica monitors taken before it (R179): physical rods with
    their lowest. -/
  | selfTestSliceDone (phys : Nat) (x : SliceResult) (readings : List (Nat × Nat))
  /-- SLICE_OVERRUN: a slice has not passed when its budget ends, and fails with cause OVERRUN (R179): a power-up
    slice, whose budget follows the readings before the first slice, or the test of a spare, whose budget follows
    its own monitor (R186 step 9); low is that monitor's reading in M beads/s. -/
  | sliceOverrun (phys low : Nat)
  /-- WEAR_FAULT: a wear fault is declared for a physical rod (R184). -/
  | wearFault (phys : Nat)
  /-- ROVING_STEP_DUE: a routine roving step of a group becomes due (R185). -/
  | rovingStepDue (g : Nat)
  /-- PRE_COPY_DONE: pre-copy of the source rod ends (R186). -/
  | preCopyDone (x : PreCopy)
  /-- VERIFY_DONE: the verify of the copy ends and S freezes, or the copy mismatched (R186, R187). -/
  | verifyDone (ok : Bool)
  /-- ROD_SETTLED: the frozen rod has settled, its state is copied and the multiplexers and the map switch
    (R186). -/
  | rodSettled (wait : Nat) (writeFails : Bool)
  /-- STEP_RELEASE: the logical rod runs on D, and the pause ends (R186). -/
  | stepRelease (wait : Nat)
  /-- SPARE_TEST_DONE: the test of the new spare ends (R186 step 9) with what it found. -/
  | spareTestDone (x : SliceResult)
  /-- STEP: REPAIR.CMD STEP runs a routine step of a group now, subject to R190, or is refused. -/
  | step (who : Who) (g : Nat)
  /-- MIGRATE: REPAIR.CMD MIGRATE declares a wear fault on a rod, or is refused. -/
  | migrate (who : Who) (rod : Nat)
  /-- RETEST: REPAIR.CMD RETEST tests the spare of a group again, or is refused. -/
  | retest (who : Who) (g : Nat)
  /-- LINK_TEST_SLICE: an idle-link test slice of an output port ends, with the faulty wire it found (R192). -/
  | linkTestSlice (page port : Nat) (fault : Option Nat)
  /-- HBM_TEST_SLICE: a pseudo channel's test of its next 16 KiB region ends, with the faulty row it found and
    whether the stack has a spare for it (R193, R194, R336). -/
  | hbmTestSlice (pc : Nat) (fault : Option (Nat × Bool))
  /-- SLICE_PREEMPT: traffic pre-empts a test slice (R192, R193). unit is 16 times the page plus the output port of
    a link, or a pseudo channel. -/
  | slicePreempt (hbm : Bool) (unit : Nat)
  /-- REQUEST_INJECT: a unit's request is decoded and routed by its source NI (R15); that of a fabric NI is the one
    its beads on IQ spell (R228). -/
  | requestInject (n : Nat) (r : Request)
  /-- UNIT_RECEIVE: a router takes the next unit on the link into a port, checks it and forwards it by the route
    string (R213); flips names the wires, of 0 to 591, that changed on the link (R200). -/
  | unitReceive (page port : Nat) (flips : List Nat)
  /-- WIRE_REMAP: a persistent link fault is located in idle cycles and moved to a spare wire (R202). -/
  | wireRemap (page port : Nat) (wire : Option Nat)
  /-- RD: a target receives an RD request and answers with RSP_DATA or RSP_ERR (R206). -/
  | rd (p : Packet) (m : WordFinding)
  /-- WR: a target receives a WR request and answers RSP_OK or RSP_ERR (R206). -/
  | wr (p : Packet) (m : WordFinding)
  /-- WRP: a target receives a posted write (R206). -/
  | wrp (p : Packet) (m : WordFinding)
  /-- FADD: a target adds the operand atomically and returns the old value (R206). -/
  | fadd (p : Packet) (m : WordFinding)
  /-- CFG: a router consumes a CFG packet reading or writing its page (R218). -/
  | cfg (page : Nat) (p : Packet)
  /-- EVT: an NI receives an EVT and delivers it to its unit (R206). -/
  | evt (p : Packet)
  /-- RSP_DATA: a response with data completes the matching outstanding transaction (R224). -/
  | rspData (p : Packet)
  /-- RSP_OK: an RSP_OK completes the matching outstanding transaction (R224). -/
  | rspOk (p : Packet)
  /-- RSP_ERR: an RSP_ERR completes the matching outstanding transaction with its error (R224). -/
  | rspErr (p : Packet)
  /-- TRANSACTION_TIMEOUT: the initiator timer expires and the transaction completes RSP_ERR TIMEOUT (R224). -/
  | transactionTimeout (n tag : Nat)
  /-- QUARANTINE_EXPIRE: a quarantined tag is freed after 100 ms (R224). -/
  | quarantineExpire (n tag : Nat)
  /-- TARGET_TIMEOUT: the target NI answers RSP_ERR TIMEOUT for its unit (R225). -/
  | targetTimeout (n handle : Nat)
  /-- RT_ENTRY_WRITE: a write of RT_DATA_HI commits a route entry to SHADOW after its checks (R216). -/
  | rtEntryWrite (who : Who) (n : Nat) (hi : Word)
  /-- SWAP: a write of RT_CTRL.SWAP requests a route-table bank exchange (R219); injecting says whether the NI is
    part-way through a packet. -/
  | swapRoutes (who : Who) (n : Nat) (injecting : Bool)
  /-- BANK_EXCHANGE: at the first injection boundary the banks are exchanged or the swap is refused (R219). -/
  | bankExchange (who : Who) (n : Nat)
  /-- COPY: a write of RT_CTRL.COPY copies ACTIVE into SHADOW (R214). -/
  | copyRoutes (n : Nat)
  /-- REGULATOR_RELEASE: a packet held by a token-bucket regulator is injected once a token is available (R221); it
    has waited wait ticks. -/
  | regulatorRelease (n vn wait : Nat)
  /-- U_RELEASE: a U packet is released once its spacing limits and regulator allow (R234); it has waited wait
    ticks. -/
  | uRelease (n wait : Nat)
  /-- AGEING_PROMOTION: a header waiting THRESH cycles is promoted one priority level (R211). -/
  | ageingPromotion (page port vn : Nat)
  /-- HOLD: CN.HOLD_CTRL.REQ written 1 closes U gates and stops the router granting new headers (R241). -/
  | hold (who : Who) (page : Nat)
  /-- HOLD_DRAIN_DONE: every held packet reaches its TAIL and the staged writes are applied (R241). -/
  | holdDrainDone (page : Nat)
  /-- HOLD_FAIL: HOLD_CTRL.LIMIT expires before the drain ends and the HOLD fails (R243). -/
  | holdFail (page : Nat)
  /-- U_GATE_OPEN: a U gate opens 300 ticks after its HOLD ended or its fence opened (R235). -/
  | uGateOpen (n dest : Nat)
  /-- STAGED_WRITE: a write to a staged router field is held for the next HOLD, or refused (R239). -/
  | stagedWrite (who : Who) (page : Nat) (r : Reg) (data : Word)
  /-- CLOSE: NI.FENCE_CTRL.CLOSE starts draining and fencing the NI (R245). -/
  | closeFence (who : Who) (n : Nat)
  /-- OPEN: NI.FENCE_CTRL.OPEN reopens a closed fence, or is refused (R250). -/
  | openFence (who : Who) (n : Nat)
  /-- FENCE_CLOSED: the fence's drain completes (R246 step 5). -/
  | fenceClosed (n : Nat)
  /-- DRAIN_LIMIT: the drain limit expires and the fence closes (R247). -/
  | drainLimit (n : Nat)
  /-- FENCE_PROXY: the proxy of a fenced port answers, drops or discards a packet routed to it (R248). -/
  | fenceProxy (p : Packet)
  /-- CLEAR: STAT_CTRL.CLEAR zeroes every statistic of the NI (R256). -/
  | clearStats (n : Nat)
  /-- RESYNC_REQ: a reset of one side of a station starts a resync, discarding the entries it holds (R260). -/
  | resyncReq (i : Nat)
  /-- RESYNC_DONE: RESYNC_ACK is seen after the reset and the station returns to RUN (R260). -/
  | resyncDone (i : Nat)
  /-- CROSS_TIMEOUT: a heartbeat watch reaches TIMEOUT_US and the station enters ERROR (R266 to R268); side names
    the side that stopped. -/
  | crossTimeout (i side : Nat) (aon : Bool)
  /-- SYNC_EDGE: wait ticks from now a sync edge is registered; it loads TIME when armed or checks its phase
    (R272). -/
  | syncEdge (wait : Nat)
  /-- ARM: TIME.SYNC_CTRL.ARM arms a sync load, or is refused (R272). -/
  | arm (who : Who)
  /-- CMP_FIRE: a compare unit reaches its value and enters its event into the Beam (R274). -/
  | cmpFire (n : Nat)
  /-- TIM_FIRE: a timer's phase comes round and it enters its event into the Beam (R275). -/
  | timFire (n : Nat)
  /-- SW_EVT: a write of BEAM.SW_EVT enters a software event on the next tick (R276). -/
  | swEvt (data : Word)
  /-- START_NOW: RECORD.CMD START_NOW enters a start event, or is refused (R282, R291). -/
  | startNow (who : Who)
  /-- CLOSE_NOW: RECORD.CMD CLOSE_NOW enters a close event, or is refused (R282, R291). -/
  | closeNow (who : Who)
  /-- DRAINED: a DRAINED report arrives and may end phase A, phase B or the drain (R286, R287). -/
  | drained (p number : Nat)
  /-- SINK: a SINK notice tells a phase-B participant to finish its drain (R286). -/
  | sinkNotice (p : Nat)
  /-- TIMEOUT: a TIMEOUT notice tells a laggard the drain ended without it (R287). -/
  | timeoutNotice (p : Nat)
  /-- FW_DRAINED: a core writes its FW_DRAINED bit to report DRAINED (R286). -/
  | fwDrained (n : Nat)
  /-- RECEIVER_EVENT: a trigger receiver registers a new level and enters a receiver event (R297, R298); xs are its
    three samples on each of the ticks up to wait ticks from now. -/
  | receiverEvent (n : Nat) (xs : List (BitVec 3)) (wait : Nat)
  /-- TELEGRAM_RECEIVED: a received telegram is checked, queued and matched (R300), wait ticks from now; quiet is
    how long the line had been released before its start bit, and gaps are the ticks between its registered changes
    from the middle of that bit. -/
  | telegramReceived (n quiet : Nat) (gaps : List Nat) (wait : Nat)
  /-- SEND: TX_DATA.SEND requests sending the telegram (R301). -/
  | send (n : Nat)
  /-- TELEGRAM_START: once the line is idle and tokens are held the telegram is sent (R301). -/
  | telegramStart (n : Nat)
  /-- COLLISION: a foreign assertion during a released half-bit stops the telegram (R301); half numbers the
    half-bit. -/
  | collision (n half : Nat)
  /-- RESEND: after idle plus a random backoff the telegram is resent, or dropped with TX_FAIL (R301); k is what
    the LFSR drew. -/
  | resend (n : Nat) (k : BitVec 4)
  /-- PULSE_END: a pulse's width expires and the line is released (R299). -/
  | pulseEnd (n : Nat)
  /-- CUTOFF: an assertion reaches CUTOFF and the line is released and locked out (R303). -/
  | cutoff (n : Nat)
  /-- DRIVE_FAULT: the line's own receiver does not see its assertion and the line is locked out (R304), wait ticks
    from now. -/
  | driveFault (n wait : Nat)
  /-- FOREIGN_STUCK: a line held asserted by another driver for 100 µs sets FOREIGN_STUCK (R304). -/
  | foreignStuck (n : Nat)
  /-- STREAM_START: a lane achieves lock or alignment and its receive stream starts at k = 0 (R312, R317); wait
    ticks from now, ilasErr where the ILAS was faulty; before are the 58 line bits received before. -/
  | streamStart (l wait : Nat) (before : BitVec 58) (ilasErr : Bool)
  /-- CHUNK_SEND: a complete receive chunk is sent as one WRP, or dropped on overflow (R310, R311); words are what
    the line of a raw stream has brought since the last, errors the bit errors of a lane under test (R327). -/
  | chunkSend (l : Nat) (words : List LineWord) (errors : Nat)
  /-- MULTIBLOCK_RELEASE: an aligned lane releases one extended multiblock at its release tick (R320); arrival is
    the ticks from boundary to multiblock start, errors the check failures counted. -/
  | multiblockRelease (l : Nat) (m : Multiblock) (arrival errors : Nat)
  /-- UNDERRUN: a transmit chunk not in hand when due is sent as zeros (R313). -/
  | underrun (l : Nat)
  /-- LOSS: a lane loses lock or sync and sets LOSS (R325). -/
  | laneLoss (l : Nat)
  /-- PLL_LOST: the quad PLL loses lock and every lane sets LOSS (R325). -/
  | pllLost (q : Nat)
  /-- EYE_SCAN: EYE_CTRL.START runs an eye scan on a lane (R326). -/
  | eyeScan (l : Nat)
  /-- EYE_SCAN_DONE: an eye scan ends and EYE_RESULT is complete (R326). -/
  | eyeScanDone (l errors : Nat)
  /-- HBM_INIT_DONE: lane repair and zero-fill end and INIT_DONE is set (R333). -/
  | hbmInitDone (failed : BitVec 8)
  /-- HBM_TEMP_READ: the controller reads the stack temperature and sets refresh, throttle or CRIT (R337). -/
  | hbmTempRead (t : Nat)
  /-- PATROL_SCRUB: a pseudo channel scrubs one 64-byte block per interval (R335). -/
  | patrolScrub (p : Nat) (m : WordFinding)
  /-- RING_ENABLE: RING_CTRL.EN written 1 starts tracking a ring, or is refused (R339). -/
  | ringEnable (who : Who) (r : Nat) (tagged freeze : Bool)
  /-- CAPTURE: RING_CTRL.CAPTURE asks every PC to capture its ring values (R341). -/
  | capture (r : Nat)
  /-- REARM: RING_CTRL.REARM ends a frozen ring's refusal of writes (R342). -/
  | rearm (r : Nat)
  /-- RING_CAPTURED: all 16 PCs have captured and the controller sets the ring's captured values (R341). -/
  | ringCaptured (r : Nat)
  /-- ATTACH: STORE.CMD ATTACH trains, enables and checks a drive, or is refused (R345). -/
  | attachDrive (who : Who) (d : Nat)
  /-- ATTACH_DONE: an attach completes or fails and the drive becomes READY or PRESENT (R346). -/
  | attachDone (d : Nat) (x : AttachResult)
  /-- DETACH: STORE.CMD DETACH returns a drive to PRESENT, or is refused (R346). -/
  | detach (who : Who) (d : Nat)
  /-- FORMAT: STORE.CMD FORMAT writes a volume to the drives of CFG.DRIVES (R347). -/
  | formatStore (who : Who)
  /-- MOUNT: STORE.CMD MOUNT checks the drives and resumes from the catalogue (R348). -/
  | mountStore (who : Who)
  /-- UNMOUNT: STORE.CMD UNMOUNT unmounts the volume, or is refused while channels run (R355). -/
  | unmount (who : Who)
  /-- DRIVE_LINK_UP: a root port's link comes up and the drive becomes PRESENT (R346). -/
  | driveLinkUp (d : Nat)
  /-- DRIVE_FAIL: a drive's link, controller or command fails and it becomes FAILED (R346). -/
  | driveFail (d cause sc sct : Nat) (linkDown : Bool)
  /-- CMD_TIMEOUT: an NVMe command exceeds CMD_TIMEOUT and is aborted (R346); recovered says whether the Abort or
    the controller reset ended it. -/
  | cmdTimeout (d : Nat) (recovered : Bool)
  /-- CH_PROD: a write of CH_PROD publishes staged data of a recording channel (R349). -/
  | chProd (c : Nat) (offset : Word) (record : Option (BitVec 16))
  /-- CH_CONS: a write of CH_CONS frees playback ring space (R353). -/
  | chCons (c : Nat) (offset : Word)
  /-- STRIPE_COMPLETE: a stripe's NVMe commands complete and CONS or PROD advances (R349, R353). -/
  | stripeComplete (c : Nat)
  /-- CATALOGUE_COMMIT: a record's catalogue entry is committed and the store may report DRAINED (R351). -/
  | catalogueCommit (c : Nat)
  /-- BAR_REQUEST: a host BAR request is split and turned into carry-network requests (R361). -/
  | barRequest (r : BarRequest)
  /-- CH_TAIL: a write of CH_TAIL posts descriptors to a DMA channel, or is refused (R364). -/
  | chTail (who : Who) (c : Nat) (data : Word)
  /-- DESCRIPTOR_FETCH: descriptors fetched from host memory arrive at the channel (R364). -/
  | descriptorFetch (c : Nat) (ds : List (BitVec 256))
  /-- DESCRIPTOR_COMPLETE: a descriptor's transfers finish and its status is written back (R367). -/
  | descriptorComplete (c : Nat)
  /-- HOLDOFF: the interrupt holdoff ends and a deferred message is sent (R367). -/
  | holdoff (c : Nat)
  /-- FIRMWARE_LOAD: the boot ROM checks and copies the firmware segments (R378). -/
  | firmwareLoad (readError : Bool)
  /-- APERTURE_ACCESS: a core load or store in the CSR aperture becomes an RD or WR (R375): its offset x, size, the
    register a load fills, and the value a store writes. -/
  | apertureAccess (n x bytes rd : Nat) (store : Option Word)
  /-- FAR_WINDOW_ACCESS: a core access in the far window becomes an RD, WR or WRP (R375). -/
  | farWindowAccess (n y bytes rd : Nat) (signed : Bool) (store : Option Word)
  /-- FENCE: a core FENCE waits for zero-byte WRs to each posted destination (R375); memory says whether its
    successor set holds a memory access. -/
  | coreFence (n : Nat) (memory : Bool)
  /-- IC_CLAIM: a read of IC_CLAIM returns and clears the highest pending input (R380). -/
  | icClaim (n : Nat)
  /-- DOORBELL: a write of SEQ.DOORBELL raises input 33 of the named cores (R380). -/
  | doorbell (mask : BitVec 4)
  /-- SEQ_EVT: a write of SEQ.EVT enters source SEQ_EVT n into the Beam (R380). -/
  | seqEvt (n : Nat)
  /-- KICK: a write to WDOG.KICK reloads the watchdog, or counts a bad kick (R381). -/
  | kick (who : Who) (w : Nat) (data : Word)
  /-- WARN: a watchdog count reaches WARN and raises its warning (R381). -/
  | warn (w : Nat)
  /-- EXPIRED: a watchdog count reaches 0 and resets its core or the device (R381). -/
  | expired (w : Nat)
  /-- POWER_ESTIMATE: every 10 µs fabric power is estimated and the throttle level adjusted (R386); watts is the
    estimate. -/
  | powerEstimate (watts : Nat)
  /-- PAD_WRITE: a write to PIN.PAD changes a pin's settings, switching its function if FUNC changes (R394). -/
  | padWrite (who : Who) (p : Nat) (data : Word)
  /-- FUNC_SWITCH_DONE: at cycle 2 the new function takes the pad (R394). -/
  | funcSwitchDone (p : Nat)
  /-- GPIO_SET: a write of GPIO_SET sets OUT bits (R396). -/
  | gpioSet (i : Nat) (data : Word)
  /-- GPIO_CLR: a write of GPIO_CLR clears OUT bits (R396). -/
  | gpioClr (i : Nat) (data : Word)
  /-- EXTL_DETECT: a filtered edge or level on an EXTL line sets its status bit (R397). -/
  | extlDetect (n : Nat)
  /-- TRANSFER: I2C.CMD GO starts an I2C transfer (R412). -/
  | transfer (who : Who) (u : Nat) (data : Word)
  /-- TRANSACTION: PMB.CMD GO starts a PMBus transaction, waiting for the loop's (R413). -/
  | transaction (who : Who) (data : Word)
  /-- TXDATA: a write of a peripheral TXDATA pushes into its FIFO, or is dropped (R412). -/
  | txdata (x : Periph) (data : Word)
  /-- RXDATA: a read of a peripheral RXDATA pops its oldest entry (R412). -/
  | rxdata (x : Periph)
  /-- PT_COMPARE: TIME reaches a PT compare value and its output acts (R412). -/
  | ptCompare (t : Nat)
  /-- PT_CAPTURE: a selected edge on a capture input latches TIME (R412). -/
  | ptCapture (t : Nat)
  /-- ACTIVE: a state request for ACTIVE powers the enabled regions and restores the fabric (R400, R403). -/
  | active (who : Who)
  /-- FABRIC_OFF: a state request for FABRIC_OFF powers down the FPD regions, or is refused (R400). -/
  | fabricOff (who : Who)
  /-- STANDBY: a state request for STANDBY powers down fabric, lanes and store, or is refused (R400). -/
  | standby (who : Who)
  /-- DORMANT: a state request for DORMANT leaves only always-on powered, or is refused (R400). -/
  | dormant (who : Who)
  /-- REGION_CTRL: a write of REGION_CTRL switches power regions on or off (R401). -/
  | regionCtrl (who : Who) (data : Word)
  /-- QUAD_CTRL: a write of PWR.QUAD_CTRL switches quad regions on or off (R401). -/
  | quadCtrl (who : Who) (data : Word)
  /-- REGION_OFF: after drain and fence a region is switched off and its stations parked (R401). -/
  | regionOff (wait : Nat)
  /-- FPD_RESTORE_DONE: a powered FPD region has been tested, reloaded and released (R403). -/
  | fpdRestoreDone (wait : Nat) (results : List (Nat × SliceResult)) (same : Bool)
  /-- WAKE: an enabled wake cause leaves DORMANT and restarts from the boot header (R404). -/
  | wake (cause : Nat)
  /-- BROWNOUT_RECOVERY: VCC_FAB stays at or above 0.60 V for 100 µs and the fabric is restored (R408). -/
  | brownoutRecovery (wait : Nat) (results : List (Nat × SliceResult)) (same : Bool)
  /-- SUPPLY_SAMPLE: the fabric supply monitor reads VCC_FAB and flags range faults (R408). -/
  | supplySample (fab sys : Nat)
  /-- SUPPLY_FAULT: a supply leaves its range and its fault outcome applies (R406). -/
  | supplyFault (row bank : Nat)
  /-- TEMP_READ: the junction sensors report and warnings or shutdown follow (R409). -/
  | tempRead (t : Int) (sensor : Nat)
  /-- IR_UPDATE: a TAP instruction update selects an instruction, or BYPASS when it is refused (R416). -/
  | irUpdate (code : BitVec 8)
  /-- DBG_ACCESS: a DBG_ACCESS update performs one CSR read or write (R418). -/
  | dbgAccess (update : DWord)
  /-- GOLD_PROG: a GOLD_PROG command programs slot 0 or clears a repair list, or is refused (R424). -/
  | goldProg (cmd : Word)
  /-- LOCK: key 0x10C6 locks debug authorization after a DBG reset (R421). -/
  | lockDebug (who : Who)
  /-- UNLOCK: key 0x0FE2 begins the erase-then-open unlock sequence (R422). -/
  | unlock (who : Who)
  /-- HALT: CORE_RC.HALT halts a core at the next instruction boundary (R425); so does an EBREAK with EBREAK_HALT =
    1. -/
  | haltCore (n : Nat) (by' : HaltBy)
  /-- RESUME: CORE_RC.RESUME restarts a halted core (R425). -/
  | resumeCore (who : Who) (n : Nat)
  /-- SINGLE_STEP: CORE_RC.STEP executes one instruction and halts again (R425); x is what the instruction did. -/
  | singleStep (who : Who) (n : Nat) (x : CoreStep)
  /-- CORE_REG_DATA: an access to CORE_REG_DATA reads (none) or writes a halted core's register (R425). -/
  | coreRegData (who : Who) (n : Nat) (data : Option Word)
  /-- CORE_MEM_DATA: an access to CORE_MEM_DATA reads (none) or writes a word through a halted core's map
    (R425). -/
  | coreMemData (who : Who) (n : Nat) (data : Option Word)
  /-- MEM_DATA: an access to DBG.MEM_DATA makes a 4-byte RD (none) or WR from NI 0x9A (R433). -/
  | memData (who : Who) (data : Option Word)
  /-- COMPARATOR_MATCH: an instruction of a core is one that a comparator or a linked chain matches, and its ACTION
    acts (R429, R430). -/
  | comparatorMatch (n : Nat) (i : Insn)
  /-- CROSS_TRIGGER_FIRE: a cross-trigger channel fires on an edge of input i that it enables, and drives its
    outputs (R431): the halt of core i, or a comparator action of core i − 4. -/
  | crossTriggerFire (i : Nat)
  /-- XT_FIRE: a write of XT_FIRE fires cross-trigger channels (R431). -/
  | xtFire (who : Who) (data : Word)
  /-- XT_CLEAR: a write of XT_CLEAR re-arms channels or clears the statistics freeze (R431). -/
  | xtClear (who : Who) (data : Word)
  /-- STIM: a write to a stimulus port emits a STIM packet, waits for room, or is discarded (R436). -/
  | stim (p : Nat) (data : Word)
  /-- LEDGER_COMMIT: a buffered entry is written and verified in the ring (R443). -/
  | ledgerCommit (ok : Bool)
  /-- LEDGER_SCAN_DONE: the power-up scan finds the newest entry and makes the POWER_ON entry (R445). That ends
    step 1 of R147, and self-test follows. -/
  | ledgerScanDone (torn : Nat)
  /-- RD_SEQ: a write of LEDGER.RD_SEQ selects an entry to read (R448). -/
  | rdSeq (data : Word)
  /-- RD_DATA: a read of LEDGER.RD_DATA word 7 advances RD_SEQ (R448). -/
  | rdData (w : Nat)
  /-- TELEGRAM_SENT: the last check bit of a telegram ends and SEND clears with the line released (R301). -/
  | telegramSent (n : Nat)
  /-- TX_STREAM_START: a transmitting lane begins its multiblocks at TX_START (R321). -/
  | txStreamStart (l : Nat)
  /-- HOST_LINK_UP: the host link trains up, latching the PCI Express identity and BAR sizes on the first link-up
    after POR (R358). -/
  | hostLinkUp (speed width : Nat)
  /-- CONFIGURATION_REQUEST: a host configuration request, such as Bus Master Enable or MSI-X enable and mask, is
    taken and completed (R359). -/
  | configurationRequest (tag : Nat) (x : HostConfig)
  /-- HOST_COMPLETION: a PCI Express completion from the host arrives for a DMA or host-memory-window read
    (R370). -/
  | hostCompletion (tag : Nat) (x : HostAnswer)
  /-- COMPLETION_TIMEOUT: a read to host memory gets no completion within the completion timeout and ends with a
    host error (R368). -/
  | completionTimeout (tag : Nat)
  /-- DRIVE_MEMORY_REQUEST: an NVMe drive's memory read or write arrives at its root port and is passed to HBM or
    refused Unsupported Request (R345). -/
  | driveMemoryRequest (d : Nat) (write : Bool) (a len : Nat) (data : List Byte)
  /-- MTIMECMP_REACHED: TIME reaches a core's MTIMECMP and input 36 becomes pending (R380). -/
  | mtimecmpReached (n : Nat)
  /-- CORE_LOCAL_ACCESS: a core fetch, load, store, LR/SC or AMO to its TCMs, the boot ROM or the shared SRAM, with
    ECC correction or fault (R374). -/
  | coreLocalAccess (n : Nat) (a : Word) (x : LocalAccess) (found : EccFinding)
  /-- QUAD_PLL_LOCK: a quad PLL locks after its region is powered (R308). -/
  | quadPllLock (q : Nat)
  /-- SUPPLY_IN_RANGE: a supply that was out of range returns to it, releasing a held SYS_RESET or held commits
    (R406). -/
  | supplyInRange (row bank level : Nat)
  /-- RX_BYTE: a UART receives a byte on RXD and pushes it with its error bits into the RX FIFO (R398): the levels
    at the middle of the bits after the start bit. -/
  | rxByte (u : Nat) (bits : List Bool)
  /-- ADDRESSED: an outside I2C controller addresses the unit in target mode and transfers bytes (R398). -/
  | addressed (u addr : Nat) (x : TargetUse)
  /-- PERIPHERAL_DONE: an I2C transfer, SPI frame, UART byte or PMBus transaction ends and the unit sets DONE or
    its error bits (R412). -/
  | peripheralDone (x : PeriphEnd)
  /-- PERST: PERST# resets the host endpoint and host DMA, or causes SYS_RESET when PERST_SYS = 1 (R371). -/
  | perst
  /-- LINK_DOWN: loss of the host link without PERST# (R371). -/
  | linkDown
  /-- D3HOT: PF0 entering D3hot stops every DMA channel and gates BAR and window requests (R371). -/
  | d3hot
  /-- SCRUB_ON: CMD SCRUB_ON turns frame scrubbing on (R135, R155). -/
  | scrubOn
  /-- SCRUB_OFF: CMD SCRUB_OFF turns frame scrubbing off (R135, R155). -/
  | scrubOff
  /-- SOURCE_TIMEOUT: no stream byte arrives for CFG.SRC_TIMEOUT and the load ends (R143). -/
  | sourceTimeout
  /-- HOST_DEADLINE: no host or JTAG load has begun by HOST_DEADLINE and slot 0 is loaded (R148). -/
  | hostDeadline
  /-- READBACK_DONE: a readback or restore transfer ends normally or stops with an error (R171, R176). -/
  | readbackDone
  /-- THAW_TICK: at the next Beam tick after THAW the stages resume and capture is IDLE (R174). -/
  | thawTick
  /-- PAUSE_LIMIT: steps 6 and 7 of a step cannot end by t_f + PAUSE_LIMIT and S is released unchanged (R187). -/
  | pauseLimit
  /-- BEAM_EVENT_ACT: an event that entered the Beam acts at every routed destination 9 ticks later (R278). -/
  | beamEventAct
  /-- REF_LOST: the reference is absent for 10 µs and the time base enters holdover (R271). -/
  | refLost
  /-- REF_RETURN: the reference returns; the time base is slewed back and LOCK reads 1 once locked (R271). Until
    TIME_BASE_LOCK the time base stays in holdover, and TIME does not jump. REF_CTRL.REF_PRESENT follows the
    reference. -/
  | refReturn
  /-- DLL_LOST: the Beam delay reference loses lock (R281). -/
  | dllLost
  /-- DLL_RELOCK: the Beam delay reference locks, or relocks by itself (R281, R453). -/
  | dllRelock
  /-- AUTOMATIC_CLOSE: the record reaches START_AT + LEN and closes (R282). -/
  | automaticClose
  /-- DRAIN_TIMEOUT: the record drain timeout expires and the controller names laggards and enters CLOSED
    (R287). -/
  | drainTimeout
  /-- DEFERRED_WORK_DONE: deferred work after CLOSED ends and the controller enters ARMED or IDLE (R24, R288). -/
  | deferredWorkDone
  /-- MAINT_LIMIT: MAINT_LIMIT is reached and unbegun deferred work moves to the next boundary (R24). -/
  | maintLimit
  /-- TAKE: TALLY.CTRL.TAKE enters a tally strobe event (R293). -/
  | takeTally
  /-- BROWNOUT: VCC_FAB below 0.55 V gates the fabric boundary and fences fabric NIs (R408). -/
  | brownout
  /-- ERASE_DONE: the unlock erase ends and authorization becomes OPEN (R422). -/
  | eraseDone
  /-- STIM_STALL_EXPIRE: a stalled stimulus write waits 4 µs without room and is discarded (R436). -/
  | stimStallExpire
  /-- TIME_BASE_LOCK: the time base acquires the reference and LOCK reads 1 (R453). -/
  | timeBaseLock
  /-- STORE_COMMAND_DONE: a FORMAT or MOUNT ends, and BUSY clears or CAUSE is set (R347, R348). -/
  | storeCommandDone
  /-- CAP_TIME_REACHED: TIME reaches CAP_TIME minus 9 and an armed AT_TIME capture enters its FREEZE event
    (R173). -/
  | capTimeReached
  /-- ALERT_SEEN: the PMBus ALERT# input is asserted, and ALERT_SEEN is set; or it is released (R398). -/
  | alertSeen
  /-- TEST_LOGIC_RESET: TMS brings the TAP to Test-Logic-Reset, resetting only the TAP and selecting IDCODE (R414,
    R416). -/
  | testLogicReset
  deriving DecidableEq, Repr

end Sys2Proof
end

