-- ==== Sys2Proof/Decode.lean ====
section
/-! DEFINITION. The commands that words spell. The table of operations and events gives none of its rows any bits: the
commands come from registers, packets, pins and happenings, and no word spells one (assumption 136). -/

namespace Sys2Proof

/-- The command that the nbits bits of a word w spell: none, since no row of the table has bits. -/
def decodeTableWord (_nbits _w : Nat) : Option Instr := none

end Sys2Proof
end

