-- ==== Sys2Proof/Machine/State.lean ====
section
/-! DEFINITION. The state of the part as plain data: every register (as one sparse map), every buffer, latch, queue and
memory the spec gives it, and the queue of commands that wait. -/

namespace Sys2Proof.Machine

/-- Why a command stops the machine. No command of this model raises one: every event the spec describes has its effect,
and an event given where it cannot occur leaves the state as it is (assumption 3). -/
inductive Fault where
  /-- Raised by no command; kept so that the type of outcomes has its three forms (safe: nothing ends in it). -/
  | halted (what : String)
  deriving DecidableEq, Repr

/-- Why a command has no meaning here. -/
inductive Refusal where
  /-- Raised by the dispatcher for a command that has no meaning yet (safe: the run stops). -/
  | notModelled (mnemonic : String)
  deriving DecidableEq, Repr

/-- Sparse contents: (key, value) pairs, kept in key order by Machine/Sparse.lean. -/
abbrev Cells (α : Type) := List (Nat × α)

-- ------------------------------------------------------------------ the ledger (19_debug_and_ledger.md)

/-- A ledger entry (R439). The body's four words are OBJECT, OLD, NEW, EXTRA in the value form, and OLD low, OLD high,
NEW low, NEW high in the digest form. -/
structure Entry where
  seq : Word
  origin : BitVec 8
  kind : BitVec 8
  aux : BitVec 16
  time : DWord
  b0 : Word
  b1 : Word
  b2 : Word
  b3 : Word
  deriving DecidableEq, Repr

/-- The ledger: its buffer, its ring in slot 7, and what the LEDGER registers show (R443 to R448). -/
structure LedgerState where
  /-- LEDGER.STATUS.READY: the scan of R445 is done -/
  ready : Bool
  /-- LEDGER.STATUS [3:1]: COMMIT_FAULT, GAP, TORN -/
  commitFault : Bool
  gap : Bool
  torn : Bool
  /-- entries awaiting commit, oldest first (R443) -/
  buffer : List Entry
  /-- committed entries by ring position; a position not listed holds no entry -/
  ring : Cells Entry
  /-- the next ring position to write -/
  ringPos : Nat
  headSeq : Word
  commitSeq : Word
  oldestSeq : Word
  rdSeq : Word
  /-- entries lost since POR, saturating (LEDGER.LOST) -/
  lost : Nat
  /-- entries lost and not yet told by a GAP entry (R444) -/
  lostUntold : Nat
  /-- pages of the bad-page map, in slot 7 (R443) -/
  badPages : List Nat
  /-- commits have been held for 1 ms and COMMIT_FAULT has told it -/
  heldTold : Bool
  deriving DecidableEq, Repr

-- ------------------------------------------------------------------ device control (02_device_control.md)

/-- A reset that a rule has asked for and that acts after what caused it is recorded (R387): POR (R406); a SYS_RESET for a
cause bit of DEV.RESET_CAUSE, of which 6 and above stand for none; a wake with its bit of WAKE_CAUSE (R404); or a
function reset of a sequencer core, after
which a watchdog's core runs again (R381, R387). -/
inductive Due where
  | por
  | sysReset (cause : Nat) (origin : BitVec 8)
  | wake (cause : Nat)
  | coreReset (n : Nat) (restart : Bool)
  deriving DecidableEq, Repr

/-- A CS-H (R262): its handshake runs, and the pulses that wait at its source. -/
structure Csh where
  running : Bool
  waiting : Nat
  deriving DecidableEq, Repr

/-- What the device as a whole holds outside its registers. -/
structure DevState where
  /-- PORST_N is low -/
  porst : Bool
  /-- BOOT_SRC[1:0] and CFG_PULL as sampled (R125) -/
  bootSrc : BitVec 2
  cfgPull : Bool
  /-- groups pending, as last delivered (DEV.EVT_PEND, R34, R35) -/
  evtPend : BitVec 32
  /-- groups whose host message waits for EVT_ACK (R35) -/
  evtSent : BitVec 32
  /-- event beads not yet taken from the fabric event channel, by group, oldest first (R35) -/
  evtBeads : List Nat
  /-- the system watchdog's warning (R381) -/
  sysWarning : Bool
  /-- resets asked for and not yet acted -/
  due : List Due
  /-- functions that are STOPPING, with the tick from which STOP_TIMEOUT counts (R37) -/
  stopping : List (Func × DWord)
  /-- settings of type RWQ written while their function is STOPPED, each with the word that still acts until the function
  restarts (R37, R38) -/
  acting : List ((Reg × Nat) × Word)
  /-- the CS-H that carries RESYNC_REQ of each crossing station (R260, R262) -/
  controls : Cells Csh
  deriving DecidableEq, Repr

-- ------------------------------------------------------------------ the fabric (03, 04)

/-- A holding stage and its arrival latch (R48, R50): FULL(v) or EMPTY, HELD(v) or VACANT. -/
structure Stage where
  full : Option Digit
  held : Option Digit
  deriving DecidableEq, Repr

/-- An arbitration cell (R52): the request whose grant waits for its consumer, and the request owed the next grant. -/
structure Arbiter where
  grant : Option Bool
  owed : Option Bool
  deriving DecidableEq, Repr

/-- A reckoner (R56, R58): the accumulator and the output beads that wait for their consumers. -/
structure Reckoner where
  acc : DWord
  p : Option DWord
  st : Option Bool
  casc : Option DWord
  deriving DecidableEq, Repr

/-- A contention the guard is masking (R78): the segment, the enabled driver points, westmost first, and the one that
holds the grant. -/
structure Contention where
  seg : Nat
  rods : List Nat
  granted : Nat
  deriving DecidableEq, Repr

/-- A pin station (R83 to R86, R393). -/
structure Station where
  /-- the value its output holds -/
  out : Digit
  /-- the input bead it offers, and the level last delivered -/
  offer : Option Digit
  last : Option Bool
  /-- the output bead that awaits an edge of a pin clock, and since when it is complete -/
  waiting : Option (Digit × DWord)
  /-- the pad as last seen, since when it stands so, and the level that has passed FILTER -/
  raw : Bool
  since : DWord
  level : Bool
  /-- up to which tick the edges of a time-base IN_CLK have been sampled -/
  sampledTo : Option DWord
  deriving DecidableEq, Repr

/-- The tap of a fabric trigger input (R89). -/
structure FtiTap where
  driving : Bool
  waiting : Bool
  deriving DecidableEq, Repr

/-- A rate monitor (R64): its last rate and the tick it was reported on. -/
structure Monitor where
  rate : Nat
  stamp : DWord
  deriving DecidableEq, Repr

/-- A bead that a sink has taken and whose handshake has not ended (R42, R48): the sink's ACK is high until every
output whose bead it took has returned to spacer. -/
structure Taking where
  sink : BeadSink
  /-- outputs that still drive the bead -/
  wait : List BeadSource
  /-- outputs that have returned to spacer -/
  gone : List BeadSource
  deriving DecidableEq, Repr

/-- A HELD arrival latch at the input of a hard block or an edge station (R50, R173): the digits of its bead. -/
structure Latch where
  sink : BeadSink
  digits : List Digit
  deriving DecidableEq, Repr

/-- A bus transaction of the voltage loop (R66, R67): VOUT_MODE and READ_VOUT at its start; VOUT_COMMAND, STATUS_WORD and
READ_VOUT of an interval whose command changes. -/
inductive LoopRead where
  | mode
  | start
  | command (v : Nat)
  | status
  | vout
  deriving DecidableEq, Repr

/-- The user fabric outside configuration memory. -/
structure FabricState where
  /-- input handshakes in progress -/
  takings : List Taking
  /-- arrival latches that are HELD, but for those of holding stages -/
  latches : List Latch
  /-- beads of isolated spans that their boundaries still offer to outside consumers (R161): output and value -/
  offered : List (BeadSource × Nat)
  /-- outputs of edge and pin stations that drove a bead when FREEZE took their rod: they drive no other one until its
  release (R173, R265) -/
  standing : List BeadSource
  /-- outputs of edge stations whose driven word is acknowledged: it leaves its buffer with phase 4 (R264) -/
  spent : List BeadSource
  /-- stages that left their initial state, by cell key; an unlisted stage is in its initial state -/
  stages : Cells Stage
  arbiters : Cells Arbiter
  /-- reckoners that left their initial state, by 24 * rod + k -/
  reckoners : Cells Reckoner
  monitors : Cells Monitor
  /-- since when RATE_CTRL.EN = 0 stops the monitors -/
  rateHeld : Option DWord
  contentions : List Contention
  stations : Cells Station
  /-- pad levels driven from outside, by pin; an unlisted pin is low -/
  padIn : Cells Bool
  taps : Cells FtiTap
  /-- the brownout gate of R408 is applied -/
  brownout : Bool
  /-- the loop's bus transactions that are due, the one in progress first (R67, R413) -/
  vloopDue : List LoopRead
  /-- what the bus brings for them while a GO transaction holds it, in order -/
  vloopHeard : List PmbResult
  /-- attempts of the first one that have failed (R68) -/
  vloopTries : Nat
  /-- the tick of the loop's last interval (R66) -/
  vloopAt : DWord
  /-- consecutive loop intervals with READ_VOUT off the command (R68) -/
  vloopOff : Nat
  deriving DecidableEq, Repr

-- ------------------------------------------------------------------ memories and queues (05)

/-- Which count a discarding queue adds dropped words to (R110, R117, R119, R120). -/
inductive Discard where
  | none | oversize | late | recDiscard
  deriving DecidableEq, Repr

/-- A word standing on a queue's CD channel. -/
structure CdWord where
  data : BitVec 72
  last : Bool
  poison : Bool
  deriving DecidableEq, Repr

/-- A queue controller's own state (R107, R113, R114, R116). -/
structure Queue where
  rd : Nat
  cm : Nat
  wr : Nat
  /-- the LAST flags of the committed unread words, oldest first -/
  lasts : List Bool
  /-- the consumer has taken some but not all words of a packet -/
  midPacket : Bool
  flushPending : Bool
  discard : Discard
  /-- the word driven on CD -/
  cd : Option CdWord
  /-- the word on CD was driven when a flush or a discard took effect: it stands no longer in the ring (R451) -/
  kept : Bool
  /-- the last bead delivered on CD and CC -/
  delivered : Option CdWord
  /-- undelivered beads on CE (R114) -/
  ceClosing : Bool
  ceFlushed : Bool
  ceStale : Bool
  /-- a STALE was sent and none may follow yet (R113) -/
  staleSent : Bool
  /-- the tick from which the stale timer counts -/
  staleFrom : DWord
  /-- the record-close tick was taken and the queue has not drained (R116) -/
  closing : Bool
  /-- a record close acted while the rod was frozen: the queue sees it at the release (R174, R190) -/
  closeDue : Bool
  holdRecord : Bool
  /-- counted as drained in the running drain (R116 step 5) -/
  drained : Bool
  deriving DecidableEq, Repr

/-- Memories and queues of the fabric. -/
structure MemState where
  /-- rows stored with a poison check code (R99), by row key -/
  poisoned : List Nat
  /-- the bits that accesses have corrected in a row, by row key (R101) -/
  onceCorrected : Cells (List Nat)
  /-- spare rows in use, by 32 * physical rod + memory (R101, R182) -/
  sparesUsed : Cells Nat
  /-- RD beads a port has produced and no consumer has taken, by 2 * memory key + port -/
  reads : Cells (List (BitVec 72))
  /-- RS beads likewise -/
  statuses : Cells (List (BitVec 2))
  /-- the next row each memory scrubs, and the tick of its last scrub (R100) -/
  scrubRow : Cells Nat
  scrubbedAt : Cells DWord
  queues : Cells Queue
  deriving DecidableEq, Repr

-- ------------------------------------------------------------------ configuration (06, 07)

/-- Where a frame's last load came from, with the digest recorded for it (R156). -/
structure FrameSource where
  src : Nat
  slot : Nat
  digest : DWord
  deriving DecidableEq, Repr

/-- What a load writes: configuration memory whole, a span, a user slot, the firmware or calibration area, the boot
header, or slot 0 and the clearing of a list by full-part programming (R151, R153, R154, R166, R424). -/
inductive LoadKind where
  | full
  | span (n : Nat)
  | slot (n : Nat)
  | area (dest : Nat)
  deriving DecidableEq, Repr

/-- Where the loader stands in the stream (R130, R133). -/
inductive LoadPhase where
  /-- the header is arriving -/
  | header
  /-- the header passed; the loader waits for the drain and gating before frames -/
  | gating
  /-- the next word is a command word -/
  | command
  /-- words of a WRITE, NOP or BURST are arriving: the command word's op and register, its offset, words still due -/
  | data (op reg cmdOffset due : Nat)
  /-- END was taken; the CRC word is next -/
  | crc
  deriving DecidableEq, Repr

/-- A running SHA-256 computation: the chaining words, the words of the open block, the words taken. -/
structure Sha where
  h : List Word
  block : List Word
  words : Nat
  deriving DecidableEq, Repr

/-- A declared span (R157). -/
structure SpanDecl where
  id : Nat
  rods : BitVec 256
  nis : BitVec 96
  pins : BitVec 192
  bounds : List Word
  deriving DecidableEq, Repr

/-- A load that is running. -/
structure Load where
  kind : LoadKind
  src : Nat
  slot : Nat
  who : Who
  /-- the load was started at boot; it is the golden fallback of R144; it came through the ICP (R168) -/
  boot : Bool
  golden : Bool
  icp : Bool
  phase : LoadPhase
  /-- byte offset of the next word awaited -/
  offset : Nat
  header : List Word
  /-- running CRC-32C register, before the final inversion (R130) -/
  crc : Word
  sha : Sha
  /-- words of the WRITE or frame being collected, oldest first -/
  words : List Word
  /-- offset of the first data word of the frame being collected -/
  frameOffset : Nat
  far : Nat
  started : Bool
  lockArmed : Bool
  spanSeen : Bool
  wroteFrame : Bool
  /-- frames written, by logical rod, for the coverage check -/
  cover : Cells (BitVec 960)
  spans : List SpanDecl
  pinIso : BitVec 768
  /-- words of BEAM_MAP, when written -/
  beamMap : List Word
  /-- the running CRC before the present command word (R134) -/
  crcMark : Word
  /-- words that arrived while the loader waits for the drain and gating -/
  ahead : List Word
  /-- fetched bytes that do not make a word yet (R126) -/
  bytes : List Byte
  /-- bytes fetched from the host-memory window, and whether a request for more is under way (R126) -/
  fetched : Nat
  fetching : Bool
  /-- the device was in user mode when the load was accepted (R151) -/
  user : Bool
  /-- slot 0 is loaded because HOST_DEADLINE passed (R148) -/
  deadline : Bool
  /-- DIGEST of a slot, or CRC word of an area, before it is written (R441) -/
  oldDigest : DWord
  /-- scrubbing to be turned on or off at START by the image's own command -/
  scrub : Option Bool
  deriving DecidableEq, Repr

/-- What a release in progress reaches (R49). -/
inductive Reach where
  | all
  | span (n : Nat)
  | rods (first last : Nat)
  deriving DecidableEq, Repr

/-- Why a release runs: START, FABRIC_RESET, a span RESET. -/
inductive ReleaseCause where
  | start | fabricReset | spanReset
  deriving DecidableEq, Repr

/-- A gating that waits for its release (R49): the tick of step 1, and whether stages are still to be released. -/
structure Release where
  reach : Reach
  cause : ReleaseCause
  tick : DWord
  deriving DecidableEq, Repr

/-- A span operation under way (R164, R166): its span, code and origin, and whether the ICP asked. -/
structure SpanOp where
  span : Nat
  op : Nat
  who : Who
  icp : Bool
  /-- the digest of the image that was loaded -/
  newDigest : DWord
  deriving DecidableEq, Repr

/-- A readback or restore transfer (R171, R176). -/
structure Transfer where
  restore : Bool
  toNoc : Bool
  far : Nat
  state : Bool
  left : Nat
  addr : Nat
  /-- words read and not yet taken, or words of the record being restored -/
  words : List Word
  who : Who
  /-- a request of the engine is under way -/
  asked : Bool
  /-- the transfer is over, with its ERR_CAUSE: its end is still to be shown -/
  ended : Option Nat
  deriving DecidableEq, Repr

/-- The fields of a boot header (R129), and whether each SEQ_BOOT word is kept. -/
structure BootHeader where
  vendor : BitVec 16
  device : BitVec 16
  subsysVendor : BitVec 16
  subsys : BitVec 16
  cls : BitVec 24
  revision : BitVec 8
  maxSpeed : Nat
  maxWidth : Nat
  fabBar : Nat
  bootSlot : Nat
  hostDeadline : Nat
  srcTimeout : Nat
  flashBase : Word
  flashOctal : Bool
  flashDummy : Nat
  /-- words 0x040 to 0x07C: SEQ_BOOT -/
  seqBoot : List Word
  deriving DecidableEq, Repr

/-- The edge station and the channel logic of a fabric NI (R227, R228, R264): the words in the buffers of IQ and TR, the
beads the NI has taken of the packet it assembles on each, the words in the buffers of IR, TQ, UQ and EV by channel
number, and how many words of the packet at the head of each have passed into its buffer. -/
structure EdgeState where
  iq : List (BitVec 72)
  tr : List (BitVec 72)
  iqWords : List (BitVec 72)
  trWords : List (BitVec 72)
  out : Cells (List (BitVec 72))
  moved : Cells Nat
  /-- requests that wait to be offered on TQ, oldest first, with the HANDLE of those that need an answer (R230) -/
  tq : List (Nat × Packet)
  deriving DecidableEq, Repr

/-- What a state frame of a rod holds where the spec gives no layout (R175), each unit by its number within the rod: a part
of the reckoners, the queues, the block-memory ports, or the stations, taps and edge buffers, with the arrival latches at
their inputs. -/
structure FrameContent where
  reckoners : Cells Reckoner
  queues : Cells Queue
  reads : Cells (List (BitVec 72))
  statuses : Cells (List (BitVec 2))
  stations : Cells Station
  taps : Cells FtiTap
  edges : Cells EdgeState
  latches : List Latch
  deriving DecidableEq, Repr, Inhabited

/-- An opaque state frame as a readback gave it (R175): its number, the bits it read as, ACC's as 0, and what they stand
for. -/
structure OpaqueFrame where
  frame : Nat
  bits : BitVec 4096
  content : FrameContent
  deriving DecidableEq, Repr

/-- The configuration engine. -/
structure CfgState where
  /-- bytes of the configuration store (R123) outside the ledger region; an unlisted byte reads 0 -/
  store : Cells Byte
  /-- configuration memory by 1024 * logical rod + frame; an unlisted frame is 0 -/
  frames : Cells (BitVec 4096)
  /-- the source of every frame's last full load, and frames a partial load wrote since -/
  fullSource : Option FrameSource
  frameSource : Cells FrameSource
  load : Option Load
  /-- START was accepted and its event has not acted: the load's header words, staged declarations and origin -/
  starting : Option Load
  spans : List SpanDecl
  /-- the digest of the image each span runs -/
  spanDigest : Cells DWord
  /-- spans declared by the running image, where a restore returns them (R403) -/
  spanBefore : Cells Nat
  pinIso : BitVec 768
  beamMap : List Word
  releases : List Release
  fabricResetWaiting : Bool
  spanOp : Option SpanOp
  /-- a span request that waits for a roving step on the span's rods (R170): the SPAN_CMD value, who asked, whether
  through the ICP -/
  spanWaiting : Option (Word × Who × Bool)
  /-- spans isolated whose rods have not all reported settled (R161), and spans released and not yet RUNNING (R166) -/
  spanSettling : List Nat
  spanReleased : List Nat
  /-- beads in the buffer of ICP_R, oldest first (R168, R264) -/
  icpResults : List (BitVec 16)
  transfer : Option Transfer
  queued : Option Transfer
  opaqueSeen : List OpaqueFrame
  /-- capture: FREEZE waits for an event routed to it; FREEZE is in the Beam; THAW was accepted -/
  freezeArmed : Bool
  /-- when the capture's FREEZE acted -/
  captureFrom : DWord
  /-- state frames restored since the FREEZE, by 32 * rod + state frame (R176) -/
  stateRaw : Cells Nat
  /-- frames as their last load wrote them, and as the last full load did (R156, R167, R403) -/
  loaded : Cells (BitVec 4096)
  fullFrames : Cells (BitVec 4096)
  /-- the check bits of frames' quarters as the loader computed them, four times 16 bits (R137) -/
  checks : Cells (BitVec 64)
  /-- the driver table of R76: the rod of a segment's enabled driver, plus one -/
  drivers : Cells Nat
  /-- from the gating of a full load in user mode until START, guard registers take writes from the stream only (R151) -/
  streamGuards : Bool
  /-- frames left with an uncorrectable quarter (R156, R171) -/
  badFrames : List Nat
  scrubRod : Nat
  scrubFrame : Nat
  /-- rods to scrub ahead of the order, each with its next frame (R79) -/
  scrubFirst : List (Nat × Nat)
  header : BootHeader
  /-- a load of the boot source is still to begin (R148) -/
  bootWaiting : Bool
  /-- the tick from which HOST_DEADLINE counts (R148) -/
  deadlineFrom : DWord
  deriving DecidableEq, Repr

-- ------------------------------------------------------------------ self-test and repair (08)

/-- A step of the roving spare that is running (R186). -/
structure RoveStep where
  group : Nat
  migration : Bool
  src : Nat
  dst : Nat
  logical : Nat
  /-- t_f, when the source has frozen; the tick of the freeze -/
  frozenAt : Option DWord
  /-- the multiplexers and the map have switched -/
  switched : Bool
  deriving DecidableEq, Repr

/-- Self-test and repair outside its registers. -/
structure RepairState where
  /-- the repair map: physical rod + 1 by logical rod; an unlisted logical rod has no physical home -/
  place : Cells Nat
  /-- the retirement list, in slot 7 (R188) -/
  retired : List Nat
  /-- ticks of the events counted against a physical rod within its wear window (R184) -/
  counted : Cells (List DWord)
  /-- faulty tile rows of a physical rod, as its last test found them (R177, R182) -/
  badRows : Cells (BitVec 100)
  /-- code faults counted against a tile row, by 128 * physical rod + physical tile row (R43) -/
  codeFaults : Cells Nat
  /-- frames that showed a double-bit error since POR, by physical rod and frame (R184) -/
  doubleBit : List (Nat × Nat)
  /-- physical positions whose power-up slice has ended, and the duration of each group's test -/
  sliced : List Nat
  step : Option RoveStep
  /-- physical rods whose wear fault waits for a migration, oldest first (R189) -/
  migrations : List Nat
  /-- abandoned attempts of the first migration (R189) -/
  attempts : Nat
  /-- groups whose routine step waits for a record boundary (R185, R190) -/
  deferred : List Nat
  /-- groups whose routine step is due, or that REPAIR.CMD asked for, and has not begun (R185, R190) -/
  asked : List Nat
  /-- consecutive pre-emptions of link slices, by 16 * page + port, and of pseudo-channel slices (R194) -/
  linkPreempts : Cells Nat
  hbmPreempts : Cells Nat
  /-- slices forced at the next record boundary (R194): (true, pseudo channel) or (false, 16 * page + port) -/
  forced : List (Bool × Nat)
  /-- forced slices that have begun at a boundary (R24, R194) -/
  begun : List (Bool × Nat)
  /-- when the next test of a link direction and of a pseudo channel is due, by the same numbers (R192, R193) -/
  linkNext : Cells DWord
  hbmNext : Cells DWord
  /-- when the power-up self-test began, and when each group's running slice did (a spare's test as well); an unlisted
  group's began with the self-test -/
  testFrom : DWord
  sliceFrom : Cells DWord
  /-- the lowest replica reading of the power-up self-test in M beads/s; 0 before the readings (R179) -/
  lowRate : Nat
  /-- when each group's last step ended (R185) -/
  lastStep : Cells DWord
  deriving DecidableEq, Repr

-- ------------------------------------------------------------------ the carry network (09, 10)

/-- A transaction that waits for its response (R224). -/
structure Txn where
  tag : Nat
  dest : Nat
  cmd : Cmd
  addr : Nat
  len : Nat
  use : Use
  /-- from when the timer counts, and the ticks it was held (R186) -/
  start : DWord
  held : DWord
  /-- the request carries ATTR.REC and this record number -/
  record : Option (BitVec 16)
  deriving DecidableEq, Repr

/-- A non-posted request delivered to a unit and not answered (R225, R230). -/
structure Delivered where
  handle : Nat
  packet : Packet
  /-- from when the target timer counts, and the ticks it was held (R186) -/
  since : DWord
  held : DWord
  deriving DecidableEq, Repr

/-- A U gate closed at its source NI (R235): the destination, what closed it, and when it opens. -/
structure Gate where
  dest : Nat
  /-- 256 + page for a HOLD; the NI number for a fence -/
  cause : Nat
  openAt : Option DWord
  deriving DecidableEq, Repr

/-- The two CS-F of an NI that has a unit of its own (R258, R259): what has come to the writer of each and its reader has not
read whole, oldest first, and the pointers, which run from 0 to 31 and cross Gray-coded. The entries are the first 16 units
of it. -/
structure Csf where
  /-- toward the unit, with what the ECC found -/
  down : List (Packet × PacketEcc)
  downWritten : Nat
  downRead : Nat
  /-- toward the NI -/
  up : List Request
  upWritten : Nat
  upRead : Nat
  deriving DecidableEq, Repr

/-- One network interface. -/
structure NiState where
  /-- a fabric NI's edge station -/
  edge : EdgeState
  outstanding : List Txn
  /-- tags quarantined and since when (R224) -/
  quarantine : List (Nat × DWord)
  delivered : List Delivered
  /-- handles the target timer or a fence answered, with the data beads of an answer: the unit's later answer is discarded
  (R225, R230, R247) -/
  answered : List (Nat × Nat)
  /-- posted writes delivered to the unit's side and not yet taken, and WRs with no enabled byte that wait for them (R284) -/
  posted : List Packet
  /-- the U receive buffer (R236) -/
  uq : List Packet
  /-- beads waiting on EV: OPERAND and SRC_NI (R231) -/
  ev : List (DWord × Nat)
  /-- responses waiting on IR (R229) -/
  ir : List Packet
  /-- packets waiting for a regulator, the U spacing or a gate, oldest first (R221, R234, R235) -/
  held : List Packet
  /-- units injected that the router has not taken, oldest first -/
  out : List FlowUnit
  /-- units of the packet that comes in on a VN, until its TAIL (R223) -/
  rx : Cells (List FlowUnit)
  /-- whole packets received that the NI has not acted on, oldest first, with what their ECC found (R222) -/
  arrived : List (Packet × PacketEcc)
  csf : Csf
  /-- token buckets by VN in 1/1024 token, offset by 65536 so that -64 tokens are 0, and when last filled -/
  tokens : Cells (Nat × DWord)
  uLast : Option DWord
  uLastTo : Cells DWord
  /-- route-table entries that differ from the default route, by 256 * bank + destination -/
  routes : Cells DWord
  /-- the unit is part-way through injecting a packet (R219) -/
  injecting : Bool
  gates : List Gate
  /-- when the running drain of the fence began, and who asked (R246, R250) -/
  fenceFrom : DWord
  fenceLimit : Nat
  fenceWho : Who
  /-- the causes of the requests that the running drain of the fence answers (R245, R250) -/
  fenceAsked : List Nat
  /-- the tick of the last drop report of each code (R249) -/
  reported : Cells DWord
  /-- destinations of WRPs carrying N since the last record, with the last address (R284) -/
  marked : Cells Nat
  /-- drain markers that wait for a tag or for room for their answers: destination, address, record (R212, R224, R284) -/
  markers : List (Nat × Nat × BitVec 16)
  deriving DecidableEq, Repr

/-- A write staged at a router (R239). -/
structure Staged where
  reg : Reg
  inst : Nat
  value : Word
  who : Who
  deriving DecidableEq, Repr

/-- One router. -/
structure RouterState where
  /-- the output port of the open packet of each input and VN, by 4 * port + vn; 15 discards, 16 consumes (R223, R242) -/
  opened : Cells Nat
  /-- units in input buffers (R209), oldest first: input port, unit; port 15 stands for the router's own answers (R218) -/
  waiting : List (Nat × FlowUnit)
  /-- CFG packets whose route ended here (R213, R218) -/
  consumed : List Packet
  /-- turns left of a VN on an output in the running round, by 4 * output + VN (R210) -/
  turns : Cells Nat
  /-- the input that a VN's last header on an output came from, by 4 * output + VN (R210) -/
  lastInput : Cells Nat
  /-- units sent and not yet received at the far end, oldest first: output port, unit -/
  sent : List (Nat × FlowUnit)
  staged : List Staged
  /-- when step 3 of the running HOLD came (R241) -/
  holdFrom : DWord
  holdWho : Who
  /-- spare wires in use on an input, by 8 * port + spare: wire + 1 -/
  spares : Cells Nat
  /-- ticks of parity faults of a group within the last millisecond, by 4 * port + group (R202) -/
  parity : Cells (List DWord)
  deriving DecidableEq, Repr

/-- A request that has ended, on its way to what waits for it behind its NI (R224, R16). -/
structure Completion where
  ni : Nat
  use : Use
  request : Cmd
  addr : Nat
  len : Nat
  /-- rspData, rspOk or rspErr -/
  answer : Cmd
  err : Nat
  operand : DWord
  data : List Byte
  deriving DecidableEq, Repr

/-- The carry network. -/
structure NetState where
  nis : Cells NiState
  routers : Cells RouterState
  /-- fabric NIs the running image uses (R17) -/
  used : BitVec 96
  /-- requests that ended within the running command and have not yet reached their units -/
  ended : List Completion
  /-- the transport that last wrote DBG.MEM_DATA, as an origin code (R442) -/
  debugOrigin : BitVec 8
  /-- islands whose clock has stopped for a fault (R257, R268): a bit of XS_ISLAND_CLK of 1 to 5, 16 + q for a quad, 256 and
  its page for a router -/
  stopped : List Nat
  deriving DecidableEq, Repr

-- ------------------------------------------------------------------ time and the Beam (12)

/-- Where a Beam event comes from: one of the 64 sources of R276, or a unit that drives one destination itself (START,
FREEZE, the tally strobe, the record controller's own start and close events). -/
inductive BeamFrom where
  | source (n : Nat)
  | direct (dest : Nat)
  deriving DecidableEq, Repr

/-- An event inside the crossbar (R23): where it comes from and the tick on which it entered. -/
structure BeamEvent where
  origin : BeamFrom
  entry : DWord
  deriving DecidableEq, Repr

/-- The Beam crossbar. -/
structure BeamState where
  /-- events that have entered and not acted, in order of entry -/
  flight : List BeamEvent
  deriving DecidableEq, Repr

/-- The record controller outside its registers. -/
structure RecordState where
  /-- a start that came while CLOSING or CLOSED is latched (R291) -/
  latched : Bool
  /-- from when the drain timeout counts, and since when its count is held (R287) -/
  drainFrom : DWord
  heldSince : Option DWord
  /-- MAINT_LIMIT moved unbegun deferred work to the next boundary (R24) -/
  moved : Bool
  /-- phase-B participants that have had a SINK notice, and laggards told by TIMEOUT, in this drain -/
  sunk : List Nat
  told : List Nat
  deriving DecidableEq, Repr

/-- The tally (R293, R294). -/
structure TallyState where
  /-- the tally counters as their units last latched them, by register key; an unlisted counter was 0 -/
  shadows : Cells Word
  /-- the stamp of each power region's units, plus 1; an unlisted region has latched no tally -/
  stamps : Cells Nat
  /-- when the latest tally was taken -/
  last : Option DWord
  deriving DecidableEq, Repr

-- ------------------------------------------------------------------ the chassis trigger bus (13)

/-- A telegram that waits, or is sent from a tick on (R301). -/
structure Telegram where
  data : BitVec 16
  /-- when it started; none while it waits -/
  sentAt : Option DWord
  /-- resends made, and whether the next start is one -/
  resends : Nat
  again : Bool
  deriving DecidableEq, Repr

/-- The settings of a line that hold while it asserts or sends (R305). -/
structure LineHold where
  mode : Nat
  width : Nat
  win : Nat
  idle : Nat
  deriving DecidableEq, Repr

/-- A trigger line's driver and receiver (R297 to R304). -/
structure Line where
  /-- the tick on which the registered level last changed (R297) -/
  since : DWord
  /-- the tick on which a foreign assertion was last registered -/
  foreignAt : Option DWord
  asserting : Bool
  began : DWord
  /-- when a pulse, a stretched release or a forced release ends the assertion -/
  ends : Option DWord
  /-- the level requested in LEVEL mode -/
  request : Bool
  /-- when the driver last released the line -/
  released : Option DWord
  telegram : Option Telegram
  hold : Option LineHold
  /-- a cutoff locked the line out, and it has not asserted since -/
  cut : Bool
  /-- the token bucket, and from when it gains -/
  tokens : Nat
  tokensAt : DWord
  /-- the last ledger entry of R304 -/
  told : Option DWord
  deriving DecidableEq, Repr

/-- The trigger lines and the receive FIFO: telegrams with their lines and ticks. -/
structure TbusState where
  lines : Cells Line
  fifo : List (BitVec 16 × Nat × DWord)
  /-- a START has acted since POR: the star-trigger drivers are no longer high impedance (R296) -/
  started : Bool
  deriving DecidableEq, Repr

-- ------------------------------------------------------------------ the lanes (14)

/-- A lane (R310 to R313, R320). -/
structure LaneState where
  /-- bytes of the stream that do not yet make a chunk, and whether that chunk is being dropped (R311) -/
  part : List Byte
  partDrop : Bool
  /-- complete chunks not yet sent: k of the first byte, bytes -/
  held : List (Nat × List Byte)
  /-- the next extended multiblock to release -/
  multiblock : Nat
  /-- the last 58 line bits received, the latest in bit 57, as the descrambler of RAW_66 holds them (R322) -/
  line : BitVec 58
  /-- the transmit stream: when it began, the next chunk to send, the next to read, the chunks in hand (none where the
  read failed), and when the first was in hand -/
  txFrom : Option DWord
  txNext : Nat
  txAsked : Nat
  txHand : List (Nat × Option (List Byte))
  txFirst : Option DWord
  deriving DecidableEq, Repr

/-- The lanes by lane number, and by quad what the last restart and alignment left: lanes that started, the LEMC
boundary of the alignment (R319) and when it came. -/
structure LanesState where
  lanes : Cells LaneState
  started : Cells (BitVec 4)
  aligned : Cells (Option DWord)
  deriving DecidableEq, Repr

-- ------------------------------------------------------------------ HBM and the stream store (15)

/-- What a pseudo channel keeps for a ring (R340, R341): the set of record N, the set of the next record, the bytes since
EN, the captured values with their record, and whether a record close is still to be captured. -/
structure RingPc where
  last : Option (Nat × DWord)
  next : Option (Nat × DWord)
  bytes : Nat
  captured : Bool
  capLast : Option (Nat × DWord)
  capBytes : Nat
  capRecord : Nat
  owes : Bool
  deriving DecidableEq, Repr

/-- The HBM controller and its stack. -/
structure HbmState where
  /-- bytes of the stack by HBM address; an unlisted byte reads 0 (R333) -/
  bytes : Cells Byte
  /-- words stored with a poison check code or uncorrectable, by address div 8 (R334) -/
  poisoned : List Nat
  /-- the bits that accesses have corrected in a word (R336) -/
  onceCorrected : Cells (List Nat)
  /-- the HBM repair list in slot 7: rows by address div 1,024 (R336) -/
  repaired : List Nat
  rings : Cells RingPc
  /-- the next 64-byte block each pseudo channel scrubs, and when it scrubbed the last -/
  scrubAt : Cells Nat
  scrubbedAt : Cells DWord
  /-- temperature level: 0 normal, 1 hot, 2 throttle, 3 critical (R337) -/
  level : Nat
  /-- the next 16 KiB region each pseudo channel's background test takes (R193) -/
  testAt : Cells Nat
  deriving DecidableEq, Repr

/-- What the store knows of a drive. -/
structure Drive where
  linkUp : Bool
  nsBytes : Nat
  /-- the volume header and the catalogue entries that stand on it (R347, R352) -/
  header : Option VolumeHeader
  entries : List CatEntry
  /-- since when its commands have run without one completing (R346) -/
  busy : Option DWord
  deriving DecidableEq, Repr

/-- A record close that a channel has still to commit (R351): the record, its START_AT and CLOSE_AT, the offset held at the
close, that of the last write tagged with the record, and the close point once a notice has named it. -/
structure RecordCut where
  number : Nat
  startAt : Nat
  closeAt : Nat
  held : Nat
  tagged : Option Nat
  cut : Option Nat
  late : Bool
  deriving DecidableEq, Repr

/-- A store channel: offsets are bytes since RUN. -/
structure Chan where
  /-- published, issued to the drives, and complete -/
  prod : Nat
  issued : Nat
  cons : Nat
  /-- offset of the last CH_PROD write tagged with the open record -/
  tagged : Option Nat
  /-- record closes not yet committed, oldest first -/
  cuts : List RecordCut
  /-- bytes before the close point that found no room (R351) -/
  short : Nat
  /-- next unwrapped partition stripe; that of the record's first byte; offset of the record's first byte -/
  next : Nat
  recFirst : Nat
  recBase : Nat
  recStripes : Nat
  holes : Bool
  truncated : Bool
  overwrote : Bool
  /-- a playback's entry; and the offset of a stripe whose zeros have been written for a failed drive (R353) -/
  play : Option CatEntry
  zeroed : Option Nat
  deriving DecidableEq, Repr

/-- The stream store. -/
structure StoreState where
  drives : Cells Drive
  channels : Cells Chan
  /-- the command that runs, its OP; and what the checks of a MOUNT found, as STATUS.CAUSE gives it (R348) -/
  command : Nat
  cause : Nat
  deriving DecidableEq, Repr

-- ------------------------------------------------------------------ the host interface (16)

/-- The MSI-X capability of PF0 (R363). -/
structure MsixState where
  enable : Bool
  functionMask : Bool
  /-- the words of the table, four to a vector; an unlisted word is 0, or 1 (masked) for a vector-control word -/
  table : Cells Word
  pba : BitVec 64
  deriving DecidableEq, Repr

/-- The identity and BAR sizes latched at the first link-up (R358, R360). -/
structure Identity where
  vendor : BitVec 16
  device : BitVec 16
  subsysVendor : BitVec 16
  subsys : BitVec 16
  cls : BitVec 24
  revision : BitVec 8
  fabBar : Nat
  deriving DecidableEq, Repr

/-- A carry-network piece of a BAR request (R361). -/
structure BarPiece where
  window : BarWindow
  request : Request
  deriving DecidableEq, Repr

/-- A read that waits for its pieces, a BAR read or FetchAdd or a read through the host-memory window: their addresses
and lengths in order, the bytes that came, and whether a piece failed. -/
structure Parts where
  parts : List (Nat × Nat)
  got : List (Nat × List Byte)
  failed : Bool
  deriving DecidableEq, Repr

/-- A BAR read or FetchAdd under way: the host's tag, its window and its pieces. -/
structure BarRead where
  tag : Nat
  window : BarWindow
  pieces : Parts
  deriving DecidableEq, Repr

/-- Who, in the host island, waits for a read of host memory (R367, R370). -/
inductive HostUse where
  /-- descriptors of channel c -/
  | fetch (c : Nat)
  /-- bytes of the descriptor of channel c with a serial number, for a card address -/
  | dma (c serial card : Nat)
  /-- a request to the host-memory window -/
  | window (p : Packet)
  deriving DecidableEq, Repr

/-- A Memory Read sent to the host and not completed. -/
structure HostRead where
  tag : Nat
  use : HostUse
  addr : Nat
  len : Nat
  deriving DecidableEq, Repr

/-- A descriptor a channel holds (R365 to R368). -/
structure Desc where
  /-- its ring entry, and the number that names it among all the channel has held -/
  index : Nat
  serial : Nat
  card : Nat
  host : Nat
  length : Nat
  irq : Bool
  halt : Bool
  reserved : Bool
  /-- bytes asked for, parts not answered, bytes moved -/
  issued : Nat
  waiting : Nat
  moved : Nat
  /-- bytes that have come from one side and wait to leave for an address of the other -/
  ready : List (Nat × List Byte)
  /-- the first failure: CODE and DETAIL -/
  failure : Option (Nat × Nat)
  /-- destination NIs written, with the last address, and whether the closing WRs have been sent -/
  wrote : Cells Nat
  closed : Bool
  deriving DecidableEq, Repr

/-- A host DMA channel. -/
structure Dma where
  /-- descriptors held, in ring order; the first one executes -/
  descs : List Desc
  /-- descriptors held so far -/
  serial : Nat
  /-- a fetch under way: its first ring entry and its entries -/
  fetching : Option (Nat × Nat)
  /-- the last message, and one that waits for the holdoff -/
  lastMessage : Option DWord
  messageDue : Bool
  deriving DecidableEq, Repr

/-- The host interface outside its registers. -/
structure HostState where
  identity : Option Identity
  /-- PF0's max payload and max read request size -/
  maxPayload : Nat
  maxRead : Nat
  /-- translation entries (R370) -/
  xlat : Cells DWord
  dma : Cells Dma
  /-- reads of host memory sent, and those that wait for one of the 768 tags -/
  reads : List HostRead
  readsWaiting : List HostRead
  windowReads : List (Packet × Parts)
  /-- BAR pieces not yet issued, oldest first; writes issued and not answered; the destination of the last write -/
  pieces : List BarPiece
  writes : Nat
  lastWrite : Option Nat
  barReads : List BarRead
  deriving DecidableEq, Repr

-- ------------------------------------------------------------------ the sequencer (17)

/-- An aperture or far-window access of a core that waits for its response (R375): its NoC address and core address, the
register a load fills, its bytes and extension. -/
structure CoreAccess where
  store : Bool
  addr : Nat
  core : Nat
  rd : Nat
  bytes : Nat
  signed : Bool
  deriving DecidableEq, Repr

/-- A sequencer core (R373 to R375, R380): general registers and machine CSRs that are not 0, the pc, the reservation's
granule, the access it waits for, NIs posted to since the last FENCE with the last address, WRs a FENCE waits for, and
the MTIMECMP in effect. -/
structure Core where
  x : Cells Word
  pc : Word
  csrs : Cells Word
  reserve : Option Nat
  access : Option CoreAccess
  posted : Cells Nat
  fencing : Nat
  timecmp : DWord
  deriving DecidableEq, Repr

/-- A watchdog that is enabled (R381, R382): the count held at a tick from which it counts (none while paused), why it is
paused (0 not, 1 a debug halt, 2 STOPPED or off), and whether its warning is out. -/
structure Dog where
  held : Nat
  since : Option DWord
  reason : Nat
  warned : Bool
  deriving DecidableEq, Repr

/-- The sequencer, its memories and the watchdogs. -/
structure SeqState where
  cores : Cells Core
  /-- TCM words: 0x8000 * n + w for the ITCM of core n, 0x4000 more for its DTCM -/
  tcm : Cells Word
  sram : Cells Word
  dogs : Cells Dog
  /-- the last ledger entry of a throttling (R386) -/
  throttleTold : Option DWord
  deriving DecidableEq, Repr

-- ------------------------------------------------------------------ debug (19)

/-- A request to CSR space that is being run dword by dword (R449): its packet, and the bytes of the dwords done. -/
structure CsrRun where
  packet : Packet
  got : List Byte
  deriving DecidableEq, Repr

/-- Who waits for an access through the memory port: nobody, a CSR request, or DBG_ACCESS (R418, R433). -/
inductive MemBack where
  | none
  | run (r : CsrRun)
  | jtag
  deriving DecidableEq, Repr

/-- An access to DBG.MEM_DATA, or to CORE_MEM_DATA through a core's NI (R425, R433): the port (4 the memory port, n core
n), a write's data, who asked, whether a read carries the debug attribute, and who waits. -/
structure MemAccess where
  port : Nat
  data : Option Word
  who : Who
  quiet : Bool
  back : MemBack
  deriving DecidableEq, Repr

/-- A stalled stimulus write (R436): its port and data, since when it waits, and the request whose answer waits. -/
structure StimWait where
  port : Nat
  data : Word
  since : DWord
  run : Option CsrRun
  deriving DecidableEq, Repr

/-- The debug domain outside its registers. -/
structure DebugState where
  /-- authorization, in slot 7: LOCKED, and an unlock erase unfinished (R420, R423) -/
  locked : Bool
  erasing : Bool
  /-- configuration is held after self-test: CFG.STATUS.STATE reads WAITING (R422, R424) -/
  waiting : Bool
  /-- the TAP's instruction, and whether the last one was refused (R416) -/
  ir : BitVec 8
  irRefused : Bool
  /-- what the boundary register drives during EXTEST and CLAMP: a bit for each pin's enable, then each pin's level -/
  boundary : List Word
  /-- the last DBG_ACCESS: its data, DONE, ERROR and ERR code; whether it still runs (R418) -/
  accessData : Word
  accessDone : Bool
  accessError : Bool
  accessErr : Nat
  accessRunning : Bool
  /-- memory-port accesses, the first one of each port under way (R425, R433) -/
  memPort : List MemAccess
  /-- CSR requests that waited and go on -/
  resume : List CsrRun
  /-- halts requested of cores that have not reached an instruction boundary: the cause by core (R425, R427) -/
  haltDue : Cells Nat
  /-- trace bytes in the FIFO, since when the first of them is being sent, bytes since the last SYNC, the TIME of the
  last packet that carried time, packets lost and not yet told (R434, R435) -/
  trace : List Byte
  traceAt : DWord
  traceSync : Nat
  traceTime : DWord
  traceLost : Nat
  stimWaits : List StimWait
  deriving DecidableEq, Repr

-- ------------------------------------------------------------------ pins and peripherals (18)

/-- A function switch of a pin (R394): when it began, the level the keeper holds, writes that wait for its end. -/
structure PinSwitch where
  since : DWord
  level : Bool
  waiting : List (Who × Word)
  deriving DecidableEq, Repr

/-- What a pad shows (R395): driven low or high, released with the pull of its pad record, high impedance with pulls and
keeper off, high impedance with the weak pull-up, held by its keeper, or high impedance with CFG_PULL. -/
inductive PadState where
  | low | high | released | off | weakUp
  | keeper (level : Bool)
  | cfgPull
  deriving DecidableEq, Repr

/-- An EXTL line's filter (R397): the level of its pin, since when, and the level the filter has passed. -/
structure ExtlLine where
  raw : Bool
  since : DWord
  level : Bool
  deriving DecidableEq, Repr

/-- The pins outside their registers and stations. -/
structure PinsState where
  switching : Cells PinSwitch
  /-- pads held in their last state (R160) -/
  held : Cells PadState
  /-- the filters of the EXTL lines (R397) -/
  extl : Cells ExtlLine
  deriving DecidableEq, Repr

/-- An I2C unit (R398): its FIFOs, the bytes its transfer still moves, when the bus has moved what was begun, and whether the
last transfer left the bus without a STOP. -/
structure I2cUnit where
  tx : List Byte
  rx : List Byte
  left : Nat
  busy : DWord
  kept : Bool
  deriving DecidableEq, Repr

/-- An SPI unit: its FIFOs, and the frame being sent with the tick it began. -/
structure SpiUnit where
  tx : List Word
  rx : List Word
  sending : Option (Word × DWord)
  deriving DecidableEq, Repr

/-- A UART: its FIFOs (received entries as RXDATA [10:0] shows them), and the byte being sent with the tick it began. -/
structure UartUnit where
  tx : List Byte
  rx : List (BitVec 11)
  sending : Option (Byte × DWord)
  deriving DecidableEq, Repr

/-- The PMBus master: its FIFOs, and when its last transaction was asked for. -/
structure PmbUnit where
  tx : List Byte
  rx : List Byte
  since : DWord
  deriving DecidableEq, Repr

/-- A pin timer: its output level, the compare value in effect, whether it still has to act, the end of its pulse, and the
level last registered at its capture input. -/
structure PtUnit where
  out : Bool
  cmp : DWord
  armed : Bool
  pulseEnd : Option DWord
  seen : Bool
  deriving DecidableEq, Repr

/-- The hard peripherals outside their registers. -/
structure PeriphState where
  i2c : Cells I2cUnit
  spi : Cells SpiUnit
  uart : Cells UartUnit
  pmb : PmbUnit
  pt : Cells PtUnit
  deriving DecidableEq, Repr

/-- A change of power that is running (R401, R403): the device state it goes to, none for a change of regions or quads;
the regions and quads still to be switched off, and the FPD regions whose restore has not completed, laid out as
REGION_CTRL and QUAD_CTRL; whether the drain has begun (a roving step delays it); who asked. -/
structure PowerChange where
  target : Option Nat
  off : BitVec 11
  quadsOff : BitVec 32
  on : BitVec 11
  draining : Bool
  who : Who
  deriving DecidableEq, Repr

/-- Power outside its registers. -/
structure PowerState where
  change : Option PowerChange
  /-- supplies out of range, in the row order of R406, from 1 -/
  outOfRange : List Nat
  /-- SYS_RESET is held until VCC_SYS has been in range for 1 ms (R406) -/
  held : Bool
  /-- the device drives WAKE# low (R404) -/
  wakeDriven : Bool
  /-- THERM_N is asserted: wake causes are ignored until the junction falls below 100 °C (R409) -/
  hot : Bool
  /-- a wake cause that came while DORMANT was being entered, by its bit in WAKE_CAUSE (R405) -/
  wakePending : Option Nat
  deriving DecidableEq, Repr

/-- What the part sends outward. -/
inductive Out where
  /-- an MSI-X message: its vector, and the address and data of the vector's table entry (R35, R363) -/
  | message (vector : Nat) (addr : DWord) (data : Word)
  /-- a PMBus write or read by the voltage loop: command code and value in mV (R67) -/
  | pmbus (addr code value : Nat) (pec : Bool)
  /-- Unsupported Request to drive d's memory request at an address (R345) -/
  | driveUnsupported (d : Nat) (addr : Nat)
  /-- the completion of drive d's memory read: its bytes, none where the read failed (R345) -/
  | driveData (d : Nat) (data : Option (List Byte))
  /-- a block that the store writes to drive d at a byte of its namespace: a volume header or a catalogue entry (R347, R352) -/
  | driveBlock (d at' : Nat) (data : List Byte)
  /-- a completion to the host: tag, status (0 successful, 1 Unsupported Request, 4 Completer Abort), data (R361, R362) -/
  | completion (tag status : Nat) (data : List Byte)
  /-- a Memory Write and a Memory Read to the host, with the relaxed-ordering bit (R367, R370) -/
  | hostWrite (addr : Nat) (data : List Byte) (relaxed : Bool)
  | hostRead (tag addr len : Nat) (relaxed : Bool)
  /-- bytes on the trace port (R434) -/
  | trace (data : List Byte)
  /-- what a peripheral sends (R398): bytes of I2C and PMBus; SPI frames, the bit sent first above the others; UART
  characters with start, parity and stop bits, the bit sent first lowest -/
  | serial (unit : Periph) (data : List Word)
  /-- a START of an I2C unit, repeated or not, with the address byte, and its STOP (I2C.CMD) -/
  | i2cStart (u : Nat) (repeated : Bool) (addr : Byte)
  | i2cStop (u : Nat)
  /-- what a lane sends of its transmit stream, from byte k (R313, R314) -/
  | lane (l k : Nat) (words : List LineWord)
  deriving DecidableEq, Repr

/-- The machine. -/
structure State where
  part : Part
  /-- ticks since PORST_N release; every timer and the crossbar count these, and no sync load changes them -/
  time : DWord
  /-- what TIME reads above the ticks counted: 0 until a sync load (R270, R272) -/
  timeOffset : DWord
  /-- the origin of the ARM that waits for its sync edge, and the value the loading edge set (R272) -/
  syncArmer : BitVec 8
  syncRef : Option DWord
  /-- the number of free values taken: the model's own counter (assumption 20) -/
  fresh : Nat
  /-- registers that differ from their Reset values, by register key -/
  regs : Cells Word
  /-- high halves that a read of the low half latched (R270, R294), by register key of the high half; and the low half of
  a compare value still in effect while a new one waits for its high half, and of a route entry written and not yet
  committed, by register key of the low half -/
  latches : Cells Word
  dev : DevState
  ledger : LedgerState
  fabric : FabricState
  mem : MemState
  cfg : CfgState
  repair : RepairState
  net : NetState
  beam : BeamState
  record : RecordState
  tally : TallyState
  tbus : TbusState
  lanes : LanesState
  hbm : HbmState
  store : StoreState
  msix : MsixState
  host : HostState
  seq : SeqState
  dbg : DebugState
  pins : PinsState
  periph : PeriphState
  power : PowerState
  out : List Out
  pending : List Instr
  deriving DecidableEq, Repr

-- ------------------------------------------------------------------ one update per field

/-- The state with time replaced. -/
def State.putTime (s : State) (v : DWord) : State := { s with time := v }
/-- The state with timeOffset replaced. -/
def State.putTimeOffset (s : State) (v : DWord) : State := { s with timeOffset := v }
/-- The state with syncArmer replaced. -/
def State.putSyncArmer (s : State) (v : BitVec 8) : State := { s with syncArmer := v }
/-- The state with syncRef replaced. -/
def State.putSyncRef (s : State) (v : Option DWord) : State := { s with syncRef := v }
/-- The state with fresh replaced. -/
def State.putFresh (s : State) (v : Nat) : State := { s with fresh := v }
/-- The state with regs replaced. -/
def State.putRegs (s : State) (v : Cells Word) : State := { s with regs := v }
/-- The state with latches replaced. -/
def State.putLatches (s : State) (v : Cells Word) : State := { s with latches := v }
/-- The state with dev replaced. -/
def State.putDev (s : State) (v : DevState) : State := { s with dev := v }
/-- The state with ledger replaced. -/
def State.putLedger (s : State) (v : LedgerState) : State := { s with ledger := v }
/-- The state with fabric replaced. -/
def State.putFabric (s : State) (v : FabricState) : State := { s with fabric := v }
/-- The state with mem replaced. -/
def State.putMem (s : State) (v : MemState) : State := { s with mem := v }
/-- The state with cfg replaced. -/
def State.putCfg (s : State) (v : CfgState) : State := { s with cfg := v }
/-- The state with repair replaced. -/
def State.putRepair (s : State) (v : RepairState) : State := { s with repair := v }
/-- The state with net replaced. -/
def State.putNet (s : State) (v : NetState) : State := { s with net := v }
/-- The state with beam replaced. -/
def State.putBeam (s : State) (v : BeamState) : State := { s with beam := v }
/-- The state with record replaced. -/
def State.putRecord (s : State) (v : RecordState) : State := { s with record := v }
/-- The state with tally replaced. -/
def State.putTally (s : State) (v : TallyState) : State := { s with tally := v }
/-- The state with tbus replaced. -/
def State.putTbus (s : State) (v : TbusState) : State := { s with tbus := v }
/-- The state with lanes replaced. -/
def State.putLanes (s : State) (v : LanesState) : State := { s with lanes := v }
/-- The state with hbm replaced. -/
def State.putHbm (s : State) (v : HbmState) : State := { s with hbm := v }
/-- The state with store replaced. -/
def State.putStore (s : State) (v : StoreState) : State := { s with store := v }
/-- The state with msix replaced. -/
def State.putMsix (s : State) (v : MsixState) : State := { s with msix := v }
/-- The state with host replaced. -/
def State.putHost (s : State) (v : HostState) : State := { s with host := v }
/-- The state with seq replaced. -/
def State.putSeq (s : State) (v : SeqState) : State := { s with seq := v }
/-- The state with dbg replaced. -/
def State.putDbg (s : State) (v : DebugState) : State := { s with dbg := v }
/-- The state with pins replaced. -/
def State.putPins (s : State) (v : PinsState) : State := { s with pins := v }
/-- The state with periph replaced. -/
def State.putPeriph (s : State) (v : PeriphState) : State := { s with periph := v }
/-- The state with power replaced. -/
def State.putPower (s : State) (v : PowerState) : State := { s with power := v }
/-- The state with out replaced. -/
def State.putOut (s : State) (v : List Out) : State := { s with out := v }

-- ------------------------------------------------------------------ the machine after reset

/-- The ledger and its ring in a part that has never run (R445). -/
def LedgerState.reset : LedgerState :=
  { ready := false, commitFault := false, gap := false, torn := false, buffer := [], ring := [], ringPos := 0
    headSeq := 0, commitSeq := 0, oldestSeq := 0, rdSeq := 0, lost := 0, lostUntold := 0, badPages := []
    heldTold := false }

/-- Device control while PORST_N is low. -/
def DevState.reset : DevState :=
  { porst := true, bootSrc := 0, cfgPull := false, evtPend := 0, evtSent := 0, evtBeads := [], sysWarning := false
    due := [], stopping := [], acting := [], controls := [] }

/-- The fabric with every stage in its initial state. -/
def FabricState.reset : FabricState :=
  { takings := [], latches := [], offered := [], standing := [], spent := [], rateHeld := none, stages := [], arbiters := [], reckoners := [], monitors := [], contentions := [], stations := [], padIn := []
    taps := [], brownout := false, vloopDue := [], vloopHeard := [], vloopTries := 0, vloopAt := 0, vloopOff := 0 }

/-- Memories and queues that hold nothing. -/
def MemState.reset : MemState :=
  { poisoned := [], onceCorrected := [], sparesUsed := [], reads := [], statuses := []
    scrubRow := [], scrubbedAt := [], queues := [] }

/-- A boot header before any was read. -/
def BootHeader.reset : BootHeader :=
  { vendor := 0, device := 0, subsysVendor := 0, subsys := 0, cls := 0, revision := 0, maxSpeed := 0, maxWidth := 0
    fabBar := 0, bootSlot := 0, hostDeadline := 0, srcTimeout := 0, flashBase := 0, flashOctal := false
    flashDummy := 0, seqBoot := [] }

/-- The configuration engine with an empty store and empty configuration memory. -/
def CfgState.reset : CfgState :=
  { store := [], frames := [], fullSource := none, frameSource := [], load := none, starting := none, spans := []
    spanDigest := [], spanBefore := [], pinIso := 0, beamMap := [], releases := [], fabricResetWaiting := false
    spanOp := none, spanWaiting := none, spanSettling := [], spanReleased := [], icpResults := [], transfer := none
    queued := none, opaqueSeen := [], freezeArmed := false, captureFrom := 0, stateRaw := [], loaded := []
    fullFrames := [], checks := [], drivers := [], streamGuards := false, badFrames := [], scrubRod := 0, scrubFrame := 0, scrubFirst := [], header := BootHeader.reset
    bootWaiting := false, deadlineFrom := 0 }

/-- Repair before any self-test. -/
def RepairState.reset : RepairState :=
  { place := [], retired := [], counted := [], badRows := [], codeFaults := [], doubleBit := [], sliced := [], step := none, migrations := []
    attempts := 0, deferred := [], asked := [], linkPreempts := [], hbmPreempts := [], forced := [], begun := [], linkNext := [], hbmNext := [], testFrom := 0
    sliceFrom := [], lowRate := 0, lastStep := [] }

/-- The carry network with nothing in it. -/
def NetState.reset : NetState :=
  { nis := [], routers := [], used := 0, ended := [], debugOrigin := 0x02, stopped := [] }

/-- The record controller, IDLE. -/
def RecordState.reset : RecordState :=
  { latched := false, drainFrom := 0, heldSince := none, moved := false, sunk := [], told := [] }

/-- HBM with nothing written. -/
def HbmState.reset : HbmState :=
  { bytes := [], poisoned := [], onceCorrected := [], repaired := [], rings := [], scrubAt := [], scrubbedAt := [], level := 0
    testAt := [] }

/-- PF0's MSI-X capability after a reset of the function. -/
def MsixState.reset : MsixState := { enable := false, functionMask := false, table := [], pba := 0 }

/-- The host interface with no link. -/
def HostState.reset : HostState :=
  { identity := none, maxPayload := 128, maxRead := 512, xlat := [], dma := [], reads := [], readsWaiting := []
    windowReads := [], pieces := [], writes := 0, lastWrite := none, barReads := [] }

/-- The debug domain after a DBG reset, in a part that is not LOCKED. -/
def DebugState.reset : DebugState :=
  { locked := false, erasing := false, waiting := false, ir := 0x02, irRefused := false, boundary := []
    accessData := 0, accessDone := false, accessError := false, accessErr := 0, accessRunning := false, memPort := []
    resume := [], haltDue := [], trace := [], traceAt := 0, traceSync := 0, traceTime := 0, traceLost := 0
    stimWaits := [] }

/-- Power before any region is on. -/
def PowerState.reset : PowerState :=
  { change := none, outOfRange := [], held := false, wakeDriven := false, hot := false, wakePending := none }

/-- The machine at reset (R30): PORST_N is low, every register is at its Reset value, and nothing waits. The part is an
HZT-3128-F of stepping 0 that has never run (assumption 1). -/
def State.reset : State :=
  { part := ⟨.F, 0⟩
    time := 0
    timeOffset := 0
    syncArmer := 0
    syncRef := none
    fresh := 0
    regs := []
    latches := []
    dev := DevState.reset
    ledger := LedgerState.reset
    fabric := FabricState.reset
    mem := MemState.reset
    cfg := CfgState.reset
    repair := RepairState.reset
    net := NetState.reset
    beam := ⟨[]⟩
    record := RecordState.reset
    tally := ⟨[], [], none⟩
    tbus := ⟨[], [], false⟩
    lanes := ⟨[], [], []⟩
    hbm := HbmState.reset
    store := ⟨[], [], 0, 0⟩
    msix := MsixState.reset
    host := HostState.reset
    seq := ⟨[], [], [], [], none⟩
    dbg := DebugState.reset
    pins := ⟨[], [], []⟩
    periph := ⟨[], [], [], ⟨[], [], 0⟩, []⟩
    power := PowerState.reset
    out := []
    pending := [] }

end Sys2Proof.Machine
end

