-- ==== Sys2Proof/Config.lean ====
section
/-! DEFINITION. What the spec leaves open: free values. None has a body, so no proof can see what it is and a claim is
true whatever it is. Each is applied to the operands it depends on or to State.fresh, a counter the model advances. -/

namespace Sys2Proof.Config

/-- A fresh 32-bit value the spec does not state (assumption 20). -/
opaque freeWord : Nat → Word

/-- A fresh 64-bit value the spec does not state (assumption 20). -/
opaque freeDWord : Nat → DWord

/-- The words of the boot ROM (R373), whose content the spec does not give. -/
opaque bootRom : Nat → Word

/-- The fused PCI Express identity of the default boot header (R128), whose values the spec does not give: words 0x008,
0x00C and 0x010 of R129. -/
opaque fusedIdentity : Nat → Word

/-- The 16 check bits of a quarter of a frame (R137), whose code the spec does not give (assumption 165). -/
opaque quarterCheck : BitVec 1024 → BitVec 16

/-- The bits an opaque state frame reads as for what it holds (R175, assumption 97). -/
opaque stateImage : (frame : Nat) → Machine.FrameContent → BitVec 4096

/-- What the bits of an opaque state frame stand for where no readback gave them (R176, assumption 97). -/
opaque stateContent : (frame : Nat) → BitVec 4096 → Machine.FrameContent

/-- The SECDED(72,64) check of a payload word (R204), whose code the spec does not give (assumption 181). -/
opaque eccByte : BitVec 64 → BitVec 8

/-- The SECDED check of the control bits [6:0] of a unit (R203), whose code the spec does not give (assumption 181). -/
opaque controlCheck : BitVec 7 → BitVec 5

/-- What a check makes of more than two wrong bits among a word's 72 (R204): in bit 64 whether it calls them uncorrectable,
else the data bits its correction leaves wrong (assumption 182). -/
opaque eccBeyond : BitVec 72 → BitVec 65

/-- Likewise for a unit's 12 control bits (R203): bit 7, and the control bits left wrong (assumption 182). -/
opaque controlBeyond : BitVec 12 → BitVec 8

/-- Units of response space that an NI has beyond what one whole response needs (R212, assumption 39). -/
opaque responseSpace : (ni : Nat) → Nat

/-- The tick, within 1,600, at which a repair group's throttling begins (R386), whose stagger the spec does not give
(assumption 212). -/
opaque throttlePhase : (group : Nat) → Nat

-- The wiring of a tile that its position fixes and no image addresses (R70, R71, R227).

/-- The incoming vertical track of a source code 129 to 168 runs north, from a higher tile row; else it runs south
(assumption 168). -/
opaque northbound : (row code : Nat) → Bool

/-- The incoming lateral track of a source code 169 to 176: 0 to 15 run east, 16 to 31 run west (assumption 168). -/
opaque lateralTap : (row code : Nat) → Fin 32

/-- The spine of a source code 185 to 192 (assumption 168). -/
opaque spineTap : (row code : Nat) → Fin 16

/-- The tile row from whose sources a spine's multiplexer selects (assumption 168). -/
opaque spineRow : (spine : Nat) → Fin 96

/-- The digit of a hard block's output that a source code above 128 selects in place of a track, where it does
(assumption 169). -/
opaque hardTap : (row code : Nat) → Option (RodOutput × Nat)

/-- Tile row within its eight, and slot, of a digit of channel IQ (0) or TR (1) of a fabric NI (assumption 170). -/
opaque niSlot : (ni chan digit : Nat) → Fin 8 × Fin 80

/-- Tile row within its belt, and slot, of the digit of a fabric trigger output (assumption 170). -/
opaque ftoSlot : (n : Nat) → Fin 32 × Fin 80

/-- Tile row and slot of a digit of ICP_CMD (0) or ICP_D (1) in logical rod 0 (assumption 170). -/
opaque icpSlot : (chan digit : Nat) → Fin 96 × Fin 80

/-- The digit an arbitration cell drives on its grant channel for a granted request (assumption 171). -/
opaque grantDigit : (request : Bool) → Digit

end Sys2Proof.Config
end

