-- ==== Sys2Proof/Machine/Fields.lean ====
section
/-! DEFINITION. A name for every field of every register (F.BLOCK_REGISTER_FIELD): the register, the lowest bit and the
width, from the register tables of spec/02 to spec/19. -/

namespace Sys2Proof.Machine

/-- A field of a register: BLOCK.REGISTER.FIELD of R3. -/
structure Fld where
  reg : Reg
  lo : Nat
  width : Nat
  deriving DecidableEq, Repr

namespace F

abbrev DEV_ID_DIE_ID : Fld := ⟨.DEV_ID, 16, 16⟩
abbrev DEV_ID_VARIANT : Fld := ⟨.DEV_ID, 12, 4⟩
abbrev DEV_ID_STEP : Fld := ⟨.DEV_ID, 8, 4⟩
abbrev DEV_CAPS_HBM : Fld := ⟨.DEV_CAPS, 0, 1⟩
abbrev DEV_CAPS_STORE : Fld := ⟨.DEV_CAPS, 1, 1⟩
abbrev DEV_CAPS_QUADS_HI : Fld := ⟨.DEV_CAPS, 2, 1⟩
abbrev DEV_CAPS_CORES_HI : Fld := ⟨.DEV_CAPS, 3, 1⟩
abbrev DEV_CAPS_REPAIR_GROUPS : Fld := ⟨.DEV_CAPS, 8, 5⟩
abbrev DEV_CAPS_QUADS : Fld := ⟨.DEV_CAPS, 16, 6⟩
abbrev DEV_CAPS_SEQ_CORES : Fld := ⟨.DEV_CAPS, 24, 3⟩
abbrev DEV_CAPS_HOST_WIDTH : Fld := ⟨.DEV_CAPS, 27, 5⟩
abbrev DEV_ABSENT_LOG_OFFSET : Fld := ⟨.DEV_ABSENT_LOG, 0, 28⟩
abbrev DEV_ABSENT_ORIGIN_ORIGIN : Fld := ⟨.DEV_ABSENT_ORIGIN, 0, 8⟩
abbrev DEV_ABSENT_ORIGIN_ABSENT_COUNT : Fld := ⟨.DEV_ABSENT_ORIGIN, 16, 16⟩
abbrev DEV_STATUS_USER_MODE : Fld := ⟨.DEV_STATUS, 0, 1⟩
abbrev DEV_STATUS_CONFIG_FAILED : Fld := ⟨.DEV_STATUS, 1, 1⟩
abbrev DEV_STATUS_DEGRADED : Fld := ⟨.DEV_STATUS, 2, 1⟩
abbrev DEV_STATUS_BOOT_HDR_FAULT : Fld := ⟨.DEV_STATUS, 3, 1⟩
abbrev DEV_STATUS_ABSENT_WRITE : Fld := ⟨.DEV_STATUS, 4, 1⟩
abbrev DEV_STATUS_RESET_REFUSED : Fld := ⟨.DEV_STATUS, 5, 1⟩
abbrev DEV_CTRL_PERST_SYS : Fld := ⟨.DEV_CTRL, 0, 1⟩
abbrev DEV_CTRL_SYS_RESET : Fld := ⟨.DEV_CTRL, 16, 16⟩
abbrev DEV_RESET_CAUSE_POR : Fld := ⟨.DEV_RESET_CAUSE, 0, 1⟩
abbrev DEV_RESET_CAUSE_SOFT : Fld := ⟨.DEV_RESET_CAUSE, 1, 1⟩
abbrev DEV_RESET_CAUSE_SYS_WDOG : Fld := ⟨.DEV_RESET_CAUSE, 2, 1⟩
abbrev DEV_RESET_CAUSE_GUARD : Fld := ⟨.DEV_RESET_CAUSE, 3, 1⟩
abbrev DEV_RESET_CAUSE_PERST_SYS : Fld := ⟨.DEV_RESET_CAUSE, 4, 1⟩
abbrev DEV_RESET_CAUSE_DEBUG : Fld := ⟨.DEV_RESET_CAUSE, 5, 1⟩
abbrev DEV_RESET_CAUSE_SYS_COUNT : Fld := ⟨.DEV_RESET_CAUSE, 16, 16⟩
abbrev DEV_FRESET_BLOCK : Fld := ⟨.DEV_FRESET, 0, 5⟩
abbrev DEV_FRESET_INSTANCE : Fld := ⟨.DEV_FRESET, 16, 11⟩
abbrev DEV_FRESET_REFUSED : Fld := ⟨.DEV_FRESET, 29, 1⟩
abbrev DEV_FRESET_BUSY : Fld := ⟨.DEV_FRESET, 30, 1⟩
abbrev DEV_FRESET_GO : Fld := ⟨.DEV_FRESET, 31, 1⟩
abbrev DEV_EVT_PEND_PEND : Fld := ⟨.DEV_EVT_PEND, 0, 32⟩
abbrev DEV_EVT_HOST_MASK_EN : Fld := ⟨.DEV_EVT_HOST_MASK, 0, 32⟩
abbrev DEV_EVT_FAB_MASK_EN : Fld := ⟨.DEV_EVT_FAB_MASK, 0, 32⟩
abbrev DEV_EVT_ACK_ACK : Fld := ⟨.DEV_EVT_ACK, 0, 32⟩
abbrev DEV_EVT_CORE_MASK_EN : Fld := ⟨.DEV_EVT_CORE_MASK, 0, 32⟩
abbrev DEV_EVT_VECMAP_VEC0 : Fld := ⟨.DEV_EVT_VECMAP, 0, 6⟩
abbrev DEV_EVT_VECMAP_VEC1 : Fld := ⟨.DEV_EVT_VECMAP, 8, 6⟩
abbrev DEV_EVT_VECMAP_VEC2 : Fld := ⟨.DEV_EVT_VECMAP, 16, 6⟩
abbrev DEV_EVT_VECMAP_VEC3 : Fld := ⟨.DEV_EVT_VECMAP, 24, 6⟩
abbrev PWR_RATE_CTRL_EN : Fld := ⟨.PWR_RATE_CTRL, 0, 1⟩
abbrev PWR_RATE_CTRL_WINDOW : Fld := ⟨.PWR_RATE_CTRL, 16, 16⟩
abbrev PWR_RATE_SEL_INDEX : Fld := ⟨.PWR_RATE_SEL, 0, 10⟩
abbrev PWR_RATE_VALUE_RATE : Fld := ⟨.PWR_RATE_VALUE, 0, 16⟩
abbrev PWR_RATE_VALUE_AGE : Fld := ⟨.PWR_RATE_VALUE, 16, 16⟩
abbrev PWR_RATE_MIN_RATE : Fld := ⟨.PWR_RATE_MIN, 0, 16⟩
abbrev PWR_RATE_MIN_INDEX : Fld := ⟨.PWR_RATE_MIN, 16, 10⟩
abbrev PWR_RATE_MAX_RATE : Fld := ⟨.PWR_RATE_MAX, 0, 16⟩
abbrev PWR_RATE_MAX_INDEX : Fld := ⟨.PWR_RATE_MAX, 16, 10⟩
abbrev PWR_VLOOP_CTRL_EN : Fld := ⟨.PWR_VLOOP_CTRL, 0, 1⟩
abbrev PWR_VLOOP_CTRL_PEC : Fld := ⟨.PWR_VLOOP_CTRL, 1, 1⟩
abbrev PWR_VLOOP_CTRL_SRC : Fld := ⟨.PWR_VLOOP_CTRL, 2, 1⟩
abbrev PWR_VLOOP_CTRL_ADDR : Fld := ⟨.PWR_VLOOP_CTRL, 4, 7⟩
abbrev PWR_VLOOP_CTRL_SRC_INDEX : Fld := ⟨.PWR_VLOOP_CTRL, 12, 10⟩
abbrev PWR_VLOOP_CTRL_INTERVAL : Fld := ⟨.PWR_VLOOP_CTRL, 22, 10⟩
abbrev PWR_VLOOP_TARGET_TARGET : Fld := ⟨.PWR_VLOOP_TARGET, 0, 16⟩
abbrev PWR_VLOOP_TARGET_HYST : Fld := ⟨.PWR_VLOOP_TARGET, 16, 8⟩
abbrev PWR_VLOOP_LIMITS_VMIN : Fld := ⟨.PWR_VLOOP_LIMITS, 0, 12⟩
abbrev PWR_VLOOP_LIMITS_VMAX : Fld := ⟨.PWR_VLOOP_LIMITS, 16, 12⟩
abbrev PWR_VLOOP_STEP_STEP : Fld := ⟨.PWR_VLOOP_STEP, 0, 6⟩
abbrev PWR_VLOOP_STATUS_STATE : Fld := ⟨.PWR_VLOOP_STATUS, 0, 3⟩
abbrev PWR_VLOOP_STATUS_RATE_SHORT : Fld := ⟨.PWR_VLOOP_STATUS, 3, 1⟩
abbrev PWR_VLOOP_STATUS_CFG_REFUSED : Fld := ⟨.PWR_VLOOP_STATUS, 4, 1⟩
abbrev PWR_VLOOP_STATUS_FAULT_CAUSE : Fld := ⟨.PWR_VLOOP_STATUS, 8, 3⟩
abbrev PWR_VLOOP_VOUT_CMD : Fld := ⟨.PWR_VLOOP_VOUT, 0, 12⟩
abbrev PWR_VLOOP_VOUT_READ : Fld := ⟨.PWR_VLOOP_VOUT, 16, 12⟩
abbrev CFG_CONT_STATUS_CONTENTION : Fld := ⟨.CFG_CONT_STATUS, 0, 1⟩
abbrev CFG_CONT_STATUS_ACTIVE : Fld := ⟨.CFG_CONT_STATUS, 1, 1⟩
abbrev CFG_CONT_STATUS_DRV_REFUSED : Fld := ⟨.CFG_CONT_STATUS, 2, 1⟩
abbrev CFG_CONT_STATUS_LOST : Fld := ⟨.CFG_CONT_STATUS, 3, 1⟩
abbrev CFG_CONT_STATUS_COUNT : Fld := ⟨.CFG_CONT_STATUS, 16, 16⟩
abbrev CFG_CONT_SEG_SEG_ID : Fld := ⟨.CFG_CONT_SEG, 0, 16⟩
abbrev CFG_CONT_SEG_VALID : Fld := ⟨.CFG_CONT_SEG, 31, 1⟩
abbrev CFG_CONT_DRIVERS_GRANTED : Fld := ⟨.CFG_CONT_DRIVERS, 0, 8⟩
abbrev CFG_CONT_DRIVERS_MASKED : Fld := ⟨.CFG_CONT_DRIVERS, 8, 8⟩
abbrev CFG_CONT_DRIVERS_TABLE : Fld := ⟨.CFG_CONT_DRIVERS, 16, 8⟩
abbrev CFG_CONT_DRIVERS_TABLE_NONE : Fld := ⟨.CFG_CONT_DRIVERS, 24, 1⟩
abbrev CFG_DRV_REFUSE_SEG_ID : Fld := ⟨.CFG_DRV_REFUSE, 0, 16⟩
abbrev CFG_DRV_REFUSE_ROD_NEW : Fld := ⟨.CFG_DRV_REFUSE, 16, 8⟩
abbrev CFG_DRV_REFUSE_ROD_OLD : Fld := ⟨.CFG_DRV_REFUSE, 24, 8⟩
abbrev QUEUE_CTRL_RUN : Fld := ⟨.QUEUE_CTRL, 0, 1⟩
abbrev QUEUE_CTRL_FLUSH : Fld := ⟨.QUEUE_CTRL, 1, 1⟩
abbrev QUEUE_CTRL_STOP_TIMEOUT : Fld := ⟨.QUEUE_CTRL, 16, 16⟩
abbrev QUEUE_STATUS_STATE : Fld := ⟨.QUEUE_STATUS, 0, 2⟩
abbrev QUEUE_STATUS_FLUSH_PENDING : Fld := ⟨.QUEUE_STATUS, 2, 1⟩
abbrev QUEUE_STATUS_STALE : Fld := ⟨.QUEUE_STATUS, 3, 1⟩
abbrev QUEUE_STATUS_OVERSIZE : Fld := ⟨.QUEUE_STATUS, 4, 1⟩
abbrev QUEUE_STATUS_POISON : Fld := ⟨.QUEUE_STATUS, 5, 1⟩
abbrev QUEUE_STATUS_HOLD_RECORD : Fld := ⟨.QUEUE_STATUS, 6, 1⟩
abbrev QUEUE_STATUS_DRAIN_TIMEOUT : Fld := ⟨.QUEUE_STATUS, 7, 1⟩
abbrev QUEUE_STATUS_RWQ_REFUSED : Fld := ⟨.QUEUE_STATUS, 8, 1⟩
abbrev QUEUE_STATUS_DEP_REFUSED : Fld := ⟨.QUEUE_STATUS, 9, 1⟩
abbrev QUEUE_STATUS_DISCARDING : Fld := ⟨.QUEUE_STATUS, 10, 1⟩
abbrev QUEUE_STATUS_CTL_FAULT : Fld := ⟨.QUEUE_STATUS, 11, 1⟩
abbrev QUEUE_STATUS_ABORT_COUNT : Fld := ⟨.QUEUE_STATUS, 16, 16⟩
abbrev QUEUE_CONFIG_MODE : Fld := ⟨.QUEUE_CONFIG, 0, 1⟩
abbrev QUEUE_CONFIG_CTL_EN : Fld := ⟨.QUEUE_CONFIG, 1, 1⟩
abbrev QUEUE_CONFIG_WIDTH : Fld := ⟨.QUEUE_CONFIG, 2, 3⟩
abbrev QUEUE_CONFIG_MEMS : Fld := ⟨.QUEUE_CONFIG, 5, 4⟩
abbrev QUEUE_CONFIG_REC_DOMAIN : Fld := ⟨.QUEUE_CONFIG, 9, 1⟩
abbrev QUEUE_CONFIG_RUN_AT_START : Fld := ⟨.QUEUE_CONFIG, 10, 1⟩
abbrev QUEUE_STALE_CFG_STALE_UNITS : Fld := ⟨.QUEUE_STALE_CFG, 0, 20⟩
abbrev QUEUE_MAX_PKT_WORDS : Fld := ⟨.QUEUE_MAX_PKT, 0, 19⟩
abbrev QUEUE_LEVEL_WORDS : Fld := ⟨.QUEUE_LEVEL, 0, 19⟩
abbrev QUEUE_PKTS_COUNT : Fld := ⟨.QUEUE_PKTS, 0, 19⟩
abbrev QUEUE_OPEN_WORDS : Fld := ⟨.QUEUE_OPEN, 0, 19⟩
abbrev QUEUE_RD_PTR_PTR : Fld := ⟨.QUEUE_RD_PTR, 0, 18⟩
abbrev QUEUE_CM_PTR_PTR : Fld := ⟨.QUEUE_CM_PTR, 0, 18⟩
abbrev QUEUE_WR_PTR_PTR : Fld := ⟨.QUEUE_WR_PTR, 0, 18⟩
abbrev QUEUE_WORDS_IN_LO_COUNT : Fld := ⟨.QUEUE_WORDS_IN_LO, 0, 32⟩
abbrev QUEUE_WORDS_IN_HI_COUNT : Fld := ⟨.QUEUE_WORDS_IN_HI, 0, 32⟩
abbrev QUEUE_WORDS_OUT_LO_COUNT : Fld := ⟨.QUEUE_WORDS_OUT_LO, 0, 32⟩
abbrev QUEUE_WORDS_OUT_HI_COUNT : Fld := ⟨.QUEUE_WORDS_OUT_HI, 0, 32⟩
abbrev QUEUE_PKT_ERR_ABORTS : Fld := ⟨.QUEUE_PKT_ERR, 0, 16⟩
abbrev QUEUE_PKT_ERR_OVERSIZE : Fld := ⟨.QUEUE_PKT_ERR, 16, 16⟩
abbrev QUEUE_FLUSH_CNT_FLUSHES : Fld := ⟨.QUEUE_FLUSH_CNT, 0, 16⟩
abbrev QUEUE_FLUSH_CNT_PACKETS : Fld := ⟨.QUEUE_FLUSH_CNT, 16, 16⟩
abbrev QUEUE_REC_PKTS_COUNT : Fld := ⟨.QUEUE_REC_PKTS, 0, 32⟩
abbrev QUEUE_REC_DISCARD_WORDS : Fld := ⟨.QUEUE_REC_DISCARD, 0, 32⟩
abbrev QUEUE_ECC_CORRECTED : Fld := ⟨.QUEUE_ECC, 0, 16⟩
abbrev QUEUE_ECC_UNCORRECTABLE : Fld := ⟨.QUEUE_ECC, 16, 16⟩
abbrev QUEUE_LATE_WORDS : Fld := ⟨.QUEUE_LATE, 0, 32⟩
abbrev CFG_STATUS_STATE : Fld := ⟨.CFG_STATUS, 0, 3⟩
abbrev CFG_STATUS_GOLDEN_ACTIVE : Fld := ⟨.CFG_STATUS, 3, 1⟩
abbrev CFG_STATUS_LOAD_FAILED : Fld := ⟨.CFG_STATUS, 4, 1⟩
abbrev CFG_STATUS_SCRUB_ON : Fld := ⟨.CFG_STATUS, 5, 1⟩
abbrev CFG_STATUS_FRAME_ERR : Fld := ⟨.CFG_STATUS, 6, 1⟩
abbrev CFG_STATUS_FRAME_LOST : Fld := ⟨.CFG_STATUS, 7, 1⟩
abbrev CFG_STATUS_WINDOW_DROP : Fld := ⟨.CFG_STATUS, 8, 1⟩
abbrev CFG_STATUS_CMD_REFUSED : Fld := ⟨.CFG_STATUS, 9, 1⟩
abbrev CFG_STATUS_HOST_DEADLINE : Fld := ⟨.CFG_STATUS, 10, 1⟩
abbrev CFG_STATUS_BUSY : Fld := ⟨.CFG_STATUS, 11, 1⟩
abbrev CFG_CAUSE_FIRST : Fld := ⟨.CFG_CAUSE, 0, 5⟩
abbrev CFG_CAUSE_FIRST_SRC : Fld := ⟨.CFG_CAUSE, 5, 3⟩
abbrev CFG_CAUSE_GOLDEN : Fld := ⟨.CFG_CAUSE, 8, 5⟩
abbrev CFG_FAIL_OFFSET_OFFSET : Fld := ⟨.CFG_FAIL_OFFSET, 0, 32⟩
abbrev CFG_LOADED_SRC : Fld := ⟨.CFG_LOADED, 0, 3⟩
abbrev CFG_LOADED_SLOT : Fld := ⟨.CFG_LOADED, 4, 3⟩
abbrev CFG_LOADED_COUNT : Fld := ⟨.CFG_LOADED, 16, 16⟩
abbrev CFG_CMD_CODE : Fld := ⟨.CFG_CMD, 0, 8⟩
abbrev CFG_LOAD_CTRL_SRC : Fld := ⟨.CFG_LOAD_CTRL, 0, 3⟩
abbrev CFG_LOAD_CTRL_SLOT : Fld := ⟨.CFG_LOAD_CTRL, 4, 3⟩
abbrev CFG_LOAD_CTRL_DEST : Fld := ⟨.CFG_LOAD_CTRL, 8, 4⟩
abbrev CFG_SRC_TIMEOUT_TIMEOUT : Fld := ⟨.CFG_SRC_TIMEOUT, 0, 20⟩
abbrev CFG_FETCH_ADDR_LO_ADDR : Fld := ⟨.CFG_FETCH_ADDR_LO, 0, 32⟩
abbrev CFG_FETCH_ADDR_HI_ADDR : Fld := ⟨.CFG_FETCH_ADDR_HI, 0, 16⟩
abbrev CFG_FETCH_LEN_BYTES : Fld := ⟨.CFG_FETCH_LEN, 0, 32⟩
abbrev CFG_PROG_LEN_BYTES : Fld := ⟨.CFG_PROG_LEN, 0, 23⟩
abbrev CFG_DIGEST_LO_DIGEST : Fld := ⟨.CFG_DIGEST_LO, 0, 32⟩
abbrev CFG_DIGEST_HI_DIGEST : Fld := ⟨.CFG_DIGEST_HI, 0, 32⟩
abbrev CFG_BUILD_LO_TIME : Fld := ⟨.CFG_BUILD_LO, 0, 32⟩
abbrev CFG_BUILD_HI_TIME : Fld := ⟨.CFG_BUILD_HI, 0, 32⟩
abbrev CFG_WINDOW_DROPS_COUNT : Fld := ⟨.CFG_WINDOW_DROPS, 0, 32⟩
abbrev CFG_SCRUB_CTRL_INTERVAL : Fld := ⟨.CFG_SCRUB_CTRL, 0, 16⟩
abbrev CFG_SCRUB_STAT_CORRECTED : Fld := ⟨.CFG_SCRUB_STAT, 0, 16⟩
abbrev CFG_SCRUB_STAT_DOUBLE : Fld := ⟨.CFG_SCRUB_STAT, 16, 16⟩
abbrev CFG_SCRUB_LAST_FAR : Fld := ⟨.CFG_SCRUB_LAST, 0, 26⟩
abbrev CFG_SCRUB_LAST_LOST : Fld := ⟨.CFG_SCRUB_LAST, 31, 1⟩
abbrev CFG_SCRUB_PASSES_COUNT : Fld := ⟨.CFG_SCRUB_PASSES, 0, 32⟩
abbrev CFG_STREAM_DATA : Fld := ⟨.CFG_STREAM, 0, 32⟩
abbrev CFG_SPAN_CMD_OP : Fld := ⟨.CFG_SPAN_CMD, 0, 3⟩
abbrev CFG_SPAN_CMD_SPAN : Fld := ⟨.CFG_SPAN_CMD, 8, 4⟩
abbrev CFG_SPAN_DRAIN_US : Fld := ⟨.CFG_SPAN_DRAIN, 0, 16⟩
abbrev CFG_ICP_STATUS_BUSY : Fld := ⟨.CFG_ICP_STATUS, 0, 1⟩
abbrev CFG_ICP_STATUS_DROP : Fld := ⟨.CFG_ICP_STATUS, 1, 1⟩
abbrev CFG_ICP_STATUS_DROPS : Fld := ⟨.CFG_ICP_STATUS, 16, 16⟩
abbrev CFG_SPAN_STATUS_STATE : Fld := ⟨.CFG_SPAN_STATUS, 0, 3⟩
abbrev CFG_SPAN_STATUS_REFUSED : Fld := ⟨.CFG_SPAN_STATUS, 3, 1⟩
abbrev CFG_SPAN_STATUS_DRAIN_TIMEOUT : Fld := ⟨.CFG_SPAN_STATUS, 4, 1⟩
abbrev CFG_SPAN_STATUS_CAUSE : Fld := ⟨.CFG_SPAN_STATUS, 5, 5⟩
abbrev CFG_SPAN_STATUS_LOADS : Fld := ⟨.CFG_SPAN_STATUS, 16, 16⟩
abbrev CFG_SPAN_SINK_BEADS : Fld := ⟨.CFG_SPAN_SINK, 0, 32⟩
abbrev CFG_RB_CTRL_DIR : Fld := ⟨.CFG_RB_CTRL, 0, 1⟩
abbrev CFG_RB_CTRL_PATH : Fld := ⟨.CFG_RB_CTRL, 1, 1⟩
abbrev CFG_RB_FAR_FRAME : Fld := ⟨.CFG_RB_FAR, 0, 10⟩
abbrev CFG_RB_FAR_ROD : Fld := ⟨.CFG_RB_FAR, 16, 10⟩
abbrev CFG_RB_FAR_STATE : Fld := ⟨.CFG_RB_FAR, 31, 1⟩
abbrev CFG_RB_COUNT_FRAMES : Fld := ⟨.CFG_RB_COUNT, 0, 20⟩
abbrev CFG_RB_ADDR_LO_ADDR : Fld := ⟨.CFG_RB_ADDR_LO, 0, 32⟩
abbrev CFG_RB_ADDR_HI_ADDR : Fld := ⟨.CFG_RB_ADDR_HI, 0, 16⟩
abbrev CFG_RB_STATUS_BUSY : Fld := ⟨.CFG_RB_STATUS, 0, 1⟩
abbrev CFG_RB_STATUS_DONE : Fld := ⟨.CFG_RB_STATUS, 1, 1⟩
abbrev CFG_RB_STATUS_ERR : Fld := ⟨.CFG_RB_STATUS, 2, 1⟩
abbrev CFG_RB_STATUS_ERR_CAUSE : Fld := ⟨.CFG_RB_STATUS, 3, 3⟩
abbrev CFG_RB_STATUS_QUEUED : Fld := ⟨.CFG_RB_STATUS, 6, 1⟩
abbrev CFG_RB_STATUS_UNCORR : Fld := ⟨.CFG_RB_STATUS, 16, 16⟩
abbrev CFG_RB_DATA_WORD : Fld := ⟨.CFG_RB_DATA, 0, 32⟩
abbrev CFG_CAP_CTRL_MODE : Fld := ⟨.CFG_CAP_CTRL, 0, 2⟩
abbrev CFG_CAP_TIME_LO_TIME : Fld := ⟨.CFG_CAP_TIME_LO, 0, 32⟩
abbrev CFG_CAP_TIME_HI_TIME : Fld := ⟨.CFG_CAP_TIME_HI, 0, 32⟩
abbrev CFG_CAP_STATUS_STATE : Fld := ⟨.CFG_CAP_STATUS, 0, 3⟩
abbrev CFG_CAP_STATUS_LATE : Fld := ⟨.CFG_CAP_STATUS, 3, 1⟩
abbrev CFG_CAP_STATUS_CAP_SEQ : Fld := ⟨.CFG_CAP_STATUS, 16, 16⟩
abbrev CFG_CAP_AT_LO_TIME : Fld := ⟨.CFG_CAP_AT_LO, 0, 32⟩
abbrev CFG_CAP_AT_HI_TIME : Fld := ⟨.CFG_CAP_AT_HI, 0, 32⟩
abbrev REPAIR_STATUS_PUST_DONE : Fld := ⟨.REPAIR_STATUS, 0, 1⟩
abbrev REPAIR_STATUS_SLOW : Fld := ⟨.REPAIR_STATUS, 1, 1⟩
abbrev REPAIR_STATUS_STEP_BUSY : Fld := ⟨.REPAIR_STATUS, 2, 1⟩
abbrev REPAIR_STATUS_RETIRED : Fld := ⟨.REPAIR_STATUS, 3, 1⟩
abbrev REPAIR_STATUS_WEAR : Fld := ⟨.REPAIR_STATUS, 4, 1⟩
abbrev REPAIR_STATUS_WEAR_STUCK : Fld := ⟨.REPAIR_STATUS, 5, 1⟩
abbrev REPAIR_STATUS_STEP_ABORT : Fld := ⟨.REPAIR_STATUS, 6, 1⟩
abbrev REPAIR_STATUS_LOST_ROD : Fld := ⟨.REPAIR_STATUS, 7, 1⟩
abbrev REPAIR_STATUS_BG_FAIL : Fld := ⟨.REPAIR_STATUS, 8, 1⟩
abbrev REPAIR_STATUS_GOLDEN_HOLE : Fld := ⟨.REPAIR_STATUS, 9, 1⟩
abbrev REPAIR_STATUS_CMD_REFUSED : Fld := ⟨.REPAIR_STATUS, 10, 1⟩
abbrev REPAIR_STATUS_DEGRADED : Fld := ⟨.REPAIR_STATUS, 11, 1⟩
abbrev REPAIR_PUST_TIME_US : Fld := ⟨.REPAIR_PUST_TIME, 0, 20⟩
abbrev REPAIR_ROVE_MODE_MODE_0 : Fld := ⟨.REPAIR_ROVE_MODE, 0, 2⟩
abbrev REPAIR_ROVE_MODE_MODE_1 : Fld := ⟨.REPAIR_ROVE_MODE, 2, 2⟩
abbrev REPAIR_ROVE_MODE_MODE_2 : Fld := ⟨.REPAIR_ROVE_MODE, 4, 2⟩
abbrev REPAIR_ROVE_MODE_MODE_3 : Fld := ⟨.REPAIR_ROVE_MODE, 6, 2⟩
abbrev REPAIR_ROVE_MODE_MODE_4 : Fld := ⟨.REPAIR_ROVE_MODE, 8, 2⟩
abbrev REPAIR_ROVE_MODE_MODE_5 : Fld := ⟨.REPAIR_ROVE_MODE, 10, 2⟩
abbrev REPAIR_ROVE_MODE_MODE_6 : Fld := ⟨.REPAIR_ROVE_MODE, 12, 2⟩
abbrev REPAIR_ROVE_MODE_MODE_7 : Fld := ⟨.REPAIR_ROVE_MODE, 14, 2⟩
abbrev REPAIR_ROVE_MODE_MODE_8 : Fld := ⟨.REPAIR_ROVE_MODE, 16, 2⟩
abbrev REPAIR_ROVE_MODE_MODE_9 : Fld := ⟨.REPAIR_ROVE_MODE, 18, 2⟩
abbrev REPAIR_ROVE_MODE_MODE_10 : Fld := ⟨.REPAIR_ROVE_MODE, 20, 2⟩
abbrev REPAIR_ROVE_MODE_MODE_11 : Fld := ⟨.REPAIR_ROVE_MODE, 22, 2⟩
abbrev REPAIR_ROVE_MODE_MODE_12 : Fld := ⟨.REPAIR_ROVE_MODE, 24, 2⟩
abbrev REPAIR_ROVE_MODE_MODE_13 : Fld := ⟨.REPAIR_ROVE_MODE, 26, 2⟩
abbrev REPAIR_ROVE_MODE_MODE_14 : Fld := ⟨.REPAIR_ROVE_MODE, 28, 2⟩
abbrev REPAIR_ROVE_MODE_MODE_15 : Fld := ⟨.REPAIR_ROVE_MODE, 30, 2⟩
abbrev REPAIR_ROVE_TIMING_INTERVAL : Fld := ⟨.REPAIR_ROVE_TIMING, 0, 16⟩
abbrev REPAIR_ROVE_TIMING_PAUSE_LIMIT : Fld := ⟨.REPAIR_ROVE_TIMING, 16, 8⟩
abbrev REPAIR_WEAR_CFG_THRESH : Fld := ⟨.REPAIR_WEAR_CFG, 0, 16⟩
abbrev REPAIR_WEAR_CFG_WINDOW_MS : Fld := ⟨.REPAIR_WEAR_CFG, 16, 16⟩
abbrev REPAIR_CMD_OP : Fld := ⟨.REPAIR_CMD, 0, 3⟩
abbrev REPAIR_CMD_GROUP : Fld := ⟨.REPAIR_CMD, 8, 4⟩
abbrev REPAIR_CMD_ROD : Fld := ⟨.REPAIR_CMD, 16, 9⟩
abbrev REPAIR_STEP_STATUS_GROUP : Fld := ⟨.REPAIR_STEP_STATUS, 0, 4⟩
abbrev REPAIR_STEP_STATUS_MIGRATION : Fld := ⟨.REPAIR_STEP_STATUS, 4, 1⟩
abbrev REPAIR_STEP_STATUS_PHASE : Fld := ⟨.REPAIR_STEP_STATUS, 5, 3⟩
abbrev REPAIR_STEP_STATUS_SRC : Fld := ⟨.REPAIR_STEP_STATUS, 8, 9⟩
abbrev REPAIR_STEP_STATUS_DST : Fld := ⟨.REPAIR_STEP_STATUS, 17, 9⟩
abbrev REPAIR_STEP_PAUSE_LAST : Fld := ⟨.REPAIR_STEP_PAUSE, 0, 16⟩
abbrev REPAIR_STEP_PAUSE_MAX : Fld := ⟨.REPAIR_STEP_PAUSE, 16, 16⟩
abbrev REPAIR_STEP_COUNT_STEPS : Fld := ⟨.REPAIR_STEP_COUNT, 0, 32⟩
abbrev REPAIR_STEP_EXC_ABORTS : Fld := ⟨.REPAIR_STEP_EXC, 0, 16⟩
abbrev REPAIR_STEP_EXC_DEFERRALS : Fld := ⟨.REPAIR_STEP_EXC, 16, 16⟩
abbrev REPAIR_RETIRED_COUNT : Fld := ⟨.REPAIR_RETIRED, 0, 9⟩
abbrev REPAIR_BG_CTRL_LINK_EN : Fld := ⟨.REPAIR_BG_CTRL, 0, 1⟩
abbrev REPAIR_BG_CTRL_HBM_EN : Fld := ⟨.REPAIR_BG_CTRL, 1, 1⟩
abbrev REPAIR_BG_CTRL_LINK_PERIOD : Fld := ⟨.REPAIR_BG_CTRL, 8, 8⟩
abbrev REPAIR_BG_CTRL_HBM_PERIOD : Fld := ⟨.REPAIR_BG_CTRL, 16, 16⟩
abbrev REPAIR_BG_STAT_PREEMPT : Fld := ⟨.REPAIR_BG_STAT, 0, 16⟩
abbrev REPAIR_BG_STAT_FORCED : Fld := ⟨.REPAIR_BG_STAT, 16, 16⟩
abbrev REPAIR_BG_FAIL_KIND : Fld := ⟨.REPAIR_BG_FAIL, 0, 2⟩
abbrev REPAIR_BG_FAIL_UNIT : Fld := ⟨.REPAIR_BG_FAIL, 4, 8⟩
abbrev REPAIR_BG_FAIL_PORT : Fld := ⟨.REPAIR_BG_FAIL, 12, 4⟩
abbrev REPAIR_BG_FAIL_COUNT : Fld := ⟨.REPAIR_BG_FAIL, 16, 16⟩
abbrev REPAIR_GROUP_STATUS_GAP : Fld := ⟨.REPAIR_GROUP_STATUS, 0, 5⟩
abbrev REPAIR_GROUP_STATUS_DIR : Fld := ⟨.REPAIR_GROUP_STATUS, 5, 1⟩
abbrev REPAIR_GROUP_STATUS_STATE : Fld := ⟨.REPAIR_GROUP_STATUS, 6, 2⟩
abbrev REPAIR_GROUP_STATUS_FAILED : Fld := ⟨.REPAIR_GROUP_STATUS, 8, 5⟩
abbrev REPAIR_GROUP_STATUS_LOST_MASK : Fld := ⟨.REPAIR_GROUP_STATUS, 16, 16⟩
abbrev REPAIR_ROD_STATUS_STATE : Fld := ⟨.REPAIR_ROD_STATUS, 0, 3⟩
abbrev REPAIR_ROD_STATUS_LOGICAL : Fld := ⟨.REPAIR_ROD_STATUS, 3, 8⟩
abbrev REPAIR_ROD_STATUS_ROWS_SPARED : Fld := ⟨.REPAIR_ROD_STATUS, 11, 3⟩
abbrev REPAIR_ROD_STATUS_MEM_SPARES : Fld := ⟨.REPAIR_ROD_STATUS, 14, 4⟩
abbrev REPAIR_ROD_STATUS_CAUSE : Fld := ⟨.REPAIR_ROD_STATUS, 18, 4⟩
abbrev REPAIR_MON_COUNT_CORRECTED : Fld := ⟨.REPAIR_MON_COUNT, 0, 16⟩
abbrev REPAIR_MON_COUNT_UNCORR : Fld := ⟨.REPAIR_MON_COUNT, 16, 16⟩
abbrev CN_ID_TYPE : Fld := ⟨.CN_ID, 0, 4⟩
abbrev CN_ID_ROW : Fld := ⟨.CN_ID, 4, 4⟩
abbrev CN_ID_INDEX : Fld := ⟨.CN_ID, 8, 8⟩
abbrev CN_ID_PORTS : Fld := ⟨.CN_ID, 16, 15⟩
abbrev CN_PORT_EN_EN : Fld := ⟨.CN_PORT_EN, 0, 15⟩
abbrev CN_VC_SPLIT_VN0 : Fld := ⟨.CN_VC_SPLIT, 0, 6⟩
abbrev CN_VC_SPLIT_VN1 : Fld := ⟨.CN_VC_SPLIT, 8, 6⟩
abbrev CN_VC_SPLIT_VN3 : Fld := ⟨.CN_VC_SPLIT, 16, 6⟩
abbrev CN_ARB_WEIGHT_W_VN0 : Fld := ⟨.CN_ARB_WEIGHT, 0, 4⟩
abbrev CN_ARB_WEIGHT_W_VN1 : Fld := ⟨.CN_ARB_WEIGHT, 8, 4⟩
abbrev CN_ARB_WEIGHT_W_VN3 : Fld := ⟨.CN_ARB_WEIGHT, 16, 4⟩
abbrev CN_AGE_CFG_THRESH : Fld := ⟨.CN_AGE_CFG, 0, 16⟩
abbrev CN_STATUS_STAGED : Fld := ⟨.CN_STATUS, 0, 1⟩
abbrev CN_STATUS_PAR_ERR : Fld := ⟨.CN_STATUS, 1, 1⟩
abbrev CN_STATUS_CTRL_UNCORR : Fld := ⟨.CN_STATUS, 2, 1⟩
abbrev CN_STATUS_REMAP : Fld := ⟨.CN_STATUS, 3, 1⟩
abbrev CN_STATUS_LINK_DOWN : Fld := ⟨.CN_STATUS, 4, 1⟩
abbrev CN_STATUS_CMD_REFUSED : Fld := ⟨.CN_STATUS, 5, 1⟩
abbrev CN_STATUS_WORD0_UNCORR : Fld := ⟨.CN_STATUS, 6, 1⟩
abbrev CN_STATUS_MISROUTE : Fld := ⟨.CN_STATUS, 7, 1⟩
abbrev CN_CTRL_ERR_CORRECTED : Fld := ⟨.CN_CTRL_ERR, 0, 16⟩
abbrev CN_CTRL_ERR_DISCARDED : Fld := ⟨.CN_CTRL_ERR, 16, 16⟩
abbrev CN_AGED_PROMOTIONS : Fld := ⟨.CN_AGED, 0, 32⟩
abbrev CN_U_ROUTES_LO_COUNT_0 : Fld := ⟨.CN_U_ROUTES_LO, 0, 4⟩
abbrev CN_U_ROUTES_LO_COUNT_1 : Fld := ⟨.CN_U_ROUTES_LO, 4, 4⟩
abbrev CN_U_ROUTES_LO_COUNT_2 : Fld := ⟨.CN_U_ROUTES_LO, 8, 4⟩
abbrev CN_U_ROUTES_LO_COUNT_3 : Fld := ⟨.CN_U_ROUTES_LO, 12, 4⟩
abbrev CN_U_ROUTES_LO_COUNT_4 : Fld := ⟨.CN_U_ROUTES_LO, 16, 4⟩
abbrev CN_U_ROUTES_LO_COUNT_5 : Fld := ⟨.CN_U_ROUTES_LO, 20, 4⟩
abbrev CN_U_ROUTES_LO_COUNT_6 : Fld := ⟨.CN_U_ROUTES_LO, 24, 4⟩
abbrev CN_U_ROUTES_LO_COUNT_7 : Fld := ⟨.CN_U_ROUTES_LO, 28, 4⟩
abbrev CN_U_ROUTES_HI_COUNT_8 : Fld := ⟨.CN_U_ROUTES_HI, 0, 4⟩
abbrev CN_U_ROUTES_HI_COUNT_9 : Fld := ⟨.CN_U_ROUTES_HI, 4, 4⟩
abbrev CN_U_ROUTES_HI_COUNT_10 : Fld := ⟨.CN_U_ROUTES_HI, 8, 4⟩
abbrev CN_U_ROUTES_HI_COUNT_11 : Fld := ⟨.CN_U_ROUTES_HI, 12, 4⟩
abbrev CN_U_ROUTES_HI_COUNT_12 : Fld := ⟨.CN_U_ROUTES_HI, 16, 4⟩
abbrev CN_U_ROUTES_HI_COUNT_13 : Fld := ⟨.CN_U_ROUTES_HI, 20, 4⟩
abbrev CN_U_ROUTES_HI_COUNT_14 : Fld := ⟨.CN_U_ROUTES_HI, 24, 4⟩
abbrev CN_SPARE_SET_PORT : Fld := ⟨.CN_SPARE_SET, 0, 4⟩
abbrev CN_SPARE_SET_WIRE : Fld := ⟨.CN_SPARE_SET, 4, 10⟩
abbrev CN_SPARE_SET_SPARE : Fld := ⟨.CN_SPARE_SET, 14, 3⟩
abbrev CN_SPARE_SET_RELEASE : Fld := ⟨.CN_SPARE_SET, 17, 1⟩
abbrev CN_SPARE_SET_VALID : Fld := ⟨.CN_SPARE_SET, 31, 1⟩
abbrev CN_LINK_STATUS_UP : Fld := ⟨.CN_LINK_STATUS, 0, 1⟩
abbrev CN_LINK_STATUS_REMAP_PENDING : Fld := ⟨.CN_LINK_STATUS, 1, 1⟩
abbrev CN_LINK_STATUS_FAILED : Fld := ⟨.CN_LINK_STATUS, 2, 1⟩
abbrev CN_LINK_STATUS_SPARES_USED : Fld := ⟨.CN_LINK_STATUS, 4, 4⟩
abbrev CN_LINK_STATUS_PAR_ERR : Fld := ⟨.CN_LINK_STATUS, 16, 16⟩
abbrev CN_LINK_PARGRP_GROUP_0 : Fld := ⟨.CN_LINK_PARGRP, 0, 8⟩
abbrev CN_LINK_PARGRP_GROUP_1 : Fld := ⟨.CN_LINK_PARGRP, 8, 8⟩
abbrev CN_LINK_PARGRP_GROUP_2 : Fld := ⟨.CN_LINK_PARGRP, 16, 8⟩
abbrev CN_LINK_PARGRP_GROUP_3 : Fld := ⟨.CN_LINK_PARGRP, 24, 8⟩
abbrev CN_LINK_MAP_WIRE : Fld := ⟨.CN_LINK_MAP, 0, 10⟩
abbrev CN_LINK_MAP_SPARE : Fld := ⟨.CN_LINK_MAP, 10, 3⟩
abbrev CN_LINK_MAP_VALID : Fld := ⟨.CN_LINK_MAP, 31, 1⟩
abbrev CN_LINK_CFG_THRESH : Fld := ⟨.CN_LINK_CFG, 0, 8⟩
abbrev NI_ID_NI : Fld := ⟨.NI_ID, 0, 8⟩
abbrev NI_ID_SLOT : Fld := ⟨.NI_ID, 8, 4⟩
abbrev NI_ID_PAGE : Fld := ⟨.NI_ID, 12, 8⟩
abbrev NI_CTRL_RUN : Fld := ⟨.NI_CTRL, 0, 1⟩
abbrev NI_CTRL_STOP_TIMEOUT : Fld := ⟨.NI_CTRL, 16, 16⟩
abbrev NI_STATUS_STATE : Fld := ⟨.NI_STATUS, 0, 2⟩
abbrev NI_STATUS_RT_REFUSED : Fld := ⟨.NI_STATUS, 2, 1⟩
abbrev NI_STATUS_TIMEOUT : Fld := ⟨.NI_STATUS, 3, 1⟩
abbrev NI_STATUS_POISON : Fld := ⟨.NI_STATUS, 4, 1⟩
abbrev NI_STATUS_HDR_DISCARD : Fld := ⟨.NI_STATUS, 5, 1⟩
abbrev NI_STATUS_LATE_RSP : Fld := ⟨.NI_STATUS, 6, 1⟩
abbrev NI_STATUS_TGT_TIMEOUT : Fld := ⟨.NI_STATUS, 7, 1⟩
abbrev NI_STATUS_RWQ_REFUSED : Fld := ⟨.NI_STATUS, 8, 1⟩
abbrev NI_STATUS_DEP_REFUSED : Fld := ⟨.NI_STATUS, 9, 1⟩
abbrev NI_STATUS_U_DROP : Fld := ⟨.NI_STATUS, 10, 1⟩
abbrev NI_STATUS_DEMOTED : Fld := ⟨.NI_STATUS, 11, 1⟩
abbrev NI_STATUS_ABORT_COUNT : Fld := ⟨.NI_STATUS, 16, 16⟩
abbrev NI_RT_CTRL_SWAP : Fld := ⟨.NI_RT_CTRL, 0, 1⟩
abbrev NI_RT_CTRL_BANK : Fld := ⟨.NI_RT_CTRL, 1, 1⟩
abbrev NI_RT_CTRL_COPY : Fld := ⟨.NI_RT_CTRL, 2, 1⟩
abbrev NI_RT_INDEX_ENTRY : Fld := ⟨.NI_RT_INDEX, 0, 8⟩
abbrev NI_RT_INDEX_ACTIVE : Fld := ⟨.NI_RT_INDEX, 8, 1⟩
abbrev NI_RT_INDEX_AUTOINC : Fld := ⟨.NI_RT_INDEX, 9, 1⟩
abbrev NI_RT_DATA_LO_DATA : Fld := ⟨.NI_RT_DATA_LO, 0, 32⟩
abbrev NI_RT_DATA_HI_DATA : Fld := ⟨.NI_RT_DATA_HI, 0, 32⟩
abbrev NI_RT_STATUS_CAUSE : Fld := ⟨.NI_RT_STATUS, 0, 4⟩
abbrev NI_RT_STATUS_ENTRY : Fld := ⟨.NI_RT_STATUS, 4, 8⟩
abbrev NI_RT_STATUS_PAGE : Fld := ⟨.NI_RT_STATUS, 12, 8⟩
abbrev NI_RT_STATUS_PORT : Fld := ⟨.NI_RT_STATUS, 20, 4⟩
abbrev NI_REG_CTRL_EN : Fld := ⟨.NI_REG_CTRL, 0, 1⟩
abbrev NI_REG_CTRL_RATE : Fld := ⟨.NI_REG_CTRL, 1, 11⟩
abbrev NI_REG_CTRL_DEPTH : Fld := ⟨.NI_REG_CTRL, 16, 8⟩
abbrev NI_REG_STATUS_WAITING : Fld := ⟨.NI_REG_STATUS, 0, 4⟩
abbrev NI_REG_STATUS_HELD : Fld := ⟨.NI_REG_STATUS, 16, 16⟩
abbrev NI_U_STATUS_GATED : Fld := ⟨.NI_U_STATUS, 0, 1⟩
abbrev NI_U_STATUS_DROPS : Fld := ⟨.NI_U_STATUS, 16, 8⟩
abbrev NI_U_STATUS_DEMOTED : Fld := ⟨.NI_U_STATUS, 24, 8⟩
abbrev NI_TIMER_US : Fld := ⟨.NI_TIMER, 0, 20⟩
abbrev NI_TGT_TIMER_US : Fld := ⟨.NI_TGT_TIMER, 0, 20⟩
abbrev NI_TXN_OUTSTANDING : Fld := ⟨.NI_TXN, 0, 13⟩
abbrev NI_TXN_QUARANTINED : Fld := ⟨.NI_TXN, 16, 13⟩
abbrev NI_ERR_CNT_TIMEOUTS : Fld := ⟨.NI_ERR_CNT, 0, 16⟩
abbrev NI_ERR_CNT_LATE_RSP : Fld := ⟨.NI_ERR_CNT, 16, 16⟩
abbrev NI_ECC_CNT_CORRECTED : Fld := ⟨.NI_ECC_CNT, 0, 16⟩
abbrev NI_ECC_CNT_POISONED : Fld := ⟨.NI_ECC_CNT, 16, 16⟩
abbrev NI_DISCARD_HEADERS : Fld := ⟨.NI_DISCARD, 0, 16⟩
abbrev NI_DISCARD_ORPHANS : Fld := ⟨.NI_DISCARD, 16, 16⟩
abbrev NI_TGT_ERR_TGT_TIMEOUTS : Fld := ⟨.NI_TGT_ERR, 0, 16⟩
abbrev NI_TGT_ERR_LATE_ANSWERS : Fld := ⟨.NI_TGT_ERR, 16, 16⟩
abbrev CN_HOLD_CTRL_REQ : Fld := ⟨.CN_HOLD_CTRL, 0, 1⟩
abbrev CN_HOLD_CTRL_LIMIT : Fld := ⟨.CN_HOLD_CTRL, 8, 6⟩
abbrev CN_HOLD_STATUS_STATE : Fld := ⟨.CN_HOLD_STATUS, 0, 2⟩
abbrev CN_HOLD_STATUS_FAILED : Fld := ⟨.CN_HOLD_STATUS, 2, 1⟩
abbrev CN_HOLD_STATUS_COUNT : Fld := ⟨.CN_HOLD_STATUS, 16, 16⟩
abbrev CN_HOLD_LAST_NS : Fld := ⟨.CN_HOLD_LAST, 0, 16⟩
abbrev CN_ERRLOG_INFO_KIND : Fld := ⟨.CN_ERRLOG_INFO, 0, 4⟩
abbrev CN_ERRLOG_INFO_PORT : Fld := ⟨.CN_ERRLOG_INFO, 4, 4⟩
abbrev CN_ERRLOG_INFO_VN : Fld := ⟨.CN_ERRLOG_INFO, 8, 2⟩
abbrev CN_ERRLOG_INFO_SRC_NI : Fld := ⟨.CN_ERRLOG_INFO, 10, 8⟩
abbrev CN_ERRLOG_INFO_DEST_NI : Fld := ⟨.CN_ERRLOG_INFO, 18, 8⟩
abbrev CN_ERRLOG_INFO_OVERFLOW : Fld := ⟨.CN_ERRLOG_INFO, 30, 1⟩
abbrev CN_ERRLOG_INFO_VALID : Fld := ⟨.CN_ERRLOG_INFO, 31, 1⟩
abbrev CN_ERRLOG_TIME_LO_TIME : Fld := ⟨.CN_ERRLOG_TIME_LO, 0, 32⟩
abbrev CN_ERRLOG_TIME_HI_TIME : Fld := ⟨.CN_ERRLOG_TIME_HI, 0, 32⟩
abbrev NI_FENCE_CTRL_CLOSE : Fld := ⟨.NI_FENCE_CTRL, 0, 1⟩
abbrev NI_FENCE_CTRL_OPEN : Fld := ⟨.NI_FENCE_CTRL, 1, 1⟩
abbrev NI_FENCE_CTRL_COMPAT : Fld := ⟨.NI_FENCE_CTRL, 2, 1⟩
abbrev NI_FENCE_CTRL_LIMIT : Fld := ⟨.NI_FENCE_CTRL, 16, 16⟩
abbrev NI_FENCE_STATUS_STATE : Fld := ⟨.NI_FENCE_STATUS, 0, 2⟩
abbrev NI_FENCE_STATUS_LIMIT_HIT : Fld := ⟨.NI_FENCE_STATUS, 2, 1⟩
abbrev NI_FENCE_STATUS_REFUSED : Fld := ⟨.NI_FENCE_STATUS, 3, 1⟩
abbrev NI_FENCE_STATUS_CAUSE : Fld := ⟨.NI_FENCE_STATUS, 4, 3⟩
abbrev NI_PROXY_CNT_ANSWERED : Fld := ⟨.NI_PROXY_CNT, 0, 16⟩
abbrev NI_PROXY_CNT_DROPPED : Fld := ⟨.NI_PROXY_CNT, 16, 16⟩
abbrev NI_DEAD_CNT_PACKETS : Fld := ⟨.NI_DEAD_CNT, 0, 32⟩
abbrev NI_DROP_RPT_RECEIVED : Fld := ⟨.NI_DROP_RPT, 0, 16⟩
abbrev NI_DROP_RPT_COALESCED : Fld := ⟨.NI_DROP_RPT, 16, 16⟩
abbrev NI_ERRLOG_INFO_KIND : Fld := ⟨.NI_ERRLOG_INFO, 0, 4⟩
abbrev NI_ERRLOG_INFO_VN : Fld := ⟨.NI_ERRLOG_INFO, 4, 2⟩
abbrev NI_ERRLOG_INFO_PEER : Fld := ⟨.NI_ERRLOG_INFO, 6, 8⟩
abbrev NI_ERRLOG_INFO_TAG : Fld := ⟨.NI_ERRLOG_INFO, 14, 12⟩
abbrev NI_ERRLOG_INFO_CMD : Fld := ⟨.NI_ERRLOG_INFO, 26, 4⟩
abbrev NI_ERRLOG_INFO_OVERFLOW : Fld := ⟨.NI_ERRLOG_INFO, 30, 1⟩
abbrev NI_ERRLOG_INFO_VALID : Fld := ⟨.NI_ERRLOG_INFO, 31, 1⟩
abbrev NI_ERRLOG_ADDR_LO_ADDR : Fld := ⟨.NI_ERRLOG_ADDR_LO, 0, 32⟩
abbrev NI_ERRLOG_ADDR_HI_ADDR : Fld := ⟨.NI_ERRLOG_ADDR_HI, 0, 16⟩
abbrev NI_ERRLOG_TIME_LO_TIME : Fld := ⟨.NI_ERRLOG_TIME_LO, 0, 32⟩
abbrev NI_ERRLOG_TIME_HI_TIME : Fld := ⟨.NI_ERRLOG_TIME_HI, 0, 32⟩
abbrev NI_STAT_CTRL_EN : Fld := ⟨.NI_STAT_CTRL, 0, 1⟩
abbrev NI_STAT_CTRL_FREEZE : Fld := ⟨.NI_STAT_CTRL, 1, 1⟩
abbrev NI_STAT_CTRL_CLEAR : Fld := ⟨.NI_STAT_CTRL, 2, 1⟩
abbrev NI_STAT_UNITS_LO_COUNT : Fld := ⟨.NI_STAT_UNITS_LO, 0, 32⟩
abbrev NI_STAT_UNITS_HI_COUNT : Fld := ⟨.NI_STAT_UNITS_HI, 0, 32⟩
abbrev NI_STAT_BYTES_LO_COUNT : Fld := ⟨.NI_STAT_BYTES_LO, 0, 32⟩
abbrev NI_STAT_BYTES_HI_COUNT : Fld := ⟨.NI_STAT_BYTES_HI, 0, 32⟩
abbrev NI_STAT_LAT_MAX_TICKS : Fld := ⟨.NI_STAT_LAT_MAX, 0, 32⟩
abbrev NI_STAT_HIST_COUNT : Fld := ⟨.NI_STAT_HIST, 0, 32⟩
abbrev DEV_XS_CTRL_TIMEOUT_US : Fld := ⟨.DEV_XS_CTRL, 0, 16⟩
abbrev DEV_XS_STATUS_ERROR : Fld := ⟨.DEV_XS_STATUS, 0, 1⟩
abbrev DEV_XS_STATUS_LOST : Fld := ⟨.DEV_XS_STATUS, 1, 1⟩
abbrev DEV_XS_STATUS_DISCARD : Fld := ⟨.DEV_XS_STATUS, 2, 1⟩
abbrev DEV_XS_STATUS_REFUSED : Fld := ⟨.DEV_XS_STATUS, 3, 1⟩
abbrev DEV_XS_LOG_INDEX : Fld := ⟨.DEV_XS_LOG, 0, 8⟩
abbrev DEV_XS_LOG_SIDE : Fld := ⟨.DEV_XS_LOG, 8, 2⟩
abbrev DEV_XS_LOG_AON_WATCH : Fld := ⟨.DEV_XS_LOG, 10, 1⟩
abbrev DEV_XS_LOG_VALID : Fld := ⟨.DEV_XS_LOG, 31, 1⟩
abbrev DEV_XS_LOG_TIME_LO_TIME : Fld := ⟨.DEV_XS_LOG_TIME_LO, 0, 32⟩
abbrev DEV_XS_LOG_TIME_HI_TIME : Fld := ⟨.DEV_XS_LOG_TIME_HI, 0, 32⟩
abbrev DEV_XS_ISLAND_CLK_ROUTERS : Fld := ⟨.DEV_XS_ISLAND_CLK, 0, 1⟩
abbrev DEV_XS_ISLAND_CLK_HBM : Fld := ⟨.DEV_XS_ISLAND_CLK, 1, 1⟩
abbrev DEV_XS_ISLAND_CLK_HOST : Fld := ⟨.DEV_XS_ISLAND_CLK, 2, 1⟩
abbrev DEV_XS_ISLAND_CLK_SEQ : Fld := ⟨.DEV_XS_ISLAND_CLK, 3, 1⟩
abbrev DEV_XS_ISLAND_CLK_STORE : Fld := ⟨.DEV_XS_ISLAND_CLK, 4, 1⟩
abbrev DEV_XS_ISLAND_CLK_CFG : Fld := ⟨.DEV_XS_ISLAND_CLK, 5, 1⟩
abbrev DEV_XS_ISLAND_CLK_AON_OSC : Fld := ⟨.DEV_XS_ISLAND_CLK, 6, 1⟩
abbrev DEV_XS_QUAD_CLK_RUN : Fld := ⟨.DEV_XS_QUAD_CLK, 0, 32⟩
abbrev DEV_XS_STATE_STATE : Fld := ⟨.DEV_XS_STATE, 0, 2⟩
abbrev DEV_XS_STATE_SIDE : Fld := ⟨.DEV_XS_STATE, 2, 2⟩
abbrev DEV_XS_STATE_RESYNCS : Fld := ⟨.DEV_XS_STATE, 16, 16⟩
abbrev DEV_XS_CNT_DISCARDED : Fld := ⟨.DEV_XS_CNT, 0, 16⟩
abbrev DEV_XS_CNT_ERR_DROPS : Fld := ⟨.DEV_XS_CNT, 16, 16⟩
abbrev TIME_NOW_LO_TIME : Fld := ⟨.TIME_NOW_LO, 0, 32⟩
abbrev TIME_NOW_HI_TIME : Fld := ⟨.TIME_NOW_HI, 0, 32⟩
abbrev TIME_STATUS_LOCK : Fld := ⟨.TIME_STATUS, 0, 1⟩
abbrev TIME_STATUS_HOLDOVER : Fld := ⟨.TIME_STATUS, 1, 1⟩
abbrev TIME_STATUS_REF_LOST : Fld := ⟨.TIME_STATUS, 2, 1⟩
abbrev TIME_STATUS_SYNC_ARMED : Fld := ⟨.TIME_STATUS, 3, 1⟩
abbrev TIME_STATUS_SYNC_LOADED : Fld := ⟨.TIME_STATUS, 4, 1⟩
abbrev TIME_STATUS_SYNC_SLIP : Fld := ⟨.TIME_STATUS, 5, 1⟩
abbrev TIME_STATUS_DLL_LOCK : Fld := ⟨.TIME_STATUS, 6, 1⟩
abbrev TIME_STATUS_DLL_LOST : Fld := ⟨.TIME_STATUS, 7, 1⟩
abbrev TIME_STATUS_CMD_REFUSED : Fld := ⟨.TIME_STATUS, 8, 1⟩
abbrev TIME_SYNC_CTRL_ARM : Fld := ⟨.TIME_SYNC_CTRL, 0, 1⟩
abbrev TIME_SYNC_CTRL_CHECK_EN : Fld := ⟨.TIME_SYNC_CTRL, 1, 1⟩
abbrev TIME_SYNC_CTRL_PERIOD : Fld := ⟨.TIME_SYNC_CTRL, 16, 16⟩
abbrev TIME_LOAD_LO_TIME : Fld := ⟨.TIME_LOAD_LO, 0, 32⟩
abbrev TIME_LOAD_HI_TIME : Fld := ⟨.TIME_LOAD_HI, 0, 32⟩
abbrev TIME_SYNC_LAST_LO_TIME : Fld := ⟨.TIME_SYNC_LAST_LO, 0, 32⟩
abbrev TIME_SYNC_LAST_HI_TIME : Fld := ⟨.TIME_SYNC_LAST_HI, 0, 32⟩
abbrev TIME_EPOCH_LO_NS : Fld := ⟨.TIME_EPOCH_LO, 0, 32⟩
abbrev TIME_EPOCH_HI_NS : Fld := ⟨.TIME_EPOCH_HI, 0, 32⟩
abbrev TIME_CMP_CTRL_EN : Fld := ⟨.TIME_CMP_CTRL, 0, 1⟩
abbrev TIME_CMP_CTRL_ADVANCE : Fld := ⟨.TIME_CMP_CTRL, 1, 1⟩
abbrev TIME_CMP_CTRL_FIRED : Fld := ⟨.TIME_CMP_CTRL, 2, 1⟩
abbrev TIME_CMP_VAL_LO_VAL : Fld := ⟨.TIME_CMP_VAL_LO, 0, 32⟩
abbrev TIME_CMP_VAL_HI_VAL : Fld := ⟨.TIME_CMP_VAL_HI, 0, 32⟩
abbrev TIME_CMP_PERIOD_TICKS : Fld := ⟨.TIME_CMP_PERIOD, 0, 32⟩
abbrev TIME_TIM_CTRL_EN : Fld := ⟨.TIME_TIM_CTRL, 0, 1⟩
abbrev TIME_TIM_PERIOD_TICKS : Fld := ⟨.TIME_TIM_PERIOD, 0, 32⟩
abbrev TIME_TIM_PHASE_TICKS : Fld := ⟨.TIME_TIM_PHASE, 0, 32⟩
abbrev TIME_TIM_COUNT_EVENTS : Fld := ⟨.TIME_TIM_COUNT, 0, 32⟩
abbrev BEAM_CTRL_RUN : Fld := ⟨.BEAM_CTRL, 0, 1⟩
abbrev BEAM_CTRL_STOP_TIMEOUT : Fld := ⟨.BEAM_CTRL, 16, 16⟩
abbrev BEAM_STATUS_STATE : Fld := ⟨.BEAM_STATUS, 0, 2⟩
abbrev BEAM_STATUS_RWQ_REFUSED : Fld := ⟨.BEAM_STATUS, 8, 1⟩
abbrev BEAM_STATUS_DEP_REFUSED : Fld := ⟨.BEAM_STATUS, 9, 1⟩
abbrev BEAM_STATUS_ABORT_COUNT : Fld := ⟨.BEAM_STATUS, 16, 16⟩
abbrev BEAM_SW_EVT_SW0 : Fld := ⟨.BEAM_SW_EVT, 0, 1⟩
abbrev BEAM_SW_EVT_SW1 : Fld := ⟨.BEAM_SW_EVT, 1, 1⟩
abbrev BEAM_ROUTE_SRC : Fld := ⟨.BEAM_ROUTE, 0, 6⟩
abbrev BEAM_ROUTE_EN : Fld := ⟨.BEAM_ROUTE, 8, 1⟩
abbrev BEAM_ROUTE_FIXED : Fld := ⟨.BEAM_ROUTE, 9, 1⟩
abbrev BEAM_DST_CNT_DROPPED : Fld := ⟨.BEAM_DST_CNT, 0, 16⟩
abbrev BEAM_DST_CNT_OVERRUN : Fld := ⟨.BEAM_DST_CNT, 16, 16⟩
abbrev BEAM_SRC_CNT_EVENTS : Fld := ⟨.BEAM_SRC_CNT, 0, 32⟩
abbrev RECORD_CTRL_RUN : Fld := ⟨.RECORD_CTRL, 0, 1⟩
abbrev RECORD_CTRL_START_LATCH : Fld := ⟨.RECORD_CTRL, 1, 1⟩
abbrev RECORD_CTRL_AUTO_START : Fld := ⟨.RECORD_CTRL, 2, 1⟩
abbrev RECORD_CTRL_STOP_TIMEOUT : Fld := ⟨.RECORD_CTRL, 16, 16⟩
abbrev RECORD_STATUS_STATE : Fld := ⟨.RECORD_STATUS, 0, 2⟩
abbrev RECORD_STATUS_PHASE : Fld := ⟨.RECORD_STATUS, 4, 3⟩
abbrev RECORD_STATUS_CLOSE_SEEN : Fld := ⟨.RECORD_STATUS, 7, 1⟩
abbrev RECORD_STATUS_RWQ_REFUSED : Fld := ⟨.RECORD_STATUS, 8, 1⟩
abbrev RECORD_STATUS_DEP_REFUSED : Fld := ⟨.RECORD_STATUS, 9, 1⟩
abbrev RECORD_STATUS_DRAIN_TIMEOUT : Fld := ⟨.RECORD_STATUS, 10, 1⟩
abbrev RECORD_STATUS_START_MISSED : Fld := ⟨.RECORD_STATUS, 11, 1⟩
abbrev RECORD_STATUS_LATE : Fld := ⟨.RECORD_STATUS, 12, 1⟩
abbrev RECORD_STATUS_ORDER_RISK : Fld := ⟨.RECORD_STATUS, 13, 1⟩
abbrev RECORD_STATUS_CLOSED_SEEN : Fld := ⟨.RECORD_STATUS, 14, 1⟩
abbrev RECORD_STATUS_CMD_REFUSED : Fld := ⟨.RECORD_STATUS, 15, 1⟩
abbrev RECORD_STATUS_ABORT_COUNT : Fld := ⟨.RECORD_STATUS, 16, 16⟩
abbrev RECORD_CMD_OP : Fld := ⟨.RECORD_CMD, 0, 4⟩
abbrev RECORD_NUMBER_CURRENT : Fld := ⟨.RECORD_NUMBER, 0, 16⟩
abbrev RECORD_NUMBER_LAST_CLOSED : Fld := ⟨.RECORD_NUMBER, 16, 16⟩
abbrev RECORD_DRAIN_TO_US : Fld := ⟨.RECORD_DRAIN_TO, 0, 20⟩
abbrev RECORD_MAINT_LIMIT_US : Fld := ⟨.RECORD_MAINT_LIMIT, 0, 20⟩
abbrev RECORD_LEN_LO_TICKS : Fld := ⟨.RECORD_LEN_LO, 0, 32⟩
abbrev RECORD_LEN_HI_TICKS : Fld := ⟨.RECORD_LEN_HI, 0, 16⟩
abbrev RECORD_PART_EN_LO_EN : Fld := ⟨.RECORD_PART_EN_LO, 0, 32⟩
abbrev RECORD_PART_EN_HI_EN : Fld := ⟨.RECORD_PART_EN_HI, 0, 32⟩
abbrev RECORD_PART_DONE_LO_DONE : Fld := ⟨.RECORD_PART_DONE_LO, 0, 32⟩
abbrev RECORD_PART_DONE_HI_DONE : Fld := ⟨.RECORD_PART_DONE_HI, 0, 32⟩
abbrev RECORD_LAGGARD_LO_LATE : Fld := ⟨.RECORD_LAGGARD_LO, 0, 32⟩
abbrev RECORD_LAGGARD_HI_LATE : Fld := ⟨.RECORD_LAGGARD_HI, 0, 32⟩
abbrev RECORD_FW_DRAINED_CORE : Fld := ⟨.RECORD_FW_DRAINED, 0, 4⟩
abbrev RECORD_EVT_CNT_IGNORED : Fld := ⟨.RECORD_EVT_CNT, 0, 16⟩
abbrev RECORD_EVT_CNT_LATE_REPORTS : Fld := ⟨.RECORD_EVT_CNT, 16, 16⟩
abbrev RECORD_START_AT_LO_TIME : Fld := ⟨.RECORD_START_AT_LO, 0, 32⟩
abbrev RECORD_START_AT_HI_TIME : Fld := ⟨.RECORD_START_AT_HI, 0, 32⟩
abbrev RECORD_CLOSE_AT_LO_TIME : Fld := ⟨.RECORD_CLOSE_AT_LO, 0, 32⟩
abbrev RECORD_CLOSE_AT_HI_TIME : Fld := ⟨.RECORD_CLOSE_AT_HI, 0, 32⟩
abbrev RECORD_CLOSED_AT_LO_TIME : Fld := ⟨.RECORD_CLOSED_AT_LO, 0, 32⟩
abbrev RECORD_CLOSED_AT_HI_TIME : Fld := ⟨.RECORD_CLOSED_AT_HI, 0, 32⟩
abbrev RECORD_NI_DOMAIN_MEMBER : Fld := ⟨.RECORD_NI_DOMAIN, 0, 32⟩
abbrev RECORD_LATE_CNT_UNITS : Fld := ⟨.RECORD_LATE_CNT, 0, 32⟩
abbrev TALLY_CTRL_TAKE : Fld := ⟨.TALLY_CTRL, 0, 1⟩
abbrev TALLY_CTRL_ON_CLOSE : Fld := ⟨.TALLY_CTRL, 1, 1⟩
abbrev TALLY_STATUS_SEQ : Fld := ⟨.TALLY_STATUS, 0, 16⟩
abbrev TALLY_STATUS_BUSY : Fld := ⟨.TALLY_STATUS, 16, 1⟩
abbrev TALLY_STATUS_COALESCED : Fld := ⟨.TALLY_STATUS, 17, 1⟩
abbrev TALLY_STATUS_SEL_BAD : Fld := ⟨.TALLY_STATUS, 18, 1⟩
abbrev TALLY_TIME_LO_TIME : Fld := ⟨.TALLY_TIME_LO, 0, 32⟩
abbrev TALLY_TIME_HI_TIME : Fld := ⟨.TALLY_TIME_HI, 0, 32⟩
abbrev TALLY_SEL_OFFSET : Fld := ⟨.TALLY_SEL, 0, 28⟩
abbrev TALLY_SHADOW_LO_VALUE : Fld := ⟨.TALLY_SHADOW_LO, 0, 32⟩
abbrev TALLY_SHADOW_HI_VALUE : Fld := ⟨.TALLY_SHADOW_HI, 0, 32⟩
abbrev TALLY_SHADOW_SEQ_SEQ : Fld := ⟨.TALLY_SHADOW_SEQ, 0, 16⟩
abbrev TALLY_SHADOW_SEQ_VALID : Fld := ⟨.TALLY_SHADOW_SEQ, 16, 1⟩
abbrev TBUS_REF_CTRL_REF_OUT : Fld := ⟨.TBUS_REF_CTRL, 0, 2⟩
abbrev TBUS_REF_CTRL_REF_PRESENT : Fld := ⟨.TBUS_REF_CTRL, 2, 1⟩
abbrev TBUS_RX_FIFO_DATA : Fld := ⟨.TBUS_RX_FIFO, 0, 16⟩
abbrev TBUS_RX_FIFO_LINE : Fld := ⟨.TBUS_RX_FIFO, 16, 5⟩
abbrev TBUS_RX_FIFO_VALID : Fld := ⟨.TBUS_RX_FIFO, 31, 1⟩
abbrev TBUS_RX_TIME_LO_TIME : Fld := ⟨.TBUS_RX_TIME_LO, 0, 32⟩
abbrev TBUS_RX_TIME_HI_TIME : Fld := ⟨.TBUS_RX_TIME_HI, 0, 32⟩
abbrev TBUS_RX_STAT_LEVEL : Fld := ⟨.TBUS_RX_STAT, 0, 6⟩
abbrev TBUS_RX_STAT_OVERFLOWED : Fld := ⟨.TBUS_RX_STAT, 6, 1⟩
abbrev TBUS_RX_STAT_OVERFLOW : Fld := ⟨.TBUS_RX_STAT, 16, 16⟩
abbrev TBUS_LINE_CTRL_MODE : Fld := ⟨.TBUS_LINE_CTRL, 0, 2⟩
abbrev TBUS_LINE_CTRL_RX_EDGE : Fld := ⟨.TBUS_LINE_CTRL, 2, 2⟩
abbrev TBUS_LINE_CTRL_OWN_MASK : Fld := ⟨.TBUS_LINE_CTRL, 4, 1⟩
abbrev TBUS_LINE_CTRL_COLL_EN : Fld := ⟨.TBUS_LINE_CTRL, 5, 1⟩
abbrev TBUS_LINE_CTRL_DRV_EN : Fld := ⟨.TBUS_LINE_CTRL, 6, 1⟩
abbrev TBUS_LINE_CTRL_TERM : Fld := ⟨.TBUS_LINE_CTRL, 7, 1⟩
abbrev TBUS_LINE_CTRL_FILT : Fld := ⟨.TBUS_LINE_CTRL, 8, 4⟩
abbrev TBUS_LINE_TIMING_WIDTH : Fld := ⟨.TBUS_LINE_TIMING, 0, 12⟩
abbrev TBUS_LINE_TIMING_WIN : Fld := ⟨.TBUS_LINE_TIMING, 12, 8⟩
abbrev TBUS_LINE_TIMING_RETRY : Fld := ⟨.TBUS_LINE_TIMING, 20, 3⟩
abbrev TBUS_LINE_TIMING_IDLE_BITS : Fld := ⟨.TBUS_LINE_TIMING, 24, 4⟩
abbrev TBUS_LINE_STATUS_DRIVE : Fld := ⟨.TBUS_LINE_STATUS, 0, 2⟩
abbrev TBUS_LINE_STATUS_LEVEL : Fld := ⟨.TBUS_LINE_STATUS, 2, 1⟩
abbrev TBUS_LINE_STATUS_COLLISION : Fld := ⟨.TBUS_LINE_STATUS, 3, 1⟩
abbrev TBUS_LINE_STATUS_RATE_DROP : Fld := ⟨.TBUS_LINE_STATUS, 4, 1⟩
abbrev TBUS_LINE_STATUS_CUTOFF : Fld := ⟨.TBUS_LINE_STATUS, 5, 1⟩
abbrev TBUS_LINE_STATUS_DRIVE_FAULT : Fld := ⟨.TBUS_LINE_STATUS, 6, 1⟩
abbrev TBUS_LINE_STATUS_FOREIGN_STUCK : Fld := ⟨.TBUS_LINE_STATUS, 7, 1⟩
abbrev TBUS_LINE_STATUS_RX_ERR : Fld := ⟨.TBUS_LINE_STATUS, 8, 1⟩
abbrev TBUS_LINE_STATUS_TX_FAIL : Fld := ⟨.TBUS_LINE_STATUS, 9, 1⟩
abbrev TBUS_LINE_STATUS_GUARD_REFUSED : Fld := ⟨.TBUS_LINE_STATUS, 10, 1⟩
abbrev TBUS_GOV_IMG_MIN_WIDTH : Fld := ⟨.TBUS_GOV_IMG, 0, 8⟩
abbrev TBUS_GOV_IMG_DEPTH : Fld := ⟨.TBUS_GOV_IMG, 8, 5⟩
abbrev TBUS_GOV_IMG_PERIOD : Fld := ⟨.TBUS_GOV_IMG, 13, 11⟩
abbrev TBUS_GOV_IMG_CUTOFF : Fld := ⟨.TBUS_GOV_IMG, 24, 8⟩
abbrev TBUS_GOV_FW_FIELDS : Fld := ⟨.TBUS_GOV_FW, 0, 32⟩
abbrev TBUS_TX_DATA_DATA : Fld := ⟨.TBUS_TX_DATA, 0, 16⟩
abbrev TBUS_TX_DATA_SEND : Fld := ⟨.TBUS_TX_DATA, 16, 1⟩
abbrev TBUS_MATCH_VALUE : Fld := ⟨.TBUS_MATCH, 0, 16⟩
abbrev TBUS_MATCH_MASK : Fld := ⟨.TBUS_MATCH, 16, 16⟩
abbrev TBUS_CNT_TX_ASSERTIONS : Fld := ⟨.TBUS_CNT_TX, 0, 32⟩
abbrev TBUS_CNT_EXC_COLL : Fld := ⟨.TBUS_CNT_EXC, 0, 8⟩
abbrev TBUS_CNT_EXC_RATE : Fld := ⟨.TBUS_CNT_EXC, 8, 8⟩
abbrev TBUS_CNT_EXC_STRETCH : Fld := ⟨.TBUS_CNT_EXC, 16, 8⟩
abbrev TBUS_CNT_EXC_RX_ERR : Fld := ⟨.TBUS_CNT_EXC, 24, 8⟩
abbrev LANE_QUAD_CTRL_RUN : Fld := ⟨.LANE_QUAD_CTRL, 0, 1⟩
abbrev LANE_QUAD_CTRL_STOP_TIMEOUT : Fld := ⟨.LANE_QUAD_CTRL, 16, 16⟩
abbrev LANE_QUAD_STATUS_STATE : Fld := ⟨.LANE_QUAD_STATUS, 0, 2⟩
abbrev LANE_QUAD_STATUS_POWERED : Fld := ⟨.LANE_QUAD_STATUS, 2, 1⟩
abbrev LANE_QUAD_STATUS_PLL_LOCK : Fld := ⟨.LANE_QUAD_STATUS, 3, 1⟩
abbrev LANE_QUAD_STATUS_RWQ_REFUSED : Fld := ⟨.LANE_QUAD_STATUS, 8, 1⟩
abbrev LANE_QUAD_STATUS_DEP_REFUSED : Fld := ⟨.LANE_QUAD_STATUS, 9, 1⟩
abbrev LANE_QUAD_STATUS_GUARD_REFUSED : Fld := ⟨.LANE_QUAD_STATUS, 10, 1⟩
abbrev LANE_QUAD_STATUS_PLL_LOST : Fld := ⟨.LANE_QUAD_STATUS, 11, 1⟩
abbrev LANE_QUAD_STATUS_ABORT_COUNT : Fld := ⟨.LANE_QUAD_STATUS, 16, 16⟩
abbrev LANE_QUAD_CFG_MODE : Fld := ⟨.LANE_QUAD_CFG, 0, 3⟩
abbrev LANE_QUAD_CFG_REFSEL : Fld := ⟨.LANE_QUAD_CFG, 3, 1⟩
abbrev LANE_QUAD_CFG_PAM4 : Fld := ⟨.LANE_QUAD_CFG, 4, 1⟩
abbrev LANE_QUAD_CFG_SCR : Fld := ⟨.LANE_QUAD_CFG, 5, 1⟩
abbrev LANE_QUAD_CFG_RX_EN : Fld := ⟨.LANE_QUAD_CFG, 8, 4⟩
abbrev LANE_QUAD_CFG_TX_EN : Fld := ⟨.LANE_QUAD_CFG, 12, 4⟩
abbrev LANE_QUAD_CFG_RATE_MBPS : Fld := ⟨.LANE_QUAD_CFG, 16, 16⟩
abbrev LANE_JESD_CFG_ENC : Fld := ⟨.LANE_JESD_CFG, 0, 1⟩
abbrev LANE_JESD_CFG_SUBCLASS : Fld := ⟨.LANE_JESD_CFG, 1, 1⟩
abbrev LANE_JESD_CFG_E : Fld := ⟨.LANE_JESD_CFG, 4, 4⟩
abbrev LANE_JESD_CFG_F : Fld := ⟨.LANE_JESD_CFG, 8, 8⟩
abbrev LANE_JESD_CFG_K : Fld := ⟨.LANE_JESD_CFG, 16, 5⟩
abbrev LANE_JESD_CFG_LINK : Fld := ⟨.LANE_JESD_CFG, 21, 5⟩
abbrev LANE_SYSREF_CFG_SRC : Fld := ⟨.LANE_SYSREF_CFG, 0, 6⟩
abbrev LANE_SYSREF_CFG_EN : Fld := ⟨.LANE_SYSREF_CFG, 6, 1⟩
abbrev LANE_SYSREF_CFG_CONT : Fld := ⟨.LANE_SYSREF_CFG, 7, 1⟩
abbrev LANE_SYSREF_CFG_RBD : Fld := ⟨.LANE_SYSREF_CFG, 8, 16⟩
abbrev LANE_LEMC_TICKS : Fld := ⟨.LANE_LEMC, 0, 16⟩
abbrev LANE_LEMC_ARRIVAL : Fld := ⟨.LANE_LEMC, 16, 16⟩
abbrev LANE_TX_PIPE_UI : Fld := ⟨.LANE_TX_PIPE, 0, 16⟩
abbrev LANE_TX_GUARD_LANES_ALLOWED : Fld := ⟨.LANE_TX_GUARD, 0, 4⟩
abbrev LANE_TX_GUARD_MODES_ALLOWED : Fld := ⟨.LANE_TX_GUARD, 4, 6⟩
abbrev LANE_TX_GUARD_AMP_MAX : Fld := ⟨.LANE_TX_GUARD, 12, 11⟩
abbrev LANE_ALERT_CTRL_EN : Fld := ⟨.LANE_ALERT_CTRL, 0, 1⟩
abbrev LANE_ALERT_CTRL_ON_LOSS : Fld := ⟨.LANE_ALERT_CTRL, 1, 1⟩
abbrev LANE_ALERT_CTRL_ON_OVF : Fld := ⟨.LANE_ALERT_CTRL, 2, 1⟩
abbrev LANE_ALERT_CTRL_ON_SLIP : Fld := ⟨.LANE_ALERT_CTRL, 3, 1⟩
abbrev LANE_ALERT_ADDR_LO_ADDR : Fld := ⟨.LANE_ALERT_ADDR_LO, 0, 32⟩
abbrev LANE_ALERT_ADDR_HI_ADDR : Fld := ⟨.LANE_ALERT_ADDR_HI, 0, 16⟩
abbrev LANE_RX_BASE_LO_ADDR : Fld := ⟨.LANE_RX_BASE_LO, 0, 32⟩
abbrev LANE_RX_BASE_HI_ADDR : Fld := ⟨.LANE_RX_BASE_HI, 0, 16⟩
abbrev LANE_TX_BASE_LO_ADDR : Fld := ⟨.LANE_TX_BASE_LO, 0, 32⟩
abbrev LANE_TX_BASE_HI_ADDR : Fld := ⟨.LANE_TX_BASE_HI, 0, 16⟩
abbrev LANE_RX_SIZE_LOG2 : Fld := ⟨.LANE_RX_SIZE, 0, 5⟩
abbrev LANE_RX_SIZE_CHUNK : Fld := ⟨.LANE_RX_SIZE, 8, 4⟩
abbrev LANE_TX_SIZE_LOG2 : Fld := ⟨.LANE_TX_SIZE, 0, 5⟩
abbrev LANE_TX_SIZE_CHUNK : Fld := ⟨.LANE_TX_SIZE, 8, 4⟩
abbrev LANE_TX_ANALOG_AMP : Fld := ⟨.LANE_TX_ANALOG, 0, 11⟩
abbrev LANE_TX_ANALOG_PRE : Fld := ⟨.LANE_TX_ANALOG, 12, 4⟩
abbrev LANE_TX_ANALOG_POST : Fld := ⟨.LANE_TX_ANALOG, 16, 6⟩
abbrev LANE_TX_ANALOG_TX_POL : Fld := ⟨.LANE_TX_ANALOG, 24, 1⟩
abbrev LANE_TX_ANALOG_RX_POL : Fld := ⟨.LANE_TX_ANALOG, 25, 1⟩
abbrev LANE_TEST_CTRL_PATTERN : Fld := ⟨.LANE_TEST_CTRL, 0, 3⟩
abbrev LANE_TEST_CTRL_LOOPBACK : Fld := ⟨.LANE_TEST_CTRL, 4, 2⟩
abbrev LANE_LANE_STATUS_CDR_LOCK : Fld := ⟨.LANE_LANE_STATUS, 0, 1⟩
abbrev LANE_LANE_STATUS_BLOCK_LOCK : Fld := ⟨.LANE_LANE_STATUS, 1, 1⟩
abbrev LANE_LANE_STATUS_LINK_UP : Fld := ⟨.LANE_LANE_STATUS, 2, 1⟩
abbrev LANE_LANE_STATUS_ALIGNED : Fld := ⟨.LANE_LANE_STATUS, 3, 1⟩
abbrev LANE_LANE_STATUS_SYNC_REQ : Fld := ⟨.LANE_LANE_STATUS, 4, 1⟩
abbrev LANE_LANE_STATUS_LOSS : Fld := ⟨.LANE_LANE_STATUS, 8, 1⟩
abbrev LANE_LANE_STATUS_OVERFLOW : Fld := ⟨.LANE_LANE_STATUS, 9, 1⟩
abbrev LANE_LANE_STATUS_UNDERRUN : Fld := ⟨.LANE_LANE_STATUS, 10, 1⟩
abbrev LANE_LANE_STATUS_SLIP : Fld := ⟨.LANE_LANE_STATUS, 11, 1⟩
abbrev LANE_LANE_STATUS_LATE_MB : Fld := ⟨.LANE_LANE_STATUS, 12, 1⟩
abbrev LANE_LANE_STATUS_ILAS_ERR : Fld := ⟨.LANE_LANE_STATUS, 13, 1⟩
abbrev LANE_LANE_STATUS_TX_RD_ERR : Fld := ⟨.LANE_LANE_STATUS, 14, 1⟩
abbrev LANE_LANE_STATUS_CFG_FAULT : Fld := ⟨.LANE_LANE_STATUS, 15, 1⟩
abbrev LANE_LANE_STATUS_STREAM_SEQ : Fld := ⟨.LANE_LANE_STATUS, 16, 16⟩
abbrev LANE_RX_START_LO_TIME : Fld := ⟨.LANE_RX_START_LO, 0, 32⟩
abbrev LANE_RX_START_HI_TIME : Fld := ⟨.LANE_RX_START_HI, 0, 32⟩
abbrev LANE_TX_START_LO_TIME : Fld := ⟨.LANE_TX_START_LO, 0, 32⟩
abbrev LANE_TX_START_HI_TIME : Fld := ⟨.LANE_TX_START_HI, 0, 32⟩
abbrev LANE_RX_BYTES_LO_COUNT : Fld := ⟨.LANE_RX_BYTES_LO, 0, 32⟩
abbrev LANE_RX_BYTES_HI_COUNT : Fld := ⟨.LANE_RX_BYTES_HI, 0, 32⟩
abbrev LANE_RX_DROP_BYTES : Fld := ⟨.LANE_RX_DROP, 0, 32⟩
abbrev LANE_ERR_CNT_CODE : Fld := ⟨.LANE_ERR_CNT, 0, 16⟩
abbrev LANE_ERR_CNT_UNDERRUN : Fld := ⟨.LANE_ERR_CNT, 16, 16⟩
abbrev LANE_TX_PTR_BYTE : Fld := ⟨.LANE_TX_PTR, 0, 32⟩
abbrev LANE_EYE_CTRL_H : Fld := ⟨.LANE_EYE_CTRL, 0, 7⟩
abbrev LANE_EYE_CTRL_V : Fld := ⟨.LANE_EYE_CTRL, 8, 7⟩
abbrev LANE_EYE_CTRL_EYE : Fld := ⟨.LANE_EYE_CTRL, 16, 2⟩
abbrev LANE_EYE_CTRL_BITS : Fld := ⟨.LANE_EYE_CTRL, 20, 4⟩
abbrev LANE_EYE_CTRL_START : Fld := ⟨.LANE_EYE_CTRL, 31, 1⟩
abbrev LANE_EYE_RESULT_ERRORS : Fld := ⟨.LANE_EYE_RESULT, 0, 30⟩
abbrev LANE_EYE_RESULT_VALID : Fld := ⟨.LANE_EYE_RESULT, 30, 1⟩
abbrev LANE_EYE_RESULT_DONE : Fld := ⟨.LANE_EYE_RESULT, 31, 1⟩
abbrev HBM_STATUS_INIT_DONE : Fld := ⟨.HBM_STATUS, 0, 1⟩
abbrev HBM_STATUS_SELF_REFRESH : Fld := ⟨.HBM_STATUS, 1, 1⟩
abbrev HBM_STATUS_HOT : Fld := ⟨.HBM_STATUS, 2, 1⟩
abbrev HBM_STATUS_THROTTLE : Fld := ⟨.HBM_STATUS, 3, 1⟩
abbrev HBM_STATUS_CRIT : Fld := ⟨.HBM_STATUS, 4, 1⟩
abbrev HBM_STATUS_UNCORR : Fld := ⟨.HBM_STATUS, 5, 1⟩
abbrev HBM_STATUS_ROW_REPAIR : Fld := ⟨.HBM_STATUS, 6, 1⟩
abbrev HBM_STATUS_REPAIR_FULL : Fld := ⟨.HBM_STATUS, 7, 1⟩
abbrev HBM_STATUS_CAPTURED : Fld := ⟨.HBM_STATUS, 8, 1⟩
abbrev HBM_STATUS_FROZEN_DROP : Fld := ⟨.HBM_STATUS, 9, 1⟩
abbrev HBM_STATUS_CMD_REFUSED : Fld := ⟨.HBM_STATUS, 10, 1⟩
abbrev HBM_STATUS_CH_FAILED : Fld := ⟨.HBM_STATUS, 16, 8⟩
abbrev HBM_CTRL_SCRUB_EN : Fld := ⟨.HBM_CTRL, 0, 1⟩
abbrev HBM_CTRL_THROTTLE_PCT : Fld := ⟨.HBM_CTRL, 8, 7⟩
abbrev HBM_CTRL_SCRUB_INTERVAL : Fld := ⟨.HBM_CTRL, 16, 16⟩
abbrev HBM_TEMP_NOW : Fld := ⟨.HBM_TEMP, 0, 8⟩
abbrev HBM_TEMP_MAX : Fld := ⟨.HBM_TEMP, 8, 8⟩
abbrev HBM_PC_ECC_CORRECTED : Fld := ⟨.HBM_PC_ECC, 0, 16⟩
abbrev HBM_PC_ECC_UNCORR : Fld := ⟨.HBM_PC_ECC, 16, 16⟩
abbrev HBM_PC_ERR_ADDR_LO_ADDR : Fld := ⟨.HBM_PC_ERR_ADDR_LO, 0, 32⟩
abbrev HBM_PC_ERR_ADDR_HI_ADDR : Fld := ⟨.HBM_PC_ERR_ADDR_HI, 0, 2⟩
abbrev HBM_PC_DROP_CRIT : Fld := ⟨.HBM_PC_DROP, 0, 16⟩
abbrev HBM_PC_DROP_FROZEN : Fld := ⟨.HBM_PC_DROP, 16, 16⟩
abbrev HBM_RING_BASE_LO_BASE : Fld := ⟨.HBM_RING_BASE_LO, 0, 32⟩
abbrev HBM_RING_BASE_HI_BASE : Fld := ⟨.HBM_RING_BASE_HI, 0, 2⟩
abbrev HBM_RING_SIZE_UNITS : Fld := ⟨.HBM_RING_SIZE, 0, 19⟩
abbrev HBM_RING_CTRL_EN : Fld := ⟨.HBM_RING_CTRL, 0, 1⟩
abbrev HBM_RING_CTRL_TAGGED : Fld := ⟨.HBM_RING_CTRL, 1, 1⟩
abbrev HBM_RING_CTRL_FREEZE : Fld := ⟨.HBM_RING_CTRL, 2, 1⟩
abbrev HBM_RING_CTRL_CAPTURE : Fld := ⟨.HBM_RING_CTRL, 3, 1⟩
abbrev HBM_RING_CTRL_REARM : Fld := ⟨.HBM_RING_CTRL, 4, 1⟩
abbrev HBM_RING_CTRL_CAPTURED : Fld := ⟨.HBM_RING_CTRL, 5, 1⟩
abbrev HBM_RING_CTRL_FROZEN : Fld := ⟨.HBM_RING_CTRL, 6, 1⟩
abbrev HBM_RING_CTRL_PARTIAL : Fld := ⟨.HBM_RING_CTRL, 7, 1⟩
abbrev HBM_RING_CAP_END_LO_VALUE : Fld := ⟨.HBM_RING_CAP_END_LO, 0, 32⟩
abbrev HBM_RING_CAP_END_HI_VALUE : Fld := ⟨.HBM_RING_CAP_END_HI, 0, 32⟩
abbrev HBM_RING_CAP_TIME_LO_VALUE : Fld := ⟨.HBM_RING_CAP_TIME_LO, 0, 32⟩
abbrev HBM_RING_CAP_TIME_HI_VALUE : Fld := ⟨.HBM_RING_CAP_TIME_HI, 0, 32⟩
abbrev HBM_RING_CAP_FILL_LO_VALUE : Fld := ⟨.HBM_RING_CAP_FILL_LO, 0, 32⟩
abbrev HBM_RING_CAP_FILL_HI_VALUE : Fld := ⟨.HBM_RING_CAP_FILL_HI, 0, 32⟩
abbrev HBM_RING_CAP_INFO_RECORD : Fld := ⟨.HBM_RING_CAP_INFO, 0, 16⟩
abbrev HBM_RING_CAP_INFO_LEAD : Fld := ⟨.HBM_RING_CAP_INFO, 16, 4⟩
abbrev HBM_RING_REC_BYTES_LO_COUNT : Fld := ⟨.HBM_RING_REC_BYTES_LO, 0, 32⟩
abbrev HBM_RING_REC_BYTES_HI_COUNT : Fld := ⟨.HBM_RING_REC_BYTES_HI, 0, 32⟩
abbrev HBM_RING_PC_END_END : Fld := ⟨.HBM_RING_PC_END, 0, 28⟩
abbrev HBM_RING_PC_END_VALID : Fld := ⟨.HBM_RING_PC_END, 31, 1⟩
abbrev STORE_STATUS_MOUNTED : Fld := ⟨.STORE_STATUS, 0, 1⟩
abbrev STORE_STATUS_BUSY : Fld := ⟨.STORE_STATUS, 1, 1⟩
abbrev STORE_STATUS_DRIVE_FAIL : Fld := ⟨.STORE_STATUS, 2, 1⟩
abbrev STORE_STATUS_CAT_DEGRADED : Fld := ⟨.STORE_STATUS, 3, 1⟩
abbrev STORE_STATUS_CAT_FAULT : Fld := ⟨.STORE_STATUS, 4, 1⟩
abbrev STORE_STATUS_LATE_COMMIT : Fld := ⟨.STORE_STATUS, 5, 1⟩
abbrev STORE_STATUS_CMD_REFUSED : Fld := ⟨.STORE_STATUS, 6, 1⟩
abbrev STORE_STATUS_CAUSE : Fld := ⟨.STORE_STATUS, 8, 4⟩
abbrev STORE_CMD_OP : Fld := ⟨.STORE_CMD, 0, 4⟩
abbrev STORE_CMD_DRIVE : Fld := ⟨.STORE_CMD, 8, 3⟩
abbrev STORE_CFG_DRIVES : Fld := ⟨.STORE_CFG, 0, 8⟩
abbrev STORE_QMEM_LO_ADDR : Fld := ⟨.STORE_QMEM_LO, 0, 32⟩
abbrev STORE_QMEM_HI_ADDR : Fld := ⟨.STORE_QMEM_HI, 0, 2⟩
abbrev STORE_CMD_TIMEOUT_MS : Fld := ⟨.STORE_CMD_TIMEOUT, 0, 16⟩
abbrev STORE_CAT_SEQ_VALUE : Fld := ⟨.STORE_CAT_SEQ, 0, 32⟩
abbrev STORE_STRIPES_VALUE : Fld := ⟨.STORE_STRIPES, 0, 32⟩
abbrev STORE_DRV_STATUS_STATE : Fld := ⟨.STORE_DRV_STATUS, 0, 3⟩
abbrev STORE_DRV_STATUS_GEN : Fld := ⟨.STORE_DRV_STATUS, 3, 3⟩
abbrev STORE_DRV_STATUS_WIDTH : Fld := ⟨.STORE_DRV_STATUS, 6, 3⟩
abbrev STORE_DRV_STATUS_VWC : Fld := ⟨.STORE_DRV_STATUS, 9, 1⟩
abbrev STORE_DRV_STATUS_LBA4K : Fld := ⟨.STORE_DRV_STATUS, 10, 1⟩
abbrev STORE_DRV_STATUS_FAIL_CAUSE : Fld := ⟨.STORE_DRV_STATUS, 16, 4⟩
abbrev STORE_DRV_ERR_SC : Fld := ⟨.STORE_DRV_ERR, 0, 8⟩
abbrev STORE_DRV_ERR_SCT : Fld := ⟨.STORE_DRV_ERR, 8, 3⟩
abbrev STORE_DRV_ERR_ERRORS : Fld := ⟨.STORE_DRV_ERR, 16, 16⟩
abbrev STORE_CH_CTRL_RUN : Fld := ⟨.STORE_CH_CTRL, 0, 1⟩
abbrev STORE_CH_CTRL_STOP_TIMEOUT : Fld := ⟨.STORE_CH_CTRL, 16, 16⟩
abbrev STORE_CH_STATUS_STATE : Fld := ⟨.STORE_CH_STATUS, 0, 2⟩
abbrev STORE_CH_STATUS_CFG_FAULT : Fld := ⟨.STORE_CH_STATUS, 2, 1⟩
abbrev STORE_CH_STATUS_FULL : Fld := ⟨.STORE_CH_STATUS, 3, 1⟩
abbrev STORE_CH_STATUS_HOLES : Fld := ⟨.STORE_CH_STATUS, 4, 1⟩
abbrev STORE_CH_STATUS_LOST : Fld := ⟨.STORE_CH_STATUS, 5, 1⟩
abbrev STORE_CH_STATUS_RWQ_REFUSED : Fld := ⟨.STORE_CH_STATUS, 8, 1⟩
abbrev STORE_CH_STATUS_DEP_REFUSED : Fld := ⟨.STORE_CH_STATUS, 9, 1⟩
abbrev STORE_CH_STATUS_ABORT_COUNT : Fld := ⟨.STORE_CH_STATUS, 16, 16⟩
abbrev STORE_CH_CFG_DIR : Fld := ⟨.STORE_CH_CFG, 0, 1⟩
abbrev STORE_CH_CFG_REC : Fld := ⟨.STORE_CH_CFG, 1, 1⟩
abbrev STORE_CH_CFG_WRAP : Fld := ⟨.STORE_CH_CFG, 2, 1⟩
abbrev STORE_CH_RING_LO_ADDR : Fld := ⟨.STORE_CH_RING_LO, 0, 32⟩
abbrev STORE_CH_RING_HI_ADDR : Fld := ⟨.STORE_CH_RING_HI, 0, 16⟩
abbrev STORE_CH_MIRROR_LO_ADDR : Fld := ⟨.STORE_CH_MIRROR_LO, 0, 32⟩
abbrev STORE_CH_MIRROR_HI_ADDR : Fld := ⟨.STORE_CH_MIRROR_HI, 0, 16⟩
abbrev STORE_CH_RING_SIZE_MIB : Fld := ⟨.STORE_CH_RING_SIZE, 0, 13⟩
abbrev STORE_CH_PROD_OFFSET : Fld := ⟨.STORE_CH_PROD, 0, 32⟩
abbrev STORE_CH_CONS_OFFSET : Fld := ⟨.STORE_CH_CONS, 0, 32⟩
abbrev STORE_CH_PART_FIRST_STRIPES : Fld := ⟨.STORE_CH_PART_FIRST, 0, 32⟩
abbrev STORE_CH_PART_STRIPES_STRIPES : Fld := ⟨.STORE_CH_PART_STRIPES, 0, 32⟩
abbrev STORE_CH_PB_SEQ_SEQ : Fld := ⟨.STORE_CH_PB_SEQ, 0, 32⟩
abbrev STORE_CH_REC_BYTES_LO_COUNT : Fld := ⟨.STORE_CH_REC_BYTES_LO, 0, 32⟩
abbrev STORE_CH_REC_BYTES_HI_COUNT : Fld := ⟨.STORE_CH_REC_BYTES_HI, 0, 32⟩
abbrev STORE_CH_LOST_BYTES : Fld := ⟨.STORE_CH_LOST, 0, 32⟩
abbrev HOST_LINK_STATUS_SPEED : Fld := ⟨.HOST_LINK_STATUS, 0, 3⟩
abbrev HOST_LINK_STATUS_WIDTH : Fld := ⟨.HOST_LINK_STATUS, 3, 5⟩
abbrev HOST_LINK_STATUS_DL_UP : Fld := ⟨.HOST_LINK_STATUS, 8, 1⟩
abbrev HOST_LINK_STATUS_ID_LATCHED : Fld := ⟨.HOST_LINK_STATUS, 9, 1⟩
abbrev HOST_LINK_STATUS_BME : Fld := ⟨.HOST_LINK_STATUS, 10, 1⟩
abbrev HOST_LINK_STATUS_MSIX_EN : Fld := ⟨.HOST_LINK_STATUS, 11, 1⟩
abbrev HOST_LINK_STATUS_D3HOT : Fld := ⟨.HOST_LINK_STATUS, 12, 1⟩
abbrev HOST_STATUS_LINK_DOWN : Fld := ⟨.HOST_STATUS, 0, 1⟩
abbrev HOST_STATUS_PERST_SEEN : Fld := ⟨.HOST_STATUS, 1, 1⟩
abbrev HOST_STATUS_FLR_SEEN : Fld := ⟨.HOST_STATUS, 2, 1⟩
abbrev HOST_STATUS_BAR_ERR : Fld := ⟨.HOST_STATUS, 3, 1⟩
abbrev HOST_STATUS_WIN_ERR : Fld := ⟨.HOST_STATUS, 4, 1⟩
abbrev HOST_STATUS_AER_CORR : Fld := ⟨.HOST_STATUS, 5, 1⟩
abbrev HOST_STATUS_AER_UNCORR : Fld := ⟨.HOST_STATUS, 6, 1⟩
abbrev HOST_STATUS_CMD_REFUSED : Fld := ⟨.HOST_STATUS, 7, 1⟩
abbrev HOST_BAR_CTRL_ERR_DATA : Fld := ⟨.HOST_BAR_CTRL, 0, 1⟩
abbrev HOST_BAR_ERR_FAILED : Fld := ⟨.HOST_BAR_ERR, 0, 12⟩
abbrev HOST_BAR_ERR_PARTIAL : Fld := ⟨.HOST_BAR_ERR, 12, 12⟩
abbrev HOST_BAR_ERR_INFO_ERR : Fld := ⟨.HOST_BAR_ERR_INFO, 0, 8⟩
abbrev HOST_BAR_ERR_INFO_BAR : Fld := ⟨.HOST_BAR_ERR_INFO, 8, 2⟩
abbrev HOST_BAR_ERR_INFO_WRITE : Fld := ⟨.HOST_BAR_ERR_INFO, 10, 1⟩
abbrev HOST_BAR_ERR_INFO_VALID : Fld := ⟨.HOST_BAR_ERR_INFO, 31, 1⟩
abbrev HOST_BAR_ERR_ADDR_LO_ADDR : Fld := ⟨.HOST_BAR_ERR_ADDR_LO, 0, 32⟩
abbrev HOST_BAR_ERR_ADDR_HI_ADDR : Fld := ⟨.HOST_BAR_ERR_ADDR_HI, 0, 16⟩
abbrev HOST_DMA_CTRL_EN : Fld := ⟨.HOST_DMA_CTRL, 0, 1⟩
abbrev HOST_LINK_CNT_DOWNS : Fld := ⟨.HOST_LINK_CNT, 0, 16⟩
abbrev HOST_LINK_CNT_RECOVERIES : Fld := ⟨.HOST_LINK_CNT, 16, 16⟩
abbrev HOST_WIN_ERR_ANSWERED : Fld := ⟨.HOST_WIN_ERR, 0, 16⟩
abbrev HOST_WIN_ERR_DROPPED : Fld := ⟨.HOST_WIN_ERR, 16, 16⟩
abbrev HOST_XLAT_INDEX_ENTRY : Fld := ⟨.HOST_XLAT_INDEX, 0, 12⟩
abbrev HOST_XLAT_INDEX_AUTOINC : Fld := ⟨.HOST_XLAT_INDEX, 12, 1⟩
abbrev HOST_XLAT_DATA_LO_VALID : Fld := ⟨.HOST_XLAT_DATA_LO, 0, 1⟩
abbrev HOST_XLAT_DATA_LO_RD_EN : Fld := ⟨.HOST_XLAT_DATA_LO, 1, 1⟩
abbrev HOST_XLAT_DATA_LO_WR_EN : Fld := ⟨.HOST_XLAT_DATA_LO, 2, 1⟩
abbrev HOST_XLAT_DATA_LO_HOST : Fld := ⟨.HOST_XLAT_DATA_LO, 26, 6⟩
abbrev HOST_XLAT_DATA_HI_HOST : Fld := ⟨.HOST_XLAT_DATA_HI, 0, 32⟩
abbrev HOST_CH_CTRL_RUN : Fld := ⟨.HOST_CH_CTRL, 0, 1⟩
abbrev HOST_CH_CTRL_HALT_ON_ERR : Fld := ⟨.HOST_CH_CTRL, 1, 1⟩
abbrev HOST_CH_CTRL_STOP_TIMEOUT : Fld := ⟨.HOST_CH_CTRL, 16, 16⟩
abbrev HOST_CH_STATUS_STATE : Fld := ⟨.HOST_CH_STATUS, 0, 2⟩
abbrev HOST_CH_STATUS_DESC_FAULT : Fld := ⟨.HOST_CH_STATUS, 3, 1⟩
abbrev HOST_CH_STATUS_XFER_ERR : Fld := ⟨.HOST_CH_STATUS, 4, 1⟩
abbrev HOST_CH_STATUS_CFG_REFUSED : Fld := ⟨.HOST_CH_STATUS, 5, 1⟩
abbrev HOST_CH_STATUS_HALTED : Fld := ⟨.HOST_CH_STATUS, 6, 1⟩
abbrev HOST_CH_STATUS_RWQ_REFUSED : Fld := ⟨.HOST_CH_STATUS, 8, 1⟩
abbrev HOST_CH_STATUS_DEP_REFUSED : Fld := ⟨.HOST_CH_STATUS, 9, 1⟩
abbrev HOST_CH_STATUS_ABORT_COUNT : Fld := ⟨.HOST_CH_STATUS, 16, 16⟩
abbrev HOST_CH_RING_LO_ADDR : Fld := ⟨.HOST_CH_RING_LO, 0, 32⟩
abbrev HOST_CH_RING_HI_ADDR : Fld := ⟨.HOST_CH_RING_HI, 0, 32⟩
abbrev HOST_CH_RING_SIZE_LOG2 : Fld := ⟨.HOST_CH_RING_SIZE, 0, 5⟩
abbrev HOST_CH_HEAD_INDEX : Fld := ⟨.HOST_CH_HEAD, 0, 16⟩
abbrev HOST_CH_TAIL_INDEX : Fld := ⟨.HOST_CH_TAIL, 0, 16⟩
abbrev HOST_CH_IRQ_VECTOR : Fld := ⟨.HOST_CH_IRQ, 0, 6⟩
abbrev HOST_CH_IRQ_RO : Fld := ⟨.HOST_CH_IRQ, 6, 1⟩
abbrev HOST_CH_IRQ_HOLDOFF : Fld := ⟨.HOST_CH_IRQ, 16, 16⟩
abbrev HOST_CH_BYTES_LO_COUNT : Fld := ⟨.HOST_CH_BYTES_LO, 0, 32⟩
abbrev HOST_CH_BYTES_HI_COUNT : Fld := ⟨.HOST_CH_BYTES_HI, 0, 32⟩
abbrev HOST_CH_ERR_FAILED : Fld := ⟨.HOST_CH_ERR, 0, 16⟩
abbrev HOST_CH_ERR_LATE : Fld := ⟨.HOST_CH_ERR, 16, 16⟩
abbrev SEQ_BOOT_STATUS_LOADED : Fld := ⟨.SEQ_BOOT_STATUS, 0, 1⟩
abbrev SEQ_BOOT_STATUS_CAUSE : Fld := ⟨.SEQ_BOOT_STATUS, 1, 3⟩
abbrev SEQ_BOOT_STATUS_FAILED : Fld := ⟨.SEQ_BOOT_STATUS, 7, 1⟩
abbrev SEQ_DOORBELL_RING : Fld := ⟨.SEQ_DOORBELL, 0, 4⟩
abbrev SEQ_MEM_ECC_CORRECTED : Fld := ⟨.SEQ_MEM_ECC, 0, 16⟩
abbrev SEQ_MEM_ECC_UNCORR : Fld := ⟨.SEQ_MEM_ECC, 16, 16⟩
abbrev SEQ_CORE_CTRL_RUN : Fld := ⟨.SEQ_CORE_CTRL, 0, 1⟩
abbrev SEQ_CORE_CTRL_STOP_TIMEOUT : Fld := ⟨.SEQ_CORE_CTRL, 16, 16⟩
abbrev SEQ_CORE_STATUS_STATE : Fld := ⟨.SEQ_CORE_STATUS, 0, 2⟩
abbrev SEQ_CORE_STATUS_IN_ROM : Fld := ⟨.SEQ_CORE_STATUS, 2, 1⟩
abbrev SEQ_CORE_STATUS_RWQ_REFUSED : Fld := ⟨.SEQ_CORE_STATUS, 8, 1⟩
abbrev SEQ_CORE_STATUS_DEP_REFUSED : Fld := ⟨.SEQ_CORE_STATUS, 9, 1⟩
abbrev SEQ_CORE_STATUS_ABORT_COUNT : Fld := ⟨.SEQ_CORE_STATUS, 16, 16⟩
abbrev SEQ_CORE_PC_PC : Fld := ⟨.SEQ_CORE_PC, 0, 32⟩
abbrev SEQ_FAR_BASE_LO_BASE : Fld := ⟨.SEQ_FAR_BASE_LO, 0, 32⟩
abbrev SEQ_FAR_BASE_HI_BASE : Fld := ⟨.SEQ_FAR_BASE_HI, 0, 16⟩
abbrev SEQ_FAR_CTRL_POSTED : Fld := ⟨.SEQ_FAR_CTRL, 0, 1⟩
abbrev SEQ_FAULT_ERR : Fld := ⟨.SEQ_FAULT, 0, 8⟩
abbrev SEQ_FAULT_VALID : Fld := ⟨.SEQ_FAULT, 31, 1⟩
abbrev SEQ_FAULT_ADDR_LO_ADDR : Fld := ⟨.SEQ_FAULT_ADDR_LO, 0, 32⟩
abbrev SEQ_FAULT_ADDR_HI_ADDR : Fld := ⟨.SEQ_FAULT_ADDR_HI, 0, 16⟩
abbrev SEQ_EVT_FIRE : Fld := ⟨.SEQ_EVT, 0, 1⟩
abbrev SEQ_IC_EN_LO_BITS : Fld := ⟨.SEQ_IC_EN_LO, 0, 32⟩
abbrev SEQ_IC_EN_HI_BITS : Fld := ⟨.SEQ_IC_EN_HI, 0, 8⟩
abbrev SEQ_IC_PEND_LO_BITS : Fld := ⟨.SEQ_IC_PEND_LO, 0, 32⟩
abbrev SEQ_IC_PEND_HI_BITS : Fld := ⟨.SEQ_IC_PEND_HI, 0, 8⟩
abbrev SEQ_IC_PRIO_PRIO_0 : Fld := ⟨.SEQ_IC_PRIO, 0, 3⟩
abbrev SEQ_IC_PRIO_PRIO_1 : Fld := ⟨.SEQ_IC_PRIO, 4, 3⟩
abbrev SEQ_IC_PRIO_PRIO_2 : Fld := ⟨.SEQ_IC_PRIO, 8, 3⟩
abbrev SEQ_IC_PRIO_PRIO_3 : Fld := ⟨.SEQ_IC_PRIO, 12, 3⟩
abbrev SEQ_IC_PRIO_PRIO_4 : Fld := ⟨.SEQ_IC_PRIO, 16, 3⟩
abbrev SEQ_IC_PRIO_PRIO_5 : Fld := ⟨.SEQ_IC_PRIO, 20, 3⟩
abbrev SEQ_IC_PRIO_PRIO_6 : Fld := ⟨.SEQ_IC_PRIO, 24, 3⟩
abbrev SEQ_IC_PRIO_PRIO_7 : Fld := ⟨.SEQ_IC_PRIO, 28, 3⟩
abbrev SEQ_IC_THRESH_THRESH : Fld := ⟨.SEQ_IC_THRESH, 0, 3⟩
abbrev SEQ_IC_CLAIM_INPUT : Fld := ⟨.SEQ_IC_CLAIM, 0, 6⟩
abbrev SEQ_MTIMECMP_LO_TIME : Fld := ⟨.SEQ_MTIMECMP_LO, 0, 32⟩
abbrev SEQ_MTIMECMP_HI_TIME : Fld := ⟨.SEQ_MTIMECMP_HI, 0, 32⟩
abbrev SEQ_GUARD_STATUS_LOCKED : Fld := ⟨.SEQ_GUARD_STATUS, 0, 1⟩
abbrev SEQ_GUARD_STATUS_BREACH : Fld := ⟨.SEQ_GUARD_STATUS, 1, 1⟩
abbrev SEQ_GUARD_STATUS_THROTTLED : Fld := ⟨.SEQ_GUARD_STATUS, 2, 1⟩
abbrev SEQ_GUARD_STATUS_CEIL_REFUSED : Fld := ⟨.SEQ_GUARD_STATUS, 3, 1⟩
abbrev SEQ_GUARD_STATUS_LEVEL : Fld := ⟨.SEQ_GUARD_STATUS, 4, 4⟩
abbrev SEQ_GUARD_STATUS_BREACHES : Fld := ⟨.SEQ_GUARD_STATUS, 16, 16⟩
abbrev SEQ_GUARD_POLICY_POLICY : Fld := ⟨.SEQ_GUARD_POLICY, 0, 2⟩
abbrev SEQ_GUARD_POLICY_HOST_LOCK : Fld := ⟨.SEQ_GUARD_POLICY, 2, 1⟩
abbrev SEQ_GUARD_BREACH_OFFSET : Fld := ⟨.SEQ_GUARD_BREACH, 0, 28⟩
abbrev SEQ_GUARD_BREACH_VALID : Fld := ⟨.SEQ_GUARD_BREACH, 31, 1⟩
abbrev SEQ_POWER_CEIL_CEIL_IMG : Fld := ⟨.SEQ_POWER_CEIL, 0, 10⟩
abbrev SEQ_POWER_CEIL_CEIL_FW : Fld := ⟨.SEQ_POWER_CEIL, 16, 10⟩
abbrev SEQ_POWER_NOW_WATTS : Fld := ⟨.SEQ_POWER_NOW, 0, 10⟩
abbrev SEQ_GUARD_PINS_PROTECT : Fld := ⟨.SEQ_GUARD_PINS, 0, 32⟩
abbrev WDOG_CTRL_EN : Fld := ⟨.WDOG_CTRL, 0, 1⟩
abbrev WDOG_CTRL_ACTION : Fld := ⟨.WDOG_CTRL, 1, 1⟩
abbrev WDOG_CTRL_DBG_PAUSE : Fld := ⟨.WDOG_CTRL, 2, 1⟩
abbrev WDOG_LOAD_US : Fld := ⟨.WDOG_LOAD, 0, 24⟩
abbrev WDOG_WARN_US : Fld := ⟨.WDOG_WARN, 0, 24⟩
abbrev WDOG_GRACE_US : Fld := ⟨.WDOG_GRACE, 0, 24⟩
abbrev WDOG_KICK_KEY : Fld := ⟨.WDOG_KICK, 0, 16⟩
abbrev WDOG_COUNT_US : Fld := ⟨.WDOG_COUNT, 0, 24⟩
abbrev WDOG_COUNT_PAUSED : Fld := ⟨.WDOG_COUNT, 24, 1⟩
abbrev WDOG_STATUS_EXPIRED : Fld := ⟨.WDOG_STATUS, 0, 1⟩
abbrev WDOG_STATUS_BAD_KICK : Fld := ⟨.WDOG_STATUS, 1, 1⟩
abbrev WDOG_STATUS_EXPIRIES : Fld := ⟨.WDOG_STATUS, 16, 16⟩
abbrev PIN_STATUS_CONFLICT : Fld := ⟨.PIN_STATUS, 0, 1⟩
abbrev PIN_STATUS_PROTECT_REFUSED : Fld := ⟨.PIN_STATUS, 1, 1⟩
abbrev PIN_STATUS_ENC_REFUSED : Fld := ⟨.PIN_STATUS, 2, 1⟩
abbrev PIN_STATUS_OVERRUN : Fld := ⟨.PIN_STATUS, 3, 1⟩
abbrev PIN_STATUS_LOST : Fld := ⟨.PIN_STATUS, 4, 1⟩
abbrev PIN_CONFLICT_PIN_A : Fld := ⟨.PIN_CONFLICT, 0, 8⟩
abbrev PIN_CONFLICT_PIN_B : Fld := ⟨.PIN_CONFLICT, 8, 8⟩
abbrev PIN_CONFLICT_SIGNAL : Fld := ⟨.PIN_CONFLICT, 16, 8⟩
abbrev PIN_CONFLICT_VALID : Fld := ⟨.PIN_CONFLICT, 31, 1⟩
abbrev PIN_EXTL_STATUS_LINE : Fld := ⟨.PIN_EXTL_STATUS, 0, 16⟩
abbrev PIN_BANK_STATUS_LEVEL : Fld := ⟨.PIN_BANK_STATUS, 0, 3⟩
abbrev PIN_EXTL_CFG_PORT : Fld := ⟨.PIN_EXTL_CFG, 0, 4⟩
abbrev PIN_EXTL_CFG_MODE : Fld := ⟨.PIN_EXTL_CFG, 4, 3⟩
abbrev PIN_EXTL_CFG_EN : Fld := ⟨.PIN_EXTL_CFG, 7, 1⟩
abbrev PIN_EXTL_CFG_FILT : Fld := ⟨.PIN_EXTL_CFG, 8, 4⟩
abbrev PIN_GPIO_OUT_BITS : Fld := ⟨.PIN_GPIO_OUT, 0, 16⟩
abbrev PIN_GPIO_OE_BITS : Fld := ⟨.PIN_GPIO_OE, 0, 16⟩
abbrev PIN_GPIO_IN_BITS : Fld := ⟨.PIN_GPIO_IN, 0, 16⟩
abbrev PIN_GPIO_SET_BITS : Fld := ⟨.PIN_GPIO_SET, 0, 16⟩
abbrev PIN_GPIO_CLR_BITS : Fld := ⟨.PIN_GPIO_CLR, 0, 16⟩
abbrev PIN_PAD_FUNC : Fld := ⟨.PIN_PAD, 0, 3⟩
abbrev PIN_PAD_DRIVE : Fld := ⟨.PIN_PAD, 3, 3⟩
abbrev PIN_PAD_SLEW : Fld := ⟨.PIN_PAD, 6, 2⟩
abbrev PIN_PAD_PULL : Fld := ⟨.PIN_PAD, 8, 2⟩
abbrev PIN_PAD_PULL_STRONG : Fld := ⟨.PIN_PAD, 10, 1⟩
abbrev PIN_PAD_SCHMITT : Fld := ⟨.PIN_PAD, 11, 1⟩
abbrev PIN_PAD_OSM : Fld := ⟨.PIN_PAD, 12, 4⟩
abbrev PIN_PAD_OD : Fld := ⟨.PIN_PAD, 16, 1⟩
abbrev PIN_STN_STAT_OVERRUN : Fld := ⟨.PIN_STN_STAT, 0, 16⟩
abbrev PIN_STN_STAT_LOST : Fld := ⟨.PIN_STN_STAT, 16, 16⟩
abbrev I2C_CTRL_EN : Fld := ⟨.I2C_CTRL, 0, 1⟩
abbrev I2C_CTRL_TARGET : Fld := ⟨.I2C_CTRL, 1, 1⟩
abbrev I2C_CTRL_SPEED : Fld := ⟨.I2C_CTRL, 2, 2⟩
abbrev I2C_CTRL_STRETCH : Fld := ⟨.I2C_CTRL, 4, 1⟩
abbrev I2C_CTRL_OWN_ADDR : Fld := ⟨.I2C_CTRL, 8, 7⟩
abbrev I2C_CTRL_STRETCH_MS : Fld := ⟨.I2C_CTRL, 16, 16⟩
abbrev I2C_CMD_ADDR : Fld := ⟨.I2C_CMD, 0, 7⟩
abbrev I2C_CMD_READ : Fld := ⟨.I2C_CMD, 7, 1⟩
abbrev I2C_CMD_COUNT : Fld := ⟨.I2C_CMD, 8, 8⟩
abbrev I2C_CMD_STOP : Fld := ⟨.I2C_CMD, 16, 1⟩
abbrev I2C_CMD_GO : Fld := ⟨.I2C_CMD, 31, 1⟩
abbrev I2C_TXDATA_BYTE : Fld := ⟨.I2C_TXDATA, 0, 8⟩
abbrev I2C_RXDATA_BYTE : Fld := ⟨.I2C_RXDATA, 0, 8⟩
abbrev I2C_RXDATA_VALID : Fld := ⟨.I2C_RXDATA, 31, 1⟩
abbrev I2C_STATUS_BUSY : Fld := ⟨.I2C_STATUS, 0, 1⟩
abbrev I2C_STATUS_DONE : Fld := ⟨.I2C_STATUS, 1, 1⟩
abbrev I2C_STATUS_NACK : Fld := ⟨.I2C_STATUS, 2, 1⟩
abbrev I2C_STATUS_ARB_LOST : Fld := ⟨.I2C_STATUS, 3, 1⟩
abbrev I2C_STATUS_TIMEOUT : Fld := ⟨.I2C_STATUS, 4, 1⟩
abbrev I2C_STATUS_ADDRESSED : Fld := ⟨.I2C_STATUS, 5, 1⟩
abbrev I2C_STATUS_OVERFLOW : Fld := ⟨.I2C_STATUS, 6, 1⟩
abbrev I2C_STATUS_CMD_REFUSED : Fld := ⟨.I2C_STATUS, 7, 1⟩
abbrev I2C_STATUS_TX_LEVEL : Fld := ⟨.I2C_STATUS, 8, 5⟩
abbrev I2C_STATUS_RX_LEVEL : Fld := ⟨.I2C_STATUS, 16, 5⟩
abbrev SPI_CTRL_EN : Fld := ⟨.SPI_CTRL, 0, 1⟩
abbrev SPI_CTRL_MODE : Fld := ⟨.SPI_CTRL, 1, 2⟩
abbrev SPI_CTRL_LSB_FIRST : Fld := ⟨.SPI_CTRL, 3, 1⟩
abbrev SPI_CTRL_BITS : Fld := ⟨.SPI_CTRL, 4, 5⟩
abbrev SPI_CTRL_CS_HOLD : Fld := ⟨.SPI_CTRL, 9, 1⟩
abbrev SPI_CTRL_DIV : Fld := ⟨.SPI_CTRL, 16, 16⟩
abbrev SPI_TXDATA_FRAME : Fld := ⟨.SPI_TXDATA, 0, 32⟩
abbrev SPI_RXDATA_FRAME : Fld := ⟨.SPI_RXDATA, 0, 32⟩
abbrev SPI_STATUS_BUSY : Fld := ⟨.SPI_STATUS, 0, 1⟩
abbrev SPI_STATUS_DONE : Fld := ⟨.SPI_STATUS, 1, 1⟩
abbrev SPI_STATUS_RX_OVERFLOW : Fld := ⟨.SPI_STATUS, 2, 1⟩
abbrev SPI_STATUS_TX_OVERFLOW : Fld := ⟨.SPI_STATUS, 3, 1⟩
abbrev SPI_STATUS_CMD_REFUSED : Fld := ⟨.SPI_STATUS, 7, 1⟩
abbrev SPI_STATUS_TX_LEVEL : Fld := ⟨.SPI_STATUS, 8, 4⟩
abbrev SPI_STATUS_RX_LEVEL : Fld := ⟨.SPI_STATUS, 16, 4⟩
abbrev UART_CTRL_EN : Fld := ⟨.UART_CTRL, 0, 1⟩
abbrev UART_CTRL_FLOW : Fld := ⟨.UART_CTRL, 1, 1⟩
abbrev UART_CTRL_DATA : Fld := ⟨.UART_CTRL, 2, 2⟩
abbrev UART_CTRL_PARITY : Fld := ⟨.UART_CTRL, 4, 2⟩
abbrev UART_CTRL_STOP2 : Fld := ⟨.UART_CTRL, 6, 1⟩
abbrev UART_BAUD_FRAC : Fld := ⟨.UART_BAUD, 0, 4⟩
abbrev UART_BAUD_INT : Fld := ⟨.UART_BAUD, 4, 16⟩
abbrev UART_TXDATA_BYTE : Fld := ⟨.UART_TXDATA, 0, 8⟩
abbrev UART_RXDATA_BYTE : Fld := ⟨.UART_RXDATA, 0, 8⟩
abbrev UART_RXDATA_PARITY_ERR : Fld := ⟨.UART_RXDATA, 8, 1⟩
abbrev UART_RXDATA_FRAME_ERR : Fld := ⟨.UART_RXDATA, 9, 1⟩
abbrev UART_RXDATA_BREAK : Fld := ⟨.UART_RXDATA, 10, 1⟩
abbrev UART_RXDATA_VALID : Fld := ⟨.UART_RXDATA, 31, 1⟩
abbrev UART_STATUS_TX_BUSY : Fld := ⟨.UART_STATUS, 0, 1⟩
abbrev UART_STATUS_TX_DONE : Fld := ⟨.UART_STATUS, 1, 1⟩
abbrev UART_STATUS_RX_OVERFLOW : Fld := ⟨.UART_STATUS, 2, 1⟩
abbrev UART_STATUS_PARITY : Fld := ⟨.UART_STATUS, 3, 1⟩
abbrev UART_STATUS_FRAME : Fld := ⟨.UART_STATUS, 4, 1⟩
abbrev UART_STATUS_BREAK : Fld := ⟨.UART_STATUS, 5, 1⟩
abbrev UART_STATUS_TX_OVERFLOW : Fld := ⟨.UART_STATUS, 6, 1⟩
abbrev UART_STATUS_CMD_REFUSED : Fld := ⟨.UART_STATUS, 7, 1⟩
abbrev UART_STATUS_TX_LEVEL : Fld := ⟨.UART_STATUS, 8, 6⟩
abbrev UART_STATUS_RX_LEVEL : Fld := ⟨.UART_STATUS, 16, 6⟩
abbrev PMB_CTRL_EN : Fld := ⟨.PMB_CTRL, 0, 1⟩
abbrev PMB_CTRL_SPEED : Fld := ⟨.PMB_CTRL, 1, 2⟩
abbrev PMB_CTRL_PEC : Fld := ⟨.PMB_CTRL, 3, 1⟩
abbrev PMB_CTRL_CONTROL : Fld := ⟨.PMB_CTRL, 4, 1⟩
abbrev PMB_CMD_ADDR : Fld := ⟨.PMB_CMD, 0, 7⟩
abbrev PMB_CMD_CODE : Fld := ⟨.PMB_CMD, 8, 8⟩
abbrev PMB_CMD_PROTOCOL : Fld := ⟨.PMB_CMD, 16, 3⟩
abbrev PMB_CMD_COUNT : Fld := ⟨.PMB_CMD, 20, 6⟩
abbrev PMB_CMD_GO : Fld := ⟨.PMB_CMD, 31, 1⟩
abbrev PMB_TXDATA_BYTE : Fld := ⟨.PMB_TXDATA, 0, 8⟩
abbrev PMB_RXDATA_BYTE : Fld := ⟨.PMB_RXDATA, 0, 8⟩
abbrev PMB_RXDATA_VALID : Fld := ⟨.PMB_RXDATA, 31, 1⟩
abbrev PMB_STATUS_BUSY : Fld := ⟨.PMB_STATUS, 0, 1⟩
abbrev PMB_STATUS_DONE : Fld := ⟨.PMB_STATUS, 1, 1⟩
abbrev PMB_STATUS_NACK : Fld := ⟨.PMB_STATUS, 2, 1⟩
abbrev PMB_STATUS_PEC_ERR : Fld := ⟨.PMB_STATUS, 3, 1⟩
abbrev PMB_STATUS_BUS_LOW : Fld := ⟨.PMB_STATUS, 4, 1⟩
abbrev PMB_STATUS_ALERT_SEEN : Fld := ⟨.PMB_STATUS, 5, 1⟩
abbrev PMB_STATUS_PROTO_ERR : Fld := ⟨.PMB_STATUS, 6, 1⟩
abbrev PMB_STATUS_CMD_REFUSED : Fld := ⟨.PMB_STATUS, 7, 1⟩
abbrev PMB_STATUS_ALERT : Fld := ⟨.PMB_STATUS, 8, 1⟩
abbrev PMB_STATUS_LOOP_WAIT : Fld := ⟨.PMB_STATUS, 9, 1⟩
abbrev PMB_STATUS_TX_LEVEL : Fld := ⟨.PMB_STATUS, 16, 6⟩
abbrev PMB_STATUS_RX_LEVEL : Fld := ⟨.PMB_STATUS, 24, 6⟩
abbrev PT_CTRL_OUT_EN : Fld := ⟨.PT_CTRL, 0, 1⟩
abbrev PT_CTRL_OUT_MODE : Fld := ⟨.PT_CTRL, 1, 2⟩
abbrev PT_CTRL_CAP_EN : Fld := ⟨.PT_CTRL, 3, 1⟩
abbrev PT_CTRL_CAP_EDGE : Fld := ⟨.PT_CTRL, 4, 2⟩
abbrev PT_CTRL_WIDTH : Fld := ⟨.PT_CTRL, 16, 16⟩
abbrev PT_CMP_LO_TIME : Fld := ⟨.PT_CMP_LO, 0, 32⟩
abbrev PT_CMP_HI_TIME : Fld := ⟨.PT_CMP_HI, 0, 32⟩
abbrev PT_PERIOD_TICKS : Fld := ⟨.PT_PERIOD, 0, 32⟩
abbrev PT_CAP_LO_TIME : Fld := ⟨.PT_CAP_LO, 0, 32⟩
abbrev PT_CAP_HI_TIME : Fld := ⟨.PT_CAP_HI, 0, 32⟩
abbrev PT_STATUS_FIRED : Fld := ⟨.PT_STATUS, 0, 1⟩
abbrev PT_STATUS_CAPTURED : Fld := ⟨.PT_STATUS, 1, 1⟩
abbrev PT_STATUS_CAP_OVERRUN : Fld := ⟨.PT_STATUS, 2, 1⟩
abbrev PT_STATUS_CMD_REFUSED : Fld := ⟨.PT_STATUS, 3, 1⟩
abbrev PWR_STATE_CTRL_TARGET : Fld := ⟨.PWR_STATE_CTRL, 0, 2⟩
abbrev PWR_STATE_CTRL_GO : Fld := ⟨.PWR_STATE_CTRL, 31, 1⟩
abbrev PWR_STATE_STATUS_STATE : Fld := ⟨.PWR_STATE_STATUS, 0, 2⟩
abbrev PWR_STATE_STATUS_BUSY : Fld := ⟨.PWR_STATE_STATUS, 2, 1⟩
abbrev PWR_STATE_STATUS_REFUSED : Fld := ⟨.PWR_STATE_STATUS, 3, 1⟩
abbrev PWR_STATE_STATUS_CAUSE : Fld := ⟨.PWR_STATE_STATUS, 4, 4⟩
abbrev PWR_STATE_STATUS_CHANGES : Fld := ⟨.PWR_STATE_STATUS, 16, 16⟩
abbrev PWR_REGION_CTRL_FPD : Fld := ⟨.PWR_REGION_CTRL, 0, 8⟩
abbrev PWR_REGION_CTRL_HBM : Fld := ⟨.PWR_REGION_CTRL, 8, 1⟩
abbrev PWR_REGION_CTRL_STORE : Fld := ⟨.PWR_REGION_CTRL, 9, 1⟩
abbrev PWR_REGION_CTRL_SEQ : Fld := ⟨.PWR_REGION_CTRL, 10, 1⟩
abbrev PWR_QUAD_CTRL_ON : Fld := ⟨.PWR_QUAD_CTRL, 0, 32⟩
abbrev PWR_REGION_STATUS_ON : Fld := ⟨.PWR_REGION_STATUS, 0, 11⟩
abbrev PWR_REGION_STATUS_SELF_REFRESH : Fld := ⟨.PWR_REGION_STATUS, 16, 1⟩
abbrev PWR_QUAD_STATUS_ON : Fld := ⟨.PWR_QUAD_STATUS, 0, 32⟩
abbrev PWR_STATUS_FAB_RANGE : Fld := ⟨.PWR_STATUS, 0, 1⟩
abbrev PWR_STATUS_BROWNOUT : Fld := ⟨.PWR_STATUS, 1, 1⟩
abbrev PWR_STATUS_SUPPLY_FAULT : Fld := ⟨.PWR_STATUS, 2, 1⟩
abbrev PWR_STATUS_TEMP_WARN : Fld := ⟨.PWR_STATUS, 3, 1⟩
abbrev PWR_STATUS_DRAIN_LIMIT : Fld := ⟨.PWR_STATUS, 4, 1⟩
abbrev PWR_STATUS_RESTORE_LOST : Fld := ⟨.PWR_STATUS, 5, 1⟩
abbrev PWR_STATUS_RESTORED : Fld := ⟨.PWR_STATUS, 6, 1⟩
abbrev PWR_STATUS_CHANGE_DONE : Fld := ⟨.PWR_STATUS, 7, 1⟩
abbrev PWR_STATUS_FAULT_SUPPLY : Fld := ⟨.PWR_STATUS, 8, 4⟩
abbrev PWR_SUPPLY_FAB_MV : Fld := ⟨.PWR_SUPPLY, 0, 12⟩
abbrev PWR_SUPPLY_SYS_MV : Fld := ⟨.PWR_SUPPLY, 16, 12⟩
abbrev PWR_TEMP_NOW : Fld := ⟨.PWR_TEMP, 0, 8⟩
abbrev PWR_TEMP_MAX : Fld := ⟨.PWR_TEMP, 8, 8⟩
abbrev PWR_TEMP_SENSOR : Fld := ⟨.PWR_TEMP, 16, 4⟩
abbrev PWR_TEMP_CFG_WARN : Fld := ⟨.PWR_TEMP_CFG, 0, 8⟩
abbrev PWR_WAKE_EN_EXTL : Fld := ⟨.PWR_WAKE_EN, 0, 16⟩
abbrev PWR_WAKE_EN_PERST : Fld := ⟨.PWR_WAKE_EN, 16, 1⟩
abbrev PWR_WAKE_EN_WAKE_N : Fld := ⟨.PWR_WAKE_EN, 17, 1⟩
abbrev PWR_WAKE_EN_THERMAL : Fld := ⟨.PWR_WAKE_EN, 18, 1⟩
abbrev PWR_WAKE_CAUSE_EXTL : Fld := ⟨.PWR_WAKE_CAUSE, 0, 16⟩
abbrev PWR_WAKE_CAUSE_PERST : Fld := ⟨.PWR_WAKE_CAUSE, 16, 1⟩
abbrev PWR_WAKE_CAUSE_WAKE_N : Fld := ⟨.PWR_WAKE_CAUSE, 17, 1⟩
abbrev PWR_WAKE_CAUSE_THERMAL : Fld := ⟨.PWR_WAKE_CAUSE, 18, 1⟩
abbrev DBG_AUTH_STATE : Fld := ⟨.DBG_AUTH, 0, 1⟩
abbrev DBG_AUTH_ERASE_PENDING : Fld := ⟨.DBG_AUTH, 1, 1⟩
abbrev DBG_AUTH_KEY : Fld := ⟨.DBG_AUTH, 16, 16⟩
abbrev DBG_CTRL_HOLD_CFG : Fld := ⟨.DBG_CTRL, 0, 1⟩
abbrev DBG_CTRL_DBG_RESET : Fld := ⟨.DBG_CTRL, 1, 1⟩
abbrev DBG_CTRL_SYS_RESET : Fld := ⟨.DBG_CTRL, 16, 16⟩
abbrev DBG_STATUS_HALTED : Fld := ⟨.DBG_STATUS, 0, 1⟩
abbrev DBG_STATUS_XT_FIRED : Fld := ⟨.DBG_STATUS, 1, 1⟩
abbrev DBG_STATUS_TRACE_OVF : Fld := ⟨.DBG_STATUS, 2, 1⟩
abbrev DBG_STATUS_REFUSED : Fld := ⟨.DBG_STATUS, 3, 1⟩
abbrev DBG_STATUS_UNLOCKED : Fld := ⟨.DBG_STATUS, 4, 1⟩
abbrev DBG_STATUS_CORES_HALTED : Fld := ⟨.DBG_STATUS, 8, 4⟩
abbrev DBG_CORE_RC_HALT : Fld := ⟨.DBG_CORE_RC, 0, 1⟩
abbrev DBG_CORE_RC_RESUME : Fld := ⟨.DBG_CORE_RC, 1, 1⟩
abbrev DBG_CORE_RC_STEP : Fld := ⟨.DBG_CORE_RC, 2, 1⟩
abbrev DBG_CORE_RC_STEP_MASK : Fld := ⟨.DBG_CORE_RC, 3, 1⟩
abbrev DBG_CORE_RC_HALT_ON_RESET : Fld := ⟨.DBG_CORE_RC, 4, 1⟩
abbrev DBG_CORE_RC_EBREAK_HALT : Fld := ⟨.DBG_CORE_RC, 5, 1⟩
abbrev DBG_CORE_RC_HALTED : Fld := ⟨.DBG_CORE_RC, 8, 1⟩
abbrev DBG_CORE_RC_CAUSE : Fld := ⟨.DBG_CORE_RC, 9, 3⟩
abbrev DBG_CORE_REG_SEL_SEL : Fld := ⟨.DBG_CORE_REG_SEL, 0, 13⟩
abbrev DBG_CORE_REG_DATA_DATA : Fld := ⟨.DBG_CORE_REG_DATA, 0, 32⟩
abbrev DBG_CORE_MEM_ADDR_ADDR : Fld := ⟨.DBG_CORE_MEM_ADDR, 0, 32⟩
abbrev DBG_CORE_MEM_DATA_DATA : Fld := ⟨.DBG_CORE_MEM_DATA, 0, 32⟩
abbrev DBG_CMP_CTRL_EN : Fld := ⟨.DBG_CMP_CTRL, 0, 1⟩
abbrev DBG_CMP_CTRL_TYPE : Fld := ⟨.DBG_CMP_CTRL, 1, 3⟩
abbrev DBG_CMP_CTRL_ACTION : Fld := ⟨.DBG_CMP_CTRL, 4, 3⟩
abbrev DBG_CMP_CTRL_LINK : Fld := ⟨.DBG_CMP_CTRL, 7, 2⟩
abbrev DBG_CMP_CTRL_ARMED : Fld := ⟨.DBG_CMP_CTRL, 9, 1⟩
abbrev DBG_CMP_CTRL_HIT : Fld := ⟨.DBG_CMP_CTRL, 10, 1⟩
abbrev DBG_CMP_CTRL_HITS : Fld := ⟨.DBG_CMP_CTRL, 16, 16⟩
abbrev DBG_CMP_A_VALUE : Fld := ⟨.DBG_CMP_A, 0, 32⟩
abbrev DBG_CMP_B_VALUE : Fld := ⟨.DBG_CMP_B, 0, 32⟩
abbrev DBG_XT_CTRL_IN : Fld := ⟨.DBG_XT_CTRL, 0, 8⟩
abbrev DBG_XT_CTRL_OUT : Fld := ⟨.DBG_XT_CTRL, 8, 4⟩
abbrev DBG_XT_CTRL_FIRED : Fld := ⟨.DBG_XT_CTRL, 12, 1⟩
abbrev DBG_XT_FIRE_CH : Fld := ⟨.DBG_XT_FIRE, 0, 2⟩
abbrev DBG_XT_CLEAR_CH : Fld := ⟨.DBG_XT_CLEAR, 0, 2⟩
abbrev DBG_XT_CLEAR_STAT : Fld := ⟨.DBG_XT_CLEAR, 2, 1⟩
abbrev DBG_XT_STATUS_FREEZE_SKIPPED : Fld := ⟨.DBG_XT_STATUS, 0, 16⟩
abbrev DBG_MEM_ADDR_LO_ADDR : Fld := ⟨.DBG_MEM_ADDR_LO, 0, 32⟩
abbrev DBG_MEM_ADDR_HI_ADDR : Fld := ⟨.DBG_MEM_ADDR_HI, 0, 16⟩
abbrev DBG_MEM_DATA_DATA : Fld := ⟨.DBG_MEM_DATA, 0, 32⟩
abbrev DBG_MEM_CTRL_DBG_ATTR : Fld := ⟨.DBG_MEM_CTRL, 0, 1⟩
abbrev DBG_MEM_CTRL_AUTOINC : Fld := ⟨.DBG_MEM_CTRL, 1, 1⟩
abbrev DBG_MEM_CTRL_ERR : Fld := ⟨.DBG_MEM_CTRL, 2, 1⟩
abbrev DBG_MEM_CTRL_ERR_CODE : Fld := ⟨.DBG_MEM_CTRL, 8, 8⟩
abbrev DBG_TRACE_CTRL_EN : Fld := ⟨.DBG_TRACE_CTRL, 0, 1⟩
abbrev DBG_TRACE_STATUS_LEVEL : Fld := ⟨.DBG_TRACE_STATUS, 0, 15⟩
abbrev DBG_TRACE_STATUS_STIM_DROPS : Fld := ⟨.DBG_TRACE_STATUS, 16, 16⟩
abbrev DBG_STIM_EN_PORTS : Fld := ⟨.DBG_STIM_EN, 0, 32⟩
abbrev DBG_STIM_STALL_PORTS : Fld := ⟨.DBG_STIM_STALL, 0, 32⟩
abbrev DBG_STIM_DATA : Fld := ⟨.DBG_STIM, 0, 32⟩
abbrev LEDGER_STATUS_READY : Fld := ⟨.LEDGER_STATUS, 0, 1⟩
abbrev LEDGER_STATUS_COMMIT_FAULT : Fld := ⟨.LEDGER_STATUS, 1, 1⟩
abbrev LEDGER_STATUS_GAP : Fld := ⟨.LEDGER_STATUS, 2, 1⟩
abbrev LEDGER_STATUS_TORN : Fld := ⟨.LEDGER_STATUS, 3, 1⟩
abbrev LEDGER_STATUS_BUF_LEVEL : Fld := ⟨.LEDGER_STATUS, 16, 13⟩
abbrev LEDGER_HEAD_SEQ_SEQ : Fld := ⟨.LEDGER_HEAD_SEQ, 0, 32⟩
abbrev LEDGER_COMMIT_SEQ_SEQ : Fld := ⟨.LEDGER_COMMIT_SEQ, 0, 32⟩
abbrev LEDGER_OLDEST_SEQ_SEQ : Fld := ⟨.LEDGER_OLDEST_SEQ, 0, 32⟩
abbrev LEDGER_RD_SEQ_SEQ : Fld := ⟨.LEDGER_RD_SEQ, 0, 32⟩
abbrev LEDGER_RD_STATUS_VALID : Fld := ⟨.LEDGER_RD_STATUS, 0, 1⟩
abbrev LEDGER_RD_STATUS_COMMITTED : Fld := ⟨.LEDGER_RD_STATUS, 1, 1⟩
abbrev LEDGER_LOST_COUNT : Fld := ⟨.LEDGER_LOST, 0, 32⟩
abbrev LEDGER_BAD_PAGES_PAGES : Fld := ⟨.LEDGER_BAD_PAGES, 0, 13⟩
abbrev LEDGER_RD_DATA_WORD : Fld := ⟨.LEDGER_RD_DATA, 0, 32⟩

end F

end Sys2Proof.Machine
end

