-- ==== Sys2Proof/Syntax/RegSpec.lean ====
section
/-! DEFINITION. The shape of a register table of the spec: access types (R5), reset domains (R7), fields and repeats. -/

namespace Sys2Proof.Machine

/-- The access types of R5. -/
inductive Access where
  | rw | ro | wo | w1c | w1s | rc | rwq | rwl
  deriving DecidableEq, Repr

/-- The reset domains of R7. -/
inductive Domain where
  | POR | SYS | FAB | FUNC | SPAN | DBG | PERST
  deriving DecidableEq, Repr

/-- What the Reset column of a field gives (R7): a number, or a value that the variant, the node or the instance fixes. -/
inductive ResetVal where
  /-- a number printed in the table -/
  | num (n : Nat)
  /-- DEV.ID.DIE_ID, VARIANT and STEP (R1, R27) -/
  | dieId | variantCode | stepping
  /-- the field of DEV.CAPS at bit lo (R27) -/
  | caps (lo : Nat)
  /-- RECORD.PART_EN, low or high word (R286) -/
  | parts (high : Bool)
  /-- PWR.REGION_CTRL from bit lo, PWR.QUAD_CTRL from 32 (R401) -/
  | regions (lo : Nat)
  /-- CN.ID from bit lo; CN.PORT_EN reset to PORTS (R199) -/
  | nodeId (lo : Nat) | nodePorts
  /-- NI.ID from bit lo; the fence state of an NI at reset -/
  | niId (lo : Nat) | fenceAtReset
  /-- DEV.EVT_VECMAP: vector 4n + k -/
  | vec (k : Nat)
  /-- HOST.CH_IRQ.VECTOR: 32 + c -/
  | chVector
  /-- SEQ.CORE_PC: the reset program counter (R374) -/
  | resetPc
  /-- CFG.SRC_TIMEOUT: the boot header's value -/
  | bootHeader
  deriving DecidableEq, Repr

/-- How the instances of a register are placed. -/
inductive Geometry where
  /-- base plus a sum of strides -/
  | linear
  /-- in the page of a carry node (R238) -/
  | node
  /-- in the slot of an NI (R238) -/
  | slot
  /-- in the registers of a lane (R327) -/
  | lane
  deriving DecidableEq, Repr

/-- One field of a register table. -/
structure FieldSpec where
  lo : Nat
  width : Nat
  acc : Access
  journaled : Bool
  reset : ResetVal
  deriving DecidableEq, Repr

/-- One register table: its offset in CSR space (of instance 0; within the page or slot for .node, .slot and .lane), its
geometry, the repeats as (count, stride), its reset domain, its fields. Bits of no field are reserved (R4). -/
structure RegSpec where
  off : Nat
  geo : Geometry
  dims : List (Nat × Nat)
  domain : Domain
  fields : List FieldSpec
  deriving DecidableEq, Repr

end Sys2Proof.Machine
end

