-- ==== Sys2Proof/Machine/RegTable.lean ====
section
/-! DEFINITION. The register tables of the spec: for each register its place in CSR space, its reset domain and its
fields (place, access type, journaling, reset value), from the register tables of spec/02 to spec/19. -/

namespace Sys2Proof.Machine

open Sys2Proof.Machine.Geometry Sys2Proof.Machine.Access

/-- The registers of block DEV. -/
def devSpec : Reg → RegSpec
  | .DEV_ID => ⟨0x0, linear, [], .POR,
      [⟨16, 16, ro, false, .dieId⟩, ⟨12, 4, ro, false, .variantCode⟩, ⟨8, 4, ro, false, .stepping⟩]⟩
  | .DEV_CAPS => ⟨0x4, linear, [], .POR,
      [⟨0, 1, ro, false, .caps 0⟩, ⟨1, 1, ro, false, .caps 1⟩, ⟨2, 1, ro, false, .caps 2⟩,
       ⟨3, 1, ro, false, .caps 3⟩, ⟨8, 5, ro, false, .caps 8⟩, ⟨16, 6, ro, false, .caps 16⟩,
       ⟨24, 3, ro, false, .caps 24⟩, ⟨27, 5, ro, false, .caps 27⟩]⟩
  | .DEV_ABSENT_LOG => ⟨0xC, linear, [], .SYS, [⟨0, 28, ro, false, .num 0⟩]⟩
  | .DEV_ABSENT_ORIGIN => ⟨0x1C, linear, [], .SYS, [⟨0, 8, ro, false, .num 0⟩, ⟨16, 16, rc, false, .num 0⟩]⟩
  | .DEV_STATUS => ⟨0x8, linear, [], .SYS,
      [⟨0, 1, ro, false, .num 0⟩, ⟨1, 1, ro, false, .num 0⟩, ⟨2, 1, ro, false, .num 0⟩, ⟨3, 1, ro, false, .num 0⟩,
       ⟨4, 1, w1c, false, .num 0⟩, ⟨5, 1, w1c, false, .num 0⟩]⟩
  | .DEV_CTRL => ⟨0x10, linear, [], .POR, [⟨0, 1, rw, true, .num 0⟩, ⟨16, 16, wo, false, .num 0⟩]⟩
  | .DEV_RESET_CAUSE => ⟨0x14, linear, [], .POR,
      [⟨0, 1, w1c, false, .num 1⟩, ⟨1, 1, w1c, false, .num 0⟩, ⟨2, 1, w1c, false, .num 0⟩,
       ⟨3, 1, w1c, false, .num 0⟩, ⟨4, 1, w1c, false, .num 0⟩, ⟨5, 1, w1c, false, .num 0⟩,
       ⟨16, 16, ro, false, .num 0⟩]⟩
  | .DEV_FRESET => ⟨0x18, linear, [], .SYS,
      [⟨0, 5, rw, false, .num 0⟩, ⟨16, 11, rw, false, .num 0⟩, ⟨29, 1, ro, false, .num 0⟩,
       ⟨30, 1, ro, false, .num 0⟩, ⟨31, 1, wo, false, .num 0⟩]⟩
  | .DEV_EVT_PEND => ⟨0x40, linear, [], .SYS, [⟨0, 32, ro, false, .num 0⟩]⟩
  | .DEV_EVT_HOST_MASK => ⟨0x44, linear, [], .SYS, [⟨0, 32, rw, false, .num 0⟩]⟩
  | .DEV_EVT_FAB_MASK => ⟨0x48, linear, [], .SYS, [⟨0, 32, rw, false, .num 0⟩]⟩
  | .DEV_EVT_ACK => ⟨0x4C, linear, [], .SYS, [⟨0, 32, wo, false, .num 0⟩]⟩
  | .DEV_EVT_CORE_MASK => ⟨0x50, linear, [(4, 0x4)], .SYS, [⟨0, 32, rw, false, .num 0⟩]⟩
  | .DEV_EVT_VECMAP => ⟨0x60, linear, [(8, 0x4)], .SYS,
      [⟨0, 6, rw, false, .vec 0⟩, ⟨8, 6, rw, false, .vec 1⟩, ⟨16, 6, rw, false, .vec 2⟩,
       ⟨24, 6, rw, false, .vec 3⟩]⟩
  | .DEV_XS_CTRL => ⟨0x1000, linear, [], .SYS, [⟨0, 16, rw, true, .num 4⟩]⟩
  | .DEV_XS_STATUS => ⟨0x1004, linear, [], .SYS,
      [⟨0, 1, w1c, false, .num 0⟩, ⟨1, 1, w1c, false, .num 0⟩, ⟨2, 1, w1c, false, .num 0⟩,
       ⟨3, 1, w1c, false, .num 0⟩]⟩
  | .DEV_XS_LOG => ⟨0x1008, linear, [], .SYS,
      [⟨0, 8, ro, false, .num 0⟩, ⟨8, 2, ro, false, .num 0⟩, ⟨10, 1, ro, false, .num 0⟩,
       ⟨31, 1, w1c, false, .num 0⟩]⟩
  | .DEV_XS_LOG_TIME_LO => ⟨0x100C, linear, [], .SYS, [⟨0, 32, ro, false, .num 0⟩]⟩
  | .DEV_XS_LOG_TIME_HI => ⟨0x1010, linear, [], .SYS, [⟨0, 32, ro, false, .num 0⟩]⟩
  | .DEV_XS_ISLAND_CLK => ⟨0x1020, linear, [], .POR,
      [⟨0, 1, ro, false, .num 0⟩, ⟨1, 1, ro, false, .num 0⟩, ⟨2, 1, ro, false, .num 0⟩, ⟨3, 1, ro, false, .num 0⟩,
       ⟨4, 1, ro, false, .num 0⟩, ⟨5, 1, ro, false, .num 0⟩, ⟨6, 1, ro, false, .num 0⟩]⟩
  | .DEV_XS_QUAD_CLK => ⟨0x1024, linear, [], .POR, [⟨0, 32, ro, false, .num 0⟩]⟩
  | .DEV_XS_STATE => ⟨0x1400, linear, [(162, 0x4)], .SYS,
      [⟨0, 2, ro, false, .num 1⟩, ⟨2, 2, ro, false, .num 0⟩, ⟨16, 16, ro, false, .num 0⟩]⟩
  | .DEV_XS_CNT => ⟨0x1800, linear, [(162, 0x4)], .SYS, [⟨0, 16, rc, false, .num 0⟩, ⟨16, 16, rc, false, .num 0⟩]⟩
  | _ => ⟨0, linear, [], .SYS, []⟩

/-- The registers of block PWR. -/
def pwrSpec : Reg → RegSpec
  | .PWR_RATE_CTRL => ⟨0x70800, linear, [], .SYS, [⟨0, 1, rw, false, .num 1⟩, ⟨16, 16, rw, false, .num 0x5DC⟩]⟩
  | .PWR_RATE_SEL => ⟨0x70804, linear, [], .SYS, [⟨0, 10, rw, false, .num 0⟩]⟩
  | .PWR_RATE_VALUE => ⟨0x70808, linear, [], .SYS, [⟨0, 16, ro, false, .num 0⟩, ⟨16, 16, ro, false, .num 0⟩]⟩
  | .PWR_RATE_MIN => ⟨0x7080C, linear, [], .SYS, [⟨0, 16, ro, false, .num 0⟩, ⟨16, 10, ro, false, .num 0⟩]⟩
  | .PWR_RATE_MAX => ⟨0x70810, linear, [], .SYS, [⟨0, 16, ro, false, .num 0⟩, ⟨16, 10, ro, false, .num 0⟩]⟩
  | .PWR_VLOOP_CTRL => ⟨0x70820, linear, [], .SYS,
      [⟨0, 1, rw, true, .num 0⟩, ⟨1, 1, rw, true, .num 0⟩, ⟨2, 1, rw, true, .num 0⟩, ⟨4, 7, rw, true, .num 0⟩,
       ⟨12, 10, rw, true, .num 0⟩, ⟨22, 10, rw, true, .num 0x64⟩]⟩
  | .PWR_VLOOP_TARGET => ⟨0x70824, linear, [], .SYS, [⟨0, 16, rw, true, .num 0x708⟩, ⟨16, 8, rw, true, .num 0x14⟩]⟩
  | .PWR_VLOOP_LIMITS => ⟨0x70828, linear, [], .SYS, [⟨0, 12, rw, true, .num 0x258⟩, ⟨16, 12, rw, true, .num 0x384⟩]⟩
  | .PWR_VLOOP_STEP => ⟨0x7082C, linear, [], .SYS, [⟨0, 6, rw, true, .num 5⟩]⟩
  | .PWR_VLOOP_STATUS => ⟨0x70830, linear, [], .SYS,
      [⟨0, 3, ro, false, .num 0⟩, ⟨3, 1, w1c, false, .num 0⟩, ⟨4, 1, w1c, false, .num 0⟩,
       ⟨8, 3, ro, false, .num 0⟩]⟩
  | .PWR_VLOOP_VOUT => ⟨0x70834, linear, [], .SYS, [⟨0, 12, ro, false, .num 0⟩, ⟨16, 12, ro, false, .num 0⟩]⟩
  | .PWR_STATE_CTRL => ⟨0x70000, linear, [], .SYS, [⟨0, 2, wo, false, .num 0⟩, ⟨31, 1, wo, false, .num 0⟩]⟩
  | .PWR_STATE_STATUS => ⟨0x70004, linear, [], .SYS,
      [⟨0, 2, ro, false, .num 0⟩, ⟨2, 1, ro, false, .num 0⟩, ⟨3, 1, w1c, false, .num 0⟩, ⟨4, 4, ro, false, .num 0⟩,
       ⟨16, 16, ro, false, .num 0⟩]⟩
  | .PWR_REGION_CTRL => ⟨0x70008, linear, [], .SYS,
      [⟨0, 8, rw, true, .regions 0⟩, ⟨8, 1, rw, true, .regions 8⟩, ⟨9, 1, rw, true, .regions 9⟩,
       ⟨10, 1, rw, true, .num 1⟩]⟩
  | .PWR_QUAD_CTRL => ⟨0x7000C, linear, [], .SYS, [⟨0, 32, rw, true, .regions 32⟩]⟩
  | .PWR_REGION_STATUS => ⟨0x70010, linear, [], .SYS, [⟨0, 11, ro, false, .num 0⟩, ⟨16, 1, ro, false, .num 0⟩]⟩
  | .PWR_QUAD_STATUS => ⟨0x70014, linear, [], .SYS, [⟨0, 32, ro, false, .num 0⟩]⟩
  | .PWR_STATUS => ⟨0x70018, linear, [], .SYS,
      [⟨0, 1, w1c, false, .num 0⟩, ⟨1, 1, w1c, false, .num 0⟩, ⟨2, 1, w1c, false, .num 0⟩,
       ⟨3, 1, w1c, false, .num 0⟩, ⟨4, 1, w1c, false, .num 0⟩, ⟨5, 1, w1c, false, .num 0⟩,
       ⟨6, 1, w1c, false, .num 0⟩, ⟨7, 1, w1c, false, .num 0⟩, ⟨8, 4, ro, false, .num 0⟩]⟩
  | .PWR_SUPPLY => ⟨0x7001C, linear, [], .SYS, [⟨0, 12, ro, false, .num 0⟩, ⟨16, 12, ro, false, .num 0⟩]⟩
  | .PWR_TEMP => ⟨0x70020, linear, [], .SYS,
      [⟨0, 8, ro, false, .num 0⟩, ⟨8, 8, rc, false, .num 0⟩, ⟨16, 4, ro, false, .num 0⟩]⟩
  | .PWR_TEMP_CFG => ⟨0x70024, linear, [], .SYS, [⟨0, 8, rw, true, .num 0x5F⟩]⟩
  | .PWR_WAKE_EN => ⟨0x70028, linear, [], .POR,
      [⟨0, 16, rw, true, .num 0⟩, ⟨16, 1, rw, true, .num 1⟩, ⟨17, 1, rw, true, .num 0⟩, ⟨18, 1, ro, false, .num 0⟩]⟩
  | .PWR_WAKE_CAUSE => ⟨0x7002C, linear, [], .POR,
      [⟨0, 16, w1c, false, .num 0⟩, ⟨16, 1, w1c, false, .num 0⟩, ⟨17, 1, w1c, false, .num 0⟩,
       ⟨18, 1, w1c, false, .num 0⟩]⟩
  | _ => ⟨0, linear, [], .SYS, []⟩

/-- The registers of block CFG. -/
def cfgSpec : Reg → RegSpec
  | .CFG_CONT_STATUS => ⟨0x10300, linear, [], .SYS,
      [⟨0, 1, w1c, false, .num 0⟩, ⟨1, 1, ro, false, .num 0⟩, ⟨2, 1, w1c, false, .num 0⟩,
       ⟨3, 1, w1c, false, .num 0⟩, ⟨16, 16, rc, false, .num 0⟩]⟩
  | .CFG_CONT_SEG => ⟨0x10304, linear, [], .SYS, [⟨0, 16, ro, false, .num 0⟩, ⟨31, 1, w1c, false, .num 0⟩]⟩
  | .CFG_CONT_DRIVERS => ⟨0x10308, linear, [], .SYS,
      [⟨0, 8, ro, false, .num 0⟩, ⟨8, 8, ro, false, .num 0⟩, ⟨16, 8, ro, false, .num 0⟩,
       ⟨24, 1, ro, false, .num 0⟩]⟩
  | .CFG_DRV_REFUSE => ⟨0x1030C, linear, [], .SYS,
      [⟨0, 16, ro, false, .num 0⟩, ⟨16, 8, ro, false, .num 0⟩, ⟨24, 8, ro, false, .num 0⟩]⟩
  | .CFG_STATUS => ⟨0x10000, linear, [], .SYS,
      [⟨0, 3, ro, false, .num 0⟩, ⟨3, 1, ro, false, .num 0⟩, ⟨4, 1, w1c, false, .num 0⟩, ⟨5, 1, ro, false, .num 0⟩,
       ⟨6, 1, w1c, false, .num 0⟩, ⟨7, 1, w1c, false, .num 0⟩, ⟨8, 1, w1c, false, .num 0⟩,
       ⟨9, 1, w1c, false, .num 0⟩, ⟨10, 1, w1c, false, .num 0⟩, ⟨11, 1, ro, false, .num 0⟩]⟩
  | .CFG_CAUSE => ⟨0x10004, linear, [], .SYS,
      [⟨0, 5, ro, false, .num 0⟩, ⟨5, 3, ro, false, .num 0⟩, ⟨8, 5, ro, false, .num 0⟩]⟩
  | .CFG_FAIL_OFFSET => ⟨0x10008, linear, [], .SYS, [⟨0, 32, ro, false, .num 0⟩]⟩
  | .CFG_LOADED => ⟨0x1000C, linear, [], .SYS,
      [⟨0, 3, ro, false, .num 0⟩, ⟨4, 3, ro, false, .num 0⟩, ⟨16, 16, ro, false, .num 0⟩]⟩
  | .CFG_CMD => ⟨0x10010, linear, [], .SYS, [⟨0, 8, wo, false, .num 0⟩]⟩
  | .CFG_LOAD_CTRL => ⟨0x10014, linear, [], .SYS,
      [⟨0, 3, rw, true, .num 0⟩, ⟨4, 3, rw, true, .num 0⟩, ⟨8, 4, rw, true, .num 0⟩]⟩
  | .CFG_SRC_TIMEOUT => ⟨0x10018, linear, [], .SYS, [⟨0, 20, rw, false, .bootHeader⟩]⟩
  | .CFG_FETCH_ADDR_LO => ⟨0x10020, linear, [], .SYS, [⟨0, 32, rw, false, .num 0⟩]⟩
  | .CFG_FETCH_ADDR_HI => ⟨0x10024, linear, [], .SYS, [⟨0, 16, rw, false, .num 0⟩]⟩
  | .CFG_FETCH_LEN => ⟨0x10028, linear, [], .SYS, [⟨0, 32, rw, false, .num 0⟩]⟩
  | .CFG_PROG_LEN => ⟨0x1002C, linear, [], .SYS, [⟨0, 23, rw, false, .num 0⟩]⟩
  | .CFG_DIGEST_LO => ⟨0x10030, linear, [], .SYS, [⟨0, 32, ro, false, .num 0⟩]⟩
  | .CFG_DIGEST_HI => ⟨0x10034, linear, [], .SYS, [⟨0, 32, ro, false, .num 0⟩]⟩
  | .CFG_BUILD_LO => ⟨0x10038, linear, [], .SYS, [⟨0, 32, ro, false, .num 0⟩]⟩
  | .CFG_BUILD_HI => ⟨0x1003C, linear, [], .SYS, [⟨0, 32, ro, false, .num 0⟩]⟩
  | .CFG_WINDOW_DROPS => ⟨0x10040, linear, [], .SYS, [⟨0, 32, rc, false, .num 0⟩]⟩
  | .CFG_SCRUB_CTRL => ⟨0x10050, linear, [], .SYS, [⟨0, 16, rw, true, .num 0xBB8⟩]⟩
  | .CFG_SCRUB_STAT => ⟨0x10054, linear, [], .SYS, [⟨0, 16, rc, false, .num 0⟩, ⟨16, 16, rc, false, .num 0⟩]⟩
  | .CFG_SCRUB_LAST => ⟨0x10058, linear, [], .SYS, [⟨0, 26, ro, false, .num 0⟩, ⟨31, 1, ro, false, .num 0⟩]⟩
  | .CFG_SCRUB_PASSES => ⟨0x1005C, linear, [], .SYS, [⟨0, 32, ro, false, .num 0⟩]⟩
  | .CFG_STREAM => ⟨0x18000, linear, [], .SYS, [⟨0, 32, wo, false, .num 0⟩]⟩
  | .CFG_SPAN_CMD => ⟨0x10400, linear, [], .SYS, [⟨0, 3, wo, false, .num 0⟩, ⟨8, 4, wo, false, .num 0⟩]⟩
  | .CFG_SPAN_DRAIN => ⟨0x10404, linear, [], .SYS, [⟨0, 16, rw, true, .num 0x64⟩]⟩
  | .CFG_ICP_STATUS => ⟨0x10408, linear, [], .SYS,
      [⟨0, 1, ro, false, .num 0⟩, ⟨1, 1, w1c, false, .num 0⟩, ⟨16, 16, rc, false, .num 0⟩]⟩
  | .CFG_SPAN_STATUS => ⟨0x10440, linear, [(16, 0x4)], .SYS,
      [⟨0, 3, ro, false, .num 0⟩, ⟨3, 1, w1c, false, .num 0⟩, ⟨4, 1, w1c, false, .num 0⟩,
       ⟨5, 5, ro, false, .num 0⟩, ⟨16, 16, ro, false, .num 0⟩]⟩
  | .CFG_SPAN_SINK => ⟨0x10480, linear, [(16, 0x4)], .SYS, [⟨0, 32, rc, false, .num 0⟩]⟩
  | .CFG_RB_CTRL => ⟨0x10500, linear, [], .SYS, [⟨0, 1, rw, false, .num 0⟩, ⟨1, 1, rw, false, .num 0⟩]⟩
  | .CFG_RB_FAR => ⟨0x10504, linear, [], .SYS,
      [⟨0, 10, rw, false, .num 0⟩, ⟨16, 10, rw, false, .num 0⟩, ⟨31, 1, rw, false, .num 0⟩]⟩
  | .CFG_RB_COUNT => ⟨0x10508, linear, [], .SYS, [⟨0, 20, rw, false, .num 0⟩]⟩
  | .CFG_RB_ADDR_LO => ⟨0x1050C, linear, [], .SYS, [⟨0, 32, rw, false, .num 0⟩]⟩
  | .CFG_RB_ADDR_HI => ⟨0x10510, linear, [], .SYS, [⟨0, 16, rw, false, .num 0⟩]⟩
  | .CFG_RB_STATUS => ⟨0x10514, linear, [], .SYS,
      [⟨0, 1, ro, false, .num 0⟩, ⟨1, 1, w1c, false, .num 0⟩, ⟨2, 1, w1c, false, .num 0⟩,
       ⟨3, 3, ro, false, .num 0⟩, ⟨6, 1, ro, false, .num 0⟩, ⟨16, 16, rc, false, .num 0⟩]⟩
  | .CFG_RB_DATA => ⟨0x10518, linear, [], .SYS, [⟨0, 32, rw, false, .num 0⟩]⟩
  | .CFG_CAP_CTRL => ⟨0x10540, linear, [], .SYS, [⟨0, 2, rw, false, .num 0⟩]⟩
  | .CFG_CAP_TIME_LO => ⟨0x10544, linear, [], .SYS, [⟨0, 32, rw, false, .num 0⟩]⟩
  | .CFG_CAP_TIME_HI => ⟨0x10548, linear, [], .SYS, [⟨0, 32, rw, false, .num 0⟩]⟩
  | .CFG_CAP_STATUS => ⟨0x1054C, linear, [], .SYS,
      [⟨0, 3, ro, false, .num 0⟩, ⟨3, 1, w1c, false, .num 0⟩, ⟨16, 16, ro, false, .num 0⟩]⟩
  | .CFG_CAP_AT_LO => ⟨0x10550, linear, [], .SYS, [⟨0, 32, ro, false, .num 0⟩]⟩
  | .CFG_CAP_AT_HI => ⟨0x10554, linear, [], .SYS, [⟨0, 32, ro, false, .num 0⟩]⟩
  | _ => ⟨0, linear, [], .SYS, []⟩

/-- The registers of block QUEUE. -/
def queueSpec : Reg → RegSpec
  | .QUEUE_CTRL => ⟨0x600000, linear, [(2048, 0x100)], .FUNC,
      [⟨0, 1, rw, true, .num 0⟩, ⟨1, 1, w1s, false, .num 0⟩, ⟨16, 16, rwq, false, .num 0x3E8⟩]⟩
  | .QUEUE_STATUS => ⟨0x600004, linear, [(2048, 0x100)], .FUNC,
      [⟨0, 2, ro, false, .num 0⟩, ⟨2, 1, ro, false, .num 0⟩, ⟨3, 1, w1c, false, .num 0⟩,
       ⟨4, 1, w1c, false, .num 0⟩, ⟨5, 1, w1c, false, .num 0⟩, ⟨6, 1, ro, false, .num 0⟩,
       ⟨7, 1, w1c, false, .num 0⟩, ⟨8, 1, w1c, false, .num 0⟩, ⟨9, 1, w1c, false, .num 0⟩,
       ⟨10, 1, ro, false, .num 0⟩, ⟨11, 1, w1c, false, .num 0⟩, ⟨16, 16, rc, false, .num 0⟩]⟩
  | .QUEUE_CONFIG => ⟨0x600008, linear, [(2048, 0x100)], .SYS,
      [⟨0, 1, ro, false, .num 0⟩, ⟨1, 1, ro, false, .num 0⟩, ⟨2, 3, ro, false, .num 0⟩, ⟨5, 4, ro, false, .num 0⟩,
       ⟨9, 1, rwq, true, .num 0⟩, ⟨10, 1, ro, false, .num 0⟩]⟩
  | .QUEUE_STALE_CFG => ⟨0x60000C, linear, [(2048, 0x100)], .SYS, [⟨0, 20, rwq, false, .num 0⟩]⟩
  | .QUEUE_MAX_PKT => ⟨0x600010, linear, [(2048, 0x100)], .SYS, [⟨0, 19, rwq, false, .num 0⟩]⟩
  | .QUEUE_LEVEL => ⟨0x600014, linear, [(2048, 0x100)], .FUNC, [⟨0, 19, ro, false, .num 0⟩]⟩
  | .QUEUE_PKTS => ⟨0x600018, linear, [(2048, 0x100)], .FUNC, [⟨0, 19, ro, false, .num 0⟩]⟩
  | .QUEUE_OPEN => ⟨0x60001C, linear, [(2048, 0x100)], .FUNC, [⟨0, 19, ro, false, .num 0⟩]⟩
  | .QUEUE_RD_PTR => ⟨0x600020, linear, [(2048, 0x100)], .FUNC, [⟨0, 18, ro, false, .num 0⟩]⟩
  | .QUEUE_CM_PTR => ⟨0x600024, linear, [(2048, 0x100)], .FUNC, [⟨0, 18, ro, false, .num 0⟩]⟩
  | .QUEUE_WR_PTR => ⟨0x600028, linear, [(2048, 0x100)], .FUNC, [⟨0, 18, ro, false, .num 0⟩]⟩
  | .QUEUE_WORDS_IN_LO => ⟨0x600030, linear, [(2048, 0x100)], .FUNC, [⟨0, 32, ro, false, .num 0⟩]⟩
  | .QUEUE_WORDS_IN_HI => ⟨0x600034, linear, [(2048, 0x100)], .FUNC, [⟨0, 32, ro, false, .num 0⟩]⟩
  | .QUEUE_WORDS_OUT_LO => ⟨0x600038, linear, [(2048, 0x100)], .FUNC, [⟨0, 32, ro, false, .num 0⟩]⟩
  | .QUEUE_WORDS_OUT_HI => ⟨0x60003C, linear, [(2048, 0x100)], .FUNC, [⟨0, 32, ro, false, .num 0⟩]⟩
  | .QUEUE_PKT_ERR => ⟨0x600040, linear, [(2048, 0x100)], .FUNC,
      [⟨0, 16, rc, false, .num 0⟩, ⟨16, 16, rc, false, .num 0⟩]⟩
  | .QUEUE_FLUSH_CNT => ⟨0x600044, linear, [(2048, 0x100)], .FUNC,
      [⟨0, 16, rc, false, .num 0⟩, ⟨16, 16, rc, false, .num 0⟩]⟩
  | .QUEUE_REC_PKTS => ⟨0x600050, linear, [(2048, 0x100)], .FUNC, [⟨0, 32, ro, false, .num 0⟩]⟩
  | .QUEUE_REC_DISCARD => ⟨0x600054, linear, [(2048, 0x100)], .FUNC, [⟨0, 32, ro, false, .num 0⟩]⟩
  | .QUEUE_ECC => ⟨0x600058, linear, [(2048, 0x100)], .FUNC,
      [⟨0, 16, rc, false, .num 0⟩, ⟨16, 16, rc, false, .num 0⟩]⟩
  | .QUEUE_LATE => ⟨0x60005C, linear, [(2048, 0x100)], .FUNC, [⟨0, 32, rc, false, .num 0⟩]⟩
  | _ => ⟨0, linear, [], .SYS, []⟩

/-- The registers of block REPAIR. -/
def repairSpec : Reg → RegSpec
  | .REPAIR_STATUS => ⟨0x20000, linear, [], .SYS,
      [⟨0, 1, ro, false, .num 0⟩, ⟨1, 1, ro, false, .num 0⟩, ⟨2, 1, ro, false, .num 0⟩, ⟨3, 1, w1c, false, .num 0⟩,
       ⟨4, 1, w1c, false, .num 0⟩, ⟨5, 1, w1c, false, .num 0⟩, ⟨6, 1, w1c, false, .num 0⟩,
       ⟨7, 1, w1c, false, .num 0⟩, ⟨8, 1, w1c, false, .num 0⟩, ⟨9, 1, w1c, false, .num 0⟩,
       ⟨10, 1, w1c, false, .num 0⟩, ⟨11, 1, w1c, false, .num 0⟩]⟩
  | .REPAIR_PUST_TIME => ⟨0x20004, linear, [], .SYS, [⟨0, 20, ro, false, .num 0⟩]⟩
  | .REPAIR_ROVE_MODE => ⟨0x20010, linear, [], .SYS,
      [⟨0, 2, rw, true, .num 1⟩, ⟨2, 2, rw, true, .num 1⟩, ⟨4, 2, rw, true, .num 1⟩, ⟨6, 2, rw, true, .num 1⟩,
       ⟨8, 2, rw, true, .num 1⟩, ⟨10, 2, rw, true, .num 1⟩, ⟨12, 2, rw, true, .num 1⟩, ⟨14, 2, rw, true, .num 1⟩,
       ⟨16, 2, rw, true, .num 1⟩, ⟨18, 2, rw, true, .num 1⟩, ⟨20, 2, rw, true, .num 1⟩, ⟨22, 2, rw, true, .num 1⟩,
       ⟨24, 2, rw, true, .num 1⟩, ⟨26, 2, rw, true, .num 1⟩, ⟨28, 2, rw, true, .num 1⟩, ⟨30, 2, rw, true, .num 1⟩]⟩
  | .REPAIR_ROVE_TIMING => ⟨0x20014, linear, [], .SYS, [⟨0, 16, rw, true, .num 0x64⟩, ⟨16, 8, rw, true, .num 0x3C⟩]⟩
  | .REPAIR_WEAR_CFG => ⟨0x20018, linear, [], .SYS, [⟨0, 16, rw, true, .num 0x10⟩, ⟨16, 16, rw, true, .num 0x3E8⟩]⟩
  | .REPAIR_CMD => ⟨0x2001C, linear, [], .SYS,
      [⟨0, 3, wo, false, .num 0⟩, ⟨8, 4, wo, false, .num 0⟩, ⟨16, 9, wo, false, .num 0⟩]⟩
  | .REPAIR_STEP_STATUS => ⟨0x20020, linear, [], .SYS,
      [⟨0, 4, ro, false, .num 0⟩, ⟨4, 1, ro, false, .num 0⟩, ⟨5, 3, ro, false, .num 0⟩, ⟨8, 9, ro, false, .num 0⟩,
       ⟨17, 9, ro, false, .num 0⟩]⟩
  | .REPAIR_STEP_PAUSE => ⟨0x20024, linear, [], .SYS, [⟨0, 16, ro, false, .num 0⟩, ⟨16, 16, rc, false, .num 0⟩]⟩
  | .REPAIR_STEP_COUNT => ⟨0x20028, linear, [], .SYS, [⟨0, 32, ro, false, .num 0⟩]⟩
  | .REPAIR_STEP_EXC => ⟨0x2002C, linear, [], .SYS, [⟨0, 16, rc, false, .num 0⟩, ⟨16, 16, rc, false, .num 0⟩]⟩
  | .REPAIR_RETIRED => ⟨0x20030, linear, [], .SYS, [⟨0, 9, ro, false, .num 0⟩]⟩
  | .REPAIR_BG_CTRL => ⟨0x20040, linear, [], .SYS,
      [⟨0, 1, rw, true, .num 1⟩, ⟨1, 1, rw, true, .regions 8⟩, ⟨8, 8, rw, true, .num 0x3C⟩,
       ⟨16, 16, rw, true, .num 0x64⟩]⟩
  | .REPAIR_BG_STAT => ⟨0x20044, linear, [], .SYS, [⟨0, 16, rc, false, .num 0⟩, ⟨16, 16, rc, false, .num 0⟩]⟩
  | .REPAIR_BG_FAIL => ⟨0x20048, linear, [], .SYS,
      [⟨0, 2, ro, false, .num 0⟩, ⟨4, 8, ro, false, .num 0⟩, ⟨12, 4, ro, false, .num 0⟩,
       ⟨16, 16, rc, false, .num 0⟩]⟩
  | .REPAIR_GROUP_STATUS => ⟨0x20100, linear, [(16, 0x4)], .SYS,
      [⟨0, 5, ro, false, .num 0x10⟩, ⟨5, 1, ro, false, .num 0⟩, ⟨6, 2, ro, false, .num 0⟩,
       ⟨8, 5, ro, false, .num 0⟩, ⟨16, 16, ro, false, .num 0⟩]⟩
  | .REPAIR_ROD_STATUS => ⟨0x20200, linear, [(272, 0x4)], .SYS,
      [⟨0, 3, ro, false, .num 0⟩, ⟨3, 8, ro, false, .num 0⟩, ⟨11, 3, ro, false, .num 0⟩,
       ⟨14, 4, ro, false, .num 0⟩, ⟨18, 4, ro, false, .num 0⟩]⟩
  | .REPAIR_MON_COUNT => ⟨0x20800, linear, [(272, 0x4)], .SYS,
      [⟨0, 16, rc, false, .num 0⟩, ⟨16, 16, rc, false, .num 0⟩]⟩
  | _ => ⟨0, linear, [], .SYS, []⟩

/-- The registers of block CN. -/
def cnSpec : Reg → RegSpec
  | .CN_ID => ⟨0x0, node, [], .POR,
      [⟨0, 4, ro, false, .nodeId 0⟩, ⟨4, 4, ro, false, .nodeId 4⟩, ⟨8, 8, ro, false, .nodeId 8⟩,
       ⟨16, 15, ro, false, .nodeId 16⟩]⟩
  | .CN_PORT_EN => ⟨0x4, node, [], .SYS, [⟨0, 15, rw, true, .nodePorts⟩]⟩
  | .CN_VC_SPLIT => ⟨0x8, node, [], .SYS,
      [⟨0, 6, rw, true, .num 0x14⟩, ⟨8, 6, rw, true, .num 0x14⟩, ⟨16, 6, rw, true, .num 8⟩]⟩
  | .CN_ARB_WEIGHT => ⟨0xC, node, [], .SYS,
      [⟨0, 4, rw, true, .num 4⟩, ⟨8, 4, rw, true, .num 4⟩, ⟨16, 4, rw, true, .num 1⟩]⟩
  | .CN_AGE_CFG => ⟨0x10, node, [], .SYS, [⟨0, 16, rw, true, .num 0x400⟩]⟩
  | .CN_STATUS => ⟨0x14, node, [], .SYS,
      [⟨0, 1, ro, false, .num 0⟩, ⟨1, 1, w1c, false, .num 0⟩, ⟨2, 1, w1c, false, .num 0⟩,
       ⟨3, 1, w1c, false, .num 0⟩, ⟨4, 1, w1c, false, .num 0⟩, ⟨5, 1, w1c, false, .num 0⟩,
       ⟨6, 1, w1c, false, .num 0⟩, ⟨7, 1, w1c, false, .num 0⟩]⟩
  | .CN_CTRL_ERR => ⟨0x18, node, [], .SYS, [⟨0, 16, rc, false, .num 0⟩, ⟨16, 16, rc, false, .num 0⟩]⟩
  | .CN_AGED => ⟨0x1C, node, [], .SYS, [⟨0, 32, rc, false, .num 0⟩]⟩
  | .CN_U_ROUTES_LO => ⟨0x20, node, [], .SYS,
      [⟨0, 4, ro, false, .num 0⟩, ⟨4, 4, ro, false, .num 0⟩, ⟨8, 4, ro, false, .num 0⟩, ⟨12, 4, ro, false, .num 0⟩,
       ⟨16, 4, ro, false, .num 0⟩, ⟨20, 4, ro, false, .num 0⟩, ⟨24, 4, ro, false, .num 0⟩,
       ⟨28, 4, ro, false, .num 0⟩]⟩
  | .CN_U_ROUTES_HI => ⟨0x24, node, [], .SYS,
      [⟨0, 4, ro, false, .num 0⟩, ⟨4, 4, ro, false, .num 0⟩, ⟨8, 4, ro, false, .num 0⟩, ⟨12, 4, ro, false, .num 0⟩,
       ⟨16, 4, ro, false, .num 0⟩, ⟨20, 4, ro, false, .num 0⟩, ⟨24, 4, ro, false, .num 0⟩]⟩
  | .CN_SPARE_SET => ⟨0x28, node, [], .SYS,
      [⟨0, 4, rw, true, .num 0⟩, ⟨4, 10, rw, true, .num 0⟩, ⟨14, 3, rw, true, .num 0⟩, ⟨17, 1, rw, true, .num 0⟩,
       ⟨31, 1, rw, true, .num 0⟩]⟩
  | .CN_LINK_STATUS => ⟨0x100, node, [(15, 0x10)], .SYS,
      [⟨0, 1, ro, false, .num 0⟩, ⟨1, 1, ro, false, .num 0⟩, ⟨2, 1, ro, false, .num 0⟩, ⟨4, 4, ro, false, .num 0⟩,
       ⟨16, 16, rc, false, .num 0⟩]⟩
  | .CN_LINK_PARGRP => ⟨0x104, node, [(15, 0x10)], .SYS,
      [⟨0, 8, rc, false, .num 0⟩, ⟨8, 8, rc, false, .num 0⟩, ⟨16, 8, rc, false, .num 0⟩,
       ⟨24, 8, rc, false, .num 0⟩]⟩
  | .CN_LINK_MAP => ⟨0x108, node, [(15, 0x10)], .SYS,
      [⟨0, 10, ro, false, .num 0⟩, ⟨10, 3, ro, false, .num 0⟩, ⟨31, 1, ro, false, .num 0⟩]⟩
  | .CN_LINK_CFG => ⟨0x10C, node, [(15, 0x10)], .SYS, [⟨0, 8, rw, true, .num 0x10⟩]⟩
  | .CN_HOLD_CTRL => ⟨0x200, node, [], .SYS, [⟨0, 1, w1s, false, .num 0⟩, ⟨8, 6, rw, true, .num 2⟩]⟩
  | .CN_HOLD_STATUS => ⟨0x204, node, [], .SYS,
      [⟨0, 2, ro, false, .num 0⟩, ⟨2, 1, w1c, false, .num 0⟩, ⟨16, 16, ro, false, .num 0⟩]⟩
  | .CN_HOLD_LAST => ⟨0x208, node, [], .SYS, [⟨0, 16, ro, false, .num 0⟩]⟩
  | .CN_ERRLOG_INFO => ⟨0x210, node, [], .SYS,
      [⟨0, 4, ro, false, .num 0⟩, ⟨4, 4, ro, false, .num 0⟩, ⟨8, 2, ro, false, .num 0⟩, ⟨10, 8, ro, false, .num 0⟩,
       ⟨18, 8, ro, false, .num 0⟩, ⟨30, 1, ro, false, .num 0⟩, ⟨31, 1, w1c, false, .num 0⟩]⟩
  | .CN_ERRLOG_TIME_LO => ⟨0x218, node, [], .SYS, [⟨0, 32, ro, false, .num 0⟩]⟩
  | .CN_ERRLOG_TIME_HI => ⟨0x21C, node, [], .SYS, [⟨0, 32, ro, false, .num 0⟩]⟩
  | _ => ⟨0, linear, [], .SYS, []⟩

/-- The registers of block NI. -/
def niSpec : Reg → RegSpec
  | .NI_ID => ⟨0x0, slot, [], .POR,
      [⟨0, 8, ro, false, .niId 0⟩, ⟨8, 4, ro, false, .niId 8⟩, ⟨12, 8, ro, false, .niId 12⟩]⟩
  | .NI_CTRL => ⟨0x4, slot, [], .FUNC, [⟨0, 1, rw, true, .num 1⟩, ⟨16, 16, rwq, false, .num 0x3E8⟩]⟩
  | .NI_STATUS => ⟨0x8, slot, [], .FUNC,
      [⟨0, 2, ro, false, .num 1⟩, ⟨2, 1, w1c, false, .num 0⟩, ⟨3, 1, w1c, false, .num 0⟩,
       ⟨4, 1, w1c, false, .num 0⟩, ⟨5, 1, w1c, false, .num 0⟩, ⟨6, 1, w1c, false, .num 0⟩,
       ⟨7, 1, w1c, false, .num 0⟩, ⟨8, 1, w1c, false, .num 0⟩, ⟨9, 1, w1c, false, .num 0⟩,
       ⟨10, 1, w1c, false, .num 0⟩, ⟨11, 1, w1c, false, .num 0⟩, ⟨16, 16, rc, false, .num 0⟩]⟩
  | .NI_RT_CTRL => ⟨0x10, slot, [], .SYS,
      [⟨0, 1, w1s, false, .num 0⟩, ⟨1, 1, ro, false, .num 0⟩, ⟨2, 1, w1s, false, .num 0⟩]⟩
  | .NI_RT_INDEX => ⟨0x14, slot, [], .SYS,
      [⟨0, 8, rw, false, .num 0⟩, ⟨8, 1, rw, false, .num 0⟩, ⟨9, 1, rw, false, .num 0⟩]⟩
  | .NI_RT_DATA_LO => ⟨0x18, slot, [], .SYS, [⟨0, 32, rw, true, .num 0⟩]⟩
  | .NI_RT_DATA_HI => ⟨0x1C, slot, [], .SYS, [⟨0, 32, rw, true, .num 0⟩]⟩
  | .NI_RT_STATUS => ⟨0x20, slot, [], .SYS,
      [⟨0, 4, ro, false, .num 0⟩, ⟨4, 8, ro, false, .num 0⟩, ⟨12, 8, ro, false, .num 0⟩,
       ⟨20, 4, ro, false, .num 0⟩]⟩
  | .NI_REG_CTRL => ⟨0x30, slot, [(4, 0x4)], .SYS,
      [⟨0, 1, rw, true, .num 0⟩, ⟨1, 11, rw, true, .num 0x400⟩, ⟨16, 8, rw, true, .num 0x40⟩]⟩
  | .NI_REG_STATUS => ⟨0x40, slot, [], .FUNC, [⟨0, 4, ro, false, .num 0⟩, ⟨16, 16, rc, false, .num 0⟩]⟩
  | .NI_U_STATUS => ⟨0x44, slot, [], .FUNC,
      [⟨0, 1, ro, false, .num 0⟩, ⟨16, 8, rc, false, .num 0⟩, ⟨24, 8, rc, false, .num 0⟩]⟩
  | .NI_TIMER => ⟨0x50, slot, [], .SYS, [⟨0, 20, rwq, true, .num 0xA⟩]⟩
  | .NI_TGT_TIMER => ⟨0x54, slot, [], .SYS, [⟨0, 20, rwq, true, .num 8⟩]⟩
  | .NI_TXN => ⟨0x58, slot, [], .FUNC, [⟨0, 13, ro, false, .num 0⟩, ⟨16, 13, ro, false, .num 0⟩]⟩
  | .NI_ERR_CNT => ⟨0x60, slot, [], .FUNC, [⟨0, 16, rc, false, .num 0⟩, ⟨16, 16, rc, false, .num 0⟩]⟩
  | .NI_ECC_CNT => ⟨0x64, slot, [], .FUNC, [⟨0, 16, rc, false, .num 0⟩, ⟨16, 16, rc, false, .num 0⟩]⟩
  | .NI_DISCARD => ⟨0x68, slot, [], .FUNC, [⟨0, 16, rc, false, .num 0⟩, ⟨16, 16, rc, false, .num 0⟩]⟩
  | .NI_TGT_ERR => ⟨0x6C, slot, [], .FUNC, [⟨0, 16, rc, false, .num 0⟩, ⟨16, 16, rc, false, .num 0⟩]⟩
  | .NI_FENCE_CTRL => ⟨0x100, slot, [], .SYS,
      [⟨0, 1, w1s, false, .num 0⟩, ⟨1, 1, w1s, false, .num 0⟩, ⟨2, 1, rw, true, .num 0⟩,
       ⟨16, 16, rw, true, .num 0x64⟩]⟩
  | .NI_FENCE_STATUS => ⟨0x104, slot, [], .SYS,
      [⟨0, 2, ro, false, .fenceAtReset⟩, ⟨2, 1, w1c, false, .num 0⟩, ⟨3, 1, w1c, false, .num 0⟩,
       ⟨4, 3, ro, false, .num 0⟩]⟩
  | .NI_PROXY_CNT => ⟨0x108, slot, [], .SYS, [⟨0, 16, rc, false, .num 0⟩, ⟨16, 16, rc, false, .num 0⟩]⟩
  | .NI_DEAD_CNT => ⟨0x10C, slot, [], .SYS, [⟨0, 32, rc, false, .num 0⟩]⟩
  | .NI_DROP_RPT => ⟨0x110, slot, [], .SYS, [⟨0, 16, rc, false, .num 0⟩, ⟨16, 16, rc, false, .num 0⟩]⟩
  | .NI_ERRLOG_INFO => ⟨0x118, slot, [], .SYS,
      [⟨0, 4, ro, false, .num 0⟩, ⟨4, 2, ro, false, .num 0⟩, ⟨6, 8, ro, false, .num 0⟩,
       ⟨14, 12, ro, false, .num 0⟩, ⟨26, 4, ro, false, .num 0⟩, ⟨30, 1, ro, false, .num 0⟩,
       ⟨31, 1, w1c, false, .num 0⟩]⟩
  | .NI_ERRLOG_ADDR_LO => ⟨0x11C, slot, [], .SYS, [⟨0, 32, ro, false, .num 0⟩]⟩
  | .NI_ERRLOG_ADDR_HI => ⟨0x120, slot, [], .SYS, [⟨0, 16, ro, false, .num 0⟩]⟩
  | .NI_ERRLOG_TIME_LO => ⟨0x124, slot, [], .SYS, [⟨0, 32, ro, false, .num 0⟩]⟩
  | .NI_ERRLOG_TIME_HI => ⟨0x128, slot, [], .SYS, [⟨0, 32, ro, false, .num 0⟩]⟩
  | .NI_STAT_CTRL => ⟨0x130, slot, [], .SYS,
      [⟨0, 1, rw, false, .num 1⟩, ⟨1, 1, rw, false, .num 0⟩, ⟨2, 1, wo, false, .num 0⟩]⟩
  | .NI_STAT_UNITS_LO => ⟨0x140, slot, [(4, 0x70)], .SYS, [⟨0, 32, ro, false, .num 0⟩]⟩
  | .NI_STAT_UNITS_HI => ⟨0x144, slot, [(4, 0x70)], .SYS, [⟨0, 32, ro, false, .num 0⟩]⟩
  | .NI_STAT_BYTES_LO => ⟨0x148, slot, [(4, 0x70)], .SYS, [⟨0, 32, ro, false, .num 0⟩]⟩
  | .NI_STAT_BYTES_HI => ⟨0x14C, slot, [(4, 0x70)], .SYS, [⟨0, 32, ro, false, .num 0⟩]⟩
  | .NI_STAT_LAT_MAX => ⟨0x150, slot, [(4, 0x70)], .SYS, [⟨0, 32, ro, false, .num 0⟩]⟩
  | .NI_STAT_HIST => ⟨0x158, slot, [(4, 0x70), (16, 0x4)], .SYS, [⟨0, 32, ro, false, .num 0⟩]⟩
  | _ => ⟨0, linear, [], .SYS, []⟩

/-- The registers of block TIME. -/
def timeSpec : Reg → RegSpec
  | .TIME_NOW_LO => ⟨0x40000, linear, [], .POR, [⟨0, 32, ro, false, .num 0⟩]⟩
  | .TIME_NOW_HI => ⟨0x40004, linear, [], .POR, [⟨0, 32, ro, false, .num 0⟩]⟩
  | .TIME_STATUS => ⟨0x40008, linear, [], .POR,
      [⟨0, 1, ro, false, .num 0⟩, ⟨1, 1, ro, false, .num 0⟩, ⟨2, 1, w1c, false, .num 0⟩, ⟨3, 1, ro, false, .num 0⟩,
       ⟨4, 1, w1c, false, .num 0⟩, ⟨5, 1, w1c, false, .num 0⟩, ⟨6, 1, ro, false, .num 0⟩,
       ⟨7, 1, w1c, false, .num 0⟩, ⟨8, 1, w1c, false, .num 0⟩]⟩
  | .TIME_SYNC_CTRL => ⟨0x4000C, linear, [], .SYS,
      [⟨0, 1, w1s, false, .num 0⟩, ⟨1, 1, rw, true, .num 0⟩, ⟨16, 16, rw, true, .num 0x96⟩]⟩
  | .TIME_LOAD_LO => ⟨0x40010, linear, [], .SYS, [⟨0, 32, rw, true, .num 0⟩]⟩
  | .TIME_LOAD_HI => ⟨0x40014, linear, [], .SYS, [⟨0, 32, rw, true, .num 0⟩]⟩
  | .TIME_SYNC_LAST_LO => ⟨0x40018, linear, [], .POR, [⟨0, 32, ro, false, .num 0⟩]⟩
  | .TIME_SYNC_LAST_HI => ⟨0x4001C, linear, [], .POR, [⟨0, 32, ro, false, .num 0⟩]⟩
  | .TIME_EPOCH_LO => ⟨0x40020, linear, [], .POR, [⟨0, 32, rw, true, .num 0⟩]⟩
  | .TIME_EPOCH_HI => ⟨0x40024, linear, [], .POR, [⟨0, 32, rw, true, .num 0⟩]⟩
  | .TIME_CMP_CTRL => ⟨0x40100, linear, [(8, 0x10)], .SYS,
      [⟨0, 1, rw, true, .num 0⟩, ⟨1, 1, rw, true, .num 0⟩, ⟨2, 1, w1c, false, .num 0⟩]⟩
  | .TIME_CMP_VAL_LO => ⟨0x40104, linear, [(8, 0x10)], .SYS, [⟨0, 32, rw, true, .num 0⟩]⟩
  | .TIME_CMP_VAL_HI => ⟨0x40108, linear, [(8, 0x10)], .SYS, [⟨0, 32, rw, true, .num 0⟩]⟩
  | .TIME_CMP_PERIOD => ⟨0x4010C, linear, [(8, 0x10)], .SYS, [⟨0, 32, rw, true, .num 0⟩]⟩
  | .TIME_TIM_CTRL => ⟨0x40200, linear, [(8, 0x10)], .SYS, [⟨0, 1, rw, true, .num 0⟩]⟩
  | .TIME_TIM_PERIOD => ⟨0x40204, linear, [(8, 0x10)], .SYS, [⟨0, 32, rw, true, .num 0⟩]⟩
  | .TIME_TIM_PHASE => ⟨0x40208, linear, [(8, 0x10)], .SYS, [⟨0, 32, rw, true, .num 0⟩]⟩
  | .TIME_TIM_COUNT => ⟨0x4020C, linear, [(8, 0x10)], .SYS, [⟨0, 32, rw, true, .num 0⟩]⟩
  | _ => ⟨0, linear, [], .SYS, []⟩

/-- The registers of block BEAM. -/
def beamSpec : Reg → RegSpec
  | .BEAM_CTRL => ⟨0x40400, linear, [], .SYS, [⟨0, 1, rw, true, .num 1⟩, ⟨16, 16, rwq, false, .num 0x3E8⟩]⟩
  | .BEAM_STATUS => ⟨0x40404, linear, [], .SYS,
      [⟨0, 2, ro, false, .num 1⟩, ⟨8, 1, w1c, false, .num 0⟩, ⟨9, 1, w1c, false, .num 0⟩,
       ⟨16, 16, rc, false, .num 0⟩]⟩
  | .BEAM_SW_EVT => ⟨0x40408, linear, [], .SYS, [⟨0, 1, wo, false, .num 0⟩, ⟨1, 1, wo, false, .num 0⟩]⟩
  | .BEAM_ROUTE => ⟨0x40500, linear, [(64, 0x4)], .SYS,
      [⟨0, 6, rwq, true, .num 0⟩, ⟨8, 1, rwq, true, .num 0⟩, ⟨9, 1, ro, false, .num 0⟩]⟩
  | .BEAM_DST_CNT => ⟨0x40600, linear, [(64, 0x4)], .SYS, [⟨0, 16, rc, false, .num 0⟩, ⟨16, 16, rc, false, .num 0⟩]⟩
  | .BEAM_SRC_CNT => ⟨0x40700, linear, [(64, 0x4)], .SYS, [⟨0, 32, ro, false, .num 0⟩]⟩
  | _ => ⟨0, linear, [], .SYS, []⟩

/-- The registers of block RECORD. -/
def recordSpec : Reg → RegSpec
  | .RECORD_CTRL => ⟨0xB0000, linear, [], .FUNC,
      [⟨0, 1, rw, true, .num 0⟩, ⟨1, 1, rw, true, .num 0⟩, ⟨2, 1, rw, true, .num 0⟩,
       ⟨16, 16, rwq, false, .num 0x3E8⟩]⟩
  | .RECORD_STATUS => ⟨0xB0004, linear, [], .FUNC,
      [⟨0, 2, ro, false, .num 0⟩, ⟨4, 3, ro, false, .num 0⟩, ⟨7, 1, w1c, false, .num 0⟩,
       ⟨8, 1, w1c, false, .num 0⟩, ⟨9, 1, w1c, false, .num 0⟩, ⟨10, 1, w1c, false, .num 0⟩,
       ⟨11, 1, w1c, false, .num 0⟩, ⟨12, 1, w1c, false, .num 0⟩, ⟨13, 1, w1c, false, .num 0⟩,
       ⟨14, 1, w1c, false, .num 0⟩, ⟨15, 1, w1c, false, .num 0⟩, ⟨16, 16, rc, false, .num 0⟩]⟩
  | .RECORD_CMD => ⟨0xB0008, linear, [], .SYS, [⟨0, 4, wo, false, .num 0⟩]⟩
  | .RECORD_NUMBER => ⟨0xB000C, linear, [], .SYS, [⟨0, 16, rwq, true, .num 0⟩, ⟨16, 16, ro, false, .num 0xFFFF⟩]⟩
  | .RECORD_DRAIN_TO => ⟨0xB0010, linear, [], .SYS, [⟨0, 20, rw, true, .num 0x3E8⟩]⟩
  | .RECORD_MAINT_LIMIT => ⟨0xB0014, linear, [], .SYS, [⟨0, 20, rw, true, .num 0x1F4⟩]⟩
  | .RECORD_LEN_LO => ⟨0xB0018, linear, [], .SYS, [⟨0, 32, rwq, true, .num 0⟩]⟩
  | .RECORD_LEN_HI => ⟨0xB001C, linear, [], .SYS, [⟨0, 16, rwq, true, .num 0⟩]⟩
  | .RECORD_PART_EN_LO => ⟨0xB0020, linear, [], .SYS, [⟨0, 32, rwq, true, .parts false⟩]⟩
  | .RECORD_PART_EN_HI => ⟨0xB0024, linear, [], .SYS, [⟨0, 32, rwq, true, .parts true⟩]⟩
  | .RECORD_PART_DONE_LO => ⟨0xB0028, linear, [], .SYS, [⟨0, 32, ro, false, .num 0⟩]⟩
  | .RECORD_PART_DONE_HI => ⟨0xB002C, linear, [], .SYS, [⟨0, 32, ro, false, .num 0⟩]⟩
  | .RECORD_LAGGARD_LO => ⟨0xB0030, linear, [], .SYS, [⟨0, 32, ro, false, .num 0⟩]⟩
  | .RECORD_LAGGARD_HI => ⟨0xB0034, linear, [], .SYS, [⟨0, 32, ro, false, .num 0⟩]⟩
  | .RECORD_FW_DRAINED => ⟨0xB0038, linear, [], .SYS, [⟨0, 4, w1s, false, .num 0⟩]⟩
  | .RECORD_EVT_CNT => ⟨0xB003C, linear, [], .SYS, [⟨0, 16, rc, false, .num 0⟩, ⟨16, 16, rc, false, .num 0⟩]⟩
  | .RECORD_START_AT_LO => ⟨0xB0040, linear, [], .SYS, [⟨0, 32, ro, false, .num 0⟩]⟩
  | .RECORD_START_AT_HI => ⟨0xB0044, linear, [], .SYS, [⟨0, 32, ro, false, .num 0⟩]⟩
  | .RECORD_CLOSE_AT_LO => ⟨0xB0048, linear, [], .SYS, [⟨0, 32, ro, false, .num 0⟩]⟩
  | .RECORD_CLOSE_AT_HI => ⟨0xB004C, linear, [], .SYS, [⟨0, 32, ro, false, .num 0⟩]⟩
  | .RECORD_CLOSED_AT_LO => ⟨0xB0050, linear, [], .SYS, [⟨0, 32, ro, false, .num 0⟩]⟩
  | .RECORD_CLOSED_AT_HI => ⟨0xB0054, linear, [], .SYS, [⟨0, 32, ro, false, .num 0⟩]⟩
  | .RECORD_NI_DOMAIN => ⟨0xB0080, linear, [(8, 0x4)], .SYS, [⟨0, 32, rwq, true, .num 0⟩]⟩
  | .RECORD_LATE_CNT => ⟨0xB0400, linear, [(157, 0x4)], .SYS, [⟨0, 32, rc, false, .num 0⟩]⟩
  | _ => ⟨0, linear, [], .SYS, []⟩

/-- The registers of block TALLY. -/
def tallySpec : Reg → RegSpec
  | .TALLY_CTRL => ⟨0x80000, linear, [], .SYS, [⟨0, 1, w1s, false, .num 0⟩, ⟨1, 1, rw, true, .num 1⟩]⟩
  | .TALLY_STATUS => ⟨0x80004, linear, [], .SYS,
      [⟨0, 16, ro, false, .num 0⟩, ⟨16, 1, ro, false, .num 0⟩, ⟨17, 1, w1c, false, .num 0⟩,
       ⟨18, 1, w1c, false, .num 0⟩]⟩
  | .TALLY_TIME_LO => ⟨0x80008, linear, [], .SYS, [⟨0, 32, ro, false, .num 0⟩]⟩
  | .TALLY_TIME_HI => ⟨0x8000C, linear, [], .SYS, [⟨0, 32, ro, false, .num 0⟩]⟩
  | .TALLY_SEL => ⟨0x80010, linear, [], .SYS, [⟨0, 28, rw, false, .num 0⟩]⟩
  | .TALLY_SHADOW_LO => ⟨0x80014, linear, [], .SYS, [⟨0, 32, ro, false, .num 0⟩]⟩
  | .TALLY_SHADOW_HI => ⟨0x80018, linear, [], .SYS, [⟨0, 32, ro, false, .num 0⟩]⟩
  | .TALLY_SHADOW_SEQ => ⟨0x8001C, linear, [], .SYS, [⟨0, 16, ro, false, .num 0⟩, ⟨16, 1, ro, false, .num 0⟩]⟩
  | _ => ⟨0, linear, [], .SYS, []⟩

/-- The registers of block TBUS. -/
def tbusSpec : Reg → RegSpec
  | .TBUS_REF_CTRL => ⟨0x50000, linear, [], .POR, [⟨0, 2, rw, true, .num 0⟩, ⟨2, 1, ro, false, .num 0⟩]⟩
  | .TBUS_RX_FIFO => ⟨0x50010, linear, [], .SYS,
      [⟨0, 16, ro, false, .num 0⟩, ⟨16, 5, ro, false, .num 0⟩, ⟨31, 1, ro, false, .num 0⟩]⟩
  | .TBUS_RX_TIME_LO => ⟨0x50014, linear, [], .SYS, [⟨0, 32, ro, false, .num 0⟩]⟩
  | .TBUS_RX_TIME_HI => ⟨0x50018, linear, [], .SYS, [⟨0, 32, ro, false, .num 0⟩]⟩
  | .TBUS_RX_STAT => ⟨0x5001C, linear, [], .SYS,
      [⟨0, 6, ro, false, .num 0⟩, ⟨6, 1, w1c, false, .num 0⟩, ⟨16, 16, rc, false, .num 0⟩]⟩
  | .TBUS_LINE_CTRL => ⟨0x50100, linear, [(19, 0x40)], .SYS,
      [⟨0, 2, rw, true, .num 0⟩, ⟨2, 2, rw, true, .num 1⟩, ⟨4, 1, rw, true, .num 1⟩, ⟨5, 1, rw, true, .num 0⟩,
       ⟨6, 1, rw, true, .num 0⟩, ⟨7, 1, rw, true, .num 1⟩, ⟨8, 4, rw, true, .num 2⟩]⟩
  | .TBUS_LINE_TIMING => ⟨0x50104, linear, [(19, 0x40)], .SYS,
      [⟨0, 12, rw, true, .num 0x18⟩, ⟨12, 8, rw, true, .num 0x1E⟩, ⟨20, 3, rw, true, .num 3⟩,
       ⟨24, 4, rw, true, .num 4⟩]⟩
  | .TBUS_LINE_STATUS => ⟨0x50108, linear, [(19, 0x40)], .SYS,
      [⟨0, 2, ro, false, .num 0⟩, ⟨2, 1, ro, false, .num 0⟩, ⟨3, 1, w1c, false, .num 0⟩,
       ⟨4, 1, w1c, false, .num 0⟩, ⟨5, 1, w1c, false, .num 0⟩, ⟨6, 1, w1c, false, .num 0⟩,
       ⟨7, 1, w1c, false, .num 0⟩, ⟨8, 1, w1c, false, .num 0⟩, ⟨9, 1, w1c, false, .num 0⟩,
       ⟨10, 1, w1c, false, .num 0⟩]⟩
  | .TBUS_GOV_IMG => ⟨0x5010C, linear, [(19, 0x40)], .SYS,
      [⟨0, 8, rwl, true, .num 0xC⟩, ⟨8, 5, rwl, true, .num 0x18⟩, ⟨13, 11, rwl, true, .num 0x96⟩,
       ⟨24, 8, rwl, true, .num 0x64⟩]⟩
  | .TBUS_GOV_FW => ⟨0x50110, linear, [(19, 0x40)], .SYS, [⟨0, 32, rw, true, .num 0x6412D80C⟩]⟩
  | .TBUS_TX_DATA => ⟨0x50114, linear, [(19, 0x40)], .SYS, [⟨0, 16, rw, false, .num 0⟩, ⟨16, 1, w1s, false, .num 0⟩]⟩
  | .TBUS_MATCH => ⟨0x50118, linear, [(19, 0x40)], .SYS, [⟨0, 16, rw, true, .num 0⟩, ⟨16, 16, rw, true, .num 0⟩]⟩
  | .TBUS_CNT_TX => ⟨0x5011C, linear, [(19, 0x40)], .SYS, [⟨0, 32, ro, false, .num 0⟩]⟩
  | .TBUS_CNT_EXC => ⟨0x50120, linear, [(19, 0x40)], .SYS,
      [⟨0, 8, rc, false, .num 0⟩, ⟨8, 8, rc, false, .num 0⟩, ⟨16, 8, rc, false, .num 0⟩,
       ⟨24, 8, rc, false, .num 0⟩]⟩
  | _ => ⟨0, linear, [], .SYS, []⟩

/-- The registers of block LANE. -/
def laneSpec : Reg → RegSpec
  | .LANE_QUAD_CTRL => ⟨0x300000, linear, [(32, 0x4000)], .FUNC,
      [⟨0, 1, rw, true, .num 0⟩, ⟨16, 16, rwq, false, .num 0x3E8⟩]⟩
  | .LANE_QUAD_STATUS => ⟨0x300004, linear, [(32, 0x4000)], .FUNC,
      [⟨0, 2, ro, false, .num 0⟩, ⟨2, 1, ro, false, .num 0⟩, ⟨3, 1, ro, false, .num 0⟩, ⟨8, 1, w1c, false, .num 0⟩,
       ⟨9, 1, w1c, false, .num 0⟩, ⟨10, 1, w1c, false, .num 0⟩, ⟨11, 1, w1c, false, .num 0⟩,
       ⟨16, 16, rc, false, .num 0⟩]⟩
  | .LANE_QUAD_CFG => ⟨0x300008, linear, [(32, 0x4000)], .SYS,
      [⟨0, 3, rwq, true, .num 0⟩, ⟨3, 1, rwq, true, .num 0⟩, ⟨4, 1, rwq, true, .num 0⟩, ⟨5, 1, rwq, true, .num 1⟩,
       ⟨8, 4, rwq, true, .num 0⟩, ⟨12, 4, rwq, true, .num 0⟩, ⟨16, 16, rwq, true, .num 0⟩]⟩
  | .LANE_JESD_CFG => ⟨0x30000C, linear, [(32, 0x4000)], .SYS,
      [⟨0, 1, rwq, true, .num 1⟩, ⟨1, 1, rwq, true, .num 1⟩, ⟨4, 4, rwq, true, .num 0⟩, ⟨8, 8, rwq, true, .num 0⟩,
       ⟨16, 5, rwq, true, .num 0x1F⟩, ⟨21, 5, rwq, true, .num 0⟩]⟩
  | .LANE_SYSREF_CFG => ⟨0x300010, linear, [(32, 0x4000)], .SYS,
      [⟨0, 6, rwq, true, .num 0x13⟩, ⟨6, 1, rwq, true, .num 0⟩, ⟨7, 1, rwq, true, .num 1⟩,
       ⟨8, 16, rwq, true, .num 0⟩]⟩
  | .LANE_LEMC => ⟨0x300014, linear, [(32, 0x4000)], .FUNC, [⟨0, 16, ro, false, .num 0⟩, ⟨16, 16, ro, false, .num 0⟩]⟩
  | .LANE_TX_PIPE => ⟨0x30001C, linear, [(32, 0x4000)], .FUNC, [⟨0, 16, ro, false, .num 0⟩]⟩
  | .LANE_TX_GUARD => ⟨0x300018, linear, [(32, 0x4000)], .SYS,
      [⟨0, 4, rwl, true, .num 0⟩, ⟨4, 6, rwl, true, .num 0⟩, ⟨12, 11, rwl, true, .num 0⟩]⟩
  | .LANE_ALERT_CTRL => ⟨0x300020, linear, [(32, 0x4000)], .SYS,
      [⟨0, 1, rw, true, .num 0⟩, ⟨1, 1, rw, true, .num 1⟩, ⟨2, 1, rw, true, .num 1⟩, ⟨3, 1, rw, true, .num 0⟩]⟩
  | .LANE_ALERT_ADDR_LO => ⟨0x300024, linear, [(32, 0x4000)], .SYS, [⟨0, 32, rw, true, .num 0⟩]⟩
  | .LANE_ALERT_ADDR_HI => ⟨0x300028, linear, [(32, 0x4000)], .SYS, [⟨0, 16, rw, true, .num 0⟩]⟩
  | .LANE_RX_BASE_LO => ⟨0x0, lane, [], .SYS, [⟨0, 32, rwq, true, .num 0⟩]⟩
  | .LANE_RX_BASE_HI => ⟨0x4, lane, [], .SYS, [⟨0, 16, rwq, true, .num 0⟩]⟩
  | .LANE_TX_BASE_LO => ⟨0x10, lane, [], .SYS, [⟨0, 32, rwq, true, .num 0⟩]⟩
  | .LANE_TX_BASE_HI => ⟨0x14, lane, [], .SYS, [⟨0, 16, rwq, true, .num 0⟩]⟩
  | .LANE_RX_SIZE => ⟨0x8, lane, [], .SYS, [⟨0, 5, rwq, true, .num 0x10⟩, ⟨8, 4, rwq, true, .num 0xC⟩]⟩
  | .LANE_TX_SIZE => ⟨0x18, lane, [], .SYS, [⟨0, 5, rwq, true, .num 0x10⟩, ⟨8, 4, rwq, true, .num 0xC⟩]⟩
  | .LANE_TX_ANALOG => ⟨0x20, lane, [], .SYS,
      [⟨0, 11, rw, true, .num 0x1F4⟩, ⟨12, 4, rw, true, .num 0⟩, ⟨16, 6, rw, true, .num 0⟩,
       ⟨24, 1, rwq, true, .num 0⟩, ⟨25, 1, rwq, true, .num 0⟩]⟩
  | .LANE_TEST_CTRL => ⟨0x24, lane, [], .SYS, [⟨0, 3, rwq, true, .num 2⟩, ⟨4, 2, rwq, true, .num 0⟩]⟩
  | .LANE_LANE_STATUS => ⟨0x30, lane, [], .FUNC,
      [⟨0, 1, ro, false, .num 0⟩, ⟨1, 1, ro, false, .num 0⟩, ⟨2, 1, ro, false, .num 0⟩, ⟨3, 1, ro, false, .num 0⟩,
       ⟨4, 1, ro, false, .num 0⟩, ⟨8, 1, w1c, false, .num 0⟩, ⟨9, 1, w1c, false, .num 0⟩,
       ⟨10, 1, w1c, false, .num 0⟩, ⟨11, 1, w1c, false, .num 0⟩, ⟨12, 1, w1c, false, .num 0⟩,
       ⟨13, 1, w1c, false, .num 0⟩, ⟨14, 1, w1c, false, .num 0⟩, ⟨15, 1, w1c, false, .num 0⟩,
       ⟨16, 16, ro, false, .num 0⟩]⟩
  | .LANE_RX_START_LO => ⟨0x34, lane, [], .FUNC, [⟨0, 32, ro, false, .num 0⟩]⟩
  | .LANE_RX_START_HI => ⟨0x38, lane, [], .FUNC, [⟨0, 32, ro, false, .num 0⟩]⟩
  | .LANE_TX_START_LO => ⟨0x3C, lane, [], .FUNC, [⟨0, 32, ro, false, .num 0⟩]⟩
  | .LANE_TX_START_HI => ⟨0x40, lane, [], .FUNC, [⟨0, 32, ro, false, .num 0⟩]⟩
  | .LANE_RX_BYTES_LO => ⟨0x44, lane, [], .FUNC, [⟨0, 32, ro, false, .num 0⟩]⟩
  | .LANE_RX_BYTES_HI => ⟨0x48, lane, [], .FUNC, [⟨0, 32, ro, false, .num 0⟩]⟩
  | .LANE_RX_DROP => ⟨0x4C, lane, [], .FUNC, [⟨0, 32, rc, false, .num 0⟩]⟩
  | .LANE_ERR_CNT => ⟨0x50, lane, [], .FUNC, [⟨0, 16, rc, false, .num 0⟩, ⟨16, 16, rc, false, .num 0⟩]⟩
  | .LANE_TX_PTR => ⟨0x54, lane, [], .FUNC, [⟨0, 32, ro, false, .num 0⟩]⟩
  | .LANE_EYE_CTRL => ⟨0x60, lane, [], .SYS,
      [⟨0, 7, rw, false, .num 0⟩, ⟨8, 7, rw, false, .num 0⟩, ⟨16, 2, rw, false, .num 0⟩,
       ⟨20, 4, rw, false, .num 0⟩, ⟨31, 1, w1s, false, .num 0⟩]⟩
  | .LANE_EYE_RESULT => ⟨0x64, lane, [], .SYS,
      [⟨0, 30, ro, false, .num 0⟩, ⟨30, 1, ro, false, .num 0⟩, ⟨31, 1, ro, false, .num 0⟩]⟩
  | _ => ⟨0, linear, [], .SYS, []⟩

/-- The registers of block HBM. -/
def hbmSpec : Reg → RegSpec
  | .HBM_STATUS => ⟨0x200000, linear, [], .SYS,
      [⟨0, 1, ro, false, .num 0⟩, ⟨1, 1, ro, false, .num 0⟩, ⟨2, 1, ro, false, .num 0⟩, ⟨3, 1, w1c, false, .num 0⟩,
       ⟨4, 1, w1c, false, .num 0⟩, ⟨5, 1, w1c, false, .num 0⟩, ⟨6, 1, w1c, false, .num 0⟩,
       ⟨7, 1, w1c, false, .num 0⟩, ⟨8, 1, w1c, false, .num 0⟩, ⟨9, 1, w1c, false, .num 0⟩,
       ⟨10, 1, w1c, false, .num 0⟩, ⟨16, 8, ro, false, .num 0⟩]⟩
  | .HBM_CTRL => ⟨0x200004, linear, [], .SYS,
      [⟨0, 1, rw, true, .num 1⟩, ⟨8, 7, rw, true, .num 0x32⟩, ⟨16, 16, rw, true, .num 0x400⟩]⟩
  | .HBM_TEMP => ⟨0x200008, linear, [], .SYS, [⟨0, 8, ro, false, .num 0⟩, ⟨8, 8, rc, false, .num 0⟩]⟩
  | .HBM_PC_ECC => ⟨0x200100, linear, [(16, 0x10)], .FUNC, [⟨0, 16, rc, false, .num 0⟩, ⟨16, 16, rc, false, .num 0⟩]⟩
  | .HBM_PC_ERR_ADDR_LO => ⟨0x200104, linear, [(16, 0x10)], .FUNC, [⟨0, 32, ro, false, .num 0⟩]⟩
  | .HBM_PC_ERR_ADDR_HI => ⟨0x200108, linear, [(16, 0x10)], .FUNC, [⟨0, 2, ro, false, .num 0⟩]⟩
  | .HBM_PC_DROP => ⟨0x20010C, linear, [(16, 0x10)], .FUNC, [⟨0, 16, rc, false, .num 0⟩, ⟨16, 16, rc, false, .num 0⟩]⟩
  | .HBM_RING_BASE_LO => ⟨0x200400, linear, [(16, 0x40)], .SYS, [⟨0, 32, rw, true, .num 0⟩]⟩
  | .HBM_RING_BASE_HI => ⟨0x200404, linear, [(16, 0x40)], .SYS, [⟨0, 2, rw, true, .num 0⟩]⟩
  | .HBM_RING_SIZE => ⟨0x200408, linear, [(16, 0x40)], .SYS, [⟨0, 19, rw, true, .num 0⟩]⟩
  | .HBM_RING_CTRL => ⟨0x20040C, linear, [(16, 0x40)], .SYS,
      [⟨0, 1, rw, true, .num 0⟩, ⟨1, 1, rw, true, .num 0⟩, ⟨2, 1, rw, true, .num 0⟩, ⟨3, 1, w1s, false, .num 0⟩,
       ⟨4, 1, w1s, false, .num 0⟩, ⟨5, 1, ro, false, .num 0⟩, ⟨6, 1, ro, false, .num 0⟩, ⟨7, 1, ro, false, .num 0⟩]⟩
  | .HBM_RING_CAP_END_LO => ⟨0x200410, linear, [(16, 0x40)], .SYS, [⟨0, 32, ro, false, .num 0⟩]⟩
  | .HBM_RING_CAP_END_HI => ⟨0x200414, linear, [(16, 0x40)], .SYS, [⟨0, 32, ro, false, .num 0⟩]⟩
  | .HBM_RING_CAP_TIME_LO => ⟨0x200418, linear, [(16, 0x40)], .SYS, [⟨0, 32, ro, false, .num 0⟩]⟩
  | .HBM_RING_CAP_TIME_HI => ⟨0x20041C, linear, [(16, 0x40)], .SYS, [⟨0, 32, ro, false, .num 0⟩]⟩
  | .HBM_RING_CAP_FILL_LO => ⟨0x200420, linear, [(16, 0x40)], .SYS, [⟨0, 32, ro, false, .num 0⟩]⟩
  | .HBM_RING_CAP_FILL_HI => ⟨0x200424, linear, [(16, 0x40)], .SYS, [⟨0, 32, ro, false, .num 0⟩]⟩
  | .HBM_RING_CAP_INFO => ⟨0x200428, linear, [(16, 0x40)], .SYS,
      [⟨0, 16, ro, false, .num 0⟩, ⟨16, 4, ro, false, .num 0⟩]⟩
  | .HBM_RING_REC_BYTES_LO => ⟨0x20042C, linear, [(16, 0x40)], .FUNC, [⟨0, 32, ro, false, .num 0⟩]⟩
  | .HBM_RING_REC_BYTES_HI => ⟨0x200430, linear, [(16, 0x40)], .FUNC, [⟨0, 32, ro, false, .num 0⟩]⟩
  | .HBM_RING_PC_END => ⟨0x200800, linear, [(16, 0x40), (16, 0x4)], .SYS,
      [⟨0, 28, ro, false, .num 0⟩, ⟨31, 1, ro, false, .num 0⟩]⟩
  | _ => ⟨0, linear, [], .SYS, []⟩

/-- The registers of block STORE. -/
def storeSpec : Reg → RegSpec
  | .STORE_STATUS => ⟨0x500000, linear, [], .SYS,
      [⟨0, 1, ro, false, .num 0⟩, ⟨1, 1, ro, false, .num 0⟩, ⟨2, 1, w1c, false, .num 0⟩,
       ⟨3, 1, w1c, false, .num 0⟩, ⟨4, 1, w1c, false, .num 0⟩, ⟨5, 1, w1c, false, .num 0⟩,
       ⟨6, 1, w1c, false, .num 0⟩, ⟨8, 4, ro, false, .num 0⟩]⟩
  | .STORE_CMD => ⟨0x500004, linear, [], .SYS, [⟨0, 4, wo, false, .num 0⟩, ⟨8, 3, wo, false, .num 0⟩]⟩
  | .STORE_CFG => ⟨0x500008, linear, [], .SYS, [⟨0, 8, rw, true, .num 0⟩]⟩
  | .STORE_QMEM_LO => ⟨0x50000C, linear, [], .SYS, [⟨0, 32, rw, true, .num 0⟩]⟩
  | .STORE_QMEM_HI => ⟨0x500010, linear, [], .SYS, [⟨0, 2, rw, true, .num 0⟩]⟩
  | .STORE_CMD_TIMEOUT => ⟨0x500014, linear, [], .SYS, [⟨0, 16, rw, true, .num 0x3E8⟩]⟩
  | .STORE_CAT_SEQ => ⟨0x500018, linear, [], .SYS, [⟨0, 32, ro, false, .num 0⟩]⟩
  | .STORE_STRIPES => ⟨0x50001C, linear, [], .SYS, [⟨0, 32, ro, false, .num 0⟩]⟩
  | .STORE_DRV_STATUS => ⟨0x500100, linear, [(8, 0x20)], .SYS,
      [⟨0, 3, ro, false, .num 0⟩, ⟨3, 3, ro, false, .num 0⟩, ⟨6, 3, ro, false, .num 0⟩, ⟨9, 1, ro, false, .num 0⟩,
       ⟨10, 1, ro, false, .num 0⟩, ⟨16, 4, ro, false, .num 0⟩]⟩
  | .STORE_DRV_ERR => ⟨0x500104, linear, [(8, 0x20)], .SYS,
      [⟨0, 8, ro, false, .num 0⟩, ⟨8, 3, ro, false, .num 0⟩, ⟨16, 16, rc, false, .num 0⟩]⟩
  | .STORE_CH_CTRL => ⟨0x500400, linear, [(8, 0x80)], .FUNC,
      [⟨0, 1, rw, true, .num 0⟩, ⟨16, 16, rwq, false, .num 0x3E8⟩]⟩
  | .STORE_CH_STATUS => ⟨0x500404, linear, [(8, 0x80)], .FUNC,
      [⟨0, 2, ro, false, .num 0⟩, ⟨2, 1, w1c, false, .num 0⟩, ⟨3, 1, w1c, false, .num 0⟩,
       ⟨4, 1, w1c, false, .num 0⟩, ⟨5, 1, w1c, false, .num 0⟩, ⟨8, 1, w1c, false, .num 0⟩,
       ⟨9, 1, w1c, false, .num 0⟩, ⟨16, 16, rc, false, .num 0⟩]⟩
  | .STORE_CH_CFG => ⟨0x500408, linear, [(8, 0x80)], .SYS,
      [⟨0, 1, rwq, true, .num 0⟩, ⟨1, 1, rwq, true, .num 0⟩, ⟨2, 1, rwq, true, .num 0⟩]⟩
  | .STORE_CH_RING_LO => ⟨0x50040C, linear, [(8, 0x80)], .SYS, [⟨0, 32, rwq, true, .num 0⟩]⟩
  | .STORE_CH_RING_HI => ⟨0x500410, linear, [(8, 0x80)], .SYS, [⟨0, 16, rwq, true, .num 0⟩]⟩
  | .STORE_CH_MIRROR_LO => ⟨0x500420, linear, [(8, 0x80)], .SYS, [⟨0, 32, rwq, true, .num 0⟩]⟩
  | .STORE_CH_MIRROR_HI => ⟨0x500424, linear, [(8, 0x80)], .SYS, [⟨0, 16, rwq, true, .num 0⟩]⟩
  | .STORE_CH_RING_SIZE => ⟨0x500414, linear, [(8, 0x80)], .SYS, [⟨0, 13, rwq, true, .num 0⟩]⟩
  | .STORE_CH_PROD => ⟨0x500418, linear, [(8, 0x80)], .FUNC, [⟨0, 32, rw, false, .num 0⟩]⟩
  | .STORE_CH_CONS => ⟨0x50041C, linear, [(8, 0x80)], .FUNC, [⟨0, 32, rw, false, .num 0⟩]⟩
  | .STORE_CH_PART_FIRST => ⟨0x500428, linear, [(8, 0x80)], .SYS, [⟨0, 32, rwq, true, .num 0⟩]⟩
  | .STORE_CH_PART_STRIPES => ⟨0x50042C, linear, [(8, 0x80)], .SYS, [⟨0, 32, rwq, true, .num 0⟩]⟩
  | .STORE_CH_PB_SEQ => ⟨0x500430, linear, [(8, 0x80)], .SYS, [⟨0, 32, rwq, true, .num 0⟩]⟩
  | .STORE_CH_REC_BYTES_LO => ⟨0x500434, linear, [(8, 0x80)], .FUNC, [⟨0, 32, ro, false, .num 0⟩]⟩
  | .STORE_CH_REC_BYTES_HI => ⟨0x500438, linear, [(8, 0x80)], .FUNC, [⟨0, 32, ro, false, .num 0⟩]⟩
  | .STORE_CH_LOST => ⟨0x50043C, linear, [(8, 0x80)], .FUNC, [⟨0, 32, rc, false, .num 0⟩]⟩
  | _ => ⟨0, linear, [], .SYS, []⟩

/-- The registers of block HOST. -/
def hostSpec : Reg → RegSpec
  | .HOST_LINK_STATUS => ⟨0x400000, linear, [], .PERST,
      [⟨0, 3, ro, false, .num 0⟩, ⟨3, 5, ro, false, .num 0⟩, ⟨8, 1, ro, false, .num 0⟩, ⟨9, 1, ro, false, .num 0⟩,
       ⟨10, 1, ro, false, .num 0⟩, ⟨11, 1, ro, false, .num 0⟩, ⟨12, 1, ro, false, .num 0⟩]⟩
  | .HOST_STATUS => ⟨0x400004, linear, [], .SYS,
      [⟨0, 1, w1c, false, .num 0⟩, ⟨1, 1, w1c, false, .num 0⟩, ⟨2, 1, w1c, false, .num 0⟩,
       ⟨3, 1, w1c, false, .num 0⟩, ⟨4, 1, w1c, false, .num 0⟩, ⟨5, 1, w1c, false, .num 0⟩,
       ⟨6, 1, w1c, false, .num 0⟩, ⟨7, 1, w1c, false, .num 0⟩]⟩
  | .HOST_BAR_CTRL => ⟨0x400008, linear, [], .SYS, [⟨0, 1, rw, true, .num 1⟩]⟩
  | .HOST_BAR_ERR => ⟨0x40000C, linear, [], .SYS, [⟨0, 12, rc, false, .num 0⟩, ⟨12, 12, rc, false, .num 0⟩]⟩
  | .HOST_BAR_ERR_INFO => ⟨0x400010, linear, [], .SYS,
      [⟨0, 8, ro, false, .num 0⟩, ⟨8, 2, ro, false, .num 0⟩, ⟨10, 1, ro, false, .num 0⟩,
       ⟨31, 1, w1c, false, .num 0⟩]⟩
  | .HOST_BAR_ERR_ADDR_LO => ⟨0x400014, linear, [], .SYS, [⟨0, 32, ro, false, .num 0⟩]⟩
  | .HOST_BAR_ERR_ADDR_HI => ⟨0x400018, linear, [], .SYS, [⟨0, 16, ro, false, .num 0⟩]⟩
  | .HOST_DMA_CTRL => ⟨0x400020, linear, [], .PERST, [⟨0, 1, rw, true, .num 0⟩]⟩
  | .HOST_LINK_CNT => ⟨0x400024, linear, [], .POR, [⟨0, 16, ro, false, .num 0⟩, ⟨16, 16, ro, false, .num 0⟩]⟩
  | .HOST_WIN_ERR => ⟨0x400028, linear, [], .SYS, [⟨0, 16, rc, false, .num 0⟩, ⟨16, 16, rc, false, .num 0⟩]⟩
  | .HOST_XLAT_INDEX => ⟨0x400100, linear, [], .SYS, [⟨0, 12, rw, false, .num 0⟩, ⟨12, 1, rw, false, .num 0⟩]⟩
  | .HOST_XLAT_DATA_LO => ⟨0x400104, linear, [], .PERST,
      [⟨0, 1, rw, true, .num 0⟩, ⟨1, 1, rw, true, .num 0⟩, ⟨2, 1, rw, true, .num 0⟩, ⟨26, 6, rw, true, .num 0⟩]⟩
  | .HOST_XLAT_DATA_HI => ⟨0x400108, linear, [], .PERST, [⟨0, 32, rw, true, .num 0⟩]⟩
  | .HOST_CH_CTRL => ⟨0x401000, linear, [(32, 0x100)], .PERST,
      [⟨0, 1, rw, true, .num 0⟩, ⟨1, 1, rw, true, .num 0⟩, ⟨16, 16, rwq, false, .num 0x3E8⟩]⟩
  | .HOST_CH_STATUS => ⟨0x401004, linear, [(32, 0x100)], .SYS,
      [⟨0, 2, ro, false, .num 0⟩, ⟨3, 1, w1c, false, .num 0⟩, ⟨4, 1, w1c, false, .num 0⟩,
       ⟨5, 1, w1c, false, .num 0⟩, ⟨6, 1, w1c, false, .num 0⟩, ⟨8, 1, w1c, false, .num 0⟩,
       ⟨9, 1, w1c, false, .num 0⟩, ⟨16, 16, rc, false, .num 0⟩]⟩
  | .HOST_CH_RING_LO => ⟨0x401008, linear, [(32, 0x100)], .PERST, [⟨0, 32, rwq, true, .num 0⟩]⟩
  | .HOST_CH_RING_HI => ⟨0x40100C, linear, [(32, 0x100)], .PERST, [⟨0, 32, rwq, true, .num 0⟩]⟩
  | .HOST_CH_RING_SIZE => ⟨0x401010, linear, [(32, 0x100)], .PERST, [⟨0, 5, rwq, true, .num 4⟩]⟩
  | .HOST_CH_HEAD => ⟨0x401014, linear, [(32, 0x100)], .SYS, [⟨0, 16, ro, false, .num 0⟩]⟩
  | .HOST_CH_TAIL => ⟨0x401018, linear, [(32, 0x100)], .SYS, [⟨0, 16, rw, false, .num 0⟩]⟩
  | .HOST_CH_IRQ => ⟨0x40101C, linear, [(32, 0x100)], .PERST,
      [⟨0, 6, rw, true, .chVector⟩, ⟨6, 1, rw, true, .num 0⟩, ⟨16, 16, rw, true, .num 0⟩]⟩
  | .HOST_CH_BYTES_LO => ⟨0x401020, linear, [(32, 0x100)], .SYS, [⟨0, 32, ro, false, .num 0⟩]⟩
  | .HOST_CH_BYTES_HI => ⟨0x401024, linear, [(32, 0x100)], .SYS, [⟨0, 32, ro, false, .num 0⟩]⟩
  | .HOST_CH_ERR => ⟨0x401028, linear, [(32, 0x100)], .SYS, [⟨0, 16, rc, false, .num 0⟩, ⟨16, 16, rc, false, .num 0⟩]⟩
  | _ => ⟨0, linear, [], .SYS, []⟩

/-- The registers of block SEQ. -/
def seqSpec : Reg → RegSpec
  | .SEQ_BOOT_STATUS => ⟨0x800000, linear, [], .SYS,
      [⟨0, 1, ro, false, .num 0⟩, ⟨1, 3, ro, false, .num 0⟩, ⟨7, 1, w1c, false, .num 0⟩]⟩
  | .SEQ_DOORBELL => ⟨0x800004, linear, [], .SYS, [⟨0, 4, w1s, false, .num 0⟩]⟩
  | .SEQ_MEM_ECC => ⟨0x800008, linear, [], .SYS, [⟨0, 16, rc, false, .num 0⟩, ⟨16, 16, rc, false, .num 0⟩]⟩
  | .SEQ_CORE_CTRL => ⟨0x801000, linear, [(4, 0x100)], .SYS,
      [⟨0, 1, rw, true, .num 0⟩, ⟨16, 16, rwq, false, .num 0x3E8⟩]⟩
  | .SEQ_CORE_STATUS => ⟨0x801004, linear, [(4, 0x100)], .SYS,
      [⟨0, 2, ro, false, .num 0⟩, ⟨2, 1, ro, false, .num 1⟩, ⟨8, 1, w1c, false, .num 0⟩,
       ⟨9, 1, w1c, false, .num 0⟩, ⟨16, 16, rc, false, .num 0⟩]⟩
  | .SEQ_CORE_PC => ⟨0x801008, linear, [(4, 0x100)], .SYS, [⟨0, 32, rwq, true, .resetPc⟩]⟩
  | .SEQ_FAR_BASE_LO => ⟨0x801010, linear, [(4, 0x100)], .SYS, [⟨0, 32, rw, false, .num 0⟩]⟩
  | .SEQ_FAR_BASE_HI => ⟨0x801014, linear, [(4, 0x100)], .SYS, [⟨0, 16, rw, false, .num 0⟩]⟩
  | .SEQ_FAR_CTRL => ⟨0x801018, linear, [(4, 0x100)], .SYS, [⟨0, 1, rw, false, .num 0⟩]⟩
  | .SEQ_FAULT => ⟨0x80101C, linear, [(4, 0x100)], .SYS, [⟨0, 8, ro, false, .num 0⟩, ⟨31, 1, w1c, false, .num 0⟩]⟩
  | .SEQ_FAULT_ADDR_LO => ⟨0x801020, linear, [(4, 0x100)], .SYS, [⟨0, 32, ro, false, .num 0⟩]⟩
  | .SEQ_FAULT_ADDR_HI => ⟨0x801024, linear, [(4, 0x100)], .SYS, [⟨0, 16, ro, false, .num 0⟩]⟩
  | .SEQ_EVT => ⟨0x801028, linear, [(4, 0x100)], .SYS, [⟨0, 1, wo, false, .num 0⟩]⟩
  | .SEQ_IC_EN_LO => ⟨0x801040, linear, [(4, 0x100)], .SYS, [⟨0, 32, rw, false, .num 0⟩]⟩
  | .SEQ_IC_EN_HI => ⟨0x801044, linear, [(4, 0x100)], .SYS, [⟨0, 8, rw, false, .num 0⟩]⟩
  | .SEQ_IC_PEND_LO => ⟨0x801048, linear, [(4, 0x100)], .SYS, [⟨0, 32, w1c, false, .num 0⟩]⟩
  | .SEQ_IC_PEND_HI => ⟨0x80104C, linear, [(4, 0x100)], .SYS, [⟨0, 8, w1c, false, .num 0⟩]⟩
  | .SEQ_IC_PRIO => ⟨0x801050, linear, [(4, 0x100), (5, 0x4)], .SYS,
      [⟨0, 3, rw, false, .num 0⟩, ⟨4, 3, rw, false, .num 0⟩, ⟨8, 3, rw, false, .num 0⟩, ⟨12, 3, rw, false, .num 0⟩,
       ⟨16, 3, rw, false, .num 0⟩, ⟨20, 3, rw, false, .num 0⟩, ⟨24, 3, rw, false, .num 0⟩,
       ⟨28, 3, rw, false, .num 0⟩]⟩
  | .SEQ_IC_THRESH => ⟨0x801064, linear, [(4, 0x100)], .SYS, [⟨0, 3, rw, false, .num 0⟩]⟩
  | .SEQ_IC_CLAIM => ⟨0x801068, linear, [(4, 0x100)], .SYS, [⟨0, 6, ro, false, .num 0x3F⟩]⟩
  | .SEQ_MTIMECMP_LO => ⟨0x801070, linear, [(4, 0x100)], .SYS, [⟨0, 32, rw, false, .num 0xFFFFFFFF⟩]⟩
  | .SEQ_MTIMECMP_HI => ⟨0x801074, linear, [(4, 0x100)], .SYS, [⟨0, 32, rw, false, .num 0xFFFFFFFF⟩]⟩
  | .SEQ_GUARD_STATUS => ⟨0x800800, linear, [], .SYS,
      [⟨0, 1, ro, false, .num 0⟩, ⟨1, 1, w1c, false, .num 0⟩, ⟨2, 1, w1c, false, .num 0⟩,
       ⟨3, 1, w1c, false, .num 0⟩, ⟨4, 4, ro, false, .num 0⟩, ⟨16, 16, rc, false, .num 0⟩]⟩
  | .SEQ_GUARD_POLICY => ⟨0x800804, linear, [], .SYS, [⟨0, 2, rwl, true, .num 0⟩, ⟨2, 1, rwl, true, .num 0⟩]⟩
  | .SEQ_GUARD_BREACH => ⟨0x800808, linear, [], .SYS, [⟨0, 28, ro, false, .num 0⟩, ⟨31, 1, w1c, false, .num 0⟩]⟩
  | .SEQ_POWER_CEIL => ⟨0x80080C, linear, [], .SYS, [⟨0, 10, rwl, true, .num 0⟩, ⟨16, 10, rw, true, .num 0⟩]⟩
  | .SEQ_POWER_NOW => ⟨0x800810, linear, [], .SYS, [⟨0, 10, ro, false, .num 0⟩]⟩
  | .SEQ_GUARD_PINS => ⟨0x800820, linear, [(7, 0x4)], .SYS, [⟨0, 32, rwl, true, .num 0⟩]⟩
  | _ => ⟨0, linear, [], .SYS, []⟩

/-- The registers of block WDOG. -/
def wdogSpec : Reg → RegSpec
  | .WDOG_CTRL => ⟨0xA0000, linear, [(5, 0x20)], .SYS,
      [⟨0, 1, w1s, false, .num 0⟩, ⟨1, 1, rw, true, .num 0⟩, ⟨2, 1, rw, true, .num 1⟩]⟩
  | .WDOG_LOAD => ⟨0xA0004, linear, [(5, 0x20)], .SYS, [⟨0, 24, rw, true, .num 0xF4240⟩]⟩
  | .WDOG_WARN => ⟨0xA0008, linear, [(5, 0x20)], .SYS, [⟨0, 24, rw, true, .num 0x186A0⟩]⟩
  | .WDOG_GRACE => ⟨0xA000C, linear, [(5, 0x20)], .SYS, [⟨0, 24, rw, true, .num 0x400⟩]⟩
  | .WDOG_KICK => ⟨0xA0010, linear, [(5, 0x20)], .SYS, [⟨0, 16, wo, false, .num 0⟩]⟩
  | .WDOG_COUNT => ⟨0xA0014, linear, [(5, 0x20)], .SYS, [⟨0, 24, ro, false, .num 0⟩, ⟨24, 1, ro, false, .num 0⟩]⟩
  | .WDOG_STATUS => ⟨0xA0018, linear, [(5, 0x20)], .POR,
      [⟨0, 1, w1c, false, .num 0⟩, ⟨1, 1, w1c, false, .num 0⟩, ⟨16, 16, ro, false, .num 0⟩]⟩
  | _ => ⟨0, linear, [], .SYS, []⟩

/-- The registers of block PIN. -/
def pinSpec : Reg → RegSpec
  | .PIN_STATUS => ⟨0x60000, linear, [], .SYS,
      [⟨0, 1, w1c, false, .num 0⟩, ⟨1, 1, w1c, false, .num 0⟩, ⟨2, 1, w1c, false, .num 0⟩,
       ⟨3, 1, w1c, false, .num 0⟩, ⟨4, 1, w1c, false, .num 0⟩]⟩
  | .PIN_CONFLICT => ⟨0x60004, linear, [], .SYS,
      [⟨0, 8, ro, false, .num 0⟩, ⟨8, 8, ro, false, .num 0⟩, ⟨16, 8, ro, false, .num 0⟩,
       ⟨31, 1, w1c, false, .num 0⟩]⟩
  | .PIN_EXTL_STATUS => ⟨0x60008, linear, [], .SYS, [⟨0, 16, w1c, false, .num 0⟩]⟩
  | .PIN_BANK_STATUS => ⟨0x600C0, linear, [(13, 0x4)], .POR, [⟨0, 3, ro, false, .num 0⟩]⟩
  | .PIN_EXTL_CFG => ⟨0x60040, linear, [(16, 0x4)], .SYS,
      [⟨0, 4, rw, true, .num 0⟩, ⟨4, 3, rw, true, .num 0⟩, ⟨7, 1, rw, true, .num 0⟩, ⟨8, 4, rw, true, .num 2⟩]⟩
  | .PIN_GPIO_OUT => ⟨0x60100, linear, [(13, 0x20)], .SYS, [⟨0, 16, rw, false, .num 0⟩]⟩
  | .PIN_GPIO_OE => ⟨0x60104, linear, [(13, 0x20)], .SYS, [⟨0, 16, rw, false, .num 0⟩]⟩
  | .PIN_GPIO_IN => ⟨0x60108, linear, [(13, 0x20)], .SYS, [⟨0, 16, ro, false, .num 0⟩]⟩
  | .PIN_GPIO_SET => ⟨0x6010C, linear, [(13, 0x20)], .SYS, [⟨0, 16, wo, false, .num 0⟩]⟩
  | .PIN_GPIO_CLR => ⟨0x60110, linear, [(13, 0x20)], .SYS, [⟨0, 16, wo, false, .num 0⟩]⟩
  | .PIN_PAD => ⟨0x60400, linear, [(208, 0x4)], .SYS,
      [⟨0, 3, rw, true, .num 0⟩, ⟨3, 3, rw, true, .num 0⟩, ⟨6, 2, rw, true, .num 0⟩, ⟨8, 2, rw, true, .num 0⟩,
       ⟨10, 1, rw, true, .num 0⟩, ⟨11, 1, rw, true, .num 0⟩, ⟨12, 4, rw, true, .num 0⟩, ⟨16, 1, rw, true, .num 0⟩]⟩
  | .PIN_STN_STAT => ⟨0x60800, linear, [(192, 0x4)], .SYS, [⟨0, 16, rc, false, .num 0⟩, ⟨16, 16, rc, false, .num 0⟩]⟩
  | _ => ⟨0, linear, [], .SYS, []⟩

/-- The registers of block I2C. -/
def i2cSpec : Reg → RegSpec
  | .I2C_CTRL => ⟨0x900000, linear, [(4, 0x100)], .SYS,
      [⟨0, 1, rw, true, .num 0⟩, ⟨1, 1, rw, true, .num 0⟩, ⟨2, 2, rw, true, .num 0⟩, ⟨4, 1, rw, true, .num 1⟩,
       ⟨8, 7, rw, true, .num 0⟩, ⟨16, 16, rw, true, .num 0x19⟩]⟩
  | .I2C_CMD => ⟨0x900004, linear, [(4, 0x100)], .SYS,
      [⟨0, 7, rw, false, .num 0⟩, ⟨7, 1, rw, false, .num 0⟩, ⟨8, 8, rw, false, .num 0⟩, ⟨16, 1, rw, false, .num 1⟩,
       ⟨31, 1, w1s, false, .num 0⟩]⟩
  | .I2C_TXDATA => ⟨0x900008, linear, [(4, 0x100)], .SYS, [⟨0, 8, wo, false, .num 0⟩]⟩
  | .I2C_RXDATA => ⟨0x90000C, linear, [(4, 0x100)], .SYS, [⟨0, 8, ro, false, .num 0⟩, ⟨31, 1, ro, false, .num 0⟩]⟩
  | .I2C_STATUS => ⟨0x900010, linear, [(4, 0x100)], .SYS,
      [⟨0, 1, ro, false, .num 0⟩, ⟨1, 1, w1c, false, .num 0⟩, ⟨2, 1, w1c, false, .num 0⟩,
       ⟨3, 1, w1c, false, .num 0⟩, ⟨4, 1, w1c, false, .num 0⟩, ⟨5, 1, w1c, false, .num 0⟩,
       ⟨6, 1, w1c, false, .num 0⟩, ⟨7, 1, w1c, false, .num 0⟩, ⟨8, 5, ro, false, .num 0⟩,
       ⟨16, 5, ro, false, .num 0⟩]⟩
  | _ => ⟨0, linear, [], .SYS, []⟩

/-- The registers of block SPI. -/
def spiSpec : Reg → RegSpec
  | .SPI_CTRL => ⟨0x901000, linear, [(4, 0x100)], .SYS,
      [⟨0, 1, rw, true, .num 0⟩, ⟨1, 2, rw, true, .num 0⟩, ⟨3, 1, rw, true, .num 0⟩, ⟨4, 5, rw, true, .num 7⟩,
       ⟨9, 1, rw, true, .num 0⟩, ⟨16, 16, rw, true, .num 8⟩]⟩
  | .SPI_TXDATA => ⟨0x901004, linear, [(4, 0x100)], .SYS, [⟨0, 32, wo, false, .num 0⟩]⟩
  | .SPI_RXDATA => ⟨0x901008, linear, [(4, 0x100)], .SYS, [⟨0, 32, ro, false, .num 0⟩]⟩
  | .SPI_STATUS => ⟨0x90100C, linear, [(4, 0x100)], .SYS,
      [⟨0, 1, ro, false, .num 0⟩, ⟨1, 1, w1c, false, .num 0⟩, ⟨2, 1, w1c, false, .num 0⟩,
       ⟨3, 1, w1c, false, .num 0⟩, ⟨7, 1, w1c, false, .num 0⟩, ⟨8, 4, ro, false, .num 0⟩,
       ⟨16, 4, ro, false, .num 0⟩]⟩
  | _ => ⟨0, linear, [], .SYS, []⟩

/-- The registers of block UART. -/
def uartSpec : Reg → RegSpec
  | .UART_CTRL => ⟨0x902000, linear, [(4, 0x100)], .SYS,
      [⟨0, 1, rw, true, .num 0⟩, ⟨1, 1, rw, true, .num 0⟩, ⟨2, 2, rw, true, .num 3⟩, ⟨4, 2, rw, true, .num 0⟩,
       ⟨6, 1, rw, true, .num 0⟩]⟩
  | .UART_BAUD => ⟨0x902004, linear, [(4, 0x100)], .SYS, [⟨0, 4, rw, true, .num 8⟩, ⟨4, 16, rw, true, .num 0x6C⟩]⟩
  | .UART_TXDATA => ⟨0x902008, linear, [(4, 0x100)], .SYS, [⟨0, 8, wo, false, .num 0⟩]⟩
  | .UART_RXDATA => ⟨0x90200C, linear, [(4, 0x100)], .SYS,
      [⟨0, 8, ro, false, .num 0⟩, ⟨8, 1, ro, false, .num 0⟩, ⟨9, 1, ro, false, .num 0⟩, ⟨10, 1, ro, false, .num 0⟩,
       ⟨31, 1, ro, false, .num 0⟩]⟩
  | .UART_STATUS => ⟨0x902010, linear, [(4, 0x100)], .SYS,
      [⟨0, 1, ro, false, .num 0⟩, ⟨1, 1, w1c, false, .num 0⟩, ⟨2, 1, w1c, false, .num 0⟩,
       ⟨3, 1, w1c, false, .num 0⟩, ⟨4, 1, w1c, false, .num 0⟩, ⟨5, 1, w1c, false, .num 0⟩,
       ⟨6, 1, w1c, false, .num 0⟩, ⟨7, 1, w1c, false, .num 0⟩, ⟨8, 6, ro, false, .num 0⟩,
       ⟨16, 6, ro, false, .num 0⟩]⟩
  | _ => ⟨0, linear, [], .SYS, []⟩

/-- The registers of block PMB. -/
def pmbSpec : Reg → RegSpec
  | .PMB_CTRL => ⟨0x903000, linear, [], .SYS,
      [⟨0, 1, rw, true, .num 0⟩, ⟨1, 2, rw, true, .num 0⟩, ⟨3, 1, rw, true, .num 0⟩, ⟨4, 1, rw, true, .num 0⟩]⟩
  | .PMB_CMD => ⟨0x903004, linear, [], .SYS,
      [⟨0, 7, rw, false, .num 0⟩, ⟨8, 8, rw, false, .num 0⟩, ⟨16, 3, rw, false, .num 0⟩,
       ⟨20, 6, rw, false, .num 0⟩, ⟨31, 1, w1s, false, .num 0⟩]⟩
  | .PMB_TXDATA => ⟨0x903008, linear, [], .SYS, [⟨0, 8, wo, false, .num 0⟩]⟩
  | .PMB_RXDATA => ⟨0x90300C, linear, [], .SYS, [⟨0, 8, ro, false, .num 0⟩, ⟨31, 1, ro, false, .num 0⟩]⟩
  | .PMB_STATUS => ⟨0x903010, linear, [], .SYS,
      [⟨0, 1, ro, false, .num 0⟩, ⟨1, 1, w1c, false, .num 0⟩, ⟨2, 1, w1c, false, .num 0⟩,
       ⟨3, 1, w1c, false, .num 0⟩, ⟨4, 1, w1c, false, .num 0⟩, ⟨5, 1, w1c, false, .num 0⟩,
       ⟨6, 1, w1c, false, .num 0⟩, ⟨7, 1, w1c, false, .num 0⟩, ⟨8, 1, ro, false, .num 0⟩,
       ⟨9, 1, ro, false, .num 0⟩, ⟨16, 6, ro, false, .num 0⟩, ⟨24, 6, ro, false, .num 0⟩]⟩
  | _ => ⟨0, linear, [], .SYS, []⟩

/-- The registers of block PT. -/
def ptSpec : Reg → RegSpec
  | .PT_CTRL => ⟨0x904000, linear, [(8, 0x20)], .SYS,
      [⟨0, 1, rw, true, .num 0⟩, ⟨1, 2, rw, true, .num 0⟩, ⟨3, 1, rw, true, .num 0⟩, ⟨4, 2, rw, true, .num 0⟩,
       ⟨16, 16, rw, true, .num 1⟩]⟩
  | .PT_CMP_LO => ⟨0x904004, linear, [(8, 0x20)], .SYS, [⟨0, 32, rw, false, .num 0⟩]⟩
  | .PT_CMP_HI => ⟨0x904008, linear, [(8, 0x20)], .SYS, [⟨0, 32, rw, false, .num 0⟩]⟩
  | .PT_PERIOD => ⟨0x90400C, linear, [(8, 0x20)], .SYS, [⟨0, 32, rw, false, .num 0⟩]⟩
  | .PT_CAP_LO => ⟨0x904010, linear, [(8, 0x20)], .SYS, [⟨0, 32, ro, false, .num 0⟩]⟩
  | .PT_CAP_HI => ⟨0x904014, linear, [(8, 0x20)], .SYS, [⟨0, 32, ro, false, .num 0⟩]⟩
  | .PT_STATUS => ⟨0x904018, linear, [(8, 0x20)], .SYS,
      [⟨0, 1, w1c, false, .num 0⟩, ⟨1, 1, w1c, false, .num 0⟩, ⟨2, 1, w1c, false, .num 0⟩,
       ⟨3, 1, w1c, false, .num 0⟩]⟩
  | _ => ⟨0, linear, [], .SYS, []⟩

/-- The registers of block DBG. -/
def dbgSpec : Reg → RegSpec
  | .DBG_AUTH => ⟨0x90000, linear, [], .POR,
      [⟨0, 1, ro, false, .num 0⟩, ⟨1, 1, ro, false, .num 0⟩, ⟨16, 16, wo, false, .num 0⟩]⟩
  | .DBG_CTRL => ⟨0x90004, linear, [], .DBG,
      [⟨0, 1, rw, false, .num 0⟩, ⟨1, 1, wo, false, .num 0⟩, ⟨16, 16, wo, false, .num 0⟩]⟩
  | .DBG_STATUS => ⟨0x90008, linear, [], .DBG,
      [⟨0, 1, w1c, false, .num 0⟩, ⟨1, 1, w1c, false, .num 0⟩, ⟨2, 1, w1c, false, .num 0⟩,
       ⟨3, 1, w1c, false, .num 0⟩, ⟨4, 1, w1c, false, .num 0⟩, ⟨8, 4, ro, false, .num 0⟩]⟩
  | .DBG_CORE_RC => ⟨0x90100, linear, [(4, 0x40)], .DBG,
      [⟨0, 1, w1s, false, .num 0⟩, ⟨1, 1, w1s, false, .num 0⟩, ⟨2, 1, w1s, false, .num 0⟩,
       ⟨3, 1, rw, false, .num 1⟩, ⟨4, 1, rw, false, .num 0⟩, ⟨5, 1, rw, false, .num 0⟩, ⟨8, 1, ro, false, .num 0⟩,
       ⟨9, 3, ro, false, .num 0⟩]⟩
  | .DBG_CORE_REG_SEL => ⟨0x90104, linear, [(4, 0x40)], .DBG, [⟨0, 13, rw, false, .num 0⟩]⟩
  | .DBG_CORE_REG_DATA => ⟨0x90108, linear, [(4, 0x40)], .DBG, [⟨0, 32, rw, false, .num 0⟩]⟩
  | .DBG_CORE_MEM_ADDR => ⟨0x9010C, linear, [(4, 0x40)], .DBG, [⟨0, 32, rw, false, .num 0⟩]⟩
  | .DBG_CORE_MEM_DATA => ⟨0x90110, linear, [(4, 0x40)], .DBG, [⟨0, 32, rw, false, .num 0⟩]⟩
  | .DBG_CMP_CTRL => ⟨0x90400, linear, [(4, 0x80), (8, 0x10)], .DBG,
      [⟨0, 1, rw, false, .num 0⟩, ⟨1, 3, rw, false, .num 0⟩, ⟨4, 3, rw, false, .num 0⟩, ⟨7, 2, rw, false, .num 0⟩,
       ⟨9, 1, ro, false, .num 0⟩, ⟨10, 1, w1c, false, .num 0⟩, ⟨16, 16, rc, false, .num 0⟩]⟩
  | .DBG_CMP_A => ⟨0x90404, linear, [(4, 0x80), (8, 0x10)], .DBG, [⟨0, 32, rw, false, .num 0⟩]⟩
  | .DBG_CMP_B => ⟨0x90408, linear, [(4, 0x80), (8, 0x10)], .DBG, [⟨0, 32, rw, false, .num 0⟩]⟩
  | .DBG_XT_CTRL => ⟨0x90800, linear, [(2, 0x4)], .DBG,
      [⟨0, 8, rw, false, .num 0⟩, ⟨8, 4, rw, false, .num 0⟩, ⟨12, 1, ro, false, .num 0⟩]⟩
  | .DBG_XT_FIRE => ⟨0x90808, linear, [], .DBG, [⟨0, 2, wo, false, .num 0⟩]⟩
  | .DBG_XT_CLEAR => ⟨0x9080C, linear, [], .DBG, [⟨0, 2, wo, false, .num 0⟩, ⟨2, 1, wo, false, .num 0⟩]⟩
  | .DBG_XT_STATUS => ⟨0x90810, linear, [], .DBG, [⟨0, 16, rc, false, .num 0⟩]⟩
  | .DBG_MEM_ADDR_LO => ⟨0x90900, linear, [], .DBG, [⟨0, 32, rw, false, .num 0⟩]⟩
  | .DBG_MEM_ADDR_HI => ⟨0x90904, linear, [], .DBG, [⟨0, 16, rw, false, .num 0⟩]⟩
  | .DBG_MEM_DATA => ⟨0x90908, linear, [], .DBG, [⟨0, 32, rw, false, .num 0⟩]⟩
  | .DBG_MEM_CTRL => ⟨0x9090C, linear, [], .DBG,
      [⟨0, 1, rw, false, .num 1⟩, ⟨1, 1, rw, false, .num 0⟩, ⟨2, 1, w1c, false, .num 0⟩, ⟨8, 8, ro, false, .num 0⟩]⟩
  | .DBG_TRACE_CTRL => ⟨0x90A00, linear, [], .DBG, [⟨0, 1, rw, false, .num 0⟩]⟩
  | .DBG_TRACE_STATUS => ⟨0x90A04, linear, [], .DBG, [⟨0, 15, ro, false, .num 0⟩, ⟨16, 16, rc, false, .num 0⟩]⟩
  | .DBG_STIM_EN => ⟨0x90A08, linear, [], .DBG, [⟨0, 32, rw, false, .num 0⟩]⟩
  | .DBG_STIM_STALL => ⟨0x90A0C, linear, [], .DBG, [⟨0, 32, rw, false, .num 0⟩]⟩
  | .DBG_STIM => ⟨0x90B00, linear, [(32, 0x4)], .DBG, [⟨0, 32, wo, false, .num 0⟩]⟩
  | _ => ⟨0, linear, [], .SYS, []⟩

/-- The registers of block LEDGER. -/
def ledgerSpec : Reg → RegSpec
  | .LEDGER_STATUS => ⟨0x30000, linear, [], .POR,
      [⟨0, 1, ro, false, .num 0⟩, ⟨1, 1, w1c, false, .num 0⟩, ⟨2, 1, w1c, false, .num 0⟩,
       ⟨3, 1, w1c, false, .num 0⟩, ⟨16, 13, ro, false, .num 0⟩]⟩
  | .LEDGER_HEAD_SEQ => ⟨0x30004, linear, [], .POR, [⟨0, 32, ro, false, .num 0⟩]⟩
  | .LEDGER_COMMIT_SEQ => ⟨0x30008, linear, [], .POR, [⟨0, 32, ro, false, .num 0⟩]⟩
  | .LEDGER_OLDEST_SEQ => ⟨0x3000C, linear, [], .POR, [⟨0, 32, ro, false, .num 0⟩]⟩
  | .LEDGER_RD_SEQ => ⟨0x30010, linear, [], .POR, [⟨0, 32, rw, false, .num 0⟩]⟩
  | .LEDGER_RD_STATUS => ⟨0x30014, linear, [], .POR, [⟨0, 1, ro, false, .num 0⟩, ⟨1, 1, ro, false, .num 0⟩]⟩
  | .LEDGER_LOST => ⟨0x30018, linear, [], .POR, [⟨0, 32, ro, false, .num 0⟩]⟩
  | .LEDGER_BAD_PAGES => ⟨0x3001C, linear, [], .POR, [⟨0, 13, ro, false, .num 0⟩]⟩
  | .LEDGER_RD_DATA => ⟨0x30020, linear, [(8, 0x4)], .POR, [⟨0, 32, ro, false, .num 0⟩]⟩
  | _ => ⟨0, linear, [], .SYS, []⟩

/-- The table of each register. -/
def regSpec (r : Reg) : RegSpec :=
  match r with
  | .DEV_ID | .DEV_CAPS | .DEV_ABSENT_LOG | .DEV_ABSENT_ORIGIN | .DEV_STATUS | .DEV_CTRL | .DEV_RESET_CAUSE
  | .DEV_FRESET | .DEV_EVT_PEND | .DEV_EVT_HOST_MASK | .DEV_EVT_FAB_MASK | .DEV_EVT_ACK
  | .DEV_EVT_CORE_MASK | .DEV_EVT_VECMAP | .DEV_XS_CTRL | .DEV_XS_STATUS | .DEV_XS_LOG
  | .DEV_XS_LOG_TIME_LO | .DEV_XS_LOG_TIME_HI | .DEV_XS_ISLAND_CLK | .DEV_XS_QUAD_CLK | .DEV_XS_STATE
  | .DEV_XS_CNT => devSpec r
  | .PWR_RATE_CTRL | .PWR_RATE_SEL | .PWR_RATE_VALUE | .PWR_RATE_MIN | .PWR_RATE_MAX | .PWR_VLOOP_CTRL
  | .PWR_VLOOP_TARGET | .PWR_VLOOP_LIMITS | .PWR_VLOOP_STEP | .PWR_VLOOP_STATUS | .PWR_VLOOP_VOUT
  | .PWR_STATE_CTRL | .PWR_STATE_STATUS | .PWR_REGION_CTRL | .PWR_QUAD_CTRL | .PWR_REGION_STATUS
  | .PWR_QUAD_STATUS | .PWR_STATUS | .PWR_SUPPLY | .PWR_TEMP | .PWR_TEMP_CFG | .PWR_WAKE_EN
  | .PWR_WAKE_CAUSE => pwrSpec r
  | .CFG_CONT_STATUS | .CFG_CONT_SEG | .CFG_CONT_DRIVERS | .CFG_DRV_REFUSE | .CFG_STATUS | .CFG_CAUSE
  | .CFG_FAIL_OFFSET | .CFG_LOADED | .CFG_CMD | .CFG_LOAD_CTRL | .CFG_SRC_TIMEOUT | .CFG_FETCH_ADDR_LO
  | .CFG_FETCH_ADDR_HI | .CFG_FETCH_LEN | .CFG_PROG_LEN | .CFG_DIGEST_LO | .CFG_DIGEST_HI | .CFG_BUILD_LO
  | .CFG_BUILD_HI | .CFG_WINDOW_DROPS | .CFG_SCRUB_CTRL | .CFG_SCRUB_STAT | .CFG_SCRUB_LAST
  | .CFG_SCRUB_PASSES | .CFG_STREAM | .CFG_SPAN_CMD | .CFG_SPAN_DRAIN | .CFG_ICP_STATUS | .CFG_SPAN_STATUS
  | .CFG_SPAN_SINK | .CFG_RB_CTRL | .CFG_RB_FAR | .CFG_RB_COUNT | .CFG_RB_ADDR_LO | .CFG_RB_ADDR_HI
  | .CFG_RB_STATUS | .CFG_RB_DATA | .CFG_CAP_CTRL | .CFG_CAP_TIME_LO | .CFG_CAP_TIME_HI | .CFG_CAP_STATUS
  | .CFG_CAP_AT_LO | .CFG_CAP_AT_HI => cfgSpec r
  | .QUEUE_CTRL | .QUEUE_STATUS | .QUEUE_CONFIG | .QUEUE_STALE_CFG | .QUEUE_MAX_PKT | .QUEUE_LEVEL
  | .QUEUE_PKTS | .QUEUE_OPEN | .QUEUE_RD_PTR | .QUEUE_CM_PTR | .QUEUE_WR_PTR | .QUEUE_WORDS_IN_LO
  | .QUEUE_WORDS_IN_HI | .QUEUE_WORDS_OUT_LO | .QUEUE_WORDS_OUT_HI | .QUEUE_PKT_ERR | .QUEUE_FLUSH_CNT
  | .QUEUE_REC_PKTS | .QUEUE_REC_DISCARD | .QUEUE_ECC | .QUEUE_LATE => queueSpec r
  | .REPAIR_STATUS | .REPAIR_PUST_TIME | .REPAIR_ROVE_MODE | .REPAIR_ROVE_TIMING | .REPAIR_WEAR_CFG
  | .REPAIR_CMD | .REPAIR_STEP_STATUS | .REPAIR_STEP_PAUSE | .REPAIR_STEP_COUNT | .REPAIR_STEP_EXC
  | .REPAIR_RETIRED | .REPAIR_BG_CTRL | .REPAIR_BG_STAT | .REPAIR_BG_FAIL | .REPAIR_GROUP_STATUS
  | .REPAIR_ROD_STATUS | .REPAIR_MON_COUNT => repairSpec r
  | .CN_ID | .CN_PORT_EN | .CN_VC_SPLIT | .CN_ARB_WEIGHT | .CN_AGE_CFG | .CN_STATUS | .CN_CTRL_ERR
  | .CN_AGED | .CN_U_ROUTES_LO | .CN_U_ROUTES_HI | .CN_SPARE_SET | .CN_LINK_STATUS | .CN_LINK_PARGRP
  | .CN_LINK_MAP | .CN_LINK_CFG | .CN_HOLD_CTRL | .CN_HOLD_STATUS | .CN_HOLD_LAST | .CN_ERRLOG_INFO
  | .CN_ERRLOG_TIME_LO | .CN_ERRLOG_TIME_HI => cnSpec r
  | .NI_ID | .NI_CTRL | .NI_STATUS | .NI_RT_CTRL | .NI_RT_INDEX | .NI_RT_DATA_LO | .NI_RT_DATA_HI
  | .NI_RT_STATUS | .NI_REG_CTRL | .NI_REG_STATUS | .NI_U_STATUS | .NI_TIMER | .NI_TGT_TIMER | .NI_TXN
  | .NI_ERR_CNT | .NI_ECC_CNT | .NI_DISCARD | .NI_TGT_ERR | .NI_FENCE_CTRL | .NI_FENCE_STATUS
  | .NI_PROXY_CNT | .NI_DEAD_CNT | .NI_DROP_RPT | .NI_ERRLOG_INFO | .NI_ERRLOG_ADDR_LO | .NI_ERRLOG_ADDR_HI
  | .NI_ERRLOG_TIME_LO | .NI_ERRLOG_TIME_HI | .NI_STAT_CTRL | .NI_STAT_UNITS_LO | .NI_STAT_UNITS_HI
  | .NI_STAT_BYTES_LO | .NI_STAT_BYTES_HI | .NI_STAT_LAT_MAX | .NI_STAT_HIST => niSpec r
  | .TIME_NOW_LO | .TIME_NOW_HI | .TIME_STATUS | .TIME_SYNC_CTRL | .TIME_LOAD_LO | .TIME_LOAD_HI
  | .TIME_SYNC_LAST_LO | .TIME_SYNC_LAST_HI | .TIME_EPOCH_LO | .TIME_EPOCH_HI | .TIME_CMP_CTRL
  | .TIME_CMP_VAL_LO | .TIME_CMP_VAL_HI | .TIME_CMP_PERIOD | .TIME_TIM_CTRL | .TIME_TIM_PERIOD
  | .TIME_TIM_PHASE | .TIME_TIM_COUNT => timeSpec r
  | .BEAM_CTRL | .BEAM_STATUS | .BEAM_SW_EVT | .BEAM_ROUTE | .BEAM_DST_CNT | .BEAM_SRC_CNT => beamSpec r
  | .RECORD_CTRL | .RECORD_STATUS | .RECORD_CMD | .RECORD_NUMBER | .RECORD_DRAIN_TO | .RECORD_MAINT_LIMIT
  | .RECORD_LEN_LO | .RECORD_LEN_HI | .RECORD_PART_EN_LO | .RECORD_PART_EN_HI | .RECORD_PART_DONE_LO
  | .RECORD_PART_DONE_HI | .RECORD_LAGGARD_LO | .RECORD_LAGGARD_HI | .RECORD_FW_DRAINED | .RECORD_EVT_CNT
  | .RECORD_START_AT_LO | .RECORD_START_AT_HI | .RECORD_CLOSE_AT_LO | .RECORD_CLOSE_AT_HI
  | .RECORD_CLOSED_AT_LO | .RECORD_CLOSED_AT_HI | .RECORD_NI_DOMAIN | .RECORD_LATE_CNT => recordSpec r
  | .TALLY_CTRL | .TALLY_STATUS | .TALLY_TIME_LO | .TALLY_TIME_HI | .TALLY_SEL | .TALLY_SHADOW_LO
  | .TALLY_SHADOW_HI | .TALLY_SHADOW_SEQ => tallySpec r
  | .TBUS_REF_CTRL | .TBUS_RX_FIFO | .TBUS_RX_TIME_LO | .TBUS_RX_TIME_HI | .TBUS_RX_STAT | .TBUS_LINE_CTRL
  | .TBUS_LINE_TIMING | .TBUS_LINE_STATUS | .TBUS_GOV_IMG | .TBUS_GOV_FW | .TBUS_TX_DATA | .TBUS_MATCH
  | .TBUS_CNT_TX | .TBUS_CNT_EXC => tbusSpec r
  | .LANE_QUAD_CTRL | .LANE_QUAD_STATUS | .LANE_QUAD_CFG | .LANE_JESD_CFG | .LANE_SYSREF_CFG | .LANE_LEMC
  | .LANE_TX_PIPE | .LANE_TX_GUARD | .LANE_ALERT_CTRL | .LANE_ALERT_ADDR_LO | .LANE_ALERT_ADDR_HI
  | .LANE_RX_BASE_LO | .LANE_RX_BASE_HI | .LANE_TX_BASE_LO | .LANE_TX_BASE_HI | .LANE_RX_SIZE
  | .LANE_TX_SIZE | .LANE_TX_ANALOG | .LANE_TEST_CTRL | .LANE_LANE_STATUS | .LANE_RX_START_LO
  | .LANE_RX_START_HI | .LANE_TX_START_LO | .LANE_TX_START_HI | .LANE_RX_BYTES_LO | .LANE_RX_BYTES_HI
  | .LANE_RX_DROP | .LANE_ERR_CNT | .LANE_TX_PTR | .LANE_EYE_CTRL | .LANE_EYE_RESULT => laneSpec r
  | .HBM_STATUS | .HBM_CTRL | .HBM_TEMP | .HBM_PC_ECC | .HBM_PC_ERR_ADDR_LO | .HBM_PC_ERR_ADDR_HI
  | .HBM_PC_DROP | .HBM_RING_BASE_LO | .HBM_RING_BASE_HI | .HBM_RING_SIZE | .HBM_RING_CTRL
  | .HBM_RING_CAP_END_LO | .HBM_RING_CAP_END_HI | .HBM_RING_CAP_TIME_LO | .HBM_RING_CAP_TIME_HI
  | .HBM_RING_CAP_FILL_LO | .HBM_RING_CAP_FILL_HI | .HBM_RING_CAP_INFO | .HBM_RING_REC_BYTES_LO
  | .HBM_RING_REC_BYTES_HI | .HBM_RING_PC_END => hbmSpec r
  | .STORE_STATUS | .STORE_CMD | .STORE_CFG | .STORE_QMEM_LO | .STORE_QMEM_HI | .STORE_CMD_TIMEOUT
  | .STORE_CAT_SEQ | .STORE_STRIPES | .STORE_DRV_STATUS | .STORE_DRV_ERR | .STORE_CH_CTRL
  | .STORE_CH_STATUS | .STORE_CH_CFG | .STORE_CH_RING_LO | .STORE_CH_RING_HI | .STORE_CH_MIRROR_LO
  | .STORE_CH_MIRROR_HI | .STORE_CH_RING_SIZE | .STORE_CH_PROD | .STORE_CH_CONS | .STORE_CH_PART_FIRST
  | .STORE_CH_PART_STRIPES | .STORE_CH_PB_SEQ | .STORE_CH_REC_BYTES_LO | .STORE_CH_REC_BYTES_HI
  | .STORE_CH_LOST => storeSpec r
  | .HOST_LINK_STATUS | .HOST_STATUS | .HOST_BAR_CTRL | .HOST_BAR_ERR | .HOST_BAR_ERR_INFO
  | .HOST_BAR_ERR_ADDR_LO | .HOST_BAR_ERR_ADDR_HI | .HOST_DMA_CTRL | .HOST_LINK_CNT | .HOST_WIN_ERR
  | .HOST_XLAT_INDEX | .HOST_XLAT_DATA_LO | .HOST_XLAT_DATA_HI | .HOST_CH_CTRL | .HOST_CH_STATUS
  | .HOST_CH_RING_LO | .HOST_CH_RING_HI | .HOST_CH_RING_SIZE | .HOST_CH_HEAD | .HOST_CH_TAIL | .HOST_CH_IRQ
  | .HOST_CH_BYTES_LO | .HOST_CH_BYTES_HI | .HOST_CH_ERR => hostSpec r
  | .SEQ_BOOT_STATUS | .SEQ_DOORBELL | .SEQ_MEM_ECC | .SEQ_CORE_CTRL | .SEQ_CORE_STATUS | .SEQ_CORE_PC
  | .SEQ_FAR_BASE_LO | .SEQ_FAR_BASE_HI | .SEQ_FAR_CTRL | .SEQ_FAULT | .SEQ_FAULT_ADDR_LO
  | .SEQ_FAULT_ADDR_HI | .SEQ_EVT | .SEQ_IC_EN_LO | .SEQ_IC_EN_HI | .SEQ_IC_PEND_LO | .SEQ_IC_PEND_HI
  | .SEQ_IC_PRIO | .SEQ_IC_THRESH | .SEQ_IC_CLAIM | .SEQ_MTIMECMP_LO | .SEQ_MTIMECMP_HI | .SEQ_GUARD_STATUS
  | .SEQ_GUARD_POLICY | .SEQ_GUARD_BREACH | .SEQ_POWER_CEIL | .SEQ_POWER_NOW | .SEQ_GUARD_PINS => seqSpec r
  | .WDOG_CTRL | .WDOG_LOAD | .WDOG_WARN | .WDOG_GRACE | .WDOG_KICK | .WDOG_COUNT | .WDOG_STATUS => wdogSpec r
  | .PIN_STATUS | .PIN_CONFLICT | .PIN_EXTL_STATUS | .PIN_BANK_STATUS | .PIN_EXTL_CFG | .PIN_GPIO_OUT
  | .PIN_GPIO_OE | .PIN_GPIO_IN | .PIN_GPIO_SET | .PIN_GPIO_CLR | .PIN_PAD | .PIN_STN_STAT => pinSpec r
  | .I2C_CTRL | .I2C_CMD | .I2C_TXDATA | .I2C_RXDATA | .I2C_STATUS => i2cSpec r
  | .SPI_CTRL | .SPI_TXDATA | .SPI_RXDATA | .SPI_STATUS => spiSpec r
  | .UART_CTRL | .UART_BAUD | .UART_TXDATA | .UART_RXDATA | .UART_STATUS => uartSpec r
  | .PMB_CTRL | .PMB_CMD | .PMB_TXDATA | .PMB_RXDATA | .PMB_STATUS => pmbSpec r
  | .PT_CTRL | .PT_CMP_LO | .PT_CMP_HI | .PT_PERIOD | .PT_CAP_LO | .PT_CAP_HI | .PT_STATUS => ptSpec r
  | .DBG_AUTH | .DBG_CTRL | .DBG_STATUS | .DBG_CORE_RC | .DBG_CORE_REG_SEL | .DBG_CORE_REG_DATA
  | .DBG_CORE_MEM_ADDR | .DBG_CORE_MEM_DATA | .DBG_CMP_CTRL | .DBG_CMP_A | .DBG_CMP_B | .DBG_XT_CTRL
  | .DBG_XT_FIRE | .DBG_XT_CLEAR | .DBG_XT_STATUS | .DBG_MEM_ADDR_LO | .DBG_MEM_ADDR_HI | .DBG_MEM_DATA
  | .DBG_MEM_CTRL | .DBG_TRACE_CTRL | .DBG_TRACE_STATUS | .DBG_STIM_EN | .DBG_STIM_STALL | .DBG_STIM => dbgSpec r
  | .LEDGER_STATUS | .LEDGER_HEAD_SEQ | .LEDGER_COMMIT_SEQ | .LEDGER_OLDEST_SEQ | .LEDGER_RD_SEQ
  | .LEDGER_RD_STATUS | .LEDGER_LOST | .LEDGER_BAD_PAGES | .LEDGER_RD_DATA => ledgerSpec r

/-- The registers of block DEV, in the order of the spec. -/
def devRegs : List Reg :=
  [.DEV_ID, .DEV_CAPS, .DEV_ABSENT_LOG, .DEV_ABSENT_ORIGIN, .DEV_STATUS, .DEV_CTRL, .DEV_RESET_CAUSE,
   .DEV_FRESET, .DEV_EVT_PEND, .DEV_EVT_HOST_MASK, .DEV_EVT_FAB_MASK, .DEV_EVT_ACK, .DEV_EVT_CORE_MASK,
   .DEV_EVT_VECMAP, .DEV_XS_CTRL, .DEV_XS_STATUS, .DEV_XS_LOG, .DEV_XS_LOG_TIME_LO, .DEV_XS_LOG_TIME_HI,
   .DEV_XS_ISLAND_CLK, .DEV_XS_QUAD_CLK, .DEV_XS_STATE, .DEV_XS_CNT]

/-- The registers of block PWR, in the order of the spec. -/
def pwrRegs : List Reg :=
  [.PWR_RATE_CTRL, .PWR_RATE_SEL, .PWR_RATE_VALUE, .PWR_RATE_MIN, .PWR_RATE_MAX, .PWR_VLOOP_CTRL,
   .PWR_VLOOP_TARGET, .PWR_VLOOP_LIMITS, .PWR_VLOOP_STEP, .PWR_VLOOP_STATUS, .PWR_VLOOP_VOUT, .PWR_STATE_CTRL,
   .PWR_STATE_STATUS, .PWR_REGION_CTRL, .PWR_QUAD_CTRL, .PWR_REGION_STATUS, .PWR_QUAD_STATUS, .PWR_STATUS,
   .PWR_SUPPLY, .PWR_TEMP, .PWR_TEMP_CFG, .PWR_WAKE_EN, .PWR_WAKE_CAUSE]

/-- The registers of block CFG, in the order of the spec. -/
def cfgRegs : List Reg :=
  [.CFG_CONT_STATUS, .CFG_CONT_SEG, .CFG_CONT_DRIVERS, .CFG_DRV_REFUSE, .CFG_STATUS, .CFG_CAUSE,
   .CFG_FAIL_OFFSET, .CFG_LOADED, .CFG_CMD, .CFG_LOAD_CTRL, .CFG_SRC_TIMEOUT, .CFG_FETCH_ADDR_LO,
   .CFG_FETCH_ADDR_HI, .CFG_FETCH_LEN, .CFG_PROG_LEN, .CFG_DIGEST_LO, .CFG_DIGEST_HI, .CFG_BUILD_LO,
   .CFG_BUILD_HI, .CFG_WINDOW_DROPS, .CFG_SCRUB_CTRL, .CFG_SCRUB_STAT, .CFG_SCRUB_LAST, .CFG_SCRUB_PASSES,
   .CFG_STREAM, .CFG_SPAN_CMD, .CFG_SPAN_DRAIN, .CFG_ICP_STATUS, .CFG_SPAN_STATUS, .CFG_SPAN_SINK,
   .CFG_RB_CTRL, .CFG_RB_FAR, .CFG_RB_COUNT, .CFG_RB_ADDR_LO, .CFG_RB_ADDR_HI, .CFG_RB_STATUS, .CFG_RB_DATA,
   .CFG_CAP_CTRL, .CFG_CAP_TIME_LO, .CFG_CAP_TIME_HI, .CFG_CAP_STATUS, .CFG_CAP_AT_LO, .CFG_CAP_AT_HI]

/-- The registers of block QUEUE, in the order of the spec. -/
def queueRegs : List Reg :=
  [.QUEUE_CTRL, .QUEUE_STATUS, .QUEUE_CONFIG, .QUEUE_STALE_CFG, .QUEUE_MAX_PKT, .QUEUE_LEVEL, .QUEUE_PKTS,
   .QUEUE_OPEN, .QUEUE_RD_PTR, .QUEUE_CM_PTR, .QUEUE_WR_PTR, .QUEUE_WORDS_IN_LO, .QUEUE_WORDS_IN_HI,
   .QUEUE_WORDS_OUT_LO, .QUEUE_WORDS_OUT_HI, .QUEUE_PKT_ERR, .QUEUE_FLUSH_CNT, .QUEUE_REC_PKTS,
   .QUEUE_REC_DISCARD, .QUEUE_ECC, .QUEUE_LATE]

/-- The registers of block REPAIR, in the order of the spec. -/
def repairRegs : List Reg :=
  [.REPAIR_STATUS, .REPAIR_PUST_TIME, .REPAIR_ROVE_MODE, .REPAIR_ROVE_TIMING, .REPAIR_WEAR_CFG, .REPAIR_CMD,
   .REPAIR_STEP_STATUS, .REPAIR_STEP_PAUSE, .REPAIR_STEP_COUNT, .REPAIR_STEP_EXC, .REPAIR_RETIRED,
   .REPAIR_BG_CTRL, .REPAIR_BG_STAT, .REPAIR_BG_FAIL, .REPAIR_GROUP_STATUS, .REPAIR_ROD_STATUS,
   .REPAIR_MON_COUNT]

/-- The registers of block CN, in the order of the spec. -/
def cnRegs : List Reg :=
  [.CN_ID, .CN_PORT_EN, .CN_VC_SPLIT, .CN_ARB_WEIGHT, .CN_AGE_CFG, .CN_STATUS, .CN_CTRL_ERR, .CN_AGED,
   .CN_U_ROUTES_LO, .CN_U_ROUTES_HI, .CN_SPARE_SET, .CN_LINK_STATUS, .CN_LINK_PARGRP, .CN_LINK_MAP,
   .CN_LINK_CFG, .CN_HOLD_CTRL, .CN_HOLD_STATUS, .CN_HOLD_LAST, .CN_ERRLOG_INFO, .CN_ERRLOG_TIME_LO,
   .CN_ERRLOG_TIME_HI]

/-- The registers of block NI, in the order of the spec. -/
def niRegs : List Reg :=
  [.NI_ID, .NI_CTRL, .NI_STATUS, .NI_RT_CTRL, .NI_RT_INDEX, .NI_RT_DATA_LO, .NI_RT_DATA_HI, .NI_RT_STATUS,
   .NI_REG_CTRL, .NI_REG_STATUS, .NI_U_STATUS, .NI_TIMER, .NI_TGT_TIMER, .NI_TXN, .NI_ERR_CNT, .NI_ECC_CNT,
   .NI_DISCARD, .NI_TGT_ERR, .NI_FENCE_CTRL, .NI_FENCE_STATUS, .NI_PROXY_CNT, .NI_DEAD_CNT, .NI_DROP_RPT,
   .NI_ERRLOG_INFO, .NI_ERRLOG_ADDR_LO, .NI_ERRLOG_ADDR_HI, .NI_ERRLOG_TIME_LO, .NI_ERRLOG_TIME_HI,
   .NI_STAT_CTRL, .NI_STAT_UNITS_LO, .NI_STAT_UNITS_HI, .NI_STAT_BYTES_LO, .NI_STAT_BYTES_HI, .NI_STAT_LAT_MAX,
   .NI_STAT_HIST]

/-- The registers of block TIME, in the order of the spec. -/
def timeRegs : List Reg :=
  [.TIME_NOW_LO, .TIME_NOW_HI, .TIME_STATUS, .TIME_SYNC_CTRL, .TIME_LOAD_LO, .TIME_LOAD_HI, .TIME_SYNC_LAST_LO,
   .TIME_SYNC_LAST_HI, .TIME_EPOCH_LO, .TIME_EPOCH_HI, .TIME_CMP_CTRL, .TIME_CMP_VAL_LO, .TIME_CMP_VAL_HI,
   .TIME_CMP_PERIOD, .TIME_TIM_CTRL, .TIME_TIM_PERIOD, .TIME_TIM_PHASE, .TIME_TIM_COUNT]

/-- The registers of block BEAM, in the order of the spec. -/
def beamRegs : List Reg :=
  [.BEAM_CTRL, .BEAM_STATUS, .BEAM_SW_EVT, .BEAM_ROUTE, .BEAM_DST_CNT, .BEAM_SRC_CNT]

/-- The registers of block RECORD, in the order of the spec. -/
def recordRegs : List Reg :=
  [.RECORD_CTRL, .RECORD_STATUS, .RECORD_CMD, .RECORD_NUMBER, .RECORD_DRAIN_TO, .RECORD_MAINT_LIMIT,
   .RECORD_LEN_LO, .RECORD_LEN_HI, .RECORD_PART_EN_LO, .RECORD_PART_EN_HI, .RECORD_PART_DONE_LO,
   .RECORD_PART_DONE_HI, .RECORD_LAGGARD_LO, .RECORD_LAGGARD_HI, .RECORD_FW_DRAINED, .RECORD_EVT_CNT,
   .RECORD_START_AT_LO, .RECORD_START_AT_HI, .RECORD_CLOSE_AT_LO, .RECORD_CLOSE_AT_HI, .RECORD_CLOSED_AT_LO,
   .RECORD_CLOSED_AT_HI, .RECORD_NI_DOMAIN, .RECORD_LATE_CNT]

/-- The registers of block TALLY, in the order of the spec. -/
def tallyRegs : List Reg :=
  [.TALLY_CTRL, .TALLY_STATUS, .TALLY_TIME_LO, .TALLY_TIME_HI, .TALLY_SEL, .TALLY_SHADOW_LO, .TALLY_SHADOW_HI,
   .TALLY_SHADOW_SEQ]

/-- The registers of block TBUS, in the order of the spec. -/
def tbusRegs : List Reg :=
  [.TBUS_REF_CTRL, .TBUS_RX_FIFO, .TBUS_RX_TIME_LO, .TBUS_RX_TIME_HI, .TBUS_RX_STAT, .TBUS_LINE_CTRL,
   .TBUS_LINE_TIMING, .TBUS_LINE_STATUS, .TBUS_GOV_IMG, .TBUS_GOV_FW, .TBUS_TX_DATA, .TBUS_MATCH, .TBUS_CNT_TX,
   .TBUS_CNT_EXC]

/-- The registers of block LANE, in the order of the spec. -/
def laneRegs : List Reg :=
  [.LANE_QUAD_CTRL, .LANE_QUAD_STATUS, .LANE_QUAD_CFG, .LANE_JESD_CFG, .LANE_SYSREF_CFG, .LANE_LEMC,
   .LANE_TX_PIPE, .LANE_TX_GUARD, .LANE_ALERT_CTRL, .LANE_ALERT_ADDR_LO, .LANE_ALERT_ADDR_HI, .LANE_RX_BASE_LO,
   .LANE_RX_BASE_HI, .LANE_TX_BASE_LO, .LANE_TX_BASE_HI, .LANE_RX_SIZE, .LANE_TX_SIZE, .LANE_TX_ANALOG,
   .LANE_TEST_CTRL, .LANE_LANE_STATUS, .LANE_RX_START_LO, .LANE_RX_START_HI, .LANE_TX_START_LO,
   .LANE_TX_START_HI, .LANE_RX_BYTES_LO, .LANE_RX_BYTES_HI, .LANE_RX_DROP, .LANE_ERR_CNT, .LANE_TX_PTR,
   .LANE_EYE_CTRL, .LANE_EYE_RESULT]

/-- The registers of block HBM, in the order of the spec. -/
def hbmRegs : List Reg :=
  [.HBM_STATUS, .HBM_CTRL, .HBM_TEMP, .HBM_PC_ECC, .HBM_PC_ERR_ADDR_LO, .HBM_PC_ERR_ADDR_HI, .HBM_PC_DROP,
   .HBM_RING_BASE_LO, .HBM_RING_BASE_HI, .HBM_RING_SIZE, .HBM_RING_CTRL, .HBM_RING_CAP_END_LO,
   .HBM_RING_CAP_END_HI, .HBM_RING_CAP_TIME_LO, .HBM_RING_CAP_TIME_HI, .HBM_RING_CAP_FILL_LO,
   .HBM_RING_CAP_FILL_HI, .HBM_RING_CAP_INFO, .HBM_RING_REC_BYTES_LO, .HBM_RING_REC_BYTES_HI, .HBM_RING_PC_END]

/-- The registers of block STORE, in the order of the spec. -/
def storeRegs : List Reg :=
  [.STORE_STATUS, .STORE_CMD, .STORE_CFG, .STORE_QMEM_LO, .STORE_QMEM_HI, .STORE_CMD_TIMEOUT, .STORE_CAT_SEQ,
   .STORE_STRIPES, .STORE_DRV_STATUS, .STORE_DRV_ERR, .STORE_CH_CTRL, .STORE_CH_STATUS, .STORE_CH_CFG,
   .STORE_CH_RING_LO, .STORE_CH_RING_HI, .STORE_CH_MIRROR_LO, .STORE_CH_MIRROR_HI, .STORE_CH_RING_SIZE,
   .STORE_CH_PROD, .STORE_CH_CONS, .STORE_CH_PART_FIRST, .STORE_CH_PART_STRIPES, .STORE_CH_PB_SEQ,
   .STORE_CH_REC_BYTES_LO, .STORE_CH_REC_BYTES_HI, .STORE_CH_LOST]

/-- The registers of block HOST, in the order of the spec. -/
def hostRegs : List Reg :=
  [.HOST_LINK_STATUS, .HOST_STATUS, .HOST_BAR_CTRL, .HOST_BAR_ERR, .HOST_BAR_ERR_INFO, .HOST_BAR_ERR_ADDR_LO,
   .HOST_BAR_ERR_ADDR_HI, .HOST_DMA_CTRL, .HOST_LINK_CNT, .HOST_WIN_ERR, .HOST_XLAT_INDEX, .HOST_XLAT_DATA_LO,
   .HOST_XLAT_DATA_HI, .HOST_CH_CTRL, .HOST_CH_STATUS, .HOST_CH_RING_LO, .HOST_CH_RING_HI, .HOST_CH_RING_SIZE,
   .HOST_CH_HEAD, .HOST_CH_TAIL, .HOST_CH_IRQ, .HOST_CH_BYTES_LO, .HOST_CH_BYTES_HI, .HOST_CH_ERR]

/-- The registers of block SEQ, in the order of the spec. -/
def seqRegs : List Reg :=
  [.SEQ_BOOT_STATUS, .SEQ_DOORBELL, .SEQ_MEM_ECC, .SEQ_CORE_CTRL, .SEQ_CORE_STATUS, .SEQ_CORE_PC,
   .SEQ_FAR_BASE_LO, .SEQ_FAR_BASE_HI, .SEQ_FAR_CTRL, .SEQ_FAULT, .SEQ_FAULT_ADDR_LO, .SEQ_FAULT_ADDR_HI,
   .SEQ_EVT, .SEQ_IC_EN_LO, .SEQ_IC_EN_HI, .SEQ_IC_PEND_LO, .SEQ_IC_PEND_HI, .SEQ_IC_PRIO, .SEQ_IC_THRESH,
   .SEQ_IC_CLAIM, .SEQ_MTIMECMP_LO, .SEQ_MTIMECMP_HI, .SEQ_GUARD_STATUS, .SEQ_GUARD_POLICY, .SEQ_GUARD_BREACH,
   .SEQ_POWER_CEIL, .SEQ_POWER_NOW, .SEQ_GUARD_PINS]

/-- The registers of block WDOG, in the order of the spec. -/
def wdogRegs : List Reg :=
  [.WDOG_CTRL, .WDOG_LOAD, .WDOG_WARN, .WDOG_GRACE, .WDOG_KICK, .WDOG_COUNT, .WDOG_STATUS]

/-- The registers of block PIN, in the order of the spec. -/
def pinRegs : List Reg :=
  [.PIN_STATUS, .PIN_CONFLICT, .PIN_EXTL_STATUS, .PIN_BANK_STATUS, .PIN_EXTL_CFG, .PIN_GPIO_OUT, .PIN_GPIO_OE,
   .PIN_GPIO_IN, .PIN_GPIO_SET, .PIN_GPIO_CLR, .PIN_PAD, .PIN_STN_STAT]

/-- The registers of block I2C, in the order of the spec. -/
def i2cRegs : List Reg :=
  [.I2C_CTRL, .I2C_CMD, .I2C_TXDATA, .I2C_RXDATA, .I2C_STATUS]

/-- The registers of block SPI, in the order of the spec. -/
def spiRegs : List Reg :=
  [.SPI_CTRL, .SPI_TXDATA, .SPI_RXDATA, .SPI_STATUS]

/-- The registers of block UART, in the order of the spec. -/
def uartRegs : List Reg :=
  [.UART_CTRL, .UART_BAUD, .UART_TXDATA, .UART_RXDATA, .UART_STATUS]

/-- The registers of block PMB, in the order of the spec. -/
def pmbRegs : List Reg :=
  [.PMB_CTRL, .PMB_CMD, .PMB_TXDATA, .PMB_RXDATA, .PMB_STATUS]

/-- The registers of block PT, in the order of the spec. -/
def ptRegs : List Reg :=
  [.PT_CTRL, .PT_CMP_LO, .PT_CMP_HI, .PT_PERIOD, .PT_CAP_LO, .PT_CAP_HI, .PT_STATUS]

/-- The registers of block DBG, in the order of the spec. -/
def dbgRegs : List Reg :=
  [.DBG_AUTH, .DBG_CTRL, .DBG_STATUS, .DBG_CORE_RC, .DBG_CORE_REG_SEL, .DBG_CORE_REG_DATA, .DBG_CORE_MEM_ADDR,
   .DBG_CORE_MEM_DATA, .DBG_CMP_CTRL, .DBG_CMP_A, .DBG_CMP_B, .DBG_XT_CTRL, .DBG_XT_FIRE, .DBG_XT_CLEAR,
   .DBG_XT_STATUS, .DBG_MEM_ADDR_LO, .DBG_MEM_ADDR_HI, .DBG_MEM_DATA, .DBG_MEM_CTRL, .DBG_TRACE_CTRL,
   .DBG_TRACE_STATUS, .DBG_STIM_EN, .DBG_STIM_STALL, .DBG_STIM]

/-- The registers of block LEDGER, in the order of the spec. -/
def ledgerRegs : List Reg :=
  [.LEDGER_STATUS, .LEDGER_HEAD_SEQ, .LEDGER_COMMIT_SEQ, .LEDGER_OLDEST_SEQ, .LEDGER_RD_SEQ, .LEDGER_RD_STATUS,
   .LEDGER_LOST, .LEDGER_BAD_PAGES, .LEDGER_RD_DATA]

/-- Every register. -/
def allRegs : List Reg :=
  devRegs ++
  pwrRegs ++
  cfgRegs ++
  queueRegs ++
  repairRegs ++
  cnRegs ++
  niRegs ++
  timeRegs ++
  beamRegs ++
  recordRegs ++
  tallyRegs ++
  tbusRegs ++
  laneRegs ++
  hbmRegs ++
  storeRegs ++
  hostRegs ++
  seqRegs ++
  wdogRegs ++
  pinRegs ++
  i2cRegs ++
  spiRegs ++
  uartRegs ++
  pmbRegs ++
  ptRegs ++
  dbgRegs ++
  ledgerRegs

end Sys2Proof.Machine
end

