-- ==== Sys2Proof/Machine/Sparse.lean ====
section
/-! DEFINITION. Sparse maps from numbers, kept in one canonical form: keys strictly rising, and no entry equal to what
an unlisted key reads as. Registers, byte memories, frames, rows and stages are all held so, so that equal contents are
equal data. -/

namespace Sys2Proof.Machine

/-- A sparse map: (key, value) pairs. -/
abbrev Sparse (α : Type) := List (Nat × α)

/-- The value at key k, where an unlisted key reads as d. -/
def Sparse.get {α : Type} (d : α) (m : Sparse α) (k : Nat) : α :=
  match m with
  | [] => d
  | (k', v) :: rest => if k' = k then v else Sparse.get d rest k

/-- The map without key k. -/
def Sparse.erase {α : Type} (m : Sparse α) (k : Nat) : Sparse α :=
  match m with
  | [] => []
  | (k', v) :: rest => if k' = k then Sparse.erase rest k else (k', v) :: Sparse.erase rest k

/-- The map with value v listed at key k, in key order. -/
def Sparse.insert {α : Type} (m : Sparse α) (k : Nat) (v : α) : Sparse α :=
  match m with
  | [] => [(k, v)]
  | (k', v') :: rest =>
    if k < k' then (k, v) :: (k', v') :: rest
    else if k = k' then (k, v) :: rest
    else (k', v') :: Sparse.insert rest k v

/-- Writing v at key k where an unlisted key reads as d: writing d removes the entry. -/
def Sparse.set {α : Type} [DecidableEq α] (d : α) (m : Sparse α) (k : Nat) (v : α) : Sparse α :=
  if v = d then Sparse.erase m k else Sparse.insert m k v

/-- Every listed key is at least lo, the keys rise strictly, and no entry reads as its default. -/
def Sparse.wfFrom {α : Type} [DecidableEq α] (d : Nat → α) (lo : Nat) (m : Sparse α) : Bool :=
  match m with
  | [] => true
  | (k, v) :: rest => decide (lo ≤ k) && decide (v ≠ d k) && Sparse.wfFrom d (k + 1) rest

/-- The canonical form. -/
def Sparse.wf {α : Type} [DecidableEq α] (d : Nat → α) (m : Sparse α) : Bool := Sparse.wfFrom d 0 m

end Sys2Proof.Machine
end

