-- ==== Sys2Proof/Machine/Topology.lean ====
section
/-! DEFINITION. What each variant has (R1, R12, R14) and how carry nodes, NIs and ports are numbered and joined (R13,
R19, R198, R199, R238). -/

namespace Sys2Proof.Machine

/-- HBM stack, controller and NIs 0x60 to 0x6F present (R12, DEV.CAPS.HBM). -/
def Part.hasHbm (p : Part) : Bool := p.variant != .M
/-- Stream store and NI 0x98 present (R12, DEV.CAPS.STORE). -/
def Part.hasStore (p : Part) : Bool := p.variant == .F
/-- Lane quads present (R1). -/
def Part.quads (p : Part) : Nat := if p.variant = .M then 16 else 32
/-- Sequencer cores present (R1). -/
def Part.cores (p : Part) : Nat := if p.variant = .M then 2 else 4
/-- Repair groups (R1). -/
def Part.groups (p : Part) : Nat := if p.variant = .M then 8 else 16
/-- Logical rods (R1). -/
def Part.rods (p : Part) : Nat := 16 * Part.groups p
/-- Physical rods (R1). -/
def Part.physRods (p : Part) : Nat := 17 * Part.groups p
/-- Queue controllers (R1, R20). -/
def Part.queues (p : Part) : Nat := 8 * Part.rods p
/-- Fabric carry nodes per row: N of R197 and R198. -/
def Part.columns (p : Part) : Nat := if p.variant = .M then 16 else 32
/-- Maximum host link width in lanes (R1). -/
def Part.hostWidth (p : Part) : Nat := if p.variant = .M then 8 else 16
/-- Power regions FPD f of the variant (R399). -/
def Part.fpds (p : Part) : Nat := Part.groups p / 2
/-- DEV.ID.DIE_ID (R1). -/
def Part.dieId (p : Part) : Nat := if p.variant = .M then 0x1664 else 0x3128
/-- DEV.ID.VARIANT (R1). -/
def Part.variantCode (p : Part) : Nat :=
  match p.variant with
  | .F => 1
  | .N => 2
  | .M => 3

/-- DEV.CAPS as R27 gives it. -/
def Part.caps (p : Part) : Nat :=
  match p.variant with
  | .F => 0x8420100F
  | .N => 0x8420100D
  | .M => 0x42100800

/-- An NI number names an NI of this variant (R12, R14). -/
def niPresent (p : Part) (n : Nat) : Bool :=
  if n < 0x60 then decide (n % 32 < Part.columns p)
  else if n < 0x70 then Part.hasHbm p
  else if n < 0x90 then decide (n - 0x70 < Part.quads p)
  else if n < 0x92 then true
  else if n < 0x94 then false
  else if n < 0x98 then decide (n - 0x94 < Part.cores p)
  else if n = 0x98 then Part.hasStore p
  else decide (n ≤ 0x9C)

/-- The kinds of carry node (CN.ID.TYPE). -/
inductive NodeKind where
  | fabric | memory | laneW | laneE | system
  deriving DecidableEq, Repr

/-- The kind of the carry node of a page and its index in its row or chain (R19). -/
def nodeOf (page : Nat) : Option (NodeKind × Nat × Nat) :=
  if page < 96 then some (.fabric, page / 32, page % 32)
  else if page < 104 then some (.memory, 0xF, page - 96)
  else if page < 108 then some (.laneW, 0xF, page - 104)
  else if page < 112 then some (.laneE, 0xF, page - 108)
  else if page < 116 then some (.system, 0xF, page - 112)
  else none

/-- The carry node of a page is one of this variant (R14). -/
def pagePresent (p : Part) (page : Nat) : Bool :=
  match nodeOf page with
  | some (.fabric, _, b) => decide (b < Part.columns p)
  | some (.memory, _, _) => Part.hasHbm p
  | some (.laneE, _, _) => decide (16 < Part.quads p)
  | some _ => true
  | none => false

/-- The NI on local port s of the node of a page (R199, R238). -/
def niOfSlot (page s : Nat) : Option Nat :=
  match nodeOf page with
  | some (.fabric, r, b) => if s = 0 then some (32 * r + b) else none
  | some (.memory, _, m) => if s < 2 then some (0x60 + 2 * m + s) else none
  | some (.laneW, _, w) => if s < 4 then some (0x70 + 4 * w + s) else none
  | some (.laneE, _, e) => if s < 4 then some (0x80 + 4 * e + s) else none
  | some (.system, _, 0) => if s < 2 then some (0x90 + s) else none
  | some (.system, _, 1) => if s < 4 then some (0x94 + s) else none
  | some (.system, _, 2) => if s = 0 then some 0x98 else none
  | some (.system, _, _) => if s < 4 then some (0x99 + s) else none
  | none => none

/-- The page of an NI's carry node (R12, R19). -/
def pageOfNi (n : Nat) : Nat :=
  if n < 0x60 then n
  else if n < 0x70 then 96 + (n - 0x60) / 2
  else if n < 0x80 then 104 + (n - 0x70) / 4
  else if n < 0x90 then 108 + (n - 0x80) / 4
  else if n < 0x92 then 112
  else if n < 0x98 then 113
  else if n = 0x98 then 114
  else 115

/-- The slot of an NI in its node's page, which is its local port (R199, R238). -/
def slotOfNi (n : Nat) : Nat :=
  if n < 0x60 then 0
  else if n < 0x70 then (n - 0x60) % 2
  else if n < 0x90 then (n - 0x70) % 4
  else if n < 0x92 then n - 0x90
  else if n < 0x98 then n - 0x94
  else if n = 0x98 then 0
  else n - 0x99

/-- The lower C column to which CN-Sk attaches (R197, R198). -/
def sysColumn (p : Part) (k : Nat) : Nat := k * Part.columns p / 4 + Part.columns p / 8 - 1

/-- What output port q of the node of a page joins it to: an NI, or another node with the port by which that node
returns (R199). -/
inductive PortEnd where
  | ni (n : Nat)
  | node (page : Nat)
  deriving DecidableEq, Repr

/-- Where a port of a node leads (R198, R199); none where the node has no such port. -/
def portEnd (p : Part) (page port : Nat) : Option PortEnd :=
  let cols := Part.columns p
  let toNode (q : Nat) : Option PortEnd := if pagePresent p q then some (.node q) else none
  match nodeOf page with
  | some (.fabric, r, b) =>
    match port with
    | 0 => some (.ni (32 * r + b))
    | 1 => if 0 < b then toNode (page - 1) else none
    | 2 => if b + 1 < cols then toNode (page + 1) else none
    | 3 => if r = 0 then
        (if Part.hasHbm p ∧ (b % 4 = 1 ∨ b % 4 = 2) then toNode (96 + b / 4) else none)
      else toNode (page - 32)
    | 4 => if r = 2 then
        (if b = sysColumn p 0 ∨ b = sysColumn p 0 + 1 then toNode 112
         else if b = sysColumn p 1 ∨ b = sysColumn p 1 + 1 then toNode 113
         else if b = sysColumn p 2 ∨ b = sysColumn p 2 + 1 then toNode 114
         else if b = sysColumn p 3 ∨ b = sysColumn p 3 + 1 then toNode 115 else none)
      else toNode (page + 32)
    | 5 => if 8 ≤ b then toNode (page - 8) else none
    | 6 => if b + 8 < cols then toNode (page + 8) else none
    | 7 => if b < 4 then toNode (104 + b) else if 28 ≤ b then toNode (108 + (31 - b)) else none
    | _ => none
  | some (.memory, _, m) =>
    match port with
    | 0 | 1 => some (.ni (0x60 + 2 * m + port))
    | 2 => if 0 < m then toNode (page - 1) else none
    | 3 => if m < 7 then toNode (page + 1) else none
    | 4 => toNode (4 * m + 1)
    | 5 => toNode (4 * m + 2)
    | _ => none
  | some (.laneW, _, w) =>
    if port < 4 then some (.ni (0x70 + 4 * w + port))
    else if port < 7 then toNode (32 * (port - 4) + w) else none
  | some (.laneE, _, e) =>
    if port < 4 then some (.ni (0x80 + 4 * e + port))
    else if port < 7 then toNode (32 * (port - 4) + (31 - e)) else none
  | some (.system, _, k) =>
    if port < 4 then (niOfSlot page port).map .ni
    else match port with
      | 4 => if 0 < k then toNode (page - 1) else none
      | 5 => if k < 3 then toNode (page + 1) else none
      | 6 => toNode (64 + sysColumn p k)
      | 7 => toNode (64 + sysColumn p k + 1)
      | _ => none
  | none => none

/-- The ports of a node as CN.ID.PORTS shows them. -/
def nodePorts (p : Part) (page : Nat) : Nat :=
  (List.range 15).foldl
    (fun acc q =>
      match portEnd p page q with
      | some (.ni n) => if niPresent p n then acc + 2 ^ q else acc
      | some (.node _) => acc + 2 ^ q
      | none => acc) 0

/-- The rods a fabric NI serves (R13). -/
def niRods (n : Nat) : List Nat := (List.range 8).map (8 * (n % 32) + ·)

/-- The logical rod of a fabric NI's edge station (R227). -/
def edgeRod (n : Nat) : Nat := 8 * (n % 32) + 3

end Sys2Proof.Machine
end

