-- ==== Sys2Proof/Machine/RegFile.lean ====
section
/-! DEFINITION. The register file: Reset values (R7), reading and writing whole registers and fields, and the map between
a register's instance and its CSR offset (R3, R18, R238). -/

namespace Sys2Proof.Machine

/-- The low w bits of word v from bit lo on, as a number. -/
def fieldOf (v : Word) (lo w : Nat) : Nat := (v.toNat / 2 ^ lo) % 2 ^ w

/-- Word v with the w bits from bit lo on replaced by x. -/
def withField (v : Word) (lo w x : Nat) : Word :=
  BitVec.ofNat 32 (v.toNat - fieldOf v lo w * 2 ^ lo + (x % 2 ^ w) * 2 ^ lo)

/-- A Reset value as a number (R7). Values the boot header or the image fixes read 0 here, 100,000 for
CFG.SRC_TIMEOUT, and are written into the register when the header or image is taken (assumption 6). -/
def resetVal (p : Part) (inst : Nat) : ResetVal → Nat
  | .num n => n
  | .dieId => Part.dieId p
  | .variantCode => Part.variantCode p
  | .stepping => p.stepping.toNat
  | .caps lo => Part.caps p / 2 ^ lo
  | .parts high =>
    match p.variant, high with
    | .M, false => 0xFF
    | _, false => 0xFFFFFFFF
    | .F, true => 0x7FF
    | .N, true => 0x7FE
    | .M, true => 0x4FE
  | .regions lo =>
    match lo with
    | 0 => 2 ^ Part.fpds p - 1
    | 8 => if Part.hasHbm p then 1 else 0
    | 9 => if Part.hasStore p then 1 else 0
    | _ => 2 ^ Part.quads p - 1
  | .nodeId lo =>
    match nodeOf inst, lo with
    | some (k, _, _), 0 =>
      match k with
      | .fabric => 0
      | .memory => 1
      | .laneW => 2
      | .laneE => 3
      | .system => 4
    | some (_, r, _), 4 => r
    | some (_, _, i), 8 => i
    | some _, _ => nodePorts p inst
    | none, _ => 0
  | .nodePorts => nodePorts p inst
  | .niId lo =>
    match lo with
    | 0 => inst
    | 8 => slotOfNi inst
    | _ => pageOfNi inst
  | .fenceAtReset => if inst < 0x60 then 2 else 0
  | .vec k => 4 * inst + k
  | .chVector => 32 + inst
  | .resetPc => 0
  | .bootHeader => 100000

/-- The Reset value of a register's instance. -/
def resetWord (p : Part) (r : Reg) (inst : Nat) : Word :=
  (regSpec r).fields.foldl (fun w f => withField w f.lo f.width (resetVal p inst f.reset)) 0

/-- The key of a register's instance in State.regs. -/
def regKey (r : Reg) (inst : Nat) : Nat := inst * 512 + r.ctorIdx

/-- The register of a key. -/
def regOfKey (k : Nat) : Option Reg := allRegs[k % 512]?

/-- The instance of a key. -/
def instOfKey (k : Nat) : Nat := k / 512

/-- What the register of a key reads when it is not listed. -/
def resetOfKey (p : Part) (k : Nat) : Word :=
  match regOfKey k with
  | some r => resetWord p r (instOfKey k)
  | none => 0

/-- A register's stored value. -/
def State.word (s : State) (r : Reg) (inst : Nat) : Word :=
  Sparse.get (resetWord s.part r inst) s.regs (regKey r inst)

/-- The state with a register's stored value replaced. -/
def State.setWord (s : State) (r : Reg) (inst : Nat) (v : Word) : State :=
  s.putRegs (Sparse.set (resetWord s.part r inst) s.regs (regKey r inst) v)

/-- A field's stored value. -/
def State.f (s : State) (F : Fld) (inst : Nat) : Nat := fieldOf (s.word F.reg inst) F.lo F.width

/-- The state with a field's stored value replaced. -/
def State.setF (s : State) (F : Fld) (inst v : Nat) : State :=
  s.setWord F.reg inst (withField (s.word F.reg inst) F.lo F.width v)

/-- A one-bit field is 1. -/
def State.on (s : State) (F : Fld) (inst : Nat) : Bool := s.f F inst != 0

/-- The state with a one-bit field set. -/
def State.raise (s : State) (F : Fld) (inst : Nat) : State := s.setF F inst 1

/-- The state with a counter field raised by n, saturating at the field's largest value. -/
def State.bump (s : State) (F : Fld) (inst n : Nat) : State :=
  s.setF F inst (min (2 ^ F.width - 1) (s.f F inst + n))

/-- The state with a counter field raised by 1, wrapping. -/
def State.count (s : State) (F : Fld) (inst : Nat) : State :=
  s.setF F inst ((s.f F inst + 1) % 2 ^ F.width)

/-- A 64-bit quantity in two registers, low word first (R3). -/
def State.pair (s : State) (lo hi : Reg) (inst : Nat) : Nat :=
  (s.word lo inst).toNat + 2 ^ 32 * (s.word hi inst).toNat

/-- The state with a 64-bit quantity written into two registers. -/
def State.setPair (s : State) (lo hi : Reg) (inst v : Nat) : State :=
  (s.setWord lo inst (BitVec.ofNat 32 v)).setWord hi inst (BitVec.ofNat 32 (v / 2 ^ 32))

/-- The word of a setting that acts: the stored one, but for a setting written since its function stopped (R37, R38). -/
def State.actingWord (s : State) (r : Reg) (inst : Nat) : Word :=
  match s.dev.acting.find? (·.1 == (r, inst)) with
  | some x => x.2
  | none => s.word r inst

/-- The value of a field that acts (R37, R38). -/
def State.acts (s : State) (F : Fld) (inst : Nat) : Nat := fieldOf (s.actingWord F.reg inst) F.lo F.width

/-- The state with the registers of the chosen kind returned to their Reset values (R30). -/
def State.resetRegs (s : State) (which : Reg → Nat → Bool) : State :=
  let s := s.putRegs (s.regs.filter fun kv =>
      match regOfKey kv.1 with
      | some r => !(which r (instOfKey kv.1))
      | none => true)
  s.putDev { s.dev with acting := s.dev.acting.filter fun x => !which x.1.1 x.1.2 }

/-- The offset of an instance from its register's offset, by its strides. -/
def dimOffset (dims : List (Nat × Nat)) (inst : Nat) : Nat :=
  match dims with
  | [] => 0
  | [(_, st)] => inst * st
  | (_, st) :: (n, st') :: _ => inst / n * st + inst % n * st'

/-- The number of instances of the strides. -/
def dimCount (dims : List (Nat × Nat)) : Nat := dims.foldl (fun a d => a * d.1) 1

/-- The CSR offset of a register's instance (R3, R18, R238, R327): the ledger names registers by it (R439). -/
def csrOffset (r : Reg) (inst : Nat) : Nat :=
  let t := regSpec r
  let n := dimCount t.dims
  match t.geo with
  | .linear => t.off + dimOffset t.dims inst
  | .node => 0x100000 + 0x1000 * (inst / n) + t.off + dimOffset t.dims (inst % n)
  | .slot =>
    let ni := inst / n
    0x100000 + 0x1000 * pageOfNi ni + 0x400 + 0x300 * slotOfNi ni + t.off + dimOffset t.dims (inst % n)
  | .lane => 0x300000 + 0x4000 * (inst / 4) + 0x1000 + 0x400 * (inst % 4) + t.off

/-- The instance of strides at an offset, when one lies there. -/
def dimIndex (dims : List (Nat × Nat)) (rel : Nat) : Option Nat :=
  match dims with
  | [] => if rel = 0 then some 0 else none
  | [(n, st)] => if rel % st = 0 ∧ rel / st < n then some (rel / st) else none
  | (n, st) :: (n', st') :: _ =>
    if rel / st < n ∧ rel % st % st' = 0 ∧ rel % st / st' < n' then some (rel / st * n' + rel % st / st') else none

/-- The instance of register r at CSR offset off, when one lies there. -/
def instAt (off : Nat) (r : Reg) : Option (Reg × Nat) :=
  let t := regSpec r
  match t.geo with
  | .linear => if t.off ≤ off then (dimIndex t.dims (off - t.off)).map (r, ·) else none
  | .node =>
    let page := (off - 0x100000) / 0x1000
    let rel := (off - 0x100000) % 0x1000
    if t.off ≤ rel then (dimIndex t.dims (rel - t.off)).map fun i => (r, page * dimCount t.dims + i) else none
  | .slot =>
    let page := (off - 0x100000) / 0x1000
    let rel := (off - 0x100000) % 0x1000
    if 0x400 ≤ rel ∧ t.off ≤ (rel - 0x400) % 0x300 then
      match niOfSlot page ((rel - 0x400) / 0x300), dimIndex t.dims ((rel - 0x400) % 0x300 - t.off) with
      | some ni, some i => some (r, ni * dimCount t.dims + i)
      | _, _ => none
    else none
  | .lane =>
    let q := (off - 0x300000) / 0x4000
    let rel := (off - 0x300000) % 0x4000
    if 0x1000 ≤ rel ∧ rel < 0x2000 ∧ (rel - 0x1000) % 0x400 = t.off then
      some (r, 4 * q + (rel - 0x1000) / 0x400) else none

/-- The registers of the block in whose extent a CSR offset lies (R18). -/
def blockRegs (off : Nat) : List Reg :=
  if off < 0x10000 then devRegs
  else if off < 0x20000 then cfgRegs
  else if off < 0x30000 then repairRegs
  else if off < 0x40000 then ledgerRegs
  else if off < 0x50000 then timeRegs ++ beamRegs
  else if off < 0x60000 then tbusRegs
  else if off < 0x70000 then pinRegs
  else if off < 0x80000 then pwrRegs
  else if off < 0x90000 then tallyRegs
  else if off < 0xA0000 then dbgRegs
  else if off < 0xB0000 then wdogRegs
  else if off < 0xC0000 then recordRegs
  else if off < 0x100000 then []
  else if off < 0x200000 then cnRegs ++ niRegs
  else if off < 0x300000 then hbmRegs
  else if off < 0x380000 then laneRegs
  else if off < 0x400000 then []
  else if off < 0x500000 then hostRegs
  else if off < 0x600000 then storeRegs
  else if off < 0x680000 then queueRegs
  else if off < 0x800000 then []
  else if off < 0x900000 then seqRegs
  else if off < 0xA00000 then i2cRegs ++ spiRegs ++ uartRegs ++ pmbRegs ++ ptRegs
  else []

/-- The register instance at a CSR offset, whatever the variant. -/
def regAt (off : Nat) : Option (Reg × Nat) := (blockRegs off).findSome? (instAt off)

/-- The register names a unit of this variant (R21): the quads, cores, queues, groups, pages, NIs and blocks that the
variant lacks behave as absent. -/
def regPresent (p : Part) (r : Reg) (inst : Nat) : Bool :=
  let t := regSpec r
  let n := dimCount t.dims
  match t.geo with
  | .node => pagePresent p (inst / n)
  | .slot => niPresent p (inst / n)
  | .lane => decide (inst / 4 < Part.quads p)
  | .linear =>
    if 0x200000 ≤ t.off ∧ t.off < 0x300000 then Part.hasHbm p
    else if 0x300000 ≤ t.off ∧ t.off < 0x380000 then decide (inst < Part.quads p)
    else if 0x500000 ≤ t.off ∧ t.off < 0x600000 then Part.hasStore p
    else if 0x600000 ≤ t.off ∧ t.off < 0x680000 then decide (inst < Part.queues p)
    else if 0x801000 ≤ t.off ∧ t.off < 0x802000 then decide (inst / (n / 4) < Part.cores p)
    else
      match r with
      | .RECORD_LATE_CNT => niPresent p inst
      | .DEV_XS_STATE | .DEV_XS_CNT => inst = 0xA0 || inst = 0xA1 || niPresent p inst
      | .DEV_EVT_CORE_MASK => decide (inst < Part.cores p)
      | .REPAIR_GROUP_STATUS => decide (inst < Part.groups p)
      | .REPAIR_ROD_STATUS | .REPAIR_MON_COUNT => decide (inst < Part.physRods p)
      | .WDOG_CTRL | .WDOG_LOAD | .WDOG_WARN | .WDOG_GRACE | .WDOG_KICK | .WDOG_COUNT | .WDOG_STATUS =>
        inst = 4 || decide (inst < Part.cores p)
      | .DBG_CORE_RC | .DBG_CORE_REG_SEL | .DBG_CORE_REG_DATA | .DBG_CORE_MEM_ADDR | .DBG_CORE_MEM_DATA =>
        decide (inst < Part.cores p)
      | .DBG_CMP_CTRL | .DBG_CMP_A | .DBG_CMP_B => decide (inst / 8 < Part.cores p)
      | _ => true

end Sys2Proof.Machine
end

