-- ==== Sys2Proof/Machine/Flags.lean ====
section
/-! DEFINITION. Event status bits and event groups (R34, R35): which bits of which register are events, the group each
register belongs to, and which groups are pending. -/

namespace Sys2Proof.Machine

/-- The event group of a register and the mask of its event bits (R34 and the sentence of each chapter that names
them); mask 0 for a register without event bits. Of DEV.STATUS the spec names ABSENT_WRITE (R28); RESET_REFUSED counts as
one here, CONFIG_FAILED, DEGRADED and BOOT_HDR_FAULT do not (DESIGN CHOICE, assumption 180). -/
def eventBits : Reg → Nat × Nat
  | .DEV_STATUS => (0, 0x30)
  | .CFG_CONT_STATUS => (1, 0xD)
  | .CFG_STATUS => (1, 0x7D0)
  | .CFG_SPAN_STATUS => (1, 0x18)
  | .CFG_ICP_STATUS => (1, 0x2)
  | .CFG_RB_STATUS => (1, 0x6)
  | .CFG_CAP_STATUS => (1, 0x8)
  | .REPAIR_STATUS => (2, 0xFF8)
  | .TIME_STATUS => (4, 0x1B4)
  | .BEAM_STATUS => (4, 0x300)
  | .TBUS_LINE_STATUS => (5, 0x7F8)
  | .TBUS_RX_STAT => (5, 0x40)
  | .PIN_STATUS => (6, 0x1F)
  | .PIN_EXTL_STATUS => (6, 0xFFFF)
  | .PWR_STATUS => (7, 0xFF)
  | .PWR_STATE_STATUS => (7, 0x8)
  | .PWR_VLOOP_STATUS => (7, 0x8)
  | .TALLY_STATUS => (8, 0x60000)
  | .DBG_STATUS => (9, 0x1F)
  | .WDOG_STATUS => (10, 0x3)
  | .RECORD_STATUS => (11, 0xFC80)
  | .CN_STATUS => (12, 0xFE)
  | .NI_STATUS => (12, 0xCFC)
  | .NI_FENCE_STATUS => (12, 0x4)
  | .HBM_STATUS => (13, 0x7F8)
  | .LANE_QUAD_STATUS => (14, 0xC00)
  | .LANE_LANE_STATUS => (14, 0xFF00)
  | .HOST_STATUS => (15, 0xFF)
  | .HOST_CH_STATUS => (15, 0x78)
  | .STORE_STATUS => (16, 0x7C)
  | .STORE_CH_STATUS => (16, 0x3C)
  | .QUEUE_STATUS => (17, 0x8B8)
  | .SEQ_BOOT_STATUS => (18, 0x80)
  | .SEQ_GUARD_STATUS => (18, 0xE)
  | .I2C_STATUS => (19, 0xFE)
  | .SPI_STATUS => (19, 0xFE)
  | .UART_STATUS => (19, 0xFE)
  | .PMB_STATUS => (19, 0xFE)
  | .PT_STATUS => (19, 0xF)
  | .DEV_XS_STATUS => (20, 0xF)
  | _ => (0, 0)

/-- The event group of a register's block (R34). -/
def regGroup (r : Reg) : Nat :=
  let off := (regSpec r).off
  match (regSpec r).geo with
  | .node | .slot => 12
  | .lane => 14
  | .linear =>
    if 0x1000 ≤ off ∧ off < 0x2000 then 20
    else if off < 0xA0000 then off / 0x10000
    else if off < 0xB0000 then 10
    else if off < 0xC0000 then 11
    else if off < 0x300000 then 13
    else if off < 0x400000 then 14
    else if off < 0x500000 then 15
    else if off < 0x600000 then 16
    else if off < 0x800000 then 17
    else if off < 0x900000 then 18
    else 19

/-- The group bit a listed register word makes pending, 0 when it makes none. NI.FENCE_STATUS.LIMIT_HIT is an event only
while CAUSE reads CLOSE (R239). The voltage loop raises the PWR event at AT_VMAX and in FAULT (R66, assumption 21), a capture
the CFG event in FROZEN (R174, assumption 98). -/
def pendingBit (k : Nat) (v : Word) : BitVec 32 :=
  match regOfKey k with
  | some r =>
    let e := eventBits r
    let live := v.toNat &&& e.2
    let live := if r = .NI_FENCE_STATUS ∧ fieldOf v 4 3 ≠ 5 then 0 else live
    let live := if r = .PWR_VLOOP_STATUS ∧ fieldOf v 0 3 = 5 then 1 else live
    let live := if r = .CFG_CAP_STATUS ∧ fieldOf v 0 3 = 3 then 1 else live
    if live = 0 then 0 else BitVec.ofNat 32 (2 ^ e.1)
  | none => 0

/-- The groups pending now (R34). -/
def State.groups (s : State) : BitVec 32 :=
  let fromRegs := s.regs.foldl (fun acc kv => acc ||| pendingBit kv.1 kv.2) 0
  let fromLedger : BitVec 32 := if s.ledger.commitFault || s.ledger.gap || s.ledger.torn then 8 else 0
  let fromWarning : BitVec 32 := if s.dev.sysWarning then 0x400 else 0
  fromRegs ||| fromLedger ||| fromWarning

/-- The MSI-X vector of an event group (DEV.EVT_VECMAP, R35). -/
def State.vectorOf (s : State) (g : Nat) : Nat := fieldOf (s.word .DEV_EVT_VECMAP (g / 4)) (8 * (g % 4)) 6

end Sys2Proof.Machine
end

