-- ==== Sys2Proof/Machine/Ops.lean ====
section
/-! DEFINITION. The named operations every command is written with: time, fresh free values, outward messages, event
delivery (R35), the ledger (R438 to R444), entering the Beam (R23, R276), refusals. -/

namespace Sys2Proof.Machine

/-- How a command ends. -/
abbrev Out' := Host.Outcome State Fault Refusal

-- ------------------------------------------------------------------ time and free values

/-- TIME (R270): the ticks counted, as the last sync load set them against the chassis (R272). -/
def State.now (s : State) : DWord := s.time + s.timeOffset

/-- n ticks pass. -/
def State.pass (s : State) (n : Nat) : State := s.putTime (s.time + BitVec.ofNat 64 n)

/-- TIME brought forward to tick t, when t lies ahead: a command that acts on a named tick carries the machine to it
(R8, R270, assumption 2). -/
def State.advanceTo (s : State) (t : DWord) : State := if s.time.toNat < t.toNat then s.putTime t else s

/-- The tick count brought forward until TIME, as registers show it, reads v (R270), when that lies ahead. -/
def State.advanceNow (s : State) (v : Nat) : State := if s.now.toNat < v then s.pass (v - s.now.toNat) else s

/-- TIME n ticks later. -/
def State.later (s : State) (n : Nat) : DWord := s.time + BitVec.ofNat 64 n

/-- Ticks in a microsecond (R8). -/
def ticksPerUs : Nat := 1500

/-- A 32-bit free value, and the state with the counter advanced. -/
def State.freeWord (s : State) : Word × State := (Config.freeWord s.fresh, (s.putFresh (s.fresh + 1)))

-- ------------------------------------------------------------------ outward traffic

/-- The state with an outward item sent. -/
def State.emit (s : State) (o : Out) : State := s.putOut (s.out ++ [o])

/-- A word of the MSI-X table; vector control resets to masked, as the PCI Express specification lays down. -/
def msixWord (m : MsixState) (i : Nat) : Word := Sparse.get (if i % 4 = 3 then 1 else 0) m.table i

/-- A vector's own mask bit. -/
def vectorMasked (m : MsixState) (v : Nat) : Bool := (msixWord m (4 * v + 3)).getLsbD 0

/-- A message on vector v (R363): sent, or held in the pending-bit array while the vector or the function is masked;
nothing while MSI-X is disabled. Neither the link nor bus mastering is looked at (DESIGN CHOICE, assumption 211). -/
def State.sendVector (s : State) (v : Nat) : State :=
  if !s.msix.enable then s
  else if s.msix.functionMask || vectorMasked s.msix v then
    s.putMsix { s.msix with pba := s.msix.pba ||| BitVec.ofNat 64 (2 ^ v) }
  else
    s.emit (.message v (msixWord s.msix (4 * v + 1) ++ msixWord s.msix (4 * v)) (msixWord s.msix (4 * v + 2)))

-- ------------------------------------------------------------------ event delivery

/-- Group g's host message, when the group is pending, unmasked and not already sent (R35); unmasking a group that is pending
sends it, where the bead of `fabEvent` needs the group to become pending (DESIGN CHOICE, assumption 183). -/
def State.hostEvent (s : State) (pend : BitVec 32) (g : Nat) : State :=
  if pend.getLsbD g && (s.word .DEV_EVT_HOST_MASK 0).getLsbD g && !s.dev.evtSent.getLsbD g && s.msix.enable then
    let s := s.sendVector (s.vectorOf g)
    (s.putDev { s.dev with evtSent := s.dev.evtSent ||| BitVec.ofNat 32 (2 ^ g) })
  else s

/-- Group g's bead on the fabric event channel, when the group has become pending and is unmasked; at most one
undelivered bead per group (R35). -/
def State.fabEvent (s : State) (rising : BitVec 32) (g : Nat) : State :=
  if rising.getLsbD g && (s.word .DEV_EVT_FAB_MASK 0).getLsbD g && !s.dev.evtBeads.contains g then
    s.putDev { s.dev with evtBeads := s.dev.evtBeads ++ [g] }
  else s

-- ------------------------------------------------------------------ levels to the cores (R380)

/-- A core with nothing in it. -/
def coreInit : Core :=
  { x := [], pc := 0, csrs := [], reserve := none, access := none, posted := [], fencing := 0
    timecmp := 0xFFFFFFFFFFFFFFFF }

/-- Core n. -/
def State.core (s : State) (n : Nat) : Core := Sparse.get coreInit s.seq.cores n

/-- The state with core n replaced. -/
def State.setCore (s : State) (n : Nat) (v : Core) : State :=
  s.putSeq { s.seq with cores := Sparse.set coreInit s.seq.cores n v }

/-- The level inputs of core n's interrupt controller become pending while their levels hold (R380): event groups
through DEV.EVT_CORE_MASK, and MTIMECMP. -/
def State.coreLevels (s : State) (pend : BitVec 32) (n : Nat) : State :=
  let s := s.setWord .SEQ_IC_PEND_LO n (s.word .SEQ_IC_PEND_LO n ||| (pend &&& s.word .DEV_EVT_CORE_MASK n))
  if (s.core n).timecmp.toNat ≤ s.now.toNat then s.setWord .SEQ_IC_PEND_HI n (s.word .SEQ_IC_PEND_HI n ||| 0x10#32)
  else s

-- ------------------------------------------------------------------ watchdog pauses (R382)

/-- The sequencer's power region is on. -/
def State.seqPowered (s : State) : Bool := (s.word .PWR_REGION_STATUS 0).getLsbD 10

/-- Why watchdog w is paused now: 0 not, 1 a debug halt, 2 its core STOPPED or the sequencer off. -/
def State.dogReason (s : State) (w : Nat) (d : Dog) : Nat :=
  if w = 4 then
    let runs := (List.range 4).any fun n => s.f F.SEQ_CORE_STATUS_STATE n == 1
    if !s.seqPowered || (d.reason == 2 && !runs) then 2
    else if s.on F.WDOG_CTRL_DBG_PAUSE 4 && s.f F.DBG_STATUS_CORES_HALTED 0 != 0 then 1 else 0
  else if !s.seqPowered || s.f F.SEQ_CORE_STATUS_STATE w == 0 then 2
  else if s.on F.DBG_CORE_RC_HALTED w then 1 else 0

/-- Microsecond boundaries of TIME from one tick count to another (R381). -/
def State.boundaries (s : State) (a b : DWord) : Nat :=
  (b + s.timeOffset).toNat / 1500 - (a + s.timeOffset).toNat / 1500

/-- A watchdog's remaining count now. -/
def State.dogCount (s : State) (d : Dog) : Nat :=
  match d.since with
  | some t => d.held - s.boundaries t s.time
  | none => d.held

/-- A count of a watchdog's settings, of which 0 acts as 1. -/
def State.dogUs (s : State) (F' : Fld) (w : Nat) : Nat := max 1 (s.f F' w)

/-- Watchdog w pauses and resumes (R382). -/
def State.dogSync (s : State) (w : Nat) : State :=
  match s.seq.dogs.find? (·.1 == w) with
  | none => s
  | some (_, d) =>
    let r := s.dogReason w d
    if r = d.reason then s
    else
      let load := s.dogUs F.WDOG_LOAD_US w
      let grace := s.dogUs F.WDOG_GRACE_US w
      let d' : Dog :=
        if r ≠ 0 then
          { held := if d.reason = 2 ∧ w ≠ 4 then load else s.dogCount d, since := none, reason := r, warned := d.warned }
        else if d.reason = 2 ∧ w ≠ 4 then { held := load, since := some s.time, reason := 0, warned := false }
        else
          let held := max d.held grace
          { held := held, since := some s.time, reason := 0, warned := d.warned && decide (held ≤ s.dogUs F.WDOG_WARN_US w) }
      (s.putSeq { s.seq with dogs := Sparse.insert s.seq.dogs w d' })

/-- Every group's host message. -/
def State.hostEvents (s : State) (pend : BitVec 32) : State := (List.range 21).foldl (fun s g => s.hostEvent pend g) s

/-- Every group's bead on the fabric event channel. -/
def State.fabEvents (s : State) (rising : BitVec 32) : State := (List.range 21).foldl (fun s g => s.fabEvent rising g) s

/-- Every watchdog pauses and resumes. -/
def State.dogsSync (s : State) : State := (List.range 5).foldl (fun s w => s.dogSync w) s

/-- The levels of every core, while the sequencer is on. -/
def State.coresLevels (s : State) (pend : BitVec 32) : State :=
  if s.seqPowered then (List.range (Part.cores s.part)).foldl (fun s n => s.coreLevels pend n) s else s

/-- DEV.EVT_PEND shows the groups pending. -/
def State.showPend (s : State) (pend : BitVec 32) : State := s.putDev { s.dev with evtPend := pend }

/-- The aggregator's work after a command (R34, R35, R380): groups that became pending are delivered to the host and the
fabric, levels reach the cores, and watchdogs pause and resume (R382). -/
def State.settle (s : State) : State :=
  let pend := s.groups
  ((((s.hostEvents pend).fabEvents (pend &&& ~~~s.dev.evtPend)).dogsSync).coresLevels pend).showPend pend

-- ------------------------------------------------------------------ the ledger

/-- The body of a ledger entry in the value form (R439). -/
structure Body where
  object : Nat
  old : Nat
  new : Nat
  extra : Nat
  deriving DecidableEq, Repr

/-- The body of an entry in the digest form: two 8-byte values (R439). -/
def digestBody (old new : Nat) : Body := ⟨old, old / 2 ^ 32, new, new / 2 ^ 32⟩

/-- The part's own origin: BOOT until the ledger's scan ends, which ends step 1 of R147, CFG_ENGINE after it (R442,
assumption 8). -/
def State.ownOrigin (s : State) : BitVec 8 := if s.ledger.ready then 0x30 else 0x40

/-- The part itself as the maker of a change that no request carried (R441, R442). -/
def State.self (s : State) : Who := ⟨s.ownOrigin, 0xFF⟩

/-- A ledger entry made now (R438, R443, R444): numbered when the scan is done, and kept in the buffer unless the
buffer is full, when it is counted as lost. -/
def State.journal (s : State) (origin : BitVec 8) (kind aux : Nat) (b : Body) : State :=
  let l := s.ledger
  if l.buffer.length < 4096 then
    let seq := if l.ready then l.headSeq + 1 else 0
    let e : Entry :=
      ⟨seq, origin, BitVec.ofNat 8 kind, BitVec.ofNat 16 aux, s.now, BitVec.ofNat 32 b.object, BitVec.ofNat 32 b.old,
        BitVec.ofNat 32 b.new, BitVec.ofNat 32 b.extra⟩
    (s.putLedger { l with buffer := l.buffer ++ [e], headSeq := if l.ready then seq else l.headSeq })
  else
    s.putLedger { l with gap := true, lost := min (2 ^ 32 - 1) (l.lost + 1), lostUntold := l.lostUntold + 1 }

/-- A CHANGE entry naming register r (R441): AUX holds the NI that carried the write. -/
def State.journalChange (s : State) (who : Who) (r : Reg) (inst : Nat) (old new : Word) : State :=
  s.journal who.origin 0x01 who.ni.toNat ⟨csrOffset r inst, old.toNat, new.toNat, 0⟩

/-- The reasons of a REFUSAL entry (R441 AUX [15:8]). -/
inductive Reason where
  | rwq | rwl | absent | dependant | encoding | command | debugLocked | protectedPin
  deriving DecidableEq, Repr

/-- The code of a refusal's reason (R441). -/
def Reason.code : Reason → Nat
  | .rwq => 1
  | .rwl => 2
  | .absent => 3
  | .dependant => 4
  | .encoding => 5
  | .command => 6
  | .debugLocked => 7
  | .protectedPin => 8

/-- A REFUSAL entry naming register r, with the value attempted (R441). -/
def State.journalRefusal (s : State) (who : Who) (why : Reason) (r : Reg) (inst : Nat) (attempted : Nat) : State :=
  s.journal who.origin 0x02 (256 * why.code + who.ni.toNat)
    ⟨csrOffset r inst, (s.word r inst).toNat, attempted, 0⟩

/-- An EVENT entry naming the status register that shows the happening (R441). -/
def State.journalEvent (s : State) (origin : BitVec 8) (r : Reg) (inst extra : Nat) : State :=
  s.journal origin 0x0B (regGroup r) ⟨csrOffset r inst, 0, (s.word r inst).toNat, extra⟩

-- ------------------------------------------------------------------ the Beam

/-- The event stands in the crossbar, behind those that entered no later. -/
def State.putEvent (s : State) (o : BeamFrom) (t : DWord) : State :=
  let early := s.beam.flight.filter (fun e => decide (e.entry.toNat ≤ t.toNat))
  let late := s.beam.flight.filter (fun e => decide (t.toNat < e.entry.toNat))
  (s.putBeam { s.beam with flight := early ++ [⟨o, t⟩] ++ late })

/-- An event enters the crossbar on tick t (R23, R276): a source enters at most one event per tick and counts it in
BEAM.SRC_CNT. -/
def State.enterBeam (s : State) (o : BeamFrom) (t : DWord) : State :=
  if s.beam.flight.any (fun e => e.origin == o && e.entry == t) then s
  else
    match o with
    | .source n => (s.putEvent o t).count F.BEAM_SRC_CNT_EVENTS n
    | .direct _ => s.putEvent o t

/-- An event enters on the next tick. -/
def State.enterNext (s : State) (o : BeamFrom) : State := s.enterBeam o (s.later 1)

-- ------------------------------------------------------------------ absent units

/-- A write to an absent unit or a reserved offset is reported (R28). -/
def State.absentWrite (s : State) (off : Nat) (who : Who) : State :=
  let s := s.setF F.DEV_ABSENT_LOG_OFFSET 0 off
  let s := s.setF F.DEV_ABSENT_ORIGIN_ORIGIN 0 who.origin.toNat
  let s := s.bump F.DEV_ABSENT_ORIGIN_ABSENT_COUNT 0 1
  s.raise F.DEV_STATUS_ABSENT_WRITE 0

end Sys2Proof.Machine
end

