-- ==== Sys2Proof/Machine/Frames.lean ====
section
/-! DEFINITION. Configuration memory and the records in its frames: cells (R47), routing (R71, R139), memories and queues
(R93, R141), reckoners, pin stations, pin timing clocks and pad records (R83, R86, R390), at the places of R138. -/

namespace Sys2Proof.Machine

/-- The key of a frame: logical rod and frame number. -/
def frameKey (rod frame : Nat) : Nat := 1024 * rod + frame

/-- A frame's data. -/
def State.frame (s : State) (rod frame : Nat) : BitVec 4096 := Sparse.get 0 s.cfg.frames (frameKey rod frame)

/-- The state with a frame's data replaced. -/
def State.setFrame (s : State) (rod frame : Nat) (v : BitVec 4096) : State :=
  s.putCfg { s.cfg with frames := Sparse.set 0 s.cfg.frames (frameKey rod frame) v }

/-- Bits of one frame as a number. -/
def frameBits (v : BitVec 4096) (lo w : Nat) : Nat := (v.toNat / 2 ^ lo) % 2 ^ w

/-- w bits from position pos of the frames first, first + 1, … of a rod laid end to end; look answers a frame's data. -/
def spanBits (look : Nat → BitVec 4096) (first pos w : Nat) : Nat :=
  let k := pos / 4096
  let both := (look (first + k)).toNat + 2 ^ 4096 * (look (first + k + 1)).toNat
  (both / 2 ^ (pos % 4096)) % 2 ^ w

/-- w bits from position pos of a rod's concatenated frames as configuration memory holds them. -/
def State.rodBits (s : State) (rod first pos w : Nat) : Nat := spanBits (s.frame rod) first pos w

/-- The state with w bits at position pos of a rod's concatenated frames replaced. -/
def State.setRodBits (s : State) (rod first pos w v : Nat) : State :=
  let k := first + pos / 4096
  let o := pos % 4096
  let a := (s.frame rod k).toNat
  let b := (s.frame rod (k + 1)).toNat
  let both := a + 2 ^ 4096 * b
  let both' := both - (both / 2 ^ o % 2 ^ w) * 2 ^ o + (v % 2 ^ w) * 2 ^ o
  let s := s.setFrame rod k (BitVec.ofNat 4096 both')
  if o + w ≤ 4096 then s else s.setFrame rod (k + 1) (BitVec.ofNat 4096 (both' / 2 ^ 4096))

-- ------------------------------------------------------------------ logic cells (R47, R138)

/-- A cell's 160-bit record. -/
def State.cellRecord (s : State) (c : CellId) : Nat := s.rodBits c.rod (5 * c.row) (160 * c.cell) 160

/-- Bits of a record. -/
def recBits (r lo w : Nat) : Nat := (r / 2 ^ lo) % 2 ^ w

/-- TABLE[16A + 4B + C] of a cell record (R44). -/
def tableOf (r : Nat) (a b c : Digit) : Digit :=
  BitVec.ofNat 2 (recBits r (2 * (16 * a.toNat + 4 * b.toNat + c.toNat)) 2)

/-- USE_A, USE_B, USE_C, USE_D: input k is routed. -/
def usesInput (r k : Nat) : Bool := recBits r (128 + k) 1 == 1
/-- TIE_A, TIE_B, TIE_C; the tie of D is 0b00. -/
def tieOf (r k : Nat) : Digit := if k < 3 then BitVec.ofNat 2 (recBits r (132 + 2 * k) 2) else 0
/-- MODE: 0 normal, 1 chain member, 2 chain end. -/
def cellMode (r : Nat) : Nat := recBits r 138 2
/-- HOLD_EN. -/
def cellHolds (r : Nat) : Bool := recBits r 140 1 == 1
/-- INIT as the initial state of the holding stage. -/
def cellInit (r : Nat) : Option Digit := if recBits r 143 1 = 1 then some (BitVec.ofNat 2 (recBits r 141 2)) else none
/-- STEER of a chain end. -/
def cellSteers (r : Nat) : Bool := recBits r 144 1 == 1
/-- CHAIN_LEN of a chain end, in cells. -/
def chainLen (r : Nat) : Nat :=
  match recBits r 145 3 with
  | 0 => 1
  | n => 4 * n

/-- The select digits a chain of a length uses (R53). -/
def selectCount (len : Nat) : Nat := if len = 1 then 1 else if len = 4 then 2 else 3

-- ------------------------------------------------------------------ routing (R139)

/-- A field of a tile routing record. -/
def State.tileBits (s : State) (rod row lo w : Nat) : Nat := s.rodBits rod 480 (6784 * row + lo) w

/-- DRV_EN of the driver point of a long-line track at a rod (R74, R139). -/
def State.drives (s : State) (rod row track : Nat) : Bool := s.tileBits rod row (5248 + 9 * track) 1 == 1

/-- The first and last logical rod of a segment (R74). -/
def segmentRods (p : Part) (track seg : Nat) : Nat × Nat :=
  let last := Part.rods p - 1
  if track % 2 = 0 then (32 * seg, min last (32 * seg + 31))
  else if seg = 0 then (0, min last 15) else (32 * seg - 16, min last (32 * seg + 15))

/-- The segment index of a track at a rod (R74). -/
def segmentOf (track rod : Nat) : Nat := if track % 2 = 0 then rod / 32 else (rod + 16) / 32

/-- A segment ID (R74). -/
def segmentId (row track seg : Nat) : Nat := row + 128 * track + 1024 * seg

/-- The rods whose driver point on a segment is enabled in configuration memory, westmost first: the driver table of
R76. -/
def State.driversOf (s : State) (seg : Nat) : List Nat :=
  let row := seg % 128
  let track := seg / 128 % 8
  let range := segmentRods s.part track (seg / 1024 % 16)
  ((List.range (range.2 + 1 - range.1)).map (· + range.1)).filter fun rod => s.drives rod row track

-- ------------------------------------------------------------------ memories, queues, reckoners (R93, R141)

/-- A block memory's settings record. -/
def State.memRecord (s : State) (rod m : Nat) : Nat := frameBits (s.frame rod 928) (32 * m) 32
/-- A queue controller's settings record. -/
def State.queueRecord (s : State) (q : Nat) : Nat := frameBits (s.frame (q / 8) 928) (1024 + 128 * (q % 8)) 128
/-- A reckoner's settings record. -/
def State.reckonerRecord (s : State) (rod k : Nat) : Nat := frameBits (s.frame rod 929) (128 * k) 128

/-- The width in bits of a width code, and the depth in words (R91). -/
def widthOf : Nat → Nat × Nat
  | 1 => (1, 32768)
  | 2 => (2, 16384)
  | 3 => (4, 8192)
  | 4 => (9, 4096)
  | 5 => (18, 2048)
  | 6 => (36, 1024)
  | 7 => (72, 512)
  | _ => (0, 0)

-- ------------------------------------------------------------------ pins (R82, R83, R86, R138, R390)

/-- The home rod of user pin p (R82). -/
def homeRod (part : Part) (p : Nat) : Nat :=
  let i := p / 16
  let n := p % 16
  if part.variant = .M then (if i < 6 then 20 * i + n else 20 * (i - 6) + n)
  else if i < 6 then 40 * i + 2 * n else 40 * (i - 6) + 2 * n + 1

/-- A pin's station record (R83, R138). -/
def State.stationRecord (s : State) (p : Nat) : Nat :=
  frameBits (s.frame (homeRod s.part p) 930) (if p < 96 then 0 else 32) 32

/-- Pin timing clock c (R86). -/
def State.ptc (s : State) (c : Nat) : Nat := frameBits (s.frame 0 930) (64 + 32 * c) 32

/-- A pin's pad record as the image holds it (R390). -/
def State.padRecord (s : State) (p : Nat) : Nat :=
  if p < 96 then frameBits (s.frame (homeRod s.part p) 930) 320 32
  else if p < 192 then frameBits (s.frame (homeRod s.part p) 930) 352 32
  else frameBits (s.frame 0 930) (384 + 32 * (p - 192)) 32

/-- The key of a cell's stage. -/
def cellKey (c : CellId) : Nat := (96 * c.rod + c.row) * 128 + c.cell
/-- The rod of a stage key. -/
def rodOfCellKey (k : Nat) : Nat := k / (96 * 128)
/-- The key of an arbitration cell. -/
def arbKey (rod row a : Nat) : Nat := (96 * rod + row) * 4 + a
/-- The key of a block memory. -/
def memKey (rod m : Nat) : Nat := 32 * rod + m
/-- The key of a row of a block memory. -/
def rowKey (rod m row : Nat) : Nat := 512 * memKey rod m + row

-- ------------------------------------------------------------------ when the fabric is held

/-- The span that owns a logical rod. -/
def State.spanOf (s : State) (rod : Nat) : Option SpanDecl := s.cfg.spans.find? (fun d => d.rods.getLsbD rod)

/-- A span's state (SPAN_STATUS.STATE, R164): 1 is RUNNING. -/
def State.spanState (s : State) (n : Nat) : Nat := s.f F.CFG_SPAN_STATUS_STATE n

/-- A release in progress reaches a rod (R49). -/
def State.reaches (s : State) (r : Reach) (rod : Nat) : Bool :=
  match r with
  | .all => true
  | .span n => (s.cfg.spans.find? (·.id == n)).any (fun d => d.rods.getLsbD rod)
  | .rods a b => decide (a ≤ rod ∧ rod ≤ b)

/-- The gates of a span are closed (R161, R164, R166): it is neither RUNNING nor draining, its rods have settled after
isolation, and its release tick has not come. -/
def State.spanClosed (s : State) (n : Nat) : Bool :=
  s.spanState n != 1 && s.spanState n != 2 && !s.cfg.spanSettling.contains n && !s.cfg.spanReleased.contains n

/-- The stages of a rod are gated (R49): no image runs, a release is in progress for it, its span's gates are closed,
its power region is off, or a brownout gates the fabric. -/
def State.gated (s : State) (rod : Nat) : Bool :=
  !s.on F.DEV_STATUS_USER_MODE 0 || s.fabric.brownout ||
  s.cfg.releases.any (fun r => s.reaches r.reach rod) ||
  (s.spanOf rod).any (fun d => s.spanClosed d.id) ||
  !(s.word .PWR_REGION_STATUS 0).getLsbD (rod / 32)

/-- At throttle level k a rod withholds its acknowledges and gates its stages for 100 k of every 1,600 ticks, by turns of
the repair groups (R386). -/
def State.throttled (s : State) (rod : Nat) : Bool :=
  decide ((s.time.toNat + Config.throttlePhase (rod / 16)) % 1600 < 100 * s.f F.SEQ_GUARD_STATUS_LEVEL 0)

/-- The rod's span is isolated and its rods have not all settled: its stages behave as under FREEZE (R161). -/
def State.spanFrozen (s : State) (rod : Nat) : Bool := (s.spanOf rod).any (fun d => s.cfg.spanSettling.contains d.id)

/-- Capture is not IDLE and its FREEZE has acted (R174): SETTLING, FROZEN or THAWING. -/
def State.captured (s : State) : Bool := decide (2 ≤ s.f F.CFG_CAP_STATUS_STATE 0)

end Sys2Proof.Machine
end

