-- ==== Sys2Proof/Machine/Wear.lean ====
section
/-! DEFINITION. The repair map and the error monitors of physical rods: where a logical rod stands (R80, R181), what is
counted against a rod (R184), wear faults and degraded operation (R189, R195). -/

namespace Sys2Proof.Machine

/-- The physical tile row of a physical rod on which a logical tile row stands: the good rows in order, those beyond the 96th
idle (R182). -/
def State.tileRow (s : State) (phys row : Nat) : Nat :=
  let bad := Sparse.get 0 s.repair.badRows phys
  ((List.range 100).filter fun k => !bad.getLsbD k).getD row 100

/-- The physical rod on which a logical rod stands; none when it is lost or the map is not formed. -/
def State.physOf (s : State) (rod : Nat) : Option Nat :=
  match Sparse.get 0 s.repair.place rod with
  | 0 => none
  | k + 1 => some k

/-- The logical rod that a physical rod hosts. -/
def State.hosted (s : State) (phys : Nat) : Option Nat :=
  (s.repair.place.find? (fun kv => kv.2 == phys + 1)).map (·.1)

/-- The state with logical rod placed on a physical rod. -/
def State.placeRod (s : State) (rod phys : Nat) : State :=
  s.putRepair { s.repair with place := Sparse.set 0 s.repair.place rod (phys + 1) }

/-- The repair map is formed and gives a logical rod no physical home (R183). -/
def State.lostRod (s : State) (rod : Nat) : Bool :=
  s.on F.REPAIR_STATUS_PUST_DONE 0 && (s.physOf rod).isNone

/-- The device enters or stays in degraded operation for a cause of R195. -/
def State.degrade (s : State) : State :=
  let s := s.raise F.DEV_STATUS_DEGRADED 0
  let s := s.raise F.REPAIR_STATUS_DEGRADED 0
  s.journalEvent s.ownOrigin .REPAIR_STATUS 0 0

/-- The repair group of a physical rod. -/
def groupOfPhys (phys : Nat) : Nat := phys / 17

/-- Physical positions of a group FAILED or RETIRED. -/
def State.failedRods (s : State) (g : Nat) : List Nat :=
  ((List.range 17).map (17 * g + ·)).filter fun k => decide (3 ≤ s.f F.REPAIR_ROD_STATUS_STATE k)

/-- The group's count of failed positions is brought up to date (GROUP_STATUS.FAILED). -/
def State.countFailed (s : State) (g : Nat) : State := s.setF F.REPAIR_GROUP_STATUS_FAILED g (s.failedRods g).length

/-- A rod is RETIRED with a cause: it joins the retirement list, its group becomes FIXED unless it is degraded, and the
ledger records it (R187, R188). -/
def State.retire (s : State) (phys cause : Nat) : State :=
  let g := groupOfPhys phys
  let s := s.setF F.REPAIR_ROD_STATUS_STATE phys 4
  let s := s.setF F.REPAIR_ROD_STATUS_LOGICAL phys 0
  let s := s.setF F.REPAIR_ROD_STATUS_CAUSE phys cause
  let s := s.putRepair { s.repair with
    retired := if s.repair.retired.contains phys then s.repair.retired else s.repair.retired ++ [phys] }
  let s := s.setF F.REPAIR_RETIRED_COUNT 0 s.repair.retired.length
  let s := if s.f F.REPAIR_GROUP_STATUS_STATE g = 2 then s else s.setF F.REPAIR_GROUP_STATUS_STATE g 1
  let s := s.countFailed g
  let s := s.setF F.REPAIR_GROUP_STATUS_GAP g ((s.failedRods g).headD phys % 17)
  let s := s.raise F.REPAIR_STATUS_RETIRED 0
  s.journal 0x31 0x07 2 ⟨0x30000000 + phys, 0, 0, 0⟩

/-- A wear fault that cannot be migrated (R189). -/
def State.wearStuck (s : State) : State := (s.raise F.REPAIR_STATUS_WEAR_STUCK 0).degrade

/-- A group can migrate a rod: it roves, or it does not because its mode is OFF (R189); its region is on. -/
def State.migrates (s : State) (g : Nat) : Bool :=
  let st := s.f F.REPAIR_GROUP_STATUS_STATE g
  (s.word .PWR_REGION_STATUS 0).getLsbD (g / 2) && (st == 0 || (st == 3 && (s.word .REPAIR_ROVE_MODE 0).toNat / 4 ^ g % 4 == 0))

/-- A wear fault is declared for a physical rod (R184, R189): a migration is asked for when the group can migrate;
a spare is retired at once; any other fault stays in service and degrades the device. -/
def State.wearFault (s : State) (phys : Nat) : State :=
  let g := groupOfPhys phys
  let s := s.raise F.REPAIR_STATUS_WEAR 0
  let hosts := (s.hosted phys).isSome
  if hosts ∧ s.migrates g then
    if s.repair.migrations.contains phys then s
    else s.putRepair { s.repair with migrations := s.repair.migrations ++ [phys] }
  else
    let s := s.wearStuck
    if !hosts && decide (s.f F.REPAIR_ROD_STATUS_STATE phys < 3) then s.retire phys 9 else s

/-- One event is counted against a physical rod (R184): MON_COUNT, and a wear fault when WEAR_CFG.THRESH events fall
within WEAR_CFG.WINDOW_MS. -/
def State.countAgainst (s : State) (phys : Nat) (uncorrectable : Bool) : State :=
  let s := s.bump (if uncorrectable then F.REPAIR_MON_COUNT_UNCORR else F.REPAIR_MON_COUNT_CORRECTED) phys 1
  let window := max 1 (s.f F.REPAIR_WEAR_CFG_WINDOW_MS 0) * 1000 * ticksPerUs
  let thresh := max 1 (s.f F.REPAIR_WEAR_CFG_THRESH 0)
  let recent := (Sparse.get [] s.repair.counted phys).filter fun t => decide (s.time.toNat < t.toNat + window)
  let all := recent ++ [s.time]
  if thresh ≤ all.length then
    let s := s.putRepair { s.repair with counted := Sparse.set [] s.repair.counted phys [] }
    s.wearFault phys
  else s.putRepair { s.repair with counted := Sparse.set [] s.repair.counted phys all }

/-- One event is counted against the physical rod on which a logical rod stands. -/
def State.countRod (s : State) (rod : Nat) (uncorrectable : Bool) : State :=
  match s.physOf rod with
  | some k => s.countAgainst k uncorrectable
  | none => s

/-- A code fault is counted against the physical tile row it was seen in, and so its belt, and against the rod (R43, R182,
R184). -/
def State.countCodeFault (s : State) (rod row : Nat) : State :=
  match s.physOf rod with
  | some k =>
    let key := 128 * k + s.tileRow k row
    let s := s.putRepair { s.repair with
      codeFaults := Sparse.set 0 s.repair.codeFaults key (Sparse.get 0 s.repair.codeFaults key + 1) }
    s.countAgainst k false
  | none => s

/-- A step of the roving spare still moves its rod: its release has not come (R186). -/
def RoveStep.moving (st : RoveStep) : Bool := !(st.switched && st.frozenAt.isNone)

/-- A step is moving a logical rod. -/
def State.movingRod (s : State) (rod : Nat) : Bool := s.repair.step.any fun st => st.logical == rod && st.moving

/-- A logical rod is frozen: by a capture (R173), by its span's isolation (R161) or by a step of the roving spare
(R186). -/
def State.frozen (s : State) (rod : Nat) : Bool :=
  s.captured || s.spanFrozen rod || s.repair.step.any (fun st => st.logical == rod && st.frozenAt.isSome)

end Sys2Proof.Machine
end

