-- ==== Sys2Proof/Machine/Wires.lean ====
section
/-! DEFINITION. The wires of the fabric: what a source code selects (R70, R71, R139), the slots of hard-block inputs
(R140), long-line segments and their drivers (R74, R75, R78), and which fabric NIs the image uses (R17). Rods are logical:
the shift multiplexers keep a route's endpoints whatever the repair map (R80). -/

namespace Sys2Proof.Machine

-- ------------------------------------------------------------------ source codes

/-- A wire that a source code can select: an outgoing cluster track by its place in R139's order, the long-line segment
that the driver point of a rod drives, a spine. -/
inductive Wire where
  | track (rod row t : Nat)
  | line (rod row k : Nat)
  | spine (rod i : Nat)
  deriving DecidableEq, Repr

/-- What drives a wire or an input: nothing, a cell's output, a digit of a hard block's output, or another wire. -/
inductive Origin where
  | none
  | cell (c : CellId)
  | hard (rod : Nat) (o : RodOutput) (digit : Nat)
  | wire (w : Wire)
  deriving DecidableEq, Repr

/-- A source code of a tile routing record at bit lo (R139). -/
def State.tileCode (s : State) (rod row lo : Nat) : Nat := s.tileBits rod row lo 8

/-- Where the codes of a tile routing record lie (R139). -/
def portAt (cell port : Nat) : Nat := 32 * cell + 8 * port
def selectAt (slice digit : Nat) : Nat := 4096 + 24 * slice + 8 * digit
def requestAt (arb r : Nat) : Nat := 4288 + 16 * arb + 8 * r
def trackAt (t : Nat) : Nat := 4352 + 8 * t
def driverAt (k : Nat) : Nat := 5249 + 9 * k
def slotAt (i : Nat) : Nat := 5320 + 8 * i

/-- The vertical track that arrives on code c at a tile row: its class by the code, its direction by the tile's position
(R70, R71). A track that would come from beyond the rod's first or last row does not exist. -/
def verticalTrack (rod row c : Nat) : Origin :=
  let (i, reach, north, south) :=
    if c < 145 then (c - 129, 1, 0, 16) else if c < 161 then (c - 145, 4, 32, 48) else (c - 161, 12, 64, 72)
  if Config.northbound row c then
    (if row + reach < 96 then .wire (.track rod (row + reach) (north + i)) else .none)
  else if reach ≤ row then .wire (.track rod (row - reach) (south + i)) else .none

/-- The lateral track that arrives on code c: an east track of the western neighbour, a west track of the eastern one. -/
def lateralTrack (p : Part) (rod row c : Nat) : Origin :=
  let t := (Config.lateralTap row c).val
  if t < 16 then (if rod = 0 then .none else .wire (.track (rod - 1) row (80 + t)))
  else if rod + 1 < Part.rods p then .wire (.track (rod + 1) row (80 + t)) else .none

/-- The driver points of a segment that are enabled in configuration memory, or as a contention found them (R78). -/
def State.enabledDrivers (s : State) (seg : Nat) : List Nat :=
  match s.fabric.contentions.find? (·.seg == seg) with
  | some c => c.rods
  | none => s.driversOf seg

/-- The rod whose driver point drives a segment: the only enabled one, or the one that its contention guard grants (R75,
R78). -/
def State.lineDriver (s : State) (seg : Nat) : Option Nat :=
  match s.fabric.contentions.find? (·.seg == seg) with
  | some c => some c.granted
  | none => (s.driversOf seg).head?

/-- The segment of long-line track k at a tile row of a rod. -/
def lineSegment (rod row k : Nat) : Nat := segmentId row k (segmentOf k rod)

/-- What a source code selects at a tile (R71, R139). -/
def State.codeOrigin (s : State) (rod row c : Nat) : Origin :=
  if c = 0 ∨ 192 < c then .none
  else if c ≤ 128 then .cell ⟨rod, row, c - 1⟩
  else
    match Config.hardTap row c with
    | some (o, d) => .hard rod o d
    | none =>
      if c < 169 then verticalTrack rod row c
      else if c < 177 then lateralTrack s.part rod row c
      else if c < 185 then
        match s.lineDriver (lineSegment rod row (c - 177)) with
        | some driver => .wire (.line driver row (c - 177))
        | none => .none
      else .wire (.spine rod (Config.spineTap row c).val)

/-- Where a wire's own source code stands: rod, tile row, code (R71, R138, R139). -/
def State.wireCode (s : State) (w : Wire) : Nat × Nat × Nat :=
  match w with
  | .track rod row t => (rod, row, s.tileCode rod row (trackAt t))
  | .line rod row k => (rod, row, s.tileCode rod row (driverAt k))
  | .spine rod i => (rod, (Config.spineRow i).val, frameBits (s.frame rod 639) (8 * i) 8)

/-- What drives a wire's source. -/
def State.wireOrigin (s : State) (w : Wire) : Origin :=
  let (rod, row, c) := s.wireCode w
  s.codeOrigin rod row c

/-- A bound on the wires of a route: there are no more in the part. -/
def State.routeBound (s : State) : Nat := Part.rods s.part * 16384

-- ------------------------------------------------------------------ spans (R159, R161)

/-- A span stands behind its boundary: from its isolation tick to its release tick, and while a reset of it runs (R161,
R164). -/
def State.spanBounded (s : State) (n : Nat) : Bool :=
  s.cfg.spanSettling.contains n || s.spanClosed n || s.cfg.releases.any fun r => r.reach == .span n

/-- The span of a rod that stands behind its boundary. -/
def State.boundedSpan (s : State) (rod : Nat) : Option SpanDecl := (s.spanOf rod).filter fun d => s.spanBounded d.id

/-- The boundary entry of a span for a track of a class at a tile row of one of its rods, into the span (false) or out
of it (R159); a crossing track that no entry names is an inbound STALL track. -/
def boundaryPolicy (d : SpanDecl) (cls rod row t : Nat) : Option Bool :=
  (d.bounds.find? fun w =>
    let b := w.toNat
    recBits b 16 2 == cls && recBits b 8 8 == rod && recBits b 0 7 == row && recBits b 26 1 == 0 &&
    decide (recBits b 18 4 ≤ t ∧ t ≤ recBits b 18 4 + recBits b 22 4)).map fun w => recBits w.toNat 27 1 == 1

/-- Rods a and b lie on two sides of the boundary of a span that stands behind it; a the outside, b the inside. -/
def State.entersSpan (s : State) (a b : Nat) : Option SpanDecl := (s.boundedSpan b).filter fun d => !d.rods.getLsbD a

/-- The class (R159), origin rod, tile row and index of a wire that can cross a boundary. -/
def Wire.crossing : Wire → Option (Nat × Nat × Nat × Nat)
  | .track a row t => if t < 80 then none else if t < 96 then some (0, a, row, t - 80) else some (1, a, row, t - 96)
  | .line a row k => some (2, a, row, k)
  | .spine .. => none

/-- An entry of a span names a track out of it (R159). -/
def boundaryOut (d : SpanDecl) (cls rod row t : Nat) : Bool :=
  d.bounds.any fun w =>
    let b := w.toNat
    recBits b 16 2 == cls && recBits b 8 8 == rod && recBits b 0 7 == row && recBits b 26 1 == 1 &&
    decide (recBits b 18 4 ≤ t ∧ t ≤ recBits b 18 4 + recBits b 22 4)

/-- A wire leaves an isolated span towards a rod on a track that no entry names as outbound (R159). -/
def State.leavesUnnamed (s : State) (w : Wire) (rod : Nat) : Bool :=
  match w.crossing with
  | some (cls, a, row, t) => (s.boundedSpan a).any fun d => !d.rods.getLsbD rod && !boundaryOut d cls a row t
  | none => false

/-- The boundary of an isolated span stops what a wire carries towards a rod (R159, R161). -/
def State.stopsAt (s : State) (w : Wire) (rod : Nat) : Bool :=
  match w.crossing with
  | some (_, a, _, _) => (s.entersSpan a rod).isSome || s.leavesUnnamed w rod
  | none => false

/-- The output that drives an input or a wire by way of any number of wires. -/
def State.follow (s : State) : Nat → Nat → Nat → Nat → Origin
  | 0, _, _, _ => .none
  | n + 1, rod, row, c =>
    match s.codeOrigin rod row c with
    | .wire w =>
      if s.stopsAt w rod then .none
      else
        let (rod', row', c') := s.wireCode w
        s.follow n rod' row' c'
    | o => o

/-- What drives an input whose source code is c at a tile. -/
def State.driverOf (s : State) (rod row c : Nat) : Origin := s.follow s.routeBound rod row c

-- ------------------------------------------------------------------ the slots of hard blocks (R140)

/-- The logical rod of a queue. -/
def queueRod (q : Nat) : Nat := q / 8

/-- Tap k of BEAM_MAP (R280): FTO0 to FTO15 are taps 0 to 15, FTI0 to FTI15 are taps 16 to 31. -/
def State.tapEntry (s : State) (k : Nat) : Nat :=
  (s.cfg.beamMap.getD (1 + k / 2) 0).toNat / 2 ^ (16 * (k % 2)) % 65536
/-- USED of a tap entry. -/
def tapUsed (e : Nat) : Bool := e / 32768 == 1
/-- The logical rod of a tap entry. -/
def tapRod (e : Nat) : Nat := e % 256
/-- The belt of a tap entry. -/
def tapBelt (e : Nat) : Nat := e / 256 % 4

/-- The first of a reckoner's 76 input digits that belongs to a port: A, D, B, C, OP (R140). -/
def reckonerBase : Nat → Nat
  | 0 => 0
  | 1 => 14
  | 2 => 28
  | 3 => 42
  | _ => 74

/-- A queue controller's 38 input digits lie beside this tile row. -/
def queueBeside (row : Nat) : Bool := row / 3 % 4 == 0

/-- The place of a pin station's slot: after the memory's 30, the reckoner's 19 and, where there is one, the queue's. -/
def pinSlot (row : Nat) : Nat := 49 + if queueBeside row then (40 - row % 3) / 3 else 0

/-- Rod, tile row and slot of a digit of an input channel (R140): the digits of a block are dealt to its tile rows in turn,
and on each row the slots fill in block order. -/
def State.sinkSlot (s : State) (b : BeadSink) (d : Nat) : Nat × Nat × Nat :=
  let memory (rod m n : Nat) := (rod, 3 * m + n % 3, n / 3)
  let queue (q n : Nat) := (queueRod q, 12 * (q % 8) + n % 3, 49 + n / 3)
  match b with
  | .memReq rod m port => memory rod m (45 * port + d)
  | .memData rod m port => memory rod m (45 * port + 9 + d)
  | .reckoner rod k port =>
    let n := reckonerBase port + d
    (rod, 4 * k + n % 4, 30 + n / 4)
  | .queueData q => queue q d
  | .queueControl q => queue q 36
  | .queueFlush q => queue q 37
  | .pin p =>
    let row := if p < 96 then 0 else 95
    (homeRod s.part p, row, pinSlot row)
  | .niChannel n chan =>
    let at_ := Config.niSlot n chan d
    (edgeRod n, 32 * (n / 32) + 12 + at_.1.val, at_.2.val)
  | .fto n =>
    let e := s.tapEntry n
    (tapRod e, 32 * tapBelt e + (Config.ftoSlot n).1.val, (Config.ftoSlot n).2.val)
  | .icpCommand => (0, (Config.icpSlot 0 d).1.val, (Config.icpSlot 0 d).2.val)
  | .icpData => (0, (Config.icpSlot 1 d).1.val, (Config.icpSlot 1 d).2.val)
  | .cell c => (c.rod, c.row, 0)
  | .request rod row _ _ => (rod, row, 0)

/-- Digits of a word of a width (R91): the upper bit of an odd width's top digit is unused. -/
def digitsOf (w : Nat) : Nat := (w + 1) / 2

/-- The digits of an input channel that the rod's records put in use (R55, R91, R94, R106, R168, R227). -/
def State.sinkDigits (s : State) (b : BeadSink) : Nat :=
  match b with
  | .memReq rod m port => if recBits (s.memRecord rod m) (3 * port) 3 = 0 then 0 else 9
  | .memData rod m port => digitsOf (widthOf (recBits (s.memRecord rod m) (3 * port) 3)).1
  | .reckoner rod k port =>
    match port with
    | 3 => 32
    | 4 => if recBits (s.reckonerRecord rod k) 69 1 = 1 then 2 else 0
    | _ => 14
  | .queueData q => digitsOf (widthOf (s.f F.QUEUE_CONFIG_WIDTH q)).1
  | .queueControl q => if s.on F.QUEUE_CONFIG_MODE q then 1 else 0
  | .niChannel .. => 36
  | .icpCommand => 8
  | .icpData => 16
  | .cell _ => 0
  | .queueFlush _ | .pin _ | .fto _ | .request .. => 1

/-- The source code of a digit of an input channel that has slots. -/
def State.sinkCode (s : State) (b : BeadSink) (d : Nat) : Nat × Nat × Nat :=
  match b with
  | .request rod row a r => (rod, row, s.tileCode rod row (requestAt a r))
  | b =>
    let (rod, row, i) := s.sinkSlot b d
    (rod, row, s.tileCode rod row (slotAt i))

/-- Some digit of an input channel is routed. -/
def State.sinkRouted (s : State) (b : BeadSink) (digits : Nat) : Bool :=
  (List.range digits).any fun d => (s.sinkCode b d).2.2 != 0

-- ------------------------------------------------------------------ what the image uses (R17)

/-- Every source code of a rod, with its tile row: those of tile routing records and of spines. -/
def State.rodCodes (s : State) (rod : Nat) : List (Nat × Nat) :=
  ((List.range 96).filter fun row => s.tileBits rod row 0 6784 != 0).flatMap (fun row =>
    ((List.range 656).map fun i => (row, s.tileCode rod row (8 * i))) ++
    ((List.range 8).map fun k => (row, s.tileCode rod row (driverAt k))) ++
    ((List.range 80).map fun i => (row, s.tileCode rod row (slotAt i)))) ++
  ((List.range 16).map fun i => ((Config.spineRow i).val, frameBits (s.frame rod 639) (8 * i) 8))

/-- A source code of a rod selects the output of its fabric NI of a belt. -/
def State.selectsNi (s : State) (rod belt : Nat) : Bool :=
  (s.rodCodes rod).any fun (row, c) =>
    decide (128 < c) && match Config.hardTap row c with
      | some (.ni b _, _) => b == belt
      | _ => false

/-- The loaded image uses a fabric NI (R17): a digit of IQ or TR is routed, or a code selects one of its outputs. -/
def State.usesNi (s : State) (n : Nat) : Bool :=
  s.sinkRouted (.niChannel n 0) 36 || s.sinkRouted (.niChannel n 1) 36 || s.selectsNi (edgeRod n) (n / 32)

/-- The fabric NIs that the loaded image uses. -/
def State.usedNis (s : State) : BitVec 96 :=
  BitVec.ofNat 96 (((List.range 0x60).filter fun n => niPresent s.part n && s.usesNi n).foldl (fun acc n => acc + 2 ^ n) 0)

end Sys2Proof.Machine
end

