-- ==== Sys2Proof/Machine/Fabric.lean ====
section
/-! DEFINITION. Cells and beads: digit codes (R41, R43), holding stages and arrival latches (R44 to R50), selection
chains (R53, R54), arbitration cells (R52), reckoners (R55 to R58), contention guards (R78, R79) and trigger outputs
(R88). -/

namespace Sys2Proof.Machine

-- ------------------------------------------------------------------ digits

/-- The value of a digit's rails: that of the lowest-numbered high rail (R41, R43); none for spacer. -/
def digitOf (r : Rails) : Option Digit :=
  if r.getLsbD 0 then some 0
  else if r.getLsbD 1 then some 1
  else if r.getLsbD 2 then some 2
  else if r.getLsbD 3 then some 3
  else none

/-- Two or more rails are high (R43). -/
def invalidCode (r : Rails) : Bool := !(r == 0 || r == 1 || r == 2 || r == 4 || r == 8)

/-- The rails a digit of a value drives. -/
def railsOf (v : Digit) : Rails := BitVec.ofNat 4 (2 ^ v.toNat)

/-- The rails that an upset raises on digit d of a channel (R43). -/
def upsetAt (u : Upset) (d : Nat) : Rails := u.foldl (fun r x => if x.1 = d then r ||| x.2 else r) 0

/-- A digit as its reader sees it: the value of the lowest-numbered high rail, and whether its code is invalid (R43). -/
def readDigit (v : Digit) (upset : Rails) : Digit × Bool :=
  let r := railsOf v ||| upset
  ((digitOf r).getD v, invalidCode r)

/-- The number a channel's digits carry, least significant digit first (R41). -/
def digitsNat : List Digit → Nat
  | [] => 0
  | d :: ds => d.toNat + 4 * digitsNat ds

/-- Digit d of a number on a channel. -/
def digitNat (n d : Nat) : Digit := BitVec.ofNat 2 (n / 4 ^ d)

-- ------------------------------------------------------------------ handshakes (R42, R46, R48)

/-- A sink's input handshake is in progress: its ACK is high. -/
def State.acking (s : State) (b : BeadSink) : Bool := s.fabric.takings.any (·.sink == b)

/-- An output's previous bead has finished phase 4: no consumer's ACK is high for it. -/
def State.clear (s : State) (x : BeadSource) : Bool :=
  !s.fabric.takings.any fun t => t.wait.contains x || t.gone.contains x

/-- An output has returned to spacer and waits for its consumers to lower ACK. -/
def State.returning (s : State) (x : BeadSource) : Bool := s.fabric.takings.any fun t => t.gone.contains x

/-- A sink takes a bead of these outputs and raises ACK; a bead of constants alone ends its handshake at once (R45). -/
def State.takeFrom (s : State) (b : BeadSink) (xs : List BeadSource) : State :=
  if xs.isEmpty then s
  else s.putFabric { s.fabric with takings := s.fabric.takings ++ [⟨b, xs.eraseDups, []⟩] }

/-- The handshake after an output has returned to spacer; none when its ACK falls with it. -/
def Taking.release (t : Taking) (x : BeadSource) : Option Taking :=
  if t.wait.contains x then
    let wait := t.wait.filter (· != x)
    if wait.isEmpty then none else some { t with wait := wait, gone := t.gone ++ [x] }
  else some t

/-- An output returns to spacer: sinks that see spacer on every digit lower ACK (R42, R48). -/
def State.spacer (s : State) (x : BeadSource) : State :=
  s.putFabric { s.fabric with takings := s.fabric.takings.filterMap (·.release x) }

/-- The logical rod an output lies on; rods of the ICP and the event channel are logical rod 0 (R168, R258). -/
def State.sourceRod (s : State) : BeadSource → Nat
  | .cell c => c.rod
  | .arbiter rod _ _ | .reckonerP rod _ | .reckonerST rod _ | .reckonerCasc rod _ => rod
  | .memRd rod _ _ | .memRs rod _ _ => rod
  | .fti n => tapRod (s.tapEntry (16 + n))
  | .pin p => homeRod s.part p
  | .queueData q | .queueControl q | .queueEvent q | .queueLevel q => queueRod q
  | .niChannel n _ => edgeRod n
  | .icpResult | .eventChannel => 0

/-- The logical rod a sink lies on. -/
def State.sinkRod (s : State) : BeadSink → Nat
  | .cell c => c.rod
  | .request rod _ _ _ | .memReq rod _ _ | .memData rod _ _ | .reckoner rod _ _ => rod
  | .queueData q | .queueControl q | .queueFlush q => queueRod q
  | .pin p => homeRod s.part p
  | .fto n => tapRod (s.tapEntry n)
  | .niChannel n _ => edgeRod n
  | .icpCommand | .icpData => 0

/-- The arrival latch of a hard block's input (R50). -/
def State.latched (s : State) (b : BeadSink) : Option (List Digit) :=
  (s.fabric.latches.find? (·.sink == b)).map (·.digits)

/-- A latch becomes HELD. -/
def State.latch (s : State) (b : BeadSink) (ds : List Digit) : State :=
  s.putFabric { s.fabric with latches := s.fabric.latches ++ [⟨b, ds⟩] }

/-- A latch becomes VACANT. -/
def State.unlatch (s : State) (b : BeadSink) : State :=
  s.putFabric { s.fabric with latches := s.fabric.latches.filter (·.sink != b) }

/-- Rods come into reach of a reset (R49): their outputs return to spacer, their ACKs fall, their arrival latches become
VACANT, and what a boundary still offered of them is gone. -/
def State.dropBeads (s : State) (on : Nat → Bool) : State :=
  let gone (x : BeadSource) : Bool := on (s.sourceRod x)
  s.putFabric { s.fabric with
    takings := (s.fabric.takings.filter fun t => !on (s.sinkRod t.sink)).filterMap fun t =>
      let wait := t.wait.filter fun x => !gone x
      if wait.isEmpty then none else some { t with wait := wait, gone := t.gone ++ t.wait.filter gone }
    latches := s.fabric.latches.filter fun l => !on (s.sinkRod l.sink)
    offered := s.fabric.offered.filter fun x => !gone x.1 }

-- ------------------------------------------------------------------ stages

/-- The initial state of a cell's stage (R49, R50). -/
def State.stageInit (s : State) (c : CellId) : Stage := ⟨cellInit (s.cellRecord c), none⟩

/-- A cell's stage. -/
def State.stage (s : State) (c : CellId) : Stage := Sparse.get (s.stageInit c) s.fabric.stages (cellKey c)

/-- The state with a cell's stage replaced. -/
def State.setStage (s : State) (c : CellId) (v : Stage) : State :=
  s.putFabric { s.fabric with stages := Sparse.set (s.stageInit c) s.fabric.stages (cellKey c) v }

/-- The stage exists: the cell lies in the part and its output passes through a holding stage (R47). -/
def State.hasStage (s : State) (c : CellId) : Bool :=
  decide (c.rod < Part.rods s.part ∧ c.row < 96 ∧ c.cell < 128) && cellHolds (s.cellRecord c) &&
  cellMode (s.cellRecord c) != 1

/-- Code faults seen in a tile row are counted against it, its belt and its rod (R43, R184). -/
def State.codeFaults (s : State) (rod row : Nat) : Nat → State
  | 0 => s
  | n + 1 => (s.countCodeFault rod row).codeFaults rod row n

-- ------------------------------------------------------------------ arbitration cells

/-- An arbitration cell's state. -/
def State.arbiter (s : State) (rod row a : Nat) : Arbiter := Sparse.get ⟨none, none⟩ s.fabric.arbiters (arbKey rod row a)

/-- The state with an arbitration cell replaced. -/
def State.setArbiter (s : State) (rod row a : Nat) (v : Arbiter) : State :=
  s.putFabric { s.fabric with arbiters := Sparse.set ⟨none, none⟩ s.fabric.arbiters (arbKey rod row a) v }

/-- The request an arbitration cell grants (R52): the one that waits; where both wait, the one owed the grant, or the one
that first names. -/
def Arbiter.choice (v : Arbiter) (req0 req1 : Bool) (first : Bool) : Option Bool :=
  match req0, req1 with
  | false, false => none
  | true, false => some false
  | false, true => some true
  | true, true => some (v.owed.getD first)

/-- A request is granted; the other, where it waits too, is owed the next grant. -/
def State.grant (s : State) (rod row a : Nat) (r : Bool) (other : Bool) : State :=
  s.setArbiter rod row a ⟨some r, if other then some (!r) else none⟩

/-- The grant bead is taken (R52). -/
def State.grantTaken (s : State) (rod row a : Nat) : State :=
  s.setArbiter rod row a { s.arbiter rod row a with grant := none }

-- ------------------------------------------------------------------ reckoners

/-- The sign-extended value of the low w bits of n. -/
def signedBits (w n : Nat) : Int := (BitVec.ofNat w n).toInt

/-- A reckoner's initial state: ACC_INIT, pipeline EMPTY (R58). -/
def State.reckonerInit (s : State) (rod k : Nat) : Reckoner :=
  ⟨BitVec.ofNat 64 (s.reckonerRecord rod k), none, none, none⟩

/-- A reckoner's state. -/
def State.reckoner (s : State) (rod k : Nat) : Reckoner :=
  Sparse.get (s.reckonerInit rod k) s.fabric.reckoners (24 * rod + k)

/-- The state with a reckoner replaced. -/
def State.setReckoner (s : State) (rod k : Nat) (v : Reckoner) : State :=
  s.putFabric { s.fabric with
    reckoners := Sparse.set (s.reckonerInit rod k) s.fabric.reckoners (24 * rod + k) v }

/-- The settings of one operation (R56): PRE_EN, SUB, NEG, Z-select, ST_EN, CASC_EN. -/
structure ReckonerSettings where
  pre : Bool
  sub : Bool
  neg : Bool
  zsel : Nat
  st : Bool
  casc : Bool
  deriving DecidableEq, Repr

/-- The settings an operation runs under: the static record, or the OP port's bead when DYN_OP is 1 (R56, R141). -/
def settingsOf (r : Nat) (op : BitVec 4) : ReckonerSettings :=
  let dyn := recBits r 69 1 == 1
  { pre := recBits r 64 1 == 1
    sub := if dyn then op.getLsbD 2 else recBits r 65 1 == 1
    neg := if dyn then op.getLsbD 3 else recBits r 66 1 == 1
    zsel := if dyn then op.toNat % 4 else recBits r 67 2
    st := recBits r 70 1 == 1
    casc := recBits r 71 1 == 1 }

/-- M of R56: the pre-adder result or A, times B, exactly. -/
def reckonerM (t : ReckonerSettings) (a d b : BitVec 28) : Int :=
  let av := signedBits 27 a.toNat
  let dv := signedBits 27 d.toNat
  (if t.pre then (if t.sub then av - dv else av + dv) else av) * signedBits 27 b.toNat

/-- The exact sum Z + NEG(M) of R56. -/
def reckonerSum (t : ReckonerSettings) (z : DWord) (a d b : BitVec 28) : Int :=
  z.toInt + (if t.neg then - reckonerM t a d b else reckonerM t a d b)

/-- The exact sum lies outside the signed 64-bit range (R56). -/
def overflows64 (x : Int) : Bool := decide (x < -(2 ^ 63) ∨ 2 ^ 63 - 1 < x)

/-- The Z operand, none while its bead is not there (R56, R57): reckoner 23 takes 0 for CASC_IN. -/
def State.reckonerZ (s : State) (rod k : Nat) (t : ReckonerSettings) (c : Option DWord) : Option DWord :=
  match t.zsel with
  | 0 => some 0
  | 1 => c
  | 2 => some (s.reckoner rod k).acc
  | _ => if k = 23 then some 0 else (s.reckoner rod (k + 1)).casc

/-- The beads of a reckoner's operation before are taken and their handshakes ended (R48, R57). -/
def State.reckonerClear (s : State) (rod k : Nat) : Bool :=
  let r := s.reckoner rod k
  r.p.isNone && r.st.isNone && r.casc.isNone && s.clear (.reckonerP rod k) && s.clear (.reckonerST rod k)

/-- A reckoner's operation (R56, R57): Z + NEG(M) modulo 2^64 into ACC, P, ST and CASC_OUT. An operation with Z-select
CASC_IN takes the bead of the reckoner below. -/
def State.reckon (s : State) (rod k : Nat) (t : ReckonerSettings) (z : DWord) (a d b : BitVec 28) : State :=
  let sum := reckonerSum t z a d b
  let p := BitVec.ofInt 64 sum
  let s := if t.zsel = 3 ∧ k ≠ 23 then s.setReckoner rod (k + 1) { s.reckoner rod (k + 1) with casc := none } else s
  s.setReckoner rod k
    ⟨p, some p, if t.st then some (overflows64 sum) else none, if t.casc ∧ k ≠ 0 then some p else none⟩

/-- The consumer takes the bead of P (0), ST (1) or CASC_OUT (2) of a reckoner (R48, R55). -/
def State.reckonTaken (s : State) (rod k port : Nat) : State :=
  let r := s.reckoner rod k
  match port with
  | 0 => s.setReckoner rod k { r with p := none }
  | 1 => s.setReckoner rod k { r with st := none }
  | _ => s.setReckoner rod k { r with casc := none }

-- ------------------------------------------------------------------ rate monitors

/-- Monitor indices of logical rods (R64). -/
def logicalMonitor (p : Part) (m : Nat) : Bool := decide (m < 3 * Part.rods p)

/-- A monitor of the variant (R64). -/
def hasMonitor (p : Part) (m : Nat) : Bool :=
  logicalMonitor p m || decide (768 ≤ m ∧ m < 768 + 3 * Part.groups p)

/-- The logical rod beside which a monitor counts: its own, or, for a spare's, the first of its group (R64). -/
def monitorRod (m : Nat) : Nat := if m < 768 then m / 3 else 16 * ((m - 768) / 3)

/-- A monitor counts: monitors run, it exists, its rod is not lost, and its rod's power region is on (R64, R183, R401). -/
def State.monitorRuns (s : State) (m : Nat) : Bool :=
  s.on F.PWR_RATE_CTRL_EN 0 && hasMonitor s.part m && (s.word .PWR_REGION_STATUS 0).getLsbD (monitorRod m / 32) &&
  !(logicalMonitor s.part m && s.lostRod (m / 3))

/-- The lowest and highest rates over the running monitors of logical rods (RATE_MIN, RATE_MAX), with their indices. Of
several with one extreme rate the lowest index is shown: the spec is silent (DESIGN CHOICE, assumption 172). -/
def State.rateExtremes (s : State) : Option ((Nat × Nat) × (Nat × Nat)) :=
  s.fabric.monitors.foldl
    (fun acc kv =>
      if logicalMonitor s.part kv.1 && s.monitorRuns kv.1 then
        match acc with
        | none => some ((kv.2.rate, kv.1), (kv.2.rate, kv.1))
        | some (lo, hi) =>
          some (if kv.2.rate < lo.1 then (kv.2.rate, kv.1) else lo, if hi.1 < kv.2.rate then (kv.2.rate, kv.1) else hi)
      else acc) none

/-- The counting window in ticks (RATE_CTRL.WINDOW). -/
def State.rateTicks (s : State) : Nat := max 1 (16 * s.f F.PWR_RATE_CTRL_WINDOW 0)

/-- A monitor's window ends with a rate (R64): the command carries the machine to the end of the window, counted from the
monitor's last report. -/
def State.rateWindow (s : State) (m rate : Nat) : State :=
  if !s.monitorRuns m then s
  else
    let s := match s.fabric.monitors.find? (·.1 == m) with
      | some kv => s.advanceTo (kv.2.stamp + BitVec.ofNat 64 s.rateTicks)
      | none => s
    let s := s.putFabric { s.fabric with
      monitors := Sparse.insert s.fabric.monitors m ⟨min rate 0xFFFF, s.time⟩ }
    match s.rateExtremes with
    | some (lo, hi) =>
      let s := s.setF F.PWR_RATE_MIN_RATE 0 lo.1
      let s := s.setF F.PWR_RATE_MIN_INDEX 0 lo.2
      let s := s.setF F.PWR_RATE_MAX_RATE 0 hi.1
      s.setF F.PWR_RATE_MAX_INDEX 0 hi.2
    | none => s

/-- PWR.RATE_VALUE as it reads (R64): the selected monitor's rate, and the windows since it; both stand still while the
monitors are stopped (RATE_CTRL.EN). -/
def State.rateValue (s : State) : Word :=
  let m := s.f F.PWR_RATE_SEL_INDEX 0
  match s.fabric.monitors.find? (·.1 == m) with
  | some (_, v) =>
    let now := s.fabric.rateHeld.getD s.time
    BitVec.ofNat 32 (v.rate + 65536 * min 65535 ((now.toNat - v.stamp.toNat) / s.rateTicks))
  | none => 0

/-- RATE_CTRL is written (R64): stopped monitors keep their values and ages; when they run again the ages go on. -/
def State.rateCtrlWritten (s : State) : State :=
  match s.on F.PWR_RATE_CTRL_EN 0, s.fabric.rateHeld with
  | false, none => s.putFabric { s.fabric with rateHeld := some s.time }
  | true, some t =>
    s.putFabric { s.fabric with
      rateHeld := none
      monitors := s.fabric.monitors.map fun kv => (kv.1, { kv.2 with stamp := kv.2.stamp + (s.time - t) }) }
  | _, _ => s

-- ------------------------------------------------------------------ contention

/-- The contention registers take a new entry, or count it as lost (R78). -/
def State.logContention (s : State) (seg granted masked : Nat) : State :=
  let s := s.raise F.CFG_CONT_STATUS_CONTENTION 0
  let s := s.bump F.CFG_CONT_STATUS_COUNT 0 1
  if s.on F.CFG_CONT_SEG_VALID 0 then s.raise F.CFG_CONT_STATUS_LOST 0
  else
    let s := s.setF F.CFG_CONT_SEG_SEG_ID 0 seg
    let s := s.raise F.CFG_CONT_SEG_VALID 0
    let s := s.setF F.CFG_CONT_DRIVERS_GRANTED 0 granted
    let s := s.setF F.CFG_CONT_DRIVERS_MASKED 0 masked
    match Sparse.get 0 s.cfg.drivers seg with
    | 0 =>
      let s := s.setF F.CFG_CONT_DRIVERS_TABLE 0 0
      s.raise F.CFG_CONT_DRIVERS_TABLE_NONE 0
    | t + 1 =>
      let s := s.setF F.CFG_CONT_DRIVERS_TABLE 0 t
      s.setF F.CFG_CONT_DRIVERS_TABLE_NONE 0 0

/-- Rods in rising order, without repeats. -/
def insertRod (r : Nat) : List Nat → List Nat
  | [] => [r]
  | x :: rest => if r < x then r :: x :: rest else if r = x then x :: rest else x :: insertRod r rest

/-- CONT_STATUS.ACTIVE shows whether a segment masks a driver now. -/
def State.contActive (s : State) : State :=
  s.setF F.CFG_CONT_STATUS_ACTIVE 0 (if s.fabric.contentions.isEmpty then 0 else 1)

/-- The output that a driver point's source multiplexer selects, where it is one output (R71). -/
def State.driverSource (s : State) (seg rod : Nat) : Origin :=
  let row := seg % 128
  s.driverOf rod row (s.tileCode rod row (driverAt (seg / 128 % 8)))

/-- Two or more enables stand on a segment (R78): the westmost is granted once the segment is between beads, the others
are masked and counted against their rods (R184), and the rods of CONT_DRIVERS go ahead in the scrub order (R79). busy
says that the segment carries a bead of the driver that held it. -/
def State.contention (s : State) (seg : Nat) (rods : List Nat) (busy : Bool) : State :=
  match rods.foldl (fun acc r => insertRod r acc) [] with
  | west :: second :: more =>
    let all := west :: second :: more
    let granted := if busy then (s.lineDriver seg).getD west else west
    let masked := (all.filter (· != granted)).headD second
    let s := (all.filter (· != granted)).foldl (fun s r => s.countRod r false) s
    let s := s.logContention seg granted masked
    let s := s.raise F.CFG_CONT_STATUS_ACTIVE 0
    let table := match Sparse.get 0 s.cfg.drivers seg with
      | 0 => []
      | t + 1 => [t]
    let first := (granted :: masked :: table).foldl (fun acc r => insertRod r acc) []
    let others := s.fabric.contentions.filter (·.seg != seg)
    (s.putFabric { s.fabric with contentions := others ++ [⟨seg, all, granted⟩] }).putCfg { s.cfg with
      scrubFirst := s.cfg.scrubFirst.filter (fun r => !first.contains r.1) ++ first.map (·, 0) }
  | _ => s

/-- A segment whose guard masks a driver comes between beads: the westmost enabled driver point is granted (R78). -/
def State.regrant (s : State) (seg : Nat) : State :=
  s.putFabric { s.fabric with
    contentions := s.fabric.contentions.map fun c =>
      if c.seg = seg then { c with granted := c.rods.headD c.granted } else c }

/-- A contention ends: the remaining driver is granted, and its producer resumes (R79). -/
def State.contentionOver (s : State) (seg : Nat) : State :=
  (s.putFabric { s.fabric with contentions := s.fabric.contentions.filter (·.seg != seg) }).contActive

/-- Contentions that involve a chosen rod are gone, with the frames that held their enables. -/
def State.dropContentions (s : State) (on : Nat → Bool) : State :=
  (s.putFabric { s.fabric with contentions := s.fabric.contentions.filter fun c => !c.rods.any on }).contActive

-- ------------------------------------------------------------------ fabric trigger outputs and inputs

/-- A bead on FTO n (R88): a nonzero bead enters the Beam on the next tick, on which the tap acknowledges it. -/
def State.ftoBead (s : State) (n : Nat) (v : Digit) : State :=
  if v = 0 then s else s.enterNext (.source (24 + n))

/-- The tap of FTI n. -/
def State.ftiTap (s : State) (n : Nat) : FtiTap := Sparse.get ⟨false, false⟩ s.fabric.taps n

/-- The state with the tap of FTI n replaced. -/
def State.setFti (s : State) (n : Nat) (v : FtiTap) : State :=
  s.putFabric { s.fabric with taps := Sparse.set ⟨false, false⟩ s.fabric.taps n v }

/-- An event acts at FTI n (R89, R161, R190): the tap drives a bead, holds one more, or coalesces it. -/
def State.ftiEvent (s : State) (n : Nat) : State :=
  let e := s.tapEntry (16 + n)
  let t := s.ftiTap n
  if !tapUsed e then s
  else if s.gated (tapRod e) || s.spanFrozen (tapRod e) then s.bump F.BEAM_DST_CNT_OVERRUN (18 + n) 1
  else if !t.driving && !s.frozen (tapRod e) then s.setFti n ⟨true, t.waiting⟩
  else if !t.waiting then s.setFti n ⟨t.driving, true⟩
  else s.bump F.BEAM_DST_CNT_OVERRUN (18 + n) 1

/-- The bead of FTI n is taken; a further event held at the tap drives the next (R89). -/
def State.ftiTaken (s : State) (n : Nat) : State := s.setFti n ⟨(s.ftiTap n).waiting, false⟩

end Sys2Proof.Machine
end

