-- ==== Sys2Proof/Machine/PinInputs.lean ====
section
/-! DEFINITION. Which pin feeds a peripheral's input (R391, R392). -/

namespace Sys2Proof.Machine

/-- FUNC of a pin: F0 to F7. -/
def State.padFunc (s : State) (p : Nat) : Nat := s.f F.PIN_PAD_FUNC p

/-- A function switch of a pin is in progress (R394). -/
def State.padSwitching (s : State) (p : Nat) : Bool := s.pins.switching.any (·.1 == p)

/-- The code of the input signal that a pin with a function selects (R391): 16 × (FUNC − 2) + 4u + r, with u = 0 for the
PMBus, and 0x50 + t for capture inputs. -/
def inputCode (func p : Nat) : Option Nat :=
  let n := p % 16
  let u := n / 4
  let r := n % 4
  match func with
  | 2 => if r < 2 then some (4 * u + r) else none
  | 3 => if r = 2 then some (16 + 4 * u + r) else none
  | 4 => if r = 1 ∨ r = 3 then some (32 + 4 * u + r) else none
  | 5 => if r < 3 then some (48 + r) else none
  | 7 => some (0x50 + n % 8)
  | _ => none

/-- The pins that select an input now, lowest first: a pin whose switch is in progress selects none (R394). -/
def State.selectors (s : State) (code : Nat) : List Nat :=
  (List.range 208).filter fun p => inputCode (s.padFunc p) p == some code && !s.padSwitching p

/-- The one pin that feeds an input (R392). -/
def State.feeder (s : State) (code : Nat) : Option Nat :=
  match s.selectors code with
  | [p] => some p
  | _ => none

/-- An input is fed by one pin. -/
def State.inputFed (s : State) (code : Nat) : Bool := (s.feeder code).isSome


end Sys2Proof.Machine
end

