-- ==== Sys2Proof/Machine/Hash.lean ====
section
/-! DEFINITION. CRC-32C and SHA-256 as the load stream, the ledger and the route-table digests use them (R130, R219),
with the constants that the Castagnoli polynomial and FIPS 180-4 lay down (assumption 32). -/

namespace Sys2Proof.Machine

-- ------------------------------------------------------------------ CRC-32C

/-- One bit of the reflected CRC-32C register. -/
def crcBit (c : Word) : Word := if c.getLsbD 0 then (c >>> 1) ^^^ 0x82F63B78#32 else c >>> 1

/-- n bits of the register. -/
def crcBits : Nat → Word → Word
  | 0, c => c
  | n + 1, c => crcBits n (crcBit c)

/-- A little-endian word enters the register: its 4 bytes in ascending order. -/
def crcWord (c w : Word) : Word := crcBits 32 (c ^^^ w)

/-- The register before the first byte. -/
def crcStart : Word := 0xFFFFFFFF#32

/-- The CRC that a register stands for. -/
def crcValue (c : Word) : Word := ~~~c

/-- The CRC of a list of words. -/
def crcOf (ws : List Word) : Word := crcValue (ws.foldl crcWord crcStart)

/-- The CRC of a list of bytes. -/
def crcOfBytes (bs : List Byte) : Word :=
  crcValue (bs.foldl (fun c b => crcBits 8 (c ^^^ b.setWidth 32)) crcStart)

-- ------------------------------------------------------------------ SHA-256

/-- A number below 324 is prime. -/
def isPrime (n : Nat) : Bool := decide (2 ≤ n) && (List.range 18).all fun d => decide (d < 2) || decide (n ≤ d) || n % d != 0

/-- The first 64 primes, from which FIPS 180-4 takes its constants. -/
def shaPrimes : List Nat := (List.range 312).filter isPrime

/-- The largest number of n bits, added to r, whose e-th power is at most x. -/
def rootBits (e x : Nat) : Nat → Nat → Nat
  | 0, r => r
  | n + 1, r => rootBits e x n (if (r + 2 ^ n) ^ e ≤ x then r + 2 ^ n else r)

/-- The first 32 bits of the fraction of the e-th root of a number below 324. -/
def rootFraction (e p : Nat) : Word := BitVec.ofNat 32 (rootBits e (p * 2 ^ (32 * e)) 37 0)

/-- The round constants: the cube roots of the first 64 primes. -/
def shaK : List Word := shaPrimes.map (rootFraction 3)

/-- The chaining value before the first block: the square roots of the first 8 primes. -/
def shaInit : List Word := (shaPrimes.take 8).map (rootFraction 2)

/-- A running computation before the first word. -/
def shaStart : Sha := ⟨shaInit, [], 0⟩

/-- The bytes of a word in the other order. -/
def swapBytes (w : Word) : Word :=
  BitVec.ofNat 32 (w.toNat % 256 * 2 ^ 24 + w.toNat / 256 % 256 * 2 ^ 16 + w.toNat / 65536 % 256 * 256 + w.toNat / 2 ^ 24)

/-- The XOR of a word turned right by three amounts. -/
def turned (w : Word) (a b c : Nat) : Word := w.rotateRight a ^^^ w.rotateRight b ^^^ w.rotateRight c

/-- The XOR of a word turned right by two amounts and moved right by a third. -/
def mixed (w : Word) (a b c : Nat) : Word := w.rotateRight a ^^^ w.rotateRight b ^^^ (w >>> c)

/-- n words of the message schedule, from the last sixteen, oldest first. -/
def shaSchedule : Nat → List Word → List Word
  | 0, _ => []
  | n + 1, w =>
    let x := w.getD 0 0 + w.getD 9 0 + mixed (w.getD 1 0) 7 18 3 + mixed (w.getD 14 0) 17 19 10
    x :: shaSchedule n (w.drop 1 ++ [x])

/-- One round on the eight working words, a first: the rest move on by one place, and the sum of the lower four, the constant
and the schedule's word enters at the two ends of the upper four. -/
def shaRound (v : List Word) (kw : Word × Word) : List Word :=
  let at' := fun n => v.getD n 0
  let chosen := (at' 4 &&& at' 5) ||| (~~~(at' 4) &&& at' 6)
  let most := (at' 0 &&& at' 1) ||| (at' 2 &&& (at' 0 ||| at' 1))
  let low := kw.1 + kw.2 + at' 7 + chosen + turned (at' 4) 6 11 25
  [low + most + turned (at' 0) 2 13 22] ++ v.take 3 ++ [at' 3 + low] ++ (v.drop 4).take 3

/-- The chaining value after a block of sixteen big-endian words. -/
def shaCompress (h block : List Word) : List Word :=
  let ws := block ++ shaSchedule 48 block
  List.zipWith (· + ·) h ((shaK.zip ws).foldl shaRound h)

/-- A little-endian word of the message enters. -/
def shaWord (s : Sha) (w : Word) : Sha :=
  let block := s.block ++ [swapBytes w]
  if block.length = 16 then ⟨shaCompress s.h block, [], s.words + 1⟩ else ⟨s.h, block, s.words + 1⟩

/-- The padding of an open block, in one block or two. -/
def shaPad (open' : List Word) (bits : Nat) : List (List Word) :=
  let len := [BitVec.ofNat 32 (bits / 2 ^ 32), BitVec.ofNat 32 bits]
  let a := open' ++ [0x80000000#32]
  if a.length ≤ 14 then [a ++ List.replicate (14 - a.length) 0 ++ len]
  else [a ++ List.replicate (16 - a.length) 0, List.replicate 14 0 ++ len]

/-- The first 8 bytes of the digest as the spec writes them: byte 0 in bits [7:0] (R130, R219). -/
def shaDigest (s : Sha) : DWord :=
  let h := (shaPad s.block (32 * s.words)).foldl shaCompress s.h
  swapBytes (h.getD 1 0) ++ swapBytes (h.getD 0 0)

/-- All 32 bytes of the digest, as words with byte 0 in bits [7:0]. -/
def shaFull (s : Sha) : List Word := ((shaPad s.block (32 * s.words)).foldl shaCompress s.h).map swapBytes

end Sys2Proof.Machine
end

