-- ==== Sys2Proof/Machine/Route.lean ====
section
/-! DEFINITION. Routes of the carry network (R213 to R219, R232): default routes, the walk of a route string, the rules
an entry is checked against, and the U routes that use an output. -/

namespace Sys2Proof.Machine

-- ------------------------------------------------------------------ NIs and routers in State

/-- An edge station that holds nothing. -/
def edgeInit : EdgeState := { iq := [], tr := [], iqWords := [], trWords := [], out := [], moved := [], tq := [] }

/-- Two CS-F that hold nothing. -/
def csfInit : Csf := { down := [], downWritten := 0, downRead := 0, up := [], upWritten := 0, upRead := 0 }

/-- An NI's state right after reset. -/
def niInit : NiState :=
  { edge := edgeInit, outstanding := [], quarantine := [], delivered := [], answered := [], posted := [], uq := [], ev := [], ir := []
    held := [], out := [], rx := [], arrived := [], csf := csfInit, tokens := [], uLast := none, uLastTo := [], routes := [], injecting := false, gates := []
    fenceFrom := 0, fenceLimit := 0, fenceWho := ⟨0x40, 0xFF⟩, fenceAsked := [], reported := [], marked := [], markers := [] }

/-- NI n. -/
def State.ni (s : State) (n : Nat) : NiState := Sparse.get niInit s.net.nis n

/-- The state with NI n replaced. -/
def State.setNi (s : State) (n : Nat) (v : NiState) : State :=
  s.putNet { s.net with nis := Sparse.set niInit s.net.nis n v }

/-- A router's state right after reset. -/
def routerInit : RouterState :=
  { opened := [], waiting := [], consumed := [], turns := [], lastInput := [], sent := [], staged := [], holdFrom := 0, holdWho := ⟨0x40, 0xFF⟩, spares := []
    parity := [] }

/-- The router of a page. -/
def State.router (s : State) (page : Nat) : RouterState := Sparse.get routerInit s.net.routers page

/-- The state with the router of a page replaced. -/
def State.setRouter (s : State) (page : Nat) (v : RouterState) : State :=
  s.putNet { s.net with routers := Sparse.set routerInit s.net.routers page v }

-- ------------------------------------------------------------------ default routes (R217)

/-- The row (0 to 2) and the columns of the fabric nodes to which the node of a page is attached; a lane node is
attached in all three rows. -/
def attachedColumns (p : Part) (page : Nat) : List Nat :=
  match nodeOf page with
  | some (.fabric, _, b) => [b]
  | some (.memory, _, m) => [4 * m + 1, 4 * m + 2]
  | some (.laneW, _, w) => [w]
  | some (.laneE, _, e) => [Part.columns p - 1 - e]
  | some (.system, _, k) => [sysColumn p k, sysColumn p k + 1]
  | none => []

/-- The distance of two columns. -/
def columnGap (a b : Nat) : Nat := (a - b) + (b - a)

/-- The column nearest to c among best and the rest; ties go to the earlier. -/
def nearestFrom (c best : Nat) : List Nat → Nat
  | [] => best
  | x :: rest => nearestFrom c (if columnGap best c ≤ columnGap x c then best else x) rest

/-- The column of the list nearest to c; ties go to the first. -/
def nearest (c : Nat) (cols : List Nat) : Nat := nearestFrom c (cols.headD c) cols.tail

/-- The ports along a row from column b to column t: express while 8 or more remain, then local (R217 step 4). -/
def rowPorts : Nat → Nat → Nat → List Nat
  | 0, _, _ => []
  | n + 1, b, t =>
    if b = t then []
    else if b + 8 ≤ t then 6 :: rowPorts n (b + 8) t
    else if b < t then 2 :: rowPorts n (b + 1) t
    else if t + 8 ≤ b then 5 :: rowPorts n (b - 8) t
    else 1 :: rowPorts n (b - 1) t

/-- The ports along a ring or chain from index i to index j, west port and east port given. -/
def chainPorts (west east i j : Nat) : List Nat :=
  if i < j then List.replicate (j - i) east else List.replicate (i - j) west

/-- Steps 4 to 6 of R217: from row r, column b of the fabric to the node of page t. -/
def fabricPorts (p : Part) (r b t : Nat) : List Nat :=
  let target := nearest b (attachedColumns p t)
  let row := rowPorts 32 b target
  match nodeOf t with
  | some (.fabric, r', _) => row ++ chainPorts 3 4 r r'
  | some (.memory, _, _) => row ++ chainPorts 3 4 r 0 ++ [3]
  | some (.system, _, _) => row ++ chainPorts 3 4 r 2 ++ [4]
  | some _ => row ++ [7]
  | none => row

/-- The row in which a lane node's route enters the fabric (R217 step 3). -/
def laneRow (t : Nat) : Nat :=
  match nodeOf t with
  | some (.fabric, r, _) => r
  | some (.memory, _, _) => 0
  | some (.system, _, _) => 2
  | _ => 1

/-- The output ports of the default route from the node of page a to the node of page t (R217). -/
def defaultPorts (p : Part) (a t : Nat) : List Nat :=
  if a = t then []
  else
    let first := (attachedColumns p t).headD 0
    match nodeOf a, nodeOf t with
    | some (.memory, _, i), some (.memory, _, j) => chainPorts 2 3 i j
    | some (.system, _, i), some (.system, _, j) => chainPorts 4 5 i j
    | some (.fabric, r, b), _ => fabricPorts p r b t
    | some (.memory, _, m), _ =>
      let c := nearest first (attachedColumns p a)
      (if c = 4 * m + 1 then 4 else 5) :: fabricPorts p 0 c t
    | some (.system, _, k), _ =>
      let c := nearest first (attachedColumns p a)
      (if c = sysColumn p k then 6 else 7) :: fabricPorts p 2 c t
    | some _, _ => (4 + laneRow t) :: fabricPorts p (laneRow t) ((attachedColumns p a).headD 0) t
    | none, _ => []

/-- A route string from output ports: unused nibbles are 0xF (R213). -/
def routeOf (ports : List Nat) : Nat :=
  (ports ++ List.replicate (12 - ports.length) 15).foldr (fun x acc => x + 16 * acc) 0

/-- The default entry of NI n for destination d (R217): PRIO P1, U 0, VALID 1; VALID 0 for an absent or reserved NI. -/
def defaultEntry (p : Part) (n d : Nat) : DWord :=
  if niPresent p n ∧ niPresent p d then
    BitVec.ofNat 64 (routeOf (defaultPorts p (pageOfNi n) (pageOfNi d)) + 2 ^ 48 + 2 ^ 51)
  else 0

/-- ROUTE, PRIO, U and VALID of an entry (R214). -/
def entryRoute (e : DWord) : Nat := e.toNat % 2 ^ 48
/-- PRIO of an entry. -/
def entryPrio (e : DWord) : Nat := e.toNat / 2 ^ 48 % 4
/-- U of an entry. -/
def entryU (e : DWord) : Bool := e.getLsbD 50
/-- VALID of an entry. -/
def entryValid (e : DWord) : Bool := e.getLsbD 51

/-- The management route from NI n to the node of a page (R218). -/
def managementRoute (p : Part) (n page : Nat) : Nat := routeOf (defaultPorts p (pageOfNi n) page)

-- ------------------------------------------------------------------ tables

/-- The physical bank that is ACTIVE (RT_CTRL.BANK). -/
def State.activeBank (s : State) (n : Nat) : Nat := s.f F.NI_RT_CTRL_BANK n

/-- Entry d of a bank of NI n. -/
def State.entry (s : State) (n bank d : Nat) : DWord :=
  Sparse.get (defaultEntry s.part n d) (s.ni n).routes (256 * bank + d)

/-- The state with entry d of a bank of NI n replaced. -/
def State.setEntry (s : State) (n bank d : Nat) (e : DWord) : State :=
  s.setNi n { s.ni n with routes := Sparse.set (defaultEntry s.part n d) (s.ni n).routes (256 * bank + d) e }

/-- The ACTIVE entry of NI n for destination d. -/
def State.activeEntry (s : State) (n d : Nat) : DWord := s.entry n (s.activeBank n) d

/-- The digest of a bank (R219): its 256 entries in order, each as 8 bytes little-endian. -/
def State.bankDigest (s : State) (n bank : Nat) : DWord :=
  shaDigest ((List.range 256).foldl
    (fun h d =>
      let e := s.entry n bank d
      shaWord (shaWord h (BitVec.ofNat 32 e.toNat)) (BitVec.ofNat 32 (e.toNat / 2 ^ 32))) shaStart)

-- ------------------------------------------------------------------ walking a route (R213, R215, R216)

/-- The rank of the link from the node of page a to the node of page b, phase first (R215). -/
def linkRank (p : Part) (a b : Nat) : Nat :=
  match nodeOf a, nodeOf b with
  | some (.memory, _, i), some (.memory, _, j) => 64 + (if i < j then i else 7 - i)
  | some (.system, _, i), some (.system, _, j) => 64 + (if i < j then i else 3 - i)
  | some (.fabric, r, i), some (.fabric, r', j) =>
    if r = r' then 192 + (if i < j then i else Part.columns p - 1 - i)
    else 256 + (if r = 1 then 1 else 0)
  | some (.fabric, _, _), _ => 320
  | _, _ => 128

/-- What a walk of a route string found: the outputs taken, the ranks of the links, where it ended, and whether every
nibble after the end is 0xF; none where a nibble names an absent port. -/
structure Walk where
  hops : List (Nat × Nat)
  ranks : List Nat
  stop : PortEnd
  clean : Bool
  deriving DecidableEq, Repr

/-- The walk of nibbles from the node of a page. -/
def walkFrom (p : Part) (page : Nat) : List Nat → Option Walk
  | [] => some ⟨[], [], .node page, true⟩
  | q :: rest =>
    if q = 15 then some ⟨[], [], .node page, rest.all (· == 15)⟩
    else
      match portEnd p page q with
      | none => none
      | some (.ni n) => if niPresent p n then some ⟨[(page, q)], [], .ni n, rest.all (· == 15)⟩ else none
      | some (.node t) =>
        (walkFrom p t rest).map fun w => ⟨(page, q) :: w.hops, linkRank p page t :: w.ranks, w.stop, w.clean⟩

/-- The nibbles of a route string, the next hop first. -/
def nibbles (route : Nat) : List Nat := (List.range 12).map fun i => route / 16 ^ i % 16

/-- The walk of a route string from NI n. -/
def walk (p : Part) (n route : Nat) : Option Walk := walkFrom p (pageOfNi n) (nibbles route)

/-- Ranks rise strictly. -/
def rising : List Nat → Bool
  | a :: b :: rest => decide (a < b) && rising (b :: rest)
  | _ => true

/-- The port by which the node of page t reaches the node of page a. -/
def returnPort (p : Part) (t a : Nat) : Option Nat :=
  (List.range 15).find? fun q => portEnd p t q == some (.node a)

/-- The instance of the link registers of a port (R238). -/
def linkInst (page port : Nat) : Nat := 15 * page + port

/-- The link direction out of a port is FAILED, seen at its far input (R202). -/
def State.linkFailed (s : State) (page port : Nat) : Bool :=
  match portEnd s.part page port with
  | some (.node t) =>
    match returnPort s.part t page with
    | some q => s.on F.CN_LINK_STATUS_FAILED (linkInst t q)
    | none => false
  | _ => false

/-- A port is out of service (CN.PORT_EN). -/
def State.portOff (s : State) (page port : Nat) : Bool := !(s.word .CN_PORT_EN page).getLsbD port

/-- An output cannot be used: disabled or FAILED. -/
def State.outputDown (s : State) (page port : Nat) : Bool := s.portOff page port || s.linkFailed page port

/-- Destination d is reached at the end of a walk (R216 rule 4): the walk ends at the carry node of d, or at its local
port. A number that no NI of any variant has, and one whose node the variant lacks, has no such end (assumption 33). -/
def endsAt (p : Part) (w : Walk) (d : Nat) : Bool :=
  niOfSlot (pageOfNi d) (slotOfNi d) == some d && pagePresent p (pageOfNi d) &&
  match w.stop with
  | .ni n => n == d
  | .node page => page == pageOfNi d

/-- The far port of the link out of a port is disabled (CN.PORT_EN of the far node). -/
def State.farPortOff (s : State) (page port : Nat) : Bool :=
  match portEnd s.part page port with
  | some (.node t) => (returnPort s.part t page).any (s.portOff t)
  | _ => false

/-- The outputs a route uses: its hops, and the local port of its destination (R232). -/
def outputsOf (w : Walk) (d : Nat) : List (Nat × Nat) :=
  match w.stop with
  | .ni _ => w.hops
  | .node page => w.hops ++ [(page, slotOfNi d)]

/-- The cause of refusal of entry e for destination d of NI n, 0 where it is accepted (R216). -/
def State.routeCause (s : State) (n d : Nat) (e : DWord) : Nat :=
  if !entryValid e then (if entryU e then 7 else 0)
  else
    match walk s.part n (entryRoute e) with
    | none => 1
    | some w =>
      if !rising w.ranks then 2
      else if !w.clean then 3
      else if !endsAt s.part w d then 4
      else if !niPresent s.part d then 5
      else if (outputsOf w d).any (fun o => s.outputDown o.1 o.2 || s.farPortOff o.1 o.2) then 6
      else if entryU e && d == n then 7
      else if entryPrio e = 3 then 8
      else 0

-- ------------------------------------------------------------------ U routes (R232)

/-- The registered U routes of NI n in a bank: destination and outputs used. -/
def State.uRoutesOf (s : State) (n bank : Nat) : List (Nat × List (Nat × Nat)) :=
  ((s.ni n).routes.filter fun kv => kv.1 / 256 == bank && entryU kv.2 && entryValid kv.2).map fun kv =>
    (kv.1 % 256,
      match walk s.part n (entryRoute kv.2) with
      | some w => outputsOf w (kv.1 % 256)
      | none => [])

/-- Every registered U route: source, destination, outputs. -/
def State.uRoutes (s : State) : List (Nat × Nat × List (Nat × Nat)) :=
  s.net.nis.flatMap fun kv => (s.uRoutesOf kv.1 (s.activeBank kv.1)).map fun r => (kv.1, r.1, r.2)

/-- The registered U routes on an output (CN.U_ROUTES). -/
def State.uCount (s : State) (page port : Nat) : Nat :=
  (s.uRoutes.filter fun r => r.2.2.contains (page, port)).length

/-- The first U route of NI n that leaves more than 8 on an output, with that output. -/
def State.overLimit (s : State) (n : Nat) : Option (Nat × Nat × Nat) :=
  (s.uRoutesOf n (s.activeBank n)).findSome? fun r =>
    (r.2.find? fun o => decide (8 < s.uCount o.1 o.2)).map fun o => (r.1, o.1, o.2)

end Sys2Proof.Machine
end

