-- ==== Sys2Proof/Machine/Units.lean ====
section
/-! DEFINITION. Packets and units of the carry network (R200, R201, R203 to R206): how a packet is laid out in units, the
wires of a unit, and what parity, control codes and ECC find. -/

namespace Sys2Proof.Machine

-- ------------------------------------------------------------------ packets

/-- A request needs an answer (R206). -/
def nonPosted : Cmd → Bool
  | .rd | .wr | .fadd | .cfg => true
  | _ => false

/-- Data units of a write or a data response of LEN + 1 bytes at ADDR (R206). -/
def dataUnits (c : Cmd) (addr len : Nat) : Nat :=
  match c with
  | .wr | .wrp | .rspData => (addr % 64 + len + 64) / 64
  | _ => 0

/-- Units of a packet, header included. -/
def packetUnits (p : Packet) : Nat := 1 + dataUnits p.cmd p.addr p.len

/-- Byte i of a packet's range is enabled (R205, R206). -/
def packetEnables (p : Packet) (i : Nat) : Bool :=
  let unit := (p.addr + i) / 64 - p.addr / 64
  let lane := (p.addr + i) % 64
  if unit = 0 then p.beFirst.getLsbD lane
  else if unit = (p.addr + p.len) / 64 - p.addr / 64 then p.beLast.getLsbD lane
  else true

/-- The enabled data bytes a packet carries (BYTES of R254). -/
def packetBytes (p : Packet) : Nat :=
  if dataUnits p.cmd p.addr p.len = 0 then 0
  else ((List.range (p.len + 1)).filter fun i => packetEnables p i).length

/-- The byte-enable mask of the unit that holds block j of a range (R205): the enables given, all when none is. -/
def enableMask (addr len : Nat) (be : List Bool) (j : Nat) : BitVec 64 :=
  (List.range 64).foldl
    (fun acc lane =>
      let a := 64 * (addr / 64 + j) + lane
      if addr ≤ a ∧ a ≤ addr + len ∧ be.getD (a - addr) true then acc ||| BitVec.ofNat 64 (2 ^ lane) else acc) 0

/-- No byte is enabled. -/
def noneEnabled (len : Nat) (be : List Bool) : Bool := (List.range (len + 1)).all fun i => !(be.getD i true)

/-- A little-endian number from bytes. -/
def fromBytes : List Byte → Nat
  | [] => 0
  | b :: rest => b.toNat + 256 * fromBytes rest

/-- n bytes of a number, little-endian. -/
def toBytes : Nat → Nat → List Byte
  | 0, _ => []
  | n + 1, v => BitVec.ofNat 8 v :: toBytes n (v / 256)

/-- The command of a code (R206). -/
def cmdOfCode : Nat → Cmd
  | 1 => .rd
  | 2 => .wr
  | 3 => .wrp
  | 4 => .fadd
  | 5 => .cfg
  | 6 => .evt
  | 8 => .rspData
  | 9 => .rspOk
  | 10 => .rspErr
  | n => .reserved n

-- ------------------------------------------------------------------ the payload of units (R204, R205)

/-- The words of a number's bits, word 0 lowest. -/
def packDWords (ws : List Nat) : BitVec 512 := BitVec.ofNat 512 (ws.foldr (fun w acc => w % 2 ^ 64 + 2 ^ 64 * acc) 0)

/-- Word i of a unit's payload (R204). -/
def payloadWord (b : BitVec 512) (i : Nat) : BitVec 64 := BitVec.ofNat 64 (b.toNat / 2 ^ (64 * i))

/-- A field of the header in a payload: word, low bit, width (R205). -/
def headerField (b : BitVec 512) (w lo n : Nat) : Nat := b.toNat / 2 ^ (64 * w + lo) % 2 ^ n

/-- The payload of a header unit (R205). -/
def headerPayload (p : Packet) : BitVec 512 :=
  packDWords [p.route.toNat + p.src % 256 * 2 ^ 48 + p.dest % 256 * 2 ^ 56,
    p.cmd.code % 16 + p.tag % 4096 * 2 ^ 4 + p.record.toNat * 2 ^ 16 + p.err % 256 * 2 ^ 32 + p.attr.toNat * 2 ^ 40,
    p.addr % 2 ^ 48 + p.len % 4096 * 2 ^ 48, p.beFirst.toNat, p.beLast.toNat, p.operand.toNat, 0, p.injTime.toNat]

/-- The payload of data unit j of a packet: bytes of its 64-byte block, in little-endian order (R204); lanes outside the
byte range carry 0. -/
def dataPayload (p : Packet) (j : Nat) : BitVec 512 :=
  BitVec.ofNat 512 (fromBytes ((List.range 64).map fun lane =>
    let a := 64 * (p.addr / 64 + j) + lane
    if p.addr ≤ a ∧ a ≤ p.addr + p.len then p.data.getD (a - p.addr) 0 else 0))

/-- Two wrong bits in every word's check of a unit: a poison check code (R334). -/
def poisonFlips : List Nat := (List.range 8).flatMap fun i => [512 + 8 * i, 513 + 8 * i]

/-- The units of a packet (R203, R204). -/
def unitsOf (p : Packet) : List FlowUnit :=
  let n := dataUnits p.cmd p.addr p.len
  { vn := p.vn, head := true, tail := n == 0, prio := p.prio, aged := false, payload := headerPayload p, flips := [] } ::
  (List.range n).map fun j =>
    { vn := p.vn, head := false, tail := j + 1 == n, prio := p.prio, aged := false, payload := dataPayload p j
      flips := if p.poison then poisonFlips else [] }

-- ------------------------------------------------------------------ wires (R200, R201, R203)

/-- The control bits [6:0] of a unit (R203). -/
def controlBits (u : FlowUnit) : BitVec 7 :=
  BitVec.ofNat 7 (u.vn % 4 + (if u.head then 4 else 0) + (if u.tail then 8 else 0) + u.prio % 4 * 16 +
    if u.aged then 64 else 0)

/-- The bits of wires 0 to 587 that a sender drives for a unit as its source sent it (R200, R203, R204). -/
def sentWires (u : FlowUnit) : Nat :=
  let ecc := (List.range 8).foldr (fun i acc => (Config.eccByte (payloadWord u.payload i)).toNat + 256 * acc) 0
  u.payload.toNat + ecc * 2 ^ 512 + (controlBits u).toNat * 2 ^ 576 + (Config.controlCheck (controlBits u)).toNat * 2 ^ 583

/-- Wire i of a link that carries a unit (R200): what the source sent, with the bits that have changed since; parity bit g
is the even parity of the wires i with i mod 4 = g (R201). -/
def driveWire (u : FlowUnit) (i : Nat) : Bool :=
  let now (k : Nat) : Bool := (sentWires u).testBit k != u.flips.contains k
  if i < 588 then now i
  else ((List.range 147).filter fun k => now (4 * k + (i - 588))).length % 2 == 1

/-- Parity group g fails at the receiver (R201): an odd number of the group's wires, parity bit included, have changed on
the link. -/
def parityFails (flips : List Nat) (g : Nat) : Bool :=
  (flips.filter fun i => decide (i < 592) && i % 4 == g).length % 2 == 1

-- ------------------------------------------------------------------ what codes find (R203, R204)

/-- The number whose bits are the wires of a list from lo on, n of them. -/
def errorBits (flips : List Nat) (lo n : Nat) : Nat :=
  (List.range n).foldl (fun acc i => if flips.contains (lo + i) then acc + 2 ^ i else acc) 0

/-- The wrong bits among a word's 64 bits and its ECC byte (R204): data bits 0 to 63, check bits 64 to 71. -/
def wordError (u : FlowUnit) (i : Nat) : Nat := errorBits u.flips (64 * i) 64 + 2 ^ 64 * errorBits u.flips (512 + 8 * i) 8

/-- How many bits of a number below 2^n are set. -/
def onesIn (n x : Nat) : Nat := ((List.range n).filter fun i => x.testBit i).length

/-- What the SECDED check of a word makes of its wrong bits, and the data bits left wrong (R204): one is corrected, two are
uncorrectable; of more the spec says nothing (assumption 182). -/
def wordFinding (err : Nat) : Finding × BitVec 64 :=
  match onesIn 72 err with
  | 0 => (.clean, 0)
  | 1 => (.corrected, 0)
  | 2 => (.uncorrectable, 0)
  | _ =>
    let x := Config.eccBeyond (BitVec.ofNat 72 err)
    if x.getLsbD 64 then (.uncorrectable, 0) else (.corrected, x.setWidth 64)

/-- What the check of a unit's control bits makes of the wires that changed, and the bits left wrong (R203). -/
def controlFinding (flips : List Nat) : Finding × BitVec 7 :=
  let err := errorBits flips 576 12
  match onesIn 12 err with
  | 0 => (.clean, 0)
  | 1 => (.corrected, 0)
  | 2 => (.uncorrectable, 0)
  | _ =>
    let x := Config.controlBeyond (BitVec.ofNat 12 err)
    if x.getLsbD 7 then (.uncorrectable, 0) else (.corrected, x.setWidth 7)

/-- A unit with some control bits wrong. -/
def controlled (u : FlowUnit) (wrong : BitVec 7) : FlowUnit :=
  let b := (controlBits u ^^^ wrong).toNat
  { u with vn := b % 4, head := b / 4 % 2 == 1, tail := b / 8 % 2 == 1, prio := b / 16 % 4, aged := b / 64 % 2 == 1 }

/-- A unit after a link on which some wires changed. -/
def changedOn (u : FlowUnit) (flips : List Nat) : FlowUnit :=
  { u with flips := (u.flips.filter fun i => !flips.contains i) ++ flips.filter fun i => decide (i < 576) && !u.flips.contains i }

/-- Word 0 of a header corrected and written anew with its ECC byte (R205, R213). -/
def withWord0 (u : FlowUnit) (w : BitVec 64) : FlowUnit :=
  { u with
    payload := BitVec.ofNat 512 (u.payload.toNat / 2 ^ 64 * 2 ^ 64 + w.toNat)
    flips := u.flips.filter fun i => !(decide (i < 64) || decide (512 ≤ i ∧ i < 520)) }

/-- The payload of a unit as its reader has it after correction (R222). -/
def readPayload (u : FlowUnit) : BitVec 512 :=
  packDWords ((List.range 8).map fun i => (payloadWord u.payload i ^^^ (wordFinding (wordError u i)).2).toNat)

/-- The words of a unit of a finding. -/
def wordsFound (u : FlowUnit) (f : Finding) : List Nat :=
  if u.flips.isEmpty then [] else (List.range 8).filter fun i => (wordFinding (wordError u i)).1 == f

/-- What the ECC of a whole packet finds at its destination (R222). The addend of an FADD, word 5 of its header, is data of
the request. -/
def eccOf (us : List FlowUnit) : PacketEcc :=
  match us with
  | [] => .clean
  | h :: data =>
    let bad := wordsFound h .uncorrectable
    let addend := headerField h.payload 1 0 4 == 4
    if bad.any fun i => !(addend && i == 5) then .badHeader
    else if !bad.isEmpty || data.any fun u => !(wordsFound u .uncorrectable).isEmpty then .badData
    else
      match ((us.map fun u => (wordsFound u .corrected).length)).sum with
      | 0 => .clean
      | k => .corrected k

/-- The packet that whole units carry (R204, R205). -/
def packetOf (us : List FlowUnit) : Packet :=
  let h := us.headD ⟨0, true, true, 0, false, 0, []⟩
  let b := readPayload h
  let addr := headerField b 2 0 48
  let len := headerField b 2 48 12
  let c := cmdOfCode (headerField b 1 0 4)
  let bytes := us.tail.flatMap fun u => toBytes 64 (readPayload u).toNat
  { cmd := c, src := headerField b 0 48 8, dest := headerField b 0 56 8, tag := headerField b 1 4 12
    record := BitVec.ofNat 16 (headerField b 1 16 16), err := headerField b 1 32 8, attr := BitVec.ofNat 8 (headerField b 1 40 8)
    addr := addr, len := len, beFirst := payloadWord b 3, beLast := payloadWord b 4, operand := payloadWord b 5
    injTime := BitVec.ofNat 32 (headerField b 7 0 32), route := BitVec.ofNat 48 (headerField b 0 0 48), vn := h.vn
    prio := h.prio, data := if us.tail.isEmpty then [] else (bytes.drop (addr % 64)).take (len + 1), poison := false }

end Sys2Proof.Machine
end

