-- ==== Sys2Proof/Machine/Write.lean ====
section
/-! DEFINITION. The write of a register by its access types (R4, R5, R6), the functions of the common stop protocol and
their registers (R36), and guard breaches (R387). -/

namespace Sys2Proof.Machine

-- ------------------------------------------------------------------ the functions of R36

/-- Where a function keeps the common fields of R36, and the instance of its registers. -/
structure FuncRegs where
  run : Fld
  timeout : Fld
  state : Fld
  rwqRefused : Fld
  depRefused : Fld
  aborts : Fld
  inst : Nat
  deriving DecidableEq, Repr

/-- The registers of a function. -/
def funcRegs : Func → FuncRegs
  | .queue q => ⟨F.QUEUE_CTRL_RUN, F.QUEUE_CTRL_STOP_TIMEOUT, F.QUEUE_STATUS_STATE, F.QUEUE_STATUS_RWQ_REFUSED,
      F.QUEUE_STATUS_DEP_REFUSED, F.QUEUE_STATUS_ABORT_COUNT, q⟩
  | .ni n => ⟨F.NI_CTRL_RUN, F.NI_CTRL_STOP_TIMEOUT, F.NI_STATUS_STATE, F.NI_STATUS_RWQ_REFUSED,
      F.NI_STATUS_DEP_REFUSED, F.NI_STATUS_ABORT_COUNT, n⟩
  | .quad q => ⟨F.LANE_QUAD_CTRL_RUN, F.LANE_QUAD_CTRL_STOP_TIMEOUT, F.LANE_QUAD_STATUS_STATE,
      F.LANE_QUAD_STATUS_RWQ_REFUSED, F.LANE_QUAD_STATUS_DEP_REFUSED, F.LANE_QUAD_STATUS_ABORT_COUNT, q⟩
  | .dma c => ⟨F.HOST_CH_CTRL_RUN, F.HOST_CH_CTRL_STOP_TIMEOUT, F.HOST_CH_STATUS_STATE, F.HOST_CH_STATUS_RWQ_REFUSED,
      F.HOST_CH_STATUS_DEP_REFUSED, F.HOST_CH_STATUS_ABORT_COUNT, c⟩
  | .channel c => ⟨F.STORE_CH_CTRL_RUN, F.STORE_CH_CTRL_STOP_TIMEOUT, F.STORE_CH_STATUS_STATE,
      F.STORE_CH_STATUS_RWQ_REFUSED, F.STORE_CH_STATUS_DEP_REFUSED, F.STORE_CH_STATUS_ABORT_COUNT, c⟩
  | .core n => ⟨F.SEQ_CORE_CTRL_RUN, F.SEQ_CORE_CTRL_STOP_TIMEOUT, F.SEQ_CORE_STATUS_STATE,
      F.SEQ_CORE_STATUS_RWQ_REFUSED, F.SEQ_CORE_STATUS_DEP_REFUSED, F.SEQ_CORE_STATUS_ABORT_COUNT, n⟩
  | .record => ⟨F.RECORD_CTRL_RUN, F.RECORD_CTRL_STOP_TIMEOUT, F.RECORD_STATUS_STATE, F.RECORD_STATUS_RWQ_REFUSED,
      F.RECORD_STATUS_DEP_REFUSED, F.RECORD_STATUS_ABORT_COUNT, 0⟩
  | .beam => ⟨F.BEAM_CTRL_RUN, F.BEAM_CTRL_STOP_TIMEOUT, F.BEAM_STATUS_STATE, F.BEAM_STATUS_RWQ_REFUSED,
      F.BEAM_STATUS_DEP_REFUSED, F.BEAM_STATUS_ABORT_COUNT, 0⟩

/-- A function's state: 0 STOPPED, 1 RUN, 2 STOPPING (R36). -/
def State.funcState (s : State) (f : Func) : Nat := s.f (funcRegs f).state (funcRegs f).inst

/-- The state with a function's STATE replaced. -/
def State.setFunc (s : State) (f : Func) (v : Nat) : State := s.setF (funcRegs f).state (funcRegs f).inst v

/-- n work items completed ABORTED are counted (R36). -/
def State.aborted (s : State) (f : Func) (n : Nat) : State := s.bump (funcRegs f).aborts (funcRegs f).inst n

/-- The function that owns a register's RWQ fields. -/
def funcOf (r : Reg) (inst : Nat) : Option Func :=
  match r with
  | .QUEUE_CTRL | .QUEUE_CONFIG | .QUEUE_STALE_CFG | .QUEUE_MAX_PKT => some (.queue inst)
  | .NI_CTRL | .NI_TIMER | .NI_TGT_TIMER => some (.ni inst)
  | .BEAM_CTRL | .BEAM_ROUTE => some .beam
  | .RECORD_CTRL | .RECORD_NUMBER | .RECORD_LEN_LO | .RECORD_LEN_HI | .RECORD_PART_EN_LO | .RECORD_PART_EN_HI
  | .RECORD_NI_DOMAIN => some .record
  | .LANE_QUAD_CTRL | .LANE_QUAD_CFG | .LANE_JESD_CFG | .LANE_SYSREF_CFG => some (.quad inst)
  | .LANE_RX_BASE_LO | .LANE_RX_BASE_HI | .LANE_TX_BASE_LO | .LANE_TX_BASE_HI | .LANE_RX_SIZE | .LANE_TX_SIZE
  | .LANE_TX_ANALOG | .LANE_TEST_CTRL => some (.quad (inst / 4))
  | .STORE_CH_CTRL | .STORE_CH_CFG | .STORE_CH_RING_LO | .STORE_CH_RING_HI | .STORE_CH_MIRROR_LO | .STORE_CH_MIRROR_HI
  | .STORE_CH_RING_SIZE | .STORE_CH_PART_FIRST | .STORE_CH_PART_STRIPES | .STORE_CH_PB_SEQ => some (.channel inst)
  | .HOST_CH_CTRL | .HOST_CH_RING_LO | .HOST_CH_RING_HI | .HOST_CH_RING_SIZE => some (.dma inst)
  | .SEQ_CORE_CTRL | .SEQ_CORE_PC => some (.core inst)
  | _ => none

-- ------------------------------------------------------------------ breaches

/-- The owning block's own refusal bit for a breach (R387). -/
def ownRefusalBit (r : Reg) (inst : Nat) : Option (Fld × Nat) :=
  match r with
  | .TBUS_GOV_IMG => some (F.TBUS_LINE_STATUS_GUARD_REFUSED, inst)
  | .LANE_TX_GUARD | .LANE_QUAD_CFG => some (F.LANE_QUAD_STATUS_GUARD_REFUSED, inst)
  | .LANE_TX_ANALOG | .LANE_TEST_CTRL => some (F.LANE_QUAD_STATUS_GUARD_REFUSED, inst / 4)
  | .PIN_PAD => some (F.PIN_STATUS_PROTECT_REFUSED, 0)
  | _ => none

/-- A breach of a guard by a write to register r (R387): counted, logged, flagged, recorded with a reason, and followed
as GUARD_POLICY lays down. -/
def State.breach (s : State) (who : Who) (why : Reason) (r : Reg) (inst : Nat) (attempted : Nat) : State :=
  let s := s.journalRefusal who why r inst attempted
  let s := s.bump F.SEQ_GUARD_STATUS_BREACHES 0 1
  let s := s.raise F.SEQ_GUARD_STATUS_BREACH 0
  let s := if s.on F.SEQ_GUARD_BREACH_VALID 0 then s
    else (s.setF F.SEQ_GUARD_BREACH_OFFSET 0 (csrOffset r inst)).raise F.SEQ_GUARD_BREACH_VALID 0
  let s := match ownRefusalBit r inst with
    | some (b, i) => s.raise b i
    | none => s
  let o := who.origin.toNat
  match s.f F.SEQ_GUARD_POLICY_POLICY 0 with
  | 1 => if 0x10 ≤ o ∧ o < 0x14 then s.putDev { s.dev with due := s.dev.due ++ [.coreReset (o - 0x10) false] } else s
  | 2 => s.putDev { s.dev with due := s.dev.due ++ [.sysReset 3 0x30] }
  | _ => s

-- ------------------------------------------------------------------ the typed write

/-- One field of a stored word after a write of data (R5): write-one types and plain types store, the others keep. -/
def writeField (old : Word) (data : Word) (f : FieldSpec) : Word :=
  let o := fieldOf old f.lo f.width
  let d := fieldOf data f.lo f.width
  match f.acc with
  | .rw | .rwq | .rwl => withField old f.lo f.width d
  | .w1c => withField old f.lo f.width (o - (o &&& d))
  | .w1s => withField old f.lo f.width (o ||| d)
  | .ro | .wo | .rc => old

/-- The stored word after a write whose fields pass the test. -/
def writeFields (keep : FieldSpec → Bool) (fields : List FieldSpec) (old data : Word) : Word :=
  fields.foldl (fun w f => if keep f then writeField w data f else w) old

/-- A field of some type would change. -/
def changesKind (fields : List FieldSpec) (a : Access) (old data : Word) : Bool :=
  fields.any fun f => f.acc == a && fieldOf old f.lo f.width != fieldOf data f.lo f.width

/-- A journaled field differs. -/
def changesJournaled (fields : List FieldSpec) (old new : Word) : Bool :=
  fields.any fun f => f.journaled && fieldOf old f.lo f.width != fieldOf new f.lo f.width

/-- The guards are locked (R384). -/
def State.guardLocked (s : State) : Bool := s.on F.SEQ_GUARD_STATUS_LOCKED 0

/-- Bits that a register shows and that stand outside its stored word: SYNC_CTRL.ARM reads SYNC_ARMED, and
QUEUE.CTRL.FLUSH a pending flush. -/
def State.liveBits (s : State) (r : Reg) (inst : Nat) : Word :=
  match r with
  | .TIME_SYNC_CTRL => BitVec.ofNat 32 (s.f F.TIME_STATUS_SYNC_ARMED 0)
  | .QUEUE_CTRL => if s.mem.queues.any fun x => x.1 == inst && x.2.flushPending then 2#32 else 0
  | _ => 0

/-- A register word becomes new, with its CHANGE entry when a journaled field changed (R6); sets names the bits of type
W1S that the write sets outside the word. -/
def State.storeWord (s : State) (who : Who) (r : Reg) (inst : Nat) (new : Word) (sets : Word := 0) : State :=
  let old := s.word r inst
  let live := s.liveBits r inst
  let s := s.setWord r inst new
  if changesJournaled (regSpec r).fields old new then s.journalChange who r inst (old ||| live) (new ||| live ||| sets)
  else s

/-- A setting of a STOPPED function is about to change: the word that acts until the restart is kept (R37, R38). -/
def State.settingWaits (s : State) (r : Reg) (inst : Nat) (old : Word) : State :=
  if (funcOf r inst).isNone || s.dev.acting.any (·.1 == (r, inst)) then s
  else s.putDev { s.dev with acting := s.dev.acting ++ [((r, inst), old)] }

/-- A function restarts: the settings written since its stop act (R37). -/
def State.settingsAct (s : State) (f : Func) : State :=
  s.putDev { s.dev with acting := s.dev.acting.filter fun x => funcOf x.1.1 x.1.2 != some f }

/-- A write by access types (R5, R6, R37, R38): fields an RWQ or RWL refusal covers keep their values, and the refusal
is flagged and recorded; the other fields take the data (assumption 22). -/
def State.writeTyped (s : State) (who : Who) (r : Reg) (inst : Nat) (data : Word) (sets : Word := 0) : State :=
  let fields := (regSpec r).fields
  let old := s.word r inst
  let rwqBad := changesKind fields .rwq old data && (funcOf r inst).any (fun f => s.funcState f != 0)
  let rwlBad := changesKind fields .rwl old data && s.guardLocked && r != .PIN_PAD
  let keep := fun (f : FieldSpec) => !(rwqBad && f.acc == .rwq) && !(rwlBad && f.acc == .rwl)
  let s := match rwqBad, funcOf r inst with
    | true, some f =>
      (s.raise (funcRegs f).rwqRefused (funcRegs f).inst).journalRefusal who .rwq r inst data.toNat
    | _, _ => s
  let s := if rwlBad then s.breach who .rwl r inst data.toNat else s
  let s := if changesKind fields .rwq old data && !rwqBad then s.settingWaits r inst old else s
  s.storeWord who r inst (writeFields keep fields (s.word r inst) data) sets

end Sys2Proof.Machine
end

