-- ==== Sys2Proof/Machine/Net.lean ====
section
/-! DEFINITION. Network interfaces: who a request comes from (R442), the address map (R15, R16, R18), packets and their
injection (R205, R206, R221, R229, R233, R234), ends of requests (R224), drop reports (R249), logs and statistics (R253
to R255). -/

namespace Sys2Proof.Machine

/-- Who a request carried by NI n comes from (R442). -/
def State.whoOf (s : State) (n : Nat) : Who :=
  ⟨if n < 0x60 then 0x21
   else if n = 0x90 ∨ n = 0x91 then 0x01
   else if n = 0x9A then s.net.debugOrigin
   else if 0x94 ≤ n ∧ n < 0x98 then BitVec.ofNat 8 (0x10 + (n - 0x94))
   else 0x50, BitVec.ofNat 8 n⟩

-- ------------------------------------------------------------------ logs and statistics

/-- An error of an NI enters its log, or overflows it (R253). -/
def State.niLog (s : State) (n kind vn peer tag cmd addr : Nat) : State :=
  if s.on F.NI_ERRLOG_INFO_VALID n then s.raise F.NI_ERRLOG_INFO_OVERFLOW n
  else
    let s := s.setWord .NI_ERRLOG_INFO n
      (BitVec.ofNat 32 (kind + 16 * (vn % 4) + 64 * (peer % 256) + 2 ^ 14 * (tag % 4096) + 2 ^ 26 * (cmd % 16) + 2 ^ 31))
    let s := s.setPair .NI_ERRLOG_ADDR_LO .NI_ERRLOG_ADDR_HI n (addr % 2 ^ 48)
    s.setPair .NI_ERRLOG_TIME_LO .NI_ERRLOG_TIME_HI n s.now.toNat

/-- An error of a router enters its log, or overflows it (R253). -/
def State.cnLog (s : State) (page kind port vn src dest : Nat) : State :=
  if s.on F.CN_ERRLOG_INFO_VALID page then s.raise F.CN_ERRLOG_INFO_OVERFLOW page
  else
    let s := s.setWord .CN_ERRLOG_INFO page
      (BitVec.ofNat 32 (kind + 16 * (port % 16) + 256 * (vn % 4) + 1024 * (src % 256) + 2 ^ 18 * (dest % 256) + 2 ^ 31))
    s.setPair .CN_ERRLOG_TIME_LO .CN_ERRLOG_TIME_HI page s.now.toNat

/-- The statistics of an NI count (R254). -/
def State.statOn (s : State) (n : Nat) : Bool := s.on F.NI_STAT_CTRL_EN n && !s.on F.NI_STAT_CTRL_FREEZE n

/-- UNITS and BYTES of a VN rise (R254). -/
def State.statSent (s : State) (n vn units bytes : Nat) : State :=
  if !s.statOn n then s
  else
    let i := 4 * n + vn
    let s := s.setPair .NI_STAT_UNITS_LO .NI_STAT_UNITS_HI i ((s.pair .NI_STAT_UNITS_LO .NI_STAT_UNITS_HI i + units) % 2 ^ 64)
    s.setPair .NI_STAT_BYTES_LO .NI_STAT_BYTES_HI i ((s.pair .NI_STAT_BYTES_LO .NI_STAT_BYTES_HI i + bytes) % 2 ^ 64)

/-- The histogram bin of a latency of d ticks (R255). -/
def latencyBin (d : Nat) : Nat := if 2 * d / 3 < 2 then 0 else min 15 (Nat.log2 (2 * d / 3))

/-- A latency of d ticks is counted on a VN (R254, R255). -/
def State.statLatency (s : State) (n vn d : Nat) : State :=
  if !s.statOn n then s
  else
    let i := 4 * n + vn
    let s := s.setF F.NI_STAT_LAT_MAX_TICKS i (max (min d (2 ^ 32 - 1)) (s.f F.NI_STAT_LAT_MAX_TICKS i))
    s.bump F.NI_STAT_HIST_COUNT (16 * i + latencyBin d) 1

/-- The tick on which a request was delivered. -/
def Delivered.from' (d : Delivered) : DWord := d.since - d.held

-- ------------------------------------------------------------------ the address map

/-- What an address decodes to at a source NI (R15, R16, R18, R21). -/
inductive Target where
  /-- a destination NI -/
  | ni (n : Nat)
  /-- the page of a carry node, reached by a CFG (R218) -/
  | page (p : Nat)
  /-- CSR space outside every present block: answered by the source NI (R21) -/
  | absentCsr (off : Nat)
  | unmapped
  deriving DecidableEq, Repr

/-- The owner of a CSR offset (R18). -/
def csrOwner (p : Part) (off : Nat) : Target :=
  if off < 0x30000 then .ni 0x99
  else if off < 0x40000 then .ni 0x9C
  else if off < 0x60000 then .ni 0x9B
  else if off < 0x80000 then .ni 0x99
  else if off < 0x90000 then .ni 0x9B
  else if off < 0xA0000 then .ni 0x9A
  else if off < 0xB0000 then .ni 0x99
  else if off < 0xC0000 then .ni 0x9B
  else if off < 0x100000 then .absentCsr off
  else if off < 0x200000 then
    (if pagePresent p ((off - 0x100000) / 0x1000) then .page ((off - 0x100000) / 0x1000) else .absentCsr off)
  else if off < 0x300000 then (if Part.hasHbm p then .ni 0x60 else .absentCsr off)
  else if off < 0x380000 then
    (if (off - 0x300000) / 0x4000 < Part.quads p then .ni (0x70 + (off - 0x300000) / 0x4000) else .absentCsr off)
  else if off < 0x400000 then .absentCsr off
  else if off < 0x500000 then .ni 0x90
  else if off < 0x600000 then (if Part.hasStore p then .ni 0x98 else .absentCsr off)
  else if off < 0x680000 then .ni 0x99
  else if off < 0x800000 then .absentCsr off
  else if off < 0x900000 then .ni 0x94
  else if off < 0xA00000 then .ni 0x99
  else .absentCsr off

/-- The pseudo channel of an HBM address (the interleave of R330). -/
def hbmChannel (addr : Nat) : Nat := addr / 4096 % 16

/-- The CSR space begins here (R15). -/
def csrBase : Nat := 0x2000000000

/-- The target of an address (R15). -/
def decodeAddr (p : Part) (addr : Nat) : Target :=
  if addr < 0x400000000 then (if Part.hasHbm p then .ni (0x60 + hbmChannel addr) else .unmapped)
  else if csrBase ≤ addr ∧ addr < csrBase + 0x10000000 then csrOwner p (addr - csrBase)
  else if 0x4000000000 ≤ addr ∧ addr < 0x5800000000 then
    let n := (addr - 0x4000000000) / 0x40000000
    if niPresent p n then .ni n else .unmapped
  else if 0xC000000000 ≤ addr ∧ addr < 0x10000000000 then .ni 0x91
  else .unmapped

-- ------------------------------------------------------------------ injection

/-- The link between an NI and its router works. -/
def State.localUp (s : State) (n : Nat) : Bool :=
  !s.on F.CN_LINK_STATUS_FAILED (linkInst (pageOfNi n) (slotOfNi n)) && !s.portOff (pageOfNi n) (slotOfNi n)

/-- Ticks of TIME since a 32-bit time stamp, modulo 2^32 (R254). -/
def State.since32 (s : State) (t : Word) : Nat := (s.now.toNat + 2 ^ 32 - t.toNat) % 2 ^ 32

/-- A packet enters the network at its source NI (R204, R205, R224, R254): INJ_TIME, the statistics, and the start of the
transaction timer. Until then the INJ_TIME of a response holds the delivery of its request. On a failed local link it is
discarded and counted (R223). -/
def State.inject (s : State) (p : Packet) : State :=
  let s := if p.vn = 1 then s.statLatency p.src 1 (s.since32 p.injTime) else s
  let p := { p with injTime := s.now.setWidth 32 }
  let s := s.statSent p.src p.vn (packetUnits p) (packetBytes p)
  let v := s.ni p.src
  let v := if nonPosted p.cmd then
      { v with outstanding := v.outstanding.map fun t => if t.tag = p.tag then { t with start := s.time } else t }
    else v
  if s.localUp p.src then s.setNi p.src { v with out := v.out ++ unitsOf p }
  else (s.setNi p.src v).bump F.NI_DISCARD_HEADERS p.src 1

/-- One token, in the 1/1024 tokens of a bucket. -/
def oneToken : Nat := 1024
/-- The bucket level that stands for 0 tokens: 64 tokens below it is 0 (R221). -/
def zeroTokens : Nat := 65536

/-- The bucket of a VN now (R221): RATE tokens every 1,024 ticks up to DEPTH while EN = 1; full before its first use. -/
def State.bucket (s : State) (n vn : Nat) : Nat :=
  let i := 4 * n + vn
  let depth := zeroTokens + oneToken * max 1 (s.f F.NI_REG_CTRL_DEPTH i)
  let rate := min 1024 (max 1 (s.f F.NI_REG_CTRL_RATE i))
  match (s.ni n).tokens.find? (·.1 == vn) with
  | some (_, level, since) =>
    if s.on F.NI_REG_CTRL_EN i then min depth (level + rate * (s.time.toNat - since.toNat)) else level
  | none => depth

/-- The bucket of a VN is settled before its regulator is set anew (R221). -/
def State.settleBucket (s : State) (n vn : Nat) : State :=
  if (s.ni n).tokens.any (·.1 == vn) then
    s.setNi n { s.ni n with tokens := Sparse.insert (s.ni n).tokens vn (s.bucket n vn, s.time) }
  else s

/-- A write of REG_CTRL of a VN: what the bucket has gained so far was gained at the old setting (R221). -/
def State.writeRegCtrl (s : State) (who : Who) (i : Nat) (data : Word) : State :=
  (s.settleBucket (i / 4) (i % 4)).writeTyped who .NI_REG_CTRL i data

/-- The regulator of a VN lets a packet through (R221). -/
def State.regulatorOpen (s : State) (n vn : Nat) : Bool :=
  !s.on F.NI_REG_CTRL_EN (4 * n + vn) || decide (zeroTokens + oneToken ≤ s.bucket n vn)

/-- A packet's units are charged (R221); the bucket goes no lower than −64. -/
def State.charge (s : State) (n vn units : Nat) : State :=
  if !s.on F.NI_REG_CTRL_EN (4 * n + vn) then s
  else
    let level := s.bucket n vn - oneToken * units
    s.setNi n { s.ni n with tokens := Sparse.insert (s.ni n).tokens vn (level, s.time) }

/-- The U gate of a destination is closed at its source (R235). -/
def State.gateClosed (s : State) (n dest : Nat) : Bool := (s.ni n).gates.any (·.dest == dest)

/-- The spacing limits of R234 allow a U release now. -/
def State.uSpaced (s : State) (n dest : Nat) : Bool :=
  let v := s.ni n
  v.uLast.all (fun t => decide (t.toNat + 96 ≤ s.time.toNat)) &&
  (v.uLastTo.filter (·.1 == dest)).all (fun kv => decide (kv.2.toNat + 300 ≤ s.time.toNat))

/-- A packet may leave its NI now: no earlier packet of its VN waits, its regulator lets it through, and a U packet's
gate and spacing allow it (R221, R234, R235). -/
def State.mayLeave (s : State) (p : Packet) : Bool :=
  s.regulatorOpen p.src p.vn && (p.vn != 2 || (!s.gateClosed p.src p.dest && s.uSpaced p.src p.dest))

/-- A packet leaves its NI: tokens are charged and a U release is noted (R221, R234). -/
def State.release (s : State) (p : Packet) : State :=
  let s := s.charge p.src p.vn (packetUnits p)
  let s := if p.vn = 2 then
      s.setNi p.src { s.ni p.src with
        uLast := some s.time, uLastTo := Sparse.insert (s.ni p.src).uLastTo p.dest s.time }
    else s
  s.inject p

/-- REG_STATUS.WAITING follows the packets a regulator holds. -/
def State.regWaiting (s : State) (n : Nat) : State :=
  let bits := (List.range 4).foldl
    (fun acc v => if (s.ni n).held.any (·.vn == v) && !s.regulatorOpen n v then acc + 2 ^ v else acc) 0
  s.setF F.NI_REG_STATUS_WAITING n bits

/-- A packet is sent, or held in the NI behind those that wait on its VN (R221, R234). -/
def State.send (s : State) (p : Packet) : State :=
  if !(s.ni p.src).held.any (·.vn == p.vn) && s.mayLeave p then s.release p
  else
    let s := if s.regulatorOpen p.src p.vn then s else s.bump F.NI_REG_STATUS_HELD p.src 1
    (s.setNi p.src { s.ni p.src with held := (s.ni p.src).held ++ [p] }).regWaiting p.src

/-- The first held packet of a VN. -/
def State.firstHeld (s : State) (n vn : Nat) : Option Packet := (s.ni n).held.find? (·.vn == vn)

/-- The first held packet of a VN leaves, when it may (R221, R234). -/
def State.releaseHeld (s : State) (n vn : Nat) : State :=
  match s.firstHeld n vn with
  | some p =>
    if s.mayLeave p then
      let s := s.setNi n { s.ni n with held := (s.ni n).held.erase p }
      (s.release p).regWaiting n
    else s
  | none => s

-- ------------------------------------------------------------------ ends of requests

/-- A request ends for its unit: user logic's answer goes to IR, every other end to what waits for it. -/
def State.endRequest (s : State) (c : Completion) (tag : Nat) : State :=
  match c.use with
  | .fabric _ =>
    let p : Packet :=
      { cmd := c.answer, src := c.ni, dest := c.ni, tag := tag, record := 0, err := c.err, attr := 0, addr := c.addr
        len := c.len, beFirst := 0, beLast := 0, operand := c.operand, injTime := 0, route := 0, vn := 1, prio := 0
        data := c.data, poison := false }
    s.setNi c.ni { s.ni c.ni with ir := (s.ni c.ni).ir ++ [p] }
  | .none => s
  | _ => s.putNet { s.net with ended := s.net.ended ++ [c] }

/-- The end of an outstanding transaction (R224): its latency is counted (R254). -/
def State.endTxn (s : State) (n : Nat) (t : Txn) (answer : Cmd) (err : Nat) (operand : DWord) (data : List Byte) : State :=
  let s := s.setNi n { s.ni n with outstanding := (s.ni n).outstanding.filter (·.tag != t.tag) }
  let s := s.statLatency n 0 (s.time - (t.start - t.held)).toNat
  s.endRequest ⟨n, t.use, t.cmd, t.addr, t.len, answer, err, operand, data⟩ t.tag

-- ------------------------------------------------------------------ events and drop reports

/-- An event reaches an NI's unit (R231): a fabric NI shows it on EV, up to 16; a drop report to a core's NI
raises input 34 of the core (R380); other units take it as it comes. -/
def State.deliverEvent (s : State) (n src : Nat) (operand : DWord) : State :=
  if 0x94 ≤ n ∧ n < 0x98 ∧ operand.toNat / 256 % 256 = 1 then
    s.setWord .SEQ_IC_PEND_HI (n - 0x94) (s.word .SEQ_IC_PEND_HI (n - 0x94) ||| 4#32)
  else if 0x60 ≤ n then s
  else if 16 ≤ (s.ni n).ev.length then s.bump F.NI_DISCARD_HEADERS n 1
  else s.setNi n { s.ni n with ev := (s.ni n).ev ++ [(operand, src)] }

/-- The rate limit of R249 lets NI n report code now. -/
def State.mayReport (s : State) (n code : Nat) : Bool :=
  ((s.ni n).reported.filter (·.1 == code)).all fun kv => decide (kv.2.toNat + 256 ≤ s.time.toNat)

/-- A drop report for packet fields (R249): sent by NI n, or on its behalf, to the source of what was dropped; reports
within 256 ticks of the last are coalesced. A report to the NI itself is delivered locally. -/
def State.dropReport (s : State) (n code peer tag addr : Nat) : State :=
  if !s.mayReport n code then s.bump F.NI_DROP_RPT_COALESCED n 1
  else
    let s := s.setNi n { s.ni n with reported := Sparse.insert (s.ni n).reported code s.time }
    let operand := BitVec.ofNat 64 (code + 65536 * (addr % 2 ^ 48))
    if peer = n then (s.bump F.NI_DROP_RPT_RECEIVED n 1).deliverEvent n n operand
    else
      let e := s.activeEntry n peer
      if !entryValid e then s
      else s.send
        { cmd := .evt, src := n, dest := peer, tag := tag, record := 0, err := 0, attr := 0, addr := 0, len := 0
          beFirst := 0, beLast := 0, operand := operand, injTime := 0, route := BitVec.ofNat 48 (entryRoute e), vn := 3
          prio := 0, data := [], poison := false }

-- ------------------------------------------------------------------ requests

/-- The record number an NI gives its requests, when it belongs to the record domain (R283): N + 1 once the close has
reached it. -/
def State.recordOf (s : State) (n : Nat) : Option (BitVec 16) :=
  if (s.actingWord .RECORD_NI_DOMAIN (n / 32)).getLsbD (n % 32) then
    let phase := s.f F.RECORD_STATUS_PHASE 0
    let cur := s.acts F.RECORD_NUMBER_CURRENT 0
    some (BitVec.ofNat 16 (if phase = 3 ∨ phase = 4 then cur + 1 else cur))
  else none

/-- The data beads, or the naturally aligned 64-bit words, of a byte range (R228). -/
def dataWords (addr len : Nat) : Nat := (addr + len) / 8 - addr / 8 + 1

/-- The data beads of an RSP_DATA to a request (R228, R230). -/
def answerBeads (p : Packet) : Nat :=
  match p.cmd with
  | .rd | .fadd => dataWords p.addr p.len
  | _ => 0

/-- Nothing waits any more at an NI's interface for its unit. -/
def NiState.undelivered (v : NiState) : NiState := { v with posted := [], edge := { v.edge with tq := [] } }

/-- Requests that a timer or a fence answers for user logic are remembered: its own answers come late (R225, R230, R247). -/
def NiState.answeredAll (v : NiState) (n : Nat) : NiState :=
  { v with
    delivered := []
    answered := v.answered ++ if n < 0x60 then v.delivered.map fun d => (d.handle, answerBeads d.packet) else [] }

/-- A request that is not injected is answered by its own NI. -/
def State.answerLocal (s : State) (n : Nat) (r : Request) (answer : Cmd) (err : Nat) (operand : DWord)
    (data : List Byte) : State :=
  s.endRequest ⟨n, r.use, r.cmd, r.addr, r.len, answer, err, operand, data⟩ r.tag

/-- A request of a form its target does not have, answered by its own NI; the detail is not stated (assumption 38). -/
def State.unsupported (s : State) (n : Nat) (r : Request) : State :=
  (s.putFresh (s.fresh + 1)).answerLocal n r .rspErr 5 (Config.freeDWord s.fresh) []

/-- A request that the address map or the route table leads nowhere (R16, R214). -/
def State.unmapped (s : State) (n : Nat) (r : Request) : State :=
  let s := s.niLog n 9 0 0 r.tag r.cmd.code r.addr
  if nonPosted r.cmd then s.answerLocal n r .rspErr 1 0 []
  else (s.bump F.NI_DISCARD_HEADERS n 1).dropReport n 0x0103 n r.tag r.addr

/-- A request to CSR space has the form of R449: whole aligned dwords, each with all its bytes enabled or none, and no
FADD. -/
def csrRequestForm (r : Request) : Bool :=
  r.cmd != Cmd.fadd && r.addr % 4 == 0 && (r.len + 1) % 4 == 0 &&
  (r.cmd == Cmd.rd || (List.range ((r.len + 1) / 4)).all fun k =>
    let on := (List.range 4).filter fun i => noneEnabled r.len r.be || r.be.getD (4 * k + i) true
    on.length == 0 || on.length == 4)

/-- The dwords that a request to CSR space writes. -/
def writtenDwords (r : Request) : List Nat :=
  (List.range ((r.len + 1) / 4)).filter fun k => r.be.getD (4 * k) true

/-- The code of the notice of a write outside every present block, which the spec does not give (DESIGN CHOICE, assumption
190): OPERAND [43:16] holds the CSR offset. -/
def absentNotice : Nat := 0x0301

/-- A write outside every present block is notified to NI 0x99 by an EVT on VN3 (R21); at NI 0x99 itself it is reported at
once. -/
def State.absentNotify (s : State) (n off : Nat) (dbg : Bool) : State :=
  if n = 0x99 then s.absentWrite off (s.whoOf n)
  else
    let e := s.activeEntry n 0x99
    if !entryValid e then s
    else s.send
      { cmd := .evt, src := n, dest := 0x99, tag := 0, record := 0, err := 0, attr := if dbg then 1 else 0, addr := 0, len := 0
        beFirst := 0, beLast := 0, operand := BitVec.ofNat 64 (absentNotice + 65536 * (off % 2 ^ 28)), injTime := 0
        route := BitVec.ofNat 48 (entryRoute e), vn := 3, prio := 0, data := [], poison := false }

/-- A request to CSR space outside every present block (R21, R449): answered with OK and zeros, a write of a dword is
notified; a request of another form is not executed. -/
def State.answerAbsent (s : State) (n off : Nat) (r : Request) : State :=
  let noted := fun (s : State) => (writtenDwords r).foldl (fun s k => s.absentNotify n (off + 4 * k) r.dbg) s
  if !csrRequestForm r then
    if nonPosted r.cmd then s.answerLocal n r .rspErr 5 0xF004 []
    else (s.bump F.NI_DISCARD_HEADERS n 1).dropReport n 0x0106 n r.tag r.addr
  else
    match r.cmd with
    | .rd => s.answerLocal n r .rspData 0 0 (List.replicate (r.len + 1) 0)
    | .wr => (noted s).answerLocal n r .rspOk 0 0 []
    | .wrp => noted s
    | _ => s

/-- A tag is outstanding or quarantined. -/
def State.tagTaken (s : State) (n tag : Nat) : Bool :=
  (s.ni n).outstanding.any (·.tag == tag) || (s.ni n).quarantine.any (·.1 == tag)

/-- The lowest free tag of an NI, when one is free (R224). -/
def State.freeTag (s : State) (n : Nat) : Option Nat := (List.range 4096).find? fun t => !s.tagTaken n t

/-- The units of the response to a request (R206). -/
def responseUnits (c : Cmd) (addr len : Nat) : Nat :=
  match c with
  | .rd | .fadd => 1 + dataUnits .rspData addr len
  | .cfg => 2
  | _ => 1

/-- The response space of an NI that its outstanding requests and untaken responses hold (R212, R229). -/
def State.reservedUnits (s : State) (n : Nat) : Nat :=
  ((s.ni n).outstanding.map fun t => responseUnits t.cmd t.addr t.len).sum + ((s.ni n).ir.map packetUnits).sum

/-- An NI can reserve space for the whole response to a request (R212): there is room for one whole response at least, and
for more by what the spec does not give (assumption 39). -/
def State.responseRoom (s : State) (n : Nat) (r : Request) : Bool :=
  decide (s.reservedUnits n + responseUnits r.cmd r.addr r.len ≤ Config.responseSpace n + 65)

/-- The requests of user logic that are answered at once (R229): OPERAND of the RSP_ERR. -/
def State.fabricFault (s : State) (n : Nat) (r : Request) : Option Nat :=
  let known := match r.cmd with
    | .rd | .wr | .wrp | .fadd | .evt => true
    | _ => false
  if nonPosted r.cmd && s.tagTaken n r.tag then some 0xF001
  else if !known then some 0xF002
  else if r.addr / 4096 != (r.addr + r.len) / 4096 then some 0xF003
  else none

/-- The virtual network, PRIO and demotion of a request on a route-table entry (R206, R208, R233). -/
def requestClass (r : Request) (e : DWord) : Nat × Nat × Bool :=
  let short := match r.cmd with
    | .wrp => decide (dataUnits r.cmd r.addr r.len ≤ 1)
    | .evt => true
    | _ => false
  if r.urgent then (if short && entryU e then (2, 0, false) else (0, 2, true))
  else
    match r.cmd with
    | .evt | .cfg => (3, 0, false)
    | .wrp => if r.mgmt then (3, 0, false) else (0, entryPrio e, false)
    | _ => (0, entryPrio e, false)

/-- The header of a request (R205, R208, R229, R283). -/
def State.requestPacket (s : State) (n dest tag : Nat) (r : Request) (route vn prio : Nat) : Packet :=
  let recorded := if vn = 0 || r.cmd == Cmd.wrp then s.recordOf n else none
  let last := (r.addr + r.len) / 64 - r.addr / 64
  let masked := match r.cmd with
    | .wr | .wrp | .cfg => true
    | _ => false
  let rspPrio := match r.use with
    | .fabric k => k
    | _ => prio
  let attr := (if r.dbg && 0x60 ≤ n then 1 else 0) + (if recorded.isSome then 2 else 0) +
    (if r.mgmt then 4 else 0) + 8 * (rspPrio % 4) + (if r.urgent then 32 else 0)
  { cmd := r.cmd, src := n, dest := dest, tag := tag, record := recorded.getD 0, err := 0, attr := BitVec.ofNat 8 attr
    addr := r.addr, len := r.len
    beFirst := if masked then enableMask r.addr r.len r.be 0 else 0
    beLast := if masked then enableMask r.addr r.len r.be last else 0
    operand := r.operand, injTime := 0, route := BitVec.ofNat 48 route, vn := vn, prio := prio, data := r.data, poison := false }

/-- A request is given its tag and sent (R224, R284). The transaction timer starts with the injection of its header. -/
def State.launch (s : State) (n dest : Nat) (r : Request) (route vn prio : Nat) : State :=
  if nonPosted r.cmd then
    match (if n < 0x60 then some r.tag else s.freeTag n) with
    | none => s
    | some tag =>
      let p := s.requestPacket n dest tag r route vn prio
      let t : Txn :=
        ⟨tag, dest, r.cmd, r.addr, r.len, r.use, s.time, 0, if p.attr.getLsbD 1 then some p.record else none⟩
      (s.setNi n { s.ni n with outstanding := (s.ni n).outstanding ++ [t] }).send p
  else
    let p := s.requestPacket n dest r.tag r route vn prio
    let s := if p.attr.getLsbD 1 && r.cmd == Cmd.wrp then
        s.setNi n { s.ni n with marked := Sparse.insert (s.ni n).marked dest r.addr }
      else s
    s.send p

/-- A URGENT packet that did not qualify is counted (R233). -/
def State.demote (s : State) (n : Nat) (demoted : Bool) (dest tag cmd addr : Nat) : State :=
  if !demoted then s
  else
    let s := s.bump F.NI_U_STATUS_DEMOTED n 1
    (s.raise F.NI_STATUS_DEMOTED n).niLog n 0xA 0 dest tag cmd addr

/-- A 4-byte RD or WR of a carry-node page becomes a CFG on VN3 over the management route; any other request to a page
is unsupported (R218). -/
def State.requestPage (s : State) (n page : Nat) (r : Request) : State :=
  let route := managementRoute s.part n page
  match r.cmd with
  | .rd | .wr =>
    if r.len = 3 ∧ r.addr % 4 = 0 then
      let be := if r.cmd = .rd then List.replicate 4 false else r.be
      s.launch n 0xFF { r with cmd := .cfg, be := be, operand := BitVec.ofNat 64 (fromBytes r.data) } route 3 0
    else s.unsupported n r
  | .fadd => s.unsupported n r
  | _ => s.bump F.NI_DISCARD_HEADERS n 1

/-- A request with a destination (R214, R232, R233). -/
def State.requestTo (s : State) (n dest : Nat) (r : Request) : State :=
  let e := s.activeEntry n dest
  if !entryValid e then s.unmapped n r
  else
    let (vn, prio, demoted) := requestClass r e
    (s.demote n demoted dest r.tag r.cmd.code r.addr).launch n dest r (entryRoute e) vn prio

/-- An NI's fence is open (R246, R250). -/
def State.fence (s : State) (n : Nat) : Nat := s.f F.NI_FENCE_STATUS_STATE n

/-- A station's state: 0 RUN, 1 RESYNC, 2 PARKED, 3 ERROR (R269). -/
def State.station (s : State) (i : Nat) : Nat := s.f F.DEV_XS_STATE_STATE i

/-- NI n has a unit of its own behind a CS-F each way (R258). -/
def hasCsf (n : Nat) : Bool := decide (0x60 ≤ n)

/-- An NI takes requests from its unit: it is in RUN, its fence is open (R226, R229, R246), and its CS-F passes entries
(R260). -/
def State.niTakes (s : State) (n : Nat) : Bool :=
  niPresent s.part n && s.funcState (.ni n) == 1 && s.fence n == 0 && (!hasCsf n || s.station n == 0)

/-- A request waits at its NI for a tag, or for room for its response (R212, R224, R229). -/
def State.requestWaits (s : State) (n : Nat) (r : Request) : Bool :=
  nonPosted r.cmd && (decide (0x60 ≤ n) || (s.fabricFault n r).isNone) &&
  ((decide (0x60 ≤ n) && (s.freeTag n).isNone) || !s.responseRoom n r)

/-- A request that its NI takes (R15, R16, R21, R218, R229). -/
def State.requestTaken (s : State) (n : Nat) (r : Request) : State :=
  match (if n < 0x60 then s.fabricFault n r else none) with
  | some detail =>
    if nonPosted r.cmd || detail == 0xF002 then s.answerLocal n r .rspErr 5 (BitVec.ofNat 64 detail) []
    else s.bump F.NI_DISCARD_HEADERS n 1
  | none =>
    if s.requestWaits n r then s
    else
      match decodeAddr s.part r.addr with
      | .ni d => s.requestTo n d r
      | .page p => s.requestPage n p r
      | .absentCsr off => s.answerAbsent n off r
      | .unmapped => s.unmapped n r

-- ------------------------------------------------------------------ answers

/-- The byte enables of a response's data (R205): those of its whole range. -/
def responseEnables (answer : Cmd) (addr len : Nat) : BitVec 64 × BitVec 64 :=
  if answer = .rspData then (enableMask addr len [] 0, enableMask addr len [] ((addr + len) / 64 - addr / 64)) else (0, 0)

/-- The packet of a response over a route (R205, R206, R208, R212, R283); poison says that its data carries a poison check
code (R334). -/
def responsePacket (q : Packet) (route : Nat) (answer : Cmd) (err : Nat) (operand : DWord) (data : List Byte)
    (injTime : Word) (poison : Bool) : Packet :=
  let be := responseEnables answer q.addr q.len
  { cmd := answer, src := q.dest, dest := q.src, tag := q.tag, record := q.record, err := err, attr := q.attr &&& 2
    addr := q.addr, len := q.len, beFirst := be.1, beLast := be.2, operand := operand, injTime := injTime
    route := BitVec.ofNat 48 route, vn := 1, prio := q.attr.toNat / 8 % 4, data := data, poison := poison }

/-- A response of a request's target leaves for its source; one that no route leads to its source is discarded and counted
(R223). The request was delivered at tick since. -/
def State.respond (s : State) (q : Packet) (answer : Cmd) (err : Nat) (operand : DWord) (data : List Byte)
    (since : DWord := s.time) (poison : Bool := false) : State :=
  let e := s.activeEntry q.dest q.src
  if !entryValid e then s.bump F.NI_DISCARD_HEADERS q.dest 1
  else s.send (responsePacket q (entryRoute e) answer err operand data ((since + s.timeOffset).setWidth 32) poison)

/-- The units of a packet that a router sends of its own stand at its inner input, port 15. -/
def State.routerSends (s : State) (page : Nat) (p : Packet) : State :=
  let v := s.router page
  s.setRouter page { v with waiting := v.waiting ++ (unitsOf p).map fun u => (15, u) }

/-- The router of a page answers a CFG over the default route to its source (R218, R242, assumption 34). -/
def State.respondCfg (s : State) (page : Nat) (q : Packet) (answer : Cmd) (data : List Byte) : State :=
  let p := responsePacket q (routeOf (defaultPorts s.part page (pageOfNi q.src))) answer 0 0 data (s.now.setWidth 32) false
  s.routerSends page { p with attr := 0 }

-- ------------------------------------------------------------------ what waits for user logic (R230, R284)

/-- A write request has no enabled byte. -/
def noByte (p : Packet) : Bool := (List.range (p.len + 1)).all fun i => !packetEnables p i

/-- WRs with no enabled byte whose source has no earlier write untaken are answered (R284). -/
def State.answerMarkers (s : State) (n : Nat) : State :=
  (s.ni n).posted.foldl
    (fun s p =>
      let q := (s.ni n).posted
      let earlier := (q.takeWhile (· != p)).any fun x => x.src == p.src
      if p.cmd = .wr ∧ !earlier then (s.setNi n { s.ni n with posted := q.erase p }).respond p .rspOk 0 0 [] else s) s

/-- A request waits to be offered on TQ with its HANDLE, in the order of arrival (R230, R284). -/
def State.offerTq (s : State) (h : Nat) (p : Packet) : State :=
  let v := s.ni p.dest
  s.setNi p.dest { v with edge := { v.edge with tq := v.edge.tq ++ [(h, p)] } }

/-- A handle for a delivered request. That of a fabric NI is the lowest below 256 that is in no use, or else that awaits no
answer (R230); other NIs have no handles to show, and number their requests upward. -/
def State.freeHandle (s : State) (n : Nat) : Option Nat :=
  let v := s.ni n
  let awaits := fun (h : Nat) => v.delivered.any (·.handle == h)
  if 0x60 ≤ n then some (v.delivered.foldl (fun k d => max k (d.handle + 1)) 0)
  else
    ((List.range 256).find? fun h => !awaits h && !v.answered.any (·.1 == h)).orElse fun _ =>
      (List.range 256).find? fun h => !awaits h

/-- A non-posted request is delivered to its unit and awaits the answer (R225, R230). -/
def State.deliverRequest (s : State) (p : Packet) (h : Nat) : State :=
  let v := s.ni p.dest
  s.setNi p.dest { v with
    delivered := v.delivered ++ [⟨h, p, s.time, 0⟩], answered := v.answered.filter (·.1 != h) }

/-- A unit's answer, or the failure of a request it holds, ends a request delivered to it; where a timer or a fence has
answered already, the answer is late (R225, R247). -/
def State.answerDelivered (s : State) (p : Packet) (answer : State → DWord → State) : State :=
  match (s.ni p.dest).delivered.find? (·.packet == p) with
  | some d => answer (s.setNi p.dest { s.ni p.dest with delivered := (s.ni p.dest).delivered.erase d }) d.from'
  | none => s.bump F.NI_TGT_ERR_LATE_ANSWERS p.dest 1

end Sys2Proof.Machine
end

