-- ==== Sys2Proof/Machine/Csf.lean ====
section
/-! DEFINITION. The CS-F of an NI that has a unit of its own (R258, R259, R260): what stands in its two FIFOs, how packets
and requests are written into them and read from them, and what a reset of either side does. -/

namespace Sys2Proof.Machine

/-- The entries of a CS-F, one unit each (R258). -/
def csfDepth : Nat := 16

/-- A response command. -/
def isResponse : Cmd → Bool
  | .rspData | .rspOk | .rspErr => true
  | _ => false

/-- The units toward the unit that its CS-F has begun to take. -/
def Csf.downUnits (c : Csf) : Nat := (c.down.map fun q => packetUnits q.1).sum

/-- The units of a request. -/
def requestUnits (r : Request) : Nat := 1 + dataUnits r.cmd r.addr r.len

/-- The units of the requests that wait to be read. -/
def Csf.upUnits (c : Csf) : Nat := (c.up.map requestUnits).sum

/-- The entries of a CS-F whose writer has this many units to write (R259): it stalls when the FIFO is full. -/
def csfEntries (units : Nat) : Nat := min csfDepth units

/-- The write pointers stand as far ahead of the read pointers as there are entries. -/
def Csf.settled (c : Csf) : Csf :=
  { c with
    downWritten := (c.downRead + csfEntries c.downUnits) % 32
    upWritten := (c.upRead + csfEntries c.upUnits) % 32 }

/-- A pointer as it crosses: Gray-coded (R259). -/
def grayOf (pointer : Nat) : Nat := pointer ^^^ pointer / 2

/-- The state with an NI's CS-F replaced; the pointers follow. -/
def State.setCsf (s : State) (n : Nat) (c : Csf) : State := s.setNi n { s.ni n with csf := c.settled }

-- ------------------------------------------------------------------ toward the unit

/-- A packet may be written toward its unit: the fence is open, or drains and the packet is a response (R246). -/
def State.mayCross (s : State) (n : Nat) (p : Packet) : Bool :=
  s.fence n == 0 || (s.fence n == 1 && isResponse p.cmd)

/-- The next packet that the NI writes toward its unit: its header finds room, and the station is not in a resync
(R259, R260). -/
def State.nextCrossing (s : State) (n : Nat) : Option (Packet × PacketEcc) :=
  let v := s.ni n
  if !hasCsf n || decide (csfDepth ≤ v.csf.downUnits) || s.station n == 1 || s.station n == 2 then none
  else v.arrived.find? fun q => s.mayCross n q.1

/-- The NI writes the next packet toward its unit. -/
def State.crossDown (s : State) (n : Nat) : State :=
  match s.nextCrossing n with
  | some q =>
    let v := s.ni n
    (s.setNi n { v with arrived := v.arrived.erase q }).setCsf n { v.csf with down := v.csf.down ++ [q] }
  | none => s

/-- The unit has read the units of a packet (R259). -/
def State.crossedDown (s : State) (p : Packet) : State :=
  let c := (s.ni p.dest).csf
  s.setCsf p.dest { c with
    down := c.down.eraseP (·.1 == p)
    downRead := (c.downRead + (if c.down.any (·.1 == p) then packetUnits p else 0)) % 32 }

/-- Packets in the CS-F of an NI whose fence closes are the proxy's, before those that have come since (R246, R261). -/
def State.csfReturns (s : State) (n : Nat) : State :=
  let v := s.ni n
  (s.setNi n { v with arrived := v.csf.down ++ v.arrived }).setCsf n { v.csf with down := [] }

-- ------------------------------------------------------------------ toward the NI

/-- A request toward an NI whose side has stopped (R267): it is answered at once, or dropped, and counted. -/
def State.stoppedUp (s : State) (n : Nat) (r : Request) : State :=
  let s := s.bump F.DEV_XS_CNT_ERR_DROPS n 1
  if nonPosted r.cmd then s.answerLocal n r .rspErr 7 0xC501 [] else s

/-- A unit's request at its NI (R229, R259): one that the NI does not read at once waits in order, its units in the CS-F as
far as they find room there and the rest at the writer, which stalls. A unit whose clock has stopped asks for nothing. -/
def State.request (s : State) (n : Nat) (r : Request) : State :=
  let c := (s.ni n).csf
  if !niPresent s.part n then s
  else if !hasCsf n then (if s.niTakes n then s.requestTaken n r else s)
  else if s.station n = 3 then (if 2 ≤ s.f F.DEV_XS_STATE_SIDE n then s.stoppedUp n r else s)
  else if c.up.isEmpty && s.niTakes n && !s.requestWaits n r then
    (s.setCsf n { c with upRead := (c.upRead + requestUnits r) % 32 }).requestTaken n r
  else s.setCsf n { c with up := c.up ++ [r] }

/-- The NI reads the next request of its unit, when it takes requests (R226, R246, R259). -/
def State.readsUp (s : State) (n : Nat) : Bool :=
  match (s.ni n).csf.up with
  | r :: _ => s.niTakes n && !s.requestWaits n r
  | [] => false

/-- The NI reads the next request. -/
def State.crossedUp (s : State) (n : Nat) : State :=
  match (s.ni n).csf.up with
  | r :: rest =>
    if s.readsUp n then
      let c := (s.ni n).csf
      (s.setCsf n { c with up := rest, upRead := (c.upRead + requestUnits r) % 32 }).requestTaken n r
    else s
  | [] => s

-- ------------------------------------------------------------------ both

/-- A CS-F of an NI can move an entry. -/
def State.csfMoves (s : State) (n : Nat) : Bool := (s.nextCrossing n).isSome || s.readsUp n

/-- Some CS-F can move an entry. -/
def State.csfDue (s : State) : Bool := (s.net.nis.map (·.1)).any s.csfMoves

/-- Every CS-F moves what it can: as many packets and requests as it can hold. -/
def State.csfPass (s : State) : State :=
  ((s.net.nis.map (·.1)).filter s.csfMoves).foldl
    (fun s n => (List.range csfDepth).foldl (fun s _ => (s.crossDown n).crossedUp n) s) s

/-- A reset of either side empties both CS-F of an NI (R260): what stands beyond their entries is the rest of a packet cut in
two, which its receiver discards (R223). Answers how many entries were discarded. -/
def State.csfReset (s : State) (n : Nat) : Nat × State :=
  let c := (s.ni n).csf
  let rest := (c.downUnits - csfEntries c.downUnits) + (c.upUnits - csfEntries c.upUnits)
  let s := s.setNi n { s.ni n with csf := csfInit }
  (csfEntries c.downUnits + csfEntries c.upUnits, if rest = 0 then s else s.bump F.NI_DISCARD_ORPHANS n 1)

end Sys2Proof.Machine
end

