-- ==== Sys2Proof/Machine/Fence.lean ====
section
/-! DEFINITION. U gates (R235), fences and their proxies (R245 to R251), regulators and U releases (R221, R234), and the
checks of an arriving packet (R222, R289). -/

namespace Sys2Proof.Machine

-- ------------------------------------------------------------------ U gates

/-- U_STATUS.GATED follows the gates of an NI (R235). -/
def State.showGates (s : State) (n : Nat) : State :=
  s.setF F.NI_U_STATUS_GATED n (if (s.ni n).gates.isEmpty then 0 else 1)

/-- The U gates of the registered routes that hit names close for a cause (R235); also how many routes this suspends. -/
def State.closeGates (s : State) (cause : Nat) (hit : Nat → Nat → List (Nat × Nat) → Bool) : State × Nat :=
  (s.uRoutes.filter fun r => hit r.1 r.2.1 r.2.2).foldl
    (fun acc r =>
      let s := acc.1
      let v := s.ni r.1
      let fresh := if v.gates.any (·.dest == r.2.1) then 0 else 1
      if v.gates.any (fun g => g.dest == r.2.1 && g.cause == cause && g.openAt.isNone) then acc
      else ((s.setNi r.1 { v with gates := v.gates ++ [⟨r.2.1, cause, none⟩] }).showGates r.1, acc.2 + fresh))
    (s, 0)

/-- The SUSPEND entry of a request that closed gates (R235). -/
def State.journalSuspend (s : State) (who : Who) (object count aux : Nat) : State :=
  if count = 0 then s else s.journal who.origin 0x0A aux ⟨object, 0, count, 0⟩

/-- The gates a cause closed will open 300 ticks from now (R235). -/
def State.openGates (s : State) (cause : Nat) : State :=
  (s.net.nis.map (·.1)).foldl
    (fun s n =>
      let v := s.ni n
      s.setNi n { v with gates := v.gates.map fun g =>
        if g.cause == cause then { g with openAt := some (s.later 300) } else g })
    s

/-- A gate opens (R235): those of NI n for a destination whose 300 ticks have run. TIME comes to the last of them. -/
def State.gateOpen (s : State) (n dest : Nat) : State :=
  let due := (s.ni n).gates.filter fun g => g.dest == dest && g.openAt.isSome
  let s := due.foldl (fun s g => s.advanceTo (g.openAt.getD 0)) s
  (s.setNi n { s.ni n with gates := (s.ni n).gates.filter fun g => !(g.dest == dest && g.openAt.isSome) }).showGates n

-- ------------------------------------------------------------------ fence states

/-- FENCE_STATUS takes a new state and cause, with its CHANGE entry (R250). -/
def State.setFence (s : State) (n st cause : Nat) (who : Who) : State :=
  let old := s.word .NI_FENCE_STATUS n
  let new := withField (withField old 0 2 st) 4 3 cause
  if old = new then s else (s.setWord .NI_FENCE_STATUS n new).journalChange who .NI_FENCE_STATUS n old new

/-- The closed state of an NI's fence: DEAD when COMPAT is 1 (R250, R251). -/
def State.closedState (s : State) (n : Nat) : Nat := if s.on F.NI_FENCE_CTRL_COMPAT n then 3 else 2

/-- Work delivered and unfinished when a fence closes (R247): requests are answered FENCED, posted writes dropped and
reported with a code. -/
def State.fenceUnfinished (s : State) (n code : Nat) : State :=
  let v := s.ni n
  let s := s.setNi n (v.undelivered.answeredAll n)
  let s := v.delivered.foldl
    (fun s d => (s.bump F.NI_PROXY_CNT_ANSWERED n 1).respond d.packet .rspErr 2 (BitVec.ofNat 64 n) [] d.from') s
  v.posted.foldl
    (fun s p =>
      if nonPosted p.cmd then (s.bump F.NI_PROXY_CNT_ANSWERED n 1).respond p .rspErr 2 (BitVec.ofNat 64 n) []
      else (s.bump F.NI_PROXY_CNT_DROPPED n 1).dropReport n code p.src p.tag p.addr) s

/-- The fence of an NI closes (R246 step 5, R247). -/
def State.fenceShut (s : State) (n : Nat) (hit : Bool) : State :=
  let cause := s.f F.NI_FENCE_STATUS_CAUSE n
  let who := (s.ni n).fenceWho
  let s := if hit then s.raise F.NI_FENCE_STATUS_LIMIT_HIT n else s
  let s := (s.csfReturns n).fenceUnfinished n (if (s.ni n).fenceAsked.contains 2 ∧ hit then 0x0105 else 0x0101)
  s.setFence n (s.closedState n) cause who

/-- The drain of a fence is over: nothing of its own is outstanding and nothing delivered, or on its way through the CS-F,
waits (R246 steps 3, 4). -/
def State.fenceDry (s : State) (n : Nat) : Bool :=
  let v := s.ni n
  v.outstanding.isEmpty && v.delivered.isEmpty && v.posted.isEmpty && v.csf.down.isEmpty

/-- One NI of a fencing request (R246, R250), with the number of routes suspended so far. A further request is merged: the
earlier limit stands, and CAUSE shows the last request. -/
def State.fenceOne (s : State) (n limit cause : Nat) (who : Who) : State × Nat :=
  match s.fence n with
  | 0 =>
    let (s, k) := s.closeGates n fun src dest _ => src == n || dest == n
    let s := s.setNi n { s.ni n with fenceFrom := s.time, fenceLimit := limit, fenceWho := who, fenceAsked := [cause] }
    let s := s.setFence n 1 cause who
    (if limit = 0 then s.fenceShut n false else s, k)
  | 1 =>
    if limit = 0 then
      let s := s.setNi n { s.ni n with fenceWho := who }
      ((s.setF F.NI_FENCE_STATUS_CAUSE n cause).fenceShut n false, 0)
    else
      let s := s.setNi n { s.ni n with fenceAsked := (s.ni n).fenceAsked ++ [cause] }
      (s.setF F.NI_FENCE_STATUS_CAUSE n cause, 0)
  | _ => (s, 0)

/-- A fencing request over a domain's NIs (R245): one SUSPEND entry for the request. -/
def State.fenceDomain (s : State) (nis : List Nat) (limit : Nat → Nat) (cause object : Nat) (who : Who) : State :=
  let r := (nis.filter (niPresent s.part)).foldl
    (fun acc n =>
      let one := acc.1.fenceOne n (limit n) cause who
      (one.1, acc.2 + one.2)) (s, 0)
  r.1.journalSuspend who object r.2 2

/-- A fence reopens (R250). -/
def State.fenceReopen (s : State) (n : Nat) (who : Who) : State :=
  if s.fence n < 2 then s else (s.setFence n 0 (s.f F.NI_FENCE_STATUS_CAUSE n) who).openGates n

/-- FENCE_CLOSED: the drain completes and the NI becomes FENCED or DEAD (R246). -/
def State.fenceClosed (s : State) (n : Nat) : State :=
  if s.fence n = 1 && s.fenceDry n then s.fenceShut n false else s

/-- The drain limit of an NI's fence, in ticks. -/
def State.fenceLimitTicks (s : State) (n : Nat) : Nat := (s.ni n).fenceLimit * ticksPerUs

/-- A roving step pauses a rod that this NI serves: its drain limit holds its count (R252). -/
def State.drainHeld (s : State) (n : Nat) : Bool :=
  decide (n < 0x60) && s.repair.step.any fun st => st.frozenAt.isSome && (niRods n).contains st.logical

/-- The requester of a fence reports its drain limit in its own group (R247). -/
def State.drainReport (s : State) (n cause : Nat) : State :=
  match cause with
  | 1 => s.raise F.PWR_STATUS_DRAIN_LIMIT 0
  | 2 =>
    match s.cfg.spans.find? (fun d => d.nis.getLsbD n) with
    | some d => s.raise F.CFG_SPAN_STATUS_DRAIN_TIMEOUT d.id
    | none => s
  | _ => s

/-- The drain limit expires (R247); each requester reports it in its own group. -/
def State.drainLimit (s : State) (n : Nat) : State :=
  if s.fence n != 1 || (s.ni n).fenceLimit == 0 || s.drainHeld n then s
  else
    let s := s.advanceTo ((s.ni n).fenceFrom + BitVec.ofNat 64 (s.fenceLimitTicks n))
    (s.ni n).fenceAsked.foldl (fun s cause => s.drainReport n cause) (s.fenceShut n true)

-- ------------------------------------------------------------------ FENCE_CTRL

/-- The power region of an NI's unit is on (R12). -/
def State.niPowered (s : State) (n : Nat) : Bool :=
  if n < 0x60 then (s.word .PWR_REGION_STATUS 0).getLsbD (n % 32 / 4)
  else if n < 0x70 then (s.word .PWR_REGION_STATUS 0).getLsbD 8
  else if n < 0x90 then (s.word .PWR_QUAD_STATUS 0).getLsbD (n - 0x70)
  else if n < 0x94 then s.f F.PWR_STATE_STATUS_STATE 0 != 3
  else if n < 0x98 then (s.word .PWR_REGION_STATUS 0).getLsbD 10
  else if n = 0x98 then (s.word .PWR_REGION_STATUS 0).getLsbD 9
  else true

/-- The running image leaves a fabric NI unused (R17). -/
def State.niUnused (s : State) (n : Nat) : Bool :=
  decide (n < 0x60) && (!s.on F.DEV_STATUS_USER_MODE 0 || s.on F.DEV_STATUS_CONFIG_FAILED 0 || !s.net.used.getLsbD n)

/-- The span of an NI is not RUNNING. -/
def State.niSpanStopped (s : State) (n : Nat) : Bool :=
  decide (n < 0x60) && s.cfg.spans.any fun d => d.nis.getLsbD n && s.spanState d.id != 1

/-- A refused FENCE_CTRL write (R250, R251). -/
def State.fenceRefused (s : State) (n : Nat) (who : Who) (data : Word) : State :=
  (s.raise F.NI_FENCE_STATUS_REFUSED n).journalRefusal who .command .NI_FENCE_CTRL n data.toNat

/-- FENCE_CTRL.CLOSE written 1 (R245, R250). -/
def State.fenceClose (s : State) (n : Nat) (who : Who) (data : Word) : State :=
  if !niPresent s.part n then s
  else if 0x99 ≤ n then s.fenceRefused n who data
  else s.fenceDomain [n] (fun n => s.f F.NI_FENCE_CTRL_LIMIT n) 5 (0x50000000 + n) who

/-- FENCE_CTRL.OPEN written 1 (R250). -/
def State.fenceOpen (s : State) (n : Nat) (who : Who) (data : Word) : State :=
  if !niPresent s.part n || s.fence n == 0 then s
  else if !s.niPowered n || s.niSpanStopped n || s.niUnused n || s.fence n == 1 then s.fenceRefused n who data
  else s.fenceReopen n who

/-- NIs whose COMPAT may not be set (R251). -/
def compatBarred (n : Nat) : Bool := n == 0x90 || n == 0x91 || decide (0x99 ≤ n)

/-- A write of FENCE_CTRL (R245, R250, R251): the settings, then CLOSE, then OPEN. -/
def State.writeFenceCtrl (s : State) (who : Who) (n : Nat) (data : Word) : State :=
  if data.getLsbD 2 && compatBarred n then s.fenceRefused n who data
  else
    let before := s.on F.NI_FENCE_CTRL_COMPAT n
    let s := s.writeTyped who .NI_FENCE_CTRL n (data &&& 0xFFFFFFFC#32)
    let s := if before != s.on F.NI_FENCE_CTRL_COMPAT n && decide (2 ≤ s.fence n) then
        s.setFence n (s.closedState n) (s.f F.NI_FENCE_STATUS_CAUSE n) who
      else s
    let s := if data.getLsbD 0 then s.fenceClose n who data else s
    if data.getLsbD 1 then s.fenceOpen n who data else s

-- ------------------------------------------------------------------ the proxy (R248, R251)

/-- The router of an NI holds and grants no new header (R242, R244). -/
def State.routerHolds (s : State) (page : Nat) : Bool := decide (2 ≤ s.f F.CN_HOLD_STATUS_STATE page)

/-- The DEAD proxy (R251). -/
def State.proxyDead (s : State) (p : Packet) : State :=
  let s := s.bump F.NI_DEAD_CNT_PACKETS p.dest 1
  match p.cmd with
  | .rd | .fadd => s.respond p .rspData 0 0 (List.replicate (p.len + 1) 0xFF#8)
  | .wr => s.respond p .rspOk 0 0 []
  | _ => s

/-- The FENCED proxy (R248). -/
def State.proxyFenced (s : State) (p : Packet) : State :=
  let s := s.niLog p.dest 7 p.vn p.src p.tag p.cmd.code p.addr
  match p.cmd with
  | .rd | .wr | .fadd =>
    (s.bump F.NI_PROXY_CNT_ANSWERED p.dest 1).respond p .rspErr 2 (BitVec.ofNat 64 p.dest) []
  | .wrp => (s.bump F.NI_PROXY_CNT_DROPPED p.dest 1).dropReport p.dest 0x0101 p.src p.tag p.addr
  | _ => s.bump F.NI_PROXY_CNT_DROPPED p.dest 1

/-- A pseudo channel acts on q before p (R284, R331): they come from one source, and touch a common 64-byte block or p has no
enabled byte. -/
def mustPrecede (q p : Packet) : Bool :=
  q.src == p.src && ((p.cmd == Cmd.wr && noByte p) ||
    decide (q.addr / 64 ≤ (p.addr + p.len) / 64 ∧ p.addr / 64 ≤ (q.addr + q.len) / 64))

/-- The next packet that can come from a packet's source on its VN to the unit of its destination, or to the proxy of a closed
fence (R220, R259); a pseudo channel may take one before another (R331). -/
def State.firstArrived (s : State) (p : Packet) : Option (Packet × PacketEcc) :=
  let v := s.ni p.dest
  if hasCsf p.dest && decide (s.fence p.dest < 2) then
    (if (0x60 ≤ p.dest ∧ p.dest < 0x70) ∧ !(v.csf.down.takeWhile (·.1 != p)).any (fun q => mustPrecede q.1 p) then
      v.csf.down.find? (·.1 == p)
    else v.csf.down.head?)
  else v.arrived.find? fun q => q.1.src == p.src && q.1.vn == p.vn

/-- What the ECC found in a packet, when it is the next to come to its destination (R220, R222). -/
def State.landing (s : State) (p : Packet) : Option PacketEcc :=
  (s.firstArrived p).bind fun q => if q.1 = p then some q.2 else none

/-- A packet has left the network. -/
def State.landed (s : State) (p : Packet) : State :=
  if hasCsf p.dest && decide (s.fence p.dest < 2) then s.crossedDown p
  else s.setNi p.dest { s.ni p.dest with arrived := (s.ni p.dest).arrived.eraseP (·.1 == p) }

/-- The proxy of a closed fence acts on a packet that has come to its port (R248, R251); during its router's HOLD the packet
waits (R244). -/
def State.proxy (s : State) (p : Packet) : State :=
  if s.routerHolds (pageOfNi p.dest) || (s.landing p).isNone then s
  else
    match s.fence p.dest with
    | 2 => (s.landed p).proxyFenced p
    | 3 => (s.landed p).proxyDead p
    | _ => s

-- ------------------------------------------------------------------ arriving packets

/-- What becomes of a packet at its destination NI (R213, R222, R246, R289). -/
inductive Landing where
  /-- nothing more happens -/
  | gone
  /-- it passes to the unit -/
  | deliver
  /-- the data of a data response is poisoned: it passes as RSP_ERR POISON -/
  | poisoned
  deriving DecidableEq, Repr

/-- A packet dropped for its header, ECC or command (R222, R206). -/
def State.discardHeader (s : State) (p : Packet) : State :=
  let s := s.bump F.NI_DISCARD_HEADERS p.dest 1
  (s.raise F.NI_STATUS_HDR_DISCARD p.dest).niLog p.dest 3 p.vn p.src p.tag p.cmd.code p.addr

/-- A request or response whose data cannot be corrected (R222). -/
def State.poison (s : State) (p : Packet) : State :=
  let s := s.bump F.NI_ECC_CNT_POISONED p.dest 1
  (s.raise F.NI_STATUS_POISON p.dest).niLog p.dest 2 p.vn p.src p.tag p.cmd.code p.addr

/-- A request of a closed record (R289). -/
def State.lateRequest (s : State) (p : Packet) : Bool :=
  let d := (s.acts F.RECORD_NUMBER_CURRENT 0 + 65536 - p.record.toNat) % 65536
  (p.vn == 0 || p.cmd == Cmd.wrp) && p.attr.getLsbD 1 && !isResponse p.cmd && decide (1 ≤ d ∧ d ≤ 32767)

/-- The drop of a late packet (R289). -/
def State.dropLate (s : State) (p : Packet) : State :=
  let s := s.bump F.RECORD_LATE_CNT_UNITS p.dest (packetUnits p)
  let s := s.raise F.RECORD_STATUS_LATE 0
  if nonPosted p.cmd then s.respond p .rspErr 7 0xC502 [] else s

/-- The unit of a destination NI receives the next packet of a source and VN (R220, R222, R246, R248, R254, R289); one that
has not come to the NI, or that a draining fence holds, is not received. -/
def State.arrive (s : State) (p : Packet) : State × Landing :=
  match s.landing p with
  | none => (s, .gone)
  | some x =>
    if 2 ≤ s.fence p.dest then (s.proxy p, .gone)
    else if s.fence p.dest = 1 && !isResponse p.cmd && !hasCsf p.dest then (s, .gone)
    else
      let s := s.landed p
      let s := if 2 ≤ p.vn then s.statLatency p.dest p.vn (s.since32 p.injTime) else s
      match x with
      | .badHeader => (s.discardHeader p, .gone)
      | .badData =>
        match p.cmd with
        | .wr | .fadd => ((s.poison p).respond p .rspErr 3 0 [], .gone)
        | .wrp => ((s.poison p).dropReport p.dest 0x0102 p.src p.tag p.addr, .gone)
        | .rspData => (s.poison p, .poisoned)
        | _ => (s, .deliver)
      | x =>
        let s := match x with
          | .corrected k => s.bump F.NI_ECC_CNT_CORRECTED p.dest k
          | _ => s
        if s.lateRequest p then (s.dropLate p, .gone) else (s, .deliver)

/-- A packet on VN2 enters the U receive buffer, or finds no room and is dropped and reported (R236). -/
def State.enterU (s : State) (p : Packet) : State :=
  let v := s.ni p.dest
  let held := v.uq.foldl (fun acc q => acc + packetUnits q) 0
  if held + packetUnits p ≤ 16 then s.setNi p.dest { v with uq := v.uq ++ [p] }
  else
    let s := s.bump F.NI_U_STATUS_DROPS p.dest 1
    let s := (s.raise F.NI_STATUS_U_DROP p.dest).niLog p.dest 8 2 p.src p.tag p.cmd.code p.addr
    s.dropReport p.dest 0x0104 p.src p.tag p.addr

-- ------------------------------------------------------------------ regulators, tags, statistics

/-- A tag's quarantine ends 100 ms after it began (R224). -/
def State.quarantineExpire (s : State) (n tag : Nat) : State :=
  match (s.ni n).quarantine.find? (·.1 == tag) with
  | some (_, since) =>
    let s := s.advanceTo (since + BitVec.ofNat 64 (100000 * ticksPerUs))
    s.setNi n { s.ni n with quarantine := (s.ni n).quarantine.filter (·.1 != tag) }
  | none => s

/-- The registers a statistics CLEAR zeroes (R256). -/
def isStatistic : Reg → Bool
  | .NI_STAT_UNITS_LO | .NI_STAT_UNITS_HI | .NI_STAT_BYTES_LO | .NI_STAT_BYTES_HI | .NI_STAT_LAT_MAX | .NI_STAT_HIST =>
    true
  | _ => false

/-- The statistics of an NI return to 0 (R256). -/
def State.statClear (s : State) (n : Nat) : State :=
  s.resetRegs fun r i => isStatistic r && i / (if r = .NI_STAT_HIST then 64 else 4) == n

/-- A write of STAT_CTRL. -/
def State.writeStatCtrl (s : State) (who : Who) (n : Nat) (data : Word) : State :=
  let s := s.writeTyped who .NI_STAT_CTRL n data
  if data.getLsbD 2 then s.statClear n else s

-- ------------------------------------------------------------------ route tables (R216, R219)

/-- A refusal of an entry or a swap (R216, R219). -/
def State.routeRefused (s : State) (who : Who) (n cause entry page port : Nat) (r : Reg) (attempted : Nat) : State :=
  let s := s.raise F.NI_STATUS_RT_REFUSED n
  let s := s.setWord .NI_RT_STATUS n (BitVec.ofNat 32 (cause + 16 * entry + 4096 * page + 2 ^ 20 * port))
  s.journalRefusal who (if cause = 5 then .absent else .encoding) r n attempted

/-- RT_INDEX.ENTRY advances after an access to RT_DATA_HI, when AUTOINC is 1. -/
def State.rtAdvance (s : State) (n : Nat) : State :=
  if s.on F.NI_RT_INDEX_AUTOINC n then s.setF F.NI_RT_INDEX_ENTRY n ((s.f F.NI_RT_INDEX_ENTRY n + 1) % 256) else s

/-- The bank RT_DATA reaches: ACTIVE or SHADOW. -/
def State.rtBank (s : State) (n : Nat) : Nat :=
  if s.on F.NI_RT_INDEX_ACTIVE n then s.activeBank n else 1 - s.activeBank n

/-- A write of RT_DATA_LO waits for the write of RT_DATA_HI that commits it; with ACTIVE = 1 it is refused. -/
def State.routeLow (s : State) (who : Who) (n : Nat) (lo : Word) : State :=
  if s.on F.NI_RT_INDEX_ACTIVE n then
    (s.journalRefusal who .command .NI_RT_DATA_LO n lo.toNat).raise F.NI_STATUS_RT_REFUSED n
  else s.putLatches (Sparse.insert s.latches (regKey .NI_RT_DATA_LO n) lo)

/-- A write of RT_DATA_HI commits the entry to SHADOW (R216), with its CHANGE entry for what changed. The low half is the
one written since the last commit, or the entry's own. -/
def State.routeWrite (s : State) (who : Who) (n : Nat) (hi : Word) : State :=
  let d := s.f F.NI_RT_INDEX_ENTRY n
  let lo := match s.latches.find? (·.1 == regKey .NI_RT_DATA_LO n) with
    | some (_, v) => v
    | none => BitVec.ofNat 32 (s.entry n (1 - s.activeBank n) d).toNat
  let e := BitVec.ofNat 64 (lo.toNat + 2 ^ 32 * (hi.toNat % 2 ^ 20))
  if s.on F.NI_RT_INDEX_ACTIVE n then
    s.journalRefusal who .command .NI_RT_DATA_HI n hi.toNat |>.raise F.NI_STATUS_RT_REFUSED n
  else
    let cause := s.routeCause n d e
    if cause ≠ 0 then (s.routeRefused who n cause d 0 0 .NI_RT_DATA_HI hi.toNat).rtAdvance n
    else
      let old := s.entry n (1 - s.activeBank n) d
      let s := s.setEntry n (1 - s.activeBank n) d e
      let s := s.putLatches (Sparse.erase s.latches (regKey .NI_RT_DATA_LO n))
      let s := if old.toNat % 2 ^ 32 = e.toNat % 2 ^ 32 then s
        else s.journalChange who .NI_RT_DATA_LO n (BitVec.ofNat 32 old.toNat) lo
      let s := if old.toNat / 2 ^ 32 = e.toNat / 2 ^ 32 then s
        else s.journalChange who .NI_RT_DATA_HI n (BitVec.ofNat 32 (old.toNat / 2 ^ 32)) (BitVec.ofNat 32 (e.toNat / 2 ^ 32))
      s.rtAdvance n

/-- COPY: ACTIVE is copied into SHADOW (R214). -/
def State.routeCopy (s : State) (n : Nat) : State :=
  let a := s.activeBank n
  let v := s.ni n
  let kept := v.routes.filter fun kv => kv.1 / 256 != 1 - a
  let copied := (v.routes.filter fun kv => kv.1 / 256 == a).map fun kv => (256 * (1 - a) + kv.1 % 256, kv.2)
  s.setNi n { v with routes := if a = 0 then kept ++ copied else copied ++ kept }

/-- The banks are exchanged at an injection boundary, or the swap is refused by the U limit (R219, R232, R285). -/
def State.bankExchange (s : State) (n : Nat) (who : Who) : State :=
  if !s.on F.NI_RT_CTRL_SWAP n then s
  else
    let a := s.activeBank n
    let t := (s.setF F.NI_RT_CTRL_SWAP n 0).setF F.NI_RT_CTRL_BANK n (1 - a)
    match t.overLimit n with
    | some (d, page, port) =>
      (s.setF F.NI_RT_CTRL_SWAP n 0).routeRefused who n 9 d page port .NI_RT_CTRL 1
    | none =>
      let b := digestBody (s.bankDigest n a).toNat (s.bankDigest n (1 - a)).toNat
      let t := t.journal who.origin 0x0F n b
      let phase := t.f F.RECORD_STATUS_PHASE 0
      if (t.recordOf n).isSome && decide (2 ≤ phase ∧ phase ≤ 4) then
        (t.raise F.RECORD_STATUS_ORDER_RISK 0).journalEvent t.ownOrigin .RECORD_STATUS 0 0
      else t

/-- A swap request (R219): at once when the NI is not injecting a packet, otherwise at the boundary. -/
def State.swapRequest (s : State) (who : Who) (n : Nat) : State :=
  let s := s.raise F.NI_RT_CTRL_SWAP n
  if (s.ni n).injecting then s else s.bankExchange n who

/-- A write of RT_CTRL. -/
def State.writeRtCtrl (s : State) (who : Who) (n : Nat) (data : Word) : State :=
  let s := if data.getLsbD 2 then s.routeCopy n else s
  if data.getLsbD 0 then s.swapRequest who n else s

end Sys2Proof.Machine
end

