-- ==== Sys2Proof/Machine/Router.lean ====
section
/-! DEFINITION. Routers: units taken, checked and forwarded (R201, R203, R209 to R213, R223), wire repair (R202), ageing
(R211), HOLD and staged writes (R239 to R243). -/

namespace Sys2Proof.Machine

-- ------------------------------------------------------------------ link checks

/-- n units are counted as discarded by a router, with an error-log kind (R223, R253). -/
def State.cnDiscard (s : State) (page port vn kind : Nat) (p : Option Packet) : State :=
  let s := s.bump F.CN_CTRL_ERR_DISCARDED page 1
  s.cnLog page kind port vn ((p.map (·.src)).getD 0) ((p.map (·.dest)).getD 0)

/-- The field of LINK_PARGRP for group g. -/
def parityGroup : Nat → Fld
  | 0 => F.CN_LINK_PARGRP_GROUP_0
  | 1 => F.CN_LINK_PARGRP_GROUP_1
  | 2 => F.CN_LINK_PARGRP_GROUP_2
  | _ => F.CN_LINK_PARGRP_GROUP_3

/-- Parity group g of an input fails (R201, R202): THRESH failures within 1 ms mark the direction REMAP_PENDING. -/
def State.parityFault (s : State) (page port g : Nat) : State :=
  let i := linkInst page port
  let s := s.bump (parityGroup g) i 1
  let v := s.router page
  let key := 4 * port + g
  let recent := (Sparse.get [] v.parity key).filter fun t => decide (s.time.toNat < t.toNat + 1000 * ticksPerUs)
  let all := recent ++ [s.time]
  if max 1 (s.f F.CN_LINK_CFG_THRESH i) ≤ all.length then
    (s.setRouter page { v with parity := Sparse.set [] v.parity key [] }).raise F.CN_LINK_STATUS_REMAP_PENDING i
  else s.setRouter page { v with parity := Sparse.set [] v.parity key all }

/-- The parity check of a unit over the wires that changed on the link (R201). -/
def State.parityCheck (s : State) (page port vn : Nat) (flips : List Nat) : State :=
  match (List.range 4).filter (parityFails flips) with
  | [] => s
  | groups =>
    let s := groups.foldl (fun s g => s.parityFault page port g) s
    let s := s.bump F.CN_LINK_STATUS_PAR_ERR (linkInst page port) 1
    (s.raise F.CN_STATUS_PAR_ERR page).cnLog page 1 port vn 0 0

-- ------------------------------------------------------------------ a header's way (R213, R223)

/-- Where a router sends a header. -/
inductive Way where
  | out (port : Nat)
  /-- a CFG whose route ends here -/
  | consume
  | discard
  deriving DecidableEq, Repr

/-- Word i of a unit as a router reads it, unchecked. -/
def rawWord (u : FlowUnit) (i : Nat) : BitVec 64 := payloadWord u.payload i ^^^ BitVec.ofNat 64 (errorBits u.flips (64 * i) 64)

/-- SRC_NI and DEST_NI of a header (R205). -/
def unitSrc (u : FlowUnit) : Nat := headerField u.payload 0 48 8
/-- DEST_NI of a header. -/
def unitDest (u : FlowUnit) : Nat := headerField u.payload 0 56 8

/-- Word 0 of a header cannot be corrected (R205, R223). -/
def word0Bad (u : FlowUnit) : Bool := (wordFinding (wordError u 0)).1 == .uncorrectable

/-- The next hop of a header at the router of a page (R213, R202, R223). -/
def State.nextHop (s : State) (page : Nat) (u : FlowUnit) : Way :=
  let q := headerField u.payload 0 0 4
  let cfg := cmdOfCode ((rawWord u 1).toNat % 16) == Cmd.cfg
  let dest := unitDest u
  if word0Bad u then .discard
  else if q = 15 then
    if cfg then .consume
    else if niPresent s.part dest && pageOfNi dest == page && !s.outputDown page (slotOfNi dest) then .out (slotOfNi dest)
    else .discard
  else if s.outputDown page q then .discard
  else
    match portEnd s.part page q with
    | some (.ni n) => if n = dest ∧ !cfg ∧ niPresent s.part n then .out q else .discard
    | some (.node _) => .out q
    | none => .discard

/-- A header after a hop by a port that its route names (R213): ROUTE moves down by a nibble, with 0xF above. -/
def hopped (u : FlowUnit) : FlowUnit :=
  let w := (payloadWord u.payload 0).toNat
  if w % 16 = 15 then u
  else withWord0 u (BitVec.ofNat 64 (w % 2 ^ 48 / 16 + 15 * 2 ^ 44 + w / 2 ^ 48 * 2 ^ 48))

-- ------------------------------------------------------------------ buffers and credits (R209)

/-- The key of an input or output and a VN. -/
def openKey (port vn : Nat) : Nat := 4 * port + vn

/-- Units that the input buffer of a VN holds (R209). -/
def State.inputRoom (s : State) (page vn : Nat) : Nat :=
  match vn with
  | 0 => s.f F.CN_VC_SPLIT_VN0 page
  | 1 => s.f F.CN_VC_SPLIT_VN1 page
  | 2 => 16
  | _ => s.f F.CN_VC_SPLIT_VN3 page

/-- The units of a VN in the buffer of an input. -/
def unitsAt (v : RouterState) (port vn : Nat) : Nat := (v.waiting.filter fun u => u.1 == port && u.2.vn == vn).length

/-- The units of a VN on an output's link. -/
def unitsOn (v : RouterState) (out vn : Nat) : Nat := (v.sent.filter fun u => u.1 == out && u.2.vn == vn).length

/-- A router holds a credit for a VN at the far input of an output (R209). An NI takes every unit (assumption 193). -/
def State.credit (s : State) (page out vn : Nat) : Bool :=
  match portEnd s.part page out with
  | some (.node t) =>
    match returnPort s.part t page with
    | some q => decide (unitsAt (s.router t) q vn + unitsOn (s.router page) out vn < s.inputRoom t vn)
    | none => false
  | _ => true

/-- The output of the open packet of an input and VN: 15 discards it, 16 consumes it; none when no packet is open. -/
def openOf (v : RouterState) (port vn : Nat) : Option Nat :=
  (v.opened.find? (·.1 == openKey port vn)).map (·.2)

/-- An output carries a packet of this VN. -/
def outputBusy (v : RouterState) (out vn : Nat) : Bool :=
  v.opened.any fun kv => kv.2 == out && kv.1 % 4 == vn

/-- The open packet of an input and VN becomes what out says, or ends at its TAIL. -/
def State.setOpen (s : State) (page port vn out : Nat) (tail : Bool) : State :=
  let v := s.router page
  let k := openKey port vn
  s.setRouter page { v with
    opened := if tail then Sparse.erase v.opened k else Sparse.insert v.opened k out }

-- ------------------------------------------------------------------ which unit moves (R209, R210)

/-- The waiting units that stand first on their input and VN, oldest first. -/
def headsOf (seen : List Nat) : List (Nat × FlowUnit) → List (Nat × FlowUnit)
  | [] => []
  | u :: rest =>
    let k := openKey u.1 u.2.vn
    if seen.contains k then headsOf seen rest else u :: headsOf (k :: seen) rest

/-- The output that a unit at the head of its input wants, when it may move on it now: a data unit by the output its packet
holds, a header by one that its VN leaves free and that the router may grant (R209, R242). -/
def State.wants (s : State) (page : Nat) (u : Nat × FlowUnit) : Option Nat :=
  let v := s.router page
  let vn := u.2.vn
  let way := if u.2.head then
      match s.nextHop page u.2 with
      | .out q => if s.routerHolds page || outputBusy v q vn then none else some q
      | _ => none
    else (openOf v u.1 vn).filter (· < 15)
  way.filter fun q => s.credit page q vn

/-- A unit that needs no output moves at once: one that is discarded or consumed (R213, R223). -/
def State.wantsNone (s : State) (page : Nat) (u : Nat × FlowUnit) : Bool :=
  if u.2.head then
    match s.nextHop page u.2 with
    | .out _ => false
    | _ => true
  else (openOf (s.router page) u.1 u.2.vn).all (15 ≤ ·)

/-- How far input port lies after the last one granted, in a round of 16. -/
def turnAfter (v : RouterState) (out vn port : Nat) : Nat :=
  (port + 15 - Sparse.get 15 v.lastInput (openKey out vn)) % 16

/-- A unit goes before another of its VN (R210): the higher PRIO within VN0 and VN1, then the next input in turn. -/
def goesBefore (v : RouterState) (out : Nat) (a b : Nat × FlowUnit) : Bool :=
  let rank := fun (u : Nat × FlowUnit) => if u.2.vn < 2 then u.2.prio else 0
  decide (rank b < rank a) ||
    (rank a == rank b && decide (turnAfter v out a.2.vn a.1 < turnAfter v out b.2.vn b.1))

/-- The unit of a VN that an output takes from the candidates (R210). -/
def pickOf (v : RouterState) (out vn : Nat) (units : List (Nat × FlowUnit)) : Option (Nat × FlowUnit) :=
  (units.filter (·.2.vn == vn)).foldl
    (fun best u =>
      match best with
      | none => some u
      | some b => if goesBefore v out u b then some u else some b) none

/-- The weight of a VN (CN.ARB_WEIGHT). -/
def State.arbWeight (s : State) (page vn : Nat) : Nat :=
  match vn with
  | 0 => s.f F.CN_ARB_WEIGHT_W_VN0 page
  | 1 => s.f F.CN_ARB_WEIGHT_W_VN1 page
  | _ => s.f F.CN_ARB_WEIGHT_W_VN3 page

/-- The turns a VN has left on an output in the running round (R210, assumption 191). -/
def State.turnsLeft (s : State) (page out vn : Nat) : Nat :=
  Sparse.get 0 (s.router page).turns (openKey out vn)

/-- A VN takes a turn on an output; with none left for the candidates, every VN has its weight in turns anew. -/
def State.takeTurn (s : State) (page out vn : Nat) (renew : Bool) : State :=
  let s := if renew then
      [3, 1, 0].foldl
        (fun s n => s.setRouter page { s.router page with
          turns := Sparse.set 0 (s.router page).turns (openKey out n) (s.arbWeight page n) }) s
    else s
  s.setRouter page { s.router page with
    turns := Sparse.set 0 (s.router page).turns (openKey out vn) (s.turnsLeft page out vn - 1) }

/-- The unit that an output sends in its next link cycle (R210): VN2 first, else a VN that has a turn left, and the state
after the turn. -/
def State.arbitrate (s : State) (page out : Nat) (units : List (Nat × FlowUnit)) : Option ((Nat × FlowUnit) × State) :=
  let v := s.router page
  match pickOf v out 2 units with
  | some u => some (u, s)
  | none =>
    let ready := [3, 1, 0].filterMap (pickOf v out · units)
    match ready.find? fun u => decide (0 < s.turnsLeft page out u.2.vn) with
    | some u => some (u, s.takeTurn page out u.2.vn false)
    | none => ready.head?.map fun u => (u, s.takeTurn page out u.2.vn true)

/-- The unit of a router that moves next, when one can, and the state after its turn. -/
def State.nextUnit (s : State) (page : Nat) : Option ((Nat × FlowUnit) × State) :=
  let heads := headsOf [] (s.router page).waiting
  match heads.find? (s.wantsNone page) with
  | some u => some (u, s)
  | none => (List.range 15).findSome? fun q => s.arbitrate page q (heads.filter fun u => s.wants page u == some q)

-- ------------------------------------------------------------------ units at their NI (R222, R223)

/-- Orphan data units, or a short packet, at an NI (R223). -/
def State.niOrphan (s : State) (n vn : Nat) : State := (s.bump F.NI_DISCARD_ORPHANS n 1).niLog n 4 vn 0 0 0 0

/-- The units of a VN that an NI is collecting. -/
def State.setRx (s : State) (n vn : Nat) (us : List FlowUnit) : State :=
  s.setNi n { s.ni n with rx := Sparse.set [] (s.ni n).rx vn us }

/-- The TAIL of a packet has come (R206, R222, R223): a short packet, one whose header cannot be corrected and one with a
reserved command are discarded; any other has arrived. -/
def State.packetWhole (s : State) (n : Nat) (us : List FlowUnit) : State :=
  let p := packetOf us
  match eccOf us with
  | .badHeader => s.discardHeader { p with dest := n }
  | ecc =>
    if us.length ≠ packetUnits p then s.niOrphan n p.vn
    else
      match p.cmd with
      | .reserved _ => s.discardHeader { p with dest := n }
      | _ => s.setNi n { s.ni n with arrived := (s.ni n).arrived ++ [(p, ecc)] }

/-- A unit reaches its NI (R222, R223). -/
def State.niReceive (s : State) (n : Nat) (u : FlowUnit) : State :=
  let open_ := Sparse.get [] (s.ni n).rx u.vn
  if !u.head && open_.isEmpty then s.niOrphan n u.vn
  else
    let s := if u.head && !open_.isEmpty then s.niOrphan n u.vn else s
    let us := if u.head then [u] else open_ ++ [u]
    if u.tail then (s.setRx n u.vn []).packetWhole n us else s.setRx n u.vn us

/-- A CFG ends at a router (R213, R218); one whose header cannot be corrected is discarded there (R222, R223). -/
def State.consumeUnit (s : State) (page port : Nat) (u : FlowUnit) : State :=
  match eccOf [u] with
  | .badHeader => s.cnDiscard page port u.vn 4 none
  | _ => s.setRouter page { s.router page with consumed := (s.router page).consumed ++ [packetOf [u]] }

-- ------------------------------------------------------------------ movement (R209, R213, R223)

/-- A unit goes out on a port, to the link or to the NI there. -/
def State.emitUnit (s : State) (page out : Nat) (u : FlowUnit) : State :=
  match portEnd s.part page out with
  | some (.node _) => s.setRouter page { s.router page with sent := (s.router page).sent ++ [(out, u)] }
  | some (.ni n) => s.niReceive n u
  | none => s

/-- A header moves by its way. -/
def State.moveHeader (s : State) (page port : Nat) (u : FlowUnit) : State :=
  match s.nextHop page u with
  | .consume => (s.consumeUnit page port u).setOpen page port u.vn 16 u.tail
  | .discard =>
    let s := s.bump F.CN_CTRL_ERR_DISCARDED page 1
    let s := if word0Bad u then (s.raise F.CN_STATUS_WORD0_UNCORR page).cnLog page 3 port u.vn 0 0
      else (s.raise F.CN_STATUS_MISROUTE page).cnLog page 4 port u.vn (unitSrc u) (unitDest u)
    s.setOpen page port u.vn 15 u.tail
  | .out q =>
    let v := s.router page
    let s := s.setRouter page { v with lastInput := Sparse.set 15 v.lastInput (openKey q u.vn) port }
    (s.emitUnit page q (hopped u)).setOpen page port u.vn q u.tail

/-- A data unit follows its header; without one it is discarded and counted (R223). -/
def State.moveData (s : State) (page port : Nat) (u : FlowUnit) : State :=
  match openOf (s.router page) port u.vn with
  | none => s.cnDiscard page port u.vn 5 none
  | some q => (if q < 15 then s.emitUnit page q u else s).setOpen page port u.vn q u.tail

/-- One unit leaves its input buffer. -/
def State.moveUnit (s : State) (page : Nat) (u : Nat × FlowUnit) : State :=
  let s := s.setRouter page { s.router page with waiting := (s.router page).waiting.erase u }
  if u.2.head then s.moveHeader page u.1 u.2 else s.moveData page u.1 u.2

/-- The router that feeds an input of another. -/
def feederOf (p : Part) (page port : Nat) : List Nat :=
  match portEnd p page port with
  | some (.node t) => [t]
  | _ => []

/-- The routers of a list, and those that their movement gives credits to, move what they can, for n turns. -/
def State.flow (s : State) : Nat → List Nat → State
  | _, [] => s
  | 0, _ => s
  | n + 1, page :: rest =>
    match s.nextUnit page with
    | some (u, t) => (t.moveUnit page u).flow n (page :: rest ++ feederOf s.part page u.1)
    | none => s.flow n rest

/-- Every unit that can move does, beginning at the router of a page: each movement takes one turn, and each router that
stands still one. -/
def State.forwardAll (s : State) (page : Nat) : State :=
  s.flow (2 * (s.net.routers.map fun kv => kv.2.waiting.length).sum + 2) [page]

-- ------------------------------------------------------------------ receipt (R201, R203, R205, R223)

/-- The next unit on the link into an input, and the state without it: the first that the far router has sent, or the first
that the NI there has injected on a VN with room (R209). -/
def State.takeFromLink (s : State) (page port : Nat) : Option (FlowUnit × State) :=
  match portEnd s.part page port with
  | some (.node t) =>
    (returnPort s.part t page).bind fun q =>
      let v := s.router t
      (v.sent.find? (·.1 == q)).map fun u => (u.2, s.setRouter t { v with sent := v.sent.erase u })
  | some (.ni n) =>
    let v := s.ni n
    (v.out.find? fun u => decide (unitsAt (s.router page) port u.vn < s.inputRoom page u.vn)).map fun u =>
      (u, s.setNi n { v with out := v.out.erase u })
  | none => none

/-- What waits on an input and VN after its last HEAD, that HEAD included, when the packet has no TAIL yet. -/
def unfinished (v : RouterState) (port vn : Nat) : List FlowUnit :=
  ((v.waiting.filter fun u => u.1 == port && u.2.vn == vn).map (·.2)).foldl
    (fun acc u => if u.tail then [] else if u.head then [u] else acc ++ [u]) []

/-- The packet before a HEAD has no TAIL (R223): what the router still has of it is discarded, and it is counted. -/
def State.endShort (s : State) (page port vn : Nat) : State :=
  let v := s.router page
  let lost := unfinished v port vn
  let last := (v.waiting.filter fun u => u.1 == port && u.2.vn == vn).getLast?
  let cut := match last with
    | some u => !u.2.tail
    | none => (openOf v port vn).isSome
  if !cut then s
  else
    let s := s.cnDiscard page port vn 5 none
    let s := s.setRouter page { v with waiting := lost.foldl (fun w u => w.erase (port, u)) v.waiting }
    if lost.any (·.head) then s else s.setOpen page port vn 15 true

/-- A unit enters the buffer of an input (R205, R223): word 0 of a header is corrected and written anew. -/
def State.buffer (s : State) (page port : Nat) (u : FlowUnit) : State :=
  let s := if u.head then s.endShort page port u.vn else s
  let found := wordFinding (wordError u 0)
  let s := if u.head && found.1 == .corrected then s.bump F.CN_CTRL_ERR_CORRECTED page 1 else s
  let u := if u.head && found.1 != .uncorrectable then withWord0 u (payloadWord u.payload 0 ^^^ found.2) else u
  s.setRouter page { s.router page with waiting := (s.router page).waiting ++ [(port, u)] }

/-- A router takes the next unit on the link into an input, on which some of wires 0 to 591 changed (R201, R203, R209). -/
def State.unitReceive (s : State) (page port : Nat) (flips : List Nat) : State :=
  if !pagePresent s.part page then s
  else
    match s.takeFromLink page port with
    | none => s
    | some (u, s) =>
      let s := s.parityCheck page port u.vn flips
      let found := controlFinding flips
      let s := match found.1 with
        | .uncorrectable => (s.cnDiscard page port u.vn 2 none).raise F.CN_STATUS_CTRL_UNCORR page
        | .corrected => (s.bump F.CN_CTRL_ERR_CORRECTED page 1).buffer page port (controlled (changedOn u flips) found.2)
        | .clean => s.buffer page port (changedOn u flips)
      s.flow (2 * (s.net.routers.map fun kv => kv.2.waiting.length).sum + 3) (page :: feederOf s.part page port)

-- ------------------------------------------------------------------ wires (R202, R240)

/-- The spares in use on an input direction. -/
def State.sparesUsed (s : State) (page port : Nat) : List Nat :=
  (List.range 8).filter fun k => Sparse.get 0 (s.router page).spares (8 * port + k) != 0

/-- SPARES_USED and the degraded state follow the spares in use (R195, R202, R240). -/
def State.showSpares (s : State) (page port : Nat) : State :=
  let n := (s.sparesUsed page port).length
  let s := s.setF F.CN_LINK_STATUS_SPARES_USED (linkInst page port) n
  if 2 ≤ n then s.degrade else s

/-- A wire moves to a spare (R202, R240): LINK_MAP shows it, and the ledger records the repair. -/
def State.mapWire (s : State) (page port wire spare : Nat) (origin : BitVec 8) : State :=
  let v := s.router page
  let s := s.setRouter page { v with spares := Sparse.insert v.spares (8 * port + spare) (wire + 1) }
  let i := linkInst page port
  let s := s.setWord .CN_LINK_MAP i (BitVec.ofNat 32 (wire + 1024 * spare + 2 ^ 31))
  let s := s.journal origin 0x07 5 ⟨0x30000000 + i, wire, spare, 0⟩
  s.showSpares page port

/-- The fault of a REMAP_PENDING direction is located (R202): no wire, or a wire that moves to the lowest free spare, or
a ninth wire that makes the direction FAILED. -/
def State.wireRemap (s : State) (page port : Nat) (wire : Option Nat) : State :=
  let i := linkInst page port
  if !s.on F.CN_LINK_STATUS_REMAP_PENDING i then s
  else
    let s := s.setF F.CN_LINK_STATUS_REMAP_PENDING i 0
    match wire with
    | none => s
    | some w =>
      match (List.range 8).find? fun k => !(s.sparesUsed page port).contains k with
      | some spare => (s.mapWire page port (w % 592) spare 0x31).raise F.CN_STATUS_REMAP page
      | none =>
        let s := s.raise F.CN_LINK_STATUS_FAILED i
        (s.raise F.CN_STATUS_LINK_DOWN page).cnLog page 6 port 0 0 0

-- ------------------------------------------------------------------ ageing (R211)

/-- The first unit of a list that waits on an input and VN, one level higher. -/
def promoteFirst (port vn : Nat) : List (Nat × FlowUnit) → List (Nat × FlowUnit)
  | [] => []
  | u :: rest =>
    if u.1 = port ∧ u.2.vn = vn then (u.1, { u.2 with prio := u.2.prio + 1, aged := true }) :: rest
    else u :: promoteFirst port vn rest

/-- A header that has waited THRESH cycles at the head of its input is promoted one level, up to P2 (R211). -/
def State.agePromote (s : State) (page port vn : Nat) : State :=
  let v := s.router page
  if s.f F.CN_AGE_CFG_THRESH page = 0 ∨ 2 ≤ vn then s
  else
    match v.waiting.find? fun u => u.1 == port && u.2.vn == vn with
    | some (_, u) =>
      if u.head && decide (u.prio < 2) then
        (s.setRouter page { v with waiting := promoteFirst port vn v.waiting }).bump F.CN_AGED_PROMOTIONS page 1
      else s
    | none => s

-- ------------------------------------------------------------------ staged writes (R239, R240)

/-- Some ACTIVE entry of some NI uses an output (R239). -/
def State.outputUsed (s : State) (page port : Nat) : Bool :=
  (List.range 0x9D).any fun n =>
    niPresent s.part n && (List.range 0x9D).any fun d =>
      let e := s.activeEntry n d
      entryValid e &&
        match walk s.part n (entryRoute e) with
        | some w => (outputsOf w d).contains (page, port)
        | none => false

/-- A staged write is refused whole (R239, R240). -/
def State.stagedBad (s : State) (page : Nat) (r : Reg) (data : Word) : Bool :=
  match r with
  | .CN_PORT_EN =>
    (List.range 15).any fun q => (s.word .CN_PORT_EN page).getLsbD q && !data.getLsbD q && s.outputUsed page q
  | .CN_VC_SPLIT =>
    let a := fieldOf data 0 6
    let b := fieldOf data 8 6
    let c := fieldOf data 16 6
    decide (a < 4 ∨ b < 4 ∨ c < 4 ∨ 48 < a + b + c)
  | .CN_ARB_WEIGHT => fieldOf data 0 4 == 0 || fieldOf data 8 4 == 0 || fieldOf data 16 4 == 0
  | .CN_SPARE_SET =>
    let port := fieldOf data 0 4
    let wire := fieldOf data 4 10
    let spare := fieldOf data 14 3
    let held := Sparse.get 0 (s.router page).spares (8 * port + spare)
    let carried := (List.range 8).any fun k => Sparse.get 0 (s.router page).spares (8 * port + k) == wire + 1
    (portEnd s.part page port).isNone || decide (591 < wire) ||
      (if data.getLsbD 17 then !carried else held != 0 && held != wire + 1)
  | _ => false

/-- STAGED shows whether writes wait for a HOLD. -/
def State.showStaged (s : State) (page : Nat) : State :=
  s.setF F.CN_STATUS_STAGED page (if (s.router page).staged.isEmpty then 0 else 1)

/-- A refused router write (R239, R243). -/
def State.cnRefused (s : State) (who : Who) (page : Nat) (r : Reg) (data : Word) : State :=
  (s.raise F.CN_STATUS_CMD_REFUSED page).journalRefusal who (if r = .CN_PORT_EN then .command else .encoding) r page
    data.toNat

/-- A write of a staged register is held for the next HOLD, replacing an earlier one, or refused (R239, R240). -/
def State.stagedWrite (s : State) (who : Who) (page : Nat) (r : Reg) (data : Word) : State :=
  if !pagePresent s.part page then s
  else if s.stagedBad page r data then s.cnRefused who page r data
  else
    let v := s.router page
    let others := v.staged.filter fun x => x.reg != r
    (s.setRouter page { v with staged := others ++ [⟨r, page, data, who⟩] }).showStaged page

/-- The registers a HOLD applies (R239). -/
def isStaged : Reg → Bool
  | .CN_PORT_EN | .CN_VC_SPLIT | .CN_ARB_WEIGHT | .CN_SPARE_SET => true
  | _ => false

/-- A staged spare mapping is applied at both ends (R240, R241). -/
def State.applySpare (s : State) (x : Staged) : State :=
  let port := fieldOf x.value 0 4
  let wire := fieldOf x.value 4 10
  let spare := fieldOf x.value 14 3
  let page := x.inst
  let s := s.storeWord x.who .CN_SPARE_SET page (x.value &&& 0x7FFFFFFF#32)
  if !x.value.getLsbD 31 then s
  else if x.value.getLsbD 17 then
    let v := s.router page
    let s := s.setRouter page { v with
      spares := v.spares.filter fun kv => !(kv.1 / 8 == port && kv.2 == wire + 1) }
    s.showSpares page port
  else s.mapWire page port wire spare x.who.origin

/-- One staged write is applied, with its CHANGE entry (R239, R241 step 5). -/
def State.applyStaged (s : State) (x : Staged) : State :=
  if x.reg = .CN_SPARE_SET then s.applySpare x
  else
    let fields := (regSpec x.reg).fields
    s.storeWord x.who x.reg x.inst (writeFields (fun _ => true) fields (s.word x.reg x.inst) x.value)

-- ------------------------------------------------------------------ HOLD (R241 to R244)

/-- The key under which a router's HOLD closes gates. -/
def holdCause (page : Nat) : Nat := 256 + page

/-- A HOLD begins (R241 steps 1 to 3): gates close, and the router grants no new header. -/
def State.holdBegin (s : State) (who : Who) (page : Nat) : State :=
  if s.on F.CN_HOLD_CTRL_REQ page then s
  else
    let s := s.raise F.CN_HOLD_CTRL_REQ page
    let s := s.setF F.CN_HOLD_STATUS_STATE page 1
    let r := s.closeGates (holdCause page) fun _ _ outs => outs.any (·.1 == page)
    let s := r.1.journalSuspend who (0x40000000 + page) r.2 1
    let s := s.setF F.CN_HOLD_STATUS_STATE page 2
    s.setRouter page { s.router page with holdFrom := s.time, holdWho := who }

/-- A write of HOLD_CTRL: a LIMIT outside 1 to 50 is refused whole. -/
def State.writeHoldCtrl (s : State) (who : Who) (page : Nat) (data : Word) : State :=
  let limit := fieldOf data 8 6
  if limit = 0 ∨ 50 < limit then s.cnRefused who page .CN_HOLD_CTRL data
  else
    let s := s.writeTyped who .CN_HOLD_CTRL page (data &&& 0xFFFFFFFE#32) (data &&& 1#32)
    if data.getLsbD 0 then s.holdBegin who page else s

/-- The router grants headers again, and the gates open 300 ticks later (R241 steps 6 and 7). -/
def State.holdEnd (s : State) (page : Nat) : State :=
  let s := s.setF F.CN_HOLD_STATUS_STATE page 0
  let s := s.setF F.CN_HOLD_CTRL_REQ page 0
  let s := s.setF F.CN_HOLD_LAST_NS page
    (min 65535 ((s.time.toNat - (s.router page).holdFrom.toNat) * 2 / 3))
  (s.openGates (holdCause page)).forwardAll page

/-- Every held packet has reached its TAIL: the staged writes are applied together (R241 steps 5 and 6). -/
def State.holdDone (s : State) (page : Nat) : State :=
  if s.f F.CN_HOLD_STATUS_STATE page != 2 || (s.router page).opened.any (·.2 < 15) then s
  else
    let s := s.setF F.CN_HOLD_STATUS_STATE page 3
    let staged := (s.router page).staged
    let s := s.setRouter page { s.router page with staged := [] }
    let s := (staged.foldl State.applyStaged s).showStaged page
    (s.count F.CN_HOLD_STATUS_COUNT page).holdEnd page

/-- The drain has not ended within LIMIT (R243): nothing is applied and every staged write stays staged. -/
def State.holdFail (s : State) (page : Nat) : State :=
  if s.f F.CN_HOLD_STATUS_STATE page != 2 then s
  else
    let limit := s.f F.CN_HOLD_CTRL_LIMIT page * ticksPerUs
    let s := s.advanceTo ((s.router page).holdFrom + BitVec.ofNat 64 limit)
    let who := (s.router page).holdWho
    let s := s.holdEnd page
    let s := s.raise F.CN_HOLD_STATUS_FAILED page
    let s := s.raise F.CN_STATUS_CMD_REFUSED page
    let s := s.cnLog page 7 0 0 0 0
    s.journalRefusal who .command .CN_HOLD_CTRL page 1

end Sys2Proof.Machine
end

