-- ==== Sys2Proof/Machine/Crossing.lean ====
section
/-! DEFINITION. Crossing stations (R258 to R269): the state of each station, resynchronization, and stopped clocks. A
station is named by the index of DEV.XS_STATE: the NI number, 0xA0 for the ICP, 0xA1 for the fabric event channel. -/

namespace Sys2Proof.Machine

/-- The index names a station of this variant (R21). -/
def stationPresent (p : Part) (i : Nat) : Bool := i == 0xA0 || i == 0xA1 || niPresent p i

/-- n entries of a station are discarded (R260, R265). -/
def State.stationDiscard (s : State) (i n : Nat) : State :=
  if n = 0 then s else (s.bump F.DEV_XS_CNT_DISCARDED i n).raise F.DEV_XS_STATUS_DISCARD 0

/-- A CS-H that carries nothing. -/
def cshIdle : Csh := { running := false, waiting := 0 }

/-- The CS-H of a station's RESYNC_REQ. -/
def State.csh (s : State) (i : Nat) : Csh := Sparse.get cshIdle s.dev.controls i

/-- The state with that CS-H replaced. -/
def State.setCsh (s : State) (i : Nat) (c : Csh) : State :=
  s.putDev { s.dev with controls := Sparse.set cshIdle s.dev.controls i c }

/-- The pulses that a CS-H counts at its source (R262). -/
def cshMost : Nat := 255

/-- A pulse arrives at the source of a CS-H (R262): it is sent when no handshake runs, else it waits; one that finds 255
waiting is lost, and told. -/
def State.cshPulse (s : State) (i : Nat) : State :=
  let c := s.csh i
  if !c.running then s.setCsh i { c with running := true }
  else if c.waiting < cshMost then s.setCsh i { c with waiting := c.waiting + 1 }
  else s.raise F.DEV_XS_STATUS_LOST 0

/-- The handshake of a CS-H has ended, which delivered one pulse; the next that waits is sent (R262). -/
def State.cshDone (s : State) (i : Nat) : State :=
  let c := s.csh i
  s.setCsh i (if c.waiting = 0 then cshIdle else { c with waiting := c.waiting - 1 })

/-- A side whose fence is closed for power-off is parked (R266, R269). -/
def State.park (s : State) (i : Nat) : State :=
  if s.station i = 0 then s.setF F.DEV_XS_STATE_STATE i 2 else s

/-- Work already delivered across a station that enters ERROR (R267): requests are answered TARGET 0xC501. -/
def State.stationAnswers (s : State) (n : Nat) : State :=
  let v := s.ni n
  let s := s.setNi n (v.undelivered.answeredAll n)
  let s := s.bump F.DEV_XS_CNT_ERR_DROPS n (v.delivered.length + v.posted.length)
  let s := v.delivered.foldl (fun s d => s.respond d.packet .rspErr 7 0xC501 [] d.from') s
  (v.posted.filter fun p => nonPosted p.cmd).foldl (fun s p => s.respond p .rspErr 7 0xC501 []) s

/-- The unit side's own transactions, when the NI side has stopped (R267). -/
def State.stationOwn (s : State) (n : Nat) : State :=
  (s.ni n).outstanding.foldl (fun s t => s.endTxn n t .rspErr 7 0xC501 []) s

/-- A station enters ERROR (R267): flagged, logged when the log is free, recorded. -/
def State.stationError (s : State) (i side : Nat) (aon : Bool) : State :=
  if !stationPresent s.part i || !(s.station i == 0 || s.station i == 1) then s
  else
    let s := (s.setF F.DEV_XS_STATE_STATE i 3).setF F.DEV_XS_STATE_SIDE i side
    let s := s.raise F.DEV_XS_STATUS_ERROR 0
    let s := if s.on F.DEV_XS_LOG_VALID 0 then s
      else
        (s.setWord .DEV_XS_LOG 0
          (BitVec.ofNat 32 (i + 256 * side + (if aon then 1024 else 0) + 2 ^ 31))).setPair
            .DEV_XS_LOG_TIME_LO .DEV_XS_LOG_TIME_HI 0 s.now.toNat
    let s := s.journalEvent 0x30 .DEV_XS_STATUS 0 0
    if i < 0xA0 then
      let s := s.stationAnswers i
      if side = 2 ∨ side = 3 then s.stationOwn i else s
    else s

/-- The stations of the island on the unit side of station i, and its bit of XS_ISLAND_CLK (R257, R268). -/
def islandOf (i : Nat) : List Nat × Option Nat :=
  if 0x60 ≤ i ∧ i < 0x70 then ((List.range 16).map (0x60 + ·), some 1)
  else if i = 0x90 ∨ i = 0x91 then ([0x90, 0x91], some 2)
  else if 0x94 ≤ i ∧ i < 0x98 then ([0x94, 0x95, 0x96, 0x97], some 3)
  else if i = 0x98 then ([0x98], some 4)
  else if i = 0x99 ∨ i = 0xA0 then ([0x99, 0xA0], some 5)
  else ([i], none)

/-- A clock has stopped for a fault; clocks are named as in NetState.stopped (R268). -/
def State.clockStops (s : State) (clock : Nat) : State :=
  if s.net.stopped.contains clock then s else s.putNet { s.net with stopped := s.net.stopped ++ [clock] }

/-- A clock runs again. -/
def State.clockRuns (s : State) (clock : Nat) : State :=
  s.putNet { s.net with stopped := s.net.stopped.filter (· != clock) }

/-- Both clocks of a station run: a resync has passed between its sides (R260, assumption 203). -/
def State.clocksSeen (s : State) (i : Nat) : State :=
  let s := match (islandOf i).2 with
    | some b => s.clockRuns b
    | none => s
  let s := if 0x70 ≤ i ∧ i < 0x90 then s.clockRuns (16 + (i - 0x70)) else s
  if i < 0xA0 then s.clockRuns (256 + pageOfNi i) else s

/-- XS_ISLAND_CLK (R257, R268): a clock runs when its region is on and it has not stopped for a fault; the always-on domain
runs from its oscillator while the reference is absent (assumption 203). -/
def State.islandClocks (s : State) : Word :=
  let runs (b : Nat) (on : Bool) : Nat := if on && !s.net.stopped.contains b then 2 ^ b else 0
  let core := s.f F.PWR_STATE_STATUS_STATE 0 != 3
  if s.dev.porst then 0
  else
    BitVec.ofNat 32 ((if core && s.net.stopped.all (· < 256) then 1 else 0) +
      runs 1 (Part.hasHbm s.part && s.niPowered 0x60) + runs 2 core + runs 3 (s.niPowered 0x94) +
      runs 4 (Part.hasStore s.part && s.niPowered 0x98) + runs 5 core +
      (if s.on F.TBUS_REF_CTRL_REF_PRESENT 0 then 0 else 64))

/-- XS_QUAD_CLK: a quad's PLL clock runs while its PLL is locked, and has not stopped for a fault. -/
def State.quadClocks (s : State) : Word :=
  ((List.range 32).filter fun q => s.on F.LANE_QUAD_STATUS_PLL_LOCK q && !s.net.stopped.contains (16 + q)).foldl
    (fun w q => w ||| BitVec.ofNat 32 (2 ^ q)) 0

/-- The unit side's clock has stopped: every station of the island is in ERROR and its clock bit reads 0 (R268). -/
def State.islandStops (s : State) (i side : Nat) (aon : Bool) : State :=
  let (all, bit) := islandOf i
  let s := (i :: all.filter (· != i)).foldl (fun s k => s.stationError k side aon) s
  let s := match bit with
    | some b => s.clockStops b
    | none => s
  if 0x70 ≤ i ∧ i < 0x90 then s.clockStops (16 + (i - 0x70)) else s

/-- A router's clock has stopped: every station of its NIs is in ERROR, and its links are FAILED (R268). -/
def State.routerStops (s : State) (page side : Nat) (aon : Bool) : State :=
  let nis := (List.range 4).filterMap fun k => niOfSlot page k
  let s := nis.foldl (fun s n => s.stationError n side aon) s
  let s := s.clockStops (256 + page)
  (List.range 15).foldl
    (fun s q =>
      match portEnd s.part page q with
      | some (.node t) =>
        match returnPort s.part t page with
        | some b =>
          let s := s.raise F.CN_LINK_STATUS_FAILED (linkInst t b)
          let s := s.raise F.CN_LINK_STATUS_FAILED (linkInst page q)
          s.raise F.CN_STATUS_LINK_DOWN t
        | none => s
      | _ => s) s

/-- A heartbeat watch reaches TIMEOUT_US (R266 to R268): side names the side that stopped, 1 the unit or fabric side, 2
the NI side, 3 both. -/
def State.crossTimeout (s : State) (i side : Nat) (aon : Bool) : State :=
  if !stationPresent s.part i || s.station i == 2 || s.station i == 3 || side = 0 || 3 < side then s
  else
    let s := if side = 2 ∨ side = 3 then (if i < 0xA0 then s.routerStops (pageOfNi i) side aon else s.stationError i side aon) else s
    if side = 1 ∨ side = 3 then (if i < 0x60 ∨ i = 0xA1 then s.stationError i side aon else s.islandStops i side aon) else s

/-- A write of XS_CTRL: a TIMEOUT_US outside 1 to 1,000 is refused whole. -/
def State.writeXsCtrl (s : State) (who : Who) (data : Word) : State :=
  let t := fieldOf data 0 16
  if t = 0 ∨ 1000 < t then
    (s.raise F.DEV_XS_STATUS_REFUSED 0).journalRefusal who .encoding .DEV_XS_CTRL 0 data.toNat
  else s.writeTyped who .DEV_XS_CTRL 0 data

/-- What a request toward a unit finds at its station (R260, R267). -/
inductive StationGate where
  | passes | waits | errors
  deriving DecidableEq, Repr

/-- The station of NI n as a request toward its unit finds it. -/
def State.stationGate (s : State) (n : Nat) : StationGate :=
  match s.station n with
  | 0 => .passes
  | 3 => .errors
  | _ => .waits

/-- A request that meets a station in ERROR (R267). -/
def State.stationRefuses (s : State) (p : Packet) : State :=
  let s := s.bump F.DEV_XS_CNT_ERR_DROPS p.dest 1
  if nonPosted p.cmd then s.respond p .rspErr 7 0xC501 [] else s

end Sys2Proof.Machine
end

