-- ==== Sys2Proof/Machine/TimeBase.lean ====
section
/-! DEFINITION. The time base (R270 to R275, R281, R453) and software events (R276). The Beam's destinations are in
Machine/BeamAct.lean. -/

namespace Sys2Proof.Machine

-- ------------------------------------------------------------------ the reference (R271, R281, R453)

/-- LOCK and HOLDOVER. -/
def State.setLock (s : State) (lock : Bool) : State :=
  (s.setF F.TIME_STATUS_LOCK 0 (if lock then 1 else 0)).setF F.TIME_STATUS_HOLDOVER 0 (if lock then 0 else 1)

-- ------------------------------------------------------------------ the sync input (R272)

/-- LOAD as a 64-bit value. -/
def State.loadValue (s : State) : Nat := s.pair .TIME_LOAD_LO .TIME_LOAD_HI 0

/-- A sync edge loads TIME (R272): SYNC_LOADED, and the TIME_LOAD entry with the origin of the ARM that asked for it. -/
def State.syncLoad (s : State) : State :=
  let old := s.now
  let value := BitVec.ofNat 64 s.loadValue
  let s := (s.putTimeOffset (value - s.time)).putSyncRef (some value)
  let s := s.setF F.TIME_STATUS_SYNC_ARMED 0 0
  let s := s.raise F.TIME_STATUS_SYNC_LOADED 0
  s.journal s.syncArmer 0x0E 0 (digestBody old.toNat s.now.toNat)

/-- A sync edge is checked against the phase of the loading edge (R272). -/
def State.syncCheck (s : State) : State :=
  let period := max 1 (s.f F.TIME_SYNC_CTRL_PERIOD 0)
  match s.syncRef with
  | some value =>
    if s.on F.TIME_SYNC_CTRL_CHECK_EN 0 && s.now.toNat % period != value.toNat % period then
      s.raise F.TIME_STATUS_SYNC_SLIP 0
    else s
  | none => s

/-- A registered sync edge (R272, R276): it loads TIME when armed and checks the phase otherwise, its TIME is stored,
and source SYNC enters. -/
def State.syncEdge (s : State) : State :=
  let s := if s.on F.TIME_STATUS_SYNC_ARMED 0 then s.syncLoad else s.syncCheck
  let s := s.setPair .TIME_SYNC_LAST_LO .TIME_SYNC_LAST_HI 0 s.now.toNat
  s.enterBeam (.source 18) s.time

/-- A sync load cannot be armed: the record controller is not STOPPED or capture is not IDLE (R272). -/
def State.syncBarred (s : State) : Bool := s.funcState .record != 0 || s.f F.CFG_CAP_STATUS_STATE 0 != 0

/-- ARM (R272): refused unless the record controller is STOPPED and capture is IDLE. -/
def State.syncArm (s : State) (who : Who) : State :=
  if s.syncBarred then
    (s.raise F.TIME_STATUS_CMD_REFUSED 0).journalRefusal who .command .TIME_SYNC_CTRL 0 1
  else (s.raise F.TIME_STATUS_SYNC_ARMED 0).putSyncArmer who.origin

/-- A write of SYNC_CTRL. -/
def State.writeSyncCtrl (s : State) (who : Who) (data : Word) : State :=
  let sets := if s.syncBarred then 0 else data &&& 1#32
  let s := s.writeTyped who .TIME_SYNC_CTRL 0 (data &&& 0xFFFFFFFE#32) sets
  if data.getLsbD 0 then s.syncArm who else s

-- ------------------------------------------------------------------ compare units and timers (R274, R275)

/-- The low half of VAL that is in effect: a newly written one waits for the write of its high half (TIME.CMP_VAL). -/
def State.cmpVal (s : State) (n : Nat) : Nat :=
  match s.latches.find? (·.1 == regKey .TIME_CMP_VAL_LO n) with
  | some (_, lo) => lo.toNat + 2 ^ 32 * (s.word .TIME_CMP_VAL_HI n).toNat
  | none => s.pair .TIME_CMP_VAL_LO .TIME_CMP_VAL_HI n

/-- The written low half takes effect. -/
def State.cmpLoLanded (s : State) (n : Nat) : State :=
  s.putLatches (Sparse.erase s.latches (regKey .TIME_CMP_VAL_LO n))

/-- A write of CMP_VAL_LO: the value in effect keeps the old low half. -/
def State.writeCmpLo (s : State) (who : Who) (n : Nat) (data : Word) : State :=
  let key := regKey .TIME_CMP_VAL_LO n
  let s := if s.latches.any (·.1 == key) then s
    else s.putLatches (Sparse.insert s.latches key (s.word .TIME_CMP_VAL_LO n))
  s.writeTyped who .TIME_CMP_VAL_LO n data

/-- A write of CMP_VAL_HI: both halves take effect. -/
def State.writeCmpHi (s : State) (who : Who) (n : Nat) (data : Word) : State :=
  (s.cmpLoLanded n).writeTyped who .TIME_CMP_VAL_HI n data

/-- The TIME at which a compare unit fires for a value (R274). -/
def State.cmpThreshold (s : State) (n v : Nat) : Nat := if s.on F.TIME_CMP_CTRL_ADVANCE n then v - 9 else v

/-- The smallest whole number of periods, at least one, that takes a value's firing tick beyond TIME t (R274). -/
def periodsPast (threshold period t : Nat) : Nat := if t < threshold + period then 1 else (t - threshold) / period + 1

/-- A compare unit fires (R274): on the first tick at or past its value, or on the next tick when that is past. -/
def State.cmpFire (s : State) (n : Nat) : State :=
  if 8 ≤ n || !s.on F.TIME_CMP_CTRL_EN n then s
  else
    let v := s.cmpVal n
    let th := s.cmpThreshold n v
    let s := s.pass (if s.now.toNat < th then th - s.now.toNat else 1)
    let s := s.enterBeam (.source (52 + n)) s.time
    let s := s.raise F.TIME_CMP_CTRL_FIRED n
    let period := s.f F.TIME_CMP_PERIOD_TICKS n
    if period = 0 then s.setF F.TIME_CMP_CTRL_EN n 0
    else (s.cmpLoLanded n).setPair .TIME_CMP_VAL_LO .TIME_CMP_VAL_HI n ((v + period * periodsPast th period s.now.toNat) % 2 ^ 64)

/-- The ticks until a timer's phase comes round, at least one (R275). -/
def ticksToPhase (now period phase : Nat) : Nat :=
  let d := (phase + period - now % period) % period
  if d = 0 then period else d

/-- A timer's phase comes round (R275). -/
def State.timFire (s : State) (n : Nat) : State :=
  let period := max 1 (s.f F.TIME_TIM_PERIOD_TICKS n)
  let phase := s.f F.TIME_TIM_PHASE_TICKS n
  if 8 ≤ n || !s.on F.TIME_TIM_CTRL_EN n || decide (period ≤ phase) then s
  else
    let s := s.pass (ticksToPhase s.now.toNat period phase)
    let s := s.enterBeam (.source (44 + n)) s.time
    match s.f F.TIME_TIM_COUNT_EVENTS n with
    | 0 => s
    | k + 1 =>
      let s := s.setF F.TIME_TIM_COUNT_EVENTS n k
      if k = 0 then s.setF F.TIME_TIM_CTRL_EN n 0 else s

-- ------------------------------------------------------------------ software events and routes (R276, R279)

/-- A write of BEAM.SW_EVT (R276). -/
def State.swEvt (s : State) (data : Word) : State :=
  let s := if data.getLsbD 0 then s.enterNext (.source 60) else s
  if data.getLsbD 1 then s.enterNext (.source 61) else s

/-- A source or destination of a core the variant lacks (R279). -/
def beamCoreAbsent (p : Part) (src dest : Nat) : Bool :=
  (decide (40 ≤ src ∧ src < 44) && decide (Part.cores p ≤ src - 40)) ||
  (decide (39 ≤ dest ∧ dest < 43) && decide (Part.cores p ≤ dest - 39))

/-- A route breaks the rules of R279 whatever the map holds. -/
def routeBarred (p : Part) (src dest : Nat) : Bool :=
  dest == 38 || decide (43 ≤ dest) || src == 23 || ((src == 62 || src == 63) && (dest == 36 || dest == 37)) ||
  beamCoreAbsent p src dest

/-- A write of BEAM.ROUTE (R279). -/
def State.writeRoute (s : State) (who : Who) (d : Nat) (data : Word) : State :=
  let src := fieldOf data 0 6
  if s.on F.BEAM_ROUTE_FIXED d || routeBarred s.part src d then
    (s.raise F.TIME_STATUS_CMD_REFUSED 0).journalRefusal who
      (if beamCoreAbsent s.part src d then .absent else .encoding) .BEAM_ROUTE d data.toNat
  else s.writeTyped who .BEAM_ROUTE d data

end Sys2Proof.Machine
end

