-- ==== Sys2Proof/Machine/Hbm.lean ====
section
/-! DEFINITION. HBM (R330 to R343): the stack's bytes with ECC, requests, rings, temperature, scrubbing and row repair. -/

namespace Sys2Proof.Machine

-- ------------------------------------------------------------------ bytes

/-- The bytes of HBM: 16 GiB (R15). -/
def hbmSize : Nat := 0x400000000

/-- A byte of HBM. -/
def State.hbmByte (s : State) (a : Nat) : Byte := Sparse.get 0 s.hbm.bytes a

/-- The state with a byte of HBM replaced. -/
def State.setHbmByte (s : State) (a : Nat) (v : Byte) : State :=
  s.putHbm { s.hbm with bytes := Sparse.set 0 s.hbm.bytes a v }

/-- n bytes of HBM from address a. -/
def State.hbmRead (s : State) (a n : Nat) : List Byte := (List.range n).map fun i => s.hbmByte (a + i)

/-- Bytes written from address a on, where the enables say so. -/
def State.hbmWrite (s : State) (a : Nat) (data : List Byte) (on : Nat → Bool) : State :=
  (List.range data.length).foldl (fun s i => if on i then s.setHbmByte (a + i) (data.getD i 0) else s) s

/-- A word is uncorrectable or carries a poison code. -/
def State.hbmPoisoned (s : State) (w : Nat) : Bool := s.hbm.poisoned.contains w

/-- The words a range touches. -/
def wordsOf (a n : Nat) : List Nat := (List.range ((a + n + 7) / 8 - a / 8)).map (a / 8 + ·)

-- ------------------------------------------------------------------ ECC (R334, R336)

/-- A row is repaired (R336), or finds no spare. -/
def State.hbmRepair (s : State) (row : Nat) (spare : Bool) : State :=
  if spare then
    let s := s.putHbm { s.hbm with
      repaired := insertRod row s.hbm.repaired
      onceCorrected := s.hbm.onceCorrected.filter fun kv => kv.1 / 128 != row }
    (s.journal 0x31 0x07 6 ⟨0x30000000 + row, 0, 0, 0⟩).raise F.HBM_STATUS_ROW_REPAIR 0
  else (s.raise F.HBM_STATUS_REPAIR_FULL 0).degrade

/-- An uncorrectable word is read (R334). -/
def State.hbmUncorr (s : State) (p w : Nat) : State :=
  let s := s.bump F.HBM_PC_ECC_UNCORR p 1
  let s := s.setPair .HBM_PC_ERR_ADDR_LO .HBM_PC_ERR_ADDR_HI p (8 * w)
  s.raise F.HBM_STATUS_UNCORR 0

/-- The check of a word (R334, R336): a second correction of the same bit repairs the row, where its bank has a spare. -/
def State.hbmCheck (s : State) (p w : Nat) (x : EccFinding) (spare : Bool) : State :=
  match x with
  | .clean => s
  | .corrected bit =>
    let s := s.bump F.HBM_PC_ECC_CORRECTED p 1
    let seen := Sparse.get [] s.hbm.onceCorrected w
    if seen.contains bit then s.hbmRepair (w / 128) spare
    else s.putHbm { s.hbm with onceCorrected := Sparse.insert s.hbm.onceCorrected w (seen ++ [bit]) }
  | .uncorrectable flip =>
    let s := (List.range 8).foldl
      (fun s i => s.setHbmByte (8 * w + i) (s.hbmByte (8 * w + i) ^^^ BitVec.ofNat 8 (flip / 256 ^ i))) s
    (s.putHbm { s.hbm with poisoned := insertRod w s.hbm.poisoned })

/-- A write's effect on the poison of the words it touches: all 8 bytes store a clean word (R334). -/
def State.hbmClean (s : State) (a n : Nat) (on : Nat → Bool) : State :=
  let whole := fun (w : Nat) => (List.range 8).all fun i =>
    decide (a ≤ 8 * w + i ∧ 8 * w + i < a + n) && on (8 * w + i - a)
  (s.putHbm { s.hbm with
    poisoned := s.hbm.poisoned.filter fun w => !((wordsOf a n).contains w && whole w) })

-- ------------------------------------------------------------------ rings (R339 to R343)

/-- A ring's base and size in bytes. -/
def State.ringBase (s : State) (r : Nat) : Nat := s.pair .HBM_RING_BASE_LO .HBM_RING_BASE_HI r
/-- A ring's size in bytes. -/
def State.ringSize (s : State) (r : Nat) : Nat := 65536 * s.f F.HBM_RING_SIZE_UNITS r

/-- What a PC keeps for a ring that has taken nothing. -/
def ringPcInit : RingPc :=
  { last := none, next := none, bytes := 0, captured := false, capLast := none, capBytes := 0, capRecord := 0, owes := false }

/-- What PC p keeps for ring r. -/
def State.ringPc (s : State) (r p : Nat) : RingPc := Sparse.get ringPcInit s.hbm.rings (16 * r + p)

/-- The state with it replaced. -/
def State.setRingPc (s : State) (r p : Nat) (v : RingPc) : State :=
  s.putHbm { s.hbm with rings := Sparse.set ringPcInit s.hbm.rings (16 * r + p) v }

/-- Address a lies in enabled ring r. -/
def State.inRing (s : State) (r a : Nat) : Bool :=
  s.on F.HBM_RING_CTRL_EN r && decide (s.ringBase r ≤ a ∧ a < s.ringBase r + s.ringSize r)

/-- The enabled ring an address lies in. -/
def State.ringAt (s : State) (a : Nat) : Option Nat := (List.range 16).find? fun r => s.inRing r a

/-- A ring refuses writes at PC p: it is frozen, from its capture until REARM (R342). -/
def State.ringFrozen (s : State) (r p : Nat) : Bool :=
  s.on F.HBM_RING_CTRL_FREEZE r && (s.on F.HBM_RING_CTRL_FROZEN r || (s.ringPc r p).captured)

/-- The record that is closing, or the last that closed. -/
def State.closedRecord (s : State) : Nat :=
  let phase := s.f F.RECORD_STATUS_PHASE 0
  if phase = 3 ∨ phase = 4 then s.f F.RECORD_NUMBER_CURRENT 0 else s.f F.RECORD_NUMBER_LAST_CLOSED 0

/-- A write belongs to the record after the one whose close PC p has still to capture (R340). -/
def State.afterClose (s : State) (r p : Nat) (record : Option (BitVec 16)) : Bool :=
  s.on F.HBM_RING_CTRL_TAGGED r && (s.ringPc r p).owes && record != some (BitVec.ofNat 16 s.closedRecord)

/-- PC p takes a write into ring r (R340). -/
def State.ringTake (s : State) (r p a n bytes : Nat) (record : Option (BitVec 16)) : State :=
  let v := s.ringPc r p
  let mark := some (a + n - s.ringBase r, s.now)
  let v := if s.afterClose r p record then { v with next := mark, bytes := v.bytes + bytes }
    else { v with last := mark, bytes := v.bytes + bytes }
  let s := s.setRingPc r p v
  s.setPair .HBM_RING_REC_BYTES_LO .HBM_RING_REC_BYTES_HI r
    ((s.pair .HBM_RING_REC_BYTES_LO .HBM_RING_REC_BYTES_HI r + bytes) % 2 ^ 64)

/-- PC p captures its values for ring r, of a record (R341); a capture in progress takes in another (R343). -/
def State.ringCapturePc (s : State) (r p record : Nat) : State :=
  let v := s.ringPc r p
  if v.captured then s
  else s.setRingPc r p { v with captured := true, capLast := v.last, capBytes := v.bytes, capRecord := record }

/-- PC p captures for the close of a record (R341): the set of the next record then replaces the first (R340). -/
def State.ringClosePc (s : State) (r p record : Nat) : State :=
  let s := s.ringCapturePc r p record
  let v := s.ringPc r p
  s.setRingPc r p { v with last := if v.next.isSome then v.next else v.last, next := none, owes := false }

/-- The PC whose captured write is latest; ties go to the lower (R341). -/
def leadOf (vs : List (Nat × RingPc)) : Option (Nat × Nat × DWord) :=
  vs.foldl
    (fun best v =>
      match v.2.capLast, best with
      | none, b => b
      | some (e, t), none => some (v.1, e, t)
      | some (e, t), some b => if b.2.2.toNat < t.toNat then some (v.1, e, t) else some b) none

/-- All 16 PCs have captured: the controller sets the ring's captured values (R341). -/
def State.ringCaptured (s : State) (r : Nat) : State :=
  let vs := (List.range 16).map fun p => (p, s.ringPc r p)
  if !(vs.all (·.2.captured)) || 16 ≤ r then s
  else
    let fill := vs.foldl (fun acc v => acc + v.2.capBytes) 0
    let lead := leadOf vs
    let s := match lead with
      | some (_, e, t) =>
        (s.setPair .HBM_RING_CAP_END_LO .HBM_RING_CAP_END_HI r e).setPair .HBM_RING_CAP_TIME_LO .HBM_RING_CAP_TIME_HI r t.toNat
      | none => s
    let s := s.setPair .HBM_RING_CAP_FILL_LO .HBM_RING_CAP_FILL_HI r (fill % 2 ^ 64)
    let s := s.setF F.HBM_RING_CAP_INFO_RECORD r (s.ringPc r 0).capRecord
    let s := s.setF F.HBM_RING_CAP_INFO_LEAD r ((lead.map (·.1)).getD 0)
    let s := vs.foldl
      (fun s v =>
        let i := 16 * r + v.1
        let s := match v.2.capLast with
          | some (e, _) => (s.setF F.HBM_RING_PC_END_END i ((e + 63) / 64)).raise F.HBM_RING_PC_END_VALID i
          | none => s.setWord .HBM_RING_PC_END i 0
        s.setRingPc r v.1 { v.2 with captured := false }) s
    let s := s.setF F.HBM_RING_CTRL_CAPTURE r 0
    let s := s.raise F.HBM_RING_CTRL_CAPTURED r
    let s := if s.on F.HBM_RING_CTRL_FREEZE r then s.raise F.HBM_RING_CTRL_FROZEN r else s
    s.raise F.HBM_STATUS_CAPTURED 0

/-- Every PC captures ring r. -/
def State.ringCaptureAll (s : State) (r : Nat) : State :=
  (List.range 16).foldl (fun s p => s.ringCapturePc r p (s.f F.RECORD_NUMBER_CURRENT 0)) s

/-- CAPTURE: RING_CTRL.CAPTURE asks every PC to capture its ring values (R341). -/
def State.ringCapture (s : State) (r : Nat) : State :=
  if 16 ≤ r || !s.on F.HBM_RING_CTRL_EN r then s
  else (s.setF F.HBM_RING_CTRL_PARTIAL r 0 |>.raise F.HBM_RING_CTRL_CAPTURE r).ringCaptureAll r

/-- RING_CTRL.REARM ends a frozen ring's refusal of writes (R342). -/
def State.ringRearm (s : State) (r : Nat) : State :=
  if 16 ≤ r then s else (s.setF F.HBM_RING_CTRL_CAPTURED r 0).setF F.HBM_RING_CTRL_FROZEN r 0

/-- A ring's settings make a ring (R339). -/
def State.ringValid (s : State) (r : Nat) : Bool :=
  let units := s.f F.HBM_RING_SIZE_UNITS r
  decide (1 ≤ units ∧ units ≤ 262144) && s.ringBase r % 65536 == 0 && decide (s.ringBase r + s.ringSize r ≤ hbmSize)

/-- A ring overlaps another enabled ring (R339). -/
def State.ringOverlaps (s : State) (r : Nat) : Bool :=
  (List.range 16).any fun k => k != r && s.on F.HBM_RING_CTRL_EN k &&
    decide (s.ringBase r < s.ringBase k + s.ringSize k ∧ s.ringBase k < s.ringBase r + s.ringSize r)

/-- A refused HBM write (R339 and the HBM tables). -/
def State.hbmRefused (s : State) (who : Who) (r : Reg) (inst : Nat) (data : Word) : State :=
  (s.raise F.HBM_STATUS_CMD_REFUSED 0).journalRefusal who .encoding r inst data.toNat

/-- Writing EN clears the ring's state (R339). -/
def State.ringClear (s : State) (r : Nat) : State :=
  let s := (List.range 16).foldl (fun s p => s.setRingPc r p ringPcInit) s
  let s := (List.range 16).foldl (fun s p => s.setWord .HBM_RING_PC_END (16 * r + p) 0) s
  let s := s.setPair .HBM_RING_CAP_END_LO .HBM_RING_CAP_END_HI r 0
  let s := s.setPair .HBM_RING_CAP_TIME_LO .HBM_RING_CAP_TIME_HI r 0
  let s := s.setPair .HBM_RING_CAP_FILL_LO .HBM_RING_CAP_FILL_HI r 0
  let s := s.setWord .HBM_RING_CAP_INFO r 0
  let s := s.setPair .HBM_RING_REC_BYTES_LO .HBM_RING_REC_BYTES_HI r 0
  s.setWord .HBM_RING_CTRL r ((s.word .HBM_RING_CTRL r) &&& 0x7#32)

/-- A write of RING_CTRL (R339, R341, R342): the settings, then CAPTURE and REARM. -/
def State.writeRingCtrl (s : State) (who : Who) (r : Nat) (data : Word) : State :=
  let en := s.on F.HBM_RING_CTRL_EN r
  let retag := data.getLsbD 1 != s.on F.HBM_RING_CTRL_TAGGED r
  if (en && retag) || (data.getLsbD 0 && !en && (!s.ringValid r || s.ringOverlaps r)) then
    s.hbmRefused who .HBM_RING_CTRL r data
  else
    let s := s.writeTyped who .HBM_RING_CTRL r (data &&& 0x7#32)
    let s := if en != data.getLsbD 0 then s.ringClear r else s
    let s := if data.getLsbD 4 then s.ringRearm r else s
    if data.getLsbD 3 then s.ringCapture r else s

/-- A write of a ring's BASE or SIZE: refused while EN = 1 (R339). -/
def State.writeRingPlace (s : State) (who : Who) (r : Reg) (inst : Nat) (data : Word) : State :=
  if s.on F.HBM_RING_CTRL_EN inst then s.hbmRefused who r inst data else s.writeTyped who r inst data

/-- A write of HBM.CTRL: a THROTTLE_PCT outside 10 to 100 or a SCRUB_INTERVAL below 0x40 is refused whole. -/
def State.writeHbmCtrl (s : State) (who : Who) (data : Word) : State :=
  let pct := fieldOf data 8 7
  if pct < 10 ∨ 100 < pct ∨ fieldOf data 16 16 < 0x40 then s.hbmRefused who .HBM_CTRL 0 data
  else s.writeTyped who .HBM_CTRL 0 data

-- ------------------------------------------------------------------ requests (R206, R331, R334, R337, R342)

/-- The record a packet carries. -/
def recordOfPacket (p : Packet) : Option (BitVec 16) := if p.attr.getLsbD 1 then some p.record else none

/-- A write is taken by its PC (R331, R334, R340). -/
def State.hbmTake (s : State) (p : Packet) : State :=
  let on := fun i => packetEnables p i
  let s := (s.hbmWrite p.addr p.data on).hbmClean p.addr (p.len + 1) on
  match s.ringAt p.addr with
  | some r => s.ringTake r (hbmChannel p.addr) p.addr (p.len + 1) (packetBytes p) (recordOfPacket p)
  | none => s

/-- Some word of a range reads as uncorrectable. -/
def State.hbmBad (s : State) (a n : Nat) : List Nat := (wordsOf a n).filter fun w => s.hbmPoisoned w

/-- A read (R334): uncorrectable words are counted and the response carries poison. -/
def State.hbmServeRead (s : State) (p : Packet) : State :=
  let pc := hbmChannel p.addr
  let bad := s.hbmBad p.addr (p.len + 1)
  let s := bad.foldl (fun s w => s.hbmUncorr pc w) s
  let data := s.hbmRead p.addr (p.len + 1)
  s.respond p .rspData 0 0 data (poison := !bad.isEmpty)

/-- An atomic add (R206, R334). -/
def State.hbmServeFadd (s : State) (p : Packet) : State :=
  let n := p.len + 1
  if !(n == 4 || n == 8) || p.addr % n != 0 then (s.putFresh (s.fresh + 1)).respond p .rspErr 5 (Config.freeDWord s.fresh) []
  else
    let bad := s.hbmBad p.addr n
    if !bad.isEmpty then (bad.foldl (fun s w => s.hbmUncorr (hbmChannel p.addr) w) s).respond p .rspErr 3 0 []
    else
      let old := s.hbmRead p.addr n
      let s := s.hbmWrite p.addr (toBytes n ((fromBytes old + p.operand.toNat) % 256 ^ n)) fun _ => true
      s.respond p .rspData 0 0 old

/-- A request to HBM at its PC (R331, R334, R337, R342); m is what the access finds in one word. -/
def State.hbmServe (s : State) (p : Packet) (m : WordFinding) : State :=
  let pc := hbmChannel p.addr
  if s.hbm.level = 3 then
    (if p.cmd = .wrp then s.bump F.HBM_PC_DROP_CRIT pc 1 else s.respond p .rspErr 7 0xD001 [])
  else
    let s := s.hbmCheck pc (p.addr / 8 + m.word) m.found m.spare
    match p.cmd with
    | .rd => s.hbmServeRead p
    | .fadd => s.hbmServeFadd p
    | .wr | .wrp =>
      if (s.ringAt p.addr).any (fun r => s.ringFrozen r pc) then
        let s := s.raise F.HBM_STATUS_FROZEN_DROP 0
        if p.cmd = .wrp then s.bump F.HBM_PC_DROP_FROZEN pc 1 else s.respond p .rspErr 7 0xD002 []
      else
        let s := s.hbmTake p
        if p.cmd = .wr then s.respond p .rspOk 0 0 [] else s
    | _ => s

-- ------------------------------------------------------------------ initialization, temperature, scrubbing

/-- Initialization ends (R333): every word is zero with good check bits; channels the stack cannot repair are disabled,
their NIs fenced, and the device degraded. -/
def State.hbmInitDone (s : State) (failed : BitVec 8) : State :=
  if !Part.hasHbm s.part || !s.niPowered 0x60 || s.on F.HBM_STATUS_INIT_DONE 0 then s
  else
    let s := s.putHbm { s.hbm with poisoned := [], onceCorrected := [] }
    let s := s.setF F.HBM_STATUS_CH_FAILED 0 failed.toNat
    let s := if failed = 0 then s else
      let nis := (List.range 16).filterMap fun p => if failed.getLsbD (p / 2) then some (0x60 + p) else none
      (s.fenceDomain nis (fun _ => 0) 1 0x60000030 s.self).degrade
    let s := s.raise F.HBM_STATUS_INIT_DONE 0
    ((List.range 16).filter fun p => !failed.getLsbD (p / 2) && s.f F.NI_FENCE_STATUS_CAUSE (0x60 + p) == 1).foldl
      (fun s p => s.fenceReopen (0x60 + p) s.self) s

/-- The level of a temperature, with each threshold left 3 °C below (R337). -/
def hbmLevel (level t : Nat) : Nat :=
  let hit := fun (k thr : Nat) => decide (thr ≤ t) || (decide (k ≤ level) && decide (thr - 3 < t))
  if hit 3 105 then 3 else if hit 2 95 then 2 else if hit 1 85 then 1 else 0

/-- The controller reads the stack temperature (R337). -/
def State.hbmTemp (s : State) (t : Nat) : State :=
  if !Part.hasHbm s.part then s
  else
    let t := min t 255
    let old := s.hbm.level
    let lv := hbmLevel old t
    let s := s.putHbm { s.hbm with level := lv }
    let s := s.setF F.HBM_TEMP_NOW 0 t
    let s := s.setF F.HBM_TEMP_MAX 0 (max t (s.f F.HBM_TEMP_MAX 0))
    let s := s.setF F.HBM_STATUS_HOT 0 (if 1 ≤ lv then 1 else 0)
    let s := if 2 ≤ lv ∧ old < 2 then s.raise F.HBM_STATUS_THROTTLE 0 else s
    if lv = 3 ∧ old < 3 then (s.raise F.HBM_STATUS_CRIT 0).journalEvent s.ownOrigin .HBM_STATUS 0 0 else s

/-- The address of block b of pseudo channel p (R330). -/
def hbmBlockAddr (p b : Nat) : Nat := 65536 * (b / 64) + 4096 * p + 64 * (b % 64)

/-- A patrol scrub of one 64-byte block, SCRUB_INTERVAL ticks after the last (R335); in CRIT the stack only refreshes
(R337). -/
def State.patrolScrub (s : State) (p : Nat) (m : WordFinding) : State :=
  if 16 ≤ p || !Part.hasHbm s.part || !s.on F.HBM_CTRL_SCRUB_EN 0 || s.on F.HBM_STATUS_SELF_REFRESH 0 ||
      s.hbm.level == 3 then s
  else
    let s := s.advanceTo (Sparse.get 0 s.hbm.scrubbedAt p + BitVec.ofNat 64 (s.f F.HBM_CTRL_SCRUB_INTERVAL 0))
    let b := Sparse.get 0 s.hbm.scrubAt p
    let a := hbmBlockAddr p b
    let s := s.hbmCheck p (a / 8 + m.word % 8) m.found m.spare
    let s := (s.hbmBad a 64).foldl (fun s w => s.hbmUncorr p w) s
    (s.putHbm { s.hbm with
      scrubAt := Sparse.set 0 s.hbm.scrubAt p ((b + 1) % 2 ^ 24)
      scrubbedAt := Sparse.set 0 s.hbm.scrubbedAt p s.time })

-- ------------------------------------------------------------------ the record (R340, R341, R343)

/-- The rings enabled with TAGGED as given. -/
def State.ringsTagged (s : State) (tagged : Bool) : List Nat :=
  (List.range 16).filter fun r => s.on F.HBM_RING_CTRL_EN r && s.on F.HBM_RING_CTRL_TAGGED r == tagged

/-- Every PC of ring r has the close of a record to capture; a second set that an earlier close left is now the first. -/
def State.ringOwes (s : State) (r : Nat) : State :=
  (List.range 16).foldl
    (fun s p =>
      let v := s.ringPc r p
      s.setRingPc r p { v with last := if v.next.isSome then v.next else v.last, next := none, owes := true }) s

/-- The close tick reaches the PCs: untagged rings capture, and tagged ones wait for the SINK notice (R341). -/
def State.hbmClose (s : State) : State :=
  let s := (s.ringsTagged true).foldl (fun s r => (s.setF F.HBM_RING_CTRL_PARTIAL r 0).ringOwes r) s
  (s.ringsTagged false).foldl (fun s r => (s.setF F.HBM_RING_CTRL_PARTIAL r 0).ringCaptureAll r) s

/-- The SINK notice reaches PC p: tagged rings capture (R341, R343). -/
def State.hbmSink (s : State) (p : Nat) : State :=
  (s.ringsTagged true).foldl (fun s r => s.ringClosePc r p s.closedRecord) s

/-- The TIMEOUT notice reaches PC p: it captures at once with what it holds (R343). -/
def State.hbmTimeout (s : State) (p : Nat) : State :=
  ((s.ringsTagged true).filter fun r => (s.ringPc r p).owes).foldl
    (fun s r => (s.ringClosePc r p s.closedRecord).raise F.HBM_RING_CTRL_PARTIAL r) s

/-- Entry to CLOSED: the record's byte counts are zeroed (R343). -/
def State.hbmClosed (s : State) : State :=
  (List.range 16).foldl (fun s r => s.setPair .HBM_RING_REC_BYTES_LO .HBM_RING_REC_BYTES_HI r 0) s

/-- PC p has had the SINK notice and has captured every enabled ring (R343): it holds no write back (assumption 208). -/
def State.hbmDrained (s : State) (p : Nat) : Bool :=
  s.record.sunk.contains (16 + p) && (s.ringsTagged true).all fun r => !(s.ringPc r p).owes

/-- HBM content is lost (R338): the stack reads as R333 leaves it once it is initialized again. -/
def State.hbmLost (s : State) : State :=
  (s.putHbm { s.hbm with bytes := [], poisoned := [], onceCorrected := [] }).setF F.HBM_STATUS_INIT_DONE 0 0

end Sys2Proof.Machine
end

