-- ==== Sys2Proof/Machine/Store.lean ====
section
/-! DEFINITION. The stream store (R344 to R355): drives, the volume, recording and playback channels, the catalogue. -/

namespace Sys2Proof.Machine

/-- A mebibyte: a stripe (R347). -/
def stripeBytes : Nat := 0x100000

-- ------------------------------------------------------------------ drives (R345, R346)

/-- A drive that is not there. -/
def driveInit : Drive := { linkUp := false, nsBytes := 0, header := none, entries := [], busy := none }

/-- Drives with their links down, and what stands on them (R354). -/
def unlinked (drives : Cells Drive) : Cells Drive :=
  (drives.map fun kv => (kv.1, { kv.2 with linkUp := false, busy := none })).filter fun kv => kv.2 != driveInit

/-- Drive d. -/
def State.drive (s : State) (d : Nat) : Drive := Sparse.get driveInit s.store.drives d

/-- The state with drive d replaced. -/
def State.setDrive (s : State) (d : Nat) (v : Drive) : State :=
  s.putStore { s.store with drives := Sparse.set driveInit s.store.drives d v }

/-- A drive's state: 0 ABSENT, 1 PRESENT, 2 ATTACHING, 3 READY, 4 FAILED. -/
def State.driveState (s : State) (d : Nat) : Nat := s.f F.STORE_DRV_STATUS_STATE d

/-- A drive changes state (R346): with a ledger entry of origin CFG_ENGINE. -/
def State.driveMove (s : State) (d st : Nat) : State :=
  (s.setF F.STORE_DRV_STATUS_STATE d st).journalEvent 0x30 .STORE_DRV_STATUS d 0

/-- The store is present, powered and can act. -/
def State.storeRuns (s : State) : Bool := Part.hasStore s.part

/-- A drive belongs to the mounted set. -/
def State.inMounted (s : State) (d : Nat) : Bool :=
  s.on F.STORE_STATUS_MOUNTED 0 && (s.word .STORE_CFG 0).getLsbD d

/-- A refused store command or setting. -/
def State.storeRefused (s : State) (who : Who) (r : Reg) (inst : Nat) (attempted : Nat) : State :=
  (s.raise F.STORE_STATUS_CMD_REFUSED 0).journalRefusal who .command r inst attempted

/-- A root port's link comes up (R346). -/
def State.driveLinkUp (s : State) (d : Nat) : State :=
  if !s.storeRuns || 8 ≤ d then s
  else
    let s := s.setDrive d { s.drive d with linkUp := true }
    if s.driveState d = 0 then s.driveMove d 1 else s

/-- Quad 24 + d is a running root port whose transmitters are allowed (R324, R345). -/
def State.rootPort (s : State) (d : Nat) : Bool :=
  s.funcState (.quad (24 + d)) == 1 && s.f F.LANE_QUAD_CFG_MODE (24 + d) == 4 &&
  s.f F.LANE_TX_GUARD_LANES_ALLOWED (24 + d) != 0

/-- STATUS.BUSY follows the commands that run: a FORMAT, a MOUNT or an ATTACH. -/
def State.storeBusy (s : State) : State :=
  let runs := s.store.command != 0 || (List.range 8).any fun d => s.driveState d == 2
  s.setF F.STORE_STATUS_BUSY 0 (if runs then 1 else 0)

/-- STORE.CMD ATTACH (R345). -/
def State.storeAttach (s : State) (who : Who) (d : Nat) : State :=
  if s.driveState d != 1 || !s.rootPort d then s.storeRefused who .STORE_CMD 0 (1 + 256 * d)
  else (s.driveMove d 2).storeBusy

/-- An attach completes or fails (R346); a drive that was not seen before brings what it holds. -/
def State.attachDone (s : State) (d : Nat) (x : AttachResult) : State :=
  if s.driveState d != 2 then s
  else State.storeBusy <|
    match x with
    | .ready gen width vwc lba bytes media =>
      let v := s.drive d
      let s := s.setDrive d
        { v with nsBytes := bytes, header := (media.map (·.header)).getD v.header, entries := (media.map (·.entries)).getD v.entries }
      let s := s.setF F.STORE_DRV_STATUS_GEN d gen
      let s := s.setF F.STORE_DRV_STATUS_WIDTH d width
      let s := s.setF F.STORE_DRV_STATUS_VWC d (if vwc then 1 else 0)
      let s := s.setF F.STORE_DRV_STATUS_LBA4K d (if lba then 1 else 0)
      let s := s.setF F.STORE_DRV_STATUS_FAIL_CAUSE d 0
      s.driveMove d 3
    | .failed cause => (s.setF F.STORE_DRV_STATUS_FAIL_CAUSE d cause).driveMove d 1

/-- STORE.CMD DETACH (R346, R355). -/
def State.storeDetach (s : State) (who : Who) (d : Nat) : State :=
  match s.driveState d with
  | 3 => if s.inMounted d then s.storeRefused who .STORE_CMD 0 (2 + 256 * d) else s.driveMove d 1
  | 4 =>
    if s.inMounted d && (List.range 8).any (fun c => s.funcState (.channel c) != 0) then s.storeRefused who .STORE_CMD 0 (2 + 256 * d)
    else s.driveMove d (if (s.drive d).linkUp then 1 else 0)
  | _ => s.storeRefused who .STORE_CMD 0 (2 + 256 * d)

-- ------------------------------------------------------------------ channels

/-- A channel that holds nothing. -/
def chanInit : Chan :=
  { prod := 0, issued := 0, cons := 0, tagged := none, cuts := [], short := 0, next := 0, recFirst := 0, recBase := 0
    recStripes := 0, holes := false, truncated := false, overwrote := false, play := none, zeroed := none }

/-- Channel c. -/
def State.chan (s : State) (c : Nat) : Chan := Sparse.get chanInit s.store.channels c

/-- The state with channel c replaced. -/
def State.setChan (s : State) (c : Nat) (v : Chan) : State :=
  s.putStore { s.store with channels := Sparse.set chanInit s.store.channels c v }

/-- A channel's ring in bytes. -/
def State.chanRing (s : State) (c : Nat) : Nat := max 1 (s.f F.STORE_CH_RING_SIZE_MIB c * stripeBytes)

/-- A channel plays back. -/
def State.chanPlays (s : State) (c : Nat) : Bool := s.on F.STORE_CH_CFG_DIR c

/-- Bytes are counted as lost (R350, R351, R354, R355). -/
def State.chanLost (s : State) (c n : Nat) : State :=
  if n = 0 then s else (s.bump F.STORE_CH_LOST_BYTES c n).raise F.STORE_CH_STATUS_LOST c

/-- The partition takes one more stripe: it wraps, or has one unwritten (R350). -/
def State.chanRoom (s : State) (c : Nat) : Bool :=
  s.on F.STORE_CH_CFG_WRAP c || decide ((s.chan c).next < s.f F.STORE_CH_PART_STRIPES_STRIPES c)

/-- The drives of CFG.DRIVES, and those of them that hold the catalogue (R347). -/
def State.volumeDrives (s : State) : List Nat := (List.range 8).filter fun d => (s.word .STORE_CFG 0).getLsbD d

/-- The drives that hold the catalogue (R347): drives 0 and 1, or drive 0 alone. -/
def State.catalogueDrives (s : State) : List Nat := s.volumeDrives.take 2

/-- The drive that holds unwrapped partition stripe j of a channel (R347, R350). -/
def State.stripeDrive (s : State) (c j : Nat) : Nat :=
  let ds := s.volumeDrives
  let g := s.f F.STORE_CH_PART_FIRST_STRIPES c + j % max 1 (s.f F.STORE_CH_PART_STRIPES_STRIPES c)
  ds.getD (g % max 1 ds.length) 0

/-- The unwrapped partition stripes of a channel that are issued and not complete, oldest first. -/
def State.chanPending (s : State) (c : Nat) : List Nat :=
  let v := s.chan c
  let up (n : Nat) : Nat := (n + stripeBytes - 1) / stripeBytes
  if s.chanPlays c then
    let first := (v.play.map (·.first)).getD 0 + v.prod / stripeBytes
    (List.range (up (v.issued - v.prod))).map (first + ·)
  else
    let k := up (v.issued - v.cons)
    (List.range k).map (v.next - k + ·)

/-- Some channel's stripe is with a drive. -/
def State.driveBusy (s : State) (d : Nat) : Bool :=
  (List.range 8).any fun c => s.funcState (.channel c) != 0 && (s.chanPending c).any fun j => s.stripeDrive c j == d

/-- Drives that have stripes to do count CMD_TIMEOUT from when they began, or from the last that completed (R346). -/
def State.drivesClock (s : State) (completed : Option Nat) : State :=
  s.volumeDrives.foldl
    (fun s d =>
      let v := s.drive d
      let since := if completed = some d then some s.time else v.busy.orElse fun _ => some s.time
      s.setDrive d { v with busy := if s.driveBusy d then since else none }) s

/-- The offset up to which stripes belong to the record that is being written: its close point, once known, else the latest
offset that it can have (R351). -/
def Chan.limit (v : Chan) : Nat :=
  match v.cuts with
  | m :: _ => m.cut.getD (m.tagged.getD m.held)
  | [] => v.prod

/-- The close point of the record that is being written, once a notice has named it (R351). -/
def Chan.cutAt (v : Chan) : Option Nat := v.cuts.head?.bind (·.cut)

/-- The store issues every stripe it can (R349, R350): full stripes that are published, and the last one of a cut
record, padded; a partition without room stops the channel at FULL. -/
def State.chanIssue (s : State) (c : Nat) : Nat → State
  | 0 => s
  | n + 1 =>
    let v := s.chan c
    let size := min stripeBytes (v.limit - v.issued)
    if size = 0 || (size < stripeBytes && v.cutAt.isNone) then s
    else if !s.chanRoom c then s.raise F.STORE_CH_STATUS_FULL c
    else
      let full := decide (s.f F.STORE_CH_PART_STRIPES_STRIPES c ≤ v.next)
      let s := s.setChan c
        { v with issued := v.issued + size, next := v.next + 1, recStripes := v.recStripes + 1
                 overwrote := v.overwrote || full }
      s.chanIssue c n

/-- Bytes up to the close point for which the partition has no room are discarded (R351). -/
def State.chanDiscard (s : State) (c : Nat) : State :=
  let v := s.chan c
  match v.cutAt with
  | some p =>
    if v.issued + v.short < p && !s.chanRoom c then
      (s.setChan c { v with short := p - v.issued, truncated := true }).chanLost c (p - v.issued - v.short)
    else s
  | none => s

/-- Every stripe that can be issued is: a ring holds at most 4,096 of them, and one more ends a cut. -/
def State.chanIssueAll (s : State) (c : Nat) : State :=
  if s.chanPlays c || s.funcState (.channel c) = 0 then s else ((s.chanIssue c 4097).chanDiscard c).drivesClock none

/-- The store publishes an offset: the register, and the mirror by a WRP (R349, R353). -/
def State.chanPublish (s : State) (c : Nat) (F' : Fld) (offset : Nat) : State :=
  let v := offset % s.chanRing c
  let s := s.setF F' c v
  let mirror := s.pair .STORE_CH_MIRROR_LO .STORE_CH_MIRROR_HI c % 2 ^ 48
  if mirror = 0 then s
  else s.request 0x98
    ⟨.wrp, mirror, 3, [], 0, toBytes 4 v, false, false, false, 0, .none⟩

/-- CH_PROD is written (R349): the offset just past the last published byte; tagged says whether the write carried
ATTR.REC, with its record. -/
def State.chanProd (s : State) (c offset : Nat) (record : Option (BitVec 16)) : State :=
  if s.chanPlays c || s.funcState (.channel c) != 1 then
    (if s.chanPlays c then s else s.setF F.STORE_CH_PROD_OFFSET c offset)
  else
    let ring := s.chanRing c
    let v := s.chan c
    let step := (offset % ring + ring - v.prod % ring) % ring
    let prod := v.prod + step
    let s := s.setF F.STORE_CH_PROD_OFFSET c offset
    let named (m : RecordCut) : Bool := m.cut.isNone && record == some (BitVec.ofNat 16 m.number)
    let v := { v with prod := prod }
    let v :=
      if v.cuts.any named then
        { v with cuts := v.cuts.map fun m => if named m then { m with tagged := some prod } else m }
      else if record.isSome then { v with tagged := some prod }
      else v
    (s.setChan c v).chanIssueAll c

/-- The bytes of a playback not yet asked of the drives, as the ring allows (R353). -/
def State.chanAhead (s : State) (c : Nat) : State :=
  let v := s.chan c
  match v.play with
  | some e =>
    let limit := min e.bytes (v.cons + s.chanRing c)
    let issued := if limit = e.bytes then limit else limit / stripeBytes * stripeBytes
    (s.setChan c { v with issued := max v.issued issued }).drivesClock none
  | none => s

/-- CH_CONS is written (R353): ring space of a playback is freed. -/
def State.chanCons (s : State) (c offset : Nat) : State :=
  if !s.chanPlays c then s
  else
    let s := s.setF F.STORE_CH_CONS_OFFSET c offset
    if s.funcState (.channel c) != 1 then s
    else
      let ring := s.chanRing c
      let v := s.chan c
      let step := (offset % ring + ring - v.cons % ring) % ring
      (s.setChan c { v with cons := min v.prod (v.cons + step) }).chanAhead c

/-- A playback at its BYTES stops by itself (R353). -/
def State.chanStopSelf (s : State) (c : Nat) : State :=
  (s.setFunc (.channel c) 0).setF F.STORE_CH_CTRL_RUN c 0

/-- A recorded stripe's commands complete (R349, R354): CONS advances, or the bytes of a stripe of a failed drive are
released as lost. -/
def State.stripeRecorded (s : State) (c : Nat) : State :=
  let v := s.chan c
  let size := min stripeBytes (v.issued - v.cons)
  if size = 0 then s
  else
    let d := s.stripeDrive c ((s.chanPending c).headD 0)
    let bad := s.driveState d == 4
    let s := (s.setChan c { v with cons := v.cons + size, holes := v.holes || bad }).drivesClock (some d)
    let s := if bad then (s.chanLost c size).raise F.STORE_CH_STATUS_HOLES c else
      s.setPair .STORE_CH_REC_BYTES_LO .STORE_CH_REC_BYTES_HI c
        ((s.pair .STORE_CH_REC_BYTES_LO .STORE_CH_REC_BYTES_HI c + size) % 2 ^ 64)
    s.chanPublish c F.STORE_CH_CONS_OFFSET (v.cons + size)

/-- A drive's memory writes are not all answered (R345). -/
def State.writesOut (s : State) (d : Nat) : Bool :=
  ((s.ni 0x98).outstanding.any fun t => t.use == .drive d && t.cmd == Cmd.wr) ||
  (s.ni 0x98).csf.up.any fun r => r.use == .drive d && r.cmd == Cmd.wr

/-- The store writes zeros for a stripe of a failed drive into a playback's ring, in requests of 4 KiB (R353). -/
def State.zeroStripe (s : State) (c d offset size : Nat) : State :=
  let base := s.pair .STORE_CH_RING_LO .STORE_CH_RING_HI c % 2 ^ 48 + offset % s.chanRing c
  (List.range ((size + 4095) / 4096)).foldl
    (fun s i =>
      let n := min 4096 (size - 4096 * i)
      s.request 0x98
        ⟨.wr, base + 4096 * i, n - 1, [], 0, List.replicate n 0, false, false, false, 0, .drive d⟩) s

/-- A played stripe's reads complete (R353), and its drive's writes have been answered (R345): PROD advances. A stripe of a
failed drive is a hole, and its zeros are written first. -/
def State.stripePlayed (s : State) (c : Nat) : State :=
  let v := s.chan c
  let size := min stripeBytes (v.issued - v.prod)
  let d := s.stripeDrive c ((s.chanPending c).headD 0)
  if size = 0 || s.writesOut d then s
  else if s.driveState d == 4 && v.zeroed != some v.prod then
    ((s.raise F.STORE_CH_STATUS_HOLES c).setChan c { v with zeroed := some v.prod }).zeroStripe c d v.prod size
  else
    let s := (s.setChan c { v with prod := v.prod + size, zeroed := none }).drivesClock (some d)
    let s := s.chanPublish c F.STORE_CH_PROD_OFFSET (v.prod + size)
    if v.play.any (fun e => decide (e.bytes ≤ v.prod + size)) then s.chanStopSelf c else s.chanAhead c

-- ------------------------------------------------------------------ the catalogue (R351, R352)

/-- The catalogue as the store reads it (R348): that of the first catalogue drive that is READY. -/
def State.catalogue (s : State) : List CatEntry :=
  match s.catalogueDrives.find? fun d => s.driveState d == 3 with
  | some d => (s.drive d).entries
  | none => []

/-- The first 60 bytes of a catalogue entry (R352). -/
def entryBytes (e : CatEntry) : List Byte :=
  toBytes 4 0x54414345 ++ toBytes 4 e.seq ++ toBytes 4 (e.record % 2 ^ 16 + 2 ^ 16 * (e.channel % 8) + 2 ^ 24 * e.flags) ++
  toBytes 4 e.failed ++ toBytes 8 e.first ++ toBytes 8 e.bytes ++ toBytes 8 e.startAt ++ toBytes 8 e.closeAt ++
  toBytes 4 e.stripes ++ List.replicate 8 0

/-- A catalogue entry as its 4 KiB block (R352). -/
def entryBlock (e : CatEntry) : List Byte :=
  entryBytes e ++ toBytes 4 (crcOfBytes (entryBytes e)).toNat ++ List.replicate 4032 0

/-- The first 4,092 bytes of a volume header (R347). -/
def headerBytes (h : VolumeHeader) : List Byte :=
  toBytes 4 0x54534F48 ++ toBytes 4 1 ++ toBytes 4 h.drives ++ toBytes 4 h.index ++ toBytes 8 h.stripes ++
  toBytes 8 h.volume.toNat ++ List.replicate 4060 0

/-- A volume header as its block (R347). -/
def headerBlock (h : VolumeHeader) : List Byte := headerBytes h ++ toBytes 4 (crcOfBytes (headerBytes h)).toNat

/-- The catalogue entry of a channel's record that ends at an offset (R352); bytes that found no room are not in it. -/
def State.catEntry (s : State) (c record startAt closeAt ends : Nat) (late : Bool) : CatEntry :=
  let v := s.chan c
  let failed := s.volumeDrives.foldl (fun acc d => if s.driveState d = 4 then acc + 2 ^ d else acc) 0
  { seq := (s.f F.STORE_CAT_SEQ_VALUE 0 + 1) % 2 ^ 32, record := record, channel := c
    flags := 1 + (if late then 2 else 0) + (if v.holes then 4 else 0) + (if v.truncated then 8 else 0) +
      (if v.overwrote then 16 else 0)
    failed := failed, first := v.recFirst, bytes := ends - v.recBase - v.short, startAt := startAt, closeAt := closeAt
    stripes := v.recStripes }

/-- An entry stands on a drive, in the block of its SEQ (R352). -/
def State.entryWritten (s : State) (e : CatEntry) (d : Nat) : State :=
  let v := s.drive d
  let s := s.setDrive d { v with entries := (v.entries.filter fun x => x.seq % 65536 != e.seq % 65536) ++ [e] }
  s.emit (.driveBlock d (stripeBytes + 4096 * (e.seq % 65536)) (entryBlock e))

/-- An entry is written to each catalogue drive that is READY, or lost when there is none (R351, R354): its SEQ is consumed
either way. -/
def State.catWrite (s : State) (e : CatEntry) : State :=
  let ds := s.catalogueDrives.filter fun d => s.driveState d == 3
  let s := s.setF F.STORE_CAT_SEQ_VALUE 0 e.seq
  if ds.isEmpty then s.raise F.STORE_STATUS_CAT_FAULT 0 else ds.foldl (fun s d => s.entryWritten e d) s

/-- The next record of a channel begins at the next partition stripe, after close point p (R351 step 4). -/
def State.chanNextRecord (s : State) (c p : Nat) : State :=
  let v := s.chan c
  let s := s.setChan c
    { v with cons := max v.cons p, issued := max v.issued p, cuts := v.cuts.tail, short := 0, recFirst := v.next
             recBase := p, recStripes := 0, holes := false, truncated := false, overwrote := false }
  (s.chanPublish c F.STORE_CH_CONS_OFFSET p).chanIssueAll c

/-- A record's entry is committed (R351 steps 3 and 4), once every stripe up to its close point is complete. -/
def State.catalogueCommit (s : State) (c : Nat) : State :=
  let v := s.chan c
  match v.cuts with
  | m :: _ =>
    match m.cut with
    | some p =>
      if p - v.short ≤ v.cons then
        let s := if m.late then s.raise F.STORE_STATUS_LATE_COMMIT 0 else s
        (s.catWrite (s.catEntry c m.number m.startAt m.closeAt p m.late)).chanNextRecord c p
      else s
    | none => s
  | [] => s

/-- The channels that cut at record closes. -/
def State.recChannels (s : State) : List Nat :=
  (List.range 8).filter fun c =>
    s.on F.STORE_CH_CFG_REC c && !s.chanPlays c && s.funcState (.channel c) != 0

/-- The close tick reaches the store (R351): the record with the offsets held then. -/
def State.storeClose (s : State) : State :=
  s.recChannels.foldl
    (fun s c =>
      let v := s.chan c
      let m : RecordCut :=
        { number := s.f F.RECORD_NUMBER_CURRENT 0, startAt := s.pair .RECORD_START_AT_LO .RECORD_START_AT_HI 0
          closeAt := s.pair .RECORD_CLOSE_AT_LO .RECORD_CLOSE_AT_HI 0, held := v.prod, tagged := v.tagged
          cut := none, late := false }
      s.setChan c { v with cuts := v.cuts ++ [m], tagged := none }) s

/-- The close points are named (R351): the remaining stripes are written; a TIMEOUT notice makes what is not committed
late. -/
def State.chanCut (s : State) (late : Bool) (c : Nat) : State :=
  let v := s.chan c
  let cuts := v.cuts.map fun m => { m with cut := some (m.cut.getD (m.tagged.getD m.held)), late := m.late || late }
  (s.setChan c { v with cuts := cuts }).chanIssueAll c

/-- The SINK notice, or a TIMEOUT notice, reaches the store (R351). -/
def State.storeSink (s : State) (late : Bool) : State := s.recChannels.foldl (fun s c => s.chanCut late c) s

/-- Every REC channel has committed its entry (R351). -/
def State.storeDrained (s : State) : Bool := s.recChannels.all fun c => (s.chan c).cuts.isEmpty

/-- Entry to CLOSED: the record's byte counts are zeroed (R290). -/
def State.storeClosed (s : State) : State :=
  (List.range 8).foldl (fun s c => s.setPair .STORE_CH_REC_BYTES_LO .STORE_CH_REC_BYTES_HI c 0) s

-- ------------------------------------------------------------------ channel run and stop (R350, R353, R355)

/-- Partitions of two channels overlap. -/
def State.partsOverlap (s : State) (a b : Nat) : Bool :=
  let fa := s.f F.STORE_CH_PART_FIRST_STRIPES a
  let fb := s.f F.STORE_CH_PART_FIRST_STRIPES b
  decide (fa < fb + s.f F.STORE_CH_PART_STRIPES_STRIPES b ∧ fb < fa + s.f F.STORE_CH_PART_STRIPES_STRIPES a)

/-- The entry a playback names, when it stands in the catalogue. -/
def State.playEntry (s : State) (c : Nat) : Option CatEntry :=
  s.catalogue.find? fun e => e.seq == s.f F.STORE_CH_PB_SEQ_SEQ c

/-- How many unwrapped stripes a channel has written, by the catalogue (R348, R353). -/
def State.writtenBy (s : State) (c : Nat) : Nat :=
  max (s.chan c).next
    (s.catalogue.foldl (fun acc e => if e.channel = c then max acc (e.first + e.stripes) else acc) 0)

/-- A channel's settings keep it STOPPED (R349, R350, R353). -/
def State.chanFault (s : State) (c : Nat) : Bool :=
  let mib := s.f F.STORE_CH_RING_SIZE_MIB c
  let base := s.pair .STORE_CH_RING_LO .STORE_CH_RING_HI c % 2 ^ 48
  let others := (List.range 8).filter fun k => k != c && s.funcState (.channel k) != 0
  !s.on F.STORE_STATUS_MOUNTED 0 || mib == 0 || decide (4096 < mib) || base % stripeBytes != 0 ||
  others.any (s.partsOverlap c) ||
  (s.chanPlays c &&
    match s.playEntry c with
    | none => true
    | some e =>
      e.channel != c || decide (s.f F.STORE_CH_PART_STRIPES_STRIPES c ≤ s.writtenBy c - e.first))

/-- A channel enters RUN, or stays STOPPED with CFG_FAULT (R350, R353). -/
def State.chanRun (s : State) (c : Nat) : State :=
  if s.chanFault c then
    ((s.raise F.STORE_CH_STATUS_CFG_FAULT c).setFunc (.channel c) 0).setF F.STORE_CH_CTRL_RUN c 0
  else
    let next := s.writtenBy c
    let s := s.setFunc (.channel c) 1
    let s := s.setF F.STORE_CH_PROD_OFFSET c 0
    let s := s.setF F.STORE_CH_CONS_OFFSET c 0
    let v := { chanInit with next := next, recFirst := next }
    if s.chanPlays c then (s.setChan c { v with play := s.playEntry c }).chanAhead c
    else s.setChan c v

/-- A channel's held work is finished: every issued stripe has completed (R355). -/
def State.chanIdle (s : State) (c : Nat) : Bool :=
  let v := s.chan c
  if s.chanPlays c then v.issued == v.prod else v.issued == v.cons

/-- A recording channel writes the entry of its open data as it stops, flagged TRUNCATED if it is cut (R352, R355). -/
def State.chanLastEntry (s : State) (c : Nat) : State :=
  let v := s.chan c
  let s := s.setChan c { v with truncated := v.truncated || decide (v.cons < v.prod) }
  let startAt := s.pair .RECORD_START_AT_LO .RECORD_START_AT_HI 0
  let closeAt := s.pair .RECORD_CLOSE_AT_LO .RECORD_CLOSE_AT_HI 0
  match s.on F.STORE_CH_CFG_REC c, v.cuts with
  | false, _ => s.catWrite (s.catEntry c 0xFFFF startAt closeAt v.cons false)
  | true, m :: _ => s.catWrite (s.catEntry c m.number m.startAt m.closeAt v.cons m.late)
  | true, [] =>
    if v.recBase < v.cons then s.catWrite (s.catEntry c (s.f F.RECORD_NUMBER_CURRENT 0) startAt closeAt v.cons false) else s

/-- A channel reaches STOPPED (R352, R355). -/
def State.chanStopped (s : State) (c : Nat) : State :=
  let s := if s.chanPlays c then s else s.chanLastEntry c
  let w := s.chan c
  (s.setChan c { chanInit with next := w.next, recFirst := w.next }).drivesClock none

/-- STOP_TIMEOUT of a channel (R355): stripes still held are ABORTED and their bytes lost. -/
def State.chanAbort (s : State) (c : Nat) : State :=
  let v := s.chan c
  let done' := if s.chanPlays c then v.prod else v.cons
  let held := v.issued - done'
  let s := s.aborted (.channel c) ((held + stripeBytes - 1) / stripeBytes)
  let s := s.setChan c { v with issued := done' }
  (s.chanLost c held).drivesClock none

-- ------------------------------------------------------------------ failures (R346, R354)

/-- A READY drive fails (R346, R354). -/
def State.driveFail (s : State) (d cause sc sct : Nat) (linkDown : Bool) : State :=
  let s := if linkDown then s.setDrive d { s.drive d with linkUp := false } else s
  match s.driveState d with
  | 3 =>
    let s := s.setF F.STORE_DRV_STATUS_FAIL_CAUSE d cause
    let s := s.setF F.STORE_DRV_ERR_SC d sc
    let s := s.setF F.STORE_DRV_ERR_SCT d sct
    let s := s.bump F.STORE_DRV_ERR_ERRORS d 1
    let s := s.driveMove d 4
    let s := s.raise F.STORE_STATUS_DRIVE_FAIL 0
    if s.inMounted d then
      let s := if s.catalogueDrives.contains d then s.raise F.STORE_STATUS_CAT_DEGRADED 0 else s
      s.recChannels.foldl (fun s c => s.setChan c { s.chan c with holes := true }) s
    else s
  | 2 => ((s.setF F.STORE_DRV_STATUS_FAIL_CAUSE d cause).driveMove d 1).storeBusy
  | _ => s

/-- A command of a drive is not complete within CMD_TIMEOUT (R346): it is aborted, and the drive fails when neither the Abort
nor a controller reset ends it. -/
def State.driveTimeout (s : State) (d : Nat) (recovered : Bool) : State :=
  let ticks := max 1 (s.f F.STORE_CMD_TIMEOUT_MS 0) * (1000 * ticksPerUs)
  let s := s.advanceTo (((s.drive d).busy.getD s.time) + BitVec.ofNat 64 ticks)
  if recovered then s.bump F.STORE_DRV_ERR_ERRORS d 1 else s.driveFail d 2 0 0 false

-- ------------------------------------------------------------------ commands (R345 to R348, R355)

/-- A FORMAT or a MOUNT cannot begin: a volume is mounted, another runs, or CFG.DRIVES names no drive. -/
def State.volumeBarred (s : State) : Bool :=
  s.on F.STORE_STATUS_MOUNTED 0 || s.store.command != 0 || s.volumeDrives.isEmpty

/-- STRIPES of a volume over drives (R347). -/
def State.stripesOf (s : State) (ds : List Nat) : Nat :=
  ds.foldl (fun acc d => min acc ((min (s.drive d).nsBytes (2 ^ 43) - 2 ^ 30) / stripeBytes)) (2 ^ 32 - 1)

/-- A drive of the set is not READY. -/
def State.someNotReady (s : State) : Bool := s.volumeDrives.any fun d => s.driveState d != 3

/-- QMEM is a 16 MiB-aligned region of an initialized HBM. -/
def State.qmemBad (s : State) : Bool :=
  let a := s.pair .STORE_QMEM_LO .STORE_QMEM_HI 0
  !s.on F.HBM_STATUS_INIT_DONE 0 || a % 2 ^ 24 != 0 || decide (hbmSize < a + 2 ^ 24)

/-- What the checks of a MOUNT find, 0 where it passes them (R348, STATUS.CAUSE). -/
def State.mountCause (s : State) : Nat :=
  let ds := s.volumeDrives
  let hs := ds.map fun d => (d, (s.drive d).header)
  if s.someNotReady then 1
  else if s.qmemBad then 5
  else if hs.any (·.2.isNone) then 2
  else
    let vol := ((hs.filterMap (·.2)).head?).map (·.volume)
    if hs.any (fun h => h.2.map (·.volume) != vol || (h.2.map (·.drives)) != some ds.length) then 3
    else if hs.any (fun h => (h.2.map (·.index)) != some h.1) then 4
    else 0

/-- STORE.CMD FORMAT (R347): the command runs, or fails when a drive is not READY. -/
def State.storeFormat (s : State) (who : Who) : State :=
  if s.volumeBarred then s.storeRefused who .STORE_CMD 0 3
  else (s.putStore { s.store with command := 3, cause := if s.someNotReady then 1 else 0 }).storeBusy

/-- STORE.CMD MOUNT (R348): the drives are checked, and the catalogue is read. -/
def State.storeMount (s : State) (who : Who) : State :=
  if s.volumeBarred then s.storeRefused who .STORE_CMD 0 4
  else (s.putStore { s.store with command := 4, cause := s.mountCause }).storeBusy

/-- The end of a FORMAT (R347): every drive holds its header, and the catalogue is empty. -/
def State.formatDone (s : State) : State :=
  let ds := s.volumeDrives
  let n := s.stripesOf ds
  ds.foldl
    (fun s d =>
      let h : VolumeHeader := ⟨ds.length, d, n, s.now⟩
      (s.setDrive d { s.drive d with header := some h, entries := [] }).emit (.driveBlock d 0 (headerBlock h))) s

/-- The end of a MOUNT (R348): it resumes from the entry with the highest SEQ of the first catalogue drive that can be
read, one whose reading failed being FAILED (R346). -/
def State.mountDone (s : State) (cause : Nat) : State :=
  let unreadable := !s.catalogueDrives.any fun d => s.driveState d == 3
  let cause := if cause ≠ 0 then cause else if unreadable then 6 else 0
  if cause ≠ 0 then s.setF F.STORE_STATUS_CAUSE 0 cause
  else
    let top := s.catalogue.foldl (fun acc e => max acc e.seq) 0
    let n := ((s.volumeDrives.head?.bind fun d => (s.drive d).header).map (·.stripes)).getD 0
    let s := s.setF F.STORE_STATUS_CAUSE 0 0
    let s := s.setF F.STORE_CAT_SEQ_VALUE 0 top
    let s := if s.someNotReady then s.raise F.STORE_STATUS_CAT_DEGRADED 0 else s
    (s.setF F.STORE_STRIPES_VALUE 0 n).raise F.STORE_STATUS_MOUNTED 0

/-- The running FORMAT or MOUNT ends (R347, R348). -/
def State.storeCommandDone (s : State) : State :=
  let cmd := s.store.command
  let cause := s.store.cause
  let s := (s.putStore { s.store with command := 0, cause := 0 }).storeBusy
  if cmd = 3 then
    (if cause ≠ 0 || s.someNotReady then s.setF F.STORE_STATUS_CAUSE 0 1 else s.formatDone.setF F.STORE_STATUS_CAUSE 0 0)
  else if cmd = 4 then s.mountDone cause
  else s

/-- STORE.CMD UNMOUNT (R355). -/
def State.storeUnmount (s : State) (who : Who) : State :=
  if !s.on F.STORE_STATUS_MOUNTED 0 || (List.range 8).any (fun c => s.funcState (.channel c) != 0) then
    s.storeRefused who .STORE_CMD 0 5
  else (s.setF F.STORE_STATUS_MOUNTED 0 0).setF F.STORE_STRIPES_VALUE 0 0

/-- A function reset of the store, its channels apart (R33, R354): a running command and an attach end ABORTED, the volume
is unmounted; READY drives stay READY. -/
def State.storeReset (s : State) : State :=
  let s := (s.putStore { s.store with command := 0, cause := 0 }).setF F.STORE_STATUS_MOUNTED 0 0
  let s := s.setF F.STORE_STRIPES_VALUE 0 0
  ((List.range 8).foldl (fun s d => if s.driveState d = 2 then s.driveMove d 1 else s) s).storeBusy

/-- A write of STORE.CMD. -/
def State.writeStoreCmd (s : State) (who : Who) (data : Word) : State :=
  let d := fieldOf data 8 3
  match fieldOf data 0 4 with
  | 1 => s.storeAttach who d
  | 2 => s.storeDetach who d
  | 3 => s.storeFormat who
  | 4 => s.storeMount who
  | 5 => s.storeUnmount who
  | _ => s.storeRefused who .STORE_CMD 0 data.toNat

/-- A write of a setting that is fixed while the store is mounted (CFG, QMEM). -/
def State.writeStoreFixed (s : State) (who : Who) (r : Reg) (data : Word) : State :=
  if s.on F.STORE_STATUS_MOUNTED 0 then s.storeRefused who r 0 data.toNat else s.writeTyped who r 0 data

-- ------------------------------------------------------------------ drive memory requests (R345)

/-- A range lies in HBM. -/
def inHbm (a n : Nat) : Bool := decide (a + n ≤ hbmSize)

/-- A range lies in the destination ring of a playback channel (R345). -/
def State.inPlayRing (s : State) (a n : Nat) : Bool :=
  (List.range 8).any fun c =>
    let base := s.pair .STORE_CH_RING_LO .STORE_CH_RING_HI c % 2 ^ 48
    s.chanPlays c && s.funcState (.channel c) != 0 && decide (base ≤ a ∧ a + n ≤ base + s.chanRing c)

/-- A drive's memory request (R345): passed to the carry network as RD or WR, or refused Unsupported Request. -/
def State.driveMemory (s : State) (d : Nat) (write : Bool) (a : Nat) (len : Nat) (data : List Byte) : State :=
  let fits := inHbm a (len + 1) || (write && s.inPlayRing a (len + 1))
  if !fits then (s.bump F.STORE_DRV_ERR_ERRORS d 1).emit (.driveUnsupported d a)
  else s.request 0x98 ⟨if write then .wr else .rd, a, len, [], 0, data, false, false, false, 0, .drive d⟩

end Sys2Proof.Machine
end

