-- ==== Sys2Proof/Machine/Host.lean ====
section
/-! DEFINITION. The host link (R357 to R359, R371), MSI-X (R363), the translation table (R370), and the Memory Reads and
Writes the part sends to the host. -/

namespace Sys2Proof.Machine

-- ------------------------------------------------------------------ gates

/-- The data link layer is up. -/
def State.hostUp (s : State) : Bool := s.on F.HOST_LINK_STATUS_DL_UP 0

/-- The host-memory window and host DMA may reach the host (R370, R371). -/
def State.hostOpen (s : State) : Bool :=
  s.on F.HOST_DMA_CTRL_EN 0 && s.on F.HOST_LINK_STATUS_BME 0 && !s.on F.HOST_LINK_STATUS_D3HOT 0

/-- A refused HOST write (HOST.STATUS.CMD_REFUSED). -/
def State.hostRefused (s : State) (who : Who) (why : Reason) (r : Reg) (inst : Nat) (data : Word) : State :=
  (s.raise F.HOST_STATUS_CMD_REFUSED 0).journalRefusal who why r inst data.toNat

-- ------------------------------------------------------------------ MSI-X (R363)

/-- A pending vector whose masks have ended sends its message. -/
def State.msixRelease (s : State) (v : Nat) : State :=
  if s.msix.pba.getLsbD v && s.msix.enable && !s.msix.functionMask && !vectorMasked s.msix v then
    (s.putMsix { s.msix with pba := s.msix.pba &&& ~~~(BitVec.ofNat 64 (2 ^ v)) }).sendVector v
  else s

/-- Every pending message whose masks have ended is sent. -/
def State.msixFlush (s : State) : State := (List.range 64).foldl (fun s v => s.msixRelease v) s

/-- LINK_STATUS.MSIX_EN follows the capability. -/
def State.showMsix (s : State) : State :=
  s.setF F.HOST_LINK_STATUS_MSIX_EN 0 (if s.msix.enable && !s.msix.functionMask then 1 else 0)

/-- A dword of the MSI-X table, which begins at CSR offset 0x480000 (R363). -/
def msixTableWord (off : Nat) : Option Nat := if 0x480000 ≤ off ∧ off < 0x480400 then some ((off - 0x480000) / 4) else none

/-- A dword of the pending-bit array at CSR offset 0x481000. -/
def msixPbaWord (off : Nat) : Option Nat := if 0x481000 ≤ off ∧ off < 0x481008 then some ((off - 0x481000) / 4) else none

/-- A dword of the pending-bit array as it reads. -/
def State.readPba (s : State) (i : Nat) : Word := BitVec.ofNat 32 (s.msix.pba.toNat / 2 ^ (32 * i))

/-- A write of a table dword: it takes effect for the next message on the vector (R363). -/
def State.writeMsixTable (s : State) (i : Nat) (data : Word) : State :=
  let d : Word := if i % 4 = 3 then 1 else 0
  let v := if i % 4 = 3 then data &&& 1#32 else if i % 4 = 0 then data &&& 0xFFFFFFFC#32 else data
  (s.putMsix { s.msix with table := Sparse.set d s.msix.table i v }).msixFlush

-- ------------------------------------------------------------------ the translation table (R370)

/-- Entry i. -/
def State.xlatEntry (s : State) (i : Nat) : DWord := Sparse.get 0 s.host.xlat i

/-- XLAT_INDEX.ENTRY advances after an access to XLAT_DATA_HI, when AUTOINC is 1. -/
def State.xlatAdvance (s : State) : State :=
  if s.on F.HOST_XLAT_INDEX_AUTOINC 0 then
    s.setF F.HOST_XLAT_INDEX_ENTRY 0 ((s.f F.HOST_XLAT_INDEX_ENTRY 0 + 1) % 4096)
  else s

/-- A write of XLAT_DATA_HI commits both halves to the entry (R370), with a CHANGE entry for each half that changed. -/
def State.writeXlatHi (s : State) (who : Who) (hi : Word) : State :=
  let i := s.f F.HOST_XLAT_INDEX_ENTRY 0
  let old := s.xlatEntry i
  let lo := (s.word .HOST_XLAT_DATA_LO 0) &&& 0xFC000007#32
  let oldLo := old.setWidth 32
  let oldHi := BitVec.ofNat 32 (old.toNat / 2 ^ 32)
  let s := s.putHost { s.host with xlat := Sparse.set 0 s.host.xlat i (hi ++ lo) }
  let s := if oldLo = lo then s else s.journalChange who .HOST_XLAT_DATA_LO 0 oldLo lo
  let s := if oldHi = hi then s else s.journalChange who .HOST_XLAT_DATA_HI 0 oldHi hi
  s.xlatAdvance

/-- A write of XLAT_DATA_LO waits for the write of HI. -/
def State.writeXlatLo (s : State) (data : Word) : State :=
  s.setWord .HOST_XLAT_DATA_LO 0 (data &&& 0xFC000007#32)

-- ------------------------------------------------------------------ traffic to the host

/-- The length of the next piece of len bytes at an address, when pieces end at multiples of size. -/
def pieceLen (addr len size : Nat) : Nat := min len (size - addr % max 1 size)

/-- Memory Writes of up to the max payload size (R367). -/
def State.hostStore (s : State) (addr : Nat) (data : List Byte) (relaxed : Bool) : Nat → State
  | 0 => s
  | n + 1 =>
    if data.isEmpty then s
    else
      let k := max 1 (pieceLen addr data.length s.host.maxPayload)
      (s.emit (.hostWrite addr (data.take k) relaxed)).hostStore (addr + k) (data.drop k) relaxed n

/-- The bytes of a list written to the host. -/
def State.hostWrites (s : State) (addr : Nat) (data : List Byte) (relaxed : Bool) : State :=
  s.hostStore (addr % 2 ^ 64) data relaxed (data.length + 1)

/-- The lowest free requester tag, of the 768 the endpoint has (R357). -/
def State.hostTag (s : State) : Option Nat := (List.range 768).find? fun t => !s.host.reads.any (·.tag == t)

/-- A read carries relaxed ordering: a descriptor's data, as CH_IRQ.RO says (R367). -/
def State.hostRelaxed (s : State) (u : HostUse) : Bool :=
  match u with
  | .dma c _ _ => s.on F.HOST_CH_IRQ_RO c
  | .fetch _ | .window _ => false

/-- A Memory Read is sent, or waits for a tag. -/
def State.hostAsk (s : State) (u : HostUse) (addr len : Nat) : State :=
  match s.hostTag with
  | some t =>
    let r : HostRead := ⟨t, u, addr, len⟩
    let s := s.putHost { s.host with reads := s.host.reads ++ [r] }
    s.emit (.hostRead t addr len (s.hostRelaxed u))
  | none =>
    let r : HostRead := ⟨0, u, addr, len⟩
    (s.putHost { s.host with readsWaiting := s.host.readsWaiting ++ [r] })

/-- A tag is freed, and the first waiting read is sent. -/
def State.hostFree (s : State) (tag : Nat) : State :=
  let s := s.putHost { s.host with reads := s.host.reads.filter (·.tag != tag) }
  match s.host.readsWaiting with
  | [] => s
  | r :: rest => (s.putHost { s.host with readsWaiting := rest }).hostAsk r.use r.addr r.len

/-- Reads of len bytes at an address, in pieces of up to the max read request size (R367): address and length. -/
def readPieces (size : Nat) (addr len : Nat) : Nat → List (Nat × Nat)
  | 0 => []
  | n + 1 =>
    if len = 0 then []
    else
      let k := max 1 (pieceLen addr len size)
      (addr, k) :: readPieces size (addr + k) (len - k) n

/-- A read of several pieces has every one of them. -/
def Parts.complete (r : Parts) : Bool := decide (r.parts.length ≤ r.got.length)

/-- The bytes of a completed read in address order. -/
def Parts.bytes (r : Parts) : List Byte :=
  r.parts.foldl (fun acc p => acc ++ ((r.got.find? (·.1 == p.1)).map (·.2)).getD []) []

/-- A piece of a read came, or failed. -/
def Parts.add (r : Parts) (addr : Nat) (data : Option (List Byte)) : Parts :=
  { r with got := r.got ++ [(addr, data.getD [])], failed := r.failed || data.isNone }

-- ------------------------------------------------------------------ configuration space (R358, R359)

/-- The size of the BAR at a function's configuration offset, and whether it is prefetchable (R360). -/
def State.configBar (s : State) (d : Identity) (pf offset : Nat) : Option (Nat × Bool) :=
  match pf, offset with
  | 0, 0x10 => some (0x10000000, false)
  | 0, 0x18 => some (if Part.hasHbm s.part then hbmSize else 0, true)
  | 0, 0x20 => some (if d.fabBar = 0 then 0 else 2 ^ d.fabBar, false)
  | 1, 0x10 => some (0x10000, false)
  | _, _ => none

/-- The low (high) dword of a 64-bit memory BAR: 0 where the BAR is not implemented (R360); elsewhere its type bits and the
address bits below its size are fixed, and the address the host gave is a free value. -/
def State.barDword (s : State) (size : Nat) (prefetch high : Bool) : Word × State :=
  if size = 0 then (0, s)
  else
    let (w, s) := s.freeWord
    let mask : Word := BitVec.ofNat 32 ((2 ^ 64 - size) / (if high then 2 ^ 32 else 1))
    ((w &&& mask) ||| (if high then 0 else if prefetch then 12 else 4), s)

/-- A dword of a function's configuration space: the identity R358 gives, the BARs of R360, no interrupt pin (R357); every
other register is a free value, since the spec leaves it to the PCI Express specification. -/
def State.configDword (s : State) (pf offset : Nat) : Word × State :=
  match s.host.identity, offset with
  | some d, 0x10 | some d, 0x18 | some d, 0x20 =>
    match s.configBar d pf offset with
    | some (size, pre) => s.barDword size pre false
    | none => (0, s)
  | some d, 0x14 | some d, 0x1C | some d, 0x24 =>
    match s.configBar d pf (offset - 4) with
    | some (size, pre) => s.barDword size pre true
    | none => (0, s)
  | some _, 0x3C =>
    let (w, s) := s.freeWord
    (w &&& 0xFFFF00FF#32, s)
  | some d, 0x00 =>
    (BitVec.ofNat 32 (d.vendor.toNat + 65536 * ((d.device.toNat + (if pf = 0 then 0 else 1)) % 65536)), s)
  | some d, 0x08 => (BitVec.ofNat 32 (d.revision.toNat + 256 * (if pf = 0 then d.cls.toNat else 0x088000)), s)
  | some d, 0x2C => (BitVec.ofNat 32 (d.subsysVendor.toNat + 65536 * d.subsys.toNat), s)
  | _, _ => s.freeWord

/-- The host link comes up (R358): no faster and no wider than the boot header and the variant allow (R129). When it is
up already, it has gone through Recovery. -/
def State.linkUp (s : State) (speed width : Nat) : State :=
  if s.dev.porst || speed = 0 || width = 0 then s
  else if s.hostUp then s.count F.HOST_LINK_CNT_RECOVERIES 0
  else
    let h := s.cfg.header
    let s := s.setF F.HOST_LINK_STATUS_SPEED 0 (min speed (min 5 h.maxSpeed))
    let s := s.setF F.HOST_LINK_STATUS_WIDTH 0 (min width (min (Part.hostWidth s.part) h.maxWidth))
    let s := s.raise F.HOST_LINK_STATUS_DL_UP 0
    if s.on F.HOST_LINK_STATUS_ID_LATCHED 0 then s
    else
      let id : Identity := ⟨h.vendor, h.device, h.subsysVendor, h.subsys, h.cls, h.revision, h.fabBar⟩
      (s.putHost { s.host with identity := some id }).raise F.HOST_LINK_STATUS_ID_LATCHED 0

/-- PF0's configuration state returns to its reset values (R371). -/
def State.pf0Reset (s : State) : State :=
  let s := s.setF F.HOST_LINK_STATUS_BME 0 0
  let s := s.setF F.HOST_LINK_STATUS_D3HOT 0 0
  ((s.putMsix { enable := false, functionMask := false, table := [], pba := 0 }).putHost { s.host with maxPayload := 128, maxRead := 512 }).showMsix

end Sys2Proof.Machine
end

