-- ==== Sys2Proof/Machine/Dma.lean ====
section
/-! DEFINITION. Host DMA (R364 to R369), the host-memory window (R370), and what the events of the host side do to both
(R371). -/

namespace Sys2Proof.Machine

/-- A channel that holds nothing. -/
def dmaInit : Dma := { descs := [], serial := 0, fetching := none, lastMessage := none, messageDue := false }

/-- Channel c. -/
def State.dma (s : State) (c : Nat) : Dma := Sparse.get dmaInit s.host.dma c

/-- The state with channel c replaced. -/
def State.setDma (s : State) (c : Nat) (v : Dma) : State :=
  s.putHost { s.host with dma := Sparse.set dmaInit s.host.dma c v }

/-- A channel moves data host-to-card. -/
def hostToCard (c : Nat) : Bool := decide (16 ≤ c)

/-- RING_SIZE of a channel. -/
def State.dmaRingSize (s : State) (c : Nat) : Nat := 2 ^ s.f F.HOST_CH_RING_SIZE_LOG2 c

/-- RING_BASE of a channel. -/
def State.dmaRingBase (s : State) (c : Nat) : Nat := s.pair .HOST_CH_RING_LO .HOST_CH_RING_HI c

-- ------------------------------------------------------------------ messages (R367)

/-- The message of a channel's vector goes. -/
def State.dmaSend (s : State) (c : Nat) : State :=
  let s := s.setDma c { s.dma c with lastMessage := some s.time, messageDue := false }
  s.sendVector (s.f F.HOST_CH_IRQ_VECTOR c)

/-- When a channel's holdoff ends. -/
def State.holdoffEnd (s : State) (c : Nat) : Option DWord :=
  (s.dma c).lastMessage.map fun t => t + BitVec.ofNat 64 (s.f F.HOST_CH_IRQ_HOLDOFF c * ticksPerUs)

/-- A channel's message is sent, or waits for the end of the holdoff. -/
def State.dmaMessage (s : State) (c : Nat) : State :=
  if (s.holdoffEnd c).any fun t => decide (s.time.toNat < t.toNat) then s.setDma c { s.dma c with messageDue := true }
  else s.dmaSend c

-- ------------------------------------------------------------------ stopping

/-- A channel stops by itself: RUN reads 0 and descriptors it fetched ahead are given up. -/
def State.dmaHalt (s : State) (c : Nat) : State :=
  let s := s.setDma c { s.dma c with descs := [], fetching := none }
  (s.setF F.HOST_CH_CTRL_RUN c 0).setFunc (.dma c) 0

/-- The status of a descriptor is written back, last and without relaxed ordering (R365, R367). -/
def State.writeBack (s : State) (c : Nat) (d : Desc) (code detail : Nat) : State :=
  let body := toBytes 4 (1 + 2 * code + 256 * detail) ++ toBytes 4 d.moved
  s.hostWrites (s.dmaRingBase c + 32 * d.index + 24) body false

/-- HEAD moves past a descriptor. -/
def State.headPast (s : State) (c : Nat) (d : Desc) : State :=
  s.setF F.HOST_CH_HEAD_INDEX c ((d.index + 1) % s.dmaRingSize c)

/-- Held descriptors end ABORTED with a write-back (R369, R371 for D3hot). While the part may send the host nothing, they
end as at a loss of the host: without one, HEAD kept (DEDUCED, assumption 210). -/
def State.dmaAbort (s : State) (c : Nat) : State :=
  let ds := (s.dma c).descs
  let s := if s.hostOpen && s.hostUp then ds.foldl (fun s d => (s.writeBack c d 1 0).headPast c d) s else s
  let s := s.aborted (.dma c) ds.length
  s.setDma c { s.dma c with descs := [], fetching := none }

/-- Held descriptors end ABORTED without a write-back: HEAD is kept (R371). -/
def State.dmaDrop (s : State) (c : Nat) : State :=
  let s := s.aborted (.dma c) (s.dma c).descs.length
  s.dmaHalt c

/-- Every channel drops what it holds and host DMA is disabled (R371: PERST#, link down, FLR of PF0). -/
def State.dmaDropAll (s : State) : State :=
  let s := (List.range 32).foldl (fun s c => s.dmaDrop c) s
  s.setF F.HOST_DMA_CTRL_EN 0 0

-- ------------------------------------------------------------------ descriptors (R365, R366)

/-- A descriptor of ring entry i, from its 32 bytes. -/
def parseDesc (i serial : Nat) (b : BitVec 256) : Desc :=
  let v := b.toNat
  let field (lo w : Nat) : Nat := v / 2 ^ lo % 2 ^ w
  { index := i, serial := serial, card := field 0 48, host := field 64 64, length := field 128 28
    irq := b.getLsbD 160, halt := b.getLsbD 161
    reserved := field 48 16 != 0 || field 156 4 != 0 || field 162 30 != 0
    issued := 0, waiting := 0, moved := 0, ready := [], failure := none, wrote := [], closed := false }

/-- The NoC address of CFG.STREAM's window and its end (R366, R123). -/
def streamFirst : Nat := csrBase + 0x18000
def streamEnd : Nat := csrBase + 0x20000

/-- The card range of a descriptor is allowed (R366). -/
def rangeFits (p : Part) (c card length : Nat) : Bool :=
  let last := card + length - 1
  decide (0 < length) &&
  ((Part.hasHbm p && decide (last < 0x400000000)) ||
   (decide (0x4000000000 ≤ card ∧ (card - 0x4000000000) / 0x40000000 = (last - 0x4000000000) / 0x40000000) &&
    decide ((card - 0x4000000000) / 0x40000000 < 0x60) && niPresent p ((card - 0x4000000000) / 0x40000000)) ||
   (hostToCard c && decide (streamFirst ≤ card ∧ last < streamEnd)))

/-- A descriptor may execute. -/
def descFits (p : Part) (c : Nat) (d : Desc) : Bool := !d.reserved && rangeFits p c d.card d.length

-- ------------------------------------------------------------------ executing (R367, R368)

/-- Parts of a descriptor that may be under way at once: the spec sets no number. -/
def dmaAhead : Nat := 64

/-- The first held descriptor of a channel, when the channel has one. -/
def State.dmaFirst (s : State) (c : Nat) : Option Desc := (s.dma c).descs.head?

/-- The state with the first held descriptor replaced. -/
def State.setFirst (s : State) (c : Nat) (d : Desc) : State :=
  s.setDma c { s.dma c with descs := d :: (s.dma c).descs.tail }

/-- The card side is read, or the host side is read, for the descriptor's next bytes. -/
def State.dmaIssue (s : State) (c : Nat) : Nat → State
  | 0 => s
  | n + 1 =>
    match s.dmaFirst c with
    | none => s
    | some d =>
      if d.length ≤ d.issued || dmaAhead ≤ d.waiting || !s.hostOpen || !s.hostUp then s
      else if hostToCard c then
        let k := max 1 (pieceLen (d.host + d.issued) (d.length - d.issued) (min 4096 s.host.maxRead))
        let s := s.setFirst c { d with issued := d.issued + k, waiting := d.waiting + 1 }
        (s.hostAsk (.dma c d.serial (d.card + d.issued)) ((d.host + d.issued) % 2 ^ 64) k).dmaIssue c n
      else if !s.niTakes 0x91 || (s.freeTag 0x91).isNone then s
      else
        let k := max 1 (pieceLen (d.card + d.issued) (d.length - d.issued) 4096)
        let s := s.setFirst c { d with issued := d.issued + k, waiting := d.waiting + 1 }
        (s.request 0x91
          ⟨.rd, d.card + d.issued, k - 1, [], 0, [], false, false, false, 0, .dma c d.serial⟩).dmaIssue c n

/-- A WRP of up to 4 KiB is sent for bytes at a card address: the destination NI is noted for the closing WR. -/
def State.dmaPost (s : State) (c : Nat) (addr : Nat) (data : List Byte) : Nat → State
  | 0 => s
  | n + 1 =>
    match s.dmaFirst c with
    | none => s
    | some d =>
      if data.isEmpty then s
      else
        let k := max 1 (pieceLen addr data.length 4096)
        let wrote := match decodeAddr s.part addr with
          | .ni m => Sparse.insert d.wrote m addr
          | _ => d.wrote
        let s := s.setFirst c { d with wrote := wrote }
        (s.request 0x91 ⟨.wrp, addr, k - 1, [], 0, data.take k, false, false, false, 0, .none⟩).dmaPost c (addr + k)
          (data.drop k) n

/-- Bytes that came from one side leave for the other, when the other side takes them. -/
def State.dmaMove (s : State) (c : Nat) : Nat → State
  | 0 => s
  | n + 1 =>
    match s.dmaFirst c with
    | none => s
    | some d =>
      match d.ready with
      | [] => s
      | (addr, data) :: rest =>
        let passed := { d with ready := rest, moved := d.moved + data.length }
        if hostToCard c then
          if s.niTakes 0x91 then ((s.setFirst c passed).dmaPost c addr data (data.length + 1)).dmaMove c n else s
        else if s.hostOpen && s.hostUp then
          ((s.setFirst c passed).hostWrites addr data (s.on F.HOST_CH_IRQ_RO c)).dmaMove c n
        else s

/-- The closing WRs of an H2C descriptor (R284, R367): one with no enabled byte to each destination it wrote. -/
def State.dmaClose (s : State) (c : Nat) : State :=
  match s.dmaFirst c with
  | none => s
  | some d =>
    if !hostToCard c || d.closed || d.issued < d.length || d.waiting ≠ 0 || !d.ready.isEmpty || !s.niTakes 0x91 then s
    else
      let s := s.setFirst c { d with closed := true, waiting := d.wrote.length }
      d.wrote.foldl
        (fun s kv =>
          s.request 0x91
            ⟨.wr, kv.2 / 4 * 4, 3, List.replicate 4 false, 0, toBytes 4 0, false, false, false, 0, .dma c d.serial⟩) s

/-- The descriptor's transfers are finished. -/
def descDone (c : Nat) (d : Desc) : Bool :=
  decide (d.length ≤ d.issued) && d.waiting == 0 && d.ready.isEmpty && (!hostToCard c || d.closed)

/-- A descriptor ends with a write-back: HEAD, the message, the bytes (R367), failures (R368), halts. -/
def State.descEnd (s : State) (c : Nat) (d : Desc) (code detail : Nat) : State :=
  let s := (s.writeBack c d code detail).headPast c d
  let s := s.setDma c { s.dma c with descs := (s.dma c).descs.tail }
  let s := if d.irq then s.dmaMessage c else s
  let s := s.setPair .HOST_CH_BYTES_LO .HOST_CH_BYTES_HI c
    ((s.pair .HOST_CH_BYTES_LO .HOST_CH_BYTES_HI c + d.moved) % 2 ^ 64)
  let failed := code == 2 || code == 3
  let s := if failed then (s.bump F.HOST_CH_ERR_FAILED c 1).raise F.HOST_CH_STATUS_XFER_ERR c else s
  if code = 4 then (s.raise F.HOST_CH_STATUS_DESC_FAULT c).dmaHalt c
  else if d.halt || (failed && s.on F.HOST_CH_CTRL_HALT_ON_ERR c) then (s.raise F.HOST_CH_STATUS_HALTED c).dmaHalt c
  else s

/-- A bad descriptor that has come to be the first ends with DESC_ERR (R366). -/
def State.descCheck (s : State) (c : Nat) : State :=
  match s.dmaFirst c with
  | some d => if !descFits s.part c d && s.hostOpen && s.hostUp then s.descEnd c d 4 0 else s
  | none => s

-- ------------------------------------------------------------------ fetching (R364)

/-- Entries a channel may fetch: posted, at most 8 ahead of HEAD, and not past the ring's end. -/
def State.fetchable (s : State) (c : Nat) : Nat × Nat :=
  let size := s.dmaRingSize c
  let held := (s.dma c).descs.length
  let next := (s.f F.HOST_CH_HEAD_INDEX c + held) % size
  let posted := (s.f F.HOST_CH_TAIL_INDEX c + size - next) % size
  (next, min (min posted (8 - held)) (size - next))

/-- A channel fetches descriptors when it runs and may (R364, R369). -/
def State.dmaFetch (s : State) (c : Nat) : State :=
  if s.funcState (.dma c) != 1 || (s.dma c).fetching.isSome || !s.hostOpen || !s.hostUp then s
  else
    let (next, n) := s.fetchable c
    if n = 0 then s
    else
      let s := s.setDma c { s.dma c with fetching := some (next, n) }
      s.hostAsk (.fetch c) (s.dmaRingBase c + 32 * next) (32 * n)

/-- A channel does everything it can. -/
def State.dmaStep (s : State) (c : Nat) : State :=
  let s := (s.descCheck c).dmaFetch c
  let s := s.dmaIssue c dmaAhead
  let s := s.dmaMove c dmaAhead
  s.dmaClose c

/-- Every channel does everything it can. -/
def State.dmaPump (s : State) : State := ((List.range 32).filter fun c => s.funcState (.dma c) != 0).foldl (fun s c => s.dmaStep c) s

/-- Fetched descriptors arrive (R364): a channel that no longer runs takes none. -/
def State.descsArrive (s : State) (c : Nat) (ds : List (BitVec 256)) : State :=
  let v := s.dma c
  match v.fetching with
  | none => s
  | some (first, n) =>
    let s := s.setDma c { v with fetching := none }
    if s.funcState (.dma c) != 1 then s
    else
      let taken := ds.take n
      let new := (List.range taken.length).map fun k => parseDesc (first + k) (v.serial + k) (taken.getD k 0)
      s.setDma c { s.dma c with descs := v.descs ++ new, serial := v.serial + taken.length }

/-- The tag of a channel's fetch. -/
def State.fetchTag (s : State) (c : Nat) : Option Nat :=
  (s.host.reads.find? (·.use == HostUse.fetch c)).map (·.tag)

/-- DESCRIPTOR_FETCH: descriptors fetched from host memory arrive at the channel (R364). -/
def State.descriptorFetch (s : State) (c : Nat) (ds : List (BitVec 256)) : State :=
  match s.fetchTag c with
  | some t => ((s.hostFree t).descsArrive c ds).dmaStep c
  | none => s

/-- A descriptor's transfers finish and its status is written back (R367). -/
def State.descriptorComplete (s : State) (c : Nat) : State :=
  match s.dmaFirst c with
  | some d =>
    if descDone c d && s.hostOpen && s.hostUp then
      (s.descEnd c d ((d.failure.map (·.1)).getD 0) ((d.failure.map (·.2)).getD 0)).dmaStep c
    else s
  | none => s

-- ------------------------------------------------------------------ answers

/-- The held descriptor of channel c with a serial number is changed; an answer to one that has ended is late (R369). -/
def State.descAnswer (s : State) (c serial : Nat) (g : Desc → Desc) : State :=
  let v := s.dma c
  if v.descs.any (·.serial == serial) then
    s.setDma c { v with descs := v.descs.map fun d => if d.serial == serial then g d else d }
  else s.bump F.HOST_CH_ERR_LATE c 1

/-- A part of a descriptor is answered: bytes to pass on, or a failure, the first of which is kept. -/
def descPart (ready : List (Nat × List Byte)) (failure : Option (Nat × Nat)) (d : Desc) : Desc :=
  { d with waiting := d.waiting - 1, ready := d.ready ++ ready, failure := d.failure.orElse fun _ => failure }

/-- A card-side request of a descriptor ends (R367, R368). -/
def State.dmaAnswer (s : State) (c serial : Nat) (x : Completion) : State :=
  let s := match x.answer with
    | .rspErr => s.descAnswer c serial (descPart [] (some (2, x.err)))
    | .rspData => s.descAnswer c serial fun d => descPart [((d.host + (x.addr - d.card)) % 2 ^ 64, x.data)] none d
    | _ => s.descAnswer c serial (descPart [] none)
  s.dmaStep c

-- ------------------------------------------------------------------ the host-memory window (R370)

/-- The first address of the window. -/
def windowBase : Nat := 0xC000000000

/-- A window request is answered TARGET or, if posted, dropped; either is counted (R370). -/
def State.windowFail (s : State) (p : Packet) (detail : Nat) (since : DWord := s.time) : State :=
  let s := s.raise F.HOST_STATUS_WIN_ERR 0
  if nonPosted p.cmd then
    (s.bump F.HOST_WIN_ERR_ANSWERED 0 1).respond p .rspErr 7 (BitVec.ofNat 64 detail) [] since
  else s.bump F.HOST_WIN_ERR_DROPPED 0 1

/-- A window request while the window is gated (R370). -/
def State.windowGated (s : State) (p : Packet) (since : DWord := s.time) : State :=
  let s := s.raise F.HOST_STATUS_WIN_ERR 0
  if nonPosted p.cmd then
    (s.bump F.HOST_WIN_ERR_ANSWERED 0 1).respond p .rspErr 2 0x91 [] since
  else (s.bump F.HOST_WIN_ERR_DROPPED 0 1).dropReport 0x91 0x0101 p.src p.tag p.addr

/-- Runs of enabled bytes of a packet: offset and bytes. -/
def enabledRuns (p : Packet) : List (Nat × List Byte) :=
  ((List.range (p.len + 1)).foldl
    (fun (acc : List (Nat × List Byte) × Bool) i =>
      if !packetEnables p i then (acc.1, false)
      else
        match acc.1, acc.2 with
        | (o, bs) :: rest, true => ((o, bs ++ [p.data.getD i 0]) :: rest, true)
        | l, _ => ((i, [p.data.getD i 0]) :: l, true))
    ([], false)).1.reverse

/-- The host bus address of a window address, by its entry. -/
def windowHost (e : DWord) (addr : Nat) : Nat :=
  e.toNat / 2 ^ 26 * 2 ^ 26 + (addr - windowBase) % 0x4000000

/-- A request reaches the window behind NI 0x91 (R370). -/
def State.windowTake (s : State) (p : Packet) : State :=
  let e := s.xlatEntry ((p.addr - windowBase) / 0x4000000 % 4096)
  if !s.hostOpen then s.windowGated p
  else
    match p.cmd with
    | .rd =>
      if !e.getLsbD 0 || !e.getLsbD 1 then s.windowFail p 0xE001
      else
        let parts := readPieces (min 4096 s.host.maxRead) (windowHost e p.addr) (p.len + 1) (p.len + 1)
        let s := s.deliverRequest p ((s.freeHandle p.dest).getD 0)
        let s := s.putHost { s.host with windowReads := s.host.windowReads ++ [(p, ⟨parts, [], false⟩)] }
        parts.foldl (fun s r => s.hostAsk (.window p) r.1 r.2) s
    | .wr | .wrp =>
      if !e.getLsbD 0 || !e.getLsbD 2 then s.windowFail p 0xE001
      else
        let s := (enabledRuns p).foldl (fun s r => s.hostWrites (windowHost e p.addr + r.1) r.2 false) s
        if p.cmd = .wr then s.respond p .rspOk 0 0 [] else s
    | _ => if nonPosted p.cmd then (s.putFresh (s.fresh + 1)).respond p .rspErr 5 (Config.freeDWord s.fresh) [] else s

/-- A piece of a window read is answered by the host; with the last one the request is answered, or its answer is late
(R225, R370). -/
def State.windowAnswer (s : State) (p : Packet) (addr : Nat) (data : Option (List Byte)) : State :=
  match s.host.windowReads.find? (·.1 == p) with
  | none => s
  | some (_, r) =>
    let r := r.add addr data
    let others := s.host.windowReads.filter (·.1 != p)
    if r.complete then
      (s.putHost { s.host with windowReads := others }).answerDelivered p fun s since =>
        if r.failed then s.windowFail p 0xE002 since else s.respond p .rspData 0 0 r.bytes since
    else s.putHost { s.host with windowReads := others ++ [(p, r)] }

-- ------------------------------------------------------------------ completions from the host

/-- A read of host memory ends: the bytes, or a failure by its DETAIL (R365, R370). -/
def State.hostAnswer (s : State) (tag : Nat) (x : List Byte ⊕ Nat) : State :=
  match s.host.reads.find? (·.tag == tag) with
  | none => s
  | some r =>
    let s := s.hostFree tag
    match r.use, x with
    | .fetch c, .inl bytes =>
      let n := bytes.length / 32
      let ds := (List.range n).map fun k => BitVec.ofNat 256 (fromBytes ((bytes.drop (32 * k)).take 32))
      (s.descsArrive c ds).dmaStep c
    | .fetch c, .inr _ => (s.setDma c { s.dma c with fetching := none }).dmaStep c
    | .dma c serial card, .inl bytes => (s.descAnswer c serial (descPart [(card, bytes.take r.len)] none)).dmaStep c
    | .dma c serial _, .inr detail => (s.descAnswer c serial (descPart [] (some (3, detail)))).dmaStep c
    | .window p, .inl bytes => s.windowAnswer p r.addr (some (bytes.take r.len))
    | .window p, .inr _ => s.windowAnswer p r.addr none

/-- A PCI Express completion from the host arrives (R365, R367, R370). A poisoned completion is logged by AER. -/
def State.hostCompletion (s : State) (tag : Nat) (x : HostAnswer) : State :=
  if !s.host.reads.any (·.tag == tag) then s
  else
    match x with
    | .data bytes => s.hostAnswer tag (.inl bytes)
    | .unsupported => s.hostAnswer tag (.inr 1)
    | .abort => s.hostAnswer tag (.inr 2)
    | .poisoned => (s.raise F.HOST_STATUS_AER_UNCORR 0).hostAnswer tag (.inr 4)

/-- A read to host memory gets no completion in time (R368, R370): AER logs it. -/
def State.completionTimeout (s : State) (tag : Nat) : State :=
  if !s.host.reads.any (·.tag == tag) then s
  else (s.raise F.HOST_STATUS_AER_UNCORR 0).hostAnswer tag (.inr 3)

-- ------------------------------------------------------------------ registers

/-- CH_TAIL posts descriptors, or is refused (R364). -/
def State.writeTail (s : State) (who : Who) (c : Nat) (data : Word) : State :=
  let v := data.toNat % 65536
  if s.dmaRingSize c ≤ v then (s.raise F.HOST_CH_STATUS_CFG_REFUSED c).hostRefused who .encoding .HOST_CH_TAIL c data
  else
    let s := s.writeTyped who .HOST_CH_TAIL c data
    s.dmaStep c

/-- A write of CH_RING_SIZE, whose LOG2 outside 4 to 16 is refused. -/
def State.writeRingSize (s : State) (who : Who) (c : Nat) (data : Word) : State :=
  let v := data.toNat % 32
  if v < 4 ∨ 16 < v then (s.raise F.HOST_CH_STATUS_CFG_REFUSED c).hostRefused who .encoding .HOST_CH_RING_SIZE c data
  else s.writeTyped who .HOST_CH_RING_SIZE c data

/-- A channel enters RUN (R37, R364): a ring base that is not aligned leaves it STOPPED with CFG_REFUSED. -/
def State.dmaRun (s : State) (c : Nat) : State :=
  if s.dmaRingBase c % 4096 ≠ 0 then (s.raise F.HOST_CH_STATUS_CFG_REFUSED c).setF F.HOST_CH_CTRL_RUN c 0
  else
    let s := s.setFunc (.dma c) 1
    s.dmaStep c

/-- A channel holds no work (R369). -/
def State.dmaIdle (s : State) (c : Nat) : Bool := (s.dma c).descs.isEmpty

/-- DMA_CTRL.EN written (R371): 1 reopens the fences of NIs 0x90 and 0x91 (R250). -/
def State.writeDmaCtrl (s : State) (who : Who) (data : Word) : State :=
  let s := s.writeTyped who .HOST_DMA_CTRL 0 data
  if data.getLsbD 0 then ((s.fenceReopen 0x90 who).fenceReopen 0x91 who).dmaPump else s

-- ------------------------------------------------------------------ events of the host side (R371)

/-- The link goes down: reads of the host under way get no completion. -/
def State.linkDown (s : State) : State :=
  if !s.hostUp then s
  else
    let s := s.setF F.HOST_LINK_STATUS_DL_UP 0 0
    let s := s.setF F.HOST_LINK_STATUS_SPEED 0 0
    let s := s.setF F.HOST_LINK_STATUS_WIDTH 0 0
    let s := s.count F.HOST_LINK_CNT_DOWNS 0
    let s := s.raise F.HOST_STATUS_LINK_DOWN 0
    s.putHost { s.host with barReads := s.host.barReads.filter (·.tag % 2 == 1) }

/-- Reads of host memory can no longer be answered. -/
def State.hostReadsDropped (s : State) : State :=
  s.putHost { s.host with reads := [], readsWaiting := [], windowReads := [] }

/-- Reads of host memory end without an answer; with the window gated, its requests get FENCED (R370, R371). -/
def State.hostReadsLost (s : State) : State :=
  (s.host.windowReads.map (·.1)).foldl
    (fun s p => if (s.ni p.dest).delivered.any (·.packet == p) then s.answerDelivered p fun s since => s.windowGated p since else s)
    s.hostReadsDropped

/-- PF0 enters D3hot: channels stop as at STOP_TIMEOUT = 0, then requests are gated (R371). -/
def State.enterD3 (s : State) : State :=
  if !s.hostUp || s.on F.HOST_LINK_STATUS_D3HOT 0 then s
  else
    let running := (List.range 32).filter fun c => s.funcState (.dma c) != 0
    let s := running.foldl (fun s c => (s.dmaAbort c).dmaHalt c) s
    s.raise F.HOST_LINK_STATUS_D3HOT 0

/-- A configuration request is taken and completed normally (R359). -/
def State.configRequest (s : State) (tag : Nat) (x : HostConfig) : State :=
  if !s.hostUp then s
  else
    match x with
    | .busMaster on => ((s.setF F.HOST_LINK_STATUS_BME 0 (if on then 1 else 0)).emit (.completion tag 0 [])).dmaPump
    | .msix enable mask =>
      let s := (s.putMsix { s.msix with enable := enable, functionMask := mask }).showMsix
      s.msixFlush.emit (.completion tag 0 [])
    | .sizes payload read =>
      let s := s.putHost { s.host with maxPayload := max 128 (min 512 payload), maxRead := max 128 (min 4096 read) }
      s.emit (.completion tag 0 [])
    | .power d3 =>
      let s := if d3 then s.enterD3 else (s.setF F.HOST_LINK_STATUS_D3HOT 0 0).dmaPump
      s.emit (.completion tag 0 [])
    | .read pf offset =>
      if 2 ≤ pf then s.emit (.completion tag 1 [])
      else
        let (w, s) := s.configDword pf offset
        s.emit (.completion tag 0 (toBytes 4 w.toNat))
    | .other => s.emit (.completion tag 0 [])

end Sys2Proof.Machine
end

