-- ==== Sys2Proof/Machine/Nvm.lean ====
section
/-! DEFINITION. The configuration store (R123, R124): slots, areas and their bytes. -/

namespace Sys2Proof.Machine

/-- The first store byte of a slot (R123). -/
def slotBase (n : Nat) : Nat := n * 0x08000000

/-- Bytes of a slot. -/
def slotSize : Nat := 0x08000000

/-- The areas of slot 7 (R124): boot header copies A and B, the firmware area, the calibration area. -/
def headerA : Nat := slotBase 7
def headerB : Nat := slotBase 7 + 0x8000
def firmwareArea : Nat := slotBase 7 + 0x100000
def calibrationArea : Nat := slotBase 7 + 0x500000

/-- A store byte. -/
def State.nvByte (s : State) (a : Nat) : Byte := Sparse.get 0 s.cfg.store a

/-- A little-endian store word. -/
def State.nvWord (s : State) (a : Nat) : Word :=
  s.nvByte (a + 3) ++ s.nvByte (a + 2) ++ s.nvByte (a + 1) ++ s.nvByte a

/-- n store bytes from an address on. -/
def State.nvBytes (s : State) (a n : Nat) : List Byte := (List.range n).map fun i => s.nvByte (a + i)

/-- The state with a store byte written. -/
def State.setNvByte (s : State) (a : Nat) (b : Byte) : State :=
  s.putCfg { s.cfg with store := Sparse.set 0 s.cfg.store a b }

/-- The state with a store word written. -/
def State.setNvWord (s : State) (a : Nat) (w : Word) : State :=
  (((s.setNvByte a (w.setWidth 8)).setNvByte (a + 1) ((w >>> 8).setWidth 8)).setNvByte (a + 2) ((w >>> 16).setWidth 8)).setNvByte
    (a + 3) ((w >>> 24).setWidth 8)

/-- The state with n store bytes from an address on erased: an erased area reads 0 (R422). -/
def State.eraseNv (s : State) (a n : Nat) : State :=
  s.putCfg { s.cfg with store := s.cfg.store.filter fun kv => !(decide (a ≤ kv.1 ∧ kv.1 < a + n)) }

end Sys2Proof.Machine
end

