-- ==== Sys2Proof/Machine/Seq.lean ====
section
/-! DEFINITION. The sequencer (R373 to R380): core memories, aperture and far-window accesses, FENCE, the boot ROM's
firmware load, interrupt controllers. -/

namespace Sys2Proof.Machine

-- ------------------------------------------------------------------ cores

/-- Core n exists and its region is on. -/
def State.corePresent (s : State) (n : Nat) : Bool := decide (n < Part.cores s.part) && s.seqPowered

/-- Core n executes: it is not STOPPED and no debugger holds it. -/
def State.coreRuns (s : State) (n : Nat) : Bool :=
  s.corePresent n && s.funcState (.core n) != 0 && !s.on F.DBG_CORE_RC_HALTED n

/-- Core n waits for an access or a FENCE. -/
def State.coreStalled (s : State) (n : Nat) : Bool := (s.core n).access.isSome || (s.core n).fencing != 0

/-- A general register. -/
def State.coreX (s : State) (n r : Nat) : Word := Sparse.get 0 (s.core n).x (r % 32)

/-- The state with a general register written; x0 stays 0. -/
def State.setCoreX (s : State) (n r : Nat) (v : Word) : State :=
  if r % 32 = 0 then s else s.setCore n { s.core n with x := Sparse.set 0 (s.core n).x (r % 32) v }

/-- Priority of input i of core n. -/
def State.inputPriority (s : State) (n i : Nat) : Nat := fieldOf (s.word .SEQ_IC_PRIO (5 * n + i / 8)) (4 * (i % 8)) 3

/-- Inputs of core n that are pending. -/
def State.pendingInputs (s : State) (n : Nat) : List Nat :=
  (List.range 40).filter fun i => (s.pair .SEQ_IC_PEND_LO .SEQ_IC_PEND_HI n).testBit i

/-- The machine external interrupt of core n (R380): an input that is pending and enabled has a priority above THRESH. -/
def State.externalInterrupt (s : State) (n : Nat) : Bool :=
  (s.pendingInputs n).any fun i =>
    (s.pair .SEQ_IC_EN_LO .SEQ_IC_EN_HI n).testBit i && decide (s.f F.SEQ_IC_THRESH_THRESH n < s.inputPriority n i)

/-- A machine CSR: the time CSRs return TIME, and mip.MEIP shows the external interrupt (R380). -/
def State.coreCsr (s : State) (n c : Nat) : Word :=
  if c = 0xC01 then s.now.setWidth 32
  else if c = 0xC81 then (s.now >>> 32).setWidth 32
  else if c = 0x344 then
    (Sparse.get 0 (s.core n).csrs c &&& 0xFFFFF7FF#32) ||| (if s.externalInterrupt n then 0x800 else 0)
  else Sparse.get 0 (s.core n).csrs c

/-- The state with a machine CSR written. -/
def State.setCoreCsr (s : State) (n c : Nat) (v : Word) : State :=
  s.setCore n { s.core n with csrs := Sparse.set 0 (s.core n).csrs c v }

/-- Core n traps to a pc, as RISC-V's machine mode lays down: mepc, mcause, mtval and the interrupt-enable stack of
mstatus. A trap clears the reservation (R374). -/
def State.coreTrapTo (s : State) (n cause tval : Nat) (pc : Word) : State :=
  let status := s.coreCsr n 0x300
  let mpie := if status.getLsbD 3 then 0x80#32 else 0
  let s := s.setCoreCsr n 0x341 (s.core n).pc
  let s := s.setCoreCsr n 0x342 (BitVec.ofNat 32 cause)
  let s := s.setCoreCsr n 0x343 (BitVec.ofNat 32 tval)
  let s := s.setCoreCsr n 0x300 ((status &&& 0xFFFFE777#32) ||| mpie ||| 0x1800#32)
  s.setCore n { s.core n with pc := pc, reserve := none }

/-- A core takes an exception: the pc goes to mtvec. -/
def State.coreTrap (s : State) (n cause tval : Nat) : State :=
  s.coreTrapTo n cause tval (s.coreCsr n 0x305 &&& 0xFFFFFFFC#32)

/-- A core is to take the machine external interrupt (R380): mstatus.MIE, mie.MEIE and mip.MEIP are 1. -/
def State.coreInterrupted (s : State) (n : Nat) : Bool :=
  (s.coreCsr n 0x300).getLsbD 3 && (s.coreCsr n 0x304).getLsbD 11 && s.externalInterrupt n

/-- A core takes it, ahead of the instruction at its pc; mtvec may be vectored (PRESUMED, assumption 213). -/
def State.takeInterrupt (s : State) (n : Nat) : State :=
  let vec := s.coreCsr n 0x305
  s.coreTrapTo n 0x8000000B 0 ((vec &&& 0xFFFFFFFC#32) + (if vec.getLsbD 0 then 44 else 0))

/-- SEQ.FAULT takes the last faulting access (R374, R375). -/
def State.coreFault (s : State) (n err addr : Nat) : State :=
  let s := s.setF F.SEQ_FAULT_ERR n err
  let s := s.raise F.SEQ_FAULT_VALID n
  s.setPair .SEQ_FAULT_ADDR_LO .SEQ_FAULT_ADDR_HI n (addr % 2 ^ 48)

-- ------------------------------------------------------------------ local memory (R373, R374)

/-- What lies at a core address. -/
inductive Region where
  | itcm | dtcm | rom | sram | aperture | far | none
  deriving DecidableEq, Repr

/-- The local address map (R373). -/
def regionOf (a : Nat) : Region :=
  if a < 0x10000 then .itcm
  else if a < 0x20000 then .dtcm
  else if 0x08000000 ≤ a ∧ a < 0x08008000 then .rom
  else if 0x10000000 ≤ a ∧ a < 0x10100000 then .sram
  else if 0x30000000 ≤ a ∧ a < 0x40000000 then .aperture
  else if 0x40000000 ≤ a ∧ a < 0x50000000 then .far
  else .none

/-- The word at a core address of a TCM, the ROM or the SRAM. -/
def State.localWord (s : State) (n a : Nat) : Word :=
  match regionOf a with
  | .itcm | .dtcm => Sparse.get 0 s.seq.tcm (0x8000 * n + a / 4)
  | .sram => Sparse.get 0 s.seq.sram ((a - 0x10000000) / 4)
  | .rom => Config.bootRom ((a - 0x08000000) / 4)
  | _ => 0

/-- The state with the word at a core address of a TCM or the SRAM written. -/
def State.setLocalWord (s : State) (n a : Nat) (v : Word) : State :=
  match regionOf a with
  | .itcm | .dtcm => s.putSeq { s.seq with tcm := Sparse.set 0 s.seq.tcm (0x8000 * n + a / 4) v }
  | .sram => s.putSeq { s.seq with sram := Sparse.set 0 s.seq.sram ((a - 0x10000000) / 4) v }
  | _ => s

/-- The kinds of access of R373. -/
inductive AccessKind where
  | fetch | load | store | atomic
  deriving DecidableEq, Repr

/-- The kind of a local access; LR loads and SC stores, both atomically. -/
def kindOf : LocalAccess → AccessKind
  | .fetch => .fetch
  | .load _ _ _ => .load
  | .store _ _ => .store
  | .lr _ | .sc _ _ | .amo _ _ _ => .atomic

/-- The last column of R373. -/
def allowed : Region → AccessKind → Bool
  | .itcm, .atomic => false
  | .itcm, _ => true
  | .dtcm, .fetch => false
  | .dtcm, _ => true
  | .rom, .fetch => true
  | .rom, .load => true
  | .sram, _ => true
  | .aperture, .load | .aperture, .store | .far, .load | .far, .store => true
  | _, _ => false

/-- mcause of the access fault of an access's kind; LR faults as a load, SC and AMO as a store. -/
def faultCause : LocalAccess → Nat
  | .fetch => 1
  | .load _ _ _ | .lr _ => 5
  | _ => 7

/-- The bytes of an access. -/
def accessBytes : LocalAccess → Nat
  | .fetch => 2
  | .load b _ _ | .store b _ => b
  | _ => 4

/-- The access reads its word. -/
def readsWord : LocalAccess → Bool
  | .store b _ => decide (b < 4)
  | .sc _ _ => false
  | _ => true

/-- b bytes of a word from byte k on. -/
def bytesOf (w : Word) (k b : Nat) : Nat := w.toNat / 2 ^ (8 * k) % 2 ^ (8 * b)

/-- A loaded value, extended to a register. -/
def extend (v b : Nat) (signed : Bool) : Word :=
  BitVec.ofNat 32 (if signed && decide (2 ^ (8 * b - 1) ≤ v) && decide (b < 4) then v + 2 ^ 32 - 2 ^ (8 * b) else v)

/-- A read-modify-write operation of RV32A. -/
def amoValue (op : Amo) (old data : Word) : Word :=
  match op with
  | .swap => data
  | .add => old + data
  | .xor => old ^^^ data
  | .and => old &&& data
  | .or => old ||| data
  | .min => if old.toInt < data.toInt then old else data
  | .max => if old.toInt < data.toInt then data else old
  | .minu => if old.toNat < data.toNat then old else data
  | .maxu => if old.toNat < data.toNat then data else old

/-- A store to shared SRAM by core n clears the other cores' reservations of the granule (R374). -/
def State.clearOthers (s : State) (n a : Nat) : State :=
  if regionOf a = .sram then
    ((List.range 4).filter (· != n)).foldl
      (fun s m => if (s.core m).reserve = some (a / 64) then s.setCore m { s.core m with reserve := none } else s) s
  else s

/-- A stored value reaches its word: fewer than 4 bytes merge into it (R374). -/
def State.localStore (s : State) (n a b : Nat) (data : Word) : State :=
  let old := s.localWord n a
  let v := withField old (8 * (a % 4)) (8 * b) data.toNat
  (s.setLocalWord n (a / 4 * 4) v).clearOthers n a

/-- The effect of an allowed, aligned access whose word is good. -/
def State.localDo (s : State) (n a : Nat) (x : LocalAccess) : State :=
  match x with
  | .fetch => s
  | .load b signed rd => s.setCoreX n rd (extend (bytesOf (s.localWord n a) (a % 4) b) b signed)
  | .store b data => s.localStore n a b data
  | .lr rd =>
    let s := s.setCoreX n rd (s.localWord n a)
    s.setCore n { s.core n with reserve := some (a / 64) }
  | .sc rd data =>
    let held := (s.core n).reserve == some (a / 64)
    let s := s.setCore n { s.core n with reserve := none }
    if held then (s.localStore n a 4 data).setCoreX n rd 0 else s.setCoreX n rd 1
  | .amo op rd data =>
    let old := s.localWord n a
    (s.localStore n a 4 (amoValue op old data)).setCoreX n rd old

/-- A core's access to its TCMs, the boot ROM or the shared SRAM (R373, R374), with what its ECC finds: an uncorrectable word
raises a load or instruction access fault. A fetch begins an instruction, ahead of which the core takes an interrupt. An
access of this kind to the aperture or far window that R373 allows is another command. -/
def State.localAccess (s : State) (n a : Nat) (x : LocalAccess) (found : EccFinding) : State :=
  let g := regionOf a
  let s := if x = .fetch then s.setCore n { s.core n with pc := BitVec.ofNat 32 a } else s
  if x = .fetch ∧ s.coreInterrupted n = true then s.takeInterrupt n
  else if !allowed g (kindOf x) then s.coreTrap n (faultCause x) a
  else if g = .aperture ∨ g = .far then s
  else if a % max 1 (accessBytes x) ≠ 0 then s.coreTrap n (faultCause x - 1) a
  else
    match (if readsWord x && g != .rom then found else .clean) with
    | .clean => s.localDo n a x
    | .corrected _ => (s.bump F.SEQ_MEM_ECC_CORRECTED 0 1).localDo n a x
    | .uncorrectable _ => ((s.bump F.SEQ_MEM_ECC_UNCORR 0 1).coreFault n 0xFF a).coreTrap n (if x = .fetch then 1 else 5) a

-- ------------------------------------------------------------------ aperture and far window (R375)

/-- An access becomes a request from NI 0x94 + n; a posted store does not stall. -/
def State.coreRequest (s : State) (n : Nat) (a : CoreAccess) (data : Word) (posted : Bool) : State :=
  let ni := 0x94 + n
  let cmd : Cmd := if !a.store then .rd else if posted then .wrp else .wr
  let bytes := if a.store then toBytes a.bytes data.toNat else []
  if !s.niTakes ni || (!posted && (s.freeTag ni).isNone) then s
  else
    let s :=
      if posted then
        match decodeAddr s.part a.addr with
        | .ni d => s.setCore n { s.core n with posted := Sparse.insert (s.core n).posted d a.addr }
        | _ => s
      else s.setCore n { s.core n with access := some a }
    s.request ni ⟨cmd, a.addr, a.bytes - 1, [], 0, bytes, false, false, false, 0, .core n⟩

/-- A core load or store in the CSR aperture, at aperture offset x (R373, R375): aligned, of 4 bytes. -/
def State.apertureAccess (s : State) (n x bytes rd : Nat) (store : Option Word) : State :=
  let a := 0x30000000 + x
  if !s.coreRuns n || s.coreStalled n || 0x10000000 ≤ x then s
  else if bytes ≠ 4 ∨ x % 4 ≠ 0 then s.coreTrap n (if store.isSome then 7 else 5) a
  else s.coreRequest n ⟨store.isSome, csrBase + x, a, rd, 4, false⟩ (store.getD 0) false

/-- A core load or store in the far window, at window offset y (R373, R375): 1, 2 or 4 bytes, naturally aligned. -/
def State.farAccess (s : State) (n y bytes rd : Nat) (signed : Bool) (store : Option Word) : State :=
  let a := 0x40000000 + y
  let addr := (s.pair .SEQ_FAR_BASE_LO .SEQ_FAR_BASE_HI n + y) % 2 ^ 48
  if !s.coreRuns n || s.coreStalled n || 0x10000000 ≤ y then s
  else if (bytes ≠ 1 ∧ bytes ≠ 2 ∧ bytes ≠ 4) ∨ y % max 1 bytes ≠ 0 then s.coreTrap n (if store.isSome then 7 else 5) a
  else s.coreRequest n ⟨store.isSome, addr, a, rd, bytes, signed⟩ (store.getD 0) (store.isSome && s.on F.SEQ_FAR_CTRL_POSTED n)

/-- The response of an access (R375): a load's value, or a precise access fault. -/
def State.coreAnswer (s : State) (n : Nat) (x : Completion) : State :=
  match (s.core n).access with
  | none => s
  | some a =>
    let s := s.setCore n { s.core n with access := none }
    match x.answer with
    | .rspErr => (s.coreFault n x.err a.addr).coreTrap n (if a.store then 7 else 5) a.core
    | .rspData => if a.store then s else s.setCoreX n a.rd (extend (fromBytes (x.data.take a.bytes)) a.bytes a.signed)
    | _ => s

/-- A FENCE whose successor set holds a memory access (R375): one WR with no enabled byte to each NI posted to since the
last FENCE. -/
def State.coreFence (s : State) (n : Nat) (memory : Bool) : State :=
  if !s.coreRuns n || s.coreStalled n || !memory || !s.niTakes (0x94 + n) then s
  else
    let ds := (s.core n).posted
    let s := s.setCore n { s.core n with posted := [], fencing := ds.length }
    ds.foldl
      (fun s kv =>
        s.request (0x94 + n)
          ⟨.wr, kv.2 / 4 * 4, 3, List.replicate 4 false, 0, toBytes 4 0, false, false, false, 0, .coreFence n⟩) s

/-- A WR of a FENCE is answered; the FENCE completes with the last one. -/
def State.coreFenceAnswer (s : State) (n : Nat) : State :=
  s.setCore n { s.core n with fencing := (s.core n).fencing - 1 }

-- ------------------------------------------------------------------ boot (R376 to R378)

/-- A word of SEQ_BOOT: 0 FW_EN and CORE_EN, 1 FW_LEN, 2 RESET_PC. -/
def State.seqBoot (s : State) (i : Nat) : Word := s.cfg.header.seqBoot.getD i 0

/-- A TCM segment goes to the TCMs its CORES bits name; an SRAM segment goes to the SRAM. -/
def State.segmentWord (s : State) (a cores : Nat) (w : Word) : State :=
  if regionOf a = .sram then s.setLocalWord 0 a w
  else
    ((List.range (Part.cores s.part)).filter fun n => cores.testBit n).foldl (fun s n => s.setLocalWord n a w) s

/-- A segment lies wholly in one memory. -/
def segmentFits (dest len : Nat) : Bool :=
  let g := regionOf dest
  (g == .itcm || g == .dtcm || g == .sram) && g == regionOf (dest + len - 1) && dest % 4 == 0 && len % 4 == 0

/-- The segments from an offset of the firmware area on: whether every one fitted, and the state with them copied. -/
def State.copySegments (s : State) (o last : Nat) : Nat → Bool × State
  | 0 => (false, s)
  | k + 1 =>
    let at' (i : Nat) : Word := s.nvWord (firmwareArea + o + i)
    let dest := (at' 0).toNat
    let len := (at' 4).toNat
    let cores := (s.nvByte (firmwareArea + o + 8)).toNat
    if last < o + 16 then (false, s)
    else if len = 0 then (true, s)
    else if !segmentFits dest len || last < o + 16 + len then (false, s)
    else
      let s := (List.range (len / 4)).foldl
        (fun s i => s.segmentWord (dest + 4 * i) cores (s.nvWord (firmwareArea + o + 16 + 4 * i))) s
      s.copySegments (o + 16 + len) last k

/-- The firmware does not start: the cause, the SEQ event and a ledger entry with origin BOOT. -/
def State.firmwareFails (s : State) (cause : Nat) : State :=
  let s := s.setF F.SEQ_BOOT_STATUS_CAUSE 0 cause
  (s.raise F.SEQ_BOOT_STATUS_FAILED 0).journalEvent 0x40 .SEQ_BOOT_STATUS 0 0

/-- The boot ROM checks and copies the firmware segments (R378); readError says that the store could not be read. -/
def State.firmwareLoad (s : State) (readError : Bool) : State :=
  let len := (s.seqBoot 1).toNat % 2 ^ 23
  if !s.ledger.ready || !s.seqPowered || s.on F.SEQ_BOOT_STATUS_LOADED 0 || s.f F.SEQ_BOOT_STATUS_CAUSE 0 ≠ 0 then s
  else if !(s.seqBoot 0).getLsbD 0 then s.firmwareFails 1
  else if 0x400000 < len then s.firmwareFails 4
  else if readError then s.firmwareFails 5
  else if len < 4 ∨ crcOfBytes (s.nvBytes firmwareArea (len - 4)) ≠ s.nvWord (firmwareArea + len - 4) then s.firmwareFails 2
  else
    let (fits, s) := s.copySegments 0 (len - 4) (len / 16 + 1)
    if fits then s.raise F.SEQ_BOOT_STATUS_LOADED 0 else s.firmwareFails 3

-- ------------------------------------------------------------------ the stop protocol (R379)

/-- A core enters RUN at CORE_CTRL.PC; HALT_ON_RESET asks for a halt before its first instruction (R427). -/
def State.coreRun (s : State) (n : Nat) : State :=
  let v := s.core n
  let s := if s.on F.DBG_CORE_RC_HALT_ON_RESET n then
      s.putDbg { s.dbg with haltDue := Sparse.insert s.dbg.haltDue n 6 } else s
  let s := (s.setFunc (.core n) 1).setF F.SEQ_CORE_STATUS_IN_ROM n 0
  s.setCore n { coreInit with x := v.x, pc := s.word .SEQ_CORE_PC n, timecmp := v.timecmp }

/-- A core has no access outstanding. -/
def State.coreIdle (s : State) (n : Nat) : Bool := !s.coreStalled n

/-- Requests of core n that wait at its NI no longer have a taker. -/
def State.coreForget (s : State) (n : Nat) : State :=
  let v := s.ni (0x94 + n)
  let forget := fun (t : Txn) => if t.use == Use.core n || t.use == Use.coreFence n then { t with use := .none } else t
  s.setNi (0x94 + n) { v with outstanding := v.outstanding.map forget }

/-- STOP_TIMEOUT of a core: outstanding accesses complete RSP_ERR ABORTED to it. -/
def State.coreAbort (s : State) (n : Nat) : State :=
  let v := s.core n
  let k := v.fencing + (if v.access.isSome then 1 else 0)
  let s := match v.access with
    | some a => s.coreFault n 6 a.addr
    | none => s
  ((s.setCore n { s.core n with access := none, fencing := 0 }).coreForget n).aborted (.core n) k

/-- A STOPPED core is held in reset at RESET_PC, with TCM content kept. -/
def State.coreHeld (s : State) (n : Nat) : State :=
  let v := s.core n
  s.setCore n { coreInit with x := v.x, pc := s.seqBoot 2, timecmp := v.timecmp }

/-- The cores of CORE_EN that do not run begin at RESET_PC at the START release tick (R378). -/
def State.coresStart (s : State) : State :=
  if !s.on F.SEQ_BOOT_STATUS_LOADED 0 then s
  else
    ((List.range (Part.cores s.part)).filter fun n => (s.seqBoot 0).getLsbD (4 + n) && s.funcState (.core n) == 0).foldl
      (fun s n =>
        let s := (s.storeWord s.self .SEQ_CORE_CTRL n (s.word .SEQ_CORE_CTRL n ||| 1#32)).coreRun n
        s.setCore n { s.core n with pc := s.seqBoot 2 }) s

-- ------------------------------------------------------------------ TCM windows

/-- The TCM word at a CSR offset: the core, and the word's key (SEQ registers). -/
def tcmAt (off : Nat) : Option (Nat × Nat) :=
  if 0x840000 ≤ off ∧ off < 0x8C0000 then
    some ((off - 0x840000) / 0x20000, 0x8000 * ((off - 0x840000) / 0x20000) + (off - 0x840000) % 0x20000 / 4)
  else none

/-- A write of a TCM word: while its core is not STOPPED it is refused as an RWQ write (R379). -/
def State.writeTcm (s : State) (who : Who) (off : Nat) (data : Word) : State :=
  match tcmAt off with
  | none => s
  | some (n, k) =>
    let old := Sparse.get 0 s.seq.tcm k
    if s.funcState (.core n) ≠ 0 then
      (s.raise F.SEQ_CORE_STATUS_RWQ_REFUSED n).journal who.origin 0x02 (256 * Reason.code .rwq + who.ni.toNat)
        ⟨off, old.toNat, data.toNat, 0⟩
    else s.putSeq { s.seq with tcm := Sparse.set 0 s.seq.tcm k data }

-- ------------------------------------------------------------------ interrupts and events (R380)

/-- The lowest-numbered input of the highest pending priority (R380). -/
def State.claimable (s : State) (n : Nat) : Option Nat :=
  (s.pendingInputs n).foldl
    (fun best i =>
      match best with
      | none => some i
      | some b => if s.inputPriority n b < s.inputPriority n i then some i else some b) none

/-- A read of IC_CLAIM clears the pending bit of the input it returns. -/
def State.claim (s : State) (n : Nat) : State :=
  match s.claimable n with
  | none => s
  | some i => s.setPair .SEQ_IC_PEND_LO .SEQ_IC_PEND_HI n (s.pair .SEQ_IC_PEND_LO .SEQ_IC_PEND_HI n - 2 ^ i)

/-- An edge input of core n becomes pending. -/
def State.coreInput (s : State) (n i : Nat) : State :=
  if n < Part.cores s.part then
    s.setPair .SEQ_IC_PEND_LO .SEQ_IC_PEND_HI n
      ((BitVec.ofNat 64 (s.pair .SEQ_IC_PEND_LO .SEQ_IC_PEND_HI n) ||| BitVec.ofNat 64 (2 ^ i)).toNat)
  else s

/-- SEQ.DOORBELL raises input 33 of the cores whose bits are 1 (R380). -/
def State.doorbell (s : State) (mask : BitVec 4) : State :=
  ((List.range 4).filter fun n => mask.getLsbD n).foldl (fun s n => s.coreInput n 33) s

/-- SEQ.EVT of core n enters source SEQ_EVT n into the Beam on the next tick (R276, R380). -/
def State.seqEvent (s : State) (n : Nat) : State :=
  if n < Part.cores s.part then s.enterNext (.source (40 + n)) else s

/-- MTIMECMP_REACHED: TIME reaches a core's MTIMECMP and input 36 becomes pending (R380). -/
def State.mtimecmpReached (s : State) (n : Nat) : State :=
  if !s.corePresent n then s else s.advanceNow (s.core n).timecmp.toNat

/-- A write of MTIMECMP_HI takes effect with the LO written before it. -/
def State.writeTimecmpHi (s : State) (who : Who) (n : Nat) (data : Word) : State :=
  let s := s.writeTyped who .SEQ_MTIMECMP_HI n data
  s.setCore n { s.core n with timecmp := data ++ s.word .SEQ_MTIMECMP_LO n }

/-- A write of FAR_BASE_LO that sets bits [27:0] is ignored. -/
def State.writeFarBase (s : State) (who : Who) (n : Nat) (data : Word) : State :=
  if data.toNat % 2 ^ 28 ≠ 0 then s else s.writeTyped who .SEQ_FAR_BASE_LO n data

end Sys2Proof.Machine
end

