-- ==== Sys2Proof/Machine/Wdog.lean ====
section
/-! DEFINITION. Watchdogs (R381, R382) and the power guard (R385, R386). -/

namespace Sys2Proof.Machine

/-- The watchdog exists: 0 to 3 with their cores, and 4, the system watchdog. -/
def dogPresent (p : Part) (w : Nat) : Bool := w == 4 || decide (w < Part.cores p)

/-- Watchdog w, when it is enabled. -/
def State.dog (s : State) (w : Nat) : Option Dog := (s.seq.dogs.find? (·.1 == w)).map (·.2)

/-- The state with an enabled watchdog replaced. -/
def State.setDog (s : State) (w : Nat) (d : Dog) : State :=
  s.putSeq { s.seq with dogs := Sparse.insert s.seq.dogs w d }

/-- The count is reloaded to LOAD; a paused watchdog stays paused (R381, R382). The system warning ends. -/
def State.dogReload (s : State) (w : Nat) (d : Dog) : State :=
  let s := if w = 4 then s.putDev { s.dev with sysWarning := false } else s
  s.setDog w { d with held := s.dogUs F.WDOG_LOAD_US w, since := d.since.map fun _ => s.time, warned := false }

/-- A write of WDOG.CTRL: EN is set and never cleared; ACTION is refused while EN = 1 (R381). -/
def State.writeWdogCtrl (s : State) (who : Who) (w : Nat) (data : Word) : State :=
  let en := s.on F.WDOG_CTRL_EN w
  let keep := en && (data.getLsbD 1 != s.on F.WDOG_CTRL_ACTION w) && w != 4
  let s := if keep then s.journalRefusal who .command .WDOG_CTRL w data.toNat else s
  let old := s.word .WDOG_CTRL w
  let data := if keep || w = 4 then withField data 1 1 (fieldOf old 1 1) else data
  let s := s.writeTyped who .WDOG_CTRL w data
  if s.on F.WDOG_CTRL_EN w && !en then
    s.setDog w { held := s.dogUs F.WDOG_LOAD_US w, since := some s.time, reason := 0, warned := false }
  else s

/-- A write of LOAD, WARN or GRACE, refused while EN = 1 (R381). -/
def State.writeWdogTime (s : State) (who : Who) (r : Reg) (w : Nat) (data : Word) : State :=
  if s.on F.WDOG_CTRL_EN w then s.journalRefusal who .command r w data.toNat else s.writeTyped who r w data

/-- Watchdog w takes kicks from an origin (R381). -/
def kickFrom (w : Nat) (o : BitVec 8) : Bool := w == 4 || o.toNat == 0x10 + w || o == 2 || o == 3

/-- A write of KICK (R381): a good one reloads the count unless it has reached 0. -/
def State.writeKick (s : State) (who : Who) (w : Nat) (data : Word) : State :=
  if !dogPresent s.part w then s
  else if data.toNat % 65536 ≠ 0x6B1D ∨ kickFrom w who.origin = false then s.raise F.WDOG_STATUS_BAD_KICK w
  else
    match s.dog w with
    | some d => if s.dogCount d = 0 then s else s.dogReload w d
    | none => s

/-- The tick of the nth microsecond boundary of TIME after a tick. -/
def State.boundaryTick (s : State) (a : DWord) (n : Nat) : DWord :=
  if n = 0 then a else BitVec.ofNat 64 (((a + s.timeOffset).toNat / 1500 + n) * 1500) - s.timeOffset

/-- A watchdog count reaches WARN (R381). -/
def State.dogWarn (s : State) (w : Nat) : State :=
  match s.dog w with
  | some d =>
    match d.since with
    | some t =>
      let warn := s.dogUs F.WDOG_WARN_US w
      if d.warned || d.held < warn then s
      else
        let s := s.advanceTo (s.boundaryTick t (d.held - warn))
        let s := s.setDog w { d with warned := true }
        if w = 4 then s.putDev { s.dev with sysWarning := true } else s.coreInput w 35
    | none => s
  | none => s

/-- A watchdog count reaches 0 (R381): the status, a ledger entry, and what the watchdog does. The reset it asks for acts
after the entry. -/
def State.dogExpire (s : State) (w : Nat) : State :=
  match s.dog w with
  | some d =>
    match d.since with
    | some t =>
      let s := s.advanceTo (s.boundaryTick t d.held)
      let s := s.bump F.WDOG_STATUS_EXPIRIES w 1
      let s := (s.raise F.WDOG_STATUS_EXPIRED w).journalEvent s.ownOrigin .WDOG_STATUS w 0
      let due : Due := if w = 4 || s.on F.WDOG_CTRL_ACTION w then .sysReset 2 0x30 else .coreReset w true
      let s := s.dogReload w d
      (s.putDev { s.dev with due := s.dev.due ++ [due] })
    | none => s
  | none => s

-- ------------------------------------------------------------------ the power ceiling (R385, R386)

/-- The ceiling in force: the lower nonzero value of CEIL_IMG and CEIL_FW; 0 is none. -/
def State.ceiling (s : State) : Nat :=
  let a := s.f F.SEQ_POWER_CEIL_CEIL_IMG 0
  let b := s.f F.SEQ_POWER_CEIL_CEIL_FW 0
  if a = 0 then b else if b = 0 then a else min a b

/-- A write of POWER_CEIL: CEIL_FW above the image's ceiling is refused. -/
def State.writePowerCeil (s : State) (who : Who) (data : Word) : State :=
  let img := s.f F.SEQ_POWER_CEIL_CEIL_IMG 0
  let fw := fieldOf data 16 10
  if img ≠ 0 ∧ img < fw then
    let s := (s.raise F.SEQ_GUARD_STATUS_CEIL_REFUSED 0).journalRefusal who .command .SEQ_POWER_CEIL 0 data.toNat
    s.writeTyped who .SEQ_POWER_CEIL 0 (withField data 16 10 (s.f F.SEQ_POWER_CEIL_CEIL_FW 0))
  else s.writeTyped who .SEQ_POWER_CEIL 0 data

/-- A throttling is recorded, at most once per second (R386). -/
def State.throttleRecord (s : State) : State :=
  let s := s.raise F.SEQ_GUARD_STATUS_THROTTLED 0
  if s.seq.throttleTold.any fun t => decide (s.time.toNat < t.toNat + 1000000 * ticksPerUs) then s
  else
    (s.putSeq { s.seq with throttleTold := some s.time }).journalEvent s.ownOrigin .SEQ_GUARD_STATUS 0 0

/-- The power estimate of the next 10 µs (R386): the throttle level rises above the ceiling and falls below 0.95 of it. -/
def State.powerEstimate (s : State) (watts : Nat) : State :=
  let s := s.advanceTo (BitVec.ofNat 64 ((s.time.toNat / (10 * ticksPerUs) + 1) * (10 * ticksPerUs)))
  let s := s.setF F.SEQ_POWER_NOW_WATTS 0 (min 1023 watts)
  let k := s.f F.SEQ_GUARD_STATUS_LEVEL 0
  let c := s.ceiling
  if c ≠ 0 ∧ c < watts then
    let s := s.setF F.SEQ_GUARD_STATUS_LEVEL 0 (min 15 (k + 1))
    if k < 15 then s.throttleRecord else s
  else if c = 0 ∨ 100 * watts < 95 * c then s.setF F.SEQ_GUARD_STATUS_LEVEL 0 (k - 1)
  else s

end Sys2Proof.Machine
end

