-- ==== Sys2Proof/Machine/Pins.lean ====
section
/-! DEFINITION. User pins: pin stations and their inputs (R83 to R86), pad records and functions (R390 to R395), GPIO (R396), external
interrupt lines (R397). -/

namespace Sys2Proof.Machine

-- ------------------------------------------------------------------ stations (R83 to R86)

/-- A station before its first bead: it drives nothing. -/
def stationInit : Station :=
  { out := 2, offer := none, last := none, waiting := none, raw := false, since := 0, level := false, sampledTo := none }

/-- The station of user pin p. -/
def State.pinStation (s : State) (p : Nat) : Station := Sparse.get stationInit s.fabric.stations p

/-- The state with a station replaced. -/
def State.setPinStation (s : State) (p : Nat) (v : Station) : State :=
  s.putFabric { s.fabric with stations := Sparse.set stationInit s.fabric.stations p v }

/-- DIR of a station: bit 0 output, bit 1 input. -/
def State.stationDir (s : State) (p : Nat) : Nat := recBits (s.stationRecord p) 0 2
/-- OUT_MODE, IN_MODE, OUT_CLK, IN_CLK of a station. -/
def State.stationOutMode (s : State) (p : Nat) : Nat := recBits (s.stationRecord p) 2 2
def State.stationInMode (s : State) (p : Nat) : Nat := recBits (s.stationRecord p) 4 2
def State.stationOutClk (s : State) (p : Nat) : Nat := recBits (s.stationRecord p) 6 3
def State.stationInClk (s : State) (p : Nat) : Nat := recBits (s.stationRecord p) 9 3

/-- A pin timing clock of the time base (R86): N and PHASE; none for a clock that is unused or runs from a pin. -/
def State.ptcTicks (s : State) (c : Nat) : Option (Nat × Nat) :=
  let r := s.ptc c
  if recBits r 0 1 = 0 ∧ recBits r 1 12 ≠ 0 then some (recBits r 1 12, recBits r 13 12) else none

/-- A pin timing clock runs from a pin. -/
def State.ptcFromPin (s : State) (c : Nat) : Bool := recBits (s.ptc c) 0 1 == 1

/-- Ticks from TIME t to the first qualifying tick at or after it. -/
def ticksToEdge (t n phase : Nat) : Nat := (n + phase - t % n) % n

/-- The pin is isolated by its span, or the fabric behind it is gated or frozen. -/
def State.pinBarred (s : State) (p : Nat) : Bool :=
  s.gated (homeRod s.part p) || s.frozen (homeRod s.part p)

-- ------------------------------------------------------------------ pads (R388, R393, R395)

/-- Bank of a pin. -/
def bankOf (p : Nat) : Nat := p / 16

/-- The pin's bank is supplied (R388). -/
def State.bankOn (s : State) (p : Nat) : Bool := s.f F.PIN_BANK_STATUS_LEVEL (bankOf p) != 0

/-- The stations an F1 pin combines (R393). -/
def State.padStations (s : State) (p : Nat) : List Nat :=
  let osm := s.f F.PIN_PAD_OSM p
  if osm = 0 then [p]
  else ((List.range 4).filter fun j => osm.testBit j).map fun j => 16 * (p / 16) + 4 * (p % 16 / 4) + j

/-- A pad that a level drives; with OD, driving high is release. -/
def State.padDriven (s : State) (p : Nat) (level : Bool) : PadState :=
  if !level then .low else if s.on F.PIN_PAD_OD p then .released else .high

/-- SPI unit u. -/
def State.spi (s : State) (u : Nat) : SpiUnit := Sparse.get ⟨[], [], none⟩ s.periph.spi u

/-- UART u. -/
def State.uart (s : State) (u : Nat) : UartUnit := Sparse.get ⟨[], [], none⟩ s.periph.uart u

/-- The output of pin timer t. -/
def State.ptLevel (s : State) (t : Nat) : Bool :=
  match s.periph.pt.find? (·.1 == t) with
  | some (_, v) =>
    s.on F.PT_CTRL_OUT_EN t && (v.out || v.pulseEnd.any fun e => decide (s.time.toNat < e.toNat))
  | none => false

/-- SCK of SPI u stands at CPOL while the unit is on (SPI.CTRL), low while it is off (R412). -/
def State.spiClock (s : State) (u : Nat) : Bool := s.on F.SPI_CTRL_EN u && (s.f F.SPI_CTRL_MODE u).testBit 1

/-- RTS# of UART u is asserted under flow control while the RX FIFO holds fewer than 28 bytes (UART.CTRL); without flow
control it is not (DESIGN CHOICE, assumption 216). -/
def State.rtsOn (s : State) (u : Nat) : Bool :=
  s.on F.UART_CTRL_EN u && s.on F.UART_CTRL_FLOW u && decide ((s.uart u).rx.length < 28)

/-- What a pad's function drives (R391, R393, R396, R412). The bits of a transfer go outward as a whole (`Out`): SCL, SDA,
MOSI, TXD and the PMBus lines stand at their idle levels, and SCK as between bits. -/
def State.padFunction (s : State) (p : Nat) : PadState :=
  let i := p / 16
  let n := p % 16
  match s.padFunc p with
  | 0 =>
    if (s.f F.PIN_GPIO_OE_BITS i).testBit n then s.padDriven p ((s.f F.PIN_GPIO_OUT_BITS i).testBit n) else .released
  | 1 =>
    let held := (s.padStations p).map fun q => (s.pinStation q).out
    if held.any (· == 1) then s.padDriven p true else if held.any (· == 0) then .low else .released
  | 3 =>
    match n % 4 with
    | 0 => s.padDriven p (s.spiClock (n / 4))
    | 1 => .low
    | 3 => s.padDriven p (s.spi (n / 4)).sending.isNone
    | _ => .released
  | 4 =>
    match n % 4 with
    | 0 => s.padDriven p true
    | 2 => s.padDriven p (!s.rtsOn (n / 4))
    | _ => .released
  | 5 => if n % 4 = 3 then s.padDriven p (s.on F.PMB_CTRL_CONTROL 0) else .released
  | 6 => s.padDriven p (s.ptLevel (n % 8))
  | _ => .released

/-- A pin's isolation state (R160). -/
def State.pinIso (s : State) (p : Nat) : PadState :=
  match frameBits (s.cfg.pinIso.setWidth 4096) (4 * p) 4 with
  | 0 => Sparse.get .released s.pins.held p
  | 2 => .low
  | 3 => .high
  | 4 => .weakUp
  | _ => .off

/-- The pin belongs to a span that is not RUNNING: from its isolation tick on (R161, R395). -/
def State.pinSpanHeld (s : State) (p : Nat) : Bool :=
  decide (p < 192) && s.cfg.spans.any fun d =>
    d.pins.getLsbD p && s.spanState d.id != 1 && s.spanState d.id != 2 && !s.cfg.spanReleased.contains d.id

/-- An F1 pin loses its fabric (R395): FABRIC_OFF or STANDBY, its home rod's region off, or its home rod lost. -/
def State.pinFabricLost (s : State) (p : Nat) : Bool :=
  let rod := homeRod s.part p
  let dev := s.f F.PWR_STATE_STATUS_STATE 0
  decide (p < 192) && s.padFunc p == 1 &&
  (dev == 1 || dev == 2 || !(s.word .PWR_REGION_STATUS 0).getLsbD (rod / 32) || s.lostRod rod)

/-- The boundary register has taken the controllable pins (R417): EXTEST, CLAMP or HIGHZ is selected. -/
def State.boundaryHas (s : State) : Bool := s.dbg.ir == 0 || s.dbg.ir == 3 || s.dbg.ir == 4

/-- What the boundary register makes a pad show: its own content, or nothing driven. -/
def State.boundaryPad (s : State) (p : Nat) : PadState :=
  if s.dbg.ir = 4 then .off
  else if !(s.dbg.boundary.getD (p / 32) 0).getLsbD (p % 32) then .off
  else if (s.dbg.boundary.getD (7 + p / 32) 0).getLsbD (p % 32) then .high else .low

/-- What a pad shows: the boundary register's state, or the first row of R395 that applies. -/
def State.padState (s : State) (p : Nat) : PadState :=
  if s.boundaryHas then s.boundaryPad p
  else if s.dev.porst || !s.on F.DEV_STATUS_USER_MODE 0 then .cfgPull
  else if !s.bankOn p then .off
  else if s.f F.PWR_STATE_STATUS_STATE 0 = 3 then
    (if p < 192 then .off else if s.padFunc p = 0 then s.padFunction p else .released)
  else if s.fabric.brownout && decide (p < 192) && s.padFunc p == 1 then Sparse.get .released s.pins.held p
  else if s.pinSpanHeld p || s.pinFabricLost p then s.pinIso p
  else
    match s.pins.switching.find? (·.1 == p) with
    | some (_, w) => .keeper w.level
    | none => s.padFunction p

/-- The level the outside, with the pad's pull, puts on a pad that the device does not drive. -/
def State.padOutside (s : State) (p : Nat) : Bool := Sparse.get false s.fabric.padIn p

/-- The level at a pad as its input sees it (R388). -/
def State.padLevel (s : State) (p : Nat) : Bool :=
  if !s.bankOn p then false
  else
    match s.padState p with
    | .low => false
    | .high => true
    | .keeper v => v
    | _ => s.padOutside p

/-- The pads of a list that HOLD_LAST keeps are noted as they stand (R160). -/
def State.holdPads (s : State) (ps : List Nat) : State :=
  ps.foldl
    (fun s p =>
      s.putPins { s.pins with held := Sparse.insert s.pins.held p (s.padState p) }) s

-- ------------------------------------------------------------------ station inputs (R83, R85)

/-- The ticks a level must hold before a station's input sees it: FILTER (R83). -/
def State.filterTicks (s : State) (p : Nat) : Nat :=
  match recBits (s.stationRecord p) 12 3 with
  | 0 => 0
  | m => 2 ^ m

/-- The level a station's input sees: that of the pad once it has held for FILTER (R83). -/
def State.stationLevel (s : State) (p : Nat) : Bool :=
  let st := s.pinStation p
  if st.since.toNat + s.filterTicks p ≤ s.time.toNat then st.raw else st.level

/-- The bead a station's input channel presents (R85): in CHANGE mode it carries the level at the moment it is taken. -/
def State.stationBead (s : State) (p : Nat) : Option Digit :=
  let level : Digit := if s.stationLevel p then 1 else 0
  if !(s.stationDir p).testBit 1 then none
  else
    match s.stationInMode p with
    | 0 => some level
    | 2 => (s.pinStation p).offer.map fun _ => level
    | _ => (s.pinStation p).offer

/-- The consumer takes a station's input bead. -/
def State.stationTaken (s : State) (p : Nat) : State :=
  match s.stationBead p with
  | some v => s.setPinStation p { s.pinStation p with offer := none, last := some (v == 1) }
  | none => s

-- ------------------------------------------------------------------ pad records (R390, R394)

/-- Ticks of a pin-control cycle: 10 ns from the reference, 40 ns from the oscillator (R394). -/
def State.pinCycle (s : State) : Nat := if s.on F.TIME_STATUS_LOCK 0 then 15 else 60

/-- A pad record with a reserved encoding, or F1 on bank W (R390, R391). -/
def padBad (p : Nat) (data : Word) : Bool :=
  decide (6 ≤ fieldOf data 3 3) || (decide (192 ≤ p) && fieldOf data 0 3 == 1)

/-- A pin is protected (R385). -/
def State.pinProtected (s : State) (p : Nat) : Bool :=
  s.guardLocked && (s.word .SEQ_GUARD_PINS (p / 32)).getLsbD (p % 32)

/-- An input that two or more pins have come to select (R392). -/
def State.noteConflict (s : State) (code : Nat) (before : Nat) : State :=
  match s.selectors code with
  | a :: b :: _ =>
    if 2 ≤ before then s
    else
      let s := if s.on F.PIN_CONFLICT_VALID 0 then s
        else s.setWord .PIN_CONFLICT 0 (BitVec.ofNat 32 (a + 256 * b + 65536 * code + 2 ^ 31))
      (s.raise F.PIN_STATUS_CONFLICT 0).journalEvent s.ownOrigin .PIN_STATUS 0 (s.word .PIN_CONFLICT 0).toNat
  | _ => s

/-- A pin's record changes at once: PIN.PAD takes it, and inputs it newly selects are checked. -/
def State.takePad (s : State) (who : Who) (p : Nat) (data : Word) : State :=
  let data := data &&& 0x1FFFF#32
  let code := inputCode (fieldOf data 0 3) p
  let before := (code.map fun c => (s.selectors c).length).getD 0
  let s := s.storeWord who .PIN_PAD p data
  match code with
  | some c => s.noteConflict c before
  | none => s

/-- A write of PIN.PAD to a pin that no switch holds (R394). -/
def State.padNow (s : State) (who : Who) (p : Nat) (data : Word) : State :=
  if padBad p data then
    (s.raise F.PIN_STATUS_ENC_REFUSED 0).journalRefusal who .encoding .PIN_PAD p data.toNat
  else if fieldOf data 0 3 = s.padFunc p then s.storeWord who .PIN_PAD p (data &&& 0x1FFFF#32)
  else if s.pinProtected p then s.breach who .protectedPin .PIN_PAD p data.toNat
  else
    let level := s.padLevel p
    let s := s.storeWord who .PIN_PAD p (data &&& 0x1FFFF#32)
    (s.putPins { s.pins with switching := Sparse.insert s.pins.switching p ⟨s.time, level, []⟩ })

/-- A write of PIN.PAD: one to a pin whose FUNC switch is in progress waits until the switch ends (R394). -/
def State.writePad (s : State) (who : Who) (p : Nat) (data : Word) : State :=
  match s.pins.switching.find? (·.1 == p) with
  | some (_, w) =>
    let w := { w with waiting := w.waiting ++ [(who, data)] }
    (s.putPins { s.pins with switching := Sparse.insert s.pins.switching p w })
  | none => s.padNow who p data

/-- Writes that waited act in order, until one begins a switch, for which the rest wait. -/
def State.padLater (s : State) (p : Nat) : List (Who × Word) → State
  | [] => s
  | (who, data) :: rest =>
    let s := s.padNow who p data
    match s.pins.switching.find? (·.1 == p) with
    | some (_, w) =>
      s.putPins { s.pins with switching := Sparse.insert s.pins.switching p { w with waiting := rest } }
    | none => s.padLater p rest

/-- At cycle 2 the new function takes the pad (R394), and its input sees the pad from then on. -/
def State.funcSwitchDone (s : State) (p : Nat) : State :=
  match s.pins.switching.find? (·.1 == p) with
  | some (_, w) =>
    let s := s.advanceTo (w.since + BitVec.ofNat 64 (2 * s.pinCycle))
    let code := inputCode (s.padFunc p) p
    let before := (code.map fun c => (s.selectors c).length).getD 0
    let s := s.putPins { s.pins with switching := Sparse.erase s.pins.switching p }
    let s := match code with
      | some c => s.noteConflict c before
      | none => s
    s.padLater p w.waiting
  | none => s

/-- Pins of a list take the image's pad records, at START or at the release of a partial load (R390). -/
def State.padsFromImage (s : State) (ps : List Nat) : State :=
  ps.foldl
    (fun s p =>
      let s := s.putPins { s.pins with switching := Sparse.erase s.pins.switching p }
      s.takePad s.self p (BitVec.ofNat 32 (s.padRecord p))) s

/-- Stations of a list begin anew, as their rods' other state does (R49). -/
def State.stationsReset (s : State) (keep : Nat → Bool) : State :=
  s.putFabric { s.fabric with stations := s.fabric.stations.filter fun kv => keep kv.1 }

-- ------------------------------------------------------------------ GPIO (R396)

/-- GPIO_IN of a port. -/
def State.gpioIn (s : State) (i : Nat) : Word :=
  (List.range 16).foldl (fun acc n => if s.padLevel (16 * i + n) then acc ||| BitVec.ofNat 32 (2 ^ n) else acc) 0

/-- A write of GPIO_SET sets OUT bits. -/
def State.gpioSet (s : State) (i : Nat) (data : Word) : State :=
  s.setWord .PIN_GPIO_OUT i (s.word .PIN_GPIO_OUT i ||| (data &&& 0xFFFF#32))

/-- A write of GPIO_CLR clears OUT bits. -/
def State.gpioClr (s : State) (i : Nat) (data : Word) : State :=
  s.setWord .PIN_GPIO_OUT i (s.word .PIN_GPIO_OUT i &&& ~~~(data &&& 0xFFFF#32))

-- ------------------------------------------------------------------ external lines (R397)

/-- The pin of EXTL line n. -/
def State.extlPin (s : State) (n : Nat) : Nat := 16 * s.f F.PIN_EXTL_CFG_PORT n + n

/-- A line's MODE detects an edge to a level, or the level itself. -/
def extlMatches (mode : Nat) (level edge : Bool) : Bool :=
  match mode with
  | 0 => edge && level
  | 1 => edge && !level
  | 2 => edge
  | 3 => level
  | 4 => !level
  | _ => false

/-- EXTL line n's filter. -/
def State.extlLine (s : State) (n : Nat) : ExtlLine := Sparse.get ⟨false, 0, false⟩ s.pins.extl n

/-- The state with a line's filter replaced. -/
def State.setExtlLine (s : State) (n : Nat) (v : ExtlLine) : State :=
  s.putPins { s.pins with extl := Sparse.set ⟨false, 0, false⟩ s.pins.extl n v }

/-- The filter of a line sees its pin as it stands. -/
def State.extlSees (s : State) (n : Nat) : State :=
  let raw := s.padLevel (s.extlPin n)
  if raw = (s.extlLine n).raw then s else s.setExtlLine n { s.extlLine n with raw := raw, since := s.time }

/-- A line's filter begins anew with its pin as it stands: no edge (DESIGN CHOICE, assumption 214). -/
def State.extlAnew (s : State) (n : Nat) : State :=
  let raw := s.padLevel (s.extlPin n)
  s.setExtlLine n ⟨raw, s.time, raw⟩

/-- A filtered edge or level on an EXTL line sets its status bit. -/
def State.extlFires (s : State) (n : Nat) (level edge : Bool) : State :=
  if s.on F.PIN_EXTL_CFG_EN n && extlMatches (s.f F.PIN_EXTL_CFG_MODE n) level edge then
    s.setWord .PIN_EXTL_STATUS 0 (s.word .PIN_EXTL_STATUS 0 ||| BitVec.ofNat 32 (2 ^ n))
  else s

/-- EXTL_DETECT: a line's filter passes the level that its pin has had for FILT pin-control cycles (R397). -/
def State.extlDetect (s : State) (n : Nat) : State :=
  if !s.on F.PIN_EXTL_CFG_EN n then s
  else
    let s := s.extlSees n
    let v := s.extlLine n
    let s := s.advanceTo (v.since + BitVec.ofNat 64 (s.f F.PIN_EXTL_CFG_FILT n * s.pinCycle))
    (s.setExtlLine n { v with level := v.raw }).extlFires n v.raw (v.raw != v.level)

/-- A write of EXTL_STATUS clears bits; a detected level sets its bit again while it lasts. -/
def State.writeExtlStatus (s : State) (who : Who) (data : Word) : State :=
  let s := s.writeTyped who .PIN_EXTL_STATUS 0 data
  (List.range 16).foldl (fun s n => if data.getLsbD n then s.extlFires n (s.extlLine n).level false else s) s

/-- A write of EXTL_CFG: PORT 13 to 15 and MODE 5 to 7 are refused whole. -/
def State.writeExtlCfg (s : State) (who : Who) (n : Nat) (data : Word) : State :=
  if 13 ≤ fieldOf data 0 4 ∨ 5 ≤ fieldOf data 4 3 then
    (s.raise F.PIN_STATUS_ENC_REFUSED 0).journalRefusal who .encoding .PIN_EXTL_CFG n data.toNat
  else (s.writeTyped who .PIN_EXTL_CFG n data).extlAnew n

end Sys2Proof.Machine
end

