-- ==== Sys2Proof/Machine/Vloop.lean ====
section
/-! DEFINITION. The voltage loop (R66 to R69). -/

namespace Sys2Proof.Machine

/-- The state with the loop's bus work dropped. -/
def State.vloopQuiet (s : State) : State :=
  (s.putFabric { s.fabric with vloopDue := [], vloopHeard := [], vloopTries := 0 }).setF F.PMB_STATUS_LOOP_WAIT 0 0

/-- The loop enters FAULT with a cause; its command stays (R66, R68). -/
def State.vloopFault (s : State) (cause : Nat) : State :=
  ((s.setF F.PWR_VLOOP_STATUS_STATE 0 5).setF F.PWR_VLOOP_STATUS_FAULT_CAUSE 0 cause).vloopQuiet

/-- A VOUT_MODE reading of ULINEAR16: mode bits [7:5] are 0, as PMBus lays down (assumption 23). -/
def ulinear16 (mode : Nat) : Bool := mode / 32 % 8 == 0

/-- A STATUS_WORD with a VOUT bit set: bit 15, as PMBus lays down (assumption 23). -/
def voutStatus (w : Nat) : Bool := w / 32768 % 2 == 1

/-- EN written 1 in OFF (R66): the loop enters SETTLING and its first bus reads are due. FAULT_CAUSE, which OFF keeps,
returns to none here (DESIGN CHOICE, assumption 185). -/
def State.vloopEnter (s : State) : State :=
  let s := s.setF F.PWR_VLOOP_STATUS_STATE 0 1
  let s := s.setF F.PWR_VLOOP_STATUS_FAULT_CAUSE 0 0
  s.putFabric { s.fabric with vloopDue := [.mode, .start], vloopHeard := [], vloopTries := 0, vloopAt := s.time, vloopOff := 0 }

/-- The loop goes OFF and sends nothing more (R66). -/
def State.vloopOffNow (s : State) : State :=
  let s := (s.setF F.PWR_VLOOP_STATUS_STATE 0 0).vloopQuiet
  s.putFabric { s.fabric with vloopOff := 0 }

/-- A write of VLOOP_CTRL (R66, and the refusal of INTERVAL below 10 in its table). -/
def State.writeVloopCtrl (s : State) (who : Who) (data : Word) : State :=
  if fieldOf data 22 10 < 10 then
    (s.raise F.PWR_VLOOP_STATUS_CFG_REFUSED 0).journalRefusal who .encoding .PWR_VLOOP_CTRL 0 data.toNat
  else
    let before := s.on F.PWR_VLOOP_CTRL_EN 0
    let s := s.writeTyped who .PWR_VLOOP_CTRL 0 data
    let now := s.on F.PWR_VLOOP_CTRL_EN 0
    if now && s.f F.PWR_VLOOP_STATUS_STATE 0 == 0 then s.vloopEnter
    else if before && !now then s.vloopOffNow
    else s

-- ------------------------------------------------------------------ the bus (R67, R68, R413)

/-- The command code of a loop transaction (R67). -/
def loopCode : LoopRead → Nat
  | .mode => 0x20
  | .start | .vout => 0x8B
  | .command _ => 0x21
  | .status => 0x79

/-- The word a loop transaction writes. -/
def loopValue : LoopRead → Nat
  | .command v => v
  | .mode | .start | .status | .vout => 0

/-- The fault an attempt ends with, when it ends with one (R68): 1 NACK, 2 PEC, where the loop checks it, 3 bus low. With
the DATA input unselected every acknowledge reads as 1 (R392). -/
def State.loopFails (s : State) (x : PmbResult) : Option Nat :=
  if !s.inputFed 49 then some 1
  else
    match x with
    | .data _ => none
    | .nack => some 1
    | .pec _ => if s.on F.PWR_VLOOP_CTRL_PEC 0 then some 2 else none
    | .busLow => some 3

/-- The word an attempt brings. -/
def loopWord : PmbResult → Nat
  | .data v | .pec v => v
  | .nack | .busLow => 0

/-- A loop transaction has ended well with a word (R66, R67, R68). -/
def State.loopEnded (s : State) (x : LoopRead) (v : Nat) : State :=
  match x with
  | .mode => if ulinear16 v then s else s.vloopFault 4
  | .start => (s.setF F.PWR_VLOOP_VOUT_CMD 0 v).setF F.PWR_VLOOP_VOUT_READ 0 v
  | .command c => s.setF F.PWR_VLOOP_VOUT_CMD 0 c
  | .status => if voutStatus v then s.vloopFault 5 else s
  | .vout => s.setF F.PWR_VLOOP_VOUT_READ 0 v

/-- One attempt of the first loop transaction that is due (R67, R68): it is sent, and ends well, is retried up to 3 times,
or makes the loop enter FAULT. -/
def State.loopAttempt (s : State) (x : PmbResult) : State :=
  match s.fabric.vloopDue with
  | [] => s
  | d :: rest =>
    let s := s.emit (.pmbus (s.f F.PWR_VLOOP_CTRL_ADDR 0) (loopCode d) (loopValue d) (s.on F.PWR_VLOOP_CTRL_PEC 0))
    match s.loopFails x with
    | some cause =>
      if 3 ≤ s.fabric.vloopTries then s.vloopFault cause
      else s.putFabric { s.fabric with vloopTries := s.fabric.vloopTries + 1 }
    | none => (s.putFabric { s.fabric with vloopDue := rest, vloopTries := 0 }).loopEnded d (loopWord x)

/-- A GO transaction holds the bus (R413). -/
def State.goRuns (s : State) : Bool := s.on F.PMB_STATUS_BUSY 0 && !s.on F.PMB_STATUS_LOOP_WAIT 0

/-- The loop's transactions go on with what the bus has brought (R67, R413); once none is due, a GO that waited has the
bus. -/
def State.loopPump (s : State) : State :=
  if s.goRuns then s
  else
    let xs := s.fabric.vloopHeard
    let s := xs.foldl State.loopAttempt (s.putFabric { s.fabric with vloopHeard := [] })
    if s.fabric.vloopDue.isEmpty then s.setF F.PMB_STATUS_LOOP_WAIT 0 0 else s

/-- What the bus brings for the loop's transactions that are due. -/
def State.loopHears (s : State) (xs : List PmbResult) : State :=
  if s.fabric.vloopDue.isEmpty then s
  else (s.putFabric { s.fabric with vloopHeard := s.fabric.vloopHeard ++ xs }).loopPump

/-- The loop rate (R66): RATE_MIN, or the monitor named by SRC_INDEX. -/
def State.loopRate (s : State) : Nat :=
  if s.on F.PWR_VLOOP_CTRL_SRC 0 then
    (Sparse.get ⟨0, 0⟩ s.fabric.monitors (s.f F.PWR_VLOOP_CTRL_SRC_INDEX 0)).rate
  else s.f F.PWR_RATE_MIN_RATE 0

/-- Where the rate lies against the dead band (R66). -/
inductive Band where
  | below | inside | above
  deriving DecidableEq, Repr

/-- The loop's reading of a rate. -/
def State.band (s : State) (rate : Nat) : Band :=
  let t := s.f F.PWR_VLOOP_TARGET_TARGET 0
  let h := s.f F.PWR_VLOOP_TARGET_HYST 0
  if rate + h < t then .below else if t + h < rate then .above else .inside

/-- The next command (R66 steps 2 and 3). -/
def State.nextCommand (s : State) (b : Band) : Nat :=
  let cmd := s.f F.PWR_VLOOP_VOUT_CMD 0
  let step := s.f F.PWR_VLOOP_STEP_STEP 0
  let v := match b with
    | .below => cmd + step
    | .above => cmd - step
    | .inside => cmd
  min (s.f F.PWR_VLOOP_LIMITS_VMAX 0) (max (s.f F.PWR_VLOOP_LIMITS_VMIN 0) v)

/-- The state after an interval (R66's table): old state, band, new command. The command at VMAX or VMIN is the one the
interval has just set (DESIGN CHOICE, assumption 184). -/
def State.vloopNext (s : State) (b : Band) (cmd : Nat) : Nat :=
  let atMax := cmd == s.f F.PWR_VLOOP_LIMITS_VMAX 0
  let atMin := cmd == s.f F.PWR_VLOOP_LIMITS_VMIN 0
  match s.f F.PWR_VLOOP_STATUS_STATE 0, b with
  | 1, .inside => 2
  | 1, .below => if atMax then 3 else 1
  | 1, .above => if atMin then 4 else 1
  | 2, .inside => 2
  | 2, _ => 1
  | 3, b => if b == .inside || !atMax then 1 else 3
  | 4, b => if b == .inside || !atMin then 1 else 4
  | n, _ => n

/-- READ_VOUT differs from the command by more than 25 mV (R68). -/
def State.voutOff (s : State) : Bool :=
  let c := s.f F.PWR_VLOOP_VOUT_CMD 0
  let r := s.f F.PWR_VLOOP_VOUT_READ 0
  decide (c + 25 < r ∨ r + 25 < c)

/-- Intervals in a row with READ_VOUT off the command are counted, and the third makes the loop enter FAULT (R68). The
interval that changed the command counts, and so does one that reads nothing (DESIGN CHOICE, assumption 186). -/
def State.voutCheck (s : State) : State :=
  if s.f F.PWR_VLOOP_STATUS_STATE 0 == 5 || !s.fabric.vloopDue.isEmpty then s
  else if s.voutOff then
    if 2 ≤ s.fabric.vloopOff then s.vloopFault 6
    else s.putFabric { s.fabric with vloopOff := s.fabric.vloopOff + 1 }
  else s.putFabric { s.fabric with vloopOff := 0 }

/-- One loop interval (R66): the rate decides the command and the state, and a command that changes is due on the bus. -/
def State.vloopStep (s : State) : State :=
  let st := s.f F.PWR_VLOOP_STATUS_STATE 0
  let b := s.band s.loopRate
  let cmd := s.nextCommand b
  let next := s.vloopNext b cmd
  let s := if next == 3 && st != 3 then s.raise F.PWR_VLOOP_STATUS_RATE_SHORT 0 else s
  let s := s.setF F.PWR_VLOOP_STATUS_STATE 0 next
  if cmd == s.f F.PWR_VLOOP_VOUT_CMD 0 then s
  else s.putFabric { s.fabric with vloopDue := [.command cmd, .status, .vout] }

/-- The loop's next interval, INTERVAL µs after the last (R66, R68). Transactions of an earlier one that still wait on the
bus go on first, and the interval takes no step of its own (DESIGN CHOICE, assumption 201). -/
def State.vloopInterval (s : State) (xs : List PmbResult) : State :=
  let st := s.f F.PWR_VLOOP_STATUS_STATE 0
  if st == 0 || st == 5 then s
  else
    let s := s.advanceTo (s.fabric.vloopAt + BitVec.ofNat 64 (s.f F.PWR_VLOOP_CTRL_INTERVAL 0 * ticksPerUs))
    let s := s.putFabric { s.fabric with vloopAt := s.time }
    let s := if s.fabric.vloopDue.isEmpty then s.vloopStep else s
    (s.loopHears xs).voutCheck

/-- A write of VLOOP_LIMITS (R69). -/
def State.writeVloopLimits (s : State) (who : Who) (data : Word) : State :=
  let vmin := fieldOf data 0 12
  let vmax := fieldOf data 16 12
  if vmin < 600 ∨ 900 < vmax ∨ vmax < vmin then
    (s.raise F.PWR_VLOOP_STATUS_CFG_REFUSED 0).journalRefusal who .encoding .PWR_VLOOP_LIMITS 0 data.toNat
  else s.writeTyped who .PWR_VLOOP_LIMITS 0 data

/-- A write of VLOOP_STEP: 0 is refused (R6, and VLOOP_STEP's table). -/
def State.writeVloopStep (s : State) (who : Who) (data : Word) : State :=
  if fieldOf data 0 6 = 0 then
    (s.raise F.PWR_VLOOP_STATUS_CFG_REFUSED 0).journalRefusal who .encoding .PWR_VLOOP_STEP 0 data.toNat
  else s.writeTyped who .PWR_VLOOP_STEP 0 data

end Sys2Proof.Machine
end

