-- ==== Sys2Proof/Machine/Periph.lean ====
section
/-! DEFINITION. The hard peripherals (R398, R412, R413): I2C, SPI, UART, the PMBus master, pin timers. -/

namespace Sys2Proof.Machine

-- ------------------------------------------------------------------ units

/-- The level of a peripheral input: its pin's, or its default (R392). -/
def State.inputLevel (s : State) (code : Nat) (default : Bool) : Bool := ((s.feeder code).map s.padLevel).getD default

/-- An I2C unit before its first transfer. -/
def i2cInit : I2cUnit := { tx := [], rx := [], left := 0, busy := 0, kept := false }

/-- I2C unit u. -/
def State.i2c (s : State) (u : Nat) : I2cUnit := Sparse.get i2cInit s.periph.i2c u

/-- The state with I2C unit u replaced; the FIFO levels follow. -/
def State.setI2c (s : State) (u : Nat) (v : I2cUnit) : State :=
  let s := s.putPeriph { s.periph with i2c := Sparse.set i2cInit s.periph.i2c u v }
  (s.setF F.I2C_STATUS_TX_LEVEL u v.tx.length).setF F.I2C_STATUS_RX_LEVEL u v.rx.length

/-- The state with SPI unit u replaced. -/
def State.setSpi (s : State) (u : Nat) (v : SpiUnit) : State :=
  let s := s.putPeriph { s.periph with spi := Sparse.set ⟨[], [], none⟩ s.periph.spi u v }
  let s := s.setF F.SPI_STATUS_BUSY u (if v.sending.isSome then 1 else 0)
  (s.setF F.SPI_STATUS_TX_LEVEL u v.tx.length).setF F.SPI_STATUS_RX_LEVEL u v.rx.length

/-- The state with UART u replaced. -/
def State.setUart (s : State) (u : Nat) (v : UartUnit) : State :=
  let s := s.putPeriph { s.periph with uart := Sparse.set ⟨[], [], none⟩ s.periph.uart u v }
  let s := s.setF F.UART_STATUS_TX_BUSY u (if v.sending.isSome then 1 else 0)
  (s.setF F.UART_STATUS_TX_LEVEL u v.tx.length).setF F.UART_STATUS_RX_LEVEL u v.rx.length

/-- The state with the PMBus master replaced. -/
def State.setPmb (s : State) (v : PmbUnit) : State :=
  let s := s.putPeriph { s.periph with pmb := v }
  (s.setF F.PMB_STATUS_TX_LEVEL 0 v.tx.length).setF F.PMB_STATUS_RX_LEVEL 0 v.rx.length

/-- A pin timer before its first setting. -/
def ptInit : PtUnit := { out := false, cmp := 0, armed := true, pulseEnd := none, seen := false }

/-- Pin timer t. -/
def State.pt (s : State) (t : Nat) : PtUnit := Sparse.get ptInit s.periph.pt t

/-- The state with pin timer t replaced. -/
def State.setPt (s : State) (t : Nat) (v : PtUnit) : State :=
  s.putPeriph { s.periph with pt := Sparse.set ptInit s.periph.pt t v }

/-- A refused write of a unit: its STATUS.CMD_REFUSED (R412). -/
def State.periphRefused (s : State) (who : Who) (bit : Fld) (why : Reason) (r : Reg) (inst : Nat) (data : Word) : State :=
  (s.raise bit inst).journalRefusal who why r inst data.toNat

-- ------------------------------------------------------------------ I2C

/-- Both lines of I2C u are fed (R392). -/
def State.i2cFed (s : State) (u : Nat) : Bool := s.inputFed (4 * u) && s.inputFed (4 * u + 1)

/-- Ticks of a bit of I2C or PMBus, by its SPEED: 100, 400 or 1,000 kHz. -/
def busBit (speed : Nat) : Nat := if speed = 0 then 15000 else if speed = 1 then 3750 else 1500

/-- The bus is busy for the bits of n more bytes with their acknowledges. -/
def State.i2cBusy (s : State) (u n : Nat) : State :=
  let v := s.i2c u
  let from' := max v.busy.toNat s.time.toNat
  s.setI2c u { v with busy := BitVec.ofNat 64 (from' + 9 * n * busBit (s.f F.I2C_CTRL_SPEED u)) }

/-- A write transfer takes the bytes it still has to send from the FIFO. -/
def State.i2cSend (s : State) (u : Nat) : State :=
  let v := s.i2c u
  if !s.on F.I2C_STATUS_BUSY u || s.on F.I2C_CMD_READ u then s
  else
    let k := min v.left v.tx.length
    if k = 0 then s
    else
      ((s.setI2c u { v with tx := v.tx.drop k, left := v.left - k }).i2cBusy u k).emit
        (.serial (.i2c u) ((v.tx.take k).map (·.setWidth 32)))

/-- A write of I2C.CMD: GO starts a transfer with a START, repeated where the last one sent no STOP, and is refused in target mode, while BUSY, or with the unit off. -/
def State.writeI2cCmd (s : State) (who : Who) (u : Nat) (data : Word) : State :=
  let go := data.getLsbD 31
  if go && (s.on F.I2C_STATUS_BUSY u || s.on F.I2C_CTRL_TARGET u || !s.on F.I2C_CTRL_EN u) then
    s.periphRefused who F.I2C_STATUS_CMD_REFUSED .command .I2C_CMD u data
  else
    let s := s.writeTyped who .I2C_CMD u data
    if !go then s
    else
      let count := s.f F.I2C_CMD_COUNT u
      let s := s.raise F.I2C_STATUS_BUSY u
      let s := s.emit (.i2cStart u (s.i2c u).kept
        (BitVec.ofNat 8 (2 * s.f F.I2C_CMD_ADDR u + (if s.on F.I2C_CMD_READ u then 1 else 0))))
      let v := s.i2c u
      ((s.setI2c u { v with left := if count = 0 then 256 else count, busy := s.time }).i2cBusy u 1).i2cSend u

/-- A transfer ends, with a STOP or with the bus kept. -/
def State.i2cEnd (s : State) (u : Nat) (stop : Bool) : State :=
  let s := (s.setF F.I2C_STATUS_BUSY u 0).setF F.I2C_CMD_GO u 0
  let s := if stop then s.emit (.i2cStop u) else s
  (s.setI2c u { s.i2c u with left := 0, kept := !stop }).raise F.I2C_STATUS_DONE u

/-- Received bytes enter the FIFO; those that find it full are lost (OVERFLOW). -/
def State.i2cTake (s : State) (u : Nat) (data : List Byte) : State :=
  let v := s.i2c u
  let room := 16 - v.rx.length
  let s := s.setI2c u { v with rx := v.rx ++ data.take room }
  if room < data.length then s.raise F.I2C_STATUS_OVERFLOW u else s

/-- A step or an end of an I2C transfer, no earlier than its bits take at SPEED. With a line unselected every acknowledge
reads 1 (R392). A timeout comes once SCL has been held for STRETCH_MS; whoever has won the bus sends the STOP. -/
def State.i2cEvent (s : State) (u : Nat) (x : PeriphEnd) : State :=
  if !s.on F.I2C_STATUS_BUSY u then s
  else if !s.i2cFed u then (s.raise F.I2C_STATUS_NACK u).i2cEnd u true
  else
    match x with
    | .i2cBytes _ data =>
      if s.on F.I2C_CMD_READ u then
        let k := min (s.i2c u).left data.length
        let s := s.i2cBusy u k
        let s := s.advanceTo (s.i2c u).busy
        (s.setI2c u { s.i2c u with left := (s.i2c u).left - k }).i2cTake u (data.take k)
      else s
    | .i2cDone _ =>
      if (s.i2c u).left = 0 then (s.advanceTo (s.i2c u).busy).i2cEnd u (s.on F.I2C_CMD_STOP u) else s
    | .i2cNack _ => (s.raise F.I2C_STATUS_NACK u).i2cEnd u true
    | .i2cArbLost _ =>
      let s := (s.raise F.I2C_STATUS_ARB_LOST u).i2cEnd u false
      s.setI2c u { s.i2c u with kept := false }
    | .i2cTimeout _ =>
      ((s.pass (max 1 (s.f F.I2C_CTRL_STRETCH_MS u) * 1000 * ticksPerUs)).raise F.I2C_STATUS_TIMEOUT u).i2cEnd u true
    | _ => s

/-- An outside controller addresses I2C u in target mode (R398): with STRETCH it is held while the FIFO is full or empty,
so only what fits is moved; without it bytes are dropped and 0xFF is sent. -/
def State.addressed (s : State) (u addr : Nat) (x : TargetUse) : State :=
  if !s.on F.I2C_CTRL_EN u || !s.on F.I2C_CTRL_TARGET u || s.f F.I2C_CTRL_OWN_ADDR u != addr || !s.i2cFed u then s
  else
    let s := s.raise F.I2C_STATUS_ADDRESSED u
    let v := s.i2c u
    let stretch := s.on F.I2C_CTRL_STRETCH u
    match x with
    | .write data => if stretch then s.i2cTake u (data.take (16 - v.rx.length)) else s.i2cTake u data
    | .read n =>
      let sent := v.tx.take n
      let short := n - sent.length
      let s := s.setI2c u { v with tx := v.tx.drop n }
      let pad := if stretch then [] else List.replicate short 0xFF#8
      let s := if !stretch && 0 < short then s.raise F.I2C_STATUS_OVERFLOW u else s
      s.emit (.serial (.i2c u) ((sent ++ pad).map (·.setWidth 32)))

-- ------------------------------------------------------------------ SPI

/-- The frame length of SPI u. -/
def State.spiBits (s : State) (u : Nat) : Nat := s.f F.SPI_CTRL_BITS u + 1

/-- A frame as its bits go over the wire, the first one highest: LSB_FIRST turns it round. -/
def State.spiOrder (s : State) (u v : Nat) : Nat :=
  let n := s.spiBits u
  if s.on F.SPI_CTRL_LSB_FIRST u then (List.range n).foldl (fun (a : Nat) i => 2 * a + v / 2 ^ i % 2) 0 else v % 2 ^ n

/-- Peripheral clocks of 200 MHz in ticks of 1.5 GHz (R412), rounded up. -/
def periphTicks (n : Nat) : Nat := (15 * n + 1) / 2

/-- The next frame is sent as soon as the previous one ends. -/
def State.spiPump (s : State) (u : Nat) : State :=
  let v := s.spi u
  match v.tx, v.sending with
  | w :: rest, none =>
    if s.on F.SPI_CTRL_EN u then
      (s.setSpi u { v with tx := rest, sending := some (w, s.time) }).emit
        (.serial (.spi u) [BitVec.ofNat 32 (s.spiOrder u w.toNat)])
    else s
  | _, _ => s

/-- A frame ends, after its bits at DIV: what MISO brought, the first bit highest, is kept, if the FIFO has room (R392,
R398). -/
def State.spiEnd (s : State) (u : Nat) (data : Word) : State :=
  let v := s.spi u
  match v.sending with
  | none => s
  | some (_, t) =>
    let s := s.advanceTo (t + BitVec.ofNat 64 (periphTicks (s.spiBits u * s.f F.SPI_CTRL_DIV u)))
    let got : Word := if s.inputFed (16 + 4 * u + 2) then BitVec.ofNat 32 (s.spiOrder u data.toNat) else 0
    let s := if v.rx.length < 8 then s.setSpi u { v with rx := v.rx ++ [got], sending := none }
      else (s.setSpi u { v with sending := none }).raise F.SPI_STATUS_RX_OVERFLOW u
    if v.tx.isEmpty then s.raise F.SPI_STATUS_DONE u else s.spiPump u

-- ------------------------------------------------------------------ UART

/-- CTS# of UART u is asserted: low, and low by default (R392). -/
def State.ctsOn (s : State) (u : Nat) : Bool :=
  !s.inputLevel (32 + 4 * u + 3) false

/-- Data bits of UART u. -/
def State.uartBits (s : State) (u : Nat) : Nat := 5 + s.f F.UART_CTRL_DATA u

/-- The parity bit of data bits: even, or odd. -/
def parityBit (odd : Bool) (bits : List Bool) : Bool := bits.foldl xor odd

/-- A character of UART u: its start bit, data bits from the lowest on, parity bit and stop bits. -/
def State.uartFrame (s : State) (u : Nat) (b : Byte) : List Bool :=
  let data := (List.range (s.uartBits u)).map b.getLsbD
  [false] ++ data ++ (if s.f F.UART_CTRL_PARITY u = 0 then [] else [parityBit (s.f F.UART_CTRL_PARITY u == 2) data]) ++
    (if s.on F.UART_CTRL_STOP2 u then [true, true] else [true])

/-- Bits as a number, the first one lowest. -/
def bitsNum (bits : List Bool) : Nat := bits.foldr (fun b (n : Nat) => 2 * n + (if b then 1 else 0)) 0

/-- The next byte of UART u starts, unless CTS# holds it. -/
def State.uartPump (s : State) (u : Nat) : State :=
  let v := s.uart u
  match v.tx, v.sending with
  | b :: rest, none =>
    if s.on F.UART_CTRL_EN u && (!s.on F.UART_CTRL_FLOW u || s.ctsOn u) then
      (s.setUart u { v with tx := rest, sending := some (b, s.time) }).emit
        (.serial (.uart u) [BitVec.ofNat 32 (bitsNum (s.uartFrame u b))])
    else s
  | _, _ => s

/-- Ticks of n bits of UART u (UART.BAUD). -/
def State.uartTicks (s : State) (u n : Nat) : Nat :=
  periphTicks (n * (16 * s.f F.UART_BAUD_INT u + s.f F.UART_BAUD_FRAC u))

/-- The last stop bit of a byte is sent. -/
def State.uartEnd (s : State) (u : Nat) : State :=
  let v := s.uart u
  match v.sending with
  | none => s
  | some (b, t) =>
    let s := s.advanceTo (t + BitVec.ofNat 64 (s.uartTicks u (s.uartFrame u b).length))
    let s := s.setUart u { v with sending := none }
    if v.tx.isEmpty then s.raise F.UART_STATUS_TX_DONE u else s.uartPump u

/-- A byte is received on RXD: the bits after its start bit, of which those that are missing are high. It has no valid stop
bit where the first one is low; a break, all of whose bits are low, stands in place of the byte with neither of the
other errors (DESIGN CHOICE, assumption 215). -/
def State.uartByte (s : State) (u : Nat) (bits : List Bool) : State :=
  if !s.on F.UART_CTRL_EN u || !s.inputFed (32 + 4 * u + 1) then s
  else
    let v := s.uart u
    let n := s.uartBits u
    let kind := s.f F.UART_CTRL_PARITY u
    let got := (List.range (n + 2)).map fun i => bits.getD i true
    let data := got.take n
    let stop := got.getD (if kind = 0 then n else n + 1) true
    let brk := !stop && !(got.take (if kind = 0 then n else n + 1)).any id
    let frame := !stop && !brk
    let parity := kind != 0 && got.getD n true != parityBit (kind == 2) data && !brk
    let s := if parity then s.raise F.UART_STATUS_PARITY u else s
    let s := if frame then s.raise F.UART_STATUS_FRAME u else s
    let s := if brk then s.raise F.UART_STATUS_BREAK u else s
    let e := bitsNum data + (if parity then 256 else 0) + (if frame then 512 else 0) + (if brk then 1024 else 0)
    if v.rx.length < 32 then s.setUart u { v with rx := v.rx ++ [BitVec.ofNat 11 e] }
    else s.raise F.UART_STATUS_RX_OVERFLOW u

-- ------------------------------------------------------------------ the PMBus master (R413)

/-- A byte more in a CRC-8 over x^8 + x^2 + x + 1, the packet error check of the SMBus (PRESUMED, assumption 217). -/
def pecByte (c b : Byte) : Byte :=
  (List.range 8).foldl (fun (c : Byte) _ => if c.getLsbD 7 then (c <<< 1) ^^^ 0x07#8 else c <<< 1) (c ^^^ b)

/-- The packet error check of bytes. -/
def pec (bs : List Byte) : Byte := bs.foldl pecByte 0

/-- Bytes a write protocol sends from the FIFO. -/
def State.pmbSends (s : State) : Nat :=
  match s.f F.PMB_CMD_PROTOCOL 0 with
  | 1 => 1
  | 2 => 2
  | 5 => s.f F.PMB_CMD_COUNT 0
  | _ => 0

/-- What a GO transaction sends: the address, the code, a block's count, data, the address again for a read, and the packet
error check of a write (PRESUMED, assumption 217). -/
def State.pmbBytes (s : State) (data : List Byte) : List Byte :=
  let addr := BitVec.ofNat 8 (2 * s.f F.PMB_CMD_ADDR 0)
  let code := BitVec.ofNat 8 (s.f F.PMB_CMD_CODE 0)
  let proto := s.f F.PMB_CMD_PROTOCOL 0
  let body := if proto = 7 then [addr]
    else [addr, code] ++ (if proto = 5 then [BitVec.ofNat 8 (s.f F.PMB_CMD_COUNT 0)] else []) ++ data
  if proto = 3 ∨ proto = 4 ∨ proto = 6 then body ++ [addr ||| 1]
  else if s.on F.PMB_CTRL_PEC 0 ∧ proto ≠ 7 then body ++ [pec body]
  else body

/-- A write of PMB.CMD: GO starts a transaction; refused while BUSY, with EN = 0, or with a reserved COUNT. -/
def State.writePmbCmd (s : State) (who : Who) (data : Word) : State :=
  let go := data.getLsbD 31
  let count := fieldOf data 20 6
  if fieldOf data 16 3 = 5 ∧ (count = 0 ∨ 32 < count) then
    s.periphRefused who F.PMB_STATUS_CMD_REFUSED .encoding .PMB_CMD 0 data
  else if go && (s.on F.PMB_STATUS_BUSY 0 || !s.on F.PMB_CTRL_EN 0) then
    s.periphRefused who F.PMB_STATUS_CMD_REFUSED .command .PMB_CMD 0 data
  else
    let s := s.writeTyped who .PMB_CMD 0 data
    if go then ((s.setPmb { s.periph.pmb with since := s.time }).raise F.PMB_STATUS_BUSY 0).setF F.PMB_STATUS_LOOP_WAIT 0 (if s.fabric.vloopDue.isEmpty then 0 else 1) else s

/-- A transaction ends, and the loop's that wait for the bus go on (R413). -/
def State.pmbEnd (s : State) : State :=
  ((((s.setF F.PMB_STATUS_BUSY 0 0).setF F.PMB_CMD_GO 0 0).setF F.PMB_STATUS_LOOP_WAIT 0 0).raise F.PMB_STATUS_DONE 0).loopPump

/-- Bytes read enter the FIFO as far as it has room. -/
def State.pmbTake (s : State) (data : List Byte) : State :=
  let v := s.periph.pmb
  s.setPmb { v with rx := v.rx ++ data.take (32 - v.rx.length) }

/-- The end of a GO transaction that does not wait for the loop, no earlier than its bytes take at SPEED, or after 35 ms of a
bus held low: the bytes its protocol sends leave the FIFO, and those it reads enter it; a block read whose count is 0 or above 32 is a protocol error. -/
def State.pmbEvent (s : State) (x : PeriphEnd) : State :=
  if !s.goRuns then s
  else
    let v := s.periph.pmb
    let k := s.pmbSends
    let proto := s.f F.PMB_CMD_PROTOCOL 0
    let reads := if proto = 3 then 1 else if proto = 4 then 2 else if proto = 6 then 32 else 0
    let sent := s.pmbBytes (v.tx.take k)
    let got : Nat := match x with
      | .pmbDone data | .pmbPec data => (min reads data.length) + (if proto = 6 then 1 else 0) + (if s.on F.PMB_CTRL_PEC 0 && reads != 0 then 1 else 0)
      | _ => 0
    let long := match x with
      | .pmbBusLow => 35000 * ticksPerUs
      | _ => 9 * (sent.length + got) * busBit (s.f F.PMB_CTRL_SPEED 0)
    let s := s.advanceTo (v.since + BitVec.ofNat 64 long)
    let s := (s.setPmb { v with tx := v.tx.drop k }).emit (.serial .pmb (sent.map (·.setWidth 32)))
    if !s.inputFed 49 then (s.raise F.PMB_STATUS_NACK 0).pmbEnd
    else
      match x with
      | .pmbDone data =>
        if proto = 6 ∧ (data.length = 0 ∨ 32 < data.length) then (s.raise F.PMB_STATUS_PROTO_ERR 0).pmbEnd
        else (s.pmbTake (data.take reads)).pmbEnd
      | .pmbNack => (s.raise F.PMB_STATUS_NACK 0).pmbEnd
      | .pmbPec data =>
        let s := s.pmbTake (data.take reads)
        (if s.on F.PMB_CTRL_PEC 0 && reads != 0 then s.raise F.PMB_STATUS_PEC_ERR 0 else s).pmbEnd
      | .pmbBusLow => (s.raise F.PMB_STATUS_BUS_LOW 0).pmbEnd
      | _ => s

/-- ALERT# is seen as it stands: asserted while low. -/
def State.alertSeen (s : State) : State :=
  let asserted := !s.inputLevel 50 true
  let s := s.setF F.PMB_STATUS_ALERT 0 (if asserted then 1 else 0)
  if asserted then s.raise F.PMB_STATUS_ALERT_SEEN 0 else s

-- ------------------------------------------------------------------ FIFOs

/-- A write of TXDATA pushes into a unit's FIFO, or is dropped. -/
def State.txPush (s : State) (x : Periph) (data : Word) : State :=
  match x with
  | .i2c u =>
    let v := s.i2c u
    if v.tx.length < 16 then (s.setI2c u { v with tx := v.tx ++ [data.setWidth 8] }).i2cSend u
    else s.raise F.I2C_STATUS_OVERFLOW u
  | .spi u =>
    let v := s.spi u
    if v.tx.length < 8 then (s.setSpi u { v with tx := v.tx ++ [data] }).spiPump u
    else s.raise F.SPI_STATUS_TX_OVERFLOW u
  | .uart u =>
    let v := s.uart u
    if v.tx.length < 32 then (s.setUart u { v with tx := v.tx ++ [data.setWidth 8] }).uartPump u
    else s.raise F.UART_STATUS_TX_OVERFLOW u
  | .pmb =>
    let v := s.periph.pmb
    if v.tx.length < 32 then s.setPmb { v with tx := v.tx ++ [data.setWidth 8] } else s

/-- The unit exists. -/
def periphUnit : Periph → Bool
  | .i2c u | .spi u | .uart u => decide (u < 4)
  | .pmb => true

/-- RXDATA as it reads: the oldest entry, with VALID. -/
def State.rxPeek (s : State) (x : Periph) : Word :=
  match x with
  | .i2c u => match (s.i2c u).rx with
    | b :: _ => b.setWidth 32 ||| 0x80000000#32
    | [] => 0
  | .spi u => (s.spi u).rx.headD 0
  | .uart u => match (s.uart u).rx with
    | b :: _ => b.setWidth 32 ||| 0x80000000#32
    | [] => 0
  | .pmb => match s.periph.pmb.rx with
    | b :: _ => b.setWidth 32 ||| 0x80000000#32
    | [] => 0

/-- A read of RXDATA pops the oldest entry. -/
def State.rxPop (s : State) (x : Periph) : State :=
  match x with
  | .i2c u => s.setI2c u { s.i2c u with rx := (s.i2c u).rx.tail }
  | .spi u => s.setSpi u { s.spi u with rx := (s.spi u).rx.tail }
  | .uart u => s.setUart u { s.uart u with rx := (s.uart u).rx.tail }
  | .pmb => s.setPmb { s.periph.pmb with rx := s.periph.pmb.rx.tail }

-- ------------------------------------------------------------------ pin timers

/-- The first pin-control cycle at or after a tick. -/
def State.nextCycle (s : State) (t : DWord) : DWord :=
  let c := s.pinCycle
  BitVec.ofNat 64 ((t.toNat + c - 1) / c * c)

/-- The compare output of timer t acts, in the first pin-control cycle in which TIME has reached the value (PT.CMP). -/
def State.ptCompare (s : State) (t : Nat) : State :=
  let v := s.pt t
  if !s.on F.PT_CTRL_OUT_EN t || !v.armed then s
  else
    let s := s.advanceNow v.cmp.toNat
    let s := s.advanceTo (s.nextCycle s.time)
    let out := s.ptLevel t
    let width := max 1 (s.f F.PT_CTRL_WIDTH t) * s.pinCycle
    let v := match s.f F.PT_CTRL_OUT_MODE t with
      | 0 => { v with out := !out, pulseEnd := none }
      | 1 => { v with out := false, pulseEnd := some (s.later width) }
      | 2 => { v with out := true, pulseEnd := none }
      | _ => { v with out := false, pulseEnd := none }
    let period := (s.word .PT_PERIOD t).setWidth 64
    let v := if period = 0 then { v with armed := false } else { v with cmp := v.cmp + period }
    let s := s.setPair .PT_CMP_LO .PT_CMP_HI t v.cmp.toNat
    (s.setPt t v).raise F.PT_STATUS_FIRED t

/-- PT_CAPTURE: the capture input is registered in the next pin-control cycle; an edge that CAP_EDGE selects latches TIME. -/
def State.ptCapture (s : State) (t : Nat) : State :=
  let edge := s.f F.PT_CTRL_CAP_EDGE t
  let level := s.inputLevel (0x50 + t) false
  let chosen := edge == 2 || (edge == 0 && level) || (edge == 1 && !level)
  if !s.on F.PT_CTRL_CAP_EN t || level == (s.pt t).seen then s
  else if !chosen then s.setPt t { s.pt t with seen := level }
  else
    let s := (s.setPt t { s.pt t with seen := level }).advanceTo (s.nextCycle s.time)
    let s := if s.on F.PT_STATUS_CAPTURED t then s.raise F.PT_STATUS_CAP_OVERRUN t else s
    (s.setPair .PT_CAP_LO .PT_CAP_HI t s.now.toNat).raise F.PT_STATUS_CAPTURED t

/-- A write of PT.CMP_HI takes effect with the LO written before it, and the output acts once more. -/
def State.writePtCmpHi (s : State) (who : Who) (t : Nat) (data : Word) : State :=
  let s := s.writeTyped who .PT_CMP_HI t data
  s.setPt t { s.pt t with cmp := data ++ s.word .PT_CMP_LO t, armed := true }

-- ------------------------------------------------------------------ settings

/-- A reserved encoding of a unit's settings (R412). -/
def settingBad (r : Reg) (data : Word) : Bool :=
  match r with
  | .I2C_CTRL => fieldOf data 2 2 == 3
  | .SPI_CTRL => decide (fieldOf data 4 5 < 7) || decide (fieldOf data 16 16 < 4) || fieldOf data 16 16 % 2 == 1
  | .UART_CTRL => fieldOf data 4 2 == 3
  | .UART_BAUD => fieldOf data 4 16 == 0
  | .PMB_CTRL => fieldOf data 1 2 == 3
  | .PT_CTRL => fieldOf data 4 2 == 3
  | _ => false

/-- The CMD_REFUSED bit of a unit's register. -/
def refusedBit : Reg → Fld
  | .I2C_CTRL => F.I2C_STATUS_CMD_REFUSED
  | .SPI_CTRL => F.SPI_STATUS_CMD_REFUSED
  | .UART_CTRL | .UART_BAUD => F.UART_STATUS_CMD_REFUSED
  | .PMB_CTRL => F.PMB_STATUS_CMD_REFUSED
  | _ => F.PT_STATUS_CMD_REFUSED

/-- A unit that has been switched off ends what it was doing; one that is on goes on with its FIFO. -/
def State.unitFollows (s : State) (r : Reg) (u : Nat) : State :=
  match r with
  | .I2C_CTRL =>
    if s.on F.I2C_CTRL_EN u then s
    else ((s.setF F.I2C_STATUS_BUSY u 0).setF F.I2C_CMD_GO u 0).setI2c u { s.i2c u with left := 0, kept := false }
  | .SPI_CTRL => if s.on F.SPI_CTRL_EN u then s.spiPump u else s.setSpi u { s.spi u with sending := none }
  | .UART_CTRL => if s.on F.UART_CTRL_EN u then s.uartPump u else s.setUart u { s.uart u with sending := none }
  | .PMB_CTRL =>
    if s.on F.PMB_CTRL_EN 0 then s
    else ((s.setF F.PMB_STATUS_BUSY 0 0).setF F.PMB_CMD_GO 0 0).setF F.PMB_STATUS_LOOP_WAIT 0 0
  | _ => s

/-- A write of a unit's settings: a reserved encoding is refused whole (R412). A capture input that is switched on begins
with the level it has. -/
def State.writeSetting (s : State) (who : Who) (r : Reg) (u : Nat) (data : Word) : State :=
  if settingBad r data then s.periphRefused who (refusedBit r) .encoding r u data
  else if r = .PT_CTRL ∧ ¬ s.on F.PT_CTRL_CAP_EN u then
    let s := s.writeTyped who r u data
    s.setPt u { s.pt u with seen := s.inputLevel (0x50 + u) false }
  else (s.writeTyped who r u data).unitFollows r u

end Sys2Proof.Machine
end

