-- ==== Sys2Proof/Machine/Checks.lean ====
section
/-! DEFINITION. What the loader checks before it writes (R142, R143): the image header (R131, R132, R142, R165), the
records of a frame (R47, R53, R57, R71, R76, R83, R86, R91, R93, R104, R138 to R141, R390), and the words of SPAN_TABLE
(R157 to R159), PIN_ISO (R160), BEAM_MAP (R280) and GUARD_* (R383, R387). -/

namespace Sys2Proof.Machine

-- ------------------------------------------------------------------ causes (R143)

/-- The causes of R143. -/
inductive Cause where
  | magic | format | hdrCrc | dieId | capability | length | span | extent
  | opcode | register | frameAddr | encoding | driver | idchk | runningCrc
  | earlyEnd | missingEnd | crc | coverage | sourceTimeout | sourceError | aborted | hostReset | digest
  deriving DecidableEq, Repr

/-- The code of a cause (R143). -/
def Cause.code : Cause → Nat
  | .magic => 0x01
  | .format => 0x02
  | .hdrCrc => 0x03
  | .dieId => 0x04
  | .capability => 0x05
  | .length => 0x06
  | .span => 0x07
  | .extent => 0x08
  | .opcode => 0x09
  | .register => 0x0A
  | .frameAddr => 0x0B
  | .encoding => 0x0C
  | .driver => 0x0D
  | .idchk => 0x0E
  | .runningCrc => 0x0F
  | .earlyEnd => 0x10
  | .missingEnd => 0x11
  | .crc => 0x12
  | .coverage => 0x13
  | .sourceTimeout => 0x14
  | .sourceError => 0x15
  | .aborted => 0x16
  | .hostReset => 0x17
  | .digest => 0x18

-- ------------------------------------------------------------------ the header (R131, R132, R142, R165)

/-- A header word by its byte offset. -/
def headerWord (h : List Word) (off : Nat) : Word := h.getD (off / 4) 0

/-- SPAN, LENGTH and the number of extents of a header. -/
def headerSpan (h : List Word) : Nat := (headerWord h 0x014).toNat % 256
def headerLength (h : List Word) : Nat := (headerWord h 0x010).toNat
def headerExtents (h : List Word) : Nat := (headerWord h 0x018).toNat % 16

/-- DIGEST and BUILD_TIME of a header. -/
def headerDigest (h : List Word) : DWord := headerWord h 0x02C ++ headerWord h 0x028
def headerBuild (h : List Word) : DWord := headerWord h 0x024 ++ headerWord h 0x020

/-- The bits of a header word that no field occupies (R131). -/
def headerReserved (extents off : Nat) : Nat :=
  if off = 0x004 ∨ off = 0x008 then 0xFFFF0000
  else if off = 0x014 then 0xFFFFFF00
  else if off = 0x018 then 0xFFFFFFF0
  else if off = 0x01C then 0xFFFFFFFF
  else if 0x030 ≤ off ∧ off < 0x040 then 0xFFFFFFFF
  else if 0x040 ≤ off ∧ off < 0x080 then (if (off - 0x040) / 8 < extents then 0 else 0xFFFFFFFF)
  else if 0x0C0 ≤ off ∧ off < 0x0FC then 0xFFFFFFFF
  else 0

/-- The lowest header word that holds a nonzero reserved bit. -/
def headerStray (h : List Word) : Option Nat :=
  ((List.range 64).map (4 * ·)).find? fun off =>
    (headerWord h off).toNat &&& headerReserved (headerExtents h) off != 0

/-- REQ_CAPS exceeds DEV.CAPS (R132). -/
def capsExceeded (p : Part) (req : Nat) : Bool :=
  let caps := Part.caps p
  let beyond := fun (lo w : Nat) => decide (recBits caps lo w < recBits req lo w)
  (recBits req 0 4 &&& (15 - recBits caps 0 4)) != 0 ||
  beyond 8 5 || beyond 16 6 || beyond 24 3 || beyond 27 5 ||
  recBits req 4 4 != 0 || recBits req 13 3 != 0 || recBits req 22 2 != 0

/-- Extent e of a header: first and last rod, first and last frame. -/
def extentOf (h : List Word) (e : Nat) : Nat × Nat × Nat × Nat :=
  let a := (headerWord h (0x040 + 8 * e)).toNat
  let b := (headerWord h (0x044 + 8 * e)).toNat
  (a % 65536, a / 65536, b % 65536, b / 65536)

/-- An extent is bad: reversed, beyond the variant, or, in a partial image, outside its span's rod mask (R143, R165). -/
def State.badExtent (s : State) (h : List Word) (inSpan : Option SpanDecl) (e : Nat) : Bool :=
  let (r0, r1, f0, f1) := extentOf h e
  decide (r1 < r0 ∨ f1 < f0 ∨ Part.rods s.part ≤ r1 ∨ 960 ≤ f1) ||
  inSpan.any fun d => (List.range (r1 + 1 - r0)).any fun k => !d.rods.getLsbD (r0 + k)

/-- The checks of R142 in their order: the first that fails, with the word that FAIL_OFFSET names (R452). span is none
where the path takes a full image. -/
def State.headerFault (s : State) (h : List Word) (span : Option SpanDecl) : Option (Cause × Nat) :=
  let req := (headerWord h 0x00C).toNat
  let len := headerLength h
  let n := headerExtents h
  if headerWord h 0x000 != 0x48454F4C then some (.magic, 0)
  else if (headerWord h 0x004).toNat % 65536 ≠ 1 then some (.format, 0x004)
  else
    match headerStray h with
    | some off => some (.format, off)
    | none =>
      if crcOf (h.take 63) != headerWord h 0x0FC then some (.hdrCrc, 0x0FC)
      else if (headerWord h 0x008).toNat % 65536 ≠ Part.dieId s.part then some (.dieId, 0x008)
      else if capsExceeded s.part req then some (.capability, 0x00C)
      else if len % 4 ≠ 0 ∨ len < 0x108 ∨ 0x08000000 < len then some (.length, 0x010)
      else if headerSpan h ≠ (match span with
        | some d => d.id
        | none => 0xFF) then some (.span, 0x014)
      else if n = 0 ∨ 8 < n then some (.extent, 0x018)
      else
        match (List.range n).find? (s.badExtent h span) with
        | some e =>
          let (r0, r1, _, _) := extentOf h e
          let badRods := decide (r1 < r0 ∨ Part.rods s.part ≤ r1) ||
            span.any fun d => (List.range (r1 + 1 - r0)).any fun k => !d.rods.getLsbD (r0 + k)
          some (.extent, 0x040 + 8 * e + (if badRods then 0 else 4))
        | none => none

/-- A frame lies inside a declared extent (R136, R165). -/
def inExtents (h : List Word) (rod frame : Nat) : Bool :=
  (List.range (headerExtents h)).any fun e =>
    let (r0, r1, f0, f1) := extentOf h e
    decide (r0 ≤ rod ∧ rod ≤ r1 ∧ f0 ≤ frame ∧ frame ≤ f1)

-- ------------------------------------------------------------------ cells and chains (R47, R53)

/-- A cell record holds a reserved encoding (R47). -/
def badCell (r : Nat) : Bool :=
  recBits r 148 12 != 0 || cellMode r == 3 || (decide (0 < recBits r 141 3 ∧ recBits r 141 3 < 4)) ||
  decide (4 < recBits r 145 3)

/-- The chain that ends at position p of a slice breaks R53; modes and lengths are those of the slice's 16 cells. -/
def badChain (modes lens : List Nat) (p : Nat) : Bool :=
  let n := lens.getD p 1
  let start := p + 1 - n
  decide (p + 1 < n) || (n != 1 && start % 4 != 0) || (n == 16 && start != 0) ||
  (List.range (n - 1)).any fun i => modes.getD (start + i) 0 != 1

/-- The chain ending at p covers position i. -/
def chainCovers (lens : List Nat) (p i : Nat) : Bool := decide (p + 1 - lens.getD p 1 ≤ i ∧ i ≤ p)

/-- The slice breaks R53 in its cells: a misplaced chain, or, once whole, a member that belongs to no chain. -/
def badSlice (modes lens : List Nat) (whole : Bool) : Bool :=
  let ends := (List.range 16).filter fun p => modes.getD p 0 == 2
  ends.any (badChain modes lens) ||
  (whole && (List.range 16).any fun i => modes.getD i 0 == 1 && !ends.any fun p => chainCovers lens p i)

/-- The number of select digits the chains of a slice use. -/
def sliceDigits (modes lens : List Nat) : Nat :=
  (List.range 16).foldl (fun m p => if modes.getD p 0 = 2 then max m (selectCount (lens.getD p 1)) else m) 0

/-- Configuration memory of a rod as it would be after a frame is written. -/
def State.after (s : State) (rod frame : Nat) (v : BitVec 4096) (f : Nat) : BitVec 4096 :=
  if f = frame then v else s.frame rod f

/-- MODE and chain length of the 16 cells of slice sl of a tile row. -/
def sliceModes (look : Nat → BitVec 4096) (row sl : Nat) : List Nat × List Nat :=
  let recs := (List.range 16).map fun i => spanBits look (5 * row) (160 * (16 * sl + i)) 160
  (recs.map cellMode, recs.map chainLen)

/-- A select digit that no chain of the slice uses is routed (R53). -/
def selectsStray (look : Nat → BitVec 4096) (row sl used : Nat) : Bool :=
  (List.range 3).any fun d => decide (used ≤ d) && spanBits look 480 (6784 * row + 4096 + 24 * sl + 8 * d) 8 != 0

/-- A cell frame breaks R47 or R53. -/
def badCellFrame (look : Nat → BitVec 4096) (frame : Nat) : Bool :=
  let row := frame / 5
  let lo := frame % 5 * 4096
  let first := lo / 160
  let last := min 127 ((lo + 4095) / 160)
  ((List.range (last + 1 - first)).any fun i => badCell (spanBits look (5 * row) (160 * (first + i)) 160)) ||
  (List.range (last / 16 + 1 - first / 16)).any fun i =>
    let sl := first / 16 + i
    let (modes, lens) := sliceModes look row sl
    badSlice modes lens (decide (2560 * (sl + 1) ≤ lo + 4096)) ||
    (decide (0 < sliceDigits modes lens) && selectsStray look row sl (sliceDigits modes lens))

-- ------------------------------------------------------------------ routing (R71, R76, R139)

/-- A source code is reserved (R71, R139). A spine's multiplexer, whose sources the spec does not count, takes as many as a
tile's (DESIGN CHOICE, assumption 188). -/
def badCode (c : Nat) : Bool := decide (192 < c)

/-- A tile routing record holds a reserved code or bit. -/
def badTile (r : Nat) : Bool :=
  ((List.range 656).any fun i => badCode (recBits r (8 * i) 8)) ||
  ((List.range 8).any fun k => badCode (recBits r (5249 + 9 * k) 8)) ||
  ((List.range 80).any fun i => badCode (recBits r (5320 + 8 * i) 8)) ||
  recBits r 5960 824 != 0

/-- The tile rows whose records a routing frame holds bits of. -/
def rowsOfFrame (frame : Nat) : List Nat :=
  let lo := (frame - 480) * 4096
  (List.range (min 95 ((lo + 4095) / 6784) + 1 - lo / 6784)).map (lo / 6784 + ·)

/-- A routing frame breaks R71 or R53's rule on unused select digits. -/
def badRouting (look : Nat → BitVec 4096) (frame : Nat) : Bool :=
  (rowsOfFrame frame).any fun row =>
    let r := spanBits look 480 (6784 * row) 6784
    r != 0 && (badTile r || (List.range 8).any fun sl =>
      let (modes, lens) := sliceModes look row sl
      selectsStray look row sl (sliceDigits modes lens))

/-- The segment whose driver point of this rod a frame would enable beside another rod's (R76), and the other rod; of several,
the one of the lowest tile row, then of the lowest track (DESIGN CHOICE, assumption 187). -/
def State.driverClash (s : State) (rod frame : Nat) (look : Nat → BitVec 4096) : Option (Nat × Nat) :=
  let lo := (frame - 480) * 4096
  (rowsOfFrame frame).findSome? fun row =>
    (List.range 8).findSome? fun track =>
      let pos := 6784 * row + 5248 + 9 * track
      if decide (lo ≤ pos ∧ pos < lo + 4096) && spanBits look 480 pos 1 == 1 then
        let seg := segmentId row track (segmentOf track rod)
        ((s.driversOf seg).find? (· != rod)).map fun other => (seg, other)
      else none

-- ------------------------------------------------------------------ settings (R83, R86, R91, R93, R104, R141, R390)

/-- A memory record breaks R91 or R93. -/
def badMemory (r : Nat) : Bool :=
  let a := recBits r 0 3
  let b := recBits r 3 3
  recBits r 13 19 != 0 ||
  (a != 0 && b != 0 && decide (a < 4) != decide (b < 4)) ||
  (recBits r 12 1 == 1 && recBits r 0 8 != 0)

/-- A queue record holds a reserved encoding (R141). -/
def badQueue (r : Nat) : Bool :=
  let mems := recBits r 5 4
  recBits r 11 21 != 0 || recBits r 52 12 != 0 || recBits r 83 45 != 0 || decide (8 < mems) ||
  (mems != 0 && recBits r 2 3 == 0)

/-- Frame 928 breaks R91, R93, R104 or R141. -/
def badMemoryFrame (v : BitVec 4096) : Bool :=
  let mem := fun m => frameBits v (32 * m) 32
  let queue := fun j => frameBits v (1024 + 128 * j) 128
  let mems := fun j => if j < 8 then recBits (queue j) 5 4 else 0
  let usedBy := fun m => (List.range 8).any fun j => decide (4 * j ≤ m ∧ m < 4 * j + mems j)
  frameBits v 2048 2048 != 0 ||
  ((List.range 32).any fun m => badMemory (mem m) || (recBits (mem m) 12 1 == 1) != usedBy m) ||
  (List.range 8).any fun j =>
    badQueue (queue j) || (j == 7 && decide (4 < mems j)) || (decide (4 < mems j) && mems (j + 1) != 0)

/-- Frame 929 breaks R57 or R141. -/
def badReckonerFrame (v : BitVec 4096) : Bool :=
  frameBits v 3072 1024 != 0 ||
  ((List.range 24).any fun k => frameBits v (128 * k + 72) 56 != 0) ||
  frameBits v 71 1 == 1 || frameBits v (128 * 23 + 67) 2 == 3

/-- A station record holds a reserved encoding (R83). -/
def badStation (r : Nat) : Bool := recBits r 15 17 != 0 || decide (1 < recBits r 2 2) || recBits r 4 2 == 3

/-- A pin timing clock record holds a reserved encoding (R86); an all-zero record marks the clock unused. -/
def badPtc (r : Nat) : Bool :=
  r != 0 && (recBits r 25 7 != 0 ||
    (if recBits r 0 1 = 0 then recBits r 1 12 == 0 || decide (recBits r 1 12 ≤ recBits r 13 12)
     else decide (191 < recBits r 1 8) || recBits r 10 15 != 0))

/-- A pad record holds a reserved encoding (R390, R391): F1 does not exist on bank W. -/
def badPad (r : Nat) (bankW : Bool) : Bool :=
  recBits r 17 15 != 0 || decide (5 < recBits r 3 3) || (bankW && recBits r 0 3 == 1)

/-- Frame 930 breaks R83, R86, R138 or R390. -/
def badPinFrame (rod : Nat) (v : BitVec 4096) : Bool :=
  badStation (frameBits v 0 32) || badStation (frameBits v 32 32) ||
  badPad (frameBits v 320 32) false || badPad (frameBits v 352 32) false ||
  (if rod = 0 then
    ((List.range 8).any fun p => badPtc (frameBits v (64 + 32 * p) 32)) ||
    ((List.range 16).any fun w => badPad (frameBits v (384 + 32 * w) 32) true) || frameBits v 896 3200 != 0
   else frameBits v 64 256 != 0 || frameBits v 384 3712 != 0)

/-- A frame breaks a record rule (cause ENCODING, R143). -/
def State.frameBad (s : State) (rod frame : Nat) (v : BitVec 4096) : Bool :=
  let look := s.after rod frame v
  if frame < 480 then badCellFrame look frame
  else if frame < 639 then badRouting look frame
  else if frame = 639 then
    frameBits v 128 3968 != 0 || (List.range 16).any fun k => badCode (frameBits v (8 * k) 8)
  else if frame < 928 then false
  else if frame = 928 then badMemoryFrame v
  else if frame = 929 then badReckonerFrame v
  else if frame = 930 then badPinFrame rod v
  else v != 0

-- ------------------------------------------------------------------ stream registers (R157 to R160, R280, R383)

/-- Words laid end to end. -/
def packWords : List Word → Nat
  | [] => 0
  | w :: ws => w.toNat + 2 ^ 32 * packWords ws

/-- The span a SPAN_TABLE write declares. -/
def spanOfWords (ws : List Word) : SpanDecl :=
  { id := (ws.getD 0 0).toNat % 16
    rods := BitVec.ofNat 256 (packWords ((ws.drop 1).take 8))
    nis := BitVec.ofNat 96 (packWords ((ws.drop 9).take 3))
    pins := BitVec.ofNat 192 (packWords ((ws.drop 12).take 6))
    bounds := ws.drop 18 }

/-- A boundary entry is bad: a reserved bit or class, a row, a rod or tracks that do not exist (R158, R159). -/
def badBoundary (d : SpanDecl) (w : Word) : Bool :=
  let b := w.toNat
  let tracks := if recBits b 16 2 = 2 then 8 else 16
  decide (95 < recBits b 0 7) || recBits b 7 1 != 0 || recBits b 28 4 != 0 || recBits b 16 2 == 3 ||
  decide (tracks ≤ recBits b 18 4 + recBits b 22 4) || !d.rods.getLsbD (recBits b 8 8)

/-- A SPAN_TABLE write is refused (R157, R158). -/
def spanTableFault (p : Part) (spans : List SpanDecl) (ws : List Word) : Option Cause :=
  let w0 := (ws.getD 0 0).toNat
  let d := spanOfWords ws
  let rods := Part.rods p
  let owned := fun n => (niRods n).filter fun r => d.rods.getLsbD r
  let here := (List.range 96).filter fun n => niPresent p n
  if ws.length ≠ 18 + recBits w0 8 12 then some .register
  else if spans.any (fun e => e.id == d.id) then some .register
  else if recBits w0 4 4 != 0 || recBits w0 20 12 != 0 || d.rods == 0 || d.rods.getLsbD 0 ||
      spans.any (fun e => e.rods &&& d.rods != 0) ||
      d.rods.toNat / 2 ^ rods != 0 ||
      (List.range 96).any (fun n => d.nis.getLsbD n && !niPresent p n) ||
      here.any (fun n => d.nis.getLsbD n && (owned n).length != 8) ||
      here.any (fun n => !d.nis.getLsbD n && (owned n).length == 8) ||
      (List.range 192).any (fun i => d.pins.getLsbD i && !d.rods.getLsbD (homeRod p i)) ||
      d.bounds.any (badBoundary d) then some .encoding
  else none

/-- A PIN_ISO write is refused (R160). -/
def pinIsoFault (ws : List Word) : Option Cause :=
  if ws.length ≠ 24 then some .register
  else if (List.range 192).any (fun p => decide (4 < frameBits (BitVec.ofNat 4096 (packWords ws)) (4 * p) 4)) then
    some .encoding
  else none

/-- Tap k of a BEAM_MAP write. -/
def tapOf (ws : List Word) (k : Nat) : Nat := (ws.getD (1 + k / 2) 0).toNat / 2 ^ (16 * (k % 2)) % 65536

/-- A BEAM_MAP write is refused (R280); a used tap on a lost rod is refused outside a golden image. -/
def State.beamMapFault (s : State) (ws : List Word) (golden : Bool) : Option Cause :=
  let w0 := (ws.getD 0 0).toNat
  let taps := (List.range 32).map (tapOf ws)
  let routes := (ws.drop 17).map (·.toNat)
  let dest := fun r => recBits r 0 6
  let src := fun r => recBits r 8 6
  if ws.length ≠ 17 + recBits w0 0 7 ∨ 64 < recBits w0 0 7 then some .register
  else if recBits w0 7 25 != 0 ||
      taps.any (fun t => recBits t 10 5 != 0 ||
        (recBits t 15 1 == 1 && (decide (Part.rods s.part ≤ recBits t 0 8) || recBits t 8 2 == 3))) ||
      routes.any (fun r => recBits r 6 2 != 0 || recBits r 14 2 != 0 || recBits r 17 15 != 0 ||
        routeBarred s.part (src r) (dest r)) ||
      !((routes.map dest).Pairwise (· ≠ ·)) then some .encoding
  else if !golden && taps.any (fun t => recBits t 15 1 == 1 && s.lostRod (recBits t 0 8)) then some .frameAddr
  else none

/-- The words a guard register takes (R383); none where the address is no guard. -/
def guardWords (p : Part) : Nat → Option Nat
  | 0x10 => some 18
  | 0x11 => some (Part.quads p)
  | 0x12 => some 7
  | 0x13 => some 1
  | 0x14 => some 1
  | _ => none

end Sys2Proof.Machine
end

