-- ==== Sys2Proof/Machine/Blockmem.lean ====
section
/-! DEFINITION. Block memories (R90 to R102): rows in the content frames, words of every width, ports, ECC, poison,
spare rows and scrubbing. -/

namespace Sys2Proof.Machine

-- ------------------------------------------------------------------ rows and words

/-- The 72 data bits of a row (R102). -/
def State.row (s : State) (rod m row : Nat) : Nat := s.rodBits rod (640 + 9 * m) (72 * row) 72

/-- The state with a row's data replaced. -/
def State.setRow (s : State) (rod m row v : Nat) : State := s.setRodBits rod (640 + 9 * m) (72 * row) 72 v

/-- Where word a of a port of a width code is stored: row, first column, width (R91, R92). Addresses wrap at the depth. -/
def wordPlace (code a : Nat) : Nat × Nat × Nat :=
  let (w, depth) := widthOf code
  let p := a % max 1 depth * w
  if 4 ≤ code then (p / 72, p % 72, w)
  else
    let q := p % 64
    (p / 64, q + q / 8, w)

/-- A word of a row. -/
def wordOfRow (row col w : Nat) : Nat := row / 2 ^ col % 2 ^ w

/-- A row with a word replaced. -/
def rowWithWord (row col w v : Nat) : Nat := row - wordOfRow row col w * 2 ^ col + v % 2 ^ w * 2 ^ col

/-- A row is stored with a poison check code, or stands uncorrectable (R99). -/
def State.rowPoisoned (s : State) (rod m row : Nat) : Bool := s.mem.poisoned.contains (rowKey rod m row)

/-- The state with a row's poison set or cleared. -/
def State.setPoison (s : State) (rod m row : Nat) (on : Bool) : State :=
  let k := rowKey rod m row
  (s.putMem { s.mem with
    poisoned := if on then insertRod k s.mem.poisoned else s.mem.poisoned.filter (· != k) })

-- ------------------------------------------------------------------ ECC and spare rows

/-- Row repairs pause: a capture is not IDLE, or a roving step runs on the rod (R174, R186). -/
def State.rowMovesPaused (s : State) (rod : Nat) : Bool :=
  s.f F.CFG_CAP_STATUS_STATE 0 != 0 || s.movingRod rod

/-- The key of a block memory of a physical rod. -/
def spareKey (phys m : Nat) : Nat := 32 * phys + m

/-- Spare rows in use in block memory m of a physical rod: those self-test took and those moves took (R101, R182). -/
def State.sparesIn (s : State) (phys m : Nat) : Nat := Sparse.get 0 s.mem.sparesUsed (spareKey phys m)

/-- ROD_STATUS.MEM_SPARES of a physical rod: the most spare rows any of its memories uses. -/
def State.showMemSpares (s : State) (phys : Nat) : State :=
  s.setF F.REPAIR_ROD_STATUS_MEM_SPARES phys ((List.range 32).foldl (fun n m => max n (s.sparesIn phys m)) 0)

/-- A row moves to a spare row of the memory it stands in (R101, R195): recorded with origin REPAIR; the last spare
degrades the device and is a wear fault (R184). -/
def State.moveRow (s : State) (rod m row : Nat) : State :=
  match s.physOf rod with
  | none => s
  | some phys =>
    let used := s.sparesIn phys m
    if 8 ≤ used then s
    else
      let s := s.putMem { s.mem with
        sparesUsed := Sparse.set 0 s.mem.sparesUsed (spareKey phys m) (used + 1)
        onceCorrected := Sparse.erase s.mem.onceCorrected (rowKey rod m row) }
      let s := s.journal 0x31 0x07 4 ⟨0x30000000 + rowKey rod m row, used, used + 1, 0⟩
      let s := s.showMemSpares phys
      if used + 1 = 8 then s.degrade.wearFault phys else s

/-- The effect of a row's check (R98, R99, R101): what the finding says is counted against the rod; a bit corrected for
the second time moves the row; data bits stored wrong stay as stored, and the row reads as uncorrectable. -/
def State.checkRow (s : State) (rod m row : Nat) (x : EccFinding) : State :=
  if s.rowPoisoned rod m row then s.countRod rod true
  else
    match x with
    | .clean => s
    | .corrected bit =>
      let s := s.countRod rod false
      let k := rowKey rod m row
      let seen := Sparse.get [] s.mem.onceCorrected k
      if seen.contains bit then (if s.rowMovesPaused rod then s else s.moveRow rod m row)
      else s.putMem { s.mem with onceCorrected := Sparse.set [] s.mem.onceCorrected k (seen ++ [bit]) }
    | .uncorrectable flip =>
      let s := s.countRod rod true
      (s.setRow rod m row (s.row rod m row ^^^ (flip % 2 ^ 72))).setPoison rod m row true

/-- The status of an access (R98): 0 clean, 1 corrected, 2 uncorrectable. -/
def State.rowStatus (s : State) (rod m row : Nat) (x : EccFinding) : BitVec 2 :=
  if s.rowPoisoned rod m row then 2
  else
    match x with
    | .clean => 0
    | .corrected _ => 1
    | .uncorrectable _ => 2

/-- The queue that wraps block memory m of a rod (R104). -/
def State.queueOfMem (s : State) (rod m : Nat) : Option Nat :=
  ((List.range 8).find? fun j =>
    decide (4 * j ≤ m ∧ m < 4 * j + s.f F.QUEUE_CONFIG_MEMS (8 * rod + j))).map (8 * rod + ·)

/-- An error found in a queue's memories is counted in QUEUE.ECC (R122). -/
def State.countQueueEcc (s : State) (rod m : Nat) (status : BitVec 2) : State :=
  match s.queueOfMem rod m with
  | some q =>
    if status = 1 then s.bump F.QUEUE_ECC_CORRECTED q 1
    else if status = 2 then s.bump F.QUEUE_ECC_UNCORRECTABLE q 1 else s
  | none => s

-- ------------------------------------------------------------------ ports

/-- The width code of a port (R93). -/
def State.portCode (s : State) (rod m port : Nat) : Nat := recBits (s.memRecord rod m) (3 * port) 3

/-- A port is in use: the memory is in the part and no queue's, and the port has a width (R91, R93). -/
def State.portRuns (s : State) (rod m port : Nat) : Bool :=
  decide (rod < Part.rods s.part ∧ m < 32 ∧ port < 2) && s.portCode rod m port != 0 &&
  recBits (s.memRecord rod m) 12 1 == 0

/-- The key of a port's read beads. -/
def portKey (rod m port : Nat) : Nat := 2 * memKey rod m + port

/-- A port produces a status bead with every read bead: A_STATUS, B_STATUS (R93, R94). -/
def State.portStatus (s : State) (rod m port : Nat) : Bool := recBits (s.memRecord rod m) (6 + port) 1 == 1

/-- An RD bead, with an RS bead where the port has one, is produced behind those not yet taken (R94, R96, R98). -/
def State.pushRead (s : State) (rod m port : Nat) (data : Nat) (status : BitVec 2) : State :=
  let k := portKey rod m port
  s.putMem { s.mem with
    reads := Sparse.set [] s.mem.reads k (Sparse.get [] s.mem.reads k ++ [BitVec.ofNat 72 data])
    statuses :=
      if s.portStatus rod m port then Sparse.set [] s.mem.statuses k (Sparse.get [] s.mem.statuses k ++ [status])
      else s.mem.statuses }

/-- A port READ (R95, R98). -/
def State.portRead (s : State) (rod m port a : Nat) (x : EccFinding) : State :=
  if !s.portRuns rod m port then s
  else
    let (row, col, w) := wordPlace (s.portCode rod m port) a
    let status := s.rowStatus rod m row x
    let s := s.checkRow rod m row x
    s.pushRead rod m port (wordOfRow (s.row rod m row) col w) status

/-- The update of a row by a port's write (R95, R98, R99): a narrow write to an uncorrectable row keeps it poisoned; a
write of 72 bits stores a clean row. -/
def State.writeWord (s : State) (rod m row col w : Nat) (data : Nat) : State :=
  let s := s.setRow rod m row (rowWithWord (s.row rod m row) col w data)
  if w = 72 then s.setPoison rod m row false else s

/-- A port WRITE (R95). -/
def State.portWrite (s : State) (rod m port a : Nat) (data : BitVec 72) (x : EccFinding) : State :=
  if !s.portRuns rod m port then s
  else
    let (row, col, w) := wordPlace (s.portCode rod m port) a
    (s.checkRow rod m row x).writeWord rod m row col w data.toNat

/-- A port READ_WRITE (R95): the RD bead holds the value before the write. -/
def State.portReadWrite (s : State) (rod m port a : Nat) (data : BitVec 72) (x : EccFinding) : State :=
  if !s.portRuns rod m port then s
  else
    let (row, col, w) := wordPlace (s.portCode rod m port) a
    let status := s.rowStatus rod m row x
    let s := s.checkRow rod m row x
    let s := s.pushRead rod m port (wordOfRow (s.row rod m row) col w) status
    s.writeWord rod m row col w data.toNat

/-- An RD bead is taken (R42, R96). -/
def State.readTaken (s : State) (rod m port : Nat) : State :=
  let k := portKey rod m port
  s.putMem { s.mem with reads := Sparse.set [] s.mem.reads k (Sparse.get [] s.mem.reads k).tail }

/-- An RS bead is taken. -/
def State.statusTaken (s : State) (rod m port : Nat) : State :=
  let k := portKey rod m port
  s.putMem { s.mem with statuses := Sparse.set [] s.mem.statuses k (Sparse.get [] s.mem.statuses k).tail }

-- ------------------------------------------------------------------ scrubbing

/-- The interval of a memory's row scrub in ticks (R93). -/
def State.scrubInterval (s : State) (rod m : Nat) : Nat := 2 ^ (recBits (s.memRecord rod m) 9 3 + 10)

/-- A memory scrubs one row, its scrub interval after the last (R100): a row corrected or uncorrectable is reported, in
QUEUE.ECC too where a queue wraps the memory (R122); an uncorrectable row is not changed. -/
def State.rowScrub (s : State) (rod m : Nat) (x : EccFinding) : State :=
  if !decide (rod < Part.rods s.part ∧ m < 32) || recBits (s.memRecord rod m) 8 1 == 0 || s.gated rod ||
      s.rowMovesPaused rod then s
  else
    let k := memKey rod m
    let s := s.advanceTo (Sparse.get 0 s.mem.scrubbedAt k + BitVec.ofNat 64 (s.scrubInterval rod m))
    let row := Sparse.get 0 s.mem.scrubRow k
    let s := (s.countQueueEcc rod m (s.rowStatus rod m row x)).checkRow rod m row x
    s.putMem { s.mem with
      scrubRow := Sparse.set 0 s.mem.scrubRow k ((row + 1) % 512)
      scrubbedAt := Sparse.set 0 s.mem.scrubbedAt k s.time }

end Sys2Proof.Machine
end

