-- ==== Sys2Proof/Machine/Queue.lean ====
section
/-! DEFINITION. Queue controllers (R104 to R122, R451): producer and consumer words, packets, flush, stale timer, record
drain, and the ways a queue is emptied. -/

namespace Sys2Proof.Machine

-- ------------------------------------------------------------------ settings and state

/-- A queue's initial state: empty. -/
def queueInit : Queue :=
  { rd := 0, cm := 0, wr := 0, lasts := [], midPacket := false, flushPending := false, discard := .none, cd := none
    kept := false, delivered := none, ceClosing := false, ceFlushed := false, ceStale := false, staleSent := false, staleFrom := 0
    closing := false, closeDue := false, holdRecord := false, drained := false }

/-- Queue q. -/
def State.queue (s : State) (q : Nat) : Queue := Sparse.get queueInit s.mem.queues q

/-- The state with queue q replaced. -/
def State.setQueue (s : State) (q : Nat) (v : Queue) : State :=
  s.putMem { s.mem with queues := Sparse.set queueInit s.mem.queues q v }

/-- The controller is used: MEMS is not 0 (R122). -/
def State.queueUsed (s : State) (q : Nat) : Bool := decide (q < Part.queues s.part) && s.f F.QUEUE_CONFIG_MEMS q != 0

/-- Capacity in words (R105). -/
def State.capacity (s : State) (q : Nat) : Nat :=
  s.f F.QUEUE_CONFIG_MEMS q * (widthOf (s.f F.QUEUE_CONFIG_WIDTH q)).2

/-- The queue is in packet mode. -/
def State.packetMode (s : State) (q : Nat) : Bool := s.on F.QUEUE_CONFIG_MODE q

/-- The CC channel is present (R106). -/
def State.hasCc (s : State) (q : Nat) : Bool := s.packetMode q || s.on F.QUEUE_CONFIG_CTL_EN q

/-- The place of word i of the queue's ring (R40, R104): rod, memory, row, column, width. The words fill memory 4j first,
then the next: R104 names the memories and not the order of the words over them (DESIGN CHOICE, assumption 173). -/
def State.queuePlace (s : State) (q i : Nat) : Nat × Nat × Nat × Nat × Nat :=
  let code := s.f F.QUEUE_CONFIG_WIDTH q
  let depth := (widthOf code).2
  let k := i % max 1 (s.capacity q)
  let (row, col, w) := wordPlace code (k % max 1 depth)
  (queueRod q, 4 * (q % 8) + k / max 1 depth, row, col, w)

/-- Largest packet in words (QUEUE.MAX_PKT). -/
def State.maxPacket (s : State) (q : Nat) : Nat :=
  let m := s.f F.QUEUE_MAX_PKT_WORDS q
  if m = 0 ∨ s.capacity q < m then s.capacity q else m

/-- A 64-bit counter in two registers rises by one. -/
def State.countPair (s : State) (lo hi : Reg) (inst : Nat) : State :=
  s.setPair lo hi inst ((s.pair lo hi inst + 1) % 2 ^ 64)

/-- n words are counted as discarded in this record (REC_DISCARD), or as late (LATE). -/
def State.discarded (s : State) (q n : Nat) (late : Bool) : State :=
  if late then s.bump F.QUEUE_LATE_WORDS q n else s.bump F.QUEUE_REC_DISCARD_WORDS q n

/-- The queue does nothing: its rod is gated or frozen. -/
def State.queueHeld (s : State) (q : Nat) : Bool := s.gated (queueRod q) || s.frozen (queueRod q)

-- ------------------------------------------------------------------ emptying

/-- The pointers return to 0, and the stale timer, STALE bead and a pending flush are cleared (R118). A word driven on
CD is kept for delivery (R451). -/
def Queue.emptied (v : Queue) (keep : Bool) : Queue :=
  { v with rd := 0, cm := 0, wr := 0, lasts := [], midPacket := false, flushPending := false
           cd := if keep then v.cd else none, kept := keep && v.cd.isSome
           ceStale := false, staleSent := false }

/-- Words of the ring that stand on CD: the one at RD_PTR, when it is driven and not kept from before (R451). -/
def Queue.onCd (v : Queue) : Nat := if v.cd.isSome && !v.kept then 1 else 0

/-- The queue resets to empty in a record drain and counts as drained (R116 steps 4 and 5). -/
def State.queueDrained (s : State) (q : Nat) : State :=
  let v := s.queue q
  s.setQueue q { v.emptied true with closing := false, holdRecord := true, drained := true }

/-- The drain of a closing queue ends once it is empty (R116 step 3); one that is STOPPING counts as drained when it
reaches STOPPED, without the reset of step 4 (R121). -/
def State.queueProgress (s : State) (q : Nat) : State :=
  let v := s.queue q
  if v.closing && v.rd == v.cm && v.cm == v.wr then
    match s.funcState (.queue q) with
    | 2 => s
    | 0 => s.setQueue q { v with closing := false, drained := true }
    | _ => s.queueDrained q
  else s

-- ------------------------------------------------------------------ the producer

/-- A producer word is acknowledged: WORDS_IN rises. -/
def State.wordIn (s : State) (q : Nat) : State := s.countPair .QUEUE_WORDS_IN_LO .QUEUE_WORDS_IN_HI q

/-- A word of discard mode is dropped and counted once, an ABORT bead too, and discard mode ends at LAST or ABORT (R110,
R117, R119, R120); a control value 0b11 is counted as a control fault, in PKT_ERR.ABORTS (R106; assumption 174). -/
def State.dropWord (s : State) (q : Nat) (ctl : BitVec 2) : State :=
  let v := s.queue q
  let late := v.discard == .late
  let s := if ctl = 3 then (s.raise F.QUEUE_STATUS_CTL_FAULT q).bump F.QUEUE_PKT_ERR_ABORTS q 1 else s
  let s := (s.wordIn q).discarded q 1 late
  if ctl = 0 then s else s.setQueue q { v with discard := .none }

/-- The word is written at WR_PTR (R99 clears poison at full width); what the check of its row finds is counted in
QUEUE.ECC (R122). -/
def State.storeWordAt (s : State) (q i : Nat) (data : BitVec 72) (x : EccFinding) : State :=
  let (rod, m, row, col, w) := s.queuePlace q i
  let s := s.countQueueEcc rod m (s.rowStatus rod m row x)
  (s.checkRow rod m row x).writeWord rod m row col w data.toNat

/-- Words become committed (R108): LAST flags join the unread words, and the stale timer starts when the queue was
empty (R113). -/
def State.commit (s : State) (q : Nat) (wr : Nat) (newLasts : List Bool) (packets : Nat) : State :=
  let v := s.queue q
  let s := s.setQueue q { v with
    wr := wr, cm := wr, lasts := v.lasts ++ newLasts
    staleFrom := if v.rd == v.cm then s.time else v.staleFrom }
  s.setF F.QUEUE_REC_PKTS_COUNT q ((s.f F.QUEUE_REC_PKTS_COUNT q + packets) % 2 ^ 32)

/-- The open packet is discarded: WR_PTR returns to CM_PTR. -/
def State.rewind (s : State) (q : Nat) : State := s.setQueue q { s.queue q with wr := (s.queue q).cm }

/-- A word that would begin a packet, or any word in stream mode, stalls while the queue closes a record, waits for the
next, or is not in RUN (R116, R119). -/
def State.newWorkStalls (s : State) (q : Nat) : Bool :=
  let v := s.queue q
  (!s.packetMode q || v.wr == v.cm) && (s.funcState (.queue q) != 1 || v.holdRecord || v.closing)

/-- The word's packet outgrows the queue (R110). -/
def State.outgrows (s : State) (q : Nat) (ctl : BitVec 2) : Bool :=
  let v := s.queue q
  let n := v.wr - v.cm + 1
  s.packetMode q && decide (ctl.toNat < 2) &&
    (decide (s.maxPacket q < n) || (decide (n = s.capacity q) && ctl == 0))

/-- An ABORT, or the control fault 0b11 that acts as one (R106, R109). The ABORT bead is a producer word accepted
(WORDS_IN), and no word of the packet it discards (REC_DISCARD): the spec does not say whether it counts (DESIGN CHOICE,
assumption 174). -/
def State.abortPacket (s : State) (q : Nat) (ctl : BitVec 2) : State :=
  let v := s.queue q
  let s := if ctl = 3 then s.raise F.QUEUE_STATUS_CTL_FAULT q else s
  let s := (s.wordIn q).bump F.QUEUE_PKT_ERR_ABORTS q 1
  (s.discarded q (v.wr - v.cm) false).rewind q

/-- The open packet and this word are discarded as oversize; a MORE word enters discard mode (R110). -/
def State.oversize (s : State) (q : Nat) (ctl : BitVec 2) : State :=
  let v := s.queue q
  let s := ((s.wordIn q).raise F.QUEUE_STATUS_OVERSIZE q).bump F.QUEUE_PKT_ERR_OVERSIZE q 1
  let s := s.discarded q (v.wr - v.cm + 1) false
  s.setQueue q { v with wr := v.cm, discard := if ctl = 0 then .oversize else v.discard }

/-- A producer word with this control value is taken: the queue runs, or drops what discard mode meets; new work does not
stall; and a word that is stored finds room (R107, R110, R116, R119). -/
def State.producerTakes (s : State) (q : Nat) (ctl : BitVec 2) : Bool :=
  let v := s.queue q
  s.queueUsed q && s.funcState (.queue q) != 0 &&
  (v.discard != .none ||
    (!s.newWorkStalls q &&
      ((s.packetMode q && decide (2 ≤ ctl.toNat)) || s.outgrows q ctl || decide (v.wr - v.rd < s.capacity q))))

/-- A producer word (R107 to R110). -/
def State.producerWord (s : State) (q : Nat) (data : BitVec 72) (ctl : BitVec 2) (x : EccFinding) : State :=
  let v := s.queue q
  if v.discard != .none then s.dropWord q ctl
  else if s.packetMode q && decide (2 ≤ ctl.toNat) then (s.abortPacket q ctl).queueProgress q
  else if s.outgrows q ctl then (s.oversize q ctl).queueProgress q
  else
    let s := (s.wordIn q).storeWordAt q v.wr data x
    if !s.packetMode q then s.commit q (v.wr + 1) [true] 1
    else if ctl = 1 then
      (s.commit q (v.wr + 1) (List.replicate (v.wr - v.cm) false ++ [true]) 1).queueProgress q
    else s.setQueue q { s.queue q with wr := v.wr + 1 }

-- ------------------------------------------------------------------ flush

/-- The pending flush takes effect (R112): RD_PTR goes to CM_PTR, what it discards is counted, FLUSHED is sent. -/
def State.flushNow (s : State) (q : Nat) : State :=
  let v := s.queue q
  let words := v.cm - v.rd
  let packets := if s.packetMode q then (v.lasts.filter id).length else words
  let s := s.setQueue q { v with
    rd := v.cm, lasts := [], flushPending := false, ceFlushed := true, ceStale := v.ceStale, staleSent := false }
  let s := s.bump F.QUEUE_FLUSH_CNT_FLUSHES q 1
  let s := s.bump F.QUEUE_FLUSH_CNT_PACKETS q packets
  (s.discarded q words false).queueProgress q

/-- A pending flush meets its boundary (R112, R451): a word of the ring driven on CD that begins a packet makes that
packet the one being read; in stream mode it is the current word, which stays driven, and the flush acts on the words
after it. -/
def State.flushTry (s : State) (q : Nat) : State :=
  let v := s.queue q
  if !v.flushPending || v.midPacket || s.queueHeld q then s
  else if v.onCd = 0 then s.flushNow q
  else if s.packetMode q then s.setQueue q { v with midPacket := true }
  else (s.setQueue q { v with kept := true, rd := v.rd + 1, lasts := v.lasts.tail }).flushNow q

/-- A flush is requested (R112, R121): in STOPPED or HOLD_RECORD it only sends FLUSHED. -/
def State.flushRequest (s : State) (q : Nat) : State :=
  let v := s.queue q
  if !s.queueUsed q then s
  else if s.funcState (.queue q) == 0 || v.holdRecord then s.setQueue q { v with ceFlushed := true }
  else (s.setQueue q { v with flushPending := true }).flushTry q

-- ------------------------------------------------------------------ the consumer

/-- The word at RD_PTR is read and driven on CD (R107, R111, R115): what the check of its row finds is counted. -/
def State.queueDrive (s : State) (q : Nat) (x : EccFinding) : State :=
  let v := s.queue q
  if v.cd.isSome ∨ v.cm ≤ v.rd ∨ s.funcState (.queue q) = 0 then s
  else
    let (rod, m, row, col, w) := s.queuePlace q v.rd
    let status := s.rowStatus rod m row x
    let s := (s.countQueueEcc rod m status).checkRow rod m row x
    s.setQueue q { v with
      cd := some ⟨BitVec.ofNat 72 (wordOfRow (s.row rod m row) col w), v.lasts.headD true, status == 2⟩, kept := false }

/-- The consumer takes the word on CD (R107, R113, R115), of the ring or kept by R451. -/
def State.queueTake (s : State) (q : Nat) : State :=
  let v := s.queue q
  match v.cd with
  | none => s
  | some w =>
    let s := if w.poison then s.raise F.QUEUE_STATUS_POISON q else s
    let v := { v with cd := none, kept := false, delivered := some w, staleSent := false, staleFrom := s.time }
    let v :=
      if (s.queue q).kept then v
      else { v with rd := v.rd + 1, lasts := v.lasts.tail, midPacket := s.packetMode q && !w.last }
    let s := (s.setQueue q v).countPair .QUEUE_WORDS_OUT_LO .QUEUE_WORDS_OUT_HI q
    let s := if (s.queue q).flushPending && !(s.queue q).midPacket then s.flushNow q else s
    s.queueProgress q

/-- The bead on CC (R106): LAST in bit 0, POISON in bit 1. -/
def CdWord.control (w : CdWord) : Digit := (if w.last then 1 else 0) + if w.poison then 2 else 0

-- ------------------------------------------------------------------ the stale timer and the event channel

/-- The stale timers of a rod stand still: it is frozen, or capture is not IDLE (R113, R174). -/
def State.staleStopped (s : State) (rod : Nat) : Bool := s.frozen rod || s.f F.CFG_CAP_STATUS_STATE 0 != 0

/-- The stale timer reaches STALE_UNITS (R113). -/
def State.staleExpires (s : State) (q : Nat) : State :=
  let v := s.queue q
  let units := s.f F.QUEUE_STALE_CFG_STALE_UNITS q
  if !s.queueUsed q || units == 0 || v.cm ≤ v.rd || v.staleSent || s.staleStopped (queueRod q) then s
  else
    let s := s.advanceTo (v.staleFrom + BitVec.ofNat 64 (64 * units))
    (s.setQueue q { v with ceStale := true, staleSent := true }).raise F.QUEUE_STATUS_STALE q

/-- The bead offered on CE: 3 CLOSING, 2 FLUSHED, 1 STALE, in that order (R106, R114). -/
def Queue.ceBead (v : Queue) : Option Digit :=
  if v.ceClosing then some 3 else if v.ceFlushed then some 2 else if v.ceStale then some 1 else none

/-- The bead on CE is taken (R114). -/
def State.ceTaken (s : State) (q : Nat) : State :=
  let v := s.queue q
  if v.ceClosing then s.setQueue q { v with ceClosing := false }
  else if v.ceFlushed then s.setQueue q { v with ceFlushed := false }
  else s.setQueue q { v with ceStale := false }

-- ------------------------------------------------------------------ record drain

/-- The queue belongs to the record domain (R116). -/
def State.inRecord (s : State) (q : Nat) : Bool := s.queueUsed q && s.acts F.QUEUE_CONFIG_REC_DOMAIN q != 0

/-- The record-domain queues of the part. -/
def State.recordQueues (s : State) : List Nat := (List.range (Part.queues s.part)).filter s.inRecord

/-- The queue lies in a span that is not RUNNING. -/
def State.queueAway (s : State) (q : Nat) : Bool := (s.spanOf (queueRod q)).any fun d => s.spanState d.id != 1

/-- The record close reaches a queue (R116, R121, R163, R190): CLOSING is sent and new work stalls; a queue of a span
that is not RUNNING is emptied at once; a STOPPED queue counts as drained; a frozen one sees the close at its release. -/
def State.queueClose (s : State) (q : Nat) : State :=
  let v := s.queue q
  if s.queueAway q then
    let s := s.discarded q (v.wr - v.rd) false
    s.setQueue q { v.emptied false with closing := false, closeDue := false, holdRecord := true, drained := true }
  else if s.frozen (queueRod q) then s.setQueue q { v with closeDue := true, drained := false }
  else if s.funcState (.queue q) == 0 then
    s.setQueue q { v with closeDue := false, ceClosing := true, drained := true }
  else (s.setQueue q { v with closeDue := false, ceClosing := true, closing := true, drained := false }).queueProgress q

/-- The next record start, or the controller entering IDLE (R116 step 6); a queue of a span that is not RUNNING keeps
HOLD_RECORD until it runs again (R163). -/
def State.queueReopen (s : State) (q : Nat) : State :=
  let v := s.queue q
  let s := s.setQueue q { v with holdRecord := v.holdRecord && s.queueAway q, drained := false, closing := false, closeDue := false }
  let s := s.setF F.QUEUE_REC_PKTS_COUNT q 0
  s.setF F.QUEUE_REC_DISCARD_WORDS q 0

/-- The drain timeout expires on a queue that has not drained (R117, R451). -/
def State.queueTimeout (s : State) (q : Nat) : State :=
  let v := s.queue q
  if !(v.closing || v.closeDue) then s
  else
    let s := s.discarded q (v.wr - v.rd - v.onCd) false
    let s := s.raise F.QUEUE_STATUS_DRAIN_TIMEOUT q
    s.setQueue q { v.emptied true with
      closing := false, closeDue := false, holdRecord := true, drained := true
      discard := if v.cm < v.wr then .late else v.discard }

-- ------------------------------------------------------------------ stops and resets

/-- The queue's held work is finished (R119). -/
def State.queueIdle (s : State) (q : Nat) : Bool :=
  let v := s.queue q
  v.rd == v.cm && v.cm == v.wr

/-- STOP_TIMEOUT of a queue (R119, R451): committed packets and the open packet are discarded and counted ABORTED. -/
def State.queueStopTimeout (s : State) (q : Nat) : State :=
  let v := s.queue q
  let left := v.lasts.drop v.onCd
  let items := if s.packetMode q then (left.filter id).length else left.length
  let s := s.aborted (.queue q) (items + if v.cm < v.wr then 1 else 0)
  let s := s.discarded q (v.wr - v.rd - v.onCd) false
  s.setQueue q { v.emptied true with discard := if v.cm < v.wr then .recDiscard else v.discard }

/-- FABRIC_RESET, a span reset or START empties a queue (R120, R451): CD, discard mode and every CE bead are cleared;
HOLD_RECORD is kept. -/
def State.queueEmpty (s : State) (q : Nat) : State :=
  let v := s.queue q
  (s.setQueue q { v.emptied false with
    discard := .none, ceClosing := false, ceFlushed := false, delivered := none }).queueProgress q

/-- A function reset of a queue (R33, R120, R451): the words it empties count in REC_DISCARD. -/
def State.queueFunctionReset (s : State) (q : Nat) : State :=
  let v := s.queue q
  let s := s.resetRegs fun r i => (regSpec r).domain == .FUNC && i == q &&
    decide (0x600000 ≤ (regSpec r).off ∧ (regSpec r).off < 0x680000)
  let s := s.discarded q (v.wr - v.rd - v.onCd) false
  let s := s.setQueue q { v.emptied true with
    discard := if v.cm < v.wr then .recDiscard else .none, ceClosing := false, ceFlushed := false }
  s.queueProgress q

/-- Every queue that has left its initial state and lies on a chosen rod is changed. -/
def State.mapQueues (s : State) (on : Nat → Bool) (change : State → Nat → State) : State :=
  ((s.mem.queues.map (·.1)).filter fun q => on (queueRod q)).foldl change s

/-- A queue runs again at the release of its span: HOLD_RECORD falls, unless the record it was drained for has not ended
(R116, R163). -/
def State.queueBack (s : State) (q : Nat) : State :=
  let v := s.queue q
  s.setQueue q { v with holdRecord := v.holdRecord && v.drained }

/-- At START, and at the release of a partial load, each queue of the chosen rods is empty and takes CTRL.RUN from
RUN_AT_START (R119, R166). -/
def State.queueStart (s : State) (on : Nat → Bool) : State :=
  let s := s.mapQueues on fun s q => (s.queueEmpty q).queueBack q
  ((List.range (Part.queues s.part)).filter fun q => on (queueRod q) && s.queueUsed q).foldl
    (fun s q =>
      let run := s.f F.QUEUE_CONFIG_RUN_AT_START q
      (s.setF F.QUEUE_CTRL_RUN q run).setFunc (.queue q) run) s

/-- Stale timers of the chosen rods stood still for n ticks (R113). -/
def State.holdStale (s : State) (on : Nat → Bool) (n : DWord) : State :=
  s.mapQueues on fun s q => s.setQueue q { s.queue q with staleFrom := (s.queue q).staleFrom + n }

/-- A rod frozen during a record close is released: its queues see the close now (R174, R190). -/
def State.queueRelease (s : State) (on : Nat → Bool) : State :=
  s.mapQueues on fun s q => if (s.queue q).closeDue then s.queueClose q else s

-- ------------------------------------------------------------------ the registers a queue shows live

/-- A queue register that shows the controller's own state. -/
def State.queueLive (s : State) (r : Reg) (q : Nat) : Option Nat :=
  let v := s.queue q
  let bit (b : Bool) (n : Nat) : Nat := if b then 2 ^ n else 0
  match r with
  | .QUEUE_CTRL => some ((s.word r q).toNat ||| bit v.flushPending 1)
  | .QUEUE_STATUS =>
    some ((s.word r q).toNat ||| bit v.flushPending 2 ||| bit v.holdRecord 6 ||| bit (v.discard != .none) 10)
  | .QUEUE_LEVEL => some (v.cm - v.rd)
  | .QUEUE_PKTS => some (v.lasts.filter id).length
  | .QUEUE_OPEN => some (v.wr - v.cm)
  | .QUEUE_RD_PTR => some (v.rd % max 1 (s.capacity q))
  | .QUEUE_CM_PTR => some (v.cm % max 1 (s.capacity q))
  | .QUEUE_WR_PTR => some (v.wr % max 1 (s.capacity q))
  | _ => none

end Sys2Proof.Machine
end

