-- ==== Sys2Proof/Machine/Beads.lean ====
section
/-! DEFINITION. Beads on the wires (R41 to R54, R70 to R81, R140): what each output drives, what reaches each input, which
sinks an output feeds, the join of their acknowledges, and taking a bead. -/

namespace Sys2Proof.Machine

-- ------------------------------------------------------------------ what outputs drive

/-- What a digit on a wire carries: a value, and the outputs whose beads it is part of; none for a tie (R44, R45). -/
structure Carried where
  value : Digit
  outs : List BeadSource
  deriving DecidableEq, Repr

/-- The user pin homed on a rod at its north or south edge (R82). -/
def State.pinHomed (s : State) (rod : Nat) (south : Bool) : Option Nat :=
  ((List.range 96).map (· + if south then 96 else 0)).find? fun p => homeRod s.part p == rod

/-- The output of a rod as the model names it. -/
def State.outputOf (s : State) (rod : Nat) (o : RodOutput) : Option BeadSource :=
  match o with
  | .grant row a => some (.arbiter rod row a)
  | .memRd m port => some (.memRd rod m port)
  | .memRs m port => some (.memRs rod m port)
  | .reckonerP k => some (.reckonerP rod k)
  | .reckonerST k => some (.reckonerST rod k)
  | .queueData j => some (.queueData (8 * rod + j))
  | .queueControl j => some (.queueControl (8 * rod + j))
  | .queueEvent j => some (.queueEvent (8 * rod + j))
  | .queueLevel j => some (.queueLevel (8 * rod + j))
  | .pin south => (s.pinHomed rod south).map .pin
  | .fti n => if tapUsed (s.tapEntry (16 + n)) && tapRod (s.tapEntry (16 + n)) == rod then some (.fti n) else none
  | .ni belt chan => if rod % 8 = 3 then some (.niChannel (32 * belt + rod / 8) chan) else none
  | .icpResult => if rod = 0 then some .icpResult else none
  | .eventChannel => if rod = 0 then some .eventChannel else none

/-- An output presents a value as a tie does and is never acknowledged: LV of a queue (R106) and a pin station in LEVEL
mode (R85). -/
def State.tied (s : State) : BeadSource → Bool
  | .queueLevel _ => true
  | .pin p => s.stationInMode p == 0
  | _ => false

/-- The bead a hard block's output holds, as the number its digits carry. -/
def State.heldBead (s : State) : BeadSource → Option Nat
  | .cell c => (s.stage c).full.map (·.toNat)
  | .arbiter rod row a => (s.arbiter rod row a).grant.map fun r => (Config.grantDigit r).toNat
  | .reckonerP rod k => (s.reckoner rod k).p.map (·.toNat)
  | .reckonerST rod k => (s.reckoner rod k).st.map fun b => if b then 1 else 0
  | .reckonerCasc rod k => (s.reckoner rod k).casc.map (·.toNat)
  | .fti n => if (s.ftiTap n).driving then some 1 else none
  | .pin p => (s.stationBead p).map (·.toNat)
  | .memRd rod m port => (Sparse.get [] s.mem.reads (portKey rod m port)).head?.map (·.toNat)
  | .memRs rod m port => (Sparse.get [] s.mem.statuses (portKey rod m port)).head?.map (·.toNat)
  | .queueData q => (s.queue q).cd.map (·.data.toNat)
  | .queueControl q => if s.hasCc q then (s.queue q).cd.map (·.control.toNat) else none
  | .queueEvent q => (s.queue q).ceBead.map (·.toNat)
  | .queueLevel q => if s.queueUsed q then some ((s.queue q).cm - (s.queue q).rd) else none
  | .niChannel n chan => (Sparse.get [] (s.ni n).edge.out chan).head?.map (·.toNat)
  | .icpResult => s.cfg.icpResults.head?.map (·.toNat)
  | .eventChannel => s.dev.evtBeads.head?

/-- Outputs of edge and pin stations (R258). -/
def atEdge : BeadSource → Bool
  | .niChannel _ _ | .pin _ | .icpResult | .eventChannel => true
  | _ => false

/-- An output is held at spacer: its rod is gated (R48, R49); an edge station's
rod is frozen, and it drove nothing then (R173, R265); or it has returned to spacer and its last handshake has not ended
(R42). -/
def State.silent (s : State) (x : BeadSource) : Bool :=
  s.gated (s.sourceRod x) || (atEdge x && s.frozen (s.sourceRod x) && !s.fabric.standing.contains x) || s.returning x || s.fabric.spent.contains x

/-- The bead an output drives: what it holds, or what a boundary still offers of it (R161). -/
def State.driven (s : State) (x : BeadSource) : Option Nat :=
  match s.fabric.offered.find? (·.1 == x) with
  | some (_, v) => if s.returning x then none else some v
  | none => if s.silent x then none else s.heldBead x

/-- A digit of a hard block's output. -/
def State.hardDigit (s : State) (rod : Nat) (o : RodOutput) (d : Nat) : Option Carried :=
  match s.outputOf rod o with
  | none => none
  | some x => (s.driven x).map fun v => ⟨digitNat v d, if s.tied x then [] else [x]⟩

-- ------------------------------------------------------------------ logic cells (R44, R45, R53, R54)

/-- What a cell's inputs make of what they carry: the output's value, the outputs it consumes, and how many digits read
carry an invalid code. -/
structure Arrival where
  value : Digit
  outs : List BeadSource
  faults : Nat
  deriving DecidableEq, Repr

/-- What reaches the inputs of the cells: the digit that a source code selects at a tile. -/
abbrev Look := Nat → Nat → Nat → Option Carried

/-- Input k of a cell as it is read: its tie when it is not routed, else the digit its source code selects (R44). -/
def State.inputOf (s : State) (look : Look) (c : CellId) (k : Nat) (upset : Rails) : Option Arrival :=
  let r := s.cellRecord c
  if usesInput r k then
    (look c.rod c.row (s.tileCode c.rod c.row (portAt c.cell k))).map fun x =>
      let (v, bad) := readDigit x.value upset
      ⟨v, x.outs, if bad then 1 else 0⟩
  else some ⟨tieOf r k, [], 0⟩

/-- The output of a cell in normal mode (R44, R45). -/
def State.normalArrival (s : State) (look : Look) (c : CellId) (upset : Upset) : Option Arrival :=
  (s.inputOf look c 0 (upsetAt upset 0)).bind fun a =>
  (s.inputOf look c 1 (upsetAt upset 1)).bind fun b =>
  (s.inputOf look c 2 (upsetAt upset 2)).map fun k =>
    ⟨tableOf (s.cellRecord c) a.value b.value k.value, a.outs ++ b.outs ++ k.outs, a.faults + b.faults + k.faults⟩

/-- Select digit d as the chain that ends at cell c reads it. -/
def State.selectOf (s : State) (look : Look) (c : CellId) (upset : Upset) (d : Nat) : Option Arrival :=
  (look c.rod c.row (s.tileCode c.rod c.row (selectAt (c.cell / 16) d))).map fun x =>
    let (v, bad) := readDigit x.value (upsetAt upset (64 + d))
    ⟨v, x.outs, if bad then 1 else 0⟩

/-- All of a list, or none. -/
def allSome {α : Type} : List (Option α) → Option (List α)
  | [] => some []
  | none :: _ => none
  | some x :: rest => (allSome rest).map (x :: ·)

/-- The cell of a selection chain that holds data input i. -/
def chainCell (c : CellId) (len i : Nat) : CellId := ⟨c.rod, c.row, c.cell + 1 - len + i / 4⟩

/-- The output of a selection chain that ends at cell c (R53, R54): JOIN consumes every data input and the select digits,
STEER the select digits and the selected data input; an index beyond the chain's length gives 0b00. -/
def State.chainArrival (s : State) (look : Look) (c : CellId) (upset : Upset) : Option Arrival :=
  let r := s.cellRecord c
  let len := chainLen r
  (allSome ((List.range (selectCount len)).map (s.selectOf look c upset))).bind fun sel =>
    let index := digitsNat (sel.map (·.value))
    let data (i : Nat) := s.inputOf look (chainCell c len i) (i % 4) (upsetAt upset i)
    let taken := if cellSteers r then (List.range (4 * len)).filter (· == index) else List.range (4 * len)
    (allSome (taken.map data)).map fun ins =>
      let value : Digit := if index < 4 * len then
          ((if cellSteers r then ins.head? else ins[index]?).map (·.value)).getD 0 else 0
      let all := sel ++ ins
      ⟨value, all.flatMap (·.outs), (all.map (·.faults)).sum⟩

/-- What a cell's inputs give (R44, R45, R54); a member of a chain drives no output of its own. -/
def State.arrivalBy (s : State) (look : Look) (c : CellId) (upset : Upset) : Option Arrival :=
  match cellMode (s.cellRecord c) with
  | 0 => s.normalArrival look c upset
  | 2 => s.chainArrival look c upset
  | _ => none

/-- What drives a digit, given what cells drive. -/
def State.lookBy (s : State) (cellOut : CellId → Option Carried) : Look := fun rod row code =>
  match s.driverOf rod row code with
  | .cell c => cellOut c
  | .hard rod o d => s.hardDigit rod o d
  | _ => none

/-- The output of a cell: its holding stage's bead, or what its inputs give by way of at most n further cells (R45). -/
def State.cellOut (s : State) : Nat → CellId → Option Carried
  | 0, _ => none
  | n + 1, c =>
    if cellHolds (s.cellRecord c) && cellMode (s.cellRecord c) != 1 then
      (s.driven (.cell c)).map fun v => ⟨BitVec.ofNat 2 v, [.cell c]⟩
    else if s.gated c.rod && s.fabric.offered.isEmpty then none
    else (s.arrivalBy (s.lookBy (s.cellOut n)) c []).map fun a => ⟨a.value, a.outs⟩

/-- No path through cells is longer than the cells of the part. -/
def State.cellBound (s : State) : Nat := Part.rods s.part * 12288

/-- The digit that a source code selects at a tile. -/
def State.look (s : State) : Look := s.lookBy (s.cellOut s.cellBound)

/-- What the input of a cell's holding stage carries, when it is complete (R44, R45, R54). -/
def State.arrival (s : State) (c : CellId) (upset : Upset) : Option Arrival := s.arrivalBy s.look c upset

-- ------------------------------------------------------------------ input channels of hard blocks

/-- A bead as a sink reads it: its digits, the outputs it comes from, and the tile rows whose digits carry an invalid
code. -/
structure Bead where
  digits : List Digit
  outs : List BeadSource
  faults : List Nat
  deriving DecidableEq, Repr

/-- The number a bead carries. -/
def Bead.num (b : Bead) : Nat := digitsNat b.digits

/-- The bead complete at an input channel (R42, R43, R72): every digit in use carries a value. -/
def State.channelBead (s : State) (b : BeadSink) (upset : Upset) : Option Bead :=
  let n := s.sinkDigits b
  if n = 0 then none
  else
    (allSome ((List.range n).map fun d =>
      let (rod, row, code) := s.sinkCode b d
      (s.look rod row code).map fun x => (x, readDigit x.value (upsetAt upset d), row))).map fun ds =>
      ⟨ds.map (·.2.1.1), ds.flatMap (·.1.outs), (ds.filter (·.2.1.2)).map (·.2.2)⟩

/-- The bead a sink reads: that of its HELD arrival latch, or the one complete at its input (R50). -/
def State.beadAt (s : State) (b : BeadSink) (upset : Upset) : Option Bead :=
  match s.latched b with
  | some ds => some ⟨ds, ((s.channelBead b []).map (·.outs)).getD [], []⟩
  | none => s.channelBead b upset

-- ------------------------------------------------------------------ what an output feeds

/-- Where a source code of a tile stands (R139). -/
inductive Point where
  | port (cell port : Nat)
  | select (slice digit : Nat)
  | request (arb r : Nat)
  | track (t : Nat)
  | driver (k : Nat)
  | slot (i : Nat)
  | spine (i : Nat)
  deriving DecidableEq, Repr

/-- The points of a tile routing record, in the order of its bits: ports, select ports, requests and tracks. -/
def pointOf (i : Nat) : Point :=
  if i < 512 then .port (i / 4) (i % 4)
  else if i < 536 then .select ((i - 512) / 3) ((i - 512) % 3)
  else if i < 544 then .request ((i - 536) / 2) ((i - 536) % 2)
  else .track (i - 544)

/-- The source codes of a tile that are not 0, with their points; spines select from the sources of one tile row of their
rod. -/
def State.pointsAt (s : State) (rod row : Nat) : List (Point × Nat) :=
  let tile := s.tileBits rod row 0 6784
  let routed := if tile = 0 then [] else
    ((List.range 656).map fun i => (pointOf i, recBits tile (8 * i) 8)) ++
    ((List.range 8).map fun k => (Point.driver k, recBits tile (driverAt k) 8)) ++
    (List.range 80).map fun i => (Point.slot i, recBits tile (slotAt i) 8)
  let spines := if s.frame rod 639 = 0 then [] else
    ((List.range 16).map fun i => (i, frameBits (s.frame rod 639) (8 * i) 8)).filterMap fun x =>
      if x.2 ≠ 0 ∧ (Config.spineRow x.1).val = row then some (Point.spine x.1, x.2) else none
  (routed ++ spines).filter (·.2 != 0)

/-- The input digit of a hard block that a slot of a tile row serves (R140). -/
def State.slotSinks (s : State) (rod row i : Nat) : List (BeadSink × Nat) :=
  let memory :=
    let n := 3 * i + row % 3
    let port := n / 45
    [if n % 45 < 9 then (BeadSink.memReq rod (row / 3) port, n % 45)
     else (BeadSink.memData rod (row / 3) port, n % 45 - 9)]
  let reckoner :=
    let n := 4 * (i - 30) + row % 4
    let port := if n < 14 then 0 else if n < 28 then 1 else if n < 42 then 2 else if n < 74 then 3 else 4
    [(BeadSink.reckoner rod (row / 4) port, n - reckonerBase port)]
  let queue :=
    let n := 3 * (i - 49) + row % 3
    let q := 8 * rod + row / 12
    [if n < 36 then (BeadSink.queueData q, n)
     else if n = 36 then (BeadSink.queueControl q, 0) else (BeadSink.queueFlush q, 0)]
  let pin := ((if row = 0 then s.pinHomed rod false else if row = 95 then s.pinHomed rod true else none).map
    fun p => (BeadSink.pin p, 0)).toList
  if i < 30 then memory
  else if i < 49 then reckoner
  else if queueBeside row && decide (i < pinSlot row) then queue
  else
    let here (x : BeadSink × Nat) : Bool := s.sinkSlot x.1 x.2 == (rod, row, i)
    let ni := if rod % 8 = 3 then
        (List.range 72).map fun d => (BeadSink.niChannel (32 * (row / 32) + rod / 8) (d / 36), d % 36)
      else []
    let fto := ((List.range 16).filter fun n => tapUsed (s.tapEntry n) && tapRod (s.tapEntry n) == rod).map
      fun n => (BeadSink.fto n, 0)
    let icp := if rod = 0 then
        ((List.range 8).map fun d => (BeadSink.icpCommand, d)) ++ (List.range 16).map fun d => (BeadSink.icpData, d)
      else []
    (if i = pinSlot row then pin else []) ++ (ni ++ fto ++ icp).filter here

/-- Where a bead that an output drives is waited for: at a sink; at a point that never answers, a masked driver point or a
STALL boundary; at a SINK boundary, which takes and counts it (R78, R161). -/
inductive Dest where
  | sink (b : BeadSink)
  | never
  | sunk (span : Nat)
  deriving DecidableEq, Repr

/-- Two origins are digits of one output. -/
def sameOutput : Origin → Origin → Bool
  | .hard r o _, .hard r' o' _ => r == r' && o == o'
  | a, b => a == b

/-- The tiles whose source codes may select an origin (R70, R71, R74). -/
def State.tilesOf (s : State) (o : Origin) : List (Nat × Nat) :=
  let rows (rod : Nat) := (List.range 96).map fun row => (rod, row)
  match o with
  | .none => []
  | .cell c => [(c.rod, c.row)]
  | .hard rod _ _ => rows rod
  | .wire (.track rod row t) =>
    if t < 80 then
      let (reach, north) :=
        if t < 32 then (1, decide (t < 16)) else if t < 64 then (4, decide (t < 48)) else (12, decide (t < 72))
      if north then (if reach ≤ row then [(rod, row - reach)] else [])
      else if row + reach < 96 then [(rod, row + reach)] else []
    else if t < 96 then (if rod + 1 < Part.rods s.part then [(rod + 1, row)] else [])
    else if rod = 0 then [] else [(rod - 1, row)]
  | .wire (.line rod row k) =>
    let range := segmentRods s.part k (segmentOf k rod)
    (List.range (range.2 + 1 - range.1)).map fun i => (range.1 + i, row)
  | .wire (.spine rod _) => rows rod

/-- The boundary of an isolated span at which a wire that arrives at a rod ends (R159, R161). -/
def State.boundaryDest (s : State) (w : Wire) (rod : Nat) : Option Dest :=
  match w.crossing with
  | some (cls, a, row, t) =>
    match s.entersSpan a rod with
    | some d => some (if (boundaryPolicy d cls rod row t).getD false then .sunk d.id else .never)
    | none => if s.leavesUnnamed w rod then some .never else none
  | none => none

/-- The chain end of the slice whose chain holds a cell (R53). -/
def State.chainEnd (s : State) (c : CellId) : Option CellId :=
  let at_ (i : Nat) : CellId := ⟨c.rod, c.row, 16 * (c.cell / 16) + i⟩
  ((List.range 16).find? fun i =>
    let r := s.cellRecord (at_ i)
    cellMode r == 2 && decide (c.cell % 16 ≤ i ∧ i + 1 ≤ c.cell % 16 + chainLen r)).map at_

/-- The chain ends of a slice that read select digit d (R53). -/
def State.selectEnds (s : State) (rod row slice d : Nat) : List CellId :=
  ((List.range 16).map fun i => (⟨rod, row, 16 * slice + i⟩ : CellId)).filter fun c =>
    let r := s.cellRecord c
    cellMode r == 2 && decide (d < selectCount (chainLen r))

/-- What a point that selects an origin passes on: sinks and dead ends, and the origins it drives in turn. -/
def State.pointFeeds (s : State) (rod row : Nat) (pt : Point) : List Dest × List Origin :=
  let cell (c : CellId) : List Dest × List Origin :=
    if cellHolds (s.cellRecord c) then ([.sink (.cell c)], []) else ([], [.cell c])
  let cells (cs : List CellId) : List Dest × List Origin :=
    (cs.flatMap fun c => (cell c).1, cs.flatMap fun c => (cell c).2)
  match pt with
  | .port c p =>
    let id : CellId := ⟨rod, row, c⟩
    let r := s.cellRecord id
    if !usesInput r p || (p == 3 && cellMode r == 0) then ([], [])
    else if cellMode r = 0 then cell id else cells (s.chainEnd id).toList
  | .select sl d => cells (s.selectEnds rod row sl d)
  | .request a r => ([.sink (.request rod row a r)], [])
  | .track t => ([], [.wire (.track rod row t)])
  | .driver k =>
    if !(s.enabledDrivers (lineSegment rod row k)).contains rod then ([], [])
    else if s.lineDriver (lineSegment rod row k) = some rod then ([], [.wire (.line rod row k)]) else ([.never], [])
  | .slot i =>
    (((s.slotSinks rod row i).filter fun x => decide (x.2 < s.sinkDigits x.1)).map fun x => .sink x.1, [])
  | .spine i => ([], [.wire (.spine rod i)])

/-- Where what an origin carries is waited for, by way of at most n further wires and cells (R46, R75). -/
def State.feeds (s : State) : Nat → Origin → List Dest
  | 0, _ => []
  | n + 1, o =>
    (s.tilesOf o).flatMap fun (rod, row) =>
      let stop := match o with
        | .wire w => s.boundaryDest w rod
        | _ => none
      match stop with
      | some d => [d]
      | none =>
        ((s.pointsAt rod row).filter fun x => sameOutput (s.codeOrigin rod row x.2) o).flatMap fun x =>
          let (here, on) := s.pointFeeds rod row x.1
          here ++ on.flatMap (s.feeds n)

/-- What an origin carries leaves a span on a track that its entries name (R159, R161). -/
def State.leavesSpan (s : State) : Nat → Origin → SpanDecl → Bool
  | 0, _, _ => false
  | n + 1, o, d =>
    (s.tilesOf o).any fun (rod, row) =>
      (match o with
       | .wire w =>
         match w.crossing with
         | some (cls, a, r, t) => d.rods.getLsbD a && !d.rods.getLsbD rod && boundaryOut d cls a r t
         | none => false
       | _ => false) ||
      (d.rods.getLsbD rod &&
        ((s.pointsAt rod row).filter fun x => sameOutput (s.codeOrigin rod row x.2) o).any fun x =>
          (s.pointFeeds rod row x.1).2.any fun o' => s.leavesSpan n o' d)

/-- The origin that an output is to source codes. -/
def State.originOf (s : State) (x : BeadSource) : Origin :=
  match x with
  | .cell c => .cell c
  | .arbiter rod row a => .hard rod (.grant row a) 0
  | .reckonerP rod k => .hard rod (.reckonerP k) 0
  | .reckonerST rod k => .hard rod (.reckonerST k) 0
  | .reckonerCasc _ _ => .none
  | .fti n => .hard (s.sourceRod x) (.fti n) 0
  | .pin p => .hard (s.sourceRod x) (.pin (decide (96 ≤ p))) 0
  | .memRd rod m port => .hard rod (.memRd m port) 0
  | .memRs rod m port => .hard rod (.memRs m port) 0
  | .queueData q => .hard (queueRod q) (.queueData (q % 8)) 0
  | .queueControl q => .hard (queueRod q) (.queueControl (q % 8)) 0
  | .queueEvent q => .hard (queueRod q) (.queueEvent (q % 8)) 0
  | .queueLevel q => .hard (queueRod q) (.queueLevel (q % 8)) 0
  | .niChannel n chan => .hard (edgeRod n) (.ni (n / 32) chan) 0
  | .icpResult => .hard 0 .icpResult 0
  | .eventChannel => .hard 0 .eventChannel 0

/-- The cells of a rod with a holding stage that may be FULL: those whose stage has left its initial state, and those of
rows that configuration memory fills. -/
def State.stagesOf (s : State) (rod : Nat) : List CellId :=
  let rows := (List.range 96).filter fun row => s.rodBits rod (5 * row) 0 20480 != 0
  let all := rows.flatMap fun row => (List.range 128).map fun i => (⟨rod, row, i⟩ : CellId)
  all.filter fun c => cellHolds (s.cellRecord c)

/-- The outputs of the chosen rods that drive a bead, with its value. -/
def State.drivingOutputs (s : State) (on : Nat → Bool) : List (BeadSource × Nat) :=
  let rods := (List.range (Part.rods s.part)).filter on
  let cells := rods.flatMap fun rod => (s.stagesOf rod).map BeadSource.cell
  let arbiters := s.fabric.arbiters.map fun kv => BeadSource.arbiter (kv.1 / 384) (kv.1 / 4 % 96) (kv.1 % 4)
  let reckoners := s.fabric.reckoners.flatMap fun kv =>
    [BeadSource.reckonerP (kv.1 / 24) (kv.1 % 24), BeadSource.reckonerST (kv.1 / 24) (kv.1 % 24)]
  let ports := (s.mem.reads.map (·.1) ++ s.mem.statuses.map (·.1)).flatMap fun k =>
    [BeadSource.memRd (k / 64) (k / 2 % 32) (k % 2), BeadSource.memRs (k / 64) (k / 2 % 32) (k % 2)]
  let queues := s.mem.queues.flatMap fun kv =>
    [BeadSource.queueData kv.1, BeadSource.queueControl kv.1, BeadSource.queueEvent kv.1]
  let taps := s.fabric.taps.map fun kv => BeadSource.fti kv.1
  let pins := s.fabric.stations.map fun kv => BeadSource.pin kv.1
  let nis := (s.net.nis.filter fun kv => decide (kv.1 < 0x60)).flatMap fun kv =>
    (List.range 4).map fun chan => BeadSource.niChannel kv.1 chan
  let all := cells ++ arbiters ++ reckoners ++ ports ++ queues ++ taps ++ pins ++ nis ++
    [BeadSource.icpResult, BeadSource.eventChannel]
  ((all.filter fun x => on (s.sourceRod x) && !s.tied x).eraseDups).filterMap fun x => (s.driven x).map fun v => (x, v)

/-- Where an output's bead is waited for. -/
def State.dests (s : State) (x : BeadSource) : List Dest := s.feeds s.routeBound (s.originOf x)

/-- A sink's ACK is high for an output's bead. -/
def State.acked (s : State) (b : BeadSink) (x : BeadSource) : Bool :=
  s.fabric.takings.any fun t => t.sink == b && t.wait.contains x

/-- Every consumer of an output has acknowledged its bead (R46, R75); an output without consumers acknowledges itself. -/
def State.joined (s : State) (x : BeadSource) : Bool :=
  (s.dests x).all fun d =>
    match d with
    | .sink b => s.acked b x
    | .never => false
    | .sunk _ => true

/-- Each SINK boundary that takes an output's bead counts it (R161). -/
def State.sinkCounts (s : State) (x : BeadSource) : State :=
  (s.dests x).foldl
    (fun s d =>
      match d with
      | .sunk n => s.bump F.CFG_SPAN_SINK_BEADS n 1
      | _ => s) s

-- ------------------------------------------------------------------ taking beads

/-- A logical rod that a step of the roving spare holds frozen (R186). -/
def State.pausedRod (s : State) : Option Nat :=
  match s.repair.step with
  | some st => if st.frozenAt.isSome then some st.logical else none
  | none => none

/-- A stage's output drives a lateral track into a rod (R191). -/
def State.drivesInto (s : State) : Nat → Origin → Nat → Bool
  | 0, _, _ => false
  | n + 1, o, rod =>
    (s.tilesOf o).any fun (r, row) =>
      (match o with
       | .wire (.track _ _ t) => decide (80 ≤ t) && r == rod
       | _ => false) ||
      ((s.pointsAt r row).filter fun x => sameOutput (s.codeOrigin r row x.2) o).any fun x =>
        (s.pointFeeds r row x.1).2.any fun o' => s.drivesInto n o' rod

/-- A holding stage of a neighbour withholds its acknowledge while a step moves a rod: it drives a track through a shift
multiplexer that is to change (R81, R191). -/
def State.withheld (s : State) (c : CellId) : Bool :=
  match s.pausedRod with
  | some rod => (c.rod + 1 == rod || c.rod == rod + 1) && s.drivesInto s.routeBound (.cell c) rod
  | none => false

/-- A sink's acknowledge is withheld: FREEZE holds its rod, or R191 holds the stage. -/
def State.withholds (s : State) (b : BeadSink) : Bool :=
  s.frozen (s.sinkRod b) ||
  match b with
  | .cell c => s.withheld c
  | _ => false

/-- A sink can take a bead: its rod is neither gated nor throttled, its acknowledge is not withheld, and its last handshake
has ended. -/
def State.sinkReady (s : State) (b : BeadSink) : Bool :=
  !s.gated (s.sinkRod b) && !s.throttled (s.sinkRod b) && !s.withholds b && !s.acking b

/-- The code faults of a bead are counted (R43). -/
def State.beadFaults (s : State) (rod : Nat) (rows : List Nat) : State :=
  rows.foldl (fun s row => s.countCodeFault rod row) s

/-- A sink takes a bead: its ACK rises for the outputs the bead comes from, and its latch becomes VACANT. -/
def State.takeBead (s : State) (b : BeadSink) (x : Bead) : State :=
  ((s.beadFaults (s.sinkRod b) x.faults).unlatch b).takeFrom b x.outs

/-- A bead that becomes complete at a withheld input is captured by its arrival latch (R50, R173). -/
def State.catchBead (s : State) (b : BeadSink) (upset : Upset) : State :=
  if s.gated (s.sinkRod b) || !s.withholds b || (s.latched b).isSome || s.acking b then s
  else
    match s.channelBead b upset with
    | some x => (s.beadFaults (s.sinkRod b) x.faults).latch b x.digits
    | none => s

/-- The beads that several channels need for one step, with what the step does once all can be taken; channels whose
acknowledge is withheld catch what is complete at them. The digits of the channels are numbered one after the other for
the upset. -/
def State.withBeads (s : State) (bs : List (BeadSink × Upset)) (f : List Bead → State → Option State) : State :=
  if bs.any fun b => s.withholds b.1 then bs.foldl (fun s b => s.catchBead b.1 b.2) s
  else if bs.all fun b => s.sinkReady b.1 then
    match allSome (bs.map fun b => s.beadAt b.1 b.2) with
    | some xs =>
      match f xs s with
      | some t => ((bs.map (·.1)).zip xs).foldl (fun s p => s.takeBead p.1 p.2) t
      | none => s
    | none => s
  else s

/-- Digits lo to lo + n - 1 of an upset, renumbered from 0. -/
def upsetPart (u : Upset) (lo n : Nat) : Upset :=
  (u.filter fun x => decide (lo ≤ x.1 ∧ x.1 < lo + n)).map fun x => (x.1 - lo, x.2)

/-- A holding stage meets an input (R48, R50): a HELD latch presents its bead first; where acknowledges are withheld a
complete input is captured in a VACANT latch; gated, throttled (R386), FULL, with the last handshake not ended or its output not clear,
nothing happens. -/
def State.stageAccept (s : State) (c : CellId) (upset : Upset) : State :=
  let b := BeadSink.cell c
  let st := s.stage c
  if !s.hasStage c || s.gated c.rod || s.throttled c.rod || s.acking b then s
  else if s.withholds b then
    match st.held, s.arrival c upset with
    | none, some a => (s.codeFaults c.rod c.row a.faults).setStage c { st with held := some a.value }
    | _, _ => s
  else if st.full.isSome || !s.clear (.cell c) then s
  else
    match st.held with
    | some v => (s.setStage c ⟨some v, none⟩).takeFrom b (((s.arrival c []).map (·.outs)).getD [])
    | none =>
      match s.arrival c upset with
      | some a => ((s.codeFaults c.rod c.row a.faults).setStage c ⟨some a.value, none⟩).takeFrom b a.outs
      | none => s

end Sys2Proof.Machine
end

