-- ==== Sys2Proof/Machine/Edges.lean ====
section
/-! DEFINITION. The edge stations of fabric NIs (R227, R228, R264, R265): the layouts of beads, packets laid out on IR, TQ,
UQ, EV, buffers of four words each way, and their reset. -/

namespace Sys2Proof.Machine

-- ------------------------------------------------------------------ bead layouts (R228)

/-- A field of a bead. -/
def beadField (b : BitVec 72) (lo w : Nat) : Nat := b.toNat / 2 ^ lo % 2 ^ w

/-- The data beads of a request or an answer by its command and byte range (R228). A command that R228 does not name has
none: the spec does not say (DESIGN CHOICE, assumption 175). -/
def dataBeads (c : Cmd) (addr len : Nat) : Nat :=
  match c with
  | .wr | .wrp | .rspData => dataWords addr len
  | .fadd | .evt => 1
  | _ => 0

/-- Beads of the request whose first beads are given: two headers, then data beads; the first header says how many. -/
def requestBeads (ws : List (BitVec 72)) : Nat :=
  match ws with
  | [] => 2
  | h :: _ => 2 + dataBeads (cmdOfCode (beadField h 60 4)) (beadField h 0 48) (beadField h 48 12)

/-- Byte of address a in the data beads of a range that begins at addr, and its enable. -/
def beadByte (ws : List (BitVec 72)) (addr a : Nat) : Byte × Bool :=
  let w := ws.getD (a / 8 - addr / 8) 0
  (BitVec.ofNat 8 (beadField w (8 * (a % 8)) 8), w.getLsbD (64 + a % 8))

/-- The request that whole beads of IQ spell (R228, R229): ATTR.REC and ATTR.DBG are ignored. -/
def requestOf (ws : List (BitVec 72)) : Request :=
  let h := ws.getD 0 0
  let data := ws.drop 2
  let addr := beadField h 0 48
  let len := beadField h 48 12
  let c := cmdOfCode (beadField h 60 4)
  let bytes := (List.range (len + 1)).map fun i => beadByte data addr (addr + i)
  let carries := match c with
    | .wr | .wrp => true
    | _ => false
  { cmd := c, addr, len
    be := if carries then bytes.map (·.2) else []
    operand := BitVec.ofNat 64 (if carries then 0 else (data.getD 0 0).toNat)
    data := if carries then bytes.map (·.1) else []
    dbg := false, mgmt := h.getLsbD 66, urgent := h.getLsbD 69
    tag := beadField (ws.getD 1 0) 0 12, use := .fabric (beadField h 67 2) }

/-- Request header 0, of TQ and UQ. -/
def headerBead (p : Packet) : BitVec 72 :=
  BitVec.ofNat 72 (p.addr % 2 ^ 48 + p.len % 4096 * 2 ^ 48 + p.cmd.code % 16 * 2 ^ 60 + p.attr.toNat % 64 * 2 ^ 64)

/-- Request header 1, of TQ and UQ. -/
def handleBead (h : Nat) (p : Packet) : BitVec 72 :=
  BitVec.ofNat 72 (h % 4096 + p.record.toNat * 2 ^ 12 + p.src % 256 * 2 ^ 28)

/-- The header of an answer on IR. -/
def answerBead (p : Packet) : BitVec 72 :=
  let bad := p.cmd == Cmd.rspErr
  BitVec.ofNat 72 (p.tag % 4096 + p.cmd.code % 16 * 2 ^ 12 + (if bad then p.err % 256 * 2 ^ 16 else 0) +
    (if bad then p.operand.toNat % 2 ^ 32 * 2 ^ 24 else 0))

/-- The bead of an event. -/
def eventBead (e : DWord × Nat) : BitVec 72 := BitVec.ofNat 72 (e.1.toNat + e.2 % 256 * 2 ^ 64)

/-- Data bead k of a packet (R228): its word and its byte enables. A byte of the word outside the range is free. -/
def State.dataBead (s : State) (p : Packet) (k : Nat) : BitVec 72 × State :=
  match p.cmd with
  | .fadd | .evt => (BitVec.ofNat 72 (p.operand.toNat + 255 * 2 ^ 64), s)
  | _ =>
    let lanes := (List.range 8).map fun i => 8 * (p.addr / 8 + k) + i
    let inside (a : Nat) : Bool := decide (p.addr ≤ a ∧ a ≤ p.addr + p.len)
    let free := Config.freeDWord s.fresh
    let word := (lanes.map fun a =>
      if inside a then p.data.getD (a - p.addr) 0 else BitVec.ofNat 8 (free.toNat / 2 ^ (8 * (a % 8)))).foldr
        (fun b acc => b.toNat + 256 * acc) 0
    let on := lanes.foldr
      (fun a acc => (if inside a && (isResponse p.cmd || packetEnables p (a - p.addr)) then 1 else 0) + 2 * acc) 0
    (BitVec.ofNat 72 (word + on * 2 ^ 64), if lanes.all inside then s else s.putFresh (s.fresh + 1))

-- ------------------------------------------------------------------ the edge station

/-- The state with an NI's edge station replaced. -/
def State.setEdge (s : State) (n : Nat) (e : EdgeState) : State := s.setNi n { s.ni n with edge := e }

/-- The words of an edge buffer, each way (R264). -/
def edgeDepth : Nat := 4

/-- Channels: 0 IR, 1 TQ, 2 UQ, 3 EV of an NI are routed when a source code of its rod selects their output (R227). -/
def State.channelRouted (s : State) (n chan : Nat) : Bool :=
  (s.rodCodes (edgeRod n)).any fun (row, c) =>
    decide (128 < c) && match Config.hardTap row c with
      | some (.ni b k, _) => b == n / 32 && k == chan
      | _ => false

/-- An edge station passes words on its clocked side: it is in RUN, and no reset gates its rod (R265, R267). -/
def State.edgePasses (s : State) (n : Nat) : Bool := s.station n == 0 && !s.gated (edgeRod n)

/-- The packet at the head of a channel: its beads, by index, and how many there are. -/
def State.channelHead (s : State) (n chan : Nat) : Option ((Nat → BitVec 72 × State) × Nat) :=
  let v := s.ni n
  let request (h : Nat) (p : Packet) : (Nat → BitVec 72 × State) × Nat :=
    (fun i => if i = 0 then (headerBead p, s) else if i = 1 then (handleBead h p, s) else s.dataBead p (i - 2),
      2 + dataBeads p.cmd p.addr p.len)
  match chan with
  | 0 => v.ir.head?.map fun p =>
      (fun i => if i = 0 then (answerBead p, s) else s.dataBead p (i - 1), 1 + dataBeads p.cmd p.addr p.len)
  | 1 => v.edge.tq.head?.map fun x => request x.1 x.2
  | 2 => v.uq.head?.map (request 0)
  | 3 => v.ev.head?.map fun e => (fun _ => (eventBead e, s), 1)
  | _ => none

/-- The last bead of the packet at the head of a channel has passed: the unit has taken the packet (R230, R231, R284). -/
def State.channelDone (s : State) (n chan : Nat) : State :=
  let v := s.ni n
  match chan with
  | 0 => s.setNi n { v with ir := v.ir.tail }
  | 1 =>
    match v.edge.tq with
    | (_, p) :: rest =>
      let v := { v with edge := { v.edge with tq := rest } }
      if p.cmd = .wrp then (s.setNi n { v with posted := v.posted.erase p }).answerMarkers n else s.setNi n v
    | [] => s
  | 2 => s.setNi n { v with uq := v.uq.tail }
  | _ => s.setNi n { v with ev := v.ev.tail }

/-- The next bead of a channel's packets passes into its buffer, when there is room (R264). -/
def State.channelPass (s : State) (n chan : Nat) : State :=
  let e := (s.ni n).edge
  let words := Sparse.get [] e.out chan
  match s.channelHead n chan with
  | some (bead, count) =>
    if edgeDepth ≤ words.length then s
    else
      let i := Sparse.get 0 e.moved chan
      let (w, s) := bead i
      let last := decide (count ≤ i + 1)
      let s := s.setEdge n { e with
        out := Sparse.set [] e.out chan (words ++ [w]), moved := Sparse.set 0 e.moved chan (if last then 0 else i + 1) }
      if last then s.channelDone n chan else s
  | none => s

/-- An edge station of a fabric NI empties its buffers (R260, R265): the words are counted, and packets cut short are
discarded (R223). -/
def State.edgeEmpties (s : State) (n : Nat) : State :=
  let e := (s.ni n).edge
  let words := e.iq.length + e.tr.length + (e.out.map fun kv => kv.2.length).sum
  let cut := (if e.iqWords.isEmpty || requestBeads e.iqWords ≤ e.iqWords.length then 0 else 1) +
    (if e.trWords.isEmpty then 0 else 1) + (e.moved.filter fun kv => kv.2 != 0).length
  let s := (s.stationDiscard n words).bump F.NI_DISCARD_ORPHANS n cut
  let s := (e.moved.filter fun kv => kv.2 != 0).foldl (fun s kv => s.channelDone n kv.1) s
  let e' := (s.ni n).edge
  s.setEdge n { e' with
    iq := [], tr := [], out := [], moved := [], trWords := []
    iqWords := if requestBeads e.iqWords ≤ e.iqWords.length then e.iqWords else [] }

/-- What a station holds between its sides is discarded and counted (R260, R265). -/
def State.stationEmpties (s : State) (i : Nat) : State :=
  if i = 0xA0 then (s.stationDiscard 0xA0 s.cfg.icpResults.length).putCfg { s.cfg with icpResults := [] }
  else if i = 0xA1 then (s.stationDiscard 0xA1 s.dev.evtBeads.length).putDev { s.dev with evtBeads := [] }
  else if i < 0x60 then s.edgeEmpties i
  else
    let (entries, s) := s.csfReset i
    s.stationDiscard i entries

/-- The edge stations of the chosen rods empty their buffers at a gating tick (R265). -/
def State.edgesReset (s : State) (on : Nat → Bool) : State :=
  let fabric := (s.net.nis.map (·.1)).filter fun n => decide (n < 0x60) && on (edgeRod n)
  let s := (fabric ++ if on 0 then [0xA0, 0xA1] else []).foldl State.stationEmpties s
  s.putFabric { s.fabric with spent := s.fabric.spent.filter fun x => !on (s.sourceRod x) }

-- ------------------------------------------------------------------ resynchronization (R260, R261, R269)

/-- A side of a station resets (R260, R269): what the station holds is discarded, RESYNC_REQ goes out over a CS-H, and it is
in RESYNC. A reset in RESYNC starts the sequence again: its RESYNC_REQ is the next pulse of the CS-H (R261, R262). -/
def State.resync (s : State) (i : Nat) : State :=
  if !stationPresent s.part i then s
  else
    let s := if s.station i = 1 then s else s.setCsh i cshIdle
    ((s.stationEmpties i).cshPulse i |>.setF F.DEV_XS_STATE_STATE i 1).setF F.DEV_XS_STATE_SIDE i 0

/-- RESYNC_ACK is seen (R260): the station runs when no RESYNC_REQ waits on the CS-H; that of a lost rod stays in RESYNC
(R265). -/
def State.resyncDone (s : State) (i : Nat) : State :=
  if s.station i != 1 || (decide (i < 0x60) && s.lostRod (edgeRod i)) || !stationPresent s.part i then s
  else
    let s := s.cshDone i
    if (s.csh i).running then s
    else ((s.setF F.DEV_XS_STATE_STATE i 0).count F.DEV_XS_STATE_RESYNCS i).clocksSeen i

end Sys2Proof.Machine
end

