-- ==== Sys2Proof/Machine/Tally.lean ====
section
/-! DEFINITION. The tally (R293, R294): which counters are tally counters, the strobe, and the shadows. -/

namespace Sys2Proof.Machine

/-- The bits of a register that are a tally counter, 0 where it is none (R294: the counters their chapters name). -/
def tallyMask : Reg → Nat
  | .QUEUE_WORDS_IN_LO | .QUEUE_WORDS_IN_HI | .QUEUE_WORDS_OUT_LO | .QUEUE_WORDS_OUT_HI | .QUEUE_PKT_ERR
  | .QUEUE_FLUSH_CNT | .QUEUE_ECC | .QUEUE_LATE
  | .NI_STAT_UNITS_LO | .NI_STAT_UNITS_HI | .NI_STAT_BYTES_LO | .NI_STAT_BYTES_HI | .NI_STAT_LAT_MAX | .NI_STAT_HIST
  | .DEV_XS_CNT | .BEAM_SRC_CNT | .RECORD_LATE_CNT | .TBUS_CNT_TX
  | .LANE_RX_BYTES_LO | .LANE_RX_BYTES_HI | .LANE_RX_DROP
  | .HBM_RING_REC_BYTES_LO | .HBM_RING_REC_BYTES_HI | .STORE_CH_REC_BYTES_LO | .STORE_CH_REC_BYTES_HI | .STORE_CH_LOST
  | .HOST_LINK_CNT | .HOST_CH_BYTES_LO | .HOST_CH_BYTES_HI | .PIN_STN_STAT => 0xFFFFFFFF
  | .TBUS_CNT_EXC => 0xFF000000
  | .HBM_PC_ECC => 0xFFFF
  | _ => 0

/-- The high half of a 64-bit tally counter, named by its low half. -/
def tallyHigh : Reg → Option Reg
  | .QUEUE_WORDS_IN_LO => some .QUEUE_WORDS_IN_HI
  | .QUEUE_WORDS_OUT_LO => some .QUEUE_WORDS_OUT_HI
  | .NI_STAT_UNITS_LO => some .NI_STAT_UNITS_HI
  | .NI_STAT_BYTES_LO => some .NI_STAT_BYTES_HI
  | .LANE_RX_BYTES_LO => some .LANE_RX_BYTES_HI
  | .HBM_RING_REC_BYTES_LO => some .HBM_RING_REC_BYTES_HI
  | .STORE_CH_REC_BYTES_LO => some .STORE_CH_REC_BYTES_HI
  | .HOST_CH_BYTES_LO => some .HOST_CH_BYTES_HI
  | _ => none

/-- The high halves themselves: SEL does not name them (R294). -/
def isTallyHigh (r : Reg) : Bool := allRegs.any fun q => tallyHigh q == some r

/-- An NI of the power region in which a counter's unit lies; 0x99 for the always-on region. -/
def tallyNi (p : Part) (r : Reg) (inst : Nat) : Nat :=
  match r with
  | .QUEUE_WORDS_IN_LO | .QUEUE_WORDS_IN_HI | .QUEUE_WORDS_OUT_LO | .QUEUE_WORDS_OUT_HI | .QUEUE_PKT_ERR
  | .QUEUE_FLUSH_CNT | .QUEUE_ECC | .QUEUE_LATE => inst / 64
  | .NI_STAT_UNITS_LO | .NI_STAT_UNITS_HI | .NI_STAT_BYTES_LO | .NI_STAT_BYTES_HI | .NI_STAT_LAT_MAX => inst / 4
  | .NI_STAT_HIST => inst / 64
  | .DEV_XS_CNT | .RECORD_LATE_CNT => if inst < 0xA0 then inst else 0x99
  | .LANE_RX_BYTES_LO | .LANE_RX_BYTES_HI | .LANE_RX_DROP => 0x70 + inst / 4
  | .HBM_RING_REC_BYTES_LO | .HBM_RING_REC_BYTES_HI | .HBM_PC_ECC => 0x60
  | .STORE_CH_REC_BYTES_LO | .STORE_CH_REC_BYTES_HI | .STORE_CH_LOST => 0x98
  | .PIN_STN_STAT => homeRod p inst / 8
  | _ => 0x99

/-- The power region of an NI as the tally names it: FPD f, 8 HBM, 9 the store, 10 the sequencer, 11 always on, 16 + q. -/
def regionOfNi (n : Nat) : Nat :=
  if n < 0x60 then n % 32 / 4
  else if n < 0x70 then 8
  else if n < 0x90 then 16 + (n - 0x70)
  else if 0x94 ≤ n ∧ n < 0x98 then 10
  else if n = 0x98 then 9
  else 11

/-- An NI in each region of the part. -/
def regionNis : List Nat := [0, 4, 8, 12, 16, 20, 24, 28, 0x60, 0x94, 0x98, 0x99] ++ (List.range 32).map (0x70 + ·)

/-- A register key names a tally counter whose unit is powered. -/
def State.tallies (s : State) (k : Nat) : Bool :=
  match regOfKey k with
  | some r => tallyMask r != 0 && s.niPowered (tallyNi s.part r (instOfKey k))
  | none => false

/-- The tally bits of a listed register. -/
def tallyValue (k : Nat) (v : Word) : Word :=
  match regOfKey k with
  | some r => v &&& BitVec.ofNat 32 (tallyMask r)
  | none => 0

/-- A tally strobe acts now (R293): one less than 64 ticks after the last is merged; otherwise SEQ and TIME advance and
every powered unit copies its counters and stamps them. Units latch at the strobe itself (assumption 55). -/
def State.tallyStrobe (s : State) : State :=
  match s.tally.last with
  | some t =>
    if t == s.time then s
    else if s.time.toNat < t.toNat + 64 then s.raise F.TALLY_STATUS_COALESCED 0
    else take s
  | none => take s
where
  take (s : State) : State :=
    let seq := (s.f F.TALLY_STATUS_SEQ 0 + 1) % 65536
    let s := s.setF F.TALLY_STATUS_SEQ 0 seq
    let s := s.setPair .TALLY_TIME_LO .TALLY_TIME_HI 0 s.now.toNat
    let kept := s.tally.shadows.filter fun kv => !s.tallies kv.1
    let shadows := s.regs.foldl
      (fun m kv => if s.tallies kv.1 then Sparse.set 0 m kv.1 (tallyValue kv.1 kv.2) else m) kept
    let stamps := (regionNis.filter s.niPowered).foldl
      (fun m n => Sparse.set 0 m (regionOfNi n) (seq + 1)) s.tally.stamps
    (s.putTally { shadows := shadows, stamps := stamps, last := some s.time })

/-- TAKE (R293): a strobe event enters on the next tick. -/
def State.tallyTake (s : State) : State := s.enterNext (.direct 35)

/-- A strobe event is on its way (CTRL.TAKE reads 1). -/
def State.tallyTaking (s : State) : Bool := s.beam.flight.any fun e => e.origin == .direct 35

/-- The counter SEL names (R294). -/
def State.tallySel (s : State) : Option (Reg × Nat) :=
  (regAt (s.f F.TALLY_SEL_OFFSET 0)).filter fun ri =>
    tallyMask ri.1 != 0 && !isTallyHigh ri.1 && regPresent s.part ri.1 ri.2

/-- SHADOW_LO of the selected counter. -/
def State.shadowLo (s : State) : Word := (s.tallySel.map fun ri => Sparse.get 0 s.tally.shadows (regKey ri.1 ri.2)).getD 0

/-- SHADOW_HI of the selected counter; 0 for a 32-bit counter. -/
def State.shadowHi (s : State) : Word :=
  ((s.tallySel.bind fun ri => (tallyHigh ri.1).map fun h => Sparse.get 0 s.tally.shadows (regKey h ri.2))).getD 0

/-- SHADOW_SEQ: the stamp of the selected counter's unit. -/
def State.shadowSeq (s : State) : Word :=
  match s.tallySel with
  | some (r, i) =>
    match Sparse.get 0 s.tally.stamps (regionOfNi (tallyNi s.part r i)) with
    | 0 => 0
    | k + 1 => BitVec.ofNat 32 (k + 65536)
  | none => 0

/-- SEL names no tally counter (R294). -/
def State.tallySelCheck (s : State) : State := if s.tallySel.isNone then s.raise F.TALLY_STATUS_SEL_BAD 0 else s

/-- A write of TALLY.CTRL. -/
def State.writeTallyCtrl (s : State) (who : Who) (data : Word) : State :=
  let s := s.writeTyped who .TALLY_CTRL 0 (data &&& 0xFFFFFFFE#32)
  if data.getLsbD 0 then s.tallyTake else s

end Sys2Proof.Machine
end

