-- ==== Sys2Proof/Machine/Record.lean ====
section
/-! DEFINITION. The record controller (R282 to R292): starts and closes, drain markers, participants, the drain timeout,
deferred work. -/

namespace Sys2Proof.Machine

-- ------------------------------------------------------------------ what the controller holds

/-- RECORD.STATUS.PHASE: 0 IDLE, 1 ARMED, 2 ACQUIRING, 3 CLOSING phase A, 4 CLOSING phase B, 5 CLOSED. -/
def State.phase (s : State) : Nat := s.f F.RECORD_STATUS_PHASE 0

/-- The state with PHASE replaced. -/
def State.setPhase (s : State) (v : Nat) : State := s.setF F.RECORD_STATUS_PHASE 0 v

/-- The controller is CLOSING, either phase. -/
def State.closing (s : State) : Bool := s.phase == 3 || s.phase == 4

/-- The number of the open or closing record. -/
def State.recordNow (s : State) : Nat := s.f F.RECORD_NUMBER_CURRENT 0

/-- The participants enabled and the ones that have reported, as 64-bit sets (R286). -/
def State.partEn (s : State) : Nat := s.pair .RECORD_PART_EN_LO .RECORD_PART_EN_HI 0
/-- The participants that have reported. -/
def State.partDone (s : State) : Nat := s.pair .RECORD_PART_DONE_LO .RECORD_PART_DONE_HI 0

/-- Participant p is enabled. -/
def State.enabled (s : State) (p : Nat) : Bool := s.partEn.testBit p
/-- Participant p has reported. -/
def State.reported (s : State) (p : Nat) : Bool := s.partDone.testBit p

/-- The participants of phase A and of phase B (R286). -/
def phaseA : List Nat := List.range 16 ++ (List.range 10).map (33 + ·)
/-- The participants of phase B (R286). -/
def phaseB : List Nat := (List.range 17).map (16 + ·)

/-- Every enabled participant of a list has reported. -/
def State.allReported (s : State) (ps : List Nat) : Bool := ps.all fun p => !s.enabled p || s.reported p

/-- The NI of a participant that has one of its own: a pseudo channel, the store, a sequencer core. -/
def partNi (p : Nat) : Option Nat :=
  if 16 ≤ p ∧ p < 32 then some (0x60 + (p - 16))
  else if p = 32 then some 0x98
  else if 38 ≤ p ∧ p < 42 then some (0x94 + (p - 38))
  else none

/-- A notice goes out to a participant as an EVT of NI 0x9B (R287). -/
def State.notice (s : State) (p code : Nat) : State :=
  match partNi p with
  | some n =>
    let operand := BitVec.ofNat 64 (code + 65536 * s.recordNow + 2 ^ 32 * p)
    s.requestTo 0x9B n ⟨.evt, 0, 0, [], operand, [], false, false, false, 0, .none⟩
  | none => s

/-- A notice has arrived: its packet waits at the participant's NI no more. -/
def State.noticeLands (s : State) (p code : Nat) : State :=
  match partNi p with
  | some n =>
    let notice := fun (q : Packet × PacketEcc) =>
      q.1.cmd == Cmd.evt && q.1.src == 0x9B && q.1.operand.toNat % 65536 == code
    let s := s.setNi n { s.ni n with arrived := (s.ni n).arrived.filter fun q => !notice q }
    ((s.ni n).csf.down.filter notice).foldl (fun s q => s.crossedDown q.1) s
  | none => s

-- ------------------------------------------------------------------ arming and starting (R282, R291)

/-- The controller enters ARMED: a start event is entered on the next tick when AUTO_START or a latched start asks (R282,
R291). -/
def State.recordArm (s : State) : State :=
  let s := s.setPhase 1
  if s.on F.RECORD_CTRL_AUTO_START 0 || s.record.latched then
    (s.putRecord { s.record with latched := false }).enterNext (.direct 36)
  else s

/-- Queues leave HOLD_RECORD (R116 step 6); those of a span that is not RUNNING keep it until they run again (R163). -/
def State.queuesReopen (s : State) : State :=
  (s.recordQueues.filter fun q => !(s.spanOf (queueRod q)).any fun d => s.spanState d.id != 1).foldl State.queueReopen s

/-- Queues of a span that runs again leave the HOLD_RECORD that a record start passed over (R163). -/
def State.queuesRunAgain (s : State) (n : Nat) : State :=
  if s.phase = 0 ∨ s.phase = 2 then
    (s.recordQueues.filter fun q =>
      (s.queue q).holdRecord && (s.spanOf (queueRod q)).any fun d => d.id == n).foldl State.queueReopen s
  else s

/-- Deferred work may begin: the record controller is IDLE, or in CLOSED before MAINT_LIMIT (R24, R185). -/
def State.boundary (s : State) : Bool := s.phase == 0 || (s.phase == 5 && !s.record.moved)

/-- At a boundary the forced slices begin (R24, R194). -/
def State.forcedBegin (s : State) : State :=
  if s.boundary then
    s.putRepair { s.repair with begun := s.repair.begun ++ s.repair.forced.filter fun x => !s.repair.begun.contains x }
  else s

/-- The controller enters IDLE: STATE = STOPPED, HOLD_RECORD cleared (R282). -/
def State.recordIdle (s : State) : State :=
  let s := s.putRecord { s.record with latched := false }
  (((s.setPhase 0).setFunc .record 0).queuesReopen).forcedBegin

/-- A start event acts (R282). -/
def State.recordStart (s : State) : State :=
  let s := (s.setPhase 2).setPair .RECORD_START_AT_LO .RECORD_START_AT_HI 0 s.now.toNat
  (s.enterBeam (.source 62) s.time).queuesReopen

/-- A start that comes while CLOSING or CLOSED (R291). -/
def State.lateStart (s : State) : State :=
  if !s.on F.RECORD_CTRL_START_LATCH 0 then s.raise F.RECORD_STATUS_START_MISSED 0
  else if s.record.latched then s.bump F.RECORD_EVT_CNT_IGNORED 0 1
  else s.putRecord { s.record with latched := true }

-- ------------------------------------------------------------------ the drain (R284, R286)

/-- An NI belongs to the record domain (R283). -/
def State.recordMember (s : State) (n : Nat) : Bool := (s.actingWord .RECORD_NI_DOMAIN (n / 32)).getLsbD (n % 32)

/-- The members among NIs lo to hi. -/
def State.recordMembers (s : State) (lo hi : Nat) : List Nat :=
  ((List.range (hi - lo)).map (lo + ·)).filter s.recordMember

/-- A drain marker: a WR with LEN 0 and no enabled byte (R284). -/
def markerRequest (addr tag : Nat) : Request := ⟨.wr, addr, 0, [false], 0, [0], false, false, false, tag, .marker⟩

/-- The first drain marker of an NI that still waits can go: a tag is free and its answer has room (R212, R224). -/
def State.markerGoes (s : State) (n : Nat) : Option Nat :=
  match (s.ni n).markers with
  | (_, addr, _) :: _ => (s.freeTag n).filter fun tag => s.responseRoom n (markerRequest addr tag)
  | [] => none

/-- The first drain marker of an NI that still waits goes when it can (R284); its fence does not stop it. One whose entry
leads nowhere any more goes nowhere. -/
def State.sendMarker (s : State) (n : Nat) : State :=
  match (s.ni n).markers, s.markerGoes n with
  | (dest, addr, number) :: rest, some tag =>
    let s := s.setNi n { s.ni n with markers := rest }
    let e := s.activeEntry n dest
    if entryValid e then
      let p := s.requestPacket n dest tag (markerRequest addr tag) (entryRoute e) 0 (entryPrio e)
      let p := { p with record := number, attr := p.attr ||| 2 }
      (s.setNi n { s.ni n with
        outstanding := (s.ni n).outstanding ++ [⟨tag, dest, .wr, addr, 0, .marker, s.time, 0, some number⟩] }).send p
    else s
  | _, _ => s

/-- The close reaches a member NI (R284): a drain marker for each destination of its WRPs carrying N. -/
def State.sendMarkers (s : State) (n : Nat) : State :=
  let v := s.ni n
  let number := BitVec.ofNat 16 s.recordNow
  let s := s.setNi n { v with marked := [], markers := v.markers ++ v.marked.map fun kv => (kv.1, kv.2, number) }
  v.marked.foldl (fun s _ => s.sendMarker n) s

/-- Some drain marker that waited can go. -/
def State.markersDue (s : State) : Bool := (s.net.nis.map (·.1)).any fun n => (s.markerGoes n).isSome

/-- Drain markers that waited go. -/
def State.markersPass (s : State) : State :=
  ((s.net.nis.map (·.1)).filter fun n => (s.markerGoes n).isSome).foldl
    (fun s n => (s.ni n).markers.foldl (fun s _ => s.sendMarker n) s) s

/-- A member NI is drained (R252, R284): its fence does not drain, no marker waits, and no request of its own carrying N. -/
def State.niDrained (s : State) (n : Nat) : Bool :=
  s.fence n != 1 && (s.ni n).markers.isEmpty &&
  (s.ni n).outstanding.all fun t => t.use != .marker && t.record != some (BitVec.ofNat 16 s.recordNow)

/-- The NIs of a collector (R286): a row of the fabric, the lanes, the system. -/
def collectorNis (p : Nat) : Nat × Nat :=
  match p with
  | 33 => (0x00, 0x20)
  | 34 => (0x20, 0x40)
  | 35 => (0x40, 0x60)
  | 36 => (0x70, 0x90)
  | _ => (0x90, 0x9D)

/-- The record-domain queues of a repair group. -/
def State.groupQueues (s : State) (g : Nat) : List Nat :=
  ((List.range 128).map (128 * g + ·)).filter fun q => decide (q < Part.queues s.part) && s.inRecord q

/-- A participant's condition of R286. -/
def State.partDrained (s : State) (p : Nat) : Bool :=
  if p < 16 then (s.groupQueues p).all fun q => (s.queue q).drained
  else if p < 32 then s.hbmDrained (p - 16)
  else if p = 32 then s.record.sunk.contains 32 && s.storeDrained
  else if p < 38 then (s.recordMembers (collectorNis p).1 (collectorNis p).2).all s.niDrained
  else if p < 42 then (s.word .RECORD_FW_DRAINED 0).getLsbD (p - 38)
  else p == 42

/-- A participant's region is off (R286). -/
def State.partOff (s : State) (p : Nat) : Bool :=
  if p < 16 then !(s.word .PWR_REGION_STATUS 0).getLsbD (p / 2)
  else (partNi p).any fun n => !s.niPowered n

/-- A participant reports at the close tick, or at the SINK notice (R286): it has nothing in the record domain, its
region is off, or no close-tick tally is taken. -/
def State.reportsAtOnce (s : State) (p : Nat) (tallied : Bool) : Bool :=
  s.partOff p ||
  (if p < 16 then (s.groupQueues p).isEmpty
   else if p = 32 then s.recChannels.isEmpty
   else if 33 ≤ p ∧ p < 38 then (s.recordMembers (collectorNis p).1 (collectorNis p).2).isEmpty
   else p == 42 && !tallied)

/-- A participant's DONE bit is set. -/
def State.markDone (s : State) (p : Nat) : State :=
  s.setPair .RECORD_PART_DONE_LO .RECORD_PART_DONE_HI 0 (s.partDone ||| 2 ^ p)

/-- The participants of a list that report at once do so. -/
def State.reportAtOnce (s : State) (ps : List Nat) (tallied : Bool) : State :=
  ps.foldl (fun s p => if s.enabled p && s.reportsAtOnce p tallied then s.markDone p else s) s

-- ------------------------------------------------------------------ closed (R283, R288, R24)

/-- Deferred work runs (R24): a step of the roving spare, or a forced slice. -/
def State.deferredBegun (s : State) : Bool := s.repair.step.isSome || !s.repair.begun.isEmpty
/-- Deferred work that has not begun. -/
def State.deferredWaiting (s : State) : Nat :=
  s.repair.deferred.length + (s.repair.forced.filter fun x => !s.repair.begun.contains x).length

/-- The controller leaves CLOSED when deferred work is done or moved on (R282, R288). -/
def State.recordLeave (s : State) : State :=
  if s.phase != 5 || s.deferredBegun || (!s.record.moved && s.deferredWaiting != 0) then s
  else if s.on F.RECORD_CTRL_RUN 0 && s.funcState .record == 1 then s.recordArm
  else s.recordIdle

/-- Entry to CLOSED with the laggards given (R283, R288, R290). -/
def State.recordClosed (s : State) (laggards : Nat) : State :=
  let n := s.recordNow
  let s := s.setF F.RECORD_NUMBER_LAST_CLOSED 0 n
  let s := s.setF F.RECORD_NUMBER_CURRENT 0 ((n + 1) % 65536)
  let s := s.setPair .RECORD_LAGGARD_LO .RECORD_LAGGARD_HI 0 laggards
  let s := s.setPair .RECORD_CLOSED_AT_LO .RECORD_CLOSED_AT_HI 0 s.now.toNat
  let s := (s.raise F.RECORD_STATUS_CLOSED_SEEN 0).setPhase 5
  let s := s.putRecord { s.record with moved := false, heldSince := none }
  s.hbmClosed.storeClosed.forcedBegin.recordLeave

/-- Phase A ends when its participants have reported: SINK goes to those of phase B; when those have reported too, the
record is CLOSED (R282, R286). -/
def State.recordAdvance (s : State) : State :=
  let s := if s.phase = 3 ∧ s.allReported phaseA then
      let s := (phaseB.filter s.enabled).foldl (fun s p => s.notice p 0x0201) (s.setPhase 4)
      (phaseB.filter s.partOff).foldl (fun s p => if s.enabled p then s.markDone p else s) s
    else s
  if s.phase = 4 ∧ s.allReported phaseB then s.recordClosed 0 else s

/-- A DRAINED report (R286, R287): one that names another record, or comes when no record is closing, is late; a report
of a participant that is not enabled, or whose condition does not hold, is none. -/
def State.partReport (s : State) (p number : Nat) : State :=
  if !s.closing || number != s.recordNow then s.bump F.RECORD_EVT_CNT_LATE_REPORTS 0 1
  else if !s.enabled p || s.reported p || !s.partDrained p || (s.phase == 3 && phaseB.contains p) then s
  else (s.markDone p).recordAdvance

-- ------------------------------------------------------------------ closing (R282)

/-- The drain timeout's count holds, from now (R287). -/
def State.drainHold (s : State) : State :=
  if s.closing && s.record.heldSince.isNone then s.putRecord { s.record with heldSince := some s.time } else s

/-- The count goes on, unless capture or a roving pause still holds it (R287). -/
def State.drainGoesOn (s : State) : State :=
  match s.record.heldSince with
  | some t =>
    if s.captured || s.repair.step.any (fun st => st.frozenAt.isSome) then s
    else s.putRecord { s.record with drainFrom := s.record.drainFrom + (s.time - t), heldSince := none }
  | none => s

/-- The record closes now (R282 to R287, R290, R293). -/
def State.recordClose (s : State) : State :=
  let s := (s.recordMembers 0 0x9D).foldl State.sendMarkers s
  let s := (s.setPhase 3).setPair .RECORD_CLOSE_AT_LO .RECORD_CLOSE_AT_HI 0 s.now.toNat
  let s := (s.raise F.RECORD_STATUS_CLOSE_SEEN 0).enterBeam (.source 63) s.time
  let s := (s.setPair .RECORD_PART_DONE_LO .RECORD_PART_DONE_HI 0 0).setF F.RECORD_FW_DRAINED_CORE 0 0
  let s := s.putRecord { s.record with drainFrom := s.time, heldSince := none, sunk := [], told := [] }
  let s := if s.captured || s.repair.step.any (fun st => st.frozenAt.isSome) then s.drainHold else s
  let s := s.recordQueues.foldl State.queueClose s
  let s := if s.on F.TALLY_CTRL_ON_CLOSE 0 then s.tallyStrobe else s
  let tallied := s.on F.TALLY_CTRL_ON_CLOSE 0 && s.tally.last == some s.time
  ((s.hbmClose.storeClose).reportAtOnce phaseA tallied).recordAdvance

/-- A start event, a close event, or both act at the controller on one tick (R282, R291). -/
def State.recordEvent (s : State) (start close : Bool) : State :=
  let ignore := fun (s : State) (yes : Bool) => if yes then s.bump F.RECORD_EVT_CNT_IGNORED 0 1 else s
  match s.phase with
  | 0 => ignore (ignore s start) close
  | 1 => if start then ignore s.recordStart close else ignore s close
  | 2 => if close then (if start then s.lateStart else s).recordClose else ignore s start
  | _ => ignore (if start then s.lateStart else s) close

/-- AUTOMATIC_CLOSE (R282): the record reaches START_AT + LEN, when LEN is not 0. -/
def State.automaticClose (s : State) : State :=
  let len := s.pair .RECORD_LEN_LO .RECORD_LEN_HI 0 % 2 ^ 48
  if s.phase != 2 || len == 0 then s
  else
    let due := s.pair .RECORD_START_AT_LO .RECORD_START_AT_HI 0 + len
    (s.pass (due - s.now.toNat)).recordClose

-- ------------------------------------------------------------------ commands and settings

/-- A write of RECORD.CMD (R282, R291): refused where its event would be ignored. -/
def State.recordCmd (s : State) (who : Who) (data : Word) : State :=
  let op := fieldOf data 0 4
  let late := decide (3 ≤ s.phase) && !(s.on F.RECORD_CTRL_START_LATCH 0 && s.record.latched)
  if op = 1 ∧ (s.phase = 1 ∨ late) then s.enterNext (.direct 36)
  else if op = 2 ∧ s.phase = 2 then s.enterNext (.direct 37)
  else (s.raise F.RECORD_STATUS_CMD_REFUSED 0).journalRefusal who
    (if op = 1 ∨ op = 2 then .command else .encoding) .RECORD_CMD 0 data.toNat

/-- A setting that names a unit the variant lacks, or a reserved one, is refused whole (R29, R286). -/
def State.recordBarred (s : State) (who : Who) (why : Reason) (r : Reg) (inst : Nat) (data : Word) : State :=
  (s.raise F.RECORD_STATUS_CMD_REFUSED 0).journalRefusal who why r inst data.toNat

/-- A write of PART_EN (R286). -/
def State.writePartEn (s : State) (who : Who) (high : Bool) (data : Word) : State :=
  let r : Reg := if high then .RECORD_PART_EN_HI else .RECORD_PART_EN_LO
  if high && data.toNat / 2048 != 0 then s.recordBarred who .encoding r 0 data
  else if data &&& ~~~(resetWord s.part r 0) != 0 then s.recordBarred who .absent r 0 data
  else s.writeTyped who r 0 data

/-- A write of NI_DOMAIN (R283). -/
def State.writeNiDomain (s : State) (who : Who) (k : Nat) (data : Word) : State :=
  let named := (List.range 32).filter fun j => data.getLsbD j && !niPresent s.part (32 * k + j)
  if named.isEmpty then s.writeTyped who .RECORD_NI_DOMAIN k data
  else
    let reserved := named.any fun j => let n := 32 * k + j; n == 0x92 || n == 0x93 || decide (0x9D ≤ n)
    s.recordBarred who (if reserved then .encoding else .absent) .RECORD_NI_DOMAIN k data

/-- A core writes its FW_DRAINED bit (R286): it reports participant 38 + n. -/
def State.fwDrained (s : State) (n : Nat) : State :=
  if (s.word .RECORD_FW_DRAINED 0).getLsbD n then s
  else
    let s := s.setF F.RECORD_FW_DRAINED_CORE 0 (s.f F.RECORD_FW_DRAINED_CORE 0 ||| 2 ^ n)
    if s.enabled (38 + n) then s.partReport (38 + n) s.recordNow else s

-- ------------------------------------------------------------------ notices (R287, R341, R343, R351)

/-- A SINK notice reaches a phase-B participant. -/
def State.sinkNotice (s : State) (p : Nat) : State :=
  if s.phase != 4 || !s.enabled p || !phaseB.contains p || s.record.sunk.contains p then s
  else
    let s := s.noticeLands p 0x0201
    let s := s.putRecord { s.record with sunk := s.record.sunk ++ [p] }
    if p = 32 then
      (if s.recChannels.isEmpty then (if s.reported 32 then s else (s.markDone 32).recordAdvance)
       else s.storeSink false)
    else s.hbmSink (p - 16)

/-- A TIMEOUT notice reaches a laggard (R287): queues act as R117 lays down, a pseudo channel as R343, the store as
R351; the other participants complete their own work. -/
def State.timeoutNotice (s : State) (p : Nat) : State :=
  if !s.record.told.contains p then s
  else
    let s := s.noticeLands p 0x0202
    let s := s.putRecord { s.record with told := s.record.told.erase p }
    if p < 16 then (s.groupQueues p).foldl (fun s q => s.queueTimeout q) s
    else if p < 32 then s.hbmTimeout (p - 16)
    else if p = 32 then s.storeSink true
    else s

/-- The drain ends without its laggards (R287, R117): each of them is sent TIMEOUT. -/
def State.drainEnds (s : State) : State :=
  if !s.closing then s
  else
    let late := (phaseA ++ phaseB).filter fun p => s.enabled p && !s.reported p
    let set := late.foldl (fun acc p => acc ||| 2 ^ p) 0
    let s := s.putRecord { s.record with told := late }
    let s := late.foldl (fun s p => s.notice p 0x0202) s
    let s := s.recordQueues.foldl (fun s q => s.queueTimeout q) s
    let s := s.raise F.RECORD_STATUS_DRAIN_TIMEOUT 0
    let s := s.setPair .RECORD_LAGGARD_LO .RECORD_LAGGARD_HI 0 set
    let s := s.journalEvent 0x30 .RECORD_LAGGARD_LO 0 (set / 2 ^ 32)
    s.recordClosed set

/-- The drain timeout's count runs out (R287): it does not while it is held. -/
def State.drainTimeout (s : State) : State :=
  if !s.closing || s.record.heldSince.isSome then s
  else
    let limit := max 1 (s.f F.RECORD_DRAIN_TO_US 0) * ticksPerUs
    (s.advanceTo (s.record.drainFrom + BitVec.ofNat 64 limit)).drainEnds

-- ------------------------------------------------------------------ deferred work (R24, R190)

/-- MAINT_LIMIT is reached (R24, R190): work not begun moves to the next boundary and is counted. -/
def State.maintLimit (s : State) : State :=
  if s.phase != 5 || s.record.moved then s
  else
    let due := s.pair .RECORD_CLOSED_AT_LO .RECORD_CLOSED_AT_HI 0 + s.f F.RECORD_MAINT_LIMIT_US 0 * ticksPerUs
    let s := s.pass (due - s.now.toNat)
    let s := s.bump F.REPAIR_STEP_EXC_DEFERRALS 0 s.deferredWaiting
    (s.putRecord { s.record with moved := true }).recordLeave

-- ------------------------------------------------------------------ run, stop, reset (R282, R292)

/-- CTRL.RUN written 1 (R282): IDLE becomes ARMED. -/
def State.recordRun (s : State) : State := if s.phase = 0 then (s.setFunc .record 1).recordArm else s

/-- CTRL.RUN written 0 (R282): ARMED becomes IDLE, an open record closes at the next Beam tick, and a closing one runs to
its end. -/
def State.recordStop (s : State) : State :=
  match s.phase with
  | 0 | 1 => s.recordIdle
  | 2 => (s.setFunc .record 2).enterNext (.direct 37)
  | _ => s.setFunc .record 2

/-- STOP_TIMEOUT of the controller (R292). -/
def State.recordAbort (s : State) : State :=
  let s := s.aborted .record 1
  (if s.phase = 2 then s.recordClose else s).drainEnds

/-- A function reset of the controller (R292): the same at once, and IDLE. -/
def State.recordReset (s : State) : State :=
  let s := ((if s.phase = 2 then s.recordClose else s).drainEnds)
  s.recordIdle

end Sys2Proof.Machine
end

