-- ==== Sys2Proof/Machine/Stations.lean ====
section
/-! DEFINITION. Pin stations at work (R83 to R86, R161, R393): output beads and the edges that drive them, what the pads
bring to the input channels; fabric trigger outputs (R88). -/

namespace Sys2Proof.Machine

-- ------------------------------------------------------------------ inputs (R85)

/-- A SAMPLE station offers a bead of its level at the first of n qualifying edges; each sample that finds a bead not taken
is an overrun. -/
def State.stationSamples (s : State) (p n : Nat) (level : Bool) : State :=
  let st := s.pinStation p
  if n = 0 ∨ s.gated (homeRod s.part p) then s
  else
    let lost := if st.offer.isSome then n else n - 1
    let s := if st.offer.isSome then s else s.setPinStation p { st with offer := some (if level then 1 else 0) }
    if lost = 0 then s else (s.bump F.PIN_STN_STAT_OVERRUN p lost).raise F.PIN_STATUS_OVERRUN 0

/-- A CHANGE station compares its level with the last one delivered: it offers a bead, or a change that has reversed before
it was taken is lost. Before any delivery the first level differs from none delivered and is offered: the spec does not
say (DESIGN CHOICE, assumption 177). -/
def State.stationChange (s : State) (p : Nat) : State :=
  let st := s.pinStation p
  let level := s.stationLevel p
  if s.gated (homeRod s.part p) then s
  else if st.last ≠ some level then s.setPinStation p { st with offer := some (if level then 1 else 0) }
  else if st.offer.isSome then
    ((s.setPinStation p { st with offer := none }).bump F.PIN_STN_STAT_LOST p 1).raise F.PIN_STATUS_LOST 0
  else s

/-- Ticks of TIME after a, up to b, that qualify for a clock of the time base (R86). -/
def edgesIn (a b n phase : Nat) : Nat := (b + n - phase) / n - (a + n - phase) / n

/-- The edges of a time-base IN_CLK that have come are sampled, up to now; from says where a station that has sampled none
begins. -/
def State.stationClocked (s : State) (p : Nat) (begin : DWord) (level : Bool) : State :=
  if s.stationInMode p ≠ 1 then s
  else
    match s.ptcTicks (s.stationInClk p) with
    | some (n, phase) =>
      let a := ((s.pinStation p).sampledTo.getD begin + s.timeOffset).toNat
      let s := s.setPinStation p { s.pinStation p with sampledTo := some s.time }
      s.stationSamples p (edgesIn a s.now.toNat n phase) level
    | none => s

/-- An EDGE station's clock comes to a qualifying edge of a pin: a bead complete for 1.5 ns, 3 ticks, is driven and
acknowledged at that edge (R84; DEDUCED: 1.5 ns are 2.25 ticks, assumption 178). -/
def State.stationStrobe (s : State) (p : Nat) : State :=
  let st := s.pinStation p
  match st.waiting with
  | some (v, t) =>
    if s.pinBarred p || decide (s.time.toNat < t.toNat + 3) then s
    else
      let outs := ((s.channelBead (.pin p) []).map (·.outs)).getD []
      (s.setPinStation p { st with out := if v = 3 then st.out else v, waiting := none }).takeFrom (.pin p) outs
  | none => s

/-- The pin timing clocks that take their edges from a pin's filtered level (R86). -/
def State.clocksOf (s : State) (p : Nat) (rising : Bool) : List Nat :=
  (List.range 8).filter fun c =>
    s.ptcFromPin c && recBits (s.ptc c) 1 8 == p && (recBits (s.ptc c) 9 1 == 0) == rising

/-- A pin's filtered level changes: its clocks' SAMPLE stations sample, their EDGE stations drive. -/
def State.pinEdge (s : State) (p : Nat) (rising : Bool) : State :=
  let cs := s.clocksOf p rising
  if cs.isEmpty then s
  else
    ((List.range 192).filter fun q => s.stationRecord q != 0).foldl
      (fun s q =>
        let s := if (s.stationDir q).testBit 1 && s.stationInMode q == 1 && cs.contains (s.stationInClk q) then
            s.stationSamples q 1 (s.stationLevel q) else s
        if (s.stationDir q).testBit 0 && s.stationOutMode q == 1 && cs.contains (s.stationOutClk q) then s.stationStrobe q
        else s) s

/-- A pin's filtered level comes up to date; a change qualifies edges of pin clocks and is seen in CHANGE mode. -/
def State.stationFilters (s : State) (p : Nat) : State :=
  let st := s.pinStation p
  let level := s.stationLevel p
  let s := if level = st.level then s else (s.setPinStation p { st with level := level }).pinEdge p level
  if (s.stationDir p).testBit 1 && s.stationInMode p == 2 then s.stationChange p else s

/-- The pad as it stands is seen by its station (R83 to R86, R393): begin is the tick from which the command at hand passed
time. -/
def State.stationSees (s : State) (p : Nat) (begin : DWord) : State :=
  if 192 ≤ p then s
  else
    let s := s.stationClocked p begin (s.stationLevel p)
    let s := s.stationFilters p
    let st := s.pinStation p
    let raw := s.padLevel p
    if raw = st.raw then s
    else (s.setPinStation p { st with raw := raw, since := s.time, level := s.stationLevel p }).stationFilters p

/-- PIN_INPUT_CHANGE of a user pin: ticks go by, and the level outside a pad is as given from then on (R85). -/
def State.pinLevel (s : State) (p : Nat) (level : Bool) (wait : Nat) : State :=
  let begin := s.time
  let s := (s.pass wait).stationSees p begin
  (s.putFabric { s.fabric with padIn := Sparse.set false s.fabric.padIn p level }).stationSees p s.time

-- ------------------------------------------------------------------ outputs (R84)

/-- A bead's value drives a station's output; 0b11 keeps it (R83, R393). The pads that combine it change, and their input
channels report it. -/
def State.stationDrive (s : State) (p : Nat) (v : Digit) : State :=
  let st := s.pinStation p
  let s := s.setPinStation p { st with out := if v = 3 then st.out else v }
  let pads := (List.range 4).map fun j => 16 * (p / 16) + 4 * (p % 16 / 4) + j
  pads.foldl (fun s q => s.stationSees q s.time) s

/-- A pin station's output channel holds a complete bead (R84): driven at once, or at the first edge of a time-base clock at
least 2 ticks on; for a clock from a pin it waits, without acknowledge, for an edge that PIN_INPUT_CHANGE brings; for an
unused clock, without end. -/
def State.pinOutputBead (s : State) (p : Nat) (upset : Upset) : State :=
  if 192 ≤ p || !(s.stationDir p).testBit 0 || (s.pinStation p).waiting.isSome then s
  else if s.stationOutMode p = 0 then
    s.withBeads [(.pin p, upset)] fun xs s => xs.head?.map fun x => s.stationDrive p (BitVec.ofNat 2 x.num)
  else
    let c := s.stationOutClk p
    match s.ptcTicks c with
    | some (n, phase) =>
      s.withBeads [(.pin p, upset)] fun xs s => xs.head?.map fun x =>
        (s.pass (2 + ticksToEdge (s.now.toNat + 2) n phase)).stationDrive p (BitVec.ofNat 2 x.num)
    | none =>
      if !s.ptcFromPin c then s.catchBead (.pin p) upset
      else if s.withholds (.pin p) then s.catchBead (.pin p) upset
      else if !s.sinkReady (.pin p) then s
      else
        match s.beadAt (.pin p) upset with
        | some x =>
          ((s.beadFaults (homeRod s.part p) x.faults).unlatch (.pin p)).setPinStation p
            { s.pinStation p with waiting := some (BitVec.ofNat 2 x.num, s.time) }
        | none => s

-- ------------------------------------------------------------------ fabric trigger outputs (R88, R161)

/-- A complete bead on FTO n is taken by its tap. -/
def State.ftoTake (s : State) (n : Nat) (upset : Upset) : State :=
  if tapUsed (s.tapEntry n) then
    s.withBeads [(.fto n, upset)] fun xs s => xs.head?.map fun x => s.ftoBead n (BitVec.ofNat 2 x.num)
  else s

/-- Rods come under FREEZE: the beads that edge and pin stations drive at that moment are noted; they drive no new one
(R173, R265). -/
def State.noteStanding (s : State) (on : Nat → Bool) : State :=
  s.putFabric { s.fabric with
    standing := s.fabric.standing.filter (fun x => !on (s.sourceRod x)) ++
      ((s.drivingOutputs on).map (·.1)).filter atEdge }

end Sys2Proof.Machine
end

