-- ==== Sys2Proof/Machine/Tbus.lean ====
section
/-! DEFINITION. The chassis trigger bus (R295 to R306): receivers, pulses and levels, telegrams, governors, monitors. -/

namespace Sys2Proof.Machine

/-- A line at rest, its bucket full (assumption 36). -/
def lineInit : Line :=
  { since := 0, foreignAt := none, asserting := false, began := 0, ends := none, request := false, released := none
    telegram := none, hold := none, cut := false, tokens := 24, tokensAt := 0, told := none }

/-- Line n. -/
def State.line (s : State) (n : Nat) : Line := Sparse.get lineInit s.tbus.lines n

/-- The state with line n replaced. -/
def State.setLine (s : State) (n : Nat) (v : Line) : State :=
  s.putTbus { s.tbus with lines := Sparse.set lineInit s.tbus.lines n v }

-- ------------------------------------------------------------------ governors (R302)

/-- The firmware limits: fields laid out as GOV_IMG. -/
def State.govFw (s : State) (n lo w : Nat) : Nat := fieldOf (s.word .TBUS_GOV_FW n) lo w

/-- The effective shortest assertion, in ticks. -/
def State.minWidth (s : State) (n : Nat) : Nat := max 12 (max (s.f F.TBUS_GOV_IMG_MIN_WIDTH n) (s.govFw n 0 8))
/-- The effective bucket capacity. -/
def State.depth (s : State) (n : Nat) : Nat := min 24 (min (max 1 (s.f F.TBUS_GOV_IMG_DEPTH n)) (max 1 (s.govFw n 8 5)))
/-- The effective ticks per token. -/
def State.tokenPeriod (s : State) (n : Nat) : Nat := max 150 (max (s.f F.TBUS_GOV_IMG_PERIOD n) (s.govFw n 13 11))
/-- The effective cutoff, in ticks. -/
def State.cutoffTicks (s : State) (n : Nat) : Nat :=
  ticksPerUs * min 100 (min (max 1 (s.f F.TBUS_GOV_IMG_CUTOFF n)) (max 1 (s.govFw n 24 8)))

/-- The tokens of a line's bucket at tick t. -/
def State.tokensAt (s : State) (n : Nat) (t : Nat) : Nat :=
  let v := s.line n
  min (s.depth n) (v.tokens + (t - v.tokensAt.toNat) / s.tokenPeriod n)

/-- k assertions start, the first crossing 3 ticks from now: tokens are taken and ASSERTIONS counts (R299, R302). -/
def State.takeTokens (s : State) (n k : Nat) : State :=
  let v := s.line n
  let t := s.time.toNat + 3
  let gained := (t - v.tokensAt.toNat) / s.tokenPeriod n
  let full := decide (s.depth n ≤ v.tokens + gained)
  let s := s.setLine n { v with
    tokens := s.tokensAt n t - k
    tokensAt := if full then BitVec.ofNat 64 t else BitVec.ofNat 64 (v.tokensAt.toNat + gained * s.tokenPeriod n) }
  s.setF F.TBUS_CNT_TX_ASSERTIONS n ((s.f F.TBUS_CNT_TX_ASSERTIONS n + k) % 2 ^ 32)

-- ------------------------------------------------------------------ the driver

/-- MODE, WIDTH, WIN and IDLE_BITS in force: those held while the line asserts or sends (R305). -/
def State.lineHold (s : State) (n : Nat) : LineHold :=
  (s.line n).hold.getD
    ⟨s.f F.TBUS_LINE_CTRL_MODE n, s.f F.TBUS_LINE_TIMING_WIDTH n, s.f F.TBUS_LINE_TIMING_WIN n,
      max 2 (s.f F.TBUS_LINE_TIMING_IDLE_BITS n)⟩

/-- The driver may assert (R296). -/
def State.mayDrive (s : State) (n : Nat) : Bool :=
  decide (n < 18) && s.on F.DEV_STATUS_USER_MODE 0 && decide (s.f F.PWR_STATE_STATUS_STATE 0 < 2) &&
  s.on F.TBUS_LINE_CTRL_DRV_EN n

/-- The line is locked out (R303, R304). -/
def State.lockedOut (s : State) (n : Nat) : Bool :=
  s.on F.TBUS_LINE_STATUS_CUTOFF n || s.on F.TBUS_LINE_STATUS_DRIVE_FAULT n || ((s.line n).cut && (s.line n).request)

/-- The line is released (R299); settings held for the assertion give way. -/
def State.lineRelease (s : State) (n : Nat) : State :=
  s.setLine n { s.line n with asserting := false, ends := none, released := some s.time, hold := none }

/-- A forced release (R303): at once, or when the assertion has lasted 12 ticks. -/
def State.lineForced (s : State) (n : Nat) : State :=
  let v := s.line n
  if !v.asserting then s
  else if v.began.toNat + 12 ≤ s.time.toNat then s.lineRelease n
  else s.setLine n { v with ends := some (v.began + 12) }

/-- The line asserts (R299). -/
def State.lineAssert (s : State) (n : Nat) (ends : Option DWord) : State :=
  let s := s.takeTokens n 1
  s.setLine n { s.line n with
    asserting := true, began := s.time, ends := ends, hold := some (s.lineHold n), cut := false }

/-- An entry of R304, at most one per line per second. -/
def State.lineEntry (s : State) (n : Nat) : State :=
  let v := s.line n
  if v.told.any (fun t => decide (s.time.toNat < t.toNat + 1500000000)) then s
  else (s.setLine n { v with told := some s.time }).journalEvent 0x30 .TBUS_LINE_STATUS n 0

/-- A collision is flagged and counted (R301, R304). -/
def State.lineCollision (s : State) (n : Nat) : State :=
  ((s.raise F.TBUS_LINE_STATUS_COLLISION n).bump F.TBUS_CNT_EXC_COLL n 1).lineEntry n

/-- A foreign assertion is registered in the reserved window, or stands through it (R304). -/
def State.reservedHit (s : State) (n : Nat) : Bool :=
  s.on F.TBUS_LINE_CTRL_COLL_EN n &&
  (s.on F.TBUS_LINE_STATUS_LEVEL n ||
    (s.line n).foreignAt.any (fun t => decide (s.time.toNat ≤ t.toNat + (s.lineHold n).win)))

/-- An assertion is tried (R303, R304): without a token it is a rate drop, with a foreign assertion in the window a
collision. -/
def State.lineTry (s : State) (n : Nat) (ends : Option DWord) : State :=
  let dry := s.tokensAt n s.time.toNat == 0
  let hit := s.reservedHit n
  let s := if hit then s.lineCollision n else s
  let s := if dry then
      let s := (s.raise F.TBUS_LINE_STATUS_RATE_DROP n).bump F.TBUS_CNT_EXC_RATE n 1
      s.setLine n { s.line n with request := false }
    else s
  if hit || dry then s else s.lineAssert n ends

/-- A stretch is counted (R299, R303). -/
def State.lineStretch (s : State) (n : Nat) : State := s.bump F.TBUS_CNT_EXC_STRETCH n 1

/-- A request of PULSE mode. -/
def State.linePulse (s : State) (n : Nat) : State :=
  let w := (s.lineHold n).width
  let least := s.minWidth n
  let s := if w < least then s.lineStretch n else s
  s.lineTry n (some (s.later (max w least)))

/-- A request of LEVEL mode: the level toggles (R299). -/
def State.lineLevel (s : State) (n : Nat) : State :=
  let v := s.line n
  let s := s.setLine n { v with request := !v.request }
  if v.request then
    if !v.asserting then s
    else if v.began.toNat + s.minWidth n ≤ s.time.toNat then s.lineRelease n
    else (s.setLine n { s.line n with ends := some (v.began + BitVec.ofNat 64 (s.minWidth n)) }).lineStretch n
  else if s.lockedOut n then s
  else if v.asserting then s.setLine n { s.line n with ends := none }
  else s.lineTry n none

-- ------------------------------------------------------------------ telegrams (R300, R301)

/-- One step of the check bits (R300): polynomial x^4 + x + 1. -/
def crc4Step (c : Nat) (bit : Bool) : Nat :=
  let out := (c / 8 % 2 == 1) != bit
  (c * 2 % 16) ^^^ (if out then 3 else 0)

/-- The check bits of 16 data bits, most significant first (R300). -/
def crc4 (d : BitVec 16) : Nat := (List.range 16).foldl (fun c i => crc4Step c (d.getLsbD (15 - i))) 0

/-- The 21 bits of a telegram (R300). -/
def telegramBits (d : BitVec 16) : List Bool :=
  true :: ((List.range 16).map fun i => d.getLsbD (15 - i)) ++ ((List.range 4).map fun i => (crc4 d).testBit (3 - i))

/-- Its 42 half-bits; true where the line is asserted. -/
def halfBits (d : BitVec 16) : List Bool := (telegramBits d).foldr (fun b rest => (!b) :: b :: rest) []

/-- What drives a line's balls (R295, R296): none for high impedance, or its level. A bussed driver is high impedance while
released; a star driver drives both levels from the first START on. -/
def State.lineOut (s : State) (n : Nat) : Option Bool :=
  let v := s.line n
  let sends := v.telegram.any fun g => g.sentAt.any fun t => (halfBits g.data).getD ((s.time.toNat - t.toNat) / 15) false
  if 18 ≤ n then none
  else if v.asserting || sends then some true
  else if n < 16 || s.dev.porst || !s.tbus.started then none
  else some false

/-- The assertions that start in a list of half-bits, the line having been at level before. -/
def risesIn (before : Bool) : List Bool → Nat
  | [] => 0
  | b :: rest => (if b && !before then 1 else 0) + risesIn b rest

/-- The assertions of a telegram, each of which takes a token. -/
def telegramTokens (d : BitVec 16) : Nat := risesIn false (halfBits d)

/-- A telegram cannot be sent under the governors (R301). -/
def State.unsendable (s : State) (n : Nat) (d : BitVec 16) : Bool :=
  decide (15 < s.minWidth n) || decide (s.depth n < telegramTokens d)

/-- A telegram is dropped with TX_FAIL (R301). -/
def State.txFail (s : State) (n : Nat) : State :=
  let s := s.setLine n { s.line n with telegram := none, hold := none }
  (s.raise F.TBUS_LINE_STATUS_TX_FAIL n).setF F.TBUS_TX_DATA_SEND n 0

/-- The tick from which a waiting telegram may start (R301 step 1), backoff bit times after the line is idle: none while
the line is asserted or may not be driven. -/
def State.telegramReady (s : State) (n backoff : Nat) (d : BitVec 16) : Option Nat :=
  if s.on F.TBUS_LINE_STATUS_LEVEL n || (s.line n).asserting || !s.mayDrive n || s.lockedOut n then none
  else
    let v := s.line n
    let idle := v.since.toNat + 30 * ((s.lineHold n).idle + backoff)
    let missing := telegramTokens d - v.tokens
    let paid := v.tokensAt.toNat + missing * s.tokenPeriod n
    some (max (max idle s.time.toNat) (if missing = 0 then 0 else paid))

/-- The telegram starts now: its assertions take their tokens (R301, R302). -/
def State.telegramStart (s : State) (n : Nat) (g : Telegram) : State :=
  let hold := s.lineHold n
  let s := s.takeTokens n (telegramTokens g.data)
  s.setLine n { s.line n with
    telegram := some { g with sentAt := some s.time, resends := g.resends + (if g.again then 1 else 0), again := false }
    hold := some hold, cut := false }

/-- The telegram in TX_DATA is to be sent (R301): it fails at once, starts when step 1 is already met, or waits. -/
def State.telegramAsk (s : State) (n : Nat) : State :=
  let d := BitVec.ofNat 16 (s.f F.TBUS_TX_DATA_DATA n)
  if s.unsendable n d then s.txFail n
  else
    let g : Telegram := ⟨d, none, 0, false⟩
    if s.telegramReady n 0 d = some s.time.toNat then s.telegramStart n g
    else s.setLine n { s.line n with telegram := some g }

/-- A Beam event acts at a line's destination (R299): OVERRUN counts what is merged or cannot be taken (R278). -/
def State.lineEvent (s : State) (n : Nat) : State :=
  let v := s.line n
  let mode := (s.lineHold n).mode
  let overrun := s.bump F.BEAM_DST_CNT_OVERRUN n 1
  if mode = 0 then s
  else if v.telegram.isSome || (mode == 1 && v.asserting) then overrun
  else if !s.mayDrive n then overrun
  else
    match mode with
    | 1 => if s.lockedOut n then overrun else s.linePulse n
    | 2 => s.lineLevel n
    | _ => if s.lockedOut n then overrun else s.telegramAsk n

/-- SEND (R301, R305): ignored while a telegram waits or is sent; a line sends in MESSAGE mode (assumption 61). -/
def State.lineSend (s : State) (n : Nat) : State :=
  if 16 ≤ n || (s.lineHold n).mode != 3 || (s.line n).telegram.isSome then s
  else (s.raise F.TBUS_TX_DATA_SEND n).telegramAsk n

/-- A waiting telegram starts (R301): step 1 brings TIME to its tick; one the governors no longer allow fails. -/
def State.telegramGo (s : State) (n backoff : Nat) (again : Bool) : State :=
  match (s.line n).telegram with
  | some g =>
    if g.sentAt.isSome || g.again != again then s
    else if s.unsendable n g.data then s.txFail n
    else
      match s.telegramReady n backoff g.data with
      | some t => (s.advanceTo (BitVec.ofNat 64 t)).telegramStart n g
      | none => s
  | none => s

/-- A collision in a half-bit of the telegram (R301): it stops; assertions not begun give their tokens back. -/
def State.telegramCollides (s : State) (n half : Nat) : State :=
  match (s.line n).telegram with
  | some g =>
    match g.sentAt with
    | some t =>
      let s := s.advanceTo (t + BitVec.ofNat 64 (3 + 15 * half))
      let begun := risesIn false ((halfBits g.data).take (half + 1))
      let unused := telegramTokens g.data - begun
      let v := s.line n
      let s := s.setLine n { v with
        tokens := v.tokens + unused, hold := none, released := some s.time
        telegram := some { g with sentAt := none, again := true } }
      let s := s.setF F.TBUS_CNT_TX_ASSERTIONS n ((s.f F.TBUS_CNT_TX_ASSERTIONS n + 2 ^ 32 - unused) % 2 ^ 32)
      let s := s.lineCollision n
      if s.f F.TBUS_LINE_TIMING_RETRY n ≤ g.resends then s.txFail n else s
    | none => s
  | none => s

/-- The telegram's last check bit ends (R300, R301). -/
def State.telegramSent (s : State) (n : Nat) : State :=
  match (s.line n).telegram with
  | some g =>
    match g.sentAt with
    | some t =>
      let s := s.advanceTo (t + 633)
      let s := s.setLine n { s.line n with telegram := none, hold := none, released := some s.time }
      s.setF F.TBUS_TX_DATA_SEND n 0
    | none => s
  | none => s

-- ------------------------------------------------------------------ receiving (R297, R298, R300)

/-- The line's own driver asserted or sent on a tick. -/
def State.ownDrives (s : State) (n tick : Nat) : Bool :=
  let v := s.line n
  (v.asserting && decide (v.began.toNat ≤ tick)) || v.telegram.any fun g => g.sentAt.any fun t => decide (t.toNat ≤ tick)

/-- A change registered on a tick is the line's own (R298): its driver asserted or sent, or had released less than 16 ticks
before. -/
def State.ownChange (s : State) (n tick : Nat) : Bool :=
  s.ownDrives n tick || (s.line n).released.any (fun t => decide (tick < t.toNat + 16))

/-- The majority of a tick's three samples of a receiver (R297). -/
def tickSample (x : BitVec 3) : Bool :=
  decide (2 ≤ (if x.getLsbD 0 then 1 else 0) + (if x.getLsbD 1 then 1 else 0) + (if x.getLsbD 2 then 1 else 0))

/-- The ticks from the first tick of xs from which FILT + 1 consecutive samples show a level, if there is one (R297). -/
def firstRegistered (filt : Nat) (level : Bool) : List (BitVec 3) → Option Nat
  | [] => none
  | x :: rest =>
    if ((x :: rest).take (filt + 1)).length = filt + 1 && ((x :: rest).take (filt + 1)).all (tickSample · == level) then some 0
    else (firstRegistered filt level rest).map (· + 1)

/-- A receiver is sampled on the ticks of xs, the last of them now (R297): the new level, when FILT + 1 consecutive samples
show it, and the tick on which it is registered. -/
def State.registers (s : State) (n : Nat) (xs : List (BitVec 3)) : Option (Bool × Nat) :=
  let level := !s.on F.TBUS_LINE_STATUS_LEVEL n
  let filt := s.f F.TBUS_LINE_CTRL_FILT n
  (firstRegistered filt level xs).map fun k => (level, s.time.toNat + 1 + k + filt - xs.length)

/-- A receiver registers a new level (R297, R298, R304), whose event enters 6 ticks after it is registered. -/
def State.receive (s : State) (n : Nat) (xs : List (BitVec 3)) : State :=
  match s.registers n xs with
  | none => s
  | some (level, tick) =>
  if 19 ≤ n then s
  else
    let own := s.ownChange n tick
    let v := s.line n
    let s := s.setF F.TBUS_LINE_STATUS_LEVEL n (if level then 1 else 0)
    let foreign := level && !s.ownDrives n tick
    let at' := BitVec.ofNat 64 tick
    let s := s.setLine n { v with since := at', foreignAt := if foreign then some at' else v.foreignAt }
    let mode := (s.lineHold n).mode
    let edge := s.f F.TBUS_LINE_CTRL_RX_EDGE n
    let picked := if level then edge % 2 == 1 else edge / 2 == 1
    if n < 18 ∧ (mode = 1 ∨ mode = 2) ∧ picked ∧ !(own && s.on F.TBUS_LINE_CTRL_OWN_MASK n) then
      let s := s.advanceTo (at' + 6)
      s.enterBeam (.source n) s.time
    else s

/-- The k bits that follow a mid-bit transition (R300): each has its own mid-bit transition 30 ± 4 ticks after the one
before, an assertion for a 1 and a release for a 0. The changes are ticks with the new level. -/
def bitsAfter (changes : List (Nat × Bool)) : Nat → Nat → Option (List Bool)
  | _, 0 => some []
  | mid, k + 1 =>
    match changes.find? fun e => decide (mid + 26 ≤ e.1 ∧ e.1 ≤ mid + 34) with
    | some e => (bitsAfter changes e.1 k).map (e.2 :: ·)
    | none => none

/-- The registered changes that follow the mid-bit transition of a start bit, which asserts the line, by the ticks between
them (R300). -/
def changesOf : Nat → Bool → List Nat → List (Nat × Bool)
  | _, _, [] => []
  | t, level, gap :: rest => (t + gap, !level) :: changesOf (t + gap) (!level) rest

/-- The data of a good telegram (R300), by the ticks between its registered changes from the mid-bit transition of its start
bit: every mid-bit transition is there, no pulse is shorter than 12 ticks, and the CRC matches. -/
def goodTelegram (gaps : List Nat) : Option (BitVec 16) :=
  if gaps.any (· < 12) then none
  else
    match bitsAfter (changesOf 0 true gaps) 0 20 with
    | some bits =>
      let number (bs : List Bool) : Nat := bs.foldl (fun v b => 2 * v + (if b then 1 else 0)) 0
      let data := BitVec.ofNat 16 (number (bits.take 16))
      if number (bits.drop 16) = crc4 data then some data else none
    | none => none

/-- A telegram has been received (R300), its last mid-bit transition registered now; quiet is how many ticks the line had
been released before its start bit, with less than 2 bit times of which no telegram is seen. -/
def State.telegramIn (s : State) (n quiet : Nat) (gaps : List Nat) : State :=
  if 16 ≤ n || (s.lineHold n).mode != 3 || quiet < 60 || (s.ownChange n s.time.toNat && s.on F.TBUS_LINE_CTRL_OWN_MASK n) then s
  else
    match goodTelegram gaps with
    | none => (s.raise F.TBUS_LINE_STATUS_RX_ERR n).bump F.TBUS_CNT_EXC_RX_ERR n 1
    | some data =>
    let entry : DWord := s.now + 15
    let s := if s.tbus.fifo.length < 32 then
        s.putTbus { s.tbus with fifo := s.tbus.fifo ++ [(data, n, entry)] }
      else (s.bump F.TBUS_RX_STAT_OVERFLOW 0 1).raise F.TBUS_RX_STAT_OVERFLOWED 0
    let value := BitVec.ofNat 16 (s.f F.TBUS_MATCH_VALUE n)
    let mask := BitVec.ofNat 16 (s.f F.TBUS_MATCH_MASK n)
    if (data ^^^ value) &&& mask = 0 then s.enterBeam (.source n) (s.later 15) else s

-- ------------------------------------------------------------------ ends of assertions

/-- A pulse's width, a stretched or a forced release ends the assertion (R299, R303). -/
def State.pulseEnd (s : State) (n : Nat) : State :=
  let v := s.line n
  match v.asserting, v.ends with
  | true, some t => (s.advanceTo t).lineRelease n
  | _, _ => s

/-- An assertion reaches CUTOFF (R303). -/
def State.lineCutoff (s : State) (n : Nat) : State :=
  let v := s.line n
  if !v.asserting then s
  else
    let due := v.began.toNat + s.cutoffTicks n
    if v.ends.any (fun t => decide (t.toNat < due)) then s
    else
      let s := (s.advanceTo (BitVec.ofNat 64 due)).lineRelease n
      (s.setLine n { s.line n with cut := true }).raise F.TBUS_LINE_STATUS_CUTOFF n

/-- The line's own receiver does not see its assertion (R304). -/
def State.driveFault (s : State) (n : Nat) : State :=
  let v := s.line n
  let sending := v.telegram.any (·.sentAt.isSome)
  if (!v.asserting && !sending) || s.on F.TBUS_LINE_STATUS_LEVEL n then s
  else
    let s := s.lineForced n
    let s := (s.raise F.TBUS_LINE_STATUS_DRIVE_FAULT n).lineEntry n
    if sending then (s.txFail n).setLine n { (s.txFail n).line n with released := some s.time } else s

/-- The line has been asserted for 100 µs with its own driver released (R304). -/
def State.foreignStuck (s : State) (n : Nat) : State :=
  let v := s.line n
  if 18 ≤ n || !s.on F.TBUS_LINE_STATUS_LEVEL n || s.ownDrives n s.time.toNat then s
  else
    let alone := max v.since.toNat ((v.released.map (·.toNat)).getD 0)
    let s := s.advanceTo (BitVec.ofNat 64 (alone + 100 * ticksPerUs))
    (s.raise F.TBUS_LINE_STATUS_FOREIGN_STUCK n).lineEntry n

-- ------------------------------------------------------------------ resets and registers (R305, R306)

/-- Every line is released, and waiting telegrams are dropped without TX_FAIL (R305): SYS_RESET, a full reload's gating
tick, STANDBY, DORMANT. -/
def State.tbusRelease (s : State) : State :=
  (s.tbus.lines.map (·.1)).foldl
    (fun s n =>
      let s := s.lineForced n
      (s.setLine n { s.line n with telegram := none, request := false }).setF F.TBUS_TX_DATA_SEND n 0) s

/-- A write of LINE_CTRL (R305, R306). -/
def State.writeLineCtrl (s : State) (who : Who) (n : Nat) (data : Word) : State :=
  if 16 ≤ n && fieldOf data 0 2 == 3 then
    (s.raise F.TBUS_LINE_STATUS_GUARD_REFUSED n).journalRefusal who .encoding .TBUS_LINE_CTRL n data.toNat
  else
    let data := if n = 18 then withField (withField (s.word .TBUS_LINE_CTRL n) 7 1 (fieldOf data 7 1)) 8 4 (fieldOf data 8 4)
      else data
    let sending := (s.line n).telegram.isSome
    let s := s.writeTyped who .TBUS_LINE_CTRL n data
    if n < 18 && !s.on F.TBUS_LINE_CTRL_DRV_EN n then
      let s := s.lineForced n
      if sending then s.txFail n else s
    else s

/-- A write of TX_DATA (R305). -/
def State.writeTxData (s : State) (who : Who) (n : Nat) (data : Word) : State :=
  let send := s.f F.TBUS_TX_DATA_SEND n
  let s := s.writeTyped who .TBUS_TX_DATA n (data &&& 0xFFFF#32)
  let s := s.setF F.TBUS_TX_DATA_SEND n send
  if data.getLsbD 16 then s.lineSend n else s

/-- What a trigger-bus register shows live (R306): DRIVE, the FIFO's head and level, and line 18's bare fields. -/
def State.tbusLive (s : State) (r : Reg) (n : Nat) : Option Nat :=
  let v := s.line n
  match r with
  | .TBUS_LINE_STATUS =>
    let drive := if n = 18 then 0 else if s.lockedOut n then 3 else if v.telegram.isSome then 2 else if v.asserting then 1 else 0
    some (((s.word r n).toNat &&& (if n = 18 then 0x404 else 0xFFFFFFFF)) ||| drive)
  | .TBUS_LINE_CTRL => if n = 18 then some ((s.word r n).toNat &&& 0xF80) else none
  | .TBUS_LINE_TIMING | .TBUS_GOV_IMG | .TBUS_GOV_FW | .TBUS_TX_DATA | .TBUS_MATCH | .TBUS_CNT_TX | .TBUS_CNT_EXC =>
    if n = 18 then some 0 else none
  | .TBUS_RX_FIFO => some ((s.tbus.fifo.head?.map fun e => e.1.toNat + 65536 * e.2.1 + 2 ^ 31).getD 0)
  | .TBUS_RX_TIME_LO => some ((s.tbus.fifo.head?.map fun e => e.2.2.toNat % 2 ^ 32).getD 0)
  | .TBUS_RX_TIME_HI => some ((s.tbus.fifo.head?.map fun e => e.2.2.toNat / 2 ^ 32).getD 0)
  | .TBUS_RX_STAT => some ((s.word r n).toNat ||| s.tbus.fifo.length)
  | _ => none

/-- A read of RX_FIFO removes the head entry, except under the debug attribute. -/
def State.tbusPop (s : State) : State := s.putTbus { s.tbus with fifo := s.tbus.fifo.drop 1 }

end Sys2Proof.Machine
end

