-- ==== Sys2Proof/Machine/Load.lean ====
section
/-! DEFINITION. Configuration loading (R123 to R154): boot header, the loader's word automaton, full loads, slot and area
writes, START, FABRIC_RESET, failures and the golden fallback. -/

namespace Sys2Proof.Machine

-- ------------------------------------------------------------------ the boot header (R128, R129)

/-- A copy of the boot header passes its checks (R128, R129). -/
def State.headerCopyGood (s : State) (base : Nat) : Bool :=
  s.nvWord base == 0x48424844 && (s.nvWord (base + 4)).toNat % 65536 == 1 &&
  crcOfBytes (s.nvBytes base 0xFFC) == s.nvWord (base + 0xFFC)

/-- The fields of a boot header copy (R129). -/
def State.headerCopy (s : State) (base : Nat) : BootHeader :=
  let w := fun off => s.nvWord (base + off)
  let n := fun off => (s.nvWord (base + off)).toNat
  let speed := recBits (n 0x014) 0 3
  let width := recBits (n 0x014) 3 5
  let bar := recBits (n 0x014) 8 8
  let most := Part.hostWidth s.part
  { vendor := (w 0x008).setWidth 16
    device := (w 0x008 >>> 16).setWidth 16
    subsysVendor := (w 0x00C).setWidth 16
    subsys := (w 0x00C >>> 16).setWidth 16
    cls := (w 0x010).setWidth 24
    revision := (w 0x010 >>> 24).setWidth 8
    maxSpeed := if 1 ≤ speed ∧ speed ≤ 5 then speed else 5
    maxWidth := if [1, 2, 4, 8, 16].contains width && decide (width ≤ most) then width else most
    fabBar := if 20 ≤ bar ∧ bar ≤ 37 then bar else 0
    bootSlot := if recBits (n 0x018) 0 3 = 7 then 0 else recBits (n 0x018) 0 3
    hostDeadline := recBits (n 0x018) 8 8
    srcTimeout := recBits (n 0x01C) 0 20
    flashBase := w 0x020
    flashOctal := recBits (n 0x024) 0 1 == 1
    flashDummy := recBits (n 0x024) 1 5
    seqBoot := (List.range 16).map fun i => w (0x040 + 4 * i) }

/-- The default header held in fuses (R128); its identity is not stated (assumption 86). -/
def defaultHeader (p : Part) : BootHeader :=
  let w := Config.fusedIdentity
  { vendor := (w 0).setWidth 16
    device := (w 0 >>> 16).setWidth 16
    subsysVendor := (w 1).setWidth 16
    subsys := (w 1 >>> 16).setWidth 16
    cls := (w 2).setWidth 24
    revision := (w 2 >>> 24).setWidth 8
    maxSpeed := 5
    maxWidth := Part.hostWidth p
    fabBar := 0
    bootSlot := 0
    hostDeadline := 30
    srcTimeout := 100000
    flashBase := 0
    flashOctal := false
    flashDummy := 0
    seqBoot := [] }

/-- The boot header is read (R128): copy A, then copy B, then the default header, with BOOT_HDR_FAULT. -/
def State.readBootHeader (s : State) : State :=
  let (h, s) :=
    if s.headerCopyGood headerA then (s.headerCopy headerA, s)
    else if s.headerCopyGood headerB then (s.headerCopy headerB, s)
    else (defaultHeader s.part, s.raise F.DEV_STATUS_BOOT_HDR_FAULT 0)
  let s := s.putCfg { s.cfg with header := h }
  s.setF F.CFG_SRC_TIMEOUT_TIMEOUT 0 h.srcTimeout

-- ------------------------------------------------------------------ states of the engine

/-- A load, a slot write or a partial load is running. -/
def State.loading (s : State) : Bool := s.cfg.load.isSome || s.cfg.starting.isSome

/-- A configuration operation of R169 runs. -/
def State.configBusy (s : State) : Bool := s.loading || s.cfg.spanOp.isSome || s.cfg.spanWaiting.isSome

/-- Power of an FPD region is changing (R405). -/
def State.fpdChanging (s : State) : Bool := s.power.change.any fun c => (c.off ||| c.on) &&& 0xFF#11 != 0

/-- A configuration operation, a capture or a FABRIC_RESET cannot be asked for now (R169, R405). -/
def State.configBarred (s : State) : Bool := s.configBusy || s.fpdChanging

/-- CFG.STATUS.STATE when no load runs. -/
def State.engineIdle (s : State) : State :=
  let s := s.setF F.CFG_STATUS_BUSY 0 0
  s.setF F.CFG_STATUS_STATE 0
    (if s.on F.DEV_STATUS_USER_MODE 0 then 3 else if s.on F.DEV_STATUS_CONFIG_FAILED 0 then 5
     else if s.cfg.bootWaiting || s.dbg.waiting then 6 else 1)

/-- A refused command (R135, R151). -/
def State.cfgRefused (s : State) (who : Who) (why : Reason) (r : Reg) (attempted : Nat) : State :=
  (s.raise F.CFG_STATUS_CMD_REFUSED 0).journalRefusal who why r 0 attempted

/-- The state with a running load replaced. -/
def State.setLoad (s : State) (l : Option Load) : State := s.putCfg { s.cfg with load := l }

/-- The fabric NIs the part has. -/
def State.fabricNis (s : State) : List Nat := (List.range 0x60).filter (niPresent s.part)

-- ------------------------------------------------------------------ fabric state of chosen rods (R49, R50)

/-- The chosen rods are gated at a Beam tick (R49 step 1, R265): their ACKs fall, their outputs go to spacer, their edge
stations are emptied. -/
def State.gateRods (s : State) (on : Nat → Bool) : State := (s.dropBeads on).edgesReset on

/-- Stages, latches, arbiters, reckoners, port pipelines, taps and stations of the chosen rods return to their initial
states (R49, R50, R57, R102). -/
def State.fabricClear (s : State) (on : Nat → Bool) : State :=
  let s := s.dropBeads on
  let drop {α : Type} (rodOf : Nat → Nat) (c : Cells α) : Cells α := c.filter fun kv => !on (rodOf kv.1)
  let taps := s.fabric.taps.filter fun kv => !on (tapRod (s.tapEntry (16 + kv.1)))
  let f := s.fabric
  let s := (s.putFabric { f with
      stages := drop rodOfCellKey f.stages
      arbiters := drop (fun k => k / 384) f.arbiters
      reckoners := drop (fun k => k / 24) f.reckoners
      taps := taps }).putMem { s.mem with
      reads := drop (fun k => k / 64) s.mem.reads
      statuses := drop (fun k => k / 64) s.mem.statuses }
  s.stationsReset fun p => !on (homeRod s.part p)

/-- QUEUE fields whose Reset value is the image take the settings records of the chosen rods (R122). -/
def State.queueSettings (s : State) (on : Nat → Bool) : State :=
  let s := s.putDev { s.dev with acting := s.dev.acting.filter fun x => !(x.1.1 == .QUEUE_CONFIG && on (queueRod x.1.2)) }
  ((List.range (Part.queues s.part)).filter fun q => on (queueRod q)).foldl
    (fun s q =>
      let r := if s.lostRod (queueRod q) then 0 else s.queueRecord q
      let s := s.setWord .QUEUE_CONFIG q (BitVec.ofNat 32 (recBits r 0 11))
      let s := s.setWord .QUEUE_STALE_CFG q (BitVec.ofNat 32 (recBits r 32 20))
      s.setWord .QUEUE_MAX_PKT q (BitVec.ofNat 32 (recBits r 64 19))) s

/-- The pins of the chosen rods. -/
def State.pinsOf (s : State) (on : Nat → Bool) : List Nat := (List.range 192).filter fun p => on (homeRod s.part p)

-- ------------------------------------------------------------------ guards (R383, R384)

/-- The guard registers return to their Reset values (R383). -/
def State.guardsReset (s : State) : State :=
  let s := s.resetRegs fun r _ => r == .TBUS_GOV_IMG || r == .LANE_TX_GUARD || r == .SEQ_GUARD_PINS || r == .SEQ_GUARD_POLICY
  s.setF F.SEQ_POWER_CEIL_CEIL_IMG 0 0

/-- The stream writes a guard register (R383). -/
def State.guardWrite (s : State) (r : Nat) (ws : List Word) : State :=
  let each := fun (reg : Reg) (n : Nat) => (List.range n).foldl (fun s i => s.setWord reg i (ws.getD i 0)) s
  match r with
  | 0x10 => each .TBUS_GOV_IMG 18
  | 0x11 => each .LANE_TX_GUARD (Part.quads s.part)
  | 0x12 => each .SEQ_GUARD_PINS 7
  | 0x13 => s.setF F.SEQ_POWER_CEIL_CEIL_IMG 0 ((ws.getD 0 0).toNat % 1024)
  | _ => s.setWord .SEQ_GUARD_POLICY 0 (ws.getD 0 0 &&& 7#32)

/-- From the gating of a load in user mode until START, guard registers take writes from the stream only (R151 step 3). -/
def State.streamHoldsGuards (s : State) : Bool := s.cfg.streamGuards

-- ------------------------------------------------------------------ starting a load

/-- A load that has just begun. -/
def newLoad (kind : LoadKind) (src slot : Nat) (who : Who) : Load :=
  { kind, src, slot, who, boot := false, golden := false, icp := false
    phase := match kind with
      | .area _ => .command
      | _ => .header
    offset := 0, header := [], crc := crcStart, sha := shaStart, words := [], frameOffset := 0, far := 0
    started := false, lockArmed := false, spanSeen := false, wroteFrame := false, cover := [], spans := []
    pinIso := BitVec.ofNat 768 (packWords (List.replicate 24 0x11111111#32)), beamMap := [], scrub := none
    crcMark := crcStart, ahead := [], bytes := [], fetched := 0, fetching := false, user := false, deadline := false
    oldDigest := 0 }

/-- The engine shows a running load. -/
def State.engineBusy (s : State) (l : Load) : State :=
  let s := s.raise F.CFG_STATUS_BUSY 0
  match l.kind with
  | .full => s.setF F.CFG_STATUS_STATE 0 (if l.golden then 4 else 2)
  | .span _ => s
  | _ => s.setF F.CFG_STATUS_STATE 0 7

/-- Every fabric NI is fenced (R150); one that drains still is cut off as at its limit (R247). -/
def State.fenceFabric (s : State) : State :=
  s.fabricNis.foldl
    (fun s n => if s.fence n = 1 then s.fenceShut n true else if s.fence n = 0 then s.setFence n 2 6 s.self else s) s

/-- Every span becomes UNDECLARED (R164). -/
def State.spansForget (s : State) : State :=
  (List.range 16).foldl (fun s n => s.setF F.CFG_SPAN_STATUS_STATE n 0)
    (s.putCfg { s.cfg with spans := [], spanSettling := [], spanReleased := [], spanDigest := [] })

/-- The fabric and the pins are gated (R144, R150, R151 steps 2 and 3): user mode ends, holding stages and latches are
cleared, NIs are fenced, the guard lock is released, no driver holds a chassis line, no image runs (assumption 82). -/
def State.gateFabric (s : State) : State :=
  let s := (((s.gateRods fun _ => true).fabricClear fun _ => true).mapQueues (fun _ => true) State.queueEmpty).fenceFabric
  let s := s.putCfg { s.cfg with
    releases := [], streamGuards := s.cfg.streamGuards || s.on F.DEV_STATUS_USER_MODE 0 }
  let s := s.setF F.DEV_STATUS_USER_MODE 0 0
  let s := s.setF F.SEQ_GUARD_STATUS_LOCKED 0 0
  let s := s.setF F.CFG_STATUS_SCRUB_ON 0 0
  let s := (s.dropContentions fun _ => true).putNet { s.net with used := 0 }
  s.spansForget.tbusRelease

/-- The device enters CONFIG_FAILED (R144 step 4, R145, R150). -/
def State.configFailed (s : State) : State := (s.gateFabric.raise F.DEV_STATUS_CONFIG_FAILED 0).engineIdle

/-- The object of a load in a LOAD_FAIL or SPAN entry (R439, R441). -/
def loadObject : LoadKind → Nat
  | .span n => 0x20000000 + n
  | _ => 0x200000FF

/-- A failure is shown and recorded, a refused frame among them (R77, R142, R143, R146, R441, assumption 167). -/
def State.loadFailed (s : State) (l : Load) (c : Cause) (off : Nat) : State :=
  let s := s.raise F.CFG_STATUS_LOAD_FAILED 0
  let s := s.setF F.CFG_FAIL_OFFSET_OFFSET 0 off
  let s := if l.src = 0 ∧ l.slot = 0 ∧ l.kind = .full then s.setF F.CFG_CAUSE_GOLDEN 0 c.code else s
  let s := if l.golden then s
    else (s.setF F.CFG_CAUSE_FIRST 0 c.code).setF F.CFG_CAUSE_FIRST_SRC 0 l.src
  s.journal l.who.origin 0x04 (l.src + 16 * l.slot) ⟨loadObject l.kind, 0, off, c.code⟩

/-- The segments whose driver point of a rod a routing frame holds: those it enables, true, and those it does not. -/
def driverPoints (rod frame : Nat) (look : Nat → BitVec 4096) : List (Nat × Bool) :=
  let lo := (frame - 480) * 4096
  if frame < 480 ∨ 639 ≤ frame then []
  else
    (rowsOfFrame frame).flatMap fun row =>
      (List.range 8).filterMap fun track =>
        let pos := 6784 * row + 5248 + 9 * track
        if lo ≤ pos ∧ pos < lo + 4096 then
          some (segmentId row track (segmentOf track rod), spanBits look 480 pos 1 == 1)
        else none

/-- The driver table after a frame of configuration memory is taken up (R76). -/
def State.driversAfter (s : State) (t : Cells Nat) (rod frame : Nat) : Cells Nat :=
  (driverPoints rod frame (s.frame rod)).foldl
    (fun t x =>
      if x.2 then Sparse.set 0 t x.1 (rod + 1)
      else if Sparse.get 0 t x.1 = rod + 1 then Sparse.set 0 t x.1 0 else t) t

/-- The driver table is rebuilt from configuration memory (R76). -/
def State.driversBuilt (s : State) : State :=
  s.putCfg { s.cfg with
    drivers := s.cfg.frames.foldl (fun t kv => s.driversAfter t (kv.1 / 1024) (kv.1 % 1024)) [] }

/-- The loader begins to write frames of a full image: no guard holds a value the image does not write, and the driver
table is rebuilt. -/
def State.framesBegin (s : State) : State := s.guardsReset.driversBuilt

/-- Slot 0 is loaded (R144 step 3): its header is read at once; when it is refused, CONFIG_FAILED follows. -/
def State.goldenLoad (s : State) (golden deadline : Bool) (who : Who) : State :=
  let h := (List.range 64).map fun i => s.nvWord (slotBase 0 + 4 * i)
  let l := { newLoad .full 0 0 who with golden := golden, boot := true, deadline := deadline }
  let s := s.engineBusy l
  match s.headerFault h none with
  | some (c, off) => (s.loadFailed l c off).configFailed
  | none =>
    let l := { l with phase := .command, offset := 256, header := h, crc := h.foldl crcWord crcStart }
    s.framesBegin.setLoad (some l)

/-- The bead on ICP_R (R168): cause, span state, span, refused. -/
def icpBead (cause state span : Nat) (refused : Bool) : BitVec 16 :=
  BitVec.ofNat 16 (cause % 32 + 32 * (state % 8) + 256 * (span % 16) + (if refused then 4096 else 0))

/-- An operation of the ICP has ended, or is refused, with a result bead (R168); BUSY stays while another of its operations
runs. -/
def State.icpEnds (s : State) (cause span : Nat) (refused : Bool) : State :=
  let s := s.setF F.CFG_ICP_STATUS_BUSY 0 (if s.cfg.spanOp.any (·.icp) then 1 else 0)
  (s.putCfg { s.cfg with icpResults := s.cfg.icpResults ++ [icpBead cause (s.spanState span) span refused] })

/-- A SPAN entry (R441): op, old and new digest. -/
def State.spanEntry (s : State) (who : Who) (n op : Nat) (new : DWord) : State :=
  let full := s.pair .CFG_DIGEST_LO .CFG_DIGEST_HI 0
  let old := match s.cfg.spanDigest.find? (·.1 == n) with
    | some (_, d) => d.toNat
    | none => full
  s.journal who.origin 0x05 (n + 16 * op) (digestBody old new.toNat)

/-- A partial load ends (R164, R167): at the header it is refused, and the span's state stays; before the first frame the
span is ISOLATED, or goes on to be; after it, INCOMPLETE. -/
def State.spanLoadFails (s : State) (l : Load) (n : Nat) (c : Cause) : State :=
  let s := s.setF F.CFG_SPAN_STATUS_CAUSE n c.code
  let early := l.phase == .header
  let s :=
    if early then
      (s.putCfg { s.cfg with spanOp := none }).raise F.CFG_SPAN_STATUS_REFUSED n |>.cfgRefused l.who .command .CFG_SPAN_CMD (1 + 256 * n)
    else if s.spanState n = 2 then
      s.putCfg { s.cfg with spanOp := s.cfg.spanOp.map fun o => { o with op := 2, icp := false } }
    else
      let s := s.putCfg { s.cfg with spanOp := none }
      if l.wroteFrame then (s.setF F.CFG_SPAN_STATUS_STATE n 5).spanEntry l.who n 6 0
      else s.setF F.CFG_SPAN_STATUS_STATE n 3
  if l.icp then s.icpEnds c.code n early else s

/-- A load ends with a cause at a byte offset (R142 to R144, R153, R154, R164, R167). A full load that fails at its header
in CONFIG_FAILED, neither at boot nor in user mode, goes to the golden load as one at boot does: the spec does not say
(DESIGN CHOICE, assumption 179). -/
def State.loadFail (s : State) (l : Load) (c : Cause) (off : Nat) : State :=
  let s := s.setLoad none
  let s := s.loadFailed l c off
  match l.kind with
  | .full =>
    if l.phase == .header && s.on F.DEV_STATUS_USER_MODE 0 then s.engineIdle
    else if l.golden then s.configFailed
    else s.gateFabric.goldenLoad true false ⟨0x30, 0xFF⟩
  | .span n => (s.spanLoadFails l n c).engineIdle
  | .slot _ => s.engineIdle
  | .area d =>
    let base := if d = 8 then firmwareArea else if d = 9 then calibrationArea else headerA
    (if c = .crc then s.setNvWord base 0 else s).engineIdle

-- ------------------------------------------------------------------ after the header (R142, R151, R153, R164, R166)

/-- The span's fence closes over its NIs (R162, R245). -/
def State.spanDrain (s : State) (d : SpanDecl) (who : Who) : State :=
  s.fenceDomain ((List.range 0x60).filter fun n => d.nis.getLsbD n) (fun _ => s.f F.CFG_SPAN_DRAIN_US 0) 2
    (0x20000000 + d.id) who

/-- Every NI of a list is closed. -/
def State.niClosed (s : State) (nis : List Nat) : Bool := nis.all fun n => decide (2 ≤ s.fence n)

/-- The header passes (R142): a full load in user mode drains every fabric NI (R151, assumption 85); a span begins to
drain, or goes to LOADING; a slot's MAGIC is cleared. -/
def State.headerPassed (s : State) (l : Load) : State :=
  match l.kind with
  | .full =>
    let user := s.on F.DEV_STATUS_USER_MODE 0
    let l := { l with phase := if user then .gating else .command, user := user }
    let s := s.setLoad (some l)
    if user then s.fenceDomain s.fabricNis (fun _ => s.f F.CFG_SPAN_DRAIN_US 0) 2 0x200000FF l.who else s.framesBegin
  | .span n =>
    let s := s.spanEntry l.who n 1 (headerDigest l.header)
    match s.cfg.spans.find? (·.id == n) with
    | none => s.setLoad none
    | some d =>
      if s.spanState n = 1 then
        ((s.setF F.CFG_SPAN_STATUS_STATE n 2).setLoad (some { l with phase := .gating })).spanDrain d l.who
      else
        let phase := if s.cfg.spanSettling.contains n then LoadPhase.gating else .command
        (s.setF F.CFG_SPAN_STATUS_STATE n 4).setLoad (some { l with phase := phase })
  | .slot n =>
    let base := slotBase n
    let old := s.nvWord (base + 0x2C) ++ s.nvWord (base + 0x28)
    (s.setNvWord base 0).setLoad (some { l with phase := .command, oldDigest := old })
  | .area _ => s

/-- The span a header must name; none for a full image. -/
def State.pathSpan (s : State) : LoadKind → Option SpanDecl
  | .span n => s.cfg.spans.find? (·.id == n)
  | _ => none

/-- The header of a slot write: SPAN may name any span or the full image; slot 0 takes a full image only (R153, R424,
assumption 87). -/
def State.slotHeaderFault (s : State) (n : Nat) (h : List Word) : Option (Cause × Nat) :=
  match s.headerFault h none with
  | some (.span, off) =>
    if n != 0 && decide (headerSpan h < 16) then
      s.headerFault h (some ⟨headerSpan h, BitVec.allOnes 256, 0, 0, []⟩)
    else some (.span, off)
  | r => r

/-- The 64th word of a header has arrived. -/
def State.headerDone (s : State) (l : Load) : State :=
  let fault := match l.kind with
    | .slot n => s.slotHeaderFault n l.header
    | k => s.headerFault l.header (s.pathSpan k)
  match fault with
  | some (c, off) => s.loadFail { l with phase := .header } c off
  | none => s.headerPassed l

-- ------------------------------------------------------------------ frames (R136, R137, R183)

/-- The rows of memory content that a frame holds are no longer poisoned or suspect (R102). -/
def State.contentFresh (s : State) (rod frame : Nat) : State :=
  if frame < 640 ∨ 928 ≤ frame then s
  else
    let m := (frame - 640) / 9
    let lo := (frame - 640) % 9 * 4096
    let hit := fun k => decide (k / 512 = memKey rod m ∧ lo ≤ 72 * (k % 512) + 71 ∧ 72 * (k % 512) < lo + 4096)
    (s.putMem { s.mem with
      poisoned := s.mem.poisoned.filter fun k => !hit k
      onceCorrected := s.mem.onceCorrected.filter fun kv => !hit kv.1 })

/-- The check bits of a frame's four quarters (R137). -/
def frameChecks (v : BitVec 4096) : BitVec 64 :=
  let q (i : Nat) : BitVec 16 := Config.quarterCheck (v.extractLsb' (1024 * i) 1024)
  q 3 ++ q 2 ++ q 1 ++ q 0

/-- A frame is written, with check bits computed for it, to the physical rod of its logical rod; a frame of a lost rod is
discarded (R76, R136, R137, R183). -/
def State.writeFrame (s : State) (rod frame : Nat) (v : BitVec 4096) : State :=
  if s.lostRod rod then s
  else
    let k := frameKey rod frame
    let s := (s.setFrame rod frame v).contentFresh rod frame
    (s.putCfg { s.cfg with
      loaded := Sparse.set 0 s.cfg.loaded k v
      checks := Sparse.insert s.cfg.checks k (frameChecks v)
      badFrames := s.cfg.badFrames.filter (· != k)
      drivers := s.driversAfter s.cfg.drivers rod frame })

/-- A frame would enable a second driver point of a segment, or is written (R76): with a clash DRV_REFUSE is set and
nothing of it is written. -/
def State.frameDriven (s : State) (rod frame : Nat) (v : BitVec 4096) : Option State :=
  match (if 480 ≤ frame ∧ frame < 639 then s.driverClash rod frame (s.after rod frame v) else none) with
  | some (seg, other) =>
    some ((s.setWord .CFG_DRV_REFUSE 0 (BitVec.ofNat 32 (seg + 65536 * rod + 2 ^ 24 * other))).raise
      F.CFG_CONT_STATUS_DRV_REFUSED 0)
  | none => none

/-- The next frame address (R136). -/
def nextFar (rod frame : Nat) : Nat := if frame = 959 then 65536 * (rod + 1) else 65536 * rod + frame + 1

/-- A frame address is refused (R136). -/
def badFar (p : Part) (far : Nat) : Bool :=
  decide (Part.rods p ≤ recBits far 16 10 ∨ 960 ≤ recBits far 0 10)

/-- The image comes from slot 0, as a golden image does (R183). -/
def Load.fromGolden (l : Load) : Bool := l.src == 0 && l.slot == 0

/-- A frame's data is complete (R76, R136, R138, R143, R183): it is refused with a cause, or written. -/
def State.frameArrives (s : State) (l : Load) (v : BitVec 4096) : State :=
  let rod := recBits l.far 16 10
  let frame := recBits l.far 0 10
  let lost := s.lostRod rod
  if lost && v != 0 && !l.fromGolden then s.loadFail l .frameAddr l.frameOffset
  else if s.frameBad rod frame v then s.loadFail l .encoding l.frameOffset
  else
    match s.frameDriven rod frame v with
    | some s => s.loadFail l .driver l.frameOffset
    | none =>
      let s := if lost && v != 0 then s.raise F.REPAIR_STATUS_GOLDEN_HOLE 0 else s
      let s := s.writeFrame rod frame v
      let s := match l.kind with
        | .span _ => s.putCfg { s.cfg with
            frameSource := Sparse.insert s.cfg.frameSource (frameKey rod frame) ⟨l.src, l.slot, headerDigest l.header⟩ }
        | _ => s
      let cover := Sparse.set 0 l.cover rod (Sparse.get 0 l.cover rod ||| BitVec.ofNat 960 (2 ^ frame))
      s.setLoad (some { l with far := nextFar rod frame, wroteFrame := true, cover := cover, words := [] })

-- ------------------------------------------------------------------ the command stream (R133 to R135)

/-- A register the stream may write with n words (R134, R165, R383). -/
def State.registerFault (s : State) (l : Load) (r n : Nat) : Bool :=
  let full := l.kind == .full
  match r with
  | 1 => n != 1 || (!full && !l.spanSeen)
  | 3 | 4 | 5 => n != 1
  | 6 => full || n != 1
  | 7 => !full || decide (n < 18)
  | 8 => !full || n != 24
  | 9 => !full || decide (n < 17) || l.beamMap != []
  | 0x1F => !full || n != 1
  | _ => !full || guardWords s.part r != some n

/-- The END word has come at its place (R143): coverage and digest. -/
def State.endWord (s : State) (l : Load) (off : Nat) : State :=
  let whole := (List.range (Part.rods s.part)).all fun rod => Sparse.get 0 l.cover rod == BitVec.allOnes 960
  if l.kind == .full && !(whole && l.started) then s.loadFail l .coverage off
  else if shaDigest l.sha != headerDigest l.header then s.loadFail l .digest off
  else s.setLoad (some { l with phase := .crc })

/-- A command word arrives at an offset (R133). -/
def State.commandWord (s : State) (l : Load) (w : Word) (off : Nat) : State :=
  let op := w.toNat / 2 ^ 28
  let r := w.toNat / 65536 % 4096
  let n := w.toNat % 65536
  let last := headerLength l.header - 8
  let data := fun due => s.setLoad (some { l with phase := if due = 0 then .command else .data op r off due, words := [] })
  match op with
  | 0xF =>
    if w != 0xF0000000#32 then s.loadFail l .opcode off
    else if off < last then s.loadFail l .earlyEnd off
    else s.endWord l off
  | 0x1 =>
    if off = last then s.loadFail l .missingEnd off
    else if s.registerFault l r n then s.loadFail l .register off
    else data n
  | 0x2 =>
    if off = last then s.loadFail l .missingEnd off
    else if r ≠ 2 ∨ n = 0 ∨ n % 128 ≠ 0 ∨ (l.kind ≠ .full ∧ !l.spanSeen) then s.loadFail l .register off
    else data n
  | 0x3 =>
    if off = last then s.loadFail l .missingEnd off
    else if r ≠ 0 then s.loadFail l .opcode off
    else data n
  | _ => s.loadFail l (if off = last then .missingEnd else .opcode) off

/-- A WRITE is complete: its register takes the words, or the load ends (R134, R135, R143, R452). -/
def State.registerWritten (s : State) (l : Load) (r cmdOffset : Nat) (ws : List Word) : State :=
  let w := ws.getD 0 0
  let d := cmdOffset + 4
  let go := fun (l : Load) => s.setLoad (some { l with phase := .command, words := [] })
  match r with
  | 1 =>
    if w.toNat &&& 0xFC00FC00 != 0 then s.loadFail l .encoding d
    else if badFar s.part w.toNat then s.loadFail l .frameAddr d
    else go { l with far := w.toNat }
  | 3 =>
    match w.toNat % 256 with
    | 1 => if l.kind ≠ .full ∨ cmdOffset + 16 ≠ headerLength l.header then s.loadFail l .register d else go { l with started := true }
    | 6 => go { l with scrub := some true }
    | 7 => go { l with scrub := some false }
    | _ => s.loadFail l .register d
  | 4 => if w.toNat % 65536 ≠ Part.dieId s.part then s.loadFail l .idchk d else go l
  | 5 => if w ≠ crcValue l.crcMark then s.loadFail l .runningCrc d else go l
  | 6 => if w.toNat % 256 ≠ headerSpan l.header then s.loadFail l .encoding d else go { l with spanSeen := true }
  | 7 =>
    match spanTableFault s.part l.spans ws with
    | some c => s.loadFail l c (if c = .register then cmdOffset else d)
    | none => go { l with spans := l.spans ++ [spanOfWords ws] }
  | 8 =>
    match pinIsoFault ws with
    | some c => s.loadFail l c d
    | none => go { l with pinIso := BitVec.ofNat 768 (packWords ws) }
  | 9 =>
    match s.beamMapFault ws l.fromGolden with
    | some c => s.loadFail l c (if c = .register then cmdOffset else d)
    | none =>
      let hole := (List.range 32).any fun k => recBits (tapOf ws k) 15 1 == 1 && s.lostRod (recBits (tapOf ws k) 0 8)
      let s := if hole then s.raise F.REPAIR_STATUS_GOLDEN_HOLE 0 else s
      s.setLoad (some { l with phase := .command, words := [], beamMap := ws })
  | 0x1F => if w ≠ 1 then s.loadFail l .encoding d else go { l with lockArmed := true }
  | _ =>
    if r = 0x14 ∧ w.toNat % 4 = 3 then s.loadFail l .encoding d
    else (s.guardWrite r ws).setLoad (some { l with phase := .command, words := [] })

/-- A data word of a WRITE, BURST or NOP arrives; l already counts it. -/
def State.dataWord (s : State) (l : Load) (w : Word) (off op r cmdOffset due : Nat) : State :=
  if off = headerLength l.header - 8 then s.loadFail l .missingEnd off
  else
    let after := if due = 1 then LoadPhase.command else .data op r cmdOffset (due - 1)
    match op with
    | 3 => s.setLoad (some { l with phase := after })
    | 2 =>
      let first := l.words.isEmpty
      let l := { l with words := l.words ++ [w], frameOffset := if first then off else l.frameOffset, phase := after }
      if first && (badFar s.part l.far || !inExtents l.header (recBits l.far 16 10) (recBits l.far 0 10)) then
        s.loadFail l .frameAddr off
      else if l.words.length = 128 then s.frameArrives l (BitVec.ofNat 4096 (packWords l.words))
      else s.setLoad (some l)
    | _ =>
      let l := { l with words := l.words ++ [w] }
      if due = 1 then s.registerWritten l r cmdOffset l.words
      else s.setLoad (some { l with phase := after })

/-- The final CRC word of an image for configuration memory (R130, R149, R164): START enters the Beam; a span goes to
RELEASING. -/
def State.crcPassed (s : State) (l : Load) : State :=
  match l.kind with
  | .full => (s.putCfg { s.cfg with load := none, starting := some l }).enterNext (.direct 38)
  | .span n =>
    let s := s.setLoad none
    let s := s.setF F.CFG_SPAN_STATUS_STATE n 6
    let s := match l.scrub with
      | some on => s.setF F.CFG_STATUS_SCRUB_ON 0 (if on then 1 else 0)
      | none => s
    let digest := headerDigest l.header
    let op := s.cfg.spanOp.map fun o => { o with newDigest := digest }
    (s.putCfg { s.cfg with spanOp := op }).engineIdle
  | _ => s

-- ------------------------------------------------------------------ slots and areas (R153, R154)

/-- A word of a slot write after the header (R153): the bytes from 0x100 on are written, the final CRC is checked, then
the header is written, MAGIC last. -/
def State.slotWord (s : State) (l : Load) (n : Nat) (w : Word) (off : Nat) : State :=
  let base := slotBase n
  if off = headerLength l.header - 4 then
    if w ≠ crcValue l.crc then s.loadFail l .crc off
    else
      let s := s.setNvWord (base + off) w
      let s := (List.range 63).foldl (fun s i => s.setNvWord (base + 4 * (i + 1)) (l.header.getD (i + 1) 0)) s
      let s := s.setNvWord base (l.header.getD 0 0)
      let s := s.journal l.who.origin 0x06 n (digestBody l.oldDigest.toNat (headerDigest l.header).toNat)
      (s.setLoad none).engineIdle
  else (s.setNvWord (base + off) w).setLoad (some { l with crc := crcWord l.crc w, offset := off + 4 })

/-- The first store byte of a DEST area, and its size (R124, R154). -/
def areaOf (d : Nat) : Nat × Nat :=
  if d = 8 then (firmwareArea, 0x400000) else if d = 9 then (calibrationArea, 0x200000) else (headerA, 0x1000)

/-- A word of an area write (R154): plain data of PROG_LEN bytes, whose last 4 are the CRC of the rest; a boot header
goes to copy A, then to copy B. -/
def State.areaWord (s : State) (l : Load) (d : Nat) (w : Word) : State :=
  let len := s.f F.CFG_PROG_LEN_BYTES 0
  let base := (areaOf d).1
  let s := (List.range 4).foldl
    (fun s i => if l.offset + i < len then s.setNvByte (base + l.offset + i) ((w >>> (8 * i)).setWidth 8) else s) s
  let l := { l with offset := l.offset + 4 }
  if l.offset < len then s.setLoad (some l)
  else if crcOfBytes (s.nvBytes base (len - 4)) ≠ s.nvWord (base + len - 4) then s.loadFail l .crc (len - 4)
  else
    let s := if d = 0xA then
        (List.range 1024).foldl (fun s i => s.setNvWord (headerB + 4 * i) (s.nvWord (headerA + 4 * i))) s
      else s
    let new := BitVec.ofNat 64 (s.nvWord (base + len - 4)).toNat
    let s := s.journal l.who.origin 0x06 d (digestBody l.oldDigest.toNat new.toNat)
    (s.setLoad none).engineIdle

-- ------------------------------------------------------------------ one word

/-- The word is the value of a WRITE to the stream register CRC, which the digest takes as 0 (R131). -/
def Load.crcValueNext (l : Load) : Bool :=
  match l.phase with
  | .data 1 5 _ _ => true
  | _ => false

/-- A word of the stream arrives at the loader (R130 to R154). -/
def State.feed (s : State) (w : Word) : State :=
  match s.cfg.load with
  | none => s
  | some l =>
    match l.kind, l.phase with
    | .area d, _ => s.areaWord l d w
    | _, .gating => s.setLoad (some { l with ahead := l.ahead ++ [w] })
    | _, .header =>
      let l := { l with header := l.header ++ [w], crc := crcWord l.crc w, offset := l.offset + 4 }
      if l.header.length = 64 then s.headerDone l else s.setLoad (some l)
    | .slot n, _ => s.slotWord l n w l.offset
    | _, .crc => if w ≠ crcValue l.crc then s.loadFail l .crc l.offset else s.crcPassed l
    | _, .command =>
      let off := l.offset
      let l := { l with crcMark := l.crc, crc := crcWord l.crc w, sha := shaWord l.sha w, offset := off + 4 }
      s.commandWord l w off
    | _, .data op r cmdOffset due =>
      let off := l.offset
      let l := { l with
        crc := crcWord l.crc w, sha := shaWord l.sha (if l.crcValueNext then 0 else w), offset := off + 4 }
      s.dataWord l w off op r cmdOffset due

/-- Words of the stream arrive in order. -/
def State.feedAll (s : State) (ws : List Word) : State := ws.foldl State.feed s

/-- A load whose spans or fabric NIs have drained is gated and goes on (R151 step 2): a full load in user mode. -/
def State.loadGate (s : State) : State :=
  match s.cfg.load with
  | some l =>
    if l.kind == .full && l.phase == .gating && s.niClosed s.fabricNis then
      let s := s.gateFabric.framesBegin
      (s.setLoad (some { l with phase := .command, ahead := [] })).feedAll l.ahead
    else s
  | none => s

/-- The source ends before LENGTH bytes (R143). -/
def State.sourceEnds (s : State) : State :=
  match s.cfg.load with
  | some l => s.loadFail l .earlyEnd (l.offset + 4 * l.ahead.length + l.bytes.length)
  | none => s

/-- A load ends for a reason outside the stream: FAIL_OFFSET names the next word awaited (R452). -/
def State.loadStops (s : State) (c : Cause) : State :=
  match s.cfg.load with
  | some l => s.loadFail l c (l.offset + 4 * l.ahead.length)
  | none => s

-- ------------------------------------------------------------------ host fetch (R126)

/-- The engine asks for more of a host fetch, up to a 4 KiB boundary (R126, R15). -/
def State.fetchPump (s : State) : State :=
  match s.cfg.load with
  | some l =>
    let len := s.f F.CFG_FETCH_LEN_BYTES 0
    if l.src != 3 || l.fetching || s.loading && (s.freeTag 0x99).isNone || !s.niTakes 0x99 then s
    else if len ≤ l.fetched then s.sourceEnds
    else
      let a := s.pair .CFG_FETCH_ADDR_LO .CFG_FETCH_ADDR_HI 0 % 2 ^ 48 + l.fetched
      let n := min (4096 - a % 4096) (len - l.fetched)
      (s.setLoad (some { l with fetching := true })).request 0x99
        ⟨.rd, a, n - 1, [], 0, [], false, false, false, 0, .engine⟩
  | none => s

/-- The words of a list of bytes, little-endian; bytes short of a word are left. -/
def byteWords : List Byte → List Word
  | a :: b :: c :: d :: rest => (d ++ c ++ b ++ a) :: byteWords rest
  | _ => []

/-- A host fetch is answered: its bytes follow those short of a word that came before. -/
def State.fetchAnswer (s : State) (c : Completion) : State :=
  match s.cfg.load with
  | some l =>
    if l.src != 3 || !l.fetching then s
    else if c.answer != .rspData then (s.setLoad (some { l with fetching := false })).loadStops .sourceError
    else
      let data := l.bytes ++ c.data
      let l := { l with
        fetching := false, fetched := l.fetched + c.data.length, bytes := data.drop (data.length / 4 * 4) }
      ((s.setLoad (some l)).feedAll (byteWords data)).fetchPump
  | none => s

-- ------------------------------------------------------------------ the commands

/-- A full load, slot or area write begins; the header of a store slot is read at once. -/
def State.loadBegin (s : State) (l : Load) : State :=
  let s := (s.engineBusy l).setLoad (some l)
  if l.src = 0 then s.feedAll ((List.range 64).map fun i => s.nvWord (slotBase l.slot + 4 * i)) else s.fetchPump

/-- The addresses FETCH_ADDR may lie at: the host-memory window (R15). -/
def State.fetchAddrGood (s : State) : Bool :=
  let a := s.pair .CFG_FETCH_ADDR_LO .CFG_FETCH_ADDR_HI 0 % 2 ^ 48
  decide (0xC000000000 ≤ a ∧ a < 0x10000000000)

/-- CMD LOAD is refused (R151, R153, R154, R169, R385): the reason. -/
def State.loadRefusal (s : State) : Option Reason :=
  let src := s.f F.CFG_LOAD_CTRL_SRC 0
  let dest := s.f F.CFG_LOAD_CTRL_DEST 0
  let len := s.f F.CFG_PROG_LEN_BYTES 0
  if s.configBarred || s.dbg.erasing then some .command
  else if src ≥ 5 ∨ (src = 3 ∧ !s.fetchAddrGood) then some .encoding
  else if !s.on F.REPAIR_STATUS_PUST_DONE 0 then some .command
  else if dest = 0 then
    if s.on F.DEV_STATUS_USER_MODE 0 && (s.f F.RECORD_STATUS_STATE 0 != 0 || s.repair.step.any RoveStep.moving) then some .command
    else none
  else if src < 2 then some .encoding
  else if 1 ≤ dest ∧ dest ≤ 6 then none
  else if dest = 8 ∨ dest = 9 ∨ dest = 0xA then
    if len < 4 ∨ (areaOf dest).2 < len ∨ (dest = 0xA ∧ len ≠ 0x1000) then some .encoding else none
  else some .encoding

/-- HOST_LOCK refuses an area write by a core (R385). -/
def State.hostLockRefuses (s : State) (who : Who) : Bool :=
  let dest := s.f F.CFG_LOAD_CTRL_DEST 0
  s.guardLocked && s.on F.SEQ_GUARD_POLICY_HOST_LOCK 0 && (dest == 8 || dest == 0xA) &&
  decide (0x10 ≤ who.origin.toNat ∧ who.origin.toNat ≤ 0x13)

/-- CMD LOAD (R135, R151, R153). -/
def State.loadCommand (s : State) (who : Who) : State :=
  let src := s.f F.CFG_LOAD_CTRL_SRC 0
  let dest := s.f F.CFG_LOAD_CTRL_DEST 0
  match s.loadRefusal with
  | some why => s.cfgRefused who why .CFG_CMD 0x10
  | none =>
    if s.hostLockRefuses who then (s.raise F.CFG_STATUS_CMD_REFUSED 0).breach who .rwl .CFG_CMD 0 0x10
    else if dest = 0 then
      let s := s.putCfg { s.cfg with bootWaiting := false }
      s.loadBegin (newLoad .full src (if src = 0 then s.f F.CFG_LOAD_CTRL_SLOT 0 else 0) who)
    else if dest ≤ 6 then s.loadBegin (newLoad (.slot dest) src 0 who)
    else
      let base := (areaOf dest).1
      let old := BitVec.ofNat 64 (s.nvWord (base + s.f F.CFG_PROG_LEN_BYTES 0 - 4)).toNat
      s.loadBegin { newLoad (.area dest) src 0 who with oldDigest := old }

/-- CMD ABORT_LOAD (R135). -/
def State.abortLoad (s : State) (who : Who) : State :=
  if s.cfg.load.isSome then s.loadStops .aborted else s.cfgRefused who .command .CFG_CMD 0x11

/-- CMD STREAM_DONE (R127). -/
def State.streamDone (s : State) (who : Who) : State :=
  if s.cfg.load.any (·.src == 2) then s.sourceEnds else s.cfgRefused who .command .CFG_CMD 0x12

/-- A write to CFG.STREAM (R127). -/
def State.streamWrite (s : State) (w : Word) : State :=
  if s.cfg.load.any fun l => l.src == 2 then s.feed w
  else (s.raise F.CFG_STATUS_WINDOW_DROP 0).bump F.CFG_WINDOW_DROPS_COUNT 0 1

/-- The next word, or the end, of a load's source (R126, R143). JTAG words come through CFG_IN, which a locked port
refuses (R416). -/
def State.streamWord (s : State) (x : StreamWord) : State :=
  match s.cfg.load with
  | none => s
  | some l =>
    match x with
    | .word w =>
      if l.src = 1 ∨ (l.src = 4 ∧ s.dbg.ir = 0x11 ∧ !s.dbg.locked) then s.feed w else s
    | .store =>
      if l.src = 0 ∧ l.phase ≠ .gating then s.feed (s.nvWord (slotBase l.slot + l.offset)) else s
    | .error => if l.src < 2 then s.loadStops .sourceError else s
    | .ended => if l.src = 1 then s.sourceEnds else s

/-- The loader stands at a command word of an image for configuration memory. -/
def State.atCommand (s : State) : Bool :=
  s.cfg.load.any fun l => l.phase == .command && (l.kind == .full || (match l.kind with
    | .span _ => true
    | _ => false))

/-- Whole commands of the stream arrive where the loader awaits a command word. -/
def State.feedCommand (s : State) (ws : List Word) : State := if s.atCommand then s.feedAll ws else s

/-- A command word of the stream (R133). -/
def commandWordOf (op r n : Nat) : Word := BitVec.ofNat 32 (op * 2 ^ 28 + r * 65536 + n)

/-- A WRITE of the stream: its command word and its words. -/
def streamWrite (r : Nat) (ws : List Word) : List Word := commandWordOf 1 r ws.length :: ws

-- ------------------------------------------------------------------ START and release (R49, R149)

/-- The START event acts at tick t (R149 step 2, R280): fixed routes take effect, and the sequence of R49 begins. -/
def State.startActs (s : State) (t : DWord) : State :=
  match s.cfg.starting with
  | none => s
  | some l =>
    let rel : Release := ⟨.all, .start, t⟩
    let s := (s.gateRods fun _ => true).putCfg { s.cfg with beamMap := l.beamMap, releases := s.cfg.releases ++ [rel] }
    let s := (s.resetRegs fun r _ => r == .BEAM_ROUTE).putTbus { s.tbus with started := true }
    (l.beamMap.drop 17).foldl
      (fun s w =>
        let d := recBits w.toNat 0 6
        let s := s.setF F.BEAM_ROUTE_SRC d (recBits w.toNat 8 6)
        let s := s.setF F.BEAM_ROUTE_EN d (recBits w.toNat 16 1)
        s.setF F.BEAM_ROUTE_FIXED d 1) s

/-- A golden image's tap on a lost rod is kept unused (R280). -/
def State.tapsKept (s : State) (ws : List Word) : List Word :=
  let bad := fun k => recBits (tapOf ws k) 15 1 == 1 && s.lostRod (recBits (tapOf ws k) 0 8)
  (ws.zip (List.range ws.length)).map fun (w, i) =>
    if 1 ≤ i ∧ i ≤ 16 then
      (if bad (2 * (i - 1)) then w &&& 0xFFFF0000#32 else w) &&&
      (if bad (2 * (i - 1) + 1) then 0x0000FFFF#32 else 0xFFFFFFFF#32)
    else w

/-- Fabric NIs open where the image uses them and stay fenced elsewhere (R17, R149, R183). -/
def State.openUsed (s : State) : State :=
  let used := s.usedNis
  let alive := fun n => used.getLsbD n && !(niRods n).any s.lostRod
  let s := s.putNet { s.net with used := BitVec.ofNat 96 (packBits (List.range 96) alive) }
  s.fabricNis.foldl
    (fun s n =>
      if alive n then s.fenceReopen n s.self
      else if s.fence n < 2 then s.setFence n 2 6 s.self
      else s.setF F.NI_FENCE_STATUS_CAUSE n 6) s
where
  /-- The number whose set bits pass a test. -/
  packBits (is : List Nat) (p : Nat → Bool) : Nat := is.foldl (fun a i => if p i then a + 2 ^ i else a) 0

/-- The release tick of START (R149 step 3), with what is shown and recorded of the image (R146, R164, R384). -/
def State.startReleases (s : State) (l : Load) : State :=
  let scrub := l.scrub.getD (s.on F.CFG_STATUS_SCRUB_ON 0)
  let digest := headerDigest l.header
  let build := headerBuild l.header
  let s := s.fabricClear fun _ => true
  let s := s.putCfg { s.cfg with
    starting := none
    streamGuards := false
    beamMap := s.tapsKept s.cfg.beamMap
    spans := l.spans
    spanDigest := []
    pinIso := l.pinIso
    fullSource := some ⟨l.src, l.slot, digest⟩
    frameSource := []
    loaded := s.cfg.frames
    fullFrames := s.cfg.frames }
  let s := l.spans.foldl (fun s d => s.setF F.CFG_SPAN_STATUS_STATE d.id 1) s
  let s := s.raise F.DEV_STATUS_USER_MODE 0
  let s := s.setF F.DEV_STATUS_CONFIG_FAILED 0 0
  let s := s.queueSettings fun _ => true
  let s := s.queueStart fun _ => true
  let s := s.padsFromImage (List.range 208)
  let s := s.raise F.SEQ_GUARD_STATUS_LOCKED 0
  let s := s.openUsed
  let old := s.pair .CFG_DIGEST_LO .CFG_DIGEST_HI 0
  let s := s.setPair .CFG_DIGEST_LO .CFG_DIGEST_HI 0 digest.toNat
  let s := s.setPair .CFG_BUILD_LO .CFG_BUILD_HI 0 build.toNat
  let s := (s.setF F.CFG_LOADED_SRC 0 l.src).setF F.CFG_LOADED_SLOT 0 l.slot
  let s := s.bump F.CFG_LOADED_COUNT 0 1
  let s := s.setF F.CFG_STATUS_GOLDEN_ACTIVE 0 (if l.fromGolden then 1 else 0)
  let s := s.setF F.CFG_STATUS_SCRUB_ON 0 (if scrub then 1 else 0)
  let s := s.journal l.who.origin 0x03 (l.src + 16 * l.slot) (digestBody old digest.toNat)
  let s := if l.deadline then (s.raise F.CFG_STATUS_HOST_DEADLINE 0).journalEvent 0x40 .CFG_STATUS 0 0 else s
  s.coresStart.engineIdle

-- ------------------------------------------------------------------ FABRIC_RESET (R30, R31)

/-- A FABRIC_RESET must wait (R31, R170, R190): a load, a span operation or the pause of a roving step. -/
def State.fabricResetWaits (s : State) : Bool :=
  s.loading || s.cfg.spanOp.isSome || s.repair.step.any fun st => st.frozenAt.isSome

/-- A bead held at the tap of FTO n enters the Beam, and the tap acknowledges it (R88, R161). -/
def State.ftoRelease (s : State) (n : Nat) : State :=
  match s.latched (.fto n) with
  | some ds =>
    let outs := ((s.channelBead (.fto n) []).map (·.outs)).getD []
    (((s.unlatch (.fto n)).takeFrom (.fto n) outs).ftoBead n (ds.headD 0))
  | none => s

/-- Beads held at the trigger taps of rods that are released go on (R88, R89, R161). -/
def State.tapsRelease (s : State) (on : Nat → Bool) : State :=
  let s := ((List.range 16).filter fun n => on (tapRod (s.tapEntry n))).foldl State.ftoRelease s
  ((List.range 16).filter fun n => on (tapRod (s.tapEntry (16 + n))) && (s.ftiTap n).waiting && !(s.ftiTap n).driving).foldl
    (fun s n => s.setFti n ⟨true, false⟩) s

/-- The beads noted at a freeze are told no more once their rods run (R173, R265). -/
def State.standingEnds (s : State) : State :=
  s.putFabric { s.fabric with standing := s.fabric.standing.filter fun x => s.frozen (s.sourceRod x) }

/-- A capture ends and capture becomes IDLE (R174): stale timers go on, queues see a close that came meanwhile, the
record controller's count goes on, beads at the taps move. -/
def State.captureEnds (s : State) : State :=
  let s := s.holdStale (fun _ => true) (s.time - s.cfg.captureFrom)
  let s := s.setF F.CFG_CAP_STATUS_STATE 0 0
  let s := s.putCfg { s.cfg with stateRaw := [] }
  let s := s.standingEnds
  let free := fun rod => !s.frozen rod
  ((s.queueRelease free).tapsRelease free).drainGoesOn

/-- FABRIC_RESET acts at tick t (R30, R49, R174): a capture that is settling or frozen ends. -/
def State.fabricResetActs (s : State) (t : DWord) : State :=
  let s := s.gateRods fun _ => true
  let s := if 2 ≤ s.f F.CFG_CAP_STATUS_STATE 0 ∧ s.f F.CFG_CAP_STATUS_STATE 0 ≤ 3 then s.captureEnds else s
  let rel : Release := ⟨.all, .fabricReset, t⟩
  (s.putCfg { s.cfg with fabricResetWaiting := false, releases := s.cfg.releases ++ [rel] })

/-- A FABRIC_RESET waited, and nothing keeps it waiting (R31, R170, R190). -/
def State.resetIsDue (s : State) : Bool := s.cfg.fabricResetWaiting && !s.fabricResetWaits

/-- A FABRIC_RESET that waited acts once nothing holds it. -/
def State.fabricResetDue (s : State) : State :=
  if s.resetIsDue then s.fabricResetActs (s.later 1) else s

/-- The release of FABRIC_RESET (R30, R49, R120): stages, latches and queues of every rod. -/
def State.fabricResetReleases (s : State) : State :=
  (s.fabricClear fun _ => true).mapQueues (fun _ => true) State.queueEmpty

/-- CMD SCRUB_ON and SCRUB_OFF (R135, R152, R155): one given during a full load holds after its START, unless the image's
own comes later. -/
def State.scrubSwitch (s : State) (on : Bool) : State :=
  let mark (l : Load) : Load := if l.kind == .full then { l with scrub := some on } else l
  (s.putCfg { s.cfg with load := s.cfg.load.map mark, starting := s.cfg.starting.map mark }).setF F.CFG_STATUS_SCRUB_ON 0
    (if on then 1 else 0)

-- ------------------------------------------------------------------ boot (R147, R148)

/-- The load that boot begins once self-test has ended (R125, R148); HOLD_CFG and an unlock erase hold configuration
(R422, R424). -/
def State.bootLoad (s : State) : State :=
  let boot := fun (src slot : Nat) => { newLoad .full src slot ⟨0x40, 0xFF⟩ with boot := true }
  if s.on F.DBG_CTRL_HOLD_CFG 0 || s.dbg.erasing then
    (s.putDbg { s.dbg with waiting := true }).setF F.CFG_STATUS_STATE 0 6
  else
  match s.dev.bootSrc.toNat with
  | 0 => s.loadBegin (boot 0 s.cfg.header.bootSlot)
  | 1 => s.loadBegin (boot 1 0)
  | _ => (s.putCfg { s.cfg with bootWaiting := true }).setF F.CFG_STATUS_STATE 0 6

/-- HOST_DEADLINE: no host or JTAG load has begun by HOST_DEADLINE and slot 0 is loaded (R148); its bit is set once it
runs. -/
def State.hostDeadline (s : State) : State :=
  if !s.cfg.bootWaiting || s.cfg.header.hostDeadline == 0 || s.loading then s
  else
    let s := s.advanceTo (s.cfg.deadlineFrom + BitVec.ofNat 64 (s.cfg.header.hostDeadline * 1500000000))
    (s.putCfg { s.cfg with bootWaiting := false }).goldenLoad false true ⟨0x40, 0xFF⟩

end Sys2Proof.Machine
end

