-- ==== Sys2Proof/Machine/Spans.lean ====
section
/-! DEFINITION. Spans (R157 to R170): span operations, isolation, partial loads, release, the ICP; the scrubber (R155,
R156). -/

namespace Sys2Proof.Machine

-- ------------------------------------------------------------------ sources (R156)

/-- A frame source may still be reloaded from (R156): a slot whose DIGEST is the recorded one; external flash as same
says; never host or JTAG. -/
def State.sourceGood (s : State) (x : FrameSource) (same : Bool) : Bool :=
  match x.src with
  | 0 =>
    let base := slotBase x.slot
    s.nvWord base == 0x48454F4C && s.nvWord (base + 0x2C) ++ s.nvWord (base + 0x28) == x.digest
  | 1 => same
  | _ => false

/-- The source of a frame (R156). -/
def State.sourceOf (s : State) (rod frame : Nat) : Option FrameSource :=
  match s.cfg.frameSource.find? (·.1 == frameKey rod frame) with
  | some (_, x) => some x
  | none => s.cfg.fullSource

-- ------------------------------------------------------------------ span operations (R164)

/-- The declaration of a span. -/
def State.spanDecl (s : State) (n : Nat) : Option SpanDecl := s.cfg.spans.find? (·.id == n)

/-- The state with a span's STATE. -/
def State.setSpan (s : State) (n v : Nat) : State := s.setF F.CFG_SPAN_STATUS_STATE n v

/-- A span operation ends. -/
def State.spanOpEnds (s : State) : State := s.putCfg { s.cfg with spanOp := none }

/-- A span operation that has ended is answered, when it was the ICP's (R168). -/
def State.spanOpTold (s : State) (o : SpanOp) : State := if o.icp then s.icpEnds 0 o.span false else s

/-- A span request is refused (R164). -/
def State.spanRefused (s : State) (who : Who) (data : Word) (icp : Bool) : State :=
  let n := recBits data.toNat 8 4
  let s := s.raise F.CFG_SPAN_STATUS_REFUSED n
  let s := s.cfgRefused who .command .CFG_SPAN_CMD data.toNat
  if icp then s.icpEnds 0 n true else s

/-- A roving step runs on a rod of a span. -/
def State.stepOn (s : State) (d : SpanDecl) : Bool := s.repair.step.any fun st => d.rods.getLsbD st.logical && st.moving

/-- The FPD regions of a span's rods are on. -/
def State.spanPowered (s : State) (d : SpanDecl) : Bool :=
  (List.range (Part.rods s.part)).all fun r => !d.rods.getLsbD r || (s.word .PWR_REGION_STATUS 0).getLsbD (r / 32)

/-- Frames 0 to 959 of a span's rods are rewritten from the source of the last full load (R167), in the order of FAR;
frames that hold nothing now and then are passed over. A frame that would enable a second driver of a segment is refused,
and ends the rewriting (R76, R77): the answer says whether it went through. -/
def State.spanRewrite (s : State) (d : SpanDecl) : State × Bool :=
  let mine (k : Nat) : Bool := d.rods.getLsbD (k / 1024)
  let keys := (((s.cfg.fullFrames ++ s.cfg.frames).map (·.1)).filter mine).foldl (fun acc k => insertRod k acc) []
  let (s, whole) := keys.foldl
    (fun (acc : State × Bool) k =>
      if acc.2 then
        let v := Sparse.get 0 acc.1.cfg.fullFrames k
        match acc.1.frameDriven (k / 1024) (k % 1024) v with
        | some s => (s, false)
        | none => (acc.1.writeFrame (k / 1024) (k % 1024) v, true)
      else acc) (s, true)
  if whole then
    ((s.putCfg { s.cfg with
        frameSource := s.cfg.frameSource.filter fun kv => !mine kv.1
        badFrames := s.cfg.badFrames.filter fun k => !mine k
        spanDigest := Sparse.erase s.cfg.spanDigest d.id }).putMem { s.mem with
        poisoned := s.mem.poisoned.filter fun k => !mine (1024 * (k / 16384))
        onceCorrected := s.mem.onceCorrected.filter fun kv => !mine (1024 * (kv.1 / 16384)) }, true)
  else (s, false)

/-- External flash still holds the image a load came from, where no command says so: a free value (R156, assumption 20). -/
def State.flashSame (s : State) : Bool × State := ((Config.freeWord s.fresh).getLsbD 0, s.putFresh (s.fresh + 1))

/-- A FABRIC_RESET is in progress: it takes up the reset of a span (R31). -/
def State.resetAbsorbs (s : State) : Bool := s.cfg.releases.any fun r => r.cause == .fabricReset

/-- A span operation that is allowed begins (R164, R166, R167). -/
def State.spanBegin (s : State) (who : Who) (d : SpanDecl) (op : Nat) (icp same : Bool) (data : Word) : State :=
  let n := d.id
  let st := s.spanState n
  let begun := fun (s : State) =>
    let o : SpanOp := ⟨n, op, who, icp, 0⟩
    let s := if icp then s.raise F.CFG_ICP_STATUS_BUSY 0 else s
    (s.putCfg { s.cfg with spanOp := some o })
  match op with
  | 1 =>
    let src := if icp then 7 else s.f F.CFG_LOAD_CTRL_SRC 0
    if (st = 1 ∨ st = 3 ∨ st = 5) ∧ (icp ∨ src = 0 ∨ src = 2 ∨ src = 4 ∨ (src = 3 ∧ s.fetchAddrGood)) then
      (begun s).loadBegin
        { newLoad (.span n) src (if src = 0 then s.f F.CFG_LOAD_CTRL_SLOT 0 else 0) who with icp := icp }
    else s.spanRefused who data icp
  | 2 => if st = 1 then (((begun s).spanEntry who n 2 0).setSpan n 2).spanDrain d who else s.spanRefused who data icp
  | 3 => if st = 3 then ((begun s).spanEntry who n 3 0).setSpan n 6 else s.spanRefused who data icp
  | 4 =>
    let rel : Release := ⟨.span n, .spanReset, s.later 1⟩
    let gate := fun (s : State) =>
      (s.gateRods fun r => d.rods.getLsbD r).putCfg { s.cfg with releases := s.cfg.releases ++ [rel] }
    if st = 1 ∨ st = 3 then
      (if s.resetAbsorbs then
        let s := s.spanEntry who n 4 0
        if icp then s.icpEnds 0 n false else s
       else gate ((begun s).spanEntry who n 4 0))
    else if st = 5 ∧ s.cfg.fullSource.any (s.sourceGood · same) then
      (match s.spanRewrite d with
       | (s, true) => gate ((begun s).spanEntry who n 4 0)
       | (s, false) => s.spanRefused who data icp)
    else s.spanRefused who data icp
  | _ => s.spanRefused who data icp

/-- A request by SPAN_CMD or the ICP (R164, R168 to R170): refused, parked behind a roving step on the span's rods, or
begun. -/
def State.spanRequest (s : State) (who : Who) (data : Word) (icp same : Bool) : State :=
  let n := recBits data.toNat 8 4
  let op := recBits data.toNat 0 3
  match s.spanDecl n with
  | none => s.spanRefused who data icp
  | some d =>
    if s.configBarred || s.f F.CFG_CAP_STATUS_STATE 0 != 0 || !s.spanPowered d || op == 0 || decide (4 < op) then
      s.spanRefused who data icp
    else if s.stepOn d then s.putCfg { s.cfg with spanWaiting := some (data, who, icp) }
    else s.spanBegin who d op icp same data

/-- A span request that waited for a roving step begins (R170). -/
def State.spanResume (s : State) : State :=
  match s.cfg.spanWaiting with
  | none => s
  | some (data, who, icp) =>
    let (same, s) := s.flashSame
    (s.putCfg { s.cfg with spanWaiting := none }).spanRequest who data icp same

/-- SPAN_CMD of an operation and a span. -/
def spanCmdOf (op n : Nat) : Word := BitVec.ofNat 32 (op + 256 * (n % 16))

-- ------------------------------------------------------------------ isolation (R161, R162)

/-- The NIs of a span. -/
def spanNis (d : SpanDecl) : List Nat := (List.range 0x60).filter fun n => d.nis.getLsbD n

/-- At t1 the boundary takes up the beads that outbound tracks offer outside, and the beads that stations of the span drive
are noted (R161, R173). -/
def State.boundaryOffers (s : State) (d : SpanDecl) : State :=
  let on := fun r => d.rods.getLsbD r
  let s := s.noteStanding on
  let out := (s.drivingOutputs on).filter fun x => s.leavesSpan s.routeBound (s.originOf x.1) d
  s.putFabric { s.fabric with offered := s.fabric.offered.filter (fun x => !on (s.sourceRod x.1)) ++ out }

/-- The span is isolated at t1 (R161). -/
def State.isolate (s : State) (n : Nat) : State :=
  match s.spanDecl n with
  | none => s
  | some d =>
    if s.spanState n != 2 || !s.niClosed (spanNis d) then s
    else
      let pins := (List.range 192).filter fun p => d.pins.getLsbD p
      let s := (s.holdPads pins).boundaryOffers d
      let load := s.cfg.load.any fun l => l.kind == .span n
      let s := s.setSpan n (if load then 4 else 3)
      let s := s.putCfg { s.cfg with spanSettling := insertRod n s.cfg.spanSettling }
      let taps := (List.range 16).filter fun k => d.rods.getLsbD (tapRod (s.tapEntry (16 + k)))
      let s := taps.foldl (fun s k => s.setFti k ⟨false, false⟩) s
      if load then s
      else
        match s.cfg.spanOp with
        | some o => s.spanOpEnds.spanOpTold o
        | none => s

/-- SPAN_DRAIN.US elapses (R162). -/
def State.spanDrainTimeout (s : State) (n : Nat) : State :=
  match s.spanDecl n with
  | none => s
  | some d => if s.spanState n != 2 then s else (spanNis d).foldl State.drainLimit s

/-- Every rod of an isolated span reports settled (R161, R166 step 4): its stages gate, and a load's frames may come. -/
def State.spanSettled (s : State) (n : Nat) : State :=
  if !s.cfg.spanSettling.contains n then s
  else
    let s := s.putCfg { s.cfg with spanSettling := s.cfg.spanSettling.filter (· != n) }
    match s.cfg.load with
    | some l =>
      if l.kind == .span n && l.phase == .gating then
        (s.setLoad (some { l with phase := .command, ahead := [] })).feedAll l.ahead
      else s
    | none => s

-- ------------------------------------------------------------------ release (R164, R166)

/-- The release Beam tick of a span (R166 step 6): after a load, initial states, empty queues, image pins and the NIs
that the image now uses; otherwise gates open with what the span holds. -/
def State.spanReleaseTick (s : State) (n : Nat) : State :=
  match s.spanDecl n with
  | none => s
  | some d =>
    if s.spanState n != 6 || s.cfg.spanReleased.contains n then s
    else
      let on := fun r => d.rods.getLsbD r
      let load := s.cfg.spanOp.any fun o => o.span == n && o.op == 1
      let s := if load then ((s.gateRods on).fabricClear on).queueSettings on |>.queueStart on else s
      let s := s.putFabric { s.fabric with
        offered := s.fabric.offered.filter (fun x => !on (s.sourceRod x.1))
        standing := s.fabric.standing.filter fun x => !on (s.sourceRod x) }
      let s := s.putCfg { s.cfg with
        spanReleased := insertRod n s.cfg.spanReleased
        spanSettling := s.cfg.spanSettling.filter (· != n) }
      let pins := (List.range 192).filter fun p => d.pins.getLsbD p
      let s := if load then s.padsFromImage pins else s
      let s := if load then
          s.putNet { s.net with used := (s.net.used &&& ~~~d.nis) ||| (s.usedNis &&& d.nis) } else s
      let s := (spanNis d).foldl (fun s k => if s.net.used.getLsbD k && !(niRods k).any s.lostRod then s.fenceReopen k s.self else s) s
      if load then s else (s.queueRelease on).tapsRelease on

/-- All span rods report after the release (R166 step 7). -/
def State.spanRunning (s : State) (n : Nat) : State :=
  if s.spanState n != 6 || !s.cfg.spanReleased.contains n then s
  else
    let s := s.putCfg { s.cfg with spanReleased := s.cfg.spanReleased.filter (· != n) }
    let s := (s.setSpan n 1).queuesRunAgain n
    match s.cfg.spanOp with
    | none => s
    | some o =>
      let s := if o.op = 1 then
          let s := (s.bump F.CFG_SPAN_STATUS_LOADS n 1).spanEntry o.who n 5 o.newDigest
          (s.putCfg { s.cfg with spanDigest := Sparse.insert s.cfg.spanDigest n o.newDigest })
        else s
      (s.spanOpEnds.spanOpTold o).fabricResetDue

/-- The release of a span reset (R49, R120, R164): stages, latches and queues of its rods; a span that was INCOMPLETE
becomes ISOLATED. -/
def State.spanResetReleases (s : State) (n : Nat) : State :=
  match s.spanDecl n with
  | none => s
  | some d =>
    let on := fun r => d.rods.getLsbD r
    let s := (s.fabricClear on).mapQueues on State.queueEmpty
    let s := if s.spanState n = 5 then s.setSpan n 3 else s
    match s.cfg.spanOp with
    | some o => (s.spanOpEnds.spanOpTold o).fabricResetDue
    | none => s

-- ------------------------------------------------------------------ the ICP (R168)

/-- User logic on logical rod 0 reaches the ICP. -/
def State.icpLive (s : State) : Bool := s.on F.DEV_STATUS_USER_MODE 0 && !s.gated 0 && !s.frozen 0

/-- What an ICP_CMD bead asks for (R168): one ICP_R bead follows. -/
def State.icpCmd (s : State) (bead : BitVec 16) : State :=
  let data := BitVec.ofNat 32 (bead.toNat % 8 + bead.toNat / 256 % 16 * 256)
  if bead.toNat &&& 0xF0F8 != 0 then s.spanRefused ⟨0x20, 0xFF⟩ (bead.setWidth 32) true
  else
    let (same, s) := s.flashSame
    s.spanRequest ⟨0x20, 0xFF⟩ data true same

/-- What an ICP_D bead brings (R168). -/
def State.icpData (s : State) (w : Word) : State :=
  if s.cfg.load.any (·.icp) then s.feed w
  else (s.raise F.CFG_ICP_STATUS_DROP 0).bump F.CFG_ICP_STATUS_DROPS 0 1

/-- ICP_R takes another bead: those that wait and those of operations under way leave room (R264). -/
def State.icpRoom (s : State) : Bool :=
  decide (s.cfg.icpResults.length + (if s.cfg.spanOp.any (·.icp) then 1 else 0) +
    (if s.cfg.spanWaiting.any (·.2.2) then 1 else 0) < edgeDepth)

/-- A complete bead on ICP_CMD is acknowledged (R168, R264): while there is no room for its answer it waits. -/
def State.icpCommandBead (s : State) (upset : Upset) : State :=
  s.withBeads [(.icpCommand, upset)] fun xs s =>
    if s.icpRoom then xs.head?.map fun x => s.icpCmd (BitVec.ofNat 16 x.num) else none

/-- A complete bead on ICP_D is acknowledged (R168). -/
def State.icpDataBead (s : State) (upset : Upset) : State :=
  s.withBeads [(.icpData, upset)] fun xs s => xs.head?.map fun x => s.icpData (BitVec.ofNat 32 x.num)

-- ------------------------------------------------------------------ the scrubber (R155, R156)

/-- The frame after another in the scrubber's order: frames 0 to 639, then 928 to 959, of each rod; none at the end of a
pass. -/
def nextScrub (rods rod frame : Nat) : Option (Nat × Nat) :=
  if frame < 639 then some (rod, frame + 1)
  else if frame = 639 then some (rod, 928)
  else if frame < 959 then some (rod, frame + 1)
  else if rod + 1 < rods then some (rod + 1, 0)
  else none

/-- The scrubber skips a rod: its span is being loaded, a roving step copies it, or it has no physical home (R166, R186,
R183). -/
def State.scrubSkips (s : State) (rod : Nat) : Bool :=
  (s.spanOf rod).any (fun d => s.spanState d.id == 4) || s.movingRod rod || s.lostRod rod ||
  !(s.word .PWR_REGION_STATUS 0).getLsbD (rod / 32)

/-- A double-bit error of a frame (R155, R156, R184): reloaded from its source, or left as read. -/
def State.frameDouble (s : State) (rod frame : Nat) (flip : BitVec 4096) (same : Bool) : State :=
  let far := 65536 * rod + frame
  let s := s.raise F.CFG_STATUS_FRAME_ERR 0
  let s := s.bump F.CFG_SCRUB_STAT_DOUBLE 0 1
  let s := (s.setF F.CFG_SCRUB_LAST_FAR 0 far).setF F.CFG_SCRUB_LAST_LOST 0 0
  let s := match s.physOf rod with
    | some k =>
      if s.repair.doubleBit.contains (k, frame) then s.wearFault k
      else s.putRepair { s.repair with doubleBit := s.repair.doubleBit ++ [(k, frame)] }
    | none => s
  if (s.sourceOf rod frame).any (s.sourceGood · same) then
    s.writeFrame rod frame (Sparse.get 0 s.cfg.loaded (frameKey rod frame))
  else
    let s := s.setFrame rod frame (s.frame rod frame ^^^ flip)
    let s := s.putCfg { s.cfg with badFrames := insertRod (frameKey rod frame) s.cfg.badFrames }
    let s := (s.raise F.CFG_STATUS_FRAME_LOST 0).setF F.CFG_SCRUB_LAST_LOST 0 1
    s.journalEvent s.ownOrigin .CFG_STATUS 0 far

/-- What the check of a frame finds is corrected, or the frame reloaded (R155). -/
def State.frameFound (s : State) (rod frame : Nat) (x : FrameFinding) : State :=
  if s.scrubSkips rod then s
  else
    match x with
    | .clean => s
    | .single => (s.bump F.CFG_SCRUB_STAT_CORRECTED 0 1).countRod rod false
    | .double flip same => s.frameDouble rod frame flip same

/-- The scrubber is at work: scrubbing is on and no full load runs (R152, R155). -/
def State.scrubs (s : State) : Bool :=
  s.on F.CFG_STATUS_SCRUB_ON 0 && !s.cfg.load.any (·.kind == .full) && s.cfg.starting.isNone

/-- The next frame of a contention's rods is scrubbed, ahead of the order (R79). -/
def State.scrubAhead (s : State) (rod frame : Nat) (x : FrameFinding) : State :=
  let s := s.frameFound rod frame x
  s.putCfg { s.cfg with
    scrubFirst := match nextScrub (Part.rods s.part) rod frame with
      | some (r, f) => if r = rod then (rod, f) :: s.cfg.scrubFirst.tail else s.cfg.scrubFirst.tail
      | none => s.cfg.scrubFirst.tail }

/-- One frame is scrubbed (R79, R155): one of a contention's rods, or after one INTERVAL the next in order. -/
def State.frameScrub (s : State) (x : FrameFinding) : State :=
  match s.cfg.scrubFirst with
  | (rod, frame) :: _ => s.scrubAhead rod frame x
  | [] =>
    if !s.scrubs then s
    else
      let s := s.pass (max 0x100 (s.f F.CFG_SCRUB_CTRL_INTERVAL 0))
      let rod := s.cfg.scrubRod
      let frame := s.cfg.scrubFrame
      let s := s.frameFound rod frame x
      match nextScrub (Part.rods s.part) rod frame with
      | some (r, f) => s.putCfg { s.cfg with scrubRod := r, scrubFrame := f }
      | none => (s.putCfg { s.cfg with scrubRod := 0, scrubFrame := 0 }).count F.CFG_SCRUB_PASSES_COUNT 0

/-- The routing frame that holds the driver point of a segment. -/
def driverFrame (seg : Nat) : Nat := 480 + (6784 * (seg % 128) + 5248 + 9 * (seg / 128 % 8)) / 4096

/-- The scrub of a contention's rods ends (R79): x is what it finds in the frames of the driver points that the table does
not enable. Once they are corrected or reloaded the guard grants the remaining driver; it keeps masking while a frame could
not be reloaded, or nothing was found. -/
def State.contentionScrubbed (s : State) (seg : Nat) (x : FrameFinding) : State :=
  match s.fabric.contentions.find? (·.seg == seg) with
  | none => s
  | some c =>
    let frame := driverFrame seg
    let extra := c.rods.filter fun r => Sparse.get 0 s.cfg.drivers seg != r + 1
    let s := extra.foldl (fun s rod => s.frameFound rod frame x) s
    let s := s.putCfg { s.cfg with scrubFirst := s.cfg.scrubFirst.filter fun r => !c.rods.contains r.1 }
    let mended := x != .clean && extra.all fun rod => !s.cfg.badFrames.contains (frameKey rod frame)
    if mended then s.contentionOver seg else s

end Sys2Proof.Machine
end

