-- ==== Sys2Proof/Machine/Capture.lean ====
section
/-! DEFINITION. Capture (R173, R174), state frames (R175), readback and restore (R171, R172, R176). -/

namespace Sys2Proof.Machine

-- ------------------------------------------------------------------ FREEZE and THAW (R173, R174)

/-- The state of capture: 0 IDLE, 1 ARMED, 2 SETTLING, 3 FROZEN, 4 THAWING. -/
def State.capState (s : State) : Nat := s.f F.CFG_CAP_STATUS_STATE 0

/-- The state with capture in another state. -/
def State.setCap (s : State) (v : Nat) : State := s.setF F.CFG_CAP_STATUS_STATE 0 v

/-- CAP_TIME. -/
def State.capTime (s : State) : Nat := s.pair .CFG_CAP_TIME_LO .CFG_CAP_TIME_HI 0

/-- A full load, a partial load or a span operation runs, or power of the fabric changes: FREEZE is refused (R152, R174,
R405). -/
def State.freezeBarred (s : State) : Bool :=
  s.cfg.load.any (fun l => match l.kind with
    | .full | .span _ => true
    | _ => false) ||
  s.cfg.starting.isSome || s.cfg.spanOp.isSome || s.cfg.spanWaiting.isSome || s.fpdChanging

/-- CMD FREEZE (R173, R174). -/
def State.freezeCommand (s : State) (who : Who) : State :=
  let mode := s.f F.CFG_CAP_CTRL_MODE 0
  let refuse := s.cfgRefused who .command .CFG_CMD 0x03
  if s.capState != 0 || s.freezeBarred || mode == 3 then refuse
  else if mode = 1 ∧ s.capTime < s.now.toNat + 16 then refuse.raise F.CFG_CAP_STATUS_LATE 0
  else
    let s := s.setCap 1
    let s := s.putCfg { s.cfg with freezeArmed := mode == 2, captureFrom := s.time }
    if mode = 0 then s.enterNext (.direct 34) else s

/-- TIME reaches CAP_TIME − 9 (R173): an armed AT_TIME capture enters its FREEZE event. -/
def State.capTimeReached (s : State) : State :=
  if s.capState != 1 || s.f F.CFG_CAP_CTRL_MODE 0 != 1 || s.beam.flight.any (fun e => e.origin == .direct 34) then s
  else
    let s := s.advanceNow (s.capTime - 9)
    s.enterBeam (.direct 34) s.time

/-- FREEZE acts on tick t (R113, R173, R174, R287): every stage withholds, stale timers have stood still since the capture
was armed, and the record drain's count holds. -/
def State.freezeActs (s : State) (t : DWord) : State :=
  let s := if s.capState = 1 then s.holdStale (fun _ => true) (t - s.cfg.captureFrom) else s
  let s := (s.noteStanding fun _ => true).setCap 2
  let at' := (t + s.timeOffset).toNat
  let s := s.setPair .CFG_CAP_AT_LO .CFG_CAP_AT_HI 0 at'
  let s := s.count F.CFG_CAP_STATUS_CAP_SEQ 0
  let s := s.putCfg { s.cfg with freezeArmed := false, captureFrom := t, stateRaw := [] }
  s.drainHold

/-- An event acts at destination 34 (R173, R277): the loader's own FREEZE event on an armed capture, or a routed event
on one armed in EVENT mode. -/
def State.freezeEvent (s : State) (t : DWord) (direct : Bool) : State :=
  if s.capState = 1 ∧ (direct ∨ s.cfg.freezeArmed) then s.freezeActs t else s

/-- Every rod reports settled (R174): FROZEN, no earlier than T + 16; the CFG group is pending while it lasts (assumption
98). -/
def State.captureSettled (s : State) : State :=
  if s.capState != 2 then s else (s.advanceTo (s.cfg.captureFrom + 16)).setCap 3

/-- CMD THAW (R174). -/
def State.thawCommand (s : State) (who : Who) : State :=
  match s.capState with
  | 1 =>
    let s := (s.holdStale (fun _ => true) (s.time - s.cfg.captureFrom)).setCap 0
    ((s.putCfg { s.cfg with freezeArmed := false }).putBeam { s.beam with flight := s.beam.flight.filter fun e => e.origin != .direct 34 })
  | 3 => s.setCap 4
  | _ => s.cfgRefused who .command .CFG_CMD 0x04

-- ------------------------------------------------------------------ stages as 3-bit codes (R175)

/-- The code of a holding stage or latch: 0b000, or 0b1vv. -/
def digitCode : Option Digit → Nat
  | none => 0
  | some v => 4 + v.toNat

/-- A legal code as a stage's content; none for a reserved code. -/
def codeDigit (c : Nat) : Option (Option Digit) :=
  if c = 0 then some none else if 4 ≤ c ∧ c < 8 then some (some (BitVec.ofNat 2 c)) else none

/-- Cell i of a rod in the order of the LC records. -/
def cellAt (rod i : Nat) : CellId := ⟨rod, i / 128, i % 128⟩

/-- The code of cell i in the holding-stage frames, or in the latch frames. -/
def State.cellCode (s : State) (rod i : Nat) (latch : Bool) : Nat :=
  let c := cellAt rod i
  if s.hasStage c then digitCode (if latch then (s.stage c).held else (s.stage c).full) else 0

/-- The cells whose codes touch 4096-bit frame j of nine: the first, and how many. -/
def cellsOfFrame (j : Nat) : Nat × Nat := (4096 * j / 3, (4096 * j + 4095) / 3 + 1 - 4096 * j / 3)

/-- State frame j of nine of stages or latches. -/
def State.stageFrame (s : State) (rod j : Nat) (latch : Bool) : BitVec 4096 :=
  let (first, n) := cellsOfFrame j
  let all := (List.range n).foldl (fun a i => a + s.cellCode rod (first + i) latch * 2 ^ (3 * i)) 0
  BitVec.ofNat 4096 (all / 2 ^ (4096 * j - 3 * first))

/-- Bits of a rod's state frames in this freeze: as restored, where they were restored. -/
def State.rawCode (s : State) (rod base i : Nat) (latch : Bool) (j : Nat) (v : BitVec 4096) : Option Nat :=
  let old := s.cellCode rod i latch
  let bit := fun (b : Nat) =>
    let k := (3 * i + b) / 4096
    if k = j then some (frameBits v ((3 * i + b) % 4096) 1)
    else (s.cfg.stateRaw.find? (·.1 == 32 * rod + base + k)).map fun kv => kv.2 / 2 ^ ((3 * i + b) % 4096) % 2
  match bit 0, bit 1, bit 2 with
  | some a, some b, some c => some (a + 2 * b + 4 * c)
  | a, b, c =>
    let code := a.getD (old % 2) + 2 * b.getD (old / 2 % 2) + 4 * c.getD (old / 4)
    if (codeDigit code).isSome then some code else none

/-- A restored stage or latch frame holds a reserved code (R176). -/
def State.stageFrameBad (s : State) (rod base j : Nat) (latch : Bool) (v : BitVec 4096) : Bool :=
  let (first, n) := cellsOfFrame j
  (List.range n).any fun i =>
    match s.rawCode rod base (first + i) latch j v with
    | some c => (codeDigit c).isNone
    | none => false

/-- A stage or latch frame is restored. -/
def State.restoreStages (s : State) (rod base j : Nat) (latch : Bool) (v : BitVec 4096) : State :=
  let (first, n) := cellsOfFrame j
  let s' := (List.range n).foldl
    (fun (t : State) i =>
      match s.rawCode rod base (first + i) latch j v with
      | some code =>
        let c := cellAt rod (first + i)
        match codeDigit code with
        | some d =>
          if s.hasStage c then
            t.setStage c (if latch then { t.stage c with held := d } else { t.stage c with full := d })
          else t
        | none => t
      | none => t) s
  { s' with cfg := { s'.cfg with stateRaw := Sparse.insert s'.cfg.stateRaw (32 * rod + base + j) v.toNat } }

-- ------------------------------------------------------------------ opaque state frames (R175)

/-- Entries of a map that belong to unit numbers lo to lo + n - 1, numbered from 0. -/
def cellsFrom {α : Type} (c : Cells α) (lo n : Nat) : Cells α :=
  (c.filter fun kv => decide (lo ≤ kv.1 ∧ kv.1 < lo + n)).map fun kv => (kv.1 - lo, kv.2)

/-- A map in which those entries are replaced. -/
def cellsTo {α : Type} (c new : Cells α) (lo n : Nat) : Cells α :=
  new.foldl (fun c kv => if kv.1 < n then Sparse.insert c (lo + kv.1) kv.2 else c)
    (c.filter fun kv => !decide (lo ≤ kv.1 ∧ kv.1 < lo + n))

/-- The state frame that holds the arrival latch of an input (R175); none for cells, whose latches frames 9 to 17 hold, and
for requests of arbitration cells, which have none. -/
def latchFrame : BeadSink → Option Nat
  | .cell _ | .request .. => none
  | .reckoner _ k _ => some (18 + k / 8)
  | .queueData _ | .queueControl _ | .queueFlush _ => some 21
  | .memReq .. | .memData .. => some 22
  | .pin _ | .fto _ | .niChannel .. | .icpCommand | .icpData => some 23

/-- The units of a rod that state frame 23 holds: its pins, its trigger inputs, its fabric NIs. -/
def State.rodPins (s : State) (rod : Nat) : List Nat := (List.range 192).filter fun p => homeRod s.part p == rod
def State.rodTaps (s : State) (rod : Nat) : List Nat := (List.range 16).filter fun n => tapRod (s.tapEntry (16 + n)) == rod
def rodNis (rod : Nat) : List Nat := if rod % 8 = 3 then (List.range 3).map fun b => 32 * b + rod / 8 else []

/-- The entries of a map at listed keys. -/
def pickCells {α : Type} (c : Cells α) (ks : List Nat) : Cells α := c.filter fun kv => ks.contains kv.1

/-- A map in which the entries at listed keys are replaced. -/
def swapCells {α : Type} (c new : Cells α) (ks : List Nat) : Cells α :=
  (new.filter fun kv => ks.contains kv.1).foldl (fun c kv => Sparse.insert c kv.1 kv.2)
    (c.filter fun kv => !ks.contains kv.1)

/-- A stale timer as the ticks it has run when the capture acts, and back (R113, R175). -/
def State.staleTurned (s : State) (q : Queue) : Queue := { q with staleFrom := s.cfg.captureFrom - q.staleFrom }

/-- What a state frame of a rod holds where its layout is opaque (R175). -/
def State.frameContent (s : State) (rod frame : Nat) : FrameContent :=
  let f := s.fabric
  let on {α : Type} (b : Bool) (c : Cells α) : Cells α := if b then c else []
  { reckoners := on (decide (frame ≤ 20))
      ((cellsFrom f.reckoners (24 * rod + 8 * (frame - 18)) 8).map fun kv => (kv.1, { kv.2 with acc := 0 }))
    queues := on (frame == 21) ((cellsFrom s.mem.queues (8 * rod) 8).map fun kv => (kv.1, s.staleTurned kv.2))
    reads := on (frame == 22) (cellsFrom s.mem.reads (64 * rod) 64)
    statuses := on (frame == 22) (cellsFrom s.mem.statuses (64 * rod) 64)
    stations := on (frame == 23) (pickCells f.stations (s.rodPins rod))
    taps := on (frame == 23) (pickCells f.taps (s.rodTaps rod))
    edges := on (frame == 23) ((pickCells s.net.nis (rodNis rod)).map fun kv => (kv.1, kv.2.edge))
    latches := f.latches.filter fun l => s.sinkRod l.sink == rod && latchFrame l.sink == some frame }

/-- The handshakes of a rod's channels start afresh: a restored output drives its bead anew. -/
def State.handshakesEnd (s : State) (rod : Nat) : State :=
  let mine (x : BeadSource) : Bool := s.sourceRod x == rod
  s.putFabric { s.fabric with
    takings := (s.fabric.takings.filter fun t => s.sinkRod t.sink != rod).filterMap fun t =>
      let wait := t.wait.filter fun x => !mine x
      if wait.isEmpty then none else some { t with wait := wait, gone := t.gone.filter fun x => !mine x }
    spent := s.fabric.spent.filter fun x => !mine x }

/-- The content of an opaque state frame of a rod is replaced (R176). -/
def State.putContent (s : State) (rod frame : Nat) (o : FrameContent) : State :=
  let f := s.fabric
  let s := s.putFabric { f with
    latches := (f.latches.filter fun l => !(s.sinkRod l.sink == rod && latchFrame l.sink == some frame)) ++
      o.latches.filter fun l => s.sinkRod l.sink == rod && latchFrame l.sink == some frame }
  let f := s.fabric
  match frame with
  | 21 => s.putMem { s.mem with
      queues := cellsTo s.mem.queues (o.queues.map fun kv => (kv.1, s.staleTurned kv.2)) (8 * rod) 8 }
  | 22 => s.putMem { s.mem with
      reads := cellsTo s.mem.reads o.reads (64 * rod) 64
      statuses := cellsTo s.mem.statuses o.statuses (64 * rod) 64 }
  | 23 =>
    let s := s.putFabric { f with
      stations := swapCells f.stations o.stations (s.rodPins rod)
      taps := swapCells f.taps o.taps (s.rodTaps rod) }
    (o.edges.filter fun kv => (rodNis rod).contains kv.1).foldl (fun s kv => s.setEdge kv.1 kv.2) s
  | _ => s.putFabric { f with reckoners := cellsTo f.reckoners o.reckoners (24 * rod + 8 * (frame - 18)) 8 }

/-- A frame's bits with the low 64 bits of each of its eight reckoners replaced by its ACC (R175). -/
def withAcc (v : BitVec 4096) (acc : Nat → DWord) : BitVec 4096 :=
  BitVec.ofNat 4096 ((List.range 8).foldl
    (fun n k =>
      let lo := 512 * k
      n - n / 2 ^ lo % 2 ^ 64 * 2 ^ lo + (acc k).toNat * 2 ^ lo) v.toNat)

/-- A state frame's bits without what its given layout places. -/
def opaqueBits (frame : Nat) (v : BitVec 4096) : BitVec 4096 := if frame ≤ 20 then withAcc v fun _ => 0 else v

/-- A state frame's data (R175): given layouts as they lay down; other bits are a free value of what the frame holds. -/
def State.stateFrame (s : State) (rod frame : Nat) : BitVec 4096 × State :=
  if frame < 9 then (s.stageFrame rod frame false, s)
  else if frame < 18 then (s.stageFrame rod (frame - 9) true, s)
  else
    let content := s.frameContent rod frame
    let bits := opaqueBits frame (Config.stateImage frame content)
    let s := s.putCfg { s.cfg with opaqueSeen := ⟨frame, bits, content⟩ :: s.cfg.opaqueSeen }
    (if frame ≤ 20 then withAcc bits fun k => (s.reckoner rod (8 * (frame - 18) + k)).acc else bits, s)

/-- What the data of an opaque state frame stands for (R176): what it was read from, or, where no readback gave it, what
the opaque layout makes of it. -/
def State.contentOf (s : State) (frame : Nat) (v : BitVec 4096) : FrameContent :=
  match s.cfg.opaqueSeen.find? fun o => o.frame == frame && o.bits == opaqueBits frame v with
  | some o => o.content
  | none => Config.stateContent frame v

/-- A state frame is restored from a record's data (R176). -/
def State.restoreState (s : State) (rod frame : Nat) (v : BitVec 4096) : State :=
  if frame < 9 then (s.restoreStages rod 0 frame false v).handshakesEnd rod
  else if frame < 18 then s.restoreStages rod 9 (frame - 9) true v
  else
    let s := (s.putContent rod frame (s.contentOf frame v)).handshakesEnd rod
    if frame ≤ 20 then
      (List.range 8).foldl
        (fun s k =>
          let i := 8 * (frame - 18) + k
          s.setReckoner rod i { s.reckoner rod i with acc := BitVec.ofNat 64 (frameBits v (512 * k) 64) }) s
    else s

/-- n free words. -/
def State.freeWords : Nat → State → List Word × State
  | 0, s => ([], s)
  | n + 1, s =>
    let (w, s) := s.freeWord
    let (ws, s) := State.freeWords n s
    (w :: ws, s)

-- ------------------------------------------------------------------ records (R171)

/-- The words of a frame's data. -/
def frameWords (v : BitVec 4096) : List Word := (List.range 128).map fun i => BitVec.ofNat 32 (frameBits v (32 * i) 32)

/-- RB_FAR of a frame. -/
def farWord (far : Nat) (st : Bool) : Word := BitVec.ofNat 32 (far + if st then 2 ^ 31 else 0)

/-- A quarter of a frame read back holds a wrong bit, which is corrected in what is returned: a free value (R171,
assumption 20). -/
def State.quarterMended (s : State) : Bool × State := ((Config.freeWord s.fresh).getLsbD 0, s.putFresh (s.fresh + 1))

/-- The record of the frame a readback stands at (R171): 132 words, and the state after. -/
def State.frameRecord (s : State) (t : Transfer) : List Word × State :=
  let rod := t.far / 65536
  let frame := t.far % 65536
  let (v, s) := if t.state then s.stateFrame rod frame else (s.frame rod frame, s)
  let bad := !t.state && s.cfg.badFrames.contains (frameKey rod frame)
  let s := if bad then s.bump F.CFG_RB_STATUS_UNCORR 0 1 else s
  let (mended, s) := if t.state then (false, s) else s.quarterMended
  let flags := (if mended then 1 else 0) + (if bad then 2 else 0) + (if t.state then 65536 * s.f F.CFG_CAP_STATUS_CAP_SEQ 0 else 0)
  let ws := frameWords v
  ([farWord t.far t.state, BitVec.ofNat 32 flags, 0, crcOf ws] ++ ws, s)

/-- The next frame address of a readback (R136, R171). -/
def nextRecord (t : Transfer) : Nat :=
  if t.state then (if t.far % 65536 = 23 then 65536 * (t.far / 65536 + 1) else t.far + 1)
  else nextFar (t.far / 65536) (t.far % 65536)

/-- A frame address that a transfer may not name (R136, R175). -/
def badRecordFar (p : Part) (rod frame : Nat) (st : Bool) : Bool :=
  decide (Part.rods p ≤ rod ∨ (if st then 24 else 960) ≤ frame)

/-- The state with the running transfer replaced. -/
def State.setTransfer (s : State) (t : Option Transfer) : State := s.putCfg { s.cfg with transfer := t }

/-- A record is restored (R176): its ERR_CAUSE, or the state after. -/
def State.restoreRecord (s : State) (ws : List Word) : Nat × State :=
  let w := (ws.getD 0 0).toNat
  let st := decide (2 ^ 31 ≤ w)
  let rod := recBits w 16 10
  let frame := recBits w 0 10
  let data := ws.drop 4
  let v := BitVec.ofNat 4096 (packWords data)
  if s.capState ≠ 3 then (5, s)
  else if badRecordFar s.part rod frame st || (!st && (decide (frame < 640 ∨ 928 ≤ frame))) then (1, s)
  else if crcOf data ≠ ws.getD 3 0 then (3, s)
  else if !st then (0, (s.setFrame rod frame v).contentFresh rod frame)
  else if frame < 9 && s.stageFrameBad rod 0 frame false v then (4, s)
  else if 9 ≤ frame && frame < 18 && s.stageFrameBad rod 9 (frame - 9) true v then (4, s)
  else (0, s.restoreState rod frame v)

-- ------------------------------------------------------------------ transfers (R171, R172, R176)

/-- A transfer is over: its end is still to be shown. -/
def State.transferOver (s : State) (t : Transfer) (cause : Nat) : State :=
  s.setTransfer (some { t with ended := some cause, asked := false })

/-- The words of a running readback are refilled with the next record. -/
def State.refill (s : State) : State :=
  match s.cfg.transfer with
  | some t =>
    if t.restore || t.ended.isSome || !t.words.isEmpty then s
    else if t.left = 0 then s.transferOver t 0
    else if badRecordFar s.part (t.far / 65536) (t.far % 65536) t.state then s.transferOver t 1
    else if t.state && s.capState != 3 then s.transferOver t 5
    else
      let (ws, s) := s.frameRecord t
      s.setTransfer (some { t with words := ws, far := nextRecord t, left := t.left - 1 })
  | none => s

/-- Words arrive for a running restore: each whole record is restored. -/
def State.restoreWords (s : State) (ws : List Word) : State :=
  ws.foldl
    (fun s w =>
      match s.cfg.transfer with
      | some t =>
        if !t.restore || t.ended.isSome then s
        else
          let words := t.words ++ [w]
          if words.length < 132 then s.setTransfer (some { t with words := words })
          else
            let (cause, s) := s.restoreRecord words
            let t := { t with words := [], left := t.left - 1 }
            if cause ≠ 0 then s.transferOver t cause
            else if t.left = 0 then s.transferOver t 0
            else s.setTransfer (some t)
      | none => s) s

/-- The engine moves a transfer to or from a NoC address, one request at a time (R171, R176). -/
def State.transferPump (s : State) : State :=
  let s := s.refill
  match s.cfg.transfer with
  | some t =>
    if !t.toNoc || t.asked || t.ended.isSome || !s.niTakes 0x99 || (s.freeTag 0x99).isNone then s
    else
      let room := 4096 - t.addr % 4096
      if t.restore then
        let n := min (528 - 4 * t.words.length) room
        (s.setTransfer (some { t with asked := true })).request 0x99
          ⟨.rd, t.addr, n - 1, [], 0, [], false, false, false, 0, .engine⟩
      else
        let n := min (4 * t.words.length) room
        let bytes := toBytes n (packWords (t.words.take (n / 4)))
        (s.setTransfer (some { t with asked := true })).request 0x99
          ⟨.wr, t.addr, n - 1, [], 0, bytes, false, false, false, 0, .engine⟩
  | none => s

/-- A request of a transfer is answered. -/
def State.transferAnswer (s : State) (c : Completion) : State :=
  match s.cfg.transfer with
  | some t =>
    if !t.asked then s
    else if c.answer == .rspErr then s.transferOver t 2
    else
      let n := c.len + 1
      let t := { t with asked := false, addr := t.addr + n }
      if t.restore then ((s.setTransfer (some t)).restoreWords (byteWords c.data)).transferPump
      else (s.setTransfer (some { t with words := t.words.drop (n / 4) })).transferPump
  | none => s

/-- A request of the configuration engine is answered: of a host fetch, or of a transfer. -/
def State.engineAnswer (s : State) (c : Completion) : State :=
  let fetchAddr := fun (l : Load) => s.pair .CFG_FETCH_ADDR_LO .CFG_FETCH_ADDR_HI 0 % 2 ^ 48 + l.fetched
  if c.request == .rd && s.cfg.load.any (fun l => l.fetching && c.addr == fetchAddr l) then s.fetchAnswer c
  else s.transferAnswer c

/-- The transfer that RB_CTRL, RB_FAR, RB_COUNT and RB_ADDR describe. -/
def State.transferAsked (s : State) (who : Who) : Transfer :=
  { restore := s.on F.CFG_RB_CTRL_DIR 0
    toNoc := s.on F.CFG_RB_CTRL_PATH 0
    far := 65536 * s.f F.CFG_RB_FAR_ROD 0 + s.f F.CFG_RB_FAR_FRAME 0
    state := s.on F.CFG_RB_FAR_STATE 0
    left := s.f F.CFG_RB_COUNT_FRAMES 0
    addr := s.pair .CFG_RB_ADDR_LO .CFG_RB_ADDR_HI 0 % 2 ^ 48
    words := [], who, asked := false, ended := none }

/-- A transfer begins. -/
def State.transferBegin (s : State) (t : Transfer) : State :=
  let s := (s.raise F.CFG_RB_STATUS_BUSY 0).setF F.CFG_RB_STATUS_ERR_CAUSE 0 0
  let window := decide (0xC000000000 ≤ t.addr ∧ t.addr < 0x10000000000) || (Part.hasHbm s.part && decide (t.addr < 0x400000000))
  if t.toNoc && (!window || t.addr % 4 != 0) then s.transferOver t 1
  else if t.restore && t.left == 0 then s.transferOver t 0
  else if t.restore && s.capState != 3 then s.transferOver t 5
  else (s.setTransfer (some t)).transferPump

/-- Readback follows debug authorization for this origin: JTAG and PF1 (R172, R416, R442). -/
def State.readbackLocked (s : State) (who : Who) : Bool :=
  (who.origin == 0x02#8 || who.origin == 0x03#8) && s.dbg.locked

/-- CMD READBACK (R171, R172, R176). -/
def State.readback (s : State) (who : Who) : State :=
  let t := s.transferAsked who
  if s.readbackLocked who then s.cfgRefused who .debugLocked .CFG_CMD 0x05
  else if s.cfg.load.any (·.kind == .full) || s.cfg.starting.isSome then s.cfgRefused who .command .CFG_CMD 0x05
  else if (t.state || t.restore) && s.capState != 3 then
    let s := s.cfgRefused who .command .CFG_CMD 0x05
    (s.raise F.CFG_RB_STATUS_ERR 0).setF F.CFG_RB_STATUS_ERR_CAUSE 0 5
  else if s.cfg.transfer.isSome then
    if s.cfg.queued.isSome then s.cfgRefused who .command .CFG_CMD 0x05
    else (s.putCfg { s.cfg with queued := some t }).raise F.CFG_RB_STATUS_QUEUED 0
  else s.transferBegin t

/-- The end of a transfer is shown, and a queued one begins (R172, R176). -/
def State.readbackDone (s : State) : State :=
  match s.cfg.transfer with
  | some t =>
    match t.ended with
    | none => s
    | some cause =>
      let s := s.setTransfer none
      let s := s.setF F.CFG_RB_STATUS_BUSY 0 0
      let s := s.setF F.CFG_RB_COUNT_FRAMES 0 t.left
      let s := s.setF F.CFG_RB_STATUS_ERR_CAUSE 0 cause
      let s := s.raise (if cause = 0 then F.CFG_RB_STATUS_DONE else F.CFG_RB_STATUS_ERR) 0
      match s.cfg.queued with
      | some q =>
        ((s.putCfg { s.cfg with queued := none }).setF F.CFG_RB_STATUS_QUEUED 0 0).transferBegin q
      | none => s
  | none => s

/-- The word RB_DATA shows: the next word of a readback; 0 where none waits. -/
def State.rbWord (s : State) : Word :=
  match s.cfg.transfer with
  | some t => if t.restore || t.toNoc then 0 else t.words.getD 0 0
  | none => 0

/-- A read of RB_DATA removes its word, except under the debug attribute. -/
def State.rbPop (s : State) : State :=
  match s.cfg.transfer with
  | some t =>
    if t.restore || t.toNoc || t.words.isEmpty then s
    else (s.setTransfer (some { t with words := t.words.drop 1 })).refill
  | none => s

/-- A write of RB_DATA appends a word to a restore. -/
def State.rbPush (s : State) (w : Word) : State :=
  match s.cfg.transfer with
  | some t => if t.restore && !t.toNoc then s.restoreWords [w] else s
  | none => s

end Sys2Proof.Machine
end

