-- ==== Sys2Proof/Machine/Repair.lean ====
section
/-! DEFINITION. Self-test and repair (R178 to R196): power-up slices and the repair map, the steps of the roving spare,
wear faults and migrations, background tests of links and HBM. -/

namespace Sys2Proof.Machine

/-- The state with the parts of repair replaced. -/
def State.setRepair (s : State) (r : RepairState) : State := s.putRepair r

-- ------------------------------------------------------------------ the repair map (R181)

/-- A group's lost logical rods and the home of each of the others (R181): rod i takes the lowest position of i and i + 1
that is good and free. -/
def mapGroup (failed : Nat → Bool) : List (Nat × Option Nat) :=
  ((List.range 16).foldl
    (fun (acc : List (Nat × Option Nat) × List Nat) i =>
      match [i, i + 1].find? fun k => !failed k && !acc.2.contains k with
      | some k => (acc.1 ++ [(i, some k)], acc.2 ++ [k])
      | none => (acc.1 ++ [(i, none)], acc.2))
    ([], [])).1

/-- The ROVE_MODE of a group. -/
def State.roveMode (s : State) (g : Nat) : Nat := (s.word .REPAIR_ROVE_MODE 0).toNat / 4 ^ g % 4

/-- A group's map is formed from the positions that failed (R181, R183, R195), and recorded with origin REPAIR. -/
def State.formMap (s : State) (g : Nat) : State :=
  let failed := fun k => decide (3 ≤ s.f F.REPAIR_ROD_STATUS_STATE (17 * g + k))
  let homes := mapGroup failed
  let s := (List.range 17).foldl
    (fun s k => if failed k then s else (s.setF F.REPAIR_ROD_STATUS_STATE (17 * g + k) 1).setF F.REPAIR_ROD_STATUS_LOGICAL (17 * g + k) 0) s
  let s := homes.foldl
    (fun s h =>
      match h.2 with
      | some k =>
        let s := s.placeRod (16 * g + h.1) (17 * g + k)
        let s := s.setF F.REPAIR_ROD_STATUS_STATE (17 * g + k) 0
        s.setF F.REPAIR_ROD_STATUS_LOGICAL (17 * g + k) (16 * g + h.1)
      | none => s.putRepair { s.repair with place := Sparse.set 0 s.repair.place (16 * g + h.1) 0 }) s
  let lost := (homes.filter fun h => h.2.isNone).map (·.1)
  let bad := (List.range 17).filter failed
  let free := (List.range 17).find? fun k => !failed k && !homes.any fun h => h.2 == some k
  let state := if !lost.isEmpty then 2 else if !bad.isEmpty then 1 else if s.roveMode g = 0 then 3 else 0
  let s := s.setF F.REPAIR_GROUP_STATUS_GAP g (free.getD (bad.headD 16))
  let s := s.setF F.REPAIR_GROUP_STATUS_DIR g 0
  let s := s.setF F.REPAIR_GROUP_STATUS_STATE g state
  let s := s.setF F.REPAIR_GROUP_STATUS_FAILED g bad.length
  let s := s.setF F.REPAIR_GROUP_STATUS_LOST_MASK g (lost.foldl (fun m i => m + 2 ^ i) 0)
  let s := s.setRepair { s.repair with lastStep := Sparse.insert s.repair.lastStep g s.time }
  let s := s.journal 0x31 0x07 3 ⟨0x30000000 + g, 0, (s.word .REPAIR_GROUP_STATUS g).toNat, 0⟩
  if lost.isEmpty then s else (s.raise F.REPAIR_STATUS_LOST_ROD 0).degrade

-- ------------------------------------------------------------------ power-up self-test (R178 to R180)

/-- Power-up self-test runs: step 3 of R147. -/
def State.selfTests (s : State) : Bool :=
  !s.dev.porst && s.ledger.ready && !s.power.held && s.f F.PWR_STATE_STATUS_STATE 0 != 3 &&
    !s.on F.REPAIR_STATUS_PUST_DONE 0

/-- A rod on the retirement list is marked FAILED without being tested (R180, R188). -/
def State.markListed (s : State) (phys : Nat) : State :=
  (s.setF F.REPAIR_ROD_STATUS_STATE phys 3).setF F.REPAIR_ROD_STATUS_CAUSE phys 8

/-- Self-test begins when step 1 ends (R178). -/
def State.selfTestBegins (s : State) : State :=
  let s := s.setRepair { s.repair with testFrom := s.time, sliced := [], sliceFrom := [], lowRate := 0, place := [], badRows := [] }
  let s := s.putMem { s.mem with sparesUsed := [] }
  (s.repair.retired.filter (· < Part.physRods s.part)).foldl State.markListed s

/-- The position whose slice runs in a group: the first one that has not ended and is not on the retirement list. -/
def State.slicing (s : State) (g : Nat) : Option Nat :=
  (List.range 17).find? fun k => !s.repair.sliced.contains (17 * g + k) && !s.repair.retired.contains (17 * g + k)

/-- Self-test ends when every group's slices have (R147, R178): PUST_DONE, and the load of the boot source follows. -/
def State.selfTestEnds (s : State) : State :=
  if (List.range (Part.groups s.part)).all fun g => (s.slicing g).isNone then
    let s := s.raise F.REPAIR_STATUS_PUST_DONE 0
    let us := (s.time - s.repair.testFrom).toNat / ticksPerUs
    (s.setF F.REPAIR_PUST_TIME_US 0 (min (2 ^ 20 - 1) us)).bootLoad
  else s

/-- A group none of whose positions is to be tested has its map formed at once. -/
def State.emptyGroups (s : State) : State :=
  (((List.range (Part.groups s.part)).filter fun g => (s.slicing g).isNone).foldl State.formMap s).selfTestEnds

/-- Step 3 of R147 begins, once the ledger's scan has ended and SYS_RESET is not held (R406). -/
def State.bootBegins (s : State) : State :=
  if s.ledger.ready && !s.power.held then ((s.setF F.CFG_STATUS_STATE 0 1).selfTestBegins).emptyGroups else s

/-- The replica monitors of every physical rod are read before the first slice (R179): readings lists rods with the lowest of
their readings in M beads/s, the others reading no less than 627. A rod below 100 is FAILED with cause 6 at once; the lowest
of the rest sets SLOW where it is below 627. -/
def State.replicasRead (s : State) (readings : List (Nat × Nat)) : State :=
  if s.repair.lowRate ≠ 0 then s
  else
    let broken := (List.range (Part.physRods s.part)).filter fun k =>
      !s.repair.retired.contains k && readings.any fun x => x.1 == k && decide (x.2 < 100)
    let low := (readings.filter fun x => !broken.contains x.1 && decide (100 ≤ x.2 ∧ x.2 < 627)).foldl (fun (m : Nat) x => min m x.2) 627
    let s := if low < 627 then s.raise F.REPAIR_STATUS_SLOW 0 else s
    let s := s.setRepair { s.repair with lowRate := low, sliced := s.repair.sliced ++ broken }
    let s := broken.foldl
      (fun s k => (s.setF F.REPAIR_ROD_STATUS_STATE k 3).setF F.REPAIR_ROD_STATUS_CAUSE k 6) s
    (((List.range (Part.groups s.part)).filter fun g =>
      broken.any (fun k => groupOfPhys k == g) && (s.slicing g).isNone).foldl State.formMap s)

/-- The cause of a finding (R180): more than 4 faulty tile rows, or more than 4 spare rows of a memory, are faults. -/
def sliceFault (x : SliceResult) : Nat :=
  if 4 < x.rows.eraseDups.length then 1
  else if x.spares.any fun m => decide (4 < m.2) then 2
  else if 1 ≤ x.cause ∧ x.cause ≤ 6 then x.cause
  else 0

/-- What a test finds in a physical rod stands (R101, R177, R182): its faulty tile rows are bypassed, and its memories use at
least the spare rows they need. -/
def State.rodTested (s : State) (phys : Nat) (x : SliceResult) : State :=
  let bad : BitVec 100 := x.rows.foldl (fun w k => w ||| BitVec.ofNat 100 (2 ^ k)) 0
  let s := s.setRepair { s.repair with badRows := Sparse.set 0 s.repair.badRows phys bad }
  let s := s.setF F.REPAIR_ROD_STATUS_ROWS_SPARED phys (min 4 x.rows.eraseDups.length)
  let s := (x.spares.filter (·.1 < 32)).foldl
    (fun s m => s.putMem { s.mem with
      sparesUsed := Sparse.set 0 s.mem.sparesUsed (spareKey phys m.1) (max (s.sparesIn phys m.1) (min 8 m.2)) }) s
  s.showMemSpares phys

/-- The slice of a physical rod ends with a cause (R180): FAILED, or good with its spare rows; after a group's last slice the
map is formed. -/
def State.sliceEnds (s : State) (phys cause : Nat) (x : SliceResult) : State :=
  let g := groupOfPhys phys
  let s := (s.setF F.REPAIR_ROD_STATUS_CAUSE phys cause).rodTested phys x
  let s := if cause = 0 then s else s.setF F.REPAIR_ROD_STATUS_STATE phys 3
  let s := s.setRepair { s.repair with
    sliced := s.repair.sliced ++ [phys]
    sliceFrom := Sparse.insert s.repair.sliceFrom g s.time }
  if (s.slicing g).isNone then (s.formMap g).selfTestEnds else s

/-- The budget of a slice in ticks (R179): 2 ms, stretched by 627 over the lowest reading when that is lower. -/
def sliceBudget (low : Nat) : Nat :=
  if low < 627 then 2000 * ticksPerUs * 627 / max 100 low else 2000 * ticksPerUs

-- ------------------------------------------------------------------ the steps of the roving spare (R185 to R191)

/-- STEP_STATUS shows a step's phase; STEP_BUSY while one runs. -/
def State.stepPhase (s : State) (st : RoveStep) (phase : Nat) : State :=
  let s := s.setF F.REPAIR_STEP_STATUS_GROUP 0 st.group
  let s := s.setF F.REPAIR_STEP_STATUS_MIGRATION 0 (if st.migration then 1 else 0)
  let s := (s.setF F.REPAIR_STEP_STATUS_SRC 0 st.src).setF F.REPAIR_STEP_STATUS_DST 0 st.dst
  let s := s.setF F.REPAIR_STEP_STATUS_PHASE 0 phase
  let s := s.setF F.REPAIR_STATUS_STEP_BUSY 0 (if phase = 0 then 0 else 1)
  s.setRepair { s.repair with step := if phase = 0 then none else some st }

/-- The phase of the step that runs. -/
def State.stepAt (s : State) (phase : Nat) : Option RoveStep :=
  if s.f F.REPAIR_STEP_STATUS_PHASE 0 = phase then s.repair.step else none

/-- The FPD region of a repair group is on, and no power change is switching it off or on (R186, R190). -/
def State.groupPowered (s : State) (g : Nat) : Bool :=
  (s.word .PWR_REGION_STATUS 0).getLsbD (g / 2) &&
    !s.power.change.any (fun c => c.off.getLsbD (g / 2) || c.on.getLsbD (g / 2))

/-- The gap of a group. -/
def State.gapOf (s : State) (g : Nat) : Nat := s.f F.REPAIR_GROUP_STATUS_GAP g

/-- The gap holds a spare that has passed its test. -/
def State.spareReady (s : State) (g : Nat) : Bool := s.f F.REPAIR_ROD_STATUS_STATE (17 * g + s.gapOf g) == 1

/-- The checks of step 1 for a logical rod of a group (R186, R170, R152, R174, R190). -/
def State.stepChecks (s : State) (g rod : Nat) : Bool :=
  s.repair.step.isNone && s.f F.CFG_CAP_STATUS_STATE 0 == 0 && !s.cfg.load.any (·.kind == .full) && s.cfg.starting.isNone &&
    s.on F.DEV_STATUS_USER_MODE 0 && s.groupPowered g && !s.fabric.brownout && s.cfg.releases.isEmpty &&
    !s.cfg.fabricResetWaiting && !(s.spanOf rod).any (fun d => let v := s.spanState d.id; v == 2 || v == 4 || v == 6)

/-- The step of a group that moves the logical rod beside the gap, up or down (R185). -/
def State.stepOf (s : State) (g : Nat) (up migration : Bool) : Option RoveStep :=
  let gap := s.gapOf g
  let src := 17 * g + (if up then gap + 1 else gap - 1)
  (s.hosted src).map fun rod => ⟨g, migration, src, 17 * g + gap, rod, none, false⟩

/-- A step begins when its checks pass (R186 step 1): pre-copy. -/
def State.stepBegin (s : State) (g : Nat) (up migration : Bool) : State :=
  match s.stepOf g up migration with
  | some st => if s.stepChecks g st.logical && s.spareReady g then s.stepPhase st 1 else s
  | none => s

/-- The first migration that waits begins its next step, walking the gap toward the worn rod (R185, R189). -/
def State.migrationStart (s : State) : State :=
  match s.repair.migrations with
  | x :: _ => s.stepBegin (groupOfPhys x) (decide (s.gapOf (groupOfPhys x) < x % 17)) true
  | [] => s

/-- A group's routine step waits to begin: it is due, or REPAIR.CMD asked for it; under BOUNDARY a due one waits for a
boundary (R185, R190). -/
def State.stepWaits (s : State) (g : Nat) : Bool :=
  s.repair.asked.contains g || (s.boundary && s.repair.deferred.contains g)

/-- A group's routine step no longer waits. -/
def State.stepTaken (s : State) (g : Nat) : State :=
  s.setRepair { s.repair with asked := s.repair.asked.erase g, deferred := s.repair.deferred.erase g }

/-- The next step begins: a migration, or the routine step of the lowest group that waits and can begin (R185, R190). -/
def State.stepNext (s : State) : State :=
  let roving := fun g => s.f F.REPAIR_GROUP_STATUS_STATE g == 0
  let s := s.setRepair { s.repair with asked := s.repair.asked.filter roving, deferred := s.repair.deferred.filter roving }
  let s := s.migrationStart
  ((List.range (Part.groups s.part)).filter s.stepWaits).foldl
    (fun s g =>
      if s.repair.step.isSome then s
      else
        let s := s.stepBegin g (s.on F.REPAIR_GROUP_STATUS_DIR g) false
        if s.repair.step.isSome then s.stepTaken g else s) s

/-- A step of the roving spare waits to begin (R185, R189, R190). -/
def State.repairWaits (s : State) : Bool :=
  s.repair.step.isNone &&
    (!s.repair.migrations.isEmpty || !s.repair.asked.isEmpty || (s.boundary && !s.repair.deferred.isEmpty))

/-- What waits begins as soon as its checks pass. -/
def State.repairGoesOn (s : State) : State := if s.repairWaits then s.stepNext else s

/-- Migrations of a group that can no longer migrate are stuck (R189). -/
def State.dropStuck (s : State) : State :=
  let stuck := s.repair.migrations.filter fun x => !s.migrates (groupOfPhys x)
  let s := s.setRepair { s.repair with migrations := s.repair.migrations.filter fun x => s.migrates (groupOfPhys x) }
  stuck.foldl (fun s _ => s.wearStuck) s

/-- A step is over: what waited for it goes on (R24, R189, R190). -/
def State.stepOver (s : State) (st : RoveStep) : State :=
  let s := s.stepPhase st 0
  let s := s.setRepair { s.repair with lastStep := Sparse.insert s.repair.lastStep st.group s.time }
  s.dropStuck.stepNext.recordLeave

/-- The timers of the carry network held their counts for n ticks (R186). -/
def State.holdTimers (s : State) (n : DWord) : State :=
  let later (x : NiState) : NiState :=
    { x with
      outstanding := x.outstanding.map fun t => { t with start := t.start + n, held := t.held + n }
      delivered := x.delivered.map fun d => { d with since := d.since + n, held := d.held + n } }
  (s.putNet { s.net with nis := s.net.nis.map fun kv => (kv.1, later kv.2) })

/-- The drain limits of the NIs that serve a rod held their counts for n ticks (R252). -/
def State.holdDrains (s : State) (rod : Nat) (n : DWord) : State :=
  let later (kv : Nat × NiState) : Nat × NiState :=
    if kv.1 < 0x60 ∧ (niRods kv.1).contains rod then (kv.1, { kv.2 with fenceFrom := kv.2.fenceFrom + n }) else kv
  (s.putNet { s.net with nis := s.net.nis.map later })

/-- A frozen rod of a step is released (R186 step 8, R190, R191): timers go on, its queues see a close that came in the
pause, beads at its taps move, a FABRIC_RESET and a span request that waited act. -/
def State.rodReleased (s : State) (rod : Nat) (since : DWord) : State :=
  let n := s.time - since
  let mine := fun r => r == rod && !s.frozen r
  let s := (s.holdTimers n).holdDrains rod n
  let s := (s.holdStale (fun r => r == rod) n).standingEnds
  (((s.queueRelease mine).tapsRelease mine).drainGoesOn).fabricResetDue.spanResume

/-- A step is abandoned in a case of R187, counted from 1. -/
def State.stepAborts (s : State) (st : RoveStep) (case : Nat) : State :=
  let s := s.bump F.REPAIR_STEP_EXC_ABORTS 0 1
  let s := s.raise F.REPAIR_STATUS_STEP_ABORT 0
  s.journal s.ownOrigin 0x07 8 ⟨0x30000000 + st.logical, st.src, st.dst, case⟩

/-- The spare onto which a step moves its rod has been retired meanwhile (R189). -/
def State.spareGone (s : State) (st : RoveStep) : Bool := !st.switched && decide (3 ≤ s.f F.REPAIR_ROD_STATUS_STATE st.dst)

/-- A write to D failed, or the verify mismatched (R187): S never froze, or is released unchanged; D is RETIRED with
cause COPY, unless a wear fault has retired it. -/
def State.copyFails (s : State) (st : RoveStep) : State :=
  let s := s.stepAborts st 2
  let s := if s.spareGone st then s else s.retire st.dst 10
  match st.frozenAt with
  | some t => ((s.stepPhase st 0).rodReleased st.logical t).stepOver st
  | none => (s.stepOver st).spanResume

/-- ROVING_STEP_DUE: a routine step of a group is due (R185, R190): it waits for its checks and for the steps before it;
under BOUNDARY it waits for the boundary. -/
def State.rovingDue (s : State) (g : Nat) : State :=
  let mode := s.roveMode g
  if s.f F.REPAIR_GROUP_STATUS_STATE g != 0 || mode == 0 || decide (Part.groups s.part ≤ g) then s
  else
    let waits := s.repair.asked.contains g || s.repair.deferred.contains g
    let interval := max 1 (s.f F.REPAIR_ROVE_TIMING_INTERVAL 0) * 100000 * ticksPerUs
    let s := if waits then s
      else
        let s := s.advanceTo (Sparse.get 0 s.repair.lastStep g + BitVec.ofNat 64 interval)
        if mode = 1 then s.setRepair { s.repair with deferred := s.repair.deferred ++ [g] }
        else s.setRepair { s.repair with asked := s.repair.asked ++ [g] }
    s.dropStuck.stepNext

/-- PRE_COPY_DONE: the pre-copy of a step has ended (R186 step 2, R187): the verify follows; a double-bit frame of S is
reloaded or copied as read; a failed write to D abandons the step. -/
def State.preCopyDone (s : State) (x : PreCopy) : State :=
  match s.stepAt 1 with
  | none => s
  | some st =>
    if s.spareGone st then s.copyFails st else
    match x with
    | .copied => s.stepPhase st 2
    | .writeFails => s.copyFails st
    | .double frame flip same => (s.frameDouble st.logical frame flip same).stepPhase st 2

/-- VERIFY_DONE: the verify has ended (R186 steps 3 and 4, R187): S freezes at the next Beam tick, and the timers and the
drain hold their counts. -/
def State.verifyDone (s : State) (ok : Bool) : State :=
  match s.stepAt 2 with
  | none => s
  | some st =>
    if !ok || s.spareGone st then s.copyFails st
    else
      let s := (s.pass 1).noteStanding fun r => r == st.logical
      (s.stepPhase { st with frozenAt := some s.time } 3).drainHold

/-- The longest pause of the running step in ticks (R186, R189): PAUSE_LIMIT, or 60 µs after three abandoned attempts of
a migration. -/
def State.pauseLimit (s : State) (st : RoveStep) : Nat :=
  (if st.migration ∧ 3 ≤ s.repair.attempts then 60 else s.f F.REPAIR_ROVE_TIMING_PAUSE_LIMIT 0) * ticksPerUs

/-- The pause cannot end in time (R187): S is released unchanged at the next Beam tick, no later than t_f + PAUSE_LIMIT, and
D stays spare. -/
def State.pauseAbort (s : State) (st : RoveStep) (t : DWord) : State :=
  let s := s.advanceTo (t + BitVec.ofNat 64 (s.pauseLimit st - 1))
  let s := (s.pass 1).stepAborts st 1
  let s := if st.migration then s.setRepair { s.repair with attempts := s.repair.attempts + 1 } else s
  ((s.stepPhase st 0).rodReleased st.logical t).stepOver st

/-- The rod of a step has settled after some ticks, its state is copied, and the multiplexers and the map switch (R186
steps 5 to 7, R191). -/
def State.rodSettled (s : State) (wait : Nat) (writeFails : Bool) : State :=
  match s.stepAt 3 with
  | none => s
  | some st =>
    match st.frozenAt, st.switched with
    | some t, false =>
      let settled := max s.time.toNat (t.toNat + 16) + wait
      if t.toNat + s.pauseLimit st < settled then s.pauseAbort st t
      else
        let s := (s.advanceTo (t + 16)).pass wait
        if writeFails || s.spareGone st then s.copyFails st
        else
          let s := s.putMem { s.mem with
            onceCorrected := s.mem.onceCorrected.filter fun kv => kv.1 / 16384 != st.logical }
          (s.placeRod st.logical st.dst).stepPhase { st with switched := true } 3
    | _, _ => s

/-- STEP_PAUSE and the count of a step that moved its rod (R186). -/
def State.countStep (s : State) (st : RoveStep) (t : DWord) : State :=
  let pause := min 65535 ((s.time - t).toNat / 15)
  let s := s.setF F.REPAIR_STEP_PAUSE_LAST 0 pause
  let s := s.setF F.REPAIR_STEP_PAUSE_MAX 0 (max pause (s.f F.REPAIR_STEP_PAUSE_MAX 0))
  let s := s.count F.REPAIR_STEP_COUNT_STEPS 0
  let g := st.group
  let gap := st.src % 17
  let s := s.setF F.REPAIR_GROUP_STATUS_GAP g gap
  let s := s.setF F.REPAIR_GROUP_STATUS_DIR g (if gap = 0 then 1 else if gap = 16 then 0 else if st.dst < st.src then 1 else 0)
  let s := (s.setF F.REPAIR_ROD_STATUS_STATE st.dst 0).setF F.REPAIR_ROD_STATUS_LOGICAL st.dst st.logical
  let s := s.setF F.REPAIR_ROD_STATUS_LOGICAL st.src 0
  s.journal 0x31 0x07 1 ⟨0x30000000 + st.logical, st.src, st.dst, 0⟩

/-- STEP_RELEASE: the logical rod runs on D (R186 step 8), wait ticks later and no later than t_f + PAUSE_LIMIT; S is
tested as the new spare, but a migration that has not reached its rod goes on at once (R189). -/
def State.stepRelease (s : State) (wait : Nat) : State :=
  match s.stepAt 3 with
  | none => s
  | some st =>
    match st.frozenAt, st.switched with
    | some t, true =>
      let s := s.pass (min wait ((t + BitVec.ofNat 64 (s.pauseLimit st)).toNat - s.time.toNat))
      let s := s.countStep st t
      let lost := decide (3 ≤ s.f F.REPAIR_ROD_STATUS_STATE st.src)
      let walking := st.migration && !s.repair.migrations.contains st.src
      let s := s.setRepair { s.repair with attempts := 0 }
      if walking || lost then
        let s := (if lost then s else s.setF F.REPAIR_ROD_STATUS_STATE st.src 1).stepPhase st 0
        ((s.rodReleased st.logical t).stepOver st)
      else
        let s := s.setF F.REPAIR_ROD_STATUS_STATE st.src 2
        let s := s.setRepair { s.repair with sliceFrom := Sparse.insert s.repair.sliceFrom st.group s.time }
        (s.stepPhase { st with frozenAt := none } 4).rodReleased st.logical t
    | _, _ => s

/-- The spare test ends (R186 step 9, R187, R189): a rod that passes is the group's spare; one that fails is RETIRED. A
test of RETEST abandons no step. -/
def State.spareTested (s : State) (st : RoveStep) (cause : Nat) (x : SliceResult) : State :=
  let worn := s.repair.migrations.contains st.src
  let s := if worn then
      s.setRepair { s.repair with migrations := s.repair.migrations.filter (· != st.src), attempts := 0 } else s
  let s := s.rodTested st.src x
  let s :=
    if cause = 0 then (s.setF F.REPAIR_ROD_STATUS_STATE st.src 1).setF F.REPAIR_ROD_STATUS_CAUSE st.src 0
    else
      let s := if st.src = st.dst then s else s.stepAborts st 3
      s.retire st.src (if worn then 9 else cause)
  s.stepOver st

-- ------------------------------------------------------------------ wear faults and REPAIR.CMD (R184, R189, R196)

/-- A wear fault is declared: its migration begins when it can; the test of a spare that is retired ends (R189). -/
def State.wearDeclared (s : State) (phys : Nat) : State :=
  if !s.on F.REPAIR_STATUS_PUST_DONE 0 || decide (Part.physRods s.part ≤ phys) ||
      decide (3 ≤ s.f F.REPAIR_ROD_STATUS_STATE phys) then s
  else
    let s := s.wearFault phys
    let s := s.dropStuck
    match s.stepAt 4 with
    | some st => if st.src = phys then s.stepOver st else s
    | none => s.stepNext

/-- Why a REPAIR command is refused (R185, R196). -/
def State.repairRefusal (s : State) (op g rod : Nat) : Option Reason :=
  if op = 0 ∨ 3 < op then some .encoding
  else if (op = 2 ∧ Part.physRods s.part ≤ rod) ∨ (op ≠ 2 ∧ Part.groups s.part ≤ g) then some .absent
  else if !s.on F.REPAIR_STATUS_PUST_DONE 0 then some .command
  else if op = 1 then
    if s.f F.REPAIR_GROUP_STATUS_STATE g != 0 || s.roveMode g == 0 then some .command else none
  else if op = 2 then if 3 ≤ s.f F.REPAIR_ROD_STATUS_STATE rod then some .command else none
  else if s.spareReady g && s.repair.step.isNone && s.groupPowered g then none else some .command

/-- A write of REPAIR.CMD (R196): an accepted command makes its CHANGE entry and acts. -/
def State.repairCommand (s : State) (who : Who) (data : Word) : State :=
  let op := recBits data.toNat 0 3
  let g := recBits data.toNat 8 4
  let rod := recBits data.toNat 16 9
  match s.repairRefusal op g rod with
  | some why => (s.raise F.REPAIR_STATUS_CMD_REFUSED 0).journalRefusal who why .REPAIR_CMD 0 data.toNat
  | none =>
    let s := s.journalChange who .REPAIR_CMD 0 0 data
    match op with
    | 1 =>
      (s.setRepair { s.repair with asked := if s.repair.asked.contains g then s.repair.asked else s.repair.asked ++ [g] }).stepNext
    | 2 => s.wearDeclared rod
    | _ =>
      let p := 17 * g + s.gapOf g
      let st : RoveStep := ⟨g, false, p, p, 0, none, true⟩
      let s := s.setF F.REPAIR_ROD_STATUS_STATE p 2
      let s := s.setRepair { s.repair with sliceFrom := Sparse.insert s.repair.sliceFrom g s.time }
      s.stepPhase st 4

/-- A REPAIR setting is refused whole. -/
def State.repairBarred (s : State) (who : Who) (r : Reg) (data : Word) : State :=
  (s.raise F.REPAIR_STATUS_CMD_REFUSED 0).journalRefusal who .encoding r 0 data.toNat

/-- A write of ROVE_MODE (R185, R196): groups that rove follow their modes. -/
def State.writeRoveMode (s : State) (who : Who) (data : Word) : State :=
  if (List.range 16).any fun g => data.toNat / 4 ^ g % 4 == 3 then s.repairBarred who .REPAIR_ROVE_MODE data
  else
    let s := s.writeTyped who .REPAIR_ROVE_MODE 0 data
    (List.range (Part.groups s.part)).foldl
      (fun s g =>
        let st := s.f F.REPAIR_GROUP_STATUS_STATE g
        if !s.on F.REPAIR_STATUS_PUST_DONE 0 || !(s.word .PWR_REGION_STATUS 0).getLsbD (g / 2) then s
        else if st = 0 ∧ s.roveMode g = 0 then
          (s.setF F.REPAIR_GROUP_STATUS_STATE g 3).setRepair { s.repair with deferred := s.repair.deferred.filter (· != g) }
        else if st = 3 ∧ s.roveMode g ≠ 0 then s.setF F.REPAIR_GROUP_STATUS_STATE g 0
        else s) s

/-- A write of ROVE_TIMING (R196). -/
def State.writeRoveTiming (s : State) (who : Who) (data : Word) : State :=
  let limit := recBits data.toNat 16 8
  if limit < 2 ∨ 60 < limit then s.repairBarred who .REPAIR_ROVE_TIMING data else s.writeTyped who .REPAIR_ROVE_TIMING 0 data

/-- A write of BG_CTRL: without HBM, HBM_EN reads 0 (R193, R196). -/
def State.writeBgCtrl (s : State) (who : Who) (data : Word) : State :=
  s.writeTyped who .REPAIR_BG_CTRL 0 (if Part.hasHbm s.part then data else data &&& 0xFFFFFFFD#32)

-- ------------------------------------------------------------------ FABRIC_RESET (R31, R190)

/-- CMD FABRIC_RESET (R30, R31, R190): a step before its pause is abandoned without counting; the reset waits for what
R31, R170 and R190 name, and otherwise acts at the next Beam tick. No step begins before it has acted. -/
def State.fabricReset (s : State) : State :=
  let s := match s.repair.step with
    | some st => if st.moving && st.frozenAt.isNone then (s.stepPhase st 0).spanResume else s
    | none => s
  if s.fabricResetWaits then s.putCfg { s.cfg with fabricResetWaiting := true }
  else
    let s := s.pass 1
    s.fabricResetActs s.time

/-- CMD FABRIC_RESET, or its refusal while an FPD power change runs (R405). -/
def State.fabricResetCommand (s : State) (who : Who) : State :=
  if s.fpdChanging then s.cfgRefused who .command .CFG_CMD 2
  else s.fabricReset

-- ------------------------------------------------------------------ background tests (R192 to R194)

/-- A background test found a fault (R194): BG_FAIL and its count. -/
def State.bgFail (s : State) (kind unit port : Nat) : State :=
  let s := (s.setF F.REPAIR_BG_FAIL_KIND 0 kind).setF F.REPAIR_BG_FAIL_UNIT 0 unit
  let s := (s.setF F.REPAIR_BG_FAIL_PORT 0 port).bump F.REPAIR_BG_FAIL_COUNT 0 1
  s.raise F.REPAIR_STATUS_BG_FAIL 0

/-- Ticks between the tests of a link direction, and of a pseudo channel (R192, R193). -/
def State.testPeriod (s : State) (hbm : Bool) : Nat :=
  if hbm then max 1 (s.f F.REPAIR_BG_CTRL_HBM_PERIOD 0) * 1000 * ticksPerUs
  else max 1 (s.f F.REPAIR_BG_CTRL_LINK_PERIOD 0) * 1000000 * ticksPerUs

/-- When the next test of a link direction or a pseudo channel is due. -/
def State.testDue (s : State) (hbm : Bool) (unit : Nat) : DWord :=
  Sparse.get 0 (if hbm then s.repair.hbmNext else s.repair.linkNext) unit

/-- The next test of a link direction or a pseudo channel is due n ticks from now. -/
def State.testAgain (s : State) (hbm : Bool) (unit n : Nat) : State :=
  let r := s.repair
  if hbm then s.setRepair { r with hbmNext := Sparse.set 0 r.hbmNext unit (s.later n) }
  else s.setRepair { r with linkNext := Sparse.set 0 r.linkNext unit (s.later n) }

/-- A slice may run now: a forced one once it has begun at a boundary (R24, R194). -/
def State.sliceRuns (s : State) (hbm : Bool) (unit : Nat) : Bool :=
  !s.repair.forced.contains (hbm, unit) || s.repair.begun.contains (hbm, unit)

/-- A slice has ended: it is no longer forced, its pre-emptions are forgotten, and the next is due a period later. -/
def State.sliceOver (s : State) (hbm : Bool) (unit : Nat) : State :=
  let s := s.testAgain hbm unit (s.testPeriod hbm)
  let r := s.repair
  let r := { r with forced := r.forced.filter (· != (hbm, unit)), begun := r.begun.filter (· != (hbm, unit)) }
  (if hbm then s.setRepair { r with hbmPreempts := Sparse.set 0 r.hbmPreempts unit 0 }
   else s.setRepair { r with linkPreempts := Sparse.set 0 r.linkPreempts unit 0 }).recordLeave

/-- A faulty wire of the link out of a port is handed to remapping at the receiving node (R194). -/
def State.wireFound (s : State) (page peer wire : Nat) : State :=
  match returnPort s.part peer page with
  | some q => (s.raise F.CN_LINK_STATUS_REMAP_PENDING (linkInst peer q)).wireRemap peer q (some wire)
  | none => s

/-- The test of a link direction ends: the test of the power-up, or an idle-link slice once it is due (R178, R192, R194). A
link whose power-up test is not reported has no fault (assumption 195). -/
def State.linkTested (s : State) (page port : Nat) (fault : Option Nat) : State :=
  match portEnd s.part page port, pagePresent s.part page with
  | some (.node peer), true =>
    if s.selfTests then (fault.map (s.wireFound page peer)).getD s
    else if !s.on F.REPAIR_BG_CTRL_LINK_EN 0 || !s.sliceRuns false (16 * page + port) then s
    else
      let s := (s.advanceTo (s.testDue false (16 * page + port))).sliceOver false (16 * page + port)
      match fault with
      | some w => (s.bgFail 1 page port).wireFound page peer w
      | none => s
  | _, _ => s

/-- A pseudo channel's test of its next region ends (R193, R194, R336): fault names a faulty row and whether its bank has a
spare for it. -/
def State.hbmTested (s : State) (pc : Nat) (fault : Option (Nat × Bool)) : State :=
  if !s.on F.REPAIR_BG_CTRL_HBM_EN 0 || !Part.hasHbm s.part || !(s.word .PWR_REGION_STATUS 0).getLsbD 8 || decide (16 ≤ pc) ||
      !s.sliceRuns true pc then s
  else
    let s := (s.advanceTo (s.testDue true pc)).sliceOver true pc
    let s := s.putHbm { s.hbm with testAt := Sparse.set 0 s.hbm.testAt pc ((Sparse.get 0 s.hbm.testAt pc + 1) % 65536) }
    match fault with
    | some (row, spare) => (s.bgFail 2 pc 0).hbmRepair row spare
    | none => s

/-- SLICE_PREEMPT: traffic pre-empts a link or HBM test slice; the eighth in a row forces the slice at the next record
boundary (R192 to R194). -/
def State.slicePreempt (s : State) (hbm : Bool) (unit : Nat) : State :=
  let on := if hbm then Part.hasHbm s.part && s.on F.REPAIR_BG_CTRL_HBM_EN 0 && decide (unit < 16)
    else s.on F.REPAIR_BG_CTRL_LINK_EN 0 && pagePresent s.part (unit / 16)
  if !on || s.repair.forced.contains (hbm, unit) then s
  else
    let s := (s.advanceTo (s.testDue hbm unit)).bump F.REPAIR_BG_STAT_PREEMPT 0 1
    let s := s.testAgain hbm unit (if hbm then s.testPeriod true else 1000 * ticksPerUs)
    let r := s.repair
    let n := Sparse.get 0 (if hbm then r.hbmPreempts else r.linkPreempts) unit + 1
    let s := if hbm then s.setRepair { r with hbmPreempts := Sparse.set 0 r.hbmPreempts unit (n % 8) }
      else s.setRepair { r with linkPreempts := Sparse.set 0 r.linkPreempts unit (n % 8) }
    if n < 8 then s
    else
      let s := s.bump F.REPAIR_BG_STAT_FORCED 0 1
      (s.setRepair { s.repair with forced := s.repair.forced ++ [(hbm, unit)] }).forcedBegin

end Sys2Proof.Machine
end

