-- ==== Sys2Proof/Machine/Ledger.lean ====
section
/-! DEFINITION. The ledger's commits, its scan at power-up and its registers (R443 to R448). The entries themselves are
made by State.journal (Machine/Ops.lean). -/

namespace Sys2Proof.Machine

/-- The state with the ledger replaced. -/
def State.setLedger (s : State) (l : LedgerState) : State := s.putLedger l

/-- Ring positions (R443): 4,096 pages of 128 entries. -/
def ringSize : Nat := 524288

/-- The first position from p on whose page is not in the bad-page map (R443). -/
def goodPosition (bad : List Nat) (p : Nat) : Nat → Nat
  | 0 => p
  | n + 1 => if bad.contains (p / 128) then goodPosition bad ((p / 128 + 1) * 128 % ringSize) n else p

/-- The position where the next entry is written. -/
def LedgerState.writeAt (l : LedgerState) : Nat := goodPosition l.badPages l.ringPos 4096

/-- An entry is written and verified in the ring. -/
def LedgerState.store (l : LedgerState) (e : Entry) : LedgerState :=
  let p := l.writeAt
  { l with ring := Sparse.insert l.ring p e, ringPos := (p + 1) % ringSize, commitSeq := e.seq }

/-- The oldest entry that can be read, in the ring or in the buffer (R445). -/
def LedgerState.findOldest (l : LedgerState) : Word :=
  (l.ring.map (·.2) ++ l.buffer).foldl (fun o e => if (l.headSeq - o).toNat < (l.headSeq - e.seq).toNat then e.seq else o)
    l.headSeq

/-- A page fails verification twice (R443): it enters the bad-page map, and what this pass wrote to it goes to the next
good page; what it held from the pass before is gone. -/
def LedgerState.pageFails (l : LedgerState) : LedgerState :=
  let p := l.writeAt
  let page := p / 128
  let again := (l.ring.filter fun kv => kv.1 / 128 = page ∧ kv.1 < p).map (·.2)
  let l := { l with
    badPages := l.badPages ++ [page]
    ring := l.ring.filter fun kv => kv.1 / 128 ≠ page
    ringPos := page * 128
    commitFault := true }
  again.foldl LedgerState.store l

/-- Commits can be made: VCC_NV is in range (R406, R443). -/
def State.commits (s : State) : Bool := s.ledger.ready && !s.power.outOfRange.contains 8

/-- When room returns, one GAP entry holds the number of entries lost (R444). -/
def State.tellGap (s : State) : State :=
  let n := s.ledger.lostUntold
  if n = 0 then s
  else (s.setLedger { s.ledger with lostUntold := 0 }).journal 0x30 0x0D 0 ⟨0, 0, n, 0⟩

/-- The oldest entry of the buffer is written to the ring (R443). ok = false: its page fails verification twice first. -/
def State.ledgerCommit (s : State) (ok : Bool) : State :=
  match s.ledger.buffer with
  | [] => s
  | e :: rest =>
    if !s.commits then s
    else
      let l := if ok then s.ledger else s.ledger.pageFails
      let l := ({ l with buffer := rest, heldTold := false } : LedgerState).store e
      let l := { l with oldestSeq := l.findOldest }
      (s.setLedger l).tellGap

/-- The buffer drains to the ring (R446). -/
def State.ledgerDrain (s : State) : State :=
  (List.range s.ledger.buffer.length).foldl (fun s _ => s.ledgerCommit true) s

/-- Commits held for 1 ms raise COMMIT_FAULT. -/
def State.ledgerHeld (s : State) : State :=
  match s.ledger.buffer with
  | [] => s
  | e :: _ =>
    let age := (s.now - e.time).toNat
    if s.ledger.ready && !s.commits && !s.ledger.heldTold && decide (1000 * ticksPerUs ≤ age) && decide (age < 2 ^ 63) then
      s.setLedger { s.ledger with commitFault := true, heldTold := true }
    else s

/-- PORST_N low on the ledger: what is in the ring stays, the scan is due again, and the registers of domain POR reset;
while VCC_AON stays in range the buffer drains first (R446). -/
def State.ledgerPor (s : State) (drains : Bool) : State :=
  let s := if drains then s.ledgerDrain else s
  s.setLedger { s.ledger with
    ready := false, commitFault := false, gap := false, torn := false, buffer := [], headSeq := 0, oldestSeq := 0
    rdSeq := 0, lost := 0, lostUntold := 0, heldTold := false }

/-- Entries take consecutive sequence numbers. -/
def numberFrom (seq : Word) : List Entry → List Entry
  | [] => []
  | e :: rest => { e with seq := seq } :: numberFrom (seq + 1) rest

/-- The scan ends (R445): the POWER_ON entry follows the newest entry found, and entries that waited follow it. -/
def State.ledgerScanned (s : State) (torn : Nat) : State :=
  let l := s.ledger
  let none' := l.ring.isEmpty
  let first : Word := if none' then 0 else l.commitSeq + 1
  let newest : Word := if none' then 0xFFFFFFFF else l.commitSeq
  let on : Entry :=
    ⟨first, 0x40, 0x09, if none' then 1 else 0, s.now, BitVec.ofNat 32 0, newest, s.word .DEV_RESET_CAUSE 0,
      BitVec.ofNat 32 torn⟩
  let waited := numberFrom (first + 1) l.buffer
  let l := { l with
    ready := true
    torn := decide (torn ≠ 0)
    buffer := on :: waited
    headSeq := first + BitVec.ofNat 32 waited.length
    commitSeq := newest
    rdSeq := first }
  s.setLedger { l with oldestSeq := l.findOldest }

/-- The entry RD_SEQ selects (R448): the state of being in the ring, and the entry. -/
def LedgerState.selected (l : LedgerState) : Option (Bool × Entry) :=
  if (l.headSeq - l.rdSeq).toNat ≤ (l.headSeq - l.oldestSeq).toNat then
    match l.buffer.find? (·.seq == l.rdSeq) with
    | some e => some (false, e)
    | none => (l.ring.find? (·.2.seq == l.rdSeq)).map fun kv => (true, kv.2)
  else none

/-- Word w of an entry (R439). -/
def Entry.word (e : Entry) (w : Nat) : Word :=
  match w with
  | 0 => e.seq
  | 1 => e.aux ++ e.kind ++ e.origin
  | 2 => e.time.setWidth 32
  | 3 => (e.time >>> 32).setWidth 32
  | 4 => e.b0
  | 5 => e.b1
  | 6 => e.b2
  | _ => e.b3

/-- What a LEDGER register reads (R445, R448); all read 0 until READY is 1. -/
def State.ledgerWord (s : State) (r : Reg) (inst : Nat) : Word :=
  let l := s.ledger
  let bit (b : Bool) (k : Nat) : Nat := if b then 2 ^ k else 0
  if !l.ready then 0
  else
    match r with
    | .LEDGER_STATUS =>
      BitVec.ofNat 32 (1 + bit l.commitFault 1 + bit l.gap 2 + bit l.torn 3 + 65536 * l.buffer.length)
    | .LEDGER_HEAD_SEQ => l.headSeq
    | .LEDGER_COMMIT_SEQ => l.commitSeq
    | .LEDGER_OLDEST_SEQ => l.oldestSeq
    | .LEDGER_RD_SEQ => l.rdSeq
    | .LEDGER_RD_STATUS =>
      match l.selected with
      | some (c, _) => if c then 3 else 1
      | none => 0
    | .LEDGER_LOST => BitVec.ofNat 32 l.lost
    | .LEDGER_BAD_PAGES => BitVec.ofNat 32 l.badPages.length
    | .LEDGER_RD_DATA =>
      match l.selected with
      | some (_, e) => e.word inst
      | none => 0
    | _ => 0

/-- A write of LEDGER.STATUS clears the bits written 1. -/
def State.writeLedgerStatus (s : State) (data : Word) : State :=
  let l := s.ledger
  s.setLedger { l with
    commitFault := l.commitFault && !data.getLsbD 1
    gap := l.gap && !data.getLsbD 2
    torn := l.torn && !data.getLsbD 3 }

/-- A write of RD_SEQ selects an entry (R448). -/
def State.writeRdSeq (s : State) (data : Word) : State := s.setLedger { s.ledger with rdSeq := data }

/-- A read of RD_DATA word 7 advances RD_SEQ by 1 (R448). -/
def State.readRdData (s : State) (w : Nat) : State :=
  if w = 7 ∧ s.ledger.ready then s.setLedger { s.ledger with rdSeq := s.ledger.rdSeq + 1 } else s

end Sys2Proof.Machine
end

