-- ==== Sys2Proof/Machine/Trace.lean ====
section
/-! DEFINITION. The trace port and the stimulus ports (R434 to R436). -/

namespace Sys2Proof.Machine

/-- The state with the debug domain's own state replaced. -/
def State.setDebug (s : State) (d : DebugState) : State := s.putDbg d

/-- The trace FIFO (R434). -/
def traceSize : Nat := 16384

/-- Bytes free in the trace FIFO. -/
def State.traceRoom (s : State) : Nat := traceSize - s.dbg.trace.length

/-- The trace port runs: TRACE_CTRL.EN is 1 and authorization is OPEN (R420, R434). -/
def State.traceOn (s : State) : Bool := s.on F.DBG_TRACE_CTRL_EN 0 && !s.dbg.locked

/-- Ticks in which the port sends a byte: 300 MB/s (R434). -/
def traceByteTicks : Nat := 5

/-- Bytes enter the FIFO. -/
def State.traceBytes (s : State) (b : List Byte) : State :=
  let d := s.dbg
  s.setDebug { d with
    trace := d.trace ++ b
    traceAt := if d.trace.isEmpty then s.time else d.traceAt
    traceSync := d.traceSync + b.length }

/-- The bytes of a TIME packet (R435). -/
def State.timePacket (s : State) : List Byte := 0x18#8 :: toBytes 8 s.now.toNat

/-- SYNC, then TIME, when they are due and there is room for them. -/
def State.traceOpen (s : State) : State :=
  if s.dbg.traceSync < 4096 || s.traceRoom < 17 then s
  else
    let s := s.traceBytes (0xF7#8 :: List.replicate 7 0xFF#8 ++ s.timePacket)
    s.setDebug { s.dbg with traceSync := 0, traceTime := s.now }

/-- An OVERFLOW packet tells the packets lost as soon as there is room for it, and SYNC follows it (R435). -/
def State.traceTell (s : State) : State :=
  if s.dbg.traceLost = 0 || s.traceRoom < 3 then s
  else
    let s := s.traceBytes (0x62#8 :: toBytes 2 (min 65535 s.dbg.traceLost))
    s.setDebug { s.dbg with traceLost := 0, traceSync := 4096 }

/-- The bytes of a packet that carries time, with a TIME packet first where TDELTA would exceed 0xFFFF (R435). -/
def State.tracePacketBytes (s : State) (header : Byte) (payload : List Byte) : List Byte :=
  let delta := (s.now - s.dbg.traceTime).toNat
  if 0xFFFF < delta then s.timePacket ++ header :: toBytes 2 0 ++ payload else header :: toBytes 2 delta ++ payload

/-- The port sends what its rate allows, and what waited for room enters the FIFO. -/
def State.traceSend (s : State) : State :=
  if !s.traceOn then s
  else
    let d := s.dbg
    let n := min d.trace.length ((s.time - d.traceAt).toNat / traceByteTicks)
    if n = 0 then s
    else
      let rest := d.trace.drop n
      let from' := if rest.isEmpty then s.time else d.traceAt + BitVec.ofNat 64 (traceByteTicks * n)
      (s.emit (.trace (d.trace.take n))).setDebug { d with trace := rest, traceAt := from' }

/-- A packet that carries time, while the trace runs; one that finds no room is dropped and counted (R435). -/
def State.tracePacket (s : State) (header : Byte) (payload : List Byte) : State :=
  if !s.traceOn then s
  else
    let s := s.traceSend.traceTell.traceOpen
    let b := s.tracePacketBytes header payload
    if s.traceRoom < b.length then
      (s.raise F.DBG_STATUS_TRACE_OVF 0).setDebug { (s.raise F.DBG_STATUS_TRACE_OVF 0).dbg with traceLost := s.dbg.traceLost + 1 }
    else
      let s := s.traceBytes b
      s.setDebug { s.dbg with traceTime := s.now }

/-- SYNC and TIME open the trace when EN is set (R435). -/
def State.traceStart (s : State) : State :=
  (s.setDebug { s.dbg with traceAt := s.time, traceSync := 4096 }).traceOpen

-- ------------------------------------------------------------------ stimulus ports (R436)

/-- A stimulus write that makes no packet is counted. -/
def State.stimDrop (s : State) : State := s.bump F.DBG_TRACE_STATUS_STIM_DROPS 0 1

/-- Port p's STIM packet. -/
def State.stimPacket (s : State) (p : Nat) (data : Word) : State :=
  s.tracePacket 0x27 (BitVec.ofNat 8 p :: toBytes 4 data.toNat)

/-- The STIM packet of a write would find room. -/
def State.stimRoom (s : State) (data : Word) : Bool :=
  decide ((s.tracePacketBytes 0x27 (0 :: toBytes 4 data.toNat)).length ≤ s.traceRoom)

/-- A write to stimulus port p (R420, R436); run is the CSR request whose answer waits for it when it stalls. -/
def State.stim (s : State) (p : Nat) (data : Word) (run : Option CsrRun) : State :=
  if !s.traceOn || !(s.word .DBG_STIM_EN 0).getLsbD p then s.stimDrop
  else
    let s := s.traceSend.traceTell.traceOpen
    if s.stimRoom data || !(s.word .DBG_STIM_STALL 0).getLsbD p then s.stimPacket p data
    else s.setDebug { s.dbg with stimWaits := s.dbg.stimWaits ++ [⟨p, data, s.time, run⟩] }

/-- A CSR request whose stimulus write ended goes on. -/
def State.runGoesOn (s : State) (run : Option CsrRun) : State :=
  match run with
  | some r => s.setDebug { s.dbg with resume := s.dbg.resume ++ [r] }
  | none => s

/-- The oldest stalled stimulus write, when there is room for its packet. -/
def State.stimNext (s : State) : State :=
  match s.dbg.stimWaits with
  | w :: rest =>
    if s.stimRoom w.data then ((s.setDebug { s.dbg with stimWaits := rest }).stimPacket w.port w.data).runGoesOn w.run else s
  | [] => s

/-- Time passes at the trace port: bytes leave, and what waited for room enters. -/
def State.traceDrain (s : State) : State :=
  if !s.traceOn then s else s.traceSend.traceTell.traceOpen.stimNext

/-- Ticks a stalled stimulus write waits at most: 4 µs (R436). -/
def stimStall : Nat := 4 * ticksPerUs

/-- STIM_STALL_EXPIRE: a stalled stimulus write waits 4 µs without room and is discarded (R436). -/
def State.stimExpire (s : State) : State :=
  match s.dbg.stimWaits with
  | [] => s
  | w :: _ =>
    let s := (s.advanceTo (w.since + BitVec.ofNat 64 stimStall)).traceDrain
    match s.dbg.stimWaits with
    | v :: rest => if v = w then ((s.setDebug { s.dbg with stimWaits := rest }).stimDrop).runGoesOn w.run else s
    | [] => s

end Sys2Proof.Machine
end

