-- ==== Sys2Proof/Machine/Debug.lean ====
section
/-! DEFINITION. The debug domain: run control (R425 to R427), comparators (R428 to R430), cross-trigger (R431, R432),
core registers and memory ports (R425, R433), authorization (R420 to R423), the TAP (R414 to R417), full-part programming
(R424). -/

namespace Sys2Proof.Machine

-- ------------------------------------------------------------------ who may write (R419, R420)

/-- A debug write that is refused (R420, R429): DBG.STATUS.REFUSED and a ledger entry. -/
def State.dbgRefused (s : State) (who : Who) (why : Reason) (r : Reg) (inst : Nat) (data : Word) : State :=
  (s.raise F.DBG_STATUS_REFUSED 0).journalRefusal who why r inst data.toNat

/-- The run-control, core-memory, comparator, cross-trigger, memory-port and trace registers (R419). -/
def dbgOwned : Reg → Bool
  | .DBG_CORE_RC | .DBG_CORE_REG_SEL | .DBG_CORE_REG_DATA | .DBG_CORE_MEM_ADDR | .DBG_CORE_MEM_DATA
  | .DBG_CMP_CTRL | .DBG_CMP_A | .DBG_CMP_B | .DBG_XT_CTRL | .DBG_XT_FIRE | .DBG_XT_CLEAR
  | .DBG_MEM_ADDR_LO | .DBG_MEM_ADDR_HI | .DBG_MEM_DATA | .DBG_MEM_CTRL | .DBG_TRACE_CTRL | .DBG_STIM_EN
  | .DBG_STIM_STALL => true
  | _ => false

/-- Why a write to a DBG register is refused before it is looked at (R419, R420). -/
def State.dbgBarred (s : State) (who : Who) (r : Reg) : Option Reason :=
  if r = .DBG_AUTH then none
  else if s.dbg.locked then some .debugLocked
  else if dbgOwned r && !(1 ≤ who.origin.toNat && who.origin.toNat ≤ 3) then some .command
  else none

/-- A write goes on, or is refused (R419, R420). -/
def State.dbgGate (s : State) (who : Who) (r : Reg) (inst : Nat) (data : Word) (go : State → State) : State :=
  match s.dbgBarred who r with
  | some why => s.dbgRefused who why r inst data
  | none => go s

-- ------------------------------------------------------------------ halts (R425 to R427)

/-- The CORES_HALTED bit of a core. -/
def State.setHalted (s : State) (n : Nat) (on : Bool) : State :=
  let s := s.setF F.DBG_CORE_RC_HALTED n (if on then 1 else 0)
  let bits := s.f F.DBG_STATUS_CORES_HALTED 0
  let rest := bits - (if bits.testBit n then 2 ^ n else 0)
  s.setF F.DBG_STATUS_CORES_HALTED 0 (if on then rest + 2 ^ n else rest)

/-- A RUN packet (R435). -/
def State.runPacket (s : State) (n : Nat) (halted : Bool) : State :=
  s.tracePacket 0x53 [BitVec.ofNat 8 (16 * n + (if halted then 8 else 0) + s.f F.DBG_CORE_RC_CAUSE n)]

/-- Core n halts at an instruction boundary (R425, R426): its reservation is cleared. -/
def State.haltQuiet (s : State) (n cause : Nat) : State :=
  let s := s.setDebug { s.dbg with haltDue := Sparse.erase s.dbg.haltDue n }
  let s := s.setCore n { s.core n with reserve := none }
  let s := (s.setF F.DBG_CORE_RC_CAUSE n cause).setHalted n true
  (s.raise F.DBG_STATUS_HALTED 0).runPacket n true

/-- A halt is requested of core n (R425): one that waits for an access halts when the access completes. The cores that
halted. -/
def State.haltAsk (s : State) (n cause : Nat) : List Nat × State :=
  if !s.coreRuns n then ([], s)
  else if s.coreStalled n then
    ([], s.setDebug { s.dbg with haltDue := Sparse.insert s.dbg.haltDue n cause })
  else ([n], s.haltQuiet n cause)

/-- HALT_ALL: every running core halts (R431). -/
def State.haltAll (s : State) : List Nat × State :=
  (List.range (Part.cores s.part)).foldl (fun r n => let q := r.2.haltAsk n 3; (r.1 ++ q.1, q.2)) ([], s)

-- ------------------------------------------------------------------ the cross-trigger (R431, R432)

/-- The FREEZE output (R431, R432). -/
def State.xtFreeze (s : State) : State :=
  if s.configBarred || 2 ≤ s.capState then s.bump F.DBG_XT_STATUS_FREEZE_SKIPPED 0 1
  else
    let s := if s.capState = 0 then (s.setCap 1).putCfg { (s.setCap 1).cfg with captureFrom := s.time } else s
    s.enterNext (.direct 34)

/-- STAT_CTRL.FREEZE in every NI, together, at the tick at hand (R431; which Beam tick is left open: DESIGN CHOICE, assumption
218). -/
def State.statFreeze (s : State) (on : Bool) : State :=
  ((List.range 0xA0).filter (niPresent s.part)).foldl
    (fun s n => s.setF F.NI_STAT_CTRL_FREEZE n (if on then 1 else 0)) s

/-- The outputs of a channel that fired, but for its MARK (R431): the cores that halted, and the state. -/
def State.xtOutputs (s : State) (k : Nat) : List Nat × State :=
  let out := s.f F.DBG_XT_CTRL_OUT k
  let s := if out.testBit 1 then s.xtFreeze else s
  let s := if out.testBit 2 then s.statFreeze true else s
  if out.testBit 0 then s.haltAll else ([], s)

/-- Channels fire together (R431): each sets FIRED, their MARK packets come first, then their other outputs act. -/
def State.xtFire (s : State) (ks : List Nat) : List Nat × State :=
  let s := ks.foldl (fun s k => (s.raise F.DBG_XT_CTRL_FIRED k).raise F.DBG_STATUS_XT_FIRED 0) s
  let s := (ks.filter fun k => (s.f F.DBG_XT_CTRL_OUT k).testBit 3).foldl
    (fun s k => s.tracePacket 0x33 [BitVec.ofNat 8 k]) s
  ks.foldl (fun r k => let q := r.2.xtOutputs k; (r.1 ++ q.1, q.2)) ([], s)

/-- The channels that fire on the rising edges of some inputs: those not fired that enable one of them. -/
def State.xtTakes (s : State) (inputs : List Nat) : List Nat :=
  (List.range 2).filter fun k =>
    !s.on F.DBG_XT_CTRL_FIRED k && inputs.any fun i => (s.f F.DBG_XT_CTRL_IN k).testBit i

/-- Rising edges of cross-trigger inputs (R431). A channel fires once, so that three rounds reach the end. -/
def State.xtEdges (s : State) (inputs : List Nat) : Nat → State
  | 0 => s
  | n + 1 =>
    match s.xtTakes inputs with
    | [] => s
    | k :: ks =>
      let (halted, s) := s.xtFire (k :: ks)
      s.xtEdges halted n

/-- The cross-trigger sees edges of its inputs. -/
def State.xtInput (s : State) (inputs : List Nat) : State := s.xtEdges inputs 3

/-- XT_FIRE fires channels (R431); a channel that has fired ignores it. -/
def State.writeXtFire (s : State) (data : Word) : State :=
  match (List.range 2).filter fun k => data.getLsbD k && !s.on F.DBG_XT_CTRL_FIRED k with
  | [] => s
  | k :: ks =>
    let (halted, s) := s.xtFire (k :: ks)
    s.xtInput halted

/-- XT_CLEAR re-arms channels and ends the statistics freeze (R431). -/
def State.writeXtClear (s : State) (data : Word) : State :=
  let s := ((List.range 2).filter fun k => data.getLsbD k).foldl (fun s k => s.setF F.DBG_XT_CTRL_FIRED k 0) s
  if data.getLsbD 2 then s.statFreeze false else s

-- ------------------------------------------------------------------ run control (R425)

/-- A halt is requested of core n, and the cross-trigger sees it take effect. -/
def State.haltCore (s : State) (n cause : Nat) : State :=
  let (halted, s) := s.haltAsk n cause
  s.xtInput halted

/-- Halts that waited for an access, or for a core to run, take effect (R425, R427). -/
def State.haltsDue (s : State) : State :=
  s.dbg.haltDue.foldl
    (fun s kv =>
      if s.coreRuns kv.1 && !s.coreStalled kv.1 && s.dbg.haltDue.any (·.1 == kv.1) then
        (s.haltQuiet kv.1 kv.2).xtInput [kv.1]
      else s) s

/-- The halt of a core ends without its resuming: it is STOPPED, or its region is off (R425, R437). -/
def State.haltEnds (s : State) (n : Nat) : State :=
  let s := s.setDebug { s.dbg with haltDue := Sparse.erase s.dbg.haltDue n }
  s.setHalted n false

/-- A halted core runs on (R425). -/
def State.resumeCore (s : State) (n : Nat) : State :=
  if s.on F.DBG_CORE_RC_HALTED n then (s.setHalted n false).runPacket n false else s

/-- What one instruction did to a core's registers (R425). -/
def State.coreStep (s : State) (n : Nat) (x : CoreStep) : State :=
  let s := x.x.foldl (fun s kv => s.setCoreX n kv.1 kv.2) s
  let s := x.csrs.foldl (fun s kv => s.setCoreCsr n (kv.1 % 4096) kv.2) s
  s.setCore n { s.core n with pc := x.pc }

/-- What a step does (R425): one instruction, or, with STEP_MASK = 0, the interrupt that is to be taken ahead of it (assumption
213). -/
def State.stepOnce (s : State) (n : Nat) (x : CoreStep) : State :=
  if !s.on F.DBG_CORE_RC_STEP_MASK n && s.coreInterrupted n then s.takeInterrupt n else s.coreStep n x

/-- A halted core executes one instruction and halts again (R425). -/
def State.stepCore (s : State) (n : Nat) (x : CoreStep) : State :=
  if s.on F.DBG_CORE_RC_HALTED n && s.corePresent n then
    (((s.resumeCore n).stepOnce n x).haltQuiet n 4).xtInput [n]
  else s

/-- An instruction of which nothing is known: every general register and the pc take free values (assumption 109). -/
def State.freeStep (s : State) : CoreStep × State :=
  let (ws, s) := State.freeWords 32 s
  (⟨(List.range 31).map fun i => (i + 1, ws.getD (i + 1) 0), [], ws.getD 0 0⟩, s)

/-- A write of CORE_RC (R425): its plain fields, then HALT, RESUME and STEP. -/
def State.writeCoreRc (s : State) (who : Who) (n : Nat) (data : Word) : State :=
  let s := s.writeTyped who .DBG_CORE_RC n (data &&& 0xFFFFFFF8#32)
  let s := if data.getLsbD 0 then s.haltCore n 1 else s
  let s := if data.getLsbD 1 then s.resumeCore n else s
  if data.getLsbD 2 then let (x, s) := s.freeStep; s.stepCore n x else s

-- ------------------------------------------------------------------ comparators (R428 to R430)

/-- The instance of comparator c of core n. -/
def cmpInst (n c : Nat) : Nat := 8 * n + c

/-- A comparator's own condition on an instruction (R429). -/
def State.cmpSees (s : State) (n c : Nat) (i : Insn) : Bool :=
  let k := cmpInst n c
  let a := (s.word .DBG_CMP_A k).toNat
  let b := (s.word .DBG_CMP_B k).toNat
  let within := fun (x : Word) => decide (a ≤ x.toNat ∧ x.toNat < b)
  let masked := fun (x : Word) => (x &&& s.word .DBG_CMP_B k) == s.word .DBG_CMP_A k
  s.on F.DBG_CMP_CTRL_EN k &&
  (match s.f F.DBG_CMP_CTRL_TYPE k with
   | 0 => within i.pc
   | 1 => i.access.any fun x => !x.1 && within x.2.1
   | 2 => i.access.any fun x => x.1 && within x.2.1
   | 3 => i.access.any fun x => within x.2.1
   | 4 => i.access.any fun x => masked x.2.2
   | 5 => masked (s.coreCsr n 0x7C0)
   | _ => false)

/-- LINK of comparator c: 0 none, 1 AND, 2 SEQ. -/
def State.cmpLink (s : State) (n c : Nat) : Nat := s.f F.DBG_CMP_CTRL_LINK (cmpInst n c)

/-- Which comparators of core n match, in order from comparator c on (R430); prev says that the one before matched. -/
def State.cmpMatches (s : State) (n : Nat) (i : Insn) (prev : Bool) (c : Nat) : Nat → List Nat
  | 0 => []
  | k + 1 =>
    let own := s.cmpSees n c i
    let link := if c = 0 then 0 else s.cmpLink n (c - 1)
    let m := own && (link == 0 || (link == 1 && prev) || (link == 2 && s.on F.DBG_CMP_CTRL_ARMED (cmpInst n c)))
    (if m then [c] else []) ++ s.cmpMatches n i m (c + 1) k

/-- A match of comparator c (R429, R430): HIT and HITS; a SEQ successor is armed, and a SEQ comparator disarms. -/
def State.cmpMark (s : State) (n c : Nat) : State :=
  let k := cmpInst n c
  let s := (s.raise F.DBG_CMP_CTRL_HIT k).bump F.DBG_CMP_CTRL_HITS k 1
  let s := if s.cmpLink n c = 2 ∧ c < 7 then s.raise F.DBG_CMP_CTRL_ARMED (k + 1) else s
  s

/-- The last comparator of a chain acts by its ACTION (R429, R430). Whether a halt is asked for, whether cross-trigger
input 4 + n fires, and the state. -/
def State.cmpAct (s : State) (n c : Nat) : Bool × Bool × State :=
  if s.cmpLink n c ≠ 0 then (false, false, s)
  else
    let packet := fun (s : State) => s.tracePacket 0x43 [BitVec.ofNat 8 (16 * n + c)]
    match s.f F.DBG_CMP_CTRL_ACTION (cmpInst n c) with
    | 1 => (true, false, s)
    | 2 => (false, true, s)
    | 3 => (false, false, packet s)
    | 4 => (true, false, packet s)
    | _ => (false, false, s)

/-- The comparators of core n see an instruction (R429, R430). -/
def State.compare (s : State) (n : Nat) (i : Insn) : State :=
  if !s.coreRuns n then s
  else
    let ms := s.cmpMatches n i false 0 8
    let fired := ms.filter fun c => c ≠ 0 && s.cmpLink n (c - 1) == 2
    let before := ms.any fun c => s.f F.DBG_CMP_CTRL_TYPE (cmpInst n c) == 0 || s.f F.DBG_CMP_CTRL_TYPE (cmpInst n c) == 5
    let s := ms.foldl (fun s c => s.cmpMark n c) s
    let s := fired.foldl (fun s c => s.setF F.DBG_CMP_CTRL_ARMED (cmpInst n c) 0) s
    let (halt, fire, s) := ms.foldl
      (fun r c => let q := r.2.2.cmpAct n c; (r.1 || q.1, r.2.1 || q.2.1, q.2.2)) (false, false, s)
    let s := if ms.isEmpty then s else s.setCore n { s.core n with pc := if before then i.pc else i.next }
    let s := if fire then s.xtInput [4 + n] else s
    if halt then s.haltCore n 2 else s

/-- A write of CMP_CTRL (R429, R430): reserved encodings, and a LINK on comparator 7, are refused. -/
def State.writeCmpCtrl (s : State) (who : Who) (k : Nat) (data : Word) : State :=
  let link := fieldOf data 7 2
  if 6 ≤ fieldOf data 1 3 ∨ 5 ≤ fieldOf data 4 3 ∨ link = 3 ∨ (k % 8 = 7 ∧ link ≠ 0) then
    s.dbgRefused who .encoding .DBG_CMP_CTRL k data
  else s.writeTyped who .DBG_CMP_CTRL k data

-- ------------------------------------------------------------------ core registers (R425)

/-- The selected register of core n; 0 while the core is not halted. -/
def State.coreRegRead (s : State) (n : Nat) : Word :=
  let sel := s.f F.DBG_CORE_REG_SEL_SEL n
  if !s.on F.DBG_CORE_RC_HALTED n then 0
  else if sel < 0x1000 then s.coreCsr n sel
  else if sel < 0x1020 then s.coreX n (sel - 0x1000)
  else (s.core n).pc

/-- A write of the selected register; refused while the core is not halted. -/
def State.coreRegWrite (s : State) (who : Who) (n : Nat) (data : Word) : State :=
  let sel := s.f F.DBG_CORE_REG_SEL_SEL n
  if !s.on F.DBG_CORE_RC_HALTED n then s.dbgRefused who .command .DBG_CORE_REG_DATA n data
  else if sel < 0x1000 then s.setCoreCsr n sel data
  else if sel < 0x1020 then s.setCoreX n (sel - 0x1000) data
  else s.setCore n { s.core n with pc := data }

/-- A write of CORE_REG_SEL: a number that names no register is refused. -/
def State.writeCoreRegSel (s : State) (who : Who) (n : Nat) (data : Word) : State :=
  if 0x1020 < fieldOf data 0 13 then s.dbgRefused who .encoding .DBG_CORE_REG_SEL n data
  else s.writeTyped who .DBG_CORE_REG_SEL n data

-- ------------------------------------------------------------------ memory ports (R425, R433)

/-- The NI a port's accesses leave from. -/
def portNi (port : Nat) : Nat := if port = 4 then 0x9A else 0x94 + port

/-- The NoC address a port's access is made at; none for a core's local address. -/
def State.portAddr (s : State) (port : Nat) : Option Nat :=
  if port = 4 then some (s.pair .DBG_MEM_ADDR_LO .DBG_MEM_ADDR_HI 0 % 2 ^ 48)
  else
    let a := (s.word .DBG_CORE_MEM_ADDR port).toNat
    match regionOf a with
    | .aperture => some (csrBase + (a - 0x30000000))
    | .far => some ((s.pair .SEQ_FAR_BASE_LO .SEQ_FAR_BASE_HI port + (a - 0x40000000)) % 2 ^ 48)
    | _ => none

/-- An access of a port ends: the address advances (not after a read with the debug attribute, R433), an error is shown, and what waited goes on with the word read. -/
def State.memEnds (s : State) (m : MemAccess) (err : Option Nat) (v : Word) : State :=
  let s :=
    if m.port = 4 then
      let s := match err with
        | some e => (s.raise F.DBG_MEM_CTRL_ERR 0).setF F.DBG_MEM_CTRL_ERR_CODE 0 e
        | none => s
      if s.on F.DBG_MEM_CTRL_AUTOINC 0 && !m.quiet then
        let a := (s.pair .DBG_MEM_ADDR_LO .DBG_MEM_ADDR_HI 0 + 4) % 2 ^ 48
        s.setPair .DBG_MEM_ADDR_LO .DBG_MEM_ADDR_HI 0 a
      else s
    else
      let s := if err.isSome then s.raise F.DBG_STATUS_REFUSED 0 else s
      if m.quiet then s else s.setWord .DBG_CORE_MEM_ADDR m.port (s.word .DBG_CORE_MEM_ADDR m.port + 4)
  match m.back with
  | .none => s
  | .run r => s.runGoesOn (some { r with got := r.got ++ toBytes 4 v.toNat })
  | .jtag => s.setDebug { s.dbg with
      accessRunning := false, accessDone := true, accessData := if m.data.isSome then s.dbg.accessData else v }

/-- An access of a core's port to a local memory: a fault, or the word read (R373, R425). -/
def State.localPort (s : State) (n : Nat) (data : Option Word) : Option Word × State :=
  let a := (s.word .DBG_CORE_MEM_ADDR n).toNat
  let g := regionOf a
  match data with
  | none => if allowed g .load && a % 4 = 0 then (some (s.localWord n a), s) else (none, s)
  | some v =>
    if allowed g .store && a % 4 = 0 then (some 0, (s.setLocalWord n a v).clearOthers n a) else (none, s)

/-- The first access of a port begins: at the NI, or in a local memory, where it ends at once. Without an NI that takes it
the access ends FENCED (R415). The access that ended, if it did: its error and word. -/
def State.memBegin (s : State) (m : MemAccess) : Option (Option Nat × Word) × State :=
  match s.portAddr m.port with
  | none =>
    match s.localPort m.port m.data with
    | (some v, s) => (some (none, v), s)
    | (none, s) => (some (some 5, 0), s)
  | some a =>
    let n := portNi m.port
    if !s.niTakes n || (s.freeTag n).isNone then (some (some 2, 0), s)
    else
      let s := if m.port = 4 then s.putNet { s.net with debugOrigin := m.who.origin } else s
      let dbg := if m.port = 4 then s.on F.DBG_MEM_CTRL_DBG_ATTR 0 else true
      let cmd : Cmd := if m.data.isSome then .wr else .rd
      let bytes := match m.data with
        | some v => toBytes 4 v.toNat
        | none => []
      (none, s.request n ⟨cmd, a, 3, [], 0, bytes, dbg, false, false, 0, .debug m.port⟩)

/-- Accesses of a list begin one after another, until one has to wait; what remains waits. -/
def State.memGo (s : State) (port : Nat) : Nat → State
  | 0 => s
  | k + 1 =>
    match s.dbg.memPort.find? (·.port == port) with
    | none => s
    | some m =>
      match s.memBegin m with
      | (some (e, v), s) =>
        ((s.setDebug { s.dbg with memPort := s.dbg.memPort.erase m }).memEnds m e v).memGo port k
      | (none, s) => s

/-- An access to MEM_DATA, or to CORE_MEM_DATA of a halted core. -/
def State.memAccess (s : State) (m : MemAccess) : State :=
  let busy := s.dbg.memPort.any (·.port == m.port)
  let s := s.setDebug { s.dbg with memPort := s.dbg.memPort ++ [m] }
  if busy then s else s.memGo m.port 1

/-- The response of a port's access (R433). -/
def State.memAnswer (s : State) (port : Nat) (c : Completion) : State :=
  match s.dbg.memPort.find? (·.port == port) with
  | none => s
  | some m =>
    let err := if c.answer = .rspErr then some c.err else none
    let v := if err.isSome then 0 else BitVec.ofNat 32 (fromBytes (c.data.take 4))
    let s := s.setDebug { s.dbg with memPort := s.dbg.memPort.erase m }
    (s.memEnds m err v).memGo port s.dbg.memPort.length

/-- A core's port acts only while the core is halted: a read gives 0, a write is refused. -/
def State.coreMemAccess (s : State) (who : Who) (n : Nat) (data : Option Word) : State :=
  if s.on F.DBG_CORE_RC_HALTED n then s.memAccess ⟨n, data, who, false, .none⟩
  else
    match data with
    | some v => s.dbgRefused who .command .DBG_CORE_MEM_DATA n v
    | none => s

-- ------------------------------------------------------------------ ledger entries

/-- A DEBUG entry (R441). The manual gives its AUX and not its body: those words are free values. -/
def State.journalDebug (s : State) (origin : BitVec 8) (aux : Nat) : State :=
  let (a, s) := s.freeWord
  let (b, s) := s.freeWord
  let (c, s) := s.freeWord
  let (d, s) := s.freeWord
  s.journal origin 0x0C aux ⟨a.toNat, b.toNat, c.toNat, d.toNat⟩

-- ------------------------------------------------------------------ the TAP (R416, R417)

/-- The boundary register gives the pins back (R417): each returns to its function by steps 1 to 3 of R394. -/
def State.boundaryLeaves (s : State) : State :=
  let switches := (List.range 208).map fun p =>
    let w : PinSwitch := ⟨s.time, s.padLevel p, []⟩
    (p, w)
  (s.putPins { s.pins with
    switching := switches.foldl
      (fun c kv =>
        let waiting := ((c.find? (·.1 == kv.1)).map fun x => x.2.waiting).getD []
        Sparse.insert c kv.1 { kv.2 with waiting := waiting }) s.pins.switching })

/-- The TAP takes an instruction that is not refused: entering EXTEST, CLAMP or HIGHZ takes the controllable pins and
makes a DEBUG entry; leaving them gives the pins back (R417). -/
def State.selectIr (s : State) (code : BitVec 8) (refused : Bool) : State :=
  let boundary := code == 0 || code == 3 || code == 4
  let s := if s.boundaryHas && !boundary then s.boundaryLeaves else s
  let s := if boundary && s.dbg.ir != code then
      let (ws, s) := State.freeWords 14 s
      (s.setDebug { s.dbg with boundary := ws }).journalDebug 0x02 4
    else s
  s.setDebug { s.dbg with ir := code, irRefused := refused }

/-- A TAP instruction update (R416). -/
def State.irUpdate (s : State) (code : BitVec 8) : State :=
  let c := code.toNat
  if s.dbg.locked && (c == 0 || c == 3 || c == 4 || c == 0x11 || c == 0x12) then s.selectIr 0xFF true
  else if c ≤ 4 ∨ (0x10 ≤ c ∧ c ≤ 0x12) then s.selectIr code false
  else s.selectIr 0xFF false

/-- What the IR captures (R416). -/
def State.irCapture (s : State) : BitVec 8 :=
  BitVec.ofNat 8 (1 + (if s.dbg.locked then 4 else 0) + (if s.dbg.irRefused then 8 else 0))

/-- IDCODE (R417). -/
def State.idcode (s : State) : Word :=
  BitVec.ofNat 32 (2 ^ 28 * s.part.stepping.toNat + 2 ^ 12 * Part.dieId s.part + 2 * 0x5C3 + 1)

/-- The TAP alone is reset (R414). -/
def State.tapReset (s : State) : State := s.selectIr 0x02 false

-- ------------------------------------------------------------------ the DBG reset (R414)

/-- The DBG reset (R414): the fields of domain DBG return to their Reset values, halts end with the cores resuming at
their PC, accesses in progress are discarded, the trace FIFO empties, the TAP is reset. -/
def State.dbgReset (s : State) : State :=
  let s := s.tapReset
  let s := s.resetRegs fun r _ => (regSpec r).domain == .DBG
  s.setDebug { s.dbg with
    accessData := 0, accessDone := false, accessError := false, accessErr := 0, accessRunning := false
    memPort := [], resume := [], haltDue := [], trace := [], traceSync := 0, traceLost := 0, stimWaits := [] }

/-- A write of DBG.CTRL (R414, R424): HOLD_CFG, then a DBG reset, then a SYS_RESET with cause DEBUG. -/
def State.writeDbgCtrl (s : State) (who : Who) (data : Word) : State :=
  let s := s.writeTyped who .DBG_CTRL 0 (data &&& 1#32)
  let s := if data.getLsbD 1 then s.dbgReset else s
  if fieldOf data 16 16 = 0xA5C3 then s.putDev { s.dev with due := s.dev.due ++ [.sysReset 5 who.origin] } else s

-- ------------------------------------------------------------------ authorization (R420 to R423)

/-- Key 0x10C6 (R421). -/
def State.lock (s : State) (who : Who) : State :=
  let s := s.dbgReset
  (s.setDebug { s.dbg with locked := true }).journalDebug who.origin 1

/-- The origins whose unlock key is taken (R422). -/
def unlockFrom (o : BitVec 8) : Bool := o == 2 || o == 1 || decide (0x10 ≤ o.toNat ∧ o.toNat < 0x14)

/-- Key 0x0FE2 (R422): the erase is stored as pending and a SYS_RESET follows; it is refused while OPEN, from another
origin, and while an erase runs. -/
def State.unlock (s : State) (who : Who) : State :=
  if !s.dbg.locked || !unlockFrom who.origin || s.dbg.erasing then
    s.dbgRefused who .encoding .DBG_AUTH 0 0x0FE20000#32
  else
    let s := (s.setDebug { s.dbg with erasing := true }).journalDebug who.origin 2
    (s.putDev { s.dev with due := s.dev.due ++ [.sysReset 5 who.origin] })

/-- A write of DBG.AUTH (R421, R422). -/
def State.writeAuth (s : State) (who : Who) (data : Word) : State :=
  let key := fieldOf data 16 16
  if key = 0x10C6 then s.lock who
  else if key = 0x0FE2 then s.unlock who
  else s.dbgRefused who .encoding .DBG_AUTH 0 data

/-- What DBG.AUTH reads. -/
def State.authWord (s : State) : Word :=
  BitVec.ofNat 32 ((if s.dbg.locked then 1 else 0) + (if s.dbg.erasing then 2 else 0))

/-- The unlock erase has ended (R422 steps 3 to 5): slots 1 to 6, the firmware and the calibration area read 0, the core
memories are zero, authorization is OPEN, and configuration proceeds. -/
def State.eraseDone (s : State) : State :=
  if !s.dbg.erasing || s.dev.porst || !s.dbg.waiting || s.power.outOfRange.contains 8 then s
  else
    let gone := fun (a : Nat) =>
      decide (slotBase 1 ≤ a ∧ a < slotBase 7) || decide (firmwareArea ≤ a ∧ a < firmwareArea + 0x400000) ||
      decide (calibrationArea ≤ a ∧ a < calibrationArea + 0x200000)
    let s := (s.putCfg { s.cfg with store := s.cfg.store.filter fun kv => !gone kv.1 }).putSeq { s.seq with tcm := [], sram := [] }
    let s := (s.setDebug { s.dbg with locked := false, erasing := false, waiting := false }).journalDebug s.ownOrigin 3
    (s.raise F.DBG_STATUS_UNLOCKED 0).bootLoad

-- ------------------------------------------------------------------ full-part programming (R424)

/-- A GOLD_PROG command (R424): it acts while the device waits under HOLD_CFG with authorization OPEN; elsewhere it is
refused. -/
def State.goldCommand (s : State) (cmd : Word) : State :=
  if s.dbg.ir ≠ 0x12 then s
  else if !s.dbg.waiting || s.dbg.locked || s.dbg.erasing || s.loading then
    s.setDebug { s.dbg with irRefused := true }
  else
    match cmd.toNat with
    | 1 => s.loadBegin (newLoad (.slot 0) 4 0 ⟨0x02, 0xFF⟩)
    | 2 =>
      ((s.putRepair { s.repair with retired := [] }).setF F.REPAIR_RETIRED_COUNT 0 0).journalDebug 0x02 6
    | 3 => (s.putHbm { s.hbm with repaired := [] }).journalDebug 0x02 7
    | _ => s.setDebug { s.dbg with irRefused := true }

end Sys2Proof.Machine
end

