-- ==== Sys2Proof/Machine/Lane.lean ====
section
/-! DEFINITION. The serial lanes (R307 to R329): restart checks, receive and transmit streams, SYSREF alignment, guards,
alerts, the eye scan. A lane is numbered 4q + i. -/

namespace Sys2Proof.Machine

/-- A lane with no stream. -/
def laneInit : LaneState :=
  { part := [], partDrop := false, held := [], multiblock := 0, line := 0, txFrom := none, txNext := 0, txAsked := 0, txHand := []
    txFirst := none }

/-- Lane l. -/
def State.lane (s : State) (l : Nat) : LaneState := Sparse.get laneInit s.lanes.lanes l

/-- The state with lane l replaced. -/
def State.setLane (s : State) (l : Nat) (v : LaneState) : State :=
  s.putLanes { s.lanes with lanes := Sparse.set laneInit s.lanes.lanes l v }

/-- The NI of a lane's quad. -/
def laneNi (l : Nat) : Nat := 0x70 + l / 4

/-- MODE of a quad (R308). -/
def State.quadMode (s : State) (q : Nat) : Nat := s.f F.LANE_QUAD_CFG_MODE q

/-- The lane started at the last restart, and its quad runs or is stopping. -/
def State.laneStarted (s : State) (l : Nat) : Bool :=
  (Sparse.get 0 s.lanes.started (l / 4)).getLsbD (l % 4) && s.funcState (.quad (l / 4)) != 0

/-- The lane's receiver is enabled. -/
def State.rxOn (s : State) (l : Nat) : Bool := s.laneStarted l && (s.f F.LANE_QUAD_CFG_RX_EN (l / 4)).testBit (l % 4)

/-- The lane's transmitter is enabled and allowed (R324). -/
def State.txOn (s : State) (l : Nat) : Bool :=
  s.laneStarted l && (s.f F.LANE_QUAD_CFG_TX_EN (l / 4)).testBit (l % 4) &&
  (s.f F.LANE_TX_GUARD_LANES_ALLOWED (l / 4)).testBit (l % 4)

/-- The mode sends and receives byte streams. -/
def streamMode (m : Nat) : Bool := m == 1 || m == 2 || m == 3

-- ------------------------------------------------------------------ alerts (R325)

/-- An alert of a lane: an urgent 8-byte WRP to ALERT_ADDR. -/
def State.laneAlert (s : State) (l cause : Nat) (on : Fld) : State :=
  let q := l / 4
  if s.on F.LANE_ALERT_CTRL_EN q && s.on on q then
    let a := (s.pair .LANE_ALERT_ADDR_LO .LANE_ALERT_ADDR_HI q) % 2 ^ 48 / 8 * 8
    let body := cause + 2 ^ 16 * l + 2 ^ 32 * (s.now.toNat % 2 ^ 32)
    s.request (0x70 + q) ⟨.wrp, a, 7, [], 0, toBytes 8 body, false, false, true, 0, .none⟩
  else s

/-- A status bit of a lane is set, with its alert when it was clear: SLIP and LATE_MB are one cause of an alert (R325,
assumption 204). -/
def State.laneFlag (s : State) (l : Nat) (bit : Fld) (cause : Nat) (on : Fld) : State :=
  let told := cause == 0x0303 && (s.on F.LANE_LANE_STATUS_SLIP l || s.on F.LANE_LANE_STATUS_LATE_MB l)
  if s.on bit l then s else if told then s.raise bit l else (s.raise bit l).laneAlert l cause on

-- ------------------------------------------------------------------ bytes and the line (R314, R322)

/-- Bytes in groups of eight. -/
def eights : List Byte → List (List Byte)
  | a :: b :: c :: d :: e :: f :: g :: h :: rest => [a, b, c, d, e, f, g, h] :: eights rest
  | [] => []
  | rest => [rest]

/-- The line words that carry bytes of a stream (R314): the payload of 64b/66b blocks, or in RAW_TRANSPARENT words whose
first bit is bit 0 of the first byte. -/
def lineWords (mode : Nat) (data : List Byte) : List LineWord :=
  (eights data).map fun xs => if mode = 3 then .bits (BitVec.ofNat 64 (fromBytes xs)) else .octets xs

/-- The bytes that octets of a JESD stream bring (R314). -/
def lineOctets (line : List LineWord) : List Byte :=
  line.flatMap fun w => match w with
    | .octets xs => xs
    | _ => []

/-- The 64b/66b self-synchronous descrambler over the 58 bits before and 64 more (R322, assumption 205): each bit with
the bits 39 and 58 before it. -/
def descrambled (before : BitVec 58) (bits : BitVec 64) : BitVec 64 × BitVec 58 :=
  let x : BitVec 122 := bits ++ before
  (bits ^^^ (x >>> 19).setWidth 64 ^^^ x.setWidth 64, (x >>> 64).setWidth 58)

-- ------------------------------------------------------------------ the restart checks (R309, R315, R316)

/-- The length of an extended multiblock, or of an 8b/10b multiframe, in bytes. -/
def State.multiblockBytes (s : State) (q : Nat) : Nat :=
  if s.on F.LANE_JESD_CFG_ENC q then 256 * (s.f F.LANE_JESD_CFG_E q + 1)
  else (s.f F.LANE_JESD_CFG_K q + 1) * (s.f F.LANE_JESD_CFG_F q + 1)

/-- LEMC_TICKS of a quad's settings, when it is a whole number (R316). -/
def State.lemcTicks (s : State) (q : Nat) : Option Nat :=
  let rate := s.f F.LANE_QUAD_CFG_RATE_MBPS q
  let n := if s.on F.LANE_JESD_CFG_ENC q then (s.f F.LANE_JESD_CFG_E q + 1) * 3168000
    else (s.f F.LANE_JESD_CFG_K q + 1) * (s.f F.LANE_JESD_CFG_F q + 1) * 15000
  if rate = 0 ∨ n % rate ≠ 0 ∨ n / rate = 0 ∨ 65535 < n / rate then none else some (n / rate)

/-- The rate lies in the mode's range (R308). -/
def State.rateFits (s : State) (q : Nat) : Bool :=
  let rate := s.f F.LANE_QUAD_CFG_RATE_MBPS q
  let pam4 := s.on F.LANE_QUAD_CFG_PAM4 q
  let nrz := decide (1000 ≤ rate ∧ rate ≤ 32500)
  match s.quadMode q with
  | 0 => true
  | 1 => if s.on F.LANE_JESD_CFG_ENC q then decide (6000 ≤ rate ∧ rate ≤ 32500) else decide (1000 ≤ rate ∧ rate ≤ 12500)
  | 2 | 3 | 5 => if pam4 then rate == 53125 else nrz
  | 4 => rate == 8000 || rate == 16000 || rate == 32000
  | _ => false

/-- A JESD combination is valid (R315, R316, R318: 8b/10b receives only). -/
def State.jesdFits (s : State) (q : Nat) : Bool :=
  let fk := (s.f F.LANE_JESD_CFG_K q + 1) * (s.f F.LANE_JESD_CFG_F q + 1)
  (s.on F.LANE_JESD_CFG_ENC q || (decide (17 ≤ fk ∧ fk ≤ 1024) && s.f F.LANE_QUAD_CFG_TX_EN q == 0)) &&
  (s.lemcTicks q).any fun t => decide (s.f F.LANE_SYSREF_CFG_RBD q < 4 * t)

/-- A ring's size, chunk and base are valid (R309, R310). -/
def ringFits (base log chunk : Nat) : Bool :=
  decide (12 ≤ log ∧ log ≤ 30) && decide (8 ≤ chunk ∧ chunk ≤ 12) && base % 2 ^ log == 0

/-- The receive ring base of a lane. -/
def State.rxBase (s : State) (l : Nat) : Nat := s.pair .LANE_RX_BASE_LO .LANE_RX_BASE_HI l % 2 ^ 48
/-- The transmit ring base of a lane. -/
def State.txBase (s : State) (l : Nat) : Nat := s.pair .LANE_TX_BASE_LO .LANE_TX_BASE_HI l % 2 ^ 48

/-- A lane's own settings are valid in its mode. -/
def State.laneFits (s : State) (l : Nat) : Bool :=
  let q := l / 4
  let rx := (s.f F.LANE_QUAD_CFG_RX_EN q).testBit (l % 4)
  let tx := (s.f F.LANE_QUAD_CFG_TX_EN q).testBit (l % 4)
  if streamMode (s.quadMode q) then
    (!rx || ringFits (s.rxBase l) (s.f F.LANE_RX_SIZE_LOG2 l) (s.f F.LANE_RX_SIZE_CHUNK l)) &&
    (!tx || ringFits (s.txBase l) (s.f F.LANE_TX_SIZE_LOG2 l) (s.f F.LANE_TX_SIZE_CHUNK l))
  else if s.quadMode q = 5 then
    decide (s.f F.LANE_TEST_CTRL_PATTERN l ≤ 4) && s.f F.LANE_TEST_CTRL_LOOPBACK l != 3
  else true

/-- A quad can take root-port mode (R307, R308). -/
def rootCapable (p : Part) (q : Nat) : Bool := p.variant == .F && decide (24 ≤ q ∧ q < 32)

/-- A quad's settings are valid for all its lanes. -/
def State.quadFits (s : State) (q : Nat) : Bool :=
  let m := s.quadMode q
  s.rateFits q && (!s.on F.LANE_QUAD_CFG_PAM4 q || m == 2 || m == 3 || m == 5) &&
  (m != 1 || s.jesdFits q) && (m != 4 || rootCapable s.part q)

-- ------------------------------------------------------------------ transmit (R313, R321)

/-- The chunk length of a lane's transmitter. -/
def State.txChunk (s : State) (l : Nat) : Nat := 2 ^ s.f F.LANE_TX_SIZE_CHUNK l
/-- The chunk length of a lane's receiver. -/
def State.rxChunk (s : State) (l : Nat) : Nat := 2 ^ s.f F.LANE_RX_SIZE_CHUNK l

/-- The quad asks for transmit chunks, up to 8 ahead of the one it sends (R313). -/
def State.txAsk (s : State) (l : Nat) : Nat → State
  | 0 => s
  | n + 1 =>
    let v := s.lane l
    if !s.txOn l || s.funcState (.quad (l / 4)) != 1 || v.txNext + 8 ≤ v.txAsked || !s.niTakes (laneNi l) then s
    else
      let c := s.txChunk l
      let a := s.txBase l + v.txAsked * c % 2 ^ s.f F.LANE_TX_SIZE_LOG2 l
      let s := s.setLane l { v with txAsked := v.txAsked + 1 }
      (s.request (laneNi l) ⟨.rd, a, c - 1, [], 0, [], false, false, false, 0, .laneTx l v.txAsked⟩).txAsk l n

/-- Every chunk that may be asked for is. -/
def State.txAskAll (s : State) (l : Nat) : State := if streamMode (s.quadMode (l / 4)) then s.txAsk l 8 else s

/-- Payload bytes of n ticks of a transmit stream (R316, R320, R321): whole multiblocks in JESD, else by the rate. -/
def State.txBytes (s : State) (l n : Nat) : Nat :=
  let q := l / 4
  match s.quadMode q with
  | 1 => s.multiblockBytes q * (n / max 1 (s.f F.LANE_LEMC_TICKS q))
  | 2 => n * s.f F.LANE_QUAD_CFG_RATE_MBPS q * 64 / (66 * 8 * 1500)
  | _ => n * s.f F.LANE_QUAD_CFG_RATE_MBPS q / (8 * 1500)

/-- Ticks from the start of a transmit stream until byte n is due. -/
def State.txTicks (s : State) (l n : Nat) : Nat :=
  let q := l / 4
  let rate := max 1 (s.f F.LANE_QUAD_CFG_RATE_MBPS q)
  let up (a b : Nat) : Nat := (a + b - 1) / b
  match s.quadMode q with
  | 1 => max 1 (s.f F.LANE_LEMC_TICKS q) * up n (s.multiblockBytes q)
  | 2 => up (n * 66 * 8 * 1500) (rate * 64)
  | _ => up (n * 8 * 1500) rate

/-- k of the transmit stream now (TX_PTR). -/
def State.txK (s : State) (l : Nat) : Nat :=
  match (s.lane l).txFrom with
  | some t => s.txBytes l (s.time.toNat - t.toNat)
  | none => 0

/-- A chunk is sent as zeros (R313). -/
def State.txZeros (s : State) (l : Nat) (failed : Bool) : State :=
  let s := (s.bump F.LANE_ERR_CNT_UNDERRUN l 1).raise F.LANE_LANE_STATUS_UNDERRUN l
  if failed then s.raise F.LANE_LANE_STATUS_TX_RD_ERR l else s

/-- A chunk of a transmit stream goes out, padded with zeros to its length (R313, R314). -/
def State.txSends (s : State) (l chunk : Nat) (data : List Byte) : State :=
  let c := s.txChunk l
  s.emit (.lane l (chunk * c) (lineWords (s.quadMode (l / 4)) ((List.range c).map fun i => data.getD i 0)))

/-- The transmitter moves past the chunks in hand whose first byte is due (R313). -/
def State.txMove (s : State) (l : Nat) : Nat → State
  | 0 => s
  | n + 1 =>
    let v := s.lane l
    if v.txFrom.isNone || s.txK l < v.txNext * s.txChunk l then s
    else
      match v.txHand.find? (·.1 == v.txNext) with
      | some (_, d) =>
        let s := s.setLane l { v with txNext := v.txNext + 1, txHand := v.txHand.filter (·.1 != v.txNext) }
        let s := s.txSends l v.txNext (d.getD [])
        ((if d.isNone then s.txZeros l true else s).txAskAll l).txMove l n
      | none => s

/-- A read of a transmit chunk ends (R313); the answer is discarded once the quad has stopped (R328). -/
def State.txAnswer (s : State) (l chunk : Nat) (data : Option (List Byte)) : State :=
  let v := s.lane l
  if !s.laneStarted l || chunk < v.txNext || v.txAsked ≤ chunk then s
  else
    let first := if chunk = 0 then some s.time else v.txFirst
    (s.setLane l { v with txHand := v.txHand ++ [(chunk, data)], txFirst := first }).txMove l 9

/-- The first boundary at or after tick t of a quad aligned at b. -/
def boundaryAfter (b period t : Nat) : Nat := if t ≤ b then b else b + (t - b + period - 1) / period * period

/-- A transmitting lane begins its stream (R321): in JESD at the first boundary RBD ticks after alignment and the first
chunk in hand; in a raw mode at once. -/
def State.txStart (s : State) (l : Nat) : State :=
  let q := l / 4
  let v := s.lane l
  if !s.txOn l || v.txFrom.isSome || !streamMode (s.quadMode q) || s.funcState (.quad q) != 1 then s
  else
    let start : Option Nat :=
      if s.quadMode q = 1 ∧ s.on F.LANE_JESD_CFG_SUBCLASS q then
        match Sparse.get none s.lanes.aligned q, v.txFirst with
        | some b, some h =>
          some (boundaryAfter b.toNat (max 1 (s.f F.LANE_LEMC_TICKS q))
            (max b.toNat h.toNat + s.f F.LANE_SYSREF_CFG_RBD q))
        | _, _ => none
      else some s.time.toNat
    match start with
    | none => s
    | some t =>
      let s := s.advanceTo (BitVec.ofNat 64 t)
      let s := s.setLane l { s.lane l with txFrom := some s.time }
      let s := s.setPair .LANE_TX_START_LO .LANE_TX_START_HI l s.now.toNat
      (s.count F.LANE_LANE_STATUS_STREAM_SEQ l).txMove l 9

/-- A transmit chunk not in hand when its first byte is due is sent as zeros (R313). -/
def State.underrun (s : State) (l : Nat) : State :=
  let s := s.txMove l 9
  let v := s.lane l
  match v.txFrom with
  | none => s
  | some t =>
    let s := s.advanceTo (t + BitVec.ofNat 64 (s.txTicks l (v.txNext * s.txChunk l)))
    let v := s.lane l
    if v.txHand.any (·.1 == v.txNext) || !s.txOn l then s
    else
      let s := s.setLane l { v with txNext := v.txNext + 1, txAsked := max v.txAsked (v.txNext + 1) }
      ((s.txSends l v.txNext []).txZeros l false).txAskAll l

-- ------------------------------------------------------------------ receive (R310 to R312, R320)

/-- Bytes held in a lane's receive buffer. -/
def LaneState.buffered (v : LaneState) : Nat := v.held.foldl (fun a c => a + c.2.length) 0

/-- Complete chunks are sent, each as one WRP, while the NI takes them (R310). -/
def State.sendChunks (s : State) (l : Nat) : Nat → State
  | 0 => s
  | n + 1 =>
    match (s.lane l).held with
    | (k, data) :: rest =>
      if !s.niTakes (laneNi l) then s
      else
        let a := s.rxBase l + k % 2 ^ s.f F.LANE_RX_SIZE_LOG2 l
        let s := s.setLane l { s.lane l with held := rest }
        (s.request (laneNi l) ⟨.wrp, a, data.length - 1, [], 0, data, false, false, false, 0, .none⟩).sendChunks l n
    | [] => s

/-- k of the receive stream. -/
def State.rxK (s : State) (l : Nat) : Nat := s.pair .LANE_RX_BYTES_LO .LANE_RX_BYTES_HI l

/-- One byte of a receive stream arrives (R310, R311); a quad that is STOPPING begins no new chunk (R328). -/
def State.rxByte (s : State) (l : Nat) (b : Byte) : State :=
  let c := s.rxChunk l
  let v := s.lane l
  let k := s.rxK l
  if v.part.isEmpty && s.funcState (.quad (l / 4)) != 1 then s
  else
  let drop := if v.part.isEmpty then decide (32768 < v.buffered + c) else v.partDrop
  let part := v.part ++ [b]
  let s := s.setPair .LANE_RX_BYTES_LO .LANE_RX_BYTES_HI l ((k + 1) % 2 ^ 64)
  if part.length < c then s.setLane l { v with part := part, partDrop := drop }
  else if drop then
    let s := (s.setLane l { v with part := [], partDrop := false }).bump F.LANE_RX_DROP_BYTES l c
    s.laneFlag l F.LANE_LANE_STATUS_OVERFLOW 0x0302 F.LANE_ALERT_CTRL_ON_OVF
  else s.setLane l { v with part := [], partDrop := false, held := v.held ++ [(k + 1 - c, part)] }

/-- Bytes of a receive stream arrive, and complete chunks are sent. -/
def State.rxBytes (s : State) (l : Nat) (data : List Byte) : State :=
  (data.foldl (fun s b => s.rxByte l b) s).sendChunks l 129

/-- Code errors are counted (ERR_CNT.CODE). -/
def State.codeErrors (s : State) (l n : Nat) : State := if n = 0 then s else s.bump F.LANE_ERR_CNT_CODE l n

/-- A word of a raw stream arrives (R314, R322): a block of RAW_66, its invalid sync header counted and its 64 bits
descrambled when SCR = 1, or 64 bits of RAW_TRANSPARENT. -/
def State.rxWord (s : State) (l : Nat) (w : LineWord) : State :=
  match s.quadMode (l / 4), w with
  | 2, .block header bits =>
    let s := if header = 0#2 ∨ header = 3#2 then s.codeErrors l 1 else s
    let (clear, line) := descrambled (s.lane l).line bits
    let s := s.setLane l { s.lane l with line := line }
    s.rxBytes l (toBytes 8 (if s.on F.LANE_QUAD_CFG_SCR (l / 4) then clear else bits).toNat)
  | 3, .bits b => s.rxBytes l (toBytes 8 b.toNat)
  | _, _ => s

/-- Words of a raw stream have arrived, or a held chunk can be sent (R310, R311); in TEST mode only errors count (R327). -/
def State.chunkSend (s : State) (l : Nat) (words : List LineWord) (errors : Nat) : State :=
  if !s.rxOn l then s
  else
    let s := if s.quadMode (l / 4) = 5 then s.codeErrors l errors else s
    if s.on F.LANE_LANE_STATUS_LINK_UP l then (words.foldl (fun s w => s.rxWord l w) s).sendChunks l 129
    else s.sendChunks l 129

/-- A lane's receive stream ends (R312); its complete chunks are still sent. -/
def State.rxEnd (s : State) (l : Nat) : State :=
  (s.setF F.LANE_LANE_STATUS_LINK_UP l 0).setLane l { s.lane l with part := [], partDrop := false, multiblock := 0 }

/-- A receive stream starts at k = 0 (R312). -/
def State.rxBegin (s : State) (l : Nat) : State :=
  let s := s.setLane l { s.lane l with part := [], partDrop := false, multiblock := 0 }
  let s := s.setPair .LANE_RX_BYTES_LO .LANE_RX_BYTES_HI l 0
  let s := s.setPair .LANE_RX_START_LO .LANE_RX_START_HI l s.now.toNat
  (s.raise F.LANE_LANE_STATUS_LINK_UP l).count F.LANE_LANE_STATUS_STREAM_SEQ l

/-- The lanes of a link group of subclass 0 (R317): the enabled receivers of the quads that name it, across quads. -/
def State.linkLanes (s : State) (link : Nat) : List Nat :=
  (List.range (4 * Part.quads s.part)).filter fun l =>
    let q := l / 4
    s.quadMode q == 1 && !s.on F.LANE_JESD_CFG_SUBCLASS q && s.f F.LANE_JESD_CFG_LINK q == link &&
    s.funcState (.quad q) == 1 && s.rxOn l

/-- A lane of a link group is ready (R317, assumption 206): once the latest of the group has locked, the streams of those
that have none start together. -/
def State.linkStart (s : State) (link : Nat) : State :=
  let all := s.linkLanes link
  if all.all (s.on F.LANE_LANE_STATUS_BLOCK_LOCK ·) then
    (all.filter fun l => !s.on F.LANE_LANE_STATUS_LINK_UP l).foldl State.rxBegin s
  else s

/-- A lane locks, and its stream starts (R312): at once in a raw mode, with its link group in subclass 0 (R317), at the first
release tick in subclass 1, which waits for alignment. A root port and a lane under test only lock. The 58 line bits
received before are those the descrambler holds. -/
def State.streamStart (s : State) (l : Nat) (before : BitVec 58) (ilasErr : Bool) : State :=
  let q := l / 4
  if !s.rxOn l then s
  else
    let s := s.setLane l { s.lane l with line := before }
    let s := s.raise F.LANE_LANE_STATUS_CDR_LOCK l
    let s := if s.quadMode q = 3 then s else s.raise F.LANE_LANE_STATUS_BLOCK_LOCK l
    let s := if ilasErr && s.quadMode q == 1 && !s.on F.LANE_JESD_CFG_ENC q then s.raise F.LANE_LANE_STATUS_ILAS_ERR l else s
    if !streamMode (s.quadMode q) then s
    else if s.on F.LANE_LANE_STATUS_LINK_UP l || s.funcState (.quad q) != 1 then s
    else if s.quadMode q = 1 ∧ s.on F.LANE_JESD_CFG_SUBCLASS q then
      match Sparse.get none s.lanes.aligned q with
      | none => s
      | some b =>
        let t := boundaryAfter (b.toNat + s.f F.LANE_SYSREF_CFG_RBD q) (max 1 (s.f F.LANE_LEMC_TICKS q)) s.time.toNat
        (s.advanceTo (BitVec.ofNat 64 t)).rxBegin l
    else if s.quadMode q = 1 then s.linkStart (s.f F.LANE_JESD_CFG_LINK q)
    else s.rxBegin l

/-- A release tick comes (R320). -/
def State.multiblockRelease (s : State) (l : Nat) (m : Multiblock) (arrival errors : Nat) : State :=
  let q := l / 4
  if !s.rxOn l || s.quadMode q != 1 || !s.on F.LANE_LANE_STATUS_LINK_UP l then s
  else
    let v := s.lane l
    let start := s.pair .LANE_RX_START_LO .LANE_RX_START_HI l
    let s := s.pass (start + v.multiblock * s.f F.LANE_LEMC_TICKS q - s.now.toNat)
    let s := s.codeErrors l errors
    let s := s.setF F.LANE_LEMC_ARRIVAL q (max arrival (s.f F.LANE_LEMC_ARRIVAL q))
    match m with
    | .complete line =>
      let n := s.multiblockBytes q
      let data := lineOctets line
      let bytes := (List.range n).map fun i => data.getD i 0
      (s.setLane l { s.lane l with multiblock := v.multiblock + 1 }).rxBytes l bytes
    | _ => (s.rxEnd l).laneFlag l F.LANE_LANE_STATUS_LATE_MB 0x0303 F.LANE_ALERT_CTRL_ON_SLIP

-- ------------------------------------------------------------------ alignment (R319)

/-- The lanes of a quad. -/
def quadLanes (q : Nat) : List Nat := (List.range 4).map (4 * q + ·)

/-- A SYSREF event is seen by a quad (R319). -/
def State.sysrefSeen (s : State) (q : Nat) : State :=
  let period := s.f F.LANE_LEMC_TICKS q
  if period = 0 then s
  else
    match Sparse.get none s.lanes.aligned q with
    | none =>
      let s := s.putLanes { s.lanes with aligned := Sparse.set none s.lanes.aligned q (some s.time) }
      (quadLanes q).foldl
        (fun s l => if s.rxOn l || s.txOn l then s.raise F.LANE_LANE_STATUS_ALIGNED l else s) s
    | some b =>
      if !s.on F.LANE_SYSREF_CFG_CONT q || (s.time.toNat - b.toNat) % period == 0 then s
      else (quadLanes q).foldl
        (fun s l => s.laneFlag l F.LANE_LANE_STATUS_SLIP 0x0303 F.LANE_ALERT_CTRL_ON_SLIP) s

/-- An event of a Beam source acts at the quads that observe it (R319). -/
def State.sysrefEvent (s : State) (source : Nat) : State :=
  ((List.range (Part.quads s.part)).filter fun q =>
    s.on F.LANE_SYSREF_CFG_EN q && s.f F.LANE_SYSREF_CFG_SRC q == source && s.funcState (.quad q) != 0).foldl
      State.sysrefSeen s

-- ------------------------------------------------------------------ losses (R325)

/-- A lane loses lock (R312, R325). -/
def State.laneLoss (s : State) (l : Nat) : State :=
  let s := (s.setF F.LANE_LANE_STATUS_CDR_LOCK l 0).setF F.LANE_LANE_STATUS_BLOCK_LOCK l 0
  (s.rxEnd l).laneFlag l F.LANE_LANE_STATUS_LOSS 0x0301 F.LANE_ALERT_CTRL_ON_LOSS

/-- A quad's PLL loses lock. -/
def State.pllLost (s : State) (q : Nat) : State :=
  if Part.quads s.part ≤ q || !s.on F.LANE_QUAD_STATUS_PLL_LOCK q then s
  else
    let s := (s.setF F.LANE_QUAD_STATUS_PLL_LOCK q 0).raise F.LANE_QUAD_STATUS_PLL_LOST q
    (quadLanes q).foldl State.laneLoss s

-- ------------------------------------------------------------------ the eye scan (R326)

/-- EYE_CTRL.START (R326): a scan without CDR lock ends at once. -/
def State.eyeScan (s : State) (l : Nat) : State :=
  if 4 * Part.quads s.part ≤ l || s.on F.LANE_EYE_CTRL_START l then s
  else
    let s := s.setWord .LANE_EYE_RESULT l 0
    if s.on F.LANE_LANE_STATUS_CDR_LOCK l then s.raise F.LANE_EYE_CTRL_START l else s.raise F.LANE_EYE_RESULT_DONE l

/-- The scan's count is complete. -/
def State.eyeScanDone (s : State) (l errors : Nat) : State :=
  if !s.on F.LANE_EYE_CTRL_START l then s
  else
    let s := s.setF F.LANE_EYE_CTRL_START l 0
    let s := s.setF F.LANE_EYE_RESULT_ERRORS l (min errors (2 ^ 30 - 1))
    (s.raise F.LANE_EYE_RESULT_VALID l).raise F.LANE_EYE_RESULT_DONE l

/-- A write of EYE_CTRL. -/
def State.writeEyeCtrl (s : State) (who : Who) (l : Nat) (data : Word) : State :=
  let s := s.writeTyped who .LANE_EYE_CTRL l (data &&& 0x7FFFFFFF#32)
  if data.getLsbD 31 then s.eyeScan l else s

-- ------------------------------------------------------------------ run, stop (R309, R328)

/-- The lanes of a quad hold no stream. -/
def State.quadClear (s : State) (q : Nat) : State :=
  let s := (quadLanes q).foldl
    (fun s l =>
      let s := s.setF F.LANE_LANE_STATUS_CDR_LOCK l 0
      let s := s.setF F.LANE_LANE_STATUS_BLOCK_LOCK l 0
      let s := s.setF F.LANE_LANE_STATUS_LINK_UP l 0
      let s := s.setF F.LANE_LANE_STATUS_ALIGNED l 0
      s.setLane l laneInit) s
  (s.putLanes { s.lanes with
      started := Sparse.set 0 s.lanes.started q 0, aligned := Sparse.set none s.lanes.aligned q none })

/-- A quad's restart (R309, R328): settings take effect, invalid lanes do not start; the transmit latency of a mode and
rate is not stated and is free. -/
def State.quadRun (s : State) (q : Nat) : State :=
  let s := (s.quadClear q).setFunc (.quad q) 1
  let ok := s.quadFits q
  let good := (quadLanes q).filter fun l => ok && s.laneFits l
  let enabled := s.f F.LANE_QUAD_CFG_RX_EN q ||| s.f F.LANE_QUAD_CFG_TX_EN q
  let s := (quadLanes q).foldl
    (fun s l => if good.contains l || (ok && !enabled.testBit (l % 4)) then s else s.raise F.LANE_LANE_STATUS_CFG_FAULT l) s
  let mask := good.foldl (fun acc l => acc ||| BitVec.ofNat 4 (2 ^ (l % 4))) 0
  let s := s.putLanes { s.lanes with started := Sparse.set 0 s.lanes.started q mask }
  let jesd := s.quadMode q == 1 && ok
  let s := s.setF F.LANE_LEMC_TICKS q (if jesd then (s.lemcTicks q).getD 0 else 0)
  let s := s.setF F.LANE_LEMC_ARRIVAL q 0
  let (w, s) := s.freeWord
  let s := s.setF F.LANE_TX_PIPE_UI q (w.toNat % 65536)
  good.foldl State.txAskAll s

/-- A quad's held work is finished (R328): chunks begun are complete and sent, and transmit reads are answered. -/
def State.quadIdle (s : State) (q : Nat) : Bool :=
  (quadLanes q).all (fun l => (s.lane l).held.isEmpty && (s.lane l).part.isEmpty) &&
  (s.ni (0x70 + q)).outstanding.all fun t => match t.use with
    | .laneTx _ _ => false
    | _ => true

/-- STOP_TIMEOUT of a quad (R328): held chunks are discarded. -/
def State.quadAbort (s : State) (q : Nat) : State :=
  let n := (quadLanes q).foldl (fun a l => a + (s.lane l).held.length) 0
  (s.aborted (.quad q) n).quadClear q

-- ------------------------------------------------------------------ guarded writes (R324)

/-- A write a transmit guard refuses, once the guards are locked. -/
def State.laneGuard (s : State) (r : Reg) (inst : Nat) (data : Word) : Bool :=
  s.guardLocked &&
  (match r with
   | .LANE_QUAD_CFG =>
     let mode := fieldOf data 0 3
     (mode != 0 && !((s.f F.LANE_TX_GUARD_MODES_ALLOWED inst).testBit mode)) ||
       (List.range 4).any (fun i => data.getLsbD (12 + i) && !(s.f F.LANE_TX_GUARD_LANES_ALLOWED inst).testBit i)
   | .LANE_TX_ANALOG => decide (s.f F.LANE_TX_GUARD_AMP_MAX (inst / 4) < fieldOf data 0 11)
   | .LANE_TEST_CTRL =>
     fieldOf data 4 2 == 2 && !(s.f F.LANE_TX_GUARD_LANES_ALLOWED (inst / 4)).testBit (inst % 4)
   | _ => false)

/-- A write of a register a transmit guard bounds. -/
def State.writeLaneGuarded (s : State) (who : Who) (r : Reg) (inst : Nat) (data : Word) : State :=
  if s.laneGuard r inst data then s.breach who .rwl r inst data.toNat else s.writeTyped who r inst data

/-- The quad of a lane is a root port: its stream registers read 0 (R323). -/
def State.rootLane (s : State) (l : Nat) : Bool := s.quadMode (l / 4) == 4 && s.funcState (.quad (l / 4)) != 0

/-- What a lane register shows live. -/
def State.laneLive (s : State) (r : Reg) (i : Nat) : Option Nat :=
  match r with
  | .LANE_RX_START_LO | .LANE_RX_START_HI | .LANE_TX_START_LO | .LANE_TX_START_HI | .LANE_RX_BYTES_LO | .LANE_RX_BYTES_HI
  | .LANE_RX_DROP | .LANE_ERR_CNT => if s.rootLane i then some 0 else none
  | .LANE_QUAD_STATUS => some ((s.word r i).toNat ||| (if s.niPowered (0x70 + i) then 4 else 0))
  | .LANE_TX_PTR => some (s.txK i % 2 ^ 32)
  | .LANE_LANE_STATUS =>
    let asks := s.quadMode (i / 4) == 1 && !s.on F.LANE_JESD_CFG_ENC (i / 4) && s.rxOn i &&
      !s.on F.LANE_LANE_STATUS_BLOCK_LOCK i
    some (((s.word r i).toNat &&& (if s.rootLane i then 0xFFFB else 0xFFFFFFFF)) ||| (if asks then 16 else 0))
  | _ => none

/-- Time has passed: transmitters move past the chunks that are due (R313). -/
def State.lanesMove (s : State) : State :=
  ((s.lanes.lanes.filter fun kv => kv.2.txFrom.isSome).map (·.1)).foldl (fun s l => s.txMove l 9) s

end Sys2Proof.Machine
end

