-- ==== Sys2Proof/Machine/Stop.lean ====
section
/-! DEFINITION. The common stop protocol (R36 to R38), the dependants of R22, and function resets (R33). -/

namespace Sys2Proof.Machine

/-- The function exists in the variant. -/
def funcPresent (p : Part) (f : Func) : Bool :=
  match f with
  | .queue q => decide (q < Part.queues p)
  | .ni n => niPresent p n
  | .quad q => decide (q < Part.quads p)
  | .dma c => decide (c < 32)
  | .channel c => Part.hasStore p && decide (c < 8)
  | .core n => decide (n < Part.cores p)
  | .record | .beam => true

/-- The NI behind which a function lies, and by which its registers are reached (R18). -/
def funcNi : Func → Nat
  | .queue q => q / 64
  | .ni n => n
  | .quad q => 0x70 + q
  | .dma _ => 0x90
  | .channel _ => 0x98
  | .core n => 0x94 + n
  | .record | .beam => 0x9B

/-- The control register of a function. -/
def funcCtrl (f : Func) : Reg × Nat := ((funcRegs f).run.reg, (funcRegs f).inst)

/-- CTRL.RUN of a function. -/
def State.funcRun (s : State) (f : Func) : Bool := s.on (funcRegs f).run (funcRegs f).inst

/-- The state with CTRL.RUN of a function replaced. -/
def State.setRun (s : State) (f : Func) (on : Bool) : State :=
  s.setF (funcRegs f).run (funcRegs f).inst (if on then 1 else 0)

-- ------------------------------------------------------------------ dependants (R22)

/-- The quad that drive d's root port uses (R22). -/
def driveQuad (d : Nat) : Nat := 24 + d

/-- A mounted store has an attached drive on the quad (R22). -/
def State.storeUsesQuad (s : State) (q : Nat) : Bool :=
  s.on F.STORE_STATUS_MOUNTED 0 && (List.range 8).any fun d => driveQuad d == q && s.driveState d == 3

/-- A route of the Beam map that is not FIXED feeds a destination. -/
def State.runtimeRoute (s : State) (d : Nat) : Bool := s.on F.BEAM_ROUTE_EN d && !s.on F.BEAM_ROUTE_FIXED d

/-- A STOP of the Beam map has a dependant (R279). -/
def State.beamNeeded (s : State) : Bool :=
  (s.funcState .record != 0 && (s.runtimeRoute 36 || s.runtimeRoute 37)) ||
  (s.capState == 1 && s.cfg.freezeArmed && s.runtimeRoute 34)

/-- A running readback or restore moves its words through HBM. -/
def State.transferUsesHbm (s : State) : Bool :=
  s.cfg.transfer.any fun t => t.toNoc && t.ended.isNone && decide (t.addr < 0x400000000)

/-- HBM has a dependant (R22, R338): a tracked ring, a mounted store, a store channel, a transfer to HBM. -/
def State.hbmNeeded (s : State) : Bool :=
  (List.range 32).any (fun r => s.on F.HBM_RING_CTRL_EN r) || s.on F.STORE_STATUS_MOUNTED 0 ||
  (List.range 8).any (fun c => s.funcState (.channel c) != 0) || s.transferUsesHbm

/-- A STOP of a function has a dependant in RUN or STOPPING (R22, R37). -/
def State.stopNeeded (s : State) (f : Func) : Bool :=
  match f with
  | .quad q => s.storeUsesQuad q
  | .beam => s.beamNeeded
  | _ => false

/-- What a function needs is off, so that it may not enter RUN (R22, R400): the record controller's Beam map where a runtime
route brings its events, a store channel's HBM region, a DMA channel's host link (DEDUCED, assumption 200). The registers
of the other functions lie in the region they need. -/
def State.runBarred (s : State) (f : Func) : Bool :=
  match f with
  | .record =>
    s.f F.PWR_STATE_STATUS_STATE 0 == 1 || s.f F.PWR_STATE_STATUS_STATE 0 == 2 ||
      (s.funcState .beam != 1 && (s.runtimeRoute 36 || s.runtimeRoute 37))
  | .channel _ => !s.niPowered 0x60
  | .dma _ => !s.hostUp
  | .queue _ | .ni _ | .quad _ | .core _ | .beam => false

-- ------------------------------------------------------------------ the transitions (R37, R38)

/-- Every transaction an NI has outstanding ends with an error (R226, R33): its tag is quarantined (R224). -/
def State.txnsEnd (s : State) (n err : Nat) : State :=
  let ts := (s.ni n).outstanding
  let s := ts.foldl (fun s t => s.endTxn n t .rspErr err 0 []) s
  s.setNi n { s.ni n with quarantine := (s.ni n).quarantine ++ ts.map fun t => (t.tag, s.time) }

/-- A tick is not later than the stop of the Beam map that runs (R279). -/
def State.beforeStop (s : State) (t : DWord) : Bool :=
  match s.dev.stopping.find? (·.1 == .beam) with
  | some x => decide (t.toNat ≤ x.2.toNat)
  | none => true

/-- A function's held work is finished. -/
def State.funcIdle (s : State) (f : Func) : Bool :=
  match f with
  | .queue q => s.queueIdle q
  | .ni n => (s.ni n).outstanding.isEmpty
  | .quad q => s.quadIdle q
  | .dma c => s.dmaIdle c
  | .channel c => s.chanIdle c
  | .core n => s.coreIdle n
  | .record => s.phase == 0
  | .beam => !s.beam.flight.any fun e => decide (e.entry.toNat ≤ s.time.toNat) && s.beforeStop e.entry

/-- A function enters RUN: settings written since the stop take effect (R37). -/
def State.funcRuns (s : State) (f : Func) : State :=
  let s := s.settingsAct f
  match f with
  | .queue q => (s.setFunc f 1).queueProgress q
  | .ni _ | .beam => s.setFunc f 1
  | .quad q => s.quadRun q
  | .dma c => s.dmaRun c
  | .channel c => s.chanRun c
  | .core n => (s.coreRun n).haltsDue
  | .record => s.recordRun

/-- A function no longer waits for its STOP_TIMEOUT. -/
def State.stopOver (s : State) (f : Func) : State :=
  s.putDev { s.dev with stopping := s.dev.stopping.filter (·.1 != f) }

/-- What a function's STOPPED means beyond its STATE. -/
def State.funcEnds (s : State) (f : Func) : State :=
  match f with
  | .queue q => s.queueProgress q
  | .quad q => s.quadClear q
  | .channel c => s.chanStopped c
  | .core n => (s.coreHeld n).haltEnds n
  | .record => s.recordIdle
  | .ni _ | .dma _ | .beam => s

/-- A function reaches STOPPED, and RUN at once where CTRL.RUN has been written 1 again (R37, R38). -/
def State.funcStopped (s : State) (f : Func) : State :=
  let s := ((s.stopOver f).setFunc f 0).funcEnds f
  if s.funcRun f then s.funcRuns f else s

/-- Work that remains at STOP_TIMEOUT completes ABORTED (R37). -/
def State.funcAborts (s : State) (f : Func) : State :=
  match f with
  | .queue q =>
    s.queueStopTimeout q
  | .ni n => (s.aborted f (s.ni n).outstanding.length).txnsEnd n 6
  | .quad q => s.quadAbort q
  | .dma c => s.dmaAbort c
  | .channel c => s.chanAbort c
  | .core n => s.coreAbort n
  | .record =>
    s.recordAbort
  | .beam => s

/-- STOP_TIMEOUT has elapsed (R37). The record controller reads STOPPING until its PHASE reaches IDLE (R292). -/
def State.funcTimeout (s : State) (f : Func) : State :=
  let s := (s.stopOver f).funcAborts f
  match f with
  | .record => if s.phase = 0 ∧ s.funcRun f then s.funcRuns f else s
  | _ => s.funcStopped f

/-- A function in RUN is asked to stop and no dependant forbids it (R37): STOPPING, and STOPPED at once when it holds
nothing; with STOP_TIMEOUT 0 what it holds is ABORTED at once. -/
def State.funcStops (s : State) (f : Func) : State :=
  let s := match f with
    | .record => s.recordStop
    | _ => s.setFunc f 2
  if s.funcState f = 0 then s.stopOver f
  else if s.funcIdle f then s.funcStopped f
  else if s.f (funcRegs f).timeout (funcRegs f).inst = 0 then s.funcTimeout f
  else s.putDev { s.dev with stopping := s.dev.stopping ++ [(f, s.time)] }

/-- A write of a function's CTRL register (R5, R36 to R38): a STOP that R22 forbids keeps RUN at 1, and a RUN that it
forbids keeps RUN at 0. -/
def State.writeCtrl (s : State) (who : Who) (f : Func) (data : Word) : State :=
  let (r, i) := funcCtrl f
  let b := (funcRegs f).run.lo
  let was := s.funcRun f
  let asks := data.getLsbD b
  let barred := (was && !asks && s.funcState f == 1 && s.stopNeeded f) || (!was && asks && s.runBarred f)
  let s := if barred then
      (s.raise (funcRegs f).depRefused (funcRegs f).inst).journalRefusal who .dependant r i data.toNat
    else s
  let data := if barred then withField data b 1 (if was then 1 else 0) else data
  let s := s.writeTyped who r i data
  if barred || was == asks then s
  else if asks then (if s.funcState f = 0 then s.funcRuns f else s)
  else if s.funcState f = 1 then s.funcStops f
  else s

/-- The word that writes CTRL.RUN and leaves the register's other fields as they are. -/
def State.runWord (s : State) (f : Func) (on : Bool) : Word :=
  withField (s.word (funcCtrl f).1 (funcCtrl f).2) (funcRegs f).run.lo 1 (if on then 1 else 0)

/-- A function's registers can be reached: it exists, and its power region is on. -/
def State.funcReached (s : State) (f : Func) : Bool := funcPresent s.part f && s.niPowered (funcNi f)

/-- STOP_TIMEOUT: expiry of STOP_TIMEOUT completes remaining work ABORTED and leaves the function STOPPED (R37). -/
def State.stopTimeout (s : State) (f : Func) : State :=
  match s.dev.stopping.find? (·.1 == f) with
  | some (_, t) =>
    let s := s.advanceTo (t + BitVec.ofNat 64 (s.f (funcRegs f).timeout (funcRegs f).inst * ticksPerUs))
    if s.funcState f = 2 then (if s.funcIdle f then s.funcStopped f else s.funcTimeout f) else s.stopOver f
  | none => s

-- ------------------------------------------------------------------ function resets (R33)

/-- What a function reset resets: one of the functions of R36, the HBM controller, or the store. -/
inductive ResetTarget where
  | func (f : Func)
  | hbm
  | store
  deriving DecidableEq, Repr

/-- The target a DEV.FRESET value names: none for a BLOCK or INSTANCE that means nothing (DEV.FRESET). -/
def resetTarget (block inst : Nat) : Option ResetTarget :=
  match block with
  | 11 => if inst = 0 then some (.func .record) else none
  | 12 => some (.func (.ni inst))
  | 13 => if inst = 0 then some .hbm else none
  | 14 => some (.func (.quad inst))
  | 15 => if inst < 32 then some (.func (.dma inst)) else none
  | 16 => if inst = 0 then some .store else none
  | 17 => some (.func (.queue inst))
  | 18 => some (.func (.core inst))
  | _ => none

/-- The target exists in the variant. -/
def targetPresent (p : Part) : ResetTarget → Bool
  | .func f => funcPresent p f
  | .hbm => Part.hasHbm p
  | .store => Part.hasStore p

/-- A dependant forbids the reset (R22, R328). -/
def State.targetNeeded (s : State) : ResetTarget → Bool
  | .func (.quad q) => s.storeUsesQuad q || s.funcState (.quad q) != 0
  | .hbm => s.hbmNeeded
  | _ => false

/-- The NIs that a function reset fences (R33, R245, assumption 118): a queue has none. -/
def targetNis : ResetTarget → List Nat
  | .func (.queue _) | .func .beam => []
  | .func f => [funcNi f]
  | .hbm => (List.range 16).map (0x60 + ·)
  | .store => [0x98]

/-- A register belongs to the instance of a function. -/
def ownedBy (f : Func) (r : Reg) (inst : Nat) : Bool :=
  let t := regSpec r
  let per := inst / max 1 (dimCount t.dims)
  match f with
  | .ni n => t.geo == .slot && per == n
  | .quad q =>
    decide (0x300000 ≤ t.off ∧ t.off < 0x400000 ∧ t.geo = .linear ∧ inst = q) || (t.geo == .lane && inst / 4 == q)
  | .channel c => decide (0x500400 ≤ t.off ∧ t.off < 0x600000) && inst == c
  | .dma c => decide (0x400200 ≤ t.off ∧ t.off < 0x500000) && inst == c
  | .record => decide (0xB0000 ≤ t.off ∧ t.off < 0xC0000) && t.geo == .linear
  | .core n => decide (0x801000 ≤ t.off ∧ t.off < 0x900000) && inst == n
  | .queue _ | .beam => false

/-- The registers of domain FUNC of a function return to their Reset values (R33 step 4). -/
def State.funcRegsReset (s : State) (f : Func) : State :=
  s.resetRegs fun r i => (regSpec r).domain == .FUNC && ownedBy f r i

/-- A function is left STOPPED with CTRL.RUN = 0 (R33 step 5). -/
def State.leftStopped (s : State) (f : Func) : State := ((s.stopOver f).setFunc f 0).setRun f false

/-- The work a function holds completes ABORTED, and it is left as its reset leaves it (R33 steps 3 to 5). -/
def State.funcReset (s : State) (f : Func) : State :=
  match f with
  | .queue q =>
    (s.queueFunctionReset q).leftStopped f
  | .record =>
    (s.recordReset.funcRegsReset f).leftStopped f
  | .ni n =>
    let s := s.txnsEnd n 6
    let s := s.setNi n { s.ni n with held := [], injecting := false }
    (s.funcRegsReset f).leftStopped f
  | .core n =>
    let s := if s.coreStalled n then s.coreAbort n else s
    (((s.coreHeld n).haltEnds n).funcRegsReset f).leftStopped f
  | .quad _ | .dma _ | .channel _ | .beam =>
    let s := if s.funcState f = 0 then s else s.funcAborts f
    let s := if s.funcState f = 0 then s else (s.setFunc f 0).funcEnds f
    (s.funcRegsReset f).leftStopped f

/-- The target is reset. -/
def State.targetReset (s : State) (t : ResetTarget) : State :=
  match t with
  | .func f => s.funcReset f
  | .hbm => s.resetRegs fun r _ =>
      (regSpec r).domain == .FUNC && decide (0x200000 ≤ (regSpec r).off ∧ (regSpec r).off < 0x300000) &&
        (regSpec r).geo == .linear
  | .store => ((List.range 8).foldl (fun s c => s.funcReset (.channel c)) s).storeReset

/-- A function reset of a target (R33): its NIs are fenced, which answers what they had accepted; it is reset; the fences
it closed open; the stations of its NIs run a resync (R260, R269). -/
def State.resetActs (s : State) (t : ResetTarget) (who : Who) : State :=
  let nis := targetNis t
  let closed := nis.filter fun n => s.fence n = 0
  let s := nis.foldl
    (fun s n => if 2 ≤ s.fence n then s else s.fenceDomain [n] (fun _ => 0) 3 (0x50000000 + n) who) s
  let s := s.targetReset t
  let s := closed.foldl (fun s n => s.fenceReopen n who) s
  (nis.filter fun n => s.station n == 0 || s.station n == 3).foldl (fun s n => s.resync n) s

/-- A function reset that is refused (R33). -/
def State.resetRefused (s : State) (who : Who) (why : Reason) (data : Word) : State :=
  ((s.journalRefusal who why .DEV_FRESET 0 data.toNat).raise F.DEV_FRESET_REFUSED 0).raise F.DEV_STATUS_RESET_REFUSED 0

/-- A write of DEV.FRESET with GO = 1 (R33, R29). -/
def State.functionReset (s : State) (who : Who) (data : Word) : State :=
  match resetTarget (fieldOf data 0 5) (fieldOf data 16 11) with
  | none => s.resetRefused who .encoding data
  | some t =>
    if !targetPresent s.part t then s.resetRefused who .absent data
    else if s.targetNeeded t then s.resetRefused who .dependant data
    else
      let s := (s.setF F.DEV_FRESET_REFUSED 0 0).resetActs t who
      s.journal who.origin 0x08 1 ⟨csrOffset .DEV_FRESET 0, 0, data.toNat, 0⟩

/-- A write of DEV.FRESET: BLOCK and INSTANCE are stored, and GO resets the target or is refused. -/
def State.writeFreset (s : State) (who : Who) (data : Word) : State :=
  let s := if data.getLsbD 31 then s.functionReset who data else s
  s.writeTyped who .DEV_FRESET 0 (data &&& 0x1FFFFFFF#32)

end Sys2Proof.Machine
end

