-- ==== Sys2Proof/Machine/Power.lean ====
section
/-! DEFINITION. Power (R399 to R409): device states, power regions, wakes, supplies, temperature. -/

namespace Sys2Proof.Machine

-- ------------------------------------------------------------------ regions (R399)

/-- The regions of REGION_CTRL that the variant has. -/
def Part.regions (p : Part) : BitVec 11 :=
  BitVec.ofNat 11 (2 ^ Part.fpds p - 1 + (if Part.hasHbm p then 256 else 0) + (if Part.hasStore p then 512 else 0) + 1024)

/-- The quads of QUAD_CTRL that the variant has. -/
def Part.quadMask (p : Part) : Word := BitVec.ofNat 32 (2 ^ Part.quads p - 1)

/-- The regions that are on, as REGION_STATUS lays them out, and the quads. -/
def State.regionsOn (s : State) : BitVec 11 := (s.word .PWR_REGION_STATUS 0).setWidth 11
def State.quadsOn (s : State) : Word := s.word .PWR_QUAD_STATUS 0

/-- The NIs of region r: an FPD's fabric NIs, HBM, the store, the sequencer. -/
def powerRegionNis (r : Nat) : List Nat :=
  if r < 8 then (List.range 0x60).filter fun n => n % 32 / 4 == r
  else if r = 8 then (List.range 16).map (0x60 + ·)
  else if r = 9 then [0x98]
  else [0x94, 0x95, 0x96, 0x97]

/-- The crossing stations of region r (R258): its NIs', and with FPD 0 those of the ICP and the event channel. -/
def regionStations (r : Nat) : List Nat := if r = 0 then powerRegionNis 0 ++ [0xA0, 0xA1] else powerRegionNis r

/-- The numbers of the set bits of a mask. -/
def bitsOf (w : BitVec n) : List Nat := (List.range n).filter w.getLsbD

/-- The object of an entry that names a region (R439): FPD f, 0x30 HBM, 0x31 store, 0x32 sequencer; 0x10 + q a quad. -/
def regionObject (r : Nat) : Nat := 0x60000000 + (if r < 8 then r else 0x28 + r)

/-- A logical rod lies in a set of FPD regions. -/
def rodIn (w : BitVec 11) (rod : Nat) : Bool := decide (rod < 256) && w.getLsbD (rod / 32)

/-- The FPD regions of a set. -/
def fpdsOf (w : BitVec 11) : BitVec 11 := w &&& 0xFF#11

-- ------------------------------------------------------------------ refusals (R400, R401)

/-- A state or region request is refused with its CAUSE (R400, R401). -/
def State.powerRefused (s : State) (who : Who) (cause : Nat) (r : Reg) (data : Word) : State :=
  let s := (s.raise F.PWR_STATE_STATUS_REFUSED 0).setF F.PWR_STATE_STATUS_CAUSE 0 cause
  s.journalRefusal who (if cause = 9 then .dependant else .command) r 0 data.toNat

/-- Every FPD region of off may be switched off (R402): each logical rod lies in a declared span that lies wholly in
regions that are off afterwards. -/
def State.baseFree (s : State) (off : BitVec 11) : Bool :=
  let gone := fpdsOf (off ||| ~~~s.regionsOn)
  (List.range (Part.rods s.part)).all fun rod =>
    !rodIn off rod ||
    s.cfg.spans.any fun d => d.rods.getLsbD rod && (List.range (Part.rods s.part)).all fun k => !d.rods.getLsbD k || rodIn gone k

/-- A dependant of R22 needs a region that is to go off. -/
def State.regionNeeded (s : State) (r : Nat) : Bool :=
  match r with
  | 8 => s.hbmNeeded
  | 9 => s.on F.STORE_STATUS_MOUNTED 0 || (List.range 8).any fun c => s.funcState (.channel c) != 0
  | 10 => (List.range 4).any fun n => s.funcState (.core n) != 0
  | _ => false

/-- Why regions and quads may not go off, by the CAUSE of STATE_STATUS (R22, R401, R402). -/
def State.offRefusal (s : State) (off : BitVec 11) (quads : Word) : Option Nat :=
  if fpdsOf off != 0 && !s.baseFree off then some 8
  else if fpdsOf off != 0 && s.capState != 0 then some 3
  else if fpdsOf off != 0 && s.configBusy then some 4
  else if (bitsOf off).any s.regionNeeded then some 9
  else if (bitsOf quads).any fun q => s.storeUsesQuad q || s.funcState (.quad q) != 0 then some 9
  else none

-- ------------------------------------------------------------------ switching off (R401)

/-- The drain of a power change begins (R401 step 2, R245), unless a step of the roving spare runs in a region that goes
off (R405). -/
def State.powerDrain (s : State) : State :=
  match s.power.change with
  | none => s
  | some c =>
    if c.draining || s.repair.step.any (fun st => c.off.getLsbD (st.group / 2)) then s
    else
      let s := s.putPower { s.power with change := some { c with draining := true } }
      let limit := fun n => s.f F.NI_FENCE_CTRL_LIMIT n
      let s : State := (bitsOf c.off).foldl (fun (s : State) r => s.fenceDomain (powerRegionNis r) limit 1 (regionObject r) c.who) s
      let s : State := (bitsOf c.quadsOff).foldl (fun (s : State) q => s.fenceDomain [0x70 + q] limit 1 (0x60000010 + q) c.who) s
      if c.target = some 2 ∧ s.regionsOn.getLsbD 8 ∧ ¬ c.off.getLsbD 8 then
        s.fenceDomain (powerRegionNis 8) limit 1 0x60000030 c.who
      else if c.target = some 3 then s.fenceDomain [0x90, 0x91, 0x92, 0x93] limit 1 (0x50000090) c.who
      else s

/-- The NIs whose fences a power change waits for. -/
def State.powerNis (s : State) (c : PowerChange) : List Nat :=
  ((bitsOf c.off).flatMap powerRegionNis ++ (bitsOf c.quadsOff).map (0x70 + ·) ++
    (if c.target = some 2 ∧ s.regionsOn.getLsbD 8 then powerRegionNis 8 else []) ++
    (if c.target = some 3 then [0x90, 0x91, 0x92, 0x93] else [])).filter (niPresent s.part)

/-- The isolation tick of FPD regions (R401 step 3): their spans are isolated, their F1 pins keep what HOLD_LAST names. -/
def State.isolateFpds (s : State) (off : BitVec 11) : State :=
  let s := s.holdPads ((List.range 192).filter fun p => rodIn off (homeRod s.part p) && s.padFunc p == 1)
  (s.cfg.spans.filter fun (d : SpanDecl) => (List.range 256).any fun k => d.rods.getLsbD k && rodIn off k).foldl
    (fun s d =>
      if s.spanState d.id = 5 ∨ s.spanState d.id = 0 then s
      else ((if s.spanState d.id = 1 then s.boundaryOffers d else s).setSpan d.id 3)) s

/-- What the rods of FPD regions held is gone (R399). The frames are written again from the sources of their last
loads. -/
def State.fpdsLost (s : State) (off : BitVec 11) : State :=
  let on := rodIn off
  let s := ((((s.gateRods on).fabricClear on).mapQueues on State.queueEmpty).dropContentions on)
  (s.putCfg { s.cfg with
      frames := s.cfg.frames.filter fun kv => !on (kv.1 / 1024)
      checks := s.cfg.checks.filter fun kv => !on (kv.1 / 1024)
      badFrames := s.cfg.badFrames.filter fun k => !on (k / 1024)
      spanSettling := s.cfg.spanSettling.filter fun n =>
        !s.cfg.spans.any fun d => d.id == n && (List.range 256).any fun k => d.rods.getLsbD k && on k }).putMem { s.mem with
      poisoned := s.mem.poisoned.filter fun k => !on (k / 16384)
      onceCorrected := s.mem.onceCorrected.filter fun kv => !on (kv.1 / 16384) }

/-- What a region holds is gone (R399). -/
def State.regionLost (s : State) (r : Nat) : State :=
  match r with
  | 8 => s.hbmLost
  | 9 => (List.range 8).foldl (fun s d => if s.driveState d = 3 then s.driveMove d 1 else s) s
  | 10 =>
    let s := (List.range 4).foldl
      (fun s n => ((s.setFunc (.core n) 0).setCore n coreInit).haltEnds n) s
    let s := s.resetRegs fun r _ => r == .SEQ_BOOT_STATUS
    (s.putSeq { s.seq with tcm := [], sram := [] })
  | _ => s

/-- A region is off (R401 step 4): REGION_STATUS shows it, its stations are PARKED, its repair groups are OFF (GROUP_STATUS), the
ledger records it. -/
def State.regionGone (s : State) (r : Nat) (who : Who) : State :=
  let s := s.setF F.PWR_REGION_STATUS_ON 0 (s.regionsOn &&& ~~~(BitVec.ofNat 11 (2 ^ r))).toNat
  let s := (regionStations r).foldl State.park s
  let s := (if r < 8 then [2 * r, 2 * r + 1] else []).foldl (fun s g => s.setF F.REPAIR_GROUP_STATUS_STATE g 3) s
  (s.regionLost r).journalEvent who.origin .PWR_REGION_STATUS 0 (regionObject r)

/-- A quad is off. -/
def State.quadGone (s : State) (q : Nat) (who : Who) : State :=
  let s := s.setWord .PWR_QUAD_STATUS 0 (s.quadsOn &&& ~~~(BitVec.ofNat 32 (2 ^ q)))
  let s := (s.park (0x70 + q)).setF F.LANE_QUAD_STATUS_PLL_LOCK q 0
  (s.quadClear q).journalEvent who.origin .PWR_QUAD_STATUS 0 (0x60000010 + q)

/-- HBM enters self-refresh, its NIs fenced (R338, R401). -/
def State.selfRefresh (s : State) : State :=
  if !s.regionsOn.getLsbD 8 then s
  else (s.raise F.PWR_REGION_STATUS_SELF_REFRESH 0).raise F.HBM_STATUS_SELF_REFRESH 0

/-- HBM leaves self-refresh and its fences open (R338). -/
def State.selfRefreshEnds (s : State) : State :=
  if !s.on F.PWR_REGION_STATUS_SELF_REFRESH 0 then s
  else
    let s := (s.setF F.PWR_REGION_STATUS_SELF_REFRESH 0 0).setF F.HBM_STATUS_SELF_REFRESH 0 0
    (List.range 16).foldl
      (fun s p => if s.f F.HBM_STATUS_CH_FAILED 0 / 2 ^ (p / 2) % 2 = 1 then s else s.fenceReopen (0x60 + p) s.self) s

/-- What the system core and the network hold is gone (R399): DORMANT is entered, or thermal shutdown. -/
def State.coreRegionGone (s : State) : State :=
  let s := if s.on F.PWR_REGION_STATUS_SELF_REFRESH 0 then
      (s.hbmLost.setF F.PWR_REGION_STATUS_SELF_REFRESH 0 0).setF F.HBM_STATUS_SELF_REFRESH 0 0 else s
  let s := s.linkDown.dmaDropAll.hostReadsLost
  let gone := fun (v : NiState) => { v with out := [], rx := [], arrived := [], csf := csfInit }
  (((s.putNet { s.net with nis := s.net.nis.map fun kv => (kv.1, gone kv.2), routers := [], ended := [] }).putCfg { s.cfg with
      load := none, starting := none, releases := [], fabricResetWaiting := false, spanOp := none, spanWaiting := none
      transfer := none, queued := none }).putHost { s.host with pieces := [], writes := 0, lastWrite := none, barReads := [] })

-- ------------------------------------------------------------------ the end of a change

/-- A wake cause acts (R404): its bit of WAKE_CAUSE is set and the part restarts. While DORMANT is being entered it waits
for the entry (R405). -/
def State.wakes (s : State) (cause : Nat) : State :=
  let s := s.setWord .PWR_WAKE_CAUSE 0 (s.word .PWR_WAKE_CAUSE 0 ||| BitVec.ofNat 32 (2 ^ cause))
  ((s.putDev { s.dev with due := s.dev.due ++ [.wake cause] }).putPower { s.power with wakeDriven := cause != 16, wakePending := none })

/-- The device is in a state it has been asked for (R400): DORMANT wakes at once for a cause that came meanwhile. -/
def State.stateReached (s : State) (target : Nat) : State :=
  let s := s.setF F.PWR_STATE_STATUS_STATE 0 target
  let s := s.setF F.PWR_STATE_STATUS_CHANGES 0 ((s.f F.PWR_STATE_STATUS_CHANGES 0 + 1) % 65536)
  let s := if target = 0 then s else s.vloopOffNow
  let s := if 2 ≤ target then s.tbusRelease else s
  let s := if target = 2 then s.selfRefresh else s
  if target = 3 then
    let s := s.coreRegionGone
    match s.power.wakePending with
    | some c => s.wakes c
    | none => s
  else s

/-- A change ends when nothing is left to switch. -/
def State.changeEnds (s : State) : State :=
  match s.power.change with
  | none => s
  | some c =>
    if c.off != 0 || c.quadsOff != 0 || c.on != 0 then s
    else
      let s := s.putPower { s.power with change := none }
      let s := (s.setF F.PWR_STATE_STATUS_BUSY 0 0).raise F.PWR_STATUS_CHANGE_DONE 0
      match c.target with
      | some t => s.stateReached t
      | none => s

/-- Regions and quads are off once their fences have closed (R401 steps 3 and 4): the isolation tick passes, then at most
20 µs. -/
def State.regionOff (s : State) (wait : Nat) : State :=
  match s.power.change with
  | none => s
  | some c =>
    if !c.draining || !s.niClosed (s.powerNis c) || (c.off == 0 && c.quadsOff == 0 && c.target != some 2 && c.target != some 3) then s
    else
      let s := s.pass 1
      let s := if fpdsOf c.off = 0 then s else s.isolateFpds c.off
      let s := s.pass (min wait (20 * ticksPerUs))
      let s := if fpdsOf c.off = 0 then s else s.fpdsLost c.off
      let s := (bitsOf c.off).foldl (fun s r => s.regionGone r c.who) s
      let s := (bitsOf c.quadsOff).foldl (fun s q => s.quadGone q c.who) s
      (s.putPower { s.power with change := some { c with off := 0, quadsOff := 0 } }).changeEnds

-- ------------------------------------------------------------------ switching on (R403)

/-- Stations of NIs that were parked run a resync (R266, R269). -/
def State.unpark (s : State) (is : List Nat) : State :=
  is.foldl (fun s i => if s.station i = 2 then s.resync i else s) s

/-- The clock of region r, as NetState.stopped names it, and of quad q (R257). -/
def regionClock (r : Nat) : Nat := if r = 8 then 1 else if r = 9 then 4 else 3

/-- A region is on: fences of a part other than the fabric open at once, HBM's when its content is ready (R333, R338). -/
def State.regionBack (s : State) (r : Nat) : State :=
  let s := s.setF F.PWR_REGION_STATUS_ON 0 (s.regionsOn ||| BitVec.ofNat 11 (2 ^ r)).toNat
  let s := (if r < 8 then s else s.clockRuns (regionClock r)).unpark (regionStations r)
  if r < 9 then s else (powerRegionNis r).foldl (fun s n => s.fenceReopen n s.self) s

/-- A quad is on. -/
def State.quadBack (s : State) (q : Nat) : State :=
  let s := s.setWord .PWR_QUAD_STATUS 0 (s.quadsOn ||| BitVec.ofNat 32 (2 ^ q))
  ((s.clockRuns (16 + q)).unpark [0x70 + q]).fenceReopen (0x70 + q) s.self

/-- A change of power begins: what goes on goes on at once, what goes off is drained first. -/
def State.changeBegins (s : State) (who : Who) (target : Option Nat) (off on : BitVec 11) (quadsOff quadsOn : Word) : State :=
  let s := s.raise F.PWR_STATE_STATUS_BUSY 0
  let s := s.putPower { s.power with change := some ⟨target, off, quadsOff, fpdsOf on, false, who⟩ }
  let s := (bitsOf on).foldl State.regionBack s
  let s := (bitsOf quadsOn).foldl State.quadBack s
  let s := if target = some 0 ∧ ¬ off.getLsbD 8 then s.selfRefreshEnds else s
  if off != 0 || quadsOff != 0 || target == some 2 || target == some 3 then s.powerDrain else s.changeEnds

/-- The results of the slices of powered-up groups (R403 step 2): rods of the retirement list are FAILED untested, those listed
are as their slices found them, the others good; the groups' repair maps are formed anew. -/
def State.mapsAgain (s : State) (groups : List Nat) (results : List (Nat × SliceResult)) : State :=
  let rods := groups.flatMap fun g => (List.range 17).map (17 * g + ·)
  let s := s.putMem { s.mem with sparesUsed := s.mem.sparesUsed.filter fun kv => !groups.contains (groupOfPhys (kv.1 / 32)) }
  let s := rods.foldl
    (fun s k =>
      let x := ((results.find? (·.1 == k)).map (·.2)).getD ⟨0, [], []⟩
      let cause := if s.repair.retired.contains k then 8 else if x.cause = 7 then 7 else sliceFault x
      let s := (s.setF F.REPAIR_ROD_STATUS_CAUSE k cause).rodTested k x
      s.setF F.REPAIR_ROD_STATUS_STATE k (if cause = 0 then 1 else 3)) s
  groups.foldl State.formMap s

/-- The frames of a rod can all be reloaded from the sources of their last loads (R156, R403 step 3). -/
def State.rodRestores (s : State) (rod : Nat) (same : Bool) : Bool :=
  let own := s.cfg.frameSource.filter fun kv => kv.1 / 1024 == rod
  own.all (fun kv => s.sourceGood kv.2 same) &&
  (decide (960 ≤ own.length) || s.cfg.fullSource.all fun x => s.sourceGood x same)

/-- Frames of the rods of FPD regions are rewritten from what their last loads wrote (R403 step 3); a span with a frame
that cannot be is left INCOMPLETE. -/
def State.framesBack (s : State) (on : BitVec 11) (same : Bool) : State :=
  let bad := (List.range (Part.rods s.part)).filter fun r => rodIn on r && !s.rodRestores r same
  let back := s.cfg.loaded.filter fun kv => rodIn on (kv.1 / 1024) && !bad.contains (kv.1 / 1024)
  let kept : Cells (BitVec 4096) := s.cfg.frames.filter fun kv => !rodIn on (kv.1 / 1024)
  let frames := back.foldl (fun (c : Cells (BitVec 4096)) kv => Sparse.set 0 c kv.1 kv.2) kept
  let s : State := s.putCfg { s.cfg with frames := frames }
  (s.cfg.spans.filter fun d => bad.any d.rods.getLsbD).foldl
    (fun s d => (s.setSpan d.id 5).raise F.PWR_STATUS_RESTORE_LOST 0) s

/-- A base frame of a region cannot be reloaded (R403). -/
def State.baseLost (s : State) (on : BitVec 11) (same : Bool) : Bool :=
  (List.range (Part.rods s.part)).any fun r =>
    rodIn on r && !s.rodRestores r same && !s.cfg.spans.any fun d => d.rods.getLsbD r

/-- Fabric NIs that the image uses open, but for those of spans that do not run and of lost rods (R403 step 5). -/
def State.usedOpen (s : State) (on : BitVec 11) : State :=
  (s.fabricNis.filter fun n => on.getLsbD (n % 32 / 4)).foldl
    (fun s n =>
      if s.net.used.getLsbD n && !s.niSpanStopped n && !(niRods n).any s.lostRod then s.fenceReopen n s.self else s) s

/-- FPD regions are restored (R403 steps 2 to 5). whole says that the fabric returns as it was before (a return to ACTIVE,
or the end of a brownout): spans return to the states they had and used NIs open. A base frame that cannot be reloaded
makes the device load slot 0 (R144 from step 2). -/
def State.restoreFpds (s : State) (on : BitVec 11) (results : List (Nat × SliceResult)) (same whole : Bool) : State :=
  let s := s.mapsAgain ((List.range (Part.groups s.part)).filter fun g => on.getLsbD (g / 2)) results
  if s.cfg.fullSource.isSome && s.baseLost on same then s.gateFabric.goldenLoad true false ⟨0x30, 0xFF⟩
  else
    let back (s : State) (kv : Nat × Nat) : State :=
      if s.spanState kv.1 = 0 ∨ !(s.spanDecl kv.1).any s.spanPowered then s else s.setSpan kv.1 kv.2
    let s : State := if whole then s.cfg.spanBefore.foldl back s else s
    let s := s.framesBack on same
    let s := s.pass 1
    let s := s.fabricClear (rodIn on)
    let s := (s.queueSettings (rodIn on)).queueStart (rodIn on)
    let s := s.raise F.PWR_STATUS_RESTORED 0
    if whole then (s.usedOpen on).stepNext else s.stepNext

/-- FPD_RESTORE_DONE: a powered FPD region has been tested, reloaded and released (R403): every FPD region the running
change switched on, wait ticks later. results lists what the slices of physical rods found. -/
def State.fpdRestoreDone (s : State) (wait : Nat) (results : List (Nat × SliceResult)) (same : Bool) : State :=
  match s.power.change with
  | none => s
  | some c =>
    if c.on = 0 || s.fabric.brownout then s
    else
      let s := (s.pass wait).restoreFpds c.on results same (c.target == some 0)
      let s := s.putCfg { s.cfg with spanBefore := if c.target = some 0 then [] else s.cfg.spanBefore }
      (s.putPower { s.power with change := some { c with on := 0 } }).changeEnds

-- ------------------------------------------------------------------ device states (R400)

/-- The record controller and capture are IDLE and no configuration operation runs; leaving ACTIVE for STANDBY also wants
every quad STOPPED and the store unmounted (R400). -/
def State.stateRefusal (s : State) (target : Nat) : Option Nat :=
  let now := s.f F.PWR_STATE_STATUS_STATE 0
  let idle : Option Nat :=
    if s.phase != 0 then some 2 else if s.capState != 0 then some 3 else if s.configBusy then some 4 else none
  if !s.on F.DEV_STATUS_USER_MODE 0 then some 10
  else if s.power.change.isSome then some 1
  else if !(match target with
    | 0 => now == 1 || now == 2
    | 1 => now == 0 || now == 2
    | 2 => now == 0 || now == 1
    | _ => now == 2) then some 11
  else
    match target with
    | 0 => s.offRefusal (s.regionsOn &&& ~~~((s.word .PWR_REGION_CTRL 0).setWidth 11)) (s.quadsOn &&& ~~~(s.word .PWR_QUAD_CTRL 0))
    | 1 => idle
    | 2 =>
      match idle with
      | some c => some c
      | none =>
        if (List.range (Part.quads s.part)).any fun q => s.funcState (.quad q) != 0 then some 5
        else if s.on F.STORE_STATUS_MOUNTED 0 then some 6 else none
    | _ => if s.on F.HOST_LINK_STATUS_D3HOT 0 || !s.hostUp then none else some 7

/-- What is on in a device state (R400): the settings of REGION_CTRL and QUAD_CTRL in ACTIVE, all but the FPD regions in
FABRIC_OFF, the sequencer (and HBM, in self-refresh) in STANDBY, nothing in DORMANT. -/
def State.stateRegions (s : State) (target : Nat) : BitVec 11 × Word :=
  let set := (s.word .PWR_REGION_CTRL 0).setWidth 11 &&& Part.regions s.part
  let quads := s.word .PWR_QUAD_CTRL 0 &&& Part.quadMask s.part
  match target with
  | 0 => (set, quads)
  | 1 => (s.regionsOn &&& 0x700#11 ||| set &&& 0x700#11, s.quadsOn ||| quads)
  | 2 => (s.regionsOn &&& 0x500#11, 0)
  | _ => (0, 0)

/-- A state request that is allowed begins. FABRIC_OFF from STANDBY switches quads and the store on again. -/
def State.stateBegins (s : State) (who : Who) (target : Nat) : State :=
  let (regions, quads) := s.stateRegions target
  let now := s.f F.PWR_STATE_STATUS_STATE 0
  let before := s.cfg.spans.foldl (fun c d => Sparse.insert c d.id (s.spanState d.id)) []
  let s := if now = 0 then s.putCfg { s.cfg with spanBefore := before } else s
  let s := if target = 1 then s.selfRefreshEnds else s
  s.changeBegins who (some target) (s.regionsOn &&& ~~~regions) (regions &&& ~~~s.regionsOn)
    (s.quadsOn &&& ~~~quads) (quads &&& ~~~s.quadsOn)

/-- A write of STATE_CTRL (R400). -/
def State.writeStateCtrl (s : State) (who : Who) (data : Word) : State :=
  if !data.getLsbD 31 then s
  else
    match s.stateRefusal (fieldOf data 0 2) with
    | some c => s.powerRefused who c .PWR_STATE_CTRL data
    | none => s.stateBegins who (fieldOf data 0 2)

/-- The word of STATE_CTRL that requests a state. -/
def stateWord (target : Nat) : Word := BitVec.ofNat 32 (2 ^ 31 + target)

-- ------------------------------------------------------------------ REGION_CTRL and QUAD_CTRL (R401)

/-- A write of REGION_CTRL (R29, R401, R402): stored in FABRIC_OFF and STANDBY; otherwise regions change. -/
def State.writeRegionCtrl (s : State) (who : Who) (data : Word) : State :=
  let set := data.setWidth 11
  if set &&& ~~~(Part.regions s.part) != 0 then
    ((s.raise F.PWR_STATE_STATUS_REFUSED 0).setF F.PWR_STATE_STATUS_CAUSE 0 0).journalRefusal who .absent .PWR_REGION_CTRL 0
      data.toNat
  else if s.f F.PWR_STATE_STATUS_STATE 0 != 0 then s.writeTyped who .PWR_REGION_CTRL 0 data
  else if s.power.change.isSome then s.powerRefused who 1 .PWR_REGION_CTRL data
  else
    let off := s.regionsOn &&& ~~~set
    let on := set &&& ~~~s.regionsOn
    match s.offRefusal off 0 with
    | some c => s.powerRefused who c .PWR_REGION_CTRL data
    | none =>
      let s := s.writeTyped who .PWR_REGION_CTRL 0 data
      if off = 0 ∧ on = 0 then s else s.changeBegins who none off on 0 0

/-- A write of QUAD_CTRL (R29, R401). -/
def State.writeQuadCtrl (s : State) (who : Who) (data : Word) : State :=
  if data &&& ~~~(Part.quadMask s.part) != 0 then
    ((s.raise F.PWR_STATE_STATUS_REFUSED 0).setF F.PWR_STATE_STATUS_CAUSE 0 0).journalRefusal who .absent .PWR_QUAD_CTRL 0
      data.toNat
  else if s.f F.PWR_STATE_STATUS_STATE 0 != 0 then s.writeTyped who .PWR_QUAD_CTRL 0 data
  else if s.power.change.isSome then s.powerRefused who 1 .PWR_QUAD_CTRL data
  else
    let off := s.quadsOn &&& ~~~data
    let on := data &&& ~~~s.quadsOn
    match s.offRefusal 0 off with
    | some c => s.powerRefused who c .PWR_QUAD_CTRL data
    | none =>
      let s := s.writeTyped who .PWR_QUAD_CTRL 0 data
      if off = 0 ∧ on = 0 then s else s.changeBegins who none 0 0 off on

-- ------------------------------------------------------------------ wakes (R404)

/-- A wake cause is enabled (R404): EXTL n only with PORT = 12. -/
def State.wakeEnabled (s : State) (cause : Nat) : Bool :=
  decide (cause < 18) && (s.word .PWR_WAKE_EN 0).getLsbD cause &&
  (decide (16 ≤ cause) || (s.on F.PIN_EXTL_CFG_EN cause && s.f F.PIN_EXTL_CFG_PORT cause == 12))

/-- A wake cause comes: EXTL line 0 to 15, 16 a rising edge on PERST#, 17 WAKE# held low (R404, R405). -/
def State.wakeCause (s : State) (cause : Nat) : State :=
  if !s.wakeEnabled cause || s.power.hot || s.dev.porst then s
  else if s.f F.PWR_STATE_STATUS_STATE 0 = 3 then s.wakes cause
  else if s.power.change.any fun c => c.target == some 3 then
    s.putPower { s.power with wakePending := some cause }
  else s

-- ------------------------------------------------------------------ supplies (R406, R408)

/-- A brownout begins (R408): the boundary of the fabric is gated and its pins are held; at the next tick every stage is
gated and every fabric NI's fence closes with drain limit 0. A step of the roving spare is given up. -/
def State.brownoutBegins (s : State) : State :=
  if s.fabric.brownout then s
  else
    let s := s.holdPads ((List.range 192).filter fun p => s.padFunc p == 1)
    let s := s.putFabric { s.fabric with brownout := true }
    let s := (s.raise F.PWR_STATUS_BROWNOUT 0).journalEvent s.ownOrigin .PWR_STATUS 0 0
    let s := (s.pass 1).fenceDomain s.fabricNis (fun _ => 0) 1 0x60000000 s.self
    match s.repair.step with
    | some st => if st.moving then s.stepPhase st 0 else s
    | none => s

/-- VCC_FAB has stayed at or above 0.60 V for 100 µs (R408): the fabric that is on is restored whole, wait ticks later; a
restore of the running change begins again (R405). -/
def State.brownoutEnds (s : State) (wait : Nat) (results : List (Nat × SliceResult)) (same : Bool) : State :=
  if !s.fabric.brownout then s
  else
    let s := s.pass (100 * ticksPerUs + wait)
    let s := s.putFabric { s.fabric with brownout := false }
    let on := fpdsOf s.regionsOn &&& ~~~((s.power.change.map (·.on)).getD 0)
    if !s.on F.DEV_STATUS_USER_MODE 0 || on == 0 then s
    else
      let s := s.fpdsLost on
      s.restoreFpds on results same true

/-- A reading of the fabric supply monitor, which comes every microsecond (R408); VCC_SYS is shown beside it. -/
def State.supplySample (s : State) (fab sys : Nat) : State :=
  if s.dev.porst then s
  else
    let s := s.pass ticksPerUs
    let s := (s.setF F.PWR_SUPPLY_FAB_MV 0 (min fab 4095)).setF F.PWR_SUPPLY_SYS_MV 0 (min sys 4095)
    if fab < 580 ∨ 930 < fab then s.raise F.PWR_STATUS_FAB_RANGE 0 else s

/-- A supply leaves its range: its row of R406 from 1, and the bank of a VCCIO (R406). -/
def State.supplyLost (s : State) (row bank : Nat) : State :=
  if s.dev.porst || row = 0 || decide (9 < row) then s
  else
    let s := s.setF F.PWR_STATUS_FAULT_SUPPLY 0 row
    let out := if row = 9 then s.power.outOfRange
      else if s.power.outOfRange.contains row then s.power.outOfRange else s.power.outOfRange ++ [row]
    let s := s.putPower { s.power with outOfRange := out }
    let fault := fun (s : State) => s.raise F.PWR_STATUS_SUPPLY_FAULT 0
    let due := fun (s : State) (d : Due) => s.putDev { s.dev with due := s.dev.due ++ [d] }
    match row with
    | 1 => s
    | 2 =>
      let s := fault s
      let s := s.putPower { s.power with held := true }
      due s (.sysReset 6 0x30)
    | 3 => due s .por
    | 4 | 5 => (List.range (Part.quads s.part)).foldl State.pllLost (fault s)
    | 6 | 7 => (List.range 16).foldl (fun s p => s.stationError (0x60 + p) 1 false) (fault s)
    | 8 => fault s
    | _ => if bank < 13 then s.setF F.PIN_BANK_STATUS_LEVEL bank 0 else s

/-- A supply returns to its range (R406): VCC_SYS releases a held SYS_RESET after 1 ms; a bank shows its level. -/
def State.supplyBack (s : State) (row bank level : Nat) : State :=
  if s.dev.porst then s
  else if row = 9 then (if bank < 13 then s.setF F.PIN_BANK_STATUS_LEVEL bank (min 5 level) else s)
  else
    let s := s.putPower { s.power with outOfRange := s.power.outOfRange.filter (· != row) }
    if row = 2 ∧ s.power.held then
      let s := s.pass (1000 * ticksPerUs)
      (s.putPower { s.power with held := false }).bootBegins
    else s

-- ------------------------------------------------------------------ temperature (R409)

/-- The byte of a temperature in °C, and the temperature of a byte. -/
def tempByte (t : Int) : Nat := (BitVec.ofInt 8 t).toNat
def byteTemp (b : Nat) : Int := (BitVec.ofNat 8 b).toInt

/-- Thermal shutdown (R409): lines are released, transmitters idle, every region but always-on goes off as in DORMANT. -/
def State.thermalShutdown (s : State) : State :=
  let s := s.putPower { s.power with hot := true, change := none, wakePending := none }
  let s := s.tbusRelease
  let s := s.journalEvent s.ownOrigin .PWR_TEMP 0 0
  let nis := (List.range 0x99).filter (niPresent s.part)
  let s := s.fenceDomain nis (fun _ => 0) 1 0x60000000 s.self
  let s := (s.isolateFpds 0xFF#11).fpdsLost 0xFF#11
  let s := (bitsOf s.regionsOn).foldl (fun s r => s.regionGone r s.self) s
  let s := (bitsOf s.quadsOn).foldl (fun s q => s.quadGone q s.self) s
  (s.setF F.PWR_STATE_STATUS_BUSY 0 0).stateReached 3

/-- The junction sensors report (R409), every 100 µs: the hottest reading and its sensor. -/
def State.tempRead (s : State) (t : Int) (sensor : Nat) : State :=
  if s.dev.porst then s
  else
    let s := s.pass (100 * ticksPerUs)
    let t := max (-128) (min 127 t)
    let s := (s.setF F.PWR_TEMP_NOW 0 (tempByte t)).setF F.PWR_TEMP_SENSOR 0 (min 8 sensor)
    let s := s.setF F.PWR_TEMP_MAX 0 (tempByte (max t (byteTemp (s.f F.PWR_TEMP_MAX 0))))
    let s := if byteTemp (s.f F.PWR_TEMP_CFG_WARN 0) ≤ t then s.raise F.PWR_STATUS_TEMP_WARN 0 else s
    if s.power.hot then
      (if t < 100 then (s.putPower { s.power with hot := false }).wakes 18 else s)
    else if 110 ≤ t then s.thermalShutdown
    else s

end Sys2Proof.Machine
end

