-- ==== Sys2Proof/Machine/Beam.lean ====
section
/-! DEFINITION. What an event of the Beam does at its destinations (R23, R277 to R279). -/

namespace Sys2Proof.Machine

/-- The events that act together: those of the earliest entry tick. -/
def State.beamDue (s : State) : List BeamEvent :=
  match s.beam.flight with
  | [] => []
  | e :: _ => s.beam.flight.filter (·.entry == e.entry)

/-- Destination d's route names one of the sources, and is enabled (R278). -/
def State.routed (s : State) (sources : List Nat) (d : Nat) : Bool :=
  s.on F.BEAM_ROUTE_EN d && sources.contains (s.f F.BEAM_ROUTE_SRC d)

/-- The route of a destination carries an event that entered on tick t (R279): a fixed route always, a runtime route in
RUN, and in STOPPING for the events that were in the crossbar at the stop. -/
def State.routeCarries (s : State) (t : DWord) (d : Nat) : Bool :=
  s.on F.BEAM_ROUTE_FIXED d || s.funcState .beam == 1 || (s.funcState .beam == 2 && s.beforeStop t)

/-- An event acts at destination d on tick t (R277); the record controller's destinations and START act apart. -/
def State.beamAct (s : State) (t : DWord) (d : Nat) : State :=
  if d < 18 then s.lineEvent d
  else if d < 34 then s.ftiEvent (d - 18)
  else if d = 34 then s.freezeEvent t false
  else if d = 35 then s.tallyStrobe
  else if 39 ≤ d ∧ d < 43 then s.coreInput (d - 39) 32
  else s

/-- The events that entered first act nine ticks after they entered (R23, R278, R279). -/
def State.beamEvents (s : State) : State :=
  match s.beamDue with
  | [] => s
  | e :: rest =>
    let t := e.entry + 9
    let s := s.advanceTo t
    let s := s.putBeam { s.beam with flight := s.beam.flight.filter (·.entry != e.entry) }
    let origins := (e :: rest).map (·.origin)
    let sources := origins.filterMap fun o => match o with
      | .source n => some n
      | .direct _ => none
    let direct := fun d => origins.contains (.direct d)
    let hits := (List.range 43).filter (s.routed sources)
    let s := (hits.filter fun d => !s.routeCarries e.entry d).foldl (fun s d => s.bump F.BEAM_DST_CNT_DROPPED d 1) s
    let hits := hits.filter (s.routeCarries e.entry)
    let s := sources.foldl State.sysrefEvent s
    let s := hits.foldl (fun s d => s.beamAct t d) s
    let s := if direct 34 then s.freezeEvent t true else s
    let s := if direct 35 && !hits.contains 35 then s.tallyStrobe else s
    let start := direct 36 || hits.contains 36
    let close := direct 37 || hits.contains 37
    let s := if start || close then s.recordEvent start close else s
    if direct 38 then s.startActs t else s

end Sys2Proof.Machine
end

