-- ==== Sys2Proof/Machine/Resets.lean ====
section
/-! DEFINITION. Resets (R30 to R32, R371, R404), the start of the part (R125, R147), releases (R49), acknowledgement of
events (R35), and the commands that may bring a reset about. -/

namespace Sys2Proof.Machine

-- ------------------------------------------------------------------ POR (R30)

/-- POR (R30): everything is as after reset but for what the part keeps without power: the store with its ledger ring and
device records, and what lies outside the part. drains says that the ledger's buffer is written first (R446). -/
def State.por (s : State) (drains : Bool) : State :=
  let s := s.ledgerPor drains
  let r := State.reset
  let s' := { r with
    part := s.part
    fresh := s.fresh
    dev := { r.dev with porst := true }
    ledger := s.ledger
    fabric := { r.fabric with padIn := s.fabric.padIn }
    cfg := { r.cfg with store := s.cfg.store }
    repair := { r.repair with retired := s.repair.retired }
    hbm := { r.hbm with repaired := s.hbm.repaired }
    store := { r.store with drives := unlinked s.store.drives }
    dbg := { r.dbg with locked := s.dbg.locked, erasing := s.dbg.erasing }
    power := { r.power with outOfRange := s.power.outOfRange }
    out := s.out
    pending := s.pending }
  s'.setF F.REPAIR_RETIRED_COUNT 0 s.repair.retired.length

/-- Every region of the variant is on (R147, R404, R405). -/
def State.allRegionsOn (s : State) : State :=
  let s := s.setF F.PWR_REGION_STATUS_ON 0 (Part.regions s.part).toNat
  s.setWord .PWR_QUAD_STATUS 0 (Part.quadMask s.part)

/-- PORST_N is released (R125, R147, R128): the straps are sampled, TIME starts at 0, the boot header is read; the ledger's
scan follows. An unlock erase that was unfinished goes on (R423). -/
def State.porstRelease (s : State) (bootSrc : BitVec 2) (cfgPull : Bool) : State :=
  if !s.dev.porst then s
  else
    let s := ((((s.putTime 0).putTimeOffset 0).putSyncRef none).putDev { s.dev with porst := false, bootSrc := bootSrc, cfgPull := cfgPull }).putCfg { s.cfg with deadlineFrom := 0 }
    let s := (s.raise F.TIME_STATUS_HOLDOVER 0).allRegionsOn.readBootHeader
    if s.dbg.erasing then s.journalDebug 0x40 8 else s

-- ------------------------------------------------------------------ SYS_RESET (R30 to R32)

/-- A register's instance returns to its Reset value at SYS_RESET (R7, R30): every domain but POR and DBG; bank W's GPIO
port and LINK_STATUS.ID_LATCHED are of domain POR. -/
def sysResets (r : Reg) (inst : Nat) : Bool :=
  (regSpec r).domain != .POR && (regSpec r).domain != .DBG &&
  !((r == .PIN_GPIO_OUT || r == .PIN_GPIO_OE) && inst == 12)

/-- The registers after a SYS_RESET; ID_LATCHED and INIT_DONE stay. -/
def State.sysRegs (s : State) : State :=
  let latched := s.f F.HOST_LINK_STATUS_ID_LATCHED 0
  let ready := s.f F.HBM_STATUS_INIT_DONE 0
  let s := s.resetRegs sysResets
  let s := s.setF F.HOST_LINK_STATUS_ID_LATCHED 0 latched
  let s := s.setF F.HBM_STATUS_INIT_DONE 0 ready
  s.setF F.REPAIR_RETIRED_COUNT 0 s.repair.retired.length

/-- An access of DBG_ACCESS or through a memory port that a reset cuts off ends FENCED (R415). -/
def State.debugCut (s : State) : State :=
  let d := s.dbg
  s.setDebug { d with
    waiting := false, resume := [], memPort := [], haltDue := []
    stimWaits := d.stimWaits.map fun w => { w with run := none }
    accessRunning := false
    accessData := if d.accessRunning then 0 else d.accessData
    accessDone := d.accessDone || d.accessRunning
    accessError := d.accessError || d.accessRunning
    accessErr := if d.accessRunning then 2 else d.accessErr }

/-- Every region but always-on is reset, and configuration restarts from the boot header (R30, R404, R405): host link
down, store unmounted, record abandoned, halts ended, lines released; HBM keeps its content. -/
def State.restart (s : State) : State :=
  let s := s.linkDown.tbusRelease
  let s := (List.range 4).foldl State.haltEnds s
  let s := s.debugCut
  let s := s.sysRegs
  let r := State.reset
  let s := (((((((((((((((((((s.putLatches []).putDev { s.dev with evtPend := 0, evtSent := 0, evtBeads := [], sysWarning := false, due := [], stopping := [], acting := [], controls := [] }).putFabric { r.fabric with padIn := s.fabric.padIn }).putMem r.mem).putCfg { r.cfg with store := s.cfg.store, header := s.cfg.header, deadlineFrom := s.time }).putRepair { r.repair with retired := s.repair.retired }).putNet { r.net with debugOrigin := s.net.debugOrigin, stopped := s.net.stopped }).putBeam ⟨s.beam.flight.filter fun e => match e.origin with
      | .source _ => true
      | .direct _ => false⟩).putRecord r.record).putTally r.tally).putTbus { s.tbus with fifo := [] }).putLanes r.lanes).putHbm { s.hbm with rings := [], scrubAt := [], scrubbedAt := [], testAt := [] }).putStore { s.store with drives := unlinked s.store.drives, channels := [], command := 0, cause := 0 }).putMsix r.msix).putHost { r.host with identity := s.host.identity }).putSeq { s.seq with cores := [], dogs := [], throttleTold := none }).putPins r.pins).putPeriph r.periph).putPower { s.power with change := none, wakePending := none }
  s.allRegionsOn.readBootHeader.bootBegins

/-- The bits of DEV.RESET_CAUSE for the causes of a SYS_RESET. -/
def causeBits (causes : List Nat) : Nat := (causes.filter (· < 6)).eraseDups.foldl (fun w c => w + 2 ^ c) 0

/-- A SYS_RESET (R30, R31, R441): its ledger entry first, then its causes and its count. -/
def State.sysReset (s : State) (causes : List Nat) (origin : BitVec 8) : State :=
  let w := causeBits causes
  let s := s.journal origin 0x08 0 ⟨csrOffset .DEV_RESET_CAUSE 0, 0, w, 0⟩
  let s := s.setWord .DEV_RESET_CAUSE 0 (s.word .DEV_RESET_CAUSE 0 ||| BitVec.ofNat 32 w)
  let s := s.bump F.DEV_RESET_CAUSE_SYS_COUNT 0 1
  if s.dbg.erasing then s.hbmLost.restart else s.restart

/-- A wake (R404): the part restarts as at SYS_RESET, but RESET_CAUSE and SYS_COUNT stay, and HBM and the sequencer's
memories have lost their content. -/
def State.wake (s : State) : State :=
  let s := s.hbmLost
  (s.putSeq { s.seq with tcm := [], sram := [] }).restart

/-- A function reset of core n that a watchdog or a guard policy brings about (R381, R387). -/
def State.coreReset (s : State) (n : Nat) (again : Bool) : State :=
  let s := s.resetActs (.func (.core n)) s.self
  let s := s.journal s.self.origin 0x08 1 ⟨csrOffset .DEV_FRESET 0, 0, 2 ^ 31 + 18 + 65536 * n, 0⟩
  if again then (s.setRun (.core n) true).funcRuns (.core n) else s

/-- The resets that a command has asked for act (R31, R387): the widest one, into which the others are absorbed. -/
def State.dueActs (s : State) : State :=
  let due := s.dev.due
  let s := s.putDev { s.dev with due := [] }
  let sys := due.filterMap fun d => match d with
    | .sysReset c o => some (c, o)
    | _ => none
  if due.contains .por then s.por false
  else if due.any fun d => match d with
    | .wake _ => true
    | _ => false
  then s.wake
  else
    match sys with
    | x :: _ => s.sysReset (sys.map (·.1)) x.2
    | [] =>
      due.foldl (fun s d => match d with
        | .coreReset n again => s.coreReset n again
        | _ => s) s

/-- SYS_RESET asked for by DEV.CTRL (R30). -/
def State.askSysReset (s : State) (cause : Nat) (origin : BitVec 8) : State :=
  s.putDev { s.dev with due := s.dev.due ++ [.sysReset cause origin] }

/-- A write of DEV.CTRL: PERST_SYS, which HOST_LOCK refuses (R385), then SYS_RESET for its key. -/
def State.writeDevCtrl (s : State) (who : Who) (data : Word) : State :=
  let changes := data.getLsbD 0 != s.on F.DEV_CTRL_PERST_SYS 0
  let locked := s.guardLocked && s.on F.SEQ_GUARD_POLICY_HOST_LOCK 0
  let s := if changes && locked then s.breach who .rwl .DEV_CTRL 0 data.toNat
    else s.writeTyped who .DEV_CTRL 0 (data &&& 1#32)
  if fieldOf data 16 16 = 0xA5C3 then s.askSysReset 1 who.origin else s

-- ------------------------------------------------------------------ PERST# (R25, R371)

/-- The host endpoint and host DMA are reset (R25, R371): channels drop what they hold, requests to the window are fenced,
a load from the host ends. The fence answers what the window still owes. -/
def State.endpointReset (s : State) : State :=
  let s := s.linkDown.dmaDropAll.hostReadsDropped
  let latched := s.f F.HOST_LINK_STATUS_ID_LATCHED 0
  let s := s.resetRegs fun r _ => (regSpec r).domain == .PERST
  let s := (s.setF F.HOST_LINK_STATUS_ID_LATCHED 0 latched).pf0Reset
  let s := s.raise F.HOST_STATUS_PERST_SEEN 0
  let s := s.fenceDomain [0x90, 0x91] (fun _ => 0) 4 0x50000090 s.self
  let s := s.putHost { s.host with pieces := [], writes := 0, lastWrite := none, barReads := [], xlat := [] }
  if s.cfg.load.any fun l => l.src == 2 || l.src == 3 then s.loadStops .hostReset else s

/-- PERST# comes and goes (R25, R371, R404): under PERST_SYS a SYS_RESET, otherwise a reset of the endpoint alone. WAKE# is
let go. -/
def State.perst (s : State) : State :=
  let s := s.putPower { s.power with wakeDriven := false }
  if s.on F.DEV_CTRL_PERST_SYS 0 then s.askSysReset 4 s.ownOrigin
  else if s.f F.PWR_STATE_STATUS_STATE 0 = 3 then s
  else s.endpointReset

-- ------------------------------------------------------------------ releases (R49)

/-- The first release in progress ends (R49 step 3), wait ticks after it may: no earlier than t + 16. -/
def State.releaseActs (s : State) (wait : Nat) : State :=
  match s.cfg.releases with
  | [] => s
  | x :: rest =>
    let s := (s.advanceTo (x.tick + 16)).pass wait
    let s := s.putCfg { s.cfg with releases := rest }
    match x.cause, x.reach, s.cfg.starting with
    | .start, _, some l => (s.startReleases l).haltsDue
    | .start, _, none => s
    | .fabricReset, _, _ => s.fabricResetReleases
    | .spanReset, .span n, _ => s.spanResetReleases n
    | .spanReset, _, _ => s

end Sys2Proof.Machine
end

