-- ==== Sys2Proof/Machine/Csr.lean ====
section
/-! DEFINITION. CSR space: what a read of each register returns and changes (R5, R433), what a write of each register does
(R4 to R6, R28), and accesses as the blocks' owners make them. -/

namespace Sys2Proof.Machine

-- ------------------------------------------------------------------ what a register reads

/-- CN.LINK_STATUS.UP: the input direction of a port is in service. -/
def State.linkUpIn (s : State) (page port : Nat) : Bool :=
  match portEnd s.part page port with
  | some (.node t) =>
    match returnPort s.part t page with
    | some q => !s.outputDown t q
    | none => false
  | some (.ni n) => s.niPowered n
  | none => false

/-- Registered U routes on eight outputs from port lo on, four bits each (R232). -/
def State.uCounts (s : State) (page lo : Nat) : Nat :=
  (List.range 8).foldl (fun acc j => acc + (if lo + j < 15 then s.uCount page (lo + j) % 16 else 0) * 16 ^ j) 0

/-- The entry that RT_DATA reaches (R214). -/
def State.rtEntry (s : State) (n : Nat) : DWord := s.entry n (s.rtBank n) (s.f F.NI_RT_INDEX_ENTRY n)

/-- WDOG.COUNT: the remaining count and PAUSED (R381, R382). -/
def State.dogWord (s : State) (w : Nat) : Word :=
  match s.dog w with
  | some d => BitVec.ofNat 32 (s.dogCount d % 2 ^ 24 + (if d.reason = 0 then 0 else 2 ^ 24))
  | none => 0

/-- The low and the high half of a 64-bit value. -/
def halfOf (v : Nat) (high : Bool) : Word := BitVec.ofNat 32 (if high then v / 2 ^ 32 else v)

/-- Registers whose value follows other state, with the value they show. -/
def State.shown (s : State) (r : Reg) (i : Nat) : Option Word :=
  let stored := (s.word r i).toNat
  match r with
  | .DEV_EVT_PEND => some s.groups
  | .DEV_XS_ISLAND_CLK => some s.islandClocks
  | .DEV_XS_QUAD_CLK => some s.quadClocks
  | .PWR_RATE_VALUE => some s.rateValue
  | .CFG_RB_COUNT => s.cfg.transfer.map fun t => BitVec.ofNat 32 t.left
  | .CFG_RB_DATA => some s.rbWord
  | .CN_U_ROUTES_LO => some (BitVec.ofNat 32 (s.uCounts i 0))
  | .CN_U_ROUTES_HI => some (BitVec.ofNat 32 (s.uCounts i 8))
  | .CN_SPARE_SET =>
    let waits := (s.router i).staged.any fun x => x.reg == .CN_SPARE_SET && x.value.getLsbD 31
    some (BitVec.ofNat 32 (stored % 2 ^ 31 + (if waits then 2 ^ 31 else 0)))
  | .CN_LINK_STATUS => some (BitVec.ofNat 32 (stored + (if s.linkUpIn (i / 15) (i % 15) then 1 else 0)))
  | .NI_RT_DATA_LO => some (halfOf (s.rtEntry i).toNat false)
  | .NI_RT_DATA_HI => some (halfOf (s.rtEntry i).toNat true)
  | .NI_TXN => some (BitVec.ofNat 32 ((s.ni i).outstanding.length + 65536 * (s.ni i).quarantine.length))
  | .TIME_NOW_LO => some (halfOf s.now.toNat false)
  | .TIME_NOW_HI => some (halfOf s.now.toNat true)
  | .TIME_SYNC_CTRL => some (BitVec.ofNat 32 (stored + s.f F.TIME_STATUS_SYNC_ARMED 0))
  | .TALLY_CTRL => some (BitVec.ofNat 32 (stored + (if s.tallyTaking then 1 else 0)))
  | .TALLY_SHADOW_LO => some s.shadowLo
  | .TALLY_SHADOW_HI => some s.shadowHi
  | .TALLY_SHADOW_SEQ => some s.shadowSeq
  | .HOST_XLAT_DATA_LO => some (halfOf (s.xlatEntry (s.f F.HOST_XLAT_INDEX_ENTRY 0)).toNat false)
  | .HOST_XLAT_DATA_HI => some (halfOf (s.xlatEntry (s.f F.HOST_XLAT_INDEX_ENTRY 0)).toNat true)
  | .SEQ_IC_CLAIM => some (BitVec.ofNat 32 ((s.claimable i).getD 0x3F))
  | .WDOG_COUNT => some (s.dogWord i)
  | .WDOG_CTRL => if i = 4 then some (BitVec.ofNat 32 (withField (s.word r i) 1 1 1).toNat) else none
  | .PIN_GPIO_IN => some (s.gpioIn i)
  | .I2C_RXDATA => some (s.rxPeek (.i2c i))
  | .SPI_RXDATA => some (s.rxPeek (.spi i))
  | .UART_RXDATA => some (s.rxPeek (.uart i))
  | .PMB_RXDATA => some (s.rxPeek .pmb)
  | .DBG_AUTH => some s.authWord
  | .DBG_CORE_REG_DATA => some (s.coreRegRead i)
  | .DBG_TRACE_STATUS => some (BitVec.ofNat 32 (stored + s.traceDrain.dbg.trace.length))
  | .LEDGER_STATUS | .LEDGER_HEAD_SEQ | .LEDGER_COMMIT_SEQ | .LEDGER_OLDEST_SEQ | .LEDGER_RD_SEQ | .LEDGER_RD_STATUS
  | .LEDGER_LOST | .LEDGER_BAD_PAGES | .LEDGER_RD_DATA => some (s.ledgerWord r i)
  | .QUEUE_CTRL | .QUEUE_STATUS | .QUEUE_LEVEL | .QUEUE_PKTS | .QUEUE_OPEN | .QUEUE_RD_PTR | .QUEUE_CM_PTR
  | .QUEUE_WR_PTR => (s.queueLive r i).map (BitVec.ofNat 32)
  | .TBUS_LINE_STATUS | .TBUS_LINE_CTRL | .TBUS_LINE_TIMING | .TBUS_GOV_IMG | .TBUS_GOV_FW | .TBUS_TX_DATA
  | .TBUS_MATCH | .TBUS_CNT_TX | .TBUS_CNT_EXC | .TBUS_RX_FIFO | .TBUS_RX_TIME_LO | .TBUS_RX_TIME_HI | .TBUS_RX_STAT =>
    (s.tbusLive r i).map (BitVec.ofNat 32)
  | .LANE_QUAD_STATUS | .LANE_TX_PTR | .LANE_LANE_STATUS | .LANE_RX_START_LO | .LANE_RX_START_HI | .LANE_TX_START_LO
  | .LANE_TX_START_HI | .LANE_RX_BYTES_LO | .LANE_RX_BYTES_HI | .LANE_RX_DROP | .LANE_ERR_CNT => (s.laneLive r i).map (BitVec.ofNat 32)
  | _ => none

/-- The high half that a read of a low half latches (R270, R294, and the register tables that say so). -/
def latchedBy : Reg → Option Reg
  | .TIME_NOW_LO => some .TIME_NOW_HI
  | .QUEUE_WORDS_IN_LO => some .QUEUE_WORDS_IN_HI
  | .QUEUE_WORDS_OUT_LO => some .QUEUE_WORDS_OUT_HI
  | .NI_STAT_UNITS_LO => some .NI_STAT_UNITS_HI
  | .NI_STAT_BYTES_LO => some .NI_STAT_BYTES_HI
  | .TALLY_SHADOW_LO => some .TALLY_SHADOW_HI
  | .LANE_RX_BYTES_LO => some .LANE_RX_BYTES_HI
  | .HOST_CH_BYTES_LO => some .HOST_CH_BYTES_HI
  | .PT_CAP_LO => some .PT_CAP_HI
  | _ => none

/-- The register is a high half that a read of its low half latches. -/
def isLatched : Reg → Bool
  | .TIME_NOW_HI | .QUEUE_WORDS_IN_HI | .QUEUE_WORDS_OUT_HI | .NI_STAT_UNITS_HI | .NI_STAT_BYTES_HI | .TALLY_SHADOW_HI
  | .LANE_RX_BYTES_HI | .HOST_CH_BYTES_HI | .PT_CAP_HI => true
  | _ => false

/-- The value of a register now, whatever a low half has latched. -/
def State.valueOf (s : State) (r : Reg) (i : Nat) : Word := (s.shown r i).getD (s.word r i)

/-- Fields of type WO read 0 (R5). -/
def hideWo (fields : List FieldSpec) (w : Word) : Word :=
  fields.foldl (fun w f => if f.acc == .wo then withField w f.lo f.width 0 else w) w

/-- A QUEUE register of a controller with MEMS = 0: it reads 0 (QUEUE registers). -/
def State.emptyController (s : State) (r : Reg) (i : Nat) : Bool :=
  decide (0x600000 ≤ (regSpec r).off ∧ (regSpec r).off < 0x680000) && s.f F.QUEUE_CONFIG_MEMS i == 0

/-- What a read of a register returns. -/
def State.readWord (s : State) (r : Reg) (i : Nat) : Word :=
  if s.emptyController r i then 0
  else
  match (if isLatched r then s.latches.find? (·.1 == regKey r i) else none) with
  | some (_, v) => v
  | none => hideWo (regSpec r).fields (s.valueOf r i)

-- ------------------------------------------------------------------ what a read changes

/-- RC fields are cleared by the read (R5). -/
def State.clearRc (s : State) (r : Reg) (i : Nat) : State :=
  let fields := (regSpec r).fields
  if fields.any (·.acc == .rc) then
    s.setWord r i (fields.foldl (fun w f => if f.acc == .rc then withField w f.lo f.width 0 else w) (s.word r i))
  else s

/-- What a read of a register changes; nothing of it happens under the debug attribute (R433). -/
def State.readActs (s : State) (r : Reg) (i : Nat) : State :=
  let s := s.clearRc r i
  let s := match latchedBy r with
    | some h => s.putLatches (Sparse.insert s.latches (regKey h i) (s.valueOf h i))
    | none => s
  let s := if isLatched r then s.putLatches (Sparse.erase s.latches (regKey r i)) else s
  match r with
  | .CFG_RB_DATA => s.rbPop
  | .TBUS_RX_FIFO => s.tbusPop
  | .SEQ_IC_CLAIM => s.claim i
  | .I2C_RXDATA => s.rxPop (.i2c i)
  | .SPI_RXDATA => s.rxPop (.spi i)
  | .UART_RXDATA => s.rxPop (.uart i)
  | .PMB_RXDATA => s.rxPop .pmb
  | .NI_RT_DATA_HI => s.rtAdvance i
  | .HOST_XLAT_DATA_HI => s.xlatAdvance
  | .LEDGER_RD_DATA => s.readRdData i
  | .TALLY_SHADOW_LO | .TALLY_SHADOW_HI | .TALLY_SHADOW_SEQ => s.tallySelCheck
  | _ => s

-- ------------------------------------------------------------------ what a write does

/-- A code written to CFG.CMD (R135). -/
def State.cfgCommand (s : State) (who : Who) (data : Word) : State :=
  match fieldOf data 0 8 with
  | 2 => s.fabricResetCommand who
  | 3 => s.freezeCommand who
  | 4 => s.thawCommand who
  | 5 => s.readback who
  | 6 => s.scrubSwitch true
  | 7 => s.scrubSwitch false
  | 0x10 => s.loadCommand who
  | 0x11 => s.abortLoad who
  | 0x12 => s.streamDone who
  | _ => s.cfgRefused who .encoding .CFG_CMD data.toNat

/-- The CTRL registers of the functions of R36. -/
def ctrlOf (r : Reg) (i : Nat) : Option Func :=
  match r with
  | .QUEUE_CTRL => some (.queue i)
  | .NI_CTRL => some (.ni i)
  | .BEAM_CTRL => some .beam
  | .RECORD_CTRL => some .record
  | .LANE_QUAD_CTRL => some (.quad i)
  | .STORE_CH_CTRL => some (.channel i)
  | .HOST_CH_CTRL => some (.dma i)
  | .SEQ_CORE_CTRL => some (.core i)
  | _ => none

/-- A write of a function's CTRL: RUN, the fields beside it, and QUEUE.CTRL.FLUSH (R36, R112). -/
def State.writeFuncCtrl (s : State) (who : Who) (f : Func) (data : Word) : State :=
  match f with
  | .queue q =>
    let s := s.writeCtrl who f (data &&& 0xFFFFFFFD#32)
    if data.getLsbD 1 then s.flushRequest q else s
  | _ => s.writeCtrl who f data

/-- A register of a guard that a stream holds (R151 step 3): a write that would change it is refused. -/
def State.guardHeld (s : State) (r : Reg) (i : Nat) (data : Word) : Bool :=
  s.streamHoldsGuards && changesKind (regSpec r).fields .rwl (s.word r i) data && r != .PIN_PAD

/-- Such a refusal. -/
def State.guardRefused (s : State) (who : Who) (r : Reg) (i : Nat) (data : Word) : State :=
  let s := s.journalRefusal who .rwl r i data.toNat
  match ownRefusalBit r i with
  | some (b, k) => s.raise b k
  | none => s

/-- A write of a HOST channel setting: a refused one sets HOST.STATUS.CMD_REFUSED as well. -/
def State.writeHostSetting (s : State) (who : Who) (r : Reg) (c : Nat) (data : Word) : State :=
  let refused := changesKind (regSpec r).fields .rwq (s.word r c) data && s.funcState (.dma c) != 0
  let s := if r = .HOST_CH_RING_SIZE then s.writeRingSize who c data else s.writeTyped who r c data
  if refused then s.raise F.HOST_STATUS_CMD_REFUSED 0 else s

/-- FW_DRAINED: each bit written 1 is a report (R286). -/
def State.writeFwDrained (s : State) (data : Word) : State :=
  (List.range 4).foldl (fun s n => if data.getLsbD n then s.fwDrained n else s) s

/-- A write of CFG.SCRUB_CTRL: an interval below 0x100 is refused. -/
def State.writeScrubCtrl (s : State) (who : Who) (data : Word) : State :=
  if fieldOf data 0 16 < 0x100 then s.cfgRefused who .encoding .CFG_SCRUB_CTRL data.toNat
  else s.writeTyped who .CFG_SCRUB_CTRL 0 data

/-- A write of DBG.TRACE_CTRL: the trace port starts with EN (R434). -/
def State.writeTraceCtrl (s : State) (who : Who) (data : Word) : State :=
  let was := s.on F.DBG_TRACE_CTRL_EN 0
  let s := s.traceDrain.writeTyped who .DBG_TRACE_CTRL 0 data
  if !was && s.on F.DBG_TRACE_CTRL_EN 0 then s.traceStart else s

/-- A write of a DBG register that passed its gate (R419, R420). -/
def State.writeDbg (s : State) (who : Who) (r : Reg) (i : Nat) (data : Word) : State :=
  match r with
  | .DBG_CTRL => s.writeDbgCtrl who data
  | .DBG_AUTH => s.writeAuth who data
  | .DBG_CORE_RC => s.writeCoreRc who i data
  | .DBG_CORE_REG_SEL => s.writeCoreRegSel who i data
  | .DBG_CORE_REG_DATA => s.coreRegWrite who i data
  | .DBG_CMP_CTRL => s.writeCmpCtrl who i data
  | .DBG_XT_FIRE => s.writeXtFire data
  | .DBG_XT_CLEAR => s.writeXtClear data
  | .DBG_TRACE_CTRL => s.writeTraceCtrl who data
  | _ => s.writeTyped who r i data

/-- A write of a register outside DBG. -/
def State.writeReg (s : State) (who : Who) (r : Reg) (i : Nat) (data : Word) : State :=
  match r with
  | .DEV_CTRL => s.writeDevCtrl who data
  | .DEV_FRESET => s.writeFreset who data
  | .DEV_EVT_ACK => s.putDev { s.dev with evtSent := s.dev.evtSent &&& ~~~data }
  | .DEV_XS_CTRL => s.writeXsCtrl who data
  | .PWR_VLOOP_CTRL => s.writeVloopCtrl who data
  | .PWR_VLOOP_LIMITS => s.writeVloopLimits who data
  | .PWR_VLOOP_STEP => s.writeVloopStep who data
  | .PWR_RATE_CTRL => (s.writeTyped who r i data).rateCtrlWritten
  | .PWR_STATE_CTRL => s.writeStateCtrl who data
  | .PWR_REGION_CTRL => s.writeRegionCtrl who data
  | .PWR_QUAD_CTRL => s.writeQuadCtrl who data
  | .CFG_CMD => s.cfgCommand who data
  | .CFG_SCRUB_CTRL => s.writeScrubCtrl who data
  | .CFG_SPAN_CMD =>
    let (same, s) := s.flashSame
    s.spanRequest who data false same
  | .CFG_RB_DATA => s.rbPush data
  | .REPAIR_ROVE_MODE => s.writeRoveMode who data
  | .REPAIR_ROVE_TIMING => s.writeRoveTiming who data
  | .REPAIR_BG_CTRL => s.writeBgCtrl who data
  | .REPAIR_CMD => s.repairCommand who data
  | .CN_PORT_EN | .CN_VC_SPLIT | .CN_ARB_WEIGHT | .CN_SPARE_SET => s.stagedWrite who i r data
  | .CN_HOLD_CTRL => s.writeHoldCtrl who i data
  | .NI_FENCE_CTRL => s.writeFenceCtrl who i data
  | .NI_REG_CTRL => s.writeRegCtrl who i data
  | .NI_STAT_CTRL => s.writeStatCtrl who i data
  | .NI_RT_CTRL => s.writeRtCtrl who i data
  | .NI_RT_DATA_LO => s.routeLow who i data
  | .NI_RT_DATA_HI => s.routeWrite who i data
  | .TIME_SYNC_CTRL => s.writeSyncCtrl who data
  | .TIME_CMP_VAL_LO => s.writeCmpLo who i data
  | .TIME_CMP_VAL_HI => s.writeCmpHi who i data
  | .BEAM_SW_EVT => s.swEvt data
  | .BEAM_ROUTE => s.writeRoute who i data
  | .RECORD_CMD => s.recordCmd who data
  | .RECORD_PART_EN_LO => s.writePartEn who false data
  | .RECORD_PART_EN_HI => s.writePartEn who true data
  | .RECORD_NI_DOMAIN => s.writeNiDomain who i data
  | .RECORD_FW_DRAINED => s.writeFwDrained data
  | .TALLY_CTRL => s.writeTallyCtrl who data
  | .TALLY_SEL => (s.writeTyped who .TALLY_SEL 0 data).tallySelCheck
  | .TBUS_LINE_CTRL => s.writeLineCtrl who i data
  | .TBUS_TX_DATA => s.writeTxData who i data
  | .TBUS_LINE_TIMING | .TBUS_GOV_IMG | .TBUS_GOV_FW | .TBUS_MATCH => if i = 18 then s else s.writeTyped who r i data
  | .LANE_EYE_CTRL => s.writeEyeCtrl who i data
  | .LANE_QUAD_CFG | .LANE_TX_ANALOG | .LANE_TEST_CTRL => s.writeLaneGuarded who r i data
  | .HBM_RING_CTRL => s.writeRingCtrl who i data
  | .HBM_RING_BASE_LO | .HBM_RING_BASE_HI | .HBM_RING_SIZE => s.writeRingPlace who r i data
  | .HBM_CTRL => s.writeHbmCtrl who data
  | .STORE_CMD => s.writeStoreCmd who data
  | .STORE_CFG | .STORE_QMEM_LO | .STORE_QMEM_HI => s.writeStoreFixed who r data
  | .STORE_CH_PROD => s.chanProd i data.toNat none
  | .STORE_CH_CONS => s.chanCons i data.toNat
  | .HOST_DMA_CTRL => s.writeDmaCtrl who data
  | .HOST_XLAT_DATA_LO => s.writeXlatLo data
  | .HOST_XLAT_DATA_HI => s.writeXlatHi who data
  | .HOST_CH_TAIL => s.writeTail who i data
  | .HOST_CH_RING_LO | .HOST_CH_RING_HI | .HOST_CH_RING_SIZE => s.writeHostSetting who r i data
  | .SEQ_DOORBELL => s.doorbell (BitVec.ofNat 4 data.toNat)
  | .SEQ_EVT => if data.getLsbD 0 then s.seqEvent i else s
  | .SEQ_FAR_BASE_LO => s.writeFarBase who i data
  | .SEQ_MTIMECMP_HI => s.writeTimecmpHi who i data
  | .SEQ_POWER_CEIL => s.writePowerCeil who data
  | .WDOG_CTRL => s.writeWdogCtrl who i data
  | .WDOG_LOAD | .WDOG_WARN | .WDOG_GRACE => s.writeWdogTime who r i data
  | .WDOG_KICK => s.writeKick who i data
  | .PIN_EXTL_STATUS => s.writeExtlStatus who data
  | .PIN_EXTL_CFG => s.writeExtlCfg who i data
  | .PIN_GPIO_SET => s.gpioSet i data
  | .PIN_GPIO_CLR => s.gpioClr i data
  | .PIN_PAD => s.writePad who i data
  | .I2C_CTRL | .SPI_CTRL | .UART_CTRL | .UART_BAUD | .PMB_CTRL | .PT_CTRL => s.writeSetting who r i data
  | .I2C_CMD => s.writeI2cCmd who i data
  | .I2C_TXDATA => s.txPush (.i2c i) data
  | .SPI_TXDATA => s.txPush (.spi i) data
  | .UART_TXDATA => s.txPush (.uart i) data
  | .PMB_CMD => s.writePmbCmd who data
  | .PMB_TXDATA => s.txPush .pmb data
  | .PT_CMP_HI => s.writePtCmpHi who i data
  | .LEDGER_STATUS => s.writeLedgerStatus data
  | .LEDGER_RD_SEQ => s.writeRdSeq data
  | _ =>
    match ctrlOf r i with
    | some f => s.writeFuncCtrl who f data
    | none => s.writeTyped who r i data

/-- A write of a present register. -/
def State.writeCsr (s : State) (who : Who) (r : Reg) (i : Nat) (data : Word) : State :=
  if s.guardHeld r i data then s.guardRefused who r i data
  else if regGroup r = 9 then s.dbgGate who r i data (fun s => s.writeDbg who r i data)
  else s.writeReg who r i data

-- ------------------------------------------------------------------ accesses

/-- The window of CFG.STREAM (R127). -/
def inStream (off : Nat) : Bool := decide (0x18000 ≤ off ∧ off < 0x20000)

/-- A register is present: its unit exists, and its rod, for a queue controller, has a home (R21, R183). -/
def State.present (s : State) (r : Reg) (i : Nat) : Bool :=
  regPresent s.part r i && !(0x600000 ≤ (regSpec r).off && decide ((regSpec r).off < 0x680000) && s.lostRod (i / 8))

/-- A 4-byte read of a CSR offset (R5, R21, R433): the word, and the state after it. -/
def State.csrRead (s : State) (off : Nat) (dbg : Bool) : Word × State :=
  if inStream off then (0, s)
  else
    match tcmAt off, msixTableWord off, msixPbaWord off with
    | some (n, k), _, _ => (if n < Part.cores s.part then Sparse.get 0 s.seq.tcm k else 0, s)
    | _, some i, _ => (msixWord s.msix i, s)
    | _, _, some i => (s.readPba i, s)
    | _, _, _ =>
      match regAt off with
      | some (r, i) =>
        if s.present r i then (s.readWord r i, if dbg then s else s.readActs r i) else (0, s)
      | none => (0, s)

/-- A 4-byte write of a CSR offset (R5, R28). -/
def State.csrWrite (s : State) (off : Nat) (data : Word) (who : Who) : State :=
  if inStream off then s.streamWrite data
  else
    match tcmAt off, msixTableWord off, msixPbaWord off with
    | some (n, _), _, _ => if n < Part.cores s.part then s.writeTcm who off data else s.absentWrite off who
    | _, some i, _ => s.writeMsixTable i data
    | _, _, some _ => s
    | _, _, _ =>
      match regAt off with
      | some (r, i) => if s.present r i then s.writeCsr who r i data else s.absentWrite off who
      | none => s.absentWrite off who

/-- An access made for a request: the word read, or none where its end comes later: through a memory port, or when a
stalled stimulus write ends (R425, R433, R436). -/
def State.csrAccess (s : State) (off : Nat) (data : Option Word) (dbg : Bool) (who : Who) (back : MemBack) :
    Option Word × State :=
  let plain : Option Word × State :=
    match data with
    | some v => (some 0, s.csrWrite off v who)
    | none => let (w, s) := s.csrRead off dbg; (some w, s)
  match regAt off with
  | some (.DBG_MEM_DATA, _) =>
    match data with
    | some v =>
      (match s.dbgBarred who .DBG_MEM_DATA with
       | some why => (some 0, s.dbgRefused who why .DBG_MEM_DATA 0 v)
       | none => (none, s.memAccess ⟨4, data, who, false, back⟩))
    | none => (none, s.memAccess ⟨4, none, who, dbg, back⟩)
  | some (.DBG_CORE_MEM_DATA, n) =>
    if !s.present .DBG_CORE_MEM_DATA n then plain
    else if !s.on F.DBG_CORE_RC_HALTED n then
      (match data with
       | some v => (some 0, s.dbgGate who .DBG_CORE_MEM_DATA n v fun s => s.dbgRefused who .command .DBG_CORE_MEM_DATA n v)
       | none => (some 0, s))
    else
      match data with
      | some v =>
        (match s.dbgBarred who .DBG_CORE_MEM_DATA with
         | some why => (some 0, s.dbgRefused who why .DBG_CORE_MEM_DATA n v)
         | none => (none, s.memAccess ⟨n, data, who, false, back⟩))
      | none => (none, s.memAccess ⟨n, none, who, dbg, back⟩)
  | some (.DBG_STIM, p) =>
    match data with
    | none => plain
    | some v =>
      let run := match back with
        | .run r => some { r with got := r.got ++ [0, 0, 0, 0] }
        | _ => none
      let after := if s.dbg.locked then s.stimDrop else s.stim p v run
      (if after.dbg.stimWaits.length = s.dbg.stimWaits.length || run.isNone then some 0 else none, after)
  | _ => plain

/-- Why the owner of a CSR offset cannot be reached from inside the part: its NI's fence is closed, or its station is in
ERROR (R248, R267). -/
def State.csrBlocked (s : State) (off : Nat) : Option Nat :=
  match csrOwner s.part off with
  | .ni n => if 2 ≤ s.fence n then some 2 else if s.stationGate n = .errors then some 7 else none
  | _ => none

end Sys2Proof.Machine
end

