-- ==== Sys2Proof/Machine/Serve.lean ====
section
/-! DEFINITION. Packets at their destinations (R206, R218, R224, R225, R230, R231, R284, R287, R449): what each unit does
with a request, and how responses and timers end requests. -/

namespace Sys2Proof.Machine

-- ------------------------------------------------------------------ requests to CSR space (R449)

/-- A request to CSR space covers whole aligned dwords, and is no FADD (R449). -/
def csrForm (p : Packet) : Bool :=
  p.cmd != Cmd.fadd && p.addr % 4 == 0 && (p.len + 1) % 4 == 0 &&
  (p.cmd == Cmd.rd || (List.range ((p.len + 1) / 4)).all fun k =>
    let on := (List.range 4).filter fun i => packetEnables p (4 * k + i)
    on.length == 0 || on.length == 4)

/-- Who a request to CSR space comes from: DBG accesses of NI 0x90 are those of PF1 (R442). -/
def State.csrWho (s : State) (p : Packet) : Who :=
  if p.src = 0x90 ∧ p.attr.getLsbD 0 then ⟨0x03, 0x90⟩ else s.whoOf p.src

/-- The request is answered, when it needs an answer: one that had to wait counts as a late answer once a timer or a
fence has answered for it (R225). -/
def State.csrAnswer (s : State) (r : CsrRun) (waited : Bool) : State :=
  let p := r.packet
  if !nonPosted p.cmd then s
  else
    let answer : Cmd := if p.cmd = .rd then .rspData else .rspOk
    let data := if p.cmd = .rd then r.got.take (p.len + 1) else []
    if !waited then s.respond p answer 0 0 data
    else s.answerDelivered p fun s since => s.respond p answer 0 0 data since

/-- The request waits for an access of its own; the target timer counts (R225). -/
def State.csrWaits (s : State) (p : Packet) : State :=
  if !nonPosted p.cmd || (s.ni p.dest).delivered.any (·.packet == p) then s
  else s.deliverRequest p ((s.freeHandle p.dest).getD 0)

/-- A write of the dword at an offset for a request; CH_PROD takes the record of the request (R351). -/
def State.csrPut (s : State) (p : Packet) (off : Nat) (data : Word) (back : MemBack) : Option Word × State :=
  match regAt off with
  | some (.STORE_CH_PROD, c) =>
    if s.present .STORE_CH_PROD c then (some 0, s.chanProd c data.toNat (recordOfPacket p))
    else s.csrAccess off (some data) false (s.csrWho p) back
  | _ => s.csrAccess off (some data) false (s.csrWho p) back

/-- A request is run dword by dword in ascending order (R449), until it is done or has to wait. -/
def State.csrGo (s : State) (r : CsrRun) (waited : Bool) : Nat → State
  | 0 => s
  | n + 1 =>
    let p := r.packet
    let k := r.got.length
    if p.len + 1 ≤ k then s.csrAnswer r waited
    else
      let off := p.addr - csrBase + k
      let skip := p.cmd != Cmd.rd && !packetEnables p k
      let (done, s) :=
        if skip then (some 0, s)
        else if p.cmd = .rd then s.csrAccess off none (p.attr.getLsbD 0) (s.csrWho p) (.run r)
        else s.csrPut p off (BitVec.ofNat 32 (fromBytes ((p.data.drop k).take 4))) (.run r)
      match done with
      | some w => s.csrGo { r with got := r.got ++ toBytes 4 w.toNat } waited n
      | none => s.csrWaits p

/-- The most dwords a request covers, and one (R206). -/
def csrSteps : Nat := 1025

/-- A CSR request that waited goes on. -/
def State.csrResume (s : State) (r : CsrRun) : State := s.csrGo r true csrSteps

/-- A request reaches the owner of CSR space (R449). -/
def State.csrServe (s : State) (p : Packet) : State :=
  if csrForm p then s.csrGo ⟨p, []⟩ false csrSteps
  else if nonPosted p.cmd then s.respond p .rspErr 5 0xF004 []
  else (s.bump F.NI_DISCARD_HEADERS p.dest 1).dropReport p.dest 0x0106 p.src p.tag p.addr

-- ------------------------------------------------------------------ fabric NIs (R230, R231, R284)

/-- A request reaches a fabric NI's window (R230): it waits at the NI while 256 requests await an answer. -/
def State.fabricServe (s : State) (p : Packet) (before : State) : State :=
  let v := s.ni p.dest
  match p.cmd with
  | .wrp => (s.setNi p.dest { v with posted := v.posted ++ [p] }).offerTq 0 p
  | .rd | .wr | .fadd =>
    if p.cmd = .wr && noByte p then (s.setNi p.dest { v with posted := v.posted ++ [p] }).answerMarkers p.dest
    else
      match s.freeHandle p.dest with
      | some h => (s.deliverRequest p h).offerTq h p
      | none => before
  | _ => s

/-- User logic's answer to a request delivered on TQ (R225, R230). -/
def State.fabricAnswer (s : State) (n h : Nat) (answer : Cmd) (err : Nat) (operand : DWord) (data : List Byte) : State :=
  let v := s.ni n
  match v.delivered.find? (·.handle == h) with
  | some d =>
    let s := s.setNi n { v with delivered := v.delivered.erase d }
    let bytes := if answer = .rspData then (data ++ List.replicate (d.packet.len + 1) 0).take (d.packet.len + 1) else []
    let e := if answer = .rspErr then err % 256 else 0
    let o := if answer = .rspErr then BitVec.ofNat 64 (operand.toNat % 2 ^ 32) else 0
    s.respond d.packet answer e o bytes d.from'
  | none => (s.setNi n { v with answered := v.answered.filter (·.1 != h) }).bump F.NI_TGT_ERR_LATE_ANSWERS n 1

-- ------------------------------------------------------------------ requests at their targets (R206)

/-- A request that its target does not support (R206, R207): the detail is not stated (assumption 38). -/
def State.targetUnsupported (s : State) (p : Packet) : State :=
  if nonPosted p.cmd then (s.putFresh (s.fresh + 1)).respond p .rspErr 5 (Config.freeDWord s.fresh) []
  else s.bump F.NI_DISCARD_HEADERS p.dest 1

/-- A request passes to its unit, by its address. -/
def State.serve (s : State) (p : Packet) (m : WordFinding) (before : State) : State :=
  match decodeAddr s.part p.addr with
  | .ni d =>
    if d ≠ p.dest then s.targetUnsupported p
    else if csrBase ≤ p.addr ∧ p.addr < csrBase + 0x10000000 then
      (if p.cmd = .wr && noByte p then s.respond p .rspOk 0 0 [] else s.csrServe p)
    else if p.dest < 0x60 then s.fabricServe p before
    else if p.cmd = .wr && noByte p then s.respond p .rspOk 0 0 []
    else if p.dest = 0x91 then s.windowTake p
    else s.hbmServe p m
  | _ => s.targetUnsupported p

/-- What the unit of an NI takes on VN2 comes through its U receive buffer (R231, R236); a unit behind another NI takes it
at once. -/
def State.takeRequest (s : State) (p : Packet) (m : WordFinding) (before : State) : State :=
  if p.vn = 2 ∧ p.dest < 0x60 then s.enterU p else s.serve p m before

/-- A request reaches its target NI and its unit (R206, R222, R260, R267). -/
def State.targetTakes (s : State) (p : Packet) (m : WordFinding) : State :=
  if niPresent s.part p.dest && s.fence p.dest == 0 && s.stationGate p.dest == .waits then s
  else
    match s.arrive p with
    | (t, .deliver) =>
      if t.stationGate p.dest = .errors then t.stationRefuses p else t.takeRequest p m s
    | (t, _) => t

/-- RD: a target receives an RD request and answers with RSP_DATA or RSP_ERR (R206). -/
def State.takeRd (s : State) (p : Packet) (m : WordFinding) : State :=
  s.targetTakes { p with cmd := .rd, vn := 0 } m
/-- WR: a target receives a WR request and answers RSP_OK or RSP_ERR (R206). -/
def State.takeWr (s : State) (p : Packet) (m : WordFinding) : State :=
  s.targetTakes { p with cmd := .wr, vn := 0 } m
/-- WRP: a target receives a posted write (R206), on VN0, or VN2 or VN3. -/
def State.takeWrp (s : State) (p : Packet) (m : WordFinding) : State :=
  s.targetTakes { p with cmd := .wrp } m
/-- FADD: a target adds the operand atomically and returns the old value (R206). -/
def State.takeFadd (s : State) (p : Packet) (m : WordFinding) : State :=
  s.targetTakes { p with cmd := .fadd, vn := 0 } m

-- ------------------------------------------------------------------ CFG (R218, R242)

/-- A router consumes a CFG packet that ends at it (R218): a read or a write of a register of its page, by the register's place
in the page. Its answer leaves by the router itself. -/
def State.takeCfg (s : State) (page : Nat) (p : Packet) : State :=
  let off := 0x100000 + 0x1000 * page + p.addr % 4096 / 4 * 4
  if !pagePresent s.part page || !(s.router page).consumed.contains p then s
  else
    let s := s.setRouter page { s.router page with consumed := (s.router page).consumed.erase p }
    let dbg := p.attr.getLsbD 0
    if p.beFirst = 0 then
      let (w, s) := s.csrRead off dbg
      (s.respondCfg page p .rspData (toBytes 4 w.toNat)).forwardAll page
    else
      let lane := p.addr % 64 / 4 * 4
      let whole := (List.range 4).all fun i => p.beFirst.getLsbD (lane + i)
      let s := if whole then s.csrWrite off (BitVec.ofNat 32 p.operand.toNat) (s.csrWho p) else s
      (s.respondCfg page p .rspOk []).forwardAll page

-- ------------------------------------------------------------------ EVT (R206, R231, R249, R287)

/-- An event passes to its unit: reports and notices of the record (R287), notices of writes to absent
CSRs (R21), drop reports (R249), other events. -/
def State.takeEvent (s : State) (p : Packet) : State :=
  let code := p.operand.toNat % 65536
  let number := p.operand.toNat / 65536 % 65536
  let part := p.operand.toNat / 2 ^ 32 % 64
  if p.vn = 2 ∧ p.dest < 0x60 then s.enterU p
  else if p.dest = 0x9B ∧ code = 0x0200 then s.partReport part number
  else if p.dest = 0x99 ∧ code = absentNotice then s.absentWrite (p.operand.toNat / 65536 % 2 ^ 28) (s.csrWho p)
  else if p.src = 0x9B ∧ code = 0x0201 ∧ partNi part = some p.dest then s.sinkNotice part
  else if p.src = 0x9B ∧ code = 0x0202 ∧ partNi part = some p.dest then s.timeoutNotice part
  else
    let s := if 0x0101 ≤ code ∧ code ≤ 0x0106 then s.bump F.NI_DROP_RPT_RECEIVED p.dest 1 else s
    s.deliverEvent p.dest p.src p.operand

/-- EVT: an NI receives an EVT and delivers it to its unit (R206). -/
def State.takeEvt (s : State) (p : Packet) : State :=
  let p := { p with cmd := Cmd.evt }
  if niPresent s.part p.dest && s.fence p.dest == 0 && s.stationGate p.dest == .waits then s
  else
    match s.arrive p with
    | (t, .deliver) => if t.stationGate p.dest = .errors then t.stationRefuses p else t.takeEvent p
    | (t, _) => t

-- ------------------------------------------------------------------ responses (R222, R224)

/-- A response that matches no outstanding tag (R224): discarded and counted; a quarantined tag it carries is freed. -/
def State.lateResponse (s : State) (p : Packet) : State :=
  let v := s.ni p.dest
  let s := s.setNi p.dest { v with quarantine := v.quarantine.filter (·.1 != p.tag) }
  let s := (s.bump F.NI_ERR_CNT_LATE_RSP p.dest 1).raise F.NI_STATUS_LATE_RSP p.dest
  s.niLog p.dest 5 p.vn p.src p.tag p.cmd.code p.addr

/-- A response completes the outstanding transaction it matches (R224). -/
def State.response (s : State) (p : Packet) (poisoned : Bool) : State :=
  match (s.ni p.dest).outstanding.find? fun t => t.tag == p.tag && t.dest == p.src with
  | some t =>
    if poisoned then s.endTxn p.dest t .rspErr 3 0 []
    else
      match p.cmd with
      | .rspData => s.endTxn p.dest t .rspData 0 0 p.data
      | .rspErr => s.endTxn p.dest t .rspErr p.err p.operand []
      | _ => s.endTxn p.dest t .rspOk 0 0 []
  | none => s.lateResponse p

/-- A response reaches its NI with what its ECC finds (R222, R224). -/
def State.takeResponse (s : State) (p : Packet) : State :=
  match s.arrive p with
  | (t, .deliver) => t.response p false
  | (t, .poisoned) => t.response p true
  | (t, .gone) => t

/-- The transaction timer expires (R224): the tag is quarantined. The timer runs once the header is injected, and holds
during a roving step's pause (R186). -/
def State.txnTimeout (s : State) (n tag : Nat) : State :=
  match (s.ni n).outstanding.find? (·.tag == tag) with
  | some t =>
    if s.repair.step.any (fun st => st.frozenAt.isSome) || (s.ni n).held.any (fun p => nonPosted p.cmd && p.tag == tag) then s
    else
      let s := s.advanceTo (t.start + BitVec.ofNat 64 (max 1 (s.acts F.NI_TIMER_US n) * ticksPerUs))
      let s := (s.bump F.NI_ERR_CNT_TIMEOUTS n 1).raise F.NI_STATUS_TIMEOUT n
      let s := s.niLog n 1 0 t.dest tag t.cmd.code t.addr
      let s := s.setNi n { s.ni n with quarantine := (s.ni n).quarantine ++ [(tag, s.time)] }
      s.endTxn n t .rspErr 4 0 []
  | none => s

/-- The target timer expires (R225): the NI answers for its unit. -/
def State.targetTimeout (s : State) (n h : Nat) : State :=
  let v := s.ni n
  match v.delivered.find? (·.handle == h) with
  | some d =>
    if s.repair.step.any (fun st => st.frozenAt.isSome) then s
    else
      let s := s.advanceTo (d.since + BitVec.ofNat 64 (max 1 (s.acts F.NI_TGT_TIMER_US n) * ticksPerUs))
      let s := s.setNi n { v with delivered := v.delivered.erase d, answered := v.answered ++ if n < 0x60 then [(h, answerBeads d.packet)] else [] }
      let s := (s.bump F.NI_TGT_ERR_TGT_TIMEOUTS n 1).raise F.NI_STATUS_TGT_TIMEOUT n
      let s := s.niLog n 6 0 d.packet.src d.packet.tag d.packet.cmd.code d.packet.addr
      s.respond d.packet .rspErr 4 0 [] d.from'
  | none => s

end Sys2Proof.Machine
end

