-- ==== Sys2Proof/Machine/Bar.lean ====
section
/-! DEFINITION. BAR requests of the host (R357, R359 to R362): splitting, ordering, completions and failures. -/

namespace Sys2Proof.Machine

/-- A BAR access under way is named by its host tag (reads), or by a number of its own (writes). -/
def barCode (write : Bool) (tag : Nat) : Nat := 2 * tag + (if write then 1 else 0)

/-- The size of a BAR window in bytes (R360). -/
def State.barSize (s : State) (w : BarWindow) : Nat :=
  match w with
  | .csr => 0x10000000
  | .hbm => if Part.hasHbm s.part then hbmSize else 0
  | .fabric => match s.host.identity with
    | some d => if d.fabBar = 0 then 0 else 2 ^ d.fabBar
    | none => 0
  | .debug => 0x10000

/-- The NoC address of a window's first byte (R360). -/
def barBase : BarWindow → Nat
  | .csr => csrBase
  | .hbm => 0
  | .fabric => 0x4000000000
  | .debug => csrBase + 0x90000

/-- A window that is reached by 4-byte accesses (R361). -/
def barDwords : BarWindow → Bool
  | .csr | .debug => true
  | .hbm | .fabric => false

/-- The window takes requests now (R360, R371, R420): PF1 needs open authorization, PF0 not to be in D3hot. -/
def State.barOpen (s : State) (w : BarWindow) : Bool :=
  match w with
  | .debug => !s.dbg.locked
  | _ => !s.on F.HOST_LINK_STATUS_D3HOT 0

/-- The request is of a kind its window supports (R357): FetchAdd of 4 or 8 bytes, aligned, in HBM and fabric windows. -/
def barSupported (r : BarRequest) : Bool :=
  match r.kind with
  | .unsupported => false
  | .fetchAdd _ => !barDwords r.window && (r.len == 3 || r.len == 7) && r.offset % (r.len + 1) == 0
  | _ => true

/-- The pieces of a read or of a FetchAdd: address and length (R361). -/
def barReadPieces (r : BarRequest) : List (Nat × Nat) :=
  if barDwords r.window then
    let first := r.offset / 4
    (List.range ((r.offset + r.len) / 4 + 1 - first)).map fun k => (barBase r.window + 4 * (first + k), 4)
  else readPieces 4096 (barBase r.window + r.offset) (r.len + 1) (r.len + 1)

/-- Byte k of a write, counted from its offset, is to be written. -/
def barEnable (r : BarRequest) (be : List Bool) (a : Nat) : Bool :=
  decide (r.offset ≤ a ∧ a ≤ r.offset + r.len) && be.getD (a - r.offset) true

/-- The dwords of a CSR write: those to write, and how many are only partly enabled (R361). -/
def barDwordWrites (r : BarRequest) (data : List Byte) (be : List Bool) : List (Nat × List Byte) × Nat :=
  let first := r.offset / 4
  (List.range ((r.offset + r.len) / 4 + 1 - first)).foldl
    (fun acc k =>
      let a := 4 * (first + k)
      let on := (List.range 4).filter fun i => barEnable r be (a + i)
      if on.length = 4 then (acc.1 ++ [(a, (data.drop (a - r.offset)).take 4)], acc.2)
      else if on.isEmpty then acc
      else (acc.1, acc.2 + 1)) ([], 0)

/-- A completion to the host, while the link is up. -/
def State.complete (s : State) (tag status : Nat) (data : List Byte) : State :=
  if s.hostUp then s.emit (.completion tag status data) else s

/-- Successful completions of a read in address order, of up to the max payload size each (R357, R361); a completion ends at a
multiple of that size, which is one of the read completion boundary (DESIGN CHOICE, assumption 209). -/
def State.completeData (s : State) (tag addr : Nat) (data : List Byte) : Nat → State
  | 0 => s
  | n + 1 =>
    if data.isEmpty then s
    else
      let k := max 1 (pieceLen addr data.length s.host.maxPayload)
      (s.complete tag 0 (data.take k)).completeData tag (addr + k) (data.drop k) n

/-- Pieces join the BAR queue, as one access. -/
def State.barQueue (s : State) (code : Nat) (w : BarWindow) (ps : List Request) (parts : List (Nat × Nat)) : State :=
  s.putHost { s.host with
    pieces := s.host.pieces ++ ps.map (fun r => ⟨w, r⟩)
    barReads := s.host.barReads ++ [⟨code, w, ⟨parts, [], false⟩⟩] }

/-- The request of a piece: PF1's carry the debug attribute, which tells their origin (R442). -/
def barPiece (w : BarWindow) (code : Nat) (cmd : Cmd) (a len : Nat) (be : List Bool) (operand : DWord) (data : List Byte) :
    Request :=
  ⟨cmd, a, len - 1, be, operand, data, w == BarWindow.debug, false, false, 0, .host code⟩

/-- A number for a write access: the lowest that none has. -/
def State.barNumber (s : State) : Nat :=
  ((List.range (s.host.barReads.length + 1)).find? fun k => !s.host.barReads.any (·.tag == barCode true k)).getD 0

/-- A request of the host is split (R361). -/
def State.barSplit (s : State) (r : BarRequest) : State :=
  let w := r.window
  match r.kind with
  | .read =>
    let code := barCode false r.tag
    let parts := barReadPieces r
    s.barQueue code w (parts.map fun x => barPiece w code .rd x.1 x.2 [] 0 []) parts
  | .fetchAdd v =>
    let code := barCode false r.tag
    let a := barBase w + r.offset
    s.barQueue code w [barPiece w code .fadd a (r.len + 1) [] v []] [(a, r.len + 1)]
  | .write data be =>
    let code := barCode true s.barNumber
    if barDwords w then
      let x := barDwordWrites r data be
      let s := if x.2 = 0 then s else s.bump F.HOST_BAR_ERR_PARTIAL 0 x.2
      let parts := x.1.map fun d => (barBase w + d.1, 4)
      if x.1.isEmpty then s
      else s.barQueue code w (x.1.map fun d => barPiece w code .wr (barBase w + d.1) 4 [] 0 d.2) parts
    else
      let parts := barReadPieces r
      s.barQueue code w
        (parts.map fun x =>
          let at' := x.1 - barBase w - r.offset
          barPiece w code .wr x.1 x.2 ((List.range x.2).map fun i => be.getD (at' + i) true) 0 ((data.drop at').take x.2))
        parts
  | .unsupported => s

/-- Where a piece goes, for the ordering of R361: a destination NI, a carry-node page, or its own NI. -/
def State.pieceDest (s : State) (a : Nat) : Nat :=
  match decodeAddr s.part a with
  | .ni d => d
  | .page p => 256 + p
  | _ => 0x90

/-- The endpoint reaches its own registers without the network while the fence of NI 0x90 is not open, so that
DMA_CTRL.EN can reopen it (R250, R371, assumption 66). -/
def State.pieceLocal (s : State) (r : Request) : Bool :=
  s.fence 0x90 != 0 && decodeAddr s.part r.addr == .ni 0x90

/-- A piece may be issued now (R361). -/
def State.pieceMay (s : State) (r : Request) : Bool :=
  s.host.writes == 0 || (r.cmd == Cmd.wr && s.host.lastWrite == some (s.pieceDest r.addr))

/-- A piece that goes to the endpoint's own registers ends at once. -/
def State.pieceHere (s : State) (r : Request) : State :=
  let off := r.addr - csrBase
  let who : Who := ⟨0x01, 0x90⟩
  let done := fun (s : State) (answer : Cmd) (data : List Byte) =>
    s.endRequest ⟨0x90, r.use, r.cmd, r.addr, r.len, answer, 0, 0, data⟩ 0
  if r.cmd = .rd then
    let (w, s) := s.csrRead off false
    done s .rspData (toBytes 4 w.toNat)
  else done (s.csrWrite off (BitVec.ofNat 32 (fromBytes r.data)) who) .rspOk []

/-- Pieces are issued in order while they may be (R361). -/
def State.barPump (s : State) : Nat → State
  | 0 => s
  | n + 1 =>
    match s.host.pieces with
    | [] => s
    | b :: rest =>
      let r := b.request
      let here := s.pieceLocal r
      if !s.pieceMay r || (!here && (!s.niTakes 0x90 || (s.freeTag 0x90).isNone)) then s
      else
        let writes := if r.cmd = .wr then s.host.writes + 1 else s.host.writes
        let last := if r.cmd = .wr then some (s.pieceDest r.addr) else s.host.lastWrite
        let s := s.putHost { s.host with pieces := rest, writes := writes, lastWrite := last }
        (if here then s.pieceHere r else s.request 0x90 r).barPump n

/-- The BAR number of BAR_ERR_INFO. -/
def barNumberOf : BarWindow → Nat
  | .csr | .debug => 0
  | .hbm => 1
  | .fabric => 2

/-- A BAR access fails (R362): counted once, the first one logged. -/
def State.barFails (s : State) (w : BarWindow) (write : Bool) (err addr : Nat) : State :=
  let s := (s.bump F.HOST_BAR_ERR_FAILED 0 1).raise F.HOST_STATUS_BAR_ERR 0
  if s.on F.HOST_BAR_ERR_INFO_VALID 0 then s
  else
    (s.setWord .HOST_BAR_ERR_INFO 0
      (BitVec.ofNat 32 (err % 256 + 256 * barNumberOf w + (if write then 1024 else 0) + 2 ^ 31))).setPair
        .HOST_BAR_ERR_ADDR_LO .HOST_BAR_ERR_ADDR_HI 0 (addr % 2 ^ 48)

/-- The last piece of an access is answered: the host gets its completion (R361, R362). -/
def State.barEnds (s : State) (b : BarRead) : State :=
  let first := (b.pieces.parts.head?.map (·.1)).getD 0
  let size := b.pieces.parts.foldl (fun n p => n + p.2) 0
  if b.tag % 2 = 1 then s
  else if !b.pieces.failed then s.completeData (b.tag / 2) first b.pieces.bytes (size + 1)
  else if s.on F.HOST_BAR_CTRL_ERR_DATA 0 then
    s.completeData (b.tag / 2) first (List.replicate size 0xFF#8) (size + 1)
  else (s.raise F.HOST_STATUS_AER_UNCORR 0).complete (b.tag / 2) 4 []

/-- A piece is answered (R361, R362). -/
def State.barAnswer (s : State) (code : Nat) (c : Completion) : State :=
  match s.host.barReads.find? (·.tag == code) with
  | none => s
  | some b =>
    let write := code % 2 == 1
    let failed := c.answer == Cmd.rspErr
    let s := if failed && !b.pieces.failed then s.barFails b.window write c.err c.addr else s
    let data := if failed then none else some c.data
    let b' := { b with pieces := b.pieces.add c.addr data }
    let others := s.host.barReads.filter (·.tag != code)
    let writes := if write then s.host.writes - 1 else s.host.writes
    let last := b'.pieces.complete
    let s := s.putHost { s.host with writes := writes, barReads := if last then others else others ++ [b'] }
    if last then s.barEnds b' else s

/-- A host BAR request (R357, R359 to R362): what its function does not serve is answered Unsupported Request. -/
def State.barTake (s : State) (r : BarRequest) : State :=
  if !s.hostUp then s
  else if !s.barOpen r.window || !barSupported r || s.barSize r.window < r.offset + r.len + 1 then
    match r.kind with
    | .write _ _ => s
    | _ => s.complete r.tag 1 []
  else s.barSplit r

end Sys2Proof.Machine
end

