-- ==== Sys2Proof/Machine/Channels.lean ====
section
/-! DEFINITION. The channels of a fabric NI at work (R227 to R231, R264): requests assembled from IQ, answers from TR, the
words that pass the buffers. -/

namespace Sys2Proof.Machine

/-- The NI can take a bead of IQ (R229): a new header only while it takes requests, the rest of a request always. -/
def State.iqTakes (s : State) (n : Nat) : Bool :=
  let e := (s.ni n).edge
  decide (e.iqWords.length < requestBeads e.iqWords) && (!e.iqWords.isEmpty || s.niTakes n)

/-- The NI takes the next bead of IQ (R229). -/
def State.iqPass (s : State) (n : Nat) : State :=
  let e := (s.ni n).edge
  match e.iq with
  | w :: rest => if s.iqTakes n then s.setEdge n { e with iq := rest, iqWords := e.iqWords ++ [w] } else s
  | [] => s

/-- The data beads that follow an answer's header on TR (R230): those the request of its HANDLE needs, after an RSP_DATA. A
HANDLE that awaits none and was never answered for has none: the spec does not say (DESIGN CHOICE, assumption 175). -/
def NiState.answerData (v : NiState) (h : BitVec 72) : Nat :=
  let k := beadField h 0 12
  if beadField h 12 4 ≠ 8 then 0
  else
    match v.delivered.find? (·.handle == k) with
    | some d => dataWords d.packet.addr d.packet.len
    | none => ((v.answered.find? (·.1 == k)).map (·.2)).getD 0

/-- The answer that whole beads of TR spell reaches the NI (R228, R230); one that is no answer is discarded (DESIGN CHOICE,
assumption 175). -/
def State.trAnswer (s : State) (n : Nat) (ws : List (BitVec 72)) : State :=
  let h := ws.getD 0 0
  let k := beadField h 0 12
  let c := cmdOfCode (beadField h 12 4)
  let data := match (s.ni n).delivered.find? (·.handle == k) with
    | some d => (List.range (d.packet.len + 1)).map fun i => (beadByte (ws.drop 1) d.packet.addr (d.packet.addr + i)).1
    | none => []
  if isResponse c then s.fabricAnswer n k c (beadField h 16 8) (BitVec.ofNat 64 (beadField h 24 32)) data else s

/-- The NI takes the next bead of TR, and the answer with its last one. -/
def State.trPass (s : State) (n : Nat) : State :=
  let v := s.ni n
  match v.edge.tr with
  | w :: rest =>
    let ws := v.edge.trWords ++ [w]
    if ws.length ≤ v.answerData (ws.headD 0) then s.setEdge n { v.edge with tr := rest, trWords := ws }
    else (s.setEdge n { v.edge with tr := rest, trWords := [] }).trAnswer n ws
  | [] => s

/-- One step of an edge station's clocked side: each channel passes at most one bead (R231, R264). -/
def State.edgeStep (s : State) (n : Nat) : State :=
  if !s.edgePasses n then s
  else
    (List.range 4).foldl (fun s chan => if s.channelRouted n chan then s.channelPass n chan else s)
      ((s.iqPass n).trPass n)

/-- An acknowledged word leaves its buffer once its handshake has ended phase 4 (R264). -/
def State.spentWord (s : State) (x : BeadSource) : State :=
  if !s.clear x then s
  else
    let s := s.putFabric { s.fabric with spent := s.fabric.spent.erase x }
    match x with
    | .niChannel n chan =>
      let e := (s.ni n).edge
      s.setEdge n { e with out := Sparse.set [] e.out chan (Sparse.get [] e.out chan).tail }
    | .icpResult => s.putCfg { s.cfg with icpResults := s.cfg.icpResults.tail }
    | .eventChannel => s.putDev { s.dev with evtBeads := s.dev.evtBeads.tail }
    | _ => s

/-- A channel of a fabric NI has a bead that can pass into its buffer. -/
def State.channelMoves (s : State) (n chan : Nat) : Bool :=
  (s.channelHead n chan).isSome && decide ((Sparse.get [] (s.ni n).edge.out chan).length < edgeDepth) &&
  s.channelRouted n chan

/-- An edge station can pass a word on its clocked side. -/
def State.edgeMoves (s : State) (n : Nat) : Bool :=
  let e := (s.ni n).edge
  ((!e.iq.isEmpty && s.iqTakes n) || !e.tr.isEmpty || (List.range 4).any (s.channelMoves n)) && s.edgePasses n

/-- The fabric NIs whose edge stations can pass a word. -/
def State.busyEdges (s : State) : List Nat :=
  ((s.net.nis.map (·.1)).filter fun n => decide (n < 0x60)).filter s.edgeMoves

/-- Words stand at edge stations that can move: driven ones whose handshake has ended, and those of the clocked side. -/
def State.edgesDue (s : State) : Bool := s.fabric.spent.any s.clear || !s.busyEdges.isEmpty

/-- Edge stations pass what they can: a few words each, as many as their buffers hold. -/
def State.edgesPass (s : State) : State :=
  let s := s.fabric.spent.foldl State.spentWord s
  s.busyEdges.foldl (fun s n => (List.range (edgeDepth + 1)).foldl (fun s _ => s.edgeStep n) s) s

/-- A complete bead at an edge station's input is written into its buffer and acknowledged, when there is room (R264). -/
def State.edgeAccept (s : State) (n chan : Nat) (upset : Upset) : State :=
  let e := (s.ni n).edge
  let full := decide (edgeDepth ≤ (if chan = 0 then e.iq else e.tr).length)
  s.withBeads [(.niChannel n chan, upset)] fun xs s =>
    if full || s.station n != 0 then none
    else
      let w := BitVec.ofNat 72 ((xs.map Bead.num).headD 0)
      let e := (s.ni n).edge
      some (s.setEdge n (if chan = 0 then { e with iq := e.iq ++ [w] } else { e with tr := e.tr ++ [w] }))

-- ------------------------------------------------------------------ injection (R15, R229)

/-- The request that user logic's beads spell is injected (R229): one already taken goes on while the fence drains. -/
def State.iqInject (s : State) (n : Nat) : State :=
  let e := (s.ni n).edge
  let r := requestOf e.iqWords
  if requestBeads e.iqWords ≤ e.iqWords.length && s.funcState (.ni n) == 1 && decide (s.fence n < 2) && !s.requestWaits n r then
    (s.setEdge n { e with iqWords := [] }).requestTaken n r
  else s

/-- A unit gives its NI a request (R15), through the CS-F (R259); that of user logic is the one its beads spell. -/
def State.injected (s : State) (n : Nat) (r : Request) : State :=
  if !niPresent s.part n then s
  else if n < 0x60 then s.iqInject n
  else s.request n { r with use := .none }

end Sys2Proof.Machine
end

