-- ==== Sys2Proof/Machine/Operate.lean ====
section
/-! DEFINITION. The blocks of the fabric at work on their beads: inputs that take beads (R48, R50), outputs whose beads are
consumed (R46, R48), arbitration cells (R52), reckoners (R56, R57), block-memory ports (R95, R96), queues (R107, R112),
pads (R85). -/

namespace Sys2Proof.Machine

-- ------------------------------------------------------------------ inputs (R48, R50, R264)

/-- BEAD_ACCEPT: a holding stage meets its input; an edge station's buffer takes a word; at the input of another block a
complete bead waits for the block's own operation, and its arrival latch catches it while acknowledges are withheld. -/
def State.beadAccept (s : State) (b : BeadSink) (upset : Upset) : State :=
  match b with
  | .cell c => s.stageAccept c upset
  | .niChannel n chan => s.edgeAccept n chan upset
  | _ => s.catchBead b upset

-- ------------------------------------------------------------------ outputs (R46, R48)

/-- The outputs whose beads are produced and taken together: CD with CC where the queue has it (R106). -/
def State.together (s : State) (x : BeadSource) : List BeadSource :=
  let queue (q : Nat) : List BeadSource := if s.hasCc q then [.queueData q, .queueControl q] else [.queueData q]
  match x with
  | .queueData q | .queueControl q => queue q
  | _ => [x]

/-- The bead of an output is acknowledged: its block lets it go. A word of an edge station stays at the head of its buffer
until phase 4 (R264). -/
def State.beadTaken (s : State) (x : BeadSource) : State :=
  match x with
  | .cell c => s.setStage c { s.stage c with full := none }
  | .arbiter rod row a => s.grantTaken rod row a
  | .reckonerP rod k => s.reckonTaken rod k 0
  | .reckonerST rod k => s.reckonTaken rod k 1
  | .reckonerCasc _ _ | .queueLevel _ => s
  | .fti n => s.ftiTaken n
  | .pin p => s.stationTaken p
  | .memRd rod m port => s.readTaken rod m port
  | .memRs rod m port => s.statusTaken rod m port
  | .queueData q | .queueControl q => s.queueTake q
  | .queueEvent q => s.ceTaken q
  | .niChannel _ _ | .icpResult | .eventChannel => s.putFabric { s.fabric with spent := s.fabric.spent ++ [x] }

/-- What a boundary still offered of an output is taken (R161). -/
def State.offerTaken (s : State) (x : BeadSource) : State :=
  s.putFabric { s.fabric with offered := s.fabric.offered.filter (·.1 != x) }

/-- A segment is not between beads (R78): its granted driver's bead is on it, or a consumer's ACK for it is high. -/
def State.segmentBusy (s : State) (seg : Nat) : Bool :=
  match s.lineDriver seg with
  | none => false
  | some rod =>
    let row := seg % 128
    let k := seg / 128 % 8
    (s.look rod row (s.tileCode rod row (driverAt k))).isSome ||
      (s.feeds s.routeBound (.wire (.line rod row k))).any fun d =>
        match d with
        | .sink b => s.acking b
        | _ => false

/-- Segments that mask a driver and are between beads are granted to their westmost driver (R78). -/
def State.regrantIdle (s : State) : State :=
  s.fabric.contentions.foldl (fun s c => if s.segmentBusy c.seg then s else s.regrant c.seg) s

/-- BEAD_CONSUMED: every consumer has acknowledged the bead that an output drives; the block lets it go and the output
returns to spacer (R46, R48). A tie is never acknowledged (R45). -/
def State.beadConsumed (s : State) (x : BeadSource) : State :=
  let xs := s.together x
  if s.tied x || !xs.all fun y => (s.driven y).isSome && s.joined y then s
  else
    let t := (s.sinkCounts x).beadTaken x
    (xs.foldl (fun t y => (t.offerTaken y).spacer y) t).regrantIdle

-- ------------------------------------------------------------------ arbitration cells (R52)

/-- ARBITRATION_GRANT: a waiting request is granted and its bead taken, once the grant channel is clear. -/
def State.arbitrationGrant (s : State) (rod row a : Nat) (first : Bool) (upset : Upset) : State :=
  let req (r : Nat) : BeadSink := .request rod row a r
  let x := BeadSource.arbiter rod row a
  if s.withholds (req 0) then (s.catchBead (req 0) (upsetPart upset 0 1)).catchBead (req 1) (upsetPart upset 1 1)
  else if (s.arbiter rod row a).grant.isSome || !s.clear x then s
  else
    let bead (r : Nat) := if s.sinkReady (req r) then s.beadAt (req r) (upsetPart upset r 1) else none
    let b0 := bead 0
    let b1 := bead 1
    match (s.arbiter rod row a).choice b0.isSome b1.isSome first with
    | none => s
    | some r =>
      match if r then b1 else b0 with
      | none => s
      | some b => (s.grant rod row a r (b0.isSome && b1.isSome)).takeBead (req (if r then 1 else 0)) b

-- ------------------------------------------------------------------ reckoners (R56, R57)

/-- The digits of a reckoner's port (R55). -/
def reckonerDigits (port : Nat) : Nat := if port = 3 then 32 else if port = 4 then 2 else 14

/-- A port of a reckoner, with the part of an upset of the 76 digits that falls on it. -/
def reckonerPort (rod k : Nat) (upset : Upset) (port : Nat) : BeadSink × Upset :=
  (.reckoner rod k port, upsetPart upset (reckonerBase port) (reckonerDigits port))

/-- The ports an operation takes beads from (R56): A and B always, D with PRE_EN, C with Z-select C, OP with DYN_OP. -/
def reckonerPorts (t : ReckonerSettings) (dyn : Bool) : List Nat :=
  [0, 2] ++ (if t.pre then [1] else []) ++ (if t.zsel = 1 then [3] else []) ++ if dyn then [4] else []

/-- RECKONER_OPERATION: the beads of the operation's ports are taken together, once those of the operation before are taken
and Z is there. -/
def State.reckonerOperation (s : State) (rod k : Nat) (upset : Upset) : State :=
  let at_ := reckonerPort rod k upset
  let r := s.reckonerRecord rod k
  let dyn := recBits r 69 1 == 1
  if s.withholds (at_ 0).1 then (List.range 5).foldl (fun s p => s.catchBead (at_ p).1 (at_ p).2) s
  else
    match if dyn then (s.beadAt (at_ 4).1 (at_ 4).2).map Bead.num else some 0 with
    | none => s
    | some op =>
      let t := settingsOf r (BitVec.ofNat 4 op)
      let ports := reckonerPorts t dyn
      s.withBeads (ports.map at_) fun xs s =>
        if !s.reckonerClear rod k then none
        else
          let port (p : Nat) : Nat := (((ports.zip xs).find? (·.1 == p)).map (·.2.num)).getD 0
          (s.reckonerZ rod k t (some (BitVec.ofNat 64 (port 3)))).map fun z =>
            s.reckon rod k t z (BitVec.ofNat 28 (port 0)) (BitVec.ofNat 28 (port 1)) (BitVec.ofNat 28 (port 2))

-- ------------------------------------------------------------------ block-memory ports (R95, R96)

/-- Operation codes of REQ digit 0 (R95). -/
def readsRow (op : Nat) : Bool := op == 0 || op == 2
def writesRow (op : Nat) : Bool := op == 1 || op == 2

/-- A port's read channels can take a bead: those produced before are taken and their handshakes have ended. How many beads
a port's pipeline holds the spec does not say (DESIGN CHOICE, assumption 176). -/
def State.portClear (s : State) (rod m port : Nat) : Bool :=
  let k := portKey rod m port
  (Sparse.get [] s.mem.reads k).isEmpty && (Sparse.get [] s.mem.statuses k).isEmpty &&
  s.clear (.memRd rod m port) && s.clear (.memRs rod m port)

/-- READ, WRITE, READ_WRITE or NOP of a port, by its code (R95): the REQ bead that spells it is taken, with a WD bead for an
operation that writes, after the row has been updated (R96). -/
def State.portOperation (s : State) (op rod m port : Nat) (upset : Upset) (x : EccFinding) : State :=
  let req := (BeadSink.memReq rod m port, upsetPart upset 0 9)
  let data := (BeadSink.memData rod m port, upsetPart upset 9 36)
  s.withBeads (req :: if writesRow op then [data] else []) fun xs s =>
    let digits := (xs.head?.map Bead.digits).getD []
    if digits.head? ≠ some (BitVec.ofNat 2 op) || (readsRow op && !s.portClear rod m port) then none
    else
      let a := digitsNat digits.tail
      let d := BitVec.ofNat 72 (((xs[1]?).map Bead.num).getD 0)
      some (match op with
        | 0 => s.portRead rod m port a x
        | 1 => s.portWrite rod m port a d x
        | 2 => s.portReadWrite rod m port a d x
        | _ => s)

-- ------------------------------------------------------------------ queues (R106, R107, R112)

/-- PRODUCER_WORD: a bead on PD, joined in packet mode with one on PC, is taken where the queue takes producer words. -/
def State.producerBead (s : State) (q : Nat) (upset : Upset) (x : EccFinding) : State :=
  let data := (BeadSink.queueData q, upsetPart upset 0 36)
  let control := (BeadSink.queueControl q, upsetPart upset 36 1)
  s.withBeads (data :: if s.packetMode q then [control] else []) fun xs s =>
    let ctl := BitVec.ofNat 2 (((xs[1]?).map Bead.num).getD 0)
    if s.producerTakes q ctl then some (s.producerWord q (BitVec.ofNat 72 ((xs.head?.map Bead.num).getD 0)) ctl x)
    else none

/-- CONSUMER_WORD: a word is driven on CD and CC once they are clear, and taken when it is acknowledged. -/
def State.consumerTurn (s : State) (q : Nat) (x : EccFinding) : State :=
  let s := if s.queueUsed q && !s.queueHeld q && s.clear (.queueData q) && s.clear (.queueControl q) then s.queueDrive q x
    else s
  s.beadConsumed (.queueData q)

/-- FLUSH_BEAD: a bead on FL is taken, and requests a flush unless it is 0b00. -/
def State.flushBead (s : State) (q : Nat) (upset : Upset) : State :=
  s.withBeads [(.queueFlush q, upset)] fun xs s =>
    xs.head?.map fun b => if b.num = 0 then s else s.flushRequest q

-- ------------------------------------------------------------------ pads (R85, R398)

/-- PIN_INPUT_CHANGE: the level outside a pad changes; stations and UARTs see it. -/
def State.pinInputChange (s : State) (p : Nat) (level : Bool) (wait : Nat) : State :=
  let s := if p < 192 then s.pinLevel p level wait
    else
      let s := s.pass wait
      s.putFabric { s.fabric with padIn := Sparse.set false s.fabric.padIn p level }
  let s := if s.extlPin (p % 16) = p then s.extlSees (p % 16) else s
  (List.range 4).foldl (fun s u => s.uartPump u) s

end Sys2Proof.Machine
end

