-- ==== Sys2Proof/Machine/Finish.lean ====
section
/-! DEFINITION. What happens at the end of every command: answers reach the units that wait for them (R224), work that
waited goes on, resets that were asked for act, events are delivered; and what a tick without a command brings. JTAG
accesses (R415, R418). -/

namespace Sys2Proof.Machine

-- ------------------------------------------------------------------ answers

/-- The answer to a drive's memory request (R345): bytes for a read, none for one that failed. -/
def State.driveAnswer (s : State) (d : Nat) (c : Completion) : State :=
  match c.request, c.answer with
  | .rd, .rspData => s.emit (.driveData d (some c.data))
  | .rd, _ => s.emit (.driveData d none)
  | _, _ => s

/-- An ended request reaches what waits for it behind its NI. -/
def State.deliver (s : State) (c : Completion) : State :=
  match c.use with
  | .none | .fabric _ | .marker => s
  | .host code => s.barAnswer code c
  | .dma ch d => s.dmaAnswer ch d c
  | .core n => (s.coreAnswer n c).haltsDue
  | .coreFence n => (s.coreFenceAnswer n).haltsDue
  | .debug port => s.memAnswer port c
  | .engine => s.engineAnswer c
  | .laneTx l k => s.txAnswer l k (if c.answer = .rspData then some c.data else none)
  | .drive d => s.driveAnswer d c

/-- The first ended request is taken off the list. -/
def State.dropEnded (s : State) : State := s.putNet { s.net with ended := s.net.ended.tail }

/-- The first waiting CSR request is taken off the list. -/
def State.dropResume (s : State) : State := s.setDebug { s.dbg with resume := s.dbg.resume.tail }

/-- Every engine does what it can: BAR pieces, host DMA, the loader, the transfer of a readback or restore, edge stations,
CS-F and drain markers, a FABRIC_RESET that waited (R31, R170), steps of the roving spare (R190). -/
def State.pump (s : State) : State :=
  let s := (s.barPump (s.host.pieces.length)).dmaPump
  s.loadGate.fetchPump.transferPump.edgesPass.csfPass.markersPass.fabricResetDue.repairGoesOn

/-- Answers are delivered, CSR requests go on and engines pump until nothing more comes of it. -/
def State.runDown (s : State) : Nat → State
  | 0 => s
  | n + 1 =>
    match s.net.ended with
    | c :: _ => (s.dropEnded.deliver c).runDown n
    | [] =>
      match s.dbg.resume with
      | r :: _ => (s.dropResume.csrResume r).runDown n
      | [] =>
        let t := s.pump
        if t.net.ended.isEmpty && t.dbg.resume.isEmpty && !t.edgesDue && !t.csfDue && !t.markersDue && !t.resetIsDue then t else t.runDown n

/-- More rounds than any command needs. -/
def runDownRounds : Nat := 65536

/-- Nothing waits for an answer, a reset or an engine. -/
def State.calm (s : State) : Bool :=
  s.dev.due.isEmpty && s.net.ended.isEmpty && s.dbg.resume.isEmpty && s.host.pieces.isEmpty && s.host.dma.isEmpty &&
  s.cfg.load.isNone && s.cfg.transfer.isNone && s.cfg.queued.isNone && !s.resetIsDue && !s.edgesDue && !s.csfDue && !s.markersDue && !s.repairWaits

/-- What a command sets going ends with it: answers and engines, and resets that were asked for. -/
def State.work (s : State) : State := if s.calm then s else (s.runDown runDownRounds).dueActs

/-- Whatever a command does, the part stays the same and the queue is left to the step. -/
def State.became (s t : State) : State := { t with part := s.part, pending := s.pending }

/-- The end of a command on s that has made t of it: what it set going ends, and events are delivered. -/
def State.ends (s t : State) : State := (s.became t.work).settle

/-- A command acts, unless PORST_N holds the part (assumption 129). -/
def State.command (s : State) (f : State → State) : Out' := if s.dev.porst then .next s else .next (s.ends (f s))

/-- A command that acts while PORST_N is low as well: supplies, pads, PORST_N itself. -/
def State.always (s : State) (f : State → State) : Out' :=
  let t := f s
  .next (if t.dev.porst then s.became t else s.ends t)

-- ------------------------------------------------------------------ a tick without a command

/-- A tick passes (R8, R270): time-driven work that no command names goes on (assumption 137). -/
def State.tick (s : State) : State :=
  if s.dev.porst then s
  else s.ends ((s.pass 1).lanesMove.traceDrain.ledgerHeld.powerDrain)

-- ------------------------------------------------------------------ register writes (R5, R28)

/-- A write of a CSR offset by a requester (R5, R6, R28): the owner behind a closed fence or a station in ERROR is not
reached. -/
def State.registerWrite (s : State) (off : Nat) (data : Word) (who : Who) : State :=
  if (s.csrBlocked off).isSome then s else (s.csrAccess off (some data) false who .none).2

-- ------------------------------------------------------------------ DBG_ACCESS (R415, R416, R418)

/-- The blocks that debug accesses reach in DORMANT and during SYS_RESET (R415). -/
def aonBlock (off : Nat) : Bool :=
  (0x30000 ≤ off && off < 0x60000) || (0x80000 ≤ off && off < 0xA0000) || (0xB0000 ≤ off && off < 0xC0000)

/-- What JTAG reaches while LOCKED (R416). -/
def lockedReach (off : Nat) : Bool :=
  (0x30000 ≤ off && off < 0x40000) || off == csrOffset .DBG_AUTH 0 || off == csrOffset .DBG_STATUS 0

/-- The access ends with data, or with an ERR code. -/
def State.jtagEnds (s : State) (read : Bool) (err : Option Nat) (v : Word) : State :=
  s.setDebug { s.dbg with
    accessRunning := false, accessDone := true, accessError := err.isSome, accessErr := err.getD 0
    accessData := if read then v else s.dbg.accessData }

/-- JTAG as the maker of an access (R442). -/
def jtagWho : Who := ⟨0x02, 0x9A⟩

/-- An access that authorization does not let through (R416, R420). -/
def State.jtagLocked (s : State) (read : Bool) (off : Nat) (data : Word) : State :=
  let s := if read then s else
    match regAt off with
    | some (r, i) => s.dbgRefused jtagWho .debugLocked r i data
    | none => s.raise F.DBG_STATUS_REFUSED 0
  s.jtagEnds read (some 0) 0

/-- An access to a CSR offset (R418). -/
def State.jtagAccess (s : State) (read : Bool) (off : Nat) (attr : Bool) (data : Word) : State :=
  if s.dbg.locked && !lockedReach off then s.jtagLocked read off data
  else if (s.power.held || s.f F.PWR_STATE_STATUS_STATE 0 == 3) && !aonBlock off then s.jtagEnds read (some 2) 0
  else
    match s.csrBlocked off with
    | some e => s.jtagEnds read (some e) 0
    | none =>
      let s := s.setDebug { s.dbg with accessRunning := true, accessDone := false, accessError := false, accessErr := 0 }
      match s.csrAccess off (if read then none else some data) attr jtagWho .jtag with
      | (some v, s) => s.jtagEnds read none v
      | (none, s) => s

/-- A DBG_ACCESS update (R418). -/
def State.dbgAccess (s : State) (u : DWord) : State :=
  let v := u.toNat
  let op := v / 2 ^ 61 % 4
  if s.dbg.ir ≠ 0x10 then s
  else if s.dbg.accessRunning then s.setDebug { s.dbg with accessError := true }
  else if op = 0 then s
  else if op = 3 then s.jtagEnds false (some 0) 0
  else s.jtagAccess (op == 1) (v / 2 ^ 32 % 2 ^ 28) (u.getLsbD 60) (u.setWidth 32)

-- ------------------------------------------------------------------ the host link (R358, R371)

/-- The host link comes up (R358); WAKE# is let go. -/
def State.hostLinkUp (s : State) (speed width : Nat) : State :=
  let s := s.linkUp speed width
  if s.hostUp then (s.putPower { s.power with wakeDriven := false }).dmaPump else s

end Sys2Proof.Machine
end

