-- ==== Sys2Proof/Machine/CmdConfig.lean ====
section
/-! DEFINITION. The commands of loading, spans, scrubbing, capture and readback. -/

namespace Sys2Proof.Machine

/-- ABORT_LOAD: CMD ABORT_LOAD ends the running load with cause ABORTED (R135). -/
def execAbortLoad (who : Who) (s : State) : Out' := s.command fun s => s.abortLoad who

/-- STREAM_DONE: CMD STREAM_DONE ends a host-window stream (R127). -/
def execStreamDone (who : Who) (s : State) : Out' := s.command fun s => s.streamDone who

/-- STREAM: a write to CFG.STREAM appends its bytes to a host-window load, or is dropped (R127). -/
def execStream (w : Word) (s : State) : Out' := s.command fun s => s.streamWrite w

/-- STREAM_WORD: a stream word arrives at the loader and is checked before use (R143). -/
def execStreamWord (x : StreamWord) (s : State) : Out' := s.command fun s => s.streamWord x

/-- FAR: a write of the FAR stream register sets the next frame address (R134, R136). -/
def execFar (v : Word) (s : State) : Out' := s.command fun s => s.feedCommand (streamWrite 1 [v])

/-- BURST: a BURST command writes frames of data to configuration memory (R133, R136). -/
def execBurst (data : List Word) (s : State) : Out' :=
  s.command fun s =>
    s.feedCommand (commandWordOf 2 2 data.length :: data)

/-- SKIP_WORDS: a NOP command skips its following words (R133). -/
def execSkipWords (data : List Word) (s : State) : Out' :=
  s.command fun s =>
    s.feedCommand (commandWordOf 3 0 data.length :: data)

/-- END: the END word and the CRC word after it: the final CRC, digest and coverage checks (R130, R143). -/
def execEnd (crc : Word) (s : State) : Out' := s.command fun s => s.feedCommand [0xF0000000#32, crc]

/-- IDCHK: a write of IDCHK checks the die ID against the device (R134). -/
def execIdchk (v : Word) (s : State) : Out' := s.command fun s => s.feedCommand (streamWrite 4 [v])

/-- CRC: a write of the CRC stream register checks the running CRC (R134). -/
def execCrc (v : Word) (s : State) : Out' := s.command fun s => s.feedCommand (streamWrite 5 [v])

/-- SPAN: a write of the SPAN stream register checks the partial image's span (R134, R165). -/
def execSpan (v : Word) (s : State) : Out' := s.command fun s => s.feedCommand (streamWrite 6 [v])

/-- SPAN_TABLE: a write of SPAN_TABLE declares one span, or is refused (R157, R158). -/
def execSpanTable (ws : List Word) (s : State) : Out' := s.command fun s => s.feedCommand (streamWrite 7 ws)

/-- PIN_ISO: a write of PIN_ISO sets the pin isolation states (R160). -/
def execPinIso (ws : List Word) (s : State) : Out' := s.command fun s => s.feedCommand (streamWrite 8 ws)

/-- BEAM_MAP: a write of BEAM_MAP places the fabric taps and sets the fixed Beam routes (R280). -/
def execBeamMap (ws : List Word) (s : State) : Out' := s.command fun s => s.feedCommand (streamWrite 9 ws)

/-- GUARD_TBUS: a write of GUARD_TBUS loads the image trigger governors (R383). -/
def execGuardTbus (ws : List Word) (s : State) : Out' := s.command fun s => s.feedCommand (streamWrite 0x10 ws)

/-- GUARD_LANE: a write of GUARD_LANE loads the lane transmit guards (R383). -/
def execGuardLane (ws : List Word) (s : State) : Out' := s.command fun s => s.feedCommand (streamWrite 0x11 ws)

/-- GUARD_PINS: a write of GUARD_PINS loads the protected-pin mask (R383). -/
def execGuardPins (ws : List Word) (s : State) : Out' := s.command fun s => s.feedCommand (streamWrite 0x12 ws)

/-- GUARD_POWER: a write of GUARD_POWER loads the image power ceiling (R383). -/
def execGuardPower (v : Word) (s : State) : Out' := s.command fun s => s.feedCommand (streamWrite 0x13 [v])

/-- GUARD_POLICY: a write of GUARD_POLICY loads the breach policy and host lock (R383, R387). -/
def execGuardPolicy (v : Word) (s : State) : Out' := s.command fun s => s.feedCommand (streamWrite 0x14 [v])

/-- GUARD_LOCK: a write of GUARD_LOCK arms the guard lock for the START tick (R134). -/
def execGuardLock (v : Word) (s : State) : Out' := s.command fun s => s.feedCommand (streamWrite 0x1F [v])

/-- START: CMD START as the last word pair before END, END and the CRC word: once the checks have passed, the START event
enters the Beam (R135, R149). -/
def execStart (crc : Word) (s : State) : Out' :=
  s.command fun s =>
    s.feedCommand (streamWrite 3 [1] ++ [0xF0000000#32, crc])

/-- SCRUB_ON: CMD SCRUB_ON turns frame scrubbing on (R135, R155). -/
def execScrubOn (s : State) : Out' := s.command fun s => s.scrubSwitch true

/-- SCRUB_OFF: CMD SCRUB_OFF turns frame scrubbing off (R135, R155). -/
def execScrubOff (s : State) : Out' := s.command fun s => s.scrubSwitch false

/-- SOURCE_TIMEOUT: no stream byte arrives for CFG.SRC_TIMEOUT and the load ends (R143). -/
def execSourceTimeout (s : State) : Out' :=
  s.command fun s =>
    if s.cfg.load.any fun l => l.src != 0 then
     ((s.pass (s.f F.CFG_SRC_TIMEOUT_TIMEOUT 0 * ticksPerUs)).loadStops .sourceTimeout) else s

/-- HOST_DEADLINE: no host or JTAG load has begun by HOST_DEADLINE and slot 0 is loaded (R148). -/
def execHostDeadline (s : State) : Out' := s.command fun s => s.hostDeadline

/-- SPAN_LOAD: SPAN_CMD LOAD starts a partial load of a span, or is refused (R164, R165). -/
def execSpanLoad (who : Who) (n : Nat) (s : State) : Out' :=
  s.command fun s =>
    s.spanRequest who (spanCmdOf 1 n) false true

/-- ISOLATE: SPAN_CMD ISOLATE begins draining and isolating a running span, or is refused (R164). -/
def execIsolate (who : Who) (n : Nat) (s : State) : Out' :=
  s.command fun s =>
    s.spanRequest who (spanCmdOf 2 n) false true

/-- RELEASE: SPAN_CMD RELEASE releases an isolated span, or is refused (R164). -/
def execRelease (who : Who) (n : Nat) (s : State) : Out' :=
  s.command fun s =>
    s.spanRequest who (spanCmdOf 3 n) false true

/-- RESET: SPAN_CMD RESET gives a span's stages their initial states, rewriting an INCOMPLETE span first, or is refused
(R164, R167). -/
def execReset (who : Who) (n : Nat) (same : Bool) (s : State) : Out' :=
  s.command fun s =>
    s.spanRequest who (spanCmdOf 4 n) false same

/-- ISOLATION_TICK: after the drain the span is isolated at a Beam tick (R161, R166 step 3). -/
def execIsolationTick (n : Nat) (s : State) : Out' := s.command fun s => (s.pass 1).isolate n

/-- SPAN_DRAIN_TIMEOUT: SPAN_DRAIN.US elapses and unfinished work is fenced with DRAIN_TIMEOUT (R162). -/
def execSpanDrainTimeout (n : Nat) (s : State) : Out' := s.command fun s => s.spanDrainTimeout n

/-- SPAN_SETTLED: all rods of an isolated span report settled and the span is gated (R161). -/
def execSpanSettled (n wait : Nat) (s : State) : Out' := s.command fun s => (s.pass (max 16 wait)).spanSettled n

/-- SPAN_RELEASE_TICK: at the release Beam tick the span's stages, queues, pins and fences are released (R166). -/
def execSpanReleaseTick (n : Nat) (s : State) : Out' := s.command fun s => (s.pass 1).spanReleaseTick n

/-- SPAN_RUNNING: all span rods report after release and the span is RUNNING (R166). -/
def execSpanRunning (n wait : Nat) (s : State) : Out' := s.command fun s => (s.pass (max 16 wait)).spanRunning n

/-- ICP_CMD: a bead on ICP_CMD requests a span operation and yields one ICP_R bead (R168). -/
def execIcpCmd (upset : Upset) (s : State) : Out' := s.command fun s => s.icpCommandBead upset

/-- ICP_D: a bead on ICP_D supplies a stream word, or is discarded and counted (R168). -/
def execIcpD (upset : Upset) (s : State) : Out' := s.command fun s => s.icpDataBead upset

/-- FRAME_SCRUB: the scrubber reads and checks one frame, correcting single-bit errors and reloading the frame after a
double-bit error (R155, R156). -/
def execFrameScrub (x : FrameFinding) (s : State) : Out' := s.command fun s => s.frameScrub x

/-- FREEZE: CMD FREEZE arms capture in its mode, or is refused (R173, R174). -/
def execFreeze (who : Who) (s : State) : Out' := s.command fun s => s.freezeCommand who

/-- CAP_TIME_REACHED: TIME reaches CAP_TIME minus 9 and an armed AT_TIME capture enters its FREEZE event (R173). -/
def execCapTimeReached (s : State) : Out' := s.command fun s => s.capTimeReached

/-- CAPTURE_SETTLED: every rod reports settled and capture becomes FROZEN (R174). -/
def execCaptureSettled (wait : Nat) (s : State) : Out' := s.command fun s => (s.pass wait).captureSettled

/-- THAW: CMD THAW ends a capture or cancels an arm, or is refused (R174). -/
def execThaw (who : Who) (s : State) : Out' := s.command fun s => s.thawCommand who

/-- THAW_TICK: at the next Beam tick after THAW the stages resume and capture is IDLE (R174). -/
def execThawTick (s : State) : Out' := s.command fun s => if s.capState == 4 then (s.pass 1).captureEnds else s

/-- READBACK: CMD READBACK starts reading out or restoring frames, or is refused (R171, R172, R176). -/
def execReadback (who : Who) (s : State) : Out' := s.command fun s => s.readback who

/-- READBACK_DONE: a readback or restore transfer ends normally or stops with an error (R171, R176). -/
def execReadbackDone (s : State) : Out' := s.command fun s => s.readbackDone

/-- RB_DATA: an access to RB_DATA: a read (none) removes a readback word, a write appends a restore word (R171, R176). -/
def execRbData (data : Option Word) (s : State) : Out' :=
  s.command fun s =>
    match data with
    | some w => s.rbPush w
    | none => s.rbPop

end Sys2Proof.Machine
end

