-- ==== Sys2Proof/Machine/CmdDebug.lean ====
section
/-! DEFINITION. The commands of debug, trace and the ledger. -/

namespace Sys2Proof.Machine

/-- CROSS_TRIGGER_FIRE: a cross-trigger channel fires on an edge of input i that it enables, and drives its outputs
(R431): the halt of core i, or a comparator action of core i − 4. -/
def execCrossTriggerFire (i : Nat) (s : State) : Out' := s.command fun s => if i < 8 then s.xtInput [i] else s

/-- XT_FIRE: a write of XT_FIRE fires cross-trigger channels (R431). -/
def execXtFire (who : Who) (data : Word) (s : State) : Out' :=
  s.command fun s =>
    s.dbgGate who .DBG_XT_FIRE 0 data fun s => s.writeXtFire data

/-- XT_CLEAR: a write of XT_CLEAR re-arms channels or clears the statistics freeze (R431). -/
def execXtClear (who : Who) (data : Word) (s : State) : Out' :=
  s.command fun s =>
    s.dbgGate who .DBG_XT_CLEAR 0 data fun s => s.writeXtClear data

/-- HALT: CORE_RC.HALT halts a core at the next instruction boundary (R425); so does an EBREAK with EBREAK_HALT = 1. -/
def execHalt (n : Nat) (by' : HaltBy) (s : State) : Out' :=
  s.command fun s =>
    if !s.corePresent n then s
    else
      match by' with
      | .request who => (s.dbgGate who .DBG_CORE_RC n 1 fun s => s.haltCore n 1)
      | .ebreak pc =>
        if s.on F.DBG_CORE_RC_EBREAK_HALT n && s.coreRuns n then
          ((s.setCore n { s.core n with pc := pc }).haltCore n 5)
        else s

/-- RESUME: CORE_RC.RESUME restarts a halted core (R425). -/
def execResume (who : Who) (n : Nat) (s : State) : Out' :=
  s.command fun s =>
    if !s.corePresent n then s else (s.dbgGate who .DBG_CORE_RC n 2 fun s => s.resumeCore n)

/-- SINGLE_STEP: CORE_RC.STEP executes one instruction and halts again (R425); x is what the instruction did. -/
def execSingleStep (who : Who) (n : Nat) (x : CoreStep) (s : State) : Out' :=
  s.command fun s =>
    if !s.corePresent n then s else (s.dbgGate who .DBG_CORE_RC n 4 fun s => s.stepCore n x)

/-- COMPARATOR_MATCH: an instruction of a core is one that a comparator or a linked chain matches, and its ACTION acts
(R429, R430). -/
def execComparatorMatch (n : Nat) (i : Insn) (s : State) : Out' := s.command fun s => s.compare n i

/-- CORE_REG_DATA: an access to CORE_REG_DATA reads (none) or writes a halted core's register (R425). -/
def execCoreRegData (who : Who) (n : Nat) (data : Option Word) (s : State) : Out' :=
  s.command fun s =>
    if !s.corePresent n then s
    else
      match data with
      | some v => (s.dbgGate who .DBG_CORE_REG_DATA n v fun s => s.coreRegWrite who n v)
      | none => s

/-- CORE_MEM_DATA: an access to CORE_MEM_DATA reads (none) or writes a word through a halted core's map (R425). -/
def execCoreMemData (who : Who) (n : Nat) (data : Option Word) (s : State) : Out' :=
  s.command fun s =>
    if !s.corePresent n then s
    else
      match data with
      | some v => (s.dbgGate who .DBG_CORE_MEM_DATA n v fun s => s.coreMemAccess who n data)
      | none => (s.coreMemAccess who n none)

/-- MEM_DATA: an access to DBG.MEM_DATA makes a 4-byte RD (none) or WR from NI 0x9A (R433). -/
def execMemData (who : Who) (data : Option Word) (s : State) : Out' :=
  s.command fun s =>
    match data with
    | some v => (s.dbgGate who .DBG_MEM_DATA 0 v fun s => s.memAccess ⟨4, data, who, false, .none⟩)
    | none => (s.memAccess ⟨4, none, who, false, .none⟩)

/-- IR_UPDATE: a TAP instruction update selects an instruction, or BYPASS when it is refused (R416). -/
def execIrUpdate (code : BitVec 8) (s : State) : Out' := s.command fun s => s.irUpdate code

/-- TEST_LOGIC_RESET: TMS brings the TAP to Test-Logic-Reset, resetting only the TAP and selecting IDCODE (R414, R416). -/
def execTestLogicReset (s : State) : Out' := s.command fun s => s.tapReset

/-- DBG_RESET: TRST#, or a write of DBG.CTRL.DBG_RESET that is not refused, returns the debug domain to its reset values
(R414). -/
def execDbgReset (who : Option Who) (s : State) : Out' :=
  s.command fun s =>
    match who with
    | none => s.dbgReset
    | some w => (s.dbgGate w .DBG_CTRL 0 2 State.dbgReset)

/-- LOCK: key 0x10C6 locks debug authorization after a DBG reset (R421). -/
def execLock (who : Who) (s : State) : Out' := s.command fun s => s.lock who

/-- ERASE_DONE: the unlock erase ends and authorization becomes OPEN (R422). -/
def execEraseDone (s : State) : Out' := s.command fun s => s.eraseDone

/-- GOLD_PROG: a GOLD_PROG command programs slot 0 or clears a repair list, or is refused (R424). -/
def execGoldProg (cmd : Word) (s : State) : Out' := s.command fun s => s.goldCommand cmd

/-- STIM: a write to a stimulus port emits a STIM packet, waits for room, or is discarded (R436). -/
def execStim (p : Nat) (data : Word) (s : State) : Out' := s.command fun s => if p < 32 then s.stim p data none else s

/-- STIM_STALL_EXPIRE: a stalled stimulus write waits 4 µs without room and is discarded (R436). -/
def execStimStallExpire (s : State) : Out' := s.command fun s => s.stimExpire

/-- LEDGER_COMMIT: a buffered entry is written and verified in the ring (R443). -/
def execLedgerCommit (ok : Bool) (s : State) : Out' := s.command fun s => s.ledgerCommit ok

/-- LEDGER_SCAN_DONE: the power-up scan, which takes 1.05 ms, finds the newest entry and makes the POWER_ON entry (R445). That
ends step 1 of R147, and self-test follows. -/
def execLedgerScanDone (torn : Nat) (s : State) : Out' :=
  s.command fun s =>
    if s.ledger.ready then s else ((s.advanceTo 1575000).ledgerScanned torn).bootBegins

/-- RD_SEQ: a write of LEDGER.RD_SEQ selects an entry to read (R448). -/
def execRdSeq (data : Word) (s : State) : Out' := s.command fun s => s.writeRdSeq data

/-- RD_DATA: a read of LEDGER.RD_DATA word 7 advances RD_SEQ (R448). -/
def execRdData (w : Nat) (s : State) : Out' := s.command fun s => s.readRdData w

/-- DBG_ACCESS: a DBG_ACCESS update performs one CSR read or write (R418). -/
def execDbgAccess (update : DWord) (s : State) : Out' := s.command fun s => s.dbgAccess update

end Sys2Proof.Machine
end

