-- ==== Sys2Proof/Machine/CmdDevice.lean ====
section
/-! DEFINITION. The commands of device control: start-up, resets, the stop protocol, CSR writes. -/

namespace Sys2Proof.Machine

/-- POR: PORST_N low resets everything (R30). -/
def execPor (drains : Bool) (s : State) : Out' := s.always fun s => s.por drains

/-- PORST_RELEASE: release of PORST_N samples BOOT_SRC and CFG_PULL and starts the start-up sequence (R125). -/
def execPorstRelease (bootSrc : BitVec 2) (cfgPull : Bool) (s : State) : Out' :=
  s.always fun s =>
    s.porstRelease bootSrc cfgPull

/-- SYS_RESET: a SYS_RESET resets every region but always-on and restarts configuration from the boot-header phase
(R30), as a write of DEV.CTRL asks for it. -/
def execSysReset (who : Who) (s : State) : Out' := s.command fun s => s.askSysReset 1 who.origin

/-- PERST: PERST# resets the host endpoint and host DMA, or causes SYS_RESET when PERST_SYS = 1 (R371). -/
def execPerst (s : State) : Out' := s.command fun s => s.perst

/-- EVT_ACK: a write to DEV.EVT_ACK re-arms host messages of event groups and resends for those still pending (R35). -/
def execEvtAck (data : Word) (s : State) : Out' :=
  s.command fun s =>
    s.putDev { s.dev with evtSent := s.dev.evtSent &&& ~~~data }

/-- INITIAL_STATE_RELEASE: once every rod in reach reports spacer, stages take their initial states and their gates open at
a Beam tick (R49). -/
def execInitialStateRelease (wait : Nat) (s : State) : Out' := s.command fun s => s.releaseActs wait

/-- LOAD: CMD LOAD starts a full load or a slot or area write from LOAD_CTRL, or is refused (R151). -/
def execLoad (who : Who) (s : State) : Out' := s.command fun s => s.loadCommand who

/-- PAD_WRITE: a write to PIN.PAD changes a pin's settings, switching its function if FUNC changes (R394). -/
def execPadWrite (who : Who) (p : Nat) (data : Word) (s : State) : Out' :=
  s.command fun s =>
    if p < 208 then s.writePad who p data else s

/-- FUNC_SWITCH_DONE: at cycle 2 the new function takes the pad (R394). -/
def execFuncSwitchDone (p : Nat) (s : State) : Out' := s.command fun s => s.funcSwitchDone p

/-- EXPIRED: a watchdog count reaches 0 and resets its core or the device (R381). -/
def execExpired (w : Nat) (s : State) : Out' := s.command fun s => s.dogExpire w

/-- UNLOCK: key 0x0FE2 begins the erase-then-open unlock sequence (R422). -/
def execUnlock (who : Who) (s : State) : Out' := s.command fun s => s.unlock who

/-- REGION_OFF: after drain and fence a region is switched off and its stations parked (R401). -/
def execRegionOff (wait : Nat) (s : State) : Out' := s.command fun s => s.regionOff wait

/-- WAKE: an enabled wake cause leaves DORMANT and restarts from the boot header (R404). -/
def execWake (cause : Nat) (s : State) : Out' := s.command fun s => s.wakeCause cause

/-- SUPPLY_FAULT: a supply leaves its range and its fault outcome applies (R406). -/
def execSupplyFault (row bank : Nat) (s : State) : Out' := s.always fun s => s.supplyLost row bank

/-- TEMP_READ: the junction sensors report and warnings or shutdown follow (R409). -/
def execTempRead (t : Int) (sensor : Nat) (s : State) : Out' := s.command fun s => s.tempRead t sensor

/-- RUN: CTRL.RUN written 1 moves a function from STOPPED to RUN, applying settings written while stopped (R37, R38). -/
def execRun (who : Who) (f : Func) (s : State) : Out' :=
  s.command fun s =>
    if s.funcReached f then s.writeCtrl who f (s.runWord f true) else s

/-- STOP: CTRL.RUN written 0 moves a function to STOPPING, or is refused when a dependant runs (R37). -/
def execStop (who : Who) (f : Func) (s : State) : Out' :=
  s.command fun s =>
    if s.funcReached f then s.writeCtrl who f (s.runWord f false) else s

/-- HELD_WORK_FINISHED: a STOPPING function that has finished its held work becomes STOPPED (R37). -/
def execHeldWorkFinished (f : Func) (s : State) : Out' :=
  s.command fun s =>
    if funcPresent s.part f && s.funcState f == 2 && s.funcIdle f then s.funcStopped f else s

/-- STOP_TIMEOUT: expiry of STOP_TIMEOUT completes remaining work ABORTED and leaves the function STOPPED (R37). -/
def execStopTimeout (f : Func) (s : State) : Out' := s.command fun s => s.stopTimeout f

/-- FUNCTION_RESET: DEV.FRESET GO fences, aborts and resets one instance of a hard function, or is refused (R33). -/
def execFunctionReset (who : Who) (block inst : Nat) (s : State) : Out' :=
  s.command fun s =>
    s.writeFreset who (BitVec.ofNat 32 (block % 32 + 65536 * (inst % 2048) + 2 ^ 31))

/-- REGISTER_WRITE: a write to a register with no row of its own acts by its access type, journaling and refusal rules
(R5, R6, R28). -/
def execRegisterWrite (who : Who) (off : Nat) (data : Word) (s : State) : Out' :=
  s.command fun s => s.registerWrite off data who

end Sys2Proof.Machine
end

