-- ==== Sys2Proof/Machine/CmdFabric.lean ====
section
/-! DEFINITION. The commands of the user fabric, block memories and queues. -/

namespace Sys2Proof.Machine

/-- BEAD_ACCEPT: a holding stage whose input is complete and whose output is clear becomes FULL (R48); an input of a hard
block takes, or its arrival latch captures, a complete bead (R50, R264). upset is what an upset raises on its digits
(R43). -/
def execBeadAccept (b : BeadSink) (upset : Upset) (s : State) : Out' := s.command fun s => s.beadAccept b upset

/-- ARBITRATION_GRANT: an arbitration cell grants one waiting request bead (R52); where both wait, first names the request
that the arrival favoured. Requests 0 and 1 are digits 0 and 1 of the upset. -/
def execArbitrationGrant (rod row a : Nat) (first : Bool) (upset : Upset) (s : State) : Out' :=
  s.command fun s => s.arbitrationGrant rod row a first upset

/-- RECKONER_OPERATION: a reckoner takes one bead from each enabled port and computes P, ACC, ST and CASC_OUT (R56); its
76 input digits are numbered as R140 has them. -/
def execReckonerOperation (rod k : Nat) (upset : Upset) (s : State) : Out' :=
  s.command fun s => s.reckonerOperation rod k upset

/-- RATE_WINDOW: a rate monitor ends its counting window and reports its rate (R64). -/
def execRateWindow (m rate : Nat) (s : State) : Out' := s.command fun s => s.rateWindow m rate

/-- CONTENTION: a second enabled driver on a segment is masked (R78); rods lists the enabled driver points. -/
def execContention (seg : Nat) (rods : List Nat) (s : State) : Out' := s.command fun s => s.contention seg rods (s.segmentBusy seg)

/-- CONTENTION_SCRUB_DONE: the priority scrub ends and the guard grants the remaining driver (R79); x is what it found. -/
def execContentionScrubDone (seg : Nat) (x : FrameFinding) (s : State) : Out' :=
  s.command fun s =>
    s.contentionScrubbed seg x

/-- FTO_BEAD: a nonzero bead on a fabric trigger output enters the Beam (R88). -/
def execFtoBead (n : Nat) (upset : Upset) (s : State) : Out' := s.command fun s => s.ftoTake n upset

/-- READ: a block-memory port READ consumes a REQ bead and produces an RD bead (R95); x is what the row's check finds. -/
def execRead (rod m port : Nat) (upset : Upset) (x : EccFinding) (s : State) : Out' :=
  s.command fun s => s.portOperation 0 rod m port upset x

/-- WRITE: a block-memory port WRITE consumes REQ and WD beads and updates the row (R95). -/
def execWrite (rod m port : Nat) (upset : Upset) (x : EccFinding) (s : State) : Out' :=
  s.command fun s => s.portOperation 1 rod m port upset x

/-- READ_WRITE: a block-memory READ_WRITE writes the word and returns its old value (R95). -/
def execReadWrite (rod m port : Nat) (upset : Upset) (x : EccFinding) (s : State) : Out' :=
  s.command fun s => s.portOperation 2 rod m port upset x

/-- NOP: a block-memory NOP consumes its REQ bead and does nothing else (R95). -/
def execNop (rod m port : Nat) (upset : Upset) (s : State) : Out' :=
  s.command fun s => s.portOperation 3 rod m port upset .clean

/-- ROW_SCRUB: a block memory scrubs one row per interval (R100). -/
def execRowScrub (rod m : Nat) (x : EccFinding) (s : State) : Out' := s.command fun s => s.rowScrub rod m x

/-- PRODUCER_WORD: a queue accepts a producer word, committing the packet on LAST (R107, R108); x is what the check of its
row finds; PD's digits are numbered from 0, PC's is 36. -/
def execProducerWord (q : Nat) (upset : Upset) (x : EccFinding) (s : State) : Out' :=
  s.command fun s => s.producerBead q upset x

/-- FLUSH_BEAD: a nonzero bead on FL requests a flush of the queue (R112). -/
def execFlushBead (q : Nat) (upset : Upset) (s : State) : Out' := s.command fun s => s.flushBead q upset

/-- FLUSH: a write of QUEUE.CTRL.FLUSH requests a flush (R112). -/
def execFlush (q : Nat) (s : State) : Out' := s.command fun s => s.flushRequest q

/-- FLUSH_TAKES_EFFECT: the pending flush meets the consumer's packet boundary (R112). -/
def execFlushTakesEffect (q : Nat) (s : State) : Out' := s.command fun s => s.flushTry q

/-- CONSUMER_WORD: the committed word at RD_PTR is driven on CD and CC, and the consumer takes it when it acknowledges
(R107); x is what the check of its row finds. -/
def execConsumerWord (q : Nat) (x : EccFinding) (s : State) : Out' := s.command fun s => s.consumerTurn q x

/-- STALE: the stale timer reaches STALE_UNITS and the queue sends STALE (R113). -/
def execStale (q : Nat) (s : State) : Out' := s.command fun s => s.staleExpires q

/-- BEAD_CONSUMED: every consumer of an output has acknowledged its bead; the stage becomes EMPTY and returns to spacer
(R46, R48). -/
def execBeadConsumed (x : BeadSource) (s : State) : Out' := s.command fun s => s.beadConsumed x

end Sys2Proof.Machine
end

