-- ==== Sys2Proof/Machine/CmdHost.lean ====
section
/-! DEFINITION. The commands of the host interface. -/

namespace Sys2Proof.Machine

/-- HOLDOFF: the interrupt holdoff ends and a deferred message is sent (R367). -/
def execHoldoff (c : Nat) (s : State) : Out' :=
  s.command fun s =>
    if 32 ≤ c || !(s.dma c).messageDue then s
    else (s.advanceTo ((s.holdoffEnd c).getD s.time)).dmaSend c

/-- LINK_DOWN: loss of the host link without PERST# (R371). -/
def execLinkDown (s : State) : Out' := s.command fun s => if s.hostUp then s.linkDown.dmaDropAll.hostReadsLost else s

/-- FLR: a function level reset of PF0 or PF1 (R371). -/
def execFlr (pf : Nat) (s : State) : Out' :=
  s.command fun s =>
    if !s.hostUp then s
    else
      let s := s.raise F.HOST_STATUS_FLR_SEEN 0
      if pf = 0 then s.pf0Reset.dmaDropAll.hostReadsLost else s

/-- D3HOT: PF0 entering D3hot stops every DMA channel and gates BAR and window requests (R371). -/
def execD3hot (s : State) : Out' := s.command fun s => s.enterD3

/-- HOST_LINK_UP: the host link trains up, latching the PCI Express identity and BAR sizes on the first link-up after POR
(R358). -/
def execHostLinkUp (speed width : Nat) (s : State) : Out' := s.command fun s => s.hostLinkUp speed width

/-- CONFIGURATION_REQUEST: a host configuration request, such as Bus Master Enable or MSI-X enable and mask, is taken and
completed (R359). -/
def execConfigurationRequest (tag : Nat) (x : HostConfig) (s : State) : Out' := s.command fun s => s.configRequest tag x

/-- BAR_REQUEST: a host BAR request is split and turned into carry-network requests (R361). -/
def execBarRequest (r : BarRequest) (s : State) : Out' := s.command fun s => s.barTake r

/-- DMA_ENABLE: a write of DMA_CTRL.EN = 1 re-enables host DMA and reopens the fences of NIs 0x90 and 0x91 (R371). -/
def execDmaEnable (who : Who) (s : State) : Out' := s.command fun s => s.writeDmaCtrl who 1#32

/-- CH_TAIL: a write of CH_TAIL posts descriptors to a DMA channel, or is refused (R364). -/
def execChTail (who : Who) (c : Nat) (data : Word) (s : State) : Out' :=
  s.command fun s => if c < 32 then s.writeTail who c data else s

/-- DESCRIPTOR_FETCH: descriptors fetched from host memory arrive at the channel (R364). -/
def execDescriptorFetch (c : Nat) (ds : List (BitVec 256)) (s : State) : Out' := s.command fun s => s.descriptorFetch c ds

/-- DESCRIPTOR_COMPLETE: a descriptor's transfers finish and its status is written back (R367). -/
def execDescriptorComplete (c : Nat) (s : State) : Out' := s.command fun s => s.descriptorComplete c

/-- HOST_COMPLETION: a PCI Express completion from the host arrives for a DMA or host-memory-window read (R370). -/
def execHostCompletion (tag : Nat) (x : HostAnswer) (s : State) : Out' := s.command fun s => s.hostCompletion tag x

/-- COMPLETION_TIMEOUT: a read to host memory gets no completion within the completion timeout and ends with a host error
(R368). -/
def execCompletionTimeout (tag : Nat) (s : State) : Out' := s.command fun s => s.completionTimeout tag

end Sys2Proof.Machine
end

