-- ==== Sys2Proof/Machine/CmdLane.lean ====
section
/-! DEFINITION. The commands of the lanes. -/

namespace Sys2Proof.Machine

/-- TX_STREAM_START: a transmitting lane begins its multiblocks at TX_START (R321). -/
def execTxStreamStart (l : Nat) (s : State) : Out' := s.command fun s => s.txStart l

/-- UNDERRUN: a transmit chunk not in hand when due is sent as zeros (R313). -/
def execUnderrun (l : Nat) (s : State) : Out' := s.command fun s => s.underrun l

/-- CHUNK_SEND: a complete receive chunk is sent as one WRP, or dropped on overflow (R310, R311); words are what the line of
a raw stream has brought since the last, errors the bit errors of a lane under test (R327). -/
def execChunkSend (l : Nat) (words : List LineWord) (errors : Nat) (s : State) : Out' :=
  s.command fun s =>
    s.chunkSend l words errors

/-- STREAM_START: a lane achieves lock or alignment and its receive stream starts at k = 0 (R312, R317); wait ticks from
now, ilasErr where the ILAS was faulty; before are the 58 line bits received before. -/
def execStreamStart (l wait : Nat) (before : BitVec 58) (ilasErr : Bool) (s : State) : Out' :=
  s.command fun s =>
    (s.pass wait).streamStart l before ilasErr

/-- MULTIBLOCK_RELEASE: an aligned lane releases one extended multiblock at its release tick (R320); arrival is the ticks
from boundary to multiblock start, errors the check failures counted. -/
def execMultiblockRelease (l : Nat) (m : Multiblock) (arrival errors : Nat) (s : State) : Out' :=
  s.command fun s =>
    s.multiblockRelease l m arrival errors

/-- LOSS: a lane loses lock or sync and sets LOSS (R325). -/
def execLoss (l : Nat) (s : State) : Out' := s.command fun s => if s.rxOn l then s.laneLoss l else s

/-- PLL_LOST: the quad PLL loses lock and every lane sets LOSS (R325). -/
def execPllLost (q : Nat) (s : State) : Out' := s.command fun s => s.pllLost q

/-- QUAD_PLL_LOCK: a quad PLL locks after its region is powered (R308). -/
def execQuadPllLock (q : Nat) (s : State) : Out' :=
  s.command fun s =>
    if q < Part.quads s.part ∧ s.niPowered (0x70 + q) then s.raise F.LANE_QUAD_STATUS_PLL_LOCK q else s

/-- EYE_SCAN: EYE_CTRL.START runs an eye scan on a lane (R326). -/
def execEyeScan (l : Nat) (s : State) : Out' := s.command fun s => s.eyeScan l

/-- EYE_SCAN_DONE: an eye scan ends and EYE_RESULT is complete (R326). -/
def execEyeScanDone (l errors : Nat) (s : State) : Out' := s.command fun s => s.eyeScanDone l errors

end Sys2Proof.Machine
end

