-- ==== Sys2Proof/Machine/CmdNet.lean ====
section
/-! DEFINITION. The commands of the carry network: packets, routers, fences and crossing stations. -/

namespace Sys2Proof.Machine

/-- U_GATE_OPEN: a U gate opens 300 ticks after its HOLD ended or its fence opened (R235). -/
def execUGateOpen (n dest : Nat) (s : State) : Out' := s.command fun s => s.gateOpen n dest

/-- FENCE_CLOSED: the fence's drain completes (R246 step 5). -/
def execFenceClosed (n : Nat) (s : State) : Out' := s.command fun s => s.fenceClosed n

/-- DRAIN_LIMIT: the drain limit expires and the fence closes (R247). -/
def execDrainLimit (n : Nat) (s : State) : Out' := s.command fun s => s.drainLimit n

/-- CLOSE: NI.FENCE_CTRL.CLOSE starts draining and fencing the NI (R245). -/
def execClose (who : Who) (n : Nat) (s : State) : Out' :=
  s.command fun s =>
    s.fenceClose n who ((s.word .NI_FENCE_CTRL n) ||| 1#32)

/-- OPEN: NI.FENCE_CTRL.OPEN reopens a closed fence, or is refused (R250). -/
def execOpen (who : Who) (n : Nat) (s : State) : Out' :=
  s.command fun s =>
    s.fenceOpen n who ((s.word .NI_FENCE_CTRL n) ||| 2#32)

/-- FENCE_PROXY: the proxy of a fenced port answers, drops or discards a packet routed to it (R248). -/
def execFenceProxy (p : Packet) (s : State) : Out' := s.command fun s => s.proxy p

/-- REGULATOR_RELEASE: a packet held by a token-bucket regulator is injected once a token is available (R221); it has
waited wait ticks. -/
def execRegulatorRelease (n vn wait : Nat) (s : State) : Out' := s.command fun s => (s.pass wait).releaseHeld n (vn % 4)

/-- U_RELEASE: a U packet is released once its spacing limits and regulator allow (R234); it has waited wait
ticks. -/
def execURelease (n wait : Nat) (s : State) : Out' := s.command fun s => (s.pass wait).releaseHeld n 2

/-- QUARANTINE_EXPIRE: a quarantined tag is freed after 100 ms (R224). -/
def execQuarantineExpire (n tag : Nat) (s : State) : Out' := s.command fun s => s.quarantineExpire n tag

/-- CLEAR: STAT_CTRL.CLEAR zeroes every statistic of the NI (R256). -/
def execClear (n : Nat) (s : State) : Out' := s.command fun s => s.statClear n

/-- RT_ENTRY_WRITE: a write of RT_DATA_HI commits a route entry to SHADOW after its checks (R216). -/
def execRtEntryWrite (who : Who) (n : Nat) (hi : Word) (s : State) : Out' := s.command fun s => s.routeWrite who n hi

/-- COPY: a write of RT_CTRL.COPY copies ACTIVE into SHADOW (R214). -/
def execCopy (n : Nat) (s : State) : Out' := s.command fun s => s.routeCopy n

/-- SWAP: a write of RT_CTRL.SWAP requests a route-table bank exchange (R219); injecting says whether the NI is part-way
through a packet. -/
def execSwap (who : Who) (n : Nat) (injecting : Bool) (s : State) : Out' :=
  s.command fun s =>
    (s.setNi n { s.ni n with injecting := injecting }).swapRequest who n

/-- BANK_EXCHANGE: at the first injection boundary the banks are exchanged or the swap is refused (R219). -/
def execBankExchange (who : Who) (n : Nat) (s : State) : Out' :=
  s.command fun s =>
    (s.setNi n { s.ni n with injecting := false }).bankExchange n who

/-- UNIT_RECEIVE: a router takes the next unit on the link into a port, checks it and forwards it by the route string (R213);
flips names the wires, of 0 to 591, that changed on the link (R200). -/
def execUnitReceive (page port : Nat) (flips : List Nat) (s : State) : Out' :=
  s.command fun s =>
    s.unitReceive page port flips

/-- WIRE_REMAP: a persistent link fault is located in idle cycles and moved to a spare wire (R202). -/
def execWireRemap (page port : Nat) (wire : Option Nat) (s : State) : Out' :=
  s.command fun s =>
    s.wireRemap page port wire

/-- AGEING_PROMOTION: a header waiting THRESH cycles is promoted one priority level (R211). -/
def execAgeingPromotion (page port vn : Nat) (s : State) : Out' := s.command fun s => s.agePromote page port vn

/-- STAGED_WRITE: a write to a staged router field is held for the next HOLD, or refused (R239). -/
def execStagedWrite (who : Who) (page : Nat) (r : Reg) (data : Word) (s : State) : Out' :=
  s.command fun s =>
    if isStaged r then s.stagedWrite who page r data else s

/-- HOLD: CN.HOLD_CTRL.REQ written 1 closes U gates and stops the router granting new headers (R241). -/
def execHold (who : Who) (page : Nat) (s : State) : Out' :=
  s.command fun s =>
    if pagePresent s.part page then s.holdBegin who page else s

/-- HOLD_DRAIN_DONE: every held packet reaches its TAIL and the staged writes are applied (R241). -/
def execHoldDrainDone (page : Nat) (s : State) : Out' := s.command fun s => s.holdDone page

/-- HOLD_FAIL: HOLD_CTRL.LIMIT expires before the drain ends and the HOLD fails (R243). -/
def execHoldFail (page : Nat) (s : State) : Out' := s.command fun s => s.holdFail page

/-- RESYNC_REQ: a reset of one side of a station starts a resync, discarding the entries it holds (R260). -/
def execResyncReq (i : Nat) (s : State) : Out' := s.command fun s => s.resync i

/-- RESYNC_DONE: RESYNC_ACK is seen after the reset and the station returns to RUN (R260). -/
def execResyncDone (i : Nat) (s : State) : Out' := s.command fun s => s.resyncDone i

-- ------------------------------------------------------------------ packets

/-- REQUEST_INJECT: a unit's request is decoded and routed by its source NI (R15); that of a fabric NI is the one its
beads on IQ spell (R228). -/
def execRequestInject (n : Nat) (r : Request) (s : State) : Out' := s.command fun s => s.injected n r

/-- RD: a target receives an RD request and answers with RSP_DATA or RSP_ERR (R206). -/
def execRd (p : Packet) (m : WordFinding) (s : State) : Out' := s.command fun s => s.takeRd p m

/-- WR: a target receives a WR request and answers RSP_OK or RSP_ERR (R206). -/
def execWr (p : Packet) (m : WordFinding) (s : State) : Out' := s.command fun s => s.takeWr p m

/-- WRP: a target receives a posted write (R206). -/
def execWrp (p : Packet) (m : WordFinding) (s : State) : Out' := s.command fun s => s.takeWrp p m

/-- FADD: a target adds the operand atomically and returns the old value (R206). -/
def execFadd (p : Packet) (m : WordFinding) (s : State) : Out' := s.command fun s => s.takeFadd p m

/-- CFG: a router consumes a CFG packet reading or writing its page (R218). -/
def execCfg (page : Nat) (p : Packet) (s : State) : Out' := s.command fun s => s.takeCfg page { p with cmd := .cfg }

/-- EVT: an NI receives an EVT and delivers it to its unit (R206). -/
def execEvt (p : Packet) (s : State) : Out' := s.command fun s => s.takeEvt p

/-- RSP_DATA: a response with data completes the matching outstanding transaction (R224). -/
def execRspData (p : Packet) (s : State) : Out' :=
  s.command fun s => s.takeResponse { p with cmd := .rspData }

/-- RSP_OK: an RSP_OK completes the matching outstanding transaction (R224). -/
def execRspOk (p : Packet) (s : State) : Out' :=
  s.command fun s => s.takeResponse { p with cmd := .rspOk }

/-- RSP_ERR: an RSP_ERR completes the matching outstanding transaction with its error (R224). -/
def execRspErr (p : Packet) (s : State) : Out' :=
  s.command fun s => s.takeResponse { p with cmd := .rspErr }

/-- TRANSACTION_TIMEOUT: the initiator timer expires and the transaction completes RSP_ERR TIMEOUT (R224). -/
def execTransactionTimeout (n tag : Nat) (s : State) : Out' := s.command fun s => s.txnTimeout n tag

/-- TARGET_TIMEOUT: the target NI answers RSP_ERR TIMEOUT for its unit (R225). -/
def execTargetTimeout (n handle : Nat) (s : State) : Out' := s.command fun s => s.targetTimeout n handle

/-- CROSS_TIMEOUT: a heartbeat watch reaches TIMEOUT_US and the station enters ERROR (R266 to R268); side names the side
that stopped. -/
def execCrossTimeout (i side : Nat) (aon : Bool) (s : State) : Out' :=
  s.command fun s => s.crossTimeout i side aon

end Sys2Proof.Machine
end

