-- ==== Sys2Proof/Machine/CmdPins.lean ====
section
/-! DEFINITION. The commands of pins and peripherals. -/

namespace Sys2Proof.Machine

/-- PIN_OUTPUT_BEAD: a pin station takes an output bead and drives the pad immediately or at a qualifying edge (R84). -/
def execPinOutputBead (p : Nat) (upset : Upset) (s : State) : Out' := s.command fun s => s.pinOutputBead p upset

/-- GPIO_SET: a write of GPIO_SET sets OUT bits (R396). -/
def execGpioSet (i : Nat) (data : Word) (s : State) : Out' := s.command fun s => if i < 13 then s.gpioSet i data else s

/-- GPIO_CLR: a write of GPIO_CLR clears OUT bits (R396). -/
def execGpioClr (i : Nat) (data : Word) (s : State) : Out' := s.command fun s => if i < 13 then s.gpioClr i data else s

/-- EXTL_DETECT: a filtered edge or level on an EXTL line sets its status bit (R397). -/
def execExtlDetect (n : Nat) (s : State) : Out' := s.command fun s => if n < 16 then s.extlDetect n else s

/-- TRANSFER: I2C.CMD GO starts an I2C transfer (R412). -/
def execTransfer (who : Who) (u : Nat) (data : Word) (s : State) : Out' :=
  s.command fun s =>
    if u < 4 then s.writeI2cCmd who u data else s

/-- ADDRESSED: an outside I2C controller addresses the unit in target mode and transfers bytes (R398). -/
def execAddressed (u addr : Nat) (x : TargetUse) (s : State) : Out' :=
  s.command fun s =>
    if u < 4 then s.addressed u addr x else s

/-- RX_BYTE: a UART receives a byte on RXD and pushes it with its error bits into the RX FIFO (R398): the levels at the
middle of the bits after the start bit. -/
def execRxByte (u : Nat) (bits : List Bool) (s : State) : Out' :=
  s.command fun s =>
    if u < 4 then s.uartByte u bits else s

/-- TRANSACTION: PMB.CMD GO starts a PMBus transaction, waiting for the loop's (R413). -/
def execTransaction (who : Who) (data : Word) (s : State) : Out' := s.command fun s => s.writePmbCmd who data

/-- ALERT_SEEN: the PMBus ALERT# input is asserted, and ALERT_SEEN is set; or it is released (R398). -/
def execAlertSeen (s : State) : Out' := s.command fun s => s.alertSeen

/-- PERIPHERAL_DONE: an I2C transfer, SPI frame, UART byte or PMBus transaction ends and the unit sets DONE or its error
bits (R412). -/
def execPeripheralDone (x : PeriphEnd) (s : State) : Out' :=
  s.command fun s =>
    match x with
    | .i2cBytes u _ | .i2cDone u | .i2cNack u | .i2cArbLost u | .i2cTimeout u => if u < 4 then s.i2cEvent u x else s
    | .spiFrame u data => if u < 4 then s.spiEnd u data else s
    | .uartByte u => if u < 4 then s.uartEnd u else s
    | .pmbDone _ | .pmbNack | .pmbPec _ | .pmbBusLow => s.pmbEvent x

/-- TXDATA: a write of a peripheral TXDATA pushes into its FIFO, or is dropped (R412). -/
def execTxdata (x : Periph) (data : Word) (s : State) : Out' :=
  s.command fun s =>
    if periphUnit x then s.txPush x data else s

/-- RXDATA: a read of a peripheral RXDATA pops its oldest entry (R412). -/
def execRxdata (x : Periph) (s : State) : Out' := s.command fun s => if periphUnit x then s.rxPop x else s

/-- PT_COMPARE: TIME reaches a PT compare value and its output acts (R412). -/
def execPtCompare (t : Nat) (s : State) : Out' := s.command fun s => if t < 8 then s.ptCompare t else s

/-- PT_CAPTURE: a selected edge on a capture input latches TIME (R412). -/
def execPtCapture (t : Nat) (s : State) : Out' :=
  s.command fun s =>
    if t < 8 then s.ptCapture t else s

/-- PIN_INPUT_CHANGE: a filtered pad change or sample is offered as an input bead, counting overruns and lost changes
(R85): wait ticks from now the level outside the pad is as given. -/
def execPinInputChange (p : Nat) (level : Bool) (wait : Nat) (s : State) : Out' :=
  s.always fun s =>
    if p < 208 then s.pinInputChange p level wait else s

end Sys2Proof.Machine
end

