-- ==== Sys2Proof/Machine/CmdPower.lean ====
section
/-! DEFINITION. The commands of power states, supplies, temperature and the voltage loop. -/

namespace Sys2Proof.Machine

/-- FPD_RESTORE_DONE: a powered FPD region has been tested, reloaded and released (R403). -/
def execFpdRestoreDone (wait : Nat) (results : List (Nat × SliceResult)) (same : Bool) (s : State) : Out' :=
  s.command fun s =>
    s.fpdRestoreDone wait results same

/-- ACTIVE: a state request for ACTIVE powers the enabled regions and restores the fabric (R400, R403). -/
def execActive (who : Who) (s : State) : Out' := s.command fun s => s.writeStateCtrl who (stateWord 0)

/-- FABRIC_OFF: a state request for FABRIC_OFF powers down the FPD regions, or is refused (R400). -/
def execFabricOff (who : Who) (s : State) : Out' := s.command fun s => s.writeStateCtrl who (stateWord 1)

/-- STANDBY: a state request for STANDBY powers down fabric, lanes and store, or is refused (R400). -/
def execStandby (who : Who) (s : State) : Out' := s.command fun s => s.writeStateCtrl who (stateWord 2)

/-- DORMANT: a state request for DORMANT leaves only always-on powered, or is refused (R400). -/
def execDormant (who : Who) (s : State) : Out' := s.command fun s => s.writeStateCtrl who (stateWord 3)

/-- REGION_CTRL: a write of REGION_CTRL switches power regions on or off (R401). -/
def execRegionCtrl (who : Who) (data : Word) (s : State) : Out' := s.command fun s => s.writeRegionCtrl who data

/-- QUAD_CTRL: a write of PWR.QUAD_CTRL switches quad regions on or off (R401). -/
def execQuadCtrl (who : Who) (data : Word) (s : State) : Out' := s.command fun s => s.writeQuadCtrl who data

/-- BROWNOUT: VCC_FAB below 0.55 V gates the fabric boundary and fences fabric NIs (R408). -/
def execBrownout (s : State) : Out' := s.command fun s => if s.dev.porst then s else s.brownoutBegins

/-- BROWNOUT_RECOVERY: VCC_FAB stays at or above 0.60 V for 100 µs and the fabric is restored (R408). -/
def execBrownoutRecovery (wait : Nat) (results : List (Nat × SliceResult)) (same : Bool) (s : State) : Out' :=
  s.command fun s =>
    s.brownoutEnds wait results same

/-- SUPPLY_SAMPLE: the fabric supply monitor reads VCC_FAB and flags range faults (R408). -/
def execSupplySample (fab sys : Nat) (s : State) : Out' := s.command fun s => s.supplySample fab sys

/-- SUPPLY_IN_RANGE: a supply that was out of range returns to it, releasing a held SYS_RESET or held commits (R406). -/
def execSupplyInRange (row bank level : Nat) (s : State) : Out' := s.always fun s => s.supplyBack row bank level

/-- VLOOP_ENABLE: VLOOP_CTRL is written, and a loop that starts reads VOUT_MODE and READ_VOUT (R66); heard says how the
attempts of its bus transactions end, in order (R67, R68). -/
def execVloopEnable (who : Who) (data : Word) (heard : List PmbResult) (s : State) : Out' :=
  s.command fun s =>
    (s.writeVloopCtrl who data).loopHears heard

/-- VLOOP_INTERVAL: the loop reads the rate, steps the command and sends it when it changed (R66); heard says how the
attempts of its VOUT_COMMAND, STATUS_WORD and READ_VOUT transactions end, in order (R67, R68). -/
def execVloopInterval (heard : List PmbResult) (s : State) : Out' :=
  s.command fun s =>
    s.vloopInterval heard

end Sys2Proof.Machine
end

