-- ==== Sys2Proof/Machine/CmdRepair.lean ====
section
/-! DEFINITION. The commands of self-test, repair and the roving spare. -/

namespace Sys2Proof.Machine

/-- SELF_TEST_SLICE_DONE: a self-test slice ends and marks its physical rod good or FAILED by what it found (R180). The
first slice brings the readings of the replica monitors taken before it (R179): physical rods with their lowest. -/
def execSelfTestSliceDone (phys : Nat) (x : SliceResult) (readings : List (Nat × Nat)) (s : State) : Out' :=
  s.command fun s =>
    if !s.selfTests then s else
    let s := s.replicasRead readings
    if decide (phys < Part.physRods s.part) && s.slicing (phys / 17) == some (phys % 17) then s.sliceEnds phys (sliceFault x) x
    else s.selfTestEnds

/-- ROVING_STEP_DUE: a routine roving step of a group becomes due (R185). -/
def execRovingStepDue (g : Nat) (s : State) : Out' := s.command fun s => s.rovingDue g

/-- PRE_COPY_DONE: pre-copy of the source rod ends (R186). -/
def execPreCopyDone (x : PreCopy) (s : State) : Out' := s.command fun s => s.preCopyDone x

/-- VERIFY_DONE: the verify of the copy ends and S freezes, or the copy mismatched (R186, R187). -/
def execVerifyDone (ok : Bool) (s : State) : Out' := s.command fun s => s.verifyDone ok

/-- PAUSE_LIMIT: steps 6 and 7 of a step cannot end by t_f + PAUSE_LIMIT and S is released unchanged (R187). -/
def execPauseLimit (s : State) : Out' :=
  s.command fun s =>
    match s.stepAt 3 with
     | some st => match st.frozenAt, st.switched with
       | some t, false => s.pauseAbort st t
       | _, _ => s
     | none => s

/-- ROD_SETTLED: the frozen rod has settled, its state is copied and the multiplexers and the map switch (R186). -/
def execRodSettled (wait : Nat) (writeFails : Bool) (s : State) : Out' :=
  s.command fun s =>
    s.rodSettled wait writeFails

/-- STEP_RELEASE: the logical rod runs on D, and the pause ends (R186). -/
def execStepRelease (wait : Nat) (s : State) : Out' := s.command fun s => s.stepRelease wait

/-- SPARE_TEST_DONE: the test of the new spare ends (R186 step 9) with what it found. -/
def execSpareTestDone (x : SliceResult) (s : State) : Out' :=
  s.command fun s =>
    match s.stepAt 4 with
     | some st => s.spareTested st (sliceFault x) x
     | none => s

/-- SLICE_OVERRUN: a slice has not passed when its budget ends, and fails with cause OVERRUN (R179): a power-up slice, whose
budget follows the readings before the first slice, or the test of a spare, whose budget follows its own monitor (R186
step 9); low is that monitor's reading in M beads/s. -/
def execSliceOverrun (phys low : Nat) (s : State) : Out' :=
  s.command fun s =>
    let ends (s : State) (low : Nat) : State :=
      s.advanceTo (Sparse.get s.repair.testFrom s.repair.sliceFrom (groupOfPhys phys) + BitVec.ofNat 64 (sliceBudget low))
    if s.selfTests then
      let s := s.replicasRead []
      if decide (phys < Part.physRods s.part) && s.slicing (phys / 17) == some (phys % 17) then
        (ends s s.repair.lowRate).sliceEnds phys 7 ⟨7, [], []⟩
      else s
    else
      match s.stepAt 4 with
      | some st => if st.src = phys then (ends s low).spareTested st 7 ⟨7, [], []⟩ else s
      | none => s

/-- WEAR_FAULT: a wear fault is declared for a physical rod (R184). -/
def execWearFault (phys : Nat) (s : State) : Out' := s.command fun s => s.wearDeclared phys

/-- STEP: REPAIR.CMD STEP runs a routine step of a group now, subject to R190, or is refused. -/
def execStep (who : Who) (g : Nat) (s : State) : Out' :=
  s.command fun s =>
    s.repairCommand who (BitVec.ofNat 32 (1 + 256 * (g % 16)))

/-- MIGRATE: REPAIR.CMD MIGRATE declares a wear fault on a rod, or is refused. -/
def execMigrate (who : Who) (rod : Nat) (s : State) : Out' :=
  s.command fun s =>
    s.repairCommand who (BitVec.ofNat 32 (2 + 65536 * (rod % 512)))

/-- RETEST: REPAIR.CMD RETEST tests the spare of a group again, or is refused. -/
def execRetest (who : Who) (g : Nat) (s : State) : Out' :=
  s.command fun s =>
    s.repairCommand who (BitVec.ofNat 32 (3 + 256 * (g % 16)))

/-- FABRIC_RESET: CMD FABRIC_RESET returns the fabric to its initial states by the sequence of R49, or waits (R30,
R31). -/
def execFabricReset (who : Who) (s : State) : Out' := s.command fun s => s.fabricResetCommand who

/-- LINK_TEST_SLICE: an idle-link test slice of an output port ends, with the faulty wire it found (R192). -/
def execLinkTestSlice (page port : Nat) (fault : Option Nat) (s : State) : Out' :=
  s.command fun s =>
    s.linkTested page port fault

/-- HBM_TEST_SLICE: a pseudo channel's test of its next 16 KiB region ends, with the faulty row it found and whether the
stack has a spare for it (R193, R194, R336). -/
def execHbmTestSlice (pc : Nat) (fault : Option (Nat × Bool)) (s : State) : Out' :=
  s.command fun s =>
    s.hbmTested pc fault

/-- SLICE_PREEMPT: traffic pre-empts a test slice (R192, R193). unit is 16 times the page plus the output port of a link,
or a pseudo channel. -/
def execSlicePreempt (hbm : Bool) (unit : Nat) (s : State) : Out' := s.command fun s => s.slicePreempt hbm unit

end Sys2Proof.Machine
end

