-- ==== Sys2Proof/Machine/CmdSeq.lean ====
section
/-! DEFINITION. The commands of the sequencer, watchdogs and guards. -/

namespace Sys2Proof.Machine

/-- FIRMWARE_LOAD: the boot ROM checks and copies the firmware segments (R378). -/
def execFirmwareLoad (readError : Bool) (s : State) : Out' := s.command fun s => s.firmwareLoad readError

/-- IC_CLAIM: a read of IC_CLAIM returns and clears the highest pending input (R380). -/
def execIcClaim (n : Nat) (s : State) : Out' := s.command fun s => if s.corePresent n then s.claim n else s

/-- DOORBELL: a write of SEQ.DOORBELL raises input 33 of the named cores (R380). -/
def execDoorbell (mask : BitVec 4) (s : State) : Out' := s.command fun s => s.doorbell mask

/-- SEQ_EVT: a write of SEQ.EVT enters source SEQ_EVT n into the Beam (R380). -/
def execSeqEvt (n : Nat) (s : State) : Out' := s.command fun s => s.seqEvent n

/-- MTIMECMP_REACHED: TIME reaches a core's MTIMECMP and input 36 becomes pending (R380). -/
def execMtimecmpReached (n : Nat) (s : State) : Out' := s.command fun s => s.mtimecmpReached n

/-- KICK: a write to WDOG.KICK reloads the watchdog, or counts a bad kick (R381). -/
def execKick (who : Who) (w : Nat) (data : Word) (s : State) : Out' := s.command fun s => s.writeKick who w data

/-- WARN: a watchdog count reaches WARN and raises its warning (R381). -/
def execWarn (w : Nat) (s : State) : Out' := s.command fun s => s.dogWarn w

/-- POWER_ESTIMATE: every 10 µs fabric power is estimated and the throttle level adjusted (R386); watts is the estimate. -/
def execPowerEstimate (watts : Nat) (s : State) : Out' := s.command fun s => s.powerEstimate watts

/-- CORE_LOCAL_ACCESS: a core fetch, load, store, LR/SC or AMO to its TCMs, the boot ROM or the shared SRAM, with ECC
correction or fault (R374). -/
def execCoreLocalAccess (n : Nat) (a : Word) (x : LocalAccess) (found : EccFinding) (s : State) : Out' :=
  s.command fun s => if s.coreRuns n && !s.coreStalled n then s.localAccess n a.toNat x found else s

/-- APERTURE_ACCESS: a core load or store in the CSR aperture becomes an RD or WR (R375): its offset x, size, the register a
load fills, and the value a store writes. -/
def execApertureAccess (n x bytes rd : Nat) (store : Option Word) (s : State) : Out' :=
  s.command fun s => s.apertureAccess n x bytes rd store

/-- FAR_WINDOW_ACCESS: a core access in the far window becomes an RD, WR or WRP (R375). -/
def execFarWindowAccess (n y bytes rd : Nat) (signed : Bool) (store : Option Word) (s : State) : Out' :=
  s.command fun s => s.farAccess n y bytes rd signed store

/-- FENCE: a core FENCE waits for zero-byte WRs to each posted destination (R375); memory says whether its successor set
holds a memory access. -/
def execFence (n : Nat) (memory : Bool) (s : State) : Out' := s.command fun s => s.coreFence n memory

end Sys2Proof.Machine
end

