-- ==== Sys2Proof/Machine/CmdStore.lean ====
section
/-! DEFINITION. The commands of HBM and the stream store. -/

namespace Sys2Proof.Machine

/-- RING_CAPTURED: all 16 PCs have captured and the controller sets the ring's captured values (R341). -/
def execRingCaptured (r : Nat) (s : State) : Out' := s.command fun s => s.ringCaptured r

/-- CAPTURE: RING_CTRL.CAPTURE asks every PC to capture its ring values (R341). -/
def execCapture (r : Nat) (s : State) : Out' := s.command fun s => s.ringCapture r

/-- REARM: RING_CTRL.REARM ends a frozen ring's refusal of writes (R342). -/
def execRearm (r : Nat) (s : State) : Out' := s.command fun s => s.ringRearm r

/-- RING_ENABLE: RING_CTRL.EN written 1 starts tracking a ring, or is refused (R339). -/
def execRingEnable (who : Who) (r : Nat) (tagged freeze : Bool) (s : State) : Out' :=
  s.command fun s =>
    if r < 16 ∧ Part.hasHbm s.part then
     s.writeRingCtrl who r (BitVec.ofNat 32 (1 + (if tagged then 2 else 0) + (if freeze then 4 else 0)))
    else s

/-- HBM_INIT_DONE: lane repair and zero-fill end and INIT_DONE is set (R333). -/
def execHbmInitDone (failed : BitVec 8) (s : State) : Out' := s.command fun s => s.hbmInitDone failed

/-- HBM_TEMP_READ: the controller reads the stack temperature and sets refresh, throttle or CRIT (R337). -/
def execHbmTempRead (t : Nat) (s : State) : Out' := s.command fun s => s.hbmTemp t

/-- PATROL_SCRUB: a pseudo channel scrubs one 64-byte block per interval (R335). -/
def execPatrolScrub (p : Nat) (m : WordFinding) (s : State) : Out' := s.command fun s => s.patrolScrub p m

/-- DRIVE_LINK_UP: a root port's link comes up and the drive becomes PRESENT (R346). -/
def execDriveLinkUp (d : Nat) (s : State) : Out' := s.command fun s => s.driveLinkUp d

/-- ATTACH_DONE: an attach completes or fails and the drive becomes READY or PRESENT (R346). -/
def execAttachDone (d : Nat) (x : AttachResult) (s : State) : Out' :=
  s.command fun s =>
    if d < 8 then s.attachDone d x else s

/-- CH_PROD: a write of CH_PROD publishes staged data of a recording channel (R349). -/
def execChProd (c : Nat) (offset : Word) (record : Option (BitVec 16)) (s : State) : Out' :=
  s.command fun s =>
    if c < 8 ∧ s.storeRuns then s.chanProd c offset.toNat record else s

/-- CH_CONS: a write of CH_CONS frees playback ring space (R353). -/
def execChCons (c : Nat) (offset : Word) (s : State) : Out' :=
  s.command fun s =>
    if c < 8 ∧ s.storeRuns then s.chanCons c offset.toNat else s

/-- STRIPE_COMPLETE: a stripe's NVMe commands complete and CONS or PROD advances (R349, R353). -/
def execStripeComplete (c : Nat) (s : State) : Out' :=
  s.command fun s =>
    if c < 8 ∧ s.storeRuns then (if s.chanPlays c then s.stripePlayed c else s.stripeRecorded c) else s

/-- CATALOGUE_COMMIT: a record's catalogue entry is committed and the store may report DRAINED (R351). -/
def execCatalogueCommit (c : Nat) (s : State) : Out' :=
  s.command fun s =>
    if c < 8 ∧ s.storeRuns then s.catalogueCommit c else s

/-- DRIVE_FAIL: a drive's link, controller or command fails and it becomes FAILED (R346). -/
def execDriveFail (d cause sc sct : Nat) (linkDown : Bool) (s : State) : Out' :=
  s.command fun s =>
    if d < 8 ∧ s.storeRuns then s.driveFail d cause sc sct linkDown else s

/-- CMD_TIMEOUT: an NVMe command exceeds CMD_TIMEOUT and is aborted (R346); recovered says whether the Abort or the
controller reset ended it. -/
def execCmdTimeout (d : Nat) (recovered : Bool) (s : State) : Out' :=
  s.command fun s =>
    if d < 8 ∧ s.storeRuns then
     s.driveTimeout d recovered
    else s

/-- STORE_COMMAND_DONE: a FORMAT or MOUNT ends, and BUSY clears or CAUSE is set (R347, R348). -/
def execStoreCommandDone (s : State) : Out' := s.command fun s => s.storeCommandDone

/-- ATTACH: STORE.CMD ATTACH trains, enables and checks a drive, or is refused (R345). -/
def execAttach (who : Who) (d : Nat) (s : State) : Out' :=
  s.command fun s =>
    if d < 8 ∧ s.storeRuns then s.storeAttach who d else s

/-- DETACH: STORE.CMD DETACH returns a drive to PRESENT, or is refused (R346). -/
def execDetach (who : Who) (d : Nat) (s : State) : Out' :=
  s.command fun s =>
    if d < 8 ∧ s.storeRuns then s.storeDetach who d else s

/-- FORMAT: STORE.CMD FORMAT writes a volume to the drives of CFG.DRIVES (R347). -/
def execFormat (who : Who) (s : State) : Out' := s.command fun s => if s.storeRuns then s.storeFormat who else s

/-- MOUNT: STORE.CMD MOUNT checks the drives and resumes from the catalogue (R348). -/
def execMount (who : Who) (s : State) : Out' := s.command fun s => if s.storeRuns then s.storeMount who else s

/-- UNMOUNT: STORE.CMD UNMOUNT unmounts the volume, or is refused while channels run (R355). -/
def execUnmount (who : Who) (s : State) : Out' := s.command fun s => if s.storeRuns then s.storeUnmount who else s

/-- DRIVE_MEMORY_REQUEST: an NVMe drive's memory read or write arrives at its root port and is passed to HBM or refused
Unsupported Request (R345). -/
def execDriveMemoryRequest (d : Nat) (write : Bool) (a len : Nat) (data : List Byte) (s : State) : Out' :=
  s.command fun s => if d < 8 ∧ s.storeRuns then s.driveMemory d write a len data else s

end Sys2Proof.Machine
end

