-- ==== Sys2Proof/Machine/CmdTbus.lean ====
section
/-! DEFINITION. The commands of the chassis trigger bus. -/

namespace Sys2Proof.Machine

/-- SEND: TX_DATA.SEND requests sending the telegram (R301). -/
def execSend (n : Nat) (s : State) : Out' := s.command fun s => s.lineSend n

/-- TELEGRAM_START: once the line is idle and tokens are held the telegram is sent (R301). -/
def execTelegramStart (n : Nat) (s : State) : Out' := s.command fun s => s.telegramGo n 0 false

/-- RESEND: after idle plus a random backoff the telegram is resent, or dropped with TX_FAIL (R301); k is what the LFSR
drew. -/
def execResend (n : Nat) (k : BitVec 4) (s : State) : Out' := s.command fun s => s.telegramGo n k.toNat true

/-- COLLISION: a foreign assertion during a released half-bit stops the telegram (R301); half numbers the half-bit. -/
def execCollision (n half : Nat) (s : State) : Out' := s.command fun s => s.telegramCollides n (half % 42)

/-- TELEGRAM_SENT: the last check bit of a telegram ends and SEND clears with the line released (R301). -/
def execTelegramSent (n : Nat) (s : State) : Out' := s.command fun s => s.telegramSent n

/-- RECEIVER_EVENT: a trigger receiver registers a new level and enters a receiver event (R297, R298); xs are its three
samples on each of the ticks up to wait ticks from now. -/
def execReceiverEvent (n : Nat) (xs : List (BitVec 3)) (wait : Nat) (s : State) : Out' :=
  s.command fun s => (s.pass wait).receive n xs

/-- TELEGRAM_RECEIVED: a received telegram is checked, queued and matched (R300), wait ticks from now; quiet is how long the
line had been released before its start bit, and gaps are the ticks between its registered changes from the middle of that
bit. -/
def execTelegramReceived (n quiet : Nat) (gaps : List Nat) (wait : Nat) (s : State) : Out' :=
  s.command fun s => (s.pass wait).telegramIn n quiet gaps

/-- PULSE_END: a pulse's width expires and the line is released (R299). -/
def execPulseEnd (n : Nat) (s : State) : Out' := s.command fun s => s.pulseEnd n

/-- CUTOFF: an assertion reaches CUTOFF and the line is released and locked out (R303). -/
def execCutoff (n : Nat) (s : State) : Out' := s.command fun s => s.lineCutoff n

/-- DRIVE_FAULT: the line's own receiver does not see its assertion and the line is locked out (R304), wait ticks from
now. -/
def execDriveFault (n wait : Nat) (s : State) : Out' := s.command fun s => (s.pass wait).driveFault n

/-- FOREIGN_STUCK: a line held asserted by another driver for 100 µs sets FOREIGN_STUCK (R304). -/
def execForeignStuck (n : Nat) (s : State) : Out' := s.command fun s => s.foreignStuck n

end Sys2Proof.Machine
end

