-- ==== Sys2Proof/Machine/CmdTime.lean ====
section
/-! DEFINITION. The commands of the time base, the Beam, records and the tally. -/

namespace Sys2Proof.Machine

/-- REF_LOST: the reference is absent for 10 µs and the time base enters holdover (R271). -/
def execRefLost (s : State) : Out' :=
  s.command fun s =>
    ((s.setLock false).raise F.TIME_STATUS_REF_LOST 0).setF F.TBUS_REF_CTRL_REF_PRESENT 0 0

/-- REF_RETURN: the reference returns; the time base is slewed back and LOCK reads 1 once locked (R271). Until
TIME_BASE_LOCK the time base stays in holdover, and TIME does not jump. REF_CTRL.REF_PRESENT follows the reference. -/
def execRefReturn (s : State) : Out' := s.command fun s => s.raise F.TBUS_REF_CTRL_REF_PRESENT 0

/-- TIME_BASE_LOCK: the time base acquires the reference and LOCK reads 1 (R453). -/
def execTimeBaseLock (s : State) : Out' := s.command fun s => (s.setLock true).raise F.TBUS_REF_CTRL_REF_PRESENT 0

/-- DLL_LOST: the Beam delay reference loses lock (R281). -/
def execDllLost (s : State) : Out' :=
  s.command fun s =>
    (s.setF F.TIME_STATUS_DLL_LOCK 0 0).raise F.TIME_STATUS_DLL_LOST 0

/-- DLL_RELOCK: the Beam delay reference locks, or relocks by itself (R281, R453). -/
def execDllRelock (s : State) : Out' := s.command fun s => s.raise F.TIME_STATUS_DLL_LOCK 0

/-- SYNC_EDGE: wait ticks from now a sync edge is registered; it loads TIME when armed or checks its phase (R272). -/
def execSyncEdge (wait : Nat) (s : State) : Out' := s.command fun s => (s.pass wait).syncEdge

/-- ARM: TIME.SYNC_CTRL.ARM arms a sync load, or is refused (R272). -/
def execArm (who : Who) (s : State) : Out' := s.command fun s => s.syncArm who

/-- CMP_FIRE: a compare unit reaches its value and enters its event into the Beam (R274). -/
def execCmpFire (n : Nat) (s : State) : Out' := s.command fun s => s.cmpFire n

/-- TIM_FIRE: a timer's phase comes round and it enters its event into the Beam (R275). -/
def execTimFire (n : Nat) (s : State) : Out' := s.command fun s => s.timFire n

/-- SW_EVT: a write of BEAM.SW_EVT enters a software event on the next tick (R276). -/
def execSwEvt (data : Word) (s : State) : Out' := s.command fun s => s.swEvt data

/-- BEAM_EVENT_ACT: an event that entered the Beam acts at every routed destination 9 ticks later (R278). -/
def execBeamEventAct (s : State) : Out' := s.command fun s => s.beamEvents

/-- DRAINED: a DRAINED report arrives and may end phase A, phase B or the drain (R286, R287). -/
def execDrained (p number : Nat) (s : State) : Out' := s.command fun s => s.partReport p number

/-- AUTOMATIC_CLOSE: the record reaches START_AT + LEN and closes (R282). -/
def execAutomaticClose (s : State) : Out' := s.command fun s => s.automaticClose

/-- START_NOW: RECORD.CMD START_NOW enters a start event, or is refused (R282, R291). -/
def execStartNow (who : Who) (s : State) : Out' := s.command fun s => s.recordCmd who 1#32

/-- CLOSE_NOW: RECORD.CMD CLOSE_NOW enters a close event, or is refused (R282, R291). -/
def execCloseNow (who : Who) (s : State) : Out' := s.command fun s => s.recordCmd who 2#32

/-- FW_DRAINED: a core writes its FW_DRAINED bit to report DRAINED (R286). -/
def execFwDrained (n : Nat) (s : State) : Out' := s.command fun s => if n < 4 then s.fwDrained n else s

/-- SINK: a SINK notice tells a phase-B participant to finish its drain (R286). -/
def execSink (p : Nat) (s : State) : Out' := s.command fun s => s.sinkNotice p

/-- TIMEOUT: a TIMEOUT notice tells a laggard the drain ended without it (R287). -/
def execTimeout (p : Nat) (s : State) : Out' := s.command fun s => s.timeoutNotice p

/-- DRAIN_TIMEOUT: the record drain timeout expires and the controller names laggards and enters CLOSED (R287). -/
def execDrainTimeout (s : State) : Out' := s.command fun s => s.drainTimeout

/-- DEFERRED_WORK_DONE: deferred work after CLOSED ends and the controller enters ARMED or IDLE (R24, R288). -/
def execDeferredWorkDone (s : State) : Out' := s.command fun s => s.recordLeave

/-- MAINT_LIMIT: MAINT_LIMIT is reached and unbegun deferred work moves to the next boundary (R24). -/
def execMaintLimit (s : State) : Out' := s.command fun s => s.maintLimit

/-- TAKE: TALLY.CTRL.TAKE enters a tally strobe event (R293). -/
def execTake (s : State) : Out' := s.command fun s => s.tallyTake

end Sys2Proof.Machine
end

