-- ==== Sys2Proof/Machine/Dispatch.lean ====
section
/-! DEFINITION. The dispatcher: one direct call of a meaning for each command. -/

namespace Sys2Proof.Machine

/-- A command's effect on everything but the queue. -/
def exec (i : Instr) (s : State) : Host.Outcome State Fault Refusal :=
  match i with
  | .porstRelease bootSrc cfgPull => Sys2Proof.Machine.execPorstRelease bootSrc cfgPull s
  | .por drains => Sys2Proof.Machine.execPor drains s
  | .sysReset who => Sys2Proof.Machine.execSysReset who s
  | .functionReset who block inst => Sys2Proof.Machine.execFunctionReset who block inst s
  | .dbgReset who => Sys2Proof.Machine.execDbgReset who s
  | .flr pf => Sys2Proof.Machine.execFlr pf s
  | .dmaEnable who => Sys2Proof.Machine.execDmaEnable who s
  | .registerWrite who off data => Sys2Proof.Machine.execRegisterWrite who off data s
  | .runFunc who f => Sys2Proof.Machine.execRun who f s
  | .stopFunc who f => Sys2Proof.Machine.execStop who f s
  | .heldWorkFinished f => Sys2Proof.Machine.execHeldWorkFinished f s
  | .stopTimeout f => Sys2Proof.Machine.execStopTimeout f s
  | .evtAck data => Sys2Proof.Machine.execEvtAck data s
  | .beadAccept b upset => Sys2Proof.Machine.execBeadAccept b upset s
  | .beadConsumed x => Sys2Proof.Machine.execBeadConsumed x s
  | .arbitrationGrant rod row a first upset => Sys2Proof.Machine.execArbitrationGrant rod row a first upset s
  | .reckonerOperation rod k upset => Sys2Proof.Machine.execReckonerOperation rod k upset s
  | .initialStateRelease wait => Sys2Proof.Machine.execInitialStateRelease wait s
  | .rateWindow m rate => Sys2Proof.Machine.execRateWindow m rate s
  | .vloopEnable who data heard => Sys2Proof.Machine.execVloopEnable who data heard s
  | .vloopInterval heard => Sys2Proof.Machine.execVloopInterval heard s
  | .contention seg rods => Sys2Proof.Machine.execContention seg rods s
  | .contentionScrubDone seg x => Sys2Proof.Machine.execContentionScrubDone seg x s
  | .pinOutputBead p upset => Sys2Proof.Machine.execPinOutputBead p upset s
  | .pinInputChange p level wait => Sys2Proof.Machine.execPinInputChange p level wait s
  | .ftoBead n upset => Sys2Proof.Machine.execFtoBead n upset s
  | .readRow rod m port upset x => Sys2Proof.Machine.execRead rod m port upset x s
  | .writeRow rod m port upset x => Sys2Proof.Machine.execWrite rod m port upset x s
  | .readWrite rod m port upset x => Sys2Proof.Machine.execReadWrite rod m port upset x s
  | .nopPort rod m port upset => Sys2Proof.Machine.execNop rod m port upset s
  | .rowScrub rod m x => Sys2Proof.Machine.execRowScrub rod m x s
  | .producerWord q upset x => Sys2Proof.Machine.execProducerWord q upset x s
  | .consumerWord q x => Sys2Proof.Machine.execConsumerWord q x s
  | .flushBead q upset => Sys2Proof.Machine.execFlushBead q upset s
  | .flush q => Sys2Proof.Machine.execFlush q s
  | .flushTakesEffect q => Sys2Proof.Machine.execFlushTakesEffect q s
  | .stale q => Sys2Proof.Machine.execStale q s
  | .loadCmd who => Sys2Proof.Machine.execLoad who s
  | .abortLoad who => Sys2Proof.Machine.execAbortLoad who s
  | .streamDone who => Sys2Proof.Machine.execStreamDone who s
  | .stream w => Sys2Proof.Machine.execStream w s
  | .streamWord x => Sys2Proof.Machine.execStreamWord x s
  | .far v => Sys2Proof.Machine.execFar v s
  | .burst data => Sys2Proof.Machine.execBurst data s
  | .skipWords data => Sys2Proof.Machine.execSkipWords data s
  | .endWord crc => Sys2Proof.Machine.execEnd crc s
  | .idchk v => Sys2Proof.Machine.execIdchk v s
  | .crc v => Sys2Proof.Machine.execCrc v s
  | .span v => Sys2Proof.Machine.execSpan v s
  | .spanTable ws => Sys2Proof.Machine.execSpanTable ws s
  | .pinIso ws => Sys2Proof.Machine.execPinIso ws s
  | .beamMap ws => Sys2Proof.Machine.execBeamMap ws s
  | .guardTbus ws => Sys2Proof.Machine.execGuardTbus ws s
  | .guardLane ws => Sys2Proof.Machine.execGuardLane ws s
  | .guardPins ws => Sys2Proof.Machine.execGuardPins ws s
  | .guardPower v => Sys2Proof.Machine.execGuardPower v s
  | .guardPolicy v => Sys2Proof.Machine.execGuardPolicy v s
  | .guardLock v => Sys2Proof.Machine.execGuardLock v s
  | .startWord crc => Sys2Proof.Machine.execStart crc s
  | .fabricReset who => Sys2Proof.Machine.execFabricReset who s
  | .frameScrub x => Sys2Proof.Machine.execFrameScrub x s
  | .spanLoad who n => Sys2Proof.Machine.execSpanLoad who n s
  | .isolate who n => Sys2Proof.Machine.execIsolate who n s
  | .release who n => Sys2Proof.Machine.execRelease who n s
  | .spanReset who n same => Sys2Proof.Machine.execReset who n same s
  | .isolationTick n => Sys2Proof.Machine.execIsolationTick n s
  | .spanDrainTimeout n => Sys2Proof.Machine.execSpanDrainTimeout n s
  | .spanSettled n wait => Sys2Proof.Machine.execSpanSettled n wait s
  | .spanReleaseTick n => Sys2Proof.Machine.execSpanReleaseTick n s
  | .spanRunning n wait => Sys2Proof.Machine.execSpanRunning n wait s
  | .icpCmd upset => Sys2Proof.Machine.execIcpCmd upset s
  | .icpD upset => Sys2Proof.Machine.execIcpD upset s
  | .readback who => Sys2Proof.Machine.execReadback who s
  | .rbData data => Sys2Proof.Machine.execRbData data s
  | .freeze who => Sys2Proof.Machine.execFreeze who s
  | .captureSettled wait => Sys2Proof.Machine.execCaptureSettled wait s
  | .thaw who => Sys2Proof.Machine.execThaw who s
  | .selfTestSliceDone phys x readings => Sys2Proof.Machine.execSelfTestSliceDone phys x readings s
  | .sliceOverrun phys low => Sys2Proof.Machine.execSliceOverrun phys low s
  | .wearFault phys => Sys2Proof.Machine.execWearFault phys s
  | .rovingStepDue g => Sys2Proof.Machine.execRovingStepDue g s
  | .preCopyDone x => Sys2Proof.Machine.execPreCopyDone x s
  | .verifyDone ok => Sys2Proof.Machine.execVerifyDone ok s
  | .rodSettled wait writeFails => Sys2Proof.Machine.execRodSettled wait writeFails s
  | .stepRelease wait => Sys2Proof.Machine.execStepRelease wait s
  | .spareTestDone x => Sys2Proof.Machine.execSpareTestDone x s
  | .step who g => Sys2Proof.Machine.execStep who g s
  | .migrate who rod => Sys2Proof.Machine.execMigrate who rod s
  | .retest who g => Sys2Proof.Machine.execRetest who g s
  | .linkTestSlice page port fault => Sys2Proof.Machine.execLinkTestSlice page port fault s
  | .hbmTestSlice pc fault => Sys2Proof.Machine.execHbmTestSlice pc fault s
  | .slicePreempt hbm unit => Sys2Proof.Machine.execSlicePreempt hbm unit s
  | .requestInject n r => Sys2Proof.Machine.execRequestInject n r s
  | .unitReceive page port flips => Sys2Proof.Machine.execUnitReceive page port flips s
  | .wireRemap page port wire => Sys2Proof.Machine.execWireRemap page port wire s
  | .rd p m => Sys2Proof.Machine.execRd p m s
  | .wr p m => Sys2Proof.Machine.execWr p m s
  | .wrp p m => Sys2Proof.Machine.execWrp p m s
  | .fadd p m => Sys2Proof.Machine.execFadd p m s
  | .cfg page p => Sys2Proof.Machine.execCfg page p s
  | .evt p => Sys2Proof.Machine.execEvt p s
  | .rspData p => Sys2Proof.Machine.execRspData p s
  | .rspOk p => Sys2Proof.Machine.execRspOk p s
  | .rspErr p => Sys2Proof.Machine.execRspErr p s
  | .transactionTimeout n tag => Sys2Proof.Machine.execTransactionTimeout n tag s
  | .quarantineExpire n tag => Sys2Proof.Machine.execQuarantineExpire n tag s
  | .targetTimeout n handle => Sys2Proof.Machine.execTargetTimeout n handle s
  | .rtEntryWrite who n hi => Sys2Proof.Machine.execRtEntryWrite who n hi s
  | .swapRoutes who n injecting => Sys2Proof.Machine.execSwap who n injecting s
  | .bankExchange who n => Sys2Proof.Machine.execBankExchange who n s
  | .copyRoutes n => Sys2Proof.Machine.execCopy n s
  | .regulatorRelease n vn wait => Sys2Proof.Machine.execRegulatorRelease n vn wait s
  | .uRelease n wait => Sys2Proof.Machine.execURelease n wait s
  | .ageingPromotion page port vn => Sys2Proof.Machine.execAgeingPromotion page port vn s
  | .hold who page => Sys2Proof.Machine.execHold who page s
  | .holdDrainDone page => Sys2Proof.Machine.execHoldDrainDone page s
  | .holdFail page => Sys2Proof.Machine.execHoldFail page s
  | .uGateOpen n dest => Sys2Proof.Machine.execUGateOpen n dest s
  | .stagedWrite who page r data => Sys2Proof.Machine.execStagedWrite who page r data s
  | .closeFence who n => Sys2Proof.Machine.execClose who n s
  | .openFence who n => Sys2Proof.Machine.execOpen who n s
  | .fenceClosed n => Sys2Proof.Machine.execFenceClosed n s
  | .drainLimit n => Sys2Proof.Machine.execDrainLimit n s
  | .fenceProxy p => Sys2Proof.Machine.execFenceProxy p s
  | .clearStats n => Sys2Proof.Machine.execClear n s
  | .resyncReq j => Sys2Proof.Machine.execResyncReq j s
  | .resyncDone j => Sys2Proof.Machine.execResyncDone j s
  | .crossTimeout j side aon => Sys2Proof.Machine.execCrossTimeout j side aon s
  | .syncEdge wait => Sys2Proof.Machine.execSyncEdge wait s
  | .arm who => Sys2Proof.Machine.execArm who s
  | .cmpFire n => Sys2Proof.Machine.execCmpFire n s
  | .timFire n => Sys2Proof.Machine.execTimFire n s
  | .swEvt data => Sys2Proof.Machine.execSwEvt data s
  | .startNow who => Sys2Proof.Machine.execStartNow who s
  | .closeNow who => Sys2Proof.Machine.execCloseNow who s
  | .drained p number => Sys2Proof.Machine.execDrained p number s
  | .sinkNotice p => Sys2Proof.Machine.execSink p s
  | .timeoutNotice p => Sys2Proof.Machine.execTimeout p s
  | .fwDrained n => Sys2Proof.Machine.execFwDrained n s
  | .receiverEvent n xs wait => Sys2Proof.Machine.execReceiverEvent n xs wait s
  | .telegramReceived n quiet gaps wait => Sys2Proof.Machine.execTelegramReceived n quiet gaps wait s
  | .send n => Sys2Proof.Machine.execSend n s
  | .telegramStart n => Sys2Proof.Machine.execTelegramStart n s
  | .collision n half => Sys2Proof.Machine.execCollision n half s
  | .resend n k => Sys2Proof.Machine.execResend n k s
  | .pulseEnd n => Sys2Proof.Machine.execPulseEnd n s
  | .cutoff n => Sys2Proof.Machine.execCutoff n s
  | .driveFault n wait => Sys2Proof.Machine.execDriveFault n wait s
  | .foreignStuck n => Sys2Proof.Machine.execForeignStuck n s
  | .streamStart l wait before ilasErr => Sys2Proof.Machine.execStreamStart l wait before ilasErr s
  | .chunkSend l words errors => Sys2Proof.Machine.execChunkSend l words errors s
  | .multiblockRelease l m arrival errors => Sys2Proof.Machine.execMultiblockRelease l m arrival errors s
  | .underrun l => Sys2Proof.Machine.execUnderrun l s
  | .laneLoss l => Sys2Proof.Machine.execLoss l s
  | .pllLost q => Sys2Proof.Machine.execPllLost q s
  | .eyeScan l => Sys2Proof.Machine.execEyeScan l s
  | .eyeScanDone l errors => Sys2Proof.Machine.execEyeScanDone l errors s
  | .hbmInitDone failed => Sys2Proof.Machine.execHbmInitDone failed s
  | .hbmTempRead t => Sys2Proof.Machine.execHbmTempRead t s
  | .patrolScrub p m => Sys2Proof.Machine.execPatrolScrub p m s
  | .ringEnable who r tagged freeze => Sys2Proof.Machine.execRingEnable who r tagged freeze s
  | .capture r => Sys2Proof.Machine.execCapture r s
  | .rearm r => Sys2Proof.Machine.execRearm r s
  | .ringCaptured r => Sys2Proof.Machine.execRingCaptured r s
  | .attachDrive who d => Sys2Proof.Machine.execAttach who d s
  | .attachDone d x => Sys2Proof.Machine.execAttachDone d x s
  | .detach who d => Sys2Proof.Machine.execDetach who d s
  | .formatStore who => Sys2Proof.Machine.execFormat who s
  | .mountStore who => Sys2Proof.Machine.execMount who s
  | .unmount who => Sys2Proof.Machine.execUnmount who s
  | .driveLinkUp d => Sys2Proof.Machine.execDriveLinkUp d s
  | .driveFail d cause sc sct linkDown => Sys2Proof.Machine.execDriveFail d cause sc sct linkDown s
  | .cmdTimeout d recovered => Sys2Proof.Machine.execCmdTimeout d recovered s
  | .chProd c offset record => Sys2Proof.Machine.execChProd c offset record s
  | .chCons c offset => Sys2Proof.Machine.execChCons c offset s
  | .stripeComplete c => Sys2Proof.Machine.execStripeComplete c s
  | .catalogueCommit c => Sys2Proof.Machine.execCatalogueCommit c s
  | .barRequest r => Sys2Proof.Machine.execBarRequest r s
  | .chTail who c data => Sys2Proof.Machine.execChTail who c data s
  | .descriptorFetch c ds => Sys2Proof.Machine.execDescriptorFetch c ds s
  | .descriptorComplete c => Sys2Proof.Machine.execDescriptorComplete c s
  | .holdoff c => Sys2Proof.Machine.execHoldoff c s
  | .firmwareLoad readError => Sys2Proof.Machine.execFirmwareLoad readError s
  | .apertureAccess n x bytes rd store => Sys2Proof.Machine.execApertureAccess n x bytes rd store s
  | .farWindowAccess n y bytes rd signed store => Sys2Proof.Machine.execFarWindowAccess n y bytes rd signed store s
  | .coreFence n memory => Sys2Proof.Machine.execFence n memory s
  | .icClaim n => Sys2Proof.Machine.execIcClaim n s
  | .doorbell mask => Sys2Proof.Machine.execDoorbell mask s
  | .seqEvt n => Sys2Proof.Machine.execSeqEvt n s
  | .kick who w data => Sys2Proof.Machine.execKick who w data s
  | .warn w => Sys2Proof.Machine.execWarn w s
  | .expired w => Sys2Proof.Machine.execExpired w s
  | .powerEstimate watts => Sys2Proof.Machine.execPowerEstimate watts s
  | .padWrite who p data => Sys2Proof.Machine.execPadWrite who p data s
  | .funcSwitchDone p => Sys2Proof.Machine.execFuncSwitchDone p s
  | .gpioSet j data => Sys2Proof.Machine.execGpioSet j data s
  | .gpioClr j data => Sys2Proof.Machine.execGpioClr j data s
  | .extlDetect n => Sys2Proof.Machine.execExtlDetect n s
  | .transfer who u data => Sys2Proof.Machine.execTransfer who u data s
  | .transaction who data => Sys2Proof.Machine.execTransaction who data s
  | .txdata x data => Sys2Proof.Machine.execTxdata x data s
  | .rxdata x => Sys2Proof.Machine.execRxdata x s
  | .ptCompare t => Sys2Proof.Machine.execPtCompare t s
  | .ptCapture t => Sys2Proof.Machine.execPtCapture t s
  | .active who => Sys2Proof.Machine.execActive who s
  | .fabricOff who => Sys2Proof.Machine.execFabricOff who s
  | .standby who => Sys2Proof.Machine.execStandby who s
  | .dormant who => Sys2Proof.Machine.execDormant who s
  | .regionCtrl who data => Sys2Proof.Machine.execRegionCtrl who data s
  | .quadCtrl who data => Sys2Proof.Machine.execQuadCtrl who data s
  | .regionOff wait => Sys2Proof.Machine.execRegionOff wait s
  | .fpdRestoreDone wait results same => Sys2Proof.Machine.execFpdRestoreDone wait results same s
  | .wake cause => Sys2Proof.Machine.execWake cause s
  | .brownoutRecovery wait results same => Sys2Proof.Machine.execBrownoutRecovery wait results same s
  | .supplySample fab sys => Sys2Proof.Machine.execSupplySample fab sys s
  | .supplyFault row bank => Sys2Proof.Machine.execSupplyFault row bank s
  | .tempRead t sensor => Sys2Proof.Machine.execTempRead t sensor s
  | .irUpdate code => Sys2Proof.Machine.execIrUpdate code s
  | .dbgAccess update => Sys2Proof.Machine.execDbgAccess update s
  | .goldProg cmd => Sys2Proof.Machine.execGoldProg cmd s
  | .lockDebug who => Sys2Proof.Machine.execLock who s
  | .unlock who => Sys2Proof.Machine.execUnlock who s
  | .haltCore n by' => Sys2Proof.Machine.execHalt n by' s
  | .resumeCore who n => Sys2Proof.Machine.execResume who n s
  | .singleStep who n x => Sys2Proof.Machine.execSingleStep who n x s
  | .coreRegData who n data => Sys2Proof.Machine.execCoreRegData who n data s
  | .coreMemData who n data => Sys2Proof.Machine.execCoreMemData who n data s
  | .memData who data => Sys2Proof.Machine.execMemData who data s
  | .comparatorMatch n j => Sys2Proof.Machine.execComparatorMatch n j s
  | .crossTriggerFire j => Sys2Proof.Machine.execCrossTriggerFire j s
  | .xtFire who data => Sys2Proof.Machine.execXtFire who data s
  | .xtClear who data => Sys2Proof.Machine.execXtClear who data s
  | .stim p data => Sys2Proof.Machine.execStim p data s
  | .ledgerCommit ok => Sys2Proof.Machine.execLedgerCommit ok s
  | .ledgerScanDone torn => Sys2Proof.Machine.execLedgerScanDone torn s
  | .rdSeq data => Sys2Proof.Machine.execRdSeq data s
  | .rdData w => Sys2Proof.Machine.execRdData w s
  | .telegramSent n => Sys2Proof.Machine.execTelegramSent n s
  | .txStreamStart l => Sys2Proof.Machine.execTxStreamStart l s
  | .hostLinkUp speed width => Sys2Proof.Machine.execHostLinkUp speed width s
  | .configurationRequest tag x => Sys2Proof.Machine.execConfigurationRequest tag x s
  | .hostCompletion tag x => Sys2Proof.Machine.execHostCompletion tag x s
  | .completionTimeout tag => Sys2Proof.Machine.execCompletionTimeout tag s
  | .driveMemoryRequest d write a len data => Sys2Proof.Machine.execDriveMemoryRequest d write a len data s
  | .mtimecmpReached n => Sys2Proof.Machine.execMtimecmpReached n s
  | .coreLocalAccess n a x found => Sys2Proof.Machine.execCoreLocalAccess n a x found s
  | .quadPllLock q => Sys2Proof.Machine.execQuadPllLock q s
  | .supplyInRange row bank level => Sys2Proof.Machine.execSupplyInRange row bank level s
  | .rxByte u bits => Sys2Proof.Machine.execRxByte u bits s
  | .addressed u addr x => Sys2Proof.Machine.execAddressed u addr x s
  | .peripheralDone x => Sys2Proof.Machine.execPeripheralDone x s
  | .perst => Sys2Proof.Machine.execPerst s
  | .linkDown => Sys2Proof.Machine.execLinkDown s
  | .d3hot => Sys2Proof.Machine.execD3hot s
  | .scrubOn => Sys2Proof.Machine.execScrubOn s
  | .scrubOff => Sys2Proof.Machine.execScrubOff s
  | .sourceTimeout => Sys2Proof.Machine.execSourceTimeout s
  | .hostDeadline => Sys2Proof.Machine.execHostDeadline s
  | .readbackDone => Sys2Proof.Machine.execReadbackDone s
  | .thawTick => Sys2Proof.Machine.execThawTick s
  | .pauseLimit => Sys2Proof.Machine.execPauseLimit s
  | .beamEventAct => Sys2Proof.Machine.execBeamEventAct s
  | .refLost => Sys2Proof.Machine.execRefLost s
  | .refReturn => Sys2Proof.Machine.execRefReturn s
  | .dllLost => Sys2Proof.Machine.execDllLost s
  | .dllRelock => Sys2Proof.Machine.execDllRelock s
  | .automaticClose => Sys2Proof.Machine.execAutomaticClose s
  | .drainTimeout => Sys2Proof.Machine.execDrainTimeout s
  | .deferredWorkDone => Sys2Proof.Machine.execDeferredWorkDone s
  | .maintLimit => Sys2Proof.Machine.execMaintLimit s
  | .takeTally => Sys2Proof.Machine.execTake s
  | .brownout => Sys2Proof.Machine.execBrownout s
  | .eraseDone => Sys2Proof.Machine.execEraseDone s
  | .stimStallExpire => Sys2Proof.Machine.execStimStallExpire s
  | .timeBaseLock => Sys2Proof.Machine.execTimeBaseLock s
  | .storeCommandDone => Sys2Proof.Machine.execStoreCommandDone s
  | .capTimeReached => Sys2Proof.Machine.execCapTimeReached s
  | .alertSeen => Sys2Proof.Machine.execAlertSeen s
  | .testLogicReset => Sys2Proof.Machine.execTestLogicReset s

end Sys2Proof.Machine
end

