-- ==== Sys2Proof/WellFormed.lean ====
section
/-! DEFINITION. Well-formed commands: operands that name units lie in the range the spec numbers them by, and packets carry
the bytes their headers claim. A command that is not well-formed names nothing that exists; its meaning leaves the state as
it is, or acts as its meaning says (assumption 3). -/

namespace Sys2Proof

/-- A number below a bound. -/
def below (bound n : Nat) : Bool := decide (n < bound)
/-- A PCI Express function: PF0 or PF1 (R357). -/
def functionNumber (n : Nat) : Bool := below 2 n
/-- A logical rod (R11). -/
def rodNumber (n : Nat) : Bool := below 256 n
/-- A queue controller (R18). -/
def queueNumber (n : Nat) : Bool := below 2048 n
/-- A span (R157). -/
def spanNumber (n : Nat) : Bool := below 16 n
/-- A pin (R388). -/
def pinNumber (n : Nat) : Bool := below 208 n
/-- An NI (R13): 0x92, 0x93 and those above 0x9C are reserved. -/
def niNumber (n : Nat) : Bool := below 0x9D n && n != 0x92 && n != 0x93
/-- A crossing station by its index in DEV.XS_STATE (R258). -/
def stationNumber (n : Nat) : Bool := niNumber n || n == 0xA0 || n == 0xA1
/-- A port of a carry node, and its page (R197, R238). -/
def pageForm (page port : Nat) : Bool := below 256 page && below 15 port
/-- A trigger line (R295). -/
def lineNumber (n : Nat) : Bool := below 19 n
/-- A lane quad (R307). -/
def quadNumber (n : Nat) : Bool := below 32 n
/-- A lane. -/
def laneNumber (n : Nat) : Bool := below 128 n
/-- A drive (R344). -/
def driveNumber (n : Nat) : Bool := below 8 n
/-- A host DMA channel (R364). -/
def dmaNumber (n : Nat) : Bool := below 32 n
/-- A sequencer core (R373). -/
def coreNumber (n : Nat) : Bool := below 4 n
/-- A participant of a record close (R286). -/
def participant (n : Nat) : Bool := below 43 n
/-- A tag (R205). -/
def tagForm (n : Nat) : Bool := below 4096 n
/-- A CSR offset: a dword in the CSR space (R18). -/
def csrOffsetForm (off : Nat) : Bool := below 0x10000000 off && off % 4 == 0

/-- A port access of a block memory (R91, R95). -/
def portForm (rod m port : Nat) : Bool := rodNumber rod && below 32 m && below 2 port

/-- A function of the common stop protocol names one that the family has. -/
def funcForm : Func → Bool
  | .queue q => queueNumber q
  | .ni n => niNumber n
  | .quad q => quadNumber q
  | .dma c => dmaNumber c
  | .channel c => below 8 c
  | .core n => coreNumber n
  | .record | .beam => true

/-- A request's range lies in one 4 KiB block (R206). -/
def rangeForm (addr len : Nat) : Bool := below (2 ^ 48) addr && below 4096 len && addr / 4096 == (addr + len) / 4096

/-- A packet's fields fit its header, and it carries the bytes its range asks for (R205, R206). -/
def packetForm (p : Packet) : Bool :=
  niNumber p.src && niNumber p.dest && tagForm p.tag && below 4 p.vn && below 4 p.prio && below 256 p.err &&
  rangeForm p.addr p.len &&
  (match p.cmd with
   | .wr | .wrp | .rspData => p.data.length == p.len + 1
   | _ => true)

/-- A request that a unit injects (R206). -/
def requestForm (r : Request) : Bool := rangeForm r.addr r.len && tagForm r.tag

/-- A cell of a rod (R40). -/
def cellForm (c : CellId) : Bool := rodNumber c.rod && below 96 c.row && below 128 c.cell

/-- A fabric NI (R13). -/
def fabricNi (n : Nat) : Bool := below 96 n

/-- An input channel of the fabric names one that the family has. -/
def sinkForm : BeadSink → Bool
  | .cell c => cellForm c
  | .request rod row arb r => rodNumber rod && below 96 row && below 4 arb && below 2 r
  | .memReq rod mem port | .memData rod mem port => portForm rod mem port
  | .reckoner rod k port => rodNumber rod && below 24 k && below 5 port
  | .queueData q | .queueControl q | .queueFlush q => queueNumber q
  | .pin p => below 192 p
  | .fto n => below 16 n
  | .niChannel ni chan => fabricNi ni && below 2 chan
  | .icpCommand | .icpData => true

/-- An output of the fabric names one that the family has. -/
def sourceForm : BeadSource → Bool
  | .cell c => cellForm c
  | .arbiter rod row arb => rodNumber rod && below 96 row && below 4 arb
  | .reckonerP rod k | .reckonerST rod k | .reckonerCasc rod k => rodNumber rod && below 24 k
  | .fti n => below 16 n
  | .pin p => below 192 p
  | .memRd rod mem port | .memRs rod mem port => portForm rod mem port
  | .queueData q | .queueControl q | .queueEvent q | .queueLevel q => queueNumber q
  | .niChannel ni chan => fabricNi ni && below 4 chan
  | .icpResult | .eventChannel => true

/-- A host request of at least one byte and at most 4 KiB, with its data (R357). -/
def barForm (r : BarRequest) : Bool :=
  below 1024 r.tag && below 4096 r.len &&
  (match r.kind with
   | .write data be => data.length == r.len + 1 && be.length == r.len + 1
   | _ => true)

/-- A command is well-formed. -/
def wellFormed : Instr → Bool
  | .porstRelease _ _ => true
  | .por _ => true
  | .sysReset _ => true
  | .functionReset _ block inst => below 32 block && below 2048 inst
  | .dbgReset _ => true
  | .flr pf => functionNumber pf
  | .dmaEnable _ => true
  | .registerWrite _ off _ => csrOffsetForm off
  | .runFunc _ f => funcForm f
  | .stopFunc _ f => funcForm f
  | .heldWorkFinished f => funcForm f
  | .stopTimeout f => funcForm f
  | .evtAck _ => true
  | .beadAccept b _ => sinkForm b
  | .beadConsumed x => sourceForm x
  | .arbitrationGrant rod row a _ _ => rodNumber rod && below 96 row && below 4 a
  | .reckonerOperation rod k _ => rodNumber rod && below 24 k
  | .initialStateRelease _ => true
  | .rateWindow _ _ => true
  | .vloopEnable _ _ _ => true
  | .vloopInterval _ => true
  | .contention _ _ => true
  | .contentionScrubDone _ _ => true
  | .pinOutputBead p _ => below 192 p
  | .pinInputChange p _ _ => pinNumber p
  | .ftoBead n _ => below 16 n
  | .readRow rod m port _ _ => portForm rod m port
  | .writeRow rod m port _ _ => portForm rod m port
  | .readWrite rod m port _ _ => portForm rod m port
  | .nopPort rod m port _ => portForm rod m port
  | .rowScrub rod m _ => rodNumber rod && below 32 m
  | .producerWord q _ _ => queueNumber q
  | .consumerWord q _ => queueNumber q
  | .flushBead q _ => queueNumber q
  | .flush q => queueNumber q
  | .flushTakesEffect q => queueNumber q
  | .stale q => queueNumber q
  | .loadCmd _ => true
  | .abortLoad _ => true
  | .streamDone _ => true
  | .stream _ => true
  | .streamWord _ => true
  | .far _ => true
  | .burst _ => true
  | .skipWords _ => true
  | .endWord _ => true
  | .idchk _ => true
  | .crc _ => true
  | .span _ => true
  | .spanTable _ => true
  | .pinIso _ => true
  | .beamMap _ => true
  | .guardTbus _ => true
  | .guardLane _ => true
  | .guardPins _ => true
  | .guardPower _ => true
  | .guardPolicy _ => true
  | .guardLock _ => true
  | .startWord _ => true
  | .fabricReset _ => true
  | .frameScrub _ => true
  | .spanLoad _ n => spanNumber n
  | .isolate _ n => spanNumber n
  | .release _ n => spanNumber n
  | .spanReset _ n _ => spanNumber n
  | .isolationTick n => spanNumber n
  | .spanDrainTimeout n => spanNumber n
  | .spanSettled n _ => spanNumber n
  | .spanReleaseTick n => spanNumber n
  | .spanRunning n _ => spanNumber n
  | .icpCmd _ => true
  | .icpD _ => true
  | .readback _ => true
  | .rbData _ => true
  | .freeze _ => true
  | .captureSettled _ => true
  | .thaw _ => true
  | .selfTestSliceDone _ _ _ => true
  | .sliceOverrun _ _ => true
  | .wearFault _ => true
  | .rovingStepDue g => below 16 g
  | .preCopyDone _ => true
  | .verifyDone _ => true
  | .rodSettled _ _ => true
  | .stepRelease _ => true
  | .spareTestDone _ => true
  | .step _ g => below 16 g
  | .migrate _ _ => true
  | .retest _ g => below 16 g
  | .linkTestSlice page port _ => pageForm page port
  | .hbmTestSlice pc _ => below 16 pc
  | .slicePreempt _ _ => true
  | .requestInject n r => niNumber n && requestForm r
  | .unitReceive page port _ => pageForm page port
  | .wireRemap page port _ => pageForm page port
  | .rd p _ => packetForm p
  | .wr p _ => packetForm p
  | .wrp p _ => packetForm p
  | .fadd p _ => packetForm p
  | .cfg page p => below 256 page && p.len == 3
  | .evt p => below 4 p.vn
  | .rspData p => packetForm p
  | .rspOk p => packetForm p
  | .rspErr p => packetForm p
  | .transactionTimeout n tag => niNumber n && tagForm tag
  | .quarantineExpire n tag => niNumber n && tagForm tag
  | .targetTimeout n handle => niNumber n && below 256 handle
  | .rtEntryWrite _ n _ => niNumber n
  | .swapRoutes _ n _ => niNumber n
  | .bankExchange _ n => niNumber n
  | .copyRoutes n => niNumber n
  | .regulatorRelease n vn _ => niNumber n && below 4 vn
  | .uRelease n _ => niNumber n
  | .ageingPromotion page port vn => pageForm page port && below 4 vn
  | .hold _ page => below 256 page
  | .holdDrainDone page => below 256 page
  | .holdFail page => below 256 page
  | .uGateOpen n dest => niNumber n && niNumber dest
  | .stagedWrite _ page _ _ => below 256 page
  | .closeFence _ n => niNumber n
  | .openFence _ n => niNumber n
  | .fenceClosed n => niNumber n
  | .drainLimit n => niNumber n
  | .fenceProxy p => below 4 p.vn
  | .clearStats n => niNumber n
  | .resyncReq i => stationNumber i
  | .resyncDone i => stationNumber i
  | .crossTimeout i side _ => stationNumber i && below 4 side
  | .syncEdge _ => true
  | .arm _ => true
  | .cmpFire n => below 8 n
  | .timFire n => below 8 n
  | .swEvt _ => true
  | .startNow _ => true
  | .closeNow _ => true
  | .drained p _ => participant p
  | .sinkNotice p => participant p
  | .timeoutNotice p => participant p
  | .fwDrained n => coreNumber n
  | .receiverEvent n _ _ => lineNumber n
  | .telegramReceived n _ _ _ => lineNumber n
  | .send n => lineNumber n
  | .telegramStart n => lineNumber n
  | .collision n _ => lineNumber n
  | .resend n _ => lineNumber n
  | .pulseEnd n => lineNumber n
  | .cutoff n => lineNumber n
  | .driveFault n _ => lineNumber n
  | .foreignStuck n => lineNumber n
  | .streamStart l _ _ _ => laneNumber l
  | .chunkSend l _ _ => laneNumber l
  | .multiblockRelease l _ _ _ => laneNumber l
  | .underrun l => laneNumber l
  | .laneLoss l => laneNumber l
  | .pllLost q => quadNumber q
  | .eyeScan l => laneNumber l
  | .eyeScanDone l _ => laneNumber l
  | .hbmInitDone _ => true
  | .hbmTempRead _ => true
  | .patrolScrub p _ => below 16 p
  | .ringEnable _ r _ _ => below 16 r
  | .capture r => below 16 r
  | .rearm r => below 16 r
  | .ringCaptured r => below 16 r
  | .attachDrive _ d => driveNumber d
  | .attachDone d _ => driveNumber d
  | .detach _ d => driveNumber d
  | .formatStore _ => true
  | .mountStore _ => true
  | .unmount _ => true
  | .driveLinkUp d => driveNumber d
  | .driveFail d _ _ _ _ => driveNumber d
  | .cmdTimeout d _ => driveNumber d
  | .chProd c _ _ => below 8 c
  | .chCons c _ => below 8 c
  | .stripeComplete c => below 8 c
  | .catalogueCommit c => below 8 c
  | .barRequest r => barForm r
  | .chTail _ c _ => dmaNumber c
  | .descriptorFetch c _ => dmaNumber c
  | .descriptorComplete c => dmaNumber c
  | .holdoff c => dmaNumber c
  | .firmwareLoad _ => true
  | .apertureAccess n _ _ rd _ => coreNumber n && below 32 rd
  | .farWindowAccess n _ _ rd _ _ => coreNumber n && below 32 rd
  | .coreFence n _ => coreNumber n
  | .icClaim n => coreNumber n
  | .doorbell _ => true
  | .seqEvt n => coreNumber n
  | .kick _ w _ => below 5 w
  | .warn w => below 5 w
  | .expired w => below 5 w
  | .powerEstimate _ => true
  | .padWrite _ p _ => pinNumber p
  | .funcSwitchDone p => pinNumber p
  | .gpioSet i _ => below 13 i
  | .gpioClr i _ => below 13 i
  | .extlDetect n => below 16 n
  | .transfer _ u _ => below 4 u
  | .transaction _ _ => true
  | .txdata _ _ => true
  | .rxdata _ => true
  | .ptCompare t => below 8 t
  | .ptCapture t => below 8 t
  | .active _ => true
  | .fabricOff _ => true
  | .standby _ => true
  | .dormant _ => true
  | .regionCtrl _ _ => true
  | .quadCtrl _ _ => true
  | .regionOff _ => true
  | .fpdRestoreDone _ _ _ => true
  | .wake cause => below 32 cause
  | .brownoutRecovery _ _ _ => true
  | .supplySample _ _ => true
  | .supplyFault row _ => below 16 row
  | .tempRead _ _ => true
  | .irUpdate _ => true
  | .dbgAccess _ => true
  | .goldProg _ => true
  | .lockDebug _ => true
  | .unlock _ => true
  | .haltCore n _ => coreNumber n
  | .resumeCore _ n => coreNumber n
  | .singleStep _ n _ => coreNumber n
  | .coreRegData _ n _ => coreNumber n
  | .coreMemData _ n _ => coreNumber n
  | .memData _ _ => true
  | .comparatorMatch n _ => coreNumber n
  | .crossTriggerFire i => below 8 i
  | .xtFire _ _ => true
  | .xtClear _ _ => true
  | .stim p _ => below 32 p
  | .ledgerCommit _ => true
  | .ledgerScanDone _ => true
  | .rdSeq _ => true
  | .rdData w => below 8 w
  | .telegramSent n => lineNumber n
  | .txStreamStart l => laneNumber l
  | .hostLinkUp _ _ => true
  | .configurationRequest _ _ => true
  | .hostCompletion tag _ => below 768 tag
  | .completionTimeout tag => below 768 tag
  | .driveMemoryRequest d write _ len data => driveNumber d && (!write || data.length == len + 1)
  | .mtimecmpReached n => coreNumber n
  | .coreLocalAccess n _ _ _ => coreNumber n
  | .quadPllLock q => quadNumber q
  | .supplyInRange row _ _ => below 16 row
  | .rxByte u _ => below 4 u
  | .addressed u addr _ => below 4 u && below 128 addr
  | .peripheralDone _ => true
  | .perst => true
  | .linkDown => true
  | .d3hot => true
  | .scrubOn => true
  | .scrubOff => true
  | .sourceTimeout => true
  | .hostDeadline => true
  | .readbackDone => true
  | .thawTick => true
  | .pauseLimit => true
  | .beamEventAct => true
  | .refLost => true
  | .refReturn => true
  | .dllLost => true
  | .dllRelock => true
  | .automaticClose => true
  | .drainTimeout => true
  | .deferredWorkDone => true
  | .maintLimit => true
  | .takeTally => true
  | .brownout => true
  | .eraseDone => true
  | .stimStallExpire => true
  | .timeBaseLock => true
  | .storeCommandDone => true
  | .capTimeReached => true
  | .alertSeen => true
  | .testLogicReset => true

/-- A well-formed command, as a proposition. -/
abbrev WellFormed (i : Instr) : Prop := wellFormed i = true

end Sys2Proof
end

