-- ==== Sys2Proof/Safety.lean ====
section
/-! DEFINITION. The terms in which claims speak: a step that goes on, a part in which nothing waits, the canonical form of
what the machine stores, and what a command leaves alone. -/

namespace Sys2Proof.Machine

/-- A step goes on. -/
def goesOn (o : Host.Outcome State Fault Refusal) : Prop := ∃ t, o = .next t

/-- A state is safe to step from: the step answers a next state. -/
def Safe (s : State) : Prop := goesOn (step s)

/-- PORST_N is high, and nothing waits for an answer, a reset or an engine: a command brings its own effect and event
delivery, and no more. -/
def State.ready (s : State) : Bool := !s.dev.porst && s.calm

/-- An NI holds nothing that waits for room, a tag or a clock. -/
def NiState.still (v : NiState) : Bool :=
  v.arrived.isEmpty && v.markers.isEmpty && v.csf.up.isEmpty && v.edge.iq.isEmpty && v.edge.tr.isEmpty && v.edge.tq.isEmpty &&
  v.ir.isEmpty && v.uq.isEmpty && v.ev.isEmpty

/-- A ready state in which nothing is held up either: no NI holds anything that waits, no FABRIC_RESET and no repair work is
put off. Whatever a command changes lets nothing else go on. -/
def State.still (s : State) : Bool :=
  s.ready && s.net.nis.all (fun x => x.2.still) && s.fabric.spent.isEmpty && !s.cfg.fabricResetWaiting &&
  s.repair.deferred.isEmpty

/-- No edge station holds a word: those of the fabric NIs, ICP_R and the event channel (R264). -/
def State.edgesEmpty (s : State) : Bool :=
  s.fabric.spent.isEmpty && s.net.nis.all (fun x => x.2.edge == niInit.edge) && s.cfg.icpResults.isEmpty &&
  s.dev.evtBeads.isEmpty

-- ------------------------------------------------------------------ the canonical form

/-- A byte memory is in canonical form: addresses strictly rising, and no entry equal to what an unlisted one reads as. -/
def Memory.wf (m : List Host.Cell) : Bool := Sparse.wf (fun _ => 0) m

/-- The register file and the addressed memories are in canonical form. -/
def State.wf (s : State) : Bool :=
  Sparse.wf (resetOfKey s.part) s.regs && Memory.wf s.hbm.bytes && Memory.wf s.cfg.store &&
  Sparse.wf (fun _ => 0) s.cfg.frames && Sparse.wf (fun _ => 0) s.seq.sram && Sparse.wf (fun _ => 0) s.seq.tcm

-- ------------------------------------------------------------------ what a command leaves alone

/-- The parts of State beside its registers. -/
inductive Area where
  | clock | fresh | latches | dev | ledger | fabric | mem | cfg | repair | net | beam | record | tally | tbus | lanes | hbm
  | store | msix | host | seq | dbg | pins | periph | power | out
  deriving DecidableEq, Repr

/-- An item sent outward is a message to the host. -/
def Out.isMessage : Out → Bool
  | .message _ _ _ => true
  | _ => false

/-- A part of State is the same in two states. Left aside is what the delivery of events at the end of a command is about
(R35, R380, R382): the groups delivered, their messages and pending-bit array, and the watchdogs' pauses. -/
def sameArea (s t : State) : Area → Prop
  | .clock => t.time = s.time ∧ t.timeOffset = s.timeOffset ∧ t.syncArmer = s.syncArmer ∧ t.syncRef = s.syncRef
  | .fresh => t.fresh = s.fresh
  | .latches => t.latches = s.latches
  | .dev => t.dev.porst = s.dev.porst ∧ t.dev.bootSrc = s.dev.bootSrc ∧ t.dev.cfgPull = s.dev.cfgPull ∧
      t.dev.sysWarning = s.dev.sysWarning ∧ t.dev.due = s.dev.due ∧ t.dev.stopping = s.dev.stopping ∧
      t.dev.acting = s.dev.acting ∧ t.dev.controls = s.dev.controls
  | .ledger => t.ledger = s.ledger
  | .fabric => t.fabric = s.fabric
  | .mem => t.mem = s.mem
  | .cfg => t.cfg = s.cfg
  | .repair => t.repair = s.repair
  | .net => t.net = s.net
  | .beam => t.beam = s.beam
  | .record => t.record = s.record
  | .tally => t.tally = s.tally
  | .tbus => t.tbus = s.tbus
  | .lanes => t.lanes = s.lanes
  | .hbm => t.hbm = s.hbm
  | .store => t.store = s.store
  | .msix => t.msix.enable = s.msix.enable ∧ t.msix.functionMask = s.msix.functionMask ∧ t.msix.table = s.msix.table
  | .host => t.host = s.host
  | .seq => t.seq.cores = s.seq.cores ∧ t.seq.tcm = s.seq.tcm ∧ t.seq.sram = s.seq.sram ∧
      t.seq.throttleTold = s.seq.throttleTold
  | .dbg => t.dbg = s.dbg
  | .pins => t.pins = s.pins
  | .periph => t.periph = s.periph
  | .power => t.power = s.power
  | .out => ∃ l, t.out = s.out ++ l ∧ l.all Out.isMessage = true

/-- The registers event delivery may change: the pending inputs of the cores' interrupt controllers (R380). -/
def isPend (r : Reg) : Bool := r == .SEQ_IC_PEND_LO || r == .SEQ_IC_PEND_HI

/-- A register's word with some of its fields replaced, and its other bits as they were. -/
def changed (w : Word) (l : List (Fld × Nat)) : Word := l.foldl (fun w x => withField w x.1.lo x.1.width x.2) w

/-- A counter field's value n further, saturating at its largest value. -/
def State.counted (s : State) (F : Fld) (i n : Nat) : Nat := min (2 ^ F.width - 1) (s.f F i + n)

/-- Registers by name and instance. -/
abbrev Regs := List (Reg × Nat)

/-- From s to t nothing changed but the registers and the parts of State listed, and what event delivery is about. -/
structure Kept (s t : State) (regs : Regs) (areas : List Area) : Prop where
  part : t.part = s.part
  pending : t.pending = s.pending
  regs : ∀ r i, isPend r = false → (r, i) ∉ regs → t.word r i = s.word r i
  areas : ∀ a, a ∉ areas → sameArea s t a

/-- From s to t one ledger entry was made, with an origin, a kind, AUX and a body (R438, R439), where the buffer had
room. -/
def Entered (s t : State) (origin : BitVec 8) (kind aux : Nat) (b : Body) : Prop :=
  s.ledger.buffer.length < 4096 →
    ∃ seq time, t.ledger.buffer = s.ledger.buffer ++
      [⟨seq, origin, BitVec.ofNat 8 kind, BitVec.ofNat 16 aux, time, BitVec.ofNat 32 b.object, BitVec.ofNat 32 b.old,
        BitVec.ofNat 32 b.new, BitVec.ofNat 32 b.extra⟩]

/-- The newest entry of the ledger's buffer has an origin, a kind, AUX and a body. -/
def State.newest (t : State) (origin : BitVec 8) (kind aux : Nat) (b : Body) : Bool :=
  t.ledger.buffer.getLast?.any fun e =>
    e == ⟨e.seq, origin, BitVec.ofNat 8 kind, BitVec.ofNat 16 aux, e.time, BitVec.ofNat 32 b.object, BitVec.ofNat 32 b.old,
      BitVec.ofNat 32 b.new, BitVec.ofNat 32 b.extra⟩

/-- From s to t a request was refused: the unit's CMD_REFUSED bit F is set, a REFUSAL entry names the register and the value
attempted (R441), and nothing else changed. -/
def Refused (s t : State) (F : Fld) (j : Nat) (who : Who) (why : Reason) (r : Reg) (i attempted : Nat) : Prop :=
  t.word F.reg j = changed (s.word F.reg j) [(F, 1)] ∧
  Entered s t who.origin 2 (256 * why.code + who.ni.toNat) ⟨csrOffset r i, (s.word r i).toNat, attempted, 0⟩ ∧
  Kept s t [(F.reg, j)] [.ledger]

/-- The registers that p picks are at their Reset values. -/
def AtReset (t : State) (p : Reg → Nat → Bool) : Prop := ∀ r i, p r i = true → t.word r i = resetWord t.part r i

/-- Registers of domain SYS that the start of the part, or the boot header, sets anew after a reset (R128, R147, R333,
R358). -/
def bootSets : List Reg :=
  [.DEV_STATUS, .CFG_STATUS, .CFG_SRC_TIMEOUT, .REPAIR_STATUS, .REPAIR_ROD_STATUS, .REPAIR_GROUP_STATUS, .REPAIR_RETIRED,
    .PWR_REGION_STATUS, .PWR_QUAD_STATUS, .HOST_LINK_STATUS, .HBM_STATUS]

/-- From s to t a SYS_RESET came for a cause (R30, R31): its bit is set and it is counted, the registers of domain SYS are
at their Reset values, and nothing is under way in the network, the loader, host DMA or the Beam's own starts; the part,
its configuration store and the retirement list stay. -/
structure SysReset (s t : State) (cause : Nat) : Prop where
  part : t.part = s.part
  pending : t.pending = s.pending
  cause : t.word .DEV_RESET_CAUSE 0 = changed (s.word .DEV_RESET_CAUSE 0 ||| BitVec.ofNat 32 (2 ^ cause))
    [(F.DEV_RESET_CAUSE_SYS_COUNT, s.counted F.DEV_RESET_CAUSE_SYS_COUNT 0 1)]
  regs : AtReset t fun r i => (regSpec r).domain == .SYS && sysResets r i && !bootSets.contains r && !isPend r
  net : t.net.nis = [] ∧ t.net.routers = []
  load : t.cfg.load = none
  dma : t.host.dma = []
  store : t.cfg.store = s.cfg.store
  retired : t.repair.retired = s.repair.retired

/-- No host DMA channel runs. -/
def State.dmaIdleAll (s : State) : Bool := (List.range 32).all fun c => s.f F.HOST_CH_STATUS_STATE c == 0

/-- Every row of every block memory but one is as before. -/
def OtherRows (s t : State) (rod m row : Nat) : Prop :=
  ∀ rod' m' row', m' < 32 → row' < 512 → ¬ (rod' = rod ∧ m' = m ∧ row' = row) → t.row rod' m' row' = s.row rod' m' row'

/-- Where word a of a port stands in its memory: row, first column and width (R91, R92). -/
def State.placed (s : State) (rod m port a : Nat) : Nat × Nat × Nat := wordPlace (s.portCode rod m port) a

/-- The word a port reads at address a. -/
def State.portWord (s : State) (rod m port a : Nat) : Nat :=
  s.row rod m (s.placed rod m port a).1 / 2 ^ (s.placed rod m port a).2.1 % 2 ^ (s.placed rod m port a).2.2

/-- A rod whose beads move: neither gated nor frozen. -/
def State.moves (s : State) (rod : Nat) : Bool := !s.gated rod && !s.frozen rod

/-- A complete bead stands at a sink that can take it, and carries no invalid code (R42, R43, R48). -/
def State.meets (s : State) (b : BeadSink × Upset) (x : Bead) : Bool :=
  s.sinkReady b.1 && s.beadAt b.1 b.2 == some x && x.faults.isEmpty

/-- The word at a queue's RD_PTR, as CD and CC drive it where its row reads clean (R106, R107). -/
def State.wordAtRd (s : State) (q : Nat) : CdWord :=
  let (_, m, row, width, place) := s.queuePlace q (s.queue q).rd
  ⟨BitVec.ofNat 72 (wordOfRow (s.row (queueRod q) m row) width place), (s.queue q).lasts.headD true, false⟩

/-- A sink has taken a bead: its ACK is high for the outputs the bead came from, and its arrival latch is VACANT (R46, R50). -/
def State.took (t : State) (b : BeadSink) (x : Bead) : Prop :=
  t.latched b = none ∧ ∀ y, y ∈ x.outs → t.acked b y = true

/-- The 27-bit operand a bead brings to a reckoner's port, sign-extended to 64 bits (R55, R56). -/
def Bead.operand (x : Bead) : DWord := ((BitVec.ofNat 28 x.num).setWidth 27).signExtend 64

/-- Every output of some is driven, and its bead acknowledged by all its consumers (R46). -/
def State.allTaken (s : State) (xs : List BeadSource) : Bool := xs.all fun x => (s.driven x).isSome && s.joined x

/-- The counts of beads that SINK boundaries take (R161). -/
def sinkRegs : Regs := (List.range 64).map (.CFG_SPAN_SINK, ·)

/-- The effect of a flush that acts now on a queue that drives no word: what it discards is counted by packets and by words. -/
def Flushed (s t : State) (q : Nat) (areas : List Area) : Prop :=
  (t.queue q).rd = (s.queue q).cm ∧ (t.queue q).cm = (s.queue q).cm ∧ (t.queue q).ceFlushed = true ∧
  (t.queue q).flushPending = false ∧
  t.f F.QUEUE_FLUSH_CNT_FLUSHES q = s.counted F.QUEUE_FLUSH_CNT_FLUSHES q 1 ∧
  t.f F.QUEUE_FLUSH_CNT_PACKETS q = s.counted F.QUEUE_FLUSH_CNT_PACKETS q
    (if s.packetMode q then ((s.queue q).lasts.filter id).length else (s.queue q).cm - (s.queue q).rd) ∧
  t.f F.QUEUE_REC_DISCARD_WORDS q = s.counted F.QUEUE_REC_DISCARD_WORDS q ((s.queue q).cm - (s.queue q).rd) ∧
  Kept s t [(.QUEUE_FLUSH_CNT, q), (.QUEUE_REC_DISCARD, q)] areas

/-- A load stands at a phase, and nothing else waits: the words it takes are its own effect. -/
def State.loadsAt (s : State) (l : Load) (p : LoadPhase) : Bool :=
  (s.setLoad none).ready && s.cfg.load == some l && l.phase == p && l.src != 3

/-- A full load stands at a command word, n words before END at least. -/
def State.fullStream (s : State) (l : Load) (n : Nat) : Bool :=
  s.loadsAt l .command && l.kind == .full && decide (l.offset + 4 * n ≤ headerLength l.header - 8)

/-- An image for configuration memory, full or partial behind its SPAN, stands at a command word, n words before END at
least. -/
def State.imageStream (s : State) (l : Load) (n : Nat) : Bool :=
  s.loadsAt l .command && decide (l.offset + 4 * n ≤ headerLength l.header - 8) &&
  (match l.kind with
  | .full => true
  | .span _ => l.spanSeen
  | _ => false)

/-- A load that has taken a whole command of the stream: the offset, the running CRC and the digest go on (R130, R131). -/
def Load.took (l : Load) (ws : List Word) : Load :=
  { l with
    offset := l.offset + 4 * ws.length, words := [], crcMark := l.crc
    crc := ws.foldl crcWord l.crc, sha := ws.foldl shaWord l.sha }

/-- From s to t a load ended with a cause at a byte offset (R142, R143, R146, R441): the status bits and the cause are
shown, a LOAD_FAIL entry is made, and nothing else changed. -/
structure LoadEnds (s t : State) (l : Load) (c : Cause) (off : Nat) (areas : List Area) : Prop where
  load : t.cfg = { s.cfg with load := none }
  failed : t.f F.CFG_STATUS_LOAD_FAILED 0 = 1
  busy : t.f F.CFG_STATUS_BUSY 0 = 0
  offset : t.f F.CFG_FAIL_OFFSET_OFFSET 0 = off
  cause : t.f F.CFG_CAUSE_FIRST 0 = c.code
  src : t.f F.CFG_CAUSE_FIRST_SRC 0 = l.src
  entry : Entered s t l.who.origin 4 (l.src + 16 * l.slot) ⟨0x200000FF, 0, off, c.code⟩
  kept : Kept s t [(.CFG_STATUS, 0), (.CFG_FAIL_OFFSET, 0), (.CFG_CAUSE, 0)] ([.cfg, .ledger] ++ areas)

/-- The scrubber runs, and its next frame, of the running order, is one of a rod that it does not skip (R155). -/
def State.scrubsNext (s : State) (rod frame : Nat) : Bool :=
  s.cfg.scrubFirst.isEmpty && s.f F.CFG_STATUS_SCRUB_ON 0 == 1 && s.cfg.starting.isNone && s.cfg.scrubRod == rod &&
  s.cfg.scrubFrame == frame && decide (frame < 639 ∧ rod < 256) && !s.scrubSkips rod

/-- A transfer of a readback or restore is under way, and nothing else waits. -/
def State.transfers (s : State) (x : Transfer) : Bool := (s.setTransfer none).ready && s.cfg.transfer == some x

/-- The record of a frame of configuration memory (R171): its RB_FAR, its flags, a zero word, the CRC of its data, the data. Whether
a quarter of it was corrected is free. -/
def State.readRecord (s : State) (rod frame : Nat) (mended : Bool) : List Word :=
  [BitVec.ofNat 32 (65536 * rod + frame), if mended then 1 else 0, 0, crcOf (frameWords (s.frame rod frame))] ++
    frameWords (s.frame rod frame)

/-- The lengths of the runs of equal levels. -/
def runsOf : List Bool → List Nat
  | [] => []
  | b :: rest =>
    match rest, runsOf rest with
    | b' :: _, n :: ns => if b = b' then (n + 1) :: ns else 1 :: n :: ns
    | _, _ => [1]

/-- The ticks between the changes of a line on which a telegram is sent, from the middle of its start bit (R300): half-bits of 15
ticks, the last run without an end. -/
def sentGaps (d : BitVec 16) : List Nat := ((runsOf ((halfBits d).drop 1)).dropLast).map (15 * ·)

/-- The instances below n of some registers. -/
def allOf (rs : List Reg) (n : Nat) : List (Reg × Nat) := rs.flatMap fun r => (List.range n).map (r, ·)

/-- A step of the roving spare runs, in a phase, and nothing waits for its end: no migration, no step asked for, no record boundary,
no span request, reset, queue or trigger tap (R24, R189, R190). -/
def State.stepAlone (s : State) (st : RoveStep) (phase : Nat) : Bool :=
  s.ready && s.stepAt phase == some st && !st.migration && s.repair.migrations.isEmpty && s.repair.asked.isEmpty &&
  s.phase != 5 && s.mem.queues.isEmpty && s.fabric.takings.isEmpty && s.fabric.latches.isEmpty && s.fabric.taps.isEmpty &&
  s.cfg.spanWaiting.isNone && !s.cfg.fabricResetWaiting && s.record.heldSince.isNone &&
  decide (st.group < 16 ∧ st.src < 272 ∧ st.dst < 272 ∧ st.logical < 256 ∧ st.src ≠ st.dst)

/-- What a test found in a physical rod is taken (R101, R182): ROWS_SPARED counts its faulty tile rows, each memory uses at least
the spare rows it needs, and MEM_SPARES shows the most that any memory uses. -/
def TestTaken (s t : State) (phys : Nat) (x : SliceResult) : Prop :=
  t.f F.REPAIR_ROD_STATUS_ROWS_SPARED phys = min 4 x.rows.eraseDups.length ∧
  ((List.range 32).all fun m => t.sparesIn phys m ==
    (x.spares.filter (·.1 == m)).foldl (fun (n : Nat) y => max n (min 8 y.2)) (s.sparesIn phys m)) = true ∧
  t.f F.REPAIR_ROD_STATUS_MEM_SPARES phys = (List.range 32).foldl (fun (n : Nat) m => max n (t.sparesIn phys m)) 0 % 16 ∧
  ∀ row : Nat, row < 100 → (Sparse.get 0 t.repair.badRows phys).getLsbD row = x.rows.contains row

/-- The registers that show a step of the roving spare. -/
def stepRegs : List (Reg × Nat) := [(.REPAIR_STEP_STATUS, 0), (.REPAIR_STATUS, 0)]

/-- STEP_STATUS and STEP_BUSY show a step in a phase (R186). -/
def State.showsStep (s : State) (st : RoveStep) (phase : Nat) : Prop :=
  s.f F.REPAIR_STEP_STATUS_PHASE 0 = phase ∧ s.f F.REPAIR_STEP_STATUS_GROUP 0 = st.group ∧
  s.f F.REPAIR_STEP_STATUS_SRC 0 = st.src ∧ s.f F.REPAIR_STEP_STATUS_DST 0 = st.dst ∧
  s.f F.REPAIR_STATUS_STEP_BUSY 0 = (if phase = 0 then 0 else 1)

/-- NI n sends a packet of a virtual network at once: none of that network waits, its regulator is off, and its link works. -/
def State.sendsNow (s : State) (n vn : Nat) : Bool :=
  !(s.ni n).held.any (·.vn == vn) && !s.on F.NI_REG_CTRL_EN (4 * n + vn) && s.localUp n

/-- A packet is the next that its unit takes, whole and clean, and nothing else has come to the NI behind it: the NI is there,
its fence open and its station in RUN, and the packet is not late (R222, R246, R260, R289). -/
def State.reachesUnit (s : State) (p : Packet) : Bool :=
  niPresent s.part p.dest && s.fence p.dest == 0 && s.station p.dest == 0 && !s.lateRequest p && s.landing p == some .clean &&
  (!hasCsf p.dest || (s.ni p.dest).arrived.isEmpty)

/-- A request reaches HBM below its critical temperature, and its NI answers at once. -/
def State.reachesHbm (s : State) (p : Packet) : Bool :=
  s.ready && s.reachesUnit p && decide (0x60 ≤ p.dest ∧ p.dest < 0x70) && decodeAddr s.part p.addr == .ni p.dest &&
  s.hbm.level != 3 && entryValid (s.activeEntry p.dest p.src) && s.sendsNow p.dest 1

/-- From s to t an NI sent one packet (R203, R205): its units, INJ_TIME set, stand behind those that its link has still to take. -/
def Sent (s t : State) (q : Packet) : Prop :=
  (t.ni q.src).out = (s.ni q.src).out ++ unitsOf { q with injTime := t.now.setWidth 32 }

/-- The response to p (R205, R206, R208, R212, R283): VN1, back to its source over the NI's own route, with the tag, record and range of the
request, and the PRIO that RSP_PRIO asks for. -/
def State.answerTo (s : State) (p : Packet) (c : Cmd) (err : Nat) (operand : DWord) (data : List Byte) : Packet :=
  { cmd := c, src := p.dest, dest := p.src, tag := p.tag, record := p.record, err := err, attr := p.attr &&& 2, addr := p.addr
    len := p.len, beFirst := (responseEnables c p.addr p.len).1, beLast := (responseEnables c p.addr p.len).2
    operand := operand, injTime := 0, route := BitVec.ofNat 48 (entryRoute (s.activeEntry p.dest p.src)), vn := 1
    prio := p.attr.toNat / 8 % 4, data := data, poison := false }

/-- A WRP of its data from NI n to NI d (R205, R206, R208): VN0 over the route of the table, every byte enabled. -/
def State.postedFrom (s : State) (n d addr : Nat) (data : List Byte) : Packet :=
  let e := s.activeEntry n d
  let len := data.length - 1
  { cmd := .wrp, src := n, dest := d, tag := 0, record := 0, err := 0, attr := BitVec.ofNat 8 (8 * (entryPrio e % 4)), addr := addr
    len := len, beFirst := enableMask addr len [] 0, beLast := enableMask addr len [] ((addr + len) / 64 - addr / 64)
    operand := 0, injTime := 0, route := BitVec.ofNat 48 (entryRoute e), vn := 0, prio := entryPrio e, data := data
    poison := false }

/-- The NIs but one are as before. -/
def OtherNis (s t : State) (n : Nat) : Prop := ∀ m, m ≠ n → t.ni m = s.ni m

/-- The edge buffer of a channel of a fabric NI is full (R264): what comes next waits in the NI. -/
def State.channelFull (s : State) (n chan : Nat) : Bool :=
  decide (edgeDepth ≤ (Sparse.get [] (s.ni n).edge.out chan).length)

/-- The response handed last to user logic of NI n (R229). -/
def State.handed (t : State) (n : Nat) (c : Cmd) (tag err : Nat) (data : List Byte) : Bool :=
  (t.ni n).ir.getLast?.any fun q => q.cmd == c && q.tag == tag && q.err == err && q.data == data

/-- A transaction of user logic of NI n is under way under a tag; what its NI hands to user logic waits there, and no drain marker
waits for the tag (R212, R284). -/
def State.awaits (s : State) (n tag : Nat) (x : Txn) : Bool :=
  s.ready && niPresent s.part n && decide (n < 0x60 ∧ s.fence n < 2) && s.channelFull n 0 && (s.ni n).markers.isEmpty &&
  (match x.use with
  | .fabric _ => true
  | _ => false) &&
  ((s.ni n).outstanding.find? (·.tag == tag)) == some x

/-- The transactions of an NI but those of a tag are as before. -/
def TxnEnds (s t : State) (n tag : Nat) : Prop :=
  (t.ni n).outstanding = (s.ni n).outstanding.filter (·.tag != tag)

/-- The statistics of an NI (R254, R255). -/
def statRegs (n : Nat) : List (Reg × Nat) :=
  (List.range 4).flatMap (fun vn => [(.NI_STAT_UNITS_LO, 4 * n + vn), (.NI_STAT_UNITS_HI, 4 * n + vn),
    (.NI_STAT_BYTES_LO, 4 * n + vn), (.NI_STAT_BYTES_HI, 4 * n + vn), (.NI_STAT_LAT_MAX, 4 * n + vn)]) ++
  (List.range 64).map fun bin => (.NI_STAT_HIST, 64 * n + bin)

/-- The registers of the error log of an NI (R253). -/
def niLogRegs (n : Nat) : List (Reg × Nat) :=
  [(.NI_STATUS, n), (.NI_ERRLOG_INFO, n), (.NI_ERRLOG_ADDR_LO, n), (.NI_ERRLOG_ADDR_HI, n), (.NI_ERRLOG_TIME_LO, n),
    (.NI_ERRLOG_TIME_HI, n)]

/-- A span request is not refused for anything but the span's own state: the engine is free, capture is IDLE, the span's rods
are powered and no roving step moves one (R164, R169, R170). -/
def State.spanFree (s : State) (d : SpanDecl) : Bool :=
  !s.configBarred && s.capState == 0 && s.spanPowered d && !s.stepOn d

/-- The GATED registers of the NIs whose routes a fence may suspend. -/
def State.gateRegs (s : State) : List (Reg × Nat) := s.net.nis.map fun x => (.NI_U_STATUS, x.1)

/-- The FENCE_STATUS registers of some NIs. -/
def fenceRegs (nis : List Nat) : List (Reg × Nat) := nis.map fun n => (.NI_FENCE_STATUS, n)

/-- From s to t some items were sent outward, before the messages of event delivery. -/
def SentOut (s t : State) (l : List Out) : Prop := ∃ m, t.out = s.out ++ l ++ m ∧ m.all Out.isMessage = true

/-- The request that a drive's memory access makes of the carry network (R345). -/
def driveAsk (d : Nat) (write : Bool) (a len : Nat) (data : List Byte) : Request :=
  ⟨if write then .wr else .rd, a, len, [], 0, data, false, false, false, 0, .drive d⟩

/-- NI x sends request r of its unit to NI n under a tag at once. -/
def State.sendsAt (s : State) (x n tag : Nat) (r : Request) : Bool :=
  s.niTakes x && (s.ni x).csf.up.isEmpty && s.freeTag x == some tag && s.responseRoom x r &&
  entryValid (s.activeEntry x n) && s.sendsNow x 0 && (s.recordOf x).isNone

/-- The request that core n's access of some bytes makes of the carry network (R375). -/
def coreAsk (n : Nat) (cmd : Cmd) (a bytes : Nat) (data : List Byte) : Request :=
  ⟨cmd, a, bytes - 1, [], 0, data, false, false, false, 0, .core n⟩

/-- The read that MEM_DATA makes of the carry network (R433). -/
def State.debugAsk (s : State) : Request :=
  ⟨.rd, s.pair .DBG_MEM_ADDR_LO .DBG_MEM_ADDR_HI 0 % 2 ^ 48, 3, [], 0, [], s.on F.DBG_MEM_CTRL_DBG_ATTR 0, false, false, 0, .debug 4⟩

/-- A transaction of the voltage loop, as it leaves on the bus (R67). -/
def State.loopSends (s : State) (code value : Nat) : Out :=
  .pmbus (s.f F.PWR_VLOOP_CTRL_ADDR 0) code value (s.on F.PWR_VLOOP_CTRL_PEC 0)

/-- An input station's pad is not driven by the device and has stood at a level that its filter, of no ticks, has passed; its home rod is not gated, and no UART
waits for CTS#. -/
def State.settled (s : State) (p : Nat) (level : Bool) : Bool :=
  s.ready && decide (p < 192) && (s.stationDir p).testBit 1 && s.bankOn p && s.padState p == .released && !s.boundaryHas &&
  !s.gated (homeRod s.part p) && s.filterTicks p == 0 && s.padOutside p == level && (s.pinStation p).raw == level &&
  (s.pinStation p).level == level && decide ((s.pinStation p).since.toNat ≤ s.time.toNat) &&
  (List.range 4).all fun u => (s.uart u).tx.isEmpty

/-- The same, and no clock takes its edges from the pad. -/
def State.stands (s : State) (p : Nat) (level : Bool) : Bool :=
  s.settled p level && (s.clocksOf p true).isEmpty && (s.clocksOf p false).isEmpty

/-- EXTL line n is enabled and its MODE detects a level or an edge to it (R397). -/
def State.extlHits (s : State) (n : Nat) (level edge : Bool) : Bool :=
  s.f F.PIN_EXTL_CFG_EN n == 1 && extlMatches (s.f F.PIN_EXTL_CFG_MODE n) level edge

/-- The data bits of a character of UART u, lowest first. -/
def State.uartData (s : State) (u : Nat) (b : Byte) : List Bool := (List.range (s.uartBits u)).map b.getLsbD

/-- When a drive's commands have run for CMD_TIMEOUT without one completing (R346). -/
def State.timeoutAt (s : State) (d : Nat) : DWord :=
  (s.drive d).busy.getD s.time + BitVec.ofNat 64 (max 1 (s.f F.STORE_CMD_TIMEOUT_MS 0) * (1000 * ticksPerUs))

/-- STATUS.BUSY of the store, once drive d is not ATTACHING, is set while a FORMAT, a MOUNT or another ATTACH runs. -/
def State.BusyUntil (s t : State) (d : Nat) : Prop :=
  (t.f F.STORE_STATUS_BUSY 0 = 1 ↔ t.store.command ≠ 0 ∨ ∃ k, k < 8 ∧ k ≠ d ∧ s.driveState k = 2)

/-- The offset since RUN that a write of CH_PROD publishes (R349). -/
def State.chanAt (s : State) (c : Nat) (off : Word) : Nat :=
  (s.chan c).prod + (off.toNat % s.chanRing c + s.chanRing c - (s.chan c).prod % s.chanRing c) % s.chanRing c

/-- From s to t channel c of the store becomes v; the other channels and what stands on the drives are as before, and a drive has commands that run
exactly while it has stripes to do (R346). -/
def OneChannel (s t : State) (c : Nat) (v : Chan) : Prop :=
  t.chan c = v ∧ (∀ k, k < 8 → k ≠ c → t.chan k = s.chan k) ∧
  ∀ d, d < 8 → t.drive d = { s.drive d with busy := (t.drive d).busy } ∧
    (d ∈ s.volumeDrives → (t.drive d).busy.isSome = t.driveBusy d)

/-- Of host DMA only channel c may hold anything, the host is reached, and nothing else waits. -/
def State.dmaAlone (s : State) (c : Nat) : Bool :=
  (s.putHost { s.host with dma := [] }).ready && decide (c < 32) && s.hostOpen && s.hostUp && s.host.readsWaiting.isEmpty &&
  (List.range 32).all fun k => k == c || (s.funcState (.dma k) == 0 && s.dma k == dmaInit)

/-- A channel holds no descriptor, fetches none, and its ring is empty. -/
def State.dmaEmpty (s : State) (c : Nat) : Bool :=
  (s.dma c).descs.isEmpty && (s.dma c).fetching.isNone && s.f F.HOST_CH_HEAD_INDEX c == s.f F.HOST_CH_TAIL_INDEX c

/-- A device state is requested and not refused, nothing has to go on for it, and no step of the roving spare holds it up. -/
def State.downTo (s : State) (target : Nat) : Bool :=
  s.ready && (s.stateRefusal target).isNone && s.repair.step.isNone &&
  (s.stateRegions target).1 &&& ~~~s.regionsOn == 0 && (s.stateRegions target).2 &&& ~~~s.quadsOn == 0

/-- From s to t the drain of a power change began (R401 step 2): what goes off is recorded, its NIs are fenced, and it reads
BUSY. -/
structure Draining (s t : State) (c : PowerChange) (regs : List (Reg × Nat)) : Prop where
  change : t.power = { s.power with change := some c }
  busy : t.word .PWR_STATE_STATUS 0 = changed (s.word .PWR_STATE_STATUS 0) [(F.PWR_STATE_STATUS_BUSY, 1)]
  fences : ∀ n, n ∈ s.powerNis c → t.fence n ≠ 0
  kept : Kept s t ([(.PWR_STATE_STATUS, 0)] ++ regs ++ fenceRegs (List.range 0x99) ++ s.gateRegs) [.net, .power, .cfg, .ledger]

/-- The registers a restore of the fabric may write (R403). -/
def restoreRegs : List (Reg × Nat) :=
  [(.PWR_STATE_STATUS, 0), (.PWR_STATUS, 0), (.DEV_STATUS, 0), (.REPAIR_STATUS, 0), (.REPAIR_STEP_STATUS, 0), (.DEV_XS_STATUS, 0)] ++
  allOf [.REPAIR_ROD_STATUS] 272 ++ allOf [.REPAIR_GROUP_STATUS] 16 ++ allOf [.CFG_SPAN_STATUS] 64 ++ allOf [.DEV_XS_CNT] 0x60 ++
  allOf [.QUEUE_STATUS, .QUEUE_CONFIG, .QUEUE_STALE_CFG, .QUEUE_MAX_PKT, .QUEUE_CTRL] 2048 ++ fenceRegs (List.range 0x60)

/-- The parts of State a restore of the fabric may change. -/
def restoreAreas : List Area := [.clock, .fabric, .mem, .cfg, .repair, .net, .power, .ledger]

/-- From s to t one cross-trigger channel fired, whose OUT does not trace (R431): it shows FIRED; with bit 0 of OUT every core
that runs halts, with bit 1 capture freezes or the skip is counted, with bit 2 every NI's statistics freeze. -/
structure ChannelFires (s t : State) (k : Nat) : Prop where
  fired : t.f F.DBG_XT_CTRL_FIRED k = 1
  shown : t.f F.DBG_STATUS_XT_FIRED 0 = 1
  halts : (s.f F.DBG_XT_CTRL_OUT k).testBit 0 = true → ∀ n, s.coreRuns n = true → s.coreStalled n = false →
    t.f F.DBG_CORE_RC_HALTED n = 1 ∧ t.f F.DBG_CORE_RC_CAUSE n = 3 ∧ (t.core n).reserve = none
  freezes : (s.f F.DBG_XT_CTRL_OUT k).testBit 1 = true →
    if s.configBarred = false ∧ s.capState < 2
    then t.f F.CFG_CAP_STATUS_STATE 0 = 1 ∧ ⟨.direct 34, s.time + 1⟩ ∈ t.beam.flight
    else t.f F.DBG_XT_STATUS_FREEZE_SKIPPED 0 = s.counted F.DBG_XT_STATUS_FREEZE_SKIPPED 0 1
  stats : (s.f F.DBG_XT_CTRL_OUT k).testBit 2 = true → ∀ n, niPresent s.part n = true → t.f F.NI_STAT_CTRL_FREEZE n = 1
  kept : Kept s t ([(.DBG_XT_CTRL, k), (.DBG_STATUS, 0), (.DBG_XT_STATUS, 0), (.CFG_CAP_STATUS, 0)] ++ allOf [.DBG_CORE_RC] 4 ++
    allOf [.NI_STAT_CTRL] 0xA0) [.seq, .dbg, .beam, .cfg, .out]
  capture : t.cfg = { s.cfg with captureFrom := t.cfg.captureFrom }

/-- From s to t nothing changed but the registers of domain DBG and the parts of State listed, and what event delivery is
about. -/
structure KeptByDebug (s t : State) (areas : List Area) : Prop where
  regs : ∀ r i, isPend r = false → (regSpec r).domain ≠ .DBG → t.word r i = s.word r i
  rest : Kept s { t with regs := s.regs } [] areas

/-- From s to t one DEBUG entry was made, with an origin and AUX (R441); the manual gives no body for it. -/
def DebugEntered (s t : State) (origin : BitVec 8) (aux : Nat) : Prop :=
  s.ledger.buffer.length < 4096 →
    ∃ e, t.ledger.buffer = s.ledger.buffer ++ [e] ∧ e.origin = origin ∧ e.kind = 0x0C ∧ e.aux = BitVec.ofNat 16 aux

/-- Every DBG_ACCESS is let through: authorization is OPEN, SYS_RESET is not held and the part is not DORMANT; the TAP has
DBG_ACCESS selected and no access runs (R415, R416, R418). -/
def State.jtagFree (s : State) : Bool :=
  s.ready && s.dbg.ir == 0x10 && !s.dbg.accessRunning && !s.dbg.locked && !s.power.held && s.f F.PWR_STATE_STATUS_STATE 0 != 3

/-- What the delivery of events leaves (R34, R35, R380, R382): DEV.EVT_PEND shows the groups pending; while MSI-X is enabled a
pending group that is unmasked has sent its message; the levels of the cores' interrupt controllers are pending; every watchdog
stands as its pauses lay down. -/
structure EventsOut (s : State) : Prop where
  shown : s.dev.evtPend = s.groups
  host : s.msix.enable = true → ∀ g, g < 21 → s.groups.getLsbD g = true → (s.word .DEV_EVT_HOST_MASK 0).getLsbD g = true →
    s.dev.evtSent.getLsbD g = true
  cores : s.seqPowered = true → ∀ n, n < Part.cores s.part →
    s.groups &&& s.word .DEV_EVT_CORE_MASK n &&& ~~~(s.word .SEQ_IC_PEND_LO n) = 0
  reached : s.seqPowered = true → ∀ n, n < Part.cores s.part → (s.core n).timecmp.toNat ≤ s.now.toNat →
    (s.word .SEQ_IC_PEND_HI n).getLsbD 4 = true
  dogs : ∀ w d, w < 5 → s.dog w = some d → s.dogReason w d = d.reason

/-- No register or window stands at a CSR offset, or its unit is absent (R21, R28). -/
def State.absentOffset (s : State) (off : Nat) : Bool :=
  !inStream off &&
  (match tcmAt off with
  | some (n, _) => decide (Part.cores s.part ≤ n)
  | none => (msixTableWord off).isNone && (msixPbaWord off).isNone &&
    (match regAt off with
    | some (r, i) => !s.present r i
    | none => true))

/-- An entry stands in the ledger, in the ring or in the buffer. -/
def LedgerState.lists (l : LedgerState) (e : Entry) : Prop := (∃ p, (p, e) ∈ l.ring) ∨ e ∈ l.buffer

/-- A register holds an event of a group (R34): one of its event bits is set. The fence limit counts while CAUSE reads CLOSE
(R239), the voltage loop is an event in FAULT (R66), and a capture in FROZEN (R174). -/
def State.holdsEvent (s : State) (r : Reg) (i : Nat) : Bool :=
  if r = .PWR_VLOOP_STATUS ∧ fieldOf (s.word r i) 0 3 = 5 then true
  else if r = .CFG_CAP_STATUS ∧ fieldOf (s.word r i) 0 3 = 3 then true
  else if r = .NI_FENCE_STATUS ∧ fieldOf (s.word r i) 4 3 ≠ 5 then false
  else decide ((s.word r i).toNat &&& (eventBits r).2 ≠ 0)

/-- A command runs: it answers a next state, of which P holds. -/
def Runs (c : Instr) (s : State) (P : State → Prop) : Prop := ∃ t, exec c s = .next t ∧ P t

end Sys2Proof.Machine
end

