-- ==== Sys2Proof/Certificates/Slice0/Obligations.lean ====
section
/-! DEFINITION. The statements about the block: what each command makes of the state, and what it leaves as it is. Runs, Kept
and the other words they use stand in Sys2Proof/Safety.lean. "Completes" in a docstring lists the constructors of Instr of which
the statement concludes that they answer a next state with their own effect. -/

open Sys2Proof Sys2Proof.Machine


-- ------------------------------------------------------------------ the time base

/-- The commands of the reference and the delay-locked loop change their status bits and nothing else (R271, R281, R453). ARM
arms a sync load while the record controller is STOPPED and capture is IDLE, and is refused otherwise; an armed sync edge
loads TIME, and one that is not armed leaves TIME as it is; each edge's TIME is stored and source SYNC enters the Beam (R272,
R276). Completes: refLost, refReturn, timeBaseLock, dllLost, dllRelock, arm, syncEdge. -/
def Obligations.TimeBase : Prop :=
  (∀ s : State, s.ready = true →
    Runs .refLost s (fun t =>
      t.word .TIME_STATUS 0 = changed (s.word .TIME_STATUS 0)
        [(F.TIME_STATUS_LOCK, 0), (F.TIME_STATUS_HOLDOVER, 1), (F.TIME_STATUS_REF_LOST, 1)] ∧
      t.word .TBUS_REF_CTRL 0 = changed (s.word .TBUS_REF_CTRL 0) [(F.TBUS_REF_CTRL_REF_PRESENT, 0)] ∧
      Kept s t [(.TIME_STATUS, 0), (.TBUS_REF_CTRL, 0)] []) ∧
    Runs .refReturn s (fun t =>
      t.word .TBUS_REF_CTRL 0 = changed (s.word .TBUS_REF_CTRL 0) [(F.TBUS_REF_CTRL_REF_PRESENT, 1)] ∧
      Kept s t [(.TBUS_REF_CTRL, 0)] []) ∧
    Runs .timeBaseLock s (fun t =>
      t.word .TIME_STATUS 0 = changed (s.word .TIME_STATUS 0)
        [(F.TIME_STATUS_LOCK, 1), (F.TIME_STATUS_HOLDOVER, 0)] ∧
      t.word .TBUS_REF_CTRL 0 = changed (s.word .TBUS_REF_CTRL 0) [(F.TBUS_REF_CTRL_REF_PRESENT, 1)] ∧
      Kept s t [(.TIME_STATUS, 0), (.TBUS_REF_CTRL, 0)] []) ∧
    Runs .dllLost s (fun t =>
      t.word .TIME_STATUS 0 = changed (s.word .TIME_STATUS 0)
        [(F.TIME_STATUS_DLL_LOCK, 0), (F.TIME_STATUS_DLL_LOST, 1)] ∧
      Kept s t [(.TIME_STATUS, 0)] []) ∧
    Runs .dllRelock s (fun t =>
      t.word .TIME_STATUS 0 = changed (s.word .TIME_STATUS 0) [(F.TIME_STATUS_DLL_LOCK, 1)] ∧
      Kept s t [(.TIME_STATUS, 0)] [])) ∧
  (∀ (s : State) (who : Who), s.ready = true → s.f F.RECORD_STATUS_STATE 0 = 0 → s.f F.CFG_CAP_STATUS_STATE 0 = 0 →
    Runs (.arm who) s fun t =>
      t.word .TIME_STATUS 0 = changed (s.word .TIME_STATUS 0) [(F.TIME_STATUS_SYNC_ARMED, 1)] ∧
      Kept s t [(.TIME_STATUS, 0)] [.clock] ∧ t.time = s.time ∧ t.now = s.now) ∧
  (∀ (s : State) (who : Who), s.ready = true → s.f F.RECORD_STATUS_STATE 0 ≠ 0 ∨ s.f F.CFG_CAP_STATUS_STATE 0 ≠ 0 →
    Runs (.arm who) s fun t =>
      t.word .TIME_STATUS 0 = changed (s.word .TIME_STATUS 0) [(F.TIME_STATUS_CMD_REFUSED, 1)] ∧
      Entered s t who.origin 2 (256 * 6 + who.ni.toNat)
        ⟨csrOffset .TIME_SYNC_CTRL 0, (s.word .TIME_SYNC_CTRL 0).toNat, 1, 0⟩ ∧
      Kept s t [(.TIME_STATUS, 0)] [.ledger]) ∧
  (∀ (s : State) (wait : Nat), s.ready = true → s.f F.TIME_STATUS_SYNC_ARMED 0 = 1 →
    Runs (.syncEdge wait) s fun t =>
      t.time = s.time + BitVec.ofNat 64 wait ∧
      t.now = BitVec.ofNat 64 (s.pair .TIME_LOAD_LO .TIME_LOAD_HI 0) ∧
      t.word .TIME_STATUS 0 = changed (s.word .TIME_STATUS 0)
        [(F.TIME_STATUS_SYNC_ARMED, 0), (F.TIME_STATUS_SYNC_LOADED, 1)] ∧
      t.word .TIME_SYNC_LAST_LO 0 = s.word .TIME_LOAD_LO 0 ∧ t.word .TIME_SYNC_LAST_HI 0 = s.word .TIME_LOAD_HI 0 ∧
      ⟨.source 18, t.time⟩ ∈ t.beam.flight ∧
      Kept s t [(.TIME_STATUS, 0), (.TIME_SYNC_LAST_LO, 0), (.TIME_SYNC_LAST_HI, 0), (.BEAM_SRC_CNT, 18)]
        [.clock, .ledger, .beam]) ∧
  (∀ (s : State) (wait : Nat), s.ready = true → s.f F.TIME_STATUS_SYNC_ARMED 0 = 0 →
    Runs (.syncEdge wait) s fun t =>
      t.time = s.time + BitVec.ofNat 64 wait ∧ t.now = s.now + BitVec.ofNat 64 wait ∧
      t.word .TIME_SYNC_LAST_LO 0 = BitVec.ofNat 32 t.now.toNat ∧
      t.word .TIME_SYNC_LAST_HI 0 = BitVec.ofNat 32 (t.now.toNat / 2 ^ 32) ∧
      ⟨.source 18, t.time⟩ ∈ t.beam.flight ∧
      Kept s t [(.TIME_STATUS, 0), (.TIME_SYNC_LAST_LO, 0), (.TIME_SYNC_LAST_HI, 0), (.BEAM_SRC_CNT, 18)]
        [.clock, .beam])

/-- A compare unit fires at its value or on the next tick when that is past, once, or again after the smallest whole number of
periods that lies ahead; a timer fires when its phase comes round, a software event on the next tick, and each enters its
event into the Beam (R274, R275, R276). Completes: cmpFire, timFire, swEvt. -/
def Obligations.BeamSources : Prop :=
  (∀ (s : State) (n : Nat), s.ready = true → n < 8 → s.f F.TIME_CMP_CTRL_EN n = 1 → s.f F.TIME_CMP_PERIOD_TICKS n = 0 →
    Runs (.cmpFire n) s fun t =>
      (s.now.toNat < s.cmpThreshold n (s.cmpVal n) → s.cmpThreshold n (s.cmpVal n) < 2 ^ 64 →
        t.now = BitVec.ofNat 64 (s.cmpThreshold n (s.cmpVal n))) ∧
      (s.cmpThreshold n (s.cmpVal n) ≤ s.now.toNat → t.now = s.now + 1) ∧
      t.word .TIME_CMP_CTRL n = changed (s.word .TIME_CMP_CTRL n)
        [(F.TIME_CMP_CTRL_FIRED, 1), (F.TIME_CMP_CTRL_EN, 0)] ∧
      ⟨.source (52 + n), t.time⟩ ∈ t.beam.flight ∧
      Kept s t [(.TIME_CMP_CTRL, n), (.BEAM_SRC_CNT, 52 + n)] [.clock, .beam]) ∧
  (∀ (s : State) (n : Nat), s.ready = true → n < 8 → s.f F.TIME_CMP_CTRL_EN n = 1 → s.f F.TIME_CMP_PERIOD_TICKS n ≠ 0 →
    Runs (.cmpFire n) s fun t =>
      (s.now.toNat < s.cmpThreshold n (s.cmpVal n) → t.now = BitVec.ofNat 64 (s.cmpThreshold n (s.cmpVal n))) ∧
      (s.cmpThreshold n (s.cmpVal n) ≤ s.now.toNat → t.now = s.now + 1) ∧
      t.word .TIME_CMP_CTRL n = changed (s.word .TIME_CMP_CTRL n) [(F.TIME_CMP_CTRL_FIRED, 1)] ∧
      (∃ k, 1 ≤ k ∧
        t.pair .TIME_CMP_VAL_LO .TIME_CMP_VAL_HI n = (s.cmpVal n + s.f F.TIME_CMP_PERIOD_TICKS n * k) % 2 ^ 64 ∧
        t.now.toNat < s.cmpThreshold n (s.cmpVal n) + s.f F.TIME_CMP_PERIOD_TICKS n * k ∧
        (k = 1 ∨ s.cmpThreshold n (s.cmpVal n) + s.f F.TIME_CMP_PERIOD_TICKS n * (k - 1) ≤ t.now.toNat)) ∧
      ⟨.source (52 + n), t.time⟩ ∈ t.beam.flight ∧
      Kept s t [(.TIME_CMP_CTRL, n), (.TIME_CMP_VAL_LO, n), (.TIME_CMP_VAL_HI, n), (.BEAM_SRC_CNT, 52 + n)]
        [.clock, .beam, .latches]) ∧
  (∀ (s : State) (n : Nat), s.ready = true → n < 8 → s.f F.TIME_TIM_CTRL_EN n = 1 →
    s.f F.TIME_TIM_PHASE_TICKS n < s.f F.TIME_TIM_PERIOD_TICKS n →
    Runs (.timFire n) s fun t =>
      (∃ k, 1 ≤ k ∧ k ≤ s.f F.TIME_TIM_PERIOD_TICKS n ∧ t.time = s.time + BitVec.ofNat 64 k ∧
        (s.now.toNat + k) % s.f F.TIME_TIM_PERIOD_TICKS n = s.f F.TIME_TIM_PHASE_TICKS n) ∧
      t.f F.TIME_TIM_COUNT_EVENTS n = s.f F.TIME_TIM_COUNT_EVENTS n - 1 ∧
      (s.f F.TIME_TIM_COUNT_EVENTS n = 1 → t.f F.TIME_TIM_CTRL_EN n = 0) ∧
      ⟨.source (44 + n), t.time⟩ ∈ t.beam.flight ∧
      Kept s t [(.TIME_TIM_COUNT, n), (.TIME_TIM_CTRL, n), (.BEAM_SRC_CNT, 44 + n)] [.clock, .beam]) ∧
  (∀ (s : State) (data : Word), s.ready = true →
    Runs (.swEvt data) s fun t =>
      (data.getLsbD 0 = true → ⟨.source 60, s.time + 1⟩ ∈ t.beam.flight) ∧
      (data.getLsbD 1 = true → ⟨.source 61, s.time + 1⟩ ∈ t.beam.flight) ∧
      Kept s t [(.BEAM_SRC_CNT, 60), (.BEAM_SRC_CNT, 61)] [.beam])

-- ------------------------------------------------------------------ records and the tally

/-- START_NOW enters a start event while ARMED and CLOSE_NOW a close event while ACQUIRING, on the next tick; a command whose
event would be ignored is refused (R282, R291). TAKE enters a tally strobe event on the next tick (R293). A tally strobe that
acts advances TALLY.STATUS.SEQ, takes TALLY.TIME and makes every powered unit latch its counters; one that acts less than 64
ticks after the last is merged into it. An event acts nine ticks after it entered (R23, R278, R293). Completes: startNow,
closeNow, takeTally, beamEventAct. -/
def Obligations.RecordsAndTally : Prop :=
  (∀ (s : State) (who : Who), s.ready = true → s.f F.RECORD_STATUS_PHASE 0 = 1 →
    Runs (.startNow who) s fun t => ⟨.direct 36, s.time + 1⟩ ∈ t.beam.flight ∧ Kept s t [] [.beam]) ∧
  (∀ (s : State) (who : Who), s.ready = true → s.f F.RECORD_STATUS_PHASE 0 = 0 ∨ s.f F.RECORD_STATUS_PHASE 0 = 2 →
    Runs (.startNow who) s fun t => Refused s t F.RECORD_STATUS_CMD_REFUSED 0 who .command .RECORD_CMD 0 1) ∧
  (∀ (s : State) (who : Who), s.ready = true → s.f F.RECORD_STATUS_PHASE 0 = 2 →
    Runs (.closeNow who) s fun t => ⟨.direct 37, s.time + 1⟩ ∈ t.beam.flight ∧ Kept s t [] [.beam]) ∧
  (∀ (s : State) (who : Who), s.ready = true → s.f F.RECORD_STATUS_PHASE 0 ≠ 2 →
    Runs (.closeNow who) s fun t => Refused s t F.RECORD_STATUS_CMD_REFUSED 0 who .command .RECORD_CMD 0 2) ∧
  (∀ s : State, s.ready = true →
    Runs .takeTally s fun t => ⟨.direct 35, s.time + 1⟩ ∈ t.beam.flight ∧ Kept s t [] [.beam]) ∧
  (∀ (s : State) (e : DWord), s.ready = true → s.beam.flight = [⟨.direct 35, e⟩] → s.time.toNat < (e + 9).toNat →
    s.tally.last = none →
    Runs .beamEventAct s fun t =>
      t.time = e + 9 ∧ t.beam.flight = [] ∧ t.tally.last = some (e + 9) ∧
      t.f F.TALLY_STATUS_SEQ 0 = (s.f F.TALLY_STATUS_SEQ 0 + 1) % 65536 ∧
      t.pair .TALLY_TIME_LO .TALLY_TIME_HI 0 = t.now.toNat ∧
      Kept s t [(.TALLY_STATUS, 0), (.TALLY_TIME_LO, 0), (.TALLY_TIME_HI, 0)] [.clock, .beam, .tally]) ∧
  (∀ (s : State) (e l : DWord), s.ready = true → s.beam.flight = [⟨.direct 35, e⟩] → s.time.toNat < (e + 9).toNat →
    s.tally.last = some l → l.toNat < (e + 9).toNat → (e + 9).toNat < l.toNat + 64 →
    Runs .beamEventAct s fun t =>
      t.time = e + 9 ∧ t.beam.flight = [] ∧
      t.word .TALLY_STATUS 0 = changed (s.word .TALLY_STATUS 0) [(F.TALLY_STATUS_COALESCED, 1)] ∧
      Kept s t [(.TALLY_STATUS, 0)] [.clock, .beam])

/-- A report of an enabled participant that has drained sets its DONE bit, while another participant of phase A is still to
report; one that names another record, or comes while no record is closing, is counted as late (R286, R287). A core's write of
its FW_DRAINED bit is such a report (R286). At START_AT + LEN an open record closes: PHASE, CLOSE_AT, CLOSE_SEEN and source
63, here with no member NI, queue, ring or channel in the record domain and a core still to report (R282, R286). When the
drain timeout runs out the controller names the laggards, counts the record closed and leaves CLOSED; here with no queue in
the record domain, nothing to tell a pseudo channel, the store or a core, and no deferred work (R283, R287, R288). Deferred
work that ends lets a controller that runs enter ARMED (R24, R288), and MAINT_LIMIT moves work that has not begun to the next
boundary (R24). Completes: drained, fwDrained, automaticClose, drainTimeout, deferredWorkDone, maintLimit. -/
def Obligations.RecordDrain : Prop :=
  (∀ (s : State) (p q : Nat), s.ready = true → s.f F.RECORD_STATUS_PHASE 0 = 3 → p ∈ phaseA → s.enabled p = true →
    s.reported p = false → s.partDrained p = true → q ∈ phaseA → q ≠ p → s.enabled q = true → s.reported q = false →
    Runs (.drained p (s.f F.RECORD_NUMBER_CURRENT 0)) s fun t =>
      t.partDone = s.partDone ||| 2 ^ p ∧
      Kept s t [(.RECORD_PART_DONE_LO, 0), (.RECORD_PART_DONE_HI, 0)] []) ∧
  (∀ (s : State) (p n : Nat), s.ready = true →
    s.f F.RECORD_STATUS_PHASE 0 < 3 ∨ s.f F.RECORD_STATUS_PHASE 0 = 5 ∨ n ≠ s.f F.RECORD_NUMBER_CURRENT 0 →
    Runs (.drained p n) s fun t =>
      t.word .RECORD_EVT_CNT 0 = changed (s.word .RECORD_EVT_CNT 0)
        [(F.RECORD_EVT_CNT_LATE_REPORTS, s.counted F.RECORD_EVT_CNT_LATE_REPORTS 0 1)] ∧
      Kept s t [(.RECORD_EVT_CNT, 0)] []) ∧
  (∀ (s : State) (n q : Nat), s.ready = true → n < 4 → s.f F.RECORD_STATUS_PHASE 0 = 3 →
    s.f F.RECORD_FW_DRAINED_CORE 0 / 2 ^ n % 2 = 0 → s.enabled (38 + n) = true → s.reported (38 + n) = false →
    q ∈ phaseA → q ≠ 38 + n → s.enabled q = true → s.reported q = false →
    Runs (.fwDrained n) s fun t =>
      t.f F.RECORD_FW_DRAINED_CORE 0 = s.f F.RECORD_FW_DRAINED_CORE 0 + 2 ^ n ∧
      t.partDone = s.partDone ||| 2 ^ (38 + n) ∧
      Kept s t [(.RECORD_FW_DRAINED, 0), (.RECORD_PART_DONE_LO, 0), (.RECORD_PART_DONE_HI, 0)] []) ∧
  (∀ (s : State) (n : Nat), s.ready = true → s.f F.RECORD_STATUS_PHASE 0 = 2 →
    s.pair .RECORD_LEN_LO .RECORD_LEN_HI 0 % 2 ^ 48 ≠ 0 →
    s.now.toNat ≤ s.pair .RECORD_START_AT_LO .RECORD_START_AT_HI 0 + s.pair .RECORD_LEN_LO .RECORD_LEN_HI 0 % 2 ^ 48 →
    s.pair .RECORD_START_AT_LO .RECORD_START_AT_HI 0 + s.pair .RECORD_LEN_LO .RECORD_LEN_HI 0 % 2 ^ 48 < 2 ^ 64 →
    s.recordMembers 0 0x9D = [] → s.recordQueues = [] → s.ringsTagged false = [] → s.recChannels = [] →
    s.f F.TALLY_CTRL_ON_CLOSE 0 = 0 → s.captured = false → s.repair.step = none →
    n < 4 → s.enabled (38 + n) = true → s.niPowered (0x94 + n) = true →
    Runs .automaticClose s fun t =>
      t.now.toNat =
        s.pair .RECORD_START_AT_LO .RECORD_START_AT_HI 0 + s.pair .RECORD_LEN_LO .RECORD_LEN_HI 0 % 2 ^ 48 ∧
      t.f F.RECORD_STATUS_PHASE 0 = 3 ∧ t.f F.RECORD_STATUS_CLOSE_SEEN 0 = 1 ∧
      t.pair .RECORD_CLOSE_AT_LO .RECORD_CLOSE_AT_HI 0 = t.now.toNat ∧
      ⟨.source 63, t.time⟩ ∈ t.beam.flight ∧
      Kept s t [(.RECORD_STATUS, 0), (.RECORD_CLOSE_AT_LO, 0), (.RECORD_CLOSE_AT_HI, 0), (.RECORD_PART_DONE_LO, 0),
        (.RECORD_PART_DONE_HI, 0), (.RECORD_FW_DRAINED, 0), (.BEAM_SRC_CNT, 63)] [.clock, .beam, .record]) ∧
  (∀ s : State, s.ready = true →
    s.f F.RECORD_STATUS_PHASE 0 = 3 ∨ s.f F.RECORD_STATUS_PHASE 0 = 4 → s.record.heldSince = none →
    s.recordQueues = [] → (∀ p, p < 43 → (partNi p).isSome = true → s.enabled p = true → s.reported p = true) →
    s.repair.step = none → s.repair.deferred = [] → s.repair.forced = [] → s.repair.begun = [] →
    s.f F.RECORD_CTRL_RUN 0 = 1 → s.f F.RECORD_STATUS_STATE 0 = 1 → s.f F.RECORD_CTRL_AUTO_START 0 = 0 →
    s.record.latched = false →
    Runs .drainTimeout s fun t =>
      t.f F.RECORD_STATUS_PHASE 0 = 1 ∧ t.f F.RECORD_STATUS_DRAIN_TIMEOUT 0 = 1 ∧
      t.f F.RECORD_STATUS_CLOSED_SEEN 0 = 1 ∧
      t.f F.RECORD_NUMBER_LAST_CLOSED 0 = s.f F.RECORD_NUMBER_CURRENT 0 ∧
      t.f F.RECORD_NUMBER_CURRENT 0 = (s.f F.RECORD_NUMBER_CURRENT 0 + 1) % 65536 ∧
      t.pair .RECORD_CLOSED_AT_LO .RECORD_CLOSED_AT_HI 0 = t.now.toNat ∧
      Kept s t (([(.RECORD_STATUS, 0), (.RECORD_NUMBER, 0), (.RECORD_LAGGARD_LO, 0), (.RECORD_LAGGARD_HI, 0),
        (.RECORD_CLOSED_AT_LO, 0), (.RECORD_CLOSED_AT_HI, 0)] : Regs) ++
        ((List.range 16).flatMap (fun r => [(.HBM_RING_REC_BYTES_LO, r), (.HBM_RING_REC_BYTES_HI, r)]) : Regs) ++
        ((List.range 8).flatMap (fun c => [(.STORE_CH_REC_BYTES_LO, c), (.STORE_CH_REC_BYTES_HI, c)]) : Regs))
        [.clock, .ledger, .record]) ∧
  (∀ s : State, s.ready = true → s.f F.RECORD_STATUS_PHASE 0 = 5 → s.repair.step = none →
    s.repair.deferred = [] → s.repair.forced = [] → s.repair.begun = [] → s.f F.RECORD_CTRL_RUN 0 = 1 → s.f F.RECORD_STATUS_STATE 0 = 1 →
    s.f F.RECORD_CTRL_AUTO_START 0 = 0 → s.record.latched = false →
    Runs .deferredWorkDone s fun t =>
      t.word .RECORD_STATUS 0 = changed (s.word .RECORD_STATUS 0) [(F.RECORD_STATUS_PHASE, 1)] ∧
      Kept s t [(.RECORD_STATUS, 0)] []) ∧
  (∀ s : State, s.ready = true → s.f F.RECORD_STATUS_PHASE 0 = 5 → s.record.moved = false → s.deferredBegun = true →
    Runs .maintLimit s fun t =>
      t.word .REPAIR_STEP_EXC 0 = changed (s.word .REPAIR_STEP_EXC 0) [(F.REPAIR_STEP_EXC_DEFERRALS,
        s.counted F.REPAIR_STEP_EXC_DEFERRALS 0 s.deferredWaiting)] ∧
      t.record.moved = true ∧ Kept s t [(.REPAIR_STEP_EXC, 0)] [.clock, .record])

/-- A SINK notice to a store that records nothing makes it report; one to a pseudo channel that has no tagged ring only tells
it that the record drains, and with an enabled tagged ring it captures (R286, R341, R343). A TIMEOUT notice is told once:
nothing is left to do for a participant without open work; a queue that still closes ends its record with DRAIN_TIMEOUT and is
drained (R117, R287), and a ring that owes a capture gets PARTIAL (R343). Completes: sinkNotice, timeoutNotice. -/
def Obligations.NoticesLand : Prop :=
  (∀ (s : State) (q : Nat), s.ready = true → (s.ni 0x98).arrived = [] → s.f F.RECORD_STATUS_PHASE 0 = 4 → s.enabled 32 = true →
    s.record.sunk.contains 32 = false → s.recChannels = [] → s.reported 32 = false →
    q ∈ phaseB → q ≠ 32 → s.enabled q = true → s.reported q = false →
    Runs (.sinkNotice 32) s fun t =>
      t.record.sunk = s.record.sunk ++ [32] ∧ t.partDone = s.partDone ||| 2 ^ 32 ∧
      Kept s t [(.RECORD_PART_DONE_LO, 0), (.RECORD_PART_DONE_HI, 0)] [.record, .net]) ∧
  (∀ (s : State) (p : Nat), s.ready = true → (s.ni (0x50 + p)).arrived = [] → 16 ≤ p → p < 32 →
    s.f F.RECORD_STATUS_PHASE 0 = 4 → s.enabled p = true → s.record.sunk.contains p = false →
    Runs (.sinkNotice p) s fun t =>
      t.record.sunk = s.record.sunk ++ [p] ∧ (∀ r, r ∈ s.ringsTagged true → (t.ringPc r (p - 16)).owes = false) ∧
      (s.ringsTagged true = [] → Kept s t [] [.record, .net]) ∧ Kept s t [] [.record, .net, .hbm]) ∧
  (∀ (s : State) (p : Nat), s.ready = true → (∀ n, partNi p = some n → (s.ni n).arrived = []) →
    s.record.told.contains p = true →
    (p < 16 → ∀ q, q ∈ s.groupQueues p → (s.queue q).closing = false ∧ (s.queue q).closeDue = false) →
    (16 ≤ p → p < 32 → ∀ r, r ∈ s.ringsTagged true → (s.ringPc r (p - 16)).owes = false) → (p = 32 → s.recChannels = []) →
    Runs (.timeoutNotice p) s fun t =>
      t.record.told = s.record.told.erase p ∧ Kept s t [] [.record, .net]) ∧
  (∀ (s : State) (p q : Nat), s.ready = true → s.record.told.contains p = true → p < 16 → q ∈ s.groupQueues p →
    (s.queue q).closing = true →
    Runs (.timeoutNotice p) s fun t =>
      t.record.told = s.record.told.erase p ∧ t.f F.QUEUE_STATUS_DRAIN_TIMEOUT q = 1 ∧
      (t.queue q).closing = false ∧ (t.queue q).holdRecord = true ∧ (t.queue q).drained = true ∧
      Kept s t (allOf [.QUEUE_STATUS, .QUEUE_REC_DISCARD] 2048) [.record, .mem]) ∧
  (∀ (s : State) (p r : Nat), s.ready = true → (s.ni (0x50 + p)).arrived = [] → s.record.told.contains p = true → 16 ≤ p →
    p < 32 → r ∈ s.ringsTagged true → (s.ringPc r (p - 16)).owes = true →
    Runs (.timeoutNotice p) s fun t =>
      t.record.told = s.record.told.erase p ∧ t.f F.HBM_RING_CTRL_PARTIAL r = 1 ∧ (t.ringPc r (p - 16)).owes = false ∧
      Kept s t (allOf [.HBM_RING_CTRL] 16) [.record, .net, .hbm])

-- ------------------------------------------------------------------ device control

/-- PORST_N low puts every register at its Reset value but the count of retired rods, and keeps the configuration store and
the retirement list (R30); its release samples the straps, starts TIME at 0 in holdover and lets the part start (R125, R147,
R453). The SYS_RESETs of DEV.CTRL, of PERST# under PERST_SYS, of the system watchdog and of an unlock (R30, R31, R371, R381,
R422). An enabled wake cause leaves DORMANT: its bit of WAKE_CAUSE is set, the part restarts, RESET_CAUSE stays, and the
content of HBM and of the sequencer's memories is lost (R404). Completes: por, porstRelease, sysReset, perst, expired, unlock,
wake. -/
def Obligations.Resets : Prop :=
  (∀ (s : State) (drains : Bool), Runs (.por drains) s fun t =>
    t.dev.porst = true ∧ AtReset t (fun r _ => r != .REPAIR_RETIRED) ∧ t.part = s.part ∧ t.pending = s.pending ∧
    t.cfg.store = s.cfg.store ∧ t.cfg.frames = [] ∧ t.repair.retired = s.repair.retired ∧ t.net.nis = [] ∧ t.net.routers = [] ∧
    t.beam.flight = [] ∧ t.hbm.bytes = []) ∧
  (∀ (s : State) (b : BitVec 2) (pull : Bool), s.dev.porst = true → s.calm = true → s.dbg.erasing = false →
    Runs (.porstRelease b pull) s fun t =>
      t.dev.porst = false ∧ t.dev.bootSrc = b ∧ t.dev.cfgPull = pull ∧ t.time = 0 ∧ t.now = 0 ∧
      t.f F.TIME_STATUS_HOLDOVER 0 = 1 ∧
      Kept s t [(.TIME_STATUS, 0), (.PWR_REGION_STATUS, 0), (.PWR_QUAD_STATUS, 0), (.DEV_STATUS, 0), (.CFG_SRC_TIMEOUT, 0)]
        [.clock, .dev, .cfg]) ∧
  (∀ (s : State) (who : Who), s.ready = true → s.dmaIdleAll = true → s.dbg.erasing = false →
    Runs (.sysReset who) s fun t => SysReset s t 1 ∧ t.hbm.bytes = s.hbm.bytes) ∧
  (∀ s : State, s.ready = true → s.dmaIdleAll = true → s.dbg.erasing = false → s.f F.DEV_CTRL_PERST_SYS 0 = 1 →
    Runs .perst s fun t => SysReset s t 4 ∧ t.hbm.bytes = s.hbm.bytes) ∧
  (∀ (s : State) (d : Dog) (a : DWord), s.ready = true → s.dmaIdleAll = true → s.dbg.erasing = false →
    s.dog 4 = some d → d.since = some a →
    Runs (.expired 4) s fun t => SysReset s t 2 ∧ t.hbm.bytes = s.hbm.bytes ∧ t.seq.dogs = []) ∧
  (∀ s : State, s.ready = true → s.dmaIdleAll = true → s.dbg.erasing = false → s.dbg.locked = true →
    Runs (.unlock ⟨2, 0x9A⟩) s fun t => SysReset s t 5 ∧ t.dbg.erasing = true ∧ t.hbm.bytes = []) ∧
  (∀ (s : State) (cause : Nat), s.ready = true → s.dmaIdleAll = true → s.wakeEnabled cause = true →
    s.power.hot = false → s.f F.PWR_STATE_STATUS_STATE 0 = 3 →
    Runs (.wake cause) s fun t =>
      t.word .PWR_WAKE_CAUSE 0 = s.word .PWR_WAKE_CAUSE 0 ||| BitVec.ofNat 32 (2 ^ cause) ∧
      t.word .DEV_RESET_CAUSE 0 = s.word .DEV_RESET_CAUSE 0 ∧
      AtReset t (fun r i => (regSpec r).domain == .SYS && sysResets r i && !bootSets.contains r && !isPend r) ∧
      t.hbm.bytes = [] ∧ t.seq.sram = [] ∧ t.seq.tcm = [] ∧ t.net.nis = [] ∧ t.net.routers = [])

/-- DEV.FRESET resets a STOPPED host DMA channel behind an open fence with nothing to answer: the registers of domain FUNC of
the channel are at their Reset values, it is STOPPED with RUN 0, its NI's fence is open again and the crossing resynchronizes,
and a RESET entry names it; a BLOCK code that names nothing is refused (R33). RUN moves a STOPPED function to RUN; STOP moves
one that holds nothing to STOPPED, and one with work to STOPPING; a STOPPING function that has finished its work becomes
STOPPED, and so does one whose STOP_TIMEOUT expires (R37), as the NIs and the Beam map show. Completes: functionReset,
runFunc, stopFunc, heldWorkFinished, stopTimeout. -/
def Obligations.Functions : Prop :=
  (∀ (s : State) (who : Who) (c : Nat), s.ready = true → c < 32 → s.f F.HOST_CH_STATUS_STATE c = 0 → s.fence 0x90 = 0 →
    s.station 0x90 = 0 → s.ni 0x90 = niInit →
    Runs (.functionReset who 15 c) s fun t =>
      AtReset t (fun r i => (regSpec r).domain == .FUNC && ownedBy (.dma c) r i) ∧
      t.f F.HOST_CH_CTRL_RUN c = 0 ∧ t.f F.HOST_CH_STATUS_STATE c = 0 ∧ t.f F.DEV_FRESET_REFUSED 0 = 0 ∧
      t.f F.DEV_FRESET_BLOCK 0 = 15 ∧ t.f F.DEV_FRESET_INSTANCE 0 = c ∧ t.fence 0x90 = 0 ∧ t.station 0x90 = 1 ∧
      (s.ledger.buffer.length < 4000 →
        t.newest who.origin 8 1 ⟨csrOffset .DEV_FRESET 0, 0, 2 ^ 31 + 15 + 65536 * c, 0⟩ = true) ∧
      Kept s t (([(.DEV_FRESET, 0), (.NI_FENCE_STATUS, 0x90), (.DEV_XS_STATE, 0x90), (.DEV_XS_CNT, 0x90)] : Regs) ++ s.gateRegs ++
        ((allRegs.filter fun r => ownedBy (.dma c) r c).map (·, c) : Regs)) [.ledger, .dev, .net]) ∧
  (∀ (s : State) (who : Who) (i : Nat), s.ready = true → i < 2048 →
    Runs (.functionReset who 0 i) s fun t =>
      t.f F.DEV_FRESET_REFUSED 0 = 1 ∧ t.f F.DEV_STATUS_RESET_REFUSED 0 = 1 ∧
      Entered s t who.origin 2 (256 * 5 + who.ni.toNat)
        ⟨csrOffset .DEV_FRESET 0, (s.word .DEV_FRESET 0).toNat, 2 ^ 31 + 65536 * i, 0⟩ ∧
      Kept s t [(.DEV_FRESET, 0), (.DEV_STATUS, 0)] [.ledger]) ∧
  (∀ (s : State) (who : Who) (n : Nat), s.ready = true → s.funcReached (.ni n) = true → s.f F.NI_CTRL_RUN n = 0 →
    s.f F.NI_STATUS_STATE n = 0 →
    Runs (.runFunc who (.ni n)) s fun t =>
      t.f F.NI_CTRL_RUN n = 1 ∧ t.f F.NI_STATUS_STATE n = 1 ∧ Kept s t [(.NI_CTRL, n), (.NI_STATUS, n)] [.ledger]) ∧
  (∀ (s : State) (who : Who) (n : Nat), s.ready = true → s.funcReached (.ni n) = true → s.f F.NI_CTRL_RUN n = 1 →
    s.f F.NI_STATUS_STATE n = 1 → (s.ni n).outstanding = [] →
    Runs (.stopFunc who (.ni n)) s fun t =>
      t.f F.NI_CTRL_RUN n = 0 ∧ t.f F.NI_STATUS_STATE n = 0 ∧
      Kept s t [(.NI_CTRL, n), (.NI_STATUS, n)] [.ledger, .dev]) ∧
  (∀ (s : State) (who : Who) (n : Nat), s.ready = true → s.funcReached (.ni n) = true → s.f F.NI_CTRL_RUN n = 1 →
    s.f F.NI_STATUS_STATE n = 1 → (s.ni n).outstanding ≠ [] → s.f F.NI_CTRL_STOP_TIMEOUT n ≠ 0 →
    Runs (.stopFunc who (.ni n)) s fun t =>
      t.f F.NI_CTRL_RUN n = 0 ∧ t.f F.NI_STATUS_STATE n = 2 ∧
      t.dev.stopping = s.dev.stopping ++ [(.ni n, s.time)] ∧
      Kept s t [(.NI_CTRL, n), (.NI_STATUS, n)] [.ledger, .dev]) ∧
  (∀ (s : State) (n : Nat), s.ready = true → niPresent s.part n = true → s.f F.NI_CTRL_RUN n = 0 →
    s.f F.NI_STATUS_STATE n = 2 → (s.ni n).outstanding = [] →
    Runs (.heldWorkFinished (.ni n)) s fun t =>
      t.word .NI_STATUS n = changed (s.word .NI_STATUS n) [(F.NI_STATUS_STATE, 0)] ∧
      Kept s t [(.NI_STATUS, n)] [.dev]) ∧
  (∀ s : State, s.ready = true → (s.dev.stopping.find? (·.1 == .beam)).isSome = true →
    s.f F.BEAM_STATUS_STATE 0 = 2 → s.f F.BEAM_CTRL_RUN 0 = 0 →
    Runs (.stopTimeout .beam) s fun t =>
      t.word .BEAM_STATUS 0 = changed (s.word .BEAM_STATUS 0) [(F.BEAM_STATUS_STATE, 0)] ∧
      t.dev.stopping = s.dev.stopping.filter (·.1 != .beam) ∧ Kept s t [(.BEAM_STATUS, 0)] [.dev, .clock])

/-- A register write stores the data of a plain field, clears write-one-to-clear bits, and is reported where no register lies;
a 1 of EVT_ACK lets its group send a host message again, which a group that is still pending and unmasked does at once while
MSI-X is enabled (R5, R28, R35). Completes: registerWrite, evtAck. -/
def Obligations.RegisterWrites : Prop :=
  (∀ (s : State) (who : Who) (data : Word), s.ready = true → s.csrBlocked (csrOffset .DEV_EVT_FAB_MASK 0) = none →
    Runs (.registerWrite who (csrOffset .DEV_EVT_FAB_MASK 0) data) s fun t =>
      t.word .DEV_EVT_FAB_MASK 0 = data ∧ Kept s t [(.DEV_EVT_FAB_MASK, 0)] []) ∧
  (∀ (s : State) (who : Who) (data : Word), s.ready = true → s.csrBlocked (csrOffset .DEV_STATUS 0) = none →
    Runs (.registerWrite who (csrOffset .DEV_STATUS 0) data) s fun t =>
      t.word .DEV_STATUS 0 = s.word .DEV_STATUS 0 &&& ~~~(data &&& 0x30#32) ∧ Kept s t [(.DEV_STATUS, 0)] []) ∧
  (∀ (s : State) (who : Who) (off : Nat) (data : Word), s.ready = true → 0x380000 ≤ off → off < 0x400000 →
    s.csrBlocked off = none →
    Runs (.registerWrite who off data) s fun t =>
      t.f F.DEV_ABSENT_LOG_OFFSET 0 = off ∧ t.f F.DEV_ABSENT_ORIGIN_ORIGIN 0 = who.origin.toNat ∧
      t.f F.DEV_ABSENT_ORIGIN_ABSENT_COUNT 0 = s.counted F.DEV_ABSENT_ORIGIN_ABSENT_COUNT 0 1 ∧
      t.f F.DEV_STATUS_ABSENT_WRITE 0 = 1 ∧
      Kept s t [(.DEV_ABSENT_LOG, 0), (.DEV_ABSENT_ORIGIN, 0), (.DEV_STATUS, 0)] []) ∧
  (∀ (s : State) (data : Word), s.ready = true →
    Runs (.evtAck data) s fun t =>
      (∀ g, g < 21 → t.dev.evtSent.getLsbD g = ((s.dev.evtSent.getLsbD g && !data.getLsbD g) ||
        (s.msix.enable && s.groups.getLsbD g && (s.word .DEV_EVT_HOST_MASK 0).getLsbD g))) ∧ Kept s t [] [])

-- ------------------------------------------------------------------ the user fabric

/-- A VACANT and EMPTY holding stage whose input is complete and whose output is clear becomes FULL with the input's value and
acknowledges the outputs it comes from; a HELD latch presents its bead first; one whose acknowledge is withheld by FREEZE
holds the input in its latch (R44, R45, R46, R48, R50). A stage whose bead every consumer has acknowledged becomes EMPTY and
drives nothing (R46, R48). An arbitration cell whose grant channel is clear grants the one request that waits, or of two the
one it owes the grant, else the one its arrival favoured, and owes the other the next; it takes the bead it grants (R52). A
reckoner whose ports hold their beads takes them and gives Z + M, or Z - M with NEG, modulo 2^64 on P and in ACC, with M = (A
± D) × B or A × B (R56). Completes: beadAccept, beadConsumed, arbitrationGrant, reckonerOperation. -/
def Obligations.FabricClients : Prop :=
  (∀ (s : State) (c : CellId) (upset : Upset) (v : Digit) (outs : List BeadSource), s.ready = true → s.hasStage c = true →
    s.sinkReady (.cell c) = true → s.stage c = ⟨none, none⟩ → s.clear (.cell c) = true →
    s.arrival c upset = some ⟨v, outs, 0⟩ →
    Runs (.beadAccept (.cell c) upset) s fun t =>
      t.stage c = ⟨some v, none⟩ ∧ (∀ y, y ∈ outs → t.acked (.cell c) y = true) ∧ Kept s t [] [.fabric]) ∧
  (∀ (s : State) (c : CellId) (upset : Upset) (v : Digit), s.ready = true → s.hasStage c = true →
    s.sinkReady (.cell c) = true → s.stage c = ⟨none, some v⟩ → s.clear (.cell c) = true →
    Runs (.beadAccept (.cell c) upset) s fun t => t.stage c = ⟨some v, none⟩ ∧ Kept s t [] [.fabric]) ∧
  (∀ (s : State) (c : CellId) (upset : Upset) (v : Digit) (outs : List BeadSource), s.ready = true → s.hasStage c = true →
    s.gated c.rod = false → s.throttled c.rod = false → s.acking (.cell c) = false → s.withholds (.cell c) = true →
    (s.stage c).held = none → s.arrival c upset = some ⟨v, outs, 0⟩ →
    Runs (.beadAccept (.cell c) upset) s fun t =>
      t.stage c = ⟨(s.stage c).full, some v⟩ ∧ t.fabric.takings = s.fabric.takings ∧ Kept s t [] [.fabric]) ∧
  (∀ (s : State) (c : CellId), s.ready = true → s.fabric.spent = [] → s.allTaken [.cell c] = true →
    Runs (.beadConsumed (.cell c)) s fun t =>
      t.stage c = ⟨none, (s.stage c).held⟩ ∧ t.driven (.cell c) = none ∧ Kept s t sinkRegs [.fabric]) ∧
  (∀ (s : State) (rod row a : Nat) (x first : Bool) (upset : Upset) (b : Bead), s.ready = true →
    (s.arbiter rod row a).grant = none → s.clear (.arbiter rod row a) = true →
    s.meets (.request rod row a (if x then 1 else 0), upsetPart upset (if x then 1 else 0) 1) b = true →
    s.beadAt (.request rod row a (if x then 0 else 1)) (upsetPart upset (if x then 0 else 1) 1) = none →
    Runs (.arbitrationGrant rod row a first upset) s fun t =>
      t.arbiter rod row a = ⟨some x, none⟩ ∧ t.took (.request rod row a (if x then 1 else 0)) b ∧ Kept s t [] [.fabric]) ∧
  (∀ (s : State) (rod row a : Nat) (first : Bool) (upset : Upset) (b0 b1 : Bead), s.ready = true →
    (s.arbiter rod row a).grant = none → s.clear (.arbiter rod row a) = true →
    s.meets (.request rod row a 0, upsetPart upset 0 1) b0 = true →
    s.meets (.request rod row a 1, upsetPart upset 1 1) b1 = true →
    Runs (.arbitrationGrant rod row a first upset) s fun t =>
      t.arbiter rod row a =
        ⟨some ((s.arbiter rod row a).owed.getD first), some (!(s.arbiter rod row a).owed.getD first)⟩ ∧
      Kept s t [] [.fabric]) ∧
  (∀ (s : State) (rod k : Nat) (upset : Upset) (a d b c : Bead) (z : DWord) (x : ReckonerSettings), s.ready = true →
    recBits (s.reckonerRecord rod k) 69 1 = 0 → x = settingsOf (s.reckonerRecord rod k) 0 →
    s.meets (reckonerPort rod k upset 0) a = true → s.meets (reckonerPort rod k upset 2) b = true →
    (x.pre = true → s.meets (reckonerPort rod k upset 1) d = true) →
    (x.zsel = 1 → s.meets (reckonerPort rod k upset 3) c = true) →
    s.reckonerClear rod k = true → s.reckonerZ rod k x (some (BitVec.ofNat 64 c.num)) = some z →
    Runs (.reckonerOperation rod k upset) s fun t =>
      (let m := (if x.pre then (if x.sub then a.operand - d.operand else a.operand + d.operand) else a.operand) * b.operand
      (t.reckoner rod k).acc = (if x.neg then z - m else z + m)) ∧
      (t.reckoner rod k).p = some (t.reckoner rod k).acc ∧ ((t.reckoner rod k).st.isSome ↔ x.st = true) ∧
      t.took (.reckoner rod k 0) a ∧ t.took (.reckoner rod k 2) b ∧ Kept s t [] [.fabric])

/-- A rate monitor's window ends with a rate, here the first of any monitor, which is then the lowest and the highest (R64).
Of the drivers of a segment the westmost is granted, or the one whose bead is on it, the others are masked and counted against
their rods, and the contention is logged; once the scrub has corrected the enables the guard masks none (R78, R79, R184). A
nonzero bead on a used FTO is taken and enters the Beam on the next tick (R88). Completes: rateWindow, contention,
contentionScrubDone, ftoBead. -/
def Obligations.MonitorsAndGuards : Prop :=
  (∀ (s : State) (m rate : Nat), s.ready = true → s.monitorRuns m = true → m < 3 * Part.rods s.part →
    s.fabric.monitors = [] → rate < 65536 →
    Runs (.rateWindow m rate) s fun t =>
      t.f F.PWR_RATE_MIN_RATE 0 = rate ∧ t.f F.PWR_RATE_MIN_INDEX 0 = m ∧ t.f F.PWR_RATE_MAX_RATE 0 = rate ∧
      t.f F.PWR_RATE_MAX_INDEX 0 = m ∧ t.fabric.monitors = [(m, ⟨rate, s.time⟩)] ∧
      Kept s t [(.PWR_RATE_MIN, 0), (.PWR_RATE_MAX, 0)] [.fabric]) ∧
  (∀ (s : State) (seg a b g m k : Nat), s.ready = true → a < b → b < 256 →
    (if s.segmentBusy seg = true then s.lineDriver seg = some g else g = a) → (g = a ∧ m = b ∨ g = b ∧ m = a) →
    s.physOf m = some k →
    Sparse.get [] s.repair.counted k = [] → 2 ≤ s.f F.REPAIR_WEAR_CFG_THRESH 0 → s.f F.CFG_CONT_SEG_VALID 0 = 0 →
    seg < 2 ^ 16 →
    Runs (.contention seg [b, a]) s fun t =>
      t.f F.CFG_CONT_STATUS_ACTIVE 0 = 1 ∧ t.f F.CFG_CONT_STATUS_CONTENTION 0 = 1 ∧
      t.f F.CFG_CONT_STATUS_COUNT 0 = s.counted F.CFG_CONT_STATUS_COUNT 0 1 ∧
      t.f F.CFG_CONT_SEG_SEG_ID 0 = seg ∧ t.f F.CFG_CONT_SEG_VALID 0 = 1 ∧
      t.f F.CFG_CONT_DRIVERS_GRANTED 0 = g ∧ t.f F.CFG_CONT_DRIVERS_MASKED 0 = m ∧ t.lineDriver seg = some g ∧
      t.f F.REPAIR_MON_COUNT_CORRECTED k = s.counted F.REPAIR_MON_COUNT_CORRECTED k 1 ∧
      Kept s t [(.CFG_CONT_STATUS, 0), (.CFG_CONT_SEG, 0), (.CFG_CONT_DRIVERS, 0), (.REPAIR_MON_COUNT, k)]
        [.fabric, .cfg, .repair]) ∧
  (∀ (s : State) (seg g rod k : Nat) (rods : List Nat), s.ready = true → s.fabric.contentions = [⟨seg, rods, g⟩] →
    (rods.filter fun r => Sparse.get 0 s.cfg.drivers seg != r + 1) = [rod] → s.scrubSkips rod = false →
    s.physOf rod = some k → Sparse.get [] s.repair.counted k = [] → 2 ≤ s.f F.REPAIR_WEAR_CFG_THRESH 0 →
    s.cfg.badFrames.contains (frameKey rod (driverFrame seg)) = false →
    Runs (.contentionScrubDone seg .single) s fun t =>
      t.f F.CFG_CONT_STATUS_ACTIVE 0 = 0 ∧ t.fabric.contentions = [] ∧
      t.f F.REPAIR_MON_COUNT_CORRECTED k = s.counted F.REPAIR_MON_COUNT_CORRECTED k 1 ∧
      Kept s t [(.CFG_CONT_STATUS, 0), (.CFG_SCRUB_STAT, 0), (.REPAIR_MON_COUNT, k)]
        [.fabric, .cfg, .repair, .ledger]) ∧
  (∀ (s : State) (n : Nat) (upset : Upset) (b : Bead), s.ready = true → n < 16 → tapUsed (s.tapEntry n) = true →
    s.meets (.fto n, upset) b = true → b.num % 4 ≠ 0 →
    Runs (.ftoBead n upset) s fun t =>
      ⟨.source (24 + n), s.time + 1⟩ ∈ t.beam.flight ∧ t.took (.fto n) b ∧
      Kept s t [(.BEAM_SRC_CNT, 24 + n)] [.beam, .fabric])

/-- The reads and writes of block memory ports on a row that its check finds clean, where REQ, and WD for a write, hold the
operation's beads: a read gives the word, a write replaces it and leaves every other row, and a read with a write gives the
word as it was; the beads are taken (R91, R92, R94, R95, R98). A NOP of a port takes its bead and does nothing more (R95), and
a row scrub that finds nothing goes on to the next row, its interval after the last (R93, R100). Completes: readRow, writeRow,
readWrite, nopPort, rowScrub. -/
def Obligations.BlockMemories : Prop :=
  (∀ (s : State) (rod m port : Nat) (upset : Upset) (b : Bead) (ds : List Digit), s.ready = true →
    s.portRuns rod m port = true → s.portClear rod m port = true →
    s.meets (.memReq rod m port, upsetPart upset 0 9) b = true → b.digits = 0 :: ds →
    s.rowPoisoned rod m (s.placed rod m port (digitsNat ds)).1 = false →
    Runs (.readRow rod m port upset .clean) s fun t =>
      Sparse.get [] t.mem.reads (portKey rod m port) = [BitVec.ofNat 72 (s.portWord rod m port (digitsNat ds))] ∧
      Sparse.get [] t.mem.statuses (portKey rod m port) = (if s.portStatus rod m port then [0] else []) ∧
      t.took (.memReq rod m port) b ∧ Kept s t [] [.mem, .fabric]) ∧
  (∀ (s : State) (rod m port : Nat) (upset : Upset) (b d : Bead) (ds : List Digit), s.ready = true →
    s.portRuns rod m port = true → s.meets (.memReq rod m port, upsetPart upset 0 9) b = true →
    s.meets (.memData rod m port, upsetPart upset 9 36) d = true → b.digits = 1 :: ds →
    s.rowPoisoned rod m (s.placed rod m port (digitsNat ds)).1 = false →
    Runs (.writeRow rod m port upset .clean) s fun t =>
      t.row rod m (s.placed rod m port (digitsNat ds)).1 / 2 ^ (s.placed rod m port (digitsNat ds)).2.1 %
          2 ^ (s.placed rod m port (digitsNat ds)).2.2 = d.num % 2 ^ (s.placed rod m port (digitsNat ds)).2.2 ∧
      OtherRows s t rod m (s.placed rod m port (digitsNat ds)).1 ∧ t.took (.memReq rod m port) b ∧
      t.took (.memData rod m port) d ∧ Kept s t [] [.mem, .cfg, .fabric]) ∧
  (∀ (s : State) (rod m port : Nat) (upset : Upset) (b d : Bead) (ds : List Digit), s.ready = true →
    s.portRuns rod m port = true → s.portClear rod m port = true →
    s.meets (.memReq rod m port, upsetPart upset 0 9) b = true →
    s.meets (.memData rod m port, upsetPart upset 9 36) d = true → b.digits = 2 :: ds →
    s.rowPoisoned rod m (s.placed rod m port (digitsNat ds)).1 = false →
    Runs (.readWrite rod m port upset .clean) s fun t =>
      t.row rod m (s.placed rod m port (digitsNat ds)).1 / 2 ^ (s.placed rod m port (digitsNat ds)).2.1 %
          2 ^ (s.placed rod m port (digitsNat ds)).2.2 = d.num % 2 ^ (s.placed rod m port (digitsNat ds)).2.2 ∧
      OtherRows s t rod m (s.placed rod m port (digitsNat ds)).1 ∧
      Sparse.get [] t.mem.reads (portKey rod m port) = [BitVec.ofNat 72 (s.portWord rod m port (digitsNat ds))] ∧
      Kept s t [] [.mem, .cfg, .fabric]) ∧
  (∀ (s : State) (rod m port : Nat) (upset : Upset) (b : Bead), s.ready = true →
    s.meets (.memReq rod m port, upsetPart upset 0 9) b = true → b.digits.head? = some 3 →
    Runs (.nopPort rod m port upset) s fun t => t.took (.memReq rod m port) b ∧ Kept s t [] [.fabric]) ∧
  (∀ (s : State) (rod m : Nat), s.ready = true → rod < Part.rods s.part → m < 32 →
    recBits (s.memRecord rod m) 8 1 ≠ 0 → s.gated rod = false → s.rowMovesPaused rod = false →
    s.rowPoisoned rod m (Sparse.get 0 s.mem.scrubRow (memKey rod m)) = false →
    Runs (.rowScrub rod m .clean) s fun t =>
      Sparse.get 0 t.mem.scrubRow (memKey rod m) = (Sparse.get 0 s.mem.scrubRow (memKey rod m) + 1) % 512 ∧
      Sparse.get 0 s.mem.scrubbedAt (memKey rod m) + BitVec.ofNat 64 (2 ^ (recBits (s.memRecord rod m) 9 3 + 10)) ≤ t.time ∧
      Kept s t [] [.mem, .clock])

/-- A queue takes a producer word where its bead stands at PD, with one at PC in packet mode: in stream mode the word is
committed at once, in packet mode a MORE word joins the open packet and a LAST word commits it, and an ABORT discards the open
packet (R106 to R109). A committed word is driven on CD, and one that every consumer has acknowledged is counted and read
(R107). A flush asked for by a bead on FL, by QUEUE.CTRL, or one that was pending empties a queue that drives no word and is
not within a packet, counts what it discards and sends FLUSHED; within a packet it stays pending; in HOLD_RECORD it only sends
FLUSHED; a bead 0b00 asks for none (R112, R121). The stale timer sends STALE once (R113). Completes: producerWord,
consumerWord, flushBead, flush, flushTakesEffect, stale. -/
def Obligations.Queues : Prop :=
  (∀ (s : State) (q : Nat) (upset : Upset) (b : Bead), s.ready = true → (s.queue q).discard = .none →
    s.packetMode q = false → s.producerTakes q 0 = true → s.meets (.queueData q, upsetPart upset 0 36) b = true →
    s.rowPoisoned (queueRod q) (s.queuePlace q (s.queue q).wr).2.1 (s.queuePlace q (s.queue q).wr).2.2.1 = false →
    Runs (.producerWord q upset .clean) s fun t =>
      (t.queue q).wr = (s.queue q).wr + 1 ∧ (t.queue q).cm = (s.queue q).wr + 1 ∧ (t.queue q).rd = (s.queue q).rd ∧
      t.pair .QUEUE_WORDS_IN_LO .QUEUE_WORDS_IN_HI q = (s.pair .QUEUE_WORDS_IN_LO .QUEUE_WORDS_IN_HI q + 1) % 2 ^ 64 ∧
      t.took (.queueData q) b ∧
      Kept s t [(.QUEUE_WORDS_IN_LO, q), (.QUEUE_WORDS_IN_HI, q), (.QUEUE_REC_PKTS, q)] [.mem, .cfg, .fabric]) ∧
  (∀ (s : State) (q : Nat) (upset : Upset) (b c : Bead) (ctl : BitVec 2), s.ready = true → (s.queue q).discard = .none →
    s.packetMode q = true → s.producerTakes q ctl = true → s.outgrows q ctl = false → (s.queue q).closing = false →
    s.meets (.queueData q, upsetPart upset 0 36) b = true → s.meets (.queueControl q, upsetPart upset 36 1) c = true →
    BitVec.ofNat 2 c.num = ctl → ctl.toNat < 2 →
    s.rowPoisoned (queueRod q) (s.queuePlace q (s.queue q).wr).2.1 (s.queuePlace q (s.queue q).wr).2.2.1 = false →
    Runs (.producerWord q upset .clean) s fun t =>
      (t.queue q).wr = (s.queue q).wr + 1 ∧ (t.queue q).rd = (s.queue q).rd ∧
      (t.queue q).cm = (if ctl = 1 then (s.queue q).wr + 1 else (s.queue q).cm) ∧
      t.f F.QUEUE_REC_PKTS_COUNT q = (s.f F.QUEUE_REC_PKTS_COUNT q + ctl.toNat) % 2 ^ 32 ∧
      t.took (.queueData q) b ∧ t.took (.queueControl q) c ∧
      Kept s t [(.QUEUE_WORDS_IN_LO, q), (.QUEUE_WORDS_IN_HI, q), (.QUEUE_REC_PKTS, q)] [.mem, .cfg, .fabric]) ∧
  (∀ (s : State) (q : Nat) (upset : Upset) (b c : Bead), s.ready = true → (s.queue q).discard = .none →
    s.packetMode q = true → s.producerTakes q 2 = true → (s.queue q).closing = false →
    s.meets (.queueData q, upsetPart upset 0 36) b = true → s.meets (.queueControl q, upsetPart upset 36 1) c = true →
    BitVec.ofNat 2 c.num = 2 →
    Runs (.producerWord q upset .clean) s fun t =>
      (t.queue q).wr = (s.queue q).cm ∧ (t.queue q).cm = (s.queue q).cm ∧
      t.f F.QUEUE_PKT_ERR_ABORTS q = s.counted F.QUEUE_PKT_ERR_ABORTS q 1 ∧
      t.f F.QUEUE_REC_DISCARD_WORDS q = s.counted F.QUEUE_REC_DISCARD_WORDS q ((s.queue q).wr - (s.queue q).cm) ∧
      Kept s t [(.QUEUE_WORDS_IN_LO, q), (.QUEUE_WORDS_IN_HI, q), (.QUEUE_PKT_ERR, q), (.QUEUE_REC_DISCARD, q)]
        [.mem, .fabric]) ∧
  (∀ (s : State) (q : Nat), s.ready = true → s.queueUsed q = true → s.queueHeld q = false →
    s.f F.QUEUE_STATUS_STATE q ≠ 0 → (s.queue q).cd = none → (s.queue q).rd < (s.queue q).cm →
    s.clear (.queueData q) = true → s.clear (.queueControl q) = true → s.joined (.queueData q) = false →
    s.rowPoisoned (queueRod q) (s.queuePlace q (s.queue q).rd).2.1 (s.queuePlace q (s.queue q).rd).2.2.1 = false →
    Runs (.consumerWord q .clean) s fun t =>
      (t.queue q).cd = some ⟨BitVec.ofNat 72 (wordOfRow
          (s.row (queueRod q) (s.queuePlace q (s.queue q).rd).2.1 (s.queuePlace q (s.queue q).rd).2.2.1)
          (s.queuePlace q (s.queue q).rd).2.2.2.1 (s.queuePlace q (s.queue q).rd).2.2.2.2),
        (s.queue q).lasts.headD true, false⟩ ∧
      (t.queue q).rd = (s.queue q).rd ∧ Kept s t [] [.mem]) ∧
  (∀ (s : State) (q : Nat) (w : CdWord) (x : EccFinding), s.ready = true → s.fabric.spent = [] →
    s.allTaken (s.together (.queueData q)) = true → (s.queue q).cd = some w → w.poison = false →
    (s.queue q).flushPending = false → (s.queue q).closing = false →
    Runs (.consumerWord q x) s fun t =>
      (t.queue q).cd = none ∧ (t.queue q).delivered = some w ∧
      (t.queue q).rd = (s.queue q).rd + (if (s.queue q).kept then 0 else 1) ∧
      t.pair .QUEUE_WORDS_OUT_LO .QUEUE_WORDS_OUT_HI q =
        (s.pair .QUEUE_WORDS_OUT_LO .QUEUE_WORDS_OUT_HI q + 1) % 2 ^ 64 ∧
      Kept s t (([(.QUEUE_WORDS_OUT_LO, q), (.QUEUE_WORDS_OUT_HI, q)] : Regs) ++ sinkRegs) [.mem, .fabric]) ∧
  (∀ (s : State) (q : Nat) (upset : Upset) (b : Bead), s.ready = true → s.queueUsed q = true → s.queueHeld q = false →
    s.f F.QUEUE_STATUS_STATE q ≠ 0 → (s.queue q).holdRecord = false → (s.queue q).midPacket = false →
    (s.queue q).closing = false → (s.queue q).onCd = 0 → s.meets (.queueFlush q, upset) b = true → b.num ≠ 0 →
    Runs (.flushBead q upset) s fun t => Flushed s t q [.mem, .fabric] ∧ t.took (.queueFlush q) b) ∧
  (∀ (s : State) (q : Nat) (upset : Upset) (b : Bead), s.ready = true → s.meets (.queueFlush q, upset) b = true → b.num = 0 →
    Runs (.flushBead q upset) s fun t => t.took (.queueFlush q) b ∧ Kept s t [] [.fabric]) ∧
  (∀ (s : State) (q : Nat), s.ready = true → s.queueUsed q = true → s.queueHeld q = false →
    s.f F.QUEUE_STATUS_STATE q ≠ 0 → (s.queue q).holdRecord = false → (s.queue q).midPacket = false →
    (s.queue q).closing = false → (s.queue q).onCd = 0 →
    Runs (.flush q) s fun t => Flushed s t q [.mem]) ∧
  (∀ (s : State) (q : Nat), s.ready = true → s.queueUsed q = true → (s.queue q).midPacket = true →
    Runs (.flush q) s fun t =>
      t.queue q = (if s.f F.QUEUE_STATUS_STATE q = 0 ∨ (s.queue q).holdRecord = true
        then { s.queue q with ceFlushed := true } else { s.queue q with flushPending := true }) ∧ Kept s t [] [.mem]) ∧
  (∀ (s : State) (q : Nat), s.ready = true → s.queueHeld q = false → (s.queue q).flushPending = true →
    (s.queue q).midPacket = false → (s.queue q).closing = false → (s.queue q).onCd = 0 →
    Runs (.flushTakesEffect q) s fun t => Flushed s t q [.mem]) ∧
  (∀ (s : State) (q : Nat), s.ready = true → s.queueUsed q = true → s.f F.QUEUE_STALE_CFG_STALE_UNITS q ≠ 0 →
    (s.queue q).rd < (s.queue q).cm → (s.queue q).staleSent = false → s.staleStopped (queueRod q) = false →
    Runs (.stale q) s fun t =>
      (t.queue q).ceStale = true ∧ (t.queue q).staleSent = true ∧
      t.word .QUEUE_STATUS q = changed (s.word .QUEUE_STATUS q) [(F.QUEUE_STATUS_STALE, 1)] ∧
      Kept s t [(.QUEUE_STATUS, q)] [.mem, .clock])

-- ------------------------------------------------------------------ loading

/-- CMD LOAD of a host-window image begins a load, and is refused with the reason that its checks give (R135, R151). The words
of a stream reach the loader, by CFG.STREAM or from their source; a word for which no host-window load runs is dropped and
counted (R127, R130, R143). A load ends when it is aborted, when its source ends before LENGTH, fails, or sends nothing for
SRC_TIMEOUT (R127, R135, R143), as a slot write shows. Completes: loadCmd, stream, streamWord, abortLoad, streamDone,
sourceTimeout. -/
def Obligations.Loads : Prop :=
  (∀ (s : State) (who : Who), s.ready = true → s.loadRefusal = none → s.f F.CFG_LOAD_CTRL_SRC 0 = 2 →
    s.f F.CFG_LOAD_CTRL_DEST 0 = 0 →
    Runs (.loadCmd who) s fun t =>
      t.cfg.load = some (newLoad .full 2 0 who) ∧
      t.word .CFG_STATUS 0 = changed (s.word .CFG_STATUS 0) [(F.CFG_STATUS_BUSY, 1), (F.CFG_STATUS_STATE, 2)] ∧
      Kept s t [(.CFG_STATUS, 0)] [.cfg]) ∧
  (∀ (s : State) (who : Who) (why : Reason), s.ready = true → s.loadRefusal = some why →
    Runs (.loadCmd who) s fun t => Refused s t F.CFG_STATUS_CMD_REFUSED 0 who why .CFG_CMD 0 0x10) ∧
  (∀ (s : State) (l : Load) (w : Word), s.loadsAt l .header = true → l.src = 2 → l.kind = .full → l.header.length < 63 →
    Runs (.stream w) s fun t =>
      t.cfg = { s.cfg with load := some { l with
        header := l.header ++ [w], crc := crcWord l.crc w, offset := l.offset + 4 } } ∧ Kept s t [] [.cfg]) ∧
  (∀ (s : State) (w : Word), s.ready = true →
    Runs (.stream w) s fun t =>
      t.f F.CFG_STATUS_WINDOW_DROP 0 = 1 ∧
      t.f F.CFG_WINDOW_DROPS_COUNT 0 = s.counted F.CFG_WINDOW_DROPS_COUNT 0 1 ∧
      Kept s t [(.CFG_STATUS, 0), (.CFG_WINDOW_DROPS, 0)] []) ∧
  (∀ (s : State) (l : Load) (w : Word), s.loadsAt l .header = true → l.src = 1 → l.kind = .full → l.header.length < 63 →
    Runs (.streamWord (.word w)) s fun t =>
      t.cfg = { s.cfg with load := some { l with
        header := l.header ++ [w], crc := crcWord l.crc w, offset := l.offset + 4 } } ∧ Kept s t [] [.cfg]) ∧
  (∀ (s : State) (who : Who) (l : Load) (n : Nat), s.loadsAt l .command = true → l.kind = .slot n → l.golden = false →
    l.src < 8 → l.offset < 2 ^ 32 →
    Runs (.abortLoad who) s fun t => LoadEnds s t l .aborted l.offset []) ∧
  (∀ (s : State) (who : Who), s.ready = true →
    Runs (.abortLoad who) s fun t => Refused s t F.CFG_STATUS_CMD_REFUSED 0 who .command .CFG_CMD 0 0x11) ∧
  (∀ (s : State) (who : Who) (l : Load) (n : Nat), s.loadsAt l .command = true → l.kind = .slot n → l.golden = false →
    l.src = 2 → l.ahead = [] → l.offset < 2 ^ 32 →
    Runs (.streamDone who) s fun t => LoadEnds s t l .earlyEnd l.offset []) ∧
  (∀ (s : State) (l : Load) (n : Nat), s.loadsAt l .command = true → l.kind = .slot n → l.golden = false →
    l.src = 1 → l.offset < 2 ^ 32 →
    Runs (.streamWord .error) s fun t => LoadEnds s t l .sourceError l.offset []) ∧
  (∀ (s : State) (l : Load) (n : Nat), s.loadsAt l .command = true → l.kind = .slot n → l.golden = false →
    l.src ≠ 0 → l.src < 8 → l.offset < 2 ^ 32 →
    Runs .sourceTimeout s fun t =>
      LoadEnds s t l .sourceTimeout l.offset [.clock] ∧
      t.time = s.time + BitVec.ofNat 64 (s.f F.CFG_SRC_TIMEOUT_TIMEOUT 0 * 1500))

/-- The stream registers a full image writes: FAR takes a frame address of the part, IDCHK and CRC pass on their value,
SPAN_TABLE, PIN_ISO and BEAM_MAP stage what they declare until START, a NOP skips its words; SPAN of a partial image must name
the span of its header (R133, R134, R136, R157, R160, R165, R280). Completes: far, skipWords, idchk, crc, spanTable, pinIso,
beamMap, span. -/
def Obligations.StreamRegisters : Prop :=
  (∀ (s : State) (l : Load) (v : Word), s.imageStream l 2 = true → v &&& 0xFC00FC00#32 = 0 → badFar s.part v.toNat = false →
    Runs (.far v) s fun t =>
      t.cfg = { s.cfg with load := some { l.took [0x10010001#32, v] with far := v.toNat } } ∧ Kept s t [] [.cfg]) ∧
  (∀ (s : State) (l : Load) (data : List Word), s.imageStream l (data.length + 1) = true → data.length < 65536 →
    Runs (.skipWords data) s fun t =>
      t.cfg = { s.cfg with load := some (l.took (BitVec.ofNat 32 (3 * 2 ^ 28 + data.length) :: data)) } ∧
      Kept s t [] [.cfg]) ∧
  (∀ (s : State) (l : Load) (v : Word), s.imageStream l 2 = true → v.toNat % 65536 = Part.dieId s.part →
    Runs (.idchk v) s fun t =>
      t.cfg = { s.cfg with load := some (l.took [0x10040001#32, v]) } ∧ Kept s t [] [.cfg]) ∧
  (∀ (s : State) (l : Load), s.imageStream l 2 = true →
    Runs (.crc (crcValue l.crc)) s fun t =>
      t.cfg = { s.cfg with load := some { l.took [0x10050001#32, crcValue l.crc] with
        sha := shaWord (shaWord l.sha 0x10050001#32) 0 } } ∧ Kept s t [] [.cfg]) ∧
  (∀ (s : State) (l : Load) (ws : List Word), s.fullStream l (ws.length + 1) = true → 18 ≤ ws.length → ws.length < 65536 →
    spanTableFault s.part l.spans ws = none →
    Runs (.spanTable ws) s fun t =>
      t.cfg = { s.cfg with load := some { l.took (BitVec.ofNat 32 (2 ^ 28 + 7 * 65536 + ws.length) :: ws) with
        spans := l.spans ++ [spanOfWords ws] } } ∧ Kept s t [] [.cfg]) ∧
  (∀ (s : State) (l : Load) (ws : List Word), s.fullStream l 25 = true → ws.length = 24 → pinIsoFault ws = none →
    Runs (.pinIso ws) s fun t =>
      t.cfg = { s.cfg with load := some { l.took (0x10080018#32 :: ws) with
        pinIso := BitVec.ofNat 768 (packWords ws) } } ∧ Kept s t [] [.cfg]) ∧
  (∀ (s : State) (l : Load) (ws : List Word), s.fullStream l (ws.length + 1) = true → 17 ≤ ws.length → l.beamMap = [] →
    s.beamMapFault ws false = none → l.fromGolden = false →
    Runs (.beamMap ws) s fun t =>
      t.cfg = { s.cfg with load := some { l.took (BitVec.ofNat 32 (2 ^ 28 + 9 * 65536 + ws.length) :: ws) with
        beamMap := ws } } ∧ Kept s t [] [.cfg]) ∧
  (∀ (s : State) (l : Load) (n : Nat) (v : Word), s.loadsAt l .command = true → l.kind = .span n →
    l.offset + 8 ≤ headerLength l.header - 8 → v.toNat % 256 = headerSpan l.header →
    Runs (.span v) s fun t =>
      t.cfg = { s.cfg with load := some { l.took [0x10060001#32, v] with spanSeen := true } } ∧ Kept s t [] [.cfg])

/-- The guard words of a full image reach the guard registers, and GUARD_LOCK arms the lock that START sets (R134, R383). A
BURST writes its frames of 128 words in ascending order from FAR, here frames of memory content of one rod; a burst of one
frame to any address of a gated rod that its record rules and the driver check admit writes that frame (R133, R136, R137,
R138). Completes: guardTbus, guardLane, guardPins, guardPower, guardPolicy, guardLock, burst. -/
def Obligations.ImageContents : Prop :=
  (∀ (s : State) (l : Load) (ws : List Word), s.fullStream l 19 = true → ws.length = 18 →
    Runs (.guardTbus ws) s fun t =>
      (∀ i, i < 18 → t.word .TBUS_GOV_IMG i = ws.getD i 0) ∧
      Kept s t ((List.range 18).map fun i => (.TBUS_GOV_IMG, i)) [.cfg]) ∧
  (∀ (s : State) (l : Load) (ws : List Word), s.fullStream l (ws.length + 1) = true → ws.length = Part.quads s.part →
    0 < ws.length →
    Runs (.guardLane ws) s fun t =>
      (∀ i, i < Part.quads s.part → t.word .LANE_TX_GUARD i = ws.getD i 0) ∧
      Kept s t ((List.range (Part.quads s.part)).map fun i => (.LANE_TX_GUARD, i)) [.cfg]) ∧
  (∀ (s : State) (l : Load) (ws : List Word), s.fullStream l 8 = true → ws.length = 7 →
    Runs (.guardPins ws) s fun t =>
      (∀ i, i < 7 → t.word .SEQ_GUARD_PINS i = ws.getD i 0) ∧
      Kept s t ((List.range 7).map fun i => (.SEQ_GUARD_PINS, i)) [.cfg]) ∧
  (∀ (s : State) (l : Load) (v : Word), s.fullStream l 2 = true →
    Runs (.guardPower v) s fun t =>
      t.word .SEQ_POWER_CEIL 0 = changed (s.word .SEQ_POWER_CEIL 0) [(F.SEQ_POWER_CEIL_CEIL_IMG, v.toNat % 1024)] ∧
      Kept s t [(.SEQ_POWER_CEIL, 0)] [.cfg]) ∧
  (∀ (s : State) (l : Load) (v : Word), s.fullStream l 2 = true → v.toNat % 4 ≠ 3 →
    Runs (.guardPolicy v) s fun t =>
      t.word .SEQ_GUARD_POLICY 0 = v &&& 7#32 ∧ Kept s t [(.SEQ_GUARD_POLICY, 0)] [.cfg]) ∧
  (∀ (s : State) (l : Load), s.fullStream l 2 = true →
    Runs (.guardLock 1) s fun t =>
      t.cfg = { s.cfg with load := some { l.took [0x101F0001#32, 1] with lockArmed := true } } ∧ Kept s t [] [.cfg]) ∧
  (∀ (s : State) (l : Load) (n : Nat) (data : List Word), s.imageStream l (128 * n + 1) = true → data.length = 128 * n →
    0 < n → n < 512 → 640 ≤ recBits l.far 0 10 → recBits l.far 0 10 + n ≤ 928 → l.far < 2 ^ 26 → recBits l.far 10 6 = 0 →
    badFar s.part l.far = false → s.lostRod (recBits l.far 16 10) = false →
    (∀ k, k < n → inExtents l.header (recBits l.far 16 10) (recBits l.far 0 10 + k) = true) →
    Runs (.burst data) s fun t =>
      (∀ k, k < n → t.frame (recBits l.far 16 10) (recBits l.far 0 10 + k) =
        BitVec.ofNat 4096 (packWords ((data.drop (128 * k)).take 128))) ∧
      (∀ rod frame, frame < 1024 → rod ≠ recBits l.far 16 10 ∨ frame < recBits l.far 0 10 ∨ recBits l.far 0 10 + n ≤ frame →
        t.frame rod frame = s.frame rod frame) ∧
      Kept s t [] [.cfg, .mem]) ∧
  (∀ (s : State) (l : Load) (data : List Word), s.imageStream l 129 = true → data.length = 128 →
    s.gated (recBits l.far 16 10) = true → badFar s.part l.far = false → s.lostRod (recBits l.far 16 10) = false →
    inExtents l.header (recBits l.far 16 10) (recBits l.far 0 10) = true →
    s.frameBad (recBits l.far 16 10) (recBits l.far 0 10) (BitVec.ofNat 4096 (packWords data)) = false →
    s.driverClash (recBits l.far 16 10) (recBits l.far 0 10)
      (s.after (recBits l.far 16 10) (recBits l.far 0 10) (BitVec.ofNat 4096 (packWords data))) = none →
    Runs (.burst data) s fun t =>
      t.frame (recBits l.far 16 10) (recBits l.far 0 10) = BitVec.ofNat 4096 (packWords data) ∧
      (∀ rod frame, frame < 1024 → rod ≠ recBits l.far 16 10 ∨ frame ≠ recBits l.far 0 10 →
        t.frame rod frame = s.frame rod frame) ∧
      Kept s t [] [.cfg, .mem])

/-- END with a coverage, a digest and a CRC that pass ends a full image, whose START then enters the Beam, and a partial
image, whose span goes to RELEASING (R130, R135, R143, R149, R164); a START that stands last before END does the same.
Completes: endWord, startWord. -/
def Obligations.ImagesEnd : Prop :=
  (∀ (s : State) (l : Load), s.loadsAt l .command = true → l.kind = .full → l.offset = headerLength l.header - 8 →
    l.started = true → (∀ rod, rod < Part.rods s.part → Sparse.get 0 l.cover rod = BitVec.allOnes 960) →
    shaDigest (shaWord l.sha 0xF0000000#32) = headerDigest l.header →
    Runs (.endWord (crcValue (crcWord l.crc 0xF0000000#32))) s fun t =>
      t.cfg.load = none ∧ t.cfg.starting.isSome = true ∧ ⟨.direct 38, s.time + 1⟩ ∈ t.beam.flight ∧
      Kept s t [] [.cfg, .beam]) ∧
  (∀ (s : State) (l : Load) (n : Nat), s.loadsAt l .command = true → l.kind = .span n → n < 16 →
    l.offset = headerLength l.header - 8 → shaDigest (shaWord l.sha 0xF0000000#32) = headerDigest l.header → l.scrub = none →
    Runs (.endWord (crcValue (crcWord l.crc 0xF0000000#32))) s fun t =>
      t.cfg.load = none ∧ t.f F.CFG_SPAN_STATUS_STATE n = 6 ∧ t.f F.CFG_STATUS_BUSY 0 = 0 ∧
      Kept s t [(.CFG_SPAN_STATUS, n), (.CFG_STATUS, 0)] [.cfg]) ∧
  (∀ (s : State) (l : Load), s.loadsAt l .command = true → l.kind = .full → l.offset + 16 = headerLength l.header →
    (∀ rod, rod < Part.rods s.part → Sparse.get 0 l.cover rod = BitVec.allOnes 960) →
    shaDigest ([0x10030001#32, 1, 0xF0000000#32].foldl shaWord l.sha) = headerDigest l.header →
    Runs (.startWord (crcValue ([0x10030001#32, 1, 0xF0000000#32].foldl crcWord l.crc))) s fun t =>
      t.cfg.load = none ∧ t.cfg.starting.isSome = true ∧ ⟨.direct 38, s.time + 1⟩ ∈ t.beam.flight ∧
      Kept s t [] [.cfg, .beam])

-- ------------------------------------------------------------------ spans

/-- SPAN_CMD: LOAD of a host-window image and RELEASE of an isolated span begin at once, ISOLATE of a running span closes the
fences of its NIs, RESET gates the span for its release, or is taken up by a FABRIC_RESET in progress (R31), and a request
that names no span is refused (R164, R166). Completes: spanLoad, isolate, release, spanReset. -/
def Obligations.SpanRequests : Prop :=
  (∀ (s : State) (who : Who) (n : Nat) (d : SpanDecl), s.ready = true → s.spanDecl n = some d → n < 16 →
    s.spanFree d = true → s.spanState n = 1 ∨ s.spanState n = 3 ∨ s.spanState n = 5 → s.f F.CFG_LOAD_CTRL_SRC 0 = 2 →
    Runs (.spanLoad who n) s fun t =>
      t.cfg.load = some (newLoad (.span n) 2 0 who) ∧ t.cfg.spanOp = some ⟨n, 1, who, false, 0⟩ ∧
      t.word .CFG_STATUS 0 = changed (s.word .CFG_STATUS 0) [(F.CFG_STATUS_BUSY, 1)] ∧
      Kept s t [(.CFG_STATUS, 0)] [.cfg]) ∧
  (∀ (s : State) (who : Who) (n : Nat) (d : SpanDecl), s.ready = true → s.spanDecl n = some d → n < 16 →
    s.spanFree d = true → s.spanState n = 1 → s.f F.CFG_SPAN_DRAIN_US 0 ≠ 0 →
    Runs (.isolate who n) s fun t =>
      t.spanState n = 2 ∧ t.cfg.spanOp = some ⟨n, 2, who, false, 0⟩ ∧
      (∀ k, k < 96 → d.nis.getLsbD k = true → niPresent s.part k = true → s.fence k = 0 →
        t.fence k = 1 ∧ t.f F.NI_FENCE_STATUS_CAUSE k = 2) ∧
      Kept s t (((.CFG_SPAN_STATUS, n) :: fenceRegs (spanNis d) : Regs) ++ s.gateRegs) [.cfg, .net, .ledger]) ∧
  (∀ (s : State) (who : Who) (n : Nat) (d : SpanDecl), s.ready = true → s.spanDecl n = some d → n < 16 →
    s.spanFree d = true → s.spanState n = 3 →
    Runs (.release who n) s fun t =>
      t.word .CFG_SPAN_STATUS n = changed (s.word .CFG_SPAN_STATUS n) [(F.CFG_SPAN_STATUS_STATE, 6)] ∧
      t.cfg.spanOp = some ⟨n, 3, who, false, 0⟩ ∧ Kept s t [(.CFG_SPAN_STATUS, n)] [.cfg, .ledger]) ∧
  (∀ (s : State) (who : Who) (n : Nat) (same : Bool) (d : SpanDecl), s.ready = true → s.spanDecl n = some d → n < 16 →
    s.spanFree d = true → s.spanState n = 1 ∨ s.spanState n = 3 → s.resetAbsorbs = false → s.edgesEmpty = true →
    Runs (.spanReset who n same) s fun t =>
      t.cfg.releases = s.cfg.releases ++ [⟨.span n, .spanReset, s.time + 1⟩] ∧
      t.cfg.spanOp = some ⟨n, 4, who, false, 0⟩ ∧ (∀ rod, d.rods.getLsbD rod = true → t.gated rod = true) ∧
      (∀ x, d.rods.getLsbD (s.sourceRod x) = true → t.driven x = none) ∧ Kept s t [] [.cfg, .ledger, .fabric]) ∧
  (∀ (s : State) (who : Who) (n : Nat) (same : Bool) (d : SpanDecl), s.ready = true → s.spanDecl n = some d → n < 16 →
    s.spanFree d = true → s.spanState n = 1 ∨ s.spanState n = 3 → s.resetAbsorbs = true →
    Runs (.spanReset who n same) s fun t =>
      Entered s t who.origin 5 (n + 64) (digestBody (match s.cfg.spanDigest.find? (·.1 == n) with
        | some (_, x) => x.toNat
        | none => s.pair .CFG_DIGEST_LO .CFG_DIGEST_HI 0) 0) ∧ Kept s t [] [.ledger]) ∧
  (∀ (s : State) (who : Who) (n : Nat), s.ready = true → s.spanDecl n = none → n < 16 →
    Runs (.release who n) s fun t =>
      t.f F.CFG_SPAN_STATUS_REFUSED n = 1 ∧ t.f F.CFG_STATUS_CMD_REFUSED 0 = 1 ∧
      Entered s t who.origin 2 (256 * 6 + who.ni.toNat)
        ⟨csrOffset .CFG_SPAN_CMD 0, (s.word .CFG_SPAN_CMD 0).toNat, 3 + 256 * n, 0⟩ ∧
      Kept s t [(.CFG_SPAN_STATUS, n), (.CFG_STATUS, 0)] [.ledger])

/-- A draining span is ISOLATED one tick after all its NIs are closed, or once the limit of R162 closed them; its rods settle
no earlier than 16 ticks on (R161, R162, R166). A RELEASING span, here one whose rods hold no queue work and no waiting taps,
opens its gates and the NIs its image uses, after a load with the settings, pins and NIs of its new image (R17); it is RUNNING
once all rods have reported (R161, R164, R166). A span RESET puts every stage of its rods into its initial state (R49, R120,
R164). Completes: isolationTick, spanDrainTimeout, spanSettled, spanReleaseTick, spanRunning, initialStateRelease. -/
def Obligations.SpanEngine : Prop :=
  (∀ (s : State) (n : Nat) (d : SpanDecl) (o : SpanOp), s.ready = true → s.spanDecl n = some d → n < 16 →
    s.spanState n = 2 → s.niClosed (spanNis d) = true → s.cfg.spanOp = some o → o.icp = false →
    Runs (.isolationTick n) s fun t =>
      t.time = s.time + 1 ∧ t.spanState n = 3 ∧ t.cfg.spanOp = none ∧ n ∈ t.cfg.spanSettling ∧
      Kept s t [(.CFG_SPAN_STATUS, n)] [.clock, .cfg, .pins, .fabric]) ∧
  (∀ (s : State) (n k : Nat) (d : SpanDecl), s.ready = true → s.cfg.spans = [d] → d.id = n → n < 16 → s.spanState n = 2 →
    spanNis d = [k] → s.fence k = 1 → (s.ni k).fenceLimit ≠ 0 → s.drainHeld k = false → (s.ni k).delivered = [] →
    (s.ni k).posted = [] → (s.ni k).fenceAsked = [2] →
    Runs (.spanDrainTimeout n) s fun t =>
      2 ≤ t.fence k ∧ t.f F.NI_FENCE_STATUS_LIMIT_HIT k = 1 ∧
      t.word .CFG_SPAN_STATUS n = changed (s.word .CFG_SPAN_STATUS n) [(F.CFG_SPAN_STATUS_DRAIN_TIMEOUT, 1)] ∧
      Kept s t [(.CFG_SPAN_STATUS, n), (.NI_FENCE_STATUS, k)] [.clock, .net, .ledger]) ∧
  (∀ (s : State) (n wait : Nat), s.ready = true → n ∈ s.cfg.spanSettling →
    Runs (.spanSettled n wait) s fun t =>
      t.time = s.time + BitVec.ofNat 64 (max 16 wait) ∧
      t.cfg.spanSettling = s.cfg.spanSettling.filter (· != n) ∧ Kept s t [] [.clock, .cfg]) ∧
  (∀ (s : State) (n : Nat) (d : SpanDecl), s.still = true → s.spanDecl n = some d → n < 16 →
    s.spanState n = 6 → n ∉ s.cfg.spanReleased → (∀ o, s.cfg.spanOp = some o → o.op = 3) → s.mem.queues = [] →
    s.fabric.latches = [] → s.fabric.taps = [] →
    Runs (.spanReleaseTick n) s fun t =>
      t.time = s.time + 1 ∧ t.spanClosed n = false ∧
      (∀ k, k < 96 → d.nis.getLsbD k = true → s.net.used.getLsbD k = true → (niRods k).any s.lostRod = false →
        2 ≤ s.fence k → t.fence k = 0) ∧
      Kept s t (fenceRegs (spanNis d)) [.clock, .cfg, .net, .ledger, .fabric]) ∧
  (∀ (s : State) (n : Nat) (d : SpanDecl) (o : SpanOp), s.still = true → s.edgesEmpty = true → s.spanDecl n = some d → n < 16 →
    s.spanState n = 6 → n ∉ s.cfg.spanReleased → s.cfg.spanOp = some o → o.span = n → o.op = 1 → d.pins = 0 →
    Runs (.spanReleaseTick n) s fun t =>
      t.time = s.time + 1 ∧ t.spanClosed n = false ∧ t.net.used = (s.net.used &&& ~~~d.nis) ||| (s.usedNis &&& d.nis) ∧
      (∀ c : CellId, d.rods.getLsbD c.rod = true → c.row < 96 → c.cell < 128 → t.stage c = s.stageInit c) ∧
      (∀ k, k < 96 → d.nis.getLsbD k = true → s.usedNis.getLsbD k = true → (niRods k).any s.lostRod = false →
        2 ≤ s.fence k → t.fence k = 0) ∧
      Kept s t (fenceRegs (spanNis d) ++
          allOf [.QUEUE_CONFIG, .QUEUE_STALE_CFG, .QUEUE_MAX_PKT, .QUEUE_CTRL, .QUEUE_STATUS, .QUEUE_REC_PKTS, .QUEUE_REC_DISCARD] 2048)
        [.clock, .cfg, .net, .ledger, .fabric, .mem, .dev]) ∧
  (∀ (s : State) (n wait : Nat) (o : SpanOp), s.still = true → n < 16 → s.spanState n = 6 → n ∈ s.cfg.spanReleased →
    s.recordQueues = [] → s.cfg.spanOp = some o → o.op = 3 → o.icp = false → s.cfg.fabricResetWaiting = false →
    Runs (.spanRunning n wait) s fun t =>
      t.time = s.time + BitVec.ofNat 64 (max 16 wait) ∧
      t.word .CFG_SPAN_STATUS n = changed (s.word .CFG_SPAN_STATUS n) [(F.CFG_SPAN_STATUS_STATE, 1)] ∧
      t.cfg.spanOp = none ∧ Kept s t [(.CFG_SPAN_STATUS, n)] [.clock, .cfg]) ∧
  (∀ (s : State) (n wait : Nat) (d : SpanDecl) (o : SpanOp) (x : Release), s.still = true →
    s.spanDecl n = some d → s.cfg.releases = [x] → x.reach = .span n → x.cause = .spanReset → s.mem.queues = [] →
    s.spanState n = 1 → s.cfg.spanOp = some o → o.icp = false → s.cfg.fabricResetWaiting = false →
    Runs (.initialStateRelease wait) s fun t =>
      (∀ c : CellId, d.rods.getLsbD c.rod = true → c.row < 96 → c.cell < 128 → t.stage c = s.stageInit c) ∧
      t.cfg.releases = [] ∧ t.cfg.spanOp = none ∧ Kept s t [] [.clock, .cfg, .fabric, .mem])

/-- The ICP takes a RELEASE bead as SPAN_CMD does, and shows BUSY; a reserved command is refused with a bead on ICP_R; the
words on ICP_D feed the ICP's load, or are dropped and counted (R168). CMD SCRUB_ON and SCRUB_OFF; the scrub of a frame
corrects a single-bit error and counts it, reloads a frame with a double-bit error from its source, and leaves one whose
source is gone as it was read, with FRAME_LOST (R135, R155, R156, R184); the frames of a contention's rods come first (R79).
Completes: icpCmd, icpD, scrubOn, scrubOff, frameScrub. -/
def Obligations.IcpAndScrub : Prop :=
  (∀ (s : State) (upset : Upset) (b : Bead) (d : SpanDecl), s.ready = true → s.meets (.icpCommand, upset) b = true →
    s.icpRoom = true → b.num % 65536 = 0x0303 → s.spanDecl 3 = some d → s.spanFree d = true → s.spanState 3 = 3 →
    Runs (.icpCmd upset) s fun t =>
      t.f F.CFG_ICP_STATUS_BUSY 0 = 1 ∧ t.spanState 3 = 6 ∧ t.cfg.spanOp = some ⟨3, 3, ⟨0x20, 0xFF⟩, true, 0⟩ ∧
      t.took .icpCommand b ∧ Kept s t [(.CFG_ICP_STATUS, 0), (.CFG_SPAN_STATUS, 3)] [.cfg, .ledger, .fabric, .fresh]) ∧
  (∀ (s : State) (upset : Upset) (b : Bead), s.ready = true → s.meets (.icpCommand, upset) b = true →
    s.icpRoom = true → b.num % 65536 = 0x0308 →
    Runs (.icpCmd upset) s fun t =>
      t.cfg.icpResults = s.cfg.icpResults ++ [icpBead 0 (s.spanState 3) 3 true] ∧ t.took .icpCommand b ∧
      Kept s t [(.CFG_ICP_STATUS, 0), (.CFG_SPAN_STATUS, 3), (.CFG_STATUS, 0)] [.cfg, .ledger, .fabric]) ∧
  (∀ (s : State) (upset : Upset) (b : Bead), s.ready = true → s.meets (.icpData, upset) b = true →
    Runs (.icpD upset) s fun t =>
      t.f F.CFG_ICP_STATUS_DROP 0 = 1 ∧ t.f F.CFG_ICP_STATUS_DROPS 0 = s.counted F.CFG_ICP_STATUS_DROPS 0 1 ∧
      t.took .icpData b ∧ Kept s t [(.CFG_ICP_STATUS, 0)] [.fabric]) ∧
  (∀ (s : State) (l : Load) (n : Nat) (upset : Upset) (b : Bead), s.loadsAt l .header = true → l.kind = .span n →
    l.icp = true → s.meets (.icpData, upset) b = true → l.header.length < 63 →
    Runs (.icpD upset) s fun t =>
      t.cfg = { s.cfg with load := some { l with
        header := l.header ++ [BitVec.ofNat 32 b.num], crc := crcWord l.crc (BitVec.ofNat 32 b.num), offset := l.offset + 4 } } ∧
      t.took .icpData b ∧ Kept s t [] [.cfg, .fabric]) ∧
  (∀ s : State, s.ready = true →
    Runs .scrubOn s (fun t =>
      t.word .CFG_STATUS 0 = changed (s.word .CFG_STATUS 0) [(F.CFG_STATUS_SCRUB_ON, 1)] ∧ Kept s t [(.CFG_STATUS, 0)] []) ∧
    Runs .scrubOff s (fun t =>
      t.word .CFG_STATUS 0 = changed (s.word .CFG_STATUS 0) [(F.CFG_STATUS_SCRUB_ON, 0)] ∧ Kept s t [(.CFG_STATUS, 0)] [])) ∧
  (∀ s : State, s.ready = true → s.cfg.scrubFirst = [] → s.f F.CFG_STATUS_SCRUB_ON 0 = 1 → s.cfg.starting = none →
    s.cfg.scrubFrame < 639 →
    Runs (.frameScrub .clean) s fun t =>
      t.time = s.time + BitVec.ofNat 64 (max 0x100 (s.f F.CFG_SCRUB_CTRL_INTERVAL 0)) ∧
      t.cfg = { s.cfg with scrubFrame := s.cfg.scrubFrame + 1 } ∧ Kept s t [] [.clock, .cfg]) ∧
  (∀ (s : State) (rod frame : Nat) (rest : List (Nat × Nat)), s.ready = true → s.cfg.scrubFirst = (rod, frame) :: rest →
    frame < 639 →
    Runs (.frameScrub .clean) s fun t =>
      t.cfg = { s.cfg with scrubFirst := (rod, frame + 1) :: rest } ∧ Kept s t [] [.cfg]) ∧
  (∀ (s : State) (rod frame k : Nat), s.ready = true → s.scrubsNext rod frame = true → s.physOf rod = some k →
    Sparse.get [] s.repair.counted k = [] → 2 ≤ s.f F.REPAIR_WEAR_CFG_THRESH 0 →
    Runs (.frameScrub .single) s fun t =>
      t.f F.CFG_SCRUB_STAT_CORRECTED 0 = s.counted F.CFG_SCRUB_STAT_CORRECTED 0 1 ∧ t.cfg.frames = s.cfg.frames ∧
      t.f F.REPAIR_MON_COUNT_CORRECTED k = s.counted F.REPAIR_MON_COUNT_CORRECTED k 1 ∧
      Kept s t [(.CFG_SCRUB_STAT, 0), (.REPAIR_MON_COUNT, k)] [.clock, .cfg, .repair]) ∧
  (∀ (s : State) (rod frame k : Nat) (flip : BitVec 4096) (same : Bool), s.still = true → s.scrubsNext rod frame = true →
    s.physOf rod = some k → s.repair.doubleBit.contains (k, frame) = false →
    Runs (.frameScrub (.double flip same)) s fun t =>
      (if (s.sourceOf rod frame).any (s.sourceGood · same) = true
        then t.frame rod frame = Sparse.get 0 s.cfg.loaded (frameKey rod frame) ∧ t.f F.CFG_SCRUB_LAST_LOST 0 = 0
        else t.frame rod frame = s.frame rod frame ^^^ flip ∧ t.f F.CFG_STATUS_FRAME_LOST 0 = 1 ∧
          t.f F.CFG_SCRUB_LAST_LOST 0 = 1) ∧
      t.f F.CFG_SCRUB_STAT_DOUBLE 0 = s.counted F.CFG_SCRUB_STAT_DOUBLE 0 1 ∧ t.f F.CFG_STATUS_FRAME_ERR 0 = 1 ∧
      t.f F.CFG_SCRUB_LAST_FAR 0 = 65536 * rod + frame ∧
      Kept s t [(.CFG_STATUS, 0), (.CFG_SCRUB_STAT, 0), (.CFG_SCRUB_LAST, 0)] [.clock, .cfg, .ledger, .repair, .mem])

-- ------------------------------------------------------------------ start, capture and readback

/-- At its release tick START gives every stage its initial state, takes the image's settings and declarations, knows the NIs
that its routing uses, shows its identity and enters user mode (R17, R49, R149, R164, R384). A HOST_DEADLINE that runs out
loads slot 0, whose START then sets HOST_DEADLINE (R148). FABRIC_RESET gates every rod on the next tick, and its release puts
every stage, reckoner and arbiter into its initial state (R30, R31, R49). Completes: initialStateRelease, hostDeadline,
fabricReset. -/
def Obligations.StartAndFabricReset : Prop :=
  (∀ (s : State) (l : Load) (wait : Nat) (x : Release), s.still = true → s.cfg.releases = [x] →
    x.cause = .start → s.cfg.starting = some l → (∀ d, d ∈ l.spans → d.id < 16) →
    s.f F.SEQ_BOOT_STATUS_LOADED 0 = 0 → l.src < 8 → l.slot < 8 →
    Runs (.initialStateRelease wait) s fun t =>
      t.f F.DEV_STATUS_USER_MODE 0 = 1 ∧ t.f F.DEV_STATUS_CONFIG_FAILED 0 = 0 ∧ t.f F.SEQ_GUARD_STATUS_LOCKED 0 = 1 ∧
      t.f F.CFG_STATUS_BUSY 0 = 0 ∧ t.f F.CFG_STATUS_STATE 0 = 3 ∧ (l.deadline = true → t.f F.CFG_STATUS_HOST_DEADLINE 0 = 1) ∧
      t.f F.CFG_STATUS_GOLDEN_ACTIVE 0 = (if l.src = 0 ∧ l.slot = 0 then 1 else 0) ∧
      t.pair .CFG_DIGEST_LO .CFG_DIGEST_HI 0 = (headerDigest l.header).toNat ∧
      t.pair .CFG_BUILD_LO .CFG_BUILD_HI 0 = (headerBuild l.header).toNat ∧
      t.f F.CFG_LOADED_SRC 0 = l.src ∧ t.f F.CFG_LOADED_SLOT 0 = l.slot ∧
      t.f F.CFG_LOADED_COUNT 0 = s.counted F.CFG_LOADED_COUNT 0 1 ∧
      (∀ n, n < 16 → t.spanState n = if l.spans.any (·.id == n) then 1 else 0) ∧
      t.fabric.stages = [] ∧ t.fabric.arbiters = [] ∧ t.fabric.reckoners = [] ∧
      t.cfg.spans = l.spans ∧ t.cfg.starting = none ∧ t.net.used = s.usedNis ∧ t.cfg.frames = s.cfg.frames ∧ t.cfg.store = s.cfg.store ∧
      t.repair = s.repair ∧ t.beam = s.beam ∧ t.record = s.record ∧ t.host = s.host ∧ t.store = s.store ∧ t.hbm = s.hbm) ∧
  (∀ s : State, s.ready = true → s.cfg.bootWaiting = true → s.cfg.header.hostDeadline ≠ 0 →
    s.cfg.starting = none → (s.headerFault ((List.range 64).map fun i => s.nvWord (slotBase 0 + 4 * i)) none) = none →
    Runs .hostDeadline s fun t =>
      t.f F.CFG_STATUS_BUSY 0 = 1 ∧ t.cfg.load.any (fun l => l.deadline && l.src == 0 && l.slot == 0) = true ∧
      t.cfg.bootWaiting = false ∧ t.cfg.store = s.cfg.store ∧ t.cfg.frames = s.cfg.frames ∧
      Kept s t (([(.CFG_STATUS, 0), (.SEQ_POWER_CEIL, 0), (.SEQ_GUARD_POLICY, 0)] : Regs) ++ allOf [.TBUS_GOV_IMG, .LANE_TX_GUARD, .SEQ_GUARD_PINS] 64)
        [.clock, .cfg, .ledger]) ∧
  (∀ (s : State) (who : Who), s.ready = true → s.fpdChanging = false → s.repair.step = none → s.cfg.starting = none →
    s.cfg.spanOp = none → s.capState = 0 → s.cfg.load = none → s.edgesEmpty = true →
    Runs (.fabricReset who) s fun t =>
      t.time = s.time + 1 ∧ t.cfg.releases = s.cfg.releases ++ [⟨.all, .fabricReset, t.time⟩] ∧
      (∀ x, t.driven x = none) ∧ Kept s t [] [.clock, .cfg, .fabric]) ∧
  (∀ (s : State) (wait : Nat) (x : Release), s.still = true → s.cfg.releases = [x] →
    x.cause = .fabricReset → s.mem.queues = [] →
    Runs (.initialStateRelease wait) s fun t =>
      t.fabric.stages = [] ∧ t.fabric.arbiters = [] ∧ t.fabric.reckoners = [] ∧ t.mem.reads = [] ∧ t.cfg.releases = [] ∧
      t.cfg.frames = s.cfg.frames ∧ Kept s t [] [.clock, .cfg, .fabric, .mem])

/-- CMD FREEZE arms a capture in its mode, an AT_TIME capture enters its event nine ticks before CAP_TIME, FREEZE acts nine
ticks after it entered, the capture is FROZEN once every rod has settled and no earlier than 16 ticks on, and CMD THAW ends it
on the next tick (R173, R174). Completes: freeze, capTimeReached, beamEventAct, captureSettled, thaw, thawTick. -/
def Obligations.Captures : Prop :=
  (∀ (s : State) (who : Who), s.ready = true → s.freezeBarred = false → s.capState = 0 → s.f F.CFG_CAP_CTRL_MODE 0 = 0 →
    Runs (.freeze who) s fun t =>
      t.word .CFG_CAP_STATUS 0 = changed (s.word .CFG_CAP_STATUS 0) [(F.CFG_CAP_STATUS_STATE, 1)] ∧
      ⟨.direct 34, s.time + 1⟩ ∈ t.beam.flight ∧ Kept s t [(.CFG_CAP_STATUS, 0)] [.cfg, .beam]) ∧
  (∀ (s : State) (who : Who), s.ready = true → s.freezeBarred = false → s.capState = 0 →
    s.f F.CFG_CAP_CTRL_MODE 0 = 1 ∧ s.now.toNat + 16 ≤ s.capTime ∨ s.f F.CFG_CAP_CTRL_MODE 0 = 2 →
    Runs (.freeze who) s fun t =>
      t.word .CFG_CAP_STATUS 0 = changed (s.word .CFG_CAP_STATUS 0) [(F.CFG_CAP_STATUS_STATE, 1)] ∧
      t.cfg.freezeArmed = decide (s.f F.CFG_CAP_CTRL_MODE 0 = 2) ∧ Kept s t [(.CFG_CAP_STATUS, 0)] [.cfg]) ∧
  (∀ s : State, s.ready = true → s.capState = 1 → s.f F.CFG_CAP_CTRL_MODE 0 = 1 →
    s.beam.flight.any (fun e => e.origin == .direct 34) = false →
    Runs .capTimeReached s fun t =>
      (s.time.toNat < (BitVec.ofNat 64 (s.capTime - 9) - s.timeOffset).toNat →
        t.now = BitVec.ofNat 64 (s.capTime - 9)) ∧
      ⟨.direct 34, t.time⟩ ∈ t.beam.flight ∧ Kept s t [] [.clock, .beam]) ∧
  (∀ (s : State) (e : DWord), s.ready = true → s.capState = 1 → s.beam.flight = [⟨.direct 34, e⟩] →
    s.time.toNat < (e + 9).toNat →
    Runs .beamEventAct s fun t =>
      t.time = e + 9 ∧ t.beam.flight = [] ∧ t.capState = 2 ∧ t.pair .CFG_CAP_AT_LO .CFG_CAP_AT_HI 0 = t.now.toNat ∧
      t.f F.CFG_CAP_STATUS_CAP_SEQ 0 = (s.f F.CFG_CAP_STATUS_CAP_SEQ 0 + 1) % 65536 ∧
      Kept s t [(.CFG_CAP_STATUS, 0), (.CFG_CAP_AT_LO, 0), (.CFG_CAP_AT_HI, 0)] [.clock, .beam, .cfg, .record, .fabric]) ∧
  (∀ (s : State) (wait : Nat), s.ready = true → s.capState = 2 →
    Runs (.captureSettled wait) s fun t =>
      t.word .CFG_CAP_STATUS 0 = changed (s.word .CFG_CAP_STATUS 0) [(F.CFG_CAP_STATUS_STATE, 3)] ∧
      (s.cfg.captureFrom + 16).toNat ≤ t.time.toNat ∧ Kept s t [(.CFG_CAP_STATUS, 0)] [.clock]) ∧
  (∀ (s : State) (who : Who), s.ready = true → s.capState = 3 →
    Runs (.thaw who) s fun t =>
      t.word .CFG_CAP_STATUS 0 = changed (s.word .CFG_CAP_STATUS 0) [(F.CFG_CAP_STATUS_STATE, 4)] ∧
      Kept s t [(.CFG_CAP_STATUS, 0)] []) ∧
  (∀ (s : State) (who : Who), s.ready = true → s.capState = 0 ∨ s.capState = 2 →
    Runs (.thaw who) s fun t => Refused s t F.CFG_STATUS_CMD_REFUSED 0 who .command .CFG_CMD 0 4) ∧
  (∀ s : State, s.still = true → s.capState = 4 → s.mem.queues = [] → s.fabric.latches = [] → s.fabric.taps = [] →
    Runs .thawTick s fun t =>
      t.time = s.time + 1 ∧
      t.word .CFG_CAP_STATUS 0 = changed (s.word .CFG_CAP_STATUS 0) [(F.CFG_CAP_STATUS_STATE, 0)] ∧
      Kept s t [(.CFG_CAP_STATUS, 0)] [.clock, .cfg, .record, .fabric])

/-- CMD READBACK of frames of configuration memory by RB_DATA gives the record of its first frame, whose words reads of
RB_DATA take and debug reads leave; words written to RB_DATA gather for a restore; the end of a transfer shows DONE or ERR
with its cause, and the frames left (R171, R172, R176). Completes: readback, rbData, readbackDone. -/
def Obligations.Readbacks : Prop :=
  (∀ (s : State) (who : Who) (rod frame : Nat), s.ready = true → s.cfg.starting = none → s.readbackLocked who = false → s.f F.CFG_RB_CTRL_DIR 0 = 0 →
    s.f F.CFG_RB_CTRL_PATH 0 = 0 → s.f F.CFG_RB_FAR_STATE 0 = 0 → s.f F.CFG_RB_FAR_ROD 0 = rod →
    s.f F.CFG_RB_FAR_FRAME 0 = frame → rod < Part.rods s.part → frame < 960 → 0 < s.f F.CFG_RB_COUNT_FRAMES 0 →
    s.cfg.badFrames = [] →
    Runs (.readback who) s fun t =>
      t.word .CFG_RB_STATUS 0 = changed (s.word .CFG_RB_STATUS 0) [(F.CFG_RB_STATUS_BUSY, 1), (F.CFG_RB_STATUS_ERR_CAUSE, 0)] ∧
      (∃ x mended, t.cfg.transfer = some x ∧ x.words = s.readRecord rod frame mended ∧
        x.left + 1 = s.f F.CFG_RB_COUNT_FRAMES 0) ∧ Kept s t [(.CFG_RB_STATUS, 0)] [.cfg, .fresh]) ∧
  (∀ (s : State) (x : Transfer) (w : Word) (ws : List Word), s.transfers x = true → x.restore = false → x.toNoc = false →
    x.words = w :: ws → ws ≠ [] →
    Runs (.rbData none) s fun t =>
      t.cfg = { s.cfg with transfer := some { x with words := ws } } ∧ Kept s t [] [.cfg]) ∧
  (∀ (s : State) (x : Transfer) (w : Word), s.transfers x = true → x.restore = true → x.toNoc = false → x.ended = none →
    x.words.length < 131 →
    Runs (.rbData (some w)) s fun t =>
      t.cfg = { s.cfg with transfer := some { x with words := x.words ++ [w] } } ∧ Kept s t [] [.cfg]) ∧
  (∀ (s : State) (x : Transfer) (cause : Nat), s.transfers x = true → x.ended = some cause → cause < 8 → x.left < 2 ^ 20 →
    Runs .readbackDone s fun t =>
      t.cfg.transfer = none ∧ t.f F.CFG_RB_STATUS_BUSY 0 = 0 ∧ t.f F.CFG_RB_STATUS_ERR_CAUSE 0 = cause ∧
      (cause = 0 → t.f F.CFG_RB_STATUS_DONE 0 = 1) ∧ (cause ≠ 0 → t.f F.CFG_RB_STATUS_ERR 0 = 1) ∧
      t.f F.CFG_RB_COUNT_FRAMES 0 = x.left ∧ Kept s t [(.CFG_RB_STATUS, 0), (.CFG_RB_COUNT, 0)] [.cfg])

-- ------------------------------------------------------------------ self-test and repair

/-- A power-up slice that is not its group's last marks its rod good or FAILED with its cause (R178, R180): more than 4 faulty
tile rows is cause 1, more than 4 spare rows of a memory cause 2. A slice that outruns its budget of 2 ms, stretched for a
slow part, fails with cause OVERRUN (R179). The monitors' readings come with the first slice (assumption 197): a rod below 100
is FAILED with cause 6 at once, and a reading below 627 sets SLOW. A background test slice of a link or of HBM that finds
nothing ends; the faulty row of an HBM region is repaired with origin REPAIR; traffic that pre-empts a slice is counted (R192,
R193, R194, R336). Completes: selfTestSliceDone, sliceOverrun, linkTestSlice, hbmTestSlice, slicePreempt. -/
def Obligations.SelfTests : Prop :=
  (∀ (s : State) (phys k : Nat) (x : SliceResult) (r : List (Nat × Nat)), s.ready = true → s.selfTests = true → phys < Part.physRods s.part →
    s.slicing (phys / 17) = some (phys % 17) → k < 17 → k ≠ phys % 17 → 17 * (phys / 17) + k ∉ s.repair.sliced →
    17 * (phys / 17) + k ∉ s.repair.retired → s.repair.lowRate ≠ 0 →
    x.rows.eraseDups.length ≤ 4 → (x.spares.all fun m => decide (m.2 ≤ 4)) = true → (x.cause = 0 ∨ 6 < x.cause) →
    Runs (.selfTestSliceDone phys x r) s fun t =>
      t.f F.REPAIR_ROD_STATUS_CAUSE phys = 0 ∧ t.f F.REPAIR_ROD_STATUS_STATE phys = s.f F.REPAIR_ROD_STATUS_STATE phys ∧
      TestTaken s t phys x ∧ t.repair.sliced = s.repair.sliced ++ [phys] ∧ t.repair.retired = s.repair.retired ∧
      Kept s t [(.REPAIR_ROD_STATUS, phys)] [.repair, .mem]) ∧
  (∀ (s : State) (phys k : Nat) (x : SliceResult) (r : List (Nat × Nat)), s.ready = true → s.selfTests = true → phys < Part.physRods s.part →
    s.slicing (phys / 17) = some (phys % 17) → k < 17 → k ≠ phys % 17 → 17 * (phys / 17) + k ∉ s.repair.sliced →
    17 * (phys / 17) + k ∉ s.repair.retired → s.repair.lowRate ≠ 0 → (1 ≤ x.cause ∧ x.cause ≤ 6) →
    Runs (.selfTestSliceDone phys x r) s fun t =>
      t.f F.REPAIR_ROD_STATUS_STATE phys = 3 ∧
      t.f F.REPAIR_ROD_STATUS_CAUSE phys = (if 4 < x.rows.eraseDups.length then 1
        else if (x.spares.any fun m => decide (4 < m.2)) = true then 2 else x.cause) ∧
      t.repair.sliced = s.repair.sliced ++ [phys] ∧ t.repair.retired = s.repair.retired ∧
      Kept s t [(.REPAIR_ROD_STATUS, phys)] [.repair, .mem]) ∧
  (∀ (s : State) (phys k j low : Nat) (x : SliceResult), s.ready = true → s.selfTests = true → phys < Part.physRods s.part →
    s.slicing (phys / 17) = some (phys % 17) → k < 17 → k ≠ phys % 17 → 17 * (phys / 17) + k ∉ s.repair.sliced →
    17 * (phys / 17) + k ∉ s.repair.retired → s.repair.lowRate = 0 → j < Part.physRods s.part → j ≠ phys →
    j ≠ 17 * (phys / 17) + k → j / 17 = phys / 17 → j ∉ s.repair.retired → low < 627 →
    Runs (.selfTestSliceDone phys x [(j, low)]) s fun t =>
      (low < 100 → t.f F.REPAIR_ROD_STATUS_STATE j = 3 ∧ t.f F.REPAIR_ROD_STATUS_CAUSE j = 6 ∧ t.repair.lowRate = 627 ∧
        t.repair.sliced = s.repair.sliced ++ [j, phys] ∧
        Kept s t [(.REPAIR_ROD_STATUS, j), (.REPAIR_ROD_STATUS, phys)] [.repair, .mem]) ∧
      (100 ≤ low → t.f F.REPAIR_STATUS_SLOW 0 = 1 ∧ t.repair.lowRate = low ∧
        t.repair.sliced = s.repair.sliced ++ [phys] ∧
        Kept s t [(.REPAIR_STATUS, 0), (.REPAIR_ROD_STATUS, phys)] [.repair, .mem])) ∧
  (∀ (s : State) (phys k low : Nat), s.ready = true → s.selfTests = true → phys < Part.physRods s.part →
    s.slicing (phys / 17) = some (phys % 17) → k < 17 → k ≠ phys % 17 → 17 * (phys / 17) + k ∉ s.repair.sliced →
    17 * (phys / 17) + k ∉ s.repair.retired → 100 ≤ s.repair.lowRate → s.repair.lowRate ≤ 627 →
    Runs (.sliceOverrun phys low) s fun t =>
      t.f F.REPAIR_ROD_STATUS_STATE phys = 3 ∧ t.f F.REPAIR_ROD_STATUS_CAUSE phys = 7 ∧
      t.time = (s.advanceTo (Sparse.get s.repair.testFrom s.repair.sliceFrom (phys / 17) +
        BitVec.ofNat 64 (2000 * ticksPerUs * 627 / s.repair.lowRate))).time ∧
      t.repair.sliced = s.repair.sliced ++ [phys] ∧ Kept s t [(.REPAIR_ROD_STATUS, phys)] [.clock, .repair]) ∧
  (∀ (s : State) (page port peer : Nat), s.ready = true → portEnd s.part page port = some (.node peer) →
    pagePresent s.part page = true → s.f F.REPAIR_BG_CTRL_LINK_EN 0 = 1 → s.selfTests = false →
    s.sliceRuns false (16 * page + port) = true → s.phase ≠ 5 →
    Runs (.linkTestSlice page port none) s fun t =>
      t.repair.forced = s.repair.forced.filter (· != (false, 16 * page + port)) ∧
      Sparse.get 0 t.repair.linkPreempts (16 * page + port) = 0 ∧
      t.time = (s.advanceTo (s.testDue false (16 * page + port))).time ∧
      t.testDue false (16 * page + port) =
        t.later (max 1 (s.f F.REPAIR_BG_CTRL_LINK_PERIOD 0) * 1000000 * ticksPerUs) ∧ Kept s t [] [.clock, .repair]) ∧
  (∀ (s : State) (pc : Nat), s.ready = true → pc < 16 → Part.hasHbm s.part = true → s.f F.REPAIR_BG_CTRL_HBM_EN 0 = 1 →
    (s.word .PWR_REGION_STATUS 0).getLsbD 8 = true → s.sliceRuns true pc = true → s.phase ≠ 5 →
    Runs (.hbmTestSlice pc none) s fun t =>
      Sparse.get 0 t.hbm.testAt pc = (Sparse.get 0 s.hbm.testAt pc + 1) % 65536 ∧
      t.time = (s.advanceTo (s.testDue true pc)).time ∧
      t.testDue true pc = t.later (max 1 (s.f F.REPAIR_BG_CTRL_HBM_PERIOD 0) * 1000 * ticksPerUs) ∧
      Kept s t [] [.clock, .repair, .hbm]) ∧
  (∀ (s : State) (pc row : Nat), s.ready = true → pc < 16 → Part.hasHbm s.part = true → s.f F.REPAIR_BG_CTRL_HBM_EN 0 = 1 →
    (s.word .PWR_REGION_STATUS 0).getLsbD 8 = true → s.sliceRuns true pc = true → s.phase ≠ 5 →
    Runs (.hbmTestSlice pc (some (row, true))) s fun t =>
      t.word .REPAIR_BG_FAIL 0 = changed (s.word .REPAIR_BG_FAIL 0)
        [(F.REPAIR_BG_FAIL_KIND, 2), (F.REPAIR_BG_FAIL_UNIT, pc), (F.REPAIR_BG_FAIL_PORT, 0),
          (F.REPAIR_BG_FAIL_COUNT, s.counted F.REPAIR_BG_FAIL_COUNT 0 1)] ∧
      t.f F.REPAIR_STATUS_BG_FAIL 0 = 1 ∧ t.f F.HBM_STATUS_ROW_REPAIR 0 = 1 ∧ row ∈ t.hbm.repaired ∧
      Entered s t 0x31 7 6 ⟨0x30000000 + row, 0, 0, 0⟩ ∧
      Kept s t [(.REPAIR_BG_FAIL, 0), (.REPAIR_STATUS, 0), (.HBM_STATUS, 0)] [.clock, .repair, .hbm, .ledger]) ∧
  (∀ (s : State) (hbm : Bool) (unit : Nat), s.ready = true →
    (if hbm then Part.hasHbm s.part && s.on F.REPAIR_BG_CTRL_HBM_EN 0 && decide (unit < 16)
      else s.on F.REPAIR_BG_CTRL_LINK_EN 0 && pagePresent s.part (unit / 16)) = true →
    s.repair.forced.contains (hbm, unit) = false → s.repair.hbmPreempts = [] → s.repair.linkPreempts = [] →
    Runs (.slicePreempt hbm unit) s fun t =>
      t.f F.REPAIR_BG_STAT_PREEMPT 0 = s.counted F.REPAIR_BG_STAT_PREEMPT 0 1 ∧ t.repair.forced = s.repair.forced ∧
      t.time = (s.advanceTo (s.testDue hbm unit)).time ∧
      t.testDue hbm unit = t.later (if hbm then s.testPeriod true else 1000 * ticksPerUs) ∧
      Kept s t [(.REPAIR_BG_STAT, 0)] [.clock, .repair])

/-- A routine step of the roving spare: it falls due, copies, verifies, freezes its rod, switches the map, and releases it;
the rod it left is tested and becomes the spare, or is RETIRED. A pause that would outlast its limit is abandoned and counted
(R185, R186, R187, R188). Completes: rovingStepDue, preCopyDone, verifyDone, rodSettled, stepRelease, spareTestDone,
sliceOverrun, pauseLimit. -/
def Obligations.RovingSteps : Prop :=
  (∀ (s : State) (g : Nat) (st : RoveStep), s.ready = true → s.repair.step = none → s.repair.migrations = [] →
    s.repair.asked = [] → s.repair.deferred = [] → g < Part.groups s.part → g < 16 → s.f F.REPAIR_GROUP_STATUS_STATE g = 0 →
    s.roveMode g ≠ 0 → (s.roveMode g = 1 → s.phase = 0) → s.stepOf g (s.on F.REPAIR_GROUP_STATUS_DIR g) false = some st →
    s.stepChecks g st.logical = true → s.spareReady g = true → st.src < 512 → st.dst < 512 →
    Runs (.rovingStepDue g) s fun t =>
      t.showsStep st 1 ∧ t.repair.step = some st ∧ Kept s t stepRegs [.clock, .repair]) ∧
  (∀ (s : State) (st : RoveStep), s.stepAlone st 1 = true →
    Runs (.preCopyDone .copied) s fun t =>
      t.showsStep st 2 ∧ t.repair.step = some st ∧ Kept s t stepRegs [.repair]) ∧
  (∀ (s : State) (st : RoveStep), s.stepAlone st 1 = true → st.frozenAt = none → s.f F.REPAIR_ROD_STATUS_STATE st.dst < 3 →
    Runs (.preCopyDone .writeFails) s fun t =>
      t.repair.step = none ∧ t.f F.REPAIR_ROD_STATUS_STATE st.dst = 4 ∧ t.f F.REPAIR_ROD_STATUS_CAUSE st.dst = 10 ∧
      st.dst ∈ t.repair.retired ∧ t.f F.REPAIR_STEP_EXC_ABORTS 0 = s.counted F.REPAIR_STEP_EXC_ABORTS 0 1 ∧
      t.repair.place = s.repair.place ∧
      Kept s t (([(.REPAIR_ROD_STATUS, st.dst), (.REPAIR_STEP_EXC, 0), (.REPAIR_RETIRED, 0),
        (.REPAIR_GROUP_STATUS, st.dst / 17)] : Regs) ++ stepRegs) [.repair, .ledger]) ∧
  (∀ (s : State) (st : RoveStep), s.stepAlone st 2 = true → st.frozenAt = none → s.f F.REPAIR_ROD_STATUS_STATE st.dst < 3 →
    Runs (.verifyDone false) s fun t =>
      t.repair.step = none ∧ t.f F.REPAIR_ROD_STATUS_STATE st.dst = 4 ∧ t.f F.REPAIR_ROD_STATUS_CAUSE st.dst = 10 ∧
      st.dst ∈ t.repair.retired ∧ t.f F.REPAIR_STEP_EXC_ABORTS 0 = s.counted F.REPAIR_STEP_EXC_ABORTS 0 1 ∧
      t.repair.place = s.repair.place ∧
      Kept s t (([(.REPAIR_ROD_STATUS, st.dst), (.REPAIR_STEP_EXC, 0), (.REPAIR_RETIRED, 0),
        (.REPAIR_GROUP_STATUS, st.dst / 17)] : Regs) ++ stepRegs) [.repair, .ledger]) ∧
  (∀ (s : State) (st : RoveStep), s.stepAlone st 2 = true →
    Runs (.verifyDone true) s fun t =>
      t.time = s.time + 1 ∧ t.showsStep st 3 ∧ t.repair.step = some { st with frozenAt := some (s.time + 1) } ∧
      Kept s t stepRegs [.clock, .repair, .record]) ∧
  (∀ (s : State) (st : RoveStep) (t0 : DWord) (wait : Nat), s.stepAlone st 3 = true → st.frozenAt = some t0 →
    st.switched = false → (t0 + 16).toNat ≤ s.time.toNat →
    (s.time + BitVec.ofNat 64 wait).toNat ≤ (t0 + BitVec.ofNat 64 (s.pauseLimit st)).toNat →
    Runs (.rodSettled wait false) s fun t =>
      t.time = s.time + BitVec.ofNat 64 wait ∧ t.physOf st.logical = some st.dst ∧ t.showsStep st 3 ∧
      t.repair.step = some { st with switched := true } ∧ Kept s t stepRegs [.clock, .repair]) ∧
  (∀ (s : State) (st : RoveStep) (t0 : DWord) (wait : Nat), s.stepAlone st 3 = true → st.frozenAt = some t0 →
    st.switched = true →
    Runs (.stepRelease wait) s fun t =>
      t.showsStep st 4 ∧ t.repair.step = some { st with frozenAt := none } ∧
      t.f F.REPAIR_STEP_COUNT_STEPS 0 = (s.f F.REPAIR_STEP_COUNT_STEPS 0 + 1) % 2 ^ 32 ∧
      t.f F.REPAIR_GROUP_STATUS_GAP st.group = st.src % 17 ∧ t.f F.REPAIR_ROD_STATUS_STATE st.dst = 0 ∧
      t.f F.REPAIR_ROD_STATUS_LOGICAL st.dst = st.logical ∧ t.f F.REPAIR_ROD_STATUS_STATE st.src = 2 ∧
      Entered s t 0x31 7 1 ⟨0x30000000 + st.logical, st.src, st.dst, 0⟩ ∧
      Kept s t (stepRegs ++ ([(.REPAIR_STEP_PAUSE, 0), (.REPAIR_STEP_COUNT, 0), (.REPAIR_GROUP_STATUS, st.group),
        (.REPAIR_ROD_STATUS, st.dst), (.REPAIR_ROD_STATUS, st.src)] : Regs)) [.clock, .repair, .ledger, .net]) ∧
  (∀ (s : State) (st : RoveStep) (x : SliceResult), s.stepAlone st 4 = true → x.rows.eraseDups.length ≤ 4 →
    (x.spares.all fun m => decide (m.2 ≤ 4)) = true → (x.cause = 0 ∨ 6 < x.cause) →
    Runs (.spareTestDone x) s fun t =>
      t.f F.REPAIR_ROD_STATUS_STATE st.src = 1 ∧ t.f F.REPAIR_ROD_STATUS_CAUSE st.src = 0 ∧ TestTaken s t st.src x ∧
      t.showsStep st 0 ∧ t.repair.step = none ∧ Kept s t ((.REPAIR_ROD_STATUS, st.src) :: stepRegs) [.repair, .mem]) ∧
  (∀ (s : State) (st : RoveStep) (x : SliceResult), s.stepAlone st 4 = true → 1 ≤ x.cause → x.cause ≤ 6 →
    Runs (.spareTestDone x) s fun t =>
      t.f F.REPAIR_ROD_STATUS_STATE st.src = 4 ∧
      t.f F.REPAIR_ROD_STATUS_CAUSE st.src = (if 4 < x.rows.eraseDups.length then 1
        else if (x.spares.any fun m => decide (4 < m.2)) = true then 2 else x.cause) ∧ st.src ∈ t.repair.retired ∧
      t.f F.REPAIR_STATUS_RETIRED 0 = 1 ∧ t.f F.REPAIR_STEP_EXC_ABORTS 0 = s.counted F.REPAIR_STEP_EXC_ABORTS 0 1 ∧
      Kept s t (([(.REPAIR_ROD_STATUS, st.src), (.REPAIR_STEP_EXC, 0), (.REPAIR_RETIRED, 0),
        (.REPAIR_GROUP_STATUS, st.src / 17)] : Regs) ++ stepRegs) [.repair, .ledger, .mem]) ∧
  (∀ (s : State) (st : RoveStep) (low : Nat), s.stepAlone st 4 = true → s.selfTests = false →
    Runs (.sliceOverrun st.src low) s fun t =>
      t.f F.REPAIR_ROD_STATUS_STATE st.src = 4 ∧ t.f F.REPAIR_ROD_STATUS_CAUSE st.src = 7 ∧ st.src ∈ t.repair.retired ∧
      t.time = (s.advanceTo (Sparse.get s.repair.testFrom s.repair.sliceFrom (st.src / 17) +
        BitVec.ofNat 64 (sliceBudget low))).time ∧
      Kept s t (([(.REPAIR_ROD_STATUS, st.src), (.REPAIR_STEP_EXC, 0), (.REPAIR_RETIRED, 0),
        (.REPAIR_GROUP_STATUS, st.src / 17)] : Regs) ++ stepRegs) [.clock, .repair, .ledger, .mem]) ∧
  (∀ (s : State) (st : RoveStep) (t0 : DWord), s.stepAlone st 3 = true → st.frozenAt = some t0 → st.switched = false →
    Runs .pauseLimit s fun t =>
      t.time = (s.advanceTo (t0 + BitVec.ofNat 64 (s.pauseLimit st - 1))).time + 1 ∧ t.showsStep st 0 ∧
      t.repair.step = none ∧ t.repair.place = s.repair.place ∧
      t.f F.REPAIR_STATUS_STEP_ABORT 0 = 1 ∧ t.f F.REPAIR_STEP_EXC_ABORTS 0 = s.counted F.REPAIR_STEP_EXC_ABORTS 0 1 ∧
      Entered s t s.ownOrigin 7 8 ⟨0x30000000 + st.logical, st.src, st.dst, 1⟩ ∧
      Kept s t ((.REPAIR_STEP_EXC, 0) :: stepRegs) [.clock, .repair, .ledger, .net])

/-- REPAIR.CMD: STEP asks for a step of a group that roves, MIGRATE declares a wear fault, RETEST tests a spare again, each
recorded; a command whose checks fail is refused (R185, R189, R196). A wear fault on a rod in service asks for its migration
(R184, R189). Completes: step, migrate, retest, wearFault. -/
def Obligations.RepairCommands : Prop :=
  (∀ (s : State) (who : Who) (g : Nat), s.ready = true → g < 16 → s.repairRefusal 1 g 0 = none → s.repair.step.isSome = true →
    s.repair.migrations = [] → s.repair.asked = [] →
    Runs (.step who g) s fun t =>
      t.repair = { s.repair with asked := [g] } ∧
      Entered s t who.origin 1 who.ni.toNat ⟨csrOffset .REPAIR_CMD 0, 0, 1 + 256 * g, 0⟩ ∧ Kept s t [] [.repair, .ledger]) ∧
  (∀ (s : State) (who : Who) (g : Nat) (st : RoveStep), s.ready = true → g < 16 → s.repairRefusal 1 g 0 = none →
    s.repair.migrations = [] → s.repair.asked = [] → s.stepOf g (s.on F.REPAIR_GROUP_STATUS_DIR g) false = some st →
    s.stepChecks g st.logical = true → s.spareReady g = true → st.src < 512 → st.dst < 512 →
    Runs (.step who g) s fun t =>
      t.showsStep st 1 ∧ t.repair.step = some st ∧ Kept s t stepRegs [.repair, .ledger]) ∧
  (∀ (s : State) (who : Who) (g : Nat) (why : Reason), s.ready = true → g < 16 → s.repairRefusal 1 g 0 = some why →
    Runs (.step who g) s fun t => Refused s t F.REPAIR_STATUS_CMD_REFUSED 0 who why .REPAIR_CMD 0 (1 + 256 * g)) ∧
  (∀ (s : State) (who : Who) (rod : Nat), s.ready = true → rod < 272 → s.repairRefusal 2 0 rod = none →
    s.repair.step.isSome = true → s.stepAt 4 = none → s.f F.REPAIR_ROD_STATUS_STATE rod = 0 → (s.hosted rod).isSome = true →
    s.migrates (rod / 17) = true → s.repair.migrations = [] → s.repair.asked = [] →
    Runs (.migrate who rod) s fun t =>
      t.repair = { s.repair with migrations := [rod] } ∧ t.f F.REPAIR_STATUS_WEAR 0 = 1 ∧
      Kept s t [(.REPAIR_STATUS, 0)] [.repair, .ledger]) ∧
  (∀ (s : State) (who : Who) (g : Nat), s.ready = true → g < 16 → s.repairRefusal 3 g 0 = none →
    Runs (.retest who g) s fun t =>
      t.f F.REPAIR_ROD_STATUS_STATE (17 * g + s.gapOf g) = 2 ∧
      t.showsStep ⟨g, false, 17 * g + s.gapOf g, 17 * g + s.gapOf g, 0, none, true⟩ 4 ∧
      Kept s t ((.REPAIR_ROD_STATUS, 17 * g + s.gapOf g) :: stepRegs) [.repair, .ledger]) ∧
  (∀ (s : State) (rod : Nat), s.ready = true → rod < Part.physRods s.part → s.f F.REPAIR_STATUS_PUST_DONE 0 = 1 →
    s.repair.step.isSome = true → s.stepAt 4 = none → s.f F.REPAIR_ROD_STATUS_STATE rod = 0 → (s.hosted rod).isSome = true →
    s.migrates (rod / 17) = true → s.repair.migrations = [] → s.repair.asked = [] →
    Runs (.wearFault rod) s fun t =>
      t.repair = { s.repair with migrations := [rod] } ∧ t.f F.REPAIR_STATUS_WEAR 0 = 1 ∧
      Kept s t [(.REPAIR_STATUS, 0)] [.repair])

-- ------------------------------------------------------------------ the carry network

/-- Requests at HBM: RD returns the bytes, WR and WRP store the bytes enabled and no other, FADD adds and returns the old
value, and the NI answers over its own route (R206, R331, R334). At a fabric NI a request waits for user logic, under a handle
when it needs an answer, and an EVT waits on EV (R230, R231). A read of CSR space returns the register (R449). Completes: rd,
wr, wrp, fadd, evt. -/
def Obligations.PacketsAtTargets : Prop :=
  (∀ (s : State) (p : Packet) (k : Nat) (spare : Bool), s.reachesHbm { p with cmd := .rd, vn := 0 } = true →
    s.hbmBad p.addr (p.len + 1) = [] →
    Runs (.rd p ⟨k, .clean, spare⟩) s fun t =>
      Sent s t (s.answerTo p .rspData 0 0 (s.hbmRead p.addr (p.len + 1))) ∧ OtherNis s t p.dest ∧
      Kept s t (statRegs p.dest) [.net]) ∧
  (∀ (s : State) (p : Packet) (k : Nat) (spare : Bool), s.reachesHbm { p with cmd := .wr, vn := 0 } = true →
    p.data.length = p.len + 1 → noByte p = false → s.ringAt p.addr = none →
    Runs (.wr p ⟨k, .clean, spare⟩) s fun t =>
      Sent s t (s.answerTo p .rspOk 0 0 []) ∧ OtherNis s t p.dest ∧
      (∀ i, i < p.len + 1 → t.hbmByte (p.addr + i) =
        if packetEnables p i then p.data.getD i 0 else s.hbmByte (p.addr + i)) ∧
      (∀ a, a < p.addr ∨ p.addr + p.len < a → t.hbmByte a = s.hbmByte a) ∧ Kept s t (statRegs p.dest) [.net, .hbm]) ∧
  (∀ (s : State) (p : Packet) (k : Nat) (spare : Bool), s.reachesHbm { p with cmd := .wrp } = true →
    p.data.length = p.len + 1 → s.ringAt p.addr = none →
    Runs (.wrp p ⟨k, .clean, spare⟩) s fun t =>
      (∀ i, i < p.len + 1 → t.hbmByte (p.addr + i) =
        if packetEnables p i then p.data.getD i 0 else s.hbmByte (p.addr + i)) ∧
      (∀ a, a < p.addr ∨ p.addr + p.len < a → t.hbmByte a = s.hbmByte a) ∧
      (t.ni p.dest).csf.down = (s.ni p.dest).csf.down.eraseP (·.1 == { p with cmd := .wrp }) ∧
      (t.ni p.dest).out = (s.ni p.dest).out ∧ OtherNis s t p.dest ∧ Kept s t (statRegs p.dest) [.net, .hbm]) ∧
  (∀ (s : State) (p : Packet) (k : Nat) (spare : Bool), s.reachesHbm { p with cmd := .fadd, vn := 0 } = true →
    p.len + 1 = 4 ∨ p.len + 1 = 8 → p.addr % (p.len + 1) = 0 → s.hbmBad p.addr (p.len + 1) = [] →
    Runs (.fadd p ⟨k, .clean, spare⟩) s fun t =>
      Sent s t (s.answerTo p .rspData 0 0 (s.hbmRead p.addr (p.len + 1))) ∧ OtherNis s t p.dest ∧
      t.hbmRead p.addr (p.len + 1) =
        toBytes (p.len + 1) ((fromBytes (s.hbmRead p.addr (p.len + 1)) + p.operand.toNat) % 256 ^ (p.len + 1)) ∧
      (∀ a, a < p.addr ∨ p.addr + p.len < a → t.hbmByte a = s.hbmByte a) ∧ Kept s t (statRegs p.dest) [.net, .hbm]) ∧
  (∀ (s : State) (p : Packet) (m : WordFinding) (h : Nat), s.ready = true →
    s.reachesUnit { p with cmd := .rd, vn := 0 } = true → p.dest < 0x60 → decodeAddr s.part p.addr = .ni p.dest →
    p.addr < csrBase ∨ csrBase + 0x10000000 ≤ p.addr → s.freeHandle p.dest = some h → s.channelFull p.dest 1 = true →
    Runs (.rd p m) s fun t =>
      (t.ni p.dest).delivered = (s.ni p.dest).delivered ++ [⟨h, { p with cmd := .rd, vn := 0 }, s.time, 0⟩] ∧
      (t.ni p.dest).edge.tq = (s.ni p.dest).edge.tq ++ [(h, { p with cmd := .rd, vn := 0 })] ∧ OtherNis s t p.dest ∧
      Kept s t [] [.net]) ∧
  (∀ (s : State) (p : Packet) (m : WordFinding), s.ready = true → s.reachesUnit { p with cmd := .wrp } = true → p.dest < 0x60 →
    p.vn ≠ 2 → decodeAddr s.part p.addr = .ni p.dest → p.addr < csrBase ∨ csrBase + 0x10000000 ≤ p.addr →
    s.channelFull p.dest 1 = true →
    Runs (.wrp p m) s fun t =>
      (t.ni p.dest).posted = (s.ni p.dest).posted ++ [{ p with cmd := .wrp }] ∧
      (t.ni p.dest).edge.tq = (s.ni p.dest).edge.tq ++ [(0, { p with cmd := .wrp })] ∧ OtherNis s t p.dest ∧
      Kept s t (statRegs p.dest) [.net]) ∧
  (∀ (s : State) (p : Packet), s.ready = true → s.reachesUnit { p with cmd := .evt } = true → p.dest < 0x60 → p.vn = 3 →
    p.operand.toNat % 65536 = 0 → (s.ni p.dest).ev.length < 16 → s.channelFull p.dest 3 = true →
    Runs (.evt p) s fun t =>
      (t.ni p.dest).ev = (s.ni p.dest).ev ++ [(p.operand, p.src)] ∧ OtherNis s t p.dest ∧ Kept s t (statRegs p.dest) [.net]) ∧
  (∀ (s : State) (p : Packet) (m : WordFinding), s.ready = true → s.reachesUnit { p with cmd := .rd, vn := 0 } = true →
    p.dest = 0x99 → p.addr = csrBase + csrOffset .DEV_EVT_HOST_MASK 0 → p.len = 3 →
    entryValid (s.activeEntry p.dest p.src) = true → s.sendsNow p.dest 1 = true →
    Runs (.rd p m) s fun t =>
      Sent s t (s.answerTo p .rspData 0 0 (toBytes 4 (s.word .DEV_EVT_HOST_MASK 0).toNat)) ∧ OtherNis s t p.dest ∧
      Kept s t (statRegs p.dest) [.net])

/-- Transactions: a request is injected on its route and awaits a response, that of user logic from its beads; a response that
matches ends it and reaches IR; the timer of its NI ends it with TIMEOUT and quarantines its tag for 100 ms; the target's
timer answers for a unit (R15, R224, R225, R228, R229). A router answers a CFG that ends at it (R218). Completes:
requestInject, rspData, rspOk, rspErr, transactionTimeout, quarantineExpire, targetTimeout, cfg. -/
def Obligations.Transactions : Prop :=
  (∀ (s : State) (n d tag : Nat) (r : Request), s.ready = true → 0x60 ≤ n → s.niTakes n = true → (s.ni n).csf.up = [] →
    r.cmd = .rd → r.urgent = false → r.mgmt = false → r.dbg = false → s.freeTag n = some tag → s.responseRoom n r = true →
    decodeAddr s.part r.addr = .ni d → entryValid (s.activeEntry n d) = true → s.sendsNow n 0 = true → s.recordOf n = none →
    Runs (.requestInject n r) s fun t =>
      Sent s t { cmd := .rd, src := n, dest := d, tag := tag, record := 0, err := 0
                 attr := BitVec.ofNat 8 (8 * (entryPrio (s.activeEntry n d) % 4)), addr := r.addr, len := r.len, beFirst := 0
                 beLast := 0, operand := r.operand, injTime := 0, route := BitVec.ofNat 48 (entryRoute (s.activeEntry n d))
                 vn := 0, prio := entryPrio (s.activeEntry n d), data := r.data, poison := false } ∧
      (t.ni n).outstanding = (s.ni n).outstanding ++ [⟨tag, d, .rd, r.addr, r.len, .none, s.time, 0, none⟩] ∧
      OtherNis s t n ∧ Kept s t (statRegs n) [.net]) ∧
  (∀ (s : State) (n d k : Nat) (r u : Request), s.ready = true → n < 0x60 → niPresent s.part n = true → s.funcState (.ni n) = 1 →
    s.fence n < 2 → (s.ni n).edge.iq = [] → requestBeads (s.ni n).edge.iqWords ≤ (s.ni n).edge.iqWords.length →
    r = requestOf (s.ni n).edge.iqWords → r.cmd = .rd → r.urgent = false → r.mgmt = false → r.use = .fabric k → k < 4 →
    s.tagTaken n r.tag = false →
    r.addr / 4096 = (r.addr + r.len) / 4096 → s.responseRoom n r = true → decodeAddr s.part r.addr = .ni d →
    entryValid (s.activeEntry n d) = true → s.sendsNow n 0 = true → s.recordOf n = none →
    Runs (.requestInject n u) s fun t =>
      Sent s t { cmd := .rd, src := n, dest := d, tag := r.tag, record := 0, err := 0, attr := BitVec.ofNat 8 (8 * k)
                 addr := r.addr, len := r.len, beFirst := 0
                 beLast := 0, operand := r.operand, injTime := 0, route := BitVec.ofNat 48 (entryRoute (s.activeEntry n d))
                 vn := 0, prio := entryPrio (s.activeEntry n d), data := r.data, poison := false } ∧
      (t.ni n).outstanding = (s.ni n).outstanding ++ [⟨r.tag, d, .rd, r.addr, r.len, .fabric k, s.time, 0, none⟩] ∧
      (t.ni n).edge.iqWords = [] ∧ OtherNis s t n ∧ Kept s t (statRegs n) [.net]) ∧
  (∀ (s : State) (p : Packet) (x : Txn), s.awaits p.dest p.tag x = true → x.dest = p.src → p.vn < 2 →
    s.landing { p with cmd := .rspData } = some .clean →
    Runs (.rspData p) s fun t =>
      TxnEnds s t p.dest p.tag ∧ t.handed p.dest .rspData p.tag 0 p.data = true ∧ OtherNis s t p.dest ∧
      Kept s t (statRegs p.dest) [.net]) ∧
  (∀ (s : State) (p : Packet) (x : Txn), s.awaits p.dest p.tag x = true → x.dest = p.src → p.vn < 2 →
    s.landing { p with cmd := .rspOk } = some .clean →
    Runs (.rspOk p) s fun t =>
      TxnEnds s t p.dest p.tag ∧ t.handed p.dest .rspOk p.tag 0 [] = true ∧ OtherNis s t p.dest ∧
      Kept s t (statRegs p.dest) [.net]) ∧
  (∀ (s : State) (p : Packet) (x : Txn), s.awaits p.dest p.tag x = true → x.dest = p.src → p.vn < 2 →
    s.landing { p with cmd := .rspErr } = some .clean →
    Runs (.rspErr p) s fun t =>
      TxnEnds s t p.dest p.tag ∧ t.handed p.dest .rspErr p.tag p.err [] = true ∧ OtherNis s t p.dest ∧
      Kept s t (statRegs p.dest) [.net]) ∧
  (∀ (s : State) (n tag : Nat) (x : Txn), s.awaits n tag x = true → s.repair.step = none → (s.ni n).held = [] →
    Runs (.transactionTimeout n tag) s fun t =>
      TxnEnds s t n tag ∧ t.handed n .rspErr tag 4 [] = true ∧ t.f F.NI_STATUS_TIMEOUT n = 1 ∧
      t.f F.NI_ERR_CNT_TIMEOUTS n = s.counted F.NI_ERR_CNT_TIMEOUTS n 1 ∧
      t.time = (s.advanceTo (x.start + BitVec.ofNat 64 (max 1 (s.acts F.NI_TIMER_US n) * ticksPerUs))).time ∧
      (t.ni n).quarantine = (s.ni n).quarantine ++ [(tag, t.time)] ∧ OtherNis s t n ∧
      Kept s t (((.NI_ERR_CNT, n) :: niLogRegs n : Regs) ++ statRegs n) [.clock, .net]) ∧
  (∀ (s : State) (n tag : Nat) (since : DWord), s.ready = true → (s.ni n).quarantine = [(tag, since)] →
    (s.ni n).still = true →
    Runs (.quarantineExpire n tag) s fun t =>
      (t.ni n).quarantine = [] ∧ t.time = (s.advanceTo (since + 150000000)).time ∧ OtherNis s t n ∧
      Kept s t [] [.clock, .net]) ∧
  (∀ (s : State) (n h : Nat) (d : Delivered), s.ready = true → (s.ni n).delivered = [d] → d.handle = h → d.packet.dest = n →
    s.repair.step = none → entryValid (s.activeEntry n d.packet.src) = true → s.sendsNow n 1 = true →
    Runs (.targetTimeout n h) s fun t =>
      (t.ni n).delivered = [] ∧
      (t.ni n).answered = (s.ni n).answered ++ (if n < 0x60 then [(h, answerBeads d.packet)] else []) ∧
      Sent s t (t.answerTo d.packet .rspErr 4 0 []) ∧
      t.time = (s.advanceTo (d.since + BitVec.ofNat 64 (max 1 (s.acts F.NI_TGT_TIMER_US n) * ticksPerUs))).time ∧
      t.f F.NI_STATUS_TGT_TIMEOUT n = 1 ∧ t.f F.NI_TGT_ERR_TGT_TIMEOUTS n = s.counted F.NI_TGT_ERR_TGT_TIMEOUTS n 1 ∧
      OtherNis s t n ∧ Kept s t (((.NI_TGT_ERR, n) :: niLogRegs n : Regs) ++ statRegs n) [.clock, .net]) ∧
  (∀ (s : State) (page q to' : Nat) (p : Packet), s.ready = true → pagePresent s.part page = true → page < 256 →
    p.beFirst = 0 → p.addr % 4096 = csrOffset .CN_AGE_CFG page % 4096 →
    s.router page = { routerInit with consumed := [{ p with cmd := .cfg }] } →
    (defaultPorts s.part page (pageOfNi p.src)).head? = some q → portEnd s.part page q = some (.node to') →
    s.outputDown page q = false → s.routerHolds page = false → s.router to' = routerInit → 2 ≤ s.inputRoom to' 1 → page ≠ to' →
    Runs (.cfg page p) s fun t =>
      (t.router page).sent.map (·.2.vn) = [1, 1] ∧ (t.router page).sent.map (·.1) = [q, q] ∧
      ((t.router page).sent.getLast?.map (·.2.payload)) =
        some (dataPayload { p with cmd := .rspData, data := toBytes 4 (s.word .CN_AGE_CFG page).toNat } 0) ∧
      (t.router page).consumed = [] ∧ (t.router page).waiting = [] ∧ Kept s t [] [.net])

/-- Route tables: a write of RT_DATA_HI commits an entry that passes the checks to SHADOW, and no other entry changes; an
entry that fails is refused with its cause; COPY copies ACTIVE into SHADOW; SWAP exchanges the banks, at the next boundary
while the NI injects (R214, R216, R219). Completes: rtEntryWrite, copyRoutes, swapRoutes, bankExchange, clearStats. -/
def Obligations.RouteTables : Prop :=
  (∀ (s : State) (who : Who) (n : Nat) (hi lo : Word), s.ready = true → n < 256 → s.f F.NI_RT_INDEX_ACTIVE n = 0 →
    s.latches = [(regKey .NI_RT_DATA_LO n, lo)] →
    s.routeCause n (s.f F.NI_RT_INDEX_ENTRY n) (BitVec.ofNat 64 (lo.toNat + 2 ^ 32 * (hi.toNat % 2 ^ 20))) = 0 →
    Runs (.rtEntryWrite who n hi) s fun t =>
      t.entry n (1 - s.activeBank n) (s.f F.NI_RT_INDEX_ENTRY n) = BitVec.ofNat 64 (lo.toNat + 2 ^ 32 * (hi.toNat % 2 ^ 20)) ∧
      (∀ m b d, b < 2 → d < 256 → m ≠ n ∨ b = s.activeBank n ∨ d ≠ s.f F.NI_RT_INDEX_ENTRY n →
        t.entry m b d = s.entry m b d) ∧
      t.latches = [] ∧
      t.f F.NI_RT_INDEX_ENTRY n = (s.f F.NI_RT_INDEX_ENTRY n + s.f F.NI_RT_INDEX_AUTOINC n) % 256 ∧
      Kept s t [(.NI_RT_INDEX, n)] [.net, .latches, .ledger]) ∧
  (∀ (s : State) (who : Who) (n : Nat) (hi lo : Word), s.ready = true → n < 256 → s.f F.NI_RT_INDEX_ACTIVE n = 0 →
    s.f F.NI_RT_INDEX_AUTOINC n = 0 → s.latches = [(regKey .NI_RT_DATA_LO n, lo)] →
    s.routeCause n (s.f F.NI_RT_INDEX_ENTRY n) (BitVec.ofNat 64 (lo.toNat + 2 ^ 32 * (hi.toNat % 2 ^ 20))) ≠ 0 →
    Runs (.rtEntryWrite who n hi) s fun t =>
      t.f F.NI_RT_STATUS_CAUSE n =
        s.routeCause n (s.f F.NI_RT_INDEX_ENTRY n) (BitVec.ofNat 64 (lo.toNat + 2 ^ 32 * (hi.toNat % 2 ^ 20))) ∧
      t.f F.NI_RT_STATUS_ENTRY n = s.f F.NI_RT_INDEX_ENTRY n ∧ t.f F.NI_STATUS_RT_REFUSED n = 1 ∧
      Kept s t [(.NI_RT_STATUS, n), (.NI_STATUS, n)] [.ledger]) ∧
  (∀ (s : State) (n : Nat), s.ready = true →
    Runs (.copyRoutes n) s fun t =>
      (∀ d, d < 256 → t.entry n (1 - s.activeBank n) d = s.entry n (s.activeBank n) d) ∧
      (∀ d, d < 256 → t.entry n (s.activeBank n) d = s.entry n (s.activeBank n) d) ∧
      (∀ m, m ≠ n → t.ni m = s.ni m) ∧ Kept s t [] [.net]) ∧
  (∀ (s : State) (who : Who) (n : Nat), s.ready = true → n < 256 → s.uRoutesOf n (1 - s.activeBank n) = [] →
    s.recordOf n = none →
    Runs (.swapRoutes who n false) s fun t =>
      t.word .NI_RT_CTRL n = changed (s.word .NI_RT_CTRL n)
        [(F.NI_RT_CTRL_SWAP, 0), (F.NI_RT_CTRL_BANK, 1 - s.activeBank n)] ∧
      Kept s t [(.NI_RT_CTRL, n)] [.net, .ledger]) ∧
  (∀ (s : State) (who : Who) (n : Nat), s.ready = true → n < 256 →
    Runs (.swapRoutes who n true) s fun t =>
      t.word .NI_RT_CTRL n = changed (s.word .NI_RT_CTRL n) [(F.NI_RT_CTRL_SWAP, 1)] ∧
      (t.ni n).injecting = true ∧ Kept s t [(.NI_RT_CTRL, n)] [.net]) ∧
  (∀ (s : State) (who : Who) (n : Nat), s.ready = true → n < 256 → s.f F.NI_RT_CTRL_SWAP n = 1 →
    s.uRoutesOf n (1 - s.activeBank n) = [] → s.recordOf n = none →
    Runs (.bankExchange who n) s fun t =>
      t.word .NI_RT_CTRL n = changed (s.word .NI_RT_CTRL n)
        [(F.NI_RT_CTRL_SWAP, 0), (F.NI_RT_CTRL_BANK, 1 - s.activeBank n)] ∧
      Kept s t [(.NI_RT_CTRL, n)] [.net, .ledger]) ∧
  (∀ (s : State) (n : Nat), s.ready = true → n < 256 →
    Runs (.clearStats n) s fun t =>
      (∀ vn, vn < 4 → t.pair .NI_STAT_UNITS_LO .NI_STAT_UNITS_HI (4 * n + vn) = 0 ∧
        t.pair .NI_STAT_BYTES_LO .NI_STAT_BYTES_HI (4 * n + vn) = 0) ∧
      (∀ bin, bin < 64 → t.f F.NI_STAT_HIST_COUNT (64 * n + bin) = 0) ∧
      Kept s t (statRegs n) [])

/-- Fences: CLOSE closes the routes and drains, the fence is shut when the drain is over or at its limit, the proxy answers
FENCED, OPEN reopens, and a gate opens when its 300 ticks have run; held packets leave when their regulator or spacing allows
(R221, R234, R235, R245, R246, R247, R248, R250). A reset of one side of a station discards and counts what the station holds,
and its RESYNC_REQ goes out over a CS-H, which counts up to 255 pulses while a handshake runs and tells of one more; the
resync counts when the last handshake has ended; a stopped clock puts a station in ERROR, logged and recorded (R260, R262,
R265, R266, R267, R269). Completes: closeFence, fenceClosed, drainLimit, openFence, fenceProxy, uGateOpen, regulatorRelease,
uRelease, resyncReq, resyncDone, crossTimeout. -/
def Obligations.FencesAndStations : Prop :=
  (∀ (s : State) (who : Who) (n : Nat), s.ready = true → niPresent s.part n = true → n < 0x99 → s.fence n = 0 →
    s.f F.NI_FENCE_CTRL_LIMIT n ≠ 0 →
    Runs (.closeFence who n) s fun t =>
      t.f F.NI_FENCE_STATUS_STATE n = 1 ∧ t.f F.NI_FENCE_STATUS_CAUSE n = 5 ∧ (t.ni n).fenceFrom = s.time ∧
      Kept s t ((.NI_FENCE_STATUS, n) :: s.gateRegs) [.net, .ledger]) ∧
  (∀ (s : State) (n : Nat), s.ready = true → n < 256 → s.fence n = 1 → s.fenceDry n = true →
    Runs (.fenceClosed n) s fun t =>
      t.f F.NI_FENCE_STATUS_STATE n = s.closedState n ∧
      t.f F.NI_FENCE_STATUS_CAUSE n = s.f F.NI_FENCE_STATUS_CAUSE n ∧ Kept s t [(.NI_FENCE_STATUS, n)] [.net, .ledger]) ∧
  (∀ (s : State) (n : Nat), s.ready = true → n < 256 → s.fence n = 1 → (s.ni n).fenceLimit ≠ 0 → s.drainHeld n = false →
    (s.ni n).delivered = [] → (s.ni n).posted = [] → (s.ni n).fenceAsked = [5] →
    Runs (.drainLimit n) s fun t =>
      t.f F.NI_FENCE_STATUS_STATE n = s.closedState n ∧ t.f F.NI_FENCE_STATUS_LIMIT_HIT n = 1 ∧
      Kept s t [(.NI_FENCE_STATUS, n)] [.clock, .net, .ledger]) ∧
  (∀ (s : State) (who : Who) (n : Nat), s.ready = true → niPresent s.part n = true → 2 ≤ s.fence n → s.niPowered n = true →
    s.niSpanStopped n = false → s.niUnused n = false →
    Runs (.openFence who n) s fun t =>
      t.f F.NI_FENCE_STATUS_STATE n = 0 ∧ t.f F.NI_FENCE_STATUS_CAUSE n = s.f F.NI_FENCE_STATUS_CAUSE n ∧
      Kept s t [(.NI_FENCE_STATUS, n)] [.net, .ledger]) ∧
  (∀ (s : State) (p : Packet) (x : PacketEcc), s.ready = true → s.routerHolds (pageOfNi p.dest) = false → s.fence p.dest = 2 →
    s.landing p = some x → p.cmd = .rd ∨ p.cmd = .wr ∨ p.cmd = .fadd → entryValid (s.activeEntry p.dest p.src) = true → s.sendsNow p.dest 1 = true →
    Runs (.fenceProxy p) s fun t =>
      Sent s t (t.answerTo p .rspErr 2 (BitVec.ofNat 64 p.dest) []) ∧ OtherNis s t p.dest ∧
      t.f F.NI_PROXY_CNT_ANSWERED p.dest = s.counted F.NI_PROXY_CNT_ANSWERED p.dest 1 ∧
      Kept s t (((.NI_PROXY_CNT, p.dest) :: niLogRegs p.dest : Regs) ++ statRegs p.dest) [.net]) ∧
  (∀ (s : State) (n dest cause : Nat) (at' : DWord), s.ready = true → (s.ni n).gates = [⟨dest, cause, some at'⟩] →
    Runs (.uGateOpen n dest) s fun t =>
      (t.ni n).gates = [] ∧ t.f F.NI_U_STATUS_GATED n = 0 ∧ (s.time.toNat < at'.toNat → t.time = at') ∧
      Kept s t [(.NI_U_STATUS, n)] [.clock, .net]) ∧
  (∀ (s : State) (n vn wait : Nat) (p : Packet), s.ready = true → vn < 2 → (s.ni n).held = [p] → p.vn = vn → p.src = n →
    s.f F.NI_REG_CTRL_EN (4 * n + vn) = 0 → s.localUp n = true →
    Runs (.regulatorRelease n vn wait) s fun t =>
      (t.ni n).held = [] ∧ Sent s t p ∧
      t.time = s.time + BitVec.ofNat 64 wait ∧ Kept s t ((.NI_REG_STATUS, n) :: statRegs n) [.clock, .net]) ∧
  (∀ (s : State) (n wait : Nat) (p : Packet), s.ready = true → (s.ni n).held = [p] → p.vn = 2 → p.src = n →
    s.f F.NI_REG_CTRL_EN (4 * n + 2) = 0 → s.localUp n = true → (s.ni n).gates = [] →
    (s.ni n).uLast = none → (s.ni n).uLastTo = [] →
    Runs (.uRelease n wait) s fun t =>
      (t.ni n).held = [] ∧ (t.ni n).uLast = some t.time ∧
      Sent s t p ∧
      Kept s t ((.NI_REG_STATUS, n) :: statRegs n) [.clock, .net]) ∧
  (∀ (s : State) (i : Nat), s.ready = true → 0x60 ≤ i → i < 0xA0 → niPresent s.part i = true →
    (s.ni i).csf.downUnits ≤ 16 → (s.ni i).csf.upUnits ≤ 16 → 0 < (s.ni i).csf.downUnits + (s.ni i).csf.upUnits →
    Runs (.resyncReq i) s fun t =>
      t.f F.DEV_XS_STATE_STATE i = 1 ∧ t.f F.DEV_XS_STATE_SIDE i = 0 ∧ (t.ni i).csf = csfInit ∧
      t.f F.DEV_XS_CNT_DISCARDED i = s.counted F.DEV_XS_CNT_DISCARDED i ((s.ni i).csf.downUnits + (s.ni i).csf.upUnits) ∧
      t.f F.DEV_XS_STATUS_DISCARD 0 = 1 ∧ OtherNis s t i ∧
      Kept s t [(.DEV_XS_STATE, i), (.DEV_XS_CNT, i), (.DEV_XS_STATUS, 0)] [.net, .dev]) ∧
  (∀ (s : State) (i words : Nat), s.ready = true → i < 0x60 → niPresent s.part i = true → s.fabric.spent = [] →
    (s.ni i).edge.moved = [] → (s.ni i).edge.iqWords = [] → (s.ni i).edge.trWords = [] →
    words = (s.ni i).edge.iq.length + (s.ni i).edge.tr.length + ((s.ni i).edge.out.map fun x => x.2.length).sum → 0 < words →
    Runs (.resyncReq i) s fun t =>
      t.f F.DEV_XS_STATE_STATE i = 1 ∧ (t.ni i).edge.iq = [] ∧ (t.ni i).edge.tr = [] ∧ (t.ni i).edge.out = [] ∧
      t.f F.DEV_XS_CNT_DISCARDED i = s.counted F.DEV_XS_CNT_DISCARDED i words ∧ t.f F.DEV_XS_STATUS_DISCARD 0 = 1 ∧
      OtherNis s t i ∧ Kept s t [(.DEV_XS_STATE, i), (.DEV_XS_CNT, i), (.DEV_XS_STATUS, 0)] [.net, .dev]) ∧
  (∀ (s : State) (i : Nat), s.ready = true → stationPresent s.part i = true → (i = 0xA0 → s.cfg.icpResults = []) →
    (i = 0xA1 → s.dev.evtBeads = []) → (i < 0xA0 → (s.ni i).csf = csfInit ∧ (s.ni i).edge = niInit.edge) →
    Runs (.resyncReq i) s fun t =>
      t.f F.DEV_XS_STATE_STATE i = 1 ∧ (s.station i ≠ 1 → t.csh i = ⟨true, 0⟩) ∧
      (s.station i = 1 → (s.csh i).running = true → (s.csh i).waiting < 255 → t.csh i = ⟨true, (s.csh i).waiting + 1⟩) ∧
      (s.station i = 1 → (s.csh i).running = true → (s.csh i).waiting = 255 →
        t.f F.DEV_XS_STATUS_LOST 0 = 1 ∧ t.csh i = ⟨true, 255⟩) ∧
      Kept s t [(.DEV_XS_STATE, i), (.DEV_XS_STATUS, 0)] [.net, .dev]) ∧
  (∀ (s : State) (i : Nat), s.ready = true → stationPresent s.part i = true → s.station i = 1 →
    (i < 0x60 → s.lostRod (edgeRod i) = false) → (s.csh i).waiting = 0 → (s.ni i).still = true →
    Runs (.resyncDone i) s fun t =>
      t.f F.DEV_XS_STATE_STATE i = 0 ∧ t.f F.DEV_XS_STATE_RESYNCS i = (s.f F.DEV_XS_STATE_RESYNCS i + 1) % 2 ^ 16 ∧
      t.csh i = cshIdle ∧ t.net.nis = s.net.nis ∧ Kept s t [(.DEV_XS_STATE, i)] [.net, .dev]) ∧
  (∀ (s : State) (i : Nat), s.ready = true → stationPresent s.part i = true → s.station i = 1 →
    (i < 0x60 → s.lostRod (edgeRod i) = false) → (s.csh i).running = true → 0 < (s.csh i).waiting →
    Runs (.resyncDone i) s fun t =>
      t.station i = 1 ∧ t.csh i = ⟨true, (s.csh i).waiting - 1⟩ ∧ Kept s t [] [.dev]) ∧
  (∀ (s : State) (n : Nat) (aon : Bool), s.ready = true → n < 0x60 → niPresent s.part n = true → s.station n = 0 →
    (s.ni n).delivered = [] → (s.ni n).posted = [] → s.f F.DEV_XS_LOG_VALID 0 = 0 →
    Runs (.crossTimeout n 1 aon) s fun t =>
      t.f F.DEV_XS_STATE_STATE n = 3 ∧ t.f F.DEV_XS_STATE_SIDE n = 1 ∧ t.f F.DEV_XS_STATUS_ERROR 0 = 1 ∧
      t.word .DEV_XS_LOG 0 = BitVec.ofNat 32 (n + 256 + (if aon then 1024 else 0) + 2 ^ 31) ∧
      t.pair .DEV_XS_LOG_TIME_LO .DEV_XS_LOG_TIME_HI 0 = s.now.toNat ∧
      Kept s t [(.DEV_XS_STATE, n), (.DEV_XS_STATUS, 0), (.DEV_XS_LOG, 0), (.DEV_XS_LOG_TIME_LO, 0), (.DEV_XS_LOG_TIME_HI, 0),
        (.DEV_XS_CNT, n)] [.net, .ledger])

/-- Routers: a header that arrives whole leaves by the port its route names with the route shifted; a header that waits too
long is promoted; a faulty wire moves to the lowest free spare; staged writes wait for a HOLD, which applies them when every
packet has ended, or fails at its limit (R202, R211, R213, R239, R241, R243). Completes: unitReceive, ageingPromotion,
wireRemap, stagedWrite, hold, holdDrainDone, holdFail. -/
def Obligations.Routers : Prop :=
  (∀ (s : State) (page port q to' n : Nat) (u : FlowUnit), s.ready = true → pagePresent s.part page = true →
    portEnd s.part page port = some (.ni n) → s.router page = routerInit → u.vn < 4 → u.head = true → u.flips = [] →
    (s.ni n).out = [u] → headerField u.payload 0 0 4 = q → q < 15 → s.outputDown page q = false →
    portEnd s.part page q = some (.node to') → s.router to' = routerInit → 1 ≤ s.inputRoom to' u.vn →
    1 ≤ s.inputRoom page u.vn → s.routerHolds page = false → page ≠ to' →
    Runs (.unitReceive page port []) s fun t =>
      (t.router page).sent.map (·.1) = [q] ∧
      ((t.router page).sent.all fun x => x.2.vn == u.vn && x.2.tail == u.tail && x.2.flips.isEmpty &&
        headerField x.2.payload 0 0 48 == headerField u.payload 0 0 48 / 16 + 15 * 2 ^ 44 &&
        x.2.payload.toNat / 2 ^ 48 == u.payload.toNat / 2 ^ 48) = true ∧
      (t.router page).waiting = [] ∧ (t.ni n).out = [] ∧
      (t.router page).opened = (if u.tail then [] else [(4 * port + u.vn, q)]) ∧ Kept s t [] [.net]) ∧
  (∀ (s : State) (page port vn : Nat) (u : FlowUnit), s.ready = true → s.f F.CN_AGE_CFG_THRESH page ≠ 0 → vn < 2 →
    u.vn = vn → u.head = true → u.prio < 2 → (s.router page).waiting = [(port, u)] →
    Runs (.ageingPromotion page port vn) s fun t =>
      (t.router page).waiting = [(port, { u with prio := u.prio + 1, aged := true })] ∧
      t.f F.CN_AGED_PROMOTIONS page = s.counted F.CN_AGED_PROMOTIONS page 1 ∧ Kept s t [(.CN_AGED, page)] [.net]) ∧
  (∀ (s : State) (page port w : Nat), s.ready = true → s.f F.CN_LINK_STATUS_REMAP_PENDING (linkInst page port) = 1 →
    w < 592 → s.sparesUsed page port = [] →
    Runs (.wireRemap page port (some w)) s fun t =>
      s.sparesUsed page port = [] ∧ t.sparesUsed page port = [0] ∧
      t.word .CN_LINK_MAP (linkInst page port) = BitVec.ofNat 32 (w + 2 ^ 31) ∧
      t.word .CN_LINK_STATUS (linkInst page port) = changed (s.word .CN_LINK_STATUS (linkInst page port))
        [(F.CN_LINK_STATUS_REMAP_PENDING, 0), (F.CN_LINK_STATUS_SPARES_USED, 1)] ∧
      t.f F.CN_STATUS_REMAP page = 1 ∧
      Entered s t 0x31 7 5 ⟨0x30000000 + linkInst page port, w, 0, 0⟩ ∧
      Kept s t [(.CN_LINK_STATUS, linkInst page port), (.CN_LINK_MAP, linkInst page port), (.CN_STATUS, page)]
        [.net, .ledger]) ∧
  (∀ (s : State) (who : Who) (page : Nat) (r : Reg) (data : Word), s.ready = true → isStaged r = true →
    pagePresent s.part page = true → s.stagedBad page r data = false →
    Runs (.stagedWrite who page r data) s fun t =>
      (t.router page).staged = (s.router page).staged.filter (fun x => x.reg != r) ++ [⟨r, page, data, who⟩] ∧
      t.word r page = s.word r page ∧
      t.word .CN_STATUS page = changed (s.word .CN_STATUS page) [(F.CN_STATUS_STAGED, 1)] ∧
      Kept s t [(.CN_STATUS, page)] [.net]) ∧
  (∀ (s : State) (who : Who) (page : Nat), s.ready = true → pagePresent s.part page = true →
    s.f F.CN_HOLD_CTRL_REQ page = 0 →
    Runs (.hold who page) s fun t =>
      t.f F.CN_HOLD_CTRL_REQ page = 1 ∧ t.f F.CN_HOLD_STATUS_STATE page = 2 ∧ t.routerHolds page = true ∧
      Kept s t (([(.CN_HOLD_CTRL, page), (.CN_HOLD_STATUS, page)] : Regs) ++ s.gateRegs) [.net, .ledger]) ∧
  (∀ (s : State) (page : Nat) (w : Word) (who : Who), s.ready = true → s.f F.CN_HOLD_STATUS_STATE page = 2 →
    (s.router page).opened = [] → (s.router page).waiting = [] → (s.router page).staged = [⟨.CN_ARB_WEIGHT, page, w, who⟩] →
    Runs (.holdDrainDone page) s fun t =>
      (t.router page).staged = [] ∧ t.f F.CN_HOLD_STATUS_STATE page = 0 ∧ t.f F.CN_HOLD_CTRL_REQ page = 0 ∧
      t.f F.CN_ARB_WEIGHT_W_VN0 page = w.toNat % 16 ∧ t.f F.CN_STATUS_STAGED page = 0 ∧
      t.f F.CN_HOLD_STATUS_COUNT page = (s.f F.CN_HOLD_STATUS_COUNT page + 1) % 2 ^ 16 ∧
      Kept s t [(.CN_HOLD_CTRL, page), (.CN_HOLD_STATUS, page), (.CN_HOLD_LAST, page), (.CN_ARB_WEIGHT, page),
        (.CN_STATUS, page)] [.net, .ledger]) ∧
  (∀ (s : State) (page : Nat), s.ready = true → s.f F.CN_HOLD_STATUS_STATE page = 2 → (s.router page).waiting = [] →
    Runs (.holdFail page) s fun t =>
      (t.router page).staged = (s.router page).staged ∧ t.f F.CN_HOLD_STATUS_STATE page = 0 ∧
      t.f F.CN_HOLD_STATUS_FAILED page = 1 ∧ t.f F.CN_STATUS_CMD_REFUSED page = 1 ∧
      Kept s t [(.CN_HOLD_CTRL, page), (.CN_HOLD_STATUS, page), (.CN_HOLD_LAST, page), (.CN_STATUS, page),
        (.CN_ERRLOG_INFO, page), (.CN_ERRLOG_TIME_LO, page), (.CN_ERRLOG_TIME_HI, page)] [.clock, .net, .ledger])

-- ------------------------------------------------------------------ the chassis trigger bus

/-- Telegrams: SEND starts one when the line is idle and its tokens are held, else it starts, or starts again after a
collision and a backoff, on the tick that step 1 gives; a collision stops it and gives its unused tokens back; its last check
bit ends it 633 ticks after its start (R301, R302). Lines: FILT + 1 consecutive samples, each the majority of three, register
a receiver's new level, which is shown and enters source n by RX_EDGE 6 ticks later; fewer do not. A telegram with good check
bits is queued and matched, another counts RX_ERR, and one sent by half-bits of 15 ticks is received as it was sent. A pulse
ends at its width, an assertion at CUTOFF locks the line out, as does one its own receiver does not see; a line held by
another driver is flagged (R297, R298, R299, R300, R303, R304). Completes: send, telegramStart, resend, collision,
telegramSent, receiverEvent, telegramReceived, pulseEnd, cutoff, driveFault, foreignStuck. -/
def Obligations.ChassisLines : Prop :=
  (∀ (s : State) (n : Nat), s.ready = true → n < 16 → (s.lineHold n).mode = 3 → (s.line n).telegram = none →
    s.unsendable n (BitVec.ofNat 16 (s.f F.TBUS_TX_DATA_DATA n)) = false →
    s.telegramReady n 0 (BitVec.ofNat 16 (s.f F.TBUS_TX_DATA_DATA n)) = some s.time.toNat →
    Runs (.send n) s fun t =>
      t.f F.TBUS_TX_DATA_SEND n = 1 ∧
      (t.line n).telegram = some ⟨BitVec.ofNat 16 (s.f F.TBUS_TX_DATA_DATA n), some s.time, 0, false⟩ ∧
      t.f F.TBUS_CNT_TX_ASSERTIONS n = (s.f F.TBUS_CNT_TX_ASSERTIONS n +
        telegramTokens (BitVec.ofNat 16 (s.f F.TBUS_TX_DATA_DATA n))) % 2 ^ 32 ∧
      Kept s t [(.TBUS_TX_DATA, n), (.TBUS_CNT_TX, n)] [.tbus]) ∧
  (∀ (s : State) (n w r : Nat) (d : BitVec 16), s.ready = true → n < 16 → (s.line n).telegram = some ⟨d, none, r, false⟩ →
    s.unsendable n d = false → s.telegramReady n 0 d = some w → w < 2 ^ 64 →
    Runs (.telegramStart n) s fun t =>
      t.time = BitVec.ofNat 64 w ∧ (t.line n).telegram = some ⟨d, some t.time, r, false⟩ ∧
      t.f F.TBUS_CNT_TX_ASSERTIONS n = (s.f F.TBUS_CNT_TX_ASSERTIONS n + telegramTokens d) % 2 ^ 32 ∧
      Kept s t [(.TBUS_CNT_TX, n)] [.clock, .tbus]) ∧
  (∀ (s : State) (n w r : Nat) (k : BitVec 4) (d : BitVec 16), s.ready = true → n < 16 →
    (s.line n).telegram = some ⟨d, none, r, true⟩ →
    s.unsendable n d = false → s.telegramReady n k.toNat d = some w → w < 2 ^ 64 →
    Runs (.resend n k) s fun t =>
      t.time = BitVec.ofNat 64 w ∧ (t.line n).telegram = some ⟨d, some t.time, r + 1, false⟩ ∧
      t.f F.TBUS_CNT_TX_ASSERTIONS n = (s.f F.TBUS_CNT_TX_ASSERTIONS n + telegramTokens d) % 2 ^ 32 ∧
      Kept s t [(.TBUS_CNT_TX, n)] [.clock, .tbus]) ∧
  (∀ (s : State) (n half r : Nat) (d : BitVec 16) (t0 : DWord), s.ready = true → n < 16 →
    (s.line n).telegram = some ⟨d, some t0, r, false⟩ → half < 42 → r < s.f F.TBUS_LINE_TIMING_RETRY n →
    Runs (.collision n half) s fun t =>
      (t.line n).telegram = some ⟨d, none, r, true⟩ ∧ (t.line n).released = some t.time ∧
      (t.line n).tokens = (s.line n).tokens + (telegramTokens d - risesIn false ((halfBits d).take (half + 1))) ∧
      t.f F.TBUS_LINE_STATUS_COLLISION n = 1 ∧ t.f F.TBUS_CNT_EXC_COLL n = s.counted F.TBUS_CNT_EXC_COLL n 1 ∧
      Kept s t [(.TBUS_LINE_STATUS, n), (.TBUS_CNT_EXC, n), (.TBUS_CNT_TX, n)] [.clock, .tbus, .ledger]) ∧
  (∀ (s : State) (n r : Nat) (d : BitVec 16) (t0 : DWord), s.ready = true → n < 16 →
    (s.line n).telegram = some ⟨d, some t0, r, false⟩ →
    Runs (.telegramSent n) s fun t =>
      (t.line n).telegram = none ∧ (t.line n).released = some t.time ∧
      (s.time.toNat < (t0 + 633).toNat → t.time = t0 + 633) ∧
      t.word .TBUS_TX_DATA n = changed (s.word .TBUS_TX_DATA n) [(F.TBUS_TX_DATA_SEND, 0)] ∧
      Kept s t [(.TBUS_TX_DATA, n)] [.clock, .tbus]) ∧
  (∀ (s : State) (n wait : Nat) (level : Bool) (xs : List (BitVec 3)), s.ready = true → n < 18 →
    s.f F.TBUS_LINE_STATUS_LEVEL n = (if level then 0 else 1) → xs.length = s.f F.TBUS_LINE_CTRL_FILT n + 1 →
    (xs.all fun x => tickSample x == level) = true →
    (s.lineHold n).mode = 1 ∨ (s.lineHold n).mode = 2 →
    s.f F.TBUS_LINE_CTRL_RX_EDGE n = 3 ∨ s.f F.TBUS_LINE_CTRL_RX_EDGE n = (if level then 1 else 2) →
    s.f F.TBUS_LINE_CTRL_OWN_MASK n = 0 →
    Runs (.receiverEvent n xs wait) s fun t =>
      t.time = ((s.pass wait).advanceTo ((s.pass wait).time + 6)).time ∧
      t.word .TBUS_LINE_STATUS n = changed (s.word .TBUS_LINE_STATUS n) [(F.TBUS_LINE_STATUS_LEVEL, level.toNat)] ∧
      (t.line n).since = s.time + BitVec.ofNat 64 wait ∧ ⟨.source n, t.time⟩ ∈ t.beam.flight ∧
      Kept s t [(.TBUS_LINE_STATUS, n), (.BEAM_SRC_CNT, n)] [.clock, .tbus, .beam]) ∧
  (∀ (s : State) (n wait : Nat) (level : Bool) (xs : List (BitVec 3)), s.ready = true → n < 19 →
    s.f F.TBUS_LINE_STATUS_LEVEL n = (if level then 0 else 1) → xs.length = s.f F.TBUS_LINE_CTRL_FILT n + 1 →
    (xs.all fun x => tickSample x == level) = true → s.f F.TBUS_LINE_CTRL_RX_EDGE n = 0 →
    Runs (.receiverEvent n xs wait) s fun t =>
      t.time = s.time + BitVec.ofNat 64 wait ∧
      t.word .TBUS_LINE_STATUS n = changed (s.word .TBUS_LINE_STATUS n) [(F.TBUS_LINE_STATUS_LEVEL, level.toNat)] ∧
      (t.line n).since = t.time ∧ Kept s t [(.TBUS_LINE_STATUS, n)] [.clock, .tbus]) ∧
  (∀ (s : State) (n wait : Nat) (xs : List (BitVec 3)), s.ready = true → xs.length ≤ s.f F.TBUS_LINE_CTRL_FILT n →
    Runs (.receiverEvent n xs wait) s fun t => t.time = s.time + BitVec.ofNat 64 wait ∧ Kept s t [] [.clock]) ∧
  (∀ d : BitVec 16, goodTelegram (sentGaps d) = some d) ∧
  (∀ (s : State) (n wait quiet : Nat) (gaps : List Nat) (d : BitVec 16), s.ready = true → n < 16 → (s.lineHold n).mode = 3 →
    s.f F.TBUS_LINE_CTRL_OWN_MASK n = 0 → s.tbus.fifo.length < 32 → 60 ≤ quiet → goodTelegram gaps = some d →
    Runs (.telegramReceived n quiet gaps wait) s fun t =>
      t.tbus.fifo = s.tbus.fifo ++ [(d, n, t.now + 15)] ∧
      ((d ^^^ BitVec.ofNat 16 (s.f F.TBUS_MATCH_VALUE n)) &&& BitVec.ofNat 16 (s.f F.TBUS_MATCH_MASK n) = 0 →
        ⟨.source n, t.time + 15⟩ ∈ t.beam.flight) ∧
      ((d ^^^ BitVec.ofNat 16 (s.f F.TBUS_MATCH_VALUE n)) &&& BitVec.ofNat 16 (s.f F.TBUS_MATCH_MASK n) ≠ 0 →
        t.beam = s.beam) ∧
      Kept s t [(.BEAM_SRC_CNT, n)] [.clock, .tbus, .beam]) ∧
  (∀ (s : State) (n wait quiet : Nat) (gaps : List Nat), s.ready = true → n < 16 →
    (s.lineHold n).mode = 3 → s.f F.TBUS_LINE_CTRL_OWN_MASK n = 0 → 60 ≤ quiet → goodTelegram gaps = none →
    Runs (.telegramReceived n quiet gaps wait) s fun t =>
      t.word .TBUS_LINE_STATUS n = changed (s.word .TBUS_LINE_STATUS n) [(F.TBUS_LINE_STATUS_RX_ERR, 1)] ∧
      t.word .TBUS_CNT_EXC n = changed (s.word .TBUS_CNT_EXC n)
        [(F.TBUS_CNT_EXC_RX_ERR, s.counted F.TBUS_CNT_EXC_RX_ERR n 1)] ∧
      Kept s t [(.TBUS_LINE_STATUS, n), (.TBUS_CNT_EXC, n)] [.clock]) ∧
  (∀ (s : State) (n : Nat) (t0 : DWord), s.ready = true → (s.line n).asserting = true → (s.line n).ends = some t0 →
    Runs (.pulseEnd n) s fun t =>
      (t.line n).asserting = false ∧ (t.line n).released = some t.time ∧ (s.time.toNat < t0.toNat → t.time = t0) ∧
      Kept s t [] [.clock, .tbus]) ∧
  (∀ (s : State) (n : Nat), s.ready = true → n < 18 → (s.line n).asserting = true → (s.line n).ends = none →
    Runs (.cutoff n) s fun t =>
      (t.line n).asserting = false ∧ (t.line n).cut = true ∧
      (s.time.toNat < (s.line n).began.toNat + s.cutoffTicks n → (s.line n).began.toNat + s.cutoffTicks n < 2 ^ 64 →
        t.time.toNat = (s.line n).began.toNat + s.cutoffTicks n) ∧
      t.word .TBUS_LINE_STATUS n = changed (s.word .TBUS_LINE_STATUS n) [(F.TBUS_LINE_STATUS_CUTOFF, 1)] ∧
      Kept s t [(.TBUS_LINE_STATUS, n)] [.clock, .tbus]) ∧
  (∀ (s : State) (n wait : Nat), s.ready = true → n < 18 → (s.line n).asserting = true → (s.line n).telegram = none →
    s.f F.TBUS_LINE_STATUS_LEVEL n = 0 →
    Runs (.driveFault n wait) s fun t =>
      t.lockedOut n = true ∧
      ((s.line n).began.toNat + 12 ≤ t.time.toNat → (t.line n).asserting = false) ∧
      (t.time.toNat < (s.line n).began.toNat + 12 → (t.line n).ends = some ((s.line n).began + 12)) ∧
      t.word .TBUS_LINE_STATUS n = changed (s.word .TBUS_LINE_STATUS n) [(F.TBUS_LINE_STATUS_DRIVE_FAULT, 1)] ∧
      Kept s t [(.TBUS_LINE_STATUS, n)] [.clock, .tbus, .ledger]) ∧
  (∀ (s : State) (n : Nat), s.ready = true → n < 18 → (s.line n).asserting = false → (s.line n).telegram = none →
    s.f F.TBUS_LINE_STATUS_LEVEL n = 1 →
    Runs (.foreignStuck n) s fun t =>
      t.word .TBUS_LINE_STATUS n = changed (s.word .TBUS_LINE_STATUS n) [(F.TBUS_LINE_STATUS_FOREIGN_STUCK, 1)] ∧
      t.time = (s.advanceTo (BitVec.ofNat 64 (max (s.line n).since.toNat (((s.line n).released.map (·.toNat)).getD 0) + 150000))).time ∧
      Kept s t [(.TBUS_LINE_STATUS, n)] [.clock, .tbus, .ledger])

-- ------------------------------------------------------------------ the serial lanes

/-- A receive stream starts at k = 0 when its lane locks, at once in a raw mode, in subclass 0 with the latest lane of its
link group, in subclass 1 on the first release tick; the words of a raw stream bring 8 bytes each; a complete chunk leaves as
one WRP to its place in the ring; an aligned lane releases a multiblock on its tick or ends its stream; a loss ends the stream
and is flagged (R310, R312, R314, R317, R320, R325). A raw transmit stream starts at once, and a chunk that is due and not in
hand goes out as zeros; the PLL locks; an eye scan runs while the lane holds CDR lock, ends at once without it, and shows its
count (R308, R313, R321, R326). Completes: streamStart, chunkSend, multiblockRelease, laneLoss, pllLost, txStreamStart,
underrun, quadPllLock, eyeScan, eyeScanDone. -/
def Obligations.LaneStreams : Prop :=
  (∀ (s : State) (l wait : Nat) (before : BitVec 58) (ilasErr : Bool), s.ready = true → l < 128 → s.rxOn l = true →
    s.quadMode (l / 4) = 2 ∨ s.quadMode (l / 4) = 3 →
    s.f F.LANE_LANE_STATUS_LINK_UP l = 0 → s.funcState (.quad (l / 4)) = 1 →
    Runs (.streamStart l wait before ilasErr) s fun t =>
      t.time = s.time + BitVec.ofNat 64 wait ∧ t.rxK l = 0 ∧ t.pair .LANE_RX_START_LO .LANE_RX_START_HI l = t.now.toNat ∧
      t.word .LANE_LANE_STATUS l = changed (s.word .LANE_LANE_STATUS l)
        ([(F.LANE_LANE_STATUS_CDR_LOCK, 1), (F.LANE_LANE_STATUS_LINK_UP, 1),
          (F.LANE_LANE_STATUS_STREAM_SEQ, (s.f F.LANE_LANE_STATUS_STREAM_SEQ l + 1) % 2 ^ 16)] ++
          if s.quadMode (l / 4) = 2 then [(F.LANE_LANE_STATUS_BLOCK_LOCK, 1)] else []) ∧
      (t.lane l).part = [] ∧ (t.lane l).held = (s.lane l).held ∧ (t.lane l).line = before ∧
      Kept s t [(.LANE_LANE_STATUS, l), (.LANE_RX_BYTES_LO, l), (.LANE_RX_BYTES_HI, l), (.LANE_RX_START_LO, l),
        (.LANE_RX_START_HI, l)] [.clock, .lanes]) ∧
  (∀ (s : State) (l m wait : Nat) (before : BitVec 58), s.ready = true → l < 128 → m < 128 → l ≠ m → s.rxOn l = true →
    s.quadMode (l / 4) = 1 → s.f F.LANE_JESD_CFG_SUBCLASS (l / 4) = 0 → s.funcState (.quad (l / 4)) = 1 →
    s.linkLanes (s.f F.LANE_JESD_CFG_LINK (l / 4)) = [l, m] ∨ s.linkLanes (s.f F.LANE_JESD_CFG_LINK (l / 4)) = [m, l] →
    s.f F.LANE_LANE_STATUS_LINK_UP l = 0 → s.f F.LANE_LANE_STATUS_LINK_UP m = 0 →
    Runs (.streamStart l wait before false) s fun t =>
      (s.f F.LANE_LANE_STATUS_BLOCK_LOCK m = 1 →
        t.f F.LANE_LANE_STATUS_LINK_UP l = 1 ∧ t.f F.LANE_LANE_STATUS_LINK_UP m = 1 ∧ t.rxK l = 0 ∧ t.rxK m = 0 ∧
        t.pair .LANE_RX_START_LO .LANE_RX_START_HI l = t.now.toNat ∧
        t.pair .LANE_RX_START_LO .LANE_RX_START_HI m = t.now.toNat) ∧
      (s.f F.LANE_LANE_STATUS_BLOCK_LOCK m = 0 →
        t.word .LANE_LANE_STATUS l = changed (s.word .LANE_LANE_STATUS l)
          [(F.LANE_LANE_STATUS_CDR_LOCK, 1), (F.LANE_LANE_STATUS_BLOCK_LOCK, 1)] ∧
        Kept s t [(.LANE_LANE_STATUS, l)] [.clock, .lanes]) ∧
      Kept s t ([.LANE_LANE_STATUS, .LANE_RX_BYTES_LO, .LANE_RX_BYTES_HI, .LANE_RX_START_LO, .LANE_RX_START_HI].flatMap
        fun r => [(r, l), (r, m)]) [.clock, .lanes]) ∧
  (∀ (s : State) (l wait : Nat) (before : BitVec 58) (b : DWord), s.ready = true → l < 128 → s.rxOn l = true →
    s.quadMode (l / 4) = 1 → s.f F.LANE_JESD_CFG_SUBCLASS (l / 4) = 1 → s.funcState (.quad (l / 4)) = 1 →
    s.f F.LANE_LANE_STATUS_LINK_UP l = 0 → Sparse.get none s.lanes.aligned (l / 4) = some b → 0 < s.f F.LANE_LEMC_TICKS (l / 4) →
    s.time.toNat + wait + 2 ^ 17 < 2 ^ 64 → b.toNat + 2 ^ 17 < 2 ^ 64 →
    Runs (.streamStart l wait before false) s fun t =>
      t.f F.LANE_LANE_STATUS_LINK_UP l = 1 ∧ t.rxK l = 0 ∧ s.time.toNat + wait ≤ t.time.toNat ∧
      b.toNat + s.f F.LANE_SYSREF_CFG_RBD (l / 4) ≤ t.time.toNat ∧
      (t.time.toNat - (b.toNat + s.f F.LANE_SYSREF_CFG_RBD (l / 4))) % s.f F.LANE_LEMC_TICKS (l / 4) = 0 ∧
      (t.time.toNat < s.time.toNat + wait + s.f F.LANE_LEMC_TICKS (l / 4) ∨
        t.time.toNat = b.toNat + s.f F.LANE_SYSREF_CFG_RBD (l / 4)) ∧
      Kept s t [(.LANE_LANE_STATUS, l), (.LANE_RX_BYTES_LO, l), (.LANE_RX_BYTES_HI, l), (.LANE_RX_START_LO, l),
        (.LANE_RX_START_HI, l)] [.clock, .lanes]) ∧
  (∀ (s : State) (l : Nat) (w : LineWord) (b : BitVec 64), s.ready = true → l < 128 → s.rxOn l = true →
    s.f F.LANE_LANE_STATUS_LINK_UP l = 1 → (s.lane l).held = [] → (s.lane l).part ≠ [] →
    (s.lane l).part.length + 8 < s.rxChunk l →
    (s.quadMode (l / 4) = 3 ∧ w = .bits b) ∨
      (s.quadMode (l / 4) = 2 ∧ s.f F.LANE_QUAD_CFG_SCR (l / 4) = 0 ∧ (w = .block 1 b ∨ w = .block 2 b)) →
    Runs (.chunkSend l [w] 0) s fun t =>
      (t.lane l).part = (s.lane l).part ++ toBytes 8 b.toNat ∧ t.rxK l = (s.rxK l + 8) % 2 ^ 64 ∧
      Kept s t [(.LANE_RX_BYTES_LO, l), (.LANE_RX_BYTES_HI, l)] [.lanes]) ∧
  (∀ (s : State) (l k d : Nat) (data : List Byte), s.ready = true → l < 128 → s.rxOn l = true →
    (s.lane l).held = [(k, data)] → data.length = s.rxChunk l →
    s.niTakes (laneNi l) = true → (s.ni (laneNi l)).csf.up = [] → s.recordOf (laneNi l) = none →
    decodeAddr s.part (s.rxBase l + k % 2 ^ s.f F.LANE_RX_SIZE_LOG2 l) = .ni d →
    entryValid (s.activeEntry (laneNi l) d) = true → s.sendsNow (laneNi l) 0 = true →
    Runs (.chunkSend l [] 0) s fun t =>
      (t.lane l).held = [] ∧
      Sent s t (s.postedFrom (laneNi l) d (s.rxBase l + k % 2 ^ s.f F.LANE_RX_SIZE_LOG2 l) data) ∧ OtherNis s t (laneNi l) ∧
      Kept s t (statRegs (laneNi l)) [.lanes, .net]) ∧
  (∀ (s : State) (l arrival : Nat) (line : List LineWord), s.ready = true → l < 128 → s.rxOn l = true → s.quadMode (l / 4) = 1 →
    s.f F.LANE_LANE_STATUS_LINK_UP l = 1 → (s.lane l).held = [] → (s.lane l).part = [] → s.funcState (.quad (l / 4)) = 1 →
    (lineOctets line).length = s.multiblockBytes (l / 4) → (lineOctets line).length < s.rxChunk l →
    s.rxChunk l ≤ 4096 →
    Runs (.multiblockRelease l (.complete line) arrival 0) s fun t =>
      (t.lane l).part = lineOctets line ∧ (t.lane l).multiblock = (s.lane l).multiblock + 1 ∧
      t.rxK l = (s.rxK l + (lineOctets line).length) % 2 ^ 64 ∧
      t.f F.LANE_LEMC_ARRIVAL (l / 4) = max arrival (s.f F.LANE_LEMC_ARRIVAL (l / 4)) % 2 ^ 16 ∧
      Kept s t [(.LANE_RX_BYTES_LO, l), (.LANE_RX_BYTES_HI, l), (.LANE_LEMC, l / 4)] [.clock, .lanes]) ∧
  (∀ (s : State) (l arrival : Nat) (m : Multiblock), s.ready = true → l < 128 → s.rxOn l = true → s.quadMode (l / 4) = 1 →
    s.f F.LANE_LANE_STATUS_LINK_UP l = 1 → m = .none ∨ m = .fifth → s.f F.LANE_ALERT_CTRL_EN (l / 4) = 0 →
    Runs (.multiblockRelease l m arrival 0) s fun t =>
      t.word .LANE_LANE_STATUS l = changed (s.word .LANE_LANE_STATUS l)
        [(F.LANE_LANE_STATUS_LINK_UP, 0), (F.LANE_LANE_STATUS_LATE_MB, 1)] ∧
      (t.lane l).part = [] ∧ (t.lane l).held = (s.lane l).held ∧
      Kept s t [(.LANE_LANE_STATUS, l), (.LANE_LEMC, l / 4)] [.clock, .lanes]) ∧
  (∀ (s : State) (l : Nat), s.ready = true → l < 128 → s.rxOn l = true → s.f F.LANE_ALERT_CTRL_EN (l / 4) = 0 →
    Runs (.laneLoss l) s fun t =>
      t.word .LANE_LANE_STATUS l = changed (s.word .LANE_LANE_STATUS l)
        [(F.LANE_LANE_STATUS_CDR_LOCK, 0), (F.LANE_LANE_STATUS_BLOCK_LOCK, 0), (F.LANE_LANE_STATUS_LINK_UP, 0),
          (F.LANE_LANE_STATUS_LOSS, 1)] ∧
      (t.lane l).part = [] ∧ (t.lane l).held = (s.lane l).held ∧ Kept s t [(.LANE_LANE_STATUS, l)] [.lanes]) ∧
  (∀ (s : State) (q : Nat), s.ready = true → q < 32 → q < Part.quads s.part → s.f F.LANE_QUAD_STATUS_PLL_LOCK q = 1 →
    s.f F.LANE_ALERT_CTRL_EN q = 0 →
    Runs (.pllLost q) s fun t =>
      t.word .LANE_QUAD_STATUS q = changed (s.word .LANE_QUAD_STATUS q)
        [(F.LANE_QUAD_STATUS_PLL_LOCK, 0), (F.LANE_QUAD_STATUS_PLL_LOST, 1)] ∧
      (∀ i, i < 4 → t.word .LANE_LANE_STATUS (4 * q + i) = changed (s.word .LANE_LANE_STATUS (4 * q + i))
        [(F.LANE_LANE_STATUS_CDR_LOCK, 0), (F.LANE_LANE_STATUS_BLOCK_LOCK, 0), (F.LANE_LANE_STATUS_LINK_UP, 0),
          (F.LANE_LANE_STATUS_LOSS, 1)]) ∧
      Kept s t ((.LANE_QUAD_STATUS, q) :: (List.range 4).map fun i => (.LANE_LANE_STATUS, 4 * q + i)) [.lanes]) ∧
  (∀ (s : State) (l : Nat), s.ready = true → l < 128 → s.txOn l = true → (s.lane l).txFrom = none →
    s.quadMode (l / 4) = 2 ∨ s.quadMode (l / 4) = 3 → s.funcState (.quad (l / 4)) = 1 → (s.lane l).txHand = [] →
    Runs (.txStreamStart l) s fun t =>
      (t.lane l).txFrom = some s.time ∧ t.pair .LANE_TX_START_LO .LANE_TX_START_HI l = s.now.toNat ∧
      t.f F.LANE_LANE_STATUS_STREAM_SEQ l = (s.f F.LANE_LANE_STATUS_STREAM_SEQ l + 1) % 2 ^ 16 ∧
      Kept s t [(.LANE_LANE_STATUS, l), (.LANE_TX_START_LO, l), (.LANE_TX_START_HI, l)] [.lanes]) ∧
  (∀ (s : State) (l : Nat) (t0 : DWord), s.ready = true → l < 128 → s.txOn l = true → (s.lane l).txFrom = some t0 →
    (s.lane l).txHand = [] → s.niTakes (laneNi l) = false ∨ s.funcState (.quad (l / 4)) = 2 →
    Runs (.underrun l) s fun t =>
      (s.time.toNat < t0.toNat + s.txTicks l ((s.lane l).txNext * s.txChunk l) →
        t0.toNat + s.txTicks l ((s.lane l).txNext * s.txChunk l) < 2 ^ 64 →
        t.time.toNat = t0.toNat + s.txTicks l ((s.lane l).txNext * s.txChunk l)) ∧
      (t.lane l).txNext = (s.lane l).txNext + 1 ∧
      t.word .LANE_LANE_STATUS l = changed (s.word .LANE_LANE_STATUS l) [(F.LANE_LANE_STATUS_UNDERRUN, 1)] ∧
      t.word .LANE_ERR_CNT l = changed (s.word .LANE_ERR_CNT l)
        [(F.LANE_ERR_CNT_UNDERRUN, s.counted F.LANE_ERR_CNT_UNDERRUN l 1)] ∧
      SentOut s t [.lane l ((s.lane l).txNext * s.txChunk l) (lineWords (s.quadMode (l / 4)) (List.replicate (s.txChunk l) 0))] ∧
      Kept s t [(.LANE_LANE_STATUS, l), (.LANE_ERR_CNT, l)] [.clock, .lanes, .out]) ∧
  (∀ (s : State) (q : Nat), s.ready = true → q < Part.quads s.part → s.niPowered (0x70 + q) = true →
    Runs (.quadPllLock q) s fun t =>
      t.word .LANE_QUAD_STATUS q = changed (s.word .LANE_QUAD_STATUS q) [(F.LANE_QUAD_STATUS_PLL_LOCK, 1)] ∧
      Kept s t [(.LANE_QUAD_STATUS, q)] []) ∧
  (∀ (s : State) (l : Nat), s.ready = true → l < 4 * Part.quads s.part → s.f F.LANE_EYE_CTRL_START l = 0 →
    Runs (.eyeScan l) s fun t =>
      t.f F.LANE_EYE_CTRL_START l = s.f F.LANE_LANE_STATUS_CDR_LOCK l ∧
      t.f F.LANE_EYE_RESULT_DONE l = 1 - s.f F.LANE_LANE_STATUS_CDR_LOCK l ∧ t.f F.LANE_EYE_RESULT_VALID l = 0 ∧
      t.f F.LANE_EYE_RESULT_ERRORS l = 0 ∧ Kept s t [(.LANE_EYE_CTRL, l), (.LANE_EYE_RESULT, l)] []) ∧
  (∀ (s : State) (l errors : Nat), s.ready = true → s.f F.LANE_EYE_CTRL_START l = 1 → l < 128 →
    Runs (.eyeScanDone l errors) s fun t =>
      t.f F.LANE_EYE_CTRL_START l = 0 ∧
      t.word .LANE_EYE_RESULT l = BitVec.ofNat 32 (min errors (2 ^ 30 - 1) + 3 * 2 ^ 30) ∧
      Kept s t [(.LANE_EYE_CTRL, l), (.LANE_EYE_RESULT, l)] [])

-- ------------------------------------------------------------------ HBM and its rings

/-- The stack: initialization ends with good words and the NIs opened; the temperature's level sets HOT and latches THROTTLE
and CRIT; a patrol scrub checks its block and moves on (R333, R335, R337). Rings: RING_ENABLE starts a valid ring with cleared
state and is refused for an invalid one; CAPTURE makes every channel hold its values; when all have, the ring shows them and
freezes where FREEZE says so; REARM lets it write again (R339, R341, R342). Completes: hbmInitDone, hbmTempRead, patrolScrub,
ringEnable, capture, ringCaptured, rearm. -/
def Obligations.MemoryStack : Prop :=
  (∀ (s : State), s.still = true → Part.hasHbm s.part = true → s.niPowered 0x60 = true → s.f F.HBM_STATUS_INIT_DONE 0 = 0 →
    Runs (.hbmInitDone 0) s fun t =>
      t.word .HBM_STATUS 0 = changed (s.word .HBM_STATUS 0) [(F.HBM_STATUS_INIT_DONE, 1), (F.HBM_STATUS_CH_FAILED, 0)] ∧
      t.hbm = { s.hbm with poisoned := [], onceCorrected := [] } ∧
      (∀ p, p < 16 → s.f F.NI_FENCE_STATUS_CAUSE (0x60 + p) = 1 → 2 ≤ s.fence (0x60 + p) → t.fence (0x60 + p) = 0) ∧
      (∀ p, p < 16 → s.f F.NI_FENCE_STATUS_CAUSE (0x60 + p) ≠ 1 → t.fence (0x60 + p) = s.fence (0x60 + p)) ∧
      Kept s t ((.HBM_STATUS, 0) :: fenceRegs ((List.range 16).map (0x60 + ·))) [.hbm, .net, .ledger]) ∧
  (∀ (s : State) (k : Nat), s.ready = true → Part.hasHbm s.part = true → k < 256 →
    Runs (.hbmTempRead k) s fun t =>
      t.hbm = { s.hbm with level := hbmLevel s.hbm.level k } ∧
      t.word .HBM_TEMP 0 = changed (s.word .HBM_TEMP 0) [(F.HBM_TEMP_NOW, k), (F.HBM_TEMP_MAX, max k (s.f F.HBM_TEMP_MAX 0))] ∧
      (t.f F.HBM_STATUS_HOT 0 = 1 ↔ 1 ≤ hbmLevel s.hbm.level k) ∧
      (105 ≤ k → s.hbm.level < 3 → t.f F.HBM_STATUS_CRIT 0 = 1) ∧
      (95 ≤ k → s.hbm.level < 2 → t.f F.HBM_STATUS_THROTTLE 0 = 1) ∧
      (k ≤ 82 → t.hbm.level = 0) ∧
      Kept s t [(.HBM_TEMP, 0), (.HBM_STATUS, 0)] [.hbm, .ledger]) ∧
  (∀ (s : State) (p w bit : Nat) (spare : Bool), s.ready = true → Part.hasHbm s.part = true → p < 16 → w < 8 →
    s.f F.HBM_CTRL_SCRUB_EN 0 = 1 → s.f F.HBM_STATUS_SELF_REFRESH 0 = 0 → s.hbm.level ≠ 3 →
    s.hbmBad (hbmBlockAddr p (Sparse.get 0 s.hbm.scrubAt p)) 64 = [] → s.hbm.onceCorrected = [] →
    Runs (.patrolScrub p ⟨w, .corrected bit, spare⟩) s fun t =>
      t.word .HBM_PC_ECC p = changed (s.word .HBM_PC_ECC p) [(F.HBM_PC_ECC_CORRECTED, s.counted F.HBM_PC_ECC_CORRECTED p 1)] ∧
      Sparse.get [] t.hbm.onceCorrected (hbmBlockAddr p (Sparse.get 0 s.hbm.scrubAt p) / 8 + w) = [bit] ∧
      t.time = (s.advanceTo (Sparse.get 0 s.hbm.scrubbedAt p + BitVec.ofNat 64 (s.f F.HBM_CTRL_SCRUB_INTERVAL 0))).time ∧
      Sparse.get 0 t.hbm.scrubbedAt p = t.time ∧
      Sparse.get 0 t.hbm.scrubAt p = (Sparse.get 0 s.hbm.scrubAt p + 1) % 2 ^ 24 ∧ t.hbm.bytes = s.hbm.bytes ∧
      Kept s t [(.HBM_PC_ECC, p)] [.clock, .hbm]) ∧
  (∀ (s : State) (who : Who) (r : Nat) (tagged freeze : Bool), s.ready = true → Part.hasHbm s.part = true → r < 16 →
    s.f F.HBM_RING_CTRL_EN r = 0 → s.ringValid r = true → s.ringOverlaps r = false →
    Runs (.ringEnable who r tagged freeze) s fun t =>
      t.word .HBM_RING_CTRL r = BitVec.ofNat 32 (1 + 2 * tagged.toNat + 4 * freeze.toNat) ∧
      (∀ p, p < 16 → t.ringPc r p = ringPcInit ∧ t.word .HBM_RING_PC_END (16 * r + p) = 0) ∧
      t.pair .HBM_RING_CAP_END_LO .HBM_RING_CAP_END_HI r = 0 ∧ t.pair .HBM_RING_CAP_FILL_LO .HBM_RING_CAP_FILL_HI r = 0 ∧
      t.pair .HBM_RING_REC_BYTES_LO .HBM_RING_REC_BYTES_HI r = 0 ∧ t.hbm.bytes = s.hbm.bytes) ∧
  (∀ (s : State) (who : Who) (r : Nat) (tagged freeze : Bool), s.ready = true → Part.hasHbm s.part = true → r < 16 →
    s.f F.HBM_RING_CTRL_EN r = 0 → s.ringValid r = false ∨ s.ringOverlaps r = true →
    Runs (.ringEnable who r tagged freeze) s fun t =>
      Refused s t F.HBM_STATUS_CMD_REFUSED 0 who .encoding .HBM_RING_CTRL r (1 + 2 * tagged.toNat + 4 * freeze.toNat)) ∧
  (∀ (s : State) (r : Nat), s.ready = true → r < 16 → s.f F.HBM_RING_CTRL_EN r = 1 →
    Runs (.capture r) s fun t =>
      t.word .HBM_RING_CTRL r = changed (s.word .HBM_RING_CTRL r) [(F.HBM_RING_CTRL_PARTIAL, 0), (F.HBM_RING_CTRL_CAPTURE, 1)] ∧
      (∀ p, p < 16 → (t.ringPc r p).captured = true ∧
        ((s.ringPc r p).captured = false → (t.ringPc r p).capLast = (s.ringPc r p).last ∧
          (t.ringPc r p).capRecord = s.f F.RECORD_NUMBER_CURRENT 0 ∧
          (t.ringPc r p).capBytes = (s.ringPc r p).bytes)) ∧
      Kept s t [(.HBM_RING_CTRL, r)] [.hbm]) ∧
  (∀ (s : State) (r : Nat), s.ready = true → r < 16 → (∀ p, p < 16 → (s.ringPc r p).captured = true) →
    Runs (.ringCaptured r) s fun t =>
      t.f F.HBM_RING_CTRL_CAPTURED r = 1 ∧ t.f F.HBM_RING_CTRL_CAPTURE r = 0 ∧ t.f F.HBM_STATUS_CAPTURED 0 = 1 ∧
      (s.f F.HBM_RING_CTRL_FREEZE r = 1 → t.f F.HBM_RING_CTRL_FROZEN r = 1) ∧
      t.pair .HBM_RING_CAP_FILL_LO .HBM_RING_CAP_FILL_HI r =
        ((List.range 16).map fun p => (s.ringPc r p).capBytes).sum % 2 ^ 64 ∧
      t.f F.HBM_RING_CAP_INFO_RECORD r = (s.ringPc r 0).capRecord % 65536 ∧
      (∀ p e v, p < 16 → (s.ringPc r p).capLast = some (e, v) →
        t.word .HBM_RING_PC_END (16 * r + p) = changed (s.word .HBM_RING_PC_END (16 * r + p))
          [(F.HBM_RING_PC_END_END, (e + 63) / 64), (F.HBM_RING_PC_END_VALID, 1)]) ∧
      (∀ p, p < 16 → (s.ringPc r p).capLast = none → t.word .HBM_RING_PC_END (16 * r + p) = 0) ∧
      (∀ p, p < 16 → t.ringPc r p = { s.ringPc r p with captured := false }) ∧
      Kept s t (([(.HBM_RING_CTRL, r), (.HBM_STATUS, 0), (.HBM_RING_CAP_END_LO, r), (.HBM_RING_CAP_END_HI, r),
        (.HBM_RING_CAP_TIME_LO, r), (.HBM_RING_CAP_TIME_HI, r), (.HBM_RING_CAP_FILL_LO, r), (.HBM_RING_CAP_FILL_HI, r),
        (.HBM_RING_CAP_INFO, r)] : Regs) ++ ((List.range 16).map fun p => (.HBM_RING_PC_END, 16 * r + p) : Regs)) [.hbm]) ∧
  (∀ (s : State) (r : Nat), s.ready = true → r < 16 →
    Runs (.rearm r) s fun t =>
      t.word .HBM_RING_CTRL r = changed (s.word .HBM_RING_CTRL r) [(F.HBM_RING_CTRL_CAPTURED, 0), (F.HBM_RING_CTRL_FROZEN, 0)] ∧
      Kept s t [(.HBM_RING_CTRL, r)] [])

-- ------------------------------------------------------------------ the stream store

/-- Drives: a link makes a drive PRESENT, ATTACH starts an attach or is refused, its end makes the drive READY or PRESENT,
DETACH returns it; a failure is flagged with its cause; a timeout is counted, or fails the drive; a drive's memory request
reaches HBM or is refused (R345, R346). Completes: driveLinkUp, attachDrive, attachDone, detach, driveFail, cmdTimeout,
driveMemoryRequest. -/
def Obligations.StoreDrives : Prop :=
  (∀ (s : State) (d : Nat), s.ready = true → d < 8 → Part.hasStore s.part = true → s.driveState d = 0 →
    Runs (.driveLinkUp d) s fun t =>
      (t.drive d).linkUp = true ∧ t.word .STORE_DRV_STATUS d = changed (s.word .STORE_DRV_STATUS d) [(F.STORE_DRV_STATUS_STATE, 1)] ∧
      Kept s t [(.STORE_DRV_STATUS, d)] [.store, .ledger]) ∧
  (∀ (s : State) (who : Who) (d : Nat), s.ready = true → d < 8 → Part.hasStore s.part = true → s.driveState d = 1 →
    s.rootPort d = true →
    Runs (.attachDrive who d) s fun t =>
      t.word .STORE_DRV_STATUS d = changed (s.word .STORE_DRV_STATUS d) [(F.STORE_DRV_STATUS_STATE, 2)] ∧
      t.word .STORE_STATUS 0 = changed (s.word .STORE_STATUS 0) [(F.STORE_STATUS_BUSY, 1)] ∧
      Kept s t [(.STORE_DRV_STATUS, d), (.STORE_STATUS, 0)] [.ledger]) ∧
  (∀ (s : State) (who : Who) (d : Nat), s.ready = true → d < 8 → Part.hasStore s.part = true →
    s.driveState d ≠ 1 ∨ s.rootPort d = false →
    Runs (.attachDrive who d) s fun t => Refused s t F.STORE_STATUS_CMD_REFUSED 0 who .command .STORE_CMD 0 (1 + 256 * d)) ∧
  (∀ (s : State) (d gen width bytes : Nat) (vwc lba : Bool) (media : Option Media), s.ready = true → d < 8 →
    Part.hasStore s.part = true → s.driveState d = 2 →
    Runs (.attachDone d (.ready gen width vwc lba bytes media)) s fun t =>
      t.word .STORE_DRV_STATUS d = changed (s.word .STORE_DRV_STATUS d)
        [(F.STORE_DRV_STATUS_GEN, gen), (F.STORE_DRV_STATUS_WIDTH, width), (F.STORE_DRV_STATUS_VWC, vwc.toNat),
          (F.STORE_DRV_STATUS_LBA4K, lba.toNat), (F.STORE_DRV_STATUS_FAIL_CAUSE, 0), (F.STORE_DRV_STATUS_STATE, 3)] ∧
      (t.drive d).nsBytes = bytes ∧
      (∀ m, media = some m → (t.drive d).header = m.header ∧ (t.drive d).entries = m.entries) ∧
      (media = none → (t.drive d).header = (s.drive d).header ∧ (t.drive d).entries = (s.drive d).entries) ∧
      (∀ k, k < 8 → k ≠ d → t.drive k = s.drive k) ∧ s.BusyUntil t d ∧
      Kept s t [(.STORE_DRV_STATUS, d), (.STORE_STATUS, 0)] [.store, .ledger]) ∧
  (∀ (s : State) (d cause : Nat), s.ready = true → d < 8 → Part.hasStore s.part = true → s.driveState d = 2 →
    Runs (.attachDone d (.failed cause)) s fun t =>
      t.word .STORE_DRV_STATUS d = changed (s.word .STORE_DRV_STATUS d)
        [(F.STORE_DRV_STATUS_FAIL_CAUSE, cause), (F.STORE_DRV_STATUS_STATE, 1)] ∧ s.BusyUntil t d ∧
      Kept s t [(.STORE_DRV_STATUS, d), (.STORE_STATUS, 0)] [.ledger]) ∧
  (∀ (s : State) (who : Who) (d : Nat), s.ready = true → d < 8 → Part.hasStore s.part = true → s.driveState d = 3 →
    s.inMounted d = false →
    Runs (.detach who d) s fun t =>
      t.word .STORE_DRV_STATUS d = changed (s.word .STORE_DRV_STATUS d) [(F.STORE_DRV_STATUS_STATE, 1)] ∧
      Kept s t [(.STORE_DRV_STATUS, d)] [.ledger]) ∧
  (∀ (s : State) (d cause sc sct : Nat), s.ready = true → d < 8 → Part.hasStore s.part = true → s.driveState d = 3 →
    s.inMounted d = false →
    Runs (.driveFail d cause sc sct false) s fun t =>
      t.word .STORE_DRV_STATUS d = changed (s.word .STORE_DRV_STATUS d)
        [(F.STORE_DRV_STATUS_FAIL_CAUSE, cause), (F.STORE_DRV_STATUS_STATE, 4)] ∧
      t.word .STORE_DRV_ERR d = changed (s.word .STORE_DRV_ERR d) [(F.STORE_DRV_ERR_SC, sc), (F.STORE_DRV_ERR_SCT, sct),
        (F.STORE_DRV_ERR_ERRORS, s.counted F.STORE_DRV_ERR_ERRORS d 1)] ∧
      t.word .STORE_STATUS 0 = changed (s.word .STORE_STATUS 0) [(F.STORE_STATUS_DRIVE_FAIL, 1)] ∧
      Kept s t [(.STORE_DRV_STATUS, d), (.STORE_DRV_ERR, d), (.STORE_STATUS, 0)] [.ledger]) ∧
  (∀ (s : State) (d : Nat), s.ready = true → d < 8 → Part.hasStore s.part = true →
    Runs (.cmdTimeout d true) s fun t =>
      t.time = (s.advanceTo (s.timeoutAt d)).time ∧
      t.word .STORE_DRV_ERR d = changed (s.word .STORE_DRV_ERR d)
        [(F.STORE_DRV_ERR_ERRORS, s.counted F.STORE_DRV_ERR_ERRORS d 1)] ∧ Kept s t [(.STORE_DRV_ERR, d)] [.clock]) ∧
  (∀ (s : State) (d : Nat), s.ready = true → d < 8 → Part.hasStore s.part = true → s.driveState d = 3 →
    s.inMounted d = false →
    Runs (.cmdTimeout d false) s fun t =>
      t.time = (s.advanceTo (s.timeoutAt d)).time ∧
      t.driveState d = 4 ∧ t.f F.STORE_DRV_STATUS_FAIL_CAUSE d = 2 ∧ t.f F.STORE_STATUS_DRIVE_FAIL 0 = 1 ∧
      Kept s t [(.STORE_DRV_STATUS, d), (.STORE_DRV_ERR, d), (.STORE_STATUS, 0)] [.clock, .ledger]) ∧
  (∀ (s : State) (d a len : Nat) (write : Bool) (data : List Byte), s.ready = true → d < 8 → Part.hasStore s.part = true →
    hbmSize < a + len + 1 → s.inPlayRing a (len + 1) = false →
    Runs (.driveMemoryRequest d write a len data) s fun t =>
      t.word .STORE_DRV_ERR d = changed (s.word .STORE_DRV_ERR d)
        [(F.STORE_DRV_ERR_ERRORS, s.counted F.STORE_DRV_ERR_ERRORS d 1)] ∧ SentOut s t [.driveUnsupported d a] ∧
      Kept s t [(.STORE_DRV_ERR, d)] [.out]) ∧
  (∀ (s : State) (d a len n tag : Nat) (data : List Byte), s.ready = true → d < 8 → Part.hasStore s.part = true →
    a + len + 1 ≤ hbmSize → s.sendsAt 0x98 n tag (driveAsk d false a len data) = true → decodeAddr s.part a = .ni n →
    Runs (.driveMemoryRequest d false a len data) s fun t =>
      Sent s t { s.postedFrom 0x98 n a data with cmd := .rd, tag := tag, len := len, beFirst := 0, beLast := 0 } ∧
      (t.ni 0x98).outstanding = (s.ni 0x98).outstanding ++ [⟨tag, n, .rd, a, len, .drive d, s.time, 0, none⟩] ∧
      OtherNis s t 0x98 ∧ Kept s t (statRegs 0x98) [.net]) ∧
  (∀ (s : State) (d a n tag : Nat) (data : List Byte), s.ready = true → d < 8 → Part.hasStore s.part = true → data ≠ [] →
    a + data.length ≤ hbmSize ∨ s.inPlayRing a data.length = true →
    s.sendsAt 0x98 n tag (driveAsk d true a (data.length - 1) data) = true → decodeAddr s.part a = .ni n →
    Runs (.driveMemoryRequest d true a (data.length - 1) data) s fun t =>
      Sent s t { s.postedFrom 0x98 n a data with cmd := .wr, tag := tag } ∧
      (t.ni 0x98).outstanding = (s.ni 0x98).outstanding ++ [⟨tag, n, .wr, a, data.length - 1, .drive d, s.time, 0, none⟩] ∧
      OtherNis s t 0x98 ∧ Kept s t (statRegs 0x98) [.net])

/-- The volume: FORMAT and MOUNT run with BUSY and are refused while another runs; a FORMAT writes every header and empties
the catalogue of each drive, a MOUNT resumes from the highest SEQ or shows what its checks found, and UNMOUNT ends it (R347,
R348, R355). Completes: formatStore, mountStore, storeCommandDone, unmount. -/
def Obligations.StoreVolume : Prop :=
  (∀ (s : State) (who : Who), s.ready = true → Part.hasStore s.part = true → s.volumeBarred = false →
    Runs (.formatStore who) s (fun t =>
      t.store = { s.store with command := 3, cause := if s.someNotReady then 1 else 0 } ∧
      t.word .STORE_STATUS 0 = changed (s.word .STORE_STATUS 0) [(F.STORE_STATUS_BUSY, 1)] ∧
      Kept s t [(.STORE_STATUS, 0)] [.store]) ∧
    Runs (.mountStore who) s (fun t =>
      t.store = { s.store with command := 4, cause := s.mountCause } ∧
      t.word .STORE_STATUS 0 = changed (s.word .STORE_STATUS 0) [(F.STORE_STATUS_BUSY, 1)] ∧
      Kept s t [(.STORE_STATUS, 0)] [.store])) ∧
  (∀ (s : State) (who : Who), s.ready = true → Part.hasStore s.part = true →
    s.f F.STORE_STATUS_MOUNTED 0 = 1 ∨ s.store.command ≠ 0 ∨ s.volumeDrives = [] →
    Runs (.formatStore who) s (fun t => Refused s t F.STORE_STATUS_CMD_REFUSED 0 who .command .STORE_CMD 0 3) ∧
    Runs (.mountStore who) s (fun t => Refused s t F.STORE_STATUS_CMD_REFUSED 0 who .command .STORE_CMD 0 4)) ∧
  (∀ (s : State), s.ready = true → s.store.command = 3 → s.store.cause = 0 → s.someNotReady = false →
    Runs .storeCommandDone s fun t =>
      t.f F.STORE_STATUS_CAUSE 0 = 0 ∧ t.store.command = 0 ∧ s.BusyUntil t 8 ∧
      (∀ d, d < 8 → d ∈ s.volumeDrives → t.drive d = { s.drive d with
        header := some ⟨s.volumeDrives.length, d, s.stripesOf s.volumeDrives, s.now⟩, entries := [] }) ∧
      (∀ d, d < 8 → d ∉ s.volumeDrives → t.drive d = s.drive d) ∧
      SentOut s t (s.volumeDrives.map fun d => .driveBlock d 0
        (headerBlock ⟨s.volumeDrives.length, d, s.stripesOf s.volumeDrives, s.now⟩)) ∧
      t.store.channels = s.store.channels ∧ Kept s t [(.STORE_STATUS, 0)] [.store, .out]) ∧
  (∀ (s : State), s.ready = true → s.store.command = 3 → s.store.cause ≠ 0 ∨ s.someNotReady = true →
    Runs .storeCommandDone s fun t =>
      t.f F.STORE_STATUS_CAUSE 0 = 1 ∧ t.store = { s.store with command := 0, cause := 0 } ∧ s.BusyUntil t 8 ∧
      Kept s t [(.STORE_STATUS, 0)] [.store]) ∧
  (∀ (s : State), s.ready = true → s.store.command = 4 → s.store.cause = 0 →
    (s.catalogueDrives.any fun d => s.driveState d == 3) = true →
    Runs .storeCommandDone s fun t =>
      t.f F.STORE_STATUS_CAUSE 0 = 0 ∧ t.f F.STORE_STATUS_MOUNTED 0 = 1 ∧
      t.f F.STORE_CAT_SEQ_VALUE 0 = s.catalogue.foldl (fun acc e => max acc e.seq) 0 % 2 ^ 32 ∧
      t.f F.STORE_STRIPES_VALUE 0 = ((s.volumeDrives.head?.bind fun d => (s.drive d).header).map (·.stripes)).getD 0 % 2 ^ 32 ∧
      (s.someNotReady = true → t.f F.STORE_STATUS_CAT_DEGRADED 0 = 1) ∧
      t.store = { s.store with command := 0, cause := 0 } ∧
      Kept s t [(.STORE_STATUS, 0), (.STORE_CAT_SEQ, 0), (.STORE_STRIPES, 0)] [.store]) ∧
  (∀ (s : State), s.ready = true → s.store.command = 4 → 1 ≤ s.store.cause → s.store.cause ≤ 5 →
    Runs .storeCommandDone s fun t =>
      t.f F.STORE_STATUS_CAUSE 0 = s.store.cause ∧ t.f F.STORE_STATUS_MOUNTED 0 = s.f F.STORE_STATUS_MOUNTED 0 ∧
      t.store = { s.store with command := 0, cause := 0 } ∧ s.BusyUntil t 8 ∧ Kept s t [(.STORE_STATUS, 0)] [.store]) ∧
  (∀ (s : State), s.ready = true → s.store.command = 4 → s.store.cause = 0 →
    (s.catalogueDrives.any fun d => s.driveState d == 3) = false →
    Runs .storeCommandDone s fun t =>
      t.f F.STORE_STATUS_CAUSE 0 = 6 ∧ t.f F.STORE_STATUS_MOUNTED 0 = s.f F.STORE_STATUS_MOUNTED 0 ∧
      t.store = { s.store with command := 0, cause := 0 } ∧ s.BusyUntil t 8 ∧ Kept s t [(.STORE_STATUS, 0)] [.store]) ∧
  (∀ (s : State) (who : Who), s.ready = true → Part.hasStore s.part = true → s.f F.STORE_STATUS_MOUNTED 0 = 1 →
    (∀ c, c < 8 → s.funcState (.channel c) = 0) →
    Runs (.unmount who) s fun t =>
      t.word .STORE_STATUS 0 = changed (s.word .STORE_STATUS 0) [(F.STORE_STATUS_MOUNTED, 0)] ∧ t.word .STORE_STRIPES 0 = 0 ∧
      Kept s t [(.STORE_STATUS, 0), (.STORE_STRIPES, 0)] [])

/-- Channels: CH_PROD publishes the bytes up to its offset, and a full stripe is issued when the partition has room, FULL
being set when it has none; CH_CONS frees playback space; a stripe that completes moves CONS or PROD on; a commit writes the
record's entry to the catalogue drives and begins the next record (R349, R350, R351, R352, R353). Completes: chProd, chCons,
stripeComplete, catalogueCommit. -/
def Obligations.StoreChannels : Prop :=
  (∀ (s : State) (c : Nat) (off : Word), s.ready = true → c < 8 → Part.hasStore s.part = true → s.chanPlays c = false →
    s.funcState (.channel c) = 1 → (s.chan c).cuts = [] → s.chanAt c off < (s.chan c).issued + stripeBytes →
    Runs (.chProd c off none) s fun t =>
      t.f F.STORE_CH_PROD_OFFSET c = off.toNat ∧ OneChannel s t c { s.chan c with prod := s.chanAt c off } ∧
      Kept s t [(.STORE_CH_PROD, c)] [.store]) ∧
  (∀ (s : State) (c : Nat) (off : Word), s.ready = true → c < 8 → Part.hasStore s.part = true → s.chanPlays c = false →
    s.funcState (.channel c) = 1 → (s.chan c).cuts = [] → s.chanRoom c = true →
    (s.chan c).issued + stripeBytes ≤ s.chanAt c off → s.chanAt c off < (s.chan c).issued + 2 * stripeBytes →
    Runs (.chProd c off none) s fun t =>
      t.f F.STORE_CH_PROD_OFFSET c = off.toNat ∧
      OneChannel s t c { s.chan c with
        prod := s.chanAt c off, issued := (s.chan c).issued + stripeBytes, next := (s.chan c).next + 1
        recStripes := (s.chan c).recStripes + 1
        overwrote := (s.chan c).overwrote || decide (s.f F.STORE_CH_PART_STRIPES_STRIPES c ≤ (s.chan c).next) } ∧
      Kept s t [(.STORE_CH_PROD, c)] [.store]) ∧
  (∀ (s : State) (c : Nat) (off : Word), s.ready = true → c < 8 → Part.hasStore s.part = true → s.chanPlays c = false →
    s.funcState (.channel c) = 1 → (s.chan c).cuts = [] → s.chanRoom c = false →
    (s.chan c).issued + stripeBytes ≤ s.chanAt c off →
    Runs (.chProd c off none) s fun t =>
      t.f F.STORE_CH_PROD_OFFSET c = off.toNat ∧ OneChannel s t c { s.chan c with prod := s.chanAt c off } ∧
      t.word .STORE_CH_STATUS c = changed (s.word .STORE_CH_STATUS c) [(F.STORE_CH_STATUS_FULL, 1)] ∧
      Kept s t [(.STORE_CH_PROD, c), (.STORE_CH_STATUS, c)] [.store]) ∧
  (∀ (s : State) (c : Nat) (off : Word), s.ready = true → c < 8 → Part.hasStore s.part = true → s.chanPlays c = true →
    s.funcState (.channel c) = 1 →
    Runs (.chCons c off) s fun t =>
      t.f F.STORE_CH_CONS_OFFSET c = off.toNat ∧
      OneChannel s t c { s.chan c with
        cons := min (s.chan c).prod ((s.chan c).cons +
          (off.toNat % s.chanRing c + s.chanRing c - (s.chan c).cons % s.chanRing c) % s.chanRing c)
        issued := (t.chan c).issued } ∧
      (s.chan c).issued ≤ (t.chan c).issued ∧
      (∀ e, (s.chan c).play = some e →
        (t.chan c).issued ≤ max (s.chan c).issued (min e.bytes ((t.chan c).cons + s.chanRing c)) ∧
        min e.bytes ((t.chan c).cons + s.chanRing c) < (t.chan c).issued + stripeBytes) ∧
      Kept s t [(.STORE_CH_CONS, c)] [.store]) ∧
  (∀ (s : State) (c : Nat), s.ready = true → c < 8 → Part.hasStore s.part = true → s.chanPlays c = false →
    (s.chan c).cons + stripeBytes ≤ (s.chan c).issued → s.driveState (s.stripeDrive c ((s.chanPending c).headD 0)) ≠ 4 →
    s.pair .STORE_CH_MIRROR_LO .STORE_CH_MIRROR_HI c % 2 ^ 48 = 0 →
    Runs (.stripeComplete c) s fun t =>
      OneChannel s t c { s.chan c with cons := (s.chan c).cons + stripeBytes } ∧
      t.f F.STORE_CH_CONS_OFFSET c = ((s.chan c).cons + stripeBytes) % s.chanRing c % 2 ^ 32 ∧
      t.pair .STORE_CH_REC_BYTES_LO .STORE_CH_REC_BYTES_HI c =
        (s.pair .STORE_CH_REC_BYTES_LO .STORE_CH_REC_BYTES_HI c + stripeBytes) % 2 ^ 64 ∧
      Kept s t [(.STORE_CH_CONS, c), (.STORE_CH_REC_BYTES_LO, c), (.STORE_CH_REC_BYTES_HI, c)] [.store]) ∧
  (∀ (s : State) (c : Nat), s.ready = true → c < 8 → Part.hasStore s.part = true → s.chanPlays c = false →
    (s.chan c).cons + stripeBytes ≤ (s.chan c).issued → s.driveState (s.stripeDrive c ((s.chanPending c).headD 0)) = 4 →
    s.pair .STORE_CH_MIRROR_LO .STORE_CH_MIRROR_HI c % 2 ^ 48 = 0 →
    Runs (.stripeComplete c) s fun t =>
      OneChannel s t c { s.chan c with cons := (s.chan c).cons + stripeBytes, holes := true } ∧
      t.f F.STORE_CH_CONS_OFFSET c = ((s.chan c).cons + stripeBytes) % s.chanRing c % 2 ^ 32 ∧
      t.f F.STORE_CH_LOST_BYTES c = s.counted F.STORE_CH_LOST_BYTES c stripeBytes ∧
      t.word .STORE_CH_STATUS c = changed (s.word .STORE_CH_STATUS c) [(F.STORE_CH_STATUS_LOST, 1), (F.STORE_CH_STATUS_HOLES, 1)] ∧
      Kept s t [(.STORE_CH_CONS, c), (.STORE_CH_LOST, c), (.STORE_CH_STATUS, c)] [.store]) ∧
  (∀ (s : State) (c : Nat) (e : CatEntry), s.ready = true → c < 8 → Part.hasStore s.part = true → s.chanPlays c = true →
    (s.chan c).play = some e → (s.chan c).prod < (s.chan c).issued → (s.chan c).issued ≤ (s.chan c).prod + stripeBytes →
    (s.chan c).issued < e.bytes → s.driveState (s.stripeDrive c ((s.chanPending c).headD 0)) ≠ 4 →
    s.writesOut (s.stripeDrive c ((s.chanPending c).headD 0)) = false →
    s.pair .STORE_CH_MIRROR_LO .STORE_CH_MIRROR_HI c % 2 ^ 48 = 0 →
    Runs (.stripeComplete c) s fun t =>
      (t.chan c).prod = (s.chan c).issued ∧ t.f F.STORE_CH_PROD_OFFSET c = (s.chan c).issued % s.chanRing c % 2 ^ 32 ∧
      OneChannel s t c { s.chan c with prod := (s.chan c).issued, issued := (t.chan c).issued, zeroed := none } ∧
      (s.chan c).issued ≤ (t.chan c).issued ∧ Kept s t [(.STORE_CH_PROD, c)] [.store]) ∧
  (∀ (s : State) (c : Nat) (e : CatEntry), s.ready = true → c < 8 → Part.hasStore s.part = true → s.chanPlays c = true →
    (s.chan c).play = some e → (s.chan c).prod < (s.chan c).issued → (s.chan c).issued ≤ (s.chan c).prod + stripeBytes →
    e.bytes ≤ (s.chan c).issued → s.driveState (s.stripeDrive c ((s.chanPending c).headD 0)) ≠ 4 →
    s.writesOut (s.stripeDrive c ((s.chanPending c).headD 0)) = false →
    s.pair .STORE_CH_MIRROR_LO .STORE_CH_MIRROR_HI c % 2 ^ 48 = 0 →
    Runs (.stripeComplete c) s fun t =>
      t.funcState (.channel c) = 0 ∧ t.f F.STORE_CH_CTRL_RUN c = 0 ∧
      t.f F.STORE_CH_PROD_OFFSET c = (s.chan c).issued % s.chanRing c % 2 ^ 32 ∧
      OneChannel s t c { s.chan c with prod := (s.chan c).issued, zeroed := none } ∧
      Kept s t [(.STORE_CH_PROD, c), (.STORE_CH_CTRL, c), (.STORE_CH_STATUS, c)] [.store]) ∧
  (∀ (s : State) (c p : Nat) (m : RecordCut), s.ready = true → c < 8 → Part.hasStore s.part = true → s.chanPlays c = false →
    (s.chan c).cuts = [m] → m.cut = some p → m.late = false → (s.chan c).cons = p → (s.chan c).issued = p →
    (s.chan c).prod = p → (s.chan c).short = 0 → s.f F.RECORD_STATUS_PHASE 0 = 4 →
    (s.catalogueDrives.any fun d => s.driveState d == 3) = true →
    s.pair .STORE_CH_MIRROR_LO .STORE_CH_MIRROR_HI c % 2 ^ 48 = 0 →
    Runs (.catalogueCommit c) s fun t =>
      (∀ d, d < 8 → d ∈ s.catalogueDrives → s.driveState d = 3 →
        (t.drive d).entries =
          ((s.drive d).entries.filter fun x => x.seq % 65536 != (s.f F.STORE_CAT_SEQ_VALUE 0 + 1) % 2 ^ 32 % 65536) ++
            [s.catEntry c m.number m.startAt m.closeAt p false]) ∧
      (∀ d, d < 8 → d ∉ s.catalogueDrives ∨ s.driveState d ≠ 3 → (t.drive d).entries = (s.drive d).entries) ∧
      SentOut s t ((s.catalogueDrives.filter fun d => s.driveState d == 3).map fun d =>
        .driveBlock d (stripeBytes + 4096 * ((s.f F.STORE_CAT_SEQ_VALUE 0 + 1) % 2 ^ 32 % 65536))
          (entryBlock (s.catEntry c m.number m.startAt m.closeAt p false))) ∧
      t.f F.STORE_CAT_SEQ_VALUE 0 = (s.f F.STORE_CAT_SEQ_VALUE 0 + 1) % 2 ^ 32 ∧
      t.chan c = { s.chan c with
        cuts := [], recBase := p, recFirst := (s.chan c).next, recStripes := 0, holes := false, truncated := false
        overwrote := false } ∧
      (∀ k, k < 8 → k ≠ c → t.chan k = s.chan k) ∧
      Kept s t [(.STORE_CAT_SEQ, 0), (.STORE_CH_CONS, c)] [.store, .out])

-- ------------------------------------------------------------------ the host interface

/-- The host link: it comes up and latches the identity, goes down, FLR and D3hot stop host DMA, a configuration request is
completed, DMA_CTRL.EN reopens the fences of its NIs, and a BAR request becomes carry-network requests or Unsupported Request
(R357, R358, R359, R361, R371). Completes: hostLinkUp, linkDown, flr, d3hot, configurationRequest, dmaEnable, barRequest. -/
def Obligations.HostLink : Prop :=
  (∀ (s : State) (speed width : Nat), s.ready = true → s.dmaIdleAll = true → s.f F.HOST_LINK_STATUS_DL_UP 0 = 0 →
    0 < speed → 0 < width →
    Runs (.hostLinkUp speed width) s fun t =>
      t.f F.HOST_LINK_STATUS_DL_UP 0 = 1 ∧ t.f F.HOST_LINK_STATUS_ID_LATCHED 0 = 1 ∧
      t.f F.HOST_LINK_STATUS_SPEED 0 = min speed (min 5 s.cfg.header.maxSpeed) % 8 ∧
      t.f F.HOST_LINK_STATUS_WIDTH 0 = min width (min (Part.hostWidth s.part) s.cfg.header.maxWidth) % 32 ∧
      (s.f F.HOST_LINK_STATUS_ID_LATCHED 0 = 1 → t.host = s.host) ∧
      (s.f F.HOST_LINK_STATUS_ID_LATCHED 0 = 0 → t.host.identity = some ⟨s.cfg.header.vendor, s.cfg.header.device,
        s.cfg.header.subsysVendor, s.cfg.header.subsys, s.cfg.header.cls, s.cfg.header.revision, s.cfg.header.fabBar⟩) ∧
      Kept s t [(.HOST_LINK_STATUS, 0)] [.host, .power]) ∧
  (∀ s : State, s.ready = true → s.dmaIdleAll = true → s.hostUp = true → s.host.windowReads = [] →
    Runs .linkDown s fun t =>
      t.word .HOST_LINK_STATUS 0 = changed (s.word .HOST_LINK_STATUS 0)
        [(F.HOST_LINK_STATUS_DL_UP, 0), (F.HOST_LINK_STATUS_SPEED, 0), (F.HOST_LINK_STATUS_WIDTH, 0)] ∧
      t.f F.HOST_LINK_CNT_DOWNS 0 = (s.f F.HOST_LINK_CNT_DOWNS 0 + 1) % 2 ^ 16 ∧ t.f F.HOST_STATUS_LINK_DOWN 0 = 1 ∧
      t.f F.HOST_DMA_CTRL_EN 0 = 0 ∧ t.host.reads = [] ∧
      Kept s t (([(.HOST_LINK_STATUS, 0), (.HOST_LINK_CNT, 0), (.HOST_STATUS, 0), (.HOST_DMA_CTRL, 0)] : Regs) ++
        allOf [.HOST_CH_CTRL] 32) [.host]) ∧
  (∀ (s : State), s.ready = true → s.dmaIdleAll = true → s.hostUp = true → s.host.windowReads = [] →
    Runs (.flr 0) s fun t =>
      t.f F.HOST_STATUS_FLR_SEEN 0 = 1 ∧ t.f F.HOST_LINK_STATUS_BME 0 = 0 ∧ t.f F.HOST_LINK_STATUS_D3HOT 0 = 0 ∧
      t.f F.HOST_DMA_CTRL_EN 0 = 0 ∧ t.msix.enable = false ∧ t.msix.table = [] ∧ t.host.reads = [] ∧
      t.hostUp = true ∧ t.host.identity = s.host.identity ∧
      Kept s t (([(.HOST_LINK_STATUS, 0), (.HOST_STATUS, 0), (.HOST_DMA_CTRL, 0)] : Regs) ++ allOf [.HOST_CH_CTRL] 32)
        [.host, .msix]) ∧
  (∀ s : State, s.ready = true → s.hostUp = true →
    Runs (.flr 1) s fun t =>
      t.word .HOST_STATUS 0 = changed (s.word .HOST_STATUS 0) [(F.HOST_STATUS_FLR_SEEN, 1)] ∧
      Kept s t [(.HOST_STATUS, 0)] []) ∧
  (∀ s : State, s.ready = true → s.dmaIdleAll = true → s.hostUp = true →
    Runs .d3hot s fun t =>
      t.word .HOST_LINK_STATUS 0 = changed (s.word .HOST_LINK_STATUS 0) [(F.HOST_LINK_STATUS_D3HOT, 1)] ∧
      Kept s t [(.HOST_LINK_STATUS, 0)] []) ∧
  (∀ (s : State) (tag : Nat) (on : Bool), s.ready = true → s.dmaIdleAll = true → s.hostUp = true →
    Runs (.configurationRequest tag (.busMaster on)) s fun t =>
      t.word .HOST_LINK_STATUS 0 = changed (s.word .HOST_LINK_STATUS 0) [(F.HOST_LINK_STATUS_BME, on.toNat)] ∧
      SentOut s t [.completion tag 0 []] ∧ Kept s t [(.HOST_LINK_STATUS, 0)] [.out]) ∧
  (∀ (s : State) (tag : Nat) (d : Identity), s.ready = true → s.hostUp = true → s.host.identity = some d →
    Runs (.configurationRequest tag (.read 0 0)) s fun t =>
      SentOut s t [.completion tag 0 (toBytes 4 (d.vendor.toNat + 65536 * d.device.toNat))] ∧ Kept s t [] [.out]) ∧
  (∀ (s : State) (who : Who), s.ready = true → s.dmaIdleAll = true →
    Runs (.dmaEnable who) s fun t =>
      t.f F.HOST_DMA_CTRL_EN 0 = 1 ∧ (2 ≤ s.fence 0x90 → t.fence 0x90 = 0) ∧ (2 ≤ s.fence 0x91 → t.fence 0x91 = 0) ∧
      Kept s t (([(.HOST_DMA_CTRL, 0)] : Regs) ++ fenceRegs [0x90, 0x91]) [.net, .ledger]) ∧
  (∀ (s : State) (r : BarRequest) (n tag : Nat), s.ready = true → s.dmaIdleAll = true → s.hostUp = true → s.barOpen .hbm = true →
    r.window = .hbm → r.kind = .read → Part.hasHbm s.part = true → r.offset + r.len < hbmSize →
    r.offset % 4096 + r.len < 4096 → s.host.writes = 0 →
    s.sendsAt 0x90 n tag (barPiece .hbm (barCode false r.tag) .rd r.offset (r.len + 1) [] 0 []) = true →
    decodeAddr s.part r.offset = .ni n →
    Runs (.barRequest r) s fun t =>
      Sent s t { s.postedFrom 0x90 n r.offset [] with cmd := .rd, tag := tag, len := r.len, beFirst := 0, beLast := 0 } ∧
      (t.ni 0x90).outstanding =
        (s.ni 0x90).outstanding ++ [⟨tag, n, .rd, r.offset, r.len, .host (barCode false r.tag), s.time, 0, none⟩] ∧
      OtherNis s t 0x90 ∧ t.host.pieces = [] ∧
      t.host.barReads = s.host.barReads ++ [⟨barCode false r.tag, .hbm, ⟨[(r.offset, r.len + 1)], [], false⟩⟩] ∧
      Kept s t (statRegs 0x90) [.net, .host]) ∧
  (∀ (s : State) (r : BarRequest), s.ready = true → s.hostUp = true → r.kind = .unsupported →
    Runs (.barRequest r) s fun t => SentOut s t [.completion r.tag 1 []] ∧ Kept s t [] [.out])

/-- Host DMA: CH_TAIL posts descriptors and their fetch goes out, or is refused; fetched descriptors are executed; a finished
one is written back, HEAD moves and its bytes count; a bad one ends with DESC_ERR and stops the channel; a deferred message
goes when the holdoff ends; completions and timeouts answer the reads that wait (R364, R365, R366, R367, R368, R370).
Completes: chTail, descriptorFetch, descriptorComplete, holdoff, hostCompletion, completionTimeout. -/
def Obligations.HostDma : Prop :=
  (∀ (s : State) (who : Who) (c tag : Nat) (data : Word), s.ready = true → s.dmaAlone c = true → s.funcState (.dma c) = 1 →
    data.toNat % 65536 < s.dmaRingSize c → s.f F.HOST_CH_HEAD_INDEX c < data.toNat % 65536 → s.hostTag = some tag →
    Runs (.chTail who c data) s fun t =>
      t.f F.HOST_CH_TAIL_INDEX c = data.toNat % 65536 ∧
      (t.dma c).fetching = some (s.f F.HOST_CH_HEAD_INDEX c, min 8 (data.toNat % 65536 - s.f F.HOST_CH_HEAD_INDEX c)) ∧
      SentOut s t [.hostRead tag (s.dmaRingBase c + 32 * s.f F.HOST_CH_HEAD_INDEX c)
        (32 * min 8 (data.toNat % 65536 - s.f F.HOST_CH_HEAD_INDEX c)) false] ∧
      Kept s t [(.HOST_CH_TAIL, c)] [.host, .out]) ∧
  (∀ (s : State) (who : Who) (c : Nat) (data : Word), s.ready = true → c < 32 → s.dmaRingSize c ≤ data.toNat % 65536 →
    Runs (.chTail who c data) s fun t =>
      t.f F.HOST_CH_STATUS_CFG_REFUSED c = 1 ∧ t.f F.HOST_STATUS_CMD_REFUSED 0 = 1 ∧
      Entered s t who.origin 2 (256 * 5 + who.ni.toNat)
        ⟨csrOffset .HOST_CH_TAIL c, (s.word .HOST_CH_TAIL c).toNat, data.toNat, 0⟩ ∧
      Kept s t [(.HOST_CH_STATUS, c), (.HOST_STATUS, 0)] [.ledger]) ∧
  (∀ (s : State) (c i a tag : Nat) (b : BitVec 256), s.dmaAlone c = true → 16 ≤ c → s.funcState (.dma c) = 1 →
    s.host.reads = [⟨tag, .fetch c, a, 32⟩] → (s.dma c).descs = [] → (s.dma c).fetching = some (i, 1) →
    s.f F.HOST_CH_HEAD_INDEX c = i → i + 1 < s.dmaRingSize c → s.f F.HOST_CH_TAIL_INDEX c = i + 1 →
    descFits s.part c (parseDesc i (s.dma c).serial b) = true →
    (parseDesc i (s.dma c).serial b).host % min 4096 s.host.maxRead + (parseDesc i (s.dma c).serial b).length ≤
      min 4096 s.host.maxRead →
    Runs (.descriptorFetch c [b]) s fun t =>
      (t.dma c).descs = [{ parseDesc i (s.dma c).serial b with
        issued := (parseDesc i (s.dma c).serial b).length, waiting := 1 }] ∧
      (t.dma c).fetching = none ∧
      t.host.reads = [⟨0, .dma c (s.dma c).serial (parseDesc i (s.dma c).serial b).card,
        (parseDesc i (s.dma c).serial b).host, (parseDesc i (s.dma c).serial b).length⟩] ∧
      Kept s t [] [.host, .out]) ∧
  (∀ (s : State) (c : Nat) (d : Desc), s.dmaAlone c = true → (s.dma c).descs = [d] → (s.dma c).fetching = none →
    s.funcState (.dma c) = 1 → descFits s.part c d = true → descDone c d = true → d.irq = false → d.halt = false →
    s.f F.HOST_CH_TAIL_INDEX c = (d.index + 1) % s.dmaRingSize c → s.f F.HOST_CH_CTRL_HALT_ON_ERR c = 0 →
    s.dmaRingBase c + 32 * d.index + 32 ≤ 2 ^ 64 →
    pieceLen (s.dmaRingBase c + 32 * d.index + 24) 8 s.host.maxPayload = 8 →
    Runs (.descriptorComplete c) s fun t =>
      (t.dma c).descs = [] ∧ t.f F.HOST_CH_HEAD_INDEX c = (d.index + 1) % s.dmaRingSize c % 2 ^ 16 ∧
      SentOut s t [.hostWrite (s.dmaRingBase c + 32 * d.index + 24)
        (toBytes 4 (1 + 2 * ((d.failure.map (·.1)).getD 0) + 256 * ((d.failure.map (·.2)).getD 0)) ++ toBytes 4 d.moved) false] ∧
      t.pair .HOST_CH_BYTES_LO .HOST_CH_BYTES_HI c = (s.pair .HOST_CH_BYTES_LO .HOST_CH_BYTES_HI c + d.moved) % 2 ^ 64 ∧
      (d.failure.any (fun x => x.1 == 2 || x.1 == 3) = true →
        t.f F.HOST_CH_ERR_FAILED c = s.counted F.HOST_CH_ERR_FAILED c 1 ∧ t.f F.HOST_CH_STATUS_XFER_ERR c = 1) ∧
      (d.failure = none → t.word .HOST_CH_ERR c = s.word .HOST_CH_ERR c ∧ t.word .HOST_CH_STATUS c = s.word .HOST_CH_STATUS c) ∧
      (d.failure.all (fun x => x.1 == 2 || x.1 == 3) = true →
        Kept s t [(.HOST_CH_HEAD, c), (.HOST_CH_BYTES_LO, c), (.HOST_CH_BYTES_HI, c), (.HOST_CH_ERR, c), (.HOST_CH_STATUS, c)]
          [.host, .out])) ∧
  (∀ (s : State) (c : Nat) (t0 : DWord), s.dmaAlone c = true → s.dmaEmpty c = true → (s.dma c).messageDue = true →
    (s.dma c).lastMessage = some t0 →
    Runs (.holdoff c) s fun t =>
      (t.dma c).messageDue = false ∧ (t.dma c).lastMessage = some t.time ∧
      (s.time.toNat < (t0 + BitVec.ofNat 64 (s.f F.HOST_CH_IRQ_HOLDOFF c * 1500)).toNat →
        t.time = t0 + BitVec.ofNat 64 (s.f F.HOST_CH_IRQ_HOLDOFF c * 1500)) ∧
      Kept s t [] [.clock, .host]) ∧
  (∀ (s : State) (c i a tag : Nat) (b : BitVec 256), s.dmaAlone c = true → s.funcState (.dma c) = 1 →
    s.host.reads = [⟨tag, .fetch c, a, 32⟩] → (s.dma c).descs = [] → (s.dma c).fetching = some (i, 1) →
    s.f F.HOST_CH_HEAD_INDEX c = i → i + 1 < s.dmaRingSize c → s.f F.HOST_CH_TAIL_INDEX c = i + 1 →
    descFits s.part c (parseDesc i (s.dma c).serial b) = false → (parseDesc i (s.dma c).serial b).irq = false →
    s.dmaRingBase c + 32 * i + 32 ≤ 2 ^ 64 → pieceLen (s.dmaRingBase c + 32 * i + 24) 8 s.host.maxPayload = 8 →
    Runs (.descriptorFetch c [b]) s fun t =>
      SentOut s t [.hostWrite (s.dmaRingBase c + 32 * i + 24) (toBytes 4 9 ++ toBytes 4 0) false] ∧
      t.word .HOST_CH_HEAD c = changed (s.word .HOST_CH_HEAD c) [(F.HOST_CH_HEAD_INDEX, i + 1)] ∧
      t.f F.HOST_CH_STATUS_DESC_FAULT c = 1 ∧ t.f F.HOST_CH_CTRL_RUN c = 0 ∧ t.funcState (.dma c) = 0 ∧
      (t.dma c).descs = [] ∧ t.host.reads = [] ∧
      Kept s t [(.HOST_CH_HEAD, c), (.HOST_CH_STATUS, c), (.HOST_CH_CTRL, c)] [.host, .out]) ∧
  (∀ (s : State) (tag a : Nat) (d : Delivered) (bytes : List Byte), s.ready = true →
    s.host.reads = [⟨tag, .window d.packet, a, bytes.length⟩] → s.host.readsWaiting = [] →
    s.host.windowReads = [(d.packet, ⟨[(a, bytes.length)], [], false⟩)] → (s.ni d.packet.dest).delivered = [d] →
    entryValid (s.activeEntry d.packet.dest d.packet.src) = true → s.sendsNow d.packet.dest 1 = true →
    Runs (.hostCompletion tag (.data bytes)) s fun t =>
      Sent s t (s.answerTo d.packet .rspData 0 0 bytes) ∧ (t.ni d.packet.dest).delivered = [] ∧ OtherNis s t d.packet.dest ∧
      t.host.reads = [] ∧ t.host.windowReads = [] ∧ Kept s t (statRegs d.packet.dest) [.net, .host]) ∧
  (∀ (s : State) (tag a len : Nat) (d : Delivered), s.ready = true → s.host.reads = [⟨tag, .window d.packet, a, len⟩] →
    s.host.readsWaiting = [] → s.host.windowReads = [(d.packet, ⟨[(a, len)], [], false⟩)] → d.packet.cmd = .rd →
    (s.ni d.packet.dest).delivered = [d] → entryValid (s.activeEntry d.packet.dest d.packet.src) = true →
    s.sendsNow d.packet.dest 1 = true →
    Runs (.completionTimeout tag) s fun t =>
      Sent s t (s.answerTo d.packet .rspErr 7 0xE002 []) ∧ (t.ni d.packet.dest).delivered = [] ∧ OtherNis s t d.packet.dest ∧
      t.f F.HOST_STATUS_AER_UNCORR 0 = 1 ∧ t.f F.HOST_STATUS_WIN_ERR 0 = 1 ∧
      t.f F.HOST_WIN_ERR_ANSWERED 0 = s.counted F.HOST_WIN_ERR_ANSWERED 0 1 ∧ t.host.reads = [] ∧ t.host.windowReads = [] ∧
      Kept s t (([(.HOST_STATUS, 0), (.HOST_WIN_ERR, 0)] : Regs) ++ statRegs d.packet.dest) [.net, .host])

-- ------------------------------------------------------------------ the sequencer, watchdogs and the power guard

/-- A core's accesses: loads, stores, LR, SC and AMO in the TCMs and the SRAM; an aperture or far-window access becomes a
request of its NI, a misaligned one traps; a posted store does not stall; a FENCE waits for a WR to each NI posted to (R373,
R374, R375). Completes: coreLocalAccess, apertureAccess, farWindowAccess, coreFence. -/
def Obligations.CoreAccesses : Prop :=
  (∀ (s : State) (n b rd : Nat) (a : Word) (signed : Bool), s.ready = true → s.coreRuns n = true → s.coreStalled n = false →
    allowed (regionOf a.toNat) .load = true → regionOf a.toNat ≠ .aperture → regionOf a.toNat ≠ .far →
    b = 1 ∨ b = 2 ∨ b = 4 → a.toNat % b = 0 → 0 < rd → rd < 32 →
    Runs (.coreLocalAccess n a (.load b signed rd) .clean) s fun t =>
      t.coreX n rd = extend (bytesOf (s.localWord n a.toNat) (a.toNat % 4) b) b signed ∧
      (∀ m r, r < 32 → m ≠ n ∨ r ≠ rd → t.coreX m r = s.coreX m r) ∧
      t.seq.sram = s.seq.sram ∧ t.seq.tcm = s.seq.tcm ∧ Kept s t [] [.seq]) ∧
  (∀ (s : State) (n b : Nat) (a data : Word) (x : EccFinding), s.ready = true → s.coreRuns n = true → s.coreStalled n = false →
    regionOf a.toNat = .itcm ∨ regionOf a.toNat = .dtcm ∨ regionOf a.toNat = .sram →
    b = 1 ∨ b = 2 ∨ b = 4 → a.toNat % b = 0 → x = .clean →
    Runs (.coreLocalAccess n a (.store b data) x) s fun t =>
      t.localWord n a.toNat = withField (s.localWord n a.toNat) (8 * (a.toNat % 4)) (8 * b) data.toNat ∧
      (∀ a', a' / 4 ≠ a.toNat / 4 → t.localWord n a' = s.localWord n a') ∧
      (∀ m r, t.coreX m r = s.coreX m r) ∧ Kept s t [] [.seq]) ∧
  (∀ (s : State) (n rd : Nat) (a data : Word), s.ready = true → s.coreRuns n = true → s.coreStalled n = false →
    regionOf a.toNat = .sram → a.toNat % 4 = 0 → 0 < rd → rd < 32 →
    Runs (.coreLocalAccess n a (.lr rd) .clean) s (fun t =>
      t.coreX n rd = s.localWord n a.toNat ∧ (t.core n).reserve = some (a.toNat / 64) ∧ Kept s t [] [.seq]) ∧
    Runs (.coreLocalAccess n a (.sc rd data) .clean) s (fun t =>
      (t.core n).reserve = none ∧
      t.coreX n rd = (if (s.core n).reserve = some (a.toNat / 64) then 0 else 1) ∧
      t.localWord n a.toNat = (if (s.core n).reserve = some (a.toNat / 64) then data else s.localWord n a.toNat) ∧
      Kept s t [] [.seq]) ∧
    Runs (.coreLocalAccess n a (.amo .add rd data) .clean) s (fun t =>
      t.coreX n rd = s.localWord n a.toNat ∧ t.localWord n a.toNat = s.localWord n a.toNat + data ∧ Kept s t [] [.seq])) ∧
  (∀ (s : State) (n : Nat) (a : Word), s.ready = true → s.coreRuns n = true → s.coreStalled n = false →
    regionOf a.toNat = .itcm ∨ regionOf a.toNat = .rom ∨ regionOf a.toNat = .sram → a.toNat % 2 = 0 →
    s.coreInterrupted n = false →
    Runs (.coreLocalAccess n a .fetch .clean) s fun t =>
      (t.core n).pc = a ∧ (∀ m r, r < 32 → t.coreX m r = s.coreX m r) ∧ t.seq.sram = s.seq.sram ∧ t.seq.tcm = s.seq.tcm ∧
      Kept s t [] [.seq]) ∧
  (∀ (s : State) (n b rd k : Nat) (a : Word) (signed : Bool), s.ready = true → s.coreRuns n = true → s.coreStalled n = false →
    regionOf a.toNat = .itcm ∨ regionOf a.toNat = .dtcm ∨ regionOf a.toNat = .sram →
    b = 1 ∨ b = 2 ∨ b = 4 → a.toNat % b = 0 →
    Runs (.coreLocalAccess n a (.load b signed rd) (.uncorrectable k)) s fun t =>
      t.coreCsr n 0x341 = (s.core n).pc ∧ t.coreCsr n 0x342 = 5 ∧ t.coreCsr n 0x343 = a ∧
      (t.core n).pc = s.coreCsr n 0x305 &&& 0xFFFFFFFC ∧ (t.core n).reserve = none ∧
      t.word .SEQ_MEM_ECC 0 = changed (s.word .SEQ_MEM_ECC 0) [(F.SEQ_MEM_ECC_UNCORR, s.counted F.SEQ_MEM_ECC_UNCORR 0 1)] ∧
      t.f F.SEQ_FAULT_ERR n = 0xFF ∧ t.f F.SEQ_FAULT_VALID n = 1 ∧ t.pair .SEQ_FAULT_ADDR_LO .SEQ_FAULT_ADDR_HI n = a.toNat ∧
      (∀ m r, r < 32 → t.coreX m r = s.coreX m r) ∧ t.seq.sram = s.seq.sram ∧ t.seq.tcm = s.seq.tcm ∧
      Kept s t [(.SEQ_MEM_ECC, 0), (.SEQ_FAULT, n), (.SEQ_FAULT_ADDR_LO, n), (.SEQ_FAULT_ADDR_HI, n)] [.seq]) ∧
  (∀ (s : State) (n x rd d tag : Nat), s.ready = true → s.coreRuns n = true → s.coreStalled n = false → x < 0x10000000 →
    x % 4 = 0 → decodeAddr s.part (csrBase + x) = .ni d →
    s.sendsAt (0x94 + n) d tag (coreAsk n .rd (csrBase + x) 4 []) = true →
    Runs (.apertureAccess n x 4 rd none) s fun t =>
      (t.core n).access = some ⟨false, csrBase + x, 0x30000000 + x, rd, 4, false⟩ ∧
      Sent s t { s.postedFrom (0x94 + n) d (csrBase + x) [] with cmd := .rd, tag := tag, len := 3, beFirst := 0, beLast := 0 } ∧
      (t.ni (0x94 + n)).outstanding =
        (s.ni (0x94 + n)).outstanding ++ [⟨tag, d, .rd, csrBase + x, 3, .core n, s.time, 0, none⟩] ∧
      OtherNis s t (0x94 + n) ∧ Kept s t (statRegs (0x94 + n)) [.seq, .net]) ∧
  (∀ (s : State) (n x bytes rd : Nat), s.ready = true → s.coreRuns n = true → s.coreStalled n = false → x < 0x10000000 →
    bytes ≠ 4 ∨ x % 4 ≠ 0 →
    Runs (.apertureAccess n x bytes rd none) s fun t =>
      t.coreCsr n 0x341 = (s.core n).pc ∧ t.coreCsr n 0x342 = 5 ∧ t.coreCsr n 0x343 = BitVec.ofNat 32 (0x30000000 + x) ∧
      (t.core n).pc = s.coreCsr n 0x305 &&& 0xFFFFFFFC ∧ (t.core n).reserve = none ∧
      (∀ m r, r < 32 → t.coreX m r = s.coreX m r) ∧ t.seq.sram = s.seq.sram ∧ t.seq.tcm = s.seq.tcm ∧ Kept s t [] [.seq]) ∧
  (∀ (s : State) (n y d : Nat) (data : Word), s.ready = true → s.coreRuns n = true → s.coreStalled n = false →
    y < 0x10000000 → y % 4 = 0 → s.f F.SEQ_FAR_CTRL_POSTED n = 1 → s.niTakes (0x94 + n) = true → (s.ni (0x94 + n)).csf.up = [] →
    decodeAddr s.part ((s.pair .SEQ_FAR_BASE_LO .SEQ_FAR_BASE_HI n + y) % 2 ^ 48) = .ni d → (s.recordOf (0x94 + n)).isNone = true →
    entryValid (s.activeEntry (0x94 + n) d) = true → s.sendsNow (0x94 + n) 0 = true →
    Runs (.farWindowAccess n y 4 0 false (some data)) s fun t =>
      (t.core n).access = none ∧
      (t.core n).posted = Sparse.insert (s.core n).posted d ((s.pair .SEQ_FAR_BASE_LO .SEQ_FAR_BASE_HI n + y) % 2 ^ 48) ∧
      Sent s t (s.postedFrom (0x94 + n) d ((s.pair .SEQ_FAR_BASE_LO .SEQ_FAR_BASE_HI n + y) % 2 ^ 48) (toBytes 4 data.toNat)) ∧
      OtherNis s t (0x94 + n) ∧ Kept s t (statRegs (0x94 + n)) [.seq, .net]) ∧
  (∀ (s : State) (n y d tag b rd : Nat) (signed : Bool), s.ready = true → s.coreRuns n = true → s.coreStalled n = false →
    y < 0x10000000 → b = 1 ∨ b = 2 ∨ b = 4 → y % b = 0 →
    decodeAddr s.part ((s.pair .SEQ_FAR_BASE_LO .SEQ_FAR_BASE_HI n + y) % 2 ^ 48) = .ni d →
    s.sendsAt (0x94 + n) d tag (coreAsk n .rd ((s.pair .SEQ_FAR_BASE_LO .SEQ_FAR_BASE_HI n + y) % 2 ^ 48) b []) = true →
    Runs (.farWindowAccess n y b rd signed none) s fun t =>
      (t.core n).access =
        some ⟨false, (s.pair .SEQ_FAR_BASE_LO .SEQ_FAR_BASE_HI n + y) % 2 ^ 48, 0x40000000 + y, rd, b, signed⟩ ∧
      Sent s t { s.postedFrom (0x94 + n) d ((s.pair .SEQ_FAR_BASE_LO .SEQ_FAR_BASE_HI n + y) % 2 ^ 48) [] with
        cmd := .rd, tag := tag, len := b - 1, beFirst := 0, beLast := 0 } ∧
      OtherNis s t (0x94 + n) ∧ Kept s t (statRegs (0x94 + n)) [.seq, .net]) ∧
  (∀ (s : State) (n d a tag : Nat), s.ready = true → s.coreRuns n = true → s.coreStalled n = false →
    (s.core n).posted = [(d, a)] → decodeAddr s.part (a / 4 * 4) = .ni d →
    s.sendsAt (0x94 + n) d tag (coreAsk n .wr (a / 4 * 4) 4 (toBytes 4 0)) = true →
    Runs (.coreFence n true) s fun t =>
      (t.core n).posted = [] ∧ (t.core n).fencing = 1 ∧
      Sent s t { s.postedFrom (0x94 + n) d (a / 4 * 4) (toBytes 4 0) with cmd := .wr, tag := tag, beFirst := 0, beLast := 0 } ∧
      OtherNis s t (0x94 + n) ∧ Kept s t (statRegs (0x94 + n)) [.seq, .net]) ∧
  (∀ (s : State) (n : Nat), s.ready = true → s.coreRuns n = true → s.coreStalled n = false →
    Runs (.coreFence n false) s fun t => Kept s t [] [])

/-- The sequencer: the boot ROM copies firmware whose CRC is right and shows why it does not start; IC_CLAIM clears the input
it returns, DOORBELL raises input 33, EVT enters the Beam, MTIMECMP raises input 36 (R376, R378, R380). Completes:
firmwareLoad, icClaim, doorbell, seqEvt, mtimecmpReached. -/
def Obligations.Sequencer : Prop :=
  (∀ (s : State), s.ready = true → s.ledger.ready = true → s.seqPowered = true → s.f F.SEQ_BOOT_STATUS_LOADED 0 = 0 →
    s.f F.SEQ_BOOT_STATUS_CAUSE 0 = 0 → (s.seqBoot 0).getLsbD 0 = true → 4 ≤ (s.seqBoot 1).toNat % 2 ^ 23 →
    (s.seqBoot 1).toNat % 2 ^ 23 ≤ 0x400000 →
    crcOfBytes (s.nvBytes firmwareArea ((s.seqBoot 1).toNat % 2 ^ 23 - 4)) =
      s.nvWord (firmwareArea + (s.seqBoot 1).toNat % 2 ^ 23 - 4) →
    (s.copySegments 0 ((s.seqBoot 1).toNat % 2 ^ 23 - 4) ((s.seqBoot 1).toNat % 2 ^ 23 / 16 + 1)).1 = true →
    Runs (.firmwareLoad false) s fun t =>
      t.word .SEQ_BOOT_STATUS 0 = changed (s.word .SEQ_BOOT_STATUS 0) [(F.SEQ_BOOT_STATUS_LOADED, 1)] ∧
      t.seq.tcm = (s.copySegments 0 ((s.seqBoot 1).toNat % 2 ^ 23 - 4) ((s.seqBoot 1).toNat % 2 ^ 23 / 16 + 1)).2.seq.tcm ∧
      t.seq.sram = (s.copySegments 0 ((s.seqBoot 1).toNat % 2 ^ 23 - 4) ((s.seqBoot 1).toNat % 2 ^ 23 / 16 + 1)).2.seq.sram ∧
      t.seq.cores = s.seq.cores ∧ Kept s t [(.SEQ_BOOT_STATUS, 0)] [.seq]) ∧
  (∀ (s : State) (e : Bool), s.ready = true → s.ledger.ready = true → s.seqPowered = true → s.f F.SEQ_BOOT_STATUS_LOADED 0 = 0 →
    s.f F.SEQ_BOOT_STATUS_CAUSE 0 = 0 → (s.seqBoot 0).getLsbD 0 = false →
    Runs (.firmwareLoad e) s fun t =>
      t.word .SEQ_BOOT_STATUS 0 = changed (s.word .SEQ_BOOT_STATUS 0)
        [(F.SEQ_BOOT_STATUS_CAUSE, 1), (F.SEQ_BOOT_STATUS_FAILED, 1)] ∧
      (t.ledger.buffer.getLast?.any fun x => x.origin == 0x40#8) = (decide (s.ledger.buffer.length < 4096) ||
        s.ledger.buffer.getLast?.any fun x => x.origin == 0x40#8) ∧
      Kept s t [(.SEQ_BOOT_STATUS, 0)] [.ledger]) ∧
  (∀ (s : State) (n i : Nat), s.ready = true → s.corePresent n = true → s.claimable n = some i → i ≠ 36 →
    (i < 32 → (s.word .DEV_EVT_CORE_MASK n).getLsbD i = false) →
    Runs (.icClaim n) s fun t =>
      i ∉ t.pendingInputs n ∧ (∀ j, j ≠ i → j ∈ s.pendingInputs n → j ∈ t.pendingInputs n) ∧ Kept s t [] []) ∧
  (∀ (s : State) (mask : BitVec 4), s.ready = true →
    Runs (.doorbell mask) s fun t =>
      (∀ n, n < Part.cores s.part → mask.getLsbD n = true → 33 ∈ t.pendingInputs n) ∧
      (∀ n j, j ∈ s.pendingInputs n → j ∈ t.pendingInputs n) ∧ Kept s t [] []) ∧
  (∀ (s : State) (n : Nat), s.ready = true → n < Part.cores s.part →
    Runs (.seqEvt n) s fun t =>
      ⟨.source (40 + n), s.time + 1⟩ ∈ t.beam.flight ∧ Kept s t [(.BEAM_SRC_CNT, 40 + n)] [.beam]) ∧
  (∀ (s : State) (n : Nat), s.ready = true → s.corePresent n = true →
    Runs (.mtimecmpReached n) s fun t =>
      (s.now.toNat < (s.core n).timecmp.toNat → t.now = (s.core n).timecmp) ∧ 36 ∈ t.pendingInputs n ∧
      Kept s t [] [.clock])

/-- Watchdogs and the power guard: a kick reloads the count, another write counts as BAD_KICK, WARN raises the warning, and
the power estimate moves the throttle level (R381, R386). Completes: kick, warn, powerEstimate. -/
def Obligations.WatchdogsAndThrottle : Prop :=
  (∀ (s : State) (who : Who) (w : Nat) (d : Dog) (data : Word), s.ready = true → dogPresent s.part w = true →
    data.toNat % 65536 = 0x6B1D → kickFrom w who.origin = true → s.dog w = some d → s.dogCount d ≠ 0 →
    s.dogReason w d = d.reason →
    Runs (.kick who w data) s fun t =>
      t.dog w = some { d with held := s.dogUs F.WDOG_LOAD_US w, since := d.since.map fun _ => s.time, warned := false } ∧
      (w = 4 → t.dev.sysWarning = false) ∧ Kept s t [] [.dev]) ∧
  (∀ (s : State) (who : Who) (w : Nat) (data : Word), s.ready = true → dogPresent s.part w = true →
    data.toNat % 65536 ≠ 0x6B1D ∨ kickFrom w who.origin = false →
    Runs (.kick who w data) s fun t =>
      t.word .WDOG_STATUS w = changed (s.word .WDOG_STATUS w) [(F.WDOG_STATUS_BAD_KICK, 1)] ∧
      Kept s t [(.WDOG_STATUS, w)] []) ∧
  (∀ (s : State) (w : Nat) (d : Dog) (t0 : DWord), s.ready = true → dogPresent s.part w = true → s.dog w = some d →
    d.since = some t0 → d.warned = false → s.dogUs F.WDOG_WARN_US w ≤ d.held →
    Runs (.warn w) s fun t =>
      (s.time.toNat < (s.boundaryTick t0 (d.held - s.dogUs F.WDOG_WARN_US w)).toNat →
        t.time = s.boundaryTick t0 (d.held - s.dogUs F.WDOG_WARN_US w)) ∧
      ((t.dog w).any (·.warned)) = true ∧
      (w = 4 → t.dev.sysWarning = true) ∧ (w < 4 → 35 ∈ t.pendingInputs w) ∧ Kept s t [] [.clock, .dev]) ∧
  (∀ (s : State) (watts : Nat), s.ready = true → watts < 1024 →
    Runs (.powerEstimate watts) s fun t =>
      t.time = (s.advanceTo (BitVec.ofNat 64 ((s.time.toNat / (10 * ticksPerUs) + 1) * (10 * ticksPerUs)))).time ∧ t.f F.SEQ_POWER_NOW_WATTS 0 = watts ∧
      t.f F.SEQ_GUARD_STATUS_LEVEL 0 =
        (if s.ceiling ≠ 0 ∧ s.ceiling < watts then min 15 (s.f F.SEQ_GUARD_STATUS_LEVEL 0 + 1)
         else if s.ceiling = 0 ∨ 100 * watts < 95 * s.ceiling then s.f F.SEQ_GUARD_STATUS_LEVEL 0 - 1
         else s.f F.SEQ_GUARD_STATUS_LEVEL 0) ∧
      (s.ceiling ≠ 0 → s.ceiling < watts → s.f F.SEQ_GUARD_STATUS_LEVEL 0 < 15 → t.f F.SEQ_GUARD_STATUS_THROTTLED 0 = 1) ∧
      Kept s t [(.SEQ_POWER_NOW, 0), (.SEQ_GUARD_STATUS, 0)] [.clock, .ledger, .seq])

-- ------------------------------------------------------------------ power

/-- Device states and regions: a request for FABRIC_OFF, STANDBY or DORMANT that is not refused begins to drain what goes off;
ACTIVE switches the enabled regions on and ends when the fabric is restored; REGION_CTRL and QUAD_CTRL act in ACTIVE and are
stored otherwise; a drained quad goes off (R400, R401, R403). Completes: fabricOff, standby, dormant, active, fpdRestoreDone,
regionCtrl, quadCtrl, regionOff. -/
def Obligations.PowerStates : Prop :=
  (∀ (s : State) (who : Who), s.downTo 1 = true → s.f F.PWR_STATE_STATUS_STATE 0 = 0 → fpdsOf s.regionsOn ≠ 0 →
    Runs (.fabricOff who) s fun t => Draining s t
      ⟨some 1, s.regionsOn &&& ~~~(s.stateRegions 1).1, s.quadsOn &&& ~~~(s.stateRegions 1).2, 0, true, who⟩ []) ∧
  (∀ (s : State) (who : Who), s.downTo 2 = true →
    Runs (.standby who) s fun t => Draining s t
      ⟨some 2, s.regionsOn &&& ~~~(s.stateRegions 2).1, s.quadsOn &&& ~~~(s.stateRegions 2).2, 0, true, who⟩ []) ∧
  (∀ (s : State) (who : Who), s.downTo 3 = true →
    Runs (.dormant who) s fun t => Draining s t ⟨some 3, s.regionsOn, s.quadsOn, 0, true, who⟩ []) ∧
  (∀ (s : State) (who : Who), s.ready = true → s.stateRefusal 0 = none → s.f F.PWR_STATE_STATUS_STATE 0 = 1 →
    s.regionsOn &&& ~~~(s.stateRegions 0).1 = 0 → s.quadsOn &&& ~~~(s.stateRegions 0).2 = 0 →
    fpdsOf ((s.stateRegions 0).1 &&& ~~~s.regionsOn) ≠ 0 →
    Runs (.active who) s fun t =>
      t.regionsOn = s.regionsOn ||| (s.stateRegions 0).1 ∧ t.quadsOn = s.quadsOn ||| (s.stateRegions 0).2 ∧
      t.power.change = some ⟨some 0, 0, 0, fpdsOf ((s.stateRegions 0).1 &&& ~~~s.regionsOn), false, who⟩ ∧
      t.f F.PWR_STATE_STATUS_BUSY 0 = 1 ∧ t.f F.PWR_STATE_STATUS_STATE 0 = 1 ∧
      Kept s t (([(.PWR_STATE_STATUS, 0), (.PWR_REGION_STATUS, 0), (.PWR_QUAD_STATUS, 0), (.DEV_XS_STATUS, 0)] : Regs) ++
        allOf [.DEV_XS_STATE, .DEV_XS_CNT] 0xA2 ++ fenceRegs (List.range 0x99)) [.net, .power, .ledger]) ∧
  (∀ (s : State) (who : Who) (wait : Nat) (on : BitVec 11) (results : List (Nat × SliceResult)) (same : Bool), s.ready = true →
    s.power.change = some ⟨some 0, 0, 0, on, false, who⟩ → on ≠ 0 → fpdsOf on = on → s.fabric.brownout = false →
    (s.cfg.fullSource.isSome && s.baseLost on same) = false → s.repair.step = none → s.repair.asked = [] →
    s.repair.migrations = [] → s.f F.PWR_STATE_STATUS_STATE 0 < 3 →
    Runs (.fpdRestoreDone wait results same) s fun t =>
      t.power.change = none ∧ t.f F.PWR_STATE_STATUS_STATE 0 = 0 ∧ t.f F.PWR_STATE_STATUS_BUSY 0 = 0 ∧
      t.f F.PWR_STATUS_RESTORED 0 = 1 ∧ t.f F.PWR_STATUS_CHANGE_DONE 0 = 1 ∧ t.time = s.time + BitVec.ofNat 64 wait + 1 ∧
      Kept s t restoreRegs restoreAreas) ∧
  (∀ (s : State) (who : Who) (data : Word), s.ready = true → s.f F.PWR_STATE_STATUS_STATE 0 ≠ 0 →
    data.setWidth 11 &&& ~~~(Part.regions s.part) = 0 → data &&& ~~~(Part.quadMask s.part) = 0 → data.toNat < 2048 →
    Runs (.regionCtrl who data) s (fun t =>
      t.word .PWR_REGION_CTRL 0 = changed (s.word .PWR_REGION_CTRL 0)
        [(F.PWR_REGION_CTRL_FPD, data.toNat % 256), (F.PWR_REGION_CTRL_HBM, data.toNat / 256 % 2),
          (F.PWR_REGION_CTRL_STORE, data.toNat / 512 % 2), (F.PWR_REGION_CTRL_SEQ, data.toNat / 1024)] ∧
      Kept s t [(.PWR_REGION_CTRL, 0)] [.ledger]) ∧
    Runs (.quadCtrl who data) s (fun t => t.word .PWR_QUAD_CTRL 0 = data ∧ Kept s t [(.PWR_QUAD_CTRL, 0)] [.ledger])) ∧
  (∀ (s : State) (who : Who) (data : Word), s.ready = true → s.f F.PWR_STATE_STATUS_STATE 0 = 0 → data.toNat < 2048 →
    data.setWidth 11 &&& ~~~(Part.regions s.part) = 0 → s.power.change = none → s.repair.step = none →
    data.setWidth 11 &&& ~~~s.regionsOn = 0 → s.regionsOn &&& ~~~data.setWidth 11 ≠ 0 →
    s.offRefusal (s.regionsOn &&& ~~~data.setWidth 11) 0 = none →
    Runs (.regionCtrl who data) s fun t =>
      Draining s t ⟨none, s.regionsOn &&& ~~~data.setWidth 11, 0, 0, true, who⟩ [(.PWR_REGION_CTRL, 0)] ∧
      t.word .PWR_REGION_CTRL 0 = changed (s.word .PWR_REGION_CTRL 0)
        [(F.PWR_REGION_CTRL_FPD, data.toNat % 256), (F.PWR_REGION_CTRL_HBM, data.toNat / 256 % 2),
          (F.PWR_REGION_CTRL_STORE, data.toNat / 512 % 2), (F.PWR_REGION_CTRL_SEQ, data.toNat / 1024)]) ∧
  (∀ (s : State) (who : Who) (data : Word), s.ready = true → s.f F.PWR_STATE_STATUS_STATE 0 = 0 →
    data &&& ~~~(Part.quadMask s.part) = 0 → s.power.change = none → s.repair.step = none →
    data &&& ~~~s.quadsOn = 0 → s.quadsOn &&& ~~~data ≠ 0 → s.offRefusal 0 (s.quadsOn &&& ~~~data) = none →
    Runs (.quadCtrl who data) s fun t =>
      Draining s t ⟨none, 0, s.quadsOn &&& ~~~data, 0, true, who⟩ [(.PWR_QUAD_CTRL, 0)] ∧ t.word .PWR_QUAD_CTRL 0 = data) ∧
  (∀ (s : State) (who : Who) (wait q : Nat), s.ready = true → q < 32 →
    s.power.change = some ⟨none, 0, BitVec.ofNat 32 (2 ^ q), 0, true, who⟩ → s.niClosed [0x70 + q] = true →
    Runs (.regionOff wait) s fun t =>
      t.quadsOn = s.quadsOn &&& ~~~(BitVec.ofNat 32 (2 ^ q)) ∧ t.power.change = none ∧
      t.f F.PWR_STATE_STATUS_BUSY 0 = 0 ∧ t.f F.PWR_STATUS_CHANGE_DONE 0 = 1 ∧ t.f F.LANE_QUAD_STATUS_PLL_LOCK q = 0 ∧
      (s.station (0x70 + q) = 0 → t.station (0x70 + q) = 2) ∧
      Kept s t (([(.PWR_STATE_STATUS, 0), (.PWR_STATUS, 0), (.PWR_QUAD_STATUS, 0), (.DEV_XS_STATE, 0x70 + q),
        (.LANE_QUAD_STATUS, q)] : Regs) ++ ((List.range 4).map fun i => (.LANE_LANE_STATUS, 4 * q + i) : Regs)) [.clock, .power, .lanes, .ledger])

/-- Supplies, temperature and the voltage loop: readings are shown and flag what is out of range, a brownout gates the fabric
and its end restores it, a loop that is enabled starts from READ_VOUT, and an interval steps the command and sends it (R66,
R67, R406, R408, R409). Completes: supplySample, supplyFault, supplyInRange, brownout, brownoutRecovery, tempRead,
vloopEnable, vloopInterval. -/
def Obligations.SuppliesAndVoltage : Prop :=
  (∀ (s : State) (fab sys : Nat), s.ready = true → fab < 4096 → sys < 4096 →
    Runs (.supplySample fab sys) s fun t =>
      t.time = s.time + 1500 ∧ t.word .PWR_SUPPLY 0 = changed (s.word .PWR_SUPPLY 0) [(F.PWR_SUPPLY_FAB_MV, fab), (F.PWR_SUPPLY_SYS_MV, sys)] ∧
      t.word .PWR_STATUS 0 =
        (if fab < 580 ∨ 930 < fab then changed (s.word .PWR_STATUS 0) [(F.PWR_STATUS_FAB_RANGE, 1)] else s.word .PWR_STATUS 0) ∧
      Kept s t [(.PWR_SUPPLY, 0), (.PWR_STATUS, 0)] [.clock]) ∧
  (∀ (s : State) (bank : Nat), s.ready = true →
    Runs (.supplyFault 8 bank) s fun t =>
      t.word .PWR_STATUS 0 = changed (s.word .PWR_STATUS 0) [(F.PWR_STATUS_FAULT_SUPPLY, 8), (F.PWR_STATUS_SUPPLY_FAULT, 1)] ∧
      8 ∈ t.power.outOfRange ∧ Kept s t [(.PWR_STATUS, 0)] [.power]) ∧
  (∀ (s : State) (bank level : Nat), s.ready = true → bank < 13 → level < 6 →
    Runs (.supplyFault 9 bank) s (fun t =>
      t.word .PIN_BANK_STATUS bank = changed (s.word .PIN_BANK_STATUS bank) [(F.PIN_BANK_STATUS_LEVEL, 0)] ∧
      Kept s t [(.PWR_STATUS, 0), (.PIN_BANK_STATUS, bank)] []) ∧
    Runs (.supplyInRange 9 bank level) s (fun t =>
      t.word .PIN_BANK_STATUS bank = changed (s.word .PIN_BANK_STATUS bank) [(F.PIN_BANK_STATUS_LEVEL, level)] ∧
      Kept s t [(.PIN_BANK_STATUS, bank)] []) ∧
    Runs (.supplyInRange 8 bank level) s (fun t => 8 ∉ t.power.outOfRange ∧ Kept s t [] [.power])) ∧
  (∀ s : State, s.ready = true → s.fabric.brownout = false → s.repair.step = none →
    Runs .brownout s fun t =>
      t.fabric = { s.fabric with brownout := true } ∧ t.time = s.time + 1 ∧
      t.word .PWR_STATUS 0 = changed (s.word .PWR_STATUS 0) [(F.PWR_STATUS_BROWNOUT, 1)] ∧
      (∀ n, n ∈ s.fabricNis → t.fence n ≠ 0) ∧
      Kept s t (([(.PWR_STATUS, 0)] : Regs) ++ fenceRegs (List.range 0x60) ++ s.gateRegs) [.clock, .fabric, .net, .pins, .cfg, .ledger]) ∧
  (∀ (s : State) (wait : Nat) (results : List (Nat × SliceResult)) (same : Bool), s.ready = true → s.fabric.brownout = true →
    s.f F.DEV_STATUS_USER_MODE 0 = 1 → s.power.change = none → fpdsOf s.regionsOn ≠ 0 →
    (s.cfg.fullSource.isSome && s.baseLost (fpdsOf s.regionsOn) same) = false → s.repair.step = none → s.repair.asked = [] →
    s.repair.migrations = [] →
    Runs (.brownoutRecovery wait results same) s fun t =>
      t.fabric.brownout = false ∧ t.f F.PWR_STATUS_RESTORED 0 = 1 ∧ t.time = s.time + 150000 + BitVec.ofNat 64 wait + 1 ∧
      Kept s t restoreRegs restoreAreas) ∧
  (∀ (s : State) (k : Int) (sensor : Nat), s.ready = true → s.power.hot = false → -128 ≤ k → k < 110 → sensor ≤ 8 →
    Runs (.tempRead k sensor) s fun t =>
      t.time = s.time + 150000 ∧
      t.word .PWR_TEMP 0 = changed (s.word .PWR_TEMP 0) [(F.PWR_TEMP_NOW, tempByte k), (F.PWR_TEMP_SENSOR, sensor),
        (F.PWR_TEMP_MAX, tempByte (max k (byteTemp (s.f F.PWR_TEMP_MAX 0))))] ∧
      t.word .PWR_STATUS 0 = (if byteTemp (s.f F.PWR_TEMP_CFG_WARN 0) ≤ k
        then changed (s.word .PWR_STATUS 0) [(F.PWR_STATUS_TEMP_WARN, 1)] else s.word .PWR_STATUS 0) ∧
      Kept s t [(.PWR_TEMP, 0), (.PWR_STATUS, 0)] [.clock]) ∧
  (∀ (s : State) (who : Who) (data : Word) (m v : Nat), s.ready = true → 10 ≤ data.toNat / 2 ^ 22 → data.getLsbD 0 = true →
    s.f F.PWR_VLOOP_STATUS_STATE 0 = 0 → s.inputFed 49 = true → s.goRuns = false → m / 32 = 0 → v < 4096 →
    Runs (.vloopEnable who data [.data m, .data v]) s fun t =>
      t.f F.PWR_VLOOP_CTRL_EN 0 = 1 ∧ t.f F.PWR_VLOOP_STATUS_STATE 0 = 1 ∧ t.f F.PWR_VLOOP_STATUS_FAULT_CAUSE 0 = 0 ∧
      t.f F.PWR_VLOOP_VOUT_CMD 0 = v ∧ t.f F.PWR_VLOOP_VOUT_READ 0 = v ∧ t.fabric.vloopDue = [] ∧
      SentOut s t [t.loopSends 0x20 0, t.loopSends 0x8B 0] ∧
      Kept s t [(.PWR_VLOOP_CTRL, 0), (.PWR_VLOOP_STATUS, 0), (.PWR_VLOOP_VOUT, 0), (.PMB_STATUS, 0)] [.fabric, .ledger, .out]) ∧
  (∀ (s : State) (who : Who) (data : Word), s.ready = true → 10 ≤ data.toNat / 2 ^ 22 → data.getLsbD 0 = true →
    s.f F.PWR_VLOOP_STATUS_STATE 0 = 0 → s.inputFed 49 = true → s.goRuns = false →
    Runs (.vloopEnable who data (List.replicate 4 .nack)) s fun t =>
      t.f F.PWR_VLOOP_STATUS_STATE 0 = 5 ∧ t.f F.PWR_VLOOP_STATUS_FAULT_CAUSE 0 = 1 ∧
      t.word .PWR_VLOOP_VOUT 0 = s.word .PWR_VLOOP_VOUT 0 ∧ SentOut s t (List.replicate 4 (t.loopSends 0x20 0)) ∧
      Kept s t [(.PWR_VLOOP_CTRL, 0), (.PWR_VLOOP_STATUS, 0), (.PMB_STATUS, 0)] [.fabric, .ledger, .out]) ∧
  (∀ (s : State) (w w' mv : Nat), s.ready = true → s.fabric.vloopDue = [] → s.fabric.vloopHeard = [] → s.fabric.vloopTries = 0 →
    s.goRuns = false →
    s.f F.PWR_VLOOP_STATUS_STATE 0 = 1 ∨ s.f F.PWR_VLOOP_STATUS_STATE 0 = 2 → s.inputFed 49 = true → w < 32768 → mv < 4096 →
    s.nextCommand (s.band s.loopRate) ≠ s.f F.PWR_VLOOP_VOUT_CMD 0 →
    mv ≤ s.nextCommand (s.band s.loopRate) + 25 → s.nextCommand (s.band s.loopRate) ≤ mv + 25 →
    Runs (.vloopInterval [.data w', .data w, .data mv]) s fun t =>
      t.time = (s.advanceTo (s.fabric.vloopAt + BitVec.ofNat 64 (s.f F.PWR_VLOOP_CTRL_INTERVAL 0 * ticksPerUs))).time ∧
      t.fabric = { s.fabric with vloopAt := t.time, vloopOff := 0 } ∧
      t.f F.PWR_VLOOP_VOUT_CMD 0 = s.nextCommand (s.band s.loopRate) ∧ t.f F.PWR_VLOOP_VOUT_READ 0 = mv ∧
      t.f F.PWR_VLOOP_STATUS_STATE 0 = s.vloopNext (s.band s.loopRate) (s.nextCommand (s.band s.loopRate)) ∧
      SentOut s t [s.loopSends 0x21 (s.nextCommand (s.band s.loopRate)), s.loopSends 0x79 0, s.loopSends 0x8B 0] ∧
      Kept s t [(.PWR_VLOOP_STATUS, 0), (.PWR_VLOOP_VOUT, 0), (.PMB_STATUS, 0)] [.clock, .fabric, .out])

-- ------------------------------------------------------------------ pins and peripherals

/-- Pins: a station takes a bead and drives what it says at once, at an edge of the time base, or, with a clock from a pin,
holds it for that edge; its input channel offers what its pad brings, on a change or at the edges of its clock; a write of
PIN.PAD with a new FUNC begins a switch that ends two pin-control cycles on, a reserved encoding is refused; GPIO_SET and
GPIO_CLR change their own bits; a line whose filter passes a level or an edge of its MODE sets its status bit (R84, R85, R390,
R394, R396, R397). Completes: pinOutputBead, pinInputChange, padWrite, funcSwitchDone, gpioSet, gpioClr, extlDetect. -/
def Obligations.Pins : Prop :=
  (∀ (s : State) (p : Nat) (upset : Upset) (b : Bead), s.ready = true → p < 192 → (s.stationDir p).testBit 0 = true →
    (s.pinStation p).waiting = none → s.stationOutMode p = 0 → s.meets (.pin p, upset) b = true →
    Runs (.pinOutputBead p upset) s fun t =>
      (t.pinStation p).out = (if b.num % 4 = 3 then (s.pinStation p).out else BitVec.ofNat 2 b.num) ∧
      (∀ q, q ≠ p → (s.pinStation q).waiting = none → (t.pinStation q).out = (s.pinStation q).out) ∧ t.took (.pin p) b ∧
      Kept s t ((.PIN_STATUS, 0) :: allOf [.PIN_STN_STAT] 192) [.fabric]) ∧
  (∀ (s : State) (p n phase : Nat) (upset : Upset) (b : Bead), s.ready = true → p < 192 → (s.stationDir p).testBit 0 = true →
    (s.pinStation p).waiting = none → s.stationOutMode p ≠ 0 → s.ptcTicks (s.stationOutClk p) = some (n, phase) →
    s.meets (.pin p, upset) b = true →
    Runs (.pinOutputBead p upset) s fun t =>
      t.time = s.time + BitVec.ofNat 64 (2 + (n + phase - (s.now.toNat + 2) % n) % n) ∧
      (t.pinStation p).out = (if b.num % 4 = 3 then (s.pinStation p).out else BitVec.ofNat 2 b.num) ∧
      (∀ q, q ≠ p → (s.pinStation q).waiting = none → (t.pinStation q).out = (s.pinStation q).out) ∧ t.took (.pin p) b ∧
      Kept s t ((.PIN_STATUS, 0) :: allOf [.PIN_STN_STAT] 192) [.clock, .fabric]) ∧
  (∀ (s : State) (p : Nat) (upset : Upset) (b : Bead), s.ready = true → p < 192 → (s.stationDir p).testBit 0 = true →
    (s.pinStation p).waiting = none → s.stationOutMode p ≠ 0 → s.ptcTicks (s.stationOutClk p) = none →
    s.ptcFromPin (s.stationOutClk p) = true → s.meets (.pin p, upset) b = true →
    Runs (.pinOutputBead p upset) s fun t =>
      t.pinStation p = { s.pinStation p with waiting := some (BitVec.ofNat 2 b.num, s.time) } ∧
      (∀ q, q ≠ p → t.pinStation q = s.pinStation q) ∧ t.fabric.takings = s.fabric.takings ∧ Kept s t [] [.fabric]) ∧
  (∀ (s : State) (p : Nat) (level : Bool), s.stands p (!level) = true → s.stationInMode p = 2 →
    (s.pinStation p).offer = none → (s.pinStation p).last = some (!level) →
    Runs (.pinInputChange p level 0) s fun t =>
      t.padOutside p = level ∧ (∀ q, q ≠ p → t.padOutside q = s.padOutside q) ∧
      t.pinStation p = { s.pinStation p with offer := some (if level then 1 else 0), raw := level, since := s.time, level := level } ∧
      (∀ q, q ≠ p → t.pinStation q = s.pinStation q) ∧ Kept s t [] [.fabric, .pins]) ∧
  (∀ (s : State) (p : Nat) (level : Bool) (v : Digit), s.stands p (!level) = true → s.stationInMode p = 2 →
    (s.pinStation p).offer = some v → (s.pinStation p).last = some level →
    Runs (.pinInputChange p level 0) s fun t =>
      t.padOutside p = level ∧ (t.pinStation p).offer = none ∧
      t.f F.PIN_STN_STAT_LOST p = s.counted F.PIN_STN_STAT_LOST p 1 ∧ t.f F.PIN_STATUS_LOST 0 = 1 ∧
      Kept s t [(.PIN_STN_STAT, p), (.PIN_STATUS, 0)] [.fabric, .pins]) ∧
  (∀ (s : State) (p n phase wait : Nat) (level : Bool) (a : DWord), s.stands p (!level) = true → s.stationInMode p = 1 →
    s.ptcTicks (s.stationInClk p) = some (n, phase) → (s.pinStation p).sampledTo = some a → (s.pinStation p).offer = none →
    1 ≤ edgesIn (a + s.timeOffset).toNat (s.now + BitVec.ofNat 64 wait).toNat n phase →
    Runs (.pinInputChange p level wait) s fun t =>
      t.time = s.time + BitVec.ofNat 64 wait ∧ t.padOutside p = level ∧
      (t.pinStation p).offer = some (if level then 0 else 1) ∧ (t.pinStation p).sampledTo = some t.time ∧
      t.f F.PIN_STN_STAT_OVERRUN p =
        s.counted F.PIN_STN_STAT_OVERRUN p (edgesIn (a + s.timeOffset).toNat (s.now + BitVec.ofNat 64 wait).toNat n phase - 1) ∧
      (2 ≤ edgesIn (a + s.timeOffset).toNat (s.now + BitVec.ofNat 64 wait).toNat n phase → t.f F.PIN_STATUS_OVERRUN 0 = 1) ∧
      Kept s t [(.PIN_STN_STAT, p), (.PIN_STATUS, 0)] [.clock, .fabric, .pins]) ∧
  (∀ (s : State) (p : Nat) (level : Bool), s.settled p (!level) = true → s.stationInMode p = 1 →
    (s.clocksOf p level).contains (s.stationInClk p) = true →
    Runs (.pinInputChange p level 0) s fun t =>
      t.padOutside p = level ∧
      (t.pinStation p).offer = (if (s.pinStation p).offer = none then some (if level then 1 else 0) else (s.pinStation p).offer) ∧
      ((s.pinStation p).offer ≠ none →
        t.f F.PIN_STN_STAT_OVERRUN p = s.counted F.PIN_STN_STAT_OVERRUN p 1 ∧ t.f F.PIN_STATUS_OVERRUN 0 = 1) ∧
      Kept s t ((.PIN_STATUS, 0) :: allOf [.PIN_STN_STAT] 192) [.fabric, .pins]) ∧
  (∀ (s : State) (who : Who) (p : Nat) (data : Word), s.ready = true → p < 208 → s.padSwitching p = false →
    padBad p data = false → data.toNat % 8 = s.padFunc p →
    Runs (.padWrite who p data) s fun t => t.word .PIN_PAD p = data &&& 0x1FFFF#32 ∧ Kept s t [(.PIN_PAD, p)] [.ledger]) ∧
  (∀ (s : State) (who : Who) (p : Nat) (data : Word), s.ready = true → p < 208 → s.padSwitching p = false →
    padBad p data = false → data.toNat % 8 ≠ s.padFunc p → s.pinProtected p = false →
    Runs (.padWrite who p data) s fun t =>
      t.word .PIN_PAD p = data &&& 0x1FFFF#32 ∧
      t.pins = { s.pins with switching := Sparse.insert s.pins.switching p ⟨s.time, s.padLevel p, []⟩ } ∧
      Kept s t [(.PIN_PAD, p)] [.pins, .ledger]) ∧
  (∀ (s : State) (who : Who) (p : Nat) (data : Word), s.ready = true → p < 208 → s.padSwitching p = false →
    6 ≤ data.toNat / 8 % 8 ∨ 192 ≤ p ∧ data.toNat % 8 = 1 →
    Runs (.padWrite who p data) s fun t => Refused s t F.PIN_STATUS_ENC_REFUSED 0 who .encoding .PIN_PAD p data.toNat) ∧
  (∀ (s : State) (p : Nat) (since : DWord) (level : Bool), s.ready = true →
    s.pins.switching = [(p, ⟨since, level, []⟩)] →
    Runs (.funcSwitchDone p) s fun t =>
      t.time = (if s.time.toNat < (since + BitVec.ofNat 64 (2 * s.pinCycle)).toNat
        then since + BitVec.ofNat 64 (2 * s.pinCycle) else s.time) ∧
      t.pins = { s.pins with switching := [] } ∧
      Kept s t [(.PIN_CONFLICT, 0), (.PIN_STATUS, 0)] [.clock, .pins, .ledger]) ∧
  (∀ (s : State) (i : Nat) (data : Word), s.ready = true → i < 13 →
    Runs (.gpioSet i data) s (fun t =>
      t.word .PIN_GPIO_OUT i = s.word .PIN_GPIO_OUT i ||| (data &&& 0xFFFF#32) ∧ Kept s t [(.PIN_GPIO_OUT, i)] []) ∧
    Runs (.gpioClr i data) s (fun t =>
      t.word .PIN_GPIO_OUT i = s.word .PIN_GPIO_OUT i &&& ~~~(data &&& 0xFFFF#32) ∧ Kept s t [(.PIN_GPIO_OUT, i)] [])) ∧
  (∀ (s : State) (n : Nat), s.ready = true → n < 16 → s.f F.PIN_EXTL_CFG_EN n = 1 →
    (s.extlLine n).raw = s.padLevel (s.extlPin n) →
    Runs (.extlDetect n) s fun t =>
      t.time = (s.advanceTo ((s.extlLine n).since + BitVec.ofNat 64 (s.f F.PIN_EXTL_CFG_FILT n * s.pinCycle))).time ∧
      t.extlLine n = { s.extlLine n with level := (s.extlLine n).raw } ∧
      t.word .PIN_EXTL_STATUS 0 =
        (if s.extlHits n (s.extlLine n).raw ((s.extlLine n).raw != (s.extlLine n).level)
          then s.word .PIN_EXTL_STATUS 0 ||| BitVec.ofNat 32 (2 ^ n) else s.word .PIN_EXTL_STATUS 0) ∧
      Kept s t [(.PIN_EXTL_STATUS, 0)] [.clock, .pins]) ∧
  (∀ (s : State) (n : Nat), s.ready = true → s.f F.PIN_EXTL_CFG_EN n = 0 →
    Runs (.extlDetect n) s fun t => Kept s t [] [])

/-- I2C, SPI and UART: GO starts a transfer or is refused, its steps and ends move bytes and set bits, a write of TXDATA goes
into the FIFO or is dropped, a read of RXDATA pops it (R398, R412). Completes: transfer, peripheralDone, addressed, txdata,
rxByte, rxdata. -/
def Obligations.SerialUnits : Prop :=
  (∀ (s : State) (who : Who) (u : Nat) (data : Word), s.ready = true → u < 4 → data.getLsbD 31 = true →
    s.f F.I2C_STATUS_BUSY u = 1 ∨ s.f F.I2C_CTRL_TARGET u = 1 ∨ s.f F.I2C_CTRL_EN u = 0 →
    Runs (.transfer who u data) s fun t => Refused s t F.I2C_STATUS_CMD_REFUSED u who .command .I2C_CMD u data.toNat) ∧
  (∀ (s : State) (who : Who) (u : Nat) (data : Word), s.ready = true → u < 4 → data.getLsbD 31 = true →
    s.f F.I2C_STATUS_BUSY u = 0 → s.f F.I2C_CTRL_TARGET u = 0 → s.f F.I2C_CTRL_EN u = 1 → (s.i2c u).tx = [] →
    Runs (.transfer who u data) s fun t =>
      t.f F.I2C_STATUS_BUSY u = 1 ∧ t.f F.I2C_CMD_GO u = 1 ∧
      t.i2c u = { s.i2c u with left := if t.f F.I2C_CMD_COUNT u = 0 then 256 else t.f F.I2C_CMD_COUNT u, busy := (t.i2c u).busy } ∧
      SentOut s t [.i2cStart u (s.i2c u).kept (BitVec.ofNat 8 (2 * t.f F.I2C_CMD_ADDR u + t.f F.I2C_CMD_READ u))] ∧
      Kept s t [(.I2C_CMD, u), (.I2C_STATUS, u)] [.periph, .ledger, .out]) ∧
  (∀ (s : State) (u : Nat) (b : List Byte), s.ready = true → u < 4 → s.f F.I2C_STATUS_BUSY u = 1 → s.i2cFed u = true →
    s.f F.I2C_CMD_READ u = 1 → b.length ≤ (s.i2c u).left → (s.i2c u).rx.length + b.length ≤ 16 →
    Runs (.peripheralDone (.i2cBytes u b)) s fun t =>
      t.i2c u = { s.i2c u with rx := (s.i2c u).rx ++ b, left := (s.i2c u).left - b.length, busy := (t.i2c u).busy } ∧
      (t.i2c u).busy = BitVec.ofNat 64 (max (s.i2c u).busy.toNat s.time.toNat + 9 * b.length * busBit (s.f F.I2C_CTRL_SPEED u)) ∧
      t.time = (s.advanceTo (t.i2c u).busy).time ∧ Kept s t [(.I2C_STATUS, u)] [.clock, .periph]) ∧
  (∀ (s : State) (u : Nat) (x : PeriphEnd) (b : Fld), s.ready = true → u < 4 → s.f F.I2C_STATUS_BUSY u = 1 → s.i2cFed u = true →
    (x, b) ∈ [(.i2cNack u, F.I2C_STATUS_NACK), (.i2cArbLost u, F.I2C_STATUS_ARB_LOST), (.i2cTimeout u, F.I2C_STATUS_TIMEOUT)] ∨
      x = .i2cDone u ∧ b = F.I2C_STATUS_DONE ∧ (s.i2c u).left = 0 →
    Runs (.peripheralDone x) s fun t =>
      t.f b u = 1 ∧ t.f F.I2C_STATUS_DONE u = 1 ∧ t.f F.I2C_STATUS_BUSY u = 0 ∧ t.f F.I2C_CMD_GO u = 0 ∧
      t.i2c u = { s.i2c u with left := 0, kept := decide (x = .i2cDone u) && !s.on F.I2C_CMD_STOP u } ∧
      SentOut s t (if x = .i2cArbLost u ∨ x = .i2cDone u ∧ s.f F.I2C_CMD_STOP u = 0 then [] else [.i2cStop u]) ∧
      t.time = (if x = .i2cDone u then (s.advanceTo (s.i2c u).busy).time
        else if x = .i2cTimeout u then s.time + BitVec.ofNat 64 (max 1 (s.f F.I2C_CTRL_STRETCH_MS u) * 1000 * ticksPerUs)
        else s.time) ∧
      Kept s t [(.I2C_CMD, u), (.I2C_STATUS, u)] [.clock, .periph, .out]) ∧
  (∀ (s : State) (u addr : Nat) (b : List Byte), s.ready = true → u < 4 → s.f F.I2C_CTRL_EN u = 1 → s.f F.I2C_CTRL_TARGET u = 1 →
    s.f F.I2C_CTRL_OWN_ADDR u = addr → s.i2cFed u = true →
    Runs (.addressed u addr (.write b)) s (fun t =>
      t.f F.I2C_STATUS_ADDRESSED u = 1 ∧ t.i2c u = { s.i2c u with rx := (s.i2c u).rx ++ b.take (16 - (s.i2c u).rx.length) } ∧
      (s.f F.I2C_CTRL_STRETCH u = 0 → 16 - (s.i2c u).rx.length < b.length → t.f F.I2C_STATUS_OVERFLOW u = 1) ∧
      Kept s t [(.I2C_STATUS, u)] [.periph]) ∧
    Runs (.addressed u addr (.read b.length)) s (fun t =>
      t.f F.I2C_STATUS_ADDRESSED u = 1 ∧ t.i2c u = { s.i2c u with tx := (s.i2c u).tx.drop b.length } ∧
      (s.f F.I2C_CTRL_STRETCH u = 0 → SentOut s t
        [.serial (.i2c u) (((s.i2c u).tx.take b.length ++
          List.replicate (b.length - (s.i2c u).tx.length) 0xFF#8).map (·.setWidth 32))]) ∧
      Kept s t [(.I2C_STATUS, u)] [.periph, .out])) ∧
  (∀ (s : State) (u : Nat) (data : Word), s.ready = true → u < 4 → s.f F.I2C_STATUS_BUSY u = 1 → s.f F.I2C_CMD_READ u = 0 →
    (s.i2c u).tx = [] → 0 < (s.i2c u).left →
    Runs (.txdata (.i2c u) data) s fun t =>
      t.i2c u = { s.i2c u with left := (s.i2c u).left - 1, busy := (t.i2c u).busy } ∧
      SentOut s t [.serial (.i2c u) [data &&& 0xFF#32]] ∧ Kept s t [(.I2C_STATUS, u)] [.periph, .out]) ∧
  (∀ (s : State) (u : Nat) (data : Word), s.ready = true → u < 4 → s.f F.I2C_STATUS_BUSY u = 0 →
    Runs (.txdata (.i2c u) data) s fun t =>
      (t.i2c u).tx = (if (s.i2c u).tx.length < 16 then (s.i2c u).tx ++ [data.setWidth 8] else (s.i2c u).tx) ∧
      (16 ≤ (s.i2c u).tx.length → t.f F.I2C_STATUS_OVERFLOW u = 1) ∧ Kept s t [(.I2C_STATUS, u)] [.periph]) ∧
  (∀ (s : State) (u : Nat) (data : Word), s.ready = true → u < 4 → (s.spi u).sending = none → (s.spi u).tx = [] →
    s.f F.SPI_CTRL_EN u = 1 →
    Runs (.txdata (.spi u) data) s fun t =>
      t.spi u = { s.spi u with sending := some (data, s.time) } ∧ t.f F.SPI_STATUS_BUSY u = 1 ∧
      SentOut s t [.serial (.spi u) [BitVec.ofNat 32 (s.spiOrder u data.toNat)]] ∧
      Kept s t [(.SPI_STATUS, u)] [.periph, .out]) ∧
  (∀ (s : State) (u : Nat) (data : Word), s.ready = true → u < 4 → (s.spi u).sending ≠ none →
    Runs (.txdata (.spi u) data) s fun t =>
      (t.spi u).tx = (if (s.spi u).tx.length < 8 then (s.spi u).tx ++ [data] else (s.spi u).tx) ∧
      (8 ≤ (s.spi u).tx.length → t.f F.SPI_STATUS_TX_OVERFLOW u = 1) ∧ Kept s t [(.SPI_STATUS, u)] [.periph]) ∧
  (∀ (s : State) (u : Nat) (data w : Word) (t0 : DWord), s.ready = true → u < 4 → (s.spi u).sending = some (w, t0) →
    (s.spi u).tx = [] → (s.spi u).rx.length < 8 → s.inputFed (18 + 4 * u) = true →
    Runs (.peripheralDone (.spiFrame u data)) s fun t =>
      t.spi u = { s.spi u with rx := (s.spi u).rx ++ [BitVec.ofNat 32 (s.spiOrder u data.toNat)], sending := none } ∧
      t.f F.SPI_STATUS_DONE u = 1 ∧ t.f F.SPI_STATUS_BUSY u = 0 ∧
      t.time = (s.advanceTo (t0 + BitVec.ofNat 64 (periphTicks ((s.f F.SPI_CTRL_BITS u + 1) * s.f F.SPI_CTRL_DIV u)))).time ∧
      Kept s t [(.SPI_STATUS, u)] [.clock, .periph]) ∧
  (∀ (s : State) (u : Nat) (data : Word), s.ready = true → u < 4 → (s.uart u).sending = none → (s.uart u).tx = [] →
    s.f F.UART_CTRL_EN u = 1 → s.f F.UART_CTRL_FLOW u = 0 →
    Runs (.txdata (.uart u) data) s fun t =>
      t.uart u = { s.uart u with sending := some (data.setWidth 8, s.time) } ∧ t.f F.UART_STATUS_TX_BUSY u = 1 ∧
      SentOut s t [.serial (.uart u) [BitVec.ofNat 32 (bitsNum (s.uartFrame u (data.setWidth 8)))]] ∧
      Kept s t [(.UART_STATUS, u)] [.periph, .out]) ∧
  (∀ (s : State) (u : Nat) (b : Byte) (t0 : DWord), s.ready = true → u < 4 → (s.uart u).sending = some (b, t0) →
    (s.uart u).tx = [] →
    Runs (.peripheralDone (.uartByte u)) s fun t =>
      t.uart u = { s.uart u with sending := none } ∧ t.f F.UART_STATUS_TX_DONE u = 1 ∧ t.f F.UART_STATUS_TX_BUSY u = 0 ∧
      t.time = (s.advanceTo (t0 + BitVec.ofNat 64 (s.uartTicks u (s.uartFrame u b).length))).time ∧
      Kept s t [(.UART_STATUS, u)] [.clock, .periph]) ∧
  (∀ (s : State) (u : Nat) (b : Byte), s.ready = true → u < 4 → s.f F.UART_CTRL_EN u = 1 → s.inputFed (33 + 4 * u) = true →
    Runs (.rxByte u (s.uartFrame u b).tail) s fun t =>
      (t.uart u).rx = (if (s.uart u).rx.length < 32
        then (s.uart u).rx ++ [BitVec.ofNat 11 (b.toNat % 2 ^ (5 + s.f F.UART_CTRL_DATA u))] else (s.uart u).rx) ∧
      (32 ≤ (s.uart u).rx.length → t.f F.UART_STATUS_RX_OVERFLOW u = 1) ∧
      (t.uart u).tx = (s.uart u).tx ∧ (t.uart u).sending = (s.uart u).sending ∧ Kept s t [(.UART_STATUS, u)] [.periph]) ∧
  (∀ (s : State) (u : Nat) (b : Byte) (stop : Bool), s.ready = true → u < 4 → s.f F.UART_CTRL_EN u = 1 → s.inputFed (33 + 4 * u) = true →
    (s.uart u).rx.length < 32 → s.f F.UART_CTRL_PARITY u ≠ 0 → b.toNat % 2 ^ (5 + s.f F.UART_CTRL_DATA u) ≠ 0 →
    Runs (.rxByte u (s.uartData u b ++ [!parityBit (s.f F.UART_CTRL_PARITY u == 2) (s.uartData u b), stop])) s fun t =>
      (t.uart u).rx = (s.uart u).rx ++
        [BitVec.ofNat 11 (b.toNat % 2 ^ (5 + s.f F.UART_CTRL_DATA u) + 256 + if stop then 0 else 512)] ∧
      t.f F.UART_STATUS_PARITY u = 1 ∧ (stop = false → t.f F.UART_STATUS_FRAME u = 1) ∧
      (stop = true → t.f F.UART_STATUS_FRAME u = s.f F.UART_STATUS_FRAME u) ∧ Kept s t [(.UART_STATUS, u)] [.periph]) ∧
  (∀ (s : State) (u : Nat), s.ready = true → u < 4 → s.f F.UART_CTRL_EN u = 1 → s.inputFed (33 + 4 * u) = true →
    (s.uart u).rx.length < 32 →
    Runs (.rxByte u (List.replicate 12 false)) s fun t =>
      (t.uart u).rx = (s.uart u).rx ++ [0x400#11] ∧ t.f F.UART_STATUS_BREAK u = 1 ∧
      t.f F.UART_STATUS_FRAME u = s.f F.UART_STATUS_FRAME u ∧ t.f F.UART_STATUS_PARITY u = s.f F.UART_STATUS_PARITY u ∧
      Kept s t [(.UART_STATUS, u)] [.periph]) ∧
  (∀ (s : State) (u : Nat), s.ready = true → u < 4 →
    Runs (.rxdata (.i2c u)) s (fun t =>
      t.i2c u = { s.i2c u with rx := (s.i2c u).rx.tail } ∧ Kept s t [(.I2C_STATUS, u)] [.periph]) ∧
    Runs (.rxdata (.spi u)) s (fun t =>
      t.spi u = { s.spi u with rx := (s.spi u).rx.tail } ∧ Kept s t [(.SPI_STATUS, u)] [.periph]) ∧
    Runs (.rxdata (.uart u)) s (fun t =>
      t.uart u = { s.uart u with rx := (s.uart u).rx.tail } ∧ Kept s t [(.UART_STATUS, u)] [.periph]) ∧
    Runs (.rxdata .pmb) s (fun t =>
      t.periph.pmb = { s.periph.pmb with rx := s.periph.pmb.rx.tail } ∧ Kept s t [(.PMB_STATUS, 0)] [.periph]))

/-- The PMBus master and pin timers: GO starts a transaction or is refused, its end moves bytes and sets bits, ALERT# is seen;
a compare acts on its output and a capture latches TIME (R398, R412, R413). Completes: transaction, peripheralDone, txdata,
alertSeen, ptCompare, ptCapture. -/
def Obligations.PmbusAndTimers : Prop :=
  (∀ (s : State) (who : Who) (data : Word), s.ready = true → data.getLsbD 31 = true → data.toNat / 65536 % 8 ≠ 5 →
    s.f F.PMB_STATUS_BUSY 0 = 1 ∨ s.f F.PMB_CTRL_EN 0 = 0 →
    Runs (.transaction who data) s fun t => Refused s t F.PMB_STATUS_CMD_REFUSED 0 who .command .PMB_CMD 0 data.toNat) ∧
  (∀ (s : State) (who : Who) (data : Word), s.ready = true → data.toNat / 65536 % 8 = 5 →
    data.toNat / 2 ^ 20 % 64 = 0 ∨ 32 < data.toNat / 2 ^ 20 % 64 →
    Runs (.transaction who data) s fun t => Refused s t F.PMB_STATUS_CMD_REFUSED 0 who .encoding .PMB_CMD 0 data.toNat) ∧
  (∀ (s : State) (who : Who) (data : Word), s.ready = true → data.getLsbD 31 = true → data.toNat / 65536 % 8 ≠ 5 →
    s.f F.PMB_STATUS_BUSY 0 = 0 → s.f F.PMB_CTRL_EN 0 = 1 →
    Runs (.transaction who data) s fun t =>
      t.f F.PMB_STATUS_BUSY 0 = 1 ∧ t.f F.PMB_CMD_GO 0 = 1 ∧ t.f F.PMB_CMD_PROTOCOL 0 = data.toNat / 65536 % 8 ∧
      t.f F.PMB_STATUS_LOOP_WAIT 0 = (if s.fabric.vloopDue = [] then 0 else 1) ∧
      t.periph.pmb = { s.periph.pmb with since := s.time } ∧ Kept s t [(.PMB_CMD, 0), (.PMB_STATUS, 0)] [.periph, .ledger]) ∧
  (∀ (s : State) (b : Byte), s.ready = true → s.goRuns = true → s.fabric.vloopDue = [] → s.fabric.vloopHeard = [] →
    s.inputFed 49 = true → s.f F.PMB_CMD_PROTOCOL 0 = 3 → s.f F.PMB_CTRL_PEC 0 = 0 → s.periph.pmb.rx.length < 32 →
    Runs (.peripheralDone (.pmbDone [b])) s fun t =>
      t.periph.pmb = { s.periph.pmb with rx := s.periph.pmb.rx ++ [b] } ∧
      SentOut s t [.serial .pmb [BitVec.ofNat 32 (2 * s.f F.PMB_CMD_ADDR 0), BitVec.ofNat 32 (s.f F.PMB_CMD_CODE 0),
        BitVec.ofNat 32 (2 * s.f F.PMB_CMD_ADDR 0 + 1)]] ∧
      t.time = (s.advanceTo (s.periph.pmb.since + BitVec.ofNat 64 (36 * busBit (s.f F.PMB_CTRL_SPEED 0)))).time ∧
      t.f F.PMB_STATUS_BUSY 0 = 0 ∧ t.f F.PMB_STATUS_DONE 0 = 1 ∧ t.f F.PMB_CMD_GO 0 = 0 ∧
      Kept s t [(.PMB_CMD, 0), (.PMB_STATUS, 0)] [.clock, .periph, .out]) ∧
  (∀ (s : State) (k : Nat), s.ready = true → s.goRuns = true → s.fabric.vloopDue = [] → s.fabric.vloopHeard = [] →
    s.inputFed 49 = true → s.f F.PMB_CMD_PROTOCOL 0 = k → k = 1 ∨ k = 2 →
    Runs (.peripheralDone (.pmbDone [])) s (fun t =>
      t.periph.pmb = { s.periph.pmb with tx := s.periph.pmb.tx.drop k } ∧
      SentOut s t [.serial .pmb ((s.pmbBytes (s.periph.pmb.tx.take k)).map (·.setWidth 32))] ∧ t.f F.PMB_STATUS_DONE 0 = 1 ∧
      Kept s t [(.PMB_CMD, 0), (.PMB_STATUS, 0)] [.clock, .periph, .out]) ∧
    Runs (.peripheralDone .pmbNack) s (fun t =>
      t.f F.PMB_STATUS_NACK 0 = 1 ∧ t.f F.PMB_STATUS_DONE 0 = 1 ∧ t.f F.PMB_STATUS_BUSY 0 = 0) ∧
    Runs (.peripheralDone .pmbBusLow) s (fun t =>
      t.f F.PMB_STATUS_BUS_LOW 0 = 1 ∧ t.f F.PMB_STATUS_DONE 0 = 1 ∧ t.f F.PMB_STATUS_BUSY 0 = 0 ∧
      t.time = (s.advanceTo (s.periph.pmb.since + BitVec.ofNat 64 (35000 * ticksPerUs))).time)) ∧
  (∀ (s : State) (data : Word), s.ready = true →
    Runs (.txdata .pmb data) s fun t =>
      t.periph.pmb.tx = (if s.periph.pmb.tx.length < 32 then s.periph.pmb.tx ++ [data.setWidth 8] else s.periph.pmb.tx) ∧
      t.periph.pmb.rx = s.periph.pmb.rx ∧ Kept s t [(.PMB_STATUS, 0)] [.periph]) ∧
  (∀ s : State, s.ready = true → s.inputLevel 50 true = false →
    Runs .alertSeen s fun t =>
      t.word .PMB_STATUS 0 = changed (s.word .PMB_STATUS 0) [(F.PMB_STATUS_ALERT, 1), (F.PMB_STATUS_ALERT_SEEN, 1)] ∧
      Kept s t [(.PMB_STATUS, 0)] []) ∧
  (∀ s : State, s.ready = true → s.inputLevel 50 true = true →
    Runs .alertSeen s fun t =>
      t.word .PMB_STATUS 0 = changed (s.word .PMB_STATUS 0) [(F.PMB_STATUS_ALERT, 0)] ∧ Kept s t [(.PMB_STATUS, 0)] []) ∧
  (∀ (s : State) (n : Nat), s.ready = true → n < 8 → s.f F.PT_CTRL_OUT_EN n = 1 → (s.pt n).armed = true →
    Runs (.ptCompare n) s fun t =>
      (s.now.toNat < (s.pt n).cmp.toNat → (s.pt n).cmp.toNat + 60 < 2 ^ 63 → s.timeOffset = 0 →
        (s.pt n).cmp.toNat ≤ t.time.toNat ∧ t.time.toNat % s.pinCycle = 0 ∧ t.time.toNat < (s.pt n).cmp.toNat + s.pinCycle) ∧
      t.f F.PT_STATUS_FIRED n = 1 ∧
      (t.pt n).out = (decide (s.f F.PT_CTRL_OUT_MODE n = 2) || decide (s.f F.PT_CTRL_OUT_MODE n = 0) && (t.pt n).out) ∧
      (s.word .PT_PERIOD n = 0 → (t.pt n).armed = false ∧ (t.pt n).cmp = (s.pt n).cmp) ∧
      (s.word .PT_PERIOD n ≠ 0 → (t.pt n).armed = true ∧ (t.pt n).cmp = (s.pt n).cmp + (s.word .PT_PERIOD n).setWidth 64) ∧
      t.word .PT_CMP_HI n ++ t.word .PT_CMP_LO n = (t.pt n).cmp ∧
      (∀ m, m ≠ n → t.pt m = s.pt m) ∧
      Kept s t [(.PT_CMP_LO, n), (.PT_CMP_HI, n), (.PT_STATUS, n)] [.clock, .periph]) ∧
  (∀ (s : State) (n : Nat), s.ready = true → n < 8 → s.f F.PT_CTRL_OUT_EN n = 1 → (s.pt n).armed = true →
    s.f F.PT_CTRL_OUT_MODE n = 0 → s.now.toNat = (s.pt n).cmp.toNat → s.time.toNat % s.pinCycle = 0 → (s.pt n).pulseEnd = none →
    Runs (.ptCompare n) s fun t => t.time = s.time ∧ (t.pt n).out = !(s.pt n).out) ∧
  (∀ (s : State) (n : Nat) (level : Bool), s.ready = true → n < 8 → s.f F.PT_CTRL_CAP_EN n = 1 →
    s.inputLevel (0x50 + n) false = level → (s.pt n).seen = (!level) →
    s.f F.PT_CTRL_CAP_EDGE n = 2 ∨ s.f F.PT_CTRL_CAP_EDGE n = 0 ∧ level = true ∨ s.f F.PT_CTRL_CAP_EDGE n = 1 ∧ level = false →
    Runs (.ptCapture n) s fun t =>
      t.time = (s.advanceTo (s.nextCycle s.time)).time ∧
      t.word .PT_CAP_HI n ++ t.word .PT_CAP_LO n = t.now ∧ t.f F.PT_STATUS_CAPTURED n = 1 ∧
      (s.f F.PT_STATUS_CAPTURED n = 1 → t.f F.PT_STATUS_CAP_OVERRUN n = 1) ∧
      t.pt n = { s.pt n with seen := level } ∧ (∀ m, m ≠ n → t.pt m = s.pt m) ∧
      Kept s t [(.PT_CAP_LO, n), (.PT_CAP_HI, n), (.PT_STATUS, n)] [.clock, .periph]) ∧
  (∀ (s : State) (n : Nat) (level : Bool), s.ready = true → n < 8 → s.f F.PT_CTRL_CAP_EN n = 1 →
    s.inputLevel (0x50 + n) false = level → (s.pt n).seen = (!level) →
    s.f F.PT_CTRL_CAP_EDGE n = 0 ∧ level = false ∨ s.f F.PT_CTRL_CAP_EDGE n = 1 ∧ level = true →
    Runs (.ptCapture n) s fun t => t.pt n = { s.pt n with seen := level } ∧ Kept s t [] [.periph])

-- ------------------------------------------------------------------ debug and trace

/-- Run control: a halt stops a core at once or when its access ends, RESUME lets it run on, STEP does one instruction;
CORE_REG_DATA and CORE_MEM_DATA reach a halted core's registers and memory; writes are refused while LOCKED or of a core that
runs; a matching comparator counts its hit and acts (R420, R425, R429). Completes: haltCore, resumeCore, singleStep,
coreRegData, coreMemData, memData, comparatorMatch. -/
def Obligations.RunControl : Prop :=
  (∀ (s : State) (who : Who) (n : Nat), s.ready = true → s.coreRuns n = true → s.coreStalled n = false →
    s.dbgBarred who .DBG_CORE_RC = none → s.xtTakes [n] = [] →
    Runs (.haltCore n (.request who)) s fun t =>
      t.word .DBG_CORE_RC n = changed (s.word .DBG_CORE_RC n) [(F.DBG_CORE_RC_HALTED, 1), (F.DBG_CORE_RC_CAUSE, 1)] ∧
      t.f F.DBG_STATUS_HALTED 0 = 1 ∧ (t.f F.DBG_STATUS_CORES_HALTED 0).testBit n = true ∧
      (t.core n) = { s.core n with reserve := none } ∧
      Kept s t [(.DBG_CORE_RC, n), (.DBG_STATUS, 0)] [.seq, .dbg, .out]) ∧
  (∀ (s : State) (n : Nat) (pc : Word), s.ready = true → s.coreRuns n = true → s.coreStalled n = false →
    s.f F.DBG_CORE_RC_EBREAK_HALT n = 1 → s.xtTakes [n] = [] →
    Runs (.haltCore n (.ebreak pc)) s fun t =>
      t.word .DBG_CORE_RC n = changed (s.word .DBG_CORE_RC n) [(F.DBG_CORE_RC_HALTED, 1), (F.DBG_CORE_RC_CAUSE, 5)] ∧
      (t.core n) = { s.core n with reserve := none, pc := pc } ∧
      Kept s t [(.DBG_CORE_RC, n), (.DBG_STATUS, 0)] [.seq, .dbg, .out]) ∧
  (∀ (s : State) (who : Who) (n : Nat), s.ready = true → s.coreRuns n = true → s.coreStalled n = true →
    s.dbgBarred who .DBG_CORE_RC = none → s.xtTakes [] = [] →
    Runs (.haltCore n (.request who)) s fun t =>
      t.dbg = { s.dbg with haltDue := Sparse.insert s.dbg.haltDue n 1 } ∧ Kept s t [] [.dbg]) ∧
  (∀ (s : State) (who : Who) (n : Nat), s.ready = true → s.corePresent n = true → s.f F.DBG_CORE_RC_HALTED n = 1 →
    s.dbgBarred who .DBG_CORE_RC = none →
    Runs (.resumeCore who n) s (fun t =>
      t.f F.DBG_CORE_RC_HALTED n = 0 ∧ (t.f F.DBG_STATUS_CORES_HALTED 0).testBit n = false ∧
      t.core n = s.core n ∧ Kept s t [(.DBG_CORE_RC, n), (.DBG_STATUS, 0)] [.dbg, .out]) ∧
    ∀ (r : Nat) (v pc : Word), 0 < r → r < 32 → s.xtTakes [n] = [] →
      Runs (.singleStep who n ⟨[(r, v)], [], pc⟩) s fun t =>
        t.f F.DBG_CORE_RC_HALTED n = 1 ∧ t.f F.DBG_CORE_RC_CAUSE n = 4 ∧ t.coreX n r = v ∧ (t.core n).pc = pc ∧
        (∀ q, q < 32 → q ≠ r → t.coreX n q = s.coreX n q) ∧
        Kept s t [(.DBG_CORE_RC, n), (.DBG_STATUS, 0)] [.seq, .dbg, .out]) ∧
  (∀ (s : State) (who : Who) (n r : Nat) (v : Word), s.ready = true → s.corePresent n = true → s.f F.DBG_CORE_RC_HALTED n = 1 →
    s.dbgBarred who .DBG_CORE_REG_DATA = none →
    (s.f F.DBG_CORE_REG_SEL_SEL n = 0x1000 + r → 0 < r → r < 32 →
      Runs (.coreRegData who n (some v)) s fun t =>
        t.coreX n r = v ∧ (∀ q, q < 32 → q ≠ r → t.coreX n q = s.coreX n q) ∧ Kept s t [] [.seq]) ∧
    (s.f F.DBG_CORE_REG_SEL_SEL n = r → r < 0xC00 →
      Runs (.coreRegData who n (some v)) s fun t =>
        t.coreCsr n r = v ∧ (∀ q, q ≠ r → t.coreCsr n q = s.coreCsr n q) ∧ Kept s t [] [.seq]) ∧
    (s.f F.DBG_CORE_REG_SEL_SEL n = 0x1020 →
      Runs (.coreRegData who n (some v)) s fun t => t.core n = { s.core n with pc := v } ∧ Kept s t [] [.seq]) ∧
    Runs (.coreRegData who n none) s (fun t => Kept s t [] [])) ∧
  (∀ (s : State) (who : Who) (n : Nat) (v : Word), s.ready = true → s.corePresent n = true → s.f F.DBG_CORE_RC_HALTED n = 0 →
    s.dbg.locked = false → 1 ≤ who.origin.toNat → who.origin.toNat ≤ 3 →
    Runs (.coreRegData who n (some v)) s (fun t =>
      Refused s t F.DBG_STATUS_REFUSED 0 who .command .DBG_CORE_REG_DATA n v.toNat) ∧
    Runs (.coreMemData who n (some v)) s (fun t =>
      Refused s t F.DBG_STATUS_REFUSED 0 who .command .DBG_CORE_MEM_DATA n v.toNat)) ∧
  (∀ (s : State) (who : Who) (n : Nat) (v : Word), s.ready = true → s.corePresent n = true → s.dbg.locked = true →
    Runs (.haltCore n (.request who)) s (fun t => Refused s t F.DBG_STATUS_REFUSED 0 who .debugLocked .DBG_CORE_RC n 1) ∧
    Runs (.resumeCore who n) s (fun t => Refused s t F.DBG_STATUS_REFUSED 0 who .debugLocked .DBG_CORE_RC n 2) ∧
    Runs (.singleStep who n ⟨[], [], 0⟩) s (fun t => Refused s t F.DBG_STATUS_REFUSED 0 who .debugLocked .DBG_CORE_RC n 4) ∧
    Runs (.coreRegData who n (some v)) s (fun t =>
      Refused s t F.DBG_STATUS_REFUSED 0 who .debugLocked .DBG_CORE_REG_DATA n v.toNat) ∧
    Runs (.memData who (some v)) s (fun t => Refused s t F.DBG_STATUS_REFUSED 0 who .debugLocked .DBG_MEM_DATA 0 v.toNat) ∧
    Runs (.xtFire who v) s (fun t => Refused s t F.DBG_STATUS_REFUSED 0 who .debugLocked .DBG_XT_FIRE 0 v.toNat) ∧
    Runs (.xtClear who v) s (fun t => Refused s t F.DBG_STATUS_REFUSED 0 who .debugLocked .DBG_XT_CLEAR 0 v.toNat) ∧
    Runs (.dbgReset (some who)) s (fun t => Refused s t F.DBG_STATUS_REFUSED 0 who .debugLocked .DBG_CTRL 0 2)) ∧
  (∀ (s : State) (who : Who) (n : Nat) (v : Word), s.ready = true → s.corePresent n = true → s.f F.DBG_CORE_RC_HALTED n = 1 →
    s.dbgBarred who .DBG_CORE_MEM_DATA = none → s.dbg.memPort = [] → regionOf (s.word .DBG_CORE_MEM_ADDR n).toNat = .sram →
    (s.word .DBG_CORE_MEM_ADDR n).toNat % 4 = 0 →
    Runs (.coreMemData who n (some v)) s (fun t =>
      t.localWord n (s.word .DBG_CORE_MEM_ADDR n).toNat = v ∧
      t.word .DBG_CORE_MEM_ADDR n = s.word .DBG_CORE_MEM_ADDR n + 4 ∧ Kept s t [(.DBG_CORE_MEM_ADDR, n)] [.seq, .dbg]) ∧
    Runs (.coreMemData who n none) s (fun t =>
      t.word .DBG_CORE_MEM_ADDR n = s.word .DBG_CORE_MEM_ADDR n + 4 ∧ Kept s t [(.DBG_CORE_MEM_ADDR, n)] [.dbg])) ∧
  (∀ (s : State) (who : Who) (d a tag : Nat), s.ready = true → s.dbg.memPort = [] →
    s.sendsAt 0x9A d tag s.debugAsk = true → s.pair .DBG_MEM_ADDR_LO .DBG_MEM_ADDR_HI 0 % 2 ^ 48 = a →
    decodeAddr s.part a = .ni d → a % 4 = 0 →
    Runs (.memData who none) s fun t =>
      t.dbg.memPort = [⟨4, none, who, false, .none⟩] ∧
      Sent s t { s.postedFrom 0x9A d a [] with
        cmd := .rd, tag := tag, len := 3, beFirst := 0, beLast := 0
        attr := (s.postedFrom 0x9A d a []).attr ||| BitVec.ofNat 8 (s.f F.DBG_MEM_CTRL_DBG_ATTR 0) } ∧
      (t.ni 0x9A).outstanding = (s.ni 0x9A).outstanding ++ [⟨tag, d, .rd, a, 3, .debug 4, s.time, 0, none⟩] ∧
      OtherNis s t 0x9A ∧ Kept s t (statRegs 0x9A) [.dbg, .net]) ∧
  (∀ (s : State) (n c : Nat) (i : Insn), s.ready = true → s.coreRuns n = true → s.coreStalled n = false → c < 8 →
    (∀ k, k < 8 → k ≠ c → s.f F.DBG_CMP_CTRL_EN (8 * n + k) = 0) → s.f F.DBG_CMP_CTRL_EN (8 * n + c) = 1 →
    s.f F.DBG_CMP_CTRL_TYPE (8 * n + c) = 0 → s.f F.DBG_CMP_CTRL_LINK (8 * n + c) = 0 →
    (c = 0 ∨ s.f F.DBG_CMP_CTRL_LINK (8 * n + c - 1) = 0) →
    (s.word .DBG_CMP_A (8 * n + c)).toNat ≤ i.pc.toNat → i.pc.toNat < (s.word .DBG_CMP_B (8 * n + c)).toNat →
    s.xtTakes [n] = [] → s.xtTakes [] = [] →
    Runs (.comparatorMatch n i) s fun t =>
      t.f F.DBG_CMP_CTRL_HIT (8 * n + c) = 1 ∧ t.f F.DBG_CMP_CTRL_HITS (8 * n + c) = s.counted F.DBG_CMP_CTRL_HITS (8 * n + c) 1 ∧
      (t.core n).pc = i.pc ∧
      (s.f F.DBG_CMP_CTRL_ACTION (8 * n + c) = 1 → t.f F.DBG_CORE_RC_HALTED n = 1 ∧ t.f F.DBG_CORE_RC_CAUSE n = 2) ∧
      (s.f F.DBG_CMP_CTRL_ACTION (8 * n + c) = 0 ∨ s.f F.DBG_CMP_CTRL_ACTION (8 * n + c) = 3 →
        t.f F.DBG_CORE_RC_HALTED n = 0) ∧
      (s.f F.DBG_CMP_CTRL_ACTION (8 * n + c) ≠ 2 →
        Kept s t [(.DBG_CMP_CTRL, 8 * n + c), (.DBG_CORE_RC, n), (.DBG_STATUS, 0)] [.seq, .dbg, .out]))

/-- The cross-trigger, stimulus ports and the trace: a channel that an input or XT_FIRE fires does what its OUT says, XT_CLEAR
re-arms it; a stimulus write makes a STIM packet, waits for room, or is counted as dropped (R431, R434, R435, R436).
Completes: crossTriggerFire, xtFire, xtClear, stim, stimStallExpire. -/
def Obligations.CrossTriggerAndTrace : Prop :=
  (∀ (s : State) (i k : Nat), s.ready = true → i < 8 → k < 2 → s.f F.DBG_XT_CTRL_FIRED k = 0 → s.f F.DBG_XT_CTRL_FIRED (1 - k) = 1 →
    (s.f F.DBG_XT_CTRL_IN k).testBit i = true → (s.f F.DBG_XT_CTRL_OUT k).testBit 3 = false →
    Runs (.crossTriggerFire i) s fun t => ChannelFires s t k) ∧
  (∀ (s : State) (who : Who) (k : Nat), s.ready = true → k < 2 → s.f F.DBG_XT_CTRL_FIRED k = 0 → s.f F.DBG_XT_CTRL_FIRED (1 - k) = 1 →
    s.dbgBarred who .DBG_XT_FIRE = none → (s.f F.DBG_XT_CTRL_OUT k).testBit 3 = false →
    Runs (.xtFire who (BitVec.ofNat 32 (2 ^ k))) s fun t => ChannelFires s t k) ∧
  (∀ (s : State) (who : Who) (data : Word), s.ready = true → s.dbgBarred who .DBG_XT_CLEAR = none →
    Runs (.xtClear who data) s fun t =>
      (∀ k, k < 2 → t.f F.DBG_XT_CTRL_FIRED k = (if data.getLsbD k then 0 else s.f F.DBG_XT_CTRL_FIRED k)) ∧
      (∀ n, niPresent s.part n = true →
        t.f F.NI_STAT_CTRL_FREEZE n = (if data.getLsbD 2 then 0 else s.f F.NI_STAT_CTRL_FREEZE n)) ∧
      Kept s t (allOf [.DBG_XT_CTRL] 2 ++ allOf [.NI_STAT_CTRL] 0xA0) []) ∧
  (∀ (s : State) (p : Nat) (data : Word), s.ready = true → p < 32 →
    (s.f F.DBG_TRACE_CTRL_EN 0 = 0 ∨ s.dbg.locked = true ∨ (s.word .DBG_STIM_EN 0).getLsbD p = false →
      Runs (.stim p data) s fun t =>
        t.f F.DBG_TRACE_STATUS_STIM_DROPS 0 = s.counted F.DBG_TRACE_STATUS_STIM_DROPS 0 1 ∧
        Kept s t [(.DBG_TRACE_STATUS, 0)] []) ∧
    (s.f F.DBG_TRACE_CTRL_EN 0 = 1 → s.dbg.locked = false → (s.word .DBG_STIM_EN 0).getLsbD p = true →
      s.dbg.trace = [] → s.dbg.traceLost = 0 → s.dbg.traceSync < 4096 → (s.now - s.dbg.traceTime).toNat ≤ 0xFFFF →
      Runs (.stim p data) s fun t =>
        t.dbg.trace = 0x27#8 :: toBytes 2 (s.now - s.dbg.traceTime).toNat ++ BitVec.ofNat 8 p :: toBytes 4 data.toNat ∧
        t.dbg.traceTime = s.now ∧ Kept s t [] [.dbg]) ∧
    (s.f F.DBG_TRACE_CTRL_EN 0 = 1 → s.dbg.locked = false → (s.word .DBG_STIM_EN 0).getLsbD p = true →
      (s.word .DBG_STIM_STALL 0).getLsbD p = true → s.dbg.trace.length = 16384 → s.dbg.traceAt = s.time →
      Runs (.stim p data) s fun t =>
        t.dbg = { s.dbg with stimWaits := s.dbg.stimWaits ++ [⟨p, data, s.time, none⟩] } ∧ Kept s t [] [.dbg])) ∧
  (∀ (s : State) (w : StimWait), s.ready = true → s.dbg.stimWaits = [w] → w.run = none →
    s.f F.DBG_TRACE_CTRL_EN 0 = 0 ∨ s.dbg.locked = true →
    Runs .stimStallExpire s fun t =>
      (s.time.toNat < (w.since + 6000).toNat → t.time = w.since + 6000) ∧ t.dbg = { s.dbg with stimWaits := [] } ∧
      t.f F.DBG_TRACE_STATUS_STIM_DROPS 0 = s.counted F.DBG_TRACE_STATUS_STIM_DROPS 0 1 ∧
      Kept s t [(.DBG_TRACE_STATUS, 0)] [.clock, .dbg])

/-- The TAP and authorization: an instruction is selected, refused while LOCKED, or BYPASS; DBG resets, LOCK, the end of an
unlock erase, GOLD_PROG's commands, and reads and writes by DBG_ACCESS (R414, R416, R417, R418, R421, R422, R424). Completes:
irUpdate, testLogicReset, dbgReset, lockDebug, eraseDone, goldProg, dbgAccess. -/
def Obligations.DebugPort : Prop :=
  (∀ (s : State) (c : BitVec 8), s.ready = true → s.boundaryHas = false →
    (c = 1 ∨ c = 2 ∨ c = 0x10 ∨ s.dbg.locked = false ∧ (c = 0x11 ∨ c = 0x12) →
      Runs (.irUpdate c) s fun t => t.dbg = { s.dbg with ir := c, irRefused := false } ∧ Kept s t [] [.dbg]) ∧
    (4 < c.toNat ∧ c.toNat < 0x10 ∨ 0x12 < c.toNat →
      Runs (.irUpdate c) s fun t => t.dbg = { s.dbg with ir := 0xFF, irRefused := false } ∧ Kept s t [] [.dbg]) ∧
    (s.dbg.locked = true → c = 0 ∨ c = 3 ∨ c = 4 ∨ c = 0x11 ∨ c = 0x12 →
      Runs (.irUpdate c) s fun t => t.dbg = { s.dbg with ir := 0xFF, irRefused := true } ∧ Kept s t [] [.dbg]) ∧
    (s.dbg.locked = false → c = 0 ∨ c = 3 ∨ c = 4 →
      Runs (.irUpdate c) s fun t =>
        t.dbg.ir = c ∧ t.dbg.irRefused = false ∧ t.boundaryHas = true ∧ DebugEntered s t 0x02 4 ∧
        Kept s t [] [.dbg, .fresh, .ledger]) ∧
    Runs .testLogicReset s (fun t => t.dbg = { s.dbg with ir := 2, irRefused := false } ∧ Kept s t [] [.dbg])) ∧
  (∀ (s : State) (who : Who), s.ready = true → s.boundaryHas = false →
    Runs (.dbgReset none) s (fun t =>
      AtReset t (fun r _ => (regSpec r).domain == .DBG) ∧ t.dbg.ir = 2 ∧ t.dbg.memPort = [] ∧ t.dbg.haltDue = [] ∧
      t.dbg.trace = [] ∧ t.dbg.stimWaits = [] ∧ t.dbg.accessRunning = false ∧ t.dbg.locked = s.dbg.locked ∧
      t.dbg.erasing = s.dbg.erasing ∧ KeptByDebug s t [.dbg]) ∧
    Runs (.lockDebug who) s (fun t =>
      t.dbg.locked = true ∧ AtReset t (fun r _ => (regSpec r).domain == .DBG) ∧ t.dbg.ir = 2 ∧
      DebugEntered s t who.origin 1 ∧ KeptByDebug s t [.dbg, .fresh, .ledger])) ∧
  (∀ (s : State) (who : Who), s.ready = true → s.boundaryHas = false → s.dbg.locked = false →
    Runs (.dbgReset (some who)) s fun t =>
      AtReset t (fun r _ => (regSpec r).domain == .DBG) ∧ t.dbg.ir = 2 ∧ KeptByDebug s t [.dbg]) ∧
  (∀ (s : State), s.ready = true → s.dbg.erasing = true → s.dbg.waiting = true → 8 ∉ s.power.outOfRange →
    s.f F.DBG_CTRL_HOLD_CFG 0 = 0 → 2 ≤ s.dev.bootSrc.toNat →
    Runs .eraseDone s fun t =>
      t.dbg = { s.dbg with locked := false, erasing := false, waiting := false } ∧ t.f F.DBG_STATUS_UNLOCKED 0 = 1 ∧
      t.f F.CFG_STATUS_STATE 0 = 6 ∧ t.cfg.bootWaiting = true ∧ t.seq.tcm = [] ∧ t.seq.sram = [] ∧
      (∀ a, t.nvByte a = (if slotBase 1 ≤ a ∧ a < slotBase 7 ∨ firmwareArea ≤ a ∧ a < firmwareArea + 0x400000 ∨
        calibrationArea ≤ a ∧ a < calibrationArea + 0x200000 then 0 else s.nvByte a)) ∧
      DebugEntered s t s.ownOrigin 3 ∧ Kept s t [(.DBG_STATUS, 0), (.CFG_STATUS, 0)] [.dbg, .cfg, .seq, .fresh, .ledger]) ∧
  (∀ (s : State) (cmd : Word), s.ready = true → s.dbg.ir = 0x12 →
    (s.dbg.waiting = true → s.dbg.locked = false → s.dbg.erasing = false → s.loading = false →
      (cmd = 1 → Runs (.goldProg cmd) s fun t =>
        t.cfg.load = some (newLoad (.slot 0) 4 0 ⟨0x02, 0xFF⟩) ∧ t.f F.CFG_STATUS_BUSY 0 = 1) ∧
      (cmd = 2 → Runs (.goldProg cmd) s fun t =>
        t.repair.retired = [] ∧ t.f F.REPAIR_RETIRED_COUNT 0 = 0 ∧ DebugEntered s t 0x02 6 ∧
        Kept s t [(.REPAIR_RETIRED, 0)] [.repair, .fresh, .ledger]) ∧
      (cmd = 3 → Runs (.goldProg cmd) s fun t =>
        t.hbm = { s.hbm with repaired := [] } ∧ DebugEntered s t 0x02 7 ∧ Kept s t [] [.hbm, .fresh, .ledger]) ∧
      (cmd = 0 ∨ 3 < cmd.toNat → Runs (.goldProg cmd) s fun t =>
        t.dbg = { s.dbg with irRefused := true } ∧ Kept s t [] [.dbg])) ∧
    (s.dbg.waiting = false ∨ s.dbg.locked = true ∨ s.dbg.erasing = true ∨ s.loading = true →
      Runs (.goldProg cmd) s fun t => t.dbg = { s.dbg with irRefused := true } ∧ Kept s t [] [.dbg])) ∧
  (∀ (s : State) (k : Nat) (v : Word), s.jtagFree = true → k < 8 * Part.cores s.part →
    s.csrBlocked (csrOffset .DBG_CMP_A k) = none →
    Runs (.dbgAccess (BitVec.ofNat 64 (2 ^ 62 + 2 ^ 32 * csrOffset .DBG_CMP_A k + v.toNat))) s (fun t =>
      t.word .DBG_CMP_A k = v ∧ t.dbg.accessDone = true ∧ t.dbg.accessError = false ∧ t.dbg.accessRunning = false ∧
      Kept s t [(.DBG_CMP_A, k)] [.dbg, .ledger]) ∧
    Runs (.dbgAccess (BitVec.ofNat 64 (2 ^ 61 + 2 ^ 32 * csrOffset .DBG_CMP_A k + v.toNat))) s (fun t =>
      t.dbg = { s.dbg with accessData := s.word .DBG_CMP_A k, accessDone := true, accessError := false, accessErr := 0 } ∧
      Kept s t [] [.dbg]) ∧
    Runs (.dbgAccess (BitVec.ofNat 64 (2 ^ 61 + 2 ^ 62))) s (fun t =>
      t.dbg = { s.dbg with accessDone := true, accessError := true, accessErr := 0 } ∧ Kept s t [] [.dbg])) ∧
  (∀ (s : State) (k : Nat) (v : Word), s.ready = true → s.dbg.ir = 0x10 →
    (s.dbg.accessRunning = true → Runs (.dbgAccess (BitVec.ofNat 64 (2 ^ 62 + 2 ^ 32 * k + v.toNat))) s fun t =>
      t.dbg = { s.dbg with accessError := true } ∧ Kept s t [] [.dbg]) ∧
    (s.dbg.accessRunning = false → s.dbg.locked = true → k < 32 →
      Runs (.dbgAccess (BitVec.ofNat 64 (2 ^ 62 + 2 ^ 32 * csrOffset .DBG_CMP_A k + v.toNat))) s fun t =>
        t.dbg = { s.dbg with accessDone := true, accessError := true, accessErr := 0 } ∧
        Refused s { t with dbg := s.dbg } F.DBG_STATUS_REFUSED 0 jtagWho .debugLocked .DBG_CMP_A k v.toNat))

-- ------------------------------------------------------------------ the ledger

/-- The ledger: its scan makes the POWER_ON entry, a commit moves the oldest entry of the buffer to the ring, a page that
fails is left out, a GAP entry tells what was lost (R443, R444, R445). Completes: ledgerCommit, ledgerScanDone. -/
def Obligations.LedgerCommands : Prop :=
  (∀ (s : State) (e : Entry) (rest : List Entry), s.ready = true → s.commits = true → s.ledger.buffer = e :: rest →
    s.ledger.badPages = [] → s.ledger.lostUntold = 0 → s.ledger.ringPos < 524288 →
    Runs (.ledgerCommit true) s fun t =>
      t.ledger.buffer = rest ∧ t.ledger.ring = Sparse.insert s.ledger.ring s.ledger.ringPos e ∧
      t.ledger.ringPos = (s.ledger.ringPos + 1) % 524288 ∧ t.ledger.commitSeq = e.seq ∧ t.ledger.headSeq = s.ledger.headSeq ∧
      Kept s t [] [.ledger]) ∧
  (∀ (s : State) (e : Entry) (rest : List Entry) (n : Nat), s.ready = true → s.commits = true → s.ledger.buffer = e :: rest →
    rest.length < 4096 → s.ledger.lostUntold = n → 0 < n → n < 2 ^ 32 →
    Runs (.ledgerCommit true) s fun t =>
      (∃ seq time, t.ledger.buffer = rest ++ [⟨seq, 0x30, 0x0D, 0, time, 0, 0, BitVec.ofNat 32 n, 0⟩]) ∧
      t.ledger.lostUntold = 0 ∧ t.ledger.lost = s.ledger.lost ∧ Kept s t [] [.ledger]) ∧
  (∀ (s : State) (e : Entry) (rest : List Entry), s.ready = true → s.commits = true → s.ledger.buffer = e :: rest →
    s.ledger.badPages = [] → s.ledger.lostUntold = 0 → s.ledger.ringPos < 524160 → s.ledger.ringPos % 128 = 0 →
    Runs (.ledgerCommit false) s fun t =>
      t.ledger.badPages = [s.ledger.ringPos / 128] ∧ t.ledger.commitFault = true ∧ t.ledger.buffer = rest ∧
      t.ledger.ringPos = s.ledger.ringPos + 129 ∧ t.ledger.commitSeq = e.seq ∧ Kept s t [] [.ledger]) ∧
  (∀ s : State, s.ready = true → s.commits = false ∨ s.ledger.buffer = [] →
    Runs (.ledgerCommit true) s (fun t => Kept s t [] []) ∧ Runs (.ledgerCommit false) s (fun t => Kept s t [] [])) ∧
  (∀ (s : State) (torn : Nat), s.ready = true → s.ledger.ready = false → s.power.held = true →
    Runs (.ledgerScanDone torn) s fun t =>
      t.ledger.ready = true ∧ t.ledger.torn = decide (torn ≠ 0) ∧
      t.ledger.buffer = ⟨if s.ledger.ring = [] then 0 else s.ledger.commitSeq + 1, 0x40, 0x09, if s.ledger.ring = [] then 1 else 0,
        t.now, 0, if s.ledger.ring = [] then 0xFFFFFFFF else s.ledger.commitSeq, s.word .DEV_RESET_CAUSE 0, BitVec.ofNat 32 torn⟩ ::
        numberFrom ((if s.ledger.ring = [] then 0 else s.ledger.commitSeq + 1) + 1) s.ledger.buffer ∧
      t.ledger.headSeq = (if s.ledger.ring = [] then 0 else s.ledger.commitSeq + 1) + BitVec.ofNat 32 s.ledger.buffer.length ∧
      t.time = (s.advanceTo 1575000).time ∧ Kept s t [] [.clock, .ledger]) ∧
  (∀ (s : State) (torn : Nat), s.ready = true → s.ledger.ready = false → s.power.held = false → s.repair.retired = [] →
    Runs (.ledgerScanDone torn) s fun t =>
      t.ledger.ready = true ∧ t.f F.CFG_STATUS_STATE 0 = 1 ∧ t.repair.testFrom = t.time ∧ t.time = (s.advanceTo 1575000).time ∧ t.repair.lowRate = 0 ∧
      t.repair.sliced = [])

-- ------------------------------------------------------------------ the machine

/-- A step takes the command at the front of the queue and answers what that command does with the queue's rest; an empty
queue lets a tick pass (assumption 137). -/
def Obligations.StepTakesFront : Prop :=
  (∀ (c : Instr) (s : State) (rest : List Instr), step { s with pending := c :: rest } = exec c { s with pending := rest }) ∧
  (∀ s : State, s.pending = [] → step s = .next s.tick) ∧
  (∀ s : State, s.dev.porst = true → s.tick = s) ∧ (∀ s : State, s.tick.pending = s.pending ∧ s.tick.part = s.part)

/-- Every command answers a next state, in every state: none faults and none is refused by the model. It leaves the part and
the queue as they are. -/
def Obligations.CommandsComplete : Prop :=
  ∀ (c : Instr) (s : State), ∃ t, exec c s = .next t ∧ t.part = s.part ∧ t.pending = s.pending

/-- After every step PORST_N holds the part, or events are delivered: EVT_PEND shows the groups pending, unmasked groups have
sent their message, the levels reach the cores, and watchdogs pause as they should (R34, R35, R380, R382). -/
def Obligations.EventsStayDelivered : Prop :=
  ∀ s t : State, s.dev.porst = true ∨ EventsOut s → step s = .next t → t.dev.porst = true ∨ EventsOut t

/-- The state after reset: PORST_N is low, every register is at its Reset value (those the spec leaves open as the assumption
log names them), nothing is stored and nothing waits. -/
def Obligations.ResetState : Prop :=
  State.reset.dev.porst = true ∧ (State.reset.dev.porst = true ∨ EventsOut State.reset) ∧ State.reset.wf = true ∧
  State.reset.pending = [] ∧ State.reset.calm = true ∧ AtReset State.reset (fun _ _ => true) ∧ State.reset.time = 0 ∧
  State.reset.hbm.bytes = [] ∧ State.reset.cfg.frames = [] ∧ State.reset.net.nis = [] ∧ State.reset.net.routers = [] ∧ State.reset.net.ended = [] ∧ State.reset.beam.flight = [] ∧
  State.reset.word .PWR_VLOOP_LIMITS 0 = 0x03840258#32

/-- The groups pending are those of which a register holds an event bit, or the ledger or the system watchdog's warning does;
codes 21 to 31 are never pending (R34). -/
def Obligations.EventGroups : Prop :=
  (∀ (s : State) (g : Nat), 21 ≤ g → s.groups.getLsbD g = false) ∧
  (∀ (s : State) (g : Nat), s.wf = true → g < 21 → (s.groups.getLsbD g = true ↔
    (∃ r i, (eventBits r).1 = g ∧ s.holdsEvent r i = true) ∨
    (g = 3 ∧ (s.ledger.commitFault || s.ledger.gap || s.ledger.torn) = true) ∨ (g = 10 ∧ s.dev.sysWarning = true)))

/-- The memories and the register file keep their canonical form when a word, byte or frame is written, which then reads back,
and nothing else changes. -/
def Obligations.MemoryForm : Prop :=
  (∀ (s : State) (r : Reg) (i : Nat) (v : Word), s.wf = true →
    (s.setWord r i v).wf = true ∧ (s.setWord r i v).word r i = v ∧
    ∀ q j, (q, j) ≠ (r, i) → (s.setWord r i v).word q j = s.word q j) ∧
  (∀ (s : State) (a : Nat) (b : Byte), s.wf = true →
    (s.setNvByte a b).wf = true ∧ (s.setNvByte a b).nvByte a = b ∧
    ∀ a', a' ≠ a → (s.setNvByte a b).nvByte a' = s.nvByte a') ∧
  (∀ (s : State) (rod frame : Nat) (v : BitVec 4096), s.wf = true → frame < 1024 →
    (s.setFrame rod frame v).wf = true ∧ (s.setFrame rod frame v).frame rod frame = v ∧
    ∀ rod' frame', frame' < 1024 → (rod', frame') ≠ (rod, frame) →
      (s.setFrame rod frame v).frame rod' frame' = s.frame rod' frame') ∧
  (∀ (s : State) (n a : Nat) (v : Word), s.wf = true → n < 4 →
    regionOf a = .itcm ∨ regionOf a = .dtcm ∨ regionOf a = .sram →
    (s.setLocalWord n a v).wf = true ∧ (s.setLocalWord n a v).localWord n a = v ∧
    ∀ a', a' / 4 ≠ a / 4 → (s.setLocalWord n a v).localWord n a' = s.localWord n a')

/-- Key 0x10C6, from any origin, locks the device: what a DBG reset makes of the part, with LOCKED set, and a DEBUG entry
(R421). Completes: lockDebug. -/
def Obligations.LockKey : Prop :=
  ∀ (s u : State) (who : Who), s.ready = true → exec (.dbgReset none) s = .next u →
    Runs (.lockDebug who) s fun t =>
      t.dbg = { u.dbg with locked := true } ∧ (∀ r i, isPend r = false → t.word r i = u.word r i) ∧ t.pins = u.pins ∧
      DebugEntered s t who.origin 1 ∧
      (s.csrBlocked (csrOffset .DBG_AUTH 0) = none →
        ∀ low, low < 65536 → exec (.registerWrite who (csrOffset .DBG_AUTH 0) (BitVec.ofNat 32 (0x10C60000 + low))) s = .next t)

/-- A write to an absent unit or a reserved offset is logged, counted and raises group 0; a read has no such effect (R28).
Completes: registerWrite, dbgAccess. -/
def Obligations.AbsentWrites : Prop :=
  (∀ (s : State) (who : Who) (off : Nat) (data : Word), s.ready = true → s.absentOffset off = true → s.csrBlocked off = none →
    off < 2 ^ 28 →
    Runs (.registerWrite who off data) s fun t =>
      t.f F.DEV_ABSENT_LOG_OFFSET 0 = off ∧ t.f F.DEV_ABSENT_ORIGIN_ORIGIN 0 = who.origin.toNat ∧
      t.f F.DEV_ABSENT_ORIGIN_ABSENT_COUNT 0 = min 0xFFFF (s.f F.DEV_ABSENT_ORIGIN_ABSENT_COUNT 0 + 1) ∧
      t.f F.DEV_STATUS_ABSENT_WRITE 0 = 1 ∧ t.dev.evtPend.getLsbD 0 = true ∧
      Kept s t [(.DEV_ABSENT_LOG, 0), (.DEV_ABSENT_ORIGIN, 0), (.DEV_STATUS, 0)] []) ∧
  (∀ (s : State) (off : Nat), s.jtagFree = true → s.absentOffset off = true → s.csrBlocked off = none → off < 2 ^ 28 →
    Runs (.dbgAccess (BitVec.ofNat 64 (2 ^ 61 + 2 ^ 32 * off))) s fun t =>
      t.dbg.accessData = 0 ∧ t.dbg.accessDone = true ∧ Kept s t [] [.dbg])

/-- A write of VLOOP_LIMITS with VMIN below 600, VMAX above 900 or VMIN above VMAX is refused whole: CFG_REFUSED is set and a
refusal entry made (R69). Any other write is taken. Completes: registerWrite. -/
def Obligations.VoltageLimits : Prop :=
  ∀ (s : State) (who : Who) (data : Word), s.ready = true → s.csrBlocked (csrOffset .PWR_VLOOP_LIMITS 0) = none →
    s.f F.SEQ_GUARD_STATUS_LOCKED 0 = 0 →
    if data.toNat % 4096 < 600 ∨ 900 < data.toNat / 65536 % 4096 ∨ data.toNat / 65536 % 4096 < data.toNat % 4096
    then Runs (.registerWrite who (csrOffset .PWR_VLOOP_LIMITS 0) data) s fun t =>
      Refused s t F.PWR_VLOOP_STATUS_CFG_REFUSED 0 who .encoding .PWR_VLOOP_LIMITS 0 data.toNat
    else Runs (.registerWrite who (csrOffset .PWR_VLOOP_LIMITS 0) data) s fun t =>
      t.word .PWR_VLOOP_LIMITS 0 = changed (s.word .PWR_VLOOP_LIMITS 0)
        [(F.PWR_VLOOP_LIMITS_VMIN, data.toNat % 4096), (F.PWR_VLOOP_LIMITS_VMAX, data.toNat / 65536 % 4096)] ∧
      Kept s t [(.PWR_VLOOP_LIMITS, 0)] [.ledger]

/-- A write of RD_SEQ selects an entry, committed or buffered, whose bytes RD_DATA returns; a SEQ older than OLDEST_SEQ or
newer than HEAD_SEQ reads 0; reading RD_DATA7 advances RD_SEQ, and reads never change the ledger (R448). Completes: rdSeq,
rdData. -/
def Obligations.LedgerReads : Prop :=
  (∀ (s : State) (n : Word), s.ready = true →
    Runs (.rdSeq n) s fun t =>
      t.ledger = { s.ledger with rdSeq := n } ∧ (s.ledger.ready = true → t.ledgerWord .LEDGER_RD_SEQ 0 = n) ∧
      (∀ e : Entry, s.ledger.ready = true → s.ledger.lists e → e.seq = n → (∀ e', s.ledger.lists e' → e'.seq = n → e' = e) →
        (s.ledger.headSeq - n).toNat ≤ (s.ledger.headSeq - s.ledger.oldestSeq).toNat →
        (∀ w, w < 8 → t.ledgerWord .LEDGER_RD_DATA w = e.word w) ∧ (t.ledgerWord .LEDGER_RD_STATUS 0).getLsbD 0 = true) ∧
      (s.ledger.ready = true → (s.ledger.headSeq - s.ledger.oldestSeq).toNat < (s.ledger.headSeq - n).toNat →
        (∀ w, w < 8 → t.ledgerWord .LEDGER_RD_DATA w = 0) ∧ (t.ledgerWord .LEDGER_RD_STATUS 0).getLsbD 0 = false) ∧
      Kept s t [] [.ledger]) ∧
  (∀ (s : State) (w : Nat), s.ready = true → s.ledger.ready = true →
    Runs (.rdData w) s fun t =>
      t.ledger = { s.ledger with rdSeq := if w = 7 then s.ledger.rdSeq + 1 else s.ledger.rdSeq } ∧ Kept s t [] [.ledger])
end

