-- ==== Sys2Proof/Laws/Sparse.lean ====
section
/-! SUPPORT. The laws of sparse maps: a read after a write, the canonical form, and what a write leaves alone. -/

namespace Sys2Proof.Machine

variable {α : Type}

@[simp] theorem Sparse.get_nil (d : α) (k : Nat) : Sparse.get d [] k = d := rfl

theorem Sparse.get_cons (d : α) (k' : Nat) (v : α) (m : Sparse α) (k : Nat) :
    Sparse.get d ((k', v) :: m) k = if k' = k then v else Sparse.get d m k := rfl

/-- What was erased reads as an unlisted key. -/
@[simp] theorem Sparse.get_erase_same (d : α) (m : Sparse α) (k : Nat) : Sparse.get d (Sparse.erase m k) k = d := by
  induction m with
  | nil => rfl
  | cons e m ih =>
    obtain ⟨k', v⟩ := e
    by_cases h : k' = k
    · simp [Sparse.erase, h, ih]
    · simp [Sparse.erase, h, Sparse.get_cons, ih]

/-- Erasing one key leaves the others alone. -/
theorem Sparse.get_erase_other (d : α) (m : Sparse α) {k j : Nat} (h : j ≠ k) :
    Sparse.get d (Sparse.erase m k) j = Sparse.get d m j := by
  induction m with
  | nil => rfl
  | cons e m ih =>
    obtain ⟨k', v⟩ := e
    by_cases h' : k' = k
    · subst h'
      simp [Sparse.erase, ih, Sparse.get_cons, Ne.symm h]
    · simp [Sparse.erase, h', Sparse.get_cons, ih]

/-- A key reads what was inserted at it. -/
@[simp] theorem Sparse.get_insert_same (d : α) (m : Sparse α) (k : Nat) (v : α) :
    Sparse.get d (Sparse.insert m k v) k = v := by
  induction m with
  | nil => simp [Sparse.insert, Sparse.get_cons]
  | cons e m ih =>
    obtain ⟨k', v'⟩ := e
    unfold Sparse.insert
    split
    · simp [Sparse.get_cons]
    · split
      · simp [Sparse.get_cons]
      · rename_i h1 h2
        simp [Sparse.get_cons, Ne.symm h2, ih]

/-- Inserting at one key leaves the others alone. -/
theorem Sparse.get_insert_other (d : α) (m : Sparse α) {k j : Nat} (v : α) (h : j ≠ k) :
    Sparse.get d (Sparse.insert m k v) j = Sparse.get d m j := by
  induction m with
  | nil => simp [Sparse.insert, Sparse.get_cons, Ne.symm h]
  | cons e m ih =>
    obtain ⟨k', v'⟩ := e
    unfold Sparse.insert
    split
    · simp [Sparse.get_cons, Ne.symm h]
    · split
      · rename_i h1 h2
        subst h2
        simp [Sparse.get_cons, Ne.symm h]
      · simp [Sparse.get_cons, ih]

/-- A read after a write. -/
theorem Sparse.get_set [DecidableEq α] (d : α) (m : Sparse α) (k j : Nat) (v : α) :
    Sparse.get d (Sparse.set d m k v) j = if j = k then v else Sparse.get d m j := by
  unfold Sparse.set
  split
  · rename_i h
    by_cases hj : j = k
    · subst hj; simp [h]
    · simp [hj, Sparse.get_erase_other d m hj]
  · by_cases hj : j = k
    · subst hj; simp
    · simp [hj, Sparse.get_insert_other d m v hj]

@[simp] theorem Sparse.get_set_same [DecidableEq α] (d : α) (m : Sparse α) (k : Nat) (v : α) :
    Sparse.get d (Sparse.set d m k v) k = v := by simp [Sparse.get_set]

/-- A write at one key leaves the others alone, whatever they read as when unlisted. -/
theorem Sparse.get_set_other [DecidableEq α] (d d' : α) (m : Sparse α) {k j : Nat} (v : α) (h : j ≠ k) :
    Sparse.get d (Sparse.set d' m k v) j = Sparse.get d m j := by
  unfold Sparse.set
  split
  · exact Sparse.get_erase_other d m h
  · exact Sparse.get_insert_other d m v h

-- ------------------------------------------------------------------ the canonical form

theorem Sparse.wfFrom_mono [DecidableEq α] {d : Nat → α} {lo lo' : Nat} {m : Sparse α} (h : lo' ≤ lo)
    (hm : Sparse.wfFrom d lo m = true) : Sparse.wfFrom d lo' m = true := by
  cases m with
  | nil => rfl
  | cons e m =>
    obtain ⟨k, v⟩ := e
    simp only [Sparse.wfFrom, Bool.and_eq_true, decide_eq_true_eq] at hm ⊢
    exact ⟨⟨le_trans h hm.1.1, hm.1.2⟩, hm.2⟩

/-- Erasing keeps the canonical form. -/
theorem Sparse.wfFrom_erase [DecidableEq α] (d : Nat → α) (k : Nat) (m : Sparse α) :
    ∀ lo, Sparse.wfFrom d lo m = true → Sparse.wfFrom d lo (Sparse.erase m k) = true := by
  induction m with
  | nil => intro lo _; rfl
  | cons e m ih =>
    obtain ⟨k', v⟩ := e
    intro lo h
    simp only [Sparse.wfFrom, Bool.and_eq_true, decide_eq_true_eq] at h
    unfold Sparse.erase
    split
    · exact Sparse.wfFrom_mono (Nat.le_succ_of_le h.1.1) (ih _ h.2)
    · simp only [Sparse.wfFrom, Bool.and_eq_true, decide_eq_true_eq]
      exact ⟨h.1, ih _ h.2⟩

/-- Inserting a value other than the default keeps the canonical form. -/
theorem Sparse.wfFrom_insert [DecidableEq α] (d : Nat → α) (k : Nat) (v : α) (hv : v ≠ d k) (m : Sparse α) :
    ∀ lo, lo ≤ k → Sparse.wfFrom d lo m = true → Sparse.wfFrom d lo (Sparse.insert m k v) = true := by
  induction m with
  | nil => intro lo hk _; simp [Sparse.insert, Sparse.wfFrom, hk, hv]
  | cons e m ih =>
    obtain ⟨k', v'⟩ := e
    intro lo hk h
    simp only [Sparse.wfFrom, Bool.and_eq_true, decide_eq_true_eq] at h
    unfold Sparse.insert
    split
    · simp only [Sparse.wfFrom, Bool.and_eq_true, decide_eq_true_eq]
      exact ⟨⟨hk, hv⟩, ⟨by omega, h.1.2⟩, h.2⟩
    · split
      · rename_i h1 h2
        subst h2
        simp only [Sparse.wfFrom, Bool.and_eq_true, decide_eq_true_eq]
        exact ⟨⟨hk, hv⟩, h.2⟩
      · simp only [Sparse.wfFrom, Bool.and_eq_true, decide_eq_true_eq]
        exact ⟨h.1, ih _ (by omega) h.2⟩

/-- A write keeps the canonical form. -/
theorem Sparse.wf_set [DecidableEq α] (d : Nat → α) (m : Sparse α) (k : Nat) (v : α) (h : Sparse.wf d m = true) :
    Sparse.wf d (Sparse.set (d k) m k v) = true := by
  unfold Sparse.set
  split
  · exact Sparse.wfFrom_erase d k m 0 h
  · rename_i hv
    exact Sparse.wfFrom_insert d k v hv m 0 (Nat.zero_le k) h

/-- Below the lowest listed key every key reads as unlisted. -/
theorem Sparse.wfFrom_get_lt [DecidableEq α] (d : Nat → α) (m : Sparse α) :
    ∀ lo k, Sparse.wfFrom d lo m = true → k < lo → Sparse.get (d k) m k = d k := by
  induction m with
  | nil => intros; rfl
  | cons e m ih =>
    obtain ⟨k', v⟩ := e
    intro lo k h hk
    simp only [Sparse.wfFrom, Bool.and_eq_true, decide_eq_true_eq] at h
    rw [Sparse.get_cons, if_neg (by omega)]
    exact ih _ _ h.2 (by omega)

theorem Sparse.wfFrom_ext [DecidableEq α] (d : Nat → α) (m : Sparse α) :
    ∀ (n : Sparse α) (lo : Nat), Sparse.wfFrom d lo m = true → Sparse.wfFrom d lo n = true →
      (∀ k, Sparse.get (d k) m k = Sparse.get (d k) n k) → m = n := by
  induction m with
  | nil =>
    intro n lo _ hn h
    cases n with
    | nil => rfl
    | cons e n =>
      obtain ⟨k, v⟩ := e
      simp only [Sparse.wfFrom, Bool.and_eq_true, decide_eq_true_eq] at hn
      exact absurd (by simpa [Sparse.get_cons] using (h k).symm) hn.1.2
  | cons e m ih =>
    obtain ⟨k, v⟩ := e
    intro n lo hm hn h
    have hm' := hm
    simp only [Sparse.wfFrom, Bool.and_eq_true, decide_eq_true_eq] at hm
    cases n with
    | nil => exact absurd (by simpa [Sparse.get_cons] using h k) hm.1.2
    | cons e' n =>
      obtain ⟨k', v'⟩ := e'
      have hn' := hn
      simp only [Sparse.wfFrom, Bool.and_eq_true, decide_eq_true_eq] at hn
      have hk : k = k' := by
        rcases Nat.lt_trichotomy k k' with hlt | heq | hgt
        · have := h k
          rw [Sparse.get_cons, if_pos rfl, Sparse.get_cons, if_neg (by omega),
            Sparse.wfFrom_get_lt d n _ k hn.2 (by omega)] at this
          exact absurd this hm.1.2
        · exact heq
        · have := h k'
          rw [Sparse.get_cons, if_neg (by omega), Sparse.wfFrom_get_lt d m _ k' hm.2 (by omega),
            Sparse.get_cons, if_pos rfl] at this
          exact absurd this.symm hn.1.2
      subst hk
      have hv : v = v' := by simpa [Sparse.get_cons] using h k
      subst hv
      rw [ih n (k + 1) hm.2 hn.2]
      intro j
      have := h j
      rw [Sparse.get_cons, Sparse.get_cons] at this
      split at this
      · rename_i hj
        subst hj
        rw [Sparse.wfFrom_get_lt d m _ k hm.2 (by omega), Sparse.wfFrom_get_lt d n _ k hn.2 (by omega)]
      · exact this

/-- Two canonical maps that read alike are equal data. -/
theorem Sparse.wf_ext [DecidableEq α] (d : Nat → α) (m n : Sparse α) (hm : Sparse.wf d m = true)
    (hn : Sparse.wf d n = true) (h : ∀ k, Sparse.get (d k) m k = Sparse.get (d k) n k) : m = n :=
  Sparse.wfFrom_ext d m n 0 hm hn h

end Sys2Proof.Machine
end

