-- ==== Sys2Proof/Laws/Words.lean ====
section
/-! SUPPORT. The laws of registers and fields: reading back what was written, and what a write leaves alone. -/

namespace Sys2Proof.Machine

/-- Reading a field of a word is its bits. -/
theorem fieldOf_testBit (v : Word) (lo w i : Nat) :
    (fieldOf v lo w).testBit i = (decide (i < w) && v.toNat.testBit (lo + i)) := by
  simp [fieldOf, Nat.testBit_mod_two_pow, Nat.testBit_div_two_pow, Nat.add_comm]

theorem fieldOf_lt (v : Word) (lo w : Nat) : fieldOf v lo w < 2 ^ w := Nat.mod_lt _ (Nat.two_pow_pos w)

/-- A word with a field replaced, as arithmetic. -/
theorem withField_toNat (v : Word) {lo w : Nat} (x : Nat) (h : lo + w ≤ 32) :
    (withField v lo w x).toNat =
      v.toNat % 2 ^ lo + (x % 2 ^ w) * 2 ^ lo + v.toNat / 2 ^ (lo + w) * 2 ^ (lo + w) := by
  have hv : v.toNat < 2 ^ 32 := v.isLt
  have h1 : v.toNat = v.toNat / 2 ^ (lo + w) * 2 ^ (lo + w) + fieldOf v lo w * 2 ^ lo + v.toNat % 2 ^ lo := by
    have e1 := Nat.div_add_mod v.toNat (2 ^ lo)
    have e2 := Nat.div_add_mod (v.toNat / 2 ^ lo) (2 ^ w)
    have e3 : v.toNat / 2 ^ lo / 2 ^ w = v.toNat / 2 ^ (lo + w) := by rw [Nat.div_div_eq_div_mul, ← Nat.pow_add]
    rw [e3] at e2
    have e4 : 2 ^ (lo + w) = 2 ^ w * 2 ^ lo := by rw [Nat.pow_add, Nat.mul_comm]
    unfold fieldOf
    rw [e4, ← Nat.mul_assoc, ← Nat.add_mul, Nat.mul_comm (v.toNat / (2 ^ w * 2 ^ lo)) (2 ^ w), ← e4, e2,
      Nat.mul_comm (v.toNat / 2 ^ lo) (2 ^ lo)]
    exact e1.symm
  have hx : x % 2 ^ w < 2 ^ w := Nat.mod_lt _ (Nat.two_pow_pos w)
  have hlo : v.toNat % 2 ^ lo < 2 ^ lo := Nat.mod_lt _ (Nat.two_pow_pos lo)
  have hsum : v.toNat - fieldOf v lo w * 2 ^ lo + x % 2 ^ w * 2 ^ lo =
      v.toNat % 2 ^ lo + (x % 2 ^ w) * 2 ^ lo + v.toNat / 2 ^ (lo + w) * 2 ^ (lo + w) := by omega
  unfold withField
  rw [BitVec.toNat_ofNat, hsum, Nat.mod_eq_of_lt]
  have hq : v.toNat / 2 ^ (lo + w) < 2 ^ (32 - (lo + w)) := by
    apply Nat.div_lt_of_lt_mul
    rw [← Nat.pow_add]
    rwa [Nat.add_sub_cancel' h]
  have e4 : 2 ^ (lo + w) = 2 ^ w * 2 ^ lo := by rw [Nat.pow_add, Nat.mul_comm]
  have hlow : v.toNat % 2 ^ lo + (x % 2 ^ w) * 2 ^ lo < 2 ^ (lo + w) := by
    rw [e4]
    calc v.toNat % 2 ^ lo + (x % 2 ^ w) * 2 ^ lo < 2 ^ lo + (x % 2 ^ w) * 2 ^ lo := by omega
      _ = (x % 2 ^ w + 1) * 2 ^ lo := by rw [Nat.add_mul, Nat.one_mul, Nat.add_comm]
      _ ≤ 2 ^ w * 2 ^ lo := Nat.mul_le_mul_right _ hx
  calc v.toNat % 2 ^ lo + (x % 2 ^ w) * 2 ^ lo + v.toNat / 2 ^ (lo + w) * 2 ^ (lo + w)
      < 2 ^ (lo + w) + v.toNat / 2 ^ (lo + w) * 2 ^ (lo + w) := by omega
    _ = (v.toNat / 2 ^ (lo + w) + 1) * 2 ^ (lo + w) := by rw [Nat.add_mul, Nat.one_mul, Nat.add_comm]
    _ ≤ 2 ^ (32 - (lo + w)) * 2 ^ (lo + w) := Nat.mul_le_mul_right _ hq
    _ = 2 ^ 32 := by rw [← Nat.pow_add, Nat.sub_add_cancel h]

theorem withField_testBit (v : Word) {lo w : Nat} (x : Nat) (h : lo + w ≤ 32) (i : Nat) :
    (withField v lo w x).toNat.testBit i =
      if lo ≤ i ∧ i < lo + w then x.testBit (i - lo) else v.toNat.testBit i := by
  rw [withField_toNat v x h]
  have hx : x % 2 ^ w < 2 ^ w := Nat.mod_lt _ (Nat.two_pow_pos w)
  have hlo : v.toNat % 2 ^ lo < 2 ^ lo := Nat.mod_lt _ (Nat.two_pow_pos lo)
  have e4 : 2 ^ (lo + w) = 2 ^ lo * 2 ^ w := Nat.pow_add ..
  have hlow : v.toNat % 2 ^ lo + (x % 2 ^ w) * 2 ^ lo < 2 ^ (lo + w) := by
    rw [e4]
    calc v.toNat % 2 ^ lo + (x % 2 ^ w) * 2 ^ lo < 2 ^ lo + (x % 2 ^ w) * 2 ^ lo := by omega
      _ = 2 ^ lo * (x % 2 ^ w + 1) := by rw [Nat.mul_add, Nat.mul_one, Nat.mul_comm, Nat.add_comm]
      _ ≤ 2 ^ lo * 2 ^ w := Nat.mul_le_mul_left _ hx
  rw [show v.toNat % 2 ^ lo + (x % 2 ^ w) * 2 ^ lo + v.toNat / 2 ^ (lo + w) * 2 ^ (lo + w) =
      2 ^ (lo + w) * (v.toNat / 2 ^ (lo + w)) + (2 ^ lo * (x % 2 ^ w) + v.toNat % 2 ^ lo) by
        rw [Nat.mul_comm (2 ^ (lo + w)), Nat.mul_comm (2 ^ lo)]; omega]
  rw [Nat.testBit_two_pow_mul_add _ (by rw [Nat.mul_comm (2 ^ lo)]; omega), Nat.testBit_two_pow_mul_add _ hlo]
  by_cases h1 : i < lo
  · simp [h1, Nat.testBit_mod_two_pow, show i < lo + w by omega]
  · by_cases h2 : i < lo + w
    · have : lo ≤ i ∧ i < lo + w := by omega
      simp [h1, this, Nat.testBit_mod_two_pow, show i - lo < w by omega]
    · simp [h2, Nat.testBit_div_two_pow, show i - (lo + w) + (lo + w) = i by omega]

/-- A field reads back what was written into it. -/
theorem fieldOf_withField_same (v : Word) {lo w : Nat} (x : Nat) (h : lo + w ≤ 32) :
    fieldOf (withField v lo w x) lo w = x % 2 ^ w := by
  apply Nat.eq_of_testBit_eq
  intro i
  rw [fieldOf_testBit, withField_testBit v x h, Nat.testBit_mod_two_pow]
  by_cases hi : i < w
  · simp [hi]
  · simp [hi]

/-- Writing one field leaves the word's other fields alone. -/
theorem fieldOf_withField_other (v : Word) {lo w lo' w' : Nat} (x : Nat) (h : lo + w ≤ 32)
    (hd : lo' + w' ≤ lo ∨ lo + w ≤ lo') : fieldOf (withField v lo w x) lo' w' = fieldOf v lo' w' := by
  apply Nat.eq_of_testBit_eq
  intro i
  rw [fieldOf_testBit, fieldOf_testBit, withField_testBit v x h]
  by_cases hi : i < w'
  · have : ¬ (lo ≤ lo' + i ∧ lo' + i < lo + w) := by omega
    simp [hi, this]
  · simp [hi]

/-- Every register has a number below 461. -/
theorem Reg.ctorIdx_lt' (r : Reg) : r.ctorIdx < 461 := by
  cases r <;> decide

theorem Reg.ctorIdx_lt (r : Reg) : r.ctorIdx < 512 := Nat.lt_trans (Reg.ctorIdx_lt' r) (by decide)

/-- The number of a register names it. -/
theorem Reg.ctorIdx_inj {r q : Reg} (h : r.ctorIdx = q.ctorIdx) : r = q := by
  rw [← Reg.ofNat_ctorIdx r, ← Reg.ofNat_ctorIdx q, h]

theorem allRegs_ofNat : ((List.range 461).all fun n => decide (allRegs[n]? = some (Reg.ofNat n))) = true := by
  decide +kernel

/-- The registers stand in the list in the order of their numbers. -/
theorem allRegs_ctorIdx (r : Reg) : allRegs[r.ctorIdx]? = some r := by
  have h := List.all_eq_true.1 allRegs_ofNat r.ctorIdx (List.mem_range.2 (Reg.ctorIdx_lt' r))
  rw [of_decide_eq_true h, Reg.ofNat_ctorIdx]

theorem regKey_inj (r q : Reg) (i j : Nat) : regKey r i = regKey q j ↔ r = q ∧ i = j := by
  constructor
  · intro h
    have h1 := Reg.ctorIdx_lt r
    have h2 := Reg.ctorIdx_lt q
    unfold regKey at h
    exact ⟨Reg.ctorIdx_inj (by omega), by omega⟩
  · rintro ⟨rfl, rfl⟩
    rfl

@[simp] theorem regOfKey_regKey (r : Reg) (i : Nat) : regOfKey (regKey r i) = some r := by
  have h := Reg.ctorIdx_lt r
  unfold regOfKey regKey
  rw [show (i * 512 + r.ctorIdx) % 512 = r.ctorIdx by omega]
  exact allRegs_ctorIdx r

@[simp] theorem instOfKey_regKey (r : Reg) (i : Nat) : instOfKey (regKey r i) = i := by
  have h := Reg.ctorIdx_lt r
  unfold instOfKey regKey
  omega

@[simp] theorem resetOfKey_regKey (p : Part) (r : Reg) (i : Nat) : resetOfKey p (regKey r i) = resetWord p r i := by
  simp [resetOfKey]

/-- A register reads what was written to it, and a write leaves every other register alone. -/
theorem State.word_setWord (s : State) (r q : Reg) (i j : Nat) (v : Word) :
    (s.setWord r i v).word q j = if q = r ∧ j = i then v else s.word q j := by
  show Sparse.get (resetWord s.part q j) (Sparse.set (resetWord s.part r i) s.regs (regKey r i) v) (regKey q j) = _
  split
  · rename_i h
    obtain ⟨rfl, rfl⟩ := h
    exact Sparse.get_set_same ..
  · rename_i h
    exact Sparse.get_set_other _ _ _ _ fun e => h ((regKey_inj ..).1 e)

@[simp] theorem State.word_setWord_same (s : State) (r : Reg) (i : Nat) (v : Word) :
    (s.setWord r i v).word r i = v := by simp [State.word_setWord]

/-- A field reads back what was written into it. -/
theorem State.f_setF_same (s : State) (F : Fld) (i v : Nat) (h : F.lo + F.width ≤ 32) :
    (s.setF F i v).f F i = v % 2 ^ F.width := by
  unfold State.f State.setF
  rw [State.word_setWord_same, fieldOf_withField_same _ _ h]

/-- Writing a field leaves every other field alone. -/
theorem State.f_setF_other (s : State) (F G : Fld) (i j v : Nat) (h : F.lo + F.width ≤ 32)
    (hd : G.reg ≠ F.reg ∨ j ≠ i ∨ G.lo + G.width ≤ F.lo ∨ F.lo + F.width ≤ G.lo) :
    (s.setF F i v).f G j = s.f G j := by
  unfold State.f State.setF
  rw [State.word_setWord]
  split
  · rename_i e
    rw [e.1, e.2]
    rcases hd with hd | hd | hd
    · exact absurd e.1 hd
    · exact absurd e.2 hd
    · rw [fieldOf_withField_other _ _ h hd]
  · rfl

/-- A write keeps the register file in its canonical form. -/
theorem State.wf_setWord (s : State) (r : Reg) (i : Nat) (v : Word)
    (h : Sparse.wf (resetOfKey s.part) s.regs = true) :
    Sparse.wf (resetOfKey (s.setWord r i v).part) (s.setWord r i v).regs = true := by
  show Sparse.wf (resetOfKey s.part) (Sparse.set (resetWord s.part r i) s.regs (regKey r i) v) = true
  rw [← resetOfKey_regKey]
  exact Sparse.wf_set _ _ _ _ h

end Sys2Proof.Machine
end

