-- ==== Sys2Proof/Laws/State.lean ====
section
/-! SUPPORT. One lemma per field of State per named update, true by definition: an update changes the field it names and no
other. Registers, fields and the rest that an update leaves alone read as before. -/

namespace Sys2Proof.Machine

@[simp] theorem State.putTime_time (s : State) (v : DWord) : (s.putTime v).time = v := rfl
@[simp] theorem State.putTimeOffset_timeOffset (s : State) (v : DWord) : (s.putTimeOffset v).timeOffset = v := rfl
@[simp] theorem State.putSyncArmer_syncArmer (s : State) (v : BitVec 8) : (s.putSyncArmer v).syncArmer = v := rfl
@[simp] theorem State.putSyncRef_syncRef (s : State) (v : Option DWord) : (s.putSyncRef v).syncRef = v := rfl
@[simp] theorem State.putFresh_fresh (s : State) (v : Nat) : (s.putFresh v).fresh = v := rfl
@[simp] theorem State.putRegs_regs (s : State) (v : Cells Word) : (s.putRegs v).regs = v := rfl
@[simp] theorem State.putLatches_latches (s : State) (v : Cells Word) : (s.putLatches v).latches = v := rfl
@[simp] theorem State.putDev_dev (s : State) (v : DevState) : (s.putDev v).dev = v := rfl
@[simp] theorem State.putLedger_ledger (s : State) (v : LedgerState) : (s.putLedger v).ledger = v := rfl
@[simp] theorem State.putFabric_fabric (s : State) (v : FabricState) : (s.putFabric v).fabric = v := rfl
@[simp] theorem State.putMem_mem (s : State) (v : MemState) : (s.putMem v).mem = v := rfl
@[simp] theorem State.putCfg_cfg (s : State) (v : CfgState) : (s.putCfg v).cfg = v := rfl
@[simp] theorem State.putRepair_repair (s : State) (v : RepairState) : (s.putRepair v).repair = v := rfl
@[simp] theorem State.putNet_net (s : State) (v : NetState) : (s.putNet v).net = v := rfl
@[simp] theorem State.putBeam_beam (s : State) (v : BeamState) : (s.putBeam v).beam = v := rfl
@[simp] theorem State.putRecord_record (s : State) (v : RecordState) : (s.putRecord v).record = v := rfl
@[simp] theorem State.putTally_tally (s : State) (v : TallyState) : (s.putTally v).tally = v := rfl
@[simp] theorem State.putTbus_tbus (s : State) (v : TbusState) : (s.putTbus v).tbus = v := rfl
@[simp] theorem State.putLanes_lanes (s : State) (v : LanesState) : (s.putLanes v).lanes = v := rfl
@[simp] theorem State.putHbm_hbm (s : State) (v : HbmState) : (s.putHbm v).hbm = v := rfl
@[simp] theorem State.putStore_store (s : State) (v : StoreState) : (s.putStore v).store = v := rfl
@[simp] theorem State.putMsix_msix (s : State) (v : MsixState) : (s.putMsix v).msix = v := rfl
@[simp] theorem State.putHost_host (s : State) (v : HostState) : (s.putHost v).host = v := rfl
@[simp] theorem State.putSeq_seq (s : State) (v : SeqState) : (s.putSeq v).seq = v := rfl
@[simp] theorem State.putDbg_dbg (s : State) (v : DebugState) : (s.putDbg v).dbg = v := rfl
@[simp] theorem State.putPins_pins (s : State) (v : PinsState) : (s.putPins v).pins = v := rfl
@[simp] theorem State.putPeriph_periph (s : State) (v : PeriphState) : (s.putPeriph v).periph = v := rfl
@[simp] theorem State.putPower_power (s : State) (v : PowerState) : (s.putPower v).power = v := rfl
@[simp] theorem State.putOut_out (s : State) (v : List Out) : (s.putOut v).out = v := rfl

-- ------------------------------------------------------------------ putTime

@[simp] theorem State.putTime_part (s : State) (v : DWord) : (s.putTime v).part = s.part := rfl
@[simp] theorem State.putTime_timeOffset (s : State) (v : DWord) : (s.putTime v).timeOffset = s.timeOffset := rfl
@[simp] theorem State.putTime_syncArmer (s : State) (v : DWord) : (s.putTime v).syncArmer = s.syncArmer := rfl
@[simp] theorem State.putTime_syncRef (s : State) (v : DWord) : (s.putTime v).syncRef = s.syncRef := rfl
@[simp] theorem State.putTime_fresh (s : State) (v : DWord) : (s.putTime v).fresh = s.fresh := rfl
@[simp] theorem State.putTime_regs (s : State) (v : DWord) : (s.putTime v).regs = s.regs := rfl
@[simp] theorem State.putTime_latches (s : State) (v : DWord) : (s.putTime v).latches = s.latches := rfl
@[simp] theorem State.putTime_dev (s : State) (v : DWord) : (s.putTime v).dev = s.dev := rfl
@[simp] theorem State.putTime_ledger (s : State) (v : DWord) : (s.putTime v).ledger = s.ledger := rfl
@[simp] theorem State.putTime_fabric (s : State) (v : DWord) : (s.putTime v).fabric = s.fabric := rfl
@[simp] theorem State.putTime_mem (s : State) (v : DWord) : (s.putTime v).mem = s.mem := rfl
@[simp] theorem State.putTime_cfg (s : State) (v : DWord) : (s.putTime v).cfg = s.cfg := rfl
@[simp] theorem State.putTime_repair (s : State) (v : DWord) : (s.putTime v).repair = s.repair := rfl
@[simp] theorem State.putTime_net (s : State) (v : DWord) : (s.putTime v).net = s.net := rfl
@[simp] theorem State.putTime_beam (s : State) (v : DWord) : (s.putTime v).beam = s.beam := rfl
@[simp] theorem State.putTime_record (s : State) (v : DWord) : (s.putTime v).record = s.record := rfl
@[simp] theorem State.putTime_tally (s : State) (v : DWord) : (s.putTime v).tally = s.tally := rfl
@[simp] theorem State.putTime_tbus (s : State) (v : DWord) : (s.putTime v).tbus = s.tbus := rfl
@[simp] theorem State.putTime_lanes (s : State) (v : DWord) : (s.putTime v).lanes = s.lanes := rfl
@[simp] theorem State.putTime_hbm (s : State) (v : DWord) : (s.putTime v).hbm = s.hbm := rfl
@[simp] theorem State.putTime_store (s : State) (v : DWord) : (s.putTime v).store = s.store := rfl
@[simp] theorem State.putTime_msix (s : State) (v : DWord) : (s.putTime v).msix = s.msix := rfl
@[simp] theorem State.putTime_host (s : State) (v : DWord) : (s.putTime v).host = s.host := rfl
@[simp] theorem State.putTime_seq (s : State) (v : DWord) : (s.putTime v).seq = s.seq := rfl
@[simp] theorem State.putTime_dbg (s : State) (v : DWord) : (s.putTime v).dbg = s.dbg := rfl
@[simp] theorem State.putTime_pins (s : State) (v : DWord) : (s.putTime v).pins = s.pins := rfl
@[simp] theorem State.putTime_periph (s : State) (v : DWord) : (s.putTime v).periph = s.periph := rfl
@[simp] theorem State.putTime_power (s : State) (v : DWord) : (s.putTime v).power = s.power := rfl
@[simp] theorem State.putTime_out (s : State) (v : DWord) : (s.putTime v).out = s.out := rfl
@[simp] theorem State.putTime_pending (s : State) (v : DWord) : (s.putTime v).pending = s.pending := rfl
@[simp] theorem State.putTime_word (s : State) (v : DWord) (r' : Reg) (i' : Nat) : (s.putTime v).word r' i' = s.word r' i' := rfl
@[simp] theorem State.putTime_f (s : State) (v : DWord) (G : Fld) (i' : Nat) : (s.putTime v).f G i' = s.f G i' := rfl
@[simp] theorem State.putTime_on (s : State) (v : DWord) (G : Fld) (i' : Nat) : (s.putTime v).on G i' = s.on G i' := rfl

-- ------------------------------------------------------------------ putTimeOffset

@[simp] theorem State.putTimeOffset_part (s : State) (v : DWord) : (s.putTimeOffset v).part = s.part := rfl
@[simp] theorem State.putTimeOffset_time (s : State) (v : DWord) : (s.putTimeOffset v).time = s.time := rfl
@[simp] theorem State.putTimeOffset_syncArmer (s : State) (v : DWord) : (s.putTimeOffset v).syncArmer = s.syncArmer := rfl
@[simp] theorem State.putTimeOffset_syncRef (s : State) (v : DWord) : (s.putTimeOffset v).syncRef = s.syncRef := rfl
@[simp] theorem State.putTimeOffset_fresh (s : State) (v : DWord) : (s.putTimeOffset v).fresh = s.fresh := rfl
@[simp] theorem State.putTimeOffset_regs (s : State) (v : DWord) : (s.putTimeOffset v).regs = s.regs := rfl
@[simp] theorem State.putTimeOffset_latches (s : State) (v : DWord) : (s.putTimeOffset v).latches = s.latches := rfl
@[simp] theorem State.putTimeOffset_dev (s : State) (v : DWord) : (s.putTimeOffset v).dev = s.dev := rfl
@[simp] theorem State.putTimeOffset_ledger (s : State) (v : DWord) : (s.putTimeOffset v).ledger = s.ledger := rfl
@[simp] theorem State.putTimeOffset_fabric (s : State) (v : DWord) : (s.putTimeOffset v).fabric = s.fabric := rfl
@[simp] theorem State.putTimeOffset_mem (s : State) (v : DWord) : (s.putTimeOffset v).mem = s.mem := rfl
@[simp] theorem State.putTimeOffset_cfg (s : State) (v : DWord) : (s.putTimeOffset v).cfg = s.cfg := rfl
@[simp] theorem State.putTimeOffset_repair (s : State) (v : DWord) : (s.putTimeOffset v).repair = s.repair := rfl
@[simp] theorem State.putTimeOffset_net (s : State) (v : DWord) : (s.putTimeOffset v).net = s.net := rfl
@[simp] theorem State.putTimeOffset_beam (s : State) (v : DWord) : (s.putTimeOffset v).beam = s.beam := rfl
@[simp] theorem State.putTimeOffset_record (s : State) (v : DWord) : (s.putTimeOffset v).record = s.record := rfl
@[simp] theorem State.putTimeOffset_tally (s : State) (v : DWord) : (s.putTimeOffset v).tally = s.tally := rfl
@[simp] theorem State.putTimeOffset_tbus (s : State) (v : DWord) : (s.putTimeOffset v).tbus = s.tbus := rfl
@[simp] theorem State.putTimeOffset_lanes (s : State) (v : DWord) : (s.putTimeOffset v).lanes = s.lanes := rfl
@[simp] theorem State.putTimeOffset_hbm (s : State) (v : DWord) : (s.putTimeOffset v).hbm = s.hbm := rfl
@[simp] theorem State.putTimeOffset_store (s : State) (v : DWord) : (s.putTimeOffset v).store = s.store := rfl
@[simp] theorem State.putTimeOffset_msix (s : State) (v : DWord) : (s.putTimeOffset v).msix = s.msix := rfl
@[simp] theorem State.putTimeOffset_host (s : State) (v : DWord) : (s.putTimeOffset v).host = s.host := rfl
@[simp] theorem State.putTimeOffset_seq (s : State) (v : DWord) : (s.putTimeOffset v).seq = s.seq := rfl
@[simp] theorem State.putTimeOffset_dbg (s : State) (v : DWord) : (s.putTimeOffset v).dbg = s.dbg := rfl
@[simp] theorem State.putTimeOffset_pins (s : State) (v : DWord) : (s.putTimeOffset v).pins = s.pins := rfl
@[simp] theorem State.putTimeOffset_periph (s : State) (v : DWord) : (s.putTimeOffset v).periph = s.periph := rfl
@[simp] theorem State.putTimeOffset_power (s : State) (v : DWord) : (s.putTimeOffset v).power = s.power := rfl
@[simp] theorem State.putTimeOffset_out (s : State) (v : DWord) : (s.putTimeOffset v).out = s.out := rfl
@[simp] theorem State.putTimeOffset_pending (s : State) (v : DWord) : (s.putTimeOffset v).pending = s.pending := rfl
@[simp] theorem State.putTimeOffset_word (s : State) (v : DWord) (r' : Reg) (i' : Nat) : (s.putTimeOffset v).word r' i' = s.word r' i' := rfl
@[simp] theorem State.putTimeOffset_f (s : State) (v : DWord) (G : Fld) (i' : Nat) : (s.putTimeOffset v).f G i' = s.f G i' := rfl
@[simp] theorem State.putTimeOffset_on (s : State) (v : DWord) (G : Fld) (i' : Nat) : (s.putTimeOffset v).on G i' = s.on G i' := rfl

-- ------------------------------------------------------------------ putSyncArmer

@[simp] theorem State.putSyncArmer_part (s : State) (v : BitVec 8) : (s.putSyncArmer v).part = s.part := rfl
@[simp] theorem State.putSyncArmer_time (s : State) (v : BitVec 8) : (s.putSyncArmer v).time = s.time := rfl
@[simp] theorem State.putSyncArmer_timeOffset (s : State) (v : BitVec 8) : (s.putSyncArmer v).timeOffset = s.timeOffset := rfl
@[simp] theorem State.putSyncArmer_syncRef (s : State) (v : BitVec 8) : (s.putSyncArmer v).syncRef = s.syncRef := rfl
@[simp] theorem State.putSyncArmer_fresh (s : State) (v : BitVec 8) : (s.putSyncArmer v).fresh = s.fresh := rfl
@[simp] theorem State.putSyncArmer_regs (s : State) (v : BitVec 8) : (s.putSyncArmer v).regs = s.regs := rfl
@[simp] theorem State.putSyncArmer_latches (s : State) (v : BitVec 8) : (s.putSyncArmer v).latches = s.latches := rfl
@[simp] theorem State.putSyncArmer_dev (s : State) (v : BitVec 8) : (s.putSyncArmer v).dev = s.dev := rfl
@[simp] theorem State.putSyncArmer_ledger (s : State) (v : BitVec 8) : (s.putSyncArmer v).ledger = s.ledger := rfl
@[simp] theorem State.putSyncArmer_fabric (s : State) (v : BitVec 8) : (s.putSyncArmer v).fabric = s.fabric := rfl
@[simp] theorem State.putSyncArmer_mem (s : State) (v : BitVec 8) : (s.putSyncArmer v).mem = s.mem := rfl
@[simp] theorem State.putSyncArmer_cfg (s : State) (v : BitVec 8) : (s.putSyncArmer v).cfg = s.cfg := rfl
@[simp] theorem State.putSyncArmer_repair (s : State) (v : BitVec 8) : (s.putSyncArmer v).repair = s.repair := rfl
@[simp] theorem State.putSyncArmer_net (s : State) (v : BitVec 8) : (s.putSyncArmer v).net = s.net := rfl
@[simp] theorem State.putSyncArmer_beam (s : State) (v : BitVec 8) : (s.putSyncArmer v).beam = s.beam := rfl
@[simp] theorem State.putSyncArmer_record (s : State) (v : BitVec 8) : (s.putSyncArmer v).record = s.record := rfl
@[simp] theorem State.putSyncArmer_tally (s : State) (v : BitVec 8) : (s.putSyncArmer v).tally = s.tally := rfl
@[simp] theorem State.putSyncArmer_tbus (s : State) (v : BitVec 8) : (s.putSyncArmer v).tbus = s.tbus := rfl
@[simp] theorem State.putSyncArmer_lanes (s : State) (v : BitVec 8) : (s.putSyncArmer v).lanes = s.lanes := rfl
@[simp] theorem State.putSyncArmer_hbm (s : State) (v : BitVec 8) : (s.putSyncArmer v).hbm = s.hbm := rfl
@[simp] theorem State.putSyncArmer_store (s : State) (v : BitVec 8) : (s.putSyncArmer v).store = s.store := rfl
@[simp] theorem State.putSyncArmer_msix (s : State) (v : BitVec 8) : (s.putSyncArmer v).msix = s.msix := rfl
@[simp] theorem State.putSyncArmer_host (s : State) (v : BitVec 8) : (s.putSyncArmer v).host = s.host := rfl
@[simp] theorem State.putSyncArmer_seq (s : State) (v : BitVec 8) : (s.putSyncArmer v).seq = s.seq := rfl
@[simp] theorem State.putSyncArmer_dbg (s : State) (v : BitVec 8) : (s.putSyncArmer v).dbg = s.dbg := rfl
@[simp] theorem State.putSyncArmer_pins (s : State) (v : BitVec 8) : (s.putSyncArmer v).pins = s.pins := rfl
@[simp] theorem State.putSyncArmer_periph (s : State) (v : BitVec 8) : (s.putSyncArmer v).periph = s.periph := rfl
@[simp] theorem State.putSyncArmer_power (s : State) (v : BitVec 8) : (s.putSyncArmer v).power = s.power := rfl
@[simp] theorem State.putSyncArmer_out (s : State) (v : BitVec 8) : (s.putSyncArmer v).out = s.out := rfl
@[simp] theorem State.putSyncArmer_pending (s : State) (v : BitVec 8) : (s.putSyncArmer v).pending = s.pending := rfl
@[simp] theorem State.putSyncArmer_word (s : State) (v : BitVec 8) (r' : Reg) (i' : Nat) : (s.putSyncArmer v).word r' i' = s.word r' i' := rfl
@[simp] theorem State.putSyncArmer_f (s : State) (v : BitVec 8) (G : Fld) (i' : Nat) : (s.putSyncArmer v).f G i' = s.f G i' := rfl
@[simp] theorem State.putSyncArmer_on (s : State) (v : BitVec 8) (G : Fld) (i' : Nat) : (s.putSyncArmer v).on G i' = s.on G i' := rfl
@[simp] theorem State.putSyncArmer_now (s : State) (v : BitVec 8) : (s.putSyncArmer v).now = s.now := rfl

-- ------------------------------------------------------------------ putSyncRef

@[simp] theorem State.putSyncRef_part (s : State) (v : Option DWord) : (s.putSyncRef v).part = s.part := rfl
@[simp] theorem State.putSyncRef_time (s : State) (v : Option DWord) : (s.putSyncRef v).time = s.time := rfl
@[simp] theorem State.putSyncRef_timeOffset (s : State) (v : Option DWord) : (s.putSyncRef v).timeOffset = s.timeOffset := rfl
@[simp] theorem State.putSyncRef_syncArmer (s : State) (v : Option DWord) : (s.putSyncRef v).syncArmer = s.syncArmer := rfl
@[simp] theorem State.putSyncRef_fresh (s : State) (v : Option DWord) : (s.putSyncRef v).fresh = s.fresh := rfl
@[simp] theorem State.putSyncRef_regs (s : State) (v : Option DWord) : (s.putSyncRef v).regs = s.regs := rfl
@[simp] theorem State.putSyncRef_latches (s : State) (v : Option DWord) : (s.putSyncRef v).latches = s.latches := rfl
@[simp] theorem State.putSyncRef_dev (s : State) (v : Option DWord) : (s.putSyncRef v).dev = s.dev := rfl
@[simp] theorem State.putSyncRef_ledger (s : State) (v : Option DWord) : (s.putSyncRef v).ledger = s.ledger := rfl
@[simp] theorem State.putSyncRef_fabric (s : State) (v : Option DWord) : (s.putSyncRef v).fabric = s.fabric := rfl
@[simp] theorem State.putSyncRef_mem (s : State) (v : Option DWord) : (s.putSyncRef v).mem = s.mem := rfl
@[simp] theorem State.putSyncRef_cfg (s : State) (v : Option DWord) : (s.putSyncRef v).cfg = s.cfg := rfl
@[simp] theorem State.putSyncRef_repair (s : State) (v : Option DWord) : (s.putSyncRef v).repair = s.repair := rfl
@[simp] theorem State.putSyncRef_net (s : State) (v : Option DWord) : (s.putSyncRef v).net = s.net := rfl
@[simp] theorem State.putSyncRef_beam (s : State) (v : Option DWord) : (s.putSyncRef v).beam = s.beam := rfl
@[simp] theorem State.putSyncRef_record (s : State) (v : Option DWord) : (s.putSyncRef v).record = s.record := rfl
@[simp] theorem State.putSyncRef_tally (s : State) (v : Option DWord) : (s.putSyncRef v).tally = s.tally := rfl
@[simp] theorem State.putSyncRef_tbus (s : State) (v : Option DWord) : (s.putSyncRef v).tbus = s.tbus := rfl
@[simp] theorem State.putSyncRef_lanes (s : State) (v : Option DWord) : (s.putSyncRef v).lanes = s.lanes := rfl
@[simp] theorem State.putSyncRef_hbm (s : State) (v : Option DWord) : (s.putSyncRef v).hbm = s.hbm := rfl
@[simp] theorem State.putSyncRef_store (s : State) (v : Option DWord) : (s.putSyncRef v).store = s.store := rfl
@[simp] theorem State.putSyncRef_msix (s : State) (v : Option DWord) : (s.putSyncRef v).msix = s.msix := rfl
@[simp] theorem State.putSyncRef_host (s : State) (v : Option DWord) : (s.putSyncRef v).host = s.host := rfl
@[simp] theorem State.putSyncRef_seq (s : State) (v : Option DWord) : (s.putSyncRef v).seq = s.seq := rfl
@[simp] theorem State.putSyncRef_dbg (s : State) (v : Option DWord) : (s.putSyncRef v).dbg = s.dbg := rfl
@[simp] theorem State.putSyncRef_pins (s : State) (v : Option DWord) : (s.putSyncRef v).pins = s.pins := rfl
@[simp] theorem State.putSyncRef_periph (s : State) (v : Option DWord) : (s.putSyncRef v).periph = s.periph := rfl
@[simp] theorem State.putSyncRef_power (s : State) (v : Option DWord) : (s.putSyncRef v).power = s.power := rfl
@[simp] theorem State.putSyncRef_out (s : State) (v : Option DWord) : (s.putSyncRef v).out = s.out := rfl
@[simp] theorem State.putSyncRef_pending (s : State) (v : Option DWord) : (s.putSyncRef v).pending = s.pending := rfl
@[simp] theorem State.putSyncRef_word (s : State) (v : Option DWord) (r' : Reg) (i' : Nat) : (s.putSyncRef v).word r' i' = s.word r' i' := rfl
@[simp] theorem State.putSyncRef_f (s : State) (v : Option DWord) (G : Fld) (i' : Nat) : (s.putSyncRef v).f G i' = s.f G i' := rfl
@[simp] theorem State.putSyncRef_on (s : State) (v : Option DWord) (G : Fld) (i' : Nat) : (s.putSyncRef v).on G i' = s.on G i' := rfl
@[simp] theorem State.putSyncRef_now (s : State) (v : Option DWord) : (s.putSyncRef v).now = s.now := rfl

-- ------------------------------------------------------------------ putFresh

@[simp] theorem State.putFresh_part (s : State) (v : Nat) : (s.putFresh v).part = s.part := rfl
@[simp] theorem State.putFresh_time (s : State) (v : Nat) : (s.putFresh v).time = s.time := rfl
@[simp] theorem State.putFresh_timeOffset (s : State) (v : Nat) : (s.putFresh v).timeOffset = s.timeOffset := rfl
@[simp] theorem State.putFresh_syncArmer (s : State) (v : Nat) : (s.putFresh v).syncArmer = s.syncArmer := rfl
@[simp] theorem State.putFresh_syncRef (s : State) (v : Nat) : (s.putFresh v).syncRef = s.syncRef := rfl
@[simp] theorem State.putFresh_regs (s : State) (v : Nat) : (s.putFresh v).regs = s.regs := rfl
@[simp] theorem State.putFresh_latches (s : State) (v : Nat) : (s.putFresh v).latches = s.latches := rfl
@[simp] theorem State.putFresh_dev (s : State) (v : Nat) : (s.putFresh v).dev = s.dev := rfl
@[simp] theorem State.putFresh_ledger (s : State) (v : Nat) : (s.putFresh v).ledger = s.ledger := rfl
@[simp] theorem State.putFresh_fabric (s : State) (v : Nat) : (s.putFresh v).fabric = s.fabric := rfl
@[simp] theorem State.putFresh_mem (s : State) (v : Nat) : (s.putFresh v).mem = s.mem := rfl
@[simp] theorem State.putFresh_cfg (s : State) (v : Nat) : (s.putFresh v).cfg = s.cfg := rfl
@[simp] theorem State.putFresh_repair (s : State) (v : Nat) : (s.putFresh v).repair = s.repair := rfl
@[simp] theorem State.putFresh_net (s : State) (v : Nat) : (s.putFresh v).net = s.net := rfl
@[simp] theorem State.putFresh_beam (s : State) (v : Nat) : (s.putFresh v).beam = s.beam := rfl
@[simp] theorem State.putFresh_record (s : State) (v : Nat) : (s.putFresh v).record = s.record := rfl
@[simp] theorem State.putFresh_tally (s : State) (v : Nat) : (s.putFresh v).tally = s.tally := rfl
@[simp] theorem State.putFresh_tbus (s : State) (v : Nat) : (s.putFresh v).tbus = s.tbus := rfl
@[simp] theorem State.putFresh_lanes (s : State) (v : Nat) : (s.putFresh v).lanes = s.lanes := rfl
@[simp] theorem State.putFresh_hbm (s : State) (v : Nat) : (s.putFresh v).hbm = s.hbm := rfl
@[simp] theorem State.putFresh_store (s : State) (v : Nat) : (s.putFresh v).store = s.store := rfl
@[simp] theorem State.putFresh_msix (s : State) (v : Nat) : (s.putFresh v).msix = s.msix := rfl
@[simp] theorem State.putFresh_host (s : State) (v : Nat) : (s.putFresh v).host = s.host := rfl
@[simp] theorem State.putFresh_seq (s : State) (v : Nat) : (s.putFresh v).seq = s.seq := rfl
@[simp] theorem State.putFresh_dbg (s : State) (v : Nat) : (s.putFresh v).dbg = s.dbg := rfl
@[simp] theorem State.putFresh_pins (s : State) (v : Nat) : (s.putFresh v).pins = s.pins := rfl
@[simp] theorem State.putFresh_periph (s : State) (v : Nat) : (s.putFresh v).periph = s.periph := rfl
@[simp] theorem State.putFresh_power (s : State) (v : Nat) : (s.putFresh v).power = s.power := rfl
@[simp] theorem State.putFresh_out (s : State) (v : Nat) : (s.putFresh v).out = s.out := rfl
@[simp] theorem State.putFresh_pending (s : State) (v : Nat) : (s.putFresh v).pending = s.pending := rfl
@[simp] theorem State.putFresh_word (s : State) (v : Nat) (r' : Reg) (i' : Nat) : (s.putFresh v).word r' i' = s.word r' i' := rfl
@[simp] theorem State.putFresh_f (s : State) (v : Nat) (G : Fld) (i' : Nat) : (s.putFresh v).f G i' = s.f G i' := rfl
@[simp] theorem State.putFresh_on (s : State) (v : Nat) (G : Fld) (i' : Nat) : (s.putFresh v).on G i' = s.on G i' := rfl
@[simp] theorem State.putFresh_now (s : State) (v : Nat) : (s.putFresh v).now = s.now := rfl

-- ------------------------------------------------------------------ putRegs

@[simp] theorem State.putRegs_part (s : State) (v : Cells Word) : (s.putRegs v).part = s.part := rfl
@[simp] theorem State.putRegs_time (s : State) (v : Cells Word) : (s.putRegs v).time = s.time := rfl
@[simp] theorem State.putRegs_timeOffset (s : State) (v : Cells Word) : (s.putRegs v).timeOffset = s.timeOffset := rfl
@[simp] theorem State.putRegs_syncArmer (s : State) (v : Cells Word) : (s.putRegs v).syncArmer = s.syncArmer := rfl
@[simp] theorem State.putRegs_syncRef (s : State) (v : Cells Word) : (s.putRegs v).syncRef = s.syncRef := rfl
@[simp] theorem State.putRegs_fresh (s : State) (v : Cells Word) : (s.putRegs v).fresh = s.fresh := rfl
@[simp] theorem State.putRegs_latches (s : State) (v : Cells Word) : (s.putRegs v).latches = s.latches := rfl
@[simp] theorem State.putRegs_dev (s : State) (v : Cells Word) : (s.putRegs v).dev = s.dev := rfl
@[simp] theorem State.putRegs_ledger (s : State) (v : Cells Word) : (s.putRegs v).ledger = s.ledger := rfl
@[simp] theorem State.putRegs_fabric (s : State) (v : Cells Word) : (s.putRegs v).fabric = s.fabric := rfl
@[simp] theorem State.putRegs_mem (s : State) (v : Cells Word) : (s.putRegs v).mem = s.mem := rfl
@[simp] theorem State.putRegs_cfg (s : State) (v : Cells Word) : (s.putRegs v).cfg = s.cfg := rfl
@[simp] theorem State.putRegs_repair (s : State) (v : Cells Word) : (s.putRegs v).repair = s.repair := rfl
@[simp] theorem State.putRegs_net (s : State) (v : Cells Word) : (s.putRegs v).net = s.net := rfl
@[simp] theorem State.putRegs_beam (s : State) (v : Cells Word) : (s.putRegs v).beam = s.beam := rfl
@[simp] theorem State.putRegs_record (s : State) (v : Cells Word) : (s.putRegs v).record = s.record := rfl
@[simp] theorem State.putRegs_tally (s : State) (v : Cells Word) : (s.putRegs v).tally = s.tally := rfl
@[simp] theorem State.putRegs_tbus (s : State) (v : Cells Word) : (s.putRegs v).tbus = s.tbus := rfl
@[simp] theorem State.putRegs_lanes (s : State) (v : Cells Word) : (s.putRegs v).lanes = s.lanes := rfl
@[simp] theorem State.putRegs_hbm (s : State) (v : Cells Word) : (s.putRegs v).hbm = s.hbm := rfl
@[simp] theorem State.putRegs_store (s : State) (v : Cells Word) : (s.putRegs v).store = s.store := rfl
@[simp] theorem State.putRegs_msix (s : State) (v : Cells Word) : (s.putRegs v).msix = s.msix := rfl
@[simp] theorem State.putRegs_host (s : State) (v : Cells Word) : (s.putRegs v).host = s.host := rfl
@[simp] theorem State.putRegs_seq (s : State) (v : Cells Word) : (s.putRegs v).seq = s.seq := rfl
@[simp] theorem State.putRegs_dbg (s : State) (v : Cells Word) : (s.putRegs v).dbg = s.dbg := rfl
@[simp] theorem State.putRegs_pins (s : State) (v : Cells Word) : (s.putRegs v).pins = s.pins := rfl
@[simp] theorem State.putRegs_periph (s : State) (v : Cells Word) : (s.putRegs v).periph = s.periph := rfl
@[simp] theorem State.putRegs_power (s : State) (v : Cells Word) : (s.putRegs v).power = s.power := rfl
@[simp] theorem State.putRegs_out (s : State) (v : Cells Word) : (s.putRegs v).out = s.out := rfl
@[simp] theorem State.putRegs_pending (s : State) (v : Cells Word) : (s.putRegs v).pending = s.pending := rfl
@[simp] theorem State.putRegs_now (s : State) (v : Cells Word) : (s.putRegs v).now = s.now := rfl

-- ------------------------------------------------------------------ putLatches

@[simp] theorem State.putLatches_part (s : State) (v : Cells Word) : (s.putLatches v).part = s.part := rfl
@[simp] theorem State.putLatches_time (s : State) (v : Cells Word) : (s.putLatches v).time = s.time := rfl
@[simp] theorem State.putLatches_timeOffset (s : State) (v : Cells Word) : (s.putLatches v).timeOffset = s.timeOffset := rfl
@[simp] theorem State.putLatches_syncArmer (s : State) (v : Cells Word) : (s.putLatches v).syncArmer = s.syncArmer := rfl
@[simp] theorem State.putLatches_syncRef (s : State) (v : Cells Word) : (s.putLatches v).syncRef = s.syncRef := rfl
@[simp] theorem State.putLatches_fresh (s : State) (v : Cells Word) : (s.putLatches v).fresh = s.fresh := rfl
@[simp] theorem State.putLatches_regs (s : State) (v : Cells Word) : (s.putLatches v).regs = s.regs := rfl
@[simp] theorem State.putLatches_dev (s : State) (v : Cells Word) : (s.putLatches v).dev = s.dev := rfl
@[simp] theorem State.putLatches_ledger (s : State) (v : Cells Word) : (s.putLatches v).ledger = s.ledger := rfl
@[simp] theorem State.putLatches_fabric (s : State) (v : Cells Word) : (s.putLatches v).fabric = s.fabric := rfl
@[simp] theorem State.putLatches_mem (s : State) (v : Cells Word) : (s.putLatches v).mem = s.mem := rfl
@[simp] theorem State.putLatches_cfg (s : State) (v : Cells Word) : (s.putLatches v).cfg = s.cfg := rfl
@[simp] theorem State.putLatches_repair (s : State) (v : Cells Word) : (s.putLatches v).repair = s.repair := rfl
@[simp] theorem State.putLatches_net (s : State) (v : Cells Word) : (s.putLatches v).net = s.net := rfl
@[simp] theorem State.putLatches_beam (s : State) (v : Cells Word) : (s.putLatches v).beam = s.beam := rfl
@[simp] theorem State.putLatches_record (s : State) (v : Cells Word) : (s.putLatches v).record = s.record := rfl
@[simp] theorem State.putLatches_tally (s : State) (v : Cells Word) : (s.putLatches v).tally = s.tally := rfl
@[simp] theorem State.putLatches_tbus (s : State) (v : Cells Word) : (s.putLatches v).tbus = s.tbus := rfl
@[simp] theorem State.putLatches_lanes (s : State) (v : Cells Word) : (s.putLatches v).lanes = s.lanes := rfl
@[simp] theorem State.putLatches_hbm (s : State) (v : Cells Word) : (s.putLatches v).hbm = s.hbm := rfl
@[simp] theorem State.putLatches_store (s : State) (v : Cells Word) : (s.putLatches v).store = s.store := rfl
@[simp] theorem State.putLatches_msix (s : State) (v : Cells Word) : (s.putLatches v).msix = s.msix := rfl
@[simp] theorem State.putLatches_host (s : State) (v : Cells Word) : (s.putLatches v).host = s.host := rfl
@[simp] theorem State.putLatches_seq (s : State) (v : Cells Word) : (s.putLatches v).seq = s.seq := rfl
@[simp] theorem State.putLatches_dbg (s : State) (v : Cells Word) : (s.putLatches v).dbg = s.dbg := rfl
@[simp] theorem State.putLatches_pins (s : State) (v : Cells Word) : (s.putLatches v).pins = s.pins := rfl
@[simp] theorem State.putLatches_periph (s : State) (v : Cells Word) : (s.putLatches v).periph = s.periph := rfl
@[simp] theorem State.putLatches_power (s : State) (v : Cells Word) : (s.putLatches v).power = s.power := rfl
@[simp] theorem State.putLatches_out (s : State) (v : Cells Word) : (s.putLatches v).out = s.out := rfl
@[simp] theorem State.putLatches_pending (s : State) (v : Cells Word) : (s.putLatches v).pending = s.pending := rfl
@[simp] theorem State.putLatches_word (s : State) (v : Cells Word) (r' : Reg) (i' : Nat) : (s.putLatches v).word r' i' = s.word r' i' := rfl
@[simp] theorem State.putLatches_f (s : State) (v : Cells Word) (G : Fld) (i' : Nat) : (s.putLatches v).f G i' = s.f G i' := rfl
@[simp] theorem State.putLatches_on (s : State) (v : Cells Word) (G : Fld) (i' : Nat) : (s.putLatches v).on G i' = s.on G i' := rfl
@[simp] theorem State.putLatches_now (s : State) (v : Cells Word) : (s.putLatches v).now = s.now := rfl

-- ------------------------------------------------------------------ putDev

@[simp] theorem State.putDev_part (s : State) (v : DevState) : (s.putDev v).part = s.part := rfl
@[simp] theorem State.putDev_time (s : State) (v : DevState) : (s.putDev v).time = s.time := rfl
@[simp] theorem State.putDev_timeOffset (s : State) (v : DevState) : (s.putDev v).timeOffset = s.timeOffset := rfl
@[simp] theorem State.putDev_syncArmer (s : State) (v : DevState) : (s.putDev v).syncArmer = s.syncArmer := rfl
@[simp] theorem State.putDev_syncRef (s : State) (v : DevState) : (s.putDev v).syncRef = s.syncRef := rfl
@[simp] theorem State.putDev_fresh (s : State) (v : DevState) : (s.putDev v).fresh = s.fresh := rfl
@[simp] theorem State.putDev_regs (s : State) (v : DevState) : (s.putDev v).regs = s.regs := rfl
@[simp] theorem State.putDev_latches (s : State) (v : DevState) : (s.putDev v).latches = s.latches := rfl
@[simp] theorem State.putDev_ledger (s : State) (v : DevState) : (s.putDev v).ledger = s.ledger := rfl
@[simp] theorem State.putDev_fabric (s : State) (v : DevState) : (s.putDev v).fabric = s.fabric := rfl
@[simp] theorem State.putDev_mem (s : State) (v : DevState) : (s.putDev v).mem = s.mem := rfl
@[simp] theorem State.putDev_cfg (s : State) (v : DevState) : (s.putDev v).cfg = s.cfg := rfl
@[simp] theorem State.putDev_repair (s : State) (v : DevState) : (s.putDev v).repair = s.repair := rfl
@[simp] theorem State.putDev_net (s : State) (v : DevState) : (s.putDev v).net = s.net := rfl
@[simp] theorem State.putDev_beam (s : State) (v : DevState) : (s.putDev v).beam = s.beam := rfl
@[simp] theorem State.putDev_record (s : State) (v : DevState) : (s.putDev v).record = s.record := rfl
@[simp] theorem State.putDev_tally (s : State) (v : DevState) : (s.putDev v).tally = s.tally := rfl
@[simp] theorem State.putDev_tbus (s : State) (v : DevState) : (s.putDev v).tbus = s.tbus := rfl
@[simp] theorem State.putDev_lanes (s : State) (v : DevState) : (s.putDev v).lanes = s.lanes := rfl
@[simp] theorem State.putDev_hbm (s : State) (v : DevState) : (s.putDev v).hbm = s.hbm := rfl
@[simp] theorem State.putDev_store (s : State) (v : DevState) : (s.putDev v).store = s.store := rfl
@[simp] theorem State.putDev_msix (s : State) (v : DevState) : (s.putDev v).msix = s.msix := rfl
@[simp] theorem State.putDev_host (s : State) (v : DevState) : (s.putDev v).host = s.host := rfl
@[simp] theorem State.putDev_seq (s : State) (v : DevState) : (s.putDev v).seq = s.seq := rfl
@[simp] theorem State.putDev_dbg (s : State) (v : DevState) : (s.putDev v).dbg = s.dbg := rfl
@[simp] theorem State.putDev_pins (s : State) (v : DevState) : (s.putDev v).pins = s.pins := rfl
@[simp] theorem State.putDev_periph (s : State) (v : DevState) : (s.putDev v).periph = s.periph := rfl
@[simp] theorem State.putDev_power (s : State) (v : DevState) : (s.putDev v).power = s.power := rfl
@[simp] theorem State.putDev_out (s : State) (v : DevState) : (s.putDev v).out = s.out := rfl
@[simp] theorem State.putDev_pending (s : State) (v : DevState) : (s.putDev v).pending = s.pending := rfl
@[simp] theorem State.putDev_word (s : State) (v : DevState) (r' : Reg) (i' : Nat) : (s.putDev v).word r' i' = s.word r' i' := rfl
@[simp] theorem State.putDev_f (s : State) (v : DevState) (G : Fld) (i' : Nat) : (s.putDev v).f G i' = s.f G i' := rfl
@[simp] theorem State.putDev_on (s : State) (v : DevState) (G : Fld) (i' : Nat) : (s.putDev v).on G i' = s.on G i' := rfl
@[simp] theorem State.putDev_now (s : State) (v : DevState) : (s.putDev v).now = s.now := rfl

-- ------------------------------------------------------------------ putLedger

@[simp] theorem State.putLedger_part (s : State) (v : LedgerState) : (s.putLedger v).part = s.part := rfl
@[simp] theorem State.putLedger_time (s : State) (v : LedgerState) : (s.putLedger v).time = s.time := rfl
@[simp] theorem State.putLedger_timeOffset (s : State) (v : LedgerState) : (s.putLedger v).timeOffset = s.timeOffset := rfl
@[simp] theorem State.putLedger_syncArmer (s : State) (v : LedgerState) : (s.putLedger v).syncArmer = s.syncArmer := rfl
@[simp] theorem State.putLedger_syncRef (s : State) (v : LedgerState) : (s.putLedger v).syncRef = s.syncRef := rfl
@[simp] theorem State.putLedger_fresh (s : State) (v : LedgerState) : (s.putLedger v).fresh = s.fresh := rfl
@[simp] theorem State.putLedger_regs (s : State) (v : LedgerState) : (s.putLedger v).regs = s.regs := rfl
@[simp] theorem State.putLedger_latches (s : State) (v : LedgerState) : (s.putLedger v).latches = s.latches := rfl
@[simp] theorem State.putLedger_dev (s : State) (v : LedgerState) : (s.putLedger v).dev = s.dev := rfl
@[simp] theorem State.putLedger_fabric (s : State) (v : LedgerState) : (s.putLedger v).fabric = s.fabric := rfl
@[simp] theorem State.putLedger_mem (s : State) (v : LedgerState) : (s.putLedger v).mem = s.mem := rfl
@[simp] theorem State.putLedger_cfg (s : State) (v : LedgerState) : (s.putLedger v).cfg = s.cfg := rfl
@[simp] theorem State.putLedger_repair (s : State) (v : LedgerState) : (s.putLedger v).repair = s.repair := rfl
@[simp] theorem State.putLedger_net (s : State) (v : LedgerState) : (s.putLedger v).net = s.net := rfl
@[simp] theorem State.putLedger_beam (s : State) (v : LedgerState) : (s.putLedger v).beam = s.beam := rfl
@[simp] theorem State.putLedger_record (s : State) (v : LedgerState) : (s.putLedger v).record = s.record := rfl
@[simp] theorem State.putLedger_tally (s : State) (v : LedgerState) : (s.putLedger v).tally = s.tally := rfl
@[simp] theorem State.putLedger_tbus (s : State) (v : LedgerState) : (s.putLedger v).tbus = s.tbus := rfl
@[simp] theorem State.putLedger_lanes (s : State) (v : LedgerState) : (s.putLedger v).lanes = s.lanes := rfl
@[simp] theorem State.putLedger_hbm (s : State) (v : LedgerState) : (s.putLedger v).hbm = s.hbm := rfl
@[simp] theorem State.putLedger_store (s : State) (v : LedgerState) : (s.putLedger v).store = s.store := rfl
@[simp] theorem State.putLedger_msix (s : State) (v : LedgerState) : (s.putLedger v).msix = s.msix := rfl
@[simp] theorem State.putLedger_host (s : State) (v : LedgerState) : (s.putLedger v).host = s.host := rfl
@[simp] theorem State.putLedger_seq (s : State) (v : LedgerState) : (s.putLedger v).seq = s.seq := rfl
@[simp] theorem State.putLedger_dbg (s : State) (v : LedgerState) : (s.putLedger v).dbg = s.dbg := rfl
@[simp] theorem State.putLedger_pins (s : State) (v : LedgerState) : (s.putLedger v).pins = s.pins := rfl
@[simp] theorem State.putLedger_periph (s : State) (v : LedgerState) : (s.putLedger v).periph = s.periph := rfl
@[simp] theorem State.putLedger_power (s : State) (v : LedgerState) : (s.putLedger v).power = s.power := rfl
@[simp] theorem State.putLedger_out (s : State) (v : LedgerState) : (s.putLedger v).out = s.out := rfl
@[simp] theorem State.putLedger_pending (s : State) (v : LedgerState) : (s.putLedger v).pending = s.pending := rfl
@[simp] theorem State.putLedger_word (s : State) (v : LedgerState) (r' : Reg) (i' : Nat) : (s.putLedger v).word r' i' = s.word r' i' := rfl
@[simp] theorem State.putLedger_f (s : State) (v : LedgerState) (G : Fld) (i' : Nat) : (s.putLedger v).f G i' = s.f G i' := rfl
@[simp] theorem State.putLedger_on (s : State) (v : LedgerState) (G : Fld) (i' : Nat) : (s.putLedger v).on G i' = s.on G i' := rfl
@[simp] theorem State.putLedger_now (s : State) (v : LedgerState) : (s.putLedger v).now = s.now := rfl

-- ------------------------------------------------------------------ putFabric

@[simp] theorem State.putFabric_part (s : State) (v : FabricState) : (s.putFabric v).part = s.part := rfl
@[simp] theorem State.putFabric_time (s : State) (v : FabricState) : (s.putFabric v).time = s.time := rfl
@[simp] theorem State.putFabric_timeOffset (s : State) (v : FabricState) : (s.putFabric v).timeOffset = s.timeOffset := rfl
@[simp] theorem State.putFabric_syncArmer (s : State) (v : FabricState) : (s.putFabric v).syncArmer = s.syncArmer := rfl
@[simp] theorem State.putFabric_syncRef (s : State) (v : FabricState) : (s.putFabric v).syncRef = s.syncRef := rfl
@[simp] theorem State.putFabric_fresh (s : State) (v : FabricState) : (s.putFabric v).fresh = s.fresh := rfl
@[simp] theorem State.putFabric_regs (s : State) (v : FabricState) : (s.putFabric v).regs = s.regs := rfl
@[simp] theorem State.putFabric_latches (s : State) (v : FabricState) : (s.putFabric v).latches = s.latches := rfl
@[simp] theorem State.putFabric_dev (s : State) (v : FabricState) : (s.putFabric v).dev = s.dev := rfl
@[simp] theorem State.putFabric_ledger (s : State) (v : FabricState) : (s.putFabric v).ledger = s.ledger := rfl
@[simp] theorem State.putFabric_mem (s : State) (v : FabricState) : (s.putFabric v).mem = s.mem := rfl
@[simp] theorem State.putFabric_cfg (s : State) (v : FabricState) : (s.putFabric v).cfg = s.cfg := rfl
@[simp] theorem State.putFabric_repair (s : State) (v : FabricState) : (s.putFabric v).repair = s.repair := rfl
@[simp] theorem State.putFabric_net (s : State) (v : FabricState) : (s.putFabric v).net = s.net := rfl
@[simp] theorem State.putFabric_beam (s : State) (v : FabricState) : (s.putFabric v).beam = s.beam := rfl
@[simp] theorem State.putFabric_record (s : State) (v : FabricState) : (s.putFabric v).record = s.record := rfl
@[simp] theorem State.putFabric_tally (s : State) (v : FabricState) : (s.putFabric v).tally = s.tally := rfl
@[simp] theorem State.putFabric_tbus (s : State) (v : FabricState) : (s.putFabric v).tbus = s.tbus := rfl
@[simp] theorem State.putFabric_lanes (s : State) (v : FabricState) : (s.putFabric v).lanes = s.lanes := rfl
@[simp] theorem State.putFabric_hbm (s : State) (v : FabricState) : (s.putFabric v).hbm = s.hbm := rfl
@[simp] theorem State.putFabric_store (s : State) (v : FabricState) : (s.putFabric v).store = s.store := rfl
@[simp] theorem State.putFabric_msix (s : State) (v : FabricState) : (s.putFabric v).msix = s.msix := rfl
@[simp] theorem State.putFabric_host (s : State) (v : FabricState) : (s.putFabric v).host = s.host := rfl
@[simp] theorem State.putFabric_seq (s : State) (v : FabricState) : (s.putFabric v).seq = s.seq := rfl
@[simp] theorem State.putFabric_dbg (s : State) (v : FabricState) : (s.putFabric v).dbg = s.dbg := rfl
@[simp] theorem State.putFabric_pins (s : State) (v : FabricState) : (s.putFabric v).pins = s.pins := rfl
@[simp] theorem State.putFabric_periph (s : State) (v : FabricState) : (s.putFabric v).periph = s.periph := rfl
@[simp] theorem State.putFabric_power (s : State) (v : FabricState) : (s.putFabric v).power = s.power := rfl
@[simp] theorem State.putFabric_out (s : State) (v : FabricState) : (s.putFabric v).out = s.out := rfl
@[simp] theorem State.putFabric_pending (s : State) (v : FabricState) : (s.putFabric v).pending = s.pending := rfl
@[simp] theorem State.putFabric_word (s : State) (v : FabricState) (r' : Reg) (i' : Nat) : (s.putFabric v).word r' i' = s.word r' i' := rfl
@[simp] theorem State.putFabric_f (s : State) (v : FabricState) (G : Fld) (i' : Nat) : (s.putFabric v).f G i' = s.f G i' := rfl
@[simp] theorem State.putFabric_on (s : State) (v : FabricState) (G : Fld) (i' : Nat) : (s.putFabric v).on G i' = s.on G i' := rfl
@[simp] theorem State.putFabric_now (s : State) (v : FabricState) : (s.putFabric v).now = s.now := rfl

-- ------------------------------------------------------------------ putMem

@[simp] theorem State.putMem_part (s : State) (v : MemState) : (s.putMem v).part = s.part := rfl
@[simp] theorem State.putMem_time (s : State) (v : MemState) : (s.putMem v).time = s.time := rfl
@[simp] theorem State.putMem_timeOffset (s : State) (v : MemState) : (s.putMem v).timeOffset = s.timeOffset := rfl
@[simp] theorem State.putMem_syncArmer (s : State) (v : MemState) : (s.putMem v).syncArmer = s.syncArmer := rfl
@[simp] theorem State.putMem_syncRef (s : State) (v : MemState) : (s.putMem v).syncRef = s.syncRef := rfl
@[simp] theorem State.putMem_fresh (s : State) (v : MemState) : (s.putMem v).fresh = s.fresh := rfl
@[simp] theorem State.putMem_regs (s : State) (v : MemState) : (s.putMem v).regs = s.regs := rfl
@[simp] theorem State.putMem_latches (s : State) (v : MemState) : (s.putMem v).latches = s.latches := rfl
@[simp] theorem State.putMem_dev (s : State) (v : MemState) : (s.putMem v).dev = s.dev := rfl
@[simp] theorem State.putMem_ledger (s : State) (v : MemState) : (s.putMem v).ledger = s.ledger := rfl
@[simp] theorem State.putMem_fabric (s : State) (v : MemState) : (s.putMem v).fabric = s.fabric := rfl
@[simp] theorem State.putMem_cfg (s : State) (v : MemState) : (s.putMem v).cfg = s.cfg := rfl
@[simp] theorem State.putMem_repair (s : State) (v : MemState) : (s.putMem v).repair = s.repair := rfl
@[simp] theorem State.putMem_net (s : State) (v : MemState) : (s.putMem v).net = s.net := rfl
@[simp] theorem State.putMem_beam (s : State) (v : MemState) : (s.putMem v).beam = s.beam := rfl
@[simp] theorem State.putMem_record (s : State) (v : MemState) : (s.putMem v).record = s.record := rfl
@[simp] theorem State.putMem_tally (s : State) (v : MemState) : (s.putMem v).tally = s.tally := rfl
@[simp] theorem State.putMem_tbus (s : State) (v : MemState) : (s.putMem v).tbus = s.tbus := rfl
@[simp] theorem State.putMem_lanes (s : State) (v : MemState) : (s.putMem v).lanes = s.lanes := rfl
@[simp] theorem State.putMem_hbm (s : State) (v : MemState) : (s.putMem v).hbm = s.hbm := rfl
@[simp] theorem State.putMem_store (s : State) (v : MemState) : (s.putMem v).store = s.store := rfl
@[simp] theorem State.putMem_msix (s : State) (v : MemState) : (s.putMem v).msix = s.msix := rfl
@[simp] theorem State.putMem_host (s : State) (v : MemState) : (s.putMem v).host = s.host := rfl
@[simp] theorem State.putMem_seq (s : State) (v : MemState) : (s.putMem v).seq = s.seq := rfl
@[simp] theorem State.putMem_dbg (s : State) (v : MemState) : (s.putMem v).dbg = s.dbg := rfl
@[simp] theorem State.putMem_pins (s : State) (v : MemState) : (s.putMem v).pins = s.pins := rfl
@[simp] theorem State.putMem_periph (s : State) (v : MemState) : (s.putMem v).periph = s.periph := rfl
@[simp] theorem State.putMem_power (s : State) (v : MemState) : (s.putMem v).power = s.power := rfl
@[simp] theorem State.putMem_out (s : State) (v : MemState) : (s.putMem v).out = s.out := rfl
@[simp] theorem State.putMem_pending (s : State) (v : MemState) : (s.putMem v).pending = s.pending := rfl
@[simp] theorem State.putMem_word (s : State) (v : MemState) (r' : Reg) (i' : Nat) : (s.putMem v).word r' i' = s.word r' i' := rfl
@[simp] theorem State.putMem_f (s : State) (v : MemState) (G : Fld) (i' : Nat) : (s.putMem v).f G i' = s.f G i' := rfl
@[simp] theorem State.putMem_on (s : State) (v : MemState) (G : Fld) (i' : Nat) : (s.putMem v).on G i' = s.on G i' := rfl
@[simp] theorem State.putMem_now (s : State) (v : MemState) : (s.putMem v).now = s.now := rfl

-- ------------------------------------------------------------------ putCfg

@[simp] theorem State.putCfg_part (s : State) (v : CfgState) : (s.putCfg v).part = s.part := rfl
@[simp] theorem State.putCfg_time (s : State) (v : CfgState) : (s.putCfg v).time = s.time := rfl
@[simp] theorem State.putCfg_timeOffset (s : State) (v : CfgState) : (s.putCfg v).timeOffset = s.timeOffset := rfl
@[simp] theorem State.putCfg_syncArmer (s : State) (v : CfgState) : (s.putCfg v).syncArmer = s.syncArmer := rfl
@[simp] theorem State.putCfg_syncRef (s : State) (v : CfgState) : (s.putCfg v).syncRef = s.syncRef := rfl
@[simp] theorem State.putCfg_fresh (s : State) (v : CfgState) : (s.putCfg v).fresh = s.fresh := rfl
@[simp] theorem State.putCfg_regs (s : State) (v : CfgState) : (s.putCfg v).regs = s.regs := rfl
@[simp] theorem State.putCfg_latches (s : State) (v : CfgState) : (s.putCfg v).latches = s.latches := rfl
@[simp] theorem State.putCfg_dev (s : State) (v : CfgState) : (s.putCfg v).dev = s.dev := rfl
@[simp] theorem State.putCfg_ledger (s : State) (v : CfgState) : (s.putCfg v).ledger = s.ledger := rfl
@[simp] theorem State.putCfg_fabric (s : State) (v : CfgState) : (s.putCfg v).fabric = s.fabric := rfl
@[simp] theorem State.putCfg_mem (s : State) (v : CfgState) : (s.putCfg v).mem = s.mem := rfl
@[simp] theorem State.putCfg_repair (s : State) (v : CfgState) : (s.putCfg v).repair = s.repair := rfl
@[simp] theorem State.putCfg_net (s : State) (v : CfgState) : (s.putCfg v).net = s.net := rfl
@[simp] theorem State.putCfg_beam (s : State) (v : CfgState) : (s.putCfg v).beam = s.beam := rfl
@[simp] theorem State.putCfg_record (s : State) (v : CfgState) : (s.putCfg v).record = s.record := rfl
@[simp] theorem State.putCfg_tally (s : State) (v : CfgState) : (s.putCfg v).tally = s.tally := rfl
@[simp] theorem State.putCfg_tbus (s : State) (v : CfgState) : (s.putCfg v).tbus = s.tbus := rfl
@[simp] theorem State.putCfg_lanes (s : State) (v : CfgState) : (s.putCfg v).lanes = s.lanes := rfl
@[simp] theorem State.putCfg_hbm (s : State) (v : CfgState) : (s.putCfg v).hbm = s.hbm := rfl
@[simp] theorem State.putCfg_store (s : State) (v : CfgState) : (s.putCfg v).store = s.store := rfl
@[simp] theorem State.putCfg_msix (s : State) (v : CfgState) : (s.putCfg v).msix = s.msix := rfl
@[simp] theorem State.putCfg_host (s : State) (v : CfgState) : (s.putCfg v).host = s.host := rfl
@[simp] theorem State.putCfg_seq (s : State) (v : CfgState) : (s.putCfg v).seq = s.seq := rfl
@[simp] theorem State.putCfg_dbg (s : State) (v : CfgState) : (s.putCfg v).dbg = s.dbg := rfl
@[simp] theorem State.putCfg_pins (s : State) (v : CfgState) : (s.putCfg v).pins = s.pins := rfl
@[simp] theorem State.putCfg_periph (s : State) (v : CfgState) : (s.putCfg v).periph = s.periph := rfl
@[simp] theorem State.putCfg_power (s : State) (v : CfgState) : (s.putCfg v).power = s.power := rfl
@[simp] theorem State.putCfg_out (s : State) (v : CfgState) : (s.putCfg v).out = s.out := rfl
@[simp] theorem State.putCfg_pending (s : State) (v : CfgState) : (s.putCfg v).pending = s.pending := rfl
@[simp] theorem State.putCfg_word (s : State) (v : CfgState) (r' : Reg) (i' : Nat) : (s.putCfg v).word r' i' = s.word r' i' := rfl
@[simp] theorem State.putCfg_f (s : State) (v : CfgState) (G : Fld) (i' : Nat) : (s.putCfg v).f G i' = s.f G i' := rfl
@[simp] theorem State.putCfg_on (s : State) (v : CfgState) (G : Fld) (i' : Nat) : (s.putCfg v).on G i' = s.on G i' := rfl
@[simp] theorem State.putCfg_now (s : State) (v : CfgState) : (s.putCfg v).now = s.now := rfl

-- ------------------------------------------------------------------ putRepair

@[simp] theorem State.putRepair_part (s : State) (v : RepairState) : (s.putRepair v).part = s.part := rfl
@[simp] theorem State.putRepair_time (s : State) (v : RepairState) : (s.putRepair v).time = s.time := rfl
@[simp] theorem State.putRepair_timeOffset (s : State) (v : RepairState) : (s.putRepair v).timeOffset = s.timeOffset := rfl
@[simp] theorem State.putRepair_syncArmer (s : State) (v : RepairState) : (s.putRepair v).syncArmer = s.syncArmer := rfl
@[simp] theorem State.putRepair_syncRef (s : State) (v : RepairState) : (s.putRepair v).syncRef = s.syncRef := rfl
@[simp] theorem State.putRepair_fresh (s : State) (v : RepairState) : (s.putRepair v).fresh = s.fresh := rfl
@[simp] theorem State.putRepair_regs (s : State) (v : RepairState) : (s.putRepair v).regs = s.regs := rfl
@[simp] theorem State.putRepair_latches (s : State) (v : RepairState) : (s.putRepair v).latches = s.latches := rfl
@[simp] theorem State.putRepair_dev (s : State) (v : RepairState) : (s.putRepair v).dev = s.dev := rfl
@[simp] theorem State.putRepair_ledger (s : State) (v : RepairState) : (s.putRepair v).ledger = s.ledger := rfl
@[simp] theorem State.putRepair_fabric (s : State) (v : RepairState) : (s.putRepair v).fabric = s.fabric := rfl
@[simp] theorem State.putRepair_mem (s : State) (v : RepairState) : (s.putRepair v).mem = s.mem := rfl
@[simp] theorem State.putRepair_cfg (s : State) (v : RepairState) : (s.putRepair v).cfg = s.cfg := rfl
@[simp] theorem State.putRepair_net (s : State) (v : RepairState) : (s.putRepair v).net = s.net := rfl
@[simp] theorem State.putRepair_beam (s : State) (v : RepairState) : (s.putRepair v).beam = s.beam := rfl
@[simp] theorem State.putRepair_record (s : State) (v : RepairState) : (s.putRepair v).record = s.record := rfl
@[simp] theorem State.putRepair_tally (s : State) (v : RepairState) : (s.putRepair v).tally = s.tally := rfl
@[simp] theorem State.putRepair_tbus (s : State) (v : RepairState) : (s.putRepair v).tbus = s.tbus := rfl
@[simp] theorem State.putRepair_lanes (s : State) (v : RepairState) : (s.putRepair v).lanes = s.lanes := rfl
@[simp] theorem State.putRepair_hbm (s : State) (v : RepairState) : (s.putRepair v).hbm = s.hbm := rfl
@[simp] theorem State.putRepair_store (s : State) (v : RepairState) : (s.putRepair v).store = s.store := rfl
@[simp] theorem State.putRepair_msix (s : State) (v : RepairState) : (s.putRepair v).msix = s.msix := rfl
@[simp] theorem State.putRepair_host (s : State) (v : RepairState) : (s.putRepair v).host = s.host := rfl
@[simp] theorem State.putRepair_seq (s : State) (v : RepairState) : (s.putRepair v).seq = s.seq := rfl
@[simp] theorem State.putRepair_dbg (s : State) (v : RepairState) : (s.putRepair v).dbg = s.dbg := rfl
@[simp] theorem State.putRepair_pins (s : State) (v : RepairState) : (s.putRepair v).pins = s.pins := rfl
@[simp] theorem State.putRepair_periph (s : State) (v : RepairState) : (s.putRepair v).periph = s.periph := rfl
@[simp] theorem State.putRepair_power (s : State) (v : RepairState) : (s.putRepair v).power = s.power := rfl
@[simp] theorem State.putRepair_out (s : State) (v : RepairState) : (s.putRepair v).out = s.out := rfl
@[simp] theorem State.putRepair_pending (s : State) (v : RepairState) : (s.putRepair v).pending = s.pending := rfl
@[simp] theorem State.putRepair_word (s : State) (v : RepairState) (r' : Reg) (i' : Nat) : (s.putRepair v).word r' i' = s.word r' i' := rfl
@[simp] theorem State.putRepair_f (s : State) (v : RepairState) (G : Fld) (i' : Nat) : (s.putRepair v).f G i' = s.f G i' := rfl
@[simp] theorem State.putRepair_on (s : State) (v : RepairState) (G : Fld) (i' : Nat) : (s.putRepair v).on G i' = s.on G i' := rfl
@[simp] theorem State.putRepair_now (s : State) (v : RepairState) : (s.putRepair v).now = s.now := rfl

-- ------------------------------------------------------------------ putNet

@[simp] theorem State.putNet_part (s : State) (v : NetState) : (s.putNet v).part = s.part := rfl
@[simp] theorem State.putNet_time (s : State) (v : NetState) : (s.putNet v).time = s.time := rfl
@[simp] theorem State.putNet_timeOffset (s : State) (v : NetState) : (s.putNet v).timeOffset = s.timeOffset := rfl
@[simp] theorem State.putNet_syncArmer (s : State) (v : NetState) : (s.putNet v).syncArmer = s.syncArmer := rfl
@[simp] theorem State.putNet_syncRef (s : State) (v : NetState) : (s.putNet v).syncRef = s.syncRef := rfl
@[simp] theorem State.putNet_fresh (s : State) (v : NetState) : (s.putNet v).fresh = s.fresh := rfl
@[simp] theorem State.putNet_regs (s : State) (v : NetState) : (s.putNet v).regs = s.regs := rfl
@[simp] theorem State.putNet_latches (s : State) (v : NetState) : (s.putNet v).latches = s.latches := rfl
@[simp] theorem State.putNet_dev (s : State) (v : NetState) : (s.putNet v).dev = s.dev := rfl
@[simp] theorem State.putNet_ledger (s : State) (v : NetState) : (s.putNet v).ledger = s.ledger := rfl
@[simp] theorem State.putNet_fabric (s : State) (v : NetState) : (s.putNet v).fabric = s.fabric := rfl
@[simp] theorem State.putNet_mem (s : State) (v : NetState) : (s.putNet v).mem = s.mem := rfl
@[simp] theorem State.putNet_cfg (s : State) (v : NetState) : (s.putNet v).cfg = s.cfg := rfl
@[simp] theorem State.putNet_repair (s : State) (v : NetState) : (s.putNet v).repair = s.repair := rfl
@[simp] theorem State.putNet_beam (s : State) (v : NetState) : (s.putNet v).beam = s.beam := rfl
@[simp] theorem State.putNet_record (s : State) (v : NetState) : (s.putNet v).record = s.record := rfl
@[simp] theorem State.putNet_tally (s : State) (v : NetState) : (s.putNet v).tally = s.tally := rfl
@[simp] theorem State.putNet_tbus (s : State) (v : NetState) : (s.putNet v).tbus = s.tbus := rfl
@[simp] theorem State.putNet_lanes (s : State) (v : NetState) : (s.putNet v).lanes = s.lanes := rfl
@[simp] theorem State.putNet_hbm (s : State) (v : NetState) : (s.putNet v).hbm = s.hbm := rfl
@[simp] theorem State.putNet_store (s : State) (v : NetState) : (s.putNet v).store = s.store := rfl
@[simp] theorem State.putNet_msix (s : State) (v : NetState) : (s.putNet v).msix = s.msix := rfl
@[simp] theorem State.putNet_host (s : State) (v : NetState) : (s.putNet v).host = s.host := rfl
@[simp] theorem State.putNet_seq (s : State) (v : NetState) : (s.putNet v).seq = s.seq := rfl
@[simp] theorem State.putNet_dbg (s : State) (v : NetState) : (s.putNet v).dbg = s.dbg := rfl
@[simp] theorem State.putNet_pins (s : State) (v : NetState) : (s.putNet v).pins = s.pins := rfl
@[simp] theorem State.putNet_periph (s : State) (v : NetState) : (s.putNet v).periph = s.periph := rfl
@[simp] theorem State.putNet_power (s : State) (v : NetState) : (s.putNet v).power = s.power := rfl
@[simp] theorem State.putNet_out (s : State) (v : NetState) : (s.putNet v).out = s.out := rfl
@[simp] theorem State.putNet_pending (s : State) (v : NetState) : (s.putNet v).pending = s.pending := rfl
@[simp] theorem State.putNet_word (s : State) (v : NetState) (r' : Reg) (i' : Nat) : (s.putNet v).word r' i' = s.word r' i' := rfl
@[simp] theorem State.putNet_f (s : State) (v : NetState) (G : Fld) (i' : Nat) : (s.putNet v).f G i' = s.f G i' := rfl
@[simp] theorem State.putNet_on (s : State) (v : NetState) (G : Fld) (i' : Nat) : (s.putNet v).on G i' = s.on G i' := rfl
@[simp] theorem State.putNet_now (s : State) (v : NetState) : (s.putNet v).now = s.now := rfl

-- ------------------------------------------------------------------ putBeam

@[simp] theorem State.putBeam_part (s : State) (v : BeamState) : (s.putBeam v).part = s.part := rfl
@[simp] theorem State.putBeam_time (s : State) (v : BeamState) : (s.putBeam v).time = s.time := rfl
@[simp] theorem State.putBeam_timeOffset (s : State) (v : BeamState) : (s.putBeam v).timeOffset = s.timeOffset := rfl
@[simp] theorem State.putBeam_syncArmer (s : State) (v : BeamState) : (s.putBeam v).syncArmer = s.syncArmer := rfl
@[simp] theorem State.putBeam_syncRef (s : State) (v : BeamState) : (s.putBeam v).syncRef = s.syncRef := rfl
@[simp] theorem State.putBeam_fresh (s : State) (v : BeamState) : (s.putBeam v).fresh = s.fresh := rfl
@[simp] theorem State.putBeam_regs (s : State) (v : BeamState) : (s.putBeam v).regs = s.regs := rfl
@[simp] theorem State.putBeam_latches (s : State) (v : BeamState) : (s.putBeam v).latches = s.latches := rfl
@[simp] theorem State.putBeam_dev (s : State) (v : BeamState) : (s.putBeam v).dev = s.dev := rfl
@[simp] theorem State.putBeam_ledger (s : State) (v : BeamState) : (s.putBeam v).ledger = s.ledger := rfl
@[simp] theorem State.putBeam_fabric (s : State) (v : BeamState) : (s.putBeam v).fabric = s.fabric := rfl
@[simp] theorem State.putBeam_mem (s : State) (v : BeamState) : (s.putBeam v).mem = s.mem := rfl
@[simp] theorem State.putBeam_cfg (s : State) (v : BeamState) : (s.putBeam v).cfg = s.cfg := rfl
@[simp] theorem State.putBeam_repair (s : State) (v : BeamState) : (s.putBeam v).repair = s.repair := rfl
@[simp] theorem State.putBeam_net (s : State) (v : BeamState) : (s.putBeam v).net = s.net := rfl
@[simp] theorem State.putBeam_record (s : State) (v : BeamState) : (s.putBeam v).record = s.record := rfl
@[simp] theorem State.putBeam_tally (s : State) (v : BeamState) : (s.putBeam v).tally = s.tally := rfl
@[simp] theorem State.putBeam_tbus (s : State) (v : BeamState) : (s.putBeam v).tbus = s.tbus := rfl
@[simp] theorem State.putBeam_lanes (s : State) (v : BeamState) : (s.putBeam v).lanes = s.lanes := rfl
@[simp] theorem State.putBeam_hbm (s : State) (v : BeamState) : (s.putBeam v).hbm = s.hbm := rfl
@[simp] theorem State.putBeam_store (s : State) (v : BeamState) : (s.putBeam v).store = s.store := rfl
@[simp] theorem State.putBeam_msix (s : State) (v : BeamState) : (s.putBeam v).msix = s.msix := rfl
@[simp] theorem State.putBeam_host (s : State) (v : BeamState) : (s.putBeam v).host = s.host := rfl
@[simp] theorem State.putBeam_seq (s : State) (v : BeamState) : (s.putBeam v).seq = s.seq := rfl
@[simp] theorem State.putBeam_dbg (s : State) (v : BeamState) : (s.putBeam v).dbg = s.dbg := rfl
@[simp] theorem State.putBeam_pins (s : State) (v : BeamState) : (s.putBeam v).pins = s.pins := rfl
@[simp] theorem State.putBeam_periph (s : State) (v : BeamState) : (s.putBeam v).periph = s.periph := rfl
@[simp] theorem State.putBeam_power (s : State) (v : BeamState) : (s.putBeam v).power = s.power := rfl
@[simp] theorem State.putBeam_out (s : State) (v : BeamState) : (s.putBeam v).out = s.out := rfl
@[simp] theorem State.putBeam_pending (s : State) (v : BeamState) : (s.putBeam v).pending = s.pending := rfl
@[simp] theorem State.putBeam_word (s : State) (v : BeamState) (r' : Reg) (i' : Nat) : (s.putBeam v).word r' i' = s.word r' i' := rfl
@[simp] theorem State.putBeam_f (s : State) (v : BeamState) (G : Fld) (i' : Nat) : (s.putBeam v).f G i' = s.f G i' := rfl
@[simp] theorem State.putBeam_on (s : State) (v : BeamState) (G : Fld) (i' : Nat) : (s.putBeam v).on G i' = s.on G i' := rfl
@[simp] theorem State.putBeam_now (s : State) (v : BeamState) : (s.putBeam v).now = s.now := rfl

-- ------------------------------------------------------------------ putRecord

@[simp] theorem State.putRecord_part (s : State) (v : RecordState) : (s.putRecord v).part = s.part := rfl
@[simp] theorem State.putRecord_time (s : State) (v : RecordState) : (s.putRecord v).time = s.time := rfl
@[simp] theorem State.putRecord_timeOffset (s : State) (v : RecordState) : (s.putRecord v).timeOffset = s.timeOffset := rfl
@[simp] theorem State.putRecord_syncArmer (s : State) (v : RecordState) : (s.putRecord v).syncArmer = s.syncArmer := rfl
@[simp] theorem State.putRecord_syncRef (s : State) (v : RecordState) : (s.putRecord v).syncRef = s.syncRef := rfl
@[simp] theorem State.putRecord_fresh (s : State) (v : RecordState) : (s.putRecord v).fresh = s.fresh := rfl
@[simp] theorem State.putRecord_regs (s : State) (v : RecordState) : (s.putRecord v).regs = s.regs := rfl
@[simp] theorem State.putRecord_latches (s : State) (v : RecordState) : (s.putRecord v).latches = s.latches := rfl
@[simp] theorem State.putRecord_dev (s : State) (v : RecordState) : (s.putRecord v).dev = s.dev := rfl
@[simp] theorem State.putRecord_ledger (s : State) (v : RecordState) : (s.putRecord v).ledger = s.ledger := rfl
@[simp] theorem State.putRecord_fabric (s : State) (v : RecordState) : (s.putRecord v).fabric = s.fabric := rfl
@[simp] theorem State.putRecord_mem (s : State) (v : RecordState) : (s.putRecord v).mem = s.mem := rfl
@[simp] theorem State.putRecord_cfg (s : State) (v : RecordState) : (s.putRecord v).cfg = s.cfg := rfl
@[simp] theorem State.putRecord_repair (s : State) (v : RecordState) : (s.putRecord v).repair = s.repair := rfl
@[simp] theorem State.putRecord_net (s : State) (v : RecordState) : (s.putRecord v).net = s.net := rfl
@[simp] theorem State.putRecord_beam (s : State) (v : RecordState) : (s.putRecord v).beam = s.beam := rfl
@[simp] theorem State.putRecord_tally (s : State) (v : RecordState) : (s.putRecord v).tally = s.tally := rfl
@[simp] theorem State.putRecord_tbus (s : State) (v : RecordState) : (s.putRecord v).tbus = s.tbus := rfl
@[simp] theorem State.putRecord_lanes (s : State) (v : RecordState) : (s.putRecord v).lanes = s.lanes := rfl
@[simp] theorem State.putRecord_hbm (s : State) (v : RecordState) : (s.putRecord v).hbm = s.hbm := rfl
@[simp] theorem State.putRecord_store (s : State) (v : RecordState) : (s.putRecord v).store = s.store := rfl
@[simp] theorem State.putRecord_msix (s : State) (v : RecordState) : (s.putRecord v).msix = s.msix := rfl
@[simp] theorem State.putRecord_host (s : State) (v : RecordState) : (s.putRecord v).host = s.host := rfl
@[simp] theorem State.putRecord_seq (s : State) (v : RecordState) : (s.putRecord v).seq = s.seq := rfl
@[simp] theorem State.putRecord_dbg (s : State) (v : RecordState) : (s.putRecord v).dbg = s.dbg := rfl
@[simp] theorem State.putRecord_pins (s : State) (v : RecordState) : (s.putRecord v).pins = s.pins := rfl
@[simp] theorem State.putRecord_periph (s : State) (v : RecordState) : (s.putRecord v).periph = s.periph := rfl
@[simp] theorem State.putRecord_power (s : State) (v : RecordState) : (s.putRecord v).power = s.power := rfl
@[simp] theorem State.putRecord_out (s : State) (v : RecordState) : (s.putRecord v).out = s.out := rfl
@[simp] theorem State.putRecord_pending (s : State) (v : RecordState) : (s.putRecord v).pending = s.pending := rfl
@[simp] theorem State.putRecord_word (s : State) (v : RecordState) (r' : Reg) (i' : Nat) : (s.putRecord v).word r' i' = s.word r' i' := rfl
@[simp] theorem State.putRecord_f (s : State) (v : RecordState) (G : Fld) (i' : Nat) : (s.putRecord v).f G i' = s.f G i' := rfl
@[simp] theorem State.putRecord_on (s : State) (v : RecordState) (G : Fld) (i' : Nat) : (s.putRecord v).on G i' = s.on G i' := rfl
@[simp] theorem State.putRecord_now (s : State) (v : RecordState) : (s.putRecord v).now = s.now := rfl

-- ------------------------------------------------------------------ putTally

@[simp] theorem State.putTally_part (s : State) (v : TallyState) : (s.putTally v).part = s.part := rfl
@[simp] theorem State.putTally_time (s : State) (v : TallyState) : (s.putTally v).time = s.time := rfl
@[simp] theorem State.putTally_timeOffset (s : State) (v : TallyState) : (s.putTally v).timeOffset = s.timeOffset := rfl
@[simp] theorem State.putTally_syncArmer (s : State) (v : TallyState) : (s.putTally v).syncArmer = s.syncArmer := rfl
@[simp] theorem State.putTally_syncRef (s : State) (v : TallyState) : (s.putTally v).syncRef = s.syncRef := rfl
@[simp] theorem State.putTally_fresh (s : State) (v : TallyState) : (s.putTally v).fresh = s.fresh := rfl
@[simp] theorem State.putTally_regs (s : State) (v : TallyState) : (s.putTally v).regs = s.regs := rfl
@[simp] theorem State.putTally_latches (s : State) (v : TallyState) : (s.putTally v).latches = s.latches := rfl
@[simp] theorem State.putTally_dev (s : State) (v : TallyState) : (s.putTally v).dev = s.dev := rfl
@[simp] theorem State.putTally_ledger (s : State) (v : TallyState) : (s.putTally v).ledger = s.ledger := rfl
@[simp] theorem State.putTally_fabric (s : State) (v : TallyState) : (s.putTally v).fabric = s.fabric := rfl
@[simp] theorem State.putTally_mem (s : State) (v : TallyState) : (s.putTally v).mem = s.mem := rfl
@[simp] theorem State.putTally_cfg (s : State) (v : TallyState) : (s.putTally v).cfg = s.cfg := rfl
@[simp] theorem State.putTally_repair (s : State) (v : TallyState) : (s.putTally v).repair = s.repair := rfl
@[simp] theorem State.putTally_net (s : State) (v : TallyState) : (s.putTally v).net = s.net := rfl
@[simp] theorem State.putTally_beam (s : State) (v : TallyState) : (s.putTally v).beam = s.beam := rfl
@[simp] theorem State.putTally_record (s : State) (v : TallyState) : (s.putTally v).record = s.record := rfl
@[simp] theorem State.putTally_tbus (s : State) (v : TallyState) : (s.putTally v).tbus = s.tbus := rfl
@[simp] theorem State.putTally_lanes (s : State) (v : TallyState) : (s.putTally v).lanes = s.lanes := rfl
@[simp] theorem State.putTally_hbm (s : State) (v : TallyState) : (s.putTally v).hbm = s.hbm := rfl
@[simp] theorem State.putTally_store (s : State) (v : TallyState) : (s.putTally v).store = s.store := rfl
@[simp] theorem State.putTally_msix (s : State) (v : TallyState) : (s.putTally v).msix = s.msix := rfl
@[simp] theorem State.putTally_host (s : State) (v : TallyState) : (s.putTally v).host = s.host := rfl
@[simp] theorem State.putTally_seq (s : State) (v : TallyState) : (s.putTally v).seq = s.seq := rfl
@[simp] theorem State.putTally_dbg (s : State) (v : TallyState) : (s.putTally v).dbg = s.dbg := rfl
@[simp] theorem State.putTally_pins (s : State) (v : TallyState) : (s.putTally v).pins = s.pins := rfl
@[simp] theorem State.putTally_periph (s : State) (v : TallyState) : (s.putTally v).periph = s.periph := rfl
@[simp] theorem State.putTally_power (s : State) (v : TallyState) : (s.putTally v).power = s.power := rfl
@[simp] theorem State.putTally_out (s : State) (v : TallyState) : (s.putTally v).out = s.out := rfl
@[simp] theorem State.putTally_pending (s : State) (v : TallyState) : (s.putTally v).pending = s.pending := rfl
@[simp] theorem State.putTally_word (s : State) (v : TallyState) (r' : Reg) (i' : Nat) : (s.putTally v).word r' i' = s.word r' i' := rfl
@[simp] theorem State.putTally_f (s : State) (v : TallyState) (G : Fld) (i' : Nat) : (s.putTally v).f G i' = s.f G i' := rfl
@[simp] theorem State.putTally_on (s : State) (v : TallyState) (G : Fld) (i' : Nat) : (s.putTally v).on G i' = s.on G i' := rfl
@[simp] theorem State.putTally_now (s : State) (v : TallyState) : (s.putTally v).now = s.now := rfl

-- ------------------------------------------------------------------ putTbus

@[simp] theorem State.putTbus_part (s : State) (v : TbusState) : (s.putTbus v).part = s.part := rfl
@[simp] theorem State.putTbus_time (s : State) (v : TbusState) : (s.putTbus v).time = s.time := rfl
@[simp] theorem State.putTbus_timeOffset (s : State) (v : TbusState) : (s.putTbus v).timeOffset = s.timeOffset := rfl
@[simp] theorem State.putTbus_syncArmer (s : State) (v : TbusState) : (s.putTbus v).syncArmer = s.syncArmer := rfl
@[simp] theorem State.putTbus_syncRef (s : State) (v : TbusState) : (s.putTbus v).syncRef = s.syncRef := rfl
@[simp] theorem State.putTbus_fresh (s : State) (v : TbusState) : (s.putTbus v).fresh = s.fresh := rfl
@[simp] theorem State.putTbus_regs (s : State) (v : TbusState) : (s.putTbus v).regs = s.regs := rfl
@[simp] theorem State.putTbus_latches (s : State) (v : TbusState) : (s.putTbus v).latches = s.latches := rfl
@[simp] theorem State.putTbus_dev (s : State) (v : TbusState) : (s.putTbus v).dev = s.dev := rfl
@[simp] theorem State.putTbus_ledger (s : State) (v : TbusState) : (s.putTbus v).ledger = s.ledger := rfl
@[simp] theorem State.putTbus_fabric (s : State) (v : TbusState) : (s.putTbus v).fabric = s.fabric := rfl
@[simp] theorem State.putTbus_mem (s : State) (v : TbusState) : (s.putTbus v).mem = s.mem := rfl
@[simp] theorem State.putTbus_cfg (s : State) (v : TbusState) : (s.putTbus v).cfg = s.cfg := rfl
@[simp] theorem State.putTbus_repair (s : State) (v : TbusState) : (s.putTbus v).repair = s.repair := rfl
@[simp] theorem State.putTbus_net (s : State) (v : TbusState) : (s.putTbus v).net = s.net := rfl
@[simp] theorem State.putTbus_beam (s : State) (v : TbusState) : (s.putTbus v).beam = s.beam := rfl
@[simp] theorem State.putTbus_record (s : State) (v : TbusState) : (s.putTbus v).record = s.record := rfl
@[simp] theorem State.putTbus_tally (s : State) (v : TbusState) : (s.putTbus v).tally = s.tally := rfl
@[simp] theorem State.putTbus_lanes (s : State) (v : TbusState) : (s.putTbus v).lanes = s.lanes := rfl
@[simp] theorem State.putTbus_hbm (s : State) (v : TbusState) : (s.putTbus v).hbm = s.hbm := rfl
@[simp] theorem State.putTbus_store (s : State) (v : TbusState) : (s.putTbus v).store = s.store := rfl
@[simp] theorem State.putTbus_msix (s : State) (v : TbusState) : (s.putTbus v).msix = s.msix := rfl
@[simp] theorem State.putTbus_host (s : State) (v : TbusState) : (s.putTbus v).host = s.host := rfl
@[simp] theorem State.putTbus_seq (s : State) (v : TbusState) : (s.putTbus v).seq = s.seq := rfl
@[simp] theorem State.putTbus_dbg (s : State) (v : TbusState) : (s.putTbus v).dbg = s.dbg := rfl
@[simp] theorem State.putTbus_pins (s : State) (v : TbusState) : (s.putTbus v).pins = s.pins := rfl
@[simp] theorem State.putTbus_periph (s : State) (v : TbusState) : (s.putTbus v).periph = s.periph := rfl
@[simp] theorem State.putTbus_power (s : State) (v : TbusState) : (s.putTbus v).power = s.power := rfl
@[simp] theorem State.putTbus_out (s : State) (v : TbusState) : (s.putTbus v).out = s.out := rfl
@[simp] theorem State.putTbus_pending (s : State) (v : TbusState) : (s.putTbus v).pending = s.pending := rfl
@[simp] theorem State.putTbus_word (s : State) (v : TbusState) (r' : Reg) (i' : Nat) : (s.putTbus v).word r' i' = s.word r' i' := rfl
@[simp] theorem State.putTbus_f (s : State) (v : TbusState) (G : Fld) (i' : Nat) : (s.putTbus v).f G i' = s.f G i' := rfl
@[simp] theorem State.putTbus_on (s : State) (v : TbusState) (G : Fld) (i' : Nat) : (s.putTbus v).on G i' = s.on G i' := rfl
@[simp] theorem State.putTbus_now (s : State) (v : TbusState) : (s.putTbus v).now = s.now := rfl

-- ------------------------------------------------------------------ putLanes

@[simp] theorem State.putLanes_part (s : State) (v : LanesState) : (s.putLanes v).part = s.part := rfl
@[simp] theorem State.putLanes_time (s : State) (v : LanesState) : (s.putLanes v).time = s.time := rfl
@[simp] theorem State.putLanes_timeOffset (s : State) (v : LanesState) : (s.putLanes v).timeOffset = s.timeOffset := rfl
@[simp] theorem State.putLanes_syncArmer (s : State) (v : LanesState) : (s.putLanes v).syncArmer = s.syncArmer := rfl
@[simp] theorem State.putLanes_syncRef (s : State) (v : LanesState) : (s.putLanes v).syncRef = s.syncRef := rfl
@[simp] theorem State.putLanes_fresh (s : State) (v : LanesState) : (s.putLanes v).fresh = s.fresh := rfl
@[simp] theorem State.putLanes_regs (s : State) (v : LanesState) : (s.putLanes v).regs = s.regs := rfl
@[simp] theorem State.putLanes_latches (s : State) (v : LanesState) : (s.putLanes v).latches = s.latches := rfl
@[simp] theorem State.putLanes_dev (s : State) (v : LanesState) : (s.putLanes v).dev = s.dev := rfl
@[simp] theorem State.putLanes_ledger (s : State) (v : LanesState) : (s.putLanes v).ledger = s.ledger := rfl
@[simp] theorem State.putLanes_fabric (s : State) (v : LanesState) : (s.putLanes v).fabric = s.fabric := rfl
@[simp] theorem State.putLanes_mem (s : State) (v : LanesState) : (s.putLanes v).mem = s.mem := rfl
@[simp] theorem State.putLanes_cfg (s : State) (v : LanesState) : (s.putLanes v).cfg = s.cfg := rfl
@[simp] theorem State.putLanes_repair (s : State) (v : LanesState) : (s.putLanes v).repair = s.repair := rfl
@[simp] theorem State.putLanes_net (s : State) (v : LanesState) : (s.putLanes v).net = s.net := rfl
@[simp] theorem State.putLanes_beam (s : State) (v : LanesState) : (s.putLanes v).beam = s.beam := rfl
@[simp] theorem State.putLanes_record (s : State) (v : LanesState) : (s.putLanes v).record = s.record := rfl
@[simp] theorem State.putLanes_tally (s : State) (v : LanesState) : (s.putLanes v).tally = s.tally := rfl
@[simp] theorem State.putLanes_tbus (s : State) (v : LanesState) : (s.putLanes v).tbus = s.tbus := rfl
@[simp] theorem State.putLanes_hbm (s : State) (v : LanesState) : (s.putLanes v).hbm = s.hbm := rfl
@[simp] theorem State.putLanes_store (s : State) (v : LanesState) : (s.putLanes v).store = s.store := rfl
@[simp] theorem State.putLanes_msix (s : State) (v : LanesState) : (s.putLanes v).msix = s.msix := rfl
@[simp] theorem State.putLanes_host (s : State) (v : LanesState) : (s.putLanes v).host = s.host := rfl
@[simp] theorem State.putLanes_seq (s : State) (v : LanesState) : (s.putLanes v).seq = s.seq := rfl
@[simp] theorem State.putLanes_dbg (s : State) (v : LanesState) : (s.putLanes v).dbg = s.dbg := rfl
@[simp] theorem State.putLanes_pins (s : State) (v : LanesState) : (s.putLanes v).pins = s.pins := rfl
@[simp] theorem State.putLanes_periph (s : State) (v : LanesState) : (s.putLanes v).periph = s.periph := rfl
@[simp] theorem State.putLanes_power (s : State) (v : LanesState) : (s.putLanes v).power = s.power := rfl
@[simp] theorem State.putLanes_out (s : State) (v : LanesState) : (s.putLanes v).out = s.out := rfl
@[simp] theorem State.putLanes_pending (s : State) (v : LanesState) : (s.putLanes v).pending = s.pending := rfl
@[simp] theorem State.putLanes_word (s : State) (v : LanesState) (r' : Reg) (i' : Nat) : (s.putLanes v).word r' i' = s.word r' i' := rfl
@[simp] theorem State.putLanes_f (s : State) (v : LanesState) (G : Fld) (i' : Nat) : (s.putLanes v).f G i' = s.f G i' := rfl
@[simp] theorem State.putLanes_on (s : State) (v : LanesState) (G : Fld) (i' : Nat) : (s.putLanes v).on G i' = s.on G i' := rfl
@[simp] theorem State.putLanes_now (s : State) (v : LanesState) : (s.putLanes v).now = s.now := rfl

-- ------------------------------------------------------------------ putHbm

@[simp] theorem State.putHbm_part (s : State) (v : HbmState) : (s.putHbm v).part = s.part := rfl
@[simp] theorem State.putHbm_time (s : State) (v : HbmState) : (s.putHbm v).time = s.time := rfl
@[simp] theorem State.putHbm_timeOffset (s : State) (v : HbmState) : (s.putHbm v).timeOffset = s.timeOffset := rfl
@[simp] theorem State.putHbm_syncArmer (s : State) (v : HbmState) : (s.putHbm v).syncArmer = s.syncArmer := rfl
@[simp] theorem State.putHbm_syncRef (s : State) (v : HbmState) : (s.putHbm v).syncRef = s.syncRef := rfl
@[simp] theorem State.putHbm_fresh (s : State) (v : HbmState) : (s.putHbm v).fresh = s.fresh := rfl
@[simp] theorem State.putHbm_regs (s : State) (v : HbmState) : (s.putHbm v).regs = s.regs := rfl
@[simp] theorem State.putHbm_latches (s : State) (v : HbmState) : (s.putHbm v).latches = s.latches := rfl
@[simp] theorem State.putHbm_dev (s : State) (v : HbmState) : (s.putHbm v).dev = s.dev := rfl
@[simp] theorem State.putHbm_ledger (s : State) (v : HbmState) : (s.putHbm v).ledger = s.ledger := rfl
@[simp] theorem State.putHbm_fabric (s : State) (v : HbmState) : (s.putHbm v).fabric = s.fabric := rfl
@[simp] theorem State.putHbm_mem (s : State) (v : HbmState) : (s.putHbm v).mem = s.mem := rfl
@[simp] theorem State.putHbm_cfg (s : State) (v : HbmState) : (s.putHbm v).cfg = s.cfg := rfl
@[simp] theorem State.putHbm_repair (s : State) (v : HbmState) : (s.putHbm v).repair = s.repair := rfl
@[simp] theorem State.putHbm_net (s : State) (v : HbmState) : (s.putHbm v).net = s.net := rfl
@[simp] theorem State.putHbm_beam (s : State) (v : HbmState) : (s.putHbm v).beam = s.beam := rfl
@[simp] theorem State.putHbm_record (s : State) (v : HbmState) : (s.putHbm v).record = s.record := rfl
@[simp] theorem State.putHbm_tally (s : State) (v : HbmState) : (s.putHbm v).tally = s.tally := rfl
@[simp] theorem State.putHbm_tbus (s : State) (v : HbmState) : (s.putHbm v).tbus = s.tbus := rfl
@[simp] theorem State.putHbm_lanes (s : State) (v : HbmState) : (s.putHbm v).lanes = s.lanes := rfl
@[simp] theorem State.putHbm_store (s : State) (v : HbmState) : (s.putHbm v).store = s.store := rfl
@[simp] theorem State.putHbm_msix (s : State) (v : HbmState) : (s.putHbm v).msix = s.msix := rfl
@[simp] theorem State.putHbm_host (s : State) (v : HbmState) : (s.putHbm v).host = s.host := rfl
@[simp] theorem State.putHbm_seq (s : State) (v : HbmState) : (s.putHbm v).seq = s.seq := rfl
@[simp] theorem State.putHbm_dbg (s : State) (v : HbmState) : (s.putHbm v).dbg = s.dbg := rfl
@[simp] theorem State.putHbm_pins (s : State) (v : HbmState) : (s.putHbm v).pins = s.pins := rfl
@[simp] theorem State.putHbm_periph (s : State) (v : HbmState) : (s.putHbm v).periph = s.periph := rfl
@[simp] theorem State.putHbm_power (s : State) (v : HbmState) : (s.putHbm v).power = s.power := rfl
@[simp] theorem State.putHbm_out (s : State) (v : HbmState) : (s.putHbm v).out = s.out := rfl
@[simp] theorem State.putHbm_pending (s : State) (v : HbmState) : (s.putHbm v).pending = s.pending := rfl
@[simp] theorem State.putHbm_word (s : State) (v : HbmState) (r' : Reg) (i' : Nat) : (s.putHbm v).word r' i' = s.word r' i' := rfl
@[simp] theorem State.putHbm_f (s : State) (v : HbmState) (G : Fld) (i' : Nat) : (s.putHbm v).f G i' = s.f G i' := rfl
@[simp] theorem State.putHbm_on (s : State) (v : HbmState) (G : Fld) (i' : Nat) : (s.putHbm v).on G i' = s.on G i' := rfl
@[simp] theorem State.putHbm_now (s : State) (v : HbmState) : (s.putHbm v).now = s.now := rfl

-- ------------------------------------------------------------------ putStore

@[simp] theorem State.putStore_part (s : State) (v : StoreState) : (s.putStore v).part = s.part := rfl
@[simp] theorem State.putStore_time (s : State) (v : StoreState) : (s.putStore v).time = s.time := rfl
@[simp] theorem State.putStore_timeOffset (s : State) (v : StoreState) : (s.putStore v).timeOffset = s.timeOffset := rfl
@[simp] theorem State.putStore_syncArmer (s : State) (v : StoreState) : (s.putStore v).syncArmer = s.syncArmer := rfl
@[simp] theorem State.putStore_syncRef (s : State) (v : StoreState) : (s.putStore v).syncRef = s.syncRef := rfl
@[simp] theorem State.putStore_fresh (s : State) (v : StoreState) : (s.putStore v).fresh = s.fresh := rfl
@[simp] theorem State.putStore_regs (s : State) (v : StoreState) : (s.putStore v).regs = s.regs := rfl
@[simp] theorem State.putStore_latches (s : State) (v : StoreState) : (s.putStore v).latches = s.latches := rfl
@[simp] theorem State.putStore_dev (s : State) (v : StoreState) : (s.putStore v).dev = s.dev := rfl
@[simp] theorem State.putStore_ledger (s : State) (v : StoreState) : (s.putStore v).ledger = s.ledger := rfl
@[simp] theorem State.putStore_fabric (s : State) (v : StoreState) : (s.putStore v).fabric = s.fabric := rfl
@[simp] theorem State.putStore_mem (s : State) (v : StoreState) : (s.putStore v).mem = s.mem := rfl
@[simp] theorem State.putStore_cfg (s : State) (v : StoreState) : (s.putStore v).cfg = s.cfg := rfl
@[simp] theorem State.putStore_repair (s : State) (v : StoreState) : (s.putStore v).repair = s.repair := rfl
@[simp] theorem State.putStore_net (s : State) (v : StoreState) : (s.putStore v).net = s.net := rfl
@[simp] theorem State.putStore_beam (s : State) (v : StoreState) : (s.putStore v).beam = s.beam := rfl
@[simp] theorem State.putStore_record (s : State) (v : StoreState) : (s.putStore v).record = s.record := rfl
@[simp] theorem State.putStore_tally (s : State) (v : StoreState) : (s.putStore v).tally = s.tally := rfl
@[simp] theorem State.putStore_tbus (s : State) (v : StoreState) : (s.putStore v).tbus = s.tbus := rfl
@[simp] theorem State.putStore_lanes (s : State) (v : StoreState) : (s.putStore v).lanes = s.lanes := rfl
@[simp] theorem State.putStore_hbm (s : State) (v : StoreState) : (s.putStore v).hbm = s.hbm := rfl
@[simp] theorem State.putStore_msix (s : State) (v : StoreState) : (s.putStore v).msix = s.msix := rfl
@[simp] theorem State.putStore_host (s : State) (v : StoreState) : (s.putStore v).host = s.host := rfl
@[simp] theorem State.putStore_seq (s : State) (v : StoreState) : (s.putStore v).seq = s.seq := rfl
@[simp] theorem State.putStore_dbg (s : State) (v : StoreState) : (s.putStore v).dbg = s.dbg := rfl
@[simp] theorem State.putStore_pins (s : State) (v : StoreState) : (s.putStore v).pins = s.pins := rfl
@[simp] theorem State.putStore_periph (s : State) (v : StoreState) : (s.putStore v).periph = s.periph := rfl
@[simp] theorem State.putStore_power (s : State) (v : StoreState) : (s.putStore v).power = s.power := rfl
@[simp] theorem State.putStore_out (s : State) (v : StoreState) : (s.putStore v).out = s.out := rfl
@[simp] theorem State.putStore_pending (s : State) (v : StoreState) : (s.putStore v).pending = s.pending := rfl
@[simp] theorem State.putStore_word (s : State) (v : StoreState) (r' : Reg) (i' : Nat) : (s.putStore v).word r' i' = s.word r' i' := rfl
@[simp] theorem State.putStore_f (s : State) (v : StoreState) (G : Fld) (i' : Nat) : (s.putStore v).f G i' = s.f G i' := rfl
@[simp] theorem State.putStore_on (s : State) (v : StoreState) (G : Fld) (i' : Nat) : (s.putStore v).on G i' = s.on G i' := rfl
@[simp] theorem State.putStore_now (s : State) (v : StoreState) : (s.putStore v).now = s.now := rfl

-- ------------------------------------------------------------------ putMsix

@[simp] theorem State.putMsix_part (s : State) (v : MsixState) : (s.putMsix v).part = s.part := rfl
@[simp] theorem State.putMsix_time (s : State) (v : MsixState) : (s.putMsix v).time = s.time := rfl
@[simp] theorem State.putMsix_timeOffset (s : State) (v : MsixState) : (s.putMsix v).timeOffset = s.timeOffset := rfl
@[simp] theorem State.putMsix_syncArmer (s : State) (v : MsixState) : (s.putMsix v).syncArmer = s.syncArmer := rfl
@[simp] theorem State.putMsix_syncRef (s : State) (v : MsixState) : (s.putMsix v).syncRef = s.syncRef := rfl
@[simp] theorem State.putMsix_fresh (s : State) (v : MsixState) : (s.putMsix v).fresh = s.fresh := rfl
@[simp] theorem State.putMsix_regs (s : State) (v : MsixState) : (s.putMsix v).regs = s.regs := rfl
@[simp] theorem State.putMsix_latches (s : State) (v : MsixState) : (s.putMsix v).latches = s.latches := rfl
@[simp] theorem State.putMsix_dev (s : State) (v : MsixState) : (s.putMsix v).dev = s.dev := rfl
@[simp] theorem State.putMsix_ledger (s : State) (v : MsixState) : (s.putMsix v).ledger = s.ledger := rfl
@[simp] theorem State.putMsix_fabric (s : State) (v : MsixState) : (s.putMsix v).fabric = s.fabric := rfl
@[simp] theorem State.putMsix_mem (s : State) (v : MsixState) : (s.putMsix v).mem = s.mem := rfl
@[simp] theorem State.putMsix_cfg (s : State) (v : MsixState) : (s.putMsix v).cfg = s.cfg := rfl
@[simp] theorem State.putMsix_repair (s : State) (v : MsixState) : (s.putMsix v).repair = s.repair := rfl
@[simp] theorem State.putMsix_net (s : State) (v : MsixState) : (s.putMsix v).net = s.net := rfl
@[simp] theorem State.putMsix_beam (s : State) (v : MsixState) : (s.putMsix v).beam = s.beam := rfl
@[simp] theorem State.putMsix_record (s : State) (v : MsixState) : (s.putMsix v).record = s.record := rfl
@[simp] theorem State.putMsix_tally (s : State) (v : MsixState) : (s.putMsix v).tally = s.tally := rfl
@[simp] theorem State.putMsix_tbus (s : State) (v : MsixState) : (s.putMsix v).tbus = s.tbus := rfl
@[simp] theorem State.putMsix_lanes (s : State) (v : MsixState) : (s.putMsix v).lanes = s.lanes := rfl
@[simp] theorem State.putMsix_hbm (s : State) (v : MsixState) : (s.putMsix v).hbm = s.hbm := rfl
@[simp] theorem State.putMsix_store (s : State) (v : MsixState) : (s.putMsix v).store = s.store := rfl
@[simp] theorem State.putMsix_host (s : State) (v : MsixState) : (s.putMsix v).host = s.host := rfl
@[simp] theorem State.putMsix_seq (s : State) (v : MsixState) : (s.putMsix v).seq = s.seq := rfl
@[simp] theorem State.putMsix_dbg (s : State) (v : MsixState) : (s.putMsix v).dbg = s.dbg := rfl
@[simp] theorem State.putMsix_pins (s : State) (v : MsixState) : (s.putMsix v).pins = s.pins := rfl
@[simp] theorem State.putMsix_periph (s : State) (v : MsixState) : (s.putMsix v).periph = s.periph := rfl
@[simp] theorem State.putMsix_power (s : State) (v : MsixState) : (s.putMsix v).power = s.power := rfl
@[simp] theorem State.putMsix_out (s : State) (v : MsixState) : (s.putMsix v).out = s.out := rfl
@[simp] theorem State.putMsix_pending (s : State) (v : MsixState) : (s.putMsix v).pending = s.pending := rfl
@[simp] theorem State.putMsix_word (s : State) (v : MsixState) (r' : Reg) (i' : Nat) : (s.putMsix v).word r' i' = s.word r' i' := rfl
@[simp] theorem State.putMsix_f (s : State) (v : MsixState) (G : Fld) (i' : Nat) : (s.putMsix v).f G i' = s.f G i' := rfl
@[simp] theorem State.putMsix_on (s : State) (v : MsixState) (G : Fld) (i' : Nat) : (s.putMsix v).on G i' = s.on G i' := rfl
@[simp] theorem State.putMsix_now (s : State) (v : MsixState) : (s.putMsix v).now = s.now := rfl

-- ------------------------------------------------------------------ putHost

@[simp] theorem State.putHost_part (s : State) (v : HostState) : (s.putHost v).part = s.part := rfl
@[simp] theorem State.putHost_time (s : State) (v : HostState) : (s.putHost v).time = s.time := rfl
@[simp] theorem State.putHost_timeOffset (s : State) (v : HostState) : (s.putHost v).timeOffset = s.timeOffset := rfl
@[simp] theorem State.putHost_syncArmer (s : State) (v : HostState) : (s.putHost v).syncArmer = s.syncArmer := rfl
@[simp] theorem State.putHost_syncRef (s : State) (v : HostState) : (s.putHost v).syncRef = s.syncRef := rfl
@[simp] theorem State.putHost_fresh (s : State) (v : HostState) : (s.putHost v).fresh = s.fresh := rfl
@[simp] theorem State.putHost_regs (s : State) (v : HostState) : (s.putHost v).regs = s.regs := rfl
@[simp] theorem State.putHost_latches (s : State) (v : HostState) : (s.putHost v).latches = s.latches := rfl
@[simp] theorem State.putHost_dev (s : State) (v : HostState) : (s.putHost v).dev = s.dev := rfl
@[simp] theorem State.putHost_ledger (s : State) (v : HostState) : (s.putHost v).ledger = s.ledger := rfl
@[simp] theorem State.putHost_fabric (s : State) (v : HostState) : (s.putHost v).fabric = s.fabric := rfl
@[simp] theorem State.putHost_mem (s : State) (v : HostState) : (s.putHost v).mem = s.mem := rfl
@[simp] theorem State.putHost_cfg (s : State) (v : HostState) : (s.putHost v).cfg = s.cfg := rfl
@[simp] theorem State.putHost_repair (s : State) (v : HostState) : (s.putHost v).repair = s.repair := rfl
@[simp] theorem State.putHost_net (s : State) (v : HostState) : (s.putHost v).net = s.net := rfl
@[simp] theorem State.putHost_beam (s : State) (v : HostState) : (s.putHost v).beam = s.beam := rfl
@[simp] theorem State.putHost_record (s : State) (v : HostState) : (s.putHost v).record = s.record := rfl
@[simp] theorem State.putHost_tally (s : State) (v : HostState) : (s.putHost v).tally = s.tally := rfl
@[simp] theorem State.putHost_tbus (s : State) (v : HostState) : (s.putHost v).tbus = s.tbus := rfl
@[simp] theorem State.putHost_lanes (s : State) (v : HostState) : (s.putHost v).lanes = s.lanes := rfl
@[simp] theorem State.putHost_hbm (s : State) (v : HostState) : (s.putHost v).hbm = s.hbm := rfl
@[simp] theorem State.putHost_store (s : State) (v : HostState) : (s.putHost v).store = s.store := rfl
@[simp] theorem State.putHost_msix (s : State) (v : HostState) : (s.putHost v).msix = s.msix := rfl
@[simp] theorem State.putHost_seq (s : State) (v : HostState) : (s.putHost v).seq = s.seq := rfl
@[simp] theorem State.putHost_dbg (s : State) (v : HostState) : (s.putHost v).dbg = s.dbg := rfl
@[simp] theorem State.putHost_pins (s : State) (v : HostState) : (s.putHost v).pins = s.pins := rfl
@[simp] theorem State.putHost_periph (s : State) (v : HostState) : (s.putHost v).periph = s.periph := rfl
@[simp] theorem State.putHost_power (s : State) (v : HostState) : (s.putHost v).power = s.power := rfl
@[simp] theorem State.putHost_out (s : State) (v : HostState) : (s.putHost v).out = s.out := rfl
@[simp] theorem State.putHost_pending (s : State) (v : HostState) : (s.putHost v).pending = s.pending := rfl
@[simp] theorem State.putHost_word (s : State) (v : HostState) (r' : Reg) (i' : Nat) : (s.putHost v).word r' i' = s.word r' i' := rfl
@[simp] theorem State.putHost_f (s : State) (v : HostState) (G : Fld) (i' : Nat) : (s.putHost v).f G i' = s.f G i' := rfl
@[simp] theorem State.putHost_on (s : State) (v : HostState) (G : Fld) (i' : Nat) : (s.putHost v).on G i' = s.on G i' := rfl
@[simp] theorem State.putHost_now (s : State) (v : HostState) : (s.putHost v).now = s.now := rfl

-- ------------------------------------------------------------------ putSeq

@[simp] theorem State.putSeq_part (s : State) (v : SeqState) : (s.putSeq v).part = s.part := rfl
@[simp] theorem State.putSeq_time (s : State) (v : SeqState) : (s.putSeq v).time = s.time := rfl
@[simp] theorem State.putSeq_timeOffset (s : State) (v : SeqState) : (s.putSeq v).timeOffset = s.timeOffset := rfl
@[simp] theorem State.putSeq_syncArmer (s : State) (v : SeqState) : (s.putSeq v).syncArmer = s.syncArmer := rfl
@[simp] theorem State.putSeq_syncRef (s : State) (v : SeqState) : (s.putSeq v).syncRef = s.syncRef := rfl
@[simp] theorem State.putSeq_fresh (s : State) (v : SeqState) : (s.putSeq v).fresh = s.fresh := rfl
@[simp] theorem State.putSeq_regs (s : State) (v : SeqState) : (s.putSeq v).regs = s.regs := rfl
@[simp] theorem State.putSeq_latches (s : State) (v : SeqState) : (s.putSeq v).latches = s.latches := rfl
@[simp] theorem State.putSeq_dev (s : State) (v : SeqState) : (s.putSeq v).dev = s.dev := rfl
@[simp] theorem State.putSeq_ledger (s : State) (v : SeqState) : (s.putSeq v).ledger = s.ledger := rfl
@[simp] theorem State.putSeq_fabric (s : State) (v : SeqState) : (s.putSeq v).fabric = s.fabric := rfl
@[simp] theorem State.putSeq_mem (s : State) (v : SeqState) : (s.putSeq v).mem = s.mem := rfl
@[simp] theorem State.putSeq_cfg (s : State) (v : SeqState) : (s.putSeq v).cfg = s.cfg := rfl
@[simp] theorem State.putSeq_repair (s : State) (v : SeqState) : (s.putSeq v).repair = s.repair := rfl
@[simp] theorem State.putSeq_net (s : State) (v : SeqState) : (s.putSeq v).net = s.net := rfl
@[simp] theorem State.putSeq_beam (s : State) (v : SeqState) : (s.putSeq v).beam = s.beam := rfl
@[simp] theorem State.putSeq_record (s : State) (v : SeqState) : (s.putSeq v).record = s.record := rfl
@[simp] theorem State.putSeq_tally (s : State) (v : SeqState) : (s.putSeq v).tally = s.tally := rfl
@[simp] theorem State.putSeq_tbus (s : State) (v : SeqState) : (s.putSeq v).tbus = s.tbus := rfl
@[simp] theorem State.putSeq_lanes (s : State) (v : SeqState) : (s.putSeq v).lanes = s.lanes := rfl
@[simp] theorem State.putSeq_hbm (s : State) (v : SeqState) : (s.putSeq v).hbm = s.hbm := rfl
@[simp] theorem State.putSeq_store (s : State) (v : SeqState) : (s.putSeq v).store = s.store := rfl
@[simp] theorem State.putSeq_msix (s : State) (v : SeqState) : (s.putSeq v).msix = s.msix := rfl
@[simp] theorem State.putSeq_host (s : State) (v : SeqState) : (s.putSeq v).host = s.host := rfl
@[simp] theorem State.putSeq_dbg (s : State) (v : SeqState) : (s.putSeq v).dbg = s.dbg := rfl
@[simp] theorem State.putSeq_pins (s : State) (v : SeqState) : (s.putSeq v).pins = s.pins := rfl
@[simp] theorem State.putSeq_periph (s : State) (v : SeqState) : (s.putSeq v).periph = s.periph := rfl
@[simp] theorem State.putSeq_power (s : State) (v : SeqState) : (s.putSeq v).power = s.power := rfl
@[simp] theorem State.putSeq_out (s : State) (v : SeqState) : (s.putSeq v).out = s.out := rfl
@[simp] theorem State.putSeq_pending (s : State) (v : SeqState) : (s.putSeq v).pending = s.pending := rfl
@[simp] theorem State.putSeq_word (s : State) (v : SeqState) (r' : Reg) (i' : Nat) : (s.putSeq v).word r' i' = s.word r' i' := rfl
@[simp] theorem State.putSeq_f (s : State) (v : SeqState) (G : Fld) (i' : Nat) : (s.putSeq v).f G i' = s.f G i' := rfl
@[simp] theorem State.putSeq_on (s : State) (v : SeqState) (G : Fld) (i' : Nat) : (s.putSeq v).on G i' = s.on G i' := rfl
@[simp] theorem State.putSeq_now (s : State) (v : SeqState) : (s.putSeq v).now = s.now := rfl

-- ------------------------------------------------------------------ putDbg

@[simp] theorem State.putDbg_part (s : State) (v : DebugState) : (s.putDbg v).part = s.part := rfl
@[simp] theorem State.putDbg_time (s : State) (v : DebugState) : (s.putDbg v).time = s.time := rfl
@[simp] theorem State.putDbg_timeOffset (s : State) (v : DebugState) : (s.putDbg v).timeOffset = s.timeOffset := rfl
@[simp] theorem State.putDbg_syncArmer (s : State) (v : DebugState) : (s.putDbg v).syncArmer = s.syncArmer := rfl
@[simp] theorem State.putDbg_syncRef (s : State) (v : DebugState) : (s.putDbg v).syncRef = s.syncRef := rfl
@[simp] theorem State.putDbg_fresh (s : State) (v : DebugState) : (s.putDbg v).fresh = s.fresh := rfl
@[simp] theorem State.putDbg_regs (s : State) (v : DebugState) : (s.putDbg v).regs = s.regs := rfl
@[simp] theorem State.putDbg_latches (s : State) (v : DebugState) : (s.putDbg v).latches = s.latches := rfl
@[simp] theorem State.putDbg_dev (s : State) (v : DebugState) : (s.putDbg v).dev = s.dev := rfl
@[simp] theorem State.putDbg_ledger (s : State) (v : DebugState) : (s.putDbg v).ledger = s.ledger := rfl
@[simp] theorem State.putDbg_fabric (s : State) (v : DebugState) : (s.putDbg v).fabric = s.fabric := rfl
@[simp] theorem State.putDbg_mem (s : State) (v : DebugState) : (s.putDbg v).mem = s.mem := rfl
@[simp] theorem State.putDbg_cfg (s : State) (v : DebugState) : (s.putDbg v).cfg = s.cfg := rfl
@[simp] theorem State.putDbg_repair (s : State) (v : DebugState) : (s.putDbg v).repair = s.repair := rfl
@[simp] theorem State.putDbg_net (s : State) (v : DebugState) : (s.putDbg v).net = s.net := rfl
@[simp] theorem State.putDbg_beam (s : State) (v : DebugState) : (s.putDbg v).beam = s.beam := rfl
@[simp] theorem State.putDbg_record (s : State) (v : DebugState) : (s.putDbg v).record = s.record := rfl
@[simp] theorem State.putDbg_tally (s : State) (v : DebugState) : (s.putDbg v).tally = s.tally := rfl
@[simp] theorem State.putDbg_tbus (s : State) (v : DebugState) : (s.putDbg v).tbus = s.tbus := rfl
@[simp] theorem State.putDbg_lanes (s : State) (v : DebugState) : (s.putDbg v).lanes = s.lanes := rfl
@[simp] theorem State.putDbg_hbm (s : State) (v : DebugState) : (s.putDbg v).hbm = s.hbm := rfl
@[simp] theorem State.putDbg_store (s : State) (v : DebugState) : (s.putDbg v).store = s.store := rfl
@[simp] theorem State.putDbg_msix (s : State) (v : DebugState) : (s.putDbg v).msix = s.msix := rfl
@[simp] theorem State.putDbg_host (s : State) (v : DebugState) : (s.putDbg v).host = s.host := rfl
@[simp] theorem State.putDbg_seq (s : State) (v : DebugState) : (s.putDbg v).seq = s.seq := rfl
@[simp] theorem State.putDbg_pins (s : State) (v : DebugState) : (s.putDbg v).pins = s.pins := rfl
@[simp] theorem State.putDbg_periph (s : State) (v : DebugState) : (s.putDbg v).periph = s.periph := rfl
@[simp] theorem State.putDbg_power (s : State) (v : DebugState) : (s.putDbg v).power = s.power := rfl
@[simp] theorem State.putDbg_out (s : State) (v : DebugState) : (s.putDbg v).out = s.out := rfl
@[simp] theorem State.putDbg_pending (s : State) (v : DebugState) : (s.putDbg v).pending = s.pending := rfl
@[simp] theorem State.putDbg_word (s : State) (v : DebugState) (r' : Reg) (i' : Nat) : (s.putDbg v).word r' i' = s.word r' i' := rfl
@[simp] theorem State.putDbg_f (s : State) (v : DebugState) (G : Fld) (i' : Nat) : (s.putDbg v).f G i' = s.f G i' := rfl
@[simp] theorem State.putDbg_on (s : State) (v : DebugState) (G : Fld) (i' : Nat) : (s.putDbg v).on G i' = s.on G i' := rfl
@[simp] theorem State.putDbg_now (s : State) (v : DebugState) : (s.putDbg v).now = s.now := rfl

-- ------------------------------------------------------------------ putPins

@[simp] theorem State.putPins_part (s : State) (v : PinsState) : (s.putPins v).part = s.part := rfl
@[simp] theorem State.putPins_time (s : State) (v : PinsState) : (s.putPins v).time = s.time := rfl
@[simp] theorem State.putPins_timeOffset (s : State) (v : PinsState) : (s.putPins v).timeOffset = s.timeOffset := rfl
@[simp] theorem State.putPins_syncArmer (s : State) (v : PinsState) : (s.putPins v).syncArmer = s.syncArmer := rfl
@[simp] theorem State.putPins_syncRef (s : State) (v : PinsState) : (s.putPins v).syncRef = s.syncRef := rfl
@[simp] theorem State.putPins_fresh (s : State) (v : PinsState) : (s.putPins v).fresh = s.fresh := rfl
@[simp] theorem State.putPins_regs (s : State) (v : PinsState) : (s.putPins v).regs = s.regs := rfl
@[simp] theorem State.putPins_latches (s : State) (v : PinsState) : (s.putPins v).latches = s.latches := rfl
@[simp] theorem State.putPins_dev (s : State) (v : PinsState) : (s.putPins v).dev = s.dev := rfl
@[simp] theorem State.putPins_ledger (s : State) (v : PinsState) : (s.putPins v).ledger = s.ledger := rfl
@[simp] theorem State.putPins_fabric (s : State) (v : PinsState) : (s.putPins v).fabric = s.fabric := rfl
@[simp] theorem State.putPins_mem (s : State) (v : PinsState) : (s.putPins v).mem = s.mem := rfl
@[simp] theorem State.putPins_cfg (s : State) (v : PinsState) : (s.putPins v).cfg = s.cfg := rfl
@[simp] theorem State.putPins_repair (s : State) (v : PinsState) : (s.putPins v).repair = s.repair := rfl
@[simp] theorem State.putPins_net (s : State) (v : PinsState) : (s.putPins v).net = s.net := rfl
@[simp] theorem State.putPins_beam (s : State) (v : PinsState) : (s.putPins v).beam = s.beam := rfl
@[simp] theorem State.putPins_record (s : State) (v : PinsState) : (s.putPins v).record = s.record := rfl
@[simp] theorem State.putPins_tally (s : State) (v : PinsState) : (s.putPins v).tally = s.tally := rfl
@[simp] theorem State.putPins_tbus (s : State) (v : PinsState) : (s.putPins v).tbus = s.tbus := rfl
@[simp] theorem State.putPins_lanes (s : State) (v : PinsState) : (s.putPins v).lanes = s.lanes := rfl
@[simp] theorem State.putPins_hbm (s : State) (v : PinsState) : (s.putPins v).hbm = s.hbm := rfl
@[simp] theorem State.putPins_store (s : State) (v : PinsState) : (s.putPins v).store = s.store := rfl
@[simp] theorem State.putPins_msix (s : State) (v : PinsState) : (s.putPins v).msix = s.msix := rfl
@[simp] theorem State.putPins_host (s : State) (v : PinsState) : (s.putPins v).host = s.host := rfl
@[simp] theorem State.putPins_seq (s : State) (v : PinsState) : (s.putPins v).seq = s.seq := rfl
@[simp] theorem State.putPins_dbg (s : State) (v : PinsState) : (s.putPins v).dbg = s.dbg := rfl
@[simp] theorem State.putPins_periph (s : State) (v : PinsState) : (s.putPins v).periph = s.periph := rfl
@[simp] theorem State.putPins_power (s : State) (v : PinsState) : (s.putPins v).power = s.power := rfl
@[simp] theorem State.putPins_out (s : State) (v : PinsState) : (s.putPins v).out = s.out := rfl
@[simp] theorem State.putPins_pending (s : State) (v : PinsState) : (s.putPins v).pending = s.pending := rfl
@[simp] theorem State.putPins_word (s : State) (v : PinsState) (r' : Reg) (i' : Nat) : (s.putPins v).word r' i' = s.word r' i' := rfl
@[simp] theorem State.putPins_f (s : State) (v : PinsState) (G : Fld) (i' : Nat) : (s.putPins v).f G i' = s.f G i' := rfl
@[simp] theorem State.putPins_on (s : State) (v : PinsState) (G : Fld) (i' : Nat) : (s.putPins v).on G i' = s.on G i' := rfl
@[simp] theorem State.putPins_now (s : State) (v : PinsState) : (s.putPins v).now = s.now := rfl

-- ------------------------------------------------------------------ putPeriph

@[simp] theorem State.putPeriph_part (s : State) (v : PeriphState) : (s.putPeriph v).part = s.part := rfl
@[simp] theorem State.putPeriph_time (s : State) (v : PeriphState) : (s.putPeriph v).time = s.time := rfl
@[simp] theorem State.putPeriph_timeOffset (s : State) (v : PeriphState) : (s.putPeriph v).timeOffset = s.timeOffset := rfl
@[simp] theorem State.putPeriph_syncArmer (s : State) (v : PeriphState) : (s.putPeriph v).syncArmer = s.syncArmer := rfl
@[simp] theorem State.putPeriph_syncRef (s : State) (v : PeriphState) : (s.putPeriph v).syncRef = s.syncRef := rfl
@[simp] theorem State.putPeriph_fresh (s : State) (v : PeriphState) : (s.putPeriph v).fresh = s.fresh := rfl
@[simp] theorem State.putPeriph_regs (s : State) (v : PeriphState) : (s.putPeriph v).regs = s.regs := rfl
@[simp] theorem State.putPeriph_latches (s : State) (v : PeriphState) : (s.putPeriph v).latches = s.latches := rfl
@[simp] theorem State.putPeriph_dev (s : State) (v : PeriphState) : (s.putPeriph v).dev = s.dev := rfl
@[simp] theorem State.putPeriph_ledger (s : State) (v : PeriphState) : (s.putPeriph v).ledger = s.ledger := rfl
@[simp] theorem State.putPeriph_fabric (s : State) (v : PeriphState) : (s.putPeriph v).fabric = s.fabric := rfl
@[simp] theorem State.putPeriph_mem (s : State) (v : PeriphState) : (s.putPeriph v).mem = s.mem := rfl
@[simp] theorem State.putPeriph_cfg (s : State) (v : PeriphState) : (s.putPeriph v).cfg = s.cfg := rfl
@[simp] theorem State.putPeriph_repair (s : State) (v : PeriphState) : (s.putPeriph v).repair = s.repair := rfl
@[simp] theorem State.putPeriph_net (s : State) (v : PeriphState) : (s.putPeriph v).net = s.net := rfl
@[simp] theorem State.putPeriph_beam (s : State) (v : PeriphState) : (s.putPeriph v).beam = s.beam := rfl
@[simp] theorem State.putPeriph_record (s : State) (v : PeriphState) : (s.putPeriph v).record = s.record := rfl
@[simp] theorem State.putPeriph_tally (s : State) (v : PeriphState) : (s.putPeriph v).tally = s.tally := rfl
@[simp] theorem State.putPeriph_tbus (s : State) (v : PeriphState) : (s.putPeriph v).tbus = s.tbus := rfl
@[simp] theorem State.putPeriph_lanes (s : State) (v : PeriphState) : (s.putPeriph v).lanes = s.lanes := rfl
@[simp] theorem State.putPeriph_hbm (s : State) (v : PeriphState) : (s.putPeriph v).hbm = s.hbm := rfl
@[simp] theorem State.putPeriph_store (s : State) (v : PeriphState) : (s.putPeriph v).store = s.store := rfl
@[simp] theorem State.putPeriph_msix (s : State) (v : PeriphState) : (s.putPeriph v).msix = s.msix := rfl
@[simp] theorem State.putPeriph_host (s : State) (v : PeriphState) : (s.putPeriph v).host = s.host := rfl
@[simp] theorem State.putPeriph_seq (s : State) (v : PeriphState) : (s.putPeriph v).seq = s.seq := rfl
@[simp] theorem State.putPeriph_dbg (s : State) (v : PeriphState) : (s.putPeriph v).dbg = s.dbg := rfl
@[simp] theorem State.putPeriph_pins (s : State) (v : PeriphState) : (s.putPeriph v).pins = s.pins := rfl
@[simp] theorem State.putPeriph_power (s : State) (v : PeriphState) : (s.putPeriph v).power = s.power := rfl
@[simp] theorem State.putPeriph_out (s : State) (v : PeriphState) : (s.putPeriph v).out = s.out := rfl
@[simp] theorem State.putPeriph_pending (s : State) (v : PeriphState) : (s.putPeriph v).pending = s.pending := rfl
@[simp] theorem State.putPeriph_word (s : State) (v : PeriphState) (r' : Reg) (i' : Nat) : (s.putPeriph v).word r' i' = s.word r' i' := rfl
@[simp] theorem State.putPeriph_f (s : State) (v : PeriphState) (G : Fld) (i' : Nat) : (s.putPeriph v).f G i' = s.f G i' := rfl
@[simp] theorem State.putPeriph_on (s : State) (v : PeriphState) (G : Fld) (i' : Nat) : (s.putPeriph v).on G i' = s.on G i' := rfl
@[simp] theorem State.putPeriph_now (s : State) (v : PeriphState) : (s.putPeriph v).now = s.now := rfl

-- ------------------------------------------------------------------ putPower

@[simp] theorem State.putPower_part (s : State) (v : PowerState) : (s.putPower v).part = s.part := rfl
@[simp] theorem State.putPower_time (s : State) (v : PowerState) : (s.putPower v).time = s.time := rfl
@[simp] theorem State.putPower_timeOffset (s : State) (v : PowerState) : (s.putPower v).timeOffset = s.timeOffset := rfl
@[simp] theorem State.putPower_syncArmer (s : State) (v : PowerState) : (s.putPower v).syncArmer = s.syncArmer := rfl
@[simp] theorem State.putPower_syncRef (s : State) (v : PowerState) : (s.putPower v).syncRef = s.syncRef := rfl
@[simp] theorem State.putPower_fresh (s : State) (v : PowerState) : (s.putPower v).fresh = s.fresh := rfl
@[simp] theorem State.putPower_regs (s : State) (v : PowerState) : (s.putPower v).regs = s.regs := rfl
@[simp] theorem State.putPower_latches (s : State) (v : PowerState) : (s.putPower v).latches = s.latches := rfl
@[simp] theorem State.putPower_dev (s : State) (v : PowerState) : (s.putPower v).dev = s.dev := rfl
@[simp] theorem State.putPower_ledger (s : State) (v : PowerState) : (s.putPower v).ledger = s.ledger := rfl
@[simp] theorem State.putPower_fabric (s : State) (v : PowerState) : (s.putPower v).fabric = s.fabric := rfl
@[simp] theorem State.putPower_mem (s : State) (v : PowerState) : (s.putPower v).mem = s.mem := rfl
@[simp] theorem State.putPower_cfg (s : State) (v : PowerState) : (s.putPower v).cfg = s.cfg := rfl
@[simp] theorem State.putPower_repair (s : State) (v : PowerState) : (s.putPower v).repair = s.repair := rfl
@[simp] theorem State.putPower_net (s : State) (v : PowerState) : (s.putPower v).net = s.net := rfl
@[simp] theorem State.putPower_beam (s : State) (v : PowerState) : (s.putPower v).beam = s.beam := rfl
@[simp] theorem State.putPower_record (s : State) (v : PowerState) : (s.putPower v).record = s.record := rfl
@[simp] theorem State.putPower_tally (s : State) (v : PowerState) : (s.putPower v).tally = s.tally := rfl
@[simp] theorem State.putPower_tbus (s : State) (v : PowerState) : (s.putPower v).tbus = s.tbus := rfl
@[simp] theorem State.putPower_lanes (s : State) (v : PowerState) : (s.putPower v).lanes = s.lanes := rfl
@[simp] theorem State.putPower_hbm (s : State) (v : PowerState) : (s.putPower v).hbm = s.hbm := rfl
@[simp] theorem State.putPower_store (s : State) (v : PowerState) : (s.putPower v).store = s.store := rfl
@[simp] theorem State.putPower_msix (s : State) (v : PowerState) : (s.putPower v).msix = s.msix := rfl
@[simp] theorem State.putPower_host (s : State) (v : PowerState) : (s.putPower v).host = s.host := rfl
@[simp] theorem State.putPower_seq (s : State) (v : PowerState) : (s.putPower v).seq = s.seq := rfl
@[simp] theorem State.putPower_dbg (s : State) (v : PowerState) : (s.putPower v).dbg = s.dbg := rfl
@[simp] theorem State.putPower_pins (s : State) (v : PowerState) : (s.putPower v).pins = s.pins := rfl
@[simp] theorem State.putPower_periph (s : State) (v : PowerState) : (s.putPower v).periph = s.periph := rfl
@[simp] theorem State.putPower_out (s : State) (v : PowerState) : (s.putPower v).out = s.out := rfl
@[simp] theorem State.putPower_pending (s : State) (v : PowerState) : (s.putPower v).pending = s.pending := rfl
@[simp] theorem State.putPower_word (s : State) (v : PowerState) (r' : Reg) (i' : Nat) : (s.putPower v).word r' i' = s.word r' i' := rfl
@[simp] theorem State.putPower_f (s : State) (v : PowerState) (G : Fld) (i' : Nat) : (s.putPower v).f G i' = s.f G i' := rfl
@[simp] theorem State.putPower_on (s : State) (v : PowerState) (G : Fld) (i' : Nat) : (s.putPower v).on G i' = s.on G i' := rfl
@[simp] theorem State.putPower_now (s : State) (v : PowerState) : (s.putPower v).now = s.now := rfl

-- ------------------------------------------------------------------ putOut

@[simp] theorem State.putOut_part (s : State) (v : List Out) : (s.putOut v).part = s.part := rfl
@[simp] theorem State.putOut_time (s : State) (v : List Out) : (s.putOut v).time = s.time := rfl
@[simp] theorem State.putOut_timeOffset (s : State) (v : List Out) : (s.putOut v).timeOffset = s.timeOffset := rfl
@[simp] theorem State.putOut_syncArmer (s : State) (v : List Out) : (s.putOut v).syncArmer = s.syncArmer := rfl
@[simp] theorem State.putOut_syncRef (s : State) (v : List Out) : (s.putOut v).syncRef = s.syncRef := rfl
@[simp] theorem State.putOut_fresh (s : State) (v : List Out) : (s.putOut v).fresh = s.fresh := rfl
@[simp] theorem State.putOut_regs (s : State) (v : List Out) : (s.putOut v).regs = s.regs := rfl
@[simp] theorem State.putOut_latches (s : State) (v : List Out) : (s.putOut v).latches = s.latches := rfl
@[simp] theorem State.putOut_dev (s : State) (v : List Out) : (s.putOut v).dev = s.dev := rfl
@[simp] theorem State.putOut_ledger (s : State) (v : List Out) : (s.putOut v).ledger = s.ledger := rfl
@[simp] theorem State.putOut_fabric (s : State) (v : List Out) : (s.putOut v).fabric = s.fabric := rfl
@[simp] theorem State.putOut_mem (s : State) (v : List Out) : (s.putOut v).mem = s.mem := rfl
@[simp] theorem State.putOut_cfg (s : State) (v : List Out) : (s.putOut v).cfg = s.cfg := rfl
@[simp] theorem State.putOut_repair (s : State) (v : List Out) : (s.putOut v).repair = s.repair := rfl
@[simp] theorem State.putOut_net (s : State) (v : List Out) : (s.putOut v).net = s.net := rfl
@[simp] theorem State.putOut_beam (s : State) (v : List Out) : (s.putOut v).beam = s.beam := rfl
@[simp] theorem State.putOut_record (s : State) (v : List Out) : (s.putOut v).record = s.record := rfl
@[simp] theorem State.putOut_tally (s : State) (v : List Out) : (s.putOut v).tally = s.tally := rfl
@[simp] theorem State.putOut_tbus (s : State) (v : List Out) : (s.putOut v).tbus = s.tbus := rfl
@[simp] theorem State.putOut_lanes (s : State) (v : List Out) : (s.putOut v).lanes = s.lanes := rfl
@[simp] theorem State.putOut_hbm (s : State) (v : List Out) : (s.putOut v).hbm = s.hbm := rfl
@[simp] theorem State.putOut_store (s : State) (v : List Out) : (s.putOut v).store = s.store := rfl
@[simp] theorem State.putOut_msix (s : State) (v : List Out) : (s.putOut v).msix = s.msix := rfl
@[simp] theorem State.putOut_host (s : State) (v : List Out) : (s.putOut v).host = s.host := rfl
@[simp] theorem State.putOut_seq (s : State) (v : List Out) : (s.putOut v).seq = s.seq := rfl
@[simp] theorem State.putOut_dbg (s : State) (v : List Out) : (s.putOut v).dbg = s.dbg := rfl
@[simp] theorem State.putOut_pins (s : State) (v : List Out) : (s.putOut v).pins = s.pins := rfl
@[simp] theorem State.putOut_periph (s : State) (v : List Out) : (s.putOut v).periph = s.periph := rfl
@[simp] theorem State.putOut_power (s : State) (v : List Out) : (s.putOut v).power = s.power := rfl
@[simp] theorem State.putOut_pending (s : State) (v : List Out) : (s.putOut v).pending = s.pending := rfl
@[simp] theorem State.putOut_word (s : State) (v : List Out) (r' : Reg) (i' : Nat) : (s.putOut v).word r' i' = s.word r' i' := rfl
@[simp] theorem State.putOut_f (s : State) (v : List Out) (G : Fld) (i' : Nat) : (s.putOut v).f G i' = s.f G i' := rfl
@[simp] theorem State.putOut_on (s : State) (v : List Out) (G : Fld) (i' : Nat) : (s.putOut v).on G i' = s.on G i' := rfl
@[simp] theorem State.putOut_now (s : State) (v : List Out) : (s.putOut v).now = s.now := rfl

-- ------------------------------------------------------------------ setWord

@[simp] theorem State.setWord_part (s : State) (r : Reg) (i : Nat) (v : Word) : (s.setWord r i v).part = s.part := rfl
@[simp] theorem State.setWord_time (s : State) (r : Reg) (i : Nat) (v : Word) : (s.setWord r i v).time = s.time := rfl
@[simp] theorem State.setWord_timeOffset (s : State) (r : Reg) (i : Nat) (v : Word) : (s.setWord r i v).timeOffset = s.timeOffset := rfl
@[simp] theorem State.setWord_syncArmer (s : State) (r : Reg) (i : Nat) (v : Word) : (s.setWord r i v).syncArmer = s.syncArmer := rfl
@[simp] theorem State.setWord_syncRef (s : State) (r : Reg) (i : Nat) (v : Word) : (s.setWord r i v).syncRef = s.syncRef := rfl
@[simp] theorem State.setWord_fresh (s : State) (r : Reg) (i : Nat) (v : Word) : (s.setWord r i v).fresh = s.fresh := rfl
@[simp] theorem State.setWord_latches (s : State) (r : Reg) (i : Nat) (v : Word) : (s.setWord r i v).latches = s.latches := rfl
@[simp] theorem State.setWord_dev (s : State) (r : Reg) (i : Nat) (v : Word) : (s.setWord r i v).dev = s.dev := rfl
@[simp] theorem State.setWord_ledger (s : State) (r : Reg) (i : Nat) (v : Word) : (s.setWord r i v).ledger = s.ledger := rfl
@[simp] theorem State.setWord_fabric (s : State) (r : Reg) (i : Nat) (v : Word) : (s.setWord r i v).fabric = s.fabric := rfl
@[simp] theorem State.setWord_mem (s : State) (r : Reg) (i : Nat) (v : Word) : (s.setWord r i v).mem = s.mem := rfl
@[simp] theorem State.setWord_cfg (s : State) (r : Reg) (i : Nat) (v : Word) : (s.setWord r i v).cfg = s.cfg := rfl
@[simp] theorem State.setWord_repair (s : State) (r : Reg) (i : Nat) (v : Word) : (s.setWord r i v).repair = s.repair := rfl
@[simp] theorem State.setWord_net (s : State) (r : Reg) (i : Nat) (v : Word) : (s.setWord r i v).net = s.net := rfl
@[simp] theorem State.setWord_beam (s : State) (r : Reg) (i : Nat) (v : Word) : (s.setWord r i v).beam = s.beam := rfl
@[simp] theorem State.setWord_record (s : State) (r : Reg) (i : Nat) (v : Word) : (s.setWord r i v).record = s.record := rfl
@[simp] theorem State.setWord_tally (s : State) (r : Reg) (i : Nat) (v : Word) : (s.setWord r i v).tally = s.tally := rfl
@[simp] theorem State.setWord_tbus (s : State) (r : Reg) (i : Nat) (v : Word) : (s.setWord r i v).tbus = s.tbus := rfl
@[simp] theorem State.setWord_lanes (s : State) (r : Reg) (i : Nat) (v : Word) : (s.setWord r i v).lanes = s.lanes := rfl
@[simp] theorem State.setWord_hbm (s : State) (r : Reg) (i : Nat) (v : Word) : (s.setWord r i v).hbm = s.hbm := rfl
@[simp] theorem State.setWord_store (s : State) (r : Reg) (i : Nat) (v : Word) : (s.setWord r i v).store = s.store := rfl
@[simp] theorem State.setWord_msix (s : State) (r : Reg) (i : Nat) (v : Word) : (s.setWord r i v).msix = s.msix := rfl
@[simp] theorem State.setWord_host (s : State) (r : Reg) (i : Nat) (v : Word) : (s.setWord r i v).host = s.host := rfl
@[simp] theorem State.setWord_seq (s : State) (r : Reg) (i : Nat) (v : Word) : (s.setWord r i v).seq = s.seq := rfl
@[simp] theorem State.setWord_dbg (s : State) (r : Reg) (i : Nat) (v : Word) : (s.setWord r i v).dbg = s.dbg := rfl
@[simp] theorem State.setWord_pins (s : State) (r : Reg) (i : Nat) (v : Word) : (s.setWord r i v).pins = s.pins := rfl
@[simp] theorem State.setWord_periph (s : State) (r : Reg) (i : Nat) (v : Word) : (s.setWord r i v).periph = s.periph := rfl
@[simp] theorem State.setWord_power (s : State) (r : Reg) (i : Nat) (v : Word) : (s.setWord r i v).power = s.power := rfl
@[simp] theorem State.setWord_out (s : State) (r : Reg) (i : Nat) (v : Word) : (s.setWord r i v).out = s.out := rfl
@[simp] theorem State.setWord_pending (s : State) (r : Reg) (i : Nat) (v : Word) : (s.setWord r i v).pending = s.pending := rfl
@[simp] theorem State.setWord_now (s : State) (r : Reg) (i : Nat) (v : Word) : (s.setWord r i v).now = s.now := rfl

-- ------------------------------------------------------------------ setNi

@[simp] theorem State.setNi_part (s : State) (n : Nat) (v : NiState) : (s.setNi n v).part = s.part := rfl
@[simp] theorem State.setNi_time (s : State) (n : Nat) (v : NiState) : (s.setNi n v).time = s.time := rfl
@[simp] theorem State.setNi_timeOffset (s : State) (n : Nat) (v : NiState) : (s.setNi n v).timeOffset = s.timeOffset := rfl
@[simp] theorem State.setNi_syncArmer (s : State) (n : Nat) (v : NiState) : (s.setNi n v).syncArmer = s.syncArmer := rfl
@[simp] theorem State.setNi_syncRef (s : State) (n : Nat) (v : NiState) : (s.setNi n v).syncRef = s.syncRef := rfl
@[simp] theorem State.setNi_fresh (s : State) (n : Nat) (v : NiState) : (s.setNi n v).fresh = s.fresh := rfl
@[simp] theorem State.setNi_regs (s : State) (n : Nat) (v : NiState) : (s.setNi n v).regs = s.regs := rfl
@[simp] theorem State.setNi_latches (s : State) (n : Nat) (v : NiState) : (s.setNi n v).latches = s.latches := rfl
@[simp] theorem State.setNi_dev (s : State) (n : Nat) (v : NiState) : (s.setNi n v).dev = s.dev := rfl
@[simp] theorem State.setNi_ledger (s : State) (n : Nat) (v : NiState) : (s.setNi n v).ledger = s.ledger := rfl
@[simp] theorem State.setNi_fabric (s : State) (n : Nat) (v : NiState) : (s.setNi n v).fabric = s.fabric := rfl
@[simp] theorem State.setNi_mem (s : State) (n : Nat) (v : NiState) : (s.setNi n v).mem = s.mem := rfl
@[simp] theorem State.setNi_cfg (s : State) (n : Nat) (v : NiState) : (s.setNi n v).cfg = s.cfg := rfl
@[simp] theorem State.setNi_repair (s : State) (n : Nat) (v : NiState) : (s.setNi n v).repair = s.repair := rfl
@[simp] theorem State.setNi_beam (s : State) (n : Nat) (v : NiState) : (s.setNi n v).beam = s.beam := rfl
@[simp] theorem State.setNi_record (s : State) (n : Nat) (v : NiState) : (s.setNi n v).record = s.record := rfl
@[simp] theorem State.setNi_tally (s : State) (n : Nat) (v : NiState) : (s.setNi n v).tally = s.tally := rfl
@[simp] theorem State.setNi_tbus (s : State) (n : Nat) (v : NiState) : (s.setNi n v).tbus = s.tbus := rfl
@[simp] theorem State.setNi_lanes (s : State) (n : Nat) (v : NiState) : (s.setNi n v).lanes = s.lanes := rfl
@[simp] theorem State.setNi_hbm (s : State) (n : Nat) (v : NiState) : (s.setNi n v).hbm = s.hbm := rfl
@[simp] theorem State.setNi_store (s : State) (n : Nat) (v : NiState) : (s.setNi n v).store = s.store := rfl
@[simp] theorem State.setNi_msix (s : State) (n : Nat) (v : NiState) : (s.setNi n v).msix = s.msix := rfl
@[simp] theorem State.setNi_host (s : State) (n : Nat) (v : NiState) : (s.setNi n v).host = s.host := rfl
@[simp] theorem State.setNi_seq (s : State) (n : Nat) (v : NiState) : (s.setNi n v).seq = s.seq := rfl
@[simp] theorem State.setNi_dbg (s : State) (n : Nat) (v : NiState) : (s.setNi n v).dbg = s.dbg := rfl
@[simp] theorem State.setNi_pins (s : State) (n : Nat) (v : NiState) : (s.setNi n v).pins = s.pins := rfl
@[simp] theorem State.setNi_periph (s : State) (n : Nat) (v : NiState) : (s.setNi n v).periph = s.periph := rfl
@[simp] theorem State.setNi_power (s : State) (n : Nat) (v : NiState) : (s.setNi n v).power = s.power := rfl
@[simp] theorem State.setNi_out (s : State) (n : Nat) (v : NiState) : (s.setNi n v).out = s.out := rfl
@[simp] theorem State.setNi_pending (s : State) (n : Nat) (v : NiState) : (s.setNi n v).pending = s.pending := rfl
@[simp] theorem State.setNi_word (s : State) (n : Nat) (v : NiState) (r' : Reg) (i' : Nat) : (s.setNi n v).word r' i' = s.word r' i' := rfl
@[simp] theorem State.setNi_f (s : State) (n : Nat) (v : NiState) (G : Fld) (i' : Nat) : (s.setNi n v).f G i' = s.f G i' := rfl
@[simp] theorem State.setNi_on (s : State) (n : Nat) (v : NiState) (G : Fld) (i' : Nat) : (s.setNi n v).on G i' = s.on G i' := rfl
@[simp] theorem State.setNi_now (s : State) (n : Nat) (v : NiState) : (s.setNi n v).now = s.now := rfl

-- ------------------------------------------------------------------ setRouter

@[simp] theorem State.setRouter_part (s : State) (page : Nat) (v : RouterState) : (s.setRouter page v).part = s.part := rfl
@[simp] theorem State.setRouter_time (s : State) (page : Nat) (v : RouterState) : (s.setRouter page v).time = s.time := rfl
@[simp] theorem State.setRouter_timeOffset (s : State) (page : Nat) (v : RouterState) : (s.setRouter page v).timeOffset = s.timeOffset := rfl
@[simp] theorem State.setRouter_syncArmer (s : State) (page : Nat) (v : RouterState) : (s.setRouter page v).syncArmer = s.syncArmer := rfl
@[simp] theorem State.setRouter_syncRef (s : State) (page : Nat) (v : RouterState) : (s.setRouter page v).syncRef = s.syncRef := rfl
@[simp] theorem State.setRouter_fresh (s : State) (page : Nat) (v : RouterState) : (s.setRouter page v).fresh = s.fresh := rfl
@[simp] theorem State.setRouter_regs (s : State) (page : Nat) (v : RouterState) : (s.setRouter page v).regs = s.regs := rfl
@[simp] theorem State.setRouter_latches (s : State) (page : Nat) (v : RouterState) : (s.setRouter page v).latches = s.latches := rfl
@[simp] theorem State.setRouter_dev (s : State) (page : Nat) (v : RouterState) : (s.setRouter page v).dev = s.dev := rfl
@[simp] theorem State.setRouter_ledger (s : State) (page : Nat) (v : RouterState) : (s.setRouter page v).ledger = s.ledger := rfl
@[simp] theorem State.setRouter_fabric (s : State) (page : Nat) (v : RouterState) : (s.setRouter page v).fabric = s.fabric := rfl
@[simp] theorem State.setRouter_mem (s : State) (page : Nat) (v : RouterState) : (s.setRouter page v).mem = s.mem := rfl
@[simp] theorem State.setRouter_cfg (s : State) (page : Nat) (v : RouterState) : (s.setRouter page v).cfg = s.cfg := rfl
@[simp] theorem State.setRouter_repair (s : State) (page : Nat) (v : RouterState) : (s.setRouter page v).repair = s.repair := rfl
@[simp] theorem State.setRouter_beam (s : State) (page : Nat) (v : RouterState) : (s.setRouter page v).beam = s.beam := rfl
@[simp] theorem State.setRouter_record (s : State) (page : Nat) (v : RouterState) : (s.setRouter page v).record = s.record := rfl
@[simp] theorem State.setRouter_tally (s : State) (page : Nat) (v : RouterState) : (s.setRouter page v).tally = s.tally := rfl
@[simp] theorem State.setRouter_tbus (s : State) (page : Nat) (v : RouterState) : (s.setRouter page v).tbus = s.tbus := rfl
@[simp] theorem State.setRouter_lanes (s : State) (page : Nat) (v : RouterState) : (s.setRouter page v).lanes = s.lanes := rfl
@[simp] theorem State.setRouter_hbm (s : State) (page : Nat) (v : RouterState) : (s.setRouter page v).hbm = s.hbm := rfl
@[simp] theorem State.setRouter_store (s : State) (page : Nat) (v : RouterState) : (s.setRouter page v).store = s.store := rfl
@[simp] theorem State.setRouter_msix (s : State) (page : Nat) (v : RouterState) : (s.setRouter page v).msix = s.msix := rfl
@[simp] theorem State.setRouter_host (s : State) (page : Nat) (v : RouterState) : (s.setRouter page v).host = s.host := rfl
@[simp] theorem State.setRouter_seq (s : State) (page : Nat) (v : RouterState) : (s.setRouter page v).seq = s.seq := rfl
@[simp] theorem State.setRouter_dbg (s : State) (page : Nat) (v : RouterState) : (s.setRouter page v).dbg = s.dbg := rfl
@[simp] theorem State.setRouter_pins (s : State) (page : Nat) (v : RouterState) : (s.setRouter page v).pins = s.pins := rfl
@[simp] theorem State.setRouter_periph (s : State) (page : Nat) (v : RouterState) : (s.setRouter page v).periph = s.periph := rfl
@[simp] theorem State.setRouter_power (s : State) (page : Nat) (v : RouterState) : (s.setRouter page v).power = s.power := rfl
@[simp] theorem State.setRouter_out (s : State) (page : Nat) (v : RouterState) : (s.setRouter page v).out = s.out := rfl
@[simp] theorem State.setRouter_pending (s : State) (page : Nat) (v : RouterState) : (s.setRouter page v).pending = s.pending := rfl
@[simp] theorem State.setRouter_word (s : State) (page : Nat) (v : RouterState) (r' : Reg) (i' : Nat) : (s.setRouter page v).word r' i' = s.word r' i' := rfl
@[simp] theorem State.setRouter_f (s : State) (page : Nat) (v : RouterState) (G : Fld) (i' : Nat) : (s.setRouter page v).f G i' = s.f G i' := rfl
@[simp] theorem State.setRouter_on (s : State) (page : Nat) (v : RouterState) (G : Fld) (i' : Nat) : (s.setRouter page v).on G i' = s.on G i' := rfl
@[simp] theorem State.setRouter_now (s : State) (page : Nat) (v : RouterState) : (s.setRouter page v).now = s.now := rfl

-- ------------------------------------------------------------------ setDebug

@[simp] theorem State.setDebug_part (s : State) (d : DebugState) : (s.setDebug d).part = s.part := rfl
@[simp] theorem State.setDebug_time (s : State) (d : DebugState) : (s.setDebug d).time = s.time := rfl
@[simp] theorem State.setDebug_timeOffset (s : State) (d : DebugState) : (s.setDebug d).timeOffset = s.timeOffset := rfl
@[simp] theorem State.setDebug_syncArmer (s : State) (d : DebugState) : (s.setDebug d).syncArmer = s.syncArmer := rfl
@[simp] theorem State.setDebug_syncRef (s : State) (d : DebugState) : (s.setDebug d).syncRef = s.syncRef := rfl
@[simp] theorem State.setDebug_fresh (s : State) (d : DebugState) : (s.setDebug d).fresh = s.fresh := rfl
@[simp] theorem State.setDebug_regs (s : State) (d : DebugState) : (s.setDebug d).regs = s.regs := rfl
@[simp] theorem State.setDebug_latches (s : State) (d : DebugState) : (s.setDebug d).latches = s.latches := rfl
@[simp] theorem State.setDebug_dev (s : State) (d : DebugState) : (s.setDebug d).dev = s.dev := rfl
@[simp] theorem State.setDebug_ledger (s : State) (d : DebugState) : (s.setDebug d).ledger = s.ledger := rfl
@[simp] theorem State.setDebug_fabric (s : State) (d : DebugState) : (s.setDebug d).fabric = s.fabric := rfl
@[simp] theorem State.setDebug_mem (s : State) (d : DebugState) : (s.setDebug d).mem = s.mem := rfl
@[simp] theorem State.setDebug_cfg (s : State) (d : DebugState) : (s.setDebug d).cfg = s.cfg := rfl
@[simp] theorem State.setDebug_repair (s : State) (d : DebugState) : (s.setDebug d).repair = s.repair := rfl
@[simp] theorem State.setDebug_net (s : State) (d : DebugState) : (s.setDebug d).net = s.net := rfl
@[simp] theorem State.setDebug_beam (s : State) (d : DebugState) : (s.setDebug d).beam = s.beam := rfl
@[simp] theorem State.setDebug_record (s : State) (d : DebugState) : (s.setDebug d).record = s.record := rfl
@[simp] theorem State.setDebug_tally (s : State) (d : DebugState) : (s.setDebug d).tally = s.tally := rfl
@[simp] theorem State.setDebug_tbus (s : State) (d : DebugState) : (s.setDebug d).tbus = s.tbus := rfl
@[simp] theorem State.setDebug_lanes (s : State) (d : DebugState) : (s.setDebug d).lanes = s.lanes := rfl
@[simp] theorem State.setDebug_hbm (s : State) (d : DebugState) : (s.setDebug d).hbm = s.hbm := rfl
@[simp] theorem State.setDebug_store (s : State) (d : DebugState) : (s.setDebug d).store = s.store := rfl
@[simp] theorem State.setDebug_msix (s : State) (d : DebugState) : (s.setDebug d).msix = s.msix := rfl
@[simp] theorem State.setDebug_host (s : State) (d : DebugState) : (s.setDebug d).host = s.host := rfl
@[simp] theorem State.setDebug_seq (s : State) (d : DebugState) : (s.setDebug d).seq = s.seq := rfl
@[simp] theorem State.setDebug_pins (s : State) (d : DebugState) : (s.setDebug d).pins = s.pins := rfl
@[simp] theorem State.setDebug_periph (s : State) (d : DebugState) : (s.setDebug d).periph = s.periph := rfl
@[simp] theorem State.setDebug_power (s : State) (d : DebugState) : (s.setDebug d).power = s.power := rfl
@[simp] theorem State.setDebug_out (s : State) (d : DebugState) : (s.setDebug d).out = s.out := rfl
@[simp] theorem State.setDebug_pending (s : State) (d : DebugState) : (s.setDebug d).pending = s.pending := rfl
@[simp] theorem State.setDebug_word (s : State) (d : DebugState) (r' : Reg) (i' : Nat) : (s.setDebug d).word r' i' = s.word r' i' := rfl
@[simp] theorem State.setDebug_f (s : State) (d : DebugState) (G : Fld) (i' : Nat) : (s.setDebug d).f G i' = s.f G i' := rfl
@[simp] theorem State.setDebug_on (s : State) (d : DebugState) (G : Fld) (i' : Nat) : (s.setDebug d).on G i' = s.on G i' := rfl
@[simp] theorem State.setDebug_now (s : State) (d : DebugState) : (s.setDebug d).now = s.now := rfl

-- ------------------------------------------------------------------ setRepair

@[simp] theorem State.setRepair_part (s : State) (r : RepairState) : (s.setRepair r).part = s.part := rfl
@[simp] theorem State.setRepair_time (s : State) (r : RepairState) : (s.setRepair r).time = s.time := rfl
@[simp] theorem State.setRepair_timeOffset (s : State) (r : RepairState) : (s.setRepair r).timeOffset = s.timeOffset := rfl
@[simp] theorem State.setRepair_syncArmer (s : State) (r : RepairState) : (s.setRepair r).syncArmer = s.syncArmer := rfl
@[simp] theorem State.setRepair_syncRef (s : State) (r : RepairState) : (s.setRepair r).syncRef = s.syncRef := rfl
@[simp] theorem State.setRepair_fresh (s : State) (r : RepairState) : (s.setRepair r).fresh = s.fresh := rfl
@[simp] theorem State.setRepair_regs (s : State) (r : RepairState) : (s.setRepair r).regs = s.regs := rfl
@[simp] theorem State.setRepair_latches (s : State) (r : RepairState) : (s.setRepair r).latches = s.latches := rfl
@[simp] theorem State.setRepair_dev (s : State) (r : RepairState) : (s.setRepair r).dev = s.dev := rfl
@[simp] theorem State.setRepair_ledger (s : State) (r : RepairState) : (s.setRepair r).ledger = s.ledger := rfl
@[simp] theorem State.setRepair_fabric (s : State) (r : RepairState) : (s.setRepair r).fabric = s.fabric := rfl
@[simp] theorem State.setRepair_mem (s : State) (r : RepairState) : (s.setRepair r).mem = s.mem := rfl
@[simp] theorem State.setRepair_cfg (s : State) (r : RepairState) : (s.setRepair r).cfg = s.cfg := rfl
@[simp] theorem State.setRepair_net (s : State) (r : RepairState) : (s.setRepair r).net = s.net := rfl
@[simp] theorem State.setRepair_beam (s : State) (r : RepairState) : (s.setRepair r).beam = s.beam := rfl
@[simp] theorem State.setRepair_record (s : State) (r : RepairState) : (s.setRepair r).record = s.record := rfl
@[simp] theorem State.setRepair_tally (s : State) (r : RepairState) : (s.setRepair r).tally = s.tally := rfl
@[simp] theorem State.setRepair_tbus (s : State) (r : RepairState) : (s.setRepair r).tbus = s.tbus := rfl
@[simp] theorem State.setRepair_lanes (s : State) (r : RepairState) : (s.setRepair r).lanes = s.lanes := rfl
@[simp] theorem State.setRepair_hbm (s : State) (r : RepairState) : (s.setRepair r).hbm = s.hbm := rfl
@[simp] theorem State.setRepair_store (s : State) (r : RepairState) : (s.setRepair r).store = s.store := rfl
@[simp] theorem State.setRepair_msix (s : State) (r : RepairState) : (s.setRepair r).msix = s.msix := rfl
@[simp] theorem State.setRepair_host (s : State) (r : RepairState) : (s.setRepair r).host = s.host := rfl
@[simp] theorem State.setRepair_seq (s : State) (r : RepairState) : (s.setRepair r).seq = s.seq := rfl
@[simp] theorem State.setRepair_dbg (s : State) (r : RepairState) : (s.setRepair r).dbg = s.dbg := rfl
@[simp] theorem State.setRepair_pins (s : State) (r : RepairState) : (s.setRepair r).pins = s.pins := rfl
@[simp] theorem State.setRepair_periph (s : State) (r : RepairState) : (s.setRepair r).periph = s.periph := rfl
@[simp] theorem State.setRepair_power (s : State) (r : RepairState) : (s.setRepair r).power = s.power := rfl
@[simp] theorem State.setRepair_out (s : State) (r : RepairState) : (s.setRepair r).out = s.out := rfl
@[simp] theorem State.setRepair_pending (s : State) (r : RepairState) : (s.setRepair r).pending = s.pending := rfl
@[simp] theorem State.setRepair_word (s : State) (r : RepairState) (r' : Reg) (i' : Nat) : (s.setRepair r).word r' i' = s.word r' i' := rfl
@[simp] theorem State.setRepair_f (s : State) (r : RepairState) (G : Fld) (i' : Nat) : (s.setRepair r).f G i' = s.f G i' := rfl
@[simp] theorem State.setRepair_on (s : State) (r : RepairState) (G : Fld) (i' : Nat) : (s.setRepair r).on G i' = s.on G i' := rfl
@[simp] theorem State.setRepair_now (s : State) (r : RepairState) : (s.setRepair r).now = s.now := rfl

-- ------------------------------------------------------------------ setCore

@[simp] theorem State.setCore_part (s : State) (n : Nat) (v : Core) : (s.setCore n v).part = s.part := rfl
@[simp] theorem State.setCore_time (s : State) (n : Nat) (v : Core) : (s.setCore n v).time = s.time := rfl
@[simp] theorem State.setCore_timeOffset (s : State) (n : Nat) (v : Core) : (s.setCore n v).timeOffset = s.timeOffset := rfl
@[simp] theorem State.setCore_syncArmer (s : State) (n : Nat) (v : Core) : (s.setCore n v).syncArmer = s.syncArmer := rfl
@[simp] theorem State.setCore_syncRef (s : State) (n : Nat) (v : Core) : (s.setCore n v).syncRef = s.syncRef := rfl
@[simp] theorem State.setCore_fresh (s : State) (n : Nat) (v : Core) : (s.setCore n v).fresh = s.fresh := rfl
@[simp] theorem State.setCore_regs (s : State) (n : Nat) (v : Core) : (s.setCore n v).regs = s.regs := rfl
@[simp] theorem State.setCore_latches (s : State) (n : Nat) (v : Core) : (s.setCore n v).latches = s.latches := rfl
@[simp] theorem State.setCore_dev (s : State) (n : Nat) (v : Core) : (s.setCore n v).dev = s.dev := rfl
@[simp] theorem State.setCore_ledger (s : State) (n : Nat) (v : Core) : (s.setCore n v).ledger = s.ledger := rfl
@[simp] theorem State.setCore_fabric (s : State) (n : Nat) (v : Core) : (s.setCore n v).fabric = s.fabric := rfl
@[simp] theorem State.setCore_mem (s : State) (n : Nat) (v : Core) : (s.setCore n v).mem = s.mem := rfl
@[simp] theorem State.setCore_cfg (s : State) (n : Nat) (v : Core) : (s.setCore n v).cfg = s.cfg := rfl
@[simp] theorem State.setCore_repair (s : State) (n : Nat) (v : Core) : (s.setCore n v).repair = s.repair := rfl
@[simp] theorem State.setCore_net (s : State) (n : Nat) (v : Core) : (s.setCore n v).net = s.net := rfl
@[simp] theorem State.setCore_beam (s : State) (n : Nat) (v : Core) : (s.setCore n v).beam = s.beam := rfl
@[simp] theorem State.setCore_record (s : State) (n : Nat) (v : Core) : (s.setCore n v).record = s.record := rfl
@[simp] theorem State.setCore_tally (s : State) (n : Nat) (v : Core) : (s.setCore n v).tally = s.tally := rfl
@[simp] theorem State.setCore_tbus (s : State) (n : Nat) (v : Core) : (s.setCore n v).tbus = s.tbus := rfl
@[simp] theorem State.setCore_lanes (s : State) (n : Nat) (v : Core) : (s.setCore n v).lanes = s.lanes := rfl
@[simp] theorem State.setCore_hbm (s : State) (n : Nat) (v : Core) : (s.setCore n v).hbm = s.hbm := rfl
@[simp] theorem State.setCore_store (s : State) (n : Nat) (v : Core) : (s.setCore n v).store = s.store := rfl
@[simp] theorem State.setCore_msix (s : State) (n : Nat) (v : Core) : (s.setCore n v).msix = s.msix := rfl
@[simp] theorem State.setCore_host (s : State) (n : Nat) (v : Core) : (s.setCore n v).host = s.host := rfl
@[simp] theorem State.setCore_dbg (s : State) (n : Nat) (v : Core) : (s.setCore n v).dbg = s.dbg := rfl
@[simp] theorem State.setCore_pins (s : State) (n : Nat) (v : Core) : (s.setCore n v).pins = s.pins := rfl
@[simp] theorem State.setCore_periph (s : State) (n : Nat) (v : Core) : (s.setCore n v).periph = s.periph := rfl
@[simp] theorem State.setCore_power (s : State) (n : Nat) (v : Core) : (s.setCore n v).power = s.power := rfl
@[simp] theorem State.setCore_out (s : State) (n : Nat) (v : Core) : (s.setCore n v).out = s.out := rfl
@[simp] theorem State.setCore_pending (s : State) (n : Nat) (v : Core) : (s.setCore n v).pending = s.pending := rfl
@[simp] theorem State.setCore_word (s : State) (n : Nat) (v : Core) (r' : Reg) (i' : Nat) : (s.setCore n v).word r' i' = s.word r' i' := rfl
@[simp] theorem State.setCore_f (s : State) (n : Nat) (v : Core) (G : Fld) (i' : Nat) : (s.setCore n v).f G i' = s.f G i' := rfl
@[simp] theorem State.setCore_on (s : State) (n : Nat) (v : Core) (G : Fld) (i' : Nat) : (s.setCore n v).on G i' = s.on G i' := rfl
@[simp] theorem State.setCore_now (s : State) (n : Nat) (v : Core) : (s.setCore n v).now = s.now := rfl

-- ------------------------------------------------------------------ setDma

@[simp] theorem State.setDma_part (s : State) (c : Nat) (v : Dma) : (s.setDma c v).part = s.part := rfl
@[simp] theorem State.setDma_time (s : State) (c : Nat) (v : Dma) : (s.setDma c v).time = s.time := rfl
@[simp] theorem State.setDma_timeOffset (s : State) (c : Nat) (v : Dma) : (s.setDma c v).timeOffset = s.timeOffset := rfl
@[simp] theorem State.setDma_syncArmer (s : State) (c : Nat) (v : Dma) : (s.setDma c v).syncArmer = s.syncArmer := rfl
@[simp] theorem State.setDma_syncRef (s : State) (c : Nat) (v : Dma) : (s.setDma c v).syncRef = s.syncRef := rfl
@[simp] theorem State.setDma_fresh (s : State) (c : Nat) (v : Dma) : (s.setDma c v).fresh = s.fresh := rfl
@[simp] theorem State.setDma_regs (s : State) (c : Nat) (v : Dma) : (s.setDma c v).regs = s.regs := rfl
@[simp] theorem State.setDma_latches (s : State) (c : Nat) (v : Dma) : (s.setDma c v).latches = s.latches := rfl
@[simp] theorem State.setDma_dev (s : State) (c : Nat) (v : Dma) : (s.setDma c v).dev = s.dev := rfl
@[simp] theorem State.setDma_ledger (s : State) (c : Nat) (v : Dma) : (s.setDma c v).ledger = s.ledger := rfl
@[simp] theorem State.setDma_fabric (s : State) (c : Nat) (v : Dma) : (s.setDma c v).fabric = s.fabric := rfl
@[simp] theorem State.setDma_mem (s : State) (c : Nat) (v : Dma) : (s.setDma c v).mem = s.mem := rfl
@[simp] theorem State.setDma_cfg (s : State) (c : Nat) (v : Dma) : (s.setDma c v).cfg = s.cfg := rfl
@[simp] theorem State.setDma_repair (s : State) (c : Nat) (v : Dma) : (s.setDma c v).repair = s.repair := rfl
@[simp] theorem State.setDma_net (s : State) (c : Nat) (v : Dma) : (s.setDma c v).net = s.net := rfl
@[simp] theorem State.setDma_beam (s : State) (c : Nat) (v : Dma) : (s.setDma c v).beam = s.beam := rfl
@[simp] theorem State.setDma_record (s : State) (c : Nat) (v : Dma) : (s.setDma c v).record = s.record := rfl
@[simp] theorem State.setDma_tally (s : State) (c : Nat) (v : Dma) : (s.setDma c v).tally = s.tally := rfl
@[simp] theorem State.setDma_tbus (s : State) (c : Nat) (v : Dma) : (s.setDma c v).tbus = s.tbus := rfl
@[simp] theorem State.setDma_lanes (s : State) (c : Nat) (v : Dma) : (s.setDma c v).lanes = s.lanes := rfl
@[simp] theorem State.setDma_hbm (s : State) (c : Nat) (v : Dma) : (s.setDma c v).hbm = s.hbm := rfl
@[simp] theorem State.setDma_store (s : State) (c : Nat) (v : Dma) : (s.setDma c v).store = s.store := rfl
@[simp] theorem State.setDma_msix (s : State) (c : Nat) (v : Dma) : (s.setDma c v).msix = s.msix := rfl
@[simp] theorem State.setDma_seq (s : State) (c : Nat) (v : Dma) : (s.setDma c v).seq = s.seq := rfl
@[simp] theorem State.setDma_dbg (s : State) (c : Nat) (v : Dma) : (s.setDma c v).dbg = s.dbg := rfl
@[simp] theorem State.setDma_pins (s : State) (c : Nat) (v : Dma) : (s.setDma c v).pins = s.pins := rfl
@[simp] theorem State.setDma_periph (s : State) (c : Nat) (v : Dma) : (s.setDma c v).periph = s.periph := rfl
@[simp] theorem State.setDma_power (s : State) (c : Nat) (v : Dma) : (s.setDma c v).power = s.power := rfl
@[simp] theorem State.setDma_out (s : State) (c : Nat) (v : Dma) : (s.setDma c v).out = s.out := rfl
@[simp] theorem State.setDma_pending (s : State) (c : Nat) (v : Dma) : (s.setDma c v).pending = s.pending := rfl
@[simp] theorem State.setDma_word (s : State) (c : Nat) (v : Dma) (r' : Reg) (i' : Nat) : (s.setDma c v).word r' i' = s.word r' i' := rfl
@[simp] theorem State.setDma_f (s : State) (c : Nat) (v : Dma) (G : Fld) (i' : Nat) : (s.setDma c v).f G i' = s.f G i' := rfl
@[simp] theorem State.setDma_on (s : State) (c : Nat) (v : Dma) (G : Fld) (i' : Nat) : (s.setDma c v).on G i' = s.on G i' := rfl
@[simp] theorem State.setDma_now (s : State) (c : Nat) (v : Dma) : (s.setDma c v).now = s.now := rfl

-- ------------------------------------------------------------------ setLane

@[simp] theorem State.setLane_part (s : State) (l : Nat) (v : LaneState) : (s.setLane l v).part = s.part := rfl
@[simp] theorem State.setLane_time (s : State) (l : Nat) (v : LaneState) : (s.setLane l v).time = s.time := rfl
@[simp] theorem State.setLane_timeOffset (s : State) (l : Nat) (v : LaneState) : (s.setLane l v).timeOffset = s.timeOffset := rfl
@[simp] theorem State.setLane_syncArmer (s : State) (l : Nat) (v : LaneState) : (s.setLane l v).syncArmer = s.syncArmer := rfl
@[simp] theorem State.setLane_syncRef (s : State) (l : Nat) (v : LaneState) : (s.setLane l v).syncRef = s.syncRef := rfl
@[simp] theorem State.setLane_fresh (s : State) (l : Nat) (v : LaneState) : (s.setLane l v).fresh = s.fresh := rfl
@[simp] theorem State.setLane_regs (s : State) (l : Nat) (v : LaneState) : (s.setLane l v).regs = s.regs := rfl
@[simp] theorem State.setLane_latches (s : State) (l : Nat) (v : LaneState) : (s.setLane l v).latches = s.latches := rfl
@[simp] theorem State.setLane_dev (s : State) (l : Nat) (v : LaneState) : (s.setLane l v).dev = s.dev := rfl
@[simp] theorem State.setLane_ledger (s : State) (l : Nat) (v : LaneState) : (s.setLane l v).ledger = s.ledger := rfl
@[simp] theorem State.setLane_fabric (s : State) (l : Nat) (v : LaneState) : (s.setLane l v).fabric = s.fabric := rfl
@[simp] theorem State.setLane_mem (s : State) (l : Nat) (v : LaneState) : (s.setLane l v).mem = s.mem := rfl
@[simp] theorem State.setLane_cfg (s : State) (l : Nat) (v : LaneState) : (s.setLane l v).cfg = s.cfg := rfl
@[simp] theorem State.setLane_repair (s : State) (l : Nat) (v : LaneState) : (s.setLane l v).repair = s.repair := rfl
@[simp] theorem State.setLane_net (s : State) (l : Nat) (v : LaneState) : (s.setLane l v).net = s.net := rfl
@[simp] theorem State.setLane_beam (s : State) (l : Nat) (v : LaneState) : (s.setLane l v).beam = s.beam := rfl
@[simp] theorem State.setLane_record (s : State) (l : Nat) (v : LaneState) : (s.setLane l v).record = s.record := rfl
@[simp] theorem State.setLane_tally (s : State) (l : Nat) (v : LaneState) : (s.setLane l v).tally = s.tally := rfl
@[simp] theorem State.setLane_tbus (s : State) (l : Nat) (v : LaneState) : (s.setLane l v).tbus = s.tbus := rfl
@[simp] theorem State.setLane_hbm (s : State) (l : Nat) (v : LaneState) : (s.setLane l v).hbm = s.hbm := rfl
@[simp] theorem State.setLane_store (s : State) (l : Nat) (v : LaneState) : (s.setLane l v).store = s.store := rfl
@[simp] theorem State.setLane_msix (s : State) (l : Nat) (v : LaneState) : (s.setLane l v).msix = s.msix := rfl
@[simp] theorem State.setLane_host (s : State) (l : Nat) (v : LaneState) : (s.setLane l v).host = s.host := rfl
@[simp] theorem State.setLane_seq (s : State) (l : Nat) (v : LaneState) : (s.setLane l v).seq = s.seq := rfl
@[simp] theorem State.setLane_dbg (s : State) (l : Nat) (v : LaneState) : (s.setLane l v).dbg = s.dbg := rfl
@[simp] theorem State.setLane_pins (s : State) (l : Nat) (v : LaneState) : (s.setLane l v).pins = s.pins := rfl
@[simp] theorem State.setLane_periph (s : State) (l : Nat) (v : LaneState) : (s.setLane l v).periph = s.periph := rfl
@[simp] theorem State.setLane_power (s : State) (l : Nat) (v : LaneState) : (s.setLane l v).power = s.power := rfl
@[simp] theorem State.setLane_out (s : State) (l : Nat) (v : LaneState) : (s.setLane l v).out = s.out := rfl
@[simp] theorem State.setLane_pending (s : State) (l : Nat) (v : LaneState) : (s.setLane l v).pending = s.pending := rfl
@[simp] theorem State.setLane_word (s : State) (l : Nat) (v : LaneState) (r' : Reg) (i' : Nat) : (s.setLane l v).word r' i' = s.word r' i' := rfl
@[simp] theorem State.setLane_f (s : State) (l : Nat) (v : LaneState) (G : Fld) (i' : Nat) : (s.setLane l v).f G i' = s.f G i' := rfl
@[simp] theorem State.setLane_on (s : State) (l : Nat) (v : LaneState) (G : Fld) (i' : Nat) : (s.setLane l v).on G i' = s.on G i' := rfl
@[simp] theorem State.setLane_now (s : State) (l : Nat) (v : LaneState) : (s.setLane l v).now = s.now := rfl

-- ------------------------------------------------------------------ setQueue

@[simp] theorem State.setQueue_part (s : State) (q : Nat) (v : Queue) : (s.setQueue q v).part = s.part := rfl
@[simp] theorem State.setQueue_time (s : State) (q : Nat) (v : Queue) : (s.setQueue q v).time = s.time := rfl
@[simp] theorem State.setQueue_timeOffset (s : State) (q : Nat) (v : Queue) : (s.setQueue q v).timeOffset = s.timeOffset := rfl
@[simp] theorem State.setQueue_syncArmer (s : State) (q : Nat) (v : Queue) : (s.setQueue q v).syncArmer = s.syncArmer := rfl
@[simp] theorem State.setQueue_syncRef (s : State) (q : Nat) (v : Queue) : (s.setQueue q v).syncRef = s.syncRef := rfl
@[simp] theorem State.setQueue_fresh (s : State) (q : Nat) (v : Queue) : (s.setQueue q v).fresh = s.fresh := rfl
@[simp] theorem State.setQueue_regs (s : State) (q : Nat) (v : Queue) : (s.setQueue q v).regs = s.regs := rfl
@[simp] theorem State.setQueue_latches (s : State) (q : Nat) (v : Queue) : (s.setQueue q v).latches = s.latches := rfl
@[simp] theorem State.setQueue_dev (s : State) (q : Nat) (v : Queue) : (s.setQueue q v).dev = s.dev := rfl
@[simp] theorem State.setQueue_ledger (s : State) (q : Nat) (v : Queue) : (s.setQueue q v).ledger = s.ledger := rfl
@[simp] theorem State.setQueue_fabric (s : State) (q : Nat) (v : Queue) : (s.setQueue q v).fabric = s.fabric := rfl
@[simp] theorem State.setQueue_cfg (s : State) (q : Nat) (v : Queue) : (s.setQueue q v).cfg = s.cfg := rfl
@[simp] theorem State.setQueue_repair (s : State) (q : Nat) (v : Queue) : (s.setQueue q v).repair = s.repair := rfl
@[simp] theorem State.setQueue_net (s : State) (q : Nat) (v : Queue) : (s.setQueue q v).net = s.net := rfl
@[simp] theorem State.setQueue_beam (s : State) (q : Nat) (v : Queue) : (s.setQueue q v).beam = s.beam := rfl
@[simp] theorem State.setQueue_record (s : State) (q : Nat) (v : Queue) : (s.setQueue q v).record = s.record := rfl
@[simp] theorem State.setQueue_tally (s : State) (q : Nat) (v : Queue) : (s.setQueue q v).tally = s.tally := rfl
@[simp] theorem State.setQueue_tbus (s : State) (q : Nat) (v : Queue) : (s.setQueue q v).tbus = s.tbus := rfl
@[simp] theorem State.setQueue_lanes (s : State) (q : Nat) (v : Queue) : (s.setQueue q v).lanes = s.lanes := rfl
@[simp] theorem State.setQueue_hbm (s : State) (q : Nat) (v : Queue) : (s.setQueue q v).hbm = s.hbm := rfl
@[simp] theorem State.setQueue_store (s : State) (q : Nat) (v : Queue) : (s.setQueue q v).store = s.store := rfl
@[simp] theorem State.setQueue_msix (s : State) (q : Nat) (v : Queue) : (s.setQueue q v).msix = s.msix := rfl
@[simp] theorem State.setQueue_host (s : State) (q : Nat) (v : Queue) : (s.setQueue q v).host = s.host := rfl
@[simp] theorem State.setQueue_seq (s : State) (q : Nat) (v : Queue) : (s.setQueue q v).seq = s.seq := rfl
@[simp] theorem State.setQueue_dbg (s : State) (q : Nat) (v : Queue) : (s.setQueue q v).dbg = s.dbg := rfl
@[simp] theorem State.setQueue_pins (s : State) (q : Nat) (v : Queue) : (s.setQueue q v).pins = s.pins := rfl
@[simp] theorem State.setQueue_periph (s : State) (q : Nat) (v : Queue) : (s.setQueue q v).periph = s.periph := rfl
@[simp] theorem State.setQueue_power (s : State) (q : Nat) (v : Queue) : (s.setQueue q v).power = s.power := rfl
@[simp] theorem State.setQueue_out (s : State) (q : Nat) (v : Queue) : (s.setQueue q v).out = s.out := rfl
@[simp] theorem State.setQueue_pending (s : State) (q : Nat) (v : Queue) : (s.setQueue q v).pending = s.pending := rfl
@[simp] theorem State.setQueue_word (s : State) (q : Nat) (v : Queue) (r' : Reg) (i' : Nat) : (s.setQueue q v).word r' i' = s.word r' i' := rfl
@[simp] theorem State.setQueue_f (s : State) (q : Nat) (v : Queue) (G : Fld) (i' : Nat) : (s.setQueue q v).f G i' = s.f G i' := rfl
@[simp] theorem State.setQueue_on (s : State) (q : Nat) (v : Queue) (G : Fld) (i' : Nat) : (s.setQueue q v).on G i' = s.on G i' := rfl
@[simp] theorem State.setQueue_now (s : State) (q : Nat) (v : Queue) : (s.setQueue q v).now = s.now := rfl

-- ------------------------------------------------------------------ setStage

@[simp] theorem State.setStage_part (s : State) (c : CellId) (v : Stage) : (s.setStage c v).part = s.part := rfl
@[simp] theorem State.setStage_time (s : State) (c : CellId) (v : Stage) : (s.setStage c v).time = s.time := rfl
@[simp] theorem State.setStage_timeOffset (s : State) (c : CellId) (v : Stage) : (s.setStage c v).timeOffset = s.timeOffset := rfl
@[simp] theorem State.setStage_syncArmer (s : State) (c : CellId) (v : Stage) : (s.setStage c v).syncArmer = s.syncArmer := rfl
@[simp] theorem State.setStage_syncRef (s : State) (c : CellId) (v : Stage) : (s.setStage c v).syncRef = s.syncRef := rfl
@[simp] theorem State.setStage_fresh (s : State) (c : CellId) (v : Stage) : (s.setStage c v).fresh = s.fresh := rfl
@[simp] theorem State.setStage_regs (s : State) (c : CellId) (v : Stage) : (s.setStage c v).regs = s.regs := rfl
@[simp] theorem State.setStage_latches (s : State) (c : CellId) (v : Stage) : (s.setStage c v).latches = s.latches := rfl
@[simp] theorem State.setStage_dev (s : State) (c : CellId) (v : Stage) : (s.setStage c v).dev = s.dev := rfl
@[simp] theorem State.setStage_ledger (s : State) (c : CellId) (v : Stage) : (s.setStage c v).ledger = s.ledger := rfl
@[simp] theorem State.setStage_mem (s : State) (c : CellId) (v : Stage) : (s.setStage c v).mem = s.mem := rfl
@[simp] theorem State.setStage_cfg (s : State) (c : CellId) (v : Stage) : (s.setStage c v).cfg = s.cfg := rfl
@[simp] theorem State.setStage_repair (s : State) (c : CellId) (v : Stage) : (s.setStage c v).repair = s.repair := rfl
@[simp] theorem State.setStage_net (s : State) (c : CellId) (v : Stage) : (s.setStage c v).net = s.net := rfl
@[simp] theorem State.setStage_beam (s : State) (c : CellId) (v : Stage) : (s.setStage c v).beam = s.beam := rfl
@[simp] theorem State.setStage_record (s : State) (c : CellId) (v : Stage) : (s.setStage c v).record = s.record := rfl
@[simp] theorem State.setStage_tally (s : State) (c : CellId) (v : Stage) : (s.setStage c v).tally = s.tally := rfl
@[simp] theorem State.setStage_tbus (s : State) (c : CellId) (v : Stage) : (s.setStage c v).tbus = s.tbus := rfl
@[simp] theorem State.setStage_lanes (s : State) (c : CellId) (v : Stage) : (s.setStage c v).lanes = s.lanes := rfl
@[simp] theorem State.setStage_hbm (s : State) (c : CellId) (v : Stage) : (s.setStage c v).hbm = s.hbm := rfl
@[simp] theorem State.setStage_store (s : State) (c : CellId) (v : Stage) : (s.setStage c v).store = s.store := rfl
@[simp] theorem State.setStage_msix (s : State) (c : CellId) (v : Stage) : (s.setStage c v).msix = s.msix := rfl
@[simp] theorem State.setStage_host (s : State) (c : CellId) (v : Stage) : (s.setStage c v).host = s.host := rfl
@[simp] theorem State.setStage_seq (s : State) (c : CellId) (v : Stage) : (s.setStage c v).seq = s.seq := rfl
@[simp] theorem State.setStage_dbg (s : State) (c : CellId) (v : Stage) : (s.setStage c v).dbg = s.dbg := rfl
@[simp] theorem State.setStage_pins (s : State) (c : CellId) (v : Stage) : (s.setStage c v).pins = s.pins := rfl
@[simp] theorem State.setStage_periph (s : State) (c : CellId) (v : Stage) : (s.setStage c v).periph = s.periph := rfl
@[simp] theorem State.setStage_power (s : State) (c : CellId) (v : Stage) : (s.setStage c v).power = s.power := rfl
@[simp] theorem State.setStage_out (s : State) (c : CellId) (v : Stage) : (s.setStage c v).out = s.out := rfl
@[simp] theorem State.setStage_pending (s : State) (c : CellId) (v : Stage) : (s.setStage c v).pending = s.pending := rfl
@[simp] theorem State.setStage_word (s : State) (c : CellId) (v : Stage) (r' : Reg) (i' : Nat) : (s.setStage c v).word r' i' = s.word r' i' := rfl
@[simp] theorem State.setStage_f (s : State) (c : CellId) (v : Stage) (G : Fld) (i' : Nat) : (s.setStage c v).f G i' = s.f G i' := rfl
@[simp] theorem State.setStage_on (s : State) (c : CellId) (v : Stage) (G : Fld) (i' : Nat) : (s.setStage c v).on G i' = s.on G i' := rfl
@[simp] theorem State.setStage_now (s : State) (c : CellId) (v : Stage) : (s.setStage c v).now = s.now := rfl

-- ------------------------------------------------------------------ setPinStation

@[simp] theorem State.setPinStation_part (s : State) (p : Nat) (v : Station) : (s.setPinStation p v).part = s.part := rfl
@[simp] theorem State.setPinStation_time (s : State) (p : Nat) (v : Station) : (s.setPinStation p v).time = s.time := rfl
@[simp] theorem State.setPinStation_timeOffset (s : State) (p : Nat) (v : Station) : (s.setPinStation p v).timeOffset = s.timeOffset := rfl
@[simp] theorem State.setPinStation_syncArmer (s : State) (p : Nat) (v : Station) : (s.setPinStation p v).syncArmer = s.syncArmer := rfl
@[simp] theorem State.setPinStation_syncRef (s : State) (p : Nat) (v : Station) : (s.setPinStation p v).syncRef = s.syncRef := rfl
@[simp] theorem State.setPinStation_fresh (s : State) (p : Nat) (v : Station) : (s.setPinStation p v).fresh = s.fresh := rfl
@[simp] theorem State.setPinStation_regs (s : State) (p : Nat) (v : Station) : (s.setPinStation p v).regs = s.regs := rfl
@[simp] theorem State.setPinStation_latches (s : State) (p : Nat) (v : Station) : (s.setPinStation p v).latches = s.latches := rfl
@[simp] theorem State.setPinStation_dev (s : State) (p : Nat) (v : Station) : (s.setPinStation p v).dev = s.dev := rfl
@[simp] theorem State.setPinStation_ledger (s : State) (p : Nat) (v : Station) : (s.setPinStation p v).ledger = s.ledger := rfl
@[simp] theorem State.setPinStation_mem (s : State) (p : Nat) (v : Station) : (s.setPinStation p v).mem = s.mem := rfl
@[simp] theorem State.setPinStation_cfg (s : State) (p : Nat) (v : Station) : (s.setPinStation p v).cfg = s.cfg := rfl
@[simp] theorem State.setPinStation_repair (s : State) (p : Nat) (v : Station) : (s.setPinStation p v).repair = s.repair := rfl
@[simp] theorem State.setPinStation_net (s : State) (p : Nat) (v : Station) : (s.setPinStation p v).net = s.net := rfl
@[simp] theorem State.setPinStation_beam (s : State) (p : Nat) (v : Station) : (s.setPinStation p v).beam = s.beam := rfl
@[simp] theorem State.setPinStation_record (s : State) (p : Nat) (v : Station) : (s.setPinStation p v).record = s.record := rfl
@[simp] theorem State.setPinStation_tally (s : State) (p : Nat) (v : Station) : (s.setPinStation p v).tally = s.tally := rfl
@[simp] theorem State.setPinStation_tbus (s : State) (p : Nat) (v : Station) : (s.setPinStation p v).tbus = s.tbus := rfl
@[simp] theorem State.setPinStation_lanes (s : State) (p : Nat) (v : Station) : (s.setPinStation p v).lanes = s.lanes := rfl
@[simp] theorem State.setPinStation_hbm (s : State) (p : Nat) (v : Station) : (s.setPinStation p v).hbm = s.hbm := rfl
@[simp] theorem State.setPinStation_store (s : State) (p : Nat) (v : Station) : (s.setPinStation p v).store = s.store := rfl
@[simp] theorem State.setPinStation_msix (s : State) (p : Nat) (v : Station) : (s.setPinStation p v).msix = s.msix := rfl
@[simp] theorem State.setPinStation_host (s : State) (p : Nat) (v : Station) : (s.setPinStation p v).host = s.host := rfl
@[simp] theorem State.setPinStation_seq (s : State) (p : Nat) (v : Station) : (s.setPinStation p v).seq = s.seq := rfl
@[simp] theorem State.setPinStation_dbg (s : State) (p : Nat) (v : Station) : (s.setPinStation p v).dbg = s.dbg := rfl
@[simp] theorem State.setPinStation_pins (s : State) (p : Nat) (v : Station) : (s.setPinStation p v).pins = s.pins := rfl
@[simp] theorem State.setPinStation_periph (s : State) (p : Nat) (v : Station) : (s.setPinStation p v).periph = s.periph := rfl
@[simp] theorem State.setPinStation_power (s : State) (p : Nat) (v : Station) : (s.setPinStation p v).power = s.power := rfl
@[simp] theorem State.setPinStation_out (s : State) (p : Nat) (v : Station) : (s.setPinStation p v).out = s.out := rfl
@[simp] theorem State.setPinStation_pending (s : State) (p : Nat) (v : Station) : (s.setPinStation p v).pending = s.pending := rfl
@[simp] theorem State.setPinStation_word (s : State) (p : Nat) (v : Station) (r' : Reg) (i' : Nat) : (s.setPinStation p v).word r' i' = s.word r' i' := rfl
@[simp] theorem State.setPinStation_f (s : State) (p : Nat) (v : Station) (G : Fld) (i' : Nat) : (s.setPinStation p v).f G i' = s.f G i' := rfl
@[simp] theorem State.setPinStation_on (s : State) (p : Nat) (v : Station) (G : Fld) (i' : Nat) : (s.setPinStation p v).on G i' = s.on G i' := rfl
@[simp] theorem State.setPinStation_now (s : State) (p : Nat) (v : Station) : (s.setPinStation p v).now = s.now := rfl

-- ------------------------------------------------------------------ setLine

@[simp] theorem State.setLine_part (s : State) (n : Nat) (v : Line) : (s.setLine n v).part = s.part := rfl
@[simp] theorem State.setLine_time (s : State) (n : Nat) (v : Line) : (s.setLine n v).time = s.time := rfl
@[simp] theorem State.setLine_timeOffset (s : State) (n : Nat) (v : Line) : (s.setLine n v).timeOffset = s.timeOffset := rfl
@[simp] theorem State.setLine_syncArmer (s : State) (n : Nat) (v : Line) : (s.setLine n v).syncArmer = s.syncArmer := rfl
@[simp] theorem State.setLine_syncRef (s : State) (n : Nat) (v : Line) : (s.setLine n v).syncRef = s.syncRef := rfl
@[simp] theorem State.setLine_fresh (s : State) (n : Nat) (v : Line) : (s.setLine n v).fresh = s.fresh := rfl
@[simp] theorem State.setLine_regs (s : State) (n : Nat) (v : Line) : (s.setLine n v).regs = s.regs := rfl
@[simp] theorem State.setLine_latches (s : State) (n : Nat) (v : Line) : (s.setLine n v).latches = s.latches := rfl
@[simp] theorem State.setLine_dev (s : State) (n : Nat) (v : Line) : (s.setLine n v).dev = s.dev := rfl
@[simp] theorem State.setLine_ledger (s : State) (n : Nat) (v : Line) : (s.setLine n v).ledger = s.ledger := rfl
@[simp] theorem State.setLine_fabric (s : State) (n : Nat) (v : Line) : (s.setLine n v).fabric = s.fabric := rfl
@[simp] theorem State.setLine_mem (s : State) (n : Nat) (v : Line) : (s.setLine n v).mem = s.mem := rfl
@[simp] theorem State.setLine_cfg (s : State) (n : Nat) (v : Line) : (s.setLine n v).cfg = s.cfg := rfl
@[simp] theorem State.setLine_repair (s : State) (n : Nat) (v : Line) : (s.setLine n v).repair = s.repair := rfl
@[simp] theorem State.setLine_net (s : State) (n : Nat) (v : Line) : (s.setLine n v).net = s.net := rfl
@[simp] theorem State.setLine_beam (s : State) (n : Nat) (v : Line) : (s.setLine n v).beam = s.beam := rfl
@[simp] theorem State.setLine_record (s : State) (n : Nat) (v : Line) : (s.setLine n v).record = s.record := rfl
@[simp] theorem State.setLine_tally (s : State) (n : Nat) (v : Line) : (s.setLine n v).tally = s.tally := rfl
@[simp] theorem State.setLine_lanes (s : State) (n : Nat) (v : Line) : (s.setLine n v).lanes = s.lanes := rfl
@[simp] theorem State.setLine_hbm (s : State) (n : Nat) (v : Line) : (s.setLine n v).hbm = s.hbm := rfl
@[simp] theorem State.setLine_store (s : State) (n : Nat) (v : Line) : (s.setLine n v).store = s.store := rfl
@[simp] theorem State.setLine_msix (s : State) (n : Nat) (v : Line) : (s.setLine n v).msix = s.msix := rfl
@[simp] theorem State.setLine_host (s : State) (n : Nat) (v : Line) : (s.setLine n v).host = s.host := rfl
@[simp] theorem State.setLine_seq (s : State) (n : Nat) (v : Line) : (s.setLine n v).seq = s.seq := rfl
@[simp] theorem State.setLine_dbg (s : State) (n : Nat) (v : Line) : (s.setLine n v).dbg = s.dbg := rfl
@[simp] theorem State.setLine_pins (s : State) (n : Nat) (v : Line) : (s.setLine n v).pins = s.pins := rfl
@[simp] theorem State.setLine_periph (s : State) (n : Nat) (v : Line) : (s.setLine n v).periph = s.periph := rfl
@[simp] theorem State.setLine_power (s : State) (n : Nat) (v : Line) : (s.setLine n v).power = s.power := rfl
@[simp] theorem State.setLine_out (s : State) (n : Nat) (v : Line) : (s.setLine n v).out = s.out := rfl
@[simp] theorem State.setLine_pending (s : State) (n : Nat) (v : Line) : (s.setLine n v).pending = s.pending := rfl
@[simp] theorem State.setLine_word (s : State) (n : Nat) (v : Line) (r' : Reg) (i' : Nat) : (s.setLine n v).word r' i' = s.word r' i' := rfl
@[simp] theorem State.setLine_f (s : State) (n : Nat) (v : Line) (G : Fld) (i' : Nat) : (s.setLine n v).f G i' = s.f G i' := rfl
@[simp] theorem State.setLine_on (s : State) (n : Nat) (v : Line) (G : Fld) (i' : Nat) : (s.setLine n v).on G i' = s.on G i' := rfl
@[simp] theorem State.setLine_now (s : State) (n : Nat) (v : Line) : (s.setLine n v).now = s.now := rfl

-- ------------------------------------------------------------------ setDog

@[simp] theorem State.setDog_part (s : State) (w : Nat) (d : Dog) : (s.setDog w d).part = s.part := rfl
@[simp] theorem State.setDog_time (s : State) (w : Nat) (d : Dog) : (s.setDog w d).time = s.time := rfl
@[simp] theorem State.setDog_timeOffset (s : State) (w : Nat) (d : Dog) : (s.setDog w d).timeOffset = s.timeOffset := rfl
@[simp] theorem State.setDog_syncArmer (s : State) (w : Nat) (d : Dog) : (s.setDog w d).syncArmer = s.syncArmer := rfl
@[simp] theorem State.setDog_syncRef (s : State) (w : Nat) (d : Dog) : (s.setDog w d).syncRef = s.syncRef := rfl
@[simp] theorem State.setDog_fresh (s : State) (w : Nat) (d : Dog) : (s.setDog w d).fresh = s.fresh := rfl
@[simp] theorem State.setDog_regs (s : State) (w : Nat) (d : Dog) : (s.setDog w d).regs = s.regs := rfl
@[simp] theorem State.setDog_latches (s : State) (w : Nat) (d : Dog) : (s.setDog w d).latches = s.latches := rfl
@[simp] theorem State.setDog_dev (s : State) (w : Nat) (d : Dog) : (s.setDog w d).dev = s.dev := rfl
@[simp] theorem State.setDog_ledger (s : State) (w : Nat) (d : Dog) : (s.setDog w d).ledger = s.ledger := rfl
@[simp] theorem State.setDog_fabric (s : State) (w : Nat) (d : Dog) : (s.setDog w d).fabric = s.fabric := rfl
@[simp] theorem State.setDog_mem (s : State) (w : Nat) (d : Dog) : (s.setDog w d).mem = s.mem := rfl
@[simp] theorem State.setDog_cfg (s : State) (w : Nat) (d : Dog) : (s.setDog w d).cfg = s.cfg := rfl
@[simp] theorem State.setDog_repair (s : State) (w : Nat) (d : Dog) : (s.setDog w d).repair = s.repair := rfl
@[simp] theorem State.setDog_net (s : State) (w : Nat) (d : Dog) : (s.setDog w d).net = s.net := rfl
@[simp] theorem State.setDog_beam (s : State) (w : Nat) (d : Dog) : (s.setDog w d).beam = s.beam := rfl
@[simp] theorem State.setDog_record (s : State) (w : Nat) (d : Dog) : (s.setDog w d).record = s.record := rfl
@[simp] theorem State.setDog_tally (s : State) (w : Nat) (d : Dog) : (s.setDog w d).tally = s.tally := rfl
@[simp] theorem State.setDog_tbus (s : State) (w : Nat) (d : Dog) : (s.setDog w d).tbus = s.tbus := rfl
@[simp] theorem State.setDog_lanes (s : State) (w : Nat) (d : Dog) : (s.setDog w d).lanes = s.lanes := rfl
@[simp] theorem State.setDog_hbm (s : State) (w : Nat) (d : Dog) : (s.setDog w d).hbm = s.hbm := rfl
@[simp] theorem State.setDog_store (s : State) (w : Nat) (d : Dog) : (s.setDog w d).store = s.store := rfl
@[simp] theorem State.setDog_msix (s : State) (w : Nat) (d : Dog) : (s.setDog w d).msix = s.msix := rfl
@[simp] theorem State.setDog_host (s : State) (w : Nat) (d : Dog) : (s.setDog w d).host = s.host := rfl
@[simp] theorem State.setDog_dbg (s : State) (w : Nat) (d : Dog) : (s.setDog w d).dbg = s.dbg := rfl
@[simp] theorem State.setDog_pins (s : State) (w : Nat) (d : Dog) : (s.setDog w d).pins = s.pins := rfl
@[simp] theorem State.setDog_periph (s : State) (w : Nat) (d : Dog) : (s.setDog w d).periph = s.periph := rfl
@[simp] theorem State.setDog_power (s : State) (w : Nat) (d : Dog) : (s.setDog w d).power = s.power := rfl
@[simp] theorem State.setDog_out (s : State) (w : Nat) (d : Dog) : (s.setDog w d).out = s.out := rfl
@[simp] theorem State.setDog_pending (s : State) (w : Nat) (d : Dog) : (s.setDog w d).pending = s.pending := rfl
@[simp] theorem State.setDog_word (s : State) (w : Nat) (d : Dog) (r' : Reg) (i' : Nat) : (s.setDog w d).word r' i' = s.word r' i' := rfl
@[simp] theorem State.setDog_f (s : State) (w : Nat) (d : Dog) (G : Fld) (i' : Nat) : (s.setDog w d).f G i' = s.f G i' := rfl
@[simp] theorem State.setDog_on (s : State) (w : Nat) (d : Dog) (G : Fld) (i' : Nat) : (s.setDog w d).on G i' = s.on G i' := rfl
@[simp] theorem State.setDog_now (s : State) (w : Nat) (d : Dog) : (s.setDog w d).now = s.now := rfl

-- ------------------------------------------------------------------ setDrive

@[simp] theorem State.setDrive_part (s : State) (d : Nat) (v : Drive) : (s.setDrive d v).part = s.part := rfl
@[simp] theorem State.setDrive_time (s : State) (d : Nat) (v : Drive) : (s.setDrive d v).time = s.time := rfl
@[simp] theorem State.setDrive_timeOffset (s : State) (d : Nat) (v : Drive) : (s.setDrive d v).timeOffset = s.timeOffset := rfl
@[simp] theorem State.setDrive_syncArmer (s : State) (d : Nat) (v : Drive) : (s.setDrive d v).syncArmer = s.syncArmer := rfl
@[simp] theorem State.setDrive_syncRef (s : State) (d : Nat) (v : Drive) : (s.setDrive d v).syncRef = s.syncRef := rfl
@[simp] theorem State.setDrive_fresh (s : State) (d : Nat) (v : Drive) : (s.setDrive d v).fresh = s.fresh := rfl
@[simp] theorem State.setDrive_regs (s : State) (d : Nat) (v : Drive) : (s.setDrive d v).regs = s.regs := rfl
@[simp] theorem State.setDrive_latches (s : State) (d : Nat) (v : Drive) : (s.setDrive d v).latches = s.latches := rfl
@[simp] theorem State.setDrive_dev (s : State) (d : Nat) (v : Drive) : (s.setDrive d v).dev = s.dev := rfl
@[simp] theorem State.setDrive_ledger (s : State) (d : Nat) (v : Drive) : (s.setDrive d v).ledger = s.ledger := rfl
@[simp] theorem State.setDrive_fabric (s : State) (d : Nat) (v : Drive) : (s.setDrive d v).fabric = s.fabric := rfl
@[simp] theorem State.setDrive_mem (s : State) (d : Nat) (v : Drive) : (s.setDrive d v).mem = s.mem := rfl
@[simp] theorem State.setDrive_cfg (s : State) (d : Nat) (v : Drive) : (s.setDrive d v).cfg = s.cfg := rfl
@[simp] theorem State.setDrive_repair (s : State) (d : Nat) (v : Drive) : (s.setDrive d v).repair = s.repair := rfl
@[simp] theorem State.setDrive_net (s : State) (d : Nat) (v : Drive) : (s.setDrive d v).net = s.net := rfl
@[simp] theorem State.setDrive_beam (s : State) (d : Nat) (v : Drive) : (s.setDrive d v).beam = s.beam := rfl
@[simp] theorem State.setDrive_record (s : State) (d : Nat) (v : Drive) : (s.setDrive d v).record = s.record := rfl
@[simp] theorem State.setDrive_tally (s : State) (d : Nat) (v : Drive) : (s.setDrive d v).tally = s.tally := rfl
@[simp] theorem State.setDrive_tbus (s : State) (d : Nat) (v : Drive) : (s.setDrive d v).tbus = s.tbus := rfl
@[simp] theorem State.setDrive_lanes (s : State) (d : Nat) (v : Drive) : (s.setDrive d v).lanes = s.lanes := rfl
@[simp] theorem State.setDrive_hbm (s : State) (d : Nat) (v : Drive) : (s.setDrive d v).hbm = s.hbm := rfl
@[simp] theorem State.setDrive_msix (s : State) (d : Nat) (v : Drive) : (s.setDrive d v).msix = s.msix := rfl
@[simp] theorem State.setDrive_host (s : State) (d : Nat) (v : Drive) : (s.setDrive d v).host = s.host := rfl
@[simp] theorem State.setDrive_seq (s : State) (d : Nat) (v : Drive) : (s.setDrive d v).seq = s.seq := rfl
@[simp] theorem State.setDrive_dbg (s : State) (d : Nat) (v : Drive) : (s.setDrive d v).dbg = s.dbg := rfl
@[simp] theorem State.setDrive_pins (s : State) (d : Nat) (v : Drive) : (s.setDrive d v).pins = s.pins := rfl
@[simp] theorem State.setDrive_periph (s : State) (d : Nat) (v : Drive) : (s.setDrive d v).periph = s.periph := rfl
@[simp] theorem State.setDrive_power (s : State) (d : Nat) (v : Drive) : (s.setDrive d v).power = s.power := rfl
@[simp] theorem State.setDrive_out (s : State) (d : Nat) (v : Drive) : (s.setDrive d v).out = s.out := rfl
@[simp] theorem State.setDrive_pending (s : State) (d : Nat) (v : Drive) : (s.setDrive d v).pending = s.pending := rfl
@[simp] theorem State.setDrive_word (s : State) (d : Nat) (v : Drive) (r' : Reg) (i' : Nat) : (s.setDrive d v).word r' i' = s.word r' i' := rfl
@[simp] theorem State.setDrive_f (s : State) (d : Nat) (v : Drive) (G : Fld) (i' : Nat) : (s.setDrive d v).f G i' = s.f G i' := rfl
@[simp] theorem State.setDrive_on (s : State) (d : Nat) (v : Drive) (G : Fld) (i' : Nat) : (s.setDrive d v).on G i' = s.on G i' := rfl
@[simp] theorem State.setDrive_now (s : State) (d : Nat) (v : Drive) : (s.setDrive d v).now = s.now := rfl

-- ------------------------------------------------------------------ setChan

@[simp] theorem State.setChan_part (s : State) (c : Nat) (v : Chan) : (s.setChan c v).part = s.part := rfl
@[simp] theorem State.setChan_time (s : State) (c : Nat) (v : Chan) : (s.setChan c v).time = s.time := rfl
@[simp] theorem State.setChan_timeOffset (s : State) (c : Nat) (v : Chan) : (s.setChan c v).timeOffset = s.timeOffset := rfl
@[simp] theorem State.setChan_syncArmer (s : State) (c : Nat) (v : Chan) : (s.setChan c v).syncArmer = s.syncArmer := rfl
@[simp] theorem State.setChan_syncRef (s : State) (c : Nat) (v : Chan) : (s.setChan c v).syncRef = s.syncRef := rfl
@[simp] theorem State.setChan_fresh (s : State) (c : Nat) (v : Chan) : (s.setChan c v).fresh = s.fresh := rfl
@[simp] theorem State.setChan_regs (s : State) (c : Nat) (v : Chan) : (s.setChan c v).regs = s.regs := rfl
@[simp] theorem State.setChan_latches (s : State) (c : Nat) (v : Chan) : (s.setChan c v).latches = s.latches := rfl
@[simp] theorem State.setChan_dev (s : State) (c : Nat) (v : Chan) : (s.setChan c v).dev = s.dev := rfl
@[simp] theorem State.setChan_ledger (s : State) (c : Nat) (v : Chan) : (s.setChan c v).ledger = s.ledger := rfl
@[simp] theorem State.setChan_fabric (s : State) (c : Nat) (v : Chan) : (s.setChan c v).fabric = s.fabric := rfl
@[simp] theorem State.setChan_mem (s : State) (c : Nat) (v : Chan) : (s.setChan c v).mem = s.mem := rfl
@[simp] theorem State.setChan_cfg (s : State) (c : Nat) (v : Chan) : (s.setChan c v).cfg = s.cfg := rfl
@[simp] theorem State.setChan_repair (s : State) (c : Nat) (v : Chan) : (s.setChan c v).repair = s.repair := rfl
@[simp] theorem State.setChan_net (s : State) (c : Nat) (v : Chan) : (s.setChan c v).net = s.net := rfl
@[simp] theorem State.setChan_beam (s : State) (c : Nat) (v : Chan) : (s.setChan c v).beam = s.beam := rfl
@[simp] theorem State.setChan_record (s : State) (c : Nat) (v : Chan) : (s.setChan c v).record = s.record := rfl
@[simp] theorem State.setChan_tally (s : State) (c : Nat) (v : Chan) : (s.setChan c v).tally = s.tally := rfl
@[simp] theorem State.setChan_tbus (s : State) (c : Nat) (v : Chan) : (s.setChan c v).tbus = s.tbus := rfl
@[simp] theorem State.setChan_lanes (s : State) (c : Nat) (v : Chan) : (s.setChan c v).lanes = s.lanes := rfl
@[simp] theorem State.setChan_hbm (s : State) (c : Nat) (v : Chan) : (s.setChan c v).hbm = s.hbm := rfl
@[simp] theorem State.setChan_msix (s : State) (c : Nat) (v : Chan) : (s.setChan c v).msix = s.msix := rfl
@[simp] theorem State.setChan_host (s : State) (c : Nat) (v : Chan) : (s.setChan c v).host = s.host := rfl
@[simp] theorem State.setChan_seq (s : State) (c : Nat) (v : Chan) : (s.setChan c v).seq = s.seq := rfl
@[simp] theorem State.setChan_dbg (s : State) (c : Nat) (v : Chan) : (s.setChan c v).dbg = s.dbg := rfl
@[simp] theorem State.setChan_pins (s : State) (c : Nat) (v : Chan) : (s.setChan c v).pins = s.pins := rfl
@[simp] theorem State.setChan_periph (s : State) (c : Nat) (v : Chan) : (s.setChan c v).periph = s.periph := rfl
@[simp] theorem State.setChan_power (s : State) (c : Nat) (v : Chan) : (s.setChan c v).power = s.power := rfl
@[simp] theorem State.setChan_out (s : State) (c : Nat) (v : Chan) : (s.setChan c v).out = s.out := rfl
@[simp] theorem State.setChan_pending (s : State) (c : Nat) (v : Chan) : (s.setChan c v).pending = s.pending := rfl
@[simp] theorem State.setChan_word (s : State) (c : Nat) (v : Chan) (r' : Reg) (i' : Nat) : (s.setChan c v).word r' i' = s.word r' i' := rfl
@[simp] theorem State.setChan_f (s : State) (c : Nat) (v : Chan) (G : Fld) (i' : Nat) : (s.setChan c v).f G i' = s.f G i' := rfl
@[simp] theorem State.setChan_on (s : State) (c : Nat) (v : Chan) (G : Fld) (i' : Nat) : (s.setChan c v).on G i' = s.on G i' := rfl
@[simp] theorem State.setChan_now (s : State) (c : Nat) (v : Chan) : (s.setChan c v).now = s.now := rfl

-- ------------------------------------------------------------------ setPt

@[simp] theorem State.setPt_part (s : State) (t : Nat) (v : PtUnit) : (s.setPt t v).part = s.part := rfl
@[simp] theorem State.setPt_time (s : State) (t : Nat) (v : PtUnit) : (s.setPt t v).time = s.time := rfl
@[simp] theorem State.setPt_timeOffset (s : State) (t : Nat) (v : PtUnit) : (s.setPt t v).timeOffset = s.timeOffset := rfl
@[simp] theorem State.setPt_syncArmer (s : State) (t : Nat) (v : PtUnit) : (s.setPt t v).syncArmer = s.syncArmer := rfl
@[simp] theorem State.setPt_syncRef (s : State) (t : Nat) (v : PtUnit) : (s.setPt t v).syncRef = s.syncRef := rfl
@[simp] theorem State.setPt_fresh (s : State) (t : Nat) (v : PtUnit) : (s.setPt t v).fresh = s.fresh := rfl
@[simp] theorem State.setPt_regs (s : State) (t : Nat) (v : PtUnit) : (s.setPt t v).regs = s.regs := rfl
@[simp] theorem State.setPt_latches (s : State) (t : Nat) (v : PtUnit) : (s.setPt t v).latches = s.latches := rfl
@[simp] theorem State.setPt_dev (s : State) (t : Nat) (v : PtUnit) : (s.setPt t v).dev = s.dev := rfl
@[simp] theorem State.setPt_ledger (s : State) (t : Nat) (v : PtUnit) : (s.setPt t v).ledger = s.ledger := rfl
@[simp] theorem State.setPt_fabric (s : State) (t : Nat) (v : PtUnit) : (s.setPt t v).fabric = s.fabric := rfl
@[simp] theorem State.setPt_mem (s : State) (t : Nat) (v : PtUnit) : (s.setPt t v).mem = s.mem := rfl
@[simp] theorem State.setPt_cfg (s : State) (t : Nat) (v : PtUnit) : (s.setPt t v).cfg = s.cfg := rfl
@[simp] theorem State.setPt_repair (s : State) (t : Nat) (v : PtUnit) : (s.setPt t v).repair = s.repair := rfl
@[simp] theorem State.setPt_net (s : State) (t : Nat) (v : PtUnit) : (s.setPt t v).net = s.net := rfl
@[simp] theorem State.setPt_beam (s : State) (t : Nat) (v : PtUnit) : (s.setPt t v).beam = s.beam := rfl
@[simp] theorem State.setPt_record (s : State) (t : Nat) (v : PtUnit) : (s.setPt t v).record = s.record := rfl
@[simp] theorem State.setPt_tally (s : State) (t : Nat) (v : PtUnit) : (s.setPt t v).tally = s.tally := rfl
@[simp] theorem State.setPt_tbus (s : State) (t : Nat) (v : PtUnit) : (s.setPt t v).tbus = s.tbus := rfl
@[simp] theorem State.setPt_lanes (s : State) (t : Nat) (v : PtUnit) : (s.setPt t v).lanes = s.lanes := rfl
@[simp] theorem State.setPt_hbm (s : State) (t : Nat) (v : PtUnit) : (s.setPt t v).hbm = s.hbm := rfl
@[simp] theorem State.setPt_store (s : State) (t : Nat) (v : PtUnit) : (s.setPt t v).store = s.store := rfl
@[simp] theorem State.setPt_msix (s : State) (t : Nat) (v : PtUnit) : (s.setPt t v).msix = s.msix := rfl
@[simp] theorem State.setPt_host (s : State) (t : Nat) (v : PtUnit) : (s.setPt t v).host = s.host := rfl
@[simp] theorem State.setPt_seq (s : State) (t : Nat) (v : PtUnit) : (s.setPt t v).seq = s.seq := rfl
@[simp] theorem State.setPt_dbg (s : State) (t : Nat) (v : PtUnit) : (s.setPt t v).dbg = s.dbg := rfl
@[simp] theorem State.setPt_pins (s : State) (t : Nat) (v : PtUnit) : (s.setPt t v).pins = s.pins := rfl
@[simp] theorem State.setPt_power (s : State) (t : Nat) (v : PtUnit) : (s.setPt t v).power = s.power := rfl
@[simp] theorem State.setPt_out (s : State) (t : Nat) (v : PtUnit) : (s.setPt t v).out = s.out := rfl
@[simp] theorem State.setPt_pending (s : State) (t : Nat) (v : PtUnit) : (s.setPt t v).pending = s.pending := rfl
@[simp] theorem State.setPt_word (s : State) (t : Nat) (v : PtUnit) (r' : Reg) (i' : Nat) : (s.setPt t v).word r' i' = s.word r' i' := rfl
@[simp] theorem State.setPt_f (s : State) (t : Nat) (v : PtUnit) (G : Fld) (i' : Nat) : (s.setPt t v).f G i' = s.f G i' := rfl
@[simp] theorem State.setPt_on (s : State) (t : Nat) (v : PtUnit) (G : Fld) (i' : Nat) : (s.setPt t v).on G i' = s.on G i' := rfl
@[simp] theorem State.setPt_now (s : State) (t : Nat) (v : PtUnit) : (s.setPt t v).now = s.now := rfl

-- ------------------------------------------------------------------ pass

@[simp] theorem State.pass_part (s : State) (n : Nat) : (s.pass n).part = s.part := rfl
@[simp] theorem State.pass_timeOffset (s : State) (n : Nat) : (s.pass n).timeOffset = s.timeOffset := rfl
@[simp] theorem State.pass_syncArmer (s : State) (n : Nat) : (s.pass n).syncArmer = s.syncArmer := rfl
@[simp] theorem State.pass_syncRef (s : State) (n : Nat) : (s.pass n).syncRef = s.syncRef := rfl
@[simp] theorem State.pass_fresh (s : State) (n : Nat) : (s.pass n).fresh = s.fresh := rfl
@[simp] theorem State.pass_regs (s : State) (n : Nat) : (s.pass n).regs = s.regs := rfl
@[simp] theorem State.pass_latches (s : State) (n : Nat) : (s.pass n).latches = s.latches := rfl
@[simp] theorem State.pass_dev (s : State) (n : Nat) : (s.pass n).dev = s.dev := rfl
@[simp] theorem State.pass_ledger (s : State) (n : Nat) : (s.pass n).ledger = s.ledger := rfl
@[simp] theorem State.pass_fabric (s : State) (n : Nat) : (s.pass n).fabric = s.fabric := rfl
@[simp] theorem State.pass_mem (s : State) (n : Nat) : (s.pass n).mem = s.mem := rfl
@[simp] theorem State.pass_cfg (s : State) (n : Nat) : (s.pass n).cfg = s.cfg := rfl
@[simp] theorem State.pass_repair (s : State) (n : Nat) : (s.pass n).repair = s.repair := rfl
@[simp] theorem State.pass_net (s : State) (n : Nat) : (s.pass n).net = s.net := rfl
@[simp] theorem State.pass_beam (s : State) (n : Nat) : (s.pass n).beam = s.beam := rfl
@[simp] theorem State.pass_record (s : State) (n : Nat) : (s.pass n).record = s.record := rfl
@[simp] theorem State.pass_tally (s : State) (n : Nat) : (s.pass n).tally = s.tally := rfl
@[simp] theorem State.pass_tbus (s : State) (n : Nat) : (s.pass n).tbus = s.tbus := rfl
@[simp] theorem State.pass_lanes (s : State) (n : Nat) : (s.pass n).lanes = s.lanes := rfl
@[simp] theorem State.pass_hbm (s : State) (n : Nat) : (s.pass n).hbm = s.hbm := rfl
@[simp] theorem State.pass_store (s : State) (n : Nat) : (s.pass n).store = s.store := rfl
@[simp] theorem State.pass_msix (s : State) (n : Nat) : (s.pass n).msix = s.msix := rfl
@[simp] theorem State.pass_host (s : State) (n : Nat) : (s.pass n).host = s.host := rfl
@[simp] theorem State.pass_seq (s : State) (n : Nat) : (s.pass n).seq = s.seq := rfl
@[simp] theorem State.pass_dbg (s : State) (n : Nat) : (s.pass n).dbg = s.dbg := rfl
@[simp] theorem State.pass_pins (s : State) (n : Nat) : (s.pass n).pins = s.pins := rfl
@[simp] theorem State.pass_periph (s : State) (n : Nat) : (s.pass n).periph = s.periph := rfl
@[simp] theorem State.pass_power (s : State) (n : Nat) : (s.pass n).power = s.power := rfl
@[simp] theorem State.pass_out (s : State) (n : Nat) : (s.pass n).out = s.out := rfl
@[simp] theorem State.pass_pending (s : State) (n : Nat) : (s.pass n).pending = s.pending := rfl
@[simp] theorem State.pass_word (s : State) (n : Nat) (r' : Reg) (i' : Nat) : (s.pass n).word r' i' = s.word r' i' := rfl
@[simp] theorem State.pass_f (s : State) (n : Nat) (G : Fld) (i' : Nat) : (s.pass n).f G i' = s.f G i' := rfl
@[simp] theorem State.pass_on (s : State) (n : Nat) (G : Fld) (i' : Nat) : (s.pass n).on G i' = s.on G i' := rfl

-- ------------------------------------------------------------------ emit

@[simp] theorem State.emit_part (s : State) (o : Out) : (s.emit o).part = s.part := rfl
@[simp] theorem State.emit_time (s : State) (o : Out) : (s.emit o).time = s.time := rfl
@[simp] theorem State.emit_timeOffset (s : State) (o : Out) : (s.emit o).timeOffset = s.timeOffset := rfl
@[simp] theorem State.emit_syncArmer (s : State) (o : Out) : (s.emit o).syncArmer = s.syncArmer := rfl
@[simp] theorem State.emit_syncRef (s : State) (o : Out) : (s.emit o).syncRef = s.syncRef := rfl
@[simp] theorem State.emit_fresh (s : State) (o : Out) : (s.emit o).fresh = s.fresh := rfl
@[simp] theorem State.emit_regs (s : State) (o : Out) : (s.emit o).regs = s.regs := rfl
@[simp] theorem State.emit_latches (s : State) (o : Out) : (s.emit o).latches = s.latches := rfl
@[simp] theorem State.emit_dev (s : State) (o : Out) : (s.emit o).dev = s.dev := rfl
@[simp] theorem State.emit_ledger (s : State) (o : Out) : (s.emit o).ledger = s.ledger := rfl
@[simp] theorem State.emit_fabric (s : State) (o : Out) : (s.emit o).fabric = s.fabric := rfl
@[simp] theorem State.emit_mem (s : State) (o : Out) : (s.emit o).mem = s.mem := rfl
@[simp] theorem State.emit_cfg (s : State) (o : Out) : (s.emit o).cfg = s.cfg := rfl
@[simp] theorem State.emit_repair (s : State) (o : Out) : (s.emit o).repair = s.repair := rfl
@[simp] theorem State.emit_net (s : State) (o : Out) : (s.emit o).net = s.net := rfl
@[simp] theorem State.emit_beam (s : State) (o : Out) : (s.emit o).beam = s.beam := rfl
@[simp] theorem State.emit_record (s : State) (o : Out) : (s.emit o).record = s.record := rfl
@[simp] theorem State.emit_tally (s : State) (o : Out) : (s.emit o).tally = s.tally := rfl
@[simp] theorem State.emit_tbus (s : State) (o : Out) : (s.emit o).tbus = s.tbus := rfl
@[simp] theorem State.emit_lanes (s : State) (o : Out) : (s.emit o).lanes = s.lanes := rfl
@[simp] theorem State.emit_hbm (s : State) (o : Out) : (s.emit o).hbm = s.hbm := rfl
@[simp] theorem State.emit_store (s : State) (o : Out) : (s.emit o).store = s.store := rfl
@[simp] theorem State.emit_msix (s : State) (o : Out) : (s.emit o).msix = s.msix := rfl
@[simp] theorem State.emit_host (s : State) (o : Out) : (s.emit o).host = s.host := rfl
@[simp] theorem State.emit_seq (s : State) (o : Out) : (s.emit o).seq = s.seq := rfl
@[simp] theorem State.emit_dbg (s : State) (o : Out) : (s.emit o).dbg = s.dbg := rfl
@[simp] theorem State.emit_pins (s : State) (o : Out) : (s.emit o).pins = s.pins := rfl
@[simp] theorem State.emit_periph (s : State) (o : Out) : (s.emit o).periph = s.periph := rfl
@[simp] theorem State.emit_power (s : State) (o : Out) : (s.emit o).power = s.power := rfl
@[simp] theorem State.emit_pending (s : State) (o : Out) : (s.emit o).pending = s.pending := rfl
@[simp] theorem State.emit_word (s : State) (o : Out) (r' : Reg) (i' : Nat) : (s.emit o).word r' i' = s.word r' i' := rfl
@[simp] theorem State.emit_f (s : State) (o : Out) (G : Fld) (i' : Nat) : (s.emit o).f G i' = s.f G i' := rfl
@[simp] theorem State.emit_on (s : State) (o : Out) (G : Fld) (i' : Nat) : (s.emit o).on G i' = s.on G i' := rfl
@[simp] theorem State.emit_now (s : State) (o : Out) : (s.emit o).now = s.now := rfl

-- ------------------------------------------------------------------ setF

@[simp] theorem State.setF_part (s : State) (F : Fld) (i v : Nat) : (s.setF F i v).part = s.part := rfl
@[simp] theorem State.setF_time (s : State) (F : Fld) (i v : Nat) : (s.setF F i v).time = s.time := rfl
@[simp] theorem State.setF_timeOffset (s : State) (F : Fld) (i v : Nat) : (s.setF F i v).timeOffset = s.timeOffset := rfl
@[simp] theorem State.setF_syncArmer (s : State) (F : Fld) (i v : Nat) : (s.setF F i v).syncArmer = s.syncArmer := rfl
@[simp] theorem State.setF_syncRef (s : State) (F : Fld) (i v : Nat) : (s.setF F i v).syncRef = s.syncRef := rfl
@[simp] theorem State.setF_fresh (s : State) (F : Fld) (i v : Nat) : (s.setF F i v).fresh = s.fresh := rfl
@[simp] theorem State.setF_latches (s : State) (F : Fld) (i v : Nat) : (s.setF F i v).latches = s.latches := rfl
@[simp] theorem State.setF_dev (s : State) (F : Fld) (i v : Nat) : (s.setF F i v).dev = s.dev := rfl
@[simp] theorem State.setF_ledger (s : State) (F : Fld) (i v : Nat) : (s.setF F i v).ledger = s.ledger := rfl
@[simp] theorem State.setF_fabric (s : State) (F : Fld) (i v : Nat) : (s.setF F i v).fabric = s.fabric := rfl
@[simp] theorem State.setF_mem (s : State) (F : Fld) (i v : Nat) : (s.setF F i v).mem = s.mem := rfl
@[simp] theorem State.setF_cfg (s : State) (F : Fld) (i v : Nat) : (s.setF F i v).cfg = s.cfg := rfl
@[simp] theorem State.setF_repair (s : State) (F : Fld) (i v : Nat) : (s.setF F i v).repair = s.repair := rfl
@[simp] theorem State.setF_net (s : State) (F : Fld) (i v : Nat) : (s.setF F i v).net = s.net := rfl
@[simp] theorem State.setF_beam (s : State) (F : Fld) (i v : Nat) : (s.setF F i v).beam = s.beam := rfl
@[simp] theorem State.setF_record (s : State) (F : Fld) (i v : Nat) : (s.setF F i v).record = s.record := rfl
@[simp] theorem State.setF_tally (s : State) (F : Fld) (i v : Nat) : (s.setF F i v).tally = s.tally := rfl
@[simp] theorem State.setF_tbus (s : State) (F : Fld) (i v : Nat) : (s.setF F i v).tbus = s.tbus := rfl
@[simp] theorem State.setF_lanes (s : State) (F : Fld) (i v : Nat) : (s.setF F i v).lanes = s.lanes := rfl
@[simp] theorem State.setF_hbm (s : State) (F : Fld) (i v : Nat) : (s.setF F i v).hbm = s.hbm := rfl
@[simp] theorem State.setF_store (s : State) (F : Fld) (i v : Nat) : (s.setF F i v).store = s.store := rfl
@[simp] theorem State.setF_msix (s : State) (F : Fld) (i v : Nat) : (s.setF F i v).msix = s.msix := rfl
@[simp] theorem State.setF_host (s : State) (F : Fld) (i v : Nat) : (s.setF F i v).host = s.host := rfl
@[simp] theorem State.setF_seq (s : State) (F : Fld) (i v : Nat) : (s.setF F i v).seq = s.seq := rfl
@[simp] theorem State.setF_dbg (s : State) (F : Fld) (i v : Nat) : (s.setF F i v).dbg = s.dbg := rfl
@[simp] theorem State.setF_pins (s : State) (F : Fld) (i v : Nat) : (s.setF F i v).pins = s.pins := rfl
@[simp] theorem State.setF_periph (s : State) (F : Fld) (i v : Nat) : (s.setF F i v).periph = s.periph := rfl
@[simp] theorem State.setF_power (s : State) (F : Fld) (i v : Nat) : (s.setF F i v).power = s.power := rfl
@[simp] theorem State.setF_out (s : State) (F : Fld) (i v : Nat) : (s.setF F i v).out = s.out := rfl
@[simp] theorem State.setF_pending (s : State) (F : Fld) (i v : Nat) : (s.setF F i v).pending = s.pending := rfl
@[simp] theorem State.setF_now (s : State) (F : Fld) (i v : Nat) : (s.setF F i v).now = s.now := rfl

-- ------------------------------------------------------------------ raise

@[simp] theorem State.raise_part (s : State) (F : Fld) (i : Nat) : (s.raise F i).part = s.part := rfl
@[simp] theorem State.raise_time (s : State) (F : Fld) (i : Nat) : (s.raise F i).time = s.time := rfl
@[simp] theorem State.raise_timeOffset (s : State) (F : Fld) (i : Nat) : (s.raise F i).timeOffset = s.timeOffset := rfl
@[simp] theorem State.raise_syncArmer (s : State) (F : Fld) (i : Nat) : (s.raise F i).syncArmer = s.syncArmer := rfl
@[simp] theorem State.raise_syncRef (s : State) (F : Fld) (i : Nat) : (s.raise F i).syncRef = s.syncRef := rfl
@[simp] theorem State.raise_fresh (s : State) (F : Fld) (i : Nat) : (s.raise F i).fresh = s.fresh := rfl
@[simp] theorem State.raise_latches (s : State) (F : Fld) (i : Nat) : (s.raise F i).latches = s.latches := rfl
@[simp] theorem State.raise_dev (s : State) (F : Fld) (i : Nat) : (s.raise F i).dev = s.dev := rfl
@[simp] theorem State.raise_ledger (s : State) (F : Fld) (i : Nat) : (s.raise F i).ledger = s.ledger := rfl
@[simp] theorem State.raise_fabric (s : State) (F : Fld) (i : Nat) : (s.raise F i).fabric = s.fabric := rfl
@[simp] theorem State.raise_mem (s : State) (F : Fld) (i : Nat) : (s.raise F i).mem = s.mem := rfl
@[simp] theorem State.raise_cfg (s : State) (F : Fld) (i : Nat) : (s.raise F i).cfg = s.cfg := rfl
@[simp] theorem State.raise_repair (s : State) (F : Fld) (i : Nat) : (s.raise F i).repair = s.repair := rfl
@[simp] theorem State.raise_net (s : State) (F : Fld) (i : Nat) : (s.raise F i).net = s.net := rfl
@[simp] theorem State.raise_beam (s : State) (F : Fld) (i : Nat) : (s.raise F i).beam = s.beam := rfl
@[simp] theorem State.raise_record (s : State) (F : Fld) (i : Nat) : (s.raise F i).record = s.record := rfl
@[simp] theorem State.raise_tally (s : State) (F : Fld) (i : Nat) : (s.raise F i).tally = s.tally := rfl
@[simp] theorem State.raise_tbus (s : State) (F : Fld) (i : Nat) : (s.raise F i).tbus = s.tbus := rfl
@[simp] theorem State.raise_lanes (s : State) (F : Fld) (i : Nat) : (s.raise F i).lanes = s.lanes := rfl
@[simp] theorem State.raise_hbm (s : State) (F : Fld) (i : Nat) : (s.raise F i).hbm = s.hbm := rfl
@[simp] theorem State.raise_store (s : State) (F : Fld) (i : Nat) : (s.raise F i).store = s.store := rfl
@[simp] theorem State.raise_msix (s : State) (F : Fld) (i : Nat) : (s.raise F i).msix = s.msix := rfl
@[simp] theorem State.raise_host (s : State) (F : Fld) (i : Nat) : (s.raise F i).host = s.host := rfl
@[simp] theorem State.raise_seq (s : State) (F : Fld) (i : Nat) : (s.raise F i).seq = s.seq := rfl
@[simp] theorem State.raise_dbg (s : State) (F : Fld) (i : Nat) : (s.raise F i).dbg = s.dbg := rfl
@[simp] theorem State.raise_pins (s : State) (F : Fld) (i : Nat) : (s.raise F i).pins = s.pins := rfl
@[simp] theorem State.raise_periph (s : State) (F : Fld) (i : Nat) : (s.raise F i).periph = s.periph := rfl
@[simp] theorem State.raise_power (s : State) (F : Fld) (i : Nat) : (s.raise F i).power = s.power := rfl
@[simp] theorem State.raise_out (s : State) (F : Fld) (i : Nat) : (s.raise F i).out = s.out := rfl
@[simp] theorem State.raise_pending (s : State) (F : Fld) (i : Nat) : (s.raise F i).pending = s.pending := rfl
@[simp] theorem State.raise_now (s : State) (F : Fld) (i : Nat) : (s.raise F i).now = s.now := rfl

-- ------------------------------------------------------------------ bump

@[simp] theorem State.bump_part (s : State) (F : Fld) (i n : Nat) : (s.bump F i n).part = s.part := rfl
@[simp] theorem State.bump_time (s : State) (F : Fld) (i n : Nat) : (s.bump F i n).time = s.time := rfl
@[simp] theorem State.bump_timeOffset (s : State) (F : Fld) (i n : Nat) : (s.bump F i n).timeOffset = s.timeOffset := rfl
@[simp] theorem State.bump_syncArmer (s : State) (F : Fld) (i n : Nat) : (s.bump F i n).syncArmer = s.syncArmer := rfl
@[simp] theorem State.bump_syncRef (s : State) (F : Fld) (i n : Nat) : (s.bump F i n).syncRef = s.syncRef := rfl
@[simp] theorem State.bump_fresh (s : State) (F : Fld) (i n : Nat) : (s.bump F i n).fresh = s.fresh := rfl
@[simp] theorem State.bump_latches (s : State) (F : Fld) (i n : Nat) : (s.bump F i n).latches = s.latches := rfl
@[simp] theorem State.bump_dev (s : State) (F : Fld) (i n : Nat) : (s.bump F i n).dev = s.dev := rfl
@[simp] theorem State.bump_ledger (s : State) (F : Fld) (i n : Nat) : (s.bump F i n).ledger = s.ledger := rfl
@[simp] theorem State.bump_fabric (s : State) (F : Fld) (i n : Nat) : (s.bump F i n).fabric = s.fabric := rfl
@[simp] theorem State.bump_mem (s : State) (F : Fld) (i n : Nat) : (s.bump F i n).mem = s.mem := rfl
@[simp] theorem State.bump_cfg (s : State) (F : Fld) (i n : Nat) : (s.bump F i n).cfg = s.cfg := rfl
@[simp] theorem State.bump_repair (s : State) (F : Fld) (i n : Nat) : (s.bump F i n).repair = s.repair := rfl
@[simp] theorem State.bump_net (s : State) (F : Fld) (i n : Nat) : (s.bump F i n).net = s.net := rfl
@[simp] theorem State.bump_beam (s : State) (F : Fld) (i n : Nat) : (s.bump F i n).beam = s.beam := rfl
@[simp] theorem State.bump_record (s : State) (F : Fld) (i n : Nat) : (s.bump F i n).record = s.record := rfl
@[simp] theorem State.bump_tally (s : State) (F : Fld) (i n : Nat) : (s.bump F i n).tally = s.tally := rfl
@[simp] theorem State.bump_tbus (s : State) (F : Fld) (i n : Nat) : (s.bump F i n).tbus = s.tbus := rfl
@[simp] theorem State.bump_lanes (s : State) (F : Fld) (i n : Nat) : (s.bump F i n).lanes = s.lanes := rfl
@[simp] theorem State.bump_hbm (s : State) (F : Fld) (i n : Nat) : (s.bump F i n).hbm = s.hbm := rfl
@[simp] theorem State.bump_store (s : State) (F : Fld) (i n : Nat) : (s.bump F i n).store = s.store := rfl
@[simp] theorem State.bump_msix (s : State) (F : Fld) (i n : Nat) : (s.bump F i n).msix = s.msix := rfl
@[simp] theorem State.bump_host (s : State) (F : Fld) (i n : Nat) : (s.bump F i n).host = s.host := rfl
@[simp] theorem State.bump_seq (s : State) (F : Fld) (i n : Nat) : (s.bump F i n).seq = s.seq := rfl
@[simp] theorem State.bump_dbg (s : State) (F : Fld) (i n : Nat) : (s.bump F i n).dbg = s.dbg := rfl
@[simp] theorem State.bump_pins (s : State) (F : Fld) (i n : Nat) : (s.bump F i n).pins = s.pins := rfl
@[simp] theorem State.bump_periph (s : State) (F : Fld) (i n : Nat) : (s.bump F i n).periph = s.periph := rfl
@[simp] theorem State.bump_power (s : State) (F : Fld) (i n : Nat) : (s.bump F i n).power = s.power := rfl
@[simp] theorem State.bump_out (s : State) (F : Fld) (i n : Nat) : (s.bump F i n).out = s.out := rfl
@[simp] theorem State.bump_pending (s : State) (F : Fld) (i n : Nat) : (s.bump F i n).pending = s.pending := rfl
@[simp] theorem State.bump_now (s : State) (F : Fld) (i n : Nat) : (s.bump F i n).now = s.now := rfl

-- ------------------------------------------------------------------ count

@[simp] theorem State.count_part (s : State) (F : Fld) (i : Nat) : (s.count F i).part = s.part := rfl
@[simp] theorem State.count_time (s : State) (F : Fld) (i : Nat) : (s.count F i).time = s.time := rfl
@[simp] theorem State.count_timeOffset (s : State) (F : Fld) (i : Nat) : (s.count F i).timeOffset = s.timeOffset := rfl
@[simp] theorem State.count_syncArmer (s : State) (F : Fld) (i : Nat) : (s.count F i).syncArmer = s.syncArmer := rfl
@[simp] theorem State.count_syncRef (s : State) (F : Fld) (i : Nat) : (s.count F i).syncRef = s.syncRef := rfl
@[simp] theorem State.count_fresh (s : State) (F : Fld) (i : Nat) : (s.count F i).fresh = s.fresh := rfl
@[simp] theorem State.count_latches (s : State) (F : Fld) (i : Nat) : (s.count F i).latches = s.latches := rfl
@[simp] theorem State.count_dev (s : State) (F : Fld) (i : Nat) : (s.count F i).dev = s.dev := rfl
@[simp] theorem State.count_ledger (s : State) (F : Fld) (i : Nat) : (s.count F i).ledger = s.ledger := rfl
@[simp] theorem State.count_fabric (s : State) (F : Fld) (i : Nat) : (s.count F i).fabric = s.fabric := rfl
@[simp] theorem State.count_mem (s : State) (F : Fld) (i : Nat) : (s.count F i).mem = s.mem := rfl
@[simp] theorem State.count_cfg (s : State) (F : Fld) (i : Nat) : (s.count F i).cfg = s.cfg := rfl
@[simp] theorem State.count_repair (s : State) (F : Fld) (i : Nat) : (s.count F i).repair = s.repair := rfl
@[simp] theorem State.count_net (s : State) (F : Fld) (i : Nat) : (s.count F i).net = s.net := rfl
@[simp] theorem State.count_beam (s : State) (F : Fld) (i : Nat) : (s.count F i).beam = s.beam := rfl
@[simp] theorem State.count_record (s : State) (F : Fld) (i : Nat) : (s.count F i).record = s.record := rfl
@[simp] theorem State.count_tally (s : State) (F : Fld) (i : Nat) : (s.count F i).tally = s.tally := rfl
@[simp] theorem State.count_tbus (s : State) (F : Fld) (i : Nat) : (s.count F i).tbus = s.tbus := rfl
@[simp] theorem State.count_lanes (s : State) (F : Fld) (i : Nat) : (s.count F i).lanes = s.lanes := rfl
@[simp] theorem State.count_hbm (s : State) (F : Fld) (i : Nat) : (s.count F i).hbm = s.hbm := rfl
@[simp] theorem State.count_store (s : State) (F : Fld) (i : Nat) : (s.count F i).store = s.store := rfl
@[simp] theorem State.count_msix (s : State) (F : Fld) (i : Nat) : (s.count F i).msix = s.msix := rfl
@[simp] theorem State.count_host (s : State) (F : Fld) (i : Nat) : (s.count F i).host = s.host := rfl
@[simp] theorem State.count_seq (s : State) (F : Fld) (i : Nat) : (s.count F i).seq = s.seq := rfl
@[simp] theorem State.count_dbg (s : State) (F : Fld) (i : Nat) : (s.count F i).dbg = s.dbg := rfl
@[simp] theorem State.count_pins (s : State) (F : Fld) (i : Nat) : (s.count F i).pins = s.pins := rfl
@[simp] theorem State.count_periph (s : State) (F : Fld) (i : Nat) : (s.count F i).periph = s.periph := rfl
@[simp] theorem State.count_power (s : State) (F : Fld) (i : Nat) : (s.count F i).power = s.power := rfl
@[simp] theorem State.count_out (s : State) (F : Fld) (i : Nat) : (s.count F i).out = s.out := rfl
@[simp] theorem State.count_pending (s : State) (F : Fld) (i : Nat) : (s.count F i).pending = s.pending := rfl
@[simp] theorem State.count_now (s : State) (F : Fld) (i : Nat) : (s.count F i).now = s.now := rfl

-- ------------------------------------------------------------------ setPair

@[simp] theorem State.setPair_part (s : State) (lo hi : Reg) (i v : Nat) : (s.setPair lo hi i v).part = s.part := rfl
@[simp] theorem State.setPair_time (s : State) (lo hi : Reg) (i v : Nat) : (s.setPair lo hi i v).time = s.time := rfl
@[simp] theorem State.setPair_timeOffset (s : State) (lo hi : Reg) (i v : Nat) : (s.setPair lo hi i v).timeOffset = s.timeOffset := rfl
@[simp] theorem State.setPair_syncArmer (s : State) (lo hi : Reg) (i v : Nat) : (s.setPair lo hi i v).syncArmer = s.syncArmer := rfl
@[simp] theorem State.setPair_syncRef (s : State) (lo hi : Reg) (i v : Nat) : (s.setPair lo hi i v).syncRef = s.syncRef := rfl
@[simp] theorem State.setPair_fresh (s : State) (lo hi : Reg) (i v : Nat) : (s.setPair lo hi i v).fresh = s.fresh := rfl
@[simp] theorem State.setPair_latches (s : State) (lo hi : Reg) (i v : Nat) : (s.setPair lo hi i v).latches = s.latches := rfl
@[simp] theorem State.setPair_dev (s : State) (lo hi : Reg) (i v : Nat) : (s.setPair lo hi i v).dev = s.dev := rfl
@[simp] theorem State.setPair_ledger (s : State) (lo hi : Reg) (i v : Nat) : (s.setPair lo hi i v).ledger = s.ledger := rfl
@[simp] theorem State.setPair_fabric (s : State) (lo hi : Reg) (i v : Nat) : (s.setPair lo hi i v).fabric = s.fabric := rfl
@[simp] theorem State.setPair_mem (s : State) (lo hi : Reg) (i v : Nat) : (s.setPair lo hi i v).mem = s.mem := rfl
@[simp] theorem State.setPair_cfg (s : State) (lo hi : Reg) (i v : Nat) : (s.setPair lo hi i v).cfg = s.cfg := rfl
@[simp] theorem State.setPair_repair (s : State) (lo hi : Reg) (i v : Nat) : (s.setPair lo hi i v).repair = s.repair := rfl
@[simp] theorem State.setPair_net (s : State) (lo hi : Reg) (i v : Nat) : (s.setPair lo hi i v).net = s.net := rfl
@[simp] theorem State.setPair_beam (s : State) (lo hi : Reg) (i v : Nat) : (s.setPair lo hi i v).beam = s.beam := rfl
@[simp] theorem State.setPair_record (s : State) (lo hi : Reg) (i v : Nat) : (s.setPair lo hi i v).record = s.record := rfl
@[simp] theorem State.setPair_tally (s : State) (lo hi : Reg) (i v : Nat) : (s.setPair lo hi i v).tally = s.tally := rfl
@[simp] theorem State.setPair_tbus (s : State) (lo hi : Reg) (i v : Nat) : (s.setPair lo hi i v).tbus = s.tbus := rfl
@[simp] theorem State.setPair_lanes (s : State) (lo hi : Reg) (i v : Nat) : (s.setPair lo hi i v).lanes = s.lanes := rfl
@[simp] theorem State.setPair_hbm (s : State) (lo hi : Reg) (i v : Nat) : (s.setPair lo hi i v).hbm = s.hbm := rfl
@[simp] theorem State.setPair_store (s : State) (lo hi : Reg) (i v : Nat) : (s.setPair lo hi i v).store = s.store := rfl
@[simp] theorem State.setPair_msix (s : State) (lo hi : Reg) (i v : Nat) : (s.setPair lo hi i v).msix = s.msix := rfl
@[simp] theorem State.setPair_host (s : State) (lo hi : Reg) (i v : Nat) : (s.setPair lo hi i v).host = s.host := rfl
@[simp] theorem State.setPair_seq (s : State) (lo hi : Reg) (i v : Nat) : (s.setPair lo hi i v).seq = s.seq := rfl
@[simp] theorem State.setPair_dbg (s : State) (lo hi : Reg) (i v : Nat) : (s.setPair lo hi i v).dbg = s.dbg := rfl
@[simp] theorem State.setPair_pins (s : State) (lo hi : Reg) (i v : Nat) : (s.setPair lo hi i v).pins = s.pins := rfl
@[simp] theorem State.setPair_periph (s : State) (lo hi : Reg) (i v : Nat) : (s.setPair lo hi i v).periph = s.periph := rfl
@[simp] theorem State.setPair_power (s : State) (lo hi : Reg) (i v : Nat) : (s.setPair lo hi i v).power = s.power := rfl
@[simp] theorem State.setPair_out (s : State) (lo hi : Reg) (i v : Nat) : (s.setPair lo hi i v).out = s.out := rfl
@[simp] theorem State.setPair_pending (s : State) (lo hi : Reg) (i v : Nat) : (s.setPair lo hi i v).pending = s.pending := rfl
@[simp] theorem State.setPair_now (s : State) (lo hi : Reg) (i v : Nat) : (s.setPair lo hi i v).now = s.now := rfl

-- ------------------------------------------------------------------ journal

@[simp] theorem State.journal_part (s : State) (origin : BitVec 8) (kind aux : Nat) (b : Body) : (s.journal origin kind aux b).part = s.part := by
  unfold State.journal; dsimp only; split <;> rfl
@[simp] theorem State.journal_time (s : State) (origin : BitVec 8) (kind aux : Nat) (b : Body) : (s.journal origin kind aux b).time = s.time := by
  unfold State.journal; dsimp only; split <;> rfl
@[simp] theorem State.journal_timeOffset (s : State) (origin : BitVec 8) (kind aux : Nat) (b : Body) : (s.journal origin kind aux b).timeOffset = s.timeOffset := by
  unfold State.journal; dsimp only; split <;> rfl
@[simp] theorem State.journal_syncArmer (s : State) (origin : BitVec 8) (kind aux : Nat) (b : Body) : (s.journal origin kind aux b).syncArmer = s.syncArmer := by
  unfold State.journal; dsimp only; split <;> rfl
@[simp] theorem State.journal_syncRef (s : State) (origin : BitVec 8) (kind aux : Nat) (b : Body) : (s.journal origin kind aux b).syncRef = s.syncRef := by
  unfold State.journal; dsimp only; split <;> rfl
@[simp] theorem State.journal_fresh (s : State) (origin : BitVec 8) (kind aux : Nat) (b : Body) : (s.journal origin kind aux b).fresh = s.fresh := by
  unfold State.journal; dsimp only; split <;> rfl
@[simp] theorem State.journal_regs (s : State) (origin : BitVec 8) (kind aux : Nat) (b : Body) : (s.journal origin kind aux b).regs = s.regs := by
  unfold State.journal; dsimp only; split <;> rfl
@[simp] theorem State.journal_latches (s : State) (origin : BitVec 8) (kind aux : Nat) (b : Body) : (s.journal origin kind aux b).latches = s.latches := by
  unfold State.journal; dsimp only; split <;> rfl
@[simp] theorem State.journal_dev (s : State) (origin : BitVec 8) (kind aux : Nat) (b : Body) : (s.journal origin kind aux b).dev = s.dev := by
  unfold State.journal; dsimp only; split <;> rfl
@[simp] theorem State.journal_fabric (s : State) (origin : BitVec 8) (kind aux : Nat) (b : Body) : (s.journal origin kind aux b).fabric = s.fabric := by
  unfold State.journal; dsimp only; split <;> rfl
@[simp] theorem State.journal_mem (s : State) (origin : BitVec 8) (kind aux : Nat) (b : Body) : (s.journal origin kind aux b).mem = s.mem := by
  unfold State.journal; dsimp only; split <;> rfl
@[simp] theorem State.journal_cfg (s : State) (origin : BitVec 8) (kind aux : Nat) (b : Body) : (s.journal origin kind aux b).cfg = s.cfg := by
  unfold State.journal; dsimp only; split <;> rfl
@[simp] theorem State.journal_repair (s : State) (origin : BitVec 8) (kind aux : Nat) (b : Body) : (s.journal origin kind aux b).repair = s.repair := by
  unfold State.journal; dsimp only; split <;> rfl
@[simp] theorem State.journal_net (s : State) (origin : BitVec 8) (kind aux : Nat) (b : Body) : (s.journal origin kind aux b).net = s.net := by
  unfold State.journal; dsimp only; split <;> rfl
@[simp] theorem State.journal_beam (s : State) (origin : BitVec 8) (kind aux : Nat) (b : Body) : (s.journal origin kind aux b).beam = s.beam := by
  unfold State.journal; dsimp only; split <;> rfl
@[simp] theorem State.journal_record (s : State) (origin : BitVec 8) (kind aux : Nat) (b : Body) : (s.journal origin kind aux b).record = s.record := by
  unfold State.journal; dsimp only; split <;> rfl
@[simp] theorem State.journal_tally (s : State) (origin : BitVec 8) (kind aux : Nat) (b : Body) : (s.journal origin kind aux b).tally = s.tally := by
  unfold State.journal; dsimp only; split <;> rfl
@[simp] theorem State.journal_tbus (s : State) (origin : BitVec 8) (kind aux : Nat) (b : Body) : (s.journal origin kind aux b).tbus = s.tbus := by
  unfold State.journal; dsimp only; split <;> rfl
@[simp] theorem State.journal_lanes (s : State) (origin : BitVec 8) (kind aux : Nat) (b : Body) : (s.journal origin kind aux b).lanes = s.lanes := by
  unfold State.journal; dsimp only; split <;> rfl
@[simp] theorem State.journal_hbm (s : State) (origin : BitVec 8) (kind aux : Nat) (b : Body) : (s.journal origin kind aux b).hbm = s.hbm := by
  unfold State.journal; dsimp only; split <;> rfl
@[simp] theorem State.journal_store (s : State) (origin : BitVec 8) (kind aux : Nat) (b : Body) : (s.journal origin kind aux b).store = s.store := by
  unfold State.journal; dsimp only; split <;> rfl
@[simp] theorem State.journal_msix (s : State) (origin : BitVec 8) (kind aux : Nat) (b : Body) : (s.journal origin kind aux b).msix = s.msix := by
  unfold State.journal; dsimp only; split <;> rfl
@[simp] theorem State.journal_host (s : State) (origin : BitVec 8) (kind aux : Nat) (b : Body) : (s.journal origin kind aux b).host = s.host := by
  unfold State.journal; dsimp only; split <;> rfl
@[simp] theorem State.journal_seq (s : State) (origin : BitVec 8) (kind aux : Nat) (b : Body) : (s.journal origin kind aux b).seq = s.seq := by
  unfold State.journal; dsimp only; split <;> rfl
@[simp] theorem State.journal_dbg (s : State) (origin : BitVec 8) (kind aux : Nat) (b : Body) : (s.journal origin kind aux b).dbg = s.dbg := by
  unfold State.journal; dsimp only; split <;> rfl
@[simp] theorem State.journal_pins (s : State) (origin : BitVec 8) (kind aux : Nat) (b : Body) : (s.journal origin kind aux b).pins = s.pins := by
  unfold State.journal; dsimp only; split <;> rfl
@[simp] theorem State.journal_periph (s : State) (origin : BitVec 8) (kind aux : Nat) (b : Body) : (s.journal origin kind aux b).periph = s.periph := by
  unfold State.journal; dsimp only; split <;> rfl
@[simp] theorem State.journal_power (s : State) (origin : BitVec 8) (kind aux : Nat) (b : Body) : (s.journal origin kind aux b).power = s.power := by
  unfold State.journal; dsimp only; split <;> rfl
@[simp] theorem State.journal_out (s : State) (origin : BitVec 8) (kind aux : Nat) (b : Body) : (s.journal origin kind aux b).out = s.out := by
  unfold State.journal; dsimp only; split <;> rfl
@[simp] theorem State.journal_pending (s : State) (origin : BitVec 8) (kind aux : Nat) (b : Body) : (s.journal origin kind aux b).pending = s.pending := by
  unfold State.journal; dsimp only; split <;> rfl
@[simp] theorem State.journal_word (s : State) (origin : BitVec 8) (kind aux : Nat) (b : Body) (q : Reg) (j : Nat) : (s.journal origin kind aux b).word q j = s.word q j := by
  unfold State.journal; dsimp only; split <;> rfl
@[simp] theorem State.journal_f (s : State) (origin : BitVec 8) (kind aux : Nat) (b : Body) (G : Fld) (j : Nat) : (s.journal origin kind aux b).f G j = s.f G j := by
  unfold State.journal; dsimp only; split <;> rfl
@[simp] theorem State.journal_on (s : State) (origin : BitVec 8) (kind aux : Nat) (b : Body) (G : Fld) (j : Nat) : (s.journal origin kind aux b).on G j = s.on G j := by
  unfold State.journal; dsimp only; split <;> rfl
@[simp] theorem State.journal_now (s : State) (origin : BitVec 8) (kind aux : Nat) (b : Body)  : (s.journal origin kind aux b).now = s.now := by
  unfold State.journal; dsimp only; split <;> rfl

-- ------------------------------------------------------------------ journalChange

@[simp] theorem State.journalChange_part (s : State) (who : Who) (r : Reg) (i : Nat) (a b : Word) : (s.journalChange who r i a b).part = s.part := State.journal_part ..
@[simp] theorem State.journalChange_time (s : State) (who : Who) (r : Reg) (i : Nat) (a b : Word) : (s.journalChange who r i a b).time = s.time := State.journal_time ..
@[simp] theorem State.journalChange_timeOffset (s : State) (who : Who) (r : Reg) (i : Nat) (a b : Word) : (s.journalChange who r i a b).timeOffset = s.timeOffset := State.journal_timeOffset ..
@[simp] theorem State.journalChange_syncArmer (s : State) (who : Who) (r : Reg) (i : Nat) (a b : Word) : (s.journalChange who r i a b).syncArmer = s.syncArmer := State.journal_syncArmer ..
@[simp] theorem State.journalChange_syncRef (s : State) (who : Who) (r : Reg) (i : Nat) (a b : Word) : (s.journalChange who r i a b).syncRef = s.syncRef := State.journal_syncRef ..
@[simp] theorem State.journalChange_fresh (s : State) (who : Who) (r : Reg) (i : Nat) (a b : Word) : (s.journalChange who r i a b).fresh = s.fresh := State.journal_fresh ..
@[simp] theorem State.journalChange_regs (s : State) (who : Who) (r : Reg) (i : Nat) (a b : Word) : (s.journalChange who r i a b).regs = s.regs := State.journal_regs ..
@[simp] theorem State.journalChange_latches (s : State) (who : Who) (r : Reg) (i : Nat) (a b : Word) : (s.journalChange who r i a b).latches = s.latches := State.journal_latches ..
@[simp] theorem State.journalChange_dev (s : State) (who : Who) (r : Reg) (i : Nat) (a b : Word) : (s.journalChange who r i a b).dev = s.dev := State.journal_dev ..
@[simp] theorem State.journalChange_fabric (s : State) (who : Who) (r : Reg) (i : Nat) (a b : Word) : (s.journalChange who r i a b).fabric = s.fabric := State.journal_fabric ..
@[simp] theorem State.journalChange_mem (s : State) (who : Who) (r : Reg) (i : Nat) (a b : Word) : (s.journalChange who r i a b).mem = s.mem := State.journal_mem ..
@[simp] theorem State.journalChange_cfg (s : State) (who : Who) (r : Reg) (i : Nat) (a b : Word) : (s.journalChange who r i a b).cfg = s.cfg := State.journal_cfg ..
@[simp] theorem State.journalChange_repair (s : State) (who : Who) (r : Reg) (i : Nat) (a b : Word) : (s.journalChange who r i a b).repair = s.repair := State.journal_repair ..
@[simp] theorem State.journalChange_net (s : State) (who : Who) (r : Reg) (i : Nat) (a b : Word) : (s.journalChange who r i a b).net = s.net := State.journal_net ..
@[simp] theorem State.journalChange_beam (s : State) (who : Who) (r : Reg) (i : Nat) (a b : Word) : (s.journalChange who r i a b).beam = s.beam := State.journal_beam ..
@[simp] theorem State.journalChange_record (s : State) (who : Who) (r : Reg) (i : Nat) (a b : Word) : (s.journalChange who r i a b).record = s.record := State.journal_record ..
@[simp] theorem State.journalChange_tally (s : State) (who : Who) (r : Reg) (i : Nat) (a b : Word) : (s.journalChange who r i a b).tally = s.tally := State.journal_tally ..
@[simp] theorem State.journalChange_tbus (s : State) (who : Who) (r : Reg) (i : Nat) (a b : Word) : (s.journalChange who r i a b).tbus = s.tbus := State.journal_tbus ..
@[simp] theorem State.journalChange_lanes (s : State) (who : Who) (r : Reg) (i : Nat) (a b : Word) : (s.journalChange who r i a b).lanes = s.lanes := State.journal_lanes ..
@[simp] theorem State.journalChange_hbm (s : State) (who : Who) (r : Reg) (i : Nat) (a b : Word) : (s.journalChange who r i a b).hbm = s.hbm := State.journal_hbm ..
@[simp] theorem State.journalChange_store (s : State) (who : Who) (r : Reg) (i : Nat) (a b : Word) : (s.journalChange who r i a b).store = s.store := State.journal_store ..
@[simp] theorem State.journalChange_msix (s : State) (who : Who) (r : Reg) (i : Nat) (a b : Word) : (s.journalChange who r i a b).msix = s.msix := State.journal_msix ..
@[simp] theorem State.journalChange_host (s : State) (who : Who) (r : Reg) (i : Nat) (a b : Word) : (s.journalChange who r i a b).host = s.host := State.journal_host ..
@[simp] theorem State.journalChange_seq (s : State) (who : Who) (r : Reg) (i : Nat) (a b : Word) : (s.journalChange who r i a b).seq = s.seq := State.journal_seq ..
@[simp] theorem State.journalChange_dbg (s : State) (who : Who) (r : Reg) (i : Nat) (a b : Word) : (s.journalChange who r i a b).dbg = s.dbg := State.journal_dbg ..
@[simp] theorem State.journalChange_pins (s : State) (who : Who) (r : Reg) (i : Nat) (a b : Word) : (s.journalChange who r i a b).pins = s.pins := State.journal_pins ..
@[simp] theorem State.journalChange_periph (s : State) (who : Who) (r : Reg) (i : Nat) (a b : Word) : (s.journalChange who r i a b).periph = s.periph := State.journal_periph ..
@[simp] theorem State.journalChange_power (s : State) (who : Who) (r : Reg) (i : Nat) (a b : Word) : (s.journalChange who r i a b).power = s.power := State.journal_power ..
@[simp] theorem State.journalChange_out (s : State) (who : Who) (r : Reg) (i : Nat) (a b : Word) : (s.journalChange who r i a b).out = s.out := State.journal_out ..
@[simp] theorem State.journalChange_pending (s : State) (who : Who) (r : Reg) (i : Nat) (a b : Word) : (s.journalChange who r i a b).pending = s.pending := State.journal_pending ..
@[simp] theorem State.journalChange_word (s : State) (who : Who) (r : Reg) (i : Nat) (a b : Word) (q : Reg) (j : Nat) : (s.journalChange who r i a b).word q j = s.word q j := State.journal_word ..
@[simp] theorem State.journalChange_f (s : State) (who : Who) (r : Reg) (i : Nat) (a b : Word) (G : Fld) (j : Nat) : (s.journalChange who r i a b).f G j = s.f G j := State.journal_f ..
@[simp] theorem State.journalChange_on (s : State) (who : Who) (r : Reg) (i : Nat) (a b : Word) (G : Fld) (j : Nat) : (s.journalChange who r i a b).on G j = s.on G j := State.journal_on ..
@[simp] theorem State.journalChange_now (s : State) (who : Who) (r : Reg) (i : Nat) (a b : Word)  : (s.journalChange who r i a b).now = s.now := State.journal_now ..

-- ------------------------------------------------------------------ journalRefusal

@[simp] theorem State.journalRefusal_part (s : State) (who : Who) (why : Reason) (r : Reg) (i x : Nat) : (s.journalRefusal who why r i x).part = s.part := State.journal_part ..
@[simp] theorem State.journalRefusal_time (s : State) (who : Who) (why : Reason) (r : Reg) (i x : Nat) : (s.journalRefusal who why r i x).time = s.time := State.journal_time ..
@[simp] theorem State.journalRefusal_timeOffset (s : State) (who : Who) (why : Reason) (r : Reg) (i x : Nat) : (s.journalRefusal who why r i x).timeOffset = s.timeOffset := State.journal_timeOffset ..
@[simp] theorem State.journalRefusal_syncArmer (s : State) (who : Who) (why : Reason) (r : Reg) (i x : Nat) : (s.journalRefusal who why r i x).syncArmer = s.syncArmer := State.journal_syncArmer ..
@[simp] theorem State.journalRefusal_syncRef (s : State) (who : Who) (why : Reason) (r : Reg) (i x : Nat) : (s.journalRefusal who why r i x).syncRef = s.syncRef := State.journal_syncRef ..
@[simp] theorem State.journalRefusal_fresh (s : State) (who : Who) (why : Reason) (r : Reg) (i x : Nat) : (s.journalRefusal who why r i x).fresh = s.fresh := State.journal_fresh ..
@[simp] theorem State.journalRefusal_regs (s : State) (who : Who) (why : Reason) (r : Reg) (i x : Nat) : (s.journalRefusal who why r i x).regs = s.regs := State.journal_regs ..
@[simp] theorem State.journalRefusal_latches (s : State) (who : Who) (why : Reason) (r : Reg) (i x : Nat) : (s.journalRefusal who why r i x).latches = s.latches := State.journal_latches ..
@[simp] theorem State.journalRefusal_dev (s : State) (who : Who) (why : Reason) (r : Reg) (i x : Nat) : (s.journalRefusal who why r i x).dev = s.dev := State.journal_dev ..
@[simp] theorem State.journalRefusal_fabric (s : State) (who : Who) (why : Reason) (r : Reg) (i x : Nat) : (s.journalRefusal who why r i x).fabric = s.fabric := State.journal_fabric ..
@[simp] theorem State.journalRefusal_mem (s : State) (who : Who) (why : Reason) (r : Reg) (i x : Nat) : (s.journalRefusal who why r i x).mem = s.mem := State.journal_mem ..
@[simp] theorem State.journalRefusal_cfg (s : State) (who : Who) (why : Reason) (r : Reg) (i x : Nat) : (s.journalRefusal who why r i x).cfg = s.cfg := State.journal_cfg ..
@[simp] theorem State.journalRefusal_repair (s : State) (who : Who) (why : Reason) (r : Reg) (i x : Nat) : (s.journalRefusal who why r i x).repair = s.repair := State.journal_repair ..
@[simp] theorem State.journalRefusal_net (s : State) (who : Who) (why : Reason) (r : Reg) (i x : Nat) : (s.journalRefusal who why r i x).net = s.net := State.journal_net ..
@[simp] theorem State.journalRefusal_beam (s : State) (who : Who) (why : Reason) (r : Reg) (i x : Nat) : (s.journalRefusal who why r i x).beam = s.beam := State.journal_beam ..
@[simp] theorem State.journalRefusal_record (s : State) (who : Who) (why : Reason) (r : Reg) (i x : Nat) : (s.journalRefusal who why r i x).record = s.record := State.journal_record ..
@[simp] theorem State.journalRefusal_tally (s : State) (who : Who) (why : Reason) (r : Reg) (i x : Nat) : (s.journalRefusal who why r i x).tally = s.tally := State.journal_tally ..
@[simp] theorem State.journalRefusal_tbus (s : State) (who : Who) (why : Reason) (r : Reg) (i x : Nat) : (s.journalRefusal who why r i x).tbus = s.tbus := State.journal_tbus ..
@[simp] theorem State.journalRefusal_lanes (s : State) (who : Who) (why : Reason) (r : Reg) (i x : Nat) : (s.journalRefusal who why r i x).lanes = s.lanes := State.journal_lanes ..
@[simp] theorem State.journalRefusal_hbm (s : State) (who : Who) (why : Reason) (r : Reg) (i x : Nat) : (s.journalRefusal who why r i x).hbm = s.hbm := State.journal_hbm ..
@[simp] theorem State.journalRefusal_store (s : State) (who : Who) (why : Reason) (r : Reg) (i x : Nat) : (s.journalRefusal who why r i x).store = s.store := State.journal_store ..
@[simp] theorem State.journalRefusal_msix (s : State) (who : Who) (why : Reason) (r : Reg) (i x : Nat) : (s.journalRefusal who why r i x).msix = s.msix := State.journal_msix ..
@[simp] theorem State.journalRefusal_host (s : State) (who : Who) (why : Reason) (r : Reg) (i x : Nat) : (s.journalRefusal who why r i x).host = s.host := State.journal_host ..
@[simp] theorem State.journalRefusal_seq (s : State) (who : Who) (why : Reason) (r : Reg) (i x : Nat) : (s.journalRefusal who why r i x).seq = s.seq := State.journal_seq ..
@[simp] theorem State.journalRefusal_dbg (s : State) (who : Who) (why : Reason) (r : Reg) (i x : Nat) : (s.journalRefusal who why r i x).dbg = s.dbg := State.journal_dbg ..
@[simp] theorem State.journalRefusal_pins (s : State) (who : Who) (why : Reason) (r : Reg) (i x : Nat) : (s.journalRefusal who why r i x).pins = s.pins := State.journal_pins ..
@[simp] theorem State.journalRefusal_periph (s : State) (who : Who) (why : Reason) (r : Reg) (i x : Nat) : (s.journalRefusal who why r i x).periph = s.periph := State.journal_periph ..
@[simp] theorem State.journalRefusal_power (s : State) (who : Who) (why : Reason) (r : Reg) (i x : Nat) : (s.journalRefusal who why r i x).power = s.power := State.journal_power ..
@[simp] theorem State.journalRefusal_out (s : State) (who : Who) (why : Reason) (r : Reg) (i x : Nat) : (s.journalRefusal who why r i x).out = s.out := State.journal_out ..
@[simp] theorem State.journalRefusal_pending (s : State) (who : Who) (why : Reason) (r : Reg) (i x : Nat) : (s.journalRefusal who why r i x).pending = s.pending := State.journal_pending ..
@[simp] theorem State.journalRefusal_word (s : State) (who : Who) (why : Reason) (r : Reg) (i x : Nat) (q : Reg) (j : Nat) : (s.journalRefusal who why r i x).word q j = s.word q j := State.journal_word ..
@[simp] theorem State.journalRefusal_f (s : State) (who : Who) (why : Reason) (r : Reg) (i x : Nat) (G : Fld) (j : Nat) : (s.journalRefusal who why r i x).f G j = s.f G j := State.journal_f ..
@[simp] theorem State.journalRefusal_on (s : State) (who : Who) (why : Reason) (r : Reg) (i x : Nat) (G : Fld) (j : Nat) : (s.journalRefusal who why r i x).on G j = s.on G j := State.journal_on ..
@[simp] theorem State.journalRefusal_now (s : State) (who : Who) (why : Reason) (r : Reg) (i x : Nat)  : (s.journalRefusal who why r i x).now = s.now := State.journal_now ..

-- ------------------------------------------------------------------ journalEvent

@[simp] theorem State.journalEvent_part (s : State) (origin : BitVec 8) (r : Reg) (i x : Nat) : (s.journalEvent origin r i x).part = s.part := State.journal_part ..
@[simp] theorem State.journalEvent_time (s : State) (origin : BitVec 8) (r : Reg) (i x : Nat) : (s.journalEvent origin r i x).time = s.time := State.journal_time ..
@[simp] theorem State.journalEvent_timeOffset (s : State) (origin : BitVec 8) (r : Reg) (i x : Nat) : (s.journalEvent origin r i x).timeOffset = s.timeOffset := State.journal_timeOffset ..
@[simp] theorem State.journalEvent_syncArmer (s : State) (origin : BitVec 8) (r : Reg) (i x : Nat) : (s.journalEvent origin r i x).syncArmer = s.syncArmer := State.journal_syncArmer ..
@[simp] theorem State.journalEvent_syncRef (s : State) (origin : BitVec 8) (r : Reg) (i x : Nat) : (s.journalEvent origin r i x).syncRef = s.syncRef := State.journal_syncRef ..
@[simp] theorem State.journalEvent_fresh (s : State) (origin : BitVec 8) (r : Reg) (i x : Nat) : (s.journalEvent origin r i x).fresh = s.fresh := State.journal_fresh ..
@[simp] theorem State.journalEvent_regs (s : State) (origin : BitVec 8) (r : Reg) (i x : Nat) : (s.journalEvent origin r i x).regs = s.regs := State.journal_regs ..
@[simp] theorem State.journalEvent_latches (s : State) (origin : BitVec 8) (r : Reg) (i x : Nat) : (s.journalEvent origin r i x).latches = s.latches := State.journal_latches ..
@[simp] theorem State.journalEvent_dev (s : State) (origin : BitVec 8) (r : Reg) (i x : Nat) : (s.journalEvent origin r i x).dev = s.dev := State.journal_dev ..
@[simp] theorem State.journalEvent_fabric (s : State) (origin : BitVec 8) (r : Reg) (i x : Nat) : (s.journalEvent origin r i x).fabric = s.fabric := State.journal_fabric ..
@[simp] theorem State.journalEvent_mem (s : State) (origin : BitVec 8) (r : Reg) (i x : Nat) : (s.journalEvent origin r i x).mem = s.mem := State.journal_mem ..
@[simp] theorem State.journalEvent_cfg (s : State) (origin : BitVec 8) (r : Reg) (i x : Nat) : (s.journalEvent origin r i x).cfg = s.cfg := State.journal_cfg ..
@[simp] theorem State.journalEvent_repair (s : State) (origin : BitVec 8) (r : Reg) (i x : Nat) : (s.journalEvent origin r i x).repair = s.repair := State.journal_repair ..
@[simp] theorem State.journalEvent_net (s : State) (origin : BitVec 8) (r : Reg) (i x : Nat) : (s.journalEvent origin r i x).net = s.net := State.journal_net ..
@[simp] theorem State.journalEvent_beam (s : State) (origin : BitVec 8) (r : Reg) (i x : Nat) : (s.journalEvent origin r i x).beam = s.beam := State.journal_beam ..
@[simp] theorem State.journalEvent_record (s : State) (origin : BitVec 8) (r : Reg) (i x : Nat) : (s.journalEvent origin r i x).record = s.record := State.journal_record ..
@[simp] theorem State.journalEvent_tally (s : State) (origin : BitVec 8) (r : Reg) (i x : Nat) : (s.journalEvent origin r i x).tally = s.tally := State.journal_tally ..
@[simp] theorem State.journalEvent_tbus (s : State) (origin : BitVec 8) (r : Reg) (i x : Nat) : (s.journalEvent origin r i x).tbus = s.tbus := State.journal_tbus ..
@[simp] theorem State.journalEvent_lanes (s : State) (origin : BitVec 8) (r : Reg) (i x : Nat) : (s.journalEvent origin r i x).lanes = s.lanes := State.journal_lanes ..
@[simp] theorem State.journalEvent_hbm (s : State) (origin : BitVec 8) (r : Reg) (i x : Nat) : (s.journalEvent origin r i x).hbm = s.hbm := State.journal_hbm ..
@[simp] theorem State.journalEvent_store (s : State) (origin : BitVec 8) (r : Reg) (i x : Nat) : (s.journalEvent origin r i x).store = s.store := State.journal_store ..
@[simp] theorem State.journalEvent_msix (s : State) (origin : BitVec 8) (r : Reg) (i x : Nat) : (s.journalEvent origin r i x).msix = s.msix := State.journal_msix ..
@[simp] theorem State.journalEvent_host (s : State) (origin : BitVec 8) (r : Reg) (i x : Nat) : (s.journalEvent origin r i x).host = s.host := State.journal_host ..
@[simp] theorem State.journalEvent_seq (s : State) (origin : BitVec 8) (r : Reg) (i x : Nat) : (s.journalEvent origin r i x).seq = s.seq := State.journal_seq ..
@[simp] theorem State.journalEvent_dbg (s : State) (origin : BitVec 8) (r : Reg) (i x : Nat) : (s.journalEvent origin r i x).dbg = s.dbg := State.journal_dbg ..
@[simp] theorem State.journalEvent_pins (s : State) (origin : BitVec 8) (r : Reg) (i x : Nat) : (s.journalEvent origin r i x).pins = s.pins := State.journal_pins ..
@[simp] theorem State.journalEvent_periph (s : State) (origin : BitVec 8) (r : Reg) (i x : Nat) : (s.journalEvent origin r i x).periph = s.periph := State.journal_periph ..
@[simp] theorem State.journalEvent_power (s : State) (origin : BitVec 8) (r : Reg) (i x : Nat) : (s.journalEvent origin r i x).power = s.power := State.journal_power ..
@[simp] theorem State.journalEvent_out (s : State) (origin : BitVec 8) (r : Reg) (i x : Nat) : (s.journalEvent origin r i x).out = s.out := State.journal_out ..
@[simp] theorem State.journalEvent_pending (s : State) (origin : BitVec 8) (r : Reg) (i x : Nat) : (s.journalEvent origin r i x).pending = s.pending := State.journal_pending ..
@[simp] theorem State.journalEvent_word (s : State) (origin : BitVec 8) (r : Reg) (i x : Nat) (q : Reg) (j : Nat) : (s.journalEvent origin r i x).word q j = s.word q j := State.journal_word ..
@[simp] theorem State.journalEvent_f (s : State) (origin : BitVec 8) (r : Reg) (i x : Nat) (G : Fld) (j : Nat) : (s.journalEvent origin r i x).f G j = s.f G j := State.journal_f ..
@[simp] theorem State.journalEvent_on (s : State) (origin : BitVec 8) (r : Reg) (i x : Nat) (G : Fld) (j : Nat) : (s.journalEvent origin r i x).on G j = s.on G j := State.journal_on ..
@[simp] theorem State.journalEvent_now (s : State) (origin : BitVec 8) (r : Reg) (i x : Nat)  : (s.journalEvent origin r i x).now = s.now := State.journal_now ..

-- ------------------------------------------------------------------ enterBeam

@[simp] theorem State.enterBeam_part (s : State) (o : BeamFrom) (t : DWord) : (s.enterBeam o t).part = s.part := by
  unfold State.enterBeam; split
  · rfl
  · cases o <;> rfl
@[simp] theorem State.enterBeam_time (s : State) (o : BeamFrom) (t : DWord) : (s.enterBeam o t).time = s.time := by
  unfold State.enterBeam; split
  · rfl
  · cases o <;> rfl
@[simp] theorem State.enterBeam_timeOffset (s : State) (o : BeamFrom) (t : DWord) : (s.enterBeam o t).timeOffset = s.timeOffset := by
  unfold State.enterBeam; split
  · rfl
  · cases o <;> rfl
@[simp] theorem State.enterBeam_syncArmer (s : State) (o : BeamFrom) (t : DWord) : (s.enterBeam o t).syncArmer = s.syncArmer := by
  unfold State.enterBeam; split
  · rfl
  · cases o <;> rfl
@[simp] theorem State.enterBeam_syncRef (s : State) (o : BeamFrom) (t : DWord) : (s.enterBeam o t).syncRef = s.syncRef := by
  unfold State.enterBeam; split
  · rfl
  · cases o <;> rfl
@[simp] theorem State.enterBeam_fresh (s : State) (o : BeamFrom) (t : DWord) : (s.enterBeam o t).fresh = s.fresh := by
  unfold State.enterBeam; split
  · rfl
  · cases o <;> rfl
@[simp] theorem State.enterBeam_latches (s : State) (o : BeamFrom) (t : DWord) : (s.enterBeam o t).latches = s.latches := by
  unfold State.enterBeam; split
  · rfl
  · cases o <;> rfl
@[simp] theorem State.enterBeam_dev (s : State) (o : BeamFrom) (t : DWord) : (s.enterBeam o t).dev = s.dev := by
  unfold State.enterBeam; split
  · rfl
  · cases o <;> rfl
@[simp] theorem State.enterBeam_ledger (s : State) (o : BeamFrom) (t : DWord) : (s.enterBeam o t).ledger = s.ledger := by
  unfold State.enterBeam; split
  · rfl
  · cases o <;> rfl
@[simp] theorem State.enterBeam_fabric (s : State) (o : BeamFrom) (t : DWord) : (s.enterBeam o t).fabric = s.fabric := by
  unfold State.enterBeam; split
  · rfl
  · cases o <;> rfl
@[simp] theorem State.enterBeam_mem (s : State) (o : BeamFrom) (t : DWord) : (s.enterBeam o t).mem = s.mem := by
  unfold State.enterBeam; split
  · rfl
  · cases o <;> rfl
@[simp] theorem State.enterBeam_cfg (s : State) (o : BeamFrom) (t : DWord) : (s.enterBeam o t).cfg = s.cfg := by
  unfold State.enterBeam; split
  · rfl
  · cases o <;> rfl
@[simp] theorem State.enterBeam_repair (s : State) (o : BeamFrom) (t : DWord) : (s.enterBeam o t).repair = s.repair := by
  unfold State.enterBeam; split
  · rfl
  · cases o <;> rfl
@[simp] theorem State.enterBeam_net (s : State) (o : BeamFrom) (t : DWord) : (s.enterBeam o t).net = s.net := by
  unfold State.enterBeam; split
  · rfl
  · cases o <;> rfl
@[simp] theorem State.enterBeam_record (s : State) (o : BeamFrom) (t : DWord) : (s.enterBeam o t).record = s.record := by
  unfold State.enterBeam; split
  · rfl
  · cases o <;> rfl
@[simp] theorem State.enterBeam_tally (s : State) (o : BeamFrom) (t : DWord) : (s.enterBeam o t).tally = s.tally := by
  unfold State.enterBeam; split
  · rfl
  · cases o <;> rfl
@[simp] theorem State.enterBeam_tbus (s : State) (o : BeamFrom) (t : DWord) : (s.enterBeam o t).tbus = s.tbus := by
  unfold State.enterBeam; split
  · rfl
  · cases o <;> rfl
@[simp] theorem State.enterBeam_lanes (s : State) (o : BeamFrom) (t : DWord) : (s.enterBeam o t).lanes = s.lanes := by
  unfold State.enterBeam; split
  · rfl
  · cases o <;> rfl
@[simp] theorem State.enterBeam_hbm (s : State) (o : BeamFrom) (t : DWord) : (s.enterBeam o t).hbm = s.hbm := by
  unfold State.enterBeam; split
  · rfl
  · cases o <;> rfl
@[simp] theorem State.enterBeam_store (s : State) (o : BeamFrom) (t : DWord) : (s.enterBeam o t).store = s.store := by
  unfold State.enterBeam; split
  · rfl
  · cases o <;> rfl
@[simp] theorem State.enterBeam_msix (s : State) (o : BeamFrom) (t : DWord) : (s.enterBeam o t).msix = s.msix := by
  unfold State.enterBeam; split
  · rfl
  · cases o <;> rfl
@[simp] theorem State.enterBeam_host (s : State) (o : BeamFrom) (t : DWord) : (s.enterBeam o t).host = s.host := by
  unfold State.enterBeam; split
  · rfl
  · cases o <;> rfl
@[simp] theorem State.enterBeam_seq (s : State) (o : BeamFrom) (t : DWord) : (s.enterBeam o t).seq = s.seq := by
  unfold State.enterBeam; split
  · rfl
  · cases o <;> rfl
@[simp] theorem State.enterBeam_dbg (s : State) (o : BeamFrom) (t : DWord) : (s.enterBeam o t).dbg = s.dbg := by
  unfold State.enterBeam; split
  · rfl
  · cases o <;> rfl
@[simp] theorem State.enterBeam_pins (s : State) (o : BeamFrom) (t : DWord) : (s.enterBeam o t).pins = s.pins := by
  unfold State.enterBeam; split
  · rfl
  · cases o <;> rfl
@[simp] theorem State.enterBeam_periph (s : State) (o : BeamFrom) (t : DWord) : (s.enterBeam o t).periph = s.periph := by
  unfold State.enterBeam; split
  · rfl
  · cases o <;> rfl
@[simp] theorem State.enterBeam_power (s : State) (o : BeamFrom) (t : DWord) : (s.enterBeam o t).power = s.power := by
  unfold State.enterBeam; split
  · rfl
  · cases o <;> rfl
@[simp] theorem State.enterBeam_out (s : State) (o : BeamFrom) (t : DWord) : (s.enterBeam o t).out = s.out := by
  unfold State.enterBeam; split
  · rfl
  · cases o <;> rfl
@[simp] theorem State.enterBeam_pending (s : State) (o : BeamFrom) (t : DWord) : (s.enterBeam o t).pending = s.pending := by
  unfold State.enterBeam; split
  · rfl
  · cases o <;> rfl
@[simp] theorem State.enterBeam_now (s : State) (o : BeamFrom) (t : DWord) : (s.enterBeam o t).now = s.now := by
  unfold State.enterBeam; split
  · rfl
  · cases o <;> rfl

-- ------------------------------------------------------------------ enterNext

@[simp] theorem State.enterNext_part (s : State) (o : BeamFrom) : (s.enterNext o).part = s.part := State.enterBeam_part ..
@[simp] theorem State.enterNext_time (s : State) (o : BeamFrom) : (s.enterNext o).time = s.time := State.enterBeam_time ..
@[simp] theorem State.enterNext_timeOffset (s : State) (o : BeamFrom) : (s.enterNext o).timeOffset = s.timeOffset := State.enterBeam_timeOffset ..
@[simp] theorem State.enterNext_syncArmer (s : State) (o : BeamFrom) : (s.enterNext o).syncArmer = s.syncArmer := State.enterBeam_syncArmer ..
@[simp] theorem State.enterNext_syncRef (s : State) (o : BeamFrom) : (s.enterNext o).syncRef = s.syncRef := State.enterBeam_syncRef ..
@[simp] theorem State.enterNext_fresh (s : State) (o : BeamFrom) : (s.enterNext o).fresh = s.fresh := State.enterBeam_fresh ..
@[simp] theorem State.enterNext_latches (s : State) (o : BeamFrom) : (s.enterNext o).latches = s.latches := State.enterBeam_latches ..
@[simp] theorem State.enterNext_dev (s : State) (o : BeamFrom) : (s.enterNext o).dev = s.dev := State.enterBeam_dev ..
@[simp] theorem State.enterNext_ledger (s : State) (o : BeamFrom) : (s.enterNext o).ledger = s.ledger := State.enterBeam_ledger ..
@[simp] theorem State.enterNext_fabric (s : State) (o : BeamFrom) : (s.enterNext o).fabric = s.fabric := State.enterBeam_fabric ..
@[simp] theorem State.enterNext_mem (s : State) (o : BeamFrom) : (s.enterNext o).mem = s.mem := State.enterBeam_mem ..
@[simp] theorem State.enterNext_cfg (s : State) (o : BeamFrom) : (s.enterNext o).cfg = s.cfg := State.enterBeam_cfg ..
@[simp] theorem State.enterNext_repair (s : State) (o : BeamFrom) : (s.enterNext o).repair = s.repair := State.enterBeam_repair ..
@[simp] theorem State.enterNext_net (s : State) (o : BeamFrom) : (s.enterNext o).net = s.net := State.enterBeam_net ..
@[simp] theorem State.enterNext_record (s : State) (o : BeamFrom) : (s.enterNext o).record = s.record := State.enterBeam_record ..
@[simp] theorem State.enterNext_tally (s : State) (o : BeamFrom) : (s.enterNext o).tally = s.tally := State.enterBeam_tally ..
@[simp] theorem State.enterNext_tbus (s : State) (o : BeamFrom) : (s.enterNext o).tbus = s.tbus := State.enterBeam_tbus ..
@[simp] theorem State.enterNext_lanes (s : State) (o : BeamFrom) : (s.enterNext o).lanes = s.lanes := State.enterBeam_lanes ..
@[simp] theorem State.enterNext_hbm (s : State) (o : BeamFrom) : (s.enterNext o).hbm = s.hbm := State.enterBeam_hbm ..
@[simp] theorem State.enterNext_store (s : State) (o : BeamFrom) : (s.enterNext o).store = s.store := State.enterBeam_store ..
@[simp] theorem State.enterNext_msix (s : State) (o : BeamFrom) : (s.enterNext o).msix = s.msix := State.enterBeam_msix ..
@[simp] theorem State.enterNext_host (s : State) (o : BeamFrom) : (s.enterNext o).host = s.host := State.enterBeam_host ..
@[simp] theorem State.enterNext_seq (s : State) (o : BeamFrom) : (s.enterNext o).seq = s.seq := State.enterBeam_seq ..
@[simp] theorem State.enterNext_dbg (s : State) (o : BeamFrom) : (s.enterNext o).dbg = s.dbg := State.enterBeam_dbg ..
@[simp] theorem State.enterNext_pins (s : State) (o : BeamFrom) : (s.enterNext o).pins = s.pins := State.enterBeam_pins ..
@[simp] theorem State.enterNext_periph (s : State) (o : BeamFrom) : (s.enterNext o).periph = s.periph := State.enterBeam_periph ..
@[simp] theorem State.enterNext_power (s : State) (o : BeamFrom) : (s.enterNext o).power = s.power := State.enterBeam_power ..
@[simp] theorem State.enterNext_out (s : State) (o : BeamFrom) : (s.enterNext o).out = s.out := State.enterBeam_out ..
@[simp] theorem State.enterNext_pending (s : State) (o : BeamFrom) : (s.enterNext o).pending = s.pending := State.enterBeam_pending ..
@[simp] theorem State.enterNext_now (s : State) (o : BeamFrom) : (s.enterNext o).now = s.now := State.enterBeam_now ..

-- ------------------------------------------------------------------ advanceTo

@[simp] theorem State.advanceTo_part (s : State) (t : DWord) : (s.advanceTo t).part = s.part := by
  unfold State.advanceTo; split <;> rfl
@[simp] theorem State.advanceTo_timeOffset (s : State) (t : DWord) : (s.advanceTo t).timeOffset = s.timeOffset := by
  unfold State.advanceTo; split <;> rfl
@[simp] theorem State.advanceTo_syncArmer (s : State) (t : DWord) : (s.advanceTo t).syncArmer = s.syncArmer := by
  unfold State.advanceTo; split <;> rfl
@[simp] theorem State.advanceTo_syncRef (s : State) (t : DWord) : (s.advanceTo t).syncRef = s.syncRef := by
  unfold State.advanceTo; split <;> rfl
@[simp] theorem State.advanceTo_fresh (s : State) (t : DWord) : (s.advanceTo t).fresh = s.fresh := by
  unfold State.advanceTo; split <;> rfl
@[simp] theorem State.advanceTo_regs (s : State) (t : DWord) : (s.advanceTo t).regs = s.regs := by
  unfold State.advanceTo; split <;> rfl
@[simp] theorem State.advanceTo_latches (s : State) (t : DWord) : (s.advanceTo t).latches = s.latches := by
  unfold State.advanceTo; split <;> rfl
@[simp] theorem State.advanceTo_dev (s : State) (t : DWord) : (s.advanceTo t).dev = s.dev := by
  unfold State.advanceTo; split <;> rfl
@[simp] theorem State.advanceTo_ledger (s : State) (t : DWord) : (s.advanceTo t).ledger = s.ledger := by
  unfold State.advanceTo; split <;> rfl
@[simp] theorem State.advanceTo_fabric (s : State) (t : DWord) : (s.advanceTo t).fabric = s.fabric := by
  unfold State.advanceTo; split <;> rfl
@[simp] theorem State.advanceTo_mem (s : State) (t : DWord) : (s.advanceTo t).mem = s.mem := by
  unfold State.advanceTo; split <;> rfl
@[simp] theorem State.advanceTo_cfg (s : State) (t : DWord) : (s.advanceTo t).cfg = s.cfg := by
  unfold State.advanceTo; split <;> rfl
@[simp] theorem State.advanceTo_repair (s : State) (t : DWord) : (s.advanceTo t).repair = s.repair := by
  unfold State.advanceTo; split <;> rfl
@[simp] theorem State.advanceTo_net (s : State) (t : DWord) : (s.advanceTo t).net = s.net := by
  unfold State.advanceTo; split <;> rfl
@[simp] theorem State.advanceTo_beam (s : State) (t : DWord) : (s.advanceTo t).beam = s.beam := by
  unfold State.advanceTo; split <;> rfl
@[simp] theorem State.advanceTo_record (s : State) (t : DWord) : (s.advanceTo t).record = s.record := by
  unfold State.advanceTo; split <;> rfl
@[simp] theorem State.advanceTo_tally (s : State) (t : DWord) : (s.advanceTo t).tally = s.tally := by
  unfold State.advanceTo; split <;> rfl
@[simp] theorem State.advanceTo_tbus (s : State) (t : DWord) : (s.advanceTo t).tbus = s.tbus := by
  unfold State.advanceTo; split <;> rfl
@[simp] theorem State.advanceTo_lanes (s : State) (t : DWord) : (s.advanceTo t).lanes = s.lanes := by
  unfold State.advanceTo; split <;> rfl
@[simp] theorem State.advanceTo_hbm (s : State) (t : DWord) : (s.advanceTo t).hbm = s.hbm := by
  unfold State.advanceTo; split <;> rfl
@[simp] theorem State.advanceTo_store (s : State) (t : DWord) : (s.advanceTo t).store = s.store := by
  unfold State.advanceTo; split <;> rfl
@[simp] theorem State.advanceTo_msix (s : State) (t : DWord) : (s.advanceTo t).msix = s.msix := by
  unfold State.advanceTo; split <;> rfl
@[simp] theorem State.advanceTo_host (s : State) (t : DWord) : (s.advanceTo t).host = s.host := by
  unfold State.advanceTo; split <;> rfl
@[simp] theorem State.advanceTo_seq (s : State) (t : DWord) : (s.advanceTo t).seq = s.seq := by
  unfold State.advanceTo; split <;> rfl
@[simp] theorem State.advanceTo_dbg (s : State) (t : DWord) : (s.advanceTo t).dbg = s.dbg := by
  unfold State.advanceTo; split <;> rfl
@[simp] theorem State.advanceTo_pins (s : State) (t : DWord) : (s.advanceTo t).pins = s.pins := by
  unfold State.advanceTo; split <;> rfl
@[simp] theorem State.advanceTo_periph (s : State) (t : DWord) : (s.advanceTo t).periph = s.periph := by
  unfold State.advanceTo; split <;> rfl
@[simp] theorem State.advanceTo_power (s : State) (t : DWord) : (s.advanceTo t).power = s.power := by
  unfold State.advanceTo; split <;> rfl
@[simp] theorem State.advanceTo_out (s : State) (t : DWord) : (s.advanceTo t).out = s.out := by
  unfold State.advanceTo; split <;> rfl
@[simp] theorem State.advanceTo_pending (s : State) (t : DWord) : (s.advanceTo t).pending = s.pending := by
  unfold State.advanceTo; split <;> rfl
@[simp] theorem State.advanceTo_word (s : State) (t : DWord) (q : Reg) (j : Nat) : (s.advanceTo t).word q j = s.word q j := by
  unfold State.advanceTo; split <;> rfl
@[simp] theorem State.advanceTo_f (s : State) (t : DWord) (G : Fld) (j : Nat) : (s.advanceTo t).f G j = s.f G j := by
  unfold State.advanceTo; split <;> rfl
@[simp] theorem State.advanceTo_on (s : State) (t : DWord) (G : Fld) (j : Nat) : (s.advanceTo t).on G j = s.on G j := by
  unfold State.advanceTo; split <;> rfl

end Sys2Proof.Machine
end

