-- ==== Sys2Proof/Laws/Settle.lean ====
section
/-! SUPPORT. What ends a command: event delivery and watchdog synchronisation change only what they are there for, and a
command on a state where nothing waits is its own effect followed by them. -/

namespace Sys2Proof.Machine

-- ------------------------------------------------------------------ what is left alone

theorem sameArea_refl (s : State) (a : Area) : sameArea s s a := by
  cases a <;> simp [sameArea]

theorem sameArea_trans {s t u : State} {a : Area} (h : sameArea s t a) (g : sameArea t u a) : sameArea s u a := by
  cases a
  case out =>
    obtain ⟨l, h1, h2⟩ := h
    obtain ⟨m, g1, g2⟩ := g
    exact ⟨l ++ m, by rw [g1, h1, List.append_assoc], by rw [List.all_append, h2, g2]; rfl⟩
  all_goals (simp only [sameArea] at *; simp only [g, h, and_self])

theorem Kept.refl (s : State) : Kept s s [] [] := ⟨rfl, rfl, fun _ _ _ _ => rfl, fun a _ => sameArea_refl s a⟩

theorem Kept.trans {s t u : State} {R R' : List (Reg × Nat)} {A A' : List Area} (h : Kept s t R A) (g : Kept t u R' A') :
    Kept s u (R ++ R') (A ++ A') where
  part := g.part.trans h.part
  pending := g.pending.trans h.pending
  regs r i hp hr := by
    rw [List.mem_append, not_or] at hr
    rw [g.regs r i hp hr.2, h.regs r i hp hr.1]
  areas a ha := by
    rw [List.mem_append, not_or] at ha
    exact sameArea_trans (h.areas a ha.1) (g.areas a ha.2)

/-- Nothing but the delivery of events. -/
structure Quiet (s t : State) : Prop extends Kept s t [] [] where
  groups : t.groups = s.groups

theorem Quiet.refl (s : State) : Quiet s s := ⟨Kept.refl s, rfl⟩

theorem Quiet.trans {s t u : State} (h : Quiet s t) (g : Quiet t u) : Quiet s u :=
  ⟨by simpa using h.toKept.trans g.toKept, g.groups.trans h.groups⟩

theorem Quiet.foldl {α : Type} (f : State → α → State) (h : ∀ s x, Quiet s (f s x)) (l : List α) :
    ∀ s, Quiet s (l.foldl f s) := by
  induction l with
  | nil => exact Quiet.refl
  | cons x l ih => exact fun s => (h s x).trans (ih _)

-- ------------------------------------------------------------------ groups

/-- The groups a list of registers makes pending. -/
def orPending (m : Sparse Word) (acc : BitVec 32) : BitVec 32 := m.foldl (fun acc kv => acc ||| pendingBit kv.1 kv.2) acc

theorem orPending_cons (e : Nat × Word) (m : Sparse Word) (acc : BitVec 32) :
    orPending (e :: m) acc = orPending m (acc ||| pendingBit e.1 e.2) := rfl

theorem orPending_insert (k : Nat) (v : Word) (h : ∀ w, pendingBit k w = 0) (m : Sparse Word) :
    ∀ acc, orPending (Sparse.insert m k v) acc = orPending m acc := by
  induction m with
  | nil => intro acc; simp [Sparse.insert, orPending, h]
  | cons e m ih =>
    obtain ⟨k', v'⟩ := e
    intro acc
    unfold Sparse.insert
    split
    · simp [orPending_cons, h]
    · split
      · rename_i h1 h2
        subst h2
        simp [orPending_cons, h]
      · rw [orPending_cons, orPending_cons, ih]

theorem orPending_erase (k : Nat) (h : ∀ w, pendingBit k w = 0) (m : Sparse Word) :
    ∀ acc, orPending (Sparse.erase m k) acc = orPending m acc := by
  induction m with
  | nil => intro acc; rfl
  | cons e m ih =>
    obtain ⟨k', v'⟩ := e
    intro acc
    unfold Sparse.erase
    split
    · rename_i h1
      subst h1
      rw [ih, orPending_cons, h]
      simp
    · rw [orPending_cons, orPending_cons, ih]

/-- A register without event bits makes no group pending. -/
theorem pendingBit_none (r : Reg) (i : Nat) (v : Word) (h : eventBits r = (0, 0)) :
    pendingBit (regKey r i) v = 0 := by
  have h1 : r ≠ .PWR_VLOOP_STATUS := by rintro rfl; simp [eventBits] at h
  have h2 : r ≠ .CFG_CAP_STATUS := by rintro rfl; simp [eventBits] at h
  simp [pendingBit, h, h1, h2]

/-- Writing a register without event bits leaves the pending groups as they are. -/
theorem State.groups_setWord (s : State) (r : Reg) (i : Nat) (v : Word) (h : eventBits r = (0, 0)) :
    (s.setWord r i v).groups = s.groups := by
  have hp := fun w => pendingBit_none r i w h
  show orPending (Sparse.set _ s.regs (regKey r i) v) 0 ||| _ ||| _ = orPending s.regs 0 ||| _ ||| _
  unfold Sparse.set
  split
  · rw [orPending_erase _ hp]; rfl
  · rw [orPending_insert _ _ hp]; rfl

-- ------------------------------------------------------------------ the steps of delivery

/-- A state that differs only in what delivery is about. -/
theorem Quiet.of_eq {s t : State} (hr : t.regs = s.regs) (hp : t.part = s.part) (hq : t.pending = s.pending)
    (hg : t.groups = s.groups) (ha : ∀ a, sameArea s t a) : Quiet s t :=
  ⟨⟨hp, hq, fun r i _ _ => by simp only [State.word, hr, hp], fun a _ => ha a⟩, hg⟩

theorem State.hostEvent_quiet (s : State) (pend : BitVec 32) (g : Nat) : Quiet s (s.hostEvent pend g) := by
  unfold State.hostEvent State.sendVector State.emit
  split
  · apply Quiet.of_eq
    · dsimp only; split <;> (try split) <;> rfl
    · dsimp only; split <;> (try split) <;> rfl
    · dsimp only; split <;> (try split) <;> rfl
    · dsimp only; split <;> (try split) <;> rfl
    · intro a
      cases a
      case out =>
        dsimp only
        split
        · exact ⟨[], by simp, rfl⟩
        · split
          · exact ⟨[], by simp, rfl⟩
          · exact ⟨[_], rfl, rfl⟩
      all_goals (dsimp only [sameArea]; split <;> (try split) <;> simp)
  · exact Quiet.refl s

theorem State.fabEvent_quiet (s : State) (rising : BitVec 32) (g : Nat) : Quiet s (s.fabEvent rising g) := by
  unfold State.fabEvent
  split
  · apply Quiet.of_eq <;> first | rfl | (intro a; cases a <;> simp [sameArea])
  · exact Quiet.refl s

theorem State.dogSync_quiet (s : State) (w : Nat) : Quiet s (s.dogSync w) := by
  unfold State.dogSync
  split
  · exact Quiet.refl s
  · dsimp only
    split
    · exact Quiet.refl s
    · apply Quiet.of_eq <;> first | rfl | (intro a; cases a <;> simp [sameArea])

theorem Quiet.setPend (s : State) (r : Reg) (i : Nat) (v : Word) (h : isPend r = true) (he : eventBits r = (0, 0)) :
    Quiet s (s.setWord r i v) where
  regs q j hq _ := by
    rw [State.word_setWord, if_neg]
    rintro ⟨rfl, -⟩
    rw [h] at hq
    cases hq
  areas a _ := by cases a <;> simp [sameArea]
  part := rfl
  pending := rfl
  groups := State.groups_setWord s r i v he

theorem State.coreLevels_quiet (s : State) (pend : BitVec 32) (n : Nat) : Quiet s (s.coreLevels pend n) := by
  unfold State.coreLevels
  dsimp only
  split
  · exact (Quiet.setPend _ _ _ _ rfl rfl).trans (Quiet.setPend _ _ _ _ rfl rfl)
  · exact Quiet.setPend _ _ _ _ rfl rfl

theorem State.showPend_quiet (s : State) (pend : BitVec 32) : Quiet s (s.showPend pend) :=
  Quiet.of_eq rfl rfl rfl rfl fun a => by cases a <;> simp [sameArea, State.showPend]

theorem State.hostEvents_quiet (s : State) (pend : BitVec 32) : Quiet s (s.hostEvents pend) :=
  Quiet.foldl _ (fun s g => s.hostEvent_quiet pend g) _ s

theorem State.fabEvents_quiet (s : State) (rising : BitVec 32) : Quiet s (s.fabEvents rising) :=
  Quiet.foldl _ (fun s g => s.fabEvent_quiet rising g) _ s

theorem State.dogsSync_quiet (s : State) : Quiet s s.dogsSync := Quiet.foldl _ (fun s w => s.dogSync_quiet w) _ s

theorem State.coresLevels_quiet (s : State) (pend : BitVec 32) : Quiet s (s.coresLevels pend) := by
  unfold State.coresLevels
  split
  · exact Quiet.foldl _ (fun s n => s.coreLevels_quiet pend n) _ s
  · exact Quiet.refl s

/-- The end of a command where nothing waits changes only what event delivery is about. -/
theorem State.settle_quiet (s : State) : Quiet s s.settle := by
  unfold State.settle
  exact ((((s.hostEvents_quiet _).trans (State.fabEvents_quiet _ _)).trans (State.dogsSync_quiet _)).trans
    (State.coresLevels_quiet _ _)).trans (State.showPend_quiet _ _)

/-- After event delivery DEV.EVT_PEND shows the groups pending (R34). -/
theorem State.settle_evtPend (s : State) : s.settle.dev.evtPend = s.settle.groups := by
  rw [s.settle_quiet.groups]
  unfold State.settle State.showPend
  rfl

end Sys2Proof.Machine
end

