-- ==== Sys2Proof/Laws/Areas.lean ====
section
/-! SUPPORT. What each update can change, in the terms of Kept: the area it writes, or the register it names. -/

namespace Sys2Proof.Machine

/-- The change goes on, within what is listed. -/
theorem Kept.weaken {s t : State} {R R' : List (Reg × Nat)} {A A' : List Area} (h : Kept s t R A) (hR : R ⊆ R')
    (hA : A ⊆ A') : Kept s t R' A' :=
  ⟨h.part, h.pending, fun r i hp hr => h.regs r i hp fun x => hr (hR x), fun a ha => h.areas a fun x => ha (hA x)⟩

/-- An update that leaves the registers, the part and the queue alone, by what it does to each area. -/
theorem Kept.of_areas {s t : State} {A : List Area} (hr : t.regs = s.regs) (hp : t.part = s.part)
    (hq : t.pending = s.pending) (ha : ∀ a, a ∉ A → sameArea s t a) : Kept s t [] A :=
  ⟨hp, hq, fun r i _ _ => by simp only [State.word, hr, hp], ha⟩

theorem Kept.putTime (s : State) (v : DWord) : Kept s (s.putTime v) [] [.clock] :=
  Kept.of_areas rfl rfl rfl fun a h => by cases a <;> simp [sameArea] at h ⊢

theorem Kept.putTimeOffset (s : State) (v : DWord) : Kept s (s.putTimeOffset v) [] [.clock] :=
  Kept.of_areas rfl rfl rfl fun a h => by cases a <;> simp [sameArea] at h ⊢

theorem Kept.putSyncArmer (s : State) (v : BitVec 8) : Kept s (s.putSyncArmer v) [] [.clock] :=
  Kept.of_areas rfl rfl rfl fun a h => by cases a <;> simp [sameArea] at h ⊢

theorem Kept.putSyncRef (s : State) (v : Option DWord) : Kept s (s.putSyncRef v) [] [.clock] :=
  Kept.of_areas rfl rfl rfl fun a h => by cases a <;> simp [sameArea] at h ⊢

theorem Kept.putFresh (s : State) (v : Nat) : Kept s (s.putFresh v) [] [.fresh] :=
  Kept.of_areas rfl rfl rfl fun a h => by cases a <;> simp [sameArea] at h ⊢

theorem Kept.putLatches (s : State) (v : Cells Word) : Kept s (s.putLatches v) [] [.latches] :=
  Kept.of_areas rfl rfl rfl fun a h => by cases a <;> simp [sameArea] at h ⊢

theorem Kept.putDev (s : State) (v : DevState) : Kept s (s.putDev v) [] [.dev] :=
  Kept.of_areas rfl rfl rfl fun a h => by cases a <;> simp [sameArea] at h ⊢

theorem Kept.putLedger (s : State) (v : LedgerState) : Kept s (s.putLedger v) [] [.ledger] :=
  Kept.of_areas rfl rfl rfl fun a h => by cases a <;> simp [sameArea] at h ⊢

theorem Kept.putFabric (s : State) (v : FabricState) : Kept s (s.putFabric v) [] [.fabric] :=
  Kept.of_areas rfl rfl rfl fun a h => by cases a <;> simp [sameArea] at h ⊢

theorem Kept.putMem (s : State) (v : MemState) : Kept s (s.putMem v) [] [.mem] :=
  Kept.of_areas rfl rfl rfl fun a h => by cases a <;> simp [sameArea] at h ⊢

theorem Kept.putCfg (s : State) (v : CfgState) : Kept s (s.putCfg v) [] [.cfg] :=
  Kept.of_areas rfl rfl rfl fun a h => by cases a <;> simp [sameArea] at h ⊢

theorem Kept.putRepair (s : State) (v : RepairState) : Kept s (s.putRepair v) [] [.repair] :=
  Kept.of_areas rfl rfl rfl fun a h => by cases a <;> simp [sameArea] at h ⊢

theorem Kept.putNet (s : State) (v : NetState) : Kept s (s.putNet v) [] [.net] :=
  Kept.of_areas rfl rfl rfl fun a h => by cases a <;> simp [sameArea] at h ⊢

theorem Kept.putBeam (s : State) (v : BeamState) : Kept s (s.putBeam v) [] [.beam] :=
  Kept.of_areas rfl rfl rfl fun a h => by cases a <;> simp [sameArea] at h ⊢

theorem Kept.putRecord (s : State) (v : RecordState) : Kept s (s.putRecord v) [] [.record] :=
  Kept.of_areas rfl rfl rfl fun a h => by cases a <;> simp [sameArea] at h ⊢

theorem Kept.putTally (s : State) (v : TallyState) : Kept s (s.putTally v) [] [.tally] :=
  Kept.of_areas rfl rfl rfl fun a h => by cases a <;> simp [sameArea] at h ⊢

theorem Kept.putTbus (s : State) (v : TbusState) : Kept s (s.putTbus v) [] [.tbus] :=
  Kept.of_areas rfl rfl rfl fun a h => by cases a <;> simp [sameArea] at h ⊢

theorem Kept.putLanes (s : State) (v : LanesState) : Kept s (s.putLanes v) [] [.lanes] :=
  Kept.of_areas rfl rfl rfl fun a h => by cases a <;> simp [sameArea] at h ⊢

theorem Kept.putHbm (s : State) (v : HbmState) : Kept s (s.putHbm v) [] [.hbm] :=
  Kept.of_areas rfl rfl rfl fun a h => by cases a <;> simp [sameArea] at h ⊢

theorem Kept.putStore (s : State) (v : StoreState) : Kept s (s.putStore v) [] [.store] :=
  Kept.of_areas rfl rfl rfl fun a h => by cases a <;> simp [sameArea] at h ⊢

theorem Kept.putMsix (s : State) (v : MsixState) : Kept s (s.putMsix v) [] [.msix] :=
  Kept.of_areas rfl rfl rfl fun a h => by cases a <;> simp [sameArea] at h ⊢

theorem Kept.putHost (s : State) (v : HostState) : Kept s (s.putHost v) [] [.host] :=
  Kept.of_areas rfl rfl rfl fun a h => by cases a <;> simp [sameArea] at h ⊢

theorem Kept.putSeq (s : State) (v : SeqState) : Kept s (s.putSeq v) [] [.seq] :=
  Kept.of_areas rfl rfl rfl fun a h => by cases a <;> simp [sameArea] at h ⊢

theorem Kept.putDbg (s : State) (v : DebugState) : Kept s (s.putDbg v) [] [.dbg] :=
  Kept.of_areas rfl rfl rfl fun a h => by cases a <;> simp [sameArea] at h ⊢

theorem Kept.putPins (s : State) (v : PinsState) : Kept s (s.putPins v) [] [.pins] :=
  Kept.of_areas rfl rfl rfl fun a h => by cases a <;> simp [sameArea] at h ⊢

theorem Kept.putPeriph (s : State) (v : PeriphState) : Kept s (s.putPeriph v) [] [.periph] :=
  Kept.of_areas rfl rfl rfl fun a h => by cases a <;> simp [sameArea] at h ⊢

theorem Kept.putPower (s : State) (v : PowerState) : Kept s (s.putPower v) [] [.power] :=
  Kept.of_areas rfl rfl rfl fun a h => by cases a <;> simp [sameArea] at h ⊢

theorem Kept.putOut (s : State) (v : List Out) : Kept s (s.putOut v) [] [.out] :=
  Kept.of_areas rfl rfl rfl fun a h => by cases a <;> simp [sameArea] at h ⊢

theorem Kept.setNi (s : State) (n : Nat) (v : NiState) : Kept s (s.setNi n v) [] [.net] :=
  Kept.of_areas rfl rfl rfl fun a h => by cases a <;> simp [sameArea] at h ⊢

theorem Kept.setRouter (s : State) (page : Nat) (v : RouterState) : Kept s (s.setRouter page v) [] [.net] :=
  Kept.of_areas rfl rfl rfl fun a h => by cases a <;> simp [sameArea] at h ⊢

theorem Kept.setDebug (s : State) (d : DebugState) : Kept s (s.setDebug d) [] [.dbg] :=
  Kept.of_areas rfl rfl rfl fun a h => by cases a <;> simp [sameArea] at h ⊢

theorem Kept.setRepair (s : State) (r : RepairState) : Kept s (s.setRepair r) [] [.repair] :=
  Kept.of_areas rfl rfl rfl fun a h => by cases a <;> simp [sameArea] at h ⊢

theorem Kept.setCore (s : State) (n : Nat) (v : Core) : Kept s (s.setCore n v) [] [.seq] :=
  Kept.of_areas rfl rfl rfl fun a h => by cases a <;> simp [sameArea] at h ⊢

theorem Kept.setDma (s : State) (c : Nat) (v : Dma) : Kept s (s.setDma c v) [] [.host] :=
  Kept.of_areas rfl rfl rfl fun a h => by cases a <;> simp [sameArea] at h ⊢

theorem Kept.setLane (s : State) (l : Nat) (v : LaneState) : Kept s (s.setLane l v) [] [.lanes] :=
  Kept.of_areas rfl rfl rfl fun a h => by cases a <;> simp [sameArea] at h ⊢

theorem Kept.setQueue (s : State) (q : Nat) (v : Queue) : Kept s (s.setQueue q v) [] [.mem] :=
  Kept.of_areas rfl rfl rfl fun a h => by cases a <;> simp [sameArea] at h ⊢

theorem Kept.setStage (s : State) (c : CellId) (v : Stage) : Kept s (s.setStage c v) [] [.fabric] :=
  Kept.of_areas rfl rfl rfl fun a h => by cases a <;> simp [sameArea] at h ⊢

theorem Kept.setPinStation (s : State) (p : Nat) (v : Station) : Kept s (s.setPinStation p v) [] [.fabric] :=
  Kept.of_areas rfl rfl rfl fun a h => by cases a <;> simp [sameArea] at h ⊢

theorem Kept.setLine (s : State) (n : Nat) (v : Line) : Kept s (s.setLine n v) [] [.tbus] :=
  Kept.of_areas rfl rfl rfl fun a h => by cases a <;> simp [sameArea] at h ⊢

theorem Kept.setDog (s : State) (w : Nat) (d : Dog) : Kept s (s.setDog w d) [] [.seq] :=
  Kept.of_areas rfl rfl rfl fun a h => by cases a <;> simp [sameArea] at h ⊢

theorem Kept.setDrive (s : State) (d : Nat) (v : Drive) : Kept s (s.setDrive d v) [] [.store] :=
  Kept.of_areas rfl rfl rfl fun a h => by cases a <;> simp [sameArea] at h ⊢

theorem Kept.setChan (s : State) (c : Nat) (v : Chan) : Kept s (s.setChan c v) [] [.store] :=
  Kept.of_areas rfl rfl rfl fun a h => by cases a <;> simp [sameArea] at h ⊢

theorem Kept.setPt (s : State) (t : Nat) (v : PtUnit) : Kept s (s.setPt t v) [] [.periph] :=
  Kept.of_areas rfl rfl rfl fun a h => by cases a <;> simp [sameArea] at h ⊢

theorem Kept.pass (s : State) (n : Nat) : Kept s (s.pass n) [] [.clock] :=
  Kept.of_areas rfl rfl rfl fun a h => by cases a <;> simp [sameArea] at h ⊢

theorem Kept.emit (s : State) (o : Out) : Kept s (s.emit o) [] [.out] :=
  Kept.of_areas rfl rfl rfl fun a h => by cases a <;> simp [sameArea] at h ⊢

end Sys2Proof.Machine
end

