-- ==== Sys2Proof/Laws/Beads.lean ====
section
/-! SUPPORT. What reaches inputs where configuration memory is blank: every source code is 0, so no input channel carries a
bead, and an arrival latch presents what it holds (R50, R71). -/

namespace Sys2Proof.Machine

/-- Blank configuration memory reads 0 everywhere. -/
theorem frame_of_blank {s : State} (h : s.cfg.frames = []) (rod frame : Nat) : s.frame rod frame = 0 := by
  simp [State.frame, h, Sparse.get]

/-- Every source code of a blank tile is 0. -/
theorem tileCode_of_blank {s : State} (h : s.cfg.frames = []) (rod row lo : Nat) : s.tileCode rod row lo = 0 := by
  simp [State.tileCode, State.tileBits, State.rodBits, spanBits, frame_of_blank h, -Nat.reducePow]

/-- Source code 0 selects nothing (R71). -/
theorem look_zero (s : State) (rod row : Nat) : s.look rod row 0 = none := by
  have : ∀ n, s.follow n rod row 0 = .none := by
    intro n
    cases n <;> simp [State.follow, State.codeOrigin]
  simp [State.look, State.lookBy, State.driverOf, this]

/-- In blank configuration memory no input channel carries a bead. -/
theorem channelBead_of_blank {s : State} (h : s.cfg.frames = []) (b : BeadSink) (u : Upset) : s.channelBead b u = none := by
  unfold State.channelBead
  cases hn : s.sinkDigits b with
  | zero => rfl
  | succ n =>
    have hc : (s.sinkCode b 0).2.2 = 0 := by cases b <;> simp [State.sinkCode, tileCode_of_blank h]
    simp only [Nat.add_one_ne_zero, if_false, List.range_succ_eq_map, List.map_cons]
    rw [hc, look_zero]
    rfl

/-- In blank configuration memory an arrival latch presents the bead it holds, of no outputs (R50). -/
theorem beadAt_of_blank {s : State} (h : s.cfg.frames = []) {b : BeadSink} {ds : List Digit} (hl : s.latched b = some ds)
    (u : Upset) : s.beadAt b u = some ⟨ds, [], []⟩ := by
  simp [State.beadAt, hl, channelBead_of_blank h]

/-- A sink that is ready and whose latch holds a bead meets it, in blank configuration memory. -/
theorem meets_of_blank {s : State} (h : s.cfg.frames = []) {b : BeadSink} {ds : List Digit} (hl : s.latched b = some ds)
    (hr : s.sinkReady b = true) (u : Upset) : s.meets (b, u) ⟨ds, [], []⟩ = true := by
  simp [State.meets, hr, beadAt_of_blank h hl]

end Sys2Proof.Machine
end

