-- ==== Sys2Proof/Laws/Command.lean ====
section
/-! SUPPORT. What each shared operation can change, said once, and how a command on a state where nothing waits is its own
effect followed by event delivery. -/

namespace Sys2Proof.Machine

-- ------------------------------------------------------------------ registers after an update

theorem State.word_setF (s : State) (F : Fld) (i v : Nat) (q : Reg) (j : Nat) :
    (s.setF F i v).word q j =
      if q = F.reg ∧ j = i then withField (s.word F.reg i) F.lo F.width v else s.word q j := State.word_setWord ..

theorem State.word_raise (s : State) (F : Fld) (i : Nat) (q : Reg) (j : Nat) :
    (s.raise F i).word q j =
      if q = F.reg ∧ j = i then withField (s.word F.reg i) F.lo F.width 1 else s.word q j := State.word_setWord ..

theorem State.word_bump (s : State) (F : Fld) (i n : Nat) (q : Reg) (j : Nat) :
    (s.bump F i n).word q j =
      if q = F.reg ∧ j = i then withField (s.word F.reg i) F.lo F.width (s.counted F i n) else s.word q j :=
  State.word_setWord ..

theorem State.word_count (s : State) (F : Fld) (i : Nat) (q : Reg) (j : Nat) :
    (s.count F i).word q j =
      if q = F.reg ∧ j = i then withField (s.word F.reg i) F.lo F.width ((s.f F i + 1) % 2 ^ F.width)
      else s.word q j := State.word_setWord ..

theorem State.word_setPair (s : State) (lo hi : Reg) (i v : Nat) (q : Reg) (j : Nat) :
    (s.setPair lo hi i v).word q j =
      if q = hi ∧ j = i then BitVec.ofNat 32 (v / 2 ^ 32)
      else if q = lo ∧ j = i then BitVec.ofNat 32 v else s.word q j := by
  unfold State.setPair
  rw [State.word_setWord, State.word_setWord]

-- ------------------------------------------------------------------ what shared operations change

/-- The change goes on, within what is listed. -/
theorem Kept.via {s t u : State} {R R' : List (Reg × Nat)} {A A' : List Area} (h : Kept s t R A) (g : Kept t u R' A')
    (hR : R' ⊆ R) (hA : A' ⊆ A) : Kept s u R A :=
  (h.trans g).weaken (by simp [hR]) (by simp [hA])

/-- Nothing has changed yet. -/
theorem Kept.start (s : State) (R : List (Reg × Nat)) (A : List Area) : Kept s s R A :=
  (Kept.refl s).weaken (by simp) (by simp)

/-- A change done for each element of a list. -/
theorem Kept.foldl {α : Type} (f : State → α → State) (l : List α) {R : List (Reg × Nat)} {A : List Area} :
    ∀ s, (∀ u x, x ∈ l → Kept u (f u x) R A) → Kept s (l.foldl f s) R A := by
  induction l with
  | nil => exact fun s _ => Kept.start s R A
  | cons x l ih =>
    intro s h
    exact (h s x List.mem_cons_self).via (ih _ fun u y hy => h u y (List.mem_cons_of_mem x hy)) (fun _ h => h) (fun _ h => h)

theorem Kept.setWord (s : State) (r : Reg) (i : Nat) (v : Word) : Kept s (s.setWord r i v) [(r, i)] [] where
  part := rfl
  pending := rfl
  regs q j _ h := by
    rw [State.word_setWord, if_neg]
    rintro ⟨rfl, rfl⟩
    simp at h
  areas a _ := by cases a <;> simp [sameArea]

theorem Kept.setF (s : State) (F : Fld) (i v : Nat) : Kept s (s.setF F i v) [(F.reg, i)] [] := Kept.setWord ..
theorem Kept.raise (s : State) (F : Fld) (i : Nat) : Kept s (s.raise F i) [(F.reg, i)] [] := Kept.setWord ..
theorem Kept.bump (s : State) (F : Fld) (i n : Nat) : Kept s (s.bump F i n) [(F.reg, i)] [] := Kept.setWord ..
theorem Kept.count (s : State) (F : Fld) (i : Nat) : Kept s (s.count F i) [(F.reg, i)] [] := Kept.setWord ..
theorem Kept.setPair (s : State) (lo hi : Reg) (i v : Nat) : Kept s (s.setPair lo hi i v) [(lo, i), (hi, i)] [] :=
  (Kept.setWord ..).trans (Kept.setWord ..)

theorem Kept.journal (s : State) (origin : BitVec 8) (kind aux : Nat) (b : Body) :
    Kept s (s.journal origin kind aux b) [] [.ledger] :=
  Kept.of_areas (by simp) (by simp) (by simp) fun a h => by cases a <;> simp [sameArea] at h ⊢

theorem Kept.journalChange (s : State) (who : Who) (r : Reg) (i : Nat) (x y : Word) :
    Kept s (s.journalChange who r i x y) [] [.ledger] := Kept.journal ..
theorem Kept.journalRefusal (s : State) (who : Who) (why : Reason) (r : Reg) (i x : Nat) :
    Kept s (s.journalRefusal who why r i x) [] [.ledger] := Kept.journal ..
theorem Kept.journalEvent (s : State) (origin : BitVec 8) (r : Reg) (i x : Nat) :
    Kept s (s.journalEvent origin r i x) [] [.ledger] := Kept.journal ..

theorem Kept.advanceTo (s : State) (t : DWord) : Kept s (s.advanceTo t) [] [.clock] := by
  unfold State.advanceTo
  split
  · exact Kept.of_areas rfl rfl rfl fun a h => by cases a <;> simp [sameArea] at h ⊢
  · exact (Kept.refl s).weaken (by simp) (by simp)

/-- The entry that State.journal makes (R438, R439). -/
theorem Entered.of_journal {s u t : State} {origin : BitVec 8} {kind aux : Nat} {b : Body} (hu : u.ledger = s.ledger)
    (ht : t.ledger = (u.journal origin kind aux b).ledger) : Entered s t origin kind aux b := by
  intro h
  rw [← hu] at h
  unfold State.journal at ht
  dsimp only at ht
  rw [if_pos h] at ht
  rw [ht, ← hu]
  exact ⟨_, _, rfl⟩

/-- A refusal: its bit raised, its entry made. -/
theorem Refused.of_raise {s t : State} {F : Fld} {j : Nat} {who : Who} {why : Reason} {r : Reg} {i n : Nat}
    (hp : isPend F.reg = false) (hr : r ≠ F.reg)
    (hw : ∀ q j', isPend q = false → t.word q j' = ((s.raise F j).journalRefusal who why r i n).word q j')
    (hk : Kept ((s.raise F j).journalRefusal who why r i n) t [] [])
    (hf : Kept s t [(F.reg, j)] [.ledger]) : Refused s t F j who why r i n := by
  refine ⟨?_, ?_, hf⟩
  · rw [hw _ _ hp]
    simp [State.journalRefusal, State.word_raise, changed]
  · have h := hk.areas .ledger (by simp)
    simp only [sameArea, State.journalRefusal] at h
    refine Entered.of_journal (s := s) (u := s.raise F j) (by simp) ?_
    rw [h, State.word_raise, if_neg (fun x => hr x.1)]

-- ------------------------------------------------------------------ entering the Beam

/-- The registers an event's entry may change: BEAM.SRC_CNT of a counted source (R276). -/
def entryRegs : BeamFrom → List (Reg × Nat)
  | .source n => [(.BEAM_SRC_CNT, n)]
  | .direct _ => []

theorem Kept.putEvent (s : State) (o : BeamFrom) (t : DWord) : Kept s (s.putEvent o t) [] [.beam] := Kept.putBeam ..

theorem Kept.enterBeam (s : State) (o : BeamFrom) (t : DWord) : Kept s (s.enterBeam o t) (entryRegs o) [.beam] := by
  unfold State.enterBeam
  split
  · exact (Kept.refl s).weaken (by simp) (by simp)
  · cases o with
    | source n => exact (Kept.putEvent s _ t).trans (Kept.count _ F.BEAM_SRC_CNT_EVENTS n)
    | direct n => exact Kept.putEvent s _ t

theorem Kept.enterNext (s : State) (o : BeamFrom) : Kept s (s.enterNext o) (entryRegs o) [.beam] := Kept.enterBeam ..

/-- The event is in the crossbar, to act nine ticks after it entered (R23). -/
theorem State.mem_enterBeam (s : State) (o : BeamFrom) (t : DWord) : ⟨o, t⟩ ∈ (s.enterBeam o t).beam.flight := by
  unfold State.enterBeam
  split
  · rename_i h
    obtain ⟨e, he, h2⟩ := List.any_eq_true.1 h
    obtain ⟨o', t'⟩ := e
    simp only [Bool.and_eq_true, beq_iff_eq] at h2
    obtain ⟨rfl, rfl⟩ := h2
    exact he
  · cases o <;> simp [State.putEvent]

theorem State.mem_enterNext (s : State) (o : BeamFrom) : ⟨o, s.later 1⟩ ∈ (s.enterNext o).beam.flight :=
  State.mem_enterBeam ..

theorem State.word_enterBeam (s : State) (o : BeamFrom) (t : DWord) (r : Reg) (i : Nat) (h : r ≠ .BEAM_SRC_CNT) :
    (s.enterBeam o t).word r i = s.word r i := by
  unfold State.enterBeam
  split
  · rfl
  · cases o
    · rw [State.word_count, if_neg fun x => h x.1]
      rfl
    · rfl

theorem State.word_enterNext (s : State) (o : BeamFrom) (r : Reg) (i : Nat) (h : r ≠ .BEAM_SRC_CNT) :
    (s.enterNext o).word r i = s.word r i := State.word_enterBeam _ _ _ r i h

-- ------------------------------------------------------------------ the end of a command

/-- What makes a state calm. -/
theorem State.calm_iff (s : State) : s.calm = true ↔
    s.dev.due = [] ∧ s.net.ended = [] ∧ s.dbg.resume = [] ∧ s.host.pieces = [] ∧ s.host.dma = [] ∧
      s.cfg.load = none ∧ s.cfg.transfer = none ∧ s.cfg.queued = none ∧ s.resetIsDue = false ∧ s.edgesDue = false ∧
      s.csfDue = false ∧ s.markersDue = false ∧ s.repairWaits = false := by
  simp [State.calm, and_assoc]

theorem State.ready_iff (s : State) : s.ready = true ↔ s.dev.porst = false ∧ s.calm = true := by
  simp [State.ready]

/-- The registers whose words say whether work that waits can go on: states of NIs, stations, fences and spans, user mode,
the phase of the record, the regions that are on. -/
def calmRegs : List Reg :=
  [.NI_STATUS, .NI_FENCE_STATUS, .DEV_XS_STATE, .CFG_SPAN_STATUS, .DEV_STATUS, .PWR_REGION_STATUS, .RECORD_STATUS]

/-- What an NI can take depends on these words alone. -/
theorem State.niTakes_congr {s t : State} (hp : t.part = s.part) (hw : ∀ r ∈ calmRegs, ∀ i, t.word r i = s.word r i)
    (n : Nat) : t.niTakes n = s.niTakes n := by
  simp only [State.niTakes, State.funcState, State.fence, State.station, State.f, hp, funcRegs]
  rw [hw .NI_STATUS (by decide), hw .NI_FENCE_STATUS (by decide), hw .DEV_XS_STATE (by decide)]

theorem State.edgesDue_congr {s t : State} (hp : t.part = s.part) (hn : t.net = s.net) (hc : t.cfg = s.cfg)
    (hf : t.fabric = s.fabric) (hw : ∀ r ∈ calmRegs, ∀ i, t.word r i = s.word r i) : t.edgesDue = s.edgesDue := by
  have h1 : t.niTakes = s.niTakes := funext (State.niTakes_congr hp hw)
  have h2 : t.station = s.station := funext fun i => by
    simp only [State.station, State.f]; rw [hw .DEV_XS_STATE (by decide)]
  have h3 : t.spanState = s.spanState := funext fun i => by
    simp only [State.spanState, State.f]; rw [hw .CFG_SPAN_STATUS (by decide)]
  have h4 : t.gated = s.gated := funext fun rod => by
    simp only [State.gated, State.on, State.f, State.reaches, State.spanOf, State.spanClosed, h3, hc, hf]
    rw [hw .DEV_STATUS (by decide), hw .PWR_REGION_STATUS (by decide)]
  have h8 : t.frame = s.frame := funext fun rod => funext fun i => by simp only [State.frame, hc]
  have h5 : t.rodCodes = s.rodCodes := funext fun rod => by
    simp only [State.rodCodes, State.tileCode, State.tileBits, State.rodBits, h8]
  have h6 : t.ni = s.ni := funext fun n => by simp only [State.ni, hn]
  have h7 (n c : Nat) : (t.channelHead n c).isSome = (s.channelHead n c).isSome := by
    unfold State.channelHead
    rw [h6]
    split <;> simp [Option.isSome_map]
  have h9 : t.clear = s.clear := funext fun x => by simp only [State.clear, hf]
  have h10 : t.channelMoves = s.channelMoves := funext fun n => funext fun c => by
    simp only [State.channelMoves, State.channelRouted, h5, h6, h7]
  have h11 : t.edgeMoves = s.edgeMoves := funext fun n => by
    simp only [State.edgeMoves, State.iqTakes, State.edgePasses, h1, h2, h4, h6, h10]
  simp only [State.edgesDue, State.busyEdges, h9, h11, hn, hf]

theorem State.csfDue_congr {s t : State} (hp : t.part = s.part) (hn : t.net = s.net)
    (hw : ∀ r ∈ calmRegs, ∀ i, t.word r i = s.word r i) : t.csfDue = s.csfDue := by
  have h1 : t.niTakes = s.niTakes := funext (State.niTakes_congr hp hw)
  have h2 : t.station = s.station := funext fun i => by
    simp only [State.station, State.f]; rw [hw .DEV_XS_STATE (by decide)]
  have h3 : t.fence = s.fence := funext fun i => by
    simp only [State.fence, State.f]; rw [hw .NI_FENCE_STATUS (by decide)]
  have h6 : t.ni = s.ni := funext fun n => by simp only [State.ni, hn]
  have h8 (n : Nat) (r : Request) : t.requestWaits n r = s.requestWaits n r := by
    simp only [State.requestWaits, State.fabricFault, State.freeTag, State.tagTaken, State.responseRoom, State.reservedUnits,
      h6]
    rfl
  have h9 (n : Nat) : t.readsUp n = s.readsUp n := by
    simp only [State.readsUp, h6]
    cases (s.ni n).csf.up with
    | nil => rfl
    | cons r l => simp only [h1, h8]
  have h7 : t.csfMoves = s.csfMoves := funext fun n => by
    simp only [State.csfMoves, State.nextCrossing, State.mayCross, h2, h3, h6, h9]
  simp only [State.csfDue, h7, hn]

theorem State.markersDue_congr {s t : State} (hn : t.net = s.net) : t.markersDue = s.markersDue := by
  have h6 : t.ni = s.ni := funext fun n => by simp only [State.ni, hn]
  have h7 : t.freeTag = s.freeTag := funext fun n => by simp only [State.freeTag, State.tagTaken, h6]
  have h8 : t.markerGoes = s.markerGoes := funext fun n => by
    simp only [State.markerGoes, State.responseRoom, State.reservedUnits, h6, h7]
    rfl
  simp only [State.markersDue, h8, hn]

theorem State.repairWaits_congr {s t : State} (hr : t.repair = s.repair) (hm : t.record = s.record)
    (hw : ∀ r ∈ calmRegs, ∀ i, t.word r i = s.word r i) : t.repairWaits = s.repairWaits := by
  simp only [State.repairWaits, State.boundary, State.phase, State.f, hr, hm]
  rw [hw .RECORD_STATUS (by decide)]

theorem State.resetIsDue_congr {s t : State} (hc : t.cfg = s.cfg) (hr : t.repair = s.repair) :
    t.resetIsDue = s.resetIsDue := by
  simp only [State.resetIsDue, State.fabricResetWaits, State.loading, hc, hr]

/-- The parts of State in which work waits. -/
def calmAreas : List Area := [.dev, .net, .dbg, .host, .cfg, .fabric, .repair, .record]

/-- An update that leaves the parts in which work waits alone, and the registers that say whether it can go on, keeps the
state calm. -/
theorem Kept.calm {s t : State} {R : List (Reg × Nat)} {A : List Area} (h : Kept s t R A)
    (hA : ∀ a ∈ calmAreas, a ∉ A) (hR : ∀ x ∈ R, x.1 ∉ calmRegs) : t.calm = s.calm := by
  have hw : ∀ r ∈ calmRegs, ∀ i, t.word r i = s.word r i := fun r hr i =>
    h.regs r i (by simp only [calmRegs, List.mem_cons, List.not_mem_nil, or_false] at hr; rcases hr with rfl | rfl | rfl | rfl | rfl | rfl | rfl <;> rfl)
      fun hx => hR _ hx hr
  have a1 := h.areas _ (hA .dev (by decide))
  have a2 := h.areas _ (hA .net (by decide))
  have a3 := h.areas _ (hA .dbg (by decide))
  have a4 := h.areas _ (hA .host (by decide))
  have a5 := h.areas _ (hA .cfg (by decide))
  have a6 := h.areas _ (hA .fabric (by decide))
  have a7 := h.areas _ (hA .repair (by decide))
  have a8 := h.areas _ (hA .record (by decide))
  simp only [sameArea] at a1 a2 a3 a4 a5 a6 a7 a8
  simp only [State.calm, a1, State.resetIsDue_congr a5 a7, State.edgesDue_congr h.part a2 a5 a6 hw,
    State.csfDue_congr h.part a2 hw, State.markersDue_congr a2, State.repairWaits_congr a7 a8 hw]
  simp only [a2, a3, a4, a5]

theorem State.work_calm {s : State} (h : s.calm = true) : s.work = s := by simp [State.work, h]

/-- A command on a ready state whose effect leaves the state calm. -/
theorem State.command_ready {s : State} {f : State → State} (h : s.ready = true) (hc : (f s).calm = true) :
    s.command f = .next (s.became (f s)).settle := by
  simp [State.command, State.ends, ((s.ready_iff).1 h).1, State.work_calm hc]

theorem State.settle_word (s : State) (r : Reg) (i : Nat) (h : isPend r = false) : s.settle.word r i = s.word r i :=
  s.settle_quiet.regs r i h (by simp)

theorem State.settle_part (s : State) : s.settle.part = s.part := s.settle_quiet.part

theorem State.became_word (s u : State) (r : Reg) (i : Nat) (h : u.part = s.part) :
    (s.became u).word r i = u.word r i := by
  simp only [State.word, State.became, h]

/-- A state that keeps the part and the queue became itself. -/
theorem Kept.became_self {s u : State} {R : List (Reg × Nat)} {A : List Area} (h : Kept s u R A) : s.became u = u := by
  have h1 := h.part
  have h2 := h.pending
  cases u
  cases s
  simp only [State.became] at *
  rw [← h1, ← h2]

/-- What a command with an effect u brings: u's registers, u's parts, and event delivery. -/
theorem Kept.became {s u : State} {R : List (Reg × Nat)} {A : List Area} (h : Kept s u R A) : Kept s (s.became u).settle R A := by
  have k := h.trans u.settle_quiet.toKept
  rw [List.append_nil, List.append_nil] at k
  rw [h.became_self]
  exact k

/-- A command on a ready state whose effect leaves it calm: its next state, with its registers, and what it may have
changed. -/
theorem State.command_calm {s : State} {f : State → State} {R : List (Reg × Nat)} {A : List Area} (h : s.ready = true)
    (k : Kept s (f s) R A) (hc : (f s).calm = true) :
    ∃ t, s.command f = .next t ∧ (∀ r i, isPend r = false → t.word r i = (f s).word r i) ∧ Kept (f s) t [] [] ∧
      Kept s t R A := by
  refine ⟨_, State.command_ready h hc, ?_, ?_, Kept.became k⟩
  · intro r i hr
    rw [k.became_self, (f s).settle_word r i hr]
  · rw [k.became_self]
    exact (f s).settle_quiet.toKept

/-- The same where the effect leaves what could wait alone. -/
theorem State.command_runs {s : State} {f : State → State} {R : List (Reg × Nat)} {A : List Area} (h : s.ready = true)
    (k : Kept s (f s) R A) (hA : ∀ a ∈ calmAreas, a ∉ A) (hR : ∀ x ∈ R, x.1 ∉ calmRegs) :
    ∃ t, s.command f = .next t ∧ (∀ r i, isPend r = false → t.word r i = (f s).word r i) ∧ Kept (f s) t [] [] ∧
      Kept s t R A :=
  State.command_calm h k (by rw [k.calm hA hR]; exact ((s.ready_iff).1 h).2)

/-- A command that is a function of a ready state, and whose effect leaves what could wait alone, runs. -/
theorem Runs.of_command {c : Instr} {s : State} {f : State → State} {P : State → Prop} {R : List (Reg × Nat)}
    {A : List Area} (hc : exec c s = s.command f) (h : s.ready = true) (k : Kept s (f s) R A)
    (hA : ∀ a ∈ calmAreas, a ∉ A) (hR : ∀ x ∈ R, x.1 ∉ calmRegs)
    (hP : ∀ t, (∀ r i, isPend r = false → t.word r i = (f s).word r i) → Kept (f s) t [] [] → Kept s t R A → P t) :
    Runs c s P := by
  obtain ⟨t, e, h1, h2, h3⟩ := State.command_runs h k hA hR
  exact ⟨t, hc.trans e, hP t h1 h2 h3⟩

/-- The same where the effect is shown to leave the state calm. -/
theorem Runs.of_calm {c : Instr} {s : State} {f : State → State} {P : State → Prop} {R : List (Reg × Nat)}
    {A : List Area} (hc : exec c s = s.command f) (h : s.ready = true) (k : Kept s (f s) R A)
    (hA : s.calm = true → (f s).calm = true)
    (hP : ∀ t, (∀ r i, isPend r = false → t.word r i = (f s).word r i) → Kept (f s) t [] [] → Kept s t R A → P t) :
    Runs c s P := by
  obtain ⟨t, e, h1, h2, h3⟩ := State.command_calm h k (hA ((s.ready_iff).1 h).2)
  exact ⟨t, hc.trans e, hP t h1 h2 h3⟩

-- ------------------------------------------------------------------ resets asked for

/-- The engines do nothing where none of them has work. -/
theorem State.pump_still {s : State} (hp : s.host.pieces = []) (hl : s.cfg.load = none) (ht : s.cfg.transfer = none)
    (hd : ∀ c, c < 32 → s.f F.HOST_CH_STATUS_STATE c = 0) (he : s.edgesPass = s) (hc : s.csfPass = s)
    (hm : s.markersPass = s) (hr : s.resetIsDue = false) (hw : s.repairWaits = false) : s.pump = s := by
  have h1 : s.barPump s.host.pieces.length = s := by rw [hp]; rfl
  have h2 : s.dmaPump = s := by
    unfold State.dmaPump
    rw [List.filter_eq_nil_iff.2]
    · rfl
    · intro c hc
      have := hd c (List.mem_range.1 hc)
      simpa [State.funcState, funcRegs] using this
  have h3 : s.loadGate = s := by simp only [State.loadGate, hl]
  have h4 : s.fetchPump = s := by simp only [State.fetchPump, hl]
  have h5 : s.transferPump = s := by simp only [State.transferPump, State.refill, ht]
  have h6 : s.fabricResetDue = s := by simp [State.fabricResetDue, hr]
  have h7 : s.repairGoesOn = s := by simp [State.repairGoesOn, hw]
  simp only [State.pump, h1, h2, h3, h4, h5, he, hc, hm, h6, h7]

/-- Nothing runs down where nothing has ended and the engines do nothing. -/
theorem State.runDown_still {s : State} (hn : s.net.ended = []) (hr : s.dbg.resume = []) (hp : s.pump = s)
    (he : (!s.edgesDue && !s.csfDue && !s.markersDue && !s.resetIsDue) = true) (n : Nat) : s.runDown (n + 1) = s := by
  unfold State.runDown
  rw [hn, hr]
  simp only [Bool.and_eq_true] at he
  simp [hp, hn, hr, he]

/-- A command that asks for a reset ends with that reset. -/
theorem State.work_due {s : State} (hc : s.calm = false) (hn : s.net.ended = []) (hr : s.dbg.resume = [])
    (hp : s.pump = s) (he : (!s.edgesDue && !s.csfDue && !s.markersDue && !s.resetIsDue) = true) : s.work = s.dueActs := by
  simp only [State.work, hc, runDownRounds, State.runDown_still hn hr hp he, Bool.false_eq_true, if_false]

end Sys2Proof.Machine
end

