-- ==== Sys2Proof/Laws/Dispatch.lean ====
section
/-! SUPPORT. The meaning of each command, by name: what exec does with a constructor is the call of its meaning. -/

namespace Sys2Proof.Machine

@[simp] theorem exec_porstRelease (bootSrc : BitVec 2) (cfgPull : Bool) (s : State) : exec (.porstRelease bootSrc cfgPull) s = execPorstRelease bootSrc cfgPull s := rfl
@[simp] theorem exec_por (drains : Bool) (s : State) : exec (.por drains) s = execPor drains s := rfl
@[simp] theorem exec_sysReset (who : Who) (s : State) : exec (.sysReset who) s = execSysReset who s := rfl
@[simp] theorem exec_functionReset (who : Who) (block inst : Nat) (s : State) : exec (.functionReset who block inst) s = execFunctionReset who block inst s := rfl
@[simp] theorem exec_dbgReset (who : Option Who) (s : State) : exec (.dbgReset who) s = execDbgReset who s := rfl
@[simp] theorem exec_flr (pf : Nat) (s : State) : exec (.flr pf) s = execFlr pf s := rfl
@[simp] theorem exec_dmaEnable (who : Who) (s : State) : exec (.dmaEnable who) s = execDmaEnable who s := rfl
@[simp] theorem exec_registerWrite (who : Who) (off : Nat) (data : Word) (s : State) : exec (.registerWrite who off data) s = execRegisterWrite who off data s := rfl
@[simp] theorem exec_runFunc (who : Who) (f : Func) (s : State) : exec (.runFunc who f) s = execRun who f s := rfl
@[simp] theorem exec_stopFunc (who : Who) (f : Func) (s : State) : exec (.stopFunc who f) s = execStop who f s := rfl
@[simp] theorem exec_heldWorkFinished (f : Func) (s : State) : exec (.heldWorkFinished f) s = execHeldWorkFinished f s := rfl
@[simp] theorem exec_stopTimeout (f : Func) (s : State) : exec (.stopTimeout f) s = execStopTimeout f s := rfl
@[simp] theorem exec_evtAck (data : Word) (s : State) : exec (.evtAck data) s = execEvtAck data s := rfl
@[simp] theorem exec_beadAccept (b : BeadSink) (upset : Upset) (s : State) : exec (.beadAccept b upset) s = execBeadAccept b upset s := rfl
@[simp] theorem exec_beadConsumed (x : BeadSource) (s : State) : exec (.beadConsumed x) s = execBeadConsumed x s := rfl
@[simp] theorem exec_arbitrationGrant (rod row a : Nat) (first : Bool) (upset : Upset) (s : State) : exec (.arbitrationGrant rod row a first upset) s = execArbitrationGrant rod row a first upset s := rfl
@[simp] theorem exec_reckonerOperation (rod k : Nat) (upset : Upset) (s : State) : exec (.reckonerOperation rod k upset) s = execReckonerOperation rod k upset s := rfl
@[simp] theorem exec_initialStateRelease (wait : Nat) (s : State) : exec (.initialStateRelease wait) s = execInitialStateRelease wait s := rfl
@[simp] theorem exec_rateWindow (m rate : Nat) (s : State) : exec (.rateWindow m rate) s = execRateWindow m rate s := rfl
@[simp] theorem exec_vloopEnable (who : Who) (data : Word) (heard : List PmbResult) (s : State) : exec (.vloopEnable who data heard) s = execVloopEnable who data heard s := rfl
@[simp] theorem exec_vloopInterval (heard : List PmbResult) (s : State) : exec (.vloopInterval heard) s = execVloopInterval heard s := rfl
@[simp] theorem exec_contention (seg : Nat) (rods : List Nat) (s : State) : exec (.contention seg rods) s = execContention seg rods s := rfl
@[simp] theorem exec_contentionScrubDone (seg : Nat) (x : FrameFinding) (s : State) : exec (.contentionScrubDone seg x) s = execContentionScrubDone seg x s := rfl
@[simp] theorem exec_pinOutputBead (p : Nat) (upset : Upset) (s : State) : exec (.pinOutputBead p upset) s = execPinOutputBead p upset s := rfl
@[simp] theorem exec_pinInputChange (p : Nat) (level : Bool) (wait : Nat) (s : State) : exec (.pinInputChange p level wait) s = execPinInputChange p level wait s := rfl
@[simp] theorem exec_ftoBead (n : Nat) (upset : Upset) (s : State) : exec (.ftoBead n upset) s = execFtoBead n upset s := rfl
@[simp] theorem exec_readRow (rod m port : Nat) (upset : Upset) (x : EccFinding) (s : State) : exec (.readRow rod m port upset x) s = execRead rod m port upset x s := rfl
@[simp] theorem exec_writeRow (rod m port : Nat) (upset : Upset) (x : EccFinding) (s : State) : exec (.writeRow rod m port upset x) s = execWrite rod m port upset x s := rfl
@[simp] theorem exec_readWrite (rod m port : Nat) (upset : Upset) (x : EccFinding) (s : State) : exec (.readWrite rod m port upset x) s = execReadWrite rod m port upset x s := rfl
@[simp] theorem exec_nopPort (rod m port : Nat) (upset : Upset) (s : State) : exec (.nopPort rod m port upset) s = execNop rod m port upset s := rfl
@[simp] theorem exec_rowScrub (rod m : Nat) (x : EccFinding) (s : State) : exec (.rowScrub rod m x) s = execRowScrub rod m x s := rfl
@[simp] theorem exec_producerWord (q : Nat) (upset : Upset) (x : EccFinding) (s : State) : exec (.producerWord q upset x) s = execProducerWord q upset x s := rfl
@[simp] theorem exec_consumerWord (q : Nat) (x : EccFinding) (s : State) : exec (.consumerWord q x) s = execConsumerWord q x s := rfl
@[simp] theorem exec_flushBead (q : Nat) (upset : Upset) (s : State) : exec (.flushBead q upset) s = execFlushBead q upset s := rfl
@[simp] theorem exec_flush (q : Nat) (s : State) : exec (.flush q) s = execFlush q s := rfl
@[simp] theorem exec_flushTakesEffect (q : Nat) (s : State) : exec (.flushTakesEffect q) s = execFlushTakesEffect q s := rfl
@[simp] theorem exec_stale (q : Nat) (s : State) : exec (.stale q) s = execStale q s := rfl
@[simp] theorem exec_loadCmd (who : Who) (s : State) : exec (.loadCmd who) s = execLoad who s := rfl
@[simp] theorem exec_abortLoad (who : Who) (s : State) : exec (.abortLoad who) s = execAbortLoad who s := rfl
@[simp] theorem exec_streamDone (who : Who) (s : State) : exec (.streamDone who) s = execStreamDone who s := rfl
@[simp] theorem exec_stream (w : Word) (s : State) : exec (.stream w) s = execStream w s := rfl
@[simp] theorem exec_streamWord (x : StreamWord) (s : State) : exec (.streamWord x) s = execStreamWord x s := rfl
@[simp] theorem exec_far (v : Word) (s : State) : exec (.far v) s = execFar v s := rfl
@[simp] theorem exec_burst (data : List Word) (s : State) : exec (.burst data) s = execBurst data s := rfl
@[simp] theorem exec_skipWords (data : List Word) (s : State) : exec (.skipWords data) s = execSkipWords data s := rfl
@[simp] theorem exec_endWord (crc : Word) (s : State) : exec (.endWord crc) s = execEnd crc s := rfl
@[simp] theorem exec_idchk (v : Word) (s : State) : exec (.idchk v) s = execIdchk v s := rfl
@[simp] theorem exec_crc (v : Word) (s : State) : exec (.crc v) s = execCrc v s := rfl
@[simp] theorem exec_span (v : Word) (s : State) : exec (.span v) s = execSpan v s := rfl
@[simp] theorem exec_spanTable (ws : List Word) (s : State) : exec (.spanTable ws) s = execSpanTable ws s := rfl
@[simp] theorem exec_pinIso (ws : List Word) (s : State) : exec (.pinIso ws) s = execPinIso ws s := rfl
@[simp] theorem exec_beamMap (ws : List Word) (s : State) : exec (.beamMap ws) s = execBeamMap ws s := rfl
@[simp] theorem exec_guardTbus (ws : List Word) (s : State) : exec (.guardTbus ws) s = execGuardTbus ws s := rfl
@[simp] theorem exec_guardLane (ws : List Word) (s : State) : exec (.guardLane ws) s = execGuardLane ws s := rfl
@[simp] theorem exec_guardPins (ws : List Word) (s : State) : exec (.guardPins ws) s = execGuardPins ws s := rfl
@[simp] theorem exec_guardPower (v : Word) (s : State) : exec (.guardPower v) s = execGuardPower v s := rfl
@[simp] theorem exec_guardPolicy (v : Word) (s : State) : exec (.guardPolicy v) s = execGuardPolicy v s := rfl
@[simp] theorem exec_guardLock (v : Word) (s : State) : exec (.guardLock v) s = execGuardLock v s := rfl
@[simp] theorem exec_startWord (crc : Word) (s : State) : exec (.startWord crc) s = execStart crc s := rfl
@[simp] theorem exec_fabricReset (who : Who) (s : State) : exec (.fabricReset who) s = execFabricReset who s := rfl
@[simp] theorem exec_frameScrub (x : FrameFinding) (s : State) : exec (.frameScrub x) s = execFrameScrub x s := rfl
@[simp] theorem exec_spanLoad (who : Who) (n : Nat) (s : State) : exec (.spanLoad who n) s = execSpanLoad who n s := rfl
@[simp] theorem exec_isolate (who : Who) (n : Nat) (s : State) : exec (.isolate who n) s = execIsolate who n s := rfl
@[simp] theorem exec_release (who : Who) (n : Nat) (s : State) : exec (.release who n) s = execRelease who n s := rfl
@[simp] theorem exec_spanReset (who : Who) (n : Nat) (same : Bool) (s : State) : exec (.spanReset who n same) s = execReset who n same s := rfl
@[simp] theorem exec_isolationTick (n : Nat) (s : State) : exec (.isolationTick n) s = execIsolationTick n s := rfl
@[simp] theorem exec_spanDrainTimeout (n : Nat) (s : State) : exec (.spanDrainTimeout n) s = execSpanDrainTimeout n s := rfl
@[simp] theorem exec_spanSettled (n wait : Nat) (s : State) : exec (.spanSettled n wait) s = execSpanSettled n wait s := rfl
@[simp] theorem exec_spanReleaseTick (n : Nat) (s : State) : exec (.spanReleaseTick n) s = execSpanReleaseTick n s := rfl
@[simp] theorem exec_spanRunning (n wait : Nat) (s : State) : exec (.spanRunning n wait) s = execSpanRunning n wait s := rfl
@[simp] theorem exec_icpCmd (upset : Upset) (s : State) : exec (.icpCmd upset) s = execIcpCmd upset s := rfl
@[simp] theorem exec_icpD (upset : Upset) (s : State) : exec (.icpD upset) s = execIcpD upset s := rfl
@[simp] theorem exec_readback (who : Who) (s : State) : exec (.readback who) s = execReadback who s := rfl
@[simp] theorem exec_rbData (data : Option Word) (s : State) : exec (.rbData data) s = execRbData data s := rfl
@[simp] theorem exec_freeze (who : Who) (s : State) : exec (.freeze who) s = execFreeze who s := rfl
@[simp] theorem exec_captureSettled (wait : Nat) (s : State) : exec (.captureSettled wait) s = execCaptureSettled wait s := rfl
@[simp] theorem exec_thaw (who : Who) (s : State) : exec (.thaw who) s = execThaw who s := rfl
@[simp] theorem exec_selfTestSliceDone (phys : Nat) (x : SliceResult) (readings : List (Nat × Nat)) (s : State) : exec (.selfTestSliceDone phys x readings) s = execSelfTestSliceDone phys x readings s := rfl
@[simp] theorem exec_sliceOverrun (phys low : Nat) (s : State) : exec (.sliceOverrun phys low) s = execSliceOverrun phys low s := rfl
@[simp] theorem exec_wearFault (phys : Nat) (s : State) : exec (.wearFault phys) s = execWearFault phys s := rfl
@[simp] theorem exec_rovingStepDue (g : Nat) (s : State) : exec (.rovingStepDue g) s = execRovingStepDue g s := rfl
@[simp] theorem exec_preCopyDone (x : PreCopy) (s : State) : exec (.preCopyDone x) s = execPreCopyDone x s := rfl
@[simp] theorem exec_verifyDone (ok : Bool) (s : State) : exec (.verifyDone ok) s = execVerifyDone ok s := rfl
@[simp] theorem exec_rodSettled (wait : Nat) (writeFails : Bool) (s : State) : exec (.rodSettled wait writeFails) s = execRodSettled wait writeFails s := rfl
@[simp] theorem exec_stepRelease (wait : Nat) (s : State) : exec (.stepRelease wait) s = execStepRelease wait s := rfl
@[simp] theorem exec_spareTestDone (x : SliceResult) (s : State) : exec (.spareTestDone x) s = execSpareTestDone x s := rfl
@[simp] theorem exec_step (who : Who) (g : Nat) (s : State) : exec (.step who g) s = execStep who g s := rfl
@[simp] theorem exec_migrate (who : Who) (rod : Nat) (s : State) : exec (.migrate who rod) s = execMigrate who rod s := rfl
@[simp] theorem exec_retest (who : Who) (g : Nat) (s : State) : exec (.retest who g) s = execRetest who g s := rfl
@[simp] theorem exec_linkTestSlice (page port : Nat) (fault : Option Nat) (s : State) : exec (.linkTestSlice page port fault) s = execLinkTestSlice page port fault s := rfl
@[simp] theorem exec_hbmTestSlice (pc : Nat) (fault : Option (Nat × Bool)) (s : State) : exec (.hbmTestSlice pc fault) s = execHbmTestSlice pc fault s := rfl
@[simp] theorem exec_slicePreempt (hbm : Bool) (unit : Nat) (s : State) : exec (.slicePreempt hbm unit) s = execSlicePreempt hbm unit s := rfl
@[simp] theorem exec_requestInject (n : Nat) (r : Request) (s : State) : exec (.requestInject n r) s = execRequestInject n r s := rfl
@[simp] theorem exec_unitReceive (page port : Nat) (flips : List Nat) (s : State) : exec (.unitReceive page port flips) s = execUnitReceive page port flips s := rfl
@[simp] theorem exec_wireRemap (page port : Nat) (wire : Option Nat) (s : State) : exec (.wireRemap page port wire) s = execWireRemap page port wire s := rfl
@[simp] theorem exec_rd (p : Packet) (m : WordFinding) (s : State) : exec (.rd p m) s = execRd p m s := rfl
@[simp] theorem exec_wr (p : Packet) (m : WordFinding) (s : State) : exec (.wr p m) s = execWr p m s := rfl
@[simp] theorem exec_wrp (p : Packet) (m : WordFinding) (s : State) : exec (.wrp p m) s = execWrp p m s := rfl
@[simp] theorem exec_fadd (p : Packet) (m : WordFinding) (s : State) : exec (.fadd p m) s = execFadd p m s := rfl
@[simp] theorem exec_cfg (page : Nat) (p : Packet) (s : State) : exec (.cfg page p) s = execCfg page p s := rfl
@[simp] theorem exec_evt (p : Packet) (s : State) : exec (.evt p) s = execEvt p s := rfl
@[simp] theorem exec_rspData (p : Packet) (s : State) : exec (.rspData p) s = execRspData p s := rfl
@[simp] theorem exec_rspOk (p : Packet) (s : State) : exec (.rspOk p) s = execRspOk p s := rfl
@[simp] theorem exec_rspErr (p : Packet) (s : State) : exec (.rspErr p) s = execRspErr p s := rfl
@[simp] theorem exec_transactionTimeout (n tag : Nat) (s : State) : exec (.transactionTimeout n tag) s = execTransactionTimeout n tag s := rfl
@[simp] theorem exec_quarantineExpire (n tag : Nat) (s : State) : exec (.quarantineExpire n tag) s = execQuarantineExpire n tag s := rfl
@[simp] theorem exec_targetTimeout (n handle : Nat) (s : State) : exec (.targetTimeout n handle) s = execTargetTimeout n handle s := rfl
@[simp] theorem exec_rtEntryWrite (who : Who) (n : Nat) (hi : Word) (s : State) : exec (.rtEntryWrite who n hi) s = execRtEntryWrite who n hi s := rfl
@[simp] theorem exec_swapRoutes (who : Who) (n : Nat) (injecting : Bool) (s : State) : exec (.swapRoutes who n injecting) s = execSwap who n injecting s := rfl
@[simp] theorem exec_bankExchange (who : Who) (n : Nat) (s : State) : exec (.bankExchange who n) s = execBankExchange who n s := rfl
@[simp] theorem exec_copyRoutes (n : Nat) (s : State) : exec (.copyRoutes n) s = execCopy n s := rfl
@[simp] theorem exec_regulatorRelease (n vn wait : Nat) (s : State) : exec (.regulatorRelease n vn wait) s = execRegulatorRelease n vn wait s := rfl
@[simp] theorem exec_uRelease (n wait : Nat) (s : State) : exec (.uRelease n wait) s = execURelease n wait s := rfl
@[simp] theorem exec_ageingPromotion (page port vn : Nat) (s : State) : exec (.ageingPromotion page port vn) s = execAgeingPromotion page port vn s := rfl
@[simp] theorem exec_hold (who : Who) (page : Nat) (s : State) : exec (.hold who page) s = execHold who page s := rfl
@[simp] theorem exec_holdDrainDone (page : Nat) (s : State) : exec (.holdDrainDone page) s = execHoldDrainDone page s := rfl
@[simp] theorem exec_holdFail (page : Nat) (s : State) : exec (.holdFail page) s = execHoldFail page s := rfl
@[simp] theorem exec_uGateOpen (n dest : Nat) (s : State) : exec (.uGateOpen n dest) s = execUGateOpen n dest s := rfl
@[simp] theorem exec_stagedWrite (who : Who) (page : Nat) (r : Reg) (data : Word) (s : State) : exec (.stagedWrite who page r data) s = execStagedWrite who page r data s := rfl
@[simp] theorem exec_closeFence (who : Who) (n : Nat) (s : State) : exec (.closeFence who n) s = execClose who n s := rfl
@[simp] theorem exec_openFence (who : Who) (n : Nat) (s : State) : exec (.openFence who n) s = execOpen who n s := rfl
@[simp] theorem exec_fenceClosed (n : Nat) (s : State) : exec (.fenceClosed n) s = execFenceClosed n s := rfl
@[simp] theorem exec_drainLimit (n : Nat) (s : State) : exec (.drainLimit n) s = execDrainLimit n s := rfl
@[simp] theorem exec_fenceProxy (p : Packet) (s : State) : exec (.fenceProxy p) s = execFenceProxy p s := rfl
@[simp] theorem exec_clearStats (n : Nat) (s : State) : exec (.clearStats n) s = execClear n s := rfl
@[simp] theorem exec_resyncReq (i : Nat) (s : State) : exec (.resyncReq i) s = execResyncReq i s := rfl
@[simp] theorem exec_resyncDone (i : Nat) (s : State) : exec (.resyncDone i) s = execResyncDone i s := rfl
@[simp] theorem exec_crossTimeout (i side : Nat) (aon : Bool) (s : State) : exec (.crossTimeout i side aon) s = execCrossTimeout i side aon s := rfl
@[simp] theorem exec_syncEdge (wait : Nat) (s : State) : exec (.syncEdge wait) s = execSyncEdge wait s := rfl
@[simp] theorem exec_arm (who : Who) (s : State) : exec (.arm who) s = execArm who s := rfl
@[simp] theorem exec_cmpFire (n : Nat) (s : State) : exec (.cmpFire n) s = execCmpFire n s := rfl
@[simp] theorem exec_timFire (n : Nat) (s : State) : exec (.timFire n) s = execTimFire n s := rfl
@[simp] theorem exec_swEvt (data : Word) (s : State) : exec (.swEvt data) s = execSwEvt data s := rfl
@[simp] theorem exec_startNow (who : Who) (s : State) : exec (.startNow who) s = execStartNow who s := rfl
@[simp] theorem exec_closeNow (who : Who) (s : State) : exec (.closeNow who) s = execCloseNow who s := rfl
@[simp] theorem exec_drained (p number : Nat) (s : State) : exec (.drained p number) s = execDrained p number s := rfl
@[simp] theorem exec_sinkNotice (p : Nat) (s : State) : exec (.sinkNotice p) s = execSink p s := rfl
@[simp] theorem exec_timeoutNotice (p : Nat) (s : State) : exec (.timeoutNotice p) s = execTimeout p s := rfl
@[simp] theorem exec_fwDrained (n : Nat) (s : State) : exec (.fwDrained n) s = execFwDrained n s := rfl
@[simp] theorem exec_receiverEvent (n : Nat) (xs : List (BitVec 3)) (wait : Nat) (s : State) : exec (.receiverEvent n xs wait) s = execReceiverEvent n xs wait s := rfl
@[simp] theorem exec_telegramReceived (n quiet : Nat) (gaps : List Nat) (wait : Nat) (s : State) : exec (.telegramReceived n quiet gaps wait) s = execTelegramReceived n quiet gaps wait s := rfl
@[simp] theorem exec_send (n : Nat) (s : State) : exec (.send n) s = execSend n s := rfl
@[simp] theorem exec_telegramStart (n : Nat) (s : State) : exec (.telegramStart n) s = execTelegramStart n s := rfl
@[simp] theorem exec_collision (n half : Nat) (s : State) : exec (.collision n half) s = execCollision n half s := rfl
@[simp] theorem exec_resend (n : Nat) (k : BitVec 4) (s : State) : exec (.resend n k) s = execResend n k s := rfl
@[simp] theorem exec_pulseEnd (n : Nat) (s : State) : exec (.pulseEnd n) s = execPulseEnd n s := rfl
@[simp] theorem exec_cutoff (n : Nat) (s : State) : exec (.cutoff n) s = execCutoff n s := rfl
@[simp] theorem exec_driveFault (n wait : Nat) (s : State) : exec (.driveFault n wait) s = execDriveFault n wait s := rfl
@[simp] theorem exec_foreignStuck (n : Nat) (s : State) : exec (.foreignStuck n) s = execForeignStuck n s := rfl
@[simp] theorem exec_streamStart (l wait : Nat) (before : BitVec 58) (ilasErr : Bool) (s : State) : exec (.streamStart l wait before ilasErr) s = execStreamStart l wait before ilasErr s := rfl
@[simp] theorem exec_chunkSend (l : Nat) (words : List LineWord) (errors : Nat) (s : State) : exec (.chunkSend l words errors) s = execChunkSend l words errors s := rfl
@[simp] theorem exec_multiblockRelease (l : Nat) (m : Multiblock) (arrival errors : Nat) (s : State) : exec (.multiblockRelease l m arrival errors) s = execMultiblockRelease l m arrival errors s := rfl
@[simp] theorem exec_underrun (l : Nat) (s : State) : exec (.underrun l) s = execUnderrun l s := rfl
@[simp] theorem exec_laneLoss (l : Nat) (s : State) : exec (.laneLoss l) s = execLoss l s := rfl
@[simp] theorem exec_pllLost (q : Nat) (s : State) : exec (.pllLost q) s = execPllLost q s := rfl
@[simp] theorem exec_eyeScan (l : Nat) (s : State) : exec (.eyeScan l) s = execEyeScan l s := rfl
@[simp] theorem exec_eyeScanDone (l errors : Nat) (s : State) : exec (.eyeScanDone l errors) s = execEyeScanDone l errors s := rfl
@[simp] theorem exec_hbmInitDone (failed : BitVec 8) (s : State) : exec (.hbmInitDone failed) s = execHbmInitDone failed s := rfl
@[simp] theorem exec_hbmTempRead (t : Nat) (s : State) : exec (.hbmTempRead t) s = execHbmTempRead t s := rfl
@[simp] theorem exec_patrolScrub (p : Nat) (m : WordFinding) (s : State) : exec (.patrolScrub p m) s = execPatrolScrub p m s := rfl
@[simp] theorem exec_ringEnable (who : Who) (r : Nat) (tagged freeze : Bool) (s : State) : exec (.ringEnable who r tagged freeze) s = execRingEnable who r tagged freeze s := rfl
@[simp] theorem exec_capture (r : Nat) (s : State) : exec (.capture r) s = execCapture r s := rfl
@[simp] theorem exec_rearm (r : Nat) (s : State) : exec (.rearm r) s = execRearm r s := rfl
@[simp] theorem exec_ringCaptured (r : Nat) (s : State) : exec (.ringCaptured r) s = execRingCaptured r s := rfl
@[simp] theorem exec_attachDrive (who : Who) (d : Nat) (s : State) : exec (.attachDrive who d) s = execAttach who d s := rfl
@[simp] theorem exec_attachDone (d : Nat) (x : AttachResult) (s : State) : exec (.attachDone d x) s = execAttachDone d x s := rfl
@[simp] theorem exec_detach (who : Who) (d : Nat) (s : State) : exec (.detach who d) s = execDetach who d s := rfl
@[simp] theorem exec_formatStore (who : Who) (s : State) : exec (.formatStore who) s = execFormat who s := rfl
@[simp] theorem exec_mountStore (who : Who) (s : State) : exec (.mountStore who) s = execMount who s := rfl
@[simp] theorem exec_unmount (who : Who) (s : State) : exec (.unmount who) s = execUnmount who s := rfl
@[simp] theorem exec_driveLinkUp (d : Nat) (s : State) : exec (.driveLinkUp d) s = execDriveLinkUp d s := rfl
@[simp] theorem exec_driveFail (d cause sc sct : Nat) (linkDown : Bool) (s : State) : exec (.driveFail d cause sc sct linkDown) s = execDriveFail d cause sc sct linkDown s := rfl
@[simp] theorem exec_cmdTimeout (d : Nat) (recovered : Bool) (s : State) : exec (.cmdTimeout d recovered) s = execCmdTimeout d recovered s := rfl
@[simp] theorem exec_chProd (c : Nat) (offset : Word) (record : Option (BitVec 16)) (s : State) : exec (.chProd c offset record) s = execChProd c offset record s := rfl
@[simp] theorem exec_chCons (c : Nat) (offset : Word) (s : State) : exec (.chCons c offset) s = execChCons c offset s := rfl
@[simp] theorem exec_stripeComplete (c : Nat) (s : State) : exec (.stripeComplete c) s = execStripeComplete c s := rfl
@[simp] theorem exec_catalogueCommit (c : Nat) (s : State) : exec (.catalogueCommit c) s = execCatalogueCommit c s := rfl
@[simp] theorem exec_barRequest (r : BarRequest) (s : State) : exec (.barRequest r) s = execBarRequest r s := rfl
@[simp] theorem exec_chTail (who : Who) (c : Nat) (data : Word) (s : State) : exec (.chTail who c data) s = execChTail who c data s := rfl
@[simp] theorem exec_descriptorFetch (c : Nat) (ds : List (BitVec 256)) (s : State) : exec (.descriptorFetch c ds) s = execDescriptorFetch c ds s := rfl
@[simp] theorem exec_descriptorComplete (c : Nat) (s : State) : exec (.descriptorComplete c) s = execDescriptorComplete c s := rfl
@[simp] theorem exec_holdoff (c : Nat) (s : State) : exec (.holdoff c) s = execHoldoff c s := rfl
@[simp] theorem exec_firmwareLoad (readError : Bool) (s : State) : exec (.firmwareLoad readError) s = execFirmwareLoad readError s := rfl
@[simp] theorem exec_apertureAccess (n x bytes rd : Nat) (store : Option Word) (s : State) : exec (.apertureAccess n x bytes rd store) s = execApertureAccess n x bytes rd store s := rfl
@[simp] theorem exec_farWindowAccess (n y bytes rd : Nat) (signed : Bool) (store : Option Word) (s : State) : exec (.farWindowAccess n y bytes rd signed store) s = execFarWindowAccess n y bytes rd signed store s := rfl
@[simp] theorem exec_coreFence (n : Nat) (memory : Bool) (s : State) : exec (.coreFence n memory) s = execFence n memory s := rfl
@[simp] theorem exec_icClaim (n : Nat) (s : State) : exec (.icClaim n) s = execIcClaim n s := rfl
@[simp] theorem exec_doorbell (mask : BitVec 4) (s : State) : exec (.doorbell mask) s = execDoorbell mask s := rfl
@[simp] theorem exec_seqEvt (n : Nat) (s : State) : exec (.seqEvt n) s = execSeqEvt n s := rfl
@[simp] theorem exec_kick (who : Who) (w : Nat) (data : Word) (s : State) : exec (.kick who w data) s = execKick who w data s := rfl
@[simp] theorem exec_warn (w : Nat) (s : State) : exec (.warn w) s = execWarn w s := rfl
@[simp] theorem exec_expired (w : Nat) (s : State) : exec (.expired w) s = execExpired w s := rfl
@[simp] theorem exec_powerEstimate (watts : Nat) (s : State) : exec (.powerEstimate watts) s = execPowerEstimate watts s := rfl
@[simp] theorem exec_padWrite (who : Who) (p : Nat) (data : Word) (s : State) : exec (.padWrite who p data) s = execPadWrite who p data s := rfl
@[simp] theorem exec_funcSwitchDone (p : Nat) (s : State) : exec (.funcSwitchDone p) s = execFuncSwitchDone p s := rfl
@[simp] theorem exec_gpioSet (i : Nat) (data : Word) (s : State) : exec (.gpioSet i data) s = execGpioSet i data s := rfl
@[simp] theorem exec_gpioClr (i : Nat) (data : Word) (s : State) : exec (.gpioClr i data) s = execGpioClr i data s := rfl
@[simp] theorem exec_extlDetect (n : Nat) (s : State) : exec (.extlDetect n) s = execExtlDetect n s := rfl
@[simp] theorem exec_transfer (who : Who) (u : Nat) (data : Word) (s : State) : exec (.transfer who u data) s = execTransfer who u data s := rfl
@[simp] theorem exec_transaction (who : Who) (data : Word) (s : State) : exec (.transaction who data) s = execTransaction who data s := rfl
@[simp] theorem exec_txdata (x : Periph) (data : Word) (s : State) : exec (.txdata x data) s = execTxdata x data s := rfl
@[simp] theorem exec_rxdata (x : Periph) (s : State) : exec (.rxdata x) s = execRxdata x s := rfl
@[simp] theorem exec_ptCompare (t : Nat) (s : State) : exec (.ptCompare t) s = execPtCompare t s := rfl
@[simp] theorem exec_ptCapture (t : Nat) (s : State) : exec (.ptCapture t) s = execPtCapture t s := rfl
@[simp] theorem exec_active (who : Who) (s : State) : exec (.active who) s = execActive who s := rfl
@[simp] theorem exec_fabricOff (who : Who) (s : State) : exec (.fabricOff who) s = execFabricOff who s := rfl
@[simp] theorem exec_standby (who : Who) (s : State) : exec (.standby who) s = execStandby who s := rfl
@[simp] theorem exec_dormant (who : Who) (s : State) : exec (.dormant who) s = execDormant who s := rfl
@[simp] theorem exec_regionCtrl (who : Who) (data : Word) (s : State) : exec (.regionCtrl who data) s = execRegionCtrl who data s := rfl
@[simp] theorem exec_quadCtrl (who : Who) (data : Word) (s : State) : exec (.quadCtrl who data) s = execQuadCtrl who data s := rfl
@[simp] theorem exec_regionOff (wait : Nat) (s : State) : exec (.regionOff wait) s = execRegionOff wait s := rfl
@[simp] theorem exec_fpdRestoreDone (wait : Nat) (results : List (Nat × SliceResult)) (same : Bool) (s : State) : exec (.fpdRestoreDone wait results same) s = execFpdRestoreDone wait results same s := rfl
@[simp] theorem exec_wake (cause : Nat) (s : State) : exec (.wake cause) s = execWake cause s := rfl
@[simp] theorem exec_brownoutRecovery (wait : Nat) (results : List (Nat × SliceResult)) (same : Bool) (s : State) : exec (.brownoutRecovery wait results same) s = execBrownoutRecovery wait results same s := rfl
@[simp] theorem exec_supplySample (fab sys : Nat) (s : State) : exec (.supplySample fab sys) s = execSupplySample fab sys s := rfl
@[simp] theorem exec_supplyFault (row bank : Nat) (s : State) : exec (.supplyFault row bank) s = execSupplyFault row bank s := rfl
@[simp] theorem exec_tempRead (t : Int) (sensor : Nat) (s : State) : exec (.tempRead t sensor) s = execTempRead t sensor s := rfl
@[simp] theorem exec_irUpdate (code : BitVec 8) (s : State) : exec (.irUpdate code) s = execIrUpdate code s := rfl
@[simp] theorem exec_dbgAccess (update : DWord) (s : State) : exec (.dbgAccess update) s = execDbgAccess update s := rfl
@[simp] theorem exec_goldProg (cmd : Word) (s : State) : exec (.goldProg cmd) s = execGoldProg cmd s := rfl
@[simp] theorem exec_lockDebug (who : Who) (s : State) : exec (.lockDebug who) s = execLock who s := rfl
@[simp] theorem exec_unlock (who : Who) (s : State) : exec (.unlock who) s = execUnlock who s := rfl
@[simp] theorem exec_haltCore (n : Nat) (by' : HaltBy) (s : State) : exec (.haltCore n by') s = execHalt n by' s := rfl
@[simp] theorem exec_resumeCore (who : Who) (n : Nat) (s : State) : exec (.resumeCore who n) s = execResume who n s := rfl
@[simp] theorem exec_singleStep (who : Who) (n : Nat) (x : CoreStep) (s : State) : exec (.singleStep who n x) s = execSingleStep who n x s := rfl
@[simp] theorem exec_coreRegData (who : Who) (n : Nat) (data : Option Word) (s : State) : exec (.coreRegData who n data) s = execCoreRegData who n data s := rfl
@[simp] theorem exec_coreMemData (who : Who) (n : Nat) (data : Option Word) (s : State) : exec (.coreMemData who n data) s = execCoreMemData who n data s := rfl
@[simp] theorem exec_memData (who : Who) (data : Option Word) (s : State) : exec (.memData who data) s = execMemData who data s := rfl
@[simp] theorem exec_comparatorMatch (n : Nat) (i : Insn) (s : State) : exec (.comparatorMatch n i) s = execComparatorMatch n i s := rfl
@[simp] theorem exec_crossTriggerFire (i : Nat) (s : State) : exec (.crossTriggerFire i) s = execCrossTriggerFire i s := rfl
@[simp] theorem exec_xtFire (who : Who) (data : Word) (s : State) : exec (.xtFire who data) s = execXtFire who data s := rfl
@[simp] theorem exec_xtClear (who : Who) (data : Word) (s : State) : exec (.xtClear who data) s = execXtClear who data s := rfl
@[simp] theorem exec_stim (p : Nat) (data : Word) (s : State) : exec (.stim p data) s = execStim p data s := rfl
@[simp] theorem exec_ledgerCommit (ok : Bool) (s : State) : exec (.ledgerCommit ok) s = execLedgerCommit ok s := rfl
@[simp] theorem exec_ledgerScanDone (torn : Nat) (s : State) : exec (.ledgerScanDone torn) s = execLedgerScanDone torn s := rfl
@[simp] theorem exec_rdSeq (data : Word) (s : State) : exec (.rdSeq data) s = execRdSeq data s := rfl
@[simp] theorem exec_rdData (w : Nat) (s : State) : exec (.rdData w) s = execRdData w s := rfl
@[simp] theorem exec_telegramSent (n : Nat) (s : State) : exec (.telegramSent n) s = execTelegramSent n s := rfl
@[simp] theorem exec_txStreamStart (l : Nat) (s : State) : exec (.txStreamStart l) s = execTxStreamStart l s := rfl
@[simp] theorem exec_hostLinkUp (speed width : Nat) (s : State) : exec (.hostLinkUp speed width) s = execHostLinkUp speed width s := rfl
@[simp] theorem exec_configurationRequest (tag : Nat) (x : HostConfig) (s : State) : exec (.configurationRequest tag x) s = execConfigurationRequest tag x s := rfl
@[simp] theorem exec_hostCompletion (tag : Nat) (x : HostAnswer) (s : State) : exec (.hostCompletion tag x) s = execHostCompletion tag x s := rfl
@[simp] theorem exec_completionTimeout (tag : Nat) (s : State) : exec (.completionTimeout tag) s = execCompletionTimeout tag s := rfl
@[simp] theorem exec_driveMemoryRequest (d : Nat) (write : Bool) (a len : Nat) (data : List Byte) (s : State) : exec (.driveMemoryRequest d write a len data) s = execDriveMemoryRequest d write a len data s := rfl
@[simp] theorem exec_mtimecmpReached (n : Nat) (s : State) : exec (.mtimecmpReached n) s = execMtimecmpReached n s := rfl
@[simp] theorem exec_coreLocalAccess (n : Nat) (a : Word) (x : LocalAccess) (found : EccFinding) (s : State) : exec (.coreLocalAccess n a x found) s = execCoreLocalAccess n a x found s := rfl
@[simp] theorem exec_quadPllLock (q : Nat) (s : State) : exec (.quadPllLock q) s = execQuadPllLock q s := rfl
@[simp] theorem exec_supplyInRange (row bank level : Nat) (s : State) : exec (.supplyInRange row bank level) s = execSupplyInRange row bank level s := rfl
@[simp] theorem exec_rxByte (u : Nat) (bits : List Bool) (s : State) : exec (.rxByte u bits) s = execRxByte u bits s := rfl
@[simp] theorem exec_addressed (u addr : Nat) (x : TargetUse) (s : State) : exec (.addressed u addr x) s = execAddressed u addr x s := rfl
@[simp] theorem exec_peripheralDone (x : PeriphEnd) (s : State) : exec (.peripheralDone x) s = execPeripheralDone x s := rfl
@[simp] theorem exec_perst (s : State) : exec .perst s = execPerst s := rfl
@[simp] theorem exec_linkDown (s : State) : exec .linkDown s = execLinkDown s := rfl
@[simp] theorem exec_d3hot (s : State) : exec .d3hot s = execD3hot s := rfl
@[simp] theorem exec_scrubOn (s : State) : exec .scrubOn s = execScrubOn s := rfl
@[simp] theorem exec_scrubOff (s : State) : exec .scrubOff s = execScrubOff s := rfl
@[simp] theorem exec_sourceTimeout (s : State) : exec .sourceTimeout s = execSourceTimeout s := rfl
@[simp] theorem exec_hostDeadline (s : State) : exec .hostDeadline s = execHostDeadline s := rfl
@[simp] theorem exec_readbackDone (s : State) : exec .readbackDone s = execReadbackDone s := rfl
@[simp] theorem exec_thawTick (s : State) : exec .thawTick s = execThawTick s := rfl
@[simp] theorem exec_pauseLimit (s : State) : exec .pauseLimit s = execPauseLimit s := rfl
@[simp] theorem exec_beamEventAct (s : State) : exec .beamEventAct s = execBeamEventAct s := rfl
@[simp] theorem exec_refLost (s : State) : exec .refLost s = execRefLost s := rfl
@[simp] theorem exec_refReturn (s : State) : exec .refReturn s = execRefReturn s := rfl
@[simp] theorem exec_dllLost (s : State) : exec .dllLost s = execDllLost s := rfl
@[simp] theorem exec_dllRelock (s : State) : exec .dllRelock s = execDllRelock s := rfl
@[simp] theorem exec_automaticClose (s : State) : exec .automaticClose s = execAutomaticClose s := rfl
@[simp] theorem exec_drainTimeout (s : State) : exec .drainTimeout s = execDrainTimeout s := rfl
@[simp] theorem exec_deferredWorkDone (s : State) : exec .deferredWorkDone s = execDeferredWorkDone s := rfl
@[simp] theorem exec_maintLimit (s : State) : exec .maintLimit s = execMaintLimit s := rfl
@[simp] theorem exec_takeTally (s : State) : exec .takeTally s = execTake s := rfl
@[simp] theorem exec_brownout (s : State) : exec .brownout s = execBrownout s := rfl
@[simp] theorem exec_eraseDone (s : State) : exec .eraseDone s = execEraseDone s := rfl
@[simp] theorem exec_stimStallExpire (s : State) : exec .stimStallExpire s = execStimStallExpire s := rfl
@[simp] theorem exec_timeBaseLock (s : State) : exec .timeBaseLock s = execTimeBaseLock s := rfl
@[simp] theorem exec_storeCommandDone (s : State) : exec .storeCommandDone s = execStoreCommandDone s := rfl
@[simp] theorem exec_capTimeReached (s : State) : exec .capTimeReached s = execCapTimeReached s := rfl
@[simp] theorem exec_alertSeen (s : State) : exec .alertSeen s = execAlertSeen s := rfl
@[simp] theorem exec_testLogicReset (s : State) : exec .testLogicReset s = execTestLogicReset s := rfl

end Sys2Proof.Machine
end

