-- ==== Sys2Proof/Tests/Slice0.lean ====
section
/-! SUPPORT. Small tests on values taken from the spec's worked examples, ill-formed commands that wellFormed refuses, and for
every statement a state and operands that meet its hypotheses, clause by clause (a statement that joins several subjects has
one witness theorem for each). -/

namespace Sys2Proof.Tests

open Sys2Proof Sys2Proof.Machine

set_option maxRecDepth 20000
set_option Elab.async false

/-- The state after PORST_N rises, before the ledger is scanned. -/
def up : State := { State.reset with dev := { State.reset.dev with porst := false } }
/-- The same with the ledger ready. -/
def upL : State := { up with ledger := { up.ledger with ready := true } }

-- ------------------------------------------------------------------ values of the spec's worked examples

/-- The CRC of telegram 0x12C0 is 0x6 (spec/13, announcing a record close). -/
theorem test_telegram_crc : crc4 0x12C0 = 6 := by decide +kernel
/-- That telegram takes 16 tokens (the same example). -/
theorem test_telegram_tokens : telegramTokens 0x12C0 = 16 := by decide +kernel
/-- CRC-32C of the bytes 123456789 is 0xE3069283, the polynomial's published check value (R130). -/
theorem test_crc32c : crcOfBytes [0x31, 0x32, 0x33, 0x34, 0x35, 0x36, 0x37, 0x38, 0x39] = 0xE3069283 := by decide +kernel
/-- SHA-256 of the bytes abcd begins 88 D4 26 6F D4 E6 33 8D, byte 0 in the low bits (R130). -/
theorem test_sha256 : shaDigest (shaWord shaStart 0x64636261) = 0x8D33E6D46F26D488 := by decide +kernel

/-- The queue of the flush example just before the consumer takes P1's LAST word: the words of P1's end, P2 and P3. -/
def flushQueue : State :=
  let s := (up.setF F.DEV_STATUS_USER_MODE 0 1).setWord .PWR_REGION_STATUS 0 0x7FF
  let s := (s.setF F.QUEUE_CONFIG_MEMS 2 2).setF F.QUEUE_CONFIG_WIDTH 2 7
  let s := (s.setF F.QUEUE_CONFIG_MODE 2 1).setF F.QUEUE_STATUS_STATE 2 1
  s.setQueue 2 { queueInit with
    rd := 139, cm := 332, wr := 352, midPacket := true, flushPending := true,
    lasts := [true] ++ List.replicate 63 false ++ [true] ++ List.replicate 127 false ++ [true] }

/-- The flush takes effect as the consumer takes P1's LAST word: RD_PTR goes to 332, and 2 packets of 192 words are counted
(spec/05, a flush with packets in three states, step 3). -/
theorem test_flush_waits_for_packet : ∃ t, exec (.consumerWord 2 .clean) flushQueue = .next t ∧
    (t.queue 2).rd = 332 ∧ (t.queue 2).ceFlushed = true ∧ t.f F.QUEUE_FLUSH_CNT_FLUSHES 2 = 1 ∧
    t.f F.QUEUE_FLUSH_CNT_PACKETS 2 = 2 ∧ t.f F.QUEUE_REC_DISCARD_WORDS 2 = 192 := ⟨_, rfl, by decide +kernel⟩

/-- A compare unit with ADVANCE at VAL 100. -/
def compareAt : State :=
  (((up.setF F.TIME_CMP_VAL_LO_VAL 3 100).setF F.TIME_CMP_CTRL_EN 3 1).setF F.TIME_CMP_CTRL_ADVANCE 3 1).putTime 40

/-- With ADVANCE = 1 it enters its event at VAL - 9, so that the event acts at VAL (R274). -/
theorem test_compare_advance : ∃ t, exec (.cmpFire 3) compareAt = .next t ∧ t.time = 91 ∧
    t.f F.TIME_CMP_CTRL_EN 3 = 0 := ⟨_, rfl, by decide +kernel⟩

/-- PORST_N low holds the part: nothing acts. -/
theorem test_reset_holds : exec (.swEvt 1) State.reset = .next State.reset := rfl

-- ------------------------------------------------------------------ ill-formed commands

def me : Who := ⟨0x10, 0x90⟩

/-- A packet whose fields fit. -/
def packet : Packet :=
  { cmd := .wr, src := 3, dest := 5, tag := 7, record := 0, err := 0, attr := 0, addr := 0x1000, len := 3, beFirst := 15,
    beLast := 15, operand := 0, injTime := 0, route := 0, vn := 0, prio := 0, data := [1, 2, 3, 4], poison := false }

/-- The word at a memory reads clean. -/
def finding : WordFinding := ⟨0, .clean, true⟩

/-- A request that user logic may inject. -/
def request : Request :=
  { cmd := .rd, addr := 0, len := 63, be := [], operand := 0, data := [], dbg := false, mgmt := false, urgent := false, tag := 0,
    use := .fabric 0 }

/-- Commands that name nothing: a function, held work of a queue, an NI, a quad, a DMA channel, a store channel and a core that
do not exist, a block code, and CSR offsets outside the space and between dwords. -/
theorem smoke_functions : ∀ i ∈ [Instr.flr 2, .heldWorkFinished (.queue 2048), .heldWorkFinished (.ni 0x92),
    .heldWorkFinished (.quad 32), .heldWorkFinished (.dma 32), .heldWorkFinished (.channel 8), .heldWorkFinished (.core 4),
    .functionReset me 32 0, .functionReset me 0 2048, .registerWrite me 0x10000000 0, .registerWrite me 2 0],
    wellFormed i = false := by decide +kernel

/-- Units of the fabric that do not exist: a rod, a row, a cell, an arbiter, a reckoner, a request, a station, a pin, an FTO,
a block memory, its port, a channel of an NI, a queue, a span, a repair group. -/
theorem smoke_fabric : ∀ i ∈ [Instr.beadAccept (.cell ⟨256, 0, 0⟩) [], .beadAccept (.cell ⟨0, 96, 0⟩) [],
    .beadAccept (.cell ⟨0, 0, 128⟩) [], .beadAccept (.request 0 0 0 2) [], .beadAccept (.reckoner 0 0 5) [],
    .beadAccept (.niChannel 3 2) [], .beadAccept (.niChannel 96 0) [], .beadConsumed (.niChannel 3 4), .beadConsumed (.fti 16),
    .arbitrationGrant 0 0 4 true [], .arbitrationGrant 0 96 0 true [], .reckonerOperation 0 24 [], .pinOutputBead 192 [],
    .pinInputChange 208 true 0, .ftoBead 16 [], .readRow 0 32 0 [] .clean, .readRow 0 0 2 [] .clean, .readRow 256 0 0 [] .clean,
    .nopPort 0 0 2 [], .rowScrub 0 32 .clean, .flush 2048, .spanLoad me 16, .step me 16], wellFormed i = false := by decide +kernel

/-- NIs, stations, pages, ports, tags and packets that do not exist or do not fit: reserved NI numbers, a page's port 15, a
virtual network 4, a tag of 13 bits, a range past its 4 KiB block, data shorter than the range. -/
theorem smoke_network : ∀ i ∈ [Instr.requestInject 0x92 request, .requestInject 0x9D request,
    .requestInject 3 { request with addr := 2 ^ 48 }, .requestInject 3 { request with len := 4096 },
    .requestInject 3 { request with tag := 4096 }, .unitReceive 0 15 [], .unitReceive 256 0 [],
    .wr { packet with data := [1] } finding, .wr { packet with addr := 0x1FFE } finding, .rd { packet with tag := 4096 } finding,
    .rd { packet with vn := 4 } finding, .rd { packet with prio := 4 } finding, .rd { packet with err := 256 } finding,
    .rd { packet with dest := 0x93 } finding, .cfg 256 { packet with cmd := .cfg }, .cfg 0 { packet with cmd := .cfg, len := 7 },
    .evt { packet with vn := 4 }, .transactionTimeout 3 4096, .targetTimeout 3 256, .regulatorRelease 3 4 0, .uRelease 0x92 0,
    .hold me 256, .uGateOpen 0 0x93, .resyncReq 0x92, .crossTimeout 0xA0 4 false], wellFormed i = false := by decide +kernel

/-- Time, lines, lanes and memories: compare unit 8, participant 43, line 19, lane 128, quad 32, pseudo channel 16, ring 16,
drive 8, a store channel 8. -/
theorem smoke_engines : ∀ i ∈ [Instr.cmpFire 8, .timFire 8, .drained 43 0, .send 19, .streamStart 128 0 0 false, .pllLost 32,
    .patrolScrub 16 finding, .capture 16, .attachDrive me 8, .chProd 8 0 none], wellFormed i = false := by decide +kernel

/-- Host, cores, pins and debug: a tag of 11 bits, a write with too little data, DMA channel 32, core 4, register x32, a fifth
kick register, GPIO port 13, EXTL line 16, serial unit 4, pin timer 8, cross-trigger channel 8, stimulus port 32, ledger word
8, a supply row 16, a target address of 8 bits, a wake cause 32, a drive's write with too little data. -/
theorem smoke_outside : ∀ i ∈ [Instr.barRequest ⟨1024, .csr, 0, 3, .read⟩, .barRequest ⟨0, .hbm, 0, 3, .write [0] [true]⟩,
    .chTail me 32 0, .coreFence 4 true, .farWindowAccess 0 0 4 32 false none, .kick me 5 0, .gpioSet 13 0, .extlDetect 16,
    .transfer me 4 0, .ptCompare 8, .haltCore 4 (.request me), .crossTriggerFire 8, .stim 32 0, .rdData 8, .completionTimeout 768,
    .supplyFault 16 0, .rxByte 4 [], .addressed 0 128 (.read 1), .wake 32, .driveMemoryRequest 0 true 0 3 [1]],
    wellFormed i = false := by decide +kernel

/-- Commands of units that exist are well-formed. -/
theorem smoke_accepted : ∀ i ∈ [Instr.flr 1, .registerWrite me 0xFFFFFFC 0, .wr packet finding,
    .requestInject 3 request, .resyncReq 0xA1, .cmpFire 7, .timFire 7, .gpioSet 12 0, .readRow 255 31 1 [] .clean],
    wellFormed i = true := by decide +kernel

-- ------------------------------------------------------------------ witnesses

namespace W01


/-- The hypotheses of TimeBase can be met. -/
theorem witness_TimeBase :
    (∃ (s : State), s.ready = true) ∧
    (∃ (s : State), s.ready = true ∧ s.f F.RECORD_STATUS_STATE 0 = 0 ∧ s.f F.CFG_CAP_STATUS_STATE 0 = 0) ∧
    (∃ (s : State), s.ready = true ∧ (s.f F.RECORD_STATUS_STATE 0 ≠ 0 ∨ s.f F.CFG_CAP_STATUS_STATE 0 ≠ 0)) ∧
    (∃ (s : State), s.ready = true ∧ s.f F.TIME_STATUS_SYNC_ARMED 0 = 1) ∧
    (∃ (s : State), s.ready = true ∧ s.f F.TIME_STATUS_SYNC_ARMED 0 = 0) :=
  ⟨⟨up, by decide +kernel⟩,
    ⟨up, by decide +kernel⟩,
    ⟨up.setF F.RECORD_STATUS_STATE 0 1, by decide +kernel⟩,
    ⟨up.setF F.TIME_STATUS_SYNC_ARMED 0 1, by decide +kernel⟩,
    ⟨up, by decide +kernel⟩⟩

/-- The hypotheses of BeamSources can be met. -/
theorem witness_BeamSources :
    (∃ (s : State) (n : Nat), s.ready = true ∧ n < 8 ∧ s.f F.TIME_CMP_CTRL_EN n = 1 ∧ s.f F.TIME_CMP_PERIOD_TICKS n = 0) ∧
    (∃ (s : State) (n : Nat), s.ready = true ∧ n < 8 ∧ s.f F.TIME_CMP_CTRL_EN n = 1 ∧ s.f F.TIME_CMP_PERIOD_TICKS n ≠ 0) ∧
    (∃ (s : State) (n : Nat), s.ready = true ∧ n < 8 ∧ s.f F.TIME_TIM_CTRL_EN n = 1 ∧ s.f F.TIME_TIM_PHASE_TICKS n < s.f F.TIME_TIM_PERIOD_TICKS n) ∧
    (∃ (s : State), s.ready = true) :=
  ⟨⟨(up.setF F.TIME_CMP_CTRL_EN 2 1).setWord .TIME_CMP_VAL_LO 2 100, 2, by decide +kernel⟩,
    ⟨((up.setF F.TIME_CMP_CTRL_EN 2 1).setWord .TIME_CMP_VAL_LO 2 100).setF F.TIME_CMP_PERIOD_TICKS 2 30, 2, by decide +kernel⟩,
    ⟨(up.setF F.TIME_TIM_CTRL_EN 2 1).setF F.TIME_TIM_PERIOD_TICKS 2 100, 2, by decide +kernel⟩,
    ⟨up, by decide +kernel⟩⟩

end W01

namespace W02

def ph (n : Nat) : State := up.setF F.RECORD_STATUS_PHASE 0 n
def part (s : State) (ps : List Nat) : State := ps.foldl (fun s p => s.setPair .RECORD_PART_EN_LO .RECORD_PART_EN_HI 0 (s.partEn ||| 2^p)) s
def rng : State := ((((part (ph 4) [18,19,20,32]).setF F.HBM_RING_CTRL_EN 3 1).setF F.HBM_RING_CTRL_TAGGED 3 1).setRingPc 3 2 { ((ph 4).ringPc 3 2) with owes := true }).putRecord { State.reset.record with told := [18, 19, 20] }
def grp : State := ((((ph 5).setF F.QUEUE_CONFIG_REC_DOMAIN 5 1).setF F.QUEUE_CONFIG_MEMS 5 3).setQueue 5 { ((ph 5).queue 5) with closing := true, wr := 3, cm := 2, lasts := [true,false] }).putRecord { State.reset.record with told := [0, 1] }

/-- The hypotheses of RecordsAndTally can be met. -/
theorem witness_RecordsAndTally :
    (∃ (s : State), s.ready = true ∧ s.f F.RECORD_STATUS_PHASE 0 = 1) ∧
    (∃ (s : State), s.ready = true ∧ (s.f F.RECORD_STATUS_PHASE 0 = 0 ∨ s.f F.RECORD_STATUS_PHASE 0 = 2)) ∧
    (∃ (s : State), s.ready = true ∧ s.f F.RECORD_STATUS_PHASE 0 = 2) ∧
    (∃ (s : State), s.ready = true ∧ s.f F.RECORD_STATUS_PHASE 0 ≠ 2) ∧
    (∃ (s : State), s.ready = true) ∧
    (∃ (s : State) (e : DWord), s.ready = true ∧ s.beam.flight = [⟨.direct 35, e⟩] ∧ s.time.toNat < (e + 9).toNat ∧ s.tally.last = none) ∧
    (∃ (s : State) (e : DWord) (l : DWord), s.ready = true ∧ s.beam.flight = [⟨.direct 35, e⟩] ∧ s.time.toNat < (e + 9).toNat ∧ s.tally.last = some l ∧ l.toNat < (e + 9).toNat ∧ (e + 9).toNat < l.toNat + 64) :=
  ⟨⟨ph 1, by decide +kernel⟩,
    ⟨up.putBeam ⟨[⟨.direct 35, 100⟩]⟩, by decide +kernel⟩,
    ⟨ph 2, by decide +kernel⟩,
    ⟨up.putBeam ⟨[⟨.direct 35, 100⟩]⟩, by decide +kernel⟩,
    ⟨up.putBeam ⟨[⟨.direct 35, 100⟩]⟩, by decide +kernel⟩,
    ⟨up.putBeam ⟨[⟨.direct 35, 100⟩]⟩, 0x0000000000000064#64, by decide +kernel⟩,
    ⟨(up.putBeam ⟨[⟨.direct 35, 100⟩]⟩).putTally ⟨[],[],some 80⟩, 0x0000000000000064#64, 0x0000000000000050#64, by decide +kernel⟩⟩

/-- The hypotheses of RecordDrain can be met. -/
theorem witness_RecordDrain :
    (∃ (s : State) (p : Nat) (q : Nat), s.ready = true ∧ s.f F.RECORD_STATUS_PHASE 0 = 3 ∧ p ∈ phaseA ∧ s.enabled p = true ∧ s.reported p = false ∧ s.partDrained p = true ∧ q ∈ phaseA ∧ q ≠ p ∧ s.enabled q = true ∧ s.reported q = false) ∧
    (∃ (s : State) (n : Nat), s.ready = true ∧ (s.f F.RECORD_STATUS_PHASE 0 < 3 ∨ s.f F.RECORD_STATUS_PHASE 0 = 5 ∨ n ≠ s.f F.RECORD_NUMBER_CURRENT 0)) ∧
    (∃ (s : State) (n : Nat) (q : Nat), s.ready = true ∧ n < 4 ∧ s.f F.RECORD_STATUS_PHASE 0 = 3 ∧ s.f F.RECORD_FW_DRAINED_CORE 0 / 2 ^ n % 2 = 0 ∧ s.enabled (38 + n) = true ∧ s.reported (38 + n) = false ∧ q ∈ phaseA ∧ q ≠ 38 + n ∧ s.enabled q = true ∧ s.reported q = false) ∧
    (∃ (s : State) (n : Nat), s.ready = true ∧ s.f F.RECORD_STATUS_PHASE 0 = 2 ∧ s.pair .RECORD_LEN_LO .RECORD_LEN_HI 0 % 2 ^ 48 ≠ 0 ∧ s.now.toNat ≤ s.pair .RECORD_START_AT_LO .RECORD_START_AT_HI 0 + s.pair .RECORD_LEN_LO .RECORD_LEN_HI 0 % 2 ^ 48 ∧ s.pair .RECORD_START_AT_LO .RECORD_START_AT_HI 0 + s.pair .RECORD_LEN_LO .RECORD_LEN_HI 0 % 2 ^ 48 < 2 ^ 64 ∧ s.recordMembers 0 0x9D = [] ∧ s.recordQueues = [] ∧ s.ringsTagged false = [] ∧ s.recChannels = [] ∧ s.f F.TALLY_CTRL_ON_CLOSE 0 = 0 ∧ s.captured = false ∧ s.repair.step = none ∧ n < 4 ∧ s.enabled (38 + n) = true ∧ s.niPowered (0x94 + n) = true) ∧
    (∃ (s : State), s.ready = true ∧ (s.f F.RECORD_STATUS_PHASE 0 = 3 ∨ s.f F.RECORD_STATUS_PHASE 0 = 4) ∧ s.record.heldSince = none ∧ s.recordQueues = [] ∧ (∀ p, p < 43 → (partNi p).isSome = true → s.enabled p = true → s.reported p = true) ∧ s.repair.step = none ∧ s.repair.deferred = [] ∧ s.repair.forced = [] ∧ s.repair.begun = [] ∧ s.f F.RECORD_CTRL_RUN 0 = 1 ∧ s.f F.RECORD_STATUS_STATE 0 = 1 ∧ s.f F.RECORD_CTRL_AUTO_START 0 = 0 ∧ s.record.latched = false) ∧
    (∃ (s : State), s.ready = true ∧ s.f F.RECORD_STATUS_PHASE 0 = 5 ∧ s.repair.step = none ∧ s.repair.deferred = [] ∧ s.repair.forced = [] ∧ s.repair.begun = [] ∧ s.f F.RECORD_CTRL_RUN 0 = 1 ∧ s.f F.RECORD_STATUS_STATE 0 = 1 ∧ s.f F.RECORD_CTRL_AUTO_START 0 = 0 ∧ s.record.latched = false) ∧
    (∃ (s : State), s.ready = true ∧ s.f F.RECORD_STATUS_PHASE 0 = 5 ∧ s.record.moved = false ∧ s.deferredBegun = true) :=
  ⟨⟨ph 3, 42, 1, by decide +kernel⟩,
    ⟨up.putBeam ⟨[⟨.direct 35, 100⟩]⟩, 39, by decide +kernel⟩,
    ⟨ph 3, 1, 42, by decide +kernel⟩,
    ⟨((((up.setF F.RECORD_STATUS_PHASE 0 2).setPair .RECORD_PART_EN_LO .RECORD_PART_EN_HI 0 (2 ^ 38)).setPair .RECORD_LEN_LO .RECORD_LEN_HI 0 500).setF F.TALLY_CTRL_ON_CLOSE 0 0).setWord .PWR_REGION_STATUS 0 0xFFF, 0, by decide +kernel⟩,
    ⟨(((up.setF F.RECORD_STATUS_PHASE 0 3).setPair .RECORD_PART_EN_LO .RECORD_PART_EN_HI 0 0).setF F.RECORD_CTRL_RUN 0 1).setF F.RECORD_STATUS_STATE 0 1, by decide +kernel⟩,
    ⟨((ph 5).setF F.RECORD_CTRL_RUN 0 1).setF F.RECORD_STATUS_STATE 0 1, by decide +kernel⟩,
    ⟨(ph 5).putRepair { State.reset.repair with step := some ⟨0,false,1,2,3,none,false⟩, deferred := [3] }, by decide +kernel⟩⟩

/-- The hypotheses of NoticesLand can be met. -/
theorem witness_NoticesLand :
    (∃ (s : State) (q : Nat), s.ready = true ∧ (s.ni 0x98).arrived = [] ∧ s.f F.RECORD_STATUS_PHASE 0 = 4 ∧ s.enabled 32 = true ∧ s.record.sunk.contains 32 = false ∧ s.recChannels = [] ∧ s.reported 32 = false ∧ q ∈ phaseB ∧ q ≠ 32 ∧ s.enabled q = true ∧ s.reported q = false) ∧
    (∃ (s : State) (p : Nat), s.ready = true ∧ (s.ni (0x50 + p)).arrived = [] ∧ 16 ≤ p ∧ p < 32 ∧ s.f F.RECORD_STATUS_PHASE 0 = 4 ∧ s.enabled p = true ∧ s.record.sunk.contains p = false) ∧
    (∃ (s : State) (p : Nat), s.ready = true ∧ (∀ n, partNi p = some n → (s.ni n).arrived = []) ∧ s.record.told.contains p = true ∧ (p < 16 → ∀ q, q ∈ s.groupQueues p → (s.queue q).closing = false ∧ (s.queue q).closeDue = false) ∧ (16 ≤ p → p < 32 → ∀ r, r ∈ s.ringsTagged true → (s.ringPc r (p - 16)).owes = false) ∧ (p = 32 → s.recChannels = [])) ∧
    (∃ (s : State) (p : Nat) (q : Nat), s.ready = true ∧ s.record.told.contains p = true ∧ p < 16 ∧ q ∈ s.groupQueues p ∧ (s.queue q).closing = true) ∧
    (∃ (s : State) (p : Nat) (r : Nat), s.ready = true ∧ (s.ni (0x50 + p)).arrived = [] ∧ s.record.told.contains p = true ∧ 16 ≤ p ∧ p < 32 ∧ r ∈ s.ringsTagged true ∧ (s.ringPc r (p - 16)).owes = true) :=
  ⟨⟨ph 4, 21, by decide +kernel⟩,
    ⟨ph 4, 21, by decide +kernel⟩,
    ⟨(ph 4).putRecord { up.record with told := [33, 40, 2, 18, 5, 20, 32] }, 5, by decide +kernel⟩,
    ⟨grp, 0, 5, by decide +kernel⟩,
    ⟨rng, 18, 3, by decide +kernel⟩⟩

end W02

namespace W03

def por0 : State := State.reset
def ni (c st : Nat) (o : List Txn) : State := ((up.setF F.NI_CTRL_RUN 3 c).setF F.NI_STATUS_STATE 3 st).setNi 3 { up.ni 3 with outstanding := o }
def on (s : State) : State := s.setWord .PWR_REGION_STATUS 0 0xFFF
def tx : Txn := ⟨1, 2, .rd, 0, 8, .none, 0, 0, none⟩

/-- The hypotheses of Resets can be met. -/
theorem witness_Resets :
    (∃ (s : State), s.dev.porst = true ∧ s.calm = true ∧ s.dbg.erasing = false) ∧
    (∃ (s : State), s.ready = true ∧ s.dmaIdleAll = true ∧ s.dbg.erasing = false) ∧
    (∃ (s : State), s.ready = true ∧ s.dmaIdleAll = true ∧ s.dbg.erasing = false ∧ s.f F.DEV_CTRL_PERST_SYS 0 = 1) ∧
    (∃ (s : State) (d : Dog) (a : DWord), s.ready = true ∧ s.dmaIdleAll = true ∧ s.dbg.erasing = false ∧ s.dog 4 = some d ∧ d.since = some a) ∧
    (∃ (s : State), s.ready = true ∧ s.dmaIdleAll = true ∧ s.dbg.erasing = false ∧ s.dbg.locked = true) ∧
    (∃ (s : State) (cause : Nat), s.ready = true ∧ s.dmaIdleAll = true ∧ s.wakeEnabled cause = true ∧ s.power.hot = false ∧ s.f F.PWR_STATE_STATUS_STATE 0 = 3) :=
  ⟨⟨por0, by decide +kernel⟩,
    ⟨upL, by decide +kernel⟩,
    ⟨up.setF F.DEV_CTRL_PERST_SYS 0 1, by decide +kernel⟩,
    ⟨up.setDog 4 ⟨100, some 0, 0, false⟩, { held := 100, since := some 0x0000000000000000#64, reason := 0, warned := false }, 0x0000000000000000#64, by decide +kernel⟩,
    ⟨up.putDbg { up.dbg with locked := true }, by decide +kernel⟩,
    ⟨(upL.setWord .PWR_WAKE_EN 0 0x30000).setF F.PWR_STATE_STATUS_STATE 0 3, 17, by decide +kernel⟩⟩

/-- The hypotheses of Functions can be met. -/
theorem witness_Functions :
    (∃ (s : State) (c : Nat), s.ready = true ∧ c < 32 ∧ s.f F.HOST_CH_STATUS_STATE c = 0 ∧ s.fence 0x90 = 0 ∧ s.station 0x90 = 0 ∧ s.ni 0x90 = niInit) ∧
    (∃ (s : State) (i : Nat), s.ready = true ∧ i < 2048) ∧
    (∃ (s : State) (n : Nat), s.ready = true ∧ s.funcReached (.ni n) = true ∧ s.f F.NI_CTRL_RUN n = 0 ∧ s.f F.NI_STATUS_STATE n = 0) ∧
    (∃ (s : State) (n : Nat), s.ready = true ∧ s.funcReached (.ni n) = true ∧ s.f F.NI_CTRL_RUN n = 1 ∧ s.f F.NI_STATUS_STATE n = 1 ∧ (s.ni n).outstanding = []) ∧
    (∃ (s : State) (n : Nat), s.ready = true ∧ s.funcReached (.ni n) = true ∧ s.f F.NI_CTRL_RUN n = 1 ∧ s.f F.NI_STATUS_STATE n = 1 ∧ (s.ni n).outstanding ≠ [] ∧ s.f F.NI_CTRL_STOP_TIMEOUT n ≠ 0) ∧
    (∃ (s : State) (n : Nat), s.ready = true ∧ niPresent s.part n = true ∧ s.f F.NI_CTRL_RUN n = 0 ∧ s.f F.NI_STATUS_STATE n = 2 ∧ (s.ni n).outstanding = []) ∧
    (∃ (s : State), s.ready = true ∧ (s.dev.stopping.find? (·.1 == .beam)).isSome = true ∧ s.f F.BEAM_STATUS_STATE 0 = 2 ∧ s.f F.BEAM_CTRL_RUN 0 = 0) :=
  ⟨⟨(upL.setF F.NI_FENCE_STATUS_STATE 0x90 0).setF F.DEV_XS_STATE_STATE 0x90 0, 4, by decide +kernel⟩,
    ⟨upL, 1, by decide +kernel⟩,
    ⟨on (ni 0 0 []), 3, by decide +kernel⟩,
    ⟨on (ni 1 1 []), 0, by decide +kernel⟩,
    ⟨on ((ni 1 1 [tx]).setF F.NI_CTRL_STOP_TIMEOUT 3 1), 3, by decide +kernel⟩,
    ⟨on (ni 0 2 []), 3, by decide +kernel⟩,
    ⟨((up.setF F.BEAM_STATUS_STATE 0 2).setF F.BEAM_CTRL_RUN 0 0).putDev { up.dev with stopping := [(.beam, 10)] }, by decide +kernel⟩⟩

/-- The hypotheses of RegisterWrites can be met. -/
theorem witness_RegisterWrites :
    (∃ (s : State), s.ready = true ∧ s.csrBlocked (csrOffset .DEV_EVT_FAB_MASK 0) = none) ∧
    (∃ (s : State), s.ready = true ∧ s.csrBlocked (csrOffset .DEV_STATUS 0) = none) ∧
    (∃ (s : State) (off : Nat), s.ready = true ∧ 0x380000 ≤ off ∧ off < 0x400000 ∧ s.csrBlocked off = none) ∧
    (∃ (s : State), s.ready = true) :=
  ⟨⟨upL, by decide +kernel⟩,
    ⟨upL, by decide +kernel⟩,
    ⟨up.putBeam ⟨[⟨.source 3, 5⟩, ⟨.direct 36, 5⟩]⟩, 3670016, by decide +kernel⟩,
    ⟨upL, by decide +kernel⟩⟩

end W03

namespace W04

def um (s : State) : State := ((s.setF F.DEV_STATUS_USER_MODE 0 1).setWord .PWR_REGION_STATUS 0 0x7FF)
def cst (v : Nat) : Nat := (List.range 64).foldl (fun a i => a + v * 4 ^ i) 0
def cell (s : State) (rod row c r : Nat) : State := s.setRodBits rod (5*row) (160*c) 160 r
def tile (s : State) (rod row lo v : Nat) : State := s.setRodBits rod 480 (6784*row+lo) 8 v
/- per row: cell 0..3 constants 0..3 ; cell 4 holding stage from constant 1 (port A from code 2), cell 5 holding from cell 4 -/
def rowc (s : State) (row : Nat) : State :=
  let s := (List.range 4).foldl (fun s v => cell s 0 row v (cst v)) s
  let s := cell s 0 row 4 (cst 1 + 2^128 + 2^140)
  let s := tile s 0 row (portAt 4 0) 2
  let s := cell s 0 row 5 (cst 2 + 2^128 + 2^140)
  let s := tile s 0 row (portAt 5 0) 5
  let s := tile (tile s 0 row (requestAt 0 0) 2) 0 row (requestAt 0 1) 5
  (List.range 80).foldl (fun s i => tile s 0 row (slotAt i) 2) s
def slotv (s : State) (b : BeadSink) (d v : Nat) : State := let (r, w, i) := s.sinkSlot b d; tile s r w (slotAt i) (v+1)
def base0 := (List.range 4).foldl rowc (um up)
def memrec (s : State) : State := ((s.setFrame 0 928 (BitVec.ofNat 4096 (7 + 2^6 + 2^8 + 2^32*(4 + 8*7+2^8) + 2^64 * 2))).setFrame 0 929 (BitVec.ofNat 4096 (2^67)))
def base := memrec base0
def q1 (s : State) : State := ((s.setF F.QUEUE_CONFIG_MEMS 0 1).setF F.QUEUE_CONFIG_WIDTH 0 7).setF F.QUEUE_STATUS_STATE 0 1
def qq := (q1 base).setQueue 0 { queueInit with rd := 1, cm := 4, wr := 4, lasts := [true,true,true] }
def qp := (qq.setF F.QUEUE_CONFIG_MODE 0 1).setQueue 0 { queueInit with rd := 1, cm := 3, wr := 4, lasts := [false,true], midPacket := false }
def qpm := (qq.setF F.QUEUE_CONFIG_MODE 0 1).setQueue 0 { queueInit with rd := 1, cm := 3, wr := 4, lasts := [false,true], midPacket := true }
def qcd := qq.setQueue 0 { queueInit with rd := 1, cm := 4, wr := 4, lasts := [true,true,true], cd := some ⟨77, true, false⟩ }
def qf := (q1 base).setQueue 0 { queueInit with rd := 1, cm := 4, wr := 4, lasts := [true,true,true], flushPending := true }
def mb (op : Nat) (b : State) : State := slotv (slotv (slotv b (.memReq 0 0 0) 0 op) (.memReq 0 0 0) 1 1) (.memReq 0 0 1) 0 op
def tap (s : State) : State := s.putCfg { s.cfg with beamMap := [0, 0x80008000, 0x80000000] }
def tapw : State := (tap (um up)).putFabric { upL.fabric with latches := [⟨.fto 0, [1]⟩] }
def full4 (s : State) : State := (s.setStage ⟨0,0,4⟩ ⟨some 1, none⟩).setStage ⟨0,1,4⟩ ⟨some 1, none⟩
def tk : State := (full4 base).setStage ⟨0,0,5⟩ ⟨some 2, none⟩ |>.putFabric { (full4 base).fabric with takings := [⟨.cell ⟨0,0,5⟩, [.cell ⟨0,0,4⟩], []⟩, ⟨.request 0 0 0 1, [.cell ⟨0,0,4⟩], []⟩] }
def qctl (s : State) (v : Nat) : State := slotv s (.queueControl 0) 0 v
def seg0 := lineSegment 0 1 2
def drv (s : State) : State := (s.setRodBits 0 480 (6784*1+5248+18) 1 1).setRodBits 1 480 (6784*1+5248+18) 1 1
def cont := (base.putFabric { base.fabric with contentions := [⟨lineSegment 0 1 2, [0,1], 0⟩] }).putRepair { base.repair with place := [(0,0),(1,1)] } |>.setF F.REPAIR_WEAR_CFG_THRESH 0 4

/-- The hypotheses of FabricClients can be met. -/
theorem witness_FabricClients :
    (∃ (s : State) (c : CellId) (upset : Upset) (v : Digit) (outs : List BeadSource), s.ready = true ∧ s.hasStage c = true ∧ s.sinkReady (.cell c) = true ∧ s.stage c = ⟨none, none⟩ ∧ s.clear (.cell c) = true ∧ s.arrival c upset = some ⟨v, outs, 0⟩) ∧
    (∃ (s : State) (c : CellId) (v : Digit), s.ready = true ∧ s.hasStage c = true ∧ s.sinkReady (.cell c) = true ∧ s.stage c = ⟨none, some v⟩ ∧ s.clear (.cell c) = true) ∧
    (∃ (s : State) (c : CellId) (upset : Upset) (v : Digit) (outs : List BeadSource), s.ready = true ∧ s.hasStage c = true ∧ s.gated c.rod = false ∧ s.throttled c.rod = false ∧ s.acking (.cell c) = false ∧ s.withholds (.cell c) = true ∧ (s.stage c).held = none ∧ s.arrival c upset = some ⟨v, outs, 0⟩) ∧
    (∃ (s : State) (c : CellId), s.ready = true ∧ s.fabric.spent = [] ∧ s.allTaken [.cell c] = true) ∧
    (∃ (s : State) (rod : Nat) (row : Nat) (a : Nat) (x : Bool) (upset : Upset) (b : Bead), s.ready = true ∧ (s.arbiter rod row a).grant = none ∧ s.clear (.arbiter rod row a) = true ∧ s.meets (.request rod row a (if x then 1 else 0), upsetPart upset (if x then 1 else 0) 1) b = true ∧ s.beadAt (.request rod row a (if x then 0 else 1)) (upsetPart upset (if x then 0 else 1) 1) = none) ∧
    (∃ (s : State) (rod : Nat) (row : Nat) (a : Nat) (upset : Upset) (b0 : Bead) (b1 : Bead), s.ready = true ∧ (s.arbiter rod row a).grant = none ∧ s.clear (.arbiter rod row a) = true ∧ s.meets (.request rod row a 0, upsetPart upset 0 1) b0 = true ∧ s.meets (.request rod row a 1, upsetPart upset 1 1) b1 = true) ∧
    (∃ (s : State) (rod : Nat) (k : Nat) (upset : Upset) (a : Bead) (d : Bead) (b : Bead) (c : Bead) (z : DWord) (x : ReckonerSettings), s.ready = true ∧ recBits (s.reckonerRecord rod k) 69 1 = 0 ∧ x = settingsOf (s.reckonerRecord rod k) 0 ∧ s.meets (reckonerPort rod k upset 0) a = true ∧ s.meets (reckonerPort rod k upset 2) b = true ∧ (x.pre = true → s.meets (reckonerPort rod k upset 1) d = true) ∧ (x.zsel = 1 → s.meets (reckonerPort rod k upset 3) c = true) ∧ s.reckonerClear rod k = true ∧ s.reckonerZ rod k x (some (BitVec.ofNat 64 c.num)) = some z) :=
  ⟨⟨tap (full4 base), { rod := 0, row := 0, cell := 5 }, [], 0x2#2, [Sys2Proof.BeadSource.cell { rod := 0, row := 0, cell := 4 }], by decide +kernel⟩,
    ⟨(full4 base).setStage ⟨0,0,5⟩ ⟨none, some 2⟩, { rod := 0, row := 0, cell := 5 }, 0x2#2, by decide +kernel⟩,
    ⟨(full4 base).setF F.CFG_CAP_STATUS_STATE 0 2, { rod := 0, row := 0, cell := 4 }, [], 0x1#2, [], by decide +kernel⟩,
    ⟨tk, { rod := 0, row := 0, cell := 4 }, by decide +kernel⟩,
    ⟨mb 2 base, 0, 0, 0, false, [], { digits := [0x1#2], outs := [], faults := [] }, by decide +kernel⟩,
    ⟨full4 base, 0, 0, 0, [], { digits := [0x1#2], outs := [], faults := [] }, { digits := [0x1#2], outs := [Sys2Proof.BeadSource.cell { rod := 0, row := 0, cell := 4 }], faults := [] }, by decide +kernel⟩,
    ⟨base, 0, 0, [], { digits := [0x1#2, 0x1#2, 0x1#2, 0x1#2, 0x1#2, 0x1#2, 0x1#2, 0x1#2, 0x1#2, 0x1#2, 0x1#2, 0x1#2, 0x1#2, 0x1#2], outs := [], faults := [] }, { digits := [0x1#2, 0x1#2, 0x1#2, 0x1#2, 0x1#2, 0x1#2, 0x1#2, 0x1#2, 0x1#2, 0x1#2, 0x1#2, 0x1#2, 0x1#2, 0x1#2], outs := [], faults := [] }, { digits := [0x1#2, 0x1#2, 0x1#2, 0x1#2, 0x1#2, 0x1#2, 0x1#2, 0x1#2, 0x1#2, 0x1#2, 0x1#2, 0x1#2, 0x1#2, 0x1#2], outs := [], faults := [] }, { digits := List.replicate 32 0x1#2, outs := [], faults := [] }, 0x5555555555555555#64, { pre := false, sub := false, neg := false, zsel := 1, st := false, casc := false }, by decide +kernel⟩⟩

/-- The hypotheses of MonitorsAndGuards can be met. -/
theorem witness_MonitorsAndGuards :
    (∃ (s : State) (m : Nat) (rate : Nat), s.ready = true ∧ s.monitorRuns m = true ∧ m < 3 * Part.rods s.part ∧ s.fabric.monitors = [] ∧ rate < 65536) ∧
    (∃ (s : State) (seg : Nat) (a : Nat) (b : Nat) (g : Nat) (m : Nat) (k : Nat), s.ready = true ∧ a < b ∧ b < 256 ∧ (if s.segmentBusy seg = true then s.lineDriver seg = some g else g = a) ∧ (g = a ∧ m = b ∨ g = b ∧ m = a) ∧ s.physOf m = some k ∧ Sparse.get [] s.repair.counted k = [] ∧ 2 ≤ s.f F.REPAIR_WEAR_CFG_THRESH 0 ∧ s.f F.CFG_CONT_SEG_VALID 0 = 0 ∧ seg < 2 ^ 16) ∧
    (∃ (s : State) (seg : Nat) (g : Nat) (rod : Nat) (k : Nat) (rods : List Nat), s.ready = true ∧ s.fabric.contentions = [⟨seg, rods, g⟩] ∧ (rods.filter fun r => Sparse.get 0 s.cfg.drivers seg != r + 1) = [rod] ∧ s.scrubSkips rod = false ∧ s.physOf rod = some k ∧ Sparse.get [] s.repair.counted k = [] ∧ 2 ≤ s.f F.REPAIR_WEAR_CFG_THRESH 0 ∧ s.cfg.badFrames.contains (frameKey rod (driverFrame seg)) = false) ∧
    (∃ (s : State) (n : Nat) (upset : Upset) (b : Bead), s.ready = true ∧ n < 16 ∧ tapUsed (s.tapEntry n) = true ∧ s.meets (.fto n, upset) b = true ∧ b.num % 4 ≠ 0) :=
  ⟨⟨cont.putCfg { cont.cfg with drivers := [(lineSegment 0 1 2, 1)] }, 2, 0, by decide +kernel⟩,
    ⟨cont, 0, 0, 1, 0, 1, 0, by decide +kernel⟩,
    ⟨cont.putCfg { cont.cfg with drivers := [(lineSegment 0 1 2, 1)] }, 257, 0, 1, 0, [0, 1], by decide +kernel⟩,
    ⟨tapw, 0, [], ⟨[1], [], []⟩, by decide +kernel, by decide +kernel, by decide +kernel, meets_of_blank rfl rfl (by decide +kernel) _, by decide +kernel⟩⟩

/-- The hypotheses of BlockMemories can be met. -/
theorem witness_BlockMemories :
    (∃ (s : State) (rod : Nat) (m : Nat) (port : Nat) (upset : Upset) (b : Bead) (ds : List Digit), s.ready = true ∧ s.portRuns rod m port = true ∧ s.portClear rod m port = true ∧ s.meets (.memReq rod m port, upsetPart upset 0 9) b = true ∧ b.digits = 0 :: ds ∧ s.rowPoisoned rod m (s.placed rod m port (digitsNat ds)).1 = false) ∧
    (∃ (s : State) (rod : Nat) (m : Nat) (port : Nat) (upset : Upset) (b : Bead) (d : Bead) (ds : List Digit), s.ready = true ∧ s.portRuns rod m port = true ∧ s.meets (.memReq rod m port, upsetPart upset 0 9) b = true ∧ s.meets (.memData rod m port, upsetPart upset 9 36) d = true ∧ b.digits = 1 :: ds ∧ s.rowPoisoned rod m (s.placed rod m port (digitsNat ds)).1 = false) ∧
    (∃ (s : State) (rod : Nat) (m : Nat) (port : Nat) (upset : Upset) (b : Bead) (d : Bead) (ds : List Digit), s.ready = true ∧ s.portRuns rod m port = true ∧ s.portClear rod m port = true ∧ s.meets (.memReq rod m port, upsetPart upset 0 9) b = true ∧ s.meets (.memData rod m port, upsetPart upset 9 36) d = true ∧ b.digits = 2 :: ds ∧ s.rowPoisoned rod m (s.placed rod m port (digitsNat ds)).1 = false) ∧
    (∃ (s : State) (rod : Nat) (m : Nat) (port : Nat) (upset : Upset) (b : Bead), s.ready = true ∧ s.meets (.memReq rod m port, upsetPart upset 0 9) b = true ∧ b.digits.head? = some 3) ∧
    (∃ (s : State) (rod : Nat) (m : Nat), s.ready = true ∧ rod < Part.rods s.part ∧ m < 32 ∧ recBits (s.memRecord rod m) 8 1 ≠ 0 ∧ s.gated rod = false ∧ s.rowMovesPaused rod = false ∧ s.rowPoisoned rod m (Sparse.get 0 s.mem.scrubRow (memKey rod m)) = false) :=
  ⟨⟨mb 0 base, 0, 0, 0, [], { digits := [0x0#2, 0x1#2, 0x1#2, 0x1#2, 0x1#2, 0x1#2, 0x1#2, 0x1#2, 0x1#2], outs := [], faults := [] }, [0x1#2, 0x1#2, 0x1#2, 0x1#2, 0x1#2, 0x1#2, 0x1#2, 0x1#2], by decide +kernel⟩,
    ⟨mb 1 base, 0, 0, 0, [], { digits := [0x1#2, 0x1#2, 0x1#2, 0x1#2, 0x1#2, 0x1#2, 0x1#2, 0x1#2, 0x1#2], outs := [], faults := [] }, { digits := List.replicate 36 0x1#2, outs := [], faults := [] }, [0x1#2, 0x1#2, 0x1#2, 0x1#2, 0x1#2, 0x1#2, 0x1#2, 0x1#2], by decide +kernel⟩,
    ⟨mb 2 base, 0, 0, 0, [], { digits := [0x2#2, 0x1#2, 0x1#2, 0x1#2, 0x1#2, 0x1#2, 0x1#2, 0x1#2, 0x1#2], outs := [], faults := [] }, { digits := List.replicate 36 0x1#2, outs := [], faults := [] }, [0x1#2, 0x1#2, 0x1#2, 0x1#2, 0x1#2, 0x1#2, 0x1#2, 0x1#2], by decide +kernel⟩,
    ⟨mb 3 base, 0, 0, 0, [], { digits := [0x3#2, 0x1#2, 0x1#2, 0x1#2, 0x1#2, 0x1#2, 0x1#2, 0x1#2, 0x1#2], outs := [], faults := [] }, by decide +kernel⟩,
    ⟨mb 2 base, 0, 1, by decide +kernel⟩⟩

/-- The hypotheses of Queues can be met. -/
theorem witness_Queues :
    (∃ (s : State) (q : Nat) (upset : Upset) (b : Bead), s.ready = true ∧ (s.queue q).discard = .none ∧ s.packetMode q = false ∧ s.producerTakes q 0 = true ∧ s.meets (.queueData q, upsetPart upset 0 36) b = true ∧ s.rowPoisoned (queueRod q) (s.queuePlace q (s.queue q).wr).2.1 (s.queuePlace q (s.queue q).wr).2.2.1 = false) ∧
    (∃ (s : State) (q : Nat) (upset : Upset) (b : Bead) (c : Bead) (ctl : BitVec 2), s.ready = true ∧ (s.queue q).discard = .none ∧ s.packetMode q = true ∧ s.producerTakes q ctl = true ∧ s.outgrows q ctl = false ∧ (s.queue q).closing = false ∧ s.meets (.queueData q, upsetPart upset 0 36) b = true ∧ s.meets (.queueControl q, upsetPart upset 36 1) c = true ∧ BitVec.ofNat 2 c.num = ctl ∧ ctl.toNat < 2 ∧ s.rowPoisoned (queueRod q) (s.queuePlace q (s.queue q).wr).2.1 (s.queuePlace q (s.queue q).wr).2.2.1 = false) ∧
    (∃ (s : State) (q : Nat) (upset : Upset) (b : Bead) (c : Bead), s.ready = true ∧ (s.queue q).discard = .none ∧ s.packetMode q = true ∧ s.producerTakes q 2 = true ∧ (s.queue q).closing = false ∧ s.meets (.queueData q, upsetPart upset 0 36) b = true ∧ s.meets (.queueControl q, upsetPart upset 36 1) c = true ∧ BitVec.ofNat 2 c.num = 2) ∧
    (∃ (s : State) (q : Nat), s.ready = true ∧ s.queueUsed q = true ∧ s.queueHeld q = false ∧ s.f F.QUEUE_STATUS_STATE q ≠ 0 ∧ (s.queue q).cd = none ∧ (s.queue q).rd < (s.queue q).cm ∧ s.clear (.queueData q) = true ∧ s.clear (.queueControl q) = true ∧ s.fabric.spent = [] ∧ (s.queue q).flushPending = false ∧ (s.queue q).closing = false ∧ s.rowPoisoned (queueRod q) (s.queuePlace q (s.queue q).rd).2.1 (s.queuePlace q (s.queue q).rd).2.2.1 = false) ∧
    (∃ (s : State) (q : Nat) (w : CdWord), s.ready = true ∧ s.fabric.spent = [] ∧ s.allTaken (s.together (.queueData q)) = true ∧ (s.queue q).cd = some w ∧ w.poison = false ∧ (s.queue q).flushPending = false ∧ (s.queue q).closing = false) ∧
    (∃ (s : State) (q : Nat) (upset : Upset) (b : Bead), s.ready = true ∧ s.queueUsed q = true ∧ s.queueHeld q = false ∧ s.f F.QUEUE_STATUS_STATE q ≠ 0 ∧ (s.queue q).holdRecord = false ∧ (s.queue q).midPacket = false ∧ (s.queue q).closing = false ∧ (s.queue q).onCd = 0 ∧ s.meets (.queueFlush q, upset) b = true ∧ b.num ≠ 0) ∧
    (∃ (s : State) (q : Nat) (upset : Upset) (b : Bead), s.ready = true ∧ s.meets (.queueFlush q, upset) b = true ∧ b.num = 0) ∧
    (∃ (s : State) (q : Nat), s.ready = true ∧ s.queueUsed q = true ∧ s.queueHeld q = false ∧ s.f F.QUEUE_STATUS_STATE q ≠ 0 ∧ (s.queue q).holdRecord = false ∧ (s.queue q).midPacket = false ∧ (s.queue q).closing = false ∧ (s.queue q).onCd = 0) ∧
    (∃ (s : State) (q : Nat), s.ready = true ∧ s.queueUsed q = true ∧ (s.queue q).midPacket = true) ∧
    (∃ (s : State) (q : Nat), s.ready = true ∧ s.queueHeld q = false ∧ (s.queue q).flushPending = true ∧ (s.queue q).midPacket = false ∧ (s.queue q).closing = false ∧ (s.queue q).onCd = 0) ∧
    (∃ (s : State) (q : Nat), s.ready = true ∧ s.queueUsed q = true ∧ s.f F.QUEUE_STALE_CFG_STALE_UNITS q ≠ 0 ∧ (s.queue q).rd < (s.queue q).cm ∧ (s.queue q).staleSent = false ∧ s.staleStopped (queueRod q) = false) :=
  ⟨⟨qf, 0, [], { digits := List.replicate 36 0x1#2, outs := [], faults := [] }, by decide +kernel⟩,
    ⟨qctl qp 1, 0, [], { digits := List.replicate 36 0x1#2, outs := [], faults := [] }, { digits := [0x1#2], outs := [], faults := [] }, 0x1#2, by decide +kernel⟩,
    ⟨qctl qp 2, 0, [], { digits := List.replicate 36 0x1#2, outs := [], faults := [] }, { digits := [0x2#2], outs := [], faults := [] }, by decide +kernel⟩,
    ⟨qq, 0, by decide +kernel⟩,
    ⟨qcd, 0, { data := 0x00000000000000004d#72, last := true, poison := false }, by decide +kernel⟩,
    ⟨qf, 0, [], { digits := [0x1#2], outs := [], faults := [] }, by decide +kernel⟩,
    ⟨slotv qq (.queueFlush 0) 0 0, 0, [], { digits := [0x0#2], outs := [], faults := [] }, by decide +kernel⟩,
    ⟨qq, 0, by decide +kernel⟩,
    ⟨qpm, 0, by decide +kernel⟩,
    ⟨qf, 0, by decide +kernel⟩,
    ⟨qq.setF F.QUEUE_STALE_CFG_STALE_UNITS 0 5, 0, by decide +kernel⟩⟩

end W04

namespace W05

def hdr (last : Nat) (d : DWord) : List Word := (List.range 64).map fun i => if i = 4 then BitVec.ofNat 32 (last) else if i = 5 then 0xFF else if i = 6 then 1 else if i = 10 then d.setWidth 32 else if i = 11 then (d >>> 32).setWidth 32 else if i = 16 then BitVec.ofNat 32 (127*65536) else if i = 17 then BitVec.ofNat 32 (959*65536) else 0
def me : Who := ⟨0x10, 0x90⟩
def ld (k : LoadKind) (src : Nat) : Load := { newLoad k src 0 me with phase := .command, offset := 256, header := hdr 0x100000 0, far := 650 }
def ldf := { ld .full 2 with far := 0x10003 }
def ldh := { newLoad .full 2 0 me with header := [1,2,3], offset := 12 }
def covr : Cells (BitVec 960) := (List.range (Part.rods up.part)).map fun r => (r, BitVec.allOnes 960)
def lend : Load := { ld .full 2 with offset := 0x200, started := true, cover := covr, header := hdr 0x208 (shaDigest (shaWord shaStart 0xF0000000#32)) }
def lst : Load := { ld .full 2 with offset := 0x200, cover := covr, header := hdr 0x210 (shaDigest ([0x10030001#32, 1, 0xF0000000#32].foldl shaWord shaStart)) }
def lsp : Load := { lend with kind := .span 3 }
def wi (l : Load) : State := upL.setLoad (some l)

/-- The hypotheses of Loads can be met. -/
theorem witness_Loads :
    (∃ (s : State), s.ready = true ∧ s.loadRefusal = none ∧ s.f F.CFG_LOAD_CTRL_SRC 0 = 2 ∧ s.f F.CFG_LOAD_CTRL_DEST 0 = 0) ∧
    (∃ (s : State) (why : Reason), s.ready = true ∧ s.loadRefusal = some why) ∧
    (∃ (s : State) (l : Load), s.loadsAt l .header = true ∧ l.src = 2 ∧ l.kind = .full ∧ l.header.length < 63) ∧
    (∃ (s : State), s.ready = true) ∧
    (∃ (s : State) (l : Load), s.loadsAt l .header = true ∧ l.src = 1 ∧ l.kind = .full ∧ l.header.length < 63) ∧
    (∃ (s : State) (l : Load) (n : Nat), s.loadsAt l .command = true ∧ l.kind = .slot n ∧ l.golden = false ∧ l.src < 8 ∧ l.offset < 2 ^ 32) ∧
    (∃ (s : State), s.ready = true) ∧
    (∃ (s : State) (l : Load) (n : Nat), s.loadsAt l .command = true ∧ l.kind = .slot n ∧ l.golden = false ∧ l.src = 2 ∧ l.ahead = [] ∧ l.offset < 2 ^ 32) ∧
    (∃ (s : State) (l : Load) (n : Nat), s.loadsAt l .command = true ∧ l.kind = .slot n ∧ l.golden = false ∧ l.src = 1 ∧ l.offset < 2 ^ 32) ∧
    (∃ (s : State) (l : Load) (n : Nat), s.loadsAt l .command = true ∧ l.kind = .slot n ∧ l.golden = false ∧ l.src ≠ 0 ∧ l.src < 8 ∧ l.offset < 2 ^ 32) :=
  ⟨⟨(up.setF F.CFG_LOAD_CTRL_SRC 0 2).setF F.REPAIR_STATUS_PUST_DONE 0 1, by decide +kernel⟩,
    ⟨upL, (Sys2Proof.Machine.Reason.command), by decide +kernel⟩,
    ⟨wi ldh, ldh, by decide +kernel⟩,
    ⟨upL, by decide +kernel⟩,
    ⟨wi { ldh with src := 1 }, { ldh with src := 1 }, by decide +kernel⟩,
    ⟨wi (ld (.slot 2) 2), ld (.slot 2) 2, 2, by decide +kernel⟩,
    ⟨upL, by decide +kernel⟩,
    ⟨wi (ld (.slot 2) 2), ld (.slot 2) 2, 2, by decide +kernel⟩,
    ⟨wi (ld (.slot 2) 1), ld (.slot 2) 1, 2, by decide +kernel⟩,
    ⟨wi (ld (.slot 2) 2), ld (.slot 2) 2, 2, by decide +kernel⟩⟩

/-- The hypotheses of StreamRegisters can be met. -/
theorem witness_StreamRegisters :
    (∃ (s : State) (l : Load) (v : Word), s.imageStream l 2 = true ∧ v &&& 0xFC00FC00#32 = 0 ∧ badFar s.part v.toNat = false) ∧
    (∃ (s : State) (l : Load) (data : List Word), s.imageStream l (data.length + 1) = true ∧ data.length < 65536) ∧
    (∃ (s : State) (l : Load) (v : Word), s.imageStream l 2 = true ∧ v.toNat % 65536 = Part.dieId s.part) ∧
    (∃ (s : State) (l : Load), s.imageStream l 2 = true) ∧
    (∃ (s : State) (l : Load) (ws : List Word), s.fullStream l (ws.length + 1) = true ∧ 18 ≤ ws.length ∧ ws.length < 65536 ∧ spanTableFault s.part l.spans ws = none) ∧
    (∃ (s : State) (l : Load) (ws : List Word), s.fullStream l 25 = true ∧ ws.length = 24 ∧ pinIsoFault ws = none) ∧
    (∃ (s : State) (l : Load) (ws : List Word), s.fullStream l (ws.length + 1) = true ∧ 17 ≤ ws.length ∧ l.beamMap = [] ∧ s.beamMapFault ws false = none ∧ l.fromGolden = false) ∧
    (∃ (s : State) (l : Load) (n : Nat) (v : Word), s.loadsAt l .command = true ∧ l.kind = .span n ∧ l.offset + 8 ≤ headerLength l.header - 8 ∧ v.toNat % 256 = headerSpan l.header) :=
  ⟨⟨wi lst, lst, 0x00000001#32, by decide +kernel⟩,
    ⟨wi (ld .full 0), ld .full 0, [0x00000000#32, 0x00000000#32, 0x00000000#32], by decide +kernel⟩,
    ⟨wi (ld .full 0), ld .full 0, 0x00003128#32, by decide +kernel⟩,
    ⟨wi { ld (.span 3) 2 with spanSeen := true }, { ld (.span 3) 2 with spanSeen := true }, by decide +kernel⟩,
    ⟨wi (ld .full 2), ld .full 2, [0x00000003#32, 0x00000002#32, 0x00000000#32, 0x00000000#32, 0x00000000#32, 0x00000000#32, 0x00000000#32, 0x00000000#32, 0x00000000#32, 0x00000000#32, 0x00000000#32, 0x00000000#32, 0x00000000#32, 0x00000000#32, 0x00000000#32, 0x00000000#32, 0x00000000#32, 0x00000000#32], by decide +kernel⟩,
    ⟨wi (ld .full 0), ld .full 0, List.replicate 24 0x11111111#32, by decide +kernel⟩,
    ⟨wi ldf, ldf, [0x00000000#32, 0x00000000#32, 0x00000000#32, 0x00000000#32, 0x00000000#32, 0x00000000#32, 0x00000000#32, 0x00000000#32, 0x00000000#32, 0x00000000#32, 0x00000000#32, 0x00000000#32, 0x00000000#32, 0x00000000#32, 0x00000000#32, 0x00000000#32, 0x00000000#32], by decide +kernel⟩,
    ⟨wi (ld (.span 3) 2), ld (.span 3) 2, 3, 0x000000ff#32, by decide +kernel⟩⟩

/-- The hypotheses of ImageContents can be met. -/
theorem witness_ImageContents :
    (∃ (s : State) (l : Load) (ws : List Word), s.fullStream l 19 = true ∧ ws.length = 18) ∧
    (∃ (s : State) (l : Load) (ws : List Word), s.fullStream l (ws.length + 1) = true ∧ ws.length = Part.quads s.part ∧ 0 < ws.length) ∧
    (∃ (s : State) (l : Load) (ws : List Word), s.fullStream l 8 = true ∧ ws.length = 7) ∧
    (∃ (s : State) (l : Load), s.fullStream l 2 = true) ∧
    (∃ (s : State) (l : Load) (v : Word), s.fullStream l 2 = true ∧ v.toNat % 4 ≠ 3) ∧
    (∃ (s : State) (l : Load), s.fullStream l 2 = true) ∧
    (∃ (s : State) (l : Load) (n : Nat) (data : List Word), s.imageStream l (128 * n + 1) = true ∧ data.length = 128 * n ∧ 0 < n ∧ n < 512 ∧ 640 ≤ recBits l.far 0 10 ∧ recBits l.far 0 10 + n ≤ 928 ∧ l.far < 2 ^ 26 ∧ recBits l.far 10 6 = 0 ∧ badFar s.part l.far = false ∧ s.lostRod (recBits l.far 16 10) = false ∧ (∀ k, k < n → inExtents l.header (recBits l.far 16 10) (recBits l.far 0 10 + k) = true)) ∧
    (∃ (s : State) (l : Load) (data : List Word), s.imageStream l 129 = true ∧ data.length = 128 ∧ s.gated (recBits l.far 16 10) = true ∧ badFar s.part l.far = false ∧ s.lostRod (recBits l.far 16 10) = false ∧ inExtents l.header (recBits l.far 16 10) (recBits l.far 0 10) = true ∧ s.frameBad (recBits l.far 16 10) (recBits l.far 0 10) (BitVec.ofNat 4096 (packWords data)) = false ∧ s.driverClash (recBits l.far 16 10) (recBits l.far 0 10) (s.after (recBits l.far 16 10) (recBits l.far 0 10) (BitVec.ofNat 4096 (packWords data))) = none) :=
  ⟨⟨wi (ld .full 2), ld .full 2, [0x00000003#32, 0x00000002#32, 0x00000000#32, 0x00000000#32, 0x00000000#32, 0x00000000#32, 0x00000000#32, 0x00000000#32, 0x00000000#32, 0x00000000#32, 0x00000000#32, 0x00000000#32, 0x00000000#32, 0x00000000#32, 0x00000000#32, 0x00000000#32, 0x00000000#32, 0x00000000#32], by decide +kernel⟩,
    ⟨wi (ld .full 2), ld .full 2, [0x000000ff#32, 0x9b8da988#32, 0x854d3a37#32, 0x000000ff#32, 0x00000002#32, 0x00000002#32, 0x9dbc40c4#32, 0x4173d387#32, 0x00000002#32, 0x000000ff#32, 0x00003128#32, 0x3b06162c#32, 0x00003128#32, 0x00000080#32, 0x00003128#32, 0x00010000#32, 0x00000003#32, 0x00003128#32, 0xed53e93a#32, 0x00000003#32, 0x00000002#32, 0xe829e0cb#32, 0x278717a4#32, 0x000000ff#32, 0x00200000#32, 0x570b6a45#32, 0x108dbe26#32, 0x00000000#32, 0xb33c2441#32, 0x00008000#32, 0x00200000#32, 0x00000000#32], by decide +kernel⟩,
    ⟨wi ldf, ldf, [0xb58c7a09#32, 0x00003128#32, 0x00008000#32, 0x000000ff#32, 0x000000ff#32, 0xe0639cf9#32, 0x0a768ec7#32], by decide +kernel⟩,
    ⟨wi (ld .full 0), ld .full 0, by decide +kernel⟩,
    ⟨wi (ld .full 0), ld .full 0, 0x00003128#32, by decide +kernel⟩,
    ⟨wi lst, lst, by decide +kernel⟩,
    ⟨wi { ld (.span 3) 2 with spanSeen := true }, { ld (.span 3) 2 with spanSeen := true }, 2, [0x00003128#32, 0x00000020#32, 0x00003128#32, 0x00000000#32, 0x000000ff#32, 0x2c18acb9#32, 0x00400000#32, 0x000000ff#32, 0x000000ff#32, 0x8fd9475e#32, 0x00000200#32, 0x000000ff#32, 0xd5d7e325#32, 0xff18ec50#32, 0x00003128#32, 0x520eae49#32, 0x00000000#32, 0x00000001#32, 0x00003128#32, 0xc847a42b#32, 0x00000001#32, 0x03d8feff#32, 0x00000000#32, 0xf04cd5d1#32, 0xc2c36119#32, 0x6d2503e6#32, 0x10000000#32, 0x00003128#32, 0x00003128#32, 0x000000ff#32, 0x04000000#32, 0x00003128#32, 0x2dd791ef#32, 0xef8ad2ef#32, 0x502748a8#32, 0x00400000#32, 0x80000000#32, 0x000000ff#32, 0x2b667c2f#32, 0xe2c03a28#32, 0x04000000#32, 0x00020000#32, 0x35c08280#32, 0x000000ff#32, 0x00003128#32, 0x00000003#32, 0x00000001#32, 0x000000ff#32, 0x000000ff#32, 0x00000000#32, 0x00000002#32, 0x00000004#32, 0xef68a5c8#32, 0x000000ff#32, 0xf6f7625b#32, 0x00000002#32, 0x842baa42#32, 0x97efa4de#32, 0xa442cc93#32, 0x000000ff#32, 0x00200000#32, 0x3bb1f3cd#32, 0x000000ff#32, 0x00003128#32, 0x00003128#32, 0x4120f4b3#32, 0x00003128#32, 0x70c1aca8#32, 0x6207cdb1#32, 0x00004000#32, 0x00000010#32, 0xce7a9c36#32, 0xf49a72a6#32, 0x00010000#32, 0x00000001#32, 0x8c45dd9e#32, 0x00000002#32, 0x00200000#32, 0x89abb0a2#32, 0x000000ff#32, 0x00003128#32, 0x00000002#32, 0x6af2206e#32, 0x00000003#32, 0xa6305f45#32, 0x680f36bd#32, 0x00003128#32, 0x9477903b#32, 0x3ca1597e#32, 0x00003128#32, 0x17596fbd#32, 0x263c1b90#32, 0x000000ff#32, 0x000000ff#32, 0x484fbe9b#32, 0x35f36300#32, 0x00010000#32, 0x000000ff#32, 0x00003128#32, 0x00004000#32, 0x20000000#32, 0x2bb37437#32, 0x00000001#32, 0x000000ff#32, 0x00003128#32, 0x9841e16c#32, 0x4be02040#32, 0x00200000#32, 0x00800000#32, 0x00000003#32, 0x00001000#32, 0x00003128#32, 0x00003128#32, 0x08000000#32, 0xf9b5c432#32, 0x62ec456d#32, 0x84d7b000#32, 0x00000020#32, 0x00000002#32, 0x00000100#32, 0xb7192876#32, 0x00010000#32, 0x00003128#32, 0x000000ff#32, 0x074f8df6#32, 0x00000000#32, 0x1cebefe1#32, 0x00003128#32, 0x8116b5e4#32, 0x79145f65#32, 0x65c196e8#32, 0x000000ff#32, 0x00000002#32, 0x04000000#32, 0x698276fb#32, 0x00000000#32, 0x04000000#32, 0x00000003#32, 0x00000002#32, 0x00400000#32, 0x000000ff#32, 0x000000ff#32, 0x00003128#32, 0x000000ff#32, 0x5d7dcf42#32, 0x00004000#32, 0x000000ff#32, 0x000000ff#32, 0x00003128#32, 0x9a54c17a#32, 0x00003128#32, 0x00003128#32, 0x02000000#32, 0x00003128#32, 0x00004000#32, 0x63ea39cd#32, 0x00000800#32, 0x00003128#32, 0x054706f8#32, 0x6a498709#32, 0xeee2dd2f#32, 0x00003128#32, 0x00000001#32, 0x00003128#32, 0x000000ff#32, 0x00080000#32, 0x00000002#32, 0x00000000#32, 0x04000000#32, 0x00000001#32, 0x40000000#32, 0x00000001#32, 0x00000001#32, 0x000000ff#32, 0xeff3571f#32, 0x00000002#32, 0x00000001#32, 0x00200000#32, 0x00003128#32, 0x00003128#32, 0x00000003#32, 0x40000000#32, 0x00000002#32, 0xe587fe67#32, 0x08000000#32, 0x00003128#32, 0x44eb4d32#32, 0x00000002#32, 0x00001000#32, 0x00003128#32, 0x00003128#32, 0x00000004#32, 0xfef1b40a#32, 0x00000000#32, 0x000000ff#32, 0x00200000#32, 0x00000001#32, 0x40000000#32, 0x00000040#32, 0x8171b29b#32, 0x00003128#32, 0x000000ff#32, 0xa51f3043#32, 0x00003128#32, 0x54728df9#32, 0x808757bf#32, 0xc296a625#32, 0xcd0dd0a6#32, 0x00003128#32, 0x018997c6#32, 0x000000ff#32, 0x00000010#32, 0x00008000#32, 0x00002000#32, 0x17d1c448#32, 0x20000000#32, 0x00003128#32, 0x98d3fa93#32, 0x000000ff#32, 0x00000000#32, 0x00003128#32, 0x60288232#32, 0x000000ff#32, 0x00003128#32, 0x00000003#32, 0xf793cefb#32, 0x00020000#32, 0x00003128#32, 0x9a1ecc5e#32, 0x00000003#32, 0x00001000#32, 0x00000000#32, 0x00003128#32, 0x00000001#32, 0x76117b84#32, 0x00000003#32, 0x224dc682#32, 0x459df37c#32, 0x000000ff#32, 0x1338b208#32, 0x488d5a00#32, 0x00010000#32, 0x00000000#32, 0x000000ff#32, 0xe381b93f#32, 0x4ca18472#32, 0x41a06722#32, 0x4b74705a#32, 0x00000001#32, 0x3ae50530#32, 0x00000080#32, 0x10c067b0#32, 0x0c6e699d#32, 0xab86c4e0#32, 0x00003128#32, 0x074c7254#32], by decide +kernel⟩,
    ⟨wi { ld (.span 3) 2 with spanSeen := true }, { ld (.span 3) 2 with spanSeen := true }, [0x000000ff#32, 0x00003128#32, 0x000000ff#32, 0x9ad3d0c3#32, 0x00000001#32, 0x00000040#32, 0x000000ff#32, 0x81a892b7#32, 0x00000000#32, 0xe57d653e#32, 0x00000003#32, 0x5edea4e8#32, 0x000000ff#32, 0xe9b4644a#32, 0x0140c196#32, 0x7c22c854#32, 0x00003128#32, 0x00002000#32, 0x00000000#32, 0x00400000#32, 0x00000001#32, 0x00003128#32, 0x000000ff#32, 0x000000ff#32, 0x000000ff#32, 0x00000004#32, 0x00000002#32, 0x000000ff#32, 0x7681fb1b#32, 0x000000ff#32, 0x00000080#32, 0x000000ff#32, 0x00000400#32, 0xd3a323a4#32, 0x10000000#32, 0xa31e251b#32, 0x756e34c8#32, 0x000000ff#32, 0x32b89218#32, 0x6ab74547#32, 0x00000002#32, 0xde51490f#32, 0xc437bd31#32, 0x00003128#32, 0x019ecfb8#32, 0x000000ff#32, 0x00003128#32, 0x00003128#32, 0x00000002#32, 0xd27d1573#32, 0x000000ff#32, 0x00000040#32, 0x19b99ff2#32, 0x00000001#32, 0x00000001#32, 0x00000003#32, 0x000000ff#32, 0xd494931c#32, 0x00000000#32, 0x00003128#32, 0xea17b56b#32, 0xde3af216#32, 0x0418b58a#32, 0xcc209371#32, 0x8dbf660a#32, 0x00003128#32, 0x00000003#32, 0xd06f0598#32, 0x227991f2#32, 0x00000200#32, 0xa7fc1672#32, 0x00003128#32, 0x00003128#32, 0x00003128#32, 0x00000000#32, 0x59ecdeb2#32, 0x00000001#32, 0x00000010#32, 0x647a918e#32, 0x00000000#32, 0x00003128#32, 0x7a3c4c50#32, 0xf6f898df#32, 0x08000000#32, 0x337b5a70#32, 0xe924a3fd#32, 0x00010000#32, 0x000000ff#32, 0x000000ff#32, 0x00003128#32, 0x000000ff#32, 0x00000000#32, 0x00000010#32, 0x000000ff#32, 0x00000200#32, 0x00003128#32, 0xe32cff1b#32, 0x000000ff#32, 0x3eb497e2#32, 0xbe3610e5#32, 0x000000ff#32, 0x93d2a051#32, 0x3a14af04#32, 0x00000000#32, 0x000000ff#32, 0x00000400#32, 0x00003128#32, 0x00000080#32, 0x000000ff#32, 0x00003128#32, 0xed10be66#32, 0x00003128#32, 0x01000000#32, 0x5b9d1340#32, 0x00000003#32, 0x000000ff#32, 0x257bc432#32, 0x8def51ab#32, 0x00080000#32, 0x00003128#32, 0x1ecf2630#32, 0x00003128#32, 0x00000003#32, 0x000000ff#32, 0x000000ff#32, 0xd5841ce6#32, 0xb7f3daaf#32, 0x00003128#32], by decide +kernel⟩⟩

/-- The hypotheses of ImagesEnd can be met. -/
theorem witness_ImagesEnd :
    (∃ (s : State) (l : Load), s.loadsAt l .command = true ∧ l.kind = .full ∧ l.offset = headerLength l.header - 8 ∧ l.started = true ∧ (∀ rod, rod < Part.rods s.part → Sparse.get 0 l.cover rod = BitVec.allOnes 960) ∧ shaDigest (shaWord l.sha 0xF0000000#32) = headerDigest l.header) ∧
    (∃ (s : State) (l : Load) (n : Nat), s.loadsAt l .command = true ∧ l.kind = .span n ∧ n < 16 ∧ l.offset = headerLength l.header - 8 ∧ shaDigest (shaWord l.sha 0xF0000000#32) = headerDigest l.header ∧ l.scrub = none) ∧
    (∃ (s : State) (l : Load), s.loadsAt l .command = true ∧ l.kind = .full ∧ l.offset + 16 = headerLength l.header ∧ (∀ rod, rod < Part.rods s.part → Sparse.get 0 l.cover rod = BitVec.allOnes 960) ∧ shaDigest ([0x10030001#32, 1, 0xF0000000#32].foldl shaWord l.sha) = headerDigest l.header) :=
  ⟨⟨wi lend, lend, by decide +kernel⟩,
    ⟨wi lsp, lsp, 3, by decide +kernel⟩,
    ⟨wi lst, lst, by decide +kernel⟩⟩

end W05

namespace W06

def um (s : State) : State := ((s.setF F.DEV_STATUS_USER_MODE 0 1).setWord .PWR_REGION_STATUS 0 0x7FF)
def me : Who := ⟨0x10, 0x90⟩
def d0 : SpanDecl := ⟨3, 6, 0, 0, []⟩
def d1 : SpanDecl := ⟨3, 6, 2, 5, []⟩
def d2 : SpanDecl := ⟨3, 6, 2, 0, []⟩
def withSpan (s : State) (d : SpanDecl) (st : Nat) : State := ((um s).putCfg { s.cfg with spans := [d] }).setF F.CFG_SPAN_STATUS_STATE 3 st
def op (s : State) (k : Nat) : State := s.putCfg { s.cfg with spanOp := some ⟨3, k, me, false, 0⟩ }
def sh (s : State) (st : Nat) : State := s.setF F.NI_FENCE_STATUS_STATE 1 st
def settl (s : State) : State := s.putCfg { s.cfg with spanSettling := [3] }
def rel (s : State) : State := s.putCfg { s.cfg with spanReleased := [3] }
def used (s : State) : State := s.putNet { s.net with used := 2 }
def dr (s : State) : State := s.setNi 1 { s.ni 1 with fenceLimit := 10, fenceAsked := [2] }
def relq (s : State) : State := s.putCfg { s.cfg with releases := [⟨.span 3, .spanReset, 5⟩] }
def stg (s : State) : State := (s.setStage ⟨1,2,3⟩ ⟨some 1, none⟩).setStage ⟨0,2,3⟩ ⟨some 1, none⟩
def sc (s : State) : State := s.setF F.CFG_STATUS_SCRUB_ON 0 1
def fr1 (s : State) : State := s.putRepair { s.repair with place := [(0,1)] } |>.setF F.REPAIR_WEAR_CFG_THRESH 0 4
def dg (n v : Nat) : List Digit := (List.range n).map fun d => digitNat v d
def lat (s : State) (b : BeadSink) (ds : List Digit) : State := s.putFabric { s.fabric with latches := [⟨b, ds⟩] }
def ic : State := lat (withSpan upL d1 3) .icpCommand (dg 8 0x303)
def ic2 : State := lat (withSpan upL d1 3) .icpCommand (dg 8 0x308)
def ic3 : State := lat (withSpan upL d1 3) .icpData (dg 16 0x12345678)

/-- The hypotheses of SpanRequests can be met. -/
theorem witness_SpanRequests :
    (∃ (s : State) (n : Nat) (d : SpanDecl), s.ready = true ∧ s.spanDecl n = some d ∧ n < 16 ∧ s.spanFree d = true ∧ (s.spanState n = 1 ∨ s.spanState n = 3 ∨ s.spanState n = 5) ∧ s.f F.CFG_LOAD_CTRL_SRC 0 = 2) ∧
    (∃ (s : State) (n : Nat) (d : SpanDecl), s.ready = true ∧ s.spanDecl n = some d ∧ n < 16 ∧ s.spanFree d = true ∧ s.spanState n = 1 ∧ s.f F.CFG_SPAN_DRAIN_US 0 ≠ 0) ∧
    (∃ (s : State) (n : Nat) (d : SpanDecl), s.ready = true ∧ s.spanDecl n = some d ∧ n < 16 ∧ s.spanFree d = true ∧ s.spanState n = 3) ∧
    (∃ (s : State) (n : Nat) (d : SpanDecl), s.ready = true ∧ s.spanDecl n = some d ∧ n < 16 ∧ s.spanFree d = true ∧ (s.spanState n = 1 ∨ s.spanState n = 3) ∧ s.resetAbsorbs = false ∧ s.edgesEmpty = true) ∧
    (∃ (s : State) (n : Nat) (d : SpanDecl), s.ready = true ∧ s.spanDecl n = some d ∧ n < 16 ∧ s.spanFree d = true ∧ (s.spanState n = 1 ∨ s.spanState n = 3) ∧ s.resetAbsorbs = true) ∧
    (∃ (s : State) (n : Nat), s.ready = true ∧ s.spanDecl n = none ∧ n < 16) :=
  ⟨⟨(withSpan upL d0 1).setF F.CFG_LOAD_CTRL_SRC 0 2, 3, { id := 3, rods := 0x0000000000000000000000000000000000000000000000000000000000000006#256, nis := 0x000000000000000000000000#96, pins := 0x000000000000000000000000000000000000000000000000#192, bounds := [] }, by decide +kernel⟩,
    ⟨withSpan upL d1 1, 3, { id := 3, rods := 0x0000000000000000000000000000000000000000000000000000000000000006#256, nis := 0x000000000000000000000002#96, pins := 0x000000000000000000000000000000000000000000000005#192, bounds := [] }, by decide +kernel⟩,
    ⟨ic, 3, { id := 3, rods := 0x0000000000000000000000000000000000000000000000000000000000000006#256, nis := 0x000000000000000000000002#96, pins := 0x000000000000000000000000000000000000000000000005#192, bounds := [] }, by decide +kernel⟩,
    ⟨ic2, 3, { id := 3, rods := 0x0000000000000000000000000000000000000000000000000000000000000006#256, nis := 0x000000000000000000000002#96, pins := 0x000000000000000000000000000000000000000000000005#192, bounds := [] }, by decide +kernel⟩,
    ⟨(withSpan upL d1 3).putCfg { (withSpan upL d1 3).cfg with releases := [⟨.all, .fabricReset, 5⟩] }, 3, { id := 3, rods := 0x0000000000000000000000000000000000000000000000000000000000000006#256, nis := 0x000000000000000000000002#96, pins := 0x000000000000000000000000000000000000000000000005#192, bounds := [] }, by decide +kernel⟩,
    ⟨upL, 3, by decide +kernel⟩⟩

/-- The hypotheses of SpanEngine can be met. -/
theorem witness_SpanEngine :
    (∃ (s : State) (n : Nat) (d : SpanDecl) (o : SpanOp), s.ready = true ∧ s.spanDecl n = some d ∧ n < 16 ∧ s.spanState n = 2 ∧ s.niClosed (spanNis d) = true ∧ s.cfg.spanOp = some o ∧ o.icp = false) ∧
    (∃ (s : State) (n : Nat) (k : Nat) (d : SpanDecl), s.ready = true ∧ s.cfg.spans = [d] ∧ d.id = n ∧ n < 16 ∧ s.spanState n = 2 ∧ spanNis d = [k] ∧ s.fence k = 1 ∧ (s.ni k).fenceLimit ≠ 0 ∧ s.drainHeld k = false ∧ (s.ni k).delivered = [] ∧ (s.ni k).posted = [] ∧ (s.ni k).fenceAsked = [2]) ∧
    (∃ (s : State) (n : Nat), s.ready = true ∧ n ∈ s.cfg.spanSettling) ∧
    (∃ (s : State) (n : Nat) (d : SpanDecl), s.still = true ∧ s.spanDecl n = some d ∧ n < 16 ∧ s.spanState n = 6 ∧ n ∉ s.cfg.spanReleased ∧ (∀ o, s.cfg.spanOp = some o → o.op = 3) ∧ s.mem.queues = [] ∧ s.fabric.latches = [] ∧ s.fabric.taps = []) ∧
    (∃ (s : State) (n : Nat) (d : SpanDecl) (o : SpanOp), s.still = true ∧ s.edgesEmpty = true ∧ s.spanDecl n = some d ∧ n < 16 ∧ s.spanState n = 6 ∧ n ∉ s.cfg.spanReleased ∧ s.cfg.spanOp = some o ∧ o.span = n ∧ o.op = 1 ∧ d.pins = 0) ∧
    (∃ (s : State) (n : Nat) (o : SpanOp), s.still = true ∧ n < 16 ∧ s.spanState n = 6 ∧ n ∈ s.cfg.spanReleased ∧ s.recordQueues = [] ∧ s.cfg.spanOp = some o ∧ o.op = 3 ∧ o.icp = false ∧ s.cfg.fabricResetWaiting = false) ∧
    (∃ (s : State) (n : Nat) (d : SpanDecl) (o : SpanOp) (x : Release), s.still = true ∧ s.spanDecl n = some d ∧ s.cfg.releases = [x] ∧ x.reach = .span n ∧ x.cause = .spanReset ∧ s.mem.queues = [] ∧ s.spanState n = 1 ∧ s.cfg.spanOp = some o ∧ o.icp = false ∧ s.cfg.fabricResetWaiting = false) :=
  ⟨⟨op (withSpan upL d0 2) 2, 3, { id := 3, rods := 0x0000000000000000000000000000000000000000000000000000000000000006#256, nis := 0x000000000000000000000000#96, pins := 0x000000000000000000000000000000000000000000000000#192, bounds := [] }, { span := 3, op := 2, who := { origin := 0x10#8, ni := 0x90#8 }, icp := false, newDigest := 0x0000000000000000#64 }, by decide +kernel⟩,
    ⟨dr (op (sh (withSpan upL d1 2) 1) 2), 3, 1, { id := 3, rods := 0x0000000000000000000000000000000000000000000000000000000000000006#256, nis := 0x000000000000000000000002#96, pins := 0x000000000000000000000000000000000000000000000005#192, bounds := [] }, by decide +kernel⟩,
    ⟨settl (withSpan upL d0 3), 3, by decide +kernel⟩,
    ⟨op (used (sh (withSpan upL d1 6) 2)) 3, 3, { id := 3, rods := 0x0000000000000000000000000000000000000000000000000000000000000006#256, nis := 0x000000000000000000000002#96, pins := 0x000000000000000000000000000000000000000000000005#192, bounds := [] }, by decide +kernel⟩,
    ⟨op (used (sh (withSpan upL d2 6) 2)) 1, 3, { id := 3, rods := 0x0000000000000000000000000000000000000000000000000000000000000006#256, nis := 0x000000000000000000000002#96, pins := 0x000000000000000000000000000000000000000000000000#192, bounds := [] }, { span := 3, op := 1, who := { origin := 0x10#8, ni := 0x90#8 }, icp := false, newDigest := 0x0000000000000000#64 }, by decide +kernel⟩,
    ⟨op (rel (withSpan upL d0 6)) 3, 3, { span := 3, op := 3, who := { origin := 0x10#8, ni := 0x90#8 }, icp := false, newDigest := 0x0000000000000000#64 }, by decide +kernel⟩,
    ⟨op (relq (stg (withSpan upL d0 1))) 4, 3, { id := 3, rods := 0x0000000000000000000000000000000000000000000000000000000000000006#256, nis := 0x000000000000000000000000#96, pins := 0x000000000000000000000000000000000000000000000000#192, bounds := [] }, { span := 3, op := 4, who := { origin := 0x10#8, ni := 0x90#8 }, icp := false, newDigest := 0x0000000000000000#64 }, { reach := Sys2Proof.Machine.Reach.span 3, cause := Sys2Proof.Machine.ReleaseCause.spanReset, tick := 0x0000000000000005#64 }, by decide +kernel⟩⟩

/-- The hypotheses of IcpAndScrub can be met. -/
theorem witness_IcpAndScrub :
    (∃ (s : State) (upset : Upset) (b : Bead) (d : SpanDecl), s.ready = true ∧ s.meets (.icpCommand, upset) b = true ∧ s.icpRoom = true ∧ b.num % 65536 = 0x0303 ∧ s.spanDecl 3 = some d ∧ s.spanFree d = true ∧ s.spanState 3 = 3) ∧
    (∃ (s : State) (upset : Upset) (b : Bead), s.ready = true ∧ s.meets (.icpCommand, upset) b = true ∧ s.icpRoom = true ∧ b.num % 65536 = 0x0308) ∧
    (∃ (s : State) (upset : Upset) (b : Bead), s.ready = true ∧ s.meets (.icpData, upset) b = true) ∧
    (∃ (s : State) (l : Load) (n : Nat) (upset : Upset) (b : Bead), s.loadsAt l .header = true ∧ l.kind = .span n ∧ l.icp = true ∧ s.meets (.icpData, upset) b = true ∧ l.header.length < 63) ∧
    (∃ (s : State), s.ready = true) ∧
    (∃ (s : State), s.ready = true ∧ s.cfg.scrubFirst = [] ∧ s.f F.CFG_STATUS_SCRUB_ON 0 = 1 ∧ s.cfg.starting = none ∧ s.cfg.scrubFrame < 639) ∧
    (∃ (s : State) (rod : Nat) (frame : Nat) (rest : List (Nat × Nat)), s.ready = true ∧ s.cfg.scrubFirst = (rod, frame) :: rest ∧ frame < 639) ∧
    (∃ (s : State) (rod : Nat) (frame : Nat) (k : Nat), s.ready = true ∧ s.scrubsNext rod frame = true ∧ s.physOf rod = some k ∧ Sparse.get [] s.repair.counted k = [] ∧ 2 ≤ s.f F.REPAIR_WEAR_CFG_THRESH 0) ∧
    (∃ (s : State) (rod : Nat) (frame : Nat) (k : Nat), s.still = true ∧ s.scrubsNext rod frame = true ∧ s.physOf rod = some k ∧ s.repair.doubleBit.contains (k, frame) = false) :=
  ⟨⟨ic, [], { digits := [0x3#2, 0x0#2, 0x0#2, 0x0#2, 0x3#2, 0x0#2, 0x0#2, 0x0#2], outs := [], faults := [] }, { id := 3, rods := 0x0000000000000000000000000000000000000000000000000000000000000006#256, nis := 0x000000000000000000000002#96, pins := 0x000000000000000000000000000000000000000000000005#192, bounds := [] }, by decide +kernel, meets_of_blank rfl rfl (by decide +kernel) _, by decide +kernel, by decide +kernel, by decide +kernel, by decide +kernel, by decide +kernel⟩,
    ⟨ic2, [], { digits := [0x0#2, 0x2#2, 0x0#2, 0x0#2, 0x3#2, 0x0#2, 0x0#2, 0x0#2], outs := [], faults := [] }, by decide +kernel, meets_of_blank rfl rfl (by decide +kernel) _, by decide +kernel, by decide +kernel⟩,
    ⟨ic3, [], { digits := [0x0#2, 0x2#2, 0x3#2, 0x1#2, 0x2#2, 0x1#2, 0x1#2, 0x1#2, 0x0#2, 0x1#2, 0x3#2, 0x0#2, 0x2#2, 0x0#2, 0x1#2, 0x0#2], outs := [], faults := [] }, by decide +kernel, meets_of_blank rfl rfl (by decide +kernel) _⟩,
    ⟨ic3.setLoad (some { newLoad (.span 3) 7 0 me with header := [1,2,3], offset := 12, icp := true }), { kind := Sys2Proof.Machine.LoadKind.span 3, src := 7, slot := 0, who := { origin := 0x10#8, ni := 0x90#8 }, boot := false, golden := false, icp := true, phase := Sys2Proof.Machine.LoadPhase.header, offset := 12, header := [0x00000001#32, 0x00000002#32, 0x00000003#32], crc := 0xffffffff#32, sha := { h := [0x6a09e667#32, 0xbb67ae85#32, 0x3c6ef372#32, 0xa54ff53a#32, 0x510e527f#32, 0x9b05688c#32, 0x1f83d9ab#32, 0x5be0cd19#32], block := [], words := 0 }, words := [], frameOffset := 0, far := 0, started := false, lockArmed := false, spanSeen := false, wroteFrame := false, cover := [], spans := [], pinIso := 0x111111111111111111111111111111111111111111111111111111111111111111111111111111111111111111111111111111111111111111111111111111111111111111111111111111111111111111111111111111111111111111111111#768, beamMap := [], crcMark := 0xffffffff#32, ahead := [], bytes := [], fetched := 0, fetching := false, user := false, deadline := false, oldDigest := 0x0000000000000000#64, scrub := none }, 3, [], { digits := [0x0#2, 0x2#2, 0x3#2, 0x1#2, 0x2#2, 0x1#2, 0x1#2, 0x1#2, 0x0#2, 0x1#2, 0x3#2, 0x0#2, 0x2#2, 0x0#2, 0x1#2, 0x0#2], outs := [], faults := [] }, by decide +kernel, by decide +kernel, by decide +kernel, meets_of_blank rfl rfl (by decide +kernel) _, by decide +kernel⟩,
    ⟨upL, by decide +kernel⟩,
    ⟨sc (um upL), by decide +kernel⟩,
    ⟨(fr1 (sc (um upL))).putCfg { (fr1 (sc (um upL))).cfg with scrubFirst := [(1,3),(2,0)] }, 1, 3, [(2, 0)], by decide +kernel⟩,
    ⟨fr1 (sc (um upL)), 0, 0, 0, by decide +kernel⟩,
    ⟨fr1 (sc (um upL)), 0, 0, 0, by decide +kernel⟩⟩

end W06

namespace W07

def um (s : State) : State := ((s.setF F.DEV_STATUS_USER_MODE 0 1).setWord .PWR_REGION_STATUS 0 0x7FF)
def me : Who := ⟨0x10, 0x90⟩
def h0 : List Word := ((List.range 64).map fun i => if i = 0 then 0x48454F4C#32 else if i = 1 then 1 else if i = 2 then BitVec.ofNat 32 (Part.dieId up.part) else if i = 4 then BitVec.ofNat 32 0x100000 else if i = 5 then 0xFF else if i = 6 then 1 else if i = 10 then 77 else if i = 16 then BitVec.ofNat 32 (127*65536) else if i = 17 then BitVec.ofNat 32 (959*65536) else 0)
def hdr : List Word := h0.set 63 (crcOf (h0.take 63))
def slot0 (s : State) : State := (List.range 64).foldl (fun s i => s.setNvWord (slotBase 0 + 4 * i) (hdr.getD i 0)) s
def d0 : SpanDecl := ⟨3, 6, 0, 0, []⟩
def ld : Load := { newLoad .full 2 0 me with header := hdr, spans := [d0] }
def ld2 : Load := { ld with src := 0, deadline := true }
def stg (s : State) : State := (s.setStage ⟨1,2,3⟩ ⟨some 1, none⟩).setStage ⟨0,2,3⟩ ⟨some 1, none⟩
def relx (s : State) (c : ReleaseCause) : State := s.putCfg { s.cfg with releases := [⟨.all, c, 5⟩] }
def start (s : State) (l : Load) : State := let s := relx s .start; s.putCfg { s.cfg with starting := some l }
def bw (s : State) : State := let s := slot0 s; s.putCfg { s.cfg with bootWaiting := true, header := { s.cfg.header with hostDeadline := 3 } }
def cap (s : State) (n : Nat) : State := s.setF F.CFG_CAP_STATUS_STATE 0 n
def mode (s : State) (n : Nat) : State := s.setF F.CFG_CAP_CTRL_MODE 0 n
def tr : Transfer := { restore := false, toNoc := false, far := 5, state := false, left := 3, addr := 0, words := [1,2,3], who := me, asked := false, ended := none }
def trs := #[tr, { tr with restore := true }, { tr with ended := some 0, words := [] }, { tr with ended := some 5 }]
def wt (x : Transfer) : State := upL.setTransfer (some x)
def bs := #[start (stg (um upL)) ld, start up ld2, relx (stg (um upL)) .fabricReset, upL, bw upL, bw up, um upL, cap upL 1, mode upL 1, mode upL 2, (mode upL 1).setPair .CFG_CAP_TIME_LO .CFG_CAP_TIME_HI 0 100, (mode (cap upL 1) 1).setPair .CFG_CAP_TIME_LO .CFG_CAP_TIME_HI 0 100, cap upL 2, cap upL 3, cap upL 4, (cap upL 1).putBeam ⟨[⟨.direct 34, 7⟩]⟩, upL.setF F.CFG_RB_COUNT_FRAMES 0 2] ++ trs.map wt

/-- The hypotheses of StartAndFabricReset can be met. -/
theorem witness_StartAndFabricReset :
    (∃ (s : State) (l : Load) (x : Release), s.still = true ∧ s.cfg.releases = [x] ∧ x.cause = .start ∧ s.cfg.starting = some l ∧ (∀ d, d ∈ l.spans → d.id < 16) ∧ s.f F.SEQ_BOOT_STATUS_LOADED 0 = 0 ∧ l.src < 8 ∧ l.slot < 8) ∧
    (∃ (s : State), s.ready = true ∧ s.cfg.bootWaiting = true ∧ s.cfg.header.hostDeadline ≠ 0 ∧ s.cfg.starting = none ∧ (s.headerFault ((List.range 64).map fun i => s.nvWord (slotBase 0 + 4 * i)) none) = none) ∧
    (∃ (s : State), s.ready = true ∧ s.fpdChanging = false ∧ s.repair.step = none ∧ s.cfg.starting = none ∧ s.cfg.spanOp = none ∧ s.capState = 0 ∧ s.cfg.load = none ∧ s.edgesEmpty = true) ∧
    (∃ (s : State) (x : Release), s.still = true ∧ s.cfg.releases = [x] ∧ x.cause = .fabricReset ∧ s.mem.queues = []) :=
  ⟨⟨start up ld2, ld2, { reach := Sys2Proof.Machine.Reach.all, cause := Sys2Proof.Machine.ReleaseCause.start, tick := 0x0000000000000005#64 }, by decide +kernel⟩,
    ⟨bw upL, by decide +kernel⟩,
    ⟨bw upL, by decide +kernel⟩,
    ⟨relx (stg (um upL)) .fabricReset, { reach := Sys2Proof.Machine.Reach.all, cause := Sys2Proof.Machine.ReleaseCause.fabricReset, tick := 0x0000000000000005#64 }, by decide +kernel⟩⟩

/-- The hypotheses of Captures can be met. -/
theorem witness_Captures :
    (∃ (s : State), s.ready = true ∧ s.freezeBarred = false ∧ s.capState = 0 ∧ s.f F.CFG_CAP_CTRL_MODE 0 = 0) ∧
    (∃ (s : State), s.ready = true ∧ s.freezeBarred = false ∧ s.capState = 0 ∧ (s.f F.CFG_CAP_CTRL_MODE 0 = 1 ∧ s.now.toNat + 16 ≤ s.capTime ∨ s.f F.CFG_CAP_CTRL_MODE 0 = 2)) ∧
    (∃ (s : State), s.ready = true ∧ s.capState = 1 ∧ s.f F.CFG_CAP_CTRL_MODE 0 = 1 ∧ s.beam.flight.any (fun e => e.origin == .direct 34) = false) ∧
    (∃ (s : State) (e : DWord), s.ready = true ∧ s.capState = 1 ∧ s.beam.flight = [⟨.direct 34, e⟩] ∧ s.time.toNat < (e + 9).toNat) ∧
    (∃ (s : State), s.ready = true ∧ s.capState = 2) ∧
    (∃ (s : State), s.ready = true ∧ s.capState = 3) ∧
    (∃ (s : State), s.ready = true ∧ (s.capState = 0 ∨ s.capState = 2)) ∧
    (∃ (s : State), s.still = true ∧ s.capState = 4 ∧ s.mem.queues = [] ∧ s.fabric.latches = [] ∧ s.fabric.taps = []) :=
  ⟨⟨bw upL, by decide +kernel⟩,
    ⟨mode upL 2, by decide +kernel⟩,
    ⟨(mode (cap upL 1) 1).setPair .CFG_CAP_TIME_LO .CFG_CAP_TIME_HI 0 100, by decide +kernel⟩,
    ⟨(cap upL 1).putBeam ⟨[⟨.direct 34, 7⟩]⟩, 0x0000000000000007#64, by decide +kernel⟩,
    ⟨cap upL 2, by decide +kernel⟩,
    ⟨cap upL 3, by decide +kernel⟩,
    ⟨bw upL, by decide +kernel⟩,
    ⟨cap upL 4, by decide +kernel⟩⟩

/-- The hypotheses of Readbacks can be met. -/
theorem witness_Readbacks :
    (∃ (s : State) (who : Who) (rod : Nat) (frame : Nat), s.ready = true ∧ s.cfg.starting = none ∧ s.readbackLocked who = false ∧ s.f F.CFG_RB_CTRL_DIR 0 = 0 ∧ s.f F.CFG_RB_CTRL_PATH 0 = 0 ∧ s.f F.CFG_RB_FAR_STATE 0 = 0 ∧ s.f F.CFG_RB_FAR_ROD 0 = rod ∧ s.f F.CFG_RB_FAR_FRAME 0 = frame ∧ rod < Part.rods s.part ∧ frame < 960 ∧ 0 < s.f F.CFG_RB_COUNT_FRAMES 0 ∧ s.cfg.badFrames = []) ∧
    (∃ (s : State) (x : Transfer) (w : Word) (ws : List Word), s.transfers x = true ∧ x.restore = false ∧ x.toNoc = false ∧ x.words = w :: ws ∧ ws ≠ []) ∧
    (∃ (s : State) (x : Transfer), s.transfers x = true ∧ x.restore = true ∧ x.toNoc = false ∧ x.ended = none ∧ x.words.length < 131) ∧
    (∃ (s : State) (x : Transfer) (cause : Nat), s.transfers x = true ∧ x.ended = some cause ∧ cause < 8 ∧ x.left < 2 ^ 20) :=
  ⟨⟨upL.setF F.CFG_RB_COUNT_FRAMES 0 2, { origin := 0x20#8, ni := 0x99#8 }, 0, 0, by decide +kernel⟩,
    ⟨wt ({ tr with ended := some 5 }), { restore := false, toNoc := false, far := 5, state := false, left := 3, addr := 0, words := [0x00000001#32, 0x00000002#32, 0x00000003#32], who := { origin := 0x10#8, ni := 0x90#8 }, asked := false, ended := some 5 }, 0x00000001#32, [0x00000002#32, 0x00000003#32], by decide +kernel⟩,
    ⟨wt ({ tr with restore := true }), { restore := true, toNoc := false, far := 5, state := false, left := 3, addr := 0, words := [0x00000001#32, 0x00000002#32, 0x00000003#32], who := { origin := 0x10#8, ni := 0x90#8 }, asked := false, ended := none }, by decide +kernel⟩,
    ⟨wt ({ tr with ended := some 0, words := [] }), { restore := false, toNoc := false, far := 5, state := false, left := 3, addr := 0, words := [], who := { origin := 0x10#8, ni := 0x90#8 }, asked := false, ended := some 0 }, 0, by decide +kernel⟩⟩

end W07

namespace W08

def um (s : State) : State := ((s.setF F.DEV_STATUS_USER_MODE 0 1).setWord .PWR_REGION_STATUS 0 0x7FF)
def st0 : RoveStep := ⟨0, false, 15, 16, 15, none, false⟩
def rdy (s : State) : State :=
  let s := um s
  let s := s.setF F.REPAIR_STATUS_PUST_DONE 0 1
  let s := s.putRepair { s.repair with place := (List.range 16).map fun i => (i, i+1) }
  let s := ((s.setF F.REPAIR_GROUP_STATUS_GAP 0 16).setF F.REPAIR_GROUP_STATUS_STATE 0 0).setF F.REPAIR_ROD_STATUS_STATE 16 1
  (s.setWord .REPAIR_ROVE_MODE 0 2).putTime 100
def wst (st : RoveStep) (ph : Nat) : State := (rdy upL).stepPhase st ph

/-- The hypotheses of SelfTests can be met. -/
theorem witness_SelfTests :
    (∃ (s : State) (phys : Nat) (k : Nat) (x : SliceResult), s.ready = true ∧ s.selfTests = true ∧ phys < Part.physRods s.part ∧ s.slicing (phys / 17) = some (phys % 17) ∧ k < 17 ∧ k ≠ phys % 17 ∧ 17 * (phys / 17) + k ∉ s.repair.sliced ∧ 17 * (phys / 17) + k ∉ s.repair.retired ∧ s.repair.lowRate ≠ 0 ∧ x.rows.eraseDups.length ≤ 4 ∧ (x.spares.all fun m => decide (m.2 ≤ 4)) = true ∧ (x.cause = 0 ∨ 6 < x.cause)) ∧
    (∃ (s : State) (phys : Nat) (k : Nat) (x : SliceResult), s.ready = true ∧ s.selfTests = true ∧ phys < Part.physRods s.part ∧ s.slicing (phys / 17) = some (phys % 17) ∧ k < 17 ∧ k ≠ phys % 17 ∧ 17 * (phys / 17) + k ∉ s.repair.sliced ∧ 17 * (phys / 17) + k ∉ s.repair.retired ∧ s.repair.lowRate ≠ 0 ∧ (1 ≤ x.cause ∧ x.cause ≤ 6)) ∧
    (∃ (s : State) (phys : Nat) (k : Nat) (j : Nat) (low : Nat), s.ready = true ∧ s.selfTests = true ∧ phys < Part.physRods s.part ∧ s.slicing (phys / 17) = some (phys % 17) ∧ k < 17 ∧ k ≠ phys % 17 ∧ 17 * (phys / 17) + k ∉ s.repair.sliced ∧ 17 * (phys / 17) + k ∉ s.repair.retired ∧ s.repair.lowRate = 0 ∧ j < Part.physRods s.part ∧ j ≠ phys ∧ j ≠ 17 * (phys / 17) + k ∧ j / 17 = phys / 17 ∧ j ∉ s.repair.retired ∧ low < 627) ∧
    (∃ (s : State) (phys : Nat) (k : Nat), s.ready = true ∧ s.selfTests = true ∧ phys < Part.physRods s.part ∧ s.slicing (phys / 17) = some (phys % 17) ∧ k < 17 ∧ k ≠ phys % 17 ∧ 17 * (phys / 17) + k ∉ s.repair.sliced ∧ 17 * (phys / 17) + k ∉ s.repair.retired ∧ 100 ≤ s.repair.lowRate ∧ s.repair.lowRate ≤ 627) ∧
    (∃ (s : State) (page : Nat) (port : Nat) (peer : Nat), s.ready = true ∧ portEnd s.part page port = some (.node peer) ∧ pagePresent s.part page = true ∧ s.f F.REPAIR_BG_CTRL_LINK_EN 0 = 1 ∧ s.selfTests = false ∧ s.sliceRuns false (16 * page + port) = true ∧ s.phase ≠ 5) ∧
    (∃ (s : State) (pc : Nat), s.ready = true ∧ pc < 16 ∧ Part.hasHbm s.part = true ∧ s.f F.REPAIR_BG_CTRL_HBM_EN 0 = 1 ∧ (s.word .PWR_REGION_STATUS 0).getLsbD 8 = true ∧ s.sliceRuns true pc = true ∧ s.phase ≠ 5) ∧
    (∃ (s : State) (pc : Nat), s.ready = true ∧ pc < 16 ∧ Part.hasHbm s.part = true ∧ s.f F.REPAIR_BG_CTRL_HBM_EN 0 = 1 ∧ (s.word .PWR_REGION_STATUS 0).getLsbD 8 = true ∧ s.sliceRuns true pc = true ∧ s.phase ≠ 5) ∧
    (∃ (s : State) (hbm : Bool) (unit : Nat), s.ready = true ∧ (if hbm then Part.hasHbm s.part && s.on F.REPAIR_BG_CTRL_HBM_EN 0 && decide (unit < 16) else s.on F.REPAIR_BG_CTRL_LINK_EN 0 && pagePresent s.part (unit / 16)) = true ∧ s.repair.forced.contains (hbm, unit) = false ∧ s.repair.hbmPreempts = [] ∧ s.repair.linkPreempts = []) :=
  ⟨⟨upL.putRepair { upL.repair with sliced := [2], lowRate := 627, sliceFrom := [(0, 3000)] }, 0, 16, { cause := 0, rows := [3, 3, 4], spares := [(0, 2), (5, 4)] }, by decide +kernel⟩,
    ⟨upL.putRepair { upL.repair with sliced := [2], lowRate := 627, sliceFrom := [(0, 3000)] }, 0, 4, { cause := 4, rows := [1, 2, 3, 4, 5], spares := [] }, by decide +kernel⟩,
    ⟨upL.putRepair { upL.repair with sliced := [0,1] }, 2, 5, 4, 16, by decide +kernel⟩,
    ⟨upL.putRepair { upL.repair with sliced := [0,1], lowRate := 300, sliceFrom := [(0, 3000)] }, 2, 16, by decide +kernel⟩,
    ⟨((um upL).setF F.REPAIR_STATUS_PUST_DONE 0 1).setWord .REPAIR_BG_CTRL 0 0x70703, 2, 1, 1, by decide +kernel⟩,
    ⟨((um upL).setF F.REPAIR_STATUS_PUST_DONE 0 1).setWord .REPAIR_BG_CTRL 0 0x70703, 2, by decide +kernel⟩,
    ⟨((um upL).setF F.REPAIR_STATUS_PUST_DONE 0 1).setWord .REPAIR_BG_CTRL 0 0x70703, 0, by decide +kernel⟩,
    ⟨upL.putRepair { upL.repair with sliced := [0,1] }, true, 1, by decide +kernel⟩⟩

/-- The hypotheses of RovingSteps can be met. -/
theorem witness_RovingSteps :
    (∃ (s : State) (g : Nat) (st : RoveStep), s.ready = true ∧ s.repair.step = none ∧ s.repair.migrations = [] ∧ s.repair.asked = [] ∧ s.repair.deferred = [] ∧ g < Part.groups s.part ∧ g < 16 ∧ s.f F.REPAIR_GROUP_STATUS_STATE g = 0 ∧ s.roveMode g ≠ 0 ∧ (s.roveMode g = 1 → s.phase = 0) ∧ s.stepOf g (s.on F.REPAIR_GROUP_STATUS_DIR g) false = some st ∧ s.stepChecks g st.logical = true ∧ s.spareReady g = true ∧ st.src < 512 ∧ st.dst < 512) ∧
    (∃ (s : State) (st : RoveStep), s.stepAlone st 1 = true) ∧
    (∃ (s : State) (st : RoveStep), s.stepAlone st 1 = true ∧ st.frozenAt = none ∧ s.f F.REPAIR_ROD_STATUS_STATE st.dst < 3) ∧
    (∃ (s : State) (st : RoveStep), s.stepAlone st 2 = true ∧ st.frozenAt = none ∧ s.f F.REPAIR_ROD_STATUS_STATE st.dst < 3) ∧
    (∃ (s : State) (st : RoveStep), s.stepAlone st 2 = true) ∧
    (∃ (s : State) (st : RoveStep) (t0 : DWord) (wait : Nat), s.stepAlone st 3 = true ∧ st.frozenAt = some t0 ∧ st.switched = false ∧ (t0 + 16).toNat ≤ s.time.toNat ∧ (s.time + BitVec.ofNat 64 wait).toNat ≤ (t0 + BitVec.ofNat 64 (s.pauseLimit st)).toNat) ∧
    (∃ (s : State) (st : RoveStep) (t0 : DWord), s.stepAlone st 3 = true ∧ st.frozenAt = some t0 ∧ st.switched = true) ∧
    (∃ (s : State) (st : RoveStep) (x : SliceResult), s.stepAlone st 4 = true ∧ x.rows.eraseDups.length ≤ 4 ∧ (x.spares.all fun m => decide (m.2 ≤ 4)) = true ∧ (x.cause = 0 ∨ 6 < x.cause)) ∧
    (∃ (s : State) (st : RoveStep) (x : SliceResult), s.stepAlone st 4 = true ∧ 1 ≤ x.cause ∧ x.cause ≤ 6) ∧
    (∃ (s : State) (st : RoveStep), s.stepAlone st 4 = true ∧ s.selfTests = false) ∧
    (∃ (s : State) (st : RoveStep) (t0 : DWord), s.stepAlone st 3 = true ∧ st.frozenAt = some t0 ∧ st.switched = false) :=
  ⟨⟨rdy up, 0, { group := 0, migration := false, src := 15, dst := 16, logical := 15, frozenAt := none, switched := false }, by decide +kernel⟩,
    ⟨wst st0 1, { group := 0, migration := false, src := 15, dst := 16, logical := 15, frozenAt := none, switched := false }, by decide +kernel⟩,
    ⟨wst st0 1, { group := 0, migration := false, src := 15, dst := 16, logical := 15, frozenAt := none, switched := false }, by decide +kernel⟩,
    ⟨wst st0 2, { group := 0, migration := false, src := 15, dst := 16, logical := 15, frozenAt := none, switched := false }, by decide +kernel⟩,
    ⟨wst st0 2, { group := 0, migration := false, src := 15, dst := 16, logical := 15, frozenAt := none, switched := false }, by decide +kernel⟩,
    ⟨wst ({ st0 with frozenAt := some 5 }) 3, { group := 0, migration := false, src := 15, dst := 16, logical := 15, frozenAt := some 0x0000000000000005#64, switched := false }, 0x0000000000000005#64, 3, by decide +kernel⟩,
    ⟨wst ({ st0 with frozenAt := some 5, switched := true }) 3, { group := 0, migration := false, src := 15, dst := 16, logical := 15, frozenAt := some 0x0000000000000005#64, switched := true }, 0x0000000000000005#64, by decide +kernel⟩,
    ⟨wst st0 4, { group := 0, migration := false, src := 15, dst := 16, logical := 15, frozenAt := none, switched := false }, { cause := 0, rows := [3, 3, 4], spares := [(0, 2), (5, 4)] }, by decide +kernel⟩,
    ⟨wst st0 4, { group := 0, migration := false, src := 15, dst := 16, logical := 15, frozenAt := none, switched := false }, { cause := 3, rows := [1, 2], spares := [] }, by decide +kernel⟩,
    ⟨wst st0 4, { group := 0, migration := false, src := 15, dst := 16, logical := 15, frozenAt := none, switched := false }, by decide +kernel⟩,
    ⟨wst ({ st0 with frozenAt := some 5 }) 3, { group := 0, migration := false, src := 15, dst := 16, logical := 15, frozenAt := some 0x0000000000000005#64, switched := false }, 0x0000000000000005#64, by decide +kernel⟩⟩

/-- The hypotheses of RepairCommands can be met. -/
theorem witness_RepairCommands :
    (∃ (s : State) (g : Nat), s.ready = true ∧ g < 16 ∧ s.repairRefusal 1 g 0 = none ∧ s.repair.step.isSome = true ∧ s.repair.migrations = [] ∧ s.repair.asked = []) ∧
    (∃ (s : State) (g : Nat) (st : RoveStep), s.ready = true ∧ g < 16 ∧ s.repairRefusal 1 g 0 = none ∧ s.repair.migrations = [] ∧ s.repair.asked = [] ∧ s.stepOf g (s.on F.REPAIR_GROUP_STATUS_DIR g) false = some st ∧ s.stepChecks g st.logical = true ∧ s.spareReady g = true ∧ st.src < 512 ∧ st.dst < 512) ∧
    (∃ (s : State) (g : Nat) (why : Reason), s.ready = true ∧ g < 16 ∧ s.repairRefusal 1 g 0 = some why) ∧
    (∃ (s : State) (rod : Nat), s.ready = true ∧ rod < 272 ∧ s.repairRefusal 2 0 rod = none ∧ s.repair.step.isSome = true ∧ s.stepAt 4 = none ∧ s.f F.REPAIR_ROD_STATUS_STATE rod = 0 ∧ (s.hosted rod).isSome = true ∧ s.migrates (rod / 17) = true ∧ s.repair.migrations = [] ∧ s.repair.asked = []) ∧
    (∃ (s : State) (g : Nat), s.ready = true ∧ g < 16 ∧ s.repairRefusal 3 g 0 = none) ∧
    (∃ (s : State) (rod : Nat), s.ready = true ∧ rod < Part.physRods s.part ∧ s.f F.REPAIR_STATUS_PUST_DONE 0 = 1 ∧ s.repair.step.isSome = true ∧ s.stepAt 4 = none ∧ s.f F.REPAIR_ROD_STATUS_STATE rod = 0 ∧ (s.hosted rod).isSome = true ∧ s.migrates (rod / 17) = true ∧ s.repair.migrations = [] ∧ s.repair.asked = []) :=
  ⟨⟨wst ({ st0 with frozenAt := some 5, switched := true }) 3, 0, by decide +kernel⟩,
    ⟨rdy up, 0, { group := 0, migration := false, src := 15, dst := 16, logical := 15, frozenAt := none, switched := false }, by decide +kernel⟩,
    ⟨upL, 2, (Sys2Proof.Machine.Reason.command), by decide +kernel⟩,
    ⟨wst ({ st0 with frozenAt := some 5 }) 3, 2, by decide +kernel⟩,
    ⟨rdy upL, 0, by decide +kernel⟩,
    ⟨wst ({ st0 with frozenAt := some 5 }) 3, 0, by decide +kernel⟩⟩

end W08

namespace W09

def um (s : State) : State := (((s.setF F.DEV_STATUS_USER_MODE 0 1).setWord .PWR_REGION_STATUS 0 0x7FF).putNet { s.net with used := BitVec.allOnes 96 })
def b0 (s : State) : State := let s := ((um s).setF F.REPAIR_STATUS_PUST_DONE 0 0).putTime 100000; [3,5,0x60,0x61,0x90,0x99].foldl (fun s n => (s.setF F.DEV_XS_STATE_STATE n 0).setF F.NI_FENCE_STATUS_STATE n 0) s
def pk (d a : Nat) : Packet := { cmd := .rd, src := 5, dest := d, tag := 7, record := 0, err := 0, attr := 0, addr := a, len := 7, beFirst := 0x0F00, beLast := 0xF0, operand := 0x1FFFFFFFF, injTime := 0, route := 0xFFFFFFFFF002, vn := 1, prio := 0, data := [1,2,3,4,5,6,7,8], poison := false }
def pks := #[pk 0x60 0x10008, { pk 0x60 0x1000C with len := 3, data := [9,8,7,6], beFirst := 0xFFFF }, pk 0x61 0x11038, pk 3 0x40C0000000, { pk 3 0x40C0000000 with vn := 3, operand := 0x10000 }, pk 3 0x40C0000000, { pk 3 0x2000100000 with addr := csrOffset .CN_AGE_CFG 3 , beFirst := 0 }, { pk 3 0 with src := 3, dest := 5 }, { pk 3 0 with src := 3, dest := 5, vn := 2 }]
def csrp : Packet := { pk 0x99 (csrBase + csrOffset .DEV_EVT_HOST_MASK 0) with len := 3, cmd := .rd, vn := 0 }
def rq : Request := { cmd := .rd, addr := 0x4140000000, len := 7, be := [], operand := 0, data := [], dbg := false, mgmt := false, urgent := false, tag := 9, use := .none }
def tx : Txn := ⟨7, 5, .rd, 0x1000, 7, .fabric 1, 50, 0, none⟩
def del : Delivered := ⟨1, pk 3 0x40C0000000, 60, 0⟩
def fu : FlowUnit := ⟨1, true, true, 1, false, headerPayload (pk 3 0), []⟩
def u4 : FlowUnit := { fu with vn := 0, tail := false, payload := headerPayload { pk 5 0 with src := 3, route := 0xFFFFFFF21FFFFFF4 } }
def ni3 (f : NiState → NiState) (s : State) : State := s.setNi 3 (f (s.ni 3))
def lat (s : State) (lo : Word) : State := s.putLatches [(regKey .NI_RT_DATA_LO 3, lo)]
def e05 : DWord := defaultEntry up.part 3 5
def fen (s : State) (k : Nat) : State := s.setF F.NI_FENCE_STATUS_STATE 3 k
def urt (s : State) : State := s.setNi 4 { s.ni 4 with routes := [(3, e05 ||| 0x4000000000000)] }
def rt (f : RouterState → RouterState) (s : State) : State := s.setRouter 3 (f (s.router 3))
def full : EdgeState := { niInit.edge with out := (List.range 4).map fun k => (k, [1,2,3,4]) }
def ws : List (BitVec 72) := [headerBead { pk 3 0x4140000008 with attr := 16 }, handleBead 9 (pk 3 0)]
def withDown (p : Packet) : State := (b0 upL).setCsf p.dest { csfInit with down := [(p, .clean)] }
def withArr (p : Packet) : State := (b0 upL).setNi p.dest { (b0 upL).ni p.dest with arrived := [(p, .clean)], edge := full, ev := [(3, 4)], outstanding := [{ tx with tag := 8 }, tx] }
def hb : List State := [Cmd.rd, .wr, .wrp, .fadd].flatMap fun c => (pks.toList.take 3).map fun p => withDown { p with cmd := c, vn := if c == .wrp then p.vn else 0 }
def fb : List State := [withArr { pk 3 0x40C0000000 with cmd := .rd, vn := 0 }, withArr { pk 3 0x40C0000000 with cmd := .wrp }, withArr { pk 3 0x40C0000000 with cmd := .evt, vn := 3, operand := 0x10000 },
  withArr { pk 3 0 with cmd := .rspData }, withArr { pk 3 0 with cmd := .rspOk }, withArr { pk 3 0 with cmd := .rspErr }, withDown csrp, (withArr { pk 3 0 with cmd := .rd }).setF F.NI_FENCE_STATUS_STATE 3 2,
  (b0 upL).setNi 3 { niInit with edge := { full with iqWords := ws } },
  ((b0 upL).setRouter 3 { routerInit with consumed := [{ (pks.getD 6 (pk 3 0)) with cmd := .cfg }] }),
  (b0 upL).setNi 3 { niInit with out := [fu] }, (b0 upL).setNi 3 { niInit with out := [{ fu with vn := 0, tail := false, payload := headerPayload { pk 5 0 with src := 3, route := 0xFFFFFFF21FFFFFF4 } }] },
  (b0 upL).setCsf 0x60 { csfInit with down := [(pk 0x60 0, .clean)], up := [rq] }, (b0 upL).setCsf 0x60 { csfInit with up := [rq, rq] },
  (b0 upL).setNi 3 { niInit with edge := full }, (b0 upL).setNi 5 { niInit with edge := { niInit.edge with iq := [5], out := [(1,[6])] } }] ++
  [0, 3, 255].map (fun w => ((b0 upL).setF F.DEV_XS_STATE_STATE 3 1).setCsh 3 ⟨true, w⟩)

/-- The hypotheses of PacketsAtTargets can be met. -/
theorem witness_PacketsAtTargets :
    (∃ (s : State) (p : Packet), s.reachesHbm { p with cmd := .rd, vn := 0 } = true ∧ s.hbmBad p.addr (p.len + 1) = []) ∧
    (∃ (s : State) (p : Packet), s.reachesHbm { p with cmd := .wr, vn := 0 } = true ∧ p.data.length = p.len + 1 ∧ noByte p = false ∧ s.ringAt p.addr = none) ∧
    (∃ (s : State) (p : Packet), s.reachesHbm { p with cmd := .wrp } = true ∧ p.data.length = p.len + 1 ∧ s.ringAt p.addr = none) ∧
    (∃ (s : State) (p : Packet), s.reachesHbm { p with cmd := .fadd, vn := 0 } = true ∧ (p.len + 1 = 4 ∨ p.len + 1 = 8) ∧ p.addr % (p.len + 1) = 0 ∧ s.hbmBad p.addr (p.len + 1) = []) ∧
    (∃ (s : State) (p : Packet) (h : Nat), s.ready = true ∧ s.reachesUnit { p with cmd := .rd, vn := 0 } = true ∧ p.dest < 0x60 ∧ decodeAddr s.part p.addr = .ni p.dest ∧ (p.addr < csrBase ∨ csrBase + 0x10000000 ≤ p.addr) ∧ s.freeHandle p.dest = some h ∧ s.channelFull p.dest 1 = true) ∧
    (∃ (s : State) (p : Packet), s.ready = true ∧ s.reachesUnit { p with cmd := .wrp } = true ∧ p.dest < 0x60 ∧ p.vn ≠ 2 ∧ decodeAddr s.part p.addr = .ni p.dest ∧ (p.addr < csrBase ∨ csrBase + 0x10000000 ≤ p.addr) ∧ s.channelFull p.dest 1 = true) ∧
    (∃ (s : State) (p : Packet), s.ready = true ∧ s.reachesUnit { p with cmd := .evt } = true ∧ p.dest < 0x60 ∧ p.vn = 3 ∧ p.operand.toNat % 65536 = 0 ∧ (s.ni p.dest).ev.length < 16 ∧ s.channelFull p.dest 3 = true) ∧
    (∃ (s : State) (p : Packet), s.ready = true ∧ s.reachesUnit { p with cmd := .rd, vn := 0 } = true ∧ p.dest = 0x99 ∧ p.addr = csrBase + csrOffset .DEV_EVT_HOST_MASK 0 ∧ p.len = 3 ∧ entryValid (s.activeEntry p.dest p.src) = true ∧ s.sendsNow p.dest 1 = true) :=
  ⟨⟨(hb.getD 1 State.reset), { cmd := Sys2Proof.Cmd.rd, src := 5, dest := 96, tag := 7, record := 0x0000#16, err := 0, attr := 0x00#8, addr := 65548, len := 3, beFirst := 0x000000000000ffff#64, beLast := 0x00000000000000f0#64, operand := 0x00000001ffffffff#64, injTime := 0x00000000#32, route := 0xfffffffff002#48, vn := 1, prio := 0, data := [0x09#8, 0x08#8, 0x07#8, 0x06#8], poison := false }, by decide +kernel⟩,
    ⟨(hb.getD 3 State.reset), { cmd := Sys2Proof.Cmd.rd, src := 5, dest := 96, tag := 7, record := 0x0000#16, err := 0, attr := 0x00#8, addr := 65544, len := 7, beFirst := 0x0000000000000f00#64, beLast := 0x00000000000000f0#64, operand := 0x00000001ffffffff#64, injTime := 0x00000000#32, route := 0xfffffffff002#48, vn := 1, prio := 0, data := [0x01#8, 0x02#8, 0x03#8, 0x04#8, 0x05#8, 0x06#8, 0x07#8, 0x08#8], poison := false }, by decide +kernel⟩,
    ⟨(hb.getD 7 State.reset), { cmd := Sys2Proof.Cmd.rd, src := 5, dest := 96, tag := 7, record := 0x0000#16, err := 0, attr := 0x00#8, addr := 65548, len := 3, beFirst := 0x000000000000ffff#64, beLast := 0x00000000000000f0#64, operand := 0x00000001ffffffff#64, injTime := 0x00000000#32, route := 0xfffffffff002#48, vn := 1, prio := 0, data := [0x09#8, 0x08#8, 0x07#8, 0x06#8], poison := false }, by decide +kernel⟩,
    ⟨(hb.getD 9 State.reset), { cmd := Sys2Proof.Cmd.rd, src := 5, dest := 96, tag := 7, record := 0x0000#16, err := 0, attr := 0x00#8, addr := 65544, len := 7, beFirst := 0x0000000000000f00#64, beLast := 0x00000000000000f0#64, operand := 0x00000001ffffffff#64, injTime := 0x00000000#32, route := 0xfffffffff002#48, vn := 1, prio := 0, data := [0x01#8, 0x02#8, 0x03#8, 0x04#8, 0x05#8, 0x06#8, 0x07#8, 0x08#8], poison := false }, by decide +kernel⟩,
    ⟨withArr { pk 3 0x40C0000000 with cmd := .rd, vn := 0 }, { cmd := Sys2Proof.Cmd.rd, src := 5, dest := 3, tag := 7, record := 0x0000#16, err := 0, attr := 0x00#8, addr := 278099132416, len := 7, beFirst := 0x0000000000000f00#64, beLast := 0x00000000000000f0#64, operand := 0x00000001ffffffff#64, injTime := 0x00000000#32, route := 0xfffffffff002#48, vn := 1, prio := 0, data := [0x01#8, 0x02#8, 0x03#8, 0x04#8, 0x05#8, 0x06#8, 0x07#8, 0x08#8], poison := false }, 0, by decide +kernel⟩,
    ⟨withArr { pk 3 0x40C0000000 with cmd := .wrp }, { cmd := Sys2Proof.Cmd.rd, src := 5, dest := 3, tag := 7, record := 0x0000#16, err := 0, attr := 0x00#8, addr := 278099132416, len := 7, beFirst := 0x0000000000000f00#64, beLast := 0x00000000000000f0#64, operand := 0x00000001ffffffff#64, injTime := 0x00000000#32, route := 0xfffffffff002#48, vn := 1, prio := 0, data := [0x01#8, 0x02#8, 0x03#8, 0x04#8, 0x05#8, 0x06#8, 0x07#8, 0x08#8], poison := false }, by decide +kernel⟩,
    ⟨withArr { pk 3 0x40C0000000 with cmd := .evt, vn := 3, operand := 0x10000 }, { cmd := Sys2Proof.Cmd.rd, src := 5, dest := 3, tag := 7, record := 0x0000#16, err := 0, attr := 0x00#8, addr := 278099132416, len := 7, beFirst := 0x0000000000000f00#64, beLast := 0x00000000000000f0#64, operand := 0x0000000000010000#64, injTime := 0x00000000#32, route := 0xfffffffff002#48, vn := 3, prio := 0, data := [0x01#8, 0x02#8, 0x03#8, 0x04#8, 0x05#8, 0x06#8, 0x07#8, 0x08#8], poison := false }, by decide +kernel⟩,
    ⟨withDown csrp, { cmd := Sys2Proof.Cmd.rd, src := 5, dest := 153, tag := 7, record := 0x0000#16, err := 0, attr := 0x00#8, addr := 137438953540, len := 3, beFirst := 0x0000000000000f00#64, beLast := 0x00000000000000f0#64, operand := 0x00000001ffffffff#64, injTime := 0x00000000#32, route := 0xfffffffff002#48, vn := 0, prio := 0, data := [0x01#8, 0x02#8, 0x03#8, 0x04#8, 0x05#8, 0x06#8, 0x07#8, 0x08#8], poison := false }, by decide +kernel⟩⟩

/-- The hypotheses of Transactions can be met. -/
theorem witness_Transactions :
    (∃ (s : State) (n : Nat) (d : Nat) (tag : Nat) (r : Request), s.ready = true ∧ 0x60 ≤ n ∧ s.niTakes n = true ∧ (s.ni n).csf.up = [] ∧ r.cmd = .rd ∧ r.urgent = false ∧ r.mgmt = false ∧ r.dbg = false ∧ s.freeTag n = some tag ∧ s.responseRoom n r = true ∧ decodeAddr s.part r.addr = .ni d ∧ entryValid (s.activeEntry n d) = true ∧ s.sendsNow n 0 = true ∧ s.recordOf n = none) ∧
    (∃ (s : State) (n : Nat) (d : Nat) (k : Nat) (r : Request), s.ready = true ∧ n < 0x60 ∧ niPresent s.part n = true ∧ s.funcState (.ni n) = 1 ∧ s.fence n < 2 ∧ (s.ni n).edge.iq = [] ∧ requestBeads (s.ni n).edge.iqWords ≤ (s.ni n).edge.iqWords.length ∧ r = requestOf (s.ni n).edge.iqWords ∧ r.cmd = .rd ∧ r.urgent = false ∧ r.mgmt = false ∧ r.use = .fabric k ∧ k < 4 ∧ s.tagTaken n r.tag = false ∧ r.addr / 4096 = (r.addr + r.len) / 4096 ∧ s.responseRoom n r = true ∧ decodeAddr s.part r.addr = .ni d ∧ entryValid (s.activeEntry n d) = true ∧ s.sendsNow n 0 = true ∧ s.recordOf n = none) ∧
    (∃ (s : State) (p : Packet) (x : Txn), s.awaits p.dest p.tag x = true ∧ x.dest = p.src ∧ p.vn < 2 ∧ s.landing { p with cmd := .rspData } = some .clean) ∧
    (∃ (s : State) (p : Packet) (x : Txn), s.awaits p.dest p.tag x = true ∧ x.dest = p.src ∧ p.vn < 2 ∧ s.landing { p with cmd := .rspOk } = some .clean) ∧
    (∃ (s : State) (p : Packet) (x : Txn), s.awaits p.dest p.tag x = true ∧ x.dest = p.src ∧ p.vn < 2 ∧ s.landing { p with cmd := .rspErr } = some .clean) ∧
    (∃ (s : State) (n : Nat) (tag : Nat) (x : Txn), s.awaits n tag x = true ∧ s.repair.step = none ∧ (s.ni n).held = []) ∧
    (∃ (s : State) (n : Nat) (tag : Nat) (since : DWord), s.ready = true ∧ (s.ni n).quarantine = [(tag, since)] ∧ (s.ni n).still = true) ∧
    (∃ (s : State) (n : Nat) (h : Nat) (d : Delivered), s.ready = true ∧ (s.ni n).delivered = [d] ∧ d.handle = h ∧ d.packet.dest = n ∧ s.repair.step = none ∧ entryValid (s.activeEntry n d.packet.src) = true ∧ s.sendsNow n 1 = true) ∧
    (∃ (s : State) (page : Nat) (q : Nat) (to' : Nat) (p : Packet), s.ready = true ∧ pagePresent s.part page = true ∧ page < 256 ∧ p.beFirst = 0 ∧ p.addr % 4096 = csrOffset .CN_AGE_CFG page % 4096 ∧ s.router page = { routerInit with consumed := [{ p with cmd := .cfg }] } ∧ (defaultPorts s.part page (pageOfNi p.src)).head? = some q ∧ portEnd s.part page q = some (.node to') ∧ s.outputDown page q = false ∧ s.routerHolds page = false ∧ s.router to' = routerInit ∧ 2 ≤ s.inputRoom to' 1 ∧ page ≠ to') :=
  ⟨⟨(withArr { pk 3 0 with cmd := .rd }).setF F.NI_FENCE_STATUS_STATE 3 2, 96, 5, 0, { cmd := Sys2Proof.Cmd.rd, addr := 280246616064, len := 7, be := [], operand := 0x0000000000000000#64, data := [], dbg := false, mgmt := false, urgent := false, tag := 9, use := Sys2Proof.Use.none }, by decide +kernel⟩,
    ⟨(b0 upL).setNi 3 { niInit with edge := { full with iqWords := ws } }, 3, 5, 2, { cmd := Sys2Proof.Cmd.rd, addr := 280246616072, len := 7, be := [], operand := 0x0000000000000000#64, data := [], dbg := false, mgmt := false, urgent := false, tag := 9, use := Sys2Proof.Use.fabric 2 }, by decide +kernel⟩,
    ⟨withArr { pk 3 0 with cmd := .rspData }, { cmd := Sys2Proof.Cmd.rd, src := 5, dest := 3, tag := 7, record := 0x0000#16, err := 0, attr := 0x00#8, addr := 0, len := 7, beFirst := 0x0000000000000f00#64, beLast := 0x00000000000000f0#64, operand := 0x00000001ffffffff#64, injTime := 0x00000000#32, route := 0xfffffffff002#48, vn := 1, prio := 0, data := [0x01#8, 0x02#8, 0x03#8, 0x04#8, 0x05#8, 0x06#8, 0x07#8, 0x08#8], poison := false }, { tag := 7, dest := 5, cmd := Sys2Proof.Cmd.rd, addr := 4096, len := 7, use := Sys2Proof.Use.fabric 1, start := 0x0000000000000032#64, held := 0x0000000000000000#64, record := none }, by decide +kernel⟩,
    ⟨withArr { pk 3 0 with cmd := .rspOk }, { cmd := Sys2Proof.Cmd.rd, src := 5, dest := 3, tag := 7, record := 0x0000#16, err := 0, attr := 0x00#8, addr := 0, len := 7, beFirst := 0x0000000000000f00#64, beLast := 0x00000000000000f0#64, operand := 0x00000001ffffffff#64, injTime := 0x00000000#32, route := 0xfffffffff002#48, vn := 1, prio := 0, data := [0x01#8, 0x02#8, 0x03#8, 0x04#8, 0x05#8, 0x06#8, 0x07#8, 0x08#8], poison := false }, { tag := 7, dest := 5, cmd := Sys2Proof.Cmd.rd, addr := 4096, len := 7, use := Sys2Proof.Use.fabric 1, start := 0x0000000000000032#64, held := 0x0000000000000000#64, record := none }, by decide +kernel⟩,
    ⟨withArr { pk 3 0 with cmd := .rspErr }, { cmd := Sys2Proof.Cmd.rd, src := 5, dest := 3, tag := 7, record := 0x0000#16, err := 0, attr := 0x00#8, addr := 0, len := 7, beFirst := 0x0000000000000f00#64, beLast := 0x00000000000000f0#64, operand := 0x00000001ffffffff#64, injTime := 0x00000000#32, route := 0xfffffffff002#48, vn := 1, prio := 0, data := [0x01#8, 0x02#8, 0x03#8, 0x04#8, 0x05#8, 0x06#8, 0x07#8, 0x08#8], poison := false }, { tag := 7, dest := 5, cmd := Sys2Proof.Cmd.rd, addr := 4096, len := 7, use := Sys2Proof.Use.fabric 1, start := 0x0000000000000032#64, held := 0x0000000000000000#64, record := none }, by decide +kernel⟩,
    ⟨withArr { pk 3 0x40C0000000 with cmd := .wrp }, 3, 7, { tag := 7, dest := 5, cmd := Sys2Proof.Cmd.rd, addr := 4096, len := 7, use := Sys2Proof.Use.fabric 1, start := 0x0000000000000032#64, held := 0x0000000000000000#64, record := none }, by decide +kernel⟩,
    ⟨ni3 (fun v => { v with quarantine := [(7, 60)] }) (b0 upL), 3, 7, 0x000000000000003c#64, by decide +kernel⟩,
    ⟨ni3 (fun v => { v with delivered := [del] }) (b0 upL), 3, 1, { handle := 1, packet := { cmd := Sys2Proof.Cmd.rd, src := 5, dest := 3, tag := 7, record := 0x0000#16, err := 0, attr := 0x00#8, addr := 278099132416, len := 7, beFirst := 0x0000000000000f00#64, beLast := 0x00000000000000f0#64, operand := 0x00000001ffffffff#64, injTime := 0x00000000#32, route := 0xfffffffff002#48, vn := 1, prio := 0, data := [0x01#8, 0x02#8, 0x03#8, 0x04#8, 0x05#8, 0x06#8, 0x07#8, 0x08#8], poison := false }, since := 0x000000000000003c#64, held := 0x0000000000000000#64 }, by decide +kernel⟩,
    ⟨((b0 upL).setRouter 3 { routerInit with consumed := [{ (pks.getD 6 (pk 3 0)) with cmd := .cfg }] }), 3, 2, 4, { cmd := Sys2Proof.Cmd.rd, src := 5, dest := 3, tag := 7, record := 0x0000#16, err := 0, attr := 0x00#8, addr := 1060880, len := 7, beFirst := 0x0000000000000000#64, beLast := 0x00000000000000f0#64, operand := 0x00000001ffffffff#64, injTime := 0x00000000#32, route := 0xfffffffff002#48, vn := 1, prio := 0, data := [0x01#8, 0x02#8, 0x03#8, 0x04#8, 0x05#8, 0x06#8, 0x07#8, 0x08#8], poison := false }, by decide +kernel⟩⟩

/-- The hypotheses of RouteTables can be met. -/
theorem witness_RouteTables :
    (∃ (s : State) (n : Nat) (hi : Word) (lo : Word), s.ready = true ∧ n < 256 ∧ s.f F.NI_RT_INDEX_ACTIVE n = 0 ∧ s.latches = [(regKey .NI_RT_DATA_LO n, lo)] ∧ s.routeCause n (s.f F.NI_RT_INDEX_ENTRY n) (BitVec.ofNat 64 (lo.toNat + 2 ^ 32 * (hi.toNat % 2 ^ 20))) = 0) ∧
    (∃ (s : State) (n : Nat) (hi : Word) (lo : Word), s.ready = true ∧ n < 256 ∧ s.f F.NI_RT_INDEX_ACTIVE n = 0 ∧ s.f F.NI_RT_INDEX_AUTOINC n = 0 ∧ s.latches = [(regKey .NI_RT_DATA_LO n, lo)] ∧ s.routeCause n (s.f F.NI_RT_INDEX_ENTRY n) (BitVec.ofNat 64 (lo.toNat + 2 ^ 32 * (hi.toNat % 2 ^ 20))) ≠ 0) ∧
    (∃ (s : State), s.ready = true) ∧
    (∃ (s : State) (n : Nat), s.ready = true ∧ n < 256 ∧ s.uRoutesOf n (1 - s.activeBank n) = [] ∧ s.recordOf n = none) ∧
    (∃ (s : State) (n : Nat), s.ready = true ∧ n < 256) ∧
    (∃ (s : State) (n : Nat), s.ready = true ∧ n < 256 ∧ s.f F.NI_RT_CTRL_SWAP n = 1 ∧ s.uRoutesOf n (1 - s.activeBank n) = [] ∧ s.recordOf n = none) ∧
    (∃ (s : State) (n : Nat), s.ready = true ∧ n < 256) :=
  ⟨⟨(lat (b0 upL) (e05.setWidth 32)).setWord .NI_RT_INDEX 3 0x205, 3, 0x00010000#32, 0xffffff22#32, by decide +kernel⟩,
    ⟨(lat (b0 upL) (e05.setWidth 32)).setF F.NI_RT_INDEX_ENTRY 3 5, 3, 0xffffff22#32, 0xffffff22#32, by decide +kernel⟩,
    ⟨(withArr { pk 3 0 with cmd := .rd }).setF F.NI_FENCE_STATUS_STATE 3 2, by decide +kernel⟩,
    ⟨(withArr { pk 3 0 with cmd := .rd }).setF F.NI_FENCE_STATUS_STATE 3 2, 0, by decide +kernel⟩,
    ⟨(withArr { pk 3 0 with cmd := .rd }).setF F.NI_FENCE_STATUS_STATE 3 2, 0, by decide +kernel⟩,
    ⟨(b0 upL).setF F.NI_RT_CTRL_SWAP 3 1, 3, by decide +kernel⟩,
    ⟨(withArr { pk 3 0 with cmd := .rd }).setF F.NI_FENCE_STATUS_STATE 3 2, 4, by decide +kernel⟩⟩

/-- The hypotheses of FencesAndStations can be met. -/
theorem witness_FencesAndStations :
    (∃ (s : State) (n : Nat), s.ready = true ∧ niPresent s.part n = true ∧ n < 0x99 ∧ s.fence n = 0 ∧ s.f F.NI_FENCE_CTRL_LIMIT n ≠ 0) ∧
    (∃ (s : State) (n : Nat), s.ready = true ∧ n < 256 ∧ s.fence n = 1 ∧ s.fenceDry n = true) ∧
    (∃ (s : State) (n : Nat), s.ready = true ∧ n < 256 ∧ s.fence n = 1 ∧ (s.ni n).fenceLimit ≠ 0 ∧ s.drainHeld n = false ∧ (s.ni n).delivered = [] ∧ (s.ni n).posted = [] ∧ (s.ni n).fenceAsked = [5]) ∧
    (∃ (s : State) (n : Nat), s.ready = true ∧ niPresent s.part n = true ∧ 2 ≤ s.fence n ∧ s.niPowered n = true ∧ s.niSpanStopped n = false ∧ s.niUnused n = false) ∧
    (∃ (s : State) (p : Packet) (x : PacketEcc), s.ready = true ∧ s.routerHolds (pageOfNi p.dest) = false ∧ s.fence p.dest = 2 ∧ s.landing p = some x ∧ (p.cmd = .rd ∨ p.cmd = .wr ∨ p.cmd = .fadd) ∧ entryValid (s.activeEntry p.dest p.src) = true ∧ s.sendsNow p.dest 1 = true) ∧
    (∃ (s : State) (n : Nat) (dest : Nat) (cause : Nat) (at' : DWord), s.ready = true ∧ (s.ni n).gates = [⟨dest, cause, some at'⟩]) ∧
    (∃ (s : State) (n : Nat) (vn : Nat) (p : Packet), s.ready = true ∧ vn < 2 ∧ (s.ni n).held = [p] ∧ p.vn = vn ∧ p.src = n ∧ s.f F.NI_REG_CTRL_EN (4 * n + vn) = 0 ∧ s.localUp n = true) ∧
    (∃ (s : State) (n : Nat) (p : Packet), s.ready = true ∧ (s.ni n).held = [p] ∧ p.vn = 2 ∧ p.src = n ∧ s.f F.NI_REG_CTRL_EN (4 * n + 2) = 0 ∧ s.localUp n = true ∧ (s.ni n).gates = [] ∧ (s.ni n).uLast = none ∧ (s.ni n).uLastTo = []) ∧
    (∃ (s : State) (i : Nat), s.ready = true ∧ 0x60 ≤ i ∧ i < 0xA0 ∧ niPresent s.part i = true ∧ (s.ni i).csf.downUnits ≤ 16 ∧ (s.ni i).csf.upUnits ≤ 16 ∧ 0 < (s.ni i).csf.downUnits + (s.ni i).csf.upUnits) ∧
    (∃ (s : State) (i : Nat) (words : Nat), s.ready = true ∧ i < 0x60 ∧ niPresent s.part i = true ∧ s.fabric.spent = [] ∧ (s.ni i).edge.moved = [] ∧ (s.ni i).edge.iqWords = [] ∧ (s.ni i).edge.trWords = [] ∧ words = (s.ni i).edge.iq.length + (s.ni i).edge.tr.length + ((s.ni i).edge.out.map fun x => x.2.length).sum ∧ 0 < words) ∧
    (∃ (s : State) (i : Nat), s.ready = true ∧ stationPresent s.part i = true ∧ (i = 0xA0 → s.cfg.icpResults = []) ∧ (i = 0xA1 → s.dev.evtBeads = []) ∧ (i < 0xA0 → (s.ni i).csf = csfInit ∧ (s.ni i).edge = niInit.edge)) ∧
    (∃ (s : State) (i : Nat), s.ready = true ∧ stationPresent s.part i = true ∧ s.station i = 1 ∧ (i < 0x60 → s.lostRod (edgeRod i) = false) ∧ (s.csh i).waiting = 0 ∧ (s.ni i).still = true) ∧
    (∃ (s : State) (i : Nat), s.ready = true ∧ stationPresent s.part i = true ∧ s.station i = 1 ∧ (i < 0x60 → s.lostRod (edgeRod i) = false) ∧ (s.csh i).running = true ∧ 0 < (s.csh i).waiting) ∧
    (∃ (s : State) (n : Nat), s.ready = true ∧ n < 0x60 ∧ niPresent s.part n = true ∧ s.station n = 0 ∧ (s.ni n).delivered = [] ∧ (s.ni n).posted = [] ∧ s.f F.DEV_XS_LOG_VALID 0 = 0) :=
  ⟨⟨((b0 upL).setF F.DEV_XS_STATE_STATE 3 1).setCsh 3 ⟨true, 0⟩, 5, by decide +kernel⟩,
    ⟨fen (b0 upL) 1, 3, by decide +kernel⟩,
    ⟨ni3 (fun v => { v with fenceLimit := 4, fenceFrom := 90000, fenceAsked := [5] }) (fen (b0 upL) 1), 3, by decide +kernel⟩,
    ⟨(withArr { pk 3 0 with cmd := .rd }).setF F.NI_FENCE_STATUS_STATE 3 2, 1, by decide +kernel⟩,
    ⟨(withArr { pk 3 0 with cmd := .rd }).setF F.NI_FENCE_STATUS_STATE 3 2, { cmd := Sys2Proof.Cmd.rd, src := 5, dest := 3, tag := 7, record := 0x0000#16, err := 0, attr := 0x00#8, addr := 0, len := 7, beFirst := 0x0000000000000f00#64, beLast := 0x00000000000000f0#64, operand := 0x00000001ffffffff#64, injTime := 0x00000000#32, route := 0xfffffffff002#48, vn := 1, prio := 0, data := [0x01#8, 0x02#8, 0x03#8, 0x04#8, 0x05#8, 0x06#8, 0x07#8, 0x08#8], poison := false }, (Sys2Proof.PacketEcc.clean), by decide +kernel⟩,
    ⟨ni3 (fun v => { v with gates := [⟨3, 3, some 200000⟩] }) (b0 upL), 3, 3, 3, 0x0000000000030d40#64, by decide +kernel⟩,
    ⟨ni3 (fun v => { v with held := [{ pk 3 0 with src := 3, dest := 5 }] }) (b0 upL), 3, 1, { cmd := Sys2Proof.Cmd.rd, src := 3, dest := 5, tag := 7, record := 0x0000#16, err := 0, attr := 0x00#8, addr := 0, len := 7, beFirst := 0x0000000000000f00#64, beLast := 0x00000000000000f0#64, operand := 0x00000001ffffffff#64, injTime := 0x00000000#32, route := 0xfffffffff002#48, vn := 1, prio := 0, data := [0x01#8, 0x02#8, 0x03#8, 0x04#8, 0x05#8, 0x06#8, 0x07#8, 0x08#8], poison := false }, by decide +kernel⟩,
    ⟨ni3 (fun v => { v with held := [{ pk 3 0 with src := 3, dest := 5, vn := 2 }] }) (b0 upL), 3, { cmd := Sys2Proof.Cmd.rd, src := 3, dest := 5, tag := 7, record := 0x0000#16, err := 0, attr := 0x00#8, addr := 0, len := 7, beFirst := 0x0000000000000f00#64, beLast := 0x00000000000000f0#64, operand := 0x00000001ffffffff#64, injTime := 0x00000000#32, route := 0xfffffffff002#48, vn := 2, prio := 0, data := [0x01#8, 0x02#8, 0x03#8, 0x04#8, 0x05#8, 0x06#8, 0x07#8, 0x08#8], poison := false }, by decide +kernel⟩,
    ⟨(hb.getD 0 State.reset), 96, by decide +kernel⟩,
    ⟨(b0 upL).setNi 5 { niInit with edge := { niInit.edge with out := [(1,[6])] } }, 5, 1, by decide +kernel⟩,
    ⟨fen (b0 upL) 2, 7, by decide +kernel⟩,
    ⟨fen (b0 upL) 2, 7, by decide +kernel⟩,
    ⟨((b0 upL).setF F.DEV_XS_STATE_STATE 3 1).setCsh 3 ⟨true, 3⟩, 3, by decide +kernel⟩,
    ⟨((b0 upL).setF F.DEV_XS_STATE_STATE 3 1).setCsh 3 ⟨true, 0⟩, 5, by decide +kernel⟩⟩

/-- The hypotheses of Routers can be met. -/
theorem witness_Routers :
    (∃ (s : State) (page : Nat) (port : Nat) (q : Nat) (to' : Nat) (n : Nat) (u : FlowUnit), s.ready = true ∧ pagePresent s.part page = true ∧ portEnd s.part page port = some (.ni n) ∧ s.router page = routerInit ∧ u.vn < 4 ∧ u.head = true ∧ u.flips = [] ∧ (s.ni n).out = [u] ∧ headerField u.payload 0 0 4 = q ∧ q < 15 ∧ s.outputDown page q = false ∧ portEnd s.part page q = some (.node to') ∧ s.router to' = routerInit ∧ 1 ≤ s.inputRoom to' u.vn ∧ 1 ≤ s.inputRoom page u.vn ∧ s.routerHolds page = false ∧ page ≠ to') ∧
    (∃ (s : State) (page : Nat) (port : Nat) (vn : Nat) (u : FlowUnit), s.ready = true ∧ s.f F.CN_AGE_CFG_THRESH page ≠ 0 ∧ vn < 2 ∧ u.vn = vn ∧ u.head = true ∧ u.prio < 2 ∧ (s.router page).waiting = [(port, u)]) ∧
    (∃ (s : State) (page : Nat) (port : Nat) (w : Nat), s.ready = true ∧ s.f F.CN_LINK_STATUS_REMAP_PENDING (linkInst page port) = 1 ∧ w < 592 ∧ s.sparesUsed page port = []) ∧
    (∃ (s : State) (page : Nat) (r : Reg) (data : Word), s.ready = true ∧ isStaged r = true ∧ pagePresent s.part page = true ∧ s.stagedBad page r data = false) ∧
    (∃ (s : State) (page : Nat), s.ready = true ∧ pagePresent s.part page = true ∧ s.f F.CN_HOLD_CTRL_REQ page = 0) ∧
    (∃ (s : State) (page : Nat) (w : Word) (who : Who), s.ready = true ∧ s.f F.CN_HOLD_STATUS_STATE page = 2 ∧ (s.router page).opened = [] ∧ (s.router page).waiting = [] ∧ (s.router page).staged = [⟨.CN_ARB_WEIGHT, page, w, who⟩]) ∧
    (∃ (s : State) (page : Nat), s.ready = true ∧ s.f F.CN_HOLD_STATUS_STATE page = 2 ∧ (s.router page).waiting = []) :=
  ⟨⟨(b0 upL).setNi 3 { niInit with out := [u4] }, 3, 0, 4, 35, 3, u4, by decide +kernel⟩,
    ⟨rt (fun v => { v with waiting := [(2, fu)] }) ((b0 upL).setF F.CN_AGE_CFG_THRESH 3 5), 3, 2, 1, { vn := 1, head := true, tail := true, prio := 1, aged := false, payload := 0x0000000000000000000000000000000000000001ffffffff00000000000000f00000000000000f00000700000000000000000000000000710305fffffffff002#512, flips := [] }, by decide +kernel⟩,
    ⟨(b0 upL).setF F.CN_LINK_STATUS_REMAP_PENDING (linkInst 3 2) 1, 3, 2, 1, by decide +kernel⟩,
    ⟨((b0 upL).setF F.DEV_XS_STATE_STATE 3 1).setCsh 3 ⟨true, 3⟩, 1, (Sys2Proof.Reg.CN_SPARE_SET), 0x00000001#32, by decide +kernel⟩,
    ⟨((b0 upL).setF F.DEV_XS_STATE_STATE 3 1).setCsh 3 ⟨true, 0⟩, 5, by decide +kernel⟩,
    ⟨rt (fun v => { v with staged := [⟨.CN_ARB_WEIGHT, 3, 0x10203, ⟨0x10, 0x90⟩⟩] }) ((b0 upL).setF F.CN_HOLD_STATUS_STATE 3 2), 3, 0x00010203#32, { origin := 0x10#8, ni := 0x90#8 }, by decide +kernel⟩,
    ⟨rt (fun v => { v with staged := [⟨.CN_ARB_WEIGHT, 3, 0x10203, ⟨0x10, 0x90⟩⟩] }) ((b0 upL).setF F.CN_HOLD_STATUS_STATE 3 2), 3, by decide +kernel⟩⟩

end W09

namespace W10

def um (s : State) : State := (((s.setF F.DEV_STATUS_USER_MODE 0 1).setWord .PWR_REGION_STATUS 0 0x7FF)).putTime 400000
def l0 (s : State) : State := (((um s).setF F.TBUS_LINE_CTRL_MODE 3 3).setF F.TBUS_LINE_CTRL_DRV_EN 3 1).setF F.TBUS_LINE_TIMING_RETRY 3 2
def ln (f : Line → Line) (s : State) : State := s.setLine 3 (f (s.line 3))
def d0 : BitVec 16 := 0x1234
def lt (again : Bool) (sent : Option DWord) := ln (fun v => { v with telegram := some ⟨d0, sent, 1, again⟩ }) (l0 upL)

/-- The hypotheses of ChassisLines can be met. -/
theorem witness_ChassisLines :
    (∃ (s : State) (n : Nat), s.ready = true ∧ n < 16 ∧ (s.lineHold n).mode = 3 ∧ (s.line n).telegram = none ∧ s.unsendable n (BitVec.ofNat 16 (s.f F.TBUS_TX_DATA_DATA n)) = false ∧ s.telegramReady n 0 (BitVec.ofNat 16 (s.f F.TBUS_TX_DATA_DATA n)) = some s.time.toNat) ∧
    (∃ (s : State) (n : Nat) (w : Nat) (r : Nat) (d : BitVec 16), s.ready = true ∧ n < 16 ∧ (s.line n).telegram = some ⟨d, none, r, false⟩ ∧ s.unsendable n d = false ∧ s.telegramReady n 0 d = some w ∧ w < 2 ^ 64) ∧
    (∃ (s : State) (n : Nat) (w : Nat) (r : Nat) (k : BitVec 4) (d : BitVec 16), s.ready = true ∧ n < 16 ∧ (s.line n).telegram = some ⟨d, none, r, true⟩ ∧ s.unsendable n d = false ∧ s.telegramReady n k.toNat d = some w ∧ w < 2 ^ 64) ∧
    (∃ (s : State) (n : Nat) (half : Nat) (r : Nat) (d : BitVec 16) (t0 : DWord), s.ready = true ∧ n < 16 ∧ (s.line n).telegram = some ⟨d, some t0, r, false⟩ ∧ half < 42 ∧ r < s.f F.TBUS_LINE_TIMING_RETRY n) ∧
    (∃ (s : State) (n : Nat) (r : Nat) (d : BitVec 16) (t0 : DWord), s.ready = true ∧ n < 16 ∧ (s.line n).telegram = some ⟨d, some t0, r, false⟩) ∧
    (∃ (s : State) (n : Nat) (level : Bool) (xs : List (BitVec 3)), s.ready = true ∧ n < 18 ∧ s.f F.TBUS_LINE_STATUS_LEVEL n = (if level then 0 else 1) ∧ xs.length = s.f F.TBUS_LINE_CTRL_FILT n + 1 ∧ (xs.all fun x => tickSample x == level) = true ∧ ((s.lineHold n).mode = 1 ∨ (s.lineHold n).mode = 2) ∧ (s.f F.TBUS_LINE_CTRL_RX_EDGE n = 3 ∨ s.f F.TBUS_LINE_CTRL_RX_EDGE n = (if level then 1 else 2)) ∧ s.f F.TBUS_LINE_CTRL_OWN_MASK n = 0) ∧
    (∃ (s : State) (n : Nat) (level : Bool) (xs : List (BitVec 3)), s.ready = true ∧ n < 19 ∧ s.f F.TBUS_LINE_STATUS_LEVEL n = (if level then 0 else 1) ∧ xs.length = s.f F.TBUS_LINE_CTRL_FILT n + 1 ∧ (xs.all fun x => tickSample x == level) = true ∧ s.f F.TBUS_LINE_CTRL_RX_EDGE n = 0) ∧
    (∃ (s : State) (n : Nat) (xs : List (BitVec 3)), s.ready = true ∧ xs.length ≤ s.f F.TBUS_LINE_CTRL_FILT n) ∧
    (∃ (s : State) (n : Nat) (quiet : Nat) (gaps : List Nat) (d : BitVec 16), s.ready = true ∧ n < 16 ∧ (s.lineHold n).mode = 3 ∧ s.f F.TBUS_LINE_CTRL_OWN_MASK n = 0 ∧ s.tbus.fifo.length < 32 ∧ 60 ≤ quiet ∧ goodTelegram gaps = some d) ∧
    (∃ (s : State) (n : Nat) (quiet : Nat) (gaps : List Nat), s.ready = true ∧ n < 16 ∧ (s.lineHold n).mode = 3 ∧ s.f F.TBUS_LINE_CTRL_OWN_MASK n = 0 ∧ 60 ≤ quiet ∧ goodTelegram gaps = none) ∧
    (∃ (s : State) (n : Nat) (t0 : DWord), s.ready = true ∧ (s.line n).asserting = true ∧ (s.line n).ends = some t0) ∧
    (∃ (s : State) (n : Nat), s.ready = true ∧ n < 18 ∧ (s.line n).asserting = true ∧ (s.line n).ends = none) ∧
    (∃ (s : State) (n : Nat), s.ready = true ∧ n < 18 ∧ (s.line n).asserting = true ∧ (s.line n).telegram = none ∧ s.f F.TBUS_LINE_STATUS_LEVEL n = 0) ∧
    (∃ (s : State) (n : Nat), s.ready = true ∧ n < 18 ∧ (s.line n).asserting = false ∧ (s.line n).telegram = none ∧ s.f F.TBUS_LINE_STATUS_LEVEL n = 1) :=
  ⟨⟨l0 upL, 3, by decide +kernel⟩,
    ⟨lt false none, 3, 400000, 1, 0x1234#16, by decide +kernel⟩,
    ⟨lt true none, 3, 400000, 1, 0x5#4, 0x1234#16, by decide +kernel⟩,
    ⟨lt false (some 399990), 3, 3, 1, 0x1234#16, 0x0000000000061a76#64, by decide +kernel⟩,
    ⟨lt false (some 399990), 3, 1, 0x1234#16, 0x0000000000061a76#64, by decide +kernel⟩,
    ⟨((((l0 up).setF F.TBUS_LINE_CTRL_MODE 3 2).setF F.TBUS_LINE_CTRL_RX_EDGE 3 3).setF F.TBUS_LINE_CTRL_OWN_MASK 3 0).setF F.TBUS_LINE_CTRL_FILT 3 0, 3, true, [7], by decide +kernel⟩,
    ⟨((l0 up).setF F.TBUS_LINE_CTRL_RX_EDGE 3 0).setF F.TBUS_LINE_CTRL_FILT 3 0, 3, true, [7], by decide +kernel⟩,
    ⟨ln (fun v => { v with asserting := true, began := 399995 }) (l0 upL), 70, [0x6#3], by decide +kernel⟩,
    ⟨(l0 up).setF F.TBUS_LINE_CTRL_OWN_MASK 3 0, 3, 60, sentGaps d0, d0, by decide +kernel⟩,
    ⟨(l0 up).setF F.TBUS_LINE_CTRL_OWN_MASK 3 0, 3, 60, [15, 30], by decide +kernel⟩,
    ⟨ln (fun v => { v with asserting := true, began := 399995, ends := some 400009 }) (l0 up), 3, 0x0000000000061a89#64, by decide +kernel⟩,
    ⟨ln (fun v => { v with asserting := true, began := 399995 }) (l0 upL), 3, by decide +kernel⟩,
    ⟨ln (fun v => { v with asserting := true, began := 399995 }) (l0 upL), 3, by decide +kernel⟩,
    ⟨((l0 upL).setF F.TBUS_LINE_STATUS_LEVEL 3 1), 3, by decide +kernel⟩⟩

end W10

namespace W11

def um (s : State) : State := (((s.setF F.DEV_STATUS_USER_MODE 0 1).setWord .PWR_REGION_STATUS 0 0x7FF)).putTime 400000
def l0 (m : Nat) (s : State) : State :=
  let s := (um s).setF F.LANE_QUAD_CFG_MODE 1 m
  let s := ((s.setF F.LANE_QUAD_CFG_RX_EN 1 15).setF F.LANE_QUAD_CFG_TX_EN 1 15).setF F.LANE_TX_GUARD_LANES_ALLOWED 1 15
  let s := (s.putLanes { s.lanes with started := [(1, 15)] }).setFunc (.quad 1) 1
  let s := (((s.setFunc (.ni 0x71) 1).setF F.NI_FENCE_STATUS_STATE 0x71 0).setF F.DEV_XS_STATE_STATE 0x71 0).setWord .PWR_QUAD_STATUS 0 0xFF
  let s := ((s.setF F.LANE_RX_SIZE_LOG2 5 13).setF F.LANE_RX_SIZE_CHUNK 5 8).setF F.LANE_TX_SIZE_CHUNK 5 8
  let s := (s.setF F.LANE_QUAD_CFG_RATE_MBPS 1 10000).setF F.LANE_LEMC_TICKS 1 300
  ((s.setF F.LANE_JESD_CFG_K 1 31).setF F.LANE_JESD_CFG_F 1 0).setF F.LANE_JESD_CFG_ENC 1 0
def ln (f : LaneState → LaneState) (s : State) : State := s.setLane 5 (f (s.lane 5))
def dat (n : Nat) : List Byte := (List.range n).map (BitVec.ofNat 8)
def jd (k : State → State) : State := k ((l0 1 upL).setF F.LANE_JESD_CFG_SUBCLASS 1 0)
def only2 (s : State) : State := s.setF F.LANE_QUAD_CFG_RX_EN 1 3

/-- The hypotheses of LaneStreams can be met. -/
theorem witness_LaneStreams :
    (∃ (s : State) (l : Nat), s.ready = true ∧ l < 128 ∧ s.rxOn l = true ∧ (s.quadMode (l / 4) = 2 ∨ s.quadMode (l / 4) = 3) ∧ s.f F.LANE_LANE_STATUS_LINK_UP l = 0 ∧ s.funcState (.quad (l / 4)) = 1) ∧
    (∃ (s : State) (l : Nat) (m : Nat), s.ready = true ∧ l < 128 ∧ m < 128 ∧ l ≠ m ∧ s.rxOn l = true ∧ s.quadMode (l / 4) = 1 ∧ s.f F.LANE_JESD_CFG_SUBCLASS (l / 4) = 0 ∧ s.funcState (.quad (l / 4)) = 1 ∧ (s.linkLanes (s.f F.LANE_JESD_CFG_LINK (l / 4)) = [l, m] ∨ s.linkLanes (s.f F.LANE_JESD_CFG_LINK (l / 4)) = [m, l]) ∧ s.f F.LANE_LANE_STATUS_LINK_UP l = 0 ∧ s.f F.LANE_LANE_STATUS_LINK_UP m = 0) ∧
    (∃ (s : State) (l : Nat) (wait : Nat) (b : DWord), s.ready = true ∧ l < 128 ∧ s.rxOn l = true ∧ s.quadMode (l / 4) = 1 ∧ s.f F.LANE_JESD_CFG_SUBCLASS (l / 4) = 1 ∧ s.funcState (.quad (l / 4)) = 1 ∧ s.f F.LANE_LANE_STATUS_LINK_UP l = 0 ∧ Sparse.get none s.lanes.aligned (l / 4) = some b ∧ 0 < s.f F.LANE_LEMC_TICKS (l / 4) ∧ s.time.toNat + wait + 2 ^ 17 < 2 ^ 64 ∧ b.toNat + 2 ^ 17 < 2 ^ 64) ∧
    (∃ (s : State) (l : Nat) (w : LineWord) (b : BitVec 64), s.ready = true ∧ l < 128 ∧ s.rxOn l = true ∧ s.f F.LANE_LANE_STATUS_LINK_UP l = 1 ∧ (s.lane l).held = [] ∧ (s.lane l).part ≠ [] ∧ (s.lane l).part.length + 8 < s.rxChunk l ∧ ((s.quadMode (l / 4) = 3 ∧ w = .bits b) ∨ (s.quadMode (l / 4) = 2 ∧ s.f F.LANE_QUAD_CFG_SCR (l / 4) = 0 ∧ (w = .block 1 b ∨ w = .block 2 b)))) ∧
    (∃ (s : State) (l : Nat) (k : Nat) (d : Nat) (data : List Byte), s.ready = true ∧ l < 128 ∧ s.rxOn l = true ∧ (s.lane l).held = [(k, data)] ∧ data.length = s.rxChunk l ∧ s.niTakes (laneNi l) = true ∧ (s.ni (laneNi l)).csf.up = [] ∧ s.recordOf (laneNi l) = none ∧ decodeAddr s.part (s.rxBase l + k % 2 ^ s.f F.LANE_RX_SIZE_LOG2 l) = .ni d ∧ entryValid (s.activeEntry (laneNi l) d) = true ∧ s.sendsNow (laneNi l) 0 = true) ∧
    (∃ (s : State) (l : Nat) (line : List LineWord), s.ready = true ∧ l < 128 ∧ s.rxOn l = true ∧ s.quadMode (l / 4) = 1 ∧ s.f F.LANE_LANE_STATUS_LINK_UP l = 1 ∧ (s.lane l).held = [] ∧ (s.lane l).part = [] ∧ s.funcState (.quad (l / 4)) = 1 ∧ (lineOctets line).length = s.multiblockBytes (l / 4) ∧ (lineOctets line).length < s.rxChunk l ∧ s.rxChunk l ≤ 4096) ∧
    (∃ (s : State) (l : Nat) (m : Multiblock), s.ready = true ∧ l < 128 ∧ s.rxOn l = true ∧ s.quadMode (l / 4) = 1 ∧ s.f F.LANE_LANE_STATUS_LINK_UP l = 1 ∧ (m = .none ∨ m = .fifth) ∧ s.f F.LANE_ALERT_CTRL_EN (l / 4) = 0) ∧
    (∃ (s : State) (l : Nat), s.ready = true ∧ l < 128 ∧ s.rxOn l = true ∧ s.f F.LANE_ALERT_CTRL_EN (l / 4) = 0) ∧
    (∃ (s : State) (q : Nat), s.ready = true ∧ q < 32 ∧ q < Part.quads s.part ∧ s.f F.LANE_QUAD_STATUS_PLL_LOCK q = 1 ∧ s.f F.LANE_ALERT_CTRL_EN q = 0) ∧
    (∃ (s : State) (l : Nat), s.ready = true ∧ l < 128 ∧ s.txOn l = true ∧ (s.lane l).txFrom = none ∧ (s.quadMode (l / 4) = 2 ∨ s.quadMode (l / 4) = 3) ∧ s.funcState (.quad (l / 4)) = 1 ∧ (s.lane l).txHand = []) ∧
    (∃ (s : State) (l : Nat) (t0 : DWord), s.ready = true ∧ l < 128 ∧ s.txOn l = true ∧ (s.lane l).txFrom = some t0 ∧ (s.lane l).txHand = [] ∧ (s.niTakes (laneNi l) = false ∨ s.funcState (.quad (l / 4)) = 2)) ∧
    (∃ (s : State) (q : Nat), s.ready = true ∧ q < Part.quads s.part ∧ s.niPowered (0x70 + q) = true) ∧
    (∃ (s : State) (l : Nat), s.ready = true ∧ l < 4 * Part.quads s.part ∧ s.f F.LANE_EYE_CTRL_START l = 0) ∧
    (∃ (s : State) (l : Nat), s.ready = true ∧ s.f F.LANE_EYE_CTRL_START l = 1 ∧ l < 128) :=
  ⟨⟨l0 2 upL, 5, by decide +kernel⟩,
    ⟨jd only2, 4, 5, by decide +kernel⟩,
    ⟨((l0 1 upL).setF F.LANE_JESD_CFG_SUBCLASS 1 1).putLanes { (l0 1 upL).lanes with aligned := [(1, some 399000)] }, 5, 96, 0x0000000000061698#64, by decide +kernel⟩,
    ⟨ln (fun v => { v with part := dat 40 }) ((l0 3 up).setF F.LANE_LANE_STATUS_LINK_UP 5 1), 5, (Sys2Proof.LineWord.bits 0x0000000123456789#64), 0x0000000123456789#64, by decide +kernel⟩,
    ⟨ln (fun v => { v with held := [(512, dat 256)] }) (l0 2 upL), 5, 512, 96, dat 256, by decide +kernel⟩,
    ⟨((l0 1 up).setF F.LANE_LANE_STATUS_LINK_UP 5 1).setF F.LANE_JESD_CFG_K 1 15, 5, [Sys2Proof.LineWord.octets [0x00#8, 0x01#8, 0x02#8, 0x03#8, 0x04#8, 0x05#8, 0x06#8, 0x07#8, 0x08#8, 0x09#8, 0x0a#8, 0x0b#8, 0x0c#8, 0x0d#8, 0x0e#8, 0x0f#8]], by decide +kernel⟩,
    ⟨((l0 1 up).setF F.LANE_LANE_STATUS_LINK_UP 5 1).setF F.LANE_JESD_CFG_K 1 15, 5, (Sys2Proof.Multiblock.none), by decide +kernel⟩,
    ⟨l0 3 up, 5, by decide +kernel⟩,
    ⟨(l0 2 upL).setF F.LANE_QUAD_STATUS_PLL_LOCK 1 1, 1, by decide +kernel⟩,
    ⟨l0 3 up, 5, by decide +kernel⟩,
    ⟨(ln (fun v => { v with txFrom := some 399000, txNext := 3, txAsked := 7 }) (l0 2 upL)).setFunc (.quad 1) 2, 5, 0x0000000000061698#64, by decide +kernel⟩,
    ⟨l0 3 up, 5, by decide +kernel⟩,
    ⟨((l0 1 upL).setF F.LANE_JESD_CFG_SUBCLASS 1 1).putLanes { (l0 1 upL).lanes with aligned := [(1, some 400009)] }, 96, by decide +kernel⟩,
    ⟨(l0 2 up).setF F.LANE_EYE_CTRL_START 5 1, 5, by decide +kernel⟩⟩

end W11

namespace W12

def um (s : State) : State := (((s.setF F.DEV_STATUS_USER_MODE 0 1).setWord .PWR_REGION_STATUS 0 0x7FF)).putTime 400000
def rg (f : RingPc → RingPc) (s : State) : State := (List.range 16).foldl (fun s p => s.setRingPc 3 p (f { s.ringPc 3 p with bytes := 100 * p, last := some (64 * p, 77), capBytes := 3 * p })) s
def b0 : State := ((um upL).setF F.HBM_RING_SIZE_UNITS 3 2).setF F.HBM_RING_CTRL_EN 3 0

/-- The hypotheses of MemoryStack can be met. -/
theorem witness_MemoryStack :
    (∃ (s : State), s.still = true ∧ Part.hasHbm s.part = true ∧ s.niPowered 0x60 = true ∧ s.f F.HBM_STATUS_INIT_DONE 0 = 0) ∧
    (∃ (s : State) (k : Nat), s.ready = true ∧ Part.hasHbm s.part = true ∧ k < 256) ∧
    (∃ (s : State) (p : Nat) (w : Nat), s.ready = true ∧ Part.hasHbm s.part = true ∧ p < 16 ∧ w < 8 ∧ s.f F.HBM_CTRL_SCRUB_EN 0 = 1 ∧ s.f F.HBM_STATUS_SELF_REFRESH 0 = 0 ∧ s.hbm.level ≠ 3 ∧ s.hbmBad (hbmBlockAddr p (Sparse.get 0 s.hbm.scrubAt p)) 64 = [] ∧ s.hbm.onceCorrected = []) ∧
    (∃ (s : State) (r : Nat), s.ready = true ∧ Part.hasHbm s.part = true ∧ r < 16 ∧ s.f F.HBM_RING_CTRL_EN r = 0 ∧ s.ringValid r = true ∧ s.ringOverlaps r = false) ∧
    (∃ (s : State) (r : Nat), s.ready = true ∧ Part.hasHbm s.part = true ∧ r < 16 ∧ s.f F.HBM_RING_CTRL_EN r = 0 ∧ (s.ringValid r = false ∨ s.ringOverlaps r = true)) ∧
    (∃ (s : State) (r : Nat), s.ready = true ∧ r < 16 ∧ s.f F.HBM_RING_CTRL_EN r = 1) ∧
    (∃ (s : State) (r : Nat), s.ready = true ∧ r < 16 ∧ (∀ p, p < 16 → (s.ringPc r p).captured = true)) ∧
    (∃ (s : State) (r : Nat), s.ready = true ∧ r < 16) :=
  ⟨⟨um up, by decide +kernel⟩,
    ⟨um up, 1, by decide +kernel⟩,
    ⟨um up, 5, 3, by decide +kernel⟩,
    ⟨b0, 3, by decide +kernel⟩,
    ⟨um up, 1, by decide +kernel⟩,
    ⟨rg (fun v => { v with captured := true, capLast := none }) (b0.setWord .HBM_RING_CTRL 3 5), 3, by decide +kernel⟩,
    ⟨(List.range 16).foldl (fun s p => s.setRingPc 3 p { s.ringPc 3 p with captured := true }) up, 3, by decide +kernel⟩,
    ⟨um up, 1, by decide +kernel⟩⟩

end W12

namespace W13

def um (s : State) : State := (((s.setF F.DEV_STATUS_USER_MODE 0 1).setWord .PWR_REGION_STATUS 0 0x7FF)).putTime 400000
def b0 (s : State) : State := 
  let s := um s
  let s := (((s.setFunc (.quad 27) 1).setF F.LANE_QUAD_CFG_MODE 27 4).setF F.LANE_TX_GUARD_LANES_ALLOWED 27 15).setWord .STORE_CFG 0 0x8
  (((s.setFunc (.ni 0x98) 1).setF F.NI_FENCE_STATUS_STATE 0x98 0).setF F.DEV_XS_STATE_STATE 0x98 0).setF F.STORE_CH_RING_SIZE_MIB 3 8
def st (k : Nat) (s : State) := s.setF F.STORE_DRV_STATUS_STATE 3 k
def ch (f : Chan → Chan) (s : State) : State := (s.setFunc (.channel 3) 1).setChan 3 (f (s.chan 3))
def m : Nat := 0x100000
def vh : VolumeHeader := ⟨1, 3, 5000, 77⟩
def md (s : State) : State := ((s.setDrive 3 ⟨true, 2^40, some vh, [], none⟩).setF F.HBM_STATUS_INIT_DONE 0 1)
def cm (k : Nat) (s : State) : State := (s.putStore { s.store with command := k }).setF F.STORE_STATUS_BUSY 0 1
def ce : CatEntry := ⟨9,4,3,1,0,0,10*m,5,6,10⟩
def cu : RecordCut := ⟨9,5,6,3*m+5,none,some (3*m+5),false⟩
def w (s : State) := s.setF F.STORE_CH_PART_STRIPES_STRIPES 3 100
def cm2 (k : Nat) (s : State) := s.putStore { s.store with cause := k }

/-- The hypotheses of StoreDrives can be met. -/
theorem witness_StoreDrives :
    (∃ (s : State) (d : Nat), s.ready = true ∧ d < 8 ∧ Part.hasStore s.part = true ∧ s.driveState d = 0) ∧
    (∃ (s : State) (d : Nat), s.ready = true ∧ d < 8 ∧ Part.hasStore s.part = true ∧ s.driveState d = 1 ∧ s.rootPort d = true) ∧
    (∃ (s : State) (d : Nat), s.ready = true ∧ d < 8 ∧ Part.hasStore s.part = true ∧ (s.driveState d ≠ 1 ∨ s.rootPort d = false)) ∧
    (∃ (s : State) (d : Nat), s.ready = true ∧ d < 8 ∧ Part.hasStore s.part = true ∧ s.driveState d = 2) ∧
    (∃ (s : State) (d : Nat), s.ready = true ∧ d < 8 ∧ Part.hasStore s.part = true ∧ s.driveState d = 2) ∧
    (∃ (s : State) (d : Nat), s.ready = true ∧ d < 8 ∧ Part.hasStore s.part = true ∧ s.driveState d = 3 ∧ s.inMounted d = false) ∧
    (∃ (s : State) (d : Nat), s.ready = true ∧ d < 8 ∧ Part.hasStore s.part = true ∧ s.driveState d = 3 ∧ s.inMounted d = false) ∧
    (∃ (s : State) (d : Nat), s.ready = true ∧ d < 8 ∧ Part.hasStore s.part = true) ∧
    (∃ (s : State) (d : Nat), s.ready = true ∧ d < 8 ∧ Part.hasStore s.part = true ∧ s.driveState d = 3 ∧ s.inMounted d = false) ∧
    (∃ (s : State) (d : Nat) (a : Nat) (len : Nat), s.ready = true ∧ d < 8 ∧ Part.hasStore s.part = true ∧ hbmSize < a + len + 1 ∧ s.inPlayRing a (len + 1) = false) ∧
    (∃ (s : State) (d : Nat) (a : Nat) (len : Nat) (n : Nat) (tag : Nat) (data : List Byte), s.ready = true ∧ d < 8 ∧ Part.hasStore s.part = true ∧ a + len + 1 ≤ hbmSize ∧ s.sendsAt 0x98 n tag (driveAsk d false a len data) = true ∧ decodeAddr s.part a = .ni n) ∧
    (∃ (s : State) (d : Nat) (a : Nat) (n : Nat) (tag : Nat) (data : List Byte), s.ready = true ∧ d < 8 ∧ Part.hasStore s.part = true ∧ data ≠ [] ∧ (a + data.length ≤ hbmSize ∨ s.inPlayRing a data.length = true) ∧ s.sendsAt 0x98 n tag (driveAsk d true a (data.length - 1) data) = true ∧ decodeAddr s.part a = .ni n) :=
  ⟨⟨b0 up, 3, by decide +kernel⟩,
    ⟨st 1 (b0 upL), 3, by decide +kernel⟩,
    ⟨b0 upL, 3, by decide +kernel⟩,
    ⟨st 2 (b0 upL), 3, by decide +kernel⟩,
    ⟨st 2 (b0 upL), 3, by decide +kernel⟩,
    ⟨st 3 (b0 upL), 3, by decide +kernel⟩,
    ⟨st 3 (b0 upL), 3, by decide +kernel⟩,
    ⟨b0 up, 3, by decide +kernel⟩,
    ⟨st 3 (b0 upL), 3, by decide +kernel⟩,
    ⟨b0 up, 3, 17179869184, 5, by decide +kernel⟩,
    ⟨b0 up, 0, 3, 3, 96, 0, [], by decide +kernel⟩,
    ⟨b0 upL, 1, 0, 96, 0, [0x00#8, 0x01#8, 0x02#8, 0x03#8, 0x04#8, 0x05#8, 0x06#8, 0x07#8, 0x08#8, 0x09#8, 0x0a#8, 0x0b#8, 0x0c#8, 0x0d#8, 0x0e#8, 0x0f#8, 0x10#8, 0x11#8, 0x12#8, 0x13#8, 0x14#8, 0x15#8, 0x16#8, 0x17#8, 0x18#8, 0x19#8, 0x1a#8, 0x1b#8, 0x1c#8, 0x1d#8, 0x1e#8, 0x1f#8], by decide +kernel⟩⟩

/-- The hypotheses of StoreVolume can be met. -/
theorem witness_StoreVolume :
    (∃ (s : State), s.ready = true ∧ Part.hasStore s.part = true ∧ s.volumeBarred = false) ∧
    (∃ (s : State), s.ready = true ∧ Part.hasStore s.part = true ∧ (s.f F.STORE_STATUS_MOUNTED 0 = 1 ∨ s.store.command ≠ 0 ∨ s.volumeDrives = [])) ∧
    (∃ (s : State), s.ready = true ∧ s.store.command = 3 ∧ s.store.cause = 0 ∧ s.someNotReady = false) ∧
    (∃ (s : State), s.ready = true ∧ s.store.command = 3 ∧ (s.store.cause ≠ 0 ∨ s.someNotReady = true)) ∧
    (∃ (s : State), s.ready = true ∧ s.store.command = 4 ∧ s.store.cause = 0 ∧ (s.catalogueDrives.any fun d => s.driveState d == 3) = true) ∧
    (∃ (s : State), s.ready = true ∧ s.store.command = 4 ∧ 1 ≤ s.store.cause ∧ s.store.cause ≤ 5) ∧
    (∃ (s : State), s.ready = true ∧ s.store.command = 4 ∧ s.store.cause = 0 ∧ (s.catalogueDrives.any fun d => s.driveState d == 3) = false) ∧
    (∃ (s : State), s.ready = true ∧ Part.hasStore s.part = true ∧ s.f F.STORE_STATUS_MOUNTED 0 = 1 ∧ (∀ c, c < 8 → s.funcState (.channel c) = 0)) :=
  ⟨⟨b0 upL, by decide +kernel⟩,
    ⟨cm2 3 (cm 4 (b0 upL)), by decide +kernel⟩,
    ⟨cm 3 (st 3 (md (b0 upL))), by decide +kernel⟩,
    ⟨up.putStore { up.store with command := 3, cause := 1 }, by decide +kernel⟩,
    ⟨cm 4 (st 3 ((b0 upL))), by decide +kernel⟩,
    ⟨cm2 5 (cm 4 (b0 up)), by decide +kernel⟩,
    ⟨cm 4 (md (b0 upL)), by decide +kernel⟩,
    ⟨up.setF F.STORE_STATUS_MOUNTED 0 1, by decide +kernel⟩⟩

/-- The hypotheses of StoreChannels can be met. -/
theorem witness_StoreChannels :
    (∃ (s : State) (c : Nat) (off : Word), s.ready = true ∧ c < 8 ∧ Part.hasStore s.part = true ∧ s.chanPlays c = false ∧ s.funcState (.channel c) = 1 ∧ (s.chan c).cuts = [] ∧ s.chanAt c off < (s.chan c).issued + stripeBytes) ∧
    (∃ (s : State) (c : Nat) (off : Word), s.ready = true ∧ c < 8 ∧ Part.hasStore s.part = true ∧ s.chanPlays c = false ∧ s.funcState (.channel c) = 1 ∧ (s.chan c).cuts = [] ∧ s.chanRoom c = true ∧ (s.chan c).issued + stripeBytes ≤ s.chanAt c off ∧ s.chanAt c off < (s.chan c).issued + 2 * stripeBytes) ∧
    (∃ (s : State) (c : Nat) (off : Word), s.ready = true ∧ c < 8 ∧ Part.hasStore s.part = true ∧ s.chanPlays c = false ∧ s.funcState (.channel c) = 1 ∧ (s.chan c).cuts = [] ∧ s.chanRoom c = false ∧ (s.chan c).issued + stripeBytes ≤ s.chanAt c off) ∧
    (∃ (s : State) (c : Nat), s.ready = true ∧ c < 8 ∧ Part.hasStore s.part = true ∧ s.chanPlays c = true ∧ s.funcState (.channel c) = 1) ∧
    (∃ (s : State) (c : Nat), s.ready = true ∧ c < 8 ∧ Part.hasStore s.part = true ∧ s.chanPlays c = false ∧ (s.chan c).cons + stripeBytes ≤ (s.chan c).issued ∧ s.driveState (s.stripeDrive c ((s.chanPending c).headD 0)) ≠ 4 ∧ s.pair .STORE_CH_MIRROR_LO .STORE_CH_MIRROR_HI c % 2 ^ 48 = 0) ∧
    (∃ (s : State) (c : Nat), s.ready = true ∧ c < 8 ∧ Part.hasStore s.part = true ∧ s.chanPlays c = false ∧ (s.chan c).cons + stripeBytes ≤ (s.chan c).issued ∧ s.driveState (s.stripeDrive c ((s.chanPending c).headD 0)) = 4 ∧ s.pair .STORE_CH_MIRROR_LO .STORE_CH_MIRROR_HI c % 2 ^ 48 = 0) ∧
    (∃ (s : State) (c : Nat) (e : CatEntry), s.ready = true ∧ c < 8 ∧ Part.hasStore s.part = true ∧ s.chanPlays c = true ∧ (s.chan c).play = some e ∧ (s.chan c).prod < (s.chan c).issued ∧ (s.chan c).issued ≤ (s.chan c).prod + stripeBytes ∧ (s.chan c).issued < e.bytes ∧ s.driveState (s.stripeDrive c ((s.chanPending c).headD 0)) ≠ 4 ∧ s.writesOut (s.stripeDrive c ((s.chanPending c).headD 0)) = false ∧ s.pair .STORE_CH_MIRROR_LO .STORE_CH_MIRROR_HI c % 2 ^ 48 = 0) ∧
    (∃ (s : State) (c : Nat) (e : CatEntry), s.ready = true ∧ c < 8 ∧ Part.hasStore s.part = true ∧ s.chanPlays c = true ∧ (s.chan c).play = some e ∧ (s.chan c).prod < (s.chan c).issued ∧ (s.chan c).issued ≤ (s.chan c).prod + stripeBytes ∧ e.bytes ≤ (s.chan c).issued ∧ s.driveState (s.stripeDrive c ((s.chanPending c).headD 0)) ≠ 4 ∧ s.writesOut (s.stripeDrive c ((s.chanPending c).headD 0)) = false ∧ s.pair .STORE_CH_MIRROR_LO .STORE_CH_MIRROR_HI c % 2 ^ 48 = 0) ∧
    (∃ (s : State) (c : Nat) (p : Nat) (m : RecordCut), s.ready = true ∧ c < 8 ∧ Part.hasStore s.part = true ∧ s.chanPlays c = false ∧ (s.chan c).cuts = [m] ∧ m.cut = some p ∧ m.late = false ∧ (s.chan c).cons = p ∧ (s.chan c).issued = p ∧ (s.chan c).prod = p ∧ (s.chan c).short = 0 ∧ s.f F.RECORD_STATUS_PHASE 0 = 4 ∧ (s.catalogueDrives.any fun d => s.driveState d == 3) = true ∧ s.pair .STORE_CH_MIRROR_LO .STORE_CH_MIRROR_HI c % 2 ^ 48 = 0) :=
  ⟨⟨ch id (b0 upL), 3, 0x10000000#32, by decide +kernel⟩,
    ⟨w (ch (fun v => { v with prod := 3*m+5, issued := 3*m, cons := m, next := 3 }) (b0 upL)), 3, 0xb3c4bb82#32, by decide +kernel⟩,
    ⟨ch id (b0 upL), 3, 0x004fffff#32, by decide +kernel⟩,
    ⟨(ch (fun v => { v with prod := 3*m+5, issued := 4*m, cons := m, next := 3, play := some ce }) (b0 upL)).setF F.STORE_CH_CFG_DIR 3 1, 3, by decide +kernel⟩,
    ⟨ch (fun v => { v with prod := 3*m+5, issued := 3*m, cons := m, next := 3 }) (b0 upL), 3, by decide +kernel⟩,
    ⟨ch (fun v => { v with prod := 3*m+5, issued := 3*m, cons := m, next := 3 }) (st 4 (b0 upL)), 3, by decide +kernel⟩,
    ⟨(ch (fun v => { v with prod := 3*m+5, issued := 4*m, cons := m, next := 3, play := some ce }) (b0 upL)).setF F.STORE_CH_CFG_DIR 3 1, 3, { seq := 9, record := 4, channel := 3, flags := 1, failed := 0, first := 0, bytes := 10485760, startAt := 5, closeAt := 6, stripes := 10 }, by decide +kernel⟩,
    ⟨(ch (fun v => { v with prod := 9*m+5, issued := 10*m, cons := 9*m, next := 3, play := some ce }) (b0 upL)).setF F.STORE_CH_CFG_DIR 3 1, 3, { seq := 9, record := 4, channel := 3, flags := 1, failed := 0, first := 0, bytes := 10485760, startAt := 5, closeAt := 6, stripes := 10 }, by decide +kernel⟩,
    ⟨(ch (fun v => { v with prod := 3*m+5, issued := 3*m+5, cons := 3*m+5, cuts := [cu], next := 3 }) (st 3 (md (b0 upL)))).setF F.RECORD_STATUS_PHASE 0 4, 3, 3145733, { number := 9, startAt := 5, closeAt := 6, held := 3145733, tagged := none, cut := some 3145733, late := false }, by decide +kernel⟩⟩

end W13

namespace W14

def um (s : State) : State := (((s.setF F.DEV_STATUS_USER_MODE 0 1).setWord .PWR_REGION_STATUS 0 0x7FF)).putTime 400000
def b0 (s : State) : State := 
  let s := um s
  let s := [0x60,0x90,0x91].foldl (fun s n => s.setF F.DEV_XS_STATE_STATE n 0) s
  let s := [0x60,0x90,0x91].foldl (fun s n => (s.setFunc (.ni n) 1).setF F.NI_FENCE_STATUS_STATE n 0) s
  s
def hu (s : State) : State := (((b0 s).setF F.HOST_LINK_STATUS_DL_UP 0 1).setF F.HOST_LINK_STATUS_BME 0 1).setF F.HOST_DMA_CTRL_EN 0 1
def idn : Identity := ⟨0x1234,0x5678,1,2,3,4,36⟩
def rn (s : State) : State := ((hu s).setFunc (.dma 17) 1).setF F.HOST_CH_RING_SIZE_LOG2 17 6
def dm (f : Dma → Dma) (s : State) : State := s.setDma 17 (f (s.dma 17))
def pk (d a : Nat) : Packet := { cmd := .rd, src := 0x60, dest := d, tag := 7, record := 0, err := 0, attr := 0, addr := a, len := 7, beFirst := 0x0F00, beLast := 0xF0, operand := 0x1FFFFFFFF, injTime := 0, route := 0xFFFFFFFFF002, vn := 1, prio := 0, data := [1,2,3,4,5,6,7,8], poison := false }
def dsc : BitVec 256 := 0x10000 ||| (0x8000 <<< 64) ||| (100 <<< 128)
def dd : Desc := { parseDesc 5 2 dsc with issued := 100, moved := 100, closed := true }
def rdc (s : State) : State := ((dm (fun v => { v with descs := [dd], serial := 3 }) (rn s)).setF F.HOST_CH_HEAD_INDEX 17 5).setF F.HOST_CH_TAIL_INDEX 17 6
def dlv : Delivered := ⟨3, pk 0x91 0xC000000010, 390000, 0⟩
def win (s : State) : State := ((hu s).setNi 0x91 { s.ni 0x91 with delivered := [dlv] }).putHost { s.host with reads := [⟨5, .window (pk 0x91 0xC000000010), 0x77000, 8⟩], windowReads := [(pk 0x91 0xC000000010, ⟨[(0x77000, 8)], [], false⟩)] }
def fetching : State := (((dm (fun v => { v with fetching := some (5,1), serial := 2 }) (rn upL)).setF F.HOST_CH_HEAD_INDEX 17 5).setF F.HOST_CH_TAIL_INDEX 17 6).putHost
  { (dm (fun v => { v with fetching := some (5,1), serial := 2 }) (rn upL)).host with reads := [⟨5, .fetch 17, 0x100, 32⟩] }

/-- The hypotheses of HostLink can be met. -/
theorem witness_HostLink :
    (∃ (s : State) (speed : Nat) (width : Nat), s.ready = true ∧ s.dmaIdleAll = true ∧ s.f F.HOST_LINK_STATUS_DL_UP 0 = 0 ∧ 0 < speed ∧ 0 < width) ∧
    (∃ (s : State), s.ready = true ∧ s.dmaIdleAll = true ∧ s.hostUp = true ∧ s.host.windowReads = []) ∧
    (∃ (s : State), s.ready = true ∧ s.dmaIdleAll = true ∧ s.hostUp = true ∧ s.host.windowReads = []) ∧
    (∃ (s : State), s.ready = true ∧ s.hostUp = true) ∧
    (∃ (s : State), s.ready = true ∧ s.dmaIdleAll = true ∧ s.hostUp = true) ∧
    (∃ (s : State), s.ready = true ∧ s.dmaIdleAll = true ∧ s.hostUp = true) ∧
    (∃ (s : State) (d : Identity), s.ready = true ∧ s.hostUp = true ∧ s.host.identity = some d) ∧
    (∃ (s : State), s.ready = true ∧ s.dmaIdleAll = true) ∧
    (∃ (s : State) (r : BarRequest) (n : Nat) (tag : Nat), s.ready = true ∧ s.dmaIdleAll = true ∧ s.hostUp = true ∧ s.barOpen .hbm = true ∧ r.window = .hbm ∧ r.kind = .read ∧ Part.hasHbm s.part = true ∧ r.offset + r.len < hbmSize ∧ r.offset % 4096 + r.len < 4096 ∧ s.host.writes = 0 ∧ s.sendsAt 0x90 n tag (barPiece .hbm (barCode false r.tag) .rd r.offset (r.len + 1) [] 0 []) = true ∧ decodeAddr s.part r.offset = .ni n) ∧
    (∃ (s : State) (r : BarRequest), s.ready = true ∧ s.hostUp = true ∧ r.kind = .unsupported) :=
  ⟨⟨b0 up, 3, 3, by decide +kernel⟩,
    ⟨(hu upL).putHost { up.host with identity := some idn }, by decide +kernel⟩,
    ⟨(hu upL).putHost { up.host with identity := some idn }, by decide +kernel⟩,
    ⟨(hu upL).putHost { up.host with identity := some idn }, by decide +kernel⟩,
    ⟨(hu upL).putHost { up.host with identity := some idn }, by decide +kernel⟩,
    ⟨win up, by decide +kernel⟩,
    ⟨(hu upL).putHost { up.host with identity := some idn }, { vendor := 0x1234#16, device := 0x5678#16, subsysVendor := 0x0001#16, subsys := 0x0002#16, cls := 0x000003#24, revision := 0x04#8, fabBar := 36 }, by decide +kernel⟩,
    ⟨b0 up, by decide +kernel⟩,
    ⟨(hu upL).putHost { up.host with identity := some idn }, { tag := 3, window := Sys2Proof.BarWindow.hbm, offset := 65600, len := 63, kind := Sys2Proof.BarKind.read }, 96, 0, by decide +kernel⟩,
    ⟨(hu upL).putHost { up.host with identity := some idn }, { tag := 4, window := Sys2Proof.BarWindow.csr, offset := 65600, len := 3, kind := Sys2Proof.BarKind.unsupported }, by decide +kernel⟩⟩

/-- The hypotheses of HostDma can be met. -/
theorem witness_HostDma :
    (∃ (s : State) (c : Nat) (tag : Nat) (data : Word), s.ready = true ∧ s.dmaAlone c = true ∧ s.funcState (.dma c) = 1 ∧ data.toNat % 65536 < s.dmaRingSize c ∧ s.f F.HOST_CH_HEAD_INDEX c < data.toNat % 65536 ∧ s.hostTag = some tag) ∧
    (∃ (s : State) (c : Nat) (data : Word), s.ready = true ∧ c < 32 ∧ s.dmaRingSize c ≤ data.toNat % 65536) ∧
    (∃ (s : State) (c : Nat) (i : Nat) (a : Nat) (tag : Nat) (b : BitVec 256), s.dmaAlone c = true ∧ 16 ≤ c ∧ s.funcState (.dma c) = 1 ∧ s.host.reads = [⟨tag, .fetch c, a, 32⟩] ∧ (s.dma c).descs = [] ∧ (s.dma c).fetching = some (i, 1) ∧ s.f F.HOST_CH_HEAD_INDEX c = i ∧ i + 1 < s.dmaRingSize c ∧ s.f F.HOST_CH_TAIL_INDEX c = i + 1 ∧ descFits s.part c (parseDesc i (s.dma c).serial b) = true ∧ (parseDesc i (s.dma c).serial b).host % min 4096 s.host.maxRead + (parseDesc i (s.dma c).serial b).length ≤ min 4096 s.host.maxRead) ∧
    (∃ (s : State) (c : Nat) (d : Desc), s.dmaAlone c = true ∧ (s.dma c).descs = [d] ∧ (s.dma c).fetching = none ∧ s.funcState (.dma c) = 1 ∧ descFits s.part c d = true ∧ descDone c d = true ∧ d.irq = false ∧ d.halt = false ∧ s.f F.HOST_CH_TAIL_INDEX c = (d.index + 1) % s.dmaRingSize c ∧ s.f F.HOST_CH_CTRL_HALT_ON_ERR c = 0 ∧ s.dmaRingBase c + 32 * d.index + 32 ≤ 2 ^ 64 ∧ pieceLen (s.dmaRingBase c + 32 * d.index + 24) 8 s.host.maxPayload = 8) ∧
    (∃ (s : State) (c : Nat) (t0 : DWord), s.dmaAlone c = true ∧ s.dmaEmpty c = true ∧ (s.dma c).messageDue = true ∧ (s.dma c).lastMessage = some t0) ∧
    (∃ (s : State) (c : Nat) (i : Nat) (a : Nat) (tag : Nat) (b : BitVec 256), s.dmaAlone c = true ∧ s.funcState (.dma c) = 1 ∧ s.host.reads = [⟨tag, .fetch c, a, 32⟩] ∧ (s.dma c).descs = [] ∧ (s.dma c).fetching = some (i, 1) ∧ s.f F.HOST_CH_HEAD_INDEX c = i ∧ i + 1 < s.dmaRingSize c ∧ s.f F.HOST_CH_TAIL_INDEX c = i + 1 ∧ descFits s.part c (parseDesc i (s.dma c).serial b) = false ∧ (parseDesc i (s.dma c).serial b).irq = false ∧ s.dmaRingBase c + 32 * i + 32 ≤ 2 ^ 64 ∧ pieceLen (s.dmaRingBase c + 32 * i + 24) 8 s.host.maxPayload = 8) ∧
    (∃ (s : State) (tag : Nat) (a : Nat) (d : Delivered) (bytes : List Byte), s.ready = true ∧ s.host.reads = [⟨tag, .window d.packet, a, bytes.length⟩] ∧ s.host.readsWaiting = [] ∧ s.host.windowReads = [(d.packet, ⟨[(a, bytes.length)], [], false⟩)] ∧ (s.ni d.packet.dest).delivered = [d] ∧ entryValid (s.activeEntry d.packet.dest d.packet.src) = true ∧ s.sendsNow d.packet.dest 1 = true) ∧
    (∃ (s : State) (tag : Nat) (a : Nat) (len : Nat) (d : Delivered), s.ready = true ∧ s.host.reads = [⟨tag, .window d.packet, a, len⟩] ∧ s.host.readsWaiting = [] ∧ s.host.windowReads = [(d.packet, ⟨[(a, len)], [], false⟩)] ∧ d.packet.cmd = .rd ∧ (s.ni d.packet.dest).delivered = [d] ∧ entryValid (s.activeEntry d.packet.dest d.packet.src) = true ∧ s.sendsNow d.packet.dest 1 = true) :=
  ⟨⟨rn upL, 17, 0, 0x00000007#32, by decide +kernel⟩,
    ⟨b0 up, 17, 0x643d3f17#32, by decide +kernel⟩,
    ⟨fetching, 17, 5, 256, 5, 0x0000000000000000000000000000006400000000000080000000000000010000#256, by decide +kernel⟩,
    ⟨rdc upL, 17, { index := 5, serial := 2, card := 65536, host := 32768, length := 100, irq := false, halt := false, reserved := false, issued := 100, waiting := 0, moved := 100, ready := [], failure := none, wrote := [], closed := true }, by decide +kernel⟩,
    ⟨dm (fun v => { v with messageDue := true, lastMessage := some 399000 }) (rn upL), 17, 0x0000000000061698#64, by decide +kernel⟩,
    ⟨fetching, 17, 5, 256, 5, 0x0000000000000000000000000000000000000000000000000000000000000007#256, by decide +kernel⟩,
    ⟨win upL, 5, 487424, { handle := 3, packet := { cmd := Sys2Proof.Cmd.rd, src := 96, dest := 145, tag := 7, record := 0x0000#16, err := 0, attr := 0x00#8, addr := 824633720848, len := 7, beFirst := 0x0000000000000f00#64, beLast := 0x00000000000000f0#64, operand := 0x00000001ffffffff#64, injTime := 0x00000000#32, route := 0xfffffffff002#48, vn := 1, prio := 0, data := [0x01#8, 0x02#8, 0x03#8, 0x04#8, 0x05#8, 0x06#8, 0x07#8, 0x08#8], poison := false }, since := 0x000000000005f370#64, held := 0x0000000000000000#64 }, [0x01#8, 0x02#8, 0x03#8, 0x04#8, 0x05#8, 0x06#8, 0x07#8, 0x08#8], by decide +kernel⟩,
    ⟨win upL, 5, 487424, 8, { handle := 3, packet := { cmd := Sys2Proof.Cmd.rd, src := 96, dest := 145, tag := 7, record := 0x0000#16, err := 0, attr := 0x00#8, addr := 824633720848, len := 7, beFirst := 0x0000000000000f00#64, beLast := 0x00000000000000f0#64, operand := 0x00000001ffffffff#64, injTime := 0x00000000#32, route := 0xfffffffff002#48, vn := 1, prio := 0, data := [0x01#8, 0x02#8, 0x03#8, 0x04#8, 0x05#8, 0x06#8, 0x07#8, 0x08#8], poison := false }, since := 0x000000000005f370#64, held := 0x0000000000000000#64 }, by decide +kernel⟩⟩

end W14

namespace W15

def um (s : State) : State := (((s.setF F.DEV_STATUS_USER_MODE 0 1).setWord .PWR_REGION_STATUS 0 0x7FF)).putTime 400000
def b0 (s : State) : State := 
  let s := um s
  let s := [0x60,0x90,0x95].foldl (fun s n => ((s.setFunc (.ni n) 1).setF F.NI_FENCE_STATUS_STATE n 0).setF F.DEV_XS_STATE_STATE n 0) s
  (s.setFunc (.core 1) 1).setCore 1 { s.core 1 with pc := 0x100, reserve := some (0x10000040 / 64) }
def a0 : Nat := 0x10000040
def mem (s : State) : State := ((s.setLocalWord 1 a0 0x81828384).setLocalWord 1 0x20 0x12345678).setLocalWord 1 0x10010 0xFEDCBA98
def co (f : Core → Core) (s : State) : State := s.setCore 1 (f (s.core 1))
def segs : List Nat := [0x40,0,0,0x10, 8,0,0,0, 2,0,0,0,0,0,0,0, 1,2,3,4,5,6,7,8, 0,0,0,0, 0,0,0,0, 0,0,0,0,0,0,0,0]
def fw (s : State) : State :=
  let s := (List.range segs.length).foldl (fun s i => s.setNvByte (firmwareArea + i) (BitVec.ofNat 8 (segs.getD i 0))) s
  let crc := crcOfBytes (s.nvBytes firmwareArea segs.length)
  let s := (List.range 4).foldl (fun s i => s.setNvByte (firmwareArea + segs.length + i) (BitVec.ofNat 8 (crc.toNat / 256 ^ i))) s
  let s := s.setWord .SEQ_BOOT_STATUS 0 0
  let s := s.putCfg { s.cfg with header := { s.cfg.header with seqBoot := [1, BitVec.ofNat 32 (segs.length + 4), 0x10000000] } }
  s.putLedger { s.ledger with ready := true }
def dg (w : Nat) (s : State) : State := s.putSeq { s.seq with dogs := [(w, ⟨50, some 399990, 0, false⟩)] }
def pw (s : State) := co (fun v => { v with posted := [(0x60, 0x123)] }) s
def wn (w : Nat) (s : State) := (dg w s).setF F.WDOG_WARN_US w 10

/-- The hypotheses of CoreAccesses can be met. -/
theorem witness_CoreAccesses :
    (∃ (s : State) (n : Nat) (b : Nat) (rd : Nat) (a : Word), s.ready = true ∧ s.coreRuns n = true ∧ s.coreStalled n = false ∧ allowed (regionOf a.toNat) .load = true ∧ regionOf a.toNat ≠ .aperture ∧ regionOf a.toNat ≠ .far ∧ (b = 1 ∨ b = 2 ∨ b = 4) ∧ a.toNat % b = 0 ∧ 0 < rd ∧ rd < 32) ∧
    (∃ (s : State) (n : Nat) (b : Nat) (a : Word) (x : EccFinding), s.ready = true ∧ s.coreRuns n = true ∧ s.coreStalled n = false ∧ (regionOf a.toNat = .itcm ∨ regionOf a.toNat = .dtcm ∨ regionOf a.toNat = .sram) ∧ (b = 1 ∨ b = 2 ∨ b = 4) ∧ a.toNat % b = 0 ∧ x = .clean) ∧
    (∃ (s : State) (n : Nat) (rd : Nat) (a : Word), s.ready = true ∧ s.coreRuns n = true ∧ s.coreStalled n = false ∧ regionOf a.toNat = .sram ∧ a.toNat % 4 = 0 ∧ 0 < rd ∧ rd < 32) ∧
    (∃ (s : State) (n : Nat) (a : Word), s.ready = true ∧ s.coreRuns n = true ∧ s.coreStalled n = false ∧ (regionOf a.toNat = .itcm ∨ regionOf a.toNat = .rom ∨ regionOf a.toNat = .sram) ∧ a.toNat % 2 = 0 ∧ s.coreInterrupted n = false) ∧
    (∃ (s : State) (n : Nat) (b : Nat) (a : Word), s.ready = true ∧ s.coreRuns n = true ∧ s.coreStalled n = false ∧ (regionOf a.toNat = .itcm ∨ regionOf a.toNat = .dtcm ∨ regionOf a.toNat = .sram) ∧ (b = 1 ∨ b = 2 ∨ b = 4) ∧ a.toNat % b = 0) ∧
    (∃ (s : State) (n : Nat) (x : Nat) (rd : Nat) (d : Nat) (tag : Nat), s.ready = true ∧ s.coreRuns n = true ∧ s.coreStalled n = false ∧ x < 0x10000000 ∧ x % 4 = 0 ∧ decodeAddr s.part (csrBase + x) = .ni d ∧ s.sendsAt (0x94 + n) d tag (coreAsk n .rd (csrBase + x) 4 []) = true) ∧
    (∃ (s : State) (n : Nat) (x : Nat) (bytes : Nat), s.ready = true ∧ s.coreRuns n = true ∧ s.coreStalled n = false ∧ x < 0x10000000 ∧ (bytes ≠ 4 ∨ x % 4 ≠ 0)) ∧
    (∃ (s : State) (n : Nat) (y : Nat) (d : Nat), s.ready = true ∧ s.coreRuns n = true ∧ s.coreStalled n = false ∧ y < 0x10000000 ∧ y % 4 = 0 ∧ s.f F.SEQ_FAR_CTRL_POSTED n = 1 ∧ s.niTakes (0x94 + n) = true ∧ (s.ni (0x94 + n)).csf.up = [] ∧ decodeAddr s.part ((s.pair .SEQ_FAR_BASE_LO .SEQ_FAR_BASE_HI n + y) % 2 ^ 48) = .ni d ∧ (s.recordOf (0x94 + n)).isNone = true ∧ entryValid (s.activeEntry (0x94 + n) d) = true ∧ s.sendsNow (0x94 + n) 0 = true) ∧
    (∃ (s : State) (n : Nat) (y : Nat) (d : Nat) (tag : Nat) (b : Nat) (rd : Nat), s.ready = true ∧ s.coreRuns n = true ∧ s.coreStalled n = false ∧ y < 0x10000000 ∧ (b = 1 ∨ b = 2 ∨ b = 4) ∧ y % b = 0 ∧ decodeAddr s.part ((s.pair .SEQ_FAR_BASE_LO .SEQ_FAR_BASE_HI n + y) % 2 ^ 48) = .ni d ∧ s.sendsAt (0x94 + n) d tag (coreAsk n .rd ((s.pair .SEQ_FAR_BASE_LO .SEQ_FAR_BASE_HI n + y) % 2 ^ 48) b []) = true) ∧
    (∃ (s : State) (n : Nat) (d : Nat) (a : Nat) (tag : Nat), s.ready = true ∧ s.coreRuns n = true ∧ s.coreStalled n = false ∧ (s.core n).posted = [(d, a)] ∧ decodeAddr s.part (a / 4 * 4) = .ni d ∧ s.sendsAt (0x94 + n) d tag (coreAsk n .wr (a / 4 * 4) 4 (toBytes 4 0)) = true) ∧
    (∃ (s : State) (n : Nat), s.ready = true ∧ s.coreRuns n = true ∧ s.coreStalled n = false) :=
  ⟨⟨dg 1 (b0 up), 1, 1, 4, 0x10000040#32, by decide +kernel⟩,
    ⟨(fw (b0 upL)).setNvByte firmwareArea 0x41, 1, 4, 0x10000040#32, (Sys2Proof.EccFinding.clean), by decide +kernel⟩,
    ⟨co (fun v => { v with posted := [(0x60, 0x123)] }) (b0 up), 1, 2, 0x10000040#32, by decide +kernel⟩,
    ⟨fw (b0 upL), 1, 0x00000002#32, by decide +kernel⟩,
    ⟨(dg 4 (b0 up)), 1, 1, 0x10000040#32, by decide +kernel⟩,
    ⟨co (fun v => { v with timecmp := 500000 }) (b0 up), 1, 96, 16, 153, 0, by decide +kernel⟩,
    ⟨fw (b0 upL), 1, 1, 1, by decide +kernel⟩,
    ⟨(b0 up).setF F.SEQ_FAR_CTRL_POSTED 1 1, 1, 4, 96, by decide +kernel⟩,
    ⟨(dg 4 (b0 up)), 1, 4, 96, 0, 1, 96, by decide +kernel⟩,
    ⟨pw (b0 up), 1, 96, 291, 0, by decide +kernel⟩,
    ⟨fw (b0 upL), 1, by decide +kernel⟩⟩

/-- The hypotheses of Sequencer can be met. -/
theorem witness_Sequencer :
    (∃ (s : State), s.ready = true ∧ s.ledger.ready = true ∧ s.seqPowered = true ∧ s.f F.SEQ_BOOT_STATUS_LOADED 0 = 0 ∧ s.f F.SEQ_BOOT_STATUS_CAUSE 0 = 0 ∧ (s.seqBoot 0).getLsbD 0 = true ∧ 4 ≤ (s.seqBoot 1).toNat % 2 ^ 23 ∧ (s.seqBoot 1).toNat % 2 ^ 23 ≤ 0x400000 ∧ crcOfBytes (s.nvBytes firmwareArea ((s.seqBoot 1).toNat % 2 ^ 23 - 4)) = s.nvWord (firmwareArea + (s.seqBoot 1).toNat % 2 ^ 23 - 4) ∧ (s.copySegments 0 ((s.seqBoot 1).toNat % 2 ^ 23 - 4) ((s.seqBoot 1).toNat % 2 ^ 23 / 16 + 1)).1 = true) ∧
    (∃ (s : State), s.ready = true ∧ s.ledger.ready = true ∧ s.seqPowered = true ∧ s.f F.SEQ_BOOT_STATUS_LOADED 0 = 0 ∧ s.f F.SEQ_BOOT_STATUS_CAUSE 0 = 0 ∧ (s.seqBoot 0).getLsbD 0 = false) ∧
    (∃ (s : State) (n : Nat) (i : Nat), s.ready = true ∧ s.corePresent n = true ∧ s.claimable n = some i ∧ i ≠ 36 ∧ (i < 32 → (s.word .DEV_EVT_CORE_MASK n).getLsbD i = false)) ∧
    (∃ (s : State), s.ready = true) ∧
    (∃ (s : State) (n : Nat), s.ready = true ∧ n < Part.cores s.part) ∧
    (∃ (s : State) (n : Nat), s.ready = true ∧ s.corePresent n = true) :=
  ⟨⟨fw (b0 upL), by decide +kernel⟩,
    ⟨co (fun v => { v with reserve := none, csrs := [(0x305, 0x203)] }) (mem (b0 upL)), by decide +kernel⟩,
    ⟨(b0 up).setWord .SEQ_IC_PEND_LO 1 0x81, 1, 0, by decide +kernel⟩,
    ⟨co (fun v => { v with reserve := none, csrs := [(0x305, 0x203)] }) (mem (b0 upL)), by decide +kernel⟩,
    ⟨co (fun v => { v with reserve := none, csrs := [(0x305, 0x203)] }) (mem (b0 upL)), 0, by decide +kernel⟩,
    ⟨co (fun v => { v with reserve := none, csrs := [(0x305, 0x203)] }) (mem (b0 upL)), 0, by decide +kernel⟩⟩

/-- The hypotheses of WatchdogsAndThrottle can be met. -/
theorem witness_WatchdogsAndThrottle :
    (∃ (s : State) (who : Who) (w : Nat) (d : Dog) (data : Word), s.ready = true ∧ dogPresent s.part w = true ∧ data.toNat % 65536 = 0x6B1D ∧ kickFrom w who.origin = true ∧ s.dog w = some d ∧ s.dogCount d ≠ 0 ∧ s.dogReason w d = d.reason) ∧
    (∃ (s : State) (who : Who) (w : Nat) (data : Word), s.ready = true ∧ dogPresent s.part w = true ∧ (data.toNat % 65536 ≠ 0x6B1D ∨ kickFrom w who.origin = false)) ∧
    (∃ (s : State) (w : Nat) (d : Dog) (t0 : DWord), s.ready = true ∧ dogPresent s.part w = true ∧ s.dog w = some d ∧ d.since = some t0 ∧ d.warned = false ∧ s.dogUs F.WDOG_WARN_US w ≤ d.held) ∧
    (∃ (s : State) (watts : Nat), s.ready = true ∧ watts < 1024) :=
  ⟨⟨dg 1 (b0 up), { origin := 0x11#8, ni := 0x95#8 }, 1, { held := 50, since := some 0x0000000000061a76#64, reason := 0, warned := false }, 0x00006b1d#32, by decide +kernel⟩,
    ⟨fw (b0 upL), { origin := 0x11#8, ni := 0x95#8 }, 1, 0x00010012#32, by decide +kernel⟩,
    ⟨wn 1 (b0 up), 1, { held := 50, since := some 0x0000000000061a76#64, reason := 0, warned := false }, 0x0000000000061a76#64, by decide +kernel⟩,
    ⟨fw (b0 upL), 291, by decide +kernel⟩⟩

end W15

namespace W16

def um (s : State) : State := (((s.setF F.DEV_STATUS_USER_MODE 0 1).setWord .PWR_REGION_STATUS 0 0x7FF)).putTime 400000
def b0 (s : State) : State := 
  let s := um s
  let s := [3,0x60,0x90,0x95,0x71].foldl (fun s n => (s.setFunc (.ni n) 1).setF F.NI_FENCE_STATUS_STATE n 0) s
  ((s.setWord .PWR_REGION_CTRL 0 0x7FF).setWord .PWR_QUAD_CTRL 0 0xFFFFFFFF).setWord .PWR_QUAD_STATUS 0 0xFFFFFFFF
def st (k : Nat) (s : State) : State := s.setF F.PWR_STATE_STATUS_STATE 0 k
def sp (s : State) : State := s.putCfg { s.cfg with spans := [], loaded := [(5, 77), (928, BitVec.ofNat 4096 (7 + 2^8 + 2^32*(4 + 8*7) + 2^64 * 2 + 2^10))] }
def wh : Who := ⟨0x11, 0x95⟩
def chg (c : PowerChange) (s : State) : State := s.putPower { s.power with change := some c }
def vl (s : State) : State := (((s.setF F.PWR_VLOOP_STATUS_STATE 0 1).setF F.PWR_VLOOP_VOUT_CMD 0 800).setF F.PWR_VLOOP_TARGET_TARGET 0 500).setF F.PWR_VLOOP_STEP_STEP 0 5
def feed (s : State) : State := s.setF F.PIN_PAD_FUNC 1 5

/-- The hypotheses of PowerStates can be met. -/
theorem witness_PowerStates :
    (∃ (s : State), s.downTo 1 = true ∧ s.f F.PWR_STATE_STATUS_STATE 0 = 0 ∧ fpdsOf s.regionsOn ≠ 0) ∧
    (∃ (s : State), s.downTo 2 = true) ∧
    (∃ (s : State), s.downTo 3 = true) ∧
    (∃ (s : State), s.ready = true ∧ s.stateRefusal 0 = none ∧ s.f F.PWR_STATE_STATUS_STATE 0 = 1 ∧ s.regionsOn &&& ~~~(s.stateRegions 0).1 = 0 ∧ s.quadsOn &&& ~~~(s.stateRegions 0).2 = 0 ∧ fpdsOf ((s.stateRegions 0).1 &&& ~~~s.regionsOn) ≠ 0) ∧
    (∃ (s : State) (who : Who) (on : BitVec 11) (same : Bool), s.ready = true ∧ s.power.change = some ⟨some 0, 0, 0, on, false, who⟩ ∧ on ≠ 0 ∧ fpdsOf on = on ∧ s.fabric.brownout = false ∧ (s.cfg.fullSource.isSome && s.baseLost on same) = false ∧ s.repair.step = none ∧ s.repair.asked = [] ∧ s.repair.migrations = [] ∧ s.f F.PWR_STATE_STATUS_STATE 0 < 3) ∧
    (∃ (s : State) (data : Word), s.ready = true ∧ s.f F.PWR_STATE_STATUS_STATE 0 ≠ 0 ∧ data.setWidth 11 &&& ~~~(Part.regions s.part) = 0 ∧ data &&& ~~~(Part.quadMask s.part) = 0 ∧ data.toNat < 2048) ∧
    (∃ (s : State) (data : Word), s.ready = true ∧ s.f F.PWR_STATE_STATUS_STATE 0 = 0 ∧ data.toNat < 2048 ∧ data.setWidth 11 &&& ~~~(Part.regions s.part) = 0 ∧ s.power.change = none ∧ s.repair.step = none ∧ data.setWidth 11 &&& ~~~s.regionsOn = 0 ∧ s.regionsOn &&& ~~~data.setWidth 11 ≠ 0 ∧ s.offRefusal (s.regionsOn &&& ~~~data.setWidth 11) 0 = none) ∧
    (∃ (s : State) (data : Word), s.ready = true ∧ s.f F.PWR_STATE_STATUS_STATE 0 = 0 ∧ data &&& ~~~(Part.quadMask s.part) = 0 ∧ s.power.change = none ∧ s.repair.step = none ∧ data &&& ~~~s.quadsOn = 0 ∧ s.quadsOn &&& ~~~data ≠ 0 ∧ s.offRefusal 0 (s.quadsOn &&& ~~~data) = none) ∧
    (∃ (s : State) (who : Who) (q : Nat), s.ready = true ∧ q < 32 ∧ s.power.change = some ⟨none, 0, BitVec.ofNat 32 (2 ^ q), 0, true, who⟩ ∧ s.niClosed [0x70 + q] = true) :=
  ⟨⟨sp ((b0 upL).putFabric { up.fabric with brownout := true }), by decide +kernel⟩,
    ⟨sp ((b0 upL).putFabric { up.fabric with brownout := true }), by decide +kernel⟩,
    ⟨st 2 ((b0 upL).setWord .PWR_REGION_STATUS 0 0x500 |>.setWord .PWR_QUAD_STATUS 0 0), by decide +kernel⟩,
    ⟨st 1 ((b0 upL).setWord .PWR_REGION_STATUS 0 0x700), by decide +kernel⟩,
    ⟨chg ⟨some 0, 0, 0, 0x03, false, wh⟩ (st 2 (b0 upL)), { origin := 0x11#8, ni := 0x95#8 }, 0x003#11, true, by decide +kernel⟩,
    ⟨st 2 ((b0 upL).setWord .PWR_REGION_STATUS 0 0x500 |>.setWord .PWR_QUAD_STATUS 0 0), 0x000004ff#32, by decide +kernel⟩,
    ⟨sp ((b0 upL).putFabric { up.fabric with brownout := true }), 0x000004ff#32, by decide +kernel⟩,
    ⟨sp ((b0 upL).putFabric { up.fabric with brownout := true }), 0xc35b5300#32, by decide +kernel⟩,
    ⟨chg ⟨none, 0, 32, 0, true, wh⟩ ((b0 upL).setF F.NI_FENCE_STATUS_STATE 0x75 2 |>.setF F.DEV_XS_STATE_STATE 0x75 0), { origin := 0x11#8, ni := 0x95#8 }, 5, by decide +kernel⟩⟩

/-- The hypotheses of SuppliesAndVoltage can be met. -/
theorem witness_SuppliesAndVoltage :
    (∃ (s : State) (fab : Nat) (sys : Nat), s.ready = true ∧ fab < 4096 ∧ sys < 4096) ∧
    (∃ (s : State), s.ready = true) ∧
    (∃ (s : State) (bank : Nat) (level : Nat), s.ready = true ∧ bank < 13 ∧ level < 6) ∧
    (∃ (s : State), s.ready = true ∧ s.fabric.brownout = false ∧ s.repair.step = none) ∧
    (∃ (s : State) (same : Bool), s.ready = true ∧ s.fabric.brownout = true ∧ s.f F.DEV_STATUS_USER_MODE 0 = 1 ∧ s.power.change = none ∧ fpdsOf s.regionsOn ≠ 0 ∧ (s.cfg.fullSource.isSome && s.baseLost (fpdsOf s.regionsOn) same) = false ∧ s.repair.step = none ∧ s.repair.asked = [] ∧ s.repair.migrations = []) ∧
    (∃ (s : State) (k : Int) (sensor : Nat), s.ready = true ∧ s.power.hot = false ∧ -128 ≤ k ∧ k < 110 ∧ sensor ≤ 8) ∧
    (∃ (s : State) (data : Word) (m : Nat) (v : Nat), s.ready = true ∧ 10 ≤ data.toNat / 2 ^ 22 ∧ data.getLsbD 0 = true ∧ s.f F.PWR_VLOOP_STATUS_STATE 0 = 0 ∧ s.inputFed 49 = true ∧ s.goRuns = false ∧ m / 32 = 0 ∧ v < 4096) ∧
    (∃ (s : State) (data : Word), s.ready = true ∧ 10 ≤ data.toNat / 2 ^ 22 ∧ data.getLsbD 0 = true ∧ s.f F.PWR_VLOOP_STATUS_STATE 0 = 0 ∧ s.inputFed 49 = true ∧ s.goRuns = false) ∧
    (∃ (s : State) (w : Nat) (mv : Nat), s.ready = true ∧ s.fabric.vloopDue = [] ∧ s.fabric.vloopHeard = [] ∧ s.fabric.vloopTries = 0 ∧ s.goRuns = false ∧ (s.f F.PWR_VLOOP_STATUS_STATE 0 = 1 ∨ s.f F.PWR_VLOOP_STATUS_STATE 0 = 2) ∧ s.inputFed 49 = true ∧ w < 32768 ∧ mv < 4096 ∧ s.nextCommand (s.band s.loopRate) ≠ s.f F.PWR_VLOOP_VOUT_CMD 0 ∧ mv ≤ s.nextCommand (s.band s.loopRate) + 25 ∧ s.nextCommand (s.band s.loopRate) ≤ mv + 25) :=
  ⟨⟨sp ((b0 upL).putFabric { up.fabric with brownout := true }), 3, 5, by decide +kernel⟩,
    ⟨sp ((b0 upL).putFabric { up.fabric with brownout := true }), by decide +kernel⟩,
    ⟨sp ((b0 upL).putFabric { up.fabric with brownout := true }), 3, 5, by decide +kernel⟩,
    ⟨b0 upL, by decide +kernel⟩,
    ⟨sp ((b0 upL).putFabric { up.fabric with brownout := true }), true, by decide +kernel⟩,
    ⟨sp ((b0 upL).putFabric { up.fabric with brownout := true }), (-40), 5, by decide +kernel⟩,
    ⟨feed (b0 up), 0xf6f14d6f#32, 1, 5, by decide +kernel⟩,
    ⟨feed (b0 up), 0x04000001#32, by decide +kernel⟩,
    ⟨vl (feed (b0 upL)), 1, 800, by decide +kernel⟩⟩

end W16

namespace W17

def um (s : State) : State := (((s.setF F.DEV_STATUS_USER_MODE 0 1).setWord .PWR_REGION_STATUS 0 0x7FF)).putTime 400000
def lv (s : State) : State := (List.range 13).foldl (fun s b => s.setF F.PIN_BANK_STATUS_LEVEL b 3) s
def fr (k : Nat) (s : State) : State := s.setFrame (homeRod s.part 3) 930 (BitVec.ofNat 4096 k) |>.setFrame (homeRod s.part 5) 930 (BitVec.ofNat 4096 k)
def ptc0 (k : Nat) (s : State) : State := s.setFrame 0 930 (BitVec.ofNat 4096 (k * 2^64))
def b0 (s : State) : State := lv (um s)
def feeds (s : State) : State :=
  -- pin n%16: I2C u pins 4u,4u+1 func 2 ; SPI miso 4u+2 func 3; UART rx 4u+1 func 4; pmbus bank 3
  let s := [0,1,4,5,8,9,12,13].foldl (fun s p => s.setF F.PIN_PAD_FUNC p 2) s
  let s := [2,6,10,14].foldl (fun s p => s.setF F.PIN_PAD_FUNC (16+p) 3) s
  let s := [1,5,9,13].foldl (fun s p => s.setF F.PIN_PAD_FUNC (32+p) 4) s
  let s := [1,2].foldl (fun s p => s.setF F.PIN_PAD_FUNC (48+p) 5) s
  let s := [0,1,2,3,4,5,6,7].foldl (fun s p => s.setF F.PIN_PAD_FUNC (64+p) 7) s
  let s := (List.range 4).foldl (fun s u => ((s.setF F.I2C_CTRL_EN u 1).setF F.SPI_CTRL_EN u 1).setF F.UART_CTRL_EN u 1) s
  let s := (List.range 4).foldl (fun s u => ((s.setF F.UART_CTRL_DATA u 3).setF F.SPI_CTRL_BITS u 7).setF F.SPI_CTRL_DIV u 4) s
  let s := s.setF F.PMB_CTRL_EN 0 1
  (List.range 8).foldl (fun s u => ((s.setF F.PT_CTRL_OUT_EN u 1).setF F.PT_CTRL_CAP_EN u 1)) s
def sw (s : State) : State := s.putPins { s.pins with switching := [(5, ⟨400000, true, []⟩)] }
def li (fs : List (Fld × Nat × Nat)) : State := fs.foldl (fun s x => s.setF x.1 x.2.1 x.2.2) up
def cst (v : Nat) : Nat := (List.range 64).foldl (fun a i => a + v * 4 ^ i) 0
def tile (s : State) (rod row lo v : Nat) : State := s.setRodBits rod 480 (6784*row+lo) 8 v
def slotv (s : State) (b : BeadSink) (d v : Nat) : State :=
  let (r, w, i) := s.sinkSlot b d
  let s := (List.range 4).foldl (fun s v => s.setRodBits r (5*w) (160*v) 160 (cst v)) s
  tile s r w (slotAt i) (v+1)
def pv (v : Nat) (s : State) : State := slotv (slotv s (.pin 3) 0 v) (.pin 5) 0 v
def st0 (o : Option Digit) (l : Option Bool) (s : State) : State := (s.setPinStation 3 ⟨0, o, l, none, false, 7, false, some 399990⟩)
def i2w : State := (li [(F.PIN_PAD_FUNC, 0, 2), (F.PIN_PAD_FUNC, 1, 2), (F.I2C_CTRL_EN, 0, 1), (F.I2C_STATUS_BUSY, 0, 1)]).setI2c 0 ⟨[], [], 3, 400100, true⟩
def spr (k : Nat) (s : State) := ((s.setUart 1 ⟨[], [], some (7, 399990)⟩).setF F.UART_CTRL_PARITY 1 k).setSpi 1 ⟨[], [4], some (3, 399990)⟩
def hi (s : State) : State := s.putFabric { s.fabric with padIn := (List.range 8).map fun n => (64+n, true) }

/-- The hypotheses of Pins can be met. -/
theorem witness_Pins :
    (∃ (s : State) (p : Nat) (upset : Upset) (b : Bead), s.ready = true ∧ p < 192 ∧ (s.stationDir p).testBit 0 = true ∧ (s.pinStation p).waiting = none ∧ s.stationOutMode p = 0 ∧ s.meets (.pin p, upset) b = true) ∧
    (∃ (s : State) (p : Nat) (n : Nat) (phase : Nat) (upset : Upset) (b : Bead), s.ready = true ∧ p < 192 ∧ (s.stationDir p).testBit 0 = true ∧ (s.pinStation p).waiting = none ∧ s.stationOutMode p ≠ 0 ∧ s.ptcTicks (s.stationOutClk p) = some (n, phase) ∧ s.meets (.pin p, upset) b = true) ∧
    (∃ (s : State) (p : Nat) (upset : Upset) (b : Bead), s.ready = true ∧ p < 192 ∧ (s.stationDir p).testBit 0 = true ∧ (s.pinStation p).waiting = none ∧ s.stationOutMode p ≠ 0 ∧ s.ptcTicks (s.stationOutClk p) = none ∧ s.ptcFromPin (s.stationOutClk p) = true ∧ s.meets (.pin p, upset) b = true) ∧
    (∃ (s : State) (p : Nat) (level : Bool), s.stands p (!level) = true ∧ s.stationInMode p = 2 ∧ (s.pinStation p).offer = none ∧ (s.pinStation p).last = some (!level)) ∧
    (∃ (s : State) (p : Nat) (level : Bool) (v : Digit), s.stands p (!level) = true ∧ s.stationInMode p = 2 ∧ (s.pinStation p).offer = some v ∧ (s.pinStation p).last = some level) ∧
    (∃ (s : State) (p : Nat) (n : Nat) (phase : Nat) (wait : Nat) (level : Bool) (a : DWord), s.stands p (!level) = true ∧ s.stationInMode p = 1 ∧ s.ptcTicks (s.stationInClk p) = some (n, phase) ∧ (s.pinStation p).sampledTo = some a ∧ (s.pinStation p).offer = none ∧ 1 ≤ edgesIn (a + s.timeOffset).toNat (s.now + BitVec.ofNat 64 wait).toNat n phase) ∧
    (∃ (s : State) (p : Nat) (level : Bool), s.settled p (!level) = true ∧ s.stationInMode p = 1 ∧ (s.clocksOf p level).contains (s.stationInClk p) = true) ∧
    (∃ (s : State) (p : Nat) (data : Word), s.ready = true ∧ p < 208 ∧ s.padSwitching p = false ∧ padBad p data = false ∧ data.toNat % 8 = s.padFunc p) ∧
    (∃ (s : State) (p : Nat) (data : Word), s.ready = true ∧ p < 208 ∧ s.padSwitching p = false ∧ padBad p data = false ∧ data.toNat % 8 ≠ s.padFunc p ∧ s.pinProtected p = false) ∧
    (∃ (s : State) (p : Nat) (data : Word), s.ready = true ∧ p < 208 ∧ s.padSwitching p = false ∧ (6 ≤ data.toNat / 8 % 8 ∨ 192 ≤ p ∧ data.toNat % 8 = 1)) ∧
    (∃ (s : State) (p : Nat) (since : DWord) (level : Bool), s.ready = true ∧ s.pins.switching = [(p, ⟨since, level, []⟩)]) ∧
    (∃ (s : State) (i : Nat), s.ready = true ∧ i < 13) ∧
    (∃ (s : State) (n : Nat), s.ready = true ∧ n < 16 ∧ s.f F.PIN_EXTL_CFG_EN n = 1 ∧ (s.extlLine n).raw = s.padLevel (s.extlPin n)) ∧
    (∃ (s : State) (n : Nat), s.ready = true ∧ s.f F.PIN_EXTL_CFG_EN n = 0) :=
  ⟨⟨pv 3 (fr 3 (b0 up)), 3, [], { digits := [0x3#2], outs := [], faults := [] }, by decide +kernel⟩,
    ⟨(pv 1 (fr (3+4) (ptc0 8 (b0 up)))).putTime 400001, 3, 4, 0, [], { digits := [0x1#2], outs := [], faults := [] }, by decide +kernel⟩,
    ⟨pv 1 (fr (3+4) (ptc0 9 (b0 upL))), 3, [], { digits := [0x1#2], outs := [], faults := [] }, by decide +kernel⟩,
    ⟨st0 none (some false) (fr (3+32) (b0 up)), 3, true, by decide +kernel⟩,
    ⟨st0 (some 0) (some true) (fr (3+32) (b0 up)), 3, true, 0x0#2, by decide +kernel⟩,
    ⟨st0 none none (fr (3+16) (ptc0 8 (b0 up))), 3, 4, 0, 3, true, 0x0000000000061a76#64, by decide +kernel⟩,
    ⟨st0 (some 1) none (fr (3+16) (ptc0 7 (b0 upL))), 3, true, by decide +kernel⟩,
    ⟨st0 none none (fr (3+16) (ptc0 7 (b0 up))), 4, 0x00000000#32, by decide +kernel⟩,
    ⟨st0 none (some false) (fr (3+32) (b0 upL)), 4, 0x00000007#32, by decide +kernel⟩,
    ⟨st0 none (some false) (fr (3+32) (b0 up)), 3, 0x4f2d48f9#32, by decide +kernel⟩,
    ⟨sw (b0 upL), 5, 0x0000000000061a80#64, true, by decide +kernel⟩,
    ⟨st0 none (some false) (fr (3+32) (b0 upL)), 4, by decide +kernel⟩,
    ⟨(b0 up).setF F.PIN_EXTL_CFG_EN 3 1, 3, by decide +kernel⟩,
    ⟨st0 none (some false) (fr (3+32) (b0 upL)), 4, by decide +kernel⟩⟩

/-- The hypotheses of SerialUnits can be met. -/
theorem witness_SerialUnits :
    (∃ (s : State) (u : Nat) (data : Word), s.ready = true ∧ u < 4 ∧ data.getLsbD 31 = true ∧ (s.f F.I2C_STATUS_BUSY u = 1 ∨ s.f F.I2C_CTRL_TARGET u = 1 ∨ s.f F.I2C_CTRL_EN u = 0)) ∧
    (∃ (s : State) (u : Nat) (data : Word), s.ready = true ∧ u < 4 ∧ data.getLsbD 31 = true ∧ s.f F.I2C_STATUS_BUSY u = 0 ∧ s.f F.I2C_CTRL_TARGET u = 0 ∧ s.f F.I2C_CTRL_EN u = 1 ∧ (s.i2c u).tx = []) ∧
    (∃ (s : State) (u : Nat) (b : List Byte), s.ready = true ∧ u < 4 ∧ s.f F.I2C_STATUS_BUSY u = 1 ∧ s.i2cFed u = true ∧ s.f F.I2C_CMD_READ u = 1 ∧ b.length ≤ (s.i2c u).left ∧ (s.i2c u).rx.length + b.length ≤ 16) ∧
    (∃ (s : State) (u : Nat) (x : PeriphEnd) (b : Fld), s.ready = true ∧ u < 4 ∧ s.f F.I2C_STATUS_BUSY u = 1 ∧ s.i2cFed u = true ∧ ((x, b) ∈ [(.i2cNack u, F.I2C_STATUS_NACK), (.i2cArbLost u, F.I2C_STATUS_ARB_LOST), (.i2cTimeout u, F.I2C_STATUS_TIMEOUT)] ∨ x = .i2cDone u ∧ b = F.I2C_STATUS_DONE ∧ (s.i2c u).left = 0)) ∧
    (∃ (s : State) (u : Nat) (addr : Nat), s.ready = true ∧ u < 4 ∧ s.f F.I2C_CTRL_EN u = 1 ∧ s.f F.I2C_CTRL_TARGET u = 1 ∧ s.f F.I2C_CTRL_OWN_ADDR u = addr ∧ s.i2cFed u = true) ∧
    (∃ (s : State) (u : Nat), s.ready = true ∧ u < 4 ∧ s.f F.I2C_STATUS_BUSY u = 1 ∧ s.f F.I2C_CMD_READ u = 0 ∧ (s.i2c u).tx = [] ∧ 0 < (s.i2c u).left) ∧
    (∃ (s : State) (u : Nat), s.ready = true ∧ u < 4 ∧ s.f F.I2C_STATUS_BUSY u = 0) ∧
    (∃ (s : State) (u : Nat), s.ready = true ∧ u < 4 ∧ (s.spi u).sending = none ∧ (s.spi u).tx = [] ∧ s.f F.SPI_CTRL_EN u = 1) ∧
    (∃ (s : State) (u : Nat), s.ready = true ∧ u < 4 ∧ (s.spi u).sending ≠ none) ∧
    (∃ (s : State) (u : Nat) (w : Word) (t0 : DWord), s.ready = true ∧ u < 4 ∧ (s.spi u).sending = some (w, t0) ∧ (s.spi u).tx = [] ∧ (s.spi u).rx.length < 8 ∧ s.inputFed (18 + 4 * u) = true) ∧
    (∃ (s : State) (u : Nat), s.ready = true ∧ u < 4 ∧ (s.uart u).sending = none ∧ (s.uart u).tx = [] ∧ s.f F.UART_CTRL_EN u = 1 ∧ s.f F.UART_CTRL_FLOW u = 0) ∧
    (∃ (s : State) (u : Nat) (b : Byte) (t0 : DWord), s.ready = true ∧ u < 4 ∧ (s.uart u).sending = some (b, t0) ∧ (s.uart u).tx = []) ∧
    (∃ (s : State) (u : Nat), s.ready = true ∧ u < 4 ∧ s.f F.UART_CTRL_EN u = 1 ∧ s.inputFed (33 + 4 * u) = true) ∧
    (∃ (s : State) (u : Nat) (b : Byte), s.ready = true ∧ u < 4 ∧ s.f F.UART_CTRL_EN u = 1 ∧ s.inputFed (33 + 4 * u) = true ∧ (s.uart u).rx.length < 32 ∧ s.f F.UART_CTRL_PARITY u ≠ 0 ∧ b.toNat % 2 ^ (5 + s.f F.UART_CTRL_DATA u) ≠ 0) ∧
    (∃ (s : State) (u : Nat), s.ready = true ∧ u < 4 ∧ s.f F.UART_CTRL_EN u = 1 ∧ s.inputFed (33 + 4 * u) = true ∧ (s.uart u).rx.length < 32) ∧
    (∃ (s : State) (u : Nat), s.ready = true ∧ u < 4) :=
  ⟨⟨i2w, 1, 0xc73a2094#32, by decide +kernel⟩,
    ⟨spr 1 (feeds (b0 upL)), 1, 0x80000000#32, by decide +kernel⟩,
    ⟨i2w.setF F.I2C_CMD_READ 0 1, 0, [0x41#8, 0x07#8], by decide +kernel⟩,
    ⟨i2w, 0, (Sys2Proof.PeriphEnd.i2cNack 0), { reg := Sys2Proof.Reg.I2C_STATUS, lo := 2, width := 1 }, by decide +kernel⟩,
    ⟨li [(F.PIN_PAD_FUNC, 0, 2), (F.PIN_PAD_FUNC, 1, 2), (F.I2C_CTRL_EN, 0, 1), (F.I2C_CTRL_TARGET, 0, 1), (F.I2C_CTRL_OWN_ADDR, 0, 5)], 0, 5, by decide +kernel⟩,
    ⟨i2w, 0, by decide +kernel⟩,
    ⟨i2w, 1, by decide +kernel⟩,
    ⟨(spr 2 (feeds (b0 upL))).setF F.SPI_CTRL_LSB_FIRST 1 1, 0, by decide +kernel⟩,
    ⟨spr 0 (feeds (b0 up)), 1, by decide +kernel⟩,
    ⟨spr 0 (feeds (b0 up)), 1, 0x00000003#32, 0x0000000000061a76#64, by decide +kernel⟩,
    ⟨(spr 2 (feeds (b0 upL))).setF F.SPI_CTRL_LSB_FIRST 1 1, 0, by decide +kernel⟩,
    ⟨spr 2 ((feeds (b0 up)).setF F.UART_CTRL_STOP2 1 1), 1, 0x07#8, 0x0000000000061a76#64, by decide +kernel⟩,
    ⟨(spr 2 (feeds (b0 upL))).setF F.SPI_CTRL_LSB_FIRST 1 1, 0, by decide +kernel⟩,
    ⟨(spr 2 (feeds (b0 upL))).setF F.SPI_CTRL_LSB_FIRST 1 1, 1, 0x41#8, by decide +kernel⟩,
    ⟨(spr 2 (feeds (b0 upL))).setF F.SPI_CTRL_LSB_FIRST 1 1, 0, by decide +kernel⟩,
    ⟨i2w, 0, by decide +kernel⟩⟩

/-- The hypotheses of PmbusAndTimers can be met. -/
theorem witness_PmbusAndTimers :
    (∃ (s : State) (data : Word), s.ready = true ∧ data.getLsbD 31 = true ∧ data.toNat / 65536 % 8 ≠ 5 ∧ (s.f F.PMB_STATUS_BUSY 0 = 1 ∨ s.f F.PMB_CTRL_EN 0 = 0)) ∧
    (∃ (s : State) (data : Word), s.ready = true ∧ data.toNat / 65536 % 8 = 5 ∧ (data.toNat / 2 ^ 20 % 64 = 0 ∨ 32 < data.toNat / 2 ^ 20 % 64)) ∧
    (∃ (s : State) (data : Word), s.ready = true ∧ data.getLsbD 31 = true ∧ data.toNat / 65536 % 8 ≠ 5 ∧ s.f F.PMB_STATUS_BUSY 0 = 0 ∧ s.f F.PMB_CTRL_EN 0 = 1) ∧
    (∃ (s : State), s.ready = true ∧ s.goRuns = true ∧ s.fabric.vloopDue = [] ∧ s.fabric.vloopHeard = [] ∧ s.inputFed 49 = true ∧ s.f F.PMB_CMD_PROTOCOL 0 = 3 ∧ s.f F.PMB_CTRL_PEC 0 = 0 ∧ s.periph.pmb.rx.length < 32) ∧
    (∃ (s : State) (k : Nat), s.ready = true ∧ s.goRuns = true ∧ s.fabric.vloopDue = [] ∧ s.fabric.vloopHeard = [] ∧ s.inputFed 49 = true ∧ s.f F.PMB_CMD_PROTOCOL 0 = k ∧ (k = 1 ∨ k = 2)) ∧
    (∃ (s : State), s.ready = true) ∧
    (∃ (s : State), s.ready = true ∧ s.inputLevel 50 true = false) ∧
    (∃ (s : State), s.ready = true ∧ s.inputLevel 50 true = true) ∧
    (∃ (s : State) (n : Nat), s.ready = true ∧ n < 8 ∧ s.f F.PT_CTRL_OUT_EN n = 1 ∧ (s.pt n).armed = true) ∧
    (∃ (s : State) (n : Nat), s.ready = true ∧ n < 8 ∧ s.f F.PT_CTRL_OUT_EN n = 1 ∧ (s.pt n).armed = true ∧ s.f F.PT_CTRL_OUT_MODE n = 0 ∧ s.now.toNat = (s.pt n).cmp.toNat ∧ s.time.toNat % s.pinCycle = 0 ∧ (s.pt n).pulseEnd = none) ∧
    (∃ (s : State) (n : Nat) (level : Bool), s.ready = true ∧ n < 8 ∧ s.f F.PT_CTRL_CAP_EN n = 1 ∧ s.inputLevel (0x50 + n) false = level ∧ (s.pt n).seen = (!level) ∧ (s.f F.PT_CTRL_CAP_EDGE n = 2 ∨ s.f F.PT_CTRL_CAP_EDGE n = 0 ∧ level = true ∨ s.f F.PT_CTRL_CAP_EDGE n = 1 ∧ level = false)) ∧
    (∃ (s : State) (n : Nat) (level : Bool), s.ready = true ∧ n < 8 ∧ s.f F.PT_CTRL_CAP_EN n = 1 ∧ s.inputLevel (0x50 + n) false = level ∧ (s.pt n).seen = (!level) ∧ (s.f F.PT_CTRL_CAP_EDGE n = 0 ∧ level = false ∨ s.f F.PT_CTRL_CAP_EDGE n = 1 ∧ level = true)) :=
  ⟨⟨up, 0xc23ba109#32, by decide +kernel⟩,
    ⟨((feeds (b0 upL)).setPt 1 ⟨false, 0, true, none, true⟩).setF F.PT_CTRL_CAP_EDGE 1 1, 0x00050000#32, by decide +kernel⟩,
    ⟨hi ((feeds (b0 upL)).setF F.PT_CTRL_CAP_EDGE 1 1), 0x80000305#32, by decide +kernel⟩,
    ⟨li [(F.PIN_PAD_FUNC, 1, 5), (F.PMB_CTRL_EN, 0, 1), (F.PMB_STATUS_BUSY, 0, 1), (F.PMB_CMD_PROTOCOL, 0, 3)], by decide +kernel⟩,
    ⟨li [(F.PIN_PAD_FUNC, 1, 5), (F.PMB_CTRL_EN, 0, 1), (F.PMB_STATUS_BUSY, 0, 1), (F.PMB_CMD_PROTOCOL, 0, 2)], 2, by decide +kernel⟩,
    ⟨hi ((feeds (b0 upL)).setF F.PT_CTRL_CAP_EDGE 1 1), by decide +kernel⟩,
    ⟨hi ((feeds (b0 upL)).setF F.PT_CTRL_CAP_EDGE 1 1), by decide +kernel⟩,
    ⟨li [(F.SPI_CTRL_EN, 1, 1)], by decide +kernel⟩,
    ⟨hi ((feeds (b0 upL)).setF F.PT_CTRL_CAP_EDGE 1 1), 1, by decide +kernel⟩,
    ⟨li [(F.PT_CTRL_OUT_EN, 1, 1)], 1, by decide +kernel⟩,
    ⟨hi ((feeds (b0 up)).setF F.PT_CTRL_CAP_EDGE 1 2), 2, true, by decide +kernel⟩,
    ⟨hi ((feeds (b0 upL)).setF F.PT_CTRL_CAP_EDGE 1 1), 1, true, by decide +kernel⟩⟩

end W17

namespace W18

def um (s : State) : State := (((s.setF F.DEV_STATUS_USER_MODE 0 1).setWord .PWR_REGION_STATUS 0 0x7FF)).putTime 400000
def b0 (s : State) : State :=
  let s := um s
  let s := [0x60,0x90,0x95,0x9A].foldl (fun s n => ((s.setFunc (.ni n) 1).setF F.NI_FENCE_STATUS_STATE n 0).setF F.DEV_XS_STATE_STATE n 0) s
  let s := [0,1,2].foldl (fun s n => s.setFunc (.core n) 1) s
  s.setCore 1 { s.core 1 with pc := 0x100, reserve := some (0x10000040 / 64), x := [(2, 7)] }
def hl (s : State) : State := ((s.setF F.DBG_CORE_RC_HALTED 1 1).setF F.DBG_STATUS_CORES_HALTED 0 2)
def sel (k : Nat) (s : State) : State := (s.setF F.DBG_CORE_REG_SEL_SEL 1 k)
def adr (s : State) : State := ((s.setWord .DBG_CORE_MEM_ADDR 1 0x10000040).setWord .DBG_MEM_ADDR_LO 0 0x20000)
def lk (s : State) : State := s.putDbg { s.dbg with locked := true }
def stl (s : State) : State := s.setCore 1 { s.core 1 with fencing := 1 }
def xt (inn out : Nat) (s : State) : State := (((s.setF F.DBG_XT_CTRL_FIRED 0 1).setF F.DBG_XT_CTRL_IN 1 inn).setF F.DBG_XT_CTRL_OUT 1 out)
def cmp (a : Nat) (s : State) : State := (((s.setF F.DBG_CMP_CTRL_EN 8 1).setF F.DBG_CMP_CTRL_ACTION 8 a).setWord .DBG_CMP_A 8 0x10).setWord .DBG_CMP_B 8 0x800
def tr (s : State) : State := ((s.setF F.DBG_TRACE_CTRL_EN 0 1).setWord .DBG_STIM_EN 0 0xFF).putDbg { s.dbg with traceTime := 399000, traceAt := 400000 }
def trf (s : State) : State := let s := (tr s).setWord .DBG_STIM_STALL 0 3; s.putDbg { s.dbg with trace := List.replicate 16384 1 }
def w0 : StimWait := ⟨3, 5, 399000, none⟩
def sw (s : State) : State := s.putDbg { s.dbg with stimWaits := [w0] }
def ir (k : Nat) (s : State) : State := s.putDbg { s.dbg with ir := BitVec.ofNat 8 k }
def wt (s : State) : State := s.putDbg { s.dbg with waiting := true }
def er (s : State) : State := let s := s.putDbg { s.dbg with waiting := true, erasing := true, locked := true }; (s.putDev { s.dev with bootSrc := 2 }).putCfg { s.cfg with store := [(5,1), (0x08000001,2), (0x38000000, 4), (firmwareArea+7, 9)] }
def e0 : Entry := ⟨7, 1, 2, 3, 4, 5, 6, 7, 8⟩
def lg (f : LedgerState → LedgerState) (s : State) : State := s.putLedger (f s.ledger)
def bb : State := b0 upL

/-- The hypotheses of RunControl can be met. -/
theorem witness_RunControl :
    (∃ (s : State) (who : Who) (n : Nat), s.ready = true ∧ s.coreRuns n = true ∧ s.coreStalled n = false ∧ s.dbgBarred who .DBG_CORE_RC = none ∧ s.xtTakes [n] = []) ∧
    (∃ (s : State) (n : Nat), s.ready = true ∧ s.coreRuns n = true ∧ s.coreStalled n = false ∧ s.f F.DBG_CORE_RC_EBREAK_HALT n = 1 ∧ s.xtTakes [n] = []) ∧
    (∃ (s : State) (who : Who) (n : Nat), s.ready = true ∧ s.coreRuns n = true ∧ s.coreStalled n = true ∧ s.dbgBarred who .DBG_CORE_RC = none ∧ s.xtTakes [] = []) ∧
    (∃ (s : State) (who : Who) (n : Nat), s.ready = true ∧ s.corePresent n = true ∧ s.f F.DBG_CORE_RC_HALTED n = 1 ∧ s.dbgBarred who .DBG_CORE_RC = none) ∧
    (∃ (s : State) (who : Who) (n : Nat) (r : Nat), s.ready = true ∧ s.corePresent n = true ∧ s.f F.DBG_CORE_RC_HALTED n = 1 ∧ s.dbgBarred who .DBG_CORE_RC = none ∧ 0 < r ∧ r < 32 ∧ s.xtTakes [n] = []) ∧
    (∃ (s : State) (who : Who) (n : Nat) (r : Nat), s.ready = true ∧ s.corePresent n = true ∧ s.f F.DBG_CORE_RC_HALTED n = 1 ∧ s.dbgBarred who .DBG_CORE_REG_DATA = none ∧ s.f F.DBG_CORE_REG_SEL_SEL n = 0x1000 + r ∧ 0 < r ∧ r < 32) ∧
    (∃ (s : State) (who : Who) (n : Nat) (r : Nat), s.ready = true ∧ s.corePresent n = true ∧ s.f F.DBG_CORE_RC_HALTED n = 1 ∧ s.dbgBarred who .DBG_CORE_REG_DATA = none ∧ s.f F.DBG_CORE_REG_SEL_SEL n = r ∧ r < 0xC00) ∧
    (∃ (s : State) (who : Who) (n : Nat), s.ready = true ∧ s.corePresent n = true ∧ s.f F.DBG_CORE_RC_HALTED n = 1 ∧ s.dbgBarred who .DBG_CORE_REG_DATA = none ∧ s.f F.DBG_CORE_REG_SEL_SEL n = 0x1020) ∧
    (∃ (s : State) (who : Who) (n : Nat), s.ready = true ∧ s.corePresent n = true ∧ s.f F.DBG_CORE_RC_HALTED n = 1 ∧ s.dbgBarred who .DBG_CORE_REG_DATA = none) ∧
    (∃ (s : State) (who : Who) (n : Nat), s.ready = true ∧ s.corePresent n = true ∧ s.f F.DBG_CORE_RC_HALTED n = 0 ∧ s.dbg.locked = false ∧ 1 ≤ who.origin.toNat ∧ who.origin.toNat ≤ 3) ∧
    (∃ (s : State) (n : Nat), s.ready = true ∧ s.corePresent n = true ∧ s.dbg.locked = true) ∧
    (∃ (s : State) (who : Who) (n : Nat), s.ready = true ∧ s.corePresent n = true ∧ s.f F.DBG_CORE_RC_HALTED n = 1 ∧ s.dbgBarred who .DBG_CORE_MEM_DATA = none ∧ s.dbg.memPort = [] ∧ regionOf (s.word .DBG_CORE_MEM_ADDR n).toNat = .sram ∧ (s.word .DBG_CORE_MEM_ADDR n).toNat % 4 = 0) ∧
    (∃ (s : State) (d : Nat) (a : Nat) (tag : Nat), s.ready = true ∧ s.dbg.memPort = [] ∧ s.sendsAt 0x9A d tag s.debugAsk = true ∧ s.pair .DBG_MEM_ADDR_LO .DBG_MEM_ADDR_HI 0 % 2 ^ 48 = a ∧ decodeAddr s.part a = .ni d ∧ a % 4 = 0) ∧
    (∃ (s : State) (n : Nat) (c : Nat) (i : Insn), s.ready = true ∧ s.coreRuns n = true ∧ s.coreStalled n = false ∧ c < 8 ∧ (∀ k, k < 8 → k ≠ c → s.f F.DBG_CMP_CTRL_EN (8 * n + k) = 0) ∧ s.f F.DBG_CMP_CTRL_EN (8 * n + c) = 1 ∧ s.f F.DBG_CMP_CTRL_TYPE (8 * n + c) = 0 ∧ s.f F.DBG_CMP_CTRL_LINK (8 * n + c) = 0 ∧ (c = 0 ∨ s.f F.DBG_CMP_CTRL_LINK (8 * n + c - 1) = 0) ∧ (s.word .DBG_CMP_A (8 * n + c)).toNat ≤ i.pc.toNat ∧ i.pc.toNat < (s.word .DBG_CMP_B (8 * n + c)).toNat ∧ s.xtTakes [n] = [] ∧ s.xtTakes [] = []) :=
  ⟨⟨sw bb, { origin := 0x02#8, ni := 0x9a#8 }, 2, by decide +kernel⟩,
    ⟨bb.setF F.DBG_CORE_RC_EBREAK_HALT 1 1, 1, by decide +kernel⟩,
    ⟨stl bb, { origin := 0x02#8, ni := 0x9a#8 }, 1, by decide +kernel⟩,
    ⟨hl bb, { origin := 0x02#8, ni := 0x9a#8 }, 1, by decide +kernel⟩,
    ⟨hl bb, { origin := 0x02#8, ni := 0x9a#8 }, 1, 3, by decide +kernel⟩,
    ⟨sel 0x1002 (hl bb), { origin := 0x01#8, ni := 0x90#8 }, 1, 2, by decide +kernel⟩,
    ⟨hl bb, { origin := 0x02#8, ni := 0x9a#8 }, 1, 0, by decide +kernel⟩,
    ⟨sel 0x1020 (hl bb), { origin := 0x02#8, ni := 0x9a#8 }, 1, by decide +kernel⟩,
    ⟨hl bb, { origin := 0x01#8, ni := 0x90#8 }, 1, by decide +kernel⟩,
    ⟨bb, { origin := 0x01#8, ni := 0x90#8 }, 3, by decide +kernel⟩,
    ⟨lk (ir 0x10 bb), 3, by decide +kernel⟩,
    ⟨adr (hl bb), { origin := 0x01#8, ni := 0x90#8 }, 1, by decide +kernel⟩,
    ⟨(ir 0x12 (wt bb)).putHbm { bb.hbm with repaired := [] }, 96, 0, 0, by decide +kernel⟩,
    ⟨cmp 1 bb, 1, 0, ⟨0x10, 0x14, none⟩, by decide +kernel⟩⟩

/-- The hypotheses of CrossTriggerAndTrace can be met. -/
theorem witness_CrossTriggerAndTrace :
    (∃ (s : State) (i : Nat) (k : Nat), s.ready = true ∧ i < 8 ∧ k < 2 ∧ s.f F.DBG_XT_CTRL_FIRED k = 0 ∧ s.f F.DBG_XT_CTRL_FIRED (1 - k) = 1 ∧ (s.f F.DBG_XT_CTRL_IN k).testBit i = true ∧ (s.f F.DBG_XT_CTRL_OUT k).testBit 3 = false) ∧
    (∃ (s : State) (who : Who) (k : Nat), s.ready = true ∧ k < 2 ∧ s.f F.DBG_XT_CTRL_FIRED k = 0 ∧ s.f F.DBG_XT_CTRL_FIRED (1 - k) = 1 ∧ s.dbgBarred who .DBG_XT_FIRE = none ∧ (s.f F.DBG_XT_CTRL_OUT k).testBit 3 = false) ∧
    (∃ (s : State) (who : Who), s.ready = true ∧ s.dbgBarred who .DBG_XT_CLEAR = none) ∧
    (∃ (s : State) (p : Nat), s.ready = true ∧ p < 32 ∧ (s.f F.DBG_TRACE_CTRL_EN 0 = 0 ∨ s.dbg.locked = true ∨ (s.word .DBG_STIM_EN 0).getLsbD p = false)) ∧
    (∃ (s : State) (p : Nat), s.ready = true ∧ p < 32 ∧ s.f F.DBG_TRACE_CTRL_EN 0 = 1 ∧ s.dbg.locked = false ∧ (s.word .DBG_STIM_EN 0).getLsbD p = true ∧ s.dbg.trace = [] ∧ s.dbg.traceLost = 0 ∧ s.dbg.traceSync < 4096 ∧ (s.now - s.dbg.traceTime).toNat ≤ 0xFFFF) ∧
    (∃ (s : State) (p : Nat), s.ready = true ∧ p < 32 ∧ s.f F.DBG_TRACE_CTRL_EN 0 = 1 ∧ s.dbg.locked = false ∧ (s.word .DBG_STIM_EN 0).getLsbD p = true ∧ (s.word .DBG_STIM_STALL 0).getLsbD p = true ∧ s.dbg.trace.length = 16384 ∧ s.dbg.traceAt = s.time) ∧
    (∃ (s : State) (w : StimWait), s.ready = true ∧ s.dbg.stimWaits = [w] ∧ w.run = none ∧ (s.f F.DBG_TRACE_CTRL_EN 0 = 0 ∨ s.dbg.locked = true)) :=
  ⟨⟨xt 0xF7 1 bb, 0, 1, by decide +kernel⟩,
    ⟨xt 0xFF 2 bb, { origin := 0x01#8, ni := 0x90#8 }, 1, by decide +kernel⟩,
    ⟨(ir 0x10 bb).putDbg { bb.dbg with ir := 0x10, accessRunning := true }, { origin := 0x01#8, ni := 0x90#8 }, by decide +kernel⟩,
    ⟨(ir 0x10 bb).putDbg { bb.dbg with ir := 0x10, accessRunning := true }, 7, by decide +kernel⟩,
    ⟨tr bb, 7, by decide +kernel⟩,
    ⟨trf bb, 0, by decide +kernel⟩,
    ⟨sw (bb.putTime 500000), { port := 3, data := 0x00000005#32, since := 0x0000000000061698#64, run := none }, by decide +kernel⟩⟩

/-- The hypotheses of DebugPort can be met. -/
theorem witness_DebugPort :
    (∃ (s : State) (c : BitVec 8), s.ready = true ∧ s.boundaryHas = false ∧ (c = 1 ∨ c = 2 ∨ c = 0x10 ∨ s.dbg.locked = false ∧ (c = 0x11 ∨ c = 0x12))) ∧
    (∃ (s : State) (c : BitVec 8), s.ready = true ∧ s.boundaryHas = false ∧ (4 < c.toNat ∧ c.toNat < 0x10 ∨ 0x12 < c.toNat)) ∧
    (∃ (s : State) (c : BitVec 8), s.ready = true ∧ s.boundaryHas = false ∧ s.dbg.locked = true ∧ (c = 0 ∨ c = 3 ∨ c = 4 ∨ c = 0x11 ∨ c = 0x12)) ∧
    (∃ (s : State) (c : BitVec 8), s.ready = true ∧ s.boundaryHas = false ∧ s.dbg.locked = false ∧ (c = 0 ∨ c = 3 ∨ c = 4)) ∧
    (∃ (s : State), s.ready = true ∧ s.boundaryHas = false) ∧
    (∃ (s : State), s.ready = true ∧ s.boundaryHas = false) ∧
    (∃ (s : State), s.ready = true ∧ s.boundaryHas = false ∧ s.dbg.locked = false) ∧
    (∃ (s : State), s.ready = true ∧ s.dbg.erasing = true ∧ s.dbg.waiting = true ∧ 8 ∉ s.power.outOfRange ∧ s.f F.DBG_CTRL_HOLD_CFG 0 = 0 ∧ 2 ≤ s.dev.bootSrc.toNat) ∧
    (∃ (s : State) (cmd : Word), s.ready = true ∧ s.dbg.ir = 0x12 ∧ s.dbg.waiting = true ∧ s.dbg.locked = false ∧ s.dbg.erasing = false ∧ s.loading = false ∧ cmd = 1) ∧
    (∃ (s : State) (cmd : Word), s.ready = true ∧ s.dbg.ir = 0x12 ∧ s.dbg.waiting = true ∧ s.dbg.locked = false ∧ s.dbg.erasing = false ∧ s.loading = false ∧ cmd = 2) ∧
    (∃ (s : State) (cmd : Word), s.ready = true ∧ s.dbg.ir = 0x12 ∧ s.dbg.waiting = true ∧ s.dbg.locked = false ∧ s.dbg.erasing = false ∧ s.loading = false ∧ cmd = 3) ∧
    (∃ (s : State) (cmd : Word), s.ready = true ∧ s.dbg.ir = 0x12 ∧ s.dbg.waiting = true ∧ s.dbg.locked = false ∧ s.dbg.erasing = false ∧ s.loading = false ∧ (cmd = 0 ∨ 3 < cmd.toNat)) ∧
    (∃ (s : State), s.ready = true ∧ s.dbg.ir = 0x12 ∧ (s.dbg.waiting = false ∨ s.dbg.locked = true ∨ s.dbg.erasing = true ∨ s.loading = true)) ∧
    (∃ (s : State) (k : Nat), s.jtagFree = true ∧ k < 8 * Part.cores s.part ∧ s.csrBlocked (csrOffset .DBG_CMP_A k) = none) ∧
    (∃ (s : State), s.ready = true ∧ s.dbg.ir = 0x10 ∧ s.dbg.accessRunning = true) ∧
    (∃ (s : State) (k : Nat), s.ready = true ∧ s.dbg.ir = 0x10 ∧ s.dbg.accessRunning = false ∧ s.dbg.locked = true ∧ k < 32) :=
  ⟨⟨lg (fun l => { l with buffer := [e0, e0], ringPos := 256 }) bb, 0x12#8, by decide +kernel⟩,
    ⟨(ir 0x10 bb).putDbg { bb.dbg with ir := 0x10, accessRunning := true }, 0x09#8, by decide +kernel⟩,
    ⟨lk (ir 0x10 bb), 0x03#8, by decide +kernel⟩,
    ⟨sw bb, 0x03#8, by decide +kernel⟩,
    ⟨(ir 0x10 bb).putDbg { bb.dbg with ir := 0x10, accessRunning := true }, by decide +kernel⟩,
    ⟨bb, by decide +kernel⟩,
    ⟨bb, by decide +kernel⟩,
    ⟨er bb, by decide +kernel⟩,
    ⟨(ir 0x12 (wt bb)).putRepair { bb.repair with retired := [3] }, 0x00000001#32, by decide +kernel⟩,
    ⟨ir 0x12 (wt bb), 0x00000002#32, by decide +kernel⟩,
    ⟨ir 0x12 (wt bb), 0x00000003#32, by decide +kernel⟩,
    ⟨(ir 0x12 (wt bb)).putRepair { bb.repair with retired := [3] }, 0x00000000#32, by decide +kernel⟩,
    ⟨ir 0x12 bb, by decide +kernel⟩,
    ⟨ir 0x10 bb, 4, by decide +kernel⟩,
    ⟨(ir 0x10 bb).putDbg { bb.dbg with ir := 0x10, accessRunning := true }, by decide +kernel⟩,
    ⟨lk (ir 0x10 bb), 1, by decide +kernel⟩⟩

/-- The hypotheses of LedgerCommands can be met. -/
theorem witness_LedgerCommands :
    (∃ (s : State) (e : Entry) (rest : List Entry), s.ready = true ∧ s.commits = true ∧ s.ledger.buffer = e :: rest ∧ s.ledger.badPages = [] ∧ s.ledger.lostUntold = 0 ∧ s.ledger.ringPos < 524288) ∧
    (∃ (s : State) (e : Entry) (rest : List Entry) (n : Nat), s.ready = true ∧ s.commits = true ∧ s.ledger.buffer = e :: rest ∧ rest.length < 4096 ∧ s.ledger.lostUntold = n ∧ 0 < n ∧ n < 2 ^ 32) ∧
    (∃ (s : State) (e : Entry) (rest : List Entry), s.ready = true ∧ s.commits = true ∧ s.ledger.buffer = e :: rest ∧ s.ledger.badPages = [] ∧ s.ledger.lostUntold = 0 ∧ s.ledger.ringPos < 524160 ∧ s.ledger.ringPos % 128 = 0) ∧
    (∃ (s : State), s.ready = true ∧ (s.commits = false ∨ s.ledger.buffer = [])) ∧
    (∃ (s : State), s.ready = true ∧ s.ledger.ready = false ∧ s.power.held = true) ∧
    (∃ (s : State), s.ready = true ∧ s.ledger.ready = false ∧ s.power.held = false ∧ s.repair.retired = []) :=
  ⟨⟨lg (fun l => { l with buffer := [e0] }) bb, { seq := 0x00000007#32, origin := 0x01#8, kind := 0x02#8, aux := 0x0003#16, time := 0x0000000000000004#64, b0 := 0x00000005#32, b1 := 0x00000006#32, b2 := 0x00000007#32, b3 := 0x00000008#32 }, [], by decide +kernel⟩,
    ⟨lg (fun l => { l with buffer := [e0, e0], ringPos := 255, lostUntold := 3, lost := 5 }) bb, { seq := 0x00000007#32, origin := 0x01#8, kind := 0x02#8, aux := 0x0003#16, time := 0x0000000000000004#64, b0 := 0x00000005#32, b1 := 0x00000006#32, b2 := 0x00000007#32, b3 := 0x00000008#32 }, [{ seq := 0x00000007#32, origin := 0x01#8, kind := 0x02#8, aux := 0x0003#16, time := 0x0000000000000004#64, b0 := 0x00000005#32, b1 := 0x00000006#32, b2 := 0x00000007#32, b3 := 0x00000008#32 }], 3, by decide +kernel⟩,
    ⟨lg (fun l => { l with buffer := [e0] }) bb, { seq := 0x00000007#32, origin := 0x01#8, kind := 0x02#8, aux := 0x0003#16, time := 0x0000000000000004#64, b0 := 0x00000005#32, b1 := 0x00000006#32, b2 := 0x00000007#32, b3 := 0x00000008#32 }, [], by decide +kernel⟩,
    ⟨lk bb, by decide +kernel⟩,
    ⟨b0 up |>.putPower { up.power with held := true }, by decide +kernel⟩,
    ⟨er (b0 up), by decide +kernel⟩⟩

end W18

namespace W19

def absentWho : Who := ⟨0x10, 0x90⟩

/-- The hypotheses of StepTakesFront can be met. -/
theorem witness_StepTakesFront :
    (∃ s : State, s.pending = []) ∧ (∃ s : State, s.dev.porst = true) :=
  ⟨⟨State.reset, by decide +kernel⟩, ⟨State.reset, by decide +kernel⟩⟩

/-- Events are delivered in the state after PORST_N is released. -/
theorem eventsOut_upL : EventsOut upL where
  shown := by decide +kernel
  host h := absurd h (by decide +kernel)
  cores _ n hn := (by decide +kernel : ∀ n, n < Part.cores upL.part →
    upL.groups &&& upL.word .DEV_EVT_CORE_MASK n &&& ~~~(upL.word .SEQ_IC_PEND_LO n) = 0) n hn
  reached _ n hn h := absurd h ((by decide +kernel : ∀ n, n < Part.cores upL.part →
    ¬ (upL.core n).timecmp.toNat ≤ upL.now.toNat) n hn)
  dogs w d hw h := by
    have := (by decide +kernel : ∀ w, w < 5 → (upL.dog w).all (fun d => upL.dogReason w d == d.reason) = true) w hw
    rw [h] at this
    simpa using this

/-- The hypotheses of EventsStayDelivered can be met, while PORST_N is low and after it. -/
theorem witness_EventsStayDelivered :
    (∃ s t : State, s.dev.porst = true ∧ step s = .next t) ∧
    (∃ s t : State, s.dev.porst = false ∧ EventsOut s ∧ step s = .next t) :=
  ⟨⟨State.reset, _, by decide +kernel, rfl⟩, ⟨upL, _, by decide +kernel, eventsOut_upL, rfl⟩⟩

/-- The hypotheses of EventGroups can be met. -/
theorem witness_EventGroups :
    (∃ g : Nat, 21 ≤ g) ∧
    (∃ (s : State) (g : Nat), s.wf = true ∧ g < 21 ∧ s.groups.getLsbD g = true) ∧
    (∃ (s : State) (g : Nat), s.wf = true ∧ g < 21 ∧ s.groups.getLsbD g = false) :=
  ⟨⟨31, by decide⟩,
    ⟨{ up with dev := { up.dev with sysWarning := true } }, 10, by decide +kernel⟩, ⟨up, 20, by decide +kernel⟩⟩

/-- The hypotheses of MemoryForm can be met. -/
theorem witness_MemoryForm :
    (∃ s : State, s.wf = true) ∧
    (∃ (s : State) (frame : Nat), s.wf = true ∧ frame < 1024) ∧
    (∃ (s : State) (n a : Nat), s.wf = true ∧ n < 4 ∧ regionOf a = .itcm) ∧
    (∃ (s : State) (n a : Nat), s.wf = true ∧ n < 4 ∧ regionOf a = .dtcm) ∧
    (∃ (s : State) (n a : Nat), s.wf = true ∧ n < 4 ∧ regionOf a = .sram) :=
  ⟨⟨up, by decide +kernel⟩, ⟨up, 1023, by decide +kernel⟩, ⟨up, 3, 0, by decide +kernel⟩,
    ⟨up, 3, 0x1FFFF, by decide +kernel⟩, ⟨up, 0, 0x10000000, by decide +kernel⟩⟩

/-- The hypotheses of LockKey can be met. -/
theorem witness_LockKey :
    ∃ (s u : State), s.ready = true ∧ exec (.dbgReset none) s = .next u ∧ s.csrBlocked (csrOffset .DBG_AUTH 0) = none :=
  ⟨upL, _, by decide +kernel, rfl, by decide +kernel⟩

/-- The hypotheses of AbsentWrites can be met, at the end of the CSR space and in a reserved slot. -/
theorem witness_AbsentWrites :
    (∃ (s : State) (off : Nat), s.ready = true ∧ s.absentOffset off = true ∧ s.csrBlocked off = none ∧ off < 2 ^ 28) ∧
    (∃ (s : State) (off : Nat), s.jtagFree = true ∧ s.absentOffset off = true ∧ s.csrBlocked off = none ∧ off < 2 ^ 28) :=
  ⟨⟨upL, 0xFFFFFFC, by decide +kernel⟩, ⟨{ upL with dbg := { upL.dbg with ir := 0x10 } }, 0xFFFFFFC, by decide +kernel⟩⟩

/-- The hypotheses of VoltageLimits can be met, at both bounds. -/
theorem witness_VoltageLimits :
    (∃ (s : State) (data : Word), (s.ready = true ∧ s.csrBlocked (csrOffset .PWR_VLOOP_LIMITS 0) = none ∧
      s.f F.SEQ_GUARD_STATUS_LOCKED 0 = 0) ∧ data.toNat % 4096 = 600 ∧ data.toNat / 65536 % 4096 = 900) ∧
    (∃ (s : State) (data : Word), (s.ready = true ∧ s.csrBlocked (csrOffset .PWR_VLOOP_LIMITS 0) = none ∧
      s.f F.SEQ_GUARD_STATUS_LOCKED 0 = 0) ∧ data.toNat % 4096 = 599) ∧
    (∃ (s : State) (data : Word), (s.ready = true ∧ s.csrBlocked (csrOffset .PWR_VLOOP_LIMITS 0) = none ∧
      s.f F.SEQ_GUARD_STATUS_LOCKED 0 = 0) ∧ 900 < data.toNat / 65536 % 4096) ∧
    (∃ (s : State) (data : Word), (s.ready = true ∧ s.csrBlocked (csrOffset .PWR_VLOOP_LIMITS 0) = none ∧
      s.f F.SEQ_GUARD_STATUS_LOCKED 0 = 0) ∧ data.toNat / 65536 % 4096 < data.toNat % 4096) :=
  ⟨⟨upL, 0x03840258, by decide +kernel⟩, ⟨upL, 0x03840257, by decide +kernel⟩,
    ⟨upL, 0x03850258, by decide +kernel⟩, ⟨upL, 0x02580259, by decide +kernel⟩⟩

def entry : Entry := { seq := 5, origin := 0, kind := 1, aux := 0, time := 0, b0 := 0, b1 := 0, b2 := 0, b3 := 0 }

/-- The hypotheses of LedgerReads can be met: of a SEQ the ledger holds, and of one older than OLDEST_SEQ. -/
theorem witness_LedgerReads :
    (∃ (s : State) (n : Word) (e : Entry), s.ready = true ∧ s.ledger.ready = true ∧ e ∈ s.ledger.buffer ∧ e.seq = n ∧
      s.ledger.ring = [] ∧ s.ledger.buffer = [e] ∧
      (s.ledger.headSeq - n).toNat ≤ (s.ledger.headSeq - s.ledger.oldestSeq).toNat) ∧
    (∃ (s : State) (n : Word), s.ready = true ∧ s.ledger.ready = true ∧
      (s.ledger.headSeq - s.ledger.oldestSeq).toNat < (s.ledger.headSeq - n).toNat) :=
  ⟨⟨{ upL with ledger := { upL.ledger with buffer := [entry], headSeq := 5, oldestSeq := 5 } }, 5, entry, by decide +kernel⟩,
    ⟨{ upL with ledger := { upL.ledger with buffer := [entry], headSeq := 5, oldestSeq := 5 } }, 4, by decide +kernel⟩⟩

end W19

end Sys2Proof.Tests
end

section
/-! PROOF. A step takes the command at the front of the queue. -/

namespace Sys2Proof.Machine

theorem State.ends_pending (s t : State) : (s.ends t).pending = s.pending := (s.became t.work).settle_quiet.pending
theorem State.ends_part (s t : State) : (s.ends t).part = s.part := (s.became t.work).settle_quiet.part

theorem State.tick_of_porst {s : State} (h : s.dev.porst = true) : s.tick = s := by simp [State.tick, h]

theorem State.tick_keeps (s : State) : s.tick.pending = s.pending ∧ s.tick.part = s.part := by
  cases h : s.dev.porst with
  | true => simp [State.tick_of_porst h]
  | false => simp [State.tick, h, State.ends_pending, State.ends_part]

/-- Settles O51, by the definition of a step and by what the end of a command keeps. -/
theorem stepTakesFront : Obligations.StepTakesFront :=
  ⟨fun _ _ _ => rfl, fun s h => by simp only [step, h], fun _ => State.tick_of_porst, State.tick_keeps⟩

end Sys2Proof.Machine
end

section
/-! PROOF. What the release tick of START writes and keeps, and the fabric NIs it opens (R17, R149, R183). -/

namespace Sys2Proof.Machine

-- ------------------------------------------------------------------ NIs as bits of a number

/-- Bit n of the sum of the powers of two that a test picks below m. -/
theorem testBit_packBits (p : Nat → Bool) (m n : Nat) :
    (State.openUsed.packBits (List.range m) p).testBit n = (decide (n < m) && p n) := by
  have hlt : ∀ m, State.openUsed.packBits (List.range m) p < 2 ^ m := by
    intro m
    induction m with
    | zero => simp [State.openUsed.packBits]
    | succ m ih =>
      simp only [State.openUsed.packBits, List.range_succ, List.foldl_append, List.foldl_cons, List.foldl_nil] at ih ⊢
      split <;> omega
  induction m with
  | zero => simp [State.openUsed.packBits]
  | succ m ih =>
    have h := hlt m
    have hstep : State.openUsed.packBits (List.range (m + 1)) p =
        2 ^ m * (if p m then 1 else 0) + State.openUsed.packBits (List.range m) p := by
      simp only [State.openUsed.packBits, List.range_succ, List.foldl_append, List.foldl_cons, List.foldl_nil]
      split <;> omega
    rw [hstep, Nat.testBit_two_pow_mul_add _ h, ih]
    rcases Nat.lt_trichotomy n m with hn | rfl | hn
    · simp [hn, Nat.lt_succ_of_lt hn]
    · cases p n <;> simp
    · obtain ⟨k, hk⟩ : ∃ k, n - m = k + 1 := ⟨n - m - 1, by omega⟩
      have hle : ¬ n < m := by omega
      have hsucc : ¬ n < m + 1 := by omega
      cases p m <;> simp [hle, hsucc, hk, Nat.testBit_succ]

/-- The NIs that the image uses are those present that its routing reaches (R17). -/
theorem State.usedNis_getLsbD (s : State) {n : Nat} (h : n < 96) :
    s.usedNis.getLsbD n = (niPresent s.part n && s.usesNi n) := by
  have hbit := testBit_packBits (fun n => niPresent s.part n && s.usesNi n) 96 n
  simp only [State.openUsed.packBits] at hbit
  simp only [State.usedNis, BitVec.getLsbD_ofNat, h, decide_true, Bool.true_and, List.foldl_filter]
  rw [hbit]
  simp [h]

theorem mem_allOf {rs : List Reg} {m : Nat} {r : Reg} {i : Nat} : (r, i) ∈ allOf rs m ↔ r ∈ rs ∧ i < m := by
  simp [allOf]

-- ------------------------------------------------------------------ what START keeps

/-- The registers that the release tick of START writes. -/
def startRegs : List Reg :=
  [.CFG_SPAN_STATUS, .DEV_STATUS, .QUEUE_CONFIG, .QUEUE_STALE_CFG, .QUEUE_MAX_PKT, .QUEUE_CTRL, .QUEUE_STATUS, .PIN_PAD,
    .PIN_CONFLICT, .PIN_STATUS, .SEQ_GUARD_STATUS, .NI_FENCE_STATUS, .CFG_DIGEST_LO, .CFG_DIGEST_HI, .CFG_BUILD_LO,
    .CFG_BUILD_HI, .CFG_LOADED, .CFG_STATUS]

/-- From s to t START has written registers of its own, and ledger entries. -/
abbrev StartKept (s t : State) : Prop := Kept s t (allOf startRegs 2048) [.ledger, .pins]

theorem StartKept.of {s t : State} {R : Regs} {A : List Area} (h : Kept s t R A) (hR : ∀ x ∈ R, x.1 ∈ startRegs ∧ x.2 < 2048)
    (hA : A ⊆ [.ledger, .pins]) : StartKept s t :=
  h.weaken (fun x hx => mem_allOf.2 (hR x hx)) hA

theorem StartKept.trans {s t u : State} (h : StartKept s t) (g : StartKept t u) : StartKept s u :=
  Kept.via h g (fun _ h => h) (fun _ h => h)

theorem StartKept.foldl {α : Type} (f : State → α → State) (l : List α) (s : State)
    (h : ∀ u x, x ∈ l → StartKept u (f u x)) : StartKept s (l.foldl f s) := Kept.foldl f l s h

theorem StartKept.refl (s : State) : StartKept s s := Kept.start s _ _

theorem StartKept.setWord (s : State) {r : Reg} {i : Nat} (v : Word) (hr : r ∈ startRegs) (hi : i < 2048) :
    StartKept s (s.setWord r i v) := .of (Kept.setWord s r i v) (by simp [hr, hi]) (by simp)

theorem StartKept.setF (s : State) {F : Fld} {i : Nat} (v : Nat) (hr : F.reg ∈ startRegs) (hi : i < 2048) :
    StartKept s (s.setF F i v) := .of (Kept.setF s F i v) (by simp [hr, hi]) (by simp)

theorem StartKept.setPair (s : State) {lo hi : Reg} (v : Nat) (hl : lo ∈ startRegs) (hh : hi ∈ startRegs) :
    StartKept s (s.setPair lo hi 0 v) := .of (Kept.setPair s lo hi 0 v) (by simp [hl, hh]) (by simp)

theorem StartKept.journal (s : State) (origin : BitVec 8) (kind aux : Nat) (b : Body) :
    StartKept s (s.journal origin kind aux b) := .of (Kept.journal s origin kind aux b) (by simp) (by simp)

theorem Part.queues_le (p : Part) : Part.queues p ≤ 2048 := by
  obtain ⟨v, n⟩ := p
  cases v <;> exact Nat.le_of_ble_eq_true rfl

theorem StartKept.queueSettings (s : State) (on : Nat → Bool) (h : s.dev.acting = []) :
    StartKept s (s.queueSettings on) := by
  unfold State.queueSettings
  have hdev : StartKept s (s.putDev { s.dev with
      acting := s.dev.acting.filter fun x => !(x.1.1 == .QUEUE_CONFIG && on (queueRod x.1.2)) }) :=
    .of (Kept.of_areas (A := []) rfl rfl rfl fun a _ => by cases a <;> simp [sameArea, h]) (by simp) (by simp)
  refine hdev.trans (.foldl _ _ _ fun u q hq => ?_)
  have hq' : q < 2048 := Nat.lt_of_lt_of_le (List.mem_range.1 (List.mem_of_mem_filter hq)) (Part.queues_le _)
  exact ((StartKept.setWord _ _ (by decide) hq').trans (.setWord _ _ (by decide) hq')).trans (.setWord _ _ (by decide) hq')

theorem StartKept.queueStart (s : State) (on : Nat → Bool) (h : s.mem.queues = []) : StartKept s (s.queueStart on) := by
  have hmap : s.mapQueues on (fun s q => (s.queueEmpty q).queueBack q) = s := by simp [State.mapQueues, h]
  unfold State.queueStart
  rw [hmap]
  refine .foldl _ _ _ fun u q hq => ?_
  have hq' : q < 2048 := Nat.lt_of_lt_of_le (List.mem_range.1 (List.mem_of_mem_filter hq)) (Part.queues_le _)
  exact (StartKept.setF u _ (by decide) hq').trans (.setF (F := F.QUEUE_STATUS_STATE) _ _ (by decide) hq')

theorem StartKept.noteConflict (s : State) (code before : Nat) : StartKept s (s.noteConflict code before) := by
  unfold State.noteConflict
  split
  · split
    · exact .refl s
    · have hshown (v : Word) : StartKept s (if s.on F.PIN_CONFLICT_VALID 0 then s else s.setWord .PIN_CONFLICT 0 v) := by
        split
        · exact .refl s
        · exact .setWord s v (by decide) (by decide)
      exact ((hshown _).trans (.setF (F := F.PIN_STATUS_CONFLICT) _ 1 (by decide) (by decide))).trans (.journal ..)
  · exact .refl s

theorem StartKept.storeWord (s : State) (who : Who) {r : Reg} {i : Nat} (v : Word) (hr : r ∈ startRegs) (hi : i < 2048) :
    StartKept s (s.storeWord who r i v) := by
  unfold State.storeWord
  dsimp only
  split
  · exact (StartKept.setWord s v hr hi).trans (.journal ..)
  · exact .setWord s v hr hi

theorem StartKept.takePad (s : State) (who : Who) {p : Nat} (data : Word) (hp : p < 2048) :
    StartKept s (s.takePad who p data) := by
  unfold State.takePad
  dsimp only
  split
  · exact (StartKept.storeWord s who _ (by decide) hp).trans (.noteConflict ..)
  · exact .storeWord s who _ (by decide) hp

/-- The release tick of START up to the fences: initial states, and the image's declarations. -/
def State.startClears (s : State) (l : Load) : State :=
  let s := s.fabricClear fun _ => true
  s.putCfg { s.cfg with
    starting := none
    streamGuards := false
    beamMap := s.tapsKept s.cfg.beamMap
    spans := l.spans
    spanDigest := []
    pinIso := l.pinIso
    fullSource := some ⟨l.src, l.slot, headerDigest l.header⟩
    frameSource := []
    loaded := s.cfg.frames
    fullFrames := s.cfg.frames }

/-- Spans run, user mode begins, queues and pads take the image's settings, the guards lock. -/
def State.startTakes (s : State) (l : Load) : State :=
  let s := l.spans.foldl (fun s d => s.setF F.CFG_SPAN_STATUS_STATE d.id 1) s
  let s := (s.raise F.DEV_STATUS_USER_MODE 0).setF F.DEV_STATUS_CONFIG_FAILED 0 0
  ((((s.queueSettings fun _ => true).queueStart fun _ => true).padsFromImage (List.range 208)).raise F.SEQ_GUARD_STATUS_LOCKED 0)

/-- What is shown and recorded of the image. -/
def State.startShows (s : State) (l : Load) (scrub : Bool) : State :=
  let digest := headerDigest l.header
  let old := s.pair .CFG_DIGEST_LO .CFG_DIGEST_HI 0
  let s := s.setPair .CFG_DIGEST_LO .CFG_DIGEST_HI 0 digest.toNat
  let s := s.setPair .CFG_BUILD_LO .CFG_BUILD_HI 0 (headerBuild l.header).toNat
  let s := (s.setF F.CFG_LOADED_SRC 0 l.src).setF F.CFG_LOADED_SLOT 0 l.slot
  let s := s.bump F.CFG_LOADED_COUNT 0 1
  let s := s.setF F.CFG_STATUS_GOLDEN_ACTIVE 0 (if l.fromGolden then 1 else 0)
  let s := s.setF F.CFG_STATUS_SCRUB_ON 0 (if scrub then 1 else 0)
  s.journal l.who.origin 0x03 (l.src + 16 * l.slot) (digestBody old digest.toNat)

/-- START of the image that HOST_DEADLINE loaded shows it (R148). -/
def State.startTells (s : State) (l : Load) : State :=
  if l.deadline then (s.raise F.CFG_STATUS_HOST_DEADLINE 0).journalEvent 0x40 .CFG_STATUS 0 0 else s

theorem State.startReleases_eq (s : State) (l : Load) :
    s.startReleases l = (((((s.startClears l).startTakes l).openUsed).startShows l
      (l.scrub.getD (s.on F.CFG_STATUS_SCRUB_ON 0))).startTells l).coresStart.engineIdle := rfl

theorem StartKept.padsFromImage (s : State) {ps : List Nat} (h : ∀ p ∈ ps, p < 2048) : StartKept s (s.padsFromImage ps) :=
  .foldl _ _ s fun u p hp =>
    (StartKept.of (Kept.putPins u _) (by simp) (by simp)).trans (.takePad _ _ _ (h p hp))

theorem StartKept.startTakes (s : State) (l : Load) (hq : s.mem.queues = []) (ha : s.dev.acting = [])
    (hl : ∀ d ∈ l.spans, d.id < 16) : StartKept s (s.startTakes l) := by
  have hspans : StartKept s (l.spans.foldl (fun s d => s.setF F.CFG_SPAN_STATUS_STATE d.id 1) s) :=
    .foldl _ _ s fun u d hd => .setF u 1 (by decide) (Nat.lt_trans (hl d hd) (by decide))
  have hmode := (hspans.trans (.setF (F := F.DEV_STATUS_USER_MODE) (i := 0) _ 1 (by decide) (by decide))).trans
    (.setF (F := F.DEV_STATUS_CONFIG_FAILED) (i := 0) _ 0 (by decide) (by decide))
  obtain ⟨-, -, -, -, -, -, hacting, -⟩ := hmode.areas .dev (by decide)
  have hset := hmode.trans (.queueSettings _ (fun _ => true) (hacting.trans ha))
  have hmem : _ = s.mem := hset.areas .mem (by decide)
  have hrun := hset.trans (.queueStart _ (fun _ => true) ((congrArg MemState.queues hmem).trans hq))
  exact (hrun.trans (.padsFromImage _ fun p hp => Nat.lt_trans (List.mem_range.1 hp) (by decide))).trans
    (.setF (F := F.SEQ_GUARD_STATUS_LOCKED) _ 1 (by decide) (by decide))

theorem State.coresStart_of_unloaded {s : State} (h : s.f F.SEQ_BOOT_STATUS_LOADED 0 = 0) : s.coresStart = s := by
  simp [State.coresStart, State.on, h]

theorem StartKept.startShows (s : State) (l : Load) (scrub : Bool) : StartKept s (s.startShows l scrub) := by
  have hset (u : State) (F : Fld) (v : Nat) (h : F.reg ∈ startRegs) : StartKept u (u.setF F 0 v) := .setF u v h (by decide)
  exact (((((((StartKept.setPair _ _ (by decide) (by decide)).trans (.setPair _ _ (by decide) (by decide))).trans
    (hset _ F.CFG_LOADED_SRC _ (by decide))).trans (hset _ F.CFG_LOADED_SLOT _ (by decide))).trans
    (hset _ F.CFG_LOADED_COUNT _ (by decide))).trans (hset _ F.CFG_STATUS_GOLDEN_ACTIVE _ (by decide))).trans
    (hset _ F.CFG_STATUS_SCRUB_ON _ (by decide))).trans (.journal ..)

theorem StartKept.startTells (s : State) (l : Load) : StartKept s (s.startTells l) := by
  unfold State.startTells
  split
  · exact (StartKept.setF (F := F.CFG_STATUS_HOST_DEADLINE) s 1 (by decide) (by decide)).trans (.journal ..)
  · exact .refl s

theorem StartKept.engineIdle (s : State) : StartKept s s.engineIdle :=
  (StartKept.setF s 0 (by decide) (by decide)).trans (.setF (F := F.CFG_STATUS_STATE) _ _ (by decide) (by decide))

theorem StartKept.setFence (s : State) {n : Nat} (st cause : Nat) (who : Who) (h : n < 2048) :
    StartKept s (s.setFence n st cause who) := by
  unfold State.setFence
  dsimp only
  split
  · exact .refl s
  · exact (StartKept.setWord s _ (by decide) h).trans (.journal ..)

/-- Where no NI holds anything, no U gate opens. -/
theorem State.openGates_of_noNis {s : State} (h : s.net.nis = []) (cause : Nat) : s.openGates cause = s := by
  simp [State.openGates, h]

/-- A fabric NI opens at START: the image uses it, and no rod it serves is lost (R17, R149, R183). -/
def State.opensAtStart (s : State) (n : Nat) : Bool := s.usedNis.getLsbD n && !(niRods n).any s.lostRod

/-- The NIs that START opens, as a number. -/
def State.openedNis (s : State) : BitVec 96 := BitVec.ofNat 96 (State.openUsed.packBits (List.range 96) s.opensAtStart)

theorem StartKept.foldl_of_noNis {α : Type} (f : State → α → State) (l : List α)
    (h : ∀ u x, x ∈ l → u.net.nis = [] → StartKept u (f u x)) : ∀ s : State, s.net.nis = [] → StartKept s (l.foldl f s) := by
  induction l with
  | nil => exact fun s _ => .refl s
  | cons x l ih =>
    intro s hs
    have hx := h s x List.mem_cons_self hs
    have hnet : (f s x).net = s.net := hx.areas .net (by decide)
    exact hx.trans (ih (fun u y hy => h u y (List.mem_cons_of_mem x hy)) _ (by rw [hnet, hs]))

theorem StartKept.fenceReopen {s : State} {n : Nat} (who : Who) (hn : n < 2048) (h : s.net.nis = []) :
    StartKept s (s.fenceReopen n who) := by
  unfold State.fenceReopen
  split
  · exact .refl s
  · have hfence := StartKept.setFence s 0 (s.f F.NI_FENCE_STATUS_CAUSE n) who hn
    have hnet : _ = s.net := hfence.areas .net (by decide)
    rwa [State.openGates_of_noNis (by rw [hnet, h])]

theorem StartKept.openUsed (s : State) (h : s.net.nis = []) :
    StartKept (s.putNet { s.net with used := s.openedNis }) s.openUsed := by
  refine StartKept.foldl_of_noNis _ _ (fun u n hn hu => ?_) _ h
  have hn' : n < 2048 := Nat.lt_trans (List.mem_range.1 (List.mem_of_mem_filter hn)) (by decide)
  dsimp only
  split
  · exact .fenceReopen _ hn' hu
  · split
    · exact .setFence u _ _ _ hn'
    · exact .setF (F := F.NI_FENCE_STATUS_CAUSE) u 6 (by decide) hn'

/-- Where the repair map gives a rod of an NI no home, START leaves the NI closed. -/
theorem State.openedNis_of_lost {s : State} {n rod : Nat} (hr : rod ∈ niRods n) (h : s.lostRod rod = true) :
    s.openedNis.getLsbD n = false := by
  have hany : (niRods n).any s.lostRod = true := List.any_eq_true.2 ⟨rod, hr, h⟩
  simp [State.openedNis, BitVec.getLsbD_ofNat, testBit_packBits, State.opensAtStart, hany]

theorem State.lostRod_congr {s t : State} (hr : t.repair = s.repair)
    (hw : t.word .REPAIR_STATUS 0 = s.word .REPAIR_STATUS 0) (rod : Nat) : t.lostRod rod = s.lostRod rod := by
  simp only [State.lostRod, State.on, State.f, State.physOf, hr, hw]

theorem Kept.fabricClear (s : State) (on : Nat → Bool) : Kept s (s.fabricClear on) [] [.fabric, .mem] :=
  (((Kept.start s [] [.fabric, .mem]).via (Kept.putFabric s _) (by simp) (by simp)).via (Kept.putFabric _ _) (by simp) (by simp)).via
    (Kept.putMem _ _) (by simp) (by simp) |>.via (Kept.putFabric _ _) (by simp) (by simp)

theorem Kept.startClears (s : State) (l : Load) : Kept s (s.startClears l) [] [.fabric, .mem, .cfg] :=
  (Kept.fabricClear s _).trans (Kept.putCfg _ _)

theorem State.startClears_queues (s : State) (l : Load) : (s.startClears l).mem.queues = s.mem.queues := rfl
theorem State.startClears_spent (s : State) (l : Load) : (s.startClears l).fabric.spent = s.fabric.spent := rfl

/-- The state in which START opens the fabric NIs. -/
def State.atFences (s : State) (l : Load) : State := (s.startClears l).startTakes l

section
variable {s : State} {l : Load} (hn : s.net.nis = []) (hq : s.mem.queues = []) (ha : s.dev.acting = [])
  (hl : ∀ d ∈ l.spans, d.id < 16) (hb : s.f F.SEQ_BOOT_STATUS_LOADED 0 = 0)
include hq ha hl

theorem StartKept.atFences : StartKept (s.startClears l) (s.atFences l) := by
  obtain ⟨-, -, -, -, -, -, hacting, -⟩ := (Kept.startClears s l).areas .dev (by decide)
  exact .startTakes _ l ((State.startClears_queues s l).trans hq) (hacting.trans ha) hl

theorem Kept.atFences : Kept s (s.atFences l) (allOf startRegs 2048) [.fabric, .mem, .cfg, .ledger, .pins] :=
  ((Kept.start s _ _).via (Kept.startClears s l) (by simp) (by simp)).via (StartKept.atFences hq ha hl) (by simp) (by simp)

theorem State.atFences_net : (s.atFences l).net = s.net := (Kept.atFences hq ha hl).areas .net (by decide)

include hn hb

/-- After the fences START writes no more than registers and the ledger; no core starts (R378). -/
theorem StartKept.startReleases :
    StartKept ((s.atFences l).putNet { s.net with used := (s.atFences l).openedNis }) (s.startReleases l) := by
  have hopen := StartKept.openUsed (s.atFences l) (by rw [State.atFences_net hq ha hl, hn])
  have htold := (hopen.trans (.startShows _ l (l.scrub.getD (s.on F.CFG_STATUS_SCRUB_ON 0)))).trans (.startTells _ l)
  have hword := ((Kept.atFences hq ha hl).trans ((Kept.putNet _ _).trans htold)).regs .SEQ_BOOT_STATUS 0 rfl
    (by simp [mem_allOf, startRegs])
  have hcores := State.coresStart_of_unloaded (by rw [State.f, hword]; exact hb)
  rw [State.atFences_net hq ha hl] at htold
  rw [State.startReleases_eq, ← State.atFences, hcores]
  exact htold.trans (.engineIdle _)

theorem Kept.startReleases :
    Kept s (s.startReleases l) (allOf startRegs 2048) [.fabric, .mem, .cfg, .ledger, .pins, .net] :=
  (((Kept.start s _ _).via (Kept.atFences hq ha hl) (by simp) (by simp)).via (Kept.putNet _ _) (by simp) (by simp)).via
    (StartKept.startReleases hn hq ha hl hb) (by simp) (by simp)

theorem State.startReleases_net : (s.startReleases l).net = { s.net with used := (s.atFences l).openedNis } :=
  (StartKept.startReleases hn hq ha hl hb).areas .net (by decide)

theorem State.startReleases_cfg : (s.startReleases l).cfg = (s.startClears l).cfg :=
  ((StartKept.startReleases hn hq ha hl hb).areas .cfg (by decide)).trans ((StartKept.atFences hq ha hl).areas .cfg (by decide))

theorem State.startReleases_fabric : (s.startReleases l).fabric = (s.startClears l).fabric :=
  ((StartKept.startReleases hn hq ha hl hb).areas .fabric (by decide)).trans
    ((StartKept.atFences hq ha hl).areas .fabric (by decide))

/-- An NI of a lost rod stays closed at START, whatever the image routes (R183). -/
theorem State.startReleases_of_lost {n rod : Nat} (hr : rod ∈ niRods n) (h : s.lostRod rod = true) :
    (s.startReleases l).net.used.getLsbD n = false := by
  have hk := Kept.atFences hq ha hl
  have hlost : (s.atFences l).lostRod rod = true := by
    rw [State.lostRod_congr (hk.areas .repair (by decide)) (hk.regs _ _ rfl (by simp [mem_allOf, startRegs])), h]
  rw [State.startReleases_net hn hq ha hl hb]
  exact State.openedNis_of_lost hr hlost

/-- START leaves a still part calm. -/
theorem State.startReleases_calm (hs : s.still = true) : (s.startReleases l).calm = true := by
  have hk := Kept.startReleases hn hq ha hl hb
  obtain ⟨-, -, -, -, hdue', -⟩ := hk.areas .dev (by decide)
  have hdbg : _ = s.dbg := hk.areas .dbg (by decide)
  have hhost : _ = s.host := hk.areas .host (by decide)
  have hrepair : _ = s.repair := hk.areas .repair (by decide)
  have hnet := State.startReleases_net hn hq ha hl hb
  have hcfg := State.startReleases_cfg hn hq ha hl hb
  have hfabric := State.startReleases_fabric hn hq ha hl hb
  simp only [State.still, State.ready, Bool.and_eq_true, Bool.not_eq_true', List.isEmpty_iff, State.calm_iff] at hs
  obtain ⟨⟨⟨⟨⟨-, hdue, hended, hresume, hpieces, hdma, hload, htransfer, hqueued, -, -, -, -, hwaits⟩, -⟩, hspent⟩, hreset⟩,
    hdeferred⟩ := hs
  have hspent' : (s.startReleases l).fabric.spent = [] := by rw [hfabric, State.startClears_spent, hspent]
  have hreset' : (s.startReleases l).cfg.fabricResetWaiting = false := by rw [hcfg]; exact hreset
  rw [State.calm_iff]
  refine ⟨hdue'.trans hdue, by rw [hnet]; exact hended, by rw [hdbg, hresume], by rw [hhost, hpieces], by rw [hhost, hdma],
    by rw [hcfg]; exact hload, by rw [hcfg]; exact htransfer, by rw [hcfg]; exact hqueued, by simp [State.resetIsDue, hreset'],
    by simp [State.edgesDue, State.busyEdges, hspent', hnet, hn], by simp [State.csfDue, hnet, hn],
    by simp [State.markersDue, hnet, hn], ?_⟩
  simpa [State.repairWaits, hrepair, hdeferred] using hwaits
end

theorem State.haltsDue_of_none {s : State} (h : s.dbg.haltDue = []) : s.haltsDue = s := by simp [State.haltsDue, h]

/-- What the release of START begins from: TIME no earlier than 16 ticks after the gating, this release ended (R49). -/
def State.releasing (s : State) (x : Release) (rest : List Release) (wait : Nat) : State :=
  let s := (s.advanceTo (x.tick + 16)).pass wait
  s.putCfg { s.cfg with releases := rest }

theorem State.releaseActs_start {s : State} {x : Release} {rest : List Release} {l : Load} (wait : Nat)
    (hr : s.cfg.releases = x :: rest) (hx : x.cause = .start) (hl : s.cfg.starting = some l) :
    s.releaseActs wait = ((s.releasing x rest wait).startReleases l).haltsDue := by
  simp [State.releaseActs, hr, hx, hl, State.releasing]

/-- A command that leaves a part calm changes the carry network by its own effect alone. -/
theorem State.command_net {s t : State} {f : State → State} (h : s.dev.porst = false) (hc : (f s).calm = true)
    (ht : s.command f = .next t) : t.net = (f s).net := by
  simp only [State.command, h, State.ends, State.work_calm hc, Bool.false_eq_true, if_false, Host.Outcome.next.injEq] at ht
  rw [← ht]
  exact (s.became (f s)).settle_quiet.areas .net (by decide)

end Sys2Proof.Machine
end

section
/-! PROOF. START of a golden image on a part that has lost a rod whose NI the image routes. The statement of O20 has every NI
that the routing uses known after START; those of a lost rod stay fenced (R183), and the model leaves them out. -/

namespace Sys2Proof.Machine

/-- A part whose power-on reset has ended. -/
def poweredUp : State := State.reset.putDev { State.reset.dev with porst := false }

/-- The golden image's load. -/
def goldenImage : Load := newLoad .full 0 0 ⟨0x40, 0xFF⟩

/-- A part that has lost logical rod 3 (R183), at the release tick of its golden image, which routes the slots of NI 0 on
that rod (R17): each of their source codes is 255. -/
def lostRodStart : State :=
  let s := poweredUp.putRepair { poweredUp.repair with place := ((List.range 256).filter (· ≠ 3)).map fun rod => (rod, rod + 1) }
  (s.setF F.REPAIR_STATUS_PUST_DONE 0 1).putCfg { s.cfg with
    releases := [⟨.all, .start, 0⟩], starting := some goldenImage
    frames := (List.range 15).map fun k => (frameKey 3 (500 + k), BitVec.allOnes 4096) }

theorem State.sinkCode_niChannel (s : State) (n chan d : Nat) : (s.sinkCode (.niChannel n chan) d).2.2 =
    s.tileCode (edgeRod n) (32 * (n / 32) + 12 + (Config.niSlot n chan d).1.val) (slotAt (Config.niSlot n chan d).2.val) := rfl

/-- Every slot that NI 0 can have on its rod is routed. -/
theorem lostRodStart_code (x : Fin 8 × Fin 80) :
    lostRodStart.tileCode (edgeRod 0) (32 * (0 / 32) + 12 + x.1.val) (slotAt x.2.val) = 255 := by
  revert x
  decide +kernel

theorem lostRodStart_usesNi : lostRodStart.usesNi 0 = true := by
  have hrouted : lostRodStart.sinkRouted (.niChannel 0 0) 36 = true := by
    refine List.any_eq_true.2 ⟨0, by decide, ?_⟩
    rw [State.sinkCode_niChannel, lostRodStart_code]
    rfl
  simp [State.usesNi, hrouted]

/-- `lostRodStart` when its release begins. -/
def lostRodRelease : State := lostRodStart.releasing ⟨.all, .start, 0⟩ [] 0

/-- After the release of `lostRodStart` NI 0 is not among the NIs known. -/
theorem exec_lostRodStart {t : State} (ht : exec (.initialStateRelease 0) lostRodStart = .next t) :
    t.net.used.getLsbD 0 = false := by
  have hn : lostRodRelease.net.nis = [] := by decide +kernel
  have hq : lostRodRelease.mem.queues = [] := by decide +kernel
  have ha : lostRodRelease.dev.acting = [] := by decide +kernel
  have hl : ∀ d ∈ goldenImage.spans, d.id < 16 := by simp [goldenImage, newLoad]
  have hb : lostRodRelease.f F.SEQ_BOOT_STATUS_LOADED 0 = 0 := by decide +kernel
  have hdbg : _ = lostRodRelease.dbg := (Kept.startReleases hn hq ha hl hb).areas .dbg (by decide)
  have hhalts : lostRodRelease.dbg.haltDue = [] := by decide +kernel
  have hacts : lostRodStart.releaseActs 0 = lostRodRelease.startReleases goldenImage := by
    rw [State.releaseActs_start 0 rfl rfl rfl, ← lostRodRelease, State.haltsDue_of_none (by rw [hdbg, hhalts])]
  have hcalm : (lostRodStart.releaseActs 0).calm = true := by
    rw [hacts]
    exact State.startReleases_calm hn hq ha hl hb (by decide +kernel)
  rw [State.command_net (f := fun s => s.releaseActs 0) rfl hcalm ht, hacts]
  exact State.startReleases_of_lost hn hq ha hl hb (rod := 3) (by decide) (by decide +kernel)

/-- Refutes O20: the release tick of START leaves the NIs of a lost rod closed (R183), and the statement has every NI that the
image's routing uses known. In `lostRodStart` NI 0 is routed and its rod is lost. -/
theorem not_startAndFabricReset : ¬ Obligations.StartAndFabricReset := by
  unfold Obligations.StartAndFabricReset
  rintro ⟨hstart, -⟩
  obtain ⟨t, ht, -, -, -, -, -, -, -, -, -, -, -, -, -, -, -, -, -, -, hused, -⟩ :=
    hstart lostRodStart goldenImage 0 ⟨.all, .start, 0⟩ (by decide +kernel) rfl rfl rfl (by simp [goldenImage, newLoad])
      (by decide +kernel) (by decide) (by decide)
  have hopen : lostRodStart.usedNis.getLsbD 0 = true := by
    rw [State.usedNis_getLsbD _ (by decide), lostRodStart_usesNi]
    decide
  rw [← hused, exec_lostRodStart ht] at hopen
  exact Bool.noConfusion hopen

end Sys2Proof.Machine
end

section
/-! PROOF. A CFG read whose LEN spans two blocks of 64 bytes: its answer has two data units (R206), where the statement of O27,
which asks nothing of LEN, has one. -/

namespace Sys2Proof.Machine

/-- A CFG read of CN.AGE_CFG on page 3, with LEN 63. -/
def wideCfg : Packet :=
  { cmd := .cfg, src := 5, dest := 3, tag := 7, record := 0, err := 0, attr := 0, addr := csrOffset .CN_AGE_CFG 3, len := 63
    beFirst := 0, beLast := 0, operand := 0, injTime := 0, route := 0xFFFFFFFFFFFF, vn := 3, prio := 0, data := [], poison := false }

/-- The router of page 3 has consumed `wideCfg`, and is to answer. -/
def wideCfgState : State := poweredUp.setRouter 3 { routerInit with consumed := [wideCfg] }

/-- The VNs of the units a router has sent when a command is over. -/
def sentVns (o : Host.Outcome State Fault Refusal) (page : Nat) : List Nat :=
  match o with
  | .next t => (t.router page).sent.map (·.2.vn)
  | _ => []

/-- The answer: a header and two data units. -/
theorem wideCfg_answer : sentVns (exec (.cfg 3 wideCfg) wideCfgState) 3 = [1, 1, 1] := by decide +kernel

/-- Refutes O27: the statement gives a CFG's answer one data unit, whatever its LEN; that of `wideCfg` has two. -/
theorem not_transactions : ¬ Obligations.Transactions := by
  unfold Obligations.Transactions
  rintro ⟨-, -, -, -, -, -, -, -, hcfg⟩
  obtain ⟨t, ht, hsent, -⟩ := hcfg wideCfgState 3 2 4 wideCfg (by decide +kernel) (by decide +kernel) (by decide)
    (by decide) (by decide +kernel) (by decide +kernel) (by decide +kernel) (by decide +kernel) (by decide +kernel) (by decide +kernel)
    (by decide +kernel) (by decide +kernel) (by decide)
  have h := wideCfg_answer
  simp [ht, sentVns, hsent] at h

end Sys2Proof.Machine
end

section
/-! PROOF. Which event groups are pending: the listed registers say it, since no register has an event bit in its Reset value
(R34). -/

namespace Sys2Proof.Machine

-- ------------------------------------------------------------------ the keys of registers

theorem allNumbers_ctorIdx : ((List.range 461).all fun n => decide ((Reg.ofNat n).ctorIdx = n)) = true := by
  decide +kernel

theorem Reg.ctorIdx_ofNat {n : Nat} (h : n < 461) : (Reg.ofNat n).ctorIdx = n := by
  have hn := List.all_eq_true.1 allNumbers_ctorIdx n (List.mem_range.2 h)
  exact of_decide_eq_true hn

/-- A key that names a register is the one made of that register and of the place the key holds. -/
theorem eq_regKey_of_regOfKey {k : Nat} {r : Reg} (h : regOfKey k = some r) : k = regKey r (instOfKey k) := by
  have hlist : allRegs[k % 512]? = some r := h
  have hlen : allRegs.length = 461 := by decide +kernel
  have hlt : k % 512 < 461 := hlen ▸ (List.getElem?_eq_some_iff.1 hlist).1
  have hr : r = Reg.ofNat (k % 512) := by
    have hall := of_decide_eq_true (List.all_eq_true.1 allRegs_ofNat (k % 512) (List.mem_range.2 hlt))
    exact Option.some.inj (hlist.symm.trans hall)
  rw [hr, regKey, instOfKey, Reg.ctorIdx_ofNat hlt]
  omega

-- ------------------------------------------------------------------ what a sparse map lists

/-- A map in canonical form reads, at a key it lists, the value listed. -/
theorem Sparse.get_of_mem {α : Type} [DecidableEq α] {d : Nat → α} {m : Sparse α} {k : Nat} {v : α} :
    ∀ {lo : Nat}, Sparse.wfFrom d lo m = true → (k, v) ∈ m → lo ≤ k ∧ Sparse.get (d k) m k = v := by
  induction m with
  | nil => exact fun _ h => absurd h List.not_mem_nil
  | cons e m ih =>
    obtain ⟨k', v'⟩ := e
    intro lo hw hm
    simp only [Sparse.wfFrom, Bool.and_eq_true, decide_eq_true_eq] at hw
    obtain ⟨⟨hlo, -⟩, hrest⟩ := hw
    rcases List.mem_cons.1 hm with h | h
    · cases h
      exact ⟨hlo, by simp [Sparse.get_cons]⟩
    · obtain ⟨hlt, hget⟩ := ih hrest h
      exact ⟨by omega, by rw [Sparse.get_cons, if_neg (by omega), hget]⟩

/-- What reads other than an unlisted key is listed. -/
theorem Sparse.mem_of_get_ne {α : Type} {d : α} {m : Sparse α} {k : Nat} (h : Sparse.get d m k ≠ d) : (k, Sparse.get d m k) ∈ m := by
  induction m with
  | nil => exact absurd rfl h
  | cons e m ih =>
    obtain ⟨k', v'⟩ := e
    rw [Sparse.get_cons] at h ⊢
    split
    · rename_i hk
      rw [hk]
      exact List.mem_cons_self
    · rename_i hk
      rw [if_neg hk] at h
      exact List.mem_cons_of_mem _ (ih h)

-- ------------------------------------------------------------------ the bits of the groups

theorem getLsbD_orPending (m : Sparse Word) (acc : BitVec 32) (g : Nat) : (orPending m acc).getLsbD g = true ↔
    acc.getLsbD g = true ∨ ∃ k v, (k, v) ∈ m ∧ (pendingBit k v).getLsbD g = true := by
  induction m generalizing acc with
  | nil => simp [orPending]
  | cons e m ih =>
    obtain ⟨k, v⟩ := e
    rw [orPending_cons, ih, BitVec.getLsbD_or, Bool.or_eq_true, or_assoc]
    simp only [List.mem_cons, Prod.mk.injEq]
    constructor
    · rintro (h | h | ⟨k', v', hm, h⟩)
      · exact .inl h
      · exact .inr ⟨k, v, .inl ⟨rfl, rfl⟩, h⟩
      · exact .inr ⟨k', v', .inr hm, h⟩
    · rintro (h | ⟨k', v', ⟨rfl, rfl⟩ | hm, h⟩)
      · exact .inl h
      · exact .inr (.inl h)
      · exact .inr (.inr ⟨k', v', hm, h⟩)

/-- A register's word holds an event (R34, R66, R174, R239). -/
def wordHoldsEvent (r : Reg) (v : Word) : Bool :=
  if r = .PWR_VLOOP_STATUS ∧ fieldOf v 0 3 = 5 then true
  else if r = .CFG_CAP_STATUS ∧ fieldOf v 0 3 = 3 then true
  else if r = .NI_FENCE_STATUS ∧ fieldOf v 4 3 ≠ 5 then false
  else decide (v.toNat &&& (eventBits r).2 ≠ 0)

theorem State.holdsEvent_eq (s : State) (r : Reg) (i : Nat) : s.holdsEvent r i = wordHoldsEvent r (s.word r i) := rfl

/-- Groups with event bits have codes below 21. -/
theorem eventBits_lt (r : Reg) : (eventBits r).1 < 21 := by
  cases r <;> decide

/-- A register without event bits holds no event. -/
theorem wordHoldsEvent_of_none {r : Reg} (h : eventBits r = (0, 0)) (v : Word) : wordHoldsEvent r v = false := by
  have hv : r ≠ .PWR_VLOOP_STATUS := by rintro rfl; simp [eventBits] at h
  have hc : r ≠ .CFG_CAP_STATUS := by rintro rfl; simp [eventBits] at h
  simp [wordHoldsEvent, h, hv, hc]

/-- A listed word makes its register's group pending when it holds an event. -/
theorem pendingBit_of_reg {k : Nat} {r : Reg} (h : regOfKey k = some r) (v : Word) :
    pendingBit k v = if wordHoldsEvent r v then BitVec.ofNat 32 (2 ^ (eventBits r).1) else 0 := by
  unfold pendingBit wordHoldsEvent
  rw [h]
  dsimp only
  by_cases hv : r = .PWR_VLOOP_STATUS ∧ fieldOf v 0 3 = 5
  · simp [hv]
  · by_cases hc : r = .CFG_CAP_STATUS ∧ fieldOf v 0 3 = 3
    · simp [hc]
    · by_cases hf : r = .NI_FENCE_STATUS ∧ fieldOf v 4 3 ≠ 5
      · rw [if_neg hv, if_neg hc, if_pos hf, if_neg hv, if_neg hc, if_pos hf]
        rfl
      · by_cases h0 : v.toNat &&& (eventBits r).2 = 0 <;> simp [hv, hc, hf, h0]

theorem pendingBit_of_none {k : Nat} (h : regOfKey k = none) (v : Word) : pendingBit k v = 0 := by
  simp [pendingBit, h]

/-- One of the 32 groups, as a set. -/
theorem getLsbD_two_pow {n : Nat} (hn : n < 32) (g : Nat) : (BitVec.ofNat 32 (2 ^ n)).getLsbD g = decide (n = g) := by
  rw [BitVec.getLsbD_ofNat, Nat.testBit_two_pow]
  by_cases h : n = g
  · subst h; simp [hn]
  · simp [h]

/-- A listed word makes one group pending: that of a register whose event it holds. -/
theorem getLsbD_pendingBit (k : Nat) (v : Word) (g : Nat) : (pendingBit k v).getLsbD g = true ↔
    ∃ r, regOfKey k = some r ∧ wordHoldsEvent r v = true ∧ (eventBits r).1 = g := by
  cases h : regOfKey k with
  | none => simp [pendingBit_of_none h]
  | some r =>
    rw [pendingBit_of_reg h]
    cases hv : wordHoldsEvent r v with
    | false => simp [hv]
    | true =>
      rw [if_pos rfl, getLsbD_two_pow (Nat.lt_trans (eventBits_lt r) (by decide))]
      simp [hv]

/-- A Reset value that does not depend on the part, and on the register's place only by whether it is a fabric NI's. -/
def ResetVal.plain : ResetVal → Bool
  | .num _ | .fenceAtReset => true
  | _ => false

theorem resetVal_plain {v : ResetVal} (h : v.plain = true) (p q : Part) (i : Nat) :
    resetVal p i v = resetVal q (if i < 0x60 then 0 else 0x60) v := by
  cases v with
  | num n => rfl
  | fenceAtReset => by_cases hi : i < 0x60 <;> simp [resetVal, hi]
  | _ => simp [ResetVal.plain] at h

theorem resetWord_plain {r : Reg} (h : (regSpec r).fields.all (·.reset.plain) = true) (p q : Part) (i : Nat) :
    resetWord p r i = resetWord q r (if i < 0x60 then 0 else 0x60) :=
  List.foldl_ext _ _ _ fun _ f hf => by rw [resetVal_plain (List.all_eq_true.1 h f hf) p q]

/-- The table of registers, looked through: those with event bits have plain Reset values, in which no event is held. -/
theorem allRegs_quiet : (allRegs.all fun r => decide (eventBits r = (0, 0)) || ((regSpec r).fields.all (·.reset.plain) &&
    !wordHoldsEvent r (resetWord State.reset.part r 0) && !wordHoldsEvent r (resetWord State.reset.part r 0x60))) = true := by
  decide +kernel

/-- No Reset value holds an event. -/
theorem resetWord_quiet (p : Part) (r : Reg) (i : Nat) : wordHoldsEvent r (resetWord p r i) = false := by
  have h := List.all_eq_true.1 allRegs_quiet r (List.mem_of_getElem? (allRegs_ctorIdx r))
  simp only [Bool.or_eq_true, decide_eq_true_eq, Bool.and_eq_true, Bool.not_eq_true'] at h
  rcases h with h | ⟨⟨hp, h0⟩, h60⟩
  · exact wordHoldsEvent_of_none h _
  · rw [resetWord_plain hp p State.reset.part]
    split
    · exact h0
    · exact h60

/-- The groups pending, bit by bit: from the registers listed, the ledger and the system watchdog's warning. -/
theorem State.getLsbD_groups (s : State) (g : Nat) : s.groups.getLsbD g = true ↔
    (∃ k v, (k, v) ∈ s.regs ∧ (pendingBit k v).getLsbD g = true) ∨
    (g = 3 ∧ (s.ledger.commitFault || s.ledger.gap || s.ledger.torn) = true) ∨ (g = 10 ∧ s.dev.sysWarning = true) := by
  have hgroups : s.groups = orPending s.regs 0 |||
    (if s.ledger.commitFault || s.ledger.gap || s.ledger.torn then 8#32 else 0#32) ||| (if s.dev.sysWarning then 0x400#32 else 0#32) := rfl
  have hone {n : Nat} (hn : n < 32) {x : BitVec 32} (hx : x = BitVec.ofNat 32 (2 ^ n)) (b : Bool) :
      (if b then x else 0#32).getLsbD g = true ↔ g = n ∧ b = true := by
    cases b with
    | false => simp
    | true => rw [if_pos rfl, hx, getLsbD_two_pow hn]; simp [eq_comm]
  rw [hgroups, BitVec.getLsbD_or, BitVec.getLsbD_or, Bool.or_eq_true, Bool.or_eq_true, getLsbD_orPending,
    hone (n := 3) (x := 8#32) (by decide) rfl, hone (n := 10) (x := 0x400#32) (by decide) rfl, or_assoc]
  simp

/-- A register that holds an event is listed, so its group is pending. -/
theorem State.listed_of_holdsEvent {s : State} {r : Reg} {i : Nat} (h : s.holdsEvent r i = true) :
    ∃ k v, (k, v) ∈ s.regs ∧ (pendingBit k v).getLsbD (eventBits r).1 = true := by
  rw [State.holdsEvent_eq] at h
  have hne : s.word r i ≠ resetWord s.part r i := fun e => by simp [e, resetWord_quiet] at h
  exact ⟨regKey r i, s.word r i, Sparse.mem_of_get_ne hne, (getLsbD_pendingBit _ _ _).2 ⟨r, by simp, h, rfl⟩⟩

theorem State.groups_of_holdsEvent {s : State} {r : Reg} {i : Nat} (h : s.holdsEvent r i = true) :
    s.groups.getLsbD (eventBits r).1 = true := (s.getLsbD_groups _).2 (.inl (State.listed_of_holdsEvent h))

/-- In a register file in canonical form, some listed word holds an event of a group exactly if some register does. -/
theorem State.listed_iff_holds {s : State} (h : Sparse.wf (resetOfKey s.part) s.regs = true) (g : Nat) :
    (∃ k v, (k, v) ∈ s.regs ∧ (pendingBit k v).getLsbD g = true) ↔ ∃ r i, (eventBits r).1 = g ∧ s.holdsEvent r i = true := by
  constructor
  · rintro ⟨k, v, hm, hp⟩
    obtain ⟨r, hr, hv, hg⟩ := (getLsbD_pendingBit k v g).1 hp
    refine ⟨r, instOfKey k, hg, ?_⟩
    have hk := eq_regKey_of_regOfKey hr
    have hget := (Sparse.get_of_mem h hm).2
    rw [hk, resetOfKey_regKey] at hget
    rw [State.holdsEvent_eq, State.word, hget]
    exact hv
  · rintro ⟨r, i, hg, hv⟩
    exact hg ▸ State.listed_of_holdsEvent hv

/-- Settles O55: a pending group is one that a listed word, the ledger or the warning makes pending, and what is listed is what
reads other than its Reset value. -/
theorem eventGroups : Obligations.EventGroups := by
  refine ⟨fun s g hg => ?_, fun s g hw _ => ?_⟩
  · rw [← Bool.not_eq_true, State.getLsbD_groups]
    rintro (⟨k, v, -, hp⟩ | ⟨rfl, -⟩ | ⟨rfl, -⟩)
    · obtain ⟨r, -, -, hr⟩ := (getLsbD_pendingBit k v g).1 hp
      have hlt := eventBits_lt r
      omega
    · omega
    · omega
  · simp only [State.wf, Bool.and_eq_true, and_assoc] at hw
    obtain ⟨hregs, -⟩ := hw
    rw [State.getLsbD_groups, State.listed_iff_holds hregs]

end Sys2Proof.Machine
end

section
/-! PROOF. Every command ends with event delivery, unless PORST_N holds the part: so every command answers a next state that
keeps the part and the queue, and after every step events are delivered (R34, R35, R380, R382). -/

namespace Sys2Proof.Machine

-- ------------------------------------------------------------------ the two forms of a command

/-- Every command is an effect on a part in operation, or one that PORST_N does not hold back. -/
theorem exec_form (c : Instr) (s : State) : (∃ f, exec c s = s.command f) ∨ ∃ f, exec c s = s.always f := by
  cases c with
  | por | porstRelease | supplyFault | supplyInRange | pinInputChange =>
    refine .inr ?_
    dsimp only [exec]
    exact ⟨_, rfl⟩
  | _ =>
    refine .inl ?_
    dsimp only [exec]
    exact ⟨_, rfl⟩

/-- What a command answers: the state it found, or one it made without the end of a command, both while PORST_N is low; else
a state that a command has ended in. -/
theorem exec_answers (c : Instr) (s : State) : ∃ t, exec c s = .next t ∧
    ((s.dev.porst = true ∧ t = s) ∨ (∃ u, u.dev.porst = true ∧ t = s.became u) ∨ ∃ u, t = s.ends u) := by
  rcases exec_form c s with ⟨f, h⟩ | ⟨f, h⟩
  · rw [h, State.command]
    cases hp : s.dev.porst with
    | true => exact ⟨s, rfl, .inl ⟨rfl, rfl⟩⟩
    | false => exact ⟨_, rfl, .inr (.inr ⟨_, rfl⟩)⟩
  · rw [h, State.always]
    cases hp : (f s).dev.porst with
    | true => exact ⟨_, rfl, .inr (.inl ⟨_, hp, by simp⟩)⟩
    | false => exact ⟨_, rfl, .inr (.inr ⟨_, by simp; rfl⟩)⟩

/-- Settles O52: each form of a command puts the part and the queue back. -/
theorem commandsComplete : Obligations.CommandsComplete := by
  intro c s
  obtain ⟨t, h, ⟨-, rfl⟩ | ⟨u, -, rfl⟩ | ⟨u, rfl⟩⟩ := exec_answers c s
  · exact ⟨_, h, rfl, rfl⟩
  · exact ⟨_, h, rfl, rfl⟩
  · exact ⟨_, h, State.ends_part s u, State.ends_pending s u⟩

-- ------------------------------------------------------------------ work done for each element of a list

/-- Work done for each element of a list brings about what it does for one, where it keeps what it has done for others. -/
theorem foldl_brings {α : Type} {f : State → α → State} {P : α → State → Prop} {l : List α}
    (does : ∀ s, ∀ x ∈ l, P x (f s x)) (keeps : ∀ s, ∀ x ∈ l, ∀ y, P y s → P y (f s x)) (s : State) {x : α} (hx : x ∈ l) :
    P x (l.foldl f s) := by
  induction l generalizing s with
  | nil => cases hx
  | cons a l ih =>
    rcases List.mem_cons.1 hx with rfl | hx
    · exact List.foldlRecOn l f (motive := P x) (does s x List.mem_cons_self) fun u h y hy =>
        keeps u y (List.mem_cons_of_mem x hy) x h
    · exact ih (fun u y hy => does u y (List.mem_cons_of_mem a hy)) (fun u y hy => keeps u y (List.mem_cons_of_mem a hy)) _ hx

/-- Work done for each element of a list keeps what each part of it keeps. -/
theorem foldl_same {α β : Type} {f : State → α → State} {g : State → β} (h : ∀ s x, g (f s x) = g s) (l : List α) (s : State) :
    g (l.foldl f s) = g s := List.foldlRecOn l f (motive := fun t => g t = g s) rfl fun t ht x _ => (h t x).trans ht

-- ------------------------------------------------------------------ messages to the host (R35)

/-- Group g's message has been sent, if it is to be. -/
def State.told (pend : BitVec 32) (g : Nat) (s : State) : Prop :=
  s.msix.enable = true → pend.getLsbD g = true → (s.word .DEV_EVT_HOST_MASK 0).getLsbD g = true → s.dev.evtSent.getLsbD g = true

theorem State.sendVector_dev (s : State) (v : Nat) : (s.sendVector v).dev = s.dev := by
  unfold State.sendVector
  split
  · rfl
  · split <;> rfl

/-- A message sent is noted: of its own group, and of no group is the note lost. -/
theorem State.hostEvent_evtSent (s : State) (pend : BitVec 32) {g : Nat} (hg : g < 32) (k : Nat) :
    (s.hostEvent pend g).dev.evtSent.getLsbD k = (s.dev.evtSent.getLsbD k ||
      (pend.getLsbD g && (s.word .DEV_EVT_HOST_MASK 0).getLsbD g && s.msix.enable && decide (g = k))) := by
  unfold State.hostEvent
  split
  · rename_i h
    simp only [Bool.and_eq_true, Bool.not_eq_true'] at h
    obtain ⟨⟨⟨hp, hm⟩, -⟩, he⟩ := h
    rw [State.putDev_dev, BitVec.getLsbD_or, getLsbD_two_pow hg, State.sendVector_dev, hp, hm, he]
    rfl
  · rename_i h
    by_cases hk : g = k
    · subst hk
      cases hs : s.dev.evtSent.getLsbD g <;> simp_all
    · simp [hk]

theorem State.hostEvent_mask (s : State) (pend : BitVec 32) (g : Nat) :
    (s.hostEvent pend g).word .DEV_EVT_HOST_MASK 0 = s.word .DEV_EVT_HOST_MASK 0 :=
  (s.hostEvent_quiet pend g).regs _ _ rfl List.not_mem_nil

theorem State.hostEvent_enable (s : State) (pend : BitVec 32) (g : Nat) :
    (s.hostEvent pend g).msix.enable = s.msix.enable :=
  ((s.hostEvent_quiet pend g).areas .msix List.not_mem_nil).1

/-- A group's turn sends its message, and takes none back. -/
theorem State.hostEvent_told (s : State) (pend : BitVec 32) {g : Nat} (hg : g < 32) {k : Nat} (h : k = g ∨ s.told pend k) :
    (s.hostEvent pend g).told pend k := by
  intro he hp hm
  rw [State.hostEvent_enable] at he
  rw [State.hostEvent_mask] at hm
  rw [State.hostEvent_evtSent _ _ hg]
  rcases h with rfl | h
  · simp [he, hp, hm]
  · simp [h he hp hm]

theorem State.hostEvents_told (s : State) (pend : BitVec 32) {g : Nat} (hg : g < 21) : (s.hostEvents pend).told pend g :=
  foldl_brings (P := fun g s => s.told pend g)
    (fun u k hk => u.hostEvent_told pend (Nat.lt_trans (List.mem_range.1 hk) (by decide)) (.inl rfl))
    (fun u k hk _ hj => u.hostEvent_told pend (Nat.lt_trans (List.mem_range.1 hk) (by decide)) (.inr hj)) s (List.mem_range.2 hg)

/-- What comes after the messages leaves them sent. -/
theorem State.told_congr {s t : State} {pend : BitVec 32} {g : Nat} (h : s.told pend g) (he : t.msix.enable = s.msix.enable)
    (hw : t.word .DEV_EVT_HOST_MASK 0 = s.word .DEV_EVT_HOST_MASK 0) (hs : t.dev.evtSent = s.dev.evtSent) : t.told pend g := by
  unfold State.told at h ⊢
  rwa [he, hw, hs]

theorem State.fabEvents_evtSent (s : State) (rising : BitVec 32) : (s.fabEvents rising).dev.evtSent = s.dev.evtSent :=
  foldl_same (g := fun s => s.dev.evtSent) (fun s g => by unfold State.fabEvent; split <;> rfl) _ s

theorem State.dogSync_dev (s : State) (w : Nat) : (s.dogSync w).dev = s.dev := by
  unfold State.dogSync
  split
  · rfl
  · dsimp only
    split <;> rfl

theorem State.dogsSync_dev (s : State) : s.dogsSync.dev = s.dev :=
  foldl_same (g := State.dev) State.dogSync_dev _ s

theorem State.coresLevels_dev (s : State) (pend : BitVec 32) : (s.coresLevels pend).dev = s.dev := by
  unfold State.coresLevels
  split
  · exact foldl_same (g := State.dev) (fun s n => by unfold State.coreLevels; dsimp only; split <;> rfl) _ s
  · rfl

theorem State.coresLevels_seq (s : State) (pend : BitVec 32) : (s.coresLevels pend).seq = s.seq := by
  unfold State.coresLevels
  split
  · exact foldl_same (g := State.seq) (fun s n => by unfold State.coreLevels; dsimp only; split <;> rfl) _ s
  · rfl

/-- After every group's turn nothing takes a message back: those to be sent have been sent when the command is over. -/
theorem State.settle_told (s : State) {g : Nat} (hg : g < 21) : s.settle.told s.groups g := by
  unfold State.settle
  set a := s.hostEvents s.groups with ha
  set b := a.fabEvents (s.groups &&& ~~~s.dev.evtPend) with hb
  have hq : Quiet a (((b.dogsSync).coresLevels s.groups).showPend s.groups) :=
    (((a.fabEvents_quiet _).trans b.dogsSync_quiet).trans (State.coresLevels_quiet _ _)).trans (State.showPend_quiet _ _)
  refine State.told_congr (s.hostEvents_told s.groups hg) (hq.areas .msix List.not_mem_nil).1
    (hq.regs _ _ rfl List.not_mem_nil) ?_
  rw [State.showPend, State.putDev_dev]
  show (b.dogsSync.coresLevels s.groups).dev.evtSent = _
  rw [State.coresLevels_dev, State.dogsSync_dev, hb, State.fabEvents_evtSent]

-- ------------------------------------------------------------------ levels to the cores (R380)

theorem State.word_coreLevels_lo (s : State) (pend : BitVec 32) (n m : Nat) : (s.coreLevels pend n).word .SEQ_IC_PEND_LO m =
    if m = n then s.word .SEQ_IC_PEND_LO n ||| (pend &&& s.word .DEV_EVT_CORE_MASK n) else s.word .SEQ_IC_PEND_LO m := by
  unfold State.coreLevels
  dsimp only
  split <;> simp [State.word_setWord]

theorem State.word_coreLevels_hi (s : State) (pend : BitVec 32) (n m : Nat) : (s.coreLevels pend n).word .SEQ_IC_PEND_HI m =
    if m = n ∧ (s.core n).timecmp.toNat ≤ s.now.toNat then s.word .SEQ_IC_PEND_HI n ||| 0x10#32 else s.word .SEQ_IC_PEND_HI m := by
  unfold State.coreLevels
  dsimp only
  split
  · rename_i h
    have h' : (s.core n).timecmp.toNat ≤ s.now.toNat := h
    simp [State.word_setWord, h']
  · rename_i h
    have h' : ¬ (s.core n).timecmp.toNat ≤ s.now.toNat := h
    simp [State.word_setWord, h']

/-- The levels of core n stand in its interrupt controller: of the groups pending, and of MTIMECMP. -/
def State.levelsReach (pend : BitVec 32) (n : Nat) (s : State) : Prop :=
  pend &&& s.word .DEV_EVT_CORE_MASK n &&& ~~~(s.word .SEQ_IC_PEND_LO n) = 0 ∧
  ((s.core n).timecmp.toNat ≤ s.now.toNat → (s.word .SEQ_IC_PEND_HI n).getLsbD 4 = true)

theorem and_not_or_self (x y : BitVec 32) : x &&& ~~~(y ||| x) = 0 := by
  ext i h
  simp
  cases x[i] <;> simp

/-- A core's turn makes its levels stand, and clears none of another. -/
theorem State.coreLevels_reach (s : State) (pend : BitVec 32) {n m : Nat} (h : m = n ∨ s.levelsReach pend m) :
    (s.coreLevels pend n).levelsReach pend m := by
  have hq := s.coreLevels_quiet pend n
  have hmask : (s.coreLevels pend n).word .DEV_EVT_CORE_MASK m = s.word .DEV_EVT_CORE_MASK m := hq.regs _ _ rfl List.not_mem_nil
  have hcore : (s.coreLevels pend n).core m = s.core m := congrArg (Sparse.get coreInit · m) (hq.areas .seq List.not_mem_nil).1
  have hnow : (s.coreLevels pend n).now = s.now := by
    obtain ⟨ht, ho, -⟩ := hq.areas .clock List.not_mem_nil
    rw [State.now, ht, ho, State.now]
  unfold State.levelsReach at h ⊢
  rw [hmask, hcore, hnow, State.word_coreLevels_lo, State.word_coreLevels_hi]
  by_cases hm : m = n
  · subst hm
    simp only [if_true, true_and]
    exact ⟨and_not_or_self _ _, fun ht => by simp [ht]⟩
  · simpa [hm] using h

/-- While the sequencer is on, the levels of its cores stand when the command is over. -/
theorem State.coresLevels_reach (s : State) (pend : BitVec 32) (hs : s.seqPowered = true) {n : Nat} (hn : n < Part.cores s.part) :
    (s.coresLevels pend).levelsReach pend n := by
  unfold State.coresLevels
  rw [if_pos hs]
  exact foldl_brings (P := fun n s => s.levelsReach pend n) (fun u k _ => u.coreLevels_reach pend (.inl rfl))
    (fun u k _ _ hj => u.coreLevels_reach pend (.inr hj)) s (List.mem_range.2 hn)

-- ------------------------------------------------------------------ watchdogs (R382)

/-- Why a watchdog is paused follows from registers alone, and from why it was paused before. -/
theorem State.dogReason_congr {s t : State} (hw : ∀ r i, isPend r = false → t.word r i = s.word r i) (w : Nat) (d : Dog) :
    t.dogReason w d = s.dogReason w d := by
  have hf (F : Fld) (h : isPend F.reg = false) (i : Nat) : t.f F i = s.f F i := by rw [State.f, hw _ _ h, State.f]
  simp only [State.dogReason, State.seqPowered, State.on, hw .PWR_REGION_STATUS _ rfl, hf F.SEQ_CORE_STATUS_STATE rfl,
    hf F.WDOG_CTRL_DBG_PAUSE rfl, hf F.DBG_STATUS_CORES_HALTED rfl, hf F.DBG_CORE_RC_HALTED rfl]
  rfl

/-- The system watchdog's reason, taken as its reason before, gives itself: p says that the sequencer is on, r that a core runs,
c that a halt pauses it. -/
theorem systemReason_idem (p r c : Bool) {a b : Nat} (h : b = if !p || (a == 2 && !r) then 2 else if c then 1 else 0) :
    (if !p || (b == 2 && !r) then 2 else if c then 1 else 0) = b := by
  cases p with
  | false => simpa using h.symm
  | true =>
    cases r with
    | true => simpa using h.symm
    | false => by_cases ha : a = 2 <;> cases c <;> simp_all

/-- A watchdog that stands as its pauses lay down goes on standing so. -/
theorem State.dogReason_idem (s : State) (w : Nat) {d d' : Dog} (h : d'.reason = s.dogReason w d) : s.dogReason w d' = d'.reason := by
  unfold State.dogReason at h ⊢
  by_cases hw : w = 4
  · simp only [hw, if_true] at h ⊢
    exact systemReason_idem _ _ _ h
  · simp only [hw, if_false] at h ⊢
    exact h.symm

/-- A sparse list with a key put in: what is found in it. -/
theorem find?_insert {α : Type} (m : Sparse α) (k j : Nat) (v : α) :
    (Sparse.insert m k v).find? (·.1 == j) = if j = k then some (k, v) else m.find? (·.1 == j) := by
  induction m with
  | nil => by_cases h : j = k <;> simp [Sparse.insert, h, eq_comm (a := k)]
  | cons e m ih =>
    obtain ⟨k', v'⟩ := e
    unfold Sparse.insert
    by_cases hj : j = k
    · subst hj
      split
      · simp
      · split
        · simp
        · rename_i h
          rw [List.find?_cons_of_neg (by simpa using Ne.symm h), ih, if_pos rfl, if_pos rfl]
    · have hk : (k == j) = false := by simpa using Ne.symm hj
      split
      · rw [List.find?_cons_of_neg (by simp [hk])]
      · split
        · rename_i h
          subst h
          rw [List.find?_cons_of_neg (by simp [hk]), List.find?_cons_of_neg (by simp [hk])]
        · simp only [List.find?_cons, ih, hj, if_false]

/-- Watchdog w, when it is enabled, stands as its pauses lay down. -/
def State.dogStands (w : Nat) (s : State) : Prop := ∀ d, s.dog w = some d → s.dogReason w d = d.reason

theorem State.dog_setDog (s : State) (w v : Nat) (d : Dog) : (s.setDog w d).dog v = if v = w then some d else s.dog v := by
  unfold State.dog State.setDog
  rw [State.putSeq_seq, find?_insert]
  split <;> rfl

theorem State.dogStands_setDog (s : State) {w v : Nat} {d d' : Dog} (hd : s.dog w = some d) (h : d'.reason = s.dogReason w d)
    (hv : v = w ∨ s.dogStands v) : (s.setDog w d').dogStands v := by
  intro x hx
  rw [State.dog_setDog] at hx
  have hr : (s.setDog w d').dogReason v x = s.dogReason v x := State.dogReason_congr (fun _ _ _ => rfl) v x
  rw [hr]
  split at hx
  · rename_i e
    subst e
    cases hx
    exact s.dogReason_idem v h
  · rename_i e
    exact hv.resolve_left e x hx

/-- A watchdog's turn leaves it standing as its pauses lay down, and moves no other. -/
theorem State.dogSync_stands (s : State) {w v : Nat} (hv : v = w ∨ s.dogStands v) : (s.dogSync w).dogStands v := by
  unfold State.dogSync
  split
  · rename_i hf
    rcases hv with rfl | hv
    · intro d hd
      simp [State.dog, hf] at hd
    · exact hv
  · rename_i w' d hf
    have hd : s.dog w = some d := by simp [State.dog, hf]
    dsimp only
    split
    · rename_i hr
      rcases hv with rfl | hv
      · intro x hx
        cases hd.symm.trans hx
        exact hr
      · exact hv
    · refine s.dogStands_setDog hd ?_ hv
      split
      · rfl
      · rename_i h0
        have h0 : s.dogReason w d = 0 := by simpa using h0
        split <;> exact h0.symm

theorem State.dogsSync_stands (s : State) {w : Nat} (hw : w < 5) : s.dogsSync.dogStands w :=
  foldl_brings (P := fun w s => s.dogStands w) (fun u _ _ => u.dogSync_stands (.inl rfl))
    (fun u _ _ _ hj => u.dogSync_stands (.inr hj)) s (List.mem_range.2 hw)

-- ------------------------------------------------------------------ the end of a command

/-- Nothing that comes after the watchdogs' turns changes how they stand. -/
theorem State.settle_dogStands (s : State) {w : Nat} (hw : w < 5) : s.settle.dogStands w := by
  unfold State.settle
  set a := (s.hostEvents s.groups).fabEvents (s.groups &&& ~~~s.dev.evtPend)
  have hq : Quiet a.dogsSync ((a.dogsSync.coresLevels s.groups).showPend s.groups) :=
    (State.coresLevels_quiet _ _).trans (State.showPend_quiet _ _)
  have hseq : ((a.dogsSync.coresLevels s.groups).showPend s.groups).seq = a.dogsSync.seq := State.coresLevels_seq _ _
  intro d hd
  rw [State.dogReason_congr fun r i hr => hq.regs r i hr List.not_mem_nil]
  rw [State.dog, hseq] at hd
  exact a.dogsSync_stands hw d hd

/-- While the sequencer is on, the levels of its cores stand when a command is over. -/
theorem State.settle_levelsReach (s : State) (hs : s.settle.seqPowered = true) {n : Nat} (hn : n < Part.cores s.settle.part) :
    s.settle.levelsReach s.groups n := by
  unfold State.settle at hs hn ⊢
  set a := ((s.hostEvents s.groups).fabEvents (s.groups &&& ~~~s.dev.evtPend)).dogsSync
  have hq : Quiet a ((a.coresLevels s.groups).showPend s.groups) := (State.coresLevels_quiet _ _).trans (State.showPend_quiet _ _)
  rw [State.seqPowered, hq.regs _ _ rfl List.not_mem_nil] at hs
  rw [hq.part] at hn
  exact a.coresLevels_reach s.groups hs hn

/-- When a command is over, events are delivered (R34, R35, R380, R382). -/
theorem State.settle_eventsOut (s : State) : EventsOut s.settle where
  shown := s.settle_evtPend
  host he g hg hp hm := s.settle_told hg he (by rwa [← s.settle_quiet.groups]) hm
  cores hs n hn := by
    rw [s.settle_quiet.groups]
    exact (s.settle_levelsReach hs hn).1
  reached hs n hn := (s.settle_levelsReach hs hn).2
  dogs _ d hw hd := s.settle_dogStands hw d hd

theorem State.ends_eventsOut (s t : State) : EventsOut (s.ends t) := State.settle_eventsOut _

/-- A command that does not end with PORST_N low ends with its events delivered. -/
theorem exec_eventsOut {c : Instr} {s t : State} (h : exec c s = .next t) : t.dev.porst = true ∨ EventsOut t := by
  obtain ⟨u, hu, hc⟩ := exec_answers c s
  cases hu.symm.trans h
  obtain ⟨hp, rfl⟩ | ⟨v, hv, rfl⟩ | ⟨v, rfl⟩ := hc
  · exact .inl hp
  · exact .inl hv
  · exact .inr (State.ends_eventsOut s v)

/-- Settles O53: a tick and a command end with event delivery, unless PORST_N holds the part before and after. -/
theorem eventsStayDelivered : Obligations.EventsStayDelivered := by
  intro s t _ h
  unfold step at h
  split at h
  · cases h
    cases hp : s.dev.porst with
    | true => exact .inl (by rw [State.tick_of_porst hp, hp])
    | false => exact .inr (by rw [State.tick, hp]; exact State.ends_eventsOut _ _)
  · exact exec_eventsOut h

end Sys2Proof.Machine
end

section
/-! PROOF. The state after reset lists no register, so every register reads its Reset value (R30). -/

namespace Sys2Proof.Machine

/-- Where no register is listed every register reads its Reset value. -/
theorem atReset_of_no_regs {s : State} (h : s.regs = []) (p : Reg → Nat → Bool) : AtReset s p :=
  fun r i _ => by rw [State.word, h, Sparse.get_nil]

/-- Settles O54: the state after reset is a literal, and lists no register. -/
theorem resetState : Obligations.ResetState := by
  have hword : State.reset.word .PWR_VLOOP_LIMITS 0 = 0x03840258#32 := by decide +kernel
  exact ⟨rfl, .inl rfl, rfl, rfl, by decide +kernel, atReset_of_no_regs rfl _, rfl, rfl, rfl, rfl, rfl, rfl, rfl, hword⟩

end Sys2Proof.Machine
end

section
/-! PROOF. A write of a CSR offset where nothing is present is reported, and a read of it reads 0 (R21, R28). -/

namespace Sys2Proof.Machine

-- ------------------------------------------------------------------ what lies at an absent offset

theorem State.absentOffset_iff (s : State) (off : Nat) : s.absentOffset off = true ↔ inStream off = false ∧
    ((∃ n k, tcmAt off = some (n, k) ∧ Part.cores s.part ≤ n) ∨
      tcmAt off = none ∧ msixTableWord off = none ∧ msixPbaWord off = none ∧ ∀ r i, regAt off = some (r, i) → s.present r i = false) := by
  unfold State.absentOffset
  cases htcm : tcmAt off with
  | some x =>
    obtain ⟨n, k⟩ := x
    simp
  | none =>
    cases hreg : regAt off with
    | none => simp
    | some x =>
      obtain ⟨r, i⟩ := x
      simp [and_assoc]

/-- Nothing is read at an absent offset, and the read changes nothing. -/
theorem State.csrRead_absent {s : State} {off : Nat} (h : s.absentOffset off = true) (dbg : Bool) : s.csrRead off dbg = (0, s) := by
  obtain ⟨hstream, ⟨n, k, htcm, hn⟩ | ⟨htcm, hmsix, hpba, hreg⟩⟩ := (s.absentOffset_iff off).1 h
  · simp [State.csrRead, hstream, htcm, Nat.not_lt.2 hn]
  · cases hr : regAt off with
    | none => simp [State.csrRead, hstream, htcm, hmsix, hpba, hr]
    | some x => simp [State.csrRead, hstream, htcm, hmsix, hpba, hr, hreg x.1 x.2 hr]

/-- A write of an absent offset is reported. -/
theorem State.csrWrite_absent {s : State} {off : Nat} (h : s.absentOffset off = true) (data : Word) (who : Who) :
    s.csrWrite off data who = s.absentWrite off who := by
  obtain ⟨hstream, ⟨n, k, htcm, hn⟩ | ⟨htcm, hmsix, hpba, hreg⟩⟩ := (s.absentOffset_iff off).1 h
  · simp [State.csrWrite, hstream, htcm, Nat.not_lt.2 hn]
  · cases hr : regAt off with
    | none => simp [State.csrWrite, hstream, htcm, hmsix, hpba, hr]
    | some x => simp [State.csrWrite, hstream, htcm, hmsix, hpba, hr, hreg x.1 x.2 hr]

/-- The register that an offset is looked up for is the one found. -/
theorem reg_of_instAt {off : Nat} {q r : Reg} {i : Nat} (h : instAt off q = some (r, i)) : r = q := by
  unfold instAt at h
  dsimp only at h
  split at h
  · split at h
    · obtain ⟨k, -, hk⟩ := Option.map_eq_some_iff.1 h
      exact (Prod.mk.inj hk).1.symm
    · cases h
  · split at h
    · obtain ⟨k, -, hk⟩ := Option.map_eq_some_iff.1 h
      exact (Prod.mk.inj hk).1.symm
    · cases h
  · split at h
    · split at h <;> cases h
      rfl
    · cases h
  · split at h <;> cases h
    rfl

/-- The register at an offset is one of the block in which the offset lies. -/
theorem mem_blockRegs_of_regAt {off : Nat} {r : Reg} {i : Nat} (h : regAt off = some (r, i)) : r ∈ blockRegs off := by
  obtain ⟨q, hq, hat⟩ := List.exists_of_findSome?_eq_some h
  rwa [reg_of_instAt hat]

/-- Where the cores' memories lie there is no register of block DBG. -/
theorem regGroup_of_tcmAt {off : Nat} {x : Nat × Nat} (ht : tcmAt off = some x) {r : Reg} {i : Nat} (h : regAt off = some (r, i)) :
    regGroup r ≠ 9 := by
  have hoff : 0x840000 ≤ off ∧ off < 0x8C0000 := by
    by_contra hn
    rw [tcmAt, if_neg hn] at ht
    cases ht
  have hblock : blockRegs off = seqRegs := by
    simp only [blockRegs]
    repeat rw [if_neg (by omega)]
    rw [if_pos (by omega)]
  have hr : r ∈ seqRegs := hblock ▸ mem_blockRegs_of_regAt h
  have hall : seqRegs.all (fun r => regGroup r != 9) = true := by decide +kernel
  simpa using List.all_eq_true.1 hall r hr

/-- The memory port and the stimulus ports of block DBG are there in every part. -/
theorem State.present_memData (s : State) (i : Nat) : s.present .DBG_MEM_DATA i = true := rfl
theorem State.present_stim (s : State) (i : Nat) : s.present .DBG_STIM i = true := rfl

/-- An access of an absent offset is a plain one: no access of block DBG that ends later. -/
theorem State.csrAccess_absent {s : State} {off : Nat} (h : s.absentOffset off = true) (data : Option Word) (dbg : Bool)
    (who : Who) (back : MemBack) : s.csrAccess off data dbg who back =
      (some 0, match data with
        | some _ => s.absentWrite off who
        | none => s) := by
  have habsent (r : Reg) (i : Nat) (hr : regAt off = some (r, i)) (hg : regGroup r = 9) : s.present r i = false := by
    obtain ⟨-, ⟨n, k, htcm, -⟩ | ⟨-, -, -, hreg⟩⟩ := (s.absentOffset_iff off).1 h
    · exact absurd hg (regGroup_of_tcmAt htcm hr)
    · exact hreg r i hr
  unfold State.csrAccess
  rw [State.csrRead_absent h]
  simp only [State.csrWrite_absent h]
  split
  · rename_i i hr
    exact absurd (habsent _ _ hr rfl) (by simp [State.present_memData])
  · rename_i n hr
    rw [habsent _ _ hr rfl]
    cases data <;> rfl
  · rename_i p hr
    exact absurd (habsent _ _ hr rfl) (by simp [State.present_stim])
  · cases data <;> rfl

-- ------------------------------------------------------------------ what a report leaves

/-- The registers of a report. -/
def absentRegs : Regs := [(.DEV_ABSENT_LOG, 0), (.DEV_ABSENT_ORIGIN, 0), (.DEV_STATUS, 0)]

/-- A report up to the status bit. -/
def State.absentLogged (s : State) (off : Nat) (who : Who) : State :=
  ((s.setF F.DEV_ABSENT_LOG_OFFSET 0 off).setF F.DEV_ABSENT_ORIGIN_ORIGIN 0 who.origin.toNat).bump
    F.DEV_ABSENT_ORIGIN_ABSENT_COUNT 0 1

theorem State.absentWrite_eq (s : State) (off : Nat) (who : Who) :
    s.absentWrite off who = (s.absentLogged off who).raise F.DEV_STATUS_ABSENT_WRITE 0 := rfl

theorem Kept.absentLogged (s : State) (off : Nat) (who : Who) :
    Kept s (s.absentLogged off who) [(.DEV_ABSENT_LOG, 0), (.DEV_ABSENT_ORIGIN, 0)] [] :=
  ((Kept.start s _ _).via (Kept.setF s F.DEV_ABSENT_LOG_OFFSET 0 _) (by simp) (by simp)).via
    (Kept.setF _ F.DEV_ABSENT_ORIGIN_ORIGIN 0 _) (by simp) (by simp) |>.via
      (Kept.bump _ F.DEV_ABSENT_ORIGIN_ABSENT_COUNT 0 1) (by simp) (by simp)

theorem Kept.absentWrite (s : State) (off : Nat) (who : Who) : Kept s (s.absentWrite off who) absentRegs [] :=
  (Kept.absentLogged s off who).trans (Kept.raise _ F.DEV_STATUS_ABSENT_WRITE 0)

section
variable {s : State} {v : Word}

theorem State.word_setStatus {r : Reg} (h : r ≠ .DEV_STATUS) (i : Nat) : (s.setWord .DEV_STATUS 0 v).word r i = s.word r i := by
  rw [State.word_setWord, if_neg fun e => h e.1]

theorem State.niTakes_setStatus : (s.setWord .DEV_STATUS 0 v).niTakes = s.niTakes := by
  funext n
  simp only [State.niTakes, State.funcState, State.fence, State.station, State.f, funcRegs]
  rw [State.word_setStatus (by decide), State.word_setStatus (by decide), State.word_setStatus (by decide)]
  rfl

theorem State.station_setStatus : (s.setWord .DEV_STATUS 0 v).station = s.station := by
  funext n
  simp only [State.station, State.f]
  rw [State.word_setStatus (by decide)]

theorem State.fence_setStatus : (s.setWord .DEV_STATUS 0 v).fence = s.fence := by
  funext n
  simp only [State.fence, State.f]
  rw [State.word_setStatus (by decide)]

theorem State.channelMoves_setStatus : (s.setWord .DEV_STATUS 0 v).channelMoves = s.channelMoves := by
  have hhead (n c : Nat) : ((s.setWord .DEV_STATUS 0 v).channelHead n c).isSome = (s.channelHead n c).isSome := by
    unfold State.channelHead
    split <;> simp [Option.isSome_map] <;> rfl
  funext n c
  simp only [State.channelMoves, hhead]
  rfl

theorem State.csfMoves_setStatus : (s.setWord .DEV_STATUS 0 v).csfMoves = s.csfMoves := by
  have hup (n : Nat) : (s.setWord .DEV_STATUS 0 v).readsUp n = s.readsUp n := by
    simp only [State.readsUp, State.niTakes_setStatus]
    rfl
  funext n
  simp only [State.csfMoves, State.nextCrossing, State.mayCross, State.station_setStatus, State.fence_setStatus, hup]
  rfl

variable (hu : (s.setWord .DEV_STATUS 0 v).f F.DEV_STATUS_USER_MODE 0 = s.f F.DEV_STATUS_USER_MODE 0)
include hu

theorem State.gated_setStatus : (s.setWord .DEV_STATUS 0 v).gated = s.gated := by
  have hclosed : (s.setWord .DEV_STATUS 0 v).spanClosed = s.spanClosed := by
    funext n
    simp only [State.spanClosed, State.spanState, State.f]
    rw [State.word_setStatus (by decide)]
    rfl
  funext rod
  simp only [State.gated, State.on, hu, hclosed]
  rw [State.word_setStatus (r := .PWR_REGION_STATUS) (by decide)]
  rfl

theorem State.edgesDue_setStatus : (s.setWord .DEV_STATUS 0 v).edgesDue = s.edgesDue := by
  have hmoves : (s.setWord .DEV_STATUS 0 v).edgeMoves = s.edgeMoves := by
    funext n
    simp only [State.edgeMoves, State.iqTakes, State.edgePasses, State.niTakes_setStatus, State.station_setStatus,
      State.channelMoves_setStatus, State.gated_setStatus hu]
    rfl
  simp only [State.edgesDue, State.busyEdges, hmoves]
  rfl

/-- A write of DEV.STATUS that leaves USER_MODE lets nothing go on that waits. -/
theorem State.calm_setStatus : (s.setWord .DEV_STATUS 0 v).calm = s.calm := by
  have hcsf : (s.setWord .DEV_STATUS 0 v).csfDue = s.csfDue := by
    simp only [State.csfDue, State.csfMoves_setStatus]
    rfl
  have hwaits : (s.setWord .DEV_STATUS 0 v).repairWaits = s.repairWaits := by
    simp only [State.repairWaits, State.boundary, State.phase, State.f]
    rw [State.word_setStatus (by decide)]
    rfl
  simp only [State.calm, State.edgesDue_setStatus hu, hcsf, hwaits]
  rfl
end

theorem State.calm_absentWrite (s : State) (off : Nat) (who : Who) : (s.absentWrite off who).calm = s.calm := by
  rw [State.absentWrite_eq, State.raise, State.setF, State.calm_setStatus]
  · exact (Kept.absentLogged s off who).calm (by simp) (by simp [calmRegs])
  · exact State.f_setF_other _ F.DEV_STATUS_ABSENT_WRITE F.DEV_STATUS_USER_MODE 0 0 1 (by decide) (by decide)

/-- What a report shows of the write (R28). -/
theorem State.absentWrite_shows (s : State) {off : Nat} (who : Who) (h : off < 2 ^ 28) :
    (s.absentWrite off who).f F.DEV_ABSENT_LOG_OFFSET 0 = off ∧
    (s.absentWrite off who).f F.DEV_ABSENT_ORIGIN_ORIGIN 0 = who.origin.toNat ∧
    (s.absentWrite off who).f F.DEV_ABSENT_ORIGIN_ABSENT_COUNT 0 = min 0xFFFF (s.f F.DEV_ABSENT_ORIGIN_ABSENT_COUNT 0 + 1) ∧
    (s.absentWrite off who).f F.DEV_STATUS_ABSENT_WRITE 0 = 1 := by
  have hraise (G : Fld) (h : G.reg ≠ .DEV_STATUS) : (s.absentWrite off who).f G 0 = (s.absentLogged off who).f G 0 :=
    State.f_setF_other _ F.DEV_STATUS_ABSENT_WRITE G 0 0 1 (by decide) (.inl h)
  refine ⟨?_, ?_, ?_, State.f_setF_same _ F.DEV_STATUS_ABSENT_WRITE 0 1 (by decide)⟩
  · rw [hraise _ (by decide), State.absentLogged, State.bump, State.f_setF_other _ _ _ _ _ _ (by decide) (by decide),
      State.f_setF_other _ _ _ _ _ _ (by decide) (by decide), State.f_setF_same _ _ _ _ (by decide)]
    exact Nat.mod_eq_of_lt h
  · rw [hraise _ (by decide), State.absentLogged, State.bump, State.f_setF_other _ _ _ _ _ _ (by decide) (by decide),
      State.f_setF_same _ _ _ _ (by decide)]
    exact Nat.mod_eq_of_lt who.origin.isLt
  · rw [hraise _ (by decide), State.absentLogged, State.bump, State.f_setF_same _ _ _ _ (by decide),
      State.f_setF_other _ _ _ _ _ _ (by decide) (by decide), State.f_setF_other _ _ _ _ _ _ (by decide) (by decide)]
    exact Nat.mod_eq_of_lt (Nat.lt_of_le_of_lt (Nat.min_le_left _ _) (by decide))

/-- The status bit is an event of group 0 (R34). -/
theorem State.holdsEvent_of_absentWrite {t : State} (h : t.f F.DEV_STATUS_ABSENT_WRITE 0 = 1) :
    t.holdsEvent .DEV_STATUS 0 = true := by
  have hbit : (t.word .DEV_STATUS 0).toNat.testBit 4 = true := by
    have h0 := fieldOf_testBit (t.word .DEV_STATUS 0) 4 1 0
    rw [show fieldOf (t.word .DEV_STATUS 0) 4 1 = 1 from h] at h0
    simpa using h0.symm
  refine decide_eq_true fun h0 => ?_
  have h4 := congrArg (Nat.testBit · 4) h0
  rw [Nat.testBit_and, hbit] at h4
  exact absurd h4 (by decide)

/-- A write of an absent offset brings a report and nothing else. -/
theorem Runs.absentWrite {s : State} {who : Who} {off : Nat} {data : Word} (hs : s.ready = true)
    (ha : s.absentOffset off = true) (hb : s.csrBlocked off = none) (ho : off < 2 ^ 28) :
    Runs (.registerWrite who off data) s fun t =>
      t.f F.DEV_ABSENT_LOG_OFFSET 0 = off ∧ t.f F.DEV_ABSENT_ORIGIN_ORIGIN 0 = who.origin.toNat ∧
      t.f F.DEV_ABSENT_ORIGIN_ABSENT_COUNT 0 = min 0xFFFF (s.f F.DEV_ABSENT_ORIGIN_ABSENT_COUNT 0 + 1) ∧
      t.f F.DEV_STATUS_ABSENT_WRITE 0 = 1 ∧ Kept s t absentRegs [] := by
  have hf : s.registerWrite off data who = s.absentWrite off who := by
    simp [State.registerWrite, hb, State.csrAccess_absent ha]
  refine Runs.of_calm (f := fun s => s.registerWrite off data who) rfl hs (hf ▸ Kept.absentWrite s off who)
    (fun hc => by rw [hf, State.calm_absentWrite, hc]) fun t hw _ hk => ?_
  rw [hf] at hw
  obtain ⟨h1, h2, h3, h4⟩ := s.absentWrite_shows who ho
  have hfld (G : Fld) (h : isPend G.reg = false) : t.f G 0 = (s.absentWrite off who).f G 0 := by rw [State.f, hw _ _ h, State.f]
  exact ⟨(hfld _ rfl).trans h1, (hfld _ rfl).trans h2, (hfld _ rfl).trans h3, (hfld _ rfl).trans h4, hk⟩

-- ------------------------------------------------------------------ a read by JTAG

/-- An update of the debug port that leaves what waits there lets nothing go on. -/
theorem State.calm_setDebug (s : State) (d : DebugState) (h : d.resume = s.dbg.resume) : (s.setDebug d).calm = s.calm := by
  have hw : ∀ r ∈ calmRegs, ∀ i, (s.setDebug d).word r i = s.word r i := fun _ _ _ => rfl
  have hr : (s.setDebug d).dbg.resume = s.dbg.resume := h
  simp only [State.calm, State.resetIsDue_congr (s := s) (t := s.setDebug d) rfl rfl,
    State.edgesDue_congr (s := s) (t := s.setDebug d) rfl rfl rfl rfl hw,
    State.csfDue_congr (s := s) (t := s.setDebug d) rfl rfl hw, State.markersDue_congr (s := s) (t := s.setDebug d) rfl,
    State.repairWaits_congr (s := s) (t := s.setDebug d) rfl rfl hw, hr]
  rfl

/-- The debug port once it has read 0. -/
def DebugState.readZero (d : DebugState) : DebugState :=
  { d with accessRunning := false, accessDone := true, accessError := false, accessErr := 0, accessData := 0 }

/-- A read of an absent offset by JTAG, where nothing holds it up, gives 0. -/
theorem State.jtagAccess_absent {s : State} {off : Nat} (hs : s.jtagFree = true) (ha : s.absentOffset off = true)
    (hb : s.csrBlocked off = none) (attr : Bool) (data : Word) :
    s.jtagAccess true off attr data = s.setDebug s.dbg.readZero := by
  simp only [State.jtagFree, Bool.and_eq_true, Bool.not_eq_true', bne_iff_ne] at hs
  obtain ⟨⟨⟨-, hlock⟩, hheld⟩, hstate⟩ := hs
  have hany (d : DebugState) : (s.setDebug d).absentOffset off = true := ha
  rw [State.jtagAccess, if_neg (by simp [hlock]), if_neg (by simp [hheld, hstate]), hb]
  simp only [if_true, State.csrAccess_absent (hany _)]
  rfl

/-- The update word of a read is taken apart into its offset and the read. -/
theorem State.dbgAccess_absent {s : State} {off : Nat} (hs : s.jtagFree = true) (ha : s.absentOffset off = true)
    (hb : s.csrBlocked off = none) (ho : off < 2 ^ 28) :
    s.dbgAccess (BitVec.ofNat 64 (2 ^ 61 + 2 ^ 32 * off)) = s.setDebug s.dbg.readZero := by
  have hfree := hs
  simp only [State.jtagFree, Bool.and_eq_true, Bool.not_eq_true', beq_iff_eq] at hfree
  obtain ⟨⟨⟨⟨⟨-, hir⟩, hrun⟩, -⟩, -⟩, -⟩ := hfree
  have hv : (BitVec.ofNat 64 (2 ^ 61 + 2 ^ 32 * off)).toNat = 2 ^ 61 + 2 ^ 32 * off := by
    rw [BitVec.toNat_ofNat, Nat.mod_eq_of_lt (by omega)]
  have hop : (2 ^ 61 + 2 ^ 32 * off) / 2 ^ 61 % 4 = 1 := by omega
  have hoff : (2 ^ 61 + 2 ^ 32 * off) / 2 ^ 32 % 2 ^ 28 = off := by omega
  simp only [State.dbgAccess, hv, hop, hoff]
  rw [if_neg (by simp [hir]), if_neg (by simp [hrun]), if_neg (by decide), if_neg (by decide)]
  exact State.jtagAccess_absent hs ha hb _ _

/-- A read of an absent offset by JTAG shows its 0, and has no other effect. -/
theorem Runs.dbgAccess_absent {s : State} {off : Nat} (hs : s.jtagFree = true) (ha : s.absentOffset off = true)
    (hb : s.csrBlocked off = none) (ho : off < 2 ^ 28) :
    Runs (.dbgAccess (BitVec.ofNat 64 (2 ^ 61 + 2 ^ 32 * off))) s fun t =>
      t.dbg.accessData = 0 ∧ t.dbg.accessDone = true ∧ Kept s t [] [.dbg] := by
  have hf := State.dbgAccess_absent hs ha hb ho
  have hready : s.ready = true := by
    simp only [State.jtagFree, Bool.and_eq_true] at hs
    exact hs.1.1.1.1.1
  refine Runs.of_calm (f := fun s => s.dbgAccess _) rfl hready (hf ▸ Kept.setDebug s _)
    (fun hc => by rw [hf, State.calm_setDebug s s.dbg.readZero rfl, hc]) fun t _ hk h => ?_
  have hd : t.dbg = s.dbg.readZero := by
    have := hk.areas .dbg List.not_mem_nil
    rwa [hf] at this
  exact ⟨by rw [hd]; rfl, by rw [hd]; rfl, h⟩

/-- Settles O58: a write's report and a read's 0 are all that the commands do; the status bit of the report makes group 0
pending, which the end of the command shows. -/
theorem absentWrites : Obligations.AbsentWrites := by
  refine ⟨fun s who off data hs ha hb ho => ?_, fun s off hs ha hb ho => Runs.dbgAccess_absent hs ha hb ho⟩
  obtain ⟨t, ht, hlog, horigin, hcount, hbit, hk⟩ := Runs.absentWrite (data := data) (who := who) hs ha hb ho
  have hpt : t.dev.porst = false := (hk.areas .dev List.not_mem_nil).1.trans ((s.ready_iff).1 hs).1
  have hpend : t.dev.evtPend.getLsbD 0 = true := by
    rw [((exec_eventsOut ht).resolve_left (by simp [hpt])).shown]
    exact State.groups_of_holdsEvent (State.holdsEvent_of_absentWrite hbit)
  exact ⟨t, ht, hlog, horigin, hcount, hbit, hpend, hk⟩

end Sys2Proof.Machine
end

section
/-! PROOF. What the load of a span leaves as it is does not hold of every ready state: a host DMA channel may have a descriptor to
fetch (R364). -/

namespace Sys2Proof.Machine

/-- A one-rod span, which runs. -/
def oneRodSpan : SpanDecl := { id := 0, rods := 1, nis := 0, pins := 0, bounds := [] }

/-- The span is to be loaded from the host window, while host DMA channel 0 runs with one descriptor posted and not yet fetched. -/
def descriptorPosted : State :=
  (((((((poweredUp.putCfg { poweredUp.cfg with spans := [oneRodSpan] }).setF F.PWR_REGION_STATUS_ON 0 1).setSpan 0 1).setF
    F.CFG_LOAD_CTRL_SRC 0 2).setF F.HOST_DMA_CTRL_EN 0 1).setF F.HOST_LINK_STATUS_BME 0 1).setF F.HOST_LINK_STATUS_DL_UP 0 1).setF
    F.HOST_CH_STATUS_STATE 0 1 |>.setF F.HOST_CH_TAIL_INDEX 0 1

/-- How many reads of host memory are under way after a command. -/
def hostReads : Host.Outcome State Fault Refusal → Nat
  | .next t => t.host.reads.length
  | _ => 0

/-- The work of the load lets the channel's descriptor fetch go out. -/
theorem hostReads_spanLoad : hostReads (exec (.spanLoad jtagWho 0) descriptorPosted) ≠ descriptorPosted.host.reads.length := by
  decide +kernel

/-- Refutes O17: the load of a span is work, and the work that goes on with it fetches the descriptor that waited, so the state of
the host interface is not left as it was. -/
theorem not_spanRequests : ¬ Obligations.SpanRequests := by
  unfold Obligations.SpanRequests
  rintro ⟨hload, -⟩
  obtain ⟨t, ht, -, -, -, hk⟩ := hload descriptorPosted jtagWho 0 oneRodSpan (by decide +kernel) (by decide +kernel) (by decide)
    (by decide +kernel) (.inl (by decide +kernel)) (by decide +kernel)
  have hhost : t.host = descriptorPosted.host := hk.areas .host (by decide)
  exact hostReads_spanLoad (by rw [ht, hostReads, hhost])

end Sys2Proof.Machine
end

section
/-! PROOF. A SYS_RESET does not leave every part without a load: where no rod is left to test, self-test ends at once and the boot
load begins (R147, R178). -/

namespace Sys2Proof.Machine

/-- Every rod is on the retirement list. -/
def allRetired : State := poweredUp.putRepair { poweredUp.repair with retired := List.range 136 }

/-- Such a part of grade M, whose ledger has been scanned and which boots from the golden image. -/
def noRods : State :=
  { (allRetired.putLedger { allRetired.ledger with ready := true }).putDev { allRetired.dev with bootSrc := 1 } with part := ⟨.M, 0⟩ }

/-- A load is under way after a command. -/
def loadRuns : Host.Outcome State Fault Refusal → Bool
  | .next t => t.cfg.load.isSome
  | _ => false

/-- The part restarts, has nothing to test, and boots. -/
theorem loadRuns_sysReset : loadRuns (exec (.sysReset jtagWho) noRods) = true := by decide +kernel

/-- Refutes O6: the boot load that follows a self-test of no rods is under way when a SYS_RESET is over. -/
theorem not_resets : ¬ Obligations.Resets := by
  unfold Obligations.Resets
  rintro ⟨-, -, hreset, -⟩
  obtain ⟨t, ht, h, -⟩ := hreset noRods jtagWho (by decide +kernel) (by decide +kernel) (by decide +kernel)
  have hruns := loadRuns_sysReset
  rw [ht, loadRuns, h.load] at hruns
  cases hruns

end Sys2Proof.Machine
end

section
/-! PROOF. When work that waits cannot go on, and updates of the fabric, the scrub order and the wear counts that let none go on. -/

namespace Sys2Proof.Machine

/-- From s to t nothing changed on which it depends whether work that waits can go on, but that outputs may be less clear. -/
structure SameWork (s t : State) : Prop where
  part : t.part = s.part
  words : ∀ r ∈ calmRegs, ∀ i, t.word r i = s.word r i
  due : t.dev.due = s.dev.due
  net : t.net = s.net
  resume : t.dbg.resume = s.dbg.resume
  host : t.host = s.host
  load : t.cfg.load = s.cfg.load
  transfer : t.cfg.transfer = s.cfg.transfer
  queued : t.cfg.queued = s.cfg.queued
  frames : t.cfg.frames = s.cfg.frames
  spans : t.cfg.spans = s.cfg.spans
  settling : t.cfg.spanSettling = s.cfg.spanSettling
  released : t.cfg.spanReleased = s.cfg.spanReleased
  releases : t.cfg.releases = s.cfg.releases
  resetIsDue : t.resetIsDue = s.resetIsDue
  repairWaits : t.repairWaits = s.repairWaits
  brownout : t.fabric.brownout = s.fabric.brownout
  spent : t.fabric.spent = s.fabric.spent
  clear : ∀ x, t.clear x = true → s.clear x = true

namespace SameWork

variable {s t : State} (h : SameWork s t)
include h

theorem gated : t.gated = s.gated := by
  funext rod
  have hspan : t.spanState = s.spanState := funext fun i => by
    simp only [State.spanState, State.f]
    rw [h.words .CFG_SPAN_STATUS (by decide)]
  simp only [State.gated, State.on, State.f, State.reaches, State.spanOf, State.spanClosed, hspan, h.spans, h.settling, h.released,
    h.releases, h.brownout]
  rw [h.words .DEV_STATUS (by decide), h.words .PWR_REGION_STATUS (by decide)]

theorem station : t.station = s.station := funext fun i => by
  simp only [State.station, State.f]
  rw [h.words .DEV_XS_STATE (by decide)]

theorem channelMoves : t.channelMoves = s.channelMoves := by
  have hni : t.ni = s.ni := funext fun n => by simp only [State.ni, h.net]
  have hframe : t.frame = s.frame := funext fun rod => funext fun i => by simp only [State.frame, h.frames]
  have hcodes : t.rodCodes = s.rodCodes := funext fun rod => by
    simp only [State.rodCodes, State.tileCode, State.tileBits, State.rodBits, hframe]
  have hhead (n c : Nat) : (t.channelHead n c).isSome = (s.channelHead n c).isSome := by
    unfold State.channelHead
    rw [hni]
    split <;> simp [Option.isSome_map]
  funext n c
  simp only [State.channelMoves, State.channelRouted, hni, hcodes, hhead]

theorem busyEdges : t.busyEdges = s.busyEdges := by
  have hni : t.ni = s.ni := funext fun n => by simp only [State.ni, h.net]
  have hmoves : t.edgeMoves = s.edgeMoves := funext fun n => by
    simp only [State.edgeMoves, State.iqTakes, State.edgePasses, State.niTakes_congr h.part h.words n, h.station, h.gated, hni,
      h.channelMoves]
  simp only [State.busyEdges, hmoves, h.net]

/-- No edge station can move that could not. -/
theorem edgesDue (hs : s.edgesDue = false) : t.edgesDue = false := by
  simp only [State.edgesDue, Bool.or_eq_false_iff, List.any_eq_false, h.spent, h.busyEdges] at hs ⊢
  exact ⟨fun x hx hc => hs.1 x hx (h.clear x hc), hs.2⟩

/-- A state stays calm. -/
theorem calm (hs : s.calm = true) : t.calm = true := by
  rw [State.calm_iff] at hs ⊢
  obtain ⟨hdue, hended, hresume, hpieces, hdma, hload, htransfer, hqueued, hreset, hedges, hcsf, hmarkers, hrepair⟩ := hs
  exact ⟨h.due.trans hdue, by rw [h.net, hended], h.resume.trans hresume, by rw [h.host, hpieces], by rw [h.host, hdma],
    h.load.trans hload, h.transfer.trans htransfer, h.queued.trans hqueued, h.resetIsDue.trans hreset, h.edgesDue hedges,
    (State.csfDue_congr h.part h.net h.words).trans hcsf, (State.markersDue_congr h.net).trans hmarkers,
    h.repairWaits.trans hrepair⟩

end SameWork

/-- An update of the fabric that brings no brownout and ends no handshake lets nothing go on. -/
theorem SameWork.putFabric (s : State) (v : FabricState) (hb : v.brownout = s.fabric.brownout) (hs : v.spent = s.fabric.spent)
    (hc : ∀ x, (s.putFabric v).clear x = true → s.clear x = true) : SameWork s (s.putFabric v) :=
  ⟨rfl, fun _ _ _ => rfl, rfl, rfl, rfl, rfl, rfl, rfl, rfl, rfl, rfl, rfl, rfl, rfl, rfl, rfl, hb, hs, hc⟩

/-- The order in which the scrubber goes ahead with a contention's rods lets nothing go on. -/
theorem SameWork.scrubFirst (s : State) (l : List (Nat × Nat)) : SameWork s (s.putCfg { s.cfg with scrubFirst := l }) :=
  ⟨rfl, fun _ _ _ => rfl, rfl, rfl, rfl, rfl, rfl, rfl, rfl, rfl, rfl, rfl, rfl, rfl, rfl, rfl, rfl, rfl, fun _ h => h⟩

/-- What is counted against rods lets nothing go on. -/
theorem SameWork.counted (s : State) (l : Cells (List DWord)) : SameWork s (s.putRepair { s.repair with counted := l }) :=
  ⟨rfl, fun _ _ _ => rfl, rfl, rfl, rfl, rfl, rfl, rfl, rfl, rfl, rfl, rfl, rfl, rfl, rfl, rfl, rfl, rfl, fun _ h => h⟩

theorem SameWork.contentions (s : State) (l : List Contention) : SameWork s (s.putFabric { s.fabric with contentions := l }) :=
  SameWork.putFabric s _ rfl rfl fun _ h => h

theorem SameWork.monitors (s : State) (l : Cells Monitor) : SameWork s (s.putFabric { s.fabric with monitors := l }) :=
  SameWork.putFabric s _ rfl rfl fun _ h => h

/-- A sink that takes a bead ends no handshake. -/
theorem SameWork.takeFrom (s : State) (b : BeadSink) (xs : List BeadSource) : SameWork s (s.takeFrom b xs) := by
  unfold State.takeFrom
  split
  · exact SameWork.putFabric s s.fabric rfl rfl fun _ h => h
  · refine SameWork.putFabric s _ rfl rfl fun x hx => ?_
    simp only [State.clear, State.putFabric_fabric, List.any_append, Bool.not_or, Bool.and_eq_true] at hx
    exact hx.1

theorem SameWork.unlatch (s : State) (b : BeadSink) : SameWork s (s.unlatch b) := SameWork.putFabric s _ rfl rfl fun _ h => h

end Sys2Proof.Machine
end

section
/-! PROOF. A write of a register of plain fields, and the write of VLOOP_LIMITS (R5, R69). -/

namespace Sys2Proof.Machine

-- ------------------------------------------------------------------ a write by access types

/-- A register reads the word stored in it, whether the ledger records the change or not. -/
theorem State.word_storeWord (s : State) (who : Who) (r q : Reg) (i j : Nat) (v sets : Word) :
    (s.storeWord who r i v sets).word q j = if q = r ∧ j = i then v else s.word q j := by
  unfold State.storeWord
  dsimp only
  split
  · rw [State.journalChange_word, State.word_setWord]
  · rw [State.word_setWord]

theorem Kept.storeWord (s : State) (who : Who) (r : Reg) (i : Nat) (v sets : Word) :
    Kept s (s.storeWord who r i v sets) [(r, i)] [.ledger] := by
  have hset := (Kept.start s [(r, i)] [.ledger]).via (Kept.setWord s r i v) (by simp) (by simp)
  unfold State.storeWord
  dsimp only
  split
  · exact hset.via (Kept.journalChange ..) (by simp) (by simp)
  · exact hset

/-- Every field of a register is of type RW (R5). -/
def plainFields (r : Reg) : Bool := (regSpec r).fields.all (·.acc == .rw)

/-- A register's fields as a write of data gives them. -/
def fieldsOf (r : Reg) (data : Word) : List (Fld × Nat) :=
  (regSpec r).fields.map fun f => (⟨r, f.lo, f.width⟩, fieldOf data f.lo f.width)

theorem changesKind_of_plain {r : Reg} (h : plainFields r = true) {a : Access} (ha : a ≠ .rw) (old data : Word) :
    changesKind (regSpec r).fields a old data = false := by
  refine List.any_eq_false.2 fun f hf => ?_
  have hacc : f.acc = .rw := by simpa using List.all_eq_true.1 h f hf
  simp [hacc, ha.symm]

/-- A write gives plain fields the data, and leaves the other bits. -/
theorem writeFields_of_plain {r : Reg} (h : plainFields r = true) (old data : Word) :
    writeFields (fun _ => true) (regSpec r).fields old data = changed old (fieldsOf r data) := by
  rw [writeFields, changed, fieldsOf, List.foldl_map]
  refine List.foldl_ext _ _ _ fun w f hf => ?_
  have hacc : f.acc = .rw := by simpa using List.all_eq_true.1 h f hf
  simp [writeField, hacc]

/-- No refusal covers a plain field: the write is taken whole. -/
theorem State.writeTyped_of_plain {r : Reg} (h : plainFields r = true) (s : State) (who : Who) (i : Nat) (data : Word) :
    s.writeTyped who r i data = s.storeWord who r i (changed (s.word r i) (fieldsOf r data)) := by
  simp only [State.writeTyped, changesKind_of_plain h (a := .rwq) (by decide), changesKind_of_plain h (a := .rwl) (by decide),
    Bool.false_and, Bool.not_false, Bool.and_true, Bool.false_eq_true, if_false, writeFields_of_plain h]

-- ------------------------------------------------------------------ VLOOP_LIMITS (R69)

theorem csrOffset_vloopLimits : csrOffset .PWR_VLOOP_LIMITS 0 = 0x70828 := by decide +kernel
theorem regAt_vloopLimits : regAt 0x70828 = some (.PWR_VLOOP_LIMITS, 0) := by decide +kernel
theorem State.present_vloopLimits (s : State) : s.present .PWR_VLOOP_LIMITS 0 = true := rfl
theorem State.writeReg_vloopLimits (s : State) (who : Who) (data : Word) :
    s.writeReg who .PWR_VLOOP_LIMITS 0 data = s.writeVloopLimits who data := rfl

/-- The writer's access to a plain register is a write of its offset. -/
theorem State.csrAccess_vloopLimits (s : State) (data : Word) (who : Who) :
    s.csrAccess 0x70828 (some data) false who .none = (some 0, s.csrWrite 0x70828 data who) := by
  unfold State.csrAccess
  rw [regAt_vloopLimits]

theorem State.csrWrite_vloopLimits (s : State) (data : Word) (who : Who) :
    s.csrWrite 0x70828 data who = s.writeVloopLimits who data := by
  have hheld : s.guardHeld .PWR_VLOOP_LIMITS 0 data = false := by
    simp [State.guardHeld, changesKind_of_plain (r := .PWR_VLOOP_LIMITS) rfl (a := .rwl) (by decide)]
  have hgroup : regGroup .PWR_VLOOP_LIMITS ≠ 9 := by decide
  simp [State.csrWrite, inStream, tcmAt, msixTableWord, msixPbaWord, regAt_vloopLimits, State.present_vloopLimits,
    State.writeCsr, hheld, hgroup, State.writeReg_vloopLimits]

/-- A write of the register by its offset, where its owner is reached, is a write of the limits. -/
theorem State.registerWrite_vloopLimits {s : State} (hb : s.csrBlocked (csrOffset .PWR_VLOOP_LIMITS 0) = none) (data : Word)
    (who : Who) : s.registerWrite (csrOffset .PWR_VLOOP_LIMITS 0) data who = s.writeVloopLimits who data := by
  rw [csrOffset_vloopLimits] at hb ⊢
  rw [State.registerWrite, hb, State.csrAccess_vloopLimits, State.csrWrite_vloopLimits]
  rfl

/-- Limits that a write may not set (R69). -/
def badLimits (data : Word) : Prop :=
  data.toNat % 4096 < 600 ∨ 900 < data.toNat / 65536 % 4096 ∨ data.toNat / 65536 % 4096 < data.toNat % 4096

theorem State.writeVloopLimits_of_bad (s : State) (who : Who) {data : Word} (h : badLimits data) : s.writeVloopLimits who data =
    (s.raise F.PWR_VLOOP_STATUS_CFG_REFUSED 0).journalRefusal who .encoding .PWR_VLOOP_LIMITS 0 data.toNat :=
  if_pos (by simpa [fieldOf, badLimits] using h)

theorem State.writeVloopLimits_of_good (s : State) (who : Who) {data : Word} (h : ¬ badLimits data) : s.writeVloopLimits who data =
    s.storeWord who .PWR_VLOOP_LIMITS 0 (changed (s.word .PWR_VLOOP_LIMITS 0) (fieldsOf .PWR_VLOOP_LIMITS data)) :=
  (if_neg (by simpa [fieldOf, badLimits] using h)).trans (State.writeTyped_of_plain rfl s who 0 data)

theorem fieldsOf_vloopLimits (data : Word) : fieldsOf .PWR_VLOOP_LIMITS data =
    [(F.PWR_VLOOP_LIMITS_VMIN, data.toNat % 4096), (F.PWR_VLOOP_LIMITS_VMAX, data.toNat / 65536 % 4096)] := by
  have hfields : fieldsOf .PWR_VLOOP_LIMITS data =
      [(F.PWR_VLOOP_LIMITS_VMIN, fieldOf data 0 12), (F.PWR_VLOOP_LIMITS_VMAX, fieldOf data 16 12)] := rfl
  simp [hfields, fieldOf]

/-- Settles O59: the offset is the register's, and its own write refuses bad limits whole or takes all of its plain fields. -/
theorem voltageLimits : Obligations.VoltageLimits := by
  unfold Obligations.VoltageLimits
  intro s who data hs hb _
  have hwrite := State.registerWrite_vloopLimits hb data who
  split
  · rename_i hbad
    have hf := hwrite.trans (s.writeVloopLimits_of_bad who hbad)
    have hk : Kept s (s.registerWrite (csrOffset .PWR_VLOOP_LIMITS 0) data who) [(.PWR_VLOOP_STATUS, 0)] [.ledger] :=
      hf ▸ (Kept.raise s F.PWR_VLOOP_STATUS_CFG_REFUSED 0).trans (Kept.journalRefusal ..)
    exact Runs.of_command (f := fun s => s.registerWrite _ data who) rfl hs hk (by decide) (by decide) fun t hw hkt h =>
      Refused.of_raise (F := F.PWR_VLOOP_STATUS_CFG_REFUSED) rfl (by decide) (hf ▸ hw) (hf ▸ hkt) h
  · rename_i hgood
    have hf := hwrite.trans (s.writeVloopLimits_of_good who hgood)
    exact Runs.of_command (f := fun s => s.registerWrite _ data who) rfl hs (hf ▸ Kept.storeWord ..) (by decide) (by decide) fun t hw _ h =>
      ⟨by rw [hw _ _ rfl, hf, State.word_storeWord, if_pos ⟨rfl, rfl⟩, fieldsOf_vloopLimits], h⟩

end Sys2Proof.Machine
end

section
/-! PROOF. A cell's bead that a SINK boundary takes is counted in the counter of the boundary's span (R161), whatever the number
of the span: the counters that the statement of O9 lists are those of spans below 64. -/

namespace Sys2Proof.Machine

/-- Span 64 owns rod 1, and lets user logic outside sink beads on east track 0 of rod 0 at tile row 0. -/
def sinkSpan : SpanDecl := { id := 64, rods := 2, nis := 0, pins := 0, bounds := [0x08000100#32] }

/-- In user mode, region 0 on, cell 0 of tile row 0 of rod 0 holds a bead, and configuration memory routes it onto east track 0
alone (R70, R139); the rods of `sinkSpan` are still settling after its isolation (R161). -/
def sinkBoundary : State :=
  let s := (poweredUp.setF F.DEV_STATUS_USER_MODE 0 1).setF F.PWR_REGION_STATUS_ON 0 1
  (s.putCfg { s.cfg with
    spans := [sinkSpan], spanSettling := [64]
    frames := [(frameKey 0 481, BitVec.ofNat 4096 (2 ^ (trackAt 80 - 4096)))] }).setStage ⟨0, 0, 0⟩ ⟨some 1, none⟩

/-- The beads counted at the boundary of span 64 after a command. -/
def sunkBeads : Host.Outcome State Fault Refusal → Nat
  | .next t => (t.word .CFG_SPAN_SINK 64).toNat
  | _ => 0

/-- The bead is taken, and counted. -/
theorem sunkBeads_sinkBoundary : sunkBeads (exec (.beadConsumed (.cell ⟨0, 0, 0⟩)) sinkBoundary) = 1 := by decide +kernel

/-- Refutes O9: a bead of `sinkBoundary` is taken by the boundary of span 64 and counted in that span's counter, which is none
of those the statement lets change. -/
theorem not_fabricClients : ¬ Obligations.FabricClients := by
  unfold Obligations.FabricClients
  rintro ⟨-, -, -, hconsumed, -⟩
  obtain ⟨t, ht, -, -, hk⟩ := hconsumed sinkBoundary ⟨0, 0, 0⟩ (by decide +kernel) rfl (by decide +kernel)
  have hcount : t.word .CFG_SPAN_SINK 64 = sinkBoundary.word .CFG_SPAN_SINK 64 := hk.regs _ _ rfl (by decide)
  have hsunk := sunkBeads_sinkBoundary
  rw [ht, sunkBeads, hcount] at hsunk
  exact absurd hsunk (by decide +kernel)

end Sys2Proof.Machine
end

section
/-! PROOF. Rate monitors, contention and trigger outputs (R64, R78, R79, R88, R184). -/

namespace Sys2Proof.Machine

-- ------------------------------------------------------------------ fields

theorem Kept.f {s t : State} {R : Regs} {A : List Area} (h : Kept s t R A) (G : Fld) (i : Nat) (hp : isPend G.reg = false)
    (hr : (G.reg, i) ∉ R) : t.f G i = s.f G i := by
  rw [State.f, h.regs _ _ hp hr, State.f]

/-- A counter reads what it counted. -/
theorem State.f_bump_same (s : State) (F : Fld) (i n : Nat) (h : F.lo + F.width ≤ 32) :
    (s.bump F i n).f F i = s.counted F i n := by
  have hlt := Nat.two_pow_pos F.width
  rw [State.bump, State.f_setF_same _ _ _ _ h, State.counted, Nat.mod_eq_of_lt (by omega)]

-- ------------------------------------------------------------------ rate monitors (R64)

theorem Part.rods_le (p : Part) : Part.rods p ≤ 256 := by
  obtain ⟨v, n⟩ := p
  cases v <;> exact Nat.le_of_ble_eq_true rfl

/-- The first report of any monitor. -/
def State.firstRate (s : State) (m rate : Nat) : State := s.putFabric { s.fabric with monitors := [(m, ⟨rate, s.time⟩)] }

/-- The extremes of one running monitor are its own rate. -/
theorem State.rateExtremes_firstRate {s : State} {m rate : Nat} (hr : s.monitorRuns m = true) (hm : m < 3 * Part.rods s.part) :
    (s.firstRate m rate).rateExtremes = some ((rate, m), (rate, m)) := by
  have hruns : (s.firstRate m rate).monitorRuns m = true := hr
  have hlogical : logicalMonitor (s.firstRate m rate).part m = true := decide_eq_true hm
  simp only [State.rateExtremes]
  rw [show (s.firstRate m rate).fabric.monitors = [(m, ⟨rate, s.time⟩)] from rfl]
  simp [hruns, hlogical]

/-- RATE_MIN and RATE_MAX as the first report leaves them. -/
def State.rateShown (s : State) (m rate : Nat) : State :=
  (((s.setF F.PWR_RATE_MIN_RATE 0 rate).setF F.PWR_RATE_MIN_INDEX 0 m).setF F.PWR_RATE_MAX_RATE 0 rate).setF F.PWR_RATE_MAX_INDEX 0 m

theorem State.rateWindow_first {s : State} {m rate : Nat} (hr : s.monitorRuns m = true) (hm : m < 3 * Part.rods s.part)
    (hn : s.fabric.monitors = []) (hlt : rate < 65536) : s.rateWindow m rate = (s.firstRate m rate).rateShown m rate := by
  have hput : s.putFabric { s.fabric with monitors := Sparse.insert [] m ⟨min rate 0xFFFF, s.time⟩ } = s.firstRate m rate := by
    rw [Nat.min_eq_left (by omega)]
    rfl
  simp only [State.rateWindow, hr, hn, List.find?_nil, hput, State.rateExtremes_firstRate hr hm]
  rfl

theorem Kept.rateShown (s : State) (m rate : Nat) : Kept s (s.rateShown m rate) [(.PWR_RATE_MIN, 0), (.PWR_RATE_MAX, 0)] [] :=
  ((Kept.start s _ _).via (Kept.setF s F.PWR_RATE_MIN_RATE 0 rate) (by simp) (by simp)).via
    (Kept.setF _ F.PWR_RATE_MIN_INDEX 0 m) (by simp) (by simp) |>.via
      (Kept.setF _ F.PWR_RATE_MAX_RATE 0 rate) (by simp) (by simp) |>.via (Kept.setF _ F.PWR_RATE_MAX_INDEX 0 m) (by simp) (by simp)

theorem State.rateShown_fields (s : State) {m rate : Nat} (hm : m < 1024) (hlt : rate < 65536) :
    (s.rateShown m rate).f F.PWR_RATE_MIN_RATE 0 = rate ∧ (s.rateShown m rate).f F.PWR_RATE_MIN_INDEX 0 = m ∧
    (s.rateShown m rate).f F.PWR_RATE_MAX_RATE 0 = rate ∧ (s.rateShown m rate).f F.PWR_RATE_MAX_INDEX 0 = m := by
  simp (disch := decide) only [State.rateShown, State.f_setF_same, State.f_setF_other]
  omega

theorem Runs.rateWindow {s : State} {m rate : Nat} (hs : s.ready = true) (hr : s.monitorRuns m = true)
    (hm : m < 3 * Part.rods s.part) (hn : s.fabric.monitors = []) (hlt : rate < 65536) :
    Runs (.rateWindow m rate) s fun t =>
      t.f F.PWR_RATE_MIN_RATE 0 = rate ∧ t.f F.PWR_RATE_MIN_INDEX 0 = m ∧ t.f F.PWR_RATE_MAX_RATE 0 = rate ∧
      t.f F.PWR_RATE_MAX_INDEX 0 = m ∧ t.fabric.monitors = [(m, ⟨rate, s.time⟩)] ∧
      Kept s t [(.PWR_RATE_MIN, 0), (.PWR_RATE_MAX, 0)] [.fabric] := by
  have hf := State.rateWindow_first hr hm hn hlt
  have hshown := Kept.rateShown (s.firstRate m rate) m rate
  have hk := (Kept.start s [(.PWR_RATE_MIN, 0), (.PWR_RATE_MAX, 0)] [.fabric]).via (Kept.putFabric s _) (by simp) (by simp) |>.via
    hshown (by simp) (by simp)
  refine Runs.of_calm (f := fun s => s.rateWindow m rate) rfl hs (hf ▸ hk) (fun hc => ?_) fun t _ ht h => ?_
  · rw [hf, hshown.calm (by simp) (by decide)]
    exact (SameWork.monitors s _).calm hc
  · simp only [hf] at ht
    have hrods := Part.rods_le s.part
    obtain ⟨h1, h2, h3, h4⟩ := (s.firstRate m rate).rateShown_fields (m := m) (by omega) hlt
    have hfab : t.fabric = (s.firstRate m rate).fabric := ht.areas .fabric List.not_mem_nil
    exact ⟨(ht.f _ 0 rfl (by simp)).trans h1, (ht.f _ 0 rfl (by simp)).trans h2, (ht.f _ 0 rfl (by simp)).trans h3,
      (ht.f _ 0 rfl (by simp)).trans h4, by rw [hfab]; rfl, h⟩

-- ------------------------------------------------------------------ wear (R184)

/-- An event counted against a rod, with the ticks that WEAR_CFG looks at. -/
def State.countedOnce (s : State) (k : Nat) : State :=
  (s.bump F.REPAIR_MON_COUNT_CORRECTED k 1).putRepair
    { s.repair with counted := Sparse.set [] s.repair.counted k [s.time] }

/-- A first event declares no wear fault where WEAR_CFG asks for more. -/
theorem State.countRod_first {s : State} {rod k : Nat} (hk : s.physOf rod = some k) (hc : Sparse.get [] s.repair.counted k = [])
    (ht : 2 ≤ s.f F.REPAIR_WEAR_CFG_THRESH 0) : s.countRod rod false = s.countedOnce k := by
  have hthresh : (s.bump F.REPAIR_MON_COUNT_CORRECTED k 1).f F.REPAIR_WEAR_CFG_THRESH 0 = s.f F.REPAIR_WEAR_CFG_THRESH 0 :=
    State.f_setF_other _ _ _ _ _ _ (by decide) (.inl (by decide))
  have hmore : ¬ max 1 (s.f F.REPAIR_WEAR_CFG_THRESH 0) ≤ 1 := by omega
  simp [State.countRod, hk, State.countAgainst, hc, hthresh, hmore, State.countedOnce]

theorem Kept.countedOnce (s : State) (k : Nat) : Kept s (s.countedOnce k) [(.REPAIR_MON_COUNT, k)] [.repair] :=
  (Kept.bump s F.REPAIR_MON_COUNT_CORRECTED k 1).trans (Kept.putRepair _ _)

theorem State.calm_countedOnce {s : State} (k : Nat) (h : s.calm = true) : (s.countedOnce k).calm = true := by
  refine (SameWork.counted _ _).calm ?_
  rwa [(Kept.bump s F.REPAIR_MON_COUNT_CORRECTED k 1).calm (by simp) (by simp [calmRegs])]

theorem State.f_countedOnce (s : State) (k : Nat) :
    (s.countedOnce k).f F.REPAIR_MON_COUNT_CORRECTED k = s.counted F.REPAIR_MON_COUNT_CORRECTED k 1 :=
  State.f_bump_same s F.REPAIR_MON_COUNT_CORRECTED k 1 (by decide)

-- ------------------------------------------------------------------ contention (R78)

/-- The registers of a contention (R78). -/
def contRegs : Regs := [(.CFG_CONT_STATUS, 0), (.CFG_CONT_SEG, 0), (.CFG_CONT_DRIVERS, 0)]

/-- A contention's entry in registers that hold none, but for the table's driver. -/
def State.contEntered (s : State) (seg g m : Nat) : State :=
  (((((s.raise F.CFG_CONT_STATUS_CONTENTION 0).bump F.CFG_CONT_STATUS_COUNT 0 1).setF F.CFG_CONT_SEG_SEG_ID 0 seg).raise
    F.CFG_CONT_SEG_VALID 0).setF F.CFG_CONT_DRIVERS_GRANTED 0 g).setF F.CFG_CONT_DRIVERS_MASKED 0 m

/-- The whole entry: the table has a driver or none. -/
def State.contShown (s : State) (seg g m driver none' : Nat) : State :=
  (((s.contEntered seg g m).setF F.CFG_CONT_DRIVERS_TABLE 0 driver).setF F.CFG_CONT_DRIVERS_TABLE_NONE 0 none').raise
    F.CFG_CONT_STATUS_ACTIVE 0

theorem State.logContention_free {s : State} (hv : s.f F.CFG_CONT_SEG_VALID 0 = 0) (seg g m : Nat) :
    ∃ driver none', (s.logContention seg g m).raise F.CFG_CONT_STATUS_ACTIVE 0 = s.contShown seg g m driver none' := by
  have hfree : ((s.raise F.CFG_CONT_STATUS_CONTENTION 0).bump F.CFG_CONT_STATUS_COUNT 0 1).on F.CFG_CONT_SEG_VALID 0 = false := by
    simp (disch := decide) only [State.on, State.bump, State.raise, State.f_setF_other, hv]
    rfl
  simp only [State.logContention, hfree, Bool.false_eq_true, if_false]
  split
  · exact ⟨0, 1, rfl⟩
  · rename_i d _
    exact ⟨d, 0, rfl⟩

theorem Kept.contShown (s : State) (seg g m driver none' : Nat) : Kept s (s.contShown seg g m driver none') contRegs [] := by
  have hset (u : State) (F : Fld) (v : Nat) (h : (F.reg, 0) ∈ contRegs) : Kept u (u.setF F 0 v) contRegs [] :=
    (Kept.setF u F 0 v).weaken (by simpa using h) (by simp)
  have hvia {u v w : State} (h : Kept u v contRegs []) (h' : Kept v w contRegs []) : Kept u w contRegs [] :=
    h.via h' (fun _ h => h) (fun _ h => h)
  exact hvia (hvia (hvia (hvia (hvia (hvia (hvia (hvia (hset s F.CFG_CONT_STATUS_CONTENTION 1 (by decide))
    (hset _ F.CFG_CONT_STATUS_COUNT _ (by decide))) (hset _ F.CFG_CONT_SEG_SEG_ID seg (by decide)))
    (hset _ F.CFG_CONT_SEG_VALID 1 (by decide))) (hset _ F.CFG_CONT_DRIVERS_GRANTED g (by decide)))
    (hset _ F.CFG_CONT_DRIVERS_MASKED m (by decide))) (hset _ F.CFG_CONT_DRIVERS_TABLE driver (by decide)))
    (hset _ F.CFG_CONT_DRIVERS_TABLE_NONE none' (by decide))) (hset _ F.CFG_CONT_STATUS_ACTIVE 1 (by decide))

/-- What the registers show of the contention. -/
theorem State.contShown_fields (s : State) {seg g m : Nat} (driver none' : Nat) (hseg : seg < 2 ^ 16) (hg : g < 256) (hm : m < 256) :
    (s.contShown seg g m driver none').f F.CFG_CONT_STATUS_ACTIVE 0 = 1 ∧
    (s.contShown seg g m driver none').f F.CFG_CONT_STATUS_CONTENTION 0 = 1 ∧
    (s.contShown seg g m driver none').f F.CFG_CONT_STATUS_COUNT 0 = s.counted F.CFG_CONT_STATUS_COUNT 0 1 ∧
    (s.contShown seg g m driver none').f F.CFG_CONT_SEG_SEG_ID 0 = seg ∧ (s.contShown seg g m driver none').f F.CFG_CONT_SEG_VALID 0 = 1 ∧
    (s.contShown seg g m driver none').f F.CFG_CONT_DRIVERS_GRANTED 0 = g ∧
    (s.contShown seg g m driver none').f F.CFG_CONT_DRIVERS_MASKED 0 = m := by
  simp (disch := decide) only [State.contShown, State.contEntered, State.raise, State.bump, State.counted, State.f_setF_same,
    State.f_setF_other]
  omega

/-- The segment's guard grants g, and the rods of CONT_DRIVERS go ahead in the scrub order (R79). -/
def State.guarded (s : State) (x : Contention) (first : List (Nat × Nat)) : State :=
  (s.putFabric { s.fabric with contentions := s.fabric.contentions.filter (·.seg != x.seg) ++ [x] }).putCfg
    { s.cfg with scrubFirst := first }

theorem Kept.guarded (s : State) (x : Contention) (first : List (Nat × Nat)) : Kept s (s.guarded x first) [] [.fabric, .cfg] :=
  (Kept.putFabric s _).trans (Kept.putCfg _ _)

theorem State.calm_guarded {s : State} (x : Contention) (first : List (Nat × Nat)) (h : s.calm = true) : (s.guarded x first).calm = true :=
  (SameWork.scrubFirst _ _).calm ((SameWork.contentions s _).calm h)

/-- The guard's grant drives the segment. -/
theorem State.lineDriver_of_contentions {s : State} {l : List Contention} {x : Contention}
    (h : s.fabric.contentions = l.filter (·.seg != x.seg) ++ [x]) : s.lineDriver x.seg = some x.granted := by
  have hnone : (l.filter (·.seg != x.seg)).find? (·.seg == x.seg) = none := by
    refine List.find?_eq_none.2 fun y hy => ?_
    simpa using (List.mem_filter.1 hy).2
  simp [State.lineDriver, h, List.find?_append, hnone]

/-- Two drivers of a segment, in rising order. -/
theorem rodsInOrder {a b : Nat} (h : a < b) : [b, a].foldl (fun acc r => insertRod r acc) [] = [a, b] := by
  simp [insertRod, h]

/-- A contention of two drivers: the one that is not granted is counted and masked. -/
theorem State.contention_two {s : State} {seg a b g m k : Nat} {busy : Bool} (hab : a < b)
    (hbusy : if busy = true then s.lineDriver seg = some g else g = a) (hgm : g = a ∧ m = b ∨ g = b ∧ m = a)
    (hk : s.physOf m = some k) (hc : Sparse.get [] s.repair.counted k = []) (ht : 2 ≤ s.f F.REPAIR_WEAR_CFG_THRESH 0) :
    ∃ first, s.contention seg [b, a] busy =
      (((s.countedOnce k).logContention seg g m).raise F.CFG_CONT_STATUS_ACTIVE 0).guarded ⟨seg, [a, b], g⟩ first := by
  have hgranted : (if busy then (s.lineDriver seg).getD a else a) = g := by
    cases busy with
    | false => simpa using Eq.symm (by simpa using hbusy)
    | true => simp [show s.lineDriver seg = some g by simpa using hbusy]
  have hmasked : [a, b].filter (· != g) = [m] := by
    obtain ⟨rfl, rfl⟩ | ⟨rfl, rfl⟩ := hgm
    · simp [Nat.ne_of_gt hab]
    · simp [Nat.ne_of_lt hab]
  simp only [State.contention, rodsInOrder hab, hgranted, hmasked, List.headD_cons, List.foldl_cons, List.foldl_nil,
    State.countRod_first hk hc ht]
  exact ⟨_, rfl⟩

/-- The registers and the parts of State that a contention may change. -/
def contentionRegs (k : Nat) : Regs :=
  [(.CFG_CONT_STATUS, 0), (.CFG_CONT_SEG, 0), (.CFG_CONT_DRIVERS, 0), (.REPAIR_MON_COUNT, k)]

theorem Runs.contention {s : State} {seg a b g m k : Nat} (hs : s.ready = true) (hab : a < b) (hb : b < 256)
    (hbusy : if s.segmentBusy seg = true then s.lineDriver seg = some g else g = a) (hgm : g = a ∧ m = b ∨ g = b ∧ m = a)
    (hk : s.physOf m = some k) (hc : Sparse.get [] s.repair.counted k = []) (ht : 2 ≤ s.f F.REPAIR_WEAR_CFG_THRESH 0)
    (hv : s.f F.CFG_CONT_SEG_VALID 0 = 0) (hseg : seg < 2 ^ 16) :
    Runs (.contention seg [b, a]) s fun t =>
      t.f F.CFG_CONT_STATUS_ACTIVE 0 = 1 ∧ t.f F.CFG_CONT_STATUS_CONTENTION 0 = 1 ∧
      t.f F.CFG_CONT_STATUS_COUNT 0 = s.counted F.CFG_CONT_STATUS_COUNT 0 1 ∧
      t.f F.CFG_CONT_SEG_SEG_ID 0 = seg ∧ t.f F.CFG_CONT_SEG_VALID 0 = 1 ∧
      t.f F.CFG_CONT_DRIVERS_GRANTED 0 = g ∧ t.f F.CFG_CONT_DRIVERS_MASKED 0 = m ∧ t.lineDriver seg = some g ∧
      t.f F.REPAIR_MON_COUNT_CORRECTED k = s.counted F.REPAIR_MON_COUNT_CORRECTED k 1 ∧
      Kept s t (contentionRegs k) [.fabric, .cfg, .repair] := by
  obtain ⟨first, hcont⟩ := State.contention_two (seg := seg) (busy := s.segmentBusy seg) hab hbusy hgm hk hc ht
  have hcounted := Kept.countedOnce s k
  obtain ⟨driver, none', hlog⟩ := State.logContention_free (s := s.countedOnce k)
    ((hcounted.f F.CFG_CONT_SEG_VALID 0 rfl (by simp)).trans hv) seg g m
  rw [hlog] at hcont
  have hshown := Kept.contShown (s.countedOnce k) seg g m driver none'
  have hguarded := Kept.guarded ((s.countedOnce k).contShown seg g m driver none') ⟨seg, [a, b], g⟩ first
  have hk' : Kept s (s.contention seg [b, a] (s.segmentBusy seg)) (contentionRegs k) [.fabric, .cfg, .repair] := by
    rw [hcont]
    exact ((Kept.start s _ _).via hcounted (by simp [contentionRegs]) (by simp)).via hshown (by simp [contRegs, contentionRegs]) (by simp)
      |>.via hguarded (by simp) (by simp)
  refine Runs.of_calm (f := fun s => s.contention seg [b, a] (s.segmentBusy seg)) rfl hs hk' (fun hcalm => ?_) fun t _ ht' h => ?_
  · rw [hcont]
    refine State.calm_guarded _ _ ?_
    rw [hshown.calm (by simp) (by decide)]
    exact State.calm_countedOnce k hcalm
  · simp only [hcont] at ht'
    have hm : g < 256 ∧ m < 256 := by omega
    obtain ⟨h1, h2, h3, h4, h5, h6, h7⟩ := (s.countedOnce k).contShown_fields driver none' hseg hm.1 hm.2
    have hfab : t.fabric = _ := ht'.areas .fabric List.not_mem_nil
    have hcount : (s.countedOnce k).counted F.CFG_CONT_STATUS_COUNT 0 1 = s.counted F.CFG_CONT_STATUS_COUNT 0 1 := by
      rw [State.counted, hcounted.f _ _ rfl (by simp), State.counted]
    have hf (G : Fld) (i : Nat) (hp : isPend G.reg = false) : t.f G i = ((s.countedOnce k).contShown seg g m driver none').f G i :=
      (ht'.f G i hp (by simp)).trans (hguarded.f G i hp (by simp))
    refine ⟨(hf _ _ rfl).trans h1, (hf _ _ rfl).trans h2, ((hf _ _ rfl).trans h3).trans hcount, (hf _ _ rfl).trans h4,
      (hf _ _ rfl).trans h5, (hf _ _ rfl).trans h6, (hf _ _ rfl).trans h7,
      State.lineDriver_of_contentions (x := ⟨seg, [a, b], g⟩) (by rw [hfab]; rfl), ?_, h⟩
    rw [hf _ _ rfl, hshown.f _ _ rfl (by simp [contRegs]), State.f_countedOnce]

-- ------------------------------------------------------------------ the scrub of a contention (R79)

/-- Once the frame of the masked driver is corrected, the contention is over. -/
theorem State.contentionScrubbed_single {s : State} {seg g rod k : Nat} {rods : List Nat}
    (hcont : s.fabric.contentions = [⟨seg, rods, g⟩]) (hextra : (rods.filter fun r => Sparse.get 0 s.cfg.drivers seg != r + 1) = [rod])
    (hskip : s.scrubSkips rod = false) (hk : s.physOf rod = some k) (hc : Sparse.get [] s.repair.counted k = [])
    (ht : 2 ≤ s.f F.REPAIR_WEAR_CFG_THRESH 0) (hbad : s.cfg.badFrames.contains (frameKey rod (driverFrame seg)) = false) :
    ∃ first, s.contentionScrubbed seg .single =
      ((((s.bump F.CFG_SCRUB_STAT_CORRECTED 0 1).countedOnce k).putCfg { s.cfg with scrubFirst := first }).putFabric
        { s.fabric with contentions := [] }).setF F.CFG_CONT_STATUS_ACTIVE 0 0 := by
  have hthresh : (s.bump F.CFG_SCRUB_STAT_CORRECTED 0 1).f F.REPAIR_WEAR_CFG_THRESH 0 = s.f F.REPAIR_WEAR_CFG_THRESH 0 :=
    (Kept.bump s F.CFG_SCRUB_STAT_CORRECTED 0 1).f _ _ rfl (by simp)
  have hfound : s.frameFound rod (driverFrame seg) .single = (s.bump F.CFG_SCRUB_STAT_CORRECTED 0 1).countedOnce k := by
    simp only [State.frameFound, hskip, Bool.false_eq_true, if_false]
    exact State.countRod_first (s := s.bump F.CFG_SCRUB_STAT_CORRECTED 0 1) hk hc (by rwa [hthresh])
  have hcfg : ((s.bump F.CFG_SCRUB_STAT_CORRECTED 0 1).countedOnce k).cfg = s.cfg := rfl
  have hmasks : (FrameFinding.single != .clean) = true := by decide
  simp only [State.contentionScrubbed, hcont, List.find?_cons, beq_self_eq_true, hextra, List.foldl_cons, List.foldl_nil, hfound, hmasks,
    hcfg, State.putCfg_cfg, List.all_cons, List.all_nil, hbad]
  refine ⟨s.cfg.scrubFirst.filter fun r => !rods.contains r.1, ?_⟩
  have hover : ([⟨seg, rods, g⟩] : List Contention).filter (·.seg != seg) = [] := by simp
  have hfab : (((s.bump F.CFG_SCRUB_STAT_CORRECTED 0 1).countedOnce k).putCfg
      { s.cfg with scrubFirst := s.cfg.scrubFirst.filter fun r => !rods.contains r.1 }).fabric = s.fabric := rfl
  simp only [State.contentionOver, hfab, hcont, hover, State.contActive]
  rfl

theorem Runs.contentionScrubDone {s : State} {seg g rod k : Nat} {rods : List Nat} (hs : s.ready = true)
    (hcont : s.fabric.contentions = [⟨seg, rods, g⟩]) (hextra : (rods.filter fun r => Sparse.get 0 s.cfg.drivers seg != r + 1) = [rod])
    (hskip : s.scrubSkips rod = false) (hk : s.physOf rod = some k) (hc : Sparse.get [] s.repair.counted k = [])
    (ht : 2 ≤ s.f F.REPAIR_WEAR_CFG_THRESH 0) (hbad : s.cfg.badFrames.contains (frameKey rod (driverFrame seg)) = false) :
    Runs (.contentionScrubDone seg .single) s fun t =>
      t.f F.CFG_CONT_STATUS_ACTIVE 0 = 0 ∧ t.fabric.contentions = [] ∧
      t.f F.REPAIR_MON_COUNT_CORRECTED k = s.counted F.REPAIR_MON_COUNT_CORRECTED k 1 ∧
      Kept s t [(.CFG_CONT_STATUS, 0), (.CFG_SCRUB_STAT, 0), (.REPAIR_MON_COUNT, k)] [.fabric, .cfg, .repair, .ledger] := by
  obtain ⟨first, hf⟩ := State.contentionScrubbed_single hcont hextra hskip hk hc ht hbad
  have hbump := Kept.bump s F.CFG_SCRUB_STAT_CORRECTED 0 1
  have hcounted := Kept.countedOnce (s.bump F.CFG_SCRUB_STAT_CORRECTED 0 1) k
  have hput := (Kept.putCfg ((s.bump F.CFG_SCRUB_STAT_CORRECTED 0 1).countedOnce k) { s.cfg with scrubFirst := first }).trans
    (Kept.putFabric _ { s.fabric with contentions := [] })
  have hover := Kept.setF ((((s.bump F.CFG_SCRUB_STAT_CORRECTED 0 1).countedOnce k).putCfg
    { s.cfg with scrubFirst := first }).putFabric { s.fabric with contentions := [] }) F.CFG_CONT_STATUS_ACTIVE 0 0
  have hkept : Kept s (s.contentionScrubbed seg .single) [(.CFG_CONT_STATUS, 0), (.CFG_SCRUB_STAT, 0), (.REPAIR_MON_COUNT, k)]
      [.fabric, .cfg, .repair, .ledger] := by
    rw [hf]
    exact (((Kept.start s _ _).via hbump (by simp) (by simp)).via hcounted (by simp) (by simp)).via hput (by simp) (by simp) |>.via
      hover (by simp) (by simp)
  refine Runs.of_calm (f := fun s => s.contentionScrubbed seg .single) rfl hs hkept (fun hcalm => ?_) fun t _ ht' h => ?_
  · rw [hf, hover.calm (by simp) (by decide)]
    refine (SameWork.contentions _ []).calm ((SameWork.scrubFirst _ first).calm (State.calm_countedOnce k ?_))
    rwa [hbump.calm (by simp) (by decide)]
  · simp only [hf] at ht'
    have hfab : t.fabric = _ := ht'.areas .fabric List.not_mem_nil
    refine ⟨(ht'.f _ 0 rfl (by simp)).trans (State.f_setF_same _ F.CFG_CONT_STATUS_ACTIVE 0 0 (by decide)), by rw [hfab]; rfl, ?_, h⟩
    rw [ht'.f _ _ rfl (by simp), hover.f _ _ rfl (by simp), hput.f _ _ rfl (by simp), State.f_countedOnce, State.counted,
      hbump.f _ _ rfl (by simp), State.counted]

-- ------------------------------------------------------------------ beads taken (R46, R50, R88)

/-- What a sink that meets a bead is like. -/
theorem State.meets_iff (s : State) (b : BeadSink) (u : Upset) (x : Bead) : s.meets (b, u) x = true ↔
    s.withholds b = false ∧ s.sinkReady b = true ∧ s.beadAt b u = some x ∧ x.faults = [] := by
  simp only [State.meets, State.sinkReady, Bool.and_eq_true, Bool.not_eq_true', beq_iff_eq, List.isEmpty_iff]
  tauto

/-- A step on the bead of one sink that meets it takes the bead. -/
theorem State.withBeads_one {s t : State} {b : BeadSink} {u : Upset} {x : Bead} {f : List Bead → State → Option State}
    (h : s.meets (b, u) x = true) (hf : f [x] s = some t) : s.withBeads [(b, u)] f = t.takeBead b x := by
  obtain ⟨hw, hr, hx, -⟩ := (s.meets_iff b u x).1 h
  simp [State.withBeads, hw, hr, hx, allSome, hf]

/-- A bead without code faults is taken by its handshake and its latch alone. -/
theorem State.takeBead_of_clean (s : State) (b : BeadSink) {x : Bead} (h : x.faults = []) :
    s.takeBead b x = (s.unlatch b).takeFrom b x.outs := by
  rw [State.takeBead, h]
  rfl

theorem Kept.takeFrom (s : State) (b : BeadSink) (xs : List BeadSource) : Kept s (s.takeFrom b xs) [] [.fabric] := by
  unfold State.takeFrom
  split
  · exact Kept.start s _ _
  · exact Kept.putFabric s _

theorem Kept.takeBead (s : State) (b : BeadSink) {x : Bead} (h : x.faults = []) : Kept s (s.takeBead b x) [] [.fabric] := by
  rw [State.takeBead_of_clean s b h]
  exact (Kept.start s [] [.fabric]).via (Kept.putFabric s _) (by simp) (by simp) |>.via (Kept.takeFrom ..) (by simp) (by simp)

theorem State.calm_takeBead {s : State} (b : BeadSink) {x : Bead} (h : x.faults = []) (hc : s.calm = true) :
    (s.takeBead b x).calm = true := by
  rw [State.takeBead_of_clean s b h]
  exact (SameWork.takeFrom _ b x.outs).calm ((SameWork.unlatch s b).calm hc)

theorem State.latched_takeFrom (s : State) (b b' : BeadSink) (xs : List BeadSource) : (s.takeFrom b xs).latched b' = s.latched b' := by
  unfold State.takeFrom
  split <;> rfl

theorem State.latched_unlatch (s : State) (b : BeadSink) : (s.unlatch b).latched b = none := by
  have hnone : (s.fabric.latches.filter (·.sink != b)).find? (·.sink == b) = none := by
    refine List.find?_eq_none.2 fun y hy => ?_
    simpa using (List.mem_filter.1 hy).2
  rw [State.latched, State.unlatch, State.putFabric_fabric, hnone]
  rfl

/-- A sink acknowledges the outputs whose beads it takes. -/
theorem State.acked_takeFrom (s : State) (b : BeadSink) {xs : List BeadSource} {y : BeadSource} (hy : y ∈ xs) :
    (s.takeFrom b xs).acked b y = true := by
  have hne : xs.isEmpty = false := by cases xs <;> simp at hy ⊢
  simp [State.takeFrom, hne, State.acked, hy]

theorem State.took_takeBead (s : State) (b : BeadSink) {x : Bead} (h : x.faults = []) : (s.takeBead b x).took b x := by
  rw [State.takeBead_of_clean s b h]
  exact ⟨(State.latched_takeFrom _ b b x.outs).trans (s.latched_unlatch b), fun y hy => State.acked_takeFrom _ b hy⟩

theorem State.took_congr {s t : State} {b : BeadSink} {x : Bead} (h : t.fabric = s.fabric) (hs : s.took b x) : t.took b x := by
  unfold State.took State.latched State.acked at *
  rwa [h]

-- ------------------------------------------------------------------ trigger outputs (R88)

/-- A nonzero bead on a used FTO enters the Beam, and its tap takes it. -/
theorem State.ftoTake_nonzero {s : State} {n : Nat} {u : Upset} {x : Bead} (hu : tapUsed (s.tapEntry n) = true)
    (hm : s.meets (.fto n, u) x = true) (hx : x.num % 4 ≠ 0) :
    s.ftoTake n u = (s.enterNext (.source (24 + n))).takeBead (.fto n) x := by
  have hdigit : BitVec.ofNat 2 x.num ≠ (0 : BitVec 2) := fun e => hx (by simpa using congrArg BitVec.toNat e)
  rw [State.ftoTake, if_pos hu]
  exact State.withBeads_one hm (by simp only [List.head?_cons, Option.map_some, State.ftoBead, if_neg hdigit])

theorem Runs.ftoBead {s : State} {n : Nat} {u : Upset} {x : Bead} (hs : s.ready = true) (hu : tapUsed (s.tapEntry n) = true)
    (hm : s.meets (.fto n, u) x = true) (hx : x.num % 4 ≠ 0) :
    Runs (.ftoBead n u) s fun t =>
      ⟨.source (24 + n), s.time + 1⟩ ∈ t.beam.flight ∧ t.took (.fto n) x ∧ Kept s t [(.BEAM_SRC_CNT, 24 + n)] [.beam, .fabric] := by
  have hf := State.ftoTake_nonzero hu hm hx
  obtain ⟨-, -, -, hclean⟩ := (s.meets_iff _ _ _).1 hm
  have henter := Kept.enterNext s (.source (24 + n))
  have htake := Kept.takeBead (s.enterNext (.source (24 + n))) (.fto n) hclean
  refine Runs.of_calm (f := fun s => s.ftoTake n u) rfl hs (hf ▸ henter.trans htake) (fun hc => ?_) fun t _ ht h => ?_
  · rw [hf]
    refine State.calm_takeBead (.fto n) hclean ?_
    rwa [henter.calm (by decide) (by simp [entryRegs, calmRegs])]
  · simp only [hf] at ht
    have hbeam : t.beam = (s.enterNext (.source (24 + n))).beam :=
      (ht.areas .beam List.not_mem_nil).trans (htake.areas .beam (by decide))
    exact ⟨by rw [hbeam]; exact s.mem_enterNext _, State.took_congr (ht.areas .fabric List.not_mem_nil) (State.took_takeBead _ _ hclean), h⟩

/-- Settles O10: a clause for each command, from what its effect is where the clause's hypotheses hold. -/
theorem monitorsAndGuards : Obligations.MonitorsAndGuards :=
  ⟨fun _ _ _ hs hr hm hn hlt => Runs.rateWindow hs hr hm hn hlt,
    fun _ _ _ _ _ _ _ hs hab hb hbusy hgm hk hc ht hv hseg => Runs.contention hs hab hb hbusy hgm hk hc ht hv hseg,
    fun _ _ _ _ _ _ hs hcont hextra hskip hk hc ht hbad => Runs.contentionScrubDone hs hcont hextra hskip hk hc ht hbad,
    fun _ _ _ _ hs _ hu hm hx => Runs.ftoBead hs hu hm hx⟩

end Sys2Proof.Machine
end

section
/-! PROOF. A brownout closes the fences of the fabric's NIs at once (R408), and a request that stands delivered at one of them is
answered by its proxy and counted (R247): in PROXY_CNT, which is none of the registers that the statement of O43 lets a
brownout change. -/

namespace Sys2Proof.Machine

/-- A read of 8 bytes that core 0 has sent to fabric NI 3. -/
def readOfFabric : Packet :=
  { cmd := .rd, src := 0x94, dest := 3, tag := 7, record := 0, err := 0, attr := 0, addr := 0x40, len := 7, beFirst := 0xFF
    beLast := 0, operand := 0, injTime := 0, route := 0, vn := 0, prio := 0, data := [], poison := false }

/-- In user mode, every region on, NI 3 open: the read stands delivered there, and user logic has not answered it yet. -/
def readDelivered : State :=
  let s := ((poweredUp.setF F.DEV_STATUS_USER_MODE 0 1).setF F.PWR_REGION_STATUS_ON 0 0x7FF).setF F.NI_FENCE_STATUS_STATE 3 0
  s.setNi 3 { s.ni 3 with delivered := [⟨1, readOfFabric, 0, 0⟩] }

/-- The requests that NI 3's proxy has answered after a command. -/
def proxyAnswers : Host.Outcome State Fault Refusal → Nat
  | .next t => (t.word .NI_PROXY_CNT 3).toNat
  | _ => 0

/-- The proxy answers the read, and it is counted. -/
theorem proxyAnswers_readDelivered : proxyAnswers (exec .brownout readDelivered) = 1 := by decide +kernel

/-- Refutes O43: at a brownout the proxy of `readDelivered`'s NI 3 answers the read and counts it in PROXY_CNT. -/
theorem not_suppliesAndVoltage : ¬ Obligations.SuppliesAndVoltage := by
  unfold Obligations.SuppliesAndVoltage
  rintro ⟨-, -, -, hbrownout, -⟩
  obtain ⟨t, ht, -, -, -, -, hk⟩ := hbrownout readDelivered (by decide +kernel) rfl rfl
  have hcount : t.word .NI_PROXY_CNT 3 = readDelivered.word .NI_PROXY_CNT 3 := hk.regs _ _ rfl (by decide +kernel)
  have hanswer := proxyAnswers_readDelivered
  rw [ht, proxyAnswers, hcount] at hanswer
  exact absurd hanswer (by decide +kernel)

end Sys2Proof.Machine
end

section
/-! PROOF. The rows of block memories as bits of a rod's frames laid end to end, what a write of a row changes, and that the frames
of rows carry no routing (R91, R92, R102, R138). -/

namespace Sys2Proof.Machine

-- ------------------------------------------------------------------ bits of a number

/-- A number with the w bits from bit lo on replaced by x. -/
theorem testBit_replaced (n lo w x i : Nat) :
    (n - n / 2 ^ lo % 2 ^ w * 2 ^ lo + x % 2 ^ w * 2 ^ lo).testBit i =
      if lo ≤ i ∧ i < lo + w then x.testBit (i - lo) else n.testBit i := by
  have hparts : n - n / 2 ^ lo % 2 ^ w * 2 ^ lo + x % 2 ^ w * 2 ^ lo =
      2 ^ lo * (2 ^ w * (n / 2 ^ lo / 2 ^ w) + x % 2 ^ w) + n % 2 ^ lo := by
    have hlow := Nat.div_add_mod n (2 ^ lo)
    have hmid := congrArg (2 ^ lo * ·) (Nat.div_add_mod (n / 2 ^ lo) (2 ^ w))
    simp only [Nat.mul_add] at hmid ⊢
    rw [Nat.mul_comm _ (2 ^ lo), Nat.mul_comm _ (2 ^ lo)]
    omega
  rw [hparts, Nat.testBit_two_pow_mul_add _ (Nat.mod_lt _ (Nat.two_pow_pos lo)),
    Nat.testBit_two_pow_mul_add _ (Nat.mod_lt _ (Nat.two_pow_pos w)), Nat.testBit_mod_two_pow, Nat.testBit_mod_two_pow,
    Nat.testBit_div_two_pow, Nat.testBit_div_two_pow]
  by_cases hlo : i < lo
  · simp [hlo, show ¬ lo ≤ i by omega]
  · by_cases hw : i < lo + w
    · simp [hlo, hw, show lo ≤ i by omega, show i - lo < w by omega]
    · simp [hlo, hw, show ¬ i - lo < w by omega, show i - lo - w + w + lo = i by omega]

/-- The bits of two frames laid end to end. -/
theorem testBit_framePair (a b : BitVec 4096) (i : Nat) :
    (a.toNat + 2 ^ 4096 * b.toNat).testBit i = if i < 4096 then a.getLsbD i else b.getLsbD (i - 4096) := by
  rw [Nat.add_comm, Nat.testBit_two_pow_mul_add _ a.isLt]
  rfl

-- ------------------------------------------------------------------ bits of a rod's frames

/-- A frame after a write of a frame. -/
theorem State.frame_setFrame (s : State) (rod k : Nat) (v : BitVec 4096) (rod' k' : Nat) :
    (s.setFrame rod k v).frame rod' k' = if frameKey rod' k' = frameKey rod k then v else s.frame rod' k' :=
  Sparse.get_set ..

/-- Bit p of a rod's frames laid end to end. -/
def State.rodBit (s : State) (rod p : Nat) : Bool := (s.frame rod (p / 4096)).getLsbD (p % 4096)

/-- Bits of a rod's frames, one by one. -/
theorem State.testBit_rodBits (s : State) (rod first pos : Nat) {w : Nat} (hw : w ≤ 4096) (i : Nat) :
    (s.rodBits rod first pos w).testBit i = (decide (i < w) && s.rodBit rod (4096 * first + pos + i)) := by
  simp only [State.rodBits, spanBits, Nat.testBit_mod_two_pow, Nat.testBit_div_two_pow, testBit_framePair, State.rodBit]
  by_cases hi : i < w
  · by_cases hfirst : i + pos % 4096 < 4096
    · rw [if_pos hfirst, show (4096 * first + pos + i) / 4096 = first + pos / 4096 by omega,
        show (4096 * first + pos + i) % 4096 = i + pos % 4096 by omega]
    · rw [if_neg hfirst, show (4096 * first + pos + i) / 4096 = first + pos / 4096 + 1 by omega,
        show (4096 * first + pos + i) % 4096 = i + pos % 4096 - 4096 by omega]
  · simp [hi]

theorem frameKey_inj {rod k rod' k' : Nat} (hk : k < 1024) (hk' : k' < 1024) :
    frameKey rod' k' = frameKey rod k ↔ rod' = rod ∧ k' = k := by
  simp only [frameKey]
  omega

/-- The two frames that bits may lie in, with the bits replaced. -/
theorem State.testBit_replacedFrames (s : State) (rod k o w v i : Nat) :
    ((s.frame rod k).toNat + 2 ^ 4096 * (s.frame rod (k + 1)).toNat
        - ((s.frame rod k).toNat + 2 ^ 4096 * (s.frame rod (k + 1)).toNat) / 2 ^ o % 2 ^ w * 2 ^ o + v % 2 ^ w * 2 ^ o).testBit i =
      if o ≤ i ∧ i < o + w then v.testBit (i - o)
      else if i < 4096 then (s.frame rod k).getLsbD i else (s.frame rod (k + 1)).getLsbD (i - 4096) := by
  rw [testBit_replaced, testBit_framePair]

/-- The frames of a rod after a write of some of its bits: the first frame that the bits lie in takes the low half of the two frames
with the bits replaced, the next one the high half where the bits reach it. -/
theorem State.frame_setRodBits (s : State) {rod first pos w : Nat} (v : Nat) (hk : first + pos / 4096 + 1 < 1024) {k : Nat}
    (hk' : k < 1024) :
    (s.setRodBits rod first pos w v).frame rod k =
      let both := (s.frame rod (first + pos / 4096)).toNat + 2 ^ 4096 * (s.frame rod (first + pos / 4096 + 1)).toNat
      let both' := both - both / 2 ^ (pos % 4096) % 2 ^ w * 2 ^ (pos % 4096) + v % 2 ^ w * 2 ^ (pos % 4096)
      if k = first + pos / 4096 then BitVec.ofNat 4096 both'
      else if k = first + pos / 4096 + 1 ∧ ¬ pos % 4096 + w ≤ 4096 then BitVec.ofNat 4096 (both' / 2 ^ 4096)
      else s.frame rod k := by
  have hk0 : first + pos / 4096 < 1024 := by omega
  dsimp only [State.setRodBits]
  split
  · rename_i hfit
    simp only [State.frame_setFrame, frameKey_inj hk0 hk', true_and, hfit, not_true, and_false, if_false]
  · rename_i hfit
    simp only [State.frame_setFrame, frameKey_inj hk0 hk', frameKey_inj hk hk', true_and, hfit, not_false_eq_true, and_true]
    by_cases h : k = first + pos / 4096
    · rw [if_neg (by omega), if_pos h, if_pos h]
    · rw [if_neg h, if_neg h]

/-- A write of bits of a rod leaves the frames of the other rods. -/
theorem State.frame_setRodBits_other (s : State) {rod first pos w : Nat} (v : Nat) (hk : first + pos / 4096 + 1 < 1024) {rod' k : Nat}
    (hk' : k < 1024) (hrod : rod' ≠ rod) : (s.setRodBits rod first pos w v).frame rod' k = s.frame rod' k := by
  dsimp only [State.setRodBits]
  split <;> simp only [State.frame_setFrame, frameKey_inj hk hk', frameKey_inj (show first + pos / 4096 < 1024 by omega) hk', hrod,
    false_and, if_false]

/-- A write of bits of a rod's frames, one by one. -/
theorem State.rodBit_setRodBits (s : State) {rod first pos w : Nat} (v : Nat) (hk : first + pos / 4096 + 1 < 1024) (hw : w ≤ 4096)
    (rod' : Nat) {p : Nat} (hp : p < 4096 * 1024) :
    (s.setRodBits rod first pos w v).rodBit rod' p =
      if rod' = rod ∧ 4096 * first + pos ≤ p ∧ p < 4096 * first + pos + w then v.testBit (p - (4096 * first + pos))
      else s.rodBit rod' p := by
  have hp' : p / 4096 < 1024 := by omega
  have hj : p % 4096 < 4096 := Nat.mod_lt _ (by decide)
  by_cases hrod : rod' = rod
  · subst hrod
    simp only [State.rodBit, State.frame_setRodBits s v hk hp', true_and]
    by_cases hfirst : p / 4096 = first + pos / 4096
    · rw [if_pos hfirst, BitVec.getLsbD_ofNat, decide_eq_true hj, Bool.true_and, State.testBit_replacedFrames, if_pos hj, hfirst]
      have hin : pos % 4096 ≤ p % 4096 ∧ p % 4096 < pos % 4096 + w ↔
          4096 * first + pos ≤ p ∧ p < 4096 * first + pos + w := by omega
      simp only [hin, show p % 4096 - pos % 4096 = p - (4096 * first + pos) by omega]
    · rw [if_neg hfirst]
      split
      · rename_i hnext
        obtain ⟨hnext, -⟩ := hnext
        rw [BitVec.getLsbD_ofNat, decide_eq_true hj, Bool.true_and, Nat.testBit_div_two_pow, State.testBit_replacedFrames,
          if_neg (show ¬ p % 4096 + 4096 < 4096 by omega), hnext, Nat.add_sub_cancel]
        have hin : pos % 4096 ≤ p % 4096 + 4096 ∧ p % 4096 + 4096 < pos % 4096 + w ↔
            4096 * first + pos ≤ p ∧ p < 4096 * first + pos + w := by omega
        simp only [hin, show p % 4096 + 4096 - pos % 4096 = p - (4096 * first + pos) by omega]
      · rename_i hnext
        rw [if_neg (by omega)]
  · simp [State.rodBit, State.frame_setRodBits_other s v hk hp' hrod, hrod]

-- ------------------------------------------------------------------ rows (R102, R138)

/-- Bit i of a row, among the bits of its rod. -/
theorem State.testBit_row (s : State) (rod m row i : Nat) :
    (s.row rod m row).testBit i = (decide (i < 72) && s.rodBit rod (4096 * (640 + 9 * m) + 72 * row + i)) :=
  State.testBit_rodBits s rod _ _ (by decide) i

/-- A row reads what was written to it, and a write leaves every other row. -/
theorem State.row_setRow (s : State) {rod m row : Nat} (v : Nat) (hm : m < 32) (hr : row < 512) {rod' m' row' : Nat} (hm' : m' < 32)
    (hr' : row' < 512) :
    (s.setRow rod m row v).row rod' m' row' = if rod' = rod ∧ m' = m ∧ row' = row then v % 2 ^ 72 else s.row rod' m' row' := by
  refine Nat.eq_of_testBit_eq fun i => ?_
  rw [State.testBit_row]
  by_cases hi : i < 72
  · rw [State.setRow, State.rodBit_setRodBits s v (by omega) (by decide) rod' (by omega)]
    by_cases hrow : rod' = rod ∧ m' = m ∧ row' = row
    · obtain ⟨rfl, rfl, rfl⟩ := hrow
      rw [if_pos (by omega), if_pos ⟨rfl, rfl, rfl⟩, Nat.testBit_mod_two_pow,
        show 4096 * (640 + 9 * m') + 72 * row' + i - (4096 * (640 + 9 * m') + 72 * row') = i by omega]
    · rw [if_neg (by omega), if_neg hrow, State.testBit_row]
  · have hnone : decide (i < 72) = false := decide_eq_false hi
    split <;> simp only [State.testBit_row, Nat.testBit_mod_two_pow, hnone, Bool.false_and]

-- ------------------------------------------------------------------ the frames of rows carry no routing (R138, R139)

/-- The fields of tile routing records lie in the frames below 640. -/
theorem State.tileBits_congr {s t : State} {rod : Nat} (h : ∀ k, k < 640 → t.frame rod k = s.frame rod k) {row lo : Nat} (hr : row < 96)
    (hl : lo < 6784) (w : Nat) : t.tileBits rod row lo w = s.tileBits rod row lo w := by
  simp only [State.tileBits, State.rodBits, spanBits, h _ (show 480 + (6784 * row + lo) / 4096 < 640 by omega),
    h _ (show 480 + (6784 * row + lo) / 4096 + 1 < 640 by omega)]

/-- The source codes of a rod depend on its frames below 640 alone. -/
theorem State.rodCodes_congr {s t : State} {rod : Nat} (h : ∀ k, k < 640 → t.frame rod k = s.frame rod k) :
    t.rodCodes rod = s.rodCodes rod := by
  have hcode {row lo : Nat} (hr : row < 96) (hl : lo < 6784) : t.tileCode rod row lo = s.tileCode rod row lo :=
    State.tileBits_congr h hr hl 8
  have hcodes (row : Nat) (hr : row < 96) (n : Nat) (lo : Nat → Nat) (hl : ∀ i, i < n → lo i < 6784) :
      ((List.range n).map fun i => (row, t.tileCode rod row (lo i))) = (List.range n).map fun i => (row, s.tileCode rod row (lo i)) :=
    List.map_congr_left fun i hi => by rw [hcode hr (hl i (List.mem_range.1 hi))]
  have hrows : ((List.range 96).filter fun row => t.tileBits rod row 0 6784 != 0) =
      (List.range 96).filter fun row => s.tileBits rod row 0 6784 != 0 :=
    List.filter_congr fun row hr => by rw [State.tileBits_congr h (List.mem_range.1 hr) (by decide)]
  simp only [State.rodCodes, h 639 (by decide), hrows]
  refine congrArg (· ++ _) (List.flatMap_congr fun row hr => ?_)
  have hrow : row < 96 := List.mem_range.1 (List.mem_of_mem_filter hr)
  rw [hcodes row hrow 656 (8 * ·) (by omega), hcodes row hrow 8 driverAt (by simp only [driverAt]; omega),
    hcodes row hrow 80 slotAt (by simp only [slotAt]; omega)]

/-- Which edge stations can pass a word depends on configuration memory by the source codes of its rods alone. -/
theorem State.edgesDue_of_rodCodes {s t : State} (hn : t.net = s.net) (hf : t.fabric = s.fabric) (htakes : t.niTakes = s.niTakes)
    (hpasses : t.edgePasses = s.edgePasses) (hcodes : t.rodCodes = s.rodCodes) : t.edgesDue = s.edgesDue := by
  have hni : t.ni = s.ni := funext fun n => by simp only [State.ni, hn]
  have hclear : t.clear = s.clear := funext fun x => by simp only [State.clear, hf]
  have hhead (n c : Nat) : (t.channelHead n c).isSome = (s.channelHead n c).isSome := by
    unfold State.channelHead
    rw [hni]
    split <;> simp [Option.isSome_map]
  have hmoves : t.channelMoves = s.channelMoves := funext fun n => funext fun c => by
    simp only [State.channelMoves, State.channelRouted, hni, hcodes, hhead]
  have hedges : t.edgeMoves = s.edgeMoves := funext fun n => by
    simp only [State.edgeMoves, State.iqTakes, hni, htakes, hpasses, hmoves]
  simp only [State.edgesDue, State.busyEdges, hf, hn, hclear, hedges]

/-- Frames of configuration memory that carry no routing let no work go on. -/
theorem State.calm_putFrames (s : State) (v : Cells (BitVec 4096))
    (h : ∀ rod k, k < 640 → Sparse.get 0 v (frameKey rod k) = s.frame rod k) :
    (s.putCfg { s.cfg with frames := v }).calm = s.calm := by
  have hedges : (s.putCfg { s.cfg with frames := v }).edgesDue = s.edgesDue :=
    State.edgesDue_of_rodCodes rfl rfl rfl rfl (funext fun rod => State.rodCodes_congr (h rod))
  rw [State.calm, hedges]
  rfl

/-- A write of bits behind the routing of a rod lets no work go on. -/
theorem State.calm_setRodBits (s : State) {rod first pos w : Nat} (v : Nat) (hfirst : 640 ≤ first)
    (hk : first + pos / 4096 + 1 < 1024) : (s.setRodBits rod first pos w v).calm = s.calm := by
  have hset (u : State) (k : Nat) (x : BitVec 4096) (hk : 640 ≤ k ∧ k < 1024) : (u.setFrame rod k x).calm = u.calm := by
    refine u.calm_putFrames _ fun rod' k' hk' => ?_
    rw [Sparse.get_set_other]
    · rfl
    · rw [Ne, frameKey_inj hk.2 (by omega)]
      omega
  dsimp only [State.setRodBits]
  split
  · exact hset _ _ _ (by omega)
  · rw [hset _ _ _ (by omega), hset _ _ _ (by omega)]

theorem Kept.setRodBits (s : State) (rod first pos w v : Nat) : Kept s (s.setRodBits rod first pos w v) [] [.cfg] := by
  have hset (u : State) (k : Nat) (x : BitVec 4096) : Kept u (u.setFrame rod k x) [] [.cfg] := Kept.putCfg ..
  dsimp only [State.setRodBits]
  split
  · exact hset _ _ _
  · exact (hset _ _ _).via (hset _ _ _) (by simp) (by simp)

end Sys2Proof.Machine
end

section
/-! PROOF. Block memory ports and row scrubs on rows that read clean (R91 to R100). -/

namespace Sys2Proof.Machine

-- ------------------------------------------------------------------ words of rows (R91, R92)

/-- A word stands within its row, and its row within the memory. -/
theorem wordPlace_fits {code : Nat} (h0 : code ≠ 0) (h8 : code < 8) (a : Nat) :
    (wordPlace code a).1 < 512 ∧ (wordPlace code a).2.1 + (wordPlace code a).2.2 ≤ 72 := by
  interval_cases code <;> simp only [wordPlace, widthOf] <;> simp <;> omega

/-- A word reads what a row was given for it. -/
theorem wordOfRow_rowWithWord (row : Nat) {col w : Nat} (v : Nat) (h : col + w ≤ 72) :
    wordOfRow (rowWithWord row col w v % 2 ^ 72) col w = v % 2 ^ w := by
  refine Nat.eq_of_testBit_eq fun i => ?_
  simp only [wordOfRow, rowWithWord, Nat.testBit_mod_two_pow, Nat.testBit_div_two_pow, testBit_replaced]
  by_cases hi : i < w
  · simp [hi, show i + col < 72 by omega, show i + col < col + w by omega]
  · simp [hi]

/-- A row that stands clean, and is found clean, is left as it is. -/
theorem State.checkRow_clean {s : State} {rod m row : Nat} (h : s.rowPoisoned rod m row = false) : s.checkRow rod m row .clean = s := by
  simp [State.checkRow, h]

theorem State.rowStatus_clean {s : State} {rod m row : Nat} (h : s.rowPoisoned rod m row = false) : s.rowStatus rod m row .clean = 0 := by
  simp [State.rowStatus, h]

/-- Nothing found is nothing counted. -/
theorem State.countQueueEcc_clean (s : State) (rod m : Nat) : s.countQueueEcc rod m 0 = s := by
  unfold State.countQueueEcc
  split <;> rfl

-- ------------------------------------------------------------------ the update of a row (R95, R98)

theorem State.row_writeWord (s : State) (rod m row col w v rod' m' row' : Nat) :
    (s.writeWord rod m row col w v).row rod' m' row' =
      (s.setRow rod m row (rowWithWord (s.row rod m row) col w v)).row rod' m' row' := by
  unfold State.writeWord
  dsimp only
  split <;> rfl

/-- A word that is written reads as it was written. -/
theorem State.wordOfRow_writeWord (s : State) {rod m row col w : Nat} (v : Nat) (hm : m < 32) (hr : row < 512) (hw : col + w ≤ 72) :
    wordOfRow ((s.writeWord rod m row col w v).row rod m row) col w = v % 2 ^ w := by
  rw [State.row_writeWord, State.row_setRow s _ hm hr hm hr, if_pos ⟨rfl, rfl, rfl⟩, wordOfRow_rowWithWord _ _ hw]

theorem OtherRows.writeWord (s : State) {rod m row : Nat} (col w v : Nat) (hm : m < 32) (hr : row < 512) :
    OtherRows s (s.writeWord rod m row col w v) rod m row := by
  intro rod' m' row' hm' hr' hne
  rw [State.row_writeWord, State.row_setRow s _ hm hr hm' hr', if_neg hne]

theorem Kept.writeWord (s : State) (rod m row col w v : Nat) : Kept s (s.writeWord rod m row col w v) [] [.mem, .cfg] := by
  have hset : Kept s (s.setRow rod m row (rowWithWord (s.row rod m row) col w v)) [] [.mem, .cfg] :=
    (Kept.setRodBits ..).weaken (by simp) (by simp)
  unfold State.writeWord
  dsimp only
  split
  · exact hset.via (Kept.putMem ..) (by simp) (by simp)
  · exact hset

theorem State.reads_writeWord (s : State) (rod m row col w v : Nat) : (s.writeWord rod m row col w v).mem.reads = s.mem.reads := by
  have hreads : (s.setRow rod m row (rowWithWord (s.row rod m row) col w v)).mem.reads = s.mem.reads :=
    congrArg MemState.reads ((Kept.setRodBits ..).areas .mem (by decide))
  unfold State.writeWord
  dsimp only
  split <;> exact hreads

/-- The update of a row lets no work go on. -/
theorem State.calm_writeWord (s : State) {rod m row : Nat} (col w v : Nat) (hk : 640 + 9 * m + 72 * row / 4096 + 1 < 1024) :
    (s.writeWord rod m row col w v).calm = s.calm := by
  have hset : (s.setRow rod m row (rowWithWord (s.row rod m row) col w v)).calm = s.calm := State.calm_setRodBits s _ (by omega) hk
  unfold State.writeWord
  dsimp only
  split
  · rw [← hset]
    exact (Kept.putMem ..).calm (by decide) (by simp)
  · exact hset

-- ------------------------------------------------------------------ beads taken (R46, R50)

/-- A step on the beads of two sinks that meet them takes both. -/
theorem State.withBeads_two {s u : State} {b b' : BeadSink} {v v' : Upset} {x x' : Bead} {f : List Bead → State → Option State}
    (h : s.meets (b, v) x = true) (h' : s.meets (b', v') x' = true) (hf : f [x, x'] s = some u) :
    s.withBeads [(b, v), (b', v')] f = (u.takeBead b x).takeBead b' x' := by
  obtain ⟨hw, hr, hx, -⟩ := (s.meets_iff b v x).1 h
  obtain ⟨hw', hr', hx', -⟩ := (s.meets_iff b' v' x').1 h'
  simp [State.withBeads, hw, hr, hx, hw', hr', hx', allSome, hf]

/-- A bead taken stays taken when another sink takes one. -/
theorem State.took_takeBead_other {s : State} {b : BeadSink} {x : Bead} (h : s.took b x) (b' : BeadSink) {x' : Bead}
    (hx : x'.faults = []) : (s.takeBead b' x').took b x := by
  obtain ⟨hvacant, hacked⟩ := h
  rw [State.takeBead_of_clean s b' hx]
  refine ⟨?_, fun y hy => ?_⟩
  · rw [State.latched_takeFrom]
    simp only [State.latched, State.unlatch, State.putFabric_fabric, Option.map_eq_none_iff, List.find?_eq_none] at hvacant ⊢
    exact fun l hl => hvacant l (List.mem_of_mem_filter hl)
  · have hkeeps : (s.unlatch b').acked b y = true := hacked y hy
    unfold State.takeFrom
    split
    · exact hkeeps
    · simp only [State.acked, State.putFabric_fabric, List.any_append, Bool.or_eq_true] at hkeeps ⊢
      exact .inl hkeeps

/-- A command whose effect is u, behind which handshakes go on to w. -/
theorem Runs.of_handshakes {c : Instr} {s u w : State} {f : State → State} {P : State → Prop} {R : Regs} {A : List Area}
    (hc : exec c s = s.command f) (hs : s.ready = true) (hf : f s = w) (hk : Kept s u R A) (hw : Kept u w [] [.fabric])
    (hcalm : s.calm = true → w.calm = true)
    (hP : ∀ t, Kept u t [] [.fabric] → t.fabric = w.fabric → Kept s t R (A ++ [.fabric]) → P t) : Runs c s P := by
  have hk' : Kept s (f s) R (A ++ [.fabric]) := by
    rw [hf]
    exact (hk.weaken (fun _ h => h) (by simp)).via hw (by simp) (by simp)
  refine Runs.of_calm hc hs hk' (fun h => by rw [hf]; exact hcalm h) fun t _ ht h => ?_
  rw [hf] at ht
  exact hP t (hw.trans ht) (ht.areas .fabric List.not_mem_nil) h

/-- A command whose effect is u, behind which a sink takes its bead. -/
theorem Runs.of_takeBead {c : Instr} {s u : State} {f : State → State} {b : BeadSink} {v : Upset} {x : Bead} {P : State → Prop}
    {R : Regs} {A : List Area} (hc : exec c s = s.command f) (hs : s.ready = true) (hm : s.meets (b, v) x = true)
    (hf : f s = u.takeBead b x) (hk : Kept s u R A) (hu : s.calm = true → u.calm = true)
    (hP : ∀ t, Kept u t [] [.fabric] → t.took b x → Kept s t R (A ++ [.fabric]) → P t) : Runs c s P := by
  obtain ⟨-, -, -, hx⟩ := (s.meets_iff b v x).1 hm
  exact Runs.of_handshakes hc hs hf hk (Kept.takeBead u b hx) (fun h => State.calm_takeBead b hx (hu h)) fun t ht hfab h =>
    hP t ht (State.took_congr hfab (State.took_takeBead u b hx)) h

/-- A command whose effect is u, behind which two sinks take their beads. -/
theorem Runs.of_takeBeads {c : Instr} {s u : State} {f : State → State} {b b' : BeadSink} {v v' : Upset} {x x' : Bead}
    {P : State → Prop} {R : Regs} {A : List Area} (hc : exec c s = s.command f) (hs : s.ready = true) (hm : s.meets (b, v) x = true)
    (hm' : s.meets (b', v') x' = true) (hf : f s = (u.takeBead b x).takeBead b' x') (hk : Kept s u R A)
    (hu : s.calm = true → u.calm = true)
    (hP : ∀ t, Kept u t [] [.fabric] → t.took b x → t.took b' x' → Kept s t R (A ++ [.fabric]) → P t) : Runs c s P := by
  obtain ⟨-, -, -, hx⟩ := (s.meets_iff b v x).1 hm
  obtain ⟨-, -, -, hx'⟩ := (s.meets_iff b' v' x').1 hm'
  have htakes : Kept u ((u.takeBead b x).takeBead b' x') [] [.fabric] :=
    (Kept.takeBead u b hx).via (Kept.takeBead _ b' hx') (by simp) (by simp)
  exact Runs.of_handshakes hc hs hf hk htakes (fun h => State.calm_takeBead b' hx' (State.calm_takeBead b hx (hu h)))
    fun t ht hfab h => hP t ht (State.took_congr hfab (State.took_takeBead_other (State.took_takeBead u b hx) b' hx'))
      (State.took_congr hfab (State.took_takeBead _ b' hx')) h

-- ------------------------------------------------------------------ ports (R93, R95, R96)

/-- A port in use: the memory is one of its rod, and the port has a width. -/
theorem State.portRuns_bounds {s : State} {rod m port : Nat} (h : s.portRuns rod m port = true) :
    m < 32 ∧ s.portCode rod m port ≠ 0 ∧ s.portCode rod m port < 8 := by
  simp only [State.portRuns, Bool.and_eq_true, decide_eq_true_eq, bne_iff_ne] at h
  obtain ⟨⟨⟨-, hm, -⟩, hcode⟩, -⟩ := h
  exact ⟨hm, hcode, Nat.mod_lt _ (by decide)⟩

/-- A port in use reaches words of rows that its memory has. -/
theorem State.placed_fits {s : State} {rod m port : Nat} (h : s.portRuns rod m port = true) (a : Nat) :
    (s.placed rod m port a).1 < 512 ∧ (s.placed rod m port a).2.1 + (s.placed rod m port a).2.2 ≤ 72 := by
  obtain ⟨-, h0, h8⟩ := State.portRuns_bounds h
  exact wordPlace_fits h0 h8 a

section
variable {s : State} {rod m port a : Nat} (hruns : s.portRuns rod m port = true)
  (hclean : s.rowPoisoned rod m (s.placed rod m port a).1 = false)
include hruns hclean

theorem State.portRead_clean : s.portRead rod m port a .clean = s.pushRead rod m port (s.portWord rod m port a) 0 := by
  simp only [State.portRead, hruns, Bool.not_true, Bool.false_eq_true, if_false]
  exact congrArg₂ (fun u x => State.pushRead u rod m port (wordOfRow (u.row rod m _) _ _) x) (State.checkRow_clean hclean)
    (State.rowStatus_clean hclean)

theorem State.portWrite_clean (d : BitVec 72) : s.portWrite rod m port a d .clean =
    s.writeWord rod m (s.placed rod m port a).1 (s.placed rod m port a).2.1 (s.placed rod m port a).2.2 d.toNat := by
  simp only [State.portWrite, hruns, Bool.not_true, Bool.false_eq_true, if_false]
  exact congrArg (fun u => State.writeWord u rod m _ _ _ _) (State.checkRow_clean hclean)

theorem State.portReadWrite_clean (d : BitVec 72) : s.portReadWrite rod m port a d .clean =
    (s.pushRead rod m port (s.portWord rod m port a) 0).writeWord rod m (s.placed rod m port a).1 (s.placed rod m port a).2.1
      (s.placed rod m port a).2.2 d.toNat := by
  simp only [State.portReadWrite, hruns, Bool.not_true, Bool.false_eq_true, if_false]
  exact congrArg₂ (fun u x => State.writeWord (State.pushRead u rod m port (wordOfRow (u.row rod m _) _ _) x) rod m _ _ _ _)
    (State.checkRow_clean hclean) (State.rowStatus_clean hclean)

end

section
variable {s : State} {rod m port : Nat} {upset : Upset} {b d : Bead} {ds : List Digit} (x : EccFinding)
  (hreq : s.meets (.memReq rod m port, upsetPart upset 0 9) b = true)
include hreq

theorem State.portOperation_read (hclear : s.portClear rod m port = true) (hb : b.digits = 0 :: ds) :
    s.portOperation 0 rod m port upset x = (s.portRead rod m port (digitsNat ds) x).takeBead (.memReq rod m port) b := by
  rw [State.portOperation, show writesRow 0 = false from rfl]
  exact State.withBeads_one hreq (by simp [hb, hclear])

theorem State.portOperation_write (hdata : s.meets (.memData rod m port, upsetPart upset 9 36) d = true) (hb : b.digits = 1 :: ds) :
    s.portOperation 1 rod m port upset x =
      ((s.portWrite rod m port (digitsNat ds) (BitVec.ofNat 72 d.num) x).takeBead (.memReq rod m port) b).takeBead
        (.memData rod m port) d := by
  rw [State.portOperation, show writesRow 1 = true from rfl]
  exact State.withBeads_two hreq hdata (by simp [hb, readsRow])

theorem State.portOperation_readWrite (hdata : s.meets (.memData rod m port, upsetPart upset 9 36) d = true)
    (hclear : s.portClear rod m port = true) (hb : b.digits = 2 :: ds) :
    s.portOperation 2 rod m port upset x =
      ((s.portReadWrite rod m port (digitsNat ds) (BitVec.ofNat 72 d.num) x).takeBead (.memReq rod m port) b).takeBead
        (.memData rod m port) d := by
  rw [State.portOperation, show writesRow 2 = true from rfl]
  exact State.withBeads_two hreq hdata (by simp [hb, hclear])

theorem State.portOperation_nop (hb : b.digits.head? = some 3) :
    s.portOperation 3 rod m port upset x = s.takeBead (.memReq rod m port) b := by
  rw [State.portOperation, show writesRow 3 = false from rfl]
  exact State.withBeads_one hreq (by simp [hb, readsRow])

end

theorem Kept.pushRead (s : State) (rod m port data : Nat) (status : BitVec 2) : Kept s (s.pushRead rod m port data status) [] [.mem] :=
  Kept.putMem ..

/-- Into clear read channels a read puts its bead alone, and its status where the port has one. -/
theorem State.pushRead_of_clear {s : State} {rod m port : Nat} (h : s.portClear rod m port = true) (data : Nat) (status : BitVec 2) :
    Sparse.get [] (s.pushRead rod m port data status).mem.reads (portKey rod m port) = [BitVec.ofNat 72 data] ∧
    Sparse.get [] (s.pushRead rod m port data status).mem.statuses (portKey rod m port) =
      (if s.portStatus rod m port then [status] else []) := by
  simp only [State.portClear, Bool.and_eq_true, List.isEmpty_iff] at h
  obtain ⟨⟨⟨hreads, hstatuses⟩, -⟩, -⟩ := h
  simp only [State.pushRead, State.putMem_mem, Sparse.get_set_same, hreads, List.nil_append, true_and]
  split <;> simp [hstatuses]

-- ------------------------------------------------------------------ the commands of the ports

theorem Runs.readRow {s : State} {rod m port : Nat} {upset : Upset} {b : Bead} {ds : List Digit} (hs : s.ready = true)
    (hruns : s.portRuns rod m port = true) (hclear : s.portClear rod m port = true)
    (hreq : s.meets (.memReq rod m port, upsetPart upset 0 9) b = true) (hb : b.digits = 0 :: ds)
    (hclean : s.rowPoisoned rod m (s.placed rod m port (digitsNat ds)).1 = false) :
    Runs (.readRow rod m port upset .clean) s fun t =>
      Sparse.get [] t.mem.reads (portKey rod m port) = [BitVec.ofNat 72 (s.portWord rod m port (digitsNat ds))] ∧
      Sparse.get [] t.mem.statuses (portKey rod m port) = (if s.portStatus rod m port then [0] else []) ∧
      t.took (.memReq rod m port) b ∧ Kept s t [] [.mem, .fabric] := by
  have hf := State.portOperation_read .clean hreq hclear hb
  rw [State.portRead_clean hruns hclean] at hf
  have hk := Kept.pushRead s rod m port (s.portWord rod m port (digitsNat ds)) 0
  refine Runs.of_takeBead (f := fun s => s.portOperation 0 rod m port upset .clean) rfl hs hreq hf hk
    (fun h => by rwa [hk.calm (by decide) (by simp)]) fun t ht htook h => ?_
  have hmem : t.mem = _ := ht.areas .mem (by decide)
  obtain ⟨hreads, hstatuses⟩ := State.pushRead_of_clear hclear (s.portWord rod m port (digitsNat ds)) 0
  rw [hmem]
  exact ⟨hreads, hstatuses, htook, h⟩

theorem State.row_congr {s t : State} (h : t.cfg = s.cfg) : t.row = s.row := by
  have hframe : t.frame = s.frame := funext fun rod => funext fun k => by simp only [State.frame, h]
  funext rod m row
  simp only [State.row, State.rodBits, hframe]

/-- A write of a port's word: its own row reads it, the others are as before. -/
theorem State.rows_of_written {s u t : State} {rod m port a n : Nat} (hruns : s.portRuns rod m port = true) (hu : u.cfg = s.cfg)
    (ht : t.cfg = (u.writeWord rod m (s.placed rod m port a).1 (s.placed rod m port a).2.1 (s.placed rod m port a).2.2
      (BitVec.ofNat 72 n).toNat).cfg) :
    t.row rod m (s.placed rod m port a).1 / 2 ^ (s.placed rod m port a).2.1 % 2 ^ (s.placed rod m port a).2.2 =
      n % 2 ^ (s.placed rod m port a).2.2 ∧ OtherRows s t rod m (s.placed rod m port a).1 := by
  obtain ⟨hm, -, -⟩ := State.portRuns_bounds hruns
  obtain ⟨hrow, hword⟩ := State.placed_fits hruns a
  have hdata : (BitVec.ofNat 72 n).toNat % 2 ^ (s.placed rod m port a).2.2 = n % 2 ^ (s.placed rod m port a).2.2 := by
    rw [BitVec.toNat_ofNat, Nat.mod_mod_of_dvd _ (Nat.pow_dvd_pow 2 (by omega))]
  refine ⟨?_, fun rod' m' row' hm' hr' hne => ?_⟩
  · rw [State.row_congr ht, ← hdata]
    exact u.wordOfRow_writeWord _ hm hrow hword
  · rw [State.row_congr ht, ← State.row_congr hu]
    exact OtherRows.writeWord u _ _ _ hm hrow rod' m' row' hm' hr' hne

/-- A port's write lets no work go on. -/
theorem State.calm_written {s u : State} {rod m port a v : Nat} (hruns : s.portRuns rod m port = true) (hu : u.calm = true) :
    (u.writeWord rod m (s.placed rod m port a).1 (s.placed rod m port a).2.1 (s.placed rod m port a).2.2 v).calm = true := by
  obtain ⟨hm, -, -⟩ := State.portRuns_bounds hruns
  obtain ⟨hrow, -⟩ := State.placed_fits hruns a
  rwa [State.calm_writeWord _ _ _ _ (by omega)]

section
variable {s : State} {rod m port : Nat} {upset : Upset} {b d : Bead} {ds : List Digit} (hs : s.ready = true)
  (hruns : s.portRuns rod m port = true) (hreq : s.meets (.memReq rod m port, upsetPart upset 0 9) b = true)
  (hdata : s.meets (.memData rod m port, upsetPart upset 9 36) d = true)
  (hclean : s.rowPoisoned rod m (s.placed rod m port (digitsNat ds)).1 = false)
include hs hruns hreq hdata hclean

theorem Runs.writeRow (hb : b.digits = 1 :: ds) :
    Runs (.writeRow rod m port upset .clean) s fun t =>
      t.row rod m (s.placed rod m port (digitsNat ds)).1 / 2 ^ (s.placed rod m port (digitsNat ds)).2.1 %
          2 ^ (s.placed rod m port (digitsNat ds)).2.2 = d.num % 2 ^ (s.placed rod m port (digitsNat ds)).2.2 ∧
      OtherRows s t rod m (s.placed rod m port (digitsNat ds)).1 ∧ t.took (.memReq rod m port) b ∧
      t.took (.memData rod m port) d ∧ Kept s t [] [.mem, .cfg, .fabric] := by
  have hf := State.portOperation_write .clean hreq hdata hb
  rw [State.portWrite_clean hruns hclean] at hf
  refine Runs.of_takeBeads (f := fun s => s.portOperation 1 rod m port upset .clean) rfl hs hreq hdata hf (Kept.writeWord ..)
    (State.calm_written hruns) fun t ht htook htook' h => ?_
  obtain ⟨hword, hothers⟩ := State.rows_of_written hruns rfl (ht.areas .cfg (by decide))
  exact ⟨hword, hothers, htook, htook', h⟩

theorem Runs.readWrite (hclear : s.portClear rod m port = true) (hb : b.digits = 2 :: ds) :
    Runs (.readWrite rod m port upset .clean) s fun t =>
      t.row rod m (s.placed rod m port (digitsNat ds)).1 / 2 ^ (s.placed rod m port (digitsNat ds)).2.1 %
          2 ^ (s.placed rod m port (digitsNat ds)).2.2 = d.num % 2 ^ (s.placed rod m port (digitsNat ds)).2.2 ∧
      OtherRows s t rod m (s.placed rod m port (digitsNat ds)).1 ∧
      Sparse.get [] t.mem.reads (portKey rod m port) = [BitVec.ofNat 72 (s.portWord rod m port (digitsNat ds))] ∧
      Kept s t [] [.mem, .cfg, .fabric] := by
  have hf := State.portOperation_readWrite .clean hreq hdata hclear hb
  rw [State.portReadWrite_clean hruns hclean] at hf
  have hpush := Kept.pushRead s rod m port (s.portWord rod m port (digitsNat ds)) 0
  refine Runs.of_takeBeads (R := []) (A := [.mem, .cfg]) (f := fun s => s.portOperation 2 rod m port upset .clean) rfl hs hreq hdata hf
    ((hpush.weaken (by simp) (by simp)).via (Kept.writeWord ..) (by simp) (by simp))
    (fun h => State.calm_written hruns (by rwa [hpush.calm (by decide) (by simp)])) fun t ht _ _ h => ?_
  obtain ⟨hword, hothers⟩ := State.rows_of_written (u := s.pushRead ..) hruns rfl (ht.areas .cfg (by decide))
  have hmem : t.mem = _ := ht.areas .mem (by decide)
  obtain ⟨hreads, -⟩ := State.pushRead_of_clear hclear (s.portWord rod m port (digitsNat ds)) 0
  exact ⟨hword, hothers, by rw [hmem, State.reads_writeWord, hreads], h⟩

end

theorem Runs.nopPort {s : State} {rod m port : Nat} {upset : Upset} {b : Bead} (hs : s.ready = true)
    (hreq : s.meets (.memReq rod m port, upsetPart upset 0 9) b = true) (hb : b.digits.head? = some 3) :
    Runs (.nopPort rod m port upset) s fun t => t.took (.memReq rod m port) b ∧ Kept s t [] [.fabric] :=
  Runs.of_takeBead (f := fun s => s.portOperation 3 rod m port upset .clean) rfl hs hreq (State.portOperation_nop .clean hreq hb)
    (Kept.refl s) id fun _ _ htook h => ⟨htook, h⟩

-- ------------------------------------------------------------------ row scrubs (R93, R100)

/-- A scrub that finds nothing: the next row is next, and the interval begins anew. -/
def State.scrubbed (s : State) (rod m : Nat) : State :=
  s.putMem { s.mem with
    scrubRow := Sparse.set 0 s.mem.scrubRow (memKey rod m) ((Sparse.get 0 s.mem.scrubRow (memKey rod m) + 1) % 512)
    scrubbedAt := Sparse.set 0 s.mem.scrubbedAt (memKey rod m) s.time }

/-- The tick at which a memory's next row scrub is due. -/
def State.scrubDue (s : State) (rod m : Nat) : DWord :=
  Sparse.get 0 s.mem.scrubbedAt (memKey rod m) + BitVec.ofNat 64 (s.scrubInterval rod m)

/-- TIME has reached what it was advanced to. -/
theorem State.le_advanceTo_time (s : State) (x : DWord) : x ≤ (s.advanceTo x).time := by
  unfold State.advanceTo
  split
  · exact BitVec.le_refl x
  · exact BitVec.le_def.2 (by omega)

section
variable {s : State} {rod m : Nat} (hrod : rod < Part.rods s.part) (hm : m < 32) (hon : recBits (s.memRecord rod m) 8 1 ≠ 0)
  (hgated : s.gated rod = false) (hpaused : s.rowMovesPaused rod = false)
  (hclean : s.rowPoisoned rod m (Sparse.get 0 s.mem.scrubRow (memKey rod m)) = false)
include hrod hm hon hgated hpaused hclean

theorem State.rowScrub_clean : s.rowScrub rod m .clean = (s.advanceTo (s.scrubDue rod m)).scrubbed rod m := by
  have hclean' : (s.advanceTo (s.scrubDue rod m)).rowPoisoned rod m
      (Sparse.get 0 (s.advanceTo (s.scrubDue rod m)).mem.scrubRow (memKey rod m)) = false := by
    simpa only [State.rowPoisoned, State.advanceTo_mem] using hclean
  have hon' : (recBits (s.memRecord rod m) 8 1 == 0) = false := beq_eq_false_iff_ne.2 hon
  simp only [State.rowScrub, hrod, hm, hon', hgated, hpaused, and_self, decide_true, Bool.not_true, Bool.or_self, Bool.false_eq_true,
    if_false]
  rw [← State.scrubDue, State.rowStatus_clean hclean', State.countQueueEcc_clean, State.checkRow_clean hclean', State.scrubbed]

theorem Runs.rowScrub (hs : s.ready = true) :
    Runs (.rowScrub rod m .clean) s fun t =>
      Sparse.get 0 t.mem.scrubRow (memKey rod m) = (Sparse.get 0 s.mem.scrubRow (memKey rod m) + 1) % 512 ∧
      Sparse.get 0 s.mem.scrubbedAt (memKey rod m) + BitVec.ofNat 64 (2 ^ (recBits (s.memRecord rod m) 9 3 + 10)) ≤ t.time ∧
      Kept s t [] [.mem, .clock] := by
  have hf := State.rowScrub_clean hrod hm hon hgated hpaused hclean
  have hscrubbed : Kept (s.advanceTo (s.scrubDue rod m)) ((s.advanceTo (s.scrubDue rod m)).scrubbed rod m) [] [.mem] := Kept.putMem ..
  have hk : Kept s (s.rowScrub rod m .clean) [] [.mem, .clock] := by
    rw [hf]
    exact ((Kept.advanceTo s _).weaken (by simp) (by simp)).via hscrubbed (by simp) (by simp)
  refine Runs.of_command (f := fun s => s.rowScrub rod m .clean) rfl hs hk (by decide) (by simp) fun t _ ht h => ?_
  simp only [hf] at ht
  have hmem : t.mem = _ := ht.areas .mem (by simp)
  obtain ⟨htime, -⟩ := (hscrubbed.trans ht).areas .clock (by decide)
  refine ⟨?_, ?_, h⟩
  · rw [hmem]
    simp [State.scrubbed]
  · rw [htime]
    exact State.le_advanceTo_time s _

end

/-- Settles O11: a clause for each command, from what its operation is on a row that reads clean. -/
theorem blockMemories : Obligations.BlockMemories :=
  ⟨fun _ _ _ _ _ _ _ hs hruns hclear hreq hb hclean => Runs.readRow hs hruns hclear hreq hb hclean,
    fun _ _ _ _ _ _ _ _ hs hruns hreq hdata hb hclean => Runs.writeRow hs hruns hreq hdata hclean hb,
    fun _ _ _ _ _ _ _ _ hs hruns hclear hreq hdata hb hclean => Runs.readWrite hs hruns hreq hdata hclean hclear hb,
    fun _ _ _ _ _ _ hs hreq hb => Runs.nopPort hs hreq hb,
    fun _ _ _ hs hrod hm hon hgated hpaused hclean => Runs.rowScrub hrod hm hon hgated hpaused hclean hs⟩

end Sys2Proof.Machine
end

section
/-! PROOF. What a command leaves as it is while a load is under way does not hold of every ready state: a load in progress is work,
and the engines that go on with it may fetch a host DMA descriptor that was posted (R364). -/

namespace Sys2Proof.Machine

/-- A command that keeps the host interface adds no read of host memory. -/
theorem hostReads_of_kept {c : Instr} {s t : State} {R : Regs} {A : List Area} (ht : exec c s = .next t) (hk : Kept s t R A)
    (hA : Area.host ∉ A) : hostReads (exec c s) = s.host.reads.length := by
  have hhost : t.host = s.host := hk.areas .host hA
  rw [ht, hostReads, hhost]

/-- `descriptorPosted` after its power-up self-test: CMD LOAD takes a full image from the host window. -/
def descriptorLoad : State := descriptorPosted.setF F.REPAIR_STATUS_PUST_DONE 0 1

/-- A full image from the host window of 4 KiB, at its first command word. -/
def imageAtCommand : Load :=
  { newLoad .full 2 0 jtagWho with phase := .command, offset := 256, header := [0, 0, 0, 0, 0x1000] }

/-- `descriptorPosted` while that image loads. -/
def descriptorImage : State := descriptorPosted.setLoad (some imageAtCommand)

theorem hostReads_loadCmd : hostReads (exec (.loadCmd jtagWho) descriptorLoad) ≠ descriptorLoad.host.reads.length := by
  decide +kernel

theorem hostReads_far : hostReads (exec (.far 0) descriptorImage) ≠ descriptorImage.host.reads.length := by decide +kernel

theorem hostReads_guardPower : hostReads (exec (.guardPower 0) descriptorImage) ≠ descriptorImage.host.reads.length := by
  decide +kernel

/-- Refutes O13: CMD LOAD begins a load, and the descriptor of host DMA channel 0 is fetched with it, so the state of the host
interface is not left as it was. -/
theorem not_loads : ¬ Obligations.Loads := by
  unfold Obligations.Loads
  rintro ⟨hload, -⟩
  obtain ⟨t, ht, -, -, hk⟩ := hload descriptorLoad jtagWho (by decide +kernel) (by decide +kernel) (by decide +kernel)
    (by decide +kernel)
  exact hostReads_loadCmd (hostReads_of_kept ht hk (by decide))

/-- Refutes O14: FAR leaves the load of `descriptorImage` in progress, and the descriptor of host DMA channel 0 is fetched with
it. -/
theorem not_streamRegisters : ¬ Obligations.StreamRegisters := by
  unfold Obligations.StreamRegisters
  rintro ⟨hfar, -⟩
  obtain ⟨t, ht, -, hk⟩ := hfar descriptorImage imageAtCommand 0 (by decide +kernel) (by decide) (by decide +kernel)
  exact hostReads_far (hostReads_of_kept ht hk (by decide))

/-- Refutes O15: GUARD_POWER leaves the load of `descriptorImage` in progress, and the descriptor of host DMA channel 0 is fetched
with it. -/
theorem not_imageContents : ¬ Obligations.ImageContents := by
  unfold Obligations.ImageContents
  rintro ⟨-, -, -, hpower, -⟩
  obtain ⟨t, ht, -, hk⟩ := hpower descriptorImage imageAtCommand 0 (by decide +kernel)
  exact hostReads_guardPower (hostReads_of_kept ht hk (by decide))

end Sys2Proof.Machine
end

section
/-! PROOF. END of an image that passes its checks (R130, R143): a full image's START enters the Beam (R149), and the span of a partial
image goes to RELEASING (R164), which lets no work go on that waits. -/

namespace Sys2Proof.Machine

-- ------------------------------------------------------------------ what no load's end sets going

/-- A command whose effect leaves the part calm, whatever was under way before. -/
theorem Runs.of_calmed {c : Instr} {s : State} {f : State → State} {P : State → Prop} {R : Regs} {A : List Area}
    (hc : exec c s = s.command f) (hp : s.dev.porst = false) (k : Kept s (f s) R A) (hcalm : (f s).calm = true)
    (hP : ∀ t, (∀ r i, isPend r = false → t.word r i = (f s).word r i) → Kept (f s) t [] [] → Kept s t R A → P t) :
    Runs c s P := by
  have hbecame : s.became (f s) = f s := k.became_self
  refine ⟨(f s).settle, ?_, hP _ (fun r i hr => (f s).settle_word r i hr) (f s).settle_quiet.toKept ?_⟩
  · simp [hc, State.command, hp, State.ends, State.work_calm hcalm, hbecame]
  · simpa [hbecame] using Kept.became k

/-- Which entries of a CS-F can move does not depend on the states of spans. -/
theorem State.csfDue_of_takes {s t : State} (hn : t.net = s.net) (htakes : t.niTakes = s.niTakes) (hstation : t.station = s.station)
    (hfence : t.fence = s.fence) : t.csfDue = s.csfDue := by
  have hni : t.ni = s.ni := funext fun n => by simp only [State.ni, hn]
  have hwaits : t.requestWaits = s.requestWaits := funext fun n => funext fun r => by
    simp only [State.requestWaits, State.fabricFault, State.freeTag, State.tagTaken, State.responseRoom, State.reservedUnits, hni]
    rfl
  have hreads : t.readsUp = s.readsUp := funext fun n => by
    simp only [State.readsUp, hni, htakes, hwaits]
  have hmoves : t.csfMoves = s.csfMoves := funext fun n => by
    simp only [State.csfMoves, State.nextCrossing, State.mayCross, hni, hstation, hfence, hreads]
  simp only [State.csfDue, hmoves, hn]

/-- The channels that can pass a bead depend on what the NIs hold and on the source codes of the rods. -/
theorem State.channelMoves_congr {s t : State} (hni : t.ni = s.ni) (hcodes : t.rodCodes = s.rodCodes) :
    t.channelMoves = s.channelMoves := by
  have hhead (n c : Nat) : (t.channelHead n c).isSome = (s.channelHead n c).isSome := by
    unfold State.channelHead
    rw [hni]
    split <;> simp [Option.isSome_map]
  funext n c
  simp only [State.channelMoves, State.channelRouted, hni, hcodes, hhead]

/-- Where more rods are gated, no edge station can move that could not. -/
theorem State.edgesDue_of_gated {s t : State} (hn : t.net = s.net) (hf : t.fabric = s.fabric) (htakes : t.niTakes = s.niTakes)
    (hstation : t.station = s.station) (hcodes : t.rodCodes = s.rodCodes)
    (hgated : ∀ rod, s.gated rod = true → t.gated rod = true) (hs : s.edgesDue = false) : t.edgesDue = false := by
  have hni : t.ni = s.ni := funext fun n => by simp only [State.ni, hn]
  have hmoves := State.channelMoves_congr hni hcodes
  have hclear : t.clear = s.clear := funext fun x => by simp only [State.clear, hf]
  have hpasses (n : Nat) (h : t.edgePasses n = true) : s.edgePasses n = true := by
    simp only [State.edgePasses, hstation, Bool.and_eq_true, Bool.not_eq_true'] at h ⊢
    exact ⟨h.1, Bool.eq_false_iff.2 fun hg => by simp [hgated _ hg] at h⟩
  have hedges (n : Nat) (h : t.edgeMoves n = true) : s.edgeMoves n = true := by
    simp only [State.edgeMoves, State.iqTakes, hni, htakes, hmoves, Bool.and_eq_true] at h ⊢
    exact ⟨h.1, hpasses n h.2⟩
  simp only [State.edgesDue, State.busyEdges, hn, hf, hclear, Bool.or_eq_false_iff, Bool.not_eq_false', List.isEmpty_iff,
    List.filter_eq_nil_iff] at hs ⊢
  exact ⟨hs.1, fun n hn h => hs.2 n hn (hedges n h)⟩

section
variable (s : State) (n v : Nat)

@[simp] theorem State.setSpan_part : (s.setSpan n v).part = s.part := rfl
@[simp] theorem State.setSpan_cfg : (s.setSpan n v).cfg = s.cfg := rfl
@[simp] theorem State.setSpan_repair : (s.setSpan n v).repair = s.repair := rfl
@[simp] theorem State.setSpan_record : (s.setSpan n v).record = s.record := rfl

/-- A span's state stands in a register of its own. -/
theorem State.f_setSpan {G : Fld} (hG : G.reg ≠ .CFG_SPAN_STATUS) (i : Nat) : (s.setSpan n v).f G i = s.f G i :=
  State.f_setF_other _ _ _ _ _ _ (by decide) (.inl hG)

theorem State.station_setSpan : (s.setSpan n v).station = s.station := funext fun i => s.f_setSpan n v (by decide) i

theorem State.fence_setSpan : (s.setSpan n v).fence = s.fence := funext fun i => s.f_setSpan n v (by decide) i

theorem State.niTakes_setSpan : (s.setSpan n v).niTakes = s.niTakes := funext fun i => by
  have hrun : (s.setSpan n v).funcState (.ni i) = s.funcState (.ni i) := s.f_setSpan n v (by simp [funcRegs]) _
  simp only [State.niTakes, hrun, s.station_setSpan, s.fence_setSpan, State.setSpan_part]

variable {s n v} (hv : v % 8 ≠ 1 ∧ v % 8 ≠ 2)
include hv

/-- In a state but RUNNING and DRAINING a span opens no gates (R161, R164). -/
theorem State.spanClosed_setSpan {k : Nat} (h : s.spanClosed k = true) : (s.setSpan n v).spanClosed k = true := by
  rcases eq_or_ne k n with rfl | hk
  · have hstate : (s.setSpan k v).spanState k = v % 8 := State.f_setF_same _ _ _ _ (by decide)
    simp_all [State.spanClosed]
  · have hstate : (s.setSpan n v).spanState k = s.spanState k := State.f_setF_other _ _ _ _ _ _ (by decide) (.inr (.inl hk))
    simpa [State.spanClosed, hstate] using h

theorem State.gated_setSpan {rod : Nat} (h : s.gated rod = true) : (s.setSpan n v).gated rod = true := by
  have hregion : (s.setSpan n v).word .PWR_REGION_STATUS 0 = s.word .PWR_REGION_STATUS 0 := (Kept.setF ..).regs _ _ rfl (by simp)
  simp only [State.gated, State.on, s.f_setSpan n v (G := F.DEV_STATUS_USER_MODE) (by decide), hregion, Bool.or_eq_true,
    Option.any_eq_true] at h ⊢
  obtain (hfabric | ⟨d, hd, hclosed⟩) | hoff := h
  · exact .inl (.inl hfabric)
  · exact .inl (.inr ⟨d, hd, State.spanClosed_setSpan hv hclosed⟩)
  · exact .inr hoff

/-- A span that opens no gates lets no work go on that waits. -/
theorem State.calm_setSpan (hs : s.calm = true) : (s.setSpan n v).calm = true := by
  rw [State.calm_iff] at hs ⊢
  obtain ⟨hdue, hended, hresume, hpieces, hdma, hload, htransfer, hqueued, hreset, hedges, hcsf, hmarkers, hrepair⟩ := hs
  refine ⟨hdue, hended, hresume, hpieces, hdma, hload, htransfer, hqueued, hreset,
    State.edgesDue_of_gated (s := s) rfl rfl (s.niTakes_setSpan n v) (s.station_setSpan n v) rfl
      (fun _ => State.gated_setSpan hv) hedges,
    (State.csfDue_of_takes (s := s) (t := s.setSpan n v) rfl (s.niTakes_setSpan n v) (s.station_setSpan n v)
      (s.fence_setSpan n v)).trans hcsf,
    hmarkers, ?_⟩
  simpa [State.repairWaits, State.boundary, State.phase, s.f_setSpan n v (G := F.RECORD_STATUS_PHASE) (by decide)] using hrepair

end

-- ------------------------------------------------------------------ the END word and the CRC word (R130, R143)

/-- The load is of an image for configuration memory. -/
def Load.isImage (l : Load) : Prop := l.kind = .full ∨ ∃ n, l.kind = .span n

/-- The load after an END word that passes: the CRC word is due. -/
def Load.ended (l : Load) : Load :=
  { l with
    phase := .crc, offset := l.offset + 4, crcMark := l.crc
    crc := crcWord l.crc 0xF0000000#32, sha := shaWord l.sha 0xF0000000#32 }

/-- A load may end: each frame of each rod is covered, and a full image has its START (R143, R149). -/
def State.covered (s : State) (l : Load) : Prop :=
  l.kind = .full → l.started = true ∧ ∀ rod, rod < Part.rods s.part → Sparse.get 0 l.cover rod = BitVec.allOnes 960

theorem State.loadsAt_iff (s : State) (l : Load) (p : LoadPhase) : s.loadsAt l p = true ↔
    (s.setLoad none).ready = true ∧ s.cfg.load = some l ∧ l.phase = p ∧ l.src ≠ 3 := by
  simp [State.loadsAt, and_assoc]

@[simp] theorem State.setLoad_load (s : State) (x : Option Load) : (s.setLoad x).cfg.load = x := rfl
@[simp] theorem State.setLoad_setLoad (s : State) (x y : Option Load) : (s.setLoad x).setLoad y = s.setLoad y := rfl

theorem State.feed_command {s : State} {l : Load} (hl : s.cfg.load = some l) (hp : l.phase = .command) (hi : l.isImage) (w : Word) :
    s.feed w = s.commandWord
      { l with crcMark := l.crc, crc := crcWord l.crc w, sha := shaWord l.sha w, offset := l.offset + 4 } w l.offset := by
  rcases hi with hk | ⟨n, hk⟩ <;> simp [State.feed, hl, hp, hk]

theorem State.feed_crc {s : State} {l : Load} (hl : s.cfg.load = some l) (hp : l.phase = .crc) (hi : l.isImage) :
    s.feed (crcValue l.crc) = s.crcPassed l := by
  rcases hi with hk | ⟨n, hk⟩ <;> simp [State.feed, hl, hp, hk]

theorem State.crcPassed_setLoad (s : State) (x : Option Load) {l : Load} (hi : l.isImage) :
    (s.setLoad x).crcPassed l = s.crcPassed l := by
  rcases hi with hk | ⟨n, hk⟩ <;> simp only [State.crcPassed, hk] <;> rfl

/-- END stands in the last place but one of the image (R133). -/
theorem State.commandWord_end (s : State) {l : Load} {off : Nat} (hoff : off = headerLength l.header - 8) :
    s.commandWord l 0xF0000000#32 off = s.endWord l off := by
  simp [State.commandWord, hoff]

theorem State.endWord_of_covered {s : State} {l : Load} (off : Nat) (hc : s.covered l) (hd : shaDigest l.sha = headerDigest l.header) :
    s.endWord l off = s.setLoad (some { l with phase := .crc }) := by
  have hwhole : ¬ (l.kind == .full && !(((List.range (Part.rods s.part)).all fun rod =>
      Sparse.get 0 l.cover rod == BitVec.allOnes 960) && l.started)) = true := by
    simp only [Bool.and_eq_true, beq_iff_eq, Bool.not_eq_true', not_and, Bool.not_eq_false, List.all_eq_true, List.mem_range]
    exact fun hk => ⟨(hc hk).2, (hc hk).1⟩
  simp only [State.endWord, if_neg hwhole, hd, bne_self_eq_false, Bool.false_eq_true, if_false]

theorem State.feed_end {s : State} {l : Load} (hl : s.cfg.load = some l) (hp : l.phase = .command) (hi : l.isImage)
    (hoff : l.offset = headerLength l.header - 8) (hcovered : s.covered l)
    (hdigest : shaDigest (shaWord l.sha 0xF0000000#32) = headerDigest l.header) :
    s.feed 0xF0000000#32 = s.setLoad (some l.ended) := by
  rw [State.feed_command hl hp hi]
  exact (State.commandWord_end s (by exact hoff)).trans (State.endWord_of_covered _ hcovered hdigest)

/-- END and a CRC word that agrees: the image has passed. -/
theorem State.feedAll_end {s : State} {l : Load} (hl : s.cfg.load = some l) (hp : l.phase = .command) (hi : l.isImage)
    (hoff : l.offset = headerLength l.header - 8) (hcovered : s.covered l)
    (hdigest : shaDigest (shaWord l.sha 0xF0000000#32) = headerDigest l.header) :
    s.feedAll [0xF0000000#32, crcValue (crcWord l.crc 0xF0000000#32)] = s.crcPassed l.ended := by
  calc s.feedAll [0xF0000000#32, crcValue (crcWord l.crc 0xF0000000#32)]
    _ = (s.setLoad (some l.ended)).feed (crcValue l.ended.crc) := by
        rw [← State.feed_end hl hp hi hoff hcovered hdigest]
        rfl
    _ = (s.setLoad (some l.ended)).crcPassed l.ended := State.feed_crc rfl rfl hi
    _ = s.crcPassed l.ended := s.crcPassed_setLoad _ hi

theorem State.feedCommand_image {s : State} {l : Load} (hl : s.cfg.load = some l) (hp : l.phase = .command) (hi : l.isImage)
    (ws : List Word) : s.feedCommand ws = s.feedAll ws := by
  rcases hi with hk | ⟨n, hk⟩ <;> simp [State.feedCommand, State.atCommand, hl, hp, hk]

-- ------------------------------------------------------------------ the START command (R135, R149)

/-- The load after the command word of a WRITE of CMD. -/
def Load.cmdDue (l : Load) : Load :=
  { l with
    phase := .data 1 3 l.offset 1, words := [], offset := l.offset + 4, crcMark := l.crc
    crc := crcWord l.crc 0x10030001#32, sha := shaWord l.sha 0x10030001#32 }

/-- The load after a WRITE of START to CMD. -/
def Load.withStart (l : Load) : Load := { l.took [0x10030001#32, 1] with started := true }

section
variable {s : State} {l : Load} (hk : l.kind = .full) (hoff : l.offset + 16 = headerLength l.header)
include hk hoff

theorem State.feed_cmd (hl : s.cfg.load = some l) (hp : l.phase = .command) :
    s.feed 0x10030001#32 = s.setLoad (some l.cmdDue) := by
  have hlast : l.offset ≠ headerLength l.header - 8 := by omega
  rw [State.feed_command hl hp (.inl hk)]
  simp [State.commandWord, hlast, State.registerFault, Load.cmdDue]

/-- START is taken where it stands last before END (R135). -/
theorem State.feed_start (hp : l.phase = .command) : (s.setLoad (some l.cmdDue)).feed 1 = s.setLoad (some l.withStart) := by
  have hlast : l.offset + 4 ≠ headerLength l.header - 8 := by omega
  simp [State.feed, Load.cmdDue, hk, Load.crcValueNext, State.dataWord, hlast, State.registerWritten, hoff,
    Load.withStart, Load.took, hp]

theorem State.feedAll_start (hl : s.cfg.load = some l) (hp : l.phase = .command) (ws : List Word) :
    s.feedAll (0x10030001#32 :: 1 :: ws) = (s.setLoad (some l.withStart)).feedAll ws := by
  rw [← State.feed_start hk hoff hp, ← State.feed_cmd hk hoff hl hp]
  rfl

end

-- ------------------------------------------------------------------ what follows (R149, R164)

/-- A full image has passed: its START is to act, and no load runs. -/
def State.toStart (s : State) (l : Load) : State := s.putCfg { s.cfg with load := none, starting := some l }

/-- A partial image has passed: its span is RELEASING, and the span operation notes its digest. -/
def State.toRelease (s : State) (l : Load) (n : Nat) : State :=
  let s := (s.setLoad none).setSpan n 6
  s.putCfg { s.cfg with spanOp := s.cfg.spanOp.map fun o => { o with newDigest := headerDigest l.header } }

theorem State.crcPassed_full (s : State) {l : Load} (hk : l.kind = .full) : s.crcPassed l = (s.toStart l).enterNext (.direct 38) := by
  simp only [State.crcPassed, hk, State.toStart]

theorem State.crcPassed_span (s : State) {l : Load} {n : Nat} (hk : l.kind = .span n) (hscrub : l.scrub = none) :
    s.crcPassed l = (s.toRelease l n).engineIdle := by
  simp only [State.crcPassed, hk, hscrub]
  rfl

theorem Kept.toStart (s : State) (l : Load) : Kept s (s.toStart l) [] [.cfg] := Kept.putCfg ..

theorem Kept.toRelease (s : State) (l : Load) (n : Nat) : Kept s (s.toRelease l n) [(.CFG_SPAN_STATUS, n)] [.cfg] :=
  ((Kept.putCfg s _).trans (Kept.setF _ F.CFG_SPAN_STATUS_STATE n 6)).via (Kept.putCfg ..) (by simp) (by simp)

theorem State.calm_toStart {s : State} (l : Load) (h : (s.setLoad none).calm = true) : (s.toStart l).calm = true := by
  have hreset : (s.toStart l).resetIsDue = false := by
    simp [State.resetIsDue, State.fabricResetWaits, State.loading, State.toStart]
  obtain ⟨-, -, -, -, -, -, -, -, hnone, -⟩ := (State.calm_iff _).1 h
  have hsame : SameWork (s.setLoad none) (s.toStart l) :=
    ⟨rfl, fun _ _ _ => rfl, rfl, rfl, rfl, rfl, rfl, rfl, rfl, rfl, rfl, rfl, rfl, rfl, hreset.trans hnone.symm, rfl, rfl, rfl,
      fun _ h => h⟩
  exact hsame.calm h

theorem State.calm_toRelease {s : State} (l : Load) (n : Nat) (h : (s.setLoad none).calm = true) : (s.toRelease l n).calm = true := by
  have hsame : SameWork ((s.setLoad none).setSpan n 6) (s.toRelease l n) :=
    ⟨rfl, fun _ _ _ => rfl, rfl, rfl, rfl, rfl, rfl, rfl, rfl, rfl, rfl, rfl, rfl, rfl,
      by simp [State.resetIsDue, State.fabricResetWaits, State.loading, State.toRelease], rfl, rfl, rfl, fun _ h => h⟩
  exact hsame.calm (State.calm_setSpan (by decide) h)

theorem State.spanState_toRelease (s : State) (l : Load) (n : Nat) : (s.toRelease l n).f F.CFG_SPAN_STATUS_STATE n = 6 :=
  ((Kept.putCfg ((s.setLoad none).setSpan n 6) _).f _ _ rfl (by simp)).trans
    (State.f_setF_same (s.setLoad none) F.CFG_SPAN_STATUS_STATE n 6 (by decide))

theorem Kept.engineIdle (s : State) : Kept s s.engineIdle [(.CFG_STATUS, 0)] [] :=
  (Kept.setF s F.CFG_STATUS_BUSY 0 0).via (Kept.setF ..) (by simp) (by simp)

theorem State.engineIdle_busy (s : State) : s.engineIdle.f F.CFG_STATUS_BUSY 0 = 0 :=
  (State.f_setF_other _ F.CFG_STATUS_STATE F.CFG_STATUS_BUSY 0 0 _ (by decide) (by decide)).trans
    (State.f_setF_same s F.CFG_STATUS_BUSY 0 0 (by decide))

section
variable {c : Instr} {s : State} {f : State → State} {l : Load} (hc : exec c s = s.command f) (hf : f s = s.crcPassed l)
  (hs : (s.setLoad none).ready = true)
include hc hf hs

/-- START of a full image that has passed enters the Beam (R149). -/
theorem Runs.of_fullPassed (hk : l.kind = .full) :
    Runs c s fun t =>
      t.cfg.load = none ∧ t.cfg.starting.isSome = true ∧ ⟨.direct 38, s.time + 1⟩ ∈ t.beam.flight ∧ Kept s t [] [.cfg, .beam] := by
  rw [s.crcPassed_full hk] at hf
  obtain ⟨hporst, hcalm⟩ := (State.ready_iff _).1 hs
  have hbeam : Kept (s.toStart l) (f s) [] [.beam] := hf ▸ Kept.enterNext (s.toStart l) (.direct 38)
  have hkept : Kept s (f s) [] [.cfg, .beam] := (Kept.toStart s l).trans hbeam
  have hend : (f s).calm = true := by rw [hbeam.calm (by decide) (by simp), State.calm_toStart l hcalm]
  refine Runs.of_calmed hc hporst hkept hend fun t _ ht h => ?_
  have hcfg : t.cfg = (s.toStart l).cfg := (hbeam.trans ht).areas .cfg (by decide)
  have hflight : t.beam = ((s.toStart l).enterNext (.direct 38)).beam := hf ▸ ht.areas .beam (by simp)
  exact ⟨by rw [hcfg]; rfl, by rw [hcfg]; rfl, by rw [hflight]; exact State.mem_enterNext (s.toStart l) _, h⟩

/-- The span of a partial image that has passed goes to RELEASING (R164). -/
theorem Runs.of_spanPassed {n : Nat} (hk : l.kind = .span n) (hscrub : l.scrub = none) :
    Runs c s fun t =>
      t.cfg.load = none ∧ t.f F.CFG_SPAN_STATUS_STATE n = 6 ∧ t.f F.CFG_STATUS_BUSY 0 = 0 ∧
      Kept s t [(.CFG_SPAN_STATUS, n), (.CFG_STATUS, 0)] [.cfg] := by
  rw [s.crcPassed_span hk hscrub] at hf
  obtain ⟨hporst, hcalm⟩ := (State.ready_iff _).1 hs
  have hidle : Kept (s.toRelease l n) (f s) [(.CFG_STATUS, 0)] [] := hf ▸ Kept.engineIdle (s.toRelease l n)
  have hkept : Kept s (f s) [(.CFG_SPAN_STATUS, n), (.CFG_STATUS, 0)] [.cfg] := (Kept.toRelease s l n).trans hidle
  have hend : (f s).calm = true := by rw [hidle.calm (by simp) (by decide), State.calm_toRelease l n hcalm]
  refine Runs.of_calmed hc hporst hkept hend fun t _ ht h => ?_
  have hlast : Kept (s.toRelease l n) t [(.CFG_STATUS, 0)] [] := hidle.trans ht
  have hcfg : t.cfg = (s.toRelease l n).cfg := hlast.areas .cfg (by simp)
  have hstate : t.f F.CFG_SPAN_STATUS_STATE n = 6 :=
    (hlast.f F.CFG_SPAN_STATUS_STATE n rfl (by simp)).trans (s.spanState_toRelease l n)
  have hbusy : t.f F.CFG_STATUS_BUSY 0 = 0 := by rw [ht.f F.CFG_STATUS_BUSY 0 rfl (by simp), hf, State.engineIdle_busy]
  exact ⟨by rw [hcfg]; rfl, hstate, hbusy, h⟩

end

/-- Settles O16: the words of a command that passes its checks lead to the image's end, and that to what follows it. -/
theorem imagesEnd : Obligations.ImagesEnd := by
  unfold Obligations.ImagesEnd
  simp only [State.loadsAt_iff]
  refine ⟨?_, ?_, ?_⟩
  · rintro s l ⟨hs, hl, hp, -⟩ hk hoff hstarted hcover hdigest
    have hi : l.isImage := .inl hk
    exact Runs.of_fullPassed (l := l.ended) rfl
      ((State.feedCommand_image hl hp hi _).trans (State.feedAll_end hl hp hi hoff (fun _ => ⟨hstarted, hcover⟩) hdigest)) hs hk
  · rintro s l n ⟨hs, hl, hp, -⟩ hk - hoff hdigest hscrub
    have hi : l.isImage := .inr ⟨n, hk⟩
    have hcovered : s.covered l := fun hfull => by simp [hk] at hfull
    exact Runs.of_spanPassed (l := l.ended) rfl
      ((State.feedCommand_image hl hp hi _).trans (State.feedAll_end hl hp hi hoff hcovered hdigest)) hs hk hscrub
  · rintro s l ⟨hs, hl, hp, -⟩ hk hoff hcover hdigest
    have hi : l.isImage := .inl hk
    have hend : l.withStart.offset = headerLength l.withStart.header - 8 := by
      simp only [Load.withStart, Load.took, List.length_cons, List.length_nil]
      omega
    refine Runs.of_fullPassed (l := l.withStart.ended) rfl ?_ hs hk
    refine (State.feedCommand_image hl hp hi _).trans ((State.feedAll_start hk hoff hl hp _).trans ?_)
    have hpassed := State.feedAll_end (s := s.setLoad (some l.withStart)) rfl hp hi hend (fun _ => ⟨rfl, hcover⟩) hdigest
    exact hpassed.trans (s.crcPassed_setLoad _ hi)

end Sys2Proof.Machine
end

section
/-! PROOF. Frames of spans, the scrubber, capture and readback that leave out what the rules of other chapters bring: a FABRIC_RESET
that waited (R31, R265), a START that is on its way (R152), stale timers (R113), and host DMA descriptors (R364). -/

namespace Sys2Proof.Machine

/-- What a view of the state shows after a command. -/
def viewAfter {α : Type} (view : State → α) : Host.Outcome State Fault Refusal → Option α
  | .next t => some (view t)
  | _ => none

/-- A command that goes on to a state of the same view shows no change of it. -/
theorem viewAfter_of_eq {α : Type} {view : State → α} {c : Instr} {s t : State} (ht : exec c s = .next t)
    (h : view t = view s) : viewAfter view (exec c s) = some (view s) := by
  rw [ht, viewAfter, h]

-- ------------------------------------------------------------------ a FABRIC_RESET behind an isolation (R31, R161, R170)

/-- The operation that isolates span 0. -/
def isolating : SpanOp := ⟨0, 2, jtagWho, false, 0⟩

/-- Span 0, which has no NI to drain, is being isolated, and a FABRIC_RESET waits for the end of the operation (R170). The edge
station of NI 0 holds a word that user logic has still to take (R264). -/
def resetBehindIsolation : State :=
  let s := poweredUp.putCfg { poweredUp.cfg with
    spans := [oneRodSpan], spanOp := some isolating, fabricResetWaiting := true }
  (s.setSpan 0 2).setEdge 0 { niInit.edge with out := [(0, [1])] }

/-- The FABRIC_RESET acts once the span is ISOLATED, and empties the edge station (R265). -/
theorem resetBehindIsolation_net :
    viewAfter State.net (exec (.isolationTick 0) resetBehindIsolation) ≠ some resetBehindIsolation.net := by decide +kernel

/-- Refutes O18: the isolation ends the operation that a FABRIC_RESET waited for (R31, R170); it acts with the same command, and
its gating tick empties the edge stations (R265), so the state of the NIs is not left as it was. -/
theorem not_spanEngine : ¬ Obligations.SpanEngine := by
  unfold Obligations.SpanEngine
  rintro ⟨hisolation, -⟩
  obtain ⟨t, ht, -, -, -, -, hk⟩ := hisolation resetBehindIsolation 0 oneRodSpan isolating (by decide +kernel)
    (by decide +kernel) (by decide) (by decide +kernel) (by decide +kernel) rfl rfl
  have hnet : t.net = resetBehindIsolation.net := hk.areas .net (by decide)
  exact resetBehindIsolation_net (viewAfter_of_eq ht hnet)

-- ------------------------------------------------------------------ SCRUB_ON on the way to START (R135, R152)

/-- The golden image has passed its checks, and its START event is on its way through the Beam. -/
def startUnderWay : State := poweredUp.putCfg { poweredUp.cfg with starting := some goldenImage }

/-- SCRUB_ON is noted with the image that starts, to hold after its START (R152). -/
theorem startUnderWay_starting :
    viewAfter (·.cfg.starting) (exec .scrubOn startUnderWay) = some (some { goldenImage with scrub := some true }) := by
  decide +kernel

/-- Refutes O19: a CMD SCRUB_ON given between the end of a full load and its START is noted with the image, for it holds after START
(R152), so the state of the loader is not left as it was. -/
theorem not_icpAndScrub : ¬ Obligations.IcpAndScrub := by
  unfold Obligations.IcpAndScrub
  rintro ⟨-, -, -, -, hscrub, -⟩
  obtain ⟨⟨t, ht, -, hk⟩, -⟩ := hscrub startUnderWay (by decide +kernel)
  have hcfg : t.cfg = startUnderWay.cfg := hk.areas .cfg (by decide)
  have hsame := viewAfter_of_eq (view := (·.cfg.starting)) ht (by rw [hcfg])
  rw [startUnderWay_starting] at hsame
  exact absurd hsame (by decide +kernel)

-- ------------------------------------------------------------------ stale timers at a FREEZE (R113, R173)

/-- A capture was armed at tick 0, whose FREEZE event entered the Beam there, while queue 0 holds an unread word, for which its
stale timer counts from tick 0 on. -/
def armedOverWord : State :=
  ((poweredUp.setCap 1).putBeam { poweredUp.beam with flight := [⟨.direct 34, 0⟩] }).setQueue 0
    { queueInit with cm := 1, wr := 1, lasts := [true] }

/-- The stale timer does not count the nine ticks for which the capture was armed: the model stops the timers while capture is not
IDLE (`State.staleStopped`). -/
theorem armedOverWord_stale : viewAfter (fun s => (s.queue 0).staleFrom) (exec .beamEventAct armedOverWord) = some 9 := by
  decide +kernel

/-- Refutes O21: in the model stale timers stand still from the arming of a capture on (R113, R174), and the act of FREEZE moves their
starts by the ticks since then, so the state of the queues is not left as it was. -/
theorem not_captures : ¬ Obligations.Captures := by
  unfold Obligations.Captures
  rintro ⟨-, -, -, hact, -⟩
  obtain ⟨t, ht, -, -, -, -, -, hk⟩ := hact armedOverWord 0 (by decide +kernel) (by decide +kernel) rfl (by decide +kernel)
  have hmem : t.mem = armedOverWord.mem := hk.areas .mem (by decide)
  have hsame := viewAfter_of_eq (view := fun s => (s.queue 0).staleFrom) ht (by simp only [State.queue, hmem])
  rw [armedOverWord_stale] at hsame
  exact absurd hsame (by decide +kernel)

-- ------------------------------------------------------------------ a descriptor posted during a readback (R171, R364)

/-- A readback by RB_DATA of one frame, of whose record two words are left to read. -/
def lastWords : Transfer :=
  { restore := false, toNoc := false, far := 1, state := false, left := 0, addr := 0, words := [1, 2], who := jtagWho
    asked := false, ended := none }

/-- `descriptorPosted` during that readback. -/
def descriptorReadback : State := descriptorPosted.setTransfer (some lastWords)

theorem hostReads_rbData : hostReads (exec (.rbData none) descriptorReadback) ≠ descriptorReadback.host.reads.length := by
  decide +kernel

/-- Refutes O22: a read of RB_DATA leaves the transfer in progress, and the descriptor of host DMA channel 0 is fetched with it, so
the state of the host interface is not left as it was. -/
theorem not_readbacks : ¬ Obligations.Readbacks := by
  unfold Obligations.Readbacks
  rintro ⟨-, hread, -⟩
  obtain ⟨t, ht, -, hk⟩ := hread descriptorReadback lastWords 1 [2] (by decide +kernel) rfl rfl rfl (by decide)
  exact hostReads_rbData (hostReads_of_kept ht hk (by decide))

end Sys2Proof.Machine
end

section
/-! PROOF. What waits for the roving spare goes on, or is dropped, with the command that ends a step or asks for one: the routine
step of another group that fell due under BOUNDARY (R185, R190), which the statements of O24 and O25 leave out. -/

namespace Sys2Proof.Machine

/-- The roving spare of group 0 has taken logical rod 15 from physical rod 15, which is tested as the new spare (R186 step 9). -/
def spareTestRuns : RoveStep := ⟨0, false, 15, 16, 15, none, true⟩

/-- That test runs in user mode while no record is open; both groups rove under BOUNDARY, and a routine step of group 1, whose gap
holds a spare that has passed its test, waits for a boundary. -/
def deferredBehindTest : State :=
  let s := (poweredUp.raise F.REPAIR_STATUS_PUST_DONE 0).raise F.DEV_STATUS_USER_MODE 0
  let s := (s.setF F.PWR_REGION_STATUS_ON 0 1).setWord .REPAIR_ROVE_MODE 0 5#32
  let s := (s.setF F.REPAIR_GROUP_STATUS_STATE 0 0).setF F.REPAIR_GROUP_STATUS_GAP 0 15
  let s := (s.setF F.REPAIR_GROUP_STATUS_STATE 1 0).setF F.REPAIR_GROUP_STATUS_GAP 1 16
  let s := (s.setF F.REPAIR_ROD_STATUS_STATE 15 2).setF F.REPAIR_ROD_STATUS_STATE 33 1
  let s := s.setRepair { s.repair with place := [(15, 17), (31, 33)], deferred := [1] }
  s.stepPhase spareTestRuns 4

/-- A test that finds nothing. -/
def cleanSlice : SliceResult := ⟨0, [], []⟩

/-- The step of group 1 begins with the end of the test, for no record is open (R185). -/
theorem deferredBehindTest_step :
    viewAfter (·.repair.step.map (·.group)) (exec (.spareTestDone cleanSlice) deferredBehindTest) = some (some 1) := by
  decide +kernel

/-- Refutes O24: when the spare test of `deferredBehindTest` ends, the step of group 1 that waited for a boundary begins (R185, R190),
so a step is under way. -/
theorem not_rovingSteps : ¬ Obligations.RovingSteps := by
  unfold Obligations.RovingSteps
  rintro ⟨-, -, -, -, -, -, -, htest, -⟩
  obtain ⟨t, ht, -, -, -, -, hnone, -⟩ := htest deferredBehindTest spareTestRuns cleanSlice (by decide +kernel) (by decide)
    (by decide) (.inl rfl)
  have hstep := deferredBehindTest_step
  rw [ht, viewAfter, hnone] at hstep
  exact absurd hstep (by decide)

/-- `deferredBehindTest` after a wear fault on the spare of group 1: it is RETIRED, and the group roves no more (R187, R189). -/
def retiredBehindTest : State := deferredBehindTest.wearDeclared 33

/-- REPAIR.CMD STEP of group 0 finds that group 1 roves no more, and drops the step that waited. -/
theorem retiredBehindTest_deferred :
    viewAfter (·.repair.deferred) (exec (.step jtagWho 0) retiredBehindTest) = some [] := by decide +kernel

/-- Refutes O25: REPAIR.CMD STEP of group 0 drops the step of group 1 that waits in `retiredBehindTest`, so more than what was asked
for has changed in the state of repair. -/
theorem not_repairCommands : ¬ Obligations.RepairCommands := by
  unfold Obligations.RepairCommands
  rintro ⟨hask, -⟩
  obtain ⟨t, ht, hrepair, -⟩ := hask retiredBehindTest jtagWho 0 (by decide +kernel) (by decide) (by decide +kernel)
    (by decide +kernel) (by decide +kernel) (by decide +kernel)
  have hsame := viewAfter_of_eq (view := (·.repair.deferred)) ht (by rw [hrepair])
  rw [retiredBehindTest_deferred] at hsame
  exact absurd hsame (by decide +kernel)

end Sys2Proof.Machine
end

section
/-! PROOF. Changes of the repair state that leave the roving spare, and what waits for it, alone. -/

namespace Sys2Proof.Machine

@[simp] theorem State.setRepair_repair (s : State) (r : RepairState) : (s.setRepair r).repair = r := rfl

/-- The step of the roving spare, and what waits for one, are as before. -/
structure SameSteps (s t : State) : Prop where
  step : t.repair.step = s.repair.step
  migrations : t.repair.migrations = s.repair.migrations
  asked : t.repair.asked = s.repair.asked
  deferred : t.repair.deferred = s.repair.deferred

theorem SameSteps.of_repair {s t : State} (h : t.repair = s.repair) : SameSteps s t := by
  constructor <;> rw [h]

theorem SameSteps.trans {s t u : State} (h : SameSteps s t) (g : SameSteps t u) : SameSteps s u :=
  ⟨g.step.trans h.step, g.migrations.trans h.migrations, g.asked.trans h.asked, g.deferred.trans h.deferred⟩

/-- The parts of State beside the repair state in which work waits. -/
def otherCalmAreas : List Area := [.dev, .net, .dbg, .host, .cfg, .fabric, .record]

/-- Such a change lets no work go on that waits. -/
theorem SameSteps.sameWork {s t : State} {R : Regs} {A : List Area} (h : SameSteps s t) (k : Kept s t R A)
    (hA : ∀ a ∈ otherCalmAreas, a ∉ A) (hR : ∀ x ∈ R, x.1 ∉ calmRegs) : SameWork s t := by
  have hw : ∀ r ∈ calmRegs, ∀ i, t.word r i = s.word r i := fun r hr i =>
    k.regs r i (by revert r; decide) fun hx => hR _ hx hr
  obtain ⟨-, -, -, -, hdue, -⟩ := k.areas .dev (hA _ (by decide))
  have hnet : t.net = s.net := k.areas .net (hA _ (by decide))
  have hdbg : t.dbg = s.dbg := k.areas .dbg (hA _ (by decide))
  have hhost : t.host = s.host := k.areas .host (hA _ (by decide))
  have hcfg : t.cfg = s.cfg := k.areas .cfg (hA _ (by decide))
  have hfabric : t.fabric = s.fabric := k.areas .fabric (hA _ (by decide))
  have hrecord : t.record = s.record := k.areas .record (hA _ (by decide))
  have hreset : t.resetIsDue = s.resetIsDue := by
    simp only [State.resetIsDue, State.fabricResetWaits, State.loading, hcfg, h.step]
  have hrepair : t.repairWaits = s.repairWaits := by
    simp only [State.repairWaits, State.boundary, State.phase, State.f, h.step, h.migrations, h.asked, h.deferred, hrecord,
      hw .RECORD_STATUS (by decide)]
  exact ⟨k.part, hw, hdue, hnet, by rw [hdbg], hhost, by rw [hcfg], by rw [hcfg], by rw [hcfg], by rw [hcfg], by rw [hcfg],
    by rw [hcfg], by rw [hcfg], by rw [hcfg], hreset, hrepair, by rw [hfabric], by rw [hfabric],
    fun x hx => by simpa only [State.clear, hfabric] using hx⟩

/-- A command whose effect is such a change. -/
theorem Runs.of_sameSteps {c : Instr} {s u : State} {f : State → State} {P : State → Prop} {R : Regs} {A : List Area}
    (hc : exec c s = s.command f) (hs : s.ready = true) (hf : f s = u) (k : Kept s u R A) (h : SameSteps s u)
    (hA : ∀ a ∈ otherCalmAreas, a ∉ A) (hR : ∀ x ∈ R, x.1 ∉ calmRegs)
    (hP : ∀ t, Kept u t [] [] → Kept s t R A → P t) : Runs c s P := by
  subst hf
  exact Runs.of_calm hc hs k (h.sameWork k hA hR).calm fun t _ ht => hP t ht

end Sys2Proof.Machine
end

section
/-! PROOF. Slices of the power-up self-test: the monitors' readings before the first, what a test finds in a rod, and the end of a
slice that is not its group's last (R101, R178 to R182). -/

namespace Sys2Proof.Machine

-- ------------------------------------------------------------------ the slice that runs (R178)

/-- A group goes on while a position of it is to be tested. -/
theorem State.slicing_of_open {s : State} {g k : Nat} (hk : k < 17) (hs : 17 * g + k ∉ s.repair.sliced)
    (hr : 17 * g + k ∉ s.repair.retired) : (s.slicing g).isNone = false := by
  rw [State.slicing, ← Option.not_isSome, Bool.not_eq_false', List.find?_isSome]
  exact ⟨k, List.mem_range.2 hk, by simp [hs, hr]⟩

/-- The slice that runs goes on where slices of other positions end. -/
theorem State.slicing_append {s t : State} {g k : Nat} {l : List Nat} (h : s.slicing g = some k)
    (hs : t.repair.sliced = s.repair.sliced ++ l) (hr : t.repair.retired = s.repair.retired) (hl : 17 * g + k ∉ l) :
    t.slicing g = some k := by
  simp only [State.slicing, List.find?_eq_some_iff_append, hs, hr, List.contains_append, Bool.not_or, Bool.and_eq_true,
    Bool.not_eq_true', Bool.not_and, Bool.or_eq_true, Bool.not_not] at h ⊢
  obtain ⟨⟨hopen, hretired⟩, before, after, hall, hbefore⟩ := h
  refine ⟨⟨⟨hopen, by simpa using hl⟩, hretired⟩, before, after, hall, fun a ha => ?_⟩
  rcases hbefore a ha with h | h
  · exact .inl (.inl h)
  · exact .inr h

-- ------------------------------------------------------------------ the monitors' readings (R179)

/-- The rods whose monitor reads below 100. -/
def State.brokenReplicas (s : State) (r : List (Nat × Nat)) : List Nat :=
  (List.range (Part.physRods s.part)).filter fun k =>
    !s.repair.retired.contains k && r.any fun x => x.1 == k && decide (x.2 < 100)

/-- The lowest reading of the others, where it is below 627. -/
def lowestReplica (r : List (Nat × Nat)) (broken : List Nat) : Nat :=
  (r.filter fun x => !broken.contains x.1 && decide (100 ≤ x.2 ∧ x.2 < 627)).foldl (fun (m : Nat) x => min m x.2) 627

/-- Rods are FAILED with cause 6. -/
def State.rodsBreak (s : State) (broken : List Nat) : State :=
  broken.foldl (fun s k => (s.setF F.REPAIR_ROD_STATUS_STATE k 3).setF F.REPAIR_ROD_STATUS_CAUSE k 6) s

/-- The readings are noted: the slices of the rods that read below 100 have ended, and these are FAILED. -/
def State.replicasNoted (s : State) (broken : List Nat) (low : Nat) : State :=
  let s := if low < 627 then s.raise F.REPAIR_STATUS_SLOW 0 else s
  (s.setRepair { s.repair with lowRate := low, sliced := s.repair.sliced ++ broken }).rodsBreak broken

/-- The maps are formed of the groups that such a rod was the last of. -/
def State.brokenMaps (s : State) (broken : List Nat) : State :=
  ((List.range (Part.groups s.part)).filter fun g =>
    broken.any (fun k => groupOfPhys k == g) && (s.slicing g).isNone).foldl State.formMap s

theorem State.replicasRead_first {s : State} (h : s.repair.lowRate = 0) (r : List (Nat × Nat)) : s.replicasRead r =
    (s.replicasNoted (s.brokenReplicas r) (lowestReplica r (s.brokenReplicas r))).brokenMaps (s.brokenReplicas r) :=
  if_neg (not_not.2 h)

/-- The monitors are read before the first slice alone. -/
theorem State.replicasRead_again {s : State} (h : s.repair.lowRate ≠ 0) (r : List (Nat × Nat)) : s.replicasRead r = s := if_pos h

/-- No map is formed of a group that has positions to test. -/
theorem State.brokenMaps_of_open {s : State} {broken : List Nat}
    (h : ∀ k ∈ broken, (s.slicing (groupOfPhys k)).isNone = false) : s.brokenMaps broken = s := by
  have hnone : (List.range (Part.groups s.part)).filter (fun g =>
      broken.any (fun k => groupOfPhys k == g) && (s.slicing g).isNone) = [] := by
    refine List.filter_eq_nil_iff.2 fun g _ hg => ?_
    simp only [Bool.and_eq_true, List.any_eq_true, beq_iff_eq] at hg
    obtain ⟨⟨k, hk, rfl⟩, hclosed⟩ := hg
    rw [h k hk] at hclosed
    cases hclosed
  rw [State.brokenMaps, hnone, List.foldl_nil]

/-- A reading below 100 of a rod in use is that rod's alone. -/
theorem State.brokenReplicas_one {s : State} {j low : Nat} (hj : j < Part.physRods s.part) (hr : j ∉ s.repair.retired)
    (hlow : low < 100) : s.brokenReplicas [(j, low)] = [j] := by
  have hone : ∀ k, (!s.repair.retired.contains k && [(j, low)].any fun x => x.1 == k && decide (x.2 < 100)) = (k == j) := by
    intro k
    by_cases hk : k = j
    · subst hk
      simp [hr, hlow]
    · simp [beq_eq_false_iff_ne.2 hk, beq_eq_false_iff_ne.2 (Ne.symm hk)]
  rw [State.brokenReplicas, List.filter_congr fun k _ => hone k, List.filter_beq, List.count_range, if_pos hj]
  rfl

theorem State.brokenReplicas_none (s : State) {j low : Nat} (hlow : 100 ≤ low) : s.brokenReplicas [(j, low)] = [] :=
  List.filter_eq_nil_iff.2 fun k _ => by simp [hlow]

theorem State.replicasRead_broken {s : State} {j low : Nat} (h : s.repair.lowRate = 0) (hj : j < Part.physRods s.part)
    (hr : j ∉ s.repair.retired) (hlow : low < 100) (hopen : ((s.replicasNoted [j] 627).slicing (j / 17)).isNone = false) :
    s.replicasRead [(j, low)] = s.replicasNoted [j] 627 := by
  have hlowest : lowestReplica [(j, low)] [j] = 627 := by simp [lowestReplica]
  rw [State.replicasRead_first h, State.brokenReplicas_one hj hr hlow, hlowest,
    State.brokenMaps_of_open (by simpa [groupOfPhys] using hopen)]

theorem State.replicasRead_slow {s : State} {j low : Nat} (h : s.repair.lowRate = 0) (hlow : 100 ≤ low) (hlow' : low < 627) :
    s.replicasRead [(j, low)] = s.replicasNoted [] low := by
  have hlowest : lowestReplica [(j, low)] [] = low := by simp [lowestReplica, hlow, hlow', Nat.le_of_lt hlow']
  rw [State.replicasRead_first h, s.brokenReplicas_none hlow, hlowest, State.brokenMaps_of_open (by simp)]

theorem State.rodsBreak_none (s : State) : s.rodsBreak [] = s := rfl

theorem State.rodsBreak_one (s : State) (j : Nat) :
    s.rodsBreak [j] = (s.setF F.REPAIR_ROD_STATUS_STATE j 3).setF F.REPAIR_ROD_STATUS_CAUSE j 6 := rfl

theorem State.rodsBreak_repair (s : State) (broken : List Nat) : (s.rodsBreak broken).repair = s.repair :=
  foldl_same (g := State.repair) (fun u k => by rw [State.setF_repair, State.setF_repair]) broken s

theorem Kept.rodsBreak (s : State) (broken : List Nat) :
    Kept s (s.rodsBreak broken) (broken.map (.REPAIR_ROD_STATUS, ·)) [] :=
  Kept.foldl _ broken s fun u k hk =>
    ((Kept.setF u F.REPAIR_ROD_STATUS_STATE k 3).via (Kept.setF _ F.REPAIR_ROD_STATUS_CAUSE k 6) (by simp) (by simp)).weaken
      (by simpa using hk) (by simp)

theorem State.replicasNoted_repair (s : State) (broken : List Nat) (low : Nat) : (s.replicasNoted broken low).repair =
    { s.repair with lowRate := low, sliced := s.repair.sliced ++ broken } := by
  have hraise : (if low < 627 then s.raise F.REPAIR_STATUS_SLOW 0 else s).repair = s.repair := by split <;> rfl
  simp only [State.replicasNoted, State.rodsBreak_repair, State.setRepair_repair, hraise]

theorem Kept.replicasNoted (s : State) (broken : List Nat) (low : Nat) : Kept s (s.replicasNoted broken low)
    ((if low < 627 then [(.REPAIR_STATUS, 0)] else []) ++ broken.map (.REPAIR_ROD_STATUS, ·)) [.repair] := by
  have hslow : Kept s (if low < 627 then s.raise F.REPAIR_STATUS_SLOW 0 else s)
      (if low < 627 then [(.REPAIR_STATUS, 0)] else []) [] := by
    split
    · exact Kept.raise s _ 0
    · exact Kept.refl s
  exact ((hslow.trans (Kept.setRepair _ _)).trans (Kept.rodsBreak _ broken)).weaken (by simp) (by simp)

-- ------------------------------------------------------------------ what a test finds (R101, R182)

/-- The faulty tile rows of a finding, as a set. -/
def faultyRows (rows : List Nat) : BitVec 100 := rows.foldl (fun w k => w ||| BitVec.ofNat 100 (2 ^ k)) 0

theorem getLsbD_faultyRows (rows : List Nat) {row : Nat} (hrow : row < 100) :
    (faultyRows rows).getLsbD row = rows.contains row := by
  have hacc : ∀ w : BitVec 100, (rows.foldl (fun w k => w ||| BitVec.ofNat 100 (2 ^ k)) w).getLsbD row =
      (w.getLsbD row || rows.contains row) := by
    induction rows with
    | nil => simp
    | cons k rows ih =>
      intro w
      simp only [List.foldl_cons, ih, BitVec.getLsbD_or, BitVec.getLsbD_ofNat, Nat.testBit_two_pow, hrow, decide_true, Bool.true_and,
        List.contains_cons, Bool.or_assoc, eq_comm (a := k), beq_eq_decide]
  rw [faultyRows, hacc]
  simp

/-- The memories of a physical rod use at least the spare rows that a finding says they need. -/
def State.sparesTaken (s : State) (phys : Nat) (l : List (Nat × Nat)) : State :=
  l.foldl (fun s m => s.putMem { s.mem with
    sparesUsed := Sparse.set 0 s.mem.sparesUsed (spareKey phys m.1) (max (s.sparesIn phys m.1) (min 8 m.2)) }) s

theorem State.sparesIn_sparesTaken (phys m : Nat) (l : List (Nat × Nat)) : ∀ s : State, (s.sparesTaken phys l).sparesIn phys m =
    (l.filter (·.1 == m)).foldl (fun (n : Nat) y => max n (min 8 y.2)) (s.sparesIn phys m) := by
  induction l with
  | nil => exact fun _ => rfl
  | cons x l ih =>
    intro s
    have hone : (s.sparesTaken phys [x]).sparesIn phys m =
        if m = x.1 then max (s.sparesIn phys m) (min 8 x.2) else s.sparesIn phys m := by
      have hkey : spareKey phys m = spareKey phys x.1 ↔ m = x.1 := by simp [spareKey]
      simp only [State.sparesTaken, List.foldl_cons, List.foldl_nil, State.sparesIn, State.putMem_mem, Sparse.get_set, hkey]
      split
      · rename_i h
        rw [h]
      · rfl
    refine (ih (s.sparesTaken phys [x])).trans ?_
    rw [hone]
    by_cases hm : m = x.1
    · simp [hm]
    · simp [hm, beq_eq_false_iff_ne.2 (Ne.symm hm)]

theorem Kept.sparesTaken (s : State) (phys : Nat) (l : List (Nat × Nat)) : Kept s (s.sparesTaken phys l) [] [.mem] :=
  Kept.foldl _ l s fun u _ _ => Kept.putMem u _

/-- The faulty rows of a finding are bypassed, and counted. -/
def State.rowsTaken (s : State) (phys : Nat) (rows : List Nat) : State :=
  (s.setRepair { s.repair with badRows := Sparse.set 0 s.repair.badRows phys (faultyRows rows) }).setF
    F.REPAIR_ROD_STATUS_ROWS_SPARED phys (min 4 rows.eraseDups.length)

theorem State.rodTested_eq (s : State) (phys : Nat) (x : SliceResult) : s.rodTested phys x =
    ((s.rowsTaken phys x.rows).sparesTaken phys (x.spares.filter (·.1 < 32))).showMemSpares phys := rfl

section
variable (s : State) (phys : Nat)

theorem State.f_showMemSpares (G : Fld) (h : G.lo + G.width ≤ 14 ∨ 18 ≤ G.lo) (i : Nat) :
    (s.showMemSpares phys).f G i = s.f G i :=
  State.f_setF_other s F.REPAIR_ROD_STATUS_MEM_SPARES G phys i _ (by decide) (.inr (.inr h))

theorem State.f_showMemSpares_same : (s.showMemSpares phys).f F.REPAIR_ROD_STATUS_MEM_SPARES phys =
    (List.range 32).foldl (fun n m => max n (s.sparesIn phys m)) 0 % 16 := State.f_setF_same s _ _ _ (by decide)

theorem State.sparesIn_showMemSpares (m : Nat) : (s.showMemSpares phys).sparesIn phys m = s.sparesIn phys m := by
  rw [State.sparesIn, State.showMemSpares, State.setF_mem, State.sparesIn]

theorem State.sparesTaken_repair (l : List (Nat × Nat)) : (s.sparesTaken phys l).repair = s.repair :=
  (Kept.sparesTaken s phys l).areas .repair (by decide)

theorem State.f_rowsTaken (rows : List Nat) (G : Fld) (h : G.lo + G.width ≤ 11 ∨ 14 ≤ G.lo) (i : Nat) :
    (s.rowsTaken phys rows).f G i = s.f G i := by
  rw [State.rowsTaken, State.f_setF_other _ _ _ _ _ _ (by decide) (.inr (.inr h)), State.setRepair_f]

theorem State.f_rowsTaken_same (rows : List Nat) :
    (s.rowsTaken phys rows).f F.REPAIR_ROD_STATUS_ROWS_SPARED phys = min 4 rows.eraseDups.length := by
  rw [State.rowsTaken, State.f_setF_same _ _ _ _ (by decide)]
  exact Nat.mod_eq_of_lt (Nat.lt_of_le_of_lt (Nat.min_le_left ..) (by decide))

theorem State.rodTested_repair (x : SliceResult) : (s.rodTested phys x).repair =
    { s.repair with badRows := Sparse.set 0 s.repair.badRows phys (faultyRows x.rows) } := by
  rw [State.rodTested_eq, State.showMemSpares, State.setF_repair, State.sparesTaken_repair, State.rowsTaken, State.setF_repair,
    State.setRepair_repair]

theorem State.sparesIn_rodTested (x : SliceResult) (m : Nat) : (s.rodTested phys x).sparesIn phys m =
    ((x.spares.filter (·.1 < 32)).filter (·.1 == m)).foldl (fun (n : Nat) y => max n (min 8 y.2)) (s.sparesIn phys m) := by
  rw [State.rodTested_eq, State.sparesIn_showMemSpares, State.sparesIn_sparesTaken]
  simp only [State.sparesIn, State.rowsTaken, State.setF_mem, State.setRepair_mem]

/-- Fields of ROD_STATUS that show neither tile rows nor spare rows. -/
theorem State.f_rodTested (x : SliceResult) (G : Fld) (h : G.lo + G.width ≤ 11 ∨ 18 ≤ G.lo) (hp : isPend G.reg = false) (i : Nat) :
    (s.rodTested phys x).f G i = s.f G i := by
  rw [State.rodTested_eq, State.f_showMemSpares _ _ _ (by omega), (Kept.sparesTaken ..).f _ _ hp (by simp),
    State.f_rowsTaken _ _ _ _ (by omega)]

theorem Kept.rodTested (x : SliceResult) :
    Kept s (s.rodTested phys x) [(.REPAIR_ROD_STATUS, phys)] (.repair :: if x.spares = [] then [] else [.mem]) := by
  have hspares : Kept (s.rowsTaken phys x.rows)
      ((s.rowsTaken phys x.rows).sparesTaken phys (x.spares.filter (·.1 < 32))) [] (if x.spares = [] then [] else [.mem]) := by
    split
    · rename_i h
      rw [h]
      exact Kept.refl _
    · exact Kept.sparesTaken ..
  have hrows : Kept s (s.rowsTaken phys x.rows) [(.REPAIR_ROD_STATUS, phys)] [.repair] :=
    (Kept.setRepair s _).trans (Kept.setF _ F.REPAIR_ROD_STATUS_ROWS_SPARED phys _)
  rw [State.rodTested_eq]
  exact ((hrows.trans hspares).trans (Kept.setF _ F.REPAIR_ROD_STATUS_MEM_SPARES phys _)).weaken (by simp) (by simp)

theorem TestTaken.rodTested (x : SliceResult) : TestTaken s (s.rodTested phys x) phys x := by
  refine ⟨?_, ?_, ?_, fun row hrow => ?_⟩
  · rw [State.rodTested_eq, State.f_showMemSpares _ _ _ (by decide), (Kept.sparesTaken ..).f _ _ rfl (by simp),
      State.f_rowsTaken_same]
  · refine List.all_eq_true.2 fun m hm => beq_iff_eq.2 ?_
    rw [State.sparesIn_rodTested, List.filter_filter]
    refine congrArg (List.foldl _ _) (List.filter_congr fun y _ => ?_)
    by_cases hy : y.1 = m
    · simp [hy, List.mem_range.1 hm]
    · simp [hy]
  · rw [State.rodTested_eq, State.f_showMemSpares_same]
    simp only [State.sparesIn_showMemSpares]
  · rw [State.rodTested_repair, Sparse.get_set_same, getLsbD_faultyRows _ hrow]

end

/-- What is taken of a test goes on to be, while its two fields, the spare rows and the faulty rows stand. -/
theorem TestTaken.congr {s u t : State} {phys : Nat} {x : SliceResult} (h : TestTaken s u phys x)
    (hrows : t.f F.REPAIR_ROD_STATUS_ROWS_SPARED phys = u.f F.REPAIR_ROD_STATUS_ROWS_SPARED phys)
    (hspares : t.f F.REPAIR_ROD_STATUS_MEM_SPARES phys = u.f F.REPAIR_ROD_STATUS_MEM_SPARES phys)
    (hm : t.mem = u.mem) (hb : t.repair.badRows = u.repair.badRows) : TestTaken s t phys x := by
  simpa only [TestTaken, State.sparesIn, hrows, hspares, hm, hb] using h

end Sys2Proof.Machine
end

section
/-! PROOF. Slices of the power-up self-test that are not their group's last, and the first slice's readings (R178 to R180). -/

namespace Sys2Proof.Machine

-- ------------------------------------------------------------------ the end of a slice (R178, R180)

/-- A finding without a fault: no more than 4 tile rows, no more than 4 spare rows of a memory, and no cause. -/
theorem sliceFault_none {x : SliceResult} (hrows : x.rows.eraseDups.length ≤ 4)
    (hspares : (x.spares.all fun m => decide (m.2 ≤ 4)) = true) (hc : x.cause = 0 ∨ 6 < x.cause) : sliceFault x = 0 := by
  have hfew : (x.spares.any fun m => decide (4 < m.2)) = false := by simpa using hspares
  simp only [sliceFault, hfew, if_neg (Nat.not_lt.2 hrows), Bool.false_eq_true, if_false]
  exact if_neg (by omega)

theorem sliceFault_cause {x : SliceResult} (hc : 1 ≤ x.cause ∧ x.cause ≤ 6) : sliceFault x =
    if 4 < x.rows.eraseDups.length then 1
    else if (x.spares.any fun m => decide (4 < m.2)) = true then 2 else x.cause := by
  simp only [sliceFault, hc, and_self, if_true]

/-- A rod is good, or FAILED with a cause, with what its test found. -/
def State.rodJudged (s : State) (phys cause : Nat) (x : SliceResult) : State :=
  let s := (s.setF F.REPAIR_ROD_STATUS_CAUSE phys cause).rodTested phys x
  if cause = 0 then s else s.setF F.REPAIR_ROD_STATUS_STATE phys 3

/-- The slice of a rod has ended with a cause. -/
def State.sliceNoted (s : State) (phys cause : Nat) (x : SliceResult) : State :=
  let s := s.rodJudged phys cause x
  s.setRepair { s.repair with
    sliced := s.repair.sliced ++ [phys]
    sliceFrom := Sparse.insert s.repair.sliceFrom (groupOfPhys phys) s.time }

theorem State.sliceEnds_eq (s : State) (phys cause : Nat) (x : SliceResult) : s.sliceEnds phys cause x =
    if ((s.sliceNoted phys cause x).slicing (groupOfPhys phys)).isNone then
      ((s.sliceNoted phys cause x).formMap (groupOfPhys phys)).selfTestEnds
    else s.sliceNoted phys cause x := rfl

section
variable (s : State) (phys : Nat) (x : SliceResult)

theorem State.rodJudged_good : s.rodJudged phys 0 x = (s.setF F.REPAIR_ROD_STATUS_CAUSE phys 0).rodTested phys x := by
  rw [State.rodJudged, if_pos rfl]

theorem State.rodJudged_failed {cause : Nat} (h : cause ≠ 0) : s.rodJudged phys cause x =
    ((s.setF F.REPAIR_ROD_STATUS_CAUSE phys cause).rodTested phys x).setF F.REPAIR_ROD_STATUS_STATE phys 3 := if_neg h

variable (cause : Nat)

theorem State.rodJudged_repair : (s.rodJudged phys cause x).repair =
    { s.repair with badRows := Sparse.set 0 s.repair.badRows phys (faultyRows x.rows) } := by
  by_cases h : cause = 0
  · rw [h, State.rodJudged_good, State.rodTested_repair, State.setF_repair]
  · rw [State.rodJudged_failed _ _ _ h, State.setF_repair, State.rodTested_repair, State.setF_repair]

theorem Kept.rodJudged : Kept s (s.rodJudged phys cause x) [(.REPAIR_ROD_STATUS, phys)]
    (.repair :: if x.spares = [] then [] else [.mem]) := by
  have htested := ((Kept.start s [(.REPAIR_ROD_STATUS, phys)] (.repair :: if x.spares = [] then [] else [.mem])).via
    (Kept.setF s F.REPAIR_ROD_STATUS_CAUSE phys cause) (by simp) (by simp)).via (Kept.rodTested _ phys x) (by simp) (by simp)
  by_cases h : cause = 0
  · subst h
    rwa [State.rodJudged_good]
  · rw [State.rodJudged_failed _ _ _ h]
    exact htested.via (Kept.setF _ F.REPAIR_ROD_STATUS_STATE phys 3) (by simp) (by simp)

theorem State.cause_rodJudged : (s.rodJudged phys cause x).f F.REPAIR_ROD_STATUS_CAUSE phys = cause % 16 := by
  have htested :
      ((s.setF F.REPAIR_ROD_STATUS_CAUSE phys cause).rodTested phys x).f F.REPAIR_ROD_STATUS_CAUSE phys = cause % 16 := by
    rw [State.f_rodTested _ _ _ _ (by decide) rfl, State.f_setF_same _ _ _ _ (by decide)]
    rfl
  by_cases h : cause = 0
  · subst h
    rwa [State.rodJudged_good]
  · rw [State.rodJudged_failed _ _ _ h, State.f_setF_other _ _ _ _ _ _ (by decide) (.inr (.inr (by decide))), htested]

theorem State.state_rodJudged : (s.rodJudged phys cause x).f F.REPAIR_ROD_STATUS_STATE phys =
    if cause = 0 then s.f F.REPAIR_ROD_STATUS_STATE phys else 3 := by
  by_cases h : cause = 0
  · rw [if_pos h, h, State.rodJudged_good, State.f_rodTested _ _ _ _ (by decide) rfl,
      State.f_setF_other _ _ _ _ _ _ (by decide) (.inr (.inr (by decide)))]
  · rw [if_neg h, State.rodJudged_failed _ _ _ h, State.f_setF_same _ _ _ _ (by decide)]
    rfl

theorem TestTaken.rodJudged : TestTaken s (s.rodJudged phys cause x) phys x := by
  have htaken : TestTaken s ((s.setF F.REPAIR_ROD_STATUS_CAUSE phys cause).rodTested phys x) phys x := by
    simpa only [TestTaken, State.sparesIn, State.setF_mem] using
      TestTaken.rodTested (s.setF F.REPAIR_ROD_STATUS_CAUSE phys cause) phys x
  by_cases h : cause = 0
  · subst h
    rwa [State.rodJudged_good]
  · rw [State.rodJudged_failed _ _ _ h]
    exact htaken.congr (State.f_setF_other _ _ _ _ _ _ (by decide) (.inr (.inr (by decide))))
      (State.f_setF_other _ _ _ _ _ _ (by decide) (.inr (.inr (by decide)))) (State.setF_mem ..)
      (congrArg RepairState.badRows (State.setF_repair ..))

theorem State.sliceNoted_repair : ∃ start, (s.sliceNoted phys cause x).repair =
    { s.repair with
      badRows := Sparse.set 0 s.repair.badRows phys (faultyRows x.rows)
      sliced := s.repair.sliced ++ [phys]
      sliceFrom := start } := by
  rw [State.sliceNoted, State.setRepair_repair, State.rodJudged_repair]
  exact ⟨_, rfl⟩

theorem SameSteps.sliceNoted : SameSteps s (s.sliceNoted phys cause x) := by
  obtain ⟨start, h⟩ := s.sliceNoted_repair phys x cause
  constructor <;> rw [h]

theorem Kept.sliceNoted : Kept s (s.sliceNoted phys cause x) [(.REPAIR_ROD_STATUS, phys)]
    (.repair :: if x.spares = [] then [] else [.mem]) :=
  (Kept.rodJudged s phys x cause).via (Kept.setRepair ..) (by simp) (by simp)

end

/-- Position k of the group of a rod is another, with which its test goes on. -/
theorem State.sliceEnds_of_open {s : State} {phys k : Nat} (hk : k < 17) (hne : k ≠ phys % 17)
    (hs : 17 * (phys / 17) + k ∉ s.repair.sliced) (hr : 17 * (phys / 17) + k ∉ s.repair.retired) (cause : Nat) (x : SliceResult) :
    s.sliceEnds phys cause x = s.sliceNoted phys cause x := by
  obtain ⟨start, hrepair⟩ := s.sliceNoted_repair phys x cause
  have hother : 17 * (phys / 17) + k ≠ phys := by omega
  have hopen : ((s.sliceNoted phys cause x).slicing (groupOfPhys phys)).isNone = false :=
    State.slicing_of_open hk (by rw [hrepair]; simp [groupOfPhys, hs, hother]) (by rwa [hrepair, groupOfPhys])
  rw [State.sliceEnds_eq, hopen, if_neg Bool.false_ne_true]

/-- From u to t the slice of a rod has ended with a cause and what its test found. -/
structure SliceEnded (u t : State) (phys cause : Nat) (x : SliceResult) : Prop where
  causeShown : t.f F.REPAIR_ROD_STATUS_CAUSE phys = cause % 16
  stateShown : t.f F.REPAIR_ROD_STATUS_STATE phys = if cause = 0 then u.f F.REPAIR_ROD_STATUS_STATE phys else 3
  taken : TestTaken u t phys x
  sliced : t.repair.sliced = u.repair.sliced ++ [phys]
  retired : t.repair.retired = u.repair.retired
  lowRate : t.repair.lowRate = u.repair.lowRate

theorem SliceEnded.of_kept {u t : State} {phys cause : Nat} {x : SliceResult} (h : Kept (u.sliceNoted phys cause x) t [] []) :
    SliceEnded u t phys cause x := by
  obtain ⟨start, hnoted⟩ := u.sliceNoted_repair phys x cause
  have hrepair : t.repair = (u.sliceNoted phys cause x).repair := h.areas .repair (by simp)
  have hmem : t.mem = (u.rodJudged phys cause x).mem := h.areas .mem (by simp)
  have hf (G : Fld) (hp : isPend G.reg = false) : t.f G phys = (u.rodJudged phys cause x).f G phys := h.f G phys hp (by simp)
  rw [hnoted] at hrepair
  refine ⟨(hf _ rfl).trans (u.cause_rodJudged phys x cause), (hf _ rfl).trans (u.state_rodJudged phys x cause),
    (TestTaken.rodJudged u phys x cause).congr (hf _ rfl) (hf _ rfl) hmem ?_, ?_, ?_, ?_⟩
  · rw [hrepair, State.rodJudged_repair]
  all_goals rw [hrepair]

-- ------------------------------------------------------------------ the command of a slice that has ended

/-- What SELF_TEST_SLICE_DONE does. -/
def State.sliceDone (s : State) (phys : Nat) (x : SliceResult) (readings : List (Nat × Nat)) : State :=
  if !s.selfTests then s else
  let s := s.replicasRead readings
  if decide (phys < Part.physRods s.part) && s.slicing (phys / 17) == some (phys % 17) then s.sliceEnds phys (sliceFault x) x
  else s.selfTestEnds

theorem exec_sliceDone (phys : Nat) (x : SliceResult) (r : List (Nat × Nat)) (s : State) :
    exec (.selfTestSliceDone phys x r) s = s.command fun s => s.sliceDone phys x r := rfl

/-- The slice of a rod ends in the state after the readings, while position k of its group is still to be tested. -/
theorem Runs.sliceDone {s u : State} {phys k : Nat} {x : SliceResult} {r : List (Nat × Nat)} {R : Regs} {P : State → Prop}
    (hs : s.ready = true) (htests : s.selfTests = true) (hread : s.replicasRead r = u) (hu : Kept s u R [.repair])
    (hsteps : SameSteps s u) (hR : ∀ x ∈ R, x.1 ∉ calmRegs) (hphys : phys < Part.physRods s.part)
    (hslicing : u.slicing (phys / 17) = some (phys % 17)) (hk : k < 17) (hne : k ≠ phys % 17)
    (hopen : 17 * (phys / 17) + k ∉ u.repair.sliced) (hretired : 17 * (phys / 17) + k ∉ u.repair.retired)
    (hP : ∀ t, SliceEnded u t phys (sliceFault x) x → Kept (u.sliceNoted phys (sliceFault x) x) t [] [] →
      Kept s t (R ++ [(.REPAIR_ROD_STATUS, phys)]) [.repair, .mem] → P t) :
    Runs (.selfTestSliceDone phys x r) s P := by
  have hphys' : phys < Part.physRods u.part := hu.part ▸ hphys
  have hf : s.sliceDone phys x r = u.sliceNoted phys (sliceFault x) x := by
    rw [← State.sliceEnds_of_open hk hne hopen hretired]
    simp [State.sliceDone, htests, hread, hphys', hslicing]
  have hk' : Kept s (u.sliceNoted phys (sliceFault x) x) (R ++ [(.REPAIR_ROD_STATUS, phys)]) [.repair, .mem] :=
    (hu.trans (Kept.sliceNoted ..)).weaken (fun _ h => h) (by split <;> simp)
  refine Runs.of_sameSteps (exec_sliceDone phys x r s) hs hf hk' (hsteps.trans (SameSteps.sliceNoted ..)) (by decide)
    (List.forall_mem_append.2 ⟨hR, by simp [calmRegs]⟩) fun t ht h => hP t (SliceEnded.of_kept ht) ht h

section
variable {s : State} {phys k : Nat} {x : SliceResult} (hs : s.ready = true) (htests : s.selfTests = true)
  (hphys : phys < Part.physRods s.part) (hslicing : s.slicing (phys / 17) = some (phys % 17)) (hk : k < 17) (hne : k ≠ phys % 17)
  (hopen : 17 * (phys / 17) + k ∉ s.repair.sliced) (hretired : 17 * (phys / 17) + k ∉ s.repair.retired)
include hs htests hphys hslicing hk hne hopen hretired

/-- A slice after the first: its readings say nothing. -/
theorem Runs.laterSlice {P : State → Prop} (r : List (Nat × Nat)) (hlow : s.repair.lowRate ≠ 0)
    (hP : ∀ t, SliceEnded s t phys (sliceFault x) x → Kept s t [(.REPAIR_ROD_STATUS, phys)] [.repair, .mem] → P t) :
    Runs (.selfTestSliceDone phys x r) s P :=
  Runs.sliceDone hs htests (State.replicasRead_again hlow r) (Kept.start s [] _) (SameSteps.of_repair rfl) (by simp) hphys hslicing hk
    hne hopen hretired fun t ht _ h => hP t ht h

/-- The first slice, where a rod of its group reads below 100. -/
theorem Runs.firstSlice_broken {j low : Nat} (hlow : s.repair.lowRate = 0) (hj : j < Part.physRods s.part) (hjp : j ≠ phys)
    (hjk : j ≠ 17 * (phys / 17) + k) (hg : j / 17 = phys / 17) (hr : j ∉ s.repair.retired) (h100 : low < 100) :
    Runs (.selfTestSliceDone phys x [(j, low)]) s fun t =>
      t.f F.REPAIR_ROD_STATUS_STATE j = 3 ∧ t.f F.REPAIR_ROD_STATUS_CAUSE j = 6 ∧ t.repair.lowRate = 627 ∧
      t.repair.sliced = s.repair.sliced ++ [j, phys] ∧
      Kept s t [(.REPAIR_ROD_STATUS, j), (.REPAIR_ROD_STATUS, phys)] [.repair, .mem] := by
  have hrepair := s.replicasNoted_repair [j] 627
  have hpos : 17 * (phys / 17) + phys % 17 ≠ j := by omega
  have hslicing' : (s.replicasNoted [j] 627).slicing (phys / 17) = some (phys % 17) :=
    State.slicing_append hslicing (l := [j]) (by rw [hrepair]) (by rw [hrepair]) (by simpa using hpos)
  have hread := State.replicasRead_broken hlow hj hr h100 (by rw [hg, hslicing']; rfl)
  refine Runs.sliceDone hs htests hread ((Kept.replicasNoted s [j] 627).weaken (R' := [(.REPAIR_ROD_STATUS, j)]) (by simp) (by simp))
    (by constructor <;> rw [hrepair]) (by simp [calmRegs]) hphys hslicing' hk hne (by rw [hrepair]; simp [hopen, Ne.symm hjk])
    (by rwa [hrepair]) fun t hended ht h => ?_
  have hf (G : Fld) (hp : isPend G.reg = false) : t.f G j = (s.replicasNoted [j] 627).f G j :=
    (ht.f G j hp (by simp)).trans ((Kept.sliceNoted ..).f G j hp (by simp [hjp]))
  refine ⟨(hf _ rfl).trans ?_, (hf _ rfl).trans ?_, ?_, ?_, h⟩
  · rw [State.replicasNoted, State.rodsBreak_one, State.f_setF_other _ _ _ _ _ _ (by decide) (.inr (.inr (by decide))),
      State.f_setF_same _ _ _ _ (by decide)]
    rfl
  · rw [State.replicasNoted, State.rodsBreak_one, State.f_setF_same _ _ _ _ (by decide)]
    rfl
  · rw [hended.lowRate, hrepair]
  · rw [hended.sliced, hrepair, List.append_assoc]
    rfl

/-- The first slice, where the lowest reading is below 627 but no rod reads below 100. -/
theorem Runs.firstSlice_slow {j low : Nat} (hlow : s.repair.lowRate = 0) (h100 : 100 ≤ low) (h627 : low < 627) :
    Runs (.selfTestSliceDone phys x [(j, low)]) s fun t =>
      t.f F.REPAIR_STATUS_SLOW 0 = 1 ∧ t.repair.lowRate = low ∧ t.repair.sliced = s.repair.sliced ++ [phys] ∧
      Kept s t [(.REPAIR_STATUS, 0), (.REPAIR_ROD_STATUS, phys)] [.repair, .mem] := by
  have hrepair := s.replicasNoted_repair [] low
  have hsliced : (s.replicasNoted [] low).repair.sliced = s.repair.sliced := by rw [hrepair, List.append_nil]
  have hslicing' : (s.replicasNoted [] low).slicing (phys / 17) = some (phys % 17) :=
    State.slicing_append hslicing (l := []) (by rw [hrepair]) (by rw [hrepair]) (by simp)
  refine Runs.sliceDone hs htests (State.replicasRead_slow hlow h100 h627)
    ((Kept.replicasNoted s [] low).weaken (R' := [(.REPAIR_STATUS, 0)]) (by simp [h627]) (by simp))
    (by constructor <;> rw [hrepair]) (by simp [calmRegs]) hphys hslicing' hk hne (by rwa [hsliced]) (by rwa [hrepair])
    fun t hended ht h => ⟨?_, by rw [hended.lowRate, hrepair], by rw [hended.sliced, hsliced], h⟩
  rw [ht.f _ _ rfl (by simp), (Kept.sliceNoted ..).f _ _ rfl (by simp), State.replicasNoted, if_pos h627, State.rodsBreak_none,
    State.setRepair_f, State.raise, State.f_setF_same _ _ _ _ (by decide)]
  rfl

end

-- ------------------------------------------------------------------ a slice that outruns its budget (R179)

/-- What SLICE_OVERRUN does. -/
def State.sliceOverruns (s : State) (phys low : Nat) : State :=
  let ends (s : State) (low : Nat) : State :=
    s.advanceTo (Sparse.get s.repair.testFrom s.repair.sliceFrom (groupOfPhys phys) + BitVec.ofNat 64 (sliceBudget low))
  if s.selfTests then
    let s := s.replicasRead []
    if decide (phys < Part.physRods s.part) && s.slicing (phys / 17) == some (phys % 17) then
      (ends s s.repair.lowRate).sliceEnds phys 7 ⟨7, [], []⟩
    else s
  else
    match s.stepAt 4 with
    | some st => if st.src = phys then (ends s low).spareTested st 7 ⟨7, [], []⟩ else s
    | none => s

theorem exec_sliceOverruns (phys low : Nat) (s : State) :
    exec (.sliceOverrun phys low) s = s.command fun s => s.sliceOverruns phys low := rfl

/-- The budget of a slice in a slow part, and in one that is not. -/
theorem sliceBudget_eq {low : Nat} (h100 : 100 ≤ low) (h627 : low ≤ 627) : sliceBudget low = 2000 * ticksPerUs * 627 / low := by
  unfold sliceBudget
  split
  · rw [Nat.max_eq_right h100]
  · obtain rfl : low = 627 := by omega
    rfl

theorem Runs.sliceOverrun {s : State} {phys k : Nat} (low : Nat) (hs : s.ready = true) (htests : s.selfTests = true)
    (hphys : phys < Part.physRods s.part) (hslicing : s.slicing (phys / 17) = some (phys % 17)) (hk : k < 17) (hne : k ≠ phys % 17)
    (hopen : 17 * (phys / 17) + k ∉ s.repair.sliced) (hretired : 17 * (phys / 17) + k ∉ s.repair.retired)
    (h100 : 100 ≤ s.repair.lowRate) (h627 : s.repair.lowRate ≤ 627) :
    Runs (.sliceOverrun phys low) s fun t =>
      t.f F.REPAIR_ROD_STATUS_STATE phys = 3 ∧ t.f F.REPAIR_ROD_STATUS_CAUSE phys = 7 ∧
      t.time = (s.advanceTo (Sparse.get s.repair.testFrom s.repair.sliceFrom (phys / 17) +
        BitVec.ofNat 64 (2000 * ticksPerUs * 627 / s.repair.lowRate))).time ∧
      t.repair.sliced = s.repair.sliced ++ [phys] ∧ Kept s t [(.REPAIR_ROD_STATUS, phys)] [.clock, .repair] := by
  rw [← sliceBudget_eq h100 h627]
  set u := s.advanceTo
    (Sparse.get s.repair.testFrom s.repair.sliceFrom (phys / 17) + BitVec.ofNat 64 (sliceBudget s.repair.lowRate)) with hu
  have hrepair : u.repair = s.repair := State.advanceTo_repair ..
  have hf : s.sliceOverruns phys low = u.sliceNoted phys 7 ⟨7, [], []⟩ := by
    rw [← State.sliceEnds_of_open hk hne (by rwa [hrepair]) (by rwa [hrepair])]
    simp [State.sliceOverruns, htests, State.replicasRead_again (s := s) (by omega), hphys, hslicing, groupOfPhys, hu]
  have hnoted : Kept u (u.sliceNoted phys 7 ⟨7, [], []⟩) [(.REPAIR_ROD_STATUS, phys)] [.repair] :=
    (Kept.sliceNoted ..).weaken (fun _ h => h) (by simp)
  refine Runs.of_sameSteps (exec_sliceOverruns phys low s) hs hf ((Kept.advanceTo s _).trans hnoted)
    ((SameSteps.of_repair hrepair).trans (SameSteps.sliceNoted ..)) (by decide) (by simp [calmRegs]) fun t ht h => ?_
  have hended := SliceEnded.of_kept ht
  obtain ⟨htime, -⟩ := (hnoted.trans ht).areas .clock (by simp)
  exact ⟨hended.stateShown, hended.causeShown, htime, by rw [hended.sliced, hrepair], h⟩

end Sys2Proof.Machine
end

section
/-! PROOF. Background tests of links and HBM, and tests that traffic pre-empts (R192 to R194, R336). -/

namespace Sys2Proof.Machine

-- ------------------------------------------------------------------ a slice that is over

theorem State.recordLeave_of_phase {s : State} (h : s.phase ≠ 5) : s.recordLeave = s := by simp [State.recordLeave, h]

/-- A unit's slice is not forced. -/
def State.unforced (s : State) (hbm : Bool) (unit : Nat) : State :=
  s.setRepair { s.repair with
    forced := s.repair.forced.filter (· != (hbm, unit)), begun := s.repair.begun.filter (· != (hbm, unit)) }

/-- A unit's slice has been pre-empted so many times in a row. -/
def State.preempts (s : State) (hbm : Bool) (unit n : Nat) : State :=
  if hbm then s.setRepair { s.repair with hbmPreempts := Sparse.set 0 s.repair.hbmPreempts unit n }
  else s.setRepair { s.repair with linkPreempts := Sparse.set 0 s.repair.linkPreempts unit n }

section
variable (s : State) (hbm : Bool) (unit n : Nat)

theorem Kept.unforced : Kept s (s.unforced hbm unit) [] [.repair] := Kept.setRepair ..

theorem Kept.preempts : Kept s (s.preempts hbm unit n) [] [.repair] := by cases hbm <;> exact Kept.setRepair ..

theorem Kept.testAgain : Kept s (s.testAgain hbm unit n) [] [.repair] := by cases hbm <;> exact Kept.setRepair ..

theorem SameSteps.unforced : SameSteps s (s.unforced hbm unit) := ⟨rfl, rfl, rfl, rfl⟩

theorem SameSteps.preempts : SameSteps s (s.preempts hbm unit n) := by cases hbm <;> exact ⟨rfl, rfl, rfl, rfl⟩

theorem SameSteps.testAgain : SameSteps s (s.testAgain hbm unit n) := by cases hbm <;> exact ⟨rfl, rfl, rfl, rfl⟩

theorem State.testDue_unforced : (s.unforced hbm unit).testDue hbm unit = s.testDue hbm unit := rfl

theorem State.testDue_preempts : (s.preempts hbm unit n).testDue hbm unit = s.testDue hbm unit := by cases hbm <;> rfl

theorem State.testDue_testAgain : (s.testAgain hbm unit n).testDue hbm unit = s.later n := by
  cases hbm <;> exact Sparse.get_set_same ..

theorem State.forced_unforced : (s.unforced hbm unit).repair.forced = s.repair.forced.filter (· != (hbm, unit)) := rfl

theorem State.forced_preempts : (s.preempts hbm unit n).repair.forced = s.repair.forced := by cases hbm <;> rfl

theorem State.forced_testAgain : (s.testAgain hbm unit n).repair.forced = s.repair.forced := by cases hbm <;> rfl

theorem State.linkPreempts_preempts : Sparse.get 0 (s.preempts false unit n).repair.linkPreempts unit = n := Sparse.get_set_same ..

end

/-- The next test of a unit is due a period later, and the unit is not forced, nor its pre-emptions remembered. -/
def State.testOver (s : State) (hbm : Bool) (unit : Nat) : State :=
  ((s.testAgain hbm unit (s.testPeriod hbm)).unforced hbm unit).preempts hbm unit 0

section
variable (s : State) (hbm : Bool) (unit : Nat)

theorem Kept.testOver : Kept s (s.testOver hbm unit) [] [.repair] :=
  ((Kept.testAgain ..).trans (Kept.unforced ..)).trans (Kept.preempts ..) |>.weaken (by simp) (by simp)

theorem SameSteps.testOver : SameSteps s (s.testOver hbm unit) :=
  ((SameSteps.testAgain ..).trans (SameSteps.unforced ..)).trans (SameSteps.preempts ..)

theorem State.testDue_testOver : (s.testOver hbm unit).testDue hbm unit = s.later (s.testPeriod hbm) := by
  rw [State.testOver, State.testDue_preempts, State.testDue_unforced, State.testDue_testAgain]

theorem State.forced_testOver : (s.testOver hbm unit).repair.forced = s.repair.forced.filter (· != (hbm, unit)) := by
  rw [State.testOver, State.forced_preempts, State.forced_unforced, State.forced_testAgain]

theorem State.linkPreempts_testOver : Sparse.get 0 (s.testOver false unit).repair.linkPreempts unit = 0 := by
  rw [State.testOver, State.linkPreempts_preempts]

/-- Where no record is CLOSED, the record controller takes no notice of a slice that is over (R24). -/
theorem State.sliceOver_eq (h : s.phase ≠ 5) : s.sliceOver hbm unit = s.testOver hbm unit := by
  have hphase : (s.testOver hbm unit).phase ≠ 5 := by
    rwa [State.phase, (Kept.testOver s hbm unit).f F.RECORD_STATUS_PHASE 0 rfl (by simp)]
  rw [← State.recordLeave_of_phase hphase, State.sliceOver, State.testOver]
  generalize s.testAgain hbm unit (s.testPeriod hbm) = u
  cases hbm <;> rfl

end

/-- The period of a unit's tests follows from BG_CTRL. -/
theorem Kept.testPeriod {s t : State} {R : Regs} {A : List Area} (h : Kept s t R A) (hR : (.REPAIR_BG_CTRL, 0) ∉ R) (hbm : Bool) :
    t.testPeriod hbm = s.testPeriod hbm := by
  cases hbm <;> simp [State.testPeriod, h.f F.REPAIR_BG_CTRL_LINK_PERIOD 0 rfl hR, h.f F.REPAIR_BG_CTRL_HBM_PERIOD 0 rfl hR]

/-- A unit's test is over once it is due: TIME, and when the next is due, after whatever leaves the clock and the repair state. -/
theorem Kept.testDue_over {s t : State} {hbm : Bool} {unit : Nat} {R : Regs} {A : List Area}
    (h : Kept ((s.advanceTo (s.testDue hbm unit)).testOver hbm unit) t R A) (hc : .clock ∉ A) (hr : .repair ∉ A) :
    t.time = (s.advanceTo (s.testDue hbm unit)).time ∧ t.testDue hbm unit = t.later (s.testPeriod hbm) := by
  have hover := Kept.testOver (s.advanceTo (s.testDue hbm unit)) hbm unit
  have hrepair : t.repair = _ := h.areas .repair hr
  obtain ⟨htime, -⟩ := h.areas .clock hc
  obtain ⟨htime', -⟩ := hover.areas .clock (by simp)
  have hdue : t.testDue hbm unit = ((s.advanceTo (s.testDue hbm unit)).testOver hbm unit).testDue hbm unit := by
    simp only [State.testDue, hrepair]
  refine ⟨htime.trans htime', ?_⟩
  rw [hdue, State.testDue_testOver, (Kept.advanceTo s _).testPeriod (by simp), State.later, State.later, htime, htime']

theorem State.phase_advanceTo (s : State) (x : DWord) : (s.advanceTo x).phase = s.phase := State.advanceTo_f ..

-- ------------------------------------------------------------------ links (R192)

theorem Runs.linkTestSlice {s : State} {page port peer : Nat} (hs : s.ready = true)
    (hport : portEnd s.part page port = some (.node peer)) (hpage : pagePresent s.part page = true)
    (hon : s.f F.REPAIR_BG_CTRL_LINK_EN 0 = 1) (htests : s.selfTests = false) (hruns : s.sliceRuns false (16 * page + port) = true)
    (hphase : s.phase ≠ 5) :
    Runs (.linkTestSlice page port none) s fun t =>
      t.repair.forced = s.repair.forced.filter (· != (false, 16 * page + port)) ∧
      Sparse.get 0 t.repair.linkPreempts (16 * page + port) = 0 ∧
      t.time = (s.advanceTo (s.testDue false (16 * page + port))).time ∧
      t.testDue false (16 * page + port) = t.later (s.testPeriod false) ∧ Kept s t [] [.clock, .repair] := by
  set u := s.advanceTo (s.testDue false (16 * page + port)) with hu
  have hf : s.linkTested page port none = u.testOver false (16 * page + port) := by
    rw [← State.sliceOver_eq u false _ (by rwa [hu, State.phase_advanceTo])]
    simp [State.linkTested, hport, hpage, htests, State.on, hon, hruns, hu]
  have hrepair : u.repair = s.repair := State.advanceTo_repair ..
  refine Runs.of_sameSteps (f := fun s => s.linkTested page port none) rfl hs hf
    ((Kept.advanceTo s _).trans (Kept.testOver u false (16 * page + port)))
    ((SameSteps.of_repair hrepair).trans (SameSteps.testOver ..)) (by decide) (by simp) fun t ht h => ?_
  have hover : t.repair = (u.testOver false (16 * page + port)).repair := ht.areas .repair (by simp)
  obtain ⟨htime, hdue⟩ := ht.testDue_over (by simp) (by simp)
  exact ⟨by rw [hover, State.forced_testOver, hrepair], by rw [hover, State.linkPreempts_testOver], htime, hdue, h⟩

-- ------------------------------------------------------------------ HBM (R193, R194, R336)

/-- The next region of a pseudo channel is next. -/
def State.regionTested (s : State) (pc : Nat) : State :=
  s.putHbm { s.hbm with testAt := Sparse.set 0 s.hbm.testAt pc ((Sparse.get 0 s.hbm.testAt pc + 1) % 65536) }

/-- A pseudo channel's test of a region is over. -/
def State.regionOver (s : State) (pc : Nat) : State := ((s.advanceTo (s.testDue true pc)).testOver true pc).regionTested pc

theorem Kept.regionOver (s : State) (pc : Nat) : Kept s (s.regionOver pc) [] [.clock, .repair, .hbm] :=
  ((Kept.advanceTo s _).trans (Kept.testOver ..)).trans (Kept.putHbm ..)

theorem SameSteps.regionOver (s : State) (pc : Nat) : SameSteps s (s.regionOver pc) :=
  ((SameSteps.of_repair (State.advanceTo_repair ..)).trans (SameSteps.testOver ..)).trans (SameSteps.of_repair (State.putHbm_repair ..))

theorem State.testAt_regionOver (s : State) (pc : Nat) : Sparse.get 0 (s.regionOver pc).hbm.testAt pc =
    (Sparse.get 0 s.hbm.testAt pc + 1) % 65536 := by
  have hhbm : ((s.advanceTo (s.testDue true pc)).testOver true pc).hbm = s.hbm :=
    (Kept.testOver ..).areas .hbm (by simp) |>.trans (State.advanceTo_hbm ..)
  rw [State.regionOver, State.regionTested, State.putHbm_hbm, Sparse.get_set_same, hhbm]

theorem mem_insertRod (r : Nat) (l : List Nat) : r ∈ insertRod r l := by
  induction l with
  | nil => exact List.mem_singleton_self r
  | cons x l ih =>
    unfold insertRod
    split
    · exact List.mem_cons_self
    · split
      · rename_i h
        exact h ▸ List.mem_cons_self
      · exact List.mem_cons_of_mem x ih

/-- A row stands repaired, without a record of it. -/
def State.rowRepaired (s : State) (row : Nat) : State :=
  s.putHbm { s.hbm with
    repaired := insertRod row s.hbm.repaired
    onceCorrected := s.hbm.onceCorrected.filter fun kv => kv.1 / 128 != row }

theorem State.hbmRepair_spare (s : State) (row : Nat) : s.hbmRepair row true =
    ((s.rowRepaired row).journal 0x31 0x07 6 ⟨0x30000000 + row, 0, 0, 0⟩).raise F.HBM_STATUS_ROW_REPAIR 0 := rfl

theorem Kept.hbmRepair_spare (s : State) (row : Nat) : Kept s (s.hbmRepair row true) [(.HBM_STATUS, 0)] [.hbm, .ledger] :=
  ((Kept.putHbm s _).trans (Kept.journal ..)).trans (Kept.raise ..)

theorem Kept.bgFail (s : State) (kind unit port : Nat) :
    Kept s (s.bgFail kind unit port) [(.REPAIR_BG_FAIL, 0), (.REPAIR_STATUS, 0)] [] :=
  ((((Kept.start s [(.REPAIR_BG_FAIL, 0), (.REPAIR_STATUS, 0)] []).via (Kept.setF s F.REPAIR_BG_FAIL_KIND 0 kind) (by simp) (by simp)).via
    (Kept.setF _ F.REPAIR_BG_FAIL_UNIT 0 unit) (by simp) (by simp)).via (Kept.setF _ F.REPAIR_BG_FAIL_PORT 0 port) (by simp)
    (by simp)).via (Kept.bump _ F.REPAIR_BG_FAIL_COUNT 0 1) (by simp) (by simp) |>.via (Kept.raise _ F.REPAIR_STATUS_BG_FAIL 0) (by simp)
    (by simp)

theorem State.word_bgFail (s : State) (kind unit port : Nat) : (s.bgFail kind unit port).word .REPAIR_BG_FAIL 0 =
    changed (s.word .REPAIR_BG_FAIL 0) [(F.REPAIR_BG_FAIL_KIND, kind), (F.REPAIR_BG_FAIL_UNIT, unit), (F.REPAIR_BG_FAIL_PORT, port),
      (F.REPAIR_BG_FAIL_COUNT, s.counted F.REPAIR_BG_FAIL_COUNT 0 1)] := by
  have hcount : (((s.setF F.REPAIR_BG_FAIL_KIND 0 kind).setF F.REPAIR_BG_FAIL_UNIT 0 unit).setF F.REPAIR_BG_FAIL_PORT 0 port).counted
      F.REPAIR_BG_FAIL_COUNT 0 1 = s.counted F.REPAIR_BG_FAIL_COUNT 0 1 := by
    simp (disch := decide) only [State.counted, State.f_setF_other]
  rw [State.bgFail, State.word_raise, if_neg (by decide), State.word_bump, hcount]
  simp only [State.word_setF, changed, List.foldl_cons, List.foldl_nil, and_self, if_true]

theorem State.f_bgFail (s : State) (kind unit port : Nat) : (s.bgFail kind unit port).f F.REPAIR_STATUS_BG_FAIL 0 = 1 :=
  State.f_setF_same _ F.REPAIR_STATUS_BG_FAIL 0 1 (by decide)

section
variable {s : State} {pc : Nat} (hs : s.ready = true) (hpc : pc < 16) (hhbm : Part.hasHbm s.part = true)
  (hon : s.f F.REPAIR_BG_CTRL_HBM_EN 0 = 1) (hpower : (s.word .PWR_REGION_STATUS 0).getLsbD 8 = true)
  (hruns : s.sliceRuns true pc = true) (hphase : s.phase ≠ 5)
include hpc hhbm hon hpower hruns hphase

/-- A pseudo channel's test acts where its slice may run. -/
theorem State.hbmTested_eq :
    s.hbmTested pc none = s.regionOver pc ∧
    ∀ row spare, s.hbmTested pc (some (row, spare)) = ((s.regionOver pc).bgFail 2 pc 0).hbmRepair row spare := by
  have hover := State.sliceOver_eq (s.advanceTo (s.testDue true pc)) true pc (by rwa [State.phase_advanceTo])
  have hguard : (!s.on F.REPAIR_BG_CTRL_HBM_EN 0 || !Part.hasHbm s.part || !(s.word .PWR_REGION_STATUS 0).getLsbD 8 ||
      decide (16 ≤ pc) || !s.sliceRuns true pc) = false := by
    simp [State.on, hon, hhbm, hpower, hruns, hpc]
  simp only [State.hbmTested, hguard, Bool.false_eq_true, if_false, hover]
  exact ⟨rfl, fun _ _ => rfl⟩

include hs

theorem Runs.hbmTestSlice_none :
    Runs (.hbmTestSlice pc none) s fun t =>
      Sparse.get 0 t.hbm.testAt pc = (Sparse.get 0 s.hbm.testAt pc + 1) % 65536 ∧
      t.time = (s.advanceTo (s.testDue true pc)).time ∧ t.testDue true pc = t.later (s.testPeriod true) ∧
      Kept s t [] [.clock, .repair, .hbm] := by
  refine Runs.of_sameSteps (f := fun s => s.hbmTested pc none) rfl hs (State.hbmTested_eq hpc hhbm hon hpower hruns hphase).1
    (Kept.regionOver s pc) (SameSteps.regionOver s pc) (by decide) (by simp) fun t ht h => ?_
  have ht' : t.hbm = (s.regionOver pc).hbm := ht.areas .hbm (by simp)
  obtain ⟨htime, hdue⟩ := Kept.testDue_over (s := s) (hbm := true) (unit := pc) ((Kept.putHbm _ _).trans ht) (by simp) (by simp)
  exact ⟨by rw [ht', State.testAt_regionOver], htime, hdue, h⟩

theorem Runs.hbmTestSlice_spare (row : Nat) :
    Runs (.hbmTestSlice pc (some (row, true))) s fun t =>
      t.word .REPAIR_BG_FAIL 0 = changed (s.word .REPAIR_BG_FAIL 0)
        [(F.REPAIR_BG_FAIL_KIND, 2), (F.REPAIR_BG_FAIL_UNIT, pc), (F.REPAIR_BG_FAIL_PORT, 0),
          (F.REPAIR_BG_FAIL_COUNT, s.counted F.REPAIR_BG_FAIL_COUNT 0 1)] ∧
      t.f F.REPAIR_STATUS_BG_FAIL 0 = 1 ∧ t.f F.HBM_STATUS_ROW_REPAIR 0 = 1 ∧ row ∈ t.hbm.repaired ∧
      Entered s t 0x31 7 6 ⟨0x30000000 + row, 0, 0, 0⟩ ∧
      Kept s t [(.REPAIR_BG_FAIL, 0), (.REPAIR_STATUS, 0), (.HBM_STATUS, 0)] [.clock, .repair, .hbm, .ledger] := by
  have hover := Kept.regionOver s pc
  have hfail := Kept.bgFail (s.regionOver pc) 2 pc 0
  have hrepair := Kept.hbmRepair_spare ((s.regionOver pc).bgFail 2 pc 0) row
  have hsteps : SameSteps s (((s.regionOver pc).bgFail 2 pc 0).hbmRepair row true) :=
    (SameSteps.regionOver s pc).trans (SameSteps.of_repair ((hfail.trans hrepair).areas .repair (by simp)))
  refine Runs.of_sameSteps (f := fun s => s.hbmTested pc (some (row, true))) rfl hs
    ((State.hbmTested_eq hpc hhbm hon hpower hruns hphase).2 row true) (((hover.trans hfail).trans hrepair).weaken (R' := [(.REPAIR_BG_FAIL, 0),
      (.REPAIR_STATUS, 0), (.HBM_STATUS, 0)]) (A' := [.clock, .repair, .hbm, .ledger]) (by simp) (by simp)) hsteps (by decide)
    (by decide) fun t ht h => ⟨?_, ?_, ?_, ?_, ?_, h⟩
  · have hcounted : (s.regionOver pc).counted F.REPAIR_BG_FAIL_COUNT 0 1 = s.counted F.REPAIR_BG_FAIL_COUNT 0 1 := by
      rw [State.counted, hover.f _ _ rfl (by simp), State.counted]
    rw [ht.regs _ _ rfl (by simp), hrepair.regs _ _ rfl (by simp), State.word_bgFail, hover.regs _ _ rfl (by simp), hcounted]
  · rw [ht.f _ _ rfl (by simp), hrepair.f _ _ rfl (by simp), State.f_bgFail]
  · rw [ht.f _ _ rfl (by simp), State.hbmRepair_spare, State.raise, State.f_setF_same _ _ _ _ (by decide)]
    rfl
  · have hrow : t.hbm.repaired = insertRod row ((s.regionOver pc).bgFail 2 pc 0).hbm.repaired :=
      congrArg HbmState.repaired ((((Kept.journal ..).trans (Kept.raise ..)).trans ht).areas .hbm (by simp))
    rw [hrow]
    exact mem_insertRod row _
  · refine Entered.of_journal (u := ((s.regionOver pc).bgFail 2 pc 0).rowRepaired row)
      (((hover.trans hfail).trans (Kept.putHbm _ _)).areas .ledger (by simp)) ?_
    exact ((Kept.raise ..).trans ht).areas .ledger (by simp)

end

-- ------------------------------------------------------------------ traffic that pre-empts a slice (R192 to R194)

/-- How soon a unit is due again that traffic pre-empted for the first time. -/
def State.retryIn (s : State) (hbm : Bool) : Nat := if hbm then s.testPeriod true else 1000 * ticksPerUs

/-- Such a pre-emption, counted with those in a row. -/
def State.preempted (s : State) (hbm : Bool) (unit : Nat) : State :=
  (s.testAgain hbm unit (s.retryIn hbm)).preempts hbm unit 1

section
variable (s : State) (hbm : Bool) (unit : Nat)

theorem Kept.preempted : Kept s (s.preempted hbm unit) [] [.repair] :=
  (Kept.testAgain ..).via (Kept.preempts ..) (by simp) (by simp)

theorem SameSteps.preempted : SameSteps s (s.preempted hbm unit) := (SameSteps.testAgain ..).trans (SameSteps.preempts ..)

theorem State.forced_preempted : (s.preempted hbm unit).repair.forced = s.repair.forced := by
  rw [State.preempted, State.forced_preempts, State.forced_testAgain]

theorem State.testDue_preempted : (s.preempted hbm unit).testDue hbm unit = s.later (s.retryIn hbm) := by
  rw [State.preempted, State.testDue_preempts, State.testDue_testAgain]

end

theorem Runs.slicePreempt {s : State} {hbm : Bool} {unit : Nat} (hs : s.ready = true)
    (hon : (if hbm then Part.hasHbm s.part && s.on F.REPAIR_BG_CTRL_HBM_EN 0 && decide (unit < 16)
      else s.on F.REPAIR_BG_CTRL_LINK_EN 0 && pagePresent s.part (unit / 16)) = true)
    (hforced : s.repair.forced.contains (hbm, unit) = false) (hhbm : s.repair.hbmPreempts = []) (hlink : s.repair.linkPreempts = []) :
    Runs (.slicePreempt hbm unit) s fun t =>
      t.f F.REPAIR_BG_STAT_PREEMPT 0 = s.counted F.REPAIR_BG_STAT_PREEMPT 0 1 ∧ t.repair.forced = s.repair.forced ∧
      t.time = (s.advanceTo (s.testDue hbm unit)).time ∧
      t.testDue hbm unit = t.later (if hbm then s.testPeriod true else 1000 * ticksPerUs) ∧
      Kept s t [(.REPAIR_BG_STAT, 0)] [.clock, .repair] := by
  set u := (s.advanceTo (s.testDue hbm unit)).bump F.REPAIR_BG_STAT_PREEMPT 0 1 with hu
  have hrepair : u.repair = s.repair := (State.bump_repair ..).trans (State.advanceTo_repair ..)
  have hf : s.slicePreempt hbm unit = u.preempted hbm unit := by
    rw [State.slicePreempt]
    simp only [hon, hforced, Bool.not_true, Bool.or_self, Bool.false_eq_true, if_false, ← hu]
    cases hbm <;> simp [State.testAgain, State.preempted, State.preempts, State.retryIn, hrepair, hhbm, hlink]
  have hkept : Kept s u [(.REPAIR_BG_STAT, 0)] [.clock] := (Kept.advanceTo s _).trans (Kept.bump ..)
  have hpreempted := Kept.preempted u hbm unit
  refine Runs.of_sameSteps (f := fun s => s.slicePreempt hbm unit) rfl hs hf (hkept.trans hpreempted)
    ((SameSteps.of_repair hrepair).trans (SameSteps.preempted ..)) (by decide) (by decide) fun t ht h => ?_
  have hover : t.repair = (u.preempted hbm unit).repair := ht.areas .repair (by simp)
  obtain ⟨htime, -⟩ := (hpreempted.trans ht).areas .clock (by simp)
  refine ⟨?_, by rw [hover, State.forced_preempted, hrepair], htime, ?_, h⟩
  · rw [(hpreempted.trans ht).f _ _ rfl (by simp), hu, State.f_bump_same _ _ _ _ (by decide), State.counted, State.advanceTo_f,
      State.counted]
  · have hdue : t.testDue hbm unit = (u.preempted hbm unit).testDue hbm unit := by simp only [State.testDue, hover]
    rw [hdue, State.testDue_preempted, State.later, State.later, htime, State.retryIn, hkept.testPeriod (by simp)]

/-- Settles O23, a clause for each command: a slice of the self-test changes the repair state, its rod's status and spare rows, and a
background test its own state, and neither lets any work go on. -/
theorem selfTests : Obligations.SelfTests := by
  unfold Obligations.SelfTests
  refine ⟨?_, ?_, ?_, ?_, ?_, ?_, ?_, ?_⟩
  · intro s phys k x r hs htests hphys hslicing hk hne hopen hretired hlow hrows hspares hc
    refine Runs.laterSlice hs htests hphys hslicing hk hne hopen hretired r hlow fun t ht h => ?_
    rw [sliceFault_none hrows hspares hc] at ht
    exact ⟨ht.causeShown, ht.stateShown, ht.taken, ht.sliced, ht.retired, h⟩
  · intro s phys k x r hs htests hphys hslicing hk hne hopen hretired hlow hc
    refine Runs.laterSlice hs htests hphys hslicing hk hne hopen hretired r hlow fun t ht h => ?_
    have hfault := sliceFault_cause hc
    have hlt : sliceFault x ≠ 0 ∧ sliceFault x < 16 := by
      rw [hfault]
      split_ifs <;> omega
    refine ⟨ht.stateShown.trans (if_neg hlt.1), ?_, ht.sliced, ht.retired, h⟩
    rw [ht.causeShown, Nat.mod_eq_of_lt hlt.2, hfault]
  · intro s phys k j low x hs htests hphys hslicing hk hne hopen hretired hlow hj hjp hjk hg hr h627
    rcases Nat.lt_or_ge low 100 with h100 | h100
    · obtain ⟨t, ht, hbroken⟩ :=
        Runs.firstSlice_broken (x := x) hs htests hphys hslicing hk hne hopen hretired hlow hj hjp hjk hg hr h100
      exact ⟨t, ht, fun _ => hbroken, fun h => absurd h100 (Nat.not_lt.2 h)⟩
    · obtain ⟨t, ht, hslow⟩ :=
        Runs.firstSlice_slow (x := x) (j := j) hs htests hphys hslicing hk hne hopen hretired hlow h100 h627
      exact ⟨t, ht, fun h => absurd h (Nat.not_lt.2 h100), fun _ => hslow⟩
  · intro s phys k low hs htests hphys hslicing hk hne hopen hretired h100 h627
    exact Runs.sliceOverrun low hs htests hphys hslicing hk hne hopen hretired h100 h627
  · intro s page port peer hs hport hpage hon htests hruns hphase
    exact Runs.linkTestSlice hs hport hpage hon htests hruns hphase
  · intro s pc hs hpc hhbm hon hpower hruns hphase
    exact Runs.hbmTestSlice_none hs hpc hhbm hon hpower hruns hphase
  · intro s pc row hs hpc hhbm hon hpower hruns hphase
    exact Runs.hbmTestSlice_spare hs hpc hhbm hon hpower hruns hphase row
  · intro s hbm unit hs hon hforced hhbm hlink
    exact Runs.slicePreempt hs hon hforced hhbm hlink

end Sys2Proof.Machine
end

section
/-! PROOF. What the statements of O26, O28 and O29 leave out: NI 0x60 also answers for the registers of HBM (R18, R449), a CLEAR of
statistics is a reset of their registers, settings that wait included (R37), and a fence that reopens lets the requests of its
unit go on that waited behind it (R246, R259). -/

namespace Sys2Proof.Machine

-- ------------------------------------------------------------------ the registers behind NI 0x60 (R18, R449)

/-- A read by core 0 of HBM.CTRL, which lies in the block of CSR space that NI 0x60 owns. -/
def readOfHbmCtrl : Packet :=
  { cmd := .rd, src := 0x94, dest := 0x60, tag := 7, record := 0, err := 0, attr := 0, addr := csrBase + csrOffset .HBM_CTRL 0, len := 3
    beFirst := 0, beLast := 0, operand := 0, injTime := 0, route := 0xFFFFFFFFFFFF, vn := 0, prio := 0, data := [], poison := false }

/-- The read stands in the CS-F of NI 0x60; no byte of HBM has been written. -/
def hbmCtrlAsked : State :=
  (poweredUp.setF F.DEV_XS_STATE_STATE 0x60 0).setNi 0x60
    { niInit with csf := { csfInit with down := [(readOfHbmCtrl, .clean)] } }

/-- A word that reads clean. -/
def cleanFinding : WordFinding := ⟨0, .clean, true⟩

/-- The payload of the unit that an NI has sent last. -/
def lastPayload (n : Nat) (s : State) : Option (BitVec 512) := (s.ni n).out.getLast?.map (·.payload)

/-- The answer carries HBM.CTRL at reset, which is not 0. -/
theorem lastPayload_hbmCtrlAsked :
    viewAfter (lastPayload 0x60) (exec (.rd readOfHbmCtrl cleanFinding) hbmCtrlAsked) ≠ some (some 0) := by decide +kernel

/-- The last unit of a packet with one data unit carries its data. -/
theorem payload_getLast_unitsOf {q : Packet} (h : dataUnits q.cmd q.addr q.len = 1) (l : List FlowUnit) :
    (l ++ unitsOf q).getLast?.map (·.payload) = some (dataPayload q 0) := by
  simp [unitsOf, h]

/-- The answer that the statement asks for: 4 bytes of HBM, none of them written. -/
def hbmBytesAnswer : Packet := hbmCtrlAsked.answerTo readOfHbmCtrl .rspData 0 0 (hbmCtrlAsked.hbmRead readOfHbmCtrl.addr 4)

theorem lastPayload_of_sent {t : State} (h : Sent hbmCtrlAsked t hbmBytesAnswer) : lastPayload 0x60 t = some 0 := by
  have hout : (t.ni 0x60).out = _ := h
  have hunits : dataUnits hbmBytesAnswer.cmd hbmBytesAnswer.addr hbmBytesAnswer.len = 1 := by decide +kernel
  have hzero : dataPayload hbmBytesAnswer 0 = 0 := by decide +kernel
  rw [lastPayload, hout, payload_getLast_unitsOf (q := { hbmBytesAnswer with injTime := t.now.setWidth 32 }) hunits]
  exact congrArg some hzero

/-- Refutes O26: the statement has NI 0x60 answer every read that its address map leads there with bytes of HBM, and the map leads
reads of the HBM registers there (R18), which are answered with the register (R449). -/
theorem not_packetsAtTargets : ¬ Obligations.PacketsAtTargets := by
  unfold Obligations.PacketsAtTargets
  rintro ⟨hread, -⟩
  obtain ⟨t, ht, hsent, -⟩ := hread hbmCtrlAsked readOfHbmCtrl 0 true (by decide +kernel) (by decide +kernel)
  have hview := lastPayload_hbmCtrlAsked
  rw [cleanFinding, ht, viewAfter, lastPayload_of_sent hsent] at hview
  exact hview rfl

-- ------------------------------------------------------------------ a statistic among the settings that wait (R37, R256)

/-- The list of settings that act until their function restarts (R37) names a word of NI 0's histogram. -/
def statisticActing : State := poweredUp.putDev { poweredUp.dev with acting := [((.NI_STAT_HIST, 0), 0)] }

/-- CLEAR resets the registers of the statistics, and what acts of them is the stored word again. -/
theorem statisticActing_acting : viewAfter (·.dev.acting) (exec (.clearStats 0) statisticActing) = some [] := by decide +kernel

/-- Refutes O28: a CLEAR of statistics takes them off the list of settings that act until a restart (R37), so that list is not left
as it was in every ready state. No command puts a statistic there, but the statement asks nothing of the list. -/
theorem not_routeTables : ¬ Obligations.RouteTables := by
  unfold Obligations.RouteTables
  rintro ⟨-, -, -, -, -, -, hclear⟩
  obtain ⟨t, ht, -, -, hk⟩ := hclear statisticActing 0 (by decide +kernel) (by decide)
  obtain ⟨-, -, -, -, -, -, hacting, -⟩ := hk.areas .dev (by decide)
  have hsame := viewAfter_of_eq (view := (·.dev.acting)) ht hacting
  rw [statisticActing_acting] at hsame
  exact absurd hsame (by decide +kernel)

-- ------------------------------------------------------------------ a request behind a closed fence (R246, R259)

/-- A read by core 0 of an address that nothing has (R16). -/
def strayRead : Request :=
  { cmd := .rd, addr := csrBase - 64, len := 7, be := [], operand := 0, data := [], dbg := false, mgmt := false, urgent := false
    tag := 0, use := .none }

/-- The fence of core 0's NI is closed, and the read waits behind it in the CS-F. -/
def strayReadFenced : State :=
  let s := (poweredUp.setF F.NI_STATUS_STATE 0x94 1).setF F.DEV_XS_STATE_STATE 0x94 0
  let s := (s.setF F.PWR_REGION_STATUS_ON 0 0x7FF).setF F.NI_FENCE_STATUS_STATE 0x94 2
  s.setNi 0x94 { niInit with csf := { csfInit with up := [strayRead], upWritten := 1 } }

/-- OPEN lets the NI read the request, whose error enters its log (R253). -/
theorem strayReadFenced_log : viewAfter (·.f F.NI_ERRLOG_INFO_VALID 0x94) (exec (.openFence jtagWho 0x94) strayReadFenced) = some 1 := by
  decide +kernel

/-- Refutes O29: with OPEN the request that waited behind the fence of `strayReadFenced` goes on (R246, R259), and the error log of its
NI takes it, so more registers than FENCE_STATUS change. -/
theorem not_fencesAndStations : ¬ Obligations.FencesAndStations := by
  unfold Obligations.FencesAndStations
  rintro ⟨-, -, -, hopen, -⟩
  obtain ⟨t, ht, -, -, hk⟩ := hopen strayReadFenced jtagWho 0x94 (by decide +kernel) (by decide +kernel) (by decide +kernel)
    (by decide +kernel) (by decide +kernel) (by decide +kernel)
  have hsame := viewAfter_of_eq (view := (·.f F.NI_ERRLOG_INFO_VALID 0x94)) ht (hk.f F.NI_ERRLOG_INFO_VALID 0x94 rfl (by decide))
  rw [strayReadFenced_log] at hsame
  exact absurd hsame (by decide +kernel)

end Sys2Proof.Machine
end

section
/-! PROOF. Updates of the network that let no work go on: where the NIs hold the same of what may wait, a calm state stays
calm. -/

namespace Sys2Proof.Machine

/-- Two states of an NI hold the same of what may wait there for room, a tag, a clock or its fence. -/
structure NiState.SameWaits (v w : NiState) : Prop where
  edge : w.edge = v.edge
  outstanding : w.outstanding = v.outstanding
  quarantine : w.quarantine = v.quarantine
  uq : w.uq = v.uq
  ev : w.ev = v.ev
  ir : w.ir = v.ir
  arrived : w.arrived = v.arrived
  csf : w.csf = v.csf
  markers : w.markers = v.markers

theorem NiState.SameWaits.refl (v : NiState) : NiState.SameWaits v v := ⟨rfl, rfl, rfl, rfl, rfl, rfl, rfl, rfl, rfl⟩

theorem NiState.SameWaits.trans {v w x : NiState} (h : NiState.SameWaits v w) (g : NiState.SameWaits w x) :
    NiState.SameWaits v x :=
  ⟨g.edge.trans h.edge, g.outstanding.trans h.outstanding, g.quarantine.trans h.quarantine, g.uq.trans h.uq, g.ev.trans h.ev,
    g.ir.trans h.ir, g.arrived.trans h.arrived, g.csf.trans h.csf, g.markers.trans h.markers⟩

/-- From s to t nothing has ended, and every NI holds the same of what may wait there. -/
structure SameWaits (s t : State) : Prop where
  ended : t.net.ended = s.net.ended
  nis : ∀ n, NiState.SameWaits (s.ni n) (t.ni n)

-- ------------------------------------------------------------------ NIs and routers after an update

theorem State.ni_setNi (s : State) (n m : Nat) (v : NiState) : (s.setNi n v).ni m = if m = n then v else s.ni m :=
  Sparse.get_set ..

theorem State.router_setRouter (s : State) (page q : Nat) (v : RouterState) :
    (s.setRouter page v).router q = if q = page then v else s.router q := Sparse.get_set ..

@[simp] theorem State.setRouter_ni (s : State) (page : Nat) (v : RouterState) : (s.setRouter page v).ni = s.ni := rfl
@[simp] theorem State.setNi_router (s : State) (n : Nat) (v : NiState) : (s.setNi n v).router = s.router := rfl

theorem State.ni_congr {s t : State} (h : t.net = s.net) : t.ni = s.ni := by
  funext n
  rw [State.ni, h, State.ni]

theorem State.router_congr {s t : State} (h : t.net = s.net) : t.router = s.router := by
  funext page
  rw [State.router, h, State.router]

-- ------------------------------------------------------------------ work that waits at NIs

/-- A key that is not listed reads as unlisted. -/
theorem Sparse.get_of_not_mem {α : Type} (d : α) {m : Sparse α} {k : Nat} (h : k ∉ m.map (·.1)) : Sparse.get d m k = d := by
  by_contra hne
  exact h (List.mem_map_of_mem (f := (·.1)) (Sparse.mem_of_get_ne hne))

/-- What holds of no NI that holds nothing holds of no listed NI exactly if it holds of none. -/
theorem State.listed_none_iff {s : State} {p : Nat → Bool} (h : ∀ n, s.ni n = niInit → p n = false) :
    (s.net.nis.map (·.1)).any p = false ↔ ∀ n, p n = false := by
  rw [List.any_eq_false]
  refine ⟨fun hall n => ?_, fun hall n _ => by simp [hall n]⟩
  by_cases hn : n ∈ s.net.nis.map (·.1)
  · exact Bool.not_eq_true _ ▸ hall n hn
  · exact h n (Sparse.get_of_not_mem niInit hn)

theorem State.csfDue_iff (s : State) : s.csfDue = false ↔ ∀ n, s.csfMoves n = false :=
  State.listed_none_iff fun n hn => by
    simp [State.csfMoves, State.nextCrossing, State.readsUp, hn, niInit, csfInit]

theorem State.markersDue_iff (s : State) : s.markersDue = false ↔ ∀ n, (s.markerGoes n).isSome = false :=
  State.listed_none_iff fun n hn => by simp [State.markerGoes, hn, niInit]

theorem State.edgeMoves_of_init {s : State} {n : Nat} (hn : s.ni n = niInit) : s.edgeMoves n = false := by
  have hhead : ∀ chan, (s.channelHead n chan).isSome = false := by
    intro chan
    unfold State.channelHead
    rw [hn]
    split <;> rfl
  simp [State.edgeMoves, State.channelMoves, hhead, hn, niInit, edgeInit]

theorem State.busyEdges_iff (s : State) : s.busyEdges.isEmpty = true ↔ ∀ n, (decide (n < 0x60) && s.edgeMoves n) = false := by
  rw [← State.listed_none_iff (s := s) fun n hn => by simp [State.edgeMoves_of_init hn]]
  simp only [State.busyEdges, List.filter_filter, List.isEmpty_iff, List.filter_eq_nil_iff, List.any_eq_false, Bool.and_comm]

-- ------------------------------------------------------------------ updates of the network that let no work go on

section
variable {s : State} {v : NetState} (h : SameWaits s (s.putNet v))
include h

theorem SameWaits.freeTag (n : Nat) : (s.putNet v).freeTag n = s.freeTag n := by
  simp only [State.freeTag, State.tagTaken, (h.nis n).outstanding, (h.nis n).quarantine]

theorem SameWaits.responseRoom (n : Nat) (r : Request) : (s.putNet v).responseRoom n r = s.responseRoom n r := by
  simp only [State.responseRoom, State.reservedUnits, (h.nis n).outstanding, (h.nis n).ir]
  rfl

theorem SameWaits.markerGoes (n : Nat) : (s.putNet v).markerGoes n = s.markerGoes n := by
  simp only [State.markerGoes, (h.nis n).markers, h.freeTag, h.responseRoom]

theorem SameWaits.csfMoves (n : Nat) : (s.putNet v).csfMoves n = s.csfMoves n := by
  have hwaits (r : Request) : (s.putNet v).requestWaits n r = s.requestWaits n r := by
    simp only [State.requestWaits, State.fabricFault, State.tagTaken, h.freeTag, h.responseRoom, (h.nis n).outstanding,
      (h.nis n).quarantine]
    rfl
  have hreads : (s.putNet v).readsUp n = s.readsUp n := by
    simp only [State.readsUp, (h.nis n).csf, hwaits]
    rfl
  have hnext : (s.putNet v).nextCrossing n = s.nextCrossing n := by
    simp only [State.nextCrossing, (h.nis n).csf, (h.nis n).arrived]
    rfl
  rw [State.csfMoves, hnext, hreads, State.csfMoves]

theorem SameWaits.edgeMoves (n : Nat) : (s.putNet v).edgeMoves n = s.edgeMoves n := by
  have hhead (chan : Nat) : ((s.putNet v).channelHead n chan).isSome = (s.channelHead n chan).isSome := by
    unfold State.channelHead
    simp only [(h.nis n).ir, (h.nis n).edge, (h.nis n).uq, (h.nis n).ev]
    split <;> simp [Option.isSome_map]
  have hmoves : (s.putNet v).channelMoves n = s.channelMoves n := by
    funext chan
    simp only [State.channelMoves, hhead, (h.nis n).edge]
    rfl
  simp only [State.edgeMoves, State.iqTakes, (h.nis n).edge, hmoves]
  rfl

/-- A calm state stays calm where the NIs hold the same of what may wait. -/
theorem SameWaits.calm_putNet (hs : s.calm = true) : (s.putNet v).calm = true := by
  rw [State.calm_iff] at hs ⊢
  obtain ⟨hdue, hended, hresume, hpieces, hdma, hload, htransfer, hqueued, hreset, hedges, hcsf, hmarkers, hrepair⟩ := hs
  refine ⟨hdue, h.ended.trans hended, hresume, hpieces, hdma, hload, htransfer, hqueued, hreset, ?_, ?_, ?_, hrepair⟩
  · simp only [State.edgesDue, Bool.or_eq_false_iff, Bool.not_eq_false', State.busyEdges_iff, h.edgeMoves] at hedges ⊢
    exact hedges
  · rw [State.csfDue_iff] at hcsf ⊢
    simpa only [h.csfMoves] using hcsf
  · rw [State.markersDue_iff] at hmarkers ⊢
    simpa only [h.markerGoes] using hmarkers

end

theorem SameWaits.refl (s : State) : SameWaits s s := ⟨rfl, fun _ => .refl _⟩

theorem SameWaits.trans {s t u : State} (h : SameWaits s t) (g : SameWaits t u) : SameWaits s u :=
  ⟨g.ended.trans h.ended, fun n => (h.nis n).trans (g.nis n)⟩

/-- An update that leaves the NIs, and what has ended, alone. -/
theorem SameWaits.of_nis {s t : State} (hn : t.net.nis = s.net.nis) (he : t.net.ended = s.net.ended) : SameWaits s t :=
  ⟨he, fun n => by rw [show t.ni n = s.ni n by rw [State.ni, hn, State.ni]]; exact .refl _⟩

theorem SameWaits.of_net {s t : State} (h : t.net = s.net) : SameWaits s t := .of_nis (by rw [h]) (by rw [h])

theorem SameWaits.setRouter (s : State) (page : Nat) (v : RouterState) : SameWaits s (s.setRouter page v) := .of_nis rfl rfl

theorem SameWaits.setNi (s : State) {n : Nat} {v : NiState} (h : NiState.SameWaits (s.ni n) v) : SameWaits s (s.setNi n v) := by
  refine ⟨rfl, fun m => ?_⟩
  rw [State.ni_setNi]
  split
  · next hm => exact hm ▸ h
  · exact .refl _

theorem SameWaits.foldl {α : Type} (f : State → α → State) (l : List α) (h : ∀ u x, SameWaits u (f u x)) :
    ∀ s, SameWaits s (l.foldl f s) := by
  induction l with
  | nil => exact SameWaits.refl
  | cons x l ih => exact fun s => (h s x).trans (ih _)

/-- A change of the network that lets nothing go on, beside changes that let nothing go on, keeps a state calm. -/
theorem SameWaits.calm {s t : State} {R : Regs} {A : List Area} (h : SameWaits s t) (k : Kept s t R A)
    (hA : ∀ a ∈ calmAreas, a ≠ .net → a ∉ A) (hR : ∀ x ∈ R, x.1 ∉ calmRegs) (hs : s.calm = true) :
    t.calm = true := by
  have hback : Kept s (t.putNet s.net) R (A.filter (· ≠ .net)) := by
    refine ⟨k.part, k.pending, k.regs, fun a ha => ?_⟩
    by_cases hnet : a = .net
    · subst hnet
      exact rfl
    · have hkept := k.areas a fun hmem => ha (List.mem_filter.2 ⟨hmem, by simpa using hnet⟩)
      cases a
      case net => exact absurd rfl hnet
      all_goals exact hkept
  have hcalm : (t.putNet s.net).calm = true := by
    rw [hback.calm (fun a ha hmem => hA a ha (by simpa using (List.mem_filter.1 hmem).2) (List.mem_filter.1 hmem).1) hR, hs]
  exact SameWaits.calm_putNet (s := t.putNet s.net) (v := t.net) ⟨h.ended, h.nis⟩ hcalm

/-- A command on a ready state whose effect is such a change. -/
theorem Runs.of_sameWaits {c : Instr} {s u : State} {f : State → State} {P : State → Prop} {R : Regs} {A : List Area}
    (hc : exec c s = s.command f) (hs : s.ready = true) (hf : f s = u) (k : Kept s u R A) (h : SameWaits s u)
    (hA : ∀ a ∈ calmAreas, a ≠ .net → a ∉ A) (hR : ∀ x ∈ R, x.1 ∉ calmRegs)
    (hP : ∀ t, Kept u t [] [] → Kept s t R A → P t) : Runs c s P := by
  subst hf
  exact Runs.of_calm hc hs k (h.calm k hA hR) fun t _ ht => hP t ht

end Sys2Proof.Machine
end

section
/-! PROOF. Routers: ageing, wire repair and staged writes (R202, R211, R239, R240). -/

namespace Sys2Proof.Machine

-- ------------------------------------------------------------------ what leaves routers alone

@[simp] theorem State.setWord_router (s : State) (r : Reg) (i : Nat) (v : Word) : (s.setWord r i v).router = s.router := rfl
@[simp] theorem State.setF_router (s : State) (F : Fld) (i v : Nat) : (s.setF F i v).router = s.router := rfl
@[simp] theorem State.raise_router (s : State) (F : Fld) (i : Nat) : (s.raise F i).router = s.router := rfl
@[simp] theorem State.bump_router (s : State) (F : Fld) (i n : Nat) : (s.bump F i n).router = s.router := rfl
@[simp] theorem State.journal_router (s : State) (origin : BitVec 8) (kind aux : Nat) (b : Body) :
    (s.journal origin kind aux b).router = s.router := State.router_congr (by simp)

@[simp] theorem State.setRouter_nis (s : State) (page : Nat) (v : RouterState) : (s.setRouter page v).net.nis = s.net.nis := rfl
@[simp] theorem State.setRouter_ended (s : State) (page : Nat) (v : RouterState) :
    (s.setRouter page v).net.ended = s.net.ended := rfl

-- ------------------------------------------------------------------ ageing (R211)

theorem State.agePromote_first {s : State} {page port vn : Nat} {u : FlowUnit} (hthresh : s.f F.CN_AGE_CFG_THRESH page ≠ 0)
    (hvn : vn < 2) (huvn : u.vn = vn) (hhead : u.head = true) (hprio : u.prio < 2)
    (hwaiting : (s.router page).waiting = [(port, u)]) :
    s.agePromote page port vn = (s.setRouter page { s.router page with
      waiting := [(port, { u with prio := u.prio + 1, aged := true })] }).bump F.CN_AGED_PROMOTIONS page 1 := by
  have hlow : ¬ 2 ≤ vn := by omega
  simp [State.agePromote, hthresh, hlow, huvn, hhead, hprio, hwaiting, promoteFirst]

theorem Runs.ageingPromotion {s : State} {page port vn : Nat} {u : FlowUnit} (hs : s.ready = true)
    (hthresh : s.f F.CN_AGE_CFG_THRESH page ≠ 0) (hvn : vn < 2) (huvn : u.vn = vn) (hhead : u.head = true) (hprio : u.prio < 2)
    (hwaiting : (s.router page).waiting = [(port, u)]) :
    Runs (.ageingPromotion page port vn) s fun t =>
      (t.router page).waiting = [(port, { u with prio := u.prio + 1, aged := true })] ∧
      t.f F.CN_AGED_PROMOTIONS page = s.counted F.CN_AGED_PROMOTIONS page 1 ∧ Kept s t [(.CN_AGED, page)] [.net] := by
  refine Runs.of_sameWaits (f := fun s => s.agePromote page port vn) rfl hs
    (State.agePromote_first hthresh hvn huvn hhead hprio hwaiting) ((Kept.setRouter ..).trans (Kept.bump ..))
    ((SameWaits.setRouter ..).trans (.of_net rfl)) (by decide) (by simp [calmRegs]) fun t ht h => ⟨?_, ?_, h⟩
  · simp [State.router_congr (ht.areas .net List.not_mem_nil), State.router_setRouter]
  · rw [ht.f _ _ rfl (by simp), State.f_bump_same _ _ _ _ (by decide)]
    rfl

-- ------------------------------------------------------------------ wire repair (R202, R240)

/-- Spare 0 of a REMAP_PENDING direction takes wire w, and LINK_MAP shows the word m of it. -/
def State.wireMapped (s : State) (page port w : Nat) (m : Word) : State :=
  let v := s.router page
  ((s.setF F.CN_LINK_STATUS_REMAP_PENDING (linkInst page port) 0).setRouter page
    { v with spares := Sparse.insert v.spares (8 * port) (w + 1) }).setWord .CN_LINK_MAP (linkInst page port) m

/-- The fault of such a direction is located in wire w, the first that moves to a spare; the ledger's entry has body b. -/
def State.wireMoved (s : State) (page port w : Nat) (m : Word) (b : Body) : State :=
  (((s.wireMapped page port w m).journal 0x31 7 5 b).setF F.CN_LINK_STATUS_SPARES_USED (linkInst page port) 1).raise
    F.CN_STATUS_REMAP page

/-- Of a direction that used no spare, spare 0 alone is in use once a wire has moved to it. -/
theorem State.sparesUsed_insert {s t : State} {page port w : Nat} (h : s.sparesUsed page port = [])
    (ht : (t.router page).spares = Sparse.insert (s.router page).spares (8 * port) (w + 1)) : t.sparesUsed page port = [0] := by
  have hfree : ∀ k < 8, Sparse.get 0 (s.router page).spares (8 * port + k) = 0 := fun k hk => by
    simpa using List.filter_eq_nil_iff.1 h k (List.mem_range.2 hk)
  have hother : ∀ k < 8, k ≠ 0 → Sparse.get 0 (t.router page).spares (8 * port + k) = 0 := fun k hk h0 => by
    rw [ht, Sparse.get_insert_other _ _ _ (by omega), hfree k hk]
  have hsame : Sparse.get 0 (t.router page).spares (8 * port) = w + 1 := by rw [ht]; exact Sparse.get_insert_same ..
  have hmoved : ∀ k ∈ List.range 8, (Sparse.get 0 (t.router page).spares (8 * port + k) != 0) = (k == 0) := fun k hk => by
    by_cases h0 : k = 0
    · subst h0
      simp [hsame]
    · simp [hother k (List.mem_range.1 hk) h0, h0]
  rw [State.sparesUsed, List.filter_congr hmoved]
  decide

@[simp] theorem State.wireMapped_router_spares (s : State) (page port w : Nat) (m : Word) :
    ((s.wireMapped page port w m).router page).spares = Sparse.insert (s.router page).spares (8 * port) (w + 1) := by
  rw [State.wireMapped, State.setWord_router, State.router_setRouter, if_pos rfl]

theorem State.wireRemap_first {s : State} {page port w : Nat}
    (hpending : s.f F.CN_LINK_STATUS_REMAP_PENDING (linkInst page port) = 1) (hw : w < 592) (h : s.sparesUsed page port = []) :
    s.wireRemap page port (some w) = s.wireMoved page port w (BitVec.ofNat 32 (w + 2 ^ 31))
      ⟨0x30000000 + linkInst page port, w, 0, 0⟩ := by
  have hnone : (s.setF F.CN_LINK_STATUS_REMAP_PENDING (linkInst page port) 0).sparesUsed page port = [] := h
  have hfirst : (List.range 8).find? (fun k => !([] : List Nat).contains k) = some 0 := rfl
  have hshow : ∀ t : State, (t.router page).spares = Sparse.insert (s.router page).spares (8 * port) (w + 1) →
      t.showSpares page port = t.setF F.CN_LINK_STATUS_SPARES_USED (linkInst page port) 1 := fun t ht => by
    simp [State.showSpares, State.sparesUsed_insert h ht]
  simp only [State.wireRemap, State.on, hpending, hnone, hfirst, Nat.mod_eq_of_lt hw, State.mapWire, State.setF_router,
    Nat.mul_zero, Nat.add_zero]
  rw [if_neg (by simp), hshow _ (by rw [State.journal_router, State.setWord_router, State.router_setRouter, if_pos rfl]),
    State.wireMoved, State.wireMapped]

section
variable (s : State) (page port w : Nat) (m : Word) (b : Body)

theorem Kept.wireMoved : Kept s (s.wireMoved page port w m b)
    [(.CN_LINK_STATUS, linkInst page port), (.CN_LINK_MAP, linkInst page port), (.CN_STATUS, page)] [.net, .ledger] :=
  ((((((Kept.start s _ _).via (Kept.setF ..) (by simp) (by simp)).via (Kept.setRouter ..) (by simp) (by simp)).via
    (Kept.setWord ..) (by simp) (by simp)).via (Kept.journal ..) (by simp) (by simp)).via
      (Kept.setF ..) (by simp) (by simp)).via (Kept.raise ..) (by simp) (by simp)

theorem SameWaits.wireMoved : SameWaits s (s.wireMoved page port w m b) :=
  .of_nis (by simp [State.wireMoved, State.wireMapped]) (by simp [State.wireMoved, State.wireMapped])

theorem State.wireMoved_spares :
    ((s.wireMoved page port w m b).router page).spares = Sparse.insert (s.router page).spares (8 * port) (w + 1) := by
  simp [State.wireMoved]

theorem State.wireMoved_linkMap : (s.wireMoved page port w m b).word .CN_LINK_MAP (linkInst page port) = m := by
  simp [State.wireMoved, State.wireMapped, State.word_raise, State.word_setF]

theorem State.wireMoved_linkStatus : (s.wireMoved page port w m b).word .CN_LINK_STATUS (linkInst page port) =
    changed (s.word .CN_LINK_STATUS (linkInst page port))
      [(F.CN_LINK_STATUS_REMAP_PENDING, 0), (F.CN_LINK_STATUS_SPARES_USED, 1)] := by
  simp [State.wireMoved, State.wireMapped, State.word_raise, State.word_setF, State.word_setWord, changed]

theorem State.wireMoved_remap : (s.wireMoved page port w m b).f F.CN_STATUS_REMAP page = 1 := by
  rw [State.wireMoved, State.raise, State.f_setF_same _ _ _ _ (by decide)]
  rfl

theorem State.wireMoved_entered : Entered s (s.wireMoved page port w m b) 0x31 7 5 b :=
  Entered.of_journal (u := s.wireMapped page port w m) rfl rfl

end

/-- An entry of the ledger is there in every state of the same ledger. -/
theorem Entered.of_ledger {s t u : State} {origin : BitVec 8} {kind aux : Nat} {b : Body} (h : Entered s t origin kind aux b)
    (hu : u.ledger = t.ledger) : Entered s u origin kind aux b := by
  rw [Entered, hu]
  exact h

theorem Runs.wireRemap {s : State} {page port w : Nat} (hs : s.ready = true)
    (hpending : s.f F.CN_LINK_STATUS_REMAP_PENDING (linkInst page port) = 1) (hw : w < 592) (h : s.sparesUsed page port = []) :
    Runs (.wireRemap page port (some w)) s fun t =>
      s.sparesUsed page port = [] ∧ t.sparesUsed page port = [0] ∧
      t.word .CN_LINK_MAP (linkInst page port) = BitVec.ofNat 32 (w + 2 ^ 31) ∧
      t.word .CN_LINK_STATUS (linkInst page port) = changed (s.word .CN_LINK_STATUS (linkInst page port))
        [(F.CN_LINK_STATUS_REMAP_PENDING, 0), (F.CN_LINK_STATUS_SPARES_USED, 1)] ∧
      t.f F.CN_STATUS_REMAP page = 1 ∧
      Entered s t 0x31 7 5 ⟨0x30000000 + linkInst page port, w, 0, 0⟩ ∧
      Kept s t [(.CN_LINK_STATUS, linkInst page port), (.CN_LINK_MAP, linkInst page port), (.CN_STATUS, page)]
        [.net, .ledger] := by
  refine Runs.of_sameWaits (f := fun s => s.wireRemap page port (some w)) rfl hs (State.wireRemap_first hpending hw h)
    (Kept.wireMoved ..) (SameWaits.wireMoved ..) (by decide) (by simp [calmRegs]) fun t ht hk =>
      ⟨h, State.sparesUsed_insert (w := w) h ?_, ?_, ?_, ?_, ?_, hk⟩
  · rw [State.router_congr (ht.areas .net List.not_mem_nil), State.wireMoved_spares]
  · rw [ht.regs _ _ rfl List.not_mem_nil, State.wireMoved_linkMap]
  · rw [ht.regs _ _ rfl List.not_mem_nil, State.wireMoved_linkStatus]
  · rw [ht.f _ _ rfl List.not_mem_nil, State.wireMoved_remap]
  · exact Entered.of_ledger (State.wireMoved_entered s page port w _ _) (ht.areas .ledger List.not_mem_nil)

-- ------------------------------------------------------------------ staged writes (R239)

theorem Runs.stagedWrite {s : State} {page : Nat} {r : Reg} {data : Word} (who : Who) (hs : s.ready = true)
    (hr : isStaged r = true) (hpage : pagePresent s.part page = true) (hgood : s.stagedBad page r data = false) :
    Runs (.stagedWrite who page r data) s fun t =>
      (t.router page).staged = (s.router page).staged.filter (fun x => x.reg != r) ++ [⟨r, page, data, who⟩] ∧
      t.word r page = s.word r page ∧
      t.word .CN_STATUS page = changed (s.word .CN_STATUS page) [(F.CN_STATUS_STAGED, 1)] ∧
      Kept s t [(.CN_STATUS, page)] [.net] := by
  have hne : r ≠ .CN_STATUS := by rintro rfl; cases hr
  have hpend : isPend r = false := by revert hr; cases r <;> simp [isStaged, isPend]
  have hf : (if isStaged r then s.stagedWrite who page r data else s) =
      (s.setRouter page { s.router page with
        staged := (s.router page).staged.filter (fun x => x.reg != r) ++ [⟨r, page, data, who⟩] }).setF
          F.CN_STATUS_STAGED page 1 := by
    simp [State.stagedWrite, hr, hpage, hgood, State.showStaged, State.router_setRouter]
  refine Runs.of_sameWaits (f := fun s => if isStaged r then s.stagedWrite who page r data else s) rfl hs hf
    ((Kept.setRouter ..).trans (Kept.setF ..)) (.of_nis rfl rfl) (by decide) (by simp [calmRegs]) fun t ht h =>
      ⟨?_, ?_, ?_, h⟩
  · simp [State.router_congr (ht.areas .net List.not_mem_nil), State.router_setRouter]
  · exact h.regs r page hpend (by simp [hne])
  · rw [ht.regs _ _ rfl List.not_mem_nil]
    simp [State.word_setF, changed]

end Sys2Proof.Machine
end

section
/-! PROOF. Routers: a HOLD from its request to its end (R241 to R243). -/

namespace Sys2Proof.Machine

-- ------------------------------------------------------------------ a router where nothing waits

/-- A bit that was raised reads 1. -/
theorem State.f_raise_same (s : State) (F : Fld) (i : Nat) (h : F.lo + F.width ≤ 32) (hw : 0 < F.width) :
    (s.raise F i).f F i = 1 := by
  rw [State.raise, State.f_setF_same _ _ _ _ h, Nat.mod_eq_of_lt (Nat.one_lt_two_pow hw.ne')]

theorem SameWaits.of_kept {s t : State} {R : Regs} {A : List Area} (k : Kept s t R A) (h : Area.net ∉ A) : SameWaits s t :=
  .of_net (k.areas .net h)

theorem State.arbitrate_nil (s : State) (page out : Nat) : s.arbitrate page out [] = none := by
  simp [State.arbitrate, pickOf]

theorem State.nextUnit_of_empty {s : State} {page : Nat} (h : (s.router page).waiting = []) : s.nextUnit page = none := by
  simp [State.nextUnit, h, headsOf, State.arbitrate_nil]

/-- A router that can move nothing leaves the network as it is. -/
theorem State.flow_of_still {s : State} {page : Nat} (h : s.nextUnit page = none) (n : Nat) : s.flow n [page] = s := by
  cases n with
  | zero => rfl
  | succ n => cases n <;> simp [State.flow, h]

theorem State.forwardAll_of_empty {s : State} {page : Nat} (h : (s.router page).waiting = []) : s.forwardAll page = s :=
  State.flow_of_still (State.nextUnit_of_empty h) _

-- ------------------------------------------------------------------ U gates (R235)

/-- Gates hold back no work that waits at an NI. -/
theorem SameWaits.setGates (s : State) (n : Nat) (g : List Gate) : SameWaits s (s.setNi n { s.ni n with gates := g }) :=
  SameWaits.setNi s ⟨rfl, rfl, rfl, rfl, rfl, rfl, rfl, rfl, rfl⟩

theorem Kept.openGates (s : State) (cause : Nat) : Kept s (s.openGates cause) [] [.net] :=
  Kept.foldl _ _ s fun _ _ _ => Kept.setNi ..

theorem SameWaits.openGates (s : State) (cause : Nat) : SameWaits s (s.openGates cause) :=
  SameWaits.foldl _ _ (fun _ _ => SameWaits.setGates ..) s

@[simp] theorem State.openGates_router (s : State) (cause : Nat) : (s.openGates cause).router = s.router := by
  unfold State.openGates
  induction s.net.nis.map (·.1) generalizing s with
  | nil => rfl
  | cons n l ih => exact (ih _).trans (State.setNi_router ..)

/-- One more gate at an NI closes, shown in its U_STATUS. -/
theorem Kept.gateClosed (s : State) (n : Nat) (v : NiState) : Kept s ((s.setNi n v).showGates n) [(.NI_U_STATUS, n)] [.net] :=
  (Kept.setNi s n v).trans (Kept.setF ..)

theorem SameWaits.gateClosed (s : State) (n : Nat) (g : List Gate) :
    SameWaits s ((s.setNi n { s.ni n with gates := g }).showGates n) :=
  (SameWaits.setGates s n g).trans (.of_kept (Kept.setF ..) List.not_mem_nil)

/-- A registered U route has its source among the listed NIs. -/
theorem State.gateReg_of_uRoute {s : State} {r : Nat × Nat × List (Nat × Nat)} (h : r ∈ s.uRoutes) :
    (Reg.NI_U_STATUS, r.1) ∈ s.gateRegs := by
  obtain ⟨kv, hkv, hr⟩ := List.mem_flatMap.1 h
  obtain ⟨x, -, rfl⟩ := List.mem_map.1 hr
  exact List.mem_map.2 ⟨kv, hkv, rfl⟩

/-- No work waits for what the gates of an NI show. -/
theorem State.gateRegs_calm (s : State) : ∀ x ∈ s.gateRegs, x.1 ∉ calmRegs := by
  intro x hx
  obtain ⟨_, -, rfl⟩ := List.mem_map.1 hx
  simp [calmRegs]

/-- What holds of a state, and goes on to hold as one gate after another closes, holds when the gates have closed. -/
theorem State.closeGates_invariant {s : State} (cause : Nat) (hit : Nat → Nat → List (Nat × Nat) → Bool)
    {P : State → Prop} (h0 : P s)
    (hstep : ∀ (u : State) (n : Nat) (g : List Gate), (Reg.NI_U_STATUS, n) ∈ s.gateRegs → P u →
      P ((u.setNi n { u.ni n with gates := g }).showGates n)) : P (s.closeGates cause hit).1 := by
  unfold State.closeGates
  refine List.foldlRecOn (motive := fun acc : State × Nat => P acc.1) _ _ h0 fun acc hacc r hr => ?_
  dsimp only
  split
  · exact hacc
  · exact hstep _ _ _ (State.gateReg_of_uRoute (List.mem_filter.1 hr).1) hacc

theorem Kept.closeGates (s : State) (cause : Nat) (hit : Nat → Nat → List (Nat × Nat) → Bool) :
    Kept s (s.closeGates cause hit).1 s.gateRegs [.net] :=
  State.closeGates_invariant (P := fun t => Kept s t s.gateRegs [.net]) cause hit (Kept.start ..) fun _ _ _ hn k =>
    k.via (Kept.gateClosed ..) (by simpa using hn) (List.Subset.refl _)

theorem SameWaits.closeGates (s : State) (cause : Nat) (hit : Nat → Nat → List (Nat × Nat) → Bool) :
    SameWaits s (s.closeGates cause hit).1 :=
  State.closeGates_invariant (P := SameWaits s) cause hit (.refl s) fun _ _ _ _ h => h.trans (SameWaits.gateClosed ..)

-- ------------------------------------------------------------------ a HOLD begins (R241)

theorem Kept.journalSuspend (s : State) (who : Who) (object count aux : Nat) :
    Kept s (s.journalSuspend who object count aux) [] [.ledger] := by
  unfold State.journalSuspend
  split
  · exact Kept.start ..
  · exact Kept.journal ..

/-- REQ and STATE 1 show that a HOLD begins. -/
def State.holdAsked (s : State) (page : Nat) : State :=
  (s.raise F.CN_HOLD_CTRL_REQ page).setF F.CN_HOLD_STATUS_STATE page 1

/-- The gates towards a router close, and a SUSPEND entry names it. -/
def State.holdGated (s : State) (who : Who) (page : Nat) : State :=
  let r := (s.holdAsked page).closeGates (holdCause page) fun _ _ outs => outs.any (·.1 == page)
  r.1.journalSuspend who (0x40000000 + page) r.2 1

/-- The router holds from now on. -/
def State.holding (s : State) (who : Who) (page : Nat) : State :=
  let t := s.setF F.CN_HOLD_STATUS_STATE page 2
  t.setRouter page { t.router page with holdFrom := t.time, holdWho := who }

theorem State.holdBegin_of_free {s : State} {page : Nat} (who : Who) (h : s.f F.CN_HOLD_CTRL_REQ page = 0) :
    s.holdBegin who page = (s.holdGated who page).holding who page := by
  have hoff : ¬ s.on F.CN_HOLD_CTRL_REQ page = true := by simp [State.on, h]
  rw [State.holdBegin, if_neg hoff]
  rfl

theorem State.holdAsked_req (s : State) (page : Nat) : (s.holdAsked page).f F.CN_HOLD_CTRL_REQ page = 1 := by
  rw [State.holdAsked, State.f_setF_other _ _ _ _ _ _ (by decide) (by simp), State.f_raise_same _ _ _ (by decide) (by decide)]

theorem State.holding_state (s : State) (who : Who) (page : Nat) : (s.holding who page).f F.CN_HOLD_STATUS_STATE page = 2 := by
  rw [State.holding, State.setRouter_f, State.f_setF_same _ _ _ _ (by decide)]
  rfl

theorem Kept.holdAsked (s : State) (page : Nat) :
    Kept s (s.holdAsked page) [(.CN_HOLD_CTRL, page), (.CN_HOLD_STATUS, page)] [] := (Kept.raise ..).trans (Kept.setF ..)

theorem Kept.holdGated (s : State) (who : Who) (page : Nat) :
    Kept (s.holdAsked page) (s.holdGated who page) s.gateRegs [.net, .ledger] :=
  ((Kept.start (s.holdAsked page) s.gateRegs [.net, .ledger]).via (Kept.closeGates ..) (List.Subset.refl _) (by simp)).via
    (Kept.journalSuspend ..) (by simp) (by simp)

theorem Kept.holding (s : State) (who : Who) (page : Nat) : Kept s (s.holding who page) [(.CN_HOLD_STATUS, page)] [.net] :=
  (Kept.setF ..).trans (Kept.setRouter ..)

theorem SameWaits.holdGated (s : State) (who : Who) (page : Nat) : SameWaits s (s.holdGated who page) :=
  (SameWaits.of_kept (Kept.holdAsked s page) (by decide)).trans <| (SameWaits.closeGates (s.holdAsked page) _ _).trans <|
    .of_kept (Kept.journalSuspend ..) (by decide)

theorem Runs.hold {s : State} {page : Nat} (who : Who) (hs : s.ready = true) (hpage : pagePresent s.part page = true)
    (hreq : s.f F.CN_HOLD_CTRL_REQ page = 0) :
    Runs (.hold who page) s fun t =>
      t.f F.CN_HOLD_CTRL_REQ page = 1 ∧ t.f F.CN_HOLD_STATUS_STATE page = 2 ∧ t.routerHolds page = true ∧
      Kept s t (([(.CN_HOLD_CTRL, page), (.CN_HOLD_STATUS, page)] : Regs) ++ s.gateRegs) [.net, .ledger] := by
  have hgate : (Reg.CN_HOLD_CTRL, page) ∉ s.gateRegs := by simp [State.gateRegs]
  have hkept : Kept s ((s.holdGated who page).holding who page)
      (([(.CN_HOLD_CTRL, page), (.CN_HOLD_STATUS, page)] : Regs) ++ s.gateRegs) [.net, .ledger] :=
    (((Kept.start s _ _).via (Kept.holdAsked s page) (by simp) (by simp)).via (Kept.holdGated s who page) (by simp) (by simp)).via
      (Kept.holding _ who page) (by simp) (by simp)
  refine Runs.of_sameWaits (f := fun s => if pagePresent s.part page then s.holdBegin who page else s) rfl hs
    ((if_pos hpage).trans (State.holdBegin_of_free who hreq)) hkept ((SameWaits.holdGated ..).trans (.of_nis rfl rfl)) (by decide)
    (List.forall_mem_append.2 ⟨by simp [calmRegs], s.gateRegs_calm⟩) fun t ht hk => ?_
  have hstate : t.f F.CN_HOLD_STATUS_STATE page = 2 := by
    rw [ht.f _ _ rfl List.not_mem_nil, State.holding_state]
  refine ⟨?_, hstate, by simp [State.routerHolds, hstate], hk⟩
  rw [ht.f _ _ rfl List.not_mem_nil, (Kept.holding ..).f _ _ rfl (by simp), (Kept.holdGated ..).f _ _ rfl hgate,
    State.holdAsked_req]

-- ------------------------------------------------------------------ a HOLD ends (R241, R243)

/-- HOLD_STATUS, HOLD_CTRL and HOLD_LAST show that a HOLD is over. -/
def State.holdShown (s : State) (page : Nat) : State :=
  ((s.setF F.CN_HOLD_STATUS_STATE page 0).setF F.CN_HOLD_CTRL_REQ page 0).setF F.CN_HOLD_LAST_NS page
    (min 65535 ((s.time.toNat - (s.router page).holdFrom.toNat) * 2 / 3))

/-- A HOLD ends at a router where nothing waits. -/
def State.holdOver (s : State) (page : Nat) : State := (s.holdShown page).openGates (holdCause page)

theorem State.holdEnd_of_empty {s : State} {page : Nat} (h : (s.router page).waiting = []) :
    s.holdEnd page = s.holdOver page :=
  State.forwardAll_of_empty (s := s.holdOver page) (by rw [State.holdOver, State.openGates_router]; exact h)

@[simp] theorem State.holdOver_router (s : State) (page : Nat) : (s.holdOver page).router = s.router :=
  State.openGates_router ..

theorem Kept.holdShown (s : State) (page : Nat) :
    Kept s (s.holdShown page) [(.CN_HOLD_STATUS, page), (.CN_HOLD_CTRL, page), (.CN_HOLD_LAST, page)] [] :=
  ((Kept.setF ..).trans (Kept.setF ..)).trans (Kept.setF ..)

theorem Kept.holdOver (s : State) (page : Nat) :
    Kept s (s.holdOver page) [(.CN_HOLD_STATUS, page), (.CN_HOLD_CTRL, page), (.CN_HOLD_LAST, page)] [.net] :=
  (Kept.holdShown ..).trans (Kept.openGates ..)

theorem SameWaits.holdOver (s : State) (page : Nat) : SameWaits s (s.holdOver page) :=
  (SameWaits.of_kept (Kept.holdShown s page) List.not_mem_nil).trans (SameWaits.openGates ..)

theorem State.holdOver_f (s : State) (page : Nat) (G : Fld) (i : Nat) (h : isPend G.reg = false) :
    (s.holdOver page).f G i = (s.holdShown page).f G i := (Kept.openGates ..).f _ _ h List.not_mem_nil

theorem State.holdOver_state (s : State) (page : Nat) : (s.holdOver page).f F.CN_HOLD_STATUS_STATE page = 0 := by
  rw [State.holdOver_f _ _ _ _ rfl, State.holdShown, State.f_setF_other _ _ _ _ _ _ (by decide) (by simp),
    State.f_setF_other _ _ _ _ _ _ (by decide) (by simp), State.f_setF_same _ _ _ _ (by decide), Nat.zero_mod]

theorem State.holdOver_req (s : State) (page : Nat) : (s.holdOver page).f F.CN_HOLD_CTRL_REQ page = 0 := by
  rw [State.holdOver_f _ _ _ _ rfl, State.holdShown, State.f_setF_other _ _ _ _ _ _ (by decide) (by simp),
    State.f_setF_same _ _ _ _ (by decide), Nat.zero_mod]

/-- The end of a HOLD leaves the other fields of HOLD_STATUS. -/
theorem State.holdOver_status (s : State) (page : Nat) {lo width : Nat} (h : 2 ≤ lo) :
    (s.holdOver page).f ⟨.CN_HOLD_STATUS, lo, width⟩ page = s.f ⟨.CN_HOLD_STATUS, lo, width⟩ page := by
  rw [State.holdOver_f _ _ _ _ rfl, State.holdShown, State.f_setF_other _ _ _ _ _ _ (by decide) (by simp),
    State.f_setF_other _ _ _ _ _ _ (by decide) (by simp), State.f_setF_other _ _ _ _ _ _ (by decide) (by simp [h])]

-- ------------------------------------------------------------------ the staged writes are applied (R241)

/-- STATE 3 shows that the staged writes are applied, and none is staged any more. -/
def State.holdApplying (s : State) (page : Nat) : State :=
  (s.setF F.CN_HOLD_STATUS_STATE page 3).setRouter page { s.router page with staged := [] }

/-- The weights of a router's VNs as a staged write gives them, and no write waits. -/
def State.weightsApplied (s : State) (who : Who) (page : Nat) (w : Word) : State :=
  ((s.storeWord who .CN_ARB_WEIGHT page (changed (s.word .CN_ARB_WEIGHT page) (fieldsOf .CN_ARB_WEIGHT w))).setF
    F.CN_STATUS_STAGED page 0).count F.CN_HOLD_STATUS_COUNT page

/-- A HOLD that drained applies one staged write of ARB_WEIGHT. -/
def State.weightsHeld (s : State) (who : Who) (page : Nat) (w : Word) : State :=
  ((s.holdApplying page).weightsApplied who page w).holdOver page

theorem State.holdApplying_router (s : State) (page : Nat) :
    (s.holdApplying page).router page = { s.router page with staged := [] } := by
  rw [State.holdApplying, State.router_setRouter, if_pos rfl]

theorem Kept.weightsApplied (s : State) (who : Who) (page : Nat) (w : Word) :
    Kept s (s.weightsApplied who page w) [(.CN_ARB_WEIGHT, page), (.CN_STATUS, page), (.CN_HOLD_STATUS, page)] [.ledger] :=
  ((Kept.storeWord ..).trans (Kept.setF ..)).trans (Kept.count ..)

@[simp] theorem State.weightsApplied_router (s : State) (who : Who) (page : Nat) (w : Word) :
    (s.weightsApplied who page w).router = s.router :=
  State.router_congr ((Kept.weightsApplied ..).areas .net (by decide))

/-- A staged write of a register of plain fields gives them its data. -/
theorem State.applyStaged_of_plain (s : State) {x : Staged} (hr : x.reg ≠ .CN_SPARE_SET) (hp : plainFields x.reg = true) :
    s.applyStaged x = s.storeWord x.who x.reg x.inst (changed (s.word x.reg x.inst) (fieldsOf x.reg x.value)) := by
  simp only [State.applyStaged, if_neg hr, writeFields_of_plain hp]

theorem State.holdDone_weights {s : State} {page : Nat} {w : Word} {who : Who} (hstate : s.f F.CN_HOLD_STATUS_STATE page = 2)
    (hopened : (s.router page).opened = []) (hwaiting : (s.router page).waiting = [])
    (hstaged : (s.router page).staged = [⟨.CN_ARB_WEIGHT, page, w, who⟩]) : s.holdDone page = s.weightsHeld who page w := by
  have hrouter := State.holdApplying_router s page
  have hnone : ∀ t : State, t.router = (s.holdApplying page).router → t.showStaged page = t.setF F.CN_STATUS_STAGED page 0 :=
    fun t ht => by simp [State.showStaged, ht, hrouter]
  have happly : (s.holdApplying page).applyStaged ⟨.CN_ARB_WEIGHT, page, w, who⟩ = (s.holdApplying page).storeWord who
      .CN_ARB_WEIGHT page (changed ((s.holdApplying page).word .CN_ARB_WEIGHT page) (fieldsOf .CN_ARB_WEIGHT w)) :=
    State.applyStaged_of_plain _ (by simp) rfl
  have hdone : s.holdDone page = ((s.holdApplying page).weightsApplied who page w).holdEnd page := by
    have hfree : ¬ (s.f F.CN_HOLD_STATUS_STATE page != 2 || (s.router page).opened.any (·.2 < 15)) = true := by
      simp [hstate, hopened]
    rw [State.holdDone, if_neg hfree]
    change (((((s.router page).staged.foldl State.applyStaged (s.holdApplying page)).showStaged page).count _ page).holdEnd
      page) = _
    rw [hstaged, List.foldl_cons, List.foldl_nil, happly,
      hnone _ (State.router_congr ((Kept.storeWord ..).areas .net (by decide))), State.weightsApplied]
  rw [hdone, State.holdEnd_of_empty (by rw [State.weightsApplied_router, hrouter]; exact hwaiting), State.weightsHeld]

theorem State.weightsApplied_weight (s : State) (who : Who) (page : Nat) (w : Word) :
    (s.weightsApplied who page w).f F.CN_ARB_WEIGHT_W_VN0 page = w.toNat % 16 := by
  rw [State.weightsApplied, State.f, State.word_count, if_neg (by simp), State.word_setF, if_neg (by simp), State.word_storeWord,
    if_pos ⟨rfl, rfl⟩]
  have hfields : fieldsOf .CN_ARB_WEIGHT w = [(F.CN_ARB_WEIGHT_W_VN0, fieldOf w 0 4), (F.CN_ARB_WEIGHT_W_VN1, fieldOf w 8 4),
    (F.CN_ARB_WEIGHT_W_VN3, fieldOf w 16 4)] := rfl
  rw [hfields]
  simp only [changed, List.foldl_cons, List.foldl_nil]
  rw [fieldOf_withField_other _ _ (by decide) (by decide), fieldOf_withField_other _ _ (by decide) (by decide),
    fieldOf_withField_same _ _ (by decide)]
  simp [fieldOf]

theorem State.weightsApplied_staged (s : State) (who : Who) (page : Nat) (w : Word) :
    (s.weightsApplied who page w).f F.CN_STATUS_STAGED page = 0 := by
  rw [State.weightsApplied, State.count, State.f_setF_other _ _ _ _ _ _ (by decide) (by simp),
    State.f_setF_same _ _ _ _ (by decide), Nat.zero_mod]

theorem State.weightsApplied_count (s : State) (who : Who) (page : Nat) (w : Word) :
    (s.weightsApplied who page w).f F.CN_HOLD_STATUS_COUNT page = (s.f F.CN_HOLD_STATUS_COUNT page + 1) % 2 ^ 16 := by
  rw [State.weightsApplied, State.count, State.f_setF_same _ _ _ _ (by decide), Nat.mod_mod,
    State.f_setF_other _ _ _ _ _ _ (by decide) (by simp), (Kept.storeWord ..).f _ _ rfl (by simp)]

theorem Runs.holdDrainDone {s : State} {page : Nat} {w : Word} {who : Who} (hs : s.ready = true)
    (hstate : s.f F.CN_HOLD_STATUS_STATE page = 2) (hopened : (s.router page).opened = [])
    (hwaiting : (s.router page).waiting = []) (hstaged : (s.router page).staged = [⟨.CN_ARB_WEIGHT, page, w, who⟩]) :
    Runs (.holdDrainDone page) s fun t =>
      (t.router page).staged = [] ∧ t.f F.CN_HOLD_STATUS_STATE page = 0 ∧ t.f F.CN_HOLD_CTRL_REQ page = 0 ∧
      t.f F.CN_ARB_WEIGHT_W_VN0 page = w.toNat % 16 ∧ t.f F.CN_STATUS_STAGED page = 0 ∧
      t.f F.CN_HOLD_STATUS_COUNT page = (s.f F.CN_HOLD_STATUS_COUNT page + 1) % 2 ^ 16 ∧
      Kept s t [(.CN_HOLD_CTRL, page), (.CN_HOLD_STATUS, page), (.CN_HOLD_LAST, page), (.CN_ARB_WEIGHT, page),
        (.CN_STATUS, page)] [.net, .ledger] := by
  have hkept : Kept s (s.weightsHeld who page w) [(.CN_HOLD_CTRL, page), (.CN_HOLD_STATUS, page), (.CN_HOLD_LAST, page),
      (.CN_ARB_WEIGHT, page), (.CN_STATUS, page)] [.net, .ledger] :=
    ((((Kept.start s _ _).via (Kept.setF ..) (by simp) (by simp)).via (Kept.setRouter ..) (by simp) (by simp)).via
      (Kept.weightsApplied (s.holdApplying page) who page w) (by simp) (by simp)).via (Kept.holdOver ..) (by simp) (by simp)
  have hsame : SameWaits s (s.weightsHeld who page w) :=
    ((SameWaits.of_nis (s := s) (t := s.holdApplying page) rfl rfl).trans (.of_kept (Kept.weightsApplied ..) (by decide))).trans
      (SameWaits.holdOver ..)
  refine Runs.of_sameWaits (f := fun s => s.holdDone page) rfl hs (State.holdDone_weights hstate hopened hwaiting hstaged) hkept
    hsame (by decide) (by simp [calmRegs]) fun t ht hk => ⟨?_, ?_, ?_, ?_, ?_, ?_, hk⟩
  · rw [State.router_congr (ht.areas .net List.not_mem_nil), State.weightsHeld, State.holdOver_router,
      State.weightsApplied_router, State.holdApplying_router]
  · rw [ht.f _ _ rfl List.not_mem_nil, State.weightsHeld, State.holdOver_state]
  · rw [ht.f _ _ rfl List.not_mem_nil, State.weightsHeld, State.holdOver_req]
  · rw [ht.f _ _ rfl List.not_mem_nil, State.weightsHeld, (Kept.holdOver ..).f _ _ rfl (by simp), State.weightsApplied_weight]
  · rw [ht.f _ _ rfl List.not_mem_nil, State.weightsHeld, (Kept.holdOver ..).f _ _ rfl (by simp), State.weightsApplied_staged]
  · rw [ht.f _ _ rfl List.not_mem_nil, State.weightsHeld, State.holdOver_status _ _ (by decide), State.weightsApplied_count,
      State.holdApplying, State.setRouter_f, State.f_setF_other _ _ _ _ _ _ (by decide) (by simp)]

-- ------------------------------------------------------------------ a HOLD fails (R243)

theorem Kept.cnLog (s : State) (page kind port vn src dest : Nat) : Kept s (s.cnLog page kind port vn src dest)
    [(.CN_ERRLOG_INFO, page), (.CN_ERRLOG_TIME_LO, page), (.CN_ERRLOG_TIME_HI, page)] [] := by
  unfold State.cnLog
  split
  · exact (Kept.start ..).via (Kept.raise ..) (by simp) (by simp)
  · exact ((Kept.start ..).via (Kept.setWord ..) (by simp) (by simp)).via (Kept.setPair ..) (by simp) (by simp)

/-- TIME comes to the limit of a HOLD. -/
def State.holdLimit (s : State) (page : Nat) : State :=
  s.advanceTo ((s.router page).holdFrom + BitVec.ofNat 64 (s.f F.CN_HOLD_CTRL_LIMIT page * ticksPerUs))

/-- A HOLD that failed is told by FAILED, CMD_REFUSED, the error log and the ledger. -/
def State.holdFailed (s : State) (who : Who) (page : Nat) : State :=
  (((s.raise F.CN_HOLD_STATUS_FAILED page).raise F.CN_STATUS_CMD_REFUSED page).cnLog page 7 0 0 0 0).journalRefusal who
    .command .CN_HOLD_CTRL page 1

theorem State.holdFail_of_empty {s : State} {page : Nat} (hstate : s.f F.CN_HOLD_STATUS_STATE page = 2)
    (hwaiting : (s.router page).waiting = []) :
    s.holdFail page = ((s.holdLimit page).holdOver page).holdFailed (s.router page).holdWho page := by
  have hrouter : (s.holdLimit page).router = s.router := State.router_congr (State.advanceTo_net ..)
  have hfail : s.holdFail page = ((s.holdLimit page).holdEnd page).holdFailed ((s.holdLimit page).router page).holdWho page := by
    rw [State.holdFail, if_neg (by simp [hstate])]
    rfl
  rw [hfail, State.holdEnd_of_empty (by rw [hrouter]; exact hwaiting), hrouter]

theorem Kept.holdFailed (s : State) (who : Who) (page : Nat) : Kept s (s.holdFailed who page) [(.CN_HOLD_STATUS, page),
    (.CN_STATUS, page), (.CN_ERRLOG_INFO, page), (.CN_ERRLOG_TIME_LO, page), (.CN_ERRLOG_TIME_HI, page)] [.ledger] :=
  (((Kept.raise ..).trans (Kept.raise ..)).trans (Kept.cnLog ..)).trans (Kept.journalRefusal ..)

theorem State.holdFailed_f (s : State) (who : Who) (page : Nat) (G : Fld)
    (h : G.reg = .CN_HOLD_STATUS ∨ G.reg = .CN_STATUS) : (s.holdFailed who page).f G page =
      ((s.raise F.CN_HOLD_STATUS_FAILED page).raise F.CN_STATUS_CMD_REFUSED page).f G page := by
  have hpend : isPend G.reg = false := by rcases h with h | h <;> rw [h] <;> rfl
  have hlog : (G.reg, page) ∉ [(Reg.CN_ERRLOG_INFO, page), (.CN_ERRLOG_TIME_LO, page), (.CN_ERRLOG_TIME_HI, page)] := by
    rcases h with h | h <;> rw [h] <;> simp
  rw [State.holdFailed, State.journalRefusal_f, (Kept.cnLog ..).f _ _ hpend hlog]

theorem State.holdFailed_state (s : State) (who : Who) (page : Nat) :
    (s.holdFailed who page).f F.CN_HOLD_STATUS_STATE page = s.f F.CN_HOLD_STATUS_STATE page := by
  rw [State.holdFailed_f _ _ _ _ (.inl rfl), (Kept.raise ..).f _ _ rfl (by simp), State.raise,
    State.f_setF_other _ _ _ _ _ _ (by decide) (by simp)]

theorem State.holdFailed_failed (s : State) (who : Who) (page : Nat) :
    (s.holdFailed who page).f F.CN_HOLD_STATUS_FAILED page = 1 := by
  rw [State.holdFailed_f _ _ _ _ (.inl rfl), (Kept.raise ..).f _ _ rfl (by simp),
    State.f_raise_same _ _ _ (by decide) (by decide)]

theorem State.holdFailed_refused (s : State) (who : Who) (page : Nat) :
    (s.holdFailed who page).f F.CN_STATUS_CMD_REFUSED page = 1 := by
  rw [State.holdFailed_f _ _ _ _ (.inr rfl), State.f_raise_same _ _ _ (by decide) (by decide)]

theorem Runs.holdFail {s : State} {page : Nat} (hs : s.ready = true) (hstate : s.f F.CN_HOLD_STATUS_STATE page = 2)
    (hwaiting : (s.router page).waiting = []) :
    Runs (.holdFail page) s fun t =>
      (t.router page).staged = (s.router page).staged ∧ t.f F.CN_HOLD_STATUS_STATE page = 0 ∧
      t.f F.CN_HOLD_STATUS_FAILED page = 1 ∧ t.f F.CN_STATUS_CMD_REFUSED page = 1 ∧
      Kept s t [(.CN_HOLD_CTRL, page), (.CN_HOLD_STATUS, page), (.CN_HOLD_LAST, page), (.CN_STATUS, page),
        (.CN_ERRLOG_INFO, page), (.CN_ERRLOG_TIME_LO, page), (.CN_ERRLOG_TIME_HI, page)] [.clock, .net, .ledger] := by
  have hfailed := Kept.holdFailed ((s.holdLimit page).holdOver page) (s.router page).holdWho page
  have hlimit : Kept s (s.holdLimit page) [] [.clock] := Kept.advanceTo ..
  have hkept := (((Kept.start s [(.CN_HOLD_CTRL, page), (.CN_HOLD_STATUS, page), (.CN_HOLD_LAST, page), (.CN_STATUS, page),
      (.CN_ERRLOG_INFO, page), (.CN_ERRLOG_TIME_LO, page), (.CN_ERRLOG_TIME_HI, page)] [.clock, .net, .ledger]).via hlimit
    (by simp) (by simp)).via (Kept.holdOver ..) (by simp) (by simp)).via hfailed (by simp) (by simp)
  refine Runs.of_sameWaits (f := fun s => s.holdFail page) rfl hs (State.holdFail_of_empty hstate hwaiting) hkept
    (((SameWaits.of_kept hlimit (by decide)).trans (SameWaits.holdOver ..)).trans (.of_kept hfailed (by decide))) (by decide)
    (by simp [calmRegs]) fun t ht hk => ⟨?_, ?_, ?_, ?_, hk⟩
  · rw [State.router_congr (ht.areas .net List.not_mem_nil), State.router_congr (hfailed.areas .net (by decide)),
      State.holdOver_router, State.router_congr (hlimit.areas .net (by decide))]
  · rw [ht.f _ _ rfl List.not_mem_nil, State.holdFailed_state, State.holdOver_state]
  · rw [ht.f _ _ rfl List.not_mem_nil, State.holdFailed_failed]
  · rw [ht.f _ _ rfl List.not_mem_nil, State.holdFailed_refused]

end Sys2Proof.Machine
end

section
/-! PROOF. Routers: a header is received and leaves by the port its route names (R209, R210, R213). -/

namespace Sys2Proof.Machine

-- ------------------------------------------------------------------ links between nodes (R198, R199)

/-- Every node that an output of a node leads to has a port back. -/
def linksReturn (p : Part) (page : Nat) : Bool :=
  (List.range 15).all fun q =>
    match portEnd p page q with
    | some (.node t) => (returnPort p t page).isSome
    | _ => true

theorem linksReturn_of_variant (v : Variant) :
    ∀ page < 116, pagePresent ⟨v, 0⟩ page = true → linksReturn ⟨v, 0⟩ page = true := by
  cases v <;> decide +kernel

theorem linksReturn_of_present {p : Part} {page : Nat} (h : pagePresent p page = true) : linksReturn p page = true := by
  have hpage : page < 116 := by
    by_contra hge
    have hnode : nodeOf page = none := by
      simp [nodeOf, show ¬ page < 96 by omega, show ¬ page < 104 by omega, show ¬ page < 108 by omega,
        show ¬ page < 112 by omega, hge]
    simp [pagePresent, hnode] at h
  exact linksReturn_of_variant p.variant page hpage h

theorem returnPort_isSome {p : Part} {page q t : Nat} (h : pagePresent p page = true) (hq : q < 15)
    (ht : portEnd p page q = some (.node t)) : (returnPort p t page).isSome = true := by
  have hall := List.all_eq_true.1 (linksReturn_of_present h) q (List.mem_range.2 hq)
  simpa [ht] using hall

-- ------------------------------------------------------------------ a unit without wrong bits (R201, R203, R204)

theorem errorBits_nil (lo n : Nat) : errorBits [] lo n = 0 := by simp [errorBits, List.foldl_fixed]

theorem wordFinding_of_clean {u : FlowUnit} (h : u.flips = []) (i : Nat) : wordFinding (wordError u i) = (.clean, 0) := by
  rw [wordError, h, errorBits_nil, errorBits_nil]
  rfl

theorem controlFinding_nil : controlFinding [] = (.clean, 0) := by
  rw [controlFinding, errorBits_nil]
  rfl

theorem State.parityCheck_nil (s : State) (page port vn : Nat) : s.parityCheck page port vn [] = s := rfl

theorem changedOn_nil (u : FlowUnit) : changedOn u [] = u := by simp [changedOn]

theorem word0Bad_of_clean {u : FlowUnit} (h : u.flips = []) : word0Bad u = false := by
  rw [word0Bad, wordFinding_of_clean h]
  rfl

/-- Word 0 of a unit without wrong bits, written anew. -/
theorem withWord0_self {u : FlowUnit} (h : u.flips = []) : withWord0 u (payloadWord u.payload 0) = u := by
  have hpayload : BitVec.ofNat 512 (u.payload.toNat / 2 ^ 64 * 2 ^ 64 + (payloadWord u.payload 0).toNat) = u.payload := by
    apply BitVec.eq_of_toNat_eq
    simp only [payloadWord, BitVec.toNat_ofNat, Nat.mul_zero, Nat.pow_zero, Nat.div_one, Nat.div_add_mod']
    exact Nat.mod_eq_of_lt u.payload.isLt
  rw [withWord0, hpayload, h, List.filter_nil, ← h]

theorem FlowUnit.control_of_payload (u : FlowUnit) (b : BitVec 512) (flips : List Nat) :
    { u with payload := b, flips := flips }.vn = u.vn ∧ { u with payload := b, flips := flips }.tail = u.tail ∧
      { u with payload := b, flips := flips }.flips = flips := ⟨rfl, rfl, rfl⟩

/-- Of a unit without wrong bits, the writing of word 0 changes the payload alone. -/
theorem withWord0_control {u : FlowUnit} (h : u.flips = []) (w : BitVec 64) :
    (withWord0 u w).vn = u.vn ∧ (withWord0 u w).tail = u.tail ∧ (withWord0 u w).flips = [] := by
  rw [withWord0, h, List.filter_nil]
  exact FlowUnit.control_of_payload ..

-- ------------------------------------------------------------------ a header after a hop (R213)

/-- Word 0 of a header with word w after a hop. -/
def hoppedWord (w : Nat) : Nat := w % 2 ^ 48 / 16 + 15 * 2 ^ 44 + w / 2 ^ 48 * 2 ^ 48

theorem hoppedWord_lt {w : Nat} (h : w < 2 ^ 64) : hoppedWord w < 2 ^ 64 := by
  unfold hoppedWord
  omega

theorem hopped_eq {u : FlowUnit} (h : headerField u.payload 0 0 4 < 15) : hopped u =
    withWord0 u (BitVec.ofNat 64 (hoppedWord (u.payload.toNat % 2 ^ 64))) := by
  have hw : (payloadWord u.payload 0).toNat = u.payload.toNat % 2 ^ 64 := by simp [payloadWord]
  have hne : u.payload.toNat % 2 ^ 64 % 16 ≠ 15 := by
    simp only [headerField] at h
    omega
  rw [hopped, hw]
  exact if_neg hne

/-- Of a header without wrong bits, a hop changes the payload alone. -/
theorem hopped_control {u : FlowUnit} (h : headerField u.payload 0 0 4 < 15) (hflips : u.flips = []) :
    (hopped u).vn = u.vn ∧ (hopped u).tail = u.tail ∧ (hopped u).flips = [] := by
  rw [hopped_eq h]
  exact withWord0_control hflips _

theorem hopped_toNat {u : FlowUnit} (h : headerField u.payload 0 0 4 < 15) :
    (hopped u).payload.toNat = u.payload.toNat / 2 ^ 64 * 2 ^ 64 + hoppedWord (u.payload.toNat % 2 ^ 64) := by
  have hlt := hoppedWord_lt (Nat.mod_lt u.payload.toNat (Nat.two_pow_pos 64))
  have hword : (BitVec.ofNat 64 (hoppedWord (u.payload.toNat % 2 ^ 64))).toNat = hoppedWord (u.payload.toNat % 2 ^ 64) := by
    rw [BitVec.toNat_ofNat, Nat.mod_eq_of_lt hlt]
  have hp := u.payload.isLt
  rw [hopped_eq h]
  simp only [withWord0, hword, BitVec.toNat_ofNat]
  exact Nat.mod_eq_of_lt (by omega)

theorem hopped_route {u : FlowUnit} (h : headerField u.payload 0 0 4 < 15) :
    headerField (hopped u).payload 0 0 48 = headerField u.payload 0 0 48 / 16 + 15 * 2 ^ 44 := by
  simp only [headerField, hopped_toNat h, hoppedWord]
  omega

theorem hopped_rest {u : FlowUnit} (h : headerField u.payload 0 0 4 < 15) :
    (hopped u).payload.toNat / 2 ^ 48 = u.payload.toNat / 2 ^ 48 := by
  rw [hopped_toNat h, hoppedWord]
  omega

-- ------------------------------------------------------------------ the way of a header (R209, R213)

/-- Whether an output is down depends on registers alone. -/
theorem Kept.outputDown {s t : State} {A : List Area} (k : Kept s t [] A) (page q : Nat) :
    t.outputDown page q = s.outputDown page q := by
  have hfailed (i : Nat) : t.on F.CN_LINK_STATUS_FAILED i = s.on F.CN_LINK_STATUS_FAILED i := by
    rw [State.on, k.f _ _ rfl List.not_mem_nil, State.on]
  simp only [State.outputDown, State.portOff, State.linkFailed, k.part, k.regs .CN_PORT_EN page rfl List.not_mem_nil, hfailed]

theorem Kept.inputRoom {s t : State} {A : List Area} (k : Kept s t [] A) (page vn : Nat) :
    t.inputRoom page vn = s.inputRoom page vn := by
  have hroom (lo width : Nat) : t.f ⟨.CN_VC_SPLIT, lo, width⟩ page = s.f ⟨.CN_VC_SPLIT, lo, width⟩ page :=
    k.f _ _ rfl List.not_mem_nil
  simp only [State.inputRoom, hroom]

theorem Kept.routerHolds {s t : State} {A : List Area} (k : Kept s t [] A) (page : Nat) :
    t.routerHolds page = s.routerHolds page := by
  rw [State.routerHolds, k.f _ _ rfl List.not_mem_nil, State.routerHolds]

theorem State.nextHop_of_node {s : State} {page to' : Nat} {u : FlowUnit} (hflips : u.flips = [])
    (hroute : headerField u.payload 0 0 4 < 15) (hdown : s.outputDown page (headerField u.payload 0 0 4) = false)
    (hend : portEnd s.part page (headerField u.payload 0 0 4) = some (.node to')) :
    s.nextHop page u = .out (headerField u.payload 0 0 4) := by
  simp [State.nextHop, word0Bad_of_clean hflips, hroute.ne, hdown, hend]

-- ------------------------------------------------------------------ changes of one router

/-- From s to t nothing changed but the router of a page, and it is v now. -/
structure RouterStep (s t : State) (page : Nat) (v : RouterState) : Prop where
  kept : Kept s t [] [.net]
  nis : t.net.nis = s.net.nis
  ended : t.net.ended = s.net.ended
  router : t.router page = v

theorem RouterStep.refl (s : State) (page : Nat) : RouterStep s s page (s.router page) := ⟨Kept.start .., rfl, rfl, rfl⟩

/-- The router changes on, by f. -/
theorem RouterStep.update {s t : State} {page : Nat} {v : RouterState} (h : RouterStep s t page v)
    (f : RouterState → RouterState) : RouterStep s (t.setRouter page (f (t.router page))) page (f v) where
  kept := h.kept.via (Kept.setRouter ..) (by simp) (by simp)
  nis := h.nis
  ended := h.ended
  router := by rw [State.router_setRouter, if_pos rfl, h.router]

theorem RouterStep.sameWaits {s t : State} {page : Nat} {v : RouterState} (h : RouterStep s t page v) : SameWaits s t :=
  .of_nis h.nis h.ended

-- ------------------------------------------------------------------ the turn of the only candidate (R210)

theorem pickOf_single (v : RouterState) (out vn : Nat) (x : Nat × FlowUnit) :
    pickOf v out vn [x] = if x.2.vn = vn then some x else none := by
  by_cases h : x.2.vn = vn <;> simp [pickOf, h]

/-- A turn on an output changes no more than the turns of its router. -/
theorem RouterStep.takeTurn {s : State} {page : Nat} (out vn : Nat) (renew : Bool) :
    ∃ turns, RouterStep s (s.takeTurn page out vn renew) page { s.router page with turns := turns } := by
  have hset : ∀ {t : State} {τ : Cells Nat}, RouterStep s t page { s.router page with turns := τ } → ∀ σ,
      RouterStep s (t.setRouter page { t.router page with turns := σ }) page { s.router page with turns := σ } :=
    fun h σ => h.update fun v => { v with turns := σ }
  have hnone : RouterStep s s page { s.router page with turns := (s.router page).turns } := RouterStep.refl s page
  unfold State.takeTurn
  cases renew with
  | false => exact ⟨_, hset hnone _⟩
  | true => exact ⟨_, hset (hset (hset (hset hnone _) _) _) _⟩

/-- The only candidate of an output takes its turn there. -/
theorem State.arbitrate_single (s : State) (page out : Nat) {x : Nat × FlowUnit} (hvn : x.2.vn < 4) :
    ∃ t turns, s.arbitrate page out [x] = some (x, t) ∧ RouterStep s t page { s.router page with turns := turns } := by
  by_cases h2 : x.2.vn = 2
  · exact ⟨s, _, by simp [State.arbitrate, pickOf_single, h2], RouterStep.refl s page⟩
  · have hready : [3, 1, 0].filterMap (pickOf (s.router page) out · [x]) = [x] := by
      have hvns : x.2.vn = 0 ∨ x.2.vn = 1 ∨ x.2.vn = 3 := by omega
      rcases hvns with h | h | h <;> simp [pickOf_single, h]
    have hpick : pickOf (s.router page) out 2 [x] = none := by rw [pickOf_single, if_neg h2]
    by_cases hleft : 0 < s.turnsLeft page out x.2.vn
    · obtain ⟨turns, h⟩ := RouterStep.takeTurn (s := s) (page := page) out x.2.vn false
      exact ⟨_, turns, by simp [State.arbitrate, hpick, hready, hleft], h⟩
    · obtain ⟨turns, h⟩ := RouterStep.takeTurn (s := s) (page := page) out x.2.vn true
      exact ⟨_, turns, by simp [State.arbitrate, hpick, hready, hleft], h⟩

-- ------------------------------------------------------------------ the only header of a router leaves (R209, R213)

/-- A router holds one unit, a header without wrong bits that may leave at once by port q, to the node to'. -/
structure Leaves (s : State) (page port q to' : Nat) (u : FlowUnit) : Prop where
  waiting : (s.router page).waiting = [(port, u)]
  opened : (s.router page).opened = []
  sent : (s.router page).sent = []
  holds : s.routerHolds page = false
  vn : u.vn < 4
  head : u.head = true
  way : s.nextHop page u = .out q
  port_lt : q < 15
  back : (returnPort s.part to' page).isSome = true
  ends : portEnd s.part page q = some (.node to')
  far : (s.router to').waiting = []
  room : 1 ≤ s.inputRoom to' u.vn

section
variable {s : State} {page port q to' : Nat} {u : FlowUnit} (h : Leaves s page port q to' u)
include h

theorem Leaves.credit : s.credit page q u.vn = true := by
  obtain ⟨r, hr⟩ := Option.isSome_iff_exists.1 h.back
  have hroom := h.room
  simp only [State.credit, h.ends, hr, unitsAt, unitsOn, h.far, h.sent, List.filter_nil, List.length_nil, decide_eq_true_eq]
  omega

theorem Leaves.wants : s.wants page (port, u) = some q := by
  simp [State.wants, h.head, h.way, h.holds, outputBusy, h.opened, h.credit]

theorem Leaves.wantsNone : s.wantsNone page (port, u) = false := by simp [State.wantsNone, h.head, h.way]

theorem Leaves.nextUnit : ∃ t turns, s.nextUnit page = some ((port, u), t) ∧
    RouterStep s t page { s.router page with turns := turns } := by
  obtain ⟨t, turns, harb, hstep⟩ := s.arbitrate_single page q (x := (port, u)) h.vn
  refine ⟨t, turns, ?_, hstep⟩
  have hheads : headsOf [] (s.router page).waiting = [(port, u)] := by simp [h.waiting, headsOf]
  have hcand : ∀ p, s.arbitrate page p ([(port, u)].filter fun x => s.wants page x == some p) =
      if p = q then some ((port, u), t) else none := fun p => by
    by_cases hp : p = q
    · simp [hp, h.wants, harb]
    · simp [hp, h.wants, State.arbitrate_nil, Ne.symm hp]
  have hfirst : ∀ l : List Nat, q ∈ l →
      l.findSome? (fun p => if p = q then some ((port, u), t) else none) = some ((port, u), t) := fun l hl => by
    induction l with
    | nil => cases hl
    | cons p l ih =>
      by_cases hp : p = q
      · simp [hp]
      · simp [hp, ih ((List.mem_cons.1 hl).resolve_left (Ne.symm hp))]
  simp only [State.nextUnit, hheads, hcand, hfirst _ (List.mem_range.2 h.port_lt)]
  simp [h.wantsNone]

end

/-- A router after the header of an input has left by port q. -/
def RouterState.headerGone (v : RouterState) (port q : Nat) (u : FlowUnit) : RouterState :=
  { v with
    waiting := v.waiting.erase (port, u)
    lastInput := Sparse.set 15 v.lastInput (openKey q u.vn) port
    sent := v.sent ++ [(q, hopped u)]
    opened := if u.tail then Sparse.erase v.opened (openKey port u.vn) else Sparse.insert v.opened (openKey port u.vn) q }

/-- The next hop of a header depends on registers alone. -/
theorem Kept.nextHop {s t : State} {A : List Area} (k : Kept s t [] A) (page : Nat) (u : FlowUnit) :
    t.nextHop page u = s.nextHop page u := by simp only [State.nextHop, k.outputDown, k.part]

section
variable {s t : State} {page : Nat} {v : RouterState} (h : RouterStep s t page v)
include h

theorem RouterStep.emitUnit {q to' : Nat} (u : FlowUnit) (hend : portEnd s.part page q = some (.node to')) :
    RouterStep s (t.emitUnit page q u) page { v with sent := v.sent ++ [(q, u)] } := by
  rw [State.emitUnit, h.kept.part, hend]
  exact h.update fun v => { v with sent := v.sent ++ [(q, u)] }

theorem RouterStep.setOpen (port vn out : Nat) (tail : Bool) : RouterStep s (t.setOpen page port vn out tail) page
    { v with opened := if tail then Sparse.erase v.opened (openKey port vn) else Sparse.insert v.opened (openKey port vn) out } :=
  h.update fun v => { v with
    opened := if tail then Sparse.erase v.opened (openKey port vn) else Sparse.insert v.opened (openKey port vn) out }

theorem RouterStep.moveUnit {port q to' : Nat} {u : FlowUnit} (hhead : u.head = true) (hway : s.nextHop page u = .out q)
    (hend : portEnd s.part page q = some (.node to')) :
    RouterStep s (t.moveUnit page (port, u)) page (v.headerGone port q u) := by
  have hgone := h.update fun v => { v with waiting := v.waiting.erase (port, u) }
  have hlast := hgone.update fun v => { v with lastInput := Sparse.set 15 v.lastInput (openKey q u.vn) port }
  rw [State.moveUnit, if_pos hhead, State.moveHeader, hgone.kept.nextHop, hway]
  exact (hlast.emitUnit (hopped u) hend).setOpen port u.vn q u.tail

end

/-- The header leaves, and nothing is left to move. -/
theorem Leaves.flow {s : State} {page port q to' : Nat} {u : FlowUnit} (h : Leaves s page port q to' u)
    (hfeeder : feederOf s.part page port = []) (n : Nat) :
    ∃ turns, RouterStep s (s.flow (n + 1) [page]) page ({ s.router page with turns := turns }.headerGone port q u) := by
  obtain ⟨t, turns, hnext, hstep⟩ := h.nextUnit
  have hmoved := hstep.moveUnit (port := port) h.head h.way h.ends
  have hempty : ((t.moveUnit page (port, u)).router page).waiting = [] := by
    rw [hmoved.router]
    simp [RouterState.headerGone, h.waiting]
  have hflow : s.flow (n + 1) [page] = t.moveUnit page (port, u) := by
    rw [State.flow, hnext]
    simp only [hfeeder, List.append_nil]
    exact State.flow_of_still (State.nextUnit_of_empty hempty) n
  exact ⟨turns, hflow ▸ hmoved⟩

-- ------------------------------------------------------------------ a header enters a router where nothing waits (R203, R209)

/-- The units that an NI has injected have left its link. -/
def State.outTaken (s : State) (n : Nat) : State := s.setNi n { s.ni n with out := [] }

theorem SameWaits.outTaken (s : State) (n : Nat) : SameWaits s (s.outTaken n) :=
  SameWaits.setNi s ⟨rfl, rfl, rfl, rfl, rfl, rfl, rfl, rfl, rfl⟩

/-- The only unit that an NI has injected stands at a router's input. -/
def State.headerIn (s : State) (page port n : Nat) (u : FlowUnit) : State :=
  (s.outTaken n).setRouter page { s.router page with waiting := [(port, u)] }

theorem Kept.headerIn (s : State) (page port n : Nat) (u : FlowUnit) : Kept s (s.headerIn page port n u) [] [.net] :=
  ((Kept.start s _ _).via (Kept.setNi ..) (by simp) (by simp)).via (Kept.setRouter ..) (by simp) (by simp)

theorem SameWaits.headerIn (s : State) (page port n : Nat) (u : FlowUnit) : SameWaits s (s.headerIn page port n u) :=
  (SameWaits.outTaken s n).trans (SameWaits.setRouter ..)

theorem State.headerIn_out (s : State) (page port n : Nat) (u : FlowUnit) : ((s.headerIn page port n u).ni n).out = [] := by
  simp [State.headerIn, State.outTaken, State.ni_setNi]

theorem State.headerIn_router (s : State) (page port n : Nat) (u : FlowUnit) :
    (s.headerIn page port n u).router page = { s.router page with waiting := [(port, u)] } := by
  simp [State.headerIn, State.router_setRouter]

theorem State.headerIn_router_other (s : State) {page q : Nat} (port n : Nat) (u : FlowUnit) (h : q ≠ page) :
    (s.headerIn page port n u).router q = s.router q := by
  simp [State.headerIn, State.outTaken, State.router_setRouter, h]

/-- No packet is cut short where nothing waits and none is open. -/
theorem State.endShort_of_empty {s : State} {page : Nat} (hwaiting : (s.router page).waiting = [])
    (hopened : (s.router page).opened = []) (port vn : Nat) : s.endShort page port vn = s := by
  simp [State.endShort, hwaiting, hopened, openOf]

theorem State.buffer_of_empty {s : State} {page : Nat} {u : FlowUnit} (port : Nat) (hwaiting : (s.router page).waiting = [])
    (hopened : (s.router page).opened = []) (hflips : u.flips = []) :
    s.buffer page port u = s.setRouter page { s.router page with waiting := [(port, u)] } := by
  simp [State.buffer, State.endShort_of_empty hwaiting hopened, wordFinding_of_clean hflips, withWord0_self hflips, hwaiting]

theorem State.takeFromLink_single {s : State} {page port n : Nat} {u : FlowUnit} (hend : portEnd s.part page port = some (.ni n))
    (hwaiting : (s.router page).waiting = []) (hout : (s.ni n).out = [u]) (hroom : 1 ≤ s.inputRoom page u.vn) :
    s.takeFromLink page port = some (u, s.outTaken n) := by
  have hfree : 0 < s.inputRoom page u.vn := hroom
  simp [State.takeFromLink, State.outTaken, hend, hout, unitsAt, hwaiting, hfree]

theorem State.unitReceive_single {s : State} {page port n : Nat} {u : FlowUnit} (hpage : pagePresent s.part page = true)
    (hend : portEnd s.part page port = some (.ni n)) (hwaiting : (s.router page).waiting = [])
    (hopened : (s.router page).opened = []) (hflips : u.flips = []) (hout : (s.ni n).out = [u])
    (hroom : 1 ≤ s.inputRoom page u.vn) :
    ∃ k, s.unitReceive page port [] = (s.headerIn page port n u).flow (k + 1) [page] := by
  have hfeeder : feederOf (s.headerIn page port n u).part page port = [] := by
    rw [(Kept.headerIn s page port n u).part, feederOf, hend]
  have hbuffer : (s.outTaken n).buffer page port u = s.headerIn page port n u :=
    State.buffer_of_empty port hwaiting hopened hflips
  refine ⟨2 * ((s.headerIn page port n u).net.routers.map fun kv => kv.2.waiting.length).sum + 2, ?_⟩
  simp only [State.unitReceive, hpage, State.takeFromLink_single hend hwaiting hout hroom, State.parityCheck_nil,
    controlFinding_nil, changedOn_nil, hbuffer]
  rw [if_neg (by simp), hfeeder]

theorem Runs.unitReceive {s : State} {page port q to' n : Nat} {u : FlowUnit} (hs : s.ready = true)
    (hpage : pagePresent s.part page = true) (hport : portEnd s.part page port = some (.ni n))
    (hrouter : s.router page = routerInit) (hvn : u.vn < 4) (hhead : u.head = true) (hflips : u.flips = [])
    (hout : (s.ni n).out = [u]) (hroute : headerField u.payload 0 0 4 = q) (hq : q < 15) (hdown : s.outputDown page q = false)
    (hend : portEnd s.part page q = some (.node to')) (hfar : s.router to' = routerInit) (hroomFar : 1 ≤ s.inputRoom to' u.vn)
    (hroom : 1 ≤ s.inputRoom page u.vn) (hholds : s.routerHolds page = false) (hne : page ≠ to') :
    Runs (.unitReceive page port []) s fun t =>
      (t.router page).sent.map (·.1) = [q] ∧
      ((t.router page).sent.all fun x => x.2.vn == u.vn && x.2.tail == u.tail && x.2.flips.isEmpty &&
        headerField x.2.payload 0 0 48 == headerField u.payload 0 0 48 / 16 + 15 * 2 ^ 44 &&
        x.2.payload.toNat / 2 ^ 48 == u.payload.toNat / 2 ^ 48) = true ∧
      (t.router page).waiting = [] ∧ (t.ni n).out = [] ∧
      (t.router page).opened = (if u.tail then [] else [(4 * port + u.vn, q)]) ∧ Kept s t [] [.net] := by
  subst hroute
  have hin : Kept s (s.headerIn page port n u) [] [.net] := Kept.headerIn ..
  have hnow := State.headerIn_router s page port n u
  rw [hrouter] at hnow
  have hleaves : Leaves (s.headerIn page port n u) page port (headerField u.payload 0 0 4) to' u := {
    waiting := by rw [hnow]
    opened := by rw [hnow]; rfl
    sent := by rw [hnow]; rfl
    holds := by rw [hin.routerHolds]; exact hholds
    vn := hvn
    head := hhead
    way := by rw [hin.nextHop]; exact State.nextHop_of_node hflips hq hdown hend
    port_lt := hq
    back := by rw [hin.part]; exact returnPort_isSome hpage hq hend
    ends := by rw [hin.part]; exact hend
    far := by rw [State.headerIn_router_other _ _ _ _ hne.symm, hfar]; rfl
    room := by rw [hin.inputRoom]; exact hroomFar }
  have hfeeder : feederOf (s.headerIn page port n u).part page port = [] := by rw [hin.part, feederOf, hport]
  obtain ⟨k, hreceive⟩ := State.unitReceive_single hpage hport (by rw [hrouter]; rfl) (by rw [hrouter]; rfl) hflips hout hroom
  obtain ⟨turns, hstep⟩ := hleaves.flow hfeeder k
  rw [← hreceive, hnow] at hstep
  refine Runs.of_sameWaits (f := fun s => s.unitReceive page port []) rfl hs rfl (hin.via hstep.kept (by simp) (by simp))
    ((SameWaits.headerIn ..).trans hstep.sameWaits) (by decide) (by simp) fun t ht hk => ?_
  have hnet : t.net = (s.unitReceive page port []).net := ht.areas .net List.not_mem_nil
  have hni : t.ni n = (s.headerIn page port n u).ni n := by rw [State.ni, hnet, hstep.nis, State.ni]
  rw [State.router_congr hnet, hstep.router, hni, State.headerIn_out]
  obtain ⟨hopvn, hoptail, hopflips⟩ := hopped_control hq hflips
  refine ⟨rfl, ?_, ?_, rfl, ?_, hk⟩
  · simp only [RouterState.headerGone, routerInit, List.nil_append, List.all_cons, List.all_nil, hopvn, hoptail, hopflips,
      hopped_route hq, hopped_rest hq, List.isEmpty_nil, beq_self_eq_true, Bool.and_self]
  · simp [RouterState.headerGone]
  · simp [RouterState.headerGone, routerInit, openKey, Sparse.erase, Sparse.insert]

-- ------------------------------------------------------------------ routers

/-- Settles O30: each clause is the run of one command on a router where nothing else can move. -/
theorem routers : Obligations.Routers := by
  refine ⟨?_, ?_, ?_, ?_, ?_, ?_, ?_⟩
  · intro s page port q to' n u hs hpage hport hrouter hvn hhead hflips hout hroute hq hdown hend hfar hroomFar hroom hholds hne
    exact Runs.unitReceive hs hpage hport hrouter hvn hhead hflips hout hroute hq hdown hend hfar hroomFar hroom hholds hne
  · exact fun s page port vn u => Runs.ageingPromotion
  · exact fun s page port w => Runs.wireRemap
  · exact fun s who page r data => Runs.stagedWrite who
  · exact fun s who page => Runs.hold who
  · exact fun s page w who => Runs.holdDrainDone
  · exact fun s page => Runs.holdFail

end Sys2Proof.Machine
end

section
/-! PROOF. The reference, the delay-locked loop, ARM and the sync input (R271, R272, R276, R281, R453). -/

namespace Sys2Proof.Machine

-- ------------------------------------------------------------------ TIME after a command

/-- TIME counts on with the ticks that pass. -/
@[simp] theorem State.pass_now (s : State) (n : Nat) : (s.pass n).now = s.now + BitVec.ofNat 64 n :=
  add_right_comm _ _ _

theorem Kept.time {s t : State} {R : Regs} {A : List Area} (h : Kept s t R A) (hA : Area.clock ∉ A) : t.time = s.time :=
  (h.areas .clock hA).1

theorem Kept.now {s t : State} {R : Regs} {A : List Area} (h : Kept s t R A) (hA : Area.clock ∉ A) : t.now = s.now := by
  obtain ⟨htime, hoffset, -⟩ := h.areas .clock hA
  rw [State.now, htime, hoffset, State.now]

theorem Kept.beam {s t : State} {R : Regs} {A : List Area} (h : Kept s t R A) (hA : Area.beam ∉ A) : t.beam = s.beam :=
  h.areas .beam hA

-- ------------------------------------------------------------------ commands that set fields alone

/-- The state with fields replaced, one after another, each in the register of its name numbered 0. -/
def State.setFields (s : State) (l : List (Fld × Nat)) : State := l.foldl (fun s x => s.setF x.1 0 x.2) s

/-- A register has its own fields of the list replaced. -/
theorem State.word_setFields (r : Reg) (l : List (Fld × Nat)) :
    ∀ s : State, (s.setFields l).word r 0 = changed (s.word r 0) (l.filter fun x => r == x.1.reg) := by
  induction l with
  | nil => exact fun _ => rfl
  | cons x l ih =>
    intro s
    have hstep : (s.setFields (x :: l)).word r 0 = ((s.setF x.1 0 x.2).setFields l).word r 0 := rfl
    by_cases h : r = x.1.reg
    · subst h
      simp [hstep, ih, State.word_setF, changed]
    · simp [hstep, ih, State.word_setF, h]

theorem Kept.setFields (s : State) (l : List (Fld × Nat)) : Kept s (s.setFields l) (l.map fun x => (x.1.reg, 0)) [] :=
  Kept.foldl _ l s fun u x hx => (Kept.setF u x.1 0 x.2).weaken
    (by simpa using ⟨x.1, ⟨x.2, hx⟩, rfl⟩) (by simp)

/-- A command that sets fields alone runs. -/
theorem Runs.setFields {c : Instr} {s : State} {P : State → Prop} (l : List (Fld × Nat))
    (hc : exec c s = s.command (State.setFields · l)) (hs : s.ready = true) (hl : ∀ x ∈ l, x.1.reg ∉ calmRegs)
    (hP : ∀ t, (∀ r, isPend r = false → t.word r 0 = changed (s.word r 0) (l.filter fun x => r == x.1.reg)) →
      Kept s t (l.map fun x => (x.1.reg, 0)) [] → P t) : Runs c s P :=
  Runs.of_command hc hs (Kept.setFields s l) (by simp) (by simpa using fun r i F v hx hr _ => hr ▸ hl _ hx)
    fun t hw _ hk => hP t (fun r hr => (hw r 0 hr).trans (State.word_setFields r l s)) hk

-- ------------------------------------------------------------------ ARM (R272)

theorem State.syncBarred_iff (s : State) :
    s.syncBarred = true ↔ s.f F.RECORD_STATUS_STATE 0 ≠ 0 ∨ s.f F.CFG_CAP_STATUS_STATE 0 ≠ 0 := by
  simp [State.syncBarred, State.funcState, funcRegs]

theorem Runs.arm {s : State} (who : Who) (hs : s.ready = true) (hrec : s.f F.RECORD_STATUS_STATE 0 = 0)
    (hcap : s.f F.CFG_CAP_STATUS_STATE 0 = 0) : Runs (.arm who) s fun t =>
      t.word .TIME_STATUS 0 = changed (s.word .TIME_STATUS 0) [(F.TIME_STATUS_SYNC_ARMED, 1)] ∧
      Kept s t [(.TIME_STATUS, 0)] [.clock] ∧ t.time = s.time ∧ t.now = s.now := by
  have hf : s.syncArm who = (s.raise F.TIME_STATUS_SYNC_ARMED 0).putSyncArmer who.origin :=
    if_neg (by simp [State.syncBarred_iff, hrec, hcap])
  have hk : Kept s (s.syncArm who) [(.TIME_STATUS, 0)] [.clock] := hf ▸ (Kept.raise ..).trans (Kept.putSyncArmer ..)
  refine Runs.of_command (f := (·.syncArm who)) rfl hs hk (by decide) (by simp [calmRegs]) fun t hw h hk => ⟨?_, hk, ?_, ?_⟩
  · rw [hw _ _ rfl, hf]
    simp [State.word_raise, changed]
  · rw [h.time List.not_mem_nil, hf]
    rfl
  · rw [h.now List.not_mem_nil, hf]
    rfl

theorem Runs.arm_refused {s : State} (who : Who) (hs : s.ready = true)
    (hbarred : s.f F.RECORD_STATUS_STATE 0 ≠ 0 ∨ s.f F.CFG_CAP_STATUS_STATE 0 ≠ 0) :
    Runs (.arm who) s fun t => Refused s t F.TIME_STATUS_CMD_REFUSED 0 who .command .TIME_SYNC_CTRL 0 1 := by
  have hf : s.syncArm who = (s.raise F.TIME_STATUS_CMD_REFUSED 0).journalRefusal who .command .TIME_SYNC_CTRL 0 1 :=
    if_pos ((State.syncBarred_iff s).2 hbarred)
  have hk : Kept s (s.syncArm who) [(.TIME_STATUS, 0)] [.ledger] := hf ▸ (Kept.raise ..).trans (Kept.journalRefusal ..)
  exact Runs.of_command (f := (·.syncArm who)) rfl hs hk (by decide) (by simp [calmRegs]) fun t hw h hk =>
    Refused.of_raise rfl (by decide) (hf ▸ hw) (hf ▸ h) hk

-- ------------------------------------------------------------------ the sync input (R272, R276)

/-- A sync edge's TIME is stored, and source SYNC enters the Beam. -/
def State.edgeStored (s : State) : State :=
  (s.setPair .TIME_SYNC_LAST_LO .TIME_SYNC_LAST_HI 0 s.now.toNat).enterBeam (.source 18) s.time

theorem State.syncEdge_armed {s : State} (h : s.f F.TIME_STATUS_SYNC_ARMED 0 = 1) : s.syncEdge = s.syncLoad.edgeStored := by
  simp [State.syncEdge, State.edgeStored, State.on, h]

theorem State.syncEdge_unarmed {s : State} (h : s.f F.TIME_STATUS_SYNC_ARMED 0 = 0) : s.syncEdge = s.syncCheck.edgeStored := by
  simp [State.syncEdge, State.edgeStored, State.on, h]

/-- The registers of a sync edge. -/
def edgeRegs : Regs := [(.TIME_STATUS, 0), (.TIME_SYNC_LAST_LO, 0), (.TIME_SYNC_LAST_HI, 0), (.BEAM_SRC_CNT, 18)]

theorem Kept.edgeStored (s : State) : Kept s s.edgeStored edgeRegs [.beam] :=
  ((Kept.setPair ..).trans (Kept.enterBeam ..)).weaken (by simp [edgeRegs, entryRegs]) (by simp)

theorem State.syncLoad_time (s : State) : s.syncLoad.time = s.time := by simp [State.syncLoad]

/-- The load gives TIME the value of LOAD. -/
theorem State.syncLoad_now (s : State) : s.syncLoad.now = BitVec.ofNat 64 (s.pair .TIME_LOAD_LO .TIME_LOAD_HI 0) := by
  simp [State.syncLoad, State.now, State.loadValue]

theorem State.syncLoad_status (s : State) : s.syncLoad.word .TIME_STATUS 0 =
    changed (s.word .TIME_STATUS 0) [(F.TIME_STATUS_SYNC_ARMED, 0), (F.TIME_STATUS_SYNC_LOADED, 1)] := by
  simp [State.syncLoad, State.word_raise, State.word_setF, changed]

theorem Kept.syncLoad (s : State) : Kept s s.syncLoad [(.TIME_STATUS, 0)] [.clock, .ledger] :=
  ((((Kept.start s _ _).via (Kept.putTimeOffset ..) (by simp) (by simp)).via (Kept.putSyncRef ..) (by simp) (by simp)).via
    (Kept.setF ..) (by simp) (by simp)).via (Kept.raise ..) (by simp) (by simp) |>.via (Kept.journal ..) (by simp) (by simp)

/-- A sync edge that does not load changes SYNC_SLIP at most. -/
theorem Kept.syncCheck (s : State) : Kept s s.syncCheck [(.TIME_STATUS, 0)] [] := by
  unfold State.syncCheck
  dsimp only
  split
  · split
    · exact Kept.raise ..
    · exact Kept.start ..
  · exact Kept.start ..

/-- What t shows of a sync edge that came in state u. -/
structure EdgeShown (u t : State) : Prop where
  time : t.time = u.time
  now : t.now = u.now
  status : t.word .TIME_STATUS 0 = u.word .TIME_STATUS 0
  lastLo : t.word .TIME_SYNC_LAST_LO 0 = BitVec.ofNat 32 u.now.toNat
  lastHi : t.word .TIME_SYNC_LAST_HI 0 = BitVec.ofNat 32 (u.now.toNat / 2 ^ 32)
  event : ⟨.source 18, t.time⟩ ∈ t.beam.flight

theorem EdgeShown.of_kept {u t : State} (h : Kept u.edgeStored t [] []) : EdgeShown u t := by
  have htime : t.time = u.time := by simp [h.time List.not_mem_nil, State.edgeStored]
  have hword (r : Reg) (hr : isPend r = false) (hb : r ≠ .BEAM_SRC_CNT) : t.word r 0 =
      (u.setPair .TIME_SYNC_LAST_LO .TIME_SYNC_LAST_HI 0 u.now.toNat).word r 0 := by
    rw [h.regs _ _ hr List.not_mem_nil, State.edgeStored, State.word_enterBeam _ _ _ _ _ hb]
  exact {
    time := htime
    now := by simp [h.now List.not_mem_nil, State.edgeStored]
    status := (hword _ rfl (by decide)).trans (by simp [State.word_setPair])
    lastLo := (hword _ rfl (by decide)).trans (by simp [State.word_setPair])
    lastHi := (hword _ rfl (by decide)).trans (by simp [State.word_setPair])
    event := by
      rw [htime, h.beam List.not_mem_nil]
      exact State.mem_enterBeam .. }

/-- A sync edge of which state u comes, where u differs in TIME, in TIME.STATUS and in the ledger at most. -/
theorem Runs.syncEdge {s u : State} {wait : Nat} {A : List Area} {P : State → Prop} (hs : s.ready = true)
    (hf : (s.pass wait).syncEdge = u.edgeStored) (hk : Kept (s.pass wait) u [(.TIME_STATUS, 0)] A)
    (hA : ∀ a ∈ calmAreas, a ∉ .clock :: A ++ [.beam]) (hP : ∀ t, EdgeShown u t → Kept s t edgeRegs (.clock :: A ++ [.beam]) → P t) :
    Runs (.syncEdge wait) s P := by
  have hedge : Kept s u.edgeStored edgeRegs (.clock :: A ++ [.beam]) :=
    (((Kept.pass s wait).trans hk).trans (Kept.edgeStored u)).weaken (by simp [edgeRegs]) (by simp)
  exact Runs.of_command (f := fun s => (s.pass wait).syncEdge) rfl hs (hf ▸ hedge) hA (by simp [edgeRegs, calmRegs])
    fun t _ h hk => hP t (.of_kept (hf ▸ h)) hk

/-- A pair of registers as a 64-bit word has the low one below. -/
theorem State.pair_low (s : State) (lo hi : Reg) (i : Nat) :
    BitVec.ofNat 32 (BitVec.ofNat 64 (s.pair lo hi i)).toNat = s.word lo i := by
  have hlo := (s.word lo i).isLt
  apply BitVec.eq_of_toNat_eq
  simp only [State.pair, BitVec.toNat_ofNat]
  omega

theorem State.pair_high (s : State) (lo hi : Reg) (i : Nat) :
    BitVec.ofNat 32 ((BitVec.ofNat 64 (s.pair lo hi i)).toNat / 2 ^ 32) = s.word hi i := by
  have hlo := (s.word lo i).isLt
  have hhi := (s.word hi i).isLt
  apply BitVec.eq_of_toNat_eq
  simp only [State.pair, BitVec.toNat_ofNat]
  omega

theorem Runs.syncEdge_armed {s : State} (wait : Nat) (hs : s.ready = true) (harmed : s.f F.TIME_STATUS_SYNC_ARMED 0 = 1) :
    Runs (.syncEdge wait) s fun t =>
      t.time = s.time + BitVec.ofNat 64 wait ∧
      t.now = BitVec.ofNat 64 (s.pair .TIME_LOAD_LO .TIME_LOAD_HI 0) ∧
      t.word .TIME_STATUS 0 = changed (s.word .TIME_STATUS 0)
        [(F.TIME_STATUS_SYNC_ARMED, 0), (F.TIME_STATUS_SYNC_LOADED, 1)] ∧
      t.word .TIME_SYNC_LAST_LO 0 = s.word .TIME_LOAD_LO 0 ∧ t.word .TIME_SYNC_LAST_HI 0 = s.word .TIME_LOAD_HI 0 ∧
      ⟨.source 18, t.time⟩ ∈ t.beam.flight ∧ Kept s t edgeRegs [.clock, .ledger, .beam] := by
  refine Runs.syncEdge hs (State.syncEdge_armed harmed) (Kept.syncLoad _) (by decide) fun t h hk =>
    ⟨?_, ?_, ?_, ?_, ?_, h.event, hk.weaken (List.Subset.refl _) (by simp)⟩
  · rw [h.time, State.syncLoad_time]
    rfl
  · rw [h.now, State.syncLoad_now]
    rfl
  · rw [h.status, State.syncLoad_status]
    rfl
  · rw [h.lastLo, State.syncLoad_now, State.pair_low]
    rfl
  · rw [h.lastHi, State.syncLoad_now, State.pair_high]
    rfl

theorem Runs.syncEdge_unarmed {s : State} (wait : Nat) (hs : s.ready = true) (hunarmed : s.f F.TIME_STATUS_SYNC_ARMED 0 = 0) :
    Runs (.syncEdge wait) s fun t =>
      t.time = s.time + BitVec.ofNat 64 wait ∧ t.now = s.now + BitVec.ofNat 64 wait ∧
      t.word .TIME_SYNC_LAST_LO 0 = BitVec.ofNat 32 t.now.toNat ∧
      t.word .TIME_SYNC_LAST_HI 0 = BitVec.ofNat 32 (t.now.toNat / 2 ^ 32) ∧
      ⟨.source 18, t.time⟩ ∈ t.beam.flight ∧ Kept s t edgeRegs [.clock, .beam] := by
  have hcheck := Kept.syncCheck (s.pass wait)
  refine Runs.syncEdge hs (State.syncEdge_unarmed hunarmed) hcheck (by decide) fun t h hk =>
    ⟨?_, ?_, ?_, ?_, h.event, hk⟩
  · rw [h.time, hcheck.time List.not_mem_nil]
    rfl
  · rw [h.now, hcheck.now List.not_mem_nil, State.pass_now]
  · rw [h.lastLo, h.now]
  · rw [h.lastHi, h.now]

-- ------------------------------------------------------------------ the time base

/-- Settles O1, a clause for each command: the reference and the delay-locked loop set fields alone, ARM looks at what bars a sync
load, and a sync edge loads TIME or checks its phase. -/
theorem timeBase : Obligations.TimeBase := by
  unfold Obligations.TimeBase
  refine ⟨fun s hs => ⟨?_, ?_, ?_, ?_, ?_⟩, ?_, ?_, ?_, ?_⟩
  · exact Runs.setFields [(F.TIME_STATUS_LOCK, 0), (F.TIME_STATUS_HOLDOVER, 1), (F.TIME_STATUS_REF_LOST, 1),
      (F.TBUS_REF_CTRL_REF_PRESENT, 0)] rfl hs (by decide) fun t hw hk => ⟨hw _ rfl, hw _ rfl, hk.weaken (by simp) (by simp)⟩
  · exact Runs.setFields [(F.TBUS_REF_CTRL_REF_PRESENT, 1)] rfl hs (by decide) fun t hw hk => ⟨hw _ rfl, hk⟩
  · exact Runs.setFields [(F.TIME_STATUS_LOCK, 1), (F.TIME_STATUS_HOLDOVER, 0), (F.TBUS_REF_CTRL_REF_PRESENT, 1)] rfl hs
      (by decide) fun t hw hk => ⟨hw _ rfl, hw _ rfl, hk.weaken (by simp) (by simp)⟩
  · exact Runs.setFields [(F.TIME_STATUS_DLL_LOCK, 0), (F.TIME_STATUS_DLL_LOST, 1)] rfl hs (by decide) fun t hw hk =>
      ⟨hw _ rfl, hk.weaken (by simp) (by simp)⟩
  · exact Runs.setFields [(F.TIME_STATUS_DLL_LOCK, 1)] rfl hs (by decide) fun t hw hk => ⟨hw _ rfl, hk⟩
  · exact fun s who => Runs.arm who
  · exact fun s who => Runs.arm_refused who
  · exact fun s wait => Runs.syncEdge_armed wait
  · exact fun s wait => Runs.syncEdge_unarmed wait

end Sys2Proof.Machine
end

section
/-! PROOF. Compare units, timers and software events (R274, R275, R276). -/

namespace Sys2Proof.Machine

/-- An event that is in the crossbar stays there when another enters. -/
theorem State.mem_enterBeam_of_mem {s : State} {e : BeamEvent} (h : e ∈ s.beam.flight) (o : BeamFrom) (v : DWord) :
    e ∈ (s.enterBeam o v).beam.flight := by
  have hput : e ∈ (s.putEvent o v).beam.flight := by
    rcases Nat.lt_or_ge v.toNat e.entry.toNat with hlate | hearly
    · exact List.mem_append_right _ (List.mem_filter.2 ⟨h, by simpa using hlate⟩)
    · exact List.mem_append_left _ (List.mem_append_left _ (List.mem_filter.2 ⟨h, by simpa using hearly⟩))
  unfold State.enterBeam
  split
  · exact h
  · cases o <;> exact hput

-- ------------------------------------------------------------------ compare units (R274)

/-- The TIME at which a compare unit fires for the value in effect. -/
abbrev State.cmpDue (s : State) (n : Nat) : Nat := s.cmpThreshold n (s.cmpVal n)

/-- TIME comes to the tick on which a compare unit fires. -/
def State.cmpReached (s : State) (n : Nat) : State :=
  s.pass (if s.now.toNat < s.cmpDue n then s.cmpDue n - s.now.toNat else 1)

/-- A compare unit has fired: its event enters the Beam, and FIRED tells it. -/
def State.cmpTold (s : State) (n : Nat) : State :=
  ((s.cmpReached n).enterBeam (.source (52 + n)) (s.cmpReached n).time).raise F.TIME_CMP_CTRL_FIRED n

/-- A compare unit that fires again takes the value k periods on. -/
def State.cmpAgain (s : State) (n k : Nat) : State :=
  ((s.cmpTold n).cmpLoLanded n).setPair .TIME_CMP_VAL_LO .TIME_CMP_VAL_HI n
    ((s.cmpVal n + s.f F.TIME_CMP_PERIOD_TICKS n * k) % 2 ^ 64)

theorem State.cmpReached_now_ahead {s : State} {n : Nat} (h : s.now.toNat < s.cmpDue n) :
    (s.cmpReached n).now = BitVec.ofNat 64 (s.cmpDue n) := by
  rw [State.cmpReached, if_pos h, State.pass_now]
  apply BitVec.eq_of_toNat_eq
  simp only [BitVec.toNat_add, BitVec.toNat_ofNat, Nat.add_mod_mod]
  congr 1
  omega

theorem State.cmpReached_now_past {s : State} {n : Nat} (h : s.cmpDue n ≤ s.now.toNat) : (s.cmpReached n).now = s.now + 1 := by
  rw [State.cmpReached, if_neg (Nat.not_lt.2 h), State.pass_now]
  rfl

theorem State.cmpTold_now (s : State) (n : Nat) : (s.cmpTold n).now = (s.cmpReached n).now := by simp [State.cmpTold]

theorem State.cmpTold_time (s : State) (n : Nat) : (s.cmpTold n).time = (s.cmpReached n).time := by simp [State.cmpTold]

theorem State.cmpTold_event (s : State) (n : Nat) : ⟨.source (52 + n), (s.cmpTold n).time⟩ ∈ (s.cmpTold n).beam.flight := by
  rw [State.cmpTold_time]
  exact State.mem_enterBeam ..

theorem State.cmpTold_ctrl (s : State) (n : Nat) :
    (s.cmpTold n).word .TIME_CMP_CTRL n = changed (s.word .TIME_CMP_CTRL n) [(F.TIME_CMP_CTRL_FIRED, 1)] := by
  simp [State.cmpTold, State.cmpReached, State.word_raise, State.word_enterBeam, changed]

theorem Kept.cmpTold (s : State) (n : Nat) :
    Kept s (s.cmpTold n) [(.TIME_CMP_CTRL, n), (.BEAM_SRC_CNT, 52 + n)] [.clock, .beam] :=
  (((Kept.pass ..).trans (Kept.enterBeam ..)).trans (Kept.raise ..)).weaken (by simp [entryRegs]) (by simp)

theorem State.cmpTold_period (s : State) (n : Nat) :
    (s.cmpTold n).f F.TIME_CMP_PERIOD_TICKS n = s.f F.TIME_CMP_PERIOD_TICKS n :=
  (Kept.cmpTold s n).f _ _ rfl (by simp)

/-- The periods that a compare unit skips are the fewest that lead beyond TIME (R274). -/
theorem periodsPast_spec (th t : Nat) {period : Nat} (hp : period ≠ 0) :
    1 ≤ periodsPast th period t ∧ t < th + period * periodsPast th period t ∧
      (periodsPast th period t = 1 ∨ th + period * (periodsPast th period t - 1) ≤ t) := by
  unfold periodsPast
  split
  · rename_i h
    exact ⟨le_refl 1, by omega, .inl rfl⟩
  · rename_i h
    have hdiv := Nat.div_add_mod (t - th) period
    have hmod := Nat.mod_lt (t - th) (Nat.pos_of_ne_zero hp)
    rw [Nat.add_sub_cancel, Nat.mul_add, Nat.mul_one]
    exact ⟨Nat.le_add_left 1 _, by omega, .inr (by omega)⟩

section
variable {s : State} {n : Nat} (hn : n < 8) (hen : s.f F.TIME_CMP_CTRL_EN n = 1)
include hn hen

theorem State.cmpFire_once (hp : s.f F.TIME_CMP_PERIOD_TICKS n = 0) :
    s.cmpFire n = (s.cmpTold n).setF F.TIME_CMP_CTRL_EN n 0 := by
  have hstop : (s.cmpTold n).f F.TIME_CMP_PERIOD_TICKS n = 0 := (s.cmpTold_period n).trans hp
  rw [State.cmpFire, if_neg (by simp [hn, hen, State.on])]
  exact if_pos hstop

theorem State.cmpFire_again (hp : s.f F.TIME_CMP_PERIOD_TICKS n ≠ 0) : ∃ k, s.cmpFire n = s.cmpAgain n k ∧ 1 ≤ k ∧
    (s.cmpReached n).now.toNat < s.cmpDue n + s.f F.TIME_CMP_PERIOD_TICKS n * k ∧
    (k = 1 ∨ s.cmpDue n + s.f F.TIME_CMP_PERIOD_TICKS n * (k - 1) ≤ (s.cmpReached n).now.toNat) := by
  have hgoes : (s.cmpTold n).f F.TIME_CMP_PERIOD_TICKS n ≠ 0 := (s.cmpTold_period n).trans_ne hp
  refine ⟨_, ?_, periodsPast_spec (s.cmpDue n) (s.cmpReached n).now.toNat hp⟩
  rw [State.cmpFire, if_neg (by simp [hn, hen, State.on])]
  refine (if_neg hgoes).trans ?_
  rw [State.cmpAgain, ← s.cmpTold_now n, ← s.cmpTold_period n]
  rfl

end

/-- A pair of registers reads the 64-bit value written into it. -/
theorem State.pair_setPair (s : State) {lo hi : Reg} (i : Nat) {v : Nat} (hne : lo ≠ hi) (hv : v < 2 ^ 64) :
    (s.setPair lo hi i v).pair lo hi i = v := by
  simp only [State.pair, State.word_setPair, hne, and_true, if_false, if_true, BitVec.toNat_ofNat]
  omega

theorem Kept.cmpAgain (s : State) (n k : Nat) : Kept s (s.cmpAgain n k)
    [(.TIME_CMP_CTRL, n), (.TIME_CMP_VAL_LO, n), (.TIME_CMP_VAL_HI, n), (.BEAM_SRC_CNT, 52 + n)] [.clock, .beam, .latches] :=
  (((Kept.cmpTold s n).trans (Kept.putLatches ..)).trans (Kept.setPair ..)).weaken (by simp) (by simp)

/-- What t shows of the tick on which compare unit n of state s fires, and of its event. -/
structure CmpShown (s t : State) (n : Nat) : Prop where
  ahead : s.now.toNat < s.cmpDue n → t.now = BitVec.ofNat 64 (s.cmpDue n)
  past : s.cmpDue n ≤ s.now.toNat → t.now = s.now + 1
  event : ⟨.source (52 + n), t.time⟩ ∈ t.beam.flight

theorem CmpShown.of_told {s t : State} {n : Nat} (htime : t.time = (s.cmpTold n).time) (hnow : t.now = (s.cmpTold n).now)
    (hbeam : t.beam = (s.cmpTold n).beam) : CmpShown s t n where
  ahead h := by rw [hnow, State.cmpTold_now, State.cmpReached_now_ahead h]
  past h := by rw [hnow, State.cmpTold_now, State.cmpReached_now_past h]
  event := by
    rw [htime, hbeam]
    exact State.cmpTold_event s n

theorem Runs.cmpFire_once {s : State} {n : Nat} (hs : s.ready = true) (hn : n < 8) (hen : s.f F.TIME_CMP_CTRL_EN n = 1)
    (hp : s.f F.TIME_CMP_PERIOD_TICKS n = 0) :
    Runs (.cmpFire n) s fun t =>
      (s.now.toNat < s.cmpDue n → s.cmpDue n < 2 ^ 64 → t.now = BitVec.ofNat 64 (s.cmpDue n)) ∧
      (s.cmpDue n ≤ s.now.toNat → t.now = s.now + 1) ∧
      t.word .TIME_CMP_CTRL n = changed (s.word .TIME_CMP_CTRL n) [(F.TIME_CMP_CTRL_FIRED, 1), (F.TIME_CMP_CTRL_EN, 0)] ∧
      ⟨.source (52 + n), t.time⟩ ∈ t.beam.flight ∧
      Kept s t [(.TIME_CMP_CTRL, n), (.BEAM_SRC_CNT, 52 + n)] [.clock, .beam] := by
  have hf := State.cmpFire_once hn hen hp
  have hk : Kept s (s.cmpFire n) [(.TIME_CMP_CTRL, n), (.BEAM_SRC_CNT, 52 + n)] [.clock, .beam] :=
    hf ▸ (Kept.cmpTold s n).via (Kept.setF ..) (by simp) (by simp)
  refine Runs.of_command (f := (·.cmpFire n)) rfl hs hk (by decide) (by simp [calmRegs]) fun t hw h hk => ?_
  have htold : Kept (s.cmpTold n) t [(.TIME_CMP_CTRL, n)] [] := (Kept.setF ..).trans (hf ▸ h)
  have hshown := CmpShown.of_told (htold.time List.not_mem_nil) (htold.now List.not_mem_nil) (htold.beam List.not_mem_nil)
  refine ⟨fun hlt _ => hshown.ahead hlt, hshown.past, ?_, hshown.event, hk⟩
  rw [hw _ _ rfl, hf]
  simp [State.word_setF, State.cmpTold_ctrl, changed]

theorem Runs.cmpFire_again {s : State} {n : Nat} (hs : s.ready = true) (hn : n < 8) (hen : s.f F.TIME_CMP_CTRL_EN n = 1)
    (hp : s.f F.TIME_CMP_PERIOD_TICKS n ≠ 0) :
    Runs (.cmpFire n) s fun t =>
      (s.now.toNat < s.cmpDue n → t.now = BitVec.ofNat 64 (s.cmpDue n)) ∧
      (s.cmpDue n ≤ s.now.toNat → t.now = s.now + 1) ∧
      t.word .TIME_CMP_CTRL n = changed (s.word .TIME_CMP_CTRL n) [(F.TIME_CMP_CTRL_FIRED, 1)] ∧
      (∃ k, 1 ≤ k ∧
        t.pair .TIME_CMP_VAL_LO .TIME_CMP_VAL_HI n = (s.cmpVal n + s.f F.TIME_CMP_PERIOD_TICKS n * k) % 2 ^ 64 ∧
        t.now.toNat < s.cmpDue n + s.f F.TIME_CMP_PERIOD_TICKS n * k ∧
        (k = 1 ∨ s.cmpDue n + s.f F.TIME_CMP_PERIOD_TICKS n * (k - 1) ≤ t.now.toNat)) ∧
      ⟨.source (52 + n), t.time⟩ ∈ t.beam.flight ∧
      Kept s t [(.TIME_CMP_CTRL, n), (.TIME_CMP_VAL_LO, n), (.TIME_CMP_VAL_HI, n), (.BEAM_SRC_CNT, 52 + n)]
        [.clock, .beam, .latches] := by
  obtain ⟨k, hf, hone, hbeyond, hfewest⟩ := State.cmpFire_again hn hen hp
  refine Runs.of_command (f := (·.cmpFire n)) rfl hs (hf ▸ Kept.cmpAgain s n k) (by decide) (by simp [calmRegs])
    fun t hw h hk => ?_
  have htold : Kept (s.cmpTold n) t [(.TIME_CMP_VAL_LO, n), (.TIME_CMP_VAL_HI, n)] [.latches] :=
    ((Kept.putLatches ..).trans (Kept.setPair ..)).trans (hf ▸ h)
  have hnow : t.now = (s.cmpReached n).now := (htold.now (by decide)).trans (s.cmpTold_now n)
  have hshown := CmpShown.of_told (htold.time (by decide)) (htold.now (by decide)) (htold.beam (by decide))
  refine ⟨hshown.ahead, hshown.past, ?_, ⟨k, hone, ?_, ?_, ?_⟩, hshown.event, hk⟩
  · rw [htold.regs _ _ rfl (by simp), State.cmpTold_ctrl]
  · have hpair : t.pair .TIME_CMP_VAL_LO .TIME_CMP_VAL_HI n = (s.cmpAgain n k).pair .TIME_CMP_VAL_LO .TIME_CMP_VAL_HI n := by
      rw [State.pair, hw _ _ rfl, hw _ _ rfl, hf, State.pair]
    rw [hpair, State.cmpAgain, State.pair_setPair _ _ (by decide) (Nat.mod_lt _ (by decide))]
  · rwa [hnow]
  · rwa [hnow]

-- ------------------------------------------------------------------ timers (R275)

/-- The ticks to a timer's phase: at least one, at most a period, and they lead to the phase. -/
theorem ticksToPhase_spec (now : Nat) {period phase : Nat} (h : phase < period) :
    1 ≤ ticksToPhase now period phase ∧ ticksToPhase now period phase ≤ period ∧
      (now + ticksToPhase now period phase) % period = phase := by
  have hmod := Nat.mod_lt now (Nat.zero_lt_of_lt h)
  have hnow := Nat.div_add_mod now period
  have hlt := Nat.mod_lt (phase + period - now % period) (Nat.zero_lt_of_lt h)
  have hreach : (now + (phase + period - now % period) % period) % period = phase := by
    rw [Nat.add_mod_mod, ← Nat.mod_add_mod, show now % period + (phase + period - now % period) = phase + period by omega,
      Nat.add_mod_right, Nat.mod_eq_of_lt h]
  unfold ticksToPhase
  dsimp only
  split
  · rename_i hzero
    rw [hzero, Nat.add_zero] at hreach
    exact ⟨by omega, le_refl _, by rw [Nat.add_mod_right, hreach]⟩
  · exact ⟨by omega, by omega, hreach⟩

/-- A timer's phase has come round, and its event enters the Beam. -/
def State.timTold (s : State) (n : Nat) : State :=
  let u := s.pass (ticksToPhase s.now.toNat (s.f F.TIME_TIM_PERIOD_TICKS n) (s.f F.TIME_TIM_PHASE_TICKS n))
  u.enterBeam (.source (44 + n)) u.time

/-- A timer with events left to count has one less, and stops at its last. -/
def State.timCounted (s : State) (n : Nat) : State :=
  match s.f F.TIME_TIM_COUNT_EVENTS n with
  | 0 => s
  | k + 1 =>
    let u := s.setF F.TIME_TIM_COUNT_EVENTS n k
    if k = 0 then u.setF F.TIME_TIM_CTRL_EN n 0 else u

theorem Kept.timTold (s : State) (n : Nat) : Kept s (s.timTold n) [(.BEAM_SRC_CNT, 44 + n)] [.clock, .beam] :=
  (Kept.pass ..).trans (Kept.enterBeam ..)

theorem State.timTold_time (s : State) (n : Nat) : (s.timTold n).time = s.time +
    BitVec.ofNat 64 (ticksToPhase s.now.toNat (s.f F.TIME_TIM_PERIOD_TICKS n) (s.f F.TIME_TIM_PHASE_TICKS n)) :=
  State.enterBeam_time ..

theorem State.timTold_event (s : State) (n : Nat) : ⟨.source (44 + n), (s.timTold n).time⟩ ∈ (s.timTold n).beam.flight := by
  rw [State.timTold, State.enterBeam_time]
  exact State.mem_enterBeam ..

theorem State.timTold_count (s : State) (n : Nat) :
    (s.timTold n).f F.TIME_TIM_COUNT_EVENTS n = s.f F.TIME_TIM_COUNT_EVENTS n :=
  (Kept.timTold s n).f _ _ rfl (by simp)

theorem Kept.timCounted (s : State) (n : Nat) :
    Kept s (s.timCounted n) [(.TIME_TIM_COUNT, n), (.TIME_TIM_CTRL, n)] [] := by
  unfold State.timCounted
  dsimp only
  split
  · exact Kept.start ..
  · split
    · exact (Kept.setF ..).trans (Kept.setF ..)
    · exact (Kept.setF ..).weaken (by simp) (by simp)

theorem State.timCounted_count (s : State) (n : Nat) :
    (s.timCounted n).f F.TIME_TIM_COUNT_EVENTS n = s.f F.TIME_TIM_COUNT_EVENTS n - 1 := by
  have hlt : s.f F.TIME_TIM_COUNT_EVENTS n < 2 ^ F.TIME_TIM_COUNT_EVENTS.width := fieldOf_lt ..
  cases h : s.f F.TIME_TIM_COUNT_EVENTS n with
  | zero => simp only [State.timCounted, h]
  | succ k =>
    have hset : (s.setF F.TIME_TIM_COUNT_EVENTS n k).f F.TIME_TIM_COUNT_EVENTS n = k := by
      rw [State.f_setF_same _ _ _ _ (by decide), Nat.mod_eq_of_lt (by omega)]
    simp only [State.timCounted, h, Nat.add_sub_cancel]
    split
    · rw [State.f_setF_other _ _ _ _ _ _ (by decide) (.inl (by decide)), hset]
    · exact hset

theorem State.timCounted_en {s : State} {n : Nat} (h : s.f F.TIME_TIM_COUNT_EVENTS n = 1) :
    (s.timCounted n).f F.TIME_TIM_CTRL_EN n = 0 := by
  simp only [State.timCounted, h, if_true]
  rw [State.f_setF_same _ _ _ _ (by decide), Nat.zero_mod]

theorem State.timFire_eq {s : State} {n : Nat} (hn : n < 8) (hen : s.f F.TIME_TIM_CTRL_EN n = 1)
    (hphase : s.f F.TIME_TIM_PHASE_TICKS n < s.f F.TIME_TIM_PERIOD_TICKS n) : s.timFire n = (s.timTold n).timCounted n := by
  have hperiod : max 1 (s.f F.TIME_TIM_PERIOD_TICKS n) = s.f F.TIME_TIM_PERIOD_TICKS n := by omega
  simp only [State.timFire, hperiod]
  rw [if_neg (by simp [hn, hen, hphase, State.on])]
  rfl

theorem Runs.timFire {s : State} {n : Nat} (hs : s.ready = true) (hn : n < 8) (hen : s.f F.TIME_TIM_CTRL_EN n = 1)
    (hphase : s.f F.TIME_TIM_PHASE_TICKS n < s.f F.TIME_TIM_PERIOD_TICKS n) :
    Runs (.timFire n) s fun t =>
      (∃ k, 1 ≤ k ∧ k ≤ s.f F.TIME_TIM_PERIOD_TICKS n ∧ t.time = s.time + BitVec.ofNat 64 k ∧
        (s.now.toNat + k) % s.f F.TIME_TIM_PERIOD_TICKS n = s.f F.TIME_TIM_PHASE_TICKS n) ∧
      t.f F.TIME_TIM_COUNT_EVENTS n = s.f F.TIME_TIM_COUNT_EVENTS n - 1 ∧
      (s.f F.TIME_TIM_COUNT_EVENTS n = 1 → t.f F.TIME_TIM_CTRL_EN n = 0) ∧
      ⟨.source (44 + n), t.time⟩ ∈ t.beam.flight ∧
      Kept s t [(.TIME_TIM_COUNT, n), (.TIME_TIM_CTRL, n), (.BEAM_SRC_CNT, 44 + n)] [.clock, .beam] := by
  have hf := State.timFire_eq hn hen hphase
  have hcounted := Kept.timCounted (s.timTold n) n
  have hk : Kept s (s.timFire n) [(.TIME_TIM_COUNT, n), (.TIME_TIM_CTRL, n), (.BEAM_SRC_CNT, 44 + n)] [.clock, .beam] :=
    hf ▸ ((Kept.timTold s n).trans hcounted).weaken (by simp) (by simp)
  obtain ⟨hone, hmost, hreach⟩ := ticksToPhase_spec s.now.toNat hphase
  refine Runs.of_command (f := (·.timFire n)) rfl hs hk (by decide) (by simp [calmRegs]) fun t _ h hk => ?_
  rw [hf] at h
  have htime : t.time = (s.timTold n).time := (h.time List.not_mem_nil).trans (hcounted.time List.not_mem_nil)
  refine ⟨⟨_, hone, hmost, htime.trans (s.timTold_time n), hreach⟩, ?_, fun hlast => ?_, ?_, hk⟩
  · rw [h.f _ _ rfl List.not_mem_nil, State.timCounted_count, State.timTold_count]
  · rw [h.f _ _ rfl List.not_mem_nil, State.timCounted_en ((s.timTold_count n).trans hlast)]
  · rw [htime, h.beam List.not_mem_nil, hcounted.beam List.not_mem_nil]
    exact s.timTold_event n

-- ------------------------------------------------------------------ software events (R276)

/-- A software event enters on the next tick where it is asked for. -/
def State.enterIf (s : State) (asked : Bool) (o : BeamFrom) : State := if asked then s.enterNext o else s

theorem Kept.enterIf (s : State) (asked : Bool) (o : BeamFrom) : Kept s (s.enterIf asked o) (entryRegs o) [.beam] := by
  cases asked
  · exact Kept.start ..
  · exact Kept.enterNext s o

theorem State.mem_enterIf {s : State} {asked : Bool} (o : BeamFrom) (h : asked = true) :
    ⟨o, s.time + 1⟩ ∈ (s.enterIf asked o).beam.flight := by
  subst h
  exact State.mem_enterNext s o

theorem State.mem_enterIf_of_mem {s : State} {e : BeamEvent} (asked : Bool) (o : BeamFrom) (h : e ∈ s.beam.flight) :
    e ∈ (s.enterIf asked o).beam.flight := by
  cases asked
  · exact h
  · exact State.mem_enterBeam_of_mem h o _

theorem Runs.swEvt {s : State} (data : Word) (hs : s.ready = true) :
    Runs (.swEvt data) s fun t =>
      (data.getLsbD 0 = true → ⟨.source 60, s.time + 1⟩ ∈ t.beam.flight) ∧
      (data.getLsbD 1 = true → ⟨.source 61, s.time + 1⟩ ∈ t.beam.flight) ∧
      Kept s t [(.BEAM_SRC_CNT, 60), (.BEAM_SRC_CNT, 61)] [.beam] := by
  have hf : s.swEvt data = (s.enterIf (data.getLsbD 0) (.source 60)).enterIf (data.getLsbD 1) (.source 61) := rfl
  have hfirst := Kept.enterIf s (data.getLsbD 0) (.source 60)
  have hk : Kept s (s.swEvt data) [(.BEAM_SRC_CNT, 60), (.BEAM_SRC_CNT, 61)] [.beam] :=
    hf ▸ (hfirst.trans (Kept.enterIf ..)).weaken (by simp [entryRegs]) (by simp)
  refine Runs.of_command (f := (·.swEvt data)) rfl hs hk (by decide) (by simp [calmRegs]) fun t _ h hk =>
    ⟨fun h0 => ?_, fun h1 => ?_, hk⟩
  · rw [h.beam List.not_mem_nil, hf]
    exact State.mem_enterIf_of_mem _ _ (State.mem_enterIf _ h0)
  · rw [h.beam List.not_mem_nil, hf, ← hfirst.time (by decide)]
    exact State.mem_enterIf _ h1

-- ------------------------------------------------------------------ the sources of the Beam

/-- Settles O2, a clause for each command: the tick a unit fires on, what its registers then hold, and its event. -/
theorem beamSources : Obligations.BeamSources := by
  unfold Obligations.BeamSources
  exact ⟨fun s n => Runs.cmpFire_once, fun s n => Runs.cmpFire_again, fun s n => Runs.timFire, fun s data => Runs.swEvt data⟩

end Sys2Proof.Machine
end

section
/-! PROOF. A notice that is taken makes room in the CS-F of the NI its header names (R259), which need not be the NI at which it was
found, and a packet that waited there goes on. -/

namespace Sys2Proof.Machine

/-- A TIMEOUT notice (R287) whose header names the NI of core 1. -/
def strayNotice : Packet :=
  { cmd := .evt, src := 0x9B, dest := 0x95, tag := 0, record := 0, err := 0, attr := 0, addr := 0, len := 0, beFirst := 0, beLast := 0
    operand := 0x202, injTime := 0, route := 0, vn := 3, prio := 0, data := [], poison := false }

/-- TIMEOUT is under way to core 0, participant 38. The notice stands in the CS-F of its NI, by a route that leads there, and the CS-F
of core 1 is full of such notices, with one more before it. -/
def strayNotices : State :=
  let s := (descriptorPosted.setF F.DEV_XS_STATE_STATE 0x95 0).putRecord { descriptorPosted.record with told := [38] }
  (s.setNi 0x94 { niInit with csf := { csfInit with down := [(strayNotice, .clean)] } }).setNi 0x95
    { niInit with arrived := [(strayNotice, .clean)], csf := { csfInit with down := List.replicate 16 (strayNotice, .clean) } }

/-- The packet that waited crosses, and the work of the command lets the descriptor fetch of host DMA channel 0 go out. -/
theorem hostReads_timeoutNotice : hostReads (exec (.timeoutNotice 38) strayNotices) ≠ strayNotices.host.reads.length := by
  decide +kernel

theorem strayNotices_arrived : ∀ n, partNi 38 = some n → (strayNotices.ni n).arrived = [] := by
  rintro n ⟨⟩
  decide +kernel

/-- Refutes O5: taking the notices at the NI of core 0 makes room at that of core 1, so a packet that waited there crosses, and the
descriptor of host DMA channel 0 is fetched with it. The statement asks nothing of the destinations of the packets at an NI. -/
theorem not_noticesLand : ¬ Obligations.NoticesLand := by
  unfold Obligations.NoticesLand
  rintro ⟨-, -, htold, -⟩
  obtain ⟨t, ht, -, hk⟩ := htold strayNotices 38 (by decide +kernel) strayNotices_arrived (by decide +kernel) (by decide) (by decide)
    (by decide)
  exact hostReads_timeoutNotice (hostReads_of_kept ht hk (by decide))

end Sys2Proof.Machine
end

section
/-! PROOF. A telegram's bits as half-bits of 15 ticks, and how a receiver reads them from the changes it registers (R300). -/

namespace Sys2Proof.Machine

-- ------------------------------------------------------------------ the bits of a number

/-- The low w bits of a number, the highest first. -/
def msbBits (w x : Nat) : List Bool := (List.range w).map fun i => x.testBit (w - 1 - i)

/-- A list of bits, the highest first, as a number that goes on from v. -/
def bitsFrom (v : Nat) (bs : List Bool) : Nat := bs.foldl (fun v b => 2 * v + (if b then 1 else 0)) v

theorem msbBits_succ (w x : Nat) : msbBits (w + 1) x = x.testBit w :: msbBits w x := by
  simp only [msbBits, List.range_succ_eq_map, List.map_cons, List.map_map, Nat.add_sub_cancel, Nat.sub_zero, List.cons.injEq,
    true_and]
  exact List.map_congr_left fun i _ => by rw [Function.comp_apply, show w - (i + 1) = w - 1 - i by omega]

@[simp] theorem length_msbBits (w x : Nat) : (msbBits w x).length = w := by simp [msbBits]

theorem bitsFrom_msbBits (w x : Nat) : ∀ v, bitsFrom v (msbBits w x) = v * 2 ^ w + x % 2 ^ w := by
  induction w with
  | zero => intro v; simp [msbBits, bitsFrom, Nat.mod_one]
  | succ w ih =>
    intro v
    have hhead : bitsFrom v (msbBits (w + 1) x) = bitsFrom (2 * v + (x.testBit w).toNat) (msbBits w x) := by
      rw [msbBits_succ]
      cases x.testBit w <;> rfl
    rw [hhead, ih, Nat.mod_pow_succ, ← Nat.toNat_testBit, Nat.pow_succ]
    ring

-- ------------------------------------------------------------------ the check bits (R300)

theorem crc4_lt (d : BitVec 16) : crc4 d < 2 ^ 4 := by
  have hstep (c : Nat) (b : Bool) : crc4Step c b < 2 ^ 4 := by
    unfold crc4Step
    exact Nat.xor_lt_two_pow (Nat.mod_lt _ (by decide)) (by split <;> decide)
  rw [crc4, List.range_succ, List.foldl_append]
  exact hstep ..

/-- The bits of a telegram after its start bit: the data, and the check bits. -/
def bitsSent (d : BitVec 16) : List Bool := msbBits 16 d.toNat ++ msbBits 4 (crc4 d)

theorem telegramBits_eq (d : BitVec 16) : telegramBits d = true :: bitsSent d := rfl

-- ------------------------------------------------------------------ half-bits and the changes between them (R300)

/-- The half-bits of a list of bits. -/
def halvesOf (bs : List Bool) : List Bool := bs.foldr (fun b rest => (!b) :: b :: rest) []

/-- The ticks between the changes of a line that carries bits after a bit b, from the middle of that bit: another b takes a change
between the bits and one in its middle, the other bit the one in its middle. -/
def gapsAfter : Bool → List Bool → List Nat
  | _, [] => []
  | b, b' :: bs => if b' = b then 15 :: 15 :: gapsAfter b' bs else 30 :: gapsAfter b' bs

theorem runsOf_cons_ne_nil (b : Bool) (l : List Bool) : runsOf (b :: l) ≠ [] := by
  unfold runsOf
  split
  · split <;> exact List.cons_ne_nil _ _
  · exact List.cons_ne_nil _ _

theorem runsOf_cons_same (b : Bool) (l : List Bool) {n : Nat} {ns : List Nat} (h : runsOf (b :: l) = n :: ns) :
    runsOf (b :: b :: l) = (n + 1) :: ns := by
  unfold runsOf
  rw [h]
  exact if_pos rfl

theorem runsOf_cons_other {b b' : Bool} (l : List Bool) (hne : b ≠ b') : runsOf (b :: b' :: l) = 1 :: runsOf (b' :: l) := by
  obtain ⟨n, ns, h⟩ := List.exists_cons_of_ne_nil (runsOf_cons_ne_nil b' l)
  rw [h]
  unfold runsOf
  rw [h]
  exact if_neg hne

/-- The runs of half-bits after the middle of a bit are the gaps between the changes. -/
theorem runsOf_halvesOf (bs : List Bool) : ∀ b, (runsOf (b :: halvesOf bs)).dropLast.map (15 * ·) = gapsAfter b bs := by
  induction bs with
  | nil => exact fun _ => rfl
  | cons b' bs ih =>
    intro b
    have hne := runsOf_cons_ne_nil b' (halvesOf bs)
    have hmid : runsOf ((!b') :: b' :: halvesOf bs) = 1 :: runsOf (b' :: halvesOf bs) := runsOf_cons_other _ (Bool.not_ne_self b')
    show (runsOf (b :: (!b') :: b' :: halvesOf bs)).dropLast.map (15 * ·) = _
    by_cases h : b' = b
    · rw [runsOf_cons_other _ (h ▸ (Bool.not_ne_self b').symm), hmid, List.dropLast_cons_of_ne_nil (List.cons_ne_nil _ _),
        List.dropLast_cons_of_ne_nil hne, gapsAfter, if_pos h, ← ih b']
      rfl
    · obtain rfl : b = !b' := Bool.eq_not.2 (Ne.symm h)
      rw [runsOf_cons_same _ _ hmid, List.dropLast_cons_of_ne_nil hne, gapsAfter, if_neg h, ← ih b']
      rfl

theorem sentGaps_eq (d : BitVec 16) : sentGaps d = gapsAfter true (bitsSent d) := by
  rw [sentGaps, halfBits, telegramBits_eq]
  exact runsOf_halvesOf (bitsSent d) true

theorem gapsAfter_long (bs : List Bool) : ∀ b, (gapsAfter b bs).any (· < 12) = false := by
  induction bs with
  | nil => exact fun _ => rfl
  | cons b' bs ih =>
    intro b
    unfold gapsAfter
    split <;> simp [ih]

/-- The change in the middle of the next bit comes 30 ticks on, after one that comes 15 ticks on at the latest. -/
theorem changesOf_gapsAfter_cons (t : Nat) (b b' : Bool) (bs : List Bool) :
    ∃ early : List (Nat × Bool), (∀ e ∈ early, e.1 ≤ t + 15) ∧
      changesOf t b (gapsAfter b (b' :: bs)) = early ++ (t + 30, b') :: changesOf (t + 30) b' (gapsAfter b' bs) := by
  by_cases h : b' = b
  · subst h
    exact ⟨[(t + 15, !b')], by simp, by simp [gapsAfter, changesOf]⟩
  · obtain rfl : b = !b' := Bool.eq_not.2 (Ne.symm h)
    exact ⟨[], by simp, by simp [gapsAfter, changesOf]⟩

/-- From the middle of a bit on, the bits that follow are read, whatever changes were before (R300). -/
theorem bitsAfter_gapsAfter (bs : List Bool) : ∀ (before : List (Nat × Bool)) (t : Nat) (b : Bool), (∀ e ∈ before, e.1 ≤ t) →
    bitsAfter (before ++ changesOf t b (gapsAfter b bs)) t bs.length = some bs := by
  induction bs with
  | nil => exact fun _ _ _ _ => rfl
  | cons b' bs ih =>
    intro before t b hbefore
    obtain ⟨early, hearly, hchanges⟩ := changesOf_gapsAfter_cons t b b' bs
    have hpast : ∀ e ∈ before ++ early, e.1 ≤ t + 15 := fun e he =>
      (List.mem_append.1 he).elim (fun h => (hbefore e h).trans (Nat.le_add_right ..)) (hearly e)
    have hnone : (before ++ early).find? (fun e => decide (t + 26 ≤ e.1 ∧ e.1 ≤ t + 34)) = none :=
      List.find?_eq_none.2 fun e he => by
        have := hpast e he
        simp only [decide_eq_true_eq]
        omega
    have hrest := ih (before ++ early ++ [(t + 30, b')]) (t + 30) b' fun e he =>
      (List.mem_append.1 he).elim (fun h => (hpast e h).trans (by omega)) fun h => by simp [List.mem_singleton.1 h]
    rw [List.append_assoc, List.singleton_append, List.append_assoc] at hrest
    rw [hchanges, ← List.append_assoc, List.length_cons, bitsAfter, List.find?_append, hnone]
    simp [hrest]

/-- A telegram whose gaps are long enough and whose bits are read is good when its check bits are those of its data (R300). -/
theorem goodTelegram_of_bits {gaps : List Nat} {bits : List Bool} {d : BitVec 16} (hlong : gaps.any (· < 12) = false)
    (hbits : bitsAfter (changesOf 0 true gaps) 0 20 = some bits) (hdata : BitVec.ofNat 16 (bitsFrom 0 (bits.take 16)) = d)
    (hcheck : bitsFrom 0 (bits.drop 16) = crc4 d) : goodTelegram gaps = some d := by
  subst hdata
  unfold goodTelegram
  rw [if_neg (by simp only [hlong, Bool.false_eq_true, not_false_eq_true]), hbits]
  exact if_pos hcheck

/-- A telegram is received as it was sent (R300). -/
theorem goodTelegram_sentGaps (d : BitVec 16) : goodTelegram (sentGaps d) = some d := by
  have hsent : (bitsSent d).length = 20 := by simp [bitsSent]
  have hbits := bitsAfter_gapsAfter (bitsSent d) [] 0 true (by simp)
  rw [hsent, List.nil_append, ← sentGaps_eq] at hbits
  refine goodTelegram_of_bits (sentGaps_eq d ▸ gapsAfter_long ..) hbits ?_ ?_
  · rw [bitsSent, List.take_left' (length_msbBits ..), bitsFrom_msbBits, Nat.zero_mul, Nat.zero_add, Nat.mod_eq_of_lt d.isLt,
      BitVec.ofNat_toNat, BitVec.setWidth_eq]
  · rw [bitsSent, List.drop_left' (length_msbBits ..), bitsFrom_msbBits, Nat.zero_mul, Nat.zero_add, Nat.mod_eq_of_lt (crc4_lt d)]

end Sys2Proof.Machine
end

section
/-! PROOF. Telegrams, receivers, assertions and faults of the lines of the chassis trigger bus (R297 to R304). -/

namespace Sys2Proof.Machine

-- ------------------------------------------------------------------ a line and TIME after an update

@[simp] theorem State.line_setLine (s : State) (n : Nat) (v : Line) : (s.setLine n v).line n = v := Sparse.get_set_same ..

section
variable {s t : State} {R : Regs} {A : List Area}

theorem Kept.tbus (h : Kept s t R A) (hA : Area.tbus ∉ A) : t.tbus = s.tbus := h.areas .tbus hA

theorem Kept.line (h : Kept s t R A) (hA : Area.tbus ∉ A) (n : Nat) : t.line n = s.line n := by
  rw [State.line, h.tbus hA, State.line]

theorem Kept.on (h : Kept s t R A) (G : Fld) (i : Nat) (hp : isPend G.reg = false) (hr : (G.reg, i) ∉ R) : t.on G i = s.on G i := by
  rw [State.on, h.f G i hp hr, State.on]

end

theorem State.advanceTo_time_ahead {s : State} {x : DWord} (h : s.time.toNat < x.toNat) : (s.advanceTo x).time = x := by
  rw [State.advanceTo, if_pos h]
  rfl

theorem State.advanceTo_time_congr {s t : State} (h : t.time = s.time) (x : DWord) : (t.advanceTo x).time = (s.advanceTo x).time := by
  unfold State.advanceTo
  rw [h]
  split
  · rfl
  · exact h

/-- TIME comes to a tick that is not past. -/
theorem State.advanceTo_ofNat_time {s : State} {w : Nat} (hle : s.time.toNat ≤ w) (hw : w < 2 ^ 64) :
    (s.advanceTo (BitVec.ofNat 64 w)).time = BitVec.ofNat 64 w := by
  rcases hle.lt_or_eq with hlt | rfl
  · exact State.advanceTo_time_ahead (by rwa [BitVec.toNat_ofNat, Nat.mod_eq_of_lt hw])
  · simp [State.advanceTo]

-- ------------------------------------------------------------------ the start of a telegram (R301, R302)

theorem Kept.takeTokens (s : State) (n k : Nat) : Kept s (s.takeTokens n k) [(.TBUS_CNT_TX, n)] [.tbus] :=
  (Kept.setLine ..).trans (Kept.setF ..)

theorem State.takeTokens_time (s : State) (n k : Nat) : (s.takeTokens n k).time = s.time := (Kept.takeTokens s n k).time (by decide)

theorem State.takeTokens_assertions (s : State) (n k : Nat) :
    (s.takeTokens n k).f F.TBUS_CNT_TX_ASSERTIONS n = (s.f F.TBUS_CNT_TX_ASSERTIONS n + k) % 2 ^ 32 :=
  (State.f_setF_same _ F.TBUS_CNT_TX_ASSERTIONS n _ (by decide)).trans (Nat.mod_mod ..)

theorem Kept.telegramStart (s : State) (n : Nat) (g : Telegram) :
    Kept s (s.telegramStart n g) [(.TBUS_CNT_TX, n)] [.tbus] :=
  (Kept.takeTokens ..).via (Kept.setLine ..) (by simp) (by simp)

/-- What t shows of a telegram that line n of s has started. -/
structure TelegramShown (s t : State) (n : Nat) (d : BitVec 16) (resends : Nat) : Prop where
  telegram : (t.line n).telegram = some ⟨d, some s.time, resends, false⟩
  assertions : t.f F.TBUS_CNT_TX_ASSERTIONS n = (s.f F.TBUS_CNT_TX_ASSERTIONS n + telegramTokens d) % 2 ^ 32

theorem TelegramShown.of_kept {s t : State} {n r : Nat} {d : BitVec 16} {again : Bool}
    (h : Kept (s.telegramStart n ⟨d, none, r, again⟩) t [] []) : TelegramShown s t n d (r + if again then 1 else 0) where
  telegram := by
    rw [h.line List.not_mem_nil]
    simp only [State.telegramStart, State.line_setLine, State.takeTokens_time]
  assertions := by
    rw [h.f _ _ rfl List.not_mem_nil]
    simp only [State.telegramStart, State.setLine_f, State.takeTokens_assertions]

/-- A telegram waits for TIME to reach its tick at least. -/
theorem State.time_le_telegramReady {s : State} {n backoff w : Nat} {d : BitVec 16} (h : s.telegramReady n backoff d = some w) :
    s.time.toNat ≤ w := by
  unfold State.telegramReady at h
  split at h
  · cases h
  · obtain rfl := Option.some.inj h
    exact (Nat.le_max_right ..).trans (Nat.le_max_left ..)

section
variable {s t : State} (n : Nat) (hline : t.line n = s.line n) (htime : t.time = s.time)
  (hw : ∀ r i, r ≠ .TBUS_TX_DATA → t.word r i = s.word r i)
include hw

theorem State.minWidth_congr : t.minWidth n = s.minWidth n := by simp [State.minWidth, State.govFw, State.f, hw]

theorem State.depth_congr : t.depth n = s.depth n := by simp [State.depth, State.govFw, State.f, hw]

theorem State.tokenPeriod_congr : t.tokenPeriod n = s.tokenPeriod n := by simp [State.tokenPeriod, State.govFw, State.f, hw]

theorem State.mayDrive_congr : t.mayDrive n = s.mayDrive n := by
  have hf (G : Fld) (i : Nat) (hG : G.reg ≠ .TBUS_TX_DATA) : t.f G i = s.f G i := by rw [State.f, hw _ _ hG, State.f]
  simp [State.mayDrive, State.on, hf]

theorem State.unsendable_congr (d : BitVec 16) : t.unsendable n d = s.unsendable n d := by
  rw [State.unsendable, State.minWidth_congr n hw, State.depth_congr n hw, State.unsendable]

include hline

theorem State.lineHold_congr : t.lineHold n = s.lineHold n := by simp [State.lineHold, State.f, hline, hw]

theorem State.lockedOut_congr : t.lockedOut n = s.lockedOut n := by simp [State.lockedOut, State.on, State.f, hline, hw]

include htime

/-- When a telegram may start says nothing of TX_DATA. -/
theorem State.telegramReady_congr (backoff : Nat) (d : BitVec 16) : t.telegramReady n backoff d = s.telegramReady n backoff d := by
  have hlevel : t.on F.TBUS_LINE_STATUS_LEVEL n = s.on F.TBUS_LINE_STATUS_LEVEL n := by simp [State.on, State.f, hw]
  unfold State.telegramReady
  rw [hlevel, hline, htime, State.mayDrive_congr n hw, State.lockedOut_congr n hline hw, State.lineHold_congr n hline hw,
    State.tokenPeriod_congr n hw]

end

/-- SEND starts a telegram for which step 1 of R301 is met. -/
theorem State.lineSend_ready {s : State} {n : Nat} (hn : n < 16) (hmode : (s.lineHold n).mode = 3) (hfree : (s.line n).telegram = none)
    (hfits : s.unsendable n (BitVec.ofNat 16 (s.f F.TBUS_TX_DATA_DATA n)) = false)
    (hready : s.telegramReady n 0 (BitVec.ofNat 16 (s.f F.TBUS_TX_DATA_DATA n)) = some s.time.toNat) :
    s.lineSend n =
      (s.raise F.TBUS_TX_DATA_SEND n).telegramStart n ⟨BitVec.ofNat 16 (s.f F.TBUS_TX_DATA_DATA n), none, 0, false⟩ := by
  have hword : ∀ r i, r ≠ .TBUS_TX_DATA → (s.raise F.TBUS_TX_DATA_SEND n).word r i = s.word r i := fun r i hr => by
    rw [State.word_raise, if_neg fun h => hr h.1]
  have hdata : (s.raise F.TBUS_TX_DATA_SEND n).f F.TBUS_TX_DATA_DATA n = s.f F.TBUS_TX_DATA_DATA n :=
    State.f_setF_other _ _ _ _ _ _ (by decide) (.inr (.inr (.inl (by decide))))
  have hraise := Kept.raise s F.TBUS_TX_DATA_SEND n
  have hline := hraise.line List.not_mem_nil n
  have htime := hraise.time List.not_mem_nil
  rw [State.lineSend, if_neg (by simp [hn, hmode, hfree]), State.telegramAsk]
  simp only [hdata]
  rw [State.unsendable_congr n hword, hfits, if_neg Bool.false_ne_true, State.telegramReady_congr n hline htime hword, hready, htime,
    if_pos rfl]

theorem Runs.send {s : State} {n : Nat} (hs : s.ready = true) (hn : n < 16) (hmode : (s.lineHold n).mode = 3)
    (hfree : (s.line n).telegram = none) (hfits : s.unsendable n (BitVec.ofNat 16 (s.f F.TBUS_TX_DATA_DATA n)) = false)
    (hready : s.telegramReady n 0 (BitVec.ofNat 16 (s.f F.TBUS_TX_DATA_DATA n)) = some s.time.toNat) :
    Runs (.send n) s fun t =>
      t.f F.TBUS_TX_DATA_SEND n = 1 ∧
      (t.line n).telegram = some ⟨BitVec.ofNat 16 (s.f F.TBUS_TX_DATA_DATA n), some s.time, 0, false⟩ ∧
      t.f F.TBUS_CNT_TX_ASSERTIONS n = (s.f F.TBUS_CNT_TX_ASSERTIONS n +
        telegramTokens (BitVec.ofNat 16 (s.f F.TBUS_TX_DATA_DATA n))) % 2 ^ 32 ∧
      Kept s t [(.TBUS_TX_DATA, n), (.TBUS_CNT_TX, n)] [.tbus] := by
  have hf := State.lineSend_ready hn hmode hfree hfits hready
  have hraise := Kept.raise s F.TBUS_TX_DATA_SEND n
  have hk : Kept s (s.lineSend n) [(.TBUS_TX_DATA, n), (.TBUS_CNT_TX, n)] [.tbus] := hf ▸ hraise.trans (Kept.telegramStart ..)
  refine Runs.of_command (f := (·.lineSend n)) rfl hs hk (by decide) (by simp [calmRegs]) fun t _ h hk => ?_
  rw [hf] at h
  have hshown := TelegramShown.of_kept h
  refine ⟨?_, ?_, ?_, hk⟩
  · rw [((Kept.telegramStart ..).trans h).f _ _ rfl (by simp), State.f_raise_same _ _ _ (by decide) (by decide)]
  · rw [hshown.telegram, hraise.time List.not_mem_nil]
    rfl
  · rw [hshown.assertions, hraise.f _ _ rfl (by simp)]

theorem State.telegramGo_ready {s : State} {n backoff w r : Nat} {again : Bool} {d : BitVec 16}
    (hwaits : (s.line n).telegram = some ⟨d, none, r, again⟩) (hfits : s.unsendable n d = false)
    (hready : s.telegramReady n backoff d = some w) :
    s.telegramGo n backoff again = (s.advanceTo (BitVec.ofNat 64 w)).telegramStart n ⟨d, none, r, again⟩ := by
  simp [State.telegramGo, hwaits, hfits, hready]

/-- A telegram that waits starts on the tick that step 1 of R301 gives, for the first time or again. -/
theorem Runs.telegramGo {c : Instr} {s : State} {n backoff w r : Nat} {again : Bool} {d : BitVec 16}
    (hc : exec c s = s.command (·.telegramGo n backoff again)) (hs : s.ready = true)
    (hwaits : (s.line n).telegram = some ⟨d, none, r, again⟩) (hfits : s.unsendable n d = false)
    (hready : s.telegramReady n backoff d = some w) (hw : w < 2 ^ 64) :
    Runs c s fun t =>
      t.time = BitVec.ofNat 64 w ∧ (t.line n).telegram = some ⟨d, some t.time, r + (if again then 1 else 0), false⟩ ∧
      t.f F.TBUS_CNT_TX_ASSERTIONS n = (s.f F.TBUS_CNT_TX_ASSERTIONS n + telegramTokens d) % 2 ^ 32 ∧
      Kept s t [(.TBUS_CNT_TX, n)] [.clock, .tbus] := by
  have hf := State.telegramGo_ready hwaits hfits hready
  have hadvance := Kept.advanceTo s (BitVec.ofNat 64 w)
  refine Runs.of_command hc hs (hf ▸ hadvance.trans (Kept.telegramStart ..)) (by decide) (by simp [calmRegs]) fun t _ h hk => ?_
  rw [hf] at h
  have hshown := TelegramShown.of_kept h
  have htime : t.time = (s.advanceTo (BitVec.ofNat 64 w)).time := ((Kept.telegramStart ..).trans h).time (by decide)
  refine ⟨htime.trans (State.advanceTo_ofNat_time (State.time_le_telegramReady hready) hw), ?_, ?_, hk⟩
  · rw [hshown.telegram, htime]
  · rw [hshown.assertions, hadvance.f _ _ rfl List.not_mem_nil]

-- ------------------------------------------------------------------ the ledger entry of a line, and its collisions (R301, R304)

theorem Kept.lineEntry (s : State) (n : Nat) : Kept s (s.lineEntry n) [] [.tbus, .ledger] := by
  unfold State.lineEntry
  dsimp only
  split
  · exact Kept.start ..
  · exact (Kept.setLine ..).trans (Kept.journalEvent ..)

/-- An entry of R304 changes of its line only when it was last told. -/
theorem State.line_lineEntry (s : State) (n : Nat) : ∃ told, (s.lineEntry n).line n = { s.line n with told } := by
  unfold State.lineEntry
  dsimp only
  split
  · exact ⟨(s.line n).told, rfl⟩
  · exact ⟨some s.time, ((Kept.journalEvent ..).line (by decide) n).trans (State.line_setLine ..)⟩

theorem Kept.lineCollision (s : State) (n : Nat) :
    Kept s (s.lineCollision n) [(.TBUS_LINE_STATUS, n), (.TBUS_CNT_EXC, n)] [.tbus, .ledger] :=
  ((Kept.raise ..).trans (Kept.bump ..)).trans (Kept.lineEntry ..)

theorem State.line_lineCollision (s : State) (n : Nat) : ∃ told, (s.lineCollision n).line n = { s.line n with told } :=
  State.line_lineEntry ..

theorem State.lineCollision_flag (s : State) (n : Nat) : (s.lineCollision n).f F.TBUS_LINE_STATUS_COLLISION n = 1 := by
  rw [State.lineCollision, ((Kept.bump ..).trans (Kept.lineEntry ..)).f _ _ rfl (by simp),
    State.f_raise_same _ _ _ (by decide) (by decide)]

theorem State.lineCollision_count (s : State) (n : Nat) :
    (s.lineCollision n).f F.TBUS_CNT_EXC_COLL n = s.counted F.TBUS_CNT_EXC_COLL n 1 := by
  rw [State.lineCollision, (Kept.lineEntry ..).f _ _ rfl (by simp), State.f_bump_same _ _ _ _ (by decide), State.counted,
    (Kept.raise ..).f _ _ rfl (by simp), State.counted]

/-- A telegram has stopped in a half-bit, and waits to be sent again: its unused tokens are given back. -/
def State.telegramStopped (s : State) (n half r : Nat) (d : BitVec 16) : State :=
  let unused := telegramTokens d - risesIn false ((halfBits d).take (half + 1))
  let v := s.line n
  let s := s.setLine n { v with
    tokens := v.tokens + unused, hold := none, released := some s.time, telegram := some ⟨d, none, r, true⟩ }
  s.setF F.TBUS_CNT_TX_ASSERTIONS n ((s.f F.TBUS_CNT_TX_ASSERTIONS n + 2 ^ 32 - unused) % 2 ^ 32)

theorem Kept.telegramStopped (s : State) (n half r : Nat) (d : BitVec 16) :
    Kept s (s.telegramStopped n half r d) [(.TBUS_CNT_TX, n)] [.tbus] := (Kept.setLine ..).trans (Kept.setF ..)

theorem State.line_telegramStopped (s : State) (n half r : Nat) (d : BitVec 16) :
    (s.telegramStopped n half r d).line n = { s.line n with
      tokens := (s.line n).tokens + (telegramTokens d - risesIn false ((halfBits d).take (half + 1)))
      hold := none, released := some s.time, telegram := some ⟨d, none, r, true⟩ } :=
  ((Kept.setF ..).line List.not_mem_nil n).trans (State.line_setLine ..)

/-- A collision that leaves a resend. -/
theorem State.telegramCollides_again {s : State} {n half r : Nat} {d : BitVec 16} {t0 : DWord}
    (hsent : (s.line n).telegram = some ⟨d, some t0, r, false⟩) (hr : r < s.f F.TBUS_LINE_TIMING_RETRY n) :
    s.telegramCollides n half =
      ((s.advanceTo (t0 + BitVec.ofNat 64 (3 + 15 * half))).telegramStopped n half r d).lineCollision n := by
  set u := s.advanceTo (t0 + BitVec.ofNat 64 (3 + 15 * half))
  have hretry : ((u.telegramStopped n half r d).lineCollision n).f F.TBUS_LINE_TIMING_RETRY n = s.f F.TBUS_LINE_TIMING_RETRY n :=
    (((Kept.advanceTo ..).trans (Kept.telegramStopped ..)).trans (Kept.lineCollision ..)).f _ _ rfl (by simp)
  simp only [State.telegramCollides, hsent]
  exact if_neg (by rw [← hretry] at hr; exact Nat.not_le.2 hr)

theorem Runs.collision {s : State} {n half r : Nat} {d : BitVec 16} {t0 : DWord} (hs : s.ready = true)
    (hsent : (s.line n).telegram = some ⟨d, some t0, r, false⟩) (hhalf : half < 42) (hr : r < s.f F.TBUS_LINE_TIMING_RETRY n) :
    Runs (.collision n half) s fun t =>
      (t.line n).telegram = some ⟨d, none, r, true⟩ ∧ (t.line n).released = some t.time ∧
      (t.line n).tokens = (s.line n).tokens + (telegramTokens d - risesIn false ((halfBits d).take (half + 1))) ∧
      t.f F.TBUS_LINE_STATUS_COLLISION n = 1 ∧ t.f F.TBUS_CNT_EXC_COLL n = s.counted F.TBUS_CNT_EXC_COLL n 1 ∧
      Kept s t [(.TBUS_LINE_STATUS, n), (.TBUS_CNT_EXC, n), (.TBUS_CNT_TX, n)] [.clock, .tbus, .ledger] := by
  have hf := State.telegramCollides_again (half := half) hsent hr
  set u := s.advanceTo (t0 + BitVec.ofNat 64 (3 + 15 * half))
  have hadvance : Kept s u [] [.clock] := Kept.advanceTo ..
  have hstop := Kept.telegramStopped u n half r d
  have hcollide := Kept.lineCollision (u.telegramStopped n half r d) n
  have hk : Kept s (s.telegramCollides n half) [(.TBUS_LINE_STATUS, n), (.TBUS_CNT_EXC, n), (.TBUS_CNT_TX, n)]
      [.clock, .tbus, .ledger] := hf ▸ ((hadvance.trans hstop).trans hcollide).weaken (by simp) (by simp)
  refine Runs.of_command (f := (·.telegramCollides n half)) ?_ hs hk (by decide) (by simp [calmRegs]) fun t _ h hk => ?_
  · rw [exec_collision, execCollision, Nat.mod_eq_of_lt hhalf]
  rw [hf] at h
  obtain ⟨told, htold⟩ := State.line_lineCollision (u.telegramStopped n half r d) n
  have hline := (h.line List.not_mem_nil n).trans htold
  rw [State.line_telegramStopped, hadvance.line (by decide)] at hline
  have htime : t.time = u.time := (((hstop.trans hcollide).trans h).time (by decide))
  refine ⟨by rw [hline], by rw [hline, htime], by rw [hline], ?_, ?_, hk⟩
  · rw [h.f _ _ rfl List.not_mem_nil, State.lineCollision_flag]
  · rw [h.f _ _ rfl List.not_mem_nil, State.lineCollision_count, State.counted, (hadvance.trans hstop).f _ _ rfl (by simp),
      State.counted]

-- ------------------------------------------------------------------ the end of a telegram (R300, R301)

/-- A telegram has been sent: the line is free, and SEND reads 0. -/
def State.telegramEnded (s : State) (n : Nat) : State :=
  (s.setLine n { s.line n with telegram := none, hold := none, released := some s.time }).setF F.TBUS_TX_DATA_SEND n 0

theorem Kept.telegramEnded (s : State) (n : Nat) : Kept s (s.telegramEnded n) [(.TBUS_TX_DATA, n)] [.tbus] :=
  (Kept.setLine ..).trans (Kept.setF ..)

theorem State.line_telegramEnded (s : State) (n : Nat) :
    (s.telegramEnded n).line n = { s.line n with telegram := none, hold := none, released := some s.time } :=
  ((Kept.setF ..).line List.not_mem_nil n).trans (State.line_setLine ..)

theorem Runs.telegramSent {s : State} {n r : Nat} {d : BitVec 16} {t0 : DWord} (hs : s.ready = true)
    (hsent : (s.line n).telegram = some ⟨d, some t0, r, false⟩) :
    Runs (.telegramSent n) s fun t =>
      (t.line n).telegram = none ∧ (t.line n).released = some t.time ∧
      (s.time.toNat < (t0 + 633).toNat → t.time = t0 + 633) ∧
      t.word .TBUS_TX_DATA n = changed (s.word .TBUS_TX_DATA n) [(F.TBUS_TX_DATA_SEND, 0)] ∧
      Kept s t [(.TBUS_TX_DATA, n)] [.clock, .tbus] := by
  have hf : s.telegramSent n = (s.advanceTo (t0 + 633)).telegramEnded n := by
    simp only [State.telegramSent, hsent]
    rfl
  have hadvance := Kept.advanceTo s (t0 + 633)
  have hended := Kept.telegramEnded (s.advanceTo (t0 + 633)) n
  refine Runs.of_command (f := (·.telegramSent n)) rfl hs (hf ▸ hadvance.trans hended) (by decide) (by simp [calmRegs])
    fun t hw h hk => ?_
  rw [hf] at h
  have hline := (h.line List.not_mem_nil n).trans (State.line_telegramEnded ..)
  have htime : t.time = (s.advanceTo (t0 + 633)).time := (hended.trans h).time (by decide)
  refine ⟨by rw [hline], by rw [hline, htime], fun hlt => htime.trans (State.advanceTo_time_ahead hlt), ?_, hk⟩
  rw [hw _ _ rfl, hf, State.telegramEnded, State.word_setF]
  simp [changed]

-- ------------------------------------------------------------------ receivers (R297, R298)

theorem firstRegistered_short {filt : Nat} (level : Bool) {xs : List (BitVec 3)} (h : xs.length ≤ filt) :
    firstRegistered filt level xs = none := by
  induction xs with
  | nil => rfl
  | cons x xs ih =>
    have hshort : ((x :: xs).take (filt + 1)).length ≠ filt + 1 := by
      rw [List.length_take]
      omega
    rw [firstRegistered, ih ((Nat.le_succ _).trans h), decide_eq_false hshort]
    rfl

theorem firstRegistered_steady {filt : Nat} {level : Bool} {xs : List (BitVec 3)} (hlen : xs.length = filt + 1)
    (hall : (xs.all fun x => tickSample x == level) = true) : firstRegistered filt level xs = some 0 := by
  cases xs with
  | nil => cases hlen
  | cons x xs =>
    have htake : (x :: xs).take (filt + 1) = x :: xs := List.take_of_length_le hlen.le
    rw [firstRegistered, htake, hall, hlen, decide_eq_true rfl]
    rfl

theorem State.registers_short {s : State} {n : Nat} {xs : List (BitVec 3)} (h : xs.length ≤ s.f F.TBUS_LINE_CTRL_FILT n) :
    s.registers n xs = none := by
  rw [State.registers, firstRegistered_short _ h]
  rfl

section
variable {s : State} {n : Nat} {level : Bool} {xs : List (BitVec 3)}
  (hlevel : s.f F.TBUS_LINE_STATUS_LEVEL n = (if level then 0 else 1)) (hlen : xs.length = s.f F.TBUS_LINE_CTRL_FILT n + 1)
  (hall : (xs.all fun x => tickSample x == level) = true)
include hlevel hlen hall

/-- A new level that all samples show is registered at the last of them. -/
theorem State.registers_steady : s.registers n xs = some (level, s.time.toNat) := by
  have hnew : (!s.on F.TBUS_LINE_STATUS_LEVEL n) = level := by cases level <;> simp [State.on, hlevel]
  simp only [State.registers, hnew, firstRegistered_steady hlen hall, Option.map_some, Option.some.injEq, Prod.mk.injEq, true_and]
  omega

end

/-- A receiver has registered a level now. -/
def State.levelShown (s : State) (n : Nat) (level : Bool) : State :=
  let u := s.setF F.TBUS_LINE_STATUS_LEVEL n level.toNat
  u.setLine n { s.line n with
    since := s.time, foreignAt := if level && !u.ownDrives n s.time.toNat then some s.time else (s.line n).foreignAt }

/-- RX_EDGE picks a change to a level (R298). -/
def State.picks (s : State) (n : Nat) (level : Bool) : Bool :=
  if level then s.f F.TBUS_LINE_CTRL_RX_EDGE n % 2 == 1 else s.f F.TBUS_LINE_CTRL_RX_EDGE n / 2 == 1

theorem State.picks_of_edge {s : State} {n : Nat} {level : Bool}
    (h : s.f F.TBUS_LINE_CTRL_RX_EDGE n = 3 ∨ s.f F.TBUS_LINE_CTRL_RX_EDGE n = (if level then 1 else 2)) :
    s.picks n level = true := by
  cases level with
  | true => rcases h with h | h <;> simp [State.picks, h]
  | false => rcases h with h | h <;> simp [State.picks, h]

theorem State.picks_none {s : State} {n : Nat} (h : s.f F.TBUS_LINE_CTRL_RX_EDGE n = 0) (level : Bool) : s.picks n level = false := by
  cases level <;> simp [State.picks, h]

/-- The event of a change that was registered now enters 6 ticks later. -/
def State.levelEntered (s : State) (n : Nat) : State :=
  (s.advanceTo (s.time + 6)).enterBeam (.source n) (s.advanceTo (s.time + 6)).time

theorem Kept.levelEntered (s : State) (n : Nat) : Kept s (s.levelEntered n) [(.BEAM_SRC_CNT, n)] [.clock, .beam] :=
  (Kept.advanceTo ..).trans (Kept.enterBeam ..)

theorem State.levelEntered_time (s : State) (n : Nat) : (s.levelEntered n).time = (s.advanceTo (s.time + 6)).time :=
  State.enterBeam_time ..

theorem State.levelEntered_event (s : State) (n : Nat) : ⟨.source n, (s.levelEntered n).time⟩ ∈ (s.levelEntered n).beam.flight := by
  rw [State.levelEntered_time]
  exact State.mem_enterBeam ..

section
variable (s : State) (n : Nat) (level : Bool)

theorem Kept.levelShown : Kept s (s.levelShown n level) [(.TBUS_LINE_STATUS, n)] [.tbus] := (Kept.setF ..).trans (Kept.setLine ..)

theorem State.levelShown_since : ((s.levelShown n level).line n).since = s.time := by rw [State.levelShown, State.line_setLine]

theorem State.levelShown_hold : ((s.levelShown n level).line n).hold = (s.line n).hold := by rw [State.levelShown, State.line_setLine]

theorem State.levelShown_status : (s.levelShown n level).word .TBUS_LINE_STATUS n =
    changed (s.word .TBUS_LINE_STATUS n) [(F.TBUS_LINE_STATUS_LEVEL, level.toNat)] := by
  simp [State.levelShown, State.word_setF, changed]

theorem State.levelShown_ctrl (G : Fld) (h : G.reg = .TBUS_LINE_CTRL) : (s.levelShown n level).f G n = s.f G n :=
  (Kept.levelShown ..).f _ _ (by rw [h]; rfl) (by simp [h])

theorem State.levelShown_lineHold : (s.levelShown n level).lineHold n = s.lineHold n := by
  have hctrl := (Kept.levelShown s n level).regs .TBUS_LINE_CTRL n rfl (by simp)
  have htiming := (Kept.levelShown s n level).regs .TBUS_LINE_TIMING n rfl (by simp)
  simp [State.lineHold, State.levelShown_hold, State.f, hctrl, htiming]

theorem State.levelShown_picks : (s.levelShown n level).picks n level = s.picks n level := by
  rw [State.picks, State.levelShown_ctrl _ _ _ _ rfl, State.picks]

end

section
variable {s : State} {n : Nat} {level : Bool} {xs : List (BitVec 3)} (hreg : s.registers n xs = some (level, s.time.toNat))
include hreg

/-- A change that RX_EDGE does not pick makes no event (R298). -/
theorem State.receive_silent (hn : n < 19) (hpicks : s.picks n level = false) : s.receive n xs = s.levelShown n level := by
  have htick : BitVec.ofNat 64 s.time.toNat = s.time := by simp
  have hbit : (if level then 1 else 0) = level.toNat := by cases level <;> rfl
  rw [← State.levelShown_picks, ← Bool.not_eq_true] at hpicks
  simp only [State.receive, hreg, if_neg (Nat.not_le.2 hn), htick, hbit]
  exact if_neg fun ⟨_, _, hpicked, _⟩ => hpicks hpicked

/-- A change that RX_EDGE picks makes an event in PULSE and LEVEL modes without OWN_MASK (R298). -/
theorem State.receive_event (hn : n < 18) (hmode : (s.lineHold n).mode = 1 ∨ (s.lineHold n).mode = 2)
    (hpicks : s.picks n level = true) (hmask : s.f F.TBUS_LINE_CTRL_OWN_MASK n = 0) :
    s.receive n xs = (s.levelShown n level).levelEntered n := by
  have htick : BitVec.ofNat 64 s.time.toNat = s.time := by simp
  have hbit : (if level then 1 else 0) = level.toNat := by cases level <;> rfl
  rw [← State.levelShown_picks] at hpicks
  rw [← State.levelShown_lineHold s n level] at hmode
  rw [← State.levelShown_ctrl s n level _ rfl] at hmask
  have hopen : (!(s.ownChange n s.time.toNat && (s.levelShown n level).on F.TBUS_LINE_CTRL_OWN_MASK n)) = true := by
    simp [State.on, hmask]
  simp only [State.receive, hreg, if_neg (Nat.not_le.2 (Nat.lt_succ_of_lt hn)), htick, hbit]
  exact if_pos ⟨hn, hmode, hpicks, hopen⟩

end

theorem Runs.receiverEvent_reported {s : State} {n wait : Nat} {level : Bool} {xs : List (BitVec 3)} (hs : s.ready = true) (hn : n < 18)
    (hlevel : s.f F.TBUS_LINE_STATUS_LEVEL n = (if level then 0 else 1)) (hlen : xs.length = s.f F.TBUS_LINE_CTRL_FILT n + 1)
    (hall : (xs.all fun x => tickSample x == level) = true) (hmode : (s.lineHold n).mode = 1 ∨ (s.lineHold n).mode = 2)
    (hedge : s.f F.TBUS_LINE_CTRL_RX_EDGE n = 3 ∨ s.f F.TBUS_LINE_CTRL_RX_EDGE n = (if level then 1 else 2))
    (hmask : s.f F.TBUS_LINE_CTRL_OWN_MASK n = 0) :
    Runs (.receiverEvent n xs wait) s fun t =>
      t.time = ((s.pass wait).advanceTo ((s.pass wait).time + 6)).time ∧
      t.word .TBUS_LINE_STATUS n = changed (s.word .TBUS_LINE_STATUS n) [(F.TBUS_LINE_STATUS_LEVEL, level.toNat)] ∧
      (t.line n).since = s.time + BitVec.ofNat 64 wait ∧ ⟨.source n, t.time⟩ ∈ t.beam.flight ∧
      Kept s t [(.TBUS_LINE_STATUS, n), (.BEAM_SRC_CNT, n)] [.clock, .tbus, .beam] := by
  have hpicks : (s.pass wait).picks n level = true := State.picks_of_edge hedge
  have hf := State.receive_event (s := s.pass wait) (State.registers_steady hlevel hlen hall) hn hmode hpicks hmask
  have hpass := Kept.pass s wait
  have hshown := Kept.levelShown (s.pass wait) n level
  have hentered := Kept.levelEntered ((s.pass wait).levelShown n level) n
  have hk : Kept s ((s.pass wait).receive n xs) [(.TBUS_LINE_STATUS, n), (.BEAM_SRC_CNT, n)] [.clock, .tbus, .beam] :=
    hf ▸ ((hpass.trans hshown).trans hentered).weaken (by simp) (by simp)
  refine Runs.of_command (f := fun s => (s.pass wait).receive n xs) rfl hs hk (by decide) (by simp [calmRegs]) fun t _ h hk => ?_
  rw [hf] at h
  have htime := h.time List.not_mem_nil
  have htick : ((s.pass wait).levelShown n level).time = (s.pass wait).time := hshown.time (by decide)
  refine ⟨?_, ?_, ?_, ?_, hk⟩
  · rw [htime, State.levelEntered_time, State.advanceTo_time_congr htick, htick]
  · rw [(hentered.trans h).regs _ _ rfl (by simp), State.levelShown_status, hpass.regs _ _ rfl List.not_mem_nil]
  · rw [(hentered.trans h).line (by decide), State.levelShown_since]
    rfl
  · rw [htime, h.beam List.not_mem_nil]
    exact State.levelEntered_event ..

theorem Runs.receiverEvent_silent {s : State} {n wait : Nat} {level : Bool} {xs : List (BitVec 3)} (hs : s.ready = true) (hn : n < 19)
    (hlevel : s.f F.TBUS_LINE_STATUS_LEVEL n = (if level then 0 else 1)) (hlen : xs.length = s.f F.TBUS_LINE_CTRL_FILT n + 1)
    (hall : (xs.all fun x => tickSample x == level) = true) (hedge : s.f F.TBUS_LINE_CTRL_RX_EDGE n = 0) :
    Runs (.receiverEvent n xs wait) s fun t =>
      t.time = s.time + BitVec.ofNat 64 wait ∧
      t.word .TBUS_LINE_STATUS n = changed (s.word .TBUS_LINE_STATUS n) [(F.TBUS_LINE_STATUS_LEVEL, level.toNat)] ∧
      (t.line n).since = t.time ∧ Kept s t [(.TBUS_LINE_STATUS, n)] [.clock, .tbus] := by
  have hpicks : (s.pass wait).picks n level = false := State.picks_none hedge level
  have hf := State.receive_silent (s := s.pass wait) (State.registers_steady hlevel hlen hall) hn hpicks
  have hpass := Kept.pass s wait
  have hshown := Kept.levelShown (s.pass wait) n level
  refine Runs.of_command (f := fun s => (s.pass wait).receive n xs) rfl hs (hf ▸ hpass.trans hshown) (by decide)
    (by simp [calmRegs]) fun t hw h hk => ?_
  rw [hf] at h
  have htime : t.time = (s.pass wait).time := (hshown.trans h).time (by decide)
  refine ⟨htime, ?_, ?_, hk⟩
  · rw [h.regs _ _ rfl List.not_mem_nil, State.levelShown_status, hpass.regs _ _ rfl List.not_mem_nil]
  · rw [h.line List.not_mem_nil, State.levelShown_since, htime]

theorem Runs.receiverEvent_short {s : State} {n wait : Nat} {xs : List (BitVec 3)} (hs : s.ready = true)
    (hshort : xs.length ≤ s.f F.TBUS_LINE_CTRL_FILT n) :
    Runs (.receiverEvent n xs wait) s fun t => t.time = s.time + BitVec.ofNat 64 wait ∧ Kept s t [] [.clock] := by
  have hf : (s.pass wait).receive n xs = s.pass wait := by
    rw [State.receive, State.registers_short (s := s.pass wait) hshort]
  have hk : Kept s ((s.pass wait).receive n xs) [] [.clock] := hf.symm ▸ Kept.pass s wait
  exact Runs.of_command (f := fun s => (s.pass wait).receive n xs) rfl hs hk (by decide) (by simp)
    fun t _ h hk => ⟨by rw [h.time List.not_mem_nil, hf]; rfl, hk⟩

-- ------------------------------------------------------------------ received telegrams (R300)

/-- A telegram on a line in MESSAGE mode without OWN_MASK is looked at. -/
theorem State.telegramIn_bad {s : State} {n quiet : Nat} {gaps : List Nat} (hn : n < 16) (hmode : (s.lineHold n).mode = 3)
    (hmask : s.f F.TBUS_LINE_CTRL_OWN_MASK n = 0) (hquiet : 60 ≤ quiet) (hbad : goodTelegram gaps = none) :
    s.telegramIn n quiet gaps = (s.raise F.TBUS_LINE_STATUS_RX_ERR n).bump F.TBUS_CNT_EXC_RX_ERR n 1 := by
  rw [State.telegramIn, if_neg (by simp [hn, hmode, hquiet, State.on, hmask]), hbad]

/-- A telegram is queued with its line and the TIME at which its event enters. -/
def State.telegramQueued (s : State) (n : Nat) (d : BitVec 16) : State :=
  s.putTbus { s.tbus with fifo := s.tbus.fifo ++ [(d, n, s.now + 15)] }

theorem State.telegramIn_good {s : State} {n quiet : Nat} {gaps : List Nat} {d : BitVec 16} (hn : n < 16)
    (hmode : (s.lineHold n).mode = 3) (hmask : s.f F.TBUS_LINE_CTRL_OWN_MASK n = 0) (hquiet : 60 ≤ quiet)
    (hroom : s.tbus.fifo.length < 32) (hgood : goodTelegram gaps = some d) :
    s.telegramIn n quiet gaps =
      if (d ^^^ BitVec.ofNat 16 (s.f F.TBUS_MATCH_VALUE n)) &&& BitVec.ofNat 16 (s.f F.TBUS_MATCH_MASK n) = 0 then
        (s.telegramQueued n d).enterBeam (.source n) (s.later 15)
      else s.telegramQueued n d := by
  rw [State.telegramIn, if_neg (by simp [hn, hmode, hquiet, State.on, hmask]), hgood]
  simp only [hroom, if_true]
  rfl


theorem Runs.telegramReceived_good {s : State} {n wait quiet : Nat} {gaps : List Nat} {d : BitVec 16} (hs : s.ready = true)
    (hn : n < 16) (hmode : (s.lineHold n).mode = 3) (hmask : s.f F.TBUS_LINE_CTRL_OWN_MASK n = 0) (hroom : s.tbus.fifo.length < 32)
    (hquiet : 60 ≤ quiet) (hgood : goodTelegram gaps = some d) :
    Runs (.telegramReceived n quiet gaps wait) s fun t =>
      t.tbus.fifo = s.tbus.fifo ++ [(d, n, t.now + 15)] ∧
      ((d ^^^ BitVec.ofNat 16 (s.f F.TBUS_MATCH_VALUE n)) &&& BitVec.ofNat 16 (s.f F.TBUS_MATCH_MASK n) = 0 →
        ⟨.source n, t.time + 15⟩ ∈ t.beam.flight) ∧
      ((d ^^^ BitVec.ofNat 16 (s.f F.TBUS_MATCH_VALUE n)) &&& BitVec.ofNat 16 (s.f F.TBUS_MATCH_MASK n) ≠ 0 →
        t.beam = s.beam) ∧
      Kept s t [(.BEAM_SRC_CNT, n)] [.clock, .tbus, .beam] := by
  set u := s.pass wait with hu
  have hpass : Kept s u [] [.clock] := Kept.pass s wait
  have hqueued : Kept u (u.telegramQueued n d) [] [.tbus] := Kept.putTbus ..
  have hin : Kept (u.telegramQueued n d) (u.telegramIn n quiet gaps) [(.BEAM_SRC_CNT, n)] [.beam] := by
    rw [State.telegramIn_good (s := u) hn hmode hmask hquiet hroom hgood]
    split
    · exact Kept.enterBeam ..
    · exact Kept.start ..
  refine Runs.of_command (f := fun s => (s.pass wait).telegramIn n quiet gaps) rfl hs ((hpass.trans hqueued).trans hin) (by decide)
    (by simp [calmRegs]) fun t _ h hk => ?_
  have hshown := hin.trans h
  have htime : t.time = u.time := hshown.time (by decide)
  have hnow : t.now = u.now := hshown.now (by decide)
  have hf := State.telegramIn_good (s := u) hn hmode hmask hquiet hroom hgood
  refine ⟨?_, fun hmatch => ?_, fun hother => ?_, hk⟩
  · rw [hshown.tbus (by decide), hnow]
    rfl
  · rw [h.beam List.not_mem_nil, htime, ← hu, hf.trans (if_pos hmatch)]
    exact State.mem_enterBeam ..
  · rw [h.beam List.not_mem_nil, ← hu, hf.trans (if_neg hother), (hpass.trans hqueued).beam (by decide)]

theorem Runs.telegramReceived_bad {s : State} {n wait quiet : Nat} {gaps : List Nat} (hs : s.ready = true) (hn : n < 16)
    (hmode : (s.lineHold n).mode = 3) (hmask : s.f F.TBUS_LINE_CTRL_OWN_MASK n = 0) (hquiet : 60 ≤ quiet)
    (hbad : goodTelegram gaps = none) :
    Runs (.telegramReceived n quiet gaps wait) s fun t =>
      t.word .TBUS_LINE_STATUS n = changed (s.word .TBUS_LINE_STATUS n) [(F.TBUS_LINE_STATUS_RX_ERR, 1)] ∧
      t.word .TBUS_CNT_EXC n = changed (s.word .TBUS_CNT_EXC n)
        [(F.TBUS_CNT_EXC_RX_ERR, s.counted F.TBUS_CNT_EXC_RX_ERR n 1)] ∧
      Kept s t [(.TBUS_LINE_STATUS, n), (.TBUS_CNT_EXC, n)] [.clock] := by
  have hf := State.telegramIn_bad (s := s.pass wait) hn hmode hmask hquiet hbad
  refine Runs.of_command (f := fun s => (s.pass wait).telegramIn n quiet gaps) rfl hs
    (hf ▸ ((Kept.pass s wait).trans ((Kept.raise ..).trans (Kept.bump ..)))) (by decide) (by simp [calmRegs])
    fun t hw _ hk => ⟨?_, ?_, hk⟩
  · rw [hw _ _ rfl, hf]
    simp [State.word_bump, State.word_raise, changed]
  · rw [hw _ _ rfl, hf, State.word_bump, State.counted, (Kept.raise ..).f _ _ rfl (by simp)]
    simp [changed, State.word_raise, State.counted]

-- ------------------------------------------------------------------ the end of an assertion (R299, R303, R304)

theorem State.line_lineRelease (s : State) (n : Nat) : (s.lineRelease n).line n =
    { s.line n with asserting := false, ends := none, released := some s.time, hold := none } := State.line_setLine ..

theorem Kept.lineRelease (s : State) (n : Nat) : Kept s (s.lineRelease n) [] [.tbus] := Kept.setLine ..

theorem Runs.pulseEnd {s : State} {n : Nat} {t0 : DWord} (hs : s.ready = true) (hasserts : (s.line n).asserting = true)
    (hends : (s.line n).ends = some t0) :
    Runs (.pulseEnd n) s fun t =>
      (t.line n).asserting = false ∧ (t.line n).released = some t.time ∧ (s.time.toNat < t0.toNat → t.time = t0) ∧
      Kept s t [] [.clock, .tbus] := by
  have hf : s.pulseEnd n = (s.advanceTo t0).lineRelease n := by simp only [State.pulseEnd, hasserts, hends]
  refine Runs.of_command (f := (·.pulseEnd n)) rfl hs (hf ▸ (Kept.advanceTo s t0).trans (Kept.lineRelease ..)) (by decide) (by simp)
    fun t _ h hk => ?_
  rw [hf] at h
  have hline := (h.line List.not_mem_nil n).trans (State.line_lineRelease ..)
  have htime : t.time = (s.advanceTo t0).time := ((Kept.lineRelease ..).trans h).time (by decide)
  exact ⟨by rw [hline], by rw [hline, htime], fun hlt => htime.trans (State.advanceTo_time_ahead hlt), hk⟩

/-- A line is locked out by a cutoff now. -/
def State.lineCutOff (s : State) (n : Nat) : State :=
  ((s.lineRelease n).setLine n { (s.lineRelease n).line n with cut := true }).raise F.TBUS_LINE_STATUS_CUTOFF n

theorem Kept.lineCutOff (s : State) (n : Nat) : Kept s (s.lineCutOff n) [(.TBUS_LINE_STATUS, n)] [.tbus] :=
  (((Kept.lineRelease ..).trans (Kept.setLine ..)).trans (Kept.raise ..)).weaken (by simp) (by simp)

theorem State.line_lineCutOff (s : State) (n : Nat) : (s.lineCutOff n).line n =
    { s.line n with asserting := false, ends := none, released := some s.time, hold := none, cut := true } := by
  rw [State.lineCutOff, (Kept.raise ..).line List.not_mem_nil, State.line_setLine, State.line_lineRelease]

theorem State.lineCutOff_status (s : State) (n : Nat) : (s.lineCutOff n).word .TBUS_LINE_STATUS n =
    changed (s.word .TBUS_LINE_STATUS n) [(F.TBUS_LINE_STATUS_CUTOFF, 1)] := by
  simp [State.lineCutOff, State.lineRelease, State.word_raise, changed]

theorem Runs.cutoff {s : State} {n : Nat} (hs : s.ready = true) (hasserts : (s.line n).asserting = true)
    (hends : (s.line n).ends = none) :
    Runs (.cutoff n) s fun t =>
      (t.line n).asserting = false ∧ (t.line n).cut = true ∧
      (s.time.toNat < (s.line n).began.toNat + s.cutoffTicks n → (s.line n).began.toNat + s.cutoffTicks n < 2 ^ 64 →
        t.time.toNat = (s.line n).began.toNat + s.cutoffTicks n) ∧
      t.word .TBUS_LINE_STATUS n = changed (s.word .TBUS_LINE_STATUS n) [(F.TBUS_LINE_STATUS_CUTOFF, 1)] ∧
      Kept s t [(.TBUS_LINE_STATUS, n)] [.clock, .tbus] := by
  set due := (s.line n).began.toNat + s.cutoffTicks n with hdue
  set u := s.advanceTo (BitVec.ofNat 64 due) with hu
  have hf : s.lineCutoff n = u.lineCutOff n := by
    simp only [State.lineCutoff, hasserts, hends]
    rfl
  have hadvance : Kept s u [] [.clock] := Kept.advanceTo ..
  have hcut := Kept.lineCutOff u n
  refine Runs.of_command (f := (·.lineCutoff n)) rfl hs (hf ▸ hadvance.trans hcut) (by decide) (by simp [calmRegs]) fun t hw h hk => ?_
  rw [hf] at h
  have hline := (h.line List.not_mem_nil n).trans (State.line_lineCutOff ..)
  have htime : t.time = u.time := (hcut.trans h).time (by decide)
  refine ⟨by rw [hline], by rw [hline], fun hlt hbound => ?_, ?_, hk⟩
  · rw [htime, hu, State.advanceTo_ofNat_time hlt.le hbound, BitVec.toNat_ofNat, Nat.mod_eq_of_lt hbound]
  · rw [h.regs _ _ rfl List.not_mem_nil, State.lineCutOff_status, hadvance.regs _ _ rfl List.not_mem_nil]

-- ------------------------------------------------------------------ faults of a line (R304)

theorem Kept.lineForced (s : State) (n : Nat) : Kept s (s.lineForced n) [] [.tbus] := by
  unfold State.lineForced
  dsimp only
  split
  · exact Kept.start ..
  · split
    · exact Kept.lineRelease ..
    · exact Kept.setLine ..

/-- A forced release waits until an assertion has lasted 12 ticks (R303). -/
theorem State.line_lineForced {s : State} {n : Nat} (hasserts : (s.line n).asserting = true) :
    ((s.line n).began.toNat + 12 ≤ s.time.toNat → ((s.lineForced n).line n).asserting = false) ∧
      (s.time.toNat < (s.line n).began.toNat + 12 → ((s.lineForced n).line n).ends = some ((s.line n).began + 12)) := by
  have hforced : s.lineForced n = if (s.line n).began.toNat + 12 ≤ s.time.toNat then s.lineRelease n
      else s.setLine n { s.line n with ends := some ((s.line n).began + 12) } := by simp [State.lineForced, hasserts]
  refine ⟨fun hle => ?_, fun hlt => ?_⟩
  · rw [hforced, if_pos hle, State.line_lineRelease]
  · rw [hforced, if_neg (Nat.not_le.2 hlt), State.line_setLine]

/-- A fault of a line is flagged, with its entry. -/
def State.lineFlagged (s : State) (n : Nat) (G : Fld) : State := (s.raise G n).lineEntry n

theorem Kept.lineFlagged (s : State) (n : Nat) (G : Fld) : Kept s (s.lineFlagged n G) [(G.reg, n)] [.tbus, .ledger] :=
  (Kept.raise ..).trans (Kept.lineEntry ..)

theorem State.lineFlagged_word (s : State) (n : Nat) {G : Fld} (h : isPend G.reg = false) :
    (s.lineFlagged n G).word G.reg n = changed (s.word G.reg n) [(G, 1)] := by
  rw [State.lineFlagged, (Kept.lineEntry ..).regs _ _ h List.not_mem_nil, State.word_raise]
  simp [changed]

theorem State.lineFlagged_f (s : State) (n : Nat) {G : Fld} (h : isPend G.reg = false) (hlo : G.lo + G.width ≤ 32) (hw : 0 < G.width) :
    (s.lineFlagged n G).f G n = 1 := by
  rw [State.lineFlagged, (Kept.lineEntry ..).f _ _ h List.not_mem_nil, State.f_raise_same _ _ _ hlo hw]

theorem State.line_lineFlagged (s : State) (n : Nat) (G : Fld) : ∃ told, (s.lineFlagged n G).line n = { s.line n with told } :=
  State.line_lineEntry ..

theorem Runs.driveFault {s : State} {n wait : Nat} (hs : s.ready = true) (hasserts : (s.line n).asserting = true)
    (hfree : (s.line n).telegram = none) (hlevel : s.f F.TBUS_LINE_STATUS_LEVEL n = 0) :
    Runs (.driveFault n wait) s fun t =>
      t.lockedOut n = true ∧
      ((s.line n).began.toNat + 12 ≤ t.time.toNat → (t.line n).asserting = false) ∧
      (t.time.toNat < (s.line n).began.toNat + 12 → (t.line n).ends = some ((s.line n).began + 12)) ∧
      t.word .TBUS_LINE_STATUS n = changed (s.word .TBUS_LINE_STATUS n) [(F.TBUS_LINE_STATUS_DRIVE_FAULT, 1)] ∧
      Kept s t [(.TBUS_LINE_STATUS, n)] [.clock, .tbus, .ledger] := by
  set u := s.pass wait with hu
  have hpass : Kept s u [] [.clock] := Kept.pass s wait
  have hforced := Kept.lineForced u n
  have hflagged := Kept.lineFlagged (u.lineForced n) n F.TBUS_LINE_STATUS_DRIVE_FAULT
  have hline : u.line n = s.line n := hpass.line (by decide) n
  have hf : u.driveFault n = (u.lineForced n).lineFlagged n F.TBUS_LINE_STATUS_DRIVE_FAULT := by
    have hoff : u.on F.TBUS_LINE_STATUS_LEVEL n = false := by
      rw [hpass.on _ _ rfl List.not_mem_nil, State.on, hlevel]
      rfl
    simp [State.driveFault, hline, hasserts, hfree, hoff, State.lineFlagged]
  have hk : Kept s (u.driveFault n) [(.TBUS_LINE_STATUS, n)] [.clock, .tbus, .ledger] :=
    hf ▸ ((hpass.trans hforced).trans hflagged).weaken (by simp) (by simp)
  refine Runs.of_command (f := fun s => (s.pass wait).driveFault n) rfl hs hk (by decide) (by simp [calmRegs]) fun t _ h hk => ?_
  rw [← hu, hf] at h
  obtain ⟨told, htold⟩ := State.line_lineFlagged (u.lineForced n) n F.TBUS_LINE_STATUS_DRIVE_FAULT
  have hlineT := (h.line List.not_mem_nil n).trans htold
  have htime : t.time = u.time := ((hforced.trans hflagged).trans h).time (by decide)
  have hword := h.regs .TBUS_LINE_STATUS n rfl List.not_mem_nil
  rw [State.lineFlagged_word _ _ rfl, (hpass.trans hforced).regs _ _ rfl List.not_mem_nil] at hword
  obtain ⟨hover, hearly⟩ := State.line_lineForced (s := u) (hline ▸ hasserts)
  rw [hline] at hover hearly
  refine ⟨?_, fun hle => ?_, fun hlt => ?_, hword, hk⟩
  · have hfault : t.f F.TBUS_LINE_STATUS_DRIVE_FAULT n = 1 :=
      (h.f _ _ rfl List.not_mem_nil).trans (State.lineFlagged_f _ _ rfl (by decide) (by decide))
    simp [State.lockedOut, State.on, hfault]
  · rw [hlineT]
    exact hover (htime ▸ hle)
  · rw [hlineT]
    exact hearly (htime ▸ hlt)

theorem Runs.foreignStuck {s : State} {n : Nat} (hs : s.ready = true) (hn : n < 18) (hreleased : (s.line n).asserting = false)
    (hfree : (s.line n).telegram = none) (hlevel : s.f F.TBUS_LINE_STATUS_LEVEL n = 1) :
    Runs (.foreignStuck n) s fun t =>
      t.word .TBUS_LINE_STATUS n = changed (s.word .TBUS_LINE_STATUS n) [(F.TBUS_LINE_STATUS_FOREIGN_STUCK, 1)] ∧
      t.time = (s.advanceTo (BitVec.ofNat 64 (max (s.line n).since.toNat (((s.line n).released.map (·.toNat)).getD 0) + 150000))).time ∧
      Kept s t [(.TBUS_LINE_STATUS, n)] [.clock, .tbus, .ledger] := by
  set u := s.advanceTo (BitVec.ofNat 64 (max (s.line n).since.toNat (((s.line n).released.map (·.toNat)).getD 0) + 150000))
  have hadvance : Kept s u [] [.clock] := Kept.advanceTo ..
  have hflagged := Kept.lineFlagged u n F.TBUS_LINE_STATUS_FOREIGN_STUCK
  have hf : s.foreignStuck n = u.lineFlagged n F.TBUS_LINE_STATUS_FOREIGN_STUCK := by
    rw [State.foreignStuck, if_neg (by simp [hn, State.on, hlevel, State.ownDrives, hreleased, hfree])]
    rfl
  refine Runs.of_command (f := (·.foreignStuck n)) rfl hs (hf ▸ hadvance.trans hflagged) (by decide) (by simp [calmRegs])
    fun t _ h hk => ?_
  rw [hf] at h
  refine ⟨?_, (hflagged.trans h).time (by decide), hk⟩
  rw [h.regs _ _ rfl List.not_mem_nil, State.lineFlagged_word _ _ rfl, hadvance.regs _ _ rfl List.not_mem_nil]

-- ------------------------------------------------------------------ the chassis trigger bus

/-- Settles O31, a clause for each command: what its operation makes of the line where the clause's hypotheses hold. -/
theorem chassisLines : Obligations.ChassisLines := by
  unfold Obligations.ChassisLines
  refine ⟨fun s n => Runs.send, ?_, ?_, fun s n half r d t0 hs _ => Runs.collision hs, fun s n r d t0 hs _ => Runs.telegramSent hs,
    fun s n wait level xs => Runs.receiverEvent_reported, fun s n wait level xs => Runs.receiverEvent_silent,
    fun s n wait xs => Runs.receiverEvent_short, goodTelegram_sentGaps, fun s n wait quiet gaps d => Runs.telegramReceived_good,
    fun s n wait quiet gaps => Runs.telegramReceived_bad, fun s n t0 => Runs.pulseEnd, fun s n hs _ => Runs.cutoff hs,
    fun s n wait hs _ => Runs.driveFault hs, fun s n => Runs.foreignStuck⟩
  · exact fun s n w r d hs _ => Runs.telegramGo rfl hs
  · exact fun s n w r k d hs _ => Runs.telegramGo rfl hs

end Sys2Proof.Machine
end

section
/-! PROOF. What the statements of O36, O37, O42 and O47 leave out: a drive may be shown busy while no playback is set up (R350), a
request that waits behind the fence of a host NI goes on when DMA_CTRL.EN reopens it (R371, R246), a request delivered behind a
fence that a drain closes is answered by its proxy and counted (R247), and a step may take an interrupt instead of the
instruction at the pc (R425). -/

namespace Sys2Proof.Machine

-- ------------------------------------------------------------------ CONS of a channel with no playback set up (R350)

/-- A part with drives, channel 0 RUNNING as a playback channel to which no recording has been given; drive 0 is of the volume, and the
clock of its request stands although no channel has a stripe with it. -/
def drivesClockStanding : State :=
  let s := { poweredUp with part := { poweredUp.part with variant := .F } }
  let s := ((s.setF F.STORE_CFG_DRIVES 0 1).setF F.STORE_CH_CFG_DIR 0 1).setF F.STORE_CH_STATUS_STATE 0 1
  s.setDrive 0 { s.drive 0 with busy := some 0 }

/-- CH_CONS leaves the clock, and no channel has a stripe with drive 0. -/
theorem drivesClockStanding_busy :
    viewAfter (fun t => ((t.drive 0).busy.isSome, t.driveBusy 0)) (exec (.chCons 0 0) drivesClockStanding) = some (true, false) := by
  decide +kernel

/-- Refutes O36: CH_CONS of `drivesClockStanding`'s channel moves no playback on, so it does not look at the drives' clocks, and drive 0
keeps one that no stripe accounts for. -/
theorem not_storeChannels : ¬ Obligations.StoreChannels := by
  unfold Obligations.StoreChannels
  rintro ⟨-, -, -, hcons, -⟩
  obtain ⟨t, ht, -, ⟨-, -, hdrive⟩, -⟩ := hcons drivesClockStanding 0 0 (by decide +kernel) (by decide) (by decide +kernel)
    (by decide +kernel) (by decide +kernel)
  obtain ⟨-, hbusy⟩ := hdrive 0 (by decide)
  have hview := drivesClockStanding_busy
  rw [ht, viewAfter] at hview
  obtain ⟨hclock, hnone⟩ := Prod.mk.inj (Option.some.inj hview)
  exact absurd (hclock.symm.trans ((hbusy (by decide +kernel)).trans hnone)) (by decide)

-- ------------------------------------------------------------------ a request behind the fence of a host NI (R371, R246)

/-- The fence of NI 0x90 is closed, and a read of an address that nothing has waits behind it. -/
def strayHostRead : State :=
  let s := (poweredUp.setF F.NI_STATUS_STATE 0x90 1).setF F.DEV_XS_STATE_STATE 0x90 0
  let s := (s.setF F.PWR_REGION_STATUS_ON 0 0x7FF).setF F.NI_FENCE_STATUS_STATE 0x90 2
  s.setNi 0x90 { niInit with csf := { csfInit with up := [strayRead], upWritten := 1 } }

/-- DMA_CTRL.EN lets the NI read the request, whose error enters its log (R253). -/
theorem strayHostRead_log : viewAfter (·.f F.NI_ERRLOG_INFO_VALID 0x90) (exec (.dmaEnable jtagWho) strayHostRead) = some 1 := by
  decide +kernel

/-- Refutes O37: the fence of `strayHostRead` reopens, the request behind it goes on, and the error log of its NI takes it, so more
registers than the statement's change. -/
theorem not_hostLink : ¬ Obligations.HostLink := by
  unfold Obligations.HostLink
  rintro ⟨-, -, -, -, -, -, -, henable, -⟩
  obtain ⟨t, ht, -, -, -, hk⟩ := henable strayHostRead jtagWho (by decide +kernel) (by decide +kernel)
  have hsame := viewAfter_of_eq (view := (·.f F.NI_ERRLOG_INFO_VALID 0x90)) ht (hk.f F.NI_ERRLOG_INFO_VALID 0x90 rfl (by decide))
  rw [strayHostRead_log] at hsame
  exact absurd hsame (by decide +kernel)

-- ------------------------------------------------------------------ a request delivered where a drain begins (R247, R401)

/-- `readDelivered` with no quad to switch on, where the drain limit of NI 3 is 0. -/
def readAtDrain : State := (readDelivered.setWord .PWR_QUAD_CTRL 0 0).setF F.NI_FENCE_CTRL_LIMIT 3 0

/-- The proxy of NI 3 answers the read as FABRIC_OFF closes the fence, and it is counted. -/
theorem proxyAnswers_readAtDrain : proxyAnswers (exec (.fabricOff jtagWho) readAtDrain) = 1 := by decide +kernel

/-- Refutes O42: FABRIC_OFF drains the NIs of the fabric, the drain of `readAtDrain`'s NI 3 ends at once, and its proxy answers the read
and counts it in PROXY_CNT. -/
theorem not_powerStates : ¬ Obligations.PowerStates := by
  unfold Obligations.PowerStates
  rintro ⟨hoff, -⟩
  obtain ⟨t, ht, -, -, -, hk⟩ := hoff readAtDrain jtagWho (by decide +kernel) (by decide +kernel) (by decide +kernel)
  have hcount : t.word .NI_PROXY_CNT 3 = readAtDrain.word .NI_PROXY_CNT 3 := hk.regs _ _ rfl (by decide +kernel)
  have hanswer := proxyAnswers_readAtDrain
  rw [ht, proxyAnswers, hcount] at hanswer
  exact absurd hanswer (by decide +kernel)

-- ------------------------------------------------------------------ a step that takes an interrupt (R425)

/-- Core 0 is halted, STEP_MASK is 0, and input 33 is pending, enabled and above THRESH, with mstatus.MIE and mie.MEIE 1. -/
def interruptAtStep : State :=
  let s := (poweredUp.setF F.PWR_REGION_STATUS_ON 0 0x7FF).setF F.DBG_CORE_RC_HALTED 0 1
  let s := (s.setWord .SEQ_IC_PEND_HI 0 2).setWord .SEQ_IC_EN_HI 0 2
  let s := (s.setWord .SEQ_IC_PRIO 4 0x10).setF F.DBG_CORE_RC_STEP_MASK 0 0
  (s.setCoreCsr 0 0x300 8).setCoreCsr 0 0x304 0x800

/-- The interrupt is taken ahead of the instruction, which has not written register 1. -/
theorem interruptAtStep_x : viewAfter (·.coreX 0 1) (exec (.singleStep jtagWho 0 ⟨[(1, 7)], [], 4⟩) interruptAtStep) = some 0 := by
  decide +kernel

/-- Refutes O47: a step of `interruptAtStep`'s core takes the interrupt, so the instruction's write is not there. -/
theorem not_runControl : ¬ Obligations.RunControl := by
  unfold Obligations.RunControl
  rintro ⟨-, -, -, hstep, -⟩
  obtain ⟨-, hsingle⟩ := hstep interruptAtStep jtagWho 0 (by decide +kernel) (by decide +kernel) (by decide +kernel) (by decide +kernel)
  obtain ⟨t, ht, -, -, hx, -⟩ := hsingle 1 7 4 (by decide) (by decide) (by decide +kernel)
  have hview := interruptAtStep_x
  rw [ht, viewAfter, hx] at hview
  exact absurd hview (by decide)

end Sys2Proof.Machine
end

section
/-! PROOF. Reads of the ledger: the entry that RD_SEQ selects, and its bytes (R448). -/

namespace Sys2Proof.Machine

/-- RD_SEQ within the entries held selects the one entry that has its number. -/
theorem LedgerState.selected_of_unique {l : LedgerState} {e : Entry} (hheld : (l.headSeq - l.rdSeq).toNat ≤ (l.headSeq - l.oldestSeq).toNat)
    (he : l.lists e) (hseq : e.seq = l.rdSeq) (hone : ∀ e', l.lists e' → e'.seq = l.rdSeq → e' = e) :
    ∃ c, l.selected = some (c, e) := by
  rw [LedgerState.selected, if_pos hheld]
  cases hbuffer : l.buffer.find? (·.seq == l.rdSeq) with
  | some e' =>
    have hfound := List.find?_some hbuffer
    exact ⟨false, by rw [hone e' (Or.inr (List.mem_of_find?_eq_some hbuffer)) (by simpa using hfound)]⟩
  | none =>
    rw [List.find?_eq_none] at hbuffer
    obtain ⟨p, hring⟩ := he.resolve_right fun h => hbuffer e h (by simpa using hseq)
    cases hslot : l.ring.find? (·.2.seq == l.rdSeq) with
    | some slot =>
      have hfound := List.find?_some hslot
      have hslot' := hone slot.2 (Or.inl ⟨slot.1, List.mem_of_find?_eq_some hslot⟩) (by simpa using hfound)
      exact ⟨true, by rw [Option.map_some, hslot']⟩
    | none =>
      rw [List.find?_eq_none] at hslot
      exact absurd (by simpa using hseq) (hslot _ hring)

/-- RD_SEQ beyond the entries held selects none. -/
theorem LedgerState.selected_of_beyond {l : LedgerState} (h : (l.headSeq - l.oldestSeq).toNat < (l.headSeq - l.rdSeq).toNat) :
    l.selected = none := if_neg (Nat.not_le.2 h)

-- ------------------------------------------------------------------ the registers that show it

theorem State.ledgerWord_rdSeq {s : State} (h : s.ledger.ready = true) : s.ledgerWord .LEDGER_RD_SEQ 0 = s.ledger.rdSeq := by
  simp [State.ledgerWord, h]

theorem State.ledgerWord_rdData_some {s : State} {c : Bool} {e : Entry} (h : s.ledger.ready = true)
    (hs : s.ledger.selected = some (c, e)) (w : Nat) : s.ledgerWord .LEDGER_RD_DATA w = e.word w := by
  simp [State.ledgerWord, h, hs]

theorem State.ledgerWord_rdData_none {s : State} (h : s.ledger.ready = true) (hs : s.ledger.selected = none) (w : Nat) :
    s.ledgerWord .LEDGER_RD_DATA w = 0 := by
  simp [State.ledgerWord, h, hs]

/-- RD_STATUS bit 0 says whether RD_SEQ selects an entry. -/
theorem State.ledgerWord_rdStatus {s : State} (h : s.ledger.ready = true) :
    (s.ledgerWord .LEDGER_RD_STATUS 0).getLsbD 0 = s.ledger.selected.isSome := by
  cases hs : s.ledger.selected with
  | none => simp [State.ledgerWord, h, hs]
  | some x => cases hx : x.1 <;> simp [State.ledgerWord, h, hs, hx]

-- ------------------------------------------------------------------ the commands

theorem State.ledger_readRdData {s : State} (h : s.ledger.ready = true) (w : Nat) :
    (s.readRdData w).ledger = { s.ledger with rdSeq := if w = 7 then s.ledger.rdSeq + 1 else s.ledger.rdSeq } := by
  by_cases hw : w = 7
  · simp [State.readRdData, State.setLedger, h, hw]
  · simp [State.readRdData, hw]

theorem Kept.readRdData (s : State) (w : Nat) : Kept s (s.readRdData w) [] [.ledger] := by
  unfold State.readRdData
  split
  · exact Kept.putLedger ..
  · exact Kept.start ..

/-- Settles O60: RD_SEQ is stored, what it selects is what the registers show, and a read of word 7 advances it. -/
theorem ledgerReads : Obligations.LedgerReads := by
  unfold Obligations.LedgerReads
  refine ⟨fun s n hs => ?_, fun s w hs hready => ?_⟩
  · refine Runs.of_command (f := fun s => s.writeRdSeq n) rfl hs (Kept.putLedger s { s.ledger with rdSeq := n }) (by decide) (by decide)
      fun t _ hkt h => ?_
    have ht : t.ledger = { s.ledger with rdSeq := n } := hkt.areas .ledger List.not_mem_nil
    have hready : s.ledger.ready = true → t.ledger.ready = true := fun h => by rw [ht, h]
    refine ⟨ht, fun h => ?_, fun e h he hseq hone hheld => ?_, fun h hbeyond => ?_, h⟩
    · rw [State.ledgerWord_rdSeq (hready h), ht]
    · obtain ⟨c, hsel⟩ := LedgerState.selected_of_unique (l := t.ledger) (e := e) (by rwa [ht]) (by rwa [ht]) (by rwa [ht]) (by rwa [ht])
      exact ⟨fun w _ => State.ledgerWord_rdData_some (hready h) hsel w, by rw [State.ledgerWord_rdStatus (hready h), hsel, Option.isSome_some]⟩
    · have hsel := LedgerState.selected_of_beyond (l := t.ledger) (by rwa [ht])
      exact ⟨fun w _ => State.ledgerWord_rdData_none (hready h) hsel w, by rw [State.ledgerWord_rdStatus (hready h), hsel, Option.isSome_none]⟩
  · exact Runs.of_command (f := fun s => s.readRdData w) rfl hs (Kept.readRdData s w) (by decide) (by decide)
      fun t _ hkt h => ⟨(hkt.areas .ledger List.not_mem_nil).trans (State.ledger_readRdData hready w), h⟩

end Sys2Proof.Machine
end

section
/-! PROOF. A DBG reset leaves what could wait alone, and key 0x10C6 makes one, sets LOCKED and makes an entry (R414, R421). -/

namespace Sys2Proof.Machine

-- ------------------------------------------------------------------ registers of a domain after its reset

/-- What no filter takes out reads as before. -/
theorem Sparse.get_filter_of {α : Type} (d : α) (p : Nat × α → Bool) (k : Nat) (m : Sparse α) (h : ∀ v, p (k, v) = true) :
    Sparse.get d (m.filter p) k = Sparse.get d m k := by
  induction m with
  | nil => rfl
  | cons kv m ih =>
    obtain ⟨k', v⟩ := kv
    by_cases hk : k' = k
    · rw [List.filter_cons_of_pos (by rw [hk]; exact h v), Sparse.get_cons, Sparse.get_cons, if_pos hk, if_pos hk]
    · rw [List.filter_cons]
      split
      · rw [Sparse.get_cons, Sparse.get_cons, if_neg hk, if_neg hk, ih]
      · rw [Sparse.get_cons, if_neg hk, ih]

/-- A reset leaves the registers that it does not name. -/
theorem State.word_resetRegs_of_not (s : State) {which : Reg → Nat → Bool} {r : Reg} {i : Nat} (h : which r i = false) :
    (s.resetRegs which).word r i = s.word r i :=
  Sparse.get_filter_of _ _ _ _ fun v => by simp [h]

-- ------------------------------------------------------------------ the DBG reset (R414)

/-- The pins given back, if the boundary register had them. -/
def State.boundaryLeft (s : State) : State := if s.boundaryHas then s.boundaryLeaves else s

/-- The reset of the TAP selects IDCODE. -/
theorem State.tapReset_eq (s : State) :
    s.tapReset = s.boundaryLeft.setDebug { s.boundaryLeft.dbg with ir := 0x02, irRefused := false } := by
  simp [State.tapReset, State.selectIr, State.boundaryLeft]

theorem Kept.boundaryLeft (s : State) : Kept s s.boundaryLeft [] [.pins] := by
  unfold State.boundaryLeft
  split
  · exact Kept.putPins ..
  · exact Kept.start ..

theorem Kept.tapReset (s : State) : Kept s s.tapReset [] [.pins, .dbg] := by
  rw [State.tapReset_eq]
  exact (Kept.boundaryLeft s).trans (Kept.setDebug ..)

/-- The registers of the domain DBG. -/
def ofDbg (r : Reg) (_ : Nat) : Bool := (regSpec r).domain == .DBG

/-- What a DBG reset leaves of debug's own state. -/
def DebugState.afterReset (d : DebugState) : DebugState :=
  { d with
    accessData := 0, accessDone := false, accessError := false, accessErr := 0, accessRunning := false
    memPort := [], resume := [], haltDue := [], trace := [], traceSync := 0, traceLost := 0, stimWaits := [] }

theorem State.dbgReset_eq (s : State) : s.dbgReset = (s.tapReset.resetRegs ofDbg).setDebug (s.tapReset.resetRegs ofDbg).dbg.afterReset := by
  rw [State.dbgReset]
  rfl

-- ------------------------------------------------------------------ no work goes on with it

/-- An update that leaves what could wait alone lets no work go on. -/
theorem SameWork.of_kept {s t : State} {R : List (Reg × Nat)} {A : List Area} (h : Kept s t R A) (hA : ∀ a ∈ calmAreas, a ∉ A)
    (hR : ∀ x ∈ R, x.1 ∉ calmRegs) : SameWork s t := by
  have hwords : ∀ r ∈ calmRegs, ∀ i, t.word r i = s.word r i := fun r hr i =>
    h.regs r i ((by decide : ∀ r ∈ calmRegs, isPend r = false) r hr) fun hx => hR _ hx hr
  have hcfg : t.cfg = s.cfg := h.areas .cfg (hA .cfg (by decide))
  have hfabric : t.fabric = s.fabric := h.areas .fabric (hA .fabric (by decide))
  have hrepair : t.repair = s.repair := h.areas .repair (hA .repair (by decide))
  have hdbg : t.dbg = s.dbg := h.areas .dbg (hA .dbg (by decide))
  obtain ⟨-, -, -, -, hdue, -⟩ := h.areas .dev (hA .dev (by decide))
  exact {
    part := h.part, words := hwords, due := hdue, net := h.areas .net (hA .net (by decide)), resume := by rw [hdbg]
    host := h.areas .host (hA .host (by decide)), load := by rw [hcfg], transfer := by rw [hcfg], queued := by rw [hcfg]
    frames := by rw [hcfg], spans := by rw [hcfg], settling := by rw [hcfg], released := by rw [hcfg], releases := by rw [hcfg]
    resetIsDue := State.resetIsDue_congr hcfg hrepair
    repairWaits := State.repairWaits_congr hrepair (h.areas .record (hA .record (by decide))) hwords
    brownout := by rw [hfabric], spent := by rw [hfabric]
    clear := fun x => by simp only [State.clear, hfabric, imp_self] }

theorem SameWork.trans {s t u : State} (h : SameWork s t) (g : SameWork t u) : SameWork s u where
  part := g.part.trans h.part
  words r hr i := (g.words r hr i).trans (h.words r hr i)
  due := g.due.trans h.due
  net := g.net.trans h.net
  resume := g.resume.trans h.resume
  host := g.host.trans h.host
  load := g.load.trans h.load
  transfer := g.transfer.trans h.transfer
  queued := g.queued.trans h.queued
  frames := g.frames.trans h.frames
  spans := g.spans.trans h.spans
  settling := g.settling.trans h.settling
  released := g.released.trans h.released
  releases := g.releases.trans h.releases
  resetIsDue := g.resetIsDue.trans h.resetIsDue
  repairWaits := g.repairWaits.trans h.repairWaits
  brownout := g.brownout.trans h.brownout
  spent := g.spent.trans h.spent
  clear x hx := h.clear x (g.clear x hx)

/-- An update of debug's own state lets nothing go on but what answers of its accesses let go on. -/
theorem SameWork.setDebug (s : State) {d : DebugState} (hd : d.resume = s.dbg.resume) : SameWork s (s.setDebug d) :=
  ⟨rfl, fun _ _ _ => rfl, rfl, rfl, hd, rfl, rfl, rfl, rfl, rfl, rfl, rfl, rfl, rfl, rfl, rfl, rfl, rfl, fun _ h => h⟩

/-- The reset of registers that do not say whether work that waits can go on lets none go on. -/
theorem SameWork.resetRegs (s : State) {which : Reg → Nat → Bool} (h : ∀ r ∈ calmRegs, ∀ i, which r i = false) :
    SameWork s (s.resetRegs which) := by
  have hwords : ∀ r ∈ calmRegs, ∀ i, (s.resetRegs which).word r i = s.word r i := fun r hr i =>
    State.word_resetRegs_of_not s (h r hr i)
  exact ⟨rfl, hwords, rfl, rfl, rfl, rfl, rfl, rfl, rfl, rfl, rfl, rfl, rfl, rfl, rfl, State.repairWaits_congr rfl rfl hwords, rfl, rfl,
    fun _ h => h⟩

theorem SameWork.tapReset (s : State) : SameWork s s.tapReset := by
  rw [State.tapReset_eq]
  exact (SameWork.of_kept (Kept.boundaryLeft s) (by decide) (by decide)).trans (SameWork.setDebug _ rfl)

theorem State.part_dbgReset (s : State) : s.dbgReset.part = s.part := by
  rw [State.dbgReset_eq]
  exact (Kept.tapReset s).part

theorem State.pending_dbgReset (s : State) : s.dbgReset.pending = s.pending := by
  rw [State.dbgReset_eq]
  exact (Kept.tapReset s).pending

theorem State.ledger_dbgReset (s : State) : s.dbgReset.ledger = s.ledger := by
  rw [State.dbgReset_eq]
  exact (Kept.tapReset s).areas .ledger (by decide)

/-- A DBG reset lets no work go on. -/
theorem SameWork.dbgReset {s : State} (hs : s.dbg.resume = []) : SameWork s s.dbgReset := by
  have hreset := (SameWork.tapReset s).trans (SameWork.resetRegs s.tapReset (which := ofDbg)
    fun r hr _ => (by decide : ∀ r ∈ calmRegs, ofDbg r 0 = false) r hr)
  rw [State.dbgReset_eq]
  exact hreset.trans (SameWork.setDebug _ (hreset.resume.trans hs).symm)

theorem State.calm_dbgReset {s : State} (h : s.calm = true) : s.dbgReset.calm = true := by
  obtain ⟨-, -, hresume, -⟩ := (State.calm_iff s).1 h
  exact (SameWork.dbgReset hresume).calm h

-- ------------------------------------------------------------------ DEBUG entries (R441)

theorem Kept.freeWord (s : State) : Kept s s.freeWord.2 [] [.fresh] := Kept.putFresh ..

theorem Kept.journalDebug (s : State) (origin : BitVec 8) (aux : Nat) : Kept s (s.journalDebug origin aux) [] [.fresh, .ledger] := by
  have h1 := (Kept.start s [] [.fresh, .ledger]).via (Kept.freeWord s) (by simp) (by simp)
  have h2 := h1.via (Kept.freeWord _) (by simp) (by simp)
  have h3 := h2.via (Kept.freeWord _) (by simp) (by simp)
  have h4 := h3.via (Kept.freeWord _) (by simp) (by simp)
  exact h4.via (Kept.journal ..) (by simp) (by simp)

theorem State.journalDebug_eq (s : State) (origin : BitVec 8) (aux : Nat) :
    ∃ b, s.journalDebug origin aux = (s.putFresh (s.fresh + 4)).journal origin 0x0C aux b := ⟨_, rfl⟩

/-- One DEBUG entry is made. -/
theorem DebugEntered.of_journalDebug {s u t : State} {origin : BitVec 8} {aux : Nat} (hu : u.ledger = s.ledger)
    (ht : t.ledger = (u.journalDebug origin aux).ledger) : DebugEntered s t origin aux := by
  intro hroom
  obtain ⟨b, hb⟩ := u.journalDebug_eq origin aux
  obtain ⟨seq, time, hbuffer⟩ := Entered.of_journal (s := s) (u := u.putFresh (u.fresh + 4)) hu (hb ▸ ht) hroom
  exact ⟨_, hbuffer, rfl, rfl, rfl⟩

-- ------------------------------------------------------------------ the lock (R421)

/-- What the key makes of the part, but for the entry. -/
def State.locked (s : State) : State := s.dbgReset.setDebug { s.dbgReset.dbg with locked := true }

theorem State.lock_eq (s : State) (who : Who) : s.lock who = s.locked.journalDebug who.origin 1 := by
  rw [State.lock, State.locked]

theorem State.calm_lock {s : State} (who : Who) (h : s.calm = true) : (s.lock who).calm = true := by
  obtain ⟨-, -, hresume, -⟩ := (State.calm_iff s).1 h
  rw [State.lock_eq, (Kept.journalDebug ..).calm (by decide) (by decide)]
  exact ((SameWork.dbgReset hresume).trans (SameWork.setDebug _ (d := { s.dbgReset.dbg with locked := true }) rfl)).calm h

/-- A command that keeps the part and the queue, and leaves the state calm, ends with its own effect and event delivery. -/
theorem State.command_settles {s : State} {f : State → State} (h : s.ready = true) (hc : (f s).calm = true)
    (hpart : (f s).part = s.part) (hpending : (f s).pending = s.pending) : s.command f = .next (f s).settle := by
  rw [State.command_ready h hc, State.became, ← hpart, ← hpending]

/-- What a command's effect makes of its state is all that its outcome depends on. -/
theorem State.command_congr {s : State} {f g : State → State} (h : f s = g s) : s.command f = s.command g := by
  rw [State.command, State.command, h]

/-- The DBG reset's next state. -/
theorem exec_dbgReset_ready {s : State} (h : s.ready = true) : exec (.dbgReset none) s = .next s.dbgReset.settle :=
  State.command_settles h (State.calm_dbgReset ((s.ready_iff).1 h).2) s.part_dbgReset s.pending_dbgReset

/-- The lock's next state. -/
theorem command_lock {s : State} (h : s.ready = true) (who : Who) : s.command (fun s => s.lock who) = .next (s.lock who).settle := by
  have hlocked : Kept s.dbgReset s.locked [] [.dbg] := Kept.setDebug ..
  have hj := hlocked.trans (Kept.journalDebug s.locked who.origin 1)
  rw [← State.lock_eq] at hj
  exact State.command_settles h (State.calm_lock who ((s.ready_iff).1 h).2) (hj.part.trans s.part_dbgReset)
    (hj.pending.trans s.pending_dbgReset)

-- ------------------------------------------------------------------ the write of the key (R421)

theorem csrOffset_dbgAuth : csrOffset .DBG_AUTH 0 = 0x90000 := by decide +kernel
theorem regAt_dbgAuth : regAt 0x90000 = some (.DBG_AUTH, 0) := by decide +kernel
theorem State.present_dbgAuth (s : State) : s.present .DBG_AUTH 0 = true := rfl
theorem State.writeDbg_dbgAuth (s : State) (who : Who) (data : Word) : s.writeDbg who .DBG_AUTH 0 data = s.writeAuth who data := rfl

/-- No guard holds DBG.AUTH, and no authorization keeps a write of it back. -/
theorem State.csrWrite_dbgAuth (s : State) (data : Word) (who : Who) : s.csrWrite 0x90000 data who = s.writeAuth who data := by
  have hheld : s.guardHeld .DBG_AUTH 0 data = false := by
    have hkind : ∀ old, changesKind (regSpec .DBG_AUTH).fields .rwl old data = false := fun _ => rfl
    simp [State.guardHeld, hkind]
  have hgroup : regGroup .DBG_AUTH = 9 := by decide
  simp [State.csrWrite, inStream, tcmAt, msixTableWord, msixPbaWord, regAt_dbgAuth, State.present_dbgAuth,
    State.writeCsr, hheld, hgroup, State.dbgGate, State.dbgBarred, State.writeDbg_dbgAuth]

theorem State.csrAccess_dbgAuth (s : State) (data : Word) (who : Who) :
    s.csrAccess 0x90000 (some data) false who .none = (some 0, s.csrWrite 0x90000 data who) := by
  unfold State.csrAccess
  rw [regAt_dbgAuth]

/-- A write of the register by its offset, where its owner is reached, is a write of the key. -/
theorem State.registerWrite_dbgAuth {s : State} (hb : s.csrBlocked (csrOffset .DBG_AUTH 0) = none) (data : Word) (who : Who) :
    s.registerWrite (csrOffset .DBG_AUTH 0) data who = s.writeAuth who data := by
  rw [csrOffset_dbgAuth] at hb ⊢
  rw [State.registerWrite, hb, State.csrAccess_dbgAuth, State.csrWrite_dbgAuth]
  rfl

theorem State.writeAuth_lock (s : State) (who : Who) {low : Nat} (hlow : low < 65536) :
    s.writeAuth who (BitVec.ofNat 32 (0x10C60000 + low)) = s.lock who := by
  have hkey : fieldOf (BitVec.ofNat 32 (0x10C60000 + low)) 16 16 = 0x10C6 := by
    rw [fieldOf, BitVec.toNat_ofNat]
    omega
  rw [State.writeAuth, hkey]
  rfl

/-- Settles O57: the lock is a DBG reset with LOCKED set and a DEBUG entry, and the write of the key is the lock. -/
theorem lockKey : Obligations.LockKey := by
  unfold Obligations.LockKey
  intro s u who hs hu
  obtain rfl : s.dbgReset.settle = u := by
    rw [exec_dbgReset_ready hs] at hu
    exact Host.Outcome.next.inj hu
  have hlocked : Kept s.dbgReset s.locked [] [.dbg] := Kept.setDebug ..
  have hj := Kept.journalDebug s.locked who.origin 1
  rw [← State.lock_eq] at hj
  have ht := (s.lock who).settle_quiet.toKept
  have hreset := s.dbgReset.settle_quiet.toKept
  have hdbg : s.dbgReset.settle.dbg = s.dbgReset.dbg := hreset.areas .dbg List.not_mem_nil
  have hpins : s.dbgReset.settle.pins = s.dbgReset.pins := hreset.areas .pins List.not_mem_nil
  refine ⟨_, command_lock hs who, ?_, fun r i hp => ?_, ?_, ?_, fun hb low hlow => ?_⟩
  · rw [hdbg]
    exact (ht.areas .dbg List.not_mem_nil).trans (hj.areas .dbg (by decide))
  · rw [State.settle_word _ r i hp, State.settle_word _ r i hp, hj.regs r i hp List.not_mem_nil]
    exact hlocked.regs r i hp List.not_mem_nil
  · rw [hpins]
    exact ((ht.areas .pins List.not_mem_nil).trans (hj.areas .pins (by decide))).trans (hlocked.areas .pins (by decide))
  · refine DebugEntered.of_journalDebug (u := s.locked) s.ledger_dbgReset ?_
    rw [← State.lock_eq]
    exact ht.areas .ledger List.not_mem_nil
  · have hwrite : s.registerWrite (csrOffset .DBG_AUTH 0) (BitVec.ofNat 32 (0x10C60000 + low)) who = s.lock who :=
      (State.registerWrite_dbgAuth hb _ who).trans (s.writeAuth_lock who hlow)
    have hexec : exec (.registerWrite who (csrOffset .DBG_AUTH 0) (BitVec.ofNat 32 (0x10C60000 + low))) s =
        s.command fun s => s.registerWrite (csrOffset .DBG_AUTH 0) (BitVec.ofNat 32 (0x10C60000 + low)) who := rfl
    rw [hexec, State.command_congr (f := fun s => s.registerWrite _ _ who) (g := fun s => s.lock who) hwrite]
    exact command_lock hs who

end Sys2Proof.Machine
end

section
/-! PROOF. A warning that event delivery takes back: the statement of O41 asks nothing of why the watchdog is paused. -/

namespace Sys2Proof.Machine

/-- Core 0 runs, and its watchdog counts though it is marked as paused by a STOPPED core. -/
def pauseOver : State :=
  let s := (poweredUp.setF F.PWR_REGION_STATUS_ON 0 0x7FF).setF F.SEQ_CORE_STATUS_STATE 0 1
  s.setDog 0 { held := 0x80000000, since := some 0, reason := 2, warned := false }

/-- The watchdog resumes from the pause as the command ends (R382): its count begins anew, without a warning. -/
theorem pauseOver_warned : viewAfter (fun t => (t.dog 0).any (·.warned)) (exec (.warn 0) pauseOver) = some false := by decide +kernel

/-- Refutes O41: the warning of `pauseOver`'s watchdog ends with the pause, within the same command. -/
theorem not_watchdogsAndThrottle : ¬ Obligations.WatchdogsAndThrottle := by
  unfold Obligations.WatchdogsAndThrottle
  rintro ⟨-, -, hwarn, -⟩
  obtain ⟨t, ht, -, hwarned, -⟩ := hwarn pauseOver 0 { held := 0x80000000, since := some 0, reason := 2, warned := false } 0
    (by decide +kernel) (by decide +kernel) (by decide +kernel) rfl rfl (by decide +kernel)
  have hview := pauseOver_warned
  rw [ht, viewAfter, hwarned] at hview
  exact absurd hview (by decide)

end Sys2Proof.Machine
end

section
/-! PROOF. A command whose effect is known, what event delivery leaves of it, and what was sent outward with it. -/

namespace Sys2Proof.Machine

-- ------------------------------------------------------------------ commands with a known effect

/-- A command on a ready state whose effect u leaves what could wait alone: it ends with u and event delivery. -/
theorem Runs.of_effect {c : Instr} {s u : State} {f : State → State} {P : State → Prop} {R : List (Reg × Nat)} {A : List Area}
    (hc : exec c s = s.command f) (h : s.ready = true) (hf : f s = u) (k : Kept s u R A) (hA : ∀ a ∈ calmAreas, a ∉ A)
    (hR : ∀ x ∈ R, x.1 ∉ calmRegs) (hP : ∀ t, Kept u t [] [] → Kept s t R A → P t) : Runs c s P := by
  subst hf
  exact Runs.of_command hc h k hA hR fun t _ => hP t

/-- The same where the effect is shown to leave the state calm. -/
theorem Runs.of_calmEffect {c : Instr} {s u : State} {f : State → State} {P : State → Prop} {R : List (Reg × Nat)} {A : List Area}
    (hc : exec c s = s.command f) (h : s.ready = true) (hf : f s = u) (k : Kept s u R A) (hA : s.calm = true → u.calm = true)
    (hP : ∀ t, Kept u t [] [] → Kept s t R A → P t) : Runs c s P := by
  subst hf
  exact Runs.of_calm hc h k hA fun t _ => hP t

-- ------------------------------------------------------------------ what event delivery leaves

section
variable {u t : State} (h : Kept u t [] [])
include h

theorem Kept.word_eq {r : Reg} (hp : isPend r = false) (i : Nat) : t.word r i = u.word r i := h.regs r i hp List.not_mem_nil
theorem Kept.f_eq {F : Fld} (hp : isPend F.reg = false) (i : Nat) : t.f F i = u.f F i := h.f F i hp List.not_mem_nil
theorem Kept.pair_eq {lo hi : Reg} (hlo : isPend lo = false) (hhi : isPend hi = false) (i : Nat) : t.pair lo hi i = u.pair lo hi i := by
  simp only [State.pair, h.word_eq hlo, h.word_eq hhi]
theorem Kept.store_eq : t.store = u.store := h.areas .store List.not_mem_nil
theorem Kept.time_eq : t.time = u.time := (h.areas .clock List.not_mem_nil).1
theorem Kept.now_eq : t.now = u.now := by
  obtain ⟨htime, hoffset, -⟩ := h.areas .clock List.not_mem_nil
  rw [State.now, htime, hoffset, State.now]

/-- Event delivery sends nothing but messages. -/
theorem SentOut.of_quiet {s : State} {l : List Out} (hu : u.out = s.out ++ l) : SentOut s t l := by
  obtain ⟨m, hm, hall⟩ := h.areas .out List.not_mem_nil
  exact ⟨m, by rw [hm, hu], hall⟩

end

/-- A refusal as a command's whole effect. -/
theorem Runs.of_refusal {c : Instr} {s : State} {f : State → State} {F : Fld} {j : Nat} {who : Who} {why : Reason} {r : Reg} {i n : Nat}
    (hc : exec c s = s.command f) (h : s.ready = true) (hf : f s = (s.raise F j).journalRefusal who why r i n)
    (hp : isPend F.reg = false) (hr : r ≠ F.reg) (hcalm : F.reg ∉ calmRegs) :
    Runs c s fun t => Refused s t F j who why r i n :=
  Runs.of_effect hc h hf ((Kept.raise s F j).trans (Kept.journalRefusal ..)) (by simp [calmAreas]) (by simpa using hcalm)
    fun _ hq hk => Refused.of_raise hp hr (fun _ _ hq' => hq.word_eq hq' _) hq hk

-- ------------------------------------------------------------------ fields after an update

/-- Fields of other registers stay. -/
theorem State.f_setF_otherReg (s : State) {F G : Fld} (h : G.reg ≠ F.reg) (i j v : Nat) : (s.setF F i v).f G j = s.f G j := by
  rw [State.f, State.word_setF, if_neg fun e => h e.1, State.f]

/-- Other fields of the register stay. -/
theorem State.f_setF_otherField (s : State) {F G : Fld} (h : F.lo + F.width ≤ 32) (hd : G.lo + G.width ≤ F.lo ∨ F.lo + F.width ≤ G.lo)
    (i j v : Nat) : (s.setF F i v).f G j = s.f G j := State.f_setF_other s F G i j v h (.inr (.inr hd))

end Sys2Proof.Machine
end

section
/-! PROOF. FORMAT, MOUNT and UNMOUNT of the volume (R347, R348, R355). -/

namespace Sys2Proof.Machine

/-- A field that is its whole register. -/
theorem withField_all (v : Word) (x : Nat) : withField v 0 32 x = BitVec.ofNat 32 x := by
  apply BitVec.eq_of_toNat_eq
  simp [withField_toNat v x (lo := 0) (w := 32) (by decide), Nat.mod_one, v.isLt]

-- ------------------------------------------------------------------ BUSY (R345)

theorem Kept.storeBusy (s : State) : Kept s s.storeBusy [(.STORE_STATUS, 0)] [] := Kept.setF ..

theorem State.storeBusy_of_command {s : State} (h : s.store.command ≠ 0) : s.storeBusy = s.setF F.STORE_STATUS_BUSY 0 1 := by
  simp [State.storeBusy, h]

/-- BUSY says that a FORMAT, a MOUNT or an ATTACH runs. -/
theorem State.f_storeBusy (s : State) : s.storeBusy.f F.STORE_STATUS_BUSY 0 = 1 ↔
    s.store.command ≠ 0 ∨ ∃ k, k < 8 ∧ s.driveState k = 2 := by
  rw [State.storeBusy, State.f_setF_same _ _ _ _ (by decide)]
  by_cases hruns : (s.store.command != 0 || (List.range 8).any fun d => s.driveState d == 2) = true
  · rw [if_pos hruns]
    simpa using hruns
  · rw [if_neg hruns]
    simpa using hruns

theorem State.driveState_storeBusy (s : State) : s.storeBusy.driveState = s.driveState := by
  funext d
  simp [State.storeBusy, State.driveState, State.f, State.word_setF]

-- ------------------------------------------------------------------ the drives of the volume (R347)

theorem State.nodup_volumeDrives (s : State) : s.volumeDrives.Nodup := (List.nodup_range).filter _

theorem State.drive_setDrive (s : State) (d k : Nat) (v : Drive) : (s.setDrive d v).drive k = if k = d then v else s.drive k :=
  Sparse.get_set ..

/-- What the volume is depends on CFG alone, and what its drives show on their registers. -/
theorem State.volumeDrives_congr {s t : State} (h : t.word .STORE_CFG 0 = s.word .STORE_CFG 0) : t.volumeDrives = s.volumeDrives := by
  rw [State.volumeDrives, h, State.volumeDrives]

theorem State.someNotReady_congr {s t : State} (hcfg : t.word .STORE_CFG 0 = s.word .STORE_CFG 0) (hd : t.driveState = s.driveState) :
    t.someNotReady = s.someNotReady := by
  rw [State.someNotReady, State.volumeDrives_congr hcfg, hd, State.someNotReady]

/-- A field of another register than CFG and DRV_STATUS says nothing of the drives. -/
theorem State.someNotReady_setF (s : State) {G : Fld} (hcfg : Reg.STORE_CFG ≠ G.reg) (hdrive : Reg.STORE_DRV_STATUS ≠ G.reg)
    (i v : Nat) : (s.setF G i v).someNotReady = s.someNotReady := by
  refine State.someNotReady_congr ?_ ?_
  · rw [State.word_setF, if_neg fun h => hcfg h.1]
  · funext d
    exact State.f_setF_otherReg s (F := G) (G := F.STORE_DRV_STATUS_STATE) hdrive i d v

-- ------------------------------------------------------------------ the commands begin (R347, R348)

/-- A running command c, with what its checks found. -/
def State.storeBegins (s : State) (command cause : Nat) : State :=
  (s.putStore { s.store with command := command, cause := cause }).setF F.STORE_STATUS_BUSY 0 1

theorem Kept.storeBegins (s : State) (command cause : Nat) : Kept s (s.storeBegins command cause) [(.STORE_STATUS, 0)] [.store] :=
  (Kept.putStore ..).trans (Kept.setF ..)

theorem State.storeFormat_of_free {s : State} (h : s.volumeBarred = false) (who : Who) :
    s.storeFormat who = s.storeBegins 3 (if s.someNotReady then 1 else 0) := by
  rw [State.storeFormat, h, if_neg (by decide), State.storeBusy_of_command (by simp), State.storeBegins]

theorem State.storeMount_of_free {s : State} (h : s.volumeBarred = false) (who : Who) :
    s.storeMount who = s.storeBegins 4 s.mountCause := by
  rw [State.storeMount, h, if_neg (by decide), State.storeBusy_of_command (by simp), State.storeBegins]

/-- A command that begins: what runs, and BUSY. -/
theorem Runs.storeBegins {c : Instr} {s : State} {f : State → State} {command cause : Nat} (hc : exec c s = s.command f)
    (hs : s.ready = true) (hf : f s = s.storeBegins command cause) :
    Runs c s fun t =>
      t.store = { s.store with command := command, cause := cause } ∧
      t.word .STORE_STATUS 0 = changed (s.word .STORE_STATUS 0) [(F.STORE_STATUS_BUSY, 1)] ∧ Kept s t [(.STORE_STATUS, 0)] [.store] :=
  Runs.of_effect hc hs hf (Kept.storeBegins ..) (by decide) (by decide) fun t hq hk =>
    ⟨by rw [hq.store_eq]; simp [State.storeBegins], by rw [hq.word_eq rfl]; simp [State.storeBegins, State.word_setF, changed], hk⟩

theorem State.volumeBarred_of {s : State} (h : s.f F.STORE_STATUS_MOUNTED 0 = 1 ∨ s.store.command ≠ 0 ∨ s.volumeDrives = []) :
    s.volumeBarred = true := by
  rcases h with h | h | h <;> simp [State.volumeBarred, State.on, h]

-- ------------------------------------------------------------------ the commands end (R347, R348)

/-- The command no longer runs. -/
def State.storeEnds (s : State) : State := (s.putStore { s.store with command := 0, cause := 0 }).storeBusy

theorem Kept.storeEnds (s : State) : Kept s s.storeEnds [(.STORE_STATUS, 0)] [.store] := (Kept.putStore ..).trans (Kept.storeBusy _)

theorem State.driveState_storeEnds (s : State) : s.storeEnds.driveState = s.driveState := State.driveState_storeBusy _

theorem State.drive_storeEnds (s : State) : s.storeEnds.drive = s.drive := rfl

theorem State.volumeDrives_storeEnds (s : State) : s.storeEnds.volumeDrives = s.volumeDrives :=
  State.volumeDrives_congr ((Kept.storeEnds s).regs _ _ rfl (by decide))

theorem State.catalogueDrives_storeEnds (s : State) : s.storeEnds.catalogueDrives = s.catalogueDrives := by
  rw [State.catalogueDrives, State.volumeDrives_storeEnds, State.catalogueDrives]

theorem State.someNotReady_storeEnds (s : State) : s.storeEnds.someNotReady = s.someNotReady :=
  State.someNotReady_congr ((Kept.storeEnds s).regs _ _ rfl (by decide)) s.driveState_storeEnds

theorem State.catalogue_storeEnds (s : State) : s.storeEnds.catalogue = s.catalogue := by
  rw [State.catalogue, State.catalogueDrives_storeEnds, State.driveState_storeEnds, State.drive_storeEnds, State.catalogue]

theorem State.stripesOf_storeEnds (s : State) : s.storeEnds.stripesOf = s.stripesOf := rfl

theorem State.store_storeEnds (s : State) : s.storeEnds.store = { s.store with command := 0, cause := 0 } := rfl

/-- BUSY once the command has ended: an attach may still run. -/
theorem State.busyUntil_of_ended {s t : State} (hcommand : t.store.command = 0)
    (hbusy : t.f F.STORE_STATUS_BUSY 0 = s.storeEnds.f F.STORE_STATUS_BUSY 0) : s.BusyUntil t 8 := by
  have hends : (s.putStore { s.store with command := 0, cause := 0 }).driveState = s.driveState := rfl
  rw [State.BusyUntil, hbusy, State.storeEnds, State.f_storeBusy, hcommand, hends]
  constructor
  · rintro (h | ⟨k, hk, h⟩)
    · exact absurd rfl h
    · exact .inr ⟨k, hk, by omega, h⟩
  · rintro (h | ⟨k, hk, -, h⟩)
    · exact absurd rfl h
    · exact .inr ⟨k, hk, h⟩

/-- CAUSE set as a command ends. -/
theorem State.f_storeCause (s : State) {n : Nat} (hn : n < 8) : (s.setF F.STORE_STATUS_CAUSE 0 n).f F.STORE_STATUS_CAUSE 0 = n := by
  rw [State.f_setF_same _ _ _ _ (by decide)]
  exact Nat.mod_eq_of_lt (Nat.lt_trans hn (by decide))

/-- A command that ends with a cause changes no more than BUSY and CAUSE. -/
theorem Runs.storeFails {s : State} (hs : s.ready = true) {cause : Nat} (hcause : cause < 8)
    (hf : s.storeCommandDone = s.storeEnds.setF F.STORE_STATUS_CAUSE 0 cause) :
    Runs .storeCommandDone s fun t =>
      t.f F.STORE_STATUS_CAUSE 0 = cause ∧ t.f F.STORE_STATUS_MOUNTED 0 = s.f F.STORE_STATUS_MOUNTED 0 ∧
      t.store = { s.store with command := 0, cause := 0 } ∧ s.BusyUntil t 8 ∧ Kept s t [(.STORE_STATUS, 0)] [.store] := by
  refine Runs.of_effect (f := State.storeCommandDone) rfl hs hf
    ((Kept.storeEnds s).via (Kept.setF ..) (by decide) (by decide)) (by decide) (by decide) fun t hq hk => ?_
  have hstore : t.store = { s.store with command := 0, cause := 0 } := hq.store_eq
  refine ⟨(hq.f_eq rfl 0).trans (State.f_storeCause _ hcause), ?_, hstore, State.busyUntil_of_ended (by rw [hstore]) ?_, hk⟩
  · rw [hq.f_eq rfl, State.f_setF_otherField _ (by decide) (by decide), State.storeEnds, State.storeBusy,
      State.f_setF_otherField _ (by decide) (by decide), State.putStore_f]
  · rw [hq.f_eq rfl, State.f_setF_otherField _ (by decide) (by decide)]

-- ------------------------------------------------------------------ a FORMAT that succeeds (R347)

/-- A drive's header, once a FORMAT has written it. -/
def State.newHeader (s : State) (d : Nat) : VolumeHeader := ⟨s.volumeDrives.length, d, s.stripesOf s.volumeDrives, s.now⟩

/-- A FORMAT writes a drive. -/
def State.formatDrive (h : Nat → VolumeHeader) (s : State) (d : Nat) : State :=
  (s.setDrive d { s.drive d with header := some (h d), entries := [] }).emit (.driveBlock d 0 (headerBlock (h d)))

theorem Kept.formatDrive (h : Nat → VolumeHeader) (s : State) (d : Nat) : Kept s (s.formatDrive h d) [] [.store, .out] :=
  (Kept.setDrive ..).trans (Kept.emit ..)

/-- The drives written one after another. -/
def State.formatDrives (s : State) (h : Nat → VolumeHeader) (ds : List Nat) : State := ds.foldl (State.formatDrive h) s

theorem Kept.formatDrives (s : State) (h : Nat → VolumeHeader) (ds : List Nat) : Kept s (s.formatDrives h ds) [] [.store, .out] :=
  Kept.foldl _ ds s fun u d _ => Kept.formatDrive h u d

theorem State.drive_formatDrives (h : Nat → VolumeHeader) {d : Nat} (ds : List Nat) (s : State) (hds : ds.Nodup) :
    (s.formatDrives h ds).drive d =
      if d ∈ ds then { s.drive d with header := some (h d), entries := [] } else s.drive d := by
  induction ds generalizing s with
  | nil => rfl
  | cons k ds ih =>
    obtain ⟨hk, hds⟩ := List.nodup_cons.1 hds
    have hdrive : (s.formatDrive h k).drive d =
        if d = k then { s.drive k with header := some (h k), entries := [] } else s.drive d := State.drive_setDrive ..
    rw [State.formatDrives, List.foldl_cons]
    rw [← State.formatDrives, ih _ hds, hdrive]
    by_cases hdk : d = k
    · subst hdk
      simp [hk]
    · simp [hdk]

theorem State.out_formatDrives (h : Nat → VolumeHeader) (ds : List Nat) (s : State) :
    (s.formatDrives h ds).out = s.out ++ ds.map fun d => .driveBlock d 0 (headerBlock (h d)) := by
  induction ds generalizing s with
  | nil => simp [State.formatDrives]
  | cons k ds ih =>
    have hout : (s.formatDrive h k).out = s.out ++ [.driveBlock k 0 (headerBlock (h k))] := rfl
    rw [State.formatDrives, List.foldl_cons, ← State.formatDrives, ih, hout, List.map_cons, List.append_assoc, List.singleton_append]

theorem State.channels_formatDrives (h : Nat → VolumeHeader) (ds : List Nat) (s : State) :
    (s.formatDrives h ds).store.channels = s.store.channels ∧ (s.formatDrives h ds).store.command = s.store.command := by
  induction ds generalizing s with
  | nil => exact ⟨rfl, rfl⟩
  | cons k ds ih =>
    rw [State.formatDrives, List.foldl_cons, ← State.formatDrives]
    exact ih _

/-- The header that a FORMAT writes at this moment on drive d. -/
def State.headerNow (s : State) (drives stripes d : Nat) : VolumeHeader := ⟨drives, d, stripes, s.now⟩

/-- The clock does not move while the drives are written: every header holds the time of the first. -/
theorem State.foldl_format (drives stripes : Nat) (s : State) (ds : List Nat) (u : State) (hu : u.now = s.now) :
    ds.foldl (fun u d => u.formatDrive (u.headerNow drives stripes) d) u = u.formatDrives (s.headerNow drives stripes) ds := by
  induction ds generalizing u with
  | nil => rw [State.formatDrives, List.foldl_nil, List.foldl_nil]
  | cons k ds ih =>
    have hnow : (u.formatDrive (s.headerNow drives stripes) k).now = s.now := ((Kept.formatDrive ..).now (by decide)).trans hu
    have hheader : u.headerNow drives stripes = s.headerNow drives stripes := by
      funext d
      rw [State.headerNow, hu, State.headerNow]
    rw [State.formatDrives, List.foldl_cons, List.foldl_cons, hheader, ih _ hnow, State.formatDrives]

theorem State.formatDone_eq (s : State) : s.formatDone = s.formatDrives s.newHeader s.volumeDrives :=
  State.foldl_format s.volumeDrives.length (s.stripesOf s.volumeDrives) s s.volumeDrives s rfl

/-- The end of a FORMAT that succeeds. -/
def State.formatEnds (s : State) : State := (s.storeEnds.formatDrives s.newHeader s.volumeDrives).setF F.STORE_STATUS_CAUSE 0 0

theorem Kept.formatEnds (s : State) : Kept s s.formatEnds [(.STORE_STATUS, 0)] [.store, .out] :=
  (((Kept.storeEnds s).weaken (by decide) (by decide)).via (Kept.formatDrives ..) (by decide) (by decide)).via (Kept.setF ..)
    (by decide) (by decide)

theorem State.newHeader_storeEnds (s : State) : s.storeEnds.newHeader = s.newHeader := by
  funext d
  rw [State.newHeader, State.volumeDrives_storeEnds, State.stripesOf_storeEnds, State.newHeader]
  rfl

theorem State.storeCommandDone_format {s : State} (hcommand : s.store.command = 3) (hcause : s.store.cause = 0)
    (hready : s.someNotReady = false) : s.storeCommandDone = s.formatEnds := by
  have hdone : s.storeCommandDone = s.storeEnds.formatDone.setF F.STORE_STATUS_CAUSE 0 0 := by
    rw [State.storeCommandDone, if_pos hcommand, if_neg]
    · rfl
    · simp [hcause, ← State.storeEnds.eq_1, State.someNotReady_storeEnds, hready]
  rw [hdone, State.formatDone_eq, State.newHeader_storeEnds, State.volumeDrives_storeEnds, State.formatEnds]

theorem State.drive_formatEnds (s : State) (d : Nat) : s.formatEnds.drive d =
    if d ∈ s.volumeDrives then { s.drive d with header := some (s.newHeader d), entries := [] } else s.drive d :=
  State.drive_formatDrives s.newHeader s.volumeDrives s.storeEnds s.nodup_volumeDrives

theorem State.out_formatEnds (s : State) :
    s.formatEnds.out = s.out ++ s.volumeDrives.map fun d => .driveBlock d 0 (headerBlock (s.newHeader d)) :=
  State.out_formatDrives s.newHeader s.volumeDrives s.storeEnds

/-- What a successful FORMAT leaves of the store, its drives apart. -/
theorem Runs.formatEnds {s : State} (hs : s.ready = true) (hdone : s.storeCommandDone = s.formatEnds) :
    Runs .storeCommandDone s fun t =>
      t.f F.STORE_STATUS_CAUSE 0 = 0 ∧ t.store.command = 0 ∧ s.BusyUntil t 8 ∧ (∀ d, t.drive d = s.formatEnds.drive d) ∧
      SentOut s t (s.volumeDrives.map fun d => .driveBlock d 0 (headerBlock (s.newHeader d))) ∧
      t.store.channels = s.store.channels ∧ Kept s t [(.STORE_STATUS, 0)] [.store, .out] := by
  refine Runs.of_effect (f := State.storeCommandDone) rfl hs hdone (Kept.formatEnds s) (by decide) (by decide) fun t hq hk => ?_
  obtain ⟨hchannels, hcommand⟩ := State.channels_formatDrives s.newHeader s.volumeDrives s.storeEnds
  have hstore : t.store = s.formatEnds.store := hq.store_eq
  have hends : t.store.command = 0 := (congrArg StoreState.command hstore).trans hcommand
  refine ⟨(hq.f_eq rfl 0).trans (State.f_storeCause _ (by decide)), hends, State.busyUntil_of_ended hends ?_, fun d => ?_,
    SentOut.of_quiet hq s.out_formatEnds, (congrArg StoreState.channels hstore).trans hchannels, hk⟩
  · rw [hq.f_eq rfl, State.formatEnds, State.f_setF_otherField _ (by decide) (by decide)]
    exact (Kept.formatDrives ..).f F.STORE_STATUS_BUSY 0 rfl List.not_mem_nil
  · rw [State.drive, hstore, ← State.drive]

-- ------------------------------------------------------------------ a MOUNT that succeeds (R348)

/-- The fields that a MOUNT which passed its checks shows. -/
def State.mounts (s : State) (top stripes : Nat) (degraded : Bool) : State :=
  let s := (s.setF F.STORE_STATUS_CAUSE 0 0).setF F.STORE_CAT_SEQ_VALUE 0 top
  ((if degraded then s.raise F.STORE_STATUS_CAT_DEGRADED 0 else s).setF F.STORE_STRIPES_VALUE 0 stripes).raise F.STORE_STATUS_MOUNTED 0

theorem Kept.mounts (s : State) (top stripes : Nat) (degraded : Bool) :
    Kept s (s.mounts top stripes degraded) [(.STORE_STATUS, 0), (.STORE_CAT_SEQ, 0), (.STORE_STRIPES, 0)] [] := by
  have hhead : Kept s ((s.setF F.STORE_STATUS_CAUSE 0 0).setF F.STORE_CAT_SEQ_VALUE 0 top)
      [(.STORE_STATUS, 0), (.STORE_CAT_SEQ, 0), (.STORE_STRIPES, 0)] [] :=
    (Kept.setF ..).weaken (by decide) (by decide) |>.via (Kept.setF ..) (by decide) (by decide)
  have hdegraded : Kept s (if degraded then ((s.setF F.STORE_STATUS_CAUSE 0 0).setF F.STORE_CAT_SEQ_VALUE 0 top).raise F.STORE_STATUS_CAT_DEGRADED 0
      else (s.setF F.STORE_STATUS_CAUSE 0 0).setF F.STORE_CAT_SEQ_VALUE 0 top)
      [(.STORE_STATUS, 0), (.STORE_CAT_SEQ, 0), (.STORE_STRIPES, 0)] [] := by
    cases degraded
    · exact hhead
    · exact hhead.via (Kept.raise ..) (by decide) (by decide)
  exact (hdegraded.via (Kept.setF ..) (by decide) (by decide)).via (Kept.raise ..) (by decide) (by decide)

/-- A field of an area is 0 after it was set to 0 and others of its register were set. -/
theorem State.cause_mounts (s : State) (top stripes : Nat) (degraded : Bool) :
    (s.mounts top stripes degraded).f F.STORE_STATUS_CAUSE 0 = 0 := by
  have hraised (u : State) (G : Fld) (hG : G = F.STORE_STATUS_CAT_DEGRADED ∨ G = F.STORE_STATUS_MOUNTED) :
      (u.raise G 0).f F.STORE_STATUS_CAUSE 0 = u.f F.STORE_STATUS_CAUSE 0 := by
    rcases hG with rfl | rfl <;> exact State.f_setF_otherField u (by decide) (by decide) 0 0 1
  have hset (u : State) (v : Nat) {G : Fld} (hG : F.STORE_STATUS_CAUSE.reg ≠ G.reg) :
      (u.setF G 0 v).f F.STORE_STATUS_CAUSE 0 = u.f F.STORE_STATUS_CAUSE 0 := State.f_setF_otherReg u hG 0 0 v
  have hzero : (s.setF F.STORE_STATUS_CAUSE 0 0).f F.STORE_STATUS_CAUSE 0 = 0 := State.f_storeCause s (by decide)
  rw [State.mounts, hraised _ _ (.inr rfl), hset _ _ (by decide)]
  cases degraded
  · exact (hset _ _ (by decide)).trans hzero
  · exact (hraised _ _ (.inl rfl)).trans ((hset _ _ (by decide)).trans hzero)

theorem State.catSeq_mounts (s : State) (top stripes : Nat) (degraded : Bool) :
    (s.mounts top stripes degraded).f F.STORE_CAT_SEQ_VALUE 0 = top % 2 ^ 32 := by
  rw [State.mounts, State.raise, State.f_setF_otherReg _ (by decide), State.f_setF_otherReg _ (by decide)]
  cases degraded
  · exact State.f_setF_same _ _ _ _ (by decide)
  · exact (State.f_setF_otherReg _ (by decide) ..).trans (State.f_setF_same _ _ _ _ (by decide))

theorem State.stripes_mounts (s : State) (top stripes : Nat) (degraded : Bool) :
    (s.mounts top stripes degraded).f F.STORE_STRIPES_VALUE 0 = stripes % 2 ^ 32 :=
  (State.f_setF_otherReg _ (by decide) ..).trans (State.f_setF_same _ _ _ _ (by decide))

theorem State.degraded_mounts (s : State) (top stripes : Nat) : (s.mounts top stripes true).f F.STORE_STATUS_CAT_DEGRADED 0 = 1 :=
  (State.f_setF_otherField _ (by decide) (by decide) ..).trans
    ((State.f_setF_otherReg _ (by decide) ..).trans (State.f_setF_same _ _ _ _ (by decide)))

theorem Kept.mountEnds (s : State) (top stripes : Nat) (degraded : Bool) : Kept s (s.storeEnds.mounts top stripes degraded)
    [(.STORE_STATUS, 0), (.STORE_CAT_SEQ, 0), (.STORE_STRIPES, 0)] [.store] :=
  ((Kept.storeEnds s).weaken (by decide) (by decide)).via (Kept.mounts ..) (by decide) (by decide)

theorem State.storeCommandDone_mount {s : State} (hcommand : s.store.command = 4) :
    s.storeCommandDone = s.storeEnds.mountDone s.store.cause := by
  rw [State.storeCommandDone, if_neg (by omega), if_pos hcommand, State.storeEnds]

theorem State.storeCommandDone_mounts {s : State} (hcommand : s.store.command = 4) (hcause : s.store.cause = 0)
    (hread : (s.catalogueDrives.any fun d => s.driveState d == 3) = true) :
    s.storeCommandDone = s.storeEnds.mounts (s.catalogue.foldl (fun acc e => max acc e.seq) 0)
      (((s.volumeDrives.head?.bind fun d => (s.drive d).header).map (·.stripes)).getD 0) s.someNotReady := by
  rw [State.storeCommandDone_mount hcommand, State.mountDone, State.catalogueDrives_storeEnds, State.driveState_storeEnds, hcause, hread]
  have hready (v : Nat) : ((s.storeEnds.setF F.STORE_STATUS_CAUSE 0 0).setF F.STORE_CAT_SEQ_VALUE 0 v).someNotReady = s.someNotReady := by
    rw [State.someNotReady_setF _ (by decide) (by decide), State.someNotReady_setF _ (by decide) (by decide),
      State.someNotReady_storeEnds]
  simp only [ne_eq, not_true_eq_false, if_false, Bool.not_true, Bool.false_eq_true, State.catalogue_storeEnds,
    State.volumeDrives_storeEnds, State.drive_storeEnds, State.mounts, hready]

theorem State.storeUnmount_of {s : State} (hmounted : s.f F.STORE_STATUS_MOUNTED 0 = 1) (hstopped : ∀ c, c < 8 → s.funcState (.channel c) = 0) (who : Who) :
    s.storeUnmount who = (s.setF F.STORE_STATUS_MOUNTED 0 0).setF F.STORE_STRIPES_VALUE 0 0 := by
  rw [State.storeUnmount, if_neg]
  simpa [State.on, hmounted] using hstopped

theorem State.storeCommandDone_formatFails {s : State} (hcommand : s.store.command = 3)
    (hbad : s.store.cause ≠ 0 ∨ s.someNotReady = true) : s.storeCommandDone = s.storeEnds.setF F.STORE_STATUS_CAUSE 0 1 := by
  rw [State.storeCommandDone, if_pos hcommand, if_pos]
  · rfl
  · simpa [← State.storeEnds.eq_1, State.someNotReady_storeEnds] using hbad

theorem State.storeCommandDone_mountFails {s : State} (hcommand : s.store.command = 4) {n : Nat}
    (hcause : s.store.cause ≠ 0 ∧ n = s.store.cause ∨
      s.store.cause = 0 ∧ (s.catalogueDrives.any fun d => s.driveState d == 3) = false ∧ n = 6) :
    s.storeCommandDone = s.storeEnds.setF F.STORE_STATUS_CAUSE 0 n := by
  rw [State.storeCommandDone_mount hcommand, State.mountDone, State.catalogueDrives_storeEnds, State.driveState_storeEnds]
  rcases hcause with ⟨hcause, rfl⟩ | ⟨hcause, hread, rfl⟩
  · simp [hcause]
  · simp [hcause, hread]

/-- Settles O35: what runs and how it ends are the store's own state, its STATUS register and what its drives hold. -/
theorem storeVolume : Obligations.StoreVolume := by
  unfold Obligations.StoreVolume
  refine ⟨fun s who hs hstore hfree => ⟨?_, ?_⟩, fun s who hs hstore hbarred => ⟨?_, ?_⟩, fun s hs hcommand hcause hready => ?_,
    fun s hs hcommand hbad => ?_, fun s hs hcommand hcause hread => ?_, fun s hs hcommand hlow hhigh => ?_,
    fun s hs hcommand hcause hread => ?_, fun s who hs hstore hmounted hstopped => ?_⟩
  · exact Runs.storeBegins (f := fun s => if s.storeRuns then s.storeFormat who else s) rfl hs
      ((if_pos hstore).trans (State.storeFormat_of_free hfree who))
  · exact Runs.storeBegins (f := fun s => if s.storeRuns then s.storeMount who else s) rfl hs
      ((if_pos hstore).trans (State.storeMount_of_free hfree who))
  · exact Runs.of_refusal (f := fun s => if s.storeRuns then s.storeFormat who else s) rfl hs
      ((if_pos hstore).trans (if_pos (State.volumeBarred_of hbarred))) rfl (by decide) (by decide)
  · exact Runs.of_refusal (f := fun s => if s.storeRuns then s.storeMount who else s) rfl hs
      ((if_pos hstore).trans (if_pos (State.volumeBarred_of hbarred))) rfl (by decide) (by decide)
  · refine (Runs.formatEnds hs (State.storeCommandDone_format hcommand hcause hready)).imp fun t h => ?_
    obtain ⟨hnext, hzero, hended, hbusy, hdrive, hsent, hchannels, hkept⟩ := h
    refine ⟨hnext, hzero, hended, hbusy, fun d _ hd => ?_, fun d _ hd => ?_, hsent, hchannels, hkept⟩
    · rw [hdrive, State.drive_formatEnds, if_pos hd, State.newHeader]
    · rw [hdrive, State.drive_formatEnds, if_neg hd]
  · refine (Runs.storeFails hs (by decide) (State.storeCommandDone_formatFails hcommand hbad)).imp fun t h => ?_
    obtain ⟨hnext, hcause, -, hended⟩ := h
    exact ⟨hnext, hcause, hended⟩
  · refine Runs.of_effect (f := State.storeCommandDone) rfl hs (State.storeCommandDone_mounts hcommand hcause hread)
      (Kept.mountEnds ..) (by decide) (by decide) fun t hq hk => ?_
    refine ⟨(hq.f_eq rfl 0).trans (State.cause_mounts ..), (hq.f_eq rfl 0).trans (State.f_setF_same _ _ _ _ (by decide)), ?_, ?_,
      fun hdegraded => ?_, ?_, hk⟩
    · exact (hq.f_eq rfl 0).trans (State.catSeq_mounts ..)
    · exact (hq.f_eq rfl 0).trans (State.stripes_mounts ..)
    · exact (hq.f_eq rfl 0).trans (hdegraded ▸ State.degraded_mounts ..)
    · rw [hq.store_eq, (Kept.mounts ..).areas .store List.not_mem_nil, State.store_storeEnds]
  · exact Runs.storeFails hs (by omega) (State.storeCommandDone_mountFails hcommand (.inl ⟨by omega, rfl⟩))
  · exact Runs.storeFails hs (by decide) (State.storeCommandDone_mountFails hcommand (.inr ⟨hcause, hread, rfl⟩))
  · refine Runs.of_effect (f := fun s => if s.storeRuns then s.storeUnmount who else s) rfl hs
      ((if_pos hstore).trans (State.storeUnmount_of hmounted hstopped who))
      (((Kept.setF s F.STORE_STATUS_MOUNTED 0 0).weaken (by decide) (by decide)).via (Kept.setF ..) (by decide) (by decide))
      (by decide) (by decide) fun t hq hk => ⟨?_, ?_, hk⟩
    · rw [hq.word_eq rfl]
      simp [State.word_setF, changed]
    · rw [hq.word_eq rfl, State.word_setF, if_pos ⟨rfl, rfl⟩]
      exact withField_all _ 0

end Sys2Proof.Machine
end

section
/-! PROOF. The boot ROM, IC_CLAIM, DOORBELL, EVT and MTIMECMP (R376, R378, R380). -/

namespace Sys2Proof.Machine

-- ------------------------------------------------------------------ what waits in an interrupt controller (R380)

/-- Input i of core n is pending. -/
def State.inputWaits (s : State) (n i : Nat) : Bool := (s.pair .SEQ_IC_PEND_LO .SEQ_IC_PEND_HI n).testBit i

theorem State.mem_pendingInputs (s : State) (n i : Nat) : i ∈ s.pendingInputs n ↔ i < 40 ∧ s.inputWaits n i = true := by
  simp [State.pendingInputs, State.inputWaits]

/-- A bit of a register pair is a bit of the one or of the other register. -/
theorem State.pair_testBit (s : State) (lo hi : Reg) (n i : Nat) : (s.pair lo hi n).testBit i =
    if i < 32 then (s.word lo n).getLsbD i else (s.word hi n).getLsbD (i - 32) := by
  have hsplit : s.pair lo hi n = 2 ^ 32 * (s.word hi n).toNat + (s.word lo n).toNat := Nat.add_comm ..
  rw [hsplit, Nat.testBit_two_pow_mul_add _ (s.word lo n).isLt]
  rfl

theorem State.inputWaits_eq (s : State) (n i : Nat) : s.inputWaits n i =
    if i < 32 then (s.word .SEQ_IC_PEND_LO n).getLsbD i else (s.word .SEQ_IC_PEND_HI n).getLsbD (i - 32) :=
  s.pair_testBit ..

/-- What event delivery may do to the interrupt controllers: no input is cleared, and none is raised but MTIMECMP's and
those of event groups that the core takes. -/
structure InputsGrow (s t : State) : Prop where
  keeps : ∀ n i, s.inputWaits n i = true → t.inputWaits n i = true
  raises : ∀ n i, t.inputWaits n i = true → s.inputWaits n i = false →
    i = 36 ∨ i < 32 ∧ (s.word .DEV_EVT_CORE_MASK n).getLsbD i = true
  mask : ∀ n, t.word .DEV_EVT_CORE_MASK n = s.word .DEV_EVT_CORE_MASK n

theorem InputsGrow.refl (s : State) : InputsGrow s s where
  keeps _ _ h := h
  raises _ _ h h' := absurd h (by simp [h'])
  mask _ := rfl

theorem InputsGrow.trans {s t u : State} (h : InputsGrow s t) (g : InputsGrow t u) : InputsGrow s u where
  keeps n i hi := g.keeps n i (h.keeps n i hi)
  raises n i hu hs := by
    cases ht : t.inputWaits n i
    · rw [← h.mask]
      exact g.raises n i hu ht
    · exact h.raises n i ht hs
  mask n := (g.mask n).trans (h.mask n)

theorem InputsGrow.of_words {s t : State} (hlo : ∀ n, t.word .SEQ_IC_PEND_LO n = s.word .SEQ_IC_PEND_LO n)
    (hhi : ∀ n, t.word .SEQ_IC_PEND_HI n = s.word .SEQ_IC_PEND_HI n)
    (hmask : ∀ n, t.word .DEV_EVT_CORE_MASK n = s.word .DEV_EVT_CORE_MASK n) : InputsGrow s t := by
  have hsame (n i : Nat) : t.inputWaits n i = s.inputWaits n i := by rw [State.inputWaits_eq, hlo, hhi, State.inputWaits_eq]
  exact ⟨fun n i h => by rwa [hsame], fun n i h h' => by simp [← hsame, h] at h', hmask⟩

theorem InputsGrow.of_regs {s t : State} (hr : t.regs = s.regs) (hp : t.part = s.part) : InputsGrow s t := by
  have hw (r : Reg) (n : Nat) : t.word r n = s.word r n := by rw [State.word, hr, hp, State.word]
  exact InputsGrow.of_words (hw _) (hw _) (hw _)

theorem bit_of_timer {i : Nat} (h : (0x10#32).getLsbD i = true) : i = 4 := by
  rw [show 0x10#32 = BitVec.twoPow 32 4 from rfl, BitVec.getLsbD_twoPow] at h
  exact (show 4 = i by simpa using h).symm

theorem InputsGrow.foldl {α : Type} (f : State → α → State) (h : ∀ s x, InputsGrow s (f s x)) (l : List α) (s : State) :
    InputsGrow s (l.foldl f s) :=
  List.foldlRecOn l f (motive := fun t => InputsGrow s t) (InputsGrow.refl s) fun _ ht x _ => ht.trans (h _ x)

/-- A core's turn raises its event groups and, past MTIMECMP, input 36. -/
theorem State.coreLevels_grow (s : State) (pend : BitVec 32) (k : Nat) : InputsGrow s (s.coreLevels pend k) where
  mask n := (s.coreLevels_quiet pend k).regs _ n rfl List.not_mem_nil
  keeps n i h := by
    rw [State.inputWaits_eq] at h ⊢
    rw [State.word_coreLevels_lo, State.word_coreLevels_hi]
    by_cases hi : i < 32
    · rw [if_pos hi] at h ⊢
      split
      · next hn => simp [← hn, h]
      · exact h
    · rw [if_neg hi] at h ⊢
      split
      · next hn => simp [← hn.1, h]
      · exact h
  raises n i h hs := by
    rw [State.inputWaits_eq] at h hs
    rw [State.word_coreLevels_lo, State.word_coreLevels_hi] at h
    by_cases hi : i < 32
    · rw [if_pos hi] at h hs
      split at h
      · next hn =>
        subst hn
        rw [BitVec.getLsbD_or, hs, Bool.false_or, BitVec.getLsbD_and, Bool.and_eq_true] at h
        exact .inr ⟨hi, h.2⟩
      · exact absurd h (by simp [hs])
    · rw [if_neg hi] at h hs
      split at h
      · next hn =>
        rw [BitVec.getLsbD_or, ← hn.1, hs, Bool.false_or] at h
        have hbit : i - 32 = 4 := bit_of_timer h
        exact .inl (by omega)
      · exact absurd h (by simp [hs])

theorem State.hostEvent_regs (s : State) (pend : BitVec 32) (g : Nat) : (s.hostEvent pend g).regs = s.regs := by
  unfold State.hostEvent State.sendVector
  split
  · dsimp only
    split
    · rfl
    · split <;> rfl
  · rfl

theorem State.fabEvent_regs (s : State) (rising : BitVec 32) (g : Nat) : (s.fabEvent rising g).regs = s.regs := by
  unfold State.fabEvent
  split <;> rfl

theorem State.dogSync_regs (s : State) (w : Nat) : (s.dogSync w).regs = s.regs := by
  unfold State.dogSync
  split
  · rfl
  · dsimp only
    split <;> rfl

theorem State.coresLevels_grow (s : State) (pend : BitVec 32) : InputsGrow s (s.coresLevels pend) := by
  unfold State.coresLevels
  split
  · exact InputsGrow.foldl _ (fun u n => u.coreLevels_grow pend n) _ s
  · exact InputsGrow.refl s

theorem State.settle_grow (s : State) : InputsGrow s s.settle := by
  have hhost : InputsGrow s (s.hostEvents s.groups) :=
    .of_regs (foldl_same (g := State.regs) (fun u g => u.hostEvent_regs s.groups g) _ s) (s.hostEvents_quiet _).part
  have hfab (u : State) (rising : BitVec 32) : InputsGrow u (u.fabEvents rising) :=
    .of_regs (foldl_same (g := State.regs) (fun u g => u.fabEvent_regs rising g) _ u) (u.fabEvents_quiet _).part
  have hdogs (u : State) : InputsGrow u u.dogsSync :=
    .of_regs (foldl_same (g := State.regs) State.dogSync_regs _ u) u.dogsSync_quiet.part
  exact (((hhost.trans (hfab ..)).trans (hdogs _)).trans (State.coresLevels_grow ..)).trans (.of_regs rfl rfl)

-- ------------------------------------------------------------------ a command that reaches the interrupt controllers

/-- A command on a ready state whose effect u leaves what could wait alone: what event delivery leaves of u's interrupt
controllers. -/
theorem Runs.of_inputs {c : Instr} {s u : State} {f : State → State} {P : State → Prop} {R : List (Reg × Nat)} {A : List Area}
    (hc : exec c s = s.command f) (h : s.ready = true) (hf : f s = u) (k : Kept s u R A) (hA : ∀ a ∈ calmAreas, a ∉ A)
    (hR : ∀ x ∈ R, x.1 ∉ calmRegs)
    (hP : InputsGrow u u.settle → Kept u u.settle [] [] → Kept s u.settle R A → P u.settle) : Runs c s P := by
  subst hf
  refine ⟨(f s).settle, ?_, hP (f s).settle_grow (f s).settle_quiet.toKept (k.became_self ▸ k.became)⟩
  rw [hc, State.command_ready h ((k.calm hA hR).trans (((s.ready_iff).1 h).2)), k.became_self]

/-- Registers of the interrupt controllers are of those that event delivery is about. -/
theorem Kept.pends {s t : State} {R R' : List (Reg × Nat)} {A : List Area} (h : Kept s t R A)
    (hR : ∀ x ∈ R, x ∈ R' ∨ isPend x.1 = true) : Kept s t R' A where
  part := h.part
  pending := h.pending
  areas := h.areas
  regs r i hp hr := h.regs r i hp fun hx => (hR _ hx).elim hr (by simp [hp])

-- ------------------------------------------------------------------ a claim (R380)

theorem testBit_pred_of_odd {q : Nat} (h : q % 2 = 1) (k : Nat) : (q - 1).testBit k = (q.testBit k && decide (k ≠ 0)) := by
  cases k with
  | zero => simp [Nat.testBit_zero]; omega
  | succ k =>
    have hhalf : (q - 1) / 2 = q / 2 := by omega
    simp [Nat.testBit_succ, hhalf]

/-- A number without one of its bits. -/
theorem testBit_sub_two_pow {v i : Nat} (h : v.testBit i = true) (j : Nat) :
    (v - 2 ^ i).testBit j = (v.testBit j && decide (j ≠ i)) := by
  have hodd : v / 2 ^ i % 2 = 1 := by simpa [Nat.testBit_eq_decide_div_mod_eq] using h
  have hlow : v % 2 ^ i < 2 ^ i := Nat.mod_lt _ (Nat.two_pow_pos i)
  have hv : 2 ^ i * (v / 2 ^ i) + v % 2 ^ i = v := Nat.div_add_mod ..
  generalize v / 2 ^ i = q at hodd hv
  generalize v % 2 ^ i = r at hlow hv
  subst hv
  have hsub : 2 ^ i * q + r - 2 ^ i = 2 ^ i * (q - 1) + r := by
    rw [Nat.mul_sub_one, Nat.sub_add_comm (Nat.le_mul_of_pos_right _ (by omega))]
  rw [hsub, Nat.testBit_two_pow_mul_add _ hlow, Nat.testBit_two_pow_mul_add _ hlow]
  by_cases hj : j < i
  · simp [hj, hj.ne]
  · have hzero : j - i ≠ 0 ↔ j ≠ i := by omega
    rw [if_neg hj, if_neg hj, testBit_pred_of_odd hodd, decide_eq_decide.2 hzero]

/-- The input that a claim chooses is pending. -/
theorem State.mem_of_claimable {s : State} {n i : Nat} (h : s.claimable n = some i) : i ∈ s.pendingInputs n := by
  refine List.foldlRecOn (s.pendingInputs n) _ (motive := fun best => ∀ i, best = some i → i ∈ s.pendingInputs n)
    (fun i hi => absurd hi (by simp)) (fun best hbest j hj i hi => ?_) i h
  cases best with
  | none => exact Option.some.inj hi ▸ hj
  | some b =>
    dsimp only at hi
    split at hi
    · exact Option.some.inj hi ▸ hj
    · exact hbest i hi

theorem State.pair_lt (s : State) (lo hi : Reg) (n : Nat) : s.pair lo hi n < 2 ^ 64 := by
  rw [State.pair]
  omega

/-- A claim clears one input. -/
theorem State.inputWaits_claim {s : State} {n i : Nat} (h : s.claimable n = some i) (j : Nat) :
    (s.claim n).inputWaits n j = (s.inputWaits n j && decide (j ≠ i)) := by
  obtain ⟨-, hwaits⟩ := (s.mem_pendingInputs n i).1 (State.mem_of_claimable h)
  have hpair : s.pair .SEQ_IC_PEND_LO .SEQ_IC_PEND_HI n - 2 ^ i < 2 ^ 64 := Nat.lt_of_le_of_lt (Nat.sub_le ..) (s.pair_lt ..)
  rw [State.claim, h, State.inputWaits, State.pair_setPair _ _ (by decide) hpair, testBit_sub_two_pow hwaits, State.inputWaits]

theorem Kept.claim (s : State) (n : Nat) : Kept s (s.claim n) [(.SEQ_IC_PEND_LO, n), (.SEQ_IC_PEND_HI, n)] [] := by
  unfold State.claim
  split
  · exact Kept.start ..
  · exact Kept.setPair ..

-- ------------------------------------------------------------------ inputs raised (R380)

theorem State.inputWaits_setPair_other (s : State) {n m : Nat} (h : m ≠ n) (v j : Nat) :
    (s.setPair .SEQ_IC_PEND_LO .SEQ_IC_PEND_HI n v).inputWaits m j = s.inputWaits m j := by
  simp [State.inputWaits, State.pair, State.word_setPair, h]

/-- An input raised stands beside those that waited. -/
theorem State.inputWaits_coreInput (s : State) {n i : Nat} (hn : n < Part.cores s.part) (hi : i < 64) (j : Nat) :
    (s.coreInput n i).inputWaits n j = (s.inputWaits n j || decide (j = i)) := by
  rw [State.coreInput, if_pos hn, State.inputWaits, State.pair_setPair _ _ (by decide) (BitVec.isLt _), BitVec.testBit_toNat,
    BitVec.getLsbD_or, BitVec.getLsbD_ofNat, BitVec.getLsbD_ofNat, Nat.testBit_two_pow, State.inputWaits]
  by_cases hj : j < 64
  · simp [hj, eq_comm]
  · have hzero : (s.pair .SEQ_IC_PEND_LO .SEQ_IC_PEND_HI n).testBit j = false :=
      Nat.testBit_lt_two_pow (Nat.lt_of_lt_of_le (s.pair_lt ..) (Nat.pow_le_pow_right (by decide) (Nat.not_lt.1 hj)))
    have hne : j ≠ i := by omega
    simp [hj, hzero, hne]

theorem State.coreInput_keeps (s : State) (n : Nat) {i : Nat} (hi : i < 64) {m j : Nat} (h : s.inputWaits m j = true) :
    (s.coreInput n i).inputWaits m j = true := by
  by_cases hn : n < Part.cores s.part
  · by_cases hm : m = n
    · rw [hm, State.inputWaits_coreInput s hn hi, ← hm, h, Bool.true_or]
    · rw [State.coreInput, if_pos hn, State.inputWaits_setPair_other s hm, h]
  · rwa [State.coreInput, if_neg hn]

theorem Kept.coreInput (s : State) (n i : Nat) :
    Kept s (s.coreInput n i) [(.SEQ_IC_PEND_LO, n), (.SEQ_IC_PEND_HI, n)] [] := by
  unfold State.coreInput
  split
  · exact Kept.setPair ..
  · exact Kept.start ..

theorem Kept.of_pends {s t : State} {n : Nat} {A : List Area} (h : Kept s t [(.SEQ_IC_PEND_LO, n), (.SEQ_IC_PEND_HI, n)] A) :
    Kept s t [] A :=
  h.pends (by simp [isPend])

theorem Kept.doorbell (s : State) (mask : BitVec 4) : Kept s (s.doorbell mask) [] [] :=
  Kept.foldl _ _ s fun u n _ => (Kept.coreInput u n 33).of_pends

theorem State.doorbell_keeps (s : State) (mask : BitVec 4) {n j : Nat} (h : s.inputWaits n j = true) :
    (s.doorbell mask).inputWaits n j = true :=
  List.foldlRecOn _ _ (motive := fun (t : State) => t.inputWaits n j = true) h fun u hu k _ => u.coreInput_keeps k (by decide) hu

/-- A core that DOORBELL names finds input 33 pending. -/
theorem State.doorbell_raises (s : State) {mask : BitVec 4} {n : Nat} (hn : n < Part.cores s.part) (hmask : mask.getLsbD n = true) :
    (s.doorbell mask).inputWaits n 33 = true := by
  have hmem : n ∈ (List.range 4).filter fun n => mask.getLsbD n := by
    have hlt : n < 4 := BitVec.lt_of_getLsbD hmask
    simp [hmask, hlt]
  refine foldl_brings (P := fun k t => k < Part.cores t.part → t.inputWaits k 33 = true) (f := fun u k => u.coreInput k 33)
    (fun u k _ hk => ?_) (fun u k _ m hm hlt => ?_) s hmem ((Kept.doorbell s mask).part ▸ hn)
  · rw [(Kept.coreInput u k 33).part] at hk
    rw [State.inputWaits_coreInput u hk (by decide), decide_eq_true rfl, Bool.or_true]
  · rw [(Kept.coreInput u k 33).part] at hlt
    exact u.coreInput_keeps k (by decide) (hm hlt)

-- ------------------------------------------------------------------ MTIMECMP (R380)

theorem Kept.advanceNow (s : State) (v : Nat) : Kept s (s.advanceNow v) [] [.clock] := by
  unfold State.advanceNow
  split
  · exact Kept.pass ..
  · exact Kept.start ..

/-- TIME is brought to a value that lies ahead. -/
theorem State.now_advanceNow (s : State) {v : DWord} (h : s.now.toNat < v.toNat) : (s.advanceNow v.toNat).now = v := by
  rw [State.advanceNow, if_pos h, State.pass_now]
  apply BitVec.eq_of_toNat_eq
  have hv := v.isLt
  rw [BitVec.toNat_add, BitVec.toNat_ofNat]
  omega

theorem State.le_now_advanceNow (s : State) (v : DWord) : v.toNat ≤ (s.advanceNow v.toNat).now.toNat := by
  by_cases h : s.now.toNat < v.toNat
  · rw [s.now_advanceNow h]
  · rw [State.advanceNow, if_neg h]
    exact Nat.not_lt.1 h

/-- While the sequencer is on, input 36 of a core stands at the end of a command that finds TIME at its MTIMECMP. -/
theorem State.settle_timer {u : State} {n : Nat} (hp : u.corePresent n = true) (ht : (u.core n).timecmp.toNat ≤ u.now.toNat) :
    u.settle.inputWaits n 36 = true := by
  obtain ⟨hn, hpow⟩ : n < Part.cores u.part ∧ u.seqPowered = true := by simpa [State.corePresent] using hp
  have hq := u.settle_quiet
  have hcore : u.settle.core n = u.core n := congrArg (Sparse.get coreInit · n) (hq.areas .seq List.not_mem_nil).1
  have hpow' : u.settle.seqPowered = true := by rw [State.seqPowered, hq.regs _ _ rfl List.not_mem_nil, ← State.seqPowered, hpow]
  obtain ⟨-, htimer⟩ := u.settle_levelsReach hpow' (hq.part ▸ hn)
  rw [State.inputWaits_eq]
  exact htimer (by rw [hcore, hq.toKept.now_eq]; exact ht)

-- ------------------------------------------------------------------ the boot ROM (R378)

theorem Kept.setLocalWord (s : State) (n a : Nat) (v : Word) : Kept s (s.setLocalWord n a v) [] [.seq] := by
  unfold State.setLocalWord
  split
  · exact Kept.putSeq ..
  · exact Kept.putSeq ..
  · exact Kept.putSeq ..
  · exact Kept.start ..

theorem State.setLocalWord_cores (s : State) (n a : Nat) (v : Word) : (s.setLocalWord n a v).seq.cores = s.seq.cores := by
  unfold State.setLocalWord
  split <;> rfl

theorem Kept.segmentWord (s : State) (a cores : Nat) (w : Word) : Kept s (s.segmentWord a cores w) [] [.seq] := by
  unfold State.segmentWord
  split
  · exact Kept.setLocalWord ..
  · exact Kept.foldl _ _ s fun u n _ => Kept.setLocalWord u n a w

theorem State.segmentWord_cores (s : State) (a cores : Nat) (w : Word) : (s.segmentWord a cores w).seq.cores = s.seq.cores := by
  unfold State.segmentWord
  split
  · exact State.setLocalWord_cores ..
  · exact foldl_same (g := fun t : State => t.seq.cores) (fun u n => u.setLocalWord_cores n a w) _ s

/-- Copying the segments writes the memories of the cores alone. -/
theorem State.copySegments_spec (s : State) (o last k : Nat) : Kept s (s.copySegments o last k).2 [] [.seq] ∧
    (s.copySegments o last k).2.seq.cores = s.seq.cores := by
  induction k generalizing s o with
  | zero => exact ⟨Kept.start .., rfl⟩
  | succ k ih =>
    unfold State.copySegments
    dsimp only
    split
    · exact ⟨Kept.start .., rfl⟩
    · split
      · exact ⟨Kept.start .., rfl⟩
      · split
        · exact ⟨Kept.start .., rfl⟩
        · obtain ⟨hkept, hcores⟩ := ih (List.foldl (fun s i => _) s (List.range _)) _
          refine ⟨(Kept.foldl _ _ s fun u i _ => Kept.segmentWord ..).via hkept (by simp) (by simp), hcores.trans ?_⟩
          exact foldl_same (g := fun t : State => t.seq.cores) (fun u i => u.segmentWord_cores ..) _ s

/-- The boot ROM looks for firmware: the scan has ended, the sequencer is on, and it has not looked before. -/
def State.bootLooks (s : State) : Prop :=
  s.ledger.ready = true ∧ s.seqPowered = true ∧ s.f F.SEQ_BOOT_STATUS_LOADED 0 = 0 ∧ s.f F.SEQ_BOOT_STATUS_CAUSE 0 = 0

theorem State.firmwareLoad_disabled {s : State} (h : s.bootLooks) (hen : (s.seqBoot 0).getLsbD 0 = false) (e : Bool) :
    s.firmwareLoad e = s.firmwareFails 1 := by
  obtain ⟨hready, hpow, hloaded, hcause⟩ := h
  simp only [State.firmwareLoad, State.on, hready, hpow, hloaded, hcause, hen]
  rfl

/-- The bytes of firmware that SEQ_BOOT names. -/
def State.firmwareBytes (s : State) : Nat := (s.seqBoot 1).toNat % 2 ^ 23

/-- The firmware's segments, in the memories of the cores. -/
def State.firmwareCopied (s : State) : Bool × State := s.copySegments 0 (s.firmwareBytes - 4) (s.firmwareBytes / 16 + 1)

theorem State.firmwareLoad_copied {s : State} (h : s.bootLooks) (hen : (s.seqBoot 0).getLsbD 0 = true) (hmin : 4 ≤ s.firmwareBytes)
    (hmax : s.firmwareBytes ≤ 0x400000)
    (hcrc : crcOfBytes (s.nvBytes firmwareArea (s.firmwareBytes - 4)) = s.nvWord (firmwareArea + s.firmwareBytes - 4))
    (hfits : s.firmwareCopied.1 = true) : s.firmwareLoad false = s.firmwareCopied.2.raise F.SEQ_BOOT_STATUS_LOADED 0 := by
  obtain ⟨hready, hpow, hloaded, hcause⟩ := h
  have hlen : ¬ 0x400000 < s.firmwareBytes := Nat.not_lt.2 hmax
  have hgood : ¬ (s.firmwareBytes < 4 ∨
      crcOfBytes (s.nvBytes firmwareArea (s.firmwareBytes - 4)) ≠ s.nvWord (firmwareArea + s.firmwareBytes - 4)) := by
    simp [hcrc, hmin]
  simp only [State.firmwareLoad, ← State.firmwareBytes.eq_1, ← State.firmwareCopied.eq_1, State.on, hready, hpow, hloaded, hcause, hen,
    if_neg hlen, if_neg hgood, hfits]
  rfl

theorem Kept.firmwareFails (s : State) (cause : Nat) : Kept s (s.firmwareFails cause) [(.SEQ_BOOT_STATUS, 0)] [.ledger] :=
  (((Kept.setF s F.SEQ_BOOT_STATUS_CAUSE 0 cause).trans (Kept.raise ..)).trans (Kept.journalEvent ..)).weaken (by simp) (by simp)

/-- The entry made last, unless the buffer is full, is of the origin given. -/
theorem State.lastOrigin_journal (s : State) (origin : BitVec 8) (kind aux : Nat) (b : Body) :
    ((s.journal origin kind aux b).ledger.buffer.getLast?.any fun x => x.origin == origin) =
      (decide (s.ledger.buffer.length < 4096) || s.ledger.buffer.getLast?.any fun x => x.origin == origin) := by
  unfold State.journal
  dsimp only
  split
  · next h => simp [h]
  · next h => simp [h]

/-- Settles O40: each step reaches the memories of the cores, one register, or the pending inputs of the interrupt controllers,
which event delivery only adds to. -/
theorem sequencer : Obligations.Sequencer := by
  unfold Obligations.Sequencer
  refine ⟨fun s hs hready hpow hloaded hcause hen hmin hmax hcrc hfits => ?_, fun s e hs hready hpow hloaded hcause hen => ?_,
    fun s n i hs hn hi h36 hmask => ?_, fun s mask hs => ?_, fun s n hs hn => ?_, fun s n hs hn => ?_⟩
  · obtain ⟨hkept, hcores⟩ := s.copySegments_spec 0 (s.firmwareBytes - 4) (s.firmwareBytes / 16 + 1)
    refine Runs.of_effect (f := (·.firmwareLoad false)) rfl hs
      (State.firmwareLoad_copied ⟨hready, hpow, hloaded, hcause⟩ hen hmin hmax hcrc hfits)
      (hkept.trans (Kept.raise s.firmwareCopied.2 F.SEQ_BOOT_STATUS_LOADED 0)) (by decide) (by decide) fun t hq hk => ?_
    obtain ⟨hsame, htcm, hsram, -⟩ := hq.areas .seq List.not_mem_nil
    refine ⟨?_, htcm, hsram, hsame.trans hcores, hk⟩
    rw [hq.word_eq rfl, State.word_raise, if_pos ⟨rfl, rfl⟩, State.firmwareCopied, hkept.regs _ _ rfl List.not_mem_nil]
    rfl
  · refine Runs.of_effect (f := (·.firmwareLoad e)) rfl hs (State.firmwareLoad_disabled ⟨hready, hpow, hloaded, hcause⟩ hen e)
      (Kept.firmwareFails s 1) (by decide) (by decide) fun t hq hk => ⟨?_, ?_, hk⟩
    · rw [hq.word_eq rfl]
      simp [State.firmwareFails, State.word_setF, State.word_raise, changed]
    · rw [(hq.areas .ledger List.not_mem_nil)]
      exact State.lastOrigin_journal ..
  · refine Runs.of_inputs (f := fun s => if s.corePresent n then s.claim n else s) rfl hs (if_pos hn) (Kept.claim s n).of_pends
      (by decide) (by decide) fun hgrow hq hk => ⟨fun hmem => ?_, fun j hj hmem => ?_, hk⟩
    · obtain ⟨-, hwaits⟩ := (State.mem_pendingInputs ..).1 hmem
      have hclear : (s.claim n).inputWaits n i = false := by simp [State.inputWaits_claim hi]
      rcases hgrow.raises n i hwaits hclear with h | ⟨hlt, hbit⟩
      · exact h36 h
      · rw [(Kept.claim s n).regs .DEV_EVT_CORE_MASK n rfl (by simp), hmask hlt] at hbit
        cases hbit
    · obtain ⟨hlt, hwaits⟩ := (State.mem_pendingInputs ..).1 hmem
      exact (State.mem_pendingInputs ..).2 ⟨hlt, hgrow.keeps n j (by simp [State.inputWaits_claim hi, hwaits, hj])⟩
  · refine Runs.of_inputs (f := (·.doorbell mask)) rfl hs rfl (Kept.doorbell s mask) (by decide) (by decide)
      fun hgrow hq hk => ⟨fun n hn hbit => ?_, fun n j hmem => ?_, hk⟩
    · exact (State.mem_pendingInputs ..).2 ⟨by decide, hgrow.keeps n 33 (s.doorbell_raises hn hbit)⟩
    · obtain ⟨hlt, hwaits⟩ := (State.mem_pendingInputs ..).1 hmem
      exact (State.mem_pendingInputs ..).2 ⟨hlt, hgrow.keeps n j (s.doorbell_keeps mask hwaits)⟩
  · refine Runs.of_effect (f := (·.seqEvent n)) rfl hs (if_pos hn) (Kept.enterNext s (.source (40 + n))) (by decide) (by simp [entryRegs, calmRegs])
      fun t hq hk => ⟨?_, hk⟩
    rw [hq.beam (by decide)]
    exact s.mem_enterNext _
  · refine Runs.of_inputs (f := (·.mtimecmpReached n)) rfl hs (if_neg (by simp [hn])) (Kept.advanceNow s _) (by decide) (by decide)
      fun _ hq hk => ⟨fun h => ?_, ?_, hk⟩
    · rw [hq.now_eq, s.now_advanceNow h]
    · have hkept := Kept.advanceNow s (s.core n).timecmp.toNat
      have hpresent : (s.advanceNow (s.core n).timecmp.toNat).corePresent n = true := by
        rw [State.corePresent, State.seqPowered, hkept.part, hkept.regs _ _ rfl List.not_mem_nil]
        exact hn
      have hcore : (s.advanceNow (s.core n).timecmp.toNat).core n = s.core n :=
        congrArg (Sparse.get coreInit · n) (hkept.areas .seq (by decide)).1
      exact (State.mem_pendingInputs ..).2
        ⟨by decide, State.settle_timer hpresent (by rw [hcore]; exact s.le_now_advanceNow _)⟩

end Sys2Proof.Machine
end

section
/-! PROOF. Cross-trigger channels and stimulus ports (R431, R434, R435, R436). -/

namespace Sys2Proof.Machine

-- ------------------------------------------------------------------ updates of the debug domain

/-- From s to t the debug domain went on: what changed is listed, no CSR request waits to go on that did not, and STATUS.XT_FIRED
stands as before. -/
structure DebugWork (s t : State) (R : Regs) (A : List Area) : Prop where
  kept : Kept s t R A
  resume : t.dbg.resume = s.dbg.resume
  shown : t.f F.DBG_STATUS_XT_FIRED 0 = s.f F.DBG_STATUS_XT_FIRED 0

namespace DebugWork

theorem start (s : State) (R : Regs) (A : List Area) : DebugWork s s R A := ⟨Kept.start s R A, rfl, rfl⟩

theorem weaken {s t : State} {R R' : Regs} {A A' : List Area} (h : DebugWork s t R A) (hR : R ⊆ R') (hA : A ⊆ A') :
    DebugWork s t R' A' := ⟨h.kept.weaken hR hA, h.resume, h.shown⟩

theorem via {s t u : State} {R R' : Regs} {A A' : List Area} (h : DebugWork s t R A) (g : DebugWork t u R' A') (hR : R' ⊆ R)
    (hA : A' ⊆ A) : DebugWork s u R A := ⟨h.kept.via g.kept hR hA, g.resume.trans h.resume, g.shown.trans h.shown⟩

/-- An update that changes neither the debug domain's own state nor its STATUS. -/
theorem of_kept {s t : State} {R : Regs} {A : List Area} (h : Kept s t R A) (hA : Area.dbg ∉ A) (hR : (Reg.DBG_STATUS, 0) ∉ R) :
    DebugWork s t R A := ⟨h, congrArg DebugState.resume (h.areas .dbg hA), h.f F.DBG_STATUS_XT_FIRED 0 rfl hR⟩

theorem setDebug (s : State) {d : DebugState} (h : d.resume = s.dbg.resume) : DebugWork s (s.setDebug d) [] [.dbg] :=
  ⟨Kept.putDbg .., h, rfl⟩

/-- Another field of STATUS. -/
theorem setStatus (s : State) (lo width v : Nat) (h : 2 ≤ lo ∨ lo + width ≤ 1) (h32 : lo + width ≤ 32) :
    DebugWork s (s.setF ⟨.DBG_STATUS, lo, width⟩ 0 v) [(.DBG_STATUS, 0)] [] :=
  ⟨Kept.setF .., rfl, State.f_setF_otherField s (F := ⟨.DBG_STATUS, lo, width⟩) (G := F.DBG_STATUS_XT_FIRED) h32
    (by rcases h with h | h
        · exact .inl h
        · exact .inr h) 0 0 v⟩

theorem foldl {α : Type} (f : State → α → State) (l : List α) {R : Regs} {A : List Area} (s : State)
    (h : ∀ u x, DebugWork u (f u x) R A) : DebugWork s (l.foldl f s) R A :=
  List.foldlRecOn l f (motive := fun t => DebugWork s t R A) (start s R A) fun _ ht x _ =>
    ht.via (h _ x) (List.Subset.refl _) (List.Subset.refl _)

end DebugWork

-- ------------------------------------------------------------------ the trace port (R434, R435)

theorem State.traceBytes_work (s : State) (b : List Byte) : DebugWork s (s.traceBytes b) [] [.dbg] := DebugWork.setDebug s rfl

theorem State.traceOpen_work (s : State) : DebugWork s s.traceOpen [] [.dbg] := by
  unfold State.traceOpen
  split
  · exact .start ..
  · exact (s.traceBytes_work _).via (DebugWork.setDebug _ rfl) (by simp) (by simp)

theorem State.traceTell_work (s : State) : DebugWork s s.traceTell [] [.dbg] := by
  unfold State.traceTell
  split
  · exact .start ..
  · exact (s.traceBytes_work _).via (DebugWork.setDebug _ rfl) (by simp) (by simp)

theorem State.traceSend_work (s : State) : DebugWork s s.traceSend [] [.dbg, .out] := by
  unfold State.traceSend
  split
  · exact .start ..
  · dsimp only
    split
    · exact .start ..
    · exact ((DebugWork.of_kept (Kept.emit ..) (by decide) (by simp)).weaken (by simp) (by simp)).via (DebugWork.setDebug _ rfl) (by simp)
        (by simp)

/-- What waited for room enters before a packet. -/
theorem State.traceReady_work (s : State) : DebugWork s s.traceSend.traceTell.traceOpen [] [.dbg, .out] :=
  (s.traceSend_work.via s.traceSend.traceTell_work (by simp) (by simp)).via s.traceSend.traceTell.traceOpen_work (by simp) (by simp)

theorem State.tracePacket_work (s : State) (header : Byte) (payload : List Byte) :
    DebugWork s (s.tracePacket header payload) [(.DBG_STATUS, 0)] [.dbg, .out] := by
  have hready := s.traceReady_work.weaken (R' := [(.DBG_STATUS, 0)]) (A' := [.dbg, .out]) (by simp) (by simp)
  unfold State.tracePacket
  split
  · exact .start ..
  · dsimp only
    split
    · exact (hready.via (DebugWork.setStatus _ 2 1 1 (by decide) (by decide)) (by simp) (by simp)).via (DebugWork.setDebug _ rfl)
        (by simp) (by simp)
    · exact (hready.via (State.traceBytes_work ..) (by simp) (by simp)).via (DebugWork.setDebug _ rfl) (by simp) (by simp)

-- ------------------------------------------------------------------ halts (R425, R426)

theorem State.setHalted_work (s : State) (n : Nat) (on : Bool) :
    DebugWork s (s.setHalted n on) [(.DBG_CORE_RC, n), (.DBG_STATUS, 0)] [] :=
  ((DebugWork.of_kept (Kept.setF ..) (by simp) (by simp)).weaken (by simp) (by simp)).via
    (DebugWork.setStatus _ 8 4 _ (by decide) (by decide)) (by simp) (by simp)

/-- What a halt of core n may change. -/
def haltRegs (n : Nat) : Regs := [(.DBG_CORE_RC, n), (.DBG_STATUS, 0)]

/-- A halt of core n but for its packet: the reservation goes, the cause and HALTED show. -/
def State.haltShown (s : State) (n cause : Nat) : State :=
  let s := s.setDebug { s.dbg with haltDue := Sparse.erase s.dbg.haltDue n }
  let s := s.setCore n { s.core n with reserve := none }
  (s.setF F.DBG_CORE_RC_CAUSE n cause).setHalted n true

theorem State.haltShown_work (s : State) (n cause : Nat) : DebugWork s (s.haltShown n cause) (haltRegs n) [.seq, .dbg] := by
  have hcore (u : State) (v : Core) : DebugWork u (u.setCore n v) [] [.seq] := .of_kept (Kept.setCore ..) (by decide) (by simp)
  have hcause (u : State) : DebugWork u (u.setF F.DBG_CORE_RC_CAUSE n cause) [(.DBG_CORE_RC, n)] [] :=
    .of_kept (Kept.setF ..) (by simp) (by simp)
  have hdue : DebugWork s (s.setDebug { s.dbg with haltDue := Sparse.erase s.dbg.haltDue n }) (haltRegs n) [.seq, .dbg] :=
    (DebugWork.start s _ _).via (DebugWork.setDebug _ rfl) (by simp) (by simp)
  exact ((hdue.via (hcore ..) (by simp) (by simp)).via (hcause _) (by simp [haltRegs]) (by simp)).via
    (State.setHalted_work _ n true) (by simp [haltRegs]) (by simp)

/-- STATUS.HALTED and the RUN packet come last. -/
theorem State.haltTold_work (s : State) (n : Nat) :
    DebugWork s ((s.raise F.DBG_STATUS_HALTED 0).runPacket n true) [(.DBG_STATUS, 0)] [.dbg, .out] :=
  ((DebugWork.start s _ _).via (DebugWork.setStatus s 0 1 1 (by decide) (by decide)) (by simp) (by simp)).via
    (State.tracePacket_work ..) (by simp) (by simp)

theorem State.haltQuiet_work (s : State) (n cause : Nat) : DebugWork s (s.haltQuiet n cause) (haltRegs n) [.seq, .dbg, .out] :=
  ((s.haltShown_work n cause).weaken (by simp) (by simp)).via (State.haltTold_work ..) (by simp [haltRegs]) (by simp)

theorem Kept.core {s t : State} {R : Regs} {A : List Area} (h : Kept s t R A) (hA : Area.seq ∉ A) (n : Nat) : t.core n = s.core n :=
  congrArg (Sparse.get coreInit · n) (h.areas .seq hA).1

/-- Core n was halted by cause c. -/
def State.haltedBy (s : State) (n c : Nat) : Prop :=
  s.f F.DBG_CORE_RC_HALTED n = 1 ∧ s.f F.DBG_CORE_RC_CAUSE n = c ∧ (s.core n).reserve = none

/-- Core n executes and waits for nothing. -/
def State.runsFree (s : State) (n : Nat) : Prop := s.coreRuns n = true ∧ s.coreStalled n = false

section
variable {s t : State} {n : Nat} {R : Regs} {A : List Area} (h : Kept s t R A) (hrc : (Reg.DBG_CORE_RC, n) ∉ R)
  (hcore : t.core n = s.core n)
include h hrc hcore

/-- Whether a core is halted is in its own register, and in what it holds. -/
theorem State.haltedBy_congr {c : Nat} (hs : s.haltedBy n c) : t.haltedBy n c := by
  rwa [State.haltedBy, h.f F.DBG_CORE_RC_HALTED n rfl hrc, h.f F.DBG_CORE_RC_CAUSE n rfl hrc, hcore]

theorem State.runsFree_congr (hstatus : (Reg.SEQ_CORE_STATUS, n) ∉ R) (hpow : (Reg.PWR_REGION_STATUS, 0) ∉ R) (hs : s.runsFree n) :
    t.runsFree n := by
  have hstate : t.funcState (.core n) = s.funcState (.core n) := h.f F.SEQ_CORE_STATUS_STATE n rfl hstatus
  have hpresent : t.corePresent n = s.corePresent n := by
    rw [State.corePresent, State.seqPowered, h.part, h.regs _ _ rfl hpow, State.corePresent, State.seqPowered]
  rwa [State.runsFree, State.coreRuns, hpresent, hstate, h.on F.DBG_CORE_RC_HALTED n rfl hrc, State.coreStalled, hcore]

end

theorem State.haltQuiet_core (s : State) (n cause m : Nat) (h : m ≠ n) : (s.haltQuiet n cause).core m = s.core m := by
  have htold : (s.haltQuiet n cause).core m = (s.haltShown n cause).core m :=
    congrArg (Sparse.get coreInit · m) (((s.haltShown n cause).haltTold_work n).kept.areas .seq (by decide)).1
  exact htold.trans ((Sparse.get_set ..).trans (if_neg h))

theorem State.haltShown_halts (s : State) (n : Nat) {c : Nat} (hc : c < 8) : (s.haltShown n c).haltedBy n c := by
  refine ⟨?_, ?_, ?_⟩
  · simp [State.haltShown, State.setHalted, State.f, State.word_setF, fieldOf_withField_same]
  · simp [State.haltShown, State.setHalted, State.f, State.word_setF, fieldOf_withField_same, fieldOf_withField_other]
    omega
  · have hcore : (s.haltShown n c).core n = { s.core n with reserve := none } := (Sparse.get_set ..).trans (if_pos rfl)
    rw [hcore]

theorem State.haltQuiet_halts (s : State) (n : Nat) {c : Nat} (hc : c < 8) : (s.haltQuiet n c).haltedBy n c :=
  have hkept := ((s.haltShown n c).haltTold_work n).kept
  State.haltedBy_congr hkept (by simp) (hkept.core (by decide) n) (s.haltShown_halts n hc)

-- ------------------------------------------------------------------ HALT_ALL (R431)

/-- A halt that is asked for and takes effect at once, or waits. -/
def State.haltAsked (s : State) (n : Nat) : State := (s.haltAsk n 3).2

theorem State.haltAsked_work (s : State) (n : Nat) : DebugWork s (s.haltAsked n) (haltRegs n) [.seq, .dbg, .out] := by
  unfold State.haltAsked State.haltAsk
  split
  · exact .start ..
  · split
    · exact (DebugWork.start s _ _).via (DebugWork.setDebug _ rfl) (by simp) (by simp)
    · exact s.haltQuiet_work n 3

theorem State.haltAsked_of_runsFree {s : State} {n : Nat} (h : s.runsFree n) : s.haltAsked n = s.haltQuiet n 3 := by
  obtain ⟨hruns, hstalled⟩ := h
  simp [State.haltAsked, State.haltAsk, hruns, hstalled]

theorem State.haltAsked_of_halted {s : State} {n : Nat} (h : s.haltedBy n 3) : s.haltAsked n = s := by
  obtain ⟨hhalted, -, -⟩ := h
  simp [State.haltAsked, State.haltAsk, State.coreRuns, State.on, hhalted]

theorem State.haltAsked_core (s : State) {n m : Nat} (h : m ≠ n) : (s.haltAsked n).core m = s.core m := by
  unfold State.haltAsked State.haltAsk
  split
  · rfl
  · split
    · rfl
    · exact s.haltQuiet_core n 3 m h

theorem State.haltAll_eq (s : State) : s.haltAll.2 = (List.range (Part.cores s.part)).foldl State.haltAsked s := by
  have hfold (l : List Nat) (r : List Nat × State) :
      (l.foldl (fun r n => let q := r.2.haltAsk n 3; (r.1 ++ q.1, q.2)) r).2 = l.foldl State.haltAsked r.2 := by
    induction l generalizing r with
    | nil => rfl
    | cons n l ih => exact ih _
  exact hfold _ _

/-- All that halts of cores change. -/
def haltsRegs : Regs := (.DBG_STATUS, 0) :: allOf [.DBG_CORE_RC] 4

theorem State.haltsAsked_work (s : State) {l : List Nat} (hl : ∀ n ∈ l, n < 4) :
    DebugWork s (l.foldl State.haltAsked s) haltsRegs [.seq, .dbg, .out] := by
  refine List.foldlRecOn l _ (motive := fun t => DebugWork s t haltsRegs [.seq, .dbg, .out]) (.start ..) fun u hu n hn => ?_
  refine hu.via (u.haltAsked_work n) ?_ (List.Subset.refl _)
  have hn4 := hl n hn
  simp [haltRegs, haltsRegs, allOf, hn4]

/-- A core that runs free when the halts begin is halted once they are over. -/
theorem State.haltsAsked_halts (s : State) {l : List Nat} {n : Nat} (hn : n ∈ l) (h : s.runsFree n) :
    (l.foldl State.haltAsked s).haltedBy n 3 := by
  have hother (u : State) {k : Nat} (hk : n ≠ k) : (u.runsFree n → (u.haltAsked k).runsFree n) ∧
      (u.haltedBy n 3 → (u.haltAsked k).haltedBy n 3) := by
    have hrc : (Reg.DBG_CORE_RC, n) ∉ haltRegs k := by simp [haltRegs, hk]
    have hkept := (u.haltAsked_work k).kept
    exact ⟨State.runsFree_congr hkept hrc (u.haltAsked_core hk) (by simp [haltRegs]) (by simp [haltRegs]),
      State.haltedBy_congr hkept hrc (u.haltAsked_core hk)⟩
  have hhalted (l : List Nat) (u : State) (hu : u.haltedBy n 3) : (l.foldl State.haltAsked u).haltedBy n 3 :=
    List.foldlRecOn l _ (motive := fun t => State.haltedBy t n 3) hu fun v hv k _ => by
      by_cases hk : n = k
      · exact (State.haltAsked_of_halted (hk ▸ hv)).symm ▸ hv
      · exact (hother v hk).2 hv
  induction l generalizing s with
  | nil => cases hn
  | cons k l ih =>
    by_cases hk : n = k
    · subst hk
      exact hhalted l _ (State.haltAsked_of_runsFree h ▸ s.haltQuiet_halts n (by decide))
    · exact ih _ ((List.mem_cons.1 hn).resolve_left hk) ((hother s hk).1 h)

theorem Part.cores_le (p : Part) : Part.cores p ≤ 4 := by
  rw [Part.cores]
  split <;> decide

theorem State.haltAll_work (s : State) : DebugWork s s.haltAll.2 haltsRegs [.seq, .dbg, .out] := by
  rw [State.haltAll_eq]
  exact s.haltsAsked_work fun n hn => Nat.lt_of_lt_of_le (List.mem_range.1 hn) (Part.cores_le _)

theorem State.haltAll_halts {s : State} {n : Nat} (h : s.runsFree n) : s.haltAll.2.haltedBy n 3 := by
  rw [State.haltAll_eq]
  have hpresent : s.corePresent n = true := by
    have hruns := h.1
    simp only [State.coreRuns, Bool.and_eq_true] at hruns
    exact hruns.1.1
  refine s.haltsAsked_halts (List.mem_range.2 ?_) h
  simp only [State.corePresent, Bool.and_eq_true, decide_eq_true_eq] at hpresent
  exact hpresent.1

-- ------------------------------------------------------------------ the outputs of a channel (R431, R432)

theorem State.configBarred_congr {s t : State} (hc : t.cfg = s.cfg) (hp : t.power = s.power) : t.configBarred = s.configBarred := by
  simp only [State.configBarred, State.configBusy, State.loading, State.fpdChanging, hc, hp]

/-- FREEZE acts: no configuration operation bars it, and capture does not end. -/
def State.captureFree (s : State) : Prop := s.configBarred = false ∧ s.capState < 2

/-- The registers that FREEZE may change. -/
def freezeRegs : Regs := [(.DBG_XT_STATUS, 0), (.CFG_CAP_STATUS, 0)]

/-- Capture begins, unless it waits already. -/
def State.captureBegins (s : State) : State :=
  if s.capState = 0 then (s.setCap 1).putCfg { (s.setCap 1).cfg with captureFrom := s.time } else s

theorem State.xtFreeze_of_acts {s : State} (h : s.captureFree) : s.xtFreeze = s.captureBegins.enterNext (.direct 34) := by
  obtain ⟨hbarred, hcap⟩ := h
  rw [State.xtFreeze, if_neg (by simp [hbarred, hcap])]
  rfl

theorem State.xtFreeze_of_not {s : State} (h : ¬ s.captureFree) : s.xtFreeze = s.bump F.DBG_XT_STATUS_FREEZE_SKIPPED 0 1 := by
  rw [State.xtFreeze, if_pos]
  cases hbarred : s.configBarred
  · have hcap : 2 ≤ s.capState := Nat.not_lt.1 fun hlt => h ⟨hbarred, hlt⟩
    simp [hcap]
  · rfl

theorem Kept.captureBegins (s : State) : Kept s s.captureBegins [(.CFG_CAP_STATUS, 0)] [.cfg] := by
  unfold State.captureBegins
  split
  · exact (Kept.setF ..).trans (Kept.putCfg ..)
  · exact .start ..

theorem State.captureBegins_cfg (s : State) : ∃ v, s.captureBegins.cfg = { s.cfg with captureFrom := v } := by
  unfold State.captureBegins
  split
  · exact ⟨s.time, rfl⟩
  · exact ⟨s.cfg.captureFrom, rfl⟩

theorem State.captureBegins_state {s : State} (h : s.capState < 2) : s.captureBegins.f F.CFG_CAP_STATUS_STATE 0 = 1 := by
  unfold State.captureBegins
  split
  · exact State.f_setF_same s F.CFG_CAP_STATUS_STATE 0 1 (by decide)
  · next hne =>
    have hcap : s.f F.CFG_CAP_STATUS_STATE 0 = s.capState := rfl
    omega

theorem Kept.xtFreeze (s : State) : Kept s s.xtFreeze freezeRegs [.beam, .cfg] := by
  by_cases h : s.captureFree
  · rw [State.xtFreeze_of_acts h]
    exact ((Kept.captureBegins s).weaken (by simp [freezeRegs]) (by simp)).via (Kept.enterNext ..) (by simp [entryRegs]) (by simp)
  · rw [State.xtFreeze_of_not h]
    exact (Kept.bump ..).weaken (by simp [freezeRegs]) (by simp)

theorem State.xtFreeze_cfg (s : State) : ∃ v, s.xtFreeze.cfg = { s.cfg with captureFrom := v } := by
  by_cases h : s.captureFree
  · rw [State.xtFreeze_of_acts h, State.enterNext_cfg]
    exact s.captureBegins_cfg
  · rw [State.xtFreeze_of_not h]
    exact ⟨s.cfg.captureFrom, rfl⟩

/-- What FREEZE brings from s to t: capture asks for its edge, or the skip is counted. -/
def FreezeActs (s t : State) : Prop :=
  if s.configBarred = false ∧ s.capState < 2 then t.f F.CFG_CAP_STATUS_STATE 0 = 1 ∧ ⟨.direct 34, s.time + 1⟩ ∈ t.beam.flight
  else t.f F.DBG_XT_STATUS_FREEZE_SKIPPED 0 = s.counted F.DBG_XT_STATUS_FREEZE_SKIPPED 0 1

theorem State.xtFreeze_acts (s : State) : FreezeActs s s.xtFreeze := by
  unfold FreezeActs
  split
  · next h =>
    rw [State.xtFreeze_of_acts h]
    have hat : s.captureBegins.later 1 = s.time + 1 := by
      rw [State.later, (Kept.captureBegins s).time (by decide)]
      rfl
    refine ⟨?_, hat ▸ State.mem_enterNext ..⟩
    rw [State.f, State.word_enterNext _ _ _ _ (by decide), ← State.f, State.captureBegins_state h.2]
  · next h =>
    rw [State.xtFreeze_of_not h]
    exact State.f_bump_same _ _ _ _ (by decide)

theorem FreezeActs.kept {s t u : State} {R : Regs} {A : List Area} (h : FreezeActs s t) (k : Kept t u R A) (hA : Area.beam ∉ A)
    (hcap : (Reg.CFG_CAP_STATUS, 0) ∉ R) (hxt : (Reg.DBG_XT_STATUS, 0) ∉ R) : FreezeActs s u := by
  rwa [FreezeActs, k.f F.CFG_CAP_STATUS_STATE 0 rfl hcap, k.beam hA, k.f F.DBG_XT_STATUS_FREEZE_SKIPPED 0 rfl hxt]

/-- The registers that hold STAT_CTRL.FREEZE. -/
def statCtrlRegs : Regs := allOf [.NI_STAT_CTRL] 0xA0

theorem Kept.statFreeze (s : State) (on : Bool) : Kept s (s.statFreeze on) statCtrlRegs [] :=
  Kept.foldl _ _ s fun u n hn => (Kept.setF ..).weaken (by
    have hlt : n < 0xA0 := List.mem_range.1 (List.mem_filter.1 hn).1
    simp [statCtrlRegs, allOf, hlt]) (by simp)

theorem niPresent_lt {p : Part} {n : Nat} (h : niPresent p n = true) : n < 0xA0 := by
  by_contra hge
  rw [niPresent, if_neg (by omega), if_neg (by omega), if_neg (by omega), if_neg (by omega), if_neg (by omega), if_neg (by omega),
    if_neg (by omega), decide_eq_true_eq] at h
  omega

theorem State.statFreeze_freezes (s : State) (on : Bool) {n : Nat} (h : niPresent s.part n = true) :
    (s.statFreeze on).f F.NI_STAT_CTRL_FREEZE n = on.toNat := by
  have hone (u : State) (k : Nat) (m : Nat) : (u.setF F.NI_STAT_CTRL_FREEZE k (if on then 1 else 0)).f F.NI_STAT_CTRL_FREEZE m =
      if m = k then on.toNat else u.f F.NI_STAT_CTRL_FREEZE m := by
    by_cases hm : m = k
    · rw [hm, if_pos rfl, State.f_setF_same _ _ _ _ (by decide)]
      cases on <;> rfl
    · simp [State.f, State.word_setF, hm]
  refine foldl_brings (P := fun n (t : State) => t.f F.NI_STAT_CTRL_FREEZE n = on.toNat) (fun u k _ => ?_) (fun u k _ m hm => ?_) s
    (List.mem_filter.2 ⟨List.mem_range.2 (niPresent_lt h), h⟩)
  · rw [hone, if_pos rfl]
  · rw [hone]
    split
    · rfl
    · exact hm

/-- A stage of the outputs that FIRED's OUT asks for, or not. -/
def State.xtCaptures (s : State) (out : Nat) : State := if out.testBit 1 then s.xtFreeze else s
def State.xtStats (s : State) (out : Nat) : State := if out.testBit 2 then s.statFreeze true else s
def State.xtHalts (s : State) (out : Nat) : State := if out.testBit 0 then s.haltAll.2 else s

theorem State.xtOutputs_eq (s : State) (k : Nat) : (s.xtOutputs k).2 =
    ((s.xtCaptures (s.f F.DBG_XT_CTRL_OUT k)).xtStats (s.f F.DBG_XT_CTRL_OUT k)).xtHalts (s.f F.DBG_XT_CTRL_OUT k) := by
  simp only [State.xtOutputs, State.xtHalts, State.xtStats, State.xtCaptures]
  split <;> rfl

theorem Kept.xtCaptures (s : State) (out : Nat) : Kept s (s.xtCaptures out) freezeRegs [.beam, .cfg] := by
  unfold State.xtCaptures
  split
  · exact Kept.xtFreeze s
  · exact .start ..

theorem State.xtCaptures_cfg (s : State) (out : Nat) : ∃ v, (s.xtCaptures out).cfg = { s.cfg with captureFrom := v } := by
  unfold State.xtCaptures
  split
  · exact s.xtFreeze_cfg
  · exact ⟨s.cfg.captureFrom, rfl⟩

theorem Kept.xtStats (s : State) (out : Nat) : Kept s (s.xtStats out) statCtrlRegs [] := by
  unfold State.xtStats
  split
  · exact Kept.statFreeze s true
  · exact .start ..

theorem State.xtHalts_work (s : State) (out : Nat) : DebugWork s (s.xtHalts out) haltsRegs [.seq, .dbg, .out] := by
  unfold State.xtHalts
  split
  · exact s.haltAll_work
  · exact .start ..

/-- What the outputs of a channel may change. -/
def outputRegs : Regs := freezeRegs ++ haltsRegs ++ statCtrlRegs

/-- The parts of State they may change. -/
def outputAreas : List Area := [.seq, .dbg, .beam, .cfg, .out]

/-- From s to t the outputs of a channel acted. -/
structure OutputsAct (s t : State) (out : Nat) : Prop where
  work : DebugWork s t outputRegs outputAreas
  capture : ∃ v, t.cfg = { s.cfg with captureFrom := v }
  freezes : out.testBit 1 = true → FreezeActs s t
  stats : out.testBit 2 = true → ∀ n, niPresent s.part n = true → t.f F.NI_STAT_CTRL_FREEZE n = 1
  halts : out.testBit 0 = true → ∀ n, s.runsFree n → t.haltedBy n 3

theorem State.xtOutputs_act (s : State) (k : Nat) : OutputsAct s (s.xtOutputs k).2 (s.f F.DBG_XT_CTRL_OUT k) := by
  rw [State.xtOutputs_eq]
  generalize s.f F.DBG_XT_CTRL_OUT k = out
  set a := s.xtCaptures out with ha
  set b := a.xtStats out with hb
  have hcaptures : Kept s a freezeRegs [.beam, .cfg] := Kept.xtCaptures ..
  have hstats : Kept a b statCtrlRegs [] := Kept.xtStats ..
  have hhalts : DebugWork b (b.xtHalts out) haltsRegs [.seq, .dbg, .out] := b.xtHalts_work out
  have hsa : DebugWork s a freezeRegs [.beam, .cfg] := .of_kept hcaptures (by decide) (by simp [freezeRegs])
  have hab : DebugWork a b statCtrlRegs [] := .of_kept hstats (by decide) (by simp [statCtrlRegs, allOf])
  have hsb := (hsa.weaken (R' := outputRegs) (A' := outputAreas) (by simp [outputRegs]) (by decide)).via hab (by simp [outputRegs]) (by simp)
  refine ⟨hsb.via hhalts (by simp [outputRegs]) (by decide), ?_, fun h => ?_, fun h n hn => ?_, fun h n hn => ?_⟩
  · obtain ⟨v, hv⟩ := s.xtCaptures_cfg out
    exact ⟨v, ((hhalts.kept.areas .cfg (by decide)).trans (hstats.areas .cfg (by decide))).trans hv⟩
  · have hacts : FreezeActs s a := by
      rw [ha, State.xtCaptures, if_pos h]
      exact s.xtFreeze_acts
    exact (hacts.kept hstats (by decide) (by simp [statCtrlRegs, allOf]) (by simp [statCtrlRegs, allOf])).kept hhalts.kept (by decide)
      (by simp [haltsRegs, allOf]) (by simp [haltsRegs, allOf])
  · have hfrozen : b.f F.NI_STAT_CTRL_FREEZE n = 1 := by
      rw [hb, State.xtStats, if_pos h]
      exact State.statFreeze_freezes a true (hcaptures.part ▸ hn)
    rw [hhalts.kept.f F.NI_STAT_CTRL_FREEZE n rfl (by simp [haltsRegs, allOf]), hfrozen]
  · have hfree : b.runsFree n := by
      have hcore : b.core n = s.core n :=
        congrArg (Sparse.get coreInit · n) ((hstats.areas .seq (by decide)).1.trans (hcaptures.areas .seq (by decide)).1)
      exact State.runsFree_congr (hcaptures.trans hstats) (by simp [freezeRegs, statCtrlRegs, allOf]) hcore
        (by simp [freezeRegs, statCtrlRegs, allOf]) (by simp [freezeRegs, statCtrlRegs, allOf]) hn
    rw [State.xtHalts, if_pos h]
    exact State.haltAll_halts hfree

-- ------------------------------------------------------------------ a channel fires (R431)

/-- FIRED shows, of the channel and of the cross-trigger. -/
def State.xtShown (s : State) (k : Nat) : State := (s.raise F.DBG_XT_CTRL_FIRED k).raise F.DBG_STATUS_XT_FIRED 0

/-- The channel fired and its outputs acted. -/
def State.xtFired (s : State) (k : Nat) : State := ((s.xtShown k).xtOutputs k).2

theorem Kept.xtShown (s : State) (k : Nat) : Kept s (s.xtShown k) [(.DBG_XT_CTRL, k), (.DBG_STATUS, 0)] [] :=
  (Kept.raise ..).trans (Kept.raise ..)

theorem State.xtShown_fired (s : State) (k m : Nat) :
    (s.xtShown k).f F.DBG_XT_CTRL_FIRED m = if m = k then 1 else s.f F.DBG_XT_CTRL_FIRED m := by
  by_cases hm : m = k <;> simp [State.xtShown, State.f, State.word_raise, fieldOf_withField_same, hm]

theorem State.xtShown_out (s : State) (k : Nat) : (s.xtShown k).f F.DBG_XT_CTRL_OUT k = s.f F.DBG_XT_CTRL_OUT k :=
  (State.f_setF_otherReg _ (F := F.DBG_STATUS_XT_FIRED) (G := F.DBG_XT_CTRL_OUT) (by decide) ..).trans
    (State.f_setF_otherField s (F := F.DBG_XT_CTRL_FIRED) (G := F.DBG_XT_CTRL_OUT) (by decide) (by decide) ..)

theorem State.xtFire_one {s : State} {k : Nat} (h : (s.f F.DBG_XT_CTRL_OUT k).testBit 3 = false) : (s.xtFire [k]).2 = s.xtFired k := by
  have hmark : [k].filter (fun k' => ((s.xtShown k).f F.DBG_XT_CTRL_OUT k').testBit 3) = [] := by
    simp [State.xtShown_out, h]
  rw [State.xtFired, State.xtFire]
  simp only [List.foldl_cons, List.foldl_nil, ← State.xtShown.eq_1, hmark]

theorem State.xtFired_fired (s : State) (k m : Nat) :
    (s.xtFired k).f F.DBG_XT_CTRL_FIRED m = if m = k then 1 else s.f F.DBG_XT_CTRL_FIRED m := by
  rw [State.xtFired, ((s.xtShown k).xtOutputs_act k).work.kept.f F.DBG_XT_CTRL_FIRED m rfl
    (by simp [outputRegs, freezeRegs, haltsRegs, statCtrlRegs, allOf]), State.xtShown_fired]

theorem eq_of_two {m k : Nat} (hm : m < 2) (hk : k < 2) (hne : m ≠ k) : m = 1 - k := by omega

/-- Where both channels have fired, no edge fires one. -/
theorem State.xtEdges_fired {s : State} (h : ∀ m, m < 2 → s.f F.DBG_XT_CTRL_FIRED m = 1) (inputs : List Nat) (n : Nat) :
    s.xtEdges inputs n = s := by
  have htakes : s.xtTakes inputs = [] := by
    rw [State.xtTakes, List.filter_eq_nil_iff]
    intro m hm
    simp [State.on, h m (List.mem_range.1 hm)]
  cases n with
  | zero => rfl
  | succ n => rw [State.xtEdges, htakes]

section
variable {s : State} {k : Nat} (hk : k < 2) (hfired : s.f F.DBG_XT_CTRL_FIRED k = 0) (hother : s.f F.DBG_XT_CTRL_FIRED (1 - k) = 1)
include hk hother

theorem State.xtFired_both (m : Nat) (hm : m < 2) : (s.xtFired k).f F.DBG_XT_CTRL_FIRED m = 1 := by
  rw [State.xtFired_fired]
  split
  · rfl
  · next hne => rw [eq_of_two hm hk hne, hother]

include hfired

/-- Of the two channels only k can fire. -/
theorem State.filter_unfired {p : Nat → Bool} (hp : p k = true) :
    (List.range 2).filter (fun m => !s.on F.DBG_XT_CTRL_FIRED m && p m) = [k] := by
  have hon : s.on F.DBG_XT_CTRL_FIRED k = false := by simp [State.on, hfired]
  have hon' : s.on F.DBG_XT_CTRL_FIRED (1 - k) = true := by simp [State.on, hother]
  obtain rfl | rfl : k = 0 ∨ k = 1 := by omega
  · simp [List.range, List.range.loop, hon, hon', hp]
  · simp [List.range, List.range.loop, hon, hon', hp]

theorem State.xtInput_one {i : Nat} (hin : (s.f F.DBG_XT_CTRL_IN k).testBit i = true)
    (hout : (s.f F.DBG_XT_CTRL_OUT k).testBit 3 = false) : s.xtInput [i] = s.xtFired k := by
  have htakes : s.xtTakes [i] = [k] := State.filter_unfired hk hfired hother (by simp [hin])
  rw [State.xtInput, State.xtEdges, htakes]
  dsimp only
  rw [State.xtFire_one hout]
  exact State.xtEdges_fired (State.xtFired_both hk hother) _ _

theorem State.writeXtFire_one (hout : (s.f F.DBG_XT_CTRL_OUT k).testBit 3 = false) :
    s.writeXtFire (BitVec.ofNat 32 (2 ^ k)) = s.xtFired k := by
  have hbit : (BitVec.ofNat 32 (2 ^ k)).getLsbD k = true := by
    rw [BitVec.getLsbD_ofNat, Nat.testBit_two_pow_self, Bool.and_true, decide_eq_true_eq]
    omega
  have htakes : (List.range 2).filter (fun m => (BitVec.ofNat 32 (2 ^ k)).getLsbD m && !s.on F.DBG_XT_CTRL_FIRED m) = [k] := by
    simpa only [Bool.and_comm] using State.filter_unfired (p := (BitVec.ofNat 32 (2 ^ k)).getLsbD) hk hfired hother hbit
  rw [State.writeXtFire, htakes]
  dsimp only
  rw [State.xtFire_one hout]
  exact State.xtEdges_fired (State.xtFired_both hk hother) _ _

end

-- ------------------------------------------------------------------ what a firing leaves

/-- What a firing of channel k may change. -/
def firedRegs (k : Nat) : Regs :=
  [(.DBG_XT_CTRL, k), (.DBG_STATUS, 0), (.DBG_XT_STATUS, 0), (.CFG_CAP_STATUS, 0)] ++ allOf [.DBG_CORE_RC] 4 ++ allOf [.NI_STAT_CTRL] 0xA0

theorem outputRegs_subset (k : Nat) : outputRegs ⊆ firedRegs k := by
  intro x hx
  simp only [outputRegs, freezeRegs, haltsRegs, statCtrlRegs, firedRegs, List.mem_append, List.mem_cons, List.not_mem_nil, or_false] at hx ⊢
  tauto

theorem firedRegs_calm (k : Nat) : ∀ x ∈ firedRegs k, x.1 ∉ calmRegs := by
  intro x hx
  simp only [firedRegs, allOf, List.mem_append, List.mem_cons, List.not_mem_nil, or_false, List.flatMap_cons, List.flatMap_nil,
    List.append_nil, List.mem_map] at hx
  rcases hx with ((rfl | rfl | rfl | rfl) | ⟨n, -, rfl⟩) | ⟨n, -, rfl⟩ <;> simp [calmRegs]

theorem Kept.xtFired (s : State) (k : Nat) : Kept s (s.xtFired k) (firedRegs k) outputAreas :=
  ((Kept.xtShown s k).weaken (by simp [firedRegs]) (by simp)).via ((s.xtShown k).xtOutputs_act k).work.kept
    (outputRegs_subset k) (List.Subset.refl _)

/-- Work that waits goes on after a firing no more than before: of the configuration only the time of the capture changed, and of
the debug domain no CSR request that waits to go on. -/
theorem SameWork.xtFired (s : State) (k : Nat) : SameWork s (s.xtFired k) := by
  have hkept := Kept.xtFired s k
  have hact := (s.xtShown k).xtOutputs_act k
  obtain ⟨v, hcfg⟩ : ∃ v, (s.xtFired k).cfg = { s.cfg with captureFrom := v } := hact.capture
  have hwords : ∀ r ∈ calmRegs, ∀ i, (s.xtFired k).word r i = s.word r i := fun r hr i =>
    hkept.regs r i ((by decide : ∀ r ∈ calmRegs, isPend r = false) r hr) fun hx =>
      firedRegs_calm k _ hx hr
  have hfabric : (s.xtFired k).fabric = s.fabric := hkept.areas .fabric (by decide)
  have hrepair : (s.xtFired k).repair = s.repair := hkept.areas .repair (by decide)
  obtain ⟨-, -, -, -, hdue, -⟩ := hkept.areas .dev (by decide)
  exact {
    part := hkept.part, words := hwords, due := hdue, net := hkept.areas .net (by decide), resume := hact.work.resume
    host := hkept.areas .host (by decide), load := by rw [hcfg], transfer := by rw [hcfg], queued := by rw [hcfg]
    frames := by rw [hcfg], spans := by rw [hcfg], settling := by rw [hcfg], released := by rw [hcfg], releases := by rw [hcfg]
    resetIsDue := by simp only [State.resetIsDue, State.fabricResetWaits, State.loading, hcfg, hrepair]
    repairWaits := State.repairWaits_congr hrepair (hkept.areas .record (by decide)) hwords
    brownout := by rw [hfabric], spent := by rw [hfabric]
    clear := fun x => by simp only [State.clear, hfabric, imp_self] }

/-- A command whose effect is that a channel fires. -/
theorem Runs.xtFired {c : Instr} {s : State} {f : State → State} {k : Nat} (hc : exec c s = s.command f) (hs : s.ready = true)
    (hf : f s = s.xtFired k) : Runs c s fun t => ChannelFires s t k := by
  refine Runs.of_calmEffect hc hs hf (Kept.xtFired s k) (SameWork.xtFired s k).calm fun t hq hk => ?_
  have hshown := Kept.xtShown s k
  have hact := (s.xtShown k).xtOutputs_act k
  rw [State.xtShown_out] at hact
  have hcfg : t.cfg = (s.xtFired k).cfg := hq.areas .cfg List.not_mem_nil
  refine {
    fired := ?_, shown := ?_, halts := fun h n hruns hstalled => ?_, freezes := fun h => ?_, stats := fun h n hn => ?_, kept := hk
    capture := ?_ }
  · rw [hq.f_eq rfl, State.xtFired_fired, if_pos rfl]
  · rw [hq.f_eq rfl, State.xtFired, hact.work.shown]
    exact State.f_raise_same (s.raise F.DBG_XT_CTRL_FIRED k) F.DBG_STATUS_XT_FIRED 0 (by decide) (by decide)
  · have hfree : (s.xtShown k).runsFree n :=
      State.runsFree_congr hshown (by simp) (hshown.core List.not_mem_nil n) (by simp) (by simp) ⟨hruns, hstalled⟩
    exact State.haltedBy_congr hq List.not_mem_nil (hq.core List.not_mem_nil n)
      (hact.halts h n hfree)
  · have hbarred : (s.xtShown k).configBarred = s.configBarred :=
      State.configBarred_congr (hshown.areas .cfg List.not_mem_nil) (hshown.areas .power List.not_mem_nil)
    have hcap : (s.xtShown k).capState = s.capState := hshown.f F.CFG_CAP_STATUS_STATE 0 rfl (by simp)
    have hskipped : (s.xtShown k).counted F.DBG_XT_STATUS_FREEZE_SKIPPED 0 1 = s.counted F.DBG_XT_STATUS_FREEZE_SKIPPED 0 1 := by
      rw [State.counted, hshown.f F.DBG_XT_STATUS_FREEZE_SKIPPED 0 rfl (by simp), State.counted]
    have hfreeze := (hact.freezes h).kept hq List.not_mem_nil List.not_mem_nil List.not_mem_nil
    rw [FreezeActs, hbarred, hcap, hskipped, hshown.time List.not_mem_nil] at hfreeze
    exact hfreeze
  · rw [hq.f_eq rfl]
    exact hact.stats h n (by rw [hshown.part]; exact hn)
  · obtain ⟨v, hv⟩ := hact.capture
    have hv' : t.cfg = { s.cfg with captureFrom := v } := hcfg.trans hv
    rw [hv']

-- ------------------------------------------------------------------ XT_CLEAR (R431)

/-- One field of several instances of its register. -/
theorem State.f_setEach (l : List Nat) (s : State) (F : Fld) (v : Nat) (h : F.lo + F.width ≤ 32) (m : Nat) :
    (l.foldl (fun s k => s.setF F k v) s).f F m = if m ∈ l then v % 2 ^ F.width else s.f F m := by
  induction l generalizing s with
  | nil => simp
  | cons k l ih =>
    rw [List.foldl_cons, ih]
    by_cases hm : m = k
    · simp [hm, State.f_setF_same _ _ _ _ h]
    · simp [hm, State.f, State.word_setF]

/-- XT_CLEAR re-arms the channels that its bits name. -/
def State.xtRearmed (s : State) (data : Word) : State :=
  ((List.range 2).filter fun k => data.getLsbD k).foldl (fun s k => s.setF F.DBG_XT_CTRL_FIRED k 0) s

theorem State.writeXtClear_eq (s : State) (data : Word) :
    s.writeXtClear data = if data.getLsbD 2 then (s.xtRearmed data).statFreeze false else s.xtRearmed data := rfl

theorem Kept.xtRearmed (s : State) (data : Word) : Kept s (s.xtRearmed data) (allOf [.DBG_XT_CTRL] 2) [] :=
  Kept.foldl _ _ s fun u k hk => (Kept.setF ..).weaken (by
    have hlt : k < 2 := List.mem_range.1 (List.mem_filter.1 hk).1
    simp [allOf]
    omega) (by simp)

theorem State.f_xtRearmed (s : State) (data : Word) {k : Nat} (hk : k < 2) :
    (s.xtRearmed data).f F.DBG_XT_CTRL_FIRED k = if data.getLsbD k then 0 else s.f F.DBG_XT_CTRL_FIRED k := by
  rw [State.xtRearmed, State.f_setEach _ s F.DBG_XT_CTRL_FIRED 0 (by decide)]
  simp [hk]

theorem Kept.writeXtClear (s : State) (data : Word) :
    Kept s (s.writeXtClear data) (allOf [.DBG_XT_CTRL] 2 ++ allOf [.NI_STAT_CTRL] 0xA0) [] := by
  have hrearmed := (Kept.xtRearmed s data).weaken (R' := allOf [.DBG_XT_CTRL] 2 ++ allOf [.NI_STAT_CTRL] 0xA0) (by simp)
    (List.Subset.refl _)
  rw [State.writeXtClear_eq]
  split
  · exact hrearmed.via (Kept.statFreeze ..) (by simp [statCtrlRegs]) (by simp)
  · exact hrearmed

-- ------------------------------------------------------------------ stimulus ports (R436)

/-- A port that sends nothing now leaves the FIFO as it is. -/
theorem State.traceSend_still {s : State} (h : s.dbg.trace = [] ∨ s.dbg.traceAt = s.time) : s.traceSend = s := by
  have hzero : min s.dbg.trace.length ((s.time - s.dbg.traceAt).toNat / traceByteTicks) = 0 := by
    rcases h with h | h
    · simp [h]
    · simp [h]
  rw [State.traceSend]
  split
  · rfl
  · dsimp only
    rw [if_pos hzero]

theorem State.traceTell_still {s : State} (h : s.dbg.traceLost = 0 ∨ s.traceRoom < 3) : s.traceTell = s := by
  rw [State.traceTell, if_pos (by simpa using h)]

theorem State.traceOpen_still {s : State} (h : s.dbg.traceSync < 4096 ∨ s.traceRoom < 17) : s.traceOpen = s := by
  rw [State.traceOpen, if_pos (by simpa using h)]

theorem length_toBytes (n v : Nat) : (toBytes n v).length = n := by
  induction n generalizing v with
  | zero => rfl
  | succ n ih => rw [toBytes, List.length_cons, ih]

theorem State.le_tracePacketBytes (s : State) (header : Byte) (payload : List Byte) :
    payload.length < (s.tracePacketBytes header payload).length := by
  rw [State.tracePacketBytes]
  split
  · simp
    omega
  · simp

theorem State.tracePacketBytes_near {s : State} (h : (s.now - s.dbg.traceTime).toNat ≤ 0xFFFF) (header : Byte) (payload : List Byte) :
    s.tracePacketBytes header payload = header :: toBytes 2 (s.now - s.dbg.traceTime).toNat ++ payload := by
  rw [State.tracePacketBytes]
  exact if_neg (Nat.not_lt.2 h)

/-- A packet in the FIFO. -/
def State.packetIn (s : State) (b : List Byte) : State := (s.traceBytes b).setDebug { (s.traceBytes b).dbg with traceTime := s.now }

theorem Kept.packetIn (s : State) (b : List Byte) : Kept s (s.packetIn b) [] [.dbg] :=
  (s.traceBytes_work b).kept.via (Kept.putDbg ..) (by simp) (by simp)

theorem SameWork.packetIn (s : State) (b : List Byte) : SameWork s (s.packetIn b) :=
  have hbytes : SameWork s (s.traceBytes b) := SameWork.setDebug s rfl
  hbytes.trans (SameWork.setDebug (s.traceBytes b) rfl)

theorem State.packetIn_trace {s : State} (h : s.dbg.trace = []) (b : List Byte) : (s.packetIn b).dbg.trace = b :=
  (congrArg (· ++ b) h : s.dbg.trace ++ b = [] ++ b)

section
variable {s : State} {p : Nat} (hon : s.traceOn = true) (hen : (s.word .DBG_STIM_EN 0).getLsbD p = true)
include hon hen

/-- A write to an enabled port while nothing waits for the trace FIFO. -/
theorem State.stim_ready (hready : s.traceSend.traceTell.traceOpen = s) (data : Word) (run : Option CsrRun) :
    s.stim p data run =
      if s.stimRoom data || !(s.word .DBG_STIM_STALL 0).getLsbD p then s.stimPacket p data
      else s.setDebug { s.dbg with stimWaits := s.dbg.stimWaits ++ [⟨p, data, s.time, run⟩] } := by
  rw [State.stim, if_neg (by simp [hon, hen]), hready]

/-- An empty FIFO takes the packet. -/
theorem State.stim_empty (htrace : s.dbg.trace = []) (hlost : s.dbg.traceLost = 0) (hsync : s.dbg.traceSync < 4096)
    (hnear : (s.now - s.dbg.traceTime).toNat ≤ 0xFFFF) (data : Word) :
    s.stim p data none = s.packetIn (0x27#8 :: toBytes 2 (s.now - s.dbg.traceTime).toNat ++ BitVec.ofNat 8 p :: toBytes 4 data.toNat) := by
  have hready : s.traceSend.traceTell.traceOpen = s := by
    rw [State.traceSend_still (.inl htrace), State.traceTell_still (.inl hlost), State.traceOpen_still (.inl hsync)]
  have hroom : s.traceRoom = 16384 := by simp [State.traceRoom, htrace, traceSize]
  have hfits : s.stimRoom data = true := by
    simp [State.stimRoom, State.tracePacketBytes_near hnear, hroom, length_toBytes]
  rw [State.stim_ready hon hen hready, hfits, Bool.true_or, if_pos rfl, State.stimPacket, State.tracePacket, if_neg (by simp [hon]), hready]
  dsimp only
  rw [State.tracePacketBytes_near hnear]
  refine if_neg ?_
  simp [hroom, length_toBytes]

/-- A full FIFO makes the write wait at a port that stalls. -/
theorem State.stim_full (hstall : (s.word .DBG_STIM_STALL 0).getLsbD p = true) (hfull : s.dbg.trace.length = 16384)
    (hat : s.dbg.traceAt = s.time) (data : Word) :
    s.stim p data none = s.setDebug { s.dbg with stimWaits := s.dbg.stimWaits ++ [⟨p, data, s.time, none⟩] } := by
  have hroom : s.traceRoom = 0 := by simp [State.traceRoom, hfull, traceSize]
  have hready : s.traceSend.traceTell.traceOpen = s := by
    rw [State.traceSend_still (.inr hat), State.traceTell_still (.inr (by omega)), State.traceOpen_still (.inr (by omega))]
  have hfits : s.stimRoom data = false := by
    have hlong := s.le_tracePacketBytes 0x27 (0 :: toBytes 4 data.toNat)
    simp only [State.stimRoom, decide_eq_false_iff_not, hroom]
    omega
  rw [State.stim_ready hon hen hready, hfits, hstall, if_neg (by decide)]

end

/-- A stalled write is discarded 4 µs after it came. -/
def State.stimGone (s : State) (w : StimWait) : State :=
  ((s.advanceTo (w.since + BitVec.ofNat 64 stimStall)).setDebug { s.dbg with stimWaits := [] }).stimDrop

/-- A write that waited too long while the trace is off is discarded. -/
theorem State.stimExpire_off {s : State} {w : StimWait} (hwaits : s.dbg.stimWaits = [w]) (hrun : w.run = none) (hoff : s.traceOn = false) :
    s.stimExpire = s.stimGone w := by
  have hadvanced := Kept.advanceTo s (w.since + BitVec.ofNat 64 stimStall)
  have hon : (s.advanceTo (w.since + BitVec.ofNat 64 stimStall)).traceOn = false := by
    rw [State.traceOn, hadvanced.on F.DBG_TRACE_CTRL_EN 0 rfl List.not_mem_nil, State.advanceTo_dbg]
    exact hoff
  have hdrain : (s.advanceTo (w.since + BitVec.ofNat 64 stimStall)).traceDrain = s.advanceTo (w.since + BitVec.ofNat 64 stimStall) := by
    rw [State.traceDrain, if_pos (by simp [hon])]
  rw [State.stimExpire, hwaits]
  dsimp only
  rw [hdrain, State.advanceTo_dbg, hwaits]
  dsimp only
  rw [if_pos rfl, hrun]
  rfl

theorem SameWork.stimWaits (s : State) (l : List StimWait) : SameWork s (s.setDebug { s.dbg with stimWaits := l }) :=
  SameWork.setDebug s rfl

theorem Kept.stimGone (s : State) (w : StimWait) : Kept s (s.stimGone w) [(.DBG_TRACE_STATUS, 0)] [.clock, .dbg] :=
  ((Kept.advanceTo ..).trans (Kept.putDbg ..)).trans (Kept.bump ..)

theorem SameWork.stimGone (s : State) (w : StimWait) : SameWork s (s.stimGone w) := by
  have hadvanced := Kept.advanceTo s (w.since + BitVec.ofNat 64 stimStall)
  have hresume : s.dbg.resume = (s.advanceTo (w.since + BitVec.ofNat 64 stimStall)).dbg.resume := by rw [State.advanceTo_dbg]
  have hdropped (u : State) : SameWork u u.stimDrop :=
    SameWork.of_kept (Kept.bump u F.DBG_TRACE_STATUS_STIM_DROPS 0 1) (by decide) (by decide)
  have hgone := (SameWork.of_kept hadvanced (by decide) (by simp)).trans
    (SameWork.setDebug (d := { s.dbg with stimWaits := [] }) (s.advanceTo (w.since + BitVec.ofNat 64 stimStall)) hresume)
  exact hgone.trans (hdropped _)

theorem clearRegs_calm : ∀ x ∈ allOf [.DBG_XT_CTRL] 2 ++ allOf [.NI_STAT_CTRL] 0xA0, x.1 ∉ calmRegs := by
  intro x hx
  simp only [allOf, List.mem_append, List.flatMap_cons, List.flatMap_nil, List.append_nil, List.mem_map] at hx
  rcases hx with ⟨n, -, rfl⟩ | ⟨n, -, rfl⟩ <;> simp [calmRegs]

theorem State.stim_dropped {s : State} {p : Nat}
    (h : s.f F.DBG_TRACE_CTRL_EN 0 = 0 ∨ s.dbg.locked = true ∨ (s.word .DBG_STIM_EN 0).getLsbD p = false) (data : Word)
    (run : Option CsrRun) : s.stim p data run = s.stimDrop := by
  rw [State.stim, if_pos]
  rcases h with h | h | h <;> simp [State.traceOn, State.on, h]

/-- Settles O48: a firing acts by its OUT field stage by stage, and no edge it makes fires a channel again; a stimulus write
reaches the trace FIFO or waits. -/
theorem crossTriggerAndTrace : Obligations.CrossTriggerAndTrace := by
  unfold Obligations.CrossTriggerAndTrace
  refine ⟨fun s i k hs hi hk hfired hother hin hout => ?_, fun s who k hs hk hfired hother hbarred hout => ?_,
    fun s who data hs hbarred => ?_, fun s p data hs hp => ⟨fun hoff => ?_, fun hen hlocked hport htrace hlost hsync hnear => ?_,
      fun hen hlocked hport hstall hfull hat => ?_⟩, fun s w hs hwaits hrun hoff => ?_⟩
  · exact Runs.xtFired (f := fun s => if i < 8 then s.xtInput [i] else s) rfl hs
      ((if_pos hi).trans (State.xtInput_one hk hfired hother hin hout))
  · refine Runs.xtFired (f := fun s => s.dbgGate who .DBG_XT_FIRE 0 (BitVec.ofNat 32 (2 ^ k)) fun s =>
      s.writeXtFire (BitVec.ofNat 32 (2 ^ k))) rfl hs ?_
    rw [State.dbgGate, hbarred]
    exact State.writeXtFire_one hk hfired hother hout
  · refine Runs.of_effect (f := fun s => s.dbgGate who .DBG_XT_CLEAR 0 data fun s => s.writeXtClear data) rfl hs
      (by rw [State.dbgGate, hbarred]) (Kept.writeXtClear s data) (by decide) clearRegs_calm fun t hq hk => ⟨fun k hk2 => ?_, fun n hn => ?_, hk⟩
    · rw [hq.f_eq rfl, State.writeXtClear_eq, ← s.f_xtRearmed data hk2]
      split
      · exact (Kept.statFreeze ..).f F.DBG_XT_CTRL_FIRED k rfl (by simp [statCtrlRegs, allOf])
      · rfl
    · rw [hq.f_eq rfl, State.writeXtClear_eq]
      have hkept := Kept.xtRearmed s data
      split
      · exact State.statFreeze_freezes _ false (by rw [hkept.part]; exact hn)
      · exact hkept.f F.NI_STAT_CTRL_FREEZE n rfl (by simp [allOf])
  · refine Runs.of_effect (f := fun s => if p < 32 then s.stim p data none else s) rfl hs
      ((if_pos hp).trans (State.stim_dropped hoff data none)) (Kept.bump ..) (by decide) (by decide) fun t hq hk => ⟨?_, hk⟩
    exact (hq.f_eq rfl 0).trans (State.f_bump_same _ _ _ _ (by decide))
  · have hon : s.traceOn = true := by simp [State.traceOn, State.on, hen, hlocked]
    refine Runs.of_calmEffect (f := fun s => if p < 32 then s.stim p data none else s) rfl hs
      ((if_pos hp).trans (State.stim_empty hon hport htrace hlost hsync hnear data)) (Kept.packetIn ..) (SameWork.packetIn ..).calm
      fun t hq hk => ⟨?_, ?_, hk⟩
    · rw [hq.areas .dbg List.not_mem_nil, State.packetIn_trace htrace]
    · rw [hq.areas .dbg List.not_mem_nil]
      rfl
  · have hon : s.traceOn = true := by simp [State.traceOn, State.on, hen, hlocked]
    exact Runs.of_calmEffect (f := fun s => if p < 32 then s.stim p data none else s) rfl hs
      ((if_pos hp).trans (State.stim_full hon hport hstall hfull hat data)) (Kept.putDbg ..) (SameWork.stimWaits ..).calm
      fun t hq hk => ⟨hq.areas .dbg List.not_mem_nil, hk⟩
  · have hoff' : s.traceOn = false := by rcases hoff with h | h <;> simp [State.traceOn, State.on, h]
    refine Runs.of_calmEffect (f := State.stimExpire) rfl hs (State.stimExpire_off hwaits hrun hoff') (Kept.stimGone s w)
      (SameWork.stimGone s w).calm fun t hq hk => ⟨fun h => ?_, ?_, ?_, hk⟩
    · rw [hq.time_eq]
      have htime : (s.stimGone w).time = (s.advanceTo (w.since + 6000)).time := by simp [State.stimGone, State.stimDrop, State.setDebug, stimStall, ticksPerUs]
      rw [htime, State.advanceTo_time_ahead h]
    · exact hq.areas .dbg List.not_mem_nil
    · have hadvanced := Kept.advanceTo s (w.since + BitVec.ofNat 64 stimStall)
      rw [hq.f_eq rfl, State.stimGone, State.stimDrop, State.f_bump_same _ _ _ _ (by decide), State.counted, State.counted,
        State.setDebug, State.putDbg_f, hadvanced.f F.DBG_TRACE_STATUS_STIM_DROPS 0 rfl List.not_mem_nil]

end Sys2Proof.Machine
end

section
/-! PROOF. A request of a unit that its NI takes and sends at once (R205, R224, R229, R254, R259), and why work that waits goes on
after it no more than before. -/

namespace Sys2Proof.Machine

-- ------------------------------------------------------------------ a packet sent at once (R205, R254)

theorem Kept.statSent (s : State) {n vn : Nat} (hvn : vn < 4) (units bytes : Nat) : Kept s (s.statSent n vn units bytes) (statRegs n) [] := by
  unfold State.statSent
  split
  · exact .start ..
  · have hin (r : Reg) (hr : r ∈ [Reg.NI_STAT_UNITS_LO, .NI_STAT_UNITS_HI, .NI_STAT_BYTES_LO, .NI_STAT_BYTES_HI]) :
        (r, 4 * n + vn) ∈ statRegs n := by
      refine List.mem_append_left _ (List.mem_flatMap.2 ⟨vn, List.mem_range.2 hvn, ?_⟩)
      simp only [List.mem_cons, List.not_mem_nil, or_false] at hr
      rcases hr with rfl | rfl | rfl | rfl <;> simp
    exact ((Kept.setPair ..).trans (Kept.setPair ..)).weaken (by simp [hin]) (by simp)

theorem State.statSent_net (s : State) (n vn units bytes : Nat) : (s.statSent n vn units bytes).net = s.net := by
  unfold State.statSent
  split <;> rfl

/-- A packet leaves its NI: the statistics count it, and its units stand behind those that the link has still to take. -/
def State.sentAt (s : State) (p : Packet) : State :=
  let u := s.statSent p.src p.vn (packetUnits p) (packetBytes p)
  u.setNi p.src { u.ni p.src with out := (u.ni p.src).out ++ unitsOf { p with injTime := s.now.setWidth 32 } }

theorem Kept.sentAt (s : State) {p : Packet} (hvn : p.vn < 4) : Kept s (s.sentAt p) (statRegs p.src) [.net] :=
  ((Kept.statSent s hvn _ _).weaken (List.Subset.refl _) (by simp)).via (Kept.setNi ..) (by simp) (by simp)

theorem State.ni_sentAt (s : State) (p : Packet) (m : Nat) : (s.sentAt p).ni m =
    if m = p.src then { s.ni m with out := (s.ni m).out ++ unitsOf { p with injTime := s.now.setWidth 32 } } else s.ni m := by
  have hni := State.ni_congr (s.statSent_net p.src p.vn (packetUnits p) (packetBytes p))
  rw [State.sentAt, State.ni_setNi, hni]
  split
  · next hm => rw [hm]
  · rfl

theorem State.localUp_congr {s t : State} (hw : ∀ r i, isPend r = false → r = .CN_LINK_STATUS ∨ r = .CN_PORT_EN → t.word r i = s.word r i)
    (n : Nat) : t.localUp n = s.localUp n := by
  simp only [State.localUp, State.on, State.f, State.portOff, hw .CN_LINK_STATUS _ rfl (.inl rfl), hw .CN_PORT_EN _ rfl (.inr rfl)]

theorem statRegs_link {n : Nat} {x : Reg × Nat} (h : x ∈ statRegs n) : x.1 ≠ .CN_LINK_STATUS ∧ x.1 ≠ .CN_PORT_EN ∧ x.1 ∉ calmRegs := by
  simp only [statRegs, List.mem_append, List.mem_flatMap, List.mem_cons, List.not_mem_nil, or_false, List.mem_map] at h
  rcases h with ⟨vn, -, rfl | rfl | rfl | rfl | rfl⟩ | ⟨bin, -, rfl⟩ <;> simp [calmRegs]

/-- The packet's own transaction, if it has one, starts now. -/
def State.startsNow (s : State) (p : Packet) : Prop :=
  nonPosted p.cmd = true → ∀ t ∈ (s.ni p.src).outstanding, t.tag = p.tag → t.start = s.time

theorem State.send_now {s : State} {p : Packet} (hvn : p.vn = 0) (hnow : s.sendsNow p.src 0 = true) (hstarts : s.startsNow p) :
    s.send p = s.sentAt p := by
  simp only [State.sendsNow, Bool.and_eq_true, Bool.not_eq_true', Nat.add_zero] at hnow
  obtain ⟨⟨hheld, hreg⟩, hup⟩ := hnow
  have hleaves : s.mayLeave p = true := by simp [State.mayLeave, State.regulatorOpen, hvn, hreg]
  have hrelease : s.release p = s.inject p := by simp [State.release, State.charge, hvn, hreg]
  have hup' : (s.statSent p.src p.vn (packetUnits p) (packetBytes p)).localUp p.src = true := by
    rw [State.localUp_congr (s := s) fun r i hp hr => (Kept.statSent s (by omega) _ _).regs r i hp fun hx => ?_]
    · exact hup
    · rcases hr with rfl | rfl
      · exact (statRegs_link hx).1 rfl
      · exact (statRegs_link hx).2.1 rfl
  have hni : (s.statSent p.src p.vn (packetUnits p) (packetBytes p)).ni = s.ni := State.ni_congr (State.statSent_net ..)
  have htime : (s.statSent p.src p.vn (packetUnits p) (packetBytes p)).time = s.time := (Kept.statSent s (hvn ▸ by decide) _ _).time (by simp)
  have hsame (h : nonPosted p.cmd = true) :
      (s.ni p.src).outstanding.map (fun t => if t.tag = p.tag then { t with start := s.time } else t) = (s.ni p.src).outstanding := by
    refine (List.map_congr_left fun t ht => ?_).trans (List.map_id _)
    split
    · next htag => rw [← hstarts h t ht htag]; rfl
    · rfl
  have hunits : packetUnits { p with injTime := s.now.setWidth 32 } = packetUnits p := rfl
  have hbytes : packetBytes { p with injTime := s.now.setWidth 32 } = packetBytes p := rfl
  have hvn1 : ¬ p.vn = 1 := by omega
  rw [State.send, if_pos (by simp [hvn, hheld, hleaves]), hrelease]
  simp only [State.inject, if_neg hvn1, hunits, hbytes, hup', hni, htime, State.sentAt, if_true]
  split
  · next h => rw [hsame h]
  · rfl

-- ------------------------------------------------------------------ a unit's request at its NI (R224, R229, R259)

/-- Requests that go on VN0 with the PRIO of the route table (R206, R208): reads, writes and posted writes of a unit. -/
def plainRequest (r : Request) : Bool :=
  (r.cmd == .rd || r.cmd == .wr || r.cmd == .wrp) && !r.urgent && !r.mgmt && (match r.use with
  | .fabric _ => false
  | _ => true)

theorem requestClass_plain {r : Request} (h : plainRequest r = true) (e : DWord) : requestClass r e = (0, entryPrio e, false) := by
  simp only [plainRequest, Bool.and_eq_true, Bool.or_eq_true, beq_iff_eq, Bool.not_eq_true'] at h
  obtain ⟨⟨⟨hcmd, hurgent⟩, hmgmt⟩, -⟩ := h
  rcases hcmd with (hcmd | hcmd) | hcmd <;> simp [requestClass, hcmd, hurgent, hmgmt]

/-- The NI reads a request out of its CS-F. -/
def State.reads (s : State) (x : Nat) (r : Request) : State :=
  s.setCsf x { (s.ni x).csf with upRead := ((s.ni x).csf.upRead + requestUnits r) % 32 }

/-- A transaction of NI x is outstanding. -/
def State.asks (s : State) (x : Nat) (l : List Txn) : State :=
  s.setNi x { s.ni x with outstanding := (s.ni x).outstanding ++ l }

theorem Kept.reads (s : State) (x : Nat) (r : Request) : Kept s (s.reads x r) [] [.net] := Kept.setNi ..
theorem Kept.asks (s : State) (x : Nat) (l : List Txn) : Kept s (s.asks x l) [] [.net] := Kept.setNi ..

theorem State.ni_reads (s : State) (x : Nat) (r : Request) (m : Nat) : (s.reads x r).ni m =
    if m = x then { s.ni x with csf := ({ (s.ni x).csf with upRead := ((s.ni x).csf.upRead + requestUnits r) % 32 } : Csf).settled }
    else s.ni m := State.ni_setNi ..

theorem State.ni_asks (s : State) (x : Nat) (l : List Txn) (m : Nat) : (s.asks x l).ni m =
    if m = x then { s.ni x with outstanding := (s.ni x).outstanding ++ l } else s.ni m := State.ni_setNi ..

/-- Nothing of the table, of the tags or of what waits to leave an NI changes as it reads a request. -/
theorem State.activeEntry_reads (s : State) (x : Nat) (r : Request) (n d : Nat) : (s.reads x r).activeEntry n d = s.activeEntry n d := by
  have hroutes : ((s.reads x r).ni n).routes = (s.ni n).routes := by
    rw [State.ni_reads]
    split
    · next h => rw [h]
    · rfl
  rw [State.activeEntry, State.entry, hroutes]
  rfl

theorem State.outstanding_reads (s : State) (x : Nat) (r : Request) (n : Nat) :
    ((s.reads x r).ni n).outstanding = (s.ni n).outstanding ∧ ((s.reads x r).ni n).quarantine = (s.ni n).quarantine ∧
      ((s.reads x r).ni n).ir = (s.ni n).ir ∧ ((s.reads x r).ni n).held = (s.ni n).held := by
  rw [State.ni_reads]
  split
  · next h => exact h ▸ ⟨rfl, rfl, rfl, rfl⟩
  · exact ⟨rfl, rfl, rfl, rfl⟩

theorem State.freeTag_reads (s : State) (x : Nat) (r : Request) (n : Nat) : (s.reads x r).freeTag n = s.freeTag n := by
  obtain ⟨hout, hquarantine, -, -⟩ := s.outstanding_reads x r n
  simp only [State.freeTag, State.tagTaken, hout, hquarantine]

theorem State.responseRoom_reads (s : State) (x : Nat) (r q : Request) (n : Nat) : (s.reads x r).responseRoom n q = s.responseRoom n q := by
  obtain ⟨hout, -, hir, -⟩ := s.outstanding_reads x r n
  simp only [State.responseRoom, State.reservedUnits, hout, hir]
  rfl

theorem State.sendsNow_congr {s t : State} (hreg : ∀ r i, isPend r = false → t.word r i = s.word r i) {n : Nat}
    (hheld : (t.ni n).held = (s.ni n).held) (vn : Nat) : t.sendsNow n vn = s.sendsNow n vn := by
  rw [State.sendsNow, hheld, State.on, State.f, hreg _ _ rfl, State.localUp_congr fun r i hp _ => hreg r i hp, State.sendsNow, State.on,
    State.f]

theorem State.sendsNow_reads (s : State) (x : Nat) (r : Request) (n vn : Nat) : (s.reads x r).sendsNow n vn = s.sendsNow n vn :=
  State.sendsNow_congr (fun r' i hp => (Kept.reads s x r).regs r' i hp List.not_mem_nil) (s.outstanding_reads x r n).2.2.2 vn

theorem State.sendsNow_asks (s : State) (x : Nat) (l : List Txn) (n vn : Nat) : (s.asks x l).sendsNow n vn = s.sendsNow n vn := by
  refine State.sendsNow_congr (fun r' i hp => (Kept.asks s x l).regs r' i hp List.not_mem_nil) ?_ vn
  rw [State.ni_asks]
  split
  · next h => rw [h]
  · rfl

/-- The header of a plain request of NI x that carries no record. -/
def State.plainPacket (s : State) (x n tag : Nat) (r : Request) : Packet :=
  s.requestPacket x n tag r (entryRoute (s.activeEntry x n)) 0 (entryPrio (s.activeEntry x n))

theorem State.plainPacket_reads (s : State) (x n tag : Nat) (r q : Request) : (s.reads x q).plainPacket x n tag r = s.plainPacket x n tag r := by
  rw [State.plainPacket, State.activeEntry_reads]
  rfl

theorem getLsbD_attr {d : Nat} (h : d ≤ 1) (k : Nat) : (BitVec.ofNat 8 (d + 8 * k)).getLsbD 1 = false := by
  rw [BitVec.getLsbD_ofNat, Nat.testBit_eq_decide_div_mod_eq]
  simp
  omega

/-- The attributes of a plain request that carries no record: DBG of a unit, and RSP_PRIO. -/
theorem State.plainPacket_attr_eq {s : State} {x : Nat} {r : Request} (hplain : plainRequest r = true) (hrecord : s.recordOf x = none)
    (n tag : Nat) : (s.plainPacket x n tag r).attr =
      BitVec.ofNat 8 ((if r.dbg && decide (0x60 ≤ x) then 1 else 0) + 8 * (entryPrio (s.activeEntry x n) % 4)) := by
  simp only [plainRequest, Bool.and_eq_true, Bool.not_eq_true'] at hplain
  obtain ⟨⟨⟨-, hurgent⟩, hmgmt⟩, huse⟩ := hplain
  have hprio : (match r.use with
      | .fabric k => k
      | _ => entryPrio (s.activeEntry x n)) = entryPrio (s.activeEntry x n) := by
    split at huse
    · cases huse
    · rfl
  simp [State.plainPacket, State.requestPacket, hrecord, hurgent, hmgmt]
  exact congrArg (fun k => BitVec.ofNat 8 (_ + 8 * (k % 4))) hprio

theorem State.plainPacket_attr {s : State} {x : Nat} {r : Request} (hplain : plainRequest r = true) (hrecord : s.recordOf x = none)
    (n tag : Nat) : (s.plainPacket x n tag r).attr.getLsbD 1 = false := by
  rw [State.plainPacket_attr_eq hplain hrecord]
  exact getLsbD_attr (by split <;> decide) _

/-- A plain request that no debugger makes, as its packet. -/
theorem State.plainPacket_eq {s : State} {x : Nat} {r : Request} (hplain : plainRequest r = true) (hrecord : s.recordOf x = none)
    (hdbg : r.dbg = false) (n tag : Nat) : s.plainPacket x n tag r =
      { s.postedFrom x n r.addr r.data with
        cmd := r.cmd, tag := tag, len := r.len, operand := r.operand
        beFirst := if r.cmd = .rd then 0 else enableMask r.addr r.len r.be 0
        beLast := if r.cmd = .rd then 0 else enableMask r.addr r.len r.be ((r.addr + r.len) / 64 - r.addr / 64) } := by
  have hattr := State.plainPacket_attr_eq hplain hrecord n tag
  rw [hdbg, Bool.false_and, if_neg (by decide), Nat.zero_add] at hattr
  simp only [plainRequest, Bool.and_eq_true, Bool.or_eq_true, beq_iff_eq] at hplain
  obtain ⟨⟨⟨hcmd, -⟩, -⟩, -⟩ := hplain
  have hpacket : s.plainPacket x n tag r = { s.plainPacket x n tag r with attr := (s.plainPacket x n tag r).attr } := rfl
  rw [hpacket, hattr]
  rcases hcmd with (hcmd | hcmd) | hcmd <;> simp [State.plainPacket, State.requestPacket, State.postedFrom, hrecord, hcmd]

theorem State.launch_posted {s : State} {x n : Nat} {r : Request} (hplain : plainRequest r = true) (hcmd : r.cmd = .wrp)
    (hrecord : s.recordOf x = none) : s.launch x n r (entryRoute (s.activeEntry x n)) 0 (entryPrio (s.activeEntry x n)) =
      s.send (s.plainPacket x n r.tag r) := by
  have hattr := State.plainPacket_attr hplain hrecord n r.tag
  rw [State.plainPacket] at hattr ⊢
  rw [State.launch, if_neg (by simp [hcmd, nonPosted])]
  dsimp only
  rw [hattr, Bool.false_and, if_neg (by decide)]

theorem State.launch_asked {s : State} {x n tag : Nat} {r : Request} (hx : 0x60 ≤ x) (hplain : plainRequest r = true)
    (hcmd : r.cmd = .rd ∨ r.cmd = .wr) (htag : s.freeTag x = some tag) (hrecord : s.recordOf x = none) :
    s.launch x n r (entryRoute (s.activeEntry x n)) 0 (entryPrio (s.activeEntry x n)) =
      (s.asks x [⟨tag, n, r.cmd, r.addr, r.len, r.use, s.time, 0, none⟩]).send (s.plainPacket x n tag r) := by
  have hattr := State.plainPacket_attr hplain hrecord n tag
  rw [State.plainPacket] at hattr ⊢
  rw [State.launch, if_pos (by rcases hcmd with h | h <;> simp [h, nonPosted]), if_neg (by omega), htag]
  dsimp only
  rw [hattr, if_neg (by decide)]
  rfl

/-- The tag that a request takes is that of no transaction under way. -/
theorem State.freeTag_not_taken {s : State} {x tag : Nat} (h : s.freeTag x = some tag) : ∀ t ∈ (s.ni x).outstanding, t.tag ≠ tag := by
  have hfree : s.tagTaken x tag = false := by simpa using List.find?_some h
  rw [State.tagTaken, Bool.or_eq_false_iff, List.any_eq_false] at hfree
  exact fun t ht => by simpa using hfree.1 t ht

section
variable {s : State} {x n : Nat} {r : Request} (hx : 0x60 ≤ x) (hplain : plainRequest r = true)
  (hdec : decodeAddr s.part r.addr = .ni n) (hvalid : entryValid (s.activeEntry x n) = true)
include hx hplain hdec hvalid

/-- A plain request whose address decodes to an NI is launched there. -/
theorem State.requestTaken_plain (hroom : s.requestWaits x r = false) :
    s.requestTaken x r = s.launch x n r (entryRoute (s.activeEntry x n)) 0 (entryPrio (s.activeEntry x n)) := by
  rw [State.requestTaken, if_neg (by omega)]
  dsimp only
  rw [hroom, if_neg (by decide), hdec]
  dsimp only
  rw [State.requestTo, if_neg (by simp [hvalid]), requestClass_plain hplain]
  rfl

variable (htakes : s.niTakes x = true) (hup : (s.ni x).csf.up = [])
include htakes hup

theorem State.request_plain (hroom : s.requestWaits x r = false) :
    s.request x r = (s.reads x r).launch x n r (entryRoute (s.activeEntry x n)) 0 (entryPrio (s.activeEntry x n)) := by
  have hpresent : niPresent s.part x = true := by
    simp only [State.niTakes, Bool.and_eq_true] at htakes
    exact htakes.1.1.1
  have hcsf : hasCsf x = true := decide_eq_true hx
  have hstation : s.station x = 0 := by
    simp only [State.niTakes, hcsf, Bool.and_eq_true, Bool.not_true, Bool.false_or, beq_iff_eq] at htakes
    exact htakes.2
  have hroom' : (s.reads x r).requestWaits x r = false := by
    have hfault : (s.reads x r).fabricFault x r = s.fabricFault x r := by
      obtain ⟨hout, hquarantine, -, -⟩ := s.outstanding_reads x r x
      simp only [State.fabricFault, State.tagTaken, hout, hquarantine]
      rfl
    rw [State.requestWaits, hfault, State.freeTag_reads, State.responseRoom_reads, ← State.requestWaits, hroom]
  have hentry := s.activeEntry_reads x r x n
  rw [State.request, if_neg (by simp [hpresent]), if_neg (by simp [hcsf]), if_neg (by omega), if_pos (by simp [hup, htakes, hroom]),
    ← hentry, ← State.reads]
  exact State.requestTaken_plain hx hplain hdec (by rw [hentry]; exact hvalid) hroom'

variable (hnow : s.sendsNow x 0 = true) (hrecord : s.recordOf x = none)
include hnow hrecord

/-- A posted write leaves at once. -/
theorem State.request_posted (hcmd : r.cmd = .wrp) : s.request x r = (s.reads x r).sentAt (s.plainPacket x n r.tag r) := by
  have hroom : s.requestWaits x r = false := by simp [State.requestWaits, hcmd, nonPosted]
  rw [State.request_plain hx hplain hdec hvalid htakes hup hroom, ← s.activeEntry_reads x r, State.launch_posted (s := s.reads x r) hplain hcmd hrecord,
    State.plainPacket_reads]
  refine State.send_now rfl ((s.sendsNow_reads x r x 0).trans hnow) fun h => ?_
  have hposted : nonPosted r.cmd = false := by simp [hcmd, nonPosted]
  exact absurd h (by rw [show (s.plainPacket x n r.tag r).cmd = r.cmd from rfl, hposted]; decide)

/-- A request that is answered leaves at once, under the lowest free tag. -/
theorem State.request_asked {tag : Nat} (hcmd : r.cmd = .rd ∨ r.cmd = .wr) (htag : s.freeTag x = some tag) (hroom : s.responseRoom x r = true) :
    s.request x r = ((s.reads x r).asks x [⟨tag, n, r.cmd, r.addr, r.len, r.use, s.time, 0, none⟩]).sentAt (s.plainPacket x n tag r) := by
  have hroom : s.requestWaits x r = false := by simp [State.requestWaits, htag, hroom]
  rw [State.request_plain hx hplain hdec hvalid htakes hup hroom, ← s.activeEntry_reads x r,
    State.launch_asked (s := s.reads x r) hx hplain hcmd ((s.freeTag_reads x r x).trans htag) hrecord, State.plainPacket_reads]
  refine State.send_now rfl (((s.reads x r).sendsNow_asks ..).trans ((s.sendsNow_reads x r x 0).trans hnow)) fun _ t ht htagged => ?_
  have hmem : t ∈ (s.ni x).outstanding ∨ t = ⟨tag, n, r.cmd, r.addr, r.len, r.use, s.time, 0, none⟩ := by
    have hin : t ∈ (((s.reads x r).asks x [⟨tag, n, r.cmd, r.addr, r.len, r.use, s.time, 0, none⟩]).ni x).outstanding := ht
    rw [State.ni_asks, if_pos rfl] at hin
    have hreads := (s.outstanding_reads x r x).1
    simp only [List.mem_append, List.mem_singleton] at hin
    rwa [hreads] at hin
  rcases hmem with hold | rfl
  · exact absurd htagged (State.freeTag_not_taken htag t hold)
  · rfl

end

-- ------------------------------------------------------------------ what such a request leaves

/-- From s to u the unit of NI x had a request sent: its packet's units stand behind those that the link has still to take, under
transactions that are outstanding, and the CS-F toward the unit is as before. -/
structure Requested (s u : State) (x : Nat) (l : List Txn) (p : Packet) : Prop where
  kept : Kept s u (statRegs x) [.net]
  ended : u.net.ended = s.net.ended
  others : OtherNis s u x
  ni : ∃ c : Csf, c.up = (s.ni x).csf.up ∧ c.down = (s.ni x).csf.down ∧
    u.ni x = { s.ni x with
      csf := c, outstanding := (s.ni x).outstanding ++ l
      out := (s.ni x).out ++ unitsOf { p with injTime := s.now.setWidth 32 } }

theorem State.ended_sentAt (u : State) (p : Packet) : (u.sentAt p).net.ended = u.net.ended := by
  have hnet := u.statSent_net p.src p.vn (packetUnits p) (packetBytes p)
  have hended := congrArg NetState.ended hnet
  exact hended

/-- An update of NI x that reads a request and puts transactions under way, before its packet leaves. -/
structure Asked (s u : State) (x : Nat) (l : List Txn) : Prop where
  kept : Kept s u [] [.net]
  ended : u.net.ended = s.net.ended
  others : OtherNis s u x
  ni : ∃ c : Csf, c.up = (s.ni x).csf.up ∧ c.down = (s.ni x).csf.down ∧
    u.ni x = { s.ni x with csf := c, outstanding := (s.ni x).outstanding ++ l }

theorem State.reads_asked (s : State) (x : Nat) (r : Request) : Asked s (s.reads x r) x [] := by
  refine ⟨Kept.reads .., rfl, fun m hm => ?_, ?_⟩
  · rw [State.ni_reads, if_neg hm]
  · rw [State.ni_reads, if_pos rfl, List.append_nil]
    exact ⟨({ (s.ni x).csf with upRead := ((s.ni x).csf.upRead + requestUnits r) % 32 } : Csf).settled, rfl, rfl, rfl⟩

theorem Asked.asks {s u : State} {x : Nat} (h : Asked s u x []) (l : List Txn) : Asked s (u.asks x l) x l := by
  obtain ⟨c, hup, hdown, hni⟩ := h.ni
  refine ⟨h.kept.via (Kept.asks ..) (by simp) (by simp), h.ended, fun m hm => ?_, c, hup, hdown, ?_⟩
  · rw [State.ni_asks, if_neg hm, h.others m hm]
  · rw [State.ni_asks, if_pos rfl, hni, List.append_nil]

theorem Asked.sentAt {s u : State} {x : Nat} {l : List Txn} (h : Asked s u x l) {p : Packet} (hsrc : p.src = x) (hvn : p.vn < 4) :
    Requested s (u.sentAt p) x l p := by
  subst hsrc
  obtain ⟨c, hup, hdown, hni⟩ := h.ni
  refine ⟨(h.kept.weaken (by simp) (by simp)).via (Kept.sentAt _ hvn) (List.Subset.refl _) (by simp),
    (u.ended_sentAt p).trans h.ended, fun m hm => ?_, c, hup, hdown, ?_⟩
  · rw [State.ni_sentAt, if_neg hm, h.others m hm]
  · rw [State.ni_sentAt, if_pos rfl, h.kept.now (by decide), hni]

-- ------------------------------------------------------------------ why work that waits goes on no more than before

section
variable {s : State} {v : NetState}

/-- What an NI's CS-F can move depends on that NI alone. -/
theorem State.csfMoves_putNet {n : Nat} (h : (s.putNet v).ni n = s.ni n) : (s.putNet v).csfMoves n = s.csfMoves n := by
  have hwaits (r : Request) : (s.putNet v).requestWaits n r = s.requestWaits n r := by
    simp only [State.requestWaits, State.fabricFault, State.freeTag, State.tagTaken, State.responseRoom, State.reservedUnits, h]
    rfl
  have hreads : (s.putNet v).readsUp n = s.readsUp n := by
    simp only [State.readsUp, h, hwaits]
    rfl
  have hnext : (s.putNet v).nextCrossing n = s.nextCrossing n := by
    simp only [State.nextCrossing, h]
    rfl
  rw [State.csfMoves, hnext, hreads, State.csfMoves]

theorem State.edgeMoves_putNet {n : Nat} (h : (s.putNet v).ni n = s.ni n) : (s.putNet v).edgeMoves n = s.edgeMoves n := by
  have hhead (chan : Nat) : ((s.putNet v).channelHead n chan).isSome = (s.channelHead n chan).isSome := by
    unfold State.channelHead
    rw [h]
    split <;> simp [Option.isSome_map]
  have hmoves : (s.putNet v).channelMoves n = s.channelMoves n := by
    funext chan
    simp only [State.channelMoves, hhead, h]
    rfl
  simp only [State.edgeMoves, State.iqTakes, h, hmoves]
  rfl

theorem State.markerGoes_putNet {n : Nat} (h : (s.putNet v).ni n = s.ni n) : (s.putNet v).markerGoes n = s.markerGoes n := by
  simp only [State.markerGoes, State.freeTag, State.tagTaken, State.responseRoom, State.reservedUnits, h]
  rfl

end

/-- The network after a request of NI x was sent, x holding no request that waits. -/
structure MoreAsked (s : State) (v : NetState) (x : Nat) : Prop where
  ended : v.ended = s.net.ended
  others : ∀ m, m ≠ x → (s.putNet v).ni m = s.ni m
  up : ((s.putNet v).ni x).csf.up = []
  down : ((s.putNet v).ni x).csf.down = (s.ni x).csf.down
  arrived : ((s.putNet v).ni x).arrived = (s.ni x).arrived
  markers : ((s.putNet v).ni x).markers = (s.ni x).markers
  quarantine : ((s.putNet v).ni x).quarantine = (s.ni x).quarantine
  ir : ((s.putNet v).ni x).ir = (s.ni x).ir
  outstanding : ∃ l, ((s.putNet v).ni x).outstanding = (s.ni x).outstanding ++ l

namespace MoreAsked
variable {s : State} {v : NetState} {x : Nat} (h : MoreAsked s v x)
include h

theorem csfMoves (n : Nat) (hs : s.csfMoves n = false) : (s.putNet v).csfMoves n = false := by
  by_cases hn : n = x
  · subst hn
    have hnext : (s.putNet v).nextCrossing n = s.nextCrossing n := by
      simp only [State.nextCrossing, Csf.downUnits, h.down, h.arrived]
      rfl
    simp only [State.csfMoves, Bool.or_eq_false_iff] at hs
    rw [State.csfMoves, hnext, hs.1, State.readsUp, h.up, Bool.or_false]
  · rw [State.csfMoves_putNet (h.others n hn), hs]

theorem freeTag (hs : s.freeTag x = none) : (s.putNet v).freeTag x = none := by
  obtain ⟨l, hl⟩ := h.outstanding
  simp only [State.freeTag, List.find?_eq_none, State.tagTaken, h.quarantine, hl, List.any_append] at hs ⊢
  intro tag htag hfree
  refine hs tag htag ?_
  simp only [Bool.not_eq_true', Bool.or_eq_false_iff] at hfree ⊢
  exact ⟨hfree.1.1, hfree.2⟩

theorem responseRoom (r : Request) (hs : s.responseRoom x r = false) : (s.putNet v).responseRoom x r = false := by
  obtain ⟨l, hl⟩ := h.outstanding
  rw [State.responseRoom, decide_eq_false_iff_not, State.reservedUnits] at hs ⊢
  rw [h.ir, hl, List.map_append, List.sum_append]
  omega

theorem markerGoes (n : Nat) (hs : (s.markerGoes n).isSome = false) : ((s.putNet v).markerGoes n).isSome = false := by
  by_cases hn : n = x
  · subst hn
    rw [State.markerGoes] at hs ⊢
    rw [h.markers]
    cases hmarkers : (s.ni n).markers with
    | nil => rfl
    | cons m rest =>
      obtain ⟨dest, addr, number⟩ := m
      rw [hmarkers] at hs
      dsimp only at hs ⊢
      cases htag : s.freeTag n with
      | none => rw [h.freeTag htag]; rfl
      | some tag =>
        have hroom (tag' : Nat) : (s.putNet v).responseRoom n (markerRequest addr tag') = false := by
          refine h.responseRoom _ ?_
          rw [htag] at hs
          have hnone : s.responseRoom n (markerRequest addr tag) = false := by simpa [Option.isSome_filter] using hs
          exact hnone
        cases (s.putNet v).freeTag n <;> simp [Option.filter, hroom]
  · rw [State.markerGoes_putNet (h.others n hn), hs]

theorem calm (hx : 0x60 ≤ x) (hs : s.calm = true) : (s.putNet v).calm = true := by
  rw [State.calm_iff] at hs ⊢
  obtain ⟨hdue, hended, hresume, hpieces, hdma, hload, htransfer, hqueued, hreset, hedges, hcsf, hmarkers, hrepair⟩ := hs
  refine ⟨hdue, h.ended.trans hended, hresume, hpieces, hdma, hload, htransfer, hqueued, hreset, ?_, ?_, ?_, hrepair⟩
  · simp only [State.edgesDue, Bool.or_eq_false_iff, Bool.not_eq_false', State.busyEdges_iff] at hedges ⊢
    refine ⟨hedges.1, fun n => ?_⟩
    by_cases hn : n < 0x60
    · rw [State.edgeMoves_putNet (h.others n (by omega))]
      exact hedges.2 n
    · simp [hn]
  · rw [State.csfDue_iff] at hcsf ⊢
    exact fun n => h.csfMoves n (hcsf n)
  · rw [State.markersDue_iff] at hmarkers ⊢
    exact fun n => h.markerGoes n (hmarkers n)

end MoreAsked

/-- A state stays calm where a unit's request was sent. -/
theorem Requested.calm {s u : State} {x : Nat} {l : List Txn} {p : Packet} (h : Requested s u x l p) (hx : 0x60 ≤ x)
    (hup : (s.ni x).csf.up = []) (hs : s.calm = true) : u.calm = true := by
  have hback : Kept s (u.putNet s.net) (statRegs x) [] := by
    refine ⟨h.kept.part, h.kept.pending, h.kept.regs, fun a _ => ?_⟩
    by_cases hnet : a = .net
    · subst hnet
      exact rfl
    · have hkept := h.kept.areas a (by simpa using hnet)
      cases a
      case net => exact absurd rfl hnet
      all_goals exact hkept
  have hcalm : (u.putNet s.net).calm = true := by
    rw [hback.calm (by simp) (fun y hy => (statRegs_link hy).2.2), hs]
  obtain ⟨c, hcup, hcdown, hni⟩ := h.ni
  have hmore : MoreAsked (u.putNet s.net) u.net x := by
    have hthere : ((u.putNet s.net).putNet u.net).ni x = u.ni x := rfl
    have hbefore : (u.putNet s.net).ni x = s.ni x := rfl
    refine ⟨h.ended, h.others, ?_, ?_, ?_, ?_, ?_, ?_, ⟨l, ?_⟩⟩ <;> rw [hthere, hni]
    · exact hcup.trans hup
    · exact hcdown
    all_goals rfl
  exact hmore.calm hx hcalm

-- ------------------------------------------------------------------ what a command shows of the request

section
variable {s : State} {x n tag : Nat} {r : Request} (hx : 0x60 ≤ x) (hplain : plainRequest r = true)
  (hdec : decodeAddr s.part r.addr = .ni n)
include hx hplain hdec

/-- A request that is answered, where its NI sends it at once. -/
theorem Requested.of_sendsAt (hcmd : r.cmd = .rd ∨ r.cmd = .wr) (h : s.sendsAt x n tag r = true) :
    Requested s (s.request x r) x [⟨tag, n, r.cmd, r.addr, r.len, r.use, s.time, 0, none⟩] (s.plainPacket x n tag r) ∧
      (s.ni x).csf.up = [] ∧ s.recordOf x = none := by
  simp only [State.sendsAt, Bool.and_eq_true, List.isEmpty_iff, beq_iff_eq, Option.isNone_iff_eq_none] at h
  obtain ⟨⟨⟨⟨⟨⟨htakes, hup⟩, htag⟩, hroom⟩, hvalid⟩, hnow⟩, hrecord⟩ := h
  rw [State.request_asked hx hplain hdec hvalid htakes hup hnow hrecord hcmd htag hroom]
  exact ⟨((s.reads_asked x r).asks _).sentAt rfl (show 0 < 4 by decide), hup, hrecord⟩

/-- A posted write, where its NI sends it at once. -/
theorem Requested.of_posted (hcmd : r.cmd = .wrp) (hvalid : entryValid (s.activeEntry x n) = true) (htakes : s.niTakes x = true)
    (hup : (s.ni x).csf.up = []) (hnow : s.sendsNow x 0 = true) (hrecord : s.recordOf x = none) :
    Requested s (s.request x r) x [] (s.plainPacket x n r.tag r) := by
  rw [State.request_posted hx hplain hdec hvalid htakes hup hnow hrecord hcmd]
  exact (s.reads_asked x r).sentAt rfl (show 0 < 4 by decide)

end

/-- What event delivery leaves of a request, for a state before with the same network and clock. -/
theorem Requested.shown {s s0 u t : State} {x : Nat} {l : List Txn} {p : Packet} (h : Requested s0 u x l p) (h0 : s0.net = s.net)
    (hq : Kept u t [] []) (hsrc : p.src = x) :
    Sent s t p ∧ (t.ni x).outstanding = (s.ni x).outstanding ++ l ∧ OtherNis s t x := by
  subst hsrc
  have hbefore : s0.ni = s.ni := State.ni_congr h0
  have hafter : t.ni = u.ni := State.ni_congr (hq.areas .net List.not_mem_nil)
  have hnow : t.now = s0.now := hq.now_eq.trans (h.kept.now (by decide))
  obtain ⟨c, -, -, hni⟩ := h.ni
  refine ⟨?_, ?_, fun m hm => ?_⟩
  · rw [Sent, hafter, hni, hnow, hbefore]
  · rw [hafter, hni, hbefore]
  · rw [hafter, h.others m hm, hbefore]

end Sys2Proof.Machine
end

section
/-! PROOF. Drives found, attached, detached, failed and timed out, and their memory requests (R345, R346). -/

namespace Sys2Proof.Machine

-- ------------------------------------------------------------------ a drive changes state (R346)

theorem Kept.driveMove (s : State) (d st : Nat) : Kept s (s.driveMove d st) [(.STORE_DRV_STATUS, d)] [.ledger] :=
  (Kept.setF ..).trans (Kept.journalEvent ..)

theorem State.word_driveMove (s : State) (d st : Nat) (r : Reg) (i : Nat) :
    (s.driveMove d st).word r i = (s.setF F.STORE_DRV_STATUS_STATE d st).word r i := by simp [State.driveMove]

theorem State.store_driveMove (s : State) (d st : Nat) : (s.driveMove d st).store = s.store := by simp [State.driveMove]

theorem State.driveState_driveMove (s : State) (d k : Nat) {st : Nat} (h : st < 8) :
    (s.driveMove d st).driveState k = if k = d then st else s.driveState k := by
  rw [State.driveState, State.f, State.word_driveMove, ← State.f]
  split
  · next hk =>
    rw [hk, State.f_setF_same _ _ _ _ (by decide)]
    exact Nat.mod_eq_of_lt h
  · next hk => simp [State.f, State.word_setF, hk, State.driveState]

/-- What drive k is, where its STATUS is as before. -/
theorem Kept.driveState {s t : State} {R : Regs} {A : List Area} (h : Kept s t R A) {k : Nat} (hk : (Reg.STORE_DRV_STATUS, k) ∉ R) :
    t.driveState k = s.driveState k := h.f F.STORE_DRV_STATUS_STATE k rfl hk

/-- BUSY once a drive is no more ATTACHING. -/
theorem State.busyUntil_of_moved {s u t : State} {d st : Nat} (hst : st < 8) (hne : st ≠ 2) {A : List Area}
    (hu : Kept s u [(.STORE_DRV_STATUS, d)] A) (ht : Kept (u.driveMove d st).storeBusy t [] []) : s.BusyUntil t d := by
  have hstate (k : Nat) : (u.driveMove d st).driveState k = if k = d then st else s.driveState k := by
    rw [State.driveState_driveMove u d k hst]
    split
    · rfl
    · next hk => exact hu.driveState (by simpa using hk)
  have hcmd : (u.driveMove d st).store.command = t.store.command := by
    rw [ht.store_eq, (Kept.storeBusy _).areas .store (by decide)]
  rw [State.BusyUntil, ht.f_eq rfl, State.f_storeBusy, hcmd]
  refine or_congr_right (exists_congr fun k => ?_)
  rw [hstate]
  by_cases hk : k = d
  · simp [hk, hne]
  · simp [hk]

-- ------------------------------------------------------------------ attaching (R345, R346)

/-- A drive as an attach that succeeded finds it. -/
def Drive.found (v : Drive) (bytes : Nat) (media : Option Media) : Drive :=
  { v with nsBytes := bytes, header := (media.map (·.header)).getD v.header, entries := (media.map (·.entries)).getD v.entries }

/-- What an attach that succeeded shows of the drive, before it is READY. -/
def State.driveFound (s : State) (d gen width bytes : Nat) (vwc lba : Bool) (media : Option Media) : State :=
  let s := s.setDrive d ((s.drive d).found bytes media)
  let s := s.setF F.STORE_DRV_STATUS_GEN d gen
  let s := s.setF F.STORE_DRV_STATUS_WIDTH d width
  let s := s.setF F.STORE_DRV_STATUS_VWC d (if vwc then 1 else 0)
  let s := s.setF F.STORE_DRV_STATUS_LBA4K d (if lba then 1 else 0)
  s.setF F.STORE_DRV_STATUS_FAIL_CAUSE d 0

theorem Kept.driveFound (s : State) (d gen width bytes : Nat) (vwc lba : Bool) (media : Option Media) :
    Kept s (s.driveFound d gen width bytes vwc lba media) [(.STORE_DRV_STATUS, d)] [.store] :=
  ((((((Kept.setDrive ..).trans (Kept.setF ..)).trans (Kept.setF ..)).trans (Kept.setF ..)).trans (Kept.setF ..)).trans
    (Kept.setF ..)).weaken (by simp) (by simp)

theorem State.drive_driveFound (s : State) (d gen width bytes : Nat) (vwc lba : Bool) (media : Option Media) (k : Nat) :
    (s.driveFound d gen width bytes vwc lba media).drive k = if k = d then (s.drive d).found bytes media else s.drive k := by
  have hstore : (s.driveFound d gen width bytes vwc lba media).store = (s.setDrive d ((s.drive d).found bytes media)).store := by
    simp [State.driveFound]
  rw [State.drive, hstore, ← State.drive, State.drive_setDrive]

theorem State.attachDone_ready {s : State} {d : Nat} (h : s.driveState d = 2) (gen width bytes : Nat) (vwc lba : Bool)
    (media : Option Media) : s.attachDone d (.ready gen width vwc lba bytes media) =
      ((s.driveFound d gen width bytes vwc lba media).driveMove d 3).storeBusy := by
  rw [State.attachDone, if_neg (by simp [h])]
  rfl

theorem Kept.attached (s : State) (d gen width bytes : Nat) (vwc lba : Bool) (media : Option Media) :
    Kept s ((s.driveFound d gen width bytes vwc lba media).driveMove d 3).storeBusy
      [(.STORE_DRV_STATUS, d), (.STORE_STATUS, 0)] [.store, .ledger] :=
  (((Kept.driveFound ..).trans (Kept.driveMove ..)).trans (Kept.storeBusy _)).weaken (by simp) (by simp)

theorem State.attachDone_failed {s : State} {d : Nat} (h : s.driveState d = 2) (cause : Nat) :
    s.attachDone d (.failed cause) = ((s.setF F.STORE_DRV_STATUS_FAIL_CAUSE d cause).driveMove d 1).storeBusy := by
  rw [State.attachDone, if_neg (by simp [h])]

/-- BUSY while an attach runs. -/
theorem State.storeBusy_of_attaching {s : State} {d : Nat} (hd : d < 8) (h : s.driveState d = 2) :
    s.storeBusy = s.setF F.STORE_STATUS_BUSY 0 1 := by
  have hruns : ((List.range 8).any fun d => s.driveState d == 2) = true :=
    List.any_eq_true.2 ⟨d, List.mem_range.2 hd, by simp [h]⟩
  rw [State.storeBusy, hruns, Bool.or_true]
  rfl

theorem State.storeAttach_of {s : State} {d : Nat} (hd : d < 8) (h : s.driveState d = 1) (hroot : s.rootPort d = true) (who : Who) :
    s.storeAttach who d = (s.driveMove d 2).setF F.STORE_STATUS_BUSY 0 1 := by
  have hattaching : (s.driveMove d 2).driveState d = 2 := by rw [State.driveState_driveMove s d d (by decide), if_pos rfl]
  rw [State.storeAttach, if_neg (by simp [h, hroot]), State.storeBusy_of_attaching hd hattaching]

/-- STORE.STATUS apart, BUSY shows nothing. -/
theorem State.word_storeBusy (s : State) {r : Reg} (h : r ≠ .STORE_STATUS) (i : Nat) : s.storeBusy.word r i = s.word r i := by
  rw [State.storeBusy, State.word_setF, if_neg fun e => h e.1]

-- ------------------------------------------------------------------ failures (R346)

/-- The drive's own registers, as it fails. -/
def State.driveFaulted (s : State) (d cause sc sct : Nat) : State :=
  (((s.setF F.STORE_DRV_STATUS_FAIL_CAUSE d cause).setF F.STORE_DRV_ERR_SC d sc).setF F.STORE_DRV_ERR_SCT d sct).bump
    F.STORE_DRV_ERR_ERRORS d 1 |>.driveMove d 4

/-- A READY drive of no mounted volume fails. -/
def State.driveFails (s : State) (d cause sc sct : Nat) : State := (s.driveFaulted d cause sc sct).raise F.STORE_STATUS_DRIVE_FAIL 0

theorem Kept.driveFaulted (s : State) (d cause sc sct : Nat) :
    Kept s (s.driveFaulted d cause sc sct) [(.STORE_DRV_STATUS, d), (.STORE_DRV_ERR, d)] [.ledger] :=
  (((((Kept.setF ..).trans (Kept.setF ..)).trans (Kept.setF ..)).trans (Kept.bump ..)).trans (Kept.driveMove ..)).weaken
    (by simp) (by simp)

theorem Kept.driveFails (s : State) (d cause sc sct : Nat) :
    Kept s (s.driveFails d cause sc sct) [(.STORE_DRV_STATUS, d), (.STORE_DRV_ERR, d), (.STORE_STATUS, 0)] [.ledger] :=
  (Kept.driveFaulted ..).trans (Kept.raise ..)

theorem State.inMounted_driveFails (s : State) (d cause sc sct k : Nat) : (s.driveFails d cause sc sct).inMounted k = s.inMounted k := by
  have hkept := Kept.driveFails s d cause sc sct
  have hmounted : (s.driveFails d cause sc sct).f F.STORE_STATUS_MOUNTED 0 = s.f F.STORE_STATUS_MOUNTED 0 :=
    (State.f_setF_otherField _ (F := F.STORE_STATUS_DRIVE_FAIL) (by decide) (by decide) ..).trans
      ((Kept.driveFaulted s d cause sc sct).f F.STORE_STATUS_MOUNTED 0 rfl (by simp))
  rw [State.inMounted, State.on, hmounted, hkept.regs .STORE_CFG 0 rfl (by simp), State.inMounted, State.on]

theorem State.driveFail_ready {s : State} {d : Nat} (h : s.driveState d = 3) (hout : s.inMounted d = false) (cause sc sct : Nat) :
    s.driveFail d cause sc sct false = s.driveFails d cause sc sct := by
  rw [State.driveFail, if_neg (by decide)]
  dsimp only
  rw [h]
  exact if_neg (by simpa [State.driveFails, State.driveFaulted, hout] using s.inMounted_driveFails d cause sc sct d)

theorem State.word_driveFails (s : State) (d cause sc sct : Nat) :
    (s.driveFails d cause sc sct).word .STORE_DRV_STATUS d = changed (s.word .STORE_DRV_STATUS d)
        [(F.STORE_DRV_STATUS_FAIL_CAUSE, cause), (F.STORE_DRV_STATUS_STATE, 4)] ∧
    (s.driveFails d cause sc sct).word .STORE_DRV_ERR d = changed (s.word .STORE_DRV_ERR d) [(F.STORE_DRV_ERR_SC, sc),
        (F.STORE_DRV_ERR_SCT, sct), (F.STORE_DRV_ERR_ERRORS, s.counted F.STORE_DRV_ERR_ERRORS d 1)] ∧
    (s.driveFails d cause sc sct).word .STORE_STATUS 0 = changed (s.word .STORE_STATUS 0) [(F.STORE_STATUS_DRIVE_FAIL, 1)] := by
  refine ⟨?_, ?_, ?_⟩
  · simp [State.driveFails, State.driveFaulted, State.driveMove, State.bump, State.word_setF, State.word_raise, changed]
  · have hcount : (((s.setF F.STORE_DRV_STATUS_FAIL_CAUSE d cause).setF F.STORE_DRV_ERR_SC d sc).setF F.STORE_DRV_ERR_SCT d sct).counted
        F.STORE_DRV_ERR_ERRORS d 1 = s.counted F.STORE_DRV_ERR_ERRORS d 1 := by
      rw [State.counted, State.f_setF_otherField _ (by decide) (by decide), State.f_setF_otherField _ (by decide) (by decide),
        State.f_setF_otherReg _ (by decide), State.counted]
    simp [State.driveFails, State.driveFaulted, State.driveMove, State.word_bump, State.word_setF, State.word_raise, changed, hcount]
  · simp [State.driveFails, State.driveFaulted, State.driveMove, State.bump, State.word_setF, State.word_raise, changed]

/-- The state and the cause of a drive that failed. -/
theorem State.driveFails_shows (s : State) (d cause sc sct : Nat) :
    (s.driveFails d cause sc sct).driveState d = 4 ∧ (s.driveFails d cause sc sct).f F.STORE_DRV_STATUS_FAIL_CAUSE d = cause % 2 ^ 4 := by
  obtain ⟨hstatus, -, -⟩ := s.word_driveFails d cause sc sct
  rw [State.driveState, State.f, State.f, hstatus]
  simp [changed, fieldOf_withField_same, fieldOf_withField_other]

theorem State.driveTimeout_recovered (s : State) (d : Nat) :
    s.driveTimeout d true = (s.advanceTo (s.timeoutAt d)).bump F.STORE_DRV_ERR_ERRORS d 1 := by
  rw [State.driveTimeout, State.timeoutAt, if_pos rfl]

theorem State.driveTimeout_failed (s : State) (d : Nat) :
    s.driveTimeout d false = (s.advanceTo (s.timeoutAt d)).driveFail d 2 0 0 false := by
  rw [State.driveTimeout, State.timeoutAt, if_neg (by decide)]

-- ------------------------------------------------------------------ memory requests of a drive (R345)

theorem State.driveMemory_refused {s : State} {a len : Nat} (hlong : hbmSize < a + len + 1) (hring : s.inPlayRing a (len + 1) = false)
    (d : Nat) (write : Bool) (data : List Byte) :
    s.driveMemory d write a len data = (s.bump F.STORE_DRV_ERR_ERRORS d 1).emit (.driveUnsupported d a) := by
  have hout : inHbm a (len + 1) = false := by
    rw [inHbm, decide_eq_false_iff_not]
    omega
  rw [State.driveMemory, hout, hring]
  simp

theorem State.driveMemory_fits {s : State} {a len : Nat} {write : Bool}
    (hfits : (inHbm a (len + 1) || (write && s.inPlayRing a (len + 1))) = true) (d : Nat) (data : List Byte) :
    s.driveMemory d write a len data = s.request 0x98 (driveAsk d write a len data) := by
  rw [State.driveMemory, hfits]
  rfl

/-- A drive's memory request that its NI sends at once. -/
theorem Runs.driveAsks {s : State} {d a len n tag : Nat} {write : Bool} {data : List Byte} (hs : s.ready = true) (hd : d < 8)
    (hstore : Part.hasStore s.part = true) (hfits : (inHbm a (len + 1) || (write && s.inPlayRing a (len + 1))) = true)
    (hsends : s.sendsAt 0x98 n tag (driveAsk d write a len data) = true) (hdec : decodeAddr s.part a = .ni n) :
    Runs (.driveMemoryRequest d write a len data) s fun t =>
      Sent s t { s.postedFrom 0x98 n a data with
        cmd := if write then .wr else .rd, tag := tag, len := len
        beFirst := if write then enableMask a len [] 0 else 0
        beLast := if write then enableMask a len [] ((a + len) / 64 - a / 64) else 0 } ∧
      (t.ni 0x98).outstanding =
        (s.ni 0x98).outstanding ++ [⟨tag, n, if write then .wr else .rd, a, len, .drive d, s.time, 0, none⟩] ∧
      OtherNis s t 0x98 ∧ Kept s t (statRegs 0x98) [.net] := by
  have hplain : plainRequest (driveAsk d write a len data) = true := by cases write <;> rfl
  obtain ⟨hasked, hup, hrecord⟩ := Requested.of_sendsAt (s := s) (by decide) hplain hdec (by cases write <;> simp [driveAsk]) hsends
  refine Runs.of_calmEffect (f := fun s => if d < 8 ∧ s.storeRuns then s.driveMemory d write a len data else s) rfl hs
    ((if_pos ⟨hd, hstore⟩).trans (State.driveMemory_fits hfits d data)) hasked.kept (hasked.calm (by decide) hup) fun t hq hk => ?_
  obtain ⟨hsent, hout, hothers⟩ := hasked.shown rfl hq rfl
  rw [State.plainPacket_eq hplain hrecord rfl] at hsent
  refine ⟨?_, hout, hothers, hk⟩
  cases write <;> exact hsent

/-- Settles O34: a drive's registers follow what happens to it, and its memory requests leave at NI 0x98 as any unit's do. -/
theorem storeDrives : Obligations.StoreDrives := by
  unfold Obligations.StoreDrives
  refine ⟨fun s d hs hd hstore h0 => ?_, fun s who d hs hd hstore h1 hroot => ?_, fun s who d hs hd hstore hrefused => ?_,
    fun s d gen width bytes vwc lba media hs hd hstore h2 => ?_, fun s d cause hs hd hstore h2 => ?_,
    fun s who d hs hd hstore h3 hout => ?_, fun s d cause sc sct hs hd hstore h3 hout => ?_, fun s d hs hd hstore => ?_,
    fun s d hs hd hstore h3 hout => ?_, fun s d a len write data hs hd hstore hlong hring => ?_,
    fun s d a len n tag data hs hd hstore hin hsends hdec => ?_, fun s d a n tag data hs hd hstore hdata hin hsends hdec => ?_⟩
  · refine Runs.of_effect (f := (·.driveLinkUp d)) (u := (s.setDrive d { s.drive d with linkUp := true }).driveMove d 1) rfl hs ?_
      ((Kept.setDrive ..).trans (Kept.driveMove ..)) (by decide) (by simp [calmRegs]) fun t hq hk => ⟨?_, ?_, hk⟩
    · rw [State.driveLinkUp, if_neg (by simp [State.storeRuns, hstore, hd])]
      exact if_pos h0
    · rw [State.drive, hq.store_eq, State.store_driveMove, ← State.drive, State.drive_setDrive, if_pos rfl]
    · rw [hq.word_eq rfl, State.word_driveMove]
      simp [State.word_setF, changed]
  · refine Runs.of_effect (f := fun s => if d < 8 ∧ s.storeRuns then s.storeAttach who d else s) rfl hs
      ((if_pos ⟨hd, hstore⟩).trans (State.storeAttach_of hd h1 hroot who))
      (((Kept.driveMove ..).trans (Kept.setF ..)).weaken (by simp) (by simp)) (by decide) (by simp [calmRegs])
      fun t hq hk => ⟨?_, ?_, hk⟩
    · rw [hq.word_eq rfl]
      simp [State.word_setF, State.word_driveMove, changed]
    · rw [hq.word_eq rfl]
      simp [State.word_setF, State.word_driveMove, changed]
  · exact Runs.of_refusal (f := fun s => if d < 8 ∧ s.storeRuns then s.storeAttach who d else s) rfl hs
      ((if_pos ⟨hd, hstore⟩).trans (if_pos (by rcases hrefused with h | h <;> simp [h]))) rfl (by decide) (by decide)
  · have hfound := Kept.driveFound s d gen width bytes vwc lba media
    refine Runs.of_effect (f := fun s => if d < 8 then s.attachDone d (.ready gen width vwc lba bytes media) else s) rfl hs
      ((if_pos hd).trans (State.attachDone_ready h2 gen width bytes vwc lba media)) (Kept.attached ..) (by decide) (by simp [calmRegs])
      fun t hq hk => ?_
    have hdrive (k : Nat) : t.drive k = if k = d then (s.drive d).found bytes media else s.drive k := by
      rw [State.drive, hq.store_eq, (Kept.storeBusy _).areas .store (by decide), State.store_driveMove, ← State.drive,
        State.drive_driveFound]
    refine ⟨?_, ?_, fun m hm => ?_, fun hm => ?_, fun k _ hkd => ?_, State.busyUntil_of_moved (by decide) (by decide) hfound hq, hk⟩
    · rw [hq.word_eq rfl, State.word_storeBusy _ (by decide), State.word_driveMove]
      cases vwc <;> cases lba <;> simp [State.driveFound, State.word_setF, changed]
    · rw [hdrive, if_pos rfl, Drive.found]
    · rw [hdrive, if_pos rfl, Drive.found, hm]
      exact ⟨rfl, rfl⟩
    · rw [hdrive, if_pos rfl, Drive.found, hm]
      exact ⟨rfl, rfl⟩
    · rw [hdrive, if_neg hkd]
  · refine Runs.of_effect (f := fun s => if d < 8 then s.attachDone d (.failed cause) else s) rfl hs
      ((if_pos hd).trans (State.attachDone_failed h2 cause))
      ((((Kept.setF ..).trans (Kept.driveMove ..)).trans (Kept.storeBusy _)).weaken (by simp) (by simp)) (by decide) (by simp [calmRegs])
      fun t hq hk => ⟨?_, State.busyUntil_of_moved (by decide) (by decide) (Kept.setF ..) hq, hk⟩
    rw [hq.word_eq rfl, State.word_storeBusy _ (by decide), State.word_driveMove]
    simp [State.word_setF, changed]
  · refine Runs.of_effect (f := fun s => if d < 8 ∧ s.storeRuns then s.storeDetach who d else s) (u := s.driveMove d 1) rfl hs ?_
      (Kept.driveMove ..) (by decide) (by simp [calmRegs]) fun t hq hk => ⟨?_, hk⟩
    · refine (if_pos ⟨hd, hstore⟩).trans ?_
      simp [State.storeDetach, h3, hout]
    · rw [hq.word_eq rfl, State.word_driveMove]
      simp [State.word_setF, changed]
  · obtain ⟨hstatus, herr, hfail⟩ := s.word_driveFails d cause sc sct
    exact Runs.of_effect (f := fun s => if d < 8 ∧ s.storeRuns then s.driveFail d cause sc sct false else s) rfl hs
      ((if_pos ⟨hd, hstore⟩).trans (State.driveFail_ready h3 hout cause sc sct)) (Kept.driveFails ..) (by decide) (by simp [calmRegs])
      fun t hq hk => ⟨(hq.word_eq rfl d).trans hstatus, (hq.word_eq rfl d).trans herr, (hq.word_eq rfl 0).trans hfail, hk⟩
  · refine Runs.of_effect (f := fun s => if d < 8 ∧ s.storeRuns then s.driveTimeout d true else s)
      rfl hs ((if_pos ⟨hd, hstore⟩).trans (s.driveTimeout_recovered d))
      ((Kept.advanceTo ..).trans (Kept.bump ..)) (by decide) (by simp [calmRegs]) fun t hq hk => ⟨?_, ?_, hk⟩
    · rw [hq.time_eq]
      exact (Kept.bump ..).time (by decide)
    · rw [hq.word_eq rfl, State.word_bump, if_pos ⟨rfl, rfl⟩, State.counted]
      simp [changed, State.counted]
  · have hadvanced := Kept.advanceTo s (s.timeoutAt d)
    have h3' : (s.advanceTo (s.timeoutAt d)).driveState d = 3 := (hadvanced.driveState List.not_mem_nil).trans h3
    have hout' : (s.advanceTo (s.timeoutAt d)).inMounted d = false := by
      rw [State.inMounted, hadvanced.on F.STORE_STATUS_MOUNTED 0 rfl List.not_mem_nil, hadvanced.regs _ _ rfl List.not_mem_nil]
      exact hout
    refine Runs.of_effect (f := fun s => if d < 8 ∧ s.storeRuns then s.driveTimeout d false else s) rfl hs
      ((if_pos ⟨hd, hstore⟩).trans ((s.driveTimeout_failed d).trans (State.driveFail_ready h3' hout' 2 0 0))) (hadvanced.trans (Kept.driveFails ..)) (by decide)
      (by simp [calmRegs]) fun t hq hk => ⟨?_, ?_, ?_, ?_, hk⟩
    · rw [hq.time_eq]
      exact (Kept.driveFails ..).time (by decide)
    · exact (hq.driveState List.not_mem_nil).trans (State.driveFails_shows ..).1
    · exact (hq.f_eq rfl d).trans (State.driveFails_shows _ _ 2 0 0).2
    · exact (hq.f_eq rfl 0).trans (State.f_raise_same _ _ _ (by decide) (by decide))
  · refine Runs.of_effect (f := fun s => if d < 8 ∧ s.storeRuns then s.driveMemory d write a len data else s)
      rfl hs ((if_pos ⟨hd, hstore⟩).trans (State.driveMemory_refused hlong hring d write data)) ((Kept.bump ..).trans (Kept.emit ..))
      (by decide) (by simp [calmRegs]) fun t hq hk => ⟨?_, SentOut.of_quiet hq (by rw [State.emit, State.putOut_out, State.bump_out]), hk⟩
    rw [hq.word_eq rfl, State.emit_word, State.word_bump, if_pos ⟨rfl, rfl⟩]
    rfl
  · refine (Runs.driveAsks hs hd hstore ?_ hsends hdec).imp fun t h => h
    simp [inHbm]
    omega
  · have hlen : data.length - 1 + 1 = data.length := Nat.sub_add_cancel (List.length_pos_iff.2 hdata)
    refine (Runs.driveAsks hs hd hstore ?_ hsends hdec).imp fun t h => h
    rw [hlen]
    rcases hin with h | h <;> simp [inHbm, h]

end Sys2Proof.Machine
end

section
/-! PROOF. A core's loads, stores, atomics, aperture and far-window accesses, and its FENCE (R373, R374, R375). -/

namespace Sys2Proof.Machine

-- ------------------------------------------------------------------ a core's own state

theorem State.core_setCore (s : State) (n : Nat) (c : Core) (m : Nat) : (s.setCore n c).core m = if m = n then c else s.core m :=
  Sparse.get_set ..

/-- Two states hold the same TCMs and SRAM. -/
def SameMem (s t : State) : Prop := t.seq.tcm = s.seq.tcm ∧ t.seq.sram = s.seq.sram

/-- Two states hold the same general registers. -/
def SameX (s t : State) : Prop := ∀ m, (t.core m).x = (s.core m).x

theorem SameX.coreX {s t : State} (h : SameX s t) (m r : Nat) : t.coreX m r = s.coreX m r := by rw [State.coreX, h m, State.coreX]

theorem SameX.trans {s t u : State} (h : SameX s t) (g : SameX t u) : SameX s u := fun m => (g m).trans (h m)

theorem SameX.setCore (s : State) {n : Nat} {c : Core} (h : c.x = (s.core n).x) : SameX s (s.setCore n c) := fun m => by
  rw [State.core_setCore]
  split
  · next hm => rw [hm, h]
  · rfl

theorem SameX.reserve (s : State) (n : Nat) (r : Option Nat) : SameX s (s.setCore n { s.core n with reserve := r }) := .setCore s rfl

theorem SameMem.localWord {s t : State} (h : SameMem s t) (n a : Nat) : t.localWord n a = s.localWord n a := by
  rw [State.localWord, h.1, h.2, State.localWord]

theorem Kept.sameMem {u t : State} (h : Kept u t [] []) : SameMem u t := by
  obtain ⟨-, htcm, hsram, -⟩ := h.areas .seq List.not_mem_nil
  exact ⟨htcm, hsram⟩

theorem Kept.sameX {u t : State} (h : Kept u t [] []) : SameX u t := fun m => by rw [h.core List.not_mem_nil]

theorem Kept.setCoreX (s : State) (n r : Nat) (v : Word) : Kept s (s.setCoreX n r v) [] [.seq] := by
  unfold State.setCoreX
  split
  · exact Kept.start ..
  · exact Kept.setCore ..

theorem State.setCoreX_mem (s : State) (n r : Nat) (v : Word) : SameMem s (s.setCoreX n r v) := by
  unfold State.setCoreX
  split <;> exact ⟨rfl, rfl⟩

theorem State.setCoreX_eq (s : State) (n : Nat) {r : Nat} (h0 : 0 < r) (h32 : r < 32) (v : Word) :
    s.setCoreX n r v = s.setCore n { s.core n with x := Sparse.set 0 (s.core n).x r v } := by
  rw [State.setCoreX, Nat.mod_eq_of_lt h32, if_neg (by omega)]

/-- A general register written, and the others. -/
theorem State.coreX_setCoreX (s : State) (n : Nat) {r : Nat} (h0 : 0 < r) (h32 : r < 32) (v : Word) (m : Nat) {k : Nat} (hk : k < 32) :
    (s.setCoreX n r v).coreX m k = if m = n ∧ k = r then v else s.coreX m k := by
  rw [s.setCoreX_eq n h0 h32, State.coreX, State.core_setCore, Nat.mod_eq_of_lt hk, State.coreX, Nat.mod_eq_of_lt hk]
  by_cases hm : m = n
  · rw [if_pos hm, Sparse.get_set, hm]
    simp
  · simp [hm]

theorem State.setCoreX_reserve (s : State) (n : Nat) {r : Nat} (h0 : 0 < r) (h32 : r < 32) (v : Word) (m : Nat) :
    ((s.setCoreX n r v).core m).reserve = (s.core m).reserve := by
  rw [s.setCoreX_eq n h0 h32, State.core_setCore]
  split
  · next hm => rw [hm]
  · rfl

-- ------------------------------------------------------------------ stores to the TCMs and the SRAM (R374)

theorem State.setLocalWord_core (s : State) (n a : Nat) (v : Word) (m : Nat) : (s.setLocalWord n a v).core m = s.core m := by
  rw [State.core, State.setLocalWord_cores, State.core]

/-- A memory that a core may write. -/
def isRam (g : Region) : Prop := g = .itcm ∨ g = .dtcm ∨ g = .sram

theorem isRam_iff (a : Nat) : isRam (regionOf a) ↔ a < 0x20000 ∨ 0x10000000 ≤ a ∧ a < 0x10100000 := by
  grind [isRam, regionOf]

theorem State.localWord_tcm (s : State) (n : Nat) {a : Nat} (h : a < 0x20000) :
    s.localWord n a = Sparse.get 0 s.seq.tcm (0x8000 * n + a / 4) := by
  grind [State.localWord, regionOf]

theorem State.localWord_sram (s : State) (n : Nat) {a : Nat} (h : 0x10000000 ≤ a ∧ a < 0x10100000) :
    s.localWord n a = Sparse.get 0 s.seq.sram ((a - 0x10000000) / 4) := by
  grind [State.localWord, regionOf]

theorem State.localWord_other (s t : State) (n : Nat) {a : Nat} (h : ¬ a < 0x20000) (h' : ¬ (0x10000000 ≤ a ∧ a < 0x10100000)) :
    t.localWord n a = s.localWord n a := by
  grind [State.localWord, regionOf]

theorem State.setLocalWord_tcm (s : State) (n : Nat) {a : Nat} (h : a < 0x20000) (v : Word) :
    s.setLocalWord n a v = s.putSeq { s.seq with tcm := Sparse.set 0 s.seq.tcm (0x8000 * n + a / 4) v } := by
  grind [State.setLocalWord, regionOf]

theorem State.setLocalWord_sram (s : State) (n : Nat) {a : Nat} (h : 0x10000000 ≤ a ∧ a < 0x10100000) (v : Word) :
    s.setLocalWord n a v = s.putSeq { s.seq with sram := Sparse.set 0 s.seq.sram ((a - 0x10000000) / 4) v } := by
  grind [State.setLocalWord, regionOf]

/-- A word written in a TCM or the SRAM, and the others of that core's address map. -/
theorem State.localWord_setLocalWord (s : State) (n : Nat) {a : Nat} (h : isRam (regionOf a)) (v : Word) (a' : Nat) :
    (s.setLocalWord n (a / 4 * 4) v).localWord n a' = if a' / 4 = a / 4 then v else s.localWord n a' := by
  rcases (isRam_iff a).1 h with hin | hin
  · rw [State.setLocalWord_tcm _ _ (by omega)]
    by_cases htcm : a' < 0x20000
    · rw [State.localWord_tcm _ _ htcm, State.localWord_tcm _ _ htcm]
      refine (Sparse.get_set ..).trans ?_
      simp
    · rw [if_neg (by omega)]
      by_cases hsram : 0x10000000 ≤ a' ∧ a' < 0x10100000
      · rw [State.localWord_sram _ _ hsram, State.localWord_sram _ _ hsram]
        rfl
      · exact State.localWord_other _ _ _ htcm hsram
  · rw [State.setLocalWord_sram _ _ (by omega)]
    by_cases htcm : a' < 0x20000
    · rw [if_neg (by omega), State.localWord_tcm _ _ htcm, State.localWord_tcm _ _ htcm]
      rfl
    · by_cases hsram : 0x10000000 ≤ a' ∧ a' < 0x10100000
      · rw [State.localWord_sram _ _ hsram, State.localWord_sram _ _ hsram]
        refine (Sparse.get_set ..).trans (if_congr ?_ rfl rfl)
        omega
      · rw [if_neg (by omega)]
        exact State.localWord_other _ _ _ htcm hsram

/-- What clearing the other cores' reservations leaves as it is. -/
structure OthersCleared (s t : State) (n : Nat) : Prop where
  kept : Kept s t [] [.seq]
  mem : SameMem s t
  x : SameX s t
  core : t.core n = s.core n

theorem OthersCleared.refl (s : State) (n : Nat) : OthersCleared s s n := ⟨Kept.start .., ⟨rfl, rfl⟩, fun _ => rfl, rfl⟩

theorem State.clearOthers_cleared (s : State) (n a : Nat) : OthersCleared s (s.clearOthers n a) n := by
  unfold State.clearOthers
  split
  · refine List.foldlRecOn _ _ (motive := fun t => OthersCleared s t n) (OthersCleared.refl s n) fun t ht m hm => ?_
    have hother : n ≠ m := fun h => by simp [h] at hm
    split
    · refine ⟨ht.kept.via (Kept.setCore ..) (by simp) (by simp), ht.mem, ht.x.trans (SameX.setCore _ rfl), ?_⟩
      rw [State.core_setCore, if_neg hother, ht.core]
    · exact ht
  · exact OthersCleared.refl s n

/-- A stored value: its word, the rest of the memories, and what stays of the cores. -/
structure Stored (s t : State) (n a b : Nat) (data : Word) : Prop where
  kept : Kept s t [] [.seq]
  word : ∀ a', t.localWord n a' =
    if a' / 4 = a / 4 then withField (s.localWord n a) (8 * (a % 4)) (8 * b) data.toNat else s.localWord n a'
  x : SameX s t
  core : t.core n = s.core n

theorem State.localStore_stored (s : State) (n : Nat) {a : Nat} (h : isRam (regionOf a)) (b : Nat) (data : Word) :
    Stored s (s.localStore n a b data) n a b data := by
  obtain ⟨hkept, hmem, hx, hcore⟩ := (s.setLocalWord n (a / 4 * 4)
    (withField (s.localWord n a) (8 * (a % 4)) (8 * b) data.toNat)).clearOthers_cleared n a
  refine ⟨(Kept.setLocalWord ..).via hkept (by simp) (by simp), fun a' => ?_, fun m => (hx m).trans ?_, hcore.trans ?_⟩
  · exact (hmem.localWord n a').trans (State.localWord_setLocalWord s n h _ a')
  · rw [State.setLocalWord_core]
  · rw [State.setLocalWord_core]

/-- A word of a store of 4 bytes. -/
theorem withField_word {a : Nat} (haligned : a % 4 = 0) (old data : Word) :
    withField old (8 * (a % 4)) (8 * 4) data.toNat = data := by
  rw [haligned]
  exact (withField_all ..).trans (by simp)

/-- A word stored, after which a general register takes a value. -/
structure Exchanged (s t : State) (n a rd : Nat) (data v : Word) : Prop where
  kept : Kept s t [] [.seq]
  x : t.coreX n rd = v
  word : t.localWord n a = data
  reserve : (t.core n).reserve = (s.core n).reserve

theorem Stored.registered {s t : State} {n a rd : Nat} {data : Word} (h : Stored s t n a 4 data) (haligned : a % 4 = 0) (h0 : 0 < rd)
    (h32 : rd < 32) (v : Word) : Exchanged s (t.setCoreX n rd v) n a rd data v where
  kept := h.kept.via (Kept.setCoreX ..) (by simp) (by simp)
  x := (State.coreX_setCoreX t n h0 h32 v n h32).trans (if_pos ⟨rfl, rfl⟩)
  word := ((State.setCoreX_mem ..).localWord n a).trans ((h.word a).trans ((if_pos rfl).trans (withField_word haligned ..)))
  reserve := by rw [State.setCoreX_reserve _ _ h0 h32, h.core]

-- ------------------------------------------------------------------ exceptions (R373, R374)

/-- A core that took an exception, as RISC-V's machine mode shows it. -/
structure Trapped (s t : State) (n : Nat) (cause tval : Word) : Prop where
  kept : Kept s t [] [.seq]
  epc : t.coreCsr n 0x341 = (s.core n).pc
  cause : t.coreCsr n 0x342 = cause
  tval : t.coreCsr n 0x343 = tval
  pc : (t.core n).pc = s.coreCsr n 0x305 &&& 0xFFFFFFFC
  reserve : (t.core n).reserve = none
  mem : SameMem s t
  x : SameX s t

theorem Kept.coreFault (s : State) (n err addr : Nat) :
    Kept s (s.coreFault n err addr) [(.SEQ_FAULT, n), (.SEQ_FAULT_ADDR_LO, n), (.SEQ_FAULT_ADDR_HI, n)] [] :=
  (((Kept.setF ..).trans (Kept.raise ..)).trans (Kept.setPair ..)).weaken (by simp) (by simp)

theorem State.coreFault_seq (s : State) (n err addr : Nat) : (s.coreFault n err addr).seq = s.seq := by
  rw [State.coreFault, State.setPair_seq, State.raise_seq, State.setF_seq]

/-- SEQ.FAULT and the address of a faulting access. -/
theorem State.coreFault_shows (s : State) (n : Nat) {err addr : Nat} (herr : err < 256) (haddr : addr < 2 ^ 48) :
    (s.coreFault n err addr).f F.SEQ_FAULT_ERR n = err ∧ (s.coreFault n err addr).f F.SEQ_FAULT_VALID n = 1 ∧
      (s.coreFault n err addr).pair .SEQ_FAULT_ADDR_LO .SEQ_FAULT_ADDR_HI n = addr := by
  have hpair (u : State) (v : Nat) (F : Fld) (h : F.reg = .SEQ_FAULT) :
      (u.setPair .SEQ_FAULT_ADDR_LO .SEQ_FAULT_ADDR_HI n v).f F n = u.f F n := by
    simp [State.f, State.word_setPair, h]
  refine ⟨?_, ?_, ?_⟩
  · rw [State.coreFault, hpair _ _ _ rfl, State.raise, State.f_setF_otherField _ (by decide) (by decide),
      State.f_setF_same _ _ _ _ (by decide)]
    exact Nat.mod_eq_of_lt herr
  · rw [State.coreFault, hpair _ _ _ rfl, State.f_raise_same _ _ _ (by decide) (by decide)]
  · rw [State.coreFault, State.pair_setPair _ _ (by decide) (by omega), Nat.mod_eq_of_lt haddr]

theorem Kept.setCoreCsr (s : State) (n c : Nat) (v : Word) : Kept s (s.setCoreCsr n c v) [] [.seq] := Kept.setCore ..

theorem State.coreTrap_trapped (s : State) (n cause tval : Nat) :
    Trapped s (s.coreTrap n cause tval) n (BitVec.ofNat 32 cause) (BitVec.ofNat 32 tval) := by
  have hcsr (s : State) (c : Nat) (v : Word) (m : Nat) : ((s.setCoreCsr n c v).core m) =
      if m = n then { s.core n with csrs := Sparse.set 0 (s.core n).csrs c v } else s.core m := State.core_setCore ..
  have hx (s : State) (c : Nat) (v : Word) : SameX s (s.setCoreCsr n c v) := SameX.setCore _ rfl
  refine ⟨?_, ?_, ?_, ?_, ?_, ?_, ⟨rfl, rfl⟩, ?_⟩
  · exact (((((Kept.setCoreCsr ..).trans (Kept.setCoreCsr ..)).trans (Kept.setCoreCsr ..)).trans (Kept.setCoreCsr ..)).trans
      (Kept.setCore ..)).weaken (by simp) (by simp)
  · simp [State.coreTrap, State.coreTrapTo, State.coreCsr, State.core_setCore, hcsr, Sparse.get_set]
  · simp [State.coreTrap, State.coreTrapTo, State.coreCsr, State.core_setCore, hcsr, Sparse.get_set]
  · simp [State.coreTrap, State.coreTrapTo, State.coreCsr, State.core_setCore, hcsr, Sparse.get_set]
  · simp [State.coreTrap, State.coreTrapTo, State.core_setCore]
  · simp [State.coreTrap, State.coreTrapTo, State.core_setCore]
  · exact SameX.trans (SameX.trans (SameX.trans (SameX.trans (hx _ _ _) (hx _ _ _)) (hx _ _ _)) (hx _ _ _)) (SameX.setCore _ rfl)

theorem State.coreCsr_quiet {u t : State} (h : Kept u t [] []) (n : Nat) {c : Nat} (hc : c = 0x341 ∨ c = 0x342 ∨ c = 0x343) :
    t.coreCsr n c = u.coreCsr n c := by
  have hcore := h.core List.not_mem_nil n
  rcases hc with rfl | rfl | rfl <;> simp [State.coreCsr, hcore]

/-- An exception, after event delivery. -/
theorem Trapped.quiet {s u t : State} {n : Nat} {cause tval : Word} (h : Trapped s u n cause tval) (hq : Kept u t [] []) :
    Trapped s t n cause tval := by
  obtain ⟨hkept, hepc, hcause, htval, hpc, hreserve, hmem, hx⟩ := h
  refine ⟨hkept.via hq (by simp) (by simp), ?_, ?_, ?_, ?_, ?_, ?_, SameX.trans hx hq.sameX⟩
  · rw [State.coreCsr_quiet hq n (.inl rfl), hepc]
  · rw [State.coreCsr_quiet hq n (.inr (.inl rfl)), hcause]
  · rw [State.coreCsr_quiet hq n (.inr (.inr rfl)), htval]
  · rw [hq.core List.not_mem_nil, hpc]
  · rw [hq.core List.not_mem_nil, hreserve]
  · exact ⟨hq.sameMem.1.trans hmem.1, hq.sameMem.2.trans hmem.2⟩

-- ------------------------------------------------------------------ local accesses (R373, R374)

theorem State.localAccess_clean {s : State} {a : Nat} {x : LocalAccess} (hx : x ≠ .fetch) (hallowed : allowed (regionOf a) (kindOf x) = true)
    (haperture : regionOf a ≠ .aperture) (hfar : regionOf a ≠ .far) (haligned : a % max 1 (accessBytes x) = 0) (n : Nat) :
    s.localAccess n a x .clean = s.localDo n a x := by
  simp [State.localAccess, hx, hallowed, haperture, hfar, haligned]

theorem State.localDo_lr (s : State) (n a rd : Nat) : s.localDo n a (.lr rd) = (s.setCoreX n rd (s.localWord n a)).setCore n
    { (s.setCoreX n rd (s.localWord n a)).core n with reserve := some (a / 64) } := rfl

theorem State.localAccess_load_uncorrectable {s : State} {a b : Nat} (hram : isRam (regionOf a)) (haligned : a % max 1 b = 0)
    (n rd k : Nat) (signed : Bool) : s.localAccess n a (.load b signed rd) (.uncorrectable k) =
      ((s.bump F.SEQ_MEM_ECC_UNCORR 0 1).coreFault n 0xFF a).coreTrap n 5 a := by
  rcases hram with h | h | h <;> simp [State.localAccess, h, allowed, kindOf, accessBytes, readsWord, haligned]

theorem State.coreCsr_setPc (s : State) (n : Nat) (v : Word) (c : Nat) : (s.setCore n { s.core n with pc := v }).coreCsr n c = s.coreCsr n c := by
  have hext : (s.setCore n { s.core n with pc := v }).externalInterrupt n = s.externalInterrupt n := rfl
  have hnow : (s.setCore n { s.core n with pc := v }).now = s.now := rfl
  rw [State.coreCsr, hext, hnow, State.core_setCore, if_pos rfl, State.coreCsr]

theorem State.localAccess_fetch {s : State} {n a : Nat} (hregion : allowed (regionOf a) .fetch = true) (haligned : a % 2 = 0)
    (hfree : s.coreInterrupted n = false) : s.localAccess n a .fetch .clean = s.setCore n { s.core n with pc := BitVec.ofNat 32 a } := by
  have hfree' : (s.setCore n { s.core n with pc := BitVec.ofNat 32 a }).coreInterrupted n = false := by
    rw [State.coreInterrupted, State.coreCsr_setPc, State.coreCsr_setPc]
    exact hfree
  have hplain : regionOf a ≠ .aperture ∧ regionOf a ≠ .far := ⟨fun h => by simp [h, allowed] at hregion, fun h => by simp [h, allowed] at hregion⟩
  simp [State.localAccess, hfree', kindOf, hregion, hplain.1, hplain.2, accessBytes, haligned, State.localDo]

/-- A local access of a core that runs. -/
theorem Runs.coreLocal {s u : State} {n : Nat} {a : Word} {x : LocalAccess} {found : EccFinding} {P : State → Prop}
    {R : List (Reg × Nat)} (hs : s.ready = true) (hruns : s.coreRuns n = true) (hfree : s.coreStalled n = false)
    (hf : s.localAccess n a.toNat x found = u) (k : Kept s u R [.seq]) (hR : ∀ x ∈ R, x.1 ∉ calmRegs)
    (hP : ∀ t, Kept u t [] [] → Kept s t R [.seq] → P t) : Runs (.coreLocalAccess n a x found) s P :=
  Runs.of_effect (f := fun s => if s.coreRuns n && !s.coreStalled n then s.localAccess n a.toNat x found else s) rfl hs
    ((if_pos (by simp [hruns, hfree])).trans hf) k (by decide) hR hP

theorem isRam.allowed {g : Region} (h : isRam g) : Machine.allowed g .load = true ∧ Machine.allowed g .store = true ∧ g ≠ .aperture ∧ g ≠ .far := by
  rcases h with rfl | rfl | rfl <;> decide

theorem aligned_of_size {a b : Nat} (hb : b = 1 ∨ b = 2 ∨ b = 4) (h : a % b = 0) : a % max 1 b = 0 := by
  rcases hb with rfl | rfl | rfl <;> exact h

section
variable {s : State} {n : Nat} (hs : s.ready = true) (hruns : s.coreRuns n = true) (hfree : s.coreStalled n = false)
include hs hruns hfree

theorem Runs.coreLoad {b rd : Nat} {a : Word} {signed : Bool} (hallowed : allowed (regionOf a.toNat) .load = true)
    (haperture : regionOf a.toNat ≠ .aperture) (hfar : regionOf a.toNat ≠ .far) (hb : b = 1 ∨ b = 2 ∨ b = 4) (haligned : a.toNat % b = 0)
    (h0 : 0 < rd) (h32 : rd < 32) : Runs (.coreLocalAccess n a (.load b signed rd) .clean) s fun t =>
      t.coreX n rd = extend (bytesOf (s.localWord n a.toNat) (a.toNat % 4) b) b signed ∧
      (∀ m r, r < 32 → m ≠ n ∨ r ≠ rd → t.coreX m r = s.coreX m r) ∧
      t.seq.sram = s.seq.sram ∧ t.seq.tcm = s.seq.tcm ∧ Kept s t [] [.seq] := by
  refine Runs.coreLocal hs hruns hfree (State.localAccess_clean (x := .load b signed rd) (by simp) hallowed haperture hfar
    (aligned_of_size hb haligned) n) (Kept.setCoreX ..) (by simp) fun t hq hk => ?_
  obtain ⟨htcm, hsram⟩ := s.setCoreX_mem n rd (extend (bytesOf (s.localWord n a.toNat) (a.toNat % 4) b) b signed)
  obtain ⟨htcm', hsram'⟩ := hq.sameMem
  refine ⟨?_, fun m r hr hother => ?_, hsram'.trans hsram, htcm'.trans htcm, hk⟩
  · exact (hq.sameX.coreX n rd).trans ((State.coreX_setCoreX s n h0 h32 _ n h32).trans (if_pos ⟨rfl, rfl⟩))
  · exact (hq.sameX.coreX m r).trans ((State.coreX_setCoreX s n h0 h32 _ m hr).trans (if_neg fun h => hother.elim (· h.1) (· h.2)))

theorem Runs.coreStore {b : Nat} {a data : Word} (hram : isRam (regionOf a.toNat)) (hb : b = 1 ∨ b = 2 ∨ b = 4)
    (haligned : a.toNat % b = 0) : Runs (.coreLocalAccess n a (.store b data) .clean) s fun t =>
      t.localWord n a.toNat = withField (s.localWord n a.toNat) (8 * (a.toNat % 4)) (8 * b) data.toNat ∧
      (∀ a', a' / 4 ≠ a.toNat / 4 → t.localWord n a' = s.localWord n a') ∧
      (∀ m r, t.coreX m r = s.coreX m r) ∧ Kept s t [] [.seq] := by
  obtain ⟨-, hallowed, haperture, hfar⟩ := hram.allowed
  have hstored := s.localStore_stored n hram b data
  refine Runs.coreLocal hs hruns hfree (State.localAccess_clean (x := .store b data) (by simp) hallowed haperture hfar
    (aligned_of_size hb haligned) n) hstored.kept (by simp) fun t hq hk => ⟨?_, fun a' ha' => ?_, fun m r => ?_, hk⟩
  · exact (hq.sameMem.localWord n _).trans ((hstored.word _).trans (if_pos rfl))
  · exact (hq.sameMem.localWord n a').trans ((hstored.word a').trans (if_neg ha'))
  · exact (SameX.trans hstored.x hq.sameX).coreX m r

section
variable {a data : Word} {rd : Nat} (hsram : regionOf a.toNat = .sram) (haligned : a.toNat % 4 = 0) (h0 : 0 < rd) (h32 : rd < 32)
include hsram haligned h0 h32

theorem Runs.coreLr : Runs (.coreLocalAccess n a (.lr rd) .clean) s fun t =>
    t.coreX n rd = s.localWord n a.toNat ∧ (t.core n).reserve = some (a.toNat / 64) ∧ Kept s t [] [.seq] := by
  refine Runs.coreLocal hs hruns hfree ((State.localAccess_clean (x := .lr rd) (by simp) (by rw [hsram]; rfl) (by simp [hsram])
    (by simp [hsram]) haligned n).trans (s.localDo_lr n _ rd)) (((Kept.setCoreX ..).trans (Kept.setCore ..)).weaken (by simp) (by simp))
    (by simp) fun t hq hk => ⟨?_, ?_, hk⟩
  · rw [hq.sameX.coreX, (SameX.reserve _ _ _).coreX, State.coreX_setCoreX s n h0 h32 _ n h32, if_pos ⟨rfl, rfl⟩]
  · rw [hq.core List.not_mem_nil, State.core_setCore, if_pos rfl]

theorem Runs.coreSc : Runs (.coreLocalAccess n a (.sc rd data) .clean) s fun t =>
    (t.core n).reserve = none ∧ t.coreX n rd = (if (s.core n).reserve = some (a.toNat / 64) then 0 else 1) ∧
      t.localWord n a.toNat = (if (s.core n).reserve = some (a.toNat / 64) then data else s.localWord n a.toNat) ∧
      Kept s t [] [.seq] := by
  have hreset (c : Core) (hc : c.reserve = none) : ((s.setCore n c).core n).reserve = none := by rw [State.core_setCore, if_pos rfl, hc]
  have hclean := State.localAccess_clean (s := s) (x := .sc rd data) (by simp) (by rw [hsram]; rfl) (by simp [hsram]) (by simp [hsram])
    haligned n
  by_cases hheld : (s.core n).reserve = some (a.toNat / 64)
  · simp only [if_pos hheld]
    have hdone := ((s.setCore n { s.core n with reserve := none }).localStore_stored n (.inr (.inr hsram)) 4 data).registered
      haligned h0 h32 0
    refine Runs.coreLocal hs hruns hfree (hclean.trans (if_pos (by simp [hheld]))) (((Kept.setCore ..).trans hdone.kept).weaken
      (by simp) (by simp)) (by simp) fun t hq hk => ⟨?_, ?_, ?_, hk⟩
    · rw [hq.core List.not_mem_nil, hdone.reserve, hreset _ rfl]
    · exact (hq.sameX.coreX n rd).trans hdone.x
    · exact (hq.sameMem.localWord n _).trans hdone.word
  · simp only [if_neg hheld]
    refine Runs.coreLocal hs hruns hfree (hclean.trans (if_neg (by simpa using hheld))) (((Kept.setCore ..).trans (Kept.setCoreX ..)).weaken
      (by simp) (by simp)) (by simp) fun t hq hk => ⟨?_, ?_, ?_, hk⟩
    · rw [hq.core List.not_mem_nil, State.setCoreX_reserve _ _ h0 h32, hreset _ rfl]
    · exact (hq.sameX.coreX n rd).trans ((State.coreX_setCoreX _ n h0 h32 _ n h32).trans (if_pos ⟨rfl, rfl⟩))
    · exact (hq.sameMem.localWord n _).trans ((State.setCoreX_mem ..).localWord n _)

theorem Runs.coreAdd : Runs (.coreLocalAccess n a (.amo .add rd data) .clean) s fun t =>
    t.coreX n rd = s.localWord n a.toNat ∧ t.localWord n a.toNat = s.localWord n a.toNat + data ∧ Kept s t [] [.seq] := by
  have hdone := (s.localStore_stored n (.inr (.inr hsram)) 4 (s.localWord n a.toNat + data)).registered haligned h0 h32
    (s.localWord n a.toNat)
  refine Runs.coreLocal hs hruns hfree (State.localAccess_clean (x := .amo .add rd data) (by simp) (by rw [hsram]; rfl) (by simp [hsram])
    (by simp [hsram]) haligned n) hdone.kept (by simp) fun t hq hk => ⟨?_, ?_, hk⟩
  · exact (hq.sameX.coreX n rd).trans hdone.x
  · exact (hq.sameMem.localWord n _).trans hdone.word

end

theorem Runs.coreFetch {a : Word} (hregion : allowed (regionOf a.toNat) .fetch = true) (haligned : a.toNat % 2 = 0)
    (huninterrupted : s.coreInterrupted n = false) : Runs (.coreLocalAccess n a .fetch .clean) s fun t =>
      (t.core n).pc = a ∧ (∀ m r, r < 32 → t.coreX m r = s.coreX m r) ∧ t.seq.sram = s.seq.sram ∧ t.seq.tcm = s.seq.tcm ∧
      Kept s t [] [.seq] := by
  refine Runs.coreLocal hs hruns hfree (State.localAccess_fetch hregion haligned huninterrupted) (Kept.setCore ..) (by simp)
    fun t hq hk => ?_
  obtain ⟨htcm, hsram⟩ := hq.sameMem
  have hx : SameX s (s.setCore n { s.core n with pc := BitVec.ofNat 32 a.toNat }) := SameX.setCore s rfl
  refine ⟨?_, fun m r _ => (SameX.trans hx hq.sameX).coreX m r, hsram, htcm, hk⟩
  rw [hq.core List.not_mem_nil, State.core_setCore, if_pos rfl]
  simp

theorem Runs.coreLoadFault {b rd k : Nat} {a : Word} {signed : Bool} (hram : isRam (regionOf a.toNat)) (hb : b = 1 ∨ b = 2 ∨ b = 4)
    (haligned : a.toNat % b = 0) : Runs (.coreLocalAccess n a (.load b signed rd) (.uncorrectable k)) s fun t =>
      t.coreCsr n 0x341 = (s.core n).pc ∧ t.coreCsr n 0x342 = 5 ∧ t.coreCsr n 0x343 = a ∧
      (t.core n).pc = s.coreCsr n 0x305 &&& 0xFFFFFFFC ∧ (t.core n).reserve = none ∧
      t.word .SEQ_MEM_ECC 0 = changed (s.word .SEQ_MEM_ECC 0) [(F.SEQ_MEM_ECC_UNCORR, s.counted F.SEQ_MEM_ECC_UNCORR 0 1)] ∧
      t.f F.SEQ_FAULT_ERR n = 0xFF ∧ t.f F.SEQ_FAULT_VALID n = 1 ∧ t.pair .SEQ_FAULT_ADDR_LO .SEQ_FAULT_ADDR_HI n = a.toNat ∧
      (∀ m r, r < 32 → t.coreX m r = s.coreX m r) ∧ t.seq.sram = s.seq.sram ∧ t.seq.tcm = s.seq.tcm ∧
      Kept s t [(.SEQ_MEM_ECC, 0), (.SEQ_FAULT, n), (.SEQ_FAULT_ADDR_LO, n), (.SEQ_FAULT_ADDR_HI, n)] [.seq] := by
  have hshown := Kept.coreFault (s.bump F.SEQ_MEM_ECC_UNCORR 0 1) n 0xFF a.toNat
  have htrap := ((s.bump F.SEQ_MEM_ECC_UNCORR 0 1).coreFault n 0xFF a.toNat).coreTrap_trapped n 5 a.toNat
  have hseq : ((s.bump F.SEQ_MEM_ECC_UNCORR 0 1).coreFault n 0xFF a.toNat).seq = s.seq :=
    (State.coreFault_seq ..).trans (State.bump_seq ..)
  have hcores (m : Nat) : ((s.bump F.SEQ_MEM_ECC_UNCORR 0 1).coreFault n 0xFF a.toNat).core m = s.core m := by
    rw [State.core, hseq, State.core]
  obtain ⟨herr, hvalid, haddr⟩ := (s.bump F.SEQ_MEM_ECC_UNCORR 0 1).coreFault_shows n (err := 0xFF) (addr := a.toNat) (by decide)
    (by omega)
  refine Runs.coreLocal (R := [(.SEQ_MEM_ECC, 0), (.SEQ_FAULT, n), (.SEQ_FAULT_ADDR_LO, n), (.SEQ_FAULT_ADDR_HI, n)]) hs hruns hfree
    (State.localAccess_load_uncorrectable hram (aligned_of_size hb haligned) n rd k signed)
    ((((Kept.bump ..).trans hshown).trans htrap.kept).weaken (by simp) (by simp)) (by simp [calmRegs]) fun t hq hk => ?_
  obtain ⟨-, hepc, hcause, htval, hpc, hreserve, ⟨htcm, hsram⟩, hx⟩ := htrap.quiet hq
  rw [hcores] at hepc
  rw [hseq] at htcm hsram
  have hcsr : ((s.bump F.SEQ_MEM_ECC_UNCORR 0 1).coreFault n 0xFF a.toNat).coreCsr n 0x305 = s.coreCsr n 0x305 := by
    simp [State.coreCsr, hcores]
  have hreg (r : Reg) (i : Nat) (hp : isPend r = false) := (htrap.kept.regs r i hp List.not_mem_nil)
  refine ⟨hepc, hcause, htval.trans (by simp), hpc.trans (by rw [hcsr]), hreserve, ?_, ?_, ?_, ?_, fun m r _ => ?_,
    hsram, htcm, hk⟩
  · rw [hq.word_eq rfl, hreg _ _ rfl, hshown.regs _ _ rfl (by simp), State.word_bump, if_pos ⟨rfl, rfl⟩]
    simp [changed]
  · rw [hq.f_eq rfl, htrap.kept.f _ _ rfl List.not_mem_nil, herr]
  · rw [hq.f_eq rfl, htrap.kept.f _ _ rfl List.not_mem_nil, hvalid]
  · rw [hq.pair_eq rfl rfl, State.pair, hreg _ _ rfl, hreg _ _ rfl]
    exact haddr
  · rw [SameX.coreX hx, State.coreX, hcores, State.coreX]

end

-- ------------------------------------------------------------------ requests of a core's NI (R375)

/-- A command whose effect on a core is a request that its NI sends at once. -/
theorem Runs.coreRequested {i : Instr} {s : State} {f : State → State} {n : Nat} {c : Core} {r : Request} {l : List Txn} {p : Packet}
    (hc : exec i s = s.command f) (hs : s.ready = true) (hf : f s = (s.setCore n c).request (0x94 + n) r)
    (hreq : Requested (s.setCore n c) ((s.setCore n c).request (0x94 + n) r) (0x94 + n) l p) (hup : (s.ni (0x94 + n)).csf.up = [])
    (hsrc : p.src = 0x94 + n) : Runs i s fun t =>
      t.core n = c ∧ Sent s t p ∧ (t.ni (0x94 + n)).outstanding = (s.ni (0x94 + n)).outstanding ++ l ∧ OtherNis s t (0x94 + n) ∧
        Kept s t (statRegs (0x94 + n)) [.seq, .net] := by
  have hcore := Kept.setCore s n c
  refine Runs.of_calmEffect (R := statRegs (0x94 + n)) (A := [.seq, .net]) hc hs hf ((hcore.trans hreq.kept).weaken (by simp) (by simp))
    (fun h => hreq.calm (by omega) hup ((hcore.calm (by decide) (by simp)).trans h)) fun t hq hk => ?_
  obtain ⟨hsent, hout, hothers⟩ := hreq.shown (s := s) rfl hq hsrc
  refine ⟨?_, hsent, hout, hothers, hk⟩
  rw [hq.core List.not_mem_nil, hreq.kept.core (by decide), State.core_setCore, if_pos rfl]

theorem State.coreRequest_load {s : State} {n d tag : Nat} {a : CoreAccess} (hload : a.store = false)
    (h : s.sendsAt (0x94 + n) d tag (coreAsk n .rd a.addr a.bytes []) = true) (data : Word) :
    s.coreRequest n a data false = (s.setCore n { s.core n with access := some a }).request (0x94 + n) (coreAsk n .rd a.addr a.bytes []) := by
  simp only [State.sendsAt, Bool.and_eq_true, beq_iff_eq] at h
  obtain ⟨⟨⟨⟨⟨⟨htakes, -⟩, htag⟩, -⟩, -⟩, -⟩, -⟩ := h
  rw [State.coreRequest, if_neg (by simp [htakes, htag]), if_neg (by decide)]
  simp [hload, coreAsk]

theorem State.coreRequest_posted {s : State} {n d : Nat} {a : CoreAccess} (hstore : a.store = true) (htakes : s.niTakes (0x94 + n) = true)
    (hdec : decodeAddr s.part a.addr = .ni d) (data : Word) : s.coreRequest n a data true =
      (s.setCore n { s.core n with posted := Sparse.insert (s.core n).posted d a.addr }).request (0x94 + n)
        (coreAsk n .wrp a.addr a.bytes (toBytes a.bytes data.toNat)) := by
  rw [State.coreRequest, if_neg (by simp [htakes]), if_pos rfl, hdec]
  simp [hstore, coreAsk]

/-- A load that its NI sends at once. -/
theorem Runs.coreReads {i : Instr} {s : State} {n : Nat} {f : State → State} {d tag : Nat} {a : CoreAccess} (hs : s.ready = true)
    (hc : exec i s = s.command f) (hf : f s = s.coreRequest n a 0 false) (hload : a.store = false) (hdec : decodeAddr s.part a.addr = .ni d)
    (hsends : s.sendsAt (0x94 + n) d tag (coreAsk n .rd a.addr a.bytes []) = true) : Runs i s fun t =>
      t.core n = { s.core n with access := some a } ∧
      Sent s t { s.postedFrom (0x94 + n) d a.addr [] with cmd := .rd, tag := tag, len := a.bytes - 1, beFirst := 0, beLast := 0 } ∧
      (t.ni (0x94 + n)).outstanding =
        (s.ni (0x94 + n)).outstanding ++ [⟨tag, d, .rd, a.addr, a.bytes - 1, .core n, s.time, 0, none⟩] ∧
      OtherNis s t (0x94 + n) ∧ Kept s t (statRegs (0x94 + n)) [.seq, .net] := by
  obtain ⟨hreq, hup, hrecord⟩ := Requested.of_sendsAt (s := s.setCore n { s.core n with access := some a })
    (r := coreAsk n .rd a.addr a.bytes []) (by omega) rfl hdec (.inl rfl) hsends
  refine (Runs.coreRequested hc hs (hf.trans (State.coreRequest_load hload hsends 0)) hreq hup rfl).imp fun t ht => ?_
  rw [State.plainPacket_eq rfl hrecord rfl] at ht
  exact ht

/-- A posted store that its NI sends at once. -/
theorem Runs.corePosts {i : Instr} {s : State} {n : Nat} {f : State → State} {d : Nat} {a : CoreAccess} {data : Word} (hs : s.ready = true)
    (hc : exec i s = s.command f) (hf : f s = s.coreRequest n a data true) (hstore : a.store = true)
    (hdec : decodeAddr s.part a.addr = .ni d) (hbytes : a.bytes = 4) (htakes : s.niTakes (0x94 + n) = true)
    (hup : (s.ni (0x94 + n)).csf.up = []) (hrecord : (s.recordOf (0x94 + n)).isNone = true)
    (hvalid : entryValid (s.activeEntry (0x94 + n) d) = true) (hnow : s.sendsNow (0x94 + n) 0 = true) : Runs i s fun t =>
      t.core n = { s.core n with posted := Sparse.insert (s.core n).posted d a.addr } ∧
      Sent s t (s.postedFrom (0x94 + n) d a.addr (toBytes 4 data.toNat)) ∧
      OtherNis s t (0x94 + n) ∧ Kept s t (statRegs (0x94 + n)) [.seq, .net] := by
  rw [Option.isNone_iff_eq_none] at hrecord
  have hreq := Requested.of_posted (s := s.setCore n { s.core n with posted := Sparse.insert (s.core n).posted d a.addr })
    (r := coreAsk n .wrp a.addr a.bytes (toBytes a.bytes data.toNat)) (x := 0x94 + n) (by omega) rfl hdec rfl hvalid htakes hup hnow hrecord
  refine (Runs.coreRequested hc hs (hf.trans (State.coreRequest_posted hstore htakes hdec data)) hreq hup rfl).imp
    fun t ⟨hstep, hcore, hsent, _, hothers, hk⟩ => ⟨hstep, hcore, ?_, hothers, hk⟩
  rw [State.plainPacket_eq (s := s.setCore n { s.core n with posted := Sparse.insert (s.core n).posted d a.addr }) rfl hrecord rfl,
    coreAsk, hbytes] at hsent
  exact hsent

/-- The WR of a FENCE enables no byte. -/
def fenceAsk (n a : Nat) : Request :=
  ⟨.wr, a / 4 * 4, 3, List.replicate 4 false, 0, toBytes 4 0, false, false, false, 0, .coreFence n⟩

theorem enableMask_none (addr j : Nat) : enableMask addr 3 (List.replicate 4 false) j = 0 := by
  refine List.foldlRecOn _ _ (motive := fun acc => acc = (0 : BitVec 64)) rfl fun acc hacc lane _ => ?_
  have hnone (k : Nat) (h : k ≤ 3) : (List.replicate 4 false).getD k true = false := by
    interval_cases k <;> rfl
  dsimp only
  rw [if_neg (fun h => ?_), hacc]
  rw [hnone _ (by omega)] at h
  exact absurd h.2.2 (by decide)

/-- A FENCE after posted stores to one NI. -/
theorem Runs.coreFences {s : State} {n d a tag : Nat} (hs : s.ready = true) (hruns : s.coreRuns n = true) (hfree : s.coreStalled n = false)
    (hposted : (s.core n).posted = [(d, a)]) (hdec : decodeAddr s.part (a / 4 * 4) = .ni d)
    (hsends : s.sendsAt (0x94 + n) d tag (fenceAsk n a) = true) : Runs (.coreFence n true) s fun t =>
      (t.core n).posted = [] ∧ (t.core n).fencing = 1 ∧
      Sent s t { s.postedFrom (0x94 + n) d (a / 4 * 4) (toBytes 4 0) with cmd := .wr, tag := tag, beFirst := 0, beLast := 0 } ∧
      OtherNis s t (0x94 + n) ∧ Kept s t (statRegs (0x94 + n)) [.seq, .net] := by
  obtain ⟨hreq, hup, hrecord⟩ := Requested.of_sendsAt (s := s.setCore n { s.core n with posted := [], fencing := 1 })
    (r := fenceAsk n a) (by omega) rfl hdec (.inr rfl) hsends
  have htakes : s.niTakes (0x94 + n) = true := by
    simp only [State.sendsAt, Bool.and_eq_true] at hsends
    exact hsends.1.1.1.1.1.1
  have hf : s.coreFence n true = (s.setCore n { s.core n with posted := [], fencing := 1 }).request (0x94 + n) (fenceAsk n a) := by
    rw [State.coreFence, if_neg (by simp [hruns, hfree, htakes]), hposted]
    rfl
  refine (Runs.coreRequested (f := fun s => s.coreFence n true) rfl hs hf hreq hup rfl).imp
    fun t ⟨hstep, hcore, hsent, _, hothers, hk⟩ => ⟨hstep, by rw [hcore], by rw [hcore], ?_, hothers, hk⟩
  have hmask (j : Nat) : enableMask (fenceAsk n a).addr (fenceAsk n a).len (fenceAsk n a).be j = 0 := enableMask_none ..
  rw [State.plainPacket_eq rfl hrecord rfl, hmask, hmask] at hsent
  exact hsent

-- ------------------------------------------------------------------ the aperture and the far window (R373, R375)

theorem State.apertureAccess_load {s : State} {n x : Nat} (hruns : s.coreRuns n = true) (hfree : s.coreStalled n = false)
    (hx : x < 0x10000000) (haligned : x % 4 = 0) (rd : Nat) : s.apertureAccess n x 4 rd none =
      s.coreRequest n ⟨false, csrBase + x, 0x30000000 + x, rd, 4, false⟩ 0 false := by
  rw [State.apertureAccess, if_neg (by simp [hruns, hfree, hx]), if_neg (by simp [haligned])]
  rfl

theorem State.apertureAccess_misaligned {s : State} {n x bytes : Nat} (hruns : s.coreRuns n = true) (hfree : s.coreStalled n = false)
    (hx : x < 0x10000000) (hbad : bytes ≠ 4 ∨ x % 4 ≠ 0) (rd : Nat) :
    s.apertureAccess n x bytes rd none = s.coreTrap n 5 (0x30000000 + x) := by
  rw [State.apertureAccess, if_neg (by simp [hruns, hfree, hx]), if_pos hbad]
  rfl

theorem State.farAccess_aligned {s : State} {n y b : Nat} (hruns : s.coreRuns n = true) (hfree : s.coreStalled n = false)
    (hy : y < 0x10000000) (hb : b = 1 ∨ b = 2 ∨ b = 4) (haligned : y % b = 0) (rd : Nat) (signed : Bool) (store : Option Word) :
    s.farAccess n y b rd signed store = s.coreRequest n
      ⟨store.isSome, (s.pair .SEQ_FAR_BASE_LO .SEQ_FAR_BASE_HI n + y) % 2 ^ 48, 0x40000000 + y, rd, b, signed⟩ (store.getD 0)
      (store.isSome && s.on F.SEQ_FAR_CTRL_POSTED n) := by
  have hsize : ¬ (b ≠ 1 ∧ b ≠ 2 ∧ b ≠ 4) := by omega
  rw [State.farAccess, if_neg (by simp [hruns, hfree, hy]), if_neg fun h => h.elim hsize (· (aligned_of_size hb haligned))]

/-- Settles O39: local accesses change the core and the memories alone, and what leaves the core's NI is its request, sent at
once. -/
theorem coreAccesses : Obligations.CoreAccesses := by
  unfold Obligations.CoreAccesses
  refine ⟨fun s n b rd a signed hs hruns hfree hallowed haperture hfar hb haligned h0 h32 =>
      Runs.coreLoad hs hruns hfree hallowed haperture hfar hb haligned h0 h32,
    fun s n b a data x hs hruns hfree hram hb haligned hx => hx ▸ Runs.coreStore hs hruns hfree hram hb haligned,
    fun s n rd a data hs hruns hfree hsram haligned h0 h32 => ⟨Runs.coreLr hs hruns hfree hsram haligned h0 h32,
      Runs.coreSc hs hruns hfree hsram haligned h0 h32, Runs.coreAdd hs hruns hfree hsram haligned h0 h32⟩,
    fun s n a hs hruns hfree hregion haligned hnone => Runs.coreFetch hs hruns hfree ?_ haligned hnone,
    fun s n b rd k a signed hs hruns hfree hram hb haligned => Runs.coreLoadFault hs hruns hfree hram hb haligned,
    fun s n x rd d tag hs hruns hfree hx haligned hdec hsends => ?_, fun s n x bytes rd hs hruns hfree hx hbad => ?_,
    fun s n y d data hs hruns hfree hy haligned hposted htakes hup hdec hrecord hvalid hnow => ?_,
    fun s n y d tag b rd signed hs hruns hfree hy hb haligned hdec hsends => ?_,
    fun s n d a tag hs hruns hfree hposted hdec hsends => Runs.coreFences hs hruns hfree hposted hdec hsends,
    fun s n hs hruns hfree => ?_⟩
  · rcases hregion with h | h | h <;> rw [h] <;> rfl
  · exact (Runs.coreReads (f := fun s => s.apertureAccess n x 4 rd none) (a := ⟨false, csrBase + x, 0x30000000 + x, rd, 4, false⟩) hs rfl
      (State.apertureAccess_load hruns hfree hx haligned rd) rfl hdec hsends).imp
      fun t ⟨hstep, hcore, hrest⟩ => ⟨hstep, by rw [hcore], hrest⟩
  · have htrap := s.coreTrap_trapped n 5 (0x30000000 + x)
    refine Runs.of_effect (f := fun s => s.apertureAccess n x bytes rd none) rfl hs
      (State.apertureAccess_misaligned hruns hfree hx hbad rd) htrap.kept (by decide) (by simp) fun t hq hk => ?_
    obtain ⟨-, hepc, hcause, htval, hpc, hreserve, ⟨htcm, hsram⟩, hxs⟩ := htrap.quiet hq
    exact ⟨hepc, hcause, htval, hpc, hreserve, fun m r _ => SameX.coreX hxs m r, hsram, htcm, hk⟩
  · have hf := State.farAccess_aligned (s := s) hruns hfree hy (.inr (.inr rfl)) haligned 0 false (some data)
    have hon : s.on F.SEQ_FAR_CTRL_POSTED n = true := by simp [State.on, hposted]
    rw [hon] at hf
    obtain ⟨hidle, -⟩ : (s.core n).access = none ∧ (s.core n).fencing = 0 := by simpa [State.coreStalled] using hfree
    exact (Runs.corePosts (f := fun s => s.farAccess n y 4 0 false (some data)) hs rfl hf rfl hdec rfl htakes hup hrecord hvalid hnow).imp
      fun t ⟨hstep, hcore, hrest⟩ => ⟨hstep, by rw [hcore, hidle], by rw [hcore], hrest⟩
  · exact (Runs.coreReads (f := fun s => s.farAccess n y b rd signed none) hs rfl
      (State.farAccess_aligned hruns hfree hy hb haligned rd signed none) rfl hdec hsends).imp
      fun t ⟨hstep, hcore, hsent, _, hrest⟩ => ⟨hstep, congrArg Core.access hcore, hsent, hrest⟩
  · exact Runs.of_effect (f := fun s => s.coreFence n false) (u := s) rfl hs (if_pos (by simp)) (Kept.start ..) (by decide) (by simp)
      fun t _ hk => hk

end Sys2Proof.Machine
end

section
/-! PROOF. Transfers of the serial units: I2C, SPI and UART (R398, R412). -/

namespace Sys2Proof.Machine

-- ------------------------------------------------------------------ I2C units

section
variable (s : State) (u : Nat)

@[simp] theorem State.i2c_setF (F : Fld) (i v k : Nat) : (s.setF F i v).i2c k = s.i2c k := rfl
@[simp] theorem State.i2c_raise (F : Fld) (i k : Nat) : (s.raise F i).i2c k = s.i2c k := rfl
@[simp] theorem State.i2c_emit (o : Out) (k : Nat) : (s.emit o).i2c k = s.i2c k := rfl
@[simp] theorem State.i2c_setI2c (v : I2cUnit) : (s.setI2c u v).i2c u = v := Sparse.get_set_same ..

theorem Kept.setI2c (v : I2cUnit) : Kept s (s.setI2c u v) [(.I2C_STATUS, u)] [.periph] :=
  (((Kept.putPeriph ..).trans (Kept.setF ..)).trans (Kept.setF ..)).weaken (by simp) (by simp)

@[simp] theorem State.out_setI2c (v : I2cUnit) : (s.setI2c u v).out = s.out := by simp [State.setI2c]
@[simp] theorem State.time_setI2c (v : I2cUnit) : (s.setI2c u v).time = s.time := by simp [State.setI2c]
@[simp] theorem State.out_emit (o : Out) : (s.emit o).out = s.out ++ [o] := by rw [State.emit, State.putOut_out]

/-- The FIFO levels follow; the other registers, and the other bits of STATUS, stay. -/
theorem State.f_setI2c (v : I2cUnit) {G : Fld} (h : G.reg ≠ .I2C_STATUS ∨ G.lo + G.width ≤ 8) (j : Nat) :
    (s.setI2c u v).f G j = s.f G j := by
  rcases h with h | h
  · rw [State.setI2c, State.f_setF_otherReg _ h, State.f_setF_otherReg _ h]
    rfl
  · rw [State.setI2c, State.f_setF_otherField _ (by decide) (.inl (by simp; omega)), State.f_setF_otherField _ (by decide) (.inl h)]
    rfl

end

/-- An I2C unit after a command. -/
theorem Kept.i2c_eq {u t : State} (h : Kept u t [] []) (k : Nat) : t.i2c k = u.i2c k := by
  rw [State.i2c, h.areas .periph List.not_mem_nil, State.i2c]

@[simp] theorem State.i2c_advanceTo (s : State) (t : DWord) (k : Nat) : (s.advanceTo t).i2c k = s.i2c k := by
  rw [State.i2c, State.advanceTo_periph, State.i2c]

/-- An input is fed as before where the pins and their functions are as before. -/
theorem Kept.inputFed {s t : State} {R : Regs} {A : List Area} (h : Kept s t R A) (hA : Area.pins ∉ A)
    (hR : ∀ x ∈ R, x.1 ≠ .PIN_PAD) (code : Nat) : t.inputFed code = s.inputFed code := by
  have hfunc (p : Nat) : t.padFunc p = s.padFunc p := h.f F.PIN_PAD_FUNC p rfl fun hx => hR _ hx rfl
  have hpins : t.pins = s.pins := h.areas .pins hA
  simp only [State.inputFed, State.feeder, State.selectors, hfunc, State.padSwitching, hpins]

-- ------------------------------------------------------------------ I2C transfers begin (R412)

theorem Kept.i2cBusy (s : State) (u n : Nat) : Kept s (s.i2cBusy u n) [(.I2C_STATUS, u)] [.periph] := Kept.setI2c ..

/-- The bus of a unit stays busy for some bytes more. -/
def State.busyFor (s : State) (u n : Nat) : DWord :=
  BitVec.ofNat 64 (max (s.i2c u).busy.toNat s.time.toNat + 9 * n * busBit (s.f F.I2C_CTRL_SPEED u))

theorem State.i2cBusy_eq (s : State) (u n : Nat) : s.i2cBusy u n = s.setI2c u { s.i2c u with busy := s.busyFor u n } := by
  rw [State.i2cBusy, State.busyFor]

/-- Nothing is sent by a unit that receives, is idle or has nothing to send. -/
theorem State.i2cSend_none {s : State} {u : Nat} (h : s.f F.I2C_STATUS_BUSY u = 0 ∨ (s.i2c u).tx = []) : s.i2cSend u = s := by
  rw [State.i2cSend]
  split
  · rfl
  · next hon =>
    have htx : (s.i2c u).tx = [] := h.resolve_left fun h0 => hon (by simp [State.on, h0])
    rw [if_pos (by simp [htx])]

/-- A register without protected fields takes a write whole (R5). -/
theorem State.writeTyped_of_open {r : Reg} (h : ((regSpec r).fields.all fun f => f.acc != .rwq && f.acc != .rwl) = true)
    (s : State) (who : Who) (i : Nat) (data : Word) :
    s.writeTyped who r i data = s.storeWord who r i (writeFields (fun _ => true) (regSpec r).fields (s.word r i) data) := by
  have hnone (a : Access) (ha : a = .rwq ∨ a = .rwl) : changesKind (regSpec r).fields a (s.word r i) data = false := by
    refine List.any_eq_false.2 fun f hf => ?_
    have hacc := List.all_eq_true.1 h f hf
    rcases ha with rfl | rfl <;> simp_all
  simp only [State.writeTyped, hnone .rwq (.inl rfl), hnone .rwl (.inr rfl), Bool.false_and, Bool.not_false, Bool.and_true,
    Bool.false_eq_true, if_false]

/-- I2C.CMD as a write stores it. -/
def State.i2cCommanded (s : State) (who : Who) (u : Nat) (data : Word) : State :=
  s.storeWord who .I2C_CMD u (writeFields (fun _ => true) (regSpec .I2C_CMD).fields (s.word .I2C_CMD u) data)

/-- GO is set by a write that sets it. -/
theorem State.i2cCommanded_go (s : State) (who : Who) (u : Nat) {data : Word} (h : data.getLsbD 31 = true) :
    (s.i2cCommanded who u data).f F.I2C_CMD_GO u = 1 := by
  have hgo : fieldOf data 31 1 = 1 := by simpa [fieldOf, BitVec.getLsbD, Nat.testBit_eq_decide_div_mod_eq] using h
  rw [State.f, State.i2cCommanded, State.word_storeWord, if_pos ⟨rfl, rfl⟩]
  simp [regSpec, i2cSpec, writeFields, writeField, hgo, fieldOf_withField_same, Nat.or_mod_two_eq_one]

theorem Kept.i2cCommanded (s : State) (who : Who) (u : Nat) (data : Word) :
    Kept s (s.i2cCommanded who u data) [(.I2C_CMD, u)] [.ledger] := Kept.storeWord ..

theorem State.out_storeWord (s : State) (who : Who) (r : Reg) (i : Nat) (v : Word) : (s.storeWord who r i v).out = s.out := by
  unfold State.storeWord
  dsimp only
  split <;> simp

theorem State.out_i2cCommanded (s : State) (who : Who) (u : Nat) (data : Word) : (s.i2cCommanded who u data).out = s.out :=
  State.out_storeWord ..

theorem State.bit_eq (s : State) {F : Fld} (h : F.width = 1) (i : Nat) : (if s.on F i then 1 else 0) = s.f F i := by
  have hlt : s.f F i < 2 ^ F.width := fieldOf_lt ..
  rw [h] at hlt
  by_cases h0 : s.f F i = 0
  · simp [State.on, h0]
  · have h1 : s.f F i = 1 := by omega
    simp [State.on, h1]

/-- The START byte of I2C.CMD. -/
def State.i2cAddress (s : State) (u : Nat) : Byte := BitVec.ofNat 8 (2 * s.f F.I2C_CMD_ADDR u + (if s.on F.I2C_CMD_READ u then 1 else 0))

/-- A transfer starts: BUSY, the START condition, and the bytes to come. -/
def State.i2cStarted (s : State) (u : Nat) : State :=
  let count := s.f F.I2C_CMD_COUNT u
  let s := s.raise F.I2C_STATUS_BUSY u
  let s := s.emit (.i2cStart u (s.i2c u).kept (s.i2cAddress u))
  (s.setI2c u { s.i2c u with left := if count = 0 then 256 else count, busy := s.time }).i2cBusy u 1

theorem State.writeI2cCmd_go {s : State} {u : Nat} {data : Word} (hgo : data.getLsbD 31 = true) (hidle : s.f F.I2C_STATUS_BUSY u = 0)
    (htarget : s.f F.I2C_CTRL_TARGET u = 0) (hen : s.f F.I2C_CTRL_EN u = 1) (who : Who) :
    s.writeI2cCmd who u data = ((s.i2cCommanded who u data).i2cStarted u).i2cSend u := by
  have hopen : ((regSpec .I2C_CMD).fields.all fun f => f.acc != .rwq && f.acc != .rwl) = true := by decide
  rw [State.writeI2cCmd, if_neg (by simp [State.on, hidle, htarget, hen]), if_neg (by simp [hgo]), State.writeTyped_of_open hopen]
  rfl

theorem Kept.i2cStarted (s : State) (u : Nat) : Kept s (s.i2cStarted u) [(.I2C_STATUS, u)] [.periph, .out] :=
  ((((Kept.raise ..).trans (Kept.emit ..)).trans (Kept.setI2c ..)).trans (Kept.i2cBusy ..)).weaken (by simp) (by simp)

theorem State.i2cStarted_busy (s : State) (u : Nat) : (s.i2cStarted u).f F.I2C_STATUS_BUSY u = 1 := by
  rw [State.i2cStarted, State.i2cBusy_eq, State.f_setI2c _ _ _ (.inr (by decide)), State.f_setI2c _ _ _ (.inr (by decide)),
    State.emit_f, State.f_raise_same _ _ _ (by decide) (by decide)]

theorem State.i2cStarted_unit (s : State) (u : Nat) : ∃ b : DWord, (s.i2cStarted u).i2c u =
    { s.i2c u with left := if s.f F.I2C_CMD_COUNT u = 0 then 256 else s.f F.I2C_CMD_COUNT u, busy := b } := by
  simp only [State.i2cStarted, State.i2cBusy_eq, State.i2c_setI2c, State.i2c_emit, State.i2c_raise]
  exact ⟨_, rfl⟩

theorem State.i2cStarted_out (s : State) (u : Nat) : (s.i2cStarted u).out = s.out ++
    [.i2cStart u (s.i2c u).kept (BitVec.ofNat 8 (2 * s.f F.I2C_CMD_ADDR u + s.f F.I2C_CMD_READ u))] := by
  have haddr : (s.raise F.I2C_STATUS_BUSY u).i2cAddress u = BitVec.ofNat 8 (2 * s.f F.I2C_CMD_ADDR u + s.f F.I2C_CMD_READ u) := by
    rw [State.i2cAddress, State.bit_eq _ rfl, State.raise, State.f_setF_otherReg _ (by decide), State.f_setF_otherReg _ (by decide)]
  simp [State.i2cStarted, State.i2cBusy_eq, haddr]

/-- A unit's STATUS is no word that work waits for. -/
theorem i2cRegs_calm (u : Nat) : ∀ x ∈ ([(.I2C_CMD, u), (.I2C_STATUS, u)] : Regs), x.1 ∉ calmRegs := by simp [calmRegs]

/-- GO starts a transfer. -/
theorem Runs.i2cGo {s : State} {who : Who} {u : Nat} {data : Word} (hs : s.ready = true) (hu : u < 4) (hgo : data.getLsbD 31 = true)
    (hidle : s.f F.I2C_STATUS_BUSY u = 0) (htarget : s.f F.I2C_CTRL_TARGET u = 0) (hen : s.f F.I2C_CTRL_EN u = 1)
    (htx : (s.i2c u).tx = []) : Runs (.transfer who u data) s fun t =>
      t.f F.I2C_STATUS_BUSY u = 1 ∧ t.f F.I2C_CMD_GO u = 1 ∧
      t.i2c u = { s.i2c u with left := if t.f F.I2C_CMD_COUNT u = 0 then 256 else t.f F.I2C_CMD_COUNT u, busy := (t.i2c u).busy } ∧
      SentOut s t [.i2cStart u (s.i2c u).kept (BitVec.ofNat 8 (2 * t.f F.I2C_CMD_ADDR u + t.f F.I2C_CMD_READ u))] ∧
      Kept s t [(.I2C_CMD, u), (.I2C_STATUS, u)] [.periph, .ledger, .out] := by
  have hcommand := Kept.i2cCommanded s who u data
  have hstart := Kept.i2cStarted (s.i2cCommanded who u data) u
  have hunit : (s.i2cCommanded who u data).i2c u = s.i2c u := by
    rw [State.i2c, hcommand.areas .periph (by decide), State.i2c]
  obtain ⟨b, hstarted⟩ := (s.i2cCommanded who u data).i2cStarted_unit u
  have hf : s.writeI2cCmd who u data = (s.i2cCommanded who u data).i2cStarted u :=
    (State.writeI2cCmd_go hgo hidle htarget hen who).trans (State.i2cSend_none (.inr (by rw [hstarted, hunit, htx])))
  refine Runs.of_effect (R := [(.I2C_CMD, u), (.I2C_STATUS, u)]) (A := [.periph, .ledger, .out])
    (f := fun s => if u < 4 then s.writeI2cCmd who u data else s) rfl hs ((if_pos hu).trans hf)
    ((hcommand.trans hstart).weaken (by simp) (by simp)) (by decide) (i2cRegs_calm u) fun t hq hk => ?_
  have hfield {F : Fld} (hr : F.reg = .I2C_CMD) : t.f F u = (s.i2cCommanded who u data).f F u := by
    rw [hq.f_eq (by rw [hr]; rfl), hstart.f F u (by rw [hr]; rfl) (by simp [hr])]
  refine ⟨?_, ?_, ?_, ?_, hk⟩
  · rw [hq.f_eq rfl, State.i2cStarted_busy]
  · rw [hfield rfl, State.i2cCommanded_go _ _ _ hgo]
  · rw [hfield rfl, hq.i2c_eq, hstarted, hunit]
  · rw [hfield rfl, hfield rfl, ← hunit]
    refine SentOut.of_quiet hq ?_
    rw [State.i2cStarted_out, State.out_i2cCommanded]

-- ------------------------------------------------------------------ I2C bytes and ends (R398, R412)

theorem Kept.i2cTake (s : State) (u : Nat) (data : List Byte) : Kept s (s.i2cTake u data) [(.I2C_STATUS, u)] [.periph] := by
  unfold State.i2cTake
  dsimp only
  split
  · exact ((Kept.setI2c ..).trans (Kept.raise ..)).weaken (by simp) (by simp)
  · exact Kept.setI2c ..

theorem State.i2cTake_unit (s : State) (u : Nat) (data : List Byte) :
    (s.i2cTake u data).i2c u = { s.i2c u with rx := (s.i2c u).rx ++ data.take (16 - (s.i2c u).rx.length) } := by
  unfold State.i2cTake
  dsimp only
  split <;> simp

theorem State.i2cTake_fits {s : State} {u : Nat} {data : List Byte} (h : (s.i2c u).rx.length + data.length ≤ 16) :
    s.i2cTake u data = s.setI2c u { s.i2c u with rx := (s.i2c u).rx ++ data } := by
  rw [State.i2cTake, if_neg (by omega), List.take_of_length_le (by omega)]

/-- A transfer that ended: what STATUS, the unit and the bus show. -/
structure I2cEnded (s t : State) (u : Nat) (kept : Bool) (l : List Out) : Prop where
  frame : Kept s t [(.I2C_CMD, u), (.I2C_STATUS, u)] [.periph, .out]
  done : t.f F.I2C_STATUS_DONE u = 1
  busy : t.f F.I2C_STATUS_BUSY u = 0
  go : t.f F.I2C_CMD_GO u = 0
  unit : t.i2c u = { s.i2c u with left := 0, kept := kept }
  out : t.out = s.out ++ l
  cause : ∀ G ∈ [F.I2C_STATUS_NACK, F.I2C_STATUS_ARB_LOST, F.I2C_STATUS_TIMEOUT], t.f G u = s.f G u

/-- The STOP that ends a transfer, where one is sent. -/
def State.i2cStops (s : State) (u : Nat) (stop : Bool) : State := if stop then s.emit (.i2cStop u) else s

theorem Kept.i2cStops (s : State) (u : Nat) (stop : Bool) : Kept s (s.i2cStops u stop) [] [.out] := by
  unfold State.i2cStops
  split
  · exact Kept.emit ..
  · exact Kept.start ..

theorem State.f_i2cStops (s : State) (u : Nat) (stop : Bool) (G : Fld) (i : Nat) : (s.i2cStops u stop).f G i = s.f G i := by
  unfold State.i2cStops
  split <;> rfl

theorem State.i2c_i2cStops (s : State) (u : Nat) (stop : Bool) : (s.i2cStops u stop).i2c u = s.i2c u := by
  unfold State.i2cStops
  split <;> rfl

theorem State.out_i2cStops (s : State) (u : Nat) (stop : Bool) :
    (s.i2cStops u stop).out = s.out ++ if stop then [.i2cStop u] else [] := by
  cases stop <;> simp [State.i2cStops]

theorem State.i2cEnd_eq (s : State) (u : Nat) (stop : Bool) : s.i2cEnd u stop =
    ((((s.setF F.I2C_STATUS_BUSY u 0).setF F.I2C_CMD_GO u 0).i2cStops u stop).setI2c u
      { (((s.setF F.I2C_STATUS_BUSY u 0).setF F.I2C_CMD_GO u 0).i2cStops u stop).i2c u with left := 0, kept := !stop }).raise
      F.I2C_STATUS_DONE u := rfl

theorem Kept.i2cEnd (s : State) (u : Nat) (stop : Bool) :
    Kept s (s.i2cEnd u stop) [(.I2C_CMD, u), (.I2C_STATUS, u)] [.periph, .out] := by
  rw [State.i2cEnd_eq]
  exact (((((Kept.setF ..).trans (Kept.setF ..)).trans (Kept.i2cStops ..)).trans (Kept.setI2c ..)).trans (Kept.raise ..)).weaken
    (by simp) (by simp)

theorem State.i2cEnd_ended (s : State) (u : Nat) (stop : Bool) :
    I2cEnded s (s.i2cEnd u stop) u (!stop) (if stop then [.i2cStop u] else []) := by
  have hstatus (b : State) (v : I2cUnit) {G : Fld} (h : G.lo + G.width ≤ 8) : (b.setI2c u v).f G u = b.f G u := State.f_setI2c _ _ _ (.inr h) _
  refine ⟨Kept.i2cEnd .., ?_, ?_, ?_, ?_, ?_, fun G hG => ?_⟩ <;> rw [State.i2cEnd_eq]
  · rw [State.f_raise_same _ _ _ (by decide) (by decide)]
  · rw [State.raise, State.f_setF_otherField _ (by decide) (by decide), hstatus _ _ (by decide), State.f_i2cStops,
      State.f_setF_otherReg _ (by decide), State.f_setF_same _ _ _ _ (by decide), Nat.zero_mod]
  · rw [State.raise, State.f_setF_otherReg _ (by decide), State.f_setI2c _ _ _ (.inl (by decide)), State.f_i2cStops,
      State.f_setF_same _ _ _ _ (by decide), Nat.zero_mod]
  · rw [State.i2c_raise, State.i2c_setI2c, State.i2c_i2cStops, State.i2c_setF, State.i2c_setF]
  · rw [State.raise_out, State.out_setI2c, State.out_i2cStops, State.setF_out, State.setF_out]
  · simp only [List.mem_cons, List.not_mem_nil, or_false] at hG
    rcases hG with rfl | rfl | rfl <;>
      rw [State.raise, State.f_setF_otherField _ (by decide) (by decide), hstatus _ _ (by decide), State.f_i2cStops,
        State.f_setF_otherReg _ (by decide), State.f_setF_otherField _ (by decide) (by decide)]

/-- A step or an end of an I2C transfer that runs, both lines being fed. -/
theorem Runs.i2cEvent {s e : State} {u : Nat} {x : PeriphEnd} {P : State → Prop} {R : Regs} {A : List Area} (hs : s.ready = true) (hu : u < 4)
    (hx : x ∈ [.i2cDone u, .i2cNack u, .i2cArbLost u, .i2cTimeout u] ∨ ∃ b, x = .i2cBytes u b) (hf : s.i2cEvent u x = e) (k : Kept s e R A)
    (hA : ∀ a ∈ calmAreas, a ∉ A) (hR : ∀ x ∈ R, x.1 ∉ calmRegs) (hP : ∀ t, Kept e t [] [] → Kept s t R A → P t) :
    Runs (.peripheralDone x) s P := by
  have hc : exec (.peripheralDone x) s = s.command fun s => if u < 4 then s.i2cEvent u x else s := by
    simp only [List.mem_cons, List.not_mem_nil, or_false] at hx
    rcases hx with (rfl | rfl | rfl | rfl) | ⟨b, rfl⟩ <;> rfl
  exact Runs.of_effect hc hs ((if_pos hu).trans hf) k hA hR hP

section
variable {s : State} {u : Nat} (hbusy : s.f F.I2C_STATUS_BUSY u = 1) (hfed : s.i2cFed u = true)
include hbusy hfed

theorem State.i2cEvent_bytes (hread : s.f F.I2C_CMD_READ u = 1) {b : List Byte} (hleft : b.length ≤ (s.i2c u).left)
    (hroom : (s.i2c u).rx.length + b.length ≤ 16) : s.i2cEvent u (.i2cBytes u b) =
      (((s.i2cBusy u b.length).advanceTo (s.busyFor u b.length)).setI2c u
        { s.i2c u with busy := s.busyFor u b.length, left := (s.i2c u).left - b.length }).setI2c u
        { s.i2c u with busy := s.busyFor u b.length, left := (s.i2c u).left - b.length, rx := (s.i2c u).rx ++ b } := by
  have hk : min (s.i2c u).left b.length = b.length := by omega
  rw [State.i2cEvent, if_neg (by simp [State.on, hbusy]), if_neg (by simp [hfed])]
  dsimp only
  rw [if_pos (by simp [State.on, hread]), hk, List.take_length]
  simp only [State.i2cBusy_eq, State.i2c_setI2c, State.i2c_advanceTo]
  rw [State.i2cTake_fits (by simpa using hroom), State.i2c_setI2c]

theorem State.i2cEvent_done (hleft : (s.i2c u).left = 0) :
    s.i2cEvent u (.i2cDone u) = (s.advanceTo (s.i2c u).busy).i2cEnd u (s.on F.I2C_CMD_STOP u) := by
  rw [State.i2cEvent, if_neg (by simp [State.on, hbusy]), if_neg (by simp [hfed])]
  exact if_pos hleft

theorem State.i2cEvent_nack : s.i2cEvent u (.i2cNack u) = (s.raise F.I2C_STATUS_NACK u).i2cEnd u true := by
  rw [State.i2cEvent, if_neg (by simp [State.on, hbusy]), if_neg (by simp [hfed])]

theorem State.i2cEvent_arbLost : s.i2cEvent u (.i2cArbLost u) = ((s.raise F.I2C_STATUS_ARB_LOST u).i2cEnd u false).setI2c u
    { ((s.raise F.I2C_STATUS_ARB_LOST u).i2cEnd u false).i2c u with kept := false } := by
  rw [State.i2cEvent, if_neg (by simp [State.on, hbusy]), if_neg (by simp [hfed])]

theorem State.i2cEvent_timeout : s.i2cEvent u (.i2cTimeout u) =
    ((s.pass (max 1 (s.f F.I2C_CTRL_STRETCH_MS u) * 1000 * ticksPerUs)).raise F.I2C_STATUS_TIMEOUT u).i2cEnd u true := by
  rw [State.i2cEvent, if_neg (by simp [State.on, hbusy]), if_neg (by simp [hfed])]

end

/-- The unit of a transfer that ended is set once more, with the bus not kept. -/
theorem I2cEnded.released {s t : State} {u : Nat} {kept : Bool} {l : List Out} (h : I2cEnded s t u kept l) :
    I2cEnded s (t.setI2c u { t.i2c u with kept := false }) u false l := by
  obtain ⟨hframe, hdone, hbusy, hgo, hunit, hout, hcause⟩ := h
  have hstatus {G : Fld} (h : G.lo + G.width ≤ 8) : (t.setI2c u { t.i2c u with kept := false }).f G u = t.f G u :=
    State.f_setI2c _ _ _ (.inr h) _
  refine ⟨hframe.via (Kept.setI2c ..) (by simp) (by simp), ?_, ?_, ?_, ?_, ?_, fun G hG => ?_⟩
  · rw [hstatus (by decide), hdone]
  · rw [hstatus (by decide), hbusy]
  · rw [State.f_setI2c _ _ _ (.inl (by decide)), hgo]
  · rw [State.i2c_setI2c, hunit]
  · rw [State.out_setI2c, hout]
  · rw [hstatus ?_, hcause G hG]
    simp only [List.mem_cons, List.not_mem_nil, or_false] at hG
    rcases hG with rfl | rfl | rfl <;> decide

/-- An end of a transfer: from the state b that raises its cause, at its time. -/
theorem Runs.i2cEnds {s b e : State} {u : Nat} {x : PeriphEnd} {G : Fld} {kept : Bool} {l : List Out} (hs : s.ready = true) (hu : u < 4)
    (hx : x ∈ [.i2cDone u, .i2cNack u, .i2cArbLost u, .i2cTimeout u]) (hf : s.i2cEvent u x = e) (hend : I2cEnded b e u kept l)
    (hframe : Kept s b [(.I2C_STATUS, u)] [.clock]) (hunit : b.i2c u = s.i2c u) (hout : b.out = s.out) (hcause : e.f G u = 1)
    (hG : isPend G.reg = false) : Runs (.peripheralDone x) s fun t =>
      t.f G u = 1 ∧ t.f F.I2C_STATUS_DONE u = 1 ∧ t.f F.I2C_STATUS_BUSY u = 0 ∧ t.f F.I2C_CMD_GO u = 0 ∧
      t.i2c u = { s.i2c u with left := 0, kept := kept } ∧ SentOut s t l ∧ t.time = b.time ∧
      Kept s t [(.I2C_CMD, u), (.I2C_STATUS, u)] [.clock, .periph, .out] := by
  refine Runs.i2cEvent (R := [(.I2C_CMD, u), (.I2C_STATUS, u)]) (A := [.clock, .periph, .out]) hs hu (.inl hx) hf
    ((hframe.trans hend.frame).weaken (by simp) (by simp)) (by decide) (i2cRegs_calm u) fun t hq hk => ⟨?_, ?_, ?_, ?_, ?_, ?_, ?_, hk⟩
  · rw [hq.f_eq hG, hcause]
  · rw [hq.f_eq rfl, hend.done]
  · rw [hq.f_eq rfl, hend.busy]
  · rw [hq.f_eq rfl, hend.go]
  · rw [hq.i2c_eq, hend.unit, hunit]
  · exact SentOut.of_quiet hq (by rw [hend.out, hout])
  · rw [hq.time_eq, hend.frame.time (by decide)]

/-- The three causes of an end, and the end of a transfer whose bytes are done. -/
theorem Runs.i2cEndings {s : State} {u : Nat} {x : PeriphEnd} {b : Fld} (hs : s.ready = true) (hu : u < 4) (hbusy : s.f F.I2C_STATUS_BUSY u = 1)
    (hfed : s.i2cFed u = true)
    (hx : (x, b) ∈ [(.i2cNack u, F.I2C_STATUS_NACK), (.i2cArbLost u, F.I2C_STATUS_ARB_LOST), (.i2cTimeout u, F.I2C_STATUS_TIMEOUT)] ∨
      x = .i2cDone u ∧ b = F.I2C_STATUS_DONE ∧ (s.i2c u).left = 0) : Runs (.peripheralDone x) s fun t =>
      t.f b u = 1 ∧ t.f F.I2C_STATUS_DONE u = 1 ∧ t.f F.I2C_STATUS_BUSY u = 0 ∧ t.f F.I2C_CMD_GO u = 0 ∧
      t.i2c u = { s.i2c u with left := 0, kept := decide (x = .i2cDone u) && !s.on F.I2C_CMD_STOP u } ∧
      SentOut s t (if x = .i2cArbLost u ∨ x = .i2cDone u ∧ s.f F.I2C_CMD_STOP u = 0 then [] else [.i2cStop u]) ∧
      t.time = (if x = .i2cDone u then (s.advanceTo (s.i2c u).busy).time
        else if x = .i2cTimeout u then s.time + BitVec.ofNat 64 (max 1 (s.f F.I2C_CTRL_STRETCH_MS u) * 1000 * ticksPerUs)
        else s.time) ∧
      Kept s t [(.I2C_CMD, u), (.I2C_STATUS, u)] [.clock, .periph, .out] := by
  simp only [List.mem_cons, List.not_mem_nil, or_false, Prod.mk.injEq] at hx
  rcases hx with (⟨rfl, rfl⟩ | ⟨rfl, rfl⟩ | ⟨rfl, rfl⟩) | ⟨rfl, rfl, hleft⟩
  · have hend := (s.raise F.I2C_STATUS_NACK u).i2cEnd_ended u true
    refine (Runs.i2cEnds hs hu (by simp) (State.i2cEvent_nack hbusy hfed) hend ((Kept.raise ..).weaken (by simp) (by simp)) (State.i2c_raise ..)
      (State.raise_out ..) (G := F.I2C_STATUS_NACK) ?_ rfl).imp fun t ⟨hstep, hcause, hdone, hbusy, hgo, hunit, hout, htime, hk⟩ =>
      ⟨hstep, hcause, hdone, hbusy, hgo, by simpa using hunit, by simpa using hout, by simpa using htime, hk⟩
    rw [hend.cause _ (by simp), State.f_raise_same _ _ _ (by decide) (by decide)]
  · have hend := ((s.raise F.I2C_STATUS_ARB_LOST u).i2cEnd_ended u false).released
    refine (Runs.i2cEnds hs hu (by simp) (State.i2cEvent_arbLost hbusy hfed) hend ((Kept.raise ..).weaken (by simp) (by simp)) (State.i2c_raise ..)
      (State.raise_out ..) (G := F.I2C_STATUS_ARB_LOST) ?_ rfl).imp fun t ⟨hstep, hcause, hdone, hbusy, hgo, hunit, hout, htime, hk⟩ =>
      ⟨hstep, hcause, hdone, hbusy, hgo, by simpa using hunit, by simpa using hout, by simpa using htime, hk⟩
    rw [hend.cause _ (by simp), State.f_raise_same _ _ _ (by decide) (by decide)]
  · have hend := ((s.pass (max 1 (s.f F.I2C_CTRL_STRETCH_MS u) * 1000 * ticksPerUs)).raise F.I2C_STATUS_TIMEOUT u).i2cEnd_ended u true
    refine (Runs.i2cEnds hs hu (by simp) (State.i2cEvent_timeout hbusy hfed) hend (((Kept.pass ..).trans (Kept.raise ..)).weaken (by simp) (by simp))
      (State.i2c_raise ..) (State.raise_out ..) (G := F.I2C_STATUS_TIMEOUT) ?_ rfl).imp
      fun t ⟨hstep, hcause, hdone, hbusy, hgo, hunit, hout, htime, hk⟩ =>
      ⟨hstep, hcause, hdone, hbusy, hgo, by simpa using hunit, by simpa using hout, htime.trans (by simp [State.pass]), hk⟩
    rw [hend.cause _ (by simp), State.f_raise_same _ _ _ (by decide) (by decide)]
  · have hend := (s.advanceTo (s.i2c u).busy).i2cEnd_ended u (s.on F.I2C_CMD_STOP u)
    have hstop : s.f F.I2C_CMD_STOP u = 0 ↔ s.on F.I2C_CMD_STOP u = false := by simp [State.on]
    refine (Runs.i2cEnds hs hu (by simp) (State.i2cEvent_done hbusy hfed hleft) hend ((Kept.advanceTo ..).weaken (by simp) (by simp))
      (State.i2c_advanceTo ..) (State.advanceTo_out ..) (G := F.I2C_STATUS_DONE) hend.done rfl).imp
      fun t ⟨hstep, hcause, hdone, hbusy, hgo, hunit, hout, htime, hk⟩ =>
      ⟨hstep, hcause, hdone, hbusy, hgo, by simpa using hunit, ?_, by simpa using htime, hk⟩
    cases hon : s.on F.I2C_CMD_STOP u <;> simpa [hon, hstop] using hout

/-- Bytes that arrive while a read transfer runs. -/
theorem Runs.i2cReceives {s : State} {u : Nat} {b : List Byte} (hs : s.ready = true) (hu : u < 4) (hbusy : s.f F.I2C_STATUS_BUSY u = 1)
    (hfed : s.i2cFed u = true) (hread : s.f F.I2C_CMD_READ u = 1) (hleft : b.length ≤ (s.i2c u).left)
    (hroom : (s.i2c u).rx.length + b.length ≤ 16) : Runs (.peripheralDone (.i2cBytes u b)) s fun t =>
      t.i2c u = { s.i2c u with rx := (s.i2c u).rx ++ b, left := (s.i2c u).left - b.length, busy := (t.i2c u).busy } ∧
      (t.i2c u).busy = BitVec.ofNat 64 (max (s.i2c u).busy.toNat s.time.toNat + 9 * b.length * busBit (s.f F.I2C_CTRL_SPEED u)) ∧
      t.time = (s.advanceTo (t.i2c u).busy).time ∧ Kept s t [(.I2C_STATUS, u)] [.clock, .periph] := by
  refine Runs.i2cEvent (R := [(.I2C_STATUS, u)]) (A := [.clock, .periph]) hs hu (.inr ⟨b, rfl⟩) (State.i2cEvent_bytes hbusy hfed hread hleft hroom)
    (((((Kept.i2cBusy ..).trans (Kept.advanceTo ..)).trans (Kept.setI2c ..)).trans (Kept.setI2c ..)).weaken (by simp) (by simp)) (by decide)
    (by simp [calmRegs]) fun t hq hk => ?_
  have hunit := hq.i2c_eq u
  rw [State.i2c_setI2c] at hunit
  refine ⟨?_, ?_, ?_, hk⟩
  · rw [hunit]
  · rw [hunit, State.busyFor]
  · rw [hunit, hq.time_eq, State.time_setI2c, State.time_setI2c]
    exact State.advanceTo_time_congr (Kept.i2cBusy .. |>.time (by decide)) _

-- ------------------------------------------------------------------ an I2C unit that is addressed (R398)

/-- A unit that is addressed as a target. -/
def State.addressedHere (s : State) (u addr : Nat) : Prop :=
  s.f F.I2C_CTRL_EN u = 1 ∧ s.f F.I2C_CTRL_TARGET u = 1 ∧ s.f F.I2C_CTRL_OWN_ADDR u = addr ∧ s.i2cFed u = true

theorem State.i2cTake_addressed (s : State) (u : Nat) (data : List Byte) :
    (s.i2cTake u data).f F.I2C_STATUS_ADDRESSED u = s.f F.I2C_STATUS_ADDRESSED u ∧
      (16 - (s.i2c u).rx.length < data.length → (s.i2cTake u data).f F.I2C_STATUS_OVERFLOW u = 1) := by
  have hset (v : I2cUnit) : (s.setI2c u v).f F.I2C_STATUS_ADDRESSED u = s.f F.I2C_STATUS_ADDRESSED u := State.f_setI2c _ _ _ (.inr (by decide)) _
  unfold State.i2cTake
  dsimp only
  split
  · next h =>
    refine ⟨?_, fun _ => State.f_raise_same _ _ _ (by decide) (by decide)⟩
    rw [State.raise, State.f_setF_otherField _ (by decide) (by decide), hset]
  · next h => exact ⟨hset _, fun h' => absurd h' h⟩

/-- The bytes that an addressed unit lets in: those that fit, where it stretches the clock. -/
def State.i2cLetsIn (s : State) (u : Nat) (b : List Byte) : List Byte :=
  if s.on F.I2C_CTRL_STRETCH u then b.take (16 - (s.i2c u).rx.length) else b

theorem Runs.i2cAddressedWrite {s : State} {u addr : Nat} (hs : s.ready = true) (hu : u < 4) (h : s.addressedHere u addr) (b : List Byte) :
    Runs (.addressed u addr (.write b)) s fun t =>
      t.f F.I2C_STATUS_ADDRESSED u = 1 ∧ t.i2c u = { s.i2c u with rx := (s.i2c u).rx ++ b.take (16 - (s.i2c u).rx.length) } ∧
      (s.f F.I2C_CTRL_STRETCH u = 0 → 16 - (s.i2c u).rx.length < b.length → t.f F.I2C_STATUS_OVERFLOW u = 1) ∧
      Kept s t [(.I2C_STATUS, u)] [.periph] := by
  obtain ⟨hen, htarget, hown, hfed⟩ := h
  have hf : s.addressed u addr (.write b) = (s.raise F.I2C_STATUS_ADDRESSED u).i2cTake u (s.i2cLetsIn u b) := by
    have hstretch : (s.raise F.I2C_STATUS_ADDRESSED u).on F.I2C_CTRL_STRETCH u = s.on F.I2C_CTRL_STRETCH u := by
      rw [State.on, State.raise, State.f_setF_otherReg _ (by decide), State.on]
    rw [State.addressed, if_neg (by simp [State.on, hen, htarget, hown, hfed])]
    simp only [hstretch, State.i2c_raise, State.i2cLetsIn]
    split <;> rfl
  obtain ⟨haddressed, hover⟩ := (s.raise F.I2C_STATUS_ADDRESSED u).i2cTake_addressed u (s.i2cLetsIn u b)
  refine Runs.of_effect (R := [(.I2C_STATUS, u)]) (A := [.periph]) (f := fun s => if u < 4 then s.addressed u addr (.write b) else s) rfl hs
    ((if_pos hu).trans hf) (((Kept.raise ..).trans (Kept.i2cTake ..)).weaken (by simp) (by simp)) (by decide) (by simp [calmRegs])
    fun t hq hk => ⟨?_, ?_, fun hstretch hlong => ?_, hk⟩
  · rw [hq.f_eq rfl, haddressed, State.f_raise_same _ _ _ (by decide) (by decide)]
  · rw [hq.i2c_eq, State.i2cTake_unit, State.i2c_raise]
    unfold State.i2cLetsIn
    split <;> simp
  · rw [hq.f_eq rfl]
    exact hover (by simpa [State.i2cLetsIn, State.on, hstretch] using hlong)

/-- An addressed unit that has sent what its FIFO holds of some bytes. -/
def State.i2cGives (s : State) (u n : Nat) : State :=
  let w := (s.raise F.I2C_STATUS_ADDRESSED u).setI2c u { s.i2c u with tx := (s.i2c u).tx.drop n }
  if !s.on F.I2C_CTRL_STRETCH u && decide (0 < n - (s.i2c u).tx.length) then w.raise F.I2C_STATUS_OVERFLOW u else w

/-- The bytes that an addressed unit sends, 0xFF where its FIFO runs short and it does not stretch the clock. -/
def State.i2cGiven (s : State) (u n : Nat) : List Byte :=
  (s.i2c u).tx.take n ++ if s.on F.I2C_CTRL_STRETCH u then [] else List.replicate (n - (s.i2c u).tx.length) 0xFF#8

theorem State.addressed_read {s : State} {u addr : Nat} (h : s.addressedHere u addr) (n : Nat) :
    s.addressed u addr (.read n) = (s.i2cGives u n).emit (.serial (.i2c u) ((s.i2cGiven u n).map (·.setWidth 32))) := by
  obtain ⟨hen, htarget, hown, hfed⟩ := h
  have hstretch : (s.raise F.I2C_STATUS_ADDRESSED u).on F.I2C_CTRL_STRETCH u = s.on F.I2C_CTRL_STRETCH u := by
    rw [State.on, State.raise, State.f_setF_otherReg _ (by decide), State.on]
  have hshort : n - ((s.i2c u).tx.take n).length = n - (s.i2c u).tx.length := by
    rw [List.length_take]
    omega
  rw [State.addressed, if_neg (by simp [State.on, hen, htarget, hown, hfed])]
  simp only [hstretch, State.i2c_raise, hshort, State.i2cGives, State.i2cGiven]

theorem Kept.i2cGives (s : State) (u n : Nat) : Kept s (s.i2cGives u n) [(.I2C_STATUS, u)] [.periph] := by
  have hset := ((Kept.raise s F.I2C_STATUS_ADDRESSED u).trans (Kept.setI2c _ u { s.i2c u with tx := (s.i2c u).tx.drop n }))
  unfold State.i2cGives
  dsimp only
  split
  · exact (hset.trans (Kept.raise ..)).weaken (by simp) (by simp)
  · exact hset.weaken (by simp) (by simp)

theorem State.i2cGives_shows (s : State) (u n : Nat) : (s.i2cGives u n).f F.I2C_STATUS_ADDRESSED u = 1 ∧
    (s.i2cGives u n).i2c u = { s.i2c u with tx := (s.i2c u).tx.drop n } ∧ (s.i2cGives u n).out = s.out := by
  have hset : ((s.raise F.I2C_STATUS_ADDRESSED u).setI2c u { s.i2c u with tx := (s.i2c u).tx.drop n }).f F.I2C_STATUS_ADDRESSED u = 1 := by
    rw [State.f_setI2c _ _ _ (.inr (by decide)), State.f_raise_same _ _ _ (by decide) (by decide)]
  unfold State.i2cGives
  dsimp only
  split
  · refine ⟨?_, by rw [State.i2c_raise, State.i2c_setI2c], by rw [State.raise_out, State.out_setI2c, State.raise_out]⟩
    rw [State.raise, State.f_setF_otherField _ (by decide) (by decide), hset]
  · exact ⟨hset, by rw [State.i2c_setI2c], by rw [State.out_setI2c, State.raise_out]⟩

theorem Runs.i2cAddressedRead {s : State} {u addr : Nat} (hs : s.ready = true) (hu : u < 4) (h : s.addressedHere u addr) (n : Nat) :
    Runs (.addressed u addr (.read n)) s fun t =>
      t.f F.I2C_STATUS_ADDRESSED u = 1 ∧ t.i2c u = { s.i2c u with tx := (s.i2c u).tx.drop n } ∧
      (s.f F.I2C_CTRL_STRETCH u = 0 → SentOut s t
        [.serial (.i2c u) (((s.i2c u).tx.take n ++ List.replicate (n - (s.i2c u).tx.length) 0xFF#8).map (·.setWidth 32))]) ∧
      Kept s t [(.I2C_STATUS, u)] [.periph, .out] := by
  obtain ⟨haddressed, hunit, hout⟩ := s.i2cGives_shows u n
  refine Runs.of_effect (R := [(.I2C_STATUS, u)]) (A := [.periph, .out]) (f := fun s => if u < 4 then s.addressed u addr (.read n) else s) rfl hs
    ((if_pos hu).trans (State.addressed_read h n)) ((Kept.i2cGives ..).trans (Kept.emit ..)) (by decide) (by simp [calmRegs])
    fun t hq hk => ⟨?_, ?_, fun hstretch => SentOut.of_quiet hq ?_, hk⟩
  · rw [hq.f_eq rfl, State.emit_f, haddressed]
  · rw [hq.i2c_eq, State.i2c_emit, hunit]
  · rw [State.out_emit, hout, State.i2cGiven, State.on, hstretch]
    rfl

-- ------------------------------------------------------------------ TXDATA of an I2C unit (R412)

/-- The low byte of a word. -/
theorem setWidth_byte (data : Word) : (data.setWidth 8).setWidth 32 = data &&& 0xFF#32 := by
  apply BitVec.eq_of_toNat_eq
  rw [BitVec.toNat_and, show (0xFF#32).toNat = 2 ^ 8 - 1 from rfl, Nat.and_two_pow_sub_one_eq_mod, BitVec.toNat_setWidth, BitVec.toNat_setWidth]
  omega

/-- A write of TXDATA of a unit that is there. -/
theorem Runs.pushes {s e : State} {x : Periph} {data : Word} {P : State → Prop} {R : Regs} {A : List Area} (hs : s.ready = true)
    (hx : periphUnit x = true) (hf : s.txPush x data = e) (k : Kept s e R A) (hA : ∀ a ∈ calmAreas, a ∉ A) (hR : ∀ x ∈ R, x.1 ∉ calmRegs)
    (hP : ∀ t, Kept e t [] [] → Kept s t R A → P t) : Runs (.txdata x data) s P :=
  Runs.of_effect (f := fun s => if periphUnit x then s.txPush x data else s) rfl hs ((if_pos hx).trans hf) k hA hR hP

theorem State.i2cSend_one {s : State} {u : Nat} {b : Byte} (hbusy : s.f F.I2C_STATUS_BUSY u = 1) (hread : s.f F.I2C_CMD_READ u = 0)
    (htx : (s.i2c u).tx = [b]) (hleft : 0 < (s.i2c u).left) : s.i2cSend u =
      ((s.setI2c u { s.i2c u with tx := [], left := (s.i2c u).left - 1 }).i2cBusy u 1).emit (.serial (.i2c u) [b.setWidth 32]) := by
  have hk : min (s.i2c u).left [b].length = 1 := by
    rw [List.length_singleton]
    omega
  rw [State.i2cSend, if_neg (by simp [State.on, hbusy, hread]), htx, hk, if_neg (by decide)]
  rfl

theorem State.txPush_i2c_sends {s : State} {u : Nat} (hbusy : s.f F.I2C_STATUS_BUSY u = 1) (hread : s.f F.I2C_CMD_READ u = 0)
    (htx : (s.i2c u).tx = []) (hleft : 0 < (s.i2c u).left) (data : Word) : s.txPush (.i2c u) data =
      (((s.setI2c u { s.i2c u with tx := [data.setWidth 8] }).setI2c u { s.i2c u with left := (s.i2c u).left - 1 }).i2cBusy u 1).emit
        (.serial (.i2c u) [data &&& 0xFF#32]) := by
  have hw : (s.setI2c u { s.i2c u with tx := [data.setWidth 8] }).i2c u = { s.i2c u with tx := [data.setWidth 8] } := State.i2c_setI2c ..
  have hrest : ({ s.i2c u with tx := [], left := (s.i2c u).left - 1 } : I2cUnit) = { s.i2c u with left := (s.i2c u).left - 1 } := by rw [← htx]
  rw [State.txPush, htx, List.length_nil, if_pos (by decide), List.nil_append,
    State.i2cSend_one (b := data.setWidth 8) ((State.f_setI2c _ _ _ (.inr (by decide)) _).trans hbusy)
      ((State.f_setI2c _ _ _ (.inl (by decide)) _).trans hread) (by rw [hw]) (by rw [hw]; exact hleft), hw, setWidth_byte, ← hrest]

/-- A byte written while a write transfer has bytes to come goes out at once. -/
theorem Runs.i2cSends {s : State} {u : Nat} {data : Word} (hs : s.ready = true) (hu : u < 4) (hbusy : s.f F.I2C_STATUS_BUSY u = 1)
    (hread : s.f F.I2C_CMD_READ u = 0) (htx : (s.i2c u).tx = []) (hleft : 0 < (s.i2c u).left) : Runs (.txdata (.i2c u) data) s fun t =>
      t.i2c u = { s.i2c u with left := (s.i2c u).left - 1, busy := (t.i2c u).busy } ∧
      SentOut s t [.serial (.i2c u) [data &&& 0xFF#32]] ∧ Kept s t [(.I2C_STATUS, u)] [.periph, .out] := by
  refine Runs.pushes (R := [(.I2C_STATUS, u)]) (A := [.periph, .out]) hs (decide_eq_true hu)
    (State.txPush_i2c_sends hbusy hread htx hleft data)
    (((((Kept.setI2c ..).trans (Kept.setI2c ..)).trans (Kept.i2cBusy ..)).trans (Kept.emit ..)).weaken (by simp) (by simp)) (by decide)
    (by simp [calmRegs]) fun t hq hk => ⟨?_, SentOut.of_quiet hq ?_, hk⟩
  · rw [hq.i2c_eq, State.i2c_emit, State.i2cBusy_eq, State.i2c_setI2c, State.i2c_setI2c]
  · rw [State.out_emit, State.i2cBusy_eq, State.out_setI2c, State.out_setI2c, State.out_setI2c]

theorem State.txPush_i2c_idle {s : State} {u : Nat} (hidle : s.f F.I2C_STATUS_BUSY u = 0) (data : Word) : s.txPush (.i2c u) data =
    if (s.i2c u).tx.length < 16 then s.setI2c u { s.i2c u with tx := (s.i2c u).tx ++ [data.setWidth 8] }
    else s.raise F.I2C_STATUS_OVERFLOW u := by
  rw [State.txPush, State.i2cSend_none (.inl ((State.f_setI2c _ _ _ (.inr (by decide)) _).trans hidle))]

theorem Runs.i2cQueues {s : State} {u : Nat} {data : Word} (hs : s.ready = true) (hu : u < 4) (hidle : s.f F.I2C_STATUS_BUSY u = 0) :
    Runs (.txdata (.i2c u) data) s fun t =>
      (t.i2c u).tx = (if (s.i2c u).tx.length < 16 then (s.i2c u).tx ++ [data.setWidth 8] else (s.i2c u).tx) ∧
      (16 ≤ (s.i2c u).tx.length → t.f F.I2C_STATUS_OVERFLOW u = 1) ∧ Kept s t [(.I2C_STATUS, u)] [.periph] := by
  have hf := State.txPush_i2c_idle hidle data
  by_cases hroom : (s.i2c u).tx.length < 16
  · rw [if_pos hroom] at hf
    refine Runs.pushes hs (decide_eq_true hu) hf (Kept.setI2c ..) (by decide) (by simp [calmRegs]) fun t hq hk => ⟨?_, by omega, hk⟩
    rw [hq.i2c_eq, State.i2c_setI2c, if_pos hroom]
  · rw [if_neg hroom] at hf
    refine Runs.pushes hs (decide_eq_true hu) hf ((Kept.raise ..).weaken (List.Subset.refl _) (by simp)) (by decide) (by simp [calmRegs])
      fun t hq hk => ⟨?_, fun _ => ?_, hk⟩
    · rw [hq.i2c_eq, State.i2c_raise, if_neg hroom]
    · rw [hq.f_eq rfl, State.f_raise_same _ _ _ (by decide) (by decide)]

-- ------------------------------------------------------------------ SPI units

section
variable (s : State) (u : Nat)

@[simp] theorem State.spi_setF (F : Fld) (i v k : Nat) : (s.setF F i v).spi k = s.spi k := rfl
@[simp] theorem State.spi_raise (F : Fld) (i k : Nat) : (s.raise F i).spi k = s.spi k := rfl
@[simp] theorem State.spi_emit (o : Out) (k : Nat) : (s.emit o).spi k = s.spi k := rfl
@[simp] theorem State.spi_setSpi (v : SpiUnit) : (s.setSpi u v).spi u = v := Sparse.get_set_same ..

@[simp] theorem State.spi_advanceTo (t : DWord) (k : Nat) : (s.advanceTo t).spi k = s.spi k := by
  rw [State.spi, State.advanceTo_periph, State.spi]

theorem Kept.setSpi (v : SpiUnit) : Kept s (s.setSpi u v) [(.SPI_STATUS, u)] [.periph] :=
  ((((Kept.putPeriph ..).trans (Kept.setF ..)).trans (Kept.setF ..)).trans (Kept.setF ..)).weaken (by simp) (by simp)

@[simp] theorem State.out_setSpi (v : SpiUnit) : (s.setSpi u v).out = s.out := by simp [State.setSpi]
@[simp] theorem State.time_setSpi (v : SpiUnit) : (s.setSpi u v).time = s.time := by simp [State.setSpi]

theorem State.spiBusy_setSpi (v : SpiUnit) : (s.setSpi u v).f F.SPI_STATUS_BUSY u = if v.sending.isSome then 1 else 0 := by
  rw [State.setSpi, State.f_setF_otherField _ (by decide) (by decide), State.f_setF_otherField _ (by decide) (by decide),
    State.f_setF_same _ _ _ _ (by decide)]
  split <;> rfl

end

theorem Kept.spi_eq {u t : State} (h : Kept u t [] []) (k : Nat) : t.spi k = u.spi k := by
  rw [State.spi, h.areas .periph List.not_mem_nil, State.spi]

/-- The order of bits follows SPI.CTRL. -/
theorem Kept.spiOrder_eq {s t : State} {R : Regs} {A : List Area} (h : Kept s t R A) {u : Nat} (hR : (Reg.SPI_CTRL, u) ∉ R) (v : Nat) :
    t.spiOrder u v = s.spiOrder u v := by
  have hfield (F : Fld) (hr : F.reg = .SPI_CTRL) : t.f F u = s.f F u := h.f F u (by rw [hr]; rfl) (by rw [hr]; exact hR)
  rw [State.spiOrder, State.spiBits, State.on, hfield _ rfl, hfield _ rfl, State.spiOrder, State.spiBits, State.on]

/-- A frame begins on a unit that sends nothing. -/
theorem State.spiPump_one {s : State} {u : Nat} {w : Word} (htx : (s.spi u).tx = [w]) (hidle : (s.spi u).sending = none)
    (hen : s.f F.SPI_CTRL_EN u = 1) : s.spiPump u = (s.setSpi u { s.spi u with tx := [], sending := some (w, s.time) }).emit
      (.serial (.spi u) [BitVec.ofNat 32 (s.spiOrder u w.toNat)]) := by
  rw [State.spiPump, htx, hidle]
  exact if_pos (by simp [State.on, hen])

theorem State.spiPump_sending {s : State} {u : Nat} (h : (s.spi u).sending ≠ none) : s.spiPump u = s := by
  unfold State.spiPump
  dsimp only
  split
  · next hidle => exact absurd hidle h
  · rfl

theorem State.txPush_spi_begins {s : State} {u : Nat} (hidle : (s.spi u).sending = none) (htx : (s.spi u).tx = [])
    (hen : s.f F.SPI_CTRL_EN u = 1) (data : Word) : s.txPush (.spi u) data =
      ((s.setSpi u { s.spi u with tx := [data] }).setSpi u { s.spi u with sending := some (data, s.time) }).emit
        (.serial (.spi u) [BitVec.ofNat 32 (s.spiOrder u data.toNat)]) := by
  have hset := Kept.setSpi s u { s.spi u with tx := [data] }
  have hw : (s.setSpi u { s.spi u with tx := [data] }).spi u = { s.spi u with tx := [data] } := State.spi_setSpi ..
  have hrest : ({ s.spi u with tx := [], sending := some (data, s.time) } : SpiUnit) = { s.spi u with sending := some (data, s.time) } := by
    rw [← htx]
  rw [State.txPush, htx, List.length_nil, if_pos (by decide), List.nil_append, State.spiPump_one (w := data) (by rw [hw])
    (by rw [hw]; exact hidle) ((hset.f _ _ rfl (by simp)).trans hen), hw, State.time_setSpi, hset.spiOrder_eq (by simp), ← hrest]

theorem Runs.spiBegins {s : State} {u : Nat} {data : Word} (hs : s.ready = true) (hu : u < 4) (hidle : (s.spi u).sending = none)
    (htx : (s.spi u).tx = []) (hen : s.f F.SPI_CTRL_EN u = 1) : Runs (.txdata (.spi u) data) s fun t =>
      t.spi u = { s.spi u with sending := some (data, s.time) } ∧ t.f F.SPI_STATUS_BUSY u = 1 ∧
      SentOut s t [.serial (.spi u) [BitVec.ofNat 32 (s.spiOrder u data.toNat)]] ∧
      Kept s t [(.SPI_STATUS, u)] [.periph, .out] := by
  refine Runs.pushes (R := [(.SPI_STATUS, u)]) (A := [.periph, .out]) hs (decide_eq_true hu) (State.txPush_spi_begins hidle htx hen data)
    ((((Kept.setSpi ..).trans (Kept.setSpi ..)).trans (Kept.emit ..)).weaken (by simp) (by simp)) (by decide) (by simp [calmRegs])
    fun t hq hk => ⟨?_, ?_, SentOut.of_quiet hq ?_, hk⟩
  · rw [hq.spi_eq, State.spi_emit, State.spi_setSpi]
  · rw [hq.f_eq rfl, State.emit_f, State.spiBusy_setSpi]
    rfl
  · rw [State.out_emit, State.out_setSpi, State.out_setSpi]

theorem State.txPush_spi_waits {s : State} {u : Nat} (h : (s.spi u).sending ≠ none) (data : Word) : s.txPush (.spi u) data =
    if (s.spi u).tx.length < 8 then s.setSpi u { s.spi u with tx := (s.spi u).tx ++ [data] } else s.raise F.SPI_STATUS_TX_OVERFLOW u := by
  rw [State.txPush, State.spiPump_sending (by rw [State.spi_setSpi]; exact h)]

theorem Runs.spiQueues {s : State} {u : Nat} {data : Word} (hs : s.ready = true) (hu : u < 4) (h : (s.spi u).sending ≠ none) :
    Runs (.txdata (.spi u) data) s fun t =>
      (t.spi u).tx = (if (s.spi u).tx.length < 8 then (s.spi u).tx ++ [data] else (s.spi u).tx) ∧
      (8 ≤ (s.spi u).tx.length → t.f F.SPI_STATUS_TX_OVERFLOW u = 1) ∧ Kept s t [(.SPI_STATUS, u)] [.periph] := by
  have hf := State.txPush_spi_waits h data
  by_cases hroom : (s.spi u).tx.length < 8
  · rw [if_pos hroom] at hf
    refine Runs.pushes hs (decide_eq_true hu) hf (Kept.setSpi ..) (by decide) (by simp [calmRegs]) fun t hq hk => ⟨?_, by omega, hk⟩
    rw [hq.spi_eq, State.spi_setSpi, if_pos hroom]
  · rw [if_neg hroom] at hf
    refine Runs.pushes hs (decide_eq_true hu) hf ((Kept.raise ..).weaken (List.Subset.refl _) (by simp)) (by decide) (by simp [calmRegs])
      fun t hq hk => ⟨?_, fun _ => ?_, hk⟩
    · rw [hq.spi_eq, State.spi_raise, if_neg hroom]
    · rw [hq.f_eq rfl, State.f_raise_same _ _ _ (by decide) (by decide)]

/-- The tick at which a frame that began at a tick ends. -/
def State.spiUntil (s : State) (u : Nat) (t0 : DWord) : DWord :=
  t0 + BitVec.ofNat 64 (periphTicks ((s.f F.SPI_CTRL_BITS u + 1) * s.f F.SPI_CTRL_DIV u))

theorem State.spiEnd_last {s : State} {u : Nat} {w : Word} {t0 : DWord} (hsending : (s.spi u).sending = some (w, t0))
    (htx : (s.spi u).tx = []) (hroom : (s.spi u).rx.length < 8) (hfed : s.inputFed (18 + 4 * u) = true) (data : Word) :
    s.spiEnd u data = ((s.advanceTo (s.spiUntil u t0)).setSpi u { s.spi u with
      rx := (s.spi u).rx ++ [BitVec.ofNat 32 (s.spiOrder u data.toNat)], sending := none }).raise F.SPI_STATUS_DONE u := by
  have hadvance := Kept.advanceTo s (s.spiUntil u t0)
  have hcode : 16 + 4 * u + 2 = 18 + 4 * u := by omega
  have huntil : t0 + BitVec.ofNat 64 (periphTicks (s.spiBits u * s.f F.SPI_CTRL_DIV u)) = s.spiUntil u t0 := rfl
  rw [State.spiEnd, hsending]
  dsimp only
  rw [htx, huntil, if_pos (by decide), if_pos hroom, hadvance.inputFed (by decide) (by simp), hcode, if_pos hfed, hadvance.spiOrder_eq (by simp)]

theorem Runs.spiFrameEnds {s : State} {u : Nat} {data w : Word} {t0 : DWord} (hs : s.ready = true) (hu : u < 4)
    (hsending : (s.spi u).sending = some (w, t0)) (htx : (s.spi u).tx = []) (hroom : (s.spi u).rx.length < 8)
    (hfed : s.inputFed (18 + 4 * u) = true) : Runs (.peripheralDone (.spiFrame u data)) s fun t =>
      t.spi u = { s.spi u with rx := (s.spi u).rx ++ [BitVec.ofNat 32 (s.spiOrder u data.toNat)], sending := none } ∧
      t.f F.SPI_STATUS_DONE u = 1 ∧ t.f F.SPI_STATUS_BUSY u = 0 ∧ t.time = (s.advanceTo (s.spiUntil u t0)).time ∧
      Kept s t [(.SPI_STATUS, u)] [.clock, .periph] := by
  refine Runs.of_effect (R := [(.SPI_STATUS, u)]) (A := [.clock, .periph]) (f := fun s => if u < 4 then s.spiEnd u data else s) rfl hs
    ((if_pos hu).trans (State.spiEnd_last hsending htx hroom hfed data))
    ((((Kept.advanceTo ..).trans (Kept.setSpi ..)).trans (Kept.raise ..)).weaken (by simp) (by simp)) (by decide) (by simp [calmRegs])
    fun t hq hk => ⟨?_, ?_, ?_, ?_, hk⟩
  · rw [hq.spi_eq, State.spi_raise, State.spi_setSpi]
  · rw [hq.f_eq rfl, State.f_raise_same _ _ _ (by decide) (by decide)]
  · rw [hq.f_eq rfl, State.raise, State.f_setF_otherField _ (by decide) (by decide), State.spiBusy_setSpi]
    rfl
  · rw [hq.time_eq, State.raise_time, State.time_setSpi]

-- ------------------------------------------------------------------ UARTs that send

section
variable (s : State) (u : Nat)

@[simp] theorem State.uart_setF (F : Fld) (i v k : Nat) : (s.setF F i v).uart k = s.uart k := rfl
@[simp] theorem State.uart_raise (F : Fld) (i k : Nat) : (s.raise F i).uart k = s.uart k := rfl
@[simp] theorem State.uart_emit (o : Out) (k : Nat) : (s.emit o).uart k = s.uart k := rfl
@[simp] theorem State.uart_setUart (v : UartUnit) : (s.setUart u v).uart u = v := Sparse.get_set_same ..

theorem Kept.setUart (v : UartUnit) : Kept s (s.setUart u v) [(.UART_STATUS, u)] [.periph] :=
  ((((Kept.putPeriph ..).trans (Kept.setF ..)).trans (Kept.setF ..)).trans (Kept.setF ..)).weaken (by simp) (by simp)

@[simp] theorem State.out_setUart (v : UartUnit) : (s.setUart u v).out = s.out := by simp [State.setUart]
@[simp] theorem State.time_setUart (v : UartUnit) : (s.setUart u v).time = s.time := by simp [State.setUart]

/-- TX_BUSY and the FIFO levels follow; the other bits of STATUS stay. -/
theorem State.f_setUart (v : UartUnit) {G : Fld} (h : 1 ≤ G.lo ∧ G.lo + G.width ≤ 8) (j : Nat) : (s.setUart u v).f G j = s.f G j := by
  rw [State.setUart, State.f_setF_otherField _ (by decide) (.inl (Nat.le_trans h.2 (by decide))),
    State.f_setF_otherField _ (by decide) (.inl h.2), State.f_setF_otherField _ (F := F.UART_STATUS_TX_BUSY) (by decide) (.inr h.1)]
  rfl

theorem State.uartBusy_setUart (v : UartUnit) : (s.setUart u v).f F.UART_STATUS_TX_BUSY u = if v.sending.isSome then 1 else 0 := by
  rw [State.setUart, State.f_setF_otherField _ (by decide) (by decide), State.f_setF_otherField _ (by decide) (by decide),
    State.f_setF_same _ _ _ _ (by decide)]
  split <;> rfl

end

theorem Kept.uart_eq {u t : State} (h : Kept u t [] []) (k : Nat) : t.uart k = u.uart k := by
  rw [State.uart, h.areas .periph List.not_mem_nil, State.uart]

/-- The frame of a byte follows UART.CTRL. -/
theorem Kept.uartFrame_eq {s t : State} {R : Regs} {A : List Area} (h : Kept s t R A) {u : Nat} (hR : (Reg.UART_CTRL, u) ∉ R) (b : Byte) :
    t.uartFrame u b = s.uartFrame u b := by
  have hfield (F : Fld) (hr : F.reg = .UART_CTRL) : t.f F u = s.f F u := h.f F u (by rw [hr]; rfl) (by rw [hr]; exact hR)
  simp only [State.uartFrame, State.uartBits, State.on, hfield F.UART_CTRL_DATA rfl, hfield F.UART_CTRL_PARITY rfl,
    hfield F.UART_CTRL_STOP2 rfl]
  rfl

/-- A byte begins on a UART that sends nothing and waits for no CTS#. -/
theorem State.uartPump_one {s : State} {u : Nat} {b : Byte} (htx : (s.uart u).tx = [b]) (hidle : (s.uart u).sending = none)
    (hen : s.f F.UART_CTRL_EN u = 1) (hflow : s.f F.UART_CTRL_FLOW u = 0) : s.uartPump u =
      (s.setUart u { s.uart u with tx := [], sending := some (b, s.time) }).emit
        (.serial (.uart u) [BitVec.ofNat 32 (bitsNum (s.uartFrame u b))]) := by
  rw [State.uartPump, htx, hidle]
  exact if_pos (by simp [State.on, hen, hflow])

theorem State.txPush_uart_begins {s : State} {u : Nat} (hidle : (s.uart u).sending = none) (htx : (s.uart u).tx = [])
    (hen : s.f F.UART_CTRL_EN u = 1) (hflow : s.f F.UART_CTRL_FLOW u = 0) (data : Word) : s.txPush (.uart u) data =
      ((s.setUart u { s.uart u with tx := [data.setWidth 8] }).setUart u { s.uart u with sending := some (data.setWidth 8, s.time) }).emit
        (.serial (.uart u) [BitVec.ofNat 32 (bitsNum (s.uartFrame u (data.setWidth 8)))]) := by
  have hset := Kept.setUart s u { s.uart u with tx := [data.setWidth 8] }
  have hw : (s.setUart u { s.uart u with tx := [data.setWidth 8] }).uart u = { s.uart u with tx := [data.setWidth 8] } := State.uart_setUart ..
  have hrest : ({ s.uart u with tx := [], sending := some (data.setWidth 8, s.time) } : UartUnit) =
      { s.uart u with sending := some (data.setWidth 8, s.time) } := by rw [← htx]
  rw [State.txPush, htx, List.length_nil, if_pos (by decide), List.nil_append, State.uartPump_one (b := data.setWidth 8) (by rw [hw])
    (by rw [hw]; exact hidle) ((hset.f _ _ rfl (by simp)).trans hen) ((hset.f _ _ rfl (by simp)).trans hflow), hw, State.time_setUart,
    hset.uartFrame_eq (by simp), ← hrest]

theorem Runs.uartBegins {s : State} {u : Nat} {data : Word} (hs : s.ready = true) (hu : u < 4) (hidle : (s.uart u).sending = none)
    (htx : (s.uart u).tx = []) (hen : s.f F.UART_CTRL_EN u = 1) (hflow : s.f F.UART_CTRL_FLOW u = 0) :
    Runs (.txdata (.uart u) data) s fun t =>
      t.uart u = { s.uart u with sending := some (data.setWidth 8, s.time) } ∧ t.f F.UART_STATUS_TX_BUSY u = 1 ∧
      SentOut s t [.serial (.uart u) [BitVec.ofNat 32 (bitsNum (s.uartFrame u (data.setWidth 8)))]] ∧
      Kept s t [(.UART_STATUS, u)] [.periph, .out] := by
  refine Runs.pushes (R := [(.UART_STATUS, u)]) (A := [.periph, .out]) hs (decide_eq_true hu)
    (State.txPush_uart_begins hidle htx hen hflow data)
    ((((Kept.setUart ..).trans (Kept.setUart ..)).trans (Kept.emit ..)).weaken (by simp) (by simp)) (by decide) (by simp [calmRegs])
    fun t hq hk => ⟨?_, ?_, SentOut.of_quiet hq ?_, hk⟩
  · rw [hq.uart_eq, State.uart_emit, State.uart_setUart]
  · rw [hq.f_eq rfl, State.emit_f, State.uartBusy_setUart]
    rfl
  · rw [State.out_emit, State.out_setUart, State.out_setUart]

theorem State.uartEnd_last {s : State} {u : Nat} {b : Byte} {t0 : DWord} (hsending : (s.uart u).sending = some (b, t0))
    (htx : (s.uart u).tx = []) : s.uartEnd u =
      ((s.advanceTo (t0 + BitVec.ofNat 64 (s.uartTicks u (s.uartFrame u b).length))).setUart u { s.uart u with sending := none }).raise
        F.UART_STATUS_TX_DONE u := by
  rw [State.uartEnd, hsending]
  dsimp only
  rw [htx, if_pos (by decide)]

theorem Runs.uartByteEnds {s : State} {u : Nat} {b : Byte} {t0 : DWord} (hs : s.ready = true) (hu : u < 4)
    (hsending : (s.uart u).sending = some (b, t0)) (htx : (s.uart u).tx = []) : Runs (.peripheralDone (.uartByte u)) s fun t =>
      t.uart u = { s.uart u with sending := none } ∧ t.f F.UART_STATUS_TX_DONE u = 1 ∧ t.f F.UART_STATUS_TX_BUSY u = 0 ∧
      t.time = (s.advanceTo (t0 + BitVec.ofNat 64 (s.uartTicks u (s.uartFrame u b).length))).time ∧
      Kept s t [(.UART_STATUS, u)] [.clock, .periph] := by
  refine Runs.of_effect (R := [(.UART_STATUS, u)]) (A := [.clock, .periph]) (f := fun s => if u < 4 then s.uartEnd u else s) rfl hs
    ((if_pos hu).trans (State.uartEnd_last hsending htx))
    ((((Kept.advanceTo ..).trans (Kept.setUart ..)).trans (Kept.raise ..)).weaken (by simp) (by simp)) (by decide) (by simp [calmRegs])
    fun t hq hk => ⟨?_, ?_, ?_, ?_, hk⟩
  · rw [hq.uart_eq, State.uart_raise, State.uart_setUart]
  · rw [hq.f_eq rfl, State.f_raise_same _ _ _ (by decide) (by decide)]
  · rw [hq.f_eq rfl, State.raise, State.f_setF_otherField _ (by decide) (by decide), State.uartBusy_setUart]
    rfl
  · rw [hq.time_eq, State.raise_time, State.time_setUart]

-- ------------------------------------------------------------------ UARTs that receive (R398)

/-- The bits of a character, those that are missing being high. -/
def uartBit (bits : List Bool) (i : Nat) : Bool := bits.getD i true

/-- The data bits of a character. -/
def State.uartGot (s : State) (u : Nat) (bits : List Bool) : List Bool := (List.range (s.uartBits u)).map (uartBit bits)

/-- Where the first stop bit of a character stands. -/
def State.uartStop (s : State) (u : Nat) : Nat := if s.f F.UART_CTRL_PARITY u = 0 then s.uartBits u else s.uartBits u + 1

/-- A character all of whose bits are low. -/
def State.uartBroken (s : State) (u : Nat) (bits : List Bool) : Bool :=
  !uartBit bits (s.uartStop u) && !((List.range (s.uartStop u)).map (uartBit bits)).any id

/-- A character with a low stop bit. -/
def State.uartUnframed (s : State) (u : Nat) (bits : List Bool) : Bool := !uartBit bits (s.uartStop u) && !s.uartBroken u bits

/-- A character whose parity bit is wrong. -/
def State.uartOdd (s : State) (u : Nat) (bits : List Bool) : Bool :=
  s.f F.UART_CTRL_PARITY u != 0 &&
    uartBit bits (s.uartBits u) != parityBit (s.f F.UART_CTRL_PARITY u == 2) (s.uartGot u bits) && !s.uartBroken u bits

/-- The errors of a character, as STATUS keeps them. -/
def State.uartErrs (s : State) (u : Nat) (parity frame brk : Bool) : State :=
  let s := if parity then s.raise F.UART_STATUS_PARITY u else s
  let s := if frame then s.raise F.UART_STATUS_FRAME u else s
  if brk then s.raise F.UART_STATUS_BREAK u else s

/-- The entry of a character in the FIFO. -/
def uartEntry (data : List Bool) (parity frame brk : Bool) : BitVec 11 :=
  BitVec.ofNat 11 (bitsNum data + (if parity then 256 else 0) + (if frame then 512 else 0) + (if brk then 1024 else 0))

/-- A character's entry enters the FIFO, or is lost. -/
def State.uartKeeps (s : State) (u : Nat) (e : BitVec 11) : State :=
  if (s.uart u).rx.length < 32 then s.setUart u { s.uart u with rx := (s.uart u).rx ++ [e] } else s.raise F.UART_STATUS_RX_OVERFLOW u

theorem Kept.uartErrs (s : State) (u : Nat) (parity frame brk : Bool) : Kept s (s.uartErrs u parity frame brk) [(.UART_STATUS, u)] [] := by
  have hraise (b : Bool) (v : State) (G : Fld) (hG : G.reg = .UART_STATUS) : Kept v (if b then v.raise G u else v) [(.UART_STATUS, u)] [] := by
    split
    · exact hG ▸ Kept.raise ..
    · exact Kept.start ..
  exact (((hraise parity s _ rfl).trans (hraise frame _ _ rfl)).trans (hraise brk _ _ rfl)).weaken (by simp) (by simp)

theorem State.uart_uartErrs (s : State) (u : Nat) (parity frame brk : Bool) (k : Nat) : (s.uartErrs u parity frame brk).uart k = s.uart k := by
  cases parity <;> cases frame <;> cases brk <;> rfl

theorem State.uartByte_eq {s : State} {u : Nat} (hen : s.f F.UART_CTRL_EN u = 1) (hfed : s.inputFed (33 + 4 * u) = true) (bits : List Bool) :
    s.uartByte u bits = (s.uartErrs u (s.uartOdd u bits) (s.uartUnframed u bits) (s.uartBroken u bits)).uartKeeps u
      (uartEntry (s.uartGot u bits) (s.uartOdd u bits) (s.uartUnframed u bits) (s.uartBroken u bits)) := by
  have hcode : 32 + 4 * u + 1 = 33 + 4 * u := by omega
  have htake (k : Nat) (hk : k ≤ s.uartBits u + 2) :
      ((List.range (s.uartBits u + 2)).map fun i => bits.getD i true).take k = (List.range k).map (uartBit bits) := by
    rw [← List.map_take, List.take_range, Nat.min_eq_left hk]
    rfl
  have hget (k : Nat) (hk : k < s.uartBits u + 2) :
      ((List.range (s.uartBits u + 2)).map fun i => bits.getD i true).getD k true = uartBit bits k := by
    rw [List.getD_eq_getElem _ _ (by simpa using hk)]
    simp [uartBit]
  have hstop : (if s.f F.UART_CTRL_PARITY u = 0 then s.uartBits u else s.uartBits u + 1) = s.uartStop u := rfl
  have hstop' : s.uartStop u < s.uartBits u + 2 := by
    rw [← hstop]
    split <;> omega
  rw [State.uartByte, hcode, if_neg (by simp [State.on, hen, hfed])]
  simp only [hstop, htake _ hstop'.le, htake _ (Nat.le_add_right _ 2), hget _ hstop', hget _ (show s.uartBits u < s.uartBits u + 2 by omega)]
  rw [State.uartKeeps, State.uart_uartErrs]
  rfl

/-- A field of STATUS after a bit of its own, or of another place, is raised under a condition. -/
theorem State.f_raiseIf (s : State) (u : Nat) (b : Bool) {G H : Fld} (hG : G.lo + G.width ≤ 32) (hH : 0 < H.width)
    (h : G = H ∨ H.lo + H.width ≤ G.lo ∨ G.lo + G.width ≤ H.lo) :
    (if b then s.raise G u else s).f H u = if b && decide (G = H) then 1 else s.f H u := by
  cases b
  · rfl
  · by_cases hsame : G = H
    · subst hsame
      rw [if_pos rfl, if_pos (by simp), State.f_raise_same _ _ _ hG hH]
    · rw [if_pos rfl, if_neg (by simp [hsame]), State.raise, State.f_setF_otherField _ hG (h.resolve_left hsame)]

theorem State.f_uartErrs (s : State) (u : Nat) (parity frame brk : Bool) :
    (s.uartErrs u parity frame brk).f F.UART_STATUS_PARITY u = (if parity then 1 else s.f F.UART_STATUS_PARITY u) ∧
    (s.uartErrs u parity frame brk).f F.UART_STATUS_FRAME u = (if frame then 1 else s.f F.UART_STATUS_FRAME u) ∧
    (s.uartErrs u parity frame brk).f F.UART_STATUS_BREAK u = (if brk then 1 else s.f F.UART_STATUS_BREAK u) := by
  refine ⟨?_, ?_, ?_⟩ <;> dsimp only [State.uartErrs] <;>
    rw [State.f_raiseIf _ _ _ (by decide) (by decide) (by decide), State.f_raiseIf _ _ _ (by decide) (by decide) (by decide),
      State.f_raiseIf _ _ _ (by decide) (by decide) (by decide)] <;> simp

theorem Kept.uartKeeps (s : State) (u : Nat) (e : BitVec 11) : Kept s (s.uartKeeps u e) [(.UART_STATUS, u)] [.periph] := by
  unfold State.uartKeeps
  split
  · exact Kept.setUart ..
  · exact (Kept.raise ..).weaken (by simp) (by simp)

/-- What a character leaves of a UART. -/
theorem State.uartKeeps_unit (s : State) (u : Nat) (e : BitVec 11) :
    (s.uartKeeps u e).uart u = { s.uart u with rx := if (s.uart u).rx.length < 32 then (s.uart u).rx ++ [e] else (s.uart u).rx } := by
  unfold State.uartKeeps
  split <;> simp

theorem State.f_uartKeeps (s : State) (u : Nat) (e : BitVec 11) {G : Fld} (h : 3 ≤ G.lo ∧ G.lo + G.width ≤ 8) :
    (s.uartKeeps u e).f G u = s.f G u := by
  unfold State.uartKeeps
  split
  · exact State.f_setUart _ _ _ ⟨by omega, h.2⟩ _
  · exact State.f_setF_otherField _ (F := F.UART_STATUS_RX_OVERFLOW) (by decide) (.inr h.1) ..

theorem State.uartKeeps_over {s : State} {u : Nat} (h : 32 ≤ (s.uart u).rx.length) (e : BitVec 11) :
    (s.uartKeeps u e).f F.UART_STATUS_RX_OVERFLOW u = 1 := by
  rw [State.uartKeeps, if_neg (by omega), State.f_raise_same _ _ _ (by decide) (by decide)]

/-- A character that a UART receives, with the errors and the entry it makes. -/
theorem Runs.uartReceives {s : State} {u : Nat} {bits : List Bool} {parity frame brk : Bool} {e : BitVec 11} (hs : s.ready = true) (hu : u < 4)
    (hen : s.f F.UART_CTRL_EN u = 1) (hfed : s.inputFed (33 + 4 * u) = true) (hodd : s.uartOdd u bits = parity)
    (hframe : s.uartUnframed u bits = frame) (hbrk : s.uartBroken u bits = brk) (he : uartEntry (s.uartGot u bits) parity frame brk = e) :
    Runs (.rxByte u bits) s fun t =>
      t.uart u = { s.uart u with rx := if (s.uart u).rx.length < 32 then (s.uart u).rx ++ [e] else (s.uart u).rx } ∧
      (32 ≤ (s.uart u).rx.length → t.f F.UART_STATUS_RX_OVERFLOW u = 1) ∧
      t.f F.UART_STATUS_PARITY u = (if parity then 1 else s.f F.UART_STATUS_PARITY u) ∧
      t.f F.UART_STATUS_FRAME u = (if frame then 1 else s.f F.UART_STATUS_FRAME u) ∧
      t.f F.UART_STATUS_BREAK u = (if brk then 1 else s.f F.UART_STATUS_BREAK u) ∧
      Kept s t [(.UART_STATUS, u)] [.periph] := by
  have hf := State.uartByte_eq hen hfed bits
  rw [hodd, hframe, hbrk, he] at hf
  obtain ⟨hparity, hframed, hbroken⟩ := s.f_uartErrs u parity frame brk
  have hunit := s.uart_uartErrs u parity frame brk u
  refine Runs.of_effect (R := [(.UART_STATUS, u)]) (A := [.periph]) (f := fun s => if u < 4 then s.uartByte u bits else s) rfl hs
    ((if_pos hu).trans hf) (((Kept.uartErrs ..).trans (Kept.uartKeeps ..)).weaken (by simp) (by simp)) (by decide) (by simp [calmRegs])
    fun t hq hk => ⟨?_, fun hfull => ?_, ?_, ?_, ?_, hk⟩
  · rw [hq.uart_eq, State.uartKeeps_unit, hunit]
  · rw [hq.f_eq rfl, State.uartKeeps_over (by rw [hunit]; exact hfull)]
  · rw [hq.f_eq rfl, State.f_uartKeeps _ _ _ (by decide), hparity]
  · rw [hq.f_eq rfl, State.f_uartKeeps _ _ _ (by decide), hframed]
  · rw [hq.f_eq rfl, State.f_uartKeeps _ _ _ (by decide), hbroken]

-- ------------------------------------------------------------------ the characters (R398)

theorem bitsNum_cons (b : Bool) (l : List Bool) : bitsNum (b :: l) = 2 * bitsNum l + if b then 1 else 0 := rfl

/-- The low bits of a number, as a number. -/
theorem bitsNum_testBit (x n : Nat) : bitsNum ((List.range n).map x.testBit) = x % 2 ^ n := by
  induction n generalizing x with
  | zero => exact (Nat.mod_one x).symm
  | succ n ih =>
    have hhalf : ((List.range n).map Nat.succ).map x.testBit = (List.range n).map (x / 2).testBit := by
      simp [Nat.testBit_succ]
    rw [List.range_succ_eq_map, List.map_cons, hhalf, bitsNum_cons, ih, Nat.testBit_zero, Nat.pow_succ', Nat.mod_mul]
    have hbit := Nat.mod_two_eq_zero_or_one x
    rcases hbit with h | h <;> simp [h]
    omega

theorem bitsNum_low {l : List Bool} (h : l.any id = false) : bitsNum l = 0 := by
  induction l with
  | nil => rfl
  | cons b l ih =>
    simp only [List.any_cons, Bool.or_eq_false_iff, id] at h
    rw [bitsNum_cons, ih h.2, h.1]
    rfl

theorem State.uartData_num (s : State) (u : Nat) (b : Byte) : bitsNum (s.uartData u b) = b.toNat % 2 ^ (5 + s.f F.UART_CTRL_DATA u) :=
  bitsNum_testBit ..

theorem State.length_uartData (s : State) (u : Nat) (b : Byte) : (s.uartData u b).length = s.uartBits u := by
  rw [State.uartData, List.length_map, List.length_range]

theorem uartBit_append (l rest : List Bool) (k : Nat) : uartBit (l ++ rest) (l.length + k) = uartBit rest k := by
  rw [uartBit, List.getD_append_right _ _ _ _ (Nat.le_add_right ..), Nat.add_sub_cancel_left, uartBit]

/-- The data bits of a character come first. -/
theorem State.uartGot_data (s : State) (u : Nat) (b : Byte) (rest : List Bool) : s.uartGot u (s.uartData u b ++ rest) = s.uartData u b := by
  rw [State.uartGot, State.uartData]
  refine List.map_congr_left fun i hi => ?_
  have hlt : i < s.uartBits u := List.mem_range.1 hi
  rw [uartBit, List.getD_append _ _ _ _ (by simpa using hlt), List.getD_eq_getElem _ _ (by simpa using hlt)]
  simp

/-- The bits of a character after its start bit. -/
theorem State.uartFrame_tail (s : State) (u : Nat) (b : Byte) : (s.uartFrame u b).tail = s.uartData u b ++
    ((if s.f F.UART_CTRL_PARITY u = 0 then [] else [parityBit (s.f F.UART_CTRL_PARITY u == 2) (s.uartData u b)]) ++
      if s.on F.UART_CTRL_STOP2 u then [true, true] else [true]) := by
  simp [State.uartFrame, State.uartData]

theorem State.uartFrame_stop (s : State) (u : Nat) (b : Byte) : uartBit (s.uartFrame u b).tail (s.uartStop u) = true := by
  rw [State.uartFrame_tail, State.uartStop]
  split
  · rw [← s.length_uartData u b, ← Nat.add_zero (s.uartData u b).length, uartBit_append]
    split <;> rfl
  · rw [← s.length_uartData u b, uartBit_append]
    split <;> rfl

/-- A character as a UART of the same settings sends it has no error. -/
theorem State.uartFrame_clean (s : State) (u : Nat) (b : Byte) : s.uartOdd u (s.uartFrame u b).tail = false ∧
    s.uartUnframed u (s.uartFrame u b).tail = false ∧ s.uartBroken u (s.uartFrame u b).tail = false := by
  have hstop := s.uartFrame_stop u b
  refine ⟨?_, by simp [State.uartUnframed, hstop], by simp [State.uartBroken, hstop]⟩
  by_cases hkind : s.f F.UART_CTRL_PARITY u = 0
  · simp [State.uartOdd, hkind]
  · have hgot := s.uartGot_data u b
    have hbit : uartBit (s.uartFrame u b).tail (s.uartBits u) = parityBit (s.f F.UART_CTRL_PARITY u == 2) (s.uartData u b) := by
      rw [State.uartFrame_tail, ← s.length_uartData u b, ← Nat.add_zero (s.uartData u b).length, uartBit_append, if_neg hkind]
      rfl
    rw [State.uartOdd, hbit, State.uartFrame_tail, hgot]
    simp

section
variable (s : State) (u : Nat) (b : Byte) (stop : Bool) (hkind : s.f F.UART_CTRL_PARITY u ≠ 0)
  (hdata : b.toNat % 2 ^ (5 + s.f F.UART_CTRL_DATA u) ≠ 0)

/-- A character whose parity bit is wrong. -/
def State.uartFlipped : List Bool := s.uartData u b ++ [!parityBit (s.f F.UART_CTRL_PARITY u == 2) (s.uartData u b), stop]

include hkind hdata

theorem State.uartFlipped_bits : uartBit (s.uartFlipped u b stop) (s.uartStop u) = stop ∧ s.uartBroken u (s.uartFlipped u b stop) = false := by
  have hlength := s.length_uartData u b
  refine ⟨?_, ?_⟩
  · rw [State.uartStop, if_neg hkind, State.uartFlipped, ← hlength, uartBit_append]
    rfl
  · rw [State.uartBroken, State.uartStop, if_neg hkind, List.range_succ, List.map_append, List.any_append, ← State.uartGot,
      State.uartFlipped, State.uartGot_data]
    cases hlow : (s.uartData u b).any id
    · exact absurd ((s.uartData_num u b).symm.trans (bitsNum_low hlow)) hdata
    · simp

theorem State.uartFlipped_errs : s.uartOdd u (s.uartFlipped u b stop) = true ∧ s.uartUnframed u (s.uartFlipped u b stop) = !stop := by
  obtain ⟨hstop, hbroken⟩ := s.uartFlipped_bits u b stop hkind hdata
  have hbit : uartBit (s.uartFlipped u b stop) (s.uartBits u) = !parityBit (s.f F.UART_CTRL_PARITY u == 2) (s.uartData u b) := by
    rw [State.uartFlipped, ← s.length_uartData u b]
    exact uartBit_append _ _ 0
  have hgot : s.uartGot u (s.uartFlipped u b stop) = s.uartData u b := s.uartGot_data ..
  refine ⟨?_, by simp [State.uartUnframed, hstop, hbroken]⟩
  rw [State.uartOdd, hbit, hgot, hbroken]
  simp [hkind]

end

/-- A break of as many bits as a character has at most. -/
theorem State.uartLow_breaks (s : State) (u : Nat) : s.uartBroken u (List.replicate 12 false) = true := by
  have hlow (i : Nat) (hi : i < 12) : uartBit (List.replicate 12 false) i = false := by
    rw [uartBit, List.getD_replicate _ hi]
  have hbits : s.uartStop u < 12 := by
    have hfield : s.f F.UART_CTRL_DATA u < 4 := fieldOf_lt ..
    rw [State.uartStop, State.uartBits]
    split <;> omega
  have hall : ((List.range (s.uartStop u)).map (uartBit (List.replicate 12 false))).any id = false := by
    rw [List.any_eq_false]
    intro x hx
    obtain ⟨i, hi, rfl⟩ := List.mem_map.1 hx
    rw [hlow i (Nat.lt_trans (List.mem_range.1 hi) hbits)]
    decide
  rw [State.uartBroken, hlow _ hbits, hall]
  rfl

theorem State.uartLow_got (s : State) (u : Nat) : bitsNum (s.uartGot u (List.replicate 12 false)) = 0 := by
  refine bitsNum_low (List.any_eq_false.2 fun x hx => ?_)
  obtain ⟨i, hi, rfl⟩ := List.mem_map.1 hx
  have hfield : s.f F.UART_CTRL_DATA u < 4 := fieldOf_lt ..
  have hlt : i < 5 + s.f F.UART_CTRL_DATA u := List.mem_range.1 hi
  rw [uartBit, List.getD_replicate _ (by omega)]
  decide

-- ------------------------------------------------------------------ RXDATA (R412)

theorem Kept.setPmb (s : State) (v : PmbUnit) : Kept s (s.setPmb v) [(.PMB_STATUS, 0)] [.periph] :=
  (((Kept.putPeriph ..).trans (Kept.setF ..)).trans (Kept.setF ..)).weaken (by simp) (by simp)

theorem State.pmb_setPmb (s : State) (v : PmbUnit) : (s.setPmb v).periph.pmb = v := by simp [State.setPmb]

/-- A read of RXDATA of a unit that is there. -/
theorem Runs.pops {s e : State} {x : Periph} {r : Reg} {i : Nat} {P : State → Prop} (hs : s.ready = true) (hx : periphUnit x = true)
    (hf : s.rxPop x = e) (k : Kept s e [(r, i)] [.periph]) (hr : r ∉ calmRegs)
    (hP : ∀ t, Kept e t [] [] → Kept s t [(r, i)] [.periph] → P t) : Runs (.rxdata x) s P :=
  Runs.of_effect (f := fun s => if periphUnit x then s.rxPop x else s) rfl hs ((if_pos hx).trans hf) k (by decide) (by simpa using hr) hP

/-- Settles O45: the unit's own FIFO and STATUS, its lines, and the tick at which its bits are done. -/
theorem serialUnits : Obligations.SerialUnits := by
  unfold Obligations.SerialUnits
  refine ⟨fun s who u data hs hu hgo hbad => ?_,
    fun s who u data hs hu hgo hidle htarget hen htx => Runs.i2cGo hs hu hgo hidle htarget hen htx,
    fun s u b hs hu hbusy hfed hread hleft hroom => Runs.i2cReceives hs hu hbusy hfed hread hleft hroom,
    fun s u x b hs hu hbusy hfed hx => Runs.i2cEndings hs hu hbusy hfed hx,
    fun s u addr b hs hu hen htarget hown hfed => ⟨Runs.i2cAddressedWrite hs hu ⟨hen, htarget, hown, hfed⟩ b,
      Runs.i2cAddressedRead hs hu ⟨hen, htarget, hown, hfed⟩ b.length⟩,
    fun s u data hs hu hbusy hread htx hleft => Runs.i2cSends hs hu hbusy hread htx hleft,
    fun s u data hs hu hidle => Runs.i2cQueues hs hu hidle,
    fun s u data hs hu hidle htx hen => Runs.spiBegins hs hu hidle htx hen,
    fun s u data hs hu hsending => Runs.spiQueues hs hu hsending,
    fun s u data w t0 hs hu hsending htx hroom hfed => Runs.spiFrameEnds hs hu hsending htx hroom hfed,
    fun s u data hs hu hidle htx hen hflow => Runs.uartBegins hs hu hidle htx hen hflow,
    fun s u b t0 hs hu hsending htx => Runs.uartByteEnds hs hu hsending htx,
    fun s u b hs hu hen hfed => ?_, fun s u b stop hs hu hen hfed hroom hkind hdata => ?_, fun s u hs hu hen hfed hroom => ?_,
    fun s u hs hu => ⟨?_, ?_, ?_, ?_⟩⟩
  · have hrefused : s.writeI2cCmd who u data = s.periphRefused who F.I2C_STATUS_CMD_REFUSED .command .I2C_CMD u data :=
      if_pos (by rcases hbad with h | h | h <;> simp [hgo, State.on, h])
    exact Runs.of_refusal (f := fun s => if u < 4 then s.writeI2cCmd who u data else s) rfl hs ((if_pos hu).trans hrefused) rfl
      (by decide) (by decide)
  · obtain ⟨hodd, hframe, hbroken⟩ := s.uartFrame_clean u b
    have hgot : s.uartGot u (s.uartFrame u b).tail = s.uartData u b := by rw [State.uartFrame_tail, State.uartGot_data]
    have he : uartEntry (s.uartGot u (s.uartFrame u b).tail) false false false =
        BitVec.ofNat 11 (b.toNat % 2 ^ (5 + s.f F.UART_CTRL_DATA u)) := by
      rw [hgot, uartEntry, State.uartData_num]
      rfl
    refine (Runs.uartReceives hs hu hen hfed hodd hframe hbroken he).imp fun t ⟨hstep, hunit, hover, _, _, _, hk⟩ =>
      ⟨hstep, ?_, hover, ?_, ?_, hk⟩ <;> rw [hunit]
  · obtain ⟨hodd, hframe⟩ := s.uartFlipped_errs u b stop hkind hdata
    have he : uartEntry (s.uartGot u (s.uartFlipped u b stop)) true (!stop) false =
        BitVec.ofNat 11 (b.toNat % 2 ^ (5 + s.f F.UART_CTRL_DATA u) + 256 + if stop then 0 else 512) := by
      rw [State.uartFlipped, State.uartGot_data, uartEntry, State.uartData_num]
      cases stop <;> rfl
    refine (Runs.uartReceives hs hu hen hfed hodd hframe (s.uartFlipped_bits u b stop hkind hdata).2 he).imp
      fun t ⟨hstep, hunit, _, hparity, hframed, _, hk⟩ => ⟨hstep, ?_, hparity, fun h => ?_, fun h => ?_, hk⟩
    · rw [hunit, if_pos hroom]
    · rw [hframed, h]
      rfl
    · rw [hframed, h]
      rfl
  · have hbroken := s.uartLow_breaks u
    have hodd : s.uartOdd u (List.replicate 12 false) = false := by rw [State.uartOdd, hbroken, Bool.not_true, Bool.and_false]
    have hframe : s.uartUnframed u (List.replicate 12 false) = false := by rw [State.uartUnframed, hbroken, Bool.not_true, Bool.and_false]
    have he : uartEntry (s.uartGot u (List.replicate 12 false)) false false true = 0x400#11 := by
      rw [uartEntry, State.uartLow_got]
      rfl
    refine (Runs.uartReceives hs hu hen hfed hodd hframe hbroken he).imp
      fun t ⟨hstep, hunit, _, hparity, hframed, hbreak, hk⟩ => ⟨hstep, ?_, hbreak, hframed, hparity, hk⟩
    rw [hunit, if_pos hroom]
  · refine Runs.pops hs (decide_eq_true hu) rfl (Kept.setI2c ..) (by decide) fun t hq hk => ⟨?_, hk⟩
    rw [hq.i2c_eq, State.rxPop, State.i2c_setI2c]
  · refine Runs.pops hs (decide_eq_true hu) rfl (Kept.setSpi ..) (by decide) fun t hq hk => ⟨?_, hk⟩
    rw [hq.spi_eq, State.rxPop, State.spi_setSpi]
  · refine Runs.pops hs (decide_eq_true hu) rfl (Kept.setUart ..) (by decide) fun t hq hk => ⟨?_, hk⟩
    rw [hq.uart_eq, State.rxPop, State.uart_setUart]
  · refine Runs.pops hs rfl rfl (Kept.setPmb ..) (by decide) fun t hq hk => ⟨?_, hk⟩
    rw [hq.areas .periph List.not_mem_nil, State.rxPop, State.pmb_setPmb]

end Sys2Proof.Machine
end

section
/-! PROOF. Receive and transmit streams of the serial lanes, their PLL and the eye scan (R308, R310, R312 to R314, R317, R320,
R321, R325, R326). -/

namespace Sys2Proof.Machine

-- ------------------------------------------------------------------ fields of a word

theorem word_eq_of_testBit {v w : Word} (h : ∀ i, v.toNat.testBit i = w.toNat.testBit i) : v = w :=
  BitVec.eq_of_toNat_eq (Nat.eq_of_testBit_eq h)

/-- Fields of different places are replaced in any order. -/
theorem withField_comm (v : Word) {lo w lo' w' : Nat} (x y : Nat) (h : lo + w ≤ 32) (h' : lo' + w' ≤ 32) (hd : lo + w ≤ lo' ∨ lo' + w' ≤ lo) :
    withField (withField v lo w x) lo' w' y = withField (withField v lo' w' y) lo w x := by
  refine word_eq_of_testBit fun i => ?_
  rw [withField_testBit _ _ h', withField_testBit _ _ h, withField_testBit _ _ h, withField_testBit _ _ h']
  by_cases hi : lo ≤ i ∧ i < lo + w
  · have hother : ¬ (lo' ≤ i ∧ i < lo' + w') := by omega
    simp [hi, hother]
  · simp [hi]

/-- A field set to the value it holds. -/
theorem withField_self (v : Word) {lo w x : Nat} (h : lo + w ≤ 32) (hx : fieldOf v lo w = x) : withField v lo w x = v := by
  refine word_eq_of_testBit fun i => ?_
  rw [withField_testBit _ _ h, ← hx, fieldOf_testBit]
  split
  · next hi =>
    have hsub : lo + (i - lo) = i := by omega
    have hlt : i - lo < w := by omega
    simp [hsub, hlt]
  · rfl

-- ------------------------------------------------------------------ lanes

section
variable (s : State) (l : Nat)

theorem State.lane_setLane (v : LaneState) (k : Nat) : (s.setLane l v).lane k = if k = l then v else s.lane k := Sparse.get_set ..

@[simp] theorem State.lane_setLane_same (v : LaneState) : (s.setLane l v).lane l = v := by rw [State.lane_setLane, if_pos rfl]
@[simp] theorem State.lane_setF (F : Fld) (i v k : Nat) : (s.setF F i v).lane k = s.lane k := rfl
@[simp] theorem State.lane_raise (F : Fld) (i k : Nat) : (s.raise F i).lane k = s.lane k := rfl
@[simp] theorem State.lane_count (F : Fld) (i k : Nat) : (s.count F i).lane k = s.lane k := rfl
@[simp] theorem State.lane_setPair (lo hi : Reg) (i v k : Nat) : (s.setPair lo hi i v).lane k = s.lane k := rfl
@[simp] theorem State.lane_pass (n k : Nat) : (s.pass n).lane k = s.lane k := rfl
@[simp] theorem State.lane_advanceTo (t : DWord) (k : Nat) : (s.advanceTo t).lane k = s.lane k := by
  unfold State.advanceTo
  split <;> rfl

end

theorem Kept.lane_eq {u t : State} {R : Regs} {A : List Area} (h : Kept u t R A) (hA : Area.lanes ∉ A) (k : Nat) : t.lane k = u.lane k := by
  rw [State.lane, h.areas .lanes hA, State.lane]

/-- The registers of a quad's settings and state. -/
def quadRegs : List Reg := [.LANE_QUAD_STATUS, .LANE_QUAD_CFG, .LANE_TX_GUARD, .LANE_JESD_CFG, .LANE_SYSREF_CFG, .LANE_ALERT_CTRL,
  .LANE_RX_SIZE, .LANE_TX_SIZE, .LANE_RX_BASE_LO, .LANE_RX_BASE_HI]

/-- An update of lanes that leaves the quads' settings and which lanes started. -/
structure LaneWork (s t : State) (R : Regs) (A : List Area) : Prop where
  kept : Kept s t R A
  started : t.lanes.started = s.lanes.started
  settings : ∀ x ∈ R, x.1 ∉ quadRegs

namespace LaneWork
variable {s t : State} {R : Regs} {A : List Area} (h : LaneWork s t R A)
include h

theorem setting {F : Fld} (hF : F.reg ∈ quadRegs) (hp : isPend F.reg = false) (i : Nat) : t.f F i = s.f F i :=
  h.kept.f F i hp fun hx => h.settings _ hx hF

theorem quadMode (q : Nat) : t.quadMode q = s.quadMode q := h.setting (by decide) rfl q

theorem funcState (q : Nat) : t.funcState (.quad q) = s.funcState (.quad q) :=
  h.setting (F := F.LANE_QUAD_STATUS_STATE) (by decide) rfl q

theorem laneStarted (l : Nat) : t.laneStarted l = s.laneStarted l := by
  rw [State.laneStarted, h.started, h.funcState, State.laneStarted]

theorem rxOn (l : Nat) : t.rxOn l = s.rxOn l := by
  rw [State.rxOn, h.laneStarted, h.setting (by decide) rfl, State.rxOn]

theorem txOn (l : Nat) : t.txOn l = s.txOn l := by
  rw [State.txOn, h.laneStarted, h.setting (by decide) rfl, h.setting (by decide) rfl, State.txOn]

theorem rxChunk (l : Nat) : t.rxChunk l = s.rxChunk l := by rw [State.rxChunk, h.setting (by decide) rfl, State.rxChunk]
theorem txChunk (l : Nat) : t.txChunk l = s.txChunk l := by rw [State.txChunk, h.setting (by decide) rfl, State.txChunk]

omit h in
theorem trans {u v w : State} {R R' : Regs} {A A' : List Area} (h : LaneWork u v R A) (g : LaneWork v w R' A') :
    LaneWork u w (R ++ R') (A ++ A') :=
  ⟨h.kept.trans g.kept, g.started.trans h.started, fun x hx => (List.mem_append.1 hx).elim (h.settings x) (g.settings x)⟩

theorem weaken {R' : Regs} {A' : List Area} (hR : R ⊆ R') (hA : A ⊆ A') (hs : ∀ x ∈ R', x.1 ∉ quadRegs) : LaneWork s t R' A' :=
  ⟨h.kept.weaken hR hA, h.started, hs⟩

end LaneWork

theorem LaneWork.setLane (s : State) (l : Nat) (v : LaneState) : LaneWork s (s.setLane l v) [] [.lanes] :=
  ⟨Kept.setLane .., rfl, by simp⟩

theorem LaneWork.of_kept {s t : State} {R : Regs} {A : List Area} (h : Kept s t R A) (hA : Area.lanes ∉ A) (hR : ∀ x ∈ R, x.1 ∉ quadRegs) :
    LaneWork s t R A := ⟨h, congrArg LanesState.started (h.areas .lanes hA), hR⟩

-- ------------------------------------------------------------------ a receive stream begins (R312)

/-- The registers of a receive stream. -/
def streamRegs (l : Nat) : Regs :=
  [(.LANE_LANE_STATUS, l), (.LANE_RX_BYTES_LO, l), (.LANE_RX_BYTES_HI, l), (.LANE_RX_START_LO, l), (.LANE_RX_START_HI, l)]

theorem Kept.rxBegin (s : State) (l : Nat) : Kept s (s.rxBegin l) (streamRegs l) [.lanes] :=
  (((((Kept.setLane ..).trans (Kept.setPair ..)).trans (Kept.setPair ..)).trans (Kept.raise ..)).trans (Kept.count ..)).weaken
    (by simp [streamRegs]) (by simp)

theorem State.lane_rxBegin (s : State) (l k : Nat) : (s.rxBegin l).lane k =
    if k = l then { s.lane l with part := [], partDrop := false, multiblock := 0 } else s.lane k := by
  simp only [State.rxBegin, State.lane_count, State.lane_raise, State.lane_setPair, State.lane_setLane]

/-- A stream that begins: its lane status, its k and the time of its start. -/
theorem State.rxBegin_shows (s : State) (l : Nat) :
    (s.rxBegin l).word .LANE_LANE_STATUS l = changed (s.word .LANE_LANE_STATUS l)
      [(F.LANE_LANE_STATUS_LINK_UP, 1), (F.LANE_LANE_STATUS_STREAM_SEQ, (s.f F.LANE_LANE_STATUS_STREAM_SEQ l + 1) % 2 ^ 16)] ∧
    (s.rxBegin l).rxK l = 0 ∧ (s.rxBegin l).pair .LANE_RX_START_LO .LANE_RX_START_HI l = s.now.toNat := by
  have hpair (u : State) (lo hi : Reg) (h : lo ≠ .LANE_LANE_STATUS ∧ hi ≠ .LANE_LANE_STATUS) :
      ((u.raise F.LANE_LANE_STATUS_LINK_UP l).count F.LANE_LANE_STATUS_STREAM_SEQ l).pair lo hi l = u.pair lo hi l := by
    simp [State.pair, State.word_count, State.word_raise, h.1, h.2]
  refine ⟨?_, ?_, ?_⟩
  · simp [State.rxBegin, State.word_count, State.word_raise, changed, State.f, State.word_setPair, fieldOf_withField_other]
  · simp [State.rxK, State.rxBegin, State.pair, State.word_count, State.word_raise, State.word_setPair]
  · rw [State.rxBegin, hpair _ _ _ (by decide), State.pair_setPair _ _ (by decide) (BitVec.isLt _)]
    rfl

-- ------------------------------------------------------------------ a lane locks (R312, R317)

/-- A lane that locks, before its stream starts. -/
def State.laneLocks (s : State) (l : Nat) (before : BitVec 58) : State :=
  let s := (s.setLane l { s.lane l with line := before }).raise F.LANE_LANE_STATUS_CDR_LOCK l
  if s.quadMode (l / 4) = 3 then s else s.raise F.LANE_LANE_STATUS_BLOCK_LOCK l

theorem State.laneLocks_work (s : State) (l : Nat) (before : BitVec 58) :
    LaneWork s (s.laneLocks l before) [(.LANE_LANE_STATUS, l)] [.lanes] := by
  have hraise (u : State) (F : Fld) (hF : F.reg = .LANE_LANE_STATUS) : LaneWork u (u.raise F l) [(.LANE_LANE_STATUS, l)] [] :=
    .of_kept (hF ▸ Kept.raise ..) (by simp) (by simp [quadRegs])
  have hcdr := (LaneWork.setLane s l { s.lane l with line := before }).trans (hraise _ F.LANE_LANE_STATUS_CDR_LOCK rfl)
  unfold State.laneLocks
  dsimp only
  split
  · exact hcdr.weaken (by simp) (by simp) (by simp [quadRegs])
  · exact (hcdr.trans (hraise _ _ rfl)).weaken (by simp) (by simp) (by simp [quadRegs])

theorem State.lane_laneLocks (s : State) (l : Nat) (before : BitVec 58) :
    (s.laneLocks l before).lane l = { s.lane l with line := before } := by
  unfold State.laneLocks
  dsimp only
  split <;> simp

theorem State.word_laneLocks (s : State) (l : Nat) (before : BitVec 58) :
    (s.laneLocks l before).word .LANE_LANE_STATUS l = changed (s.word .LANE_LANE_STATUS l)
      ((F.LANE_LANE_STATUS_CDR_LOCK, 1) :: if s.quadMode (l / 4) = 3 then [] else [(F.LANE_LANE_STATUS_BLOCK_LOCK, 1)]) := by
  have hmode : ((s.setLane l { s.lane l with line := before }).raise F.LANE_LANE_STATUS_CDR_LOCK l).quadMode (l / 4) = s.quadMode (l / 4) :=
    (State.f_setF_otherReg _ (F := F.LANE_LANE_STATUS_CDR_LOCK) (by decide) ..)
  rw [State.laneLocks, hmode]
  split <;> simp [State.word_raise, changed]

/-- A stream begins as its mode has it: with alignment, with its link group, or at once. -/
def State.streamOn (s : State) (l : Nat) : State :=
  let q := l / 4
  if s.quadMode q = 1 ∧ s.on F.LANE_JESD_CFG_SUBCLASS q then
    match Sparse.get none s.lanes.aligned q with
    | none => s
    | some b =>
      let t := boundaryAfter (b.toNat + s.f F.LANE_SYSREF_CFG_RBD q) (max 1 (s.f F.LANE_LEMC_TICKS q)) s.time.toNat
      (s.advanceTo (BitVec.ofNat 64 t)).rxBegin l
  else if s.quadMode q = 1 then s.linkStart (s.f F.LANE_JESD_CFG_LINK q)
  else s.rxBegin l

/-- A lane that locked begins a stream, if its mode has one and none runs. -/
def State.streamFrom (s : State) (l : Nat) : State :=
  if !streamMode (s.quadMode (l / 4)) then s
  else if s.on F.LANE_LANE_STATUS_LINK_UP l || s.funcState (.quad (l / 4)) != 1 then s
  else s.streamOn l

theorem State.streamStart_eq {s : State} {l : Nat} (hrx : s.rxOn l = true) (hmode : streamMode (s.quadMode (l / 4)) = true)
    (hdown : s.f F.LANE_LANE_STATUS_LINK_UP l = 0) (hrun : s.funcState (.quad (l / 4)) = 1) (before : BitVec 58) {ilasErr : Bool}
    (hilas : ilasErr = false ∨ s.quadMode (l / 4) ≠ 1) : s.streamStart l before ilasErr = (s.laneLocks l before).streamOn l := by
  have hwork := s.laneLocks_work l before
  have hdown' : (s.laneLocks l before).on F.LANE_LANE_STATUS_LINK_UP l = false := by
    have hfield : (s.laneLocks l before).f F.LANE_LANE_STATUS_LINK_UP l = 0 := by
      rw [State.f, State.word_laneLocks, ← hdown]
      split <;> simp [changed, State.f, fieldOf_withField_other]
    simp [State.on, hfield]
  have hnone : (ilasErr && (s.laneLocks l before).quadMode (l / 4) == 1 && !(s.laneLocks l before).on F.LANE_JESD_CFG_ENC (l / 4)) = false := by
    rw [hwork.quadMode]
    rcases hilas with h | h <;> simp [h]
  have hdef : s.streamStart l before ilasErr = State.streamFrom
      (if ilasErr && (s.laneLocks l before).quadMode (l / 4) == 1 && !(s.laneLocks l before).on F.LANE_JESD_CFG_ENC (l / 4)
        then (s.laneLocks l before).raise F.LANE_LANE_STATUS_ILAS_ERR l else s.laneLocks l before) l := by
    rw [State.streamStart, if_neg (by simp [hrx])]
    rfl
  rw [hdef, hnone, if_neg (by decide), State.streamFrom, hwork.quadMode, if_neg (by simp [hmode]), if_neg (by simp [hdown', hwork.funcState, hrun])]

theorem State.streamOn_raw {s : State} {l : Nat} (h : s.quadMode (l / 4) ≠ 1) : s.streamOn l = s.rxBegin l := by
  rw [State.streamOn, if_neg fun hc => h hc.1, if_neg h]

theorem State.streamOn_group {s : State} {l : Nat} (h : s.quadMode (l / 4) = 1) (hsub : s.f F.LANE_JESD_CFG_SUBCLASS (l / 4) = 0) :
    s.streamOn l = s.linkStart (s.f F.LANE_JESD_CFG_LINK (l / 4)) := by
  rw [State.streamOn, if_neg (by simp [State.on, hsub]), if_pos h]

theorem State.streamOn_aligned {s : State} {l : Nat} {b : DWord} (h : s.quadMode (l / 4) = 1)
    (hsub : s.f F.LANE_JESD_CFG_SUBCLASS (l / 4) = 1) (hb : Sparse.get none s.lanes.aligned (l / 4) = some b) :
    s.streamOn l = (s.advanceTo (BitVec.ofNat 64 (boundaryAfter (b.toNat + s.f F.LANE_SYSREF_CFG_RBD (l / 4))
      (max 1 (s.f F.LANE_LEMC_TICKS (l / 4))) s.time.toNat))).rxBegin l := by
  rw [State.streamOn, if_pos ⟨h, by simp [State.on, hsub]⟩, hb]

/-- A lane that locks some ticks from now. -/
def State.locksAfter (s : State) (l wait : Nat) (before : BitVec 58) : State := (s.pass wait).laneLocks l before

theorem State.locksAfter_work (s : State) (l wait : Nat) (before : BitVec 58) :
    LaneWork s (s.locksAfter l wait before) [(.LANE_LANE_STATUS, l)] [.clock, .lanes] :=
  (LaneWork.of_kept (Kept.pass s wait) (by decide) (by simp)).trans ((s.pass wait).laneLocks_work l before)

theorem State.locksAfter_time (s : State) (l wait : Nat) (before : BitVec 58) :
    (s.locksAfter l wait before).time = s.time + BitVec.ofNat 64 wait :=
  ((s.pass wait).laneLocks_work l before).kept.time (by decide)

theorem State.locksAfter_aligned (s : State) (l wait : Nat) (before : BitVec 58) :
    (s.locksAfter l wait before).lanes.aligned = s.lanes.aligned := by
  unfold State.locksAfter State.laneLocks
  dsimp only
  split <;> rfl

theorem State.lane_locksAfter (s : State) (l wait : Nat) (before : BitVec 58) :
    (s.locksAfter l wait before).lane l = { s.lane l with line := before } := State.lane_laneLocks ..

theorem State.word_locksAfter (s : State) (l wait : Nat) (before : BitVec 58) :
    (s.locksAfter l wait before).word .LANE_LANE_STATUS l = changed (s.word .LANE_LANE_STATUS l)
      ((F.LANE_LANE_STATUS_CDR_LOCK, 1) :: if s.quadMode (l / 4) = 3 then [] else [(F.LANE_LANE_STATUS_BLOCK_LOCK, 1)]) :=
  State.word_laneLocks ..

/-- What a lane that locks does not change of its status. -/
theorem State.f_locksAfter (s : State) (l wait : Nat) (before : BitVec 58) {G : Fld} (hr : G.reg = .LANE_LANE_STATUS) (hG : 2 ≤ G.lo) :
    (s.locksAfter l wait before).f G l = s.f G l := by
  rw [State.f, hr, State.word_locksAfter, State.f, hr]
  split
  · exact fieldOf_withField_other _ _ (by decide) (.inr (Nat.le_trans (by decide) hG))
  · exact (fieldOf_withField_other _ _ (by decide) (.inr hG)).trans
      (fieldOf_withField_other _ _ (by decide) (.inr (Nat.le_trans (by decide) hG)))

theorem State.streamStart_after {s : State} {l : Nat} (hrx : s.rxOn l = true) (hmode : streamMode (s.quadMode (l / 4)) = true)
    (hdown : s.f F.LANE_LANE_STATUS_LINK_UP l = 0) (hrun : s.funcState (.quad (l / 4)) = 1) (before : BitVec 58) {ilasErr : Bool}
    (hilas : ilasErr = false ∨ s.quadMode (l / 4) ≠ 1) (wait : Nat) :
    (s.pass wait).streamStart l before ilasErr = (s.locksAfter l wait before).streamOn l :=
  State.streamStart_eq (s := s.pass wait) hrx hmode hdown hrun before hilas

/-- A stream that locks and begins in a raw mode, some ticks from now. -/
theorem Runs.rawStreamStart {s : State} {l wait : Nat} {before : BitVec 58} {ilasErr : Bool} (hs : s.ready = true) (hrx : s.rxOn l = true)
    (hmode : s.quadMode (l / 4) = 2 ∨ s.quadMode (l / 4) = 3) (hdown : s.f F.LANE_LANE_STATUS_LINK_UP l = 0)
    (hrun : s.funcState (.quad (l / 4)) = 1) : Runs (.streamStart l wait before ilasErr) s fun t =>
      t.time = s.time + BitVec.ofNat 64 wait ∧ t.rxK l = 0 ∧ t.pair .LANE_RX_START_LO .LANE_RX_START_HI l = t.now.toNat ∧
      t.word .LANE_LANE_STATUS l = changed (s.word .LANE_LANE_STATUS l)
        ([(F.LANE_LANE_STATUS_CDR_LOCK, 1), (F.LANE_LANE_STATUS_LINK_UP, 1),
          (F.LANE_LANE_STATUS_STREAM_SEQ, (s.f F.LANE_LANE_STATUS_STREAM_SEQ l + 1) % 2 ^ 16)] ++
          if s.quadMode (l / 4) = 2 then [(F.LANE_LANE_STATUS_BLOCK_LOCK, 1)] else []) ∧
      (t.lane l).part = [] ∧ (t.lane l).held = (s.lane l).held ∧ (t.lane l).line = before ∧
      Kept s t (streamRegs l) [.clock, .lanes] := by
  have hlock := s.locksAfter_work l wait before
  have hnot : s.quadMode (l / 4) ≠ 1 := by rcases hmode with h | h <;> simp [h]
  have hstream : streamMode (s.quadMode (l / 4)) = true := by rcases hmode with h | h <;> rw [h] <;> rfl
  have hf : (s.pass wait).streamStart l before ilasErr = (s.locksAfter l wait before).rxBegin l :=
    (State.streamStart_after hrx hstream hdown hrun before (.inr hnot) wait).trans
      (State.streamOn_raw (by rw [hlock.quadMode]; exact hnot))
  obtain ⟨hword, hk, hstart⟩ := (s.locksAfter l wait before).rxBegin_shows l
  have hbegin := Kept.rxBegin (s.locksAfter l wait before) l
  refine Runs.of_effect (R := streamRegs l) (A := [.clock, .lanes]) (f := fun s => (s.pass wait).streamStart l before ilasErr) rfl hs hf
    ((hlock.kept.trans hbegin).weaken (by simp [streamRegs]) (by simp)) (by decide) (by simp [calmRegs, streamRegs])
    fun t hq hk' => ⟨?_, ?_, ?_, ?_, ?_, ?_, ?_, hk'⟩
  · rw [hq.time_eq, hbegin.time (by decide), State.locksAfter_time]
  · rw [State.rxK, hq.pair_eq rfl rfl]
    exact hk
  · rw [hq.pair_eq rfl rfl, hstart, hq.now_eq, hbegin.now (by decide)]
  · rw [hq.word_eq rfl, hword, s.f_locksAfter l wait before rfl (by decide), State.word_locksAfter]
    rcases hmode with h | h
    · simp only [h, changed, List.foldl_append, List.foldl_cons, List.foldl_nil, if_true, Nat.reduceEqDiff, if_false]
      rw [withField_comm _ _ _ (lo := 1) (lo' := 2) (by decide) (by decide) (by decide),
        withField_comm _ _ _ (lo := 1) (lo' := 16) (by decide) (by decide) (by decide)]
    · simp [h, changed]
  · rw [hq.lane_eq List.not_mem_nil, State.lane_rxBegin, if_pos rfl]
  · rw [hq.lane_eq List.not_mem_nil, State.lane_rxBegin, if_pos rfl, State.lane_locksAfter]
  · rw [hq.lane_eq List.not_mem_nil, State.lane_rxBegin, if_pos rfl, State.lane_locksAfter]

-- ------------------------------------------------------------------ link groups (R317)

theorem LaneWork.linkLanes {s t : State} {R : Regs} {A : List Area} (h : LaneWork s t R A) (link : Nat) : t.linkLanes link = s.linkLanes link := by
  have hset (F : Fld) (hF : F.reg = .LANE_JESD_CFG) (q : Nat) : t.f F q = s.f F q := h.setting (by rw [hF]; decide) (by rw [hF]; rfl) q
  simp only [State.linkLanes, h.kept.part, h.quadMode, State.on, hset F.LANE_JESD_CFG_SUBCLASS rfl, hset F.LANE_JESD_CFG_LINK rfl, h.funcState,
    h.rxOn]

/-- The stream of lane l began at a time. -/
def State.begun (t : State) (l : Nat) (n : DWord) : Prop :=
  t.f F.LANE_LANE_STATUS_LINK_UP l = 1 ∧ t.rxK l = 0 ∧ t.pair .LANE_RX_START_LO .LANE_RX_START_HI l = n.toNat

theorem State.rxBegin_begun (s : State) (l : Nat) : (s.rxBegin l).begun l s.now := by
  obtain ⟨hword, hk, hstart⟩ := s.rxBegin_shows l
  refine ⟨?_, hk, hstart⟩
  rw [State.f, hword]
  simp [changed, fieldOf_withField_same, fieldOf_withField_other]

theorem State.begun.kept {s t : State} {l : Nat} {n : DWord} (h : s.begun l n) {R : Regs} {A : List Area} (hk : Kept s t R A)
    (hR : ∀ x ∈ streamRegs l, x ∉ R) : t.begun l n := by
  obtain ⟨hup, hbytes, hstart⟩ := h
  have hword (r : Reg) (hr : (r, l) ∈ streamRegs l) (hp : isPend r = false) : t.word r l = s.word r l := hk.regs r l hp (hR _ hr)
  refine ⟨?_, ?_, ?_⟩
  · rw [State.f, hword _ (by simp [streamRegs]) rfl]
    exact hup
  · rw [State.rxK, State.pair, hword _ (by simp [streamRegs]) rfl, hword _ (by simp [streamRegs]) rfl]
    exact hbytes
  · rw [State.pair, hword _ (by simp [streamRegs]) rfl, hword _ (by simp [streamRegs]) rfl]
    exact hstart

theorem streamRegs_other {l m : Nat} (h : l ≠ m) : ∀ x ∈ streamRegs l, x ∉ streamRegs m := by
  intro x hx hx'
  simp only [streamRegs, List.mem_cons, List.not_mem_nil, or_false] at hx hx'
  rcases hx with rfl | rfl | rfl | rfl | rfl <;> simp [h] at hx'

/-- The streams of two lanes begin together. -/
def State.bothBegin (s : State) (l m : Nat) : State := (s.rxBegin l).rxBegin m

theorem State.bothBegin_begun (s : State) {l m : Nat} (h : l ≠ m) : (s.bothBegin l m).begun l s.now ∧ (s.bothBegin l m).begun m s.now := by
  refine ⟨(s.rxBegin_begun l).kept (Kept.rxBegin ..) (streamRegs_other h), ?_⟩
  have hm := (s.rxBegin l).rxBegin_begun m
  rw [(Kept.rxBegin s l).now (by decide)] at hm
  exact hm

theorem Kept.bothBegin (s : State) (l m : Nat) : Kept s (s.bothBegin l m) (streamRegs l ++ streamRegs m) [.lanes] :=
  ((Kept.rxBegin ..).trans (Kept.rxBegin ..)).weaken (by simp) (by simp)

/-- The registers of two receive streams. -/
def bothRegs (l m : Nat) : Regs :=
  [.LANE_LANE_STATUS, .LANE_RX_BYTES_LO, .LANE_RX_BYTES_HI, .LANE_RX_START_LO, .LANE_RX_START_HI].flatMap fun r => [(r, l), (r, m)]

theorem streamRegs_both (l m : Nat) : streamRegs l ⊆ bothRegs l m ∧ streamRegs m ⊆ bothRegs l m := by
  simp [streamRegs, bothRegs]

/-- The streams of a group of two begin together, once both have locked. -/
theorem State.linkStart_two {s : State} {link l m : Nat} (hall : s.linkLanes link = [l, m])
    (hl : s.f F.LANE_LANE_STATUS_LINK_UP l = 0) (hm : s.f F.LANE_LANE_STATUS_LINK_UP m = 0)
    (hlocked : s.f F.LANE_LANE_STATUS_BLOCK_LOCK l = 1 ∧ s.f F.LANE_LANE_STATUS_BLOCK_LOCK m = 1) : s.linkStart link = s.bothBegin l m := by
  rw [State.linkStart, hall, if_pos (by simp [State.on, hlocked.1, hlocked.2])]
  simp [State.on, hl, hm, State.bothBegin]

theorem State.linkStart_waits {s : State} {link m : Nat} (hm : m ∈ s.linkLanes link) (h : s.f F.LANE_LANE_STATUS_BLOCK_LOCK m = 0) :
    s.linkStart link = s := by
  refine if_neg fun hlocked => ?_
  have hon := List.all_eq_true.1 hlocked m hm
  simp [State.on, h] at hon

theorem State.streamStart_group {s : State} {l : Nat} (hrx : s.rxOn l = true) (hmode : s.quadMode (l / 4) = 1)
    (hsub : s.f F.LANE_JESD_CFG_SUBCLASS (l / 4) = 0) (hrun : s.funcState (.quad (l / 4)) = 1) (hl : s.f F.LANE_LANE_STATUS_LINK_UP l = 0)
    (wait : Nat) (before : BitVec 58) : (s.pass wait).streamStart l before false =
    (s.locksAfter l wait before).linkStart (s.f F.LANE_JESD_CFG_LINK (l / 4)) := by
  have hlock := s.locksAfter_work l wait before
  have hset (F : Fld) (hF : F.reg = .LANE_JESD_CFG) (q : Nat) : (s.locksAfter l wait before).f F q = s.f F q :=
    hlock.setting (by rw [hF]; decide) (by rw [hF]; rfl) q
  rw [State.streamStart_after hrx (by rw [hmode]; rfl) hl hrun before (.inl rfl) wait,
    State.streamOn_group ((hlock.quadMode _).trans hmode) ((hset _ rfl _).trans hsub), hset _ rfl]

section
variable {s : State} {l m wait : Nat} {before : BitVec 58} (hs : s.ready = true) (hne : l ≠ m) (hrx : s.rxOn l = true)
  (hmode : s.quadMode (l / 4) = 1) (hsub : s.f F.LANE_JESD_CFG_SUBCLASS (l / 4) = 0) (hrun : s.funcState (.quad (l / 4)) = 1)
  (hall : s.linkLanes (s.f F.LANE_JESD_CFG_LINK (l / 4)) = [l, m] ∨ s.linkLanes (s.f F.LANE_JESD_CFG_LINK (l / 4)) = [m, l])
  (hl : s.f F.LANE_LANE_STATUS_LINK_UP l = 0)
include hs hne hrx hmode hsub hrun hall hl

/-- The other lane of the group has not locked: this lane only locks. -/
theorem Runs.groupLocks (hm : s.f F.LANE_LANE_STATUS_BLOCK_LOCK m = 0) : Runs (.streamStart l wait before false) s fun t =>
    t.word .LANE_LANE_STATUS l = changed (s.word .LANE_LANE_STATUS l)
      [(F.LANE_LANE_STATUS_CDR_LOCK, 1), (F.LANE_LANE_STATUS_BLOCK_LOCK, 1)] ∧
    Kept s t [(.LANE_LANE_STATUS, l)] [.clock, .lanes] := by
  have hlock := s.locksAfter_work l wait before
  have hwaits : (s.locksAfter l wait before).linkStart (s.f F.LANE_JESD_CFG_LINK (l / 4)) = s.locksAfter l wait before := by
    refine State.linkStart_waits (m := m) ?_ ?_
    · rw [hlock.linkLanes]
      rcases hall with h | h <;> simp [h]
    · rw [hlock.kept.f _ _ rfl (by simpa using hne.symm), hm]
  refine Runs.of_effect (f := fun s => (s.pass wait).streamStart l before false) rfl hs
    ((State.streamStart_group hrx hmode hsub hrun hl wait before).trans hwaits) hlock.kept (by decide) (by simp [calmRegs])
    fun t hq hk => ⟨?_, hk⟩
  rw [hq.word_eq rfl, State.word_locksAfter, if_neg (by simp [hmode])]

/-- The other lane of the group has locked: the streams of both begin. -/
theorem Runs.groupBegins (hup : s.f F.LANE_LANE_STATUS_LINK_UP m = 0) (hm : s.f F.LANE_LANE_STATUS_BLOCK_LOCK m = 1) :
    Runs (.streamStart l wait before false) s fun t => t.begun l t.now ∧ t.begun m t.now ∧ Kept s t (bothRegs l m) [.clock, .lanes] := by
  have hlock := s.locksAfter_work l wait before
  have hblock : (s.locksAfter l wait before).f F.LANE_LANE_STATUS_BLOCK_LOCK l = 1 := by
    rw [State.f, State.word_locksAfter, if_neg (by simp [hmode])]
    exact fieldOf_withField_same _ _ (by decide)
  have hl' := (s.f_locksAfter l wait before (G := F.LANE_LANE_STATUS_LINK_UP) rfl (by decide)).trans hl
  have hother (F : Fld) (hF : F.reg = .LANE_LANE_STATUS) : (s.locksAfter l wait before).f F m = s.f F m :=
    hlock.kept.f F m (by rw [hF]; rfl) (by simpa [hF] using hne.symm)
  have hup' := (hother F.LANE_LANE_STATUS_LINK_UP rfl).trans hup
  have hm' := (hother F.LANE_LANE_STATUS_BLOCK_LOCK rfl).trans hm
  obtain ⟨hleft, hright⟩ := streamRegs_both l m
  have heffect : ∃ u, (s.locksAfter l wait before).linkStart (s.f F.LANE_JESD_CFG_LINK (l / 4)) = u ∧
      Kept (s.locksAfter l wait before) u (bothRegs l m) [.lanes] ∧
      u.begun l (s.locksAfter l wait before).now ∧ u.begun m (s.locksAfter l wait before).now := by
    rcases hall with h | h
    · exact ⟨_, State.linkStart_two ((hlock.linkLanes _).trans h) hl' hup' ⟨hblock, hm'⟩,
        (Kept.bothBegin ..).weaken (List.append_subset.2 ⟨hleft, hright⟩) (List.Subset.refl _), State.bothBegin_begun _ hne⟩
    · exact ⟨_, State.linkStart_two ((hlock.linkLanes _).trans h) hup' hl' ⟨hm', hblock⟩,
        (Kept.bothBegin ..).weaken (List.append_subset.2 ⟨hright, hleft⟩) (List.Subset.refl _), (State.bothBegin_begun _ hne.symm).symm⟩
  obtain ⟨u, hu, hkept, hbegun⟩ := heffect
  have hcalm : ∀ x ∈ bothRegs l m, x.1 ∉ calmRegs := by simp [bothRegs, calmRegs]
  refine Runs.of_effect (f := fun s => (s.pass wait).streamStart l before false) rfl hs
    ((State.streamStart_group hrx hmode hsub hrun hl wait before).trans hu) ((hlock.kept.trans hkept).weaken (A' := [.clock, .lanes])
      (by simp [bothRegs]) (by simp)) (by decide) hcalm fun t hq hk => ?_
  have hnow : t.now = (s.locksAfter l wait before).now := hq.now_eq.trans (hkept.now (by decide))
  rw [hnow]
  exact ⟨hbegun.1.kept hq (by simp), hbegun.2.kept hq (by simp), hk⟩

end

-- ------------------------------------------------------------------ a stream that waits for alignment (R320)

/-- The first boundary at or after a tick. -/
theorem boundaryAfter_spec (b t : Nat) {p : Nat} (hp : 0 < p) : t ≤ boundaryAfter b p t ∧ b ≤ boundaryAfter b p t ∧
    (boundaryAfter b p t - b) % p = 0 ∧ (boundaryAfter b p t < t + p ∨ boundaryAfter b p t = b) := by
  rw [boundaryAfter]
  split
  · next h => exact ⟨h, Nat.le_refl b, by rw [Nat.sub_self, Nat.zero_mod], .inr rfl⟩
  · next h =>
    have hle := Nat.div_mul_le_self (t - b + p - 1) p
    have hlt := Nat.lt_div_mul_add (a := t - b + p - 1) hp
    refine ⟨by omega, Nat.le_add_right .., ?_, .inl (by omega)⟩
    rw [Nat.add_sub_cancel_left, Nat.mul_mod_left]

theorem Runs.alignedStart {s : State} {l wait : Nat} {before : BitVec 58} {b : DWord} (hs : s.ready = true) (hrx : s.rxOn l = true)
    (hmode : s.quadMode (l / 4) = 1) (hsub : s.f F.LANE_JESD_CFG_SUBCLASS (l / 4) = 1) (hrun : s.funcState (.quad (l / 4)) = 1)
    (hl : s.f F.LANE_LANE_STATUS_LINK_UP l = 0) (hb : Sparse.get none s.lanes.aligned (l / 4) = some b)
    (hticks : 0 < s.f F.LANE_LEMC_TICKS (l / 4)) (hwait : s.time.toNat + wait + 2 ^ 17 < 2 ^ 64) (hbound : b.toNat + 2 ^ 17 < 2 ^ 64) :
    Runs (.streamStart l wait before false) s fun t =>
      t.f F.LANE_LANE_STATUS_LINK_UP l = 1 ∧ t.rxK l = 0 ∧ s.time.toNat + wait ≤ t.time.toNat ∧
      b.toNat + s.f F.LANE_SYSREF_CFG_RBD (l / 4) ≤ t.time.toNat ∧
      (t.time.toNat - (b.toNat + s.f F.LANE_SYSREF_CFG_RBD (l / 4))) % s.f F.LANE_LEMC_TICKS (l / 4) = 0 ∧
      (t.time.toNat < s.time.toNat + wait + s.f F.LANE_LEMC_TICKS (l / 4) ∨
        t.time.toNat = b.toNat + s.f F.LANE_SYSREF_CFG_RBD (l / 4)) ∧
      Kept s t (streamRegs l) [.clock, .lanes] := by
  have hlock := s.locksAfter_work l wait before
  have haligned : Sparse.get none (s.locksAfter l wait before).lanes.aligned (l / 4) = some b := by
    rw [State.locksAfter_aligned, hb]
  have htime : (s.locksAfter l wait before).time.toNat = s.time.toNat + wait := by
    rw [State.locksAfter_time, BitVec.toNat_add, BitVec.toNat_ofNat]
    omega
  have hlemc : (s.locksAfter l wait before).f F.LANE_LEMC_TICKS (l / 4) = s.f F.LANE_LEMC_TICKS (l / 4) :=
    hlock.kept.f _ _ rfl (by simp)
  have hrbd : (s.locksAfter l wait before).f F.LANE_SYSREF_CFG_RBD (l / 4) = s.f F.LANE_SYSREF_CFG_RBD (l / 4) :=
    hlock.kept.f _ _ rfl (by simp)
  have hsub' := (hlock.setting (F := F.LANE_JESD_CFG_SUBCLASS) (by decide) rfl (l / 4)).trans hsub
  have hmax : max 1 (s.f F.LANE_LEMC_TICKS (l / 4)) = s.f F.LANE_LEMC_TICKS (l / 4) := Nat.max_eq_right hticks
  have hrbdlt : s.f F.LANE_SYSREF_CFG_RBD (l / 4) < 2 ^ 16 := fieldOf_lt ..
  have htickslt : s.f F.LANE_LEMC_TICKS (l / 4) < 2 ^ 16 := fieldOf_lt ..
  obtain ⟨hge, hbase, hmod, hnear⟩ := boundaryAfter_spec (b.toNat + s.f F.LANE_SYSREF_CFG_RBD (l / 4)) (s.time.toNat + wait) hticks
  have hf : (s.pass wait).streamStart l before false = ((s.locksAfter l wait before).advanceTo (BitVec.ofNat 64
      (boundaryAfter (b.toNat + s.f F.LANE_SYSREF_CFG_RBD (l / 4)) (s.f F.LANE_LEMC_TICKS (l / 4)) (s.time.toNat + wait)))).rxBegin l := by
    rw [State.streamStart_after hrx (by rw [hmode]; rfl) hl hrun before (.inl rfl) wait,
      State.streamOn_aligned ((hlock.quadMode _).trans hmode) hsub' haligned, htime, hlemc, hrbd, hmax]
  generalize boundaryAfter (b.toNat + s.f F.LANE_SYSREF_CFG_RBD (l / 4)) (s.f F.LANE_LEMC_TICKS (l / 4)) (s.time.toNat + wait) = r at *
  have hr : r < 2 ^ 64 := by omega
  have hbegun := ((s.locksAfter l wait before).advanceTo (BitVec.ofNat 64 r)).rxBegin_begun l
  have hbegin := Kept.rxBegin ((s.locksAfter l wait before).advanceTo (BitVec.ofNat 64 r)) l
  refine Runs.of_effect (R := streamRegs l) (A := [.clock, .lanes]) (f := fun s => (s.pass wait).streamStart l before false) rfl hs hf
    (((hlock.kept.trans (Kept.advanceTo ..)).trans hbegin).weaken (by simp [streamRegs]) (by simp)) (by decide) (by simp [calmRegs, streamRegs])
    fun t hq hk => ?_
  have hend : t.time.toNat = r := by
    rw [hq.time_eq, hbegin.time (by decide), State.advanceTo_ofNat_time (by omega) hr, BitVec.toNat_ofNat, Nat.mod_eq_of_lt hr]
  obtain ⟨hup, hzero, -⟩ := hbegun.kept hq (by simp)
  rw [hend]
  exact ⟨hup, hzero, hge, hbase, hmod, hnear, hk⟩

-- ------------------------------------------------------------------ bytes of a receive stream (R310, R314)

/-- The registers that count the bytes of a receive stream. -/
def byteRegs (l : Nat) : Regs := [(.LANE_RX_BYTES_LO, l), (.LANE_RX_BYTES_HI, l)]

/-- Bytes that a lane has received without a chunk becoming complete. -/
structure Received (s t : State) (l : Nat) (data : List Byte) : Prop where
  work : LaneWork s t (byteRegs l) [.lanes]
  part : (t.lane l).part = (s.lane l).part ++ data
  held : (t.lane l).held = (s.lane l).held
  multiblock : (t.lane l).multiblock = (s.lane l).multiblock
  count : t.rxK l = (s.rxK l + data.length) % 2 ^ 64

theorem byteRegs_settings (l : Nat) : ∀ x ∈ byteRegs l, x.1 ∉ quadRegs := by simp [byteRegs, quadRegs]

theorem Received.refl (s : State) (l : Nat) : Received s s l [] where
  work := ⟨Kept.start .., rfl, byteRegs_settings l⟩
  part := (List.append_nil _).symm
  held := rfl
  multiblock := rfl
  count := (Nat.mod_eq_of_lt (s.pair_lt ..)).symm

theorem Received.trans {s t u : State} {l : Nat} {d e : List Byte} (h : Received s t l d) (g : Received t u l e) : Received s u l (d ++ e) where
  work := (h.work.trans g.work).weaken (by simp) (by simp) (byteRegs_settings l)
  part := by rw [g.part, h.part, List.append_assoc]
  held := g.held.trans h.held
  multiblock := g.multiblock.trans h.multiblock
  count := by rw [g.count, h.count, List.length_append, Nat.mod_add_mod, Nat.add_assoc]

theorem State.rxK_setLane (s : State) (l : Nat) (v : LaneState) (k : Nat) : (s.setLane l v).rxK k = s.rxK k := by
  rw [State.rxK, State.pair, State.setLane_word, State.setLane_word, ← State.pair, ← State.rxK]

theorem State.rxK_setPair (s : State) (l : Nat) {v : Nat} (h : v < 2 ^ 64) :
    (s.setPair .LANE_RX_BYTES_LO .LANE_RX_BYTES_HI l v).rxK l = v := by
  rw [State.rxK, State.pair_setPair _ _ (by decide) h]

theorem State.rxK_mod (s : State) (l : Nat) : s.rxK l = s.rxK l % 2 ^ 64 := by
  rw [Nat.mod_eq_of_lt]
  exact s.pair_lt ..

/-- A byte arrives that completes no chunk. -/
theorem State.rxByte_received {s : State} {l : Nat} (hroom : (s.lane l).part.length + 1 < s.rxChunk l)
    (hgo : (s.lane l).part ≠ [] ∨ s.funcState (.quad (l / 4)) = 1) (b : Byte) : Received s (s.rxByte l b) l [b] := by
  have hbegins : ¬ ((s.lane l).part.isEmpty && s.funcState (.quad (l / 4)) != 1) = true := by
    rcases hgo with h | h <;> simp [h]
  have hshort : ((s.lane l).part ++ [b]).length < s.rxChunk l := by simpa using hroom
  have heq : s.rxByte l b = (s.setPair .LANE_RX_BYTES_LO .LANE_RX_BYTES_HI l ((s.rxK l + 1) % 2 ^ 64)).setLane l { s.lane l with
      part := (s.lane l).part ++ [b]
      partDrop := if (s.lane l).part.isEmpty then decide (32768 < (s.lane l).buffered + s.rxChunk l) else (s.lane l).partDrop } := by
    rw [State.rxByte, if_neg hbegins]
    exact if_pos hshort
  have hpair : LaneWork s (s.setPair .LANE_RX_BYTES_LO .LANE_RX_BYTES_HI l ((s.rxK l + 1) % 2 ^ 64)) (byteRegs l) [] :=
    .of_kept (Kept.setPair ..) (by simp) (byteRegs_settings l)
  rw [heq]
  refine ⟨(hpair.trans (LaneWork.setLane ..)).weaken (by simp) (by simp) (byteRegs_settings l), ?_, ?_, ?_, ?_⟩
  · rw [State.lane_setLane_same]
  · rw [State.lane_setLane_same]
  · rw [State.lane_setLane_same]
  · rw [State.rxK_setLane, State.rxK_setPair _ _ (Nat.mod_lt _ (by decide)), List.length_singleton]

/-- Bytes arrive that complete no chunk. -/
theorem State.rxBytes_received {s : State} {l : Nat} {data : List Byte} (hroom : (s.lane l).part.length + data.length < s.rxChunk l)
    (hgo : (s.lane l).part ≠ [] ∨ s.funcState (.quad (l / 4)) = 1) :
    Received s (data.foldl (fun s b => s.rxByte l b) s) l data := by
  induction data generalizing s with
  | nil => exact .refl s l
  | cons b data ih =>
    rw [List.length_cons] at hroom
    have hone := State.rxByte_received (s := s) (l := l) (by omega) hgo b
    refine hone.trans (ih ?_ (.inl ?_))
    · rw [hone.part, hone.work.rxChunk, List.length_append, List.length_singleton]
      omega
    · simp [hone.part]

/-- Nothing is sent while no chunk is complete. -/
theorem State.sendChunks_none {s : State} {l : Nat} (h : (s.lane l).held = []) (n : Nat) : s.sendChunks l n = s := by
  cases n with
  | zero => rfl
  | succ n => rw [State.sendChunks, h]

theorem State.rxBytes_short {s : State} {l : Nat} {data : List Byte} (hroom : (s.lane l).part.length + data.length < s.rxChunk l)
    (hgo : (s.lane l).part ≠ [] ∨ s.funcState (.quad (l / 4)) = 1) (hheld : (s.lane l).held = []) :
    Received s (s.rxBytes l data) l data := by
  have h := State.rxBytes_received hroom hgo
  rw [State.rxBytes, State.sendChunks_none (h.held.trans hheld)]
  exact h

/-- The descrambler takes in the bits of a block. -/
def State.blockTaken (s : State) (l : Nat) (b : BitVec 64) : State :=
  s.setLane l { s.lane l with line := (descrambled (s.lane l).line b).2 }

/-- The bytes of a block of RAW_66 enter, descrambled where the quad says so. -/
def State.blockRead (s : State) (l : Nat) (b : BitVec 64) : State :=
  (s.blockTaken l b).rxBytes l
    (toBytes 8 (if (s.blockTaken l b).on F.LANE_QUAD_CFG_SCR (l / 4) then (descrambled (s.lane l).line b).1 else b).toNat)

theorem State.rxWord_block {s : State} {l : Nat} (h : s.quadMode (l / 4) = 2) (header : BitVec 2) (b : BitVec 64) :
    s.rxWord l (.block header b) = (if header = 0#2 ∨ header = 3#2 then s.codeErrors l 1 else s).blockRead l b := by
  unfold State.rxWord
  rw [h]
  rfl

theorem State.rxWord_bits {s : State} {l : Nat} (h : s.quadMode (l / 4) = 3) (b : BitVec 64) :
    s.rxWord l (.bits b) = s.rxBytes l (toBytes 8 b.toNat) := by
  unfold State.rxWord
  rw [h]
  rfl

/-- A word of a raw stream brings its 8 bytes. -/
theorem State.rxWord_received {s : State} {l : Nat} {w : LineWord} {b : BitVec 64} (hheld : (s.lane l).held = [])
    (hpart : (s.lane l).part ≠ []) (hroom : (s.lane l).part.length + 8 < s.rxChunk l)
    (hw : (s.quadMode (l / 4) = 3 ∧ w = .bits b) ∨
      (s.quadMode (l / 4) = 2 ∧ s.f F.LANE_QUAD_CFG_SCR (l / 4) = 0 ∧ (w = .block 1 b ∨ w = .block 2 b))) :
    Received s (s.rxWord l w) l (toBytes 8 b.toNat) := by
  have hlen : (toBytes 8 b.toNat).length = 8 := length_toBytes ..
  rcases hw with ⟨hmode, rfl⟩ | ⟨hmode, hscr, hblock⟩
  · rw [State.rxWord_bits hmode]
    exact State.rxBytes_short (by rw [hlen]; exact hroom) (.inl hpart) hheld
  · have hline : Received s (s.blockTaken l b) l [] := by
      refine ⟨(LaneWork.setLane ..).weaken (by simp) (by simp) (byteRegs_settings l), ?_, ?_, ?_, ?_⟩
      · rw [State.blockTaken, State.lane_setLane_same, List.append_nil]
      · rw [State.blockTaken, State.lane_setLane_same]
      · rw [State.blockTaken, State.lane_setLane_same]
      · rw [State.blockTaken, State.rxK_setLane, List.length_nil, Nat.add_zero, ← State.rxK_mod]
    have heq : s.rxWord l w = (s.blockTaken l b).rxBytes l (toBytes 8 b.toNat) := by
      have hon : (s.blockTaken l b).on F.LANE_QUAD_CFG_SCR (l / 4) = false := by
        rw [State.on, hline.work.setting (by decide) rfl, hscr]
        rfl
      have hvalid (header : BitVec 2) (h : header = 1 ∨ header = 2) : ¬ (header = 0#2 ∨ header = 3#2) := by
        rcases h with rfl | rfl <;> decide
      rcases hblock with rfl | rfl <;>
        rw [State.rxWord_block hmode, if_neg (hvalid _ (by decide)), State.blockRead, hon, if_neg (by decide)]
    rw [heq]
    refine hline.trans (State.rxBytes_short ?_ (.inl ?_) (hline.held.trans hheld))
    · rw [hline.part, hline.work.rxChunk, List.append_nil, hlen]
      exact hroom
    · rw [hline.part, List.append_nil]
      exact hpart

theorem State.chunkSend_word {s : State} {l : Nat} (hrx : s.rxOn l = true) (hmode : s.quadMode (l / 4) ≠ 5)
    (hup : s.f F.LANE_LANE_STATUS_LINK_UP l = 1) (w : LineWord) : s.chunkSend l [w] 0 = (s.rxWord l w).sendChunks l 129 := by
  rw [State.chunkSend, if_neg (by simp [hrx])]
  dsimp only
  rw [if_neg hmode, if_pos (by simp [State.on, hup])]
  rfl

theorem Runs.rawWord {s : State} {l : Nat} {w : LineWord} {b : BitVec 64} (hs : s.ready = true) (hrx : s.rxOn l = true)
    (hup : s.f F.LANE_LANE_STATUS_LINK_UP l = 1) (hheld : (s.lane l).held = []) (hpart : (s.lane l).part ≠ [])
    (hroom : (s.lane l).part.length + 8 < s.rxChunk l)
    (hw : (s.quadMode (l / 4) = 3 ∧ w = .bits b) ∨
      (s.quadMode (l / 4) = 2 ∧ s.f F.LANE_QUAD_CFG_SCR (l / 4) = 0 ∧ (w = .block 1 b ∨ w = .block 2 b))) :
    Runs (.chunkSend l [w] 0) s fun t =>
      (t.lane l).part = (s.lane l).part ++ toBytes 8 b.toNat ∧ t.rxK l = (s.rxK l + 8) % 2 ^ 64 ∧
      Kept s t (byteRegs l) [.lanes] := by
  have hgot := State.rxWord_received hheld hpart hroom hw
  have hmode : s.quadMode (l / 4) ≠ 5 := by
    intro h
    rcases hw with ⟨hm, -⟩ | ⟨hm, -⟩ <;> simp [h] at hm
  refine Runs.of_effect (f := fun s => s.chunkSend l [w] 0) rfl hs ((State.chunkSend_word hrx hmode hup w).trans
    (State.sendChunks_none (hgot.held.trans hheld) _)) hgot.work.kept (by decide) (by simp [calmRegs, byteRegs]) fun t hq hk => ⟨?_, ?_, hk⟩
  · rw [hq.lane_eq List.not_mem_nil, hgot.part]
  · rw [State.rxK, hq.pair_eq rfl rfl, ← State.rxK, hgot.count, length_toBytes]

-- ------------------------------------------------------------------ a complete chunk leaves (R310)

/-- The write of a complete chunk. -/
def chunkAsk (a : Nat) (data : List Byte) : Request := ⟨.wrp, a, data.length - 1, [], 0, data, false, false, false, 0, .none⟩

/-- A lane whose complete chunks have all been taken. -/
def State.heldGone (s : State) (l : Nat) : State := s.setLane l { s.lane l with held := [] }

theorem State.sendChunks_one {s : State} {l k : Nat} {data : List Byte} (hheld : (s.lane l).held = [(k, data)])
    (htakes : s.niTakes (laneNi l) = true) (n : Nat) : s.sendChunks l (n + 1) =
      ((s.heldGone l).request (laneNi l) (chunkAsk (s.rxBase l + k % 2 ^ s.f F.LANE_RX_SIZE_LOG2 l) data)).sendChunks l n := by
  rw [State.sendChunks, hheld]
  dsimp only
  rw [if_neg (by simp [htakes])]
  rfl

theorem State.chunkSend_nothing {s : State} {l : Nat} (hrx : s.rxOn l = true) : s.chunkSend l [] 0 = s.sendChunks l 129 := by
  have hzero : (if s.quadMode (l / 4) = 5 then s.codeErrors l 0 else s) = s := by
    split <;> rfl
  rw [State.chunkSend, if_neg (by simp [hrx])]
  dsimp only
  rw [hzero]
  split <;> rfl

theorem Runs.chunkLeaves {s : State} {l k d : Nat} {data : List Byte} (hs : s.ready = true) (hrx : s.rxOn l = true)
    (hheld : (s.lane l).held = [(k, data)]) (htakes : s.niTakes (laneNi l) = true) (hup : (s.ni (laneNi l)).csf.up = [])
    (hrecord : s.recordOf (laneNi l) = none) (hdec : decodeAddr s.part (s.rxBase l + k % 2 ^ s.f F.LANE_RX_SIZE_LOG2 l) = .ni d)
    (hvalid : entryValid (s.activeEntry (laneNi l) d) = true) (hnow : s.sendsNow (laneNi l) 0 = true) :
    Runs (.chunkSend l [] 0) s fun t =>
      (t.lane l).held = [] ∧
      Sent s t (s.postedFrom (laneNi l) d (s.rxBase l + k % 2 ^ s.f F.LANE_RX_SIZE_LOG2 l) data) ∧ OtherNis s t (laneNi l) ∧
      Kept s t (statRegs (laneNi l)) [.lanes, .net] := by
  have hx : 0x60 ≤ laneNi l := by
    rw [laneNi]
    omega
  have hgone : Kept s (s.heldGone l) [] [.lanes] := Kept.setLane ..
  have hreq := Requested.of_posted (s := s.heldGone l) (r := chunkAsk (s.rxBase l + k % 2 ^ s.f F.LANE_RX_SIZE_LOG2 l) data) hx rfl hdec rfl
    hvalid htakes hup hnow hrecord
  have hlane : ((s.heldGone l).request (laneNi l) (chunkAsk (s.rxBase l + k % 2 ^ s.f F.LANE_RX_SIZE_LOG2 l) data)).lane l =
      { s.lane l with held := [] } := by
    rw [hreq.kept.lane_eq (by decide), State.heldGone, State.lane_setLane_same]
  have hf := (State.chunkSend_nothing hrx).trans ((State.sendChunks_one hheld htakes 128).trans (State.sendChunks_none (by rw [hlane]) 128))
  refine Runs.of_calmEffect (R := statRegs (laneNi l)) (A := [.lanes, .net]) (f := fun s => s.chunkSend l [] 0) rfl hs hf
    ((hgone.trans hreq.kept).weaken (by simp) (by simp)) (fun h => hreq.calm hx hup ((hgone.calm (by decide) (by simp)).trans h))
    fun t hq hk => ?_
  obtain ⟨hsent, -, hothers⟩ := hreq.shown (s := s) rfl hq rfl
  rw [State.plainPacket_eq (s := s.heldGone l) rfl hrecord rfl] at hsent
  exact ⟨by rw [hq.lane_eq List.not_mem_nil, hlane], hsent, hothers, hk⟩

end Sys2Proof.Machine
end

section
/-! PROOF. Aligned releases, losses, transmit streams, PLL and eye scan of the serial lanes (R308, R313, R320, R321, R325, R326). -/

namespace Sys2Proof.Machine

-- ------------------------------------------------------------------ an aligned lane releases a multiblock (R320)

/-- The ticks until the next release of lane l. -/
def State.releaseIn (s : State) (l : Nat) : Nat :=
  s.pair .LANE_RX_START_LO .LANE_RX_START_HI l + (s.lane l).multiblock * s.f F.LANE_LEMC_TICKS (l / 4) - s.now.toNat

/-- The release tick of a lane, with the latest arrival. -/
def State.releaseComes (s : State) (l arrival : Nat) : State :=
  (s.pass (s.releaseIn l)).setF F.LANE_LEMC_ARRIVAL (l / 4) (max arrival (s.f F.LANE_LEMC_ARRIVAL (l / 4)))

theorem State.releaseComes_work (s : State) (l arrival : Nat) :
    LaneWork s (s.releaseComes l arrival) [(.LANE_LEMC, l / 4)] [.clock] :=
  .of_kept ((Kept.pass ..).trans (Kept.setF ..)) (by decide) (by simp [quadRegs])

/-- The release tick of a lane, with its next multiblock counted. -/
def State.releaseNext (s : State) (l arrival : Nat) : State :=
  (s.releaseComes l arrival).setLane l { (s.releaseComes l arrival).lane l with multiblock := (s.lane l).multiblock + 1 }

theorem State.lane_releaseNext (s : State) (l arrival : Nat) :
    (s.releaseNext l arrival).lane l = { s.lane l with multiblock := (s.lane l).multiblock + 1 } := by
  rw [State.releaseNext, State.lane_setLane_same, State.releaseComes, State.lane_setF, State.lane_pass]

theorem State.releaseNext_work (s : State) (l arrival : Nat) :
    LaneWork s (s.releaseNext l arrival) [(.LANE_LEMC, l / 4)] [.clock, .lanes] := (s.releaseComes_work l arrival).trans (LaneWork.setLane ..)

theorem State.rxK_releaseNext (s : State) (l arrival : Nat) : (s.releaseNext l arrival).rxK l = s.rxK l := by
  have hword (r : Reg) (hp : isPend r = false) (hr : r ≠ .LANE_LEMC) : (s.releaseNext l arrival).word r l = s.word r l :=
    (s.releaseNext_work l arrival).kept.regs r l hp (by simp [hr])
  rw [State.rxK, State.pair, hword _ rfl (by decide), hword _ rfl (by decide), State.rxK, State.pair]

theorem State.arrival_releaseNext (s : State) (l arrival : Nat) : (s.releaseNext l arrival).f F.LANE_LEMC_ARRIVAL (l / 4) =
    max arrival (s.f F.LANE_LEMC_ARRIVAL (l / 4)) % 2 ^ 16 :=
  State.f_setF_same (s.pass (s.releaseIn l)) F.LANE_LEMC_ARRIVAL _ _ (by decide)

section
variable {s : State} {l : Nat} (hrx : s.rxOn l = true) (hmode : s.quadMode (l / 4) = 1) (hup : s.f F.LANE_LANE_STATUS_LINK_UP l = 1)
include hrx hmode hup

theorem State.multiblockRelease_eq (m : Multiblock) (arrival : Nat) : s.multiblockRelease l m arrival 0 =
    match m with
    | .complete line => ((s.releaseComes l arrival).setLane l { (s.releaseComes l arrival).lane l with
        multiblock := (s.lane l).multiblock + 1 }).rxBytes l
          ((List.range ((s.releaseComes l arrival).multiblockBytes (l / 4))).map fun i => (lineOctets line).getD i 0)
    | _ => ((s.releaseComes l arrival).rxEnd l).laneFlag l F.LANE_LANE_STATUS_LATE_MB 0x0303 F.LANE_ALERT_CTRL_ON_SLIP := by
  rw [State.multiblockRelease, if_neg (by simp [hrx, hmode, State.on, hup])]
  rfl

end

/-- A list read by its indices. -/
theorem range_getD {n : Nat} {data : List Byte} (h : data.length = n) : ((List.range n).map fun i => data.getD i 0) = data := by
  subst h
  refine List.ext_getElem (by simp) fun i h1 h2 => ?_
  simp [h2]

theorem LaneWork.multiblockBytes {s t : State} {R : Regs} {A : List Area} (h : LaneWork s t R A) (q : Nat) :
    t.multiblockBytes q = s.multiblockBytes q := by
  have hset (F : Fld) (hF : F.reg = .LANE_JESD_CFG) : t.f F q = s.f F q := h.setting (by rw [hF]; decide) (by rw [hF]; rfl) q
  simp only [State.multiblockBytes, State.on, hset F.LANE_JESD_CFG_ENC rfl, hset F.LANE_JESD_CFG_E rfl, hset F.LANE_JESD_CFG_K rfl,
    hset F.LANE_JESD_CFG_F rfl]
  rfl

theorem Runs.multiblockGoes {s : State} {l arrival : Nat} {line : List LineWord} (hs : s.ready = true) (hrx : s.rxOn l = true)
    (hmode : s.quadMode (l / 4) = 1) (hup : s.f F.LANE_LANE_STATUS_LINK_UP l = 1) (hheld : (s.lane l).held = [])
    (hpart : (s.lane l).part = []) (hrun : s.funcState (.quad (l / 4)) = 1)
    (hlen : (lineOctets line).length = s.multiblockBytes (l / 4)) (hroom : (lineOctets line).length < s.rxChunk l) :
    Runs (.multiblockRelease l (.complete line) arrival 0) s fun t =>
      (t.lane l).part = lineOctets line ∧ (t.lane l).multiblock = (s.lane l).multiblock + 1 ∧
      t.rxK l = (s.rxK l + (lineOctets line).length) % 2 ^ 64 ∧
      t.f F.LANE_LEMC_ARRIVAL (l / 4) = max arrival (s.f F.LANE_LEMC_ARRIVAL (l / 4)) % 2 ^ 16 ∧
      Kept s t [(.LANE_RX_BYTES_LO, l), (.LANE_RX_BYTES_HI, l), (.LANE_LEMC, l / 4)] [.clock, .lanes] := by
  have hcomes := s.releaseComes_work l arrival
  have hnext := s.releaseNext_work l arrival
  have hlane := s.lane_releaseNext l arrival
  have hgot : Received (s.releaseNext l arrival) ((s.releaseNext l arrival).rxBytes l (lineOctets line)) l (lineOctets line) := by
    refine State.rxBytes_short ?_ (.inr ((hnext.funcState _).trans hrun)) (by rw [hlane]; exact hheld)
    rw [hlane, hpart]
    exact (Nat.zero_add _).trans_lt (hroom.trans_eq (hnext.rxChunk l).symm)
  have hf : s.multiblockRelease l (.complete line) arrival 0 = (s.releaseNext l arrival).rxBytes l (lineOctets line) := by
    rw [State.multiblockRelease_eq hrx hmode hup]
    dsimp only
    rw [hcomes.multiblockBytes, range_getD hlen]
    rfl
  refine Runs.of_effect (R := [(.LANE_RX_BYTES_LO, l), (.LANE_RX_BYTES_HI, l), (.LANE_LEMC, l / 4)]) (A := [.clock, .lanes])
    (f := fun s => s.multiblockRelease l (.complete line) arrival 0) rfl hs hf
    ((hnext.trans hgot.work).kept.weaken (by simp [byteRegs]) (by simp)) (by decide) (by simp [calmRegs]) fun t hq hk => ⟨?_, ?_, ?_, ?_, hk⟩
  · rw [hq.lane_eq List.not_mem_nil, hgot.part, hlane, hpart, List.nil_append]
  · rw [hq.lane_eq List.not_mem_nil, hgot.multiblock, hlane]
  · rw [State.rxK, hq.pair_eq rfl rfl, ← State.rxK, hgot.count, State.rxK_releaseNext]
  · rw [hq.f_eq rfl, hgot.work.kept.f _ _ rfl (by simp [byteRegs]), State.arrival_releaseNext]

-- ------------------------------------------------------------------ losses (R312, R325)

/-- A receive stream's end, as the lane shows it. -/
theorem Kept.rxEnd (s : State) (l : Nat) : Kept s (s.rxEnd l) [(.LANE_LANE_STATUS, l)] [.lanes] :=
  ((Kept.setF ..).trans (Kept.setLane ..)).weaken (by simp) (by simp)

theorem State.lane_rxEnd (s : State) (l k : Nat) : (s.rxEnd l).lane k =
    if k = l then { s.lane l with part := [], partDrop := false, multiblock := 0 } else s.lane k := State.lane_setLane ..

theorem State.word_rxEnd (s : State) (l : Nat) : (s.rxEnd l).word .LANE_LANE_STATUS l =
    changed (s.word .LANE_LANE_STATUS l) [(F.LANE_LANE_STATUS_LINK_UP, 0)] := by
  rw [State.rxEnd, State.setLane_word, State.word_setF, if_pos ⟨rfl, rfl⟩]
  rfl

/-- A flag of a lane whose quad raises no alert: it is set, or stood already. -/
theorem State.laneFlag_quiet {s : State} {l : Nat} (hoff : s.f F.LANE_ALERT_CTRL_EN (l / 4) = 0) {bit : Fld} (hbit : bit.reg = .LANE_LANE_STATUS)
    (cause : Nat) (on : Fld) : s.laneFlag l bit cause on = if s.on bit l then s else s.raise bit l := by
  have hquiet : (s.raise bit l).laneAlert l cause on = s.raise bit l := by
    refine if_neg fun h => ?_
    have hen : (s.raise bit l).f F.LANE_ALERT_CTRL_EN (l / 4) = 0 := (State.f_setF_otherReg _ (by rw [hbit]; decide) ..).trans hoff
    simp [State.on, hen] at h
  rw [State.laneFlag, hquiet]
  split
  · rfl
  · exact ite_self _

theorem Kept.laneFlag_quiet {s : State} {l : Nat} (hoff : s.f F.LANE_ALERT_CTRL_EN (l / 4) = 0) {bit : Fld} (hbit : bit.reg = .LANE_LANE_STATUS)
    (cause : Nat) (on : Fld) : Kept s (s.laneFlag l bit cause on) [(.LANE_LANE_STATUS, l)] [] := by
  rw [State.laneFlag_quiet hoff hbit]
  split
  · exact Kept.start ..
  · exact hbit ▸ Kept.raise ..

theorem State.lane_laneFlag_quiet {s : State} {l : Nat} (hoff : s.f F.LANE_ALERT_CTRL_EN (l / 4) = 0) {bit : Fld}
    (hbit : bit.reg = .LANE_LANE_STATUS) (cause : Nat) (on : Fld) (k : Nat) : (s.laneFlag l bit cause on).lane k = s.lane k := by
  rw [State.laneFlag_quiet hoff hbit]
  split <;> rfl

theorem State.word_laneFlag_quiet {s : State} {l : Nat} (hoff : s.f F.LANE_ALERT_CTRL_EN (l / 4) = 0) {bit : Fld}
    (hbit : bit.reg = .LANE_LANE_STATUS) (hw : bit.width = 1) (h32 : bit.lo + bit.width ≤ 32) (cause : Nat) (on : Fld) :
    (s.laneFlag l bit cause on).word .LANE_LANE_STATUS l = changed (s.word .LANE_LANE_STATUS l) [(bit, 1)] := by
  rw [State.laneFlag_quiet hoff hbit]
  split
  · next hon =>
    refine (withField_self _ h32 ?_).symm
    have hone := s.bit_eq hw l
    rw [if_pos hon] at hone
    rw [← hbit]
    exact hone.symm
  · rw [State.word_raise, if_pos ⟨hbit.symm, rfl⟩, hbit]
    rfl

/-- What a lane's loss of its stream leaves. -/
def State.streamLost (s : State) (l : Nat) : LaneState := { s.lane l with part := [], partDrop := false, multiblock := 0 }

theorem Runs.multiblockMissing {s : State} {l arrival : Nat} {m : Multiblock} (hs : s.ready = true) (hrx : s.rxOn l = true)
    (hmode : s.quadMode (l / 4) = 1) (hup : s.f F.LANE_LANE_STATUS_LINK_UP l = 1) (hm : m = .none ∨ m = .fifth)
    (hoff : s.f F.LANE_ALERT_CTRL_EN (l / 4) = 0) : Runs (.multiblockRelease l m arrival 0) s fun t =>
      t.word .LANE_LANE_STATUS l = changed (s.word .LANE_LANE_STATUS l)
        [(F.LANE_LANE_STATUS_LINK_UP, 0), (F.LANE_LANE_STATUS_LATE_MB, 1)] ∧
      (t.lane l).part = [] ∧ (t.lane l).held = (s.lane l).held ∧
      Kept s t [(.LANE_LANE_STATUS, l), (.LANE_LEMC, l / 4)] [.clock, .lanes] := by
  have hcomes := s.releaseComes_work l arrival
  have hended := hcomes.kept.trans (Kept.rxEnd (s.releaseComes l arrival) l)
  have hoff' : ((s.releaseComes l arrival).rxEnd l).f F.LANE_ALERT_CTRL_EN (l / 4) = 0 := (hended.f _ _ rfl (by simp)).trans hoff
  have hf : s.multiblockRelease l m arrival 0 =
      ((s.releaseComes l arrival).rxEnd l).laneFlag l F.LANE_LANE_STATUS_LATE_MB 0x0303 F.LANE_ALERT_CTRL_ON_SLIP := by
    rw [State.multiblockRelease_eq hrx hmode hup]
    rcases hm with rfl | rfl <;> rfl
  have hlane : (((s.releaseComes l arrival).rxEnd l).laneFlag l F.LANE_LANE_STATUS_LATE_MB 0x0303 F.LANE_ALERT_CTRL_ON_SLIP).lane l =
      s.streamLost l := by
    rw [State.lane_laneFlag_quiet hoff' rfl, State.lane_rxEnd, if_pos rfl, State.releaseComes, State.lane_setF, State.lane_pass]
    rfl
  refine Runs.of_effect (R := [(.LANE_LANE_STATUS, l), (.LANE_LEMC, l / 4)]) (A := [.clock, .lanes])
    (f := fun s => s.multiblockRelease l m arrival 0) rfl hs hf ((hended.trans (Kept.laneFlag_quiet hoff' rfl ..)).weaken (by simp) (by simp))
    (by decide) (by simp [calmRegs]) fun t hq hk => ⟨?_, ?_, ?_, hk⟩
  · rw [hq.word_eq rfl, State.word_laneFlag_quiet hoff' rfl rfl (by decide), State.word_rxEnd, hcomes.kept.regs _ _ rfl (by simp)]
    exact (List.foldl_append ..).symm
  · rw [hq.lane_eq List.not_mem_nil, hlane]
    rfl
  · rw [hq.lane_eq List.not_mem_nil, hlane]
    rfl

/-- A lane's status after a loss of lock. -/
def lostStatus (v : Word) : Word := changed v [(F.LANE_LANE_STATUS_CDR_LOCK, 0), (F.LANE_LANE_STATUS_BLOCK_LOCK, 0),
  (F.LANE_LANE_STATUS_LINK_UP, 0), (F.LANE_LANE_STATUS_LOSS, 1)]

/-- A lane that has lost CDR and block lock, its stream not yet ended. -/
def State.unlocked (s : State) (l : Nat) : State := (s.setF F.LANE_LANE_STATUS_CDR_LOCK l 0).setF F.LANE_LANE_STATUS_BLOCK_LOCK l 0

theorem Kept.unlocked (s : State) (l : Nat) : Kept s (s.unlocked l) [(.LANE_LANE_STATUS, l)] [] :=
  ((Kept.setF ..).trans (Kept.setF ..)).weaken (by simp) (by simp)

theorem State.laneLoss_eq (s : State) (l : Nat) :
    s.laneLoss l = ((s.unlocked l).rxEnd l).laneFlag l F.LANE_LANE_STATUS_LOSS 0x0301 F.LANE_ALERT_CTRL_ON_LOSS := rfl

section
variable {s : State} {l : Nat} (hoff : s.f F.LANE_ALERT_CTRL_EN (l / 4) = 0)
include hoff

theorem State.lossQuiet : ((s.unlocked l).rxEnd l).f F.LANE_ALERT_CTRL_EN (l / 4) = 0 :=
  (((Kept.unlocked s l).trans (Kept.rxEnd ..)).f _ _ rfl (by simp)).trans hoff

theorem Kept.laneLoss : Kept s (s.laneLoss l) [(.LANE_LANE_STATUS, l)] [.lanes] :=
  (((Kept.unlocked s l).trans (Kept.rxEnd ..)).trans (Kept.laneFlag_quiet (State.lossQuiet hoff) rfl ..)).weaken (by simp) (by simp)

theorem State.lane_laneLoss : (s.laneLoss l).lane l = s.streamLost l := by
  rw [State.laneLoss_eq, State.lane_laneFlag_quiet (State.lossQuiet hoff) rfl, State.lane_rxEnd, if_pos rfl]
  rfl

theorem State.word_laneLoss : (s.laneLoss l).word .LANE_LANE_STATUS l = lostStatus (s.word .LANE_LANE_STATUS l) := by
  rw [State.laneLoss_eq, State.word_laneFlag_quiet (State.lossQuiet hoff) rfl rfl (by decide), State.word_rxEnd, State.unlocked,
    State.word_setF, if_pos ⟨rfl, rfl⟩, State.word_setF, if_pos ⟨rfl, rfl⟩]
  rfl

theorem Runs.laneLoss (hs : s.ready = true) (hrx : s.rxOn l = true) : Runs (.laneLoss l) s fun t =>
    t.word .LANE_LANE_STATUS l = lostStatus (s.word .LANE_LANE_STATUS l) ∧
    (t.lane l).part = [] ∧ (t.lane l).held = (s.lane l).held ∧ Kept s t [(.LANE_LANE_STATUS, l)] [.lanes] := by
  refine Runs.of_effect (f := fun s => if s.rxOn l then s.laneLoss l else s) rfl hs (if_pos hrx) (Kept.laneLoss hoff) (by decide)
    (by simp [calmRegs]) fun t hq hk => ⟨?_, ?_, ?_, hk⟩
  · rw [hq.word_eq rfl, State.word_laneLoss hoff]
  · rw [hq.lane_eq List.not_mem_nil, State.lane_laneLoss hoff]
    rfl
  · rw [hq.lane_eq List.not_mem_nil, State.lane_laneLoss hoff]
    rfl

end

-- ------------------------------------------------------------------ a quad's PLL (R308, R325)

/-- The status registers of lanes. -/
def statusRegs (ls : List Nat) : Regs := ls.map fun l => (.LANE_LANE_STATUS, l)

/-- Several lanes of a quad lose lock. -/
theorem Kept.lanesLoss {s : State} {q : Nat} (hoff : s.f F.LANE_ALERT_CTRL_EN q = 0) {ls : List Nat} (hls : ∀ l ∈ ls, l / 4 = q) :
    Kept s (ls.foldl State.laneLoss s) (statusRegs ls) [.lanes] := by
  induction ls generalizing s with
  | nil => exact Kept.start ..
  | cons l ls ih =>
    have hl : l / 4 = q := hls l (by simp)
    have hfirst : Kept s (s.laneLoss l) [(.LANE_LANE_STATUS, l)] [.lanes] := Kept.laneLoss (by rw [hl]; exact hoff)
    exact (hfirst.trans (ih ((hfirst.f _ _ rfl (by simp)).trans hoff) fun m hm => hls m (by simp [hm]))).weaken (by simp [statusRegs])
      (by simp)

theorem State.word_lanesLoss {s : State} {q : Nat} (hoff : s.f F.LANE_ALERT_CTRL_EN q = 0) {ls : List Nat} (hls : ∀ l ∈ ls, l / 4 = q)
    (hnodup : ls.Nodup) {l : Nat} (hl : l ∈ ls) :
    (ls.foldl State.laneLoss s).word .LANE_LANE_STATUS l = lostStatus (s.word .LANE_LANE_STATUS l) := by
  induction ls generalizing s with
  | nil => exact absurd hl List.not_mem_nil
  | cons m ls ih =>
    have hm : m / 4 = q := hls m (by simp)
    have hoffm : s.f F.LANE_ALERT_CTRL_EN (m / 4) = 0 := by rw [hm]; exact hoff
    have hoff' : (s.laneLoss m).f F.LANE_ALERT_CTRL_EN q = 0 := ((Kept.laneLoss hoffm).f _ _ rfl (by simp)).trans hoff
    have hrest : ∀ k ∈ ls, k / 4 = q := fun k hk => hls k (by simp [hk])
    obtain ⟨hnot, hnodup'⟩ := List.nodup_cons.1 hnodup
    rw [List.foldl_cons]
    rcases List.mem_cons.1 hl with rfl | hin
    · rw [(Kept.lanesLoss hoff' hrest).regs _ _ rfl (by simpa [statusRegs] using hnot), State.word_laneLoss hoffm]
    · rw [ih hoff' hrest hnodup' hin, (Kept.laneLoss hoffm).regs _ _ rfl (by simpa using fun h : l = m => hnot (h ▸ hin))]

theorem quadLanes_quad (q : Nat) : ∀ l ∈ quadLanes q, l / 4 = q := by
  intro l hl
  obtain ⟨i, hi, rfl⟩ := List.mem_map.1 hl
  have := List.mem_range.1 hi
  omega

theorem quadLanes_nodup (q : Nat) : (quadLanes q).Nodup := List.nodup_range.map fun _ _ h => Nat.add_left_cancel h

/-- A quad whose PLL has lost lock. -/
def State.pllOut (s : State) (q : Nat) : State := (s.setF F.LANE_QUAD_STATUS_PLL_LOCK q 0).raise F.LANE_QUAD_STATUS_PLL_LOST q

theorem Kept.pllOut (s : State) (q : Nat) : Kept s (s.pllOut q) [(.LANE_QUAD_STATUS, q)] [] :=
  ((Kept.setF ..).trans (Kept.raise ..)).weaken (by simp) (by simp)

theorem Runs.pllLost {s : State} {q : Nat} (hs : s.ready = true) (hq : q < Part.quads s.part) (hlock : s.f F.LANE_QUAD_STATUS_PLL_LOCK q = 1)
    (hoff : s.f F.LANE_ALERT_CTRL_EN q = 0) : Runs (.pllLost q) s fun t =>
      t.word .LANE_QUAD_STATUS q = changed (s.word .LANE_QUAD_STATUS q)
        [(F.LANE_QUAD_STATUS_PLL_LOCK, 0), (F.LANE_QUAD_STATUS_PLL_LOST, 1)] ∧
      (∀ i, i < 4 → t.word .LANE_LANE_STATUS (4 * q + i) = lostStatus (s.word .LANE_LANE_STATUS (4 * q + i))) ∧
      Kept s t ((.LANE_QUAD_STATUS, q) :: (List.range 4).map fun i => (.LANE_LANE_STATUS, 4 * q + i)) [.lanes] := by
  have hout := Kept.pllOut s q
  have hoff' : (s.pllOut q).f F.LANE_ALERT_CTRL_EN q = 0 := (hout.f _ _ rfl (by simp)).trans hoff
  have hlost := Kept.lanesLoss hoff' (quadLanes_quad q)
  have hf : s.pllLost q = (quadLanes q).foldl State.laneLoss (s.pllOut q) := if_neg (by simp [State.on, hlock, hq])
  refine Runs.of_effect (R := (.LANE_QUAD_STATUS, q) :: (List.range 4).map fun i => (.LANE_LANE_STATUS, 4 * q + i)) (A := [.lanes])
    (f := fun s => s.pllLost q) rfl hs hf ((hout.trans hlost).weaken (by rw [statusRegs, quadLanes, List.map_map]; exact List.Subset.refl _) (by simp)) (by decide)
    (by simp [calmRegs]) fun t hq' hk => ⟨?_, fun i hi => ?_, hk⟩
  · rw [hq'.word_eq rfl, hlost.regs _ _ rfl (by simp [statusRegs]), State.pllOut, State.word_raise, if_pos ⟨rfl, rfl⟩, State.word_setF,
      if_pos ⟨rfl, rfl⟩]
    rfl
  · have hmem : 4 * q + i ∈ quadLanes q := List.mem_map.2 ⟨i, List.mem_range.2 hi, rfl⟩
    rw [hq'.word_eq rfl, State.word_lanesLoss hoff' (quadLanes_quad q) (quadLanes_nodup q) hmem, hout.regs _ _ rfl (by simp)]

theorem Runs.quadPllLock {s : State} {q : Nat} (hs : s.ready = true) (hq : q < Part.quads s.part) (hpower : s.niPowered (0x70 + q) = true) :
    Runs (.quadPllLock q) s fun t =>
      t.word .LANE_QUAD_STATUS q = changed (s.word .LANE_QUAD_STATUS q) [(F.LANE_QUAD_STATUS_PLL_LOCK, 1)] ∧
      Kept s t [(.LANE_QUAD_STATUS, q)] [] := by
  refine Runs.of_effect (f := fun s => if q < Part.quads s.part ∧ s.niPowered (0x70 + q) then s.raise F.LANE_QUAD_STATUS_PLL_LOCK q else s)
    rfl hs (if_pos ⟨hq, hpower⟩) (Kept.raise ..) (by decide) (by simp [calmRegs]) fun t hq' hk => ⟨?_, hk⟩
  rw [hq'.word_eq rfl, State.word_raise, if_pos ⟨rfl, rfl⟩]
  rfl

-- ------------------------------------------------------------------ transmit streams (R313, R321)

section
variable {s : State} {l : Nat} (hhand : (s.lane l).txHand = [])
include hhand

/-- A transmitter with no chunk in hand stays where it is. -/
theorem State.txMove_none (n : Nat) : s.txMove l n = s := by
  cases n with
  | zero => rfl
  | succ n =>
    rw [State.txMove, hhand]
    exact ite_self _

end

/-- A lane whose transmit stream begins now. -/
def State.txBegun (s : State) (l : Nat) : State :=
  ((s.setLane l { s.lane l with txFrom := some s.time }).setPair .LANE_TX_START_LO .LANE_TX_START_HI l s.now.toNat).count
    F.LANE_LANE_STATUS_STREAM_SEQ l

theorem Kept.txBegun (s : State) (l : Nat) : Kept s (s.txBegun l)
    [(.LANE_LANE_STATUS, l), (.LANE_TX_START_LO, l), (.LANE_TX_START_HI, l)] [.lanes] :=
  (((Kept.setLane ..).trans (Kept.setPair ..)).trans (Kept.count ..)).weaken (by simp) (by simp)

theorem State.start_txBegun (s : State) (l : Nat) : (s.txBegun l).pair .LANE_TX_START_LO .LANE_TX_START_HI l = s.now.toNat := by
  have hcount (u : State) : (u.count F.LANE_LANE_STATUS_STREAM_SEQ l).pair .LANE_TX_START_LO .LANE_TX_START_HI l =
      u.pair .LANE_TX_START_LO .LANE_TX_START_HI l := by
    simp [State.pair, State.word_count]
  rw [State.txBegun, hcount, State.pair_setPair _ _ (by decide) (BitVec.isLt _)]

theorem State.seq_txBegun (s : State) (l : Nat) :
    (s.txBegun l).f F.LANE_LANE_STATUS_STREAM_SEQ l = (s.f F.LANE_LANE_STATUS_STREAM_SEQ l + 1) % 2 ^ 16 := by
  have hset := (Kept.setLane s l { s.lane l with txFrom := some s.time }).trans
    (Kept.setPair _ .LANE_TX_START_LO .LANE_TX_START_HI l s.now.toNat)
  rw [State.txBegun, State.count, State.f_setF_same _ _ _ _ (by decide), Nat.mod_mod, hset.f _ _ rfl (by simp)]

theorem State.lane_txBegun (s : State) (l : Nat) : (s.txBegun l).lane l = { s.lane l with txFrom := some s.time } := by
  rw [State.txBegun, State.lane_count, State.lane_setPair, State.lane_setLane_same]

/-- A raw transmit stream begins at once. -/
theorem State.txStart_raw {s : State} {l : Nat} (htx : s.txOn l = true) (hfrom : (s.lane l).txFrom = none)
    (hmode : s.quadMode (l / 4) = 2 ∨ s.quadMode (l / 4) = 3) (hrun : s.funcState (.quad (l / 4)) = 1) :
    s.txStart l = (s.txBegun l).txMove l 9 := by
  have hstream : streamMode (s.quadMode (l / 4)) = true := by rcases hmode with h | h <;> rw [h] <;> rfl
  have hnot : ¬ (s.quadMode (l / 4) = 1 ∧ s.on F.LANE_JESD_CFG_SUBCLASS (l / 4) = true) := by rcases hmode with h | h <;> simp [h]
  have hstay : s.advanceTo (BitVec.ofNat 64 s.time.toNat) = s := by simp [State.advanceTo]
  rw [State.txStart, if_neg (by simp [htx, hfrom, hstream, hrun])]
  dsimp only
  rw [if_neg hnot]
  dsimp only
  rw [hstay]
  rfl

theorem Runs.rawTransmitStart {s : State} {l : Nat} (hs : s.ready = true) (htx : s.txOn l = true) (hfrom : (s.lane l).txFrom = none)
    (hmode : s.quadMode (l / 4) = 2 ∨ s.quadMode (l / 4) = 3) (hrun : s.funcState (.quad (l / 4)) = 1) (hhand : (s.lane l).txHand = []) :
    Runs (.txStreamStart l) s fun t =>
      (t.lane l).txFrom = some s.time ∧ t.pair .LANE_TX_START_LO .LANE_TX_START_HI l = s.now.toNat ∧
      t.f F.LANE_LANE_STATUS_STREAM_SEQ l = (s.f F.LANE_LANE_STATUS_STREAM_SEQ l + 1) % 2 ^ 16 ∧
      Kept s t [(.LANE_LANE_STATUS, l), (.LANE_TX_START_LO, l), (.LANE_TX_START_HI, l)] [.lanes] := by
  have hf : s.txStart l = s.txBegun l := (State.txStart_raw htx hfrom hmode hrun).trans
    (State.txMove_none (by rw [State.lane_txBegun]; exact hhand) _)
  refine Runs.of_effect (f := fun s => s.txStart l) rfl hs hf (Kept.txBegun ..) (by decide) (by simp [calmRegs])
    fun t hq hk => ⟨?_, ?_, ?_, hk⟩
  · rw [hq.lane_eq List.not_mem_nil, State.lane_txBegun]
  · rw [hq.pair_eq rfl rfl, State.start_txBegun]
  · rw [hq.f_eq rfl, State.seq_txBegun]

/-- What an NI can take is left by an update of other registers. -/
theorem Kept.niTakes {u t : State} {R : Regs} {A : List Area} (h : Kept u t R A) (hR : ∀ x ∈ R, x.1 ∉ calmRegs) (n : Nat) :
    t.niTakes n = u.niTakes n := by
  have hpend : ∀ r ∈ calmRegs, isPend r = false := by simp [calmRegs, isPend]
  exact State.niTakes_congr h.part (fun r hr i => h.regs r i (hpend r hr) fun hx => hR _ hx hr) n

/-- A lane that has moved past the chunk it was to send next. -/
def LaneState.passed (v : LaneState) : LaneState := { v with txNext := v.txNext + 1, txAsked := max v.txAsked (v.txNext + 1) }

/-- The tick of a lane's next transmit chunk. -/
def State.txDue (s : State) (l : Nat) (t0 : DWord) : DWord := t0 + BitVec.ofNat 64 (s.txTicks l ((s.lane l).txNext * s.txChunk l))

/-- A lane that moves past a chunk that is due. -/
def State.txPassed (s : State) (l : Nat) (t0 : DWord) : State := (s.advanceTo (s.txDue l t0)).setLane l (s.lane l).passed

theorem State.txPassed_work (s : State) (l : Nat) (t0 : DWord) : LaneWork s (s.txPassed l t0) [] [.clock, .lanes] :=
  (LaneWork.of_kept (Kept.advanceTo ..) (by decide) (by simp)).trans (LaneWork.setLane ..)

theorem State.out_txPassed (s : State) (l : Nat) (t0 : DWord) : (s.txPassed l t0).out = s.out := State.advanceTo_out ..

/-- A chunk goes out as zeros and is counted. -/
def State.zerosOut (s : State) (l chunk : Nat) : State := (s.txSends l chunk []).txZeros l false

theorem Kept.zerosOut (s : State) (l chunk : Nat) : Kept s (s.zerosOut l chunk) [(.LANE_LANE_STATUS, l), (.LANE_ERR_CNT, l)] [.out] :=
  (((Kept.emit ..).trans (Kept.bump ..)).trans (Kept.raise ..)).weaken (by simp) (by simp)

theorem zeros_getD (n : Nat) : ((List.range n).map fun i => ([] : List Byte).getD i 0) = List.replicate n 0 := by
  simp

theorem State.out_zerosOut (s : State) (l chunk : Nat) : (s.zerosOut l chunk).out = s.out ++
    [.lane l (chunk * s.txChunk l) (lineWords (s.quadMode (l / 4)) (List.replicate (s.txChunk l) 0))] := by
  have hout : (s.zerosOut l chunk).out = (s.txSends l chunk []).out := rfl
  rw [hout, State.txSends, State.out_emit, zeros_getD]

theorem State.word_zerosOut (s : State) (l chunk : Nat) :
    (s.zerosOut l chunk).word .LANE_LANE_STATUS l = changed (s.word .LANE_LANE_STATUS l) [(F.LANE_LANE_STATUS_UNDERRUN, 1)] ∧
    (s.zerosOut l chunk).word .LANE_ERR_CNT l = changed (s.word .LANE_ERR_CNT l)
      [(F.LANE_ERR_CNT_UNDERRUN, s.counted F.LANE_ERR_CNT_UNDERRUN l 1)] := by
  have hsent : Kept s (s.txSends l chunk []) [] [.out] := Kept.emit ..
  constructor
  · rw [State.zerosOut, State.txZeros, if_neg (by decide), State.word_raise, if_pos ⟨rfl, rfl⟩, State.bump, State.word_setF, if_neg (by simp),
      hsent.regs _ _ rfl (by simp)]
    rfl
  · rw [State.zerosOut, State.txZeros, if_neg (by decide), State.word_raise, if_neg (by simp), State.bump, State.word_setF, if_pos ⟨rfl, rfl⟩,
      hsent.regs _ _ rfl (by simp), hsent.f _ _ rfl (by simp)]
    rfl

/-- A lane whose NI takes nothing, or whose quad is stopping, asks for no chunk. -/
theorem State.txAskAll_none {s : State} {l : Nat} (h : s.niTakes (laneNi l) = false ∨ s.funcState (.quad (l / 4)) = 2) : s.txAskAll l = s := by
  have hstop : (!s.txOn l || s.funcState (.quad (l / 4)) != 1 || decide ((s.lane l).txNext + 8 ≤ (s.lane l).txAsked) ||
      !s.niTakes (laneNi l)) = true := by
    rcases h with h | h <;> simp [h]
  rw [State.txAskAll, State.txAsk]
  dsimp only
  rw [if_pos hstop, ite_self]

/-- The chunk that is due goes out as zeros. -/
def State.underran (s : State) (l : Nat) (t0 : DWord) : State := (s.txPassed l t0).zerosOut l (s.lane l).txNext

theorem State.underran_work (s : State) (l : Nat) (t0 : DWord) :
    LaneWork s (s.underran l t0) [(.LANE_LANE_STATUS, l), (.LANE_ERR_CNT, l)] [.clock, .lanes, .out] :=
  (s.txPassed_work l t0).trans (.of_kept (Kept.zerosOut ..) (by decide) (by simp [quadRegs]))

section
variable {s : State} {l : Nat} {t0 : DWord} (htx : s.txOn l = true) (hfrom : (s.lane l).txFrom = some t0) (hhand : (s.lane l).txHand = [])
include htx hfrom hhand

theorem State.underrun_eq : s.underrun l = (s.underran l t0).txAskAll l := by
  have hdue : Kept s (s.advanceTo (s.txDue l t0)) [] [.clock] := Kept.advanceTo ..
  have htx' : (s.advanceTo (s.txDue l t0)).txOn l = true := ((LaneWork.of_kept hdue (by decide) (by simp)).txOn l).trans htx
  rw [State.underrun, State.txMove_none hhand]
  dsimp only
  rw [hfrom]
  dsimp only
  rw [← State.txDue, State.lane_advanceTo, if_neg (by simp [hhand, htx'])]
  rfl

theorem Runs.underrun (hs : s.ready = true) (hask : s.niTakes (laneNi l) = false ∨ s.funcState (.quad (l / 4)) = 2) :
    Runs (.underrun l) s fun t =>
      (s.time.toNat < t0.toNat + s.txTicks l ((s.lane l).txNext * s.txChunk l) →
        t0.toNat + s.txTicks l ((s.lane l).txNext * s.txChunk l) < 2 ^ 64 →
        t.time.toNat = t0.toNat + s.txTicks l ((s.lane l).txNext * s.txChunk l)) ∧
      (t.lane l).txNext = (s.lane l).txNext + 1 ∧
      t.word .LANE_LANE_STATUS l = changed (s.word .LANE_LANE_STATUS l) [(F.LANE_LANE_STATUS_UNDERRUN, 1)] ∧
      t.word .LANE_ERR_CNT l = changed (s.word .LANE_ERR_CNT l)
        [(F.LANE_ERR_CNT_UNDERRUN, s.counted F.LANE_ERR_CNT_UNDERRUN l 1)] ∧
      SentOut s t [.lane l ((s.lane l).txNext * s.txChunk l) (lineWords (s.quadMode (l / 4)) (List.replicate (s.txChunk l) 0))] ∧
      Kept s t [(.LANE_LANE_STATUS, l), (.LANE_ERR_CNT, l)] [.clock, .lanes, .out] := by
  have hwork := s.underran_work l t0
  have hpassed := s.txPassed_work l t0
  have hzeros := Kept.zerosOut (s.txPassed l t0) l (s.lane l).txNext
  have hask' : (s.underran l t0).niTakes (laneNi l) = false ∨ (s.underran l t0).funcState (.quad (l / 4)) = 2 := by
    refine hask.imp (fun h => ?_) (hwork.funcState _).trans
    rw [hwork.kept.niTakes (by simp [calmRegs]), h]
  have hf := (State.underrun_eq htx hfrom hhand).trans (State.txAskAll_none hask')
  have hlane : (s.underran l t0).lane l = (s.lane l).passed := by
    rw [State.underran, hzeros.lane_eq (by decide), State.txPassed, State.lane_setLane_same]
  obtain ⟨hstatus, herrors⟩ := (s.txPassed l t0).word_zerosOut l (s.lane l).txNext
  refine Runs.of_effect (f := fun s => s.underrun l) rfl hs hf hwork.kept (by decide) (by simp [calmRegs])
    fun t hq hk => ⟨fun hahead hbound => ?_, ?_, ?_, ?_, SentOut.of_quiet hq ?_, hk⟩
  · have hdue : (s.txDue l t0).toNat = t0.toNat + s.txTicks l ((s.lane l).txNext * s.txChunk l) := by
      rw [State.txDue, BitVec.toNat_add, BitVec.toNat_ofNat, Nat.add_mod_mod, Nat.mod_eq_of_lt hbound]
    have htime : (s.txPassed l t0).time = s.txDue l t0 := State.advanceTo_time_ahead (hdue ▸ hahead)
    rw [hq.time_eq, State.underran, hzeros.time (by decide), htime, hdue]
  · rw [hq.lane_eq List.not_mem_nil, hlane, LaneState.passed]
  · rw [hq.word_eq rfl, State.underran, hstatus, hpassed.kept.regs _ _ rfl (by simp)]
  · rw [hq.word_eq rfl, State.underran, herrors, hpassed.kept.regs _ _ rfl (by simp), State.counted, hpassed.kept.f _ _ rfl (by simp), State.counted]
  · rw [State.underran, State.out_zerosOut, State.out_txPassed, hpassed.txChunk, hpassed.quadMode]

end

-- ------------------------------------------------------------------ the eye scan (R326)

/-- A lane's eye result, cleared. -/
def State.eyeCleared (s : State) (l : Nat) : State := s.setWord .LANE_EYE_RESULT l 0

theorem Kept.eyeCleared (s : State) (l : Nat) : Kept s (s.eyeCleared l) [(.LANE_EYE_RESULT, l)] [] := Kept.setWord ..

theorem State.f_eyeCleared (s : State) (l : Nat) {F : Fld} (hF : F.reg = .LANE_EYE_RESULT) : (s.eyeCleared l).f F l = 0 := by
  rw [State.f, State.eyeCleared, hF, State.word_setWord_same, fieldOf]
  simp

theorem Runs.eyeScan {s : State} {l : Nat} (hs : s.ready = true) (hl : l < 4 * Part.quads s.part) (hstart : s.f F.LANE_EYE_CTRL_START l = 0) :
    Runs (.eyeScan l) s fun t =>
      t.f F.LANE_EYE_CTRL_START l = s.f F.LANE_LANE_STATUS_CDR_LOCK l ∧
      t.f F.LANE_EYE_RESULT_DONE l = 1 - s.f F.LANE_LANE_STATUS_CDR_LOCK l ∧ t.f F.LANE_EYE_RESULT_VALID l = 0 ∧
      t.f F.LANE_EYE_RESULT_ERRORS l = 0 ∧ Kept s t [(.LANE_EYE_CTRL, l), (.LANE_EYE_RESULT, l)] [] := by
  have hclear := Kept.eyeCleared s l
  have hkeep (F : Fld) (hp : isPend F.reg = false) (hF : F.reg ≠ .LANE_EYE_RESULT) : (s.eyeCleared l).f F l = s.f F l :=
    hclear.f F l hp (by simp [hF])
  have hcdr := s.bit_eq (F := F.LANE_LANE_STATUS_CDR_LOCK) rfl l
  have hf : s.eyeScan l = if s.on F.LANE_LANE_STATUS_CDR_LOCK l then (s.eyeCleared l).raise F.LANE_EYE_CTRL_START l
      else (s.eyeCleared l).raise F.LANE_EYE_RESULT_DONE l := by
    rw [State.eyeScan, if_neg (by simp [State.on, hstart, hl])]
    dsimp only
    rw [← State.eyeCleared, State.on, hkeep _ rfl (by decide), ← State.on]
  cases hon : s.on F.LANE_LANE_STATUS_CDR_LOCK l
  · rw [hon, if_neg (by decide)] at hf hcdr
    refine Runs.of_effect (R := [(.LANE_EYE_CTRL, l), (.LANE_EYE_RESULT, l)]) (A := []) (f := fun s => s.eyeScan l) rfl hs hf
      ((hclear.trans (Kept.raise ..)).weaken (by simp) (by simp)) (by decide) (by simp [calmRegs]) fun t hq hk => ⟨?_, ?_, ?_, ?_, hk⟩
    · rw [hq.f_eq rfl, State.raise, State.f_setF_otherReg _ (by decide), hkeep _ rfl (by decide), hstart, hcdr]
    · rw [hq.f_eq rfl, State.f_raise_same _ _ _ (by decide) (by decide), ← hcdr]
    · rw [hq.f_eq rfl, State.raise, State.f_setF_otherField _ (by decide) (.inl (by decide)), State.f_eyeCleared _ _ rfl]
    · rw [hq.f_eq rfl, State.raise, State.f_setF_otherField _ (by decide) (.inl (by decide)), State.f_eyeCleared _ _ rfl]
  · rw [hon, if_pos rfl] at hf hcdr
    refine Runs.of_effect (R := [(.LANE_EYE_CTRL, l), (.LANE_EYE_RESULT, l)]) (A := []) (f := fun s => s.eyeScan l) rfl hs hf
      ((hclear.trans (Kept.raise ..)).weaken (by simp) (by simp)) (by decide) (by simp [calmRegs]) fun t hq hk => ⟨?_, ?_, ?_, ?_, hk⟩
    · rw [hq.f_eq rfl, State.f_raise_same _ _ _ (by decide) (by decide), ← hcdr]
    · rw [hq.f_eq rfl, State.raise, State.f_setF_otherReg _ (by decide), State.f_eyeCleared _ _ rfl, ← hcdr]
    · rw [hq.f_eq rfl, State.raise, State.f_setF_otherReg _ (by decide), State.f_eyeCleared _ _ rfl]
    · rw [hq.f_eq rfl, State.raise, State.f_setF_otherReg _ (by decide), State.f_eyeCleared _ _ rfl]

/-- The result of an eye scan, complete. -/
def State.eyeShown (s : State) (l errors : Nat) : State :=
  (((s.setF F.LANE_EYE_CTRL_START l 0).setF F.LANE_EYE_RESULT_ERRORS l (min errors (2 ^ 30 - 1))).raise F.LANE_EYE_RESULT_VALID l).raise
    F.LANE_EYE_RESULT_DONE l

theorem Kept.eyeShown (s : State) (l errors : Nat) : Kept s (s.eyeShown l errors) [(.LANE_EYE_CTRL, l), (.LANE_EYE_RESULT, l)] [] :=
  ((((Kept.setF ..).trans (Kept.setF ..)).trans (Kept.raise ..)).trans (Kept.raise ..)).weaken (by simp) (by simp)

/-- A count with VALID and DONE fills its word. -/
theorem eyeResult_eq (v : Word) {n : Nat} (h : n < 2 ^ 30) :
    changed v [(F.LANE_EYE_RESULT_ERRORS, n), (F.LANE_EYE_RESULT_VALID, 1), (F.LANE_EYE_RESULT_DONE, 1)] = BitVec.ofNat 32 (n + 3 * 2 ^ 30) := by
  apply BitVec.eq_of_toNat_eq
  have hv := v.isLt
  have hthree : changed v [(F.LANE_EYE_RESULT_ERRORS, n), (F.LANE_EYE_RESULT_VALID, 1), (F.LANE_EYE_RESULT_DONE, 1)] =
    withField (withField (withField v 0 30 n) 30 1 1) 31 1 1 := rfl
  rw [hthree, withField_toNat _ _ (by decide), withField_toNat _ _ (by decide), withField_toNat _ _ (by decide), BitVec.toNat_ofNat]
  norm_num
  omega

theorem Runs.eyeScanDone {s : State} {l : Nat} (errors : Nat) (hs : s.ready = true) (hstart : s.f F.LANE_EYE_CTRL_START l = 1) :
    Runs (.eyeScanDone l errors) s fun t =>
      t.f F.LANE_EYE_CTRL_START l = 0 ∧
      t.word .LANE_EYE_RESULT l = BitVec.ofNat 32 (min errors (2 ^ 30 - 1) + 3 * 2 ^ 30) ∧
      Kept s t [(.LANE_EYE_CTRL, l), (.LANE_EYE_RESULT, l)] [] := by
  refine Runs.of_effect (u := s.eyeShown l errors) (f := fun s => s.eyeScanDone l errors) rfl hs (if_neg (by simp [State.on, hstart])) (Kept.eyeShown ..) (by decide)
    (by simp [calmRegs]) fun t hq hk => ⟨?_, ?_, hk⟩
  · rw [hq.f_eq rfl, State.eyeShown, State.raise, State.f_setF_otherReg _ (by decide), State.raise, State.f_setF_otherReg _ (by decide),
      State.f_setF_otherReg _ (by decide), State.f_setF_same _ _ _ _ (by decide), Nat.zero_mod]
  · rw [hq.word_eq rfl, ← eyeResult_eq (s.word .LANE_EYE_RESULT l) (by omega), State.eyeShown, State.word_raise, if_pos ⟨rfl, rfl⟩,
      State.word_raise, if_pos ⟨rfl, rfl⟩, State.word_setF, if_pos ⟨rfl, rfl⟩, State.word_setF, if_neg (by simp)]
    rfl

-- ------------------------------------------------------------------ the obligation

/-- Settles O32: a stream's start, end and bytes change its lane and the lane's registers alone, nothing goes out before a chunk is
complete or due, and only a stream that starts, a release and a due chunk carry time on. -/
theorem laneStreams : Obligations.LaneStreams := by
  refine ⟨?_, ?_, ?_, ?_, ?_, ?_, ?_, ?_, ?_, ?_, ?_, ?_, ?_, ?_⟩
  · intro s l wait before ilasErr hs _ hrx hmode hdown hrun
    exact Runs.rawStreamStart hs hrx hmode hdown hrun
  · intro s l m wait before hs _ _ hne hrx hmode hsub hrun hall hl hm
    rcases Nat.lt_or_ge (s.f F.LANE_LANE_STATUS_BLOCK_LOCK m) 1 with hblock | hblock
    · have hzero : s.f F.LANE_LANE_STATUS_BLOCK_LOCK m = 0 := by omega
      refine (Runs.groupLocks hs hne hrx hmode hsub hrun hall hl hzero).imp fun t ⟨hstep, hword, hk⟩ =>
        ⟨hstep, fun hone => absurd (hzero.symm.trans hone) (by decide), fun _ => ⟨hword, hk⟩, hk.weaken ?_ (List.Subset.refl _)⟩
      simp
    · have hlt : s.f F.LANE_LANE_STATUS_BLOCK_LOCK m < 2 ^ 1 := fieldOf_lt ..
      have hone : s.f F.LANE_LANE_STATUS_BLOCK_LOCK m = 1 := by omega
      refine (Runs.groupBegins hs hne hrx hmode hsub hrun hall hl hm hone).imp fun t ⟨hstep, hleft, hright, hk⟩ =>
        ⟨hstep, fun _ => ?_, fun hzero => absurd (hzero.symm.trans hone) (by decide), hk⟩
      obtain ⟨hupl, hkl, hstartl⟩ := hleft
      obtain ⟨hupm, hkm, hstartm⟩ := hright
      exact ⟨hupl, hupm, hkl, hkm, hstartl, hstartm⟩
  · intro s l wait before b hs _ hrx hmode hsub hrun hl hb hticks hwait hbound
    exact Runs.alignedStart hs hrx hmode hsub hrun hl hb hticks hwait hbound
  · intro s l w b hs _ hrx hup hheld hpart hroom hw
    exact Runs.rawWord hs hrx hup hheld hpart hroom hw
  · intro s l k d data hs _ hrx hheld _ htakes hup hrecord hdec hvalid hnow
    exact Runs.chunkLeaves hs hrx hheld htakes hup hrecord hdec hvalid hnow
  · intro s l arrival line hs _ hrx hmode hup hheld hpart hrun hlen hroom _
    exact Runs.multiblockGoes hs hrx hmode hup hheld hpart hrun hlen hroom
  · intro s l arrival m hs _ hrx hmode hup hm hoff
    exact Runs.multiblockMissing hs hrx hmode hup hm hoff
  · intro s l hs _ hrx hoff
    exact Runs.laneLoss hoff hs hrx
  · intro s q hs _ hq hlock hoff
    exact Runs.pllLost hs hq hlock hoff
  · intro s l hs _ htx hfrom hmode hrun hhand
    exact Runs.rawTransmitStart hs htx hfrom hmode hrun hhand
  · intro s l t0 hs _ htx hfrom hhand hask
    exact Runs.underrun htx hfrom hhand hs hask
  · intro s q hs hq hpower
    exact Runs.quadPllLock hs hq hpower
  · intro s l hs hl hstart
    exact Runs.eyeScan hs hl hstart
  · intro s l errors hs hstart _
    exact Runs.eyeScanDone errors hs hstart

end Sys2Proof.Machine
end

section
/-! PROOF. Host DMA's own work (R364 to R369): what a channel and the reads of host memory are after an update, and why nothing more
comes of a command on a part where only a channel of host DMA holds anything. -/

namespace Sys2Proof.Machine

-- ------------------------------------------------------------------ channels and host memory

section
variable (s : State)

theorem State.dma_setDma (c : Nat) (v : Dma) (k : Nat) : (s.setDma c v).dma k = if k = c then v else s.dma k := Sparse.get_set ..

@[simp] theorem State.dma_setDma_same (c : Nat) (v : Dma) : (s.setDma c v).dma c = v := by rw [State.dma_setDma, if_pos rfl]

end

theorem Kept.host_eq {u t : State} {R : Regs} {A : List Area} (h : Kept u t R A) (hA : Area.host ∉ A) : t.host = u.host := h.areas .host hA

theorem Kept.dma_eq {u t : State} {R : Regs} {A : List Area} (h : Kept u t R A) (hA : Area.host ∉ A) (c : Nat) : t.dma c = u.dma c := by
  rw [State.dma, h.host_eq hA, State.dma]

-- ------------------------------------------------------------------ nothing but host DMA holds anything

/-- Engines that hold nothing to do leave the state. -/
theorem foldl_still {α β : Type} {f : α → β → α} {a : α} {l : List β} (h : ∀ x ∈ l, f a x = a) : l.foldl f a = a := by
  induction l with
  | nil => rfl
  | cons x l ih =>
    rw [List.foldl_cons, h x (by simp)]
    exact ih fun y hy => h y (by simp [hy])

section
variable {s : State}

theorem State.edgesPass_still (h : s.edgesDue = false) : s.edgesPass = s := by
  rw [State.edgesDue, Bool.or_eq_false_iff, List.any_eq_false, Bool.not_eq_false', List.isEmpty_iff] at h
  obtain ⟨hspent, hbusy⟩ := h
  have hfirst : s.fabric.spent.foldl State.spentWord s = s :=
    foldl_still fun x hx => by rw [State.spentWord, if_pos (by simpa using hspent x hx)]
  rw [State.edgesPass, hfirst, hbusy]
  rfl

theorem State.csfPass_still (h : s.csfDue = false) : s.csfPass = s := by
  rw [State.csfPass, List.filter_eq_nil_iff.2 fun n hn => List.any_eq_false.1 h n hn]
  rfl

theorem State.markersPass_still (h : s.markersDue = false) : s.markersPass = s := by
  rw [State.markersPass, List.filter_eq_nil_iff.2 fun n hn => List.any_eq_false.1 h n hn]
  rfl

end

/-- The state without what host DMA holds. -/
def State.withoutDma (s : State) : State := s.putHost { s.host with dma := [] }

theorem State.calm_withoutDma (s : State) : s.withoutDma.calm = true ↔
    s.dev.due = [] ∧ s.net.ended = [] ∧ s.dbg.resume = [] ∧ s.host.pieces = [] ∧
      s.cfg.load = none ∧ s.cfg.transfer = none ∧ s.cfg.queued = none ∧ s.resetIsDue = false ∧ s.edgesDue = false ∧
      s.csfDue = false ∧ s.markersDue = false ∧ s.repairWaits = false := by
  have hedges : s.withoutDma.edgesDue = s.edgesDue := State.edgesDue_congr rfl rfl rfl rfl fun _ _ _ => rfl
  have hcsf : s.withoutDma.csfDue = s.csfDue := State.csfDue_congr rfl rfl fun _ _ _ => rfl
  have hmarkers : s.withoutDma.markersDue = s.markersDue := State.markersDue_congr rfl
  have hrepair : s.withoutDma.repairWaits = s.repairWaits := State.repairWaits_congr rfl rfl fun _ _ _ => rfl
  have hreset : s.withoutDma.resetIsDue = s.resetIsDue := State.resetIsDue_congr rfl rfl
  rw [State.calm_iff, hedges, hcsf, hmarkers, hrepair, hreset]
  simp [State.withoutDma]

/-- No reset was asked for. -/
theorem State.dueActs_none {s : State} (h : s.dev.due = []) : s.dueActs = s := by
  have hsame : s.putDev { s.dev with due := [] } = s := by
    rw [← h]
    rfl
  unfold State.dueActs
  rw [hsame, h]
  rfl

/-- A command's work ends where host DMA does what it can and finds nothing, and nothing else waits. -/
theorem State.work_dma {s : State} (hcalm : s.withoutDma.calm = true) (hdma : s.dmaPump = s) : s.work = s := by
  obtain ⟨hdue, hended, hresume, hpieces, hload, htransfer, hqueued, hreset, hedges, hcsf, hmarkers, hrepair⟩ := s.calm_withoutDma.1 hcalm
  have hbar : s.barPump s.host.pieces.length = s := by
    rw [hpieces]
    rfl
  have hpump : s.pump = s := by
    rw [State.pump, hbar, hdma]
    simp only [State.loadGate, State.fetchPump, State.transferPump, State.refill, hload, htransfer, State.edgesPass_still hedges,
      State.csfPass_still hcsf, State.markersPass_still hmarkers, State.fabricResetDue, hreset, State.repairGoesOn, hrepair,
      Bool.false_eq_true, if_false]
  rcases hc : s.calm with _ | _
  · rw [State.work_due hc hended hresume hpump (by simp [hedges, hcsf, hmarkers, hreset]), State.dueActs_none hdue]
  · exact State.work_calm hc

theorem calmRegs_pend : ∀ r ∈ calmRegs, isPend r = false := by simp [calmRegs, isPend]

/-- What waits outside host DMA is left by an update of host memory's reads and of other registers. -/
theorem Kept.withoutDma {s u : State} {R : Regs} {A : List Area} (h : Kept s u R A) (hA : ∀ a ∈ calmAreas, a ≠ .host → a ∉ A)
    (hR : ∀ x ∈ R, x.1 ∉ calmRegs) (hpieces : u.host.pieces = s.host.pieces) (hs : s.withoutDma.calm = true) :
    u.withoutDma.calm = true := by
  have hw : ∀ r ∈ calmRegs, ∀ i, u.word r i = s.word r i := fun r hr i => h.regs r i (calmRegs_pend r hr) fun hx => hR _ hx hr
  have hnet : u.net = s.net := h.areas .net (hA _ (by decide) (by decide))
  have hcfg : u.cfg = s.cfg := h.areas .cfg (hA _ (by decide) (by decide))
  have hfabric : u.fabric = s.fabric := h.areas .fabric (hA _ (by decide) (by decide))
  have hrepair : u.repair = s.repair := h.areas .repair (hA _ (by decide) (by decide))
  have hrecord : u.record = s.record := h.areas .record (hA _ (by decide) (by decide))
  have hdbg : u.dbg = s.dbg := h.areas .dbg (hA _ (by decide) (by decide))
  obtain ⟨-, -, -, -, hdue, -⟩ := h.areas .dev (hA _ (by decide) (by decide))
  rw [State.calm_withoutDma, hdue, hnet, hdbg, hpieces, hcfg, State.resetIsDue_congr hcfg hrepair,
    State.edgesDue_congr h.part hnet hcfg hfabric hw, State.csfDue_congr h.part hnet hw, State.markersDue_congr hnet,
    State.repairWaits_congr hrepair hrecord hw]
  exact s.calm_withoutDma.1 hs

end Sys2Proof.Machine
end

section
/-! PROOF. What a channel of host DMA does step by step (R364 to R368), and commands on a part where only one channel holds anything. -/

namespace Sys2Proof.Machine

-- ------------------------------------------------------------------ a channel with no descriptor

section
variable {s : State} {c : Nat}

theorem State.dmaFirst_nil (h : (s.dma c).descs = []) : s.dmaFirst c = none := by rw [State.dmaFirst, h, List.head?_nil]
theorem State.dmaFirst_cons {d : Desc} {ds : List Desc} (h : (s.dma c).descs = d :: ds) : s.dmaFirst c = some d := by
  rw [State.dmaFirst, h, List.head?_cons]

section
variable (h : s.dmaFirst c = none)
include h

theorem State.descCheck_none : s.descCheck c = s := by rw [State.descCheck, h]
theorem State.dmaClose_none : s.dmaClose c = s := by rw [State.dmaClose, h]
theorem State.dmaIssue_none (n : Nat) : s.dmaIssue c n = s := by cases n <;> simp only [State.dmaIssue, h]
theorem State.dmaMove_none (n : Nat) : s.dmaMove c n = s := by cases n <;> simp only [State.dmaMove, h]

end

theorem State.dma_hostAsk (s : State) (u : HostUse) (a len k : Nat) : (s.hostAsk u a len).dma k = s.dma k := by
  unfold State.hostAsk
  split <;> rfl

theorem State.descs_dmaFetch (s : State) (c : Nat) : ((s.dmaFetch c).dma c).descs = (s.dma c).descs := by
  rw [State.dmaFetch]
  split
  · rfl
  · dsimp only
    split
    · rfl
    · rw [State.dma_hostAsk, State.dma_setDma_same]

/-- A channel that holds no descriptor only fetches. -/
theorem State.dmaStep_empty (h : (s.dma c).descs = []) : s.dmaStep c = s.dmaFetch c := by
  have hfirst : (s.dmaFetch c).dmaFirst c = none := State.dmaFirst_nil ((s.descs_dmaFetch c).trans h)
  rw [State.dmaStep, State.descCheck_none (State.dmaFirst_nil h), State.dmaIssue_none hfirst, State.dmaMove_none hfirst, State.dmaClose_none hfirst]

-- ------------------------------------------------------------------ fetching (R364)

theorem State.dmaFetch_idle (h : s.funcState (.dma c) ≠ 1 ∨ (s.dma c).fetching.isSome = true ∨ (s.fetchable c).2 = 0) : s.dmaFetch c = s := by
  rw [State.dmaFetch]
  rcases h with h | h | h
  · exact if_pos (by simp [h])
  · exact if_pos (by simp [h])
  · split
    · rfl
    · exact if_pos h

/-- Nothing is posted beyond what the channel holds. -/
theorem State.fetchable_none (h : s.f F.HOST_CH_TAIL_INDEX c % s.dmaRingSize c =
    (s.f F.HOST_CH_HEAD_INDEX c + (s.dma c).descs.length) % s.dmaRingSize c) : (s.fetchable c).2 = 0 := by
  have hsize : 0 < s.dmaRingSize c := Nat.two_pow_pos _
  have hlt := Nat.mod_lt (s.f F.HOST_CH_HEAD_INDEX c + (s.dma c).descs.length) hsize
  have hposted : (s.f F.HOST_CH_TAIL_INDEX c + s.dmaRingSize c -
      (s.f F.HOST_CH_HEAD_INDEX c + (s.dma c).descs.length) % s.dmaRingSize c) % s.dmaRingSize c = 0 := by
    rw [← h] at hlt ⊢
    generalize s.f F.HOST_CH_TAIL_INDEX c = tail at *
    generalize s.dmaRingSize c = size at *
    rw [show tail + size - tail % size = size * (tail / size + 1) by have := Nat.div_add_mod tail size; rw [Nat.mul_add]; omega,
      Nat.mul_mod_right]
  simp only [State.fetchable, hposted, Nat.zero_min]

/-- The registers that host memory's gates stand in. -/
def hostGateRegs : List Reg := [.HOST_DMA_CTRL, .HOST_LINK_STATUS]

theorem Kept.hostGates {u t : State} {R : Regs} {A : List Area} (h : Kept u t R A) (hR : ∀ x ∈ R, x.1 ∉ hostGateRegs) :
    t.hostOpen = u.hostOpen ∧ t.hostUp = u.hostUp := by
  have hset (F : Fld) (hF : F.reg ∈ hostGateRegs) (hp : isPend F.reg = false) : t.f F 0 = u.f F 0 := h.f F 0 hp fun hx => hR _ hx hF
  simp only [State.hostOpen, State.hostUp, State.on, hset F.HOST_DMA_CTRL_EN (by decide) rfl, hset F.HOST_LINK_STATUS_BME (by decide) rfl,
    hset F.HOST_LINK_STATUS_D3HOT (by decide) rfl, hset F.HOST_LINK_STATUS_DL_UP (by decide) rfl, and_self]

/-- A Memory Read that has gone out under a tag. -/
def State.asked (s : State) (u : HostUse) (addr len tag : Nat) : State :=
  let s := s.putHost { s.host with reads := s.host.reads ++ [⟨tag, u, addr, len⟩] }
  s.emit (.hostRead tag addr len (s.hostRelaxed u))

theorem State.hostAsk_some {tag : Nat} (h : s.hostTag = some tag) (u : HostUse) (addr len : Nat) :
    s.hostAsk u addr len = s.asked u addr len tag := by
  unfold State.hostAsk
  split
  · next t ht =>
    rw [Option.some.inj (ht.symm.trans h)]
    rfl
  · next hn => exact absurd (hn.symm.trans h) nofun

theorem Kept.asked (s : State) (u : HostUse) (addr len tag : Nat) : Kept s (s.asked u addr len tag) [] [.host, .out] :=
  ((Kept.putHost ..).trans (Kept.emit ..)).weaken (by simp) (by simp)

@[simp] theorem State.dma_asked (s : State) (u : HostUse) (addr len tag k : Nat) : (s.asked u addr len tag).dma k = s.dma k := rfl

/-- A channel fetches what is posted. -/
theorem State.dmaFetch_some {next n : Nat} (hrun : s.funcState (.dma c) = 1) (hfetch : (s.dma c).fetching = none)
    (hgates : s.hostOpen = true ∧ s.hostUp = true) (hmay : s.fetchable c = (next, n)) (hn : n ≠ 0) :
    s.dmaFetch c = (s.setDma c { s.dma c with fetching := some (next, n) }).hostAsk (.fetch c) (s.dmaRingBase c + 32 * next) (32 * n) := by
  rw [State.dmaFetch, if_neg (by simp [hrun, hfetch, hgates]), hmay]
  exact if_neg hn

end

-- ------------------------------------------------------------------ a part where only one channel holds anything

/-- Only channel c of host DMA may hold anything, and the host is reached. -/
structure DmaAlone (s : State) (c : Nat) : Prop where
  powered : s.dev.porst = false
  calm : s.withoutDma.calm = true
  channel : c < 32
  gates : s.hostOpen = true ∧ s.hostUp = true
  waiting : s.host.readsWaiting = []
  others : ∀ k, k < 32 → k ≠ c → s.funcState (.dma k) = 0

theorem DmaAlone.of_dmaAlone {s : State} {c : Nat} (h : s.dmaAlone c = true) : DmaAlone s c := by
  simp only [State.dmaAlone, Bool.and_eq_true, decide_eq_true_eq, List.isEmpty_iff, List.all_eq_true, List.mem_range, Bool.or_eq_true,
    beq_iff_eq] at h
  obtain ⟨⟨⟨⟨⟨hready, hc⟩, hopen⟩, hup⟩, hwait⟩, hothers⟩ := h
  obtain ⟨hporst, hcalm⟩ := (State.ready_iff _).1 hready
  exact ⟨hporst, hcalm, hc, ⟨hopen, hup⟩, hwait, fun k hk hne => ((hothers k hk).resolve_left hne).1⟩

theorem State.dmaPump_still {s : State} {c : Nat} (hothers : ∀ k, k < 32 → k ≠ c → s.funcState (.dma k) = 0)
    (hstill : s.funcState (.dma c) ≠ 0 → s.dmaStep c = s) : s.dmaPump = s := by
  refine foldl_still fun k hk => ?_
  obtain ⟨hrange, hrun⟩ := List.mem_filter.1 hk
  have hrun : s.funcState (.dma k) ≠ 0 := by simpa using hrun
  by_cases hkc : k = c
  · subst hkc
    exact hstill hrun
  · exact absurd (hothers k (List.mem_range.1 hrange) hkc) hrun

/-- A command whose effect changes what one channel holds, and after which that channel has nothing more to do. -/
theorem Runs.of_dma {i : Instr} {s u : State} {f : State → State} {P : State → Prop} {R : Regs} {A : List Area} {c : Nat}
    (hc : exec i s = s.command f) (halone : DmaAlone s c) (hf : f s = u) (k : Kept s u R A) (hA : ∀ a ∈ calmAreas, a ≠ .host → a ∉ A)
    (hR : ∀ x ∈ R, x.1 ∉ calmRegs) (hstates : ∀ n, n ≠ c → ((Reg.HOST_CH_STATUS, n) : Reg × Nat) ∉ R)
    (hpieces : u.host.pieces = s.host.pieces) (hstill : u.funcState (.dma c) ≠ 0 → u.dmaStep c = u)
    (hP : ∀ t, Kept u t [] [] → Kept s t R A → P t) : Runs i s P := by
  have hothers (n : Nat) (hn : n < 32) (hne : n ≠ c) : u.funcState (.dma n) = 0 :=
    (k.f F.HOST_CH_STATUS_STATE n rfl (hstates n hne)).trans (halone.others n hn hne)
  have hwork : u.work = u := State.work_dma (k.withoutDma hA hR hpieces halone.calm) (State.dmaPump_still hothers hstill)
  refine ⟨u.settle, hc.trans ?_, hP _ u.settle_quiet.toKept ?_⟩
  · rw [State.command, if_neg (by simp [halone.powered]), State.ends, hf, hwork, k.became_self]
  · rw [← k.became_self]
    exact k.became

end Sys2Proof.Machine
end

section
/-! PROOF. Posting descriptors and their fetch, and deferred messages (R364, R367). -/

namespace Sys2Proof.Machine

-- ------------------------------------------------------------------ CH_TAIL (R364)

/-- TAIL of a channel, written. -/
def State.tailPosted (s : State) (c n : Nat) : State := s.setF F.HOST_CH_TAIL_INDEX c n

theorem State.writeTyped_tail (s : State) (who : Who) (c : Nat) (data : Word) :
    s.writeTyped who .HOST_CH_TAIL c data = s.tailPosted c (data.toNat % 65536) := by
  have hfields : (regSpec .HOST_CH_TAIL).fields = [⟨0, 16, .rw, false, .num 0⟩] := rfl
  have hnone (old new : Word) : changesJournaled (regSpec .HOST_CH_TAIL).fields old new = false := by rw [hfields]; rfl
  have hword (old : Word) : writeFields (fun _ => true) (regSpec .HOST_CH_TAIL).fields old data = withField old 0 16 (data.toNat % 65536) := by
    rw [hfields]
    simp [writeFields, writeField, fieldOf]
  rw [State.writeTyped_of_open (by decide), State.storeWord, hnone, if_neg (by decide), hword]
  rfl

theorem State.hostTag_congr {s t : State} (h : t.host.reads = s.host.reads) : t.hostTag = s.hostTag := by
  rw [State.hostTag, h, State.hostTag]

theorem State.hostTag_setDma (s : State) (c : Nat) (v : Dma) : (s.setDma c v).hostTag = s.hostTag := State.hostTag_congr rfl
theorem State.hostTag_tailPosted (s : State) (c n : Nat) : (s.tailPosted c n).hostTag = s.hostTag := State.hostTag_congr rfl

/-- A channel whose fetch has gone out under a tag. -/
def State.fetchSent (s : State) (c next n tag : Nat) : State :=
  (s.setDma c { s.dma c with fetching := some (next, n) }).asked (.fetch c) (s.dmaRingBase c + 32 * next) (32 * n) tag

section
variable (s : State) (c next n tag : Nat)

theorem Kept.fetchSent : Kept s (s.fetchSent c next n tag) [] [.host, .out] :=
  ((Kept.setDma ..).trans (Kept.asked ..)).weaken (by simp) (by simp)

theorem State.dma_fetchSent : (s.fetchSent c next n tag).dma c = { s.dma c with fetching := some (next, n) } := by
  rw [State.fetchSent, State.dma_asked, State.dma_setDma_same]

theorem State.out_fetchSent :
    (s.fetchSent c next n tag).out = s.out ++ [.hostRead tag (s.dmaRingBase c + 32 * next) (32 * n) false] := rfl

end

theorem State.dma_tailPosted (s : State) (c n k : Nat) : (s.tailPosted c n).dma k = s.dma k := rfl

theorem State.dmaFetch_sent {s : State} {c next n tag : Nat} (hrun : s.funcState (.dma c) = 1) (hfetch : (s.dma c).fetching = none)
    (hgates : s.hostOpen = true ∧ s.hostUp = true) (hmay : s.fetchable c = (next, n)) (hn : n ≠ 0) (htag : s.hostTag = some tag) :
    s.dmaFetch c = s.fetchSent c next n tag := by
  rw [State.dmaFetch_some hrun hfetch hgates hmay hn, State.hostAsk_some ((s.hostTag_setDma ..).trans htag), State.fetchSent]

/-- What is posted and not past the ring's end may be fetched, eight entries at most. -/
theorem State.fetchable_posted {s : State} {c head tail : Nat} (hdescs : (s.dma c).descs = []) (hhead : s.f F.HOST_CH_HEAD_INDEX c = head)
    (htail : s.f F.HOST_CH_TAIL_INDEX c = tail) (hlt : head < tail) (hsize : tail < s.dmaRingSize c) :
    s.fetchable c = (head, min 8 (tail - head)) := by
  have hnext : (head + 0) % s.dmaRingSize c = head := Nat.mod_eq_of_lt (by omega)
  have hposted : (tail + s.dmaRingSize c - head) % s.dmaRingSize c = tail - head := by
    rw [show tail + s.dmaRingSize c - head = tail - head + s.dmaRingSize c by omega, Nat.add_mod_right, Nat.mod_eq_of_lt (by omega)]
  simp only [State.fetchable, hdescs, List.length_nil, hhead, htail, hnext, hposted, Prod.mk.injEq, true_and]
  omega

theorem Runs.tailFetched {s : State} {who : Who} {c tag : Nat} {data : Word} (hs : s.ready = true) (halone : DmaAlone s c)
    (hrun : s.funcState (.dma c) = 1) (hsize : data.toNat % 65536 < s.dmaRingSize c)
    (hhead : s.f F.HOST_CH_HEAD_INDEX c < data.toNat % 65536) (htag : s.hostTag = some tag) :
    Runs (.chTail who c data) s fun t =>
      t.f F.HOST_CH_TAIL_INDEX c = data.toNat % 65536 ∧
      (t.dma c).fetching = some (s.f F.HOST_CH_HEAD_INDEX c, min 8 (data.toNat % 65536 - s.f F.HOST_CH_HEAD_INDEX c)) ∧
      SentOut s t [.hostRead tag (s.dmaRingBase c + 32 * s.f F.HOST_CH_HEAD_INDEX c)
        (32 * min 8 (data.toNat % 65536 - s.f F.HOST_CH_HEAD_INDEX c)) false] ∧
      Kept s t [(.HOST_CH_TAIL, c)] [.host, .out] := by
  obtain ⟨-, -, -, -, hempty, -⟩ := (s.calm_iff).1 ((s.ready_iff).1 hs).2
  have hdma : s.dma c = dmaInit := by
    rw [State.dma, hempty]
    rfl
  generalize hn : data.toNat % 65536 = n at *
  have hn16 : n < 2 ^ 16 := hn ▸ Nat.mod_lt _ (by decide)
  have hposted : Kept s (s.tailPosted c n) [(.HOST_CH_TAIL, c)] [] := Kept.setF ..
  have hset (F : Fld) (hp : isPend F.reg = false) (hF : F.reg ≠ .HOST_CH_TAIL) : (s.tailPosted c n).f F c = s.f F c :=
    hposted.f F c hp (by simp [hF])
  have htail : (s.tailPosted c n).f F.HOST_CH_TAIL_INDEX c = n :=
    (State.f_setF_same s F.HOST_CH_TAIL_INDEX c n (by decide)).trans (Nat.mod_eq_of_lt hn16)
  have hring : (s.tailPosted c n).dmaRingSize c = s.dmaRingSize c := by
    rw [State.dmaRingSize, hset _ rfl (by decide), State.dmaRingSize]
  have hbase : (s.tailPosted c n).dmaRingBase c = s.dmaRingBase c := by
    rw [State.dmaRingBase, State.pair, hposted.regs _ _ rfl (by simp), hposted.regs _ _ rfl (by simp), State.dmaRingBase, State.pair]
  have hgates := hposted.hostGates (by simp [hostGateRegs])
  have hmay := State.fetchable_posted (s := s.tailPosted c n) (c := c) (hdma ▸ rfl) (hset F.HOST_CH_HEAD_INDEX rfl (by decide)) htail hhead
    (by rw [hring]; exact hsize)
  have hf : (if c < 32 then s.writeTail who c data else s) =
      (s.tailPosted c n).fetchSent c (s.f F.HOST_CH_HEAD_INDEX c) (min 8 (n - s.f F.HOST_CH_HEAD_INDEX c)) tag := by
    rw [if_pos halone.channel, State.writeTail, if_neg (by omega)]
    dsimp only
    rw [State.writeTyped_tail, hn, State.dmaStep_empty (hdma ▸ rfl),
      State.dmaFetch_sent ((hset F.HOST_CH_STATUS_STATE rfl (by decide)).trans hrun) (hdma ▸ rfl)
        ⟨hgates.1.trans halone.gates.1, hgates.2.trans halone.gates.2⟩ hmay (by omega) ((s.hostTag_tailPosted ..).trans htag)]
  have hfetched := State.dma_fetchSent (s.tailPosted c n) c (s.f F.HOST_CH_HEAD_INDEX c) (min 8 (n - s.f F.HOST_CH_HEAD_INDEX c)) tag
  refine Runs.of_dma (R := [(.HOST_CH_TAIL, c)]) (A := [.host, .out]) (f := fun s => if c < 32 then s.writeTail who c data else s) rfl halone hf
    ((hposted.trans (Kept.fetchSent ..)).weaken (by simp) (by simp)) (by decide) (by simp [calmRegs]) (by simp) rfl ?_
    fun t hq hk => ⟨?_, ?_, SentOut.of_quiet hq ?_, hk⟩
  · intro _
    rw [State.dmaStep_empty (by rw [hfetched, State.dma_tailPosted, hdma]; rfl)]
    exact State.dmaFetch_idle (.inr (.inl (by rw [hfetched]; rfl)))
  · rw [hq.f_eq rfl, (Kept.fetchSent ..).f _ _ rfl (by simp), htail]
  · rw [hq.dma_eq List.not_mem_nil, hfetched]
  · rw [State.out_fetchSent, hbase]
    rfl

theorem Runs.tailRefused {s : State} {who : Who} {c : Nat} {data : Word} (hs : s.ready = true) (hc : c < 32)
    (hsize : s.dmaRingSize c ≤ data.toNat % 65536) : Runs (.chTail who c data) s fun t =>
      t.f F.HOST_CH_STATUS_CFG_REFUSED c = 1 ∧ t.f F.HOST_STATUS_CMD_REFUSED 0 = 1 ∧
      Entered s t who.origin 2 (256 * 5 + who.ni.toNat)
        ⟨csrOffset .HOST_CH_TAIL c, (s.word .HOST_CH_TAIL c).toNat, data.toNat, 0⟩ ∧
      Kept s t [(.HOST_CH_STATUS, c), (.HOST_STATUS, 0)] [.ledger] := by
  have hflags : Kept s ((s.raise F.HOST_CH_STATUS_CFG_REFUSED c).raise F.HOST_STATUS_CMD_REFUSED 0) [(.HOST_CH_STATUS, c), (.HOST_STATUS, 0)] [] :=
    ((Kept.raise ..).trans (Kept.raise ..)).weaken (by simp) (by simp)
  have hjournal := Kept.journalRefusal ((s.raise F.HOST_CH_STATUS_CFG_REFUSED c).raise F.HOST_STATUS_CMD_REFUSED 0) who .encoding .HOST_CH_TAIL c
    data.toNat
  have hf : (if c < 32 then s.writeTail who c data else s) =
      ((s.raise F.HOST_CH_STATUS_CFG_REFUSED c).raise F.HOST_STATUS_CMD_REFUSED 0).journalRefusal who .encoding .HOST_CH_TAIL c data.toNat := by
    rw [if_pos hc, State.writeTail, if_pos hsize]
    rfl
  refine Runs.of_effect (R := [(.HOST_CH_STATUS, c), (.HOST_STATUS, 0)]) (A := [.ledger])
    (f := fun s => if c < 32 then s.writeTail who c data else s) rfl hs hf ((hflags.trans hjournal).weaken (by simp) (by simp)) (by decide)
    (by simp [calmRegs]) fun t hq hk => ⟨?_, ?_, ?_, hk⟩
  · rw [hq.f_eq rfl, hjournal.f _ _ rfl (by simp), State.raise, State.f_setF_otherReg _ (by decide), State.f_raise_same _ _ _ (by decide) (by decide)]
  · rw [hq.f_eq rfl, hjournal.f _ _ rfl (by simp), State.f_raise_same _ _ _ (by decide) (by decide)]
  · have hledger : t.ledger = _ := hq.areas .ledger (by simp)
    refine Entered.of_journal (s := s) (u := (s.raise F.HOST_CH_STATUS_CFG_REFUSED c).raise F.HOST_STATUS_CMD_REFUSED 0) rfl (hledger.trans ?_)
    rw [State.journalRefusal, hflags.regs _ _ rfl (by simp)]
    rfl

-- ------------------------------------------------------------------ a message that waited (R367)

theorem Kept.sendVector (s : State) (v : Nat) : Kept s (s.sendVector v) [] [] := by
  unfold State.sendVector
  split
  · exact .start ..
  · split
    · exact Kept.of_areas rfl rfl rfl fun a _ => by cases a <;> simp [sameArea]
    · exact Kept.of_areas rfl rfl rfl fun a _ => by cases a <;> simp [sameArea, State.emit, Out.isMessage]

/-- A channel whose message has gone. -/
def State.messageSent (s : State) (c : Nat) : State := s.setDma c { s.dma c with lastMessage := some s.time, messageDue := false }

theorem Kept.dmaSend (s : State) (c : Nat) : Kept s (s.dmaSend c) [] [.host] :=
  ((Kept.setDma s c { s.dma c with lastMessage := some s.time, messageDue := false }).trans (Kept.sendVector ..)).weaken (by simp) (by simp)

theorem State.dma_dmaSend (s : State) (c : Nat) :
    (s.dmaSend c).dma c = { s.dma c with lastMessage := some s.time, messageDue := false } := by
  have hsent : Kept (s.messageSent c) (s.dmaSend c) [] [] := Kept.sendVector ..
  rw [hsent.dma_eq List.not_mem_nil, State.messageSent, State.dma_setDma_same]

/-- A channel that holds nothing and has nothing posted does nothing. -/
theorem State.dmaStep_rest {s : State} {c : Nat} (hdescs : (s.dma c).descs = [])
    (hempty : s.f F.HOST_CH_HEAD_INDEX c = s.f F.HOST_CH_TAIL_INDEX c) : s.dmaStep c = s := by
  rw [State.dmaStep_empty hdescs]
  exact State.dmaFetch_idle (.inr (.inr (State.fetchable_none (by rw [hdescs, hempty]; rfl))))

theorem Runs.holdoff {s : State} {c : Nat} {t0 : DWord} (halone : DmaAlone s c) (hempty : s.dmaEmpty c = true)
    (hdue : (s.dma c).messageDue = true) (hlast : (s.dma c).lastMessage = some t0) : Runs (.holdoff c) s fun t =>
      (t.dma c).messageDue = false ∧ (t.dma c).lastMessage = some t.time ∧
      (s.time.toNat < (t0 + BitVec.ofNat 64 (s.f F.HOST_CH_IRQ_HOLDOFF c * 1500)).toNat →
        t.time = t0 + BitVec.ofNat 64 (s.f F.HOST_CH_IRQ_HOLDOFF c * 1500)) ∧
      Kept s t [] [.clock, .host] := by
  simp only [State.dmaEmpty, Bool.and_eq_true, List.isEmpty_iff, beq_iff_eq] at hempty
  obtain ⟨⟨hdescs, -⟩, hring⟩ := hempty
  have hend : (s.holdoffEnd c).getD s.time = t0 + BitVec.ofNat 64 (s.f F.HOST_CH_IRQ_HOLDOFF c * 1500) := by
    rw [State.holdoffEnd, hlast]
    rfl
  generalize hq : t0 + BitVec.ofNat 64 (s.f F.HOST_CH_IRQ_HOLDOFF c * 1500) = due at *
  have hclock := Kept.advanceTo s due
  have hsent := Kept.dmaSend (s.advanceTo due) c
  have hkept := (hclock.trans hsent).weaken (R' := []) (A' := [.clock, .host]) (by simp) (by simp)
  have hdma := State.dma_dmaSend (s.advanceTo due) c
  have hf : (if 32 ≤ c || !(s.dma c).messageDue then s else (s.advanceTo ((s.holdoffEnd c).getD s.time)).dmaSend c) =
      (s.advanceTo due).dmaSend c := by
    rw [if_neg (by simp [hdue, halone.channel]), hend]
  refine Runs.of_dma (f := fun s => if 32 ≤ c || !(s.dma c).messageDue then s else (s.advanceTo ((s.holdoffEnd c).getD s.time)).dmaSend c)
    rfl halone hf hkept (by decide) (by simp) (by simp) ?_ ?_ fun t hq hk => ⟨?_, ?_, fun hahead => ?_, hk⟩
  · have hhost : ((s.advanceTo due).dmaSend c).host = ((s.advanceTo due).messageSent c).host :=
      (Kept.sendVector ((s.advanceTo due).messageSent c) _).host_eq List.not_mem_nil
    have hpieces : ((s.advanceTo due).messageSent c).host.pieces = (s.advanceTo due).host.pieces := rfl
    rw [hhost, hpieces, hclock.host_eq (by decide)]
  · intro _
    refine State.dmaStep_rest ?_ ?_
    · rw [hdma]
      exact (congrArg Dma.descs (hclock.dma_eq (by decide) c)).trans hdescs
    · rw [hkept.f _ _ rfl (by simp), hkept.f _ _ rfl (by simp), hring]
  · rw [hq.dma_eq List.not_mem_nil, hdma]
  · rw [hq.dma_eq List.not_mem_nil, hdma, hq.time_eq, hsent.time (by decide)]
  · rw [hq.time_eq, hsent.time (by decide), State.advanceTo_time_ahead hahead]

end Sys2Proof.Machine
end

section
/-! PROOF. A descriptor of host DMA ends: its status is written back, HEAD moves and its bytes count (R366, R367, R368). -/

namespace Sys2Proof.Machine

-- ------------------------------------------------------------------ the write-back (R365, R367)

/-- Bytes that one Memory Write carries. -/
theorem State.hostStore_one {s : State} {addr : Nat} {data : List Byte} (hne : data ≠ [])
    (hpiece : pieceLen addr data.length s.host.maxPayload = data.length) (relaxed : Bool) (n : Nat) :
    s.hostStore addr data relaxed (n + 1) = s.emit (.hostWrite addr data relaxed) := by
  have hlen : max 1 data.length = data.length := Nat.max_eq_right (List.length_pos_iff.2 hne)
  rw [State.hostStore, if_neg (by simpa using hne)]
  dsimp only
  rw [hpiece, hlen, List.take_length, List.drop_length]
  cases n <;> rfl

/-- The 8 bytes of a descriptor's status (R365). -/
def statusBytes (d : Desc) (code detail : Nat) : List Byte := toBytes 4 (1 + 2 * code + 256 * detail) ++ toBytes 4 d.moved

/-- The status of a descriptor goes out in one Memory Write. -/
def State.statusOut (s : State) (c : Nat) (d : Desc) (code detail : Nat) : Out :=
  .hostWrite (s.dmaRingBase c + 32 * d.index + 24) (statusBytes d code detail) false

theorem State.writeBack_one {s : State} {c : Nat} {d : Desc} (hbase : s.dmaRingBase c + 32 * d.index + 32 ≤ 2 ^ 64)
    (hpiece : pieceLen (s.dmaRingBase c + 32 * d.index + 24) 8 s.host.maxPayload = 8) (code detail : Nat) :
    s.writeBack c d code detail = s.emit (s.statusOut c d code detail) := by
  have hlen : (statusBytes d code detail).length = 8 := by simp [statusBytes, length_toBytes]
  have hne : statusBytes d code detail ≠ [] := fun h => by rw [h] at hlen; cases hlen
  have hstore := State.hostStore_one (s := s) (addr := s.dmaRingBase c + 32 * d.index + 24) hne (by rw [hlen]; exact hpiece) false
    (statusBytes d code detail).length
  rw [State.writeBack, State.hostWrites, Nat.mod_eq_of_lt (by omega)]
  exact hstore

-- ------------------------------------------------------------------ a descriptor's end (R367)

/-- A register that is as before need not be listed. -/
theorem Kept.drop {s t : State} {r : Reg} {i : Nat} {R : Regs} {A : List Area} (h : Kept s t ((r, i) :: R) A)
    (hw : t.word r i = s.word r i) : Kept s t R A := by
  refine ⟨h.part, h.pending, fun q j hp hq => ?_, h.areas⟩
  by_cases hx : (q, j) = (r, i)
  · obtain ⟨rfl, rfl⟩ := Prod.mk.inj hx
    exact hw
  · exact h.regs q j hp (by simp [hx, hq])

/-- The registers that a descriptor's end writes. -/
def headRegs (c : Nat) : Regs := [(.HOST_CH_BYTES_LO, c), (.HOST_CH_BYTES_HI, c), (.HOST_CH_HEAD, c)]

/-- A descriptor ended: its status is out, HEAD has moved, it is gone and its bytes are counted. -/
def State.descGone (s : State) (c : Nat) (d : Desc) (code detail : Nat) : State :=
  let s := (s.emit (s.statusOut c d code detail)).headPast c d
  let s := s.setDma c { s.dma c with descs := (s.dma c).descs.tail }
  s.setPair .HOST_CH_BYTES_LO .HOST_CH_BYTES_HI c ((s.pair .HOST_CH_BYTES_LO .HOST_CH_BYTES_HI c + d.moved) % 2 ^ 64)

section
variable (s : State) (c : Nat) (d : Desc) (code detail : Nat)

theorem Kept.descGone : Kept s (s.descGone c d code detail) (headRegs c) [.host, .out] :=
  ((((Kept.emit s (s.statusOut c d code detail)).trans (Kept.setF ..)).trans (Kept.setDma ..)).trans (Kept.setPair ..)).weaken
    (by simp [headRegs]) (by simp)

theorem State.dma_descGone : (s.descGone c d code detail).dma c = { s.dma c with descs := (s.dma c).descs.tail } := by
  have hset (u : State) (v : Nat) : (u.setPair .HOST_CH_BYTES_LO .HOST_CH_BYTES_HI c v).dma c = u.dma c := rfl
  rw [State.descGone, hset, State.dma_setDma_same]
  rfl

theorem State.out_descGone : (s.descGone c d code detail).out = s.out ++ [s.statusOut c d code detail] := rfl

theorem State.pieces_descGone : (s.descGone c d code detail).host.pieces = s.host.pieces := rfl

theorem State.pair_headPast (u : State) : (u.headPast c d).pair .HOST_CH_BYTES_LO .HOST_CH_BYTES_HI c = u.pair .HOST_CH_BYTES_LO .HOST_CH_BYTES_HI c := by
  rw [State.headPast, State.pair, (Kept.setF ..).regs _ _ rfl (by simp), (Kept.setF ..).regs _ _ rfl (by simp), State.pair]

theorem State.bytes_descGone : (s.descGone c d code detail).pair .HOST_CH_BYTES_LO .HOST_CH_BYTES_HI c =
    (s.pair .HOST_CH_BYTES_LO .HOST_CH_BYTES_HI c + d.moved) % 2 ^ 64 := by
  have hpair (u : State) (v : Dma) : (u.setDma c v).pair .HOST_CH_BYTES_LO .HOST_CH_BYTES_HI c = u.pair .HOST_CH_BYTES_LO .HOST_CH_BYTES_HI c := by
    rw [State.pair, (Kept.setDma ..).regs _ _ rfl (by simp), (Kept.setDma ..).regs _ _ rfl (by simp), State.pair]
  have hemit : (s.emit (s.statusOut c d code detail)).pair .HOST_CH_BYTES_LO .HOST_CH_BYTES_HI c =
      s.pair .HOST_CH_BYTES_LO .HOST_CH_BYTES_HI c := by
    rw [State.pair, (Kept.emit ..).regs _ _ rfl (by simp), (Kept.emit ..).regs _ _ rfl (by simp), State.pair]
  rw [State.descGone, State.pair_setPair _ _ (by decide) (Nat.mod_lt _ (by decide)), hpair, State.pair_headPast, hemit]

theorem State.head_descGone : (s.descGone c d code detail).word .HOST_CH_HEAD c =
    changed (s.word .HOST_CH_HEAD c) [(F.HOST_CH_HEAD_INDEX, (d.index + 1) % s.dmaRingSize c)] := by
  have hemit := Kept.emit s (s.statusOut c d code detail)
  have hring : (s.emit (s.statusOut c d code detail)).dmaRingSize c = s.dmaRingSize c := by
    rw [State.dmaRingSize, hemit.f _ _ rfl (by simp), State.dmaRingSize]
  rw [State.descGone, (Kept.setPair ..).regs _ _ rfl (by simp), (Kept.setDma ..).regs _ _ rfl (by simp), State.headPast, State.word_setF,
    if_pos ⟨rfl, rfl⟩, hemit.regs _ _ rfl (by simp), hring]
  rfl

end

section
variable {s : State} {c : Nat} {d : Desc} (hbase : s.dmaRingBase c + 32 * d.index + 32 ≤ 2 ^ 64)
  (hpiece : pieceLen (s.dmaRingBase c + 32 * d.index + 24) 8 s.host.maxPayload = 8) (hirq : d.irq = false)
include hbase hpiece hirq

theorem State.descEnd_eq (code detail : Nat) : s.descEnd c d code detail =
    let failed := code == 2 || code == 3
    let s := s.descGone c d code detail
    let s := if failed then (s.bump F.HOST_CH_ERR_FAILED c 1).raise F.HOST_CH_STATUS_XFER_ERR c else s
    if code = 4 then (s.raise F.HOST_CH_STATUS_DESC_FAULT c).dmaHalt c
    else if d.halt || (failed && s.on F.HOST_CH_CTRL_HALT_ON_ERR c) then (s.raise F.HOST_CH_STATUS_HALTED c).dmaHalt c
    else s := by
  rw [State.descEnd, State.writeBack_one hbase hpiece, hirq]
  rfl

/-- A bad descriptor stops its channel. -/
theorem State.descEnd_fault (detail : Nat) :
    s.descEnd c d 4 detail = ((s.descGone c d 4 detail).raise F.HOST_CH_STATUS_DESC_FAULT c).dmaHalt c := by
  rw [State.descEnd_eq hbase hpiece hirq]
  rfl

variable (hhalt : d.halt = false)
include hhalt

theorem State.descEnd_plain {code : Nat} (h2 : code ≠ 2) (h3 : code ≠ 3) (h4 : code ≠ 4) (detail : Nat) :
    s.descEnd c d code detail = s.descGone c d code detail := by
  rw [State.descEnd_eq hbase hpiece hirq]
  simp [h2, h3, h4, hhalt]

theorem State.descEnd_failed {code : Nat} (hcode : code = 2 ∨ code = 3) (hkeep : s.f F.HOST_CH_CTRL_HALT_ON_ERR c = 0) (detail : Nat) :
    s.descEnd c d code detail = ((s.descGone c d code detail).bump F.HOST_CH_ERR_FAILED c 1).raise F.HOST_CH_STATUS_XFER_ERR c := by
  have hoff : (((s.descGone c d code detail).bump F.HOST_CH_ERR_FAILED c 1).raise F.HOST_CH_STATUS_XFER_ERR c).on F.HOST_CH_CTRL_HALT_ON_ERR c
      = false := by
    have hall := ((Kept.descGone s c d code detail).trans (Kept.bump _ F.HOST_CH_ERR_FAILED c 1)).trans (Kept.raise _ F.HOST_CH_STATUS_XFER_ERR c)
    rw [State.on, hall.f _ _ rfl (by simp [headRegs]), hkeep]
    rfl
  rw [State.descEnd_eq hbase hpiece hirq]
  rcases hcode with rfl | rfl <;> simp [hhalt, hoff]

end

end Sys2Proof.Machine
end

section
/-! PROOF. A finished descriptor is written back (R367, R368), and what fetched descriptors bring (R364, R366). -/

namespace Sys2Proof.Machine

-- ------------------------------------------------------------------ a channel that stops by itself

section
variable (s : State) (c : Nat)

theorem Kept.dmaHalt : Kept s (s.dmaHalt c) [(.HOST_CH_CTRL, c), (.HOST_CH_STATUS, c)] [.host] :=
  ((Kept.setDma s c { s.dma c with descs := [], fetching := none }).trans ((Kept.setF _ F.HOST_CH_CTRL_RUN c 0).trans
    (Kept.setF _ F.HOST_CH_STATUS_STATE c 0))).weaken (by simp) (by simp)

theorem State.dma_dmaHalt : (s.dmaHalt c).dma c = { s.dma c with descs := [], fetching := none } := by
  have hset (u : State) (v : Dma) : (((u.setDma c v).setF F.HOST_CH_CTRL_RUN c 0).setFunc (.dma c) 0).dma c = v := u.dma_setDma_same c v
  rw [State.dmaHalt, hset]

theorem State.out_dmaHalt : (s.dmaHalt c).out = s.out := rfl
theorem State.host_dmaHalt : (s.dmaHalt c).host.pieces = s.host.pieces ∧ (s.dmaHalt c).host.reads = s.host.reads := ⟨rfl, rfl⟩

theorem State.stopped_dmaHalt : (s.dmaHalt c).f F.HOST_CH_CTRL_RUN c = 0 ∧ (s.dmaHalt c).funcState (.dma c) = 0 := by
  have hstate (u : State) : (u.setFunc (.dma c) 0).funcState (.dma c) = 0 := State.f_setF_same u F.HOST_CH_STATUS_STATE c 0 (by decide)
  have hrun (u : State) : ((u.setF F.HOST_CH_CTRL_RUN c 0).setF F.HOST_CH_STATUS_STATE c 0).f F.HOST_CH_CTRL_RUN c = 0 := by
    rw [State.f_setF_otherReg _ (by decide), State.f_setF_same _ _ _ _ (by decide), Nat.zero_mod]
  exact ⟨hrun _, hstate _⟩

end

-- ------------------------------------------------------------------ a finished descriptor (R367)

/-- CODE and DETAIL of a descriptor's status (R365). -/
def Desc.code (d : Desc) : Nat := (d.failure.map (·.1)).getD 0
def Desc.detail (d : Desc) : Nat := (d.failure.map (·.2)).getD 0

/-- A descriptor has ended, and of the flags that say how, the channel shows those of some registers. -/
structure DescEnds (s u : State) (c : Nat) (d : Desc) (code detail : Nat) (R : Regs) : Prop where
  kept : Kept (s.descGone c d code detail) u R [.host]
  regs : R ⊆ [(.HOST_CH_ERR, c), (.HOST_CH_STATUS, c), (.HOST_CH_CTRL, c)]
  descs : (u.dma c).descs = []
  out : u.out = (s.descGone c d code detail).out
  pieces : u.host.pieces = s.host.pieces

namespace DescEnds
variable {s u : State} {c : Nat} {d : Desc} {code detail : Nat} {R : Regs} (h : DescEnds s u c d code detail R)
include h

theorem all : Kept s u (headRegs c ++ R) [.host, .out] := ((Kept.descGone s c d code detail).trans h.kept).weaken (by simp) (by simp)

theorem unlisted {r : Reg} (h1 : r ≠ .HOST_CH_ERR) (h2 : r ≠ .HOST_CH_STATUS) (h3 : r ≠ .HOST_CH_CTRL) : (r, c) ∉ R := by
  intro hr
  have hin := h.regs hr
  simp [h1, h2, h3] at hin

theorem head : u.word .HOST_CH_HEAD c = changed (s.word .HOST_CH_HEAD c) [(F.HOST_CH_HEAD_INDEX, (d.index + 1) % s.dmaRingSize c)] := by
  rw [h.kept.regs _ _ rfl (h.unlisted (by decide) (by decide) (by decide)), State.head_descGone]

theorem headIndex : u.f F.HOST_CH_HEAD_INDEX c = (d.index + 1) % s.dmaRingSize c % 2 ^ 16 := by
  rw [State.f, h.head]
  exact fieldOf_withField_same (lo := 0) (w := 16) _ _ (by decide)

theorem bytes : u.pair .HOST_CH_BYTES_LO .HOST_CH_BYTES_HI c = (s.pair .HOST_CH_BYTES_LO .HOST_CH_BYTES_HI c + d.moved) % 2 ^ 64 := by
  rw [State.pair, h.kept.regs _ _ rfl (h.unlisted (by decide) (by decide) (by decide)),
    h.kept.regs _ _ rfl (h.unlisted (by decide) (by decide) (by decide)), ← State.pair, State.bytes_descGone]

theorem tail : u.f F.HOST_CH_TAIL_INDEX c = s.f F.HOST_CH_TAIL_INDEX c := by
  refine h.all.f _ _ rfl fun hx => (List.mem_append.1 hx).elim ?_ (h.unlisted (by decide) (by decide) (by decide))
  simp [headRegs]

theorem sent : u.out = s.out ++ [s.statusOut c d code detail] := h.out.trans (State.out_descGone ..)

/-- Nothing more is posted: the channel rests. -/
theorem rests (htail : s.f F.HOST_CH_TAIL_INDEX c = (d.index + 1) % s.dmaRingSize c) : u.dmaStep c = u := by
  have hlt : s.f F.HOST_CH_TAIL_INDEX c < 2 ^ 16 := fieldOf_lt ..
  refine State.dmaStep_rest h.descs ?_
  rw [h.headIndex, h.tail, ← htail, Nat.mod_eq_of_lt hlt]

end DescEnds

theorem State.dma_raise (s : State) (F : Fld) (i c : Nat) : (s.raise F i).dma c = s.dma c := rfl
theorem State.dma_bump (s : State) (F : Fld) (i n c : Nat) : (s.bump F i n).dma c = s.dma c := rfl

section
variable {s : State} {c : Nat} {d : Desc} (hdescs : (s.dma c).descs = [d])
include hdescs

theorem State.descs_descGone (code detail : Nat) : ((s.descGone c d code detail).dma c).descs = [] := by
  rw [State.dma_descGone, hdescs]
  rfl

theorem DescEnds.plain (code detail : Nat) : DescEnds s (s.descGone c d code detail) c d code detail [] where
  kept := .start ..
  regs := by simp
  descs := State.descs_descGone hdescs ..
  out := rfl
  pieces := State.pieces_descGone ..

theorem DescEnds.failed (code detail : Nat) : DescEnds s
    (((s.descGone c d code detail).bump F.HOST_CH_ERR_FAILED c 1).raise F.HOST_CH_STATUS_XFER_ERR c) c d code detail
    [(.HOST_CH_ERR, c), (.HOST_CH_STATUS, c)] where
  kept := ((Kept.bump ..).trans (Kept.raise ..)).weaken (by simp) (by simp)
  regs := by simp
  descs := by rw [State.dma_raise, State.dma_bump, State.descs_descGone hdescs]
  out := by rw [State.raise_out, State.bump_out]
  pieces := by rw [State.raise_host, State.bump_host, State.pieces_descGone]

omit hdescs in
theorem DescEnds.fault (detail : Nat) : DescEnds s (((s.descGone c d 4 detail).raise F.HOST_CH_STATUS_DESC_FAULT c).dmaHalt c) c d 4 detail
    [(.HOST_CH_STATUS, c), (.HOST_CH_CTRL, c)] where
  kept := ((Kept.raise ..).trans (Kept.dmaHalt ..)).weaken (by simp) (by simp)
  regs := by simp
  descs := by rw [State.dma_dmaHalt]
  out := by rw [State.out_dmaHalt, State.raise_out]
  pieces := by rw [(State.host_dmaHalt ..).1, State.raise_host, State.pieces_descGone]

end

theorem headRegs_calm (c : Nat) : ∀ x ∈ headRegs c, x.1 ∉ calmRegs := by simp [headRegs, calmRegs]

section
variable {s u : State} {c : Nat} {d : Desc} {R : Regs} (halone : DmaAlone s c) (hdescs : (s.dma c).descs = [d]) (hdone : descDone c d = true)
  (htail : s.f F.HOST_CH_TAIL_INDEX c = (d.index + 1) % s.dmaRingSize c)
include halone hdescs hdone htail

/-- What a finished descriptor leaves, however it ended. -/
theorem Runs.descriptorEnds (hend : s.descEnd c d d.code d.detail = u) (h : DescEnds s u c d d.code d.detail R) :
    Runs (.descriptorComplete c) s fun t =>
      ((t.dma c).descs = [] ∧ t.f F.HOST_CH_HEAD_INDEX c = (d.index + 1) % s.dmaRingSize c % 2 ^ 16 ∧
        SentOut s t [s.statusOut c d d.code d.detail] ∧
        t.pair .HOST_CH_BYTES_LO .HOST_CH_BYTES_HI c = (s.pair .HOST_CH_BYTES_LO .HOST_CH_BYTES_HI c + d.moved) % 2 ^ 64) ∧
      Kept u t [] [] ∧ Kept s t (headRegs c ++ R) [.host, .out] := by
  have hf : s.descriptorComplete c = u := by
    rw [State.descriptorComplete, State.dmaFirst_cons hdescs]
    dsimp only
    rw [if_pos (by simp [hdone, halone.gates])]
    exact (congrArg (·.dmaStep c) hend).trans (h.rests htail)
  refine Runs.of_dma (f := fun s => s.descriptorComplete c) rfl halone hf h.all (by decide) ?_ ?_ h.pieces (fun _ => h.rests htail)
    fun t hq hk => ⟨⟨?_, ?_, SentOut.of_quiet hq h.sent, ?_⟩, hq, hk⟩
  · intro x hx
    rcases List.mem_append.1 hx with hx | hx
    · exact headRegs_calm c x hx
    · have hin := h.regs hx
      revert hin
      simp only [List.mem_cons, List.not_mem_nil, or_false]
      rintro (rfl | rfl | rfl) <;> simp [calmRegs]
  · intro n hn hx
    rcases List.mem_append.1 hx with hx | hx
    · simp [headRegs] at hx
    · have hin := h.regs hx
      simp [hn] at hin
  · rw [hq.dma_eq List.not_mem_nil, h.descs]
  · rw [hq.f_eq rfl, h.headIndex]
  · rw [hq.pair_eq rfl rfl, h.bytes]

theorem Runs.descriptorComplete (hirq : d.irq = false) (hhalt : d.halt = false) (hkeep : s.f F.HOST_CH_CTRL_HALT_ON_ERR c = 0)
    (hbase : s.dmaRingBase c + 32 * d.index + 32 ≤ 2 ^ 64)
    (hpiece : pieceLen (s.dmaRingBase c + 32 * d.index + 24) 8 s.host.maxPayload = 8) :
    Runs (.descriptorComplete c) s fun t =>
      ((t.dma c).descs = [] ∧ t.f F.HOST_CH_HEAD_INDEX c = (d.index + 1) % s.dmaRingSize c % 2 ^ 16 ∧
        SentOut s t [s.statusOut c d d.code d.detail] ∧
        t.pair .HOST_CH_BYTES_LO .HOST_CH_BYTES_HI c = (s.pair .HOST_CH_BYTES_LO .HOST_CH_BYTES_HI c + d.moved) % 2 ^ 64) ∧
      (d.failure.any (fun x => x.1 == 2 || x.1 == 3) = true →
        t.f F.HOST_CH_ERR_FAILED c = s.counted F.HOST_CH_ERR_FAILED c 1 ∧ t.f F.HOST_CH_STATUS_XFER_ERR c = 1) ∧
      (d.failure = none → t.word .HOST_CH_ERR c = s.word .HOST_CH_ERR c ∧ t.word .HOST_CH_STATUS c = s.word .HOST_CH_STATUS c) ∧
      (d.failure.all (fun x => x.1 == 2 || x.1 == 3) = true →
        Kept s t [(.HOST_CH_HEAD, c), (.HOST_CH_BYTES_LO, c), (.HOST_CH_BYTES_HI, c), (.HOST_CH_ERR, c), (.HOST_CH_STATUS, c)]
          [.host, .out]) := by
  by_cases hcode : d.code = 2 ∨ d.code = 3
  · refine (Runs.descriptorEnds halone hdescs hdone htail (State.descEnd_failed hbase hpiece hirq hhalt hcode hkeep d.detail)
      (DescEnds.failed hdescs ..)).imp fun t ⟨hstep, hends, hq, hk⟩ => ⟨hstep, hends, fun _ => ⟨?_, ?_⟩, fun hnone => ?_, fun _ => ?_⟩
    · have hgone := Kept.descGone s c d d.code d.detail
      rw [hq.f_eq rfl, State.raise, State.f_setF_otherReg _ (by decide), State.bump, State.f_setF_same _ _ _ _ (by decide),
        hgone.f _ _ rfl (by simp [headRegs]), State.counted, Nat.mod_eq_of_lt (lt_of_le_of_lt (Nat.min_le_left _ _) (by decide))]
    · rw [hq.f_eq rfl, State.f_raise_same _ _ _ (by decide) (by decide)]
    · rw [Desc.code, hnone] at hcode
      exact absurd hcode (by decide)
    · exact hk.weaken (by simp [headRegs]) (List.Subset.refl _)
  · have hother : d.failure.any (fun x => x.1 == 2 || x.1 == 3) = false := by
      rw [Desc.code] at hcode
      cases hfail : d.failure with
      | none => rfl
      | some x => simpa [hfail] using hcode
    by_cases hfault : d.code = 4
    · have hsome : d.failure ≠ none := fun hnone => by
        rw [Desc.code, hnone] at hfault
        cases hfault
      have hend := State.descEnd_fault hbase hpiece hirq d.detail
      rw [← hfault] at hend
      refine (Runs.descriptorEnds halone hdescs hdone htail hend (hfault ▸ DescEnds.fault d.detail)).imp fun t ⟨hstep, hends, _, _⟩ =>
        ⟨hstep, hends, fun hany => ?_, fun hnone => absurd hnone hsome, fun hall => ?_⟩
      · rw [hother] at hany
        cases hany
      · cases hfail : d.failure with
        | none => exact absurd hfail hsome
        | some x =>
          rw [hfail] at hall hother
          exact absurd (hother.symm.trans hall) (by decide)
    · refine (Runs.descriptorEnds halone hdescs hdone htail (State.descEnd_plain hbase hpiece hirq hhalt (fun h => hcode (.inl h))
        (fun h => hcode (.inr h)) hfault d.detail) (DescEnds.plain hdescs ..)).imp fun t ⟨hstep, hends, _, hk⟩ =>
        ⟨hstep, hends, fun hany => ?_, fun _ => ⟨hk.regs _ _ rfl (by simp [headRegs]), hk.regs _ _ rfl (by simp [headRegs])⟩,
          fun _ => hk.weaken (by simp [headRegs]) (List.Subset.refl _)⟩
      rw [hother] at hany
      cases hany

end

end Sys2Proof.Machine
end

section
/-! PROOF. Fetched descriptors arrive (R364): a good one asks host memory for its bytes, a bad one ends at once (R366). -/

namespace Sys2Proof.Machine

-- ------------------------------------------------------------------ a fetched descriptor arrives (R364)

/-- No read of host memory is under way. -/
def State.readsGone (s : State) : State := s.putHost { s.host with reads := [] }

/-- A descriptor at a channel that held none. -/
def State.descArrived (s : State) (c i : Nat) (b : BitVec 256) : State :=
  (s.readsGone.setDma c { s.dma c with fetching := none }).setDma c
    { s.dma c with fetching := none, descs := (s.dma c).descs ++ [parseDesc i (s.dma c).serial b], serial := (s.dma c).serial + 1 }

section
variable (s : State) (c i : Nat) (b : BitVec 256)

theorem Kept.descArrived : Kept s (s.descArrived c i b) [] [.host] :=
  (((Kept.putHost s { s.host with reads := [] }).trans (Kept.setDma ..)).trans (Kept.setDma ..)).weaken (by simp) (by simp)

theorem State.dma_descArrived (hdescs : (s.dma c).descs = []) : (s.descArrived c i b).dma c =
    { s.dma c with fetching := none, descs := [parseDesc i (s.dma c).serial b], serial := (s.dma c).serial + 1 } := by
  rw [State.descArrived, State.dma_setDma_same, hdescs]
  rfl

theorem State.reads_descArrived : (s.descArrived c i b).host.reads = [] := rfl
theorem State.maxPayload_descArrived : (s.descArrived c i b).host.maxPayload = s.host.maxPayload := rfl
theorem State.out_descArrived : (s.descArrived c i b).out = s.out := rfl

end

section
variable {s : State} {c i tag a : Nat} {b : BitVec 256}

theorem State.hostFree_only (hreads : s.host.reads = [⟨tag, .fetch c, a, 32⟩]) (hwait : s.host.readsWaiting = []) :
    s.hostFree tag = s.readsGone := by
  rw [State.hostFree, hreads]
  simp [hwait, State.readsGone]

theorem State.fetchTag_only (hreads : s.host.reads = [⟨tag, .fetch c, a, 32⟩]) : s.fetchTag c = some tag := by
  rw [State.fetchTag, hreads]
  simp

theorem State.descsArrive_one (hfetch : (s.dma c).fetching = some (i, 1)) (hrun : s.funcState (.dma c) = 1) :
    s.readsGone.descsArrive c [b] = s.descArrived c i b := by
  have hdma : s.readsGone.dma c = s.dma c := rfl
  have hrun' (v : Dma) : (s.readsGone.setDma c v).funcState (.dma c) = 1 :=
    (((Kept.putHost s { s.host with reads := [] }).trans (Kept.setDma s.readsGone c v)).f F.HOST_CH_STATUS_STATE c rfl (by simp)).trans hrun
  rw [State.descsArrive, hdma, hfetch]
  dsimp only
  rw [hrun', if_neg (by decide), State.dma_setDma_same]
  rfl

/-- A fetched descriptor arrives at a channel that held none, and the channel does what it can. -/
theorem State.descriptorFetch_one (hreads : s.host.reads = [⟨tag, .fetch c, a, 32⟩]) (hwait : s.host.readsWaiting = [])
    (hfetch : (s.dma c).fetching = some (i, 1)) (hrun : s.funcState (.dma c) = 1) :
    s.descriptorFetch c [b] = (s.descArrived c i b).dmaStep c := by
  rw [State.descriptorFetch, State.fetchTag_only hreads]
  dsimp only
  rw [State.hostFree_only hreads hwait, State.descsArrive_one hfetch hrun]

/-- The ring of the channel is as before. -/
theorem State.ring_descArrived (s : State) (c i : Nat) (b : BitVec 256) : (s.descArrived c i b).dmaRingSize c = s.dmaRingSize c ∧
    (s.descArrived c i b).dmaRingBase c = s.dmaRingBase c := by
  have hkept := Kept.descArrived s c i b
  constructor
  · rw [State.dmaRingSize, hkept.f _ _ rfl (by simp), State.dmaRingSize]
  · rw [State.dmaRingBase, State.pair, hkept.regs _ _ rfl (by simp), hkept.regs _ _ rfl (by simp), State.dmaRingBase, State.pair]

-- ------------------------------------------------------------------ a descriptor that executes (R367)

section
variable {s : State} {c : Nat} {d : Desc} (hdescs : (s.dma c).descs = [d]) (hissued : d.length ≤ d.issued) (hready : d.ready = [])
  (hwait : d.waiting ≠ 0)
include hdescs hissued hready hwait

/-- A descriptor that waits for host memory has nothing to issue, to move or to close. -/
theorem State.dmaMoves_waits (n m : Nat) : ((s.dmaIssue c n).dmaMove c m).dmaClose c = s := by
  have hfirst := State.dmaFirst_cons hdescs
  have hissue : s.dmaIssue c n = s := by
    cases n with
    | zero => rfl
    | succ n =>
      rw [State.dmaIssue, hfirst]
      exact if_pos (by simp [hissued])
  have hmove : s.dmaMove c m = s := by
    cases m with
    | zero => rfl
    | succ m =>
      rw [State.dmaMove, hfirst]
      dsimp only
      rw [hready]
  have hclose : s.dmaClose c = s := by
    rw [State.dmaClose, hfirst]
    exact if_pos (by simp [hwait])
  rw [hissue, hmove, hclose]

/-- A channel whose first descriptor waits for host memory, with nothing more posted, does nothing. -/
theorem State.dmaStep_waits (hfits : descFits s.part c d = true) (hfetch : s.dmaFetch c = s) : s.dmaStep c = s := by
  have hcheck : s.descCheck c = s := by
    rw [State.descCheck, State.dmaFirst_cons hdescs]
    exact if_neg (by simp [hfits])
  rw [State.dmaStep, hcheck, hfetch, State.dmaMoves_waits hdescs hissued hready hwait]

end

/-- All the bytes of a descriptor are asked for at once. -/
def Desc.allAsked (d : Desc) : Desc := { d with issued := d.length, waiting := 1 }

/-- The read of host memory for a whole descriptor has gone out. -/
def State.hostRead (s : State) (c : Nat) (d : Desc) (tag : Nat) : State :=
  (s.setFirst c d.allAsked).asked (.dma c d.serial d.card) d.host d.length tag

theorem Kept.hostRead (s : State) (c : Nat) (d : Desc) (tag : Nat) : Kept s (s.hostRead c d tag) [] [.host, .out] :=
  ((Kept.setDma ..).trans (Kept.asked ..)).weaken (by simp) (by simp)

theorem State.descs_hostRead {s : State} {c : Nat} {d : Desc} (hdescs : (s.dma c).descs = [d]) (tag : Nat) :
    (s.hostRead c d tag).dma c = { s.dma c with descs := [d.allAsked] } := by
  rw [State.hostRead, State.dma_asked, State.setFirst, State.dma_setDma_same, hdescs]
  rfl

theorem State.hostTag_none {s : State} (h : s.host.reads = []) : s.hostTag = some 0 := by
  rw [State.hostTag, h, List.find?_range_eq_some]
  simp

theorem State.hostTag_setFirst (s : State) (c : Nat) (d : Desc) : (s.setFirst c d).hostTag = s.hostTag := State.hostTag_congr rfl

/-- A descriptor from the host that one read covers. -/
theorem State.dmaIssue_whole {s : State} {c : Nat} {d : Desc} (hdescs : (s.dma c).descs = [d]) (hc : 16 ≤ c)
    (hnew : d.issued = 0 ∧ d.waiting = 0) (hlen : 0 < d.length) (hhost : d.host < 2 ^ 64)
    (hgates : s.hostOpen = true ∧ s.hostUp = true) (hreads : s.host.reads = [])
    (hpiece : d.host % min 4096 s.host.maxRead + d.length ≤ min 4096 s.host.maxRead) (n : Nat) :
    s.dmaIssue c (n + 1) = (s.hostRead c d 0).dmaIssue c n := by
  have hk : max 1 (pieceLen (d.host + 0) (d.length - 0) (min 4096 s.host.maxRead)) = d.length := by
    have hsize : max 1 (min 4096 s.host.maxRead) = min 4096 s.host.maxRead := by omega
    rw [pieceLen, Nat.add_zero, Nat.sub_zero, hsize]
    omega
  rw [State.dmaIssue, State.dmaFirst_cons hdescs]
  dsimp only
  rw [hnew.1, hnew.2, if_neg (by simp [dmaAhead, hgates, hlen.ne']), if_pos (by simpa [hostToCard] using hc), hk]
  simp only [Nat.add_zero, Nat.zero_add]
  rw [Nat.mod_eq_of_lt hhost, State.hostAsk_some ((s.hostTag_setFirst ..).trans (State.hostTag_none hreads))]
  rfl

end

/-- The words of two registers are those of the quantity they hold. -/
theorem words_of_pair {s t : State} {lo hi : Reg} {i : Nat} (h : t.pair lo hi i = s.pair lo hi i) :
    t.word lo i = s.word lo i ∧ t.word hi i = s.word hi i := by
  rw [State.pair, State.pair] at h
  have hlo := (t.word lo i).isLt
  have hlo' := (s.word lo i).isLt
  exact ⟨BitVec.eq_of_toNat_eq (by omega), BitVec.eq_of_toNat_eq (by omega)⟩

theorem State.fault_dmaHalt (s : State) (c : Nat) : (s.dmaHalt c).f F.HOST_CH_STATUS_DESC_FAULT c = s.f F.HOST_CH_STATUS_DESC_FAULT c := by
  have hset (u : State) : ((u.setF F.HOST_CH_CTRL_RUN c 0).setF F.HOST_CH_STATUS_STATE c 0).f F.HOST_CH_STATUS_DESC_FAULT c =
      u.f F.HOST_CH_STATUS_DESC_FAULT c := by
    rw [State.f_setF_otherField _ (by decide) (.inr (by decide)), State.f_setF_otherReg _ (by decide)]
  exact hset _

theorem descFits_length {p : Part} {c : Nat} {d : Desc} (h : descFits p c d = true) : 0 < d.length := by
  simp only [descFits, rangeFits, Bool.and_eq_true, decide_eq_true_eq] at h
  exact h.2.1

/-- A descriptor as fetched has done nothing yet. -/
theorem parseDesc_new (i serial : Nat) (b : BitVec 256) : (parseDesc i serial b).issued = 0 ∧ (parseDesc i serial b).waiting = 0 := ⟨rfl, rfl⟩

theorem parseDesc_host_lt (i serial : Nat) (b : BitVec 256) : (parseDesc i serial b).host < 2 ^ 64 := Nat.mod_lt _ (Nat.two_pow_pos 64)

section
variable {s : State} {c i tag a : Nat} {b : BitVec 256} (halone : DmaAlone s c) (hrun : s.funcState (.dma c) = 1)
  (hreads : s.host.reads = [⟨tag, .fetch c, a, 32⟩]) (hdescs : (s.dma c).descs = []) (hfetch : (s.dma c).fetching = some (i, 1))
include halone hrun hreads hdescs hfetch

theorem Runs.descriptorExecutes (hhead : s.f F.HOST_CH_HEAD_INDEX c = i) (htail : s.f F.HOST_CH_TAIL_INDEX c = i + 1) (hc : 16 ≤ c)
    (hfits : descFits s.part c (parseDesc i (s.dma c).serial b) = true)
    (hpiece : (parseDesc i (s.dma c).serial b).host % min 4096 s.host.maxRead + (parseDesc i (s.dma c).serial b).length ≤
      min 4096 s.host.maxRead) :
    Runs (.descriptorFetch c [b]) s fun t =>
      (t.dma c).descs = [(parseDesc i (s.dma c).serial b).allAsked] ∧ (t.dma c).fetching = none ∧
      t.host.reads = [⟨0, .dma c (s.dma c).serial (parseDesc i (s.dma c).serial b).card,
        (parseDesc i (s.dma c).serial b).host, (parseDesc i (s.dma c).serial b).length⟩] ∧
      Kept s t [] [.host, .out] := by
  have hserial : (parseDesc i (s.dma c).serial b).serial = (s.dma c).serial := rfl
  have harrived := Kept.descArrived s c i b
  have hgates := harrived.hostGates (by simp)
  have hgates' : (s.descArrived c i b).hostOpen = true ∧ (s.descArrived c i b).hostUp = true :=
    ⟨hgates.1.trans halone.gates.1, hgates.2.trans halone.gates.2⟩
  generalize hd : parseDesc i (s.dma c).serial b = d at *
  have hnew : d.issued = 0 ∧ d.waiting = 0 := hd ▸ parseDesc_new ..
  have hready : d.ready = [] := hd ▸ rfl
  have hhost : d.host < 2 ^ 64 := hd ▸ parseDesc_host_lt ..
  have hdma := State.dma_descArrived s c i b hdescs
  rw [hd] at hdma
  have hdescs' : ((s.descArrived c i b).dma c).descs = [d] := by rw [hdma]
  have hread := Kept.hostRead (s.descArrived c i b) c d 0
  have hdma' := State.descs_hostRead hdescs' 0
  have hkept : Kept s ((s.descArrived c i b).hostRead c d 0) [] [.host, .out] := (harrived.trans hread).weaken (by simp) (by simp)
  have hnone (u : State) (hu : Kept s u [] [.host, .out]) (hlen : (u.dma c).descs.length = 1) : u.dmaFetch c = u := by
    refine State.dmaFetch_idle (.inr (.inr (State.fetchable_none ?_)))
    rw [hlen, hu.f _ _ rfl (by simp), hu.f _ _ rfl (by simp), hhead, htail]
  have hcheck : (s.descArrived c i b).descCheck c = s.descArrived c i b := by
    rw [State.descCheck, State.dmaFirst_cons hdescs']
    exact if_neg (by simp [harrived.part, hfits])
  have hstill : ((s.descArrived c i b).hostRead c d 0).dmaStep c = (s.descArrived c i b).hostRead c d 0 := by
    refine State.dmaStep_waits (d := d.allAsked) (by rw [hdma']) (Nat.le_refl _) hready (by simp [Desc.allAsked]) ?_
      (hnone _ hkept (by rw [hdma']; rfl))
    rw [hkept.part]
    exact hfits
  have hissue : (s.descArrived c i b).dmaIssue c dmaAhead = ((s.descArrived c i b).hostRead c d 0).dmaIssue c 63 :=
    State.dmaIssue_whole hdescs' hc hnew (descFits_length hfits) hhost hgates' (State.reads_descArrived ..) hpiece 63
  have hf : s.descriptorFetch c [b] = (s.descArrived c i b).hostRead c d 0 := by
    rw [State.descriptorFetch_one hreads halone.waiting hfetch hrun, State.dmaStep, hcheck,
      hnone _ (harrived.weaken (List.Subset.refl _) (by simp)) (by rw [hdescs']; rfl),
      hissue]
    exact State.dmaMoves_waits (d := d.allAsked) (by rw [hdma']) (Nat.le_refl _) hready (by simp [Desc.allAsked]) 63 dmaAhead
  refine Runs.of_dma (f := fun s => s.descriptorFetch c [b]) rfl halone hf hkept (by decide) (by simp) (by simp) rfl (fun _ => hstill)
    fun t hq hk => ⟨?_, ?_, ?_, hk⟩
  · rw [hq.dma_eq List.not_mem_nil, hdma']
  · rw [hq.dma_eq List.not_mem_nil, hdma', hdma]
  · rw [hq.host_eq List.not_mem_nil, ← hserial]
    rfl

theorem Runs.descriptorBad (hsize : i + 1 < s.dmaRingSize c)
    (hbad : descFits s.part c (parseDesc i (s.dma c).serial b) = false) (hirq : (parseDesc i (s.dma c).serial b).irq = false)
    (hbase : s.dmaRingBase c + 32 * i + 32 ≤ 2 ^ 64) (hpiece : pieceLen (s.dmaRingBase c + 32 * i + 24) 8 s.host.maxPayload = 8) :
    Runs (.descriptorFetch c [b]) s fun t =>
      SentOut s t [.hostWrite (s.dmaRingBase c + 32 * i + 24) (toBytes 4 9 ++ toBytes 4 0) false] ∧
      t.word .HOST_CH_HEAD c = changed (s.word .HOST_CH_HEAD c) [(F.HOST_CH_HEAD_INDEX, i + 1)] ∧
      t.f F.HOST_CH_STATUS_DESC_FAULT c = 1 ∧ t.f F.HOST_CH_CTRL_RUN c = 0 ∧ t.funcState (.dma c) = 0 ∧
      (t.dma c).descs = [] ∧ t.host.reads = [] ∧
      Kept s t [(.HOST_CH_HEAD, c), (.HOST_CH_STATUS, c), (.HOST_CH_CTRL, c)] [.host, .out] := by
  have harrived := Kept.descArrived s c i b
  obtain ⟨hring, hbase'⟩ := s.ring_descArrived c i b
  have hgates := harrived.hostGates (by simp)
  have hdma := State.dma_descArrived s c i b hdescs
  generalize hd : parseDesc i (s.dma c).serial b = d at *
  have hindex : d.index = i := hd ▸ rfl
  have hmoved : d.moved = 0 := hd ▸ rfl
  have hends := DescEnds.fault (s := s.descArrived c i b) (c := c) (d := d) 0
  have hend := State.descEnd_fault (s := s.descArrived c i b) (c := c) (d := d) (by rw [hbase', hindex]; exact hbase)
    (by rw [hbase', hindex, s.maxPayload_descArrived c i b]; exact hpiece) hirq 0
  generalize hu : (((s.descArrived c i b).descGone c d 4 0).raise F.HOST_CH_STATUS_DESC_FAULT c).dmaHalt c = u at *
  have hstopped : u.f F.HOST_CH_CTRL_RUN c = 0 ∧ u.funcState (.dma c) = 0 := hu ▸ State.stopped_dmaHalt ..
  have hstill : u.dmaStep c = u := by
    rw [State.dmaStep_empty hends.descs]
    exact State.dmaFetch_idle (.inl (by simp [hstopped.2]))
  have hcheck : (s.descArrived c i b).descCheck c = u := by
    rw [State.descCheck, State.dmaFirst_cons (d := d) (ds := []) (by rw [hdma])]
    dsimp only
    rw [harrived.part, hbad, hgates.1, hgates.2, if_pos (by simp [halone.gates])]
    exact hend
  have hstep : (s.descArrived c i b).dmaStep c = u.dmaStep c := by
    rw [State.dmaStep, hcheck, State.dmaStep, State.descCheck_none (State.dmaFirst_nil hends.descs)]
  have hbytes : u.pair .HOST_CH_BYTES_LO .HOST_CH_BYTES_HI c = (s.descArrived c i b).pair .HOST_CH_BYTES_LO .HOST_CH_BYTES_HI c := by
    rw [hends.bytes, hmoved, Nat.add_zero, Nat.mod_eq_of_lt (State.pair_lt ..)]
  obtain ⟨hlo, hhi⟩ := words_of_pair hbytes
  have hkept : Kept s u [(.HOST_CH_HEAD, c), (.HOST_CH_STATUS, c), (.HOST_CH_CTRL, c)] [.host, .out] :=
    (harrived.trans ((hends.all.drop hlo).drop hhi)).weaken (by simp) (by simp)
  refine Runs.of_dma (f := fun s => s.descriptorFetch c [b]) rfl halone
    ((State.descriptorFetch_one hreads halone.waiting hfetch hrun).trans (hstep.trans hstill)) hkept (by decide) (by simp [calmRegs]) (by simp)
    hends.pieces (fun _ => hstill) fun t hq hk => ⟨SentOut.of_quiet hq ?_, ?_, ?_, ?_, ?_, ?_, ?_, hk⟩
  · rw [hends.sent, State.out_descArrived, State.statusOut, hbase', hindex, statusBytes, hmoved]
  · rw [hq.word_eq rfl, hends.head, harrived.regs _ _ rfl (by simp), hring, hindex, Nat.mod_eq_of_lt hsize]
  · rw [hq.f_eq rfl, ← hu, State.fault_dmaHalt, State.f_raise_same _ _ _ (by decide) (by decide)]
  · rw [hq.f_eq rfl, hstopped.1]
  · rw [State.funcState, hq.f_eq rfl]
    exact hstopped.2
  · rw [hq.dma_eq List.not_mem_nil, hends.descs]
  · rw [hq.host_eq List.not_mem_nil, ← hu, (State.host_dmaHalt ..).2, State.raise_host]
    rfl

end

end Sys2Proof.Machine
end

section
/-! PROOF. Completions and timeouts answer the reads of the host-memory window that wait for them (R368, R370). -/

namespace Sys2Proof.Machine

-- ------------------------------------------------------------------ updates of host memory's reads and of an NI

/-- A state stays calm where reads of host memory end and NIs hold the same of what may wait. -/
theorem SameWaits.calm_host {s u : State} {R : Regs} (h : SameWaits s u) (k : Kept s u R [.net, .host]) (hR : ∀ x ∈ R, x.1 ∉ calmRegs)
    (hpieces : u.host.pieces = s.host.pieces) (hdma : u.host.dma = s.host.dma) (hs : s.calm = true) : u.calm = true := by
  have hback : Kept s (u.putNet s.net) R [.host] := by
    refine ⟨k.part, k.pending, k.regs, fun a ha => ?_⟩
    by_cases hnet : a = .net
    · subst hnet
      exact rfl
    · have hkept := k.areas a (by simpa using ⟨hnet, by simpa using ha⟩)
      cases a
      case net => exact absurd rfl hnet
      all_goals exact hkept
  have hempty := (s.calm_iff.1 hs).2.2.2.2.1
  have hswithout : s.withoutDma.calm = true := by
    obtain ⟨hdue, hended, hresume, hpieces, -, hrest⟩ := s.calm_iff.1 hs
    exact s.calm_withoutDma.2 ⟨hdue, hended, hresume, hpieces, hrest⟩
  have hwithout := hback.withoutDma (by decide) hR hpieces hswithout
  have hcalm : (u.putNet s.net).calm = true := by
    obtain ⟨hdue, hended, hresume, hpieces, hrest⟩ := (State.calm_withoutDma _).1 hwithout
    exact (State.calm_iff _).2 ⟨hdue, hended, hresume, hpieces, hdma.trans hempty, hrest⟩
  exact SameWaits.calm_putNet (s := u.putNet s.net) (v := u.net) ⟨h.ended, h.nis⟩ hcalm

-- ------------------------------------------------------------------ a response that leaves at once (R205, R206, R254)

theorem Kept.statLatency (s : State) (n d : Nat) : Kept s (s.statLatency n 1 d) (statRegs n) [] := by
  unfold State.statLatency
  split
  · exact .start ..
  · have hbin : latencyBin d < 16 := by
      rw [latencyBin]
      split <;> omega
    have hmax : ((Reg.NI_STAT_LAT_MAX, 4 * n + 1) : Reg × Nat) ∈ statRegs n :=
      List.mem_append_left _ (List.mem_flatMap.2 ⟨1, by simp, by simp⟩)
    have hhist : ((Reg.NI_STAT_HIST, 16 * (4 * n + 1) + latencyBin d) : Reg × Nat) ∈ statRegs n :=
      List.mem_append_right _ (List.mem_map.2 ⟨16 + latencyBin d, List.mem_range.2 (by omega), by congr 1; omega⟩)
    exact ((Kept.setF ..).trans (Kept.bump ..)).weaken (by simp [hmax, hhist]) (by simp)

theorem State.statLatency_net (s : State) (n vn d : Nat) : (s.statLatency n vn d).net = s.net := by
  unfold State.statLatency
  split <;> rfl

theorem State.sendsNow_kept {s t : State} {R : Regs} {A : List Area} (k : Kept s t R A)
    (hR : ∀ x ∈ R, x.1 ≠ .CN_LINK_STATUS ∧ x.1 ≠ .CN_PORT_EN ∧ x.1 ≠ .NI_REG_CTRL) {n : Nat} (hheld : (t.ni n).held = (s.ni n).held)
    (vn : Nat) : t.sendsNow n vn = s.sendsNow n vn := by
  have hup : t.localUp n = s.localUp n := State.localUp_congr (fun r i hp hr => k.regs r i hp fun hx => by
    obtain ⟨hstatus, hport, -⟩ := hR _ hx
    exact hr.elim hstatus hport) n
  rw [State.sendsNow, hheld, State.on, k.f _ _ rfl fun hx => (hR _ hx).2.2 rfl, hup, State.sendsNow, State.on]

/-- A packet of VN1 that answers leaves at once, its latency counted. -/
theorem State.send_answer {s : State} {p : Packet} (hvn : p.vn = 1) (hcmd : nonPosted p.cmd = false) (hnow : s.sendsNow p.src 1 = true) :
    s.send p = (s.statLatency p.src 1 (s.since32 p.injTime)).sentAt p := by
  have hsends := hnow
  simp only [State.sendsNow, Bool.and_eq_true, Bool.not_eq_true'] at hnow
  obtain ⟨⟨hheld, hreg⟩, hup⟩ := hnow
  have hleaves : s.mayLeave p = true := by simp [State.mayLeave, State.regulatorOpen, hvn, hreg]
  have hrelease : s.release p = s.inject p := by simp [State.release, State.charge, hvn, hreg]
  have hcounted := Kept.statLatency s p.src (s.since32 p.injTime)
  have hnowSame : (s.statLatency p.src 1 (s.since32 p.injTime)).now = s.now := hcounted.now (by decide)
  have hup' : ((s.statLatency p.src 1 (s.since32 p.injTime)).statSent p.src p.vn (packetUnits p) (packetBytes p)).localUp p.src = true := by
    rw [State.localUp_congr (s := s) fun r i hp hr =>
      (hcounted.trans (Kept.statSent _ (by omega) (packetUnits p) (packetBytes p))).regs r i hp fun hx => ?_]
    · exact hup
    · have hin : (r, i) ∈ statRegs p.src := by simpa using hx
      rcases hr with rfl | rfl
      · exact (statRegs_link hin).1 rfl
      · exact (statRegs_link hin).2.1 rfl
  have hunits (w : Word) : packetUnits { p with injTime := w } = packetUnits p := rfl
  have hbytes (w : Word) : packetBytes { p with injTime := w } = packetBytes p := rfl
  rw [State.send, if_pos (by simp [hvn, hheld, hleaves]), hrelease]
  simp only [State.inject, if_pos hvn, hunits, hbytes, hup', hcmd, Bool.false_eq_true, if_false, if_true, State.sentAt]

/-- From s to u the target of a request answered it, and its packet's units stand behind those that the link has still to take. -/
structure Responds (s u : State) (q : Packet) : Prop where
  kept : Kept s u (statRegs q.src) [.net]
  ended : u.net.ended = s.net.ended
  others : OtherNis s u q.src
  ni : u.ni q.src = { s.ni q.src with out := (s.ni q.src).out ++ unitsOf { q with injTime := s.now.setWidth 32 } }

theorem Responds.of_respond {s : State} {q : Packet} {answer : Cmd} {err : Nat} {operand : DWord} {data : List Byte} {since : DWord}
    (hvalid : entryValid (s.activeEntry q.dest q.src) = true) (hnow : s.sendsNow q.dest 1 = true) (hcmd : nonPosted answer = false) :
    Responds s (s.respond q answer err operand data since) (s.answerTo q answer err operand data) := by
  generalize hp : responsePacket q (entryRoute (s.activeEntry q.dest q.src)) answer err operand data ((since + s.timeOffset).setWidth 32) false = p
  have hsrc : p.src = q.dest := hp ▸ rfl
  have hvn : p.vn = 1 := hp ▸ rfl
  have hpcmd : nonPosted p.cmd = false := hp ▸ hcmd
  have hsame (w : Word) : { p with injTime := w } = { s.answerTo q answer err operand data with injTime := w } := hp ▸ rfl
  have hcounted := Kept.statLatency s q.dest (s.since32 p.injTime)
  have hni := State.ni_congr (s.statLatency_net q.dest 1 (s.since32 p.injTime))
  have heq : s.respond q answer err operand data since = (s.statLatency q.dest 1 (s.since32 p.injTime)).sentAt p := by
    rw [State.respond, if_neg (by simp [hvalid]), hp, State.send_answer hvn hpcmd (by rw [hsrc]; exact hnow), hsrc]
  have hfinal : (s.answerTo q answer err operand data).src = p.src := hsrc.symm
  rw [heq]
  refine ⟨?_, ?_, ?_, ?_⟩
  · rw [hfinal]
    exact ((hcounted.weaken (by rw [hsrc]; exact List.Subset.refl _) (by simp)).via (Kept.sentAt _ (by omega)) (List.Subset.refl _) (by simp))
  · rw [State.ended_sentAt, State.statLatency_net]
  · intro m hm
    rw [State.ni_sentAt, if_neg (by rw [← hfinal]; exact hm), hni]
  · rw [State.ni_sentAt, if_pos hfinal, hni, hcounted.now (by decide), hsame]

-- ------------------------------------------------------------------ the request that the answer ends (R225, R370)

/-- Before its answer a request delivered to NI n is taken, and reads of host memory may have ended. -/
structure Taken (s v : State) (n : Nat) (R : Regs) : Prop where
  kept : Kept s v R [.net, .host]
  regs : R ⊆ [(.HOST_STATUS, 0), (.HOST_WIN_ERR, 0)]
  ended : v.net.ended = s.net.ended
  others : OtherNis s v n
  ni : v.ni n = { s.ni n with delivered := [] }
  pieces : v.host.pieces = s.host.pieces
  dma : v.host.dma = s.host.dma
  reads : v.host.reads = [] ∧ v.host.windowReads = []

namespace Taken
variable {s v : State} {n : Nat} {R : Regs} (h : Taken s v n R)
include h

theorem unlisted {r : Reg} (h1 : r ≠ .HOST_STATUS) (h2 : r ≠ .HOST_WIN_ERR) (i : Nat) : (r, i) ∉ R := by
  intro hr
  have hin := h.regs hr
  simp [h1, h2] at hin

theorem notHost : ∀ x ∈ R, x.1 = .HOST_STATUS ∨ x.1 = .HOST_WIN_ERR := by
  intro x hx
  have hin := h.regs hx
  simp only [List.mem_cons, List.not_mem_nil, or_false] at hin
  rcases hin with rfl | rfl <;> simp

theorem activeEntry (d : Nat) : v.activeEntry n d = s.activeEntry n d := by
  have hroutes : (v.ni n).routes = (s.ni n).routes := by rw [h.ni]
  rw [State.activeEntry, State.entry, hroutes, h.kept.part, State.activeBank, h.kept.f _ _ rfl (h.unlisted (by decide) (by decide) _),
    State.activeEntry, State.entry, State.activeBank]

theorem sendsNow (vn : Nat) : v.sendsNow n vn = s.sendsNow n vn := by
  refine State.sendsNow_kept h.kept (fun x hx => ?_) (by rw [h.ni]) vn
  rcases h.notHost x hx with hr | hr <;> simp [hr]

/-- The registers of host memory's flags, again set. -/
theorem step {w : State} {R' : Regs} (k : Kept v w R' []) (hR : R' ⊆ [(.HOST_STATUS, 0), (.HOST_WIN_ERR, 0)]) : Taken s w n (R ++ R') where
  kept := (h.kept.trans k).weaken (List.Subset.refl _) (by simp)
  regs := List.append_subset.2 ⟨h.regs, hR⟩
  ended := (congrArg NetState.ended (k.areas .net List.not_mem_nil)).trans h.ended
  others m hm := (congrFun (State.ni_congr (k.areas .net List.not_mem_nil)) m).trans (h.others m hm)
  ni := (congrFun (State.ni_congr (k.areas .net List.not_mem_nil)) n).trans h.ni
  pieces := (congrArg HostState.pieces (k.host_eq List.not_mem_nil)).trans h.pieces
  dma := (congrArg HostState.dma (k.host_eq List.not_mem_nil)).trans h.dma
  reads := by
    rw [k.host_eq List.not_mem_nil]
    exact h.reads

/-- Flags of host memory set before. -/
theorem before {s0 : State} {R0 : Regs} (k : Kept s0 s R0 []) (hR : R0 ⊆ [(.HOST_STATUS, 0), (.HOST_WIN_ERR, 0)]) : Taken s0 v n (R0 ++ R) where
  kept := (k.trans h.kept).weaken (List.Subset.refl _) (by simp)
  regs := List.append_subset.2 ⟨hR, h.regs⟩
  ended := h.ended.trans (congrArg NetState.ended (k.areas .net List.not_mem_nil))
  others m hm := (h.others m hm).trans (congrFun (State.ni_congr (k.areas .net List.not_mem_nil)) m)
  ni := by rw [h.ni, State.ni_congr (k.areas .net List.not_mem_nil)]
  pieces := h.pieces.trans (congrArg HostState.pieces (k.host_eq List.not_mem_nil))
  dma := h.dma.trans (congrArg HostState.dma (k.host_eq List.not_mem_nil))
  reads := h.reads

end Taken

/-- What a command shows whose effect is an answer to a request that waited for host memory. -/
theorem Runs.answers {i : Instr} {s v : State} {f : State → State} {q : Packet} {answer : Cmd} {err : Nat} {operand : DWord}
    {data : List Byte} {since : DWord} {R : Regs} (hc : exec i s = s.command f) (hs : s.ready = true)
    (hf : f s = v.respond q answer err operand data since) (h : Taken s v q.dest R)
    (hvalid : entryValid (s.activeEntry q.dest q.src) = true) (hnow : s.sendsNow q.dest 1 = true) (hcmd : nonPosted answer = false) :
    Runs i s fun t =>
      (Sent s t (s.answerTo q answer err operand data) ∧ (t.ni q.dest).delivered = [] ∧ OtherNis s t q.dest ∧
        t.host.reads = [] ∧ t.host.windowReads = []) ∧
      (∀ F : Fld, F.reg ∈ [Reg.HOST_STATUS, .HOST_WIN_ERR] → t.f F 0 = v.f F 0) ∧ Kept s t (R ++ statRegs q.dest) [.net, .host] := by
  have hanswer : v.answerTo q answer err operand data = s.answerTo q answer err operand data := by
    rw [State.answerTo, h.activeEntry, State.answerTo]
  have hres := Responds.of_respond (s := v) (q := q) (answer := answer) (err := err) (operand := operand) (data := data) (since := since)
    (by rw [h.activeEntry]; exact hvalid) (by rw [h.sendsNow]; exact hnow) hcmd
  rw [hanswer] at hres
  generalize hu : v.respond q answer err operand data since = u at *
  have hkept : Kept s u (R ++ statRegs q.dest) [.net, .host] := (h.kept.trans hres.kept).weaken (List.Subset.refl _) (by simp)
  have hhost : u.host = v.host := hres.kept.host_eq (by decide)
  have hni : u.ni q.dest = { s.ni q.dest with
      delivered := [], out := (s.ni q.dest).out ++ unitsOf { s.answerTo q answer err operand data with injTime := v.now.setWidth 32 } } := by
    have hafter := hres.ni
    have hdest : (s.answerTo q answer err operand data).src = q.dest := rfl
    rw [hdest, h.ni] at hafter
    exact hafter
  have hothers : OtherNis s u q.dest := fun m hm => (hres.others m hm).trans (h.others m hm)
  have hwaits : SameWaits s u := by
    refine ⟨hres.ended.trans h.ended, fun m => ?_⟩
    by_cases hm : m = q.dest
    · subst hm
      rw [hni]
      exact ⟨rfl, rfl, rfl, rfl, rfl, rfl, rfl, rfl, rfl⟩
    · rw [hothers m hm]
      exact .refl _
  have hregs : ∀ x ∈ R ++ statRegs q.dest, x.1 ∉ calmRegs := by
    intro x hx
    rcases List.mem_append.1 hx with hx | hx
    · rcases h.notHost x hx with hr | hr <;> simp [hr, calmRegs]
    · exact (statRegs_link hx).2.2
  refine Runs.of_calmEffect (R := R ++ statRegs q.dest) (A := [.net, .host]) (f := f) hc hs hf hkept
    (hwaits.calm_host hkept hregs ((congrArg HostState.pieces hhost).trans h.pieces) ((congrArg HostState.dma hhost).trans h.dma))
    fun t hq hk => ?_
  have hafter : t.ni = u.ni := State.ni_congr (hq.areas .net List.not_mem_nil)
  have hnowt : t.now = v.now := hq.now_eq.trans (hres.kept.now (by decide))
  have hreads : t.host.reads = [] ∧ t.host.windowReads = [] := by
    rw [hq.host_eq List.not_mem_nil, hhost]
    exact h.reads
  refine ⟨⟨?_, ?_, fun m hm => ?_, hreads⟩, fun F hF => ?_, hk⟩
  · have hdest : (s.answerTo q answer err operand data).src = q.dest := rfl
    rw [Sent, hafter, hdest, hni, hnowt]
    rfl
  · rw [hafter, hni]
  · rw [hafter, hothers m hm]
  · have hstat : (F.reg, 0) ∉ statRegs q.dest := by
      simp only [List.mem_cons, List.not_mem_nil, or_false] at hF
      rcases hF with hr | hr <;> simp [hr, statRegs]
    have hpend : isPend F.reg = false := by
      simp only [List.mem_cons, List.not_mem_nil, or_false] at hF
      rcases hF with hr | hr <;> simp [hr, isPend]
    rw [hq.f_eq hpend, hres.kept.f F 0 hpend hstat]

-- ------------------------------------------------------------------ reads of the window (R370)

/-- A window read of one piece has ended, and its request is taken off the list of those that wait for an answer. -/
def State.windowTaken (s : State) (n : Nat) : State :=
  let s := s.readsGone.putHost { s.readsGone.host with windowReads := [] }
  s.setNi n { s.ni n with delivered := [] }

theorem Taken.windowTaken (s : State) (n : Nat) : Taken s (s.windowTaken n) n [] where
  kept := (((Kept.putHost s { s.host with reads := [] }).trans (Kept.putHost ..)).trans (Kept.setNi ..)).weaken (by simp) (by simp)
  regs := by simp
  ended := rfl
  others m hm := (State.ni_setNi ..).trans (if_neg hm)
  ni := (State.ni_setNi ..).trans (if_pos rfl)
  pieces := rfl
  dma := rfl
  reads := ⟨rfl, rfl⟩

/-- The answer to the only request delivered. -/
theorem State.answerDelivered_one {s : State} {d : Delivered} (hdel : (s.ni d.packet.dest).delivered = [d]) (g : State → DWord → State) :
    s.answerDelivered d.packet g = g (s.setNi d.packet.dest { s.ni d.packet.dest with delivered := [] }) d.from' := by
  have hfind : [d].find? (·.packet == d.packet) = some d := by simp
  have herase : [d].erase d = [] := by simp
  rw [State.answerDelivered, hdel, hfind]
  dsimp only
  rw [herase]

/-- The one piece of the only window read comes, or fails. -/
theorem State.windowAnswer_one {s : State} {p : Packet} {a len : Nat} (h : s.host.windowReads = [(p, ⟨[(a, len)], [], false⟩)])
    (data : Option (List Byte)) : s.windowAnswer p a data =
      (s.putHost { s.host with windowReads := [] }).answerDelivered p fun s since =>
        if data.isNone then s.windowFail p 0xE002 since else s.respond p .rspData 0 0 (data.getD []) since := by
  have hfind : [(p, (⟨[(a, len)], [], false⟩ : Parts))].find? (·.1 == p) = some (p, ⟨[(a, len)], [], false⟩) := by simp
  have hothers : [(p, (⟨[(a, len)], [], false⟩ : Parts))].filter (·.1 != p) = [] := by simp
  have hcomplete : ((⟨[(a, len)], [], false⟩ : Parts).add a data).complete = true := by simp [Parts.add, Parts.complete]
  have hbytes : ((⟨[(a, len)], [], false⟩ : Parts).add a data).bytes = data.getD [] := by simp [Parts.add, Parts.bytes]
  have hfailed : ((⟨[(a, len)], [], false⟩ : Parts).add a data).failed = data.isNone := by simp [Parts.add]
  rw [State.windowAnswer, h, hfind]
  dsimp only
  rw [hothers, if_pos hcomplete, hbytes, hfailed]

section
variable {s : State} {tag a len : Nat} {d : Delivered} (hreads : s.host.reads = [⟨tag, .window d.packet, a, len⟩])
  (hwait : s.host.readsWaiting = []) (hwindow : s.host.windowReads = [(d.packet, ⟨[(a, len)], [], false⟩)])
  (hdel : (s.ni d.packet.dest).delivered = [d])
include hreads hwait hwindow hdel

/-- The one piece of a window read is answered, and its request with it. -/
theorem State.hostAnswer_window (x : List Byte ⊕ Nat) : s.hostAnswer tag x =
    match x with
    | .inl bytes => (s.windowTaken d.packet.dest).respond d.packet .rspData 0 0 (bytes.take len) d.from'
    | .inr _ => (s.windowTaken d.packet.dest).windowFail d.packet 0xE002 d.from' := by
  have hfree : s.hostFree tag = s.readsGone := by
    rw [State.hostFree, hreads]
    simp [hwait, State.readsGone]
  have hone (data : Option (List Byte)) := (State.windowAnswer_one (s := s.readsGone) hwindow data).trans
    (State.answerDelivered_one (s := s.readsGone.putHost { s.readsGone.host with windowReads := [] }) hdel _)
  have hfind : [(⟨tag, .window d.packet, a, len⟩ : HostRead)].find? (·.tag == tag) = some ⟨tag, .window d.packet, a, len⟩ := by simp
  rw [State.hostAnswer, hreads, hfind]
  dsimp only
  rw [hfree]
  cases x with
  | inl bytes => exact hone (some (bytes.take len))
  | inr detail => exact hone none

theorem Runs.windowData (hs : s.ready = true) {bytes : List Byte} (hlen : bytes.length = len)
    (hvalid : entryValid (s.activeEntry d.packet.dest d.packet.src) = true) (hnow : s.sendsNow d.packet.dest 1 = true) :
    Runs (.hostCompletion tag (.data bytes)) s fun t =>
      Sent s t (s.answerTo d.packet .rspData 0 0 bytes) ∧ (t.ni d.packet.dest).delivered = [] ∧ OtherNis s t d.packet.dest ∧
      t.host.reads = [] ∧ t.host.windowReads = [] ∧ Kept s t (statRegs d.packet.dest) [.net, .host] := by
  have hf : s.hostCompletion tag (.data bytes) = (s.windowTaken d.packet.dest).respond d.packet .rspData 0 0 bytes d.from' := by
    rw [State.hostCompletion, hreads, if_neg (by simp)]
    refine (State.hostAnswer_window hreads hwait hwindow hdel (.inl bytes)).trans ?_
    dsimp only
    rw [← hlen, List.take_length]
  refine (Runs.answers (f := fun s => s.hostCompletion tag (.data bytes)) rfl hs hf (Taken.windowTaken s _) hvalid hnow rfl).imp
    fun t ⟨hstep, hanswer, _, hk⟩ => ⟨hstep, ?_⟩
  obtain ⟨hsent, hdelivered, hothers, hgone, hwindows⟩ := hanswer
  exact ⟨hsent, hdelivered, hothers, hgone, hwindows, hk⟩

theorem Runs.windowTimeout (hs : s.ready = true) (hrd : d.packet.cmd = .rd)
    (hvalid : entryValid (s.activeEntry d.packet.dest d.packet.src) = true) (hnow : s.sendsNow d.packet.dest 1 = true) :
    Runs (.completionTimeout tag) s fun t =>
      Sent s t (s.answerTo d.packet .rspErr 7 0xE002 []) ∧ (t.ni d.packet.dest).delivered = [] ∧ OtherNis s t d.packet.dest ∧
      t.f F.HOST_STATUS_AER_UNCORR 0 = 1 ∧ t.f F.HOST_STATUS_WIN_ERR 0 = 1 ∧
      t.f F.HOST_WIN_ERR_ANSWERED 0 = s.counted F.HOST_WIN_ERR_ANSWERED 0 1 ∧ t.host.reads = [] ∧ t.host.windowReads = [] ∧
      Kept s t (([(.HOST_STATUS, 0), (.HOST_WIN_ERR, 0)] : Regs) ++ statRegs d.packet.dest) [.net, .host] := by
  have hlogged := Kept.raise s F.HOST_STATUS_AER_UNCORR 0
  have htaken := Taken.windowTaken (s.raise F.HOST_STATUS_AER_UNCORR 0) d.packet.dest
  have hraised := Kept.raise ((s.raise F.HOST_STATUS_AER_UNCORR 0).windowTaken d.packet.dest) F.HOST_STATUS_WIN_ERR 0
  have hbumped := Kept.bump (((s.raise F.HOST_STATUS_AER_UNCORR 0).windowTaken d.packet.dest).raise F.HOST_STATUS_WIN_ERR 0)
    F.HOST_WIN_ERR_ANSWERED 0 1
  have hf : s.completionTimeout tag =
      ((((s.raise F.HOST_STATUS_AER_UNCORR 0).windowTaken d.packet.dest).raise F.HOST_STATUS_WIN_ERR 0).bump F.HOST_WIN_ERR_ANSWERED 0 1).respond
        d.packet .rspErr 7 0xE002 [] d.from' := by
    rw [State.completionTimeout, hreads, if_neg (by simp)]
    refine (State.hostAnswer_window (s := s.raise F.HOST_STATUS_AER_UNCORR 0) hreads hwait hwindow hdel (.inr 3)).trans ?_
    dsimp only
    rw [State.windowFail]
    exact if_pos (by rw [hrd]; rfl)
  have hall := ((htaken.step hraised (by simp)).step hbumped (by simp)).before hlogged (by simp)
  refine (Runs.answers (f := fun s => s.completionTimeout tag) rfl hs hf hall hvalid hnow rfl).imp fun t ⟨hstep, hanswer, hflags, hk⟩ =>
    ⟨hstep, ?_⟩
  obtain ⟨hsent, hdelivered, hothers, hgone, hwindows⟩ := hanswer
  refine ⟨hsent, hdelivered, hothers, ?_, ?_, ?_, hgone, hwindows, hk.weaken (by simp) (List.Subset.refl _)⟩
  · rw [hflags _ (by decide), hbumped.f _ _ rfl (by simp), State.raise, State.f_setF_otherField _ (by decide) (by decide),
      htaken.kept.f _ _ rfl (by simp), State.f_raise_same _ _ _ (by decide) (by decide)]
  · rw [hflags _ (by decide), hbumped.f _ _ rfl (by simp), State.f_raise_same _ _ _ (by decide) (by decide)]
  · rw [hflags _ (by decide), State.bump, State.f_setF_same _ _ _ _ (by decide), hraised.f _ _ rfl (by simp),
      htaken.kept.f _ _ rfl (by simp), hlogged.f _ _ rfl (by simp), State.counted,
      Nat.mod_eq_of_lt (lt_of_le_of_lt (Nat.min_le_left _ _) (by decide))]

end

end Sys2Proof.Machine
end

section
/-! PROOF. Host DMA: descriptors fetched, executed, written back, and their messages (R364, R365, R366, R367, R368, R370). -/

namespace Sys2Proof.Machine

/-- Settles O38: after each command the channel rests, since its fetch or its read waits for the host or nothing more is posted, so the
engines add nothing; an answer to a window read takes its request off the NI and lets nothing else go on. -/
theorem hostDma : Obligations.HostDma := by
  refine ⟨?_, ?_, ?_, ?_, ?_, ?_, ?_, ?_⟩
  · intro s who c tag data hs halone hrun hsize hhead htag
    exact Runs.tailFetched hs (.of_dmaAlone halone) hrun hsize hhead htag
  · intro s who c data hs hc hsize
    exact Runs.tailRefused hs hc hsize
  · intro s c i a tag b halone hc hrun hreads hdescs hfetch hhead _ htail hfits hpiece
    exact Runs.descriptorExecutes (.of_dmaAlone halone) hrun hreads hdescs hfetch hhead htail hc hfits hpiece
  · intro s c d halone hdescs _ _ _ hdone hirq hhalt htail hkeep hbase hpiece
    refine (Runs.descriptorComplete (.of_dmaAlone halone) hdescs hdone htail hirq hhalt hkeep hbase hpiece).imp
      fun t ⟨hstep, hends, hfailed, hclean, hkept⟩ => ⟨hstep, ?_⟩
    obtain ⟨hgone, hmoved, hsent, hbytes⟩ := hends
    exact ⟨hgone, hmoved, hsent, hbytes, hfailed, hclean, hkept⟩
  · intro s c t0 halone hempty hdue hlast
    exact Runs.holdoff (.of_dmaAlone halone) hempty hdue hlast
  · intro s c i a tag b halone hrun hreads hdescs hfetch _ hsize _ hbad hirq hbase hpiece
    exact Runs.descriptorBad (.of_dmaAlone halone) hrun hreads hdescs hfetch hsize hbad hirq hbase hpiece
  · intro s tag a d bytes hs hreads hwait hwindow hdel hvalid hnow
    exact Runs.windowData hreads hwait hwindow hdel hs rfl hvalid hnow
  · intro s tag a len d hs hreads hwait hwindow hrd hdel hvalid hnow
    exact Runs.windowTimeout hreads hwait hwindow hdel hs hrd hvalid hnow

end Sys2Proof.Machine
end
